-- ==== Sys2Proof/Word.lean ====
section
/-! DEFINITION. The word of the logic die (R1) and the operand records of commands. -/

namespace Sys2Proof

/-- R1: the word on the logic die is 36 bits wide. -/
abbrev Word := BitVec 36

/-- R2: every address is a 32-bit word address. -/
abbrev Addr := BitVec 32

/-- R6: owner IDs are 8 bits wide. -/
abbrev Owner := BitVec 8

/-- What a start finds outside the state: the cores and engines that pass LBIST (a cold start runs it), whether DDR4 trains,
whether the last line of the record store reads below margin, whether the TRNG health test passes and OTP reads without
error, Tj in 0.125 °C, and the twelve VIOG voltages in mV. -/
structure StartIn where
  cores   : BitVec 8
  engines : BitVec 24
  ddr     : Bool
  weak    : Bool
  trng    : Bool
  otp     : Bool
  tj      : BitVec 12
  vio     : List (BitVec 13)
deriving DecidableEq, Repr

/-- R405: what the debug TAP is given beside EXTEST and BUSACC: BYPASS, IDCODE, SAMPLE/PRELOAD with the levels its pins have, or a
reset by TRSTn or Test-Logic-Reset. -/
inductive TapOp where
  | bypass
  | idcode
  | sample (levels : List Bool)
  | reset
deriving DecidableEq, Repr

/-- R409 to R411: a frame that arrives on a MAC: an ARP request or a neighbour solicitation for an address; an ICMP echo
request (IP version 6 or 4, source, destination, octets); a UDP datagram or a fragment of one (IP version 6 or 4, source,
destination, identification, offset in octets, more to come, octets of the IP payload: the UDP header comes first); anything
else. -/
inductive MacFrame where
  | arp (target : BitVec 32)
  | nd (target : BitVec 128)
  | echo (v6 : Bool) (src dst : BitVec 128) (data : List (BitVec 8))
  | udp (v6 : Bool) (src dst : BitVec 128) (ident : BitVec 32) (off : BitVec 16) (more : Bool) (data : List (BitVec 8))
  | other
deriving DecidableEq, Repr

end Sys2Proof
end

