-- ==== Sys2Proof/Syntax.lean ====
section
/-! DEFINITION. The commands of the block: one constructor per row of spec/opcode_table.json, the instructions
of a core first and then the others, in its order. Operands are what
the row's event brings from outside the state: who acts, on which instance, and the values carried. -/

namespace Sys2Proof

inductive Instr where
  /-- ILLEGAL (R189). A core meets a reserved major opcode (0), a reserved F, SYS subop or CFN (1), or COND 15 (2). -/
  | illegal (c : Fin 8) (why : Fin 3)
  /-- ADD (R195). D := A + B. -/
  | add (c : Fin 8) (d a b : Fin 32) (sf : Bool)
  /-- ADC (R195). D := A + B + C. -/
  | adc (c : Fin 8) (d a b : Fin 32) (sf : Bool)
  /-- SUB (R195). D := A − B. -/
  | sub (c : Fin 8) (d a b : Fin 32) (sf : Bool)
  /-- SBC (R195). D := A − B − C. -/
  | sbc (c : Fin 8) (d a b : Fin 32) (sf : Bool)
  /-- AND (R195). D := A and B. -/
  | and (c : Fin 8) (d a b : Fin 32) (sf : Bool)
  /-- OR (R195). D := A or B. -/
  | or (c : Fin 8) (d a b : Fin 32) (sf : Bool)
  /-- XOR (R195). D := A xor B. -/
  | xor (c : Fin 8) (d a b : Fin 32) (sf : Bool)
  /-- ANDN (R195). D := A and not B. -/
  | andn (c : Fin 8) (d a b : Fin 32) (sf : Bool)
  /-- SHL (R195). D := A shifted left by B bits 5:0. -/
  | shl (c : Fin 8) (d a b : Fin 32) (sf : Bool)
  /-- SHR (R195). D := A shifted right logically by B bits 5:0. -/
  | shr (c : Fin 8) (d a b : Fin 32) (sf : Bool)
  /-- SAR (R195). D := A shifted right arithmetically by B bits 5:0. -/
  | sar (c : Fin 8) (d a b : Fin 32) (sf : Bool)
  /-- ROL (R195). D := A rotated left by B bits 5:0, modulo 36. -/
  | rol (c : Fin 8) (d a b : Fin 32) (sf : Bool)
  /-- SHLK (R195). D := A shifted left by K. -/
  | shlk (c : Fin 8) (d a : Fin 32) (k : BitVec 6) (sf : Bool)
  /-- SHRK (R195). D := A shifted right logically by K. -/
  | shrk (c : Fin 8) (d a : Fin 32) (k : BitVec 6) (sf : Bool)
  /-- SARK (R195). D := A shifted right arithmetically by K. -/
  | sark (c : Fin 8) (d a : Fin 32) (k : BitVec 6) (sf : Bool)
  /-- ROLK (R195). D := A rotated left by K. -/
  | rolk (c : Fin 8) (d a : Fin 32) (k : BitVec 6) (sf : Bool)
  /-- CMP (R195). flags of A − B. -/
  | cmp (c : Fin 8) (a b : Fin 32)
  /-- TST (R195). flags of A and B. -/
  | tst (c : Fin 8) (a b : Fin 32)
  /-- MIN (R195). D := the smaller of A and B, signed. -/
  | min (c : Fin 8) (d a b : Fin 32) (sf : Bool)
  /-- MAX (R195). D := the larger of A and B, signed. -/
  | max (c : Fin 8) (d a b : Fin 32) (sf : Bool)
  /-- MINU (R195). D := the smaller of A and B, unsigned. -/
  | minu (c : Fin 8) (d a b : Fin 32) (sf : Bool)
  /-- MAXU (R195). D := the larger of A and B, unsigned. -/
  | maxu (c : Fin 8) (d a b : Fin 32) (sf : Bool)
  /-- MOV (R195). D := A. -/
  | mov (c : Fin 8) (d a : Fin 32) (sf : Bool)
  /-- NOT (R195). D := not A. -/
  | not (c : Fin 8) (d a : Fin 32) (sf : Bool)
  /-- NEG (R195). D := 0 − A; −2^35 stays −2^35. -/
  | neg (c : Fin 8) (d a : Fin 32) (sf : Bool)
  /-- ABS (R195). D := the absolute value of A; −2^35 stays −2^35 and sets V. -/
  | abs (c : Fin 8) (d a : Fin 32) (sf : Bool)
  /-- CLZ (R195). D := the leading zeros of A. -/
  | clz (c : Fin 8) (d a : Fin 32) (sf : Bool)
  /-- POPC (R195). D := the count of ones in A. -/
  | popc (c : Fin 8) (d a : Fin 32) (sf : Bool)
  /-- SEL (R195). D := A where condition K[3:0] holds, else B. -/
  | sel (c : Fin 8) (d a b : Fin 32) (k : BitVec 6)
  /-- EXH (R195). D := half K[0] of A, sign-extended if K[1] = 1, else zero-extended. -/
  | exh (c : Fin 8) (d a : Fin 32) (k : BitVec 6) (sf : Bool)
  /-- INSH (R195). half K[0] of D := A[17:0]. -/
  | insh (c : Fin 8) (d a : Fin 32) (k : BitVec 6) (sf : Bool)
  /-- SWAPH (R195). D := A with its halves exchanged. -/
  | swaph (c : Fin 8) (d a : Fin 32) (sf : Bool)
  /-- ADDH (R195). each half of D := the sum of the matching halves, modulo 2^18. -/
  | addh (c : Fin 8) (d a b : Fin 32)
  /-- EXB (R195). D := octet K[1:0] of A, zero-extended. -/
  | exb (c : Fin 8) (d a : Fin 32) (k : BitVec 6) (sf : Bool)
  /-- INB (R195). octet K[1:0] of D := A[7:0]; D[35:32] := 0. -/
  | inb (c : Fin 8) (d a : Fin 32) (k : BitVec 6) (sf : Bool)
  /-- BSWAP (R195). D[31:0] := the octets of A[31:0] in reverse order; D[35:32] := 0. -/
  | bswap (c : Fin 8) (d a : Fin 32) (sf : Bool)
  /-- ADDF (R195). D := A + B saturated. -/
  | addf (c : Fin 8) (d a b : Fin 32) (sf : Bool)
  /-- SUBF (R195). D := A − B saturated. -/
  | subf (c : Fin 8) (d a b : Fin 32) (sf : Bool)
  /-- NEGF (R195). D := −A saturated. -/
  | negf (c : Fin 8) (d a : Fin 32) (sf : Bool)
  /-- ABSF (R195). D := the absolute value of A saturated. -/
  | absf (c : Fin 8) (d a : Fin 32) (sf : Bool)
  /-- SHLF (R195). D := A × 2^K saturated. -/
  | shlf (c : Fin 8) (d a : Fin 32) (k : BitVec 6) (sf : Bool)
  /-- ADDD (R195). pair D := pair A + pair B. -/
  | addd (c : Fin 8) (d a b : Fin 32) (sf : Bool)
  /-- SUBD (R195). pair D := pair A − pair B. -/
  | subd (c : Fin 8) (d a b : Fin 32) (sf : Bool)
  /-- MOVD (R195). pair D := pair A. -/
  | movd (c : Fin 8) (d a : Fin 32) (sf : Bool)
  /-- CMPD (R195). flags of pair A − pair B. -/
  | cmpd (c : Fin 8) (a b : Fin 32)
  /-- MFS (R187). D := the status word. -/
  | mfs (c : Fin 8) (d : Fin 32)
  /-- MTS (R187). Z, N, C and V := A[0] to A[3]. -/
  | mts (c : Fin 8) (a : Fin 32)
  /-- ADDI (R196). D := A + sx(IMM20). -/
  | addi (c : Fin 8) (d a : Fin 32) (imm : BitVec 20)
  /-- ANDI (R196). D := A and IMM20. -/
  | andi (c : Fin 8) (d a : Fin 32) (imm : BitVec 20)
  /-- ORI (R196). D := A or IMM20. -/
  | ori (c : Fin 8) (d a : Fin 32) (imm : BitVec 20)
  /-- XORI (R196). D := A xor IMM20. -/
  | xori (c : Fin 8) (d a : Fin 32) (imm : BitVec 20)
  /-- CMPI (R196). flags of A − sx(IMM20). -/
  | cmpi (c : Fin 8) (a : Fin 32) (imm : BitVec 20)
  /-- MOVI (R196). D := sx(IMM20). -/
  | movi (c : Fin 8) (d : Fin 32) (imm : BitVec 20)
  /-- LIH (R196). D := IMM20 × 2^16. -/
  | lih (c : Fin 8) (d : Fin 32) (imm : BitVec 20)
  /-- BFX (R196). D := a bit field of A, right-aligned. -/
  | bfx (c : Fin 8) (d a : Fin 32) (imm : BitVec 20)
  /-- BFI (R196). a bit field of D := the low bits of A. -/
  | bfi (c : Fin 8) (d a : Fin 32) (imm : BitVec 20)
  /-- LEA (R197). D := the effective address of R197. -/
  | lea (c : Fin 8) (d a : Fin 32) (imm : BitVec 20)
  /-- MOVL (R196). D := X. -/
  | movl (c : Fin 8) (d : Fin 32) (x : Word)
  /-- ADDL (R196). D := A + X. -/
  | addl (c : Fin 8) (d a : Fin 32) (x : Word)
  /-- LOOP (R202). The next IMM20[5:0] words are repeated with A as count register. -/
  | loop (c : Fin 8) (a : Fin 32) (imm : BitVec 20)
  /-- LOOP_BACK_EDGE (R202). The word at last of the active loop has completed in its window. -/
  | loopBackEdge (c : Fin 8)
  /-- LD (R198). D := the word at A + sx(IMM20). -/
  | ld (c : Fin 8) (d a : Fin 32) (imm : BitVec 20)
  /-- ST (R198). The word at A + sx(IMM20) := D. -/
  | st (c : Fin 8) (d a : Fin 32) (imm : BitVec 20)
  /-- LDD (R199). Pair D := the double at A + sx(IMM20). -/
  | ldd (c : Fin 8) (d a : Fin 32) (imm : BitVec 20)
  /-- STD (R200). The double at A + sx(IMM20) := pair D. -/
  | std (c : Fin 8) (d a : Fin 32) (imm : BitVec 20)
  /-- LDL (R198). D := the word at X. -/
  | ldl (c : Fin 8) (d : Fin 32) (x : Word)
  /-- STL (R198). The word at X := D. -/
  | stl (c : Fin 8) (d : Fin 32) (x : Word)
  /-- LDDL (R199). Pair D := the double at X. -/
  | lddl (c : Fin 8) (d : Fin 32) (x : Word)
  /-- STDL (R199). The double at X := pair D. -/
  | stdl (c : Fin 8) (d : Fin 32) (x : Word)
  /-- BR (R201). A branch by DISP26 where COND holds. -/
  | br (c : Fin 8) (cond : BitVec 4) (disp : BitVec 26)
  /-- CALLW (R201). A call by DISP26 where COND holds. -/
  | callw (c : Fin 8) (cond : BitVec 4) (disp : BitVec 26)
  /-- JMPR (R201). A jump to A. -/
  | jmpr (c : Fin 8) (a : Fin 32)
  /-- CALLWR (R201). A call of A. -/
  | callwr (c : Fin 8) (a : Fin 32)
  /-- JMPL (R201). A jump to X. -/
  | jmpl (c : Fin 8) (x : Word)
  /-- CALLWL (R201). A call of X. -/
  | callwl (c : Fin 8) (x : Word)
  /-- RETW (R201). A return. -/
  | retw (c : Fin 8)
  /-- NOP (R203). Nothing. -/
  | nop (c : Fin 8)
  /-- SYNC (R216). The words held are discarded; earlier RWS writes govern. -/
  | sync (c : Fin 8)
  /-- TRAP (R203). Cause TRAP with INFO n. -/
  | trap (c : Fin 8) (n : BitVec 8)
  /-- HOLD (R250). A hold of n cycles. -/
  | hold (c : Fin 8) (n : BitVec 12)
  /-- HOLD_EXPIRE (R251). HREM of a core reaches 0. -/
  | holdExpire (c : Fin 8)
  /-- RETE (R248). Return from entry. -/
  | rete (c : Fin 8)
  /-- WAITE (R259). The task collects the wakes of mask A into D, waits for them, or yields. -/
  | waite (c : Fin 8) (d a : Fin 32)
  /-- MOVB (R204). The next element of a copy of B words from A to D. -/
  | movb (c : Fin 8) (d a b : Fin 32)
  /-- CRCB (R204). The next element of a CRC over B words at A into D. -/
  | crcb (c : Fin 8) (d a b : Fin 32) (k : BitVec 6)
  /-- SRCH (R204). The next element of a search for D in B words at A. -/
  | srch (c : Fin 8) (d a b : Fin 32) (k : BitVec 6)
  /-- CP_ABSENT (R209). An instruction for CP4 (0) to CP7 (3). -/
  | cpAbsent (c : Fin 8) (n : Fin 4)
  /-- MUL (R211). AC := A × B, signed. -/
  | mul (c : Fin 8) (a b : Fin 32) (sel : Fin 4)
  /-- MULU (R211). AC := A × B, unsigned. -/
  | mulu (c : Fin 8) (a b : Fin 32) (sel : Fin 4)
  /-- MAC (R211). AC := AC + A × B. -/
  | mac (c : Fin 8) (a b : Fin 32) (sel : Fin 4)
  /-- MSU (R211). AC := AC − A × B. -/
  | msu (c : Fin 8) (a b : Fin 32) (sel : Fin 4)
  /-- RDH (R211). D := AC[71:36]. -/
  | rdh (c : Fin 8) (d : Fin 32) (sel : Fin 4)
  /-- RDL (R211). D := AC[35:0]. -/
  | rdl (c : Fin 8) (d : Fin 32) (sel : Fin 4)
  /-- RDF (R211). D := AC as a rounded F36. -/
  | rdf (c : Fin 8) (d : Fin 32) (sel : Fin 4)
  /-- RDD (R211). Pair D := AC. -/
  | rdd (c : Fin 8) (d : Fin 32) (sel : Fin 4)
  /-- WRA (R211). AC := A × 2^36 + B. -/
  | wra (c : Fin 8) (a b : Fin 32) (sel : Fin 4)
  /-- RDM (R211). D := M[SEL]. -/
  | rdm (c : Fin 8) (d : Fin 32) (sel : Fin 4)
  /-- RDS (R211). D := MST; then MST := 0. -/
  | rds (c : Fin 8) (d : Fin 32)
  /-- DIV (R212). A divided by B. -/
  | div (c : Fin 8) (a b : Fin 32)
  /-- DIVU (R212). A divided by B. -/
  | divu (c : Fin 8) (a b : Fin 32)
  /-- DIVF (R212). A divided by B. -/
  | divf (c : Fin 8) (a b : Fin 32)
  /-- SQRT (R211). The square root of A. -/
  | sqrt (c : Fin 8) (a : Fin 32)
  /-- SQRTF (R212). The square root of A. -/
  | sqrtf (c : Fin 8) (a : Fin 32)
  /-- CROT (R211). The vector (A, B) rotated by the angle in D. -/
  | crot (c : Fin 8) (d a b : Fin 32)
  /-- CVEC (R211). Length and angle of the vector (A, B). -/
  | cvec (c : Fin 8) (a b : Fin 32)
  /-- CP_RESULT_LAND (R210). The oldest result of a unit lands: 0 multiplier, 1 divide and square root, 2 CORDIC. -/
  | cpResultLand (c : Fin 8) (unit : Fin 3)
  /-- ECMD (R213). Command A[3:0] to engine SEL. -/
  | ecmd (c : Fin 8) (a sel : Fin 32)
  /-- ERES (R213). D := RESULT of engine SEL. -/
  | eres (c : Fin 8) (d sel : Fin 32)
  /-- EST (R213). D := STATUS of engine SEL. -/
  | est (c : Fin 8) (d sel : Fin 32)
  /-- EPRM (R213). PARAM k of engine SEL := A. -/
  | eprm (c : Fin 8) (a sel : Fin 32) (k : Fin 16)
  /-- SUBMIT (R399). The request descriptor at address A goes to the security island; D := its ticket. -/
  | submit (c : Fin 8) (d a : Fin 32)
  /-- POLL (R399). D := the status of ticket A. -/
  | poll (c : Fin 8) (d a : Fin 32)
  /-- RRDI (R215). D := entry B of reel A. -/
  | rrdi (c : Fin 8) (d a b : Fin 32)
  /-- RWRI (R215). Entry B of reel A := D. -/
  | rwri (c : Fin 8) (d a b : Fin 32)
  /-- RXF (R215). Reel transfer of reel A with command B and address D. -/
  | rxf (c : Fin 8) (d a b : Fin 32)
  /-- RXR (R215). D := REELS.XRES. -/
  | rxr (c : Fin 8) (d : Fin 32)
  /-- REGISTER_WRITE (R4). An agent writes a control register. -/
  | registerWrite (agent : Owner) (adr : Addr) (v : Word)
  /-- GREY_ACCESS_RESUME (R12). The island of the oldest held access has restarted. -/
  | greyAccessResume
  /-- ACCESS_TIMEOUT (R13). An access of an agent has waited 1,024 cycles. -/
  | accessTimeout (agent : Owner) (adr : Addr)
  /-- MGMT_ACCESS (R17). An access to a port-die register: a write of `data`, or a read; the first `fails` frames fail their CRC. -/
  | mgmtAccess (agent : Owner) (adr : Addr) (data : Option Word) (fails : Fin 5)
  /-- CUT_KEEPALIVE_SEND (R15). A Continuity Unit half sends its keepalive. -/
  | cutKeepaliveSend (half : Fin 2)
  /-- KEEPALIVE_TIMEOUT (R15). The keepalives named have stayed absent for 2 µs. -/
  | keepaliveTimeout (aAbsent bAbsent : Bool)
  /-- PORT_PARITY (R16). A parity error on a port group's lanes. -/
  | portParity (g : Fin 12)
  /-- TIMECODE_LOCK (R18). The reference PLL locks, and timecode starts at zero after a cold start. -/
  | timecodeLock
  /-- SYNC_WORD (R20). The tree's sync word; `bad` are the replicas that disagree with it. -/
  | syncWord (bad : List (Fin 32))
  /-- TREE_LOST (R298). No tick arrives for 16 cycles of either CTU half at a tree leaf, and CUT-class TREE_LOST is raised. -/
  | treeLost
  /-- REF_LOST (R22). No reference edge arrives for 200 ns, and the timecode island enters holdover, sets HOLDOVER and REFLOST and raises Amber REF_LOST. -/
  | refLost
  /-- REF_RELOCK (R22). The reference has been present for 100 µs, and the island relocks without a step in count and clears HOLDOVER. -/
  | refRelock
  /-- TC_FIRE (R23). A compare unit reaches its compare value, fires its event, sets FIRED and steps in periodic mode or clears EN in single mode. -/
  | tcFire (n : Fin 16)
  /-- TC_CMP_WRITE (R458). A write to CMP_HI, CMP_LO, PERIOD or the CMP double of a unit. -/
  | tcCmpWrite (agent : Owner) (n : Fin 16) (which : Fin 4) (v v2 : Word)
  /-- TC_CLAIM (R26). A CTRL write with CLAIM = 1. -/
  | tcClaim (agent : Owner) (n : Fin 16) (v : Word)
  /-- TC_UNCLAIM (R26). A CTRL write with CLAIM = 0. -/
  | tcUnclaim (agent : Owner) (n : Fin 16) (v : Word)
  /-- TC_ENABLE (R23). A CTRL write with EN = 1. -/
  | tcEnable (agent : Owner) (n : Fin 16) (v : Word)
  /-- CLAIM_WRITE (R34). A write to a word of the claim table. -/
  | claimWrite (agent : Owner) (res : BitVec 12) (v : Word)
  /-- COMPARE_WRITE (R45). A compare write arrives at the port island: an engine's oldest one under way, or a bus write of `v`. -/
  | compareWrite (agent : Owner) (p : Fin 96) (x : Fin 4) (v : Word)
  /-- LAT_RETURN (R49). The port's LAT word returns to the engine that wrote. -/
  | latReturn (e : Fin 24)
  /-- SS_ENABLE (R54). A CTRL write with EN = 1. -/
  | ssEnable (agent : Owner) (n : Fin 32) (v : Word)
  /-- SS_DISABLE (R55). A CTRL write with EN = 0. -/
  | ssDisable (agent : Owner) (n : Fin 32) (v : Word)
  /-- SS_GO (R57). A CTRL write with GO = 1. -/
  | ssGo (agent : Owner) (n : Fin 32) (v : Word)
  /-- SS_SLOT_WRITE (R56). A slot write is stored while EN is 0 and is otherwise discarded with WREJ set. -/
  | ssSlotWrite (agent : Owner) (n : Fin 32) (k : Fin 16) (v : Word)
  /-- SS_TRIGGER (R60). A trigger reaches IS12 and is scheduled at A = T + OFFSET, moved after the previous aperture, or discarded as an overrun. -/
  | ssTrigger (n : Fin 32)
  /-- ACQUISITION_START (R59). Fifteen ticks before the aperture end, every slot core begins acquisition. -/
  | acquisitionStart (n : Fin 32)
  /-- APERTURE_END (R58). At tick A every slot's sampling switch opens, and the set is stamped. -/
  | apertureEnd (n : Fin 32)
  /-- CONVERSION_END (R64). Conversion ends; the cores' 18-bit internal codes by slot, and the slots whose input lay out of range. -/
  | conversionEnd (n : Fin 32) (raw : List (BitVec 18)) (outside : BitVec 16)
  /-- SET_COMPLETE (R59). Results reach the DEST engines and RESk, SEQ increments, and the set-complete event is raised. -/
  | setComplete (n : Fin 32)
  /-- CALGO (R65). A write of CALGO starts self-calibration while no set is enabled, and is otherwise refused with CALREF. -/
  | calgo (agent : Owner)
  /-- CAL_DONE (R65). Self-calibration completes at junction temperature `tj` (0.125 °C, two's complement). -/
  | calDone (tj : BitVec 12)
  /-- CALAGE_MINUTE (R65). Each minute CALAGE counts up, saturating at 4,095. -/
  | calageMinute
  /-- CMP_ENABLE (R68). A CTRL write with EN = 1. -/
  | cmpEnable (agent : Owner) (n : Fin 32) (v : Word)
  /-- CMP_DISABLE (R74). A CTRL write with EN = 0. -/
  | cmpDisable (agent : Owner) (n : Fin 32) (v : Word)
  /-- CMP_THR_WRITE (R68). A threshold write moves the comparator's thresholds monotonically to their new values within 30 ticks. -/
  | cmpThrWrite (agent : Owner) (n : Fin 32) (v : Word)
  /-- CMP_MAP_WRITE (R74). A CTRL write that leaves EN as it stands. -/
  | cmpMapWrite (agent : Owner) (n : Fin 32) (v : Word)
  /-- CMP_CONDITION (R67). The input, at code `x` on the thresholds' scale, raises its high or low condition. -/
  | cmpCondition (n : Fin 32) (high : Bool) (x : Int)
  /-- CMP_CONDITION_CLEAR (R67). The input, at code `x`, returns inside its threshold. -/
  | cmpConditionClear (n : Fin 32) (high : Bool) (x : Int)
  /-- BLANK_OPEN (R69). An edge notice opens a blanking window at the edge instant, or on arrival when late. -/
  | blankOpen (n : Fin 32)
  /-- BLANK_CLOSE (R69). A blanking window reaches its closing instant. -/
  | blankClose (n : Fin 32)
  /-- TRIP_ASSERT (R71). A filtered condition asserts the trip, driving mapped groups safe, raising its event and triggering sets. -/
  | tripAssert (n : Fin 32)
  /-- CYCLE_GATE_RELEASE (R73). Sixteen ticks after a CYCLE-mode trip falls, the port-group gate releases the group. -/
  | cycleGateRelease (n : Fin 32)
  /-- PF_ENABLE (R75). A CTRL write with EN = 1 while the lines show the levels given. -/
  | pfEnable (agent : Owner) (n : Fin 16) (v : Word) (a b z : Bool)
  /-- PF_DISABLE (R33). A CTRL write with EN = 0. -/
  | pfDisable (agent : Owner) (n : Fin 16) (v : Word)
  /-- POS_READ (R78). A read of POS latches ANGLE, SPD, STAMP and the direction status from the same tick. -/
  | posRead (agent : Owner) (n : Fin 16)
  /-- LINE_EDGE_ACCEPT (R79). The filters accept these levels of the lines. -/
  | lineEdgeAccept (n : Fin 16) (a b z : Bool)
  /-- RESOLVER_TRIGGER (R87). At each excitation peak less the trigger lead, the channel triggers its sample set. -/
  | resolverTrigger (n : Fin 16)
  /-- RESOLVER_UPDATE (R88). Eight ticks after the set completes, the tracker updates θ, speed, POS and STAMP and checks amplitude and error. -/
  | resolverUpdate (n : Fin 16)
  /-- SENT_FRAME (R91). A SENT frame ends: the lengths in ticks of its calibration pulse, of its status, data and CRC nibbles and
  of its pause pulse, and its opening edge. -/
  | sentFrame (n : Fin 16) (cal status : Nat) (lens : List Nat) (crc : Nat) (pause : Option Nat) (start : BitVec 64)
  /-- SENT_TIMEOUT (R91). No accepted frame arrives for 2,048 nominal ticks, which causes SIG_LOST. -/
  | sentTimeout (n : Fin 16)
  /-- BISS_FRAME_START (R92). The channel starts a BiSS-C frame every PERIOD ticks, or when the previous frame ends. -/
  | bissFrameStart (n : Fin 16)
  /-- BISS_FRAME (R92). A BiSS-C frame arrives. -/
  | bissFrame (n : Fin 16) (mt st : Nat) (nE nW : Bool) (crc : BitVec 6) (delay : BitVec 16 := 0)
  /-- BISS_NOACK (R92). No start bit arrives within 20 µs of the first MA edge, and BISS_NOACK is raised. -/
  | bissNoack (n : Fin 16)
  /-- SPEED_DECAY (R94). With no new count, |SPD| steps down to 2^32/(now − t[k]) every 64 ticks. -/
  | speedDecay (n : Fin 16)
  /-- SPEED_STOP (R94). With no count for ZEROT × 4,096 ticks, SPD is set to 0 and STOPPED to 1. -/
  | speedStop (n : Fin 16)
  /-- EMU_ENABLE (R98). A CTRL write with EN = 1. -/
  | emuEnable (agent : Owner) (k : Fin 4) (v : Word)
  /-- EMU_STEP (R99). The output makes one quadrature step toward a zero backlog, at most once every 30 ticks. -/
  | emuStep (k : Fin 4)
  /-- ENGINE_MEM_WRITE (R100). A bus write to an offset of an engine's window. -/
  | engineMemWrite (agent : Owner) (e : Fin 24) (off : BitVec 12) (v : Word)
  /-- ENGINE_OWNER_WRITE (R129). A write of a word to LEee.CTRL. -/
  | engineOwnerWrite (agent : Owner) (e : Fin 24) (v : Word)
  /-- ENGINE_TRIGGER (R115). The oldest trigger on its way to an engine reaches it. -/
  | engineTrigger (e : Fin 24)
  /-- RUN_DISPATCH (R116). The engine freezes its inputs and reel windows and begins the take. -/
  | runDispatch (e : Fin 24) (err : Option (BitVec 12 × Bool × Bool) := none)
  /-- LAW_NOP (R108). A NOP issues and does nothing. -/
  | lawNop (e : Fin 24)
  /-- LAW_WAIT (R108). WAIT stops issue for k cycles. -/
  | lawWait (e : Fin 24)
  /-- LAW_END (R120). END of the pass under way; `hurt` is what a fault made of its exponents and flags, 0 for none. -/
  | lawEnd (e : Fin 24) (hurt : BitVec 17)
  /-- LAW_SKIP (R108). SKIP issues the following ops as no-ops when its condition holds. -/
  | lawSkip (e : Fin 24)
  /-- LAW_REP (R108). REP repeats the next L ops M times, with iterations beyond the value of X_A dead. -/
  | lawRep (e : Fin 24)
  /-- LAW_ADD (R108). Law ADD computes D := A + B. -/
  | lawAdd (e : Fin 24)
  /-- LAW_SUB (R108). Law SUB computes D := A − B. -/
  | lawSub (e : Fin 24)
  /-- LAW_NEG (R108). Law NEG computes D := −A. -/
  | lawNeg (e : Fin 24)
  /-- LAW_MOV (R108). Law MOV computes D := A. -/
  | lawMov (e : Fin 24)
  /-- LAW_MUL (R108). Law MUL computes D := A × B. -/
  | lawMul (e : Fin 24)
  /-- LAW_MAC (R108). Law MAC computes D := D + A × B. -/
  | lawMac (e : Fin 24)
  /-- LAW_SCL (R108). SCL scales A by 2^k. -/
  | lawScl (e : Fin 24)
  /-- LAW_NORM (R104). NORM renormalises a stage's mantissas and exponent with headroom h. -/
  | lawNorm (e : Fin 24)
  /-- LAW_SATS (R108). SATS limits A to ±|B| and sets F when it limits. -/
  | lawSats (e : Fin 24)
  /-- LAW_SATA (R108). SATA limits A to a pair of limits and sets F when it limits or the limits are inverted. -/
  | lawSata (e : Fin 24)
  /-- LAW_ABS (R108). Law ABS computes D := |A|. -/
  | lawAbs (e : Fin 24)
  /-- LAW_MAX (R108). Law MAX computes D := max(A, B). -/
  | lawMax (e : Fin 24)
  /-- LAW_MIN (R108). Law MIN computes D := min(A, B). -/
  | lawMin (e : Fin 24)
  /-- LAW_CMP (R108). Law CMP sets F from a relation of A and B. -/
  | lawCmp (e : Fin 24)
  /-- LAW_SEL (R108). Law SEL computes D := F ? A : B. -/
  | lawSel (e : Fin 24)
  /-- TRD (R109). TRD reads a constant table with interpolation. -/
  | trd (e : Fin 24)
  /-- RRD (R140). RRD plays the reel entry at the angle plus LEAD from the latched window, and a miss reads zero. -/
  | rrd (e : Fin 24)
  /-- RLRN (R143). RLRN at the engine's position; `fault` replaces the mantissa where the data path is faulty. -/
  | rlrn (e : Fin 24) (fault : Option Word)
  /-- LAW_CROT (R108). Law CROT rotates a vector or converts it to magnitude and angle. -/
  | lawCrot (e : Fin 24)
  /-- LAW_DIV (R108). Law DIV computes D := A / B, truncated toward zero. -/
  | lawDiv (e : Fin 24)
  /-- LAW_SQRT (R108). Law SQRT computes D := √A, with a negative A giving 0 and F := 1. -/
  | lawSqrt (e : Fin 24)
  /-- CLK (R108). CLK performs the Clarke transform of a register pair. -/
  | clk (e : Fin 24)
  /-- PARK (R108). PARK performs the Park transform by angle X_B. -/
  | park (e : Fin 24)
  /-- IPARK (R108). IPARK performs the inverse Park transform by angle X_B. -/
  | ipark (e : Fin 24)
  /-- SVM (R109). SVM computes three compare values by space-vector modulation. -/
  | svm (e : Fin 24)
  /-- SIN (R110). SIN reads a sample, stamp, position, latency, run-stamp or parameter input, and logs it in the input log. -/
  | sin (e : Fin 24)
  /-- POUT (R108). POUT at the engine's position; `fault` replaces the value where the data path is faulty. -/
  | pout (e : Fin 24) (fault : Option Word)
  /-- LDS (R108). LDS loads a state word into D. -/
  | lds (e : Fin 24)
  /-- STS (R108). STS at the engine's position; `fault` replaces the value where the data path is faulty. -/
  | sts (e : Fin 24) (fault : Option Word)
  /-- LDC (R108). LDC loads a constant word into D. -/
  | ldc (e : Fin 24)
  /-- QMAC2 (R108). QMAC2 multiplies and accumulates Q15 halves into a fast-path accumulator pair. -/
  | qmac2 (e : Fin 24)
  /-- QLD (R108). QLD loads register halves into an accumulator pair. -/
  | qld (e : Fin 24)
  /-- QOUT (R108). QOUT rounds an accumulator pair into Q15 halves. -/
  | qout (e : Fin 24)
  /-- QADD (R108). QADD adds the Q15 halves with saturation. -/
  | qadd (e : Fin 24)
  /-- QTOB (R108). QTOB converts one Q15 half to block floating. -/
  | qtob (e : Fin 24)
  /-- BTOQ (R108). BTOQ converts two block-floating values to Q15 halves. -/
  | btoq (e : Fin 24)
  /-- ENGINE_FAILOVER (R124). The failover of a Red engine, or of one that loses its island now. -/
  | engineFailover (e : Fin 24) (lost : Bool)
  /-- RESTORE_DONE (R125). The spare finishes its restore. -/
  | restoreDone (e : Fin 24)
  /-- ENGINE_LOAD (R131). The LOAD command. -/
  | engineLoad (agent : Owner) (e : Fin 24)
  /-- UNLOAD (R130). The UNLOAD command. -/
  | unload (agent : Owner) (e : Fin 24)
  /-- ENGINE_ARM (R123). The ARM command. -/
  | engineArm (agent : Owner) (e : Fin 24)
  /-- DISARM (R130). The DISARM command. -/
  | disarm (agent : Owner) (e : Fin 24)
  /-- FIRE (R130). The FIRE command. -/
  | fire (agent : Owner) (e : Fin 24)
  /-- ENGINE_SPARE (R130). The SPARE command. -/
  | engineSpare (agent : Owner) (e : Fin 24)
  /-- UNSPARE (R130). The UNSPARE command. -/
  | unspare (agent : Owner) (e : Fin 24)
  /-- ENGINE_RETEST (R130). The RETEST command. -/
  | engineRetest (agent : Owner) (e : Fin 24)
  /-- ENGINE_COMMAND_DONE (R130). A long engine command finishes and writes its completion to RESULT. -/
  | engineCommandDone (e : Fin 24)
  /-- ENGINE_LBIST_DONE (R130). Engine LBIST ends. -/
  | engineLbistDone (e : Fin 24) (pass : Bool)
  /-- REEL_ENABLE (R136). A RLnn.CTRL write with EN = 1. -/
  | reelEnable (agent : Owner) (r : Fin 64) (v : Word)
  /-- REEL_DISABLE (R146). A RLnn.CTRL write with EN = 0. -/
  | reelDisable (agent : Owner) (r : Fin 64) (v : Word)
  /-- REEL_MEM_WRITE (R137). A bus write to an entry of the pool. -/
  | reelMemWrite (agent : Owner) (entry : BitVec 16) (v : Word)
  /-- REEL_WINDOW (R142). The reel unit computes a new play window after a commit and delivers it to the engine. -/
  | reelWindow (r : Fin 64)
  /-- REEL_UPDATE (R144). The reel unit takes an update from its queue and applies it to entry i, or counts it as frozen. -/
  | reelUpdate
  /-- REEL_SCRUB (R138). The scrub meets an entry; `err` is an error that has struck a word of the pool before. -/
  | reelScrub (entry : BitVec 16) (err : Option (Addr × Bool))
  /-- SAVE_DDR (R148). An XCTL write with CMD = 1. -/
  | saveDdr (agent : Owner) (r : Fin 64)
  /-- LOAD_DDR (R151). An XCTL write with CMD = 2. -/
  | loadDdr (agent : Owner) (r : Fin 64)
  /-- SAVE_REC (R149). An XCTL write with CMD = 3. -/
  | saveRec (agent : Owner) (r : Fin 64)
  /-- LOAD_REC (R151). An XCTL write with CMD = 4. -/
  | loadRec (agent : Owner) (r : Fin 64)
  /-- ZERO (R148). An XCTL write with CMD = 5. -/
  | zero (agent : Owner) (r : Fin 64)
  /-- REEL_XFER_DONE (R148). A reel transfer ends and writes XRES. -/
  | reelXferDone (fail : Bool := false)
  /-- PORT_ENABLE (R157). A CTRL write with EN = 1. -/
  | portEnable (agent : Owner) (p : Fin 96) (v : Word)
  /-- PORT_DISABLE (R170). A CTRL write with EN = 0. -/
  | portDisable (agent : Owner) (p : Fin 96) (v : Word)
  /-- PERIOD_START (R157). A port's period starts, applying ACTZ, deferred loads, pending timing writes and hold releases. -/
  | periodStart (p : Fin 96)
  /-- PEAK (R160). In UPDOWN mode, the counter reaches the peak, applies ACTP and serves as a load point. -/
  | peak (p : Fin 96)
  /-- COMPARE_OCCURRENCE (R160). A compare occurrence applies its action to the port's logical level. -/
  | compareOccurrence (p : Fin 96) (x : Fin 4)
  /-- EDGE_MERGE (R161). Occurrences held within 64 subticks of the last transition apply together, and MERGE is set. -/
  | edgeMerge (q : Fin 96)
  /-- DEAD_TIME_RISE (R165). A pair's ball rises after its dead time when its level is still high then. -/
  | deadTimeRise (q : Fin 96)
  /-- PORT_EVENT (R166). Event output `k` fires, for the second time in the period where `second`. -/
  | portEvent (p : Fin 96) (k : Fin 4) (second : Bool)
  /-- SAFE_WRITE (R168). The host link writes a port's safe level while EN is 0, and a write while EN is 1 sets WREJ. -/
  | safeWrite (agent : Owner) (p : Fin 96) (v : Word)
  /-- VIO_LOW (R171). VIOGg, at `mv` mV, has stayed below its floor for 1 µs. -/
  | vioLow (g : Fin 12) (mv : BitVec 13)
  /-- CLRTRIP (R173). CLRTRIP clears a group's trip latch unless a trip lane still stands. -/
  | clrtrip (agent : Owner) (g : Fin 12)
  /-- CLRRED (R173). CLRRED starts a 300-tick lane test of the group. -/
  | clrred (agent : Owner) (g : Fin 12)
  /-- LANE_TEST_DONE (R173). A lane test ends, with VIOGg at `mv` mV. -/
  | laneTestDone (g : Fin 12) (pass : Bool) (mv : BitVec 13)
  /-- CUTIN_ASSERT (R175). CUTINn stays low through the deglitch filter and sets the CUT latch. -/
  | cutinAssert
  /-- CUTIN_RELEASE (R174). CUTINn returns high, and its CUT source ends. -/
  | cutinRelease
  /-- CUT_ASSERT (R174). A write of ASSERT from any agent sets the HOST source of CUT. -/
  | cutAssert (agent : Owner)
  /-- CUT_STATE_REPORT (R177). The CUT state lane reports the latch set, and the logic die writes CUTSTAMP, CUTCNT and FIRST. -/
  | cutStateReport
  /-- CUT_CLEAR (R178). A CLEAR from the host link clears the latch if no other source stands, and otherwise sets CLRREF. -/
  | cutClear (agent : Owner)
  /-- ZONE_GRANT (R375). The Gaffer grants the head zone request. -/
  | zoneGrant
  /-- START_END (R374). The start time of a granted port ends. -/
  | startEnd (p : Fin 96)
  /-- EVENT_ROUTE (R260). The oldest event not yet seen reaches a core's Cue (0 to 7) or the rushes recorder (8). -/
  | eventRoute (d : Fin 9)
  /-- LEVEL_ENTRY (R243). A core at a boundary takes a cause; `early`: within entry cycles 1 to 4 of another. -/
  | levelEntry (c : Fin 8) (early : Bool)
  /-- TASK_SWITCH (R263). The Cue of a core switches tasks. -/
  | taskSwitch (c : Fin 8)
  /-- CUE_POST (R261). A write to CUE.POST. -/
  | cuePost (agent : Owner) (c t : Fin 8) (mask : BitVec 32)
  /-- TASK_START (R268). TASKCMD START. -/
  | taskStart (agent : Owner) (c t : Fin 8)
  /-- TASK_STOP (R268). TASKCMD STOP. -/
  | taskStop (agent : Owner) (c t : Fin 8)
  /-- TASK_STOP_DONE (R268). The running task's pending STOP completes. -/
  | taskStopDone (c : Fin 8)
  /-- TASK_RESUME (R268). TASKCMD RESUME. -/
  | taskResume (agent : Owner) (c t : Fin 8)
  /-- TASK_RELEASE (R268). TASKCMD RELEASE. -/
  | taskRelease (agent : Owner) (c t : Fin 8)
  /-- FLUSH (R267). PARKCTL.OP FLUSH. -/
  | flush (agent : Owner) (c : Fin 8)
  /-- DISCARD (R267). PARKCTL.OP DISCARD. -/
  | discard (agent : Owner) (c : Fin 8)
  /-- SHADOW_WRITE (R270). A write to word j of shadow bank k. -/
  | shadowWrite (agent : Owner) (c k : Fin 8) (j : Fin 16) (v : Word)
  /-- CUE_LOCKED_WRITE (R269). A write to TPC (`pc`) or TCFG of a task. -/
  | cueLockedWrite (agent : Owner) (c t : Fin 8) (pc : Bool) (v : Word)
  /-- WRITE_TOKEN (R276). The agreement token of the oldest write of a safe core reaches its target. -/
  | writeToken (c : Fin 8) (agree : Bool)
  /-- CORE_MISMATCH (R280). A comparator lane of a safe core reports a mismatch with its words; on lane CHECK (6), `of_` is the lane
  whose output fails. -/
  | coreMismatch (c : Fin 4) (lane : Fin 7) (addr lead trail : Word) (of_ : Fin 7 := 0)
  /-- STATE_SCRUB (R277). A scrub pass; `flips`: bits in which words of the trail, by their number, differ from the lead's. -/
  | stateScrub (c : Fin 4) (flips : List (Fin 930 × Word))
  /-- CHECKER_TEST (R279). A test round; `fails`: cores, lanes and words of missing or wrong reports. -/
  | checkerTest (fails : List (Fin 4 × Fin 7 × Word × Word))
  /-- CORE_FAILOVER (R282). The first failed core's work moves; `agrees`: tasks whose words read the same from lead and trail; `withheld`
  and `windows`: control words, and tasks by their bits, whose writes the halves of the CTU do not agree on. -/
  | coreFailover (agrees : BitVec 8) (withheld : List Addr := []) (windows : BitVec 8 := 0)
  /-- FAILOVER_DONE (R287). The move ends, and the CTU records FOSTAT and FOTIME, raises EV258 and starts LBIST. -/
  | failoverDone
  /-- CORE_LBIST_DONE (R289). LBIST of a core ends. -/
  | coreLbistDone (c : Fin 8) (pass : Bool)
  /-- ENLIST (R290). CORECMD ENLIST. -/
  | enlist (agent : Owner) (c : Fin 16)
  /-- CORE_RETEST (R290). CORECMD RETEST. -/
  | coreRetest (agent : Owner) (c : Fin 16)
  /-- WITHDRAW (R290). CORECMD WITHDRAW. -/
  | withdraw (agent : Owner) (c : Fin 16)
  /-- FAULT_REPORT (R293). The oldest report is taken; `agree`: the halves' decisions are the same. -/
  | faultReport (agree : Bool)
  /-- CTU_HEARTBEAT (R294). A half sends its heartbeat; `agree`: the halves' writes and reads compared since are the same. -/
  | ctuHeartbeat (half : Fin 2) (agree : Bool := true)
  /-- CTU_SILENT (R294). The heartbeat of a half is absent. -/
  | ctuSilent (half : Fin 2)
  /-- LOG_CLEAR (R296). A LOGCMD write with CLEAR = 1. -/
  | logClear (agent : Owner)
  /-- BANK_OWNER_WRITE (R300). A write to BKnn.OWNER (0 to 63) or MBn.OWNER (64 to 67). -/
  | bankOwnerWrite (agent : Owner) (b : Fin 68) (v : Word)
  /-- BANK_SCRUB (R307). The scrub of a bank or mailbox takes its next word; `err` is an error that has struck a word of the banks before. -/
  | bankScrub (b : Fin 68) (err : Option (Addr × Bool))
  /-- DDR_INIT (R310). A write of DDR.CMD with INIT = 1. -/
  | ddrInit (agent : Owner)
  /-- DDR_INIT_DONE (R310). Training ends, with success or not. -/
  | ddrInitDone (ok : Bool)
  /-- DDR_PATROL (R312). The patrol reads its next burst; `err` is an error that has struck a granule before. -/
  | ddrPatrol (err : Option (Addr × Bool))
  /-- DMA_ENABLE (R316). A DMnn.CTRL write with EN = 1. -/
  | dmaEnable (agent : Owner) (n : Fin 16) (v : Word)
  /-- DMA_DISABLE (R318). A DMnn.CTRL write with EN = 0. -/
  | dmaDisable (agent : Owner) (n : Fin 16) (v : Word)
  /-- DMA_GO (R317). A DMnn.CTRL write with GO = 1. -/
  | dmaGo (agent : Owner) (n : Fin 16) (v : Word)
  /-- DMA_EVENT_TRIGGER (R317). The oldest event EVN that the channel has not seen reaches it. -/
  | dmaEventTrigger (n : Fin 16)
  /-- DMA_WORD (R305, R318). The transfer unit moves one word for a channel in RUN; `hit`: the mailbox word it writes is written
  through port A in the same cycle. -/
  | dmaWord (n : Fin 16) (hit : Bool := false)
  /-- RUSHES_ENABLE (R319). A CHc.CTRL write with EN = 1. -/
  | rushesEnable (agent : Owner) (c : Fin 32) (v : Word)
  /-- RUSHES_DISABLE (R323). A CHc.CTRL write with EN = 0. -/
  | rushesDisable (agent : Owner) (c : Fin 32) (v : Word)
  /-- RUSHES_RECORD_WRITE (R323). A queued record is written to the ring in DDR4, and the channel advances through FILL, ARMED, POST and FROZEN. -/
  | rushesRecordWrite (c : Fin 32)
  /-- RUSHES_GO (R324). A write to RUSHES.GO. -/
  | rushesGo (agent : Owner) (v : Word)
  /-- CHANNEL_REARM (R323). A CHc.CTRL write with REARM = 1. -/
  | channelRearm (agent : Owner) (c : Fin 32) (v : Word)
  /-- FLASH_QUEUE_ENABLE (R331). A FLASH.QCTL write with EN = 1. -/
  | flashQueueEnable (agent : Owner) (v : Word)
  /-- FLASH_QUEUE_DISABLE (R331). A FLASH.QCTL write with EN = 0. -/
  | flashQueueDisable (agent : Owner) (v : Word)
  /-- FLASH_DESCRIPTOR_TAKE (R332). While HEAD differs from TAIL, the controller reads the descriptor at HEAD, checks it and advances HEAD. -/
  | flashDescriptorTake
  /-- READ_VERIFY (R333). READ_VERIFY reads lines under BCH and optionally compares them with SRC. -/
  | readVerify
  /-- PROGRAM_LINE (R333). PROGRAM_LINE programs one line from SRC after a blank check. -/
  | programLine
  /-- PROGRAM_RANGE (R333). PROGRAM_RANGE programs COUNT lines in ascending order. -/
  | programRange
  /-- ERASE_SECTOR (R337). ERASE_SECTOR writes the torn marker and starts erasing a sector. -/
  | eraseSector
  /-- ERASE_BANK (R333). ERASE_BANK starts erasing every sector of a bank. -/
  | eraseBank
  /-- BLANK_CHECK (R333). BLANK_CHECK checks that lines are erased. -/
  | blankCheck
  /-- MARGIN_READ (R333). `below` are the lines below threshold at the reference of EMRG. -/
  | marginRead (below : List (BitVec 12))
  /-- SUSPEND (R336). SUSPEND halts the descriptor erase running in a bank. -/
  | suspend
  /-- RESUME (R336). RESUME continues a suspended erase. -/
  | resume
  /-- ERASE_HALTED (R336). A suspended erase reaches its halt, and SUSPEND completes. -/
  | eraseHalted
  /-- ERASE_COMPLETE (R337). The erase that runs in a bank ends; `bad` are the sectors it could not blank. -/
  | eraseComplete (b : Fin 4) (bad : List (BitVec 11))
  /-- PROGRAM_COMPLETE (R343). A program ends; `bad` are the lines that do not verify. -/
  | programComplete (bad : List (BitVec 12))
  /-- FLASH_SCAN (R340). The next sector of the cycle is margin-read; `weak`: a line of it lies below threshold; `errs`: errors
  that have struck words of the flash before. -/
  | flashScan (weak : Bool) (errs : List (Addr × Bool) := [])
  /-- RELOCATE (R342). The relocation of a bank takes its next step: copy, commit, erase. -/
  | relocate (b : Fin 3)
  /-- RECORD_READ (R346). A FLASH.RSCTL write with CMD = 1. -/
  | recordRead (agent : Owner) (v : Word)
  /-- RECORD_WRITE (R347). A FLASH.RSCTL write with CMD = 2. -/
  | recordWrite (agent : Owner) (v : Word)
  /-- RECORD_DELETE (R346). A FLASH.RSCTL write with CMD = 3. -/
  | recordDelete (agent : Owner) (v : Word)
  /-- RECORD_CMD_DONE (R346). A record command completes, writes RSRES and raises EV321. -/
  | recordCmdDone
  /-- STORE_BUILD_DONE (R348). The index is built; `weak`: the last line is valid but below margin. -/
  | storeBuildDone (weak : Bool)
  /-- STORE_RECLAIM (R349). With fewer than 8 erased sectors ahead, the store copies forward and erases the sector of lowest LAP. -/
  | storeReclaim
  /-- RAISE1 (R353). An RDPCMD write with code 1. -/
  | raise1 (agent : Owner)
  /-- RAISE2 (R353). An RDPCMD write with code 2. -/
  | raise2 (agent : Owner)
  /-- LOWER0 (R354). An RDPCMD write with code 3. -/
  | lower0 (agent : Owner)
  /-- WIPE_DONE (R354). The erases and zeroing of a wipe have ended. -/
  | wipeDone
  /-- SUPPLY_DETECT (R359). VIN (`cause` 0) or VCORE, VANA/VSRAM, VPP (1 to 3) has left its window long enough. -/
  | supplyDetect (cause : Fin 4)
  /-- LOGIC_RESET (R359). Two microseconds after the detector's decision the logic-die reset asserts. -/
  | logicReset
  /-- VMID_LOW (R359). VMID falls below 4.5 V. -/
  | vmidLow
  /-- VIN_RISE (R356). VIN has risen through 5.8 V and held for 1 ms; `railsOk`: no rail-window condition stands. -/
  | vinRise (railsOk : Bool)
  /-- VIN_HIGH (R356). VIN rises above 61 V. -/
  | vinHigh
  /-- RAIL_VDDQ (R360). VDDQ leaves its window. -/
  | railVddq
  /-- TJ_SAMPLE (R363). The millisecond's temperatures of the 32 islands, with VIN in 0.02 V and PIN in mW units as the registers count them. -/
  | tjSample (temps : List (BitVec 9)) (vin pin : BitVec 12)
  /-- THROTTLE_STEP (R363). The throttle follows SWORST of the junction. -/
  | throttleStep
  /-- TJ_SHUTDOWN (R364). TJ has stayed at or above 155 °C for 100 µs. -/
  | tjShutdown
  /-- TJ_RELEASE (R364). The port die's sensor reads 130 °C or less. -/
  | tjRelease
  /-- ISLAND_DESCEND (R367). The wait of an idle island passes, and it goes down one state. -/
  | islandDescend (isl : Fin 32)
  /-- ISLAND_WAKE (R367). An ISLnn.CTRL write with WAKE = 1. -/
  | islandWake (agent : Owner) (isl : Fin 32) (v : Word)
  /-- ISLAND_WAKE_DONE (R366). A granted wake reaches its end. -/
  | islandWakeDone (isl : Fin 32)
  /-- TWL_WRITE (R369). A TWL write: the TWL of an island, or of the level of a core's Cue. -/
  | twlWrite (agent : Owner) (core : Option (Fin 8 × Fin 9)) (isl : Fin 32) (v : Word)
  /-- DEVICE_GRANT (R372). The Gaffer grants the head request of the device ledger. -/
  | deviceGrant
  /-- CLOCK_STEP (R372). A core island takes its pending clock change at an instruction boundary. -/
  | clockStep (isl : Fin 4)
  /-- THERM_STALE (R376). The temperature of a zone sensor has not been refreshed for MAXAGE. -/
  | thermStale (k : Fin 4)
  /-- SLEEP_WAKE (R370). Levels held on WAKE0 to WAKE3, a dominant phase on CAN0 RXD, and the wake timer's expiry. -/
  | sleepWake (wake : BitVec 4) (can timer : Bool)
  /-- COLD_START (R382). The cold start that is due runs up to its handoff; `d` is what it finds. -/
  | coldStart (d : StartIn)
  /-- WARM_START (R383). The warm start that is due runs up to its handoff; `d` is what it finds. -/
  | warmStart (d : StartIn)
  /-- START_HANDOFF (R384). The handoff, `us` microseconds after the release of the logic-die reset. -/
  | startHandoff (us : BitVec 24)
  /-- RESET_PIN (R380). RESETn has been held low for 1 µs. -/
  | resetPin
  /-- VIOS_LOSS (R438). VIOS has stayed below 2.9 V for 1 µs. -/
  | viosLoss
  /-- VIOS_RETURN (R438). VIOS has stood within 3.0 to 3.6 V for 1 ms. -/
  | viosReturn
  /-- GOODW (R385). A SECURITY.START write with GOODW = 1. -/
  | goodw (agent : Owner)
  /-- WDKICK (R389). A WDKICK write. -/
  | wdkick (agent : Owner) (v : Word)
  /-- WDOG_EXPIRY (R389). The watchdog's count ends. -/
  | wdogExpiry
  /-- BOOTCFG_WRITE (R403). A BOOTCFG write. -/
  | bootcfgWrite (agent : Owner) (v : Word)
  /-- ROLLFWD (R396). An OTPCMD write with code 1. -/
  | rollfwd (agent : Owner)
  /-- REVOKE (R396). An OTPCMD write with code 2. -/
  | revoke (agent : Owner) (arg : BitVec 4)
  /-- PROGKEY (R396). An OTPCMD write with code 3. -/
  | progkey (agent : Owner) (arg : BitVec 4)
  /-- PROGHOST (R396). An OTPCMD write with code 4. -/
  | proghost (agent : Owner)
  /-- PROGDBG (R396). An OTPCMD write with code 5. -/
  | progdbg (agent : Owner)
  /-- HASH (R400). The head request's operation runs: SHA3-512 of octets. -/
  | hash
  /-- HASHW (R400). The head request's operation runs: SHA3-512 of words. -/
  | hashw
  /-- VERIFY (R400). The head request's operation runs: ML-DSA-87 verification. -/
  | verify
  /-- SIGN (R401). The head request's operation runs: a signature; `tired`: 200 iterations were not enough. -/
  | sign (tired : Bool)
  /-- RANDOM (R400). The head request's operation runs: TRNG octets. -/
  | random
  /-- KEYLOAD (R400). The head request's operation runs: a key into a handle. -/
  | keyload
  /-- GCM_ENC (R400). The head request's operation runs: AES-256-GCM encryption. -/
  | gcmEnc
  /-- GCM_DEC (R400). The head request's operation runs: AES-256-GCM decryption. -/
  | gcmDec
  /-- SECURITY_REQUEST_DONE (R399). The head request completes. -/
  | securityRequestDone
  /-- TRNG_HEALTH (R401). The TRNG health test fails. -/
  | trngHealth
  /-- CHALLENGE (R406). A DEBUG.CMD write with code 1. -/
  | challenge (agent : Owner)
  /-- DEBUG_RESP_WRITE (R406). A DEBUG.RESP write. -/
  | debugRespWrite (agent : Owner) (v : Word)
  /-- UNLOCK (R406). A DEBUG.CMD write with code 2. -/
  | unlock (agent : Owner)
  /-- LOCK (R406). A DEBUG.CMD write with code 3. -/
  | lock (agent : Owner)
  /-- DEBUG_HALT (R407). A CORECTL write with HALT bits. -/
  | debugHalt (agent : Owner) (v : Word)
  /-- DEBUG_STEP (R407). A CORECTL write with STEP bits. -/
  | debugStep (agent : Owner) (v : Word)
  /-- SLATE_FRAME (R417). A Slate frame, taken whole, from transport 1, 2 (MAC0, MAC1) or 3 to 6 (CAN0 to CAN3) and, on a MAC, an address and port. -/
  | slateFrame (via : BitVec 3) (src : BitVec 128) (port : BitVec 16) (frame : List (BitVec 8))
  /-- SESSION_OPEN (R421). The running command is SESSION OPEN; `tired`: 200 signature iterations were not enough. -/
  | sessionOpen (tired : Bool)
  /-- SESSION_KEYX (R404). The running command is SESSION KEYX. -/
  | sessionKeyx
  /-- SESSION_CLOSE (R421). The running command is SESSION CLOSE. -/
  | sessionClose
  /-- SESSION_SAK (R421). The running command is SESSION SAK. -/
  | sessionSak
  /-- KEYX_TIMEOUT (R421). Slot k has been reserved for 1 s. -/
  | keyxTimeout (k : Fin 3)
  /-- SESSION_TIMEOUT (R421). Slot k has been idle for SESSTO seconds. -/
  | sessionTimeout (k : Fin 3)
  /-- ATTEST (R403). The running command is ATTEST; `tired`: 200 signature iterations were not enough. -/
  | attest (tired : Bool)
  /-- SLATE_READ (R427). The running command is READ. -/
  | slateRead
  /-- SLATE_WRITE (R305, R427). The running command is WRITE; `hit`: the place in it of a mailbox word that is written through
  port A in the same cycle. -/
  | slateWrite (hit : Option (BitVec 11) := none)
  /-- SCENE (R429). The running command is SCENE. -/
  | scene
  /-- BUDGET (R427). The running command is BUDGET. -/
  | budget
  /-- LATENCY (R427). The running command is LATENCY. -/
  | latency
  /-- FAILOVER_PLAN (R427). The running command is FAILOVER PLAN. -/
  | failoverPlan
  /-- ARM (R424). The running command is ARM. -/
  | arm
  /-- SLATE_RUN (R424). The running command is RUN. -/
  | slateRun
  /-- HOLDOUT (R427). The running command is HOLDOUT. -/
  | holdout
  /-- SLATE_CUT (R427). The CUT command that runs. -/
  | slateCut
  /-- CLEAR (R427). The running command is CLEAR. -/
  | clear
  /-- SLEEP (R370). The running command is SLEEP. -/
  | sleep
  /-- RESET (R427). The running command is RESET. -/
  | reset
  /-- LOAD_ERASE (R428). The running command is LOAD ERASE; `bad`: sectors that stay not blank. -/
  | loadErase (bad : List (BitVec 11))
  /-- LOAD_PROGRAM (R428). The running command is LOAD PROGRAM; `bad` are the lines that do not verify. -/
  | loadProgram (bad : List (BitVec 12))
  /-- LOAD_VERIFY (R428). The running command is LOAD VERIFY. -/
  | loadVerify
  /-- COMMIT (R427). The running command is COMMIT. -/
  | commit
  /-- TRIM_EXPORT (R392). The running command is TRIM EXPORT. -/
  | trimExport
  /-- TRIM_IMPORT (R392). The running command is TRIM IMPORT. -/
  | trimImport
  /-- RUSHES_STATUS (R427). The running command is RUSHES STATUS. -/
  | rushesStatus
  /-- RUSHES_READ (R427). The running command is RUSHES READ. -/
  | rushesRead
  /-- RUSHES_TRIGGER (R427). The running command is RUSHES TRIGGER. -/
  | rushesTrigger
  /-- RUSHES_REARM (R427). The running command is RUSHES REARM. -/
  | rushesRearm
  /-- DAILIES (R430). The running command is DAILIES. -/
  | dailies
  /-- LOCAL_GO (R423). A LOCALCTL write with GO = 1. -/
  | localGo (agent : Owner) (v : Word)
  /-- CAN_SEGMENT (R412). A CAN XL frame with a segment of a Slate frame. -/
  | canSegment (n : Fin 4) (id : BitVec 11) (sdt vcid : BitVec 8) (af : BitVec 32) (data : List (BitVec 8))
  /-- CAN_SEGMENT_TIMEOUT (R412). 10 ms have passed since the last segment. -/
  | canSegmentTimeout (n : Fin 4)
  /-- REASSEMBLY_TIMEOUT (R411). The oldest incomplete datagram has waited 100 ms. -/
  | reassemblyTimeout
  /-- PTP_SYNC (R413). An 802.1AS Sync arrives; `g`: the gPTP time of this tick in ns. -/
  | ptpSync (m : Fin 2) (g : BitVec 64)
  /-- PTP_LOST (R413). No Sync for 3 s. -/
  | ptpLost (m : Fin 2)
  /-- LINK_DOWN (R431). SGMII sync or PHY link has been absent for 10 ms; `sync`: SGMII sync stands. -/
  | linkDown (m : Fin 2) (sync : Bool)
  /-- CAN_BUSOFF (R431). The controller goes bus-off. -/
  | canBusoff (n : Fin 4)
  /-- MDIO_ACCESS (R443). A MACm.MDIO write with GO = 1. -/
  | mdioAccess (agent : Owner) (m : Fin 2) (v : Word)
  /-- CAN_ENABLE (R432). A CANn.CTRL write with EN = 1. -/
  | canEnable (agent : Owner) (n : Fin 4) (v : Word)
  /-- CAN_RECEIVE (R432). A CAN frame arrives: the fields of its ring entry. -/
  | canReceive (n : Fin 4) (fmt : Fin 3) (ide : Bool) (id : BitVec 29) (sec : Bool) (sdt vcid : BitVec 8) (af : BitVec 32) (data : List (BitVec 8))
  /-- CAN_TRANSMIT (R432). The controller sends its next transmit entry. -/
  | canTransmit (n : Fin 4)
  /-- SPI_TX (R433). A write to SPIn.TX. -/
  | spiTx (agent : Owner) (n : Fin 8) (v : Word)
  /-- UART_TX (R433). A write to UARTn.TX. -/
  | uartTx (agent : Owner) (n : Fin 2) (v : Word)
  /-- SERIAL_RX_READ (R433). A read of SPIn.RX (0 to 7) or UARTn.RX (8, 9). -/
  | serialRxRead (agent : Owner) (u : Fin 10)
  /-- UART_RECEIVE (R433). A character arrives, with its parity and framing errors. -/
  | uartReceive (n : Fin 2) (v : BitVec 9) (pe fe : Bool)
  /-- LINK_UP (R410). The SGMII partner gains sync and indicates its link; `gigabit`: at 1000 Mbit/s full duplex. -/
  | linkUp (m : Fin 2) (gigabit : Bool)
  /-- MAC_FRAME_RECEIVE (R410). A frame arrives on a MAC, with its 802.1Q VID and whether it came under MACsec. -/
  | macFrameReceive (m : Fin 2) (vlan : Option (BitVec 12)) (secure : Bool) (f : MacFrame)
  /-- BUS_OFF_RECOVERY (R431). 128 × 11 recessive bits have passed. -/
  | busOffRecovery (n : Fin 4)
  /-- TRNG_HEALTH_PASS (R401). The TRNG health test passes again. -/
  | trngHealthPass
  /-- OTP_COMMAND_DONE (R396). Fuse programming ends. -/
  | otpCommandDone
  /-- UNLOCK_DONE (R406). The verification of an UNLOCK ends. -/
  | unlockDone
  /-- MDIO_ACCESS_DONE (R443). An MDIO access ends; `data`: what a read returned. -/
  | mdioAccessDone (m : Fin 2) (data : BitVec 16)
  /-- SPI_WORD_DONE (R433). A word has been shifted; `v`: what was shifted in. -/
  | spiWordDone (n : Fin 8) (v : Word)
  /-- UART_CHARACTER_SENT (R433). A character has been sent. -/
  | uartCharacterSent (n : Fin 2)
  /-- SERIAL_ENABLE (R433). A write to SPIn.CTRL (0 to 7) or UARTn.CTRL (8, 9). -/
  | serialEnable (agent : Owner) (u : Fin 10) (v : Word)
  /-- BUSACC (R405). The debug agent writes `data`, or reads. -/
  | busacc (adr : Addr) (data : Option Word)
  /-- EXTEST (R405). The EXTEST instruction with its boundary-scan pattern; `tap`: another instruction or a reset of the TAP in its
  place. -/
  | extest (pins : List Bool) (tap : Option TapOp := none)
deriving DecidableEq, Repr

end Sys2Proof
end

