-- ==== Sys2Proof/WellFormed.lean ====
section
/-! DEFINITION. Which commands have the form that the spec gives them: operands that come in lists have one entry per
instance. -/

namespace Sys2Proof

/-- R53, R59: one code per slot of a sample set. -/
def slotCodesOk (raw : List (BitVec 18)) : Bool := raw.length == 16

/-- R363: one junction temperature per island. -/
def tempsOk (temps : List (BitVec 9)) : Bool := temps.length == 32

/-- R171: one VIOG voltage per port group. -/
def startOk (d : StartIn) : Bool := d.vio.length == 12

/-- A command of a form that exists. -/
def Instr.wf (i : Instr) : Bool :=
  match i with
  | .conversionEnd _ raw _ => slotCodesOk raw
  | .tjSample temps _ _ => tempsOk temps
  | .coldStart d => startOk d
  | .warmStart d => startOk d
  | _ => true

end Sys2Proof
end

