-- ==== Sys2Proof/Decode.lean ====
section
/-! DEFINITION. Commands from words: no row of spec/opcode_table.json gives its command any bits, so no word spells one. The words
of Gnoud-36 are decoded beside it, into the commands of a core (R188, R189, R194 to R196, R203, R204, R209 to R215). -/

namespace Sys2Proof

/-- The command that a word spells by the table's bits: the table gives none. -/
def decodeTableWord (_nbits _w : Nat) : Option Instr := none

/-! ### Fields (R188) -/

/-- The `n` bits of a word from bit `lo` on. -/
def gField (w lo n : Nat) : Nat := w / 2 ^ lo % 2 ^ n

/-- R184, R188: the register specifiers D, A and B. -/
def gD (w : Nat) : Fin 32 := Fin.ofNat 32 (gField w 25 5)
def gA (w : Nat) : Fin 32 := Fin.ofNat 32 (gField w 20 5)
def gB (w : Nat) : Fin 32 := Fin.ofNat 32 (gField w 15 5)

/-- R188: K, S and F of FN; SEL and CFN of a coprocessor word; IMM20; COND and DISP26. -/
def gK (w : Nat) : BitVec 6 := BitVec.ofNat 6 (gField w 9 6)
def gS (w : Nat) : Bool := gField w 8 1 == 1
def gF (w : Nat) : Nat := gField w 0 8
def gSel (w : Nat) : Nat := gField w 10 5
def gCfn (w : Nat) : Nat := gField w 0 10
def gImm (w : Nat) : BitVec 20 := BitVec.ofNat 20 w
def gCond (w : Nat) : BitVec 4 := BitVec.ofNat 4 (gField w 26 4)
def gDisp (w : Nat) : BitVec 26 := BitVec.ofNat 26 w

/-- R188: the major opcode. -/
def gOp (w : Nat) : Nat := gField w 30 6

/-! ### Groups -/

/-- R195: the ALU group. -/
def gnoudAlu (c : Fin 8) (w : Nat) : Instr :=
  let d := gD w
  let a := gA w
  let b := gB w
  let k := gK w
  let f := gS w
  match gF w with
  | 0x00 => .add c d a b f
  | 0x01 => .adc c d a b f
  | 0x02 => .sub c d a b f
  | 0x03 => .sbc c d a b f
  | 0x04 => .and c d a b f
  | 0x05 => .or c d a b f
  | 0x06 => .xor c d a b f
  | 0x07 => .andn c d a b f
  | 0x08 => .shl c d a b f
  | 0x09 => .shr c d a b f
  | 0x0A => .sar c d a b f
  | 0x0B => .rol c d a b f
  | 0x0C => .shlk c d a k f
  | 0x0D => .shrk c d a k f
  | 0x0E => .sark c d a k f
  | 0x0F => .rolk c d a k f
  | 0x10 => .cmp c a b
  | 0x11 => .tst c a b
  | 0x12 => .min c d a b f
  | 0x13 => .max c d a b f
  | 0x14 => .minu c d a b f
  | 0x15 => .maxu c d a b f
  | 0x16 => .mov c d a f
  | 0x17 => .not c d a f
  | 0x18 => .neg c d a f
  | 0x19 => .abs c d a f
  | 0x1A => .clz c d a f
  | 0x1B => .popc c d a f
  | 0x1C => .sel c d a b k
  | 0x20 => .exh c d a k f
  | 0x21 => .insh c d a k f
  | 0x22 => .swaph c d a f
  | 0x23 => .addh c d a b
  | 0x24 => .exb c d a k f
  | 0x25 => .inb c d a k f
  | 0x26 => .bswap c d a f
  | 0x28 => .addf c d a b f
  | 0x29 => .subf c d a b f
  | 0x2A => .negf c d a f
  | 0x2B => .absf c d a f
  | 0x2C => .shlf c d a k f
  | 0x30 => .addd c d a b f
  | 0x31 => .subd c d a b f
  | 0x32 => .movd c d a f
  | 0x33 => .cmpd c a b
  | 0x38 => .mfs c d
  | 0x39 => .mts c a
  | _ => .illegal c 1

/-- R203: the SYS group; FN[14:12] is the subop, FN[11:0] its operand. -/
def gnoudSys (c : Fin 8) (w : Nat) : Instr :=
  match gField w 12 3 with
  | 0 => .nop c
  | 1 => .sync c
  | 2 => .trap c (BitVec.ofNat 8 w)
  | 3 => .hold c (BitVec.ofNat 12 w)
  | 4 => .rete c
  | 5 => .retw c
  | 6 => .waite c (gD w) (gA w)
  | _ => .illegal c 1

/-- R204: the LONG group. -/
def gnoudLong (c : Fin 8) (w : Nat) : Instr :=
  match gF w with
  | 0 => .movb c (gD w) (gA w) (gB w)
  | 1 => .crcb c (gD w) (gA w) (gB w) (gK w)
  | 2 => .srch c (gD w) (gA w) (gB w) (gK w)
  | _ => .illegal c 1

/-- R211: CP1. -/
def gnoudMath (c : Fin 8) (w : Nat) : Instr :=
  let d := gD w
  let a := gA w
  let b := gB w
  let n : Fin 4 := Fin.ofNat 4 (gSel w)
  match gCfn w with
  | 0x000 => .mul c a b n
  | 0x001 => .mulu c a b n
  | 0x002 => .mac c a b n
  | 0x003 => .msu c a b n
  | 0x008 => .rdh c d n
  | 0x009 => .rdl c d n
  | 0x00A => .rdf c d n
  | 0x00B => .rdd c d n
  | 0x00C => .wra c a b n
  | 0x00D => .rdm c d n
  | 0x00E => .rds c d
  | 0x010 => .div c a b
  | 0x011 => .divu c a b
  | 0x012 => .divf c a b
  | 0x014 => .sqrt c a
  | 0x015 => .sqrtf c a
  | 0x018 => .crot c d a b
  | 0x019 => .cvec c a b
  | _ => .illegal c 1

/-- R213: CP0. -/
def gnoudEngine (c : Fin 8) (w : Nat) : Instr :=
  let e : Fin 32 := Fin.ofNat 32 (gSel w)
  match gCfn w with
  | 0 => .ecmd c (gA w) e
  | 1 => .eres c (gD w) e
  | 2 => .est c (gD w) e
  | f => if 0x10 ≤ f ∧ f < 0x20 then .eprm c (gA w) e (Fin.ofNat 16 f) else .illegal c 1

/-- R214, R215: CP2 and CP3. -/
def gnoudSecurity (c : Fin 8) (w : Nat) : Instr :=
  match gCfn w with
  | 0 => .submit c (gD w) (gA w)
  | 1 => .poll c (gD w) (gA w)
  | _ => .illegal c 1

def gnoudReel (c : Fin 8) (w : Nat) : Instr :=
  match gCfn w with
  | 0 => .rrdi c (gD w) (gA w) (gB w)
  | 1 => .rwri c (gD w) (gA w) (gB w)
  | 2 => .rxf c (gD w) (gA w) (gB w)
  | 3 => .rxr c (gD w)
  | _ => .illegal c 1

/-- R188, R189, R194: the instruction of a core that a word spells, with the word `x` after it, which the L format takes; a reserved
opcode and a reserved function are ILLEGAL. -/
def decodeGnoud (c : Fin 8) (w : Nat) (x : Word) : Instr :=
  let d := gD w
  let a := gA w
  let i := gImm w
  match gOp w with
  | 0x00 => gnoudAlu c w
  | 0x01 => (match gF w with | 0 => .jmpr c a | 1 => .callwr c a | _ => .illegal c 1)
  | 0x02 => gnoudLong c w
  | 0x03 => gnoudSys c w
  | 0x08 => .addi c d a i
  | 0x09 => .andi c d a i
  | 0x0A => .ori c d a i
  | 0x0B => .xori c d a i
  | 0x0C => .cmpi c a i
  | 0x0D => .movi c d i
  | 0x0E => .lih c d i
  | 0x0F => .bfx c d a i
  | 0x10 => .bfi c d a i
  | 0x11 => .loop c a i
  | 0x14 => .ld c d a i
  | 0x15 => .st c d a i
  | 0x16 => .ldd c d a i
  | 0x17 => .std c d a i
  | 0x18 => .lea c d a i
  | 0x1C => .movl c d x
  | 0x1D => .ldl c d x
  | 0x1E => .stl c d x
  | 0x1F => .lddl c d x
  | 0x20 => .stdl c d x
  | 0x21 => .jmpl c x
  | 0x22 => .callwl c x
  | 0x23 => .addl c d a x
  | 0x28 => .br c (gCond w) (gDisp w)
  | 0x29 => .callw c (gCond w) (gDisp w)
  | 0x38 => gnoudEngine c w
  | 0x39 => gnoudMath c w
  | 0x3A => gnoudSecurity c w
  | 0x3B => gnoudReel c w
  | o => if 0x3C ≤ o then .cpAbsent c (Fin.ofNat 4 o) else .illegal c 0

end Sys2Proof
end

