-- ==== Sys2Proof/Config.lean ====
section
/-! DEFINITION. What the spec leaves free: constants with no body, so that no proof can know a value of them. Each is named
in the assumption log. -/

namespace Sys2Proof.Config

/-- A fresh free value, by the number of free values drawn before. -/
opaque freeValue : Nat → Nat

/-- R65: cal_off of a core at a gain, by the self-calibration that measured it. -/
opaque calOff : Nat → Nat → Nat → Int

/-- R65: cal_gain of a core at a gain, less 1, in units of 2^−21, by the self-calibration that measured it. -/
opaque calGain : Nat → Nat → Nat → Int

/-- R64: what an offset outside 18 bits gives, by core, gain and exact sum; the spec does not say. -/
opaque adcOff : Nat → Nat → Int → Nat

/-- R176: whether the board ties CUTn to CUTINn. -/
opaque cutTied : Bool

/-- R88: whether a resolver's reading between two counts is the upper one: speed in 2^−32 counts per tick and the ticks since the
last update. The spec does not state the rounding. -/
opaque extrapolateUp : Int → Nat → Bool

/-- R89: whether the tracker's error counts as above 2^−7 revolution where AMPNOM is 0 and the error has no value. -/
opaque wideAtZero : Int → Bool

/-- R88: the type-II loop: what of its position step in counts and of its speed change in 2^−32 counts per tick the rule leaves open, from
the error as numerator and denominator, the speed, the bandwidth in use and the ticks since the last update. -/
opaque trackStep : Int → Nat → Int → Nat → Nat → Int
opaque trackSpeed : Int → Nat → Int → Nat → Nat → Int

/-- R109: how far a result of CORDIC, PARK, IPARK, CLK or SVM lies from the exact one, before the bound of R109 is put on
it, and the values that R109 does not give: by opcode, output and operand values. -/
opaque lawDev : Nat → Nat → List Int → Int

/-- R119: one step of the 16-bit signature of the ops that issued as no-ops; the spec does not give its form. -/
opaque sigStep : Nat → Nat → Nat

/-- FIPS 202, named by R395 and R400: SHA3-512 of octets, and of words that enter as their 36 bits, bit 35 first; a 512-bit
number. The spec refers to the standard and does not write the function out. -/
opaque sha3 : List Nat → Nat
opaque sha3Words : List Nat → Nat

/-- FIPS 204, named by R395 and R402: ML-DSA-87 verification of a signature (public key, signature, message, context), a
signature (seed, message, context, randomness), and the public key of a seed, as octets. Contexts are those of `Ctx`. -/
opaque mldsaVerify : List Nat → List Nat → List Nat → Nat → Bool
opaque mldsaSign : Nat → List Nat → Nat → Nat → List Nat
opaque mldsaPublic : Nat → List Nat

/-- FIPS 203, named by R404: the ML-KEM-1024 encapsulation key of a random seed, and the shared secret of a ciphertext. -/
opaque mlkemKey : Nat → List Nat
opaque mlkemSecret : Nat → List Nat → List Nat

/-- AES-256-GCM, named by R400 and R415: ciphertext and tag from key, IV, additional data and plaintext; and the plaintext, or
none where the tag does not match. -/
opaque gcmSeal : Nat → List Nat → List Nat → List Nat → List Nat × List Nat
opaque gcmOpen : Nat → List Nat → List Nat → List Nat → List Nat → Option (List Nat)

end Sys2Proof.Config
end

