-- ==== Sys2Proof/Machine/RegMap.lean ====
section
/-! DEFINITION. The control-register map: one name for every field of every register table of the spec, with its
word address (R27, the offsets of each chapter), its lowest bit and its width. Instance numbers are the arguments. -/

namespace Sys2Proof.Machine

/-- A field of a control register: word address, lowest bit, width. -/
structure FRef where
  adr : Nat
  lo : Nat
  w : Nat
deriving DecidableEq, Repr

/-- The key a field is stored under: no two fields of the map share one. -/
def FRef.key (r : FRef) : Nat := r.adr * 64 + r.lo

/-- SYS.ID, chapter 01. -/
@[simp] abbrev SYS.ID.adr : Nat := 0x02000000
abbrev SYS.ID.VENDOR : FRef := ⟨SYS.ID.adr, 24, 12⟩
abbrev SYS.ID.PART : FRef := ⟨SYS.ID.adr, 8, 16⟩
abbrev SYS.ID.REV : FRef := ⟨SYS.ID.adr, 0, 8⟩

/-- SYS.UID, chapter 01. -/
@[simp] abbrev SYS.UID.adr (k : Nat) : Nat := 0x02000001 + k
abbrev SYS.UID.UID (k : Nat) : FRef := ⟨SYS.UID.adr k, 0, 36⟩

/-- SYS.OPTIONS, chapter 01. -/
@[simp] abbrev SYS.OPTIONS.adr : Nat := 0x02000005
abbrev SYS.OPTIONS.RDP : FRef := ⟨SYS.OPTIONS.adr, 3, 2⟩
abbrev SYS.OPTIONS.FUSED : FRef := ⟨SYS.OPTIONS.adr, 2, 1⟩
abbrev SYS.OPTIONS.SPLIT : FRef := ⟨SYS.OPTIONS.adr, 1, 1⟩

/-- SYS.CLM, chapter 01. -/
@[simp] abbrev SYS.CLM.adr (r : Nat) : Nat := 0x02001000 + r
abbrev SYS.CLM.FEATURE (r : Nat) : FRef := ⟨SYS.CLM.adr r, 8, 12⟩
abbrev SYS.CLM.OWNER (r : Nat) : FRef := ⟨SYS.CLM.adr r, 0, 8⟩

/-- SYS.FST, chapter 01. -/
@[simp] abbrev SYS.FST.adr (f : Nat) : Nat := 0x02002000 + f
abbrev SYS.FST.HOLDER (f : Nat) : FRef := ⟨SYS.FST.adr f, 20, 12⟩
abbrev SYS.FST.CRES (f : Nat) : FRef := ⟨SYS.FST.adr f, 8, 12⟩
abbrev SYS.FST.STATE (f : Nat) : FRef := ⟨SYS.FST.adr f, 0, 2⟩

/-- TC.NOWHI, chapter 01. -/
@[simp] abbrev TC.NOWHI.adr : Nat := 0x02010000
abbrev TC.NOWHI.TCH : FRef := ⟨TC.NOWHI.adr, 0, 28⟩

/-- TC.NOWLO, chapter 01. -/
@[simp] abbrev TC.NOWLO.adr : Nat := 0x02010001
abbrev TC.NOWLO.TCL : FRef := ⟨TC.NOWLO.adr, 0, 36⟩

/-- TC.STATUS, chapter 01. -/
@[simp] abbrev TC.STATUS.adr : Nat := 0x02010002
abbrev TC.STATUS.EPOCH : FRef := ⟨TC.STATUS.adr, 4, 16⟩
abbrev TC.STATUS.HOLDOVER : FRef := ⟨TC.STATUS.adr, 3, 1⟩
abbrev TC.STATUS.REFLOST : FRef := ⟨TC.STATUS.adr, 2, 1⟩
abbrev TC.STATUS.LOCK : FRef := ⟨TC.STATUS.adr, 1, 1⟩

/-- TC.CMPHI, chapter 01. -/
@[simp] abbrev TC.CMPHI.adr (n : Nat) : Nat := 0x02010100 + 0x4 * n
abbrev TC.CMPHI.CMPH (n : Nat) : FRef := ⟨TC.CMPHI.adr n, 0, 28⟩

/-- TC.CMPLO, chapter 01. -/
@[simp] abbrev TC.CMPLO.adr (n : Nat) : Nat := 0x02010101 + 0x4 * n
abbrev TC.CMPLO.CMPL (n : Nat) : FRef := ⟨TC.CMPLO.adr n, 0, 36⟩

/-- TC.PERIOD, chapter 01. -/
@[simp] abbrev TC.PERIOD.adr (n : Nat) : Nat := 0x02010102 + 0x4 * n
abbrev TC.PERIOD.PERIOD (n : Nat) : FRef := ⟨TC.PERIOD.adr n, 0, 36⟩

/-- TC.CTRL, chapter 01. -/
@[simp] abbrev TC.CTRL.adr (n : Nat) : Nat := 0x02010103 + 0x4 * n
abbrev TC.CTRL.CLAIM (n : Nat) : FRef := ⟨TC.CTRL.adr n, 4, 1⟩
abbrev TC.CTRL.LATE (n : Nat) : FRef := ⟨TC.CTRL.adr n, 3, 1⟩
abbrev TC.CTRL.FIRED (n : Nat) : FRef := ⟨TC.CTRL.adr n, 2, 1⟩
abbrev TC.CTRL.PERIODIC (n : Nat) : FRef := ⟨TC.CTRL.adr n, 1, 1⟩
abbrev TC.CTRL.EN (n : Nat) : FRef := ⟨TC.CTRL.adr n, 0, 1⟩

/-- GP.LAT, chapter 02. -/
@[simp] abbrev GP.LAT.adr (p : Nat) : Nat := 0x0206010D + 0x20 * p
abbrev GP.LAT.SEQ (p : Nat) : FRef := ⟨GP.LAT.adr p, 28, 8⟩
abbrev GP.LAT.REV (p : Nat) : FRef := ⟨GP.LAT.adr p, 27, 1⟩
abbrev GP.LAT.LATE (p : Nat) : FRef := ⟨GP.LAT.adr p, 26, 1⟩
abbrev GP.LAT.DEF (p : Nat) : FRef := ⟨GP.LAT.adr p, 25, 1⟩
abbrev GP.LAT.EDGE (p : Nat) : FRef := ⟨GP.LAT.adr p, 22, 2⟩
abbrev GP.LAT.LAT (p : Nat) : FRef := ⟨GP.LAT.adr p, 0, 16⟩

/-- SAMP.STATUS, chapter 03. -/
@[simp] abbrev SAMP.STATUS.adr : Nat := 0x02050000
abbrev SAMP.STATUS.CALREF : FRef := ⟨SAMP.STATUS.adr, 3, 1⟩
abbrev SAMP.STATUS.CALBUSY : FRef := ⟨SAMP.STATUS.adr, 2, 1⟩
abbrev SAMP.STATUS.CALOK : FRef := ⟨SAMP.STATUS.adr, 1, 1⟩
abbrev SAMP.STATUS.TRIMOK : FRef := ⟨SAMP.STATUS.adr, 0, 1⟩

/-- SAMP.CAL, chapter 03. -/
@[simp] abbrev SAMP.CAL.adr : Nat := 0x02050001
abbrev SAMP.CAL.CALAGE : FRef := ⟨SAMP.CAL.adr, 24, 12⟩
abbrev SAMP.CAL.CALTEMP : FRef := ⟨SAMP.CAL.adr, 12, 12⟩
abbrev SAMP.CAL.CALGO : FRef := ⟨SAMP.CAL.adr, 0, 1⟩

/-- SS.CTRL, chapter 03. -/
@[simp] abbrev SS.CTRL.adr (n : Nat) : Nat := 0x02050100 + 0x40 * n
abbrev SS.CTRL.OWNER (n : Nat) : FRef := ⟨SS.CTRL.adr n, 28, 8⟩
abbrev SS.CTRL.OFFSET (n : Nat) : FRef := ⟨SS.CTRL.adr n, 14, 14⟩
abbrev SS.CTRL.SRCEV (n : Nat) : FRef := ⟨SS.CTRL.adr n, 12, 2⟩
abbrev SS.CTRL.SRCNUM (n : Nat) : FRef := ⟨SS.CTRL.adr n, 5, 7⟩
abbrev SS.CTRL.SRC (n : Nat) : FRef := ⟨SS.CTRL.adr n, 2, 3⟩
abbrev SS.CTRL.GO (n : Nat) : FRef := ⟨SS.CTRL.adr n, 1, 1⟩
abbrev SS.CTRL.EN (n : Nat) : FRef := ⟨SS.CTRL.adr n, 0, 1⟩

/-- SS.DEST, chapter 03. -/
@[simp] abbrev SS.DEST.adr (n : Nat) : Nat := 0x02050101 + 0x40 * n
abbrev SS.DEST.ENG (n : Nat) : FRef := ⟨SS.DEST.adr n, 0, 24⟩

/-- SS.STAT, chapter 03. -/
@[simp] abbrev SS.STAT.adr (n : Nat) : Nat := 0x02050102 + 0x40 * n
abbrev SS.STAT.SEQ (n : Nat) : FRef := ⟨SS.STAT.adr n, 28, 8⟩
abbrev SS.STAT.OVCNT (n : Nat) : FRef := ⟨SS.STAT.adr n, 20, 8⟩
abbrev SS.STAT.WAIT (n : Nat) : FRef := ⟨SS.STAT.adr n, 12, 8⟩
abbrev SS.STAT.WREJ (n : Nat) : FRef := ⟨SS.STAT.adr n, 5, 1⟩
abbrev SS.STAT.OVRUN (n : Nat) : FRef := ⟨SS.STAT.adr n, 4, 1⟩
abbrev SS.STAT.SCENE (n : Nat) : FRef := ⟨SS.STAT.adr n, 3, 1⟩
abbrev SS.STAT.PEND (n : Nat) : FRef := ⟨SS.STAT.adr n, 2, 1⟩
abbrev SS.STAT.BUSY (n : Nat) : FRef := ⟨SS.STAT.adr n, 1, 1⟩

/-- SS.STAMP, chapter 03. -/
@[simp] abbrev SS.STAMP.adr (n : Nat) : Nat := 0x02050103 + 0x40 * n
abbrev SS.STAMP.STAMP (n : Nat) : FRef := ⟨SS.STAMP.adr n, 0, 36⟩

/-- SS.SLOT, chapter 03. -/
@[simp] abbrev SS.SLOT.adr (n : Nat) (k : Nat) : Nat := 0x02050110 + 0x40 * n + k
abbrev SS.SLOT.EN (n : Nat) (k : Nat) : FRef := ⟨SS.SLOT.adr n k, 15, 1⟩
abbrev SS.SLOT.DIFF (n : Nat) (k : Nat) : FRef := ⟨SS.SLOT.adr n k, 14, 1⟩
abbrev SS.SLOT.GAIN (n : Nat) (k : Nat) : FRef := ⟨SS.SLOT.adr n k, 12, 2⟩
abbrev SS.SLOT.FMT (n : Nat) (k : Nat) : FRef := ⟨SS.SLOT.adr n k, 11, 1⟩
abbrev SS.SLOT.CORE (n : Nat) (k : Nat) : FRef := ⟨SS.SLOT.adr n k, 6, 4⟩
abbrev SS.SLOT.AIN (n : Nat) (k : Nat) : FRef := ⟨SS.SLOT.adr n k, 0, 6⟩

/-- CMP.CTRL, chapter 03. -/
@[simp] abbrev CMP.CTRL.adr (n : Nat) : Nat := 0x02051000 + 0x8 * n
abbrev CMP.CTRL.OWNER (n : Nat) : FRef := ⟨CMP.CTRL.adr n, 28, 8⟩
abbrev CMP.CTRL.TRIPMAP (n : Nat) : FRef := ⟨CMP.CTRL.adr n, 16, 12⟩
abbrev CMP.CTRL.FILT (n : Nat) : FRef := ⟨CMP.CTRL.adr n, 10, 6⟩
abbrev CMP.CTRL.MODE (n : Nat) : FRef := ⟨CMP.CTRL.adr n, 9, 1⟩
abbrev CMP.CTRL.EVEN (n : Nat) : FRef := ⟨CMP.CTRL.adr n, 8, 1⟩
abbrev CMP.CTRL.HIEN (n : Nat) : FRef := ⟨CMP.CTRL.adr n, 7, 1⟩
abbrev CMP.CTRL.LOEN (n : Nat) : FRef := ⟨CMP.CTRL.adr n, 6, 1⟩
abbrev CMP.CTRL.EN (n : Nat) : FRef := ⟨CMP.CTRL.adr n, 0, 1⟩

/-- CMP.THR, chapter 03. -/
@[simp] abbrev CMP.THR.adr (n : Nat) : Nat := 0x02051001 + 0x8 * n
abbrev CMP.THR.THH (n : Nat) : FRef := ⟨CMP.THR.adr n, 16, 16⟩
abbrev CMP.THR.THL (n : Nat) : FRef := ⟨CMP.THR.adr n, 0, 16⟩

/-- CMP.BLANK, chapter 03. -/
@[simp] abbrev CMP.BLANK.adr (n : Nat) : Nat := 0x02051002 + 0x8 * n
abbrev CMP.BLANK.HYST (n : Nat) : FRef := ⟨CMP.BLANK.adr n, 28, 8⟩
abbrev CMP.BLANK.BLEN (n : Nat) : FRef := ⟨CMP.BLANK.adr n, 18, 10⟩
abbrev CMP.BLANK.BEDGE (n : Nat) : FRef := ⟨CMP.BLANK.adr n, 16, 2⟩
abbrev CMP.BLANK.BPORT (n : Nat) : FRef := ⟨CMP.BLANK.adr n, 9, 7⟩

/-- CMP.STATUS, chapter 03. -/
@[simp] abbrev CMP.STATUS.adr (n : Nat) : Nat := 0x02051003 + 0x8 * n
abbrev CMP.STATUS.TRIPCNT (n : Nat) : FRef := ⟨CMP.STATUS.adr n, 16, 12⟩
abbrev CMP.STATUS.BLANKING (n : Nat) : FRef := ⟨CMP.STATUS.adr n, 3, 1⟩
abbrev CMP.STATUS.HI (n : Nat) : FRef := ⟨CMP.STATUS.adr n, 2, 1⟩
abbrev CMP.STATUS.LO (n : Nat) : FRef := ⟨CMP.STATUS.adr n, 1, 1⟩
abbrev CMP.STATUS.LIVE (n : Nat) : FRef := ⟨CMP.STATUS.adr n, 0, 1⟩

/-- CMP.STAMP, chapter 03. -/
@[simp] abbrev CMP.STAMP.adr (n : Nat) : Nat := 0x02051004 + 0x8 * n
abbrev CMP.STAMP.STAMP (n : Nat) : FRef := ⟨CMP.STAMP.adr n, 0, 36⟩

/-- PF.CTRL, chapter 04. -/
@[simp] abbrev PF.CTRL.adr (n : Nat) : Nat := 0x02070100 + 0x20 * n
abbrev PF.CTRL.OWNER (n : Nat) : FRef := ⟨PF.CTRL.adr n, 28, 8⟩
abbrev PF.CTRL.IXMODE (n : Nat) : FRef := ⟨PF.CTRL.adr n, 26, 2⟩
abbrev PF.CTRL.PCMPEN (n : Nat) : FRef := ⟨PF.CTRL.adr n, 25, 1⟩
abbrev PF.CTRL.EVIX (n : Nat) : FRef := ⟨PF.CTRL.adr n, 24, 1⟩
abbrev PF.CTRL.EVCMP (n : Nat) : FRef := ⟨PF.CTRL.adr n, 23, 1⟩
abbrev PF.CTRL.EVUPD (n : Nat) : FRef := ⟨PF.CTRL.adr n, 22, 1⟩
abbrev PF.CTRL.SRC (n : Nat) : FRef := ⟨PF.CTRL.adr n, 1, 3⟩
abbrev PF.CTRL.EN (n : Nat) : FRef := ⟨PF.CTRL.adr n, 0, 1⟩

/-- PF.CFG, chapter 04. -/
@[simp] abbrev PF.CFG.adr (n : Nat) : Nat := 0x02070101 + 0x20 * n
abbrev PF.CFG.ZEROT (n : Nat) : FRef := ⟨PF.CFG.adr n, 20, 16⟩
abbrev PF.CFG.NAVG (n : Nat) : FRef := ⟨PF.CFG.adr n, 17, 3⟩
abbrev PF.CFG.QMODE (n : Nat) : FRef := ⟨PF.CFG.adr n, 15, 2⟩
abbrev PF.CFG.FILT (n : Nat) : FRef := ⟨PF.CFG.adr n, 9, 6⟩
abbrev PF.CFG.DIRINV (n : Nat) : FRef := ⟨PF.CFG.adr n, 8, 1⟩

/-- PF.CPR, chapter 04. -/
@[simp] abbrev PF.CPR.adr (n : Nat) : Nat := 0x02070102 + 0x20 * n
abbrev PF.CPR.CPR (n : Nat) : FRef := ⟨PF.CPR.adr n, 0, 32⟩

/-- PF.IXVAL, chapter 04. -/
@[simp] abbrev PF.IXVAL.adr (n : Nat) : Nat := 0x02070103 + 0x20 * n
abbrev PF.IXVAL.IXVAL (n : Nat) : FRef := ⟨PF.IXVAL.adr n, 0, 36⟩

/-- PF.AUX, chapter 04. -/
@[simp] abbrev PF.AUX.adr (n : Nat) : Nat := 0x02070104 + 0x20 * n
abbrev PF.AUX.HSEQ (n : Nat) : FRef := ⟨PF.AUX.adr n, 18, 18⟩
abbrev PF.AUX.IXTOL (n : Nat) : FRef := ⟨PF.AUX.adr n, 0, 16⟩

/-- PF.POS, chapter 04. -/
@[simp] abbrev PF.POS.adr (n : Nat) : Nat := 0x02070105 + 0x20 * n
abbrev PF.POS.POS (n : Nat) : FRef := ⟨PF.POS.adr n, 0, 36⟩

/-- PF.ANGLE, chapter 04. -/
@[simp] abbrev PF.ANGLE.adr (n : Nat) : Nat := 0x02070106 + 0x20 * n
abbrev PF.ANGLE.TURNS (n : Nat) : FRef := ⟨PF.ANGLE.adr n, 20, 16⟩
abbrev PF.ANGLE.ANGLE (n : Nat) : FRef := ⟨PF.ANGLE.adr n, 0, 20⟩

/-- PF.SPD, chapter 04. -/
@[simp] abbrev PF.SPD.adr (n : Nat) : Nat := 0x02070107 + 0x20 * n
abbrev PF.SPD.SPD (n : Nat) : FRef := ⟨PF.SPD.adr n, 0, 36⟩

/-- PF.STAMP, chapter 04. -/
@[simp] abbrev PF.STAMP.adr (n : Nat) : Nat := 0x02070108 + 0x20 * n
abbrev PF.STAMP.STAMP (n : Nat) : FRef := ⟨PF.STAMP.adr n, 0, 36⟩

/-- PF.IXCNT, chapter 04. -/
@[simp] abbrev PF.IXCNT.adr (n : Nat) : Nat := 0x02070109 + 0x20 * n
abbrev PF.IXCNT.IXCNT (n : Nat) : FRef := ⟨PF.IXCNT.adr n, 0, 36⟩

/-- PF.IXDEV, chapter 04. -/
@[simp] abbrev PF.IXDEV.adr (n : Nat) : Nat := 0x0207010A + 0x20 * n
abbrev PF.IXDEV.IXDEV (n : Nat) : FRef := ⟨PF.IXDEV.adr n, 0, 36⟩

/-- PF.PCMP, chapter 04. -/
@[simp] abbrev PF.PCMP.adr (n : Nat) : Nat := 0x0207010B + 0x20 * n
abbrev PF.PCMP.PCMP (n : Nat) : FRef := ⟨PF.PCMP.adr n, 0, 36⟩

/-- PF.STATUS, chapter 04. -/
@[simp] abbrev PF.STATUS.adr (n : Nat) : Nat := 0x0207010C + 0x20 * n
abbrev PF.STATUS.WREJ (n : Nat) : FRef := ⟨PF.STATUS.adr n, 23, 1⟩
abbrev PF.STATUS.CFGERR (n : Nat) : FRef := ⟨PF.STATUS.adr n, 22, 1⟩
abbrev PF.STATUS.SIGLOST (n : Nat) : FRef := ⟨PF.STATUS.adr n, 21, 1⟩
abbrev PF.STATUS.BISSNOACK (n : Nat) : FRef := ⟨PF.STATUS.adr n, 20, 1⟩
abbrev PF.STATUS.BISSERR (n : Nat) : FRef := ⟨PF.STATUS.adr n, 19, 1⟩
abbrev PF.STATUS.BISSCRC (n : Nat) : FRef := ⟨PF.STATUS.adr n, 18, 1⟩
abbrev PF.STATUS.SENTERR (n : Nat) : FRef := ⟨PF.STATUS.adr n, 17, 1⟩
abbrev PF.STATUS.RESTRACK (n : Nat) : FRef := ⟨PF.STATUS.adr n, 16, 1⟩
abbrev PF.STATUS.RESAMP (n : Nat) : FRef := ⟨PF.STATUS.adr n, 15, 1⟩
abbrev PF.STATUS.HALLSKIP (n : Nat) : FRef := ⟨PF.STATUS.adr n, 14, 1⟩
abbrev PF.STATUS.HALLILL (n : Nat) : FRef := ⟨PF.STATUS.adr n, 13, 1⟩
abbrev PF.STATUS.QUADILL (n : Nat) : FRef := ⟨PF.STATUS.adr n, 12, 1⟩
abbrev PF.STATUS.IXDEVF (n : Nat) : FRef := ⟨PF.STATUS.adr n, 11, 1⟩
abbrev PF.STATUS.IXSEEN (n : Nat) : FRef := ⟨PF.STATUS.adr n, 7, 1⟩
abbrev PF.STATUS.DIRCHG (n : Nat) : FRef := ⟨PF.STATUS.adr n, 6, 1⟩
abbrev PF.STATUS.DIR (n : Nat) : FRef := ⟨PF.STATUS.adr n, 5, 1⟩
abbrev PF.STATUS.STOPPED (n : Nat) : FRef := ⟨PF.STATUS.adr n, 4, 1⟩
abbrev PF.STATUS.SCENE (n : Nat) : FRef := ⟨PF.STATUS.adr n, 3, 1⟩
abbrev PF.STATUS.PFAULT (n : Nat) : FRef := ⟨PF.STATUS.adr n, 2, 1⟩
abbrev PF.STATUS.VALID (n : Nat) : FRef := ⟨PF.STATUS.adr n, 1, 1⟩

/-- PF.RES0, chapter 04. -/
@[simp] abbrev PF.RES0.adr (n : Nat) : Nat := 0x0207010D + 0x20 * n
abbrev PF.RES0.RESSET (n : Nat) : FRef := ⟨PF.RES0.adr n, 31, 5⟩
abbrev PF.RES0.TRKBW (n : Nat) : FRef := ⟨PF.RES0.adr n, 26, 2⟩
abbrev PF.RES0.EXCAMP (n : Nat) : FRef := ⟨PF.RES0.adr n, 19, 7⟩
abbrev PF.RES0.EXCPER (n : Nat) : FRef := ⟨PF.RES0.adr n, 0, 19⟩

/-- PF.RES1, chapter 04. -/
@[simp] abbrev PF.RES1.adr (n : Nat) : Nat := 0x0207010E + 0x20 * n
abbrev PF.RES1.PHD (n : Nat) : FRef := ⟨PF.RES1.adr n, 20, 16⟩
abbrev PF.RES1.AMPNOM (n : Nat) : FRef := ⟨PF.RES1.adr n, 0, 16⟩

/-- PF.SER0, chapter 04. -/
@[simp] abbrev PF.SER0.adr (n : Nat) : Nat := 0x0207010F + 0x20 * n
abbrev PF.SER0.TICK (n : Nat) : FRef := ⟨PF.SER0.adr n, 28, 8⟩
abbrev PF.SER0.DNIB (n : Nat) : FRef := ⟨PF.SER0.adr n, 25, 3⟩
abbrev PF.SER0.CRCV (n : Nat) : FRef := ⟨PF.SER0.adr n, 24, 1⟩
abbrev PF.SER0.PAUSE (n : Nat) : FRef := ⟨PF.SER0.adr n, 23, 1⟩
abbrev PF.SER0.DBITS (n : Nat) : FRef := ⟨PF.SER0.adr n, 18, 5⟩
abbrev PF.SER0.MTBITS (n : Nat) : FRef := ⟨PF.SER0.adr n, 13, 5⟩

/-- PF.SER1, chapter 04. -/
@[simp] abbrev PF.SER1.adr (n : Nat) : Nat := 0x02070110 + 0x20 * n
abbrev PF.SER1.PERIOD (n : Nat) : FRef := ⟨PF.SER1.adr n, 0, 36⟩

/-- PF.SERRAW, chapter 04. -/
@[simp] abbrev PF.SERRAW.adr (n : Nat) : Nat := 0x02070111 + 0x20 * n
abbrev PF.SERRAW.RAW (n : Nat) : FRef := ⟨PF.SERRAW.adr n, 0, 36⟩

/-- PF.SLOW, chapter 04. -/
@[simp] abbrev PF.SLOW.adr (n : Nat) : Nat := 0x02070112 + 0x20 * n
abbrev PF.SLOW.MSG (n : Nat) : FRef := ⟨PF.SLOW.adr n, 35, 1⟩
abbrev PF.SLOW.ENH (n : Nat) : FRef := ⟨PF.SLOW.adr n, 34, 1⟩
abbrev PF.SLOW.ID (n : Nat) : FRef := ⟨PF.SLOW.adr n, 16, 8⟩
abbrev PF.SLOW.DATA (n : Nat) : FRef := ⟨PF.SLOW.adr n, 0, 16⟩

/-- EMU.CTRL, chapter 04. -/
@[simp] abbrev EMU.CTRL.adr (n : Nat) : Nat := 0x02070800 + 0x4 * n
abbrev EMU.CTRL.OWNER (n : Nat) : FRef := ⟨EMU.CTRL.adr n, 28, 8⟩
abbrev EMU.CTRL.SRCCH (n : Nat) : FRef := ⟨EMU.CTRL.adr n, 24, 4⟩
abbrev EMU.CTRL.EN (n : Nat) : FRef := ⟨EMU.CTRL.adr n, 0, 1⟩

/-- EMU.RATIO, chapter 04. -/
@[simp] abbrev EMU.RATIO.adr (n : Nat) : Nat := 0x02070801 + 0x4 * n
abbrev EMU.RATIO.N (n : Nat) : FRef := ⟨EMU.RATIO.adr n, 18, 18⟩
abbrev EMU.RATIO.M (n : Nat) : FRef := ⟨EMU.RATIO.adr n, 0, 18⟩

/-- EMU.STATUS, chapter 04. -/
@[simp] abbrev EMU.STATUS.adr (n : Nat) : Nat := 0x02070802 + 0x4 * n
abbrev EMU.STATUS.DROP (n : Nat) : FRef := ⟨EMU.STATUS.adr n, 8, 16⟩
abbrev EMU.STATUS.LAG (n : Nat) : FRef := ⟨EMU.STATUS.adr n, 1, 1⟩
abbrev EMU.STATUS.ACTIVE (n : Nat) : FRef := ⟨EMU.STATUS.adr n, 0, 1⟩

/-- ENG.SPARES, chapter 05. -/
@[simp] abbrev ENG.SPARES.adr : Nat := 0x02080000
abbrev ENG.SPARES.SPARE : FRef := ⟨ENG.SPARES.adr, 0, 24⟩

/-- ENG.FOLOG, chapter 05. -/
@[simp] abbrev ENG.FOLOG.adr : Nat := 0x02080001
abbrev ENG.FOLOG.FROM : FRef := ⟨ENG.FOLOG.adr, 24, 5⟩
abbrev ENG.FOLOG.TO : FRef := ⟨ENG.FOLOG.adr, 16, 5⟩
abbrev ENG.FOLOG.SEQ : FRef := ⟨ENG.FOLOG.adr, 8, 8⟩
abbrev ENG.FOLOG.RESULT : FRef := ⟨ENG.FOLOG.adr, 0, 2⟩

/-- ENG.FOSTAMP, chapter 05. -/
@[simp] abbrev ENG.FOSTAMP.adr : Nat := 0x02080002
abbrev ENG.FOSTAMP.STAMP : FRef := ⟨ENG.FOSTAMP.adr, 0, 36⟩

/-- LE.CTRL, chapter 05. -/
@[simp] abbrev LE.CTRL.adr (e : Nat) : Nat := 0x02080100 + 0x20 * e
abbrev LE.CTRL.OWNER (e : Nat) : FRef := ⟨LE.CTRL.adr e, 28, 8⟩
abbrev LE.CTRL.REL (e : Nat) : FRef := ⟨LE.CTRL.adr e, 27, 1⟩
abbrev LE.CTRL.FOVR (e : Nat) : FRef := ⟨LE.CTRL.adr e, 26, 1⟩

/-- LE.TRIG, chapter 05. -/
@[simp] abbrev LE.TRIG.adr (e : Nat) : Nat := 0x02080101 + 0x20 * e
abbrev LE.TRIG.KIND (e : Nat) : FRef := ⟨LE.TRIG.adr e, 9, 3⟩
abbrev LE.TRIG.NUM (e : Nat) : FRef := ⟨LE.TRIG.adr e, 0, 9⟩

/-- LE.CMD, chapter 05. -/
@[simp] abbrev LE.CMD.adr (e : Nat) : Nat := 0x02080102 + 0x20 * e
abbrev LE.CMD.CODE (e : Nat) : FRef := ⟨LE.CMD.adr e, 0, 4⟩

/-- LE.RESULT, chapter 05. -/
@[simp] abbrev LE.RESULT.adr (e : Nat) : Nat := 0x02080103 + 0x20 * e
abbrev LE.RESULT.STATUS (e : Nat) : FRef := ⟨LE.RESULT.adr e, 32, 4⟩
abbrev LE.RESULT.STATE (e : Nat) : FRef := ⟨LE.RESULT.adr e, 28, 4⟩
abbrev LE.RESULT.INFO (e : Nat) : FRef := ⟨LE.RESULT.adr e, 16, 12⟩
abbrev LE.RESULT.PENDING (e : Nat) : FRef := ⟨LE.RESULT.adr e, 15, 1⟩
abbrev LE.RESULT.CODE (e : Nat) : FRef := ⟨LE.RESULT.adr e, 0, 4⟩

/-- LE.STATUS, chapter 05. -/
@[simp] abbrev LE.STATUS.adr (e : Nat) : Nat := 0x02080104 + 0x20 * e
abbrev LE.STATUS.OVF (e : Nat) : FRef := ⟨LE.STATUS.adr e, 8, 8⟩
abbrev LE.STATUS.QOVF (e : Nat) : FRef := ⟨LE.STATUS.adr e, 7, 1⟩
abbrev LE.STATUS.WREJ (e : Nat) : FRef := ⟨LE.STATUS.adr e, 6, 1⟩
abbrev LE.STATUS.HELD (e : Nat) : FRef := ⟨LE.STATUS.adr e, 5, 1⟩
abbrev LE.STATUS.RUN (e : Nat) : FRef := ⟨LE.STATUS.adr e, 4, 1⟩
abbrev LE.STATUS.STATE (e : Nat) : FRef := ⟨LE.STATUS.adr e, 0, 4⟩

/-- LE.LAW, chapter 05. -/
@[simp] abbrev LE.LAW.adr (e : Nat) : Nat := 0x02080105 + 0x20 * e
abbrev LE.LAW.NOPS (e : Nat) : FRef := ⟨LE.LAW.adr e, 24, 12⟩
abbrev LE.LAW.CONLEN (e : Nat) : FRef := ⟨LE.LAW.adr e, 13, 11⟩
abbrev LE.LAW.STLEN (e : Nat) : FRef := ⟨LE.LAW.adr e, 2, 11⟩
abbrev LE.LAW.FAST (e : Nat) : FRef := ⟨LE.LAW.adr e, 1, 1⟩

/-- LE.LAWCRC, chapter 05. -/
@[simp] abbrev LE.LAWCRC.adr (e : Nat) : Nat := 0x02080106 + 0x20 * e
abbrev LE.LAWCRC.CRC (e : Nat) : FRef := ⟨LE.LAWCRC.adr e, 0, 32⟩

/-- LE.CYC, chapter 05. -/
@[simp] abbrev LE.CYC.adr (e : Nat) : Nat := 0x02080107 + 0x20 * e
abbrev LE.CYC.NCYC (e : Nat) : FRef := ⟨LE.CYC.adr e, 20, 16⟩
abbrev LE.CYC.CPO (e : Nat) : FRef := ⟨LE.CYC.adr e, 4, 16⟩

/-- LE.IMG, chapter 05. -/
@[simp] abbrev LE.IMG.adr (e : Nat) : Nat := 0x02080108 + 0x20 * e
abbrev LE.IMG.ADDR (e : Nat) : FRef := ⟨LE.IMG.adr e, 0, 32⟩

/-- LE.TR, chapter 05. -/
@[simp] abbrev LE.TR.adr (e : Nat) : Nat := 0x02080109 + 0x20 * e
abbrev LE.TR.TR (e : Nat) : FRef := ⟨LE.TR.adr e, 0, 16⟩

/-- LE.STAMP, chapter 05. -/
@[simp] abbrev LE.STAMP.adr (e : Nat) : Nat := 0x0208010A + 0x20 * e
abbrev LE.STAMP.STAMP (e : Nat) : FRef := ⟨LE.STAMP.adr e, 0, 36⟩

/-- LE.RUNS, chapter 05. -/
@[simp] abbrev LE.RUNS.adr (e : Nat) : Nat := 0x0208010B + 0x20 * e
abbrev LE.RUNS.RUNS (e : Nat) : FRef := ⟨LE.RUNS.adr e, 0, 36⟩

/-- LE.FCNT, chapter 05. -/
@[simp] abbrev LE.FCNT.adr (e : Nat) : Nat := 0x0208010C + 0x20 * e
abbrev LE.FCNT.TAKEF (e : Nat) : FRef := ⟨LE.FCNT.adr e, 24, 12⟩
abbrev LE.FCNT.RETAKEF (e : Nat) : FRef := ⟨LE.FCNT.adr e, 12, 12⟩
abbrev LE.FCNT.TOVR (e : Nat) : FRef := ⟨LE.FCNT.adr e, 0, 12⟩

/-- LE.PARAM, chapter 05. -/
@[simp] abbrev LE.PARAM.adr (e : Nat) (k : Nat) : Nat := 0x02080110 + 0x20 * e + k
abbrev LE.PARAM.PARAM (e : Nat) (k : Nat) : FRef := ⟨LE.PARAM.adr e k, 0, 36⟩

/-- REELS.XCTL, chapter 06. -/
@[simp] abbrev REELS.XCTL.adr : Nat := 0x02090000
abbrev REELS.XCTL.REEL : FRef := ⟨REELS.XCTL.adr, 6, 6⟩
abbrev REELS.XCTL.CMD : FRef := ⟨REELS.XCTL.adr, 0, 3⟩

/-- REELS.XADR, chapter 06. -/
@[simp] abbrev REELS.XADR.adr : Nat := 0x02090001
abbrev REELS.XADR.ADDR : FRef := ⟨REELS.XADR.adr, 0, 32⟩

/-- REELS.XRES, chapter 06. -/
@[simp] abbrev REELS.XRES.adr : Nat := 0x02090002
abbrev REELS.XRES.STATUS : FRef := ⟨REELS.XRES.adr, 32, 4⟩
abbrev REELS.XRES.EN : FRef := ⟨REELS.XRES.adr, 31, 1⟩
abbrev REELS.XRES.PENDING : FRef := ⟨REELS.XRES.adr, 15, 1⟩
abbrev REELS.XRES.REEL : FRef := ⟨REELS.XRES.adr, 6, 6⟩
abbrev REELS.XRES.CMD : FRef := ⟨REELS.XRES.adr, 0, 3⟩

/-- RL.CTRL, chapter 06. -/
@[simp] abbrev RL.CTRL.adr (n : Nat) : Nat := 0x02090100 + 0x10 * n
abbrev RL.CTRL.OWNER (n : Nat) : FRef := ⟨RL.CTRL.adr n, 28, 8⟩
abbrev RL.CTRL.ENG (n : Nat) : FRef := ⟨RL.CTRL.adr n, 23, 5⟩
abbrev RL.CTRL.CH (n : Nat) : FRef := ⟨RL.CTRL.adr n, 19, 4⟩
abbrev RL.CTRL.SIZE (n : Nat) : FRef := ⟨RL.CTRL.adr n, 16, 3⟩
abbrev RL.CTRL.BASE (n : Nat) : FRef := ⟨RL.CTRL.adr n, 8, 8⟩
abbrev RL.CTRL.SMOOTH (n : Nat) : FRef := ⟨RL.CTRL.adr n, 3, 1⟩
abbrev RL.CTRL.LEARN (n : Nat) : FRef := ⟨RL.CTRL.adr n, 2, 1⟩
abbrev RL.CTRL.EN (n : Nat) : FRef := ⟨RL.CTRL.adr n, 0, 1⟩

/-- RL.LRN, chapter 06. -/
@[simp] abbrev RL.LRN.adr (n : Nat) : Nat := 0x02090101 + 0x10 * n
abbrev RL.LRN.REXP (n : Nat) : FRef := ⟨RL.LRN.adr n, 28, 8⟩
abbrev RL.LRN.LEAD (n : Nat) : FRef := ⟨RL.LRN.adr n, 16, 12⟩
abbrev RL.LRN.GAIN (n : Nat) : FRef := ⟨RL.LRN.adr n, 0, 16⟩

/-- RL.LIMIT, chapter 06. -/
@[simp] abbrev RL.LIMIT.adr (n : Nat) : Nat := 0x02090102 + 0x10 * n
abbrev RL.LIMIT.LIMIT (n : Nat) : FRef := ⟨RL.LIMIT.adr n, 0, 35⟩

/-- RL.SPMIN, chapter 06. -/
@[simp] abbrev RL.SPMIN.adr (n : Nat) : Nat := 0x02090103 + 0x10 * n
abbrev RL.SPMIN.SPMIN (n : Nat) : FRef := ⟨RL.SPMIN.adr n, 0, 36⟩

/-- RL.SPMAX, chapter 06. -/
@[simp] abbrev RL.SPMAX.adr (n : Nat) : Nat := 0x02090104 + 0x10 * n
abbrev RL.SPMAX.SPMAX (n : Nat) : FRef := ⟨RL.SPMAX.adr n, 0, 36⟩

/-- RL.STATUS, chapter 06. -/
@[simp] abbrev RL.STATUS.adr (n : Nat) : Nat := 0x02090105 + 0x10 * n
abbrev RL.STATUS.OVLP (n : Nat) : FRef := ⟨RL.STATUS.adr n, 30, 6⟩
abbrev RL.STATUS.CFGERR (n : Nat) : FRef := ⟨RL.STATUS.adr n, 23, 1⟩
abbrev RL.STATUS.WREJ (n : Nat) : FRef := ⟨RL.STATUS.adr n, 22, 1⟩
abbrev RL.STATUS.SAT (n : Nat) : FRef := ⟨RL.STATUS.adr n, 21, 1⟩
abbrev RL.STATUS.MISS (n : Nat) : FRef := ⟨RL.STATUS.adr n, 20, 1⟩
abbrev RL.STATUS.NOIDX (n : Nat) : FRef := ⟨RL.STATUS.adr n, 19, 1⟩
abbrev RL.STATUS.DUE (n : Nat) : FRef := ⟨RL.STATUS.adr n, 18, 1⟩
abbrev RL.STATUS.DROP (n : Nat) : FRef := ⟨RL.STATUS.adr n, 17, 1⟩
abbrev RL.STATUS.FSPD (n : Nat) : FRef := ⟨RL.STATUS.adr n, 6, 1⟩
abbrev RL.STATUS.FCH (n : Nat) : FRef := ⟨RL.STATUS.adr n, 5, 1⟩
abbrev RL.STATUS.FLRN (n : Nat) : FRef := ⟨RL.STATUS.adr n, 4, 1⟩
abbrev RL.STATUS.LEARNING (n : Nat) : FRef := ⟨RL.STATUS.adr n, 3, 1⟩
abbrev RL.STATUS.XFER (n : Nat) : FRef := ⟨RL.STATUS.adr n, 2, 1⟩
abbrev RL.STATUS.WIN (n : Nat) : FRef := ⟨RL.STATUS.adr n, 1, 1⟩
abbrev RL.STATUS.ACTIVE (n : Nat) : FRef := ⟨RL.STATUS.adr n, 0, 1⟩

/-- RL.UPD, chapter 06. -/
@[simp] abbrev RL.UPD.adr (n : Nat) : Nat := 0x02090106 + 0x10 * n
abbrev RL.UPD.UPD (n : Nat) : FRef := ⟨RL.UPD.adr n, 0, 36⟩

/-- RL.CNT, chapter 06. -/
@[simp] abbrev RL.CNT.adr (n : Nat) : Nat := 0x02090107 + 0x10 * n
abbrev RL.CNT.MISSCNT (n : Nat) : FRef := ⟨RL.CNT.adr n, 24, 12⟩
abbrev RL.CNT.FRZCNT (n : Nat) : FRef := ⟨RL.CNT.adr n, 12, 12⟩
abbrev RL.CNT.DROPCNT (n : Nat) : FRef := ⟨RL.CNT.adr n, 0, 12⟩

/-- PORTS.CUTSTAT, chapter 07. -/
@[simp] abbrev PORTS.CUTSTAT.adr : Nat := 0x02060000
abbrev PORTS.CUTSTAT.CUTCNT : FRef := ⟨PORTS.CUTSTAT.adr, 20, 16⟩
abbrev PORTS.CUTSTAT.FIRST : FRef := ⟨PORTS.CUTSTAT.adr, 13, 3⟩
abbrev PORTS.CUTSTAT.CLRREF : FRef := ⟨PORTS.CUTSTAT.adr, 6, 1⟩
abbrev PORTS.CUTSTAT.SHOST : FRef := ⟨PORTS.CUTSTAT.adr, 5, 1⟩
abbrev PORTS.CUTSTAT.SUV : FRef := ⟨PORTS.CUTSTAT.adr, 4, 1⟩
abbrev PORTS.CUTSTAT.SIN : FRef := ⟨PORTS.CUTSTAT.adr, 3, 1⟩
abbrev PORTS.CUTSTAT.SCTU : FRef := ⟨PORTS.CUTSTAT.adr, 2, 1⟩
abbrev PORTS.CUTSTAT.LATCH : FRef := ⟨PORTS.CUTSTAT.adr, 0, 1⟩

/-- PORTS.CUTCMD, chapter 07. -/
@[simp] abbrev PORTS.CUTCMD.adr : Nat := 0x02060001
abbrev PORTS.CUTCMD.CLEAR : FRef := ⟨PORTS.CUTCMD.adr, 1, 1⟩
abbrev PORTS.CUTCMD.ASSERT : FRef := ⟨PORTS.CUTCMD.adr, 0, 1⟩

/-- PORTS.CUTSTAMP, chapter 07. -/
@[simp] abbrev PORTS.CUTSTAMP.adr : Nat := 0x02060002
abbrev PORTS.CUTSTAMP.STAMP : FRef := ⟨PORTS.CUTSTAMP.adr, 0, 36⟩

/-- GP.CTRL, chapter 07. -/
@[simp] abbrev GP.CTRL.adr (p : Nat) : Nat := 0x02060100 + 0x20 * p
abbrev GP.CTRL.OWNER (p : Nat) : FRef := ⟨GP.CTRL.adr p, 28, 8⟩
abbrev GP.CTRL.WSRC (p : Nat) : FRef := ⟨GP.CTRL.adr p, 20, 8⟩
abbrev GP.CTRL.PAIR (p : Nat) : FRef := ⟨GP.CTRL.adr p, 19, 1⟩
abbrev GP.CTRL.MODE (p : Nat) : FRef := ⟨GP.CTRL.adr p, 18, 1⟩
abbrev GP.CTRL.LOAD (p : Nat) : FRef := ⟨GP.CTRL.adr p, 17, 1⟩
abbrev GP.CTRL.EVQ (p : Nat) : FRef := ⟨GP.CTRL.adr p, 16, 1⟩
abbrev GP.CTRL.EVQS (p : Nat) : FRef := ⟨GP.CTRL.adr p, 14, 2⟩
abbrev GP.CTRL.EN (p : Nat) : FRef := ⟨GP.CTRL.adr p, 0, 1⟩

/-- GP.PERIOD, chapter 07. -/
@[simp] abbrev GP.PERIOD.adr (p : Nat) : Nat := 0x02060101 + 0x20 * p
abbrev GP.PERIOD.PERIOD (p : Nat) : FRef := ⟨GP.PERIOD.adr p, 0, 24⟩

/-- GP.START, chapter 07. -/
@[simp] abbrev GP.START.adr (p : Nat) : Nat := 0x02060102 + 0x20 * p
abbrev GP.START.START (p : Nat) : FRef := ⟨GP.START.adr p, 0, 36⟩

/-- GP.ACT, chapter 07. -/
@[simp] abbrev GP.ACT.adr (p : Nat) : Nat := 0x02060103 + 0x20 * p
abbrev GP.ACT.ACTZ (p : Nat) : FRef := ⟨GP.ACT.adr p, 10, 2⟩
abbrev GP.ACT.ACTP (p : Nat) : FRef := ⟨GP.ACT.adr p, 8, 2⟩
abbrev GP.ACT.ACTA (p : Nat) : FRef := ⟨GP.ACT.adr p, 6, 2⟩
abbrev GP.ACT.ACTB (p : Nat) : FRef := ⟨GP.ACT.adr p, 4, 2⟩
abbrev GP.ACT.ACTC (p : Nat) : FRef := ⟨GP.ACT.adr p, 2, 2⟩
abbrev GP.ACT.ACTD (p : Nat) : FRef := ⟨GP.ACT.adr p, 0, 2⟩

/-- GP.CMPX, chapter 07. -/
@[simp] abbrev GP.CMPX.adr (p : Nat) (x : Nat) : Nat := 0x02060104 + 0x20 * p + x
abbrev GP.CMPX.CMP (p : Nat) (x : Nat) : FRef := ⟨GP.CMPX.adr p x, 0, 30⟩

/-- GP.DT, chapter 07. -/
@[simp] abbrev GP.DT.adr (p : Nat) : Nat := 0x02060108 + 0x20 * p
abbrev GP.DT.DTR (p : Nat) : FRef := ⟨GP.DT.adr p, 18, 18⟩
abbrev GP.DT.DTF (p : Nat) : FRef := ⟨GP.DT.adr p, 0, 18⟩

/-- GP.EVT, chapter 07. -/
@[simp] abbrev GP.EVT.adr (p : Nat) (k : Nat) : Nat := 0x02060109 + 0x20 * p + k
abbrev GP.EVT.SEL (p : Nat) (k : Nat) : FRef := ⟨GP.EVT.adr p k, 34, 2⟩
abbrev GP.EVT.POS (p : Nat) (k : Nat) : FRef := ⟨GP.EVT.adr p k, 0, 24⟩

/-- GP.STATUS, chapter 07. -/
@[simp] abbrev GP.STATUS.adr (p : Nat) : Nat := 0x0206010E + 0x20 * p
abbrev GP.STATUS.PCNT (p : Nat) : FRef := ⟨GP.STATUS.adr p, 28, 8⟩
abbrev GP.STATUS.WLEAD (p : Nat) : FRef := ⟨GP.STATUS.adr p, 16, 1⟩
abbrev GP.STATUS.CFGERR (p : Nat) : FRef := ⟨GP.STATUS.adr p, 15, 1⟩
abbrev GP.STATUS.WREJ (p : Nat) : FRef := ⟨GP.STATUS.adr p, 14, 1⟩
abbrev GP.STATUS.MERGE (p : Nat) : FRef := ⟨GP.STATUS.adr p, 13, 1⟩
abbrev GP.STATUS.FOREIGN (p : Nat) : FRef := ⟨GP.STATUS.adr p, 12, 1⟩
abbrev GP.STATUS.STLATE (p : Nat) : FRef := ⟨GP.STATUS.adr p, 11, 1⟩
abbrev GP.STATUS.LOST (p : Nat) : FRef := ⟨GP.STATUS.adr p, 10, 1⟩
abbrev GP.STATUS.HRED (p : Nat) : FRef := ⟨GP.STATUS.adr p, 9, 1⟩
abbrev GP.STATUS.HCUT (p : Nat) : FRef := ⟨GP.STATUS.adr p, 8, 1⟩
abbrev GP.STATUS.HTRIP (p : Nat) : FRef := ⟨GP.STATUS.adr p, 7, 1⟩
abbrev GP.STATUS.HLATCH (p : Nat) : FRef := ⟨GP.STATUS.adr p, 6, 1⟩
abbrev GP.STATUS.HCYC (p : Nat) : FRef := ⟨GP.STATUS.adr p, 5, 1⟩
abbrev GP.STATUS.SAFED (p : Nat) : FRef := ⟨GP.STATUS.adr p, 4, 1⟩
abbrev GP.STATUS.STATE (p : Nat) : FRef := ⟨GP.STATUS.adr p, 0, 4⟩

/-- GP.NEXT, chapter 07. -/
@[simp] abbrev GP.NEXT.adr (p : Nat) : Nat := 0x0206010F + 0x20 * p
abbrev GP.NEXT.NEXT (p : Nat) : FRef := ⟨GP.NEXT.adr p, 0, 36⟩

/-- GP.SAFE, chapter 07. -/
@[simp] abbrev GP.SAFE.adr (p : Nat) : Nat := 0x02060110 + 0x20 * p
abbrev GP.SAFE.LEADP (p : Nat) : FRef := ⟨GP.SAFE.adr p, 8, 7⟩
abbrev GP.SAFE.SCLS (p : Nat) : FRef := ⟨GP.SAFE.adr p, 4, 4⟩
abbrev GP.SAFE.SCENE (p : Nat) : FRef := ⟨GP.SAFE.adr p, 2, 1⟩
abbrev GP.SAFE.SAFE (p : Nat) : FRef := ⟨GP.SAFE.adr p, 0, 2⟩

/-- PG.GSTAT, chapter 07. -/
@[simp] abbrev PG.GSTAT.adr (g : Nat) : Nat := 0x02061000 + 0x4 * g
abbrev PG.GSTAT.TLSRC (g : Nat) : FRef := ⟨PG.GSTAT.adr g, 11, 5⟩
abbrev PG.GSTAT.CLRREF (g : Nat) : FRef := ⟨PG.GSTAT.adr g, 10, 1⟩
abbrev PG.GSTAT.VIOLOW (g : Nat) : FRef := ⟨PG.GSTAT.adr g, 9, 1⟩
abbrev PG.GSTAT.PARITY (g : Nat) : FRef := ⟨PG.GSTAT.adr g, 8, 1⟩
abbrev PG.GSTAT.RED (g : Nat) : FRef := ⟨PG.GSTAT.adr g, 7, 1⟩
abbrev PG.GSTAT.TRIPL (g : Nat) : FRef := ⟨PG.GSTAT.adr g, 6, 1⟩
abbrev PG.GSTAT.TRIP (g : Nat) : FRef := ⟨PG.GSTAT.adr g, 5, 1⟩
abbrev PG.GSTAT.REFCLASS (g : Nat) : FRef := ⟨PG.GSTAT.adr g, 3, 2⟩
abbrev PG.GSTAT.VCLASS (g : Nat) : FRef := ⟨PG.GSTAT.adr g, 0, 2⟩

/-- PG.GCLR, chapter 07. -/
@[simp] abbrev PG.GCLR.adr (g : Nat) : Nat := 0x02061001 + 0x4 * g
abbrev PG.GCLR.CLRRED (g : Nat) : FRef := ⟨PG.GCLR.adr g, 1, 1⟩
abbrev PG.GCLR.CLRTRIP (g : Nat) : FRef := ⟨PG.GCLR.adr g, 0, 1⟩

/-- CUE.MODE, chapter 10. -/
@[simp] abbrev CUE.MODE.adr (c : Nat) : Nat := 0x02041000 + 0x1000 * c
abbrev CUE.MODE.LATE (c : Nat) : FRef := ⟨CUE.MODE.adr c, 3, 1⟩
abbrev CUE.MODE.SAVEM (c : Nat) : FRef := ⟨CUE.MODE.adr c, 2, 1⟩
abbrev CUE.MODE.LBEN (c : Nat) : FRef := ⟨CUE.MODE.adr c, 0, 1⟩

/-- CUE.EPA, chapter 10. -/
@[simp] abbrev CUE.EPA.adr (c : Nat) : Nat := 0x02041001 + 0x1000 * c
abbrev CUE.EPA.EPA (c : Nat) : FRef := ⟨CUE.EPA.adr c, 0, 32⟩

/-- CUE.HOLDMAX, chapter 10. -/
@[simp] abbrev CUE.HOLDMAX.adr (c : Nat) : Nat := 0x02041002 + 0x1000 * c
abbrev CUE.HOLDMAX.HOLDMAX (c : Nat) : FRef := ⟨CUE.HOLDMAX.adr c, 0, 12⟩

/-- CUE.LVCFG, chapter 10. -/
@[simp] abbrev CUE.LVCFG.adr (c : Nat) : Nat := 0x02041003 + 0x1000 * c
abbrev CUE.LVCFG.TRAPLV (c : Nat) : FRef := ⟨CUE.LVCFG.adr c, 3, 3⟩
abbrev CUE.LVCFG.FLTLV (c : Nat) : FRef := ⟨CUE.LVCFG.adr c, 0, 3⟩

/-- CUE.ACTIVE, chapter 10. -/
@[simp] abbrev CUE.ACTIVE.adr (c : Nat) : Nat := 0x02041004 + 0x1000 * c
abbrev CUE.ACTIVE.PENDL (c : Nat) : FRef := ⟨CUE.ACTIVE.adr c, 16, 8⟩
abbrev CUE.ACTIVE.VALID (c : Nat) : FRef := ⟨CUE.ACTIVE.adr c, 8, 8⟩
abbrev CUE.ACTIVE.LEVEL (c : Nat) : FRef := ⟨CUE.ACTIVE.adr c, 0, 3⟩

/-- CUE.TCMD, chapter 10. -/
@[simp] abbrev CUE.TCMD.adr (c : Nat) : Nat := 0x02041005 + 0x1000 * c
abbrev CUE.TCMD.TASK (c : Nat) : FRef := ⟨CUE.TCMD.adr c, 4, 3⟩
abbrev CUE.TCMD.CODE (c : Nat) : FRef := ⟨CUE.TCMD.adr c, 0, 4⟩

/-- CUE.TRES, chapter 10. -/
@[simp] abbrev CUE.TRES.adr (c : Nat) : Nat := 0x02041006 + 0x1000 * c
abbrev CUE.TRES.STATUS (c : Nat) : FRef := ⟨CUE.TRES.adr c, 32, 4⟩
abbrev CUE.TRES.STATE (c : Nat) : FRef := ⟨CUE.TRES.adr c, 28, 4⟩
abbrev CUE.TRES.TASK (c : Nat) : FRef := ⟨CUE.TRES.adr c, 4, 3⟩
abbrev CUE.TRES.CODE (c : Nat) : FRef := ⟨CUE.TRES.adr c, 0, 4⟩

/-- CUE.POST, chapter 10. -/
@[simp] abbrev CUE.POST.adr (c : Nat) : Nat := 0x02041007 + 0x1000 * c
abbrev CUE.POST.TASK (c : Nat) : FRef := ⟨CUE.POST.adr c, 32, 3⟩
abbrev CUE.POST.MASK (c : Nat) : FRef := ⟨CUE.POST.adr c, 0, 32⟩

/-- CUE.PARKCTL, chapter 10. -/
@[simp] abbrev CUE.PARKCTL.adr (c : Nat) : Nat := 0x02041008 + 0x1000 * c
abbrev CUE.PARKCTL.GROUPS (c : Nat) : FRef := ⟨CUE.PARKCTL.adr c, 8, 4⟩
abbrev CUE.PARKCTL.FULL (c : Nat) : FRef := ⟨CUE.PARKCTL.adr c, 7, 1⟩
abbrev CUE.PARKCTL.TASK (c : Nat) : FRef := ⟨CUE.PARKCTL.adr c, 4, 3⟩
abbrev CUE.PARKCTL.DISCARD (c : Nat) : FRef := ⟨CUE.PARKCTL.adr c, 1, 1⟩
abbrev CUE.PARKCTL.FLUSH (c : Nat) : FRef := ⟨CUE.PARKCTL.adr c, 0, 1⟩

/-- CUE.LOSTEV, chapter 10. -/
@[simp] abbrev CUE.LOSTEV.adr (c : Nat) : Nat := 0x02041009 + 0x1000 * c
abbrev CUE.LOSTEV.MERGED (c : Nat) : FRef := ⟨CUE.LOSTEV.adr c, 0, 12⟩

/-- CUE.CPREC0, chapter 10. -/
@[simp] abbrev CUE.CPREC0.adr (c : Nat) : Nat := 0x0204100A + 0x1000 * c
abbrev CUE.CPREC0.REC (c : Nat) : FRef := ⟨CUE.CPREC0.adr c, 0, 36⟩

/-- CUE.CPREC1, chapter 10. -/
@[simp] abbrev CUE.CPREC1.adr (c : Nat) : Nat := 0x0204100B + 0x1000 * c
abbrev CUE.CPREC1.REC (c : Nat) : FRef := ⟨CUE.CPREC1.adr c, 0, 36⟩

/-- CUE.CUR, chapter 10. -/
@[simp] abbrev CUE.CUR.adr (c : Nat) (j : Nat) : Nat := 0x0204100C + 0x1000 * c + j
abbrev CUE.CUR.V (c : Nat) (j : Nat) : FRef := ⟨CUE.CUR.adr c j, 0, 36⟩

/-- CUE.TWL, chapter 10. -/
@[simp] abbrev CUE.TWL.adr (c : Nat) (t : Nat) : Nat := 0x02041010 + 0x1000 * c + t
abbrev CUE.TWL.TWL (c : Nat) (t : Nat) : FRef := ⟨CUE.TWL.adr c t, 0, 16⟩

/-- CUE.CAUSE, chapter 10. -/
@[simp] abbrev CUE.CAUSE.adr (c : Nat) (k : Nat) : Nat := 0x02041040 + 0x1000 * c + 0x8 * k
abbrev CUE.CAUSE.CODE (c : Nat) (k : Nat) : FRef := ⟨CUE.CAUSE.adr c k, 22, 8⟩
abbrev CUE.CAUSE.SRC (c : Nat) (k : Nat) : FRef := ⟨CUE.CAUSE.adr c k, 12, 10⟩
abbrev CUE.CAUSE.INFO (c : Nat) (k : Nat) : FRef := ⟨CUE.CAUSE.adr c k, 0, 12⟩

/-- CUE.XARG, chapter 10. -/
@[simp] abbrev CUE.XARG.adr (c : Nat) (k : Nat) : Nat := 0x02041041 + 0x1000 * c + 0x8 * k
abbrev CUE.XARG.XARG (c : Nat) (k : Nat) : FRef := ⟨CUE.XARG.adr c k, 0, 36⟩

/-- CUE.XPC, chapter 10. -/
@[simp] abbrev CUE.XPC.adr (c : Nat) (k : Nat) : Nat := 0x02041042 + 0x1000 * c + 0x8 * k
abbrev CUE.XPC.XPC (c : Nat) (k : Nat) : FRef := ⟨CUE.XPC.adr c k, 0, 32⟩

/-- CUE.XST, chapter 10. -/
@[simp] abbrev CUE.XST.adr (c : Nat) (k : Nat) : Nat := 0x02041043 + 0x1000 * c + 0x8 * k
abbrev CUE.XST.XST (c : Nat) (k : Nat) : FRef := ⟨CUE.XST.adr c k, 0, 36⟩

/-- CUE.ENT, chapter 10. -/
@[simp] abbrev CUE.ENT.adr (c : Nat) (k : Nat) : Nat := 0x02041044 + 0x1000 * c + 0x8 * k
abbrev CUE.ENT.MODE (c : Nat) (k : Nat) : FRef := ⟨CUE.ENT.adr c k, 4, 1⟩
abbrev CUE.ENT.V (c : Nat) (k : Nat) : FRef := ⟨CUE.ENT.adr c k, 3, 1⟩
abbrev CUE.ENT.ENTLVL (c : Nat) (k : Nat) : FRef := ⟨CUE.ENT.adr c k, 0, 3⟩

/-- CUE.SAVEPC, chapter 10. -/
@[simp] abbrev CUE.SAVEPC.adr (c : Nat) (k : Nat) : Nat := 0x02041080 + 0x1000 * c + 0x8 * k
abbrev CUE.SAVEPC.PC (c : Nat) (k : Nat) : FRef := ⟨CUE.SAVEPC.adr c k, 0, 32⟩

/-- CUE.SAVEST, chapter 10. -/
@[simp] abbrev CUE.SAVEST.adr (c : Nat) (k : Nat) : Nat := 0x02041081 + 0x1000 * c + 0x8 * k
abbrev CUE.SAVEST.ST (c : Nat) (k : Nat) : FRef := ⟨CUE.SAVEST.adr c k, 0, 36⟩

/-- CUE.SAVEH, chapter 10. -/
@[simp] abbrev CUE.SAVEH.adr (c : Nat) (k : Nat) (h : Nat) : Nat := 0x02041082 + 0x1000 * c + 0x8 * k + h
abbrev CUE.SAVEH.H (c : Nat) (k : Nat) (h : Nat) : FRef := ⟨CUE.SAVEH.adr c k h, 0, 36⟩

/-- CUE.TCFG, chapter 10. -/
@[simp] abbrev CUE.TCFG.adr (c : Nat) (t : Nat) : Nat := 0x02041100 + 0x1000 * c + 0x10 * t
abbrev CUE.TCFG.PRIO (c : Nat) (t : Nat) : FRef := ⟨CUE.TCFG.adr c t, 12, 4⟩
abbrev CUE.TCFG.RSWRAP (c : Nat) (t : Nat) : FRef := ⟨CUE.TCFG.adr c t, 11, 1⟩
abbrev CUE.TCFG.LEN (c : Nat) (t : Nat) : FRef := ⟨CUE.TCFG.adr c t, 5, 5⟩
abbrev CUE.TCFG.BASE (c : Nat) (t : Nat) : FRef := ⟨CUE.TCFG.adr c t, 0, 5⟩

/-- CUE.TPC, chapter 10. -/
@[simp] abbrev CUE.TPC.adr (c : Nat) (t : Nat) : Nat := 0x02041101 + 0x1000 * c + 0x10 * t
abbrev CUE.TPC.PC (c : Nat) (t : Nat) : FRef := ⟨CUE.TPC.adr c t, 0, 32⟩

/-- CUE.TSTAT, chapter 10. -/
@[simp] abbrev CUE.TSTAT.adr (c : Nat) (t : Nat) : Nat := 0x02041102 + 0x1000 * c + 0x10 * t
abbrev CUE.TSTAT.FCAUSE (c : Nat) (t : Nat) : FRef := ⟨CUE.TSTAT.adr c t, 22, 2⟩
abbrev CUE.TSTAT.DIRTY (c : Nat) (t : Nat) : FRef := ⟨CUE.TSTAT.adr c t, 18, 4⟩
abbrev CUE.TSTAT.SAVED (c : Nat) (t : Nat) : FRef := ⟨CUE.TSTAT.adr c t, 14, 4⟩
abbrev CUE.TSTAT.RSDEP (c : Nat) (t : Nat) : FRef := ⟨CUE.TSTAT.adr c t, 9, 5⟩
abbrev CUE.TSTAT.WDEP (c : Nat) (t : Nat) : FRef := ⟨CUE.TSTAT.adr c t, 4, 5⟩
abbrev CUE.TSTAT.STATE (c : Nat) (t : Nat) : FRef := ⟨CUE.TSTAT.adr c t, 0, 4⟩

/-- CUE.CSA, chapter 10. -/
@[simp] abbrev CUE.CSA.adr (c : Nat) (t : Nat) : Nat := 0x02041103 + 0x1000 * c + 0x10 * t
abbrev CUE.CSA.SIZE (c : Nat) (t : Nat) : FRef := ⟨CUE.CSA.adr c t, 32, 4⟩
abbrev CUE.CSA.ADDR (c : Nat) (t : Nat) : FRef := ⟨CUE.CSA.adr c t, 0, 32⟩

/-- CUE.PEND, chapter 10. -/
@[simp] abbrev CUE.PEND.adr (c : Nat) (t : Nat) : Nat := 0x02041104 + 0x1000 * c + 0x10 * t
abbrev CUE.PEND.PEND (c : Nat) (t : Nat) : FRef := ⟨CUE.PEND.adr c t, 0, 32⟩

/-- CUE.WMASK, chapter 10. -/
@[simp] abbrev CUE.WMASK.adr (c : Nat) (t : Nat) : Nat := 0x02041105 + 0x1000 * c + 0x10 * t
abbrev CUE.WMASK.WMASK (c : Nat) (t : Nat) : FRef := ⟨CUE.WMASK.adr c t, 0, 32⟩

/-- CUE.SB, chapter 10. -/
@[simp] abbrev CUE.SB.adr (c : Nat) (k : Nat) (j : Nat) : Nat := 0x02041200 + 0x1000 * c + 0x10 * k + j
abbrev CUE.SB.W (c : Nat) (k : Nat) (j : Nat) : FRef := ⟨CUE.SB.adr c k j, 0, 36⟩

/-- CUE.PARK, chapter 10. -/
@[simp] abbrev CUE.PARK.adr (c : Nat) (j : Nat) : Nat := 0x02041300 + 0x1000 * c + j
abbrev CUE.PARK.W (c : Nat) (j : Nat) : FRef := ⟨CUE.PARK.adr c j, 0, 36⟩

/-- CUE.ROUTE, chapter 10. -/
@[simp] abbrev CUE.ROUTE.adr (c : Nat) (e : Nat) : Nat := 0x02041400 + 0x1000 * c + e
abbrev CUE.ROUTE.ACT (c : Nat) (e : Nat) : FRef := ⟨CUE.ROUTE.adr c e, 8, 2⟩
abbrev CUE.ROUTE.SEL (c : Nat) (e : Nat) : FRef := ⟨CUE.ROUTE.adr c e, 5, 3⟩
abbrev CUE.ROUTE.WBIT (c : Nat) (e : Nat) : FRef := ⟨CUE.ROUTE.adr c e, 0, 5⟩

/-- CTU.STATUS, chapter 11. -/
@[simp] abbrev CTU.STATUS.adr : Nat := 0x02030000
abbrev CTU.STATUS.CUTREQ : FRef := ⟨CTU.STATUS.adr, 7, 1⟩
abbrev CTU.STATUS.DISAGREE : FRef := ⟨CTU.STATUS.adr, 6, 1⟩
abbrev CTU.STATUS.SILENT : FRef := ⟨CTU.STATUS.adr, 5, 1⟩
abbrev CTU.STATUS.MOVING : FRef := ⟨CTU.STATUS.adr, 4, 1⟩
abbrev CTU.STATUS.RED : FRef := ⟨CTU.STATUS.adr, 3, 1⟩
abbrev CTU.STATUS.AMBER : FRef := ⟨CTU.STATUS.adr, 2, 1⟩
abbrev CTU.STATUS.BOK : FRef := ⟨CTU.STATUS.adr, 1, 1⟩
abbrev CTU.STATUS.AOK : FRef := ⟨CTU.STATUS.adr, 0, 1⟩

/-- CTU.CORESTAT, chapter 11. -/
@[simp] abbrev CTU.CORESTAT.adr : Nat := 0x02030001
abbrev CTU.CORESTAT.STATE (c : Nat) : FRef := ⟨CTU.CORESTAT.adr, 3 * c, 3⟩

/-- CTU.CORECMD, chapter 11. -/
@[simp] abbrev CTU.CORECMD.adr : Nat := 0x02030002
abbrev CTU.CORECMD.CORE : FRef := ⟨CTU.CORECMD.adr, 4, 4⟩
abbrev CTU.CORECMD.CODE : FRef := ⟨CTU.CORECMD.adr, 0, 4⟩

/-- CTU.CORERES, chapter 11. -/
@[simp] abbrev CTU.CORERES.adr : Nat := 0x02030003
abbrev CTU.CORERES.STATUS : FRef := ⟨CTU.CORERES.adr, 32, 4⟩
abbrev CTU.CORERES.STATE : FRef := ⟨CTU.CORERES.adr, 28, 4⟩
abbrev CTU.CORERES.PENDING : FRef := ⟨CTU.CORERES.adr, 15, 1⟩
abbrev CTU.CORERES.CORE : FRef := ⟨CTU.CORERES.adr, 4, 4⟩
abbrev CTU.CORERES.CODE : FRef := ⟨CTU.CORERES.adr, 0, 4⟩

/-- CTU.LOGCTL, chapter 11. -/
@[simp] abbrev CTU.LOGCTL.adr : Nat := 0x02030004
abbrev CTU.LOGCTL.LOST : FRef := ⟨CTU.LOGCTL.adr, 24, 12⟩
abbrev CTU.LOGCTL.COUNT : FRef := ⟨CTU.LOGCTL.adr, 12, 10⟩
abbrev CTU.LOGCTL.LAST : FRef := ⟨CTU.LOGCTL.adr, 0, 9⟩

/-- CTU.LOGCMD, chapter 11. -/
@[simp] abbrev CTU.LOGCMD.adr : Nat := 0x02030005
abbrev CTU.LOGCMD.CLEAR : FRef := ⟨CTU.LOGCMD.adr, 0, 1⟩

/-- CTU.INJSTAT, chapter 11. -/
@[simp] abbrev CTU.INJSTAT.adr : Nat := 0x02030006
abbrev CTU.INJSTAT.ROUNDS : FRef := ⟨CTU.INJSTAT.adr, 20, 16⟩
abbrev CTU.INJSTAT.FAILS : FRef := ⟨CTU.INJSTAT.adr, 8, 8⟩
abbrev CTU.INJSTAT.FCORE : FRef := ⟨CTU.INJSTAT.adr, 5, 3⟩
abbrev CTU.INJSTAT.FLANE : FRef := ⟨CTU.INJSTAT.adr, 2, 3⟩

/-- CTU.SCRSTAT, chapter 11. -/
@[simp] abbrev CTU.SCRSTAT.adr : Nat := 0x02030007
abbrev CTU.SCRSTAT.PASSES : FRef := ⟨CTU.SCRSTAT.adr, 20, 16⟩
abbrev CTU.SCRSTAT.LCORE : FRef := ⟨CTU.SCRSTAT.adr, 8, 3⟩
abbrev CTU.SCRSTAT.MISM : FRef := ⟨CTU.SCRSTAT.adr, 0, 8⟩

/-- CTU.FOSTAT, chapter 11. -/
@[simp] abbrev CTU.FOSTAT.adr : Nat := 0x02030008
abbrev CTU.FOSTAT.FROM : FRef := ⟨CTU.FOSTAT.adr, 32, 4⟩
abbrev CTU.FOSTAT.EXACT : FRef := ⟨CTU.FOSTAT.adr, 24, 8⟩
abbrev CTU.FOSTAT.RESTART : FRef := ⟨CTU.FOSTAT.adr, 16, 8⟩
abbrev CTU.FOSTAT.SHED : FRef := ⟨CTU.FOSTAT.adr, 8, 8⟩
abbrev CTU.FOSTAT.SEQ : FRef := ⟨CTU.FOSTAT.adr, 0, 8⟩

/-- CTU.FOTIME, chapter 11. -/
@[simp] abbrev CTU.FOTIME.adr : Nat := 0x02030009
abbrev CTU.FOTIME.TICK : FRef := ⟨CTU.FOTIME.adr, 0, 16⟩

/-- CTU.MMINFO, chapter 11. -/
@[simp] abbrev CTU.MMINFO.adr (c : Nat) : Nat := 0x02030100 + 0x8 * c
abbrev CTU.MMINFO.VALID (c : Nat) : FRef := ⟨CTU.MMINFO.adr c, 3, 1⟩
abbrev CTU.MMINFO.LANE (c : Nat) : FRef := ⟨CTU.MMINFO.adr c, 0, 3⟩

/-- CTU.MMADDR, chapter 11. -/
@[simp] abbrev CTU.MMADDR.adr (c : Nat) : Nat := 0x02030101 + 0x8 * c
abbrev CTU.MMADDR.ADDR (c : Nat) : FRef := ⟨CTU.MMADDR.adr c, 0, 36⟩

/-- CTU.MMLEAD, chapter 11. -/
@[simp] abbrev CTU.MMLEAD.adr (c : Nat) : Nat := 0x02030102 + 0x8 * c
abbrev CTU.MMLEAD.LEAD (c : Nat) : FRef := ⟨CTU.MMLEAD.adr c, 0, 36⟩

/-- CTU.MMTRAIL, chapter 11. -/
@[simp] abbrev CTU.MMTRAIL.adr (c : Nat) : Nat := 0x02030103 + 0x8 * c
abbrev CTU.MMTRAIL.TRAIL (c : Nat) : FRef := ⟨CTU.MMTRAIL.adr c, 0, 36⟩

/-- CTU.MMSTAMP, chapter 11. -/
@[simp] abbrev CTU.MMSTAMP.adr (c : Nat) : Nat := 0x02030104 + 0x8 * c
abbrev CTU.MMSTAMP.STAMP (c : Nat) : FRef := ⟨CTU.MMSTAMP.adr c, 0, 36⟩

/-- CTU.FPCORE, chapter 11. -/
@[simp] abbrev CTU.FPCORE.adr (c : Nat) : Nat := 0x02030200 + 0x20 * c
abbrev CTU.FPCORE.LVCORE (c : Nat) : FRef := ⟨CTU.FPCORE.adr c, 4, 4⟩
abbrev CTU.FPCORE.HEIR (c : Nat) : FRef := ⟨CTU.FPCORE.adr c, 0, 4⟩

/-- CTU.FPT, chapter 11. -/
@[simp] abbrev CTU.FPT.adr (c : Nat) (t : Nat) : Nat := 0x02030201 + 0x20 * c + t
abbrev CTU.FPT.DEST (c : Nat) (t : Nat) : FRef := ⟨CTU.FPT.adr c t, 12, 4⟩
abbrev CTU.FPT.DTASK (c : Nat) (t : Nat) : FRef := ⟨CTU.FPT.adr c t, 9, 3⟩
abbrev CTU.FPT.DBASE (c : Nat) (t : Nat) : FRef := ⟨CTU.FPT.adr c t, 4, 5⟩
abbrev CTU.FPT.EXACT (c : Nat) (t : Nat) : FRef := ⟨CTU.FPT.adr c t, 0, 1⟩

/-- CTU.FPRPC, chapter 11. -/
@[simp] abbrev CTU.FPRPC.adr (c : Nat) (t : Nat) : Nat := 0x02030209 + 0x20 * c + t
abbrev CTU.FPRPC.RPC (c : Nat) (t : Nat) : FRef := ⟨CTU.FPRPC.adr c t, 0, 32⟩

/-- CTU.FCNT, chapter 11. -/
@[simp] abbrev CTU.FCNT.adr (k : Nat) : Nat := 0x02030400 + k
abbrev CTU.FCNT.COUNT (k : Nat) : FRef := ⟨CTU.FCNT.adr k, 0, 16⟩

/-- BANKS.SCRUB, chapter 12. -/
@[simp] abbrev BANKS.SCRUB.adr : Nat := 0x020A0000
abbrev BANKS.SCRUB.PASSES : FRef := ⟨BANKS.SCRUB.adr, 20, 16⟩

/-- BANKS.OWNER, chapter 12. -/
@[simp] abbrev BANKS.OWNER.adr (b : Nat) : Nat := 0x020A0100 + 0x4 * b
abbrev BANKS.OWNER.PEER (b : Nat) : FRef := ⟨BANKS.OWNER.adr b, 8, 8⟩
abbrev BANKS.OWNER.OWNER (b : Nat) : FRef := ⟨BANKS.OWNER.adr b, 0, 8⟩

/-- BANKS.STATUS, chapter 12. -/
@[simp] abbrev BANKS.STATUS.adr (b : Nat) : Nat := 0x020A0101 + 0x4 * b
abbrev BANKS.STATUS.CECNT (b : Nat) : FRef := ⟨BANKS.STATUS.adr b, 20, 16⟩
abbrev BANKS.STATUS.DUECNT (b : Nat) : FRef := ⟨BANKS.STATUS.adr b, 8, 12⟩
abbrev BANKS.STATUS.RED (b : Nat) : FRef := ⟨BANKS.STATUS.adr b, 2, 1⟩
abbrev BANKS.STATUS.DUE (b : Nat) : FRef := ⟨BANKS.STATUS.adr b, 1, 1⟩
abbrev BANKS.STATUS.CE (b : Nat) : FRef := ⟨BANKS.STATUS.adr b, 0, 1⟩

/-- BANKS.ERR, chapter 12. -/
@[simp] abbrev BANKS.ERR.adr (b : Nat) : Nat := 0x020A0102 + 0x4 * b
abbrev BANKS.ERR.KIND (b : Nat) : FRef := ⟨BANKS.ERR.adr b, 15, 1⟩
abbrev BANKS.ERR.OFFSET (b : Nat) : FRef := ⟨BANKS.ERR.adr b, 0, 14⟩

/-- DDR.CFG, chapter 12. -/
@[simp] abbrev DDR.CFG.adr : Nat := 0x020B0000
abbrev DDR.CFG.XTR : FRef := ⟨DDR.CFG.adr, 11, 1⟩
abbrev DDR.CFG.SPEED : FRef := ⟨DDR.CFG.adr, 8, 3⟩
abbrev DDR.CFG.WIDTH : FRef := ⟨DDR.CFG.adr, 6, 2⟩
abbrev DDR.CFG.DENS : FRef := ⟨DDR.CFG.adr, 4, 2⟩
abbrev DDR.CFG.RANKS : FRef := ⟨DDR.CFG.adr, 0, 2⟩

/-- DDR.CMD, chapter 12. -/
@[simp] abbrev DDR.CMD.adr : Nat := 0x020B0001
abbrev DDR.CMD.INIT : FRef := ⟨DDR.CMD.adr, 0, 1⟩

/-- DDR.STATUS, chapter 12. -/
@[simp] abbrev DDR.STATUS.adr : Nat := 0x020B0002
abbrev DDR.STATUS.RES : FRef := ⟨DDR.STATUS.adr, 32, 4⟩
abbrev DDR.STATUS.REGIONS : FRef := ⟨DDR.STATUS.adr, 8, 8⟩
abbrev DDR.STATUS.STATE : FRef := ⟨DDR.STATUS.adr, 0, 3⟩

/-- DDR.ECC, chapter 12. -/
@[simp] abbrev DDR.ECC.adr : Nat := 0x020B0003
abbrev DDR.ECC.CECNT : FRef := ⟨DDR.ECC.adr, 20, 16⟩
abbrev DDR.ECC.DUECNT : FRef := ⟨DDR.ECC.adr, 8, 12⟩

/-- DDR.ERRADDR, chapter 12. -/
@[simp] abbrev DDR.ERRADDR.adr : Nat := 0x020B0004
abbrev DDR.ERRADDR.ADDR : FRef := ⟨DDR.ERRADDR.adr, 0, 32⟩

/-- DDR.PATROL, chapter 12. -/
@[simp] abbrev DDR.PATROL.adr : Nat := 0x020B0005
abbrev DDR.PATROL.PASSES : FRef := ⟨DDR.PATROL.adr, 20, 16⟩
abbrev DDR.PATROL.REGION : FRef := ⟨DDR.PATROL.adr, 0, 8⟩

/-- DDR.RESV, chapter 12. -/
@[simp] abbrev DDR.RESV.adr : Nat := 0x020B0006
abbrev DDR.RESV.RUSH : FRef := ⟨DDR.RESV.adr, 0, 6⟩

/-- DMA.CTRL, chapter 12. -/
@[simp] abbrev DMA.CTRL.adr (n : Nat) : Nat := 0x02130100 + 0x10 * n
abbrev DMA.CTRL.OWNER (n : Nat) : FRef := ⟨DMA.CTRL.adr n, 28, 8⟩
abbrev DMA.CTRL.RET (n : Nat) : FRef := ⟨DMA.CTRL.adr n, 20, 8⟩
abbrev DMA.CTRL.MODE (n : Nat) : FRef := ⟨DMA.CTRL.adr n, 18, 2⟩
abbrev DMA.CTRL.SINC (n : Nat) : FRef := ⟨DMA.CTRL.adr n, 17, 1⟩
abbrev DMA.CTRL.DINC (n : Nat) : FRef := ⟨DMA.CTRL.adr n, 16, 1⟩
abbrev DMA.CTRL.TRG (n : Nat) : FRef := ⟨DMA.CTRL.adr n, 15, 1⟩
abbrev DMA.CTRL.EVN (n : Nat) : FRef := ⟨DMA.CTRL.adr n, 6, 9⟩
abbrev DMA.CTRL.EVQ (n : Nat) : FRef := ⟨DMA.CTRL.adr n, 5, 1⟩
abbrev DMA.CTRL.RLD (n : Nat) : FRef := ⟨DMA.CTRL.adr n, 4, 1⟩
abbrev DMA.CTRL.GO (n : Nat) : FRef := ⟨DMA.CTRL.adr n, 1, 1⟩
abbrev DMA.CTRL.EN (n : Nat) : FRef := ⟨DMA.CTRL.adr n, 0, 1⟩

/-- DMA.SRC, chapter 12. -/
@[simp] abbrev DMA.SRC.adr (n : Nat) : Nat := 0x02130101 + 0x10 * n
abbrev DMA.SRC.SRC (n : Nat) : FRef := ⟨DMA.SRC.adr n, 0, 36⟩

/-- DMA.DST, chapter 12. -/
@[simp] abbrev DMA.DST.adr (n : Nat) : Nat := 0x02130102 + 0x10 * n
abbrev DMA.DST.DST (n : Nat) : FRef := ⟨DMA.DST.adr n, 0, 32⟩

/-- DMA.CNT, chapter 12. -/
@[simp] abbrev DMA.CNT.adr (n : Nat) : Nat := 0x02130103 + 0x10 * n
abbrev DMA.CNT.CNT (n : Nat) : FRef := ⟨DMA.CNT.adr n, 0, 24⟩

/-- DMA.STATUS, chapter 12. -/
@[simp] abbrev DMA.STATUS.adr (n : Nat) : Nat := 0x02130104 + 0x10 * n
abbrev DMA.STATUS.STATE (n : Nat) : FRef := ⟨DMA.STATUS.adr n, 32, 4⟩
abbrev DMA.STATUS.RESP (n : Nat) : FRef := ⟨DMA.STATUS.adr n, 29, 3⟩
abbrev DMA.STATUS.WREJ (n : Nat) : FRef := ⟨DMA.STATUS.adr n, 1, 1⟩
abbrev DMA.STATUS.TOVR (n : Nat) : FRef := ⟨DMA.STATUS.adr n, 0, 1⟩

/-- DMA.ERRADDR, chapter 12. -/
@[simp] abbrev DMA.ERRADDR.adr (n : Nat) : Nat := 0x02130105 + 0x10 * n
abbrev DMA.ERRADDR.ADDR (n : Nat) : FRef := ⟨DMA.ERRADDR.adr n, 0, 32⟩

/-- RUSH.GO, chapter 12. -/
@[simp] abbrev RUSH.GO.adr : Nat := 0x02100000
abbrev RUSH.GO.TRIG : FRef := ⟨RUSH.GO.adr, 0, 32⟩

/-- RUSH.CTRL, chapter 12. -/
@[simp] abbrev RUSH.CTRL.adr (c : Nat) : Nat := 0x02100100 + 0x10 * c
abbrev RUSH.CTRL.OWNER (c : Nat) : FRef := ⟨RUSH.CTRL.adr c, 28, 8⟩
abbrev RUSH.CTRL.DEC (c : Nat) : FRef := ⟨RUSH.CTRL.adr c, 12, 16⟩
abbrev RUSH.CTRL.AVG (c : Nat) : FRef := ⟨RUSH.CTRL.adr c, 11, 1⟩
abbrev RUSH.CTRL.REARM (c : Nat) : FRef := ⟨RUSH.CTRL.adr c, 1, 1⟩
abbrev RUSH.CTRL.EN (c : Nat) : FRef := ⟨RUSH.CTRL.adr c, 0, 1⟩

/-- RUSH.SRC, chapter 12. -/
@[simp] abbrev RUSH.SRC.adr (c : Nat) : Nat := 0x02100101 + 0x10 * c
abbrev RUSH.SRC.KIND (c : Nat) : FRef := ⟨RUSH.SRC.adr c, 32, 4⟩
abbrev RUSH.SRC.SEL (c : Nat) : FRef := ⟨RUSH.SRC.adr c, 0, 32⟩

/-- RUSH.TRIG, chapter 12. -/
@[simp] abbrev RUSH.TRIG.adr (c : Nat) : Nat := 0x02100102 + 0x10 * c
abbrev RUSH.TRIG.KIND (c : Nat) : FRef := ⟨RUSH.TRIG.adr c, 33, 3⟩
abbrev RUSH.TRIG.NUM (c : Nat) : FRef := ⟨RUSH.TRIG.adr c, 0, 9⟩

/-- RUSH.BASE, chapter 12. -/
@[simp] abbrev RUSH.BASE.adr (c : Nat) : Nat := 0x02100103 + 0x10 * c
abbrev RUSH.BASE.BASE (c : Nat) : FRef := ⟨RUSH.BASE.adr c, 0, 32⟩

/-- RUSH.RING, chapter 12. -/
@[simp] abbrev RUSH.RING.adr (c : Nat) : Nat := 0x02100104 + 0x10 * c
abbrev RUSH.RING.RLOG (c : Nat) : FRef := ⟨RUSH.RING.adr c, 0, 5⟩

/-- RUSH.PRE, chapter 12. -/
@[simp] abbrev RUSH.PRE.adr (c : Nat) : Nat := 0x02100105 + 0x10 * c
abbrev RUSH.PRE.PRE (c : Nat) : FRef := ⟨RUSH.PRE.adr c, 0, 23⟩

/-- RUSH.POST, chapter 12. -/
@[simp] abbrev RUSH.POST.adr (c : Nat) : Nat := 0x02100106 + 0x10 * c
abbrev RUSH.POST.POST (c : Nat) : FRef := ⟨RUSH.POST.adr c, 0, 23⟩

/-- RUSH.STATUS, chapter 12. -/
@[simp] abbrev RUSH.STATUS.adr (c : Nat) : Nat := 0x02100107 + 0x10 * c
abbrev RUSH.STATUS.WREJ (c : Nat) : FRef := ⟨RUSH.STATUS.adr c, 3, 1⟩
abbrev RUSH.STATUS.STATE (c : Nat) : FRef := ⟨RUSH.STATUS.adr c, 0, 3⟩

/-- RUSH.WPTR, chapter 12. -/
@[simp] abbrev RUSH.WPTR.adr (c : Nat) : Nat := 0x02100108 + 0x10 * c
abbrev RUSH.WPTR.WPTR (c : Nat) : FRef := ⟨RUSH.WPTR.adr c, 0, 22⟩

/-- RUSH.TSTAMP, chapter 12. -/
@[simp] abbrev RUSH.TSTAMP.adr (c : Nat) : Nat := 0x02100109 + 0x10 * c
abbrev RUSH.TSTAMP.TSTAMP (c : Nat) : FRef := ⟨RUSH.TSTAMP.adr c, 0, 36⟩

/-- RUSH.TIDX, chapter 12. -/
@[simp] abbrev RUSH.TIDX.adr (c : Nat) : Nat := 0x0210010A + 0x10 * c
abbrev RUSH.TIDX.TIDX (c : Nat) : FRef := ⟨RUSH.TIDX.adr c, 0, 22⟩

/-- RUSH.CNT, chapter 12. -/
@[simp] abbrev RUSH.CNT.adr (c : Nat) : Nat := 0x0210010B + 0x10 * c
abbrev RUSH.CNT.DROP (c : Nat) : FRef := ⟨RUSH.CNT.adr c, 20, 16⟩
abbrev RUSH.CNT.TIGN (c : Nat) : FRef := ⟨RUSH.CNT.adr c, 8, 12⟩

/-- FLASH.STATUS, chapter 13. -/
@[simp] abbrev FLASH.STATUS.adr : Nat := 0x020C0000
abbrev FLASH.STATUS.WREJ : FRef := ⟨FLASH.STATUS.adr, 3, 1⟩
abbrev FLASH.STATUS.ERDREF : FRef := ⟨FLASH.STATUS.adr, 2, 1⟩
abbrev FLASH.STATUS.QERR : FRef := ⟨FLASH.STATUS.adr, 1, 1⟩
abbrev FLASH.STATUS.READY : FRef := ⟨FLASH.STATUS.adr, 0, 1⟩

/-- FLASH.QCTL, chapter 13. -/
@[simp] abbrev FLASH.QCTL.adr : Nat := 0x020C0008
abbrev FLASH.QCTL.OWNER : FRef := ⟨FLASH.QCTL.adr, 28, 8⟩
abbrev FLASH.QCTL.EN : FRef := ⟨FLASH.QCTL.adr, 0, 1⟩

/-- FLASH.QBASE, chapter 13. -/
@[simp] abbrev FLASH.QBASE.adr : Nat := 0x020C0009
abbrev FLASH.QBASE.ADDR : FRef := ⟨FLASH.QBASE.adr, 0, 32⟩

/-- FLASH.QTAIL, chapter 13. -/
@[simp] abbrev FLASH.QTAIL.adr : Nat := 0x020C000A
abbrev FLASH.QTAIL.TAIL : FRef := ⟨FLASH.QTAIL.adr, 0, 5⟩

/-- FLASH.QHEAD, chapter 13. -/
@[simp] abbrev FLASH.QHEAD.adr : Nat := 0x020C000B
abbrev FLASH.QHEAD.HEAD : FRef := ⟨FLASH.QHEAD.adr, 0, 5⟩

/-- FLASH.ECC, chapter 13. -/
@[simp] abbrev FLASH.ECC.adr : Nat := 0x020C0010
abbrev FLASH.ECC.CECNT : FRef := ⟨FLASH.ECC.adr, 20, 16⟩
abbrev FLASH.ECC.DUECNT : FRef := ⟨FLASH.ECC.adr, 8, 12⟩

/-- FLASH.ERRADDR, chapter 13. -/
@[simp] abbrev FLASH.ERRADDR.adr : Nat := 0x020C0011
abbrev FLASH.ERRADDR.ADDR : FRef := ⟨FLASH.ERRADDR.adr, 0, 32⟩

/-- FLASH.SCAN, chapter 13. -/
@[simp] abbrev FLASH.SCAN.adr : Nat := 0x020C0012
abbrev FLASH.SCAN.INTV : FRef := ⟨FLASH.SCAN.adr, 24, 12⟩
abbrev FLASH.SCAN.DONE : FRef := ⟨FLASH.SCAN.adr, 12, 12⟩
abbrev FLASH.SCAN.PASSES : FRef := ⟨FLASH.SCAN.adr, 0, 12⟩

/-- FLASH.RELOC, chapter 13. -/
@[simp] abbrev FLASH.RELOC.adr : Nat := 0x020C0013
abbrev FLASH.RELOC.REFRESH : FRef := ⟨FLASH.RELOC.adr, 12, 12⟩
abbrev FLASH.RELOC.REMAP : FRef := ⟨FLASH.RELOC.adr, 0, 12⟩

/-- FLASH.TORNCNT, chapter 13. -/
@[simp] abbrev FLASH.TORNCNT.adr : Nat := 0x020C0018
abbrev FLASH.TORNCNT.COUNT : FRef := ⟨FLASH.TORNCNT.adr, 0, 12⟩

/-- FLASH.TORN, chapter 13. -/
@[simp] abbrev FLASH.TORN.adr (i : Nat) : Nat := 0x020C0020 + i
abbrev FLASH.TORN.VALID (i : Nat) : FRef := ⟨FLASH.TORN.adr i, 35, 1⟩
abbrev FLASH.TORN.BANK (i : Nat) : FRef := ⟨FLASH.TORN.adr i, 33, 2⟩
abbrev FLASH.TORN.SELF (i : Nat) : FRef := ⟨FLASH.TORN.adr i, 32, 1⟩
abbrev FLASH.TORN.SECTOR (i : Nat) : FRef := ⟨FLASH.TORN.adr i, 0, 11⟩

/-- FLASH.RSCTL, chapter 13. -/
@[simp] abbrev FLASH.RSCTL.adr : Nat := 0x020C0030
abbrev FLASH.RSCTL.OWNER : FRef := ⟨FLASH.RSCTL.adr, 28, 8⟩
abbrev FLASH.RSCTL.REC : FRef := ⟨FLASH.RSCTL.adr, 10, 6⟩
abbrev FLASH.RSCTL.LEN : FRef := ⟨FLASH.RSCTL.adr, 4, 4⟩
abbrev FLASH.RSCTL.CMD : FRef := ⟨FLASH.RSCTL.adr, 0, 4⟩

/-- FLASH.RSRES, chapter 13. -/
@[simp] abbrev FLASH.RSRES.adr : Nat := 0x020C0031
abbrev FLASH.RSRES.STATUS : FRef := ⟨FLASH.RSRES.adr, 32, 4⟩
abbrev FLASH.RSRES.PRESENT : FRef := ⟨FLASH.RSRES.adr, 27, 1⟩
abbrev FLASH.RSRES.PENDING : FRef := ⟨FLASH.RSRES.adr, 26, 1⟩
abbrev FLASH.RSRES.SEQ : FRef := ⟨FLASH.RSRES.adr, 16, 10⟩
abbrev FLASH.RSRES.REC : FRef := ⟨FLASH.RSRES.adr, 10, 6⟩
abbrev FLASH.RSRES.LEN : FRef := ⟨FLASH.RSRES.adr, 4, 4⟩
abbrev FLASH.RSRES.CMD : FRef := ⟨FLASH.RSRES.adr, 0, 4⟩

/-- FLASH.RSSTAT, chapter 13. -/
@[simp] abbrev FLASH.RSSTAT.adr : Nat := 0x020C0032
abbrev FLASH.RSSTAT.USABLE : FRef := ⟨FLASH.RSSTAT.adr, 26, 10⟩
abbrev FLASH.RSSTAT.FREE : FRef := ⟨FLASH.RSSTAT.adr, 22, 4⟩
abbrev FLASH.RSSTAT.WREJ : FRef := ⟨FLASH.RSSTAT.adr, 2, 1⟩
abbrev FLASH.RSSTAT.STATE : FRef := ⟨FLASH.RSSTAT.adr, 0, 2⟩

/-- FLASH.RSWCNT, chapter 13. -/
@[simp] abbrev FLASH.RSWCNT.adr : Nat := 0x020C0033
abbrev FLASH.RSWCNT.WRITES : FRef := ⟨FLASH.RSWCNT.adr, 0, 36⟩

/-- FLASH.RSWEAR, chapter 13. -/
@[simp] abbrev FLASH.RSWEAR.adr : Nat := 0x020C0034
abbrev FLASH.RSWEAR.MAXE : FRef := ⟨FLASH.RSWEAR.adr, 0, 36⟩

/-- FLASH.RSBUF, chapter 13. -/
@[simp] abbrev FLASH.RSBUF.adr (j : Nat) : Nat := 0x020C0040 + j
abbrev FLASH.RSBUF.DATA (j : Nat) : FRef := ⟨FLASH.RSBUF.adr j, 0, 36⟩

/-- FLASH.RDPCMD, chapter 13. -/
@[simp] abbrev FLASH.RDPCMD.adr : Nat := 0x020C0060
abbrev FLASH.RDPCMD.CODE : FRef := ⟨FLASH.RDPCMD.adr, 0, 4⟩

/-- FLASH.RDPRES, chapter 13. -/
@[simp] abbrev FLASH.RDPRES.adr : Nat := 0x020C0061
abbrev FLASH.RDPRES.STATUS : FRef := ⟨FLASH.RDPRES.adr, 32, 4⟩
abbrev FLASH.RDPRES.LEFT : FRef := ⟨FLASH.RDPRES.adr, 7, 5⟩
abbrev FLASH.RDPRES.WIPE : FRef := ⟨FLASH.RDPRES.adr, 6, 1⟩
abbrev FLASH.RDPRES.LEVEL : FRef := ⟨FLASH.RDPRES.adr, 4, 2⟩
abbrev FLASH.RDPRES.CODE : FRef := ⟨FLASH.RDPRES.adr, 0, 4⟩

/-- GAF.STATUS, chapter 14. -/
@[simp] abbrev GAF.STATUS.adr : Nat := 0x02020000
abbrev GAF.STATUS.ZOVER : FRef := ⟨GAF.STATUS.adr, 4, 1⟩
abbrev GAF.STATUS.STALE : FRef := ⟨GAF.STATUS.adr, 3, 1⟩
abbrev GAF.STATUS.THROT : FRef := ⟨GAF.STATUS.adr, 2, 1⟩
abbrev GAF.STATUS.BUDLOW : FRef := ⟨GAF.STATUS.adr, 1, 1⟩
abbrev GAF.STATUS.VINHI : FRef := ⟨GAF.STATUS.adr, 0, 1⟩

/-- GAF.MEAS, chapter 14. -/
@[simp] abbrev GAF.MEAS.adr : Nat := 0x02020001
abbrev GAF.MEAS.VIN : FRef := ⟨GAF.MEAS.adr, 12, 12⟩
abbrev GAF.MEAS.PIN : FRef := ⟨GAF.MEAS.adr, 0, 12⟩

/-- GAF.TJ, chapter 14. -/
@[simp] abbrev GAF.TJ.adr : Nat := 0x02020002
abbrev GAF.TJ.ISL : FRef := ⟨GAF.TJ.adr, 9, 5⟩
abbrev GAF.TJ.TJ : FRef := ⟨GAF.TJ.adr, 0, 9⟩

/-- GAF.SUPSTAT, chapter 14. -/
@[simp] abbrev GAF.SUPSTAT.adr : Nat := 0x02020003
abbrev GAF.SUPSTAT.RAIL : FRef := ⟨GAF.SUPSTAT.adr, 4, 2⟩
abbrev GAF.SUPSTAT.RAILRST : FRef := ⟨GAF.SUPSTAT.adr, 3, 1⟩
abbrev GAF.SUPSTAT.UVRST : FRef := ⟨GAF.SUPSTAT.adr, 2, 1⟩
abbrev GAF.SUPSTAT.TJRST : FRef := ⟨GAF.SUPSTAT.adr, 1, 1⟩

/-- GAF.DBUDGET, chapter 14. -/
@[simp] abbrev GAF.DBUDGET.adr : Nat := 0x02020008
abbrev GAF.DBUDGET.BUDGET : FRef := ⟨GAF.DBUDGET.adr, 0, 14⟩

/-- GAF.DSLEW, chapter 14. -/
@[simp] abbrev GAF.DSLEW.adr : Nat := 0x02020009
abbrev GAF.DSLEW.SLEW : FRef := ⟨GAF.DSLEW.adr, 0, 14⟩

/-- GAF.DLEDGER, chapter 14. -/
@[simp] abbrev GAF.DLEDGER.adr : Nat := 0x0202000A
abbrev GAF.DLEDGER.GRANTED : FRef := ⟨GAF.DLEDGER.adr, 0, 14⟩

/-- GAF.SWORST, chapter 14. -/
@[simp] abbrev GAF.SWORST.adr : Nat := 0x0202000B
abbrev GAF.SWORST.SW : FRef := ⟨GAF.SWORST.adr, 0, 16⟩

/-- GAF.ZSUP, chapter 14. -/
@[simp] abbrev GAF.ZSUP.adr : Nat := 0x02020010
abbrev GAF.ZSUP.IZ : FRef := ⟨GAF.ZSUP.adr, 16, 16⟩
abbrev GAF.ZSUP.SZ : FRef := ⟨GAF.ZSUP.adr, 0, 16⟩

/-- GAF.ZTHERM, chapter 14. -/
@[simp] abbrev GAF.ZTHERM.adr : Nat := 0x02020011
abbrev GAF.ZTHERM.TDER : FRef := ⟨GAF.ZTHERM.adr, 28, 8⟩
abbrev GAF.ZTHERM.KDER : FRef := ⟨GAF.ZTHERM.adr, 20, 8⟩
abbrev GAF.ZTHERM.TFALL : FRef := ⟨GAF.ZTHERM.adr, 12, 8⟩
abbrev GAF.ZTHERM.MAXAGE : FRef := ⟨GAF.ZTHERM.adr, 0, 12⟩

/-- GAF.ZTEMP, chapter 14. -/
@[simp] abbrev GAF.ZTEMP.adr (s : Nat) : Nat := 0x02020012 + s
abbrev GAF.ZTEMP.USED (s : Nat) : FRef := ⟨GAF.ZTEMP.adr s, 24, 1⟩
abbrev GAF.ZTEMP.TEMP (s : Nat) : FRef := ⟨GAF.ZTEMP.adr s, 16, 8⟩
abbrev GAF.ZTEMP.AGE (s : Nat) : FRef := ⟨GAF.ZTEMP.adr s, 0, 16⟩

/-- GAF.ZLEDGER, chapter 14. -/
@[simp] abbrev GAF.ZLEDGER.adr : Nat := 0x02020016
abbrev GAF.ZLEDGER.IZEFF : FRef := ⟨GAF.ZLEDGER.adr, 16, 16⟩
abbrev GAF.ZLEDGER.COMMIT : FRef := ⟨GAF.ZLEDGER.adr, 0, 16⟩

/-- GAF.QSTAT, chapter 14. -/
@[simp] abbrev GAF.QSTAT.adr : Nat := 0x02020018
abbrev GAF.QSTAT.HELD : FRef := ⟨GAF.QSTAT.adr, 8, 8⟩
abbrev GAF.QSTAT.QCNT : FRef := ⟨GAF.QSTAT.adr, 0, 8⟩

/-- GAF.ZLAST, chapter 14. -/
@[simp] abbrev GAF.ZLAST.adr : Nat := 0x02020019
abbrev GAF.ZLAST.PORT : FRef := ⟨GAF.ZLAST.adr, 22, 7⟩
abbrev GAF.ZLAST.WAIT : FRef := ⟨GAF.ZLAST.adr, 0, 22⟩

/-- GAF.CLS, chapter 14. -/
@[simp] abbrev GAF.CLS.adr (k : Nat) : Nat := 0x02020020 + k
abbrev GAF.CLS.PRIO (k : Nat) : FRef := ⟨GAF.CLS.adr k, 34, 2⟩
abbrev GAF.CLS.DUR (k : Nat) : FRef := ⟨GAF.CLS.adr k, 24, 10⟩
abbrev GAF.CLS.IPK (k : Nat) : FRef := ⟨GAF.CLS.adr k, 12, 12⟩
abbrev GAF.CLS.IRUN (k : Nat) : FRef := ⟨GAF.CLS.adr k, 0, 12⟩

/-- GAF.SLEEPCFG, chapter 14. -/
@[simp] abbrev GAF.SLEEPCFG.adr : Nat := 0x02020030
abbrev GAF.SLEEPCFG.WTIME : FRef := ⟨GAF.SLEEPCFG.adr, 8, 20⟩
abbrev GAF.SLEEPCFG.CANW : FRef := ⟨GAF.SLEEPCFG.adr, 6, 1⟩
abbrev GAF.SLEEPCFG.WAKEN : FRef := ⟨GAF.SLEEPCFG.adr, 2, 4⟩
abbrev GAF.SLEEPCFG.RETAIN : FRef := ⟨GAF.SLEEPCFG.adr, 1, 1⟩
abbrev GAF.SLEEPCFG.DEPTH : FRef := ⟨GAF.SLEEPCFG.adr, 0, 1⟩

/-- GAF.SLEEPST, chapter 14. -/
@[simp] abbrev GAF.SLEEPST.adr : Nat := 0x02020031
abbrev GAF.SLEEPST.TIMER : FRef := ⟨GAF.SLEEPST.adr, 5, 1⟩
abbrev GAF.SLEEPST.CAN : FRef := ⟨GAF.SLEEPST.adr, 4, 1⟩
abbrev GAF.SLEEPST.WAKE : FRef := ⟨GAF.SLEEPST.adr, 0, 4⟩

/-- ISL.CTRL, chapter 14. -/
@[simp] abbrev ISL.CTRL.adr (i : Nat) : Nat := 0x02020100 + 0x4 * i
abbrev ISL.CTRL.CLKREQ (i : Nat) : FRef := ⟨ISL.CTRL.adr i, 6, 2⟩
abbrev ISL.CTRL.DEEPEST (i : Nat) : FRef := ⟨ISL.CTRL.adr i, 2, 2⟩
abbrev ISL.CTRL.WAKE (i : Nat) : FRef := ⟨ISL.CTRL.adr i, 0, 1⟩

/-- ISL.STAT, chapter 14. -/
@[simp] abbrev ISL.STAT.adr (i : Nat) : Nat := 0x02020101 + 0x4 * i
abbrev ISL.STAT.GRANT (i : Nat) : FRef := ⟨ISL.STAT.adr i, 10, 14⟩
abbrev ISL.STAT.CLK (i : Nat) : FRef := ⟨ISL.STAT.adr i, 8, 2⟩
abbrev ISL.STAT.PEND (i : Nat) : FRef := ⟨ISL.STAT.adr i, 6, 2⟩
abbrev ISL.STAT.STATE (i : Nat) : FRef := ⟨ISL.STAT.adr i, 4, 2⟩
abbrev ISL.STAT.ALLOW (i : Nat) : FRef := ⟨ISL.STAT.adr i, 2, 2⟩

/-- ISL.TWL, chapter 14. -/
@[simp] abbrev ISL.TWL.adr (i : Nat) : Nat := 0x02020102 + 0x4 * i
abbrev ISL.TWL.TWL (i : Nat) : FRef := ⟨ISL.TWL.adr i, 0, 16⟩

/-- ISL.LASTW, chapter 14. -/
@[simp] abbrev ISL.LASTW.adr (i : Nat) : Nat := 0x02020103 + 0x4 * i
abbrev ISL.LASTW.STAG (i : Nat) : FRef := ⟨ISL.LASTW.adr i, 0, 16⟩

/-- SEC.STATUS, chapter 15. -/
@[simp] abbrev SEC.STATUS.adr : Nat := 0x020F0000
abbrev SEC.STATUS.QCNT : FRef := ⟨SEC.STATUS.adr, 3, 4⟩
abbrev SEC.STATUS.TRNGOK : FRef := ⟨SEC.STATUS.adr, 2, 1⟩
abbrev SEC.STATUS.OTPOK : FRef := ⟨SEC.STATUS.adr, 1, 1⟩
abbrev SEC.STATUS.TOKEN : FRef := ⟨SEC.STATUS.adr, 0, 1⟩

/-- SEC.START, chapter 15. -/
@[simp] abbrev SEC.START.adr : Nat := 0x020F0001
abbrev SEC.START.KIND : FRef := ⟨SEC.START.adr, 32, 4⟩
abbrev SEC.START.CAUSE : FRef := ⟨SEC.START.adr, 28, 4⟩
abbrev SEC.START.REGION : FRef := ⟨SEC.START.adr, 26, 2⟩
abbrev SEC.START.ATT : FRef := ⟨SEC.START.adr, 22, 4⟩
abbrev SEC.START.TOKEN : FRef := ⟨SEC.START.adr, 21, 1⟩
abbrev SEC.START.CALSKIP : FRef := ⟨SEC.START.adr, 20, 1⟩
abbrev SEC.START.TRIMOK : FRef := ⟨SEC.START.adr, 19, 1⟩
abbrev SEC.START.GOOD : FRef := ⟨SEC.START.adr, 18, 1⟩
abbrev SEC.START.GOODW : FRef := ⟨SEC.START.adr, 0, 1⟩

/-- SEC.STARTTIME, chapter 15. -/
@[simp] abbrev SEC.STARTTIME.adr : Nat := 0x020F0002
abbrev SEC.STARTTIME.US : FRef := ⟨SEC.STARTTIME.adr, 0, 24⟩

/-- SEC.BOOTCFG, chapter 15. -/
@[simp] abbrev SEC.BOOTCFG.adr : Nat := 0x020F0003
abbrev SEC.BOOTCFG.SAVED : FRef := ⟨SEC.BOOTCFG.adr, 35, 1⟩
abbrev SEC.BOOTCFG.PREF : FRef := ⟨SEC.BOOTCFG.adr, 33, 1⟩
abbrev SEC.BOOTCFG.DDRAUTO : FRef := ⟨SEC.BOOTCFG.adr, 32, 1⟩
abbrev SEC.BOOTCFG.DDRCFG : FRef := ⟨SEC.BOOTCFG.adr, 20, 12⟩
abbrev SEC.BOOTCFG.WDSTART : FRef := ⟨SEC.BOOTCFG.adr, 4, 16⟩

/-- SEC.WDOG, chapter 15. -/
@[simp] abbrev SEC.WDOG.adr : Nat := 0x020F0004
abbrev SEC.WDOG.EN : FRef := ⟨SEC.WDOG.adr, 16, 1⟩
abbrev SEC.WDOG.PERIOD : FRef := ⟨SEC.WDOG.adr, 0, 16⟩

/-- SEC.WDKICK, chapter 15. -/
@[simp] abbrev SEC.WDKICK.adr : Nat := 0x020F0005
abbrev SEC.WDKICK.KEY : FRef := ⟨SEC.WDKICK.adr, 0, 12⟩

/-- SEC.WDSTAT, chapter 15. -/
@[simp] abbrev SEC.WDSTAT.adr : Nat := 0x020F0006
abbrev SEC.WDSTAT.REM : FRef := ⟨SEC.WDSTAT.adr, 0, 16⟩

/-- SEC.IMG, chapter 15. -/
@[simp] abbrev SEC.IMG.adr : Nat := 0x020F0007
abbrev SEC.IMG.REGION : FRef := ⟨SEC.IMG.adr, 12, 2⟩
abbrev SEC.IMG.KEYSLOT : FRef := ⟨SEC.IMG.adr, 10, 2⟩
abbrev SEC.IMG.SECVER : FRef := ⟨SEC.IMG.adr, 0, 7⟩

/-- SEC.OTPSTAT, chapter 15. -/
@[simp] abbrev SEC.OTPSTAT.adr : Nat := 0x020F0008
abbrev SEC.OTPSTAT.IDPROG : FRef := ⟨SEC.OTPSTAT.adr, 17, 1⟩
abbrev SEC.OTPSTAT.DPROG : FRef := ⟨SEC.OTPSTAT.adr, 16, 1⟩
abbrev SEC.OTPSTAT.HPROG : FRef := ⟨SEC.OTPSTAT.adr, 15, 1⟩
abbrev SEC.OTPSTAT.KPROG : FRef := ⟨SEC.OTPSTAT.adr, 11, 4⟩
abbrev SEC.OTPSTAT.REVOKED : FRef := ⟨SEC.OTPSTAT.adr, 7, 4⟩
abbrev SEC.OTPSTAT.ARB : FRef := ⟨SEC.OTPSTAT.adr, 0, 7⟩

/-- SEC.OTPCMD, chapter 15. -/
@[simp] abbrev SEC.OTPCMD.adr : Nat := 0x020F0009
abbrev SEC.OTPCMD.ARG : FRef := ⟨SEC.OTPCMD.adr, 4, 4⟩
abbrev SEC.OTPCMD.CODE : FRef := ⟨SEC.OTPCMD.adr, 0, 4⟩

/-- SEC.OTPRES, chapter 15. -/
@[simp] abbrev SEC.OTPRES.adr : Nat := 0x020F000A
abbrev SEC.OTPRES.STATUS : FRef := ⟨SEC.OTPRES.adr, 32, 4⟩
abbrev SEC.OTPRES.PENDING : FRef := ⟨SEC.OTPRES.adr, 4, 1⟩
abbrev SEC.OTPRES.CODE : FRef := ⟨SEC.OTPRES.adr, 0, 4⟩

/-- SEC.OTPSTAGE, chapter 15. -/
@[simp] abbrev SEC.OTPSTAGE.adr (j : Nat) : Nat := 0x020F0010 + j
abbrev SEC.OTPSTAGE.W (j : Nat) : FRef := ⟨SEC.OTPSTAGE.adr j, 0, 36⟩

/-- SEC.IMGDIG, chapter 15. -/
@[simp] abbrev SEC.IMGDIG.adr (j : Nat) : Nat := 0x020F0020 + j
abbrev SEC.IMGDIG.W (j : Nat) : FRef := ⟨SEC.IMGDIG.adr j, 0, 36⟩

/-- SEC.IDKDIG, chapter 15. -/
@[simp] abbrev SEC.IDKDIG.adr (j : Nat) : Nat := 0x020F0030 + j
abbrev SEC.IDKDIG.W (j : Nat) : FRef := ⟨SEC.IDKDIG.adr j, 0, 36⟩

/-- SEC.KEYDIG, chapter 15. -/
@[simp] abbrev SEC.KEYDIG.adr (k : Nat) (j : Nat) : Nat := 0x020F0040 + 0x10 * k + j
abbrev SEC.KEYDIG.W (k : Nat) (j : Nat) : FRef := ⟨SEC.KEYDIG.adr k j, 0, 36⟩

/-- SEC.HOSTDIG, chapter 15. -/
@[simp] abbrev SEC.HOSTDIG.adr (j : Nat) : Nat := 0x020F0080 + j
abbrev SEC.HOSTDIG.W (j : Nat) : FRef := ⟨SEC.HOSTDIG.adr j, 0, 36⟩

/-- SEC.DBGDIG, chapter 15. -/
@[simp] abbrev SEC.DBGDIG.adr (j : Nat) : Nat := 0x020F0090 + j
abbrev SEC.DBGDIG.W (j : Nat) : FRef := ⟨SEC.DBGDIG.adr j, 0, 36⟩

/-- DBG.STATUS, chapter 15. -/
@[simp] abbrev DBG.STATUS.adr : Nat := 0x02110000
abbrev DBG.STATUS.LEVEL : FRef := ⟨DBG.STATUS.adr, 6, 2⟩
abbrev DBG.STATUS.TAP : FRef := ⟨DBG.STATUS.adr, 5, 1⟩
abbrev DBG.STATUS.UNLOCKED : FRef := ⟨DBG.STATUS.adr, 4, 1⟩
abbrev DBG.STATUS.LOCKOUT : FRef := ⟨DBG.STATUS.adr, 3, 1⟩
abbrev DBG.STATUS.FAILS : FRef := ⟨DBG.STATUS.adr, 1, 2⟩
abbrev DBG.STATUS.OPEN : FRef := ⟨DBG.STATUS.adr, 0, 1⟩

/-- DBG.CMD, chapter 15. -/
@[simp] abbrev DBG.CMD.adr : Nat := 0x02110001
abbrev DBG.CMD.CODE : FRef := ⟨DBG.CMD.adr, 0, 4⟩

/-- DBG.RES, chapter 15. -/
@[simp] abbrev DBG.RES.adr : Nat := 0x02110002
abbrev DBG.RES.STATUS : FRef := ⟨DBG.RES.adr, 32, 4⟩
abbrev DBG.RES.PENDING : FRef := ⟨DBG.RES.adr, 4, 1⟩
abbrev DBG.RES.CODE : FRef := ⟨DBG.RES.adr, 0, 4⟩

/-- DBG.RESP, chapter 15. -/
@[simp] abbrev DBG.RESP.adr : Nat := 0x02110003
abbrev DBG.RESP.W : FRef := ⟨DBG.RESP.adr, 0, 36⟩

/-- DBG.RESPCNT, chapter 15. -/
@[simp] abbrev DBG.RESPCNT.adr : Nat := 0x02110004
abbrev DBG.RESPCNT.COUNT : FRef := ⟨DBG.RESPCNT.adr, 0, 11⟩

/-- DBG.CORECTL, chapter 15. -/
@[simp] abbrev DBG.CORECTL.adr : Nat := 0x02110005
abbrev DBG.CORECTL.STEP : FRef := ⟨DBG.CORECTL.adr, 8, 8⟩
abbrev DBG.CORECTL.HALT : FRef := ⟨DBG.CORECTL.adr, 0, 8⟩

/-- DBG.CORESTS, chapter 15. -/
@[simp] abbrev DBG.CORESTS.adr : Nat := 0x02110006
abbrev DBG.CORESTS.HALTED : FRef := ⟨DBG.CORESTS.adr, 0, 8⟩

/-- DBG.CHAL, chapter 15. -/
@[simp] abbrev DBG.CHAL.adr (j : Nat) : Nat := 0x02110010 + j
abbrev DBG.CHAL.W (j : Nat) : FRef := ⟨DBG.CHAL.adr j, 0, 36⟩

/-- ETH.SLSTATE, chapter 16. -/
@[simp] abbrev ETH.SLSTATE.adr : Nat := 0x020D0000
abbrev ETH.SLSTATE.STATE : FRef := ⟨ETH.SLSTATE.adr, 32, 4⟩
abbrev ETH.SLSTATE.PREV : FRef := ⟨ETH.SLSTATE.adr, 28, 4⟩
abbrev ETH.SLSTATE.CUTFROM : FRef := ⟨ETH.SLSTATE.adr, 24, 4⟩

/-- ETH.SLCNT, chapter 16. -/
@[simp] abbrev ETH.SLCNT.adr : Nat := 0x020D0001
abbrev ETH.SLCNT.AUTHDROP : FRef := ⟨ETH.SLCNT.adr, 24, 12⟩
abbrev ETH.SLCNT.REPLAY : FRef := ⟨ETH.SLCNT.adr, 12, 12⟩
abbrev ETH.SLCNT.BADFRAME : FRef := ⟨ETH.SLCNT.adr, 0, 12⟩

/-- ETH.SESSTO, chapter 16. -/
@[simp] abbrev ETH.SESSTO.adr : Nat := 0x020D0002
abbrev ETH.SESSTO.SECS : FRef := ⟨ETH.SESSTO.adr, 0, 16⟩

/-- ETH.SESS, chapter 16. -/
@[simp] abbrev ETH.SESS.adr (k : Nat) : Nat := 0x020D0004 + k
abbrev ETH.SESS.TRANSPORT (k : Nat) : FRef := ⟨ETH.SESS.adr k, 32, 4⟩
abbrev ETH.SESS.NUMBER (k : Nat) : FRef := ⟨ETH.SESS.adr k, 0, 32⟩

/-- ETH.LOCALEN, chapter 16. -/
@[simp] abbrev ETH.LOCALEN.adr : Nat := 0x020D0008
abbrev ETH.LOCALEN.EN : FRef := ⟨ETH.LOCALEN.adr, 0, 1⟩

/-- ETH.LOCALCTL, chapter 16. -/
@[simp] abbrev ETH.LOCALCTL.adr : Nat := 0x020D0009
abbrev ETH.LOCALCTL.OWNER : FRef := ⟨ETH.LOCALCTL.adr, 28, 8⟩
abbrev ETH.LOCALCTL.LEN : FRef := ⟨ETH.LOCALCTL.adr, 1, 14⟩
abbrev ETH.LOCALCTL.GO : FRef := ⟨ETH.LOCALCTL.adr, 0, 1⟩

/-- ETH.LOCALBUF, chapter 16. -/
@[simp] abbrev ETH.LOCALBUF.adr : Nat := 0x020D000A
abbrev ETH.LOCALBUF.ADDR : FRef := ⟨ETH.LOCALBUF.adr, 0, 32⟩

/-- ETH.LOCALSTAT, chapter 16. -/
@[simp] abbrev ETH.LOCALSTAT.adr : Nat := 0x020D000B
abbrev ETH.LOCALSTAT.DONE : FRef := ⟨ETH.LOCALSTAT.adr, 35, 1⟩
abbrev ETH.LOCALSTAT.BUSY : FRef := ⟨ETH.LOCALSTAT.adr, 34, 1⟩
abbrev ETH.LOCALSTAT.BADBUF : FRef := ⟨ETH.LOCALSTAT.adr, 33, 1⟩
abbrev ETH.LOCALSTAT.RLEN : FRef := ⟨ETH.LOCALSTAT.adr, 0, 14⟩

/-- MAC.CTRL, chapter 16. -/
@[simp] abbrev MAC.CTRL.adr (m : Nat) : Nat := 0x020D0100 + 0x20 * m
abbrev MAC.CTRL.MACSEC (m : Nat) : FRef := ⟨MAC.CTRL.adr m, 7, 1⟩
abbrev MAC.CTRL.PTP (m : Nat) : FRef := ⟨MAC.CTRL.adr m, 6, 1⟩
abbrev MAC.CTRL.VLANEN (m : Nat) : FRef := ⟨MAC.CTRL.adr m, 5, 1⟩
abbrev MAC.CTRL.IP6EN (m : Nat) : FRef := ⟨MAC.CTRL.adr m, 4, 1⟩
abbrev MAC.CTRL.IP4EN (m : Nat) : FRef := ⟨MAC.CTRL.adr m, 3, 1⟩
abbrev MAC.CTRL.SLATE (m : Nat) : FRef := ⟨MAC.CTRL.adr m, 2, 1⟩
abbrev MAC.CTRL.EN (m : Nat) : FRef := ⟨MAC.CTRL.adr m, 0, 1⟩

/-- MAC.ADDRH, chapter 16. -/
@[simp] abbrev MAC.ADDRH.adr (m : Nat) : Nat := 0x020D0101 + 0x20 * m
abbrev MAC.ADDRH.ADDR (m : Nat) : FRef := ⟨MAC.ADDRH.adr m, 0, 16⟩

/-- MAC.ADDRL, chapter 16. -/
@[simp] abbrev MAC.ADDRL.adr (m : Nat) : Nat := 0x020D0102 + 0x20 * m
abbrev MAC.ADDRL.ADDR (m : Nat) : FRef := ⟨MAC.ADDRL.adr m, 0, 32⟩

/-- MAC.IP4, chapter 16. -/
@[simp] abbrev MAC.IP4.adr (m : Nat) : Nat := 0x020D0103 + 0x20 * m
abbrev MAC.IP4.ADDR (m : Nat) : FRef := ⟨MAC.IP4.adr m, 0, 32⟩

/-- MAC.IP6, chapter 16. -/
@[simp] abbrev MAC.IP6.adr (m : Nat) (j : Nat) : Nat := 0x020D0104 + 0x20 * m + j
abbrev MAC.IP6.ADDR (m : Nat) (j : Nat) : FRef := ⟨MAC.IP6.adr m j, 0, 32⟩

/-- MAC.PORT, chapter 16. -/
@[simp] abbrev MAC.PORT.adr (m : Nat) : Nat := 0x020D0108 + 0x20 * m
abbrev MAC.PORT.PORT (m : Nat) : FRef := ⟨MAC.PORT.adr m, 0, 16⟩

/-- MAC.VLAN, chapter 16. -/
@[simp] abbrev MAC.VLAN.adr (m : Nat) : Nat := 0x020D0109 + 0x20 * m
abbrev MAC.VLAN.PCP (m : Nat) : FRef := ⟨MAC.VLAN.adr m, 12, 3⟩
abbrev MAC.VLAN.VID (m : Nat) : FRef := ⟨MAC.VLAN.adr m, 0, 12⟩

/-- MAC.STATUS, chapter 16. -/
@[simp] abbrev MAC.STATUS.adr (m : Nat) : Nat := 0x020D010A + 0x20 * m
abbrev MAC.STATUS.SPEEDERR (m : Nat) : FRef := ⟨MAC.STATUS.adr m, 3, 1⟩
abbrev MAC.STATUS.LINKDN (m : Nat) : FRef := ⟨MAC.STATUS.adr m, 2, 1⟩
abbrev MAC.STATUS.LINK (m : Nat) : FRef := ⟨MAC.STATUS.adr m, 1, 1⟩
abbrev MAC.STATUS.SYNC (m : Nat) : FRef := ⟨MAC.STATUS.adr m, 0, 1⟩

/-- MAC.RXCNT, chapter 16. -/
@[simp] abbrev MAC.RXCNT.adr (m : Nat) : Nat := 0x020D010B + 0x20 * m
abbrev MAC.RXCNT.COUNT (m : Nat) : FRef := ⟨MAC.RXCNT.adr m, 0, 36⟩

/-- MAC.DROPCNT, chapter 16. -/
@[simp] abbrev MAC.DROPCNT.adr (m : Nat) : Nat := 0x020D010C + 0x20 * m
abbrev MAC.DROPCNT.COUNT (m : Nat) : FRef := ⟨MAC.DROPCNT.adr m, 0, 36⟩

/-- MAC.MDIO, chapter 16. -/
@[simp] abbrev MAC.MDIO.adr (m : Nat) : Nat := 0x020D010D + 0x20 * m
abbrev MAC.MDIO.GO (m : Nat) : FRef := ⟨MAC.MDIO.adr m, 35, 1⟩
abbrev MAC.MDIO.WR (m : Nat) : FRef := ⟨MAC.MDIO.adr m, 34, 1⟩
abbrev MAC.MDIO.PHYAD (m : Nat) : FRef := ⟨MAC.MDIO.adr m, 26, 5⟩
abbrev MAC.MDIO.REGAD (m : Nat) : FRef := ⟨MAC.MDIO.adr m, 21, 5⟩
abbrev MAC.MDIO.DATA (m : Nat) : FRef := ⟨MAC.MDIO.adr m, 0, 16⟩

/-- MAC.OFSH, chapter 16. -/
@[simp] abbrev MAC.OFSH.adr (m : Nat) : Nat := 0x020D010E + 0x20 * m
abbrev MAC.OFSH.OFS (m : Nat) : FRef := ⟨MAC.OFSH.adr m, 0, 28⟩

/-- MAC.OFSL, chapter 16. -/
@[simp] abbrev MAC.OFSL.adr (m : Nat) : Nat := 0x020D010F + 0x20 * m
abbrev MAC.OFSL.OFS (m : Nat) : FRef := ⟨MAC.OFSL.adr m, 0, 36⟩

/-- MAC.RATE, chapter 16. -/
@[simp] abbrev MAC.RATE.adr (m : Nat) : Nat := 0x020D0110 + 0x20 * m
abbrev MAC.RATE.RATE (m : Nat) : FRef := ⟨MAC.RATE.adr m, 0, 36⟩

/-- MAC.PTPSTAT, chapter 16. -/
@[simp] abbrev MAC.PTPSTAT.adr (m : Nat) : Nat := 0x020D0111 + 0x20 * m
abbrev MAC.PTPSTAT.LOCK (m : Nat) : FRef := ⟨MAC.PTPSTAT.adr m, 16, 1⟩
abbrev MAC.PTPSTAT.CORR (m : Nat) : FRef := ⟨MAC.PTPSTAT.adr m, 0, 16⟩

/-- ETH.AINSCN, chapter 16. -/
@[simp] abbrev ETH.AINSCN.adr (a : Nat) : Nat := 0x020D0200 + a
abbrev ETH.AINSCN.VALID (a : Nat) : FRef := ⟨ETH.AINSCN.adr a, 4, 1⟩
abbrev ETH.AINSCN.MODE (a : Nat) : FRef := ⟨ETH.AINSCN.adr a, 3, 1⟩
abbrev ETH.AINSCN.GAINMAX (a : Nat) : FRef := ⟨ETH.AINSCN.adr a, 1, 2⟩

/-- CAN.CTRL, chapter 16. -/
@[simp] abbrev CAN.CTRL.adr (n : Nat) : Nat := 0x020E0100 + 0x20 * n
abbrev CAN.CTRL.OWNER (n : Nat) : FRef := ⟨CAN.CTRL.adr n, 28, 8⟩
abbrev CAN.CTRL.MODE (n : Nat) : FRef := ⟨CAN.CTRL.adr n, 26, 2⟩
abbrev CAN.CTRL.SLATE (n : Nat) : FRef := ⟨CAN.CTRL.adr n, 25, 1⟩
abbrev CAN.CTRL.EN (n : Nat) : FRef := ⟨CAN.CTRL.adr n, 0, 1⟩

/-- CAN.NBT, chapter 16. -/
@[simp] abbrev CAN.NBT.adr (n : Nat) : Nat := 0x020E0101 + 0x20 * n
abbrev CAN.NBT.BRP (n : Nat) : FRef := ⟨CAN.NBT.adr n, 27, 9⟩
abbrev CAN.NBT.SEG1 (n : Nat) : FRef := ⟨CAN.NBT.adr n, 18, 9⟩
abbrev CAN.NBT.SEG2 (n : Nat) : FRef := ⟨CAN.NBT.adr n, 10, 8⟩
abbrev CAN.NBT.SJW (n : Nat) : FRef := ⟨CAN.NBT.adr n, 2, 8⟩

/-- CAN.DBT, chapter 16. -/
@[simp] abbrev CAN.DBT.adr (n : Nat) : Nat := 0x020E0102 + 0x20 * n
abbrev CAN.DBT.BRP (n : Nat) : FRef := ⟨CAN.DBT.adr n, 27, 9⟩
abbrev CAN.DBT.SEG1 (n : Nat) : FRef := ⟨CAN.DBT.adr n, 18, 9⟩
abbrev CAN.DBT.SEG2 (n : Nat) : FRef := ⟨CAN.DBT.adr n, 10, 8⟩
abbrev CAN.DBT.SJW (n : Nat) : FRef := ⟨CAN.DBT.adr n, 2, 8⟩

/-- CAN.TDC, chapter 16. -/
@[simp] abbrev CAN.TDC.adr (n : Nat) : Nat := 0x020E0103 + 0x20 * n
abbrev CAN.TDC.EN (n : Nat) : FRef := ⟨CAN.TDC.adr n, 8, 1⟩
abbrev CAN.TDC.OFFSET (n : Nat) : FRef := ⟨CAN.TDC.adr n, 0, 8⟩

/-- CAN.IDS, chapter 16. -/
@[simp] abbrev CAN.IDS.adr (n : Nat) : Nat := 0x020E0104 + 0x20 * n
abbrev CAN.IDS.HOSTID (n : Nat) : FRef := ⟨CAN.IDS.adr n, 11, 11⟩
abbrev CAN.IDS.DEVID (n : Nat) : FRef := ⟨CAN.IDS.adr n, 0, 11⟩

/-- CAN.XLH, chapter 16. -/
@[simp] abbrev CAN.XLH.adr (n : Nat) : Nat := 0x020E0105 + 0x20 * n
abbrev CAN.XLH.SDT (n : Nat) : FRef := ⟨CAN.XLH.adr n, 8, 8⟩
abbrev CAN.XLH.VCID (n : Nat) : FRef := ⟨CAN.XLH.adr n, 0, 8⟩

/-- CAN.RXBASE, chapter 16. -/
@[simp] abbrev CAN.RXBASE.adr (n : Nat) : Nat := 0x020E0106 + 0x20 * n
abbrev CAN.RXBASE.BASE (n : Nat) : FRef := ⟨CAN.RXBASE.adr n, 0, 32⟩

/-- CAN.TXBASE, chapter 16. -/
@[simp] abbrev CAN.TXBASE.adr (n : Nat) : Nat := 0x020E010A + 0x20 * n
abbrev CAN.TXBASE.BASE (n : Nat) : FRef := ⟨CAN.TXBASE.adr n, 0, 32⟩

/-- CAN.RXSIZE, chapter 16. -/
@[simp] abbrev CAN.RXSIZE.adr (n : Nat) : Nat := 0x020E0107 + 0x20 * n
abbrev CAN.RXSIZE.SIZE (n : Nat) : FRef := ⟨CAN.RXSIZE.adr n, 0, 12⟩

/-- CAN.TXSIZE, chapter 16. -/
@[simp] abbrev CAN.TXSIZE.adr (n : Nat) : Nat := 0x020E010B + 0x20 * n
abbrev CAN.TXSIZE.SIZE (n : Nat) : FRef := ⟨CAN.TXSIZE.adr n, 0, 12⟩

/-- CAN.RXW, chapter 16. -/
@[simp] abbrev CAN.RXW.adr (n : Nat) : Nat := 0x020E0108 + 0x20 * n
abbrev CAN.RXW.PTR (n : Nat) : FRef := ⟨CAN.RXW.adr n, 0, 12⟩

/-- CAN.RXR, chapter 16. -/
@[simp] abbrev CAN.RXR.adr (n : Nat) : Nat := 0x020E0109 + 0x20 * n
abbrev CAN.RXR.PTR (n : Nat) : FRef := ⟨CAN.RXR.adr n, 0, 12⟩

/-- CAN.TXW, chapter 16. -/
@[simp] abbrev CAN.TXW.adr (n : Nat) : Nat := 0x020E010C + 0x20 * n
abbrev CAN.TXW.PTR (n : Nat) : FRef := ⟨CAN.TXW.adr n, 0, 12⟩

/-- CAN.TXR, chapter 16. -/
@[simp] abbrev CAN.TXR.adr (n : Nat) : Nat := 0x020E010D + 0x20 * n
abbrev CAN.TXR.PTR (n : Nat) : FRef := ⟨CAN.TXR.adr n, 0, 12⟩

/-- CAN.STATUS, chapter 16. -/
@[simp] abbrev CAN.STATUS.adr (n : Nat) : Nat := 0x020E010E + 0x20 * n
abbrev CAN.STATUS.TEC (n : Nat) : FRef := ⟨CAN.STATUS.adr n, 16, 8⟩
abbrev CAN.STATUS.REC (n : Nat) : FRef := ⟨CAN.STATUS.adr n, 8, 8⟩
abbrev CAN.STATUS.CFGERR (n : Nat) : FRef := ⟨CAN.STATUS.adr n, 4, 1⟩
abbrev CAN.STATUS.RXOVR (n : Nat) : FRef := ⟨CAN.STATUS.adr n, 3, 1⟩
abbrev CAN.STATUS.BUSOFF (n : Nat) : FRef := ⟨CAN.STATUS.adr n, 2, 1⟩
abbrev CAN.STATUS.ERRP (n : Nat) : FRef := ⟨CAN.STATUS.adr n, 1, 1⟩

/-- SPI.CTRL, chapter 16. -/
@[simp] abbrev SPI.CTRL.adr (n : Nat) : Nat := 0x02120100 + 0x8 * n
abbrev SPI.CTRL.OWNER (n : Nat) : FRef := ⟨SPI.CTRL.adr n, 28, 8⟩
abbrev SPI.CTRL.WIDTH (n : Nat) : FRef := ⟨SPI.CTRL.adr n, 22, 6⟩
abbrev SPI.CTRL.LSBF (n : Nat) : FRef := ⟨SPI.CTRL.adr n, 21, 1⟩
abbrev SPI.CTRL.CPHA (n : Nat) : FRef := ⟨SPI.CTRL.adr n, 20, 1⟩
abbrev SPI.CTRL.CPOL (n : Nat) : FRef := ⟨SPI.CTRL.adr n, 19, 1⟩
abbrev SPI.CTRL.CSHOLD (n : Nat) : FRef := ⟨SPI.CTRL.adr n, 18, 1⟩
abbrev SPI.CTRL.EN (n : Nat) : FRef := ⟨SPI.CTRL.adr n, 0, 1⟩

/-- SPI.CLK, chapter 16. -/
@[simp] abbrev SPI.CLK.adr (n : Nat) : Nat := 0x02120101 + 0x8 * n
abbrev SPI.CLK.DIV (n : Nat) : FRef := ⟨SPI.CLK.adr n, 0, 8⟩

/-- UART.CTRL, chapter 16. -/
@[simp] abbrev UART.CTRL.adr (n : Nat) : Nat := 0x02120200 + 0x8 * n
abbrev UART.CTRL.OWNER (n : Nat) : FRef := ⟨UART.CTRL.adr n, 28, 8⟩
abbrev UART.CTRL.BITS (n : Nat) : FRef := ⟨UART.CTRL.adr n, 26, 2⟩
abbrev UART.CTRL.PARITY (n : Nat) : FRef := ⟨UART.CTRL.adr n, 24, 2⟩
abbrev UART.CTRL.STOP2 (n : Nat) : FRef := ⟨UART.CTRL.adr n, 23, 1⟩
abbrev UART.CTRL.EN (n : Nat) : FRef := ⟨UART.CTRL.adr n, 0, 1⟩

/-- UART.BAUD, chapter 16. -/
@[simp] abbrev UART.BAUD.adr (n : Nat) : Nat := 0x02120201 + 0x8 * n
abbrev UART.BAUD.DIV (n : Nat) : FRef := ⟨UART.BAUD.adr n, 6, 20⟩
abbrev UART.BAUD.FRAC (n : Nat) : FRef := ⟨UART.BAUD.adr n, 0, 6⟩

/-- SPI.TX, chapter 16. -/
@[simp] abbrev SPI.TX.adr (n : Nat) : Nat := 0x02120102 + 0x8 * n
abbrev SPI.TX.DATA (n : Nat) : FRef := ⟨SPI.TX.adr n, 0, 36⟩

/-- UART.TX, chapter 16. -/
@[simp] abbrev UART.TX.adr (n : Nat) : Nat := 0x02120202 + 0x8 * n
abbrev UART.TX.DATA (n : Nat) : FRef := ⟨UART.TX.adr n, 0, 36⟩

/-- SPI.RX, chapter 16. -/
@[simp] abbrev SPI.RX.adr (n : Nat) : Nat := 0x02120103 + 0x8 * n
abbrev SPI.RX.DATA (n : Nat) : FRef := ⟨SPI.RX.adr n, 0, 36⟩

/-- UART.RX, chapter 16. -/
@[simp] abbrev UART.RX.adr (n : Nat) : Nat := 0x02120203 + 0x8 * n
abbrev UART.RX.DATA (n : Nat) : FRef := ⟨UART.RX.adr n, 0, 36⟩

/-- SPI.STATUS, chapter 16. -/
@[simp] abbrev SPI.STATUS.adr (n : Nat) : Nat := 0x02120104 + 0x8 * n
abbrev SPI.STATUS.TXCNT (n : Nat) : FRef := ⟨SPI.STATUS.adr n, 12, 4⟩
abbrev SPI.STATUS.RXCNT (n : Nat) : FRef := ⟨SPI.STATUS.adr n, 8, 4⟩
abbrev SPI.STATUS.PE (n : Nat) : FRef := ⟨SPI.STATUS.adr n, 5, 1⟩
abbrev SPI.STATUS.FE (n : Nat) : FRef := ⟨SPI.STATUS.adr n, 4, 1⟩
abbrev SPI.STATUS.RXOVR (n : Nat) : FRef := ⟨SPI.STATUS.adr n, 3, 1⟩
abbrev SPI.STATUS.RXUNF (n : Nat) : FRef := ⟨SPI.STATUS.adr n, 2, 1⟩
abbrev SPI.STATUS.TXOVR (n : Nat) : FRef := ⟨SPI.STATUS.adr n, 1, 1⟩
abbrev SPI.STATUS.BUSY (n : Nat) : FRef := ⟨SPI.STATUS.adr n, 0, 1⟩

/-- UART.STATUS, chapter 16. -/
@[simp] abbrev UART.STATUS.adr (n : Nat) : Nat := 0x02120204 + 0x8 * n
abbrev UART.STATUS.TXCNT (n : Nat) : FRef := ⟨UART.STATUS.adr n, 12, 4⟩
abbrev UART.STATUS.RXCNT (n : Nat) : FRef := ⟨UART.STATUS.adr n, 8, 4⟩
abbrev UART.STATUS.PE (n : Nat) : FRef := ⟨UART.STATUS.adr n, 5, 1⟩
abbrev UART.STATUS.FE (n : Nat) : FRef := ⟨UART.STATUS.adr n, 4, 1⟩
abbrev UART.STATUS.RXOVR (n : Nat) : FRef := ⟨UART.STATUS.adr n, 3, 1⟩
abbrev UART.STATUS.RXUNF (n : Nat) : FRef := ⟨UART.STATUS.adr n, 2, 1⟩
abbrev UART.STATUS.TXOVR (n : Nat) : FRef := ⟨UART.STATUS.adr n, 1, 1⟩
abbrev UART.STATUS.BUSY (n : Nat) : FRef := ⟨UART.STATUS.adr n, 0, 1⟩

/-- FLASH.BANKSTAT, chapter 13. -/
@[simp] abbrev FLASH.BANKSTAT.adr : Nat := 0x020C0001
abbrev FLASH.BANKSTAT.SPARES0 : FRef := ⟨FLASH.BANKSTAT.adr, 3, 4⟩
abbrev FLASH.BANKSTAT.SUSP0 : FRef := ⟨FLASH.BANKSTAT.adr, 2, 1⟩
abbrev FLASH.BANKSTAT.OP0 : FRef := ⟨FLASH.BANKSTAT.adr, 0, 2⟩
abbrev FLASH.BANKSTAT.SPARES1 : FRef := ⟨FLASH.BANKSTAT.adr, 12, 4⟩
abbrev FLASH.BANKSTAT.SUSP1 : FRef := ⟨FLASH.BANKSTAT.adr, 11, 1⟩
abbrev FLASH.BANKSTAT.OP1 : FRef := ⟨FLASH.BANKSTAT.adr, 9, 2⟩
abbrev FLASH.BANKSTAT.SPARES2 : FRef := ⟨FLASH.BANKSTAT.adr, 21, 4⟩
abbrev FLASH.BANKSTAT.SUSP2 : FRef := ⟨FLASH.BANKSTAT.adr, 20, 1⟩
abbrev FLASH.BANKSTAT.OP2 : FRef := ⟨FLASH.BANKSTAT.adr, 18, 2⟩
abbrev FLASH.BANKSTAT.SPARES3 : FRef := ⟨FLASH.BANKSTAT.adr, 30, 4⟩
abbrev FLASH.BANKSTAT.SUSP3 : FRef := ⟨FLASH.BANKSTAT.adr, 29, 1⟩
abbrev FLASH.BANKSTAT.OP3 : FRef := ⟨FLASH.BANKSTAT.adr, 27, 2⟩

/-- FLASH.SUSPSEC, chapter 13. -/
@[simp] abbrev FLASH.SUSPSEC.adr : Nat := 0x020C0002
abbrev FLASH.SUSPSEC.DFU : FRef := ⟨FLASH.SUSPSEC.adr, 20, 10⟩
abbrev FLASH.SUSPSEC.CFB : FRef := ⟨FLASH.SUSPSEC.adr, 10, 10⟩
abbrev FLASH.SUSPSEC.CFA : FRef := ⟨FLASH.SUSPSEC.adr, 0, 10⟩

/-- FLASH.MAINT, chapter 13. -/
@[simp] abbrev FLASH.MAINT.adr : Nat := 0x020C0003
abbrev FLASH.MAINT.DFU : FRef := ⟨FLASH.MAINT.adr, 2, 1⟩
abbrev FLASH.MAINT.CFB : FRef := ⟨FLASH.MAINT.adr, 1, 1⟩
abbrev FLASH.MAINT.CFA : FRef := ⟨FLASH.MAINT.adr, 0, 1⟩

/-- SS.RES, chapter 03. -/
@[simp] abbrev SS.RES.adr (n : Nat) (k : Nat) : Nat := 0x02050120 + 0x40 * n + k
abbrev SS.RES.SEQ (n : Nat) (k : Nat) : FRef := ⟨SS.RES.adr n k, 28, 8⟩
abbrev SS.RES.AIN (n : Nat) (k : Nat) : FRef := ⟨SS.RES.adr n k, 22, 6⟩
abbrev SS.RES.GAIN (n : Nat) (k : Nat) : FRef := ⟨SS.RES.adr n k, 20, 2⟩
abbrev SS.RES.OVR (n : Nat) (k : Nat) : FRef := ⟨SS.RES.adr n k, 19, 1⟩
abbrev SS.RES.TRIM (n : Nat) (k : Nat) : FRef := ⟨SS.RES.adr n k, 18, 1⟩
abbrev SS.RES.VALUE (n : Nat) (k : Nat) : FRef := ⟨SS.RES.adr n k, 0, 16⟩

/-- CTU.LOG, chapter 11. -/
@[simp] abbrev CTU.LOG.adr (i : Nat) (w : Nat) : Nat := 0x02031000 + 0x4 * i + w
abbrev CTU.LOG.W (i : Nat) (w : Nat) : FRef := ⟨CTU.LOG.adr i w, 0, 36⟩

end Sys2Proof.Machine
end

