-- ==== Sys2Proof/Machine/RegTable.lean ====
section
/-! DEFINITION. The register tables of the spec as data: for every word of every control block, its fields with their
access codes (R4), whether a field is locked while its block is in use (R457), and the reset values the spec gives. -/

namespace Sys2Proof.Machine

/-- R4: the access codes. -/
inductive Acc where
  | ro | rw | wo | w1c | rws | own
deriving DecidableEq, Repr

/-- One field of a register word: lowest bit, width, access code, and whether the chapter locks it under R457. -/
structure FSpec where
  lo : Nat
  w : Nat
  acc : Acc
  locked : Bool
deriving DecidableEq, Repr

/-- One register of a map: its first address, up to two strides with their counts, and its fields. -/
structure RegRow where
  base : Nat
  s1 : Nat
  n1 : Nat
  s2 : Nat
  n2 : Nat
  flds : List FSpec
deriving DecidableEq, Repr

/-- Whether a word address is one of the row's instances. -/
def RegRow.covers (r : RegRow) (adr : Nat) : Bool :=
  decide (r.base ≤ adr) && decide ((adr - r.base) / r.s1 < r.n1) &&
    decide ((adr - r.base) % r.s1 % r.s2 = 0) && decide ((adr - r.base) % r.s1 / r.s2 < r.n2)

def regRowsSys : List RegRow := [
  /- SYS.ID -/ ⟨0x02000000, 0x1, 1, 0x1, 1, [⟨24, 12, .ro, false⟩, ⟨8, 16, .ro, false⟩, ⟨0, 8, .ro, false⟩]⟩,
  /- SYS.UID -/ ⟨0x02000001, 0x1, 4, 0x1, 1, [⟨0, 36, .ro, false⟩]⟩,
  /- SYS.OPTIONS -/ ⟨0x02000005, 0x1, 1, 0x1, 1, [⟨3, 2, .ro, false⟩, ⟨2, 1, .ro, false⟩, ⟨1, 1, .ro, false⟩]⟩,
  /- SYS.CLM -/ ⟨0x02001000, 0x1, 4096, 0x1, 1, [⟨8, 12, .ro, false⟩, ⟨0, 8, .own, false⟩]⟩,
  /- SYS.FST -/ ⟨0x02002000, 0x1, 4096, 0x1, 1, [⟨20, 12, .ro, false⟩, ⟨8, 12, .ro, false⟩, ⟨0, 2, .ro, false⟩]⟩]

def regRowsTimecode : List RegRow := [
  /- TC.NOWHI -/ ⟨0x02010000, 0x1, 1, 0x1, 1, [⟨0, 28, .ro, false⟩]⟩,
  /- TC.NOWLO -/ ⟨0x02010001, 0x1, 1, 0x1, 1, [⟨0, 36, .ro, false⟩]⟩,
  /- TC.STATUS -/ ⟨0x02010002, 0x1, 1, 0x1, 1, [⟨4, 16, .ro, false⟩, ⟨3, 1, .ro, false⟩, ⟨2, 1, .w1c, false⟩, ⟨1, 1, .ro, false⟩]⟩,
  /- TC.CMPHI -/ ⟨0x02010100, 0x4, 16, 0x1, 1, [⟨0, 28, .own, false⟩]⟩,
  /- TC.CMPLO -/ ⟨0x02010101, 0x4, 16, 0x1, 1, [⟨0, 36, .own, false⟩]⟩,
  /- TC.PERIOD -/ ⟨0x02010102, 0x4, 16, 0x1, 1, [⟨0, 36, .own, false⟩]⟩,
  /- TC.CTRL -/ ⟨0x02010103, 0x4, 16, 0x1, 1, [⟨4, 1, .own, false⟩, ⟨3, 1, .w1c, false⟩, ⟨2, 1, .w1c, false⟩, ⟨1, 1, .own, false⟩, ⟨0, 1, .own, false⟩]⟩]

def regRowsGafferA : List RegRow := [
  /- GAF.STATUS -/ ⟨0x02020000, 0x1, 1, 0x1, 1, [⟨4, 1, .ro, false⟩, ⟨3, 1, .ro, false⟩, ⟨2, 1, .ro, false⟩, ⟨1, 1, .ro, false⟩, ⟨0, 1, .ro, false⟩]⟩,
  /- GAF.MEAS -/ ⟨0x02020001, 0x1, 1, 0x1, 1, [⟨12, 12, .ro, false⟩, ⟨0, 12, .ro, false⟩]⟩,
  /- GAF.TJ -/ ⟨0x02020002, 0x1, 1, 0x1, 1, [⟨9, 5, .ro, false⟩, ⟨0, 9, .ro, false⟩]⟩,
  /- GAF.SUPSTAT -/ ⟨0x02020003, 0x1, 1, 0x1, 1, [⟨4, 2, .ro, false⟩, ⟨3, 1, .w1c, false⟩, ⟨2, 1, .w1c, false⟩, ⟨1, 1, .w1c, false⟩]⟩,
  /- GAF.DBUDGET -/ ⟨0x02020008, 0x1, 1, 0x1, 1, [⟨0, 14, .own, false⟩]⟩,
  /- GAF.DSLEW -/ ⟨0x02020009, 0x1, 1, 0x1, 1, [⟨0, 14, .own, false⟩]⟩,
  /- GAF.DLEDGER -/ ⟨0x0202000A, 0x1, 1, 0x1, 1, [⟨0, 14, .ro, false⟩]⟩,
  /- GAF.SWORST -/ ⟨0x0202000B, 0x1, 1, 0x1, 1, [⟨0, 16, .ro, false⟩]⟩,
  /- GAF.ZSUP -/ ⟨0x02020010, 0x1, 1, 0x1, 1, [⟨16, 16, .own, false⟩, ⟨0, 16, .own, false⟩]⟩,
  /- GAF.ZTHERM -/ ⟨0x02020011, 0x1, 1, 0x1, 1, [⟨28, 8, .own, false⟩, ⟨20, 8, .own, false⟩, ⟨12, 8, .own, false⟩, ⟨0, 12, .own, false⟩]⟩]

def regRowsGafferB : List RegRow := [
  /- GAF.ZTEMP -/ ⟨0x02020012, 0x1, 4, 0x1, 1, [⟨24, 1, .own, false⟩, ⟨16, 8, .own, false⟩, ⟨0, 16, .ro, false⟩]⟩,
  /- GAF.ZLEDGER -/ ⟨0x02020016, 0x1, 1, 0x1, 1, [⟨16, 16, .ro, false⟩, ⟨0, 16, .ro, false⟩]⟩,
  /- GAF.QSTAT -/ ⟨0x02020018, 0x1, 1, 0x1, 1, [⟨8, 8, .ro, false⟩, ⟨0, 8, .ro, false⟩]⟩,
  /- GAF.ZLAST -/ ⟨0x02020019, 0x1, 1, 0x1, 1, [⟨22, 7, .ro, false⟩, ⟨0, 22, .ro, false⟩]⟩,
  /- GAF.CLS -/ ⟨0x02020021, 0x1, 15, 0x1, 1, [⟨34, 2, .own, false⟩, ⟨24, 10, .own, false⟩, ⟨12, 12, .own, false⟩, ⟨0, 12, .own, false⟩]⟩,
  /- GAF.SLEEPCFG -/ ⟨0x02020030, 0x1, 1, 0x1, 1, [⟨8, 20, .own, false⟩, ⟨6, 1, .own, false⟩, ⟨2, 4, .own, false⟩, ⟨1, 1, .own, false⟩, ⟨0, 1, .own, false⟩]⟩,
  /- GAF.SLEEPST -/ ⟨0x02020031, 0x1, 1, 0x1, 1, [⟨5, 1, .ro, false⟩, ⟨4, 1, .ro, false⟩, ⟨0, 4, .ro, false⟩]⟩,
  /- ISL.CTRL -/ ⟨0x02020100, 0x4, 32, 0x1, 1, [⟨6, 2, .rw, false⟩, ⟨2, 2, .rw, false⟩, ⟨0, 1, .wo, false⟩]⟩,
  /- ISL.STAT -/ ⟨0x02020101, 0x4, 32, 0x1, 1, [⟨10, 14, .ro, false⟩, ⟨8, 2, .ro, false⟩, ⟨6, 2, .ro, false⟩, ⟨4, 2, .ro, false⟩, ⟨2, 2, .ro, false⟩]⟩,
  /- ISL.TWL -/ ⟨0x02020102, 0x4, 32, 0x1, 1, [⟨0, 16, .rw, false⟩]⟩]

def regRowsGafferC : List RegRow := [
  /- ISL.LASTW -/ ⟨0x02020103, 0x4, 32, 0x1, 1, [⟨0, 16, .ro, false⟩]⟩]

def regRowsGaffer : List RegRow := regRowsGafferA ++ regRowsGafferB ++ regRowsGafferC

def regRowsCtuA : List RegRow := [
  /- CTU.STATUS -/ ⟨0x02030000, 0x1, 1, 0x1, 1, [⟨7, 1, .ro, false⟩, ⟨6, 1, .ro, false⟩, ⟨5, 1, .ro, false⟩, ⟨4, 1, .ro, false⟩, ⟨3, 1, .w1c, false⟩, ⟨2, 1, .w1c, false⟩, ⟨1, 1, .ro, false⟩, ⟨0, 1, .ro, false⟩]⟩,
  /- CTU.CORESTAT -/ ⟨0x02030001, 0x1, 1, 0x1, 1, [⟨21, 3, .ro, false⟩, ⟨18, 3, .ro, false⟩, ⟨15, 3, .ro, false⟩, ⟨12, 3, .ro, false⟩, ⟨9, 3, .ro, false⟩, ⟨6, 3, .ro, false⟩, ⟨3, 3, .ro, false⟩, ⟨0, 3, .ro, false⟩]⟩,
  /- CTU.CORECMD -/ ⟨0x02030002, 0x1, 1, 0x1, 1, [⟨4, 4, .wo, false⟩, ⟨0, 4, .wo, false⟩]⟩,
  /- CTU.CORERES -/ ⟨0x02030003, 0x1, 1, 0x1, 1, [⟨32, 4, .ro, false⟩, ⟨28, 4, .ro, false⟩, ⟨15, 1, .ro, false⟩, ⟨4, 4, .ro, false⟩, ⟨0, 4, .ro, false⟩]⟩,
  /- CTU.LOGCTL -/ ⟨0x02030004, 0x1, 1, 0x1, 1, [⟨24, 12, .ro, false⟩, ⟨12, 10, .ro, false⟩, ⟨0, 9, .ro, false⟩]⟩,
  /- CTU.LOGCMD -/ ⟨0x02030005, 0x1, 1, 0x1, 1, [⟨0, 1, .wo, false⟩]⟩,
  /- CTU.INJSTAT -/ ⟨0x02030006, 0x1, 1, 0x1, 1, [⟨20, 16, .ro, false⟩, ⟨8, 8, .ro, false⟩, ⟨5, 3, .ro, false⟩, ⟨2, 3, .ro, false⟩]⟩,
  /- CTU.SCRSTAT -/ ⟨0x02030007, 0x1, 1, 0x1, 1, [⟨20, 16, .ro, false⟩, ⟨8, 3, .ro, false⟩, ⟨0, 8, .ro, false⟩]⟩,
  /- CTU.FOSTAT -/ ⟨0x02030008, 0x1, 1, 0x1, 1, [⟨32, 4, .ro, false⟩, ⟨24, 8, .ro, false⟩, ⟨16, 8, .ro, false⟩, ⟨8, 8, .ro, false⟩, ⟨0, 8, .ro, false⟩]⟩,
  /- CTU.FOTIME -/ ⟨0x02030009, 0x1, 1, 0x1, 1, [⟨0, 16, .ro, false⟩]⟩]

def regRowsCtuB : List RegRow := [
  /- CTU.MMINFO -/ ⟨0x02030100, 0x8, 8, 0x1, 1, [⟨3, 1, .ro, false⟩, ⟨0, 3, .ro, false⟩]⟩,
  /- CTU.MMADDR -/ ⟨0x02030101, 0x8, 8, 0x1, 1, [⟨0, 36, .ro, false⟩]⟩,
  /- CTU.MMLEAD -/ ⟨0x02030102, 0x8, 8, 0x1, 1, [⟨0, 36, .ro, false⟩]⟩,
  /- CTU.MMTRAIL -/ ⟨0x02030103, 0x8, 8, 0x1, 1, [⟨0, 36, .ro, false⟩]⟩,
  /- CTU.MMSTAMP -/ ⟨0x02030104, 0x8, 8, 0x1, 1, [⟨0, 36, .ro, false⟩]⟩,
  /- CTU.FPCORE -/ ⟨0x02030200, 0x20, 8, 0x1, 1, [⟨4, 4, .own, false⟩, ⟨0, 4, .own, false⟩]⟩,
  /- CTU.FPT -/ ⟨0x02030201, 0x20, 8, 0x1, 8, [⟨12, 4, .own, false⟩, ⟨9, 3, .own, false⟩, ⟨4, 5, .own, false⟩, ⟨0, 1, .own, false⟩]⟩,
  /- CTU.FPRPC -/ ⟨0x02030209, 0x20, 8, 0x1, 8, [⟨0, 32, .own, false⟩]⟩,
  /- CTU.FCNT -/ ⟨0x02030400, 0x1, 256, 0x1, 1, [⟨0, 16, .own, false⟩]⟩,
  /- CTU.LOG -/ ⟨0x02031000, 0x4, 512, 0x1, 4, [⟨0, 36, .ro, false⟩]⟩]

def regRowsCtu : List RegRow := regRowsCtuA ++ regRowsCtuB

def regRowsCueA : List RegRow := [
  /- CUE.MODE -/ ⟨0x02041000, 0x1000, 8, 0x1, 1, [⟨3, 1, .rws, false⟩, ⟨2, 1, .rws, false⟩, ⟨0, 1, .rws, false⟩]⟩,
  /- CUE.EPA -/ ⟨0x02041001, 0x1000, 8, 0x1, 1, [⟨0, 32, .rws, false⟩]⟩,
  /- CUE.HOLDMAX -/ ⟨0x02041002, 0x1000, 8, 0x1, 1, [⟨0, 12, .rws, false⟩]⟩,
  /- CUE.LVCFG -/ ⟨0x02041003, 0x1000, 8, 0x1, 1, [⟨3, 3, .rws, false⟩, ⟨0, 3, .rws, false⟩]⟩,
  /- CUE.ACTIVE -/ ⟨0x02041004, 0x1000, 8, 0x1, 1, [⟨16, 8, .ro, false⟩, ⟨8, 8, .ro, false⟩, ⟨0, 3, .ro, false⟩]⟩,
  /- CUE.TCMD -/ ⟨0x02041005, 0x1000, 8, 0x1, 1, [⟨4, 3, .wo, false⟩, ⟨0, 4, .wo, false⟩]⟩,
  /- CUE.TRES -/ ⟨0x02041006, 0x1000, 8, 0x1, 1, [⟨32, 4, .ro, false⟩, ⟨28, 4, .ro, false⟩, ⟨4, 3, .ro, false⟩, ⟨0, 4, .ro, false⟩]⟩,
  /- CUE.POST -/ ⟨0x02041007, 0x1000, 8, 0x1, 1, [⟨32, 3, .wo, false⟩, ⟨0, 32, .wo, false⟩]⟩,
  /- CUE.PARKCTL -/ ⟨0x02041008, 0x1000, 8, 0x1, 1, [⟨8, 4, .ro, false⟩, ⟨7, 1, .ro, false⟩, ⟨4, 3, .ro, false⟩, ⟨1, 1, .wo, false⟩, ⟨0, 1, .wo, false⟩]⟩,
  /- CUE.LOSTEV -/ ⟨0x02041009, 0x1000, 8, 0x1, 1, [⟨0, 12, .rw, false⟩]⟩]

def regRowsCueB : List RegRow := [
  /- CUE.CPREC0 -/ ⟨0x0204100A, 0x1000, 8, 0x1, 1, [⟨0, 36, .ro, false⟩]⟩,
  /- CUE.CPREC1 -/ ⟨0x0204100B, 0x1000, 8, 0x1, 1, [⟨0, 36, .ro, false⟩]⟩,
  /- CUE.CUR -/ ⟨0x0204100C, 0x1000, 8, 0x1, 4, [⟨0, 36, .ro, false⟩]⟩,
  /- CUE.TWL -/ ⟨0x02041010, 0x1000, 8, 0x1, 9, [⟨0, 16, .rw, false⟩]⟩,
  /- CUE.CAUSE -/ ⟨0x02041048, 0x1000, 8, 0x8, 7, [⟨22, 8, .ro, false⟩, ⟨12, 10, .ro, false⟩, ⟨0, 12, .ro, false⟩]⟩,
  /- CUE.XARG -/ ⟨0x02041049, 0x1000, 8, 0x8, 7, [⟨0, 36, .ro, false⟩]⟩,
  /- CUE.XPC -/ ⟨0x0204104A, 0x1000, 8, 0x8, 7, [⟨0, 32, .rw, false⟩]⟩,
  /- CUE.XST -/ ⟨0x0204104B, 0x1000, 8, 0x8, 7, [⟨0, 36, .rw, false⟩]⟩,
  /- CUE.ENT -/ ⟨0x0204104C, 0x1000, 8, 0x8, 7, [⟨4, 1, .ro, false⟩, ⟨3, 1, .ro, false⟩, ⟨0, 3, .ro, false⟩]⟩,
  /- CUE.SAVEPC -/ ⟨0x02041088, 0x1000, 8, 0x8, 7, [⟨0, 32, .rw, false⟩]⟩]

def regRowsCueC : List RegRow := [
  /- CUE.SAVEST -/ ⟨0x02041089, 0x1000, 8, 0x8, 7, [⟨0, 36, .rw, false⟩]⟩,
  /- CUE.SAVEH -/ ⟨0x0204108A, 0x1000, 8, 0x1, 4, [⟨0, 36, .rw, false⟩]⟩,
  /- CUE.SAVEH -/ ⟨0x02041092, 0x1000, 8, 0x1, 4, [⟨0, 36, .rw, false⟩]⟩,
  /- CUE.SAVEH -/ ⟨0x0204109A, 0x1000, 8, 0x1, 4, [⟨0, 36, .rw, false⟩]⟩,
  /- CUE.SAVEH -/ ⟨0x020410A2, 0x1000, 8, 0x1, 4, [⟨0, 36, .rw, false⟩]⟩,
  /- CUE.SAVEH -/ ⟨0x020410AA, 0x1000, 8, 0x1, 4, [⟨0, 36, .rw, false⟩]⟩,
  /- CUE.SAVEH -/ ⟨0x020410B2, 0x1000, 8, 0x1, 4, [⟨0, 36, .rw, false⟩]⟩,
  /- CUE.SAVEH -/ ⟨0x020410BA, 0x1000, 8, 0x1, 4, [⟨0, 36, .rw, false⟩]⟩,
  /- CUE.TCFG -/ ⟨0x02041100, 0x1000, 8, 0x10, 8, [⟨12, 4, .rws, false⟩, ⟨11, 1, .rws, true⟩, ⟨5, 5, .rws, true⟩, ⟨0, 5, .rws, true⟩]⟩,
  /- CUE.TPC -/ ⟨0x02041101, 0x1000, 8, 0x10, 8, [⟨0, 32, .rw, true⟩]⟩,
  /- CUE.TSTAT -/ ⟨0x02041102, 0x1000, 8, 0x10, 8, [⟨22, 2, .ro, false⟩, ⟨18, 4, .ro, false⟩, ⟨14, 4, .ro, false⟩, ⟨9, 5, .ro, false⟩, ⟨4, 5, .ro, false⟩, ⟨0, 4, .ro, false⟩]⟩,
  /- CUE.CSA -/ ⟨0x02041103, 0x1000, 8, 0x10, 8, [⟨32, 4, .rws, false⟩, ⟨0, 32, .rws, false⟩]⟩,
  /- CUE.PEND -/ ⟨0x02041104, 0x1000, 8, 0x10, 8, [⟨0, 32, .w1c, false⟩]⟩,
  /- CUE.WMASK -/ ⟨0x02041105, 0x1000, 8, 0x10, 8, [⟨0, 32, .ro, false⟩]⟩,
  /- CUE.SB -/ ⟨0x02041210, 0x1000, 8, 0x1, 16, [⟨0, 36, .rw, false⟩]⟩,
  /- CUE.SB -/ ⟨0x02041220, 0x1000, 8, 0x1, 16, [⟨0, 36, .rw, false⟩]⟩,
  /- CUE.SB -/ ⟨0x02041230, 0x1000, 8, 0x1, 16, [⟨0, 36, .rw, false⟩]⟩,
  /- CUE.SB -/ ⟨0x02041240, 0x1000, 8, 0x1, 16, [⟨0, 36, .rw, false⟩]⟩,
  /- CUE.SB -/ ⟨0x02041250, 0x1000, 8, 0x1, 16, [⟨0, 36, .rw, false⟩]⟩,
  /- CUE.SB -/ ⟨0x02041260, 0x1000, 8, 0x1, 16, [⟨0, 36, .rw, false⟩]⟩,
  /- CUE.SB -/ ⟨0x02041270, 0x1000, 8, 0x1, 16, [⟨0, 36, .rw, false⟩]⟩,
  /- CUE.PARK -/ ⟨0x02041300, 0x1000, 8, 0x1, 17, [⟨0, 36, .ro, false⟩]⟩]

def regRowsCueD : List RegRow := [
  /- CUE.ROUTE -/ ⟨0x02041400, 0x1000, 8, 0x1, 512, [⟨8, 2, .rw, false⟩, ⟨5, 3, .rw, false⟩, ⟨0, 5, .rw, false⟩]⟩]

def regRowsCue : List RegRow := regRowsCueA ++ regRowsCueB ++ regRowsCueC ++ regRowsCueD

def regRowsSamplingA : List RegRow := [
  /- SAMP.STATUS -/ ⟨0x02050000, 0x1, 1, 0x1, 1, [⟨3, 1, .w1c, false⟩, ⟨2, 1, .ro, false⟩, ⟨1, 1, .ro, false⟩, ⟨0, 1, .ro, false⟩]⟩,
  /- SAMP.CAL -/ ⟨0x02050001, 0x1, 1, 0x1, 1, [⟨24, 12, .ro, false⟩, ⟨12, 12, .ro, false⟩, ⟨0, 1, .wo, false⟩]⟩,
  /- SS.CTRL -/ ⟨0x02050100, 0x40, 32, 0x1, 1, [⟨28, 8, .own, false⟩, ⟨14, 14, .own, false⟩, ⟨12, 2, .own, false⟩, ⟨5, 7, .own, false⟩, ⟨2, 3, .own, false⟩, ⟨1, 1, .wo, false⟩, ⟨0, 1, .own, false⟩]⟩,
  /- SS.DEST -/ ⟨0x02050101, 0x40, 32, 0x1, 1, [⟨0, 24, .own, false⟩]⟩,
  /- SS.STAT -/ ⟨0x02050102, 0x40, 32, 0x1, 1, [⟨28, 8, .ro, false⟩, ⟨20, 8, .ro, false⟩, ⟨12, 8, .ro, false⟩, ⟨5, 1, .w1c, false⟩, ⟨4, 1, .w1c, false⟩, ⟨3, 1, .ro, false⟩, ⟨2, 1, .ro, false⟩, ⟨1, 1, .ro, false⟩]⟩,
  /- SS.STAMP -/ ⟨0x02050103, 0x40, 32, 0x1, 1, [⟨0, 36, .ro, false⟩]⟩,
  /- SS.SLOT -/ ⟨0x02050110, 0x40, 32, 0x1, 16, [⟨15, 1, .rw, false⟩, ⟨14, 1, .rw, false⟩, ⟨12, 2, .rw, false⟩, ⟨11, 1, .rw, false⟩, ⟨6, 4, .rw, false⟩, ⟨0, 6, .rw, false⟩]⟩,
  /- CMP.CTRL -/ ⟨0x02051000, 0x8, 32, 0x1, 1, [⟨28, 8, .own, false⟩, ⟨16, 12, .own, false⟩, ⟨10, 6, .own, false⟩, ⟨9, 1, .own, false⟩, ⟨8, 1, .own, false⟩, ⟨7, 1, .own, false⟩, ⟨6, 1, .own, false⟩, ⟨0, 1, .own, false⟩]⟩,
  /- CMP.THR -/ ⟨0x02051001, 0x8, 32, 0x1, 1, [⟨16, 16, .own, false⟩, ⟨0, 16, .own, false⟩]⟩,
  /- CMP.BLANK -/ ⟨0x02051002, 0x8, 32, 0x1, 1, [⟨28, 8, .own, false⟩, ⟨18, 10, .own, false⟩, ⟨16, 2, .own, false⟩, ⟨9, 7, .own, false⟩]⟩]

def regRowsSamplingB : List RegRow := [
  /- CMP.STATUS -/ ⟨0x02051003, 0x8, 32, 0x1, 1, [⟨16, 12, .ro, false⟩, ⟨3, 1, .ro, false⟩, ⟨2, 1, .w1c, false⟩, ⟨1, 1, .w1c, false⟩, ⟨0, 1, .ro, false⟩]⟩,
  /- CMP.STAMP -/ ⟨0x02051004, 0x8, 32, 0x1, 1, [⟨0, 36, .ro, false⟩]⟩,
  /- SS.RES -/ ⟨0x02050120, 0x40, 32, 0x1, 16, [⟨28, 8, .ro, false⟩, ⟨22, 6, .ro, false⟩, ⟨20, 2, .ro, false⟩, ⟨19, 1, .ro, false⟩, ⟨18, 1, .ro, false⟩, ⟨0, 16, .ro, false⟩]⟩]

def regRowsSampling : List RegRow := regRowsSamplingA ++ regRowsSamplingB

def regRowsPortsA : List RegRow := [
  /- GP.LAT -/ ⟨0x0206010D, 0x20, 96, 0x1, 1, [⟨28, 8, .ro, false⟩, ⟨27, 1, .ro, false⟩, ⟨26, 1, .ro, false⟩, ⟨25, 1, .ro, false⟩, ⟨22, 2, .ro, false⟩, ⟨0, 16, .ro, false⟩]⟩,
  /- PORTS.CUTSTAT -/ ⟨0x02060000, 0x1, 1, 0x1, 1, [⟨20, 16, .ro, false⟩, ⟨13, 3, .ro, false⟩, ⟨6, 1, .w1c, false⟩, ⟨5, 1, .ro, false⟩, ⟨4, 1, .ro, false⟩, ⟨3, 1, .ro, false⟩, ⟨2, 1, .ro, false⟩, ⟨0, 1, .ro, false⟩]⟩,
  /- PORTS.CUTCMD -/ ⟨0x02060001, 0x1, 1, 0x1, 1, [⟨1, 1, .wo, false⟩, ⟨0, 1, .wo, false⟩]⟩,
  /- PORTS.CUTSTAMP -/ ⟨0x02060002, 0x1, 1, 0x1, 1, [⟨0, 36, .ro, false⟩]⟩,
  /- GP.CTRL -/ ⟨0x02060100, 0x20, 96, 0x1, 1, [⟨28, 8, .own, false⟩, ⟨20, 8, .own, false⟩, ⟨19, 1, .own, true⟩, ⟨18, 1, .own, true⟩, ⟨17, 1, .own, false⟩, ⟨16, 1, .own, false⟩, ⟨14, 2, .own, false⟩, ⟨0, 1, .own, false⟩]⟩,
  /- GP.PERIOD -/ ⟨0x02060101, 0x20, 96, 0x1, 1, [⟨0, 24, .own, false⟩]⟩,
  /- GP.START -/ ⟨0x02060102, 0x20, 96, 0x1, 1, [⟨0, 36, .own, true⟩]⟩,
  /- GP.ACT -/ ⟨0x02060103, 0x20, 96, 0x1, 1, [⟨10, 2, .own, false⟩, ⟨8, 2, .own, false⟩, ⟨6, 2, .own, false⟩, ⟨4, 2, .own, false⟩, ⟨2, 2, .own, false⟩, ⟨0, 2, .own, false⟩]⟩,
  /- GP.CMPX -/ ⟨0x02060104, 0x20, 96, 0x1, 4, [⟨0, 30, .own, false⟩]⟩,
  /- GP.DT -/ ⟨0x02060108, 0x20, 96, 0x1, 1, [⟨18, 18, .own, false⟩, ⟨0, 18, .own, false⟩]⟩]

def regRowsPortsB : List RegRow := [
  /- GP.EVT -/ ⟨0x02060109, 0x20, 96, 0x1, 4, [⟨34, 2, .own, false⟩, ⟨0, 24, .own, false⟩]⟩,
  /- GP.STATUS -/ ⟨0x0206010E, 0x20, 96, 0x1, 1, [⟨28, 8, .ro, false⟩, ⟨16, 1, .ro, false⟩, ⟨15, 1, .ro, false⟩, ⟨14, 1, .w1c, false⟩, ⟨13, 1, .w1c, false⟩, ⟨12, 1, .w1c, false⟩, ⟨11, 1, .w1c, false⟩, ⟨10, 1, .w1c, false⟩, ⟨9, 1, .ro, false⟩, ⟨8, 1, .ro, false⟩, ⟨7, 1, .ro, false⟩, ⟨6, 1, .ro, false⟩, ⟨5, 1, .ro, false⟩, ⟨4, 1, .ro, false⟩, ⟨0, 4, .ro, false⟩]⟩,
  /- GP.NEXT -/ ⟨0x0206010F, 0x20, 96, 0x1, 1, [⟨0, 36, .ro, false⟩]⟩,
  /- GP.SAFE -/ ⟨0x02060110, 0x20, 96, 0x1, 1, [⟨8, 7, .own, false⟩, ⟨4, 4, .own, false⟩, ⟨2, 1, .ro, false⟩, ⟨0, 2, .own, false⟩]⟩,
  /- PG.GSTAT -/ ⟨0x02061000, 0x4, 12, 0x1, 1, [⟨11, 5, .ro, false⟩, ⟨10, 1, .w1c, false⟩, ⟨9, 1, .ro, false⟩, ⟨8, 1, .ro, false⟩, ⟨7, 1, .ro, false⟩, ⟨6, 1, .ro, false⟩, ⟨5, 1, .ro, false⟩, ⟨3, 2, .ro, false⟩, ⟨0, 2, .ro, false⟩]⟩,
  /- PG.GCLR -/ ⟨0x02061001, 0x4, 12, 0x1, 1, [⟨1, 1, .wo, false⟩, ⟨0, 1, .wo, false⟩]⟩]

def regRowsPorts : List RegRow := regRowsPortsA ++ regRowsPortsB

def regRowsFeedbackA : List RegRow := [
  /- PF.CTRL -/ ⟨0x02070100, 0x20, 16, 0x1, 1, [⟨28, 8, .own, false⟩, ⟨26, 2, .own, true⟩, ⟨25, 1, .own, false⟩, ⟨24, 1, .own, false⟩, ⟨23, 1, .own, false⟩, ⟨22, 1, .own, false⟩, ⟨1, 3, .own, true⟩, ⟨0, 1, .own, false⟩]⟩,
  /- PF.CFG -/ ⟨0x02070101, 0x20, 16, 0x1, 1, [⟨20, 16, .own, true⟩, ⟨17, 3, .own, true⟩, ⟨15, 2, .own, true⟩, ⟨9, 6, .own, true⟩, ⟨8, 1, .own, true⟩]⟩,
  /- PF.CPR -/ ⟨0x02070102, 0x20, 16, 0x1, 1, [⟨0, 32, .own, true⟩]⟩,
  /- PF.IXVAL -/ ⟨0x02070103, 0x20, 16, 0x1, 1, [⟨0, 36, .own, true⟩]⟩,
  /- PF.AUX -/ ⟨0x02070104, 0x20, 16, 0x1, 1, [⟨18, 18, .own, true⟩, ⟨0, 16, .own, false⟩]⟩,
  /- PF.POS -/ ⟨0x02070105, 0x20, 16, 0x1, 1, [⟨0, 36, .own, true⟩]⟩,
  /- PF.ANGLE -/ ⟨0x02070106, 0x20, 16, 0x1, 1, [⟨20, 16, .ro, false⟩, ⟨0, 20, .ro, false⟩]⟩,
  /- PF.SPD -/ ⟨0x02070107, 0x20, 16, 0x1, 1, [⟨0, 36, .ro, false⟩]⟩,
  /- PF.STAMP -/ ⟨0x02070108, 0x20, 16, 0x1, 1, [⟨0, 36, .ro, false⟩]⟩,
  /- PF.IXCNT -/ ⟨0x02070109, 0x20, 16, 0x1, 1, [⟨0, 36, .ro, false⟩]⟩]

def regRowsFeedbackB : List RegRow := [
  /- PF.IXDEV -/ ⟨0x0207010A, 0x20, 16, 0x1, 1, [⟨0, 36, .ro, false⟩]⟩,
  /- PF.PCMP -/ ⟨0x0207010B, 0x20, 16, 0x1, 1, [⟨0, 36, .own, false⟩]⟩,
  /- PF.STATUS -/ ⟨0x0207010C, 0x20, 16, 0x1, 1, [⟨23, 1, .w1c, false⟩, ⟨22, 1, .ro, false⟩, ⟨21, 1, .w1c, false⟩, ⟨20, 1, .w1c, false⟩, ⟨19, 1, .w1c, false⟩, ⟨18, 1, .w1c, false⟩, ⟨17, 1, .w1c, false⟩, ⟨16, 1, .w1c, false⟩, ⟨15, 1, .w1c, false⟩, ⟨14, 1, .w1c, false⟩, ⟨13, 1, .w1c, false⟩, ⟨12, 1, .w1c, false⟩, ⟨11, 1, .w1c, false⟩, ⟨7, 1, .ro, false⟩, ⟨6, 1, .ro, false⟩, ⟨5, 1, .ro, false⟩, ⟨4, 1, .ro, false⟩, ⟨3, 1, .ro, false⟩, ⟨2, 1, .ro, false⟩, ⟨1, 1, .ro, false⟩]⟩,
  /- PF.RES0 -/ ⟨0x0207010D, 0x20, 16, 0x1, 1, [⟨31, 5, .own, true⟩, ⟨26, 2, .own, true⟩, ⟨19, 7, .own, true⟩, ⟨0, 19, .own, true⟩]⟩,
  /- PF.RES1 -/ ⟨0x0207010E, 0x20, 16, 0x1, 1, [⟨20, 16, .own, true⟩, ⟨0, 16, .own, true⟩]⟩,
  /- PF.SER0 -/ ⟨0x0207010F, 0x20, 16, 0x1, 1, [⟨28, 8, .own, true⟩, ⟨25, 3, .own, true⟩, ⟨24, 1, .own, true⟩, ⟨23, 1, .own, true⟩, ⟨18, 5, .own, true⟩, ⟨13, 5, .own, true⟩]⟩,
  /- PF.SER1 -/ ⟨0x02070110, 0x20, 16, 0x1, 1, [⟨0, 36, .own, true⟩]⟩,
  /- PF.SERRAW -/ ⟨0x02070111, 0x20, 16, 0x1, 1, [⟨0, 36, .ro, false⟩]⟩,
  /- PF.SLOW -/ ⟨0x02070112, 0x20, 16, 0x1, 1, [⟨35, 1, .w1c, false⟩, ⟨34, 1, .ro, false⟩, ⟨16, 8, .ro, false⟩, ⟨0, 16, .ro, false⟩]⟩,
  /- EMU.CTRL -/ ⟨0x02070800, 0x4, 4, 0x1, 1, [⟨28, 8, .own, false⟩, ⟨24, 4, .own, true⟩, ⟨0, 1, .own, false⟩]⟩]

def regRowsFeedbackC : List RegRow := [
  /- EMU.RATIO -/ ⟨0x02070801, 0x4, 4, 0x1, 1, [⟨18, 18, .own, true⟩, ⟨0, 18, .own, true⟩]⟩,
  /- EMU.STATUS -/ ⟨0x02070802, 0x4, 4, 0x1, 1, [⟨8, 16, .ro, false⟩, ⟨1, 1, .w1c, false⟩, ⟨0, 1, .ro, false⟩]⟩]

def regRowsFeedback : List RegRow := regRowsFeedbackA ++ regRowsFeedbackB ++ regRowsFeedbackC

def regRowsEnginesA : List RegRow := [
  /- ENG.SPARES -/ ⟨0x02080000, 0x1, 1, 0x1, 1, [⟨0, 24, .ro, false⟩]⟩,
  /- ENG.FOLOG -/ ⟨0x02080001, 0x1, 1, 0x1, 1, [⟨24, 5, .ro, false⟩, ⟨16, 5, .ro, false⟩, ⟨8, 8, .ro, false⟩, ⟨0, 2, .ro, false⟩]⟩,
  /- ENG.FOSTAMP -/ ⟨0x02080002, 0x1, 1, 0x1, 1, [⟨0, 36, .ro, false⟩]⟩,
  /- LE.CTRL -/ ⟨0x02080100, 0x20, 24, 0x1, 1, [⟨28, 8, .own, false⟩, ⟨27, 1, .own, true⟩, ⟨26, 1, .own, true⟩]⟩,
  /- LE.TRIG -/ ⟨0x02080101, 0x20, 24, 0x1, 1, [⟨9, 3, .own, true⟩, ⟨0, 9, .own, true⟩]⟩,
  /- LE.CMD -/ ⟨0x02080102, 0x20, 24, 0x1, 1, [⟨0, 4, .wo, false⟩]⟩,
  /- LE.RESULT -/ ⟨0x02080103, 0x20, 24, 0x1, 1, [⟨32, 4, .ro, false⟩, ⟨28, 4, .ro, false⟩, ⟨16, 12, .ro, false⟩, ⟨15, 1, .ro, false⟩, ⟨0, 4, .ro, false⟩]⟩,
  /- LE.STATUS -/ ⟨0x02080104, 0x20, 24, 0x1, 1, [⟨8, 8, .w1c, false⟩, ⟨7, 1, .w1c, false⟩, ⟨6, 1, .w1c, false⟩, ⟨5, 1, .ro, false⟩, ⟨4, 1, .ro, false⟩, ⟨0, 4, .ro, false⟩]⟩,
  /- LE.LAW -/ ⟨0x02080105, 0x20, 24, 0x1, 1, [⟨24, 12, .own, true⟩, ⟨13, 11, .own, true⟩, ⟨2, 11, .own, true⟩, ⟨1, 1, .own, true⟩]⟩,
  /- LE.LAWCRC -/ ⟨0x02080106, 0x20, 24, 0x1, 1, [⟨0, 32, .own, true⟩]⟩]

def regRowsEnginesB : List RegRow := [
  /- LE.CYC -/ ⟨0x02080107, 0x20, 24, 0x1, 1, [⟨20, 16, .ro, false⟩, ⟨4, 16, .ro, false⟩]⟩,
  /- LE.IMG -/ ⟨0x02080108, 0x20, 24, 0x1, 1, [⟨0, 32, .own, true⟩]⟩,
  /- LE.TR -/ ⟨0x02080109, 0x20, 24, 0x1, 1, [⟨0, 16, .ro, false⟩]⟩,
  /- LE.STAMP -/ ⟨0x0208010A, 0x20, 24, 0x1, 1, [⟨0, 36, .ro, false⟩]⟩,
  /- LE.RUNS -/ ⟨0x0208010B, 0x20, 24, 0x1, 1, [⟨0, 36, .ro, false⟩]⟩,
  /- LE.FCNT -/ ⟨0x0208010C, 0x20, 24, 0x1, 1, [⟨24, 12, .ro, false⟩, ⟨12, 12, .ro, false⟩, ⟨0, 12, .ro, false⟩]⟩,
  /- LE.PARAM -/ ⟨0x02080110, 0x20, 24, 0x1, 16, [⟨0, 36, .own, false⟩]⟩]

def regRowsEngines : List RegRow := regRowsEnginesA ++ regRowsEnginesB

def regRowsReelsA : List RegRow := [
  /- REELS.XCTL -/ ⟨0x02090000, 0x1, 1, 0x1, 1, [⟨6, 6, .wo, false⟩, ⟨0, 3, .wo, false⟩]⟩,
  /- REELS.XADR -/ ⟨0x02090001, 0x1, 1, 0x1, 1, [⟨0, 32, .rw, false⟩]⟩,
  /- REELS.XRES -/ ⟨0x02090002, 0x1, 1, 0x1, 1, [⟨32, 4, .ro, false⟩, ⟨31, 1, .ro, false⟩, ⟨15, 1, .ro, false⟩, ⟨6, 6, .ro, false⟩, ⟨0, 3, .ro, false⟩]⟩,
  /- RL.CTRL -/ ⟨0x02090100, 0x10, 64, 0x1, 1, [⟨28, 8, .own, false⟩, ⟨23, 5, .own, true⟩, ⟨19, 4, .own, true⟩, ⟨16, 3, .own, true⟩, ⟨8, 8, .own, true⟩, ⟨3, 1, .own, false⟩, ⟨2, 1, .own, false⟩, ⟨0, 1, .own, false⟩]⟩,
  /- RL.LRN -/ ⟨0x02090101, 0x10, 64, 0x1, 1, [⟨28, 8, .own, true⟩, ⟨16, 12, .own, false⟩, ⟨0, 16, .own, false⟩]⟩,
  /- RL.LIMIT -/ ⟨0x02090102, 0x10, 64, 0x1, 1, [⟨0, 35, .own, false⟩]⟩,
  /- RL.SPMIN -/ ⟨0x02090103, 0x10, 64, 0x1, 1, [⟨0, 36, .own, false⟩]⟩,
  /- RL.SPMAX -/ ⟨0x02090104, 0x10, 64, 0x1, 1, [⟨0, 36, .own, false⟩]⟩,
  /- RL.STATUS -/ ⟨0x02090105, 0x10, 64, 0x1, 1, [⟨30, 6, .ro, false⟩, ⟨23, 1, .ro, false⟩, ⟨22, 1, .w1c, false⟩, ⟨21, 1, .w1c, false⟩, ⟨20, 1, .w1c, false⟩, ⟨19, 1, .w1c, false⟩, ⟨18, 1, .w1c, false⟩, ⟨17, 1, .w1c, false⟩, ⟨6, 1, .ro, false⟩, ⟨5, 1, .ro, false⟩, ⟨4, 1, .ro, false⟩, ⟨3, 1, .ro, false⟩, ⟨2, 1, .ro, false⟩, ⟨1, 1, .ro, false⟩, ⟨0, 1, .ro, false⟩]⟩,
  /- RL.UPD -/ ⟨0x02090106, 0x10, 64, 0x1, 1, [⟨0, 36, .ro, false⟩]⟩]

def regRowsReelsB : List RegRow := [
  /- RL.CNT -/ ⟨0x02090107, 0x10, 64, 0x1, 1, [⟨24, 12, .ro, false⟩, ⟨12, 12, .ro, false⟩, ⟨0, 12, .ro, false⟩]⟩]

def regRowsReels : List RegRow := regRowsReelsA ++ regRowsReelsB

def regRowsBanks : List RegRow := [
  /- BANKS.SCRUB -/ ⟨0x020A0000, 0x1, 1, 0x1, 1, [⟨20, 16, .ro, false⟩]⟩,
  /- BANKS.OWNER -/ ⟨0x020A0100, 0x4, 68, 0x1, 1, [⟨8, 8, .own, false⟩, ⟨0, 8, .own, false⟩]⟩,
  /- BANKS.STATUS -/ ⟨0x020A0101, 0x4, 68, 0x1, 1, [⟨20, 16, .ro, false⟩, ⟨8, 12, .ro, false⟩, ⟨2, 1, .ro, false⟩, ⟨1, 1, .w1c, false⟩, ⟨0, 1, .w1c, false⟩]⟩,
  /- BANKS.ERR -/ ⟨0x020A0102, 0x4, 68, 0x1, 1, [⟨15, 1, .ro, false⟩, ⟨0, 14, .ro, false⟩]⟩]

def regRowsDdr : List RegRow := [
  /- DDR.CFG -/ ⟨0x020B0000, 0x1, 1, 0x1, 1, [⟨11, 1, .rw, false⟩, ⟨8, 3, .rw, false⟩, ⟨6, 2, .rw, false⟩, ⟨4, 2, .rw, false⟩, ⟨0, 2, .rw, false⟩]⟩,
  /- DDR.CMD -/ ⟨0x020B0001, 0x1, 1, 0x1, 1, [⟨0, 1, .wo, false⟩]⟩,
  /- DDR.STATUS -/ ⟨0x020B0002, 0x1, 1, 0x1, 1, [⟨32, 4, .ro, false⟩, ⟨8, 8, .ro, false⟩, ⟨0, 3, .ro, false⟩]⟩,
  /- DDR.ECC -/ ⟨0x020B0003, 0x1, 1, 0x1, 1, [⟨20, 16, .ro, false⟩, ⟨8, 12, .ro, false⟩]⟩,
  /- DDR.ERRADDR -/ ⟨0x020B0004, 0x1, 1, 0x1, 1, [⟨0, 32, .ro, false⟩]⟩,
  /- DDR.PATROL -/ ⟨0x020B0005, 0x1, 1, 0x1, 1, [⟨20, 16, .ro, false⟩, ⟨0, 8, .ro, false⟩]⟩,
  /- DDR.RESV -/ ⟨0x020B0006, 0x1, 1, 0x1, 1, [⟨0, 6, .rw, false⟩]⟩]

def regRowsFlashA : List RegRow := [
  /- FLASH.STATUS -/ ⟨0x020C0000, 0x1, 1, 0x1, 1, [⟨3, 1, .w1c, false⟩, ⟨2, 1, .w1c, false⟩, ⟨1, 1, .ro, false⟩, ⟨0, 1, .ro, false⟩]⟩,
  /- FLASH.QCTL -/ ⟨0x020C0008, 0x1, 1, 0x1, 1, [⟨28, 8, .own, false⟩, ⟨0, 1, .own, false⟩]⟩,
  /- FLASH.QBASE -/ ⟨0x020C0009, 0x1, 1, 0x1, 1, [⟨0, 32, .own, true⟩]⟩,
  /- FLASH.QTAIL -/ ⟨0x020C000A, 0x1, 1, 0x1, 1, [⟨0, 5, .own, false⟩]⟩,
  /- FLASH.QHEAD -/ ⟨0x020C000B, 0x1, 1, 0x1, 1, [⟨0, 5, .ro, false⟩]⟩,
  /- FLASH.ECC -/ ⟨0x020C0010, 0x1, 1, 0x1, 1, [⟨20, 16, .ro, false⟩, ⟨8, 12, .ro, false⟩]⟩,
  /- FLASH.ERRADDR -/ ⟨0x020C0011, 0x1, 1, 0x1, 1, [⟨0, 32, .ro, false⟩]⟩,
  /- FLASH.SCAN -/ ⟨0x020C0012, 0x1, 1, 0x1, 1, [⟨24, 12, .rw, false⟩, ⟨12, 12, .ro, false⟩, ⟨0, 12, .ro, false⟩]⟩,
  /- FLASH.RELOC -/ ⟨0x020C0013, 0x1, 1, 0x1, 1, [⟨12, 12, .ro, false⟩, ⟨0, 12, .ro, false⟩]⟩,
  /- FLASH.TORNCNT -/ ⟨0x020C0018, 0x1, 1, 0x1, 1, [⟨0, 12, .ro, false⟩]⟩]

def regRowsFlashB : List RegRow := [
  /- FLASH.TORN -/ ⟨0x020C0020, 0x1, 16, 0x1, 1, [⟨35, 1, .ro, false⟩, ⟨33, 2, .ro, false⟩, ⟨32, 1, .ro, false⟩, ⟨0, 11, .ro, false⟩]⟩,
  /- FLASH.RSCTL -/ ⟨0x020C0030, 0x1, 1, 0x1, 1, [⟨28, 8, .own, false⟩, ⟨10, 6, .own, false⟩, ⟨4, 4, .own, false⟩, ⟨0, 4, .wo, false⟩]⟩,
  /- FLASH.RSRES -/ ⟨0x020C0031, 0x1, 1, 0x1, 1, [⟨32, 4, .ro, false⟩, ⟨27, 1, .ro, false⟩, ⟨26, 1, .ro, false⟩, ⟨16, 10, .ro, false⟩, ⟨10, 6, .ro, false⟩, ⟨4, 4, .ro, false⟩, ⟨0, 4, .ro, false⟩]⟩,
  /- FLASH.RSSTAT -/ ⟨0x020C0032, 0x1, 1, 0x1, 1, [⟨26, 10, .ro, false⟩, ⟨22, 4, .ro, false⟩, ⟨2, 1, .w1c, false⟩, ⟨0, 2, .ro, false⟩]⟩,
  /- FLASH.RSWCNT -/ ⟨0x020C0033, 0x1, 1, 0x1, 1, [⟨0, 36, .ro, false⟩]⟩,
  /- FLASH.RSWEAR -/ ⟨0x020C0034, 0x1, 1, 0x1, 1, [⟨0, 36, .ro, false⟩]⟩,
  /- FLASH.RSBUF -/ ⟨0x020C0040, 0x1, 15, 0x1, 1, [⟨0, 36, .own, true⟩]⟩,
  /- FLASH.RDPCMD -/ ⟨0x020C0060, 0x1, 1, 0x1, 1, [⟨0, 4, .wo, false⟩]⟩,
  /- FLASH.RDPRES -/ ⟨0x020C0061, 0x1, 1, 0x1, 1, [⟨32, 4, .ro, false⟩, ⟨7, 5, .ro, false⟩, ⟨6, 1, .ro, false⟩, ⟨4, 2, .ro, false⟩, ⟨0, 4, .ro, false⟩]⟩,
  /- FLASH.BANKSTAT -/ ⟨0x020C0001, 0x1, 1, 0x1, 1, [⟨30, 4, .ro, false⟩, ⟨29, 1, .ro, false⟩, ⟨27, 2, .ro, false⟩, ⟨21, 4, .ro, false⟩, ⟨20, 1, .ro, false⟩, ⟨18, 2, .ro, false⟩, ⟨12, 4, .ro, false⟩, ⟨11, 1, .ro, false⟩, ⟨9, 2, .ro, false⟩, ⟨3, 4, .ro, false⟩, ⟨2, 1, .ro, false⟩, ⟨0, 2, .ro, false⟩]⟩]

def regRowsFlashC : List RegRow := [
  /- FLASH.SUSPSEC -/ ⟨0x020C0002, 0x1, 1, 0x1, 1, [⟨20, 10, .ro, false⟩, ⟨10, 10, .ro, false⟩, ⟨0, 10, .ro, false⟩]⟩,
  /- FLASH.MAINT -/ ⟨0x020C0003, 0x1, 1, 0x1, 1, [⟨2, 1, .rw, false⟩, ⟨1, 1, .rw, false⟩, ⟨0, 1, .rw, false⟩]⟩]

def regRowsFlash : List RegRow := regRowsFlashA ++ regRowsFlashB ++ regRowsFlashC

def regRowsEthA : List RegRow := [
  /- ETH.SLSTATE -/ ⟨0x020D0000, 0x1, 1, 0x1, 1, [⟨32, 4, .ro, false⟩, ⟨28, 4, .ro, false⟩, ⟨24, 4, .ro, false⟩]⟩,
  /- ETH.SLCNT -/ ⟨0x020D0001, 0x1, 1, 0x1, 1, [⟨24, 12, .ro, false⟩, ⟨12, 12, .ro, false⟩, ⟨0, 12, .ro, false⟩]⟩,
  /- ETH.SESSTO -/ ⟨0x020D0002, 0x1, 1, 0x1, 1, [⟨0, 16, .own, false⟩]⟩,
  /- ETH.SESS -/ ⟨0x020D0004, 0x1, 3, 0x1, 1, [⟨32, 4, .ro, false⟩, ⟨0, 32, .ro, false⟩]⟩,
  /- ETH.LOCALEN -/ ⟨0x020D0008, 0x1, 1, 0x1, 1, [⟨0, 1, .own, false⟩]⟩,
  /- ETH.LOCALCTL -/ ⟨0x020D0009, 0x1, 1, 0x1, 1, [⟨28, 8, .own, false⟩, ⟨1, 14, .own, false⟩, ⟨0, 1, .wo, false⟩]⟩,
  /- ETH.LOCALBUF -/ ⟨0x020D000A, 0x1, 1, 0x1, 1, [⟨0, 32, .own, false⟩]⟩,
  /- ETH.LOCALSTAT -/ ⟨0x020D000B, 0x1, 1, 0x1, 1, [⟨35, 1, .w1c, false⟩, ⟨34, 1, .ro, false⟩, ⟨33, 1, .w1c, false⟩, ⟨0, 14, .ro, false⟩]⟩,
  /- MAC.CTRL -/ ⟨0x020D0100, 0x20, 2, 0x1, 1, [⟨7, 1, .ro, false⟩, ⟨6, 1, .rw, false⟩, ⟨5, 1, .rw, false⟩, ⟨4, 1, .rw, false⟩, ⟨3, 1, .rw, false⟩, ⟨2, 1, .rw, false⟩, ⟨0, 1, .rw, false⟩]⟩,
  /- MAC.ADDRH -/ ⟨0x020D0101, 0x20, 2, 0x1, 1, [⟨0, 16, .rw, false⟩]⟩]

def regRowsEthB : List RegRow := [
  /- MAC.ADDRL -/ ⟨0x020D0102, 0x20, 2, 0x1, 1, [⟨0, 32, .rw, false⟩]⟩,
  /- MAC.IP4 -/ ⟨0x020D0103, 0x20, 2, 0x1, 1, [⟨0, 32, .rw, false⟩]⟩,
  /- MAC.IP6 -/ ⟨0x020D0104, 0x20, 2, 0x1, 4, [⟨0, 32, .rw, false⟩]⟩,
  /- MAC.PORT -/ ⟨0x020D0108, 0x20, 2, 0x1, 1, [⟨0, 16, .rw, false⟩]⟩,
  /- MAC.VLAN -/ ⟨0x020D0109, 0x20, 2, 0x1, 1, [⟨12, 3, .rw, false⟩, ⟨0, 12, .rw, false⟩]⟩,
  /- MAC.STATUS -/ ⟨0x020D010A, 0x20, 2, 0x1, 1, [⟨3, 1, .ro, false⟩, ⟨2, 1, .w1c, false⟩, ⟨1, 1, .ro, false⟩, ⟨0, 1, .ro, false⟩]⟩,
  /- MAC.RXCNT -/ ⟨0x020D010B, 0x20, 2, 0x1, 1, [⟨0, 36, .ro, false⟩]⟩,
  /- MAC.DROPCNT -/ ⟨0x020D010C, 0x20, 2, 0x1, 1, [⟨0, 36, .ro, false⟩]⟩,
  /- MAC.MDIO -/ ⟨0x020D010D, 0x20, 2, 0x1, 1, [⟨35, 1, .rw, false⟩, ⟨34, 1, .rw, false⟩, ⟨26, 5, .rw, false⟩, ⟨21, 5, .rw, false⟩, ⟨0, 16, .rw, false⟩]⟩,
  /- MAC.OFSH -/ ⟨0x020D010E, 0x20, 2, 0x1, 1, [⟨0, 28, .ro, false⟩]⟩]

def regRowsEthC : List RegRow := [
  /- MAC.OFSL -/ ⟨0x020D010F, 0x20, 2, 0x1, 1, [⟨0, 36, .ro, false⟩]⟩,
  /- MAC.RATE -/ ⟨0x020D0110, 0x20, 2, 0x1, 1, [⟨0, 36, .ro, false⟩]⟩,
  /- MAC.PTPSTAT -/ ⟨0x020D0111, 0x20, 2, 0x1, 1, [⟨16, 1, .ro, false⟩, ⟨0, 16, .ro, false⟩]⟩,
  /- ETH.AINSCN -/ ⟨0x020D0200, 0x1, 64, 0x1, 1, [⟨4, 1, .ro, false⟩, ⟨3, 1, .ro, false⟩, ⟨1, 2, .ro, false⟩]⟩]

def regRowsEth : List RegRow := regRowsEthA ++ regRowsEthB ++ regRowsEthC

def regRowsCanxlA : List RegRow := [
  /- CAN.CTRL -/ ⟨0x020E0100, 0x20, 4, 0x1, 1, [⟨28, 8, .own, false⟩, ⟨26, 2, .own, false⟩, ⟨25, 1, .own, false⟩, ⟨0, 1, .own, false⟩]⟩,
  /- CAN.NBT -/ ⟨0x020E0101, 0x20, 4, 0x1, 1, [⟨27, 9, .own, false⟩, ⟨18, 9, .own, false⟩, ⟨10, 8, .own, false⟩, ⟨2, 8, .own, false⟩]⟩,
  /- CAN.DBT -/ ⟨0x020E0102, 0x20, 4, 0x1, 1, [⟨27, 9, .own, false⟩, ⟨18, 9, .own, false⟩, ⟨10, 8, .own, false⟩, ⟨2, 8, .own, false⟩]⟩,
  /- CAN.TDC -/ ⟨0x020E0103, 0x20, 4, 0x1, 1, [⟨8, 1, .own, false⟩, ⟨0, 8, .own, false⟩]⟩,
  /- CAN.IDS -/ ⟨0x020E0104, 0x20, 4, 0x1, 1, [⟨11, 11, .own, false⟩, ⟨0, 11, .own, false⟩]⟩,
  /- CAN.XLH -/ ⟨0x020E0105, 0x20, 4, 0x1, 1, [⟨8, 8, .own, false⟩, ⟨0, 8, .own, false⟩]⟩,
  /- CAN.RXBASE -/ ⟨0x020E0106, 0x20, 4, 0x1, 1, [⟨0, 32, .own, false⟩]⟩,
  /- CAN.TXBASE -/ ⟨0x020E010A, 0x20, 4, 0x1, 1, [⟨0, 32, .own, false⟩]⟩,
  /- CAN.RXSIZE -/ ⟨0x020E0107, 0x20, 4, 0x1, 1, [⟨0, 12, .own, false⟩]⟩,
  /- CAN.TXSIZE -/ ⟨0x020E010B, 0x20, 4, 0x1, 1, [⟨0, 12, .own, false⟩]⟩]

def regRowsCanxlB : List RegRow := [
  /- CAN.RXW -/ ⟨0x020E0108, 0x20, 4, 0x1, 1, [⟨0, 12, .ro, false⟩]⟩,
  /- CAN.RXR -/ ⟨0x020E0109, 0x20, 4, 0x1, 1, [⟨0, 12, .own, false⟩]⟩,
  /- CAN.TXW -/ ⟨0x020E010C, 0x20, 4, 0x1, 1, [⟨0, 12, .own, false⟩]⟩,
  /- CAN.TXR -/ ⟨0x020E010D, 0x20, 4, 0x1, 1, [⟨0, 12, .ro, false⟩]⟩,
  /- CAN.STATUS -/ ⟨0x020E010E, 0x20, 4, 0x1, 1, [⟨16, 8, .ro, false⟩, ⟨8, 8, .ro, false⟩, ⟨4, 1, .ro, false⟩, ⟨3, 1, .w1c, false⟩, ⟨2, 1, .ro, false⟩, ⟨1, 1, .ro, false⟩]⟩]

def regRowsCanxl : List RegRow := regRowsCanxlA ++ regRowsCanxlB

def regRowsSecurityA : List RegRow := [
  /- SEC.STATUS -/ ⟨0x020F0000, 0x1, 1, 0x1, 1, [⟨3, 4, .ro, false⟩, ⟨2, 1, .ro, false⟩, ⟨1, 1, .ro, false⟩, ⟨0, 1, .ro, false⟩]⟩,
  /- SEC.START -/ ⟨0x020F0001, 0x1, 1, 0x1, 1, [⟨32, 4, .ro, false⟩, ⟨28, 4, .ro, false⟩, ⟨26, 2, .ro, false⟩, ⟨22, 4, .ro, false⟩, ⟨21, 1, .ro, false⟩, ⟨20, 1, .ro, false⟩, ⟨19, 1, .ro, false⟩, ⟨18, 1, .ro, false⟩, ⟨0, 1, .wo, false⟩]⟩,
  /- SEC.STARTTIME -/ ⟨0x020F0002, 0x1, 1, 0x1, 1, [⟨0, 24, .ro, false⟩]⟩,
  /- SEC.BOOTCFG -/ ⟨0x020F0003, 0x1, 1, 0x1, 1, [⟨35, 1, .ro, false⟩, ⟨33, 1, .own, false⟩, ⟨32, 1, .own, false⟩, ⟨20, 12, .own, false⟩, ⟨4, 16, .own, false⟩]⟩,
  /- SEC.WDOG -/ ⟨0x020F0004, 0x1, 1, 0x1, 1, [⟨16, 1, .rw, false⟩, ⟨0, 16, .rw, false⟩]⟩,
  /- SEC.WDKICK -/ ⟨0x020F0005, 0x1, 1, 0x1, 1, [⟨0, 12, .wo, false⟩]⟩,
  /- SEC.WDSTAT -/ ⟨0x020F0006, 0x1, 1, 0x1, 1, [⟨0, 16, .ro, false⟩]⟩,
  /- SEC.IMG -/ ⟨0x020F0007, 0x1, 1, 0x1, 1, [⟨12, 2, .ro, false⟩, ⟨10, 2, .ro, false⟩, ⟨0, 7, .ro, false⟩]⟩,
  /- SEC.OTPSTAT -/ ⟨0x020F0008, 0x1, 1, 0x1, 1, [⟨17, 1, .ro, false⟩, ⟨16, 1, .ro, false⟩, ⟨15, 1, .ro, false⟩, ⟨11, 4, .ro, false⟩, ⟨7, 4, .ro, false⟩, ⟨0, 7, .ro, false⟩]⟩,
  /- SEC.OTPCMD -/ ⟨0x020F0009, 0x1, 1, 0x1, 1, [⟨4, 4, .wo, false⟩, ⟨0, 4, .wo, false⟩]⟩]

def regRowsSecurityB : List RegRow := [
  /- SEC.OTPRES -/ ⟨0x020F000A, 0x1, 1, 0x1, 1, [⟨32, 4, .ro, false⟩, ⟨4, 1, .ro, false⟩, ⟨0, 4, .ro, false⟩]⟩,
  /- SEC.OTPSTAGE -/ ⟨0x020F0010, 0x1, 16, 0x1, 1, [⟨0, 36, .own, false⟩]⟩,
  /- SEC.IMGDIG -/ ⟨0x020F0020, 0x1, 16, 0x1, 1, [⟨0, 36, .ro, false⟩]⟩,
  /- SEC.IDKDIG -/ ⟨0x020F0030, 0x1, 16, 0x1, 1, [⟨0, 36, .ro, false⟩]⟩,
  /- SEC.KEYDIG -/ ⟨0x020F0040, 0x10, 4, 0x1, 16, [⟨0, 36, .ro, false⟩]⟩,
  /- SEC.HOSTDIG -/ ⟨0x020F0080, 0x1, 16, 0x1, 1, [⟨0, 36, .ro, false⟩]⟩,
  /- SEC.DBGDIG -/ ⟨0x020F0090, 0x1, 16, 0x1, 1, [⟨0, 36, .ro, false⟩]⟩]

def regRowsSecurity : List RegRow := regRowsSecurityA ++ regRowsSecurityB

def regRowsRushesA : List RegRow := [
  /- RUSH.GO -/ ⟨0x02100000, 0x1, 1, 0x1, 1, [⟨0, 32, .wo, false⟩]⟩,
  /- RUSH.CTRL -/ ⟨0x02100100, 0x10, 32, 0x1, 1, [⟨28, 8, .own, false⟩, ⟨12, 16, .own, false⟩, ⟨11, 1, .own, false⟩, ⟨1, 1, .wo, false⟩, ⟨0, 1, .own, false⟩]⟩,
  /- RUSH.SRC -/ ⟨0x02100101, 0x10, 32, 0x1, 1, [⟨32, 4, .own, true⟩, ⟨0, 32, .own, true⟩]⟩,
  /- RUSH.TRIG -/ ⟨0x02100102, 0x10, 32, 0x1, 1, [⟨33, 3, .own, false⟩, ⟨0, 9, .own, false⟩]⟩,
  /- RUSH.BASE -/ ⟨0x02100103, 0x10, 32, 0x1, 1, [⟨0, 32, .own, true⟩]⟩,
  /- RUSH.RING -/ ⟨0x02100104, 0x10, 32, 0x1, 1, [⟨0, 5, .own, true⟩]⟩,
  /- RUSH.PRE -/ ⟨0x02100105, 0x10, 32, 0x1, 1, [⟨0, 23, .own, true⟩]⟩,
  /- RUSH.POST -/ ⟨0x02100106, 0x10, 32, 0x1, 1, [⟨0, 23, .own, true⟩]⟩,
  /- RUSH.STATUS -/ ⟨0x02100107, 0x10, 32, 0x1, 1, [⟨3, 1, .w1c, false⟩, ⟨0, 3, .ro, false⟩]⟩,
  /- RUSH.WPTR -/ ⟨0x02100108, 0x10, 32, 0x1, 1, [⟨0, 22, .ro, false⟩]⟩]

def regRowsRushesB : List RegRow := [
  /- RUSH.TSTAMP -/ ⟨0x02100109, 0x10, 32, 0x1, 1, [⟨0, 36, .ro, false⟩]⟩,
  /- RUSH.TIDX -/ ⟨0x0210010A, 0x10, 32, 0x1, 1, [⟨0, 22, .ro, false⟩]⟩,
  /- RUSH.CNT -/ ⟨0x0210010B, 0x10, 32, 0x1, 1, [⟨20, 16, .ro, false⟩, ⟨8, 12, .ro, false⟩]⟩]

def regRowsRushes : List RegRow := regRowsRushesA ++ regRowsRushesB

def regRowsDebug : List RegRow := [
  /- DBG.STATUS -/ ⟨0x02110000, 0x1, 1, 0x1, 1, [⟨6, 2, .ro, false⟩, ⟨5, 1, .ro, false⟩, ⟨4, 1, .ro, false⟩, ⟨3, 1, .ro, false⟩, ⟨1, 2, .ro, false⟩, ⟨0, 1, .ro, false⟩]⟩,
  /- DBG.CMD -/ ⟨0x02110001, 0x1, 1, 0x1, 1, [⟨0, 4, .wo, false⟩]⟩,
  /- DBG.RES -/ ⟨0x02110002, 0x1, 1, 0x1, 1, [⟨32, 4, .ro, false⟩, ⟨4, 1, .ro, false⟩, ⟨0, 4, .ro, false⟩]⟩,
  /- DBG.RESP -/ ⟨0x02110003, 0x1, 1, 0x1, 1, [⟨0, 36, .wo, false⟩]⟩,
  /- DBG.RESPCNT -/ ⟨0x02110004, 0x1, 1, 0x1, 1, [⟨0, 11, .ro, false⟩]⟩,
  /- DBG.CORECTL -/ ⟨0x02110005, 0x1, 1, 0x1, 1, [⟨8, 8, .wo, false⟩, ⟨0, 8, .rw, false⟩]⟩,
  /- DBG.CORESTS -/ ⟨0x02110006, 0x1, 1, 0x1, 1, [⟨0, 8, .ro, false⟩]⟩,
  /- DBG.CHAL -/ ⟨0x02110010, 0x1, 16, 0x1, 1, [⟨0, 36, .ro, false⟩]⟩]

def regRowsSerial : List RegRow := [
  /- SPI.CTRL -/ ⟨0x02120100, 0x8, 8, 0x1, 1, [⟨28, 8, .own, false⟩, ⟨22, 6, .own, false⟩, ⟨21, 1, .own, false⟩, ⟨20, 1, .own, false⟩, ⟨19, 1, .own, false⟩, ⟨18, 1, .own, false⟩, ⟨0, 1, .own, false⟩]⟩,
  /- SPI.CLK -/ ⟨0x02120101, 0x8, 8, 0x1, 1, [⟨0, 8, .own, false⟩]⟩,
  /- UART.CTRL -/ ⟨0x02120200, 0x8, 2, 0x1, 1, [⟨28, 8, .own, false⟩, ⟨26, 2, .own, false⟩, ⟨24, 2, .own, false⟩, ⟨23, 1, .own, false⟩, ⟨0, 1, .own, false⟩]⟩,
  /- UART.BAUD -/ ⟨0x02120201, 0x8, 2, 0x1, 1, [⟨6, 20, .own, false⟩, ⟨0, 6, .own, false⟩]⟩,
  /- SPI.TX -/ ⟨0x02120102, 0x8, 8, 0x1, 1, [⟨0, 36, .wo, false⟩]⟩,
  /- UART.TX -/ ⟨0x02120202, 0x8, 2, 0x1, 1, [⟨0, 36, .wo, false⟩]⟩,
  /- SPI.RX -/ ⟨0x02120103, 0x8, 8, 0x1, 1, [⟨0, 36, .ro, false⟩]⟩,
  /- UART.RX -/ ⟨0x02120203, 0x8, 2, 0x1, 1, [⟨0, 36, .ro, false⟩]⟩,
  /- SPI.STATUS -/ ⟨0x02120104, 0x8, 8, 0x1, 1, [⟨12, 4, .ro, false⟩, ⟨8, 4, .ro, false⟩, ⟨5, 1, .w1c, false⟩, ⟨4, 1, .w1c, false⟩, ⟨3, 1, .w1c, false⟩, ⟨2, 1, .w1c, false⟩, ⟨1, 1, .w1c, false⟩, ⟨0, 1, .ro, false⟩]⟩,
  /- UART.STATUS -/ ⟨0x02120204, 0x8, 2, 0x1, 1, [⟨12, 4, .ro, false⟩, ⟨8, 4, .ro, false⟩, ⟨5, 1, .w1c, false⟩, ⟨4, 1, .w1c, false⟩, ⟨3, 1, .w1c, false⟩, ⟨2, 1, .w1c, false⟩, ⟨1, 1, .w1c, false⟩, ⟨0, 1, .ro, false⟩]⟩]

def regRowsDma : List RegRow := [
  /- DMA.CTRL -/ ⟨0x02130100, 0x10, 16, 0x1, 1, [⟨28, 8, .own, false⟩, ⟨20, 8, .own, false⟩, ⟨18, 2, .own, false⟩, ⟨17, 1, .own, false⟩, ⟨16, 1, .own, false⟩, ⟨15, 1, .own, false⟩, ⟨6, 9, .own, false⟩, ⟨5, 1, .own, false⟩, ⟨4, 1, .own, false⟩, ⟨1, 1, .wo, false⟩, ⟨0, 1, .own, false⟩]⟩,
  /- DMA.SRC -/ ⟨0x02130101, 0x10, 16, 0x1, 1, [⟨0, 36, .own, false⟩]⟩,
  /- DMA.DST -/ ⟨0x02130102, 0x10, 16, 0x1, 1, [⟨0, 32, .own, false⟩]⟩,
  /- DMA.CNT -/ ⟨0x02130103, 0x10, 16, 0x1, 1, [⟨0, 24, .own, false⟩]⟩,
  /- DMA.STATUS -/ ⟨0x02130104, 0x10, 16, 0x1, 1, [⟨32, 4, .ro, false⟩, ⟨29, 3, .ro, false⟩, ⟨1, 1, .w1c, false⟩, ⟨0, 1, .w1c, false⟩]⟩,
  /- DMA.ERRADDR -/ ⟨0x02130105, 0x10, 16, 0x1, 1, [⟨0, 32, .ro, false⟩]⟩]

/-- The rows of the control block an address lies in (R27). -/
def blockRows (adr : Nat) : List RegRow :=
  match adr / 0x10000 with
  | 0x200 => regRowsSys
  | 0x201 => regRowsTimecode
  | 0x202 => regRowsGaffer
  | 0x203 => regRowsCtu
  | 0x204 => regRowsCue
  | 0x205 => regRowsSampling
  | 0x206 => regRowsPorts
  | 0x207 => regRowsFeedback
  | 0x208 => regRowsEngines
  | 0x209 => regRowsReels
  | 0x20A => regRowsBanks
  | 0x20B => regRowsDdr
  | 0x20C => regRowsFlash
  | 0x20D => regRowsEth
  | 0x20E => regRowsCanxl
  | 0x20F => regRowsSecurity
  | 0x210 => regRowsRushes
  | 0x211 => regRowsDebug
  | 0x212 => regRowsSerial
  | 0x213 => regRowsDma
  | _ => []

/-- The fields of the word at an address; none where the register map lists no word (R27). -/
def fieldsOf (adr : Nat) : Option (List FSpec) :=
  ((blockRows adr).find? (fun r => r.covers adr)).map (fun r => r.flds)

/-- One reset value other than zero: the addresses it stands at, the field's lowest bit, the value. -/
structure ResetRow where
  base : Nat
  stride : Nat
  count : Nat
  lo : Nat
  val : Nat
deriving DecidableEq, Repr

def ResetRow.hits (r : ResetRow) (adr lo : Nat) : Bool :=
  decide (r.lo = lo) && decide (r.base ≤ adr) && decide ((adr - r.base) % r.stride = 0) &&
    decide ((adr - r.base) / r.stride < r.count)

def resetRows (adr : Nat) : List ResetRow :=
  match adr / 0x10000 with
  | 0x200 => [/- SYS.ID.VENDOR -/ ⟨0x02000000, 0x1, 1, 24, 0x1D4⟩,
    /- SYS.ID.PART -/ ⟨0x02000000, 0x1, 1, 8, 0x9636⟩,
    /- SYS.ID.REV -/ ⟨0x02000000, 0x1, 1, 0, 0xA2⟩]
  | 0x202 => [/- ISL.CTRL.DEEPEST -/ ⟨0x0202017C, 0x4, 1, 2, 0x0⟩,
    /- ISL.CTRL.DEEPEST -/ ⟨0x02020178, 0x4, 1, 2, 0x0⟩,
    /- ISL.CTRL.DEEPEST -/ ⟨0x02020168, 0x4, 1, 2, 0x0⟩,
    /- ISL.CTRL.DEEPEST -/ ⟨0x0202014C, 0x4, 1, 2, 0x0⟩,
    /- ISL.STAT.GRANT -/ ⟨0x02020179, 0x4, 2, 10, 0x28⟩,
    /- ISL.STAT.GRANT -/ ⟨0x02020175, 0x4, 1, 10, 0xDC⟩,
    /- ISL.STAT.GRANT -/ ⟨0x02020171, 0x4, 1, 10, 0xA0⟩,
    /- ISL.STAT.GRANT -/ ⟨0x0202016D, 0x4, 1, 10, 0x1C2⟩,
    /- ISL.STAT.GRANT -/ ⟨0x02020169, 0x4, 1, 10, 0x78⟩,
    /- ISL.STAT.GRANT -/ ⟨0x02020165, 0x4, 1, 10, 0x32⟩,
    /- ISL.STAT.GRANT -/ ⟨0x02020161, 0x4, 1, 10, 0x46⟩,
    /- ISL.STAT.GRANT -/ ⟨0x02020151, 0x4, 4, 10, 0x3C⟩,
    /- ISL.STAT.GRANT -/ ⟨0x0202014D, 0x4, 1, 10, 0x50⟩,
    /- ISL.STAT.GRANT -/ ⟨0x02020145, 0x4, 2, 10, 0x6E⟩,
    /- ISL.STAT.GRANT -/ ⟨0x02020141, 0x4, 1, 10, 0x5A⟩,
    /- ISL.STAT.GRANT -/ ⟨0x02020131, 0x4, 4, 10, 0xBE⟩,
    /- ISL.STAT.GRANT -/ ⟨0x02020111, 0x4, 8, 10, 0x1A4⟩,
    /- ISL.STAT.GRANT -/ ⟨0x02020101, 0x4, 4, 10, 0x384⟩,
    /- GAF.DBUDGET.BUDGET -/ ⟨0x02020008, 0x1, 1, 0, 0x2AF8⟩,
    /- GAF.DSLEW.SLEW -/ ⟨0x02020009, 0x1, 1, 0, 0x7D0⟩,
    /- GAF.DLEDGER.GRANTED -/ ⟨0x0202000A, 0x1, 1, 0, 0x5DC⟩,
    /- GAF.ZTHERM.TDER -/ ⟨0x02020011, 0x1, 1, 28, 0x7F⟩,
    /- GAF.ZTHERM.TFALL -/ ⟨0x02020011, 0x1, 1, 12, 0x7F⟩,
    /- GAF.ZTHERM.MAXAGE -/ ⟨0x02020011, 0x1, 1, 0, 0x3E8⟩,
    /- GAF.ZTEMP.AGE -/ ⟨0x02020012, 0x1, 4, 0, 0xFFFF⟩,
    /- GAF.SLEEPCFG.RETAIN -/ ⟨0x02020030, 0x1, 1, 1, 0x1⟩,
    /- ISL.CTRL.DEEPEST -/ ⟨0x02020100, 0x4, 32, 2, 0x1⟩,
    /- ISL.STAT.ALLOW -/ ⟨0x02020101, 0x4, 32, 2, 0x1⟩,
    /- ISL.TWL.TWL -/ ⟨0x02020102, 0x4, 32, 0, 0xFFFF⟩]
  | 0x203 => [/- CTU.STATUS.BOK -/ ⟨0x02030000, 0x1, 1, 1, 0x1⟩,
    /- CTU.STATUS.AOK -/ ⟨0x02030000, 0x1, 1, 0, 0x1⟩,
    /- CTU.CORESTAT.STATE -/ ⟨0x02030001, 0x1, 1, 9, 0x1⟩,
    /- CTU.CORESTAT.STATE -/ ⟨0x02030001, 0x1, 1, 6, 0x1⟩,
    /- CTU.CORESTAT.STATE -/ ⟨0x02030001, 0x1, 1, 3, 0x1⟩,
    /- CTU.CORESTAT.STATE -/ ⟨0x02030001, 0x1, 1, 0, 0x1⟩]
  | 0x204 => [/- CUE.MODE.SAVEM -/ ⟨0x02041000, 0x1000, 8, 2, 0x1⟩,
    /- CUE.HOLDMAX.HOLDMAX -/ ⟨0x02041002, 0x1000, 8, 0, 0x100⟩,
    /- CUE.LVCFG.TRAPLV -/ ⟨0x02041003, 0x1000, 8, 3, 0x1⟩,
    /- CUE.LVCFG.FLTLV -/ ⟨0x02041003, 0x1000, 8, 0, 0x6⟩,
    /- CUE.TWL.TWL -/ ⟨0x02041010, 0x1, 9, 0, 0xFFFF⟩,
    /- CUE.TWL.TWL -/ ⟨0x02042010, 0x1, 9, 0, 0xFFFF⟩,
    /- CUE.TWL.TWL -/ ⟨0x02043010, 0x1, 9, 0, 0xFFFF⟩,
    /- CUE.TWL.TWL -/ ⟨0x02044010, 0x1, 9, 0, 0xFFFF⟩,
    /- CUE.TWL.TWL -/ ⟨0x02045010, 0x1, 9, 0, 0xFFFF⟩,
    /- CUE.TWL.TWL -/ ⟨0x02046010, 0x1, 9, 0, 0xFFFF⟩,
    /- CUE.TWL.TWL -/ ⟨0x02047010, 0x1, 9, 0, 0xFFFF⟩,
    /- CUE.TWL.TWL -/ ⟨0x02048010, 0x1, 9, 0, 0xFFFF⟩,
    /- CUE.TCFG.LEN -/ ⟨0x02041100, 0x1, 1, 5, 0x4⟩,
    /- CUE.TCFG.LEN -/ ⟨0x02041110, 0x10, 7, 5, 0x1⟩,
    /- CUE.TSTAT.STATE -/ ⟨0x02041102, 0x1, 1, 0, 0x2⟩,
    /- CUE.TCFG.LEN -/ ⟨0x02042100, 0x1, 1, 5, 0x4⟩,
    /- CUE.TCFG.LEN -/ ⟨0x02042110, 0x10, 7, 5, 0x1⟩,
    /- CUE.TSTAT.STATE -/ ⟨0x02042102, 0x1, 1, 0, 0x2⟩,
    /- CUE.TCFG.LEN -/ ⟨0x02043100, 0x1, 1, 5, 0x4⟩,
    /- CUE.TCFG.LEN -/ ⟨0x02043110, 0x10, 7, 5, 0x1⟩,
    /- CUE.TSTAT.STATE -/ ⟨0x02043102, 0x1, 1, 0, 0x2⟩,
    /- CUE.TCFG.LEN -/ ⟨0x02044100, 0x1, 1, 5, 0x4⟩,
    /- CUE.TCFG.LEN -/ ⟨0x02044110, 0x10, 7, 5, 0x1⟩,
    /- CUE.TSTAT.STATE -/ ⟨0x02044102, 0x1, 1, 0, 0x2⟩,
    /- CUE.TCFG.LEN -/ ⟨0x02045100, 0x1, 1, 5, 0x4⟩,
    /- CUE.TCFG.LEN -/ ⟨0x02045110, 0x10, 7, 5, 0x1⟩,
    /- CUE.TSTAT.STATE -/ ⟨0x02045102, 0x1, 1, 0, 0x2⟩,
    /- CUE.TCFG.LEN -/ ⟨0x02046100, 0x1, 1, 5, 0x4⟩,
    /- CUE.TCFG.LEN -/ ⟨0x02046110, 0x10, 7, 5, 0x1⟩,
    /- CUE.TSTAT.STATE -/ ⟨0x02046102, 0x1, 1, 0, 0x2⟩,
    /- CUE.TCFG.LEN -/ ⟨0x02047100, 0x1, 1, 5, 0x4⟩,
    /- CUE.TCFG.LEN -/ ⟨0x02047110, 0x10, 7, 5, 0x1⟩,
    /- CUE.TSTAT.STATE -/ ⟨0x02047102, 0x1, 1, 0, 0x2⟩,
    /- CUE.TCFG.LEN -/ ⟨0x02048100, 0x1, 1, 5, 0x4⟩,
    /- CUE.TCFG.LEN -/ ⟨0x02048110, 0x10, 7, 5, 0x1⟩,
    /- CUE.TSTAT.STATE -/ ⟨0x02048102, 0x1, 1, 0, 0x2⟩]
  | 0x205 => [/- SAMP.CAL.CALAGE -/ ⟨0x02050001, 0x1, 1, 24, 0xFFF⟩,
    /- SS.CTRL.OFFSET -/ ⟨0x02050100, 0x40, 32, 14, 0x18⟩,
    /- CMP.THR.THH -/ ⟨0x02051001, 0x8, 32, 16, 0x7FFF⟩,
    /- CMP.THR.THL -/ ⟨0x02051001, 0x8, 32, 0, 0x8000⟩]
  | 0x206 => [/- GP.PERIOD.PERIOD -/ ⟨0x02060101, 0x20, 96, 0, 0x5DC⟩,
    /- GP.STATUS.SAFED -/ ⟨0x0206010E, 0x20, 96, 4, 0x1⟩,
    /- GP.SAFE.LEADP -/ ⟨0x02060110, 0x20, 96, 8, 0x7F⟩,
    /- GP.SAFE.SAFE -/ ⟨0x02060110, 0x20, 96, 0, 0x2⟩]
  | 0x207 => [/- PF.CFG.ZEROT -/ ⟨0x02070101, 0x20, 16, 20, 0xFFFF⟩,
    /- PF.CFG.FILT -/ ⟨0x02070101, 0x20, 16, 9, 0x7⟩,
    /- PF.AUX.HSEQ -/ ⟨0x02070104, 0x20, 16, 18, 0xB5A5⟩,
    /- PF.RES0.EXCPER -/ ⟨0x0207010D, 0x20, 16, 0, 0x249F0⟩,
    /- PF.RES1.AMPNOM -/ ⟨0x0207010E, 0x20, 16, 0, 0x4000⟩,
    /- EMU.RATIO.M -/ ⟨0x02070801, 0x4, 4, 0, 0x1⟩]
  | 0x208 => [/- ENG.SPARES.SPARE -/ ⟨0x02080000, 0x1, 1, 0, 0x800080⟩,
    /- LE.STATUS.STATE -/ ⟨0x020801E4, 0x1, 1, 0, 0x3⟩,
    /- LE.STATUS.STATE -/ ⟨0x020803E4, 0x1, 1, 0, 0x3⟩]
  | 0x209 => [/- RL.LIMIT.LIMIT -/ ⟨0x02090102, 0x10, 64, 0, 0x7FFFFFFFF⟩,
    /- RL.SPMAX.SPMAX -/ ⟨0x02090104, 0x10, 64, 0, 0xFFFFFFFFF⟩,
    /- RL.STATUS.FLRN -/ ⟨0x02090105, 0x10, 64, 4, 0x1⟩]
  | 0x20B => [/- DDR.CFG.RANKS -/ ⟨0x020B0000, 0x1, 1, 0, 0x1⟩]
  | 0x20C => [/- FLASH.SCAN.INTV -/ ⟨0x020C0012, 0x1, 1, 24, 0x1E⟩,
    /- FLASH.MAINT.DFU -/ ⟨0x020C0003, 0x1, 1, 2, 0x1⟩,
    /- FLASH.RSSTAT.USABLE -/ ⟨0x020C0032, 0x1, 1, 26, 0x280⟩,
    /- FLASH.RDPRES.LEFT -/ ⟨0x020C0061, 0x1, 1, 7, 0x10⟩,
    /- FLASH.BANKSTAT.SPARES -/ ⟨0x020C0001, 0x1, 1, 3, 0x4⟩,
    /- FLASH.BANKSTAT.SPARES -/ ⟨0x020C0001, 0x1, 1, 12, 0x4⟩,
    /- FLASH.BANKSTAT.SPARES -/ ⟨0x020C0001, 0x1, 1, 21, 0x8⟩]
  | 0x20D => [/- ETH.SESSTO.SECS -/ ⟨0x020D0002, 0x1, 1, 0, 0x3C⟩,
    /- MAC.PORT.PORT -/ ⟨0x020D0108, 0x20, 2, 0, 0xA3E8⟩,
    /- MAC.RATE.RATE -/ ⟨0x020D0110, 0x20, 2, 0, 0xAAAAAAAB⟩,
    /- ETH.LOCALEN.EN -/ ⟨0x020D0008, 0x1, 1, 0, 0x1⟩]
  | 0x20E => [/- CAN.NBT.SEG1 -/ ⟨0x020E0101, 0x20, 4, 18, 0x9F⟩,
    /- CAN.NBT.SEG2 -/ ⟨0x020E0101, 0x20, 4, 10, 0x28⟩,
    /- CAN.NBT.SJW -/ ⟨0x020E0101, 0x20, 4, 2, 0x28⟩,
    /- CAN.DBT.SEG1 -/ ⟨0x020E0102, 0x20, 4, 18, 0x6⟩,
    /- CAN.DBT.SEG2 -/ ⟨0x020E0102, 0x20, 4, 10, 0x3⟩,
    /- CAN.DBT.SJW -/ ⟨0x020E0102, 0x20, 4, 2, 0x3⟩,
    /- CAN.TDC.EN -/ ⟨0x020E0103, 0x20, 4, 8, 0x1⟩,
    /- CAN.TDC.OFFSET -/ ⟨0x020E0103, 0x20, 4, 0, 0x5⟩,
    /- CAN.IDS.HOSTID -/ ⟨0x020E0104, 0x20, 4, 11, 0x80⟩,
    /- CAN.IDS.DEVID -/ ⟨0x020E0104, 0x20, 4, 0, 0x81⟩]
  | 0x20F => [/- SEC.BOOTCFG.DDRCFG -/ ⟨0x020F0003, 0x1, 1, 20, 0x1⟩,
    /- SEC.BOOTCFG.WDSTART -/ ⟨0x020F0003, 0x1, 1, 4, 0x3E8⟩,
    /- SEC.WDOG.EN -/ ⟨0x020F0004, 0x1, 1, 16, 0x1⟩,
    /- SEC.WDOG.PERIOD -/ ⟨0x020F0004, 0x1, 1, 0, 0x3E8⟩]
  | 0x210 => [/- RUSH.BASE.BASE -/ ⟨0x02100103, 0x10, 32, 0, 0x80000000⟩,
    /- RUSH.RING.RLOG -/ ⟨0x02100104, 0x10, 32, 0, 0x4⟩]
  | 0x211 => [/- DBG.STATUS.OPEN -/ ⟨0x02110000, 0x1, 1, 0, 0x1⟩]
  | 0x212 => [/- SPI.CTRL.WIDTH -/ ⟨0x02120100, 0x8, 8, 22, 0x8⟩,
    /- SPI.CLK.DIV -/ ⟨0x02120101, 0x8, 8, 0, 0x4A⟩,
    /- UART.CTRL.BITS -/ ⟨0x02120200, 0x8, 2, 26, 0x1⟩,
    /- UART.BAUD.DIV -/ ⟨0x02120201, 0x8, 2, 6, 0x32D⟩,
    /- UART.BAUD.FRAC -/ ⟨0x02120201, 0x8, 2, 0, 0x33⟩]
  | _ => []

/-- The value a field holds at reset, by its address and lowest bit: what the register tables give, and zero elsewhere
(rows 3, 5 and 6 of the assumption log name the values the tables leave open). -/
def resetField (adr lo : Nat) : Nat :=
  match (resetRows adr).find? (fun r => r.hits adr lo) with
  | some r => r.val
  | none => 0

/-- `resetField` by storage key. -/
def resetKey (k : Nat) : Nat := resetField (k / 64) (k % 64)

end Sys2Proof.Machine
end

