-- ==== Sys2Proof/Machine/Tab.lean ====
section
/-! DEFINITION. Sparse tables in one canonical form: a list of (key, value) pairs with strictly rising keys that
lists no entry equal to what an unlisted key reads as. Every unit's state and every memory is held in such a table. -/

namespace Sys2Proof.Machine

/-- The value at a key; an unlisted key reads as the default `d` gives it. -/
def Tab.get {α : Type} (d : Nat → α) (m : List (Nat × α)) (k : Nat) : α :=
  match m with
  | [] => d k
  | (j, v) :: t => if j = k then v else Tab.get d t k

/-- Insert or replace one entry, keeping the keys in rising order. -/
def Tab.ins {α : Type} (m : List (Nat × α)) (k : Nat) (v : α) : List (Nat × α) :=
  match m with
  | [] => [(k, v)]
  | (j, w) :: t =>
    if k < j then (k, v) :: (j, w) :: t
    else if k = j then (k, v) :: t
    else (j, w) :: Tab.ins t k v

/-- Drop the entry of one key. -/
def Tab.erase {α : Type} (m : List (Nat × α)) (k : Nat) : List (Nat × α) :=
  m.filter (fun e => e.1 != k)

/-- Write one key: the default is kept unlisted, so equal contents are equal lists. -/
def Tab.set {α : Type} [DecidableEq α] (d : Nat → α) (m : List (Nat × α)) (k : Nat) (v : α) :
    List (Nat × α) :=
  if v = d k then Tab.erase m k else Tab.ins m k v

/-- Keys rise strictly from `lo` on. -/
def Tab.rising {α : Type} (lo : Nat) (m : List (Nat × α)) : Bool :=
  match m with
  | [] => true
  | (j, _) :: t => decide (lo ≤ j) && Tab.rising (j + 1) t

/-- The canonical form. -/
def Tab.wf {α : Type} [DecidableEq α] (d : Nat → α) (m : List (Nat × α)) : Bool :=
  Tab.rising 0 m && m.all (fun e => decide (e.2 ≠ d e.1))

end Sys2Proof.Machine
end

