-- ==== Sys2Proof/Machine/Faults.lean ====
section
/-! DEFINITION. The fault codes of the spec with their numbers and classes (R298 and the fault tables of the chapters). -/

namespace Sys2Proof.Machine

/-- R295: the classes of a fault. -/
inductive FaultClass where
  | amber | red | cut
deriving DecidableEq, Repr

/-- The faults that blocks report to the Continuity Unit. -/
inductive FaultCode where
  | coreMismatch | coreScrub | coreCheck | corePark | coreDouble | coreLbist
  | coreWithdrawn | coreNone | taskRestart | taskShed | routeConflict | holdOverrun
  | statusTamper | contextSave | ctuDisagree | ctuSilent | treeLost | treeMismatch
  | refLost | channelTimeout | spliceCrc | quadIllegal | indexDeviation | hallSkip
  | hallIllegal | resAmp | resTrack | sentError | bissNoack | bissCrc
  | bissSensor | sigLost | engineEcc | takeFault | retakeFault | engineRed
  | lawLost | lbistFail | reelEcc | reelDue | reelUnbound | portForeign
  | portParity | vioLow | cutCtu | cutInput | cutUv | cutHost
  | bankEcc | bankDue | bankRed | ddrEcc | ddrDue | ddrTrain
  | flashEcc | flashDue | flashRemap | flashNospare | flashTorn | storeRecovered
  | storeDegraded | storeReadonly | vinHigh | railVddq | throttle | tjShutdown
  | thermStale | zoneOver | slotInvalid | startFallback | recoveryStart | bootfail
  | trimInvalid | wdogExpired | trngHealth | debugUnlock | debugDenied | slateAuth
  | slateReplay | linkDown | canBusoff | ptpLost | sceneMissing
deriving DecidableEq, Repr

/-- The code written to the fault log (R298). -/
def FaultCode.num : FaultCode → Nat
  | .coreMismatch => 0x01
  | .coreScrub => 0x02
  | .coreCheck => 0x03
  | .corePark => 0x04
  | .coreDouble => 0x05
  | .coreLbist => 0x06
  | .coreWithdrawn => 0x07
  | .coreNone => 0x08
  | .taskRestart => 0x09
  | .taskShed => 0x0A
  | .routeConflict => 0x0B
  | .holdOverrun => 0x0C
  | .statusTamper => 0x0D
  | .contextSave => 0x0E
  | .ctuDisagree => 0x10
  | .ctuSilent => 0x11
  | .treeLost => 0x18
  | .treeMismatch => 0x19
  | .refLost => 0x1A
  | .channelTimeout => 0x1B
  | .spliceCrc => 0x1C
  | .quadIllegal => 0x20
  | .indexDeviation => 0x21
  | .hallSkip => 0x22
  | .hallIllegal => 0x23
  | .resAmp => 0x24
  | .resTrack => 0x25
  | .sentError => 0x26
  | .bissNoack => 0x27
  | .bissCrc => 0x28
  | .bissSensor => 0x29
  | .sigLost => 0x2A
  | .engineEcc => 0x30
  | .takeFault => 0x31
  | .retakeFault => 0x32
  | .engineRed => 0x33
  | .lawLost => 0x34
  | .lbistFail => 0x35
  | .reelEcc => 0x38
  | .reelDue => 0x39
  | .reelUnbound => 0x3A
  | .portForeign => 0x40
  | .portParity => 0x41
  | .vioLow => 0x42
  | .cutCtu => 0x43
  | .cutInput => 0x44
  | .cutUv => 0x45
  | .cutHost => 0x46
  | .bankEcc => 0x50
  | .bankDue => 0x51
  | .bankRed => 0x52
  | .ddrEcc => 0x53
  | .ddrDue => 0x54
  | .ddrTrain => 0x55
  | .flashEcc => 0x60
  | .flashDue => 0x61
  | .flashRemap => 0x62
  | .flashNospare => 0x63
  | .flashTorn => 0x64
  | .storeRecovered => 0x65
  | .storeDegraded => 0x66
  | .storeReadonly => 0x67
  | .vinHigh => 0x70
  | .railVddq => 0x71
  | .throttle => 0x72
  | .tjShutdown => 0x73
  | .thermStale => 0x74
  | .zoneOver => 0x75
  | .slotInvalid => 0x80
  | .startFallback => 0x81
  | .recoveryStart => 0x82
  | .bootfail => 0x83
  | .trimInvalid => 0x84
  | .wdogExpired => 0x85
  | .trngHealth => 0x86
  | .debugUnlock => 0x87
  | .debugDenied => 0x88
  | .slateAuth => 0x90
  | .slateReplay => 0x91
  | .linkDown => 0x92
  | .canBusoff => 0x93
  | .ptpLost => 0x94
  | .sceneMissing => 0x95

/-- The class that decides the reaction (R295). -/
def FaultCode.cls : FaultCode → FaultClass
  | .coreMismatch => .red
  | .coreScrub => .red
  | .coreCheck => .red
  | .corePark => .red
  | .coreDouble => .red
  | .coreLbist => .red
  | .coreWithdrawn => .amber
  | .coreNone => .cut
  | .taskRestart => .amber
  | .taskShed => .amber
  | .routeConflict => .amber
  | .holdOverrun => .amber
  | .statusTamper => .amber
  | .contextSave => .amber
  | .ctuDisagree => .cut
  | .ctuSilent => .cut
  | .treeLost => .cut
  | .treeMismatch => .cut
  | .refLost => .amber
  | .channelTimeout => .amber
  | .spliceCrc => .amber
  | .quadIllegal => .amber
  | .indexDeviation => .amber
  | .hallSkip => .amber
  | .hallIllegal => .amber
  | .resAmp => .amber
  | .resTrack => .amber
  | .sentError => .amber
  | .bissNoack => .amber
  | .bissCrc => .amber
  | .bissSensor => .amber
  | .sigLost => .red
  | .engineEcc => .amber
  | .takeFault => .amber
  | .retakeFault => .amber
  | .engineRed => .red
  | .lawLost => .red
  | .lbistFail => .red
  | .reelEcc => .amber
  | .reelDue => .amber
  | .reelUnbound => .amber
  | .portForeign => .amber
  | .portParity => .red
  | .vioLow => .red
  | .cutCtu => .cut
  | .cutInput => .cut
  | .cutUv => .cut
  | .cutHost => .cut
  | .bankEcc => .amber
  | .bankDue => .amber
  | .bankRed => .red
  | .ddrEcc => .amber
  | .ddrDue => .amber
  | .ddrTrain => .amber
  | .flashEcc => .amber
  | .flashDue => .amber
  | .flashRemap => .amber
  | .flashNospare => .amber
  | .flashTorn => .amber
  | .storeRecovered => .amber
  | .storeDegraded => .amber
  | .storeReadonly => .amber
  | .vinHigh => .amber
  | .railVddq => .amber
  | .throttle => .amber
  | .tjShutdown => .cut
  | .thermStale => .amber
  | .zoneOver => .amber
  | .slotInvalid => .amber
  | .startFallback => .amber
  | .recoveryStart => .amber
  | .bootfail => .cut
  | .trimInvalid => .amber
  | .wdogExpired => .amber
  | .trngHealth => .amber
  | .debugUnlock => .amber
  | .debugDenied => .amber
  | .slateAuth => .amber
  | .slateReplay => .amber
  | .linkDown => .amber
  | .canBusoff => .amber
  | .ptpLost => .amber
  | .sceneMissing => .amber

end Sys2Proof.Machine
end

