-- ==== Sys2Proof/Machine/Units.lean ====
section
/-! DEFINITION. The records the state is made of: one per kind of unit, each with its value at reset. A record holds what
the unit keeps beside its control registers; the registers themselves are the fields of `RegMap`. -/

namespace Sys2Proof.Machine

/-- R28: the bus responses. -/
inductive Resp where
  | ok | busMap | busOwn | busEcc | collide
deriving DecidableEq, Repr

/-- R28: the response of one access, with the data of a read (a double: both words). -/
structure Access where
  agent : Nat
  resp  : Resp
  hi    : Nat
  lo    : Nat
deriving DecidableEq, Repr

def Access.none : Access := ⟨0, .ok, 0, 0⟩

/-- R12: an access held for an island in Grey; `data` is the word of a write, and none where a sequencer's instruction
waits and is made again after the restart. -/
structure HeldAccess where
  agent  : Nat
  adr    : Nat
  island : Nat
  data   : Option Nat
deriving DecidableEq, Repr

/-- An event on its way to the Cues: number EV000 to EV511, the 36-bit stamp where the block that raised it gives one (R241), and
who has seen it. -/
structure Ev where
  num   : Nat
  stamp : Option Nat
  seen  : List Nat
deriving DecidableEq, Repr

/-- A fault report (R293): the fault, its element (R296) and its INFO word, and whether the element is out already, so that the
fault is logged without a second reaction (R295). -/
structure Report where
  code : FaultCode
  elem : Nat
  info : Nat
  again : Bool
deriving DecidableEq, Repr

/-! ### Rushes recorder (R319 to R325) -/

/-- One rushes channel: whether it takes updates, the updates and their sum since the last kept one, the records that
wait for DDR4 (value, stamp), and the records written since FILL began and since the trigger. -/
structure RushSt where
  on     : Bool
  count  : Nat
  sum    : Int
  queue  : List (Int × Nat)
  filled : Nat
  post   : Nat
deriving DecidableEq, Repr

def RushSt.atReset (_ : Nat) : RushSt := ⟨false, 0, 0, [], 0, 0⟩

/-! ### Sampling and comparators (R50 to R74) -/

/-- A trigger that a source has sent to IS12 (R57): the source, its instant, and the sets at which it has arrived. -/
structure TrigFly where
  src  : Nat
  at_  : Nat
  seen : List Nat
deriving DecidableEq, Repr

/-- A scheduled trigger of a sample set: its aperture end and the DEST it was scheduled with. -/
structure Trig where
  ap   : Nat
  dest : Nat
deriving DecidableEq, Repr

/-- A conversion under way: its trigger and, once the aperture has ended, whether its inputs are held. -/
structure Acq where
  trig : Trig
  open? : Bool
deriving DecidableEq, Repr

/-- One result of a conversion, before its SEQ is known: slot and the fields of R62. -/
structure SlotRes where
  slot : Nat
  ain  : Nat
  gain : Nat
  ovr  : Bool
  trim : Bool
  val  : Nat
deriving DecidableEq, Repr

/-- One sample set: triggers scheduled, the conversion under way, conversions whose delivery is still to come, the latest
aperture end scheduled, the latest whose acquisition began, and the latest whose results have been delivered. -/
structure SetSt where
  wait  : List Trig
  acq   : Option Acq
  done  : List (Trig × List SlotRes)
  last  : Option Nat
  begun : Option Nat
  full  : Option Nat
deriving DecidableEq, Repr

def SetSt.atReset (_ : Nat) : SetSt := ⟨[], none, [], none, none, none⟩

/-- One comparator: the conditions that stand and those that have tripped (R67), the tick from which they have stood unblanked,
the end of the start-up quiet and of the open blanking window, the last edge of BPORT that opened one (its opening tick, and its instant
in subticks), the tick at which a THR write is in full effect, with the least and the greatest code at which each threshold may stand
since it was last observed (R68), the groups its trip lane drives, and the groups its gate still holds with the tick of each one's release. -/
structure CmpSt where
  hi      : Bool
  lo      : Bool
  since   : Nat
  quiet   : Nat
  blank   : Nat
  thrAt   : Nat
  hiAt    : Int × Int
  loAt    : Int × Int
  lanes   : Nat
  gates   : List (Nat × Nat)
  hiTrip  : Bool
  loTrip  : Bool
  opened  : Nat × Nat
deriving DecidableEq, Repr

def CmpSt.atReset (_ : Nat) : CmpSt := ⟨false, false, 0, 0, 0, 0, (0, 0), (0, 0), 0, [], false, false, (0, 0)⟩

/-! ### Gate ports (R153 to R171) -/

/-- A value waiting in a compare's shadow: the value, the first tick whose load point takes it, and the tick of its write
(R45, R163). -/
structure Shadow where
  v    : Nat
  from_ : Nat
  fix  : Nat
deriving DecidableEq, Repr

/-- A value that governs a compare from the coming load interval on (R163): the value, the late placement that goes with it, and
the tick of its write. -/
structure Coming where
  v    : Nat
  late : Option Nat
  fix  : Nat
deriving DecidableEq, Repr

/-- A timing write that waits for its period start (R158): which word (0 PERIOD, 1 ACT, 2 DT, 3 to 6 EVT0 to EVT3),
its value, and the tick it reached the port island. -/
structure TimWrite where
  which : Nat
  v     : Nat
  at_   : Nat
deriving DecidableEq, Repr

/-- What happens at one subtick replaces: the level of a ball, its last transition, its held edges, the edges it has told, whether
it follows the logical level and whether its pin is safe. -/
structure BallSt where
  ball   : Bool
  lastTr : Option Nat
  merge  : Option (Nat × Bool)
  rise   : Option Nat
  mergeFix : Nat
  riseFix  : Nat
  edges  : List (Nat × Bool × Nat)
  follow : Bool
  safed  : Bool
deriving DecidableEq, Repr

/-- R160, R161, R165, R170: the port just before the subtick of what happened to it last: that subtick, the logical level, the
port's own ball and the next one (the other ball of a pair); and what has happened at that subtick: actions by their place in the
order of R160 (0 ACTZ or ACTP, 1 to 4 the compares A to D), each with the tick that fixed it (R69), the balls that resumed, those whose dead-time rise came, and those
whose held occurrences ended. -/
structure Was where
  at_   : Nat
  level : Bool
  own   : BallSt
  other : BallSt
  acts  : List (Nat × Nat × Nat)
  back  : List Nat
  risen : List Nat
  ended : List Nat
deriving DecidableEq, Repr

/-- One gate port. Ticks and subticks are counted on timecode without wrap. -/
structure PortSt where
  /-- the first period start has happened (R156) -/
  started : Bool
  /-- the port entered RUN while its island waits for a sync word (R20): its first period start is fixed at that word -/
  owed    : Bool
  /-- the logical level (R160) -/
  level   : Bool
  /-- the pin follows the logical level (R170) -/
  follow  : Bool
  /-- the level the port island places at this ball, its last transition in subticks, and its latest edges, newest last: subtick,
  direction, and the tick in which the port island fixed it (R69) -/
  ball    : Bool
  lastTr  : Option Nat
  edges   : List (Nat × Bool × Nat)
  /-- occurrences held under R161: the subtick they end at and the final level -/
  merge   : Option (Nat × Bool)
  /-- the dead-time rise to come at this ball (R165), in subticks -/
  rise    : Option Nat
  /-- the ticks in which the port island fixed the held edge and the dead-time rise (R69) -/
  mergeFix : Nat
  riseFix  : Nat
  /-- the present period start, the coming one, and whether the down half runs -/
  start   : Nat
  next    : Nat
  down    : Bool
  /-- PERIOD, ACT, DT and EVT0 to EVT3 in force, and the writes that wait -/
  per     : Nat
  act     : Nat
  dt      : Nat
  evt     : List Nat
  timing  : List TimWrite
  /-- the compares in force, the shadows, the values of the coming load interval, the late placements of this one, the ticks of
  the writes that govern it, and the occurrences it has had -/
  cmpF    : List Nat
  shadow  : List (Option Shadow)
  coming  : List (Option Coming)
  placed  : List (Option Nat)
  fixAt   : List Nat
  fired   : List Nat
  /-- what stood before the subtick of what happened last (R160) -/
  was     : Option Was
deriving DecidableEq, Repr

def PortSt.atReset (_ : Nat) : PortSt :=
  ⟨false, false, false, false, false, none, [], none, none, 0, 0, 0, 0, false, 1500, 0, 0, [0, 0, 0, 0], [], [0, 0, 0, 0],
    [none, none, none, none], [none, none, none, none], [none, none, none, none], [0, 0, 0, 0], [], none⟩

/-- A compare write on its way from an engine to a port island (R47). -/
structure PWrite where
  eng   : Nat
  port  : Nat
  cmp   : Nat
  v     : Int
  stamp : Nat
  rev   : Bool
deriving DecidableEq, Repr

/-- The CUT latch's side of the power-and-port die: the first source of the assertion (1 CTU, 2 CUTINn, 3 UV, 4 HOST),
whether the state lane has been reported, requests of the Continuity Unit that stand until the next start, the CORE_NONE
request, the keepalive loss, the times of the last keepalives; and beside it the groups whose trip latch is set, each with its tick
(R172). -/
structure CutSt where
  first    : Nat
  told     : Bool
  ctuReq   : Bool
  noneReq  : Bool
  kaLoss   : Bool
  kaA      : Nat
  kaB      : Nat
  latched  : List (Nat × Nat)
deriving DecidableEq, Repr

def CutSt.atReset : CutSt := ⟨0, false, false, false, false, 0, 0, []⟩

/-! ### Zone and device ledgers (R371 to R378) -/

/-- A request to the Gaffer: a zone request of a port or a device request of an island, its source number (R377), its
priority, the tick it was raised, and for an island whether it asks for a clock, with the state or clock it asks for. -/
structure GReq where
  zone   : Bool
  source : Nat
  prio   : Nat
  raised : Nat
  clock  : Bool
  target : Nat
deriving DecidableEq, Repr

/-- A granted start: port, the IPK and IRUN it was granted with, the tick its duration ends, and whether it has ended
(the port then runs at IRUN). -/
structure Start where
  port  : Nat
  ipk   : Nat
  irun  : Nat
  endAt : Nat
  excess  : Bool
deriving DecidableEq, Repr

/-! ### Position feedback (R75 to R99) -/

/-- One feedback channel. `spd`, `stamp`, `dir`, `dirchg`, `stopped`, `angle` and `turns` are the live values; the registers
show the values latched by the last read of POS (R78). `pts` are the points of the speed window, newest first: the running sum,
the stamp, and the step of the count that set it (R93). -/
structure PfSt where
  a       : Bool
  b       : Bool
  z       : Bool
  sector  : Option Nat
  sum     : Int
  pts     : List (Int × Nat × Int)
  above   : Bool
  spd     : Int
  stamp   : Nat
  dir     : Bool
  dirchg  : Bool
  stopped : Bool
  angle   : Nat
  turns   : Nat
  latched : Bool
  /-- tick of the last count or accepted frame, the tick of enable -/
  lastAt  : Nat
  enAt    : Nat
  /-- first frame since enable seen; calibration pulse of the last accepted SENT frame; bad frames or updates in a row -/
  first   : Bool
  cal     : Nat
  bad     : Nat
  lowAmp  : Nat
  /-- start of the last BiSS frame, and whether it is under way -/
  bissAt  : Nat
  busy    : Bool
  /-- status nibble bits 3 and 2 of the accepted SENT frames of the slow message under way, oldest first -/
  slow    : List (Bool × Bool)
  /-- half-periods of the excitation used so far, and the apertures under way with their polarity (true: negative peak) -/
  half    : Nat
  peaks   : List (Nat × Bool)
  /-- the aperture end of the last completion of its sample set that the tracker has taken, or that came before the enable (R88) -/
  upd     : Option Nat
  /-- the line delay in ticks that the last BiSS acknowledge showed (R92) -/
  delay   : Nat
deriving DecidableEq, Repr

def PfSt.atReset (_ : Nat) : PfSt :=
  ⟨false, false, false, none, 0, [], false, 0, 0, false, false, false, 0, 0, false, 0, 0, false, 0, 0, 0, 0, false, [], 0, [], none, 0⟩

/-- One encoder emulation output: accumulator, backlog, output phase (A and B as 0 to 3), tick of the last step. -/
structure EmuSt where
  acc     : Int
  backlog : Int
  phase   : Nat
  stepAt  : Nat
deriving DecidableEq, Repr

def EmuSt.atReset (_ : Nat) : EmuSt := ⟨0, 0, 0, 0⟩

end Sys2Proof.Machine
end

