-- ==== Sys2Proof/Machine/UnitsCore.lean ====
section
/-! DEFINITION. The records of the cores, their Cues and the Continuity Unit, each with its value at reset. -/

namespace Sys2Proof.Machine

/-- R202: an active loop: first and last address of its body, its window, and the specifier of its count register. -/
structure LoopSt where
  first : Nat
  last  : Nat
  win   : Nat
  count : Nat
deriving DecidableEq, Repr

/-- What the Cue holds for a task beside its registers (R257): status flags and CONT, the return stack with the place of the
next push, the loop of level 0, and a WAITE still to complete (its D, and whether RELEASE completes it with 0). -/
structure TaskSt where
  z     : Bool
  n     : Bool
  c     : Bool
  v     : Bool
  cont  : Bool
  stack : List Nat
  top   : Nat
  loop  : Option LoopSt
  wait  : Option (Nat × Bool)
deriving DecidableEq, Repr

def TaskSt.atReset (_ : Nat) : TaskSt := ⟨false, false, false, false, false, List.replicate 16 0, 0, none, none⟩

/-- A cause on its way to an entry (R241). -/
structure Cause where
  level : Nat
  code  : Nat
  src   : Nat
  info  : Nat
  xarg  : Nat
deriving DecidableEq, Repr

/-- R245: an entry whose takeover window is open: its cause, the record it wrote, and the return address that stands when
its cause is a TRAP that is replaced. -/
structure EntrySt where
  cause : Cause
  xpc   : Nat
  xst   : Nat
  from_ : Nat
  trap  : Bool
  /-- R202: the loop as it stood before the TRAP, where the TRAP was its word at last -/
  undo  : Option LoopSt
  /-- the causes, by code and source, that were pending before the entry -/
  had   : List (Nat × Nat)
deriving DecidableEq, Repr

/-- A coprocessor result (R210, R235): a product or value for an accumulator (`add`: it is added with
saturation), and results of the divide unit and of the CORDIC unit with the MST bits they set. -/
inductive CpRes where
  | acc (i : Nat) (v : Int) (add : Bool)
  | wra (i : Nat) (v : Int)
  | div (m0 : Nat) (m1 : Option Nat) (mst : Nat)
  | root (m0 : Nat) (mst : Nat)
  | cor (m0 m1 : Nat)
deriving DecidableEq, Repr

/-- R234, R235: a result on its way, and the least number of cycles of the core that pass before it has landed. -/
structure Flight where
  res  : CpRes
  left : Nat
deriving DecidableEq, Repr

/-- One core: sequencer and Cue beside the Cue's registers. -/
structure CoreSt where
  pc    : Nat
  /-- G0 to G7 by 0 to 7 and word i of window w by 16 + 16 w + i (L0 to L7, then N0 to N7), sparse over zero -/
  regs  : List (Nat × Nat)
  z     : Bool
  n     : Bool
  c     : Bool
  v     : Bool
  cont  : Bool
  /-- the present level, 0 to 7 -/
  lvl   : Fin 8
  hold  : Bool
  hrem  : Nat
  /-- R250: n of the present hold exceeded HOLDMAX -/
  excess  : Bool
  /-- the running task, or the one that ran last -/
  tsk   : Fin 8
  /-- R263, R268: nothing that the sequencer holds belongs to the task that ran last any more: it was stopped or saved -/
  away  : Bool
  tasks : List (Nat × TaskSt)
  /-- loops and return stacks of levels 1 to 7 -/
  loops : List (Nat × LoopSt)
  stks  : List (Nat × List Nat)
  /-- R217: RWS fields written since the last SYNC, with the value that governs -/
  stale : List (Nat × Nat)
  /-- the synchronous cause at the boundary, with its return address and whether it is a TRAP -/
  sync  : Option (Cause × Nat × Bool)
  /-- R240: internal causes that are pending, at most one of each kind; routed events as (event, level, stamp) -/
  inner : List Cause
  evs   : List (Nat × Nat × Nat)
  entry : Option EntrySt
  /-- R245: an entry has been made, and the first instruction of its handler has not run -/
  fresh : Bool
  /-- R202: the word at last has completed; STOP of the running task waits for its boundary; a debug step is granted -/
  edge  : Bool
  /-- R206: a long instruction stands between two of its elements -/
  mid   : Bool
  stop  : Bool
  step  : Bool
  /-- R211: accumulators (72 bits), M0 to M3, MST, and the results on their way in issue order -/
  acc   : List Nat
  m     : List Nat
  mst   : Nat
  fly   : List Flight
  /-- R234: the tick up to which the core's cycles have been counted, and the cycles of its instructions that no tick has brought yet -/
  seen  : Nat
  ahead : Nat
  /-- R231: the loop buffer's tag: start, and the count of words less 1 -/
  tag   : Nat × Nat
  /-- R231, R232: the words that the loop buffer holds, each with its address; a word not listed is not held -/
  buf   : List (Nat × Nat)
  /-- R223: the words of the line buffer, each with its address: those of one flash line, or of one 8-word block of DDR4 -/
  line  : List (Nat × Nat)
  /-- R218, R220: the prefetched word: its address, the code of the cause that its fetch met (0: none), and its fetch wait -/
  next  : Option (Nat × Nat × Nat)
  /-- R217, R223: the banks in the sequencer's owned view, as they stood at the last SYNC or start -/
  view  : List Nat
  /-- R12: the instruction, or the element of one, whose access waited for an island in Grey is to go on -/
  resume : Bool
  /-- R276: writes that wait for their agreement token, oldest first -/
  held  : List (List (Nat × Nat))
deriving DecidableEq, Repr

def CoreSt.atReset (_ : Nat) : CoreSt :=
  { pc := 0, regs := [], z := false, n := false, c := false, v := false, cont := false, lvl := 0, hold := false, hrem := 0,
    excess := false, tsk := 0, away := false, tasks := [], loops := [], stks := [], stale := [], sync := none, inner := [], evs := [],
    entry := none, fresh := false, edge := false, mid := false, stop := false, step := false, acc := [0, 0, 0, 0], m := [0, 0, 0, 0], mst := 0, fly := [],
    seen := 0, ahead := 0,
    tag := (0, 0), buf := [], line := [], next := none, view := [], resume := false, held := [] }

/-- R238: the present level. -/
def CoreSt.level (x : CoreSt) : Nat := x.lvl.val

/-- R257: the running task, or the one that ran last. -/
def CoreSt.task (x : CoreSt) : Nat := x.tsk.val

/-- A failover plan as it was latched (R282): heir, core of the level routes, and per task (DEST, DTASK, DBASE, EXACT, RPC). -/
structure PlanTask where
  dest  : Nat
  dtask : Nat
  dbase : Nat
  exact : Bool
  rpc   : Nat
deriving DecidableEq, Repr

structure Move where
  core  : Nat
  at_   : Nat
  heir  : Nat
  lv    : Nat
  tasks : List PlanTask
  /-- the task that was running at the halt -/
  run   : Option Nat
  /-- SEQ of the core's fault entry, once it is logged -/
  seq   : Option Nat
  /-- a WITHDRAW whose completion is to be written -/
  cmd   : Bool
  /-- the move has been made: tasks moved exact, restarted and shed -/
  done  : Option (Nat × Nat × Nat)
deriving DecidableEq, Repr

/-- The Continuity Unit beside its registers: log slots from the oldest to the newest entry, SEQ of the next entry, the
moves in order of detection, the core whose RETEST is to complete, and the tick after the last state scrub of each core and
after the last test round (R277, R279). -/
structure CtuSt where
  order  : List Nat
  seq    : Nat
  moves  : List Move
  retest : Option Nat
  passes : List (Nat × Nat)
  round  : Nat
deriving DecidableEq, Repr

def CtuSt.atReset : CtuSt := ⟨[], 0, [], none, [], 0⟩

end Sys2Proof.Machine
end

