-- ==== Sys2Proof/Machine/UnitsEngine.lean ====
section
/-! DEFINITION. The records of the loop engines and the reels: what a run holds, and each record's value at reset. -/

namespace Sys2Proof.Machine

/-- The value m × 2^e. -/
structure Dy where
  m : Int
  e : Int
deriving DecidableEq, Repr

/-- A result on its way to its destination (R103, R111): an exact value (`dev` is how far the unit's result may lie from it,
in units of the landing mantissa, and `cap` limits the value to 0 to cap), a quotient, a root, a mantissa that lands as it
is, two Q15 halves, a flag, OVF of a stage, QOVF, an accumulator, a NORM, and a state word's working copy. -/
inductive LawRes where
  | val (d : Nat) (v : Dy)
  | near (d : Nat) (v : Dy) (dev : Int) (cap : Option Dy)
  | quo (d : Nat) (a b : Dy)
  | root (d : Nat) (v : Dy)
  | mant (d : Nat) (m : Int)
  | halves (d : Nat) (hi lo : Int)
  | flag (b : Bool)
  | ovf (stage : Nat)
  | qovf
  | acc (i : Nat) (a : Int)
  | norm (stage h : Nat)
  | word (i : Nat) (m : Int)
deriving DecidableEq, Repr

/-- R119: an effect of a run: a POUT, an STS or an RLRN with the learning index it teaches at (none: the reel is not bound,
or no live RRD came before). -/
inductive Effect where
  | pout (port cmp : Nat) (v : Int)
  | sts (i : Nat) (m : Int)
  | rlrn (reel : Nat) (err : Dy) (bound : Bool) (idx : Option Nat)
deriving DecidableEq, Repr

/-- A REP under way: first and last word of the body, iterations in all, the present one, and how many of them are live. -/
structure RepSt where
  first : Nat
  last  : Nat
  total : Nat
  now   : Nat
  live  : Nat
deriving DecidableEq, Repr

/-- One take, retake or tiebreak under way. The registers hold what stands in the engine: in a retake, the negation. -/
structure LawPass where
  x      : List Int
  se     : List Int
  ovf    : Nat
  qovf   : Bool
  flag   : Bool
  fa     : List Int
  /-- results on their way, with the cycle they land in, in issue order -/
  flight : List (Nat × LawRes)
  /-- state words stored in this pass and visible to its LDS -/
  view   : List (Nat × Int)
  pc     : Nat
  cyc    : Nat
  /-- words from `skipFrom` up to but without `skipTo` issue as no-ops -/
  skipFrom : Nat
  skipTo   : Nat
  rep    : Option RepSt
  /-- signature of the no-op issues -/
  sig    : Nat
  /-- SIN slots issued so far -/
  ins    : Nat
  /-- last live RRD of each reel: reel, learning index, entry played -/
  played : List (Nat × Nat × Nat)
  log    : List Effect
deriving DecidableEq, Repr

/-- R106: a pass begins with everything clear. -/
def LawPass.start : LawPass :=
  ⟨List.replicate 64 0, List.replicate 8 0, 0, false, false, [0, 0, 0, 0], [], [], 0, 1, 0, 0, none, 0, 0, [], []⟩

/-- What the closing compare and the settlement look at after a pass: its effects, the stage exponents, OVF, QOVF and
signature at its END, and a difference that a fault left in them. -/
structure Closed where
  log  : List Effect
  se   : List Int
  ovf  : Nat
  qovf : Bool
  sig  : Nat
  hurt : Nat
deriving DecidableEq, Repr

/-- R141: a play window: the index of its first entry, its sixteen entries, and the N, LEAD and REXP they came with. -/
structure Window where
  first : Nat
  ents  : List Nat
  n     : Nat
  lead  : Int
  rexp  : Int
deriving DecidableEq, Repr

/-- A reel as an engine latched it at dispatch: its number, its window, if one had arrived, and which of its enables it was (R146). -/
structure Latched where
  reel : Nat
  win  : Option Window
  gen  : Nat
deriving DecidableEq, Repr

/-- One loop engine beside its registers and memories. -/
structure EngSt where
  /-- 0 idle, 1 take, 2 retake, 3 tiebreak -/
  phase   : Nat
  pass    : LawPass
  take    : Option Closed
  retake  : Option Closed
  /-- R116: trigger stamp, inputs frozen at dispatch (by set × 32 + slot), position items latched by channel, input log -/
  stamp   : Nat
  frozen  : List (Nat × Nat)
  posc    : List (Nat × List Int)
  inputs  : List Dy
  latched : List Latched
  /-- the retake has disagreed -/
  bad     : Bool
  /-- a trigger accepted and not yet dispatched; the held trigger; DISARM waits for the run's end -/
  disp    : Option Nat
  held    : Option Nat
  disarm  : Bool
  /-- R44: the last agreed value of each compare (port × 4 + compare) -/
  agreed  : List (Nat × Int)
  /-- R49: the last LAT word of each port -/
  lat     : List (Nat × Nat)
  /-- R127: the ports that the law's POUT ops name -/
  ports   : List Nat
  /-- R130: a long command under way: code, completion status, INFO -/
  cmd     : Option (Nat × Nat × Nat)
  /-- tick of the Red decision; the failover still to come (0 none, 1 of a law without a
  backing copy, 2 of one that ARM has written out); the tick at which a
  restore or LBIST ends -/
  redAt   : Nat
  failing : Nat
  due     : Nat
  /-- R123: ARM has written the backing copy of the law that is loaded; the state words that the last commit wrote -/
  backed  : Bool
  mirror  : List Nat
deriving DecidableEq, Repr

def EngSt.atReset (_ : Nat) : EngSt :=
  ⟨0, LawPass.start, none, none, 0, [], [], [], [], false, none, none, false, [], [], [], none, 0, 0, 0, false, []⟩

/-- One reel: the window its engine holds, the windows to be delivered, oldest first, each with the p̂ of R142 and the queued updates
that come before it, and the one after enable (`first`); the entry last played by a committed run and its p̂; whether a run without
an RRD of the reel has committed since; and how often the reel has been enabled or disabled (R146). -/
structure ReelSt where
  win   : Option Window
  req   : List (Nat × Nat)
  first : Bool
  last  : Option Nat
  hat   : Nat
  gap   : Bool
  gen   : Nat
deriving DecidableEq, Repr

def ReelSt.atReset (_ : Nat) : ReelSt := ⟨none, [], false, none, 0, false, 0⟩

/-- R148: the transfer under way: reel, command, its completion status, the image header that a save writes last, with the
address it goes to, the records a SAVE_REC has still to write before it, and whether a record transfer waits for a record command
that came before it (R346). -/
structure Xfer where
  reel : Nat
  cmd  : Nat
  stat : Nat
  head : List Nat
  adr  : Nat
  recs : List (Nat × List Nat)
  late : Bool
deriving DecidableEq, Repr

end Sys2Proof.Machine
end

