-- ==== Sys2Proof/Machine/UnitsLink.lean ====
section
/-! DEFINITION. The records of the links: Slate sessions and commands, CAN, IP, SPI, UART and MDIO, each with its value at
reset (R409 to R433). -/

namespace Sys2Proof.Machine

/-- One session slot: 0 closed, 1 reserved for KEYX, 2 open; the highest slate number accepted and those accepted below
it (R418); the device's next slate number; the ticks of its opening and of its last accepted frame; the source address and
port its last frame came from; the nonces of OPEN; and the number of the free value the ML-KEM key pair is made of. -/
structure SessSt where
  phase  : Nat
  high   : Nat
  seen   : List Nat
  dev    : Nat
  opened : Nat
  last   : Nat
  peer   : Nat × Nat
  hostNonce : List Nat
  devNonce  : List Nat
  kem    : Nat
deriving DecidableEq, Repr

def SessSt.atReset (_ : Nat) : SessSt := ⟨0, 0, [], 1, 0, 0, (0, 0), [], [], 0⟩

/-- R412: a CAN XL frame that carries a segment: priority ID, SDT, VCID, acceptance field, data octets. -/
structure CanSeg where
  id   : Nat
  sdt  : Nat
  vcid : Nat
  af   : Nat
  data : List Nat
deriving DecidableEq, Repr

/-- A frame the device has sent: transport, on a MAC its 802.1Q tag (PCP, VID) and the address and port it goes to, the fields of the header of R414, the
octets of its payload as they travel (for a response the response word of R416 comes first), its tag where one is due, and
on CAN its segments. -/
structure SlateOut where
  via     : Nat
  vlan    : Option (Nat × Nat)
  peer    : Nat × Nat
  session : Nat
  slate   : Nat
  cmd     : Nat
  notice  : Bool
  payload : List Nat
  tag     : List Nat
  segs    : List CanSeg
deriving DecidableEq, Repr

/-- A command taken by R417: its transport (1, 2 MAC; 3 to 6 CAN; 7 the local port), the address and port to answer, its
session slot, the header's session, slate number and COMMAND with the payload in clear, the word at which a local request stands, and of
a LOAD the number of sectors or lines done with FIRST (R423, R428). -/
structure SlateRun where
  via     : Nat
  peer    : Nat × Nat
  slot    : Option Nat
  session : Nat
  slate   : Nat
  cmd     : Nat
  payload : List Nat
  area    : Nat
  done    : Nat
  first   : Nat
deriving DecidableEq, Repr

/-- R412: a partly received Slate frame: FTAG, the next index, the octets so far, the tick of the last segment. -/
structure Part where
  ftag : Nat
  next : Nat
  octs : List Nat
  at_  : Nat
deriving DecidableEq, Repr

/-- R411: an IP datagram under reassembly: MAC, IP version 6, source, destination, identification; the pieces (offset,
octets), its length once the last piece is here, and the tick of its first piece. -/
structure Frag where
  mac   : Nat
  v6    : Bool
  src   : Nat
  dst   : Nat
  ident : Nat
  parts : List (Nat × List Nat)
  total : Option Nat
  at_   : Nat
deriving DecidableEq, Repr

/-- One SPI (0 to 7) or UART (8, 9): its TX FIFO, whose head is the word being shifted, and its RX FIFO. -/
structure SerialSt where
  tx : List Nat
  rx : List Nat
deriving DecidableEq, Repr

def SerialSt.atReset (_ : Nat) : SerialSt := ⟨[], []⟩

/-- What a link has put on its pins beside Slate frames: the answers of a MAC with their 802.1Q tag (R409), a CAN frame of a transmit ring (R432), a
word or character of SPI or UART. -/
inductive LinkOut where
  | arp (mac : Nat) (vlan : Option (Nat × Nat)) (adr : Nat)
  | nd (mac : Nat) (vlan : Option (Nat × Nat)) (adr : Nat)
  | echo (mac : Nat) (vlan : Option (Nat × Nat)) (dest : Nat) (data : List Nat)
  | can (n w0 w1 w2 w3 : Nat) (data : List Nat)
  | word (unit v : Nat)
deriving DecidableEq, Repr

/-- The links beside their registers: the Slate command that runs and the CUTs that run beside it, in order of arrival (R419); the device's next
slate number in session 0; the MACsec keys in force (MAC, AN, SCI; the SAK is in handle 6 or 7); partly received Slate
frames per CAN; datagrams under reassembly; MDIO accesses under way (MAC, write, PHY and register address, data); the tick of the
last Sync per MAC; and what has been sent. -/
structure LinkSt where
  run   : Option SlateRun
  cut   : List SlateRun
  dev0  : Nat
  saks  : List (Nat × Nat × Nat)
  parts : List (Nat × Part)
  frags : List Frag
  mdio  : List (Nat × Bool × Nat × Nat × Nat)
  syncs : List (Nat × Nat)
  outs  : List LinkOut
deriving DecidableEq, Repr

def LinkSt.atReset : LinkSt := ⟨none, [], 1, [], [], [], [], [], []⟩

end Sys2Proof.Machine
end

