-- ==== Sys2Proof/Machine/UnitsStore.lean ====
section
/-! DEFINITION. The records of the banks, the DMA channels, the flash controller and the record store, each with its value at
reset. -/

namespace Sys2Proof.Machine

/-- The scrub of one bank or mailbox: the word it takes next, the uncorrectable words met in this pass, and whether it has
completed a pass since the last round (R307, R308). -/
structure BankSt where
  pos    : Nat
  dues   : Nat
  passed : Bool
deriving DecidableEq, Repr

def BankSt.atReset (_ : Nat) : BankSt := ⟨0, 0, false⟩

/-- One DMA channel: SRC, DST and CNT at the start of its transfer, the words of the dense block under way with the
number of them moved, and whether it is the channel that moved a word last (R316 to R318). -/
structure DmaSt where
  src : Nat
  dst : Nat
  cnt : Nat
  buf : List Nat
  pos : Nat
  last : Bool
deriving DecidableEq, Repr

def DmaSt.atReset (_ : Nat) : DmaSt := ⟨0, 0, 0, [], 0, false⟩

/-- A descriptor of the flash queue as it was taken (R332): the address of its slot and the fields of words 0 to 2. -/
structure FlashDesc where
  slot  : Nat
  op    : Nat
  evq   : Bool
  cmp   : Bool
  emrg  : Bool
  count : Nat
  addr  : Nat
  src   : Nat
deriving DecidableEq, Repr

/-- What an erase is for: a descriptor, a spare of its bank (R342), the record store (R349), or LOAD (R428). -/
inductive EraseKind where
  | desc (d : FlashDesc)
  | spare
  | store
  | load
deriving DecidableEq, Repr

/-- An erase under way or suspended: bank, logical sectors (of a spare: its physical number), what it is for. -/
structure EraseRun where
  bank : Nat
  secs : List Nat
  kind : EraseKind
  susp : Bool
deriving DecidableEq, Repr

/-- A program under way: the descriptor, the words of the lines whose source was read, and the line whose source read failed. -/
structure FlashProg where
  desc  : FlashDesc
  lines : List (List Nat)
  stop  : Option Nat
deriving DecidableEq, Repr

/-- The flash controller beside its registers: the descriptor taken and not complete, the program and the erases under way
(their sectors carry the markers of R337), the relocations whose copy is under way (bank, sector, spare; R342), torn sectors
(bank, sector, true for a spare), retired sectors, the queue for relocation, the remap table (logical sector by key 2,048 × bank + sector, physical number), erased spares, spares to be
erased, lines an interrupted program left, the wipe marker of R354, and what the host link's LOAD has under way: the address and words of
a line, or the address of a sector and no word (R428). -/
structure FlashSt where
  now     : Option FlashDesc
  prog    : Option FlashProg
  runs    : List EraseRun
  copies  : List (Nat × Nat × Nat)
  torn    : List (Nat × Nat × Bool)
  retired : List (Nat × Nat)
  queued  : List (Nat × Nat)
  remap   : List (Nat × Nat)
  spares  : List (Nat × Nat)
  dirty   : List (Nat × Nat)
  odd     : List Nat
  wipe    : Bool
  loadOp  : Option (Nat × List Nat)
deriving DecidableEq, Repr

def FlashSt.atReset : FlashSt :=
  ⟨none, none, [], [], [], [], [], [], [(0, 512), (0, 513), (0, 514), (0, 515), (1, 512), (1, 513), (1, 514), (1, 515),
    (2, 1024), (2, 1025), (2, 1026), (2, 1027), (2, 1028), (2, 1029), (2, 1030), (2, 1031)], [], [], false, none⟩

/-- A record command that is executing: command, record, payload. -/
structure StoreCmd where
  cmd  : Nat
  rec_ : Nat
  data : List Nat
deriving DecidableEq, Repr

/-- The record store beside its registers: the command under way, the index (the line address of each record's newest
copy), the active sector, its write point (a line), the LAP of the active sector, sectors erased and ready, sectors to be
erased, the ERASES value of a sector to be activated again, and whether STORE_DEGRADED has been raised. -/
structure StoreSt where
  cmd     : Option StoreCmd
  index   : List (Nat × Nat)
  active  : Option Nat
  point   : Nat
  lap     : Nat
  ahead   : List Nat
  toErase : List Nat
  wear    : List (Nat × Nat)
  worn    : Bool
deriving DecidableEq, Repr

def StoreSt.atReset : StoreSt := ⟨none, [], none, 0, 0, [], [], [], false⟩

end Sys2Proof.Machine
end

