-- ==== Sys2Proof/Machine/UnitsSys.lean ====
section
/-! DEFINITION. The records of the Gaffer, the supply, OTP, the starts, the security island and debug, each with its value at
reset. -/

namespace Sys2Proof.Machine

/-- The Gaffer beside its registers: wakes granted and on their way (island, the state it wakes to); tick and mW of the last
device grant (R373); clock changes that wait for an instruction boundary (island, clock); core islands lowered by R372 and by
R363; sensors whose AGE has passed MAXAGE since their last TEMP (R376); and the marks of R430: highest and lowest TJ, lowest
VIN, highest PIN. -/
structure GafSt where
  waking : List (Nat × Nat)
  last   : Nat × Nat
  steps  : List (Nat × Nat)
  bud    : List Nat
  hot    : List Nat
  told   : List Nat
  marks  : Option (Int × Int × Nat × Nat)
  /-- R367: wakes (island, priority, target) that ask for a lighter state than the wake of the island under way brings -/
  later  : List (Nat × Nat × Nat)
deriving DecidableEq, Repr

def GafSt.atReset : GafSt := ⟨[], (0, 0), [], [], [], [], none, []⟩

/-- The power-and-port die's supply and reset logic: the logic-die reset is asserted; VIN is below its threshold; rails out
of their windows (0 VCORE, 1 VANA/VSRAM, 2 VPP, 3 VMID); the junction shutdown holds the reset; VIOS holds it; the device
sleeps (0 no, else 1 + DEPTH of SLEEPCFG) and with its retention domain kept. -/
structure PowerSt where
  off    : Bool
  uv     : Bool
  rails  : List Nat
  tj     : Bool
  vios   : Bool
  sleep  : Nat
  retain : Bool
deriving DecidableEq, Repr

def PowerSt.atReset : PowerSt := ⟨false, false, [], false, false, 0, false⟩

/-- R8, R353, R396: OTP. Digests are 512-bit numbers, most significant octet first. -/
structure OtpSt where
  fused   : Bool
  split   : Bool
  uid     : List Nat
  seq     : Nat
  l2      : Bool
  keys    : List (Option Nat)
  revoked : List Nat
  arb     : Nat
  host    : Option Nat
  dbg     : Option Nat
  idSeed  : Option Nat
deriving DecidableEq, Repr

def OtpSt.atReset : OtpSt := ⟨false, false, [0, 0, 0, 0], 0, false, [none, none, none, none], [], 0, none, none, none⟩

/-- R398: the verified-digest token. -/
structure Token where
  region : Nat
  dig    : Nat
  secver : Nat
deriving DecidableEq, Repr

/-- A start that stands before its handoff: warm; recovery; cores that passed LBIST (cold) or are not RED (warm). -/
structure Handoff where
  warm  : Bool
  recov : Bool
  cores : Nat
deriving DecidableEq, Repr

/-- R380 to R398: the start that is due (warm, CAUSE), the start-attempt counter ATT, the token, the handoff to come, the
region of the running image, whether the running start is a recovery start, whether the first watchdog key word has been
written, and whether the logic die has passed through Black with its retention domain kept and has not started since (R19). -/
structure BootSt where
  due    : Option (Bool × Nat)
  att    : Nat
  token  : Option Token
  hand   : Option Handoff
  region : Option Nat
  recov  : Bool
  kick   : Bool
  black  : Bool
deriving DecidableEq, Repr

def BootSt.atReset : BootSt := ⟨some (false, 0), 0, none, none, none, false, false, false⟩

/-- R405: the register of the TAP between TDI and TDO. -/
inductive TapReg where
  | bypass | idcode | boundary | busacc
deriving DecidableEq, Repr

/-- R399 to R406: the security island: requests queued (ticket, descriptor), the next ticket, the completion of the
head request once its operation has run (STATUS, octets), completed tickets (ticket, STATUS, octets), key handles (handle,
256-bit key), the OTP command that executes (code, argument), whether the debug challenge is unanswered, the words received
since, the pattern EXTEST drives, and the TAP's register with the bits it last captured, the one shifted out first in front. -/
structure SecSt where
  queue   : List (Nat × List Nat)
  next    : Nat
  done    : Option (Nat × Nat)
  results : List (Nat × Nat × Nat)
  handles : List (Nat × Nat)
  otpCmd  : Option (Nat × Nat)
  fresh   : Bool
  words   : List Nat
  scan    : List Bool
  tap     : TapReg
  dr      : List Bool
deriving DecidableEq, Repr

/-- R405: IDCODE. -/
def idcode : Nat := 0x2963674B

/-- The bits of IDCODE, the least significant first. -/
def idcodeBits : List Bool := (List.range 32).map (fun i => idcode / 2 ^ i % 2 == 1)

def SecSt.atReset : SecSt := ⟨[], 0, none, [], [], none, false, [], [], .idcode, idcodeBits⟩

end Sys2Proof.Machine
end

