-- ==== Sys2Proof/Machine/State.lean ====
section
/-! DEFINITION. The state of the block, its reset, and the reasons a step can stop. -/

namespace Sys2Proof.Machine

/-- Why a step stops without a next state. -/
inductive Fault where
  /-- Raised by a meaning whose command carries a list of the wrong length or a number out of its range (`WellFormed`
  refuses it): no command of that form exists. Safe: the model stops. -/
  | malformed (what : String)
deriving DecidableEq, Repr

/-- Why a command has no meaning. -/
inductive Refusal where
  /-- Raised by an arm of `exec` whose command is not modelled. Safe: the model stops. -/
  | notModelled (mnemonic : String)
deriving DecidableEq, Repr

/-- What a memory word that nothing has written reads as: erased flash is all ones (R333), every other memory
reads zero (row 4 of the assumption log). -/
def memDefault (a : Nat) : Nat := if a < 0x500000 then 0xFFFFFFFFF else 0

/-- The whole state of the 9636 that the spec names, plain data. -/
structure State where
  /-- R3, R18: timecode, a 64-bit count of ticks. -/
  now : BitVec 64
  /-- R18: timecode counts (the reference PLL has locked since the last cold start). -/
  tcRun : Bool
  /-- R19: timecode saved when the logic die enters Black. -/
  tcSaved : BitVec 64
  /-- R20: islands whose replica waits for the next sync word; they stamp and schedule nothing. -/
  syncWait : List Nat
  /-- Every field of every control register, by `FRef.key`, sparse over `resetKey`. -/
  fields : List (Nat × Nat)
  /-- Flash, banks, mailboxes, reel memory, engine memories and DDR4, by word address, sparse over `memDefault`. -/
  mem : List (Nat × Nat)
  /-- Words that hold an error the ECC will meet: address, and true where it is uncorrectable (R306, R311, R328). -/
  marks : List (Nat × Bool)
  /-- R28: the response and data of the last access. -/
  bus : Access
  /-- R12: accesses held until an island in Grey has restarted. -/
  held : List HeldAccess
  /-- R260: events raised and not yet seen by every Cue, oldest first. -/
  events : List Ev
  /-- R293: fault reports raised and not yet taken by the Continuity Unit, oldest first. -/
  reports : List Report
  /-- R57: triggers on their way to IS12 and its sample sets, oldest first. -/
  trigAt : List TrigFly
  /-- R390, R391: the 180 words of the trim table in effect; empty while neutral values are. -/
  trim : List Nat
  /-- R65: how many self-calibrations have completed (they give cal_off and cal_gain); 0: none. -/
  calGen : Nat
  /-- R65: the tick at which the running self-calibration ends. -/
  calEnd : Nat
  /-- R47: compare writes on their way from the engines to the port islands, in issue order. -/
  portWrites : List PWrite
  /-- R49: LAT words on their way back (engine, port, word), oldest first. -/
  latFlight : List (Nat × Nat × Nat)
  /-- R174 to R178: the CUT latch and its sources. -/
  cut : CutSt
  /-- R173: lane tests under way: port group and the tick they end. -/
  laneTest : List (Nat × Nat)
  /-- R377: requests that wait for the Gaffer, oldest first; those beyond 64 are held at their sources. -/
  gafQueue : List GReq
  /-- R374: the starts whose current stands in the zone ledger. -/
  starts : List Start
  /-- R375: the tick and the IPK of the last zone grant. -/
  zoneLast : Nat × Nat
  /-- R416, R420: frames the device has sent, oldest first. -/
  slateOut : List SlateOut
  /-- R61, R116: the live input ports of the engines: engine × 1024 + set × 32 + slot; slot 16 holds the stamp of the set. -/
  engIn : List (Nat × Nat)
  /-- R114: triggers on their way to the engines (engine, stamp), oldest first. -/
  engTrigs : List (Nat × Nat)
  /-- R100: the negative state images: engine × 1024 + word, sparse over zero. -/
  engNeg : List (Nat × Nat)
  /-- R144: the reel unit's queue of updates: reel, entry, error. -/
  reelQ : List (Nat × Nat × Dy)
  /-- R148: the reel transfer under way. -/
  xfer : Option Xfer
  /-- R312: the granule at which the patrol scrub of DDR4 goes on. -/
  patrol : Nat
  /-- R310: the installed capacity in GiB of the configuration that the last INIT accepted. -/
  ddrCap : Nat
  /-- R330 to R343: the flash controller beside its registers. -/
  flash : FlashSt
  /-- R344 to R351: the record store beside its registers. -/
  recs : StoreSt
  /-- R281 to R297: the Continuity Unit beside its registers. -/
  ctu : CtuSt
  /-- R384: ENTRY and EPA of the image that runs. -/
  image : Nat × Nat
  /-- R363 to R377: the Gaffer beside its registers. -/
  gaf : GafSt
  /-- R356 to R364, R370, R438: the supply and reset logic of the power-and-port die. -/
  power : PowerSt
  /-- R8, R353, R396: OTP. -/
  otp : OtpSt
  /-- R380 to R398: the starts. -/
  boot : BootSt
  /-- R399 to R406: the security island and debug beside their registers. -/
  sec : SecSt
  /-- R409 to R433: the links beside their registers. -/
  link : LinkSt
  /-- Rushes channels 0 to 31. -/
  rushes : List (Nat × RushSt)
  /-- Sample sets SS00 to SS31. -/
  sets : List (Nat × SetSt)
  /-- Comparators CMP00 to CMP31. -/
  cmps : List (Nat × CmpSt)
  /-- Slate session slots 0 to 2. -/
  sessions : List (Nat × SessSt)
  /-- Feedback channels PF00 to PF15. -/
  feedback : List (Nat × PfSt)
  /-- Encoder emulation outputs EMU0 to EMU3. -/
  emus : List (Nat × EmuSt)
  /-- Gate ports GP00 to GP95. -/
  ports : List (Nat × PortSt)
  /-- Loop engines LE00 to LE23. -/
  engines : List (Nat × EngSt)
  /-- Reels RL00 to RL63. -/
  reels : List (Nat × ReelSt)
  /-- Banks BK00 to BK63 and mailboxes MB0 to MB3 (64 to 67). -/
  banks : List (Nat × BankSt)
  /-- DMA channels DM00 to DM15. -/
  dmas : List (Nat × DmaSt)
  /-- Cores SC0 to SC3, or C0 to C7 in SPLIT, with their Cues. -/
  cores : List (Nat × CoreSt)
  /-- SPI0 to SPI7 (0 to 7), UART0 and UART1 (8, 9). -/
  serials : List (Nat × SerialSt)
  /-- The model's own counter of free values drawn so far (see Config); no statement rests on its value. -/
  free : Nat
  /-- The commands that wait, first in, first out. -/
  pending : List Instr
deriving DecidableEq, Repr

/-- The machine right after reset: every field at the value the spec states; row 3 of the log names the rest. -/
def State.reset : State where
  now := 0
  tcRun := false
  tcSaved := 0
  syncWait := []
  fields := []
  mem := []
  marks := []
  bus := Access.none
  held := []
  events := []
  reports := []
  trigAt := []
  trim := []
  calGen := 0
  calEnd := 0
  portWrites := []
  latFlight := []
  cut := CutSt.atReset
  laneTest := []
  gafQueue := []
  starts := []
  zoneLast := (0, 0)
  slateOut := []
  engIn := []
  engTrigs := []
  engNeg := []
  reelQ := []
  xfer := none
  patrol := 0
  ddrCap := 0
  flash := FlashSt.atReset
  recs := StoreSt.atReset
  ctu := CtuSt.atReset
  image := (0, 0)
  gaf := GafSt.atReset
  power := PowerSt.atReset
  otp := OtpSt.atReset
  boot := BootSt.atReset
  sec := SecSt.atReset
  link := LinkSt.atReset
  rushes := []
  sets := []
  cmps := []
  sessions := []
  feedback := []
  emus := []
  ports := []
  engines := []
  reels := []
  banks := []
  dmas := []
  cores := []
  serials := []
  free := 0
  pending := []

/-- The outcome of a command. -/
abbrev Out := Host.Outcome State Fault Refusal

end Sys2Proof.Machine
end

