-- ==== Sys2Proof/Machine/Access.lean ====
section
/-! DEFINITION. The one way each field of the state is written: a setter per field, an accessor and a setter per unit. -/

namespace Sys2Proof.Machine

def State.setNow (s : State) (x : BitVec 64) : State := { s with now := x }
def State.setTcRun (s : State) (x : Bool) : State := { s with tcRun := x }
def State.setTcSaved (s : State) (x : BitVec 64) : State := { s with tcSaved := x }
def State.setSyncWait (s : State) (x : List Nat) : State := { s with syncWait := x }
def State.setFields (s : State) (x : List (Nat × Nat)) : State := { s with fields := x }
def State.setMem (s : State) (x : List (Nat × Nat)) : State := { s with mem := x }
def State.setMarks (s : State) (x : List (Nat × Bool)) : State := { s with marks := x }
def State.setBus (s : State) (x : Access) : State := { s with bus := x }
def State.setHeld (s : State) (x : List HeldAccess) : State := { s with held := x }
def State.setEvents (s : State) (x : List Ev) : State := { s with events := x }
def State.setReports (s : State) (x : List Report) : State := { s with reports := x }
def State.setTrigAt (s : State) (x : List TrigFly) : State := { s with trigAt := x }
def State.setTrim (s : State) (x : List Nat) : State := { s with trim := x }
def State.setCalGen (s : State) (x : Nat) : State := { s with calGen := x }
def State.setCalEnd (s : State) (x : Nat) : State := { s with calEnd := x }
def State.setPortWrites (s : State) (x : List PWrite) : State := { s with portWrites := x }
def State.setLatFlight (s : State) (x : List (Nat × Nat × Nat)) : State := { s with latFlight := x }
def State.setCut (s : State) (x : CutSt) : State := { s with cut := x }
def State.setLaneTest (s : State) (x : List (Nat × Nat)) : State := { s with laneTest := x }
def State.setGafQueue (s : State) (x : List GReq) : State := { s with gafQueue := x }
def State.setStarts (s : State) (x : List Start) : State := { s with starts := x }
def State.setZoneLast (s : State) (x : Nat × Nat) : State := { s with zoneLast := x }
def State.setSlateOut (s : State) (x : List SlateOut) : State := { s with slateOut := x }
def State.setEngIn (s : State) (x : List (Nat × Nat)) : State := { s with engIn := x }
def State.setEngTrigs (s : State) (x : List (Nat × Nat)) : State := { s with engTrigs := x }
def State.setEngNeg (s : State) (x : List (Nat × Nat)) : State := { s with engNeg := x }
def State.setReelQ (s : State) (x : List (Nat × Nat × Dy)) : State := { s with reelQ := x }
def State.setXfer (s : State) (x : Option Xfer) : State := { s with xfer := x }
def State.setPatrol (s : State) (x : Nat) : State := { s with patrol := x }
def State.setDdrCap (s : State) (x : Nat) : State := { s with ddrCap := x }
def State.setFlash (s : State) (x : FlashSt) : State := { s with flash := x }
def State.setRecs (s : State) (x : StoreSt) : State := { s with recs := x }
def State.setCtu (s : State) (x : CtuSt) : State := { s with ctu := x }
def State.setImage (s : State) (x : Nat × Nat) : State := { s with image := x }
def State.setGaf (s : State) (x : GafSt) : State := { s with gaf := x }
def State.setPower (s : State) (x : PowerSt) : State := { s with power := x }
def State.setOtp (s : State) (x : OtpSt) : State := { s with otp := x }
def State.setBoot (s : State) (x : BootSt) : State := { s with boot := x }
def State.setSec (s : State) (x : SecSt) : State := { s with sec := x }
def State.setLink (s : State) (x : LinkSt) : State := { s with link := x }
def State.setRushes (s : State) (x : List (Nat × RushSt)) : State := { s with rushes := x }
def State.setSets (s : State) (x : List (Nat × SetSt)) : State := { s with sets := x }
def State.setCmps (s : State) (x : List (Nat × CmpSt)) : State := { s with cmps := x }
def State.setSessions (s : State) (x : List (Nat × SessSt)) : State := { s with sessions := x }
def State.setFeedback (s : State) (x : List (Nat × PfSt)) : State := { s with feedback := x }
def State.setEmus (s : State) (x : List (Nat × EmuSt)) : State := { s with emus := x }
def State.setPorts (s : State) (x : List (Nat × PortSt)) : State := { s with ports := x }
def State.setEngines (s : State) (x : List (Nat × EngSt)) : State := { s with engines := x }
def State.setReels (s : State) (x : List (Nat × ReelSt)) : State := { s with reels := x }
def State.setBanks (s : State) (x : List (Nat × BankSt)) : State := { s with banks := x }
def State.setDmas (s : State) (x : List (Nat × DmaSt)) : State := { s with dmas := x }
def State.setCores (s : State) (x : List (Nat × CoreSt)) : State := { s with cores := x }
def State.setSerials (s : State) (x : List (Nat × SerialSt)) : State := { s with serials := x }
def State.setFree (s : State) (x : Nat) : State := { s with free := x }

/-- Rushes channels 0 to 31. -/
def State.rush (s : State) (k : Nat) : RushSt := Tab.get RushSt.atReset s.rushes k
def State.putRush (s : State) (k : Nat) (x : RushSt) : State := s.setRushes (Tab.set RushSt.atReset s.rushes k x)

/-- Sample sets SS00 to SS31. -/
def State.sampSet (s : State) (k : Nat) : SetSt := Tab.get SetSt.atReset s.sets k
def State.putSampSet (s : State) (k : Nat) (x : SetSt) : State := s.setSets (Tab.set SetSt.atReset s.sets k x)

/-- Comparators CMP00 to CMP31. -/
def State.cmp (s : State) (k : Nat) : CmpSt := Tab.get CmpSt.atReset s.cmps k
def State.putCmp (s : State) (k : Nat) (x : CmpSt) : State := s.setCmps (Tab.set CmpSt.atReset s.cmps k x)

/-- Slate session slots 0 to 2. -/
def State.session (s : State) (k : Nat) : SessSt := Tab.get SessSt.atReset s.sessions k
def State.putSession (s : State) (k : Nat) (x : SessSt) : State := s.setSessions (Tab.set SessSt.atReset s.sessions k x)

/-- Feedback channels PF00 to PF15. -/
def State.pf (s : State) (k : Nat) : PfSt := Tab.get PfSt.atReset s.feedback k
def State.putPf (s : State) (k : Nat) (x : PfSt) : State := s.setFeedback (Tab.set PfSt.atReset s.feedback k x)

/-- Encoder emulation outputs EMU0 to EMU3. -/
def State.emu (s : State) (k : Nat) : EmuSt := Tab.get EmuSt.atReset s.emus k
def State.putEmu (s : State) (k : Nat) (x : EmuSt) : State := s.setEmus (Tab.set EmuSt.atReset s.emus k x)

/-- Gate ports GP00 to GP95. -/
def State.port (s : State) (k : Nat) : PortSt := Tab.get PortSt.atReset s.ports k
def State.putPort (s : State) (k : Nat) (x : PortSt) : State := s.setPorts (Tab.set PortSt.atReset s.ports k x)

/-- Loop engines LE00 to LE23. -/
def State.eng (s : State) (k : Nat) : EngSt := Tab.get EngSt.atReset s.engines k
def State.putEng (s : State) (k : Nat) (x : EngSt) : State := s.setEngines (Tab.set EngSt.atReset s.engines k x)

/-- Reels RL00 to RL63. -/
def State.reel (s : State) (k : Nat) : ReelSt := Tab.get ReelSt.atReset s.reels k
def State.putReel (s : State) (k : Nat) (x : ReelSt) : State := s.setReels (Tab.set ReelSt.atReset s.reels k x)

/-- Banks BK00 to BK63 and mailboxes MB0 to MB3 (64 to 67). -/
def State.bank (s : State) (k : Nat) : BankSt := Tab.get BankSt.atReset s.banks k
def State.putBank (s : State) (k : Nat) (x : BankSt) : State := s.setBanks (Tab.set BankSt.atReset s.banks k x)

/-- DMA channels DM00 to DM15. -/
def State.dma (s : State) (k : Nat) : DmaSt := Tab.get DmaSt.atReset s.dmas k
def State.putDma (s : State) (k : Nat) (x : DmaSt) : State := s.setDmas (Tab.set DmaSt.atReset s.dmas k x)

/-- Cores SC0 to SC3, or C0 to C7 in SPLIT, with their Cues. -/
def State.core (s : State) (k : Nat) : CoreSt := Tab.get CoreSt.atReset s.cores k
def State.putCore (s : State) (k : Nat) (x : CoreSt) : State := s.setCores (Tab.set CoreSt.atReset s.cores k x)

/-- SPI0 to SPI7 (0 to 7), UART0 and UART1 (8, 9). -/
def State.serial (s : State) (k : Nat) : SerialSt := Tab.get SerialSt.atReset s.serials k
def State.putSerial (s : State) (k : Nat) (x : SerialSt) : State := s.setSerials (Tab.set SerialSt.atReset s.serials k x)

def State.setPending (s : State) (x : List Instr) : State := { s with pending := x }

end Sys2Proof.Machine
end

