-- ==== Sys2Proof/Machine/Ops.lean ====
section
/-! DEFINITION. The named operations on registers, memory, time, events and fault reports. -/

namespace Sys2Proof.Machine

/-- A bit range of a value. -/
def bits (v lo w : Nat) : Nat := v / 2 ^ lo % 2 ^ w

/-- The mask of the places of a list that satisfy `p`. -/
def maskOf {α : Type} (l : List α) (p : α → Bool) : Nat :=
  ((List.range l.length).map (fun i => if (l[i]?.map p).getD false then 2 ^ i else 0)).foldl (· + ·) 0

/-- One bit of a value. -/
def bitOf (v i : Nat) : Bool := v / 2 ^ i % 2 == 1

/-- The larger magnitude of wrap-around subtraction modulo 2^36 (stamps compare modulo 2^36). -/
def sub36 (a b : Nat) : Nat := (a + 2 ^ 36 - b % 2 ^ 36) % 2 ^ 36

/-- A value with its bits read as two's complement of width `w`. -/
def sgn (w v : Nat) : Int := if v % 2 ^ w < 2 ^ (w - 1) then (v % 2 ^ w : Nat) else (v % 2 ^ w : Nat) - (2 ^ w : Nat)

/-- The two's complement bits of an integer in width `w`. -/
def unsgn (w : Nat) (x : Int) : Nat := (x % (2 ^ w : Nat)).toNat

/-- An integer limited to a range. -/
def clampInt (lo hi x : Int) : Int := if x < lo then lo else if hi < x then hi else x

/-! ### Registers -/

/-- The value of a field. -/
def State.get (s : State) (r : FRef) : Nat := Tab.get resetKey s.fields r.key % 2 ^ r.w

/-- Set a field; what exceeds its width is cut off. -/
def State.put (s : State) (r : FRef) (v : Nat) : State :=
  s.setFields (Tab.set resetKey s.fields r.key (v % 2 ^ r.w))

/-- A one-bit field as a truth value. -/
def State.on (s : State) (r : FRef) : Bool := s.get r != 0

def State.putB (s : State) (r : FRef) (b : Bool) : State := s.put r (if b then 1 else 0)

/-- Add one, wrapping at the field's width. -/
def State.inc (s : State) (r : FRef) : State := s.put r (s.get r + 1)

/-- Add one, saturating at the field's greatest value. -/
def State.incSat (s : State) (r : FRef) : State := s.put r (min (s.get r + 1) (2 ^ r.w - 1))

/-- Set a field when a condition holds. -/
def State.putIf (s : State) (c : Bool) (r : FRef) (v : Nat) : State := if c then s.put r v else s

/-- The value a word returns to a read: write-only fields and reserved bits read zero (R4, R5). -/
def State.wordOf (s : State) (adr : Nat) (fl : List FSpec) : Nat :=
  match fl with
  | [] => 0
  | f :: t => (if f.acc = .wo then 0 else s.get ⟨adr, f.lo, f.w⟩ * 2 ^ f.lo) + s.wordOf adr t

/-- R4, R457: the effect of a write on one field: `own` is whether the writer owns the word, `lk` whether locked fields are
locked now. -/
def State.writeField (s : State) (adr v : Nat) (lk : Bool) (f : FSpec) : State :=
  let r : FRef := ⟨adr, f.lo, f.w⟩
  let x := bits v f.lo f.w
  if f.locked && lk then s else
  match f.acc with
  | .ro | .wo => s
  | .w1c => s.put r (s.get r &&& (2 ^ f.w - 1 - x))
  | .rw | .rws | .own => s.put r x

/-- R4, R5, R457: the effect of a write on every field of a word. -/
def State.writeFields (s : State) (adr v : Nat) (lk : Bool) (fl : List FSpec) : State :=
  fl.foldl (fun t f => t.writeField adr v lk f) s

/-- R457: a write carries a locked field with a value that differs from the stored one. -/
def State.lockedDiffers (s : State) (adr v : Nat) (fl : List FSpec) : Bool :=
  fl.any (fun f => f.locked && decide (bits v f.lo f.w ≠ s.get ⟨adr, f.lo, f.w⟩))

/-- The fields of a word of the map; none listed gives no field. -/
def fields! (adr : Nat) : List FSpec := (fieldsOf adr).getD []

/-- Write a whole control word under R4, R5 and R457, with the block's WREJ flag where the chapter names one. -/
def State.writeReg (s : State) (adr v : Nat) (lk : Bool) (wrej : Option FRef) : State :=
  let s' := s.writeFields adr v lk (fields! adr)
  if lk && s.lockedDiffers adr v (fields! adr) then
    match wrej with
    | some r => s'.put r 1
    | none => s'
  else s'

/-- The response of the access that a command makes. -/
def State.answer (s : State) (agent : Nat) (r : Resp) (hi lo : Nat) : State := s.setBus ⟨agent, r, hi, lo⟩

/-! ### Memory -/

/-- The word at an address of flash, a bank, a mailbox, reel or engine memory, or DDR4. -/
def State.rd (s : State) (a : Nat) : Nat := Tab.get memDefault s.mem a

/-- Store a word (R1: 36 bits). -/
def State.wr (s : State) (a v : Nat) : State := s.setMem (Tab.set memDefault s.mem a (v % 2 ^ 36))

/-- Store consecutive words. -/
def State.wrs (s : State) (a : Nat) (vs : List Nat) : State :=
  match vs with
  | [] => s
  | v :: t => (s.wr a v).wrs (a + 1) t

/-- Consecutive words. -/
def State.rds (s : State) (a n : Nat) : List Nat := (List.range n).map (fun i => s.rd (a + i))

/-- What the ECC meets at a word: `some false` a single-bit error, `some true` an uncorrectable one. -/
def State.markAt (s : State) (a : Nat) : Option Bool := (s.marks.find? (fun m => m.1 == a)).map (fun m => m.2)

def State.due (s : State) (a : Nat) : Bool := s.markAt a == some true
def State.single (s : State) (a : Nat) : Bool := s.markAt a == some false

/-- A word gets valid check bits. -/
def State.unmark (s : State) (a : Nat) : State := s.setMarks (s.marks.filter (fun m => m.1 != a))

/-- An error strikes a word. -/
def State.mark (s : State) (a : Nat) (hard : Bool) : State := (s.unmark a).setMarks (⟨a, hard⟩ :: (s.unmark a).marks)

/-- An error that has struck a word of a memory between `lo` and `hi`; none elsewhere. -/
def State.strike (s : State) (e : Option (Addr × Bool)) (lo hi : Nat) : State :=
  match e with
  | some (a, hard) => if lo ≤ a.toNat && a.toNat < hi then s.mark a.toNat hard else s
  | none => s

/-- Store a word with valid check bits. -/
def State.store (s : State) (a v : Nat) : State := (s.unmark a).wr a v

def State.stores (s : State) (a : Nat) (vs : List Nat) : State :=
  match vs with
  | [] => s
  | v :: t => (s.store a v).stores (a + 1) t

/-! ### Time, events, reports, free values -/

/-- Timecode as a number. -/
def State.t (s : State) : Nat := s.now.toNat

/-- The 36-bit stamp of the present tick. -/
def State.stamp (s : State) : Nat := s.t % 2 ^ 36

/-- R376, R389: `n` ms pass: the ages of the zone sensors saturate, and the watchdog's remaining time falls to 1, at which
WDOG_EXPIRY ends it. -/
def State.passMs (s : State) (n : Nat) : State :=
  let s1 := (List.range 4).foldl (fun u k => u.put (GAF.ZTEMP.AGE k) (min 0xFFFF (u.get (GAF.ZTEMP.AGE k) + n))) s
  if s.get SEC.WDSTAT.REM = 0 then s1 else s1.put SEC.WDSTAT.REM (max 1 (s.get SEC.WDSTAT.REM - n))

/-- Ticks of 1 ms (R9). -/
def msTicks : Nat := 1500000

/-- R18: timecode only ever moves on; an instant in the past changes nothing. At its highest count it stays (log 8). What counts in ms
counts at multiples of 1 ms. -/
def State.advanceTo (s : State) (t : Nat) : State :=
  let u := min t (2 ^ 64 - 1)
  if s.tcRun && decide (s.t < u) then
    let s1 := s.setNow (BitVec.ofNat 64 u)
    if u / msTicks = s.t / msTicks then s1 else s1.passMs (u / msTicks - s.t / msTicks)
  else s

/-- Let `n` ticks pass. -/
def State.elapse (s : State) (n : Nat) : State := s.advanceTo (s.t + n)

/-- Raise an event with a given stamp. -/
def State.raiseAt (s : State) (n stamp : Nat) : State := s.setEvents (s.events ++ [⟨n, some (stamp % 2 ^ 36), []⟩])

/-- Raise an event of a block that gives it no stamp: the Cue stamps it when it arrives (R241). -/
def State.raise (s : State) (n : Nat) : State := s.setEvents (s.events ++ [⟨n, none, []⟩])

/-- The stamp of an event where it arrives (R241, R324). -/
def State.evStamp (s : State) (e : Ev) : Nat := e.stamp.getD s.stamp

def State.raiseIf (s : State) (c : Bool) (n : Nat) : State := if c then s.raise n else s

/-- The oldest event that destination `d` has not seen and wants: 0 to 7 the Cues, 8 the recorder, 16 + n DMA channel n. -/
def State.nextEv (s : State) (d : Nat) (p : Nat → Bool) : Option Ev := s.events.find? (fun e => p e.num && !e.seen.contains d)

/-- Who must have seen event `num` before it is gone: the Cues, the recorder, and the DMA channels it starts (R260, R317). -/
def State.audience (s : State) (num : Nat) : List Nat :=
  List.range 9 ++ ((List.range 16).filter (fun n =>
    s.on (DMA.CTRL.EN n) && s.on (DMA.CTRL.TRG n) && s.get (DMA.CTRL.EVN n) == num)).map (16 + ·)

/-- Note in the first event equal to `e` that `d` has seen it. -/
def sawFirst (d : Nat) (e : Ev) (l : List Ev) : List Ev :=
  match l with
  | [] => []
  | x :: t => if x = e then { x with seen := d :: x.seen } :: t else x :: sawFirst d e t

/-- Destination `d` has seen event `e`; an event that all have seen is gone. -/
def State.sawEv (s : State) (d : Nat) (e : Ev) : State :=
  s.setEvents ((sawFirst d e s.events).filter (fun x => !(s.audience x.num).all x.seen.contains))

/-- R57: source numbers of triggers: event `k` of port `p`, compare unit `n`, comparator `n`. -/
def trigKeyPort (p k : Nat) : Nat := 1000 + 4 * p + k
def trigKeyTc (n : Nat) : Nat := 2000 + n
def trigKeyCmp (n : Nat) : Nat := 3000 + n

/-- R57: the source number of the trigger a set selects; none for software only and for numbers out of range. -/
def State.setSource (s : State) (n : Nat) : Option Nat :=
  let num := s.get (SS.CTRL.SRCNUM n)
  match s.get (SS.CTRL.SRC n) with
  | 1 => if num < 96 then some (trigKeyPort num (s.get (SS.CTRL.SRCEV n))) else none
  | 2 => if num < 16 then some (trigKeyTc num) else none
  | 3 => if num < 32 then some (trigKeyCmp num) else none
  | _ => none

/-- R56: a trigger is for the set: the set selects its source as its registers stand now. -/
def State.trigFor (s : State) (n : Nat) (e : TrigFly) : Bool := s.setSource n == some e.src && !e.seen.contains n

/-- R58: a trigger needs at most 7 ticks, 5 of crossing and 2 to register, to reach IS12. -/
def State.arrived (s : State) (e : TrigFly) : Bool := decide (e.at_ + 7 < s.t)

/-- R57: source `k` fires at instant `t`: a trigger sets out to IS12. One that has reached it and is for no set is gone. -/
def State.putTrig (s : State) (k t : Nat) : State :=
  s.setTrigAt (s.trigAt.filter (fun e =>
    !s.arrived e || (List.range 32).any (fun n => s.on (SS.CTRL.EN n) && s.trigFor n e)) ++ [⟨k, t, []⟩])

/-- R56, R57: the oldest trigger that is for a set. -/
def State.trig? (s : State) (n : Nat) : Option Nat := (s.trigAt.find? (s.trigFor n)).map TrigFly.at_

/-- The first trigger of a list that satisfies `p` arrives at set `n`. -/
def seeFirst (n : Nat) (p : TrigFly → Bool) (l : List TrigFly) : List TrigFly :=
  match l with
  | [] => []
  | e :: t => if p e then { e with seen := n :: e.seen } :: t else e :: seeFirst n p t

/-- The oldest trigger that is for a set arrives at it. -/
def State.takeTrig (s : State) (n : Nat) : State := s.setTrigAt (seeFirst n (s.trigFor n) s.trigAt)

/-- R56: the triggers that reached IS12 while they were not for the set, before a write changes what it selects. -/
def State.passTrigs (s : State) (n : Nat) : State :=
  s.setTrigAt (s.trigAt.map (fun e =>
    if s.arrived e && !(s.on (SS.CTRL.EN n) && s.trigFor n e) then { e with seen := n :: e.seen } else e))

/-- R293: hand a fault report to both halves of the Continuity Unit. -/
def State.report (s : State) (c : FaultCode) (elem info : Nat) : State :=
  s.setReports (s.reports ++ [⟨c, elem, info, false⟩])

/-- R405: an instruction of the TAP: the register it puts between TDI and TDO, and what that captures; EXTEST drives no longer. -/
def tapTo (r : TapReg) (captured : List Bool) (s : State) : State :=
  (s.put DBG.STATUS.TAP 1).setSec { s.sec with scan := [], tap := r, dr := captured }

/-- R295: report a Red fault of an element that is out already. -/
def State.reportAgain (s : State) (c : FaultCode) (elem info : Nat) : State :=
  s.setReports (s.reports ++ [⟨c, elem, info, true⟩])

/-- Count one free value as drawn. -/
def State.draw (s : State) : State := s.setFree (s.free + 1)

/-! ### Islands -/

/-- The power state of an island. -/
def State.island (s : State) (i : Nat) : Nat := s.get (ISL.STAT.STATE i)

/-- R20: the island's replica of timecode waits for a sync word: it stamps and schedules nothing. -/
def State.unsynced (s : State) (i : Nat) : Bool := s.syncWait.contains i

/-- R6, R8: whether the device runs unpaired. -/
def State.split (s : State) : Bool := s.on SYS.OPTIONS.SPLIT

/-- The island of a core; in SPLIT core c shares the island of core c − 4. -/
def coreIsland (c : Nat) : Nat := c % 4

/-- The cores of an island. -/
def State.islandCores (s : State) (i : Nat) : List Nat := if 4 ≤ i then [] else if s.split then [i, i + 4] else [i]

/-- R234: the clock of an island's cores runs from now on. -/
def clockSeen (i : Nat) (s : State) : State :=
  (s.islandCores i).foldl (fun u c => u.putCore c { u.core c with seen := u.t }) s

/-- R12: an island in Grey restarts its clock. -/
def islandRestart (i : Nat) (s : State) : State := if s.island i = 1 then (clockSeen i s).put (ISL.STAT.STATE i) 0 else s

/-- R12: an access reaches the island of its target: in Charcoal and Black it ends with BUS_MAP, in Grey the clock restarts
and the access completes. -/
def onIsland (i agent : Nat) (f : State → State) (s : State) : State :=
  if 2 ≤ s.island i then s.answer agent .busMap 0 0 else f (islandRestart i s)

/-- R296: element numbers. -/
def elCore (c : Nat) : Nat := 0x100 + c
def elEngine (e : Nat) : Nat := 0x200 + e
def elBank (b : Nat) : Nat := 0x300 + b
def elGroup (g : Nat) : Nat := 0x400 + g
def elPort (p : Nat) : Nat := 0x500 + p
def elFeedback (n : Nat) : Nat := 0x600 + n
def elReel (r : Nat) : Nat := 0x700 + r
def elIsland (i : Nat) : Nat := 0x800 + i

/-- R6: the owner IDs that are not reserved. -/
def validOwner (split : Bool) (o : Nat) : Bool :=
  decide (o ≤ 4) || (split && decide (o ≤ 8)) || (decide (0x10 ≤ o) && decide (o ≤ 0x27)) ||
    (decide (0x30 ≤ o) && decide (o ≤ 0x3F)) || (decide (0x40 ≤ o) && decide (o ≤ 0x44))

/-- R6: owner IDs of agents. -/
def ownCore (c : Nat) : Nat := 1 + c
def ownEngine (e : Nat) : Nat := 0x10 + e
def ownDma (n : Nat) : Nat := 0x30 + n
def ownHost : Nat := 0x40
def ownRushes : Nat := 0x41
def ownFlash : Nat := 0x42
def ownSecurity : Nat := 0x43
def ownDebug : Nat := 0x44

end Sys2Proof.Machine
end

