-- ==== Sys2Proof/Machine/Claims.lean ====
section
/-! DEFINITION. Resource claims and features (R30 to R35). -/

namespace Sys2Proof.Machine

/-- R30: the resource IDs that exist. -/
def resourceExists (r : Nat) : Bool :=
  let i := r % 0x100
  match r / 0x100 with
  | 1 => decide (i < 0x60)
  | 2 => decide (i < 0x40) && decide (i % 4 < 3)
  | 3 => decide (i < 4)
  | 4 => decide (i < 0x40)
  | 5 | 6 | 7 => decide (i < 0x10)
  | 8 => decide (i < 8) || i == 0x10 || i == 0x11 || (decide (0x20 ≤ i) && decide (i < 0x24))
  | 9 => true
  | _ => false

/-- R34: a claim word is free exactly when its OWNER is 0x00. -/
def State.claimFree (s : State) (r : Nat) : Bool := s.get (SYS.CLM.OWNER r) == 0

/-- R31: the resource is held by another feature or by a direct claim. -/
def State.claimBlocked (s : State) (f r : Nat) : Bool := !s.claimFree r && s.get (SYS.CLM.FEATURE r) != f

/-- Write one claim word. -/
def State.claim (s : State) (owner f r : Nat) : State := (s.put (SYS.CLM.OWNER r) owner).put (SYS.CLM.FEATURE r) f

def State.claimAll (s : State) (owner f : Nat) (rs : List Nat) : State := rs.foldl (fun t r => t.claim owner f r) s

/-- R33: release one claim word that the feature holds. -/
def State.unclaim (s : State) (f r : Nat) : State :=
  if !s.claimFree r && s.get (SYS.CLM.FEATURE r) == f then (s.put (SYS.CLM.OWNER r) 0).put (SYS.CLM.FEATURE r) 0 else s

/-- The state word of a feature: 0 OFF, 1 ON, 2 CONFLICT. -/
def State.putFeature (s : State) (f st cres holder : Nat) : State :=
  ((s.put (SYS.FST.STATE f) st).put (SYS.FST.CRES f) cres).put (SYS.FST.HOLDER f) holder

/-- R31: the lowest resource that stands in the way of an enable (`rs` in ascending order). -/
def State.conflict? (s : State) (f : Nat) (rs : List Nat) : Option Nat := rs.find? (s.claimBlocked f)

/-- R31: enable a feature: claim every resource it needs, or none. -/
def State.enableFeature (s : State) (agent f : Nat) (rs : List Nat) : State :=
  match s.conflict? f rs with
  | none => (s.claimAll agent f rs).putFeature f 1 0 0
  | some r => s.putFeature f 2 r (s.get (SYS.CLM.FEATURE r))

/-- R31: whether the enable passes. -/
def State.enablePasses (s : State) (f : Nat) (rs : List Nat) : Bool := (s.conflict? f rs).isNone

/-- R33: disable a feature: release all its claims. -/
def State.disableFeature (s : State) (f : Nat) (rs : List Nat) : State :=
  (rs.foldl (fun t r => t.unclaim f r) s).putFeature f 0 0 0

/-- R31: a disabling write to a feature that is not on ends the CONFLICT of its last enable. -/
def State.dropConflict (s : State) (f : Nat) : State := if s.get (SYS.FST.STATE f) = 2 then s.putFeature f 0 0 0 else s

/-- R30, R33, R34, R7: a write of `new` to the OWNER field of a claim word. -/
def claimWrite (agent r new : Nat) (s : State) : State :=
  let old := s.get (SYS.CLM.OWNER r)
  if !resourceExists r then s.answer agent .ok 0 0
  else if old != 0 && (s.get (SYS.CLM.FEATURE r) != 0xFFF || agent != old) then s.answer agent .busOwn 0 0
  else if !validOwner s.split new then s.answer agent .ok 0 0
  else (s.claim new (if new == 0 then 0 else 0xFFF) r).answer agent .ok 0 0

/-- R35, R29: whether a write to a DDR4 word by an agent is refused by the claim of its region. -/
def State.ddrRefuses (s : State) (agent adr : Nat) : Bool :=
  let o := s.get (SYS.CLM.OWNER (0x900 + bits adr 23 8))
  o != 0 && o != agent

end Sys2Proof.Machine
end

