-- ==== Sys2Proof/Machine/RushOps.lean ====
section
/-! DEFINITION. How an update of a source reaches the rushes recorder, and how a channel takes a trigger (R320 to R324). -/

namespace Sys2Proof.Machine

/-- The nearest integer to n / d; halves go away from zero. -/
def roundAway (n : Int) (d : Nat) : Int :=
  if 0 ≤ n then (2 * n + d) / (2 * d) else -((2 * (-n) + d) / (2 * d))

/-- R321: RLOG with its limits. -/
def State.rushLog (s : State) (c : Nat) : Nat := max 4 (min 22 (s.get (RUSH.RING.RLOG c)))

/-- R322: queue one kept record, or drop it when 64 wait. R360: while DDR4 stands in FAILED the queues drop their records, which
CNT.DROP does not count: it counts what finds a queue full. -/
def rushKeep (c : Nat) (v : Int) (stamp : Nat) (s : State) : State :=
  let r := s.rush c
  if s.get DDR.STATUS.STATE = 3 then s.putRush c { r with count := 0, sum := 0 }
  else if r.queue.length < 64 then s.putRush c { r with queue := r.queue ++ [(v, stamp)], count := 0, sum := 0 }
  else (s.incSat (RUSH.CNT.DROP c)).putRush c { r with count := 0, sum := 0 }

/-- R321: one update in D is kept; with AVG the mean of the D values. -/
def rushUpdate (c : Nat) (v : Int) (stamp : Nat) (s : State) : State :=
  let r := s.rush c
  let d := s.get (RUSH.CTRL.DEC c) + 1
  if r.count + 1 < d then s.putRush c { r with count := r.count + 1, sum := r.sum + v }
  else rushKeep c (if s.on (RUSH.CTRL.AVG c) then roundAway (r.sum + v) d else v) stamp s

/-- R323: the states in which a channel records: FILL, ARMED and POST. -/
def State.rushRecords (s : State) (c : Nat) : Bool :=
  let st := s.get (RUSH.STATUS.STATE c)
  (s.rush c).on && (st == 1 || st == 2 || st == 3)

/-- R320: the SEL bits that name a source of each KIND. -/
def rushSelMask (kind : Nat) : Nat :=
  match kind with
  | 1 => 0x1F0F
  | 2 => 0x1F03FF
  | 3 => 0x7F03
  | 4 => 0x7F00
  | 5 => 0xF07
  | _ => 0

/-- R320: offer an update of a source (its KIND and its SEL) to every channel that records it. -/
def rushOffer (kind sel : Nat) (v : Int) (stamp : Nat) (s : State) : State :=
  (s.rushes.map (fun e => e.1)).foldl
    (fun t c => if t.rushRecords c && t.get (RUSH.SRC.KIND c) == kind && (t.get (RUSH.SRC.SEL c) &&& rushSelMask kind) == sel
      then rushUpdate c v stamp t else t) s

/-- R323: a channel enters FROZEN. -/
def rushFreeze (c : Nat) (s : State) : State :=
  ((s.put (RUSH.STATUS.STATE c) 4).putRush c { s.rush c with queue := [], count := 0, sum := 0 }).raise (288 + c)

/-- R323: a channel meets a trigger: an armed one accepts it and enters POST; in FILL and POST it is counted. `stamp` is what the
trigger brings (R324); one without a stamp takes the tick, and TSTAMP keeps what it holds while the island waits for its sync word and
stamps nothing (R20; DESIGN CHOICE, log 136). -/
def rushTrigger (c : Nat) (stamp : Option Nat) (s : State) : State :=
  match s.get (RUSH.STATUS.STATE c) with
  | 2 =>
    let s1 := (s.put (RUSH.TSTAMP.TSTAMP c) (stamp.getD (if s.unsynced 27 then s.get (RUSH.TSTAMP.TSTAMP c) else s.stamp))).put (RUSH.TIDX.TIDX c) (s.get (RUSH.WPTR.WPTR c))
    let s2 := (s1.put (RUSH.STATUS.STATE c) 3).putRush c { s1.rush c with post := 0 }
    if s.get (RUSH.POST.POST c) = 0 then rushFreeze c s2 else s2
  | 1 | 3 => s.incSat (RUSH.CNT.TIGN c)
  | _ => s

/-- R324: every channel whose TRIG satisfies `p` meets the trigger. -/
def rushTriggerAll (p : State → Nat → Bool) (stamp : Option Nat) (s : State) : State :=
  (s.rushes.map (fun e => e.1)).foldl (fun t c => if p t c then rushTrigger c stamp t else t) s

end Sys2Proof.Machine
end

