-- ==== Sys2Proof/Machine/Zone.lean ====
section
/-! DEFINITION. Requests to the Gaffer and the zone ledger's committed current (R374 to R377). -/

namespace Sys2Proof.Machine

/-- R377: what STAT.PEND of an island shows: 0 no request, 1 queued, 2 held beyond the 64 entries. -/
def pendCode (q : List GReq) (i : Nat) : Nat :=
  match q.findIdx? (fun r => r.source == i) with
  | none => 0
  | some k => if k < 64 then 1 else 2

/-- R377: the queue's count, the requests held beyond its 64 entries, and PEND of the islands. -/
def State.queueStat (s : State) : State :=
  let q := s.gafQueue
  (List.range 32).foldl (fun t i => t.put (ISL.STAT.PEND i) (pendCode q i))
    ((s.put GAF.QSTAT.QCNT (min 64 q.length)).put GAF.QSTAT.HELD (q.length - 64))

/-- R377: each source holds at most one request. -/
def State.request (s : State) (r : GReq) : State :=
  if s.gafQueue.any (fun q => q.source == r.source) then s
  else (s.setGafQueue (s.gafQueue ++ [r])).queueStat

def State.unrequest (s : State) (source : Nat) : State :=
  (s.setGafQueue (s.gafQueue.filter (fun q => q.source != source))).queueStat

/-- R377: the source number of a port. -/
def portSource (p : Nat) : Nat := 32 + p

/-- R179: a start request of a port for its class. -/
def zoneRequest (p : Nat) (s : State) : State :=
  s.request ⟨true, portSource p, s.get (GAF.CLS.PRIO (s.get (GP.SAFE.SCLS p))), s.t, false, 0⟩

/-- R374: the current a start holds in the ledger now, in units of 10 mA (IPK and IRUN are in units of 0.1 A). -/
def Start.current (x : Start) : Nat := 10 * (if x.excess then x.irun else x.ipk)

/-- R374: the committed current C is the sum over the starts granted and not yet ended by a disable. -/
def State.zoneC (s : State) : Nat := (s.starts.map Start.current).foldl (· + ·) 0

/-- R376: the temperature a used sensor counts with. -/
def State.zoneTemp (s : State) (i : Nat) : Int :=
  if s.get (GAF.ZTEMP.AGE i) ≤ s.get GAF.ZTHERM.MAXAGE then sgn 8 (s.get (GAF.ZTEMP.TEMP i)) else sgn 8 (s.get GAF.ZTHERM.TFALL)

/-- R376: the temperatures of the used sensors. -/
def State.zoneTemps (s : State) : List Int := ((List.range 4).filter (fun i => s.on (GAF.ZTEMP.USED i))).map s.zoneTemp

/-- R376: IZeff in units of 10 mA, rounded down. -/
def State.izEff (s : State) : Nat :=
  let iz := s.get GAF.ZSUP.IZ
  match s.zoneTemps with
  | [] => iz
  | x :: t =>
    let excess := (t.foldl max x) - sgn 8 (s.get GAF.ZTHERM.TDER)
    let cut : Int := 1000 - (s.get GAF.ZTHERM.KDER : Int) * max 0 excess
    iz * (max 250 cut).toNat / 1000

/-- R376: a used sensor counts with TFALL. -/
def State.zoneStale (s : State) : Bool :=
  (List.range 4).any (fun i => s.on (GAF.ZTEMP.USED i) && decide (s.get GAF.ZTHERM.MAXAGE < s.get (GAF.ZTEMP.AGE i)))

/-- R375, R376: the ledger registers follow C, the supply and the sensors. -/
def State.zoneRefresh (s : State) : State :=
  let c := s.zoneC
  let z := s.izEff
  (((s.put GAF.ZLEDGER.COMMIT c).put GAF.ZLEDGER.IZEFF z).putB GAF.STATUS.ZOVER (decide (z < c))).putB GAF.STATUS.STALE s.zoneStale

/-- R374: a port leaves the ledger, and its request leaves the queue. -/
def zoneLeave (p : Nat) (s : State) : State :=
  ((s.unrequest (portSource p)).setStarts (s.starts.filter (fun x => x.port != p))).zoneRefresh

/-- R374: the CUT latch sets: C becomes zero and every start ends. -/
def zoneCut (s : State) : State := (s.setStarts []).zoneRefresh

end Sys2Proof.Machine
end

