-- ==== Sys2Proof/Machine/PortOps.lean ====
section
/-! DEFINITION. The shared operations of the gate ports: level, balls and dead time, holds, period and load points, compare
writes, leads and grants (R45, R46, R153 to R171, R179, R180). -/

namespace Sys2Proof.Machine

/-! ### Which port times a ball -/

/-- R153: an even port whose pair stands. -/
def State.pairStands (s : State) (p : Nat) : Bool :=
  p % 2 == 0 && s.on (GP.CTRL.PAIR p) && s.on (GP.CTRL.EN p)

/-- The balls that a port drives. -/
def State.ballsOf (s : State) (p : Nat) : List Nat := if s.pairStands p then [p, p + 1] else [p]

/-- R161: the port that owns a ball's timing. -/
def State.timerOf (s : State) (q : Nat) : Nat := if q % 2 == 1 && s.get (GP.STATUS.STATE q) == 3 then q - 1 else q

/-! ### Holds (R169) -/

/-- R169: some hold keeps the ball at its safe level. A LOST of the port that times the ball holds both balls of a pair. -/
def State.held? (s : State) (q : Nat) : Bool :=
  s.get (GP.STATUS.STATE (s.timerOf q)) != 2 || s.on (GP.STATUS.HCUT q) || s.on (GP.STATUS.HTRIP q) ||
    s.on (GP.STATUS.HLATCH q) || s.on (GP.STATUS.HCYC q) || s.on (GP.STATUS.HRED q) || s.on (GP.STATUS.LOST q) ||
    s.on (GP.STATUS.LOST (s.timerOf q))

/-- A hold begins: the pin goes to its safe level and follows nothing until it is resumed (R170). What happened before at this
subtick stands. -/
def forceSafe (q : Nat) (s : State) : State :=
  let s1 := (s.put (GP.STATUS.SAFED q) 1).putPort q { s.port q with follow := false }
  s1.putPort (s.timerOf q) { s1.port (s.timerOf q) with was := none }

def forceSafeIfHeld (q : Nat) (s : State) : State := if s.held? q then forceSafe q s else s

/-- R71, R73: a trip lane of some comparator drives the group. -/
def State.groupTripped (s : State) (g : Nat) : Bool := s.cmps.any (fun e => bitOf e.2.lanes g)

/-- R73: a CYCLE gate still holds the group after its trip fell. -/
def State.groupGated (s : State) (g : Nat) : Bool := s.cmps.any (fun e => e.2.gates.any (fun x => x.1 == g))

/-- The eight ports of a group. -/
def groupPorts (g : Nat) : List Nat := (List.range 8).map (fun i => 8 * g + i)

/-- R169: bring the holds of a group's ports up to date with the group's lanes, latch and RED. -/
def refreshGroup (g : Nat) (s : State) : State :=
  let s1 := s.putB (PG.GSTAT.TRIP g) (s.groupTripped g)
  (groupPorts g).foldl (fun t q =>
    forceSafeIfHeld q
      (((t.putB (GP.STATUS.HTRIP q) (s.groupTripped g || s.groupGated g)).put (GP.STATUS.HLATCH q)
        (s.get (PG.GSTAT.TRIPL g))).put (GP.STATUS.HRED q) (s.get (PG.GSTAT.RED g)))) s1

/-- R16, R171: a fault takes the group out: it goes Red and its ports go safe; one that is out already is told of only (R295). -/
def groupRed (g : Nat) (code : FaultCode) (s : State) : State :=
  if s.on (PG.GSTAT.RED g) then s.reportAgain code (elGroup g) 0
  else refreshGroup g ((s.report code (elGroup g) 0).put (PG.GSTAT.RED g) 1)

/-! ### Levels, balls, dead time -/

/-- What a port puts on its pin: 0 low, 1 high, 2 high impedance. While SAFED stands it is the safe level of R168, where 3 acts as
HIZ; a ball of a pair that waits out its dead time after a resumption keeps SAFED (R170). -/
def State.portPin (s : State) (q : Nat) : Nat :=
  if s.on (GP.STATUS.SAFED q) then min 2 (s.get (GP.SAFE.SAFE q)) else if (s.port q).ball then 1 else 0

/-- R98: the level that an encoder emulation output drives at a ball: A at GP(88 + 2k), B at GP(89 + 2k), A leading B upward; none
where no output has the ball, or a hold of R169 keeps all ports or its group safe. -/
def State.emuPin (s : State) (q : Nat) : Option Nat :=
  let k := (q - 88) / 2
  let p := (s.emu k).phase
  if q < 88 ∨ 96 ≤ q ∨ !s.on (EMU.CTRL.EN k) ∨ s.on (GP.STATUS.HCUT q) ∨ s.on (GP.STATUS.HTRIP q) ∨
      s.on (GP.STATUS.HLATCH q) ∨ s.on (GP.STATUS.HRED q) then none
  else if q % 2 = 0 then some (if p = 1 ∨ p = 2 then 1 else 0)
  else some (if p = 2 ∨ p = 3 then 1 else 0)

/-- What stands at a pin: that of an encoder emulation output, or of the port. -/
def State.pinLevel (s : State) (q : Nat) : Nat := (s.emuPin q).getD (s.portPin q)

/-- The level a ball shows to what comes next: of a ball that follows its level, what stands at the pin; of one that is held, the
level that the port island places (R69). High impedance is neither level (DESIGN CHOICE, log 106). -/
def State.shown (s : State) (q : Nat) : Nat :=
  if (s.port q).follow then s.portPin q else if (s.port q).ball then 1 else 0

/-- R69: the edges that a comparator can still hear of: the last four. -/
def addEdge (b : PortSt) (t : Nat) (up : Bool) (fix : Nat) : PortSt :=
  { b with edges := (b.edges ++ [(t, up, fix)]).drop (b.edges.length + 1 - 4), lastTr := some t }

/-- The ball takes a level; a pin that follows it leaves its safe level. -/
def takeBall (q : Nat) (v : Bool) (s : State) : State :=
  (s.putIf (s.port q).follow (GP.STATUS.SAFED q) 0).putPort q { s.port q with ball := v }

/-- R161: place a transition, fixed in tick `fix`, at a ball at a subtick; one that comes within 64 subticks of the last is held. -/
def placeBall (q : Nat) (v : Bool) (t fix : Nat) (s : State) : State :=
  let b := s.port q
  let close := match b.lastTr with
    | some l => decide (t < l + 64)
    | none => false
  let same := s.shown q == (if v then 1 else 0)
  if b.merge.isSome || (close && !same) then
    (s.put (GP.STATUS.MERGE (s.timerOf q)) 1).putPort q
      { b with merge := some ((b.lastTr.getD 0) + 64, v), mergeFix := if b.merge.isSome then max b.mergeFix fix else fix }
  else
    let s1 := takeBall q v s
    if same then s1 else s1.putPort q (addEdge (s1.port q) t v fix)

/-- The dead times in force, in subticks. -/
def State.dtr (s : State) (p : Nat) : Nat := bits (s.port p).dt 18 18
def State.dtf (s : State) (p : Nat) : Nat := bits (s.port p).dt 0 18

/-- R165: the pair's balls at a rise (`v`) or a fall of the even port's level. -/
def pairTurn (p : Nat) (v : Bool) (t fix : Nat) (s : State) : State :=
  if v then
    let s1 := s.putPort (p + 1) { s.port (p + 1) with rise := none }
    let s2 := placeBall (p + 1) false t fix s1
    s2.putPort p { s2.port p with rise := some (t + s.dtr p), riseFix := fix }
  else
    let s1 := s.putPort p { s.port p with rise := none }
    let s2 := placeBall p false t fix s1
    s2.putPort (p + 1) { s2.port (p + 1) with rise := some (t + s.dtf p), riseFix := fix }

/-- The logical level takes a value at a subtick, fixed in tick `fix`, and the balls follow it. -/
def setLevel (p : Nat) (v : Bool) (t fix : Nat) (s : State) : State :=
  if (s.port p).level == v then s else
  let s1 := s.putPort p { s.port p with level := v }
  if s.pairStands p then pairTurn p v t fix s1 else placeBall p v t fix s1

/-- R160: an action applied to a level: 0 none, 1 high, 2 low, 3 toggle. -/
def actOn (a : Nat) (l : Bool) : Bool :=
  match a with
  | 1 => true
  | 2 => false
  | 3 => !l
  | _ => l

/-- R160: at a down occurrence high and low change places. -/
def mirror (a : Nat) : Nat :=
  match a with
  | 1 => 2
  | 2 => 1
  | x => x

/-- What stands at a ball. -/
def State.ballSt (s : State) (q : Nat) : BallSt :=
  let b := s.port q
  ⟨b.ball, b.lastTr, b.merge, b.rise, b.mergeFix, b.riseFix, b.edges, b.follow, s.on (GP.STATUS.SAFED q)⟩

/-- A ball as it was. -/
def putBallSt (q : Nat) (x : BallSt) (s : State) : State :=
  (s.putB (GP.STATUS.SAFED q) x.safed).putPort q
    { s.port q with
      ball := x.ball, lastTr := x.lastTr, merge := x.merge, rise := x.rise, mergeFix := x.mergeFix, riseFix := x.riseFix,
      edges := x.edges, follow := x.follow }

/-- An action in its place in the order of R160. -/
def actInsert (x : Nat × Nat × Nat) : List (Nat × Nat × Nat) → List (Nat × Nat × Nat)
  | [] => [x]
  | y :: t => if x.1 < y.1 then x :: y :: t else y :: actInsert x t

/-- R69: the tick that fixed what several actions of one subtick leave: the latest of those that act. -/
def actsFix (l : List (Nat × Nat × Nat)) : Nat := l.foldl (fun m a => if a.2.1 = 0 then m else max m a.2.2) 0

/-- R170: a ball resumes at a subtick, its edge fixed long ahead (DESIGN CHOICE, log 135): in a pair, the one whose level is high keeps its safe level through its dead time; every
other ball takes its level. -/
def resumeBall (p q t : Nat) (s : State) : State :=
  let l := (s.port p).level
  let hi := if q = p then l else !l
  let b := s.port q
  if s.pairStands p && hi then
    s.putPort q { b with
      follow := true, ball := false, merge := none, lastTr := none, riseFix := 0,
      rise := some (t + (if q = p then s.dtr p else s.dtf p)) }
  else
    let s1 := s.putPort q { b with follow := true, merge := none, rise := none, lastTr := none }
    placeBall q hi t 0 s1

/-- R165: the dead-time rise that a ball waits for comes at a subtick. -/
def riseBall (q t : Nat) (s : State) : State :=
  if (s.port q).rise == some t then placeBall q true t (s.port q).riseFix (s.putPort q { s.port q with rise := none }) else s

/-- R161: the occurrences held at a ball end at a subtick. -/
def endMerge (q t : Nat) (s : State) : State :=
  match (s.port q).merge with
  | some (e, v) => if e = t then placeBall q v t (s.port q).mergeFix (s.putPort q { s.port q with merge := none }) else s
  | none => s

/-- R160: of what happens at one subtick only the level after the last action stands. The port is brought back to what it was
before that subtick, and what has happened at it so far takes effect at once: the actions in order, resumptions, dead-time rises
that the level has not undone, and ends of held occurrences. -/
def replay (p : Nat) (w : Was) (s : State) : State :=
  let s1 := putBallSt p w.own (s.putPort p { s.port p with level := w.level })
  let s2 := if s.pairStands p then putBallSt (p + 1) w.other s1 else s1
  let s3 := setLevel p (w.acts.foldl (fun l a => actOn a.2.1 l) w.level) w.at_ (actsFix w.acts) s2
  let s4 := w.back.foldl (fun u q => resumeBall p q w.at_ u) s3
  w.ended.foldl (fun u q => endMerge q w.at_ u) (w.risen.foldl (fun u q => riseBall q w.at_ u) s4)

/-- One more thing happens to a port at a subtick; the first one of a subtick records what stood before it. -/
def atSubtick (p t : Nat) (f : Was → Was) (s : State) : State :=
  let fresh : Was := ⟨t, (s.port p).level, s.ballSt p, s.ballSt (p + 1), [], [], [], []⟩
  let w := f (match (s.port p).was with
    | none => fresh
    | some w => if w.at_ == t then w else fresh)
  replay p w (s.putPort p { s.port p with was := some w })

/-- R160: an occurrence at a subtick, fixed in tick `fix` (R69), applies its action; `ord` is its place in the order of R160. -/
def applyAct (p ord a t fix : Nat) (s : State) : State :=
  atSubtick p t (fun w => { w with acts := actInsert (ord, a, fix) w.acts }) s

/-- R170: after the last hold of a ball has ended, its pin follows the logical level again. -/
def resumePort (p q t : Nat) (s : State) : State := atSubtick p t (fun w => { w with back := w.back ++ [q] }) s

/-! ### Compares in force and load points -/

/-- The value of the coming load interval takes its place. -/
def comeOne (p x : Nat) (s : State) : State :=
  let b := s.port p
  match b.coming.getD x none with
  | none => s
  | some h =>
    s.putPort p { b with
      cmpF := b.cmpF.set x h.v, coming := b.coming.set x none, placed := b.placed.set x h.late, fixAt := b.fixAt.set x h.fix }

/-- Load one compare's shadow. -/
def loadOne (p x tick : Nat) (all : Bool) (s : State) : State :=
  let b := s.port p
  match b.shadow.getD x none with
  | none => s
  | some h =>
    if all || decide (h.from_ ≤ tick) then
      s.putPort p { b with
        cmpF := b.cmpF.set x h.v, shadow := b.shadow.set x none, placed := b.placed.set x none, fixAt := b.fixAt.set x h.fix }
    else s

/-- R163: at a load point a new load interval begins: the values placed for it govern, and the shadows whose turn it is load. A value
that goes on has its edges fixed by its write still (R69). -/
def loadPoint (p tick : Nat) (s : State) : State :=
  let s1 := s.putPort p { s.port p with placed := [none, none, none, none], fired := [] }
  [0, 1, 2, 3].foldl (fun t x => loadOne p x tick false (comeOne p x t)) s1

/-- R156: every value waiting in a shadow loads at once. -/
def loadAll (p : Nat) (s : State) : State :=
  let s1 := [0, 1, 2, 3].foldl (fun t x => loadOne p x 0 true (comeOne p x t)) s
  s1.putPort p { s1.port p with placed := [none, none, none, none], fixAt := [0, 0, 0, 0], fired := [] }

/-- R158: the period as it acts: at least 60 ticks, bit 0 ignored in UPDOWN mode. -/
def effPeriod (updown : Bool) (v : Nat) : Nat := if updown then max 60 v / 2 * 2 else max 60 v

def State.updown (s : State) (p : Nat) : Bool := s.on (GP.CTRL.MODE p)

/-- R158: one timing write takes effect. -/
def PortSt.apply (b : PortSt) (w : TimWrite) : PortSt :=
  match w.which with
  | 0 => { b with per := w.v }
  | 1 => { b with act := w.v }
  | 2 => { b with dt := w.v }
  | k => { b with evt := b.evt.set (k - 3) w.v }

/-- R158: the timing writes that reached the island at least 8 ticks before a period start take effect at it. -/
def applyTiming (p tick : Nat) (s : State) : State :=
  let b := s.port p
  let b1 := (b.timing.filter (fun w => decide (w.at_ + 8 ≤ tick))).foldl PortSt.apply b
  s.putPort p { b1 with timing := b.timing.filter (fun w => !decide (w.at_ + 8 ≤ tick)) }

/-- The period that governs the interval from a period start on. -/
def State.periodAt (s : State) (p tick : Nat) : Nat :=
  let b := s.port p
  effPeriod (s.updown p) ((b.timing.filter (fun w => decide (w.at_ + 8 ≤ tick))).foldl PortSt.apply b).per

/-- R163, R159: the subtick at which a compare value places its edge in a load interval, and the interval's end where
it places none: `start` the period start, `per` the period, `down` the down half. -/
def occInstant (updown down : Bool) (start per v : Nat) : Nat :=
  if updown then
    if down then (if 0 < v && decide (v ≤ per * 32) then start * 64 + per * 64 - v else start * 64 + per * 64)
    else (if v < per * 32 then start * 64 + v else start * 64 + per * 32)
  else if v < per * 64 then start * 64 + v else start * 64 + per * 64

/-- R159: whether the occurrence exists. -/
def occExists (updown down : Bool) (per v : Nat) : Bool :=
  if updown then (if down then 0 < v && decide (v ≤ per * 32) else decide (v < per * 32)) else decide (v < per * 64)

/-- R48: the latency of a compare write that arrives at tick `w`; free in a port island that does not know the tick (R20;
DESIGN CHOICE, log 136). A bus write brings the tick of its arrival with it, whichever that is (R156). -/
def State.latOf (s : State) (p stamp w eng : Nat) : Nat :=
  if s.unsynced (17 + p / 48) && decide (0x10 ≤ eng) && decide (eng < 0x28) then Config.freeValue s.free % 2 ^ 16
  else min 65535 (sub36 (w + 2) stamp)

/-- R48: record a compare write in LAT, offer it to the recorder, and send it back to the engine that wrote it (R49). -/
def latRecord (p x v stamp w eng : Nat) (rev late deferred : Bool) (s0 : State) : State :=
  let l := s0.latOf p stamp w eng
  let s := if s0.unsynced (17 + p / 48) then s0.draw else s0
  let s1 := (((((s.inc (GP.LAT.SEQ p)).putB (GP.LAT.REV p) rev).putB (GP.LAT.LATE p) late).putB (GP.LAT.DEF p) deferred).put
    (GP.LAT.EDGE p) x).put (GP.LAT.LAT p) l
  let word := s1.wordOf (GP.LAT.adr p) (fields! (GP.LAT.adr p))
  let s2 := rushOffer 3 (p * 256 + x) v (stamp % 2 ^ 36) s1
  let s3 := rushOffer 4 (p * 256) (sgn 36 word) (stamp % 2 ^ 36) s2
  if 0x10 ≤ eng && eng < 0x28 then s3.setLatFlight (s3.latFlight ++ [(eng - 0x10, p, word)]) else s3

/-- R163: the load interval that a write arriving at tick `w` affects: whether it is the present one, its period start, whether
it is a down half, and its period. -/
def State.affected (s : State) (p w : Nat) : Bool × Nat × Bool × Nat :=
  let b := s.port p
  let ud := s.updown p
  let per := effPeriod ud b.per
  let up := ud && !b.down
  let lp := if up then b.start + per / 2 else b.next
  if w + 3 < lp then (true, b.start, b.down, per)
  else if up then (false, b.start, true, per)
  else (false, b.next, false, s.periodAt p b.next)

/-- R45, R163: the value of a compare in force in the interval that a write affects, and where that was placed late. -/
def State.inForce (s : State) (p x : Nat) (here : Bool) : Nat × Option Nat :=
  let b := s.port p
  match (if here then none else b.coming.getD x none) with
  | some h => (h.v, h.late)
  | none => (b.cmpF.getD x 0, if here then b.placed.getD x none else none)

/-- A value written at tick `w` governs a compare in the present load interval, or from the coming one on. -/
def keepCompare (p x v w : Nat) (here : Bool) (late : Option Nat) (s : State) : State :=
  let b := s.port p
  s.putPort p
    (if here then
      { b with cmpF := b.cmpF.set x v, placed := b.placed.set x late, shadow := b.shadow.set x none,
               fixAt := b.fixAt.set x w }
    else { b with coming := b.coming.set x (some ⟨v, late, w⟩), shadow := b.shadow.set x none })

/-- A value written at tick `w` waits in the shadow for the first load point at or after a tick. -/
def shadowCompare (p x v w from_ : Nat) (s : State) : State :=
  s.putPort p { s.port p with shadow := (s.port p).shadow.set x (some ⟨v, from_, w⟩) }

/-- R45, R46, R156, R163: a compare write arrives at the port island at tick `w` with a value in subticks. An island that waits for
its sync word schedules nothing (R20): it stores the value. -/
def compareWrite (p x v stamp w eng : Nat) (rev : Bool) (s : State) : State :=
  let s0 := s.put (GP.CMPX.CMP p x) v
  let b := s.port p
  if !b.started || s.get (GP.STATUS.STATE p) != 2 || s.unsynced (17 + p / 48) then
    latRecord p x v stamp w eng rev false false (s0.putPort p { b with cmpF := b.cmpF.set x v })
  else if s.on (GP.CTRL.LOAD p) then
    latRecord p x v stamp w eng rev false true (shadowCompare p x v w (w + 3) s0)
  else
    let ud := s.updown p
    let q := s.affected p w
    let f := s.inForce p x q.1
    let old := f.2.getD (occInstant ud q.2.2.1 q.2.1 q.2.2.2 f.1)
    let new := occInstant ud q.2.2.1 q.2.1 q.2.2.2 v
    let w3 := (w + 3) * 64
    if (ud && decide (2 ≤ x)) || (!occExists ud q.2.2.1 q.2.2.2 f.1 && !occExists ud q.2.2.1 q.2.2.2 v) then
      latRecord p x v stamp w eng rev false false (keepCompare p x v w q.1 none s0)
    else if old < w3 then latRecord p x v stamp w eng rev false true (shadowCompare p x v w (w + 4) s0)
    else if new < w3 then latRecord p x v stamp w eng rev true false (keepCompare p x v w q.1 (some w3) s0)
    else latRecord p x v stamp w eng rev false false (keepCompare p x v w q.1 none s0)

/-- R156: a POUT value limited to the 30 bits of a compare. -/
def clampCompare (v : Int) : Nat := (clampInt 0 (2 ^ 30 - 1) v).toNat

/-- R155: a write by an engine or over the bus that WSRC does not name. -/
def compareForeign (p eng : Nat) (s : State) : State :=
  (s.put (GP.STATUS.FOREIGN p) 1).report .portForeign (elPort p) eng

/-! ### Enabling, waiting and running -/

/-- R157: the first period start for an enable or grant that reaches the island at `now`, and whether START was missed. -/
def firstStart (now start per : Nat) : Nat × Bool :=
  let d := sub36 start (now % 2 ^ 36)
  if 8 ≤ d ∧ d < 2 ^ 35 then (now + d, false)
  else if d < 8 then (now + d + per, true)
  else
    let age := 2 ^ 36 - d
    (now + (age + 8 + per - 1) / per * per - age, true)

/-- R157, R179: a port enters RUN: its registers come into force and its first period start is fixed. While its island waits for a
sync word (R20) it fixes none before that word, which counts as `now` then (DESIGN CHOICE, log 136). -/
def enterRun (p : Nat) (s : State) : State :=
  let per := effPeriod (s.updown p) (s.get (GP.PERIOD.PERIOD p))
  let q := firstStart s.t (s.get (GP.START.START p)) per
  let b := s.port p
  let s1 := s.putPort p
    { b with
      started := false, owed := s.unsynced (17 + p / 48), follow := false, down := false, start := q.1, next := q.1,
      merge := none, rise := none, mergeFix := 0, riseFix := 0, ball := false, was := none, lastTr := none, edges := [], fixAt := [0, 0, 0, 0],
      coming := [none, none, none, none],
      per := s.get (GP.PERIOD.PERIOD p),
      act := s.wordOf (GP.ACT.adr p) (fields! (GP.ACT.adr p)),
      dt := s.wordOf (GP.DT.adr p) (fields! (GP.DT.adr p)),
      evt := (List.range 4).map (fun k => s.wordOf (GP.EVT.adr p k) (fields! (GP.EVT.adr p k))),
      timing := [], fired := [], placed := [none, none, none, none], shadow := [none, none, none, none],
      cmpF := (List.range 4).map (fun x => s.get (GP.CMPX.CMP p x)) }
  let s2 := if s.unsynced (17 + p / 48) then s1 else (s1.putIf q.2 (GP.STATUS.STLATE p) 1).put (GP.NEXT.NEXT p) q.1
  (s2.put (GP.STATUS.STATE p) 2).put (GP.STATUS.WLEAD p) 0

/-- R20: the sync word has come: the ports that entered RUN without it fix their first period start. -/
def startOwed (s : State) : State :=
  (List.range 96).foldl (fun t p => if (t.port p).owed && t.get (GP.STATUS.STATE p) == 2 then enterRun p t else t) s

/-- R179: a port waits for its grant with its pins safe. -/
def enterWait (p : Nat) (s : State) : State :=
  let s1 := (loadAll p s).put (GP.STATUS.STATE p) 1
  let s2 := s1.putPort p { s1.port p with started := false }
  (s2.ballsOf p).foldl (fun t q => forceSafe q t) s2

/-- R180: the port a LEADP names: the even port of a standing pair where it names the odd one. -/
def State.leadOf (s : State) (p : Nat) : Nat := s.timerOf (s.get (GP.SAFE.LEADP p))

/-- R180: a follower has class 0 and a lead. -/
def State.follower (s : State) (p : Nat) : Bool :=
  s.get (GP.SAFE.SCLS p) == 0 && decide (s.get (GP.SAFE.LEADP p) < 96)

/-- R180: follow LEADP onward, at most `fuel` steps, to a port that is not a follower; none when the chain returns to a
port already passed. -/
def State.rootOf (s : State) (fuel : Nat) (seen : List Nat) (p : Nat) : Option Nat :=
  match fuel with
  | 0 => none
  | n + 1 =>
    if !s.follower p then some p
    else if seen.contains (s.leadOf p) then none
    else s.rootOf n (s.leadOf p :: seen) (s.leadOf p)

def State.root (s : State) (p : Nat) : Option Nat := s.rootOf 97 [p] p

/-- The enabled followers of a root. -/
def State.followers (s : State) (p : Nat) : List Nat :=
  (List.range 96).filter (fun q => q != p && s.on (GP.CTRL.EN q) && s.follower q && s.root q == some p)

/-- R179, R180: a root enters RUN and its waiting followers with it. -/
def releaseRoot (p : Nat) (s : State) : State :=
  let s1 := enterRun p s
  (s1.followers p).foldl (fun t q => if t.get (GP.STATUS.STATE q) == 1 then enterRun q t else t) s1

/-- R180: a root waits or is disabled: its followers in RUN wait too; WLEAD shows a root that is not enabled. -/
def waitFollowers (p : Nat) (fs : List Nat) (s : State) : State :=
  fs.foldl (fun t q =>
    let t1 := if t.get (GP.STATUS.STATE q) == 2 then enterWait q t else t
    t1.putB (GP.STATUS.WLEAD q) (!t1.on (GP.CTRL.EN p))) s

/-- R180: the leads are resolved anew: each enabled follower runs or waits by its root's state, and WLEAD shows a root that is not
enabled. -/
def refollow (s : State) : State :=
  (List.range 96).foldl (fun t q =>
    if t.on (GP.CTRL.EN q) && t.follower q then
      match t.root q with
      | none => t
      | some r =>
        let run := t.on (GP.CTRL.EN r) && t.get (GP.STATUS.STATE r) == 2
        let t1 := if run && t.get (GP.STATUS.STATE q) == 1 then enterRun q t
          else if !run && t.get (GP.STATUS.STATE q) == 2 then enterWait q t else t
        t1.putB (GP.STATUS.WLEAD q) (!t1.on (GP.CTRL.EN r))
    else t) s

/-- R179: a port asks for its start. -/
def startPort (p : Nat) (s : State) : State :=
  if s.get (GP.SAFE.SCLS p) != 0 then
    let s1 := zoneRequest p (enterWait p s)
    waitFollowers p (s1.followers p) s1
  else if s.follower p then
    match s.root p with
    | none => s
    | some r =>
      if s.on (GP.CTRL.EN r) && s.get (GP.STATUS.STATE r) == 2 then enterRun p s
      else (enterWait p s).putB (GP.STATUS.WLEAD p) (!s.on (GP.CTRL.EN r))
  else releaseRoot p s

/-- R154, R180: why an enable is refused before the claims are looked at. A LEADP that names the odd port of the pair being
enabled names the follower itself. -/
def State.portCfgErr (s : State) (p : Nat) : Bool :=
  let vc := s.get (PG.GSTAT.VCLASS (p / 8))
  let u := if s.on (GP.CTRL.PAIR p) && p % 2 == 0 then s.put (GP.STATUS.STATE (p + 1)) 3 else s
  vc == 0 || vc == 3 || (s.on (GP.CTRL.PAIR p) && p % 2 == 1) || (s.follower p && (u.root p).isNone)

/-- R153: the balls an enable claims. -/
def State.portNeeds (s : State) (p : Nat) : List Nat :=
  if s.on (GP.CTRL.PAIR p) then [0x100 + p, 0x100 + p + 1] else [0x100 + p]

/-- R425: an item enabled in ARMED or RUN without its scene. -/
def sceneCheck (scene : Bool) (elem info : Nat) (s : State) : State :=
  let st := s.get ETH.SLSTATE.STATE
  if !scene && (st == 2 || st == 3) then s.report .sceneMissing elem info else s

/-- R153, R154, R157, R171, R179: an enable attempt of a port. -/
def portEnable (agent p : Nat) (s : State) : State :=
  let s0 := s.putB (GP.STATUS.CFGERR p) (s.portCfgErr p)
  if s.portCfgErr p then s0.putFeature p 0 0 0
  else
    let s1 := s0.enableFeature agent p (s.portNeeds p)
    if !s.enablePasses p (s.portNeeds p) then s1
    else
      let g := p / 8
      let s2 := (s1.put (GP.CTRL.EN p) 1).put (GP.CTRL.OWNER p) agent
      let s3 := s2.putIf (s.get (PG.GSTAT.REFCLASS g) == 0) (PG.GSTAT.REFCLASS g) (s.get (PG.GSTAT.VCLASS g))
      let s4 := if s.on (GP.CTRL.PAIR p) then s3.put (GP.STATUS.STATE (p + 1)) 3 else s3
      let s5 := startPort p s4
      sceneCheck (s.on (GP.SAFE.SCENE p)) (elPort p) p (if s.on (GP.CTRL.PAIR p) then refollow s5 else s5)

/-- R33, R55, R170, R156, R374: clearing EN. -/
def portDisable (p : Nat) (s : State) : State :=
  let balls := s.ballsOf p
  let fs := s.followers p
  let s1 := (loadAll p s).disableFeature p (s.portNeeds p)
  let s2 := (((s1.put (GP.CTRL.EN p) 0).put (GP.CTRL.OWNER p) 0).put (GP.STATUS.STATE p) 0).put (GP.STATUS.WLEAD p) 0
  let s3 := if balls.length == 2 then s2.put (GP.STATUS.STATE (p + 1)) 0 else s2
  let s4 := balls.foldl (fun t q => forceSafe q t) s3
  let s5 := balls.foldl (fun t q => t.putPort q { t.port q with started := false, merge := none, rise := none }) s4
  let s6 := waitFollowers p fs (zoneLeave p s5)
  if balls.length == 2 then refollow s6 else s6

/-- R55: a write by any agent while the owner field is free, and by the owner afterwards. -/
def ownerGate (own agent : Nat) : Bool := own == 0 || own == agent

/-- R55, R7: the owner hands over to another nonzero owner ID; zero and reserved IDs are discarded. -/
def State.handOver (s : State) (r : FRef) (new : Nat) : State :=
  if new != 0 && validOwner s.split new && s.get r != 0 then s.put r new else s

/-- The fields of a GPnn.CTRL write beside OWNER and EN (R154, R457); a reserved ID in WSRC is discarded (R7). -/
def portCtrlFields (p v : Nat) (s : State) : State :=
  let lk := s.on (GP.CTRL.EN p)
  let s0 := s.putIf (validOwner s.split (bits v 20 8)) (GP.CTRL.WSRC p) (bits v 20 8)
  let s1 := ((s0.put (GP.CTRL.LOAD p) (bits v 17 1)).put (GP.CTRL.EVQ p)
    (bits v 16 1)).put (GP.CTRL.EVQS p) (bits v 14 2)
  if lk then s1.putIf (bits v 19 1 != s.get (GP.CTRL.PAIR p) || bits v 18 1 != s.get (GP.CTRL.MODE p))
    (GP.STATUS.WREJ p) 1
  else (s1.put (GP.CTRL.PAIR p) (bits v 19 1)).put (GP.CTRL.MODE p) (bits v 18 1)

/-- R55, R153, R154: a write to GPnn.CTRL. -/
def portCtrlWrite (agent p v : Nat) (s : State) : State :=
  if !ownerGate (s.get (GP.CTRL.OWNER p)) agent then s.answer agent .busOwn 0 0
  else
    let s1 := portCtrlFields p v s
    let s2 :=
      if bitOf v 0 then
        (if s.on (GP.CTRL.EN p) then s1.handOver (GP.CTRL.OWNER p) (bits v 28 8) else portEnable agent p s1)
      else if s.on (GP.CTRL.EN p) then portDisable p s1 else s1.dropConflict p
    s2.answer agent .ok 0 0

/-- The bits of a timing word that have a field. -/
def timingBits (which v : Nat) : Nat :=
  let fl : List FSpec := match which with
    | 0 => fields! (GP.PERIOD.adr 0)
    | 1 => fields! (GP.ACT.adr 0)
    | 2 => fields! (GP.DT.adr 0)
    | _ => fields! (GP.EVT.adr 0 0)
  fl.foldl (fun x f => x + bits v f.lo f.w * 2 ^ f.lo) 0

/-- R158: a write to PERIOD (0), ACT (1), DT (2) or EVT0 to EVT3 (3 to 6) while the port is enabled waits for its period
start; its reserved bits are discarded (R5). -/
def timingWrite (p which v : Nat) (s : State) : State :=
  if s.on (GP.CTRL.EN p) then
    s.putPort p { s.port p with timing := (s.port p).timing ++ [⟨which, timingBits which v, s.t⟩] }
  else s

/-! ### CUT (R174 to R178) -/

/-- R176: CUTn is open drain and pulled low while the latch is set. -/
def State.cutPinLow (s : State) : Bool := s.on PORTS.CUTSTAT.LATCH

/-- R178: the sources that stand. -/
def State.cutSource (s : State) : Bool :=
  s.on PORTS.CUTSTAT.SCTU || s.on PORTS.CUTSTAT.SIN || s.on PORTS.CUTSTAT.SUV || s.on PORTS.CUTSTAT.SHOST

/-- The 96 ports. -/
def allPorts : List Nat := List.range 96

/-- R175, R374: the latch sets, every port goes to its safe level, and the zone ledger empties. -/
def cutLatchSet (first : Nat) (s : State) : State :=
  if s.on PORTS.CUTSTAT.LATCH then s
  else
    let s1 := ((s.put PORTS.CUTSTAT.LATCH 1).setCut { s.cut with first := first, told := false }).raise 240
    zoneCut (allPorts.foldl (fun t q => forceSafe q (t.put (GP.STATUS.HCUT q) 1)) s1)

/-- R174: a source asserts: it is reported once, and the latch sets. -/
def cutAssert (src : FRef) (first : Nat) (code : FaultCode) (s : State) : State :=
  if s.on src then s else cutLatchSet first ((s.put src 1).report code 0 0)

/-- R174: the Continuity Unit's source follows its requests and the keepalive loss. -/
def State.ctuSource (s : State) : Bool := s.cut.ctuReq || s.cut.noneReq || s.cut.kaLoss

def cutCtu (s : State) : State :=
  if s.ctuSource then cutAssert PORTS.CUTSTAT.SCTU 1 .cutCtu s else s.put PORTS.CUTSTAT.SCTU 0

/-- R295: the request of the Continuity Unit, and STATUS.CUTREQ with it. -/
def ctuShow (s : State) : State := s.putB CTU.STATUS.CUTREQ (s.cut.ctuReq || s.cut.noneReq)

/-- R295: both halves request CUT; the request of CORE_NONE can end before the next start. -/
def ctuRequest (none : Bool) (s : State) : State :=
  cutCtu (ctuShow (s.setCut (if none then { s.cut with noneReq := true } else { s.cut with ctuReq := true })))

/-- R294: a disagreement between the halves, or a silent half. -/
def ctuFault (c : FaultCode) (s : State) : State :=
  ctuRequest false ((s.put (if c = .ctuSilent then CTU.STATUS.SILENT else CTU.STATUS.DISAGREE) 1).report c 0 0)

/-- R178, R374: the latch clears: ports resume under R170, and enabled ports with a class ask for their start again. -/
def cutLatchClear (s : State) : State :=
  let s1 := (s.put PORTS.CUTSTAT.LATCH 0).raise 241
  let s2 := allPorts.foldl (fun t q => t.put (GP.STATUS.HCUT q) 0) s1
  (allPorts.filter (fun p => s2.on (GP.CTRL.EN p) && s2.get (GP.SAFE.SCLS p) != 0)).foldl (fun t p => startPort p t) s2

/-- R178: a CLEAR by the host link: it clears the latch and the HOST source when no other source stands. -/
def cutClear (s : State) : State :=
  if s.on PORTS.CUTSTAT.SCTU || s.on PORTS.CUTSTAT.SIN || s.on PORTS.CUTSTAT.SUV then s.put PORTS.CUTSTAT.CLRREF 1
  else
    let s1 := s.put PORTS.CUTSTAT.SHOST 0
    if s1.on PORTS.CUTSTAT.LATCH then cutLatchClear s1 else s1

end Sys2Proof.Machine
end

