-- ==== Sys2Proof/Machine/SlateOps.lean ====
section
/-! DEFINITION. Octets of frames, notices and the device state (R415, R416, R420, R422). -/

namespace Sys2Proof.Machine

/-- `n` octets of a number, most significant first. -/
def octets (n v : Nat) : List Nat := (List.range n).map (fun i => v / 256 ^ (n - 1 - i) % 256)

/-- The number that octets spell, most significant first. -/
def ofOctets (l : List Nat) : Nat := l.foldl (fun a o => a * 256 + o % 256) 0

/-- R415: a word field is 5 octets. -/
def wordField (v : Nat) : List Nat := octets 5 (v % 2 ^ 36)

/-- R415: a list of `n` word fields, or none where one has its top bits set or the octets do not fit. -/
def wordFields : Nat → List Nat → Option (List Nat)
  | 0, l => if l.isEmpty then some [] else none
  | n + 1, l =>
    if l.length < 5 ∨ 16 ≤ l.headD 0 then none else (wordFields n (l.drop 5)).map (fun t => ofOctets (l.take 5) :: t)

/-- Records of `n` octets or words. -/
def chunks (n : Nat) : Nat → List Nat → List (List Nat)
  | 0, _ => []
  | k + 1, l => l.take n :: chunks n k (l.drop n)

/-- R422: the device states. -/
inductive DevState where
  | boot | standby | armed | run | cut | recovery | bootfail | sleep
deriving DecidableEq, Repr

def DevState.num : DevState → Nat
  | .boot => 0
  | .standby => 1
  | .armed => 2
  | .run => 3
  | .cut => 4
  | .recovery => 5
  | .bootfail => 6
  | .sleep => 7

def State.devIs (s : State) (d : DevState) : Bool := s.get ETH.SLSTATE.STATE == d.num

/-- A list of octets cut or filled with zeros to `n`. -/
def fitOctets (n : Nat) (l : List Nat) : List Nat := ((l ++ List.replicate n 0).take n).map (· % 256)

/-- R400: the key of a handle. -/
def State.handle (s : State) (k : Nat) : Option Nat := (s.sec.handles.find? (fun h => h.1 == k)).map (fun h => h.2)

/-- Load or erase handles. -/
def putHandle (k key : Nat) (s : State) : State :=
  s.setSec { s.sec with handles := (k, key) :: s.sec.handles.filter (fun h => h.1 != k) }
def dropHandles (p : Nat → Bool) (s : State) : State := s.setSec { s.sec with handles := s.sec.handles.filter (fun h => !p h.1) }

/-- R414: a transport is a MAC with MACsec in force. -/
def State.macsec (s : State) (via : Nat) : Bool := (via == 1 || via == 2) && s.on (MAC.CTRL.MACSEC (via - 1))

/-- R414: the header of a frame from the device. -/
def slateHeader (session slate cmd len : Nat) (notag notice : Bool) : List Nat :=
  [0x53, 0x4C, 1, cmd % 256] ++ octets 4 slate ++ octets 2 len ++
    octets 2 (1 + (if notag then 2 else 0) + (if notice then 4 else 0)) ++ octets 4 session

/-- R415: the IV of a frame. -/
def slateIv (session slate dir : Nat) : List Nat := octets 4 session ++ octets 4 slate ++ [dir, 0, 0, 0]

/-- Octets cut into pieces of 2,048; `n` bounds them. -/
def pieces : Nat → List Nat → List (List Nat)
  | 0, _ => []
  | n + 1, l => l.take 2048 :: (if l.length ≤ 2048 then [] else pieces n (l.drop 2048))

/-- R412: the segments of a frame from a CAN, with FTAG `ftag`. -/
def State.segments (s : State) (n ftag : Nat) (frame : List Nat) : List CanSeg :=
  let ps := pieces 5 frame
  (List.range ps.length).map (fun i => ⟨s.get (CAN.IDS.DEVID n), s.get (CAN.XLH.SDT n), s.get (CAN.XLH.VCID n),
    (if i + 1 = ps.length then 2 ^ 16 else 0) + ftag % 256 * 256 + i, ps.getD i []⟩)

/-- R410: a MAC runs. -/
def State.macRuns (s : State) (m : Nat) : Bool :=
  s.on (MAC.CTRL.EN m) && s.on (MAC.STATUS.SYNC m) && s.on (MAC.STATUS.LINK m) && !s.on (MAC.STATUS.SPEEDERR m)

/-- R432: the format a CAN controller runs in: 0 Classical, 1 FD, 2 XL; 3 acts as 0. -/
def State.canMode (s : State) (n : Nat) : Nat := if s.get (CAN.CTRL.MODE n) = 3 then 0 else s.get (CAN.CTRL.MODE n)

/-- R409: a transport carries Slate now: a MAC that runs, or a CAN in XL format. -/
def State.carries (s : State) (via : Nat) : Bool :=
  if via = 1 ∨ via = 2 then s.macRuns (via - 1) && s.on (MAC.CTRL.SLATE (via - 1))
  else if 3 ≤ via ∧ via ≤ 6 then
    s.on (CAN.CTRL.EN (via - 3)) && s.on (CAN.CTRL.SLATE (via - 3)) && s.canMode (via - 3) == 2 && !s.on (CAN.STATUS.BUSOFF (via - 3))
  else false

/-- R409: the 802.1Q tag of the frames that a MAC sends: PCP and VID. -/
def State.vlanTag (s : State) (m : Nat) : Option (Nat × Nat) :=
  if s.on (MAC.CTRL.VLANEN m) then some (s.get (MAC.VLAN.PCP m), s.get (MAC.VLAN.VID m)) else none

/-- R409, R410, R412, R414: a frame leaves on a transport that carries Slate; on another it is lost. FTAG on CAN is free. -/
def emit (o : SlateOut) (frame : List Nat) (s : State) : State :=
  if !s.carries o.via then s
  else if 3 ≤ o.via then
    s.draw.setSlateOut (s.slateOut ++ [{ o with segs := s.segments (o.via - 3) (Config.freeValue s.free) frame }])
  else s.setSlateOut (s.slateOut ++ [{ o with vlan := s.vlanTag (o.via - 1) }])

/-- R414 to R416, R420: send one frame in an open session on a transport, on a MAC to an address and port, with a tag unless its path
is a MAC with MACsec in force. -/
def sendIn (k via : Nat) (peer : Nat × Nat) (cmd : Nat) (notice : Bool) (payload : List Nat) (s : State) : State :=
  let x := s.session k
  let num := s.get (ETH.SESS.NUMBER k)
  let clear := s.macsec via
  let h := slateHeader num x.dev cmd payload.length clear notice
  let r := if clear then (payload, []) else Config.gcmSeal ((s.handle (2 * k + 1)).getD 0) (slateIv num x.dev 1) h payload
  let body := if clear then payload else fitOctets payload.length r.1
  let tag := if clear then [] else fitOctets 16 r.2
  (emit ⟨via, none, peer, num, x.dev, cmd, notice, body, tag, []⟩ (h ++ body ++ tag) s).putSession k { x with dev := x.dev + 1 }

/-- R420: a NOTICE to every open session, on the transport it last used: the state, the state before, two zero octets and a log entry. -/
def noticeAll (entry : List Nat) (s : State) : State :=
  let body := [s.get ETH.SLSTATE.STATE, s.get ETH.SLSTATE.PREV, 0, 0] ++ entry
  [0, 1, 2].foldl (fun t k => if (t.session k).phase == 2 then sendIn k (t.get (ETH.SESS.TRANSPORT k)) (t.session k).peer 0x50 true body t
    else t) s

/-- R420, R422: a change of device state, with EV324 and a NOTICE. -/
def setDevState (d : DevState) (s : State) : State :=
  if s.devIs d then s
  else
    let s1 := (s.put ETH.SLSTATE.PREV (s.get ETH.SLSTATE.STATE)).put ETH.SLSTATE.STATE d.num
    noticeAll (List.replicate 20 0) (s1.raise 324)

end Sys2Proof.Machine
end

