-- ==== Sys2Proof/Machine/Ports.lean ====
section
/-! DEFINITION. The commands of the gate ports, their groups and the CUT latch (R15, R16, R45 to R49, R153 to R178). -/

namespace Sys2Proof.Machine

/-- R73: the CYCLE hold of a port ends at a period start once no CYCLE trip stands in its group. -/
def endCycleHold (q : Nat) (s : State) : State :=
  if s.cmps.any (fun e => bitOf e.2.lanes (q / 8) && s.on (CMP.CTRL.MODE e.1)) then s else s.put (GP.STATUS.HCYC q) 0

/-- The period start of a running port (R157, R158, R160, R163, R170). -/
def periodStart (p : Nat) (s : State) : State :=
  let at_ := (s.port p).next
  let s1 := applyTiming p at_ (s.advanceTo at_)
  let b := s1.port p
  let per := effPeriod (s1.updown p) b.per
  let s2 := s1.putPort p
    { b with started := true, start := at_, next := at_ + per, down := false, level := b.level && b.started }
  let s3 := loadPoint p at_ (((s2.put (GP.NEXT.NEXT p) (at_ + per)).inc (GP.STATUS.PCNT p)))
  let s4 := (s3.ballsOf p).foldl (fun t q => endCycleHold q t) s3
  let s5 := applyAct p 0 (bits (s4.port p).act 10 2) (at_ * 64) 0 s4
  ((s5.ballsOf p).filter (fun q => !(s5.port q).follow && !s5.held? q)).foldl (fun u q => resumePort p q (at_ * 64) u) s5

/-- PERIOD_START: a port's period starts. -/
def execPeriodStart (p : Fin 96) (s : State) : Out :=
  if s.unsynced (17 + p.val / 48) then .next s else
  .next (if s.get (GP.STATUS.STATE p.val) == 2 then periodStart p.val s else s)

/-- PEAK: the counter of a port in UPDOWN mode reaches its peak (R160, R163). -/
def execPeak (p : Fin 96) (s : State) : Out :=
  let b := s.port p.val
  let at_ := b.start + effPeriod true b.per / 2
  if s.unsynced (17 + p.val / 48) then .next s else
  .next (if s.get (GP.STATUS.STATE p.val) == 2 && b.started && s.updown p.val && !b.down then
      let s1 := (s.advanceTo at_).putPort p.val { b with down := true }
      applyAct p.val 0 (bits b.act 8 2) (at_ * 64) 0 (loadPoint p.val at_ s1)
    else s)

/-- R160: the action bits of a compare. -/
def cmpAction (act x : Nat) : Nat := bits act (6 - 2 * x) 2

/-- COMPARE_OCCURRENCE: an occurrence of a compare applies its action (R159, R160). In UPDOWN mode CMPC and CMPD place no
edge. -/
def execCompareOccurrence (p : Fin 96) (x : Fin 4) (s : State) : Out :=
  let b := s.port p.val
  let ud := s.updown p.val
  let per := effPeriod ud b.per
  let v := b.cmpF.getD x.val 0
  let at_ := (b.placed.getD x.val none).getD (occInstant ud b.down b.start per v)
  .next (if s.get (GP.STATUS.STATE p.val) == 2 && b.started && occExists ud b.down per v &&
      !b.fired.contains x.val && !(ud && decide (2 ≤ x.val)) then
      let s1 := (s.advanceTo (at_ / 64)).putPort p.val { b with fired := x.val :: b.fired }
      let a := cmpAction b.act x.val
      applyAct p.val (x.val + 1) (if b.down then mirror a else a) at_ (b.fixAt.getD x.val 0) s1
    else s)

/-- EDGE_MERGE: occurrences held under R161 end, and the pin takes their final level. -/
def execEdgeMerge (q : Fin 96) (s : State) : Out :=
  let b := s.port q.val
  .next (match b.merge with
    | none => s
    | some (t, _) =>
      atSubtick (s.timerOf q.val) t (fun w => { w with ended := w.ended ++ [q.val] }) (s.advanceTo (t / 64)))

/-- DEAD_TIME_RISE: a ball of a pair rises after its dead time, since its level has not fallen (R165). -/
def execDeadTimeRise (q : Fin 96) (s : State) : Out :=
  let b := s.port q.val
  .next (match b.rise with
    | none => s
    | some t => atSubtick (s.timerOf q.val) t (fun w => { w with risen := w.risen ++ [q.val] }) (s.advanceTo (t / 64)))

/-- PORT_EVENT: event output `k` of a port fires; `second` is the second firing of SEL = 2 (R166, R167). -/
def execPortEvent (p : Fin 96) (k : Fin 4) (second : Bool) (s : State) : Out :=
  let b := s.port p.val
  let e := b.evt.getD k.val 0
  let sel := bits e 34 2
  let pos := bits e 0 24
  let per := effPeriod (s.updown p.val) b.per
  let at_ := b.start + (if second then (per / 2 + pos) % per else pos)
  if s.unsynced (17 + p.val / 48) then .next s else
  .next (if s.get (GP.STATUS.STATE p.val) == 2 && b.started && decide (pos < per) &&
      (if second then sel == 2 else sel == 1 || sel == 2) then
      let s1 := (s.advanceTo at_).putTrig (trigKeyPort p.val k.val) at_
      if s.on (GP.CTRL.EVQ p.val) && s.get (GP.CTRL.EVQS p.val) == k.val then s1.raiseAt (144 + p.val) at_ else s1
    else s)

/-- R168: a write to GPnn.SAFE. -/
def safeWrite (agent p v : Nat) (s : State) : State :=
  if agent != ownHost then s.answer agent .busOwn 0 0
  else if s.on (GP.CTRL.EN p) then (s.put (GP.STATUS.WREJ p) 1).answer agent .ok 0 0
  else
    (refollow (((s.put (GP.SAFE.LEADP p) (bits v 8 7)).put (GP.SAFE.SCLS p) (bits v 4 4)).put (GP.SAFE.SAFE p)
      (bits v 0 2))).answer agent .ok 0 0

/-- R171: the class a VIOG voltage in mV belongs to. -/
def vioClass (mv : Nat) : Nat :=
  if mv < 2000 then 0 else if 2900 ≤ mv ∧ mv ≤ 3700 then 1 else if 4500 ≤ mv ∧ mv ≤ 5500 then 2 else 3

/-- R171: 85 % of the nominal voltage of a class, in 10 µV units. -/
def vioFloor (cls : Nat) : Nat := match cls with
  | 1 => 280500
  | 2 => 425000
  | _ => 0

/-- VIO_LOW: VIOGg, now at `mv` mV, has stayed below 85 % of its class's nominal for 1 µs (R171); VCLASS and VIOLOW show the
present condition (R173). -/
def execVioLow (g : Fin 12) (mv : BitVec 13) (s : State) : Out :=
  let s1 := s.put (PG.GSTAT.VCLASS g.val) (vioClass mv.toNat)
  .next (if mv.toNat * 100 < vioFloor (s.get (PG.GSTAT.REFCLASS g.val)) then
      (if s.on (PG.GSTAT.VIOLOW g.val) then s1
      else groupRed g.val .vioLow (s1.put (PG.GSTAT.VIOLOW g.val) 1))
    else s1.put (PG.GSTAT.VIOLOW g.val) 0)

/-- PORT_PARITY: a parity error on a port group's lanes (R16). -/
def execPortParity (g : Fin 12) (s : State) : Out :=
  .next (groupRed g.val .portParity (s.put (PG.GSTAT.PARITY g.val) 1))

/-- R173: who may write GCLR: the host link and the owner of any enabled port in the group. -/
def State.mayClear (s : State) (agent g : Nat) : Bool :=
  agent == ownHost || (groupPorts g).any (fun p => s.on (GP.CTRL.EN p) && s.get (GP.CTRL.OWNER p) == agent)

/-- R173: CLRTRIP. -/
def clrTrip (g : Nat) (s : State) : State :=
  if s.groupTripped g then s.put (PG.GSTAT.CLRREF g) 1 else refreshGroup g (s.put (PG.GSTAT.TRIPL g) 0)

/-- R173: CLRRED starts a lane test of 300 ticks. -/
def clrRed (g : Nat) (s : State) : State := s.setLaneTest (Tab.set (fun _ => 0) s.laneTest g (s.t + 300))

/-- R173: a write to PGg.GCLR. -/
def gclrWrite (agent g v : Nat) (s : State) : State :=
  if !s.mayClear agent g then s.answer agent .busOwn 0 0
  else
    let s1 := if bitOf v 0 then clrTrip g s else s
    let s2 := if bitOf v 1 then clrRed g s1 else s1
    s2.answer agent .ok 0 0

/-- LANE_TEST_DONE: a lane test ends, `pass` where the lanes passed, with VIOGg at `mv` mV (R173). -/
def execLaneTestDone (g : Fin 12) (pass : Bool) (mv : BitVec 13) (s : State) : Out :=
  let due := Tab.get (fun _ => 0) s.laneTest g.val
  if due == 0 then .next s
  else
    let s1 := (s.advanceTo due).setLaneTest (Tab.set (fun _ => 0) s.laneTest g.val 0)
    let low := decide (mv.toNat * 100 < vioFloor (s.get (PG.GSTAT.REFCLASS g.val)))
    let s2 := (s1.put (PG.GSTAT.VCLASS g.val) (vioClass mv.toNat)).putB (PG.GSTAT.VIOLOW g.val) low
    .next (if pass && !low then
        refreshGroup g.val ((s2.put (PG.GSTAT.RED g.val) 0).put (PG.GSTAT.PARITY g.val) 0)
      else
        let code : FaultCode := if s.on (PG.GSTAT.PARITY g.val) then .portParity else .vioLow
        let s3 := s2.put (PG.GSTAT.CLRREF g.val) 1
        if s.on (PG.GSTAT.RED g.val) then s3.reportAgain code (elGroup g.val) 0 else s3.report code (elGroup g.val) 0)

/-- CUTIN_ASSERT: CUTINn has stayed low through the deglitch filter (R174, R175). -/
def execCutinAssert (s : State) : Out := .next (cutAssert PORTS.CUTSTAT.SIN 2 .cutInput s)

/-- CUTIN_RELEASE: CUTINn is high again; the latch stays set (R174, R178). -/
def execCutinRelease (s : State) : Out := .next (s.put PORTS.CUTSTAT.SIN 0)

/-- R174: a write of 1 to CUTCMD.ASSERT by any agent. -/
def cutHost (s : State) : State := cutAssert PORTS.CUTSTAT.SHOST 4 .cutHost s

/-- R174, R178: a write to PORTS.CUTCMD. With both bits from the host link the spec does not say which acts first: the order is
free (DESIGN CHOICE, log entry 101). -/
def cutCmdWrite (agent v : Nat) (s : State) : State :=
  if bitOf v 0 && bitOf v 1 && agent == ownHost then
    (if Config.freeValue s.free % 2 = 0 then cutClear (cutHost s.draw) else cutHost (cutClear s.draw)).answer agent .ok 0 0
  else
  let s1 := if bitOf v 0 then cutHost s else s
  if bitOf v 1 then (if agent == ownHost then (cutClear s1).answer agent .ok 0 0 else s1.answer agent .busOwn 0 0)
  else s1.answer agent .ok 0 0

/-- R422: the device enters CUT from STANDBY, ARMED or RUN. -/
def enterCut (s : State) : State :=
  if s.devIs .standby || s.devIs .armed || s.devIs .run then
    setDevState .cut (s.put ETH.SLSTATE.CUTFROM (s.get ETH.SLSTATE.STATE))
  else s

/-- CUT_STATE_REPORT: the CUT state lane reports the latch set to the logic die (R177, R422). -/
def execCutStateReport (s : State) : Out :=
  .next (if s.on PORTS.CUTSTAT.LATCH && !s.cut.told then
      enterCut ((((s.put PORTS.CUTSTAMP.STAMP s.stamp).incSat PORTS.CUTSTAT.CUTCNT).put PORTS.CUTSTAT.FIRST s.cut.first).setCut
        { s.cut with told := true })
    else s)

/-- CUT_KEEPALIVE_SEND: a Continuity Unit half sends its keepalive (R15); the keepalive loss ends when one is back. -/
def execCutKeepaliveSend (half : Fin 2) (s : State) : Out :=
  let c := if half.val == 0 then { s.cut with kaA := s.t } else { s.cut with kaB := s.t }
  .next (cutCtu (s.setCut { c with kaLoss := false }))

/-- KEEPALIVE_TIMEOUT: the keepalives named have stayed absent for 2 µs: both assert CUT with the Continuity Unit as its
source, one alone is a disagreement between the halves (R15, R294). -/
def execKeepaliveTimeout (aAbsent bAbsent : Bool) (s : State) : Out :=
  let due := (if aAbsent then s.cut.kaA else 0)
  let due2 := max due (if bAbsent then s.cut.kaB else 0)
  let s1 := s.advanceTo (due2 + 3000)
  .next (if aAbsent && bAbsent then cutCtu (s1.setCut { s1.cut with kaLoss := true })
    else if aAbsent || bAbsent then ctuFault .ctuDisagree s1
    else s)

end Sys2Proof.Machine
end

