-- ==== Sys2Proof/Machine/Comparators.lean ====
section
/-! DEFINITION. Comparators: conditions, blanking, filters and trips (R66 to R74). -/

namespace Sys2Proof.Machine

/-- R172: a LATCH trip sets a group's trip latch; the first source is kept, and of several that trip at one tick the lowest. -/
def latchGroup (n g : Nat) (s : State) : State :=
  if s.on (PG.GSTAT.TRIPL g) then
    s.putIf (s.tcRun && decide (n < s.get (PG.GSTAT.TLSRC g)) && s.cut.latched.contains (g, s.t)) (PG.GSTAT.TLSRC g) n
  else
    let old := s.cut.latched.filter (fun x => x.1 != g)
    (((s.put (PG.GSTAT.TRIPL g) 1).put (PG.GSTAT.TLSRC g) n).setCut
      { s.cut with latched := if s.tcRun then (g, s.t) :: old else old }).raise (242 + g)

/-- R73: a CYCLE trip holds every port of a group until its next period start after the trip fell. -/
def cycleGroup (g : Nat) (s : State) : State := (groupPorts g).foldl (fun t q => t.put (GP.STATUS.HCYC q) 1) s

/-- The groups a mask names. -/
def maskGroups (m : Nat) : List Nat := (List.range 12).filter (bitOf m)

/-- R71, R73: the standing trip of a comparator drives the groups of a mask. -/
def driveGroups (n mask : Nat) (s : State) : State :=
  let s1 := s.putCmp n { s.cmp n with lanes := mask }
  (maskGroups mask).foldl (fun t g =>
    refreshGroup g (if s.on (CMP.CTRL.MODE n) then cycleGroup g t else latchGroup n g t)) s1

/-- R73, R74: the groups of a mask are released: in CYCLE mode the gate holds them for 16 ticks more. -/
def releaseGroups (n mask : Nat) (gated : Bool) (s : State) : State :=
  let c := s.cmp n
  let s1 := s.putCmp n
    { c with
      lanes := c.lanes &&& (0xFFF - mask),
      gates := if gated then c.gates.filter (fun x => !bitOf mask x.1) ++ (maskGroups mask).map (fun g => (g, s.t + 16))
        else c.gates }
  (maskGroups mask).foldl (fun t g => refreshGroup g t) s1

/-- R70, R73: the trip falls. -/
def tripFall (n : Nat) (s : State) : State :=
  if s.on (CMP.STATUS.LIVE n) then
    releaseGroups n (s.cmp n).lanes (s.on (CMP.CTRL.MODE n)) (s.put (CMP.STATUS.LIVE n) 0)
  else s

/-- R67, R71: conditions end; the trip falls with the last of them. -/
def dropConditions (n : Nat) (hi lo : Bool) (s : State) : State :=
  let c := s.cmp n
  let s1 := s.putCmp n
    { c with hi := c.hi && !hi, lo := c.lo && !lo, hiTrip := c.hiTrip && !hi, loTrip := c.loTrip && !lo }
  if (s1.cmp n).hi || (s1.cmp n).lo then s1 else tripFall n s1

/-- R74: a standing trip follows a change of TRIPMAP or MODE; `old` is the mode before. -/
def remapTrip (n : Nat) (oldCycle : Bool) (s : State) : State :=
  if s.on (CMP.STATUS.LIVE n) then
    let m := s.get (CMP.CTRL.TRIPMAP n)
    let s1 := releaseGroups n ((s.cmp n).lanes &&& (0xFFF - m)) oldCycle s
    driveGroups n m s1
  else s

/-- The fields of a CMPnn.CTRL write beside OWNER and EN. -/
def cmpCtrlFields (n v : Nat) (s : State) : State :=
  (((((s.put (CMP.CTRL.TRIPMAP n) (bits v 16 12)).put (CMP.CTRL.FILT n) (bits v 10 6)).put (CMP.CTRL.MODE n)
    (bits v 9 1)).put (CMP.CTRL.EVEN n) (bits v 8 1)).put (CMP.CTRL.HIEN n) (bits v 7 1)).put (CMP.CTRL.LOEN n) (bits v 6 1)

/-- R53: the features of comparators. -/
def cmpFeature (n : Nat) : Nat := 0x220 + n

/-- R54, R55, R68: the enable of a comparator is never refused; it raises no condition for 30 ticks. -/
def cmpEnable (agent n : Nat) (s : State) : State :=
  let s1 := (((s.putFeature (cmpFeature n) 1 0 0).put (CMP.CTRL.EN n) 1).put (CMP.CTRL.OWNER n) agent).put
    (CMP.STATUS.TRIPCNT n) 0
  s1.putCmp n { s1.cmp n with hi := false, lo := false, hiTrip := false, loTrip := false, quiet := s.t + 30 }

/-- R55, R74: clearing EN stops conditions and releases the trip lane at once; no gate of R73 follows (DESIGN CHOICE, log 137). -/
def cmpDisable (n : Nat) (s : State) : State :=
  let s1 := (((s.putFeature (cmpFeature n) 0 0 0).put (CMP.CTRL.EN n) 0).put (CMP.CTRL.OWNER n) 0).put
    (CMP.STATUS.LIVE n) 0
  let s2 := s1.putCmp n { s1.cmp n with hi := false, lo := false, hiTrip := false, loTrip := false }
  releaseGroups n (s.cmp n).lanes false s2

/-- R55, R74: a write to CMPnn.CTRL. -/
def cmpCtrlWrite (agent n v : Nat) (s : State) : State :=
  if !ownerGate (s.get (CMP.CTRL.OWNER n)) agent then s.answer agent .busOwn 0 0
  else
    let s1 := cmpCtrlFields n v s
    let s2 :=
      if bitOf v 0 then
        (if s.on (CMP.CTRL.EN n) then
          remapTrip n (s.on (CMP.CTRL.MODE n))
            (dropConditions n (!bitOf v 7) (!bitOf v 6) (s1.handOver (CMP.CTRL.OWNER n) (bits v 28 8)))
         else cmpEnable agent n s1)
      else if s.on (CMP.CTRL.EN n) then cmpDisable n s1 else s1.dropConflict (cmpFeature n)
    s2.answer agent .ok 0 0

/-- R66, R390: the offset of a comparator's DAC; 0 without a valid trim set (DESIGN CHOICE, log 138). -/
def State.dacOff (s : State) (n : Nat) : Int :=
  if s.on SAMP.STATUS.TRIMOK then sgn 18 (bits (s.trim.getD (96 + n / 2) 0) (if n % 2 = 0 then 18 else 0) 18) else 0

/-- R66, R67: a threshold as the code that reaches the DAC. -/
def State.thh (s : State) (n : Nat) : Int := sgn 16 (s.get (CMP.THR.THH n)) + s.dacOff n
def State.thl (s : State) (n : Nat) : Int := sgn 16 (s.get (CMP.THR.THL n)) + s.dacOff n

/-- R68: the least and the greatest code at which a threshold may stand at this tick: `r` where it stood when it was last observed,
`new` where it goes, monotonically, until `thrAt`. -/
def State.mayStand (s : State) (n : Nat) (r : Int × Int) (new : Int) : Int × Int :=
  if s.t < (s.cmp n).thrAt then (min r.1 new, max r.2 new) else (new, new)

def State.hiStand (s : State) (n : Nat) : Int × Int := s.mayStand n (s.cmp n).hiAt (s.thh n)
def State.loStand (s : State) (n : Nat) : Int × Int := s.mayStand n (s.cmp n).loAt (s.thl n)

/-- R68: a write to THR governs fully from 30 ticks after it reaches the island; where an earlier one is still moving a threshold,
the move begins wherever that one has got to. -/
def thrWrite (agent n v : Nat) (s : State) : State :=
  if !ownerGate (s.get (CMP.CTRL.OWNER n)) agent then s.answer agent .busOwn 0 0
  else
    let s1 := s.putCmp n { s.cmp n with hiAt := s.hiStand n, loAt := s.loStand n, thrAt := s.t + 30 }
    (s1.writeReg (CMP.THR.adr n) v false none).answer agent .ok 0 0

/-- R67, R68: the input `x`, a code of the DACs, can raise the high or low condition at this tick. -/
def State.mayRise (s : State) (n : Nat) (high : Bool) (x : Int) : Bool :=
  if high then s.on (CMP.CTRL.HIEN n) && decide ((s.hiStand n).1 < x)
  else s.on (CMP.CTRL.LOEN n) && decide (x < (s.loStand n).2)

/-- R67: the hysteresis of a condition, in LSB, once it has tripped. -/
def State.hyst (s : State) (n : Nat) (high : Bool) : Int :=
  if (if high then (s.cmp n).hiTrip else (s.cmp n).loTrip) then 8 * (s.get (CMP.BLANK.HYST n) : Int) else 0

/-- R67, R68: the input can end the condition at this tick. -/
def State.mayFall (s : State) (n : Nat) (high : Bool) (x : Int) : Bool :=
  if high then decide (x ≤ (s.hiStand n).2 - s.hyst n high) else decide ((s.loStand n).1 + s.hyst n high ≤ x)

/-- R68: a condition that rose or ended tells where a moving threshold stands, from where it only moves on. -/
def observe (n : Nat) (high rose : Bool) (x : Int) (s : State) : State :=
  let c := s.cmp n
  let h := s.hyst n high
  if high then
    let r := s.hiStand n
    s.putCmp n { c with hiAt := if rose then (r.1, min r.2 (x - 1)) else (max r.1 (x + h), r.2) }
  else
    let r := s.loStand n
    s.putCmp n { c with loAt := if rose then (max r.1 (x + 1), r.2) else (r.1, min r.2 (x - h)) }

/-- CMP_CONDITION: the input, at code `x`, raises the high or low condition (R67, R70). One count of FILT runs while either
condition stands (DESIGN CHOICE, log 107). -/
def execCmpCondition (n : Fin 32) (high : Bool) (x : Int) (s : State) : Out :=
  let c := s.cmp n.val
  .next (if s.on (CMP.CTRL.EN n.val) && decide (c.quiet ≤ s.t) && s.mayRise n.val high x then
      let s1 := observe n.val high true x s
      s1.putCmp n.val { s1.cmp n.val with
        hi := c.hi || high, lo := c.lo || !high, since := if c.hi || c.lo then c.since else s.t }
    else s)

/-- CMP_CONDITION_CLEAR: the input, at code `x`, has returned inside the threshold (R67, R70). -/
def execCmpConditionClear (n : Fin 32) (high : Bool) (x : Int) (s : State) : Out :=
  .next (if s.mayFall n.val high x then dropConditions n.val high (!high) (observe n.val high false x s) else s)

/-- R69: the edge of the blanking port that BEDGE selects: 0 none, 1 rising, 2 falling, 3 both. -/
def edgeSelected (bedge : Nat) (up : Bool) : Bool :=
  match bedge with
  | 1 => up
  | 2 => !up
  | 3 => true
  | _ => false

/-- R69: the tick at which an edge opens its window: the edge's own, or that of its notice, 6 ticks after it was fixed. The window of an
edge between two ticks counts from the earlier one (DESIGN CHOICE, log 164). -/
def opensAt (e : Nat × Bool × Nat) : Nat := max (e.1 / 64) (e.2.2 + 6)

/-- R69: whether an edge opens its window after that of another: later, or in the same tick at a later instant. -/
def opensAfter (e : Nat × Bool × Nat) (o : Nat × Nat) : Bool :=
  decide (o.1 < opensAt e) || (decide (o.1 = opensAt e) && decide (o.2 < e.1))

/-- R69: the edge of BPORT that opens the comparator's next window: of those that BEDGE selects, that have opened none, and whose window
is still to open and opens before it closes, the one that opens first. -/
def State.blankEdge (s : State) (n : Nat) : Option (Nat × Bool × Nat) :=
  let q := s.get (CMP.BLANK.BPORT n)
  if 96 ≤ q then none
  else ((s.port q).edges.filter (fun e =>
    opensAfter e (s.cmp n).opened && edgeSelected (s.get (CMP.BLANK.BEDGE n)) e.2.1 && decide (s.t ≤ opensAt e) &&
      decide (opensAt e < e.1 / 64 + s.get (CMP.BLANK.BLEN n)))).foldl (fun b e => match b with
        | some f => if opensAfter f (opensAt e, e.1) then some e else b
        | none => some e) none

/-- BLANK_OPEN: the next edge that the port island placed at BPORT's ball opens a blanking window (R69); none on timecode before the
sampling island's sync word (R20). -/
def execBlankOpen (n : Fin 32) (s : State) : Out :=
  let c := s.cmp n.val
  if s.unsynced (12 + n.val / 8) then .next s else
  .next (match s.blankEdge n.val with
    | none => s
    | some e =>
      let close := e.1 / 64 + s.get (CMP.BLANK.BLEN n.val)
      ((s.advanceTo (opensAt e)).put (CMP.STATUS.BLANKING n.val) 1).putCmp n.val
        { c with opened := (opensAt e, e.1), blank := if s.on (CMP.STATUS.BLANKING n.val) then max c.blank close else close })

/-- BLANK_CLOSE: the blanking window closes; a condition that stands starts its filter count at the closing tick (R69, R70). -/
def execBlankClose (n : Fin 32) (s : State) : Out :=
  let c := s.cmp n.val
  .next (if s.on (CMP.STATUS.BLANKING n.val) then
      ((s.advanceTo c.blank).put (CMP.STATUS.BLANKING n.val) 0).putCmp n.val { c with since := max c.since c.blank }
    else s)

/-- R70, R71, R20: the trip of a comparator asserts; an island that waits for its sync word gives its event no stamp. The conditions that stand now have tripped and set HI and LO; one that joins a
standing trip later makes no trip of its own and sets neither (DESIGN CHOICE, log 107). -/
def tripAssert (n : Nat) (s0 : State) : State :=
  let c := s0.cmp n
  let s := s0.putCmp n { c with hiTrip := c.hi, loTrip := c.lo }
  let s1 := ((((s.put (CMP.STATUS.LIVE n) 1).putIf c.hi (CMP.STATUS.HI n) 1).putIf c.lo (CMP.STATUS.LO n) 1).incSat
    (CMP.STATUS.TRIPCNT n))
  let s2 := if s.unsynced (12 + n / 8) then s1 else (s1.put (CMP.STAMP.STAMP n) s.t).putTrig (trigKeyCmp n) s.t
  let s3 := if !s.on (CMP.CTRL.EVEN n) then s2 else if s.unsynced (12 + n / 8) then s2.raise (64 + n) else s2.raiseAt (64 + n) s.t
  driveGroups n (s.get (CMP.CTRL.TRIPMAP n)) s3

/-- TRIP_ASSERT: a condition has passed the filter (R70, R71). -/
def execTripAssert (n : Fin 32) (s : State) : Out :=
  let c := s.cmp n.val
  .next (if s.on (CMP.CTRL.EN n.val) && (c.hi || c.lo) && !s.on (CMP.STATUS.BLANKING n.val) &&
      !s.on (CMP.STATUS.LIVE n.val) then
      tripAssert n.val (s.advanceTo (c.since + s.get (CMP.CTRL.FILT n.val)))
    else s)

/-- The gates of a list whose time comes first: that tick and their groups. -/
def firstGates (l : List (Nat × Nat)) : Option (Nat × List Nat) :=
  match l with
  | [] => none
  | x :: t =>
    let e := t.foldl (fun m y => min m y.2) x.2
    some (e, (l.filter (fun y => y.2 == e)).map (fun y => y.1))

/-- CYCLE_GATE_RELEASE: 16 ticks after a CYCLE trip fell for them, the port-group gates let groups go (R73, R74). -/
def execCycleGateRelease (n : Fin 32) (s : State) : Out :=
  let c := s.cmp n.val
  .next (match firstGates c.gates with
    | none => s
    | some q => q.2.foldl (fun t g => refreshGroup g t)
      ((s.advanceTo q.1).putCmp n.val { c with gates := c.gates.filter (fun x => x.2 != q.1) }))

end Sys2Proof.Machine
end

