-- ==== Sys2Proof/Machine/Crc.lean ====
section
/-! DEFINITION. The cyclic redundancy checks of the spec, most significant bit first and unreflected (R131, R204, R277). -/

namespace Sys2Proof.Machine

/-- One bit `b` into a CRC register of width `w` with polynomial `poly`. -/
def crcBit (w poly : Nat) (c : Nat) (b : Bool) : Nat :=
  let c2 := c * 2 % 2 ^ w
  if (c / 2 ^ (w - 1) % 2 == 1) != b then c2 ^^^ poly else c2

/-- The low `n` bits of a value, most significant first. -/
def crcBits (w poly n : Nat) (c v : Nat) : Nat :=
  (List.range n).foldl (fun a i => crcBit w poly a (bitOf v (n - 1 - i))) c

/-- R204: CRC-32C over the 36 bits of one word. -/
def crc32Step (c v : Nat) : Nat := crcBits 32 0x1EDC6F41 36 c v

/-- R131: CRC-32C of words: initial value all ones, final XOR with all ones. -/
def crc32Words (vs : List Nat) : Nat := vs.foldl crc32Step (2 ^ 32 - 1) ^^^ (2 ^ 32 - 1)

/-- R277: the CRC of a state scrub: 36 bits, initial value all ones. -/
def scrubCrc (vs : List Nat) : Nat := vs.foldl (crcBits 36 0xE09 36) (2 ^ 36 - 1)

end Sys2Proof.Machine
end

