-- ==== Sys2Proof/Machine/BankOps.lean ====
section
/-! DEFINITION. One access to a memory bank or a mailbox by an agent (R300 to R308). -/

namespace Sys2Proof.Machine

/-- The outcome of one access: its response, the word read, and the state after it. -/
structure Got where
  resp : Resp
  val  : Nat
  st   : State

/-- The first word of a bank (0 to 63) or mailbox (64 to 67). -/
def bankBase (b : Nat) : Nat := if b < 64 then 0x01000000 + b * 0x4000 else 0x01100000 + (b - 64) * 0x800

/-- The words of a bank or mailbox. -/
def bankLen (b : Nat) : Nat := if b < 64 then 0x4000 else 0x800

/-- R27: the bank or mailbox of an address. -/
def bankOf? (a : Nat) : Option Nat :=
  if 0x01000000 ≤ a ∧ a < 0x01100000 then some ((a - 0x01000000) / 0x4000)
  else if 0x01100000 ≤ a ∧ a < 0x01102000 then some (64 + (a - 0x01100000) / 0x800)
  else none

/-- R304: port A of a mailbox serves the cores, the engines and debug. -/
def portA (agent : Nat) : Bool :=
  (decide (1 ≤ agent) && decide (agent ≤ 8)) || (decide (0x10 ≤ agent) && decide (agent ≤ 0x27)) || agent == ownDebug

/-- R302, R304: the agent may access the bank or mailbox. -/
def State.bankMay (s : State) (agent b : Nat) : Bool :=
  let o := s.get (BANKS.OWNER.OWNER b)
  let p := s.get (BANKS.OWNER.PEER b)
  agent != 0 && (o == agent || (decide (64 ≤ b) && o != 0 && p == agent && portA agent != portA o))

/-- R306: an error met in a bank is counted, recorded and reported. -/
def bankError (b a : Nat) (hard : Bool) (s : State) : State :=
  let s1 := if hard then (s.incSat (BANKS.STATUS.DUECNT b)).put (BANKS.STATUS.DUE b) 1
    else (s.incSat (BANKS.STATUS.CECNT b)).put (BANKS.STATUS.CE b) 1
  let s2 := (s1.putB (BANKS.ERR.KIND b) hard).put (BANKS.ERR.OFFSET b) (a - bankBase b)
  if hard then s2.report .bankDue (elBank b) a else (s2.unmark a).report .bankEcc (elBank b) 0

/-- R306, R308: what a read meets in a bank word. -/
def bankFetch (b a : Nat) (s : State) : Got :=
  if s.on (BANKS.STATUS.RED b) then ⟨.busEcc, 0, s⟩
  else match s.markAt a with
    | none => ⟨.ok, s.rd a, s⟩
    | some false => ⟨.ok, s.rd a, bankError b a false s⟩
    | some true => ⟨.busEcc, 0, bankError b a true s⟩

/-- R302, R306, R308: a read of a bank word. -/
def bankRead (agent a : Nat) (s : State) : Got :=
  match bankOf? a with
  | none => ⟨.busMap, 0, s⟩
  | some b => if s.bankMay agent b then bankFetch b a s else ⟨.busOwn, 0, s⟩

/-- R302, R308: a write of a bank word. -/
def bankWrite (agent a v : Nat) (s : State) : Got :=
  match bankOf? a with
  | none => ⟨.busMap, 0, s⟩
  | some b =>
    if !s.bankMay agent b then ⟨.busOwn, 0, s⟩
    else if s.on (BANKS.STATUS.RED b) then ⟨.busEcc, 0, s⟩
    else ⟨.ok, 0, s.store a v⟩

/-- Write a row of words; the first response that is not OK, or OK. -/
def bankWrites (agent a : Nat) (vs : List Nat) (s : State) : Got :=
  match vs with
  | [] => ⟨.ok, 0, s⟩
  | v :: t =>
    let g := bankWrite agent a v s
    if g.resp = .ok then bankWrites agent (a + 1) t g.st else g

/-- Read a row of words; none when one of them does not answer OK. -/
def bankReads (agent a n : Nat) (s : State) : Option (List Nat) × State :=
  match n with
  | 0 => (some [], s)
  | k + 1 =>
    let g := bankRead agent a s
    if g.resp = .ok then
      let r := bankReads agent (a + 1) k g.st
      (r.1.map (fun l => g.val :: l), r.2)
    else (none, g.st)

end Sys2Proof.Machine
end

