-- ==== Sys2Proof/Machine/CoreOps.lean ====
section
/-! DEFINITION. A core: registers and windows, status, causes and their entry, and going out of service (R184 to R187, R217,
R238 to R256, R282). -/

namespace Sys2Proof.Machine

/-! ### Core states and registers of the Cue -/

/-- R407: the core stands halted for debug. -/
def State.coreHalted (s : State) (c : Nat) : Bool := bitOf (s.get DBG.CORESTS.HALTED) c

/-- R281: the core exists in this pairing. -/
def State.coreExists (s : State) (c : Nat) : Bool := decide (c < 4) || (s.split && decide (c < 8))

/-- R281: 0 ABSENT, 1 SERVICE, 2 MOVING, 3 TEST, 4 SPARE, 5 RED. -/
def coreStateRef (c : Nat) : FRef := CTU.CORESTAT.STATE c
def State.coreState (s : State) (c : Nat) : Nat := s.get (coreStateRef c)
def State.putCoreState (s : State) (c x : Nat) : State := s.put (coreStateRef c) x

/-- R217: the value of an RWS field that governs the core. -/
def State.gov (s : State) (c : Nat) (r : FRef) : Nat :=
  match (s.core c).stale.find? (fun e => e.1 == r.key) with
  | some e => e.2
  | none => s.get r

/-- R217: a write to an RWS field of the core's own section: the value before it governs until SYNC. -/
def State.putRws (s : State) (c : Nat) (r : FRef) (v : Nat) : State :=
  let x := s.core c
  let s1 := if x.stale.any (fun e => e.1 == r.key) then s else s.putCore c { x with stale := (r.key, s.get r) :: x.stale }
  s1.put r v

/-- R257: the state of a task: 0 OFF, 1 READY, 2 RUN, 3 WAIT, 4 FAULTED. -/
def State.taskIs (s : State) (c t st : Nat) : Bool := s.get (CUE.TSTAT.STATE c t) == st
def State.taskOf (s : State) (c t : Nat) : TaskSt := Tab.get TaskSt.atReset (s.core c).tasks t
def State.putTask (s : State) (c t : Nat) (x : TaskSt) : State :=
  s.putCore c { s.core c with tasks := Tab.set TaskSt.atReset (s.core c).tasks t x }

/-! ### Windows and register specifiers (R184, R244, R253) -/

/-- R253: windows of an arc; a LEN field of 0 means 32. -/
def arcLen (len : Nat) : Nat := if len = 0 then 32 else len

/-- R253: the window at a depth of a task's arc. -/
def State.windowAt (s : State) (c t depth : Nat) : Nat := (s.gov c (CUE.TCFG.BASE c t) + depth) % 32

/-- R253: the present window. -/
def State.window (s : State) (c : Nat) : Nat :=
  let t := (s.core c).task
  s.windowAt c t (s.get (CUE.TSTAT.WDEP c t))

/-- R244: the level was entered in normal service: its specifiers name a shadow bank. -/
def State.shadowed (s : State) (c : Nat) : Bool :=
  let k := (s.core c).level
  k != 0 && !s.on (CUE.ENT.MODE c k)

/-- Where a specifier's register stands. -/
inductive RegPlace where
  | zero
  | own (key : Nat)
  | bank (k j : Nat)

def ringKey (w i : Nat) : Nat := 16 + 16 * w + i

/-- R184, R185, R244, R253: the register that a specifier names. -/
def State.place (s : State) (c r : Nat) : RegPlace :=
  let w := s.window c
  let t := (s.core c).task
  let i := r % 8
  match r / 8 with
  | 0 => if i = 0 then .zero else .own i
  | 1 =>
    if s.shadowed c then .own (ringKey w (8 + i))
    else if s.get (CUE.TSTAT.WDEP c t) = 0 then .zero else .own (ringKey ((w + 31) % 32) (8 + i))
  | 2 => if s.shadowed c then .bank (s.core c).level i else .own (ringKey w i)
  | _ => if s.shadowed c then .bank (s.core c).level (8 + i) else .own (ringKey w (8 + i))

/-- The value of the register that a specifier names. -/
def State.reg (s : State) (c r : Nat) : Nat :=
  match s.place c r with
  | .zero => 0
  | .own k => Tab.get (fun _ => 0) (s.core c).regs k % 2 ^ 36
  | .bank k j => s.get (CUE.SB.W c k j)

/-- Write the register that a specifier names; what reads zero discards it. -/
def State.putReg (s : State) (c r v : Nat) : State :=
  match s.place c r with
  | .zero => s
  | .own k => s.putCore c { s.core c with regs := Tab.set (fun _ => 0) (s.core c).regs k (v % 2 ^ 36) }
  | .bank k j => s.put (CUE.SB.W c k j) v

/-- R186: a register pair as a double. -/
def State.pair (s : State) (c r : Nat) : Nat := s.reg c r * 2 ^ 36 + s.reg c (r + 1)
def State.putPair (s : State) (c r v : Nat) : State := (s.putReg c r (v / 2 ^ 36)).putReg c (r + 1) v

/-! ### Status (R187) -/

def bit (b : Bool) : Nat := if b then 1 else 0

/-- R187: the status word. -/
def State.status (s : State) (c : Nat) : Nat :=
  let x := s.core c
  x.task * 2 ^ 29 + s.window c * 2 ^ 24 + x.hrem * 2 ^ 12 + bit x.hold * 2 ^ 11 + x.level * 2 ^ 8 + bit x.cont * 2 ^ 7 +
    s.gov c (CUE.MODE.SAVEM c) * 2 ^ 6 + bit x.v * 8 + bit x.c * 4 + bit x.n * 2 + bit x.z

/-- Set Z and N, and where given C and V. -/
def State.setFlags (s : State) (c : Nat) (z n : Bool) (cf vf : Option Bool) : State :=
  let x := s.core c
  s.putCore c { x with z := z, n := n, c := cf.getD x.c, v := vf.getD x.v }

/-! ### Causes (R238 to R241) -/

/-- ACTIVE shows the level, the valid records and the levels with a pending cause. -/
def coreShow (c : Nat) (s : State) : State :=
  let x := s.core c
  let ks := List.range 8
  let pend (k : Nat) : Bool := x.inner.any (fun q => q.level == k) || x.evs.any (fun q => q.2.1 == k)
  let mask (p : Nat → Bool) : Nat := (ks.map (fun k => if k != 0 && p k then 2 ^ k else 0)).foldl (· + ·) 0
  ((s.put (CUE.ACTIVE.LEVEL c) x.level).put (CUE.ACTIVE.VALID c) (mask (fun k => s.on (CUE.ENT.V c k)))).put
    (CUE.ACTIVE.PENDL c) (mask pend)

/-- R240: post an internal cause; a repeat is merged. -/
def postInner (c code src info xarg : Nat) (s : State) : State :=
  let x := s.core c
  if x.inner.any (fun q => q.code == code) then s.incSat (CUE.LOSTEV.MERGED c)
  else coreShow c (s.putCore c { x with inner := x.inner ++ [⟨7, code, src, info, xarg⟩] })

/-- R282: the plan of a core as it stands. -/
def State.planOf (s : State) (c : Nat) : List PlanTask :=
  (List.range 8).map (fun t =>
    ⟨s.get (CTU.FPT.DEST c t), s.get (CTU.FPT.DTASK c t), s.get (CTU.FPT.DBASE c t), s.on (CTU.FPT.EXACT c t),
      s.get (CTU.FPRPC.RPC c t)⟩)

/-- R291: failures in order of detection; those of one tick, while no work of them moves, in ascending core number. -/
def moveIns (m : Move) : List Move → List Move
  | [] => [m]
  | x :: t => if x.at_ = m.at_ ∧ m.core < x.core ∧ x.done.isNone then m :: x :: t else x :: moveIns m t

/-- R282, R284, R291: a core in SERVICE, or a SPARE one, halts and waits for its move: what pends at its levels is discarded, the
fault entry names the lane and their count. Of a core that is out already the fault is only told (R295). -/
def coreFail (c : Nat) (code : FaultCode) (lane : Nat) (cmd : Bool) (s : State) : State :=
  if s.coreState c = 1 ∨ s.coreState c = 4 then
    let x := s.core c
    let lost := x.inner.length + x.evs.length
    let run := if s.taskIs c x.task 2 then some x.task else none
    let mv : Move := ⟨c, s.t, s.get (CTU.FPCORE.HEIR c), s.get (CTU.FPCORE.LVCORE c), s.planOf c, run, none, cmd, none⟩
    let s1 := s.putCore c { x with inner := [], evs := [], sync := none, entry := none, fresh := false, resume := false, next := none, stop := false, step := false }
    let s2 := ((s1.putCoreState c 2).put CTU.STATUS.MOVING 1).setCtu { s.ctu with moves := moveIns mv s.ctu.moves }
    coreShow c (s2.report code (elCore c) (lane + lost % 256 * 256))
  else s.reportAgain code (elCore c) lane

/-- R239: the level of a synchronous cause by its configured level; 0 acts as 7. -/
def actLevel (v : Nat) : Nat := if v = 0 then 7 else v

/-- R239: an instruction raises a cause: it waits at this boundary for its entry, or at level 7 the core fails. -/
def raiseSync (c code info xarg src : Nat) (s : State) : State :=
  let x := s.core c
  let trap := code == 2
  let v := actLevel (s.gov c (if trap then CUE.LVCFG.TRAPLV c else CUE.LVCFG.FLTLV c))
  let ret := if trap then (x.pc + 1) % 2 ^ 32 else x.pc
  if x.level < v then s.putCore c { x with sync := some (⟨v, code, src, info, xarg⟩, ret, trap), entry := none }
  else if x.level < 7 then s.putCore c { x with sync := some (⟨7, code, src, info, xarg⟩, ret, trap), entry := none }
  else coreFail c .coreDouble 0 false s

/-- Cause codes of R241. -/
def illegal (c info : Nat) (s : State) : State := raiseSync c 3 info 0 0 s

/-- R28: the cause of a bus response. -/
def busCause (r : Resp) : Nat :=
  match r with
  | .busOwn => 5
  | .busMap => 6
  | _ => 0x0C

/-! ### Results on their way (R210, R234 to R236) -/

/-- R262: a write to a group sets its dirty bit for the running task. -/
def dirty (c g : Nat) (s : State) : State :=
  let r := CUE.TSTAT.DIRTY c (s.core c).task
  if (s.core c).away then s else s.put r (s.get r ||| 2 ^ g)

/-- R210: one result lands. -/
def cpLand (c : Nat) (r : CpRes) (s : State) : State :=
  let x := s.core c
  let lim : Int := 2 ^ 71 - 1
  match r with
  | .acc i v false => dirty c 0 (s.putCore c { x with acc := x.acc.set i (unsgn 72 v) })
  | .wra i v => dirty c 0 (s.putCore c { x with acc := x.acc.set i (unsgn 72 v) })
  | .acc i v true =>
    let sum := sgn 72 (x.acc.getD i 0) + v
    let r := clampInt (-lim) lim sum
    let s1 := dirty c 0 (s.putCore c { x with
      acc := x.acc.set i (unsgn 72 r)
      mst := if r = sum then x.mst else x.mst ||| 2 ^ i })
    if r = sum then s1 else dirty c 1 s1
  | .div m0 m1 mst =>
    let m := match m1 with
      | some b => (x.m.set 0 m0).set 1 b
      | none => x.m.set 0 m0
    dirty c 1 (s.putCore c { x with m := m, mst := x.mst ||| mst })
  | .root m0 mst => dirty c 1 (s.putCore c { x with m := x.m.set 0 m0, mst := x.mst ||| mst })
  | .cor a b => dirty c 1 (s.putCore c { x with m := (x.m.set 0 a).set 1 b })

/-- R235: the distance of a result. -/
def CpRes.dist : CpRes → Nat
  | .acc _ _ _ => 4
  | .wra _ _ => 2
  | .div _ _ _ => 38
  | .root _ _ => 40
  | .cor _ _ => 24

/-- R210, R234: `n` cycles pass for the results on their way: those whose time comes land in its order, the later-issued one last. -/
def flyOn (c n : Nat) (s : State) : State :=
  let x := s.core c
  if x.fly.isEmpty then s
  else
    let due := x.fly.filter (fun f => decide (f.left ≤ n))
    let rest := (x.fly.filter (fun f => decide (n < f.left))).map (fun f => { f with left := f.left - n })
    let order := (List.range 41).flatMap (fun t => due.filter (fun f => f.left == t))
    order.foldl (fun u f => cpLand c f.res u) (s.putCore c { x with fly := rest })

/-- R251: HREM has reached 0. -/
def holdEnd (c : Nat) (s : State) : State :=
  let x := s.core c
  let s1 := s.putCore c { x with hold := false, hrem := 0, excess := false }
  if x.excess then (postInner c 0x0B x.level 0 x.pc s1).report .holdOverrun (elCore c) 0 else s1

/-- R250: `n` cycles pass for the hold that stands: HREM falls, and at 0 the hold ends. -/
def holdOn (c n : Nat) (s : State) : State :=
  let x := s.core c
  if !x.hold || n == 0 then s
  else if n < x.hrem then s.putCore c { x with hrem := x.hrem - n }
  else holdEnd c s

/-- R220: an instruction, an entry or a switch of the core takes `n` cycles. -/
def pass (c n : Nat) (s : State) : State :=
  holdOn c n (flyOn c n (s.putCore c { s.core c with ahead := (s.core c).ahead + n }))

/-- R9: the clock of a core in MHz. -/
def State.coreMHz (s : State) (c : Nat) : Nat :=
  match s.get (ISL.STAT.CLK (coreIsland c)) with
  | 0 => 1500
  | 1 => 1000
  | 2 => 750
  | _ => 375

/-- R9, R234: the cycles of a core from one tick to another, at its present clock; none where its island's clock stands. -/
def State.cyclesIn (s : State) (c t0 t1 : Nat) : Nat :=
  if s.island (coreIsland c) = 0 then t1 * s.coreMHz c / 1500 - t0 * s.coreMHz c / 1500 else 0

/-- R234, R250: ticks have brought cycles: those that the core's instructions have taken already are no others, and in the rest the
results on their way come nearer, and HREM falls unless the core is halted (R407). -/
def catchUp (c : Nat) (s : State) : State :=
  let x := s.core c
  let k := s.cyclesIn c x.seen s.t
  let u := flyOn c (k - x.ahead) (s.putCore c { x with seen := s.t, ahead := x.ahead - k })
  if s.coreHalted c then u else holdOn c (k - x.ahead) u

/-- R234: the cycles that the cores of an island have had before their clock changes or stands. -/
def islandCatchUp (i : Nat) (s : State) : State := (s.islandCores i).foldl (fun u c => catchUp c u) s

/-- R263: every result in flight lands. -/
def landAll (c : Nat) (s : State) : State := pass c (((s.core c).fly.map (fun f => f.left)).foldl max 0) s

/-- R210: CP_RESULT_LAND: the waits of the core let the oldest result of a unit land, and before it each earlier one whose
time comes no later. What was issued after it may have been issued after those waits. -/
def landUnit (c : Nat) (mine : CpRes → Bool) (s : State) : State :=
  let x := s.core c
  match x.fly.dropWhile (fun f => !mine f.res) with
  | [] => s
  | f :: later =>
    let s1 := pass c f.left (s.putCore c { x with fly := x.fly.takeWhile (fun g => !mine g.res) ++ [f] })
    s1.putCore c { s1.core c with fly := (s1.core c).fly ++ later }

/-! ### Loops (R202) -/

/-- The loop of the present level. -/
def State.loop (s : State) (c : Nat) : Option LoopSt :=
  let x := s.core c
  if x.level = 0 then (s.taskOf c x.task).loop else (x.loops.find? (fun e => e.1 == x.level)).map (fun e => e.2)

def State.putLoop (s : State) (c : Nat) (l : Option LoopSt) : State :=
  let x := s.core c
  if x.level = 0 then s.putTask c x.task { s.taskOf c x.task with loop := l }
  else match l with
    | some q => s.putCore c { x with loops := Tab.ins x.loops x.level q }
    | none => s.putCore c { x with loops := Tab.erase x.loops x.level }

/-- R202: the count falls; what remains decides between the start of the body and the end of the loop. -/
def backEdge (c : Nat) (s : State) : State :=
  match s.loop c with
  | none => s
  | some l =>
    let a := (s.reg c l.count + (2 ^ 36 - 1)) % 2 ^ 36
    let s1 := s.putReg c l.count a
    if a = 0 then s1.putLoop c none else s1.putCore c { s1.core c with pc := l.first }

/-- R202: the loop whose word at last, in its window, is the one at `pc`. -/
def State.loopAt (s : State) (c pc : Nat) : Option LoopSt :=
  (s.loop c).filter (fun l => l.last == pc && l.win == s.window c)

/-! ### Entry (R242 to R246) -/

/-- R238, R240: the pending cause that comes first among those above a level: highest level, then internal causes in their
order, then the lowest event. The flag tells an event. -/
def CoreSt.best (x : CoreSt) (above : Nat) : Option (Cause × Bool) :=
  let evs := (x.evs.filter (fun e => decide (above < e.2.1))).map (fun e =>
    ((⟨e.2.1, 1, e.1, 0, e.2.2⟩ : Cause), true))
  let ins := (x.inner.filter (fun q => decide (above < q.level))).map (fun q => (q, false))
  (ins ++ evs).foldl (fun b q =>
    match b with
    | none => some q
    | some p =>
      let before := decide (p.1.level < q.1.level) ||
        (p.1.level == q.1.level && ((!p.2 && !q.2 && decide (q.1.code < p.1.code)) || (p.2 && !q.2) ||
          (p.2 && q.2 && decide (q.1.src < p.1.src))))
      some (if before then q else p)) none

/-- CONTEXT_SAVE comes before HOLD_OVERRUN and STATUS_TAMPER: the order of R240 is that of the codes 0x0A, 0x0B, 0x0D. -/
def CoreSt.drop (x : CoreSt) (q : Cause) (event : Bool) : CoreSt :=
  if event then { x with evs := x.evs.filter (fun e => e.1 != q.src) }
  else { x with inner := x.inner.filter (fun p => p.code != q.code) }

/-- R241: the record of a level. -/
def putRecord (c : Nat) (q : Cause) (s : State) : State :=
  let k := q.level
  (((s.put (CUE.CAUSE.CODE c k) q.code).put (CUE.CAUSE.SRC c k) q.src).put (CUE.CAUSE.INFO c k) q.info).put
    (CUE.XARG.XARG c k) q.xarg

def putEnt (c k mode v from_ : Nat) (s : State) : State :=
  ((s.put (CUE.ENT.MODE c k) mode).put (CUE.ENT.V c k) v).put (CUE.ENT.ENTLVL c k) from_

/-- R243: level, hold and CONT of the status, the loop of the level, and the PC of an entry. -/
def enterAt (c k : Nat) (e : Option EntrySt) (s : State) : State :=
  let x := s.core c
  s.putCore c { x with
    lvl := Fin.ofNat 8 k
    hold := false
    hrem := 0
    excess := false
    cont := false
    mid := false
    loops := Tab.erase x.loops k
    pc := s.gov c (CUE.EPA.EPA c)
    sync := none
    next := none
    fresh := true
    entry := e }

/-- The causes that are pending, by code and source. -/
def CoreSt.pendKeys (x : CoreSt) : List (Nat × Nat) := x.inner.map (fun q => (q.code, q.src)) ++ x.evs.map (fun e => (1, e.1))

/-- The causes that are pending and that are not among those of a list. -/
def CoreSt.since (x : CoreSt) (had : List (Nat × Nat)) : CoreSt :=
  { x with
    inner := x.inner.filter (fun q => !had.contains (q.code, q.src))
    evs := x.evs.filter (fun e => !had.contains (1, e.1)) }

/-- R243, R246: entry at a cause's level with a return address, in 6 cycles or, in save-register mode, in 8. There H0 to H3 are
those that the handler's specifiers name. -/
def enter (c : Nat) (q : Cause) (ret : Nat) (trap : Bool) (undo : Option LoopSt) (s : State) : State :=
  let k := q.level
  let x := s.core c
  let st := s.status c
  let s1 := putRecord c q s
  if s.gov c (CUE.MODE.SAVEM c) = 0 then
    let s2 := ((putEnt c k 0 1 x.level s1).put (CUE.XPC.XPC c k) ret).put (CUE.XST.XST c k) st
    pass c 6 (coreShow c (enterAt c k (some ⟨q, ret, st, x.level, trap, undo, x.pendKeys⟩) s2))
  else
    let s2 := ((putEnt c k 1 1 x.level s1).put (CUE.SAVEPC.PC c k) ret).put (CUE.SAVEST.ST c k) st
    let s3 := enterAt c k none s2
    pass c 8 (coreShow c ((List.range 4).foldl (fun t i => t.put (CUE.SAVEH.H c k i) (s3.reg c (8 + i))) s3))

/-- R191, R202: entry of the synchronous cause of the instruction at the boundary. A TRAP has completed: where it is the word at
last of a loop, the count falls, and the return address is where execution goes on. -/
def enterSync (c : Nat) (q : Cause × Nat × Bool) (s : State) : State :=
  let x := s.core c
  match (if q.2.2 then s.loopAt c x.pc else none) with
  | none => enter c q.1 q.2.1 q.2.2 none s
  | some l =>
    let u := backEdge c (s.putCore c { x with pc := q.2.1 })
    enter c q.1 (u.core c).pc true (some l) u

/-- R238, R245: the pending cause that may be taken at this boundary: none under a hold, and none before the first instruction of a
handler. -/
def CoreSt.pend (x : CoreSt) : Option (Cause × Bool) := if x.hold || x.fresh then none else x.best x.level

/-- R238, R240: the core takes the cause that comes first at this boundary; a synchronous cause that loses is not kept. -/
def takeCause (c : Nat) (s : State) : State :=
  let x := s.core c
  let pend := x.pend
  match x.sync, pend with
  | some q, some p =>
    if q.1.level < p.1.level then enter c p.1 x.pc false none (s.putCore c { x.drop p.1 p.2 with sync := none })
    else enterSync c q s
  | some q, none => enterSync c q s
  | none, some p => enter c p.1 x.pc false none (s.putCore c (x.drop p.1 p.2))
  | none, none => s

/-- R202, R245: a TRAP whose entry is taken over runs again: where its completion counted in a loop, loop and count stand as
before it. -/
def uncount (c : Nat) (e : EntrySt) (s : State) : State :=
  match e.undo with
  | none => s
  | some l =>
    let k := (s.core c).lvl
    let s1 := s.putCore c { s.core c with lvl := Fin.ofNat 8 e.from_ }
    let s2 := (s1.putReg c l.count ((s1.reg c l.count + 1) % 2 ^ 36)).putLoop c (some l)
    s2.putCore c { s2.core c with lvl := k }

/-- R245: a cause of a higher level takes over an entry: it gets the record with the same XPC, XST and ENT, the lower record
is released, and a replaced cause pends again, or is raised again by its instruction. -/
def takeOver (c : Nat) (e : EntrySt) (p : Cause) (event : Bool) (s0 : State) : State :=
  let s := uncount c e s0
  let x := s.core c
  let trapAt := match e.undo with
    | some l => l.last
    | none => (e.xpc + 2 ^ 32 - 1) % 2 ^ 32
  let xpc := if e.trap then trapAt else e.xpc
  let y := x.drop p event
  let y1 : CoreSt :=
    if e.cause.code = 1 then { y with evs := y.evs ++ [(e.cause.src, e.cause.level, e.cause.xarg)] }
    else if e.cause.code = 0x0A ∨ e.cause.code = 0x0B ∨ e.cause.code = 0x0D then { y with inner := y.inner ++ [e.cause] }
    else y
  let s1 := putRecord c p ((s.putCore c y1).put (CUE.ENT.V c e.cause.level) 0)
  let s2 := ((putEnt c p.level 0 1 e.from_ s1).put (CUE.XPC.XPC c p.level) xpc).put (CUE.XST.XST c p.level) e.xst
  coreShow c (enterAt c p.level (some ⟨p, xpc, e.xst, e.from_, false, none, e.had⟩) s2)

/-! ### Return from entry (R248) -/

/-- R257, R263: the status and PC of the task that ran last go back to the Cue, unless they are no longer its own. -/
def parkTask (c : Nat) (s : State) : State :=
  let x := s.core c
  if x.away then s
  else (s.putTask c x.task { s.taskOf c x.task with z := x.z, n := x.n, c := x.c, v := x.v, cont := x.cont }).put
    (CUE.TPC.PC c x.task) x.pc

/-- R248: RETE at a level whose record is valid; at level 0 of an idle core what it restores is the state of the task that ran
last. -/
def returnFrom (c k : Nat) (s : State) : State :=
  let x := s.core c
  let saved := s.on (CUE.ENT.MODE c k)
  let st := if saved then s.get (CUE.SAVEST.ST c k) else s.get (CUE.XST.XST c k)
  let pc := if saved then s.get (CUE.SAVEPC.PC c k) else s.get (CUE.XPC.XPC c k)
  let lv := bits st 8 3
  let hold := bitOf st 11
  let low := decide (lv < k)
  let tamper := bit hold + (if low then 0 else 2)
  let s1 := if saved then (List.range 4).foldl (fun t i => t.putReg c (8 + i) (s.get (CUE.SAVEH.H c k i))) s else s
  let s2 := (s1.put (CUE.ENT.V c k) 0).putCore c
    { s1.core c with
      z := bitOf st 0
      n := bitOf st 1
      c := bitOf st 2
      v := bitOf st 3
      cont := bitOf st 7
      pc := pc
      lvl := Fin.ofNat 8 (if low then lv else s.get (CUE.ENT.ENTLVL c k))
      hold := false
      hrem := 0
      excess := false
      loops := Tab.erase x.loops k
      stks := Tab.erase x.stks k }
  let s3 := coreShow c (if tamper = 0 then s2
    else (postInner c 0x0D k tamper st s2).report .statusTamper (elCore c) 0)
  if (s3.core c).level = 0 ∧ !s3.taskIs c (s3.core c).task 2 then parkTask c s3 else s3

/-! ### Holds (R250, R251) -/

/-- R250: HOLD n. It sets HREM in its last cycle, until which a standing hold goes on; the three cycles of HOLD itself, which pass
after it has acted, are counted in. -/
def holdFor (c n : Nat) (s : State) : State :=
  let u := holdOn c 2 s
  let x := u.core c
  let mx := u.gov c (CUE.HOLDMAX.HOLDMAX c)
  if n = 0 then u.putCore c { x with hold := false, hrem := 0, excess := false }
  else if x.hold then
    if x.hrem ≤ 1 then holdEnd c u else u.putCore c { x with hrem := min (x.hrem - 1) n + 3 }
  else if mx = 0 then u
  else u.putCore c { x with hold := true, hrem := min n mx + 3, excess := decide (mx < n) }

/-! ### Calls and returns (R201, R247, R254, R255) -/

/-- R202: a taken transfer out of the body ends the loop. -/
def leaveLoop (c target : Nat) (s : State) : State :=
  match s.loop c with
  | some l => if target < l.first ∨ l.last < target then s.putLoop c none else s
  | none => s

/-- A transfer to an address. -/
def jumpTo (c target : Nat) (s : State) : State :=
  let s1 := leaveLoop c target s
  s1.putCore c { s1.core c with pc := target % 2 ^ 32 }

/-- R247, R254, R255: a call to a target with the return address. -/
def callTo (c target ret : Nat) (s : State) : State :=
  let x := s.core c
  let k := x.level
  let go (u : State) : State := u.putCore c { u.core c with pc := target % 2 ^ 32 }
  if k = 0 then
    let t := x.task
    let dep := s.get (CUE.TSTAT.WDEP c t)
    let rs := s.get (CUE.TSTAT.RSDEP c t)
    let q := s.taskOf c t
    if arcLen (s.gov c (CUE.TCFG.LEN c t)) ≤ dep + 1 then raiseSync c 7 0 0 t s
    else if rs = 16 ∧ s.gov c (CUE.TCFG.RSWRAP c t) = 0 then raiseSync c 8 0 0 t s
    else go (((s.putTask c t { q with stack := q.stack.set q.top ret, top := (q.top + 1) % 16 }).put (CUE.TSTAT.RSDEP c t)
      (min 16 (rs + 1))).put (CUE.TSTAT.WDEP c t) (dep + 1))
  else
    let st := Tab.get (fun _ => []) x.stks k
    if 4 ≤ st.length then raiseSync c 8 1 0 (8 + k) s
    else go (s.putCore c { x with stks := Tab.ins x.stks k (ret :: st) })

/-- R202: RETW from the window of the loop ends it. -/
def leaveLoopWindow (c : Nat) (s : State) : State :=
  match s.loop c with
  | some l => if l.win = s.window c then s.putLoop c none else s
  | none => s

/-- R247, R254, R255: a return. -/
def returnTo (c : Nat) (s : State) : State :=
  let x := s.core c
  let k := x.level
  if k = 0 then
    let t := x.task
    let dep := s.get (CUE.TSTAT.WDEP c t)
    let rs := s.get (CUE.TSTAT.RSDEP c t)
    let q := s.taskOf c t
    let top := (q.top + 15) % 16
    if dep = 0 then raiseSync c 7 1 0 t s
    else if rs = 0 ∧ s.gov c (CUE.TCFG.RSWRAP c t) = 0 then raiseSync c 9 0 0 t s
    else
      let s1 := leaveLoopWindow c s
      let s2 := ((s1.putTask c t { s1.taskOf c t with top := top }).put (CUE.TSTAT.RSDEP c t) (rs - 1)).put
        (CUE.TSTAT.WDEP c t) (dep - 1)
      s2.putCore c { s2.core c with pc := q.stack.getD top 0 }
  else
    match Tab.get (fun _ => []) x.stks k with
    | [] => raiseSync c 9 1 0 (8 + k) s
    | a :: rest =>
      let s1 := leaveLoopWindow c s
      s1.putCore c { s1.core c with pc := a, stks := Tab.ins x.stks k rest }

/-! ### Starting a core (R384, R290) -/

/-- The core's section at its reset values and its own state cleared (R289). -/
def coreClear (c : Nat) (s : State) : State :=
  let lo := (0x02041000 + 0x1000 * c) * 64
  let hi := lo + 0x1000 * 64
  ((s.setFields (s.fields.filter (fun e => !(decide (lo ≤ e.1) && decide (e.1 < hi))))).putCore c
    (CoreSt.atReset c)).put (CUE.TSTAT.STATE c 0) 0

/-- R217, R223: the banks that a core owns. -/
def State.ownBanks (s : State) (c : Nat) : List Nat :=
  (List.range 64).filter (fun b => s.get (BANKS.OWNER.OWNER b) == ownCore c)

/-- R242, R384: T0 starts at an address with its arc at windows 0 to 3 and L0 given; SAVEM = 1. -/
def coreStart (c entry epa l0 : Nat) (s : State) : State :=
  let s1 := ((coreClear c s).put (CUE.TSTAT.STATE c 0) 2).put (CUE.EPA.EPA c) epa
  let s2 := (s1.put (CUE.TPC.PC c 0) entry).putCore c { s1.core c with pc := entry, view := s.ownBanks c, seen := s.t }
  (s2.putReg c 16 l0).putCoreState c 1

end Sys2Proof.Machine
end

