-- ==== Sys2Proof/Machine/Islands.lean ====
section
/-! DEFINITION. Island power states, the device ledger and the wake of an island (R12, R365, R368, R371 to R373, R377). States
are 0 White, 1 Grey, 2 Charcoal, 3 Black. -/

namespace Sys2Proof.Machine

/-- R371: the draw of an island in White, in mW, at a clock. -/
def whiteDraw (i clk : Nat) : Nat :=
  if i < 4 then (match clk with | 0 => 900 | 1 => 560 | 2 => 400 | _ => 190)
  else if i < 12 then 420
  else if i < 16 then 190
  else if i = 16 then 90
  else if i < 19 then 110
  else if i = 19 then 80
  else if i < 24 then 60
  else match i with
    | 24 => 70
    | 25 => 50
    | 26 => 120
    | 27 => 450
    | 28 => 160
    | 29 => 220
    | _ => 40

/-- R371: the draw of an island in Charcoal, in mW. The table gives none for IS26, whose Gaffer stays White: it keeps its White draw
(DESIGN CHOICE, log entry 114). -/
def charcoalDraw (i : Nat) : Nat :=
  if i < 4 then 12
  else if i < 12 then 9
  else if i < 16 then 6
  else if i < 19 then 3
  else if i < 24 then 8
  else match i with
    | 24 => 3
    | 25 => 4
    | 26 => 120
    | 27 => 20
    | 28 => 5
    | 29 => 4
    | _ => 0

/-- R365, R371: the draw the ledger counts for an island in a state at a clock. -/
def drawIn (i st clk : Nat) : Nat := if st < 2 then whiteDraw i clk else if st = 2 then charcoalDraw i else 0

/-- R371: the ledger total. -/
def State.ledger (s : State) : Nat := 1500 + ((List.range 32).map (fun i => s.get (ISL.STAT.GRANT i))).foldl (· + ·) 0

def ledgerShow (s : State) : State := s.put GAF.DLEDGER.GRANTED s.ledger

/-- The ledger counts an island in a state at a clock. -/
def grantIn (i st clk : Nat) (s : State) : State := ledgerShow (s.put (ISL.STAT.GRANT i) (drawIn i st clk))

/-- R372: the budget that governs. -/
def State.budget (s : State) : Nat := max 8160 (min 11000 (s.get GAF.DBUDGET.BUDGET))

/-- R373: the slew that governs. -/
def State.slew (s : State) : Nat := max 250 (s.get GAF.DSLEW.SLEW)

/-- R372: the clock steps that can lower the ledger, in the order they are taken: island, clock after the step, mW saved. -/
def State.clockSteps (s : State) : List (Nat × Nat × Nat) :=
  [3, 2, 1, 0].flatMap (fun i =>
    if s.island i < 2 then
      ((List.range 3).filter (fun k => s.get (ISL.STAT.CLK i) ≤ k)).map (fun k => (i, k + 1, whiteDraw i k - whiteDraw i (k + 1)))
    else [])

/-- How many of the steps save at least `over` mW (all of them where they do not). -/
def stepsFor (excess : Nat) : List (Nat × Nat × Nat) → Nat
  | [] => 0
  | x :: t => if excess = 0 then 0 else 1 + stepsFor (excess - x.2.2) t

/-- R377: a source holds one request: a wake takes the place of a clock request of its island, which asks again once it is awake, and
two wakes are one that keeps the age of the first. -/
def wakeQueue (i prio target : Nat) (s : State) : State :=
  match s.gafQueue.find? (fun q => q.source == i) with
  | none => s.request ⟨false, i, prio, s.t, false, target⟩
  | some q =>
    if q.clock then (s.unrequest i).request ⟨false, i, prio, s.t, false, target⟩
    else s.setGafQueue (s.gafQueue.map (fun r =>
      if r.source = i then { r with prio := max r.prio prio, target := min r.target target } else r))

/-- R367, R377: a request to bring an island to a lighter state: one in Grey restarts at once, a deeper one queues. Where a wake to a
deeper state is under way, the rest of the way follows it. -/
def wakeRequest (i prio target : Nat) (s : State) : State :=
  if s.island i ≤ target then s
  else if s.island i = 1 then islandRestart i s
  else match s.gaf.waking.find? (fun w => w.1 == i) with
  | some w => if w.2 ≤ target then s else s.setGaf { s.gaf with later := s.gaf.later ++ [(i, prio, target)] }
  | none => wakeQueue i prio target s

/-- R367: the wakes of an island that waited for the one under way. -/
def wakeLater (i : Nat) (s : State) : State :=
  (s.gaf.later.filter (fun x => x.1 == i)).foldl (fun u x => wakeRequest i x.2.1 x.2.2 u)
    (s.setGaf { s.gaf with later := s.gaf.later.filter (fun x => x.1 != i) })

/-- R365, R367: a frame arrives at IS28, on a controller that is enabled or not. In Grey the clock restarts; in Charcoal and Black the
frame of an enabled controller wakes the island and is not received (DESIGN CHOICE, log entry 115). -/
def onFrame (en : Bool) (f : State → State) (s : State) : State :=
  if s.island 28 < 2 then f (islandRestart 28 s) else if en then wakeRequest 28 2 0 s else s

/-- R367: a cause or wake routed to a core wakes its island. -/
def coreWake (c : Nat) (s : State) : State := wakeRequest (coreIsland c) 2 0 s

end Sys2Proof.Machine
end

