-- ==== Sys2Proof/Machine/Cue.lean ====
section
/-! DEFINITION. The Cue: event routes, task switches and context groups, task control, and writes to a core's section (R257 to
R270). -/

namespace Sys2Proof.Machine

/-- R354, R384: no start is due or on its way to its handoff, and no wipe holds the cores in reset. -/
def State.handedOff (s : State) : Bool := s.boot.due.isNone && s.boot.hand.isNone && !s.flash.wipe

/-- The core is in SERVICE after a handoff, its island is clocked, and it is not halted (or a debug step is granted). -/
def State.coreActive (s : State) (c : Nat) : Bool :=
  s.handedOff && s.coreExists c && s.coreState c == 1 && s.island (coreIsland c) == 0 && (!s.coreHalted c || (s.core c).step)

/-! ### Wakes and routes (R259 to R261) -/

/-- R259, R261: bits of PEND are set; a task that waits for one of them becomes READY. -/
def cueWake (c t mask : Nat) (s : State) : State :=
  let p := s.get (CUE.PEND.PEND c t) ||| mask
  let s1 := s.put (CUE.PEND.PEND c t) p
  if s.taskIs c t 3 && (p &&& s.get (CUE.WMASK.WMASK c t)) != 0 then s1.put (CUE.TSTAT.STATE c t) 1 else s1

/-- R260: an event reaches a core's Cue. -/
def cueEvent (c : Nat) (e : Ev) (s : State) : State :=
  let sel := s.get (CUE.ROUTE.SEL c e.num)
  match s.get (CUE.ROUTE.ACT c e.num) with
  | 1 => cueWake c sel (2 ^ s.get (CUE.ROUTE.WBIT c e.num)) s
  | 2 =>
    let x := s.core c
    if sel = 0 then s
    else if x.evs.any (fun q => q.1 == e.num) then s.incSat (CUE.LOSTEV.MERGED c)
    else coreShow c (s.putCore c { x with evs := x.evs ++ [(e.num, sel, s.evStamp e)] })
  | _ => s

/-- R324: an event reaches the recorder. -/
def rushEvent (e : Ev) (s : State) : State :=
  rushTriggerAll (fun t c => t.get (RUSH.TRIG.KIND c) == 1 && t.get (RUSH.TRIG.NUM c) == e.num) e.stamp s

/-- R260: a route word that acts: ACT 1, and ACT 2 with a level. -/
def State.routeActs (s : State) (c num : Nat) : Bool :=
  s.get (CUE.ROUTE.ACT c num) == 1 || (s.get (CUE.ROUTE.ACT c num) == 2 && s.get (CUE.ROUTE.SEL c num) != 0)

/-- R20: a level event that the Cue is to stamp waits while the replica of the Cue's island has not been loaded. -/
def State.routeWaits (s : State) (c : Nat) (e : Ev) : Bool :=
  decide (c < 8) && s.unsynced (coreIsland c) && e.stamp.isNone && s.get (CUE.ROUTE.ACT c e.num) == 2 && s.routeActs c e.num

/-- EVENT_ROUTE: the oldest event that a core's Cue (0 to 7) or the rushes recorder (8) has not seen reaches it (R260,
R324). -/
def execEventRoute (d : Fin 9) (s : State) : Out :=
  .next (match s.nextEv d.val (fun _ => true) with
    | none => s
    | some e =>
      if s.routeWaits d.val e then s else
      let s1 := s.sawEv d.val e
      if d.val = 8 then rushEvent e s1
      else if s.coreExists d.val && s.coreState d.val == 1 then
        (if s1.routeActs d.val e.num then coreWake d.val (cueEvent d.val e s1) else s1)
      else s1)

/-- LEVEL_ENTRY: at a boundary the core takes the cause that comes first; `early`: a cause of a higher level became pending
in entry cycles 1 to 4 and takes the entry over (R238 to R246). A halted core takes no cause (R407). -/
def execLevelEntry (c : Fin 8) (early : Bool) (s0 : State) : Out :=
  let s := catchUp c.val s0
  let x := s.core c.val
  .next (if !s.coreActive c.val || s.coreHalted c.val || x.edge || (x.resume && x.sync.isNone) || s.held.any (fun h => h.agent == ownCore c.val) then s0
    else if early then
      match x.entry with
      | some e =>
        if s.gov c.val (CUE.MODE.LATE c.val) = 1 then
          match (x.since e.had).best e.cause.level with
          | some p => takeOver c.val e p.1 p.2 s
          | none => s0
        else s0
      | none => s0
    else if x.sync.isNone && x.pend.isNone then s0
    else takeCause c.val s)

/-- HOLD_EXPIRE: the cycles pass in which HREM of a core reaches 0 (R251). -/
def execHoldExpire (c : Fin 8) (s : State) : Out :=
  let u := catchUp c.val s
  .next (if (u.core c.val).hold && u.coreActive c.val && !u.coreHalted c.val then pass c.val (u.core c.val).hrem u else u)

/-! ### Context groups (R262 to R267) -/

/-- R262: offset of a group in a CSA. -/
def groupAt (g : Nat) : Nat := match g with | 0 => 0 | 1 => 8 | 2 => 13 | _ => 15
def groupLen (g : Nat) : Nat := match g with | 0 => 8 | 1 => 5 | _ => 2

/-- R262: the words of a group. -/
def State.groupWords (s : State) (c g : Nat) : List Nat :=
  let x := s.core c
  match g with
  | 0 => x.acc.flatMap (fun a => [a / 2 ^ 36, a % 2 ^ 36])
  | 1 => x.m ++ [x.mst]
  | 2 => [s.get (CUE.CPREC0.REC c), s.get (CUE.CPREC1.REC c)]
  | _ => [x.tag.1, x.tag.2]

/-- R262: give a group its words. -/
def State.putGroup (s : State) (c g : Nat) (ws : List Nat) : State :=
  let x := s.core c
  let w (i : Nat) : Nat := ws.getD i 0
  match g with
  | 0 => s.putCore c { x with acc := (List.range 4).map (fun i => w (2 * i) * 2 ^ 36 + w (2 * i + 1)) }
  | 1 => s.putCore c { x with m := [w 0, w 1, w 2, w 3], mst := w 4 }
  | 2 => (s.put (CUE.CPREC0.REC c) (w 0)).put (CUE.CPREC1.REC c) (w 1)
  | _ => s.putCore c { x with tag := (w 0, w 1) }

/-- The groups of a mask. -/
def groupsOf (mask : Nat) : List Nat := (List.range 4).filter (fun g => bitOf mask g)

/-- R264: the CSA of a task is valid. -/
def State.csaValid (s : State) (c t : Nat) : Bool :=
  let a := s.gov c (CUE.CSA.ADDR c t)
  match bankOf? a with
  | some b => s.get (BANKS.OWNER.OWNER b) == ownCore c && a % 32 == 0 && decide (17 ≤ 4 * s.gov c (CUE.CSA.SIZE c t))
  | none => false

/-- XARG of CONTEXT_SAVE: the CSA word of the task. -/
def State.csaWord (s : State) (c t : Nat) : Nat := s.gov c (CUE.CSA.SIZE c t) * 2 ^ 32 + s.gov c (CUE.CSA.ADDR c t)

/-- Write a group's words to a CSA, and read them back. -/
def saveGroup (c t : Nat) (ws : List Nat) (g : Nat) (s : State) : State :=
  (bankWrites (ownCore c) (s.gov c (CUE.CSA.ADDR c t) + groupAt g) ws s).st

/-- R265: groups that cannot be saved go to the park registers, or are lost when these are full. -/
def parkGroups (c t : Nat) (gs : List Nat) (s : State) : State :=
  let s1 := ((s.put (CUE.TSTAT.STATE c t) 4).put (CUE.TSTAT.FCAUSE c t) 1).put (CUE.TSTAT.DIRTY c t) 0
  if s.on (CUE.PARKCTL.FULL c) then coreFail c .corePark 0 false s1
  else
    let s2 := gs.foldl (fun u g => (List.range (groupLen g)).foldl (fun w i =>
      w.put (CUE.PARK.W c (groupAt g + i)) ((s.groupWords c g).getD i 0)) u) s1
    let s3 := ((s2.put (CUE.PARKCTL.FULL c) 1).put (CUE.PARKCTL.TASK c) t).put (CUE.PARKCTL.GROUPS c)
      ((gs.map (2 ^ ·)).foldl (· + ·) 0)
    (postInner c 0x0A t 0 (s.csaWord c t) s3).report .contextSave (elCore c) t

/-- R263: the dirty groups of the outgoing task are saved. -/
def switchOut (c t : Nat) (s : State) : State :=
  let gs := groupsOf (s.get (CUE.TSTAT.DIRTY c t))
  if gs.isEmpty then s
  else if s.csaValid c t then
    let s1 := gs.foldl (fun u g => saveGroup c t (s.groupWords c g) g u) s
    (s1.put (CUE.TSTAT.SAVED c t) (s.get (CUE.TSTAT.SAVED c t) ||| s.get (CUE.TSTAT.DIRTY c t))).put (CUE.TSTAT.DIRTY c t) 0
  else parkGroups c t gs s

/-- R263: a group is read from the incoming task's CSA; none where a word of it cannot be read. -/
def loadGroup (c t g : Nat) (s : State) : Option (List Nat) × State :=
  bankReads (ownCore c) (s.gov c (CUE.CSA.ADDR c t) + groupAt g) (groupLen g) s

/-- R263: the groups of the incoming task: saved ones from its CSA, every other one zero. -/
def switchGroups (c t : Nat) : List Nat → State → Option State
  | [], s => some s
  | g :: rest, s =>
    if bitOf (s.get (CUE.TSTAT.SAVED c t)) g then
      let r := loadGroup c t g s
      match r.1 with
      | some ws => switchGroups c t rest (r.2.putGroup c g ws)
      | none => none
    else switchGroups c t rest (s.putGroup c g [])

/-- R266: a restore is refused. -/
def refuseRestore (c t : Nat) (s : State) : State :=
  let s1 := (s.put (CUE.TSTAT.STATE c t) 4).put (CUE.TSTAT.FCAUSE c t) 2
  (postInner c 0x0A t 1 (s.csaWord c t) s1).report .contextSave (elCore c) t

/-- R263, R266: the groups of the incoming task, or none where its restore is refused. -/
def switchIn (c t : Nat) (s : State) : Option State :=
  if s.get (CUE.TSTAT.SAVED c t) != 0 && !s.csaValid c t then none else switchGroups c t [0, 1, 2, 3] s

/-- R258: the READY task that comes first: highest PRIO, then cyclic order after task `t`; with `above`, only a PRIO above it. -/
def State.pickTask (s : State) (c t : Nat) (above : Option Nat) : Option Nat :=
  let prio (q : Nat) : Nat := s.gov c (CUE.TCFG.PRIO c q)
  ((List.range 8).map (fun i => (t + 1 + i) % 8)).foldl (fun b q =>
    if s.taskIs c q 1 && (match above with | some p => decide (p < prio q) | none => true) then
      match b with
      | none => some q
      | some r => if prio r < prio q then some q else b
    else b) none

/-- R258: the task the Cue would switch to now. -/
def State.nextTask (s : State) (c : Nat) : Option Nat :=
  let t := (s.core c).task
  s.pickTask c t (if s.taskIs c t 2 then some (s.gov c (CUE.TCFG.PRIO c t)) else none)

/-- R258: a switch is due at this boundary. -/
def State.switchDue (s : State) (c : Nat) : Bool :=
  let x := s.core c
  x.level == 0 && !x.hold && x.sync.isNone && !x.edge && !x.mid && !x.stop && (s.nextTask c).isSome

/-- R259: a WAITE that was waiting completes when its task runs again. -/
def waitDone (c t : Nat) (s : State) : State :=
  match (s.taskOf c t).wait with
  | none => s
  | some (d, released) =>
    let s1 := s.putTask c t { s.taskOf c t with wait := none }
    let p := s.get (CUE.PEND.PEND c t)
    let got := if released then 0 else p &&& s.get (CUE.WMASK.WMASK c t)
    ((s1.put (CUE.PEND.PEND c t) (p - got)).put (CUE.WMASK.WMASK c t) 0).putReg c d got

/-- R233, R258, R263: a task becomes the running one, with what the Cue holds for it; the loop buffer holds no word for it. -/
def runTask (c t : Nat) (s : State) : State :=
  let q := s.taskOf c t
  let s1 := s.putCore c { s.core c with
    tsk := Fin.ofNat 8 t
    pc := s.get (CUE.TPC.PC c t)
    z := q.z
    n := q.n
    c := q.c
    v := q.v
    cont := q.cont
    away := false
    next := none
    buf := [] }
  waitDone c t (s1.put (CUE.TSTAT.STATE c t) 2)

/-- R263, R266: choose an incoming task and restore it; a refused one is faulted and the Cue chooses again. -/
def switchTo (c : Nat) : Nat → State → State
  | 0, s => s
  | n + 1, s =>
    match s.pickTask c (s.core c).task none with
    | none => s
    | some t =>
      match switchIn c t s with
      | some u => runTask c t u
      | none => switchTo c n (refuseRestore c t s)

/-! ### Task control (R268) -/

/-- R268: TRES. -/
def taskResult (c t code status : Nat) (s : State) : State :=
  (((s.put (CUE.TRES.STATUS c) status).put (CUE.TRES.STATE c) (s.get (CUE.TSTAT.STATE c t))).put (CUE.TRES.TASK c) t).put
    (CUE.TRES.CODE c) code

/-- The windows of an arc. -/
def arcWindows (base len : Nat) : List Nat := (List.range (arcLen len)).map (fun i => (base + i) % 32)
def arcsMeet (b1 l1 b2 l2 : Nat) : Bool := (arcWindows b1 l1).any (arcWindows b2 l2).contains

/-- R268, R285: an arc overlaps the arc of a task that is not OFF. -/
def State.arcTaken (s : State) (c base len : Nat) : Bool :=
  (List.range 8).any (fun q => !s.taskIs c q 0 && arcsMeet base len (s.gov c (CUE.TCFG.BASE c q)) (s.gov c (CUE.TCFG.LEN c q)))

/-- R268: a task enters READY as START leaves it. -/
def taskFresh (c t : Nat) (s : State) : State :=
  let s1 := ((s.put (CUE.TSTAT.WDEP c t) 0).put (CUE.TSTAT.RSDEP c t) 0).put (CUE.TSTAT.SAVED c t) 0
  let s2 := ((s1.put (CUE.TSTAT.FCAUSE c t) 0).put (CUE.PEND.PEND c t) 0).put (CUE.TSTAT.STATE c t) 1
  s2.putTask c t (TaskSt.atReset t)

/-- R268: START. -/
def taskStart (c t : Nat) (s : State) : State :=
  let len := s.gov c (CUE.TCFG.LEN c t)
  if !s.taskIs c t 0 then taskResult c t 1 1 s
  else if len = 1 then taskResult c t 1 4 s
  else if s.arcTaken c (s.gov c (CUE.TCFG.BASE c t)) len then taskResult c t 1 5 s
  else taskResult c t 1 0 (taskFresh c t s)

/-- R268: a task enters OFF; its groups are dropped, and where it ran last the sequencer holds nothing of a task. -/
def taskOff (c t : Nat) (s : State) : State :=
  let s1 := (((s.put (CUE.TSTAT.STATE c t) 0).put (CUE.TSTAT.DIRTY c t) 0).put (CUE.TSTAT.SAVED c t) 0).putTask c t (TaskSt.atReset t)
  if (s1.core c).task = t then s1.putCore c { s1.core c with away := true, stop := false } else s1

/-- R268: STOP; that of the running task waits for its boundary at level 0. -/
def taskStop (c t : Nat) (s : State) : State :=
  if s.taskIs c t 0 then taskResult c t 2 1 s
  else if s.taskIs c t 2 then s.putCore c { s.core c with stop := true }
  else taskResult c t 2 0 (taskOff c t s)

/-- R268: RESUME. -/
def taskResume (c t : Nat) (s : State) : State :=
  if !s.taskIs c t 4 then taskResult c t 3 1 s
  else if !s.csaValid c t || (s.on (CUE.PARKCTL.FULL c) && s.get (CUE.PARKCTL.TASK c) == t) then taskResult c t 3 4 s
  else taskResult c t 3 0 ((s.put (CUE.TSTAT.STATE c t) 1).put (CUE.TSTAT.FCAUSE c t) 0)

/-- R268: RELEASE. -/
def taskRelease (c t : Nat) (s : State) : State :=
  if !s.taskIs c t 3 then taskResult c t 4 1 s
  else
    let q := s.taskOf c t
    taskResult c t 4 0 ((s.putTask c t { q with wait := q.wait.map (fun w => (w.1, true)) }).put (CUE.TSTAT.STATE c t) 1)

/-- R268: a write to TCMD. -/
def taskCommand (c t code : Nat) (s : State) : State :=
  match code with
  | 1 => taskStart c t s
  | 2 => taskStop c t s
  | 3 => taskResume c t s
  | 4 => taskRelease c t s
  | _ => taskResult c t code 4 s

/-- R269: who may write a core's section beside POST. -/
def cueMay (agent c : Nat) : Bool := agent == ownCore c || agent == ownDebug

/-- R27, R269: the access of a section that does not exist, or a write by another agent. -/
def cueGate (agent c : Nat) (f : State → State) (s : State) : State :=
  if !s.coreExists c then s.answer agent .busMap 0 0
  else if !cueMay agent c then s.answer agent .busOwn 0 0
  else (f s).answer agent .ok 0 0

/-- TASK_STOP_DONE: the boundary at level 0 that a STOP of the running task waits for (R268). -/
def execTaskStopDone (c : Fin 8) (s : State) : Out :=
  let x := s.core c.val
  .next (if x.stop && x.level == 0 && !x.edge && !x.mid && !x.resume && x.sync.isNone && !s.held.any (fun h => h.agent == ownCore c.val) then
    taskResult c.val x.task 2 0 (taskOff c.val x.task (s.putCore c.val { x with stop := false }))
  else s)

/-- R267: FLUSH. -/
def cueFlush (c : Nat) (s : State) : State :=
  let t := s.get (CUE.PARKCTL.TASK c)
  let mask := s.get (CUE.PARKCTL.GROUPS c)
  if !s.on (CUE.PARKCTL.FULL c) then s
  else if s.csaValid c t then
    let s1 := (groupsOf mask).foldl (fun u g =>
      saveGroup c t ((List.range (groupLen g)).map (fun i => s.get (CUE.PARK.W c (groupAt g + i)))) g u) s
    (s1.put (CUE.TSTAT.SAVED c t) (s.get (CUE.TSTAT.SAVED c t) ||| mask)).put (CUE.PARKCTL.FULL c) 0
  else taskResult c t 0xF 4 s

/-- R267: DISCARD. -/
def cueDiscard (c : Nat) (s : State) : State :=
  (List.range 17).foldl (fun u i => u.put (CUE.PARK.W c i) 0) ((s.put (CUE.PARKCTL.FULL c) 0).put (CUE.PARKCTL.GROUPS c) 0)

/-! ### Writes to a section (R269, R270) -/

/-- R270: a write of a shadow bank word. -/
def shadowWrite (agent c k j v : Nat) (s : State) : State :=
  if !cueMay agent c || s.gov c (CUE.MODE.SAVEM c) == 0 then s.answer agent .busOwn 0 0
  else (s.put (CUE.SB.W c k j) v).answer agent .ok 0 0

/-- R4, R217, R387: the fields of a word of a section: RWS fields keep governing until SYNC; in a recovery start writes to
SAVEM are discarded. -/
def cueFields (c adr v : Nat) (s : State) : State :=
  (fields! adr).foldl (fun u f =>
    if s.boot.recov && (⟨adr, f.lo, f.w⟩ : FRef) == CUE.MODE.SAVEM c then u
    else if f.acc = .rws then u.putRws c ⟨adr, f.lo, f.w⟩ (bits v f.lo f.w) else u.writeField adr v false f) s

/-- R269: a locked field is written in a state that keeps it. -/
def lockedWrite (c t : Nat) (s : State) : State := taskResult c t 0xE 1 s

/-- R269: a write to TCFGt (`pc` false) or TPCt. -/
def taskWordWrite (c t : Nat) (pc : Bool) (v : Nat) (s : State) : State :=
  if pc then
    if s.taskIs c t 0 || s.taskIs c t 4 then s.put (CUE.TPC.PC c t) v else lockedWrite c t s
  else if s.taskIs c t 0 then cueFields c (CUE.TCFG.adr c t) v s
  else lockedWrite c t (s.putRws c (CUE.TCFG.PRIO c t) (bits v 12 4))

/-- The aliases CUR_CAUSE (0), CUR_XARG (1), CUR_PC (2) and CUR_ST (3). -/
def State.curWord (s : State) (c j : Nat) : Nat :=
  let k := (s.core c).level
  let saved := s.on (CUE.ENT.MODE c k)
  if k = 0 then 0 else match j with
  | 0 => s.wordOf (CUE.CAUSE.adr c k) (fields! (CUE.CAUSE.adr c k))
  | 1 => s.get (CUE.XARG.XARG c k)
  | 2 => if saved then s.get (CUE.SAVEPC.PC c k) else s.get (CUE.XPC.XPC c k)
  | _ => if saved then s.get (CUE.SAVEST.ST c k) else s.get (CUE.XST.XST c k)

def curWrite (c j v : Nat) (s : State) : State :=
  let k := (s.core c).level
  let saved := s.on (CUE.ENT.MODE c k)
  if k = 0 then s else match j with
  | 2 => if saved then s.put (CUE.SAVEPC.PC c k) v else s.put (CUE.XPC.XPC c k) v
  | 3 => if saved then s.put (CUE.SAVEST.ST c k) v else s.put (CUE.XST.XST c k) v
  | _ => s

/-- A write at an offset of a core's section (R261, R267 to R270). -/
def cueWrite (agent c off v : Nat) (s : State) : State :=
  let adr := 0x02041000 + 0x1000 * c + off
  let t := (off - 0x100) / 0x10
  let gate (f : State → State) : State := cueGate agent c f s
  if off = 7 then
    (if s.coreExists c then (cueWake c (bits v 32 3) (bits v 0 32) s).answer agent .ok 0 0 else s.answer agent .busMap 0 0)
  else if off = 5 then gate (taskCommand c (bits v 4 3) (bits v 0 4))
  else if off = 8 then gate (fun u => (fun w => if bitOf v 1 then cueDiscard c w else w) (if bitOf v 0 then cueFlush c u else u))
  else if 0xC ≤ off ∧ off < 0x10 then gate (curWrite c (off - 0xC) v)
  else if 0x100 ≤ off ∧ off < 0x180 ∧ off % 0x10 ≤ 1 then gate (taskWordWrite c t (off % 0x10 == 1) v)
  else if 0x210 ≤ off ∧ off < 0x280 then
    (if s.coreExists c then shadowWrite agent c ((off - 0x200) / 0x10) (off % 0x10) v s else s.answer agent .busMap 0 0)
  else gate (cueFields c adr v)

/-- What a read at an offset of a core's section returns. -/
def State.cueWord (s : State) (c off : Nat) : Nat :=
  let adr := 0x02041000 + 0x1000 * c + off
  if 0xC ≤ off ∧ off < 0x10 then s.curWord c (off - 0xC) else s.wordOf adr (fields! adr)

end Sys2Proof.Machine
end

