-- ==== Sys2Proof/Machine/Ctu.lean ====
section
/-! DEFINITION. The Continuity Unit: fault reports and the fault log, the checks of the safe cores, core failover and core
commands (R273 to R298). -/

namespace Sys2Proof.Machine

/-! ### Fault reports (R293 to R297) -/

def FaultClass.num : FaultClass → Nat
  | .amber => 1
  | .red => 2
  | .cut => 3

/-- R296: what ACTION says of each fault, by the reaction its table names (DEDUCED, row 40). -/
def FaultCode.action : FaultCode → Nat
  | .engineEcc | .takeFault | .retakeFault | .reelEcc | .bankEcc | .ddrEcc | .flashEcc | .storeRecovered => 1
  | .coreLbist | .lbistFail | .bankRed | .flashRemap | .sigLost => 2
  | .coreMismatch | .coreScrub | .coreCheck | .corePark | .coreDouble | .coreWithdrawn | .taskRestart | .engineRed => 3
  | .lawLost | .portParity | .vioLow => 4
  | .coreNone | .ctuDisagree | .ctuSilent | .treeLost | .treeMismatch | .tjShutdown | .bootfail => 5
  | _ => 0

/-- R295: the latch is already set by these; they make no request. -/
def FaultCode.latchOnly (c : FaultCode) : Bool := c == .cutCtu || c == .cutInput || c == .cutUv || c == .cutHost

/-- R296: the log is full: the oldest Amber entry gives its slot, else the oldest entry. -/
def State.logVictim (s : State) : Nat :=
  match s.ctu.order.find? (fun i => s.get (CTU.LOG.W i 0) / 2 ^ 34 == 1) with
  | some i => i
  | none => s.ctu.order.headD 0

/-- R296: the slot of the next entry; while one is free, it is the one numbered COUNT. -/
def logPlace (s : State) : Nat × State :=
  let n := s.get CTU.LOGCTL.COUNT
  if n < 512 then (n, s.put CTU.LOGCTL.COUNT (n + 1))
  else
    let i := s.logVictim
    (i, (s.incSat CTU.LOGCTL.LOST).setCtu { s.ctu with order := s.ctu.order.filter (· != i) })

/-- R295, R296: the four words of an entry. -/
def logWords (r : Report) (seq t : Nat) : List Nat :=
  [r.code.cls.num * 2 ^ 34 + r.code.num * 2 ^ 24 + r.elem % 2 ^ 12 * 2 ^ 12 + seq, t % 2 ^ 36,
    (if r.again then 0 else r.code.action) * 2 ^ 28 + t / 2 ^ 36 % 2 ^ 28, r.info % 2 ^ 36]

/-- R286: the move of a core learns SEQ of the core's fault entry. -/
def moveSeq (r : Report) (seq : Nat) (s : State) : State :=
  let core := match r.code with
    | .coreMismatch | .coreScrub | .coreCheck | .corePark | .coreDouble | .coreWithdrawn => true
    | _ => false
  if core then
    s.setCtu { s.ctu with moves := s.ctu.moves.map (fun m =>
      if elCore m.core == r.elem && m.seq.isNone then { m with seq := some seq } else m) }
  else s

/-- R324: recorder channels that a logged fault triggers. -/
def faultTriggers (r : Report) (stamp : Nat) (s : State) : State :=
  rushTriggerAll (fun t c =>
    (t.get (RUSH.TRIG.KIND c) == 2 && decide (t.get (RUSH.TRIG.NUM c) % 4 ≤ r.code.cls.num)) ||
    (t.get (RUSH.TRIG.KIND c) == 3 && t.get (RUSH.TRIG.NUM c) % 256 == r.code.num)) (some stamp) s

/-- R20, R296: the timecode of a log entry, free while the halves wait for their sync word and stamp nothing (DESIGN CHOICE, log 136). -/
def logTime (s : State) : Nat × State := if s.unsynced 30 then (Config.freeValue s.free % 2 ^ 64, s.draw) else (s.t, s)

/-- R295, R296, R420: a report is written to the log, with its event and NOTICE. -/
def logReport (r : Report) (s0 : State) : State :=
  let (tc, s) := logTime s0
  let seq := s.ctu.seq
  let ws := logWords r seq tc
  let p := logPlace s
  let s1 := (List.range 4).foldl (fun u w => u.put (CTU.LOG.W p.1 w) (ws.getD w 0)) p.2
  let s2 := (s1.setCtu { s1.ctu with order := s1.ctu.order ++ [p.1], seq := (seq + 1) % 4096 }).put CTU.LOGCTL.LAST p.1
  let s3 := (if r.again then s2 else moveSeq r seq s2).raise (if r.code.cls = .amber then 256 else 257)
  let s4 := s3.raiseIf (s3.get CTU.LOGCTL.COUNT == 384 && s.get CTU.LOGCTL.COUNT == 383) 259
  let s5 := match r.code.cls with
    | .amber => s4.put CTU.STATUS.AMBER 1
    | .red => s4.put CTU.STATUS.RED 1
    | .cut => s4
  let s6 := if r.code.cls != .amber || r.code == .sceneMissing then noticeAll (ws.flatMap wordField) s5 else s5
  faultTriggers r (tc % 2 ^ 36) s6

/-- R297: a report counts, logged or not. -/
def countReport (r : Report) (s : State) : State := s.incSat (CTU.FCNT.COUNT r.code.num)

/-- R296: Amber reports that found the queue of 64 full are not logged. -/
def dropReport (r : Report) (s : State) : State :=
  moveSeq r (Config.freeValue s.free % 4096) (((countReport r s).incSat CTU.LOGCTL.LOST).draw)

/-- R296: of a list of reports, those that stay: every Red and CUT one, and the first `n` Amber ones. -/
def keepAmber : Nat → List Report → List Report × List Report
  | _, [] => ([], [])
  | n, r :: t =>
    if r.code.cls = .amber then
      match n with
      | 0 => let q := keepAmber 0 t; (q.1, r :: q.2)
      | m + 1 => let q := keepAmber m t; (r :: q.1, q.2)
    else let q := keepAmber n t; (r :: q.1, q.2)

/-- R295: the reaction of a CUT-class report. -/
def reactCut (r : Report) (s : State) : State :=
  if r.code.cls = .cut && !r.code.latchOnly then ctuRequest (r.code == .coreNone) s else s

/-- FAULT_REPORT: the oldest report reaches both halves, which classify it, react, log and count it; `agree`: their decisions
are the same (R293 to R297). -/
def execFaultReport (agree : Bool) (s : State) : Out :=
  let q := keepAmber 64 s.reports
  .next (match q.1 with
    | [] => s
    | r :: rest =>
      let s1 := q.2.foldl (fun u d => dropReport d u) (s.setReports rest)
      let s2 := logReport r (reactCut r (countReport r s1))
      if agree then s2 else ctuFault .ctuDisagree s2)

/-- CTU_HEARTBEAT: a half sends its heartbeat; `agree`: the reaction writes and register reads that the halves have compared
since its last one were the same (R294). -/
def execCtuHeartbeat (half : Fin 2) (s : State) (agree : Bool := true) : Out :=
  let s1 := s.put (if half.val = 0 then CTU.STATUS.AOK else CTU.STATUS.BOK) 1
  .next (if agree then s1 else ctuFault .ctuDisagree s1)

/-- CTU_SILENT: the heartbeat of a half has been absent for 1,024 cycles of the other, which requests CUT (R294). -/
def execCtuSilent (half : Fin 2) (s : State) : Out :=
  let s1 := s.put (if half.val = 0 then CTU.STATUS.AOK else CTU.STATUS.BOK) 0
  .next (if s.on (if half.val = 0 then CTU.STATUS.BOK else CTU.STATUS.AOK) then ctuFault .ctuSilent s1 else s1)

/-- R296: CLEAR of the log. -/
def logClear (s : State) : State :=
  let s1 := (List.range 512).foldl (fun u i => (List.range 4).foldl (fun w j => w.put (CTU.LOG.W i j) 0) u) s
  let s2 := (List.range 256).foldl (fun u k => u.put (CTU.FCNT.COUNT k) 0) s1
  (((s2.put CTU.LOGCTL.LOST 0).put CTU.LOGCTL.COUNT 0).put CTU.STATUS.DISAGREE 0).setCtu { s.ctu with order := [] }

/-- R296: a write to LOGCMD: the host link only. -/
def logCmdWrite (agent v : Nat) (s : State) : State :=
  if agent != ownHost then s.answer agent .busOwn 0 0
  else (if bitOf v 0 then logClear s else s).answer agent .ok 0 0

/-! ### Checks of the safe cores (R275 to R280) -/

/-- The mismatch record of a core. While the halves wait for their sync word they stamp nothing (R20), and MMSTAMP keeps what it holds
(DESIGN CHOICE, log 136). -/
def mismatch (c lane addr lead trail : Nat) (s : State) : State :=
  let s1 := ((s.put (CTU.MMINFO.VALID c) 1).put (CTU.MMINFO.LANE c) lane).put (CTU.MMADDR.ADDR c) (if lane < 2 then addr else 0)
  ((s1.put (CTU.MMLEAD.LEAD c) lead).put (CTU.MMTRAIL.TRAIL c) trail).put (CTU.MMSTAMP.STAMP c)
    (if s.unsynced 30 then s.get (CTU.MMSTAMP.STAMP c) else s.stamp)

/-- R280: the fault of a lane. -/
def laneFault (lane : Nat) : FaultCode := if lane = 5 then .coreScrub else if lane = 6 then .coreCheck else .coreMismatch

/-- R276, R280, R292: a mismatch on a lane takes the core out; a write whose token disagrees is discarded. With SPLIT the
comparator is off. -/
def coreMismatch (c lane addr lead trail : Nat) (s : State) : State :=
  if s.split then s
  else
    let s1 := mismatch c lane addr lead trail s
    let s2 := if lane < 3 then s1.putCore c { s1.core c with held := [] } else s1
    coreFail c (laneFault lane) lane false s2

/-- R278, R279, R292: a CHECK mismatch of a core, whose checker of lane `of_` fails. -/
def checkMismatch (c of_ lead trail : Nat) (s : State) : State :=
  if s.split then s
  else coreMismatch c 6 0 lead trail
    (((s.incSat CTU.INJSTAT.FAILS).put CTU.INJSTAT.FCORE c).put CTU.INJSTAT.FLANE of_)

/-- CORE_MISMATCH: a comparator lane reports a mismatch; on lane CHECK it is the output of lane `of_` that reads neither agree nor
mismatch (R275, R278, R280). -/
def execCoreMismatch (c : Fin 4) (lane : Fin 7) (addr lead trail : Word) (s : State) (of_ : Fin 7 := 0) : Out :=
  .next (if lane.val = 6 then checkMismatch c.val of_.val lead.toNat trail.toNat s
    else coreMismatch c.val lane.val addr.toNat lead.toNat trail.toNat s)

/-- Write words of a core's window ring. -/
def putRing (c w : Nat) (vs : List Nat) (s : State) : State :=
  let x := s.core c
  s.putCore c { x with regs := (List.range vs.length).foldl (fun l i => Tab.set (fun _ => 0) l (ringKey w i) (vs.getD i 0)) x.regs }

/-- The words of a window. -/
def State.ring (s : State) (c w : Nat) : List Nat := (List.range 16).map (fun i => Tab.get (fun _ => 0) (s.core c).regs (ringKey w i))

/-- R277: the eight words of the Cue's task state. -/
def State.taskWords (s : State) (c t : Nat) : List Nat :=
  let q := s.taskOf c t
  [s.get (CUE.TPC.PC c t), bit q.cont * 2 ^ 7 + bit q.v * 8 + bit q.c * 4 + bit q.n * 2 + bit q.z,
    s.get (CUE.TSTAT.RSDEP c t) * 2 ^ 9 + s.get (CUE.TSTAT.WDEP c t) * 2 ^ 4] ++
  (match q.loop with
    | some l => [l.first, l.last, 2 ^ 35 + l.win * 2 ^ 5 + l.count]
    | none => [0, 0, 0]) ++
  [s.get (CUE.PEND.PEND c t), s.get (CUE.WMASK.WMASK c t)]

/-- R277: the 930 words that a state scrub covers, in the order of its table. -/
def State.scrubWords (s : State) (c : Nat) : List Nat :=
  let x := s.core c
  let ks := (List.range 7).map (· + 1)
  let word (a : Nat) : Nat := s.wordOf a (fields! a)
  (List.range 8).map (fun i => Tab.get (fun _ => 0) x.regs i) ++ (List.range 32).flatMap (s.ring c) ++
    ks.flatMap (fun k => (List.range 16).map (fun j => s.get (CUE.SB.W c k j))) ++
    (List.range 8).flatMap (fun t => (s.taskOf c t).stack) ++
    ks.flatMap (fun k => (List.range 4).map (fun i => (Tab.get (fun _ => []) x.stks k).getD i 0)) ++ [s.status c] ++
    (List.range 8).flatMap (s.taskWords c) ++
    ks.flatMap (fun k => [word (CUE.CAUSE.adr c k), word (CUE.XARG.adr c k), word (CUE.XPC.adr c k), word (CUE.XST.adr c k),
      word (CUE.ENT.adr c k)]) ++
    ks.flatMap (fun k => [word (CUE.SAVEPC.adr c k), word (CUE.SAVEST.adr c k)] ++
      (List.range 4).map (fun i => s.get (CUE.SAVEH.H c k i)))

/-- R277: of the words of the lead, those of a trail that differs from it: bits to flip by the number of the word. -/
def trailWords (ws : List Nat) (flips : List (Nat × Nat)) : List Nat :=
  flips.foldl (fun l f => l.set f.1 (l.getD f.1 0 ^^^ f.2)) ws

/-- R277: the next multiple of `n` ticks from `t` on, but not before `from_`. -/
def nextMultiple (n t from_ : Nat) : Nat := (max t from_ + n - 1) / n * n

/-- STATE_SCRUB: a scrub pass of a core, at its multiple of 96,000 ticks; `flips` are the bits in which words of the trail differ
from the lead's (R277). Before its island's sync word no pass starts (R20). -/
def execStateScrub (c : Fin 4) (flips : List (Fin 930 × Word)) (s : State) : Out :=
  .next (if s.split || s.unsynced (coreIsland c.val) || !(s.coreState c.val == 1 || s.coreState c.val == 4) then s
    else
      let at_ := nextMultiple 96000 s.t (Tab.get (fun _ => 0) s.ctu.passes c.val)
      let s1 := s.advanceTo at_
      let s2 := (s1.setCtu { s1.ctu with passes := Tab.set (fun _ => 0) s1.ctu.passes c.val (at_ + 1) }).inc CTU.SCRSTAT.PASSES
      let lead := scrubCrc (s.scrubWords c.val)
      let trail := scrubCrc (trailWords (s.scrubWords c.val) (flips.map (fun f => (f.1.val, f.2.toNat))))
      if flips.isEmpty ∨ lead = trail then s2
      else coreMismatch c.val 5 0 lead trail ((s2.incSat CTU.SCRSTAT.MISM).put CTU.SCRSTAT.LCORE c.val))

/-- CHECKER_TEST: a test round over every lane of every safe core, at its multiple of 1 ms; `fails` names the cores and lanes whose
report is missing or wrong, with the words their checkers show (R279). Before the halves' sync word no round starts (R20). -/
def execCheckerTest (fails : List (Fin 4 × Fin 7 × Word × Word)) (s : State) : Out :=
  .next (if s.split || s.unsynced 30 then s
    else
      let at_ := nextMultiple msTicks s.t s.ctu.round
      let s1 := s.advanceTo at_
      let s2 := (s1.setCtu { s1.ctu with round := at_ + 1 }).inc CTU.INJSTAT.ROUNDS
      fails.foldl (fun u f => checkMismatch f.1.val f.2.1.val f.2.2.1.toNat f.2.2.2.toNat u) s2)

/-! ### Core failover (R281 to R291) -/

/-- R283: the core that inherits: the planned heir while in SERVICE, else the next core in SERVICE in ascending order. -/
def State.heirOf (s : State) (m : Move) : Option Nat :=
  let base := if m.heir = 0 then m.core else m.heir - 1
  ((List.range 8).map (fun i => (base + (if m.heir = 0 then 1 + i else i)) % 8)).find?
    (fun c => c != m.core && s.coreExists c && s.coreState c == 1)

/-- R283: every owner field that a failover moves. -/
def ownerFields : List FRef :=
  (List.range 68).map BANKS.OWNER.OWNER ++ ((List.range 0xA00).filter resourceExists).map SYS.CLM.OWNER ++
    (List.range 32).map SS.CTRL.OWNER ++ (List.range 32).map CMP.CTRL.OWNER ++ (List.range 16).map PF.CTRL.OWNER ++
    (List.range 4).map EMU.CTRL.OWNER ++ (List.range 64).map RL.CTRL.OWNER ++ (List.range 24).map LE.CTRL.OWNER ++
    (List.range 96).map GP.CTRL.OWNER ++ (List.range 96).map GP.CTRL.WSRC

/-- R283: the heir's ID replaces the failed core's. -/
def moveOwners (c heir : Nat) (s : State) : State :=
  ownerFields.foldl (fun u r => if u.get r = ownCore c then u.put r (ownCore heir) else u) s

/-- A field of the Cue that the hardware itself writes governs at once. -/
def putGoverning (c : Nat) (r : FRef) (v : Nat) (s : State) : State :=
  let x := s.core c
  (s.putCore c { x with stale := x.stale.filter (fun e => e.1 != r.key) }).put r v

/-- R285: TCFG and CSA of the slot that takes a task. -/
def moveConfig (c t : Nat) (d : PlanTask) (s : State) : State :=
  let e := d.dest - 1
  let s1 := putGoverning e (CUE.TCFG.PRIO e d.dtask) (s.gov c (CUE.TCFG.PRIO c t)) s
  let s2 := putGoverning e (CUE.TCFG.RSWRAP e d.dtask) (s.gov c (CUE.TCFG.RSWRAP c t)) s1
  let s3 := putGoverning e (CUE.TCFG.LEN e d.dtask) (s.gov c (CUE.TCFG.LEN c t)) s2
  let s4 := putGoverning e (CUE.TCFG.BASE e d.dtask) d.dbase s3
  let s5 := putGoverning e (CUE.CSA.SIZE e d.dtask) (s.gov c (CUE.CSA.SIZE c t)) s4
  putGoverning e (CUE.CSA.ADDR e d.dtask) (s.gov c (CUE.CSA.ADDR c t)) s5

/-- R285: an exact move. -/
def moveExact (c t : Nat) (d : PlanTask) (s : State) : State :=
  let e := d.dest - 1
  let u := d.dtask
  let base := s.gov c (CUE.TCFG.BASE c t)
  let len := arcLen (s.gov c (CUE.TCFG.LEN c t))
  let cp (r r' : FRef) (w : State) : State := w.put r' (s.get r)
  let s1 := moveConfig c t d s
  let s2 := cp (CUE.TSTAT.SAVED c t) (CUE.TSTAT.SAVED e u) (cp (CUE.TPC.PC c t) (CUE.TPC.PC e u) s1)
  let s3 := cp (CUE.TSTAT.WDEP c t) (CUE.TSTAT.WDEP e u) (cp (CUE.TSTAT.RSDEP c t) (CUE.TSTAT.RSDEP e u) s2)
  let s4 := cp (CUE.WMASK.WMASK c t) (CUE.WMASK.WMASK e u) (cp (CUE.PEND.PEND c t) (CUE.PEND.PEND e u) s3)
  let s5 := cp (CUE.TSTAT.STATE c t) (CUE.TSTAT.STATE e u) (cp (CUE.TSTAT.FCAUSE c t) (CUE.TSTAT.FCAUSE e u) s4)
  let q := s.taskOf c t
  let s6 := s5.putTask e u { q with loop := q.loop.map (fun l => { l with win := (l.win + 32 - base + d.dbase) % 32 }) }
  (List.range len).foldl (fun w i => putRing e ((d.dbase + i) % 32) (s.ring c ((base + i) % 32)) w) s6

/-- R286: a restart: START on the slot, and the first words of its arc. -/
def moveRestart (c t seq : Nat) (d : PlanTask) (s : State) : State :=
  let e := d.dest - 1
  let s1 := taskFresh e d.dtask ((moveConfig c t d s).put (CUE.TPC.PC e d.dtask) d.rpc)
  putRing e d.dbase [ownCore c, t, seq] s1

/-- R285: a task of the plan can be taken by its destination. -/
def State.takes (s : State) (c t : Nat) (d : PlanTask) : Bool :=
  let e := d.dest - 1
  decide (1 ≤ d.dest) && e != c && s.coreExists e && s.coreState e == 1 && s.taskIs e d.dtask 0 &&
    !s.arcTaken e d.dbase (s.gov c (CUE.TCFG.LEN c t))

/-- INFO of the task faults. -/
def taskInfo (t : Nat) (d : PlanTask) : Nat := d.dest % 16 * 16 + t

/-- R285: one task meets its outcome; the sums are the masks of tasks moved exact, restarted and shed. -/
def moveTask (m : Move) (agrees : Nat) (acc : (Nat × Nat × Nat) × State) (t : Nat) : (Nat × Nat × Nat) × State :=
  let s := acc.2
  let c := m.core
  let d := m.tasks.getD t ⟨0, 0, 0, false, 0⟩
  if s.taskIs c t 0 then acc
  else if !s.takes c t d then
    ((acc.1.1, acc.1.2.1, acc.1.2.2 + 2 ^ t), s.report .taskShed (elCore c) (taskInfo t d))
  else if d.exact && m.run != some t && !s.split && bitOf agrees t then
    ((acc.1.1 + 2 ^ t, acc.1.2.1, acc.1.2.2), moveExact c t d s)
  else
    ((acc.1.1, acc.1.2.1 + 2 ^ t, acc.1.2.2),
      (moveRestart c t (m.seq.getD 0) d s).report .taskRestart (elCore c) (taskInfo t d))

/-- R284: a route word goes to another core where that one has none; else the route is dropped. -/
def routeTo (c e n act sel wbit : Nat) (s : State) : State :=
  if s.get (CUE.ROUTE.ACT e n) = 0 then
    ((s.put (CUE.ROUTE.ACT e n) act).put (CUE.ROUTE.SEL e n) sel).put (CUE.ROUTE.WBIT e n) wbit
  else s.report .routeConflict (elCore c) n

/-- R284: one route of the failed core; `moved` is the mask of tasks that move. -/
def moveRoute (m : Move) (heir : Option Nat) (moved : Nat) (s : State) (n : Nat) : State :=
  let c := m.core
  let sel := s.get (CUE.ROUTE.SEL c n)
  let wbit := s.get (CUE.ROUTE.WBIT c n)
  let act := s.get (CUE.ROUTE.ACT c n)
  let d := m.tasks.getD sel ⟨0, 0, 0, false, 0⟩
  let lv := if m.lv = 0 then heir else some (m.lv - 1)
  let s1 := if act = 1 then (if bitOf moved sel then routeTo c (d.dest - 1) n 1 d.dtask wbit s else s)
    else if act = 2 then
      match lv with
      | some e => if s.coreExists e then routeTo c e n 2 sel wbit s else s
      | none => s
    else s
  ((s1.put (CUE.ROUTE.ACT c n) 0).put (CUE.ROUTE.SEL c n) 0).put (CUE.ROUTE.WBIT c n) 0

/-- R284, R285: the tasks that a move would move exact, restart and shed. -/
def State.moveMasks (s : State) (m : Move) (agrees : Nat) : Nat × Nat × Nat :=
  ((List.range 8).foldl (moveTask m agrees) ((0, 0, 0), s)).1

/-- R283 to R286: the move of a failed core's work: its resources, its routes, its tasks. -/
def moveCore (m : Move) (agrees : Nat) (s : State) : State :=
  let heir := s.heirOf m
  let s1 := match heir with
    | some h => moveOwners m.core h s
    | none => s.report .coreNone 0 0
  let q := s1.moveMasks m agrees
  let s2 := (List.range 512).foldl (moveRoute m heir (q.1 + q.2.1)) s1
  let r := (List.range 8).foldl (moveTask m agrees) ((0, 0, 0), s2)
  r.2.setCtu { r.2.ctu with moves := match r.2.ctu.moves with
    | x :: rest => { x with done := some r.1 } :: rest
    | [] => [] }

/-- R276, R294: a control word whose reaction write was not released keeps what it held in `s`, and what governs in its place. -/
def keepWord (s u : State) (a : Nat) : State :=
  let mine (e : Nat × Nat) : Bool := decide (a * 64 ≤ e.1) && decide (e.1 < (a + 1) * 64)
  let v := (fields! a).foldl (fun w f => w.put ⟨a, f.lo, f.w⟩ (s.get ⟨a, f.lo, f.w⟩)) u
  (List.range 8).foldl (fun w c => w.putCore c { w.core c with
    stale := (s.core c).stale.filter mine ++ (w.core c).stale.filter (fun e => !mine e) }) v

/-- R276, R294: the window words and the state beside the registers of the slot that took task `t` keep what they held in `s`. -/
def keepTask (m : Move) (s u : State) (t : Nat) : State :=
  let d := m.tasks.getD t ⟨0, 0, 0, false, 0⟩
  let e := d.dest - 1
  let len := arcLen (s.gov m.core (CUE.TCFG.LEN m.core t))
  (List.range len).foldl (fun w i => putRing e ((d.dbase + i) % 32) (s.ring e ((d.dbase + i) % 32)) w)
    (u.putTask e d.dtask (s.taskOf e d.dtask))

/-- R276, R294: of the writes of a move those on which the halves disagree are not performed: those of the control words `withheld`, and for
the tasks of `windows` those of windows and task state. The disagreement is CTU_DISAGREE (log 167). -/
def withholdMove (m : Move) (withheld : List Nat) (windows : Nat) (s u : State) : State :=
  if withheld.isEmpty && windows == 0 then u
  else
    let moved := match u.ctu.moves with
      | x :: _ => (x.done.map (fun q => q.1 ||| q.2.1)).getD 0
      | [] => 0
    let v := withheld.foldl (keepWord s) u
    ctuFault .ctuDisagree (((List.range 8).filter (bitOf (windows &&& moved))).foldl (keepTask m s) v)

/-- CORE_FAILOVER: the work of the core that failed first moves, once its fault entry stands in the log; `agrees` tells for
each task whether lead and trail hold the same words of it (R282 to R286, R291). `withheld` and `windows` name the writes on which the
halves of the CTU disagree (R294). -/
def execCoreFailover (agrees : BitVec 8) (s : State) (withheld : List Addr := []) (windows : BitVec 8 := 0) : Out :=
  .next (match s.ctu.moves with
    | m :: _ =>
      if m.done.isNone && m.seq.isSome then
        withholdMove m (withheld.map BitVec.toNat) windows.toNat s (moveCore m agrees.toNat s)
      else s
    | [] => s)

/-- R290: CORERES. -/
def coreResult (c code status pending : Nat) (s : State) : State :=
  ((((s.put CTU.CORERES.STATUS status).put CTU.CORERES.STATE (if c < 8 then s.coreState c else 0)).put CTU.CORERES.PENDING
    pending).put CTU.CORERES.CORE c).put CTU.CORERES.CODE code

/-- FAILOVER_DONE: the move under way ends: FOSTAT, FOTIME, EV258, and LBIST of the failed core (R287). -/
def execFailoverDone (s : State) : Out :=
  .next (match s.ctu.moves with
    | [] => s
    | m :: rest =>
      match m.done with
      | none => s
      | some (ex, rs, sh) =>
        let s1 := (((s.put CTU.FOSTAT.FROM m.core).put CTU.FOSTAT.EXACT ex).put CTU.FOSTAT.RESTART rs).put CTU.FOSTAT.SHED sh
        let s2 := ((s1.inc CTU.FOSTAT.SEQ).put CTU.FOTIME.TICK (s.t - m.at_)).raise 258
        let s3 := ((s2.putCoreState m.core 3).putB CTU.STATUS.MOVING (!rest.isEmpty)).setCtu { s.ctu with moves := rest }
        if m.cmd then coreResult m.core 3 0 0 s3 else s3)

/-- CORE_LBIST_DONE: LBIST of a core in TEST ends (R289, R290). -/
def execCoreLbistDone (c : Fin 8) (pass : Bool) (s : State) : Out :=
  .next (if s.coreState c.val != 3 || !s.coreExists c.val then s
    else
      let s1 := if pass then (coreClear c.val s).putCoreState c.val 4
        else (s.putCoreState c.val 5).report .coreLbist (elCore c.val) 0
      if s.ctu.retest = some c.val then coreResult c.val 2 0 0 (s1.setCtu { s1.ctu with retest := none }) else s1)

/-! ### Core commands (R290) -/

/-- R290: who may write CORECMD. -/
def State.coreCmdMay (s : State) (agent : Nat) : Bool :=
  agent == ownHost || (decide (1 ≤ agent) && decide (agent ≤ 8) && s.coreExists (agent - 1) && s.coreState (agent - 1) == 1)

/-- R290: the state each command is legal in. -/
def coreCmdState (code : Nat) : Nat := match code with | 1 => 4 | 2 => 5 | _ => 1

/-- R283, R290: a SPARE core starts. -/
def enlist (c : Nat) (s : State) : State :=
  let s1 := coreStart c s.image.1 s.image.2 0 s
  cutCtu (ctuShow (s1.setCut { s1.cut with noneReq := false }))

/-- R290: a write to CORECMD. -/
def coreCommand (agent c code : Nat) (s : State) : State :=
  if !s.coreCmdMay agent then s.answer agent .busOwn 0 0
  else
    let s1 :=
      if s.on CTU.CORERES.PENDING then coreResult c code 8 1 s
      else if s.on CTU.STATUS.MOVING then coreResult c code 8 0 s
      else if 8 ≤ c ∨ code = 0 ∨ 4 ≤ code then coreResult c code 4 0 s
      else if s.coreState c ≠ coreCmdState code ∨ !s.coreExists c then coreResult c code 1 0 s
      else if code = 1 then coreResult c 1 0 0 (enlist c s)
      else if code = 2 then coreResult c 2 0 1 ((s.putCoreState c 3).setCtu { s.ctu with retest := some c })
      else coreResult c 3 0 1 (coreFail c .coreWithdrawn 0 true s)
    s1.answer agent .ok 0 0

end Sys2Proof.Machine
end

