-- ==== Sys2Proof/Machine/Ddr.lean ====
section
/-! DEFINITION. The DDR4 channel: training, wide and dense accesses, ECC and the patrol scrub (R309 to R314). A memory word at
0x8000_0000 + g holds the 64 bits of granule g. -/

namespace Sys2Proof.Machine

def ddrBase : Nat := 0x80000000

/-- R309: GiB of one rank by WIDTH and DENS. -/
def rankGiB (width dens : Nat) : Nat := 8 * (dens + 1) / (width + 1)

/-- R309: installed capacity in GiB by CFG. -/
def State.ddrGiB (s : State) : Nat := s.get DDR.CFG.RANKS * rankGiB (s.get DDR.CFG.WIDTH) (s.get DDR.CFG.DENS)

/-- R309, CFG: INIT refuses the configuration. -/
def State.ddrBadCfg (s : State) : Bool :=
  let r := s.get DDR.CFG.RANKS
  decide (4 ≤ s.get DDR.CFG.SPEED) || decide (2 ≤ s.get DDR.CFG.WIDTH) || decide (2 ≤ s.get DDR.CFG.DENS) ||
    (r != 1 && r != 2) || decide (16 < s.ddrGiB)

/-- R310: an INIT command. -/
def ddrInit (s : State) : State :=
  if s.get DDR.STATUS.STATE = 1 then s.put DDR.STATUS.RES 8
  else if s.ddrBadCfg then s.put DDR.STATUS.RES 4
  else ((s.put DDR.STATUS.STATE 1).put DDR.STATUS.REGIONS 0).setDdrCap s.ddrGiB

/-- R310: the channel leaves the address map with DDR_TRAIN. -/
def ddrFail (s : State) : State :=
  ((s.put DDR.STATUS.STATE 3).put DDR.STATUS.REGIONS 0).report .ddrTrain 0 0

/-- R310: training ends; the capacity is 16 regions of 64 MiB for each GiB, of which 0x100 reads as 0xFF; it is that of
the configuration that INIT accepted. -/
def ddrTrained (ok : Bool) (s : State) : State :=
  let s1 := s.put DDR.STATUS.RES 0
  if ok then (s1.put DDR.STATUS.STATE 2).put DDR.STATUS.REGIONS (min 255 (16 * s.ddrCap)) else ddrFail s1

/-- DDR_INIT_DONE: training ends, with success or not (R310). -/
def execDdrInitDone (ok : Bool) (s : State) : Out :=
  .next (if s.get DDR.STATUS.STATE = 1 then ddrTrained ok s else s)

/-- The installed capacity in regions of 2^23 granules while READY, else 0. -/
def State.ddrRegions (s : State) : Nat :=
  if s.get DDR.STATUS.STATE = 2 then (if s.get DDR.STATUS.REGIONS = 255 then 256 else s.get DDR.STATUS.REGIONS) else 0

/-- R27: a wide address lies within the installed capacity. -/
def State.ddrMapped (s : State) (a : Nat) : Bool := decide (ddrBase ≤ a) && decide (a < ddrBase + s.ddrRegions * 2 ^ 23)

/-- Store a granule of 64 bits with valid check bits. -/
def State.storeGranule (s : State) (a v : Nat) : State :=
  (s.unmark a).setMem (Tab.set memDefault s.mem a (v % 2 ^ 64))

def State.storeGranules (s : State) (a : Nat) (vs : List Nat) : State :=
  match vs with
  | [] => s
  | v :: t => (s.storeGranule a v).storeGranules (a + 1) t

/-- R311: an error met in a granule. -/
def ddrError (a : Nat) (hard : Bool) (s : State) : State :=
  if hard then ((s.put DDR.ERRADDR.ADDR a).incSat DDR.ECC.DUECNT).report .ddrDue 0 a
  else ((s.unmark a).incSat DDR.ECC.CECNT).report .ddrEcc 0 0

/-- R27, R311: a read of one granule. -/
def granuleRead (a : Nat) (s : State) : Got :=
  if !s.ddrMapped a then ⟨.busMap, 0, s⟩
  else match s.markAt a with
    | none => ⟨.ok, s.rd a, s⟩
    | some false => ⟨.ok, s.rd a, ddrError a false s⟩
    | some true => ⟨.busEcc, 0, ddrError a true s⟩

/-- R313: a wide read returns bits 35:0 of the granule. -/
def ddrRead (a : Nat) (s : State) : Got :=
  let g := granuleRead a s
  { g with val := g.val % 2 ^ 36 }

/-- R27, R35, R313: a wide write writes bits 63:36 of the granule as zero. -/
def ddrWrite (agent a v : Nat) (s : State) : Got :=
  if !s.ddrMapped a then ⟨.busMap, 0, s⟩
  else if s.ddrRefuses agent a then ⟨.busOwn, 0, s⟩
  else ⟨.ok, 0, s.storeGranule a (v % 2 ^ 36)⟩

/-- Read a row of words; none when one of them does not answer OK. -/
def ddrReads (a n : Nat) (s : State) : Option (List Nat) × State :=
  match n with
  | 0 => (some [], s)
  | k + 1 =>
    let g := ddrRead a s
    if g.resp = .ok then
      let r := ddrReads (a + 1) k g.st
      (r.1.map (fun l => g.val :: l), r.2)
    else (none, g.st)

/-- Write a row of words; the first response that is not OK, or OK. -/
def ddrWrites (agent a : Nat) (vs : List Nat) (s : State) : Got :=
  match vs with
  | [] => ⟨.ok, 0, s⟩
  | v :: t =>
    let g := ddrWrite agent a v s
    if g.resp = .ok then ddrWrites agent (a + 1) t g.st else g

/-! ### Dense blocks (R314) -/

/-- Words of 2^w bits side by side, the first lowest. -/
def joinBits (w : Nat) (vs : List Nat) : Nat :=
  match vs with
  | [] => 0
  | v :: t => v % 2 ^ w + joinBits w t * 2 ^ w

/-- `n` fields of `w` bits of a number, the lowest first. -/
def splitBits (w n v : Nat) : List Nat := (List.range n).map (fun i => bits v (w * i) w)

/-- R314: sixteen words as nine granules, and back. -/
def packBlock (ws : List Nat) : List Nat := splitBits 64 9 (joinBits 36 ws)
def unpackBlock (gs : List Nat) : List Nat := splitBits 36 16 (joinBits 64 gs)

/-- R314: write a dense block: all nine granules or none. -/
def denseWrite (agent a : Nat) (ws : List Nat) (s : State) : Got :=
  let as := (List.range 9).map (a + ·)
  if as.any (fun x => !s.ddrMapped x) then ⟨.busMap, 0, s⟩
  else if as.any (s.ddrRefuses agent) then ⟨.busOwn, 0, s⟩
  else ⟨.ok, 0, s.storeGranules a (packBlock ws)⟩

/-- Read granules; the first response that is not OK, or OK with all of them. -/
def granuleReads (a n : Nat) (s : State) : Resp × List Nat × State :=
  match n with
  | 0 => (.ok, [], s)
  | k + 1 =>
    let g := granuleRead a s
    if g.resp = .ok then
      let r := granuleReads (a + 1) k g.st
      (r.1, g.val :: r.2.1, r.2.2)
    else (g.resp, [], g.st)

/-! ### Patrol (R312) -/

/-- R312: the patrol meets one granule. -/
def patrolMeet (a : Nat) (s : State) : State :=
  match s.markAt a with
  | none => s
  | some hard => ddrError a hard s

/-- R312: the patrol reads one burst of 64 octets, eight granules; past the last region its pass is complete. -/
def ddrPatrol (s : State) : State :=
  let a := ddrBase + (if s.ddrMapped (ddrBase + s.patrol) then s.patrol else 0)
  if s.ddrMapped a then
    let s1 := ((List.range 8).map (a + ·)).foldl (fun t x => patrolMeet x t) s
    let next := if s.ddrMapped (a + 8) then a + 8 - ddrBase else 0
    ((s1.setPatrol next).putIf (next == 0) DDR.PATROL.PASSES (s.get DDR.PATROL.PASSES + 1)).put DDR.PATROL.REGION
      (next / 2 ^ 23)
  else s

/-- DDR_PATROL: the patrol scrub reads its next burst; `err` is an error that has struck a granule before (R312). -/
def execDdrPatrol (err : Option (Addr × Bool)) (s : State) : Out :=
  .next (ddrPatrol (s.strike err ddrBase (2 ^ 32)))

end Sys2Proof.Machine
end

