-- ==== Sys2Proof/Machine/FlashOps.lean ====
section
/-! DEFINITION. Flash: banks, sectors and lines, reads, and what the controller's state implies (R327 to R330, R338). -/

namespace Sys2Proof.Machine

/-! ### Banks, sectors and lines (R327, R328) -/

def flashEnd : Nat := 0x500000

/-- R327: the bank of a flash address. -/
def flashBank (a : Nat) : Nat := if a < 0x200000 then 0 else if a < 0x400000 then 1 else if a < 0x460000 then 2 else 3

/-- The first address of a bank, and the address after its last. -/
def flashLo (b : Nat) : Nat := match b with | 0 => 0 | 1 => 0x200000 | 2 => 0x400000 | _ => 0x460000
def flashHi (b : Nat) : Nat := match b with | 0 => 0x200000 | 1 => 0x400000 | 2 => 0x460000 | _ => 0x500000

/-- R327: words of a sector of the bank, the sector of an address, the first address of a sector. -/
def secWords (b : Nat) : Nat := if b < 2 then 0x1000 else 0x400
def flashSec (a : Nat) : Nat := if a < 0x400000 then a % 0x200000 / 0x1000 else (a - 0x400000) / 0x400
def secBase (b sec : Nat) : Nat := if b < 2 then b * 0x200000 + sec * 0x1000 else 0x400000 + sec * 0x400

/-- The logical sectors of a bank. -/
def bankSecs (b : Nat) : List Nat :=
  match b with
  | 0 | 1 => List.range 512
  | 2 => List.range 384
  | _ => (List.range 640).map (384 + ·)

/-- Key of a logical sector in the remap table. -/
def secKey (b sec : Nat) : Nat := 2048 * b + sec

/-- R355: the element of a flash bank. -/
def elFlash (b : Nat) : Nat := 0x900 + b

/-- R328: the line of an address. -/
def lineOf (a : Nat) : Nat := a / 16 * 16
def lineAdrs (a : Nat) : List Nat := (List.range 16).map (lineOf a + ·)

/-- R328: the bit errors of a line: a correctable mark is one bit, an uncorrectable one more than the code corrects. -/
def State.lineErrors (s : State) (a : Nat) : Nat :=
  ((lineAdrs a).map (fun x => match s.markAt x with | none => 0 | some false => 1 | some true => 4)).foldl (· + ·) 0

/-- R328, R338: a line is erased: every word all ones, no error, and no interrupted program. -/
def State.lineBlank (s : State) (a : Nat) : Bool :=
  (lineAdrs a).all (fun x => s.rd x == 0xFFFFFFFFF) && s.lineErrors a == 0 && !s.flash.odd.contains (lineOf a)

/-- R393: the region of code flash an address lies in: 0 slot A, 1 slot B, 2 RA, 3 RB. -/
def regionOf (a : Nat) : Option Nat :=
  if a < 0x1E0000 then some 0
  else if a < 0x200000 then some 2
  else if a < 0x3E0000 then some 1
  else if a < 0x400000 then some 3
  else none

/-- R398: a program, erase or relocation in the token's region voids the token. -/
def voidToken (a : Nat) (s : State) : State :=
  match s.boot.token with
  | none => s
  | some k =>
    if regionOf a = some k.region then (s.setBoot { s.boot with token := none }).put SEC.STATUS.TOKEN 0 else s

/-- Program one line with valid check bits. -/
def State.programLine (s : State) (a : Nat) (ws : List Nat) : State := (voidToken a s).stores (lineOf a) ws

/-- R327: a sector becomes erased. -/
def eraseSector (b sec : Nat) (st : State) : State :=
  let s := voidToken (secBase b sec) st
  let lo := secBase b sec
  let hi := lo + secWords b
  let s1 := s.setMem (s.mem.filter (fun e => !(decide (lo ≤ e.1) && decide (e.1 < hi))))
  let s2 := s1.setMarks (s.marks.filter (fun e => !(decide (lo ≤ e.1) && decide (e.1 < hi))))
  s2.setFlash { s.flash with odd := s.flash.odd.filter (fun x => !(decide (lo ≤ x) && decide (x < hi))) }

/-! ### What the state of a sector is -/

def FlashSt.isTorn (f : FlashSt) (b sec : Nat) : Bool := f.torn.contains (b, sec, false)
def FlashSt.isRetired (f : FlashSt) (b sec : Nat) : Bool := f.retired.contains (b, sec)

/-- A logical sector is covered by an erase under way or suspended. -/
def FlashSt.inErase (f : FlashSt) (b sec : Nat) (susp : Bool) : Bool :=
  f.runs.any (fun r => r.bank == b && r.susp == susp && r.secs.contains sec && decide (r.kind ≠ .spare))

/-- R342: steps 1 and 2 of a relocation of the sector are under way. -/
def FlashSt.isCopied (f : FlashSt) (b sec : Nat) : Bool := f.copies.any (fun c => c.1 == b && c.2.1 == sec)

/-- SSTATE: 0 NORMAL, 1 ERASING, 2 SUSPENDED, 3 TORN, 4 RETIRED, 5 RELOCATING. -/
def FlashSt.sstate (f : FlashSt) (b sec : Nat) : Nat :=
  if f.isRetired b sec then 4
  else if f.inErase b sec false then 1
  else if f.inErase b sec true then 2
  else if f.isTorn b sec then 3
  else if f.isCopied b sec then 5
  else 0

def EraseRun.isDesc (r : EraseRun) : Bool := match r.kind with | .desc _ => true | _ => false

/-- A descriptor erase, running or suspended, or an internal erase of the bank. -/
def FlashSt.descErase (f : FlashSt) (b : Nat) (susp : Bool) : Bool :=
  f.runs.any (fun r => r.bank == b && r.isDesc && r.susp == susp)
def FlashSt.intErase (f : FlashSt) (b : Nat) : Bool := f.runs.any (fun r => r.bank == b && !r.isDesc)

/-- BANKSTAT.OP of a bank. -/
def FlashSt.op (f : FlashSt) (b : Nat) : Nat :=
  if f.prog.any (fun p => flashBank p.desc.addr == b) || f.loadOp.any (fun q => flashBank q.1 == b && !q.2.isEmpty) then 1
  else if f.descErase b false then 2
  else if f.runs.any (fun r => r.bank == b && !r.isDesc && !r.susp) then 3
  else 0

/-- The sector SUSPSEC shows for a bank. -/
def FlashSt.suspSec (f : FlashSt) (b : Nat) : Nat :=
  match f.runs.find? (fun r => r.bank == b && r.isDesc && r.susp) with
  | some r => r.secs.headD 0
  | none => 0

/-- BANKSTAT and SUSPSEC show the controller's state. -/
def flashShow (s : State) : State :=
  let f := s.flash
  [0, 1, 2, 3].foldl (fun t b =>
    let adr := FLASH.BANKSTAT.adr
    let t1 := (t.put ⟨adr, 9 * b, 2⟩ (f.op b)).putB ⟨adr, 9 * b + 2, 1⟩ (f.descErase b true)
    let t2 := t1.put ⟨adr, 9 * b + 3, 4⟩ ((f.spares.filter (fun x => x.1 == b)).length)
    if b < 3 then t2.put ⟨FLASH.SUSPSEC.adr, 10 * b, 10⟩ (f.suspSec b) else t2) s

/-- A slot is left for a copy of a record. -/
def StoreSt.room (x : StoreSt) : Bool := (x.active.isSome && decide (x.point < 64)) || !x.ahead.isEmpty

/-- R335, R349, R428: an internal erase of the bank stays suspended for a descriptor other than an erase, for a line that LOAD programs,
and, in DFS, for a record command unless that waits for the erase itself. -/
def State.holdsErase (s : State) (b : Nat) : Bool :=
  s.flash.now.any (fun d => flashBank d.addr == b && d.op != 4 && d.op != 5) ||
    s.flash.loadOp.any (fun q => flashBank q.1 == b && !q.2.isEmpty) ||
    (b == 3 && s.recs.cmd.any (fun c => c.cmd == 1 || s.recs.room))

/-- R342: the bank's bit in MAINT. -/
def State.maint (s : State) (b : Nat) : Bool := s.on ⟨FLASH.MAINT.adr, b, 1⟩

/-- R335, R342, R349: an internal erase is halted: for a descriptor or a record command, or, of a spare, while MAINT reads 0. -/
def State.haltsRun (s : State) (r : EraseRun) : Bool := s.holdsErase r.bank || (decide (r.kind = .spare) && !s.maint r.bank)

/-- R335, R342, R349: internal erases halt and go on. -/
def settleErases (s : State) : State :=
  s.setFlash { s.flash with runs := s.flash.runs.map (fun r => if r.isDesc then r else { r with susp := s.haltsRun r }) }

/-- Set the controller's state and show it. -/
def State.putFlash (s : State) (f : FlashSt) : State := flashShow (settleErases (s.setFlash f))

/-! ### Reads (R328, R330) -/

/-- R340: queue a sector for relocation; DFS sectors are not relocated. -/
def queueReloc (b sec : Nat) (s : State) : State :=
  if decide (b < 3) && !s.flash.queued.contains (b, sec) && !s.flash.isRetired b sec then
    s.setFlash { s.flash with queued := s.flash.queued ++ [(b, sec)] }
  else s

/-- R328: a line is read; whether it can be read, and the state after. `a` is the address the fault names. -/
def lineRead (a : Nat) (s : State) : Bool × State :=
  let n := s.lineErrors a
  let b := flashBank a
  if n = 0 then (true, s)
  else if n ≤ 3 then
    let s1 := (s.incSat FLASH.ECC.CECNT).report .flashEcc (elFlash b) a
    (true, if 2 ≤ n then queueReloc b (flashSec a) s1 else s1)
  else (false, ((s.incSat FLASH.ECC.DUECNT).put FLASH.ERRADDR.ADDR a).report .flashDue (elFlash b) a)

/-- The lines of a range that hold an error, in ascending order; the others read without one. -/
def State.markedLines (s : State) (lo hi : Nat) : List Nat :=
  s.marks.foldl (fun l e =>
    if decide (lo ≤ e.1) && decide (e.1 < hi) && !l.contains (lineOf e.1) then l ++ [lineOf e.1] else l) []

/-- R328: every line of a range is read; whether all could be. -/
def readLines (lo hi : Nat) (s : State) : Bool × State :=
  (s.markedLines lo hi).foldl (fun q a => (q.1 && (lineRead a q.2).1, (lineRead a q.2).2)) (true, s)

/-- R330: an erase, of a descriptor or internal, runs in a bank. -/
def State.erasing (s : State) (b : Nat) : Bool := s.flash.runs.any (fun r => r.bank == b && !r.susp)

/-- R330, R338: a bus read of a flash word. -/
def flashRead (a : Nat) (s : State) : Got :=
  let b := flashBank a
  if s.erasing b then ⟨.busMap, 0, s.put FLASH.STATUS.ERDREF 1⟩
  else if [1, 2, 3, 4].contains (s.flash.sstate b (flashSec a)) then ⟨.busEcc, 0, s⟩
  else
    let r := lineRead a s
    if r.1 then ⟨.ok, s.rd a, r.2⟩ else ⟨.busEcc, 0, r.2⟩

/-! ### Sources of descriptors (R332, R334) -/

/-- R332: 0x42 may read the word at an address: a bank it owns, a mailbox it shares, or DDR4. -/
def State.flashMayRead (s : State) (a : Nat) : Bool :=
  match bankOf? a with
  | some b => s.bankMay ownFlash b
  | none => s.ddrMapped a

def flashSrcRead (a : Nat) (s : State) : Got :=
  match bankOf? a with
  | some _ => bankRead ownFlash a s
  | none => ddrRead a s

/-- Read a row of source words; none when one of them does not answer OK. -/
def flashSrcReads (a n : Nat) (s : State) : Option (List Nat) × State :=
  match n with
  | 0 => (some [], s)
  | k + 1 =>
    let g := flashSrcRead a s
    if g.resp = .ok then
      let r := flashSrcReads (a + 1) k g.st
      (r.1.map (fun l => g.val :: l), r.2)
    else (none, g.st)

/-! ### Spares (R342, R343) -/

/-- The physical sector that serves a logical one. -/
def FlashSt.phys (f : FlashSt) (b sec : Nat) : Nat := Tab.get (fun k => k % 2048) f.remap (secKey b sec)

/-- An erased spare of a bank. -/
def FlashSt.spareOf (f : FlashSt) (b : Nat) : Option Nat := (f.spares.find? (fun x => x.1 == b)).map (fun x => x.2)

/-- Let a spare serve a logical sector. -/
def FlashSt.useSpare (f : FlashSt) (b sec sp : Nat) : FlashSt :=
  { f with
    remap := Tab.set (fun k => k % 2048) f.remap (secKey b sec) sp
    spares := f.spares.erase (b, sp) }

/-- 1 for a bit that is set. -/
def b2n (b : Bool) : Nat := if b then 1 else 0

/-- R328, R342: the sector's lines are read for the copy. -/
def copyRead (b sec : Nat) (s : State) : State := (readLines (secBase b sec) (secBase b sec + secWords b) s).2

/-- R342, steps 1 and 2: the sector's lines are copied into an erased spare, which then serves it; the old physical sector is
to be erased. The copy is corrected: of the errors only those of a line that could not be read stay. -/
def relocate (b sec sp : Nat) (st : State) : State :=
  let s := voidToken (secBase b sec) st
  let f := s.flash
  let lo := secBase b sec
  let s1 := s.setMarks (s.marks.filter (fun e =>
    !(decide (lo ≤ e.1) && decide (e.1 < lo + secWords b)) || decide (4 ≤ s.lineErrors e.1)))
  s1.putFlash
    { f.useSpare b sec sp with
      dirty := f.dirty ++ [(b, f.phys b sec)]
      queued := f.queued.erase (b, sec) }

end Sys2Proof.Machine
end

