-- ==== Sys2Proof/Machine/StoreOps.lean ====
section
/-! DEFINITION. The record store: headers, slots, the index, and the writing of copies (R344 to R351). -/

namespace Sys2Proof.Machine

/-- One copy of a record: its record, LEN (0 marks a deletion), SEQ and payload. -/
structure Copy where
  rec_ : Nat
  len  : Nat
  seq  : Nat
  data : List Nat
deriving DecidableEq, Repr

/-- R344: CRC-16 of a slot. -/
def slotCrc (w0 : Nat) (payload : List Nat) : Nat :=
  payload.foldl (crcBits 16 0x1021 36) (crcBits 16 0x1021 20 0xFFFF (bits w0 16 20))

/-- A list cut or filled with zeros to `n` words. -/
def padTo (n : Nat) (l : List Nat) : List Nat := (l ++ List.replicate n 0).take n

/-- R344: the 16 words of a slot that holds a copy. -/
def slotWords (c : Copy) : List Nat :=
  let payload := padTo 15 (c.data.take c.len)
  let w0 := c.rec_ % 64 * 2 ^ 30 + c.len % 16 * 2 ^ 26 + c.seq % 1024 * 2 ^ 16
  (w0 + slotCrc w0 payload) :: payload

/-- R344: the 16 words of a sector header. -/
def headerWords (lap erases : Nat) : List Nat :=
  let ws := [0x5EC * 2 ^ 24, lap, erases] ++ List.replicate 12 0
  ws ++ [crc32Words ws]

/-- The words of a line. -/
def State.line (s : State) (a : Nat) : List Nat := s.rds (lineOf a) 16

/-- R345: the valid header of a DFS sector: LAP and ERASES. -/
def State.header (s : State) (sec : Nat) : Option (Nat × Nat) :=
  let a := secBase 3 sec
  let ws := s.line a
  if decide (s.lineErrors a ≤ 3) && bits (ws.getD 0 0) 24 12 == 0x5EC && ws.getD 15 0 == crc32Words (ws.take 15) then
    some (ws.getD 1 0, ws.getD 2 0)
  else none

/-- R345: the copy that a slot's line holds when its CRC matches and it can be read. -/
def State.slotCopy (s : State) (a : Nat) : Option Copy :=
  let ws := s.line a
  let w0 := ws.getD 0 0
  if decide (s.lineErrors a ≤ 3) && bits w0 0 16 == slotCrc w0 (ws.drop 1) then
    some ⟨bits w0 30 6, bits w0 26 4, bits w0 16 10, (ws.drop 1).take (bits w0 26 4)⟩
  else none

/-- The DFS sectors the store can use now. -/
def State.storeSecs (s : State) : List Nat :=
  (bankSecs 3).filter (fun x => !s.flash.isTorn 3 x && !s.flash.isRetired 3 x && !s.flash.inErase 3 x false)

/-- R345: the valid copies in a sector, in slot order, as (record, address). -/
def State.sectorCopies (s : State) (sec : Nat) : List (Nat × Nat) :=
  (List.range 63).filterMap (fun i =>
    let a := secBase 3 sec + 16 * (i + 1)
    (s.slotCopy a).map (fun c => (c.rec_, a)))

/-- The sectors with a valid header, as (LAP, sector). -/
def State.lapSecs (s : State) : List (Nat × Nat) := s.storeSecs.filterMap (fun x => (s.header x).map (fun h => (h.1, x)))

/-- The entry of the greatest or least LAP. -/
def topLap (l : List (Nat × Nat)) : Option (Nat × Nat) :=
  l.foldl (fun b x => match b with | none => some x | some y => some (if y.1 < x.1 then x else y)) none
def lowLap (l : List (Nat × Nat)) : Option (Nat × Nat) :=
  l.foldl (fun b x => match b with | none => some x | some y => some (if x.1 < y.1 then x else y)) none

/-- R345: the newest valid copy of a record: highest LAP, then highest slot. -/
def State.newest (s : State) (r : Nat) : Option Nat :=
  let found := s.lapSecs.filterMap (fun x =>
    ((s.sectorCopies x.2).reverse.find? (fun c => c.1 == r)).map (fun c => (x.1, c.2)))
  (topLap found).map (fun x => x.2)

/-- The index of every record (R345, R348). -/
def State.buildIndex (s : State) : List (Nat × Nat) :=
  (List.range 64).filterMap (fun r => (s.newest r).map (fun a => (r, a)))

/-- RSSTAT.FREE follows the erased sectors. -/
def State.putRecs (s : State) (x : StoreSt) : State := (s.setRecs x).put FLASH.RSSTAT.FREE (min 8 x.ahead.length)

/-- R351: what follows when few sectors remain usable. -/
def storeWear (s : State) : State :=
  let n := s.get FLASH.RSSTAT.USABLE
  let s1 := if decide (n < 608) && !s.recs.worn then
      (s.report .storeDegraded (elFlash 3) n).setRecs { s.recs with worn := true } else s
  if decide (n < 64) && s.get FLASH.RSSTAT.STATE == 2 then
    (s1.put FLASH.RSSTAT.STATE 3).report .storeReadonly (elFlash 3) n
  else s1

/-- R349: a DFS sector is retired. -/
def storeRetire (sec : Nat) (s : State) : State :=
  storeWear ((s.put FLASH.RSSTAT.USABLE (s.get FLASH.RSSTAT.USABLE - 1)).putFlash
    { s.flash with retired := (3, sec) :: s.flash.retired })

/-- R349: the largest ERASES of any valid sector header; MAXE shows it. -/
def State.maxErases (s : State) : Nat := (s.storeSecs.filterMap (fun x => (s.header x).map (fun h => h.2))).foldl max 0
def wearShow (s : State) : State := s.put FLASH.RSWEAR.MAXE s.maxErases

/-- R349: an erase of a DFS sector has ended, blank or not. -/
def storeErased (sec : Nat) (ok : Bool) (st : State) : State :=
  let s := wearShow st
  if ok then s.putRecs { s.recs with ahead := s.recs.ahead ++ [sec], toErase := s.recs.toErase.filter (· != sec) }
  else storeRetire sec (s.setRecs { s.recs with toErase := s.recs.toErase.filter (· != sec) })

/-- R349: the next erased sector becomes the active one, with a header of the next LAP. -/
def storeActivate (s : State) : Option State :=
  match s.recs.ahead with
  | [] => none
  | sec :: rest =>
    let e := Tab.get (fun _ => s.maxErases + 1) s.recs.wear sec
    let s1 := s.programLine (secBase 3 sec) (headerWords (s.recs.lap + 1) e)
    some (wearShow (s1.putRecs
      { s.recs with
        active := some sec
        point := 1
        lap := s.recs.lap + 1
        ahead := rest
        wear := Tab.erase s.recs.wear sec }))

/-- R344, R347: program a copy at the write point; it becomes the record's newest. -/
def storeProgramAt (sec : Nat) (c : Copy) (s : State) : State :=
  let a := secBase 3 sec + 16 * s.recs.point
  ((s.programLine a (slotWords c)).inc FLASH.RSWCNT.WRITES).putRecs
    { s.recs with point := s.recs.point + 1, index := Tab.set (fun _ => 0) s.recs.index c.rec_ a }

/-- R349: the active sector has a slot left, or the next one becomes active; none where no erased slot is left. -/
def storeRoom (s : State) : Option State :=
  if s.recs.active.isSome && decide (s.recs.point < 64) then some s else storeActivate s

/-- R344, R349: program a copy into a fresh slot; none where no erased slot is left. -/
def storeProgram (c : Copy) (s : State) : Option State :=
  (storeRoom s).bind (fun t => t.recs.active.map (fun x => storeProgramAt x c t))

/-- R345: read the newest valid copy of a record; an indexed copy that can no longer be read gives way to the next newest. -/
def storeFetch (r : Nat) (s : State) : Option Copy × State :=
  match Tab.get (fun _ => 0) s.recs.index r with
  | 0 => (none, s)
  | a =>
    let g := lineRead a s
    match g.2.slotCopy a with
    | some c => (some c, g.2)
    | none =>
      match g.2.newest r with
      | some b => (g.2.slotCopy b, (lineRead b g.2).2.setRecs { g.2.recs with index := Tab.set (fun _ => 0) g.2.recs.index r b })
      | none => (none, g.2.setRecs { g.2.recs with index := Tab.erase g.2.recs.index r })

/-- A record is present (R345): its payload. -/
def presentCopy (c : Option Copy) : Option Copy := c.bind (fun x => if x.len = 0 then none else some x)

/-- R346: SEQ of the next copy. -/
def nextSeq (c : Option Copy) : Nat :=
  match presentCopy c with
  | some x => (x.seq + 1) % 1024
  | none => 0

/-- R346: write a copy of a record with the next SEQ, or a deletion with no data; none where no erased slot is left. -/
def storeWrite (r : Nat) (data : List Nat) (s : State) : Option (Nat × State) :=
  let g := storeFetch r s
  let q := nextSeq g.1
  (storeProgram ⟨r, data.length, q, data⟩ g.2).map (fun t => (q, t))

/-- R346: a record command ends: RSRES and EV321; an erase that waited for it goes on (R349). -/
def recordDone (status present : Nat) (pending : Bool) (seq rec len cmd : Nat) (s : State) : State :=
  let s1 := ((s.put FLASH.RSRES.STATUS status).put FLASH.RSRES.PRESENT present).putB FLASH.RSRES.PENDING pending
  let s2 := ((s1.put FLASH.RSRES.SEQ seq).put FLASH.RSRES.REC rec).put FLASH.RSRES.LEN len
  (s2.put FLASH.RSRES.CMD cmd).raise 321

/-- R346: READ completes: the newest copy stands in RSBUF. -/
def recordReadDone (r : Nat) (s : State) : State :=
  let g := storeFetch r s
  let c := presentCopy g.1
  let data := padTo 15 ((c.map Copy.data).getD [])
  let s1 := (List.range 15).foldl (fun t j => t.put (FLASH.RSBUF.DATA j) (data.getD j 0)) g.2
  recordDone 0 (b2n c.isSome) false ((c.map Copy.seq).getD 0) r ((c.map Copy.len).getD 0) 1 s1

/-- R346: no record command is under way; the erase it held goes on (R349). -/
def State.noRecord (s : State) : State := (s.setRecs { s.recs with cmd := none }).putFlash s.flash

/-- R346, R347: the record command under way completes; a WRITE or DELETE waits while no erased slot is left. -/
def recordEnd (s : State) : State :=
  match s.recs.cmd with
  | none => s
  | some c =>
    if c.cmd = 1 then recordReadDone c.rec_ s.noRecord
    else match storeWrite c.rec_ c.data s.noRecord with
      | some (q, t) => recordDone 0 0 false q c.rec_ c.data.length c.cmd t
      | none => s.putFlash s.flash

/-- A device path writes a record while the store is READY (R344), after the record command that came before it (R346);
whether it was written. -/
def storePut (r : Nat) (data : List Nat) (st : State) : Bool × State :=
  let s := recordEnd st
  if s.get FLASH.RSSTAT.STATE = 2 then
    match storeWrite r data s with
    | some (_, t) => (true, t)
    | none => (false, s)
  else (false, s)

/-- A device path reads a record while the store serves reads, after the record command that came before it (R346). -/
def storeGet (r : Nat) (st : State) : Option (List Nat) × State :=
  let s := recordEnd st
  if s.get FLASH.RSSTAT.STATE = 2 ∨ s.get FLASH.RSSTAT.STATE = 3 then
    let g := storeFetch r s
    ((presentCopy g.1).map (fun c => c.data), g.2)
  else (none, s)

/-! ### The trim set (R390 to R392) -/

/-- R390: the 180 words of the trim table as CRC-32C takes them. -/
def trimCrc (ws : List Nat) : Nat := crc32Words ws

/-- R391: the first check that a set of 13 record payloads fails. -/
def State.trimFails (s : State) (recs : Option (List (List Nat))) : Option Nat :=
  match recs with
  | none => some 1
  | some l =>
    let h := l.headD []
    let table := l.tail.flatten
    if bits (h.getD 0 0) 24 12 ≠ 0x7A1 ∨ bits (h.getD 0 0) 16 8 ≠ 1 then some 2
    else if bits (h.getD 1 0) 0 32 ≠ trimCrc table then some 3
    else if (h.drop 2).take 4 ≠ s.otp.uid then some 4
    else none

/-- R392: the 13 records that the payload of a TRIM IMPORT offers. -/
def trimOffered (payload : List Nat) : List (List Nat) := chunks 15 13 ((wordFields 195 payload).getD [])

/-- R392: what an import writes, in order: records 49 to 60 and then 48, with ORIGIN 1. -/
def importList (recs : List (List Nat)) : List (Nat × List Nat) :=
  let h := recs.headD []
  (List.range 12).map (fun i => (49 + i, recs.getD (i + 1) [])) ++ [(48, (h.headD 0 / 4 * 4 + 1) :: h.tail)]

/-- R392: records are written in turn; none where the store has no erased slot left. -/
def importRecords : List (Nat × List Nat) → State → Option State
  | [], s => some s
  | (k, p) :: t, s => (storeWrite k p s).bind (fun q => importRecords t q.2)

/-! ### Start of the store (R348) -/

/-- The last line of a sector that is not blank. -/
def State.lastLine (s : State) (sec : Nat) : Nat :=
  ((List.range 64).reverse.find? (fun i => !s.lineBlank (secBase 3 sec + 16 * i))).getD 0

/-- R348: the check of the last non-blank line of the active sector; `weak`: it reads valid but below margin. -/
def storeCheckLast (weak : Bool) (st : State) : State :=
  match st.recs.active with
  | none => st
  | some sec =>
    let i := st.lastLine sec
    let a := secBase 3 sec + 16 * i
    let s := (lineRead a st).2.setRecs { st.recs with point := max st.recs.point (i + 1) }
    if i = 0 then s
    else match s.slotCopy a with
      | none => s.report .storeRecovered (elFlash 3) a
      | some c =>
        if weak then ((storeProgram c s).getD s).report .storeRecovered (elFlash 3) a else s

/-- The line that `storeCheckLast` reads. -/
def State.checkedLine (s : State) (active : Option Nat) : Option Nat :=
  active.map (fun sec => secBase 3 sec + 16 * s.lastLine sec)

/-- R328, R348: the header and the slots of every sector are read, but for the line that the check of the last line reads. -/
def storeReadAll (secs : List Nat) (last : Option Nat) (s : State) : State :=
  secs.foldl (fun u x => ((u.markedLines (secBase 3 x) (secBase 3 x + 0x400)).filter (fun a => last != some a)).foldl
    (fun v a => (lineRead a v).2) u) s

/-- R348, R339: torn sectors are marked for erasure, after those that are. -/
def StoreSt.markTorn (x : StoreSt) (torn : List Nat) : StoreSt :=
  { x with toErase := x.toErase ++ torn.filter (fun k => !x.toErase.contains k) }

/-- The torn sectors of DFS that are not retired. -/
def State.tornSecs (s : State) : List Nat := (bankSecs 3).filter (fun x => s.flash.isTorn 3 x && !s.flash.isRetired 3 x)

/-- R348: the index is built and the start steps are completed. -/
def storeBuild (weak : Bool) (st : State) : State :=
  let top := topLap st.lapSecs
  let s := storeReadAll st.storeSecs (st.checkedLine (top.map (fun q => q.2))) st
  let secs := s.storeSecs
  let blank := secs.filter (fun x => (List.range 64).all (fun i => s.lineBlank (secBase 3 x + 16 * i)))
  let bad := secs.filter (fun x => !blank.contains x && (s.header x).isNone)
  let x : StoreSt :=
    { s.recs with
      index := s.buildIndex
      active := top.map (fun q => q.2)
      point := (top.map (fun q => s.lastLine q.2 + 1)).getD 0
      lap := (top.map (fun q => q.1)).getD 0
      ahead := blank
      toErase := s.tornSecs ++ bad }
  let s1 := wearShow (s.putRecs x)
  storeWear ((storeCheckLast weak s1).put FLASH.RSSTAT.STATE 2)

end Sys2Proof.Machine
end

