-- ==== Sys2Proof/Machine/Flash.lean ====
section
/-! DEFINITION. The flash controller: the descriptor queue, its operations, erases, the scan and relocation (R331 to R343). -/

namespace Sys2Proof.Machine

/-! ### The queue (R331, R332) -/

/-- R331: the checks of an enable. -/
def State.queueOk (s : State) : Bool :=
  let q := s.get FLASH.QBASE.ADDR
  let o := s.get FLASH.QCTL.OWNER
  match bankOf? q with
  | some b =>
    decide (64 ≤ b) && q % 4 == 0 && bankOf? (q + 127) == some b && s.get (BANKS.OWNER.OWNER b) == o &&
      s.get (BANKS.OWNER.PEER b) == ownFlash
  | none => false

/-- The EN bit of a QCTL write. -/
def flashEn (on : Bool) (s : State) : State :=
  if on then
    if s.on FLASH.QCTL.EN then s
    else if s.queueOk then
      (((s.put FLASH.QCTL.EN 1).put FLASH.STATUS.QERR 0).put FLASH.QHEAD.HEAD 0).put FLASH.QTAIL.TAIL 0
    else s.put FLASH.STATUS.QERR 1
  else s.put FLASH.QCTL.EN 0

/-- R331: a write to FLASH.QCTL. The EN of a write to a free word that does not claim it for its writer is discarded (DESIGN CHOICE,
log 163). -/
def flashQctlWrite (agent v : Nat) (s : State) : State :=
  let own := s.get FLASH.QCTL.OWNER
  let new := bits v 28 8
  if own = 0 then
    let s1 := if validOwner s.split new then s.put FLASH.QCTL.OWNER new else s
    (if new = agent ∧ agent ≠ 0 then flashEn (bitOf v 0) s1 else s1).answer agent .ok 0 0
  else if own ≠ agent then s.answer agent .busOwn 0 0
  else
    let s1 := flashEn (bitOf v 0) s
    let keep := new == 0 && s1.on FLASH.QCTL.EN
    (if keep || !validOwner s.split new then s1 else s1.put FLASH.QCTL.OWNER new).answer agent .ok 0 0

/-- R331, R457: a write to QBASE or QTAIL (`adr`). -/
def flashQueueWrite (agent adr v : Nat) (s : State) : State :=
  if s.get FLASH.QCTL.OWNER ≠ 0 ∧ s.get FLASH.QCTL.OWNER = agent then
    (s.writeReg adr v (s.on FLASH.QCTL.EN) (some FLASH.STATUS.WREJ)).answer agent .ok 0 0
  else s.answer agent .busOwn 0 0

/-- The outcome bits of a status word beside STATUS and CMPL. -/
structure FlashEnd where
  status : Nat
  fail   : Bool
  remap  : Bool
  verr   : Bool
  unc    : Bool
  first  : Nat
  cnt    : Nat

def FlashEnd.plain (status first : Nat) : FlashEnd := ⟨status, false, false, false, false, first, 0⟩

/-- R332: the status word; SSTATE is the state of the sector at FIRST, or at ADDR where there is none. -/
def FlashEnd.word (x : FlashEnd) (sstate : Nat) : Nat :=
  x.status * 2 ^ 32 + 2 ^ 31 + b2n x.fail * 2 ^ 30 + b2n x.remap * 2 ^ 29 + b2n x.verr * 2 ^ 28 + b2n x.unc * 2 ^ 27 +
    sstate * 2 ^ 24 + x.first * 2 ^ 12 + x.cnt % 2 ^ 12

/-- R332: an operation ends: its status word lands in word 3 of its slot. -/
def flashComplete (d : FlashDesc) (x : FlashEnd) (s : State) : State :=
  let a := if x.first = 0xFFF then d.addr else d.addr + 16 * x.first
  let st := if a < flashEnd then s.flash.sstate (flashBank a) (flashSec a) else 0
  let g := bankWrite ownFlash (d.slot + 3) (x.word st) s
  g.st.raiseIf d.evq 320

/-- The descriptor in hand ends. -/
def flashFinish (d : FlashDesc) (x : FlashEnd) (s : State) : State :=
  flashComplete d x (s.putFlash { s.flash with now := none, prog := none })

/-- R334: the lines an operation touches, the sectors of these lines, the sectors an erase covers. -/
def FlashDesc.lines (d : FlashDesc) : Nat := if d.op = 2 then 1 else d.count
def FlashDesc.byLine (d : FlashDesc) : Bool := [1, 2, 3, 6, 7].contains d.op
def FlashDesc.secs (d : FlashDesc) : List Nat :=
  if d.op = 4 then [flashSec d.addr] else bankSecs (flashBank d.addr)

/-- The source words an operation reads. -/
def FlashDesc.srcWords (d : FlashDesc) : Nat :=
  if d.op = 2 then 16 else if d.op = 3 || (d.op == 1 && d.cmp) then 16 * d.count else 0

/-- The first line that satisfies `p`. -/
def FlashDesc.firstLine (d : FlashDesc) (p : Nat → Bool) : Option Nat :=
  (List.range d.lines).find? (fun i => p (d.addr + 16 * i))

/-- R334, row 1. -/
def State.flashBadArg (s : State) (d : FlashDesc) : Bool :=
  d.op == 0 || decide (9 < d.op) || decide (flashEnd ≤ d.addr) ||
    (d.byLine && (d.addr % 16 != 0 || d.lines == 0 || decide (flashHi (flashBank d.addr) < d.addr + 16 * d.lines))) ||
    (decide (2 ≤ d.op) && decide (d.op ≤ 5) && flashBank d.addr == 3) ||
    (List.range d.srcWords).any (fun i => !s.flashMayRead (d.src + i))

/-- R342: the descriptor touches a sector of a bank. -/
def FlashDesc.touches (d : FlashDesc) (b sec : Nat) : Bool :=
  flashBank d.addr == b &&
    ((d.byLine && decide (flashSec d.addr ≤ sec) && decide (sec ≤ flashSec (d.addr + 16 * (d.lines - 1)))) ||
      (d.op == 4 && flashSec d.addr == sec) || d.op == 5)

/-- R342: the descriptor touches a sector whose relocation has not committed. -/
def FlashSt.touched (f : FlashSt) (d : FlashDesc) : Bool := f.copies.any (fun c => d.touches c.1 c.2.1)

/-- R335, R342: the descriptor waits for the commit of a relocation: it touches its sector, or is a program or an erase in its
bank. -/
def FlashSt.waitsCopy (f : FlashSt) (d : FlashDesc) : Bool :=
  f.touched d || ([2, 3, 4, 5].contains d.op && f.copies.any (fun c => c.1 == flashBank d.addr))

/-- R334: the first status that applies, with FIRST. -/
def State.flashCheck (s : State) (d : FlashDesc) : Option (Nat × Nat) :=
  let f := s.flash
  let b := flashBank d.addr
  let st (a : Nat) : Nat := f.sstate b (flashSec a)
  if s.flashBadArg d then some (4, 0xFFF)
  else if f.wipe then some (8, 0xFFF)
  else if decide (d.op ≤ 7) && f.descErase b false then some (8, 0xFFF)
  else if (d.op == 8 && !f.descErase b false) || (d.op == 9 && !f.descErase b true) then some (1, 0xFFF)
  else if (d.op == 4 || d.op == 5) && f.descErase b true then some (1, 0xFFF)
  else if d.op == 4 && f.isRetired b (flashSec d.addr) then some (1, 0xFFF)
  else if d.byLine then
    match d.firstLine (fun a => st a == 2 || st a == 4) with
    | some i => some (1, i)
    | none =>
      match d.firstLine (fun a => st a == 3) with
      | some i => some (3, i)
      | none =>
        if d.op == 2 || d.op == 3 then (d.firstLine (fun a => !s.lineBlank a)).map (fun i => (2, i)) else none
  else none

/-- R342: a write to MAINT: erases of spares wait while their bank's bit is 0. -/
def maintWrite (agent v : Nat) (s : State) : State :=
  let t := s.writeReg FLASH.MAINT.adr v false none
  (t.putFlash t.flash).answer agent .ok 0 0

/-- R332: the descriptor that words 0 to 2 of a slot spell. -/
def flashDescOf (slot w0 w1 w2 : Nat) : FlashDesc :=
  ⟨slot, bits w0 32 4, bitOf w0 31, bitOf w0 30, bitOf w0 29, bits w0 16 12, bits w1 0 32, bits w2 0 32⟩

/-- R328, R334: a program reads its target lines to check that they are blank; whether all could be read. -/
def targetRead (d : FlashDesc) (s : State) : Bool × State :=
  if d.op == 2 || d.op == 3 then readLines d.addr (d.addr + 16 * d.lines) s else (true, s)

/-- R334: a descriptor in hand is checked: it ends with the first status that applies, or stays in hand until it ends. -/
def flashJudge (d : FlashDesc) (s : State) : State :=
  match s.flashCheck d with
  | some (st, first) =>
    let r := if st = 2 then targetRead d s else (true, s)
    let u := flashComplete d { FlashEnd.plain st first with unc := !r.1 } r.2
    u.putFlash { u.flash with now := none }
  | none => (targetRead d s).2.putFlash (targetRead d s).2.flash

/-- R332, R334, R335: the descriptor at HEAD is taken, which halts an internal erase of its bank, and checked; one that touches a sector in relocation waits for the commit
(R342). -/
def flashTake (s : State) : State :=
  let slot := s.get FLASH.QBASE.ADDR + 4 * s.get FLASH.QHEAD.HEAD
  let r := bankReads ownFlash slot 3 s
  let s1 := r.2.inc FLASH.QHEAD.HEAD
  match r.1 with
  | some [w0, w1, w2] =>
    let d := flashDescOf slot w0 w1 w2
    let s2 := s1.putFlash { s1.flash with now := some d }
    if s1.flash.touched d && !s1.flashBadArg d && !s1.flash.wipe then s2 else flashJudge d s2
  | _ => flashComplete (flashDescOf slot 0 flashEnd 0) (FlashEnd.plain 4 0xFFF) s1

/-- FLASH_DESCRIPTOR_TAKE: while HEAD differs from TAIL and no descriptor is in hand, the next one is taken (R332), after the line or
sector that LOAD has under way (R428). -/
def execFlashDescriptorTake (s : State) : Out :=
  .next (if s.on FLASH.QCTL.EN && s.get FLASH.QHEAD.HEAD != s.get FLASH.QTAIL.TAIL && s.flash.now.isNone && s.flash.loadOp.isNone then
      flashTake s
    else s)

/-! ### Operations on lines (R333) -/

/-- Do what an operation of code `op` does when the descriptor in hand is one that waits for no relocation. -/
def withDesc (op : Nat) (f : FlashDesc → State → State) (s : State) : State :=
  match s.flash.now with
  | some d => if d.op = op ∧ s.flash.prog = none ∧ s.flash.waitsCopy d = false then f d s else s
  | none => s

/-- R333: READ_VERIFY of the lines from line `i` on, the end so far, and whether a source read failed. -/
def verifyFrom (d : FlashDesc) : Nat → Nat → FlashEnd → State → FlashEnd × State
  | 0, _, x, s => (x, s)
  | n + 1, i, x, s =>
    let a := d.addr + 16 * i
    let hit := decide (1 ≤ s.lineErrors a) && decide (s.lineErrors a ≤ 3)
    let r := lineRead a s
    let x1 := { x with cnt := x.cnt + b2n hit }
    let x2 := if r.1 then x1 else { x1 with unc := true, first := min x1.first i }
    if d.cmp then
      let q := flashSrcReads (d.src + 16 * i) 16 r.2
      match q.1 with
      | none => ({ x2 with status := 4, first := min x2.first i }, q.2)
      | some ws =>
        let x3 := if r.1 && ws != s.rds a 16 then { x2 with verr := true, first := min x2.first i } else x2
        verifyFrom d n (i + 1) x3 q.2
    else verifyFrom d n (i + 1) x2 r.2

/-- READ_VERIFY: reads COUNT lines and optionally compares them with SRC (R333). -/
def execReadVerify (s : State) : Out :=
  .next (withDesc 1 (fun d t =>
    let r := verifyFrom d d.lines 0 (FlashEnd.plain 0 0xFFF) t
    flashFinish d r.1 r.2) s)

/-- R333, R334: read the source words of the lines from line `i` on; a source read that fails stops the program there. -/
def programLines (d : FlashDesc) : Nat → Nat → List (List Nat) → State → FlashProg × State
  | 0, _, acc, s => (⟨d, acc, none⟩, s)
  | n + 1, i, acc, s =>
    let q := flashSrcReads (d.src + 16 * i) 16 s
    match q.1 with
    | none => (⟨d, acc, some i⟩, q.2)
    | some ws => programLines d n (i + 1) (acc ++ [ws]) q.2

/-- R333, R398: a program starts; it voids the token of the region of a line it writes. -/
def programStart (d : FlashDesc) (s : State) : State :=
  let r := programLines d d.lines 0 [] s
  let s1 := (List.range r.1.lines.length).foldl (fun t i => voidToken (d.addr + 16 * i) t) r.2
  s1.putFlash { s1.flash with prog := some r.1 }

/-- PROGRAM_LINE: one line from 16 words at SRC (R333). -/
def execProgramLine (s : State) : Out := .next (withDesc 2 programStart s)

/-- PROGRAM_RANGE: COUNT lines in ascending order (R333). -/
def execProgramRange (s : State) : Out := .next (withDesc 3 programStart s)

/-- Lines are written in ascending order from an address. -/
def State.writeLines (s : State) (a : Nat) (ls : List (List Nat)) : State :=
  match ls with
  | [] => s
  | ws :: t => (s.programLine a ws).writeLines (a + 16) t

/-- R343: the sector of line `i` of a program holds lines that cannot be verified: it moves to a spare, or the program fails. -/
def programBad (d : FlashDesc) (q : FlashEnd × State) (i : Nat) : FlashEnd × State :=
  let a := d.addr + 16 * i
  let b := flashBank a
  let sec := flashSec a
  match q.2.flash.spareOf b with
  | some sp =>
    ({ q.1 with remap := true }, ((relocate b sec sp (copyRead b sec q.2)).incSat FLASH.RELOC.REMAP).report .flashRemap (elFlash b) sec)
  | none => ({ q.1 with fail := true, first := min q.1.first i }, q.2.report .flashNospare (elFlash b) sec)

/-- The first bad line of every sector that a program touches. -/
def FlashProg.badLines (p : FlashProg) (bad : List Nat) : List Nat :=
  let ls := (List.range p.lines.length).filter bad.contains
  let sec (i : Nat) : Nat := flashSec (p.desc.addr + 16 * i)
  ls.filter (fun i => ls.find? (fun j => sec j == sec i) == some i)

/-- PROGRAM_COMPLETE: a program ends; `bad` are the lines that do not verify within the maximum time (R343). A source read that
failed stopped it: the lines before stand (R334). -/
def execProgramComplete (bad : List (BitVec 12)) (s : State) : Out :=
  .next (match s.flash.prog with
    | none => s
    | some p =>
      let q := (p.badLines (bad.map BitVec.toNat)).foldl (programBad p.desc)
        (FlashEnd.plain 0 0xFFF, s.writeLines p.desc.addr p.lines)
      match p.stop with
      | some i => flashFinish p.desc { q.1 with status := 4, first := min q.1.first i } q.2
      | none => flashFinish p.desc q.1 q.2)

/-- BLANK_CHECK: NOT_BLANK with the first line that is not erased (R328, R333). -/
def execBlankCheck (s : State) : Out :=
  .next (withDesc 6 (fun d t =>
    let r := readLines d.addr (d.addr + 16 * d.lines) t
    match d.firstLine (fun a => !t.lineBlank a) with
    | some i => flashFinish d { FlashEnd.plain 2 i with unc := !r.1 } r.2
    | none => flashFinish d (FlashEnd.plain 0 0xFFF) r.2) s)

/-- MARGIN_READ: `below` are the lines below threshold at the reference of EMRG (R328, R333). -/
def execMarginRead (below : List (BitVec 12)) (s : State) : Out :=
  .next (withDesc 7 (fun d t =>
    let r := readLines d.addr (d.addr + 16 * d.lines) t
    let ls := (List.range d.lines).filter (fun i => below.any (fun x => x.toNat == i))
    let unc := (d.firstLine (fun a => decide (4 ≤ t.lineErrors a))).getD 0xFFF
    flashFinish d { FlashEnd.plain 0 (min (ls.headD 0xFFF) unc) with cnt := ls.length, unc := !r.1 } r.2) s)

/-! ### Erases (R335 to R337, R343) -/

/-- R335, R337: a descriptor erase starts, unless an internal erase of the bank is to end before; the queue goes on at once. -/
def eraseStart (d : FlashDesc) (s : State) : State :=
  let b := flashBank d.addr
  if s.flash.intErase b then s
  else s.putFlash { s.flash with
    now := none
    runs := s.flash.runs ++ [⟨b, d.secs.filter (fun x => !s.flash.isRetired b x), .desc d, false⟩] }

/-- ERASE_SECTOR: the erase of the sector that holds ADDR starts (R333, R337). -/
def execEraseSector (s : State) : Out := .next (withDesc 4 eraseStart s)

/-- ERASE_BANK: the erase of every sector of the bank starts (R333). -/
def execEraseBank (s : State) : Out := .next (withDesc 5 eraseStart s)

/-- SUSPEND: the descriptor erase of the bank is told to halt; the descriptor ends when it has (R336). -/
def execSuspend (s : State) : Out :=
  .next (withDesc 8 (fun d t =>
    if t.flash.descErase (flashBank d.addr) false then t else flashFinish d (FlashEnd.plain 0 0xFFF) t) s)

/-- R336: the erase of a bank's descriptor halts or goes on. -/
def FlashSt.setSusp (f : FlashSt) (b : Nat) (susp : Bool) : FlashSt :=
  { f with runs := f.runs.map (fun r => if r.bank = b && r.isDesc then { r with susp := susp } else r) }

/-- RESUME: the suspended erase continues (R336). -/
def execResume (s : State) : Out :=
  .next (withDesc 9 (fun d t => flashFinish d (FlashEnd.plain 0 0xFFF) (t.putFlash (t.flash.setSusp (flashBank d.addr) false)))
    s)

/-- ERASE_HALTED: the erase that the SUSPEND in hand names has halted, and SUSPEND completes (R336). -/
def execEraseHalted (s : State) : Out :=
  .next (withDesc 8 (fun d t => flashFinish d (FlashEnd.plain 0 0xFFF) (t.putFlash (t.flash.setSusp (flashBank d.addr) true)))
    s)

/-- R343: the erase of one logical sector ends, blank or not; FAIL and REMAP gather in the end. -/
def eraseOne (b : Nat) (bad : List Nat) (q : FlashEnd × State) (sec : Nat) : FlashEnd × State :=
  let s := eraseSector b sec q.2
  let f := { s.flash with torn := s.flash.torn.filter (· != (b, sec, false)) }
  if !bad.contains sec then (q.1, s.setFlash f)
  else match f.spareOf b with
    | some sp =>
      ({ q.1 with remap := true },
        ((s.setFlash (f.useSpare b sec sp)).incSat FLASH.RELOC.REMAP).report .flashRemap (elFlash b) sec)
    | none =>
      ({ q.1 with fail := true },
        (s.setFlash { f with retired := (b, sec) :: f.retired }).report .flashNospare (elFlash b) sec)

/-- R342, R349: an internal erase ends. -/
def internalErased (r : EraseRun) (bad : List Nat) (s : State) : State :=
  match r.kind with
  | .desc _ | .load => s
  | .spare => r.secs.foldl (fun t p =>
      t.putFlash { t.flash with
        torn := t.flash.torn.filter (· != (r.bank, p, true))
        spares := if bad.contains p then t.flash.spares else t.flash.spares ++ [(r.bank, p)] }) s
  | .store => r.secs.foldl (fun t x =>
      let t1 := eraseSector 3 x t
      storeErased x (!bad.contains x) (t1.putFlash { t1.flash with torn := t1.flash.torn.filter (· != (3, x, false)) })) s

/-- The erase that runs in a bank ends. -/
def eraseComplete (r : EraseRun) (bad : List Nat) (s : State) : State :=
  let s1 := s.setFlash { s.flash with runs := s.flash.runs.erase r }
  match r.kind with
  | .desc d =>
    let q := r.secs.foldl (eraseOne r.bank bad) (FlashEnd.plain 0 0xFFF, s1)
    flashComplete d q.1 (flashShow q.2)
  | _ => flashShow (internalErased r bad s1)

/-- ERASE_COMPLETE: the erase that runs in a bank ends; `bad` are the sectors it could not blank (R337, R343). That of LOAD ends by its
own rows. -/
def execEraseComplete (b : Fin 4) (bad : List (BitVec 11)) (s : State) : Out :=
  .next (match s.flash.runs.find? (fun r => r.bank == b.val && !r.susp && decide (r.kind ≠ .load)) with
    | some r => eraseComplete r (bad.map BitVec.toNat) s
    | none => s)

/-! ### Scan and relocation (R340 to R342) -/

/-- R340: the sectors of the scan's cycle: logical and spare sectors bank by bank. A spare is (bank, none). -/
def scanTarget (i : Nat) : Nat × Option Nat :=
  if i < 512 then (0, some i)
  else if i < 516 then (0, none)
  else if i < 1028 then (1, some (i - 516))
  else if i < 1032 then (1, none)
  else if i < 1416 then (2, some (i - 1032))
  else if i < 1424 then (2, none)
  else (3, some (i - 1040))

/-- R335, R342: the controller may start an internal erase or a copy in the bank: no erase runs or is suspended there, and no
program, relocation, descriptor or line of LOAD is under way there. -/
def FlashSt.eraseFree (f : FlashSt) (b : Nat) : Bool :=
  !f.runs.any (fun r => r.bank == b) && !f.copies.any (fun c => c.1 == b) && !f.now.any (fun d => flashBank d.addr == b) &&
    !f.loadOp.any (fun q => flashBank q.1 == b)

/-- R328, R340: the scan reads the lines of a sector that can be read. -/
def scanRead (b sec : Nat) (s : State) : State :=
  if [1, 2, 3, 4].contains (s.flash.sstate b sec) then s
  else (readLines (secBase b sec) (secBase b sec + secWords b) s).2

/-- R340: one sector has been scanned. -/
def scanNext (s : State) : State :=
  let n := s.get FLASH.SCAN.DONE + 1
  if n < 2064 then s.put FLASH.SCAN.DONE n else (s.put FLASH.SCAN.DONE 0).inc FLASH.SCAN.PASSES

/-- FLASH_SCAN: while IS26 is in White, the next sector of the cycle is margin-read; `weak`: a line of it lies below threshold; `errs`:
errors that have struck words of the flash before (R328, R340). -/
def execFlashScan (weak : Bool) (s0 : State) (errs : List (Addr × Bool) := []) : Out :=
  let s := errs.foldl (fun u e => u.strike (some e) 0 0x500000) s0
  let g := scanTarget (s.get FLASH.SCAN.DONE)
  .next (if s.island 26 ≠ 0 then s
    else match g.2 with
    | some sec => scanNext (if weak then queueReloc g.1 sec (scanRead g.1 sec s) else scanRead g.1 sec s)
    | none => scanNext s)

/-- R342, step 1: the copy of the oldest queued sector of a bank that can be relocated starts when the bank holds an erased
spare; its lines are read. -/
def relocateStart (b : Nat) (s : State) : State :=
  match s.flash.queued.find? (fun q => q.1 == b && s.flash.sstate b q.2 == 0), s.flash.spareOf b with
  | some q, some sp =>
    if s.flash.eraseFree b then
      let t := copyRead b q.2 s
      t.putFlash { t.flash with copies := t.flash.copies ++ [(b, q.2, sp)], spares := t.flash.spares.erase (b, sp) }
    else s
  | _, _ => s

/-- R342: a descriptor in hand that waited for the commit is checked. -/
def flashResume (b sec : Nat) (s : State) : State :=
  match s.flash.now with
  | some d => if d.touches b sec then flashJudge d s else s
  | none => s

/-- R342, step 2: the remap entry that names the spare is committed. -/
def relocateCommit (c : Nat × Nat × Nat) (s : State) : State :=
  let s1 := s.setFlash { s.flash with copies := s.flash.copies.erase c }
  flashResume c.1 c.2.1 ((relocate c.1 c.2.1 c.2.2 s1).incSat FLASH.RELOC.REFRESH)

/-- R342, step 3: an old sector, or a torn or discarded spare, is erased while MAINT allows it and nothing else is under way in
the bank. -/
def spareErase (b : Nat) (s : State) : State :=
  match s.flash.dirty.find? (fun q => q.1 == b) with
  | some q =>
    if s.maint b && s.flash.eraseFree b then
      s.putFlash { s.flash with
        dirty := s.flash.dirty.erase q
        runs := s.flash.runs ++ [⟨b, [q.2], .spare, false⟩] }
    else s
  | none => s

/-- RELOCATE: the relocation of a bank takes its next step: the copy of a queued sector starts, or it ends and the remap
commits; with neither, or after the commit, an old sector is erased under MAINT (R342). -/
def execRelocate (b : Fin 3) (s : State) : Out :=
  .next (match s.flash.copies.find? (fun c => c.1 == b.val) with
    | some c => spareErase b.val (relocateCommit c s)
    | none => spareErase b.val (relocateStart b.val s))

end Sys2Proof.Machine
end

