-- ==== Sys2Proof/Machine/Numbers.lean ====
section
/-! DEFINITION. Exact numbers of the data paths: dyadic values m × 2^e, their rounding, and sine, cosine and root 3 to
2^−310 and angles to 2^−170, finer than any bound the spec gives at any exponent a stage can have. -/

namespace Sys2Proof.Machine

def Dy.zero : Dy := ⟨0, 0⟩
def Dy.ofInt (x : Int) : Dy := ⟨x, 0⟩
def Dy.neg (a : Dy) : Dy := ⟨-a.m, a.e⟩

/-- The integer a / 2^e0, for e0 at most the exponent of a. -/
def Dy.at (a : Dy) (e0 : Int) : Int := a.m * 2 ^ (a.e - e0).toNat

def Dy.add (a b : Dy) : Dy := ⟨a.at (min a.e b.e) + b.at (min a.e b.e), min a.e b.e⟩
def Dy.sub (a b : Dy) : Dy := a.add b.neg
def Dy.mul (a b : Dy) : Dy := ⟨a.m * b.m, a.e + b.e⟩
def Dy.abs (a : Dy) : Dy := ⟨a.m.natAbs, a.e⟩
def Dy.lt (a b : Dy) : Bool := decide ((a.sub b).m < 0)
def Dy.le (a b : Dy) : Bool := decide ((a.sub b).m ≤ 0)
def Dy.eq (a b : Dy) : Bool := decide ((a.sub b).m = 0)
def Dy.max (a b : Dy) : Dy := if a.lt b then b else a
def Dy.min (a b : Dy) : Dy := if b.lt a then b else a
def Dy.half (a : Dy) : Dy := ⟨a.m, a.e - 1⟩
def Dy.scale (a : Dy) (k : Int) : Dy := ⟨a.m, a.e + k⟩

/-- a × 2^k rounded to an integer, half away from zero. -/
def Dy.round (a : Dy) (k : Int) : Int :=
  if 0 ≤ a.e + k then a.m * 2 ^ (a.e + k).toNat else roundAway a.m (2 ^ (-(a.e + k)).toNat)

/-- The greatest integer at most a × 2^k. -/
def Dy.floor (a : Dy) (k : Int) : Int :=
  if 0 ≤ a.e + k then a.m * 2 ^ (a.e + k).toNat else a.m / 2 ^ (-(a.e + k)).toNat

/-- The least integer that is no less than the number × 2^k. -/
def Dy.ceil (a : Dy) (k : Int) : Int := -(a.neg.floor k)

/-- a / b × 2^k truncated toward zero, b not zero. -/
def Dy.quot (a b : Dy) (k : Int) : Int :=
  let j := a.e - b.e + k
  if 0 ≤ j then Int.tdiv (a.m * 2 ^ j.toNat) b.m else Int.tdiv a.m (b.m * 2 ^ (-j).toNat)

/-- The integer square root, by one bit per step from bit `k − 1` down. -/
def isqrtFrom (n : Nat) : Nat → Nat → Nat
  | 0, r => r
  | k + 1, r => if (r + 2 ^ k) * (r + 2 ^ k) ≤ n then isqrtFrom n k (r + 2 ^ k) else isqrtFrom n k r

def isqrt (n : Nat) : Nat := isqrtFrom n (n.log2 / 2 + 1) 0

/-- √a × 2^k rounded to the nearest integer, for a not negative. -/
def Dy.root (a : Dy) (k : Int) : Int :=
  let j := a.e + 2 * k + 2
  let n := if 0 ≤ j then a.m.toNat * 2 ^ j.toNat else a.m.toNat / 2 ^ (-j).toNat
  ((isqrt n + 1) / 2 : Nat)

/-! ### Angles in half-turns; fixed point with 320 fractional bits -/

def fixOne : Int := 2 ^ 320

/-- π. -/
def fixPi : Int := 6710401180212168915155840974220003240804194089427148950727106424351713218671805380099500388914040

/-- √3. -/
def fixRoot3 : Int := (isqrt (3 * 2 ^ 640) : Nat)

/-- The Taylor sum of sine (`odd`) or cosine of a fixed-point angle in radians, term by term. -/
def taylor (a2 : Int) : Nat → Nat → Int → Int
  | 0, _, _ => 0
  | n + 1, k, t => t + taylor a2 n (k + 2) (-(t * a2 / fixOne) / (((k + 1) * (k + 2) : Nat) : Int))

/-- An angle in half-turns brought into −1 to 1, in fixed point. -/
def foldTurn (x : Int) : Int := (x + fixOne) % (2 * fixOne) - fixOne

/-- cos πx and sin πx. -/
def fixCos (x : Int) : Int :=
  let a := foldTurn x * fixPi / fixOne
  taylor (a * a / fixOne) 50 0 fixOne

def fixSin (x : Int) : Int :=
  let a := foldTurn x * fixPi / fixOne
  taylor (a * a / fixOne) 50 1 a

/-- The greatest angle in 0 to 1 half-turns, in steps of 2^−k from `lo`, that does not pass the vector (x, y), y > 0. -/
def angleFrom (x y : Int) : Nat → Int → Int → Int
  | 0, lo, _ => lo
  | n + 1, lo, step =>
    let mid := lo + step
    if 0 ≤ y * fixCos mid - x * fixSin mid then angleFrom x y n mid (step / 2) else angleFrom x y n lo (step / 2)

/-- The angle of a vector in half-turns, −1 to 1, in fixed point, good to 2^−170; 0 for the null vector. Of the two half-turns of a negative `x`
alone it is that of +1; a caller for which that is open chooses (log 59, 175). -/
def fixAngle (x y : Int) : Int :=
  if y = 0 then (if x < 0 then fixOne else 0)
  else if 0 < y then angleFrom x y 170 0 (fixOne / 2)
  else -angleFrom x (-y) 170 0 (fixOne / 2)

/-- A dyadic angle in fixed point. -/
def Dy.turn (a : Dy) : Int := a.floor 320

/-- A fixed-point number as a dyadic value. -/
def Dy.ofFix (x : Int) : Dy := ⟨x, -320⟩

/-- x cos πθ − y sin πθ and x sin πθ + y cos πθ. -/
def rotX (x y θ : Dy) : Dy := (x.mul (Dy.ofFix (fixCos θ.turn))).sub (y.mul (Dy.ofFix (fixSin θ.turn)))
def rotY (x y θ : Dy) : Dy := (x.mul (Dy.ofFix (fixSin θ.turn))).add (y.mul (Dy.ofFix (fixCos θ.turn)))

/-- The length of a vector, to 2^−100 below its exponent. -/
def vecLen (x y : Dy) : Dy :=
  let q := (x.mul x).add (y.mul y)
  ⟨q.root (100 - min x.e y.e), min x.e y.e - 100⟩

/-- The angle of a vector. -/
def vecAngle (x y : Dy) : Dy := Dy.ofFix (fixAngle (x.at (min x.e y.e)) (y.at (min x.e y.e)))

end Sys2Proof.Machine
end

