-- ==== Sys2Proof/Machine/LawMath.lean ====
section
/-! DEFINITION. The number forms of the loop engines, the landing of results, and the data path of every law op as a
function of its operand values (R102 to R109). -/

namespace Sys2Proof.Machine

/-- R102: the largest mantissa. -/
def mantMax : Int := 2 ^ 35 - 1

/-- R102: a register's mantissa as an op reads it. -/
def readMant (m : Int) : Int := clampInt (-mantMax) mantMax m

/-- R103: an exact value converted to exponent `e`, not yet saturated. -/
def Dy.toMant (v : Dy) (e : Int) : Int := v.round (35 - e)

/-- R102: the value of a mantissa at an exponent. -/
def ofMant (m e : Int) : Dy := ⟨readMant m, e - 35⟩

/-- R102: the mantissa a memory word holds. -/
def wordMant (w : Nat) : Int := readMant (sgn 36 w)

/-- R105: a half of a register as a Q15 integer. -/
def q15 (m : Int) (high : Bool) : Int :=
  clampInt (-32767) 32767 (sgn 18 (bits (unsgn 36 m) (if high then 18 else 0) 18))

/-- R105: limits of an accumulator. -/
def accMax : Int := 2 ^ 39 - 1

/-! ### Landing (R103, R104, R112) -/

/-- Write a mantissa; one that does not fit saturates and sets OVF of its stage. -/
def LawPass.putX (p : LawPass) (d : Nat) (m : Int) : LawPass :=
  let m' := clampInt (-mantMax) mantMax m
  { p with
    x := p.x.set d m'
    ovf := if m' = m then p.ovf else p.ovf ||| 2 ^ (d / 8) }

/-- The stage exponent of a register. -/
def LawPass.seOf (p : LawPass) (d : Nat) : Int := p.se.getD (d / 8) 0

/-- R104: NORM of a stage. -/
def LawPass.norm (p : LawPass) (s h : Nat) : LawPass :=
  let ms := (List.range 8).map (fun i => readMant (p.x.getD (8 * s + i) 0))
  let mx := ms.foldl (fun a m => max a m.natAbs) 0
  if mx = 0 then p
  else
    let e := p.se.getD s 0
    let k := clampInt (e - 127) (e + 128) (34 - (h : Int) - (mx.log2 : Int))
    { p with
      x := (List.range 64).map (fun i => if i / 8 = s then (Dy.mk (readMant (p.x.getD i 0)) 0).round k else p.x.getD i 0)
      se := p.se.set s (e - k) }

/-- R109: a result within 2^−32 of full scale of the exact value at an exponent, which is eight units of the mantissa; `dev` chooses
among those results. -/
def nearMant (v : Dy) (e dev : Int) : Int :=
  clampInt (v.ceil (35 - e) - 8) (v.floor (35 - e) + 8) (v.toMant e + dev)

/-- One result lands; `sign` is −1 in the retake, whose engine holds negations (R118). -/
def LawPass.landOne (sign : Int) (p : LawPass) (r : LawRes) : LawPass :=
  match r with
  | .val d v => p.putX d (sign * v.toMant (p.seOf d))
  | .near d v dev cap =>
    let m := nearMant v (p.seOf d) dev
    p.putX d (sign * match cap with
      | some c => clampInt 0 (c.toMant (p.seOf d)) m
      | none => m)
  | .quo d a b => p.putX d (sign * a.quot b (35 - p.seOf d))
  | .root d v => p.putX d (sign * v.root (35 - p.seOf d))
  | .mant d m => { p with x := p.x.set d (sign * m) }
  | .halves d hi lo => { p with x := p.x.set d (sign * sgn 36 (unsgn 18 hi * 2 ^ 18 + unsgn 18 lo)) }
  | .flag b => { p with flag := b }
  | .ovf s => { p with ovf := p.ovf ||| 2 ^ s }
  | .qovf => { p with qovf := true }
  | .acc i a => { p with fa := p.fa.set i (sign * a) }
  | .norm s h => p.norm s h
  | .word i m => { p with view := (i, m) :: p.view.filter (fun e => e.1 != i) }

/-- Whether a result is a NORM, which lands last in its cycle. -/
def LawRes.isNorm : LawRes → Bool
  | .norm _ _ => true
  | _ => false

/-- R103, R112: everything that lands in one cycle, in issue order, NORMs last. -/
def LawPass.landAt (sign : Int) (c : Nat) (p : LawPass) : LawPass :=
  let now := (p.flight.filter (fun f => f.1 == c)).map (fun f => f.2)
  let p1 := (now.filter (fun r => !r.isNorm)).foldl (LawPass.landOne sign) p
  let p2 := (now.filter LawRes.isNorm).foldl (LawPass.landOne sign) p1
  { p2 with flight := p.flight.filter (fun f => f.1 != c) }

/-- `w` cycles pass; what lands in them lands. -/
def LawPass.pass (sign : Int) (w : Nat) (p : LawPass) : LawPass :=
  (List.range w).foldl (fun q j => { q.landAt sign (p.cyc + j + 1) with cyc := p.cyc + j + 1 }) p

/-! ### Fields of a law op (R107) -/

def opcOf (w : Nat) : Nat := bits w 30 6
def opD (w : Nat) : Nat := bits w 24 6
def opA (w : Nat) : Nat := bits w 18 6
def opB (w : Nat) : Nat := bits w 12 6
def opFN (w : Nat) : Nat := bits w 0 12
def opK (w : Nat) : Nat := bits w 0 18

/-- R108: cycles of an op. -/
def opWidth (w : Nat) : Nat := if opcOf w = 1 then max 1 (bits w 0 6) else 1

/-- R108: length of a REP's body and its iterations. -/
def repLen (w : Nat) : Nat := if bits w 0 6 = 0 then 64 else bits w 0 6
def repTotal (w : Nat) : Nat := if bits w 8 8 = 0 then 256 else bits w 8 8

/-- How many iterations from 0 lie below a value (R108: compared exactly). -/
def liveCount (v : Dy) (total : Nat) : Nat :=
  if v.m ≤ 0 then 0 else min total (-(v.neg.floor 0)).toNat

/-! ### Operand values -/

/-- What a data path reads: register values, bits, accumulators, flags, all in take form. -/
structure Reads where
  x    : Nat → Dy
  half : Nat → Bool → Int
  acc  : Nat → Int
  flag : Bool
  ovf  : Nat → Bool
  qovf : Bool

/-- The operands a pass offers; in the retake each is the negation of what stands in the engine. A register stands there as the
negation of its whole word, so the halves of R105 are those of the word negated back (R118). -/
def LawPass.reads (sign : Int) (p : LawPass) : Reads where
  x := fun i => ofMant (sign * readMant (p.x.getD i 0)) (p.seOf i)
  half := fun i h => q15 (sign * p.x.getD i 0) h
  acc := fun i => sign * p.fa.getD i 0
  flag := p.flag
  ovf := fun s => bitOf p.ovf s
  qovf := p.qovf

/-- R108: the SKIP conditions. -/
def skipCond (c : Nat) (r : Reads) (a : Nat) : Bool :=
  let m := (r.x a).m
  match c with
  | 0 => decide (m = 0)
  | 1 => decide (m ≠ 0)
  | 2 => decide (0 < m)
  | 3 => decide (m < 0)
  | 4 => decide (0 ≤ m)
  | 5 => decide (m ≤ 0)
  | 6 => r.flag
  | 7 => !r.flag
  | 8 => r.ovf (a / 8)
  | 9 => r.qovf
  | 10 => true
  | _ => false

/-- What a law op leaves open, by opcode, output and operand values. -/
def lawFree (opc out : Nat) (vs : List Dy) : Int := Config.lawDev opc out (vs.map (fun v => v.at (min v.e (-163))))

/-- R109: how far a result of CORDIC, PARK, IPARK, CLK or SVM lies from the exact one: at most 2^−32 of full scale, which
is eight units of the landing mantissa; a fixed function of the operand values. -/
def lawDev (opc out : Nat) (vs : List Dy) : Int :=
  clampInt (-8) 8 (lawFree opc out vs)

/-! ### Data paths (R108): the results of each op from its operands -/

def dpAdd (w : Nat) (r : Reads) : List LawRes := [.val (opD w) ((r.x (opA w)).add (r.x (opB w)))]
def dpSub (w : Nat) (r : Reads) : List LawRes := [.val (opD w) ((r.x (opA w)).sub (r.x (opB w)))]
def dpNeg (w : Nat) (r : Reads) : List LawRes := [.val (opD w) (r.x (opA w)).neg]
def dpMov (w : Nat) (r : Reads) : List LawRes := [.val (opD w) (r.x (opA w))]
def dpMul (w : Nat) (r : Reads) : List LawRes := [.val (opD w) ((r.x (opA w)).mul (r.x (opB w)))]
def dpMac (w : Nat) (r : Reads) : List LawRes :=
  [.val (opD w) ((r.x (opD w)).add ((r.x (opA w)).mul (r.x (opB w))))]
def dpScl (w : Nat) (r : Reads) : List LawRes := [.val (opD w) ((r.x (opA w)).scale (sgn 7 (bits w 0 7)))]
def dpNorm (w : Nat) (_ : Reads) : List LawRes := [.norm (bits w 9 3) (bits w 0 6)]

def dpSats (w : Nat) (r : Reads) : List LawRes :=
  let a := r.x (opA w)
  let b := (r.x (opB w)).abs
  if b.lt a then [.val (opD w) b, .flag true]
  else if a.lt b.neg then [.val (opD w) b.neg, .flag true]
  else [.val (opD w) a, .flag false]

def dpSata (w : Nat) (r : Reads) : List LawRes :=
  let a := r.x (opA w)
  let lo := r.x (opB w)
  let hi := r.x (opB w + 1)
  if hi.lt lo then [.val (opD w) (lo.add hi).half, .flag true]
  else if a.lt lo then [.val (opD w) lo, .flag true]
  else if hi.lt a then [.val (opD w) hi, .flag true]
  else [.val (opD w) a, .flag false]

def dpAbs (w : Nat) (r : Reads) : List LawRes := [.val (opD w) (r.x (opA w)).abs]
def dpMax (w : Nat) (r : Reads) : List LawRes := [.val (opD w) ((r.x (opA w)).max (r.x (opB w)))]
def dpMin (w : Nat) (r : Reads) : List LawRes := [.val (opD w) ((r.x (opA w)).min (r.x (opB w)))]

def dpCmp (w : Nat) (r : Reads) : List LawRes :=
  let a := r.x (opA w)
  let b := r.x (opB w)
  [.flag (match bits w 0 2 with
    | 0 => b.lt a
    | 1 => b.le a
    | 2 => a.eq b
    | _ => !a.eq b)]

def dpSel (w : Nat) (r : Reads) : List LawRes := [.val (opD w) (if r.flag then r.x (opA w) else r.x (opB w))]

/-- R109: the table index and fraction of a TRD. -/
def trdPos (w : Nat) (a : Dy) : Nat × Dy :=
  let s := bits w 0 4
  let u := (a.max (Dy.ofInt (-1))).min (Dy.ofInt 1)
  let t := (u.add (Dy.ofInt 1)).scale ((s : Int) - 1)
  let i := min (t.floor 0).toNat (2 ^ s - 1)
  (i, t.sub (Dy.ofInt i))

/-- R109: TRD, `c` the constants as fractions. -/
def dpTrd (c : Nat → Dy) (w : Nat) (r : Reads) : List LawRes :=
  let (i, f) := trdPos w (r.x (opA w))
  let lo := c (bits w 8 10 + i)
  let hi := c (bits w 8 10 + i + 1)
  [.val (opD w) (lo.add (f.mul (hi.sub lo)))]

/-- A mantissa that is free. -/
def freeMant (opc out : Nat) (vs : List Dy) : Int := clampInt (-mantMax) mantMax (lawFree opc out vs)

/-- R109: the angle that a vectoring CROT gives. Of a vector along the negative first axis both half-turns are its angle, and the null
vector has none; there the value is free (DESIGN CHOICE, log 175). -/
def crotAngle (d : Nat) (x y : Dy) : LawRes :=
  if x.m = 0 ∧ y.m = 0 then .mant d (freeMant 0x1C 5 [x, y])
  else
    let a := vecAngle x y
    .near d (if y.m = 0 ∧ x.m < 0 ∧ lawDev 0x1C 4 [x, y] < 0 then a.neg else a) (lawDev 0x1C 3 [x, y]) none

def dpCrot (w : Nat) (r : Reads) : List LawRes :=
  let x := r.x (opA w)
  let y := r.x (opA w + 1)
  if bitOf w 0 then [.near (opD w) (vecLen x y) (lawDev 0x1C 2 [x, y]) none, crotAngle (opD w + 1) x y]
  else
    let t := r.x (opB w)
    [.near (opD w) (rotX x y t) (lawDev 0x1C 0 [x, y, t]) none,
      .near (opD w + 1) (rotY x y t) (lawDev 0x1C 1 [x, y, t]) none]

def dpDiv (w : Nat) (r : Reads) : List LawRes :=
  let a := r.x (opA w)
  let b := r.x (opB w)
  if b.m = 0 then
    [.mant (opD w) (if a.m = 0 then 0 else if a.m < 0 then -mantMax else mantMax), .ovf (opD w / 8)]
  else [.quo (opD w) a b]

def dpSqrt (w : Nat) (r : Reads) : List LawRes :=
  let a := r.x (opA w)
  if a.m < 0 then [.val (opD w) Dy.zero, .flag true] else [.root (opD w) a, .flag false]

def dpClk (w : Nat) (r : Reads) : List LawRes :=
  let a := r.x (opA w)
  let b := r.x (opA w + 1)
  [.val (opD w) a,
    .near (opD w + 1) (Dy.mk ((a.add (b.scale 1)).m * (fixOne * fixOne / fixRoot3)) ((a.add (b.scale 1)).e - 320))
      (lawDev 0x20 1 [a, b]) none]

def dpPark (w : Nat) (r : Reads) : List LawRes :=
  let a := r.x (opA w)
  let b := r.x (opA w + 1)
  let t := r.x (opB w)
  [.near (opD w) (rotX a b t.neg) (lawDev 0x21 0 [a, b, t]) none,
    .near (opD w + 1) (rotY a b t.neg) (lawDev 0x21 1 [a, b, t]) none]

def dpIpark (w : Nat) (r : Reads) : List LawRes :=
  let a := r.x (opA w)
  let b := r.x (opA w + 1)
  let t := r.x (opB w)
  [.near (opD w) (rotX a b t) (lawDev 0x22 0 [a, b, t]) none,
    .near (opD w + 1) (rotY a b t) (lawDev 0x22 1 [a, b, t]) none]

/-- R109: one compare value of SVM: h × (1/2 − v / vdc), in fixed point relative to h. -/
def svmOne (h v vdc : Dy) : Dy :=
  let q := v.quot vdc 320
  h.mul (Dy.ofFix (fixOne / 2 - q))

/-- R109: SVM. The limits 0 and h of a negative h leave no value: it is free there (DESIGN CHOICE, log 174). -/
def dpSvm (w : Nat) (r : Reads) : List LawRes :=
  let va := r.x (opA w)
  let b := r.x (opA w + 1)
  let h := r.x (opB w)
  let vdc := r.x (opB w + 1)
  let d := opD w
  if vdc.m ≤ 0 then [.val d h.half, .val (d + 1) h.half, .val (d + 2) h.half, .flag true]
  else
    let k := (b.mul (Dy.ofFix fixRoot3)).half
    let vb := va.half.neg.add k
    let vc := va.half.neg.sub k
    let v0 := ((((va.max vb).max vc).add ((va.min vb).min vc)).half).neg
    let one (i : Nat) (v : Dy) : LawRes :=
      if h.m < 0 then .mant (d + i) (freeMant 0x23 (3 + i) [va, b, h, vdc])
      else .near (d + i) (svmOne h (v.add v0) vdc) (lawDev 0x23 i [va, b, h, vdc]) (some h)
    [one 0 va, one 1 vb, one 2 vc, .flag false]

/-! ### Fast path (R105) -/

def satAcc (a : Int) : Int := clampInt (-accMax) accMax a
def satQ (q : Int) : Int := clampInt (-32767) 32767 q

def dpQmac2 (w : Nat) (r : Reads) : List LawRes :=
  let p := 2 * (opD w % 2)
  let fn := opFN w
  let h := r.half (opA w) true * r.half (opB w) (fn != 1)
  let l := r.half (opA w) false * r.half (opB w) (fn == 1)
  let one (i : Nat) (pr : Int) : List LawRes :=
    let a := r.acc i + (if fn = 2 then -pr else pr)
    if satAcc a = a then [.acc i a] else [.acc i (satAcc a), .qovf]
  one p h ++ one (p + 1) l

def dpQld (w : Nat) (r : Reads) : List LawRes :=
  let p := 2 * (opD w % 2)
  [.acc p (r.half (opA w) true * 2 ^ 15), .acc (p + 1) (r.half (opA w) false * 2 ^ 15)]

/-- Two halves with QOVF where one of them saturated. -/
def twoHalves (d : Nat) (hi lo : Int) : List LawRes :=
  .halves d (satQ hi) (satQ lo) :: (if satQ hi = hi ∧ satQ lo = lo then [] else [.qovf])

def dpQout (w : Nat) (r : Reads) : List LawRes :=
  let p := 2 * (opA w % 2)
  let sh := clampInt (-8) 8 (sgn 5 (bits w 0 5))
  twoHalves (opD w) ((Dy.ofInt (r.acc p)).round (sh - 15)) ((Dy.ofInt (r.acc (p + 1))).round (sh - 15))

def dpQadd (w : Nat) (r : Reads) : List LawRes :=
  twoHalves (opD w) (r.half (opA w) true + r.half (opB w) true) (r.half (opA w) false + r.half (opB w) false)

def dpQtob (w : Nat) (r : Reads) : List LawRes := [.val (opD w) ⟨r.half (opA w) (bitOf w 0), -15⟩]

def dpBtoq (w : Nat) (r : Reads) : List LawRes :=
  twoHalves (opD w) ((r.x (opA w)).round 15) ((r.x (opB w)).round 15)

end Sys2Proof.Machine
end

