-- ==== Sys2Proof/Machine/EngOps.lean ====
section
/-! DEFINITION. The loop engines' shared operations: memories, states, triggers, the issue of one law op, effects and their
check, commit, settlement and the way to Red (R100, R101, R115 to R132). -/

namespace Sys2Proof.Machine

/-! ### Memories (R100, R101) -/

/-- R27: an engine's window. -/
def engBase (e : Nat) : Nat := 0x01300000 + e * 0x1000
def engState (e i : Nat) : Nat := engBase e + 0x800 + i
def engConst (e i : Nat) : Nat := engBase e + 0xC00 + i

/-- R100: the negation a negative image holds of a positive word. -/
def negWord (w : Nat) : Nat := unsgn 36 (-(wordMant w))

def State.engNegW (s : State) (e i : Nat) : Nat := Tab.get (fun _ => 0) s.engNeg (e * 1024 + i)

/-- R101: where an error in a negative word is marked: beyond every address of the map. -/
def negAdr (e i : Nat) : Nat := 2 ^ 33 + e * 1024 + i

/-- Write one negative word, with valid check bits. -/
def State.putEngNeg (s : State) (e i v : Nat) : State :=
  (s.setEngNeg (Tab.set (fun _ => 0) s.engNeg (e * 1024 + i) (v % 2 ^ 36))).unmark (negAdr e i)

/-- R101: an error strikes a word of an engine's memory: its offset in the window, whether it is uncorrectable, and whether it lies
in the negative image of that state word. -/
def engStrike (e : Nat) (err : Option (BitVec 12 × Bool × Bool)) (s : State) : State :=
  match err with
  | none => s
  | some (off, hard, neg) =>
    let o := off.toNat
    if neg && decide (0x800 ≤ o) && decide (o < 0xC00) then s.mark (negAdr e (o - 0x800)) hard else s.mark (engBase e + o) hard

/-- Write one state word in both images. -/
def putEngState (e i v : Nat) (s : State) : State := (s.store (engState e i) v).putEngNeg e i (negWord v)

/-- R101: a single-bit error at a word is corrected and reported. -/
def engFix (e a : Nat) (s : State) : State := if s.single a then (s.unmark a).report .engineEcc (elEngine e) 0 else s

def engFixAll (e : Nat) (as : List Nat) (s : State) : State := as.foldl (fun t a => engFix e a t) s

/-- R101: every single-bit error among the words that `p` names is corrected and reported. -/
def engFixWhere (e : Nat) (p : Nat → Bool) (s : State) : State :=
  engFixAll e ((s.marks.filter (fun m => p m.1 && !m.2)).map (fun m => m.1)) s

/-- An uncorrectable error stands in a word that `p` names. -/
def State.dueWhere (s : State) (p : Nat → Bool) : Bool := s.marks.any (fun m => p m.1 && m.2)

/-- The addresses of a row of `n` words. -/
def inRow (a n x : Nat) : Bool := decide (a ≤ x) && decide (x < a + n)

/-! ### States (R128) -/

/-- Enter a state; SPARES shows which engines wait as spares. -/
def engEnter (e st : Nat) (s : State) : State :=
  let sp := s.get ENG.SPARES.SPARE
  let s1 := s.put (LE.STATUS.STATE e) st
  s1.put ENG.SPARES.SPARE (if st = 3 then sp ||| 2 ^ e else if bitOf sp e then sp - 2 ^ e else sp)

def State.engIs (s : State) (e st : Nat) : Bool := s.get (LE.STATUS.STATE e) == st

/-- R115: HELD and RUN follow the engine's record. An accepted trigger that waits for its dispatch counts as a run in progress (DESIGN CHOICE,
log 171). -/
def engFlags (e : Nat) (s : State) : State :=
  let g := s.eng e
  (s.putB (LE.STATUS.HELD e) g.held.isSome).putB (LE.STATUS.RUN e) (decide (g.phase ≠ 0) || g.disp.isSome)

/-- R122, R124: the engine goes Red: it leaves service with its run. -/
def engRed (e : Nat) (c : FaultCode) (s : State) : State :=
  let g := s.eng e
  let carries := if s.engIs e 2 || s.engIs e 4 then 2 else if !s.engIs e 1 then 0 else if g.backed then 2 else 1
  let s1 := (engEnter e 5 s).putEng e
    { g with phase := 0, disp := none, held := none, disarm := false, redAt := s.t, failing := carries }
  engFlags e (s1.report c (elEngine e) 0)

/-! ### Triggers and dispatch (R114 to R116) -/

/-- R115: a trigger with a stamp reaches the engine. One that comes while a DISARM waits for the end of the run is dropped (DESIGN CHOICE,
log 171). -/
def engTrigger (e stamp : Nat) (s : State) : State :=
  if !s.engIs e 2 then s
  else
    let g := s.eng e
    if g.disarm then s
    else if g.phase = 0 ∧ g.disp.isNone ∧ g.held.isNone then engFlags e (s.putEng e { g with disp := some stamp })
    else
      let s1 := if g.held.isSome then s.incSat (LE.FCNT.TOVR e) else s
      engFlags e (s1.putEng e { g with held := some stamp })

/-- R110: a sample set delivers to this engine. -/
def State.delivers (s : State) (set e : Nat) : Bool := bitOf (s.get (SS.DEST.ENG set)) e

/-- R116: the inputs frozen for a run: what the input port holds from every set that delivers to the engine; of another set neither a
sample nor a stamp (DESIGN CHOICE, log 144). -/
def State.engFreeze (s : State) (e : Nat) : List (Nat × Nat) :=
  ((s.engIn.filter (fun q => q.1 / 1024 == e)).map (fun q => (q.1 % 1024, q.2))).filter (fun q => s.delivers (q.1 / 32) e)

/-- R139, R141: the reels bound to the engine at dispatch, with the windows it holds. -/
def State.engReels (s : State) (e : Nat) : List Latched :=
  ((List.range 64).filter (fun r => s.on (RL.CTRL.EN r) && s.get (RL.CTRL.ENG r) == e)).map (fun r => ⟨r, (s.reel r).win, (s.reel r).gen⟩)

/-- R116: dispatch. -/
def engDispatch (e stamp : Nat) (s : State) : State :=
  let g := s.eng e
  let s1 := (s.put (LE.STAMP.STAMP e) stamp).putEng e
    { g with
      phase := 1, pass := LawPass.start, take := none, retake := none, stamp := stamp, frozen := s.engFreeze e,
      posc := [], inputs := [], latched := s.engReels e, bad := false, disp := none }
  engFlags e s1

/-- The sign of what stands in the engine: the retake holds negations (R118). -/
def EngSt.sign (g : EngSt) : Int := if g.phase = 2 then -1 else 1

/-! ### Issue of one law op -/

/-- R108, R112: whether the word at the pc issues as a no-op. The range of a SKIP in the body of a REP is one of addresses: it stands in the
iterations after, until a SKIP issues again (DESIGN CHOICE, log 173). -/
def LawPass.dead (p : LawPass) : Bool :=
  (decide (p.skipFrom ≤ p.pc) && decide (p.pc < p.skipTo)) ||
    match p.rep with
    | some r => decide (r.live ≤ r.now)
    | none => false

/-- The word that issues next: the body of a REP goes round. -/
def LawPass.advance (p : LawPass) : LawPass :=
  match p.rep with
  | some r =>
    if p.pc = r.last then
      if r.now + 1 < r.total then { p with pc := r.first, rep := some { r with now := r.now + 1 } }
      else { p with pc := p.pc + 1, rep := none }
    else { p with pc := p.pc + 1 }
  | none => { p with pc := p.pc + 1 }

/-- The op word an engine issues next. -/
def State.lawWord (s : State) (e : Nat) : Nat := s.rd (engBase e + (s.eng e).pass.pc)

/-- R111: results of latency `lat` join what is on its way. -/
def LawPass.issue (p : LawPass) (lat : Nat) (rs : List LawRes) : LawPass :=
  { p with flight := p.flight ++ rs.map (fun r => (p.cyc + lat, r)) }

/-- R119: the signature takes in an op that issues as a no-op. -/
def LawPass.noop (p : LawPass) : LawPass := { p with sig := Config.sigStep p.sig p.cyc % 2 ^ 16 }

/-- The cycles of the op pass and the next word stands at the pc. -/
def EngSt.step (g : EngSt) (w : Nat) : EngSt := { g with pass := (g.pass.pass g.sign (opWidth w)).advance }

/-- The engine runs and the word at its pc has this opcode. -/
def State.lawIssues (s : State) (e opc : Nat) : Bool :=
  decide ((s.eng e).phase ≠ 0) && s.engIs e 2 && opcOf (s.lawWord e) == opc

/-- One law op: `touch` are the memory words it reads beside itself when live, `pre` what it does live or not, `act` its
effect when it issues live. -/
def lawOp (e opc : Nat) (touch : State → Nat → List Nat) (pre act : Nat → State → State) (s : State) : State :=
  if !s.lawIssues e opc then s
  else
    let w := s.lawWord e
    let as := (engBase e + (s.eng e).pass.pc) :: (if (s.eng e).pass.dead then [] else touch s w)
    if as.any s.due then engRed e .engineRed s
    else
      let s1 := pre w (engFixAll e as s)
      let g1 := s1.eng e
      let s2 := if g1.pass.dead then s1.putEng e { g1 with pass := g1.pass.noop } else act w s1
      if s2.engIs e 5 then s2 else s2.putEng e ((s2.eng e).step w)

/-- A law op that is a data path: its results join what is on its way. -/
def lawPath (e opc lat : Nat) (dp : Nat → Reads → List LawRes) (s : State) : State :=
  lawOp e opc (fun _ _ => []) (fun _ t => t)
    (fun w t =>
      let g := t.eng e
      t.putEng e { g with pass := g.pass.issue lat (dp w (g.pass.reads g.sign)) }) s

/-! ### Effects and their check (R119, R120, R42 to R44) -/

/-- R119: the retake's effect is the exact negation of the take's. -/
def Effect.negates (a b : Effect) : Bool :=
  match a, b with
  | .pout p c v, .pout q d w => p == q && c == d && decide (v = -w)
  | .sts i m, .sts j n => i == j && decide (m = -n)
  | .rlrn r x _ _, .rlrn q y _ _ => r == q && x.eq y.neg
  | _, _ => false

/-- The tiebreak's effect is the take's. -/
def Effect.same (a b : Effect) : Bool :=
  match a, b with
  | .pout p c v, .pout q d w => p == q && c == d && decide (v = w)
  | .sts i m, .sts j n => i == j && decide (m = n)
  | .rlrn r x _ _, .rlrn q y _ _ => r == q && x.eq y
  | _, _ => false

/-- R156: a POUT to a port that exists leaves the engine. -/
def sendPout (e port cmp : Nat) (v : Int) (rev : Bool) (s : State) : State :=
  if port < 96 then s.setPortWrites (s.portWrites ++ [⟨ownEngine e, port, cmp, v, (s.eng e).stamp, rev⟩]) else s

/-- R44: the value a revert carries: the last agreed one; a compare that has none yet carries a free value. -/
def State.revertVal (s : State) (e port cmp : Nat) : Int :=
  match ((s.eng e).agreed.find? (fun a => a.1 == port * 4 + cmp)) with
  | some a => a.2
  | none => (Config.freeValue s.free : Nat)

def EngSt.agree (g : EngSt) (port cmp : Nat) (v : Int) : EngSt :=
  { g with agreed := (port * 4 + cmp, v) :: g.agreed.filter (fun a => a.1 != port * 4 + cmp) }

/-- R119, R43, R44: a retake effect is checked against the take's log: an agreed POUT leaves in CHECKED release; one that
disagrees is reverted in EARLY release. -/
def checkEffect (e : Nat) (x : Effect) (s : State) : State :=
  let g := s.eng e
  let k := g.pass.log.length
  let early := s.get (LE.CTRL.REL e) == 0
  match (g.take.bind (fun c => c.log[k]?)) with
  | none => s.putEng e { g with bad := true }
  | some t =>
    if x.negates t then
      match t with
      | .pout p c v =>
        let s1 := s.putEng e (g.agree p c v)
        if early then s1 else sendPout e p c v false s1
      | _ => s
    else
      let s1 := s.putEng e { g with bad := true }
      match t with
      | .pout p c _ => if early then (sendPout e p c (s.revertVal e p c) true s1).draw else s1
      | _ => s1

/-- An effect of the pass under way, as it stands in the engine. -/
def addEffect (e : Nat) (x : Effect) (s : State) : State :=
  let g := s.eng e
  let s1 :=
    if g.phase = 2 then checkEffect e x s
    else match x with
      | .pout p c v => if g.phase = 1 && s.get (LE.CTRL.REL e) == 0 then sendPout e p c v false s else s
      | _ => s
  let g1 := s1.eng e
  s1.putEng e { g1 with pass := { g1.pass with log := g1.pass.log ++ [x] } }

/-! ### The end of a pass, commit and settlement (R120 to R123) -/

/-- What a pass leaves at its END; `hurt` is what a fault made of its exponents and flags, 0 where there was none. -/
def LawPass.close (p : LawPass) (hurt : Nat) : Closed := ⟨p.log, p.se, p.ovf, p.qovf, p.sig, hurt⟩

/-- R120: the closing compare of stage exponents, OVF, QOVF and signature. -/
def Closed.matches (a b : Closed) : Bool :=
  a.se == b.se && a.ovf == b.ovf && a.qovf == b.qovf && a.sig == b.sig && a.hurt == b.hurt

/-- R122: the tiebreak agrees in every effect with the take, or with the negation of the retake. -/
def Closed.agreesTake (b a : Closed) : Bool :=
  b.matches a && b.log.length == a.log.length && (List.zipWith Effect.same b.log a.log).all id
def Closed.agreesRetake (b a : Closed) : Bool :=
  b.matches a && b.log.length == a.log.length && (List.zipWith Effect.negates b.log a.log).all id

/-- The state words that a log stores, the last value of each. -/
def storesOf (log : List Effect) : List (Nat × Int) :=
  log.foldl (fun acc x => match x with
    | .sts i m => acc.filter (fun a => a.1 != i) ++ [(i, m)]
    | _ => acc) []

/-- R139: the reel is enabled and names engine `e`. -/
def State.reelBound (s : State) (r e : Nat) : Bool := s.on (RL.CTRL.EN r) && s.get (RL.CTRL.ENG r) == e

/-- R146: the reel is still bound to the engine by the enable under which its run was dispatched. -/
def State.latchHolds (s : State) (e : Nat) (l : Latched) : Bool := s.reelBound l.reel e && (s.reel l.reel).gen == l.gen

/-- R143, R144, R146: one teaching error reaches the reel unit, which discards it where the reel has been disabled since the run was
dispatched: its queue holds 64 updates. -/
def teach (e r : Nat) (err : Dy) (idx : Option Nat) (s : State) : State :=
  if !(s.eng e).latched.any (fun l => l.reel == r && s.latchHolds e l) then s else
  match idx with
  | none => s.put (RL.STATUS.NOIDX r) 1
  | some i =>
    if s.reelQ.length < 64 then s.setReelQ (s.reelQ ++ [(r, i, err)])
    else (s.incSat (RL.CNT.DROPCNT r)).put (RL.STATUS.DROP r) 1

/-- R121, R143: every RLRN of a bound reel is sent once, in issue order. -/
def teachAll (e : Nat) (log : List Effect) (s : State) : State :=
  log.foldl (fun t x => match x with
    | .rlrn r err true idx => teach e r err idx t
    | _ => t) s

/-- R142: p̂ = p + Δp, Δp being 0 without a previous run to start from. -/
def playHat (n p : Nat) (last : Option Nat) : Nat :=
  let d : Int := match last with
    | some q => ((p : Int) - q + n / 2) % (n : Int) - n / 2
    | none => 0
  (((p : Int) + d) % (n : Int)).toNat

/-- R134: the number of entries N of a reel. -/
def State.reelN (s : State) (r : Nat) : Nat := 256 * 2 ^ s.get (RL.CTRL.SIZE r)

/-- R142: the run's last played entries go to the reel unit, which owes a window for each, after the updates queued now; after a run
without one the next prediction has no previous run to start from. -/
def sendPlayed (e : Nat) (ls : List Latched) (played : List (Nat × Nat × Nat)) (s : State) : State :=
  ls.foldl (fun t l =>
    if !t.latchHolds e l then t
    else
      let x := t.reel l.reel
      match played.find? (fun q => q.1 == l.reel) with
      | some q =>
        let h := playHat (t.reelN l.reel) q.2.2 (if x.gap then none else x.last)
        t.putReel l.reel
          { x with req := x.req ++ [(h, (t.reelQ.filter (fun u => u.1 == l.reel)).length)], last := some q.2.2, hat := h, gap := false }
      | none => t.putReel l.reel { x with gap := true }) s

/-- R123: the mirror writes after a commit. -/
def mirrorWrites (e : Nat) (words : List (Nat × Int)) (s : State) : State :=
  if s.on (LE.CTRL.FOVR e) then
    let base := s.get (LE.IMG.ADDR e)
    let runs := s.get (LE.RUNS.RUNS e)
    let out := ((base + 0x7FE, runs) :: words.map (fun q => (base + 0x800 + q.1, unsgn 36 q.2))) ++ [(base + 0x7FF, runs)]
    out.foldl (fun t q => (bankWrite (ownEngine e) q.1 q.2 t).st) s
  else s

/-- R115, R130: the run has ended: DISARM takes hold, and a held trigger waits for its dispatch. -/
def runEnds (e : Nat) (s : State) : State :=
  let g := s.eng e
  if g.disarm then engFlags e ((engEnter e 1 s).putEng e { g with phase := 0, held := none, disp := none, disarm := false })
  else engFlags e (s.putEng e { g with phase := 0 })

/-- R320: a commit of an engine's run offers, to each channel that records one of its state words, that word as it stands
committed. -/
def offerSignals (e stamp : Nat) (s : State) : State :=
  (s.rushes.map (fun q => q.1)).foldl (fun t c =>
    let sel := t.get (RUSH.SRC.SEL c)
    if t.rushRecords c && t.get (RUSH.SRC.KIND c) == 2 && bits sel 16 5 == e then
      rushUpdate c (sgn 36 (t.rd (engState e (bits sel 0 10)))) stamp t
    else t) s

/-- R121: commit of an agreed run: `pos` and `neg` are the words of both images, `c` the pass that stands for the run. -/
def engCommit (e : Nat) (pos neg : List (Nat × Int)) (c : Closed) (s : State) : State :=
  let g := s.eng e
  let s1 := pos.foldl (fun t q => t.store (engState e q.1) (unsgn 36 q.2)) s
  let s2 := neg.foldl (fun t q => t.putEngNeg e q.1 (unsgn 36 q.2)) s1
  let s3 := (s2.inc (LE.RUNS.RUNS e)).put (LE.STATUS.OVF e) (s.get (LE.STATUS.OVF e) ||| c.ovf)
  let s4 := s3.putIf c.qovf (LE.STATUS.QOVF e) 1
  let s5 := sendPlayed e g.latched g.pass.played (teachAll e c.log s4)
  let s6 := offerSignals e g.stamp s5
  runEnds e (mirrorWrites e pos (s6.putEng e { s6.eng e with mirror := pos.map (fun q => q.1) }))

/-- R122: the tiebreak has settled the run. -/
def engSettle (e : Nat) (c : Closed) (code : FaultCode) (cnt : FRef) (s : State) : State :=
  let s1 := (s.incSat cnt).report code (elEngine e) 0
  let s2 := c.log.foldl (fun t x => match x with
    | .pout p k v => sendPout e p k v false (t.putEng e ((t.eng e).agree p k v))
    | _ => t) s1
  let pos := storesOf c.log
  engCommit e pos (pos.map (fun q => (q.1, -q.2))) c s2

/-- R112, R120, R122: the END of the pass under way. Results still on their way are dropped with it (DESIGN CHOICE, log 172). -/
def engEnd (e hurt : Nat) (s : State) : State :=
  let g := s.eng e
  let c := g.pass.close hurt
  match g.phase, g.take, g.retake with
  | 1, _, _ => s.putEng e { g with phase := 2, pass := LawPass.start, take := some c }
  | 2, some t, _ =>
    if g.bad || !c.matches t then s.putEng e { g with phase := 3, pass := LawPass.start, retake := some c }
    else engCommit e (storesOf t.log) (storesOf c.log) t s
  | _, some t, some r =>
    if c.agreesTake t then engSettle e c .retakeFault (LE.FCNT.RETAKEF e) s
    else if c.agreesRetake r then engSettle e c .takeFault (LE.FCNT.TAKEF e) s
    else engRed e .engineRed s
  | _, _, _ => s

end Sys2Proof.Machine
end

