-- ==== Sys2Proof/Machine/Rushes.lean ====
section
/-! DEFINITION. The rushes recorder: enable, disable, rearm, GO and the writing of records (R319 to R324). -/

namespace Sys2Proof.Machine

def rushFeature (c : Nat) : Nat := 0x600 + c

/-- R319: the resource of the region that holds BASE. -/
def State.rushRegion (s : State) (c : Nat) : Nat := 0x900 + bits (s.get (RUSH.BASE.BASE c)) 23 8

/-- R323: a channel enters FILL; with PRE = 0 it is ARMED at once. -/
def rushFill (c : Nat) (s : State) : State :=
  ((s.put (RUSH.WPTR.WPTR c) 0).put (RUSH.STATUS.STATE c) (if s.get (RUSH.PRE.PRE c) = 0 then 2 else 1)).putRush c
    ⟨true, 0, 0, [], 0, 0⟩

/-- R319: an enable attempt. -/
def rushEnable (agent c : Nat) (s : State) : State :=
  let r := s.rushRegion c
  if s.get (SYS.CLM.OWNER r) != ownRushes || s.get (RUSH.BASE.BASE c) % 2 ^ (s.rushLog c + 1) != 0 then
    s.putFeature (rushFeature c) 2 r (if s.claimFree r then 0 else s.get (SYS.CLM.FEATURE r))
  else
    let s1 := ((s.put (RUSH.CNT.DROP c) 0).put (RUSH.CNT.TIGN c) 0).put (RUSH.TSTAMP.TSTAMP c) 0
    let s2 := ((s1.put (RUSH.TIDX.TIDX c) 0).put (RUSH.CTRL.EN c) 1).put (RUSH.CTRL.OWNER c) agent
    rushFill c (s2.putFeature (rushFeature c) 1 0 0)

/-- R323: clearing EN returns a channel to OFF. -/
def rushDisable (c : Nat) (s : State) : State :=
  ((((s.put (RUSH.CTRL.EN c) 0).put (RUSH.CTRL.OWNER c) 0).put (RUSH.STATUS.STATE c) 0).putFeature (rushFeature c) 0 0 0).putRush
    c (RushSt.atReset c)

/-- R55, R319, R323: a write to RUSHES.CHc.CTRL. -/
def rushCtrlWrite (agent c v : Nat) (s : State) : State :=
  if !ownerGate (s.get (RUSH.CTRL.OWNER c)) agent then s.answer agent .busOwn 0 0
  else
    let s1 := (s.put (RUSH.CTRL.DEC c) (bits v 12 16)).put (RUSH.CTRL.AVG c) (bits v 11 1)
    let s2 :=
      if bitOf v 0 then
        (if s.on (RUSH.CTRL.EN c) then s1.handOver (RUSH.CTRL.OWNER c) (bits v 28 8) else rushEnable agent c s1)
      else if s.on (RUSH.CTRL.EN c) then rushDisable c s1 else s1.dropConflict (rushFeature c)
    (if bitOf v 1 && s2.get (RUSH.STATUS.STATE c) == 4 then rushFill c s2 else s2).answer agent .ok 0 0

/-- R55, R457: a write to SRC, TRIG, BASE, RING, PRE or POST (`adr`). -/
def rushArgWrite (agent c adr v : Nat) (s : State) : State :=
  if ownerGate (s.get (RUSH.CTRL.OWNER c)) agent then
    (s.writeReg adr v (s.on (RUSH.CTRL.EN c)) (some (RUSH.STATUS.WREJ c))).answer agent .ok 0 0
  else s.answer agent .busOwn 0 0

/-- R324: a write to RUSHES.GO triggers the writer's channels. -/
def rushGo (agent v : Nat) (s : State) : State :=
  ((List.range 32).filter (fun c => bitOf v c && s.get (RUSH.CTRL.OWNER c) == agent && agent != 0)).foldl
    (fun t c => rushTrigger c none t) s

/-- R321: the granule of record `r`. -/
def State.rushAdr (s : State) (c r : Nat) : Nat := s.get (RUSH.BASE.BASE c) + 2 * r

/-- R323: the channel has written one more record. -/
def rushAdvance (c : Nat) (s : State) : State :=
  let x := s.rush c
  let s1 := s.put (RUSH.WPTR.WPTR c) ((s.get (RUSH.WPTR.WPTR c) + 1) % 2 ^ s.rushLog c)
  match s.get (RUSH.STATUS.STATE c) with
  | 1 =>
    (s1.putRush c { x with filled := x.filled + 1 }).putIf (decide (s.get (RUSH.PRE.PRE c) ≤ x.filled + 1))
      (RUSH.STATUS.STATE c) 2
  | 3 =>
    if s.get (RUSH.POST.POST c) ≤ x.post + 1 then rushFreeze c s1 else s1.putRush c { x with post := x.post + 1 }
  | _ => s1

/-- R35, R321: a record is written when DDR4 takes both of its granules. -/
def rushWrite (c : Nat) (v : Int) (stamp : Nat) (rest : List (Int × Nat)) (s : State) : State :=
  let a := s.rushAdr c (s.get (RUSH.WPTR.WPTR c))
  let g := ddrWrites ownRushes a [unsgn 36 v, stamp] s
  if g.resp = .ok then rushAdvance c (g.st.putRush c { g.st.rush c with queue := rest }) else s

/-- RUSHES_RECORD_WRITE: the oldest record that waits in a channel's queue is written to its ring (R321 to R323). -/
def execRushesRecordWrite (c : Fin 32) (s : State) : Out :=
  .next (match (s.rush c.val).queue with
    | [] => s
    | (v, stamp) :: rest => rushWrite c.val v stamp rest s)

end Sys2Proof.Machine
end

