-- ==== Sys2Proof/Machine/Sampling.lean ====
section
/-! DEFINITION. Sample sets and self-calibration (R50 to R65). -/

namespace Sys2Proof.Machine

/-- R53: the features of sample sets. -/
def setFeature (n : Nat) : Nat := 0x200 + n

/-- The enabled slots of a set. -/
def State.slots (s : State) (n : Nat) : List Nat := (List.range 16).filter (fun k => s.on (SS.SLOT.EN n k))

/-- R50: the inputs a slot uses: a differential slot the pair that contains its AIN. -/
def State.slotInputs (s : State) (n k : Nat) : List Nat :=
  let a := s.get (SS.SLOT.AIN n k)
  if s.on (SS.SLOT.DIFF n k) then [a / 2 * 2, a / 2 * 2 + 1] else [a]

/-- R50: the input a result names: the even one of a differential pair. -/
def State.slotAin (s : State) (n k : Nat) : Nat :=
  let a := s.get (SS.SLOT.AIN n k)
  if s.on (SS.SLOT.DIFF n k) then a / 2 * 2 else a

/-- R54, R31: what a set needs, in ascending resource ID: its inputs, then its cores. -/
def State.setNeeds (s : State) (n : Nat) : List Nat :=
  let ins := (s.slots n).flatMap (s.slotInputs n)
  let cores := (s.slots n).map (fun k => s.get (SS.SLOT.CORE n k))
  ((List.range 64).filter ins.contains).map (fun a => 0x400 + a) ++
    ((List.range 16).filter cores.contains).map (fun c => 0x500 + c)

/-- R54: the lowest core that two enabled slots of one set name. -/
def State.coreTwice? (s : State) (n : Nat) : Option Nat :=
  let cores := (s.slots n).map (fun k => s.get (SS.SLOT.CORE n k))
  (List.range 16).find? (fun c => decide (1 < cores.count c))

/-- R429: every enabled slot names an input with a scene of its mode and a gain it allows. -/
def State.setScene (s : State) (n : Nat) : Bool :=
  (s.slots n).all (fun k =>
    let a := s.slotAin n k
    s.on (ETH.AINSCN.VALID a) && s.get (ETH.AINSCN.MODE a) == s.get (SS.SLOT.DIFF n k) &&
      decide (s.get (SS.SLOT.GAIN n k) ≤ s.get (ETH.AINSCN.GAINMAX a)))

def refreshScene (n : Nat) (s : State) : State := s.putB (SS.STAT.SCENE n) (s.setScene n)

/-- R54, R55, R65, R425: an enable attempt of a set. -/
def setEnable (agent n : Nat) (s : State) : State :=
  if s.on SAMP.STATUS.CALBUSY then s.putFeature (setFeature n) 0 0 0
  else match s.coreTwice? n with
    | some c => s.putFeature (setFeature n) 2 (0x500 + c) (setFeature n)
    | none =>
      let s1 := s.enableFeature agent (setFeature n) (s.setNeeds n)
      if !s.enablePasses (setFeature n) (s.setNeeds n) then s1
      else
        let s2 := refreshScene n (((s1.put (SS.CTRL.EN n) 1).put (SS.CTRL.OWNER n) agent).put (SS.STAT.OVCNT n) 0)
        sceneCheck (s2.setScene n) 0 (0x200 + n) s2

/-- R33, R55: clearing EN ends whatever the set has under way. For the next enable, A_prev of R60 is the latest aperture end whose
acquisition had begun; those that were scheduled and are dropped here count no more (DESIGN CHOICE, log 104). -/
def setDisable (n : Nat) (s : State) : State :=
  let s1 := (s.disableFeature (setFeature n) (s.setNeeds n)).put (SS.CTRL.EN n) 0
  let s2 := ((s1.put (SS.CTRL.OWNER n) 0).put (SS.STAT.PEND n) 0).put (SS.STAT.BUSY n) 0
  let b := s.sampSet n
  s2.putSampSet n ⟨[], none, [], b.begun, b.begun, none⟩

/-- R58, R60: a trigger with instant `t` reaches IS12. -/
def setTrigger (n t : Nat) (s : State) : State :=
  let b := s.sampSet n
  let a := t + max 24 (s.get (SS.CTRL.OFFSET n))
  let dest := s.get (SS.DEST.ENG n)
  let soon := match b.last with
    | some l => decide (a < l + 75)
    | none => false
  if soon && !b.wait.isEmpty then (s.put (SS.STAT.OVRUN n) 1).incSat (SS.STAT.OVCNT n)
  else
    let a' := if soon then b.last.getD 0 + 75 else a
    ((s.put (SS.STAT.WAIT n) (a' - a)).put (SS.STAT.PEND n) 1).putSampSet n
      { b with wait := b.wait ++ [⟨a', dest⟩], last := some a' }

/-- The fields of a SSnn.CTRL write beside OWNER, GO and EN. -/
def setCtrlFields (n v : Nat) (s : State) : State :=
  (((s.put (SS.CTRL.OFFSET n) (bits v 14 14)).put (SS.CTRL.SRCEV n) (bits v 12 2)).put (SS.CTRL.SRCNUM n)
    (bits v 5 7)).put (SS.CTRL.SRC n) (bits v 2 3)

/-- R55, R57: a write to SSnn.CTRL. -/
def setCtrlWrite (agent n v : Nat) (s : State) : State :=
  if !ownerGate (s.get (SS.CTRL.OWNER n)) agent then s.answer agent .busOwn 0 0
  else
    let s1 := setCtrlFields n v (s.passTrigs n)
    let s2 :=
      if bitOf v 0 then
        (if s.on (SS.CTRL.EN n) then s1.handOver (SS.CTRL.OWNER n) (bits v 28 8) else setEnable agent n s1)
      else if s.on (SS.CTRL.EN n) then setDisable n s1 else s1.dropConflict (setFeature n)
    let s3 := if bitOf v 1 && s2.on (SS.CTRL.EN n) && !s2.unsynced 12 then setTrigger n s2.t s2 else s2
    s3.answer agent .ok 0 0

/-- R56: a write to SSnn.SLOTk. -/
def slotWrite (agent n k v : Nat) (s : State) : State :=
  if s.on (SS.CTRL.EN n) then (s.put (SS.STAT.WREJ n) 1).answer agent .ok 0 0
  else (s.writeReg (SS.SLOT.adr n k) v false none).answer agent .ok 0 0

/-- SS_TRIGGER: the oldest trigger of the source that a set selects now reaches IS12 (R56, R57, R58, R60); an island that waits for
its sync word schedules nothing (R20). -/
def execSsTrigger (n : Fin 32) (s : State) : Out :=
  .next (match s.trig? n.val with
    | some t => if s.on (SS.CTRL.EN n.val) && !s.unsynced 12 then setTrigger n.val t (s.takeTrig n.val) else s.takeTrig n.val
    | none => s)

/-- ACQUISITION_START: the slot cores of the next scheduled trigger begin acquisition, 15 ticks before its aperture end
(R58, R59). -/
def execAcquisitionStart (n : Fin 32) (s : State) : Out :=
  let b := s.sampSet n.val
  .next (match b.wait, b.acq with
    | tr :: rest, none =>
      (((s.advanceTo (tr.ap - 15)).put (SS.STAT.BUSY n.val) 1).putB (SS.STAT.PEND n.val) (!rest.isEmpty)).putSampSet n.val
        { b with wait := rest, acq := some ⟨tr, false⟩, begun := some tr.ap }
    | _, _ => s)

/-- APERTURE_END: every slot's sampling switch opens, and the set is stamped (R58, R59). -/
def execApertureEnd (n : Fin 32) (s : State) : Out :=
  let b := s.sampSet n.val
  .next (match b.acq with
    | some a =>
      if a.open? then s
      else ((s.advanceTo a.trig.ap).put (SS.STAMP.STAMP n.val) a.trig.ap).putSampSet n.val
        { b with acq := some { a with open? := true } }
    | none => s)

/-- R390: a half word of the trim table in effect, signed. -/
def State.trimHalf (s : State) (w : Nat) (high : Bool) : Int :=
  sgn 18 (bits (s.trim.getD w 0) (if high then 18 else 0) 18)

/-- R64, R390: trim_off, and trim_gain less 1 in units of 2^−21, of a core at a gain. -/
def State.trimOff (s : State) (c g : Nat) : Int := s.trimHalf (4 * c + g) true
def State.trimGain (s : State) (c g : Nat) : Int := s.trimHalf (4 * c + g) false

/-- R64: trim_soff of an input. -/
def State.trimSoff (s : State) (a : Nat) : Int := s.trimHalf (64 + a / 2) (a % 2 == 0)

/-- R65: the values of the last self-calibration; neutral before the first. -/
def State.calOff (s : State) (c g : Nat) : Int := if s.calGen == 0 then 0 else Config.calOff s.calGen c g
def State.calGain (s : State) (c g : Nat) : Int := if s.calGen == 0 then 0 else Config.calGain s.calGen c g

/-- R64: off, an 18-bit signed value; what a sum outside that range gives is open (log 105). -/
def State.adcOff (s : State) (c g : Nat) : Int :=
  let x := s.trimOff c g + s.calOff c g
  if -131072 ≤ x ∧ x < 131072 then x else sgn 18 (Config.adcOff c g x)

/-- R64: the corrected value of an 18-bit internal code, not yet saturated. A halfway case of round() goes away from zero (DESIGN
CHOICE, log 25). -/
def State.corrected (s : State) (c g : Nat) (soff raw : Int) : Int :=
  if s.on SAMP.STATUS.TRIMOK then
    roundAway ((raw - s.adcOff c g) * (2 ^ 21 + s.trimGain c g) * (2 ^ 21 + s.calGain c g)) (4 * 2 ^ 42) -
      soff
  else roundAway raw 4

/-- R51, R62, R64: one slot's result from its internal code; `outside` where its input lay outside the range of R50 or
R51. -/
def slotResult (n k : Nat) (raw : Int) (outside : Bool) (s : State) : SlotRes :=
  let diff := s.on (SS.SLOT.DIFF n k)
  let a := s.slotAin n k
  let g := s.get (SS.SLOT.GAIN n k)
  let soff := if diff then s.trimSoff a - s.trimSoff (a + 1) else s.trimSoff a
  let v := s.corrected (s.get (SS.SLOT.CORE n k)) g soff raw
  let sat := clampInt (-32768) 32767 v
  let code := if !diff && s.on (SS.SLOT.FMT n k) then sat + 32768 else sat
  ⟨k, a, g, decide (sat ≠ v) || outside, s.on SAMP.STATUS.TRIMOK, unsgn 16 code⟩

/-- CONVERSION_END: conversion and correction end in every core of the set, 60 ticks after the aperture end (R59, R64).
`raw` are the internal codes by slot, `outside` the slots whose input lay out of range. -/
def execConversionEnd (n : Fin 32) (raw : List (BitVec 18)) (outside : BitVec 16) (s : State) : Out :=
  let b := s.sampSet n.val
  if raw.length ≠ 16 then .fault (.malformed "CONVERSION_END: one code per slot")
  else .next (match b.acq with
    | some a =>
      if !a.open? then s
      else
        let res := (s.slots n.val).map (fun k =>
          slotResult n.val k (sgn 18 (raw.getD k 0).toNat) (bitOf outside.toNat k) s)
        ((s.advanceTo (a.trig.ap + 60)).put (SS.STAT.BUSY n.val) 0).putSampSet n.val
          { b with acq := none, done := b.done ++ [(a.trig, res)] }
    | none => s)

/-- Write one result register. -/
def putResult (n seq : Nat) (r : SlotRes) (s : State) : State :=
  (((((s.put (SS.RES.SEQ n r.slot) seq).put (SS.RES.AIN n r.slot) r.ain).put (SS.RES.GAIN n r.slot) r.gain).putB
    (SS.RES.OVR n r.slot) r.ovr).putB (SS.RES.TRIM n r.slot) r.trim).put (SS.RES.VALUE n r.slot) r.val

/-- The word of a result register (R62). -/
def State.resWord (s : State) (n k : Nat) : Nat := s.wordOf (SS.RES.adr n k) (fields! (SS.RES.adr n k))

/-- One word of an engine's live input port. -/
def State.engInput (s : State) (e set slot : Nat) : Nat := Tab.get (fun _ => 0) s.engIn (e * 1024 + set * 32 + slot)

def putEngInput (e set slot v : Nat) (s : State) : State :=
  s.setEngIn (Tab.set (fun _ => 0) s.engIn (e * 1024 + set * 32 + slot) v)

/-- R61, R114: deliver a set to one engine: results, stamp, and the trigger where the engine names the set. For a slot that the completing
set did not convert the result stands as it was last, also one that this engine has not had (DESIGN CHOICE, log 168). -/
def deliver (n stamp e : Nat) (s : State) : State :=
  let s1 := (List.range 16).foldl (fun t k => putEngInput e n k (t.resWord n k) t) s
  let s2 := putEngInput e n 16 stamp s1
  if s.get (LE.TRIG.KIND e) == 1 && s.get (LE.TRIG.NUM e) == n then s2.setEngTrigs (s2.engTrigs ++ [(e, stamp)]) else s2

/-- SET_COMPLETE: results reach the DEST engines and RESk, 64 ticks after the aperture end (R59, R61, R62, R320). -/
def execSetComplete (n : Fin 32) (s : State) : Out :=
  let b := s.sampSet n.val
  .next (match b.done with
    | (tr, res) :: rest =>
      let stamp := tr.ap % 2 ^ 36
      let seq := (s.get (SS.STAT.SEQ n.val) + 1) % 256
      let s1 := ((s.advanceTo (tr.ap + 64)).putSampSet n.val { b with done := rest, full := some tr.ap }).put (SS.STAT.SEQ n.val) seq
      let s2 := res.foldl (fun t r => putResult n.val seq r t) s1
      let s3 := ((List.range 24).filter (bitOf tr.dest)).foldl (fun t e => deliver n.val stamp e t) s2
      let s4 := res.foldl (fun t r => rushOffer 1 (n.val * 256 + r.slot) (sgn 16 r.val) stamp t) s3
      s4.raiseAt (32 + n.val) stamp
    | [] => s)

/-- R65: a write of 1 to SAMPLING.CAL.CALGO. -/
def calGo (s : State) : State :=
  if s.on SAMP.STATUS.CALBUSY || (List.range 32).any (fun n => s.on (SS.CTRL.EN n)) then s.put SAMP.STATUS.CALREF 1
  else (s.put SAMP.STATUS.CALBUSY 1).setCalEnd (s.t + 1800000)

/-- R65: a completed self-calibration replaces cal_off and cal_gain; `tj` is the junction temperature in 0.125 °C. -/
def calDone (tj : Nat) (s : State) : State :=
  ((((s.put SAMP.STATUS.CALBUSY 0).put SAMP.STATUS.CALOK 1).put SAMP.CAL.CALTEMP tj).put SAMP.CAL.CALAGE 0).setCalGen
    (s.calGen + 1)

/-- CAL_DONE: self-calibration completes 1.2 ms after its start (R65). -/
def execCalDone (tj : BitVec 12) (s : State) : Out :=
  .next (if s.on SAMP.STATUS.CALBUSY then calDone tj.toNat (s.advanceTo s.calEnd) else s)

/-- CALAGE_MINUTE: a minute has passed since the last self-calibration (R65). -/
def execCalageMinute (s : State) : Out := .next (s.incSat SAMP.CAL.CALAGE)

end Sys2Proof.Machine
end

