-- ==== Sys2Proof/Machine/Timecode.lean ====
section
/-! DEFINITION. The timecode island: lock, holdover, the sync word and the compare units TC00 to TC15 (R18 to R26, R458). -/

namespace Sys2Proof.Machine

/-- TIMECODE_LOCK: after a cold start the reference PLL locks, and timecode starts at zero (R18). -/
def execTimecodeLock (s : State) : Out :=
  .next (if s.tcRun then s else ((s.setTcRun true).setNow 0).put TC.STATUS.LOCK 1)

/-- R18: timecode stops; a count that begins later begins at zero. -/
def stopTimecode (s : State) : State :=
  ((((s.put TC.STATUS.LOCK 0).put TC.STATUS.HOLDOVER 0).put TC.STATUS.REFLOST 0).setTcRun false).setNow 0

/-- R18, R380: a cold start is due; timecode starts anew when the reference PLL locks. -/
def coldNow (cause : Nat) (s : State) : State :=
  (stopTimecode s).setBoot { s.boot with due := some (false, cause) }

/-- R20: the islands the distribution tree feeds. -/
def treeIsland (i : Nat) : Bool := decide (i ≤ 18) || (decide (24 ≤ i) && decide (i ≤ 31))

/-- SYNC_WORD: the sync word of the next multiple of 4,096 ticks loads the waking replicas, and the ports that entered RUN without
one fix their first period start; each replica in `bad` disagrees
with it and reports TREE_MISMATCH (R20). -/
def execSyncWord (bad : List (Fin 32)) (s : State) : Out :=
  let s1 := startOwed ((s.advanceTo ((s.t + 4095) / 4096 * 4096)).setSyncWait [])
  .next ((bad.filter (fun i => treeIsland i.val)).foldl (fun t i => t.report .treeMismatch (elIsland i.val) 0) s1)

/-- TREE_LOST: a tree leaf saw no tick for 16 cycles of a half (R298). -/
def execTreeLost (s : State) : Out := .next (s.report .treeLost 0 0)

/-- REF_LOST: no reference edge for 200 ns, holdover begins (R22). -/
def execRefLost (s : State) : Out :=
  .next ((((s.put TC.STATUS.HOLDOVER 1).put TC.STATUS.REFLOST 1).put TC.STATUS.LOCK 0).report .refLost 0 0)

/-- REF_RELOCK: the reference has been present again for 100 µs (R22); REFLOST stays set. -/
def execRefRelock (s : State) : Out :=
  .next (if s.on TC.STATUS.HOLDOVER then (s.put TC.STATUS.HOLDOVER 0).put TC.STATUS.LOCK 1 else s)

/-- The 64-bit compare value of a unit. -/
def State.tcCmp (s : State) (n : Nat) : Nat := s.get (TC.CMPHI.CMPH n) * 2 ^ 36 + s.get (TC.CMPLO.CMPL n)

def State.putTcCmp (s : State) (n v : Nat) : State :=
  (s.put (TC.CMPHI.CMPH n) (v / 2 ^ 36)).put (TC.CMPLO.CMPL n) v

/-- PERIOD in ticks; values below 16 act as 16. -/
def State.tcPeriod (s : State) (n : Nat) : Nat := max 16 (s.get (TC.PERIOD.PERIOD n))

/-- R23: fire at the compare value; periodic mode steps it, single mode clears EN. -/
def tcFire (n stamp : Nat) (s : State) : State :=
  let s1 := s.put (TC.CTRL.FIRED n) 1
  let s2 := if s.on (TC.CTRL.PERIODIC n) then s1.putTcCmp n (s.tcCmp n + s.tcPeriod n) else s1.put (TC.CTRL.EN n) 0
  (s2.putTrig (trigKeyTc n) stamp).raiseAt (16 + n) stamp

/-- R24: the compare value already lies in the past: fire with LATE, and in periodic mode step past the present timecode
without replaying what was missed. -/
def tcFireLate (n : Nat) (s : State) : State :=
  let s1 := (s.put (TC.CTRL.FIRED n) 1).put (TC.CTRL.LATE n) 1
  let c := s.tcCmp n
  let p := s.tcPeriod n
  let s2 := if s.on (TC.CTRL.PERIODIC n) then s1.putTcCmp n (c + ((s.t - c) / p + 1) * p) else s1.put (TC.CTRL.EN n) 0
  (s2.putTrig (trigKeyTc n) s.t).raiseAt (16 + n) s.t

/-- R24, R458: an armed unit whose compare value lies in the past fires late at once. -/
def tcCheckPast (n : Nat) (s : State) : State :=
  if s.on (TC.CTRL.EN n) && decide (s.tcCmp n < s.t) then tcFireLate n s else s

/-- TC_FIRE: an enabled unit reaches its compare value (R23). -/
def execTcFire (n : Fin 16) (s : State) : Out :=
  .next (if s.on (TC.CTRL.EN n.val) && s.tcRun then
    tcFire n.val (s.tcCmp n.val) (s.advanceTo (s.tcCmp n.val)) else s)

/-- Resource and feature of a compare unit (R25, R26). -/
def tcRes (n : Nat) : Nat := 0x600 + n
def tcFeature (n : Nat) : Nat := 0x700 + n

/-- R25: the owner of a compare unit is the holder of its claim word. -/
def State.tcOwner (s : State) (n : Nat) : Nat := s.get (SYS.CLM.OWNER (tcRes n))

/-- R4, R23, R24: the fields of a CTRL write take effect as its owner's (CLAIM aside). -/
def tcCtrlFields (n v : Nat) (s : State) : State :=
  let s1 := (s.putIf (bitOf v 3) (TC.CTRL.LATE n) 0).putIf (bitOf v 2) (TC.CTRL.FIRED n) 0
  let s2 := (s1.put (TC.CTRL.PERIODIC n) (bits v 1 1)).put (TC.CTRL.EN n) (bits v 0 1)
  if s.on (TC.CTRL.EN n) then s2 else tcCheckPast n s2

/-- A word with one bit set. -/
def withBit (v i : Nat) : Nat := if bitOf v i then v else v + 2 ^ i

/-- A word with one bit clear. -/
def withoutBit (v i : Nat) : Nat := if bitOf v i then v - 2 ^ i else v

/-- R4, R25, R26: a write to a unit's CTRL. One that releases the unit writes its other fields and leaves it disabled. -/
def tcCtrlWrite (agent n v : Nat) (s : State) : State :=
  let o := s.tcOwner n
  let held := s.get (SYS.CLM.FEATURE (tcRes n))
  if bitOf v 4 then
    if o == 0 then
      (tcCtrlFields n v ((s.enableFeature agent (tcFeature n) [tcRes n]).put (TC.CTRL.CLAIM n) 1)).answer agent .ok 0 0
    else if o == agent then (tcCtrlFields n v s).answer agent .ok 0 0
    else (s.putFeature (tcFeature n) 2 (tcRes n) held).answer agent .ok 0 0
  else if o == 0 || o != agent then s.answer agent .busOwn 0 0
  else if held == tcFeature n then
    ((((tcCtrlFields n (withoutBit v 0) s).disableFeature (tcFeature n) [tcRes n]).put (TC.CTRL.CLAIM n) 0).put
      (TC.CTRL.EN n) 0).answer agent .ok 0 0
  else (tcCtrlFields n v s).answer agent .ok 0 0

/-- R25, R458: a write to CMP_HI (`which` 0), CMP_LO (1), PERIOD (2), or to CMP_HI and CMP_LO as one double (3, `v2` is
the low word). -/
def tcCmpWrite (agent n which v v2 : Nat) (s : State) : State :=
  if s.tcOwner n == 0 || s.tcOwner n != agent then s.answer agent .busOwn 0 0 else
  let s1 := match which with
    | 0 => s.put (TC.CMPHI.CMPH n) v
    | 1 => s.put (TC.CMPLO.CMPL n) v
    | 2 => s.put (TC.PERIOD.PERIOD n) v
    | _ => (s.put (TC.CMPHI.CMPH n) v).put (TC.CMPLO.CMPL n) v2
  ((if which == 2 then s1 else tcCheckPast n s1)).answer agent .ok 0 0

end Sys2Proof.Machine
end

