-- ==== Sys2Proof/Machine/Gaffer.lean ====
section
/-! DEFINITION. The Gaffer: how deep an island may go, the device ledger and its clocks, junction temperature, and the zone
ledger's grants (R363 to R378). -/

namespace Sys2Proof.Machine

/-! ### Clearing parts of the state -/

/-- Words of a memory from `lo` up to `hi` return to what nothing has written reads as, with valid check bits. -/
def clearMem (lo hi : Nat) (s : State) : State :=
  (s.setMem (s.mem.filter (fun e => !(decide (lo ≤ e.1) && decide (e.1 < hi))))).setMarks
    (s.marks.filter (fun m => !(decide (lo ≤ m.1) && decide (m.1 < hi))))

/-- Registers whose address satisfies `p` return to their reset values. -/
def clearRegs (p : Nat → Bool) (s : State) : State := s.setFields (s.fields.filter (fun e => !p (e.1 / 64)))

/-- Registers from address `lo` up to `hi` return to their reset values. -/
def clearRange (lo hi : Nat) (s : State) : State := clearRegs (fun a => decide (lo ≤ a) && decide (a < hi)) s

/-! ### How deep an island may go (R366) -/

/-- R366: a core keeps its island from going below Grey. -/
def State.coreBusy (s : State) (c : Nat) : Bool :=
  let x := s.core c
  let st := s.coreState c
  st != 4 && st != 5 &&
    (st == 2 || st == 3 || x.hold || !x.fly.isEmpty || (List.range 8).any (fun t => s.taskIs c t 1 || s.taskIs c t 2) ||
      (List.range 8).any (fun k => s.on (CUE.ENT.V c k)))

/-- The engines of an island IS04 to IS11. -/
def islandEngines (i : Nat) : List Nat := [3 * (i - 4), 3 * (i - 4) + 1, 3 * (i - 4) + 2]

/-- R366: a sampling island is in use. -/
def State.samplingBusy (s : State) (i : Nat) : Bool :=
  let j := i - 12
  s.on SAMP.STATUS.CALBUSY || (List.range 8).any (fun k => s.on (CMP.CTRL.EN (8 * j + k))) ||
    (List.range 32).any (fun n => s.on (SS.CTRL.EN n) &&
      (i == 12 || (s.slots n).any (fun k => s.get (SS.SLOT.CORE n k) / 4 == j)))

/-- R366: a port of the island's groups is enabled. -/
def State.portsBusy (s : State) (i : Nat) : Bool := (List.range 48).any (fun k => s.on (GP.CTRL.EN (48 * (i - 17) + k)))

/-- R366: a host link controller is enabled. -/
def State.linkBusy (s : State) : Bool :=
  (List.range 2).any (fun m => s.on (MAC.CTRL.EN m)) || (List.range 4).any (fun n => s.on (CAN.CTRL.EN n)) ||
    (List.range 8).any (fun n => s.on (SPI.CTRL.EN n)) || (List.range 2).any (fun n => s.on (UART.CTRL.EN n))

/-- R366: a frame, a word or a character is in transfer at IS28: a Slate command whose response is due, a partly received frame, an
entry of a transmit ring, an MDIO access, or a word being shifted. -/
def State.frameBusy (s : State) : Bool :=
  s.link.run.isSome || !s.link.cut.isEmpty || !s.link.parts.isEmpty || !s.link.mdio.isEmpty ||
    (List.range 4).any (fun n => s.on (CAN.CTRL.EN n) && !s.on (CAN.CTRL.SLATE n) && !s.on (CAN.STATUS.BUSOFF n) &&
      s.get (CAN.TXR.PTR n) != s.get (CAN.TXW.PTR n)) ||
    (List.range 8).any (fun n => s.on (SPI.CTRL.EN n) && !(s.serial n).tx.isEmpty) ||
    (List.range 2).any (fun n => s.on (UART.CTRL.EN n) && !(s.serial (8 + n)).tx.isEmpty)

/-- R366: the conditions under which an island goes no deeper than Grey. -/
def State.islandBusy (s : State) (i : Nat) : Bool :=
  if i < 4 then (s.islandCores i).any s.coreBusy
  else if i < 12 then (islandEngines i).any (fun e => s.engIs e 2 || s.engIs e 4 || s.engIs e 6)
  else if i < 16 then s.samplingBusy i
  else if i = 16 then
    (List.range 16).any (fun n => s.on (PF.CTRL.EN n)) || (List.range 4).any (fun n => s.on (EMU.CTRL.EN n))
  else if i < 19 then s.portsBusy i
  else match i with
    | 24 => (List.range 16).any (fun n => s.get (DMA.STATUS.STATE n) == 2)
    | 25 => (List.range 64).any (fun r => s.on (RL.CTRL.EN r)) || s.xfer.isSome
    | 26 => s.flash.now.isSome || s.flash.runs.any (fun r => match r.kind with | .desc _ => true | _ => false) || s.recs.cmd.isSome ||
        s.flash.wipe
    | 27 => (List.range 32).any (fun c => decide (1 ≤ s.get (RUSH.STATUS.STATE c)) && decide (s.get (RUSH.STATUS.STATE c) ≤ 3))
    | 28 => s.frameBusy
    | 29 => !s.sec.queue.isEmpty
    | _ => false

/-- R366: the conditions under which an island may go to Black. -/
def State.blackOk (s : State) (i : Nat) : Bool :=
  if i < 4 then (s.islandCores i).all (fun c => s.coreState c == 4 || s.coreState c == 5)
  else if i < 12 then (islandEngines i).all (fun e => s.engIs e 0 || s.engIs e 5)
  else if i < 19 then true
  else if i < 24 then (List.range 16).all (fun k => s.get (BANKS.OWNER.OWNER (16 * (i - 20) + k)) == 0)
  else match i with
    | 24 => (List.range 4).all (fun k => s.get (BANKS.OWNER.OWNER (64 + k)) == 0) &&
        (List.range 16).all (fun n => s.get (DMA.STATUS.STATE n) == 0)
    | 27 => s.get DDR.STATUS.STATE == 0 || s.get DDR.STATUS.STATE == 3
    | 28 => !s.linkBusy
    | _ => true

/-- R366: the deepest state an island may be in now. IS19, IS30 and IS31 stay White. -/
def State.allowed (s : State) (i : Nat) : Nat :=
  if i = 19 ∨ i = 30 ∨ i = 31 then 0
  else if s.islandBusy i then 1
  else if i ≠ 26 && s.blackOk i then 3
  else 2

/-- STAT.ALLOW shows what R366 permits now. -/
def allowShow (s : State) : State := (List.range 32).foldl (fun t i => t.put (ISL.STAT.ALLOW i) (t.allowed i)) s

/-! ### Tolerable wake latency (R368, R369) -/

/-- R368: the effective TWL of an island in µs. -/
def State.twl (s : State) (i : Nat) : Nat :=
  let own := s.get (ISL.TWL.TWL i)
  if i < 4 then
    (s.islandCores i).foldl (fun m c =>
      min (min m (s.get (CUE.TWL.TWL c 8)))
        (((List.range 8).filter (fun t => !s.taskIs c t 0)).foldl (fun n t => min n (s.get (CUE.TWL.TWL c t))) 0xFFFF)) own
  else own

/-- R365, R366: the wake time of a state in µs. -/
def wakeTime (i st : Nat) : Nat :=
  if st = 2 then 40
  else if i < 4 then 80
  else if i < 12 then 60
  else if i < 16 then 150
  else if i = 28 then 200
  else if i = 29 then 100
  else 60

/-- R369: White draw at CLKREQ minus the draw of an island in a state. -/
def State.drawGap (s : State) (i st : Nat) : Nat := whiteDraw i (s.get (ISL.CTRL.CLKREQ i)) - drawIn i st (s.get (ISL.STAT.CLK i))

/-- The state an island would be in after island `i` enters `st`. -/
def State.islandAfter (s : State) (i st q : Nat) : Nat := if q = i then st else s.island q

/-- R369: the islands that would be deep after island `i` enters `st`, and what each would ask for. -/
def State.deepAfter (s : State) (i st : Nat) : List (Nat × Nat) :=
  ((List.range 32).filter (fun q => decide (2 ≤ s.islandAfter i st q))).map (fun q => (q, s.drawGap q (s.islandAfter i st q)))

def sumSnd (l : List (Nat × Nat)) : Nat := (l.map (fun p => p.2)).foldl (· + ·) 0

/-- R369: the clock steps needed to grant what all deep islands ask for at once. -/
def State.stepsAll (s : State) (i st : Nat) : Nat :=
  let need := s.ledger + drawIn i st (s.get (ISL.STAT.CLK i)) + sumSnd (s.deepAfter i st) - s.get (ISL.STAT.GRANT i) - s.budget
  stepsFor need s.clockSteps

/-- R369: SW of island `q` in µs times the slew, once island `i` is in `st`. -/
def State.stagger (s : State) (i st q : Nat) : Nat :=
  sumSnd ((s.deepAfter i st).filter (fun p => p.1 != q)) + 2 * s.stepsAll i st * s.slew

/-- R369: W + SW of island `i` in `st` stays within its TWL. -/
def State.twlHolds (s : State) (i st : Nat) : Bool :=
  st < 2 || s.twl i == 0xFFFF || decide (wakeTime i st * s.slew + s.stagger i st i ≤ s.twl i * s.slew)

/-- R369: island `i` may enter `st`: its own W + SW stays within its TWL, and it raises SW of no other deep island beyond the TWL of
that one. -/
def State.twlAllows (s : State) (i st : Nat) : Bool :=
  st < 2 || (s.twlHolds i st && (s.deepAfter i st).all (fun p =>
    p.1 == i || s.twl p.1 == 0xFFFF || decide (s.stagger i st p.1 ≤ s.twl p.1 * s.slew) ||
      decide (s.stagger i st p.1 ≤ s.stagger i (s.island i) p.1)))

/-- R369: SWORST in units of 10 ns, rounded down. -/
def swShow (s : State) : State :=
  let deep := s.deepAfter 0 (s.island 0)
  let sw (q : Nat) : Nat := sumSnd (deep.filter (fun p => p.1 != q)) * 100 / s.slew + 200 * s.stepsAll 0 (s.island 0)
  s.put GAF.SWORST.SW (min 0xFFFF ((deep.map (fun p => sw p.1)).foldl max 0))

/-- What the Gaffer shows of islands and ledger. -/
def gafShow (s : State) : State := swShow (ledgerShow (allowShow s))

/-! ### Entering and leaving deep states (R365 to R367) -/

/-- R310, R366: DDR4 enters self-refresh. -/
def ddrSleep (s : State) : State :=
  if s.get DDR.STATUS.STATE = 2 then (s.put DDR.STATUS.STATE 4).put DDR.STATUS.REGIONS 0 else s

/-- R310: DDR4 leaves self-refresh with its trained values. -/
def ddrWake (s : State) : State :=
  if s.get DDR.STATUS.STATE = 4 then (s.put DDR.STATUS.STATE 2).put DDR.STATUS.REGIONS (min 255 (16 * s.ddrCap)) else s

/-- R169, R366: a port group whose island returns from Black: its refusals are at reset values; the CUT latch, the trip latch and RED,
which the port die has kept, hold its ports again. -/
def rejoinGroup (g : Nat) (s : State) : State :=
  refreshGroup g ((groupPorts g).foldl (fun u p => u.put (GP.STATUS.HCUT p) (s.get PORTS.CUTSTAT.LATCH))
    ((s.put (PG.GSTAT.REFCLASS g) 0).put (PG.GSTAT.CLRREF g) 0))

/-- R365: an engine whose island was off: all of it at reset values; one that is RED stays RED. -/
def engineLost (e : Nat) (s : State) : State :=
  let s1 := (clearMem (engBase e) (engBase e + 0x1000) (clearRange (LE.CTRL.adr e) (LE.CTRL.adr e + 0x20) s)).putEng e (EngSt.atReset e)
  let s2 := ((s1.setEngNeg (s.engNeg.filter (fun p => p.1 / 1024 != e))).setEngIn (s.engIn.filter (fun p => p.1 / 1024 != e))).setEngTrigs
    (s.engTrigs.filter (fun p => p.1 != e))
  engEnter e (if s.engIs e 5 then 5 else s2.get (LE.STATUS.STATE e)) s2

/-- R365, R366: a sampling island that was off: its comparators, and for IS12 the sample sets and the triggers on their way, at reset
values; the calibration is kept by IS26. -/
def samplingLost (i : Nat) (s : State) : State :=
  let j := i - 12
  let s1 := (List.range 8).foldl (fun u k => u.putCmp (8 * j + k) (CmpSt.atReset (8 * j + k)))
    (clearRange (CMP.CTRL.adr (8 * j)) (CMP.CTRL.adr (8 * j) + 0x40) s)
  if i = 12 then ((clearRange (SS.CTRL.adr 0) (SS.CTRL.adr 0 + 0x800) s1).setSets []).setTrigAt [] else s1

/-- R365: the reels' registers and state at reset values; what a run latched of a reel before holds no more. -/
def reelsLost (s : State) : State :=
  ((s.reels.foldl (fun u e => u.putReel e.1 { ReelSt.atReset e.1 with gen := e.2.gen + 1 })
    (clearRange REELS.XCTL.adr (REELS.XCTL.adr + 0x10000) s)).setReelQ [])

/-- R365, R366: what has become of an island that returns from Black. -/
def leaveBlack (i : Nat) (s : State) : State :=
  if i < 4 then (s.islandCores i).foldl (fun t c => (coreClear c t).putCoreState c 4) s
  else if i < 12 then (islandEngines i).foldl (fun t e => engineLost e t) s
  else if i < 16 then samplingLost i s
  else if i = 16 then
    ((clearRange (PF.CTRL.adr 0 / 0x10000 * 0x10000) (PF.CTRL.adr 0 / 0x10000 * 0x10000 + 0x10000) s).setFeedback []).setEmus []
  else if i < 19 then
    (List.range 48).foldl (fun t k =>
      let p := 48 * (i - 17) + k
      (clearRegs (fun a => decide (GP.CTRL.adr p ≤ a) && decide (a < GP.CTRL.adr (p + 1)) && a != GP.SAFE.adr p) t).putPort p
        (PortSt.atReset p)) s
    |> fun t => (List.range 6).foldl (fun u g => rejoinGroup (6 * (i - 17) + g) u) t
  else if i < 24 then clearMem (bankBase (16 * (i - 20))) (bankBase (16 * (i - 20)) + 0x40000) s
  else match i with
    | 24 => (clearMem (bankBase 64) (bankBase 64 + 0x2000) (clearRange 0x02130000 0x02140000 s)).setDmas []
    | 25 => clearMem 0x01200000 0x01210000 (reelsLost s)
    | 27 =>
      let t := ((List.range 32).filter (fun c => s.on (RUSH.CTRL.EN c))).foldl (fun u c => rushDisable c u) s
      (clearRange 0x02100000 0x02110000 (clearRange 0x020B0000 0x020C0000 t)).setRushes []
    | 28 =>
      let t := clearRegs (fun a => (decide (0x020D0000 < a) && decide (a < 0x020F0000)) || decide (a / 0x10000 = 0x212)) s
      (((t.setSerials []).setSessions []).setLink { LinkSt.atReset with outs := t.link.outs }).putB ETH.LOCALEN.EN t.otp.host.isNone
    | 29 =>
      ((clearRange SEC.OTPRES.adr (SEC.IMGDIG.adr 0) s).setSec
        { s.sec with queue := [], next := 0, done := none, results := [], handles := [], otpCmd := none }).put SEC.STATUS.QCNT 0
    | _ => s

/-- R371: an island enters a deeper state; the ledger releases the difference. -/
def descend (i st : Nat) (s : State) : State :=
  let s1 := grantIn i st (s.get (ISL.STAT.CLK i)) ((islandCatchUp i s).put (ISL.STAT.STATE i) st)
  if i = 27 && st == 2 then ddrSleep s1 else s1

/-- R371: the state that the ledger counts an island in: the one a granted wake brings, while it is under way. -/
def State.countedIn (s : State) (i : Nat) : Nat :=
  match s.gaf.waking.find? (fun w => w.1 == i) with
  | some w => w.2
  | none => s.island i

/-- R372: the clock steps of an island that are under way. -/
def State.stepping (s : State) (i : Nat) : Bool := s.gaf.steps.any (fun p => p.1 == i)

/-- The clock an island has, or is to have once its step under way has taken effect. -/
def State.clockDue (s : State) (i : Nat) : Nat :=
  match s.gaf.steps.find? (fun p => p.1 == i) with
  | some p => p.2
  | none => s.get (ISL.STAT.CLK i)

/-- R363, R372: a core island runs, or is to run, below the clock that CLKREQ asks for. -/
def State.lowered (s : State) (i : Nat) : Bool := decide (s.get (ISL.CTRL.CLKREQ i) < s.clockDue i)

/-- R372: with room again, the lowest lowered core island that it suffices for, and that can be raised now, asks for its clock back, one
step at a time. -/
def restoreClocks (s : State) : State :=
  let g := s.gaf
  let bud := g.bud.filter s.lowered
  let s1 := (s.setGaf { g with bud := bud }).putB GAF.STATUS.BUDLOW (!bud.isEmpty)
  let clk (i : Nat) : Nat := s.get (ISL.STAT.CLK i)
  match (List.range 4).find? (fun i => bud.contains i && !s.stepping i && !g.hot.contains i && decide (s.island i < 2) &&
      decide (s.ledger + (whiteDraw i (clk i - 1) - whiteDraw i (clk i)) ≤ s.budget)) with
  | none => s1
  | some i => s1.request ⟨false, i, 0, s.t, true, clk i - 1⟩

/-- R367: the state an idle island is taken to. -/
def State.depth (s : State) (i : Nat) : Nat :=
  let lim := min (s.get (ISL.CTRL.DEEPEST i)) (s.allowed i)
  if 3 ≤ lim && s.twlAllows i 3 then 3
  else if 2 ≤ lim && s.twlAllows i 2 then 2
  else min 1 lim

/-- ISLAND_DESCEND: an island that has been idle for 100 µs goes to the deepest state that DEEPEST, R366 and R369 allow
(R367). For IS26 DEEPEST acts as Grey, in every part but the Gaffer. -/
def execIslandDescend (i : Fin 32) (s : State) : Out :=
  let d := if i.val = 26 then min 1 (s.allowed 26) else s.depth i.val
  .next (if 2 ≤ s.allowed i.val && s.island i.val < d && !s.gaf.waking.any (fun w => w.1 == i.val) then
      restoreClocks (gafShow (descend i.val d s))
    else s)

/-- R371, R377: the clock of a core island follows CLKREQ: a lowering begins at once, a raise is requested. While a step of the
island or a request of it is under way nothing begins; the end of that step or request takes it up. -/
def clockFollow (i : Nat) (s : State) : State :=
  let req := s.get (ISL.CTRL.CLKREQ i)
  let clk := s.get (ISL.STAT.CLK i)
  if 4 ≤ i ∨ s.stepping i ∨ s.gafQueue.any (fun q => q.source == i) then s
  else if clk < req then s.setGaf { s.gaf with steps := s.gaf.steps ++ [(i, req)] }
  else if req < clk && !s.gaf.bud.contains i && !s.gaf.hot.contains i then s.request ⟨false, i, 1, s.t, true, req⟩
  else s

/-- A write of CLKREQ: a raise that was requested for the old value and has not been granted gives way to the new one. -/
def clkreqWrite (i req : Nat) (s : State) : State :=
  let u := s.put (ISL.CTRL.CLKREQ i) req
  if s.get (ISL.CTRL.CLKREQ i) = req then u
  else clockFollow i (if s.gafQueue.any (fun q => q.source == i && q.clock) then u.unrequest i else u)

/-- ISLAND_WAKE_DONE: a woken island reaches its state (R366, R20). -/
def execIslandWakeDone (i : Fin 32) (s : State) : Out :=
  .next (match s.gaf.waking.find? (fun w => w.1 == i.val) with
    | none => s
    | some w =>
      let s1 := if s.island i.val = 3 then leaveBlack i.val s else s
      let s2 := (clockSeen i.val (s1.setGaf { s1.gaf with waking := s1.gaf.waking.filter (fun x => x.1 != i.val) })).put
        (ISL.STAT.STATE i.val) w.2
      let s3 := if i.val = 27 && w.2 < 2 then ddrWake s2 else s2
      let s4 := grantIn i.val w.2 (min (s3.get (ISL.STAT.CLK i.val)) (s3.clockDue i.val)) s3
      wakeLater i.val (clockFollow i.val (restoreClocks
        (gafShow (if treeIsland i.val && w.2 < 2 then s4.setSyncWait (i.val :: s4.syncWait.filter (· != i.val)) else s4)))))

/-- R367, R372: a write to CTRL of an island. -/
def islCtrlWrite (agent i v : Nat) (s : State) : State :=
  let s1 := if i = 19 ∨ i = 26 ∨ i = 30 ∨ i = 31 then s else s.put (ISL.CTRL.DEEPEST i) (bits v 2 2)
  let s2 := if i < 4 then clkreqWrite i (bits v 6 2) s1 else s1
  (if bitOf v 0 then wakeRequest i 1 0 s2 else s2).answer agent .ok 0 0

/-- R369: where a TWL write has lowered the effective TWL below what the present state allows, the island is woken to the deepest state
that the new value allows; `s0` is the state before the write. -/
def twlApply (i : Nat) (s0 s : State) : State :=
  if s.twl i < s0.twl i && !s.twlHolds i (s.island i) then
    wakeRequest i 1 (if s.island i = 3 && s.twlHolds i 2 then 2 else 1) s
  else s

/-- R368: a write to ISLnn.TWL. -/
def islTwlWrite (agent i v : Nat) (s : State) : State :=
  (gafShow (twlApply i s (s.put (ISL.TWL.TWL i) (bits v 0 16)))).answer agent .ok 0 0

/-- R368: a write to CUE.TWL of a core: `t` is a task, or 8. -/
def cueTwlWrite (agent c t v : Nat) (s : State) : State :=
  cueGate agent c (fun u => gafShow (twlApply (coreIsland c) u (u.put (CUE.TWL.TWL c t) (bits v 0 16)))) s

/-! ### Device grants (R371 to R373, R377) -/

/-- R377: of two requests, the one served first: higher priority, then the older, then the lower source. -/
def GReq.before (a b : GReq) : Bool :=
  decide (b.prio < a.prio) || (a.prio == b.prio && (decide (a.raised < b.raised) || (a.raised == b.raised && decide (a.source < b.source))))

/-- R377: the head of a ledger's requests among the 64 entries of the queue. -/
def headReq (l : List GReq) : Option GReq :=
  l.foldl (fun b r => match b with | none => some r | some q => if r.before q then some r else some q) none

def State.deviceHead (s : State) : Option GReq := headReq ((s.gafQueue.take 64).filter (fun r => !r.zone))

/-- R371: the mW a request asks for. -/
def State.reqDraw (s : State) (r : GReq) : Nat :=
  (if r.clock then drawIn r.source (s.countedIn r.source) r.target else drawIn r.source r.target (s.get (ISL.STAT.CLK r.source))) -
    s.get (ISL.STAT.GRANT r.source)

/-- R373: the spacing after the last device grant has passed. -/
def State.deviceSpaced (s : State) : Bool := decide (s.gaf.last.2 * 1500 ≤ (s.t - s.gaf.last.1) * s.slew)

/-- R371, R373, R377: a device request is granted. -/
def deviceGrant (r : GReq) (s : State) : State :=
  let i := r.source
  let s1 := (s.unrequest i).put (ISL.LASTW.STAG i) (min 0xFFFF ((s.t - r.raised) / 15))
  let g := s1.gaf
  let s2 := if r.clock
    then grantIn i (s.countedIn i) r.target (s1.setGaf { g with steps := g.steps ++ [(i, r.target)], last := (s.t, s.reqDraw r) })
    else grantIn i r.target (s.get (ISL.STAT.CLK i)) (s1.setGaf { g with waking := g.waking ++ [(i, r.target)], last := (s.t, s.reqDraw r) })
  gafShow s2

/-- R372: the clock step that makes room: of the highest-numbered core island above 0.375 GHz; not the one that asks. -/
def State.roomStep (s : State) (r : GReq) : Option (Nat × Nat × Nat) :=
  s.clockSteps.find? (fun p => !(r.clock && p.1 == r.source))

/-- DEVICE_GRANT: the Gaffer serves the head of the device ledger's requests: it grants it, or first lowers a core clock by
one step (R371 to R373, R377). -/
def execDeviceGrant (s : State) : Out :=
  .next (match s.deviceHead with
    | none => s
    | some r =>
      if !s.deviceSpaced then s
      else if s.ledger + s.reqDraw r ≤ s.budget then deviceGrant r s
      else if !s.gaf.steps.isEmpty then s
      else match s.roomStep r with
        | some (i, clk, _) =>
          (s.setGaf { s.gaf with steps := s.gaf.steps ++ [(i, clk)], bud := i :: s.gaf.bud.filter (· != i) }).put GAF.STATUS.BUDLOW 1
        | none =>
          if r.clock then
            ((s.unrequest r.source).setGaf { s.gaf with bud := r.source :: s.gaf.bud.filter (· != r.source) }).put GAF.STATUS.BUDLOW 1
          else deviceGrant r s)

/-- R363: a throttle episode ends when no core island is lowered for heat any more. -/
def throttleEnd (s : State) : State :=
  let hot := s.gaf.hot.filter s.lowered
  let s1 := s.setGaf { s.gaf with hot := hot }
  if hot.isEmpty && s.on GAF.STATUS.THROT then (s1.put GAF.STATUS.THROT 0).raise 322 else s1

/-- CLOCK_STEP: a clock change of a core island takes effect (R372). -/
def execClockStep (i : Fin 4) (s : State) : Out :=
  .next (match s.gaf.steps.find? (fun p => p.1 == i.val) with
    | none => s
    | some p =>
      let up := decide (p.2 < s.get (ISL.STAT.CLK i.val))
      let s1 := ((islandCatchUp i.val s).put (ISL.STAT.CLK i.val) p.2).setGaf { s.gaf with steps := s.gaf.steps.filter (fun q => q.1 != i.val) }
      let s2 := grantIn i.val (s.countedIn i.val) p.2 s1
      clockFollow i.val (restoreClocks (gafShow (if up then throttleEnd s2 else s2))))

/-! ### Junction temperature (R363, R364, R430) -/

/-- The highest of a list of readings, with its place; the first of equal ones. -/
def highest (l : List Int) : Nat × Int :=
  match l with
  | [] => (0, 0)
  | x :: t => (t.foldl (fun (b : Nat × Nat × Int) y => (b.1 + 1, if b.2.2 < y then (b.1 + 1, y) else b.2)) (0, 0, x)).2

/-- R430: the marks take a sample. -/
def markSample (tj : Int) (vin pin : Nat) (s : State) : State :=
  s.setGaf { s.gaf with marks := match s.gaf.marks with
    | none => some (tj, tj, vin, pin)
    | some (h, l, v, p) => some (max h tj, min l tj, min v vin, max p pin) }

/-- TJ_SAMPLE: the island sensors are read, and VIN and input power measured (R362, R363, R430). -/
def execTjSample (temps : List (BitVec 9)) (vin pin : BitVec 12) (s : State) : Out :=
  if temps.length ≠ 32 then .fault (.malformed "TJ_SAMPLE")
  else
    let h := highest (temps.map (fun x => x.toInt))
    let s1 := (s.put GAF.TJ.ISL h.1).put GAF.TJ.TJ (unsgn 9 h.2)
    let s2 := (s1.put GAF.MEAS.VIN vin.toNat).put GAF.MEAS.PIN pin.toNat
    .next (markSample h.2 vin.toNat pin.toNat (s2.putIf (decide (vin.toNat ≤ 2440)) GAF.STATUS.VINHI 0))

/-- R363: every core island above 0.375 GHz is lowered by one step. -/
def throttleDown (s : State) : State :=
  let is := (List.range 4).filter (fun i => decide (s.island i < 2) && decide (s.get (ISL.STAT.CLK i) < 3) && !s.stepping i)
  if is.isEmpty then s
  else
    let g := s.gaf
    let s1 := s.setGaf { g with
      steps := g.steps ++ is.map (fun i => (i, s.get (ISL.STAT.CLK i) + 1))
      hot := is ++ g.hot.filter (fun i => !is.contains i) }
    if s.on GAF.STATUS.THROT then s1 else ((s1.put GAF.STATUS.THROT 1).report .throttle 0 0).raise 322

/-- R363: every core island lowered for heat asks for one step back. -/
def throttleUp (s : State) : State :=
  let s1 := throttleEnd s
  (s1.gaf.hot.filter (fun i => !s1.stepping i)).foldl (fun t i => t.request ⟨false, i, 0, t.t, true, t.get (ISL.STAT.CLK i) - 1⟩) s1

/-- THROTTLE_STEP: 1 ms has passed at 140 °C and above, or 10 ms at 135 °C and below (R363). -/
def execThrottleStep (s : State) : Out :=
  let tj := sgn 9 (s.get GAF.TJ.TJ)
  .next (if 140 ≤ tj then throttleDown s else if tj ≤ 135 then throttleUp s else s)

/-! ### The zone ledger (R374 to R377, R425) -/

/-- R377: a zone request that has waited 1 s is served before every other. -/
def State.zoneHead (s : State) : Option GReq :=
  let l := (s.gafQueue.take 64).filter (fun r => r.zone)
  let old := l.filter (fun r => decide (1500000000 ≤ s.t - r.raised))
  headReq (if old.isEmpty then l else old)

/-- R375: IPK_prev / SZ ms have passed since the previous zone grant. -/
def State.zoneSpaced (s : State) : Bool :=
  decide (10 * s.zoneLast.2 * 1500000 ≤ (s.t - s.zoneLast.1) * max 1 (s.get GAF.ZSUP.SZ))

/-- R374, R375: a start is granted: the ledger takes IPK, and the port and its followers enter RUN. -/
def zoneGrant (r : GReq) (s : State) : State :=
  let p := r.source - 32
  let k := s.get (GP.SAFE.SCLS p)
  let ipk := s.get (GAF.CLS.IPK k)
  let dur := max 1 (s.get (GAF.CLS.DUR k))
  let s1 := (s.unrequest r.source).setStarts
    (s.starts ++ [⟨p, ipk, s.get (GAF.CLS.IRUN k), s.t + dur * 1500000, false⟩])
  let s2 := ((s1.setZoneLast (s.t, ipk)).put GAF.ZLAST.PORT p).put GAF.ZLAST.WAIT (min (2 ^ 22 - 1) ((s.t - r.raised) / 15000))
  releaseRoot p s2.zoneRefresh

/-- ZONE_GRANT: the Gaffer serves the head zone request: a start that fits, or one that never fits while no start is in
progress; outside RUN it grants none (R375, R377, R425). -/
def execZoneGrant (s : State) : Out :=
  .next (match s.zoneHead with
    | none => s
    | some r =>
      let ipk := 10 * s.get (GAF.CLS.IPK (s.get (GP.SAFE.SCLS (r.source - 32))))
      if s.get ETH.SLSTATE.STATE ≠ 3 ∨ !s.zoneSpaced then s
      else if s.zoneC + ipk ≤ s.izEff then zoneGrant r s
      else if s.starts.all (fun x => x.excess) then
        ((zoneGrant r s).report .zoneOver (elPort (r.source - 32)) 0).raise 323
      else s)

/-- START_END: DUR ms after its grant a start ends, and its port counts with IRUN (R374). -/
def execStartEnd (p : Fin 96) (s : State) : Out :=
  .next (match s.starts.find? (fun x => x.port == p.val && !x.excess) with
    | none => s
    | some x =>
      ((s.advanceTo x.endAt).setStarts (s.starts.map (fun y => if y = x then { y with excess := true } else y))).zoneRefresh)

/-- THERM_STALE: AGE of a used zone sensor passes MAXAGE (R376). -/
def execThermStale (k : Fin 4) (s : State) : Out :=
  let n := k.val
  let mx := s.get GAF.ZTHERM.MAXAGE
  let age := s.get (GAF.ZTEMP.AGE n)
  .next (if !s.on (GAF.ZTEMP.USED n) || s.gaf.told.contains n then s
    else
      let s1 := if age ≤ mx then (s.elapse ((mx + 1 - age) * 1500000)).put (GAF.ZTEMP.AGE n) (mx + 1) else s
      (((s1.setGaf { s1.gaf with told := n :: s1.gaf.told }).report .thermStale 0 n)).zoneRefresh)

end Sys2Proof.Machine
end

