-- ==== Sys2Proof/Machine/Packing.lean ====
section
/-! DEFINITION. Octets in words (R183) and digests in registers. -/

namespace Sys2Proof.Machine

/-- R183: the four octets of a word. -/
def wordOctets (w : Nat) : List Nat := octets 4 (w % 2 ^ 32)

/-- R183: the octets that words hold. -/
def unpackOctets (ws : List Nat) : List Nat := ws.flatMap wordOctets

/-- R183: octets packed four to a word, the last word filled with zero octets; `n` bounds the words. -/
def packOctets : Nat → List Nat → List Nat
  | 0, _ => []
  | n + 1, l => if l.isEmpty then [] else ofOctets ((l ++ [0, 0, 0]).take 4) :: packOctets n (l.drop 4)

/-- The words that `l` takes. -/
def packed (l : List Nat) : List Nat := packOctets ((l.length + 3) / 4) l

/-- A 512-bit digest as 16 words of 32 bits, most significant first. -/
def digestWords (d : Nat) : List Nat := (List.range 16).map (fun j => d / 2 ^ (32 * (15 - j)) % 2 ^ 32)

/-- The digest that 16 words spell. -/
def ofDigestWords (ws : List Nat) : Nat := ws.foldl (fun a w => a * 2 ^ 32 + w % 2 ^ 32) 0

/-- Write a digest into the registers `r 0` to `r 15`. -/
def putDigest (r : Nat → FRef) (d : Nat) (s : State) : State :=
  (List.range 16).foldl (fun u j => u.put (r j) ((digestWords d).getD j 0)) s

/-- The digest that the registers `r 0` to `r 15` hold. -/
def State.digest (s : State) (r : Nat → FRef) : Nat := ofDigestWords ((List.range 16).map (fun j => s.get (r j)))

/-- SYS.UID0 to UID3 as one number of 144 bits; UID0 holds the highest. -/
def State.uid (s : State) : Nat := (List.range 4).foldl (fun a k => a * 2 ^ 36 + s.get (SYS.UID.UID k)) 0

/-- `n` free octets, drawn from `k` on: what the TRNG gives. -/
def freeOctets (k n : Nat) : List Nat := (List.range n).map (fun i => Config.freeValue (k + i) % 256)

/-- Count `n` free values as drawn. -/
def State.drawn (s : State) (n : Nat) : State := s.setFree (s.free + n)

/-- The contexts of signatures (R395, R400, R402, R404, R406), coded for `Config`. -/
inductive Ctx where
  | img | att | ses | sw | host | dbg

def Ctx.num : Ctx → Nat
  | .img => 0
  | .att => 1
  | .ses => 2
  | .sw => 3
  | .host => 4
  | .dbg => 5

end Sys2Proof.Machine
end

