-- ==== Sys2Proof/Machine/Feedback.lean ====
section
/-! DEFINITION. Position feedback: quadrature, Hall, resolver, SENT and BiSS-C channels, speed, position events and encoder
emulation (R75 to R99). -/

namespace Sys2Proof.Machine

/-! ### Position, angle, turns -/

/-- R77: ANGLE from a position and CPR. -/
def angleOf (pos : Int) (cpr : Nat) : Nat := if cpr = 0 then 0 else ((pos % (cpr : Int)).toNat * 2 ^ 20 / cpr) % 2 ^ 20

/-- R77: the change of TURNS when ANGLE moves from `a` to `b` through counting. -/
def turnStep (a b : Nat) : Int :=
  if 3 * 2 ^ 18 ≤ a ∧ b < 2 ^ 18 then 1 else if a < 2 ^ 18 ∧ 3 * 2 ^ 18 ≤ b then -1 else 0

/-- POS as a signed count. -/
def State.pfPos (s : State) (n : Nat) : Int := sgn 36 (s.get (PF.POS.POS n))

/-- R96: PFAULT is the OR of the sticky bits 21 to 11. -/
def refreshFault (n : Nat) (s : State) : State :=
  s.putB (PF.STATUS.PFAULT n)
    (s.on (PF.STATUS.SIGLOST n) || s.on (PF.STATUS.BISSNOACK n) || s.on (PF.STATUS.BISSERR n) ||
      s.on (PF.STATUS.BISSCRC n) || s.on (PF.STATUS.SENTERR n) || s.on (PF.STATUS.RESTRACK n) ||
      s.on (PF.STATUS.RESAMP n) || s.on (PF.STATUS.HALLSKIP n) || s.on (PF.STATUS.HALLILL n) ||
      s.on (PF.STATUS.QUADILL n) || s.on (PF.STATUS.IXDEVF n))

/-- R96: a fault of a channel sets its sticky bit and goes to the Continuity Unit. -/
def pfFault (n : Nat) (bit : FRef) (c : FaultCode) (s : State) : State :=
  ((s.put bit 1).put (PF.STATUS.PFAULT n) 1).report c (elFeedback n) 0

/-- R97: SIG_LOST. What an output that stops has in its backlog stays there (DESIGN CHOICE, log 142). -/
def sigLost (n : Nat) (s : State) : State :=
  let s1 := (pfFault n (PF.STATUS.SIGLOST n) .sigLost s).put (PF.STATUS.VALID n) 0
  (List.range 4).foldl (fun t k => if t.get (EMU.CTRL.SRCCH k) == n then t.put (EMU.STATUS.ACTIVE k) 0 else t) s1

/-! ### Speed (R93) -/

/-- R93: the window length N. -/
def State.speedN (s : State) (n : Nat) : Nat := 2 ^ min 6 (s.get (PF.CFG.NAVG n))

/-- R93: SPD over the window, newest point first, truncated toward zero. -/
def windowSpeed (pts : List (Int × Nat × Int)) (old : Int) : Int :=
  match pts.head?, pts.getLast? with
  | some (pk, tk, _), some (p0, t0, _) => if tk ≤ t0 then old else Int.tdiv ((pk - p0) * 2 ^ 32) ((tk - t0 : Nat) : Int)
  | _, _ => old

/-- The window's two ends are apart in counts but not in time: R93's quotient has no value, and SPD is free (DESIGN CHOICE, log
entry 24). -/
def windowStuck (pts : List (Int × Nat × Int)) : Bool :=
  match pts with
  | (_, tk, _) :: q :: rest => decide (tk ≤ ((q :: rest).getLastD q).2.1)
  | _ => false

/-- R93: the counts in the window have both signs. The count that set the window's first point is one of them: with NAVG 0 the
example of the reversing pump names the window "+1, then −1" and has DIRCHG = 1 (DEDUCED, log entry 99). -/
def windowBoth (pts : List (Int × Nat × Int)) : Bool :=
  pts.any (fun x => decide (0 < x.2.2)) && pts.any (fun x => decide (x.2.2 < 0))

/-! ### Encoder emulation (R98, R99) -/

/-- R98, R99: a source count feeds an output: whole steps go to the backlog, which holds at most 65,535. -/
def emuFeed (k : Nat) (delta : Int) (s : State) : State :=
  let m := max 1 (s.get (EMU.RATIO.M k))
  let e := s.emu k
  let acc := e.acc + delta * (min m (s.get (EMU.RATIO.N k)) : Nat)
  let steps := Int.tdiv acc m
  let want := e.backlog + steps
  let b := clampInt (-65535) 65535 want
  let lost := (want - b).natAbs
  let s1 := if lost == 0 then s else
    (s.put (EMU.STATUS.LAG k) 1).put (EMU.STATUS.DROP k) (min 65535 (s.get (EMU.STATUS.DROP k) + lost))
  (s1.putB (EMU.STATUS.ACTIVE k) (b != 0)).putEmu k { e with acc := acc - steps * m, backlog := b }

/-- Every enabled output that the channel feeds. -/
def emuFeedAll (n : Nat) (delta : Int) (s : State) : State :=
  ((List.range 4).filter (fun k => s.on (EMU.CTRL.EN k) && s.get (EMU.CTRL.SRCCH k) == n)).foldl
    (fun t k => emuFeed k delta t) s

/-! ### A count (R77, R93, R95) -/

/-- R95: the sign of POS − PCMP, as a 36-bit difference. -/
def State.aboveCmp (s : State) (n : Nat) : Bool :=
  decide (0 ≤ sgn 36 (s.get (PF.POS.POS n) + 2 ^ 36 - s.get (PF.PCMP.PCMP n)))

/-- R95: a position event goes to the Cues and to the engines that name it (R114). -/
def positionEvent (ev stamp : Nat) (s : State) : State :=
  let hit := (List.range 24).filter (fun e => s.get (LE.TRIG.KIND e) == 2 && s.get (LE.TRIG.NUM e) == ev)
  (s.setEngTrigs (s.engTrigs ++ hit.map (fun e => (e, stamp % 2 ^ 36)))).raiseAt ev stamp

/-- R95: the compare event, evaluated at a count. -/
def compareEvent (n stamp : Nat) (s : State) : State :=
  let now := s.aboveCmp n
  let s1 := s.putPf n { s.pf n with above := now }
  if s.on (PF.CTRL.PCMPEN n) && s.on (PF.CTRL.EVCMP n) && (s.pf n).above != now then positionEvent (112 + n) stamp s1 else s1

/-- R320: offer position, angle and speed to the recorder. -/
def offerPosition (n stamp : Nat) (s : State) : State :=
  let c := s.pf n
  rushOffer 5 (n * 256 + 2) c.spd (stamp % 2 ^ 36)
    (rushOffer 5 (n * 256 + 1) c.angle (stamp % 2 ^ 36) (rushOffer 5 (n * 256) (s.pfPos n) (stamp % 2 ^ 36) s))

/-- R77, R93: POS moves by `delta` at `stamp`; `add` is what enters the running sum, and `spd` the speed where the source
has its own. -/
def pfMove (n : Nat) (delta add : Int) (spd? : Option Int) (stamp : Nat) (s : State) : State :=
  let c := s.pf n
  let cpr := s.get (PF.CPR.CPR n)
  let a0 := angleOf (s.pfPos n) cpr
  let s1 := s.put (PF.POS.POS n) (unsgn 36 (s.pfPos n + delta))
  let a1 := angleOf (s1.pfPos n) cpr
  let base := if c.stopped then c.pts.take 1 else c.pts
  let pts := ((c.sum + add, stamp, add) :: base).take (s.speedN n + 1)
  let v := spd?.getD (windowSpeed pts c.spd)
  let fits := !(spd?.isNone && windowStuck pts) && decide (-(2 ^ 35) ≤ v) && decide (v < 2 ^ 35)
  let v' := if fits then v else sgn 36 (Config.freeValue s.free)
  let s2 := if fits then s1 else s1.draw
  let s3 := s2.putPf n
    { c with sum := c.sum + add, pts := pts, spd := v', stamp := stamp,
             dir := if delta = 0 then c.dir else decide (delta < 0),
             dirchg := windowBoth pts, stopped := false, angle := a1, lastAt := stamp,
             turns := unsgn 16 ((c.turns : Int) + turnStep a0 a1) }
  emuFeedAll n delta (offerPosition n stamp (compareEvent n stamp s3))

/-! ### Quadrature, step/direction, index (R79 to R84) -/

/-- R79: the filter length L in ticks. -/
def State.filterLen (s : State) (n : Nat) : Nat := max 1 (s.get (PF.CFG.FILT n)) + 1

/-- R80: the count of an accepted change from (a, b) to (a', b'); none is the illegal X4 transition. -/
def quadCount (mode : Nat) (a b a' b' : Bool) : Option Int :=
  let up (u : Bool) : Int := if u then 1 else -1
  match mode with
  | 0 => if a != a' && b != b' then none
         else if a != a' then some (up (a' != b)) else if b != b' then some (up (b' == a)) else some 0
  | 1 => if a != a' then some (up (a' != b)) else some 0
  | 2 => if !a && a' then some (up (!b)) else some 0
  | _ => if !a && a' then some (up b) else some 0

/-- R82, R83, R84, R95: a qualified index edge. -/
def indexEdge (n stamp : Nat) (s : State) : State :=
  let first := !s.on (PF.STATUS.IXSEEN n)
  let always := s.get (PF.CTRL.IXMODE n) == 1
  let ix := s.get (PF.POS.POS n)
  let s1 := (s.put (PF.IXCNT.IXCNT n) ix).put (PF.STATUS.IXSEEN n) 1
  let s2 := s1.putIf (always || first) (PF.POS.POS n) (s.get (PF.IXVAL.IXVAL n))
  let c := s2.pf n
  let s3 := s2.putPf n { c with angle := angleOf (s2.pfPos n) (s.get (PF.CPR.CPR n)) }
  let cpr := s.get (PF.CPR.CPR n)
  let h := cpr / 2
  let d := (sgn 36 ix - sgn 36 (s.get (PF.IXVAL.IXVAL n)) + h) % (cpr : Int) - h
  let s4 := if first || cpr == 0 then s3
    else
      let s5 := s3.put (PF.IXDEV.IXDEV n) (unsgn 36 d)
      if d.natAbs > s.get (PF.AUX.IXTOL n) then pfFault n (PF.STATUS.IXDEVF n) .indexDeviation s5 else s5
  if s.on (PF.CTRL.EVIX n) then positionEvent (96 + n) stamp s4 else s4

/-- R79 to R83: the quadrature and step/direction source. -/
def quadAccept (n : Nat) (a b z : Bool) (stamp : Nat) (s : State) : State :=
  let c := s.pf n
  let s0 := s.putPf n { c with a := a, b := b, z := z }
  let s1 := match quadCount (s.get (PF.CFG.QMODE n)) c.a c.b a b with
    | none => pfFault n (PF.STATUS.QUADILL n) .quadIllegal s0
    | some d =>
      let d' := if s.on (PF.CFG.DIRINV n) then -d else d
      if d' = 0 then s0 else pfMove n d' d' none stamp s0
  let ixm := s.get (PF.CTRL.IXMODE n)
  if (ixm == 1 || ixm == 2) && c.z != z && z == !(s1.pf n).dir then indexEdge n stamp s1 else s1

/-! ### Hall (R85) -/

/-- R85: the sector of a code. -/
def State.hallSector (s : State) (n code : Nat) : Option Nat :=
  (List.range 6).find? (fun i => bits (s.get (PF.AUX.HSEQ n)) (15 - 3 * i) 3 == code)

def hallAccept (n : Nat) (a b z : Bool) (stamp : Nat) (s : State) : State :=
  let c := s.pf n
  let s0 := s.putPf n { c with a := a, b := b, z := z }
  let code := (if a then 4 else 0) + (if b then 2 else 0) + (if z then 1 else 0)
  match s.hallSector n code with
  | none => pfFault n (PF.STATUS.HALLILL n) .hallIllegal s0
  | some k =>
    let s1 := s0.putPf n { s0.pf n with sector := some k }
    match c.sector with
    | none => s1
    | some j =>
      let go (d : Int) (t : State) : State :=
        let d' := if s.on (PF.CFG.DIRINV n) then -d else d
        pfMove n d' d' none stamp t
      match (k + 6 - j) % 6 with
      | 0 => s1
      | 1 => go 1 s1
      | 5 => go (-1) s1
      | 2 => go 2 (pfFault n (PF.STATUS.HALLSKIP n) .hallSkip s1)
      | 4 => go (-2) (pfFault n (PF.STATUS.HALLSKIP n) .hallSkip s1)
      | _ => pfFault n (PF.STATUS.HALLSKIP n) .hallSkip s1

/-- LINE_EDGE_ACCEPT: the filters of a channel's lines accept new levels at one tick; the stamp is the first tick at which
the new level was sampled (R79). A channel that does not count keeps the levels: an enable by another write takes them (DEDUCED,
log 108). -/
def execLineEdgeAccept (n : Fin 16) (a b z : Bool) (s : State) : Out :=
  if s.unsynced 16 then .next s else
  let stamp := s.t - (s.filterLen n.val - 1)
  .next (if s.on (PF.CTRL.EN n.val) && s.on (PF.STATUS.VALID n.val) then
      match s.get (PF.CTRL.SRC n.val) with
      | 0 => quadAccept n.val a b z stamp s
      | 1 => hallAccept n.val a b z stamp s
      | _ => s.putPf n.val { s.pf n.val with a := a, b := b, z := z }
    else s.putPf n.val { s.pf n.val with a := a, b := b, z := z })

/-! ### Enable and disable (R75 to R77, R87) -/

def pfFeature (n : Nat) : Nat := 0x100 + n

/-- R75: the balls a channel claims. -/
def State.pfNeeds (s : State) (n : Nat) : List Nat :=
  let ixm := s.get (PF.CTRL.IXMODE n)
  let base := 0x200 + 4 * n
  match s.get (PF.CTRL.SRC n) with
  | 0 => if ixm == 1 || ixm == 2 then [base, base + 1, base + 2] else [base, base + 1]
  | 1 => [base, base + 1, base + 2]
  | 2 => [0x300 + n]
  | 3 => [base]
  | 4 => [base, base + 1]
  | _ => []

/-- R75, R87: why an enable is refused before the claims are looked at. R87 asks for SRC = 0 of the set: a reserved SRC, which R57
lets act as 0, is refused (DESIGN CHOICE, log 109). -/
def State.pfCfgErr (s : State) (n : Nat) : Bool :=
  let src := s.get (PF.CTRL.SRC n)
  let k := s.get (PF.RES0.RESSET n)
  decide (5 ≤ src) || (src == 2 && (decide (4 ≤ n) || !s.on (SS.CTRL.EN k) || s.get (SS.CTRL.SRC k) != 0))

/-- R83, R79, R93: what an enable starts: the line levels at the enable tick, no index seen, a fresh window. A legal Hall code
that stands at the enable tick is the first legal code after enable and sets the sector (DESIGN CHOICE, log 109). -/
def pfStart (n : Nat) (a b z : Bool) (s : State) : State :=
  let c := s.pf n
  let src := s.get (PF.CTRL.SRC n)
  let s1 := (s.put (PF.STATUS.IXSEEN n) 0).put (PF.STATUS.VALID n) 1
  let code := (if a then 4 else 0) + (if b then 2 else 0) + (if z then 1 else 0)
  s1.putPf n
    { c with a := a, b := b, z := z, sector := if src == 1 then s.hallSector n code else none,
             pts := if src == 0 || src == 1 then [(c.sum, s.t, 0)] else [],
             stopped := false, first := false, cal := 0, bad := 0, lowAmp := 0, lastAt := s.t, enAt := s.t,
             bissAt := s.t, busy := false, slow := [], half := 0, peaks := [],
             upd := (s.sampSet (s.get (PF.RES0.RESSET n))).full, delay := 0, above := s.aboveCmp n,
             angle := angleOf (s.pfPos n) (s.get (PF.CPR.CPR n)) }

/-- R31, R75, R425: an enable attempt of a channel with the line levels it shows. -/
def pfEnable (agent n : Nat) (a b z : Bool) (s : State) : State :=
  let s0 := s.putB (PF.STATUS.CFGERR n) (s.pfCfgErr n)
  if s.pfCfgErr n then s0.putFeature (pfFeature n) 0 0 0
  else
    let s1 := s0.enableFeature agent (pfFeature n) (s.pfNeeds n)
    if !s.enablePasses (pfFeature n) (s.pfNeeds n) then s1
    else
      let s2 := (s1.put (PF.CTRL.EN n) 1).put (PF.CTRL.OWNER n) agent
      sceneCheck (s.on (PF.STATUS.SCENE n)) (elFeedback n) (0x100 + n) (pfStart n a b z s2)

/-- R33, R55: clearing EN releases the claims. -/
def pfDisable (n : Nat) (s : State) : State :=
  (((s.disableFeature (pfFeature n) (s.pfNeeds n)).put (PF.CTRL.EN n) 0).put (PF.CTRL.OWNER n) 0).put (PF.STATUS.VALID n) 0

/-- R95: writes of PCMP, PCMPEN and POS change the sign without raising the event. -/
def resign (n : Nat) (s : State) : State := s.putPf n { s.pf n with above := s.aboveCmp n }

/-- R55, R76: a write to PFnn.CTRL. -/
def pfCtrlWrite (agent n v : Nat) (a b z : Bool) (s : State) : State :=
  if !ownerGate (s.get (PF.CTRL.OWNER n)) agent then s.answer agent .busOwn 0 0
  else
    let lk := s.on (PF.CTRL.EN n)
    let s1 := (((s.put (PF.CTRL.PCMPEN n) (bits v 25 1)).put (PF.CTRL.EVIX n) (bits v 24 1)).put (PF.CTRL.EVCMP n)
      (bits v 23 1)).put (PF.CTRL.EVUPD n) (bits v 22 1)
    let s2 := if lk then
        s1.putIf (bits v 26 2 != s.get (PF.CTRL.IXMODE n) || bits v 1 3 != s.get (PF.CTRL.SRC n)) (PF.STATUS.WREJ n) 1
      else (s1.put (PF.CTRL.IXMODE n) (bits v 26 2)).put (PF.CTRL.SRC n) (bits v 1 3)
    let s3 :=
      if bitOf v 0 then
        (if lk then s2.handOver (PF.CTRL.OWNER n) (bits v 28 8) else pfEnable agent n a b z s2)
      else if lk then pfDisable n s2 else s2.dropConflict (pfFeature n)
    (resign n s3).answer agent .ok 0 0

/-- R88: the counts by which a resolver's reading has moved on at speed × (now − A); of a value between two counts the spec does
not say which is read, and the choice is free (log 23). -/
def extrapolation (spd : Int) (dt : Nat) : Int :=
  let x := spd * dt
  x / 2 ^ 32 + (if x % 2 ^ 32 ≠ 0 ∧ Config.extrapolateUp spd dt then 1 else 0)

/-- R88: POS as a read at this tick gives it: a resolver's is extrapolated, before the first update from the enable tick with the
speed held from before (DESIGN CHOICE, log 140). -/
def State.pfReading (s : State) (n : Nat) : Int :=
  if s.get (PF.CTRL.SRC n) == 2 && s.on (PF.STATUS.VALID n) then
    s.pfPos n + extrapolation (s.pf n).spd (s.t - (s.pf n).lastAt)
  else s.pfPos n

/-- R77, R88: ANGLE and TURNS at this tick. -/
def State.pfAngle (s : State) (n : Nat) : Nat := angleOf (s.pfReading n) (s.get (PF.CPR.CPR n))
def State.pfTurns (s : State) (n : Nat) : Nat := if s.get (PF.CPR.CPR n) = 0 then 0 else (s.pf n).turns

/-- R78: the registers take the live values of one tick. -/
def pfLatch (n : Nat) (s : State) : State :=
  let c := s.pf n
  (((((((s.put (PF.ANGLE.TURNS n) (s.pfTurns n)).put (PF.ANGLE.ANGLE n) (s.pfAngle n)).put (PF.SPD.SPD n) (unsgn 36 c.spd)).put
    (PF.STAMP.STAMP n) c.stamp).putB (PF.STATUS.DIR n) c.dir).putB (PF.STATUS.DIRCHG n) c.dirchg).putB
    (PF.STATUS.STOPPED n) c.stopped)

/-- R78: before the first read of POS the registers show the live values (DESIGN CHOICE, log 139). -/
def pfSync (n : Nat) (s : State) : State := if (s.pf n).latched then s else pfLatch n s

/-- R78, R88: a read of POS. -/
def posRead (agent n : Nat) (s : State) : State :=
  (pfLatch n (s.putPf n { s.pf n with latched := true })).answer agent .ok 0 (unsgn 36 (s.pfReading n))

/-! ### Resolver (R86 to R90) -/

/-- R86: the excitation period as it acts. -/
def State.excPer (s : State) (n : Nat) : Nat := max 75000 (min 300000 (s.get (PF.RES0.EXCPER n)))

/-- R86: the peak of the sine in units of 0.1 µV. -/
def State.excPeak (s : State) (n : Nat) : Nat := s.get (PF.RES0.EXCAMP n) * 78125

/-- R86: what a running resolver channel drives at EXCn at a tick, in units of 0.1 µV: a sine about 1.25 V whose zero phase falls at
multiples of the period from the enable tick. -/
def State.excOut (s : State) (n : Nat) : Option Int :=
  if decide (n < 4) && s.on (PF.CTRL.EN n) && s.get (PF.CTRL.SRC n) == 2 then
    let phase := (s.t - (s.pf n).enAt) % s.excPer n
    some (12500000 + s.excPeak n * fixSin (foldTurn ((phase : Int) * 2 * fixOne / s.excPer n)) / fixOne)
  else none

/-- R87: the aperture end of half-period `j`: the peaks of the sine delayed by PHD. Of an EXCPER that is no multiple of 4 the
quarters are rounded down (DESIGN CHOICE, log 110). -/
def State.peakAt (s : State) (n j : Nat) : Int :=
  ((s.pf n).enAt : Int) + ((s.excPer n * (2 * j + 1) / 4 : Nat) : Int) + sgn 16 (s.get (PF.RES1.PHD n))

/-- R87: the first half-period whose aperture can still be scheduled from now. -/
def State.nextHalf (s : State) (n : Nat) : Nat :=
  let off := max 24 (s.get (SS.CTRL.OFFSET (s.get (PF.RES0.RESSET n))))
  let x : Int := (s.t : Int) + off + 3 - (s.pf n).enAt - sgn 16 (s.get (PF.RES1.PHD n))
  let j := if x ≤ 0 then 0 else ((4 * x + s.excPer n - 1) / s.excPer n / 2).toNat
  max j (s.pf n).half

/-- RESOLVER_TRIGGER: the channel triggers its sample set for the next peak of the excitation (R87). -/
def execResolverTrigger (n : Fin 16) (s : State) : Out :=
  if s.unsynced 16 then .next s else
  let k := s.get (PF.RES0.RESSET n.val)
  .next (if s.on (PF.CTRL.EN n.val) && s.get (PF.CTRL.SRC n.val) == 2 && s.on (PF.STATUS.VALID n.val) then
      let j := s.nextHalf n.val
      let off := max 24 (s.get (SS.CTRL.OFFSET k))
      let trig := (s.peakAt n.val j).toNat - off
      let s1 := s.advanceTo (trig - 3)
      let s2 := if s1.on (SS.CTRL.EN k) then setTrigger k trig s1 else s1
      let c := s2.pf n.val
      let took := (s2.sampSet k).last
      s2.putPf n.val { c with
        half := j + 1
        peaks := if took == (s1.sampSet k).last then c.peaks else c.peaks ++ [(took.getD 0, j % 2 == 1)] }
    else s)

/-- R51, R89: a result as eighths of a ×1 code, whatever its format and gain. -/
def State.resCode (s : State) (set slot : Nat) : Int :=
  (if !s.on (SS.SLOT.DIFF set slot) && s.on (SS.SLOT.FMT set slot) then (s.get (SS.RES.VALUE set slot) : Int) - 32768
  else sgn 16 (s.get (SS.RES.VALUE set slot))) * 2 ^ (3 - s.get (SS.RES.GAIN set slot))

/-- R88: the bandwidth in use: at most one eighth of the update rate. -/
def State.trackBw (s : State) (n : Nat) : Nat :=
  let lim := 375000000 / s.excPer n
  let most := if 2000 ≤ lim then 3 else if 1000 ≤ lim then 2 else if 500 ≤ lim then 1 else 0
  min most (s.get (PF.RES0.TRKBW n))

/-- R90: 3,000 rev/s in 2^−32 counts per tick. -/
def maxTrackSpeed : Int := 9007199254

/-- R88: s × cos θ − c × sin θ in fixed point, θ in 2^−20 revolution. -/
def trackNum (sn cs : Int) (theta : Nat) : Int :=
  let x := foldTurn ((theta : Int) * (fixOne / 2 ^ 19))
  sn * fixCos x - cs * fixSin x

/-- R89: |e| above 2^−7 revolution. The error e = (s × cos θ − c × sin θ) / AMPNOM is an angle in radians where it is small (DEDUCED,
log 23); with AMPNOM 0 it has no value, and the outcome is free. -/
def trackWide (num : Int) (nom : Nat) : Bool :=
  if nom = 0 then Config.wideAtZero num else decide ((nom : Int) * fixPi < 64 * (num.natAbs : Int))

/-- R88: θ carried to an aperture: the counts by which the last speed has moved it on. -/
def State.trackAhead (s : State) (n ap : Nat) : Int := extrapolation (s.pf n).spd (ap - (s.pf n).lastAt)

/-- R88: the integral path of the type-II loop. The table's acceleration at an error of 2^−7 revolution is (2πf)² times that error, so an
update changes the speed by (2πf)² × e × its time; which of the two nearest values it takes is free, and the whole change where AMPNOM
is 0 and e has no value (log 23). -/
def trackSpeed (num : Int) (nom : Nat) (spd : Int) (bw dt : Nat) : Int :=
  let free := Config.trackSpeed num nom spd bw dt
  if nom = 0 then (if num = 0 then spd else free)
  else
    let n : Int := 2 * fixPi * ((250 * 2 ^ bw) ^ 2 : Nat) * num * dt * 2 ^ 52
    let d : Int := fixOne * fixOne * nom * 2250000000000000000
    spd + clampInt (n / d) (-(-n / d)) free

/-- R88: the proportional path of the type-II loop, in counts. The spec gives no damping: the step is free between none and twice the
error, beyond which no such loop settles; it is wholly free where AMPNOM is 0 and e has no value (log 23). -/
def trackShift (num : Int) (nom : Nat) (spd : Int) (bw dt : Nat) : Int :=
  let free := Config.trackStep num nom spd bw dt
  if nom = 0 then (if num = 0 then 0 else free)
  else
    let lim : Int := -(-((num.natAbs : Int) * 2 ^ 20) / (nom * fixPi))
    clampInt (if num < 0 then -lim else 0) (if num < 0 then 0 else lim) free

/-- R88 to R90, R95: one tracker update from the sine and cosine of an aperture at `ap`, in eighths of a ×1 code. The error is that of
θ carried to the aperture; with none the tracker goes on at its speed. -/
def trackerUpdate (n ap : Nat) (sn cs : Int) (s : State) : State :=
  let c := s.pf n
  let nom := 8 * s.get (PF.RES1.AMPNOM n)
  let amp := (sn * sn + cs * cs).toNat
  let ahead := s.trackAhead n ap
  let num := trackNum sn cs (angleOf (s.pfPos n + ahead) (2 ^ 20))
  let dt := ap - c.lastAt
  let v := trackSpeed num nom c.spd (s.trackBw n) dt
  let v' := clampInt (-maxTrackSpeed) maxTrackSpeed v
  let atLimit := decide (v' ≠ v)
  let wide := trackWide num nom
  let s1 := if 4 * amp < nom * nom ∨ 9 * nom * nom < 4 * amp then pfFault n (PF.STATUS.RESAMP n) .resAmp s else s
  let s2 := if wide || atLimit then pfFault n (PF.STATUS.RESTRACK n) .resTrack s1 else s1
  let d := ahead + trackShift num nom c.spd (s.trackBw n) dt
  let s3 := pfMove n d d (some v') ap s2
  let c3 := s3.pf n
  let low := if 16 * amp < nom * nom then c.lowAmp + 1 else 0
  let bad := if atLimit && wide then c.bad + 1 else 0
  let s4 := s3.putPf n { c3 with lowAmp := low, bad := bad }
  let s5 := if s.on (PF.CTRL.EVUPD n) then positionEvent (128 + n) ap s4 else s4
  if low == 8 || bad == 8 then sigLost n s5 else s5

/-- R88: the completion of the channel's set that the tracker has still to take: its aperture end, and whether it is the sample of the
negative peak. A sample that a GO write of software asked for is that of no peak (DEDUCED, log 23). -/
def State.completion (s : State) (n : Nat) : Option (Nat × Bool) :=
  let c := s.pf n
  match (s.sampSet (s.get (PF.RES0.RESSET n))).full with
  | none => none
  | some ap => if c.upd = some ap then none else some (ap, c.peaks.contains (ap, true))

/-- RESOLVER_UPDATE: eight ticks after the channel's set completes, the tracker updates (R88). -/
def execResolverUpdate (n : Fin 16) (s : State) : Out :=
  let k := s.get (PF.RES0.RESSET n.val)
  .next (match s.completion n.val with
    | none => s
    | some (ap, neg) =>
      if s.on (PF.CTRL.EN n.val) && s.get (PF.CTRL.SRC n.val) == 2 && s.on (PF.STATUS.VALID n.val) then
        let s1 := (s.advanceTo (ap + 72)).putPf n.val
          { s.pf n.val with upd := some ap, peaks := (s.pf n.val).peaks.filter (fun p => decide (ap < p.1)) }
        let sn := s.resCode k 0
        let cs := s.resCode k 1
        trackerUpdate n.val ap (if neg then -sn else sn) (if neg then -cs else cs) s1
      else s)

/-! ### SENT and BiSS-C (R91, R92) -/

/-- The step of SAE J2716's 4-bit CRC, polynomial x^4 + x^3 + x^2 + 1 (row 21 of the log). -/
def sentCrcStep (c : Nat) : Nat := [0, 13, 7, 10, 14, 3, 9, 4, 1, 12, 6, 11, 15, 2, 8, 5].getD c 0

/-- The legacy CRC of data nibbles, and the recommended one, which runs one step further. -/
def sentCrc (legacy : Bool) (nibs : List Nat) : Nat :=
  let c := nibs.foldl (fun c d => sentCrcStep c ^^^ d) 5
  if legacy then c else sentCrcStep c

/-- R91: the nominal tick in device ticks. -/
def State.sentTick (s : State) (n : Nat) : Nat := 750 * max 6 (min 180 (s.get (PF.SER0.TICK n)))

/-- R91: data nibbles per frame, and position bits: a DBITS outside 1 to 24, or beyond the data of the frame, acts as the nearest
limit (DEDUCED, log 22). -/
def State.sentNibs (s : State) (n : Nat) : Nat := max 1 (min 6 (s.get (PF.SER0.DNIB n)))
def State.sentBits (s : State) (n : Nat) : Nat := max 1 (min (4 * s.sentNibs n) (s.get (PF.SER0.DBITS n)))

/-- A nibble of SAE J2716 from its length: 12 to 27 clock ticks, of which the calibration pulse holds 56 (PRESUMED, log 21). -/
def nibble? (cal len : Nat) : Option Nat :=
  let k := (112 * len + cal) / (2 * cal)
  if cal ≠ 0 ∧ 12 ≤ k ∧ k ≤ 27 then some (k - 12) else none

/-- All nibbles of a frame; none where one has no legal length. -/
def nibbles? (cal : Nat) (lens : List Nat) : Option (List Nat) := lens.mapM (nibble? cal)

/-- R91: the checks of a frame: calibration pulse, its change, the pause pulse that SER0.PAUSE announces, and the CRC, for a status
nibble, data nibbles and a CRC nibble. -/
def State.sentGood (s : State) (n cal : Nat) (nibs : List Nat) (pause : Bool) : Bool :=
  let nom := 56 * s.sentTick n
  let prev := (s.pf n).cal
  nibs.length == s.sentNibs n + 2 && pause == s.on (PF.SER0.PAUSE n) && decide (4 * nom ≤ 5 * cal) &&
    decide (5 * cal ≤ 6 * nom) && (prev == 0 || (decide (63 * prev ≤ 64 * cal) && decide (64 * cal ≤ 65 * prev))) &&
    sentCrc (s.on (PF.SER0.CRCV n)) ((nibs.drop 1).dropLast) == nibs.getLastD 0

/-- A number from bits, most significant first. -/
def ofBits (l : List Bool) : Nat := l.foldl (fun a b => 2 * a + (if b then 1 else 0)) 0

/-- The 6-bit CRC of an enhanced serial message, polynomial x^6 + x^4 + x^3 + 1, seed 21 (PRESUMED, log 21). -/
def slowCrc6 (l : List Bool) : Nat :=
  (l ++ List.replicate 6 false).foldl (fun c b =>
    ((c * 2 + (if b then 1 else 0)) % 64) ^^^ (if 32 ≤ c then 25 else 0)) 21

/-- R91: an enhanced serial message in 18 frames: ID and data (PRESUMED, log 21). -/
def slowEnhanced? (l : List (Bool × Bool)) : Option (Nat × Nat) :=
  let e := l.drop (l.length - 18)
  let h := e.map (fun x => x.1)
  let d := e.map (fun x => x.2)
  let bit (i : Nat) : Bool := h.getD i false
  if e.length = 18 ∧ (h.take 7) = [true, true, true, true, true, true, false] ∧ !bit 12 ∧ !bit 17 ∧
      slowCrc6 ((e.drop 6).flatMap (fun x => [x.2, x.1])) = ofBits (d.take 6) then
    (if bit 7 then some (ofBits ((h.drop 8).take 4), ofBits ((h.drop 13).take 4) * 4096 + ofBits (d.drop 6))
    else some (ofBits ((h.drop 8).take 4) * 16 + ofBits ((h.drop 13).take 4), ofBits (d.drop 6)))
  else none

/-- R91: a short serial message in 16 frames: ID and data (PRESUMED, log 21). -/
def slowShort? (legacy : Bool) (l : List (Bool × Bool)) : Option (Nat × Nat) :=
  let e := l.drop (l.length - 16)
  let d := ofBits (e.map (fun x => x.2))
  if e.length = 16 ∧ e.map (fun x => x.1) = true :: List.replicate 15 false ∧
      sentCrc legacy [d / 4096, d / 256 % 16, d / 16 % 16] = d % 16 then some (d / 4096, d / 16 % 256)
  else none

/-- R91: the status nibble of an accepted frame goes to the slow channel; a complete message is written to SLOW. -/
def slowTake (n st : Nat) (s : State) : State :=
  let l := ((s.pf n).slow ++ [(bitOf st 3, bitOf st 2)])
  let put (enh : Bool) (m : Nat × Nat) : State :=
    (((((s.put (PF.SLOW.MSG n) 1).putB (PF.SLOW.ENH n) enh).put (PF.SLOW.ID n) m.1).put (PF.SLOW.DATA n) m.2)).putPf n
      { s.pf n with slow := [] }
  match slowEnhanced? l, slowShort? (s.on (PF.SER0.CRCV n)) l with
  | some m, _ => put true m
  | none, some m => put false m
  | none, none => s.putPf n { s.pf n with slow := l.drop (l.length - 17) }

/-- The signed step that brings a count to `v` modulo 2^w by the shorter way. -/
def unwrapStep (w : Nat) (pos : Int) (v : Nat) : Int := sgn w (unsgn w ((v : Int) - pos))

/-- R91, R92, R93, R95: an accepted frame's position. The first one adds nothing to the running sum; its jump from the position that
stood moves DIR and TURNS and feeds the encoder outputs (DESIGN CHOICE, log 111). -/
def framePosition (n w v stamp : Nat) (s : State) : State :=
  let d := unwrapStep w (s.pfPos n) v
  let c := s.pf n
  let s1 := pfMove n d (if c.first then d else 0) none stamp s
  let s2 := s1.putPf n { s1.pf n with first := true, bad := 0 }
  if s.on (PF.CTRL.EVUPD n) then positionEvent (128 + n) stamp s2 else s2

/-- SENT_FRAME: a SENT frame ends (R91): the lengths in ticks of its calibration pulse, of its status, data (`lens`) and CRC
nibbles, and of its pause pulse where it has one, and the falling edge that opened it. -/
def execSentFrame (n : Fin 16) (cal status : Nat) (lens : List Nat) (crc : Nat) (pause : Option Nat) (start : BitVec 64)
    (s : State) : Out :=
  if s.unsynced 16 then .next s else
  .next (if s.on (PF.CTRL.EN n.val) && s.on (PF.STATUS.VALID n.val) && s.get (PF.CTRL.SRC n.val) == 3 then
      let bad := (pfFault n.val (PF.STATUS.SENTERR n.val) .sentError s)
      match nibbles? cal (status :: (lens ++ [crc])) with
      | none => bad.putPf n.val { bad.pf n.val with slow := [] }
      | some nibs =>
        if s.sentGood n.val cal nibs pause.isSome then
          let ds := (nibs.drop 1).dropLast
          let data := ds.foldl (fun a d => a * 16 + d) 0
          let w := s.sentBits n.val
          let s1 := s.put (PF.SERRAW.RAW n.val) data
          let s2 := framePosition n.val w (data / 2 ^ (4 * ds.length - w)) start.toNat s1
          slowTake n.val (nibs.headD 0) (s2.putPf n.val { s2.pf n.val with cal := cal, lastAt := start.toNat })
        else bad.putPf n.val { bad.pf n.val with slow := [] }
    else s)

/-- SENT_TIMEOUT: no accepted frame for 2,048 nominal ticks (R91, R97). They run from the falling edge that opened the last accepted
frame, and before the first one from the enable tick (DESIGN CHOICE, log 110). -/
def execSentTimeout (n : Fin 16) (s : State) : Out :=
  .next (if s.on (PF.CTRL.EN n.val) && s.on (PF.STATUS.VALID n.val) && s.get (PF.CTRL.SRC n.val) == 3 then
      sigLost n.val (s.advanceTo ((s.pf n.val).lastAt + 2048 * s.sentTick n.val))
    else s)

/-- R92: a BiSS channel that runs. -/
def State.bissOn (s : State) (n : Nat) : Bool :=
  s.on (PF.CTRL.EN n) && s.on (PF.STATUS.VALID n) && s.get (PF.CTRL.SRC n) == 4

/-- BISS_FRAME_START: the channel starts a frame, PERIOD ticks after the last or at once when that is past and the last one has
ended (R92). The first frame starts PERIOD ticks after the enable (DESIGN CHOICE, log 110). -/
def execBissFrameStart (n : Fin 16) (s : State) : Out :=
  if s.unsynced 16 then .next s else
  .next (if s.bissOn n.val && !(s.pf n.val).busy then
      let s1 := s.advanceTo ((s.pf n.val).bissAt + s.get (PF.SER1.PERIOD n.val))
      s1.putPf n.val { s1.pf n.val with bissAt := s1.t, busy := true }
    else s)

/-- R92: POSBITS stands in bits 23:18 of SER0. -/
def State.bissBits (s : State) (n : Nat) : Nat :=
  max 1 (min 32 (32 * s.get (PF.SER0.PAUSE n) + s.get (PF.SER0.DBITS n)))
def State.bissTurns (s : State) (n : Nat) : Nat := min 24 (s.get (PF.SER0.MTBITS n))

/-- R92: the half period of MA, in bits 35:24 of SER0. -/
def State.bissHalf (s : State) (n : Nat) : Nat :=
  max 75 (s.get (PF.SER0.TICK n) * 16 + s.get (PF.SER0.DNIB n) * 2 + s.get (PF.SER0.CRCV n))

/-- R92: the earliest end of MA's clocking in the frame under way: one period for each bit from multi-turn to CRC
and none for acknowledge and start bit, so that MA rests before the wait of NOACK is over (DESIGN CHOICE, log 110). -/
def State.bissEnd (s : State) (n : Nat) : Nat :=
  (s.pf n).bissAt + 2 * s.bissHalf n * (s.bissTurns n + s.bissBits n + 8)

/-- R92: the level of MA at a running channel's ball PFnnA: from the first, falling edge it turns every half period, and outside a
frame it is high (PRESUMED, log 110). -/
def State.bissMa (s : State) (n : Nat) : Option Bool :=
  if s.on (PF.CTRL.EN n) && s.get (PF.CTRL.SRC n) == 4 then
    some (!((s.pf n).busy && decide (s.t < s.bissEnd n) && (s.t - (s.pf n).bissAt) / s.bissHalf n % 2 == 0))
  else none

/-- R92: the 6-bit CRC with polynomial x^6 + x + 1 over `w` bits of `v`, most significant first. -/
def crc6 (v : Nat) (w : Nat) : Nat :=
  (List.range w).foldl (fun c i =>
    let b := (if bitOf v (w - 1 - i) then 1 else 0) ^^^ (c / 32)
    (c * 2 % 64) ^^^ (if b == 1 then 3 else 0)) 0

/-- R92: a frame lost to NOACK or CRC; eight in a row lose the signal. -/
def bissLost (n : Nat) (bit : FRef) (c : FaultCode) (s : State) : State :=
  let s1 := pfFault n bit c s
  let s2 := s1.putPf n { s1.pf n with bad := (s1.pf n).bad + 1, busy := false }
  if (s2.pf n).bad == 8 then sigLost n s2 else s2

/-- BISS_FRAME: the BiSS-C frame under way arrives: multi-turn and single-turn value, nE, nW and the CRC as sent, and the line delay
in ticks that its acknowledge shows, at which SLO is sampled after each MA edge (R92). The MA edge that latched its position is the
first, at which the frame started (DESIGN CHOICE, log 110). -/
def execBissFrame (n : Fin 16) (mt st : Nat) (nE nW : Bool) (crc : BitVec 6) (s0 : State) (delay : BitVec 16 := 0) : Out :=
  let run := s0.bissOn n.val && (s0.pf n.val).busy
  let s := if run then
      (s0.advanceTo (s0.bissEnd n.val + delay.toNat)).putPf n.val { s0.pf n.val with delay := delay.toNat }
    else s0
  .next (if s.bissOn n.val && (s.pf n.val).busy then
      let pb := s.bissBits n.val
      let mb := s.bissTurns n.val
      let raw := (mt % 2 ^ mb) * 2 ^ pb + st % 2 ^ pb
      let all := raw * 4 + (if nE then 2 else 0) + (if nW then 1 else 0)
      if crc.toNat == 63 - crc6 all (mb + pb + 2) then
        let stamp := (s.pf n.val).bissAt
        let s1 := s.put (PF.SERRAW.RAW n.val) raw
        let s3 := framePosition n.val (if mb == 0 then pb else 36) (raw % 2 ^ 36) stamp s1
        let s2 := s3.putPf n.val { s3.pf n.val with busy := false }
        if nE && nW then s2 else pfFault n.val (PF.STATUS.BISSERR n.val) .bissSensor s2
      else bissLost n.val (PF.STATUS.BISSCRC n.val) .bissCrc s
    else s)

/-- BISS_NOACK: no start bit within 20 µs of the first MA edge (R92). -/
def execBissNoack (n : Fin 16) (s : State) : Out :=
  .next (if s.bissOn n.val && (s.pf n.val).busy then
      bissLost n.val (PF.STATUS.BISSNOACK n.val) .bissNoack (s.advanceTo ((s.pf n.val).bissAt + 30000))
    else s)

/-! ### Slow speed (R94) -/

/-- R94: the last interval between counts; none before two counts. -/
def PfSt.interval (c : PfSt) : Option Nat :=
  match c.pts with
  | (_, t1, _) :: (_, t0, _) :: _ => some (t1 - t0)
  | _ => none

/-- R94: a source that counts (the resolver decays and stops by neither rule). -/
def State.pfCounts (s : State) (n : Nat) : Bool :=
  s.on (PF.CTRL.EN n) && s.on (PF.STATUS.VALID n) && s.get (PF.CTRL.SRC n) != 2

/-- SPEED_DECAY: at t[k] + interval + 64 j without a count, |SPD| falls to 2^32 / (now − t[k]), rounded down (R94; DESIGN CHOICE,
log 170). -/
def execSpeedDecay (n : Fin 16) (s : State) : Out :=
  let c := s.pf n.val
  .next (match c.interval with
    | some iv =>
      if s.pfCounts n.val && !c.stopped then
        let base := c.lastAt + iv
        let j := max 1 ((s.t - base + 63) / 64)
        let at_ := base + 64 * j
        let lim := (2 ^ 32 / (at_ - c.lastAt) : Nat)
        let v := if c.spd.natAbs ≤ lim then c.spd else if c.spd < 0 then -(lim : Int) else (lim : Int)
        (s.advanceTo at_).putPf n.val { c with spd := v }
      else s
    | none => s)

/-- SPEED_STOP: no count for longer than ZEROT × 4,096 ticks (R94); before a first count or frame they run from the enable tick (DESIGN
CHOICE, log 141). -/
def execSpeedStop (n : Fin 16) (s : State) : Out :=
  let c := s.pf n.val
  .next (if s.pfCounts n.val && !c.stopped then
      (s.advanceTo (c.lastAt + 4096 * s.get (PF.CFG.ZEROT n.val) + 1)).putPf n.val
        { c with spd := 0, stopped := true, pts := c.pts.take 1 }
    else s)

/-! ### Encoder emulation commands (R98, R99) -/

def emuFeature (k : Nat) : Nat := 0x110 + k
def emuNeeds (k : Nat) : List Nat := [0x100 + 88 + 2 * k, 0x100 + 89 + 2 * k]

/-- R55, R76, R98: a write to EMUn.CTRL. An enable starts the divider afresh and keeps the phase of A and B (DESIGN CHOICE, log 169). -/
def emuCtrlWrite (agent k v : Nat) (s : State) : State :=
  if !ownerGate (s.get (EMU.CTRL.OWNER k)) agent then s.answer agent .busOwn 0 0
  else
    let lk := s.on (EMU.CTRL.EN k)
    let s1 := if lk then s else s.put (EMU.CTRL.SRCCH k) (bits v 24 4)
    let s2 :=
      if bitOf v 0 then
        (if lk then s1.handOver (EMU.CTRL.OWNER k) (bits v 28 8)
         else
          let s3 := s1.enableFeature agent (emuFeature k) (emuNeeds k)
          if s.enablePasses (emuFeature k) (emuNeeds k) then
            ((s3.put (EMU.CTRL.EN k) 1).put (EMU.CTRL.OWNER k) agent).putEmu k ⟨0, 0, (s.emu k).phase, s.t⟩
          else s3)
      else if lk then
        ((((s1.disableFeature (emuFeature k) (emuNeeds k)).put (EMU.CTRL.EN k) 0).put (EMU.CTRL.OWNER k) 0).put
          (EMU.STATUS.ACTIVE k) 0)
      else s1.dropConflict (emuFeature k)
    s2.answer agent .ok 0 0

/-- EMU_STEP: an output step moves the backlog one toward zero, A leading B upward, at most once in 30 ticks (R98, R99). -/
def execEmuStep (k : Fin 4) (s : State) : Out :=
  let e := s.emu k.val
  .next (if s.on (EMU.CTRL.EN k.val) && s.on (EMU.STATUS.ACTIVE k.val) && e.backlog != 0 then
      let b := if 0 < e.backlog then e.backlog - 1 else e.backlog + 1
      let s1 := s.advanceTo (e.stepAt + 30)
      (s1.putB (EMU.STATUS.ACTIVE k.val) (b != 0)).putEmu k.val
        { e with backlog := b, phase := (if 0 < e.backlog then e.phase + 1 else e.phase + 3) % 4, stepAt := s1.t }
    else s)

end Sys2Proof.Machine
end

