-- ==== Sys2Proof/Machine/LawOps.lean ====
section
/-! DEFINITION. The law ops: each command issues the op word at an engine's position when the word is that op (R107 to R112,
R116, R139 to R143). -/

namespace Sys2Proof.Machine

/-- An operation on the pass of an engine. -/
def State.withPass (s : State) (e : Nat) (f : LawPass → LawPass) : State :=
  s.putEng e { s.eng e with pass := f (s.eng e).pass }

/-- Results join what is on its way. -/
def lawIssue (e lat : Nat) (rs : List LawRes) (s : State) : State := s.withPass e (fun p => p.issue lat rs)

/-- The operands the pass under way offers. -/
def State.lawReads (s : State) (e : Nat) : Reads := (s.eng e).pass.reads (s.eng e).sign

/-! ### Control of issue -/

/-- LAW_NOP (R108). -/
def execLawNop (e : Fin 24) (s : State) : Out := .next (lawPath e.val 0x00 1 (fun _ _ => []) s)

/-- LAW_WAIT: issue stops for k cycles (R108). -/
def execLawWait (e : Fin 24) (s : State) : Out := .next (lawPath e.val 0x01 1 (fun _ _ => []) s)

/-- LAW_END: END ends the take; at the end of the retake or tiebreak it stands held for the closing compare, in which
`hurt` is what a fault made of this pass's exponents and flags, 0 for none (R120, R122). -/
def execLawEnd (e : Fin 24) (hurt : BitVec 17) (s : State) : Out :=
  .next (if !s.lawIssues e.val 0x02 then s
    else
      let a := engBase e.val + (s.eng e.val).pass.pc
      if s.due a then engRed e.val .engineRed s else engEnd e.val hurt.toNat (engFix e.val a s))

/-- LAW_SKIP: when its condition holds the next ops issue as no-ops (R108). -/
def execLawSkip (e : Fin 24) (s : State) : Out :=
  .next (lawOp e.val 0x03 (fun _ _ => []) (fun _ t => t)
    (fun w t => t.withPass e.val (fun p =>
      if skipCond (bits w 8 4) (t.lawReads e.val) (opA w) then
        { p with skipFrom := p.pc + 1, skipTo := p.pc + 1 + bits w 0 6 }
      else { p with skipFrom := 0, skipTo := 0 })) s)

/-- The REP of a word with so many live iterations. -/
def LawPass.startRep (p : LawPass) (w live : Nat) : LawPass :=
  { p with rep := some ⟨p.pc + 1, p.pc + repLen w, repTotal w, 0, live⟩ }

/-- LAW_REP: the next L ops repeat M times; a skipped REP issues all its iterations as no-ops (R108). -/
def execLawRep (e : Fin 24) (s : State) : Out :=
  .next (lawOp e.val 0x04 (fun _ _ => [])
    (fun w t => t.withPass e.val (fun p => if p.dead then p.startRep w 0 else p))
    (fun w t => t.withPass e.val (fun p => p.startRep w (liveCount ((t.lawReads e.val).x (opA w)) (repTotal w)))) s)

/-! ### Data paths -/

/-- LAW_ADD (R108). -/
def execLawAdd (e : Fin 24) (s : State) : Out := .next (lawPath e.val 0x08 1 dpAdd s)
/-- LAW_SUB (R108). -/
def execLawSub (e : Fin 24) (s : State) : Out := .next (lawPath e.val 0x09 1 dpSub s)
/-- LAW_NEG (R108). -/
def execLawNeg (e : Fin 24) (s : State) : Out := .next (lawPath e.val 0x0A 1 dpNeg s)
/-- LAW_MOV (R108). -/
def execLawMov (e : Fin 24) (s : State) : Out := .next (lawPath e.val 0x0B 1 dpMov s)
/-- LAW_MUL (R108). -/
def execLawMul (e : Fin 24) (s : State) : Out := .next (lawPath e.val 0x0C 3 dpMul s)
/-- LAW_MAC (R108). -/
def execLawMac (e : Fin 24) (s : State) : Out := .next (lawPath e.val 0x0D 3 dpMac s)
/-- LAW_SCL (R108). -/
def execLawScl (e : Fin 24) (s : State) : Out := .next (lawPath e.val 0x0E 1 dpScl s)
/-- LAW_NORM (R104, R108). -/
def execLawNorm (e : Fin 24) (s : State) : Out := .next (lawPath e.val 0x0F 2 dpNorm s)
/-- LAW_SATS (R108). -/
def execLawSats (e : Fin 24) (s : State) : Out := .next (lawPath e.val 0x10 1 dpSats s)
/-- LAW_SATA (R108). -/
def execLawSata (e : Fin 24) (s : State) : Out := .next (lawPath e.val 0x11 1 dpSata s)
/-- LAW_ABS (R108). -/
def execLawAbs (e : Fin 24) (s : State) : Out := .next (lawPath e.val 0x12 1 dpAbs s)
/-- LAW_MAX (R108). -/
def execLawMax (e : Fin 24) (s : State) : Out := .next (lawPath e.val 0x13 1 dpMax s)
/-- LAW_MIN (R108). -/
def execLawMin (e : Fin 24) (s : State) : Out := .next (lawPath e.val 0x14 1 dpMin s)
/-- LAW_CMP (R108). -/
def execLawCmp (e : Fin 24) (s : State) : Out := .next (lawPath e.val 0x15 1 dpCmp s)
/-- LAW_SEL (R108). -/
def execLawSel (e : Fin 24) (s : State) : Out := .next (lawPath e.val 0x16 1 dpSel s)
/-- LAW_CROT (R108, R109). -/
def execLawCrot (e : Fin 24) (s : State) : Out := .next (lawPath e.val 0x1C 12 dpCrot s)
/-- LAW_DIV (R103, R108). -/
def execLawDiv (e : Fin 24) (s : State) : Out := .next (lawPath e.val 0x1D 20 dpDiv s)
/-- LAW_SQRT (R103, R108). -/
def execLawSqrt (e : Fin 24) (s : State) : Out := .next (lawPath e.val 0x1E 22 dpSqrt s)
/-- CLK (R108, R109). -/
def execClk (e : Fin 24) (s : State) : Out := .next (lawPath e.val 0x20 2 dpClk s)
/-- PARK (R108, R109). -/
def execPark (e : Fin 24) (s : State) : Out := .next (lawPath e.val 0x21 4 dpPark s)
/-- IPARK (R108, R109). -/
def execIpark (e : Fin 24) (s : State) : Out := .next (lawPath e.val 0x22 4 dpIpark s)
/-- SVM (R109). -/
def execSvm (e : Fin 24) (s : State) : Out := .next (lawPath e.val 0x23 6 dpSvm s)
/-- QMAC2 (R105, R108). -/
def execQmac2 (e : Fin 24) (s : State) : Out := .next (lawPath e.val 0x30 2 dpQmac2 s)
/-- QLD (R105, R108). -/
def execQld (e : Fin 24) (s : State) : Out := .next (lawPath e.val 0x31 1 dpQld s)
/-- QOUT (R105, R108). -/
def execQout (e : Fin 24) (s : State) : Out := .next (lawPath e.val 0x32 2 dpQout s)
/-- QADD (R105, R108). -/
def execQadd (e : Fin 24) (s : State) : Out := .next (lawPath e.val 0x33 1 dpQadd s)
/-- QTOB (R105, R108). -/
def execQtob (e : Fin 24) (s : State) : Out := .next (lawPath e.val 0x34 1 dpQtob s)
/-- BTOQ (R105, R108). -/
def execBtoq (e : Fin 24) (s : State) : Out := .next (lawPath e.val 0x35 1 dpBtoq s)

/-! ### Memory reads -/

/-- TRD: interpolated table read (R109). -/
def execTrd (e : Fin 24) (s : State) : Out :=
  .next (lawOp e.val 0x18
    (fun t w =>
      let i := (trdPos w ((t.lawReads e.val).x (opA w))).1
      [engConst e.val (bits w 8 10 + i), engConst e.val (bits w 8 10 + i + 1)])
    (fun _ t => t)
    (fun w t => lawIssue e.val 4
      (dpTrd (fun i => ⟨wordMant (t.rd (engConst e.val i)), -35⟩) w (t.lawReads e.val)) t) s)

/-- The exponent field of LDS, STS and LDC. -/
def kExp (w : Nat) : Int := sgn 8 (bits w 10 8)

/-- LDC: a constant word as a mantissa at an exponent (R108). -/
def execLdc (e : Fin 24) (s : State) : Out :=
  .next (lawOp e.val 0x2C (fun _ w => [engConst e.val (bits w 0 10)]) (fun _ t => t)
    (fun w t => lawIssue e.val 2
      [.val (opD w) (ofMant (wordMant (t.rd (engConst e.val (bits w 0 10)))) (kExp w))] t) s)

/-- R111, R118, R121: a state word as it stands for this pass: what the pass stored, else the committed image of its sign. -/
def State.lawState (s : State) (e i : Nat) : Int :=
  match ((s.eng e).pass.view.find? (fun v => v.1 == i)) with
  | some v => v.2
  | none => if (s.eng e).phase = 2 then wordMant (s.engNegW e i) else wordMant (s.rd (engState e i))

/-- R101, R118, R121: the image word an LDS reads; none where the pass reads its own working copy. -/
def State.ldsTouch (s : State) (e i : Nat) : List Nat :=
  if (s.eng e).pass.view.any (fun v => v.1 == i) then []
  else if (s.eng e).phase = 2 then [negAdr e i] else [engState e i]

/-- LDS: a state word as a mantissa at an exponent (R108). -/
def execLds (e : Fin 24) (s : State) : Out :=
  .next (lawOp e.val 0x2A (fun t w => t.ldsTouch e.val (bits w 0 10)) (fun _ t => t)
    (fun w t => lawIssue e.val 2
      [.val (opD w) (ofMant ((t.eng e.val).sign * t.lawState e.val (bits w 0 10)) (kExp w))] t) s)

/-! ### Inputs (R110, R116) -/

/-- R78, R110: the position items of a channel at this tick: POS, ANGLE, SPD, STAMP and STATUS. -/
def State.posItems (s : State) (n : Nat) : List Int :=
  let c := s.pf n
  let r := s.pfReading n
  [r, (angleOf r (s.get (PF.CPR.CPR n)) : Nat), c.spd, (c.stamp : Nat),
    ((pfLatch n s).wordOf (PF.STATUS.adr n) (fields! (PF.STATUS.adr n)) : Nat)]

/-- R110: the value of a position item. -/
def posValue (item : Nat) (v : Int) : Dy :=
  match item with
  | 1 => ⟨sgn 20 (unsgn 20 v), -19⟩
  | 2 => ⟨v, -32⟩
  | _ => Dy.ofInt v

/-- R110: all position items of one run come from one tick, that of the run's first position input. -/
def latchPos (e : Nat) (s : State) : State :=
  let g := s.eng e
  if g.posc.isEmpty then s.putEng e { g with posc := (List.range 16).map (fun n => (n, s.posItems n)) } else s

/-- R110: the input a SIN selects. Class 0 reads the VALUE of R62 as two's complement, of a slot in straight binary too (DESIGN CHOICE,
log 143). A port of which no LAT word has been returned to the engine reads 0 (DESIGN CHOICE, log entry
112: the spec names the last returned word only). -/
def State.sinValue (s : State) (e k : Nat) : Dy :=
  let g := s.eng e
  let froz (i : Nat) : Option Nat := (g.frozen.find? (fun q => q.1 == i)).map (fun q => q.2)
  match bits k 15 3 with
  | 0 =>
    match froz (bits k 4 5 * 32 + bits k 0 4) with
    | some w => ⟨max (-32767) (sgn 16 (bits w 0 16)), -15⟩
    | none => Dy.zero
  | 1 => Dy.ofInt ((froz (bits k 4 5 * 32 + 16)).getD 0 : Nat)
  | 2 =>
    match g.posc.find? (fun q => q.1 == bits k 4 4) with
    | some q => posValue (bits k 0 3) (q.2.getD (bits k 0 3) 0)
    | none => Dy.zero
  | 3 =>
    let w := ((g.lat.find? (fun q => q.1 == bits k 0 7)).map (fun q => q.2)).getD 0
    Dy.ofInt (if bitOf k 7 then bits w 25 3 else bits w 0 16 : Nat)
  | 4 => Dy.ofInt (g.stamp : Nat)
  | 5 => ofMant (wordMant (s.get (LE.PARAM.PARAM e (bits k 0 4)))) (sgn 8 (bits k 7 8))
  | _ => Dy.zero

/-- R110 states no input for this K: a position item above 4, or the latency of a port above 95. -/
def sinOpen (k : Nat) : Bool :=
  (bits k 15 3 == 2 && decide (5 ≤ bits k 0 3)) || (bits k 15 3 == 3 && decide (96 ≤ bits k 0 7))

/-- R116: a SIN slot, live or not: the take reads its source and logs it; every pass counts the slot. An input that R110 does
not state is a free value (DESIGN CHOICE, log entry 100). -/
def sinSlot (e w : Nat) (s : State) : State :=
  let s1 := if (s.eng e).phase = 1 then
      let t := if bits w 15 3 = 2 then latchPos e s else s
      let v := if sinOpen (opK w) then Dy.ofInt (sgn 36 (Config.freeValue t.free)) else t.sinValue e (opK w)
      let u := if sinOpen (opK w) then t.draw else t
      u.putEng e { u.eng e with inputs := (u.eng e).inputs ++ [v] }
    else s
  s1.withPass e (fun p => { p with ins := p.ins + 1 })

/-- SIN: an input, read in the take and taken from the input log in the retake and the tiebreak (R110, R116). -/
def execSin (e : Fin 24) (s : State) : Out :=
  .next (lawOp e.val 0x28 (fun _ _ => []) (fun w t => sinSlot e.val w t)
    (fun w t => lawIssue e.val 1 [.val (opD w) ((t.eng e.val).inputs.getD ((t.eng e.val).pass.ins - 1) Dy.zero)] t) s)

/-! ### Effects: `fault` is the value a faulty data path puts in the place of the op's own -/

/-- POUT: X_A in whole subticks to a port's compare (R108, R119). -/
def execPout (e : Fin 24) (fault : Option Word) (s : State) : Out :=
  .next (lawOp e.val 0x29 (fun _ _ => []) (fun _ t => t)
    (fun w t =>
      let v := (t.eng e.val).sign * ((t.lawReads e.val).x (opA w)).round 0
      addEffect e.val (.pout (bits w 11 7) (bits w 9 2) ((fault.map (fun f => sgn 36 f.toNat)).getD v)) t) s)

/-- STS: a state word's working copy (R108, R121). -/
def execSts (e : Fin 24) (fault : Option Word) (s : State) : Out :=
  .next (lawOp e.val 0x2B (fun _ _ => []) (fun _ t => t)
    (fun w t =>
      let v := (t.eng e.val).sign * clampInt (-mantMax) mantMax (((t.lawReads e.val).x (opA w)).toMant (kExp w))
      let m := (fault.map (fun f => sgn 36 f.toNat)).getD v
      lawIssue e.val 2 [.word (bits w 0 10) m] (addEffect e.val (.sts (bits w 0 10) m) t)) s)

/-- The reel as the engine latched it at dispatch (R139, R141). -/
def EngSt.reelOf (g : EngSt) (r : Nat) : Option Latched := g.latched.find? (fun l => l.reel == r)

/-- R139: an RRD or RLRN of a reel that is not bound to the engine; the take reports it. -/
def reelUnbound (e r : Nat) (s : State) : State :=
  if (s.eng e).phase = 1 then s.report .reelUnbound (elReel r) (ownEngine e) else s

/-- R140: the learning index of an angle in half-turns. -/
def reelIndex (a : Dy) (n : Nat) : Nat := (((a.half).mul (Dy.ofInt (n : Nat))).floor 0 % (n : Int)).toNat

/-- R141: the entry of a latched window, none outside it. -/
def Window.entry (x : Window) (p : Nat) : Option Dy :=
  let k := (p + x.n - x.first % x.n) % x.n
  (x.ents[k]?).map (fun w => ofMant (wordMant w) x.rexp)

/-- RRD: the entry at the angle plus LEAD (R140, R141). -/
def execRrd (e : Fin 24) (s : State) : Out :=
  .next (lawOp e.val 0x19 (fun _ _ => []) (fun _ t => t)
    (fun w t =>
      let r := bits w 0 6
      let g := t.eng e.val
      match g.reelOf r with
      | none => lawIssue e.val 3 [.val (opD w) Dy.zero] (reelUnbound e.val r t)
      | some l =>
        let n := (l.win.map Window.n).getD (t.reelN r)
        let lead := (l.win.map Window.lead).getD (sgn 12 (t.get (RL.LRN.LEAD r)))
        let i := reelIndex ((t.lawReads e.val).x (opA w)) n
        let p := (((i : Int) + lead) % (n : Int)).toNat
        let v := l.win.bind (fun x => x.entry p)
        let t1 := if v.isNone && g.phase == 1 then (t.put (RL.STATUS.MISS r) 1).incSat (RL.CNT.MISSCNT r) else t
        let t2 := t1.withPass e.val (fun q => { q with played := (r, i, p) :: q.played.filter (fun x => x.1 != r) })
        lawIssue e.val 3 [.val (opD w) (v.getD Dy.zero)] t2) s)

/-- RLRN: a teaching error at the learning index of the last live RRD of the reel (R143). -/
def execRlrn (e : Fin 24) (fault : Option Word) (s : State) : Out :=
  .next (lawOp e.val 0x1A (fun _ _ => []) (fun _ t => t)
    (fun w t =>
      let r := bits w 0 6
      let g := t.eng e.val
      let x := (t.lawReads e.val).x (opA w)
      let own : Dy := ⟨g.sign * x.m, x.e⟩
      let err := (fault.map (fun f => ofMant (sgn 36 f.toNat) (g.pass.seOf (opA w)))).getD own
      let idx := (g.pass.played.find? (fun q => q.1 == r)).map (fun q => q.2.1)
      let bound := (g.reelOf r).isSome
      addEffect e.val (.rlrn r err bound idx) (if bound then t else reelUnbound e.val r t)) s)

end Sys2Proof.Machine
end

