-- ==== Sys2Proof/Machine/Engines.lean ====
section
/-! DEFINITION. Loop engines: memory and owner writes, triggers, commands, the checks of LOAD and ARM, and failover (R100,
R114 to R117, R123 to R133). -/

namespace Sys2Proof.Machine

/-! ### Memory and registers -/

/-- R100: a bus write to an engine's memory at an offset of its window. -/
def engMemWrite (agent e off v : Nat) (s : State) : State :=
  let own := s.get (LE.CTRL.OWNER e)
  let state := decide (0x800 ≤ off) && decide (off < 0xC00)
  if own != 0 && own == agent && (s.engIs e 0 || (state && s.engIs e 1)) then
    (if state then putEngState e (off - 0x800) v s else s.store (engBase e + off) v).answer agent .ok 0 0
  else s.answer agent .busOwn 0 0

/-- R133: the locked fields of CTRL, TRIG and IMG. -/
def State.engLocked (s : State) (e : Nat) : Bool := !(s.engIs e 0 || s.engIs e 1)

/-- The fields of an LEee.CTRL write beside OWNER (R133). -/
def engCtrlFields (e v : Nat) (s : State) : State :=
  if s.engLocked e then
    s.putIf (bits v 27 1 != s.get (LE.CTRL.REL e) || bits v 26 1 != s.get (LE.CTRL.FOVR e)) (LE.STATUS.WREJ e) 1
  else (s.put (LE.CTRL.REL e) (bits v 27 1)).put (LE.CTRL.FOVR e) (bits v 26 1)

/-- R129, R7: a write to LEee.CTRL. -/
def engCtrlWrite (agent e v : Nat) (s : State) : State :=
  let own := s.get (LE.CTRL.OWNER e)
  let new := bits v 28 8
  if own = 0 then
    if !validOwner s.split new then s.answer agent .ok 0 0
    else if new = agent ∧ agent ≠ 0 then
      (engCtrlFields e v (s.put (LE.CTRL.OWNER e) agent)).answer agent .ok 0 0
    else s.answer agent .busOwn 0 0
  else if own ≠ agent then s.answer agent .busOwn 0 0
  else if new = 0 then
    if s.engIs e 0 || s.engIs e 3 then (engCtrlFields e v (s.put (LE.CTRL.OWNER e) 0)).answer agent .ok 0 0
    else s.answer agent .busOwn 0 0
  else (engCtrlFields e v (if validOwner s.split new then s.put (LE.CTRL.OWNER e) new else s)).answer agent .ok 0 0

/-! ### Triggers -/

/-- LAT_RETURN: the oldest LAT word on its way to an engine reaches it (R49). -/
def execLatReturn (e : Fin 24) (s : State) : Out :=
  .next (match s.latFlight.find? (fun q => q.1 == e.val) with
    | none => s
    | some q =>
      let g := s.eng e.val
      (s.setLatFlight (s.latFlight.erase q)).putEng e.val
        { g with lat := q.2 :: g.lat.filter (fun x => x.1 != q.2.1) })

/-- ENGINE_TRIGGER: the oldest trigger on its way to an engine reaches it (R114, R115). -/
def execEngineTrigger (e : Fin 24) (s : State) : Out :=
  if s.unsynced (4 + e.val / 3) then .next s else
  .next (match s.engTrigs.find? (fun q => q.1 == e.val) with
    | none => s
    | some q => engTrigger e.val q.2 (s.setEngTrigs (s.engTrigs.erase q)))

/-- RUN_DISPATCH: the trigger accepted while the engine was idle, or the held one, is dispatched (R115, R116). `err` is an
error that has struck the engine's memory by then (R101). -/
def execRunDispatch (e : Fin 24) (s0 : State) (err : Option (BitVec 12 × Bool × Bool) := none) : Out :=
  let s := engStrike e.val err s0
  let g := s.eng e.val
  .next (if !s.engIs e.val 2 || decide (g.phase ≠ 0) then s
    else match g.disp, g.held with
      | some t, _ => engDispatch e.val t s
      | none, some t => if g.disarm then s else engDispatch e.val t (s.putEng e.val { g with held := none })
      | none, none => s)

/-! ### LOAD (R113, R119, R125, R131) -/

/-- R107: how many registers in a row D, A and B of an op name. -/
def opGroups (opc : Nat) : Nat × Nat × Nat :=
  match opc with
  | 0x11 => (1, 1, 2)
  | 0x1C | 0x20 | 0x21 | 0x22 => (2, 2, 1)
  | 0x23 => (3, 2, 2)
  | _ => (1, 1, 1)

/-- R108: the opcodes that exist. -/
def opExists (opc : Nat) : Bool :=
  decide (opc ≤ 4) || (decide (8 ≤ opc) && decide (opc ≤ 0x16)) || [0x18, 0x19, 0x1A, 0x1C, 0x1D, 0x1E].contains opc ||
    (decide (0x20 ≤ opc) && decide (opc ≤ 0x23)) || (decide (0x28 ≤ opc) && decide (opc ≤ 0x2C)) ||
    (decide (0x30 ≤ opc) && decide (opc ≤ 0x35))

/-- R131: whether the op at address `i` makes LOAD refuse the law; `rep` is the end of the REP body it stands in. -/
def opRefused (e nops con st : Nat) (fast : Bool) (i w : Nat) (rep : Nat) : Bool :=
  let opc := opcOf w
  let gr := opGroups opc
  !opExists opc || (decide (0x30 ≤ opc) && decide (8 ≤ e)) || (fast && opc == 1) ||
    (opc == 2) != (i + 1 == nops) ||
    decide (64 < opD w + gr.1) || decide (64 < opA w + gr.2.1) || decide (64 < opB w + gr.2.2) ||
    match opc with
    | 3 => decide (10 < bits w 8 4) || decide (bits w 0 6 = 0) || decide (32 < bits w 0 6) ||
        decide (nops ≤ i + bits w 0 6 + 1)
    | 4 => decide (i < rep) || decide (nops ≤ i + repLen w + 1)
    | 0x18 => decide (bits w 0 4 = 0) || decide (9 < bits w 0 4) || decide (con ≤ bits w 8 10 + 2 ^ bits w 0 4)
    | 0x2A | 0x2B => decide (st ≤ bits w 0 10)
    | 0x2C => decide (con ≤ bits w 0 10)
    | 0x30 => decide (2 < opFN w)
    | _ => false

/-- R131: the first op that makes LOAD refuse the law; `rep` is the word after the REP body under way. -/
def firstRefused (e nops con st : Nat) (fast : Bool) : Nat → Nat → List Nat → Option Nat
  | _, _, [] => none
  | i, rep, w :: t =>
    if opRefused e nops con st fast i w rep then some i
    else firstRefused e nops con st fast (i + 1) (if opcOf w = 4 then i + repLen w + 1 else rep) t

/-- The counts of a law: n, c, effects, and the op at which a limit is passed. -/
structure LawCount where
  n    : Nat
  c    : Nat
  eff  : Nat
  excess : Option Nat

/-- R113, R119: walk a law in issue order, every REP at M iterations, at most `fuel` issues. -/
def countLaw (ops : List Nat) : Nat → LawPass → LawCount → LawCount
  | 0, _, k => k
  | f + 1, p, k =>
    match ops[p.pc]? with
    | none => k
    | some w =>
      let opc := opcOf w
      let eff := if opc = 0x29 ∨ opc = 0x2B ∨ opc = 0x1A then k.eff + 1 else k.eff
      let n := k.n + opWidth w
      if 65535 < n ∨ 256 < eff then { k with n := n, eff := eff, excess := some p.pc }
      else
        let k1 : LawCount := ⟨n, if opc = 0x29 then k.n + 1 else k.c, eff, none⟩
        if opc = 2 then k1 else countLaw ops f (if opc = 4 then p.startRep w 0 else p).advance k1

/-- R125: the restore time of a law of W words. -/
def restoreTime (w : Nat) : Nat := 200 + (10204 * (w + 16) + 9999) / 10000

/-- R125: W of the law that the registers describe. -/
def State.lawWords (s : State) (e : Nat) : Nat :=
  s.get (LE.LAW.NOPS e) + s.get (LE.LAW.CONLEN e) + s.get (LE.LAW.STLEN e)

/-- R131: what LOAD finds: the INFO of a refusal, or the counts of an accepted law. -/
def State.checkLaw (s : State) (e : Nat) : Sum Nat LawCount :=
  let nops := s.get (LE.LAW.NOPS e)
  let con := s.get (LE.LAW.CONLEN e)
  let st := s.get (LE.LAW.STLEN e)
  let fast := s.on (LE.LAW.FAST e)
  let ops := s.rds (engBase e) nops
  if nops = 0 ∨ 2048 < nops ∨ 1024 < con ∨ 1024 < st then .inl 0xFFF
  else if crc32Words (ops ++ s.rds (engConst e 0) con) ≠ s.get (LE.LAWCRC.CRC e) then .inl 0xFFF
  else if fast && decide (8 ≤ e) then .inl 0xFFF
  else match firstRefused e nops con st fast 0 0 ops with
    | some i => .inl i
    | none =>
      let k := countLaw ops 65537 LawPass.start ⟨0, 0, 1, none⟩
      match k.excess with
      | some i => .inl i
      | none => .inr k

/-- R127: the ports that a law's POUT ops name. -/
def poutPorts (ops : List Nat) : List Nat :=
  (List.range 96).filter (fun p => ops.any (fun w => opcOf w == 0x29 && bits w 11 7 == p))

/-- R101, R130: the negative image is set from the positive; the negation of an unreadable word is unreadable (DESIGN CHOICE,
log entry 113). -/
def negateImage (e : Nat) (s : State) : State :=
  let new := ((List.range 1024).map (fun i => (e * 1024 + i, negWord (s.rd (engState e i))))).filter (fun q => q.2 != 0)
  let bad := (s.marks.filter (fun m => inRow (engState e 0) 1024 m.1 && m.2)).map
    (fun m => (negAdr e (m.1 - engState e 0), true))
  (s.setEngNeg (s.engNeg.filter (fun q => decide (q.1 < e * 1024)) ++ new ++
    s.engNeg.filter (fun q => decide (e * 1024 + 1024 ≤ q.1)))).setMarks
    (s.marks.filter (fun m => !inRow (negAdr e 0) 1024 m.1) ++ bad)

/-- R101, R131: the op and constant words that LOAD checks. -/
def State.lawRow (s : State) (e a : Nat) : Bool :=
  inRow (engBase e) (s.get (LE.LAW.NOPS e)) a || inRow (engConst e 0) (s.get (LE.LAW.CONLEN e)) a

/-- LOAD's effect and its completion: status and INFO. Single-bit errors it meets are corrected (R101); an op or constant word
it cannot read makes it refuse the law as a differing CRC does (DESIGN CHOICE, log entry 113). -/
def loadLaw (e : Nat) (s0 : State) : State × Nat × Nat :=
  let s := engFixWhere e (inRow (engBase e) 0x1000) s0
  if s.dueWhere (s.lawRow e) then (s, 4, 0xFFF) else
  match s.checkLaw e with
  | .inl info => (s, 4, info)
  | .inr k =>
    let s1 := ((negateImage e s).put (LE.CYC.NCYC e) k.n).put (LE.CYC.CPO e) k.c
    let s2 := engEnter e 1 (s1.put (LE.TR.TR e) (restoreTime (s.lawWords e)))
    (s2.putEng e
      { s2.eng e with ports := poutPorts (s.rds (engBase e) (s.get (LE.LAW.NOPS e))), backed := false, mirror := [] }, 0, 0)

/-! ### ARM (R114, R123) -/

/-- R123: the backing region lies in a bank. -/
def imgValid (adr : Nat) : Bool := decide (0x01000000 ≤ adr) && decide (adr < 0x01100000) && adr % 0x1000 == 0

/-- R123: the words of the backing copy and where they go. -/
def backingWrites (e : Nat) (s : State) : Got :=
  let me := ownEngine e
  let base := s.get (LE.IMG.ADDR e)
  let g1 := bankWrites me base (s.rds (engBase e) (s.get (LE.LAW.NOPS e))) s
  if g1.resp ≠ .ok then g1
  else
    let g2 := bankWrites me (base + 0x800) (s.rds (engState e 0) (s.get (LE.LAW.STLEN e))) g1.st
    if g2.resp ≠ .ok then g2
    else
      let g3 := bankWrites me (base + 0xC00) (s.rds (engConst e 0) (s.get (LE.LAW.CONLEN e))) g2.st
      if g3.resp ≠ .ok then g3 else bankWrites me (base + 0x7FE) [0, 0] g3.st

/-- R114: the trigger that TRIG names exists; KIND 3 to 7 act as 0. -/
def State.trigValid (s : State) (e : Nat) : Bool :=
  let num := s.get (LE.TRIG.NUM e)
  match s.get (LE.TRIG.KIND e) with
  | 1 => decide (num < 32)
  | 2 => decide (96 ≤ num) && decide (num ≤ 143)
  | _ => true

/-- R101, R123: the words that ARM copies. -/
def State.armRow (s : State) (e a : Nat) : Bool :=
  s.lawRow e a || inRow (engState e 0) (s.get (LE.LAW.STLEN e)) a

/-- ARM's effect and its completion; a word it cannot read refuses the copy (DESIGN CHOICE, log entry 113). -/
def armLaw (e : Nat) (s : State) : State × Nat × Nat :=
  let ready (t : State) (copy : Bool) : State × Nat × Nat :=
    ((engEnter e 2 (t.put (LE.RUNS.RUNS e) 0)).putEng e { t.eng e with backed := copy, mirror := [] }, 0, 0)
  if !s.trigValid e then (s, 4, 0)
  else if !s.on (LE.CTRL.FOVR e) then ready s false
  else if 2046 < s.get (LE.LAW.NOPS e) ∨ !imgValid (s.get (LE.IMG.ADDR e)) then (s, 4, 0)
  else
    let s1 := engFixWhere e (s.armRow e) s
    if s1.dueWhere (s.armRow e) then (s1, 4, 0)
    else
      let g := backingWrites e s1
      if g.resp = .ok then ready g.st true else (g.st, 4, 0)

/-! ### Commands (R130) -/

/-- A completion in RESULT. -/
def engResult (e code status info : Nat) (pending : Bool) (s : State) : State :=
  ((((s.put (LE.RESULT.STATUS e) status).put (LE.RESULT.STATE e) (s.get (LE.STATUS.STATE e))).put (LE.RESULT.INFO e) info).putB
    (LE.RESULT.PENDING e) pending).put (LE.RESULT.CODE e) code

/-- A long command is under way; its completion stands ready for ENGINE_COMMAND_DONE. -/
def engLong (e code : Nat) (r : State × Nat × Nat) : State :=
  let s := r.1
  (((s.putEng e { s.eng e with cmd := some (code, r.2.1, r.2.2) }).put (LE.RESULT.PENDING e) 1).put (LE.RESULT.CODE e) code)

/-- The state a command is legal in. -/
def engLegal (code : Nat) : Option Nat :=
  match code with
  | 1 => some 0
  | 2 => some 1
  | 3 => some 1
  | 4 => some 2
  | 5 => some 2
  | 6 => some 0
  | 7 => some 3
  | 8 => some 5
  | _ => none

/-- The effect of a legal command. FIRE triggers nothing in an island that waits for its sync word (R20). -/
def engDo (e code : Nat) (s : State) : State :=
  match code with
  | 1 => engLong e 1 (loadLaw e s)
  | 2 => engResult e 2 0 0 false (engEnter e 0 s)
  | 3 => engLong e 3 (armLaw e s)
  | 4 =>
    let g := s.eng e
    let s1 := s.putEng e { g with held := none, disarm := true }
    engLong e 4 (engFlags e (if g.phase = 0 ∧ g.disp.isNone then runEnds e s1 else s1), 0, 0)
  | 5 => engResult e 5 0 0 false (if s.unsynced (4 + e / 3) then s else engTrigger e s.stamp s)
  | 6 => engResult e 6 0 0 false (engEnter e 3 s)
  | 7 => engResult e 7 0 0 false (engEnter e 0 s)
  | _ => engLong e 8 ((engEnter e 6 s).putEng e { s.eng e with due := s.t + 750000 }, 0, 0)

/-- R129, R130: a command written to LEee.CMD. While a wipe holds the engines in reset it does nothing (R354). -/
def engCommand (agent e code : Nat) (s : State) : State :=
  if s.get (LE.CTRL.OWNER e) ≠ agent ∨ agent = 0 then s.answer agent .busOwn 0 0
  else if s.flash.wipe then s.answer agent .ok 0 0
  else
    (if (s.eng e).cmd.isSome then engResult e code 8 0 true s
     else match engLegal code with
      | none => engResult e code 4 0 false s
      | some st => if s.engIs e st then engDo e code s else engResult e code 1 0 false s).answer agent .ok 0 0

/-- ENGINE_COMMAND_DONE: LOAD, ARM or DISARM finishes and its completion stands in RESULT (R130). -/
def execEngineCommandDone (e : Fin 24) (s : State) : Out :=
  let g := s.eng e.val
  .next (match g.cmd with
    | none => s
    | some (code, st, info) =>
      if code = 8 ∨ g.disarm then s
      else engResult e.val code st info false (s.putEng e.val { g with cmd := none }))

/-- ENGINE_LBIST_DONE: the LBIST of RETEST ends, 0.5 ms after its start (R130). -/
def execEngineLbistDone (e : Fin 24) (pass : Bool) (s : State) : Out :=
  let g := s.eng e.val
  .next (if !s.engIs e.val 6 then s
    else
      let s1 := (s.advanceTo g.due).putEng e.val { g with cmd := none }
      let s2 := if pass then engEnter e.val 3 s1 else (engEnter e.val 5 s1).report .lbistFail (elEngine e.val) 0
      engResult e.val 8 0 0 false s2)

/-! ### Failover (R124 to R127, R147) -/

/-- R124: the spare that a law goes to. -/
def State.spareFor (s : State) (fast : Bool) : Option Nat :=
  let low := List.range 8
  let high := (List.range 24).drop 8
  (if fast then low else high ++ low).find? (fun q => s.engIs q 3)

/-- What the spare loads: law ops, constants and state words. -/
structure Moved where
  ops    : List Nat
  consts : List Nat
  words  : List Nat

/-- R124: a state word of the failed engine that reads without error and agrees with its negative; none can be read from an engine
whose island is lost or without power (`up` false). -/
def State.goodWord (s : State) (e : Nat) (up : Bool) (i : Nat) : Option Nat :=
  let w := s.rd (engState e i)
  if !up || s.due (engState e i) || s.due (negAdr e i) || s.engNegW e i != negWord w then none else some w

/-- R124: a state word of the backing copy. -/
def backWord (e i : Nat) (s : State) : Option Nat × State :=
  let g := bankRead (ownEngine e) (s.get (LE.IMG.ADDR e) + 0x800 + i) s
  (if g.resp = .ok then some g.val else none, g.st)

/-- R124, R127: state words `i` to `i + n − 1`: a word that the interrupted mirror writes were to write (`dirty`) comes from the failed
engine's image, every other from the backing copy; where that source cannot give it, the other does. -/
def restoreWords (e : Nat) (up : Bool) (dirty : List Nat) (i n : Nat) (s : State) : Option (List Nat) × State :=
  match n with
  | 0 => (some [], s)
  | k + 1 =>
    let img := s.goodWord e up i
    let r := if dirty.contains i && img.isSome then (img, s) else backWord e i s
    match r.1.or img with
    | none => (none, r.2)
    | some w =>
      let t := restoreWords e up dirty (i + 1) k r.2
      (t.1.map (fun l => w :: l), t.2)

/-- R124: what the spare can load, with the reads of the backing copy. A law-op or constant word that cannot be read loses the law as a
state word does (DESIGN CHOICE, log 145). -/
def restoreData (e : Nat) (up : Bool) (s : State) : Option Moved × State :=
  let me := ownEngine e
  let base := s.get (LE.IMG.ADDR e)
  let (ops, s1) := bankReads me base (s.get (LE.LAW.NOPS e)) s
  let (cons, s2) := bankReads me (base + 0xC00) (s.get (LE.LAW.CONLEN e)) s1
  let (seqs, s3) := bankReads me (base + 0x7FE) 2 s2
  let whole := match seqs with
    | some [a, b] => a == b
    | _ => false
  let (words, s4) := restoreWords e up (if whole then [] else (s.eng e).mirror) 0 (s.get (LE.LAW.STLEN e)) s3
  (match ops, cons, words with
    | some o, some c, some w => some ⟨o, c, w⟩
    | _, _, _ => none, s4)

/-- R124: an engine's bit in every set's DEST, scheduled triggers included. -/
def moveBit (v e q : Nat) : Nat := if bitOf v e then (v - 2 ^ e) ||| 2 ^ q else v

def moveDest (e q : Nat) (s : State) : State :=
  (List.range 32).foldl (fun t n =>
    let b := t.sampSet n
    let fix (x : Trig) : Trig := { x with dest := moveBit x.dest e q }
    (t.put (SS.DEST.ENG n) (moveBit (t.get (SS.DEST.ENG n)) e q)).putSampSet n
      { b with
        wait := b.wait.map fix
        acq := b.acq.map (fun a => { a with trig := fix a.trig })
        done := b.done.map (fun d => (fix d.1, d.2)) }) s

/-- R124, R155: every port that named the failed engine names the spare. -/
def moveSources (e q : Nat) (s : State) : State :=
  (List.range 96).foldl (fun t p =>
    if t.get (GP.CTRL.WSRC p) == ownEngine e then t.put (GP.CTRL.WSRC p) (ownEngine q) else t) s

/-- R147: every enabled reel that named the failed engine names the spare, which is owed a window. -/
def moveReels (e q : Nat) (s : State) : State :=
  (List.range 64).foldl (fun t r =>
    if t.on (RL.CTRL.EN r) && t.get (RL.CTRL.ENG r) == e then
      let x := t.reel r
      ((t.put (RL.CTRL.ENG r) q).put (RL.STATUS.WIN r) 0).putReel r
        { x with win := none, req := if x.last.isSome then [(x.hat, (t.reelQ.filter (fun u => u.1 == r)).length)] else [], first := x.last.isNone }
    else t) s

/-- R124: the registers the spare takes over. -/
def moveRegs (e q : Nat) (s : State) : State :=
  let copy (a b : FRef) (t : State) : State := t.put b (s.get a)
  let s1 := copy (LE.CTRL.OWNER e) (LE.CTRL.OWNER q) (copy (LE.CTRL.REL e) (LE.CTRL.REL q)
    (copy (LE.CTRL.FOVR e) (LE.CTRL.FOVR q) (copy (LE.TRIG.KIND e) (LE.TRIG.KIND q) (copy (LE.TRIG.NUM e) (LE.TRIG.NUM q) s))))
  let s2 := copy (LE.LAW.NOPS e) (LE.LAW.NOPS q) (copy (LE.LAW.CONLEN e) (LE.LAW.CONLEN q)
    (copy (LE.LAW.STLEN e) (LE.LAW.STLEN q) (copy (LE.LAW.FAST e) (LE.LAW.FAST q)
      (copy (LE.LAWCRC.CRC e) (LE.LAWCRC.CRC q) (copy (LE.IMG.ADDR e) (LE.IMG.ADDR q) s1)))))
  (List.range 16).foldl (fun t k => copy (LE.PARAM.PARAM e k) (LE.PARAM.PARAM q k) t) s2

/-- R124: the law moves to the spare, which enters RESTORING. -/
def moveLaw (e q : Nat) (m : Moved) (s : State) : State :=
  let s1 := moveReels e q (moveSources e q (moveDest e q (moveRegs e q s)))
  let b := (s.get (LE.IMG.ADDR e) - 0x01000000) / 0x4000
  let s2 := (s1.put (BANKS.OWNER.OWNER b) (ownEngine q)).stores (engBase q) m.ops
  let s3 := s2.stores (engConst q 0) m.consts
  let s4 := (m.words.zipIdx).foldl (fun t w => putEngState q w.2 w.1 t) s3
  let g := s.eng e
  let fresh := EngSt.atReset q
  (engEnter q 4 s4).putEng q
    { fresh with
      agreed := g.agreed
      ports := g.ports
      backed := true
      mirror := g.mirror
      due := if s.island (4 + q / 3) = 0 then g.redAt + restoreTime (s.lawWords e) else 0 }

/-- R127: the law is lost: its ports go safe. -/
def loseLaw (e : Nat) (s : State) : State :=
  (s.eng e).ports.foldl (fun t p =>
    let t1 := t.put (GP.STATUS.LOST p) 1
    (t1.ballsOf p).foldl (fun u q => forceSafe q u) t1) (s.report .lawLost (elEngine e) 0)

/-- The last failover, for ENGINES.FOLOG. -/
def foLog (e q result : Nat) (s : State) : State :=
  ((((s.put ENG.FOLOG.FROM e).put ENG.FOLOG.TO q).inc ENG.FOLOG.SEQ).put ENG.FOLOG.RESULT result).put ENG.FOSTAMP.STAMP
    (s.eng e).redAt

/-- R124, R127: the failover of a Red engine; `up`: its island has power and is not lost. -/
def engFailover (e : Nat) (up : Bool) (s : State) : State :=
  let g := s.eng e
  let s0 := s.putEng e { g with failing := 0 }
  match s.spareFor (s.on (LE.LAW.FAST e)) with
  | none => loseLaw e (foLog e 0 2 s0)
  | some q =>
    if g.failing ≠ 2 ∨ !s.on (LE.CTRL.FOVR e) then loseLaw e (foLog e 0 2 s0)
    else
      let (m, s1) := restoreData e up s0
      match m with
      | none => loseLaw e (foLog e 0 3 s1)
      | some m => moveLaw e q m (foLog e q 1 (wakeRequest (4 + q / 3) 3 0 s1))

/-- ENGINE_FAILOVER: an engine that has gone Red, or that loses its island now, hands its law to a spare (R124). -/
def execEngineFailover (e : Fin 24) (lost : Bool) (s : State) : Out :=
  let s1 := if lost && !s.engIs e.val 5 then engRed e.val .engineRed s else s
  .next (if (s1.eng e.val).failing = 0 then s1
    else engFailover e.val (!lost && decide (s1.island (4 + e.val / 3) < 2)) s1)

/-- R147: the reel unit still owes the engine a window. -/
def State.windowOwed (s : State) (e : Nat) : Bool :=
  (List.range 64).any (fun r => s.reelBound r e && (!(s.reel r).req.isEmpty || (s.reel r).first))

/-- RESTORE_DONE: the spare enters READY, TR after the Red decision, or after its island has reached White (R125, R367); the
windows of its reels come before (R147). -/
def execRestoreDone (e : Fin 24) (s : State) : Out :=
  let due := (s.eng e.val).due
  .next (if s.engIs e.val 4 && s.island (4 + e.val / 3) == 0 && !s.windowOwed e.val then
    engEnter e.val 2 (if due = 0 then s.elapse (restoreTime (s.lawWords e.val)) else s.advanceTo due)
  else s)

/-- A write to a register of LEee (R129, R133). -/
def engRegWrite (agent e off v : Nat) (s : State) : State :=
  let adr := LE.CTRL.adr e + off
  let mine := s.get (LE.CTRL.OWNER e) == agent && agent != 0
  match off with
  | 0 => engCtrlWrite agent e v s
  | 2 => engCommand agent e (bits v 0 4) s
  | 1 =>
    if mine then (s.writeReg adr v (s.engLocked e) (some (LE.STATUS.WREJ e))).answer agent .ok 0 0
    else s.answer agent .busOwn 0 0
  | 8 =>
    if mine then
      let t := s.writeReg adr v (s.engLocked e) (some (LE.STATUS.WREJ e))
      (if t.get (LE.IMG.ADDR e) = s.get (LE.IMG.ADDR e) then t
       else t.putEng e { t.eng e with backed := false }).answer agent .ok 0 0
    else s.answer agent .busOwn 0 0
  | 5 | 6 =>
    if mine then (s.writeReg adr v (!s.engIs e 0) (some (LE.STATUS.WREJ e))).answer agent .ok 0 0
    else s.answer agent .busOwn 0 0
  | 3 | 7 | 9 | 10 | 11 | 12 => s.answer agent .ok 0 0
  | 4 => (s.writeReg adr v false none).answer agent .ok 0 0
  | _ =>
    if mine then (s.writeReg adr v false none).answer agent .ok 0 0 else s.answer agent .busOwn 0 0

end Sys2Proof.Machine
end

