-- ==== Sys2Proof/Machine/Reels.lean ====
section
/-! DEFINITION. Reels: enable, play windows, learning updates, memory writes and the scrub (R134 to R147). -/

namespace Sys2Proof.Machine

/-- R134: the address of an entry. -/
def State.reelAdr (s : State) (r i : Nat) : Nat := 0x01200000 + s.get (RL.CTRL.BASE r) * 256 + i

/-- The first block of a reel and the block after its last. -/
def State.reelLo (s : State) (r : Nat) : Nat := s.get (RL.CTRL.BASE r)
def State.reelHi (s : State) (r : Nat) : Nat := s.get (RL.CTRL.BASE r) + 2 ^ s.get (RL.CTRL.SIZE r)

/-- R134: an entry of the pool belongs to a reel. -/
def State.reelHas (s : State) (r entry : Nat) : Bool :=
  decide (s.get (RL.CTRL.SIZE r) < 6) && decide (s.reelLo r * 256 ≤ entry) && decide (entry < s.reelHi r * 256)

/-- R138: the reel unit meets an entry: a single-bit error is corrected, an uncorrectable entry becomes 0. -/
def reelMeet (r a : Nat) (s : State) : State :=
  match s.markAt a with
  | none => s
  | some false => (s.unmark a).report .reelEcc (elReel r) 0
  | some true => ((s.store a 0).put (RL.STATUS.DUE r) 1).report .reelDue (elReel r) 0

def reelMeetAll (r : Nat) (as : List Nat) (s : State) : State := as.foldl (fun t a => reelMeet r a t) s

/-! ### What stands now (R145) -/

/-- R145: channel CH is invalid, faulted or stopped. -/
def State.reelFch (s : State) (r : Nat) : Bool :=
  let c := s.get (RL.CTRL.CH r)
  !s.on (PF.STATUS.VALID c) || s.on (PF.STATUS.PFAULT c) || (s.pf c).stopped

/-- R145: the speed lies outside the window. -/
def State.reelFspd (s : State) (r : Nat) : Bool :=
  let v := (s.pf (s.get (RL.CTRL.CH r))).spd.natAbs
  decide (v < s.get (RL.SPMIN.SPMIN r)) || decide (s.get (RL.SPMAX.SPMAX r) < v)

/-- R145: a reason to freeze learning stands. -/
def State.reelFrozen (s : State) (r : Nat) : Bool := !s.on (RL.CTRL.LEARN r) || s.reelFch r || s.reelFspd r

/-- STATUS as a read shows it: the conditions of R145 as they stand, whether the reel is enabled or not. The stored fields hold
their reset values until the first access of the reel's registers. -/
def reelRefresh (r : Nat) (s : State) : State :=
  (((s.putB (RL.STATUS.FLRN r) (!s.on (RL.CTRL.LEARN r))).putB (RL.STATUS.FCH r) (s.reelFch r)).putB
    (RL.STATUS.FSPD r) (s.reelFspd r)).putB (RL.STATUS.LEARNING r) (s.on (RL.CTRL.EN r) && !s.reelFrozen r)

/-! ### Enable and disable (R135, R136, R146) -/

/-- R136: two reels share an entry. -/
def State.reelsOverlap (s : State) (r q : Nat) : Bool := decide (s.reelLo r < s.reelHi q) && decide (s.reelLo q < s.reelHi r)

/-- R136, R148: the reel that stands in the way: the reel itself while its transfer runs, else the lowest enabled reel that is
overlapped. A SIZE of 6 or 7 gives the reel no entries that could overlap. -/
def State.reelOvlp (s : State) (r : Nat) : Option Nat :=
  if s.xfer.any (fun x => x.reel == r) then some r
  else if 6 ≤ s.get (RL.CTRL.SIZE r) then none
  else (List.range 64).find? (fun q => q != r && s.on (RL.CTRL.EN q) && s.reelsOverlap r q)

/-- R136: the reasons beside overlaps why an enable is refused. -/
def State.reelBad (s : State) (r : Nat) : Bool :=
  let size := s.get (RL.CTRL.SIZE r)
  let base := s.get (RL.CTRL.BASE r)
  let eng := s.get (RL.CTRL.ENG r)
  decide (6 ≤ size) || base % 2 ^ size != 0 || decide (256 < base + 2 ^ size) || decide (24 ≤ eng) ||
    decide (4 ≤ ((List.range 64).filter (fun q => s.on (RL.CTRL.EN q) && s.get (RL.CTRL.ENG q) == eng)).length)

/-- R135, R136: an enable attempt. -/
def reelEnable (agent r : Nat) (s : State) : State :=
  if s.reelBad r || (s.reelOvlp r).isSome then (s.put (RL.STATUS.CFGERR r) 1).put (RL.STATUS.OVLP r) ((s.reelOvlp r).getD 0)
  else
    let s1 := ((s.put (RL.STATUS.CFGERR r) 0).put (RL.STATUS.OVLP r) 0).put (RL.STATUS.ACTIVE r) 1
    let s2 := ((s1.put (RL.CNT.MISSCNT r) 0).put (RL.CNT.FRZCNT r) 0).put (RL.CNT.DROPCNT r) 0
    ((s2.put (RL.CTRL.EN r) 1).put (RL.CTRL.OWNER r) agent).putReel r
      ⟨none, [], true, none, 0, false, (s.reel r).gen + 1⟩

/-- R146: clearing EN discards the reel's updates and windows. -/
def reelDisable (r : Nat) (s : State) : State :=
  let s1 := ((s.put (RL.CTRL.EN r) 0).put (RL.CTRL.OWNER r) 0).put (RL.STATUS.ACTIVE r) 0
  ((s1.put (RL.STATUS.WIN r) 0).setReelQ (s.reelQ.filter (fun q => q.1 != r))).putReel r
    ⟨none, [], false, none, 0, false, (s.reel r).gen + 1⟩

/-- The fields of an RLnn.CTRL write beside OWNER and EN (R135). -/
def reelCtrlFields (r v : Nat) (s : State) : State :=
  let s1 := (s.put (RL.CTRL.SMOOTH r) (bits v 3 1)).put (RL.CTRL.LEARN r) (bits v 2 1)
  if s.on (RL.CTRL.EN r) then
    s1.putIf (bits v 23 5 != s.get (RL.CTRL.ENG r) || bits v 19 4 != s.get (RL.CTRL.CH r) ||
      bits v 16 3 != s.get (RL.CTRL.SIZE r) || bits v 8 8 != s.get (RL.CTRL.BASE r)) (RL.STATUS.WREJ r) 1
  else
    (((s1.put (RL.CTRL.ENG r) (bits v 23 5)).put (RL.CTRL.CH r) (bits v 19 4)).put (RL.CTRL.SIZE r) (bits v 16 3)).put
      (RL.CTRL.BASE r) (bits v 8 8)

/-- R55, R135: a write to RLnn.CTRL. -/
def reelCtrlWrite (agent r v : Nat) (s : State) : State :=
  if !ownerGate (s.get (RL.CTRL.OWNER r)) agent then s.answer agent .busOwn 0 0
  else
    let s1 := reelCtrlFields r v s
    let s2 :=
      if bitOf v 0 then
        (if s.on (RL.CTRL.EN r) then s1.handOver (RL.CTRL.OWNER r) (bits v 28 8) else reelEnable agent r s1)
      else if s.on (RL.CTRL.EN r) then reelDisable r s1 else s1
    (reelRefresh r s2).answer agent .ok 0 0

/-- R55, R135: a write to LRN, LIMIT, SPMIN or SPMAX. -/
def reelParWrite (agent r adr v : Nat) (s : State) : State :=
  if ownerGate (s.get (RL.CTRL.OWNER r)) agent then
    (reelRefresh r (s.writeReg adr v (s.on (RL.CTRL.EN r)) (some (RL.STATUS.WREJ r)))).answer agent .ok 0 0
  else s.answer agent .busOwn 0 0

/-! ### Reel memory (R137) -/

/-- R137: the agent may write an entry of the pool. -/
def State.reelMay (s : State) (agent entry : Nat) : Bool :=
  let own := (List.range 64).filter (fun r => s.reelHas r entry)
  agent != 0 && !own.any (fun r => s.on (RL.CTRL.EN r)) && own.any (fun r => s.get (RL.CTRL.OWNER r) == agent)

/-- R137: a bus write to reel memory. -/
def reelMemWrite (agent entry v : Nat) (s : State) : State :=
  if s.reelMay agent entry then (s.store (0x01200000 + entry) v).answer agent .ok 0 0 else s.answer agent .busOwn 0 0

/-- The reel an entry of the pool is met for: an enabled one before any other; of several disabled ones the lowest, and of none RL00
(DESIGN CHOICE, log 146). -/
def State.reelAt (s : State) (entry : Nat) : Nat :=
  match (List.range 64).find? (fun r => s.on (RL.CTRL.EN r) && s.reelHas r entry) with
  | some r => r
  | none => ((List.range 64).find? (fun r => s.reelHas r entry)).getD 0

/-- REEL_SCRUB: the scrub meets one entry of the pool; `err` is an error that has struck a word of it before (R138). -/
def execReelScrub (entry : BitVec 16) (err : Option (Addr × Bool)) (s : State) : Out :=
  let s1 := s.strike err 0x01200000 0x01210000
  .next (reelMeet (s1.reelAt entry.toNat) (0x01200000 + entry.toNat) s1)

/-! ### Windows (R142) -/

/-- R142: the entry the next window is centred on. -/
def State.reelCentre (s : State) (r : Nat) : Nat :=
  let x := s.reel r
  let n := s.reelN r
  if x.first then
    (((s.pfAngle (s.get (RL.CTRL.CH r)) * n / 2 ^ 20 : Nat) : Int) + sgn 12 (s.get (RL.LRN.LEAD r))) % (n : Int) |>.toNat
  else ((x.req.head?.map (fun q => q.1)).getD x.hat) % n

/-- R142: a window is computed from the entries and delivered. -/
def reelWindow (r : Nat) (s : State) : State :=
  let n := s.reelN r
  let first := (s.reelCentre r + n - 7) % n
  let as := (List.range 16).map (fun k => s.reelAdr r ((first + k) % n))
  let s1 := reelMeetAll r as s
  let w : Window := ⟨first, as.map s1.rd, n, sgn 12 (s.get (RL.LRN.LEAD r)), sgn 8 (s.get (RL.LRN.REXP r))⟩
  let x := s1.reel r
  (s1.put (RL.STATUS.WIN r) 1).putReel r { x with win := some w, req := if x.first then x.req else x.req.drop 1, first := false }

/-- R142: a window of the reel can be delivered: the first one after enable, or one whose run's updates have been applied. -/
def ReelSt.ready (x : ReelSt) : Bool := x.first || x.req.head?.any (fun q => q.2 == 0)

/-- REEL_WINDOW: the reel unit delivers the oldest window it owes, after the updates of its run (R142, R147). -/
def execReelWindow (r : Fin 64) (s : State) : Out :=
  .next (if s.on (RL.CTRL.EN r.val) && (s.reel r.val).ready then reelWindow r.val s else s)

/-! ### Learning (R144) -/

/-- R144: the new value of entry `i`, each division and product rounded half away from zero. -/
def State.reelLearn (s : State) (r i : Nat) (err : Dy) : Int :=
  let n := s.reelN r
  let q (j : Nat) : Int := wordMant (s.rd (s.reelAdr r j))
  let base := if s.on (RL.CTRL.SMOOTH r) then roundAway (q ((i + n - 1) % n) + 2 * q i + q ((i + 1) % n)) 4 else q i
  let g : Dy := ⟨(s.get (RL.LRN.GAIN r) : Nat), -16⟩
  base + (g.mul err).round (35 - sgn 8 (s.get (RL.LRN.REXP r)))

/-- R144: apply one update, or count it as frozen. -/
def reelUpdate (r i : Nat) (err : Dy) (s : State) : State :=
  if s.reelFrozen r then s.incSat (RL.CNT.FRZCNT r)
  else
    let n := s.reelN r
    let as := if s.on (RL.CTRL.SMOOTH r) then [(i + n - 1) % n, i, (i + 1) % n] else [i]
    let s1 := reelMeetAll r (as.map (s.reelAdr r)) s
    let v := s1.reelLearn r i err
    let lim : Int := (s1.get (RL.LIMIT.LIMIT r) : Nat)
    let m := clampInt (-lim) lim v
    let s2 := (s1.store (s1.reelAdr r i) (unsgn 36 m)).inc (RL.UPD.UPD r)
    s2.putIf (decide (m ≠ v)) (RL.STATUS.SAT r) 1

/-- R150: a save holds the queue. -/
def State.saving (s : State) : Bool := s.xfer.any (fun x => x.cmd == 1 || x.cmd == 3)

/-- R142: one update fewer comes before the windows that the reel is owed. -/
def nearWindows (r : Nat) (s : State) : State :=
  s.putReel r { s.reel r with req := (s.reel r).req.map (fun q => (q.1, q.2 - 1)) }

/-- REEL_UPDATE: the reel unit takes an update from its queue (R144, R145). -/
def execReelUpdate (s : State) : Out :=
  .next (match s.reelQ with
    | [] => s
    | (r, i, err) :: rest =>
      if s.saving then s else reelUpdate r i err (nearWindows r (s.setReelQ rest)))

end Sys2Proof.Machine
end

