-- ==== Sys2Proof/Machine/Store.lean ====
section
/-! DEFINITION. The commands of the record store and its own work (R346 to R349). -/

namespace Sys2Proof.Machine

/-- R346: a command that the owner gives, with REC and LEN as they stand; the store's erase halts for it (R349). -/
def recordCommand (cmd : Nat) (s : State) : State :=
  let r := s.get FLASH.RSCTL.REC
  let len := s.get FLASH.RSCTL.LEN
  let st := s.get FLASH.RSSTAT.STATE
  let pend := s.on FLASH.RSRES.PENDING
  if s.flash.wipe || pend then recordDone 8 0 pend 0 r 0 cmd s
  else if cmd = 0 ∨ 3 < cmd then recordDone 4 0 false 0 r 0 cmd s
  else if (cmd = 2 ∧ len = 0) ∨ (cmd ≠ 1 ∧ 48 ≤ r) then recordDone 4 0 false 0 r 0 cmd s
  else if !(st == 2 || (st == 3 && cmd == 1)) then recordDone 1 0 false 0 r 0 cmd s
  else
    let data := if cmd = 2 then (List.range len).map (fun j => s.get (FLASH.RSBUF.DATA j)) else []
    ((s.put FLASH.RSRES.PENDING 1).setRecs { s.recs with cmd := some ⟨cmd, r, data⟩ }).putFlash s.flash

/-- R346, R457: the REC and LEN fields of a RSCTL write. -/
def recordFields (v : Nat) (s : State) : State :=
  if s.on FLASH.RSRES.PENDING then
    s.putIf (bits v 10 6 != s.get FLASH.RSCTL.REC || bits v 4 4 != s.get FLASH.RSCTL.LEN) FLASH.RSSTAT.WREJ 1
  else (s.put FLASH.RSCTL.REC (bits v 10 6)).put FLASH.RSCTL.LEN (bits v 4 4)

/-- R346: a write to FLASH.RSCTL. A write that claims, hands over or releases the word with CMD = 0 gives no command. -/
def recordCtlWrite (agent v : Nat) (s : State) : State :=
  let own := s.get FLASH.RSCTL.OWNER
  let new := bits v 28 8
  let cmd := bits v 0 4
  let s0 := if validOwner s.split new then s.put FLASH.RSCTL.OWNER new else s
  if own = 0 then
    if new = agent ∧ agent ≠ 0 then
      (let s1 := recordFields v s0
       if cmd = 0 then s1 else recordCommand cmd s1).answer agent .ok 0 0
    else if cmd = 0 then s0.answer agent .ok 0 0
    else s.answer agent .busOwn 0 0
  else if own ≠ agent then s.answer agent .busOwn 0 0
  else
    let s1 := recordFields v s0
    (if cmd = 0 ∧ new ≠ own then s1 else recordCommand cmd s1).answer agent .ok 0 0

/-- R346, R457: a write to RSBUF word `j`. -/
def recordBufWrite (agent j v : Nat) (s : State) : State :=
  if s.get FLASH.RSCTL.OWNER ≠ 0 ∧ s.get FLASH.RSCTL.OWNER = agent then
    (s.writeReg (FLASH.RSBUF.adr j) v (s.on FLASH.RSRES.PENDING) (some FLASH.RSSTAT.WREJ)).answer agent .ok 0 0
  else s.answer agent .busOwn 0 0

/-- A word with its low four bits replaced. -/
def withCmd (v cmd : Nat) : Nat := v / 16 * 16 + cmd

/-- R346: a transfer of a reel to or from records came before the record command under way. -/
def State.reelFirst (s : State) : Bool := s.xfer.any (fun x => (x.cmd == 3 || x.cmd == 4) && x.stat == 0 && !x.late)

/-- RECORD_CMD_DONE: the record command under way completes; a WRITE or DELETE waits while no erased slot is left, and any
command for a reel's transfer that came before it (R346, R347). -/
def execRecordCmdDone (s : State) : Out := .next (if s.reelFirst then s else recordEnd s)

/-- STORE_BUILD_DONE: the index is built, the last line is checked (`weak`: it is valid but below margin), and the store
enters READY (R348). -/
def execStoreBuildDone (weak : Bool) (s : State) : Out :=
  .next (if s.get FLASH.RSSTAT.STATE = 1 then storeBuild weak s else s)

/-- R349: an internal erase of a DFS sector starts. -/
def storeEraseStart (sec : Nat) (s : State) : State :=
  s.putFlash { s.flash with runs := s.flash.runs ++ [⟨3, [sec], .store, false⟩] }

/-- The place of a record's newest copy in the sector, or none. -/
def State.copyIn (s : State) (lo r : Nat) : Bool :=
  let a := Tab.get (fun _ => 0) s.recs.index r
  decide (lo ≤ a) && decide (a < lo + 0x400)

/-- R347, R349: copy forward the newest valid copies that the sector at `lo` holds, of the records given; none where the slots
run out. -/
def storeCopyOut (lo : Nat) (rs : List Nat) (s : State) : Option State :=
  match rs with
  | [] => some s
  | r :: t =>
    let g := storeFetch r s
    match g.1 with
    | some c => if g.2.copyIn lo r then (storeProgram c g.2).bind (storeCopyOut lo t) else storeCopyOut lo t g.2
    | none => storeCopyOut lo t g.2

/-- R328, R349: reclaim a sector: its copies go forward, and its header is read for ERASES. -/
def storeReclaim (sec : Nat) (s : State) : State :=
  let lo := secBase 3 sec
  match storeCopyOut lo ((s.recs.index.map (fun e => e.1)).filter (s.copyIn lo)) s with
  | none => s
  | some t =>
    let u := (lineRead lo t).2
    storeEraseStart sec (match u.header sec with
      | some h => u.setRecs { u.recs with wear := Tab.ins u.recs.wear sec (h.2 + 1) }
      | none => u)

/-- STORE_RECLAIM: a sector marked for erasure is erased, or, with fewer than 8 erased sectors ahead, the sector of lowest LAP
is copied forward and erased (R348, R349). -/
def execStoreReclaim (s : State) : Out :=
  .next (if s.get FLASH.RSSTAT.STATE ≠ 2 || !s.flash.eraseFree 3 then s
    else match s.recs.toErase with
      | sec :: _ => storeEraseStart sec s
      | [] =>
        if s.recs.ahead.length < 8 then
          match lowLap (s.lapSecs.filter (fun q => s.recs.active != some q.2)) with
          | some q => storeReclaim q.2 s
          | none => s
        else s)

end Sys2Proof.Machine
end

