-- ==== Sys2Proof/Machine/Resets.lean ====
section
/-! DEFINITION. What a reset of the logic die leaves: pulses of the flash that stop, and what a cold and a warm start keep
(R303, R325, R337, R338, R359, R381). -/

namespace Sys2Proof.Machine

/-! ### The flash stops (R337, R338, R359) -/

/-- R338: a line whose program was interrupted: it reads blank, corrected or uncorrectable, and is not blank; or the program
had just ended. The choice and the words are free. -/
def oddLine (a : Nat) (ws : List Nat) (s : State) : State :=
  let s1 := s.draw
  match Config.freeValue s.free % 4 with
  | 0 => s1.setFlash { s1.flash with odd := lineOf a :: s1.flash.odd }
  | 1 =>
    let u := (s1.setFree (s1.free + 16)).programLine a ((List.range 16).map (fun i => Config.freeValue (s1.free + i)))
    (u.mark (lineOf a) false).setFlash { u.flash with odd := lineOf a :: u.flash.odd }
  | 2 => (s1.mark (lineOf a) true).setFlash { s1.flash with odd := lineOf a :: s1.flash.odd }
  | _ => s1.programLine a ws

/-- The program under way stops at a line that the spec does not fix. -/
def stopProgram (s : State) : State :=
  match s.flash.prog with
  | none => s
  | some p =>
    let n := p.lines.length
    if n = 0 then s
    else
      let k := Config.freeValue s.free % n
      let s1 := s.draw.writeLines p.desc.addr (p.lines.take k)
      oddLine (p.desc.addr + 16 * k) (p.lines.getD k []) s1

/-- R338, R428: the line that LOAD was programming is interrupted. -/
def stopLoad (s : State) : State :=
  match s.flash.loadOp with
  | some (a, w :: ws) => oddLine a (w :: ws) s
  | _ => s

/-- R347: an interrupted line of the record store that reads as a copy or a header which no command wrote cannot be read. -/
def spoil (bad : Bool) (a : Nat) (s : State) : State := if bad then s.mark a true else s

/-- The line of a copy that a record command was programming is interrupted. -/
def oddCopy (s : State) : State :=
  match storeRoom s with
  | none => s
  | some t =>
    match t.recs.active with
    | none => t
    | some sec =>
      let a := secBase 3 sec + 16 * t.recs.point
      let u := oddLine a [] (t.setRecs { t.recs with point := t.recs.point + 1 })
      spoil (u.slotCopy a).isSome a u

/-- The header of a sector that a record command was activating is interrupted: the sector is to be erased (R348). -/
def oddHeader (s : State) : State :=
  match (storeRoom s).isSome && !(s.recs.active.isSome && decide (s.recs.point < 64)), s.recs.ahead with
  | true, sec :: t =>
    let u := oddLine (secBase 3 sec) [] (s.setRecs { s.recs with ahead := t, toErase := s.recs.toErase ++ [sec] })
    spoil (u.header sec).isSome (secBase 3 sec) u
  | _, _ => s

/-- R347: a record WRITE or DELETE under way stops: its copy is not written, written, or its line or its sector's header is
interrupted. -/
def stopRecord (s : State) : State :=
  match s.recs.cmd with
  | some c =>
    if c.cmd = 1 then s
    else
      let s1 := s.draw
      match Config.freeValue s.free % 4 with
      | 0 => s1
      | 1 =>
        match storeWrite c.rec_ c.data s1 with
        | some q => q.2
        | none => s1
      | 2 => oddCopy s1
      | _ => oddHeader s1
  | none => s

/-- R392: a TRIM IMPORT under way stops after some of records 49 to 60, and record 48 is not the new one; how many is free (DEDUCED, log
153). -/
def stopImport (s : State) : State :=
  match s.link.run with
  | none => s
  | some r =>
    let recs := trimOffered r.payload
    if r.cmd = 0x39 && s.get FLASH.RSSTAT.STATE == 2 && (s.trimFails (some recs)).isNone then
      (importRecords ((importList recs).take (1 + Config.freeValue s.free % 12)) s.draw).getD s.draw
    else s

/-- R337: the marker of every sector under erase stands: the sectors are torn. -/
def tornBy (r : EraseRun) : List (Nat × Nat × Bool) :=
  r.secs.map (fun x => (r.bank, x, match r.kind with | .spare => true | _ => false))

/-- R337, R342, R359: every flash pulse stops; descriptors, commands, copies and the queue of relocations are abandoned. -/
def flashStop (s : State) : State :=
  let s1 := stopImport (stopRecord (stopLoad (stopProgram s)))
  let f := s1.flash
  let torn := (f.runs.flatMap tornBy).filter (fun x => !f.torn.contains x)
  ((torn.foldl (fun u x => if x.2.2 then u else voidToken (secBase x.1 x.2.1) u) s1).setFlash
    { f with
      now := none
      prog := none
      loadOp := none
      runs := []
      copies := []
      torn := f.torn ++ torn
      queued := []
      dirty := f.dirty ++ (torn.filter (fun x => x.2.2)).map (fun x => (x.1, x.2.1)) ++ f.copies.map (fun c => (c.1, c.2.2)) }).setRecs { s1.recs with cmd := none }

/-! ### What stays (R361, R381) -/

/-- The fields of the power-and-port die that share a word with others. -/
def portDieFields : List FRef :=
  [PORTS.CUTSTAT.LATCH, PORTS.CUTSTAT.SCTU, PORTS.CUTSTAT.SIN, PORTS.CUTSTAT.SUV, PORTS.CUTSTAT.SHOST] ++
    (List.range 12).flatMap (fun g => [PG.GSTAT.TRIP g, PG.GSTAT.TRIPL g, PG.GSTAT.TLSRC g, PG.GSTAT.RED g, PG.GSTAT.PARITY g])

/-- R381: a field that every start keeps: SAFE registers, trip latches, SUPSTAT, SLEEPST and the CUT latch. -/
def keptAlways (k : Nat) : Bool :=
  let a := k / 64
  a == GAF.SUPSTAT.adr || a == GAF.SLEEPST.adr || (List.range 96).any (fun p => GP.SAFE.adr p == a) ||
    portDieFields.any (fun r => r.key == k)

/-- R381: fields a warm start keeps. -/
def warmFields : List FRef :=
  [CTU.STATUS.DISAGREE, CTU.STATUS.RED, CTU.STATUS.AMBER, PORTS.CUTSTAT.CUTCNT, PORTS.CUTSTAT.FIRST, TC.STATUS.EPOCH,
    TC.STATUS.LOCK, TC.STATUS.HOLDOVER, SAMP.STATUS.CALOK, SAMP.CAL.CALTEMP, SAMP.CAL.CALAGE, DBG.STATUS.LOCKOUT,
    DBG.STATUS.FAILS]

/-- R325: the recorder channels that a warm start keeps, while DDR4 is held in self-refresh. -/
def State.frozen (s : State) : List Nat :=
  if s.get DDR.STATUS.STATE = 2 ∨ s.get DDR.STATUS.STATE = 4
  then (List.range 32).filter (fun c => s.get (RUSH.STATUS.STATE c) == 4) else []

/-- R381: a field that a warm start keeps besides. -/
def State.keptWarm (s : State) (k : Nat) : Bool :=
  let a := k / 64
  (decide (0x020A0100 ≤ a) && decide (a < 0x020A0300)) || (decide (0x02031000 ≤ a) && decide (a < 0x02031800)) ||
    (decide (0x02030400 ≤ a) && decide (a < 0x02030500)) || a == CTU.LOGCTL.adr || a == DDR.CFG.adr || a == DDR.STATUS.adr ||
    a == FLASH.RSSTAT.adr || a == FLASH.RSWCNT.adr || a == FLASH.RSWEAR.adr || warmFields.any (fun r => r.key == k) ||
    s.frozen.any (fun c => (decide (RUSH.CTRL.adr c ≤ a) && decide (a < RUSH.CTRL.adr c + 0x10)) ||
      a == SYS.CLM.adr (s.rushRegion c) || a == SYS.FST.adr (rushFeature c))

/-- R18: what TIMECODE.STATUS shows of a count that began after the reset and before the cold start ran its steps. -/
def State.keptCount (s : State) (k : Nat) : Bool :=
  s.tcRun && [TC.STATUS.LOCK, TC.STATUS.HOLDOVER, TC.STATUS.REFLOST].any (fun r => r.key == k)

/-- R20: islands whose replica waits for a sync word after a start: those that waited before, and at a warm start those that
come back from Charcoal or Black. -/
def State.waitSync (s : State) (warm : Bool) : List Nat :=
  if warm then (List.range 32).filter (fun i => s.syncWait.contains i || (treeIsland i && decide (2 ≤ s.island i))) else []

/-- R381: the memories that a cold start clears: all but flash. -/
def logicMem (a : Nat) : Bool := decide (0x500000 ≤ a)

/-- R381: registers and the logic die's own state at a start, warm or cold; engines and cores that are RED stay RED in a
warm one. -/
def resetLogic (warm : Bool) (st : State) : State :=
  let s := flashStop st
  let red := (List.range 24).filter (fun e => s.engIs e 5)
  let base : State :=
    { State.reset with
      now := if warm || s.tcRun then s.now else 0
      tcRun := s.tcRun
      tcSaved := s.tcSaved
      syncWait := s.waitSync warm
      fields := s.fields.filter (fun e => keptAlways e.1 || (if warm then s.keptWarm e.1 else s.keptCount e.1))
      mem := if warm then s.mem else s.mem.filter (fun e => !logicMem e.1)
      marks := if warm then s.marks else s.marks.filter (fun e => !logicMem e.1)
      bus := s.bus
      reports := if warm then s.reports else []
      calGen := if warm then s.calGen else 0
      cut := { s.cut with ctuReq := false, noneReq := false, kaLoss := false }
      slateOut := s.slateOut
      link := { LinkSt.atReset with outs := s.link.outs }
      engNeg := if warm then s.engNeg else []
      patrol := if warm then s.patrol else 0
      ddrCap := if warm then s.ddrCap else 0
      flash := s.flash
      recs := if warm then s.recs else StoreSt.atReset
      ctu := { CtuSt.atReset with order := if warm then s.ctu.order else [], seq := if warm then s.ctu.seq else 0 }
      rushes := if warm then s.rushes.filter (fun e => s.frozen.contains e.1) else []
      gaf := { GafSt.atReset with marks := if warm then s.gaf.marks else none }
      power := s.power
      otp := s.otp
      boot := { s.boot with hand := none, region := none, recov := false, kick := false }
      free := s.free
      pending := s.pending }
  let s1 := if warm then red.foldl (fun u e => engEnter e 5 u) base else base
  let s2 := (List.range 96).foldl (fun u p => u.put (GP.STATUS.HCUT p) (s.get PORTS.CUTSTAT.LATCH)) s1
  (List.range 12).foldl (fun u g => refreshGroup g u) s2

/-- The cores that are RED, as a mask; a start keeps it through the reset of a warm start. -/
def State.redCores (s : State) : Nat :=
  (((List.range 8).filter (fun c => s.coreExists c && s.coreState c == 5)).map (2 ^ ·)).foldl (· + ·) 0

end Sys2Proof.Machine
end

