-- ==== Sys2Proof/Machine/Images.lean ====
section
/-! DEFINITION. Images, their verification, the token, the trim set and the configuration record (R390 to R398, R403). -/

namespace Sys2Proof.Machine

/-! ### Regions and headers (R393, R394) -/

def regionBase (r : Nat) : Nat := match r with | 0 => 0 | 1 => 0x200000 | 2 => 0x1E0000 | _ => 0x3E0000
def regionLen (r : Nat) : Nat := if r < 2 then 0x1E0000 else 0x20000

/-- R394: a field of the header of the image in a region. -/
def State.hdr (s : State) (r w lo n : Nat) : Nat := bits (s.rd (regionBase r + w)) lo n

def State.bodyLen (s : State) (r : Nat) : Nat := s.hdr r 5 0 32

/-- R393: words of an image: header, body, public key and signature. -/
def State.imageLen (s : State) (r : Nat) : Nat := 16 + s.bodyLen r + 648 + 1157

/-- R394, R395 reason 2: the image fits, ENTRY and EPA lie in the body, REC fits the region, and REQPAIR accepts the device. -/
def State.headerOk (s : State) (r : Nat) : Bool :=
  let lo := regionBase r + 16
  let hi := lo + s.bodyLen r
  let inBody (a : Nat) : Bool := decide (lo ≤ a) && decide (a < hi)
  decide (s.imageLen r ≤ regionLen r) && inBody (s.hdr r 3 0 32) && inBody (s.hdr r 4 0 32) &&
    (s.hdr r 6 1 1 == 1) == decide (2 ≤ r) && (s.hdr r 6 0 1 == 0 || !s.split)

/-- The 2,592 octets of the image's public key and the 4,627 octets of its signature. -/
def State.imageKey (s : State) (r : Nat) : List Nat := unpackOctets (s.rds (regionBase r + 16 + s.bodyLen r) 648)
def State.imageSig (s : State) (r : Nat) : List Nat :=
  (unpackOctets (s.rds (regionBase r + 16 + s.bodyLen r + 648) 1157)).take 4627

/-- R395 reason 6: the digest of header, body and key words. -/
def State.imageDig (s : State) (r : Nat) : Nat := Config.sha3Words (s.rds (regionBase r) (16 + s.bodyLen r + 648)) % 2 ^ 512

/-- The OTP digest of a key slot. -/
def State.slotKey (s : State) (k : Nat) : Option Nat := (s.otp.keys.getD k none)

/-- A sector of code flash reaches into the words from `lo` up to `hi`. -/
def secMeets (lo hi b sec : Nat) : Bool :=
  decide (b < 2) && decide (lo < secBase b sec + secWords b) && decide (secBase b sec < hi)

/-- R330, R395 reason 7: a read of the image ended with BUS_ECC or TORN, or met a torn sector. -/
def State.imageHurt (s : State) (r : Nat) : Bool :=
  let lo := regionBase r
  let hi := lo + s.imageLen r
  (s.markedLines lo hi).any (fun a => decide (4 ≤ s.lineErrors a)) ||
    s.flash.torn.any (fun x => !x.2.2 && secMeets lo hi x.1 x.2.1) ||
    s.flash.retired.any (fun x => secMeets lo hi x.1 x.2) ||
    s.flash.runs.any (fun x => decide (x.kind ≠ .spare) && x.secs.any (secMeets lo hi x.bank))

/-- R395: the first check that fails; `hash` tells whether the digests are computed (R398). -/
def State.imageReason (s : State) (r : Nat) (hash : Bool) : Option Nat :=
  let k := s.hdr r 1 0 2
  if s.hdr r 0 24 12 ≠ 0xB07 ∨ s.hdr r 0 16 8 ≠ 1 then some 1
  else if !s.headerOk r then some 2
  else if (s.slotKey k).isNone ∨ s.otp.revoked.contains k then some 3
  else if hash && decide (s.slotKey k ≠ some (Config.sha3 (s.imageKey r) % 2 ^ 512)) then some 4
  else if s.hdr r 2 0 7 < s.otp.arb then some 5
  else if hash && !Config.mldsaVerify (s.imageKey r) (s.imageSig r) (octets 64 (s.imageDig r)) Ctx.img.num then some 6
  else if hash && s.imageHurt r then some 7
  else none

/-- R328: reading the header's line corrects and counts the errors it meets. -/
def headerRead (r : Nat) (s : State) : State := (readLines (regionBase r) (regionBase r + 16) s).2

/-- R328, R395: reading the rest of the image: what the check that failed last, or was last of all, has read of it. -/
def imageRead (r : Nat) (why : Option Nat) (s : State) : State :=
  let lo := regionBase r
  match why with
  | some 1 | some 2 | some 3 => s
  | some 4 | some 5 => (readLines (lineOf (lo + 16 + s.bodyLen r)) (lo + 16 + s.bodyLen r + 648) s).2
  | _ => (readLines (lo + 16) (lo + s.imageLen r) s).2

/-- R395: a region is verified in full. -/
def verifyRegion (r : Nat) (s : State) : Option Nat × State :=
  (s.imageReason r true, imageRead r (s.imageReason r true) (headerRead r s))

/-- R398: after a verification that passes, the token names the region. -/
def giveToken (r : Nat) (s : State) : State :=
  (s.setBoot { s.boot with token := some ⟨r, s.imageDig r, s.hdr r 2 0 7⟩ }).put SEC.STATUS.TOKEN 1

/-! ### Choosing an image (R386, R398) -/

/-- R386: the regions tried, in order, by ATT. -/
def tryOrder (att pref : Nat) : List Nat :=
  match att with
  | 0 | 1 | 2 => [pref, 1 - pref]
  | 3 => [1 - pref, pref]
  | 4 => [2, 3]
  | _ => []

/-- R386, R395: the first region that passes; each that fails is reported. The flag tells that a token replaced hashing. -/
def chooseImage (token : Option Token) : List Nat → State → Option (Nat × Bool) × State
  | [], s => (none, s)
  | r :: t, s =>
    if token.any (fun k => k.region == r) && (s.imageReason r false).isNone then (some (r, true), headerRead r s)
    else
      let v := verifyRegion r s
      match v.1 with
      | none => (some (r, false), giveToken r v.2)
      | some why => chooseImage none t (v.2.report .slotInvalid 0 (r * 256 + why))

/-- R395, R396: the registers of the running image. -/
def runImage (r dig : Nat) (s : State) : State :=
  let s1 := ((s.put SEC.IMG.REGION r).put SEC.IMG.KEYSLOT (s.hdr r 1 0 2)).put SEC.IMG.SECVER (s.hdr r 2 0 7)
  ((putDigest SEC.IMGDIG.W dig s1).setImage (s.hdr r 3 0 32, s.hdr r 4 0 32)).setBoot { s1.boot with region := some r }

/-! ### The trim set (R390, R391) -/

/-- A start reads the newest valid copy of a record, whether or not the index is built yet. -/
def startRecord (r : Nat) (s : State) : Option (List Nat) × State :=
  match s.newest r with
  | none => (none, s)
  | some a =>
    let g := lineRead a s
    ((presentCopy (g.2.slotCopy a)).map (fun c => c.data), g.2)

/-- The payloads of records 48 to 60, none where one is absent. -/
def trimRecords (rs : List Nat) (s : State) : Option (List (List Nat)) × State :=
  match rs with
  | [] => (some [], s)
  | r :: t =>
    let g := startRecord r s
    if g.1.isSome then
      ((trimRecords t g.2).1.map (fun l => padTo 15 (g.1.getD []) :: l), (trimRecords t g.2).2)
    else (none, g.2)

/-- R391: the start applies a valid trim set, or neutral values. -/
def trimApply (s : State) : State :=
  let q := trimRecords ((List.range 13).map (48 + ·)) s
  match s.trimFails q.1 with
  | none => ((q.2.setTrim ((q.1.getD []).tail.flatten)).put SAMP.STATUS.TRIMOK 1).put SEC.START.TRIMOK 1
  | some n => ((q.2.setTrim []).put SAMP.STATUS.TRIMOK 0).report .trimInvalid 0 n

/-! ### The configuration record (record 61) -/

/-- The word of BOOTCFG that record 61 keeps: every field but SAVED. -/
def State.bootWord (s : State) : Nat :=
  s.get SEC.BOOTCFG.PREF * 2 ^ 33 + s.get SEC.BOOTCFG.DDRAUTO * 2 ^ 32 + s.get SEC.BOOTCFG.DDRCFG * 2 ^ 20 +
    s.get SEC.BOOTCFG.WDSTART * 2 ^ 4

def putBootWord (v : Nat) (s : State) : State :=
  (((s.put SEC.BOOTCFG.PREF (bits v 33 1)).put SEC.BOOTCFG.DDRAUTO (bits v 32 1)).put SEC.BOOTCFG.DDRCFG (bits v 20 12)).put
    SEC.BOOTCFG.WDSTART (bits v 4 16)

/-- BOOTCFG takes what record 61 holds; without one it keeps its reset values. -/
def bootRecord (s : State) : State :=
  match startRecord 61 s with
  | (some p, s1) => (putBootWord (p.headD 0) s1).put SEC.BOOTCFG.SAVED 1
  | (none, s1) => s1

/-- BOOTCFG is written to record 61; SAVED shows whether it stands there. -/
def bootSave (s : State) : State :=
  let q := storePut 61 [s.bootWord] s
  q.2.putB SEC.BOOTCFG.SAVED q.1

end Sys2Proof.Machine
end

