-- ==== Sys2Proof/Machine/Supply.lean ====
section
/-! DEFINITION. Supply, resets and whole-device sleep: the events of the power-and-port die (R356 to R364, R370, R380,
R438). -/

namespace Sys2Proof.Machine

/-! ### Resets and the start that follows -/

/-- The resets of the power-and-port die that hold the logic die: VIN, a rail, the junction, VIOS. -/
def State.heldInReset (s : State) : Bool := s.power.uv || !s.power.rails.isEmpty || s.power.tj || s.power.vios

/-- A hold has ended: when no other stands, a cold start with the cause follows. -/
def coldDue (cause : Nat) (s : State) : State :=
  if s.heldInReset then s else (s.setPower { s.power with off := false, sleep := 0 }).setBoot { s.boot with due := some (false, cause) }

/-- The logic-die reset asserts: nothing runs until a start; `off`: the rails switch off with it. -/
def assertReset (off : Bool) (s : State) : State :=
  let s1 := resetLogic false (stopTimecode s)
  cutCtu ((s1.setPower { s1.power with off := off || s1.power.off, sleep := 0 }).setBoot { s1.boot with due := none })

/-- R359, R361: the supply detector decides: UV asserts, flash pulses stop, and SUPSTAT records the cause. -/
def supplyDecide (cause : Nat) (s : State) : State :=
  let p := s.power
  let s1 := flashStop s
  let s2 :=
    if cause = 0 then (s1.put GAF.SUPSTAT.UVRST 1).setPower { p with uv := true }
    else ((s1.put GAF.SUPSTAT.RAILRST 1).put GAF.SUPSTAT.RAIL (cause - 1)).setPower
      { p with rails := (cause - 1) :: p.rails.filter (· != cause - 1) }
  cutAssert PORTS.CUTSTAT.SUV 3 .cutUv s2

/-- SUPPLY_DETECT: VIN (`cause` 0) or VCORE, VANA/VSRAM, VPP (1 to 3) has left its window long enough (R359, R361, R437). -/
def execSupplyDetect (cause : Fin 4) (s : State) : Out := .next (supplyDecide cause.val s)

/-- LOGIC_RESET: 2 µs after the detector's decision the logic-die reset asserts and the rails switch off (R359). -/
def execLogicReset (s : State) : Out :=
  .next (if !s.power.off && (s.power.uv || !s.power.rails.isEmpty) then assertReset true (s.elapse 3000) else s)

/-- VMID_LOW: VMID falls below 4.5 V: the logic-die reset asserts at once (R357, R359, R361). -/
def execVmidLow (s : State) : Out :=
  let s1 := (s.put GAF.SUPSTAT.RAILRST 1).put GAF.SUPSTAT.RAIL 3
  .next (assertReset true (s1.setPower { s1.power with rails := 3 :: s1.power.rails.filter (· != 3) }))

/-- VIN_RISE: VIN has risen through 5.8 V and held for 1 ms. The supply detector's hold ends unless a rail-window condition
stands (`railsOk` false), and a cold start follows (R356, R359). -/
def execVinRise (railsOk : Bool) (s : State) : Out :=
  .next (if s.power.off && railsOk && (s.power.uv || !s.power.rails.isEmpty) then
      let cause := if s.power.uv then 2 else 3
      coldDue cause ((s.put PORTS.CUTSTAT.SUV 0).setPower { s.power with uv := false, rails := [] })
    else s)

/-- VIN_HIGH: VIN above 61 V, once per excursion (R356). -/
def execVinHigh (s : State) : Out :=
  .next (if s.on GAF.STATUS.VINHI then s else (s.put GAF.STATUS.VINHI 1).report .vinHigh 0 0)

/-- RAIL_VDDQ: VDDQ leaves its window: DDR4 enters FAILED and the recorder drops what waits (R360). -/
def execRailVddq (s : State) : Out :=
  let s1 := ((s.put DDR.STATUS.STATE 3).put DDR.STATUS.REGIONS 0).report .railVddq 0 0
  .next ((s1.rushes.map (fun e => e.1)).foldl (fun u c => u.putRush c { u.rush c with queue := [] }) s1)

/-- TJ_SHUTDOWN: TJ at 155 °C or above for 100 µs: CUT, and 2 µs later the logic-die reset, which the port die holds
(R361, R364). -/
def execTjShutdown (s : State) : Out :=
  let s1 := (ctuRequest false (s.report .tjShutdown 0 0)).elapse 3000
  let s2 := s1.put GAF.SUPSTAT.TJRST 1
  .next (assertReset false (s2.setPower { s2.power with tj := true }))

/-- TJ_RELEASE: the port die's sensor reads 130 °C or less: a cold start follows (R364). -/
def execTjRelease (s : State) : Out :=
  .next (if s.power.tj then coldDue 4 (s.setPower { s.power with tj := false }) else s)

/-- RESET_PIN: RESETn held low for 1 µs causes a cold start (R380). -/
def execResetPin (s : State) : Out := .next (coldDue 1 (assertReset false s))

/-- VIOS_LOSS: VIOS below 2.9 V for 1 µs acts as RESETn held low (R438). -/
def execViosLoss (s : State) : Out :=
  .next (assertReset false (s.setPower { s.power with vios := true }))

/-- VIOS_RETURN: VIOS in range for 1 ms leads to a cold start with CAUSE 1 (R438). -/
def execViosReturn (s : State) : Out :=
  .next (if s.power.vios then coldDue 1 (s.setPower { s.power with vios := false }) else s)

/-! ### Sleep (R19, R370) -/

/-- R366: the islands that stay White while the logic die is powered. Of IS26 the Gaffer does; its state is that of the other parts. -/
def alwaysWhite (i : Nat) : Bool := i == 19 || i == 30 || i == 31

/-- R370: every island leaves White but those that R366 keeps; in Black the whole logic die is off, and timecode is saved. -/
def enterSleep (s : State) : State :=
  let depth := s.get GAF.SLEEPCFG.DEPTH
  let retain := s.on GAF.SLEEPCFG.RETAIN
  let st := depth + 2
  let s1 := (List.range 4).foldl (fun u i => islandCatchUp i u) (ddrSleep s)
  let is := (List.range 32).filter (fun i => depth == 1 || !alwaysWhite i)
  let s2 := is.foldl (fun u i => grantIn i st (u.get (ISL.STAT.CLK i)) (u.put (ISL.STAT.STATE i) st)) s1
  let s3 := s2.setPower { s2.power with sleep := st - 1, retain := depth == 0 || retain }
  if depth = 1 then ((flashStop s3).setTcSaved s3.now).setTcRun false else s3

/-- R370: the start that follows SLEEP. -/
def State.sleepStart (s : State) : Bool × Nat :=
  if s.power.sleep = 1 then (true, 10) else if s.power.retain then (true, 11) else (false, 6)

/-- SLEEP_WAKE: a high level on WAKE inputs, a dominant phase on CAN0 RXD, or the wake timer ends SLEEP where SLEEPCFG
enables it (R370). -/
def execSleepWake (wake : BitVec 4) (can timer : Bool) (s : State) : Out :=
  let w := wake.toNat &&& s.get GAF.SLEEPCFG.WAKEN
  let c := can && s.on GAF.SLEEPCFG.CANW
  let t := timer && s.on GAF.SLEEPCFG.WTIME
  .next (if s.power.sleep = 0 ∨ (w = 0 ∧ !c ∧ !t) then s
    else
      let s1 := ((s.put GAF.SLEEPST.WAKE w).putB GAF.SLEEPST.CAN c).putB GAF.SLEEPST.TIMER t
      let s2 := s1.setPower { s1.power with sleep := 0 }
      if s.sleepStart.1 then
        s2.setBoot { s2.boot with due := some s.sleepStart, black := s.sleepStart.2 == 11 }
      else coldNow s.sleepStart.2 s2)

end Sys2Proof.Machine
end

