-- ==== Sys2Proof/Machine/Wipe.lean ====
section
/-! DEFINITION. Read-out protection and the wipe (R352 to R354). -/

namespace Sys2Proof.Machine

/-- R353: the level of read-out protection that OTP holds. -/
def OtpSt.level (o : OtpSt) : Nat := if o.l2 then 2 else o.seq % 2

/-- R353: RDPSEQ fuses left. -/
def OtpSt.left (o : OtpSt) : Nat := 16 - o.seq

/-- R352, R405: whether debug access is open: at level 0, and at level 1 while unlocked. -/
def State.debugOpen (s : State) : Bool := s.otp.level == 0 || (s.otp.level == 1 && s.on DBG.STATUS.UNLOCKED)

/-- DEBUG.STATUS and RDPRES show the level and what it leaves open. -/
def levelShow (s : State) : State :=
  let l := s.otp.level
  (((s.put FLASH.RDPRES.LEVEL l).put FLASH.RDPRES.LEFT s.otp.left).put DBG.STATUS.LEVEL l).putB DBG.STATUS.OPEN s.debugOpen

/-- R12, R407: the core stands within an instruction, whose access waits for an island in Grey or which is to go on after that. -/
def State.within (s : State) (c : Nat) : Bool := (s.core c).resume || s.held.any (fun h => h.agent == ownCore c)

/-- R407: while access is open a HALT bit stops its core at its next boundary. -/
def State.halts (s : State) (c : Nat) : Bool :=
  s.debugOpen && bitOf (s.get DBG.CORECTL.HALT) c && s.coreExists c && (s.coreHalted c || !s.within c)

/-- R407: the cores that stand halted. The cycles before a halt begins or ends count for a hold of the core, or do not. -/
def haltShow (s : State) : State :=
  let u := ((List.range 8).filter (fun c => (s.core c).hold && s.halts c != s.coreHalted c)).foldl (fun w c => catchUp c w) s
  u.put DBG.CORESTS.HALTED (maskOf (List.range 8) s.halts)

/-- R407: at a boundary of the core a halt takes hold that waited for it. -/
def haltBoundary (c : Nat) (s : State) : State := if s.halts c && !s.coreHalted c then haltShow s else s

/-- R353: a completion in RDPRES. -/
def rdpResult (code status : Nat) (s : State) : State := (s.put FLASH.RDPRES.CODE code).put FLASH.RDPRES.STATUS status

/-- R353, R406: the level changes: it governs from the next access, and UNLOCKED clears. -/
def setLevel' (o : OtpSt) (s : State) : State := haltShow (levelShow ((s.setOtp o).put DBG.STATUS.UNLOCKED 0))

/-- R354 step 2: every core and engine is held in reset. -/
def holdAll (s : State) : State :=
  let s1 := ((List.range 8).filter s.coreExists).foldl (fun u c => (coreClear c u).putCoreState c 4) s
  (List.range 24).foldl (fun u e => (engFlags e ((engEnter e 0 u).putEng e (EngSt.atReset e))).put (LE.RESULT.PENDING e) 0) s1

/-- R354 step 2: a descriptor ends with BUSY. -/
def flashBusy (d : FlashDesc) (s : State) : State := flashComplete d (FlashEnd.plain 8 0xFFF) s

/-- R354 step 2: the descriptor in hand, the erases of descriptors and the record command end with BUSY. -/
def wipeBusy (s : State) : State :=
  let s1 := match s.flash.now with
    | some d => flashBusy d s
    | none => s
  let s2 := s.flash.runs.foldl (fun u r => match r.kind with
    | .desc d => flashBusy d u
    | _ => u) s1
  match s.recs.cmd with
  | some c => recordDone 8 0 false 0 c.rec_ 0 c.cmd s2
  | none => s2

/-- R342: the spare that an erase is of, while it runs or stands suspended. -/
def EraseRun.spares (r : EraseRun) : List (Nat × Nat) := match r.kind with
  | .spare => r.secs.map (fun q => (r.bank, q))
  | _ => []

/-- R354 step 3: CFA, CFB, DFU and DFS are erased, spares included, also those whose copy or erase was under way; the remap table is
kept. -/
def wipeFlash (s : State) : State :=
  let f := s.flash
  let s1 := (clearMem 0 0x500000 s).putFlash
    { f with
      now := none
      prog := none
      loadOp := none
      runs := []
      copies := []
      torn := []
      queued := []
      spares := f.spares ++ (f.dirty ++ f.copies.map (fun c => (c.1, c.2.2)) ++ f.runs.flatMap EraseRun.spares).filter (fun x => !f.spares.contains x)
      dirty := []
      odd := []
      wipe := true }
  wearShow ((s1.setRecs StoreSt.atReset).put FLASH.RSSTAT.STATE 0)

/-- R354 step 4: banks, mailboxes, reel entries and engine memories, and DDR4 when READY, become zero. -/
def wipeMem (s : State) : State :=
  let s1 := (clearMem 0x500000 ddrBase s).setEngNeg []
  if s.get DDR.STATUS.STATE = 2 then clearMem ddrBase (ddrBase + s.ddrRegions * 2 ^ 23) s1 else s1

/-- R354: steps 2 to 4 of a wipe; step 1 has written its marker. R398: a wipe voids the token. -/
def wipeSteps (s : State) : State :=
  let s1 := wipeMem (wipeFlash (wipeBusy (holdAll (cutHost s))))
  ((s1.setBoot { s1.boot with token := none, hand := none }).put SEC.STATUS.TOKEN 0).put FLASH.RDPRES.WIPE 1

/-- R353, R354: a write of FLASH.RDPCMD. -/
def rdpCommand (agent code : Nat) (s : State) : State :=
  if agent != ownHost then s.answer agent .busOwn 0 0
  else
    let o := s.otp
    let s1 :=
      if s.flash.wipe then rdpResult code 8 s
      else match code with
        | 1 =>
          if o.level ≠ 0 then rdpResult 1 1 s
          else if o.left = 0 then rdpResult 1 4 s
          else rdpResult 1 0 (setLevel' { o with seq := o.seq + 1 } s)
        | 2 => if 2 ≤ o.level then rdpResult 2 1 s else rdpResult 2 0 (setLevel' { o with l2 := true } s)
        | 3 =>
          if o.level ≠ 1 then rdpResult 3 1 s
          else if o.left = 0 then rdpResult 3 4 s
          else wipeSteps (rdpResult 3 0 s)
        | k => rdpResult k 4 s
    s1.answer agent .ok 0 0

/-- WIPE_DONE: the wipe has taken its time: the fuse is programmed, the marker cleared, and a cold start follows (R354). -/
def execWipeDone (s : State) : Out :=
  .next (if s.flash.wipe && s.on FLASH.RDPRES.WIPE then
      let s1 := setLevel' { s.otp with seq := s.otp.seq + 1 } (s.setFlash { s.flash with wipe := false })
      coldNow 7 (s1.put FLASH.RDPRES.WIPE 0)
    else s)

end Sys2Proof.Machine
end

