-- ==== Sys2Proof/Machine/Starts.lean ====
section
/-! DEFINITION. Cold and warm starts, their handoff, failed starts, the watchdog and BOOTCFG (R380 to R391, R403, R409). -/

namespace Sys2Proof.Machine

/-! ### The steps of a start -/

/-- R385: the first step of every start: ATT counts, the HOST source clears (R178), and the logic die is reset. -/
def startReset (warm : Bool) (cause : Nat) (s : State) : State :=
  let s1 := resetLogic warm (s.put PORTS.CUTSTAT.SHOST 0)
  let s2 := s1.setBoot { s1.boot with
    due := none
    att := min 15 (s.boot.att + 1)
    black := false
    token := if warm then s1.boot.token else none }
  let s3 := ((s2.put SEC.START.CAUSE cause).put SEC.START.KIND (if warm then 1 else 0)).put SEC.START.ATT s2.boot.att
  cutCtu (s3.putB SEC.STATUS.TOKEN s3.boot.token.isSome)

/-- R402: the identity seed; fuses that nobody has programmed read zero. -/
def OtpSt.seed (o : OtpSt) : Nat := o.idSeed.getD 0

/-- R396: OTPSTAT and the digests show OTP. -/
def keysShow (s : State) : State :=
  let o := s.otp
  let s3 := ((s.putB SEC.OTPSTAT.IDPROG o.idSeed.isSome).putB SEC.OTPSTAT.DPROG o.dbg.isSome).putB SEC.OTPSTAT.HPROG o.host.isSome
  let s4 := ((s3.put SEC.OTPSTAT.KPROG (maskOf o.keys Option.isSome)).put SEC.OTPSTAT.REVOKED
    (maskOf (List.range 4) o.revoked.contains)).put SEC.OTPSTAT.ARB o.arb
  let s5 := (List.range 4).foldl (fun u k => putDigest (SEC.KEYDIG.W k) ((o.keys.getD k none).getD 0) u) s4
  let s6 := putDigest SEC.DBGDIG.W (o.dbg.getD 0) (putDigest SEC.HOSTDIG.W (o.host.getD 0) s5)
  putDigest SEC.IDKDIG.W (Config.sha3 (fitOctets 2592 (Config.mldsaPublic o.seed)) % 2 ^ 512) s6

/-- R281, R382, R396, R353: what registers show of OTP after its read at a start; in SPLIT, CORESTAT names eight cores. -/
def otpShow (ok : Bool) (s : State) : State :=
  let o := s.otp
  let s1 := (List.range 4).foldl (fun u k => u.put (SYS.UID.UID k) (o.uid.getD k 0)) s
  let s2 := ((s1.put SYS.OPTIONS.RDP o.level).putB SYS.OPTIONS.FUSED o.fused).putB SYS.OPTIONS.SPLIT (o.split || o.fused)
  let s3 := if s2.split then [4, 5, 6, 7].foldl (fun u c => u.putCoreState c 1) s2 else s2
  levelShow (((keysShow s3).putB SEC.STATUS.OTPOK ok).putB ETH.LOCALEN.EN o.host.isNone)

/-- R401: the TRNG health test. -/
def trngShow (ok : Bool) (s : State) : State :=
  let s1 := s.putB SEC.STATUS.TRNGOK ok
  if ok then s1 else s1.report .trngHealth 0 0

/-- R339: torn sectors in bank and sector order. -/
def tornInsert (x : Nat × Nat × Bool) : List (Nat × Nat × Bool) → List (Nat × Nat × Bool)
  | [] => [x]
  | y :: t => if secKey x.1 x.2.1 ≤ secKey y.1 y.2.1 then x :: y :: t else y :: tornInsert x t

/-- R339: the flash controller reads its markers and is READY. -/
def flashStart (s : State) : State :=
  let l := s.flash.torn.foldl (fun a x => tornInsert x a) []
  let s1 := (flashShow (s.put FLASH.STATUS.READY 1)).put FLASH.TORNCNT.COUNT l.length
  let s2 := (List.range 16).foldl (fun u i =>
    match l[i]? with
    | none => u
    | some x => (((u.put (FLASH.TORN.VALID i) 1).put (FLASH.TORN.BANK i) x.1).putB (FLASH.TORN.SELF i) (x.1 == 3 || x.2.2)).put
        (FLASH.TORN.SECTOR i) x.2.1) s1
  let s3 := s2.put FLASH.RSSTAT.USABLE (640 - (s2.flash.retired.filter (fun x => x.1 == 3)).length)
  l.foldl (fun u x => u.report .flashTorn (elFlash x.1) x.2.1) s3

/-- R303, R366: what the passage of the whole logic die through Black loses. -/
def blackLoss (s : State) : State := (clearMem 0x500000 ddrBase s).setEngNeg []

/-- R18, R19, R20, R383: timecode, the memories and DDR4 of a warm start; `black`: the logic die has passed through Black since
its last start. -/
def startWarm (black : Bool) (s : State) : State :=
  let s1 := if black then
      (((blackLoss s).setSyncWait ((List.range 32).filter treeIsland)).setNow (s.tcSaved + 1)).setTcRun true |>.put TC.STATUS.EPOCH (s.get TC.STATUS.EPOCH + 1)
    else s
  if s1.get DDR.STATUS.STATE = 2 then s1
  else if s1.get DDR.STATUS.STATE = 4 then ddrWake s1
  else clearRange DDR.CFG.adr (DDR.STATUS.adr + 1) s1

/-- R382: LBIST of a cold start; timecode starts with the lock of its PLL (R18, TIMECODE_LOCK). -/
def startCold (d : StartIn) (s : State) : State :=
  ((List.range 24).filter (fun e => !bitOf d.engines.toNat e)).foldl (fun u e =>
    (engEnter e 5 u).report .lbistFail (elEngine e) 0) s

/-- R348, R339: the store: a warm start that kept IS26 powered keeps the index and marks torn sectors; one that lost it, by Black or
because it was building still, is building while the start goes on; a cold start builds it. -/
def startStore (warm lost : Bool) (weak : Bool) (s : State) : State :=
  if !warm then storeBuild weak s
  else if lost then (s.setRecs StoreSt.atReset).put FLASH.RSSTAT.STATE 1
  else
    let s1 := storeCheckLast weak (s.setRecs (s.recs.markTorn s.tornSecs))
    storeWear (s1.put FLASH.RSSTAT.STATE 2)

/-- R65, R383: self-calibration, or why it is skipped. -/
def State.calSkips (s : State) (tj : Nat) : Bool :=
  let d := sgn 12 tj - sgn 12 (s.get SAMP.CAL.CALTEMP)
  s.on SAMP.STATUS.CALOK && decide (s.get SAMP.CAL.CALAGE < 1440) && decide (-40 ≤ d) && decide (d ≤ 40)

def startCal (warm : Bool) (tj : Nat) (s : State) : State :=
  if warm && s.calSkips tj then s.put SEC.START.CALSKIP 1 else calDone tj s

/-- R382: with DDRAUTO, DDR.CFG takes BOOTCFG.DDRCFG and INIT runs. -/
def startDdr (ok : Bool) (s : State) : State :=
  if s.on SEC.BOOTCFG.DDRAUTO then
    let s1 := ddrInit (s.writeFields DDR.CFG.adr (s.get SEC.BOOTCFG.DDRCFG) false (fields! DDR.CFG.adr))
    if s1.get DDR.STATUS.STATE = 1 then ddrTrained ok s1 else s1
  else s

/-- R171: the power-and-port die measures continuously: the classes of the VIOG voltages. -/
def startVio (vio : List Nat) (s : State) : State :=
  (List.range 12).foldl (fun u g => u.put (PG.GSTAT.VCLASS g) (vioClass (vio.getD g 0))) s

/-- R409: the transports' defaults. -/
def startLinks (s : State) : State :=
  let a := 0x02 * 2 ^ 40 + s.uid % 2 ^ 40
  let s1 := ((s.put (MAC.CTRL.EN 0) 1).put (MAC.CTRL.SLATE 0) 1).put (MAC.CTRL.IP6EN 0) 1
  let s2 := ((s1.put (MAC.ADDRH.ADDR 0) (a / 2 ^ 32)).put (MAC.ADDRL.ADDR 0) a).putFeature 0x400 1 0 0
  let s3 := ((s2.put (CAN.CTRL.OWNER 0) ownHost).put (CAN.CTRL.MODE 0) 2).put (CAN.CTRL.SLATE 0) 1
  (s3.put (CAN.CTRL.EN 0) 1).enableFeature ownHost 0x410 [0x820]

/-! ### BOOTFAIL and the choice of an image -/

/-- R176: on a board that ties CUTn to CUTINn, CUTINn is low because the latch is set; that is no other source. -/
def untie (s : State) : State := if Config.cutTied && s.on PORTS.CUTSTAT.SIN then s.put PORTS.CUTSTAT.SIN 0 else s

/-- R176, R178: a start completes: the latch clears if no source stands. -/
def startLatch (s : State) : State :=
  if s.on PORTS.CUTSTAT.LATCH && !(untie s).cutSource then cutLatchClear (untie s) else s

/-- R384, R388, R389: the cores that exist and did not pass are RED, as `told` reports; the others are SPARE. -/
def redOut (mask : Nat) (told : Bool) (s : State) : State :=
  ((List.range 8).filter s.coreExists).foldl (fun u c =>
    if bitOf mask c then (coreClear c u).putCoreState c 4
    else
      let v := u.putCoreState c 5
      if told then v.report .coreLbist (elCore c) 0 else v) s

/-- R388: the start enters BOOTFAIL. -/
def bootfail (s : State) : State :=
  let s1 := (cutHost s).report .bootfail 0 s.boot.att
  let s2 := (List.range 24).foldl (fun u e => engEnter e 0 u) s1
  setDevState .bootfail (startLatch (s2.setBoot { s2.boot with hand := none, due := none }))

/-- R386, R395, R398: choose and verify an image. -/
def startImage (warm : Bool) (s : State) : Option (Nat × Bool) × State :=
  chooseImage (if warm then s.boot.token else none) (tryOrder s.boot.att (s.get SEC.BOOTCFG.PREF)) s

/-- R386, R387, R396: what the chosen image leaves in registers, and how a fallback and a recovery start are told. -/
def tellImage (r : Nat) (byToken : Bool) (s : State) : State :=
  let dig := match s.boot.token with
    | some k => if byToken then k.dig else s.imageDig r
    | none => s.imageDig r
  let s1 := ((runImage r dig s).put SEC.START.REGION r).putB SEC.START.TOKEN byToken
  if 2 ≤ r then
    let s2 := ((cutHost s1).report .recoveryStart 0 r).put SEC.START.KIND 2
    s2.setBoot { s2.boot with recov := true }
  else if r ≠ s.get SEC.BOOTCFG.PREF then s1.report .startFallback 0 r
  else s1

/-- R382, R383: the steps after the image is chosen, up to the handoff. -/
def startRest (warm : Bool) (d : StartIn) (cores : Nat) (s : State) : State :=
  let s1 := startCal warm d.tj.toNat (trimApply s)
  let s2 := if warm then s1 else startDdr d.ddr s1
  s2.setBoot { s2.boot with hand := some ⟨warm, s2.boot.recov, cores⟩ }

/-- R383, R386, R387: a start goes on with the image that was chosen; with none, the next start of the same kind is due: a warm one, in
which a core that is RED stays RED, or a cold one, for which timecode begins anew (R18). -/
def startGo (warm : Bool) (cause : Nat) (d : StartIn) (cores : Nat) (q : Option (Nat × Bool) × State) : State :=
  match q.1 with
  | some (r, byToken) => startRest warm d cores (tellImage r byToken q.2)
  | none =>
    if warm then (redOut cores false q.2).setBoot { q.2.boot with due := some (true, cause) } else coldNow cause q.2

/-- R382, R383, R385 to R388: a whole start up to its handoff. -/
def startRun (warm : Bool) (cause : Nat) (d : StartIn) (s : State) : State :=
  let notRed := 255 - s.redCores
  let lost := s.boot.black || s.get FLASH.RSSTAT.STATE == 1
  let s1 := startVio (d.vio.map (fun x => x.toNat)) (otpShow d.otp (startReset warm cause s))
  if s1.flash.wipe then wipeSteps s1
  else
    let s2 := if cause = 7 then cutHost s1 else s1
    let s3 := trngShow d.trng (if warm then startWarm s.boot.black s2 else startCold d s2)
    let s4 := startLinks (bootRecord (startStore warm lost d.weak (flashStart s3)))
    let cores := if warm then notRed else d.cores.toNat
    if 5 ≤ s4.boot.att then bootfail (redOut cores (!warm) (trimApply s4))
    else startGo warm cause d cores (startImage warm s4)

/-- COLD_START: the start that is due, where it is a cold one (R8, R14, R178, R303, R380 to R387, R391, R395, R397, R409). -/
def execColdStart (d : StartIn) (s : State) : Out :=
  if d.vio.length ≠ 12 then .fault (.malformed "COLD_START")
  else .next (match s.boot.due with
    | some (false, cause) => startRun false cause d s
    | _ => s)

/-- WARM_START: the start that is due, where it is a warm one (R19, R178, R303, R310, R325, R348, R380 to R387, R391, R395,
R398, R409). -/
def execWarmStart (d : StartIn) (s : State) : Out :=
  if d.vio.length ≠ 12 then .fault (.malformed "WARM_START")
  else .next (match s.boot.due with
    | some (true, cause) => startRun true cause d s
    | _ => s)

/-! ### The handoff (R384) -/

/-- R389: the watchdog counts PERIOD ms, at least 1. -/
def dogRestart (s : State) : State :=
  s.put SEC.WDSTAT.REM (if s.on SEC.WDOG.EN then max 1 (s.get SEC.WDOG.PERIOD) else 0)

/-- R384: BK00 and MB0 go to the boot core where nobody owns them. -/
def handBanks (c : Nat) (s : State) : State :=
  let s1 := s.putIf (s.get (BANKS.OWNER.OWNER 0) == 0) (BANKS.OWNER.OWNER 0) (ownCore c)
  (s1.putIf (s.get (BANKS.OWNER.OWNER 64) == 0) (BANKS.OWNER.OWNER 64) (ownCore c)).put (BANKS.OWNER.PEER 64) ownFlash

/-- R384: the boot core starts T0 at ENTRY with L0 holding SECURITY.START. -/
def bootCore (c : Nat) (s : State) : State :=
  coreStart c s.image.1 s.image.2 (s.wordOf SEC.START.adr (fields! SEC.START.adr)) (handBanks c s)

/-- R384, R389: the watchdog starts with BOOTCFG.WDSTART. -/
def dogStart (s : State) : State :=
  let w := s.get SEC.BOOTCFG.WDSTART
  dogRestart ((s.put SEC.WDOG.PERIOD w).putB SEC.WDOG.EN (w != 0))

/-- R384, R388, R422: the handoff. -/
def handoff (h : Handoff) (us : Nat) (s : State) : State :=
  let s1 := redOut h.cores (!h.warm) s
  let s2 := (s1.put SEC.STARTTIME.US us).setBoot { s1.boot with hand := none }
  match ((List.range 8).filter s.coreExists).find? (bitOf h.cores) with
  | none => bootfail s2
  | some c =>
    let s3 := startLatch (dogStart (bootCore c s2))
    setDevState (if h.recov then .recovery else if s3.on PORTS.CUTSTAT.LATCH then .cut else .standby) s3

/-- START_HANDOFF: the start sequence hands the device to the image, `us` µs after the reset release (R178, R384, R389). -/
def execStartHandoff (us : BitVec 24) (s : State) : Out :=
  .next (match s.boot.hand with
    | some h => handoff h us.toNat s
    | none => s)

/-! ### GOODW, the watchdog and BOOTCFG (R385, R389, R403) -/

/-- R385: a write to SECURITY.START. -/
def startWrite (agent v : Nat) (s : State) : State :=
  (if bitOf v 0 then (s.put SEC.START.GOOD 1).setBoot { s.boot with att := 0 } else s).answer agent .ok 0 0

/-- R389: a write to WDKICK. -/
def dogKick (agent v : Nat) (s : State) : State :=
  let k := bits v 0 12
  let b := s.boot
  let s1 := s.setBoot { b with kick := k == 0x5A5 }
  (if b.kick && k == 0xA5A then dogRestart s1 else s1).answer agent .ok 0 0

/-- R389: a write to WDOG restarts the count with what it writes. -/
def dogWrite (agent v : Nat) (s : State) : State :=
  (dogRestart (s.writeFields SEC.WDOG.adr v false (fields! SEC.WDOG.adr))).answer agent .ok 0 0

/-- WDOG_EXPIRY: the ms that REM shows pass, the watchdog's count ends, and 2 µs later a warm start begins (R389). In BOOTFAIL it
ends nothing (R388); held in reset, or before the handoff that starts it (R384), it does not count (R438). -/
def execWdogExpiry (s : State) : Out :=
  .next (if !s.on SEC.WDOG.EN || s.devIs .bootfail || s.devIs .sleep || s.heldInReset || s.boot.due.isSome || s.boot.hand.isSome then s
    else
      let s0 := s.advanceTo ((s.t / msTicks + s.get SEC.WDSTAT.REM) * msTicks)
      let s1 := ((s0.put SEC.WDSTAT.REM 0).report .wdogExpired 0 (s.get SEC.WDOG.PERIOD)).elapse 3000
      s1.setBoot { s1.boot with due := some (true, 9) })

/-- R403: a write to BOOTCFG by the host link goes to record 61. -/
def bootcfgWrite (agent v : Nat) (s : State) : State :=
  if agent != ownHost then s.answer agent .busOwn 0 0
  else (bootSave ((s.writeFields SEC.BOOTCFG.adr v false (fields! SEC.BOOTCFG.adr)).put SEC.BOOTCFG.SAVED 0)).answer agent .ok 0 0

end Sys2Proof.Machine
end

