-- ==== Sys2Proof/Machine/Security.lean ====
section
/-! DEFINITION. The security island: OTP commands and requests (R396, R399 to R402). -/

namespace Sys2Proof.Machine

/-! ### OTP commands (R396) -/

/-- R396, R397: the count that ROLLFWD leaves: SECVER of the running image; there are 64 fuses. -/
def State.rollTo (s : State) : Nat := min 64 (s.get SEC.IMG.SECVER)

/-- R396: why an OTP command is refused at once: its STATUS. -/
def State.otpRefusal (s : State) (code arg : Nat) : Option Nat :=
  let o := s.otp
  let k := arg % 4
  let has (j : Nat) : Bool := (o.keys.getD j none).isSome
  match code with
  | 1 => if s.rollTo ≤ o.arb ∨ s.boot.recov ∨ s.boot.region = none then some 4 else none
  | 2 =>
    if !has k then some 1
    else if (List.range 4).any (fun j => j != k && has j && !o.revoked.contains j) then none
    else some 5
  | 3 => if has k || o.revoked.contains k then some 1 else none
  | 4 => if o.host.isSome then some 1 else none
  | 5 => if o.dbg.isSome then some 1 else none
  | _ => some 4

def otpResult (code status pending : Nat) (s : State) : State :=
  ((s.put SEC.OTPRES.CODE code).put SEC.OTPRES.STATUS status).put SEC.OTPRES.PENDING pending

/-- R396: a write to OTPCMD. -/
def otpCommand (agent code arg : Nat) (s : State) : State :=
  if agent != ownHost then s.answer agent .busOwn 0 0
  else
    let s1 :=
      if s.sec.otpCmd.isSome then otpResult code 8 1 s
      else match s.otpRefusal code arg with
        | some st => otpResult code st 0 s
        | none => (otpResult code 0 1 s).setSec { s.sec with otpCmd := some (code, arg) }
    s1.answer agent .ok 0 0

/-- R396: the fuses of an OTP command are programmed. -/
def otpProgram (code arg : Nat) (s : State) : State :=
  let o := s.otp
  let k := arg % 4
  let dig := s.digest SEC.OTPSTAGE.W
  match code with
  | 1 => s.setOtp { o with arb := s.rollTo }
  | 2 => s.setOtp { o with revoked := k :: o.revoked.filter (· != k) }
  | 3 => s.setOtp { o with keys := o.keys.set k (some dig) }
  | 4 => (s.setOtp { o with host := some dig }).put ETH.LOCALEN.EN 0
  | _ => s.setOtp { o with dbg := some dig }

/-- OTP_COMMAND_DONE: fuse programming ends (R396). -/
def execOtpCommandDone (s : State) : Out :=
  .next (match s.sec.otpCmd with
    | none => s
    | some (code, arg) =>
      let s1 := otpProgram code arg s
      otpResult code 0 0 (keysShow (s1.setSec { s1.sec with otpCmd := none })))

/-! ### Requests (R399) -/

/-- R399: the island may use a word: in a bank owned by 0x43, or in a mailbox with OWNER or PEER 0x43. -/
def State.secMay (s : State) (a : Nat) : Bool :=
  match bankOf? a with
  | none => false
  | some b =>
    s.get (BANKS.OWNER.OWNER b) == ownSecurity || (decide (64 ≤ b) && s.get (BANKS.OWNER.OWNER b) != 0 &&
      s.get (BANKS.OWNER.PEER b) == ownSecurity)

/-- The words that `n` octets take (R183). -/
def octetWords (n : Nat) : Nat := (n + 3) / 4

/-- R399: a row of words lies where the island may use it. -/
def State.secRange (s : State) (a n : Nat) : Bool := (List.range n).all (fun i => s.secMay (a + i))

/-- A request's descriptor, field by field. -/
structure Req where
  op   : Nat
  key  : Nat
  src  : Nat
  slen : Nat
  dst  : Nat
  dlen : Nat
  aux  : Nat
  alen : Nat

def reqOf (ws : List Nat) : Req :=
  let w (i : Nat) : Nat := ws.getD i 0
  ⟨bits (w 0) 32 4, bits (w 0) 0 4, bits (w 1) 0 32, bits (w 2) 0 24, bits (w 3) 0 32, bits (w 4) 0 24, bits (w 5) 0 32,
    bits (w 6) 0 24⟩

/-- Read octets for the island; none when a word is outside R399 or cannot be read. -/
def secRead (a n : Nat) (s : State) : Option (List Nat) × State :=
  if s.secRange a (octetWords n) then
    let r := bankReads ownSecurity a (octetWords n) s
    (r.1.map (fun ws => (unpackOctets ws).take n), r.2)
  else (none, s)

/-- The outcome of an operation: STATUS, octets written, and the state after it. -/
structure SecOut where
  status : Nat
  octs   : Nat
  st     : State

/-- R400: BAD_ARG, AUTH and BUSY; nothing is written. -/
def secEnd (status : Nat) (s : State) : SecOut := ⟨status, 0, s⟩

/-- R399, R400: the result goes to DST. -/
def secPut (q : Req) (l : List Nat) (s : State) : SecOut :=
  if q.dlen < l.length then secEnd 4 s
  else if !s.secRange q.dst (octetWords l.length) then secEnd 4 s
  else
    let g := bankWrites ownSecurity q.dst (packed l) s
    if g.resp = .ok then ⟨0, l.length, g.st⟩ else secEnd 4 g.st

/-- Run `f` on the octets of a field, or end with BAD_ARG. -/
def withOctets (a n : Nat) (s : State) (f : List Nat → State → SecOut) : SecOut :=
  match secRead a n s with
  | (some l, t) => f l t
  | (none, t) => secEnd 4 t

/-- R400, operation 1: SHA3-512 of octets. -/
def opHash (q : Req) (s : State) : SecOut :=
  withOctets q.src q.slen s (fun l t => secPut q (octets 64 (Config.sha3 l % 2 ^ 512)) t)

/-- R400, operation 2: SHA3-512 of words. -/
def opHashw (q : Req) (s : State) : SecOut :=
  let n := q.slen * 2 / 9
  if !s.secRange q.src n then secEnd 4 s
  else match bankReads ownSecurity q.src n s with
    | (some ws, t) => secPut q (octets 64 (Config.sha3Words ws % 2 ^ 512)) t
    | (none, t) => secEnd 4 t

/-- R400, operation 3: ML-DSA-87 verification. -/
def opVerify (q : Req) (s : State) : SecOut :=
  if q.dlen < 2592 then secEnd 4 s
  else withOctets q.dst 2592 s (fun key t => withOctets q.aux q.alen t (fun sig u => withOctets q.src q.slen u (fun m v =>
    secEnd (if q.alen = 4627 ∧ Config.mldsaVerify key sig m Ctx.sw.num then 0 else 7) v)))

/-- R400, R401, operation 4: a signature with the identity key; `tired`: 200 iterations were not enough. -/
def opSign (tired : Bool) (q : Req) (s : State) : SecOut :=
  if !s.on SEC.STATUS.TRNGOK then secEnd 8 s
  else withOctets q.src q.slen s (fun m t =>
    if q.dlen < 4627 ∨ !t.secRange q.dst (octetWords 4627) then secEnd 4 t
    else if tired then secEnd 8 t
    else secPut q (fitOctets 4627 (Config.mldsaSign t.otp.seed m Ctx.sw.num (Config.freeValue t.free))) t.draw)

/-- R400, operation 5: TRNG octets. -/
def opRandom (q : Req) (s : State) : SecOut :=
  if !s.on SEC.STATUS.TRNGOK then secEnd 8 s
  else secPut q (freeOctets s.free q.slen) (s.drawn q.slen)

/-- R400, operation 6: 32 octets into a handle. -/
def opKeyload (q : Req) (s : State) : SecOut :=
  if q.key < 8 then secEnd 4 s
  else withOctets q.src 32 s (fun l t => ⟨0, 0, putHandle q.key (ofOctets l) t⟩)

/-- R400, operation 7: AES-256-GCM with the tag appended. -/
def opGcmEnc (q : Req) (s : State) : SecOut :=
  match s.handle q.key with
  | none => secEnd 4 s
  | some k => withOctets q.aux 12 s (fun iv t => withOctets q.src q.slen t (fun m u =>
      let r := Config.gcmSeal k iv [] m
      secPut q (fitOctets q.slen r.1 ++ fitOctets 16 r.2) u))

/-- R400, operation 8: AES-256-GCM, the tag checked. -/
def opGcmDec (q : Req) (s : State) : SecOut :=
  match s.handle q.key with
  | none => secEnd 4 s
  | some k =>
    if q.slen < 16 then secEnd 4 s
    else withOctets q.aux 12 s (fun iv t => withOctets q.src q.slen t (fun m u =>
      match Config.gcmOpen k iv [] (m.take (q.slen - 16)) (m.drop (q.slen - 16)) with
      | none => secEnd 7 u
      | some p => secPut q (fitOctets (q.slen - 16) p) u))

/-- R399: requests run one at a time: an operation runs where the head request asks for it and has not run yet. -/
def runHead (op : Nat) (f : Req → State → SecOut) (s : State) : State :=
  match s.sec.queue, s.sec.done with
  | (_, ws) :: _, none =>
    if (reqOf ws).op = op then
      let r := f (reqOf ws) s
      r.st.setSec { r.st.sec with done := some (r.status, r.octs) }
    else s
  | _, _ => s

/-- HASH: the head request's SHA3-512 of octets (R183, R400). -/
def execHash (s : State) : Out := .next (runHead 1 opHash s)

/-- HASHW: the head request's SHA3-512 of words (R400). -/
def execHashw (s : State) : Out := .next (runHead 2 opHashw s)

/-- VERIFY: the head request's verification (R400). -/
def execVerify (s : State) : Out := .next (runHead 3 opVerify s)

/-- SIGN: the head request's signature (R400 to R402). -/
def execSign (tired : Bool) (s : State) : Out := .next (runHead 4 (opSign tired) s)

/-- RANDOM: the head request's TRNG octets (R400, R401). -/
def execRandom (s : State) : Out := .next (runHead 5 opRandom s)

/-- KEYLOAD: the head request's key (R400). -/
def execKeyload (s : State) : Out := .next (runHead 6 opKeyload s)

/-- GCM_ENC: the head request's encryption (R400). -/
def execGcmEnc (s : State) : Out := .next (runHead 7 opGcmEnc s)

/-- GCM_DEC: the head request's decryption (R400). -/
def execGcmDec (s : State) : Out := .next (runHead 8 opGcmDec s)

/-- QCNT follows the queue. -/
def secShow (s : State) : State := s.put SEC.STATUS.QCNT s.sec.queue.length

/-- R400: an OP of the table. -/
def opKnown (op : Nat) : Bool := decide (1 ≤ op) && decide (op ≤ 8)

/-- SECURITY_REQUEST_DONE: the head request completes: its operation has run, or its OP is reserved (R399, R400). -/
def execSecurityRequestDone (s : State) : Out :=
  .next (match s.sec.queue with
    | [] => s
    | (k, ws) :: rest =>
      let res := match s.sec.done with
        | some r => some r
        | none => if opKnown (reqOf ws).op then none else some (4, 0)
      match res with
      | none => s
      | some r => secShow (s.setSec { s.sec with
          queue := rest
          done := none
          results := s.sec.results ++ [(k, r.1, r.2)] }))

/-- R276, R399: the requests of cores that are accepted and wait for their agreement token (log 166). -/
def State.waitingSubmits (s : State) : Nat :=
  ((List.range 8).map (fun c => ((s.core c).held.filter (fun ws => ws.any (fun w => decide (2 ^ 32 ≤ w.1)))).length)).foldl (· + ·) 0

/-- R214, R399: SUBMIT: the ticket of an accepted request, and the state after it; or the word of a refusal, which names no ticket: those
bits are free. -/
def secTicket (s : State) : (Nat ⊕ Nat) × State :=
  if 8 ≤ s.sec.queue.length + s.waitingSubmits then (.inl (8 * 2 ^ 32 + Config.freeValue s.free % 256), s.draw)
  else
    let k := s.sec.next
    (.inr k, s.setSec { s.sec with next := (k + 1) % 256, results := s.sec.results.filter (fun r => r.1 != k) })

/-- R399: an accepted request, whose descriptor stands at `a`, is queued; an island that has gone takes none. -/
def secTake (k a : Nat) (s : State) : State :=
  if 2 ≤ s.island 29 then s
  else
    let d := if s.secRange a 8 then bankReads ownSecurity a 8 s else (none, s)
    secShow (d.2.setSec { d.2.sec with queue := d.2.sec.queue ++ [(k, d.1.getD [])] })

/-- R214, R399: POLL of a ticket. R399 gives bits 7:0 both the ticket and the low octets' count: where they differ, which one
stands is free. So is STATUS of a request that is not complete. -/
def secPoll (ticket : Nat) (s : State) : Nat × State :=
  match s.sec.results.find? (fun r => r.1 == ticket) with
  | some (_, st, n) =>
    let low := if Config.freeValue s.free % 2 = 0 then ticket else n % 256
    (st * 2 ^ 32 + 2 ^ 31 + bits n 8 16 * 256 + low, s.draw)
  | none =>
    if s.sec.queue.any (fun q => q.1 == ticket) then
      (Config.freeValue s.free % 16 * 2 ^ 32 + ticket, s.draw)
    else (4 * 2 ^ 32 + ticket, s)

/-! ### TRNG (R401) -/

/-- TRNG_HEALTH: the health test fails (R401). -/
def execTrngHealth (s : State) : Out := .next ((s.put SEC.STATUS.TRNGOK 0).report .trngHealth 0 0)

/-- TRNG_HEALTH_PASS: the health test passes again (R401). -/
def execTrngHealthPass (s : State) : Out := .next (s.put SEC.STATUS.TRNGOK 1)

end Sys2Proof.Machine
end

