-- ==== Sys2Proof/Machine/Debug.lean ====
section
/-! DEFINITION. Authenticated debug (R405 to R407). -/

namespace Sys2Proof.Machine

/-- A completion in DEBUG.RES. -/
def debugResult (code status pending : Nat) (s : State) : State :=
  ((s.put DBG.RES.CODE code).put DBG.RES.STATUS status).put DBG.RES.PENDING pending

/-- OPEN follows the level and UNLOCKED, and with it which HALT bits stop their cores (R407). -/
def openShow (s : State) : State := haltShow (s.putB DBG.STATUS.OPEN s.debugOpen)

/-- R406: an UNLOCK ends with AUTH: it counts, and the third one locks out. -/
def debugDenied (s : State) : State :=
  let n := min 3 (s.get DBG.STATUS.FAILS + 1)
  let s1 := (s.put DBG.STATUS.FAILS n).putIf (n == 3) DBG.STATUS.LOCKOUT 1
  debugResult 2 7 0 (s1.report .debugDenied 0 n)

/-- R406: CHALLENGE. -/
def debugChallenge (s : State) : State :=
  let m := octets 18 s.uid ++ freeOctets s.free 32 ++ octets 2 (s.get DBG.STATUS.FAILS)
  let s1 := putDigest DBG.CHAL.W (Config.sha3 m % 2 ^ 512) (s.drawn 32)
  debugResult 1 0 0 ((s1.setSec { s1.sec with fresh := true, words := [] }).put DBG.RESPCNT.COUNT 0)

/-- R406: UNLOCK: at level 2 and in lockout always AUTH; else its verification begins. -/
def debugUnlock (s : State) : State :=
  if s.otp.level = 2 ∨ s.on DBG.STATUS.LOCKOUT then debugDenied s
  else if !s.sec.fresh || s.get DBG.RESPCNT.COUNT != 1805 then debugResult 2 4 0 s
  else debugResult 2 0 1 s

/-- R406: LOCK. -/
def debugLock (s : State) : State := debugResult 3 0 0 (openShow (s.put DBG.STATUS.UNLOCKED 0))

/-- R406: a write to DEBUG.CMD. -/
def debugCommand (agent code : Nat) (s : State) : State :=
  if agent != ownDebug then s.answer agent .busOwn 0 0
  else
    let s1 :=
      if s.on DBG.RES.PENDING then debugResult code 8 1 s
      else match code with
        | 1 => debugChallenge s
        | 2 => debugUnlock s
        | 3 => debugLock s
        | k => debugResult k 4 0 s
    s1.answer agent .ok 0 0

/-- R406: a write to RESP: the next word of key or signature. -/
def debugResp (agent v : Nat) (s : State) : State :=
  if agent != ownDebug then s.answer agent .busOwn 0 0
  else
    let s1 := s.setSec { s.sec with words := if s.sec.words.length < 1805 then s.sec.words ++ [v % 2 ^ 36] else s.sec.words }
    (s1.incSat DBG.RESPCNT.COUNT).answer agent .ok 0 0

/-- R406: key and signature answer the challenge. -/
def State.debugAnswers (s : State) : Bool :=
  let key := unpackOctets (s.sec.words.take 648)
  let sig := (unpackOctets ((s.sec.words.drop 648).take 1157)).take 4627
  s.otp.dbg == some (Config.sha3 key % 2 ^ 512) && Config.mldsaVerify key sig (octets 64 (s.digest DBG.CHAL.W)) Ctx.dbg.num

/-- UNLOCK_DONE: the verification of an UNLOCK ends; at level 2, reached meanwhile, and in lockout with AUTH (R406). -/
def execUnlockDone (s : State) : Out :=
  .next (if !s.on DBG.RES.PENDING then s
    else
      let s1 := s.setSec { s.sec with fresh := false }
      if s.debugAnswers && decide (s.otp.level ≠ 2) && !s.on DBG.STATUS.LOCKOUT then
        debugResult 2 0 0 (openShow ((s1.put DBG.STATUS.UNLOCKED 1).report .debugUnlock 0 0))
      else debugDenied s1)

/-- R407: a write to CORECTL: cores stop at a boundary, and a step lets one of them run one instruction or element. -/
def coreCtlWrite (agent v : Nat) (s : State) : State :=
  if agent != ownDebug || !s.debugOpen then s.answer agent .busOwn 0 0
  else
    let s1 := haltShow (s.put DBG.CORECTL.HALT v)
    let s2 := ((List.range 8).filter (fun c => bitOf v (8 + c) && s1.coreHalted c)).foldl (fun u c =>
      u.putCore c { u.core c with step := true }) s1
    s2.answer agent .ok 0 0

/-- R405: an instruction other than EXTEST, or a reset, of the TAP. BYPASS captures a 0, SAMPLE/PRELOAD the levels of the pins, and
TRSTn or Test-Logic-Reset leaves IDCODE (IEEE 1149.1; PRESUMED, log 149). -/
def tapOther (x : TapOp) (s : State) : State := match x with
  | .bypass => tapTo .bypass [false] s
  | .idcode => tapTo .idcode idcodeBits s
  | .sample levels => tapTo .boundary levels s
  | .reset => (tapTo .idcode idcodeBits s).put DBG.STATUS.TAP 0

/-- EXTEST: the boundary-scan pins are driven while the CUT latch is set and access is open; else it acts as BYPASS (R405). -/
def execExtest (pins : List Bool) (s : State) (tap : Option TapOp := none) : Out :=
  .next (match tap with
    | some x => tapOther x s
    | none =>
      if s.on PORTS.CUTSTAT.LATCH && s.debugOpen then
        let t := tapTo .boundary [] s
        t.setSec { t.sec with scan := pins }
      else tapTo .bypass [false] s)

end Sys2Proof.Machine
end

