-- ==== Sys2Proof/Machine/Banks.lean ====
section
/-! DEFINITION. Banks and mailboxes: owner writes and the scrub (R300 to R308). -/

namespace Sys2Proof.Machine

/-- R300, R304: the owner of a bank becomes `o`; a release clears PEER. -/
def bankOwn (b o : Nat) (s : State) : State :=
  (s.put (BANKS.OWNER.OWNER b) o).putIf (o == 0) (BANKS.OWNER.PEER b) 0

/-- R7, R300: a write of `o` into an owner field by an agent that may write it. -/
def bankOwnIf (b o : Nat) (s : State) : State := if validOwner s.split o then bankOwn b o s else s

/-- R300, R304, R7: a write to BKnn.OWNER or MBn.OWNER. -/
def bankOwnerWrite (agent b v : Nat) (s : State) : State :=
  let old := s.get (BANKS.OWNER.OWNER b)
  let new := bits v 0 8
  let peer := bits v 8 8
  if old = 0 then (bankOwnIf b new s).answer agent .ok 0 0
  else if agent ≠ old then s.answer agent .busOwn 0 0
  else
    let s1 := s.putIf (decide (64 ≤ b) && validOwner s.split peer) (BANKS.OWNER.PEER b) peer
    (bankOwnIf b new s1).answer agent .ok 0 0

/-- R307: every bank that is not Red has completed a pass since the last round. -/
def State.scrubRound (s : State) : Bool :=
  (List.range 68).all (fun b => s.on (BANKS.STATUS.RED b) || (s.bank b).passed)

/-- R307: a round ends. -/
def scrubRoundEnd (s : State) : State :=
  if s.scrubRound then
    (List.range 68).foldl (fun t b => t.putBank b { t.bank b with passed := false }) (s.inc BANKS.SCRUB.PASSES)
  else s

/-- R306: the scrub meets a word. -/
def scrubMeet (b a : Nat) (s : State) : State :=
  match s.markAt a with
  | none => s
  | some false => bankError b a false s
  | some true => bankError b a true (s.putBank b { s.bank b with dues := (s.bank b).dues + 1 })

/-- R308: 8 uncorrectable words in one pass take the bank out. -/
def bankRedCheck (b : Nat) (s : State) : State :=
  if 8 ≤ (s.bank b).dues then (s.put (BANKS.STATUS.RED b) 1).report .bankRed (elBank b) 0 else s

/-- R307: the scrub moves on to the next word; past the last one its pass is complete. -/
def scrubNext (b : Nat) (s : State) : State :=
  let x := s.bank b
  if x.pos + 1 < bankLen b then s.putBank b { x with pos := x.pos + 1 }
  else scrubRoundEnd (s.putBank b ⟨0, 0, true⟩)

/-- R306 to R308: the scrub of a bank takes its next word; that of a Red bank stands still. A bank that goes Red may have been the
last that its round waited for. -/
def bankScrub (b : Nat) (s : State) : State :=
  if s.on (BANKS.STATUS.RED b) then s
  else
    let s1 := bankRedCheck b (scrubMeet b (bankBase b + (s.bank b).pos) s)
    if s1.on (BANKS.STATUS.RED b) then scrubRoundEnd s1 else scrubNext b s1

/-- BANK_SCRUB: the scrub of a bank or mailbox takes its next word; `err` is an error that has struck a word of the banks
before (R306 to R308). -/
def execBankScrub (b : Fin 68) (err : Option (Addr × Bool)) (s : State) : Out :=
  .next (bankScrub b.val (s.strike err 0x01000000 0x01102000))

end Sys2Proof.Machine
end

