-- ==== Sys2Proof/Machine/Dma.lean ====
section
/-! DEFINITION. DMA channels: enable, disable and the start of a transfer (R316, R317). -/

namespace Sys2Proof.Machine

/-- R316: feature and resource of a channel. -/
def dmaFeature (n : Nat) : Nat := 0x500 + n
def dmaRes (n : Nat) : Nat := 0x700 + n

/-- R314: an address that may name a dense block. -/
def denseOk (a : Nat) : Bool := decide (0x80000000 ≤ a) && (a - 0x80000000) % 9 == 0

/-- R316: the channel's modes that move dense blocks. -/
def State.dmaDense (s : State) (n : Nat) : Bool := s.get (DMA.CTRL.MODE n) == 1 || s.get (DMA.CTRL.MODE n) == 2

/-- R316: the arguments that end a transfer with BAD_ARG. -/
def State.dmaBad (s : State) (n : Nat) : Bool :=
  s.get (DMA.CNT.CNT n) == 0 || (s.dmaDense n && s.get (DMA.CNT.CNT n) % 16 != 0) ||
    (s.get (DMA.CTRL.MODE n) == 1 && !denseOk (s.get (DMA.DST.DST n))) ||
    (s.get (DMA.CTRL.MODE n) == 2 && !denseOk (s.get (DMA.SRC.SRC n) % 2 ^ 32))

/-- R316, R317: a transfer starts, or ends at once with BAD_ARG. -/
def dmaStart (n : Nat) (s : State) : State :=
  if s.dmaBad n then (s.put (DMA.STATUS.STATE n) 4).put (DMA.STATUS.RESP n) 5
  else ((s.put (DMA.STATUS.STATE n) 2).put (DMA.STATUS.RESP n) 0).putDma n
    ⟨s.get (DMA.SRC.SRC n), s.get (DMA.DST.DST n), s.get (DMA.CNT.CNT n), [], 0, (s.dma n).last⟩

/-- R317: a trigger starts a transfer from IDLE or DONE, a GO write also from ERR; in RUN it is discarded with TOVR. -/
def dmaTrigger (n : Nat) (go : Bool) (s : State) : State :=
  match s.get (DMA.STATUS.STATE n) with
  | 1 | 3 => dmaStart n s
  | 2 => s.put (DMA.STATUS.TOVR n) 1
  | 4 => if go then dmaStart n s else s
  | _ => s

/-- R316, R31: an enable attempt. -/
def dmaEnable (agent n : Nat) (s : State) : State :=
  let s1 := s.enableFeature agent (dmaFeature n) [dmaRes n]
  if s.enablePasses (dmaFeature n) [dmaRes n] then
    ((s1.put (DMA.CTRL.EN n) 1).put (DMA.CTRL.OWNER n) agent).put (DMA.STATUS.STATE n) 1
  else s1

/-- R33, R318: a disable; bank ownership stays as it stood. -/
def dmaDisable (n : Nat) (s : State) : State :=
  ((((s.disableFeature (dmaFeature n) [dmaRes n]).put (DMA.CTRL.EN n) 0).put (DMA.CTRL.OWNER n) 0).put
    (DMA.STATUS.STATE n) 0).putDma n { DmaSt.atReset n with last := (s.dma n).last }

/-- The fields of a DMnn.CTRL write beside OWNER, GO and EN. -/
def dmaCtrlFields (n v : Nat) (s : State) : State :=
  let s1 := ((s.put (DMA.CTRL.RET n) (bits v 20 8)).put (DMA.CTRL.MODE n) (bits v 18 2)).put (DMA.CTRL.SINC n) (bits v 17 1)
  let s2 := ((s1.put (DMA.CTRL.DINC n) (bits v 16 1)).put (DMA.CTRL.TRG n) (bits v 15 1)).put (DMA.CTRL.EVN n) (bits v 6 9)
  (s2.put (DMA.CTRL.EVQ n) (bits v 5 1)).put (DMA.CTRL.RLD n) (bits v 4 1)

/-- R55, R316: a write to DMnn.CTRL. -/
def dmaCtrlWrite (agent n v : Nat) (s : State) : State :=
  if !ownerGate (s.get (DMA.CTRL.OWNER n)) agent then s.answer agent .busOwn 0 0
  else
    let s1 := dmaCtrlFields n v s
    let s2 :=
      if bitOf v 0 then
        (if s.on (DMA.CTRL.EN n) then s1.handOver (DMA.CTRL.OWNER n) (bits v 28 8) else dmaEnable agent n s1)
      else if s.on (DMA.CTRL.EN n) then dmaDisable n s1 else s1.dropConflict (dmaFeature n)
    (if bitOf v 1 && s2.on (DMA.CTRL.EN n) then dmaTrigger n true s2 else s2).answer agent .ok 0 0

/-- R55, R457: a write to SRC, DST or CNT (`adr`), which are locked while the channel runs. -/
def dmaArgWrite (agent n adr v : Nat) (s : State) : State :=
  if !ownerGate (s.get (DMA.CTRL.OWNER n)) agent then s.answer agent .busOwn 0 0
  else if s.get (DMA.STATUS.STATE n) = 2 then
    (s.putIf ((fields! adr).any (fun f => bits v f.lo f.w != s.get ⟨adr, f.lo, f.w⟩)) (DMA.STATUS.WREJ n) 1).answer agent
      .ok 0 0
  else (s.writeReg adr v false none).answer agent .ok 0 0

/-- DMA_EVENT_TRIGGER: the oldest event EVN that the channel has not seen reaches it (R317). -/
def execDmaEventTrigger (n : Fin 16) (s : State) : Out :=
  .next (if s.on (DMA.CTRL.EN n.val) && s.on (DMA.CTRL.TRG n.val) then
    match s.nextEv (16 + n.val) (fun k => k == s.get (DMA.CTRL.EVN n.val)) with
    | some e => dmaTrigger n.val false (s.sawEv (16 + n.val) e)
    | none => s
  else s)

end Sys2Proof.Machine
end

