-- ==== Sys2Proof/Machine/SlateFrame.lean ====
section
/-! DEFINITION. Slate frames: their checks, the slate numbers, responses and the local port (R414 to R419, R423). -/

namespace Sys2Proof.Machine

def State.setRun (s : State) (r : Option SlateRun) : State := s.setLink { s.link with run := r }
def State.setCutRun (s : State) (l : List SlateRun) : State := s.setLink { s.link with cut := l }

/-- R431: the element of a transport. -/
def elTransport (via : Nat) : Nat := if via < 3 then 0xA00 + (via - 1) else if via < 7 then 0xA10 + (via - 3) else 0xA20

/-! ### Responses (R416) -/

/-- R423: the response goes over the local request, which stands at `area`. -/
def respondLocal (area : Nat) (frame : List Nat) (s : State) : State :=
  let s1 := (bankWrites ownHost area (packed frame) s).st
  (((s1.put ETH.LOCALSTAT.BUSY 0).put ETH.LOCALSTAT.DONE 1).put ETH.LOCALSTAT.RLEN frame.length).raise 325

/-- A frame outside every open session: session 0, a reserved session, or the local port. -/
def sendPlain (r : SlateRun) (num : Nat) (payload : List Nat) (s : State) : State :=
  let frame := slateHeader r.session num r.cmd payload.length true false ++ payload
  if r.via = 7 then respondLocal r.area frame s
  else emit ⟨r.via, none, r.peer, r.session, num, r.cmd, false, payload, [], []⟩ frame s

/-- R416: the response word and the results. -/
def responseBody (r : SlateRun) (status info : Nat) (results : List Nat) (s : State) : List Nat :=
  [status, s.get ETH.SLSTATE.STATE] ++ octets 2 info ++ octets 4 r.slate ++ results

/-- R411, R416: answer a request on the transport it came on, where it came from; one whose session has closed meanwhile is not answered. -/
def respond (r : SlateRun) (status info : Nat) (results : List Nat) (s : State) : State :=
  let body := responseBody r status info results s
  match r.slot with
  | none => (sendPlain r s.link.dev0 body s).setLink
      { (sendPlain r s.link.dev0 body s).link with dev0 := s.link.dev0 + 1 }
  | some k =>
    if s.get (ETH.SESS.NUMBER k) != r.session then s
    else match (s.session k).phase with
      | 0 => s
      | 1 =>
        let u := sendPlain r (s.session k).dev body s
        u.putSession k { u.session k with dev := (s.session k).dev + 1 }
      | _ => sendIn k r.via r.peer r.cmd false body s

/-- The running command completes: the response leaves and the next command may run. -/
def finish (r : SlateRun) (status info : Nat) (results : List Nat) (s : State) : State :=
  let s1 := if r.cmd = 0x23 then s.setCutRun s.link.cut.tail else s.setRun none
  respond r status info results s1

/-- DONE without results. -/
def finishOk (r : SlateRun) (s : State) : State := finish r 0 0 [] s

/-! ### Sessions (R421) -/

/-- A session slot closes, and its handles are erased. -/
def closeSession (k : Nat) (s : State) : State :=
  (((dropHandles (fun h => h == 2 * k || h == 2 * k + 1) s).put (ETH.SESS.TRANSPORT k) 0).put (ETH.SESS.NUMBER k) 0).putSession k
    (SessSt.atReset k)

/-- The slot that holds a session number, open or reserved. -/
def State.slotOf (s : State) (num : Nat) : Option Nat :=
  [0, 1, 2].find? (fun k => (s.session k).phase != 0 && s.get (ETH.SESS.NUMBER k) == num)

/-- R418: a slate number in the window. -/
def SessSt.inWindow (x : SessSt) (n : Nat) : Bool :=
  (decide (x.high < n) && decide (n ≤ x.high + 2 ^ 20)) ||
    (decide (x.high < n + 64) && decide (n ≤ x.high) && !x.seen.contains n)

/-- R418: a slate number is used up. -/
def SessSt.accept (x : SessSt) (n : Nat) : SessSt :=
  let h := max x.high n
  { x with high := h, seen := (n :: x.seen).filter (fun m => decide (h < m + 64)) }

/-! ### The commands' legality (R426) -/

/-- R426: the states in which a command is legal, as the numbers of R422; none: the code is reserved. -/
def legalIn (cmd kind : Nat) : Option (List Nat) :=
  match cmd with
  | 0x01 | 0x03 | 0x04 | 0x11 | 0x12 | 0x13 | 0x23 | 0x26 | 0x31 | 0x40 | 0x41 => some [1, 2, 3, 4, 5]
  | 0x02 | 0x30 => some [1, 2, 3, 4, 5, 6]
  | 0x10 => some (if kind = 4 then [1, 2, 3, 4] else [1])
  | 0x20 => some [1]
  | 0x21 => some [2]
  | 0x22 => some [2, 3]
  | 0x24 => some [4, 5]
  | 0x25 => some [1, 2]
  | 0x38 => some [1, 2, 3, 4, 5]
  | 0x39 => some [1, 5]
  | _ => none

/-- R426: what a frame of session 0 may carry. -/
def zeroMay (cmd sub state : Nat) : Bool := (cmd == 0x01 && sub == 1) || cmd == 0x02 || (cmd == 0x30 && state == 6)

/-- Octets that must be zero are. -/
def zeros (l : List Nat) : Bool := l.all (· == 0)

/-- The number in `n` octets from octet `i`. -/
def at_ (l : List Nat) (i n : Nat) : Nat := ofOctets ((l.drop i).take n)

/-- R429: the octets of one record of a kind. -/
def recordLen (kind : Nat) : Nat := match kind with
  | 1 => 8
  | 2 => 42
  | 3 | 5 => 4
  | 4 => 12
  | _ => 0

/-- R421, R427: what a payload must look like, for a frame of an open session (`here`), of a reserved one, or of the local
port. -/
def shapeOk (cmd : Nat) (p : List Nat) (here reserved loc : Bool) : Bool :=
  let n := p.length
  let sub := p.getD 0 0
  match cmd with
  | 0x01 => match sub with
    | 1 => n == 36 && zeros ((p.drop 1).take 3) && !here && !reserved && !loc
    | 2 => n == 8791 && zeros ((p.drop 1).take 3) && reserved
    | 3 => n == 4 && zeros (p.drop 1) && here
    | 4 => n == 44 && decide (p.getD 1 0 ≤ 1) && decide (p.getD 2 0 ≤ 3) && p.getD 3 0 == 0 && (here || loc)
    | _ => false
  | 0x02 => n == 32
  | 0x03 => n == 6 && decide (1 ≤ at_ p 4 2) && decide (at_ p 4 2 ≤ 1780)
  | 0x04 => decide (8 ≤ n) && decide (1 ≤ at_ p 4 2) && decide (at_ p 4 2 ≤ 1780) && zeros ((p.drop 6).take 2) &&
      (wordFields (at_ p 4 2) (p.drop 8)).isSome
  | 0x10 => decide (4 ≤ n) && decide (1 ≤ sub) && decide (sub ≤ 5) && p.getD 1 0 == 0 &&
      n == 4 + at_ p 2 2 * recordLen sub && (decide (sub < 4) || at_ p 2 2 == 1)
  | 0x11 => n == 4
  | 0x12 => decide (4 ≤ n) && n == 4 + 4 * at_ p 0 2 && zeros ((p.drop 2).take 2)
  | 0x13 => decide (1 ≤ sub) && decide (sub ≤ 8) && zeros ((p.drop 1).take 3) && n == 4 + 50 * sub
  | 0x20 | 0x21 | 0x22 | 0x23 | 0x24 | 0x25 | 0x38 => n == 0
  | 0x26 => n == 4 && decide (sub ≤ 1) && zeros (p.drop 1)
  | 0x30 => decide (12 ≤ n) && decide (p.getD 1 0 ≤ 3) && zeros ((p.drop 2).take 2) && zeros ((p.drop 10).take 2) &&
      (match sub with
      | 1 | 3 => n == 12
      | 2 => decide (1 ≤ at_ p 8 2) && decide (at_ p 8 2 ≤ 1776) && at_ p 8 2 % 16 == 0 && at_ p 4 4 % 16 == 0 &&
          (wordFields (at_ p 8 2) (p.drop 12)).isSome
      | _ => false)
  | 0x31 => n == 4 && decide (sub ≤ 3) && decide (p.getD 1 0 ≤ 1) && zeros (p.drop 2)
  | 0x39 => (wordFields 195 p).isSome
  | 0x40 => n == 10 && decide (1 ≤ sub) && decide (sub ≤ 4) && decide (p.getD 1 0 < 32) && zeros ((p.drop 2).take 2) &&
      (sub != 2 || (decide (1 ≤ at_ p 8 2) && decide (at_ p 8 2 ≤ 890)))
  | 0x41 => n == 4 && decide (p.getD 3 0 < 4)
  | _ => false

/-- R417 step 9 for the payload's form. -/
def State.shapeFits (s : State) (r : SlateRun) : Bool :=
  let ph := match r.slot with
    | some k => (s.session k).phase
    | none => 0
  shapeOk r.cmd r.payload (ph == 2) (ph == 1) (r.via == 7)

/-- R417, steps 6 to 9: a frame that passed the checks of its session. -/
def slateTake (r : SlateRun) (s : State) : State :=
  match legalIn r.cmd (r.payload.getD 0 0) with
  | none => respond r 4 0 [] s
  | some l =>
    if r.cmd ≠ 0x23 ∧ (s.link.run.isSome ∨ s.link.cut ≠ []) then respond r 8 0 [] s
    else if !l.contains (s.get ETH.SLSTATE.STATE) then respond r 1 0 [] s
    else if !s.shapeFits r then respond r 4 0 [] s
    else
      let s1 := if r.via = 7 then s.put ETH.LOCALSTAT.BUSY 1 else s
      if r.cmd = 0x23 then s1.setCutRun (s1.link.cut ++ [r]) else s1.setRun (some r)

/-- R417 step 1: MAGIC, VERSION, LEN and the length of the frame, with a tag where one is due. -/
def frameSound (tagged : Bool) (f : List Nat) : Bool :=
  let len := ofOctets ((f.drop 8).take 2)
  decide (16 ≤ f.length) && f.getD 0 0 == 0x53 && f.getD 1 0 == 0x4C && f.getD 2 0 == 1 && decide (len ≤ 8968) &&
    f.length == 16 + len + (if tagged then 16 else 0)

/-- A frame's request, its payload as it came; that of a local frame stands at `area`. -/
def runOf (via : Nat) (peer : Nat × Nat) (slot : Option Nat) (f : List Nat) (area : Nat := 0) : SlateRun :=
  ⟨via, peer, slot, ofOctets ((f.drop 12).take 4), ofOctets ((f.drop 4).take 4), f.getD 3 0,
    (f.drop 16).take (ofOctets ((f.drop 8).take 2)), area, 0, 0xFFF⟩

def badFrame (s : State) : State := s.incSat ETH.SLCNT.BADFRAME

/-- R417 step 3: a frame that fails its authentication. -/
def authDrop (via : Nat) (s : State) : State := (s.incSat ETH.SLCNT.AUTHDROP).report .slateAuth (elTransport via) 0

/-- R417 step 4: a slate number outside R418. -/
def replayDrop (r : SlateRun) (s : State) : State :=
  respond r 6 0 [] ((s.incSat ETH.SLCNT.REPLAY).report .slateReplay (elTransport r.via) 0)

/-- R417, steps 3 to 5 of a frame in an open session. -/
def slateOpen (k : Nat) (r : SlateRun) (notag : Bool) (f : List Nat) (s : State) : State :=
  let clear := s.macsec r.via
  let body := if clear then some r.payload
    else Config.gcmOpen ((s.handle (2 * k)).getD 0) (slateIv r.session r.slate 0) (f.take 16) r.payload (f.drop (16 + r.payload.length))
  if notag != clear then authDrop r.via s
  else match body with
  | none => authDrop r.via s
  | some p =>
    if !(s.session k).inWindow r.slate then replayDrop r s
    else slateTake { r with payload := fitOctets r.payload.length p } ((s.put (ETH.SESS.TRANSPORT k) r.via).putSession k
      { (s.session k).accept r.slate with last := s.t, peer := r.peer })

/-- R422: in BOOT and SLEEP no frame is answered. -/
def State.silent (s : State) : Bool := s.devIs .boot || s.devIs .sleep

/-- R417: the checks of a frame that came over a MAC or CAN. Its NOTAG flag tells step 1 whether a tag is due. -/
def slateFrame (via : Nat) (peer : Nat × Nat) (f : List Nat) (s : State) : State :=
  let notag := bitOf (f.getD 11 0) 1
  let r := runOf via peer none f
  let sub := r.payload.getD 0 0
  if s.silent then s
  else if !frameSound (!notag) f then badFrame s
  else if r.session = 0 then
    (if !notag then authDrop via s
    else if !zeroMay r.cmd sub (s.get ETH.SLSTATE.STATE) then respond r 7 0 [] s
    else slateTake r s)
  else match s.slotOf r.session with
    | none => respond { r with session := 0 } 7 0 [] s
    | some k =>
      let q := { r with slot := some k }
      if (s.session k).phase = 1 then
        (if !(r.cmd == 0x01 && sub == 2) then respond { r with session := 0 } 7 0 [] s
        else if !notag then authDrop via s
        else if r.slate ≠ 1 then replayDrop q s
        else slateTake q (s.put (ETH.SESS.TRANSPORT k) via))
      else slateOpen k q notag f s

/-- SLATE_FRAME: a whole Slate frame arrives over a transport (1, 2 MAC; 3 to 6 CAN) from an address and port (R417). -/
def execSlateFrame (via : BitVec 3) (src : BitVec 128) (port : BitVec 16) (frame : List (BitVec 8)) (s : State) : Out :=
  .next (onFrame (s.carries via.toNat) (fun s =>
    if s.carries via.toNat then
      slateFrame via.toNat (src.toNat, port.toNat) (frame.map BitVec.toNat)
        (if via.toNat < 3 then s.inc (MAC.RXCNT.COUNT (via.toNat - 1)) else s)
    else s) s)

/-! ### The local port (R423) -/

/-- R423: the mailboxes of the frame area, when it lies in one or two adjacent ones. -/
def areaBoxes (a : Nat) : Option (List Nat) :=
  match bankOf? a, bankOf? (a + 2245) with
  | some b, some c => if 64 ≤ b ∧ c ≤ b + 1 then some (if b = c then [b] else [b, c]) else none
  | _, _ => none

/-- R423: the area is usable. -/
def State.areaOk (s : State) : Bool :=
  match areaBoxes (s.get ETH.LOCALBUF.ADDR) with
  | none => false
  | some l => l.all (fun b =>
      s.get (BANKS.OWNER.OWNER b) == s.get ETH.LOCALCTL.OWNER && s.get (BANKS.OWNER.PEER b) == ownHost)

/-- R423: a local frame that step 1 drops. -/
def localDrop (s : State) : State := (((badFrame s).put ETH.LOCALSTAT.DONE 1).put ETH.LOCALSTAT.RLEN 0).raise 325

/-- R423: run the local frame. -/
def localGo (s : State) : State :=
  let len := s.get ETH.LOCALCTL.LEN
  if s.on ETH.LOCALSTAT.BUSY || s.silent then s
  else if !s.areaOk then s.put ETH.LOCALSTAT.BADBUF 1
  else if 8984 < len then localDrop s
  else
    let a := s.get ETH.LOCALBUF.ADDR
    let g := bankReads ownHost a ((len + 3) / 4) s
    let f := (unpackOctets (g.1.getD [])).take len
    if !frameSound false f then localDrop g.2
    else if !s.on ETH.LOCALEN.EN then respond (runOf 7 (0, 0) none f a) 7 0 [] g.2
    else slateTake (runOf 7 (0, 0) none f a) g.2

/-- R4, R34, R423: a write to LOCALCTL. The owner's write sets every field it carries, also where it releases the claim. One to a free
word that does not claim it for its writer sets OWNER alone, and its LEN and GO are discarded (DESIGN CHOICE, log 163). -/
def localCtlWrite (agent v : Nat) (s : State) : State :=
  let old := s.get ETH.LOCALCTL.OWNER
  let new := bits v 28 8
  if old != 0 && old != agent then s.answer agent .busOwn 0 0
  else
    let s1 := if validOwner s.split new then s.put ETH.LOCALCTL.OWNER new else s
    if old = 0 ∧ (new ≠ agent ∨ s1.get ETH.LOCALCTL.OWNER = 0) then s1.answer agent .ok 0 0
    else
      let s2 := s1.put ETH.LOCALCTL.LEN (bits v 1 14)
      (if bitOf v 0 then localGo s2 else s2).answer agent .ok 0 0

/-- R423: a write to LOCALBUF. -/
def localBufWrite (agent v : Nat) (s : State) : State :=
  if s.get ETH.LOCALCTL.OWNER != agent then s.answer agent .busOwn 0 0
  else (s.put ETH.LOCALBUF.ADDR v).answer agent .ok 0 0

/-! ### Timeouts (R421) -/

/-- R421: SESSTO; 0 acts as 1. -/
def State.sessTicks (s : State) : Nat := max 1 (s.get ETH.SESSTO.SECS) * 1500000000

/-- KEYX_TIMEOUT: a reserved session has waited 1 s for its KEYX (R421). -/
def execKeyxTimeout (k : Fin 3) (s : State) : Out :=
  .next (if (s.session k.val).phase = 1 then
    closeSession k.val (s.advanceTo ((s.session k.val).opened + 1500000000))
  else s)

/-- SESSION_TIMEOUT: an open session has received no accepted frame for SESSTO seconds (R421). -/
def execSessionTimeout (k : Fin 3) (s : State) : Out :=
  .next (if (s.session k.val).phase = 2 then
    closeSession k.val (s.advanceTo ((s.session k.val).last + s.sessTicks))
  else s)

end Sys2Proof.Machine
end

