-- ==== Sys2Proof/Machine/Links.lean ====
section
/-! DEFINITION. The links: MACs, 802.1AS, MDIO, CAN, SPI and UART (R409 to R413, R431 to R433, R443). -/

namespace Sys2Proof.Machine

def putOut (o : LinkOut) (s : State) : State := s.setLink { s.link with outs := s.link.outs ++ [o] }

/-! ### MAC frames (R409 to R411) -/

/-- R409: the device's own addresses on a MAC: IPv4, and IPv6 link-local by modified EUI-64 and global. -/
def State.mac48 (s : State) (m : Nat) : Nat := s.get (MAC.ADDRH.ADDR m) * 2 ^ 32 + s.get (MAC.ADDRL.ADDR m)
def eui64 (a : Nat) : Nat := (a / 2 ^ 24 * 2 ^ 40 + 0xFFFE * 2 ^ 24 + a % 2 ^ 24) ^^^ (2 * 2 ^ 56)
def State.linkLocal (s : State) (m : Nat) : Nat := 0xFE80 * 2 ^ 112 + eui64 (s.mac48 m)
def State.global6 (s : State) (m : Nat) : Nat := (List.range 4).foldl (fun a j => a * 2 ^ 32 + s.get (MAC.IP6.ADDR m j)) 0
def State.ownAddr (s : State) (m : Nat) (v6 : Bool) (a : Nat) : Bool :=
  if v6 then s.on (MAC.CTRL.IP6EN m) && (a == s.linkLocal m || (a != 0 && a == s.global6 m))
  else s.on (MAC.CTRL.IP4EN m) && a == s.get (MAC.IP4.ADDR m)

/-- R409: the 802.1Q tag a frame carries fits the MAC. -/
def State.vlanFits (s : State) (m : Nat) (tag : Option Nat) : Bool :=
  if s.on (MAC.CTRL.VLANEN m) then tag == some (s.get (MAC.VLAN.VID m)) else tag == none

def macDrop (m : Nat) (s : State) : State := s.inc (MAC.DROPCNT.COUNT m)
def macTake (m : Nat) (s : State) : State := s.inc (MAC.RXCNT.COUNT m)

/-- R411: the datagram under reassembly that a fragment belongs to. -/
def Frag.same (x y : Frag) : Bool :=
  x.mac == y.mac && x.v6 == y.v6 && x.src == y.src && x.dst == y.dst && x.ident == y.ident

/-- R411: the octets of a datagram whose pieces are all here, from octet `at_` on; `n` bounds the pieces. -/
def joinParts : Nat → Nat → List (Nat × List Nat) → List Nat
  | 0, _, _ => []
  | n + 1, at_, l =>
    match l.find? (fun p => decide (p.1 ≤ at_) && decide (at_ < p.1 + p.2.length)) with
    | none => []
    | some p => p.2.drop (at_ - p.1) ++ joinParts n (p.1 + p.2.length) l

/-- R410, R411: a whole datagram: source port, destination port, octets; one to another port is dropped. -/
def udpDeliver (m : Nat) (src : Nat) (d : List Nat) (s : State) : State :=
  if ofOctets ((d.drop 2).take 2) = s.get (MAC.PORT.PORT m) ∧ s.carries (m + 1) then
    slateFrame (m + 1) (src, ofOctets (d.take 2)) (d.drop 8) (macTake m s)
  else macDrop m s

/-- R411: 100 ms in ticks. -/
def reassemblyTicks : Nat := 150000000

/-- R411: a datagram or a fragment of one, addressed to the MAC. -/
def ipTake (m : Nat) (v6 : Bool) (src dst ident off : Nat) (more : Bool) (data : List Nat) (s : State) : State :=
  if off = 0 ∧ !more then udpDeliver m src data s
  else
    let key : Frag := ⟨m, v6, src, dst, ident, [], none, s.t⟩
    let old := s.link.frags.find? (fun x => x.same key && decide (s.t ≤ x.at_ + reassemblyTicks))
    let x := old.getD key
    let y : Frag := { x with parts := x.parts ++ [(off, data)], total := if more then x.total else some (off + data.length) }
    let rest := s.link.frags.filter (fun z => !z.same key)
    let whole := joinParts y.parts.length 0 y.parts
    if 9028 < off + data.length then macDrop m (s.setLink { s.link with frags := rest })
    else if y.total = some whole.length then udpDeliver m src whole (s.setLink { s.link with frags := rest })
    else (macTake m s).setLink { s.link with frags := rest ++ [y] }

/-- R409, R410: what a MAC that runs does with a frame. -/
def macFrame (m : Nat) (f : MacFrame) (s : State) : State :=
  match f with
  | .arp a => if s.ownAddr m false a.toNat then macTake m (putOut (.arp m (s.vlanTag m) a.toNat) s) else macDrop m s
  | .nd a => if s.ownAddr m true a.toNat then macTake m (putOut (.nd m (s.vlanTag m) a.toNat) s) else macDrop m s
  | .echo v6 src dst data =>
    if s.ownAddr m v6 dst.toNat then macTake m (putOut (.echo m (s.vlanTag m) src.toNat (data.map BitVec.toNat)) s) else macDrop m s
  | .udp v6 src dst ident off more data =>
    if s.ownAddr m v6 dst.toNat then ipTake m v6 src.toNat dst.toNat ident.toNat off.toNat more (data.map BitVec.toNat) s
    else macDrop m s
  | .other => macDrop m s

/-- MAC_FRAME_RECEIVE: a frame arrives on a MAC, with its 802.1Q tag and whether it came under MACsec (R409 to R411, R421). -/
def execMacFrameReceive (m : Fin 2) (vlan : Option (BitVec 12)) (secure : Bool) (f : MacFrame) (s : State) : Out :=
  .next (onFrame (s.macRuns m.val) (fun s =>
    if !s.macRuns m.val then s
    else if s.on (MAC.CTRL.MACSEC m.val) != secure || !s.vlanFits m.val (vlan.map BitVec.toNat) then macDrop m.val s
    else macFrame m.val f s) s)

/-- REASSEMBLY_TIMEOUT: the oldest incomplete datagram has waited 100 ms (R411). -/
def execReassemblyTimeout (s : State) : Out :=
  .next (match s.link.frags with
    | [] => s
    | x :: t => (s.advanceTo (x.at_ + reassemblyTicks)).setLink { s.link with frags := t })

/-! ### 802.1AS (R413) -/

/-- R413: the MAC that runs 802.1AS. -/
def State.ptpRuns (s : State) (m : Nat) : Bool := s.on (MAC.CTRL.PTP m) && (m == 0 || !s.on (MAC.CTRL.PTP 0))

/-- R413: a Sync is stamped: OFS and RATE follow it. -/
def syncStamp (m g : Nat) (s : State) : State :=
  let rate := Config.freeValue s.free % 2 ^ 36
  let old : Nat := s.get (MAC.OFSH.OFS m) * 2 ^ 36 + s.get (MAC.OFSL.OFS m)
  let new := unsgn 64 ((g : Int) - (s.t * rate / 2 ^ 32 : Nat))
  let corr := clampInt (-32768) 32767 (sgn 64 (unsgn 64 ((new : Int) - (old : Int))))
  let s1 := (s.draw.put (MAC.RATE.RATE m) rate).put (MAC.OFSH.OFS m) (new / 2 ^ 36)
  (s1.put (MAC.OFSL.OFS m) new).put (MAC.PTPSTAT.CORR m) (unsgn 16 corr)

/-- R413: a Sync is taken. IS28 stamps none while its replica waits for a sync word (R20; what follows of such a Sync is DESIGN
CHOICE, log 147). -/
def syncTake (m g : Nat) (s : State) : State :=
  let s1 := (macTake m (if s.unsynced 28 then s else syncStamp m g s)).put (MAC.PTPSTAT.LOCK m) 1
  s1.setLink { s1.link with syncs := (m, s.t) :: s1.link.syncs.filter (fun x => x.1 != m) }

/-- PTP_SYNC: a Sync arrives; `g` is the gPTP time of this tick in ns. The new RATE is free, and OFS makes g = OFS + timecode ×
RATE × 2^−32 (R413). -/
def execPtpSync (m : Fin 2) (g : BitVec 64) (s : State) : Out :=
  .next (onFrame (s.macRuns m.val) (fun s =>
    if s.macRuns m.val && s.ptpRuns m.val then syncTake m.val g.toNat s else s) s)

/-- PTP_LOST: no Sync has arrived for 3 s (R413). -/
def execPtpLost (m : Fin 2) (s : State) : Out :=
  .next (if s.on (MAC.PTPSTAT.LOCK m.val) then
    let last := ((s.link.syncs.find? (fun x => x.1 == m.val)).map (fun x => x.2)).getD 0
    ((s.advanceTo (last + 4500000000)).put (MAC.PTPSTAT.LOCK m.val) 0).report .ptpLost (elTransport (m.val + 1)) 0
  else s)

/-! ### The link of a MAC (R410, R431) -/

/-- LINK_DOWN: SGMII sync or PHY link has been absent for 10 ms (R431). -/
def execLinkDown (m : Fin 2) (sync : Bool) (s : State) : Out :=
  .next (if s.on (MAC.CTRL.EN m.val) then
    (((s.putB (MAC.STATUS.SYNC m.val) sync).put (MAC.STATUS.LINK m.val) 0).put (MAC.STATUS.LINKDN m.val) 1).report .linkDown
      (elTransport (m.val + 1)) 0
  else s)

/-- LINK_UP: the SGMII partner gains sync and indicates its link, at 1000 Mbit/s full duplex or not (R410). -/
def execLinkUp (m : Fin 2) (gigabit : Bool) (s : State) : Out :=
  .next (if s.on (MAC.CTRL.EN m.val) then
    ((s.put (MAC.STATUS.SYNC m.val) 1).put (MAC.STATUS.LINK m.val) 1).putB (MAC.STATUS.SPEEDERR m.val) (!gigabit)
  else s)

/-- A write to MACm.CTRL: R433 makes each MAC a feature that claims nothing. -/
def macCtrlWrite (agent m v : Nat) (s : State) : State :=
  let s1 := s.writeReg (MAC.CTRL.EN m).adr v false none
  (s1.putFeature (0x400 + m) (bits v 0 1) 0 0).answer agent .ok 0 0

/-! ### MDIO (R443) -/

/-- R4: a write to MACm.MDIO: its fields take what is written; GO starts an access and reads 1 until it ends, so a write meanwhile starts
none and leaves it set. -/
def mdioWrite (agent m v : Nat) (s : State) : State :=
  if s.on (MAC.MDIO.GO m) then ((s.writeReg (MAC.MDIO.GO m).adr v false none).put (MAC.MDIO.GO m) 1).answer agent .ok 0 0
  else
    let s1 := s.writeReg (MAC.MDIO.GO m).adr v false none
    (if bitOf v 35 then
      s1.setLink { s1.link with mdio := (m, bitOf v 34, bits v 26 5, bits v 21 5, bits v 0 16) :: s1.link.mdio }
    else s1).answer agent .ok 0 0

/-- MDIO_ACCESS_DONE: the access ends; a read leaves `data` in DATA (R443). -/
def execMdioAccessDone (m : Fin 2) (data : BitVec 16) (s : State) : Out :=
  .next (match s.link.mdio.find? (fun x => x.1 == m.val) with
    | none => s
    | some x =>
      ((s.put (MAC.MDIO.GO m.val) 0).putIf (!x.2.1) (MAC.MDIO.DATA m.val) data.toNat).setLink
        { s.link with mdio := s.link.mdio.filter (fun y => y.1 != m.val) })

/-! ### Slate on CAN XL (R412) -/

/-- R412: 10 ms in ticks. -/
def segmentTicks : Nat := 15000000

def setPart (n : Nat) (p : Option Part) (s : State) : State :=
  s.setLink { s.link with parts := (p.map (fun x => (n, x))).toList ++ s.link.parts.filter (fun x => x.1 != n) }

def State.part (s : State) (n : Nat) : Option Part := (s.link.parts.find? (fun x => x.1 == n)).map (fun x => x.2)

/-- R412: a segment reaches a frame that has no part yet or the part `p`. -/
def segmentTake (n ftag idx : Nat) (last : Bool) (data : List Nat) (p : Part) (s : State) : State :=
  if p.next = idx ∧ p.ftag = ftag then
    (if last then slateFrame (3 + n) (0, 0) (p.octs ++ data) (setPart n none s)
    else setPart n (some ⟨ftag, idx + 1, p.octs ++ data, s.t⟩) s)
  else s

/-- CAN_SEGMENT: a CAN XL frame with a segment arrives: priority ID, SDT, VCID, acceptance field, data (R412). -/
def execCanSegment (n : Fin 4) (id : BitVec 11) (sdt vcid : BitVec 8) (af : BitVec 32) (data : List (BitVec 8)) (s : State) :
    Out :=
  let ftag := bits af.toNat 8 8
  let idx := bits af.toNat 0 8
  let last := bitOf af.toNat 16
  .next (onFrame (s.carries (3 + n.val)) (fun s => if !s.carries (3 + n.val) || id.toNat != s.get (CAN.IDS.HOSTID n.val) || sdt.toNat != s.get (CAN.XLH.SDT n.val) ||
      vcid.toNat != s.get (CAN.XLH.VCID n.val) then s
    else
      let fresh : Part := ⟨ftag, 0, [], s.t⟩
      match s.part n.val with
      | none => segmentTake n.val ftag idx last (data.map BitVec.toNat) fresh s
      | some p =>
        if p.next = idx ∧ p.ftag = ftag ∧ s.t ≤ p.at_ + segmentTicks then
          segmentTake n.val ftag idx last (data.map BitVec.toNat) p s
        else segmentTake n.val ftag idx last (data.map BitVec.toNat) fresh (badFrame (setPart n.val none s))) s)

/-- CAN_SEGMENT_TIMEOUT: 10 ms have passed since the last segment of a partly received frame (R412). -/
def execCanSegmentTimeout (n : Fin 4) (s : State) : Out :=
  .next (match s.part n.val with
    | none => s
    | some p => badFrame (setPart n.val none (s.advanceTo (p.at_ + segmentTicks))))

/-! ### CAN controllers (R431, R432) -/

/-- R432: every word of a ring lies in a mailbox of the owner with PEER 0x40. -/
def State.ringOk (s : State) (base size owner : Nat) : Bool :=
  let box (a : Nat) : Bool := match bankOf? a with
    | some b => decide (64 ≤ b) && s.get (BANKS.OWNER.OWNER b) == owner && s.get (BANKS.OWNER.PEER b) == ownHost
    | none => false
  box base && box (base + 0x800 * ((size - 1) / 0x800)) && box (base + (size - 1))

/-- R432: the rings are usable for an owner. -/
def State.ringsOk (s : State) (n owner : Nat) : Bool :=
  s.ringOk (s.get (CAN.RXBASE.BASE n)) (s.get (CAN.RXSIZE.SIZE n)) owner &&
    s.ringOk (s.get (CAN.TXBASE.BASE n)) (s.get (CAN.TXSIZE.SIZE n)) owner

def canFeature (n : Nat) : Nat := 0x410 + n
def canRes (n : Nat) : Nat := 0x820 + n

/-- R432: an enable attempt; the writer becomes the owner (R55). -/
def canEnable (agent n : Nat) (s : State) : State :=
  if (if s.on (CAN.CTRL.SLATE n) then agent != ownHost else !s.ringsOk n agent) then s.put (CAN.STATUS.CFGERR n) 1
  else
    let s1 := s.enableFeature agent (canFeature n) [canRes n]
    if s.enablePasses (canFeature n) [canRes n] then
      ((s1.put (CAN.CTRL.EN n) 1).put (CAN.CTRL.OWNER n) agent).put (CAN.STATUS.CFGERR n) 0
    else s1.put (CAN.STATUS.CFGERR n) 1

/-- R33: a disable; a Slate frame under way is gone. -/
def canDisable (n : Nat) (s : State) : State :=
  setPart n none (((s.disableFeature (canFeature n) [canRes n]).put (CAN.CTRL.EN n) 0).put (CAN.CTRL.OWNER n) 0)

/-- R55, R432: a write to CANn.CTRL. -/
def canCtrlWrite (agent n v : Nat) (s : State) : State :=
  if !ownerGate (s.get (CAN.CTRL.OWNER n)) agent then s.answer agent .busOwn 0 0
  else
    let s1 := (s.put (CAN.CTRL.MODE n) (bits v 26 2)).put (CAN.CTRL.SLATE n) (bits v 25 1)
    (if bitOf v 0 then
      (if s.on (CAN.CTRL.EN n) then s1.handOver (CAN.CTRL.OWNER n) (bits v 28 8) else canEnable agent n s1)
    else if s.on (CAN.CTRL.EN n) then canDisable n s1 else s1.dropConflict (canFeature n)).answer agent .ok 0 0

/-- R55: a write to another OWN register of CANn. -/
def canRegWrite (agent n adr v : Nat) (s : State) : State :=
  if !ownerGate (s.get (CAN.CTRL.OWNER n)) agent then s.answer agent .busOwn 0 0
  else (s.writeReg adr v false none).answer agent .ok 0 0

/-- R432: the words of an entry with `len` data octets, in whole groups of four. -/
def entryWords (len : Nat) : Nat := (5 + (len + 3) / 4 + 3) / 4 * 4

/-- R432: where an entry of `n` words goes in a ring of `size` words, between the writer `w` and the reader `r`; the flag tells
that the writer closes the ring's end first. The ring never fills to the reader's place. -/
def ringPlace (n size w r : Nat) : Option (Nat × Bool) :=
  if w < r then (if w + n < r then some (w, false) else none)
  else if w + n < size ∨ (w + n = size ∧ 0 < r) then some (w, false)
  else if n < r then some (0, true)
  else none

/-- R432: the receive ring takes an entry of `len` words, given without its padding. -/
def canTake (k len : Nat) (entry : List Nat) (s : State) : State :=
  let base := s.get (CAN.RXBASE.BASE k)
  let size := s.get (CAN.RXSIZE.SIZE k)
  let w := s.get (CAN.RXW.PTR k)
  match ringPlace len size w (s.get (CAN.RXR.PTR k)) with
  | none => s.put (CAN.STATUS.RXOVR k) 1
  | some (p, close) =>
    let s1 := if close && decide (w < size) then (bankWrite ownHost (base + w) 0xFFF s).st else s
    let g := bankWrites ownHost (base + p) entry s1
    if g.resp = .ok then g.st.put (CAN.RXW.PTR k) (if p + len = size then 0 else p + len)
    else g.st.put (CAN.STATUS.RXOVR k) 1

/-- CAN_RECEIVE: a frame arrives on a controller without SLATE, in a format that its MODE takes: words 0 to 3 of its entry and its
data octets (R432). While IS28 waits for a sync word it stamps nothing (R20): the stamp is then free. -/
def execCanReceive (n : Fin 4) (fmt : Fin 3) (ide : Bool) (id : BitVec 29) (sec : Bool) (sdt vcid : BitVec 8) (af : BitVec 32)
    (data : List (BitVec 8)) (s : State) : Out :=
  let k := n.val
  let entry := [fmt.val * 2 ^ 12 + data.length % 2 ^ 12, (if ide then 2 ^ 29 else 0) + id.toNat,
    (if sec then 2 ^ 16 else 0) + sdt.toNat * 256 + vcid.toNat, af.toNat,
    if s.unsynced 28 then Config.freeValue s.free % 2 ^ 36 else s.stamp] ++ packed (data.map BitVec.toNat)
  .next (onFrame (s.on (CAN.CTRL.EN k) && !s.on (CAN.STATUS.BUSOFF k)) (fun s =>
    if !s.on (CAN.CTRL.EN k) || s.on (CAN.CTRL.SLATE k) || s.on (CAN.STATUS.BUSOFF k) || decide (s.canMode k < fmt.val) then s
    else canTake k (entryWords data.length) entry (if s.unsynced 28 then s.draw else s)) s)

/-- R432: the transmit entry at place `p` of the ring is read and sent; one in a format that MODE does not allow is passed over
(DESIGN CHOICE, log 148). -/
def canSend (k p : Nat) (s : State) : State :=
  let base := s.get (CAN.TXBASE.BASE k)
  let size := s.get (CAN.TXSIZE.SIZE k)
  let h := bankReads ownHost (base + p) 5 s
  match h.1 with
  | none => h.2
  | some ws =>
    let len := bits (ws.getD 0 0) 0 12
    let d := bankReads ownHost (base + p + 5) ((len + 3) / 4) h.2
    match d.1 with
    | none => d.2
    | some body =>
      let sent := if s.canMode k < bits (ws.getD 0 0) 12 2 then d.2
        else putOut (.can k (ws.getD 0 0) (ws.getD 1 0) (ws.getD 2 0) (ws.getD 3 0) ((unpackOctets body).take len)) d.2
      sent.put (CAN.TXR.PTR k) (if p + entryWords len = size then 0 else p + entryWords len)

/-- CAN_TRANSMIT: the controller sends the next entry of its transmit ring (R432). -/
def execCanTransmit (n : Fin 4) (s : State) : Out :=
  let k := n.val
  let p := s.get (CAN.TXR.PTR k)
  .next (if !s.on (CAN.CTRL.EN k) || s.on (CAN.CTRL.SLATE k) || s.on (CAN.STATUS.BUSOFF k) ||
      p == s.get (CAN.TXW.PTR k) then s
    else
      let g := bankRead ownHost (s.get (CAN.TXBASE.BASE k) + p) s
      if g.resp ≠ .ok then g.st
      else if bits g.val 0 12 = 0xFFF then
        (if s.get (CAN.TXW.PTR k) = 0 then g.st.put (CAN.TXR.PTR k) 0 else canSend k 0 (g.st.put (CAN.TXR.PTR k) 0))
      else canSend k p s)

/-- CAN_BUSOFF: the controller goes bus-off (R431); its error counters are then free. -/
def execCanBusoff (n : Fin 4) (s : State) : Out :=
  .next (if s.on (CAN.CTRL.EN n.val) && !s.on (CAN.STATUS.BUSOFF n.val) then
    let s1 := (s.drawn 3).put (CAN.STATUS.BUSOFF n.val) 1
    let s2 := (s1.put (CAN.STATUS.TEC n.val) (Config.freeValue s.free)).put (CAN.STATUS.REC n.val) (Config.freeValue (s.free + 1))
    (s2.put (CAN.STATUS.ERRP n.val) (Config.freeValue (s.free + 2))).report .canBusoff (elTransport (3 + n.val)) 0
  else s)

/-- BUS_OFF_RECOVERY: after 128 × 11 recessive bits the controller leaves bus-off, its error counters at zero (R431). -/
def execBusOffRecovery (n : Fin 4) (s : State) : Out :=
  .next (if s.on (CAN.STATUS.BUSOFF n.val) then
    (((s.put (CAN.STATUS.BUSOFF n.val) 0).put (CAN.STATUS.ERRP n.val) 0).put (CAN.STATUS.TEC n.val) 0).put (CAN.STATUS.REC n.val) 0
  else s)

/-! ### SPI and UART (R433): units 0 to 7 are SPI0 to SPI7, 8 and 9 UART0 and UART1 -/

def serialDepth (u : Nat) : Nat := if u < 8 then 8 else 16
def serialCtrl (u : Nat) : Nat := if u < 8 then (SPI.CTRL.EN u).adr else (UART.CTRL.EN (u - 8)).adr
def serialEn (u : Nat) : FRef := ⟨serialCtrl u, 0, 1⟩
def serialOwner (u : Nat) : FRef := ⟨serialCtrl u, 28, 8⟩
def serialFlag (u i : Nat) : FRef := ⟨serialCtrl u + 4, i, 1⟩

/-- R433: bits per word or character. -/
def State.serialWidth (s : State) (u : Nat) : Nat :=
  if u < 8 then
    (let w := s.get (SPI.CTRL.WIDTH u)
    if w = 0 ∨ 36 < w then 36 else w)
  else (match s.get (UART.CTRL.BITS (u - 8)) with
    | 0 => 7
    | 2 => 9
    | _ => 8)

/-- STATUS follows the FIFOs; BUSY while a word is being shifted. -/
def serialShow (u : Nat) (s : State) : State :=
  let x := s.serial u
  ((s.put ⟨serialCtrl u + 4, 12, 4⟩ (min x.tx.length 15)).put ⟨serialCtrl u + 4, 8, 4⟩ (min x.rx.length 15)).putB (serialFlag u 0)
    (s.on (serialEn u) && !x.tx.isEmpty)

def putSerials (u : Nat) (x : SerialSt) (s : State) : State := serialShow u (s.putSerial u x)

/-- R433: a write to TX. -/
def serialTx (agent u v : Nat) (s : State) : State :=
  if !ownerGate (s.get (serialOwner u)) agent then s.answer agent .busOwn 0 0
  else
    let x := s.serial u
    (if serialDepth u ≤ x.tx.length then s.put (serialFlag u 1) 1
    else putSerials u { x with tx := x.tx ++ [v % 2 ^ (if u < 8 then 36 else 9)] } s).answer agent .ok 0 0

/-- R433: a word or character arrives. -/
def serialIn (u v : Nat) (s : State) : State :=
  let x := s.serial u
  if serialDepth u ≤ x.rx.length then s.put (serialFlag u 3) 1
  else putSerials u { x with rx := x.rx ++ [v % 2 ^ s.serialWidth u] } s

/-- R433: the word being shifted is out. -/
def serialOut (u : Nat) (s : State) : State :=
  let x := s.serial u
  match x.tx with
  | [] => s
  | v :: t => putSerials u { x with tx := t } (putOut (.word u (v % 2 ^ s.serialWidth u)) s)

/-- R433: a read of RX removes the oldest word, or returns 0 and sets RXUNF. -/
def serialRead (u : Nat) (s : State) : Nat × State :=
  let x := s.serial u
  match x.rx with
  | [] => (0, s.put (serialFlag u 2) 1)
  | v :: t => (v, putSerials u { x with rx := t } s)

def serialFeature (u : Nat) : Nat := if u < 8 then 0x420 + u else 0x430 + (u - 8)
def serialRes (u : Nat) : Nat := if u < 8 then 0x800 + u else 0x810 + (u - 8)

/-- The fields of a CTRL write beside OWNER and EN. -/
def serialFields (u v : Nat) (s : State) : State :=
  (fields! (serialCtrl u)).foldl (fun t f => if f.lo = 0 ∨ f.lo = 28 then t else t.writeField (serialCtrl u) v false f) s

/-- R55, R433: a write to CTRL. -/
def serialCtrlWrite (agent u v : Nat) (s : State) : State :=
  if !ownerGate (s.get (serialOwner u)) agent then s.answer agent .busOwn 0 0
  else
    let s1 := serialFields u v s
    let f := serialFeature u
    let s2 :=
      if bitOf v 0 then
        (if s.on (serialEn u) then s1.handOver (serialOwner u) (bits v 28 8)
        else if s1.enablePasses f [serialRes u] then
          ((s1.enableFeature agent f [serialRes u]).put (serialEn u) 1).put (serialOwner u) agent
        else s1.enableFeature agent f [serialRes u])
      else if s.on (serialEn u) then ((s1.disableFeature f [serialRes u]).put (serialEn u) 0).put (serialOwner u) 0
      else s1.dropConflict f
    (serialShow u s2).answer agent .ok 0 0

/-- R55: a write to another OWN register of a unit. -/
def serialRegWrite (agent u adr v : Nat) (s : State) : State :=
  if !ownerGate (s.get (serialOwner u)) agent then s.answer agent .busOwn 0 0
  else (s.writeReg adr v false none).answer agent .ok 0 0

/-- SPI_WORD_DONE: a word has been shifted out and `v` shifted in (R433). -/
def execSpiWordDone (n : Fin 8) (v : Word) (s : State) : Out :=
  .next (if s.on (serialEn n.val) && !(s.serial n.val).tx.isEmpty then serialIn n.val v.toNat (serialOut n.val s) else s)

/-- UART_CHARACTER_SENT: a character leaves the TX FIFO (R433). -/
def execUartCharacterSent (n : Fin 2) (s : State) : Out :=
  .next (if s.on (serialEn (8 + n.val)) then serialOut (8 + n.val) s else s)

/-- UART_RECEIVE: a character arrives, with its parity and framing errors (R433). -/
def execUartReceive (n : Fin 2) (v : BitVec 9) (pe fe : Bool) (s : State) : Out :=
  .next (onFrame (s.on (serialEn (8 + n.val))) (fun s => if s.on (serialEn (8 + n.val)) then
    serialIn (8 + n.val) v.toNat ((s.putIf pe (serialFlag (8 + n.val) 5) 1).putIf fe (serialFlag (8 + n.val) 4) 1)
  else s) s)

end Sys2Proof.Machine
end

