-- ==== Sys2Proof/Machine/ReelXfer.lean ====
section
/-! DEFINITION. Saving and reloading reels (R148 to R151). -/

namespace Sys2Proof.Machine

/-- R148: XRES of a transfer that ends, or, with PENDING, of one that runs on. -/
def xferRes (stat r cmd : Nat) (pending : Bool) (s : State) : State :=
  let s1 := ((s.put REELS.XRES.STATUS stat).put REELS.XRES.EN (s.get (RL.CTRL.EN r))).putB REELS.XRES.PENDING pending
  (s1.put REELS.XRES.REEL r).put REELS.XRES.CMD cmd

/-- R148: a transfer runs until REEL_XFER_DONE. -/
def xferStart (x : Xfer) (s : State) : State :=
  ((s.setXfer (some x)).put REELS.XRES.PENDING 1).put (RL.STATUS.XFER x.reel) 1

/-- R148: a transfer that ends with `stat`; a save's header is then to be written. -/
def xferRun (r cmd stat : Nat) (head : List Nat) (adr : Nat) (s : State) : State :=
  xferStart ⟨r, cmd, stat, head, adr, [], false⟩ s

/-- R134: the reel's place in the pool is one that an enable could accept. -/
def State.reelPlaced (s : State) (r : Nat) : Bool :=
  decide (s.get (RL.CTRL.SIZE r) < 6) && decide (s.reelHi r ≤ 256)

/-- R149: header word 0. -/
def State.imageTag (s : State) (r : Nat) : Nat :=
  0x7E1 * 2 ^ 24 + s.get (RL.LRN.REXP r) * 2 ^ 16 + s.get (RL.CTRL.SIZE r) * 2 ^ 13

/-- The entries of a reel in index order. -/
def State.reelEntries (s : State) (r : Nat) : List Nat := (List.range (s.reelN r)).map (fun i => s.rd (s.reelAdr r i))

/-- The reel unit reads every entry (R138). -/
def reelReadAll (r : Nat) (s : State) : State := reelMeetAll r ((List.range (s.reelN r)).map (s.reelAdr r)) s

/-- R149: the header of a save. -/
def State.imageHead (s : State) (r : Nat) : List Nat :=
  [s.imageTag r, crc32Words (s.reelEntries r), s.get (RL.UPD.UPD r), 0]

/-- R151: the checks of an image against a reel. -/
def State.imageOk (s : State) (r : Nat) (head ents : List Nat) : Bool :=
  bits (head.getD 0 0) 24 12 == 0x7E1 && bits (head.getD 0 0) 13 3 == s.get (RL.CTRL.SIZE r) &&
    bits (head.getD 0 0) 16 8 == s.get (RL.LRN.REXP r) && bits (head.getD 1 0) 0 32 == crc32Words ents

/-- Write every entry of a reel. -/
def reelFill (r : Nat) (vs : List Nat) (s : State) : State := s.stores (s.reelAdr r 0) (vs.take (s.reelN r))

/-- R148: records that an image takes, and whether they all belong to software (R344). -/
def State.imageRecs (s : State) (r : Nat) : Nat := 1 + (s.reelN r + 14) / 15
def State.recsOk (s : State) (r first : Nat) : Bool :=
  decide (s.get (RL.CTRL.SIZE r) ≤ 1) && decide (first + s.imageRecs r ≤ 48)

/-- R349: write records in order as far as erased slots are left; the ones still to be written. -/
def writeRecs (ds : List (Nat × List Nat)) (s : State) : List (Nat × List Nat) × State :=
  match ds with
  | [] => ([], s)
  | d :: t =>
    match storeWrite d.1 d.2 s with
    | some q => writeRecs t q.2
    | none => (d :: t, s)

/-- Read records in order; none where one is absent. -/
def readRecs (first n : Nat) (s : State) : Option (List Nat) × State :=
  match n with
  | 0 => (some [], s)
  | k + 1 =>
    let g := storeGet first s
    match g.1 with
    | none => (none, g.2)
    | some d =>
      let q := readRecs (first + 1) k g.2
      (q.1.map (fun l => padTo 15 d ++ l), q.2)

/-- Cut a list into rows of 15 words, the last padded with zeros (R149). -/
def rows15 (n : Nat) (l : List Nat) : List (List Nat) :=
  (List.range n).map (fun i => padTo 15 ((l.drop (15 * i)).take 15))

/-- R148, R150: SAVE_DDR. -/
def saveDdr (r adr : Nat) (s : State) : State :=
  let s1 := reelReadAll r s
  let g := ddrWrites (s1.get (RL.CTRL.OWNER r)) (adr + 4) (s1.reelEntries r) s1
  match g.resp with
  | .ok => xferRun r 1 0 (s1.imageHead r) adr g.st
  | .busOwn => xferRun r 1 5 [] adr g.st
  | _ => xferRun r 1 4 [] adr g.st

/-- R151: a load takes an image that passes its checks: its completion status. -/
def loadImage (r : Nat) (img : Option (List Nat)) (skip : Nat) (s : State) : Nat × State :=
  match img with
  | none => (4, s)
  | some ws =>
    let ents := (ws.drop skip).take (s.reelN r)
    if s.imageOk r ws ents then (0, reelFill r ents s) else (4, s)

/-- R151: LOAD_DDR. -/
def loadDdr (r adr : Nat) (s : State) : State :=
  let g := ddrReads adr (s.reelN r + 4) s
  let q := loadImage r g.1 4 g.2
  xferRun r 2 q.1 [] 0 q.2

/-- R149: the records after the first of an image. -/
def State.entryRecs (s : State) (r first : Nat) : List (Nat × List Nat) :=
  ((rows15 (s.imageRecs r - 1) (s.reelEntries r)).zipIdx).map (fun q => (first + 1 + q.2, q.1))

/-- R149, R150: SAVE_REC. What no erased slot is left for waits until the store has one (R349); a record command that came before is
executed first (R346). -/
def saveRec (r first : Nat) (s : State) : State :=
  let s1 := reelReadAll r s
  if s.get FLASH.RSSTAT.STATE ≠ 2 then xferRun r 3 1 [] 0 s
  else
    let late := s.recs.cmd.isSome
    let q := if late then (s1.entryRecs r first, s1) else writeRecs (s1.entryRecs r first) s1
    xferStart ⟨r, 3, 0, padTo 15 (s1.imageHead r), first, q.1, late⟩ q.2

/-- R151: a load from records reads them and takes the image. -/
def takeRecs (r first : Nat) (s : State) : Nat × State :=
  let g := readRecs first (s.imageRecs r) s
  loadImage r g.1 15 g.2

/-- R151: LOAD_REC; a record command that came before is executed first (R346). -/
def loadRec (r first : Nat) (s : State) : State :=
  if s.recs.cmd.isSome then xferStart ⟨r, 4, 0, [], first, [], true⟩ s
  else
    let q := takeRecs r first s
    xferRun r 4 q.1 [] 0 q.2

/-- R148: ZERO. -/
def zeroReel (r : Nat) (s : State) : State := xferRun r 5 0 [] 0 (reelFill r (List.replicate (s.reelN r) 0) s)

/-- R148: start a transfer of a reel on behalf of an agent. -/
def reelXfer (agent r cmd adr : Nat) (s : State) : State :=
  let own := s.get (RL.CTRL.OWNER r)
  let en := s.on (RL.CTRL.EN r)
  if own ≠ 0 ∧ own ≠ agent then s.answer agent .busOwn 0 0
  else
    (if s.xfer.isSome then xferRes 8 r cmd true s
     else if cmd = 0 ∨ 5 < cmd then xferRes 4 r cmd false s
     else if en && (cmd == 2 || cmd == 4 || cmd == 5) then xferRes 1 r cmd false s
     else if !s.reelPlaced r || ((cmd == 3 || cmd == 4) && !s.recsOk r (adr % 64)) then xferRes 4 r cmd false s
     else match cmd with
       | 1 => saveDdr r adr s
       | 2 => loadDdr r adr s
       | 3 => saveRec r (adr % 64) s
       | 4 => loadRec r (adr % 64) s
       | _ => zeroReel r s).answer agent .ok 0 0

/-- A transfer by an XCTL write, from XADR. -/
def reelXctl (agent r cmd : Nat) (s : State) : State := reelXfer agent r cmd (s.get REELS.XADR.ADDR) s

/-- R150: the header of a save to DDR4 is written last; how the save ends. -/
def saveHead (x : Xfer) (s : State) : Nat × State :=
  match x.head with
  | [] => (x.stat, s)
  | hd =>
    let g := ddrWrites (s.get (RL.CTRL.OWNER x.reel)) x.adr hd s
    match g.resp with
    | .ok => (0, g.st)
    | .busOwn => (5, g.st)
    | _ => (4, g.st)

/-- R151: a failure while the entries were written zeroes the whole reel. -/
def xferFail (x : Xfer) (fail : Bool) (q : Nat × State) : Nat × State :=
  if fail && q.1 == 0 then (4, reelFill x.reel (List.replicate (q.2.reelN x.reel) 0) q.2) else q

/-- What is left of a transfer: its completion status, or none where it goes on: it waits for a record command that came before it or
for erased slots (R346, R349). A store that has left READY ends a save as one that was not READY at its start. -/
def xferRest (x : Xfer) (fail : Bool) (s : State) : Option Nat × State :=
  if x.late && s.recs.cmd.isSome then (none, s)
  else match x.cmd with
    | 1 => let q := saveHead x s; (some q.1, q.2)
    | 3 =>
      if x.stat ≠ 0 then (some x.stat, s)
      else if s.get FLASH.RSSTAT.STATE ≠ 2 then (some 1, s)
      else
        let q := writeRecs (x.recs ++ [(x.adr, x.head)]) s
        if q.1.isEmpty then (some 0, q.2)
        else (none, q.2.setXfer (some { x with recs := q.1.dropLast, late := false }))
    | 2 => let q := xferFail x fail (x.stat, s); (some q.1, q.2)
    | 4 =>
      let q := xferFail x fail (if x.late then takeRecs x.reel x.adr s else (x.stat, s))
      (some q.1, q.2)
    | _ => (some x.stat, s)

/-- REEL_XFER_DONE: the transfer under way ends and writes XRES (R148, R150). `fail`: the entries of a load could not all be
written (R151). -/
def execReelXferDone (s : State) (fail : Bool := false) : Out :=
  .next (match s.xfer with
    | none => s
    | some x =>
      match xferRest x fail s with
      | (none, t) => t
      | (some stat, t) => xferRes stat x.reel x.cmd false ((t.setXfer none).put (RL.STATUS.XFER x.reel) 0))

end Sys2Proof.Machine
end

