-- ==== Sys2Proof/Machine/Bus.lean ====
section
/-! DEFINITION. The bus: the memory map, an access of any agent to any address, and the commands that are accesses (R4, R12,
R13, R17, R27 to R29, R55, R137, R316 to R318, R352, R405, R457). -/

namespace Sys2Proof.Machine

/-! ### The memory map (R27) -/

/-- R27: what lies at an address. -/
inductive Target where
  | flash
  | bank (b : Nat)
  | reel (entry : Nat)
  | eng (e off : Nat)
  | reg (block off : Nat)
  | ddr
  | none
deriving DecidableEq, Repr

def targetOf (a : Nat) : Target :=
  if a < flashEnd then .flash
  else match bankOf? a with
  | some b => .bank b
  | none =>
    if 0x01200000 ≤ a ∧ a < 0x01210000 then .reel (a - 0x01200000)
    else if 0x01300000 ≤ a ∧ a < 0x01318000 then .eng ((a - 0x01300000) / 0x1000) ((a - 0x01300000) % 0x1000)
    else if 0x02000000 ≤ a ∧ a < 0x02140000 then .reg ((a - 0x02000000) / 0x10000) (a % 0x10000)
    else if 0x80000000 ≤ a ∧ a < 0x100000000 then .ddr
    else .none

/-- The island of a control word, by block and offset; none: the port die (R17), the Gaffer, which stays White in IS26 (R366), or no
island of its own. -/
def regIsland (block off : Nat) : Option Nat :=
  match block with
  | 0x00 | 0x0C | 0x11 => some 26
  | 0x01 => some 19
  | 0x03 => some 30
  | 0x04 => some (coreIsland ((off - 0x1000) / 0x1000))
  | 0x05 => some (if off < 0x1000 then 12 else 12 + (off - 0x1000) / 64)
  | 0x06 =>
    if off < 0x100 ∨ 0x1000 ≤ off then none
    else if off % 0x20 = 0x10 then none
    else some (if (off - 0x100) / 0x20 < 48 then 17 else 18)
  | 0x07 => some 16
  | 0x08 => if off < 0x100 then none else some (4 + (off - 0x100) / 0x60)
  | 0x09 => some 25
  | 0x0A => if off < 0x100 then none else some (min 24 (20 + (off - 0x100) / 64))
  | 0x0B | 0x10 => some 27
  | 0x0D | 0x0E | 0x12 => some 28
  | 0x0F => some 29
  | 0x13 => some 24
  | _ => none

/-- The island an access goes to. -/
def islandOf (a : Nat) : Option Nat :=
  match targetOf a with
  | .flash => some 26
  | .bank b => some (if b < 64 then 20 + b / 16 else 24)
  | .reel _ => some 25
  | .eng e _ => some (4 + e / 3)
  | .reg b off => regIsland b off
  | .ddr => some 27
  | .none => none

/-- R17: the registers of the power-and-port die. -/
def portDieWord (a : Nat) : Bool :=
  a == GAF.SUPSTAT.adr || a == GAF.MEAS.adr || a == GAF.SLEEPST.adr || a == PORTS.CUTSTAT.adr || a == PORTS.CUTCMD.adr ||
    a == SEC.START.adr || (List.range 96).any (fun p => GP.SAFE.adr p == a) ||
    (List.range 12).any (fun g => PG.GSTAT.adr g == a || PG.GCLR.adr g == a)

/-- The island of an agent. -/
def agentIsland (agent : Nat) : Nat :=
  if agent ≤ 8 then coreIsland (agent - 1)
  else if agent < 0x28 then 4 + (agent - 0x10) / 3
  else if agent < 0x40 then 24
  else match agent with
    | 0x40 => 28
    | 0x41 => 27
    | 0x43 => 29
    | _ => 26

/-- The core whose own control word an address is: its mismatch record MMc, its failover plan FPc, its Cue section. -/
def coreOfWord (a : Nat) : Option Nat :=
  if 0x02041000 ≤ a ∧ a < 0x02049000 then some ((a - 0x02041000) / 0x1000)
  else if 0x02030100 ≤ a ∧ a < 0x02030140 then some ((a - 0x02030100) / 8)
  else if 0x02030200 ≤ a ∧ a < 0x02030300 then some ((a - 0x02030200) / 0x20)
  else none

/-- R27: the control word is listed, and its core exists. -/
def State.regMapped (s : State) (a : Nat) : Bool :=
  (fieldsOf a).isSome && (match coreOfWord a with
    | some c => s.coreExists c
    | none => true)

/-- R352, R405: the memories that a debug access may not reach while access is closed. -/
def guarded (a : Nat) : Bool := match targetOf a with
  | .flash | .bank _ | .reel _ | .eng _ _ | .ddr => true
  | _ => false

/-! ### Reads -/

/-- The serial unit whose section holds an offset: SPI0 to SPI7, then UART0 and UART1. -/
def serialUnit (off : Nat) : Nat := if off < 0x200 then (off - 0x100) / 8 else 8 + (off - 0x200) / 8

/-- The state after a read of a control word: what a read refreshes, latches or takes (R21, R78, R145, R210, R373, R433). -/
def regAfter (agent a : Nat) (s : State) : State :=
  if a / 0x10000 = 0x202 then gafShow s.zoneRefresh
  else if a / 0x10000 = 0x204 then catchUp ((a % 0x10000 - 0x1000) / 0x1000) s
  else if a / 0x10000 = 0x207 then
    (if a % 0x10000 < 0x100 ∨ 0x300 ≤ a % 0x10000 then s
    else if a % 0x20 = 5 then posRead agent ((a % 0x10000 - 0x100) / 0x20) s
    else pfSync ((a % 0x10000 - 0x100) / 0x20) s)
  else if a / 0x10000 = 0x212 ∧ a % 8 = 3 then (serialRead (serialUnit (a % 0x10000)) s).2
  else if a / 0x10000 = 0x209 ∧ 0x100 ≤ a % 0x10000 then reelRefresh ((a % 0x10000 - 0x100) / 0x10) s
  else s

/-- The word that a read of a control word returns (R3, R4). -/
def regVal (agent a : Nat) (s : State) : Nat :=
  if a = TC.NOWHI.adr then s.t / 2 ^ 36
  else if a = TC.NOWLO.adr then s.stamp
  else if a / 0x10000 = 0x204 then (regAfter agent a s).cueWord ((a % 0x10000 - 0x1000) / 0x1000) (a % 0x1000)
  else if a / 0x10000 = 0x207 ∧ 0x100 ≤ a % 0x10000 ∧ a % 0x10000 < 0x300 ∧ a % 0x20 = 5 then (regAfter agent a s).bus.lo
  else if a / 0x10000 = 0x212 ∧ a % 8 = 3 then (serialRead (serialUnit (a % 0x10000)) s).1
  else (regAfter agent a s).wordOf a (fields! a)

/-- R101: a bus read of an engine's memory. -/
def engRead (e a : Nat) (s : State) : Got :=
  if s.due a then ⟨.busEcc, 0, s⟩ else ⟨.ok, s.rd a, engFix e a s⟩

/-- R138: a bus read of reel memory. -/
def reelRead (entry : Nat) (s : State) : Got :=
  let a := 0x01200000 + entry
  if s.due a then ⟨.busEcc, 0, s⟩ else ⟨.ok, s.rd a, reelMeet (s.reelAt entry) a s⟩

/-- R27, R29: a read at an address whose island runs. -/
def readAt (agent a : Nat) (s : State) : Got :=
  if agent = ownDebug ∧ guarded a ∧ !s.debugOpen then
    match targetOf a with
    | .ddr => ⟨if s.ddrMapped a then .busOwn else .busMap, 0, s⟩
    | .flash => if s.erasing (flashBank a) then flashRead a s else ⟨.busOwn, 0, s⟩
    | _ => ⟨.busOwn, 0, s⟩
  else match targetOf a with
  | .flash => flashRead a s
  | .bank b => if agent = ownDebug then bankFetch b a s else bankRead agent a s
  | .reel entry => reelRead entry s
  | .eng e _ => engRead e a s
  | .reg _ _ => if s.regMapped a then ⟨.ok, regVal agent a s, regAfter agent a s⟩ else ⟨.busMap, 0, s⟩
  | .ddr => ddrRead a s
  | .none => ⟨.busMap, 0, s⟩

/-! ### Writes -/

/-- R4, R457: a write to a word without rules of its own; its OWN fields belong to the host link. -/
def plainWrite (agent a v : Nat) (s : State) : State :=
  if (fields! a).any (fun f => f.acc == .own) && agent != ownHost then s.answer agent .busOwn 0 0
  else (s.writeReg a v false none).answer agent .ok 0 0

/-- R55, R457: a write to an OWN word of a unit with its owner, its lock and its WREJ flag; `after` follows a write that is
taken. -/
def unitWrite (owner agent a v : Nat) (lk : Bool) (wrej : Option FRef) (after : State → State) (s : State) : State :=
  if ownerGate owner agent then (after (s.writeReg a v lk wrej)).answer agent .ok 0 0 else s.answer agent .busOwn 0 0

/-- TIMECODE. -/
def tcWrite (agent a v : Nat) (s : State) : State :=
  let off := a % 0x10000
  if off < 0x100 then plainWrite agent a v s
  else if off % 4 = 3 then tcCtrlWrite agent ((off - 0x100) / 4) v s
  else tcCmpWrite agent ((off - 0x100) / 4) (off % 4) v 0 s

/-- R376: a write of TEMP clears AGE. -/
def tempWrite (k v : Nat) (s : State) : State :=
  let s1 := ((s.put (GAF.ZTEMP.TEMP k) v).put (GAF.ZTEMP.AGE k) 0)
  s1.setGaf { s1.gaf with told := s1.gaf.told.filter (· != k) }

/-- GAFFER: writes of the ledgers' fields show in the ledgers; a higher budget makes room for lowered clocks (R372). -/
def gafWrite (agent a v : Nat) (s : State) : State :=
  let off := a % 0x10000
  if 0x100 ≤ off then
    (match off % 4 with
    | 0 => islCtrlWrite agent ((off - 0x100) / 4) v s
    | 2 => islTwlWrite agent ((off - 0x100) / 4) v s
    | _ => s.answer agent .ok 0 0)
  else if (fields! a).any (fun f => f.acc == .own) && agent != ownHost then s.answer agent .busOwn 0 0
  else
    let s1 := s.writeReg a v false none
    let s2 := if 0x12 ≤ off ∧ off < 0x16 then tempWrite (off - 0x12) (bits v 16 8) s1 else s1
    (restoreClocks (gafShow s2.zoneRefresh)).answer agent .ok 0 0

/-- CTU. -/
def ctuWrite (agent a v : Nat) (s : State) : State :=
  match a % 0x10000 with
  | 2 => coreCommand agent (bits v 4 4) (bits v 0 4) s
  | 5 => logCmdWrite agent v s
  | _ => plainWrite agent a v s

/-- CUE. -/
def cueRegWrite (agent a v : Nat) (s : State) : State :=
  let c := (a - 0x02041000) / 0x1000
  let off := a % 0x1000
  if 0x10 ≤ off ∧ off < 0x19 then cueTwlWrite agent c (off - 0x10) v s else cueWrite agent c off v s

/-- SAMPLING. -/
def sampWrite (agent a v : Nat) (s : State) : State :=
  let off := a % 0x10000
  if off < 0x100 then (if off = 1 ∧ bitOf v 0 then (calGo s).answer agent .ok 0 0 else plainWrite agent a v s)
  else if off < 0x1000 then
    (let n := (off - 0x100) / 0x40
     let w := (off - 0x100) % 0x40
     if w = 0 then setCtrlWrite agent n v s
     else if w = 1 then unitWrite (s.get (SS.CTRL.OWNER n)) agent a v false none id s
     else if 0x10 ≤ w ∧ w < 0x20 then slotWrite agent n (w - 0x10) v s
     else plainWrite agent a v s)
  else
    let n := (off - 0x1000) / 8
    match off % 8 with
    | 0 => cmpCtrlWrite agent n v s
    | 1 => thrWrite agent n v s
    | 2 => unitWrite (s.get (CMP.CTRL.OWNER n)) agent a v false none id s
    | _ => plainWrite agent a v s

/-- A bus write of CMPA to CMPD, whose writer WSRC names (R155). -/
def compareBus (agent p x v : Nat) (s : State) : State :=
  if s.get (GP.CTRL.WSRC p) == agent && agent != 0 then
    (compareWrite p x (bits v 0 30) s.t s.t agent false s).answer agent .ok 0 0
  else s.answer agent .busOwn 0 0

/-- PORTS. -/
def portsWrite (agent a v : Nat) (s : State) : State :=
  let off := a % 0x10000
  if off < 0x100 then (if off = 1 then cutCmdWrite agent v s else plainWrite agent a v s)
  else if 0x1000 ≤ off then
    (if off % 4 = 1 then gclrWrite agent ((off - 0x1000) / 4) v s else plainWrite agent a v s)
  else
    let p := (off - 0x100) / 0x20
    let w := off % 0x20
    let own := s.get (GP.CTRL.OWNER p)
    let timed (which : Nat) : State := unitWrite own agent a v false none (timingWrite p which v) s
    if w = 0 then portCtrlWrite agent p v s
    else if w = 1 then timed 0
    else if w = 2 then unitWrite own agent a v (s.on (GP.CTRL.EN p)) (some (GP.STATUS.WREJ p)) id s
    else if w = 3 then timed 1
    else if w < 8 then compareBus agent p (w - 4) v s
    else if w = 8 then timed 2
    else if w < 0xD then timed (3 + (w - 9))
    else if w = 0x10 then safeWrite agent p v s
    else plainWrite agent a v s

/-- FEEDBACK. -/
def feedWrite (agent a v : Nat) (s : State) : State :=
  let off := a % 0x10000
  if 0x800 ≤ off then
    (let k := (off - 0x800) / 4
     match off % 4 with
     | 0 => emuCtrlWrite agent k v s
     | 1 => unitWrite (s.get (EMU.CTRL.OWNER k)) agent a v (s.on (EMU.CTRL.EN k)) none id s
     | _ => plainWrite agent a v s)
  else
    let n := (off - 0x100) / 0x20
    let c := s.pf n
    let w := off % 0x20
    if w = 0 then pfCtrlWrite agent n v c.a c.b c.z s
    else if (fields! a).any (fun f => f.acc == .own) then
      unitWrite (s.get (PF.CTRL.OWNER n)) agent a v (s.on (PF.CTRL.EN n)) (some (PF.STATUS.WREJ n))
        (fun u => if w = 5 ∨ w = 0xB then resign n u else u) s
    else if w = 0xC then refreshFault n (plainWrite agent a v s)
    else plainWrite agent a v s

/-- ENGINES. -/
def enginesWrite (agent a v : Nat) (s : State) : State :=
  let off := a % 0x10000
  if off < 0x100 then plainWrite agent a v s else engRegWrite agent ((off - 0x100) / 0x20) (off % 0x20) v s

/-- REELS. -/
def reelsWrite (agent a v : Nat) (s : State) : State :=
  let off := a % 0x10000
  if off < 0x100 then
    (if off = 0 then reelXctl agent (bits v 6 6) (bits v 0 3) s else plainWrite agent a v s)
  else
    let r := (off - 0x100) / 0x10
    let w := off % 0x10
    if w = 0 then reelCtrlWrite agent r v s
    else if w < 5 then reelParWrite agent r a v s
    else plainWrite agent a v s

/-- FLASH. -/
def flashRegWrite (agent a v : Nat) (s : State) : State :=
  match a % 0x10000 with
  | 3 => maintWrite agent v s
  | 8 => flashQctlWrite agent v s
  | 9 | 10 => flashQueueWrite agent a v s
  | 0x30 => recordCtlWrite agent v s
  | 0x60 => rdpCommand agent (bits v 0 4) s
  | off => if 0x40 ≤ off ∧ off < 0x4F then recordBufWrite agent (off - 0x40) v s else plainWrite agent a v s

/-- ETH. While HOSTDIG is not programmed, writes to LOCALEN.EN are discarded (R423). -/
def ethWrite (agent a v : Nat) (s : State) : State :=
  let off := a % 0x10000
  if off = 8 then (if s.otp.host.isNone && agent == ownHost then s.answer agent .ok 0 0 else plainWrite agent a v s)
  else if off = 9 then localCtlWrite agent v s
  else if off = 10 then localBufWrite agent v s
  else if 0x100 ≤ off ∧ off < 0x140 then
    (match off % 0x20 with
    | 0 => macCtrlWrite agent ((off - 0x100) / 0x20) v s
    | 0xD => mdioWrite agent ((off - 0x100) / 0x20) v s
    | _ => plainWrite agent a v s)
  else plainWrite agent a v s

/-- CANXL. -/
def canWrite (agent a v : Nat) (s : State) : State :=
  let off := a % 0x10000
  let n := (off - 0x100) / 0x20
  match off % 0x20 with
  | 0 => canCtrlWrite agent n v s
  | _ => if (fields! a).any (fun f => f.acc == .own) then canRegWrite agent n a v s else plainWrite agent a v s

/-- SECURITY. -/
def secWrite (agent a v : Nat) (s : State) : State :=
  match a % 0x10000 with
  | 1 => startWrite agent v s
  | 3 => bootcfgWrite agent v s
  | 4 => dogWrite agent v s
  | 5 => dogKick agent v s
  | 9 => otpCommand agent (bits v 0 4) (bits v 4 4) s
  | _ => plainWrite agent a v s

/-- RUSHES. -/
def rushesWrite (agent a v : Nat) (s : State) : State :=
  let off := a % 0x10000
  if off < 0x100 then (rushGo agent v s).answer agent .ok 0 0
  else
    let c := (off - 0x100) / 0x10
    match off % 0x10 with
    | 0 => rushCtrlWrite agent c v s
    | 1 | 2 | 3 | 4 | 5 | 6 => rushArgWrite agent c a v s
    | _ => plainWrite agent a v s

/-- DEBUG. -/
def debugWrite (agent a v : Nat) (s : State) : State :=
  match a % 0x10000 with
  | 1 => debugCommand agent (bits v 0 4) s
  | 3 => debugResp agent v s
  | 5 => coreCtlWrite agent v s
  | _ => plainWrite agent a v s

/-- SERIAL. -/
def serialWrite (agent a v : Nat) (s : State) : State :=
  let off := a % 0x10000
  let u := if off < 0x200 then (off - 0x100) / 8 else 8 + (off - 0x200) / 8
  match off % 8 with
  | 0 => serialCtrlWrite agent u v s
  | 1 => serialRegWrite agent u a v s
  | 2 => serialTx agent u v s
  | _ => plainWrite agent a v s

/-- DMA. -/
def dmaWrite (agent a v : Nat) (s : State) : State :=
  let off := a % 0x10000
  let n := (off - 0x100) / 0x10
  match off % 0x10 with
  | 0 => dmaCtrlWrite agent n v s
  | 1 | 2 | 3 => dmaArgWrite agent n a v s
  | _ => plainWrite agent a v s

/-- A write to a control word of the map, by block. -/
def regWrite (agent a v : Nat) (s : State) : State :=
  match (a - 0x02000000) / 0x10000 with
  | 0x00 => if 0x1000 ≤ a % 0x10000 ∧ a % 0x10000 < 0x2000 then claimWrite agent (a % 0x1000) (bits v 0 8) s
    else plainWrite agent a v s
  | 0x01 => tcWrite agent a v s
  | 0x02 => gafWrite agent a v s
  | 0x03 => ctuWrite agent a v s
  | 0x04 => cueRegWrite agent a v s
  | 0x05 => sampWrite agent a v s
  | 0x06 => portsWrite agent a v s
  | 0x07 => feedWrite agent a v s
  | 0x08 => enginesWrite agent a v s
  | 0x09 => reelsWrite agent a v s
  | 0x0A => if 0x100 ≤ a % 0x10000 ∧ a % 4 = 0 then bankOwnerWrite agent ((a % 0x10000 - 0x100) / 4) v s
    else plainWrite agent a v s
  | 0x0B => if a % 0x10000 = 1 then (if bitOf v 0 then ddrInit s else s).answer agent .ok 0 0 else plainWrite agent a v s
  | 0x0C => flashRegWrite agent a v s
  | 0x0D => ethWrite agent a v s
  | 0x0E => canWrite agent a v s
  | 0x0F => secWrite agent a v s
  | 0x10 => rushesWrite agent a v s
  | 0x11 => debugWrite agent a v s
  | 0x12 => serialWrite agent a v s
  | _ => dmaWrite agent a v s

/-- R27, R29: a write at an address whose island runs. -/
def writeAt (agent a v : Nat) (s : State) : Got :=
  match targetOf a with
  | .flash | .none => ⟨.busMap, 0, s⟩
  | .ddr =>
    if agent = ownDebug ∧ !s.debugOpen ∧ s.ddrMapped a then ⟨.busOwn, 0, s⟩ else ddrWrite agent a v s
  | .reg _ _ =>
    if s.regMapped a then ⟨(regWrite agent a v s).bus.resp, 0, regWrite agent a v s⟩ else ⟨.busMap, 0, s⟩
  | .bank _ => if agent = ownDebug ∧ !s.debugOpen then ⟨.busOwn, 0, s⟩ else bankWrite agent a v s
  | .reel entry =>
    if agent = ownDebug ∧ !s.debugOpen then ⟨.busOwn, 0, s⟩
    else ⟨(reelMemWrite agent entry v s).bus.resp, 0, reelMemWrite agent entry v s⟩
  | .eng e off =>
    if agent = ownDebug ∧ !s.debugOpen then ⟨.busOwn, 0, s⟩
    else ⟨(engMemWrite agent e off v s).bus.resp, 0, engMemWrite agent e off v s⟩

/-! ### Accesses -/

/-- R12: the island of an access is in Charcoal or Black. -/
def State.asleep (s : State) (a : Nat) : Bool := match islandOf a with
  | some i => decide (2 ≤ s.island i)
  | none => false

/-- R12: the island of an access is in Grey. -/
def State.grey (s : State) (a : Nat) : Bool := match islandOf a with
  | some i => s.island i == 1
  | none => false

def restartFor (a : Nat) (s : State) : State := match islandOf a with
  | some i => islandRestart i s
  | none => s

/-- R12, R27 to R29: one read, by any agent; in Grey the clock restarts first. -/
def busGet (agent a : Nat) (s : State) : Got :=
  if s.asleep a then ⟨.busMap, 0, s⟩ else readAt agent a (restartFor a s)

/-- R12, R27 to R29: one write, by any agent; in Grey the clock restarts first. -/
def busPut (agent a v : Nat) (s : State) : Got :=
  if s.asleep a then ⟨.busMap, 0, s⟩ else writeAt agent a v (restartFor a s)

/-- A read with its response. -/
def busRead (agent a : Nat) (s : State) : State :=
  let g := busGet agent a s
  g.st.answer agent g.resp 0 (if g.resp = .ok then g.val else 0)

/-- A write with its response. -/
def busWrite (agent a v : Nat) (s : State) : State :=
  let g := busPut agent a v s
  g.st.answer agent g.resp 0 0

/-- R12: an access is held for an island in Grey, whose restart is asked for. -/
def holdAccess (agent a : Nat) (data : Option Nat) (s : State) : State :=
  s.setHeld (s.held ++ [⟨agent, a, (islandOf a).getD 0, data⟩])

/-- R269: the section of the accessing core is mirrored at the first 0x1000 words of CUE. -/
def coreAdr (c a : Nat) : Nat := if 0x02040000 ≤ a ∧ a < 0x02041000 then a + 0x1000 * (c + 1) else a

/-- R269: the address that an access of an agent goes to. -/
def agentAdr (agent a : Nat) : Nat := if 1 ≤ agent ∧ agent ≤ 8 then coreAdr (agent - 1) a else a

/-- R12: a write of a control register, which waits for an island in Grey. -/
def registerWrite (agent a v : Nat) (s : State) : State :=
  match targetOf a with
  | .reg _ _ => if s.grey a then holdAccess agent a (some v) s else busWrite agent a v s
  | _ => s

/-- R12: an instruction of a core whose access waited goes on, unless it has met a cause meanwhile. -/
def coreResumes (agent : Nat) (s : State) : State :=
  let x := s.core (agent - 1)
  if 1 ≤ agent ∧ agent ≤ 8 ∧ x.sync.isNone then s.putCore (agent - 1) { x with resume := true } else s

/-- R407: where the access of a core's instruction is over and the instruction does not go on, a halt that waited takes hold. -/
def agentBoundary (agent : Nat) (s : State) : State := if 1 ≤ agent ∧ agent ≤ 8 then haltBoundary (agent - 1) s else s

/-- GREY_ACCESS_RESUME: the island of the oldest held access has restarted, at most 180 ticks later; a write completes, and
the instruction of a sequencer goes on (R12). -/
def execGreyAccessResume (s : State) : Out :=
  .next (match s.held with
    | [] => s
    | h :: t =>
      let s1 := islandRestart h.island (s.setHeld t)
      agentBoundary h.agent (match h.data with
        | some v => busWrite h.agent h.adr v s1
        | none => coreResumes h.agent s1))

/-- R28: a core's instruction meets the BUS_MAP that ended its access as its cause, and ends. -/
def coreMeets (agent adr : Nat) (s : State) : State :=
  if 1 ≤ agent ∧ agent ≤ 8 ∧ s.coreExists (agent - 1) then
    agentBoundary agent
      (raiseSync (agent - 1) (busCause .busMap) 0 adr 0 (s.putCore (agent - 1) { s.core (agent - 1) with resume := false }))
  else s

/-- BUSACC: the debug agent reads (no data) or writes (R352, R405). -/
def execBusacc (adr : Addr) (data : Option Word) (s : State) : Out :=
  let s1 := tapTo .busacc [] s
  .next (match data with
    | some v => busWrite ownDebug adr.toNat v.toNat s1
    | none => busRead ownDebug adr.toNat s1)

/-! ### DMA (R316 to R318) -/

/-- The number of a response in DMnn.STATUS.RESP. -/
def Resp.num : Resp → Nat
  | .ok => 0
  | .busMap => 1
  | .busOwn => 2
  | .busEcc => 3
  | .collide => 4

/-- R317: an access of the channel failed. -/
def dmaFail (n : Nat) (r : Resp) (a : Nat) (s : State) : State :=
  ((s.put (DMA.STATUS.STATE n) 4).put (DMA.STATUS.RESP n) r.num).put (DMA.ERRADDR.ADDR n) a

/-- R317: the banks and mailboxes of the channel go back. -/
def dmaReturn (n : Nat) (s : State) : State :=
  if s.get (DMA.CTRL.RET n) = 0 then s
  else ((List.range 68).filter (fun b => s.get (BANKS.OWNER.OWNER b) == ownDma n)).foldl
    (fun u b => bankOwnIf b (s.get (DMA.CTRL.RET n)) u) s

/-- R317: the transfer completes when nothing remains. -/
def dmaEnd (n : Nat) (s : State) : State :=
  if s.get (DMA.CNT.CNT n) != 0 then s
  else
    let d := s.dma n
    let s1 := s.put (DMA.STATUS.STATE n) 3
    let s2 := if s.on (DMA.CTRL.RLD n) then
        ((s1.put (DMA.SRC.SRC n) d.src).put (DMA.DST.DST n) d.dst).put (DMA.CNT.CNT n) d.cnt
      else s1
    (dmaReturn n s2).raiseIf (s.on (DMA.CTRL.EVQ n)) (272 + n)

/-- One word is done: the addresses step and the count falls. -/
def dmaStep (n src dst cnt : Nat) (s : State) : State :=
  dmaEnd n (((s.put (DMA.SRC.SRC n) (s.get (DMA.SRC.SRC n) + src)).put (DMA.DST.DST n) (s.get (DMA.DST.DST n) + dst)).put
    (DMA.CNT.CNT n) (s.get (DMA.CNT.CNT n) - cnt))

/-- R304, R305: the word is a mailbox word, and the agent reaches it through port B. -/
def portBWord (agent a : Nat) : Bool :=
  (match targetOf a with
    | .bank b => decide (64 ≤ b)
    | _ => false) && !portA agent

/-- R29, R305: a write that would be OK; where port A writes the same mailbox word in the same cycle (`hit`), port A's write
stands, and this one is discarded and ends with COLLIDE. -/
def busPutHit (hit : Bool) (agent a v : Nat) (s : State) : Got :=
  let g := busPut agent a v s
  if hit && portBWord agent a && g.resp == .ok then ⟨.collide, 0, restartFor a s⟩ else g

/-- COPY and FILL: one word. -/
def dmaCopy (n : Nat) (hit : Bool) (s : State) : State :=
  let fill := s.get (DMA.CTRL.MODE n) == 3
  let src := s.get (DMA.SRC.SRC n) % 2 ^ 32
  let dst := s.get (DMA.DST.DST n)
  let g := if fill then ⟨.ok, s.get (DMA.SRC.SRC n), s⟩ else busGet (ownDma n) src s
  if g.resp ≠ .ok then dmaFail n g.resp src g.st
  else
    let h := busPutHit hit (ownDma n) dst g.val g.st
    if h.resp ≠ .ok then dmaFail n h.resp dst h.st
    else dmaStep n (if fill then 0 else h.st.get (DMA.CTRL.SINC n)) (h.st.get (DMA.CTRL.DINC n)) 1 h.st

/-- R316, R317: a block that fails within it is work not yet done: its words go back into the registers. -/
def dmaUndo (n : Nat) (s : State) : State :=
  let d := s.dma n
  let s1 := if s.get (DMA.CTRL.MODE n) = 1 then s.put (DMA.SRC.SRC n) (s.get (DMA.SRC.SRC n) + 2 ^ 36 - d.pos)
    else s.put (DMA.DST.DST n) (s.get (DMA.DST.DST n) + 2 ^ 32 - d.pos)
  (s1.put (DMA.CNT.CNT n) (s.get (DMA.CNT.CNT n) + d.pos)).putDma n { d with buf := [], pos := 0 }

/-- PACK: one source word; the sixteenth writes the block. -/
def dmaPack (n : Nat) (s : State) : State :=
  let d := s.dma n
  let src := s.get (DMA.SRC.SRC n) % 2 ^ 32
  let dst := s.get (DMA.DST.DST n)
  let g := busGet (ownDma n) src s
  if g.resp ≠ .ok then dmaFail n g.resp src (dmaUndo n g.st)
  else if d.pos < 15 then dmaStep n 1 0 1 (g.st.putDma n { d with buf := d.buf ++ [g.val], pos := d.pos + 1 })
  else
    let h := if g.st.asleep dst then ⟨.busMap, 0, g.st⟩ else denseWrite (ownDma n) dst (d.buf ++ [g.val]) (restartFor dst g.st)
    if h.resp ≠ .ok then dmaFail n h.resp dst (dmaUndo n h.st)
    else dmaStep n 1 9 1 (h.st.putDma n { d with buf := [], pos := 0 })

/-- UNPACK: the block is read before its first word; one destination word. -/
def dmaUnpack (n : Nat) (hit : Bool) (s : State) : State :=
  let d := s.dma n
  let src := s.get (DMA.SRC.SRC n) % 2 ^ 32
  let dst := s.get (DMA.DST.DST n)
  let r : Resp × List Nat × State :=
    if d.pos ≠ 0 then (.ok, d.buf, s)
    else if s.asleep src then (.busMap, [], s)
    else
      let q := granuleReads src 9 (restartFor src s)
      (q.1, unpackBlock q.2.1, q.2.2)
  if r.1 ≠ .ok then dmaFail n r.1 src r.2.2
  else
    let h := busPutHit hit (ownDma n) dst (r.2.1.getD d.pos 0) r.2.2
    if h.resp ≠ .ok then dmaFail n h.resp dst (dmaUndo n h.st)
    else dmaStep n (if d.pos = 15 then 9 else 0) 1 1
      (h.st.putDma n { d with buf := if d.pos = 15 then [] else r.2.1, pos := (d.pos + 1) % 16 })

/-- R318: the channel whose turn it is: the first in RUN after the one that moved a word last. -/
def State.dmaTurn (s : State) : Option Nat :=
  let last := ((List.range 16).find? (fun k => (s.dma k).last)).getD 15
  ((List.range 16).map (fun i => (last + 1 + i) % 16)).find? (fun k => s.get (DMA.STATUS.STATE k) == 2)

/-- R318: the channel is the one that moved a word last. -/
def dmaServed (n : Nat) (s : State) : State :=
  (List.range 16).foldl (fun u k => u.putDma k { u.dma k with last := k == n }) s

/-- DMA_WORD: the transfer unit moves one word for the channel whose turn it is (R316 to R318); `hit`: port A writes the mailbox word
it writes in the same cycle (R305). -/
def execDmaWord (n : Fin 16) (s0 : State) (hit : Bool := false) : Out :=
  let s := dmaServed n.val s0
  .next (if s0.dmaTurn ≠ some n.val then s0
    else match s.get (DMA.CTRL.MODE n.val) with
      | 1 => dmaPack n.val s
      | 2 => dmaUnpack n.val hit s
      | _ => dmaCopy n.val hit s)

end Sys2Proof.Machine
end

