-- ==== Sys2Proof/Machine/Flags.lean ====
section
/-! DEFINITION. The flag computations of Gnoud-36 (R192). -/

namespace Sys2Proof.Machine

/-- What a function gives: a value, and each flag that its table entry sets (none: the flag keeps its value). -/
structure Res where
  val : Nat
  z   : Option Bool
  n   : Option Bool
  c   : Option Bool
  v   : Option Bool
deriving DecidableEq, Repr

/-- R192: bit w − 1 of a value. -/
def top (w x : Nat) : Bool := bitOf x (w - 1)

/-- R192: z and n of a result of width `w`, with c and v where they are set. -/
def resOf (w res : Nat) (c v : Option Bool) : Res := ⟨res, some (res == 0), some (top w res), c, v⟩

/-- R192: the addition of width `w`. -/
def addRes (w a b cin : Nat) : Res :=
  let sum := a + b + cin
  let res := sum % 2 ^ w
  resOf w res (some (bitOf sum w)) (some (top w a == top w b && top w res != top w a))

/-- R192: the subtraction of width `w`; c means borrow. -/
def subRes (w a b bin : Nat) : Res :=
  let res := (a + 2 * 2 ^ w - b - bin) % 2 ^ w
  resOf w res (some (decide (a < b + bin))) (some (top w a != top w b && top w res != top w a))

/-- R192: logic, move and count functions set Z and N only. -/
def logRes (w res : Nat) : Res := resOf w res none none

/-- A function that sets Z only. -/
def zRes (res : Nat) : Res := ⟨res, some (res == 0), none, none, none⟩

/-- A function that sets no flag. -/
def bareRes (res : Nat) : Res := ⟨res, none, none, none, none⟩

/-- R195: an exact value saturated to −2^35 … 2^35 − 1; V tells that it was. -/
def satRes (x : Int) : Res :=
  let y := clampInt (-(2 ^ 35)) (2 ^ 35 - 1) x
  resOf 36 (unsgn 36 y) none (some (decide (y ≠ x)))

/-- Set the flags that a result sets. -/
def putFlags (c : Nat) (r : Res) (s : State) : State :=
  let x := s.core c
  s.putCore c { x with z := r.z.getD x.z, n := r.n.getD x.n, c := r.c.getD x.c, v := r.v.getD x.v }

/-- R193: the conditions; 15 is reserved. -/
def CoreSt.holds (x : CoreSt) (cond : Nat) : Bool :=
  match cond with
  | 0 => true
  | 1 => x.z
  | 2 => !x.z
  | 3 => x.n != x.v
  | 4 => x.n == x.v
  | 5 => x.z || x.n != x.v
  | 6 => !x.z && x.n == x.v
  | 7 => x.c
  | 8 => !x.c
  | 9 => x.c || x.z
  | 10 => !x.c && !x.z
  | 11 => x.n
  | 12 => !x.n
  | 13 => x.v
  | 14 => !x.v
  | _ => false

/-! ### Shifts (R195) -/

/-- R192, R195: a shift left; an amount of 36 or more gives 0. C is the last bit shifted out, 0 when the amount is 0. -/
def shlRes (a k : Nat) : Res :=
  resOf 36 (a * 2 ^ k % 2 ^ 36) (some (k != 0 && bitOf (a * 2 ^ k) 36)) none

/-- R192, R195: a logical shift right. -/
def shrRes (a k : Nat) : Res := resOf 36 (a / 2 ^ k) (some (k != 0 && bitOf a (k - 1))) none

/-- R192, R195: an arithmetic shift right; an amount of 36 or more gives a word of sign bits. -/
def sarRes (a k : Nat) : Res :=
  let x := sgn 36 a
  resOf 36 (unsgn 36 (x / (2 ^ k : Nat))) (some (k != 0 && x / (2 ^ (k - 1) : Nat) % 2 == 1)) none

/-- R192, R195: a rotation left, its amount modulo 36. -/
def rolRes (a k : Nat) : Res :=
  let j := k % 36
  resOf 36 (a * 2 ^ j % 2 ^ 36 + a / 2 ^ (36 - j)) (some (j != 0 && bitOf a (36 - j))) none

end Sys2Proof.Machine
end

