-- ==== Sys2Proof/Machine/Operands.lean ====
section
/-! DEFINITION. The operand forms of Gnoud-36: immediates, effective addresses, bit fields, halves and octets (R183, R188, R195 to
R197). -/

namespace Sys2Proof.Machine

/-- R196: IMM20 sign-extended to 36 bits. -/
def sx20 (imm : Nat) : Nat := unsgn 36 (sgn 20 imm)

/-- R197: the effective address of an I-format access. -/
def State.ea (s : State) (c a imm : Nat) : Nat := (s.reg c a + sx20 imm) % 2 ^ 32

/-- R201: the target of a J-format transfer: the address of its word plus sx(DISP26), modulo 2^32. -/
def jTarget (pc disp : Nat) : Nat := ((pc : Int) + sgn 26 disp) % (2 ^ 32 : Nat) |>.toNat

/-- R197: an L-format address has its bits 35:32 zero. -/
def longBad (x : Nat) : Bool := decide (2 ^ 32 ≤ x)

/-- R196: position and width of a BFX or BFI; the field lies in the word. -/
def bfPos (imm : Nat) : Nat := bits imm 0 6
def bfWidth (imm : Nat) : Nat := bits imm 6 6
def bfOk (imm : Nat) : Bool := bfWidth imm != 0 && decide (bfPos imm + bfWidth imm ≤ 36)

/-- R196: BFX. -/
def bfExtract (a imm : Nat) : Nat :=
  let v := bits a (bfPos imm) (bfWidth imm)
  if bitOf imm 12 then unsgn 36 (sgn (bfWidth imm) v) else v

/-- Replace `w` bits from `lo` on by the low bits of a value. -/
def setBits (d lo w v : Nat) : Nat := d % 2 ^ lo + v % 2 ^ w * 2 ^ lo + d / 2 ^ (lo + w) * 2 ^ (lo + w)

/-- R196: BFI. -/
def bfInsert (d a imm : Nat) : Nat := setBits d (bfPos imm) (bfWidth imm) a

/-- R182, R195: where half K[0] starts (1 high). -/
def halfLo (k : Nat) : Nat := if bitOf k 0 then 18 else 0

/-- R195: EXH. -/
def halfOf (a k : Nat) : Nat := if bitOf k 1 then unsgn 36 (sgn 18 (bits a (halfLo k) 18)) else bits a (halfLo k) 18

/-- R183: where octet K[1:0] starts: index 0 is bits 31:24. -/
def octLo (k : Nat) : Nat := 24 - 8 * (k % 4)

/-- R195: BSWAP. -/
def swapOctets (a : Nat) : Nat := bits a 0 8 * 2 ^ 24 + bits a 8 8 * 2 ^ 16 + bits a 16 8 * 2 ^ 8 + bits a 24 8

/-- R195: CLZ: leading zeros of a 36-bit word. -/
def leadZeros (a : Nat) : Nat := if a = 0 then 36 else 35 - a.log2

/-- R195: POPC. -/
def popCount (a : Nat) : Nat := ((List.range 36).filter (bitOf a)).length

end Sys2Proof.Machine
end

