-- ==== Sys2Proof/Machine/Issue.lean ====
section
/-! DEFINITION. What every instruction of a core shares: when it may run, the fetch of its words, its memory accesses and the
agreement tokens of a safe core (R189 to R191, R198 to R200, R206, R218, R276). -/

namespace Sys2Proof.Machine

/-! ### Running an instruction -/

/-- R238, R258, R268, R407: the core runs its next instruction, or the next element of a long one, now: it is in SERVICE and not
halted, its task runs or a level stands, nothing is to be taken or done at this boundary, and no access of it is held. What has begun
and waited for an island in Grey goes on first (R12). A halted core takes no cause, so a STEP runs nothing while one that its instruction
raised stands (DEDUCED, log 176). -/
def State.mayIssue (s : State) (c : Nat) : Bool :=
  let x := s.core c
  s.coreActive c && x.sync.isNone && !x.edge && (s.coreHalted c || x.resume || (x.pend.isNone && !s.switchDue c)) &&
    (x.level != 0 || (s.taskIs c x.task 2 && (!x.stop || x.mid || x.resume))) && !s.held.any (fun h => h.agent == ownCore c)

/-! ### Cycles and waits (R222, R226, R227) -/

/-- R227: the least operand wait for a target that takes at least `t` cycles of its own, at a core clock. -/
def leastWait (t mhz : Nat) : Nat := (t * 98 * mhz + 152999) / 153000 + 2

/-- R226: the least operand wait of an access; a bank outside the core's owned view is reached through the handshake (R217). -/
def State.accessWait (s : State) (c a : Nat) (write : Bool) : Nat :=
  let f := s.coreMHz c
  match targetOf a with
  | .bank b => if (s.core c).view.contains b then 0 else leastWait 4 f
  | .flash => leastWait 33 f
  | .ddr => leastWait (if write then 5 else 70) f
  | .reg _ _ =>
    if 0x02041000 + 0x1000 * c ≤ a ∧ a < 0x02042000 + 0x1000 * c then 0
    else leastWait 4 f + if portDieWord a then 40 * 98 * f / 150000 else 0
  | _ => leastWait 4 f

/-- R226: the access state of an instruction has passed. -/
def accessed (c a : Nat) (write : Bool) (s : State) : State := pass c (1 + s.accessWait c a write) s

/-- R229: the least wait of an access of two words, which is that of the slower one. -/
def State.pairWait (s : State) (c a b : Nat) (write : Bool) : Nat := max (s.accessWait c a write) (s.accessWait c b write)

/-! ### Fetches (R190, R223, R225, R232) -/

/-- R190: a fetch reaches code flash, a bank that the core owns, or DDR4. -/
def fetchFrom (c a : Nat) (s : State) : Got :=
  match targetOf a with
  | .flash => if a < 0x400000 then flashRead a s else ⟨.busMap, 0, s⟩
  | .bank b =>
    if 64 ≤ b then ⟨.busMap, 0, s⟩
    else if s.get (BANKS.OWNER.OWNER b) = ownCore c then bankFetch b a s
    else ⟨.busOwn, 0, s⟩
  | .ddr => ddrRead a s
  | _ => ⟨.busMap, 0, s⟩

/-- R223: the words that a miss brings into the line buffer with the one at `a`: those of its flash line, or those of its block of
DDR4 that can be read. -/
def fillLine (c a v : Nat) (s : State) : State :=
  let put (ws : List (Nat × Nat)) (u : State) : State := u.putCore c { u.core c with line := ws }
  match targetOf a with
  | .flash => put ((List.range 16).map (fun i => (a / 16 * 16 + i, s.rd (a / 16 * 16 + i)))) s
  | .ddr =>
    let r := (List.range 8).foldl (fun (p : List (Nat × Nat) × State) i =>
      let b := a / 8 * 8 + i
      if b = a then (p.1 ++ [(a, v)], p.2)
      else
        let g := ddrRead b p.2
        (if g.resp = .ok then p.1 ++ [(b, g.val)] else p.1, g.st)) ([], s)
    put r.1 r.2
  | _ => s

/-- R12, R190: a fetch from the region of its word; asleep, its island answers with BUS_MAP. -/
def fetchRegion (c a : Nat) (s : State) : Got := if s.asleep a then ⟨.busMap, 0, s⟩ else fetchFrom c a (restartFor a s)

/-- R223: the word comes from the line buffer, or from its region. -/
def fetchLine (c a : Nat) (s : State) : Got :=
  match (s.core c).line.find? (fun e => e.1 == a) with
  | some e => ⟨.ok, e.2, s⟩
  | none =>
    let g := fetchRegion c a s
    if g.resp = .ok then { g with st := fillLine c a g.val g.st } else g

/-- R231, R232: the address lies in the range of the loop buffer's tag, and the core runs a task with the buffer enabled. -/
def State.buffered (s : State) (c a : Nat) : Bool :=
  let x := s.core c
  x.level == 0 && s.gov c (CUE.MODE.LBEN c) == 1 && decide ((a + 2 ^ 32 - x.tag.1) % 2 ^ 32 ≤ x.tag.2)

/-- R190, R232: the fetch of one word: in the tag's range a word that the loop buffer holds plays from it, and any other is captured
as it comes. -/
def fetchWord (c a : Nat) (s : State) : Got :=
  if s.buffered c a then
    match (s.core c).buf.find? (fun e => e.1 == a) with
    | some e => ⟨.ok, e.2, s⟩
    | none =>
      let g := fetchLine c a s
      if g.resp = .ok then { g with st := g.st.putCore c { g.st.core c with buf := (a, g.val) :: (g.st.core c).buf } } else g
  else fetchLine c a s

/-- R223, R231: the loop buffer or the line buffer holds the word. -/
def State.wordHeld (s : State) (c a : Nat) : Bool :=
  (s.buffered c a && (s.core c).buf.any (fun e => e.1 == a)) || (s.core c).line.any (fun e => e.1 == a)

/-- R223: the least wait of the fetch of a word. -/
def State.fetchWait (s : State) (c a : Nat) : Nat := if s.wordHeld c a then 0 else s.accessWait c a false

/-- R225: the fetch of a word is a request for a flash line. -/
def State.flashMiss (s : State) (c a : Nat) : Bool := targetOf a == .flash && decide (a < 0x400000) && !s.wordHeld c a && !s.asleep a

/-- R225: the sequential fetch that a taken transfer abandons: what its access does at its target stands, its word is dropped. -/
def abandon (c a : Nat) (s : State) : State := if s.wordHeld c a then s else (fetchRegion c a s).st

/-- R218, R220: the fetch of the next word is launched; its response is kept until the word is reached. -/
def prefetch (c a : Nat) (s : State) : State :=
  if (s.core c).next.any (fun e => e.1 == a) then s
  else
    let g := fetchWord c a s
    g.st.putCore c { g.st.core c with next := some (a, (if g.resp = .ok then 0 else busCause g.resp), s.fetchWait c a) }

/-- R220: the prefetched word has arrived, and its wait has passed; the code of the cause that its fetch met, or 0. -/
def takeWord (c a : Nat) (s : State) : Nat × State :=
  let s1 := prefetch c a s
  match (s1.core c).next with
  | some e => (e.2.1, pass c e.2.2 (s1.putCore c { s1.core c with next := none }))
  | none => (0, s1)

/-- R190, R241: go on when a word has been fetched; else its cause is raised. -/
def fetched (c a : Nat) (next : State → State) (s : State) : State :=
  let g := takeWord c a s
  if g.1 = 0 then next g.2 else raiseSync c g.1 0 a 0 g.2

/-- R224: the extension word of an instruction at `pc`. That of an even address in an owned bank has come with the first word, in the
access that was checked then; that of an odd one needs a second access, which adds a cycle. -/
def extension (c pc : Nat) (next : State → State) (s : State) : State :=
  let a := (pc + 1) % 2 ^ 32
  match targetOf pc with
  | .bank b =>
    if s.wordHeld c a || !(s.core c).view.contains b then fetched c a next s
    else if pc % 2 = 1 then fetched c a next (pass c 1 s)
    else
      let g := bankFetch b a s
      if g.resp = .ok then next (if s.buffered c a then g.st.putCore c { g.st.core c with buf := (a, g.val) :: (g.st.core c).buf } else g.st)
      else raiseSync c (busCause g.resp) 0 a 0 g.st
  | _ => fetched c a next s

/-- An instruction begins: what belonged to the boundary before it is over; CONT stays for a long instruction only (R208). -/
def begin_ (c : Nat) (long : Bool) (s : State) : State :=
  let x := s.core c
  s.putCore c { x with entry := none, fresh := false, resume := false, step := false, cont := long && x.cont, mid := long && x.mid }

/-- R222, R230: the cycles that an instruction takes beside those of its accesses and transfers: of a long one, those before its
first element, at its resumption, or none. -/
def CoreSt.baseCycles (x : CoreSt) (long : Bool) : Nat :=
  if !long then 3 else if x.mid then 0 else if x.cont then 1 else 4

/-- R222, R230: the cycles up to a cause that an instruction raises, beside those of its accesses. It ends at its issue cycle at the
earliest; a TRAP, and an instruction of an absent coprocessor, in its last cycle, and an element of a long one in that of its access, after
the cycles before it. -/
def raisedCycles (b u : CoreSt) (q : Cause × Nat × Bool) : Nat :=
  if u.mid then b.baseCycles true else if q.1.code = 2 ∨ q.1.code = 4 then 3 else 2

/-- R220: the core goes on: the fetch of the next word is launched in the last cycle of the instruction, also of a WAITE that yields; at a
back edge it is that of the loop (R225), and between two elements there is none. -/
def prefetchNext (c : Nat) (s : State) : State :=
  let x := s.core c
  if x.sync.isNone && !x.edge && !x.mid && s.coreState c == 1 &&
      (x.level != 0 || s.taskIs c x.task 2 || (s.taskIs c x.task 1 && !x.away)) then prefetch c x.pc s else s

/-- R12: the access of the instruction waits for an island in Grey: the instruction goes on later, from its operand access. -/
def heldBack (c : Nat) (b u : State) : State := u.putCore c { u.core c with cont := (b.core c).cont, mid := (b.core c).mid }

/-- R202, R218: the word after an instruction of `n` words, which is fetched before a store of the instruction has acted. -/
def State.follows (s : State) (c n : Nat) : Nat :=
  let pc := (s.core c).pc
  match s.loopAt c pc with
  | some l => if s.reg c l.count = 1 then (pc + n) % 2 ^ 32 else l.first
  | none => (pc + n) % 2 ^ 32

/-- R220, R222: the cycles of an instruction that ran from `b` to `u` pass, and the next word is fetched; a TRAP, which completes, fetches
it too, and its entry drops it. At the boundary that follows a halt takes hold (R407). -/
def issued (c : Nat) (long : Bool) (b u : State) : State :=
  if u.held.any (fun h => h.agent == ownCore c) then heldBack c b u
  else haltBoundary c (match (u.core c).sync with
    | some q =>
      let v := pass c (raisedCycles (b.core c) (u.core c) q) u
      if q.2.2 then prefetch c (v.follows c 1) v else v
    | none => prefetchNext c (pass c ((b.core c).baseCycles long) u))

/-- One instruction of `n` words runs at the core's PC; one that goes on, between two elements or after a wait for an island in Grey, has
its words. -/
def issue (c n : Nat) (long : Bool) (body : State → State) (s : State) : State :=
  let u := catchUp c s
  if u.mayIssue c then
    let pc := (s.core c).pc
    let b := begin_ c long u
    issued c long b (if (s.core c).resume || (b.core c).mid then body b
      else fetched c pc (fun t => if n = 2 then extension c pc body t else body t) b)
  else s

/-- R202: the word at `pc` has completed: where it is the last of an active loop, in the loop's window, the back edge is due. -/
def loopEdge (c pc : Nat) (s : State) : State :=
  if (s.loopAt c pc).isSome ∧ (s.core c).sync.isNone then s.putCore c { s.core c with edge := true } else s

/-- R190: execution goes on with the next instruction, `n` words on. -/
def adv (c n : Nat) (s : State) : State :=
  let x := s.core c
  loopEdge c x.pc (s.putCore c { x with pc := (x.pc + n) % 2 ^ 32, cont := false, mid := false })

/-- R222, R225: a transfer from an instruction of `n` words has been taken, which took `k` cycles more: the sequential fetch is
abandoned. -/
def taken (c n k : Nat) (s u : State) : State :=
  if (u.core c).sync.isSome then u else pass c k (abandon c (((s.core c).pc + n) % 2 ^ 32) u)

/-- R225: the target of a transfer is fetched; where the abandoned fetch and this one are requests for flash lines, this one waits until
that one, launched `k` cycles before, has returned. -/
def fetchBehind (c n k : Nat) (s u : State) : State :=
  let v := prefetchNext c u
  match (v.core c).next with
  | some e =>
    if s.flashMiss c (((s.core c).pc + n) % 2 ^ 32) && u.flashMiss c e.1 then
      v.putCore c { v.core c with next := some (e.1, e.2.1, e.2.2 + (leastWait 33 (u.coreMHz c) - k)) }
    else v
  | none => v

/-- A transfer that is taken: `f` makes it; where it stays in its window, the word at the old PC has completed in it. -/
def transfer (c n k : Nat) (f : State → State) (s : State) : State :=
  let u := taken c n k s (f s)
  fetchBehind c n k s (if u.window c = s.window c then loopEdge c (s.core c).pc u else u)

/-! ### Accesses -/

/-- R12: the access waits for an island in Grey, and its instruction is made again. -/
def coreHold (c a : Nat) (s : State) : State :=
  let x := s.core c
  holdAccess (ownCore c) a none (s.putCore c { x with step := s.coreHalted c })

/-- R458: the words are CMP_HI and CMP_LO of a compare unit, which a double writes at one tick. -/
def cmpDouble (a b : Nat) : Bool :=
  decide (0x02010100 ≤ a) && decide (a < 0x02010140) && a % 4 == 0 && b == a + 1

/-- R458: a double to CMP_HI, by an agent, to an island that runs. -/
def cmpPut (agent a v0 v1 : Nat) (s : State) : Resp × State :=
  if s.asleep a then (.busMap, s)
  else
    let u := tcCmpWrite agent ((a - 0x02010100) / 4) 3 v0 v1 (restartFor a s)
    (u.bus.resp, u)

/-- R200: the responses that the writes of a core obtain without writing. -/
def State.coreChecks (s : State) (c : Nat) (w x : Nat × Nat) : Resp × Resp :=
  if cmpDouble w.1 x.1 then
    let r := (cmpPut (ownCore c) w.1 w.2 x.2 s).1
    (r, r)
  else ((busPut (ownCore c) (coreAdr c w.1) w.2 s).resp, (busPut (ownCore c) (coreAdr c x.1) x.2 s).resp)

/-- Writes by a core, one after another: their responses, and the state after those that are OK. Of two words the second is written first
where the first would take its permission away: both were permitted before either is written (R199, R200; DEDUCED, log 165). A word at
2^32 and a ticket is the request of a SUBMIT, which goes to the security island (log 166). -/
def corePuts (c : Nat) (ws : List (Nat × Nat)) (s : State) : List Resp × State :=
  match ws with
  | [] => ([], s)
  | [w] =>
    if 2 ^ 32 ≤ w.1 then ([.ok], secTake (w.1 - 2 ^ 32) w.2 s)
    else
      let g := busPut (ownCore c) (coreAdr c w.1) w.2 s
      ([g.resp], g.st)
  | [w, x] =>
    if cmpDouble w.1 x.1 then
      let r := cmpPut (ownCore c) w.1 w.2 x.2 s
      ([r.1, r.1], r.2)
    else
      let g := busPut (ownCore c) (coreAdr c w.1) w.2 s
      let h := busPut (ownCore c) (coreAdr c x.1) x.2 g.st
      let h' := busPut (ownCore c) (coreAdr c x.1) x.2 s
      let g' := busPut (ownCore c) (coreAdr c w.1) w.2 h'.st
      if g.resp = .ok ∧ h.resp ≠ .ok ∧ h'.resp = .ok ∧ g'.resp = .ok then ([g'.resp, h'.resp], g'.st)
      else ([g.resp, h.resp], h.st)
  | w :: t =>
    let g := busPut (ownCore c) (coreAdr c w.1) w.2 s
    let r := corePuts c t g.st
    (g.resp :: r.1, r.2)

/-- R276: the oldest held write of a core meets its token. -/
def tokenOne (c : Nat) (agree : Bool) (s : State) : State :=
  let x := s.core c
  match x.held with
  | [] => s
  | ws :: t =>
    let s1 := s.putCore c { x with held := t }
    if agree then (corePuts c ws s1).2 else s1

/-- R276: no access by the core reaches its target before the tokens of the writes before it. -/
def settle (c : Nat) (s : State) : State := (List.range (s.core c).held.length).foldl (fun u _ => tokenOne c true u) s

/-- WRITE_TOKEN: the token of the oldest write that a safe core holds out reaches its target (R276). -/
def execWriteToken (c : Fin 8) (agree : Bool) (s : State) : Out := .next (tokenOne c.val agree s)

/-- R29: which of two responses is given, and which half gave it. -/
def firstOf (r q : Resp) : Resp × Nat :=
  if r = .busMap then (r, 0) else if q = .busMap then (q, 1)
  else if r = .busOwn then (r, 0) else if q = .busOwn then (q, 1)
  else if r = .ok then (q, 1) else (r, 0)

/-- R200: the cause of an access of two words at `a`: of a double that is split, INFO and XARG tell the failing half. -/
def accessCause (c a : Nat) (split : Bool) (r : Resp × Nat) (s : State) : State :=
  let h := if split then r.2 else 0
  raiseSync c (busCause r.1) h ((a + h) % 2 ^ 32) 0 s

/-- R198: a core reads one word; `next` goes on with it. -/
def coreRead (c a : Nat) (next : Nat → State → State) (s : State) : State :=
  let s1 := settle c s
  if s1.grey (coreAdr c a) then coreHold c (coreAdr c a) s1
  else
    let g := busGet (ownCore c) (coreAdr c a) s1
    let u := accessed c (coreAdr c a) false g.st
    if g.resp = .ok then next g.val u else raiseSync c (busCause g.resp) 0 a 0 u

/-- R199, R200: a core reads a double; `next` goes on with its even and odd word. -/
def coreReadPair (c a : Nat) (next : Nat → Nat → State → State) (s : State) : State :=
  let a0 := coreAdr c a
  let a1 := coreAdr c ((a + 1) % 2 ^ 32)
  let s1 := settle c s
  if s1.grey a0 then coreHold c a0 s1
  else if s1.grey a1 then coreHold c a1 s1
  else
    let g := busGet (ownCore c) a0 s1
    let h := busGet (ownCore c) a1 g.st
    let u := pass c (1 + s1.pairWait c a0 a1 false) h.st
    if g.resp = .ok ∧ h.resp = .ok then next g.val h.val (pass c (a % 2) u)
    else accessCause c a (a % 2 == 1) (firstOf g.resp h.resp) u

/-- R276: writes of a core that will be performed: at once in SPLIT; those of a safe core wait for their token. -/
def corePerform (c : Nat) (ws : List (Nat × Nat)) (s : State) : State :=
  if s.split then (corePuts c ws s).2
  else
    let x := s.core c
    s.putCore c { x with held := x.held ++ [ws] }

/-- R198, R218: a core writes one word; `next` goes on. A refused write changes nothing. -/
def coreWrite (c n a v : Nat) (next : State → State) (s : State) : State :=
  let s1 := settle c s
  if s1.grey (coreAdr c a) then coreHold c (coreAdr c a) s1
  else
    let r := (busPut (ownCore c) (coreAdr c a) v s1).resp
    let u := accessed c (coreAdr c a) true s1
    if r = .ok then next (corePerform c [(a, v)] (prefetch c (s1.follows c n) u)) else raiseSync c (busCause r) 0 a 0 u

/-- R199, R200, R215, R229: a core writes two words, both or neither; a cause names address `a`. A split store checks both in a state of
its own. -/
def coreWritePair (c n a : Nat) (split : Bool) (w0 w1 : Nat × Nat) (next : State → State) (s : State) : State :=
  let s1 := settle c s
  if s1.grey (coreAdr c w0.1) then coreHold c (coreAdr c w0.1) s1
  else if s1.grey (coreAdr c w1.1) then coreHold c (coreAdr c w1.1) s1
  else
    let r := s1.coreChecks c w0 w1
    let w := 1 + s1.pairWait c (coreAdr c w0.1) (coreAdr c w1.1) true
    let u := pass c w s1
    if r.1 = .ok ∧ r.2 = .ok then
      next (corePerform c [w0, w1] (prefetch c (s1.follows c n) (pass c (if split then 1 + w else 0) u)))
    else accessCause c a split (firstOf r.1 r.2) u

end Sys2Proof.Machine
end

