-- ==== Sys2Proof/Machine/CueCmds.lean ====
section
/-! DEFINITION. The commands that are writes to a core's section of the Cue, and REGISTER_WRITE (R4, R5, R12, R27, R55, R261, R267 to
R270, R276, R457). -/

namespace Sys2Proof.Machine

/-- R276: an access by a core reaches its target after the tokens of the writes that the core made before it. -/
def afterTokens (agent : Nat) (s : State) : State := if 1 ≤ agent ∧ agent ≤ 8 then settle (agent - 1) s else s

/-- REGISTER_WRITE: an agent writes a control register (R4, R5, R12, R27, R55, R269, R457). -/
def execRegisterWrite (agent : Owner) (adr : Addr) (v : Word) (s : State) : Out :=
  .next (registerWrite agent.toNat (agentAdr agent.toNat adr.toNat) v.toNat (afterTokens agent.toNat s))

/-- CUE_POST: any agent sets wake bits of a task (R261). -/
def execCuePost (agent : Owner) (c t : Fin 8) (mask : BitVec 32) (s : State) : Out :=
  .next (onIsland (c.val % 4) agent.toNat (fun s =>
    if s.coreExists c.val then (cueWake c.val t.val mask.toNat s).answer agent.toNat .ok 0 0
    else s.answer agent.toNat .busMap 0 0) (afterTokens agent.toNat s))

/-- TASK_START: a TCMD write with code 1 (R268). -/
def execTaskStart (agent : Owner) (c t : Fin 8) (s : State) : Out :=
  .next (onIsland (c.val % 4) agent.toNat (fun s =>
    cueGate agent.toNat c.val (taskStart c.val t.val) s) (afterTokens agent.toNat s))

/-- TASK_STOP: a TCMD write with code 2 (R268). -/
def execTaskStop (agent : Owner) (c t : Fin 8) (s : State) : Out :=
  .next (onIsland (c.val % 4) agent.toNat (fun s =>
    cueGate agent.toNat c.val (taskStop c.val t.val) s) (afterTokens agent.toNat s))

/-- TASK_RESUME: a TCMD write with code 3 (R268). -/
def execTaskResume (agent : Owner) (c t : Fin 8) (s : State) : Out :=
  .next (onIsland (c.val % 4) agent.toNat (fun s =>
    cueGate agent.toNat c.val (taskResume c.val t.val) s) (afterTokens agent.toNat s))

/-- TASK_RELEASE: a TCMD write with code 4 (R268). -/
def execTaskRelease (agent : Owner) (c t : Fin 8) (s : State) : Out :=
  .next (onIsland (c.val % 4) agent.toNat (fun s =>
    cueGate agent.toNat c.val (taskRelease c.val t.val) s) (afterTokens agent.toNat s))

/-- FLUSH: a PARKCTL write with FLUSH = 1 (R267). -/
def execFlush (agent : Owner) (c : Fin 8) (s : State) : Out :=
  .next (onIsland (c.val % 4) agent.toNat (fun s =>
    cueGate agent.toNat c.val (cueFlush c.val) s) (afterTokens agent.toNat s))

/-- DISCARD: a PARKCTL write with DISCARD = 1 (R267). -/
def execDiscard (agent : Owner) (c : Fin 8) (s : State) : Out :=
  .next (onIsland (c.val % 4) agent.toNat (fun s =>
    cueGate agent.toNat c.val (cueDiscard c.val) s) (afterTokens agent.toNat s))

/-- SHADOW_WRITE: a write of word `j` of shadow bank `k`, 1 to 7 (R270). -/
def execShadowWrite (agent : Owner) (c k : Fin 8) (j : Fin 16) (v : Word) (s : State) : Out :=
  .next (onIsland (c.val % 4) agent.toNat (fun s =>
    if s.coreExists c.val && k.val != 0 then shadowWrite agent.toNat c.val k.val j.val v.toNat s
    else s.answer agent.toNat .busMap 0 0) (afterTokens agent.toNat s))

/-- CUE_LOCKED_WRITE: a write to TCFGt or TPCt of a task (R269). -/
def execCueLockedWrite (agent : Owner) (c t : Fin 8) (pc : Bool) (v : Word) (s : State) : Out :=
  .next (onIsland (c.val % 4) agent.toNat (fun s =>
    cueGate agent.toNat c.val (taskWordWrite c.val t.val pc v.toNat) s) (afterTokens agent.toNat s))

end Sys2Proof.Machine
end

