-- ==== Sys2Proof/Machine/AgentCmds.lean ====
section
/-! DEFINITION. The commands that an agent gives by its accesses, other than those of a Cue. Each is an access that reaches its target after
the tokens of the writes that a core made before it (R276; log 150). -/

namespace Sys2Proof.Machine

/-! ### Timecode -/

/-- TC_CMP_WRITE: a write to the compare value or the period of a unit (R458). -/
def execTcCmpWrite (agent : Owner) (n : Fin 16) (which : Fin 4) (v v2 : Word) (s0 : State) : Out :=
  let s := afterTokens agent.toNat s0
  .next (onIsland 19 agent.toNat (fun s =>
    tcCmpWrite agent.toNat n.val which.val v.toNat v2.toNat s) s)

/-- TC_CLAIM: a CTRL write with CLAIM = 1 (R26). -/
def execTcClaim (agent : Owner) (n : Fin 16) (v : Word) (s0 : State) : Out :=
  let s := afterTokens agent.toNat s0
  .next (onIsland 19 agent.toNat (fun s =>
    tcCtrlWrite agent.toNat n.val (withBit v.toNat 4) s) s)

/-- TC_UNCLAIM: a CTRL write with CLAIM = 0 (R26). -/
def execTcUnclaim (agent : Owner) (n : Fin 16) (v : Word) (s0 : State) : Out :=
  let s := afterTokens agent.toNat s0
  .next (onIsland 19 agent.toNat (fun s =>
    tcCtrlWrite agent.toNat n.val (withoutBit v.toNat 4) s) s)

/-- TC_ENABLE: a CTRL write with EN = 1 by the unit's owner (R23, R24). -/
def execTcEnable (agent : Owner) (n : Fin 16) (v : Word) (s0 : State) : Out :=
  let s := afterTokens agent.toNat s0
  .next (onIsland 19 agent.toNat (fun s =>
    tcCtrlWrite agent.toNat n.val (withBit v.toNat 0) s) s)

/-! ### Claims -/

/-- CLAIM_WRITE: an agent writes a claim word of the claim table (R30, R33, R34). -/
def execClaimWrite (agent : Owner) (res : BitVec 12) (v : Word) (s0 : State) : Out :=
  let s := afterTokens agent.toNat s0
  .next (onIsland 26 agent.toNat (claimWrite agent.toNat res.toNat (bits v.toNat 0 8)) s)

/-! ### Banks and mailboxes -/

/-- BANK_OWNER_WRITE: a write to BKnn.OWNER (0 to 63) or MBn.OWNER (64 to 67) (R300). -/
def execBankOwnerWrite (agent : Owner) (b : Fin 68) (v : Word) (s0 : State) : Out :=
  let s := afterTokens agent.toNat s0
  .next (onIsland (min 24 (20 + b.val / 16)) agent.toNat (fun s =>
    bankOwnerWrite agent.toNat b.val v.toNat s) s)

/-! ### DDR4 -/

/-- DDR_INIT: a write of DDR.CMD with INIT = 1 (R310). -/
def execDdrInit (agent : Owner) (s0 : State) : Out :=
  let s := afterTokens agent.toNat s0
  .next (onIsland 27 agent.toNat (fun s =>
    (ddrInit s).answer agent.toNat .ok 0 0) s)

/-! ### DMA -/

/-- DMA_ENABLE: a DMnn.CTRL write with EN = 1 (R316). -/
def execDmaEnable (agent : Owner) (n : Fin 16) (v : Word) (s0 : State) : Out :=
  let s := afterTokens agent.toNat s0
  .next (onIsland 24 agent.toNat (fun s =>
    dmaCtrlWrite agent.toNat n.val (if bitOf v.toNat 0 then v.toNat else v.toNat + 1) s) s)

/-- DMA_DISABLE: a DMnn.CTRL write with EN = 0 (R318). -/
def execDmaDisable (agent : Owner) (n : Fin 16) (v : Word) (s0 : State) : Out :=
  let s := afterTokens agent.toNat s0
  .next (onIsland 24 agent.toNat (fun s =>
    dmaCtrlWrite agent.toNat n.val (if bitOf v.toNat 0 then v.toNat - 1 else v.toNat) s) s)

/-- DMA_GO: a DMnn.CTRL write with GO = 1 and EN as `v` carries it (R317). -/
def execDmaGo (agent : Owner) (n : Fin 16) (v : Word) (s0 : State) : Out :=
  let s := afterTokens agent.toNat s0
  .next (onIsland 24 agent.toNat (fun s =>
    dmaCtrlWrite agent.toNat n.val (if bitOf v.toNat 1 then v.toNat else v.toNat + 2) s) s)

/-! ### Code flash -/

/-- FLASH_QUEUE_ENABLE: a FLASH.QCTL write with EN = 1 (R331). -/
def execFlashQueueEnable (agent : Owner) (v : Word) (s0 : State) : Out :=
  let s := afterTokens agent.toNat s0
  .next (onIsland 26 agent.toNat (flashQctlWrite agent.toNat (if bitOf v.toNat 0 then v.toNat else v.toNat + 1)) s)

/-- FLASH_QUEUE_DISABLE: a FLASH.QCTL write with EN = 0; work in progress completes (R331). -/
def execFlashQueueDisable (agent : Owner) (v : Word) (s0 : State) : Out :=
  let s := afterTokens agent.toNat s0
  .next (onIsland 26 agent.toNat (flashQctlWrite agent.toNat (if bitOf v.toNat 0 then v.toNat - 1 else v.toNat)) s)

/-! ### The record store -/

/-- RECORD_READ: a RSCTL write with CMD = 1 (R346). -/
def execRecordRead (agent : Owner) (v : Word) (s0 : State) : Out :=
  let s := afterTokens agent.toNat s0
  .next (onIsland 26 agent.toNat (recordCtlWrite agent.toNat (withCmd v.toNat 1)) s)

/-- RECORD_WRITE: a RSCTL write with CMD = 2 (R346, R347). -/
def execRecordWrite (agent : Owner) (v : Word) (s0 : State) : Out :=
  let s := afterTokens agent.toNat s0
  .next (onIsland 26 agent.toNat (recordCtlWrite agent.toNat (withCmd v.toNat 2)) s)

/-- RECORD_DELETE: a RSCTL write with CMD = 3 (R346). -/
def execRecordDelete (agent : Owner) (v : Word) (s0 : State) : Out :=
  let s := afterTokens agent.toNat s0
  .next (onIsland 26 agent.toNat (recordCtlWrite agent.toNat (withCmd v.toNat 3)) s)

/-! ### Read-out protection -/

/-- RAISE1: an RDPCMD write with code 1 (R353). -/
def execRaise1 (agent : Owner) (s0 : State) : Out :=
  let s := afterTokens agent.toNat s0
  .next (onIsland 26 agent.toNat (rdpCommand agent.toNat 1) s)

/-- RAISE2: an RDPCMD write with code 2 (R353). -/
def execRaise2 (agent : Owner) (s0 : State) : Out :=
  let s := afterTokens agent.toNat s0
  .next (onIsland 26 agent.toNat (rdpCommand agent.toNat 2) s)

/-- LOWER0: an RDPCMD write with code 3 (R353, R354). -/
def execLower0 (agent : Owner) (s0 : State) : Out :=
  let s := afterTokens agent.toNat s0
  .next (onIsland 26 agent.toNat (rdpCommand agent.toNat 3) s)

/-! ### The security island -/

/-- ROLLFWD: an OTPCMD write with code 1 (R396). -/
def execRollfwd (agent : Owner) (s0 : State) : Out :=
  let s := afterTokens agent.toNat s0
  .next (onIsland 29 agent.toNat (fun s =>
    otpCommand agent.toNat 1 0 s) s)

/-- REVOKE: an OTPCMD write with code 2 (R396). -/
def execRevoke (agent : Owner) (arg : BitVec 4) (s0 : State) : Out :=
  let s := afterTokens agent.toNat s0
  .next (onIsland 29 agent.toNat (fun s =>
    otpCommand agent.toNat 2 arg.toNat s) s)

/-- PROGKEY: an OTPCMD write with code 3 (R396). -/
def execProgkey (agent : Owner) (arg : BitVec 4) (s0 : State) : Out :=
  let s := afterTokens agent.toNat s0
  .next (onIsland 29 agent.toNat (fun s =>
    otpCommand agent.toNat 3 arg.toNat s) s)

/-- PROGHOST: an OTPCMD write with code 4 (R396). -/
def execProghost (agent : Owner) (s0 : State) : Out :=
  let s := afterTokens agent.toNat s0
  .next (onIsland 29 agent.toNat (fun s =>
    otpCommand agent.toNat 4 0 s) s)

/-- PROGDBG: an OTPCMD write with code 5 (R396). -/
def execProgdbg (agent : Owner) (s0 : State) : Out :=
  let s := afterTokens agent.toNat s0
  .next (onIsland 29 agent.toNat (fun s =>
    otpCommand agent.toNat 5 0 s) s)

/-! ### Debug -/

/-- CHALLENGE: a DEBUG.CMD write with code 1 (R406). -/
def execChallenge (agent : Owner) (s0 : State) : Out :=
  let s := afterTokens agent.toNat s0
  .next (onIsland 26 agent.toNat (debugCommand agent.toNat 1) s)

/-- UNLOCK: a DEBUG.CMD write with code 2 (R406). -/
def execUnlock (agent : Owner) (s0 : State) : Out :=
  let s := afterTokens agent.toNat s0
  .next (onIsland 26 agent.toNat (debugCommand agent.toNat 2) s)

/-- LOCK: a DEBUG.CMD write with code 3 (R406). -/
def execLock (agent : Owner) (s0 : State) : Out :=
  let s := afterTokens agent.toNat s0
  .next (onIsland 26 agent.toNat (debugCommand agent.toNat 3) s)

/-- DEBUG_RESP_WRITE: a write to RESP (R406). -/
def execDebugRespWrite (agent : Owner) (v : Word) (s0 : State) : Out :=
  let s := afterTokens agent.toNat s0
  .next (onIsland 26 agent.toNat (debugResp agent.toNat v.toNat) s)

/-- DEBUG_HALT: a CORECTL write; its HALT bits stop cores at their next boundary (R407). -/
def execDebugHalt (agent : Owner) (v : Word) (s0 : State) : Out :=
  let s := afterTokens agent.toNat s0
  .next (onIsland 26 agent.toNat (coreCtlWrite agent.toNat v.toNat) s)

/-- DEBUG_STEP: a CORECTL write whose STEP bits run one instruction or element of halted cores (R407). -/
def execDebugStep (agent : Owner) (v : Word) (s0 : State) : Out :=
  let s := afterTokens agent.toNat s0
  .next (onIsland 26 agent.toNat (coreCtlWrite agent.toNat v.toNat) s)

/-! ### Starts and the watchdog -/

/-- GOODW: a write of SECURITY.START with GOODW = 1 (R385). -/
def execGoodw (agent : Owner) (s0 : State) : Out :=
  let s := afterTokens agent.toNat s0
  .next (onIsland 29 agent.toNat (startWrite agent.toNat 1) s)

/-- WDKICK: a write of a word to WDKICK (R389). -/
def execWdkick (agent : Owner) (v : Word) (s0 : State) : Out :=
  let s := afterTokens agent.toNat s0
  .next (onIsland 29 agent.toNat (fun s =>
    dogKick agent.toNat v.toNat s) s)

/-- BOOTCFG_WRITE: a write to BOOTCFG (R403). -/
def execBootcfgWrite (agent : Owner) (v : Word) (s0 : State) : Out :=
  let s := afterTokens agent.toNat s0
  .next (onIsland 29 agent.toNat (fun s =>
    bootcfgWrite agent.toNat v.toNat s) s)

/-! ### Islands and the Gaffer -/

/-- ISLAND_WAKE: a CTRL write of an island with WAKE = 1 (R367). -/
def execIslandWake (agent : Owner) (i : Fin 32) (v : Word) (s0 : State) : Out :=
  let s := afterTokens agent.toNat s0
  .next (islCtrlWrite agent.toNat i.val (if bitOf v.toNat 0 then v.toNat else v.toNat + 1) s)

/-- TWL_WRITE: a write to ISLnn.TWL (`core` none) or to CUE.TWLt of a core (R368, R369). -/
def execTwlWrite (agent : Owner) (core : Option (Fin 8 × Fin 9)) (i : Fin 32) (v : Word) (s0 : State) : Out :=
  let s := afterTokens agent.toNat s0
  .next (match core with
    | none => islTwlWrite agent.toNat i.val v.toNat s
    | some (c, t) => onIsland (coreIsland c.val) agent.toNat (cueTwlWrite agent.toNat c.val t.val v.toNat) s)

/-! ### Loop engines -/

/-- R352: a debug access that the level of read-out protection bars. -/
def State.debugBarred (s : State) (agent : Nat) : Bool := agent == ownDebug && !s.debugOpen

/-- ENGINE_MEM_WRITE: a bus write to a law-op, state or constant word (R100, R352). -/
def execEngineMemWrite (agent : Owner) (e : Fin 24) (off : BitVec 12) (v : Word) (s0 : State) : Out :=
  let s := afterTokens agent.toNat s0
  .next (onIsland (4 + e.val / 3) agent.toNat (fun s =>
    if s.debugBarred agent.toNat then s.answer agent.toNat .busOwn 0 0 else engMemWrite agent.toNat e.val off.toNat v.toNat s) s)

/-- ENGINE_OWNER_WRITE: a write to LEee.CTRL (R129). -/
def execEngineOwnerWrite (agent : Owner) (e : Fin 24) (v : Word) (s0 : State) : Out :=
  let s := afterTokens agent.toNat s0
  .next (onIsland (4 + e.val / 3) agent.toNat (fun s =>
    engCtrlWrite agent.toNat e.val v.toNat s) s)

/-- ENGINE_LOAD: the LOAD command (R131). -/
def execEngineLoad (agent : Owner) (e : Fin 24) (s0 : State) : Out :=
  let s := afterTokens agent.toNat s0
  .next (onIsland (4 + e.val / 3) agent.toNat (fun s =>
    engCommand agent.toNat e.val 1 s) s)

/-- UNLOAD (R130). -/
def execUnload (agent : Owner) (e : Fin 24) (s0 : State) : Out :=
  let s := afterTokens agent.toNat s0
  .next (onIsland (4 + e.val / 3) agent.toNat (fun s =>
    engCommand agent.toNat e.val 2 s) s)

/-- ENGINE_ARM: the ARM command (R123). -/
def execEngineArm (agent : Owner) (e : Fin 24) (s0 : State) : Out :=
  let s := afterTokens agent.toNat s0
  .next (onIsland (4 + e.val / 3) agent.toNat (fun s =>
    engCommand agent.toNat e.val 3 s) s)

/-- DISARM (R130). -/
def execDisarm (agent : Owner) (e : Fin 24) (s0 : State) : Out :=
  let s := afterTokens agent.toNat s0
  .next (onIsland (4 + e.val / 3) agent.toNat (fun s =>
    engCommand agent.toNat e.val 4 s) s)

/-- FIRE (R130). -/
def execFire (agent : Owner) (e : Fin 24) (s0 : State) : Out :=
  let s := afterTokens agent.toNat s0
  .next (onIsland (4 + e.val / 3) agent.toNat (fun s =>
    engCommand agent.toNat e.val 5 s) s)

/-- ENGINE_SPARE: the SPARE command (R130). -/
def execEngineSpare (agent : Owner) (e : Fin 24) (s0 : State) : Out :=
  let s := afterTokens agent.toNat s0
  .next (onIsland (4 + e.val / 3) agent.toNat (fun s =>
    engCommand agent.toNat e.val 6 s) s)

/-- UNSPARE (R130). -/
def execUnspare (agent : Owner) (e : Fin 24) (s0 : State) : Out :=
  let s := afterTokens agent.toNat s0
  .next (onIsland (4 + e.val / 3) agent.toNat (fun s =>
    engCommand agent.toNat e.val 7 s) s)

/-- ENGINE_RETEST: the RETEST command (R130). -/
def execEngineRetest (agent : Owner) (e : Fin 24) (s0 : State) : Out :=
  let s := afterTokens agent.toNat s0
  .next (onIsland (4 + e.val / 3) agent.toNat (fun s =>
    engCommand agent.toNat e.val 8 s) s)

/-! ### Position feedback -/

/-- PF_ENABLE: a PFnn.CTRL write with EN = 1, the lines at the levels given (R75, R79). -/
def execPfEnable (agent : Owner) (n : Fin 16) (v : Word) (a b z : Bool) (s0 : State) : Out :=
  let s := afterTokens agent.toNat s0
  .next (onIsland 16 agent.toNat (fun s =>
    pfCtrlWrite agent.toNat n.val (if bitOf v.toNat 0 then v.toNat else v.toNat + 1) a b z s) s)

/-- PF_DISABLE: a PFnn.CTRL write with EN = 0 (R33). -/
def execPfDisable (agent : Owner) (n : Fin 16) (v : Word) (s0 : State) : Out :=
  let s := afterTokens agent.toNat s0
  .next (onIsland 16 agent.toNat (fun s =>
    pfCtrlWrite agent.toNat n.val (if bitOf v.toNat 0 then v.toNat - 1 else v.toNat) false false false s) s)

/-- POS_READ: an agent reads PFnn.POS (R78). -/
def execPosRead (agent : Owner) (n : Fin 16) (s0 : State) : Out :=
  let s := afterTokens agent.toNat s0
  .next (onIsland 16 agent.toNat (fun s =>
    posRead agent.toNat n.val s) s)

/-- EMU_ENABLE: an EMUn.CTRL write with EN = 1 (R98). -/
def execEmuEnable (agent : Owner) (k : Fin 4) (v : Word) (s0 : State) : Out :=
  let s := afterTokens agent.toNat s0
  .next (onIsland 16 agent.toNat (fun s =>
    emuCtrlWrite agent.toNat k.val (if bitOf v.toNat 0 then v.toNat else v.toNat + 1) s) s)

/-! ### Sampling -/

/-- SS_ENABLE: a SSnn.CTRL write with EN = 1 (R54). -/
def execSsEnable (agent : Owner) (n : Fin 32) (v : Word) (s0 : State) : Out :=
  let s := afterTokens agent.toNat s0
  .next (onIsland 12 agent.toNat (fun s =>
    setCtrlWrite agent.toNat n.val (if bitOf v.toNat 0 then v.toNat else v.toNat + 1) s) s)

/-- SS_DISABLE: a SSnn.CTRL write with EN = 0 (R55). -/
def execSsDisable (agent : Owner) (n : Fin 32) (v : Word) (s0 : State) : Out :=
  let s := afterTokens agent.toNat s0
  .next (onIsland 12 agent.toNat (fun s =>
    setCtrlWrite agent.toNat n.val (if bitOf v.toNat 0 then v.toNat - 1 else v.toNat) s) s)

/-- SS_GO: a SSnn.CTRL write with GO = 1 (R57). -/
def execSsGo (agent : Owner) (n : Fin 32) (v : Word) (s0 : State) : Out :=
  let s := afterTokens agent.toNat s0
  .next (onIsland 12 agent.toNat (fun s =>
    setCtrlWrite agent.toNat n.val (if bitOf v.toNat 1 then v.toNat else v.toNat + 2) s) s)

/-- SS_SLOT_WRITE: a write to a slot register (R56). -/
def execSsSlotWrite (agent : Owner) (n : Fin 32) (k : Fin 16) (v : Word) (s0 : State) : Out :=
  let s := afterTokens agent.toNat s0
  .next (onIsland 12 agent.toNat (fun s =>
    slotWrite agent.toNat n.val k.val v.toNat s) s)

/-- CALGO: an agent writes 1 to SAMPLING.CAL.CALGO (R65). -/
def execCalgo (agent : Owner) (s0 : State) : Out :=
  let s := afterTokens agent.toNat s0
  .next (onIsland 12 agent.toNat (fun s =>
    (calGo s).answer agent.toNat .ok 0 0) s)

/-! ### Comparators -/

/-- CMP_ENABLE: a CMPnn.CTRL write with EN = 1 (R54, R68). -/
def execCmpEnable (agent : Owner) (n : Fin 32) (v : Word) (s0 : State) : Out :=
  let s := afterTokens agent.toNat s0
  .next (onIsland (12 + n.val / 8) agent.toNat (fun s =>
    cmpCtrlWrite agent.toNat n.val (if bitOf v.toNat 0 then v.toNat else v.toNat + 1) s) s)

/-- CMP_DISABLE: a CMPnn.CTRL write with EN = 0 (R74). -/
def execCmpDisable (agent : Owner) (n : Fin 32) (v : Word) (s0 : State) : Out :=
  let s := afterTokens agent.toNat s0
  .next (onIsland (12 + n.val / 8) agent.toNat (fun s =>
    cmpCtrlWrite agent.toNat n.val (if bitOf v.toNat 0 then v.toNat - 1 else v.toNat) s) s)

/-- CMP_MAP_WRITE: a CMPnn.CTRL write that leaves EN as it stands (R74). -/
def execCmpMapWrite (agent : Owner) (n : Fin 32) (v : Word) (s0 : State) : Out :=
  let s := afterTokens agent.toNat s0
  .next (onIsland (12 + n.val / 8) agent.toNat (fun s =>
    cmpCtrlWrite agent.toNat n.val (v.toNat / 2 * 2 + s.get (CMP.CTRL.EN n.val)) s) s)

/-- CMP_THR_WRITE: a write to CMPnn.THR (R68). -/
def execCmpThrWrite (agent : Owner) (n : Fin 32) (v : Word) (s0 : State) : Out :=
  let s := afterTokens agent.toNat s0
  .next (onIsland (12 + n.val / 8) agent.toNat (fun s =>
    thrWrite agent.toNat n.val v.toNat s) s)

/-! ### Reels -/

/-- REEL_ENABLE: an RLnn.CTRL write with EN = 1 (R136). -/
def execReelEnable (agent : Owner) (r : Fin 64) (v : Word) (s0 : State) : Out :=
  let s := afterTokens agent.toNat s0
  .next (onIsland 25 agent.toNat (fun s =>
    reelCtrlWrite agent.toNat r.val (if bitOf v.toNat 0 then v.toNat else v.toNat + 1) s) s)

/-- REEL_DISABLE: an RLnn.CTRL write with EN = 0 (R146). -/
def execReelDisable (agent : Owner) (r : Fin 64) (v : Word) (s0 : State) : Out :=
  let s := afterTokens agent.toNat s0
  .next (onIsland 25 agent.toNat (fun s =>
    reelCtrlWrite agent.toNat r.val (if bitOf v.toNat 0 then v.toNat - 1 else v.toNat) s) s)

/-- REEL_MEM_WRITE: a bus write to an entry of the pool (R137, R352). -/
def execReelMemWrite (agent : Owner) (entry : BitVec 16) (v : Word) (s0 : State) : Out :=
  let s := afterTokens agent.toNat s0
  .next (onIsland 25 agent.toNat (fun s =>
    if s.debugBarred agent.toNat then s.answer agent.toNat .busOwn 0 0 else reelMemWrite agent.toNat entry.toNat v.toNat s) s)

/-! ### Reel transfers -/

/-- SAVE_DDR: an XCTL write with CMD = 1 (R148). -/
def execSaveDdr (agent : Owner) (r : Fin 64) (s0 : State) : Out :=
  let s := afterTokens agent.toNat s0
  .next (onIsland 25 agent.toNat (fun s =>
    reelXctl agent.toNat r.val 1 s) s)

/-- LOAD_DDR: an XCTL write with CMD = 2 (R148, R151). -/
def execLoadDdr (agent : Owner) (r : Fin 64) (s0 : State) : Out :=
  let s := afterTokens agent.toNat s0
  .next (onIsland 25 agent.toNat (fun s =>
    reelXctl agent.toNat r.val 2 s) s)

/-- SAVE_REC: an XCTL write with CMD = 3 (R148, R149). -/
def execSaveRec (agent : Owner) (r : Fin 64) (s0 : State) : Out :=
  let s := afterTokens agent.toNat s0
  .next (onIsland 25 agent.toNat (fun s =>
    reelXctl agent.toNat r.val 3 s) s)

/-- LOAD_REC: an XCTL write with CMD = 4 (R148, R151). -/
def execLoadRec (agent : Owner) (r : Fin 64) (s0 : State) : Out :=
  let s := afterTokens agent.toNat s0
  .next (onIsland 25 agent.toNat (fun s =>
    reelXctl agent.toNat r.val 4 s) s)

/-- ZERO: an XCTL write with CMD = 5 (R148). -/
def execZero (agent : Owner) (r : Fin 64) (s0 : State) : Out :=
  let s := afterTokens agent.toNat s0
  .next (onIsland 25 agent.toNat (fun s =>
    reelXctl agent.toNat r.val 5 s) s)

/-! ### Rushes -/

/-- RUSHES_ENABLE: a CHc.CTRL write with EN = 1 (R319). -/
def execRushesEnable (agent : Owner) (c : Fin 32) (v : Word) (s0 : State) : Out :=
  let s := afterTokens agent.toNat s0
  .next (onIsland 27 agent.toNat (fun s =>
    rushCtrlWrite agent.toNat c.val (if bitOf v.toNat 0 then v.toNat else v.toNat + 1) s) s)

/-- RUSHES_DISABLE: a CHc.CTRL write with EN = 0 (R323). -/
def execRushesDisable (agent : Owner) (c : Fin 32) (v : Word) (s0 : State) : Out :=
  let s := afterTokens agent.toNat s0
  .next (onIsland 27 agent.toNat (fun s =>
    rushCtrlWrite agent.toNat c.val (if bitOf v.toNat 0 then v.toNat - 1 else v.toNat) s) s)

/-- CHANNEL_REARM: a CHc.CTRL write with REARM = 1 and EN as `v` carries it (R323). -/
def execChannelRearm (agent : Owner) (c : Fin 32) (v : Word) (s0 : State) : Out :=
  let s := afterTokens agent.toNat s0
  .next (onIsland 27 agent.toNat (fun s =>
    rushCtrlWrite agent.toNat c.val (if bitOf v.toNat 1 then v.toNat else v.toNat + 2) s) s)

/-- RUSHES_GO: a write to RUSHES.GO (R324). -/
def execRushesGo (agent : Owner) (v : Word) (s0 : State) : Out :=
  let s := afterTokens agent.toNat s0
  .next (onIsland 27 agent.toNat (fun s =>
    (rushGo agent.toNat v.toNat s).answer agent.toNat .ok 0 0) s)

/-! ### Gate ports and CUT -/

/-- PORT_ENABLE: a GPnn.CTRL write with EN = 1 (R153). -/
def execPortEnable (agent : Owner) (p : Fin 96) (v : Word) (s0 : State) : Out :=
  let s := afterTokens agent.toNat s0
  .next (onIsland (17 + p.val / 48) agent.toNat (fun s =>
    portCtrlWrite agent.toNat p.val (if bitOf v.toNat 0 then v.toNat else v.toNat + 1) s) s)

/-- PORT_DISABLE: a GPnn.CTRL write with EN = 0 (R170). -/
def execPortDisable (agent : Owner) (p : Fin 96) (v : Word) (s0 : State) : Out :=
  let s := afterTokens agent.toNat s0
  .next (onIsland (17 + p.val / 48) agent.toNat (fun s =>
    portCtrlWrite agent.toNat p.val (if bitOf v.toNat 0 then v.toNat - 1 else v.toNat) s) s)

/-- COMPARE_WRITE: a compare write arrives at the port island. A write by an engine arrives when it is the oldest
of that engine's writes to the port island under way (R47), and an island in Charcoal or Black takes none (DEDUCED, log 136); a
write by any other agent is a bus write of `v` (R155, R156). -/
def execCompareWrite (agent : Owner) (p : Fin 96) (x : Fin 4) (v : Word) (s0 : State) : Out :=
  let s := afterTokens agent.toNat s0
  let a := agent.toNat
  if 0x10 ≤ a ∧ a < 0x28 then
    match s.portWrites.find? (fun w => w.eng == a && w.port / 48 == p.val / 48) with
    | none => .next s
    | some w =>
      if w.port ≠ p.val ∨ w.cmp ≠ x.val then .next s else
      let s1 := s.setPortWrites (s.portWrites.erase w)
      .next (if 2 ≤ s.island (17 + p.val / 48) then s1 else
        let s2 := islandRestart (17 + p.val / 48) s1
        if s.get (GP.CTRL.WSRC p.val) == a then compareWrite p.val x.val (clampCompare w.v) w.stamp s.t a w.rev s2
        else compareForeign p.val a s2)
  else .next (onIsland (17 + p.val / 48) a (fun s =>
    if s.get (GP.CTRL.WSRC p.val) == a && a != 0 then
      (compareWrite p.val x.val (bits v.toNat 0 30) s.t s.t a false s).answer a .ok 0 0
    else s.answer a .busOwn 0 0) s)

/-- SAFE_WRITE: a write to GPnn.SAFE (R168). -/
def execSafeWrite (agent : Owner) (p : Fin 96) (v : Word) (s0 : State) : Out :=
  let s := afterTokens agent.toNat s0
  .next (safeWrite agent.toNat p.val v.toNat s)

/-- CLRTRIP: a write of 1 to GCLR.CLRTRIP. -/
def execClrtrip (agent : Owner) (g : Fin 12) (s0 : State) : Out :=
  let s := afterTokens agent.toNat s0
  .next (gclrWrite agent.toNat g.val 1 s)

/-- CLRRED: a write of 1 to GCLR.CLRRED. -/
def execClrred (agent : Owner) (g : Fin 12) (s0 : State) : Out :=
  let s := afterTokens agent.toNat s0
  .next (gclrWrite agent.toNat g.val 2 s)

/-- CUT_ASSERT: a write of 1 to CUTCMD.ASSERT. -/
def execCutAssert (agent : Owner) (s0 : State) : Out :=
  let s := afterTokens agent.toNat s0
  .next (cutCmdWrite agent.toNat 1 s)

/-- CUT_CLEAR: a write of 1 to CUTCMD.CLEAR. -/
def execCutClear (agent : Owner) (s0 : State) : Out :=
  let s := afterTokens agent.toNat s0
  .next (cutCmdWrite agent.toNat 2 s)

/-! ### The Continuity Unit -/

/-- LOG_CLEAR: a LOGCMD write with CLEAR = 1 (R296). -/
def execLogClear (agent : Owner) (s0 : State) : Out :=
  let s := afterTokens agent.toNat s0
  .next (onIsland 30 agent.toNat (fun s =>
    logCmdWrite agent.toNat 1 s) s)

/-- ENLIST: a CORECMD write with code 1 (R290). -/
def execEnlist (agent : Owner) (c : Fin 16) (s0 : State) : Out :=
  let s := afterTokens agent.toNat s0
  .next (onIsland 30 agent.toNat (fun s =>
    coreCommand agent.toNat c.val 1 s) s)

/-- CORE_RETEST: a CORECMD write with code 2 (R290). -/
def execCoreRetest (agent : Owner) (c : Fin 16) (s0 : State) : Out :=
  let s := afterTokens agent.toNat s0
  .next (onIsland 30 agent.toNat (fun s =>
    coreCommand agent.toNat c.val 2 s) s)

/-- WITHDRAW: a CORECMD write with code 3 (R290). -/
def execWithdraw (agent : Owner) (c : Fin 16) (s0 : State) : Out :=
  let s := afterTokens agent.toNat s0
  .next (onIsland 30 agent.toNat (fun s =>
    coreCommand agent.toNat c.val 3 s) s)

/-! ### Links -/

/-- MDIO_ACCESS: a MACm.MDIO write with GO = 1 (R443). -/
def execMdioAccess (agent : Owner) (m : Fin 2) (v : Word) (s0 : State) : Out :=
  let s := afterTokens agent.toNat s0
  .next (onIsland 28 agent.toNat (fun s =>
    mdioWrite agent.toNat m.val (bits v.toNat 0 35 + 2 ^ 35) s) s)

/-- CAN_ENABLE: a CANn.CTRL write with EN = 1 (R432). -/
def execCanEnable (agent : Owner) (n : Fin 4) (v : Word) (s0 : State) : Out :=
  let s := afterTokens agent.toNat s0
  .next (onIsland 28 agent.toNat (fun s =>
    canCtrlWrite agent.toNat n.val (if bitOf v.toNat 0 then v.toNat else v.toNat + 1) s) s)

/-- SPI_TX: a write to SPIn.TX (R433). -/
def execSpiTx (agent : Owner) (n : Fin 8) (v : Word) (s0 : State) : Out :=
  let s := afterTokens agent.toNat s0
  .next (onIsland 28 agent.toNat (fun s =>
    serialTx agent.toNat n.val v.toNat s) s)

/-- UART_TX: a write to UARTn.TX (R433). -/
def execUartTx (agent : Owner) (n : Fin 2) (v : Word) (s0 : State) : Out :=
  let s := afterTokens agent.toNat s0
  .next (onIsland 28 agent.toNat (fun s =>
    serialTx agent.toNat (8 + n.val) v.toNat s) s)

/-- SERIAL_RX_READ: a read of SPIn.RX (units 0 to 7) or UARTn.RX (8, 9) (R433). -/
def execSerialRxRead (agent : Owner) (u : Fin 10) (s0 : State) : Out :=
  let s := afterTokens agent.toNat s0
  .next (onIsland 28 agent.toNat (fun s =>
    (serialRead u.val s).2.answer agent.toNat .ok 0 (serialRead u.val s).1) s)

/-- SERIAL_ENABLE: a write to SPIn.CTRL or UARTn.CTRL (R433). -/
def execSerialEnable (agent : Owner) (u : Fin 10) (v : Word) (s0 : State) : Out :=
  let s := afterTokens agent.toNat s0
  .next (onIsland 28 agent.toNat (fun s =>
    serialCtrlWrite agent.toNat u.val v.toNat s) s)

/-! ### Slate -/

/-- LOCAL_GO: a LOCALCTL write with GO = 1 (R423). -/
def execLocalGo (agent : Owner) (v : Word) (s0 : State) : Out :=
  let s := afterTokens agent.toNat s0
  .next (onIsland 28 agent.toNat (fun s =>
    localCtlWrite agent.toNat (if bitOf v.toNat 0 then v.toNat else v.toNat + 1) s) s)

/-! ### Single accesses -/

/-- ACCESS_TIMEOUT: an access of an agent has waited 1,024 cycles without a response (R13); a core's instruction meets it as
cause BUS_MAP. -/
def execAccessTimeout (agent : Owner) (adr : Addr) (s0 : State) : Out :=
  let s := afterTokens agent.toNat s0
  let s1 := (s.report .channelTimeout (elIsland (agentIsland agent.toNat)) adr.toNat).answer agent.toNat .busMap 0 0
  .next (coreMeets agent.toNat adr.toNat s1)

/-- MGMT_ACCESS: an access to a register of the power-and-port die over the management channel; the first `fails` frames fail
their CRC (R17). A core's own LD and ST stand for accesses whose frames pass (log 103). -/
def execMgmtAccess (agent : Owner) (adr : Addr) (data : Option Word) (fails : Fin 5) (s0 : State) : Out :=
  let s := afterTokens agent.toNat s0
  .next (if !portDieWord adr.toNat then s
    else if fails.val = 4 then
      coreMeets agent.toNat adr.toNat ((s.report .spliceCrc 0 adr.toNat).answer agent.toNat .busMap 0 0)
    else match data with
      | some v => busWrite agent.toNat adr.toNat v.toNat s
      | none => busRead agent.toNat adr.toNat s)

end Sys2Proof.Machine
end

