-- ==== Sys2Proof/Machine/Alu.lean ====
section
/-! DEFINITION. The ALU group of Gnoud-36, with MFS and MTS (R186, R187, R189, R195). -/

namespace Sys2Proof.Machine

/-- A function's value goes to D, its flags to the status where it sets them; execution goes on `n` words on. -/
def result (c n d : Nat) (sf : Bool) (r : Res) (s : State) : State :=
  let s1 := s.putReg c d r.val
  adv c n (if sf then putFlags c r s1 else s1)

/-- R195: a function of words: D := its value, and with S = 1 its flags. -/
def alu (c d : Nat) (sf : Bool) (f : State → Res) (s : State) : State := issue c 1 false (fun u => result c 1 d sf (f u) u) s

/-- R195: CMP and TST: flags only. -/
def compare (c : Nat) (f : State → Res) (s : State) : State := issue c 1 false (fun u => adv c 1 (putFlags c (f u) u)) s

/-- R186: an odd specifier names no pair. -/
def oddPair (rs : List Nat) : Bool := rs.any (fun r => r % 2 == 1)

/-- R186, R195: a function of doubles: pair D := its value, and with S = 1 its flags; `rs` are the specifiers that name pairs. -/
def aluPair (c d : Nat) (sf : Bool) (rs : List Nat) (f : State → Res) (s : State) : State :=
  issue c 1 false (fun u =>
    if oddPair rs then illegal c 4 u
    else
      let r := f u
      let u1 := u.putPair c d r.val
      adv c 1 (if sf then putFlags c r u1 else u1)) s

/-- ILLEGAL: a reserved major opcode (0), a reserved F, SYS subop or CFN (1), or COND 15 (2) (R189, R219). -/
def execIllegal (c : Fin 8) (why : Fin 3) (s : State) : Out :=
  .next (issue c.val 1 false (illegal c.val (1 + why.val)) s)

/-- ADD: D := A + B (R195). -/
def execAdd (c : Fin 8) (d a b : Fin 32) (sf : Bool) (s : State) : Out :=
  .next (alu c.val d.val sf (fun u => addRes 36 (u.reg c.val a.val) (u.reg c.val b.val) 0) s)

/-- ADC: D := A + B + C (R195). -/
def execAdc (c : Fin 8) (d a b : Fin 32) (sf : Bool) (s : State) : Out :=
  .next (alu c.val d.val sf (fun u => addRes 36 (u.reg c.val a.val) (u.reg c.val b.val) (bit (u.core c.val).c)) s)

/-- SUB: D := A − B (R195). -/
def execSub (c : Fin 8) (d a b : Fin 32) (sf : Bool) (s : State) : Out :=
  .next (alu c.val d.val sf (fun u => subRes 36 (u.reg c.val a.val) (u.reg c.val b.val) 0) s)

/-- SBC: D := A − B − C (R195). -/
def execSbc (c : Fin 8) (d a b : Fin 32) (sf : Bool) (s : State) : Out :=
  .next (alu c.val d.val sf (fun u => subRes 36 (u.reg c.val a.val) (u.reg c.val b.val) (bit (u.core c.val).c)) s)

/-- AND: D := A and B (R195). -/
def execAnd (c : Fin 8) (d a b : Fin 32) (sf : Bool) (s : State) : Out :=
  .next (alu c.val d.val sf (fun u => logRes 36 ((u.reg c.val a.val) &&& (u.reg c.val b.val))) s)

/-- OR: D := A or B (R195). -/
def execOr (c : Fin 8) (d a b : Fin 32) (sf : Bool) (s : State) : Out :=
  .next (alu c.val d.val sf (fun u => logRes 36 ((u.reg c.val a.val) ||| (u.reg c.val b.val))) s)

/-- XOR: D := A xor B (R195). -/
def execXor (c : Fin 8) (d a b : Fin 32) (sf : Bool) (s : State) : Out :=
  .next (alu c.val d.val sf (fun u => logRes 36 ((u.reg c.val a.val) ^^^ (u.reg c.val b.val))) s)

/-- ANDN: D := A and not B (R195). -/
def execAndn (c : Fin 8) (d a b : Fin 32) (sf : Bool) (s : State) : Out :=
  .next (alu c.val d.val sf (fun u => logRes 36 ((u.reg c.val a.val) &&& (2 ^ 36 - 1 - (u.reg c.val b.val)))) s)

/-- SHL: D := A shifted left by B bits 5:0 (R195). -/
def execShl (c : Fin 8) (d a b : Fin 32) (sf : Bool) (s : State) : Out :=
  .next (alu c.val d.val sf (fun u => shlRes (u.reg c.val a.val) (bits (u.reg c.val b.val) 0 6)) s)

/-- SHR: D := A shifted right logically by B bits 5:0 (R195). -/
def execShr (c : Fin 8) (d a b : Fin 32) (sf : Bool) (s : State) : Out :=
  .next (alu c.val d.val sf (fun u => shrRes (u.reg c.val a.val) (bits (u.reg c.val b.val) 0 6)) s)

/-- SAR: D := A shifted right arithmetically by B bits 5:0 (R195). -/
def execSar (c : Fin 8) (d a b : Fin 32) (sf : Bool) (s : State) : Out :=
  .next (alu c.val d.val sf (fun u => sarRes (u.reg c.val a.val) (bits (u.reg c.val b.val) 0 6)) s)

/-- ROL: D := A rotated left by B bits 5:0, modulo 36 (R195). -/
def execRol (c : Fin 8) (d a b : Fin 32) (sf : Bool) (s : State) : Out :=
  .next (alu c.val d.val sf (fun u => rolRes (u.reg c.val a.val) (bits (u.reg c.val b.val) 0 6)) s)

/-- SHLK: D := A shifted left by K (R195). -/
def execShlk (c : Fin 8) (d a : Fin 32) (k : BitVec 6) (sf : Bool) (s : State) : Out :=
  .next (alu c.val d.val sf (fun u => shlRes (u.reg c.val a.val) k.toNat) s)

/-- SHRK: D := A shifted right logically by K (R195). -/
def execShrk (c : Fin 8) (d a : Fin 32) (k : BitVec 6) (sf : Bool) (s : State) : Out :=
  .next (alu c.val d.val sf (fun u => shrRes (u.reg c.val a.val) k.toNat) s)

/-- SARK: D := A shifted right arithmetically by K (R195). -/
def execSark (c : Fin 8) (d a : Fin 32) (k : BitVec 6) (sf : Bool) (s : State) : Out :=
  .next (alu c.val d.val sf (fun u => sarRes (u.reg c.val a.val) k.toNat) s)

/-- ROLK: D := A rotated left by K (R195). -/
def execRolk (c : Fin 8) (d a : Fin 32) (k : BitVec 6) (sf : Bool) (s : State) : Out :=
  .next (alu c.val d.val sf (fun u => rolRes (u.reg c.val a.val) k.toNat) s)

/-- CMP: flags of A − B (R195). -/
def execCmp (c : Fin 8) (a b : Fin 32) (s : State) : Out :=
  .next (compare c.val (fun u => subRes 36 (u.reg c.val a.val) (u.reg c.val b.val) 0) s)

/-- TST: flags of A and B (R195). -/
def execTst (c : Fin 8) (a b : Fin 32) (s : State) : Out :=
  .next (compare c.val (fun u => logRes 36 ((u.reg c.val a.val) &&& (u.reg c.val b.val))) s)

/-- MIN: D := the smaller of A and B, signed (R195). -/
def execMin (c : Fin 8) (d a b : Fin 32) (sf : Bool) (s : State) : Out :=
  .next (alu c.val d.val sf (fun u => logRes 36 (if sgn 36 (u.reg c.val a.val) ≤ sgn 36 (u.reg c.val b.val) then (u.reg c.val a.val) else (u.reg c.val b.val))) s)

/-- MAX: D := the larger of A and B, signed (R195). -/
def execMax (c : Fin 8) (d a b : Fin 32) (sf : Bool) (s : State) : Out :=
  .next (alu c.val d.val sf (fun u => logRes 36 (if sgn 36 (u.reg c.val a.val) ≤ sgn 36 (u.reg c.val b.val) then (u.reg c.val b.val) else (u.reg c.val a.val))) s)

/-- MINU: D := the smaller of A and B, unsigned (R195). -/
def execMinu (c : Fin 8) (d a b : Fin 32) (sf : Bool) (s : State) : Out :=
  .next (alu c.val d.val sf (fun u => logRes 36 (min (u.reg c.val a.val) (u.reg c.val b.val))) s)

/-- MAXU: D := the larger of A and B, unsigned (R195). -/
def execMaxu (c : Fin 8) (d a b : Fin 32) (sf : Bool) (s : State) : Out :=
  .next (alu c.val d.val sf (fun u => logRes 36 (max (u.reg c.val a.val) (u.reg c.val b.val))) s)

/-- MOV: D := A (R195). -/
def execMov (c : Fin 8) (d a : Fin 32) (sf : Bool) (s : State) : Out :=
  .next (alu c.val d.val sf (fun u => logRes 36 (u.reg c.val a.val)) s)

/-- NOT: D := not A (R195). -/
def execNot (c : Fin 8) (d a : Fin 32) (sf : Bool) (s : State) : Out :=
  .next (alu c.val d.val sf (fun u => logRes 36 (2 ^ 36 - 1 - (u.reg c.val a.val))) s)

/-- NEG: D := 0 − A; −2^35 stays −2^35 (R195). -/
def execNeg (c : Fin 8) (d a : Fin 32) (sf : Bool) (s : State) : Out :=
  .next (alu c.val d.val sf (fun u => subRes 36 0 (u.reg c.val a.val) 0) s)

/-- ABS: D := the absolute value of A; −2^35 stays −2^35 and sets V (R195). -/
def execAbs (c : Fin 8) (d a : Fin 32) (sf : Bool) (s : State) : Out :=
  .next (alu c.val d.val sf (fun u => resOf 36 (unsgn 36 ((sgn 36 (u.reg c.val a.val)).natAbs)) none (some ((u.reg c.val a.val) == 2 ^ 35))) s)

/-- CLZ: D := the leading zeros of A (R195). -/
def execClz (c : Fin 8) (d a : Fin 32) (sf : Bool) (s : State) : Out :=
  .next (alu c.val d.val sf (fun u => zRes (leadZeros (u.reg c.val a.val))) s)

/-- POPC: D := the count of ones in A (R195). -/
def execPopc (c : Fin 8) (d a : Fin 32) (sf : Bool) (s : State) : Out :=
  .next (alu c.val d.val sf (fun u => zRes (popCount (u.reg c.val a.val))) s)

/-- SEL: D := A where condition K[3:0] holds, else B; COND 15 is ILLEGAL (R193, R195). -/
def execSel (c : Fin 8) (d a b : Fin 32) (k : BitVec 6) (s : State) : Out :=
  .next (issue c.val 1 false (fun u =>
    let cond := k.toNat % 16
    if cond = 15 then illegal c.val 3 u
    else result c.val 1 d.val false
      (bareRes (if (u.core c.val).holds cond then u.reg c.val a.val else u.reg c.val b.val)) u) s)

/-- EXH: D := half K[0] of A, sign-extended if K[1] = 1, else zero-extended (R195). -/
def execExh (c : Fin 8) (d a : Fin 32) (k : BitVec 6) (sf : Bool) (s : State) : Out :=
  .next (alu c.val d.val sf (fun u => logRes 36 (halfOf (u.reg c.val a.val) k.toNat)) s)

/-- INSH: half K[0] of D := A[17:0] (R195). -/
def execInsh (c : Fin 8) (d a : Fin 32) (k : BitVec 6) (sf : Bool) (s : State) : Out :=
  .next (alu c.val d.val sf (fun u => logRes 36 (setBits (u.reg c.val d.val) (halfLo k.toNat) 18 (u.reg c.val a.val))) s)

/-- SWAPH: D := A with its halves exchanged (R195). -/
def execSwaph (c : Fin 8) (d a : Fin 32) (sf : Bool) (s : State) : Out :=
  .next (alu c.val d.val sf (fun u => logRes 36 ((u.reg c.val a.val) % 2 ^ 18 * 2 ^ 18 + (u.reg c.val a.val) / 2 ^ 18)) s)

/-- ADDH: each half of D := the sum of the matching halves, modulo 2^18 (R195). -/
def execAddh (c : Fin 8) (d a b : Fin 32) (s : State) : Out :=
  .next (alu c.val d.val false (fun u =>
    bareRes (((u.reg c.val a.val) / 2 ^ 18 + (u.reg c.val b.val) / 2 ^ 18) % 2 ^ 18 * 2 ^ 18 + ((u.reg c.val a.val) + (u.reg c.val b.val)) % 2 ^ 18)) s)

/-- EXB: D := octet K[1:0] of A, zero-extended (R195). -/
def execExb (c : Fin 8) (d a : Fin 32) (k : BitVec 6) (sf : Bool) (s : State) : Out :=
  .next (alu c.val d.val sf (fun u => zRes (bits (u.reg c.val a.val) (octLo k.toNat) 8)) s)

/-- INB: octet K[1:0] of D := A[7:0]; D[35:32] := 0 (R195). -/
def execInb (c : Fin 8) (d a : Fin 32) (k : BitVec 6) (sf : Bool) (s : State) : Out :=
  .next (alu c.val d.val sf (fun u => zRes (setBits ((u.reg c.val d.val) % 2 ^ 32) (octLo k.toNat) 8 (u.reg c.val a.val))) s)

/-- BSWAP: D[31:0] := the octets of A[31:0] in reverse order; D[35:32] := 0 (R195). -/
def execBswap (c : Fin 8) (d a : Fin 32) (sf : Bool) (s : State) : Out :=
  .next (alu c.val d.val sf (fun u => zRes (swapOctets (u.reg c.val a.val))) s)

/-- ADDF: D := A + B saturated (R195). -/
def execAddf (c : Fin 8) (d a b : Fin 32) (sf : Bool) (s : State) : Out :=
  .next (alu c.val d.val sf (fun u => satRes (sgn 36 (u.reg c.val a.val) + sgn 36 (u.reg c.val b.val))) s)

/-- SUBF: D := A − B saturated (R195). -/
def execSubf (c : Fin 8) (d a b : Fin 32) (sf : Bool) (s : State) : Out :=
  .next (alu c.val d.val sf (fun u => satRes (sgn 36 (u.reg c.val a.val) - sgn 36 (u.reg c.val b.val))) s)

/-- NEGF: D := −A saturated (R195). -/
def execNegf (c : Fin 8) (d a : Fin 32) (sf : Bool) (s : State) : Out :=
  .next (alu c.val d.val sf (fun u => satRes (-(sgn 36 (u.reg c.val a.val)))) s)

/-- ABSF: D := the absolute value of A saturated (R195). -/
def execAbsf (c : Fin 8) (d a : Fin 32) (sf : Bool) (s : State) : Out :=
  .next (alu c.val d.val sf (fun u => satRes ((sgn 36 (u.reg c.val a.val)).natAbs)) s)

/-- SHLF: D := A × 2^K saturated (R195). -/
def execShlf (c : Fin 8) (d a : Fin 32) (k : BitVec 6) (sf : Bool) (s : State) : Out :=
  .next (alu c.val d.val sf (fun u => satRes (sgn 36 (u.reg c.val a.val) * (2 ^ k.toNat : Nat))) s)

/-- ADDD: pair D := pair A + pair B (R195). -/
def execAddd (c : Fin 8) (d a b : Fin 32) (sf : Bool) (s : State) : Out :=
  .next (aluPair c.val d.val sf [d.val, a.val, b.val] (fun u => addRes 72 (u.pair c.val a.val) (u.pair c.val b.val) 0) s)

/-- SUBD: pair D := pair A − pair B (R195). -/
def execSubd (c : Fin 8) (d a b : Fin 32) (sf : Bool) (s : State) : Out :=
  .next (aluPair c.val d.val sf [d.val, a.val, b.val] (fun u => subRes 72 (u.pair c.val a.val) (u.pair c.val b.val) 0) s)

/-- MOVD: pair D := pair A (R195). -/
def execMovd (c : Fin 8) (d a : Fin 32) (sf : Bool) (s : State) : Out :=
  .next (aluPair c.val d.val sf [d.val, a.val] (fun u => logRes 72 (u.pair c.val a.val)) s)

/-- CMPD: flags of pair A − pair B (R186, R195). -/
def execCmpd (c : Fin 8) (a b : Fin 32) (s : State) : Out :=
  .next (issue c.val 1 false (fun u =>
    if oddPair [a.val, b.val] then illegal c.val 4 u
    else adv c.val 1 (putFlags c.val (subRes 72 (u.pair c.val a.val) (u.pair c.val b.val) 0) u)) s)

/-- MFS: D := the status word (R187), as it stands in the second cycle, when one cycle of a hold has passed (R220, R250). -/
def execMfs (c : Fin 8) (d : Fin 32) (s : State) : Out :=
  .next (alu c.val d.val false (fun u => bareRes ((holdOn c.val 1 u).status c.val)) s)

/-- MTS: Z, N, C and V := A[0], A[1], A[2] and A[3] (R187). -/
def execMts (c : Fin 8) (a : Fin 32) (s : State) : Out :=
  .next (compare c.val (fun u =>
    let v := u.reg c.val a.val
    ⟨0, some (bitOf v 0), some (bitOf v 1), some (bitOf v 2), some (bitOf v 3)⟩) s)

end Sys2Proof.Machine
end

