-- ==== Sys2Proof/Machine/MemInstr.lean ====
section
/-! DEFINITION. Loads and stores of Gnoud-36 (R197 to R200). -/

namespace Sys2Proof.Machine

/-- R198: a load of one word at an address that the instruction computes; D is written when the response is OK. -/
def load (c n d : Nat) (ea : State → Nat) (s : State) : State :=
  issue c n false (fun u => coreRead c (ea u) (fun v w => adv c n (w.putReg c d v)) u) s

/-- R198: a store of one word. -/
def storeOne (c n d : Nat) (ea : State → Nat) (s : State) : State :=
  issue c n false (fun u => coreWrite c n (ea u) (u.reg c d) (adv c n) u) s

/-- R199, R200: a load of a double. -/
def loadPair (c n d : Nat) (ea : State → Nat) (s : State) : State :=
  issue c n false (fun u =>
    if oddPair [d] then illegal c 4 u
    else coreReadPair c (ea u) (fun v0 v1 w => adv c n (w.putPair c d (v0 * 2 ^ 36 + v1))) u) s

/-- R199, R200: a store of a double. -/
def storePair (c n d : Nat) (ea : State → Nat) (s : State) : State :=
  issue c n false (fun u =>
    if oddPair [d] then illegal c 4 u
    else coreWritePair c n (ea u) (ea u % 2 == 1) (ea u, u.reg c d) ((ea u + 1) % 2 ^ 32, u.reg c (d + 1)) (adv c n) u) s

/-- R197: an L-format access; X with a bit of 35:32 set is ILLEGAL. -/
def longForm (c : Nat) (x : Word) (f : Nat → State → State) (s : State) : State :=
  if longBad x.toNat then issue c 2 false (illegal c 5) s else f x.toNat s

/-- LD: D := the word at the effective address (R198). -/
def execLd (c : Fin 8) (d a : Fin 32) (imm : BitVec 20) (s : State) : Out :=
  .next (load c.val 1 d.val (fun u => u.ea c.val a.val imm.toNat) s)

/-- ST: the word at the effective address := D (R198). -/
def execSt (c : Fin 8) (d a : Fin 32) (imm : BitVec 20) (s : State) : Out :=
  .next (storeOne c.val 1 d.val (fun u => u.ea c.val a.val imm.toNat) s)

/-- LDD: pair D := the double at the effective address (R199, R200). -/
def execLdd (c : Fin 8) (d a : Fin 32) (imm : BitVec 20) (s : State) : Out :=
  .next (loadPair c.val 1 d.val (fun u => u.ea c.val a.val imm.toNat) s)

/-- STD: the double at the effective address := pair D (R199, R200). -/
def execStd (c : Fin 8) (d a : Fin 32) (imm : BitVec 20) (s : State) : Out :=
  .next (storePair c.val 1 d.val (fun u => u.ea c.val a.val imm.toNat) s)

/-- LDL: D := the word at X (R197, R198). -/
def execLdl (c : Fin 8) (d : Fin 32) (x : Word) (s : State) : Out :=
  .next (longForm c.val x (fun y => load c.val 2 d.val (fun _ => y)) s)

/-- STL: the word at X := D (R197, R198). -/
def execStl (c : Fin 8) (d : Fin 32) (x : Word) (s : State) : Out :=
  .next (longForm c.val x (fun y => storeOne c.val 2 d.val (fun _ => y)) s)

/-- LDDL: pair D := the double at X (R197, R199, R200). -/
def execLddl (c : Fin 8) (d : Fin 32) (x : Word) (s : State) : Out :=
  .next (longForm c.val x (fun y => loadPair c.val 2 d.val (fun _ => y)) s)

/-- STDL: the double at X := pair D (R197, R199, R200). -/
def execStdl (c : Fin 8) (d : Fin 32) (x : Word) (s : State) : Out :=
  .next (longForm c.val x (fun y => storePair c.val 2 d.val (fun _ => y)) s)

end Sys2Proof.Machine
end

