-- ==== Sys2Proof/Machine/Control.lean ====
section
/-! DEFINITION. Control transfer, loops and the SYS group of Gnoud-36 (R201 to R203, R216, R231, R248, R250, R259). -/

namespace Sys2Proof.Machine

/-! ### Loops (R202, R231) -/

/-- R231, R262: the loop buffer is armed for a range of words, and no word is held; its tag is a group of the running task. -/
def armLoop (c start count : Nat) (s : State) : State :=
  let x := s.core c
  if x.level = 0 ∧ s.gov c (CUE.MODE.LBEN c) = 1 then dirty c 3 (s.putCore c { x with tag := (start, count - 1), buf := [] }) else s

/-- R202: LOOP A with the body of the next `l` words. -/
def loopStart (c a l : Nat) (s : State) : State :=
  let pc := (s.core c).pc
  let first := (pc + 1) % 2 ^ 32
  if l = 0 ∨ (s.loop c).isSome then illegal c 7 s
  else if s.reg c a = 0 then pass c 1 (adv c (1 + l) s)
  else adv c 1 (armLoop c first l (s.putLoop c (some ⟨first, (pc + l) % 2 ^ 32, s.window c, a⟩)))

/-- LOOP: the body of the next IMM20[5:0] words is repeated with A as its count register (R202). -/
def execLoop (c : Fin 8) (a : Fin 32) (imm : BitVec 20) (s : State) : Out :=
  .next (issue c.val 1 false (loopStart c.val a.val (bits imm.toNat 0 6)) s)

/-- LOOP_BACK_EDGE: the word at last has completed in the loop's window (R202). -/
def execLoopBackEdge (c : Fin 8) (s : State) : Out :=
  let x := s.core c.val
  .next (if x.edge && s.coreState c.val == 1 && s.island (coreIsland c.val) == 0 then
    prefetchNext c.val (backEdge c.val (s.putCore c.val { x with edge := false }))
  else s)

/-! ### Task switches (R263) -/

/-- R263: the outgoing task leaves the sequencer: its status goes to the Cue, its dirty groups to its CSA. -/
def leaveTask (c : Nat) (s : State) : State :=
  let x := s.core c
  if x.away then s
  else
    let s1 := switchOut c x.task (parkTask c s)
    s1.putCore c { s1.core c with away := true }

/-- R263: the words that a switch to a task moves. -/
def State.movedWords (s : State) (c t : Nat) : Nat :=
  ((groupsOf (s.get (CUE.TSTAT.DIRTY c (s.core c).task)) ++ groupsOf (s.get (CUE.TSTAT.SAVED c t))).map groupLen).foldl (· + ·) 0

/-- R259, R263, R282: a task switch, which ends where the core goes out. A task that comes back to an idle core, which still holds what is its own, goes on as it
stands. -/
def taskSwitch (c t : Nat) (s : State) : State :=
  let x := s.core c
  if t = x.task ∧ !x.away then waitDone c t (s.put (CUE.TSTAT.STATE c t) 2)
  else
    let s2 := leaveTask c (pass c (8 + s.movedWords c t) (landAll c s))
    let s3 := if s2.taskIs c x.task 2 then s2.put (CUE.TSTAT.STATE c x.task) 1 else s2
    if s3.coreState c ≠ 1 then s3 else
    match switchIn c t s3 with
    | some u => runTask c t u
    | none => switchTo c 8 (refuseRestore c t s3)

/-- TASK_SWITCH: at level 0, outside a hold, the Cue switches to the READY task that comes first (R258, R263). -/
def execTaskSwitch (c : Fin 8) (s : State) : Out :=
  let u := catchUp c.val (settle c.val s)
  .next (if s.coreActive c.val && !s.coreHalted c.val && !(s.core c.val).resume && !s.held.any (fun h => h.agent == ownCore c.val) &&
      u.switchDue c.val then
    match u.nextTask c.val with
    | some t => prefetchNext c.val (taskSwitch c.val t u)
    | none => s
  else s)

/-! ### Transfers (R201) -/

/-- R231: a taken BR back over at most 63 words arms the loop buffer for its target to itself, unless that is the tag. -/
def armBranch (c pc disp : Nat) (s : State) : State :=
  let back := 2 ^ 26 - disp
  if disp < 2 ^ 25 ∨ 63 < back ∨ (s.core c).tag = (jTarget pc disp, back) then s else armLoop c (jTarget pc disp) (back + 1) s

/-- BR: a branch by DISP26 where COND holds (R193, R201). -/
def execBr (c : Fin 8) (cond : BitVec 4) (disp : BitVec 26) (s : State) : Out :=
  .next (issue c.val 1 false (fun u =>
    let pc := (u.core c.val).pc
    if cond.toNat = 15 then illegal c.val 3 u
    else if (u.core c.val).holds cond.toNat then
      transfer c.val 1 1 (fun v => jumpTo c.val (jTarget pc disp.toNat) (armBranch c.val pc disp.toNat v)) u
    else adv c.val 1 u) s)

/-- R201: a call to a target from an instruction of `n` words. -/
def call (c n target : Nat) (s : State) : State :=
  transfer c n 2 (callTo c target (((s.core c).pc + n) % 2 ^ 32)) s

/-- CALLW: a call by DISP26 where COND holds (R193, R201). -/
def execCallw (c : Fin 8) (cond : BitVec 4) (disp : BitVec 26) (s : State) : Out :=
  .next (issue c.val 1 false (fun u =>
    if cond.toNat = 15 then illegal c.val 3 u
    else if (u.core c.val).holds cond.toNat then call c.val 1 (jTarget (u.core c.val).pc disp.toNat) u
    else adv c.val 1 u) s)

/-- JMPR: a jump to A[31:0] (R201). -/
def execJmpr (c : Fin 8) (a : Fin 32) (s : State) : Out :=
  .next (issue c.val 1 false (fun u => transfer c.val 1 1 (jumpTo c.val (u.reg c.val a.val % 2 ^ 32)) u) s)

/-- CALLWR: a call of A[31:0] (R201). -/
def execCallwr (c : Fin 8) (a : Fin 32) (s : State) : Out :=
  .next (issue c.val 1 false (fun u => call c.val 1 (u.reg c.val a.val % 2 ^ 32) u) s)

/-- JMPL: a jump to X[31:0] (R197, R201). -/
def execJmpl (c : Fin 8) (x : Word) (s : State) : Out :=
  .next (longForm c.val x (fun y => issue c.val 2 false (transfer c.val 2 1 (jumpTo c.val y))) s)

/-- CALLWL: a call of X[31:0] (R197, R201). -/
def execCallwl (c : Fin 8) (x : Word) (s : State) : Out :=
  .next (longForm c.val x (fun y => issue c.val 2 false (call c.val 2 y)) s)

/-- RETW: a return (R201, R254, R255). -/
def execRetw (c : Fin 8) (s : State) : Out := .next (issue c.val 1 false (transfer c.val 1 2 (returnTo c.val)) s)

/-! ### SYS (R203) -/

/-- NOP (R203). -/
def execNop (c : Fin 8) (s : State) : Out := .next (issue c.val 1 false (adv c.val 1) s)

/-- R216, R233, R276: SYNC: the prefetched word is discarded, neither the loop buffer nor the line buffer holds a word any more,
and the RWS writes that the core issued before it govern. -/
def syncCore (c : Nat) (s : State) : State :=
  let s1 := abandon c (((s.core c).pc + 1) % 2 ^ 32) (settle c s)
  pass c 2 (adv c 1 (s1.putCore c { s1.core c with stale := [], buf := [], line := [], view := s1.ownBanks c }))

/-- SYNC: the words held are discarded and earlier RWS writes govern (R216). -/
def execSync (c : Fin 8) (s : State) : Out := .next (issue c.val 1 false (syncCore c.val) s)

/-- TRAP n: cause TRAP with INFO = n (R203). -/
def execTrap (c : Fin 8) (n : BitVec 8) (s : State) : Out :=
  .next (issue c.val 1 false (raiseSync c.val 2 n.toNat 0 0) s)

/-- HOLD n (R250). -/
def execHold (c : Fin 8) (n : BitVec 12) (s : State) : Out :=
  .next (issue c.val 1 false (fun u => adv c.val 1 (holdFor c.val n.toNat u)) s)

/-- RETE: return from entry; at level 0 and at a level without a valid record it is ILLEGAL (R248). -/
def execRete (c : Fin 8) (s : State) : Out :=
  .next (issue c.val 1 false (fun u0 =>
    let u := settle c.val u0
    let k := (u.core c.val).level
    if k = 0 ∨ !u.on (CUE.ENT.V c.val k) then illegal c.val 0x0A u else fetchBehind c.val 1 3 u (taken c.val 1 3 u (returnFrom c.val k u))) s)

/-- R259: WAITE with no wake pending: the task waits. -/
def waitFor (c d mask : Nat) (s : State) : State :=
  let t := (s.core c).task
  let s1 := ((s.put (CUE.TSTAT.STATE c t) 3).put (CUE.WMASK.WMASK c t) mask).putTask c t
    { s.taskOf c t with wait := some (d, false) }
  s1.putCore c { s1.core c with hold := false, hrem := 0, excess := false }

/-- R259, R276: WAITE D, A, after the writes that the core made before it. -/
def waite (c d a : Nat) (s0 : State) : State :=
  let s := settle c s0
  let t := (s.core c).task
  let mask := s.reg c a % 2 ^ 32
  let p := s.get (CUE.PEND.PEND c t)
  let got := p &&& mask
  if (s.core c).level ≠ 0 then illegal c 0x0B s
  else if mask = 0 then parkTask c (pass c 1 (adv c 1 ((s.putReg c d 0).put (CUE.TSTAT.STATE c t) 1)))
  else if got ≠ 0 then pass c 1 (adv c 1 ((s.put (CUE.PEND.PEND c t) (p - got)).putReg c d got))
  else parkTask c (pass c 1 (adv c 1 (waitFor c d mask s)))

/-- WAITE: the task collects its pending wakes, waits for them, or yields (R259). -/
def execWaite (c : Fin 8) (d a : Fin 32) (s : State) : Out := .next (issue c.val 1 false (waite c.val d.val a.val) s)

end Sys2Proof.Machine
end

