-- ==== Sys2Proof/Machine/CpInstr.lean ====
section
/-! DEFINITION. CP0, CP2 and CP3: loop engines, the security island and reels (R213 to R215). -/

namespace Sys2Proof.Machine

/-! ### CP0 (R213) -/

/-- R213: SEL of 24 to 31 names no engine. -/
def engForm (c sel : Nat) (f : State → State) (s : State) : State :=
  issue c 1 false (fun u => if 24 ≤ sel then illegal c 9 u else f u) s

/-- R262: a record of group CPX. -/
def cpRecord (c : Nat) (r : FRef) (v : Nat) (s : State) : State := dirty c 2 (s.put r v)

/-- ECMD: command A[3:0] to the engine, as a write to its CMD (R130, R213). -/
def execEcmd (c : Fin 8) (a : Fin 32) (sel : Fin 32) (s : State) : Out :=
  .next (engForm c.val sel.val (fun u =>
    let code := u.reg c.val a.val % 16
    coreWrite c.val 1 (LE.CMD.adr sel.val) code
      (fun w => adv c.val 1 (cpRecord c.val (CUE.CPREC0.REC c.val) (sel.val * 2 ^ 8 + code) w)) u) s)

/-- R213: a read of a word of an engine into D. -/
def engWord (c d : Nat) (adr : Nat) (s : State) : State := coreRead c adr (fun v w => adv c 1 (w.putReg c d v)) s

/-- ERES: D := the engine's RESULT (R213). -/
def execEres (c : Fin 8) (d : Fin 32) (sel : Fin 32) (s : State) : Out :=
  .next (engForm c.val sel.val (engWord c.val d.val (LE.RESULT.adr sel.val)) s)

/-- EST: D := the engine's STATUS (R213). -/
def execEst (c : Fin 8) (d : Fin 32) (sel : Fin 32) (s : State) : Out :=
  .next (engForm c.val sel.val (engWord c.val d.val (LE.STATUS.adr sel.val)) s)

/-- EPRM: PARAM k of the engine := A (R213). -/
def execEprm (c : Fin 8) (a : Fin 32) (sel : Fin 32) (k : Fin 16) (s : State) : Out :=
  .next (engForm c.val sel.val (fun u =>
    coreWrite c.val 1 (LE.PARAM.adr sel.val k.val) (u.reg c.val a.val) (adv c.val 1) u) s)

/-! ### CP2 (R214, R399) -/

/-- R12, R214, R222: an operation of the security island, in one access state; in Grey it waits for the island, in Charcoal and Black it
answers BUS_MAP. -/
def secForm (c d : Nat) (f : State → Nat × State) (s : State) : State :=
  issue c 1 false (fun u =>
    let u1 := settle c u
    let u2 := accessed c SEC.STATUS.adr false u1
    if u1.island 29 = 1 then coreHold c SEC.STATUS.adr u1
    else if 2 ≤ u1.island 29 then raiseSync c (busCause .busMap) 0 SEC.STATUS.adr 0 u2
    else
      let r := f u2
      adv c 1 (r.2.putReg c d r.1)) s

/-- R214, R276, R399: SUBMIT by a core: an accepted request reaches the island with its agreement token, as a write does. -/
def submit (c a : Nat) (s : State) : Nat × State :=
  match secTicket s with
  | (.inl v, t) => (v, t)
  | (.inr k, t) => (k, corePerform c [(2 ^ 32 + k, a)] t)

/-- SUBMIT: the request at address A goes to the security island; D := a ticket or a refusal (R214, R399). -/
def execSubmit (c : Fin 8) (d a : Fin 32) (s : State) : Out :=
  .next (secForm c.val d.val (fun u => submit c.val (u.reg c.val a.val % 2 ^ 32) u) s)

/-- POLL: D := the status of ticket A (R214, R399). -/
def execPoll (c : Fin 8) (d a : Fin 32) (s : State) : Out :=
  .next (secForm c.val d.val (fun u => secPoll (u.reg c.val a.val % 256) u) s)

/-! ### CP3 (R215) -/

/-- R215: the address of entry (B mod N) of reel A[5:0]. -/
def State.reelWordAdr (s : State) (c a b : Nat) : Nat :=
  let r := s.reg c a % 64
  s.reelAdr r (s.reg c b % min 8192 (256 * 2 ^ s.get (RL.CTRL.SIZE r)))

/-- RRDI: D := entry (B mod N) of reel A[5:0] (R137, R215). -/
def execRrdi (c : Fin 8) (d a b : Fin 32) (s : State) : Out :=
  .next (issue c.val 1 false (fun u =>
    coreRead c.val (u.reelWordAdr c.val a.val b.val) (fun v w => adv c.val 1 (w.putReg c.val d.val v)) u) s)

/-- RWRI: entry (B mod N) of reel A[5:0] := D (R137, R215). -/
def execRwri (c : Fin 8) (d a b : Fin 32) (s : State) : Out :=
  .next (issue c.val 1 false (fun u =>
    coreWrite c.val 1 (u.reelWordAdr c.val a.val b.val) (u.reg c.val d.val) (adv c.val 1) u) s)

/-- R215: XADR and XCTL are written in one step, both or neither. -/
def reelOrder (c r cmd adr : Nat) (s : State) : State :=
  coreWritePair c 1 REELS.XCTL.adr false (REELS.XADR.adr, adr) (REELS.XCTL.adr, r * 2 ^ 6 + cmd)
    (fun w => adv c 1 (cpRecord c (CUE.CPREC1.REC c) (r * 2 ^ 8 + cmd) w)) s

/-- RXF: a reel transfer: XADR := D[31:0], and XCTL with reel A[5:0] and command B[2:0] (R148, R215). -/
def execRxf (c : Fin 8) (d a b : Fin 32) (s : State) : Out :=
  .next (issue c.val 1 false (fun u =>
    reelOrder c.val (u.reg c.val a.val % 64) (u.reg c.val b.val % 8) (u.reg c.val d.val % 2 ^ 32) u) s)

/-- RXR: D := REELS.XRES (R215). -/
def execRxr (c : Fin 8) (d : Fin 32) (s : State) : Out :=
  .next (issue c.val 1 false (fun u =>
    coreRead c.val REELS.XRES.adr (fun v w => adv c.val 1 (w.putReg c.val d.val v)) u) s)

end Sys2Proof.Machine
end

