-- ==== Sys2Proof/Machine/Imm.lean ====
section
/-! DEFINITION. The immediate forms of Gnoud-36, with MOVL and ADDL (R196, R197). -/

namespace Sys2Proof.Machine

/-- ADDI: D := A + sx(IMM20) (R196). -/
def execAddi (c : Fin 8) (d a : Fin 32) (imm : BitVec 20) (s : State) : Out :=
  .next (alu c.val d.val false (fun u => bareRes (((u.reg c.val a.val) + sx20 imm.toNat) % 2 ^ 36)) s)

/-- ANDI: D := A and IMM20 (R196). -/
def execAndi (c : Fin 8) (d a : Fin 32) (imm : BitVec 20) (s : State) : Out :=
  .next (alu c.val d.val false (fun u => bareRes ((u.reg c.val a.val) &&& imm.toNat)) s)

/-- ORI: D := A or IMM20 (R196). -/
def execOri (c : Fin 8) (d a : Fin 32) (imm : BitVec 20) (s : State) : Out :=
  .next (alu c.val d.val false (fun u => bareRes ((u.reg c.val a.val) ||| imm.toNat)) s)

/-- XORI: D := A xor IMM20 (R196). -/
def execXori (c : Fin 8) (d a : Fin 32) (imm : BitVec 20) (s : State) : Out :=
  .next (alu c.val d.val false (fun u => bareRes ((u.reg c.val a.val) ^^^ imm.toNat)) s)

/-- CMPI: flags of A − sx(IMM20) (R196). -/
def execCmpi (c : Fin 8) (a : Fin 32) (imm : BitVec 20) (s : State) : Out :=
  .next (compare c.val (fun u => subRes 36 (u.reg c.val a.val) (sx20 imm.toNat) 0) s)

/-- MOVI: D := sx(IMM20) (R196). -/
def execMovi (c : Fin 8) (d : Fin 32) (imm : BitVec 20) (s : State) : Out :=
  .next (alu c.val d.val false (fun _ => bareRes (sx20 imm.toNat)) s)

/-- LIH: D := IMM20 × 2^16 (R196). -/
def execLih (c : Fin 8) (d : Fin 32) (imm : BitVec 20) (s : State) : Out :=
  .next (alu c.val d.val false (fun _ => bareRes (imm.toNat * 2 ^ 16)) s)

/-- BFX: D := a bit field of A, right-aligned (R196). -/
def execBfx (c : Fin 8) (d a : Fin 32) (imm : BitVec 20) (s : State) : Out :=
  .next (issue c.val 1 false (fun u =>
    if bfOk imm.toNat then result c.val 1 d.val false (bareRes (bfExtract (u.reg c.val a.val) imm.toNat)) u else illegal c.val 6 u) s)

/-- BFI: a bit field of D := the low bits of A (R196). -/
def execBfi (c : Fin 8) (d a : Fin 32) (imm : BitVec 20) (s : State) : Out :=
  .next (issue c.val 1 false (fun u =>
    if bfOk imm.toNat then result c.val 1 d.val false (bareRes (bfInsert (u.reg c.val d.val) (u.reg c.val a.val) imm.toNat)) u else illegal c.val 6 u) s)

/-- LEA: D := the effective address of R197 (R196). -/
def execLea (c : Fin 8) (d a : Fin 32) (imm : BitVec 20) (s : State) : Out :=
  .next (alu c.val d.val false (fun u => bareRes (u.ea c.val a.val imm.toNat)) s)

/-- MOVL: D := X (R196). -/
def execMovl (c : Fin 8) (d : Fin 32) (x : Word) (s : State) : Out :=
  .next (issue c.val 2 false (result c.val 2 d.val false (bareRes x.toNat)) s)

/-- ADDL: D := A + X (R196). -/
def execAddl (c : Fin 8) (d a : Fin 32) (x : Word) (s : State) : Out :=
  .next (issue c.val 2 false (fun u => result c.val 2 d.val false (bareRes (((u.reg c.val a.val) + x.toNat) % 2 ^ 36)) u) s)

end Sys2Proof.Machine
end

