-- ==== Sys2Proof/Machine/LongInstr.lean ====
section
/-! DEFINITION. The long instructions of Gnoud-36: one element per command (R204 to R208). -/

namespace Sys2Proof.Machine

/-- R205, R207: the progress of a long instruction shows as CONT in a status that is saved before it ends. -/
def midway (c : Nat) (s : State) : State := s.putCore c { s.core c with cont := true, mid := true }

/-- R204: a long instruction: three different specifiers, none of them G0; a count of 0 completes at once; else `element` runs with
CONT shown in the status that a cause would save. -/
def longInstr (c d a b : Nat) (element : State → State) (s : State) : State :=
  issue c 1 true (fun u =>
    if d = a ∨ d = b ∨ a = b ∨ d = 0 ∨ a = 0 ∨ b = 0 then illegal c 8 (u.putCore c { u.core c with cont := false, mid := false })
    else if u.reg c b = 0 then adv c 1 u
    else element (midway c u)) s

/-- R205, R230: address A and count B step, and the element has taken a cycle beside those of its accesses; the instruction completes,
in a cycle more, when nothing remains. -/
def stepped (c a b adr : Nat) (done : State → State) (s : State) : State :=
  let n := s.reg c b - 1
  let s1 := (s.putReg c a ((adr + 1) % 2 ^ 32)).putReg c b n
  if n = 0 then pass c 2 (adv c 1 (done s1)) else pass c 1 s1

/-- MOVB: one word from the address in A to that in D (R204). An element that fails has no effect, its read included (R205), and
neither of its accesses is made while the other waits for an island in Grey. -/
def movbElement (c d a b : Nat) (s : State) : State :=
  let src := s.reg c a % 2 ^ 32
  let dst := s.reg c d % 2 ^ 32
  let s1 := settle c s
  let g := busGet (ownCore c) (coreAdr c src) s1
  let r := (busPut (ownCore c) (coreAdr c dst) g.val g.st).resp
  if s1.grey (coreAdr c src) then coreHold c (coreAdr c src) s1
  else if s1.grey (coreAdr c dst) then coreHold c (coreAdr c dst) s1
  else if g.resp ≠ .ok then raiseSync c (busCause g.resp) 0 src 0 (accessed c (coreAdr c src) false g.st)
  else if r ≠ .ok then
    raiseSync c (busCause r) 0 dst 0 (accessed c (coreAdr c dst) true (accessed c (coreAdr c src) false s1))
  else
    let w := accessed c (coreAdr c dst) true (corePerform c [(dst, g.val)] (accessed c (coreAdr c src) false g.st))
    stepped c a b src id (w.putReg c d ((dst + 1) % 2 ^ 32))

/-- MOVB: the next element of a copy (R204). -/
def execMovb (c : Fin 8) (d a b : Fin 32) (s : State) : Out :=
  .next (longInstr c.val d.val a.val b.val (movbElement c.val d.val a.val b.val) s)

/-- R204: one bit of the reflected CRC-32C, least significant bit first. -/
def crcBitR (c : Nat) (b : Bool) : Nat := if (c % 2 == 1) != b then c / 2 ^^^ 0x82F63B78 else c / 2

/-- R183, R204: the reflected CRC-32C over the four octets of bits 31:0. -/
def crcOctetsR (c v : Nat) : Nat :=
  [24, 16, 8, 0].foldl (fun a lo => (List.range 8).foldl (fun e i => crcBitR e (bitOf v (lo + i))) a) c

/-- R204: CRCB: one word at the address in A steps the CRC in D[31:0]; `refl` is K[0]. -/
def crcbElement (c d a b : Nat) (refl : Bool) (s : State) : State :=
  let src := s.reg c a % 2 ^ 32
  coreRead c src (fun v u =>
    let crc := u.reg c d % 2 ^ 32
    stepped c a b src id (u.putReg c d (if refl then crcOctetsR crc v else crc32Step crc v))) s

/-- CRCB: the next element of a CRC (R204). -/
def execCrcb (c : Fin 8) (d a b : Fin 32) (k : BitVec 6) (s : State) : Out :=
  .next (longInstr c.val d.val a.val b.val (crcbElement c.val d.val a.val b.val (bitOf k.toNat 0)) s)

/-- Z alone is set. -/
def putZ (c : Nat) (z : Bool) (s : State) : State := s.putCore c { s.core c with z := z }

/-- R204: SRCH: the word at the address in A is tested against the key in D; `least` is K[0]. -/
def srchElement (c d a b : Nat) (least : Bool) (s : State) : State :=
  let src := s.reg c a % 2 ^ 32
  coreRead c src (fun v u =>
    let key := u.reg c d
    if (if least then decide (key ≤ v) else v == key) then pass c 2 (adv c 1 (putZ c true u))
    else stepped c a b src (putZ c false) u) s

/-- SRCH: the next element of a search (R204). -/
def execSrch (c : Fin 8) (d a b : Fin 32) (k : BitVec 6) (s : State) : Out :=
  .next (longInstr c.val d.val a.val b.val (srchElement c.val d.val a.val b.val (bitOf k.toNat 0)) s)

end Sys2Proof.Machine
end

