-- ==== Sys2Proof/Machine/MathUnit.lean ====
section
/-! DEFINITION. CP1, the math unit (R209 to R212, R234 to R236). -/

namespace Sys2Proof.Machine

/-- R209: CP4 to CP7 are absent. -/
def execCpAbsent (c : Fin 8) (n : Fin 4) (s : State) : Out :=
  .next (issue c.val 1 false (raiseSync c.val 4 (4 + n.val) 0 0) s)

/-- R210: a result goes on its way; the instruction itself is done. -/
def launch (c : Nat) (r : CpRes) (s : State) : State :=
  let x := s.core c
  adv c 1 (s.putCore c { x with fly := x.fly ++ [⟨r, r.dist⟩] })

/-- A CP1 operation that lands later. -/
def cpOp (c : Nat) (f : State → CpRes) (s : State) : State := issue c 1 false (fun u => launch c (f u) u) s

/-- A CP1 read of D. -/
def cpRead (c d : Nat) (f : CoreSt → Nat) (s : State) : State :=
  issue c 1 false (fun u => adv c 1 (u.putReg c d (f (u.core c)))) s

/-- R211: an accumulator as its 72 bits. -/
def CoreSt.ac (x : CoreSt) (i : Nat) : Nat := x.acc.getD i 0

/-! ### Multiplier and accumulators (R211) -/

/-- The product of A and B, signed or unsigned. -/
def State.product (s : State) (c a b : Nat) (signed : Bool) : Int :=
  if signed then sgn 36 (s.reg c a) * sgn 36 (s.reg c b) else ((s.reg c a * s.reg c b : Nat) : Int)

/-- MUL: AC := A × B, signed (R211). -/
def execMul (c : Fin 8) (a b : Fin 32) (sel : Fin 4) (s : State) : Out :=
  .next (cpOp c.val (fun u => .acc sel.val (u.product c.val a.val b.val true) false) s)

/-- MULU: AC := A × B, unsigned (R211). -/
def execMulu (c : Fin 8) (a b : Fin 32) (sel : Fin 4) (s : State) : Out :=
  .next (cpOp c.val (fun u => .acc sel.val (u.product c.val a.val b.val false) false) s)

/-- MAC: AC := AC + A × B, saturated (R211, R236). -/
def execMac (c : Fin 8) (a b : Fin 32) (sel : Fin 4) (s : State) : Out :=
  .next (cpOp c.val (fun u => .acc sel.val (u.product c.val a.val b.val true) true) s)

/-- MSU: AC := AC − A × B, saturated (R211, R236). -/
def execMsu (c : Fin 8) (a b : Fin 32) (sel : Fin 4) (s : State) : Out :=
  .next (cpOp c.val (fun u => .acc sel.val (-(u.product c.val a.val b.val true)) true) s)

/-- RDH: D := AC[71:36] (R211). -/
def execRdh (c : Fin 8) (d : Fin 32) (sel : Fin 4) (s : State) : Out :=
  .next (cpRead c.val d.val (fun x => x.ac sel.val / 2 ^ 36) s)

/-- RDL: D := AC[35:0] (R211). -/
def execRdl (c : Fin 8) (d : Fin 32) (sel : Fin 4) (s : State) : Out :=
  .next (cpRead c.val d.val (fun x => x.ac sel.val % 2 ^ 36) s)

/-- R211: AC × 2^−35 rounded half away from zero, and as it fits 36 bits. -/
def accF36 (a : Nat) : Int := roundAway (sgn 72 a) (2 ^ 35)
def satF36 (x : Int) : Int := clampInt (-(2 ^ 35)) (2 ^ 35 - 1) x

/-- R211, R262: bits of MST are set. -/
def mstSet (c mask : Nat) (s : State) : State :=
  dirty c 1 (s.putCore c { s.core c with mst := (s.core c).mst ||| mask })

/-- RDF: D := AC as a rounded, saturated F36; AOV set if saturated (R211). -/
def execRdf (c : Fin 8) (d : Fin 32) (sel : Fin 4) (s : State) : Out :=
  .next (issue c.val 1 false (fun u =>
    let v := accF36 ((u.core c.val).ac sel.val)
    let u1 := u.putReg c.val d.val (unsgn 36 (satF36 v))
    adv c.val 1 (if satF36 v = v then u1 else mstSet c.val (2 ^ sel.val) u1)) s)

/-- RDD: pair D := AC (R186, R211). -/
def execRdd (c : Fin 8) (d : Fin 32) (sel : Fin 4) (s : State) : Out :=
  .next (issue c.val 1 false (fun u =>
    if oddPair [d.val] then illegal c.val 4 u
    else adv c.val 1 (u.putPair c.val d.val ((u.core c.val).ac sel.val))) s)

/-- WRA: AC := A × 2^36 + B, B taken unsigned (R211). -/
def execWra (c : Fin 8) (a b : Fin 32) (sel : Fin 4) (s : State) : Out :=
  .next (cpOp c.val (fun u => .wra sel.val (sgn 36 (u.reg c.val a.val) * 2 ^ 36 + (u.reg c.val b.val : Nat))) s)

/-- RDM: D := M[SEL] (R211). -/
def execRdm (c : Fin 8) (d : Fin 32) (sel : Fin 4) (s : State) : Out :=
  .next (cpRead c.val d.val (fun x => x.m.getD sel.val 0) s)

/-- RDS: D := MST; then MST := 0 (R211). -/
def execRds (c : Fin 8) (d : Fin 32) (s : State) : Out :=
  .next (issue c.val 1 false (fun u =>
    let u1 := u.putReg c.val d.val (u.core c.val).mst
    adv c.val 1 (dirty c.val 1 (u1.putCore c.val { u1.core c.val with mst := 0 }))) s)

/-! ### Divide and square root (R211, R212) -/

def CpRes.isDiv : CpRes → Bool
  | .div _ _ _ => true
  | .root _ _ => true
  | _ => false

def CpRes.isCor : CpRes → Bool
  | .cor _ _ => true
  | _ => false

/-- R212: an operation is issued to a unit; one that has not landed there is abandoned. -/
def restart (c mask : Nat) (mine : CpRes → Bool) (s : State) : State :=
  let x := s.core c
  if x.fly.any (fun f => mine f.res) then mstSet c mask (s.putCore c { x with fly := x.fly.filter (fun f => !mine f.res) }) else s

/-- An operation of the divide and square-root unit; `f` gives its result and how many free values it drew. -/
def divOp (c : Nat) (f : State → CpRes × Nat) (s : State) : State :=
  issue c 1 false (fun u => launch c (f u).1 ((restart c 64 CpRes.isDiv u).drawn (f u).2)) s

/-- R212: the result of a division by zero, by the sign of A. -/
def divZero (a : Int) : Nat := if a = 0 then 0 else unsgn 36 (if a < 0 then -(2 ^ 35 - 1) else 2 ^ 35 - 1)

/-- R211, R212: DIV. A quotient of 2^35 has no 36-bit form and the spec states none: M0 is then free, and M1 follows from it. -/
def divRes (a b : Nat) (free : Nat) : CpRes × Nat :=
  let x := sgn 36 a
  let y := sgn 36 b
  if y = 0 then (.div (divZero x) (some (a % 2 ^ 36)) 16, 0)
  else if Int.tdiv x y = 2 ^ 35 then
    let q := Config.freeValue free % 2 ^ 36
    (.div q (some (unsgn 36 (x - sgn 36 q * y))) 0, 1)
  else (.div (unsgn 36 (Int.tdiv x y)) (some (unsgn 36 (x - Int.tdiv x y * y))) 0, 0)

/-- DIV: M0 := A / B truncated toward zero; M1 := A − M0 × B (R211, R212). -/
def execDiv (c : Fin 8) (a b : Fin 32) (s : State) : Out :=
  .next (divOp c.val (fun u => divRes (u.reg c.val a.val) (u.reg c.val b.val) u.free) s)

/-- R211, R212: DIVU. By zero with A nonzero, R212 gives ±(2^35 − 1) with the sign of A; A is unsigned, so +. -/
def divuRes (a b : Nat) : CpRes × Nat :=
  if b = 0 then (.div (if a = 0 then 0 else 2 ^ 35 - 1) (some a) 16, 0) else (.div (a / b) (some (a % b)) 0, 0)

/-- DIVU: as DIV, unsigned (R211, R212). -/
def execDivu (c : Fin 8) (a b : Fin 32) (s : State) : Out :=
  .next (divOp c.val (fun u => divuRes (u.reg c.val a.val) (u.reg c.val b.val)) s)

/-- R211: the spec does not say how DIVF and SQRTF round: a value that is not exact is one of its two neighbours, a free choice. -/
def nearby (floor : Int) (exact : Bool) (free : Nat) : Int × Nat :=
  if exact then (floor, 0) else (floor + (Config.freeValue free % 2 : Nat), 1)

/-- R211, R212: DIVF. -/
def divfRes (a b : Nat) (free : Nat) : CpRes × Nat :=
  let x := sgn 36 a
  let y := sgn 36 b
  if y = 0 then (.div (divZero x) none 16, 0)
  else
    let n := x * 2 ^ 35 * y.sign
    let m : Int := y.natAbs
    let q := nearby (n / m) (n % m == 0) free
    (.div (unsgn 36 (satF36 q.1)) none 0, q.2)

/-- DIVF: M0 := A / B as F36, saturated (R211, R212). -/
def execDivf (c : Fin 8) (a b : Fin 32) (s : State) : Out :=
  .next (divOp c.val (fun u => divfRes (u.reg c.val a.val) (u.reg c.val b.val) u.free) s)

/-- SQRT: M0 := ⌊√A⌋, A unsigned (R211). -/
def execSqrt (c : Fin 8) (a : Fin 32) (s : State) : Out :=
  .next (divOp c.val (fun u => (.root (isqrt (u.reg c.val a.val)) 0, 0)) s)

/-- R211, R212: SQRTF. -/
def sqrtfRes (a : Nat) (free : Nat) : CpRes × Nat :=
  let x := sgn 36 a
  if x < 0 then (.root 0 32, 0)
  else
    let n := x.toNat * 2 ^ 35
    let r := isqrt n
    let q := nearby (r : Nat) (r * r == n) free
    (.root (unsgn 36 (satF36 q.1)) 0, q.2)

/-- SQRTF: M0 := √A as F36 (R211, R212). -/
def execSqrtf (c : Fin 8) (a : Fin 32) (s : State) : Out :=
  .next (divOp c.val (fun u => sqrtfRes (u.reg c.val a.val) u.free) s)

/-! ### CORDIC (R211, R212) -/

/-- R211: a CORDIC result lies within 2^−32 of full scale of the exact value, which is eight units of F36: the least and the greatest
integer number of units that do. -/
def cordicLow (v : Dy) : Int := v.ceil 35 - 8
def cordicHigh (v : Dy) : Int := v.floor 35 + 8

/-- R211: a CORDIC result in units of F36; which of those within the bound is free. -/
def cordicNear (v : Dy) (free : Nat) : Int := clampInt (cordicLow v) (cordicHigh v) (cordicLow v + (Config.freeValue free : Nat))

/-- R211: one coordinate; where no F36 value lies within the bound the spec states none. -/
def coord (v : Dy) (free : Nat) : Nat :=
  if -(2 ^ 35) ≤ cordicHigh v ∧ cordicLow v ≤ 2 ^ 35 - 1 then unsgn 36 (satF36 (cordicNear v free))
  else Config.freeValue free % 2 ^ 36

/-- An F36 operand as an exact number. -/
def f36 (w : Nat) : Dy := ⟨sgn 36 w, -35⟩

/-- R211: CROT. -/
def crotRes (a b d free : Nat) : CpRes :=
  .cor (coord (rotX (f36 a) (f36 b) (f36 d)) free) (coord (rotY (f36 a) (f36 b) (f36 d)) (free + 1))

/-- R211: CVEC: the length, saturated to 2^35 − 1, and the angle in half-turns; the angle of the null vector is free. -/
def cvecRes (a b free : Nat) : CpRes :=
  let len := clampInt 0 (2 ^ 35 - 1) (cordicNear (vecLen (f36 a) (f36 b)) free)
  let ang := if sgn 36 a = 0 ∧ sgn 36 b = 0 then Config.freeValue (free + 1) % 2 ^ 36
    else unsgn 36 (cordicNear (vecAngle (f36 a) (f36 b)) (free + 1))
  .cor (unsgn 36 len) ang

/-- An operation of the CORDIC unit. -/
def corOp (c : Nat) (f : State → CpRes) (s : State) : State :=
  issue c 1 false (fun u => launch c (f u) ((restart c 128 CpRes.isCor u).drawn 2)) s

/-- CROT: (M0, M1) := the vector (A, B) rotated by the angle in D (R211). -/
def execCrot (c : Fin 8) (d a b : Fin 32) (s : State) : Out :=
  .next (corOp c.val (fun u => crotRes (u.reg c.val a.val) (u.reg c.val b.val) (u.reg c.val d.val) u.free) s)

/-- CVEC: M0 := the length of (A, B); M1 := its angle (R211). -/
def execCvec (c : Fin 8) (a b : Fin 32) (s : State) : Out :=
  .next (corOp c.val (fun u => cvecRes (u.reg c.val a.val) (u.reg c.val b.val) u.free) s)

/-! ### Landing (R210, R234) -/

/-- R235: the unit of a result: 0 the multiplier, 1 divide and square root, 2 CORDIC. -/
def CpRes.unit : CpRes → Nat
  | .acc _ _ _ => 0
  | .wra _ _ => 0
  | .div _ _ _ => 1
  | .root _ _ => 1
  | .cor _ _ => 2

/-- CP_RESULT_LAND: the oldest result of a unit lands (R210, R234 to R236). -/
def execCpResultLand (c : Fin 8) (unit : Fin 3) (s : State) : Out := .next (landUnit c.val (fun r => r.unit == unit.val) s)

end Sys2Proof.Machine
end

