-- ==== Sys2Proof/Machine/SlateCmds.lean ====
section
/-! DEFINITION. The Slate commands of sessions, reading and writing, scenes, and the device state (R403, R404, R421, R424 to
R427, R429). A command's row runs it once `SLATE_FRAME` or the local port has taken it. -/

namespace Sys2Proof.Machine

/-- Run `f` on the running command where it has this COMMAND and its payload satisfies `p`. -/
def withRun (cmd : Nat) (p : List Nat → Bool) (f : SlateRun → State → State) (s : State) : State :=
  match s.link.run with
  | some r => if r.cmd = cmd ∧ p r.payload then f r s else s
  | none => s

/-- The payload's first octet, a subop or KIND. -/
def subIs (k : Nat) (p : List Nat) : Bool := p.getD 0 0 == k
def anyPayload (_ : List Nat) : Bool := true

/-! ### Sessions (R404, R421) -/

/-- R421: a free session slot. -/
def State.freeSlot (s : State) : Option Nat := [0, 1, 2].find? (fun k => (s.session k).phase == 0)

/-- R421: OPEN reserves a slot: a session number that is not 0, a nonce, a key pair and a signature, all drawn. -/
def openSession (k : Nat) (r : SlateRun) (s : State) : State :=
  let num := Config.freeValue s.free % (2 ^ 32 - 1) + 1
  let nonce := freeOctets (s.free + 1) 32
  let kem := s.free + 33
  let key := fitOctets 1568 (Config.mlkemKey (Config.freeValue kem))
  let body := octets 4 num ++ nonce ++ key
  let sig := fitOctets 4627 (Config.mldsaSign s.otp.seed (octets 64 (Config.sha3 body % 2 ^ 512)) Ctx.ses.num
    (Config.freeValue (s.free + 34)))
  let s1 := ((s.drawn 35).put (ETH.SESS.NUMBER k) num).putSession k
    { SessSt.atReset k with
      phase := 1
      opened := s.t
      last := s.t
      peer := r.peer
      hostNonce := (r.payload.drop 4).take 32
      devNonce := nonce
      kem := kem }
  finish r 0 0 (body ++ sig) (s1.put (ETH.SESS.TRANSPORT k) r.via)

/-- SESSION_OPEN: OPEN of a command that runs; `tired`: 200 signature iterations were not enough (R401, R404, R421). -/
def execSessionOpen (tired : Bool) (s : State) : Out :=
  .next (withRun 0x01 (subIs 1) (fun r t =>
    match t.freeSlot with
    | none => finish r 8 0 [] t
    | some k => if tired || !t.on SEC.STATUS.TRNGOK then finish r 8 0 [] t else openSession k r t) s)

/-- R404: the host's ciphertext, public key and signature are accepted. -/
def State.keyxOk (s : State) (k : Nat) (p : List Nat) : Bool :=
  let ct := (p.drop 4).take 1568
  let key := (p.drop 1572).take 2592
  let sig := (p.drop 4164).take 4627
  let x := s.session k
  s.otp.host == some (Config.sha3 key % 2 ^ 512) &&
    Config.mldsaVerify key sig (octets 64 (Config.sha3 (octets 4 (s.get (ETH.SESS.NUMBER k)) ++ x.devNonce ++ ct) % 2 ^ 512))
      Ctx.host.num

/-- R404: the 512 bits K the session keys come from. -/
def State.sessionKeys (s : State) (k : Nat) (p : List Nat) : Nat :=
  let x := s.session k
  let ss := fitOctets 32 (Config.mlkemSecret (Config.freeValue x.kem) ((p.drop 4).take 1568))
  Config.sha3 (ss ++ x.hostNonce ++ x.devNonce ++ octets 4 (s.get (ETH.SESS.NUMBER k))) % 2 ^ 512

/-- R404, R421: KEYX opens the session, or its reservation ends with AUTH; one whose reservation has ended is answered as a frame that
names no session (R417 step 2). -/
def keyxRun (r : SlateRun) (s : State) : State :=
  match r.slot with
  | none => s
  | some k =>
    if (s.session k).phase ≠ 1 ∨ s.get (ETH.SESS.NUMBER k) ≠ r.session then finish { r with slot := none, session := 0 } 7 0 [] s
    else if s.keyxOk k r.payload then
      let key := s.sessionKeys k r.payload
      let s1 := putHandle (2 * k + 1) (key % 2 ^ 256) (putHandle (2 * k) (key / 2 ^ 256) s)
      finishOk r (s1.putSession k { s.session k with phase := 2, high := 1, seen := [1], last := s.t, peer := r.peer })
    else closeSession k (finish r 7 0 [] s)

/-- SESSION_KEYX: KEYX of a command that runs (R404, R421). -/
def execSessionKeyx (s : State) : Out := .next (withRun 0x01 (subIs 2) keyxRun s)

/-- SESSION_CLOSE: CLOSE: the session closes after the response (R421). -/
def execSessionClose (s : State) : Out :=
  .next (withRun 0x01 (subIs 3) (fun r t => match r.slot with
    | some k => if t.get (ETH.SESS.NUMBER k) = r.session then closeSession k (finishOk r t) else finishOk r t
    | none => finishOk r t) s)

/-- SESSION_SAK: SAK puts MACsec in force on a MAC from the frame after the response on (R404, R421). -/
def execSessionSak (s : State) : Out :=
  .next (withRun 0x01 (subIs 4) (fun r t =>
    let m := r.payload.getD 1 0
    let t1 := finishOk r t
    let t2 := (putHandle (6 + m) (at_ r.payload 4 32) t1).put (MAC.CTRL.MACSEC m) 1
    t2.setLink { t2.link with saks := (m, r.payload.getD 2 0, at_ r.payload 36 8) :: t2.link.saks.filter (fun x => x.1 != m) }) s)

/-! ### Attestation (R403) -/

/-- The codes of Red faults (R298). -/
def redCodes : List Nat := [0x01, 0x02, 0x03, 0x04, 0x05, 0x06, 0x2A, 0x33, 0x34, 0x35, 0x41, 0x42, 0x52]

/-- A sum that stays at its greatest value. -/
def satSum (top : Nat) (l : List Nat) : Nat := min top (l.foldl (· + ·) 0)

/-- R403: octets 0 to 207 of the report; `crc` is the CRC of record 48. -/
def State.reportBody (s : State) (nonce : List Nat) (crc : Nat) : List Nat :=
  [0x5A, 0x7E, 1, bit s.split + 2 * bit s.otp.fused + 4 * s.otp.level] ++ octets 18 s.uid ++ [0, 0] ++ fitOctets 32 nonce ++
    octets 8 s.t ++
    [s.get ETH.SLSTATE.STATE, s.get SEC.START.KIND * 16 + s.get SEC.START.CAUSE, (s.boot.region.getD 0xFF) % 256,
      s.get SEC.START.ATT, s.get SEC.IMG.SECVER, s.otp.arb, s.get SEC.IMG.KEYSLOT, s.get SEC.START.TRIMOK] ++
    octets 64 (if s.devIs .bootfail then 0 else s.digest SEC.IMGDIG.W) ++ octets 4 crc ++
    octets 2 (s.get PORTS.CUTSTAT.CUTCNT) ++ octets 2 (satSum 65535 (redCodes.map (fun k => s.get (CTU.FCNT.COUNT k)))) ++
    octets 64 (s.digest SEC.IDKDIG.W)

/-- ATTEST: the report, signed; `tired`: 200 signature iterations were not enough (R401, R403). Without record 48 its CRC
octets are free. -/
def execAttest (tired : Bool) (s : State) : Out :=
  .next (withRun 0x02 anyPayload (fun r t =>
    if tired || !t.on SEC.STATUS.TRNGOK then finish r 8 0 [] t
    else
      let q := storeGet 48 t
      let crc := match q.1 with
        | some w => bits (w.getD 1 0) 0 32
        | none => Config.freeValue t.free % 2 ^ 32
      let u := q.2.drawn 2
      let body := u.reportBody r.payload crc
      let sig := fitOctets 4627 (Config.mldsaSign u.otp.seed (octets 64 (Config.sha3 body % 2 ^ 512)) Ctx.att.num
        (Config.freeValue (t.free + 1)))
      finish r 0 0 (body ++ sig) u) s)

/-! ### READ and WRITE (R427) -/

/-- Read words until an access is not OK: the words, the response of the last access, the state. -/
def slateReads (a : Nat) : Nat → State → List Nat × Resp × State
  | 0, s => ([], .ok, s)
  | n + 1, s =>
    let g := busGet ownHost a s
    if g.resp = .ok then
      let q := slateReads (a + 1) n g.st
      (g.val :: q.1, q.2)
    else ([], g.resp, g.st)

/-- Write words until an access is not OK: how many were written, the response of the last access, the state; `hit`: the address
that port A writes in the same cycle (R305). -/
def slateWrites (hit : Option Nat) (a : Nat) : List Nat → State → Nat × Resp × State
  | [], s => (0, .ok, s)
  | v :: t, s =>
    let g := busPutHit (hit == some a) ownHost a v s
    if g.resp = .ok then
      let q := slateWrites hit (a + 1) t g.st
      (q.1 + 1, q.2)
    else (0, g.resp, g.st)

/-- R352: a READ of these addresses is refused by the read-out protection level. -/
def State.readBarred (s : State) (a n : Nat) : Bool := s.otp.level != 0 && (List.range n).any (fun i => guarded (a + i))

/-- SLATE_READ: READ of COUNT words at ADDR (R352, R427). -/
def execSlateRead (s : State) : Out :=
  .next (withRun 0x03 anyPayload (fun r t =>
    let a := at_ r.payload 0 4
    let n := at_ r.payload 4 2
    if t.readBarred a n then finish r 7 0 [] t
    else
      let q := slateReads a n t
      finish r 0 0 (octets 2 q.1.length ++ [q.2.1.num, 0] ++ q.1.flatMap wordField) q.2.2) s)

/-- SLATE_WRITE: WRITE of COUNT words from ADDR (R305, R427). -/
def execSlateWrite (s : State) (hit : Option (BitVec 11) := none) : Out :=
  .next (withRun 0x04 anyPayload (fun r t =>
    let ws := (wordFields (at_ r.payload 4 2) (r.payload.drop 8)).getD []
    let q := slateWrites (hit.map (fun i => at_ r.payload 0 4 + i.toNat)) (at_ r.payload 0 4) ws t
    finish r 0 0 (octets 2 q.1 ++ [q.2.1.num, 0]) q.2.2) s)

/-! ### SCENE (R429) -/

/-- R429: a record's fault: the STATUS and INFO it ends the command with. -/
def State.sceneFault (s : State) (kind : Nat) (x : List Nat) : Option (Nat × Nat) :=
  let o (i : Nat) : Nat := x.getD i 0
  match kind with
  | 1 =>
    if o 0 = 1 then
      (if 96 ≤ o 1 ∨ 4 ≤ o 2 ∨ 16 ≤ o 3 ∨ 128 ≤ o 4 ∨ !zeros (x.drop 5) then some (4, 0)
      else if s.on (GP.CTRL.EN (o 1)) then some (5, o 1) else none)
    else if o 0 = 2 then
      (if o 1 = 0 ∨ 16 ≤ o 1 ∨ o 2 ≠ 0 ∨ (wordFields 1 (x.drop 3)).isNone then some (4, 0) else none)
    else some (4, 0)
  | 2 =>
    if 16 ≤ o 0 ∨ 8 ≤ o 1 ∨ (wordFields 8 (x.drop 2)).isNone then some (4, 0)
    else if s.on (PF.CTRL.EN (o 0)) then some (5, 0x100 + o 0) else none
  | 3 => if 64 ≤ o 0 ∨ 2 ≤ o 1 ∨ (o 1 = 1 ∧ o 0 % 2 = 1) ∨ 4 ≤ o 2 ∨ o 3 ≠ 0 then some (4, 0) else none
  | 4 => if 2 ≤ o 0 ∨ 16 ≤ o 1 ∨ 16 ≤ o 2 ∨ 4096 ≤ at_ x 6 2 then some (4, 0) else none
  | _ => none

/-- R179: a port's scene. -/
def portScene (x : List Nat) (s : State) : State :=
  let p := x.getD 1 0
  (((s.put (GP.SAFE.SAFE p) (x.getD 2 0)).put (GP.SAFE.SCLS p) (x.getD 3 0)).put (GP.SAFE.LEADP p) (x.getD 4 0)).put (GP.SAFE.SCENE p) 1

/-- R76: a sensor's scene. -/
def sensorScene (x : List Nat) (s : State) : State :=
  let n := x.getD 0 0
  let ws := (wordFields 8 (x.drop 2)).getD []
  let w (k a : Nat) (t : State) : State := t.writeReg a (ws.getD k 0) false none
  let s1 := w 3 (PF.AUX.adr n) (w 2 (PF.IXVAL.adr n) (w 1 (PF.CPR.adr n) (w 0 (PF.CFG.adr n) (s.put (PF.CTRL.SRC n) (x.getD 1 0)))))
  let s2 := w 7 (PF.SER1.adr n) (w 6 (PF.SER0.adr n) (w 5 (PF.RES1.adr n) (w 4 (PF.RES0.adr n) s1)))
  s2.put (PF.STATUS.SCENE n) 1

/-- R429: a thermal scene. -/
def thermalScene (x : List Nat) (s : State) : State :=
  let o (i : Nat) : Nat := x.getD i 0
  let s1 := if o 0 = 1 then
      (List.range 4).foldl (fun u k => u.put (GAF.ZTEMP.USED k) (bits (o 1) k 1))
        ((((s.put GAF.ZTHERM.TDER (o 3)).put GAF.ZTHERM.KDER (o 4)).put GAF.ZTHERM.TFALL (o 5)).put GAF.ZTHERM.MAXAGE (at_ x 6 2))
    else s
  ((List.range 4).filter (fun k => bitOf (o 2) k)).foldl (fun u k => tempWrite k (o (8 + k)) u) s1

/-- R429: one record is applied. -/
def sceneApply (kind : Nat) (x : List Nat) (s : State) : State :=
  match kind with
  | 1 => if x.getD 0 0 = 1 then portScene x s else s.writeReg (GAF.CLS.adr (x.getD 1 0)) (at_ x 3 5) false none
  | 2 => sensorScene x s
  | 3 =>
    let a := x.getD 0 0
    ((s.put (ETH.AINSCN.VALID a) 1).put (ETH.AINSCN.MODE a) (x.getD 1 0)).put (ETH.AINSCN.GAINMAX a) (x.getD 2 0)
  | 4 => thermalScene x s
  | _ => (s.put GAF.ZSUP.IZ (at_ x 0 2)).put GAF.ZSUP.SZ (at_ x 2 2)

/-- SCENE: every record is checked, then all apply or none (R429). Port scenes may change whom a follower waits for (R180). -/
def execScene (s : State) : Out :=
  .next (withRun 0x10 anyPayload (fun r t =>
    let kind := r.payload.getD 0 0
    let l := chunks (recordLen kind) (at_ r.payload 2 2) (r.payload.drop 4)
    match l.findSome? (t.sceneFault kind) with
    | some (st, info) => finish r st info [] t
    | none =>
      let t1 := l.foldl (fun u x => sceneApply kind x u) t
      let t2 := if kind = 3 then (List.range 32).foldl (fun u n => refreshScene n u) t1 else if kind = 1 then refollow t1 else t1
      finishOk r (gafShow t2.zoneRefresh)) s)

/-! ### BUDGET, LATENCY, FAILOVER PLAN (R427) -/

/-- BUDGET: DBUDGET and DSLEW; a higher budget makes room for lowered clocks (R372, R427). -/
def execBudget (s : State) : Out :=
  .next (withRun 0x11 anyPayload (fun r t =>
    finishOk r (restoreClocks (gafShow ((t.put GAF.DBUDGET.BUDGET (at_ r.payload 0 2)).put GAF.DSLEW.SLEW (at_ r.payload 2 2))))) s)

/-- LATENCY: TWL of islands (R368, R427). -/
def execLatency (s : State) : Out :=
  .next (withRun 0x12 anyPayload (fun r t =>
    let l := chunks 4 (at_ r.payload 0 2) (r.payload.drop 4)
    if l.any (fun x => decide (31 < x.getD 0 0) || x.getD 1 0 != 0) then finish r 4 0 [] t
    else finishOk r (l.foldl (fun u x => islTwlWrite ownHost (x.getD 0 0) (at_ x 2 2) u) t)) s)

/-- R282, R427: one plan. -/
def planApply (x : List Nat) (s : State) : State :=
  let c := x.getD 0 0
  let s1 := s.writeReg (CTU.FPCORE.adr c) (x.getD 1 0) false none
  (List.range 8).foldl (fun u t =>
    (u.writeReg (CTU.FPT.adr c t) (at_ x (2 + 2 * t) 2) false none).writeReg (CTU.FPRPC.adr c t) (at_ x (18 + 4 * t) 4) false none) s1

/-- FAILOVER_PLAN: the plans of cores (R427). -/
def execFailoverPlan (s : State) : Out :=
  .next (withRun 0x13 anyPayload (fun r t =>
    let l := chunks 50 (r.payload.getD 0 0) (r.payload.drop 4)
    if l.any (fun x => !t.coreExists (x.getD 0 0)) then finish r 4 0 [] t
    else finishOk r (l.foldl (fun u x => planApply x u) t)) s)

/-! ### The device state (R422, R424, R425) -/

/-- R424: the first check that fails: its INFO. -/
def State.armFault (s : State) : Option Nat :=
  let ports := (List.range 96).filter (fun p => s.on (GP.CTRL.EN p))
  if !s.on SAMP.STATUS.TRIMOK then some 0x0FFF
  else (ports.find? (fun p => !s.on (GP.SAFE.SCENE p))).orElse (fun _ =>
    (((List.range 16).find? (fun n => s.on (PF.CTRL.EN n) && !s.on (PF.STATUS.SCENE n))).map (0x100 + ·)).orElse (fun _ =>
    (((List.range 32).find? (fun n => s.on (SS.CTRL.EN n) && !s.on (SS.STAT.SCENE n))).map (0x200 + ·)).orElse (fun _ =>
    if s.get GAF.ZSUP.IZ = 0 then some 0x300
    else (ports.find? (fun p => s.get (GP.SAFE.SCLS p) != 0 && s.get (GAF.CLS.IPK (s.get (GP.SAFE.SCLS p))) == 0)).map (0x400 + ·))))

/-- R422, R424: a command that is legal in the present state, and that the checks let pass, changes the device state. One whose state was
left after it had been accepted completes with WRONG_STATE (DESIGN CHOICE, log 177). -/
def armRun (here d : DevState) (r : SlateRun) (s : State) : State :=
  if !s.devIs here then finish r 1 0 [] s
  else match s.armFault with
  | some info => finish r 4 info [] s
  | none => finishOk r (setDevState d s)

/-- ARM: STANDBY becomes ARMED (R422, R424). -/
def execArm (s : State) : Out := .next (withRun 0x20 anyPayload (armRun .standby .armed) s)

/-- SLATE_RUN: ARMED becomes RUN (R422, R424). -/
def execSlateRun (s : State) : Out := .next (withRun 0x21 anyPayload (armRun .armed .run) s)

/-- HOLDOUT: RUN becomes ARMED, ARMED becomes STANDBY (R422, R427). -/
def execHoldout (s : State) : Out :=
  .next (withRun 0x22 anyPayload (fun r t =>
    finishOk r (if t.devIs .run then setDevState .armed t else if t.devIs .armed then setDevState .standby t else t)) s)

/-- SLATE_CUT: CUT asserts the HOST source, and completes once the latch reads 1 (R419, R427). -/
def execSlateCut (s : State) : Out :=
  .next (match s.link.cut with
    | [] => s
    | r :: _ =>
      let t := cutHost s
      if t.on PORTS.CUTSTAT.LATCH then finishOk r t else t)

/-- R422: where CUT is left to. -/
def State.afterCut (s : State) : DevState :=
  if (s.get ETH.SLSTATE.CUTFROM = 2 ∨ s.get ETH.SLSTATE.CUTFROM = 3) ∧ s.armFault = none then .armed else .standby

/-- CLEAR: the latch clears where R178 lets it; CUT is left, RECOVERY stays (R422, R427). -/
def execClear (s : State) : Out :=
  .next (withRun 0x24 anyPayload (fun r t =>
    let u := cutClear t
    if u.on PORTS.CUTSTAT.LATCH || t.on PORTS.CUTSTAT.SCTU || t.on PORTS.CUTSTAT.SIN || t.on PORTS.CUTSTAT.SUV then
      finish r 5 (bits (u.wordOf PORTS.CUTSTAT.adr (fields! PORTS.CUTSTAT.adr)) 2 4) [] u
    else finishOk r (if u.devIs .cut then setDevState u.afterCut u else u)) s)

/-- SLEEP: the response leaves, and the device goes to SLEEP as SLEEPCFG stands; an enabled port refuses it, and so does
a state in which it is not legal by now (R370, R422, R427; DESIGN CHOICE, log 177). -/
def execSleep (s : State) : Out :=
  .next (withRun 0x25 anyPayload (fun r t =>
    if !t.devIs .standby && !t.devIs .armed then finish r 1 0 [] t
    else match (List.range 96).find? (fun p => t.on (GP.CTRL.EN p)) with
    | some p => finish r 1 p [] t
    | none => enterSleep (setDevState .sleep (finishOk r t))) s)

/-- RESET: the response leaves, and a cold start of CAUSE 5 or a warm one of CAUSE 8 is due (R380, R427). -/
def execReset (s : State) : Out :=
  .next (withRun 0x26 anyPayload (fun r t =>
    let u := finishOk r t
    if r.payload.getD 0 0 = 0 then coldNow 5 u else u.setBoot { u.boot with due := some (true, 8) }) s)

end Sys2Proof.Machine
end

