-- ==== Sys2Proof/Machine/SlateData.lean ====
section
/-! DEFINITION. The Slate commands that carry images, trims, rushes and dailies (R388, R392, R427, R428, R430). -/

namespace Sys2Proof.Machine

/-! ### LOAD (R428) -/

/-- R335, R342, R428: the controller is between descriptors, and what an operation as a descriptor would wait for is not under
way: a relocation, or, for an erase, an internal erase. -/
def State.flashFree (s : State) (d : FlashDesc) : Bool :=
  s.flash.now.isNone && s.flash.loadOp.isNone && s.flash.prog.isNone && !s.flash.waitsCopy d && !(d.op == 4 && s.flash.intErase (flashBank d.addr))

/-- R428: the region and its first word. -/
def loadRegion (r : SlateRun) : Nat := r.payload.getD 1 0
def loadAddr (r : SlateRun) : Nat := regionBase (loadRegion r) + at_ r.payload 4 4

/-- R428: the region holds the running image. -/
def State.runsFrom (s : State) (r : SlateRun) : Bool := s.boot.region == some (loadRegion r)

/-- R334: an operation as the checks of descriptors see it. -/
def loadDesc (op count addr : Nat) : FlashDesc := ⟨0, op, false, false, false, count, addr, 0⟩

/-- R428: what LOAD works on. -/
def State.putLoad (s : State) (x : Option (Nat × List Nat)) : State := s.putFlash { s.flash with loadOp := x }

/-- R428: the work goes on with sector or line `i`, and the command keeps FIRST. -/
def loadGoes (r : SlateRun) (i first : Nat) (s : State) : State := s.setRun (some { r with done := i, first := first })

/-- R337, R428: the erase of one sector of a region starts. -/
def loadEraseStart (a : Nat) (s : State) : State :=
  s.putFlash { s.flash with loadOp := some (a, []), runs := s.flash.runs ++ [⟨flashBank a, [flashSec a], .load, false⟩] }

/-- R343, R428: the erase of a sector that LOAD has under way ends; `bad` are the sectors that stay not blank. -/
def loadErased (bad : List Nat) (s : State) : State :=
  match s.flash.loadOp with
  | some (a, []) =>
    let u := s.setFlash { s.flash with loadOp := none, runs := s.flash.runs.filter (fun r => decide (r.kind ≠ .load)) }
    let v := (eraseOne (flashBank a) bad (FlashEnd.plain 0 0xFFF, u) (flashSec a)).2
    v.putFlash v.flash
  | _ => s

/-- LOAD_ERASE: LOAD ERASE: the sector of the region that is under way ends, and the next one starts when the controller is between
descriptors; after the last the command completes. `bad` are the sectors that stay not blank (R428). -/
def execLoadErase (bad : List (BitVec 11)) (s : State) : Out :=
  .next (withRun 0x30 (subIs 1) (fun r t =>
    let g := loadRegion r
    let i := if s.flash.loadOp = some (regionBase g + 0x1000 * r.done, []) then r.done + 1 else r.done
    let a := regionBase g + 0x1000 * i
    if t.runsFrom r then finish r 5 0xFFF [] t
    else if regionLen g / 0x1000 ≤ i then finish r 0 0xFFF [] t
    else if !t.flashFree (loadDesc 4 0 a) then loadGoes r i 0xFFF t
    else match t.flashCheck (loadDesc 4 0 a) with
      | some q => finish r q.1 q.2 [] t
      | none => loadGoes r i 0xFFF (loadEraseStart a t)) (loadErased (bad.map BitVec.toNat) s))

/-- R428: the checks of R334 on the lines of a program of `n` words from line `i` on, and FIRST. -/
def State.loadCheck (s : State) (r : SlateRun) (n i : Nat) : Option (Nat × Nat) :=
  let a := loadAddr r
  if regionBase (loadRegion r) + regionLen (loadRegion r) < a + n then some (4, 0xFFF)
  else match s.flashCheck (loadDesc 6 (n / 16 - i) (a + 16 * i)) with
    | some (st, k) => some (st, if k = 0xFFF then k else i + k)
    | none => (((List.range (n / 16)).drop i).find? (fun k => !s.lineBlank (a + 16 * k))).map (fun k => (2, k))

/-- R343, R428: the line that LOAD has under way is programmed; `bad`: it does not verify, and its sector moves to a spare, or fails. -/
def loadProgrammed (bad : Bool) (s : State) : Bool × State :=
  match s.flash.loadOp with
  | some (a, w :: ws) =>
    let u := (s.putLoad none).programLine a (w :: ws)
    if bad then
      let q := programBad (loadDesc 3 1 a) (FlashEnd.plain 0 0xFFF, u) 0
      (q.1.fail, q.2)
    else (false, u)
  | _ => (false, s)

/-- LOAD_PROGRAM: LOAD PROGRAM: the line that is under way ends, and the next one starts when the controller is between descriptors; after
the last the command completes. `bad` are the lines that do not verify (R343, R428). -/
def execLoadProgram (bad : List (BitVec 12)) (s : State) : Out :=
  let lineOf (r : SlateRun) : Nat := loadAddr r + 16 * r.done
  let mine (r : SlateRun) : Bool := s.flash.loadOp.any (fun q => q.1 == lineOf r && !q.2.isEmpty)
  let done := loadProgrammed (s.link.run.any (fun r => bad.any (fun k => k.toNat == r.done))) s
  .next (withRun 0x30 (subIs 2) (fun r t =>
    let n := at_ r.payload 8 2
    let i := if mine r then r.done + 1 else r.done
    let first := if mine r && done.1 then min r.first r.done else r.first
    let a := loadAddr r + 16 * i
    let d := loadDesc 3 1 a
    if t.runsFrom r then finish r 5 0xFFF [] t
    else if decide (0 < i) && decide (n / 16 ≤ i) then finish r 0 first [] t
    else if !t.flashFree d then loadGoes r i first t
    else match t.loadCheck r n i with
      | some q => finish r q.1 q.2 [] (if q.1 = 2 then (targetRead d t).2 else t)
      | none =>
        let ws := ((wordFields n (r.payload.drop 12)).getD []).drop (16 * i) |>.take 16
        loadGoes r i first (voidToken a ((targetRead d t).2.putLoad (some (a, ws))))) done.2)

/-- R388: a LOAD in BOOTFAIL whose slot A or B passes: PREF, ATT := 0, and a cold start. -/
def bootfailLeave (g : Nat) (s : State) : State :=
  if s.devIs .bootfail && decide (g < 2) then
    let u := bootSave (s.put SEC.BOOTCFG.PREF g)
    coldNow 5 (u.setBoot { u.boot with att := 0 })
  else s

/-- LOAD_VERIFY: LOAD VERIFY: R395 on the region (R388, R428). -/
def execLoadVerify (s : State) : Out :=
  .next (withRun 0x30 (subIs 3) (fun r t =>
    let g := loadRegion r
    if !t.flashFree (loadDesc 1 0 (regionBase g)) then t
    else
      let v := verifyRegion g t
      match v.1 with
      | some why => finish r 7 why [] v.2
      | none => bootfailLeave g (finish r 0 0xFFF [] (giveToken g v.2))) s)

/-! ### COMMIT (R427) -/

/-- R395, R398: a region passes by its token or in full. -/
def commitCheck (g : Nat) (s : State) : Option Nat × State :=
  if s.boot.token.any (fun k => k.region == g) then (none, s)
  else
    let v := verifyRegion g s
    (v.1, if v.1 = none then giveToken g v.2 else v.2)

/-- COMMIT: a region that passes becomes preferred; a warm start may follow (R427). -/
def execCommit (s : State) : Out :=
  .next (withRun 0x31 anyPayload (fun r t =>
    let g := r.payload.getD 0 0
    let v := commitCheck g t
    match v.1 with
    | some why => finish r 7 why [] v.2
    | none =>
      let u := if g < 2 then bootSave (v.2.put SEC.BOOTCFG.PREF g) else v.2
      let w := finishOk r u
      if r.payload.getD 1 0 = 1 then w.setBoot { w.boot with due := some (true, 8) } else w) s)

/-! ### Trims (R392) -/

/-- R392: the payloads of records, a missing one's words free. -/
def exportRecords : List Nat → State → List Nat × State
  | [], s => ([], s)
  | k :: t, s =>
    let g := storeGet k s
    let ws := match g.1 with
      | some p => padTo 15 p
      | none => (List.range 15).map (fun i => Config.freeValue (g.2.free + i) % 2 ^ 36)
    let q := exportRecords t (g.2.drawn 15)
    (ws ++ q.1, q.2)

/-- TRIM_EXPORT: records 48 to 60 (R392, R427). -/
def execTrimExport (s : State) : Out :=
  .next (withRun 0x38 anyPayload (fun r t =>
    if t.get FLASH.RSSTAT.STATE ≠ 2 ∧ t.get FLASH.RSSTAT.STATE ≠ 3 then finish r 8 0 [] t
    else
      let q := exportRecords ((List.range 13).map (48 + ·)) t
      finish r 0 0 (q.1.flatMap wordField) q.2) s)

/-- TRIM_IMPORT: records 49 to 60 and then 48, with ORIGIN 1; while the store has no erased slot left, it waits (R392). -/
def execTrimImport (s : State) : Out :=
  .next (withRun 0x39 anyPayload (fun r t =>
    let recs := trimOffered r.payload
    if t.get FLASH.RSSTAT.STATE ≠ 2 then finish r 8 0 [] t
    else if (t.trimFails (some recs)).isSome then finish r 4 0 [] t
    else match importRecords (importList recs) t with
      | none => t
      | some u => finishOk r (u.put SAMP.STATUS.CALOK 0)) s)

/-! ### RUSHES (R427) -/

def rushCh (r : SlateRun) : Nat := r.payload.getD 1 0

/-- RUSHES_STATUS: words +0x0 to +0xB of a channel (R427). -/
def execRushesStatus (s : State) : Out :=
  .next (withRun 0x40 (subIs 1) (fun r t =>
    let q := slateReads (RUSH.CTRL.adr (rushCh r)) 12 t
    finish r 0 0 (q.1.flatMap wordField) q.2.2) s)

/-- R321, R427: records from an index, modulo the ring; the first that cannot be read ends them. -/
def rushRecords (c i : Nat) : Nat → State → List Nat × State
  | 0, s => ([], s)
  | n + 1, s =>
    let a := s.rushAdr c (i % 2 ^ s.rushLog c)
    let q := slateReads a 2 s
    if q.1.length = 2 then
      let t := rushRecords c (i + 1) n q.2.2
      (q.1 ++ t.1, t.2)
    else ([], q.2.2)

/-- RUSHES_READ: records of a channel (R427). -/
def execRushesRead (s : State) : Out :=
  .next (withRun 0x40 (subIs 2) (fun r t =>
    let q := rushRecords (rushCh r) (at_ r.payload 4 4) (at_ r.payload 8 2) t
    finish r 0 0 (q.1.flatMap wordField) q.2) s)

/-- RUSHES_TRIGGER: FIRST is written to RUSHES.GO (R324, R427). -/
def execRushesTrigger (s : State) : Out :=
  .next (withRun 0x40 (subIs 3) (fun r t => finishOk r (rushGo ownHost (at_ r.payload 4 4) t)) s)

/-- RUSHES_REARM: a channel of the host link goes back to FILL (R323, R427). -/
def execRushesRearm (s : State) : Out :=
  .next (withRun 0x40 (subIs 4) (fun r t =>
    let c := rushCh r
    if t.get (RUSH.CTRL.OWNER c) ≠ ownHost then finish r 5 0 [] t
    else finishOk r (if t.get (RUSH.STATUS.STATE c) = 4 then rushFill c t else t)) s)

/-! ### DAILIES (R430) -/

/-- R430: the marks; before their first sample they are free. -/
def State.dayMarks (s : State) : Int × Int × Nat × Nat :=
  match s.gaf.marks with
  | some m => m
  | none => ((Config.freeValue s.free : Int), (Config.freeValue (s.free + 1) : Int), Config.freeValue (s.free + 2),
      Config.freeValue (s.free + 3))

/-- R430: the summary; `n` entries and `k` counter records follow. -/
def State.summary (s : State) (n k : Nat) : List Nat :=
  let m := s.dayMarks
  octets 8 s.t ++ octets 2 (s.get TC.STATUS.EPOCH) ++ [s.get ETH.SLSTATE.STATE, s.get SEC.START.KIND * 16 + s.get SEC.START.CAUSE] ++
    octets 2 (s.get PORTS.CUTSTAT.CUTCNT) ++
    [s.get PORTS.CUTSTAT.FIRST, s.wordOf CTU.STATUS.adr (fields! CTU.STATUS.adr) % 256] ++
    octets 3 (s.wordOf CTU.CORESTAT.adr (fields! CTU.CORESTAT.adr)) ++ octets 3 (s.get ENG.SPARES.SPARE) ++ octets 2 (s.get CTU.LOGCTL.COUNT) ++
    octets 2 (s.get CTU.LOGCTL.LOST) ++ octets 2 (s.get FLASH.ECC.CECNT) ++ octets 2 (s.get FLASH.ECC.DUECNT) ++
    octets 2 (s.get FLASH.RSSTAT.USABLE) ++ octets 4 (s.get FLASH.RSWEAR.MAXE) ++ octets 2 (s.get FLASH.SCAN.PASSES) ++
    [unsgn 8 m.1, unsgn 8 m.2.1] ++ octets 2 m.2.2.1 ++ octets 2 m.2.2.2 ++
    octets 2 (satSum 65535 ((List.range 68).map (fun b => s.get (BANKS.STATUS.CECNT b)))) ++ octets 2 (s.get DDR.ECC.CECNT) ++
    octets 2 n ++ octets 2 k

/-- R296: SEQ of a slot of the log. -/
def State.logSeq (s : State) (i : Nat) : Nat := bits (s.get (CTU.LOG.W i 0)) 0 12

/-- R430: up to `n` slots of the log from the entry whose SEQ is `from_`. -/
def State.logFrom (s : State) (from_ n : Nat) : List Nat := (s.ctu.order.dropWhile (fun i => s.logSeq i != from_)).take n

/-- DAILIES: summary, log entries, counters (R430). -/
def execDailies (s : State) : Out :=
  .next (withRun 0x41 anyPayload (fun r t =>
    let fl := r.payload.getD 3 0
    let es := t.logFrom (at_ r.payload 0 2) (r.payload.getD 2 0)
    let ks := if bitOf fl 0 then (List.range 256).filter (fun k => t.get (CTU.FCNT.COUNT k) != 0) else []
    let body := t.summary es.length ks.length ++
      es.flatMap (fun i => (List.range 4).flatMap (fun j => wordField (t.get (CTU.LOG.W i j)))) ++
      ks.flatMap (fun k => k :: octets 2 (t.get (CTU.FCNT.COUNT k)))
    let u := finish r 0 0 body (if t.gaf.marks.isNone then t.drawn 4 else t)
    if bitOf fl 1 then u.setGaf { u.gaf with marks := none } else u) s)

end Sys2Proof.Machine
end

