-- ==== Sys2Proof/Machine/Dispatch.lean ====
section
/-! DEFINITION. The one dispatch from a command to its meaning. -/

namespace Sys2Proof.Machine

def exec (i : Instr) (s : State) : Host.Outcome State Fault Refusal :=
  match i with
  | .registerWrite agent adr v => Sys2Proof.Machine.execRegisterWrite agent adr v s
  | .greyAccessResume => Sys2Proof.Machine.execGreyAccessResume s
  | .accessTimeout agent adr => Sys2Proof.Machine.execAccessTimeout agent adr s
  | .mgmtAccess agent adr data fails => Sys2Proof.Machine.execMgmtAccess agent adr data fails s
  | .cutKeepaliveSend half => Sys2Proof.Machine.execCutKeepaliveSend half s
  | .keepaliveTimeout aAbsent bAbsent => Sys2Proof.Machine.execKeepaliveTimeout aAbsent bAbsent s
  | .portParity g => Sys2Proof.Machine.execPortParity g s
  | .timecodeLock => Sys2Proof.Machine.execTimecodeLock s
  | .syncWord bad => Sys2Proof.Machine.execSyncWord bad s
  | .treeLost => Sys2Proof.Machine.execTreeLost s
  | .refLost => Sys2Proof.Machine.execRefLost s
  | .refRelock => Sys2Proof.Machine.execRefRelock s
  | .tcFire n => Sys2Proof.Machine.execTcFire n s
  | .tcCmpWrite agent n which v v2 => Sys2Proof.Machine.execTcCmpWrite agent n which v v2 s
  | .tcClaim agent n v => Sys2Proof.Machine.execTcClaim agent n v s
  | .tcUnclaim agent n v => Sys2Proof.Machine.execTcUnclaim agent n v s
  | .tcEnable agent n v => Sys2Proof.Machine.execTcEnable agent n v s
  | .claimWrite agent res v => Sys2Proof.Machine.execClaimWrite agent res v s
  | .compareWrite agent p x v => Sys2Proof.Machine.execCompareWrite agent p x v s
  | .latReturn e => Sys2Proof.Machine.execLatReturn e s
  | .ssEnable agent n v => Sys2Proof.Machine.execSsEnable agent n v s
  | .ssDisable agent n v => Sys2Proof.Machine.execSsDisable agent n v s
  | .ssGo agent n v => Sys2Proof.Machine.execSsGo agent n v s
  | .ssSlotWrite agent n k v => Sys2Proof.Machine.execSsSlotWrite agent n k v s
  | .ssTrigger n => Sys2Proof.Machine.execSsTrigger n s
  | .acquisitionStart n => Sys2Proof.Machine.execAcquisitionStart n s
  | .apertureEnd n => Sys2Proof.Machine.execApertureEnd n s
  | .conversionEnd n raw outside => Sys2Proof.Machine.execConversionEnd n raw outside s
  | .setComplete n => Sys2Proof.Machine.execSetComplete n s
  | .calgo agent => Sys2Proof.Machine.execCalgo agent s
  | .calDone tj => Sys2Proof.Machine.execCalDone tj s
  | .calageMinute => Sys2Proof.Machine.execCalageMinute s
  | .cmpEnable agent n v => Sys2Proof.Machine.execCmpEnable agent n v s
  | .cmpDisable agent n v => Sys2Proof.Machine.execCmpDisable agent n v s
  | .cmpThrWrite agent n v => Sys2Proof.Machine.execCmpThrWrite agent n v s
  | .cmpMapWrite agent n v => Sys2Proof.Machine.execCmpMapWrite agent n v s
  | .cmpCondition n high x => Sys2Proof.Machine.execCmpCondition n high x s
  | .cmpConditionClear n high x => Sys2Proof.Machine.execCmpConditionClear n high x s
  | .blankOpen n => Sys2Proof.Machine.execBlankOpen n s
  | .blankClose n => Sys2Proof.Machine.execBlankClose n s
  | .tripAssert n => Sys2Proof.Machine.execTripAssert n s
  | .cycleGateRelease n => Sys2Proof.Machine.execCycleGateRelease n s
  | .pfEnable agent n v a b z => Sys2Proof.Machine.execPfEnable agent n v a b z s
  | .pfDisable agent n v => Sys2Proof.Machine.execPfDisable agent n v s
  | .posRead agent n => Sys2Proof.Machine.execPosRead agent n s
  | .lineEdgeAccept n a b z => Sys2Proof.Machine.execLineEdgeAccept n a b z s
  | .resolverTrigger n => Sys2Proof.Machine.execResolverTrigger n s
  | .resolverUpdate n => Sys2Proof.Machine.execResolverUpdate n s
  | .sentFrame n cal status lens crc pause start => Sys2Proof.Machine.execSentFrame n cal status lens crc pause start s
  | .sentTimeout n => Sys2Proof.Machine.execSentTimeout n s
  | .bissFrameStart n => Sys2Proof.Machine.execBissFrameStart n s
  | .bissFrame n mt st nE nW crc delay => Sys2Proof.Machine.execBissFrame n mt st nE nW crc s delay
  | .bissNoack n => Sys2Proof.Machine.execBissNoack n s
  | .speedDecay n => Sys2Proof.Machine.execSpeedDecay n s
  | .speedStop n => Sys2Proof.Machine.execSpeedStop n s
  | .emuEnable agent k v => Sys2Proof.Machine.execEmuEnable agent k v s
  | .emuStep k => Sys2Proof.Machine.execEmuStep k s
  | .engineMemWrite agent e off v => Sys2Proof.Machine.execEngineMemWrite agent e off v s
  | .engineOwnerWrite agent e v => Sys2Proof.Machine.execEngineOwnerWrite agent e v s
  | .engineTrigger e => Sys2Proof.Machine.execEngineTrigger e s
  | .runDispatch e err => Sys2Proof.Machine.execRunDispatch e s err
  | .lawNop e => Sys2Proof.Machine.execLawNop e s
  | .lawWait e => Sys2Proof.Machine.execLawWait e s
  | .lawEnd e hurt => Sys2Proof.Machine.execLawEnd e hurt s
  | .lawSkip e => Sys2Proof.Machine.execLawSkip e s
  | .lawRep e => Sys2Proof.Machine.execLawRep e s
  | .lawAdd e => Sys2Proof.Machine.execLawAdd e s
  | .lawSub e => Sys2Proof.Machine.execLawSub e s
  | .lawNeg e => Sys2Proof.Machine.execLawNeg e s
  | .lawMov e => Sys2Proof.Machine.execLawMov e s
  | .lawMul e => Sys2Proof.Machine.execLawMul e s
  | .lawMac e => Sys2Proof.Machine.execLawMac e s
  | .lawScl e => Sys2Proof.Machine.execLawScl e s
  | .lawNorm e => Sys2Proof.Machine.execLawNorm e s
  | .lawSats e => Sys2Proof.Machine.execLawSats e s
  | .lawSata e => Sys2Proof.Machine.execLawSata e s
  | .lawAbs e => Sys2Proof.Machine.execLawAbs e s
  | .lawMax e => Sys2Proof.Machine.execLawMax e s
  | .lawMin e => Sys2Proof.Machine.execLawMin e s
  | .lawCmp e => Sys2Proof.Machine.execLawCmp e s
  | .lawSel e => Sys2Proof.Machine.execLawSel e s
  | .trd e => Sys2Proof.Machine.execTrd e s
  | .rrd e => Sys2Proof.Machine.execRrd e s
  | .rlrn e fault => Sys2Proof.Machine.execRlrn e fault s
  | .lawCrot e => Sys2Proof.Machine.execLawCrot e s
  | .lawDiv e => Sys2Proof.Machine.execLawDiv e s
  | .lawSqrt e => Sys2Proof.Machine.execLawSqrt e s
  | .clk e => Sys2Proof.Machine.execClk e s
  | .park e => Sys2Proof.Machine.execPark e s
  | .ipark e => Sys2Proof.Machine.execIpark e s
  | .svm e => Sys2Proof.Machine.execSvm e s
  | .sin e => Sys2Proof.Machine.execSin e s
  | .pout e fault => Sys2Proof.Machine.execPout e fault s
  | .lds e => Sys2Proof.Machine.execLds e s
  | .sts e fault => Sys2Proof.Machine.execSts e fault s
  | .ldc e => Sys2Proof.Machine.execLdc e s
  | .qmac2 e => Sys2Proof.Machine.execQmac2 e s
  | .qld e => Sys2Proof.Machine.execQld e s
  | .qout e => Sys2Proof.Machine.execQout e s
  | .qadd e => Sys2Proof.Machine.execQadd e s
  | .qtob e => Sys2Proof.Machine.execQtob e s
  | .btoq e => Sys2Proof.Machine.execBtoq e s
  | .engineFailover e lost => Sys2Proof.Machine.execEngineFailover e lost s
  | .restoreDone e => Sys2Proof.Machine.execRestoreDone e s
  | .engineLoad agent e => Sys2Proof.Machine.execEngineLoad agent e s
  | .unload agent e => Sys2Proof.Machine.execUnload agent e s
  | .engineArm agent e => Sys2Proof.Machine.execEngineArm agent e s
  | .disarm agent e => Sys2Proof.Machine.execDisarm agent e s
  | .fire agent e => Sys2Proof.Machine.execFire agent e s
  | .engineSpare agent e => Sys2Proof.Machine.execEngineSpare agent e s
  | .unspare agent e => Sys2Proof.Machine.execUnspare agent e s
  | .engineRetest agent e => Sys2Proof.Machine.execEngineRetest agent e s
  | .engineCommandDone e => Sys2Proof.Machine.execEngineCommandDone e s
  | .engineLbistDone e pass => Sys2Proof.Machine.execEngineLbistDone e pass s
  | .reelEnable agent r v => Sys2Proof.Machine.execReelEnable agent r v s
  | .reelDisable agent r v => Sys2Proof.Machine.execReelDisable agent r v s
  | .reelMemWrite agent entry v => Sys2Proof.Machine.execReelMemWrite agent entry v s
  | .reelWindow r => Sys2Proof.Machine.execReelWindow r s
  | .reelUpdate => Sys2Proof.Machine.execReelUpdate s
  | .reelScrub entry err => Sys2Proof.Machine.execReelScrub entry err s
  | .saveDdr agent r => Sys2Proof.Machine.execSaveDdr agent r s
  | .loadDdr agent r => Sys2Proof.Machine.execLoadDdr agent r s
  | .saveRec agent r => Sys2Proof.Machine.execSaveRec agent r s
  | .loadRec agent r => Sys2Proof.Machine.execLoadRec agent r s
  | .zero agent r => Sys2Proof.Machine.execZero agent r s
  | .reelXferDone fail => Sys2Proof.Machine.execReelXferDone s fail
  | .portEnable agent p v => Sys2Proof.Machine.execPortEnable agent p v s
  | .portDisable agent p v => Sys2Proof.Machine.execPortDisable agent p v s
  | .periodStart p => Sys2Proof.Machine.execPeriodStart p s
  | .peak p => Sys2Proof.Machine.execPeak p s
  | .compareOccurrence p x => Sys2Proof.Machine.execCompareOccurrence p x s
  | .edgeMerge q => Sys2Proof.Machine.execEdgeMerge q s
  | .deadTimeRise q => Sys2Proof.Machine.execDeadTimeRise q s
  | .portEvent p k second => Sys2Proof.Machine.execPortEvent p k second s
  | .safeWrite agent p v => Sys2Proof.Machine.execSafeWrite agent p v s
  | .vioLow g mv => Sys2Proof.Machine.execVioLow g mv s
  | .clrtrip agent g => Sys2Proof.Machine.execClrtrip agent g s
  | .clrred agent g => Sys2Proof.Machine.execClrred agent g s
  | .laneTestDone g pass mv => Sys2Proof.Machine.execLaneTestDone g pass mv s
  | .cutinAssert => Sys2Proof.Machine.execCutinAssert s
  | .cutinRelease => Sys2Proof.Machine.execCutinRelease s
  | .cutAssert agent => Sys2Proof.Machine.execCutAssert agent s
  | .cutStateReport => Sys2Proof.Machine.execCutStateReport s
  | .cutClear agent => Sys2Proof.Machine.execCutClear agent s
  | .zoneGrant => Sys2Proof.Machine.execZoneGrant s
  | .startEnd p => Sys2Proof.Machine.execStartEnd p s
  | .illegal c why => Sys2Proof.Machine.execIllegal c why s
  | .add c d a b sf => Sys2Proof.Machine.execAdd c d a b sf s
  | .adc c d a b sf => Sys2Proof.Machine.execAdc c d a b sf s
  | .sub c d a b sf => Sys2Proof.Machine.execSub c d a b sf s
  | .sbc c d a b sf => Sys2Proof.Machine.execSbc c d a b sf s
  | .and c d a b sf => Sys2Proof.Machine.execAnd c d a b sf s
  | .or c d a b sf => Sys2Proof.Machine.execOr c d a b sf s
  | .xor c d a b sf => Sys2Proof.Machine.execXor c d a b sf s
  | .andn c d a b sf => Sys2Proof.Machine.execAndn c d a b sf s
  | .shl c d a b sf => Sys2Proof.Machine.execShl c d a b sf s
  | .shr c d a b sf => Sys2Proof.Machine.execShr c d a b sf s
  | .sar c d a b sf => Sys2Proof.Machine.execSar c d a b sf s
  | .rol c d a b sf => Sys2Proof.Machine.execRol c d a b sf s
  | .shlk c d a k sf => Sys2Proof.Machine.execShlk c d a k sf s
  | .shrk c d a k sf => Sys2Proof.Machine.execShrk c d a k sf s
  | .sark c d a k sf => Sys2Proof.Machine.execSark c d a k sf s
  | .rolk c d a k sf => Sys2Proof.Machine.execRolk c d a k sf s
  | .cmp c a b => Sys2Proof.Machine.execCmp c a b s
  | .tst c a b => Sys2Proof.Machine.execTst c a b s
  | .min c d a b sf => Sys2Proof.Machine.execMin c d a b sf s
  | .max c d a b sf => Sys2Proof.Machine.execMax c d a b sf s
  | .minu c d a b sf => Sys2Proof.Machine.execMinu c d a b sf s
  | .maxu c d a b sf => Sys2Proof.Machine.execMaxu c d a b sf s
  | .mov c d a sf => Sys2Proof.Machine.execMov c d a sf s
  | .not c d a sf => Sys2Proof.Machine.execNot c d a sf s
  | .neg c d a sf => Sys2Proof.Machine.execNeg c d a sf s
  | .abs c d a sf => Sys2Proof.Machine.execAbs c d a sf s
  | .clz c d a sf => Sys2Proof.Machine.execClz c d a sf s
  | .popc c d a sf => Sys2Proof.Machine.execPopc c d a sf s
  | .sel c d a b k => Sys2Proof.Machine.execSel c d a b k s
  | .exh c d a k sf => Sys2Proof.Machine.execExh c d a k sf s
  | .insh c d a k sf => Sys2Proof.Machine.execInsh c d a k sf s
  | .swaph c d a sf => Sys2Proof.Machine.execSwaph c d a sf s
  | .addh c d a b => Sys2Proof.Machine.execAddh c d a b s
  | .exb c d a k sf => Sys2Proof.Machine.execExb c d a k sf s
  | .inb c d a k sf => Sys2Proof.Machine.execInb c d a k sf s
  | .bswap c d a sf => Sys2Proof.Machine.execBswap c d a sf s
  | .addf c d a b sf => Sys2Proof.Machine.execAddf c d a b sf s
  | .subf c d a b sf => Sys2Proof.Machine.execSubf c d a b sf s
  | .negf c d a sf => Sys2Proof.Machine.execNegf c d a sf s
  | .absf c d a sf => Sys2Proof.Machine.execAbsf c d a sf s
  | .shlf c d a k sf => Sys2Proof.Machine.execShlf c d a k sf s
  | .addd c d a b sf => Sys2Proof.Machine.execAddd c d a b sf s
  | .subd c d a b sf => Sys2Proof.Machine.execSubd c d a b sf s
  | .movd c d a sf => Sys2Proof.Machine.execMovd c d a sf s
  | .cmpd c a b => Sys2Proof.Machine.execCmpd c a b s
  | .mfs c d => Sys2Proof.Machine.execMfs c d s
  | .mts c a => Sys2Proof.Machine.execMts c a s
  | .addi c d a imm => Sys2Proof.Machine.execAddi c d a imm s
  | .andi c d a imm => Sys2Proof.Machine.execAndi c d a imm s
  | .ori c d a imm => Sys2Proof.Machine.execOri c d a imm s
  | .xori c d a imm => Sys2Proof.Machine.execXori c d a imm s
  | .cmpi c a imm => Sys2Proof.Machine.execCmpi c a imm s
  | .movi c d imm => Sys2Proof.Machine.execMovi c d imm s
  | .lih c d imm => Sys2Proof.Machine.execLih c d imm s
  | .bfx c d a imm => Sys2Proof.Machine.execBfx c d a imm s
  | .bfi c d a imm => Sys2Proof.Machine.execBfi c d a imm s
  | .lea c d a imm => Sys2Proof.Machine.execLea c d a imm s
  | .movl c d x => Sys2Proof.Machine.execMovl c d x s
  | .addl c d a x => Sys2Proof.Machine.execAddl c d a x s
  | .loop c a imm => Sys2Proof.Machine.execLoop c a imm s
  | .loopBackEdge c => Sys2Proof.Machine.execLoopBackEdge c s
  | .ld c d a imm => Sys2Proof.Machine.execLd c d a imm s
  | .st c d a imm => Sys2Proof.Machine.execSt c d a imm s
  | .ldd c d a imm => Sys2Proof.Machine.execLdd c d a imm s
  | .std c d a imm => Sys2Proof.Machine.execStd c d a imm s
  | .ldl c d x => Sys2Proof.Machine.execLdl c d x s
  | .stl c d x => Sys2Proof.Machine.execStl c d x s
  | .lddl c d x => Sys2Proof.Machine.execLddl c d x s
  | .stdl c d x => Sys2Proof.Machine.execStdl c d x s
  | .br c cond disp => Sys2Proof.Machine.execBr c cond disp s
  | .callw c cond disp => Sys2Proof.Machine.execCallw c cond disp s
  | .jmpr c a => Sys2Proof.Machine.execJmpr c a s
  | .callwr c a => Sys2Proof.Machine.execCallwr c a s
  | .jmpl c x => Sys2Proof.Machine.execJmpl c x s
  | .callwl c x => Sys2Proof.Machine.execCallwl c x s
  | .retw c => Sys2Proof.Machine.execRetw c s
  | .nop c => Sys2Proof.Machine.execNop c s
  | .sync c => Sys2Proof.Machine.execSync c s
  | .trap c n => Sys2Proof.Machine.execTrap c n s
  | .hold c n => Sys2Proof.Machine.execHold c n s
  | .holdExpire c => Sys2Proof.Machine.execHoldExpire c s
  | .rete c => Sys2Proof.Machine.execRete c s
  | .waite c d a => Sys2Proof.Machine.execWaite c d a s
  | .movb c d a b => Sys2Proof.Machine.execMovb c d a b s
  | .crcb c d a b k => Sys2Proof.Machine.execCrcb c d a b k s
  | .srch c d a b k => Sys2Proof.Machine.execSrch c d a b k s
  | .cpAbsent c n => Sys2Proof.Machine.execCpAbsent c n s
  | .mul c a b sel => Sys2Proof.Machine.execMul c a b sel s
  | .mulu c a b sel => Sys2Proof.Machine.execMulu c a b sel s
  | .mac c a b sel => Sys2Proof.Machine.execMac c a b sel s
  | .msu c a b sel => Sys2Proof.Machine.execMsu c a b sel s
  | .rdh c d sel => Sys2Proof.Machine.execRdh c d sel s
  | .rdl c d sel => Sys2Proof.Machine.execRdl c d sel s
  | .rdf c d sel => Sys2Proof.Machine.execRdf c d sel s
  | .rdd c d sel => Sys2Proof.Machine.execRdd c d sel s
  | .wra c a b sel => Sys2Proof.Machine.execWra c a b sel s
  | .rdm c d sel => Sys2Proof.Machine.execRdm c d sel s
  | .rds c d => Sys2Proof.Machine.execRds c d s
  | .div c a b => Sys2Proof.Machine.execDiv c a b s
  | .divu c a b => Sys2Proof.Machine.execDivu c a b s
  | .divf c a b => Sys2Proof.Machine.execDivf c a b s
  | .sqrt c a => Sys2Proof.Machine.execSqrt c a s
  | .sqrtf c a => Sys2Proof.Machine.execSqrtf c a s
  | .crot c d a b => Sys2Proof.Machine.execCrot c d a b s
  | .cvec c a b => Sys2Proof.Machine.execCvec c a b s
  | .cpResultLand c unit => Sys2Proof.Machine.execCpResultLand c unit s
  | .ecmd c a sel => Sys2Proof.Machine.execEcmd c a sel s
  | .eres c d sel => Sys2Proof.Machine.execEres c d sel s
  | .est c d sel => Sys2Proof.Machine.execEst c d sel s
  | .eprm c a sel k => Sys2Proof.Machine.execEprm c a sel k s
  | .submit c d a => Sys2Proof.Machine.execSubmit c d a s
  | .poll c d a => Sys2Proof.Machine.execPoll c d a s
  | .rrdi c d a b => Sys2Proof.Machine.execRrdi c d a b s
  | .rwri c d a b => Sys2Proof.Machine.execRwri c d a b s
  | .rxf c d a b => Sys2Proof.Machine.execRxf c d a b s
  | .rxr c d => Sys2Proof.Machine.execRxr c d s
  | .eventRoute d => Sys2Proof.Machine.execEventRoute d s
  | .levelEntry c early => Sys2Proof.Machine.execLevelEntry c early s
  | .taskSwitch c => Sys2Proof.Machine.execTaskSwitch c s
  | .cuePost agent c t mask => Sys2Proof.Machine.execCuePost agent c t mask s
  | .taskStart agent c t => Sys2Proof.Machine.execTaskStart agent c t s
  | .taskStop agent c t => Sys2Proof.Machine.execTaskStop agent c t s
  | .taskStopDone c => Sys2Proof.Machine.execTaskStopDone c s
  | .taskResume agent c t => Sys2Proof.Machine.execTaskResume agent c t s
  | .taskRelease agent c t => Sys2Proof.Machine.execTaskRelease agent c t s
  | .flush agent c => Sys2Proof.Machine.execFlush agent c s
  | .discard agent c => Sys2Proof.Machine.execDiscard agent c s
  | .shadowWrite agent c k j v => Sys2Proof.Machine.execShadowWrite agent c k j v s
  | .cueLockedWrite agent c t pc v => Sys2Proof.Machine.execCueLockedWrite agent c t pc v s
  | .writeToken c agree => Sys2Proof.Machine.execWriteToken c agree s
  | .coreMismatch c lane addr lead trail of_ => Sys2Proof.Machine.execCoreMismatch c lane addr lead trail s of_
  | .stateScrub c flips => Sys2Proof.Machine.execStateScrub c flips s
  | .checkerTest fails => Sys2Proof.Machine.execCheckerTest fails s
  | .coreFailover agrees withheld windows => Sys2Proof.Machine.execCoreFailover agrees s withheld windows
  | .failoverDone => Sys2Proof.Machine.execFailoverDone s
  | .coreLbistDone c pass => Sys2Proof.Machine.execCoreLbistDone c pass s
  | .enlist agent c => Sys2Proof.Machine.execEnlist agent c s
  | .coreRetest agent c => Sys2Proof.Machine.execCoreRetest agent c s
  | .withdraw agent c => Sys2Proof.Machine.execWithdraw agent c s
  | .faultReport agree => Sys2Proof.Machine.execFaultReport agree s
  | .ctuHeartbeat half agree => Sys2Proof.Machine.execCtuHeartbeat half s agree
  | .ctuSilent half => Sys2Proof.Machine.execCtuSilent half s
  | .logClear agent => Sys2Proof.Machine.execLogClear agent s
  | .bankOwnerWrite agent b v => Sys2Proof.Machine.execBankOwnerWrite agent b v s
  | .bankScrub b err => Sys2Proof.Machine.execBankScrub b err s
  | .ddrInit agent => Sys2Proof.Machine.execDdrInit agent s
  | .ddrInitDone ok => Sys2Proof.Machine.execDdrInitDone ok s
  | .ddrPatrol err => Sys2Proof.Machine.execDdrPatrol err s
  | .dmaEnable agent n v => Sys2Proof.Machine.execDmaEnable agent n v s
  | .dmaDisable agent n v => Sys2Proof.Machine.execDmaDisable agent n v s
  | .dmaGo agent n v => Sys2Proof.Machine.execDmaGo agent n v s
  | .dmaEventTrigger n => Sys2Proof.Machine.execDmaEventTrigger n s
  | .dmaWord n hit => Sys2Proof.Machine.execDmaWord n s hit
  | .rushesEnable agent c v => Sys2Proof.Machine.execRushesEnable agent c v s
  | .rushesDisable agent c v => Sys2Proof.Machine.execRushesDisable agent c v s
  | .rushesRecordWrite c => Sys2Proof.Machine.execRushesRecordWrite c s
  | .rushesGo agent v => Sys2Proof.Machine.execRushesGo agent v s
  | .channelRearm agent c v => Sys2Proof.Machine.execChannelRearm agent c v s
  | .flashQueueEnable agent v => Sys2Proof.Machine.execFlashQueueEnable agent v s
  | .flashQueueDisable agent v => Sys2Proof.Machine.execFlashQueueDisable agent v s
  | .flashDescriptorTake => Sys2Proof.Machine.execFlashDescriptorTake s
  | .readVerify => Sys2Proof.Machine.execReadVerify s
  | .programLine => Sys2Proof.Machine.execProgramLine s
  | .programRange => Sys2Proof.Machine.execProgramRange s
  | .eraseSector => Sys2Proof.Machine.execEraseSector s
  | .eraseBank => Sys2Proof.Machine.execEraseBank s
  | .blankCheck => Sys2Proof.Machine.execBlankCheck s
  | .marginRead below => Sys2Proof.Machine.execMarginRead below s
  | .suspend => Sys2Proof.Machine.execSuspend s
  | .resume => Sys2Proof.Machine.execResume s
  | .eraseHalted => Sys2Proof.Machine.execEraseHalted s
  | .eraseComplete b bad => Sys2Proof.Machine.execEraseComplete b bad s
  | .programComplete bad => Sys2Proof.Machine.execProgramComplete bad s
  | .flashScan weak errs => Sys2Proof.Machine.execFlashScan weak s errs
  | .relocate b => Sys2Proof.Machine.execRelocate b s
  | .recordRead agent v => Sys2Proof.Machine.execRecordRead agent v s
  | .recordWrite agent v => Sys2Proof.Machine.execRecordWrite agent v s
  | .recordDelete agent v => Sys2Proof.Machine.execRecordDelete agent v s
  | .recordCmdDone => Sys2Proof.Machine.execRecordCmdDone s
  | .storeBuildDone weak => Sys2Proof.Machine.execStoreBuildDone weak s
  | .storeReclaim => Sys2Proof.Machine.execStoreReclaim s
  | .raise1 agent => Sys2Proof.Machine.execRaise1 agent s
  | .raise2 agent => Sys2Proof.Machine.execRaise2 agent s
  | .lower0 agent => Sys2Proof.Machine.execLower0 agent s
  | .wipeDone => Sys2Proof.Machine.execWipeDone s
  | .supplyDetect cause => Sys2Proof.Machine.execSupplyDetect cause s
  | .logicReset => Sys2Proof.Machine.execLogicReset s
  | .vmidLow => Sys2Proof.Machine.execVmidLow s
  | .vinRise railsOk => Sys2Proof.Machine.execVinRise railsOk s
  | .vinHigh => Sys2Proof.Machine.execVinHigh s
  | .railVddq => Sys2Proof.Machine.execRailVddq s
  | .tjSample temps vin pin => Sys2Proof.Machine.execTjSample temps vin pin s
  | .throttleStep => Sys2Proof.Machine.execThrottleStep s
  | .tjShutdown => Sys2Proof.Machine.execTjShutdown s
  | .tjRelease => Sys2Proof.Machine.execTjRelease s
  | .islandDescend isl => Sys2Proof.Machine.execIslandDescend isl s
  | .islandWake agent isl v => Sys2Proof.Machine.execIslandWake agent isl v s
  | .islandWakeDone isl => Sys2Proof.Machine.execIslandWakeDone isl s
  | .twlWrite agent core isl v => Sys2Proof.Machine.execTwlWrite agent core isl v s
  | .deviceGrant => Sys2Proof.Machine.execDeviceGrant s
  | .clockStep isl => Sys2Proof.Machine.execClockStep isl s
  | .thermStale k => Sys2Proof.Machine.execThermStale k s
  | .sleepWake wake can timer => Sys2Proof.Machine.execSleepWake wake can timer s
  | .coldStart d => Sys2Proof.Machine.execColdStart d s
  | .warmStart d => Sys2Proof.Machine.execWarmStart d s
  | .startHandoff us => Sys2Proof.Machine.execStartHandoff us s
  | .resetPin => Sys2Proof.Machine.execResetPin s
  | .viosLoss => Sys2Proof.Machine.execViosLoss s
  | .viosReturn => Sys2Proof.Machine.execViosReturn s
  | .goodw agent => Sys2Proof.Machine.execGoodw agent s
  | .wdkick agent v => Sys2Proof.Machine.execWdkick agent v s
  | .wdogExpiry => Sys2Proof.Machine.execWdogExpiry s
  | .bootcfgWrite agent v => Sys2Proof.Machine.execBootcfgWrite agent v s
  | .rollfwd agent => Sys2Proof.Machine.execRollfwd agent s
  | .revoke agent arg => Sys2Proof.Machine.execRevoke agent arg s
  | .progkey agent arg => Sys2Proof.Machine.execProgkey agent arg s
  | .proghost agent => Sys2Proof.Machine.execProghost agent s
  | .progdbg agent => Sys2Proof.Machine.execProgdbg agent s
  | .hash => Sys2Proof.Machine.execHash s
  | .hashw => Sys2Proof.Machine.execHashw s
  | .verify => Sys2Proof.Machine.execVerify s
  | .sign tired => Sys2Proof.Machine.execSign tired s
  | .random => Sys2Proof.Machine.execRandom s
  | .keyload => Sys2Proof.Machine.execKeyload s
  | .gcmEnc => Sys2Proof.Machine.execGcmEnc s
  | .gcmDec => Sys2Proof.Machine.execGcmDec s
  | .securityRequestDone => Sys2Proof.Machine.execSecurityRequestDone s
  | .trngHealth => Sys2Proof.Machine.execTrngHealth s
  | .challenge agent => Sys2Proof.Machine.execChallenge agent s
  | .debugRespWrite agent v => Sys2Proof.Machine.execDebugRespWrite agent v s
  | .unlock agent => Sys2Proof.Machine.execUnlock agent s
  | .lock agent => Sys2Proof.Machine.execLock agent s
  | .debugHalt agent v => Sys2Proof.Machine.execDebugHalt agent v s
  | .debugStep agent v => Sys2Proof.Machine.execDebugStep agent v s
  | .slateFrame via src port frame => Sys2Proof.Machine.execSlateFrame via src port frame s
  | .sessionOpen tired => Sys2Proof.Machine.execSessionOpen tired s
  | .sessionKeyx => Sys2Proof.Machine.execSessionKeyx s
  | .sessionClose => Sys2Proof.Machine.execSessionClose s
  | .sessionSak => Sys2Proof.Machine.execSessionSak s
  | .keyxTimeout k => Sys2Proof.Machine.execKeyxTimeout k s
  | .sessionTimeout k => Sys2Proof.Machine.execSessionTimeout k s
  | .attest tired => Sys2Proof.Machine.execAttest tired s
  | .slateRead => Sys2Proof.Machine.execSlateRead s
  | .slateWrite hit => Sys2Proof.Machine.execSlateWrite s hit
  | .scene => Sys2Proof.Machine.execScene s
  | .budget => Sys2Proof.Machine.execBudget s
  | .latency => Sys2Proof.Machine.execLatency s
  | .failoverPlan => Sys2Proof.Machine.execFailoverPlan s
  | .arm => Sys2Proof.Machine.execArm s
  | .slateRun => Sys2Proof.Machine.execSlateRun s
  | .holdout => Sys2Proof.Machine.execHoldout s
  | .slateCut => Sys2Proof.Machine.execSlateCut s
  | .clear => Sys2Proof.Machine.execClear s
  | .sleep => Sys2Proof.Machine.execSleep s
  | .reset => Sys2Proof.Machine.execReset s
  | .loadErase bad => Sys2Proof.Machine.execLoadErase bad s
  | .loadProgram bad => Sys2Proof.Machine.execLoadProgram bad s
  | .loadVerify => Sys2Proof.Machine.execLoadVerify s
  | .commit => Sys2Proof.Machine.execCommit s
  | .trimExport => Sys2Proof.Machine.execTrimExport s
  | .trimImport => Sys2Proof.Machine.execTrimImport s
  | .rushesStatus => Sys2Proof.Machine.execRushesStatus s
  | .rushesRead => Sys2Proof.Machine.execRushesRead s
  | .rushesTrigger => Sys2Proof.Machine.execRushesTrigger s
  | .rushesRearm => Sys2Proof.Machine.execRushesRearm s
  | .dailies => Sys2Proof.Machine.execDailies s
  | .localGo agent v => Sys2Proof.Machine.execLocalGo agent v s
  | .canSegment n id sdt vcid af data => Sys2Proof.Machine.execCanSegment n id sdt vcid af data s
  | .canSegmentTimeout n => Sys2Proof.Machine.execCanSegmentTimeout n s
  | .reassemblyTimeout => Sys2Proof.Machine.execReassemblyTimeout s
  | .ptpSync m g => Sys2Proof.Machine.execPtpSync m g s
  | .ptpLost m => Sys2Proof.Machine.execPtpLost m s
  | .linkDown m sync => Sys2Proof.Machine.execLinkDown m sync s
  | .canBusoff n => Sys2Proof.Machine.execCanBusoff n s
  | .mdioAccess agent m v => Sys2Proof.Machine.execMdioAccess agent m v s
  | .canEnable agent n v => Sys2Proof.Machine.execCanEnable agent n v s
  | .canReceive n fmt ide id sec sdt vcid af data => Sys2Proof.Machine.execCanReceive n fmt ide id sec sdt vcid af data s
  | .canTransmit n => Sys2Proof.Machine.execCanTransmit n s
  | .spiTx agent n v => Sys2Proof.Machine.execSpiTx agent n v s
  | .uartTx agent n v => Sys2Proof.Machine.execUartTx agent n v s
  | .serialRxRead agent u => Sys2Proof.Machine.execSerialRxRead agent u s
  | .uartReceive n v pe fe => Sys2Proof.Machine.execUartReceive n v pe fe s
  | .linkUp m gigabit => Sys2Proof.Machine.execLinkUp m gigabit s
  | .macFrameReceive m vlan secure f => Sys2Proof.Machine.execMacFrameReceive m vlan secure f s
  | .busOffRecovery n => Sys2Proof.Machine.execBusOffRecovery n s
  | .trngHealthPass => Sys2Proof.Machine.execTrngHealthPass s
  | .otpCommandDone => Sys2Proof.Machine.execOtpCommandDone s
  | .unlockDone => Sys2Proof.Machine.execUnlockDone s
  | .mdioAccessDone m data => Sys2Proof.Machine.execMdioAccessDone m data s
  | .spiWordDone n v => Sys2Proof.Machine.execSpiWordDone n v s
  | .uartCharacterSent n => Sys2Proof.Machine.execUartCharacterSent n s
  | .serialEnable agent u v => Sys2Proof.Machine.execSerialEnable agent u v s
  | .busacc adr data => Sys2Proof.Machine.execBusacc adr data s
  | .extest pins tap => Sys2Proof.Machine.execExtest pins s tap

end Sys2Proof.Machine
end

