-- ==== Sys2Proof/Machine/Tick.lean ====
section
/-! DEFINITION. A tick in which no command comes (R3, R18, R250). -/

namespace Sys2Proof.Machine

/-- R250, R407: what the tick brings to a core that holds, as far as its instructions have not taken it already: a cycle where it is
clocked, in which HREM falls unless it is halted; at 0 the hold ends. -/
def holdTick (c : Nat) (s : State) : State := if (s.core c).hold && s.coreExists c then catchUp c s else s

/-- One tick passes: timecode counts, and so do the holds of the cores. -/
def tick (s : State) : State := (List.range 8).foldl (fun u c => holdTick c u) (s.elapse 1)

end Sys2Proof.Machine
end

