-- ==== Sys2Proof/Safety.lean ====
section
/-! DEFINITION. The terms of the claims: the invariant of every step, frames, and what it means that a command has an effect. -/

/-- R18: the commands that start the logic or the count of timecode anew; no other takes timecode back. -/
def Sys2Proof.Instr.resetsTime (i : Sys2Proof.Instr) : Bool :=
  match i with
  | .timecodeLock .. | .coldStart .. | .warmStart .. | .logicReset .. | .vmidLow .. | .tjShutdown .. | .viosLoss .. | .resetPin ..
  | .reset .. | .wipeDone .. | .loadVerify .. | .sleepWake .. => true
  | _ => false

/-- The agent whose access a command is, among those that any agent may make at the registers of a unit. -/
def Sys2Proof.Instr.agent? (i : Sys2Proof.Instr) : Option Owner :=
  match i with
  | .registerWrite a _ _ | .accessTimeout a _ | .mgmtAccess a _ _ _ | .tcCmpWrite a _ _ _ _ | .tcClaim a _ _
  | .tcUnclaim a _ _ | .tcEnable a _ _ | .claimWrite a _ _ | .compareWrite a _ _ _ | .ssEnable a _ _
  | .ssDisable a _ _ | .ssGo a _ _ | .ssSlotWrite a _ _ _ | .calgo a | .cmpEnable a _ _ | .cmpDisable a _ _
  | .cmpThrWrite a _ _ | .cmpMapWrite a _ _ | .pfEnable a _ _ _ _ _ | .pfDisable a _ _ | .posRead a _
  | .emuEnable a _ _ | .engineMemWrite a _ _ _ | .engineOwnerWrite a _ _ | .engineLoad a _ | .unload a _
  | .engineArm a _ | .disarm a _ | .fire a _ | .engineSpare a _ | .unspare a _ | .engineRetest a _ | .reelEnable a _ _
  | .reelDisable a _ _ | .reelMemWrite a _ _ | .saveDdr a _ | .loadDdr a _ | .saveRec a _ | .loadRec a _ | .zero a _
  | .portEnable a _ _ | .portDisable a _ _ | .safeWrite a _ _ | .clrtrip a _ | .clrred a _ | .cutAssert a
  | .cutClear a | .cuePost a _ _ _ | .taskStart a _ _ | .taskStop a _ _ | .taskResume a _ _ | .taskRelease a _ _
  | .flush a _ | .discard a _ | .shadowWrite a _ _ _ _ | .cueLockedWrite a _ _ _ _ | .enlist a _ | .coreRetest a _
  | .withdraw a _ | .logClear a | .bankOwnerWrite a _ _ | .ddrInit a | .dmaEnable a _ _ | .dmaDisable a _ _
  | .dmaGo a _ _ | .rushesEnable a _ _ | .rushesDisable a _ _ | .rushesGo a _ | .channelRearm a _ _
  | .flashQueueEnable a _ | .flashQueueDisable a _ | .recordRead a _ | .recordWrite a _ | .recordDelete a _
  | .raise1 a | .raise2 a | .lower0 a | .islandWake a _ _ | .twlWrite a _ _ _ | .goodw a | .wdkick a _
  | .bootcfgWrite a _ | .rollfwd a | .revoke a _ | .progkey a _ | .proghost a | .progdbg a | .challenge a
  | .debugRespWrite a _ | .unlock a | .lock a | .debugHalt a _ | .debugStep a _ | .localGo a _ | .mdioAccess a _ _
  | .canEnable a _ _ | .spiTx a _ _ | .uartTx a _ _ | .serialRxRead a _ | .serialEnable a _ _ => some a
  | _ => none

namespace Sys2Proof.Machine

/-! ### The invariant -/

/-- The canonical form of memory: addresses rise strictly, and no entry equals what an unlisted address reads as. -/
def Memory.wf (m : List (Nat × Nat)) : Bool := Tab.wf memDefault m

/-- R1, R313: a word on the logic die has 36 bits, a granule of DDR4 has 64. -/
def cellWidth (a : Nat) : Nat := if a < ddrBase then 36 else 64

/-- Every cell holds a value of its width. -/
def Memory.sized (m : List (Nat × Nat)) : Bool := m.all (fun e => decide (e.2 < 2 ^ cellWidth e.1))

/-- What holds in every state that a step leaves: memory and registers are in their canonical form, and no cell holds more than
its width. -/
def State.Inv (s : State) : Prop :=
  Memory.wf s.mem = true ∧ Memory.sized s.mem = true ∧ Tab.wf resetKey s.fields = true

/-! ### Effects on control registers -/

/-- The fields of `ps` hold the values beside them, and every other field reads as before. -/
def Sets (s t : State) (ps : List (FRef × Nat)) : Prop :=
  (∀ p ∈ ps, t.get p.1 = p.2) ∧ ∀ r : FRef, (∀ p ∈ ps, p.1.key ≠ r.key) → t.get r = s.get r

/-- The command answers a next state; there the fields of `ps` hold the values beside them, every other field reads as in `b`
(the state before, or that state after time has passed), and whatever is not a control register is as `u` leaves it in `b`. -/
def WritesFrom (b : State) (i : Instr) (s : State) (ps : List (FRef × Nat)) (u : State → State) : Prop :=
  ∃ t, exec i s = .next t ∧ Sets b t ps ∧ t = (u b).setFields t.fields

/-- The same from the state before. -/
def Writes (i : Instr) (s : State) (ps : List (FRef × Nat)) (u : State → State) : Prop := WritesFrom s i s ps u

/-- The command answers a next state with a property. -/
def Ends (i : Instr) (s : State) (p : State → Prop) : Prop := ∃ t, exec i s = .next t ∧ p t

/-- Memory reads as before, at every address. -/
def SameMem (s t : State) : Prop := ∀ a, t.rd a = s.rd a

/-- Memory reads as before, at every address but the `n` from `a` on. -/
def SameMemBut (s t : State) (a n : Nat) : Prop := ∀ q, (q < a ∨ a + n ≤ q) → t.rd q = s.rd q

/-- The access of an agent got a response. -/
def Answered (t : State) (agent : Owner) (r : Resp) : Prop := t.bus.resp = r ∧ t.bus.agent = agent.toNat

/-- R276: no write of the agent waits for its token. -/
def State.Settled (s : State) (a : Owner) : Prop := ∀ q : Fin 8, a.toNat = ownCore q.val → (s.core q.val).held = []

/-- R407: every core stands at a boundary, so that a halt takes hold at once, and none holds. -/
def State.AtBoundary (s : State) : Prop := ∀ q : Fin 8, s.within q.val = false ∧ (s.core q.val).hold = false

/-! ### Instructions of a core -/

/-- R190: a word is fetched without a cause: it lies in a bank in White that the core owns, that is not RED, and no error has
struck it. -/
def State.FetchOk (s : State) (c : Fin 8) (a : Nat) : Prop :=
  ∃ b, bankOf? a = some b ∧ b < 64 ∧ s.get (BANKS.OWNER.OWNER b) = ownCore c.val ∧ s.get (BANKS.STATUS.RED b) = 0 ∧
    s.markAt a = none ∧ s.island (20 + b / 16) = 0

/-- The core may run its next instruction; the words of it, of `n`, and the word after it can be fetched, which at the last word of a loop
may be the first of its body (R218, R220), and the fetch of a word that it holds has met no cause; no halt waits for the next boundary
(R407), and the end of the hold that stands raises no cause (R251). -/
def State.Ready (s : State) (c : Fin 8) (n : Nat) : Prop :=
  let x := s.core c.val
  (catchUp c.val s).mayIssue c.val = true ∧ (bitOf (s.get DBG.CORECTL.HALT) c.val = true → s.debugOpen = true → s.coreHalted c.val = true) ∧
    (x.hold = true → x.excess = false) ∧ (∀ k ≤ n, s.FetchOk c ((x.pc + k) % 2 ^ 32)) ∧ (∀ l, s.loopAt c.val x.pc = some l → s.FetchOk c l.first) ∧
    ∀ e, x.next = some e → e.2.1 = 0

/-- R185, R253: the specifier names a register that reads zero and discards writes. -/
def State.readsZero (s : State) (c : Fin 8) (r : Fin 32) : Bool :=
  match s.place c.val r.val with
  | .zero => true
  | _ => false

/-- Nothing changes but the core's own state, its shadow banks, and what the Cue notes of the groups that its running task has
written (R262): a result in flight may land (R210). -/
def CoreOnly (c : Fin 8) (s t : State) : Prop :=
  t = (s.setCores t.cores).setFields t.fields ∧ (∀ k, k ≠ c.val → t.core k = s.core k) ∧
    ∀ r : FRef, (∀ k j, k < 8 → j < 16 → r.key ≠ (CUE.SB.W c.val k j).key) →
      r.key ≠ (CUE.TSTAT.DIRTY c.val (s.core c.val).task).key → t.get r = s.get r

/-- The instruction of `n` words is done: no cause stands, and the core goes on after it. -/
def Done (c : Fin 8) (n : Nat) (s t : State) : Prop :=
  (t.core c.val).pc = ((s.core c.val).pc + n) % 2 ^ 32 ∧ (t.core c.val).sync = none

/-- The registers of the core after D := v: where D reads zero, nothing is written. -/
def RegsAre (c : Fin 8) (d : Fin 32) (v : Nat) (s t : State) : Prop :=
  ∀ q : Fin 32, t.reg c.val q.val = if q = d ∧ s.readsZero c d = false then v else s.reg c.val q.val

def SameRegs (c : Fin 8) (s t : State) : Prop := ∀ q : Fin 32, t.reg c.val q.val = s.reg c.val q.val

/-- Z, N, C and V after the instruction. -/
def FlagsAre (c : Fin 8) (z n cf v : Bool) (t : State) : Prop :=
  (t.core c.val).z = z ∧ (t.core c.val).n = n ∧ (t.core c.val).c = cf ∧ (t.core c.val).v = v

/-- Z, N, C and V keep their values. -/
def SameFlags (c : Fin 8) (s t : State) : Prop :=
  FlagsAre c (s.core c.val).z (s.core c.val).n (s.core c.val).c (s.core c.val).v t

/-- The flags that a function sets when S = 1: none keeps the old value. -/
def FlagsOf (c : Fin 8) (sf : Bool) (z n cf v : Option Bool) (s t : State) : Prop :=
  let x := s.core c.val
  if sf then FlagsAre c (z.getD x.z) (n.getD x.n) (cf.getD x.c) (v.getD x.v) t else SameFlags c s t

/-- An instruction of `n` words that writes D and sets flags, and does nothing else. -/
def Gives (i : Instr) (c : Fin 8) (n : Nat) (d : Fin 32) (v : Nat) (sf : Bool) (z nf cf vf : Option Bool) (s : State) : Prop :=
  Ends i s (fun t => CoreOnly c s t ∧ Done c n s t ∧ RegsAre c d v s t ∧ FlagsOf c sf z nf cf vf s t)

/-- The core raises a cause at this boundary: its registers, flags and PC are as before. -/
def Raises (i : Instr) (c : Fin 8) (code info : Nat) (s : State) : Prop :=
  Ends i s (fun t => CoreOnly c s t ∧ SameRegs c s t ∧ SameFlags c s t ∧ (t.core c.val).pc = (s.core c.val).pc ∧
    ∃ q, (t.core c.val).sync = some q ∧ q.1.code = code ∧ q.1.info = info)

/-! ### Slate commands -/

/-- R414, R416: the command came in the open session of slot `k` over MAC0, which carries Slate with MACsec in force, so that its
response travels in clear. -/
def State.ServesIn (s : State) (k : Fin 3) (r : SlateRun) : Prop :=
  r.slot = some k.val ∧ (s.session k).phase = 2 ∧ s.get (ETH.SESS.NUMBER k) = r.session ∧ r.via = 1 ∧ s.carries 1 = true ∧
    s.get (MAC.CTRL.MACSEC 0) = 1

/-- R411, R416: the last frame sent is the response to `r`, to where it came from: its response word, with the device state as it is after the command, and its
results; no command runs any more. -/
def Replied (s t : State) (k : Fin 3) (r : SlateRun) (status info : Nat) (results : List Nat) : Prop :=
  t.link.run = none ∧ t.slateOut.getLast? = some ⟨1, s.vlanTag 0, r.peer, r.session, (t.session k).dev - 1, r.cmd, false,
    [status, t.get ETH.SLSTATE.STATE] ++ octets 2 info ++ octets 4 r.slate ++ results, [], []⟩

end Sys2Proof.Machine
end

