-- ==== Sys2Proof/Certificates/Slice0/Obligations.lean ====
section
/-! DEFINITION. The statements for the provers. Each says what the commands it names do, by the rules its text names. -/

open Sys2Proof Sys2Proof.Machine

/-- A step takes the command at the front of the queue: it is `exec` of that command on the state with the queue's rest. -/
def Obligations.StepRunsFront : Prop := ∀ (s : State) (i : Instr) (rest : List Instr), s.pending = i :: rest → step s = exec i (s.setPending rest)

/-- The state after reset, where the spec's register tables give a value: the host link, its CAN controllers and serial units,
and no unit enabled. That memory lists nothing, that no command waits and that no Slate command runs are the model's choice (log
entries 4, 2 and 7). -/
def Obligations.ResetValues : Prop :=
  let s := State.reset
  s.pending = [] ∧ s.mem = [] ∧ s.link.run = none ∧ s.get ETH.SESSTO.SECS = 60 ∧
    (∀ m : Fin 2, s.get (MAC.PORT.PORT m) = 41960 ∧ s.get (MAC.RATE.RATE m) = 2863311531 ∧ s.get (MAC.CTRL.MACSEC m) = 0) ∧
    (∀ n : Fin 4, s.get (CAN.NBT.SEG1 n) = 159 ∧ s.get (CAN.NBT.SEG2 n) = 40 ∧ s.get (CAN.NBT.SJW n) = 40 ∧
      s.get (CAN.DBT.SEG1 n) = 6 ∧ s.get (CAN.DBT.SEG2 n) = 3 ∧ s.get (CAN.DBT.SJW n) = 3 ∧ s.get (CAN.TDC.EN n) = 1 ∧
      s.get (CAN.TDC.OFFSET n) = 5 ∧ s.get (CAN.IDS.HOSTID n) = 0x080 ∧ s.get (CAN.IDS.DEVID n) = 0x081 ∧
      s.get (CAN.CTRL.EN n) = 0 ∧ s.get (CAN.CTRL.OWNER n) = 0) ∧
    (∀ n : Fin 8, s.get (SPI.CTRL.WIDTH n) = 8 ∧ s.get (SPI.CLK.DIV n) = 74 ∧ s.get (SPI.CTRL.EN n) = 0) ∧
    (∀ n : Fin 2, s.get (UART.CTRL.BITS n) = 1 ∧ s.get (UART.BAUD.DIV n) = 813 ∧ s.get (UART.BAUD.FRAC n) = 51) ∧
    (∀ p : Fin 96, s.get (GP.CTRL.EN p) = 0) ∧ (∀ n : Fin 32, s.get (SS.CTRL.EN n) = 0) ∧ (∀ n : Fin 16, s.get (PF.CTRL.EN n) = 0)

/-- The state after reset is in the form that every step keeps. -/
def Obligations.ResetInv : Prop := State.reset.Inv

/-- Every step keeps memory and the control registers in their canonical form, and no cell of memory ever holds more than its width:
36 bits on the logic die, 64 in a granule of DDR4. -/
def Obligations.StepKeepsInv : Prop := ∀ s t : State, s.Inv → step s = .next t → t.Inv

/-- Every well-formed command answers a next state, in every state, and leaves the queue of waiting commands alone; a command
that carries a list of the wrong length is malformed (the model's choice, log entry 14), and no command is refused. -/
def Obligations.EveryCommandCompletes : Prop :=
  ∀ (i : Instr) (s : State),
    (i.wf = true → ∃ t, exec i s = .next t ∧ t.pending = s.pending) ∧
    (i.wf = false → ∃ why, exec i s = .fault (.malformed why))

/-- R18: Timecode moves on and never back: no tick and no command but those that start the logic or the count anew (the locking of
timecode, the resets, the starts, the end of a wipe or of a LOAD, and a wake from sleep) gives a next state whose timecode is smaller.
At its highest count it stays, and registers that count in ms count at multiples of 1 ms (both the model's choice, log entry 8);
nothing else is touched. With no command waiting a tick passes (the model's choice, log entry 1): timecode counts while it runs, and
so does the hold of a clocked core that is not halted: a tick brings one cycle of a core at 1.5 GHz; a halted core's hold stands. -/
def Obligations.TimeMovesOn : Prop :=
  (∀ (s : State) (t : Nat),
     (s.tcRun = true → s.t < t → t < 2 ^ 64 → (s.advanceTo t).t = t) ∧
     (s.tcRun = false ∨ t ≤ s.t → s.advanceTo t = s) ∧
     (∀ r : FRef, (∀ k < 4, (GAF.ZTEMP.AGE k).key ≠ r.key) → SEC.WDSTAT.REM.key ≠ r.key → (s.advanceTo t).get r = s.get r) ∧
     s.advanceTo t = (s.setNow (s.advanceTo t).now).setFields (s.advanceTo t).fields) ∧
  (∀ s : State, s.pending = [] →
     ((∀ c : Fin 8, (s.core c).hold = false) → step s = .next (s.advanceTo (s.t + 1))) ∧
     (∀ c : Fin 8, (s.core c).hold = true → (∀ k : Fin 8, k ≠ c → (s.core k).hold = false) → s.coreExists c = true →
       s.island (coreIsland c) = 0 → s.coreHalted c = false → 1 < (s.core c).hrem → (s.core c).fly = [] → (s.core c).seen = s.t →
       (s.core c).ahead = 0 → s.tcRun = true → s.t + 1 < 2 ^ 64 → s.get (ISL.STAT.CLK (coreIsland c)) = 0 →
       step s = .next ((s.advanceTo (s.t + 1)).putCore c { s.core c with hrem := (s.core c).hrem - 1, seen := s.t + 1 })) ∧
     (∀ c : Fin 8, (s.core c).hold = true → (∀ k : Fin 8, k ≠ c → (s.core k).hold = false) → s.coreExists c = true →
       s.coreHalted c = true → (s.core c).fly = [] → (s.core c).seen = s.t → (s.core c).ahead = 0 →
       let u := s.advanceTo (s.t + 1)
       step s = .next (u.putCore c { s.core c with seen := u.t })) ∧
     (∀ t : State, step s = .next t → s.t ≤ t.t)) ∧
  (∀ (i : Instr) (s t : State), i.resetsTime = false → exec i s = .next t → s.t ≤ t.t)

/-- R18, R20, R22, R23, R23 to R26, R458: The timecode island: lock, the sync word, the reference, and a compare unit that
fires. CTRL and compare writes of a compare unit by its owner and by others. LOCK follows REF_LOST and REF_RELOCK (log entry 17), a
write that releases a unit writes its other fields too (log entry 16), and a second lock does nothing (log entries 13 and 102): that is
the model's choice. -/
def Obligations.TimecodeIsland : Prop :=
  (∀ s : State,
     (s.tcRun = false → Writes .timecodeLock s [(TC.STATUS.LOCK, 1)] (fun u => (u.setTcRun true).setNow 0)) ∧
     (s.tcRun = true → exec .timecodeLock s = .next s) ∧
     (∀ bad : List (Fin 32), (∀ p : Fin 96, (s.port p).owed = false) → WritesFrom (s.advanceTo ((s.t + 4095) / 4096 * 4096)) (.syncWord bad) s [] (fun u =>
       (u.setSyncWait []).setReports (u.reports ++ ((bad.filter (fun i => i.val ≤ 18 ∨ 24 ≤ i.val)).map
         (fun i => ⟨.treeMismatch, 0x800 + i.val, 0, false⟩))))) ∧
     Writes .treeLost s [] (fun u => u.setReports (u.reports ++ [⟨.treeLost, 0, 0, false⟩])) ∧
     Writes .refLost s [(TC.STATUS.HOLDOVER, 1), (TC.STATUS.REFLOST, 1), (TC.STATUS.LOCK, 0)]
       (fun u => u.setReports (u.reports ++ [⟨.refLost, 0, 0, false⟩])) ∧
     (s.get TC.STATUS.HOLDOVER = 1 → Writes .refRelock s [(TC.STATUS.HOLDOVER, 0), (TC.STATUS.LOCK, 1)] id) ∧
     (∀ n : Fin 16, s.get (TC.CTRL.EN n) = 1 → s.tcRun = true →
       let c := s.tcCmp n
       let p := s.tcPeriod n
       let fire (u : State) : State := (u.putTrig (trigKeyTc n) c).setEvents (u.events ++ [⟨16 + n, some (c % 2 ^ 36), []⟩])
       (s.get (TC.CTRL.PERIODIC n) = 0 → WritesFrom (s.advanceTo c) (.tcFire n) s
         [(TC.CTRL.FIRED n, 1), (TC.CTRL.EN n, 0)] fire) ∧
       (s.get (TC.CTRL.PERIODIC n) = 1 → WritesFrom (s.advanceTo c) (.tcFire n) s
         [(TC.CTRL.FIRED n, 1), (TC.CMPHI.CMPH n, (c + p) / 2 ^ 36 % 2 ^ 28), (TC.CMPLO.CMPL n, (c + p) % 2 ^ 36)] fire))) ∧
  (∀ (s : State) (a : Owner) (n : Fin 16), s.Settled a → a ≠ 0 → s.get (ISL.STAT.STATE 19) = 0 →
     let own := SYS.CLM.OWNER (0x600 + n)
     let feat := SYS.CLM.FEATURE (0x600 + n)
     let c := s.tcCmp n
     let ok (r : Resp) (u : State) : State := u.setBus ⟨a.toNat, r, 0, 0⟩
     -- R26: a claim with EN clear takes the unit
     (∀ v : Word, v.toNat / 16 % 2 = 1 → v.toNat % 2 = 0 → s.get own = 0 →
       Writes (.tcClaim a n v) s [(own, a.toNat), (feat, 0x700 + n), (SYS.FST.STATE (0x700 + n), 1),
         (SYS.FST.CRES (0x700 + n), 0), (SYS.FST.HOLDER (0x700 + n), 0), (TC.CTRL.CLAIM n, 1),
         (TC.CTRL.LATE n, if v.toNat / 8 % 2 = 1 then 0 else s.get (TC.CTRL.LATE n)),
         (TC.CTRL.FIRED n, if v.toNat / 4 % 2 = 1 then 0 else s.get (TC.CTRL.FIRED n)),
         (TC.CTRL.PERIODIC n, v.toNat / 2 % 2), (TC.CTRL.EN n, 0)] (ok .ok)) ∧
     -- R31: a claim of a unit that another holds leaves it alone and tells of the conflict
     (∀ v : Word, s.get own ≠ 0 → s.get own ≠ a.toNat → Writes (.tcClaim a n v) s
       [(SYS.FST.STATE (0x700 + n), 2), (SYS.FST.CRES (0x700 + n), 0x600 + n), (SYS.FST.HOLDER (0x700 + n), s.get feat)]
       (ok .ok)) ∧
     -- R26: the holder gives the unit back
     (∀ v : Word, s.get own = a.toNat → s.get feat = 0x700 + n → Writes (.tcUnclaim a n v) s [(own, 0), (feat, 0),
       (SYS.FST.STATE (0x700 + n), 0), (SYS.FST.CRES (0x700 + n), 0), (SYS.FST.HOLDER (0x700 + n), 0), (TC.CTRL.CLAIM n, 0),
       (TC.CTRL.LATE n, if v.toNat / 8 % 2 = 1 then 0 else s.get (TC.CTRL.LATE n)),
       (TC.CTRL.FIRED n, if v.toNat / 4 % 2 = 1 then 0 else s.get (TC.CTRL.FIRED n)),
       (TC.CTRL.PERIODIC n, v.toNat / 2 % 2), (TC.CTRL.EN n, 0)] (ok .ok)) ∧
     -- R23: the holder arms the unit, its compare value still to come
     (∀ v : Word, s.get own = a.toNat → v.toNat / 16 % 2 = 1 → s.get (TC.CTRL.EN n) = 0 → s.t ≤ c →
       Writes (.tcEnable a n v) s [(TC.CTRL.LATE n, if v.toNat / 8 % 2 = 1 then 0 else s.get (TC.CTRL.LATE n)),
         (TC.CTRL.FIRED n, if v.toNat / 4 % 2 = 1 then 0 else s.get (TC.CTRL.FIRED n)),
         (TC.CTRL.PERIODIC n, v.toNat / 2 % 2), (TC.CTRL.EN n, 1)] (ok .ok)) ∧
     -- R24: armed in the past, a single unit fires at once with LATE and stands down
     (∀ v : Word, s.get own = a.toNat → v.toNat / 16 % 2 = 1 → v.toNat / 2 % 2 = 0 → s.get (TC.CTRL.EN n) = 0 → c < s.t →
       Writes (.tcEnable a n v) s [(TC.CTRL.LATE n, 1), (TC.CTRL.FIRED n, 1), (TC.CTRL.PERIODIC n, 0), (TC.CTRL.EN n, 0)]
         (fun u => ok .ok ((u.putTrig (trigKeyTc n) u.t).setEvents (u.events ++ [⟨16 + n, some (u.t % 2 ^ 36), []⟩])))) ∧
     -- R25: the holder writes PERIOD; anyone else meets BUS_OWN
     (∀ v v2 : Word, s.get own = a.toNat → Writes (.tcCmpWrite a n 2 v v2) s [(TC.PERIOD.PERIOD n, v.toNat)] (ok .ok)) ∧
     (∀ v v2 : Word, s.get own = a.toNat → s.get (TC.CTRL.EN n) = 0 → Writes (.tcCmpWrite a n 3 v v2) s
       [(TC.CMPHI.CMPH n, v.toNat % 2 ^ 28), (TC.CMPLO.CMPL n, v2.toNat)] (ok .ok)) ∧
     (∀ (k : Fin 4) (v v2 : Word), s.get own ≠ a.toNat → Writes (.tcCmpWrite a n k v v2) s [] (ok .busOwn)))

/-- R7, R30, R33, R34: A claim word of the claim table: any agent claims a free resource for an owner, the owner of a direct
claim hands it over or releases it, a reserved owner ID is discarded, and any other write ends with BUS_OWN. -/
def Obligations.ClaimTable : Prop :=
  ∀ (s : State) (a : Owner) (r : BitVec 12) (v : Word), s.Settled a → resourceExists r.toNat = true → s.get (ISL.STAT.STATE 26) = 0 →
    let own := SYS.CLM.OWNER r.toNat
    let feat := SYS.CLM.FEATURE r.toNat
    let new := v.toNat % 256
    (s.get own = 0 ∨ (s.get own = a.toNat ∧ s.get feat = 0xFFF) → validOwner s.split new = true →
      Writes (.claimWrite a r v) s [(own, new), (feat, if new = 0 then 0 else 0xFFF)] (fun u => u.setBus ⟨a.toNat, .ok, 0, 0⟩)) ∧
    (s.get own = 0 ∨ (s.get own = a.toNat ∧ s.get feat = 0xFFF) → validOwner s.split new = false →
      Writes (.claimWrite a r v) s [] (fun u => u.setBus ⟨a.toNat, .ok, 0, 0⟩)) ∧
    (s.get own ≠ 0 → s.get own ≠ a.toNat ∨ s.get feat ≠ 0xFFF →
      Writes (.claimWrite a r v) s [] (fun u => u.setBus ⟨a.toNat, .busOwn, 0, 0⟩))

/-- R363 to R373, R374 to R377, R425: Islands go deep and wake; what Black loses, the device ledger grants, clocks step, and the
junction is watched. Starts of the zone ledger and its sensors. That a wake always queues, with PEND 1, until its grant (log entry 1),
that the end of a clock step asks again for CLKREQ (log entry 126), that an island's contents are lost at the moment it leaves Black
(log entry 72), and that ZONE_GRANT does nothing while a start has to wait (log entry 13), is the model's choice. -/
def Obligations.IslandPower : Prop :=
  (∀ (s : State) (i : Fin 32),
     let clk := s.get (ISL.STAT.CLK i)
     -- R367: an idle island goes to the deepest state that DEEPEST, R366 and R369 allow; its draw leaves the ledger, and Grey and
     -- Charcoal keep all memory
     (i ≠ 26 → 2 ≤ s.allowed i → s.island i < s.depth i → s.gaf.waking = [] → Ends (.islandDescend i) s (fun t =>
       t.get (ISL.STAT.STATE i) = s.depth i ∧ t.get (ISL.STAT.GRANT i) = drawIn i (s.depth i) clk ∧
       (∀ q : Fin 32, q ≠ i → t.get (ISL.STAT.STATE q) = s.get (ISL.STAT.STATE q)) ∧ (s.depth i < 3 → SameMem s t))) ∧
     -- R365, R366: what Black has lost, seen once the island is back: banks, mailboxes and reel entries read zero, engine memories are
     -- zero, the cores are in SPARE and hold nothing, and the registers of position feedback, of the hosts' serial units and of DMA are at reset
     (s.gaf.waking = [(i.val, 0)] → s.island i = 3 → Ends (.islandWakeDone i) s (fun t =>
       t.get (ISL.STAT.STATE i) = 0 ∧ t.gaf.waking = [] ∧
       (∀ b : Fin 64, 20 + b.val / 16 = i → ∀ k < 0x4000, t.rd (bankBase b + k) = 0) ∧
       (i = 24 → (∀ k < 0x2000, t.rd (bankBase 64 + k) = 0) ∧ ∀ n : Fin 16, t.get (DMA.CTRL.EN n) = 0) ∧
       (i = 25 → ∀ k < 0x10000, t.rd (0x01200000 + k) = 0) ∧
       (∀ e : Fin 24, 4 + e.val / 3 = i → ∀ m < 0x1000, t.rd (engBase e + m) = 0) ∧
       (∀ c : Fin 8, c.val % 4 = i → s.coreExists c = true → t.get (CTU.CORESTAT.STATE c) = 4 ∧ ∀ q : Fin 32, t.reg c q = 0) ∧
       (i = 16 → ∀ r : FRef, PF.CTRL.adr 0 / 0x10000 = r.adr / 0x10000 → t.get r = State.reset.get r) ∧
       (i = 28 → t.serials = [] ∧ ∀ n : Fin 8, t.get (SPI.CTRL.WIDTH n) = 8 ∧ t.get (SPI.CTRL.EN n) = 0))) ∧
     -- R367: WAKE of a deep island asks the Gaffer
     (∀ (a : Owner) (v : Word), s.Settled a → v.toNat % 2 = 1 → 4 ≤ i.val → i ≠ 19 → i ≠ 26 → i ≠ 30 → i ≠ 31 → 2 ≤ s.island i → s.gaf.waking = [] →
       s.gafQueue = [] → Ends (.islandWake a i v) s (fun t => t.gafQueue = [⟨false, i, 1, s.t, false, 0⟩] ∧
         t.get (ISL.CTRL.DEEPEST i) = v.toNat / 4 % 4 ∧ t.get (ISL.STAT.STATE i) = s.get (ISL.STAT.STATE i) ∧
         t.get (ISL.STAT.PEND i) = 1 ∧ t.get GAF.QSTAT.QCNT = 1 ∧ t.bus = ⟨a.toNat, .ok, 0, 0⟩)) ∧
     -- R371: the grant of a wake that fits the budget
     (∀ prio raised : Nat, s.gafQueue = [⟨false, i, prio, raised, false, 0⟩] → s.deviceSpaced = true →
       s.ledger + (drawIn i 0 clk - s.get (ISL.STAT.GRANT i)) ≤ s.budget → Ends .deviceGrant s (fun t => t.gafQueue = [] ∧
         t.gaf.waking = s.gaf.waking ++ [(i.val, 0)] ∧ t.get (ISL.STAT.GRANT i) = drawIn i 0 clk ∧ t.get (ISL.STAT.PEND i) = 0 ∧
         t.get GAF.DLEDGER.GRANTED = t.ledger ∧ t.gaf.last = (s.t, drawIn i 0 clk - s.get (ISL.STAT.GRANT i)))) ∧
     -- R20, R366: the wake ends; the island's replica of timecode waits for a sync word
     (s.gaf.waking = [(i.val, 0)] → s.island i = 2 → Ends (.islandWakeDone i) s (fun t => t.get (ISL.STAT.STATE i) = 0 ∧
       t.gaf.waking = [] ∧ (i.val ≤ 18 ∨ 24 ≤ i.val → t.unsynced i = true) ∧ SameMem s t)) ∧
     -- R368: a TWL write of an island that is not deep
     (∀ (a : Owner) (v : Word), s.Settled a → s.island i < 2 → Ends (.twlWrite a none i v) s (fun t =>
       t.get (ISL.TWL.TWL i) = v.toNat % 2 ^ 16 ∧ t.gafQueue = s.gafQueue ∧ t.bus = ⟨a.toNat, .ok, 0, 0⟩)) ∧
     -- R372: a clock change takes effect, and the ledger follows
     (∀ (k : Fin 4) (c : Nat), s.gaf.steps = [(k.val, c)] → c < 4 → s.get (ISL.STAT.CLK k) < c →
       (∀ q ∈ s.gafQueue, q.source ≠ k.val) →
       Ends (.clockStep k) s (fun t => t.get (ISL.STAT.CLK k) = c ∧ t.get (ISL.STAT.GRANT k) = drawIn k (s.countedIn k) c ∧
         t.gaf.steps = if c < s.get (ISL.CTRL.CLKREQ k) then [(k.val, s.get (ISL.CTRL.CLKREQ k))] else [])) ∧
     -- R363, R430: the sensors: the highest reading and its place
     (∀ (temps : List (BitVec 9)) (vin pin : BitVec 12), temps.length = 32 → Ends (.tjSample temps vin pin) s (fun t =>
       (∃ h ∈ temps, t.get GAF.TJ.TJ = unsgn 9 h.toInt ∧ (temps[t.get GAF.TJ.ISL]?) = some h ∧ ∀ x ∈ temps, x.toInt ≤ h.toInt) ∧
       t.get GAF.MEAS.VIN = vin.toNat ∧ t.get GAF.MEAS.PIN = pin.toNat)) ∧
     -- R363: at 140 °C every core island that can go slower does, by one step
     (140 ≤ sgn 9 (s.get GAF.TJ.TJ) → s.get GAF.STATUS.THROT = 0 → s.gaf.steps = [] →
       (∀ k : Fin 4, s.island k = 0 ∧ s.get (ISL.STAT.CLK k) = 0) → Ends .throttleStep s (fun t =>
         t.gaf.steps = [(0, 1), (1, 1), (2, 1), (3, 1)] ∧ t.gaf.hot.take 4 = [0, 1, 2, 3] ∧ t.get GAF.STATUS.THROT = 1 ∧
         t.reports = s.reports ++ [⟨.throttle, 0, 0, false⟩]))) ∧
  (∀ (s : State) (p : Fin 96),
     let k := s.get (GP.SAFE.SCLS p)
     let ipk := s.get (GAF.CLS.IPK k)
     -- R375: in RUN, with the spacing over, a start that fits is granted: the ledger takes IPK, and the port runs
     (∀ prio raised : Nat, s.gafQueue = [⟨true, 32 + p, prio, raised, false, 0⟩] → s.get ETH.SLSTATE.STATE = 3 → s.zoneSpaced = true →
       s.zoneC + 10 * ipk ≤ s.izEff → s.get (GP.STATUS.STATE p) = 1 → s.zoneC + 10 * ipk < 2 ^ GAF.ZLEDGER.COMMIT.w →
       Ends .zoneGrant s (fun t => t.starts = s.starts ++ [⟨p, ipk, s.get (GAF.CLS.IRUN k),
           s.t + max 1 (s.get (GAF.CLS.DUR k)) * 1500000, false⟩] ∧ t.gafQueue = [] ∧ t.get GAF.ZLEDGER.COMMIT = s.zoneC + 10 * ipk ∧
         t.get GAF.ZLAST.PORT = p.val ∧ t.get (GP.STATUS.STATE p) = 2)) ∧
     -- R375: one that does not fit waits while a start is in progress
     (∀ x : Start, s.starts = [x] → x.excess = false → ∀ prio raised : Nat, s.gafQueue = [⟨true, 32 + p, prio, raised, false, 0⟩] →
       s.izEff < s.zoneC + 10 * ipk → exec .zoneGrant s = .next s) ∧
     -- R374: DUR ms later the start counts with IRUN
     (∀ x : Start, s.starts = [x] → x.port = p.val → x.excess = false → 10 * x.irun < 2 ^ GAF.ZLEDGER.COMMIT.w →
       Ends (.startEnd p) s (fun t => t.starts = [{ x with excess := true }] ∧ t.get GAF.ZLEDGER.COMMIT = 10 * x.irun ∧
         (s.tcRun = true → s.t < x.endAt → x.endAt < 2 ^ 64 → t.t = x.endAt))) ∧
     -- R376: a used sensor grows stale and is told once
     (∀ n : Fin 4, s.get (GAF.ZTEMP.USED n) = 1 → s.gaf.told = [] → s.get GAF.ZTHERM.MAXAGE < s.get (GAF.ZTEMP.AGE n) →
       Ends (.thermStale n) s (fun t => t.gaf.told = [n.val] ∧ t.reports = s.reports ++ [⟨.thermStale, 0, n, false⟩] ∧
         t.get GAF.STATUS.STALE = 1)))

/-- R356 to R364, R370, R380, R438: Supply, resets and whole-device sleep. That every word from 0x0050_0000 up, DDR4 with them,
reads 0 at the reset itself is the model's choice (log entries 4 and 71). -/
def Obligations.SupplyAndResets : Prop :=
  ∀ s : State,
    let gone (t : State) : Prop := t.boot.due = none ∧ t.power.sleep = 0 ∧ t.portWrites = [] ∧ t.starts = [] ∧
      (∀ a, 0x500000 ≤ a → t.rd a = 0) ∧ t.flash.now = none ∧ ∀ p : Fin 96, t.get (GP.SAFE.SAFE p) = s.get (GP.SAFE.SAFE p)
    let cut (t : State) : Prop := t.get PORTS.CUTSTAT.SUV = 1 ∧ t.get PORTS.CUTSTAT.LATCH = 1 ∧
      ∀ p : Fin 96, t.get (GP.STATUS.HCUT p) = 1
    (s.get PORTS.CUTSTAT.SUV = 0 → s.get PORTS.CUTSTAT.LATCH = 0 → Ends (.supplyDetect 0) s (fun t => cut t ∧ t.power.uv = true ∧
      t.get GAF.SUPSTAT.UVRST = 1 ∧ t.cut.first = 3)) ∧
    (∀ c : Fin 4, c ≠ 0 → s.get PORTS.CUTSTAT.SUV = 0 → s.get PORTS.CUTSTAT.LATCH = 0 → Ends (.supplyDetect c) s (fun t => cut t ∧
      (c.val - 1) ∈ t.power.rails ∧ t.get GAF.SUPSTAT.RAILRST = 1 ∧ t.get GAF.SUPSTAT.RAIL = c.val - 1)) ∧
    (s.power.off = false → s.power.uv = true → Ends .logicReset s (fun t => gone t ∧ t.power.off = true ∧ t.power.uv = true)) ∧
    Ends .vmidLow s (fun t => gone t ∧ t.power.off = true ∧ 3 ∈ t.power.rails ∧ t.get GAF.SUPSTAT.RAILRST = 1 ∧
      t.get GAF.SUPSTAT.RAIL = 3) ∧
    (s.power = ⟨true, true, [], false, false, 0, false⟩ → Writes (.vinRise true) s [(PORTS.CUTSTAT.SUV, 0)] (fun u =>
      (u.setPower PowerSt.atReset).setBoot { u.boot with due := some (false, 2) })) ∧
    (s.get GAF.STATUS.VINHI = 0 → Writes .vinHigh s [(GAF.STATUS.VINHI, 1)]
      (fun u => u.setReports (u.reports ++ [⟨.vinHigh, 0, 0, false⟩]))) ∧
    (s.rushes = [] → Writes .railVddq s [(DDR.STATUS.STATE, 3), (DDR.STATUS.REGIONS, 0)]
      (fun u => u.setReports (u.reports ++ [⟨.railVddq, 0, 0, false⟩]))) ∧
    Ends .tjShutdown s (fun t => gone t ∧ t.power.tj = true ∧ t.get GAF.SUPSTAT.TJRST = 1 ∧ t.get PORTS.CUTSTAT.LATCH = 1) ∧
    (s.power = ⟨false, false, [], true, false, 0, false⟩ → Writes .tjRelease s [] (fun u =>
      (u.setPower PowerSt.atReset).setBoot { u.boot with due := some (false, 4) })) ∧
    (s.power = PowerSt.atReset → Ends .resetPin s (fun t => t.boot.due = some (false, 1) ∧ t.power = PowerSt.atReset ∧
      (∀ a, 0x500000 ≤ a → t.rd a = 0) ∧ t.get PORTS.CUTSTAT.LATCH = s.get PORTS.CUTSTAT.LATCH ∧
      ∀ p : Fin 96, t.get (GP.SAFE.SAFE p) = s.get (GP.SAFE.SAFE p))) ∧
    Ends .viosLoss s (fun t => gone t ∧ t.power.vios = true) ∧
    (s.power = ⟨false, false, [], false, true, 0, false⟩ → Writes .viosReturn s [] (fun u =>
      (u.setPower PowerSt.atReset).setBoot { u.boot with due := some (false, 1) })) ∧
    -- R370: one WAKE input that WAKEN enables ends a sleep with retention
    (∀ w : BitVec 4, s.power.sleep = 1 → w.toNat &&& s.get GAF.SLEEPCFG.WAKEN ≠ 0 → Writes (.sleepWake w false false) s
      [(GAF.SLEEPST.WAKE, w.toNat &&& s.get GAF.SLEEPCFG.WAKEN), (GAF.SLEEPST.CAN, 0), (GAF.SLEEPST.TIMER, 0)]
      (fun u => (u.setPower { u.power with sleep := 0 }).setBoot { u.boot with due := some (true, 10), black := false }))

/-- R54 to R62, R64, R65: Enabling, disabling and triggering a sample set, and writing a slot. From a trigger to the results of a set,
and self-calibration. That a disable drops the conversions under way (log entry 27), that a GO or a trigger is dropped while IS12
waits for a sync word (log entries 134 and 136), and which set a trigger is for (log entry 162), is the model's choice. -/
def Obligations.SampleSets : Prop :=
  (∀ (s : State) (a : Owner) (n : Fin 32), s.Settled a → a ≠ 0 → s.get (ISL.STAT.STATE 12) = 0 →
     let ok (u : State) : State := u.setBus ⟨a.toNat, .ok, 0, 0⟩
     -- R54, R55: one slot with a free core and a free single-ended input; GO clear
     (∀ (k : Fin 16) (v : Word), v.toNat % 4 = 1 → s.get (SS.CTRL.OWNER n) = 0 → s.get (SS.CTRL.EN n) = 0 →
       s.get SAMP.STATUS.CALBUSY = 0 → s.slots n = [k.val] → s.get (SS.SLOT.DIFF n k) = 0 →
       s.get (SYS.CLM.OWNER (0x400 + s.get (SS.SLOT.AIN n k))) = 0 →
       s.get (SYS.CLM.OWNER (0x500 + s.get (SS.SLOT.CORE n k))) = 0 →
       Ends (.ssEnable a n v) s (fun t => t.get (SS.CTRL.EN n) = 1 ∧ t.get (SS.CTRL.OWNER n) = a.toNat ∧
         t.get (SYS.CLM.OWNER (0x400 + s.get (SS.SLOT.AIN n k))) = a.toNat ∧
         t.get (SYS.CLM.OWNER (0x500 + s.get (SS.SLOT.CORE n k))) = a.toNat ∧
         t.get (SYS.CLM.FEATURE (0x500 + s.get (SS.SLOT.CORE n k))) = 0x200 + n ∧ t.get (SYS.FST.STATE (0x200 + n)) = 1 ∧
         t.get (SS.STAT.OVCNT n) = 0 ∧ t.get (SS.CTRL.OFFSET n) = v.toNat / 2 ^ 14 % 2 ^ 14 ∧ t.bus = ⟨a.toNat, .ok, 0, 0⟩)) ∧
     -- R54: two enabled slots name one core
     (∀ c : Nat, s.coreTwice? n = some c → ∀ v : Word, v.toNat % 4 = 1 → s.get (SS.CTRL.OWNER n) = 0 →
       s.get (SS.CTRL.EN n) = 0 → s.get SAMP.STATUS.CALBUSY = 0 →
       Ends (.ssEnable a n v) s (fun t => t.get (SS.CTRL.EN n) = 0 ∧ t.get (SYS.FST.STATE (0x200 + n)) = 2 ∧
         t.get (SYS.FST.CRES (0x200 + n)) = 0x500 + c ∧ t.get (SYS.FST.HOLDER (0x200 + n)) = 0x200 + n)) ∧
     -- R33, R55: the owner clears EN; what was under way is gone
     (∀ v : Word, v.toNat % 4 = 0 → s.get (SS.CTRL.OWNER n) = a.toNat → s.get (SS.CTRL.EN n) = 1 →
       Ends (.ssDisable a n v) s (fun t => t.get (SS.CTRL.EN n) = 0 ∧ t.get (SS.CTRL.OWNER n) = 0 ∧
         t.get (SYS.FST.STATE (0x200 + n)) = 0 ∧ t.get (SS.STAT.PEND n) = 0 ∧ t.get (SS.STAT.BUSY n) = 0 ∧
         (t.sampSet n).wait = [] ∧ (t.sampSet n).acq = none ∧ (t.sampSet n).done = [])) ∧
     -- R57, R58: GO by the owner of an enabled set that waits for nothing
     (∀ v : Word, v.toNat % 4 = 3 → v.toNat / 2 ^ 28 % 2 ^ 8 = 0 → s.get (SS.CTRL.OWNER n) = a.toNat →
       s.get (SS.CTRL.EN n) = 1 → s.unsynced 12 = true →
       Ends (.ssGo a n v) s (fun t => t.get (SS.STAT.PEND n) = s.get (SS.STAT.PEND n) ∧ (t.sampSet n).wait = (s.sampSet n).wait ∧
         t.bus = ⟨a.toNat, .ok, 0, 0⟩)) ∧
     (∀ v : Word, v.toNat % 4 = 3 → v.toNat / 2 ^ 28 % 2 ^ 8 = 0 → s.get (SS.CTRL.OWNER n) = a.toNat →
       s.get (SS.CTRL.EN n) = 1 → s.unsynced 12 = false → (s.sampSet n).last = none →
       Ends (.ssGo a n v) s (fun t => t.get (SS.STAT.PEND n) = 1 ∧ t.get (SS.STAT.WAIT n) = 0 ∧
         (t.sampSet n).wait = (s.sampSet n).wait ++ [⟨s.t + max 24 (v.toNat / 2 ^ 14 % 2 ^ 14), s.get (SS.DEST.ENG n)⟩] ∧
         t.bus = ⟨a.toNat, .ok, 0, 0⟩)) ∧
     -- R56: a slot is written while EN is 0, and only then
     (∀ (k : Fin 16) (v : Word), s.get (SS.CTRL.EN n) = 0 →
       Writes (.ssSlotWrite a n k v) s [(SS.SLOT.EN n k, v.toNat / 2 ^ (SS.SLOT.EN n k).lo % 2),
         (SS.SLOT.CORE n k, v.toNat / 2 ^ (SS.SLOT.CORE n k).lo % 2 ^ (SS.SLOT.CORE n k).w),
         (SS.SLOT.AIN n k, v.toNat / 2 ^ (SS.SLOT.AIN n k).lo % 2 ^ (SS.SLOT.AIN n k).w),
         (SS.SLOT.DIFF n k, v.toNat / 2 ^ (SS.SLOT.DIFF n k).lo % 2),
         (SS.SLOT.GAIN n k, v.toNat / 2 ^ (SS.SLOT.GAIN n k).lo % 2 ^ (SS.SLOT.GAIN n k).w),
         (SS.SLOT.FMT n k, v.toNat / 2 ^ (SS.SLOT.FMT n k).lo % 2)] ok) ∧
     (∀ (k : Fin 16) (v : Word), s.get (SS.CTRL.EN n) = 1 → Writes (.ssSlotWrite a n k v) s [(SS.STAT.WREJ n, 1)] ok)) ∧
  (∀ (s : State) (n : Fin 32),
     -- R57: a timecode compare that fires sends a trigger to an enabled set that selects it
     (∀ k : Fin 16, s.get (TC.CTRL.EN k) = 1 → s.tcRun = true → s.get (SS.CTRL.EN n) = 1 → s.get (SS.CTRL.SRC n) = 2 →
       s.get (SS.CTRL.SRCNUM n) = k.val → Ends (.tcFire k) s (fun t => ∃ e ∈ t.trigAt, e.src = trigKeyTc k ∧
         e.at_ = s.tcCmp k ∧ t.trigFor n e = true)) ∧
     -- R56, R57, R58, R60: the oldest trigger of the source that a set selects now reaches IS12
     (∀ (pre rest : List TrigFly) (e : TrigFly), s.trigAt = pre ++ e :: rest → (∀ x ∈ pre, s.trigFor n x = false) →
       s.trigFor n e = true → s.unsynced 12 = false → s.get (SS.CTRL.EN n) = 1 →
       let A := e.at_ + max 24 (s.get (SS.CTRL.OFFSET n))
       let past (u : State) : State := u.setTrigAt (pre ++ { e with seen := n.val :: e.seen } :: rest)
       ((∀ l ∈ (s.sampSet n).last, l + 75 ≤ A) →
         Writes (.ssTrigger n) s [(SS.STAT.WAIT n, 0), (SS.STAT.PEND n, 1)] (fun u => (past u).putSampSet n
           { u.sampSet n with wait := (u.sampSet n).wait ++ [⟨A, u.get (SS.DEST.ENG n)⟩], last := some A })) ∧
       -- R60: too soon, and none pending: the aperture moves
       (∀ l : Nat, (s.sampSet n).last = some l → A < l + 75 → (s.sampSet n).wait = [] → l + 75 - A < 2 ^ (SS.STAT.WAIT n).w →
         Writes (.ssTrigger n) s [(SS.STAT.WAIT n, l + 75 - A), (SS.STAT.PEND n, 1)] (fun u => (past u).putSampSet n
           { u.sampSet n with wait := [⟨l + 75, u.get (SS.DEST.ENG n)⟩], last := some (l + 75) })) ∧
       (∀ l : Nat, (s.sampSet n).last = some l → A < l + 75 → (s.sampSet n).wait ≠ [] →
         Writes (.ssTrigger n) s [(SS.STAT.OVRUN n, 1), (SS.STAT.OVCNT n, min (s.get (SS.STAT.OVCNT n) + 1) 255)]
           past)) ∧
     -- R59: acquisition, the aperture's end, conversion
     (∀ (tr : Trig) (rest : List Trig), (s.sampSet n).wait = tr :: rest → (s.sampSet n).acq = none →
       WritesFrom (s.advanceTo (tr.ap - 15)) (.acquisitionStart n) s
         [(SS.STAT.BUSY n, 1), (SS.STAT.PEND n, if rest = [] then 0 else 1)]
         (fun u => u.putSampSet n { u.sampSet n with wait := rest, acq := some ⟨tr, false⟩, begun := some tr.ap })) ∧
     (∀ tr : Trig, (s.sampSet n).acq = some ⟨tr, false⟩ →
       WritesFrom (s.advanceTo tr.ap) (.apertureEnd n) s [(SS.STAMP.STAMP n, tr.ap % 2 ^ 36)]
         (fun u => u.putSampSet n { u.sampSet n with acq := some ⟨tr, true⟩ })) ∧
     (∀ tr : Trig, (s.sampSet n).acq = some ⟨tr, true⟩ → ∀ (raw : List (BitVec 18)) (out : BitVec 16), raw.length = 16 →
       WritesFrom (s.advanceTo (tr.ap + 60)) (.conversionEnd n raw out) s [(SS.STAT.BUSY n, 0)]
         (fun u => u.putSampSet n { u.sampSet n with acq := none, done := (u.sampSet n).done ++
           [(tr, (s.slots n).map (fun k => slotResult n k (sgn 18 (raw.getD k 0).toNat) (bitOf out.toNat k) s))] })) ∧
     -- R59, R62: one slot's result reaches its register and the engine that DEST names
     (∀ (tr : Trig) (r : SlotRes), (s.sampSet n).done = [(tr, [r])] → ∀ e : Fin 24, tr.dest = 2 ^ e.val → r.slot < 16 →
       r.val < 2 ^ 16 → r.ain < 64 → r.gain < 4 → s.rushes = [] →
       Ends (.setComplete n) s (fun t =>
         let q := (s.get (SS.STAT.SEQ n) + 1) % 256
         t.get (SS.STAT.SEQ n) = q ∧ t.get (SS.RES.SEQ n r.slot) = q ∧ t.get (SS.RES.VALUE n r.slot) = r.val ∧
           t.get (SS.RES.AIN n r.slot) = r.ain ∧ t.get (SS.RES.GAIN n r.slot) = r.gain ∧
           t.engInput e n 16 = tr.ap % 2 ^ 36 ∧ t.engInput e n r.slot = t.resWord n r.slot ∧ (t.sampSet n).done = [] ∧
           t.events = s.events ++ [⟨32 + n, some (tr.ap % 2 ^ 36), []⟩])) ∧
     -- R65: self-calibration starts while no set is enabled, and takes 1,800,000 ticks
     (∀ a : Owner, s.Settled a → s.get (ISL.STAT.STATE 12) = 0 → s.get SAMP.STATUS.CALBUSY = 0 → (∀ m : Fin 32, s.get (SS.CTRL.EN m) = 0) →
       Writes (.calgo a) s [(SAMP.STATUS.CALBUSY, 1)] (fun u => (u.setCalEnd (u.t + 1800000)).setBus ⟨a.toNat, .ok, 0, 0⟩)) ∧
     (∀ a : Owner, s.Settled a → s.get (ISL.STAT.STATE 12) = 0 → s.get (SS.CTRL.EN n) = 1 →
       Writes (.calgo a) s [(SAMP.STATUS.CALREF, 1)] (fun u => u.setBus ⟨a.toNat, .ok, 0, 0⟩)) ∧
     (∀ tj : BitVec 12, s.get SAMP.STATUS.CALBUSY = 1 → WritesFrom (s.advanceTo s.calEnd) (.calDone tj) s
       [(SAMP.STATUS.CALBUSY, 0), (SAMP.STATUS.CALOK, 1), (SAMP.CAL.CALTEMP, tj.toNat), (SAMP.CAL.CALAGE, 0)]
       (fun u => u.setCalGen (u.calGen + 1))) ∧
     Writes .calageMinute s [(SAMP.CAL.CALAGE, min (s.get SAMP.CAL.CALAGE + 1) 4095)] id)

/-- R66 to R74, R54, R55, R68, R74: Comparators. The trip of a comparator drives the port groups of its map: every ball of such a
group is held at its safe level. Comparators are enabled, disabled and written by their owner. The DAC's offset without a valid trim
set (log entry 138), one filter count for both conditions (log entry 107), a trip that the clearing of EN ends without a gate (log
entry 137), and a blank window that opens at the tick its edge lies in (log entry 164), are the model's choice. -/
def Obligations.Comparators : Prop :=
  (∀ (s : State) (n : Fin 32),
     let c := s.cmp n
     let drives (m : Nat) (t : State) : Prop := ∀ g : Fin 12, bitOf m g = true → t.get (PG.GSTAT.TRIP g) = 1 ∧ ∀ k < 8,
       t.get (GP.STATUS.HTRIP (8 * g + k)) = 1 ∧ t.get (GP.STATUS.SAFED (8 * g + k)) = 1
     -- R66: the threshold that reaches the DAC
     let T : Int := sgn 16 (s.get (CMP.THR.THH n)) + s.dacOff n
     -- R67: a condition rises above THH, its filter count starts now
     (∀ x : Int, s.get (CMP.CTRL.EN n) = 1 → s.get (CMP.CTRL.HIEN n) = 1 → c.quiet ≤ s.t → c.thrAt ≤ s.t →
       T < x → c.hi = false → c.lo = false →
       Writes (.cmpCondition n true x) s [] (fun u => u.putCmp n { u.cmp n with hi := true, since := u.t, hiAt := (T, T) })) ∧
     -- R67: without a trip it ends at the threshold itself
     (∀ x : Int, c.thrAt ≤ s.t → x ≤ T → c.hiTrip = false → s.get (CMP.STATUS.LIVE n) = 0 →
       Writes (.cmpConditionClear n true x) s [] (fun u => u.putCmp n { u.cmp n with hi := false, hiAt := (T, T) })) ∧
     -- R67: a condition that has tripped ends only below the hysteresis
     (∀ x : Int, c.thrAt ≤ s.t → c.hiTrip = true → T - 8 * (s.get (CMP.BLANK.HYST n) : Int) < x →
       exec (.cmpConditionClear n true x) s = .next s) ∧
     -- R69: blanking
     (∀ e : Nat × Bool × Nat, (s.port (s.get (CMP.BLANK.BPORT n))).edges = [e] → s.get (CMP.BLANK.BPORT n) < 96 →
       s.get (CMP.BLANK.BEDGE n) = 3 → s.unsynced (12 + n / 8) = false →
       (c.opened.1 < max (e.1 / 64) (e.2.2 + 6) ∨ c.opened.1 = max (e.1 / 64) (e.2.2 + 6) ∧ c.opened.2 < e.1) → s.t ≤ max (e.1 / 64) (e.2.2 + 6) →
       max (e.1 / 64) (e.2.2 + 6) < e.1 / 64 + s.get (CMP.BLANK.BLEN n) → s.get (CMP.STATUS.BLANKING n) = 0 →
       WritesFrom (s.advanceTo (max (e.1 / 64) (e.2.2 + 6))) (.blankOpen n) s [(CMP.STATUS.BLANKING n, 1)]
         (fun u => u.putCmp n { u.cmp n with opened := (max (e.1 / 64) (e.2.2 + 6), e.1), blank := e.1 / 64 + s.get (CMP.BLANK.BLEN n) })) ∧
     (s.get (CMP.STATUS.BLANKING n) = 1 → WritesFrom (s.advanceTo c.blank) (.blankClose n) s [(CMP.STATUS.BLANKING n, 0)]
       (fun u => u.putCmp n { u.cmp n with since := max c.since c.blank })) ∧
     -- R70 to R72: a LATCH trip
     (s.get (CMP.CTRL.EN n) = 1 → c.hi = true → s.get (CMP.STATUS.BLANKING n) = 0 → s.get (CMP.STATUS.LIVE n) = 0 →
       s.get (CMP.CTRL.MODE n) = 0 → s.unsynced (12 + n / 8) = false →
       Ends (.tripAssert n) s (fun t => t.get (CMP.STATUS.LIVE n) = 1 ∧ t.get (CMP.STATUS.HI n) = 1 ∧
         t.get (CMP.STATUS.TRIPCNT n) = min (s.get (CMP.STATUS.TRIPCNT n) + 1) (2 ^ (CMP.STATUS.TRIPCNT n).w - 1) ∧
         (t.cmp n).lanes = s.get (CMP.CTRL.TRIPMAP n) ∧ drives (s.get (CMP.CTRL.TRIPMAP n)) t ∧
         t.get (CMP.STAMP.STAMP n) = t.t % 2 ^ 36 ∧ ∀ g : Fin 12, bitOf (s.get (CMP.CTRL.TRIPMAP n)) g = true →
           t.get (PG.GSTAT.TRIPL g) = 1 ∧ ∀ k < 8, t.get (GP.STATUS.HLATCH (8 * g + k)) = 1)) ∧
     -- R73: the gates let the groups go
     (∀ (g : Fin 12) (at_ : Nat), c.gates = [(g.val, at_)] → s.groupTripped g = false → Tab.rising 0 s.cmps = true →
       (∀ e ∈ s.cmps, e.1 ≠ n.val → ∀ x ∈ e.2.gates, x.1 ≠ g.val) →
       Ends (.cycleGateRelease n) s (fun t => (t.cmp n).gates = [] ∧ t.get (PG.GSTAT.TRIP g) = 0 ∧
         ∀ k < 8, t.get (GP.STATUS.HTRIP (8 * g + k)) = 0))) ∧
  (∀ (s : State) (a : Owner) (n : Fin 32), s.Settled a → a ≠ 0 → s.get (ISL.STAT.STATE (12 + n / 8)) = 0 →
     (∀ v : Word, v.toNat % 2 = 1 → s.get (CMP.CTRL.OWNER n) = 0 → s.get (CMP.CTRL.EN n) = 0 →
       Writes (.cmpEnable a n v) s [(CMP.CTRL.TRIPMAP n, v.toNat / 2 ^ 16 % 2 ^ 12), (CMP.CTRL.FILT n, v.toNat / 2 ^ 10 % 2 ^ 6),
         (CMP.CTRL.MODE n, v.toNat / 2 ^ 9 % 2), (CMP.CTRL.EVEN n, v.toNat / 2 ^ 8 % 2), (CMP.CTRL.HIEN n, v.toNat / 2 ^ 7 % 2),
         (CMP.CTRL.LOEN n, v.toNat / 2 ^ 6 % 2), (CMP.CTRL.EN n, 1), (CMP.CTRL.OWNER n, a.toNat), (CMP.STATUS.TRIPCNT n, 0),
         (SYS.FST.STATE (0x220 + n), 1), (SYS.FST.CRES (0x220 + n), 0), (SYS.FST.HOLDER (0x220 + n), 0)]
         (fun u => (u.putCmp n { u.cmp n with hi := false, lo := false, hiTrip := false, loTrip := false, quiet := u.t + 30 }).setBus ⟨a.toNat, .ok, 0, 0⟩)) ∧
     (∀ v : Word, v.toNat % 2 = 0 → s.get (CMP.CTRL.OWNER n) = a.toNat → s.get (CMP.CTRL.EN n) = 1 →
       Ends (.cmpDisable a n v) s (fun t => t.get (CMP.CTRL.EN n) = 0 ∧ t.get (CMP.CTRL.OWNER n) = 0 ∧
         t.get (CMP.STATUS.LIVE n) = 0 ∧ (t.cmp n).hi = false ∧ (t.cmp n).lo = false ∧
         (t.cmp n).lanes &&& (s.cmp n).lanes &&& 0xFFF = 0 ∧ t.bus = ⟨a.toNat, .ok, 0, 0⟩)) ∧
     (∀ v : Word, s.get (CMP.CTRL.OWNER n) = a.toNat →
       Writes (.cmpThrWrite a n v) s [(CMP.THR.THH n, v.toNat / 2 ^ (CMP.THR.THH n).lo % 2 ^ 16),
         (CMP.THR.THL n, v.toNat / 2 ^ (CMP.THR.THL n).lo % 2 ^ 16)]
         (fun u => (u.putCmp n { u.cmp n with hiAt := u.hiStand n, loAt := u.loStand n, thrAt := u.t + 30 }).setBus
           ⟨a.toNat, .ok, 0, 0⟩)) ∧
     (∀ v : Word, s.get (CMP.CTRL.OWNER n) = a.toNat → s.get (CMP.CTRL.EN n) = 1 → s.get (CMP.STATUS.LIVE n) = 0 →
       v.toNat / 2 ^ 28 % 2 ^ 8 = 0 →
       Writes (.cmpMapWrite a n v) s [(CMP.CTRL.TRIPMAP n, v.toNat / 2 ^ 16 % 2 ^ 12), (CMP.CTRL.FILT n, v.toNat / 2 ^ 10 % 2 ^ 6),
         (CMP.CTRL.MODE n, v.toNat / 2 ^ 9 % 2), (CMP.CTRL.EVEN n, v.toNat / 2 ^ 8 % 2), (CMP.CTRL.HIEN n, v.toNat / 2 ^ 7 % 2),
         (CMP.CTRL.LOEN n, v.toNat / 2 ^ 6 % 2)]
         (fun u => (u.putCmp n { u.cmp n with hi := (u.cmp n).hi && bitOf v.toNat 7, lo := (u.cmp n).lo && bitOf v.toNat 6, hiTrip := (u.cmp n).hiTrip && bitOf v.toNat 7, loTrip := (u.cmp n).loTrip && bitOf v.toNat 6 }).setBus
           ⟨a.toNat, .ok, 0, 0⟩)) ∧
     (∀ v : Word, s.get (CMP.CTRL.OWNER n) ≠ 0 → s.get (CMP.CTRL.OWNER n) ≠ a.toNat →
       Writes (.cmpMapWrite a n v) s [] (fun u => u.setBus ⟨a.toNat, .busOwn, 0, 0⟩)))

/-- R75 to R85, R93 to R99, R86 to R92, R97: Counts of a position channel, its registers, speed without counts, and encoder emulation.
Frames of SENT and BiSS-C, the resolver, and the loss of a signal. The nibbles and the CRC of a SENT frame (log entry 21), the shorter
way of an unwrapped position and the limits of its widths (log entry 22), how the tracker's error is formed and which of two counts a
read between them gives (log entry 23), the ticks from which SENT and BiSS frames and their timeouts count (log entries 110 and 141),
what an enable of an encoder emulation clears (log entry 169), and a decaying speed rounded down (log entry 170), are the model's
choice. -/
def Obligations.Position : Prop :=
  (∀ (s : State) (n : Fin 16),
     let c := s.pf n
     let pos := sgn 36 (s.get (PF.POS.POS n))
     let running := s.get (PF.CTRL.EN n) = 1 ∧ s.get (PF.STATUS.VALID n) = 1
     let moved (d : Int) (t : State) : Prop := t.get (PF.POS.POS n) = unsgn 36 (pos + d) ∧
       (t.pf n).stamp = s.t - (s.filterLen n - 1) ∧ (t.pf n).dir = decide (d < 0) ∧ (t.pf n).stopped = false
     let lines (a b z : Bool) (t : State) : Prop := (t.pf n).a = a ∧ (t.pf n).b = b ∧ (t.pf n).z = z
     -- R80: quadrature counts every edge of A and B: A leading B counts up
     (s.unsynced 16 = false → running → s.get (PF.CTRL.SRC n) = 0 → s.get (PF.CFG.QMODE n) = 0 → s.get (PF.CFG.DIRINV n) = 0 →
       s.get (PF.CTRL.IXMODE n) = 0 →
       (∀ a z : Bool, c.a ≠ a → Ends (.lineEdgeAccept n a c.b z) s (fun t => moved (if a ≠ c.b then 1 else -1) t ∧ lines a c.b z t)) ∧
       (∀ b z : Bool, c.b ≠ b → Ends (.lineEdgeAccept n c.a b z) s (fun t => moved (if b = c.a then 1 else -1) t ∧ lines c.a b z t)) ∧
       (∀ a b z : Bool, c.a ≠ a → c.b ≠ b → Writes (.lineEdgeAccept n a b z) s [(PF.STATUS.QUADILL n, 1), (PF.STATUS.PFAULT n, 1)]
         (fun u => (u.putPf n { u.pf n with a := a, b := b, z := z }).setReports (u.reports ++ [⟨.quadIllegal, elFeedback n, 0, false⟩])))) ∧
     -- R85: Hall, one sector up
     (s.unsynced 16 = false → running → s.get (PF.CTRL.SRC n) = 1 → s.get (PF.CFG.DIRINV n) = 0 →
       ∀ k : Nat, c.sector = some k → k < 6 → ∀ a b z : Bool,
       s.hallSector n ((if a then 4 else 0) + (if b then 2 else 0) + (if z then 1 else 0)) = some ((k + 1) % 6) →
       Ends (.lineEdgeAccept n a b z) s (fun t => moved 1 t ∧ lines a b z t ∧ (t.pf n).sector = some ((k + 1) % 6))) ∧
     -- R75, R79: enabling a quadrature channel without index, its balls free
     (∀ (ow : Owner) (v : Word) (a b z : Bool), s.Settled ow → ow ≠ 0 → s.get (ISL.STAT.STATE 16) = 0 → v.toNat % 16 = 1 → v.toNat / 2 ^ 26 % 4 = 0 →
       s.get (PF.CTRL.EN n) = 0 → s.get (PF.CTRL.OWNER n) = 0 → s.get (SYS.CLM.OWNER (0x200 + 4 * n)) = 0 →
       s.get (SYS.CLM.OWNER (0x201 + 4 * n)) = 0 →
       Ends (.pfEnable ow n v a b z) s (fun t => t.get (PF.CTRL.EN n) = 1 ∧ t.get (PF.CTRL.OWNER n) = ow.toNat ∧
         t.get (PF.STATUS.VALID n) = 1 ∧ t.get (SYS.CLM.OWNER (0x200 + 4 * n)) = ow.toNat ∧
         t.get (SYS.CLM.OWNER (0x201 + 4 * n)) = ow.toNat ∧ t.get (SYS.CLM.FEATURE (0x200 + 4 * n)) = 0x100 + n ∧
         t.get (SYS.FST.STATE (0x100 + n)) = 1 ∧ t.get (PF.POS.POS n) = s.get (PF.POS.POS n) ∧ lines a b z t ∧
         t.bus = ⟨ow.toNat, .ok, 0, 0⟩)) ∧
     -- R33: the owner turns it off
     (∀ (ow : Owner) (v : Word), s.Settled ow → ow ≠ 0 → s.get (ISL.STAT.STATE 16) = 0 → v.toNat % 2 = 0 → s.get (PF.CTRL.EN n) = 1 →
       s.get (PF.CTRL.OWNER n) = ow.toNat → Ends (.pfDisable ow n v) s (fun t => t.get (PF.CTRL.EN n) = 0 ∧
         t.get (PF.CTRL.OWNER n) = 0 ∧ t.get (PF.STATUS.VALID n) = 0 ∧ t.get (SYS.FST.STATE (0x100 + n)) = 0 ∧
         t.get (PF.POS.POS n) = s.get (PF.POS.POS n) ∧ t.bus = ⟨ow.toNat, .ok, 0, 0⟩)) ∧
     -- R78: a read of POS shows the values of its tick
     (∀ ow : Owner, s.Settled ow → s.get (ISL.STAT.STATE 16) = 0 → s.get (PF.CTRL.SRC n) ≠ 2 → c.turns < 2 ^ 16 → c.stamp < 2 ^ 36 →
       Writes (.posRead ow n) s [(PF.ANGLE.TURNS n, if s.get (PF.CPR.CPR n) = 0 then 0 else c.turns), (PF.SPD.SPD n, unsgn 36 c.spd), (PF.STAMP.STAMP n, c.stamp),
         (PF.STATUS.DIR n, bit c.dir), (PF.STATUS.DIRCHG n, bit c.dirchg), (PF.STATUS.STOPPED n, bit c.stopped),
         (PF.ANGLE.ANGLE n, angleOf pos (s.get (PF.CPR.CPR n)))]
         (fun u => (u.putPf n { u.pf n with latched := true }).setBus ⟨ow.toNat, .ok, 0, unsgn 36 pos⟩)) ∧
     -- R94: without counts the speed falls to 2^32 over the time passed, and stops
     (∀ iv : Nat, c.interval = some iv → running → s.get (PF.CTRL.SRC n) ≠ 2 → c.stopped = false → s.t ≤ c.lastAt + iv →
       WritesFrom (s.advanceTo (c.lastAt + iv + 64)) (.speedDecay n) s [] (fun u => u.putPf n { c with
         spd := clampInt (-((2 ^ 32 / (iv + 64) : Nat) : Int)) ((2 ^ 32 / (iv + 64) : Nat) : Int) c.spd })) ∧
     (running → s.get (PF.CTRL.SRC n) ≠ 2 → c.stopped = false →
       WritesFrom (s.advanceTo (c.lastAt + 4096 * s.get (PF.CFG.ZEROT n) + 1)) (.speedStop n) s []
         (fun u => u.putPf n { c with spd := 0, stopped := true, pts := c.pts.take 1 })) ∧
     -- R98: emulation: enable and one step up
     (∀ (ow : Owner) (k : Fin 4) (v : Word), s.Settled ow → ow ≠ 0 → s.get (ISL.STAT.STATE 16) = 0 → v.toNat % 2 = 1 →
       s.get (EMU.CTRL.EN k) = 0 → s.get (EMU.CTRL.OWNER k) = 0 → s.get (SYS.CLM.OWNER (0x158 + 2 * k)) = 0 →
       s.get (SYS.CLM.OWNER (0x159 + 2 * k)) = 0 → Ends (.emuEnable ow k v) s (fun t => t.get (EMU.CTRL.EN k) = 1 ∧
         t.get (EMU.CTRL.OWNER k) = ow.toNat ∧ t.get (EMU.CTRL.SRCCH k) = v.toNat / 2 ^ 24 % 16 ∧
         t.get (SYS.CLM.OWNER (0x158 + 2 * k)) = ow.toNat ∧ t.get (SYS.CLM.OWNER (0x159 + 2 * k)) = ow.toNat ∧
         (t.emu k).backlog = 0 ∧ t.bus = ⟨ow.toNat, .ok, 0, 0⟩)) ∧
     (∀ k : Fin 4, s.get (EMU.CTRL.EN k) = 1 → s.get (EMU.STATUS.ACTIVE k) = 1 → 0 < (s.emu k).backlog →
       Ends (.emuStep k) s (fun t => (t.emu k).backlog = (s.emu k).backlog - 1 ∧ (t.emu k).phase = ((s.emu k).phase + 1) % 4 ∧
         t.get (EMU.STATUS.ACTIVE k) = (if (s.emu k).backlog = 1 then 0 else 1) ∧ SameMem s t))) ∧
  (∀ (s : State) (n : Fin 16),
     let c := s.pf n
     let pos := sgn 36 (s.get (PF.POS.POS n))
     let running := s.get (PF.CTRL.EN n) = 1 ∧ s.get (PF.STATUS.VALID n) = 1
     let nearest (w v : Nat) : Int := sgn w (unsgn w ((v : Int) - pos))
     let lost (t : State) : Prop := t.get (PF.STATUS.SIGLOST n) = 1 ∧ t.get (PF.STATUS.PFAULT n) = 1 ∧ t.get (PF.STATUS.VALID n) = 0 ∧
       t.get (PF.POS.POS n) = s.get (PF.POS.POS n)
     (∀ (cal status : Nat) (lens : List Nat) (crc : Nat) (pause : Option Nat) (start : BitVec 64), s.unsynced 16 = false → running →
       s.get (PF.CTRL.SRC n) = 3 →
       let failed : Prop := Writes (.sentFrame n cal status lens crc pause start) s [(PF.STATUS.SENTERR n, 1), (PF.STATUS.PFAULT n, 1)]
         (fun u => (u.setReports (u.reports ++ [⟨.sentError, elFeedback n, 0, false⟩])).putPf n { u.pf n with slow := [] })
       -- R91: a frame that passes every check gives a position, the nearest with these low bits: its nibbles are a status nibble,
       -- the data, and the CRC
       (∀ nibs : List Nat, nibbles? cal (status :: (lens ++ [crc])) = some nibs →
         let ds := (nibs.drop 1).dropLast
         let data := ds.foldl (fun a d => a * 16 + d) 0
         let w := s.sentBits n
         (s.sentGood n cal nibs pause.isSome = true → Ends (.sentFrame n cal status lens crc pause start) s (fun t =>
           t.get (PF.POS.POS n) = unsgn 36 (pos + nearest w (data / 2 ^ (4 * ds.length - w))) ∧
           t.get (PF.SERRAW.RAW n) = data % 2 ^ 36 ∧ (t.pf n).cal = cal ∧ (t.pf n).lastAt = start.toNat)) ∧
         (s.sentGood n cal nibs pause.isSome = false → failed)) ∧
       -- R91: a nibble of no legal length
       (nibbles? cal (status :: (lens ++ [crc])) = none → failed)) ∧
     (running → s.get (PF.CTRL.SRC n) = 3 → Ends (.sentTimeout n) s (fun t => lost t ∧
       t.reports = s.reports ++ [⟨.sigLost, elFeedback n, 0, false⟩])) ∧
     -- R92: BiSS-C
     (s.unsynced 16 = false → running → s.get (PF.CTRL.SRC n) = 4 → c.busy = false →
       WritesFrom (s.advanceTo (c.bissAt + s.get (PF.SER1.PERIOD n))) (.bissFrameStart n) s []
         (fun u => u.putPf n { u.pf n with bissAt := u.t, busy := true })) ∧
     (running → s.get (PF.CTRL.SRC n) = 4 → c.busy = true → s.bissTurns n = 0 →
       (∀ (st : Nat) (crc : BitVec 6) (delay : BitVec 16), crc.toNat = 63 - crc6 (st % 2 ^ s.bissBits n * 4 + 3) (s.bissBits n + 2) →
         Ends (.bissFrame n 0 st true true crc delay) s (fun t => (t.pf n).delay = delay.toNat ∧ t.get (PF.POS.POS n) = unsgn 36 (pos + nearest (s.bissBits n)
           (st % 2 ^ s.bissBits n)) ∧ t.get (PF.SERRAW.RAW n) = st % 2 ^ s.bissBits n)) ∧
       (∀ (st : Nat) (crc : BitVec 6) (delay : BitVec 16), crc.toNat ≠ 63 - crc6 (st % 2 ^ s.bissBits n * 4 + 3) (s.bissBits n + 2) → c.bad ≠ 7 →
         WritesFrom (s.advanceTo (s.bissEnd n + delay.toNat)) (.bissFrame n 0 st true true crc delay) s [(PF.STATUS.BISSCRC n, 1), (PF.STATUS.PFAULT n, 1)] (fun u =>
           (u.putPf n { u.pf n with bad := (u.pf n).bad + 1, busy := false, delay := delay.toNat }).setReports (u.reports ++ [⟨.bissCrc, elFeedback n, 0, false⟩]))) ∧
       (c.bad = 7 → Ends (.bissNoack n) s (fun t => lost t ∧ t.get (PF.STATUS.BISSNOACK n) = 1 ∧
         t.reports = s.reports ++ [⟨.bissNoack, elFeedback n, 0, false⟩, ⟨.sigLost, elFeedback n, 0, false⟩]))) ∧
     -- R87, R88: the resolver triggers its set for the next peak; after the set completes the tracker moves, from the position that
     -- its speed has carried to the aperture
     (s.unsynced 16 = false → running → s.get (PF.CTRL.SRC n) = 2 → Ends (.resolverTrigger n) s (fun t =>
       (t.pf n).half = s.nextHalf n + 1 ∧ t.get (PF.POS.POS n) = s.get (PF.POS.POS n))) ∧
     (∀ ap : Nat, running → s.get (PF.CTRL.SRC n) = 2 → (s.sampSet (s.get (PF.RES0.RESSET n))).full = some ap → c.upd ≠ some ap →
       let k := s.get (PF.RES0.RESSET n)
       let f : Int := if c.peaks.contains (ap, true) then -1 else 1
       let ahead := extrapolation c.spd (ap - c.lastAt)
       let e := trackNum (f * s.resCode k 0) (f * s.resCode k 1) (angleOf (pos + ahead) (2 ^ 20))
       let nom := 8 * s.get (PF.RES1.AMPNOM n)
       let step := trackShift e nom c.spd (s.trackBw n) (ap - c.lastAt)
       Ends (.resolverUpdate n) s (fun t => (t.pf n).peaks = c.peaks.filter (fun q => decide (ap < q.1)) ∧ (t.pf n).lastAt = ap ∧
         (t.pf n).upd = some ap ∧ t.get (PF.POS.POS n) = unsgn 36 (pos + (ahead + step)) ∧ (t.pf n).spd =
           clampInt (-9007199254) 9007199254 (trackSpeed e nom c.spd (s.trackBw n) (ap - c.lastAt)))))

/-- R45, R46, R153, R157 to R167, R170: What happens within the period of a running port that times its own ball: an occurrence applies its
action at its instant, the peak turns the counter, an edge held back and a dead-time rise reach the ball, an event output fires. No
other port's ball moves. At the peak and at the period start the values placed for the coming interval govern and the shadows due
load. At the period start timecode is at the start, the timing writes that came 8 ticks before it or earlier take effect, the count of
periods rises, the action of the start is applied, and a port that no hold keeps safe drives its pin again. A pair's balls: one
falls with the level, the other rises after its dead time. -/
def Obligations.PortPeriod : Prop :=
  (∀ (s : State) (p : Fin 96), s.get (GP.STATUS.STATE p) = 2 → s.get (GP.CTRL.PAIR p) = 0 →
     let b := s.port p
     let per := effPeriod (s.updown p) b.per
     let alone (T : Nat) : Prop := ∀ w ∈ b.was, w.at_ ≠ T
     let clear (T : Nat) : Prop := alone T ∧ b.merge = none ∧ ∀ l ∈ b.lastTr, l + 64 ≤ T
     let others (t : State) : Prop := ∀ q, q ≠ p.val → t.port q = s.port q
     -- R45, R46, R163: compare x at a load point: what was placed for the coming interval governs, and a shadow that is due loads
     let loads (tick : Nat) (t : State) : Prop := b.cmpF.length = 4 → b.shadow.length = 4 → b.coming.length = 4 → ∀ x : Fin 4,
       let came : Nat := match b.coming.getD x none with
         | some h => h.v
         | none => b.cmpF.getD x 0
       (t.port p).coming[x.val]? = some none ∧
       (b.shadow.getD x none = none → (t.port p).cmpF[x.val]? = some came ∧ (t.port p).shadow[x.val]? = some none) ∧
       ∀ h ∈ b.shadow.getD x none, (h.from_ ≤ tick → (t.port p).cmpF[x.val]? = some h.v ∧ (t.port p).shadow[x.val]? = some none) ∧
         (tick < h.from_ → (t.port p).cmpF[x.val]? = some came ∧ (t.port p).shadow[x.val]? = some (some h))
     -- R159, R160: an occurrence in PERIOD mode
     (∀ x : Fin 4, b.started = true → s.get (GP.CTRL.MODE p) = 0 → b.cmpF.getD x 0 < per * 64 → x.val ∉ b.fired →
       b.placed.getD x none = none → b.level = b.ball → clear (b.start * 64 + b.cmpF.getD x 0) →
       Ends (.compareOccurrence p x) s (fun t =>
         let l := actOn (b.act / 2 ^ (6 - 2 * x.val) % 4) b.level
         (t.port p).level = l ∧ (t.port p).ball = l ∧ (t.port p).fired = x.val :: b.fired ∧ others t ∧
           (s.tcRun = true → s.t < b.start + b.cmpF.getD x 0 / 64 → b.start + b.cmpF.getD x 0 / 64 < 2 ^ 64 →
             t.t = b.start + b.cmpF.getD x 0 / 64))) ∧
     -- R160: at the peak the down half begins and the action of the peak is applied
     (s.unsynced (17 + p / 48) = false → b.started = true → s.get (GP.CTRL.MODE p) = 1 → b.down = false → b.level = b.ball →
       clear ((b.start + effPeriod true b.per / 2) * 64) →
       Ends (.peak p) s (fun t => (t.port p).down = true ∧ (t.port p).level = actOn (b.act / 2 ^ 8 % 4) b.level ∧
         (t.port p).ball = (t.port p).level ∧ loads (b.start + effPeriod true b.per / 2) t ∧ others t)) ∧
     -- R161: held occurrences end, and the ball takes their final level
     (∀ (T : Nat) (v : Bool), b.merge = some (T, v) → alone T → (∀ l ∈ b.lastTr, l + 64 ≤ T) →
       Ends (.edgeMerge p) s (fun t => (t.port p).ball = v ∧ (t.port p).merge = none ∧ others t ∧ SameMem s t)) ∧
     -- R165: the dead time has passed
     (∀ T : Nat, b.rise = some T → clear T →
       Ends (.deadTimeRise p) s (fun t => (t.port p).ball = true ∧ (t.port p).rise = none ∧ others t ∧ SameMem s t)) ∧
     -- R166, R167: event output k
     (∀ k : Fin 4, s.unsynced (17 + p / 48) = false → b.started = true → b.evt.getD k 0 / 2 ^ 34 % 4 = 1 → b.evt.getD k 0 % 2 ^ 24 < per →
       let T := b.start + b.evt.getD k 0 % 2 ^ 24
       WritesFrom (s.advanceTo T) (.portEvent p k false) s [] (fun u =>
         let v := u.putTrig (1000 + 4 * p.val + k.val) T
         if s.get (GP.CTRL.EVQ p) = 1 ∧ s.get (GP.CTRL.EVQS p) = k.val then v.setEvents (u.events ++ [⟨144 + p, some (T % 2 ^ 36), []⟩])
         else v)) ∧
     -- R157, R158, R160, R163, R170: the period start; `last k` is the governing write of timing word k among those that came in time
     (s.unsynced (17 + p / 48) = false → clear (b.next * 64) → (b.level && b.started) = b.ball → Ends (.periodStart p) s (fun t =>
       let last (k old : Nat) : Nat :=
         (((b.timing.filter (fun w => w.which == k && decide (w.at_ + 8 ≤ b.next))).getLast?).map TimWrite.v).getD old
       let per := effPeriod (s.updown p) (last 0 b.per)
       let l := actOn (last 1 b.act / 2 ^ 10 % 4) (b.level && b.started)
       loads b.next t ∧ (t.port p).per = last 0 b.per ∧ (t.port p).act = last 1 b.act ∧ (t.port p).dt = last 2 b.dt ∧
         (b.evt.length = 4 → ∀ k : Fin 4, (t.port p).evt[k.val]? = some (last (3 + k) (b.evt.getD k 0))) ∧
         (t.port p).timing = b.timing.filter (fun w => decide (b.next < w.at_ + 8)) ∧
         (s.tcRun = true → s.t ≤ b.next → b.next < 2 ^ 64 → t.t = b.next) ∧ (t.port p).started = true ∧
       (t.port p).start = b.next ∧ (t.port p).next = b.next + per ∧ t.get (GP.NEXT.NEXT p) = (b.next + per) % 2 ^ 36 ∧
         t.get (GP.STATUS.PCNT p) = (s.get (GP.STATUS.PCNT p) + 1) % 2 ^ (GP.STATUS.PCNT p).w ∧ (t.port p).down = false ∧
         (t.port p).fired = [] ∧ (t.port p).level = l ∧ (t.port p).ball = l ∧
         (s.get (GP.STATUS.HCUT p) = 0 → s.get (GP.STATUS.HTRIP p) = 0 → s.get (GP.STATUS.HLATCH p) = 0 →
           s.get (GP.STATUS.HCYC p) = 0 → s.get (GP.STATUS.HRED p) = 0 → s.get (GP.STATUS.LOST p) = 0 →
           (t.port p).follow = true) ∧ others t))) ∧
  -- R153, R165: the balls of a standing pair
  (∀ (s : State) (p : Fin 96), p.val % 2 = 0 → s.get (GP.STATUS.STATE p) = 2 → s.get (GP.STATUS.STATE (p + 1)) = 3 →
     s.get (GP.CTRL.PAIR p) = 1 → s.get (GP.CTRL.EN p) = 1 →
     let b := s.port p
     let o := s.port (p + 1)
     let clear (T : Nat) (q : PortSt) : Prop := (∀ w ∈ b.was, w.at_ ≠ T) ∧ q.merge = none ∧ ∀ l ∈ q.lastTr, l + 64 ≤ T
     let others (t : State) : Prop := ∀ q, q ≠ p.val → q ≠ p + 1 → t.port q = s.port q
     (∀ T : Nat, b.rise = some T → clear T b → Ends (.deadTimeRise p) s (fun t => (t.port p).ball = true ∧ (t.port p).rise = none ∧
       (t.port (p + 1)).ball = o.ball ∧ others t ∧ SameMem s t)) ∧
     (∀ h : p.val + 1 < 96, ∀ T : Nat, o.rise = some T → clear T o → Ends (.deadTimeRise ⟨p + 1, h⟩) s (fun t =>
       (t.port (p + 1)).ball = true ∧ (t.port (p + 1)).rise = none ∧ (t.port p).ball = b.ball ∧ others t ∧ SameMem s t)) ∧
     -- an occurrence that raises the level: the odd ball falls now, the even one waits out its dead time
     (∀ x : Fin 4, b.started = true → s.get (GP.CTRL.MODE p) = 0 → b.cmpF.getD x 0 < effPeriod false b.per * 64 → x.val ∉ b.fired →
       b.placed.getD x none = none → b.level = false → actOn (b.act / 2 ^ (6 - 2 * x.val) % 4) false = true →
       let T := b.start * 64 + b.cmpF.getD x 0
       clear T o → Ends (.compareOccurrence p x) s (fun t => (t.port p).level = true ∧ (t.port (p + 1)).ball = false ∧
         (t.port p).ball = b.ball ∧ (t.port p).rise = some (T + b.dt / 2 ^ 18 % 2 ^ 18) ∧ (t.port (p + 1)).rise = none ∧ others t)))

/-- R45 to R49, R155, R156, R163: A compare write reaches a port, and the LAT word returns: before the first period start it is
stored at once; in BOUNDARY mode it waits in the shadow; in IMMEDIATE mode of a port that counts up, the old edge, the new edge
and the tick of arrival decide. A writer that WSRC does not name is turned away; an island that is off takes no write (for an
engine's, log entry 136); a write that is not its engine's oldest to the port island under way has not arrived, and the row does
nothing (log entry 13): that is the model's choice. -/
def Obligations.CompareWrites : Prop :=
  ∀ (s : State) (p : Fin 96) (x : Fin 4),
    let b := s.port p
    -- R48: what the port records, and R155, R156: what the compare register holds
    let seen (t : State) (v late def_ : Nat) : Prop :=
      t.get (GP.CMPX.CMP p x) = v ∧ t.get (GP.LAT.SEQ p) = (s.get (GP.LAT.SEQ p) + 1) % 2 ^ (GP.LAT.SEQ p).w ∧
        t.get (GP.LAT.EDGE p) = x.val ∧ t.get (GP.LAT.LATE p) = late ∧ t.get (GP.LAT.DEF p) = def_ ∧ ∀ q, q ≠ p.val → t.port q = s.port q
    let waits (t : State) (v from_ : Nat) : Prop := (t.port p).shadow[x.val]? = some (some ⟨v, from_, s.t⟩) ∧ (t.port p).cmpF = b.cmpF
    let governs (t : State) (v : Nat) (at_ : Option Nat) : Prop :=
      (t.port p).cmpF[x.val]? = some v ∧ (t.port p).placed[x.val]? = some at_ ∧ (t.port p).shadow[x.val]? = some none
    -- R45, R46, R156: what becomes of a value `v` that arrives at this tick
    let arrives (i : Instr) (v : Nat) (ret : State → Prop) : Prop :=
      b.cmpF.length = 4 → b.shadow.length = 4 → b.placed.length = 4 →
        (b.started = false ∨ s.get (GP.STATUS.STATE p) ≠ 2 ∨ s.unsynced (17 + p / 48) = true →
          Ends i s (fun t => seen t v 0 0 ∧ (t.port p).cmpF[x.val]? = some v ∧ ret t)) ∧
        (b.started = true → s.get (GP.STATUS.STATE p) = 2 → s.unsynced (17 + p / 48) = false →
          (s.get (GP.CTRL.LOAD p) = 1 → Ends i s (fun t => seen t v 0 1 ∧ waits t v (s.t + 3) ∧ ret t)) ∧
          (s.get (GP.CTRL.LOAD p) = 0 → s.get (GP.CTRL.MODE p) = 0 → s.t + 3 < b.next →
            let len := effPeriod false b.per * 64
            let held := b.cmpF.getD x 0
            let old := (b.placed.getD x none).getD (b.start * 64 + min held len)
            let new := b.start * 64 + min v len
            let w3 := (s.t + 3) * 64
            ((held < len ∨ v < len) → old < w3 → Ends i s (fun t => seen t v 0 1 ∧ waits t v (s.t + 4) ∧ ret t)) ∧
            ((held < len ∨ v < len) → w3 ≤ old → new < w3 → Ends i s (fun t => seen t v 1 0 ∧ governs t v (some w3) ∧ ret t)) ∧
            ((held < len ∨ v < len) → w3 ≤ old → w3 ≤ new → Ends i s (fun t => seen t v 0 0 ∧ governs t v none ∧ ret t)) ∧
            (len ≤ held → len ≤ v → Ends i s (fun t => seen t v 0 0 ∧ governs t v none ∧ ret t))) ∧
          -- in every mode and at every tick the compare register and LAT are written
          Ends i s (fun t => t.get (GP.CMPX.CMP p x) = v ∧ t.get (GP.LAT.EDGE p) = x.val ∧ ret t))
    (s.get (ISL.STAT.STATE (17 + p / 48)) = 0 →
    -- R47, R156: the engine that WSRC names, with its oldest write under way to the port island
    (∀ (a : Owner) (u : Word) (w : PWrite), 0x10 ≤ a.toNat → a.toNat < 0x28 → s.get (GP.CTRL.WSRC p) = a.toNat →
      s.portWrites.find? (fun q => q.eng == a.toNat && q.port / 48 == p.val / 48) = some w → w.port = p.val → w.cmp = x.val →
      arrives (.compareWrite a p x u) (clampInt 0 (2 ^ 30 - 1) w.v).toNat (fun t =>
        t.portWrites = s.portWrites.erase w ∧ t.bus = s.bus ∧
          (t.latFlight.map (fun e => (e.1, e.2.1))) = (s.latFlight.map (fun e => (e.1, e.2.1))) ++ [(a.toNat - 16, p.val)])) ∧
    -- R156: a bus write by the agent that WSRC names; its tick of arrival is its stamp
    (∀ (a : Owner) (u : Word), s.Settled a → a.toNat < 0x10 ∨ 0x28 ≤ a.toNat → a ≠ 0 → s.get (GP.CTRL.WSRC p) = a.toNat →
      arrives (.compareWrite a p x u) (u.toNat % 2 ^ 30) (fun t =>
        t.bus = ⟨a.toNat, .ok, 0, 0⟩ ∧ t.get (GP.LAT.LAT p) = 2 ∧ t.latFlight = s.latFlight ∧ t.portWrites = s.portWrites)) ∧
    -- R155: an engine that WSRC does not name changes no compare
    (∀ (a : Owner) (u : Word) (w : PWrite), 0x10 ≤ a.toNat → a.toNat < 0x28 → s.get (GP.CTRL.WSRC p) ≠ a.toNat →
      s.portWrites.find? (fun q => q.eng == a.toNat && q.port / 48 == p.val / 48) = some w → w.port = p.val → w.cmp = x.val →
      Writes (.compareWrite a p x u) s [(GP.STATUS.FOREIGN p, 1)] (fun v =>
        (v.setPortWrites (s.portWrites.erase w)).setReports (v.reports ++ [⟨.portForeign, 0x500 + p, a.toNat, false⟩]))) ∧
    -- R155, R29: any other agent that WSRC does not name meets BUS_OWN
    (∀ (a : Owner) (u : Word), s.Settled a → a.toNat < 0x10 ∨ 0x28 ≤ a.toNat → s.get (GP.CTRL.WSRC p) ≠ a.toNat ∨ a = 0 →
      Writes (.compareWrite a p x u) s [] (fun v => v.setBus ⟨a.toNat, .busOwn, 0, 0⟩))) ∧
    -- R12, R29: a port island in Charcoal or Black
    (2 ≤ s.get (ISL.STAT.STATE (17 + p / 48)) →
      (∀ (a : Owner) (u : Word), s.Settled a → a.toNat < 0x10 ∨ 0x28 ≤ a.toNat →
        Writes (.compareWrite a p x u) s [] (fun v => v.setBus ⟨a.toNat, .busMap, 0, 0⟩)) ∧
      (∀ (a : Owner) (u : Word) (w : PWrite), 0x10 ≤ a.toNat → a.toNat < 0x28 →
        s.portWrites.find? (fun q => q.eng == a.toNat && q.port / 48 == p.val / 48) = some w → w.port = p.val → w.cmp = x.val →
        Writes (.compareWrite a p x u) s [] (fun v => v.setPortWrites (s.portWrites.erase w)))) ∧
    -- R47: a write that is not the engine's oldest to the port island has not arrived yet
    (∀ (a : Owner) (u : Word), 0x10 ≤ a.toNat → a.toNat < 0x28 →
      (∀ w, s.portWrites.find? (fun q => q.eng == a.toNat && q.port / 48 == p.val / 48) = some w → w.port ≠ p.val ∨ w.cmp ≠ x.val) →
      exec (.compareWrite a p x u) s = .next s)

/-- R16, R153, R154, R157, R168, R170, R171, R173, R180, R295: Enabling and disabling a port that times its own ball and needs no grant,
and writing its safe level. A port group goes Red and comes back: every ball of it is safe while it is Red; the trip latch
clears once no comparator drives the group. -/
def Obligations.PortEnabling : Prop :=
  (∀ (s : State) (a : Owner) (p : Fin 96), s.Settled a → a ≠ 0 → s.get (ISL.STAT.STATE (17 + p / 48)) = 0 →
     -- a port that is off, in a group of a valid class, its ball free
     (∀ v : Word, v.toNat % 2 = 1 → v.toNat / 2 ^ 19 % 2 = 0 → s.get (GP.CTRL.OWNER p) = 0 → s.get (GP.CTRL.EN p) = 0 →
       (s.get (PG.GSTAT.VCLASS (p / 8)) = 1 ∨ s.get (PG.GSTAT.VCLASS (p / 8)) = 2) → s.get (GP.SAFE.SCLS p) = 0 →
       96 ≤ s.get (GP.SAFE.LEADP p) → s.get (SYS.CLM.OWNER (0x100 + p)) = 0 →
       Ends (.portEnable a p v) s (fun t =>
         t.get (GP.CTRL.EN p) = 1 ∧ t.get (GP.CTRL.OWNER p) = a.toNat ∧ t.get (GP.STATUS.STATE p) = 2 ∧
           t.get (SYS.CLM.OWNER (0x100 + p)) = a.toNat ∧ t.get (SYS.CLM.FEATURE (0x100 + p)) = p.val ∧
           t.get (SYS.FST.STATE p) = 1 ∧
           t.get (GP.CTRL.WSRC p) = (if validOwner s.split (v.toNat / 2 ^ 20 % 2 ^ 8) then v.toNat / 2 ^ 20 % 2 ^ 8
             else s.get (GP.CTRL.WSRC p)) ∧
           t.get (GP.CTRL.MODE p) = v.toNat / 2 ^ 18 % 2 ∧ (t.port p).follow = false ∧ (t.port p).started = false ∧
           t.bus = ⟨a.toNat, .ok, 0, 0⟩)) ∧
     -- R33: the owner turns it off; its ball is free again and safe
     (∀ v : Word, v.toNat % 2 = 0 → s.get (GP.CTRL.OWNER p) = a.toNat → s.get (GP.CTRL.EN p) = 1 → s.get (GP.CTRL.PAIR p) = 0 →
       s.get (SYS.CLM.OWNER (0x100 + p)) = a.toNat → s.get (SYS.CLM.FEATURE (0x100 + p)) = p.val →
       Ends (.portDisable a p v) s (fun t =>
         t.get (GP.CTRL.EN p) = 0 ∧ t.get (GP.CTRL.OWNER p) = 0 ∧ t.get (GP.STATUS.STATE p) = 0 ∧
           t.get (SYS.CLM.OWNER (0x100 + p)) = 0 ∧ t.get (SYS.FST.STATE p) = 0 ∧ t.get (GP.STATUS.SAFED p) = 1 ∧
           (t.port p).follow = false ∧ t.bus = ⟨a.toNat, .ok, 0, 0⟩)) ∧
     -- R168: the safe level is the host's to write, while the port is off
     (∀ v : Word, a.toNat = 0x40 → s.get (GP.CTRL.EN p) = 0 → Ends (.safeWrite a p v) s (fun t =>
       t.get (GP.SAFE.LEADP p) = v.toNat / 2 ^ 8 % 2 ^ 7 ∧ t.get (GP.SAFE.SCLS p) = v.toNat / 2 ^ 4 % 2 ^ 4 ∧
         t.get (GP.SAFE.SAFE p) = v.toNat % 4 ∧ t.bus = ⟨0x40, .ok, 0, 0⟩)) ∧
     -- and with no port that follows a lead it moves nothing else (R180)
     (∀ v : Word, a.toNat = 0x40 → s.get (GP.CTRL.EN p) = 0 →
       (∀ q : Fin 96, s.get (GP.CTRL.EN q) = 1 → s.get (GP.SAFE.SCLS q) ≠ 0 ∨ 96 ≤ s.get (GP.SAFE.LEADP q)) →
       Writes (.safeWrite a p v) s [(GP.SAFE.LEADP p, v.toNat / 2 ^ 8 % 2 ^ 7), (GP.SAFE.SCLS p, v.toNat / 2 ^ 4 % 2 ^ 4),
         (GP.SAFE.SAFE p, v.toNat % 4)] (fun u => u.setBus ⟨0x40, .ok, 0, 0⟩)) ∧
     (∀ v : Word, a.toNat = 0x40 → s.get (GP.CTRL.EN p) = 1 →
       Writes (.safeWrite a p v) s [(GP.STATUS.WREJ p, 1)] (fun u => u.setBus ⟨0x40, .ok, 0, 0⟩)) ∧
     (∀ v : Word, a.toNat ≠ 0x40 → Writes (.safeWrite a p v) s [] (fun u => u.setBus ⟨a.toNat, .busOwn, 0, 0⟩))) ∧
  (∀ (s : State) (g : Fin 12),
     let red (t : State) : Prop := t.get (PG.GSTAT.RED g) = 1 ∧ ∀ k < 8, t.get (GP.STATUS.HRED (8 * g + k)) = 1 ∧
       t.get (GP.STATUS.SAFED (8 * g + k)) = 1 ∧ (t.port (8 * g + k)).follow = false
     (∀ mv : BitVec 13, s.get (PG.GSTAT.REFCLASS g) = 1 → mv.toNat * 100 < 280500 → s.get (PG.GSTAT.VIOLOW g) = 0 →
       s.get (PG.GSTAT.RED g) = 0 →
       Ends (.vioLow g mv) s (fun t => red t ∧ t.get (PG.GSTAT.VIOLOW g) = 1 ∧
         t.reports = s.reports ++ [⟨.vioLow, 0x400 + g, 0, false⟩])) ∧
     -- R173: VIOLOW shows the present condition
     (∀ mv : BitVec 13, s.get (PG.GSTAT.REFCLASS g) = 1 → 280500 ≤ mv.toNat * 100 →
       Writes (.vioLow g mv) s [(PG.GSTAT.VCLASS g, vioClass mv.toNat), (PG.GSTAT.VIOLOW g, 0)] id) ∧
     (s.get (PG.GSTAT.RED g) = 0 → Ends (.portParity g) s (fun t => red t ∧ t.get (PG.GSTAT.PARITY g) = 1 ∧
       t.reports = s.reports ++ [⟨.portParity, 0x400 + g, 0, false⟩])) ∧
     -- R295: one that is out already is told of, without a second reaction
     (s.get (PG.GSTAT.RED g) = 1 → Writes (.portParity g) s [(PG.GSTAT.PARITY g, 1)]
       (fun u => u.setReports (u.reports ++ [⟨.portParity, 0x400 + g, 0, true⟩]))) ∧
     ((s.groupTripped g = false → s.groupGated g = false → Ends (.clrtrip 0x40 g) s (fun t =>
         t.get (PG.GSTAT.TRIPL g) = 0 ∧ (∀ k < 8, t.get (GP.STATUS.HLATCH (8 * g + k)) = 0 ∧
           t.get (GP.STATUS.HTRIP (8 * g + k)) = 0) ∧ t.bus = ⟨0x40, .ok, 0, 0⟩)) ∧
       (s.groupTripped g = true →
         Writes (.clrtrip 0x40 g) s [(PG.GSTAT.CLRREF g, 1)] (fun u => u.setBus ⟨0x40, .ok, 0, 0⟩)) ∧
       Writes (.clrred 0x40 g) s [] (fun u => (u.setLaneTest (Tab.set (fun _ => 0) u.laneTest g (u.t + 300))).setBus
         ⟨0x40, .ok, 0, 0⟩)) ∧
     (∀ (mv : BitVec 13), Tab.get (fun _ => 0) s.laneTest g ≠ 0 → s.get (PG.GSTAT.REFCLASS g) = 1 → 280500 ≤ mv.toNat * 100 →
       Ends (.laneTestDone g true mv) s (fun t => t.get (PG.GSTAT.RED g) = 0 ∧ t.get (PG.GSTAT.PARITY g) = 0 ∧
         t.get (PG.GSTAT.VIOLOW g) = 0 ∧ Tab.get (fun _ => 0) t.laneTest g = 0 ∧
         (∀ k < 8, t.get (GP.STATUS.HRED (8 * g + k)) = 0) ∧ t.reports = s.reports)))

/-- R15, R174 to R178: The CUT latch. A source that asserts reports once, sets the latch and puts every ball at its safe level
with HCUT; the latch clears by the host link once no other source stands. -/
def Obligations.CutLatch : Prop :=
  ∀ s : State,
    let safe (t : State) : Prop := ∀ p : Fin 96, t.get (GP.STATUS.HCUT p) = 1 ∧ t.get (GP.STATUS.SAFED p) = 1 ∧
      (t.port p).follow = false
    let cut (src : FRef) (n : Nat) (code : FaultCode) (t : State) : Prop := t.get src = 1 ∧ t.get PORTS.CUTSTAT.LATCH = 1 ∧
      safe t ∧ t.cut.first = n ∧ t.reports = s.reports ++ [⟨code, 0, 0, false⟩] ∧ (∃ e ∈ t.events, e.num = 240) ∧ t.starts = []
    (s.get PORTS.CUTSTAT.LATCH = 0 →
      (s.get PORTS.CUTSTAT.SIN = 0 → Ends .cutinAssert s (cut PORTS.CUTSTAT.SIN 2 .cutInput)) ∧
      (∀ a : Owner, s.Settled a → s.get PORTS.CUTSTAT.SHOST = 0 →
        Ends (.cutAssert a) s (fun t => cut PORTS.CUTSTAT.SHOST 4 .cutHost t ∧ t.bus = ⟨a.toNat, .ok, 0, 0⟩)) ∧
      (s.get PORTS.CUTSTAT.SCTU = 0 →
        Ends (.keepaliveTimeout true true) s (cut PORTS.CUTSTAT.SCTU 1 .cutCtu))) ∧
    -- a source that stands already changes nothing
    (s.get PORTS.CUTSTAT.SIN = 1 → exec .cutinAssert s = .next s) ∧
    Writes .cutinRelease s [(PORTS.CUTSTAT.SIN, 0)] id ∧
    -- one keepalive alone: the halves disagree
    (s.get PORTS.CUTSTAT.LATCH = 0 → s.get PORTS.CUTSTAT.SCTU = 0 → Ends (.keepaliveTimeout true false) s (fun t =>
      t.get CTU.STATUS.DISAGREE = 1 ∧ t.get CTU.STATUS.CUTREQ = 1 ∧ t.get PORTS.CUTSTAT.SCTU = 1 ∧ t.get PORTS.CUTSTAT.LATCH = 1 ∧
        safe t ∧ t.cut.first = 1 ∧ t.cut.ctuReq = true ∧ t.reports = s.reports ++ [⟨.ctuDisagree, 0, 0, false⟩, ⟨.cutCtu, 0, 0, false⟩])) ∧
    (s.cut.ctuReq = false → s.cut.noneReq = false → Writes (.cutKeepaliveSend 0) s [(PORTS.CUTSTAT.SCTU, 0)]
      (fun u => u.setCut { u.cut with kaA := u.t, kaLoss := false })) ∧
    -- the host's CLEAR
    (s.get PORTS.CUTSTAT.SCTU = 1 ∨ s.get PORTS.CUTSTAT.SIN = 1 ∨ s.get PORTS.CUTSTAT.SUV = 1 →
      Writes (.cutClear 0x40) s [(PORTS.CUTSTAT.CLRREF, 1)] (fun u => u.setBus ⟨0x40, .ok, 0, 0⟩)) ∧
    (s.get PORTS.CUTSTAT.SCTU = 0 → s.get PORTS.CUTSTAT.SIN = 0 → s.get PORTS.CUTSTAT.SUV = 0 → s.get PORTS.CUTSTAT.LATCH = 1 →
      Ends (.cutClear 0x40) s (fun t => t.get PORTS.CUTSTAT.LATCH = 0 ∧ t.get PORTS.CUTSTAT.SHOST = 0 ∧
        (∀ p : Fin 96, t.get (GP.STATUS.HCUT p) = 0) ∧ ∃ e ∈ t.events, e.num = 241)) ∧
    (∀ a : Owner, s.Settled a → a.toNat ≠ 0x40 → Writes (.cutClear a) s [] (fun u => u.setBus ⟨a.toNat, .busOwn, 0, 0⟩)) ∧
    -- R177: the report to the logic die
    (s.get PORTS.CUTSTAT.LATCH = 1 → s.cut.told = false → s.get ETH.SLSTATE.STATE = 3 →
      Ends .cutStateReport s (fun t => t.get PORTS.CUTSTAMP.STAMP = s.t % 2 ^ 36 ∧
        t.get PORTS.CUTSTAT.CUTCNT = min (s.get PORTS.CUTSTAT.CUTCNT + 1) (2 ^ PORTS.CUTSTAT.CUTCNT.w - 1) ∧
        t.get PORTS.CUTSTAT.FIRST = s.cut.first ∧ t.cut.told = true ∧ t.get ETH.SLSTATE.CUTFROM = 3 ∧
        t.get ETH.SLSTATE.STATE = 4))

/-- R100, R129 to R133: The owner of a loop engine writes its memory and gives it commands; each is legal in one state. That a command
answers OK and does nothing during a wipe is the model's choice (log entry 119), and so is that a run accepted but not yet dispatched
counts as one in progress (log entry 171). -/
def Obligations.EngineCommands : Prop :=
  ∀ (s : State) (a : Owner) (e : Fin 24), s.Settled a → a ≠ 0 → s.get (ISL.STAT.STATE (4 + e / 3)) = 0 →
    let st := s.get (LE.STATUS.STATE e)
    let sp := s.get ENG.SPARES.SPARE
    let less : Nat := if bitOf sp e then sp - 2 ^ e.val else sp
    let ok (u : State) : State := u.setBus ⟨a.toNat, .ok, 0, 0⟩
    let res (code status state info pending : Nat) : List (FRef × Nat) := [(LE.RESULT.STATUS e, status),
      (LE.RESULT.STATE e, state), (LE.RESULT.INFO e, info), (LE.RESULT.PENDING e, pending), (LE.RESULT.CODE e, code)]
    -- R129: a free engine is taken; only its owner may change it
    (∀ v : Word, s.get (LE.CTRL.OWNER e) = 0 → v.toNat / 2 ^ 28 % 2 ^ 8 = a.toNat → validOwner s.split a.toNat = true → st = 0 →
      Writes (.engineOwnerWrite a e v) s [(LE.CTRL.OWNER e, a.toNat), (LE.CTRL.REL e, v.toNat / 2 ^ 27 % 2),
        (LE.CTRL.FOVR e, v.toNat / 2 ^ 26 % 2)] ok) ∧
    (∀ v : Word, s.get (LE.CTRL.OWNER e) ≠ 0 → s.get (LE.CTRL.OWNER e) ≠ a.toNat →
      Writes (.engineOwnerWrite a e v) s [] (fun u => u.setBus ⟨a.toNat, .busOwn, 0, 0⟩)) ∧
    -- R100: law ops and constants while OFF, state words while OFF or LOADED, in both images
    (∀ (off : BitVec 12) (v : Word), s.get (LE.CTRL.OWNER e) = a.toNat → st = 0 → off.toNat < 0x800 ∨ 0xC00 ≤ off.toNat →
      Ends (.engineMemWrite a e off v) s (fun t => t.rd (engBase e + off.toNat) = v.toNat ∧
        SameMemBut s t (engBase e + off.toNat) 1 ∧ t.fields = s.fields ∧ t.bus = ⟨a.toNat, .ok, 0, 0⟩)) ∧
    (∀ (i : Fin 1024) (v : Word), s.get (LE.CTRL.OWNER e) = a.toNat → st = 0 ∨ st = 1 →
      Ends (.engineMemWrite a e (0x800 + BitVec.ofNat 12 i) v) s (fun t => t.rd (engState e i) = v.toNat ∧
        t.engNegW e i = negWord v.toNat ∧ SameMemBut s t (engState e i) 1 ∧ t.fields = s.fields ∧
        t.bus = ⟨a.toNat, .ok, 0, 0⟩)) ∧
    (∀ (off : BitVec 12) (v : Word), s.get (LE.CTRL.OWNER e) ≠ a.toNat ∨ 2 ≤ st →
      Writes (.engineMemWrite a e off v) s [] (fun u => u.setBus ⟨a.toNat, .busOwn, 0, 0⟩)) ∧
    -- R130, R131: a law that LOAD accepts, and the refusal of one it does not
    (s.get (LE.CTRL.OWNER e) = a.toNat → (s.eng e).cmd = none → s.flash.wipe = false →
      (∀ k : LawCount, s.marks = [] → s.checkLaw e = .inr k → st = 0 → Ends (.engineLoad a e) s (fun t => t.get (LE.STATUS.STATE e) = 1 ∧
        t.get (LE.CYC.NCYC e) = k.n ∧ t.get (LE.CYC.CPO e) = k.c ∧ t.get (LE.TR.TR e) = restoreTime (s.lawWords e) ∧
        t.get (LE.RESULT.PENDING e) = 1 ∧ t.get (LE.RESULT.CODE e) = 1 ∧ (t.eng e).cmd = some (1, 0, 0) ∧
        (∀ i : Fin 1024, t.engNegW e i = negWord (s.rd (engState e i))) ∧ SameMem s t ∧ t.bus = ⟨a.toNat, .ok, 0, 0⟩)) ∧
      (∀ info : Nat, s.marks = [] → s.checkLaw e = .inl info → st = 0 → Ends (.engineLoad a e) s (fun t => t.get (LE.STATUS.STATE e) = 0 ∧
        (t.eng e).cmd = some (1, 4, info) ∧ SameMem s t)) ∧
      (st = 1 → Writes (.unload a e) s ((LE.STATUS.STATE e, 0) :: (ENG.SPARES.SPARE, less) :: res 2 0 0 0 0) ok) ∧
      -- R114, R123: ARM without failover
      (st = 1 → s.get (LE.CTRL.FOVR e) = 0 → s.trigValid e = true →
        Writes (.engineArm a e) s [(LE.STATUS.STATE e, 2), (ENG.SPARES.SPARE, less), (LE.RUNS.RUNS e, 0), (LE.RESULT.PENDING e, 1),
          (LE.RESULT.CODE e, 3)] (fun u => ok (u.putEng e { u.eng e with cmd := some (3, 0, 0), backed := false, mirror := [] }))) ∧
      (st = 2 → (s.eng e).phase = 0 → (s.eng e).disp = none →
        Writes (.disarm a e) s [(LE.STATUS.STATE e, 1), (ENG.SPARES.SPARE, less), (LE.STATUS.HELD e, 0), (LE.STATUS.RUN e, 0),
          (LE.RESULT.PENDING e, 1), (LE.RESULT.CODE e, 4)]
          (fun u => ok (u.putEng e { u.eng e with held := none, disarm := false, cmd := some (4, 0, 0) }))) ∧
      (st = 2 → (s.eng e).phase = 0 → (s.eng e).disp = none → (s.eng e).held = none → (s.eng e).disarm = false →
        s.unsynced (4 + e / 3) = false → Writes (.fire a e) s ((LE.STATUS.HELD e, 0) :: (LE.STATUS.RUN e, 1) :: res 5 0 2 0 0)
          (fun u => ok (u.putEng e { u.eng e with disp := some u.stamp }))) ∧
      (st = 0 → Writes (.engineSpare a e) s ((LE.STATUS.STATE e, 3) :: (ENG.SPARES.SPARE, sp ||| 2 ^ e.val) :: res 6 0 3 0 0) ok) ∧
      (st = 3 → Writes (.unspare a e) s ((LE.STATUS.STATE e, 0) :: (ENG.SPARES.SPARE, less) :: res 7 0 0 0 0) ok) ∧
      (st = 5 → Writes (.engineRetest a e) s [(LE.STATUS.STATE e, 6), (ENG.SPARES.SPARE, less), (LE.RESULT.PENDING e, 1),
        (LE.RESULT.CODE e, 8)] (fun u => ok (u.putEng e { u.eng e with cmd := some (8, 0, 0), due := u.t + 750000 }))) ∧
      -- R130: a command in a state it is not legal in
      (st ≠ 2 → Writes (.fire a e) s (res 5 1 st 0 0) ok)) ∧
    -- R354: while a wipe holds the engines in reset a command does nothing
    (s.get (LE.CTRL.OWNER e) = a.toNat → s.flash.wipe = true → Writes (.fire a e) s [] ok ∧ Writes (.engineArm a e) s [] ok) ∧
    -- R129: commands of another agent
    (s.get (LE.CTRL.OWNER e) ≠ a.toNat →
      Writes (.engineLoad a e) s [] (fun u => u.setBus ⟨a.toNat, .busOwn, 0, 0⟩)) ∧
    -- R130: completions
    (∀ c : Nat × Nat × Nat, (s.eng e).cmd = some c → (s.eng e).disarm = false → (c = (1, 0, 0) ∨ c = (3, 0, 0) ∨ c = (4, 0, 0)) →
      Writes (.engineCommandDone e) s (res c.1 0 st 0 0) (fun u => u.putEng e { u.eng e with cmd := none })) ∧
    (st = 6 → WritesFrom (s.advanceTo (s.eng e).due) (.engineLbistDone e true) s
      ((LE.STATUS.STATE e, 3) :: (ENG.SPARES.SPARE, sp ||| 2 ^ e.val) :: res 8 0 3 0 0)
      (fun u => u.putEng e { u.eng e with cmd := none })) ∧
    (st = 6 → WritesFrom (s.advanceTo (s.eng e).due) (.engineLbistDone e false) s
      ((LE.STATUS.STATE e, 5) :: (ENG.SPARES.SPARE, less) :: res 8 0 5 0 0)
      (fun u => (u.putEng e { u.eng e with cmd := none }).setReports (u.reports ++ [⟨.lbistFail, elEngine e, 0, false⟩])))

/-- R49, R114 to R116, R124 to R127: A trigger reaches an idle engine, a run is dispatched, a LAT word returns, and a Red engine's law
goes to a spare or is lost. That a trigger accepted counts as a run in progress before its dispatch (log entry 171), which law a
failover moves or loses (log entry 41), and that the failover of an engine that is out already does nothing (log entry 13), is the
model's choice. -/
def Obligations.EngineRuns : Prop :=
  ∀ (s : State) (e : Fin 24),
    (∀ q : Nat × Nat × Nat, s.latFlight = [q] → q.1 = e.val → Writes (.latReturn e) s [] (fun u =>
      (u.setLatFlight []).putEng e { u.eng e with lat := q.2 :: (u.eng e).lat.filter (fun x => x.1 != q.2.1) })) ∧
    (∀ q : Nat × Nat, s.engTrigs = [q] → q.1 = e.val → s.unsynced (4 + e / 3) = false → s.get (LE.STATUS.STATE e) = 2 →
      (s.eng e).disarm = false → (s.eng e).held = none →
      ((s.eng e).phase = 0 → (s.eng e).disp = none → Writes (.engineTrigger e) s [(LE.STATUS.HELD e, 0), (LE.STATUS.RUN e, 1)]
        (fun u => (u.setEngTrigs []).putEng e { u.eng e with disp := some q.2 })) ∧
      ((s.eng e).phase = 1 → Writes (.engineTrigger e) s [(LE.STATUS.HELD e, 1), (LE.STATUS.RUN e, 1)]
        (fun u => (u.setEngTrigs []).putEng e { u.eng e with held := some q.2 }))) ∧
    (∀ (stamp : Nat) (err : Option (BitVec 12 × Bool × Bool)), (s.eng e).disp = some stamp → s.get (LE.STATUS.STATE e) = 2 →
      (s.eng e).phase = 0 → stamp < 2 ^ 36 → Ends (.runDispatch e err) s (fun t => (t.eng e).phase = 1 ∧ (t.eng e).stamp = stamp ∧ (t.eng e).pass = LawPass.start ∧
        (t.eng e).frozen = s.engFreeze e ∧ (t.eng e).latched = s.engReels e ∧ t.get (LE.STAMP.STAMP e) = stamp ∧
        t.get (LE.STATUS.RUN e) = 1 ∧ SameMem s t)) ∧
    -- R124: no spare waits
    (s.get (LE.STATUS.STATE e) = 2 → (s.eng e).ports = [] → s.spareFor (s.on (LE.LAW.FAST e)) = none →
      Ends (.engineFailover e true) s (fun t => t.get (LE.STATUS.STATE e) = 5 ∧ t.get ENG.FOLOG.FROM = e.val ∧
        t.get ENG.FOLOG.RESULT = 2 ∧ t.get ENG.FOSTAMP.STAMP = s.t % 2 ^ 36 ∧ (t.eng e).failing = 0 ∧ (t.eng e).phase = 0 ∧
        t.reports = s.reports ++ [⟨.engineRed, elEngine e, 0, false⟩, ⟨.lawLost, elEngine e, 0, false⟩] ∧ SameMem s t)) ∧
    -- R124: the spare takes the law of a READY engine with failover: its registers, and the words the spare could load
    (∀ q : Nat, s.spareFor (s.on (LE.LAW.FAST e)) = some q →
      let red := engRed e .engineRed s
      ∀ m : Moved, (restoreData e false (red.putEng e { red.eng e with failing := 0 })).1 = some m → s.get (LE.STATUS.STATE e) = 2 → s.get (LE.CTRL.FOVR e) = 1 →
      Ends (.engineFailover e true) s (fun t => t.get (LE.STATUS.STATE e) = 5 ∧ t.get (LE.STATUS.STATE q) = 4 ∧
        t.get (LE.CTRL.OWNER q) = s.get (LE.CTRL.OWNER e) ∧ t.get (LE.LAW.NOPS q) = s.get (LE.LAW.NOPS e) ∧
        t.get (LE.LAWCRC.CRC q) = s.get (LE.LAWCRC.CRC e) ∧ t.get ENG.FOLOG.FROM = e.val ∧ t.get ENG.FOLOG.TO = q ∧
        t.get ENG.FOLOG.RESULT = 1 ∧ (t.eng q).agreed = (s.eng e).agreed)) ∧
    (s.get (LE.STATUS.STATE e) = 5 → (s.eng e).failing = 0 → exec (.engineFailover e false) s = .next s) ∧
    -- R125: the spare is ready when its restore time has passed
    (s.get (LE.STATUS.STATE e) = 4 → s.get (ISL.STAT.STATE (4 + e / 3)) = 0 → s.windowOwed e = false → (s.eng e).due ≠ 0 →
      WritesFrom (s.advanceTo (s.eng e).due) (.restoreDone e) s [(LE.STATUS.STATE e, 2), (ENG.SPARES.SPARE,
        if bitOf (s.get ENG.SPARES.SPARE) e then s.get ENG.SPARES.SPARE - 2 ^ e.val else s.get ENG.SPARES.SPARE)] id)

/-- R134 to R147, R148 to R151: The reel unit: enabling and disabling a reel, writing its memory, windows, updates and the scrub. Saving,
loading and clearing a reel. The header of a save is written when the transfer ends. That the entries move at the row that starts the
transfer, after a record command that came before (log entry 43), for which reel an entry is met (log entry 146), and that a window still
to come does nothing (log entry 13), is the model's choice. -/
def Obligations.Reels : Prop :=
  (∀ (s : State) (a : Owner) (r : Fin 64), s.Settled a →
     let n := 256 * 2 ^ s.get (RL.CTRL.SIZE r)
     let at_ (i : Nat) : Nat := 0x01200000 + 256 * s.get (RL.CTRL.BASE r) + i
     let size (v : Word) : Nat := v.toNat / 2 ^ 16 % 8
     let base (v : Word) : Nat := v.toNat / 2 ^ 8 % 2 ^ 8
     let eng (v : Word) : Nat := v.toNat / 2 ^ 23 % 2 ^ 5
     (a ≠ 0 → s.get (ISL.STAT.STATE 25) = 0 →
       -- R135, R136: a place and an engine that are free of other reels
       (∀ v : Word, v.toNat % 2 = 1 → s.get (RL.CTRL.OWNER r) = 0 → s.get (RL.CTRL.EN r) = 0 → size v < 6 → base v % 2 ^ size v = 0 →
         eng v < 24 → s.xfer = none → (∀ q : Fin 64, s.get (RL.CTRL.EN q) = 0) → Ends (.reelEnable a r v) s (fun t =>
           t.get (RL.CTRL.EN r) = 1 ∧ t.get (RL.CTRL.OWNER r) = a.toNat ∧ t.get (RL.CTRL.SIZE r) = size v ∧
           t.get (RL.CTRL.BASE r) = base v ∧ t.get (RL.CTRL.ENG r) = eng v ∧ t.get (RL.STATUS.ACTIVE r) = 1 ∧
           t.get (RL.STATUS.CFGERR r) = 0 ∧ t.get (RL.CNT.MISSCNT r) = 0 ∧ (t.reel r).first = true ∧ SameMem s t ∧
           t.bus = ⟨a.toNat, .ok, 0, 0⟩)) ∧
       (∀ (q : Fin 64) (v : Word), v.toNat % 2 = 1 → s.get (RL.CTRL.OWNER r) = 0 → s.get (RL.CTRL.EN r) = 0 → q ≠ r →
         s.get (RL.CTRL.EN q) = 1 → size v < 6 → base v % 2 ^ size v = 0 → base v + 2 ^ size v ≤ 256 → eng v < 24 →
         (∀ p : Fin 64, p ≠ q → s.get (RL.CTRL.EN p) = 0) → (∀ x ∈ s.xfer, x.reel ≠ r.val) → s.get (RL.CTRL.BASE q) ≤ base v →
         base v < s.get (RL.CTRL.BASE q) + 2 ^ s.get (RL.CTRL.SIZE q) → Ends (.reelEnable a r v) s (fun t =>
           t.get (RL.CTRL.EN r) = 0 ∧ t.get (RL.STATUS.CFGERR r) = 1 ∧ t.get (RL.STATUS.OVLP r) = q.val)) ∧
       (∀ v : Word, v.toNat % 2 = 0 → s.get (RL.CTRL.EN r) = 1 → s.get (RL.CTRL.OWNER r) = a.toNat →
         Ends (.reelDisable a r v) s (fun t => t.get (RL.CTRL.EN r) = 0 ∧ t.get (RL.CTRL.OWNER r) = 0 ∧
           t.get (RL.STATUS.ACTIVE r) = 0 ∧ t.get (RL.STATUS.WIN r) = 0 ∧ (t.reel r).win = none ∧
           t.reelQ = s.reelQ.filter (fun q => q.1 != r.val) ∧ SameMem s t ∧ t.bus = ⟨a.toNat, .ok, 0, 0⟩)) ∧
       -- R137: an entry of a reel that is not enabled, by its owner
       (∀ (i : BitVec 16) (v : Word), s.reelHas r i.toNat = true → s.get (RL.CTRL.OWNER r) = a.toNat →
         (∀ q : Fin 64, s.get (RL.CTRL.EN q) = 0) → Ends (.reelMemWrite a i v) s (fun t => t.rd (0x01200000 + i.toNat) = v.toNat ∧
           SameMemBut s t (0x01200000 + i.toNat) 1 ∧ t.fields = s.fields ∧ t.bus = ⟨a.toNat, .ok, 0, 0⟩)) ∧
       (∀ (i : BitVec 16) (v : Word), s.reelHas r i.toNat = true → s.get (RL.CTRL.EN r) = 1 →
         Writes (.reelMemWrite a i v) s [] (fun u => u.setBus ⟨a.toNat, .busOwn, 0, 0⟩))) ∧
     -- R138: the scrub
     (∀ i : BitVec 16, s.markAt (0x01200000 + i.toNat) = none → exec (.reelScrub i none) s = .next s) ∧
     (∀ i : BitVec 16, s.markAt (0x01200000 + i.toNat) = some true → Ends (.reelScrub i none) s (fun t =>
       t.rd (0x01200000 + i.toNat) = 0 ∧ SameMemBut s t (0x01200000 + i.toNat) 1 ∧ t.markAt (0x01200000 + i.toNat) = none ∧
       t.get (RL.STATUS.DUE (s.reelAt i.toNat)) = 1 ∧ t.reports = s.reports ++ [⟨.reelDue, elReel (s.reelAt i.toNat), 0, false⟩])) ∧
     -- R142: the first window, around the present angle
     (s.get (RL.CTRL.EN r) = 1 → (s.reel r).first = true → s.reelQ = [] → s.marks = [] →
       let mid := ((((s.pfAngle (s.get (RL.CTRL.CH r)) * n / 2 ^ 20 : Nat) : Int) + sgn 12 (s.get (RL.LRN.LEAD r))) % (n : Int)).toNat
       Writes (.reelWindow r) s [(RL.STATUS.WIN r, 1)] (fun u => u.putReel r { u.reel r with
         win := some ⟨(mid + n - 7) % n, (List.range 16).map (fun k => s.rd (at_ (((mid + n - 7) % n + k) % n))), n,
           sgn 12 (s.get (RL.LRN.LEAD r)), sgn 8 (s.get (RL.LRN.REXP r))⟩
         req := (u.reel r).req
         first := false })) ∧
     -- R142, R147: a later window, around the p̂ of the oldest run that has none yet, after the updates of that run
     (∀ (h : Nat) (rest : List (Nat × Nat)), s.get (RL.CTRL.EN r) = 1 → (s.reel r).first = false → (s.reel r).req = (h, 0) :: rest →
       s.marks = [] → Writes (.reelWindow r) s [(RL.STATUS.WIN r, 1)] (fun u => u.putReel r { u.reel r with
         win := some ⟨(h % n + n - 7) % n, (List.range 16).map (fun k => s.rd (at_ (((h % n + n - 7) % n + k) % n))), n,
           sgn 12 (s.get (RL.LRN.LEAD r)), sgn 8 (s.get (RL.LRN.REXP r))⟩
         req := rest
         first := false })) ∧
     (∀ (h k : Nat) (rest : List (Nat × Nat)), (s.reel r).first = false → (s.reel r).req = (h, k + 1) :: rest →
       exec (.reelWindow r) s = .next s) ∧
     -- R144: an update of one entry, without smoothing, within its limit
     (∀ (i : Nat) (err : Dy), s.reelQ = [(r.val, i, err)] → s.xfer = none → s.marks = [] → s.reelFrozen r = false → i < n →
       s.get (RL.CTRL.SMOOTH r) = 0 →
       let g : Dy := ⟨(s.get (RL.LRN.GAIN r) : Nat), -16⟩
       let v := wordMant (s.rd (at_ i)) + (g.mul err).round (35 - sgn 8 (s.get (RL.LRN.REXP r)))
       let lim : Int := (s.get (RL.LIMIT.LIMIT r) : Nat)
       Ends .reelUpdate s (fun t => t.rd (at_ i) = unsgn 36 (clampInt (-lim) lim v) ∧ SameMemBut s t (at_ i) 1 ∧
         t.get (RL.UPD.UPD r) = (s.get (RL.UPD.UPD r) + 1) % 2 ^ (RL.UPD.UPD r).w ∧ t.reelQ = [])) ∧
     -- R145: while learning is frozen, the update is counted and lost
     (∀ (i : Nat) (err : Dy), s.reelQ = [(r.val, i, err)] → s.xfer = none → s.reelFrozen r = true →
       Writes .reelUpdate s [(RL.CNT.FRZCNT r, min (s.get (RL.CNT.FRZCNT r) + 1) (2 ^ (RL.CNT.FRZCNT r).w - 1))]
         (fun u => (u.setReelQ []).putReel r { u.reel r with req := (u.reel r).req.map (fun q => (q.1, q.2 - 1)) }))) ∧
  (∀ (s : State) (a : Owner) (r : Fin 64), s.Settled a → a ≠ 0 → s.get (ISL.STAT.STATE 25) = 0 → s.get (RL.CTRL.OWNER r) = a.toNat →
     let n := 256 * 2 ^ s.get (RL.CTRL.SIZE r)
     let at_ (i : Nat) : Nat := 0x01200000 + 256 * s.get (RL.CTRL.BASE r) + i
     let ents := (List.range n).map (fun i => s.rd (at_ i))
     let head := [0x7E1 * 2 ^ 24 + s.get (RL.LRN.REXP r) * 2 ^ 16 + s.get (RL.CTRL.SIZE r) * 2 ^ 13, crc32Words ents,
       s.get (RL.UPD.UPD r), 0]
     let adr := s.get REELS.XADR.ADDR
     let runs (cmd stat : Nat) (hd : List Nat) (x : Nat) (t : State) : Prop := t.xfer = some ⟨r.val, cmd, stat, hd, x, [], false⟩ ∧
       t.get REELS.XRES.PENDING = 1 ∧ t.get (RL.STATUS.XFER r) = 1 ∧ t.bus = ⟨a.toNat, .ok, 0, 0⟩
     (s.xfer = none → s.get (RL.CTRL.SIZE r) < 6 → s.get (RL.CTRL.BASE r) + 2 ^ s.get (RL.CTRL.SIZE r) ≤ 256 → s.marks = [] →
       ((ddrWrites a.toNat (adr + 4) ents s).resp = .ok →
         Ends (.saveDdr a r) s (fun t => runs 1 0 head adr t ∧ t.mem = (ddrWrites a.toNat (adr + 4) ents s).st.mem)) ∧
       (∀ ws : List Nat, (ddrReads adr (n + 4) s).1 = some ws → s.imageOk r ws ((ws.drop 4).take n) = true →
         s.get (RL.CTRL.EN r) = 0 → Ends (.loadDdr a r) s (fun t => runs 2 0 [] 0 t ∧
           (∀ i : Fin 8192, i.val < n → t.rd (at_ i) = (ws.drop 4).getD i 0) ∧ SameMemBut s t (at_ 0) n)) ∧
       (∀ (left : List (Nat × List Nat)) (u : State),
         let todo := (rows15 ((n + 14) / 15) ents).zipIdx.map (fun q => (adr % 64 + 1 + q.2, q.1))
         let save (left : List (Nat × List Nat)) (late : Bool) (t : State) : Prop :=
           t.xfer = some ⟨r.val, 3, 0, padTo 15 head, adr % 64, left, late⟩ ∧ t.get REELS.XRES.PENDING = 1 ∧
             t.get (RL.STATUS.XFER r) = 1 ∧ t.bus = ⟨a.toNat, .ok, 0, 0⟩
         s.get FLASH.RSSTAT.STATE = 2 → s.get (RL.CTRL.SIZE r) ≤ 1 → adr % 64 + 1 + (n + 14) / 15 ≤ 48 →
         (writeRecs todo s = (left, u) → s.recs.cmd = none → Ends (.saveRec a r) s (fun t => save left false t ∧ t.mem = u.mem)) ∧
         -- R346: a record command that came before is executed first
         (s.recs.cmd ≠ none → Ends (.saveRec a r) s (fun t => save todo true t ∧ t.mem = s.mem))) ∧
       (∀ ws : List Nat, s.recs.cmd = none → (readRecs (adr % 64) (1 + (n + 14) / 15) s).1 = some ws → s.imageOk r ws ((ws.drop 15).take n) = true →
         s.get (RL.CTRL.EN r) = 0 → s.get (RL.CTRL.SIZE r) ≤ 1 → adr % 64 + 1 + (n + 14) / 15 ≤ 48 →
         Ends (.loadRec a r) s (fun t => runs 4 0 [] 0 t ∧ ∀ i : Fin 8192, i.val < n → t.rd (at_ i) = (ws.drop 15).getD i 0)) ∧
       (s.get (RL.CTRL.EN r) = 0 → Ends (.zero a r) s (fun t => runs 5 0 [] 0 t ∧
         (∀ i : Fin 8192, i.val < n → t.rd (at_ i) = 0) ∧ SameMemBut s t (at_ 0) n))) ∧
     -- R148: a transfer of an enabled reel, and one while another runs
     (s.xfer = none → s.get (RL.CTRL.EN r) = 1 → Writes (.zero a r) s [(REELS.XRES.STATUS, 1), (REELS.XRES.EN, 1),
       (REELS.XRES.PENDING, 0), (REELS.XRES.REEL, r.val), (REELS.XRES.CMD, 5)] (fun u => u.setBus ⟨a.toNat, .ok, 0, 0⟩)) ∧
     (∀ x : Xfer, s.xfer = some x → Writes (.zero a r) s [(REELS.XRES.STATUS, 8), (REELS.XRES.EN, s.get (RL.CTRL.EN r)),
       (REELS.XRES.PENDING, 1), (REELS.XRES.REEL, r.val), (REELS.XRES.CMD, 5)] (fun u => u.setBus ⟨a.toNat, .ok, 0, 0⟩)) ∧
     -- R148, R150: the end
     (∀ x : Xfer, s.xfer = some x → x.head = [] → x.late = false → (x.cmd = 3 → x.stat ≠ 0) → x.stat < 16 → x.reel < 64 → x.cmd < 6 →
       Writes (.reelXferDone false) s [(RL.STATUS.XFER x.reel, 0), (REELS.XRES.STATUS, x.stat), (REELS.XRES.EN, s.get (RL.CTRL.EN x.reel)), (REELS.XRES.PENDING, 0),
         (REELS.XRES.REEL, x.reel), (REELS.XRES.CMD, x.cmd)] (fun u => u.setXfer none)) ∧
     (s.xfer = some ⟨r.val, 1, 0, head, adr, [], false⟩ → (ddrWrites a.toNat adr head s).resp = .ok →
       Ends (.reelXferDone false) s (fun t => t.xfer = none ∧ t.get REELS.XRES.STATUS = 0 ∧ t.get REELS.XRES.PENDING = 0 ∧
         t.mem = (ddrWrites a.toNat adr head s).st.mem)) ∧
     -- R149, R150: the header record of a save comes last
     (∀ (h : List Nat) (i : Nat) (recs : List (Nat × List Nat)) (u : State), s.xfer = some ⟨r.val, 3, 0, h, i, recs, false⟩ →
       s.get FLASH.RSSTAT.STATE = 2 → writeRecs (recs ++ [(i, h)]) s = ([], u) →
       Ends (.reelXferDone false) s (fun t => t.xfer = none ∧ t.get REELS.XRES.STATUS = 0 ∧ t.get REELS.XRES.PENDING = 0 ∧
         t.mem = u.mem)) ∧
     -- R151: a load that fails while it writes leaves the whole reel zero
     (s.xfer = some ⟨r.val, 2, 0, [], 0, [], false⟩ → s.get (RL.CTRL.BASE r) + 2 ^ s.get (RL.CTRL.SIZE r) ≤ 256 →
       Ends (.reelXferDone true) s (fun t => t.xfer = none ∧ t.get REELS.XRES.STATUS = 4 ∧
         (∀ i : Fin 8192, i.val < n → t.rd (at_ i) = 0) ∧ SameMemBut s t (at_ 0) n)))

/-- R103 to R112, R101, R103, R108, R112: A data-path op that issues live at the engine's position sends its result on its way, to land
after the op's latency, and the position moves on; nothing else changes. X_i is the operand the pass offers. Where nothing is on its way,
the result of an op of one cycle stands in its register when it has issued; an op that the word at the position is not does nothing. Where
a result lands: a sum at the stage exponent of its register, held to 35 bits; an op that is skipped leaves the registers alone; an
uncorrectable error in the op word takes the engine to Red. That a near result lies within eight units of the exact one where R109 gives a
bound (log entry 39), that an op that is not the word does nothing (log entry 35), and what CROT's angle (log entry 175) and SVM of a negative
h (log entry 174) leave open, is the model's choice. -/
def Obligations.LawDataPaths : Prop :=
  (∀ (s : State) (e : Fin 24),
     let g := s.eng e
     let w := s.lawWord e
     let r := g.pass.reads g.sign
     let x := r.x
     let d := bits w 24 6
     let a := bits w 18 6
     let b := bits w 12 6
     let out (n lat : Nat) (rs : List LawRes) (u : State) : State := u.putEng e { u.eng e with
       pass := (((u.eng e).pass.issue lat rs).pass g.sign n).advance }
     let half (i : Nat) (hi : Bool) : Int := r.half i hi
     let two (hi lo : Int) : List LawRes := .halves d (clampInt (-32767) 32767 hi) (clampInt (-32767) 32767 lo) ::
       (if clampInt (-32767) 32767 hi = hi ∧ clampInt (-32767) 32767 lo = lo then [] else [.qovf])
     let p := 2 * (d % 2)
     let q := 2 * (a % 2)
     let sh := clampInt (-8) 8 (sgn 5 (bits w 0 5))
     s.get (LE.STATUS.STATE e) = 2 → g.phase ≠ 0 → s.markAt (engBase e + g.pass.pc) = none → g.pass.dead = false →
     -- control and the plain values
     (opcOf w = 0x00 → Writes (.lawNop e) s [] (out 1 1 [])) ∧
     (opcOf w = 0x01 → Writes (.lawWait e) s [] (out (max 1 (bits w 0 6)) 1 [])) ∧
     (opcOf w = 0x08 → Writes (.lawAdd e) s [] (out 1 1 [.val d ((x a).add (x b))])) ∧
     (opcOf w = 0x09 → Writes (.lawSub e) s [] (out 1 1 [.val d ((x a).sub (x b))])) ∧
     (opcOf w = 0x0A → Writes (.lawNeg e) s [] (out 1 1 [.val d (x a).neg])) ∧
     (opcOf w = 0x0B → Writes (.lawMov e) s [] (out 1 1 [.val d (x a)])) ∧
     (opcOf w = 0x0C → Writes (.lawMul e) s [] (out 1 3 [.val d ((x a).mul (x b))])) ∧
     (opcOf w = 0x0D → Writes (.lawMac e) s [] (out 1 3 [.val d ((x d).add ((x a).mul (x b)))])) ∧
     (opcOf w = 0x0E → Writes (.lawScl e) s [] (out 1 1 [.val d ((x a).scale (sgn 7 (bits w 0 7)))])) ∧
     (opcOf w = 0x0F → Writes (.lawNorm e) s [] (out 1 2 [.norm (bits w 9 3) (bits w 0 6)])) ∧
     (opcOf w = 0x10 → (x b).abs.lt (x a) = true → Writes (.lawSats e) s [] (out 1 1 [.val d (x b).abs, .flag true])) ∧
     (opcOf w = 0x10 → (x b).abs.lt (x a) = false → (x a).lt (x b).abs.neg = false →
       Writes (.lawSats e) s [] (out 1 1 [.val d (x a), .flag false])) ∧
     (opcOf w = 0x10 → (x b).abs.lt (x a) = false → (x a).lt (x b).abs.neg = true →
       Writes (.lawSats e) s [] (out 1 1 [.val d (x b).abs.neg, .flag true])) ∧
     (opcOf w = 0x11 → (x (b + 1)).lt (x b) = true →
       Writes (.lawSata e) s [] (out 1 1 [.val d ((x b).add (x (b + 1))).half, .flag true])) ∧
     (opcOf w = 0x11 → (x (b + 1)).lt (x b) = false → (x a).lt (x b) = true →
       Writes (.lawSata e) s [] (out 1 1 [.val d (x b), .flag true])) ∧
     (opcOf w = 0x11 → (x (b + 1)).lt (x b) = false → (x a).lt (x b) = false → (x (b + 1)).lt (x a) = true →
       Writes (.lawSata e) s [] (out 1 1 [.val d (x (b + 1)), .flag true])) ∧
     (opcOf w = 0x11 → (x (b + 1)).lt (x b) = false → (x a).lt (x b) = false → (x (b + 1)).lt (x a) = false →
       Writes (.lawSata e) s [] (out 1 1 [.val d (x a), .flag false])) ∧
     (opcOf w = 0x12 → Writes (.lawAbs e) s [] (out 1 1 [.val d (x a).abs])) ∧
     (opcOf w = 0x13 → Writes (.lawMax e) s [] (out 1 1 [.val d ((x a).max (x b))])) ∧
     (opcOf w = 0x14 → Writes (.lawMin e) s [] (out 1 1 [.val d ((x a).min (x b))])) ∧
     (opcOf w = 0x15 → Writes (.lawCmp e) s [] (out 1 1 [.flag (if bits w 0 2 = 0 then (x b).lt (x a)
       else if bits w 0 2 = 1 then (x b).le (x a) else if bits w 0 2 = 2 then (x a).eq (x b) else !(x a).eq (x b))])) ∧
     (opcOf w = 0x16 → Writes (.lawSel e) s [] (out 1 1 [.val d (if g.pass.flag then x a else x b)])) ∧
     -- R109: near results lie at most eight units from the exact ones
     (opcOf w = 0x1C → bitOf w 0 = true → (x (a + 1)).m ≠ 0 ∨ 0 < (x a).m → ∃ j k : Int, -8 ≤ j ∧ j ≤ 8 ∧ -8 ≤ k ∧ k ≤ 8 ∧
       Writes (.lawCrot e) s [] (out 1 12
         [.near d (vecLen (x a) (x (a + 1))) j none, .near (d + 1) (vecAngle (x a) (x (a + 1))) k none])) ∧
     -- the angle is either half-turn of a vector along the negative first axis, and open of the null vector (log 175)
     (opcOf w = 0x1C → bitOf w 0 = true → (x (a + 1)).m = 0 → (x a).m < 0 →
       let h := vecAngle (x a) (x (a + 1))
       ∃ j k : Int, -8 ≤ j ∧ j ≤ 8 ∧ -8 ≤ k ∧ k ≤ 8 ∧
         (Writes (.lawCrot e) s [] (out 1 12 [.near d (vecLen (x a) (x (a + 1))) j none, .near (d + 1) h k none]) ∨
          Writes (.lawCrot e) s [] (out 1 12 [.near d (vecLen (x a) (x (a + 1))) j none, .near (d + 1) h.neg k none]))) ∧
     (opcOf w = 0x1C → bitOf w 0 = true → (x (a + 1)).m = 0 → (x a).m = 0 → ∃ j m : Int, -8 ≤ j ∧ j ≤ 8 ∧ -(2 ^ 35) < m ∧ m < 2 ^ 35 ∧
       Writes (.lawCrot e) s [] (out 1 12 [.near d (vecLen (x a) (x (a + 1))) j none, .mant (d + 1) m])) ∧
     (opcOf w = 0x1C → bitOf w 0 = false → ∃ j k : Int, -8 ≤ j ∧ j ≤ 8 ∧ -8 ≤ k ∧ k ≤ 8 ∧ Writes (.lawCrot e) s [] (out 1 12
       [.near d (rotX (x a) (x (a + 1)) (x b)) j none, .near (d + 1) (rotY (x a) (x (a + 1)) (x b)) k none])) ∧
     (opcOf w = 0x1D → (x b).m ≠ 0 → Writes (.lawDiv e) s [] (out 1 20 [.quo d (x a) (x b)])) ∧
     (opcOf w = 0x1D → (x b).m = 0 → Writes (.lawDiv e) s [] (out 1 20 [.mant d
       (if (x a).m = 0 then 0 else if (x a).m < 0 then -(2 ^ 35 - 1) else 2 ^ 35 - 1), .ovf (d / 8)])) ∧
     (opcOf w = 0x1E → 0 ≤ (x a).m → Writes (.lawSqrt e) s [] (out 1 22 [.root d (x a), .flag false])) ∧
     (opcOf w = 0x1E → (x a).m < 0 → Writes (.lawSqrt e) s [] (out 1 22 [.val d Dy.zero, .flag true])) ∧
     (opcOf w = 0x20 → let n := (x a).add ((x (a + 1)).scale 1)
       ∃ k : Int, -8 ≤ k ∧ k ≤ 8 ∧ Writes (.clk e) s [] (out 1 2 [.val d (x a),
         .near (d + 1) ⟨n.m * (fixOne * fixOne / fixRoot3), n.e - 320⟩ k none])) ∧
     (opcOf w = 0x21 → ∃ j k : Int, -8 ≤ j ∧ j ≤ 8 ∧ -8 ≤ k ∧ k ≤ 8 ∧ Writes (.park e) s [] (out 1 4
       [.near d (rotX (x a) (x (a + 1)) (x b).neg) j none, .near (d + 1) (rotY (x a) (x (a + 1)) (x b).neg) k none])) ∧
     (opcOf w = 0x22 → ∃ j k : Int, -8 ≤ j ∧ j ≤ 8 ∧ -8 ≤ k ∧ k ≤ 8 ∧ Writes (.ipark e) s [] (out 1 4
       [.near d (rotX (x a) (x (a + 1)) (x b)) j none, .near (d + 1) (rotY (x a) (x (a + 1)) (x b)) k none])) ∧
     (opcOf w = 0x23 → (x (b + 1)).m ≤ 0 → Writes (.svm e) s [] (out 1 6
       [.val d (x b).half, .val (d + 1) (x b).half, .val (d + 2) (x b).half, .flag true])) ∧
     -- the limits 0 and h of a negative h leave its compare values open (log 174)
     (opcOf w = 0x23 → 0 < (x (b + 1)).m → (x b).m < 0 → ∃ i j k : Int, (∀ m ∈ [i, j, k], -(2 ^ 35) < m ∧ m < 2 ^ 35) ∧
       Writes (.svm e) s [] (out 1 6 [.mant d i, .mant (d + 1) j, .mant (d + 2) k, .flag false])) ∧
     (opcOf w = 0x23 → 0 < (x (b + 1)).m → 0 ≤ (x b).m →
       let q := ((x (a + 1)).mul (Dy.ofFix fixRoot3)).half
       let vb := (x a).half.neg.add q
       let vc := (x a).half.neg.sub q
       let v0 := (((((x a).max vb).max vc).add (((x a).min vb).min vc)).half).neg
       let one (i : Nat) (v : Dy) (k : Int) : LawRes := .near (d + i) (svmOne (x b) (v.add v0) (x (b + 1))) k (some (x b))
       ∃ i j k : Int, -8 ≤ i ∧ i ≤ 8 ∧ -8 ≤ j ∧ j ≤ 8 ∧ -8 ≤ k ∧ k ≤ 8 ∧
         Writes (.svm e) s [] (out 1 6 [one 0 (x a) i, one 1 vb j, one 2 vc k, .flag false])) ∧
     -- R105: the fast path; FN 1 crosses the halves, FN 2 subtracts
     (opcOf w = 0x30 →
       let fn := bits w 0 12
       let one (i : Nat) (v : Int) : List LawRes :=
         let u := r.acc i + if fn = 2 then -v else v
         let m := clampInt (1 - 2 ^ 39) (2 ^ 39 - 1) u
         .acc i m :: if m = u then [] else [.qovf]
       Writes (.qmac2 e) s [] (out 1 2 (one p (half a true * half b (decide (fn ≠ 1))) ++
         one (p + 1) (half a false * half b (decide (fn = 1)))))) ∧
     (opcOf w = 0x31 → Writes (.qld e) s [] (out 1 1 [.acc p (half a true * 2 ^ 15), .acc (p + 1) (half a false * 2 ^ 15)])) ∧
     (opcOf w = 0x32 → Writes (.qout e) s [] (out 1 2
       (two ((Dy.ofInt (r.acc q)).round (sh - 15)) ((Dy.ofInt (r.acc (q + 1))).round (sh - 15))))) ∧
     (opcOf w = 0x33 → Writes (.qadd e) s [] (out 1 1 (two (half a true + half b true) (half a false + half b false)))) ∧
     (opcOf w = 0x34 → Writes (.qtob e) s [] (out 1 1 [.val d ⟨half a (bitOf w 0), -15⟩])) ∧
     (opcOf w = 0x35 → Writes (.btoq e) s [] (out 1 1 (two ((x a).round 15) ((x b).round 15))))) ∧
  (∀ (s : State) (e : Fin 24),
     let g := s.eng e
     let w := s.lawWord e
     let a := bits w 18 6
     let b := bits w 12 6
     let d := bits w 24 6
     let m (i : Nat) : Int := clampInt (1 - 2 ^ 35) (2 ^ 35 - 1) (g.pass.x.getD i 0)
     s.get (LE.STATUS.STATE e) = 2 → g.phase = 1 → opcOf w = 0x08 →
     (s.markAt (engBase e + g.pass.pc) = none → g.pass.dead = false → g.pass.flight = [] → g.pass.x.length = 64 → d < 64 →
       g.pass.seOf a = g.pass.seOf d → g.pass.seOf b = g.pass.seOf d → Ends (.lawAdd e) s (fun t =>
         (t.eng e).pass.x[d]? = some (clampInt (1 - 2 ^ 35) (2 ^ 35 - 1) (m a + m b)) ∧
         (∀ i : Fin 64, i.val ≠ d → (t.eng e).pass.x[i.val]? = g.pass.x[i.val]?) ∧
         (bitOf (t.eng e).pass.ovf (d / 8) = (bitOf g.pass.ovf (d / 8) ||
           decide (clampInt (1 - 2 ^ 35) (2 ^ 35 - 1) (m a + m b) ≠ m a + m b))) ∧
         (t.eng e).pass.flight = [] ∧ (t.eng e).pass.cyc = g.pass.cyc + 1 ∧ t.fields = s.fields ∧ SameMem s t)) ∧
     (s.markAt (engBase e + g.pass.pc) = none → g.pass.dead = true → g.pass.flight = [] → Ends (.lawAdd e) s (fun t =>
       (t.eng e).pass.x = g.pass.x ∧ (t.eng e).pass.ovf = g.pass.ovf ∧ (t.eng e).pass.flight = [] ∧
       (t.eng e).pass.log = g.pass.log ∧ t.fields = s.fields ∧ SameMem s t)) ∧
     (s.due (engBase e + g.pass.pc) = true → Ends (.lawAdd e) s (fun t => t.get (LE.STATUS.STATE e) = 5 ∧ (t.eng e).phase = 0 ∧
       (t.eng e).failing = 2 ∧ t.reports = s.reports ++ [⟨.engineRed, elEngine e, 0, false⟩]))) ∧
  -- every data-path op, where nothing is on its way: the result of an op of one cycle stands in its register when the op has
  -- issued, and an op that is skipped changes no register; an op that the word at the engine's position is not does nothing
  (∀ (s : State) (e : Fin 24),
     let g := s.eng e
     let w := s.lawWord e
     let x := (g.pass.reads g.sign).x
     let d := bits w 24 6
     let a := bits w 18 6
     let b := bits w 12 6
     let sat (m : Int) : Int := clampInt (1 - 2 ^ 35) (2 ^ 35 - 1) m
     let runs : Prop := s.get (LE.STATUS.STATE e) = 2 ∧ g.phase = 1 ∧ s.markAt (engBase e + g.pass.pc) = none ∧ g.pass.flight = []
     let ops : List (Instr × Nat) := [(.lawNop e, 0x00), (.lawWait e, 0x01), (.lawAdd e, 0x08), (.lawSub e, 0x09), (.lawNeg e, 0x0A),
       (.lawMov e, 0x0B), (.lawMul e, 0x0C), (.lawMac e, 0x0D), (.lawScl e, 0x0E), (.lawNorm e, 0x0F), (.lawSats e, 0x10),
       (.lawSata e, 0x11), (.lawAbs e, 0x12), (.lawMax e, 0x13), (.lawMin e, 0x14), (.lawCmp e, 0x15), (.lawSel e, 0x16),
       (.lawCrot e, 0x1C), (.lawDiv e, 0x1D), (.lawSqrt e, 0x1E), (.clk e, 0x20), (.park e, 0x21), (.ipark e, 0x22), (.svm e, 0x23),
       (.qmac2 e, 0x30), (.qld e, 0x31), (.qout e, 0x32), (.qadd e, 0x33), (.qtob e, 0x34), (.btoq e, 0x35)]
     (∀ q ∈ [(Instr.lawSub e, 0x09, (x a).sub (x b)), (.lawNeg e, 0x0A, (x a).neg), (.lawMov e, 0x0B, x a),
         (.lawScl e, 0x0E, (x a).scale (sgn 7 (bits w 0 7))), (.lawAbs e, 0x12, (x a).abs), (.lawMax e, 0x13, (x a).max (x b)),
         (.lawMin e, 0x14, (x a).min (x b)), (.lawSel e, 0x16, if g.pass.flag then x a else x b)],
       runs → g.pass.dead = false → opcOf w = q.2.1 → d < g.pass.x.length → Ends q.1 s (fun t =>
         (t.eng e).pass.x = g.pass.x.set d (sat (q.2.2.round (35 - g.pass.seOf d))) ∧ (t.eng e).pass.flag = g.pass.flag ∧
         (t.eng e).pass.flight = [] ∧ (t.eng e).pass.cyc = g.pass.cyc + 1 ∧ t.fields = s.fields ∧ SameMem s t)) ∧
     (∀ q ∈ ops, runs → g.pass.dead = true → opcOf w = q.2 → Ends q.1 s (fun t => (t.eng e).pass.x = g.pass.x ∧
       (t.eng e).pass.fa = g.pass.fa ∧ (t.eng e).pass.flag = g.pass.flag ∧ (t.eng e).pass.ovf = g.pass.ovf ∧
       (t.eng e).pass.flight = [] ∧ (t.eng e).pass.cyc = g.pass.cyc + (if q.2 = 0x01 then max 1 (bits w 0 6) else 1) ∧
       t.fields = s.fields ∧ SameMem s t)) ∧
     (∀ q ∈ ops, opcOf w ≠ q.2 → exec q.1 s = .next s))

/-- R108 to R112, R116, R119 to R121, R140, R143: Ops that read memory, inputs and reels, the effects of a take and their check in the
retake, SKIP, REP and END. What a revert carries where no value was agreed before is free (log entry 38), and that END drops the
results still on their way is the model's choice (log entry 172). -/
def Obligations.LawMemoryOps : Prop :=
  (∀ (s : State) (e : Fin 24),
    let g := s.eng e
    let w := s.lawWord e
    let x := (g.pass.reads g.sign).x
    let d := bits w 24 6
    let a := bits w 18 6
    let k := bits w 0 10
    let ex := sgn 8 (bits w 10 8)
    let out (lat : Nat) (rs : List LawRes) (f : LawPass → LawPass) (u : State) : State := u.putEng e { u.eng e with
      pass := (((f (u.eng e).pass).issue lat rs).pass g.sign 1).advance }
    s.get (LE.STATUS.STATE e) = 2 → g.phase = 1 → s.marks = [] → g.pass.dead = false → g.pass.flight = [] →
    (opcOf w = 0x18 →
      let i := (trdPos w (x a)).1
      let c (j : Nat) : Dy := ⟨wordMant (s.rd (engConst e (bits w 8 10 + j))), -35⟩
      Writes (.trd e) s [] (out 4 [.val d ((c i).add ((trdPos w (x a)).2.mul ((c (i + 1)).sub (c i))))] id)) ∧
    (opcOf w = 0x2C → Writes (.ldc e) s [] (out 2 [.val d (ofMant (wordMant (s.rd (engConst e k))) ex)] id)) ∧
    (opcOf w = 0x2A → g.pass.view = [] → Writes (.lds e) s [] (out 2 [.val d (ofMant (wordMant (s.rd (engState e k))) ex)] id)) ∧
    -- R110: the trigger stamp, and a parameter register
    (opcOf w = 0x28 → bits w 15 3 = 4 → g.inputs = [] → g.pass.ins = 0 → Writes (.sin e) s [] (fun u =>
      out 1 [.val d (Dy.ofInt g.stamp)] (fun p => { p with ins := 1 }) (u.putEng e { u.eng e with inputs := [Dy.ofInt g.stamp] }))) ∧
    (opcOf w = 0x28 → bits w 15 3 = 5 → g.inputs = [] → g.pass.ins = 0 →
      let v := ofMant (wordMant (s.get (LE.PARAM.PARAM e (bits w 0 4)))) (sgn 8 (bits w 7 8))
      Writes (.sin e) s [] (fun u => out 1 [.val d v] (fun p => { p with ins := 1 }) (u.putEng e { u.eng e with inputs := [v] }))) ∧
    -- R108, R119, R43: the effects of a take are logged; in EARLY release a POUT leaves at once
    (opcOf w = 0x29 → s.get (LE.CTRL.REL e) = 1 → Writes (.pout e none) s []
      (out 1 [] (fun p => { p with log := p.log ++ [.pout (bits w 11 7) (bits w 9 2) ((x a).round 0)] }))) ∧
    (opcOf w = 0x29 → s.get (LE.CTRL.REL e) = 0 → bits w 11 7 < 96 → Writes (.pout e none) s [] (fun u =>
      out 1 [] (fun p => { p with log := p.log ++ [.pout (bits w 11 7) (bits w 9 2) ((x a).round 0)] })
        (u.setPortWrites (u.portWrites ++ [⟨0x10 + e, bits w 11 7, bits w 9 2, (x a).round 0, g.stamp, false⟩])))) ∧
    (opcOf w = 0x2B →
      let v := clampInt (1 - 2 ^ 35) (2 ^ 35 - 1) ((x a).round (35 - ex))
      Writes (.sts e none) s [] (out 2 [.word k v] (fun p => { p with log := p.log ++ [.sts k v] }))) ∧
    -- R139 to R141, R143: a reel that is not bound reads zero and is told of; a teaching error is logged
    (opcOf w = 0x19 → g.latched = [] → Writes (.rrd e) s [] (fun u => out 3 [.val d Dy.zero] id
      (u.setReports (u.reports ++ [⟨.reelUnbound, elReel (bits w 0 6), 0x10 + e, false⟩])))) ∧
    (∀ l : Latched, g.latched = [l] → opcOf w = 0x19 → l.reel = bits w 0 6 → ∀ z : Window, l.win = some z → 0 < z.n →
      let i := reelIndex (x a) z.n
      let p := (((i : Int) + z.lead) % (z.n : Int)).toNat
      ∀ v : Dy, z.entry p = some v → Writes (.rrd e) s [] (out 3 [.val d v] (fun q => { q with
        played := (l.reel, i, p) :: q.played.filter (fun y => y.1 != l.reel) }))) ∧
    (∀ l : Latched, g.latched = [l] → opcOf w = 0x1A → l.reel = bits w 0 6 → ∀ i p : Nat, g.pass.played = [(l.reel, i, p)] →
      Writes (.rlrn e none) s [] (out 1 [] (fun q => { q with
        log := q.log ++ [.rlrn l.reel ⟨1 * (x a).m, (x a).e⟩ true (some i)] }))) ∧
    -- R108: SKIP on X_A = 0, REP of a live count
    (opcOf w = 0x03 → bits w 8 4 = 0 → Writes (.lawSkip e) s [] (out 1 [] (fun p => { p with
      skipFrom := if (x a).m = 0 then p.pc + 1 else 0
      skipTo := if (x a).m = 0 then p.pc + 1 + bits w 0 6 else 0 }))) ∧
    (opcOf w = 0x04 → g.pass.rep = none → bits w 0 6 ≠ 0 → bits w 8 8 ≠ 0 → Writes (.lawRep e) s [] (out 1 [] (fun p => { p with
      rep := some ⟨p.pc + 1, p.pc + bits w 0 6, bits w 8 8, 0, liveCount (x a) (bits w 8 8)⟩ }))) ∧
    -- R120: END of the take, and of a retake that agrees and stored one word
    (opcOf w = 0x02 → Writes (.lawEnd e 0) s [] (fun u => u.putEng e { u.eng e with
      phase := 2
      pass := LawPass.start
      take := some ⟨g.pass.log, g.pass.se, g.pass.ovf, g.pass.qovf, g.pass.sig, 0⟩ }))) ∧
  -- R43, R44, R119: the retake's POUT is checked against the take's entry: agreed, it leaves now in CHECKED release; else, in EARLY
  -- release, the last agreed value goes out again as a revert
  (∀ (s : State) (e : Fin 24) (t : Closed) (v : Int),
    let g := s.eng e
    let w := s.lawWord e
    let p := bits w 11 7
    let cmp := bits w 9 2
    let x := g.sign * ((g.pass.reads g.sign).x (bits w 18 6)).round 0
    let on (u : EngSt) : EngSt := { u with pass := (({ g.pass with log := g.pass.log ++ [Effect.pout p cmp x] }.issue 1 []).pass g.sign 1).advance }
    let write (y : Int) (rev : Bool) : PWrite := ⟨0x10 + e, p, cmp, y, g.stamp, rev⟩
    s.get (LE.STATUS.STATE e) = 2 → g.phase = 2 → s.marks = [] → g.pass.dead = false → g.pass.flight = [] → opcOf w = 0x29 → p < 96 →
    g.take = some t → t.log[g.pass.log.length]? = some (.pout p cmp v) →
    (v = -x →
      (s.get (LE.CTRL.REL e) = 1 → Writes (.pout e none) s [] (fun u =>
        (u.setPortWrites (u.portWrites ++ [write v false])).putEng e (on (g.agree p cmp v)))) ∧
      (s.get (LE.CTRL.REL e) = 0 → Writes (.pout e none) s [] (fun u => u.putEng e (on (g.agree p cmp v))))) ∧
    (v ≠ -x →
      (s.get (LE.CTRL.REL e) = 1 → Writes (.pout e none) s [] (fun u => u.putEng e (on { g with bad := true }))) ∧
      (s.get (LE.CTRL.REL e) = 0 → Ends (.pout e none) s (fun u => u.eng e = on { g with bad := true } ∧ SameMem s u ∧
        ∃ y : Int, u.portWrites = s.portWrites ++ [write y true] ∧ ∀ q, g.agreed.find? (fun a => a.1 == p * 4 + cmp) = some q → y = q.2))))

/-- R120 to R122: The retake's END commits an agreed run: a word that the take stored reaches the state, its negation the
negative image, and RUNS counts; a run that agrees in neither way takes the engine to Red. -/
def Obligations.RunsCommit : Prop :=
  ∀ (s : State) (e : Fin 24),
    let g := s.eng e
    s.get (LE.STATUS.STATE e) = 2 → s.marks = [] → opcOf (s.lawWord e) = 0x02 →
    (∀ t : Closed, g.take = some t → g.phase = 2 → g.bad = false → (g.pass.close 0).matches t = true → g.latched = [] →
      s.get (LE.CTRL.FOVR e) = 0 → s.rushes = [] → g.disarm = false →
      ∀ (i : Fin 1024) (v : Int), t.log = [.sts i v] → g.pass.log = [.sts i (-v)] → -(2 ^ 35) < v → v < 2 ^ 35 →
      Ends (.lawEnd e 0) s (fun u => u.rd (engState e i) = unsgn 36 v ∧ u.engNegW e i = unsgn 36 (-v) ∧
        SameMemBut s u (engState e i) 1 ∧ u.get (LE.RUNS.RUNS e) = (s.get (LE.RUNS.RUNS e) + 1) % 2 ^ 36 ∧
        (u.eng e).phase = 0 ∧ u.get (LE.STATUS.OVF e) = s.get (LE.STATUS.OVF e) ||| t.ovf % 2 ^ (LE.STATUS.OVF e).w)) ∧
    (∀ t : Closed, g.take = some t → ∀ r : Closed, g.retake = some r → g.phase = 3 → (g.pass.close 0).agreesTake t = false →
      (g.pass.close 0).agreesRetake r = false → Ends (.lawEnd e 0) s (fun u => u.get (LE.STATUS.STATE e) = 5 ∧ (u.eng e).phase = 0 ∧
        SameMem s u ∧ u.reports = s.reports ++ [⟨.engineRed, elEngine e, 0, false⟩]))

/-- R4, R12, R13, R17, R27 to R29, R352, R405, R457: Accesses of the bus. A write of a word that the map does not list ends with BUS_MAP,
as does any access whose island sleeps; a Grey island holds the access until its clock has restarted; read-only fields keep their values;
the host's own words refuse other agents, and those of a core that does not exist are not listed. An access whose frames fail four times
on the management channel, or that times out, ends with BUS_MAP and its report, and raises the cause of the core that made it. The element
of CHANNEL_TIMEOUT (log entry 19), that the oldest held access goes first (log entry 18), and the failing frames as an operand (log entry
103), are the model's choice. -/
def Obligations.BusAccess : Prop :=
  ∀ (s : State) (a : Owner) (v : Word), s.Settled a →
    -- R269: a core meets its own section of the Cue at the first 0x1000 words too
    (∀ (c : Fin 8) (j : Fin 0x1000), a.toNat = 1 + c → exec (.registerWrite a (BitVec.ofNat 32 (0x02040000 + j)) v) s =
      exec (.registerWrite a (BitVec.ofNat 32 (0x02041000 + 0x1000 * c + j)) v) s) ∧
    -- R276: no write of the core waits for its token
    ((∀ c : Fin 8, a.toNat = 1 + c → (s.core c).held = []) →
    (∀ (q : Addr) (i : Nat), 0x02000000 ≤ q.toNat → q.toNat < 0x02140000 → islandOf q.toNat = some i →
      (1 ≤ a.toNat → a.toNat ≤ 8 → q.toNat < 0x02040000 ∨ 0x02041000 ≤ q.toNat) →
      (s.island i = 0 → s.regMapped q.toNat = false →
        Writes (.registerWrite a q v) s [] (fun u => u.setBus ⟨a.toNat, .busMap, 0, 0⟩)) ∧
      (2 ≤ s.island i → Writes (.registerWrite a q v) s [] (fun u => u.setBus ⟨a.toNat, .busMap, 0, 0⟩)) ∧
      (s.island i = 1 → Writes (.registerWrite a q v) s []
        (fun u => u.setHeld (u.held ++ [⟨a.toNat, q.toNat, i, some v.toNat⟩])))) ∧
    (∀ k : Fin 4, s.island 26 = 0 → Writes (.registerWrite a (BitVec.ofNat 32 (SYS.UID.adr k)) v) s []
      (fun u => u.setBus ⟨a.toNat, .ok, 0, 0⟩)) ∧
    (s.island 27 = 0 → Writes (.registerWrite a (BitVec.ofNat 32 DDR.CFG.adr) v) s
      [(DDR.CFG.XTR, v.toNat / 2 ^ 11 % 2), (DDR.CFG.SPEED, v.toNat / 2 ^ 8 % 2 ^ 3), (DDR.CFG.WIDTH, v.toNat / 2 ^ 6 % 2 ^ 2),
        (DDR.CFG.DENS, v.toNat / 2 ^ 4 % 2 ^ 2), (DDR.CFG.RANKS, v.toNat % 2 ^ 2)] (fun u => u.setBus ⟨a.toNat, .ok, 0, 0⟩)) ∧
    -- R457: a word of an enabled channel: the locked field keeps its value, and WREJ tells of another; the field that is not locked is written
    (∀ n : Fin 16, a ≠ 0 → s.island 16 = 0 → s.get (PF.CTRL.OWNER n) = a.toNat → s.get (PF.CTRL.EN n) = 1 →
      Writes (.registerWrite a (BitVec.ofNat 32 (PF.AUX.adr n)) v) s [(PF.AUX.IXTOL n, v.toNat % 2 ^ 16), (PF.STATUS.WREJ n,
        if v.toNat / 2 ^ 18 = s.get (PF.AUX.HSEQ n) then s.get (PF.STATUS.WREJ n) else 1)] (fun u => u.setBus ⟨a.toNat, .ok, 0, 0⟩)) ∧
    -- R4: a 1 clears a W1C field, a 0 keeps it; the fields beside it are read-only
    (∀ b : Fin 68, s.island (min 24 (20 + b / 16)) = 0 → Writes (.registerWrite a (BitVec.ofNat 32 (BANKS.STATUS.adr b)) v) s
      [(BANKS.STATUS.CE b, if v.toNat % 2 = 1 then 0 else s.get (BANKS.STATUS.CE b)),
        (BANKS.STATUS.DUE b, if v.toNat / 2 % 2 = 1 then 0 else s.get (BANKS.STATUS.DUE b))] (fun u => u.setBus ⟨a.toNat, .ok, 0, 0⟩)) ∧
    -- R4, R217: an RWS field reads as written, and what it held governs the core until SYNC
    (∀ c : Fin 8, a.toNat = 1 + c → s.island (c % 4) = 0 → s.coreExists c = true →
      Ends (.registerWrite a (BitVec.ofNat 32 (CUE.HOLDMAX.adr c)) v) s (fun t => t.get (CUE.HOLDMAX.HOLDMAX c) = v.toNat % 2 ^ 12 ∧
        t.gov c (CUE.HOLDMAX.HOLDMAX c) = s.gov c (CUE.HOLDMAX.HOLDMAX c) ∧ SameMem s t ∧ t.bus = ⟨a.toNat, .ok, 0, 0⟩ ∧
        ∀ r : FRef, r.key ≠ (CUE.HOLDMAX.HOLDMAX c).key → t.get r = s.get r)) ∧
    -- a word of the host link; a core that the device does not have has no such word
    (∀ c : Fin 8, s.island 30 = 0 →
      (s.coreExists c = false → Writes (.registerWrite a (BitVec.ofNat 32 (CTU.FPCORE.adr c)) v) s []
        (fun u => u.setBus ⟨a.toNat, .busMap, 0, 0⟩)) ∧
      (s.coreExists c = true → a.toNat = 0x40 → Writes (.registerWrite a (BitVec.ofNat 32 (CTU.FPCORE.adr c)) v) s
        [(CTU.FPCORE.LVCORE c, v.toNat / 2 ^ 4 % 2 ^ 4), (CTU.FPCORE.HEIR c, v.toNat % 2 ^ 4)]
        (fun u => u.setBus ⟨0x40, .ok, 0, 0⟩)) ∧
      (s.coreExists c = true → a.toNat ≠ 0x40 → Writes (.registerWrite a (BitVec.ofNat 32 (CTU.FPCORE.adr c)) v) s []
        (fun u => u.setBus ⟨a.toNat, .busOwn, 0, 0⟩)))) ∧
    -- the held access that is made when its island runs again; a core's instruction goes on
    (∀ (h : HeldAccess) (rest : List HeldAccess), s.held = h :: rest → h.data = none → s.island h.island = 1 → 4 ≤ h.island →
      h.island < 32 →
      (9 ≤ h.agent → Writes .greyAccessResume s [(ISL.STAT.STATE h.island, 0)] (fun u => u.setHeld rest)) ∧
      (∀ c : Fin 8, h.agent = 1 + c → (s.core c).sync = none → Writes .greyAccessResume s [(ISL.STAT.STATE h.island, 0)]
        (fun u => (u.setHeld rest).putCore c { u.core c with resume := true }))) ∧
    (∀ (h : HeldAccess) (rest : List HeldAccess), s.held = h :: rest →
      ∀ n : Fin 16, h = ⟨a.toNat, DMA.SRC.adr n, 24, some v.toNat⟩ → a ≠ 0 → s.get (DMA.CTRL.OWNER n) = a.toNat →
      s.get (DMA.STATUS.STATE n) = 1 → s.island 24 ≤ 1 →
      Writes .greyAccessResume s [(ISL.STAT.STATE 24, 0), (DMA.SRC.SRC n, v.toNat)]
        (fun u => (u.setHeld rest).setBus ⟨a.toNat, .ok, 0, 0⟩)) ∧
    -- no response in 1,024 cycles
    (∀ q : Addr, 0x10 ≤ a.toNat → Writes (.accessTimeout a q) s []
      (fun u => (u.setReports (u.reports ++ [⟨.channelTimeout, 0x800 + agentIsland a.toNat, q.toNat, false⟩])).setBus
        ⟨a.toNat, .busMap, 0, 0⟩)) ∧
    (∀ (q : Addr) (c : Fin 8), a.toNat = 1 + c → s.coreExists c = true → (s.core c).level < 7 →
      Ends (.accessTimeout a q) s (fun t => t.reports = s.reports ++ [⟨.channelTimeout, 0x800 + c % 4, q.toNat, false⟩] ∧
        t.bus = ⟨a.toNat, .busMap, 0, 0⟩ ∧ (t.core c).sync.map (fun x => (x.1.code, x.1.xarg)) = some (6, q.toNat))) ∧
    -- the management channel: a fourth failed frame ends the access
    (∀ (k : Fin 5) (d : Option Word),
      (k.val = 4 → a.toNat = 0 ∨ 9 ≤ a.toNat → Writes (.mgmtAccess a (BitVec.ofNat 32 PORTS.CUTSTAT.adr) d k) s []
        (fun u => (u.setReports (u.reports ++ [⟨.spliceCrc, 0, PORTS.CUTSTAT.adr, false⟩])).setBus ⟨a.toNat, .busMap, 0, 0⟩)) ∧
      (∀ c : Fin 8, k.val = 4 → a.toNat = 1 + c → s.coreExists c = true → (s.core c).level < 7 →
        Ends (.mgmtAccess a (BitVec.ofNat 32 PORTS.CUTSTAT.adr) d k) s (fun t =>
          t.reports = s.reports ++ [⟨.spliceCrc, 0, PORTS.CUTSTAT.adr, false⟩] ∧ t.bus = ⟨a.toNat, .busMap, 0, 0⟩ ∧
          (t.core c).sync.map (fun x => (x.1.code, x.1.xarg)) = some (6, PORTS.CUTSTAT.adr))) ∧
      (k.val < 4 → Ends (.mgmtAccess a (BitVec.ofNat 32 PORTS.CUTSTAT.adr) none k) s (fun t =>
        t = s.setBus ⟨a.toNat, .ok, 0, t.bus.lo⟩ ∧ t.bus.lo % 2 = s.get PORTS.CUTSTAT.LATCH))) ∧
    -- debug reads and writes of a bank: only while access is open, without regard to ownership
    (let tap (u : State) : State := u.setSec { u.sec with scan := [], tap := .busacc, dr := [] }
     (∀ (q : Addr) (b : Nat), bankOf? q.toNat = some b → b < 64 → s.island (20 + b / 16) = 0 →
      (s.debugOpen = false →
        Writes (.busacc q none) s [(DBG.STATUS.TAP, 1)] (fun u => (tap u).setBus ⟨0x44, .busOwn, 0, 0⟩) ∧
        Writes (.busacc q (some v)) s [(DBG.STATUS.TAP, 1)] (fun u => (tap u).setBus ⟨0x44, .busOwn, 0, 0⟩)) ∧
      (s.debugOpen = true → s.get (BANKS.STATUS.RED b) = 0 → s.markAt q.toNat = none →
        Writes (.busacc q none) s [(DBG.STATUS.TAP, 1)] (fun u => (tap u).setBus ⟨0x44, .ok, 0, s.rd q.toNat⟩)) ∧
      (s.debugOpen = true → s.get (BANKS.OWNER.OWNER b) = 0x44 → s.get (BANKS.STATUS.RED b) = 0 →
        Writes (.busacc q (some v)) s [(DBG.STATUS.TAP, 1)]
          (fun u => ((tap u).store q.toNat v.toNat).setBus ⟨0x44, .ok, 0, 0⟩))) ∧
     -- R29, R330: BUS_MAP of a flash bank under erase goes before BUS_OWN
     (∀ q : Addr, q.toNat < 0x500000 → s.island 26 = 0 → s.debugOpen = false → s.erasing (flashBank q.toNat) = true →
       Ends (.busacc q none) s (fun t => t.bus = ⟨0x44, .busMap, 0, 0⟩ ∧ SameMem s t)))

/-- R31, R33, R316, R317, R314, R316, R317: A DMA channel is enabled and disabled, starts a transfer by GO or by an event, and ends a
transfer with bad arguments at once. One word of a DMA transfer between banks: COPY and FILL move it, PACK gathers sixteen words into nine
granules of DDR4; a failed access ends the transfer with its response and address, and a dense block that fails leaves the registers at
its start; a write that port A meets at the same word in the same cycle answers COLLIDE; the last word ends it as done. The channels in
RUN take turns, the one after the last served first. That a dense block that fails puts SRC and CNT back (log entry 49), that a channel
whose turn it is not does nothing (log entries 13 and 125), and the collision as an operand (log entry 10), is the model's choice. -/
def Obligations.DmaTransfers : Prop :=
  (∀ (s : State) (a : Owner) (n : Fin 16), s.Settled a → a ≠ 0 → s.island 24 = 0 →
     let ok : State → State := fun u => u.setBus ⟨a.toNat, .ok, 0, 0⟩
     let mine : Prop := s.get (DMA.CTRL.EN n) = 1 ∧ s.get (DMA.CTRL.OWNER n) = a.toNat
     let fields (v : Word) : List (FRef × Nat) := [(DMA.CTRL.RET n, v.toNat / 2 ^ 20 % 2 ^ 8),
       (DMA.CTRL.MODE n, v.toNat / 2 ^ 18 % 2 ^ 2), (DMA.CTRL.SINC n, v.toNat / 2 ^ 17 % 2),
       (DMA.CTRL.DINC n, v.toNat / 2 ^ 16 % 2), (DMA.CTRL.TRG n, v.toNat / 2 ^ 15 % 2), (DMA.CTRL.EVN n, v.toNat / 2 ^ 6 % 2 ^ 9),
       (DMA.CTRL.EVQ n, v.toNat / 2 ^ 5 % 2), (DMA.CTRL.RLD n, v.toNat / 2 ^ 4 % 2)]
     (∀ v : Word, v.toNat % 4 = 1 → s.get (DMA.CTRL.EN n) = 0 → s.get (DMA.CTRL.OWNER n) = 0 →
       s.get (SYS.CLM.OWNER (0x700 + n)) = 0 →
       Writes (.dmaEnable a n v) s (fields v ++ [(DMA.CTRL.EN n, 1), (DMA.CTRL.OWNER n, a.toNat), (DMA.STATUS.STATE n, 1),
         (SYS.CLM.OWNER (0x700 + n), a.toNat), (SYS.CLM.FEATURE (0x700 + n), 0x500 + n), (SYS.FST.STATE (0x500 + n), 1),
         (SYS.FST.CRES (0x500 + n), 0), (SYS.FST.HOLDER (0x500 + n), 0)]) ok) ∧
     (∀ v : Word, v.toNat % 4 = 0 → mine → s.get (SYS.CLM.OWNER (0x700 + n)) = a.toNat →
       s.get (SYS.CLM.FEATURE (0x700 + n)) = 0x500 + n →
       Writes (.dmaDisable a n v) s (fields v ++ [(DMA.CTRL.EN n, 0), (DMA.CTRL.OWNER n, 0), (DMA.STATUS.STATE n, 0),
         (SYS.CLM.OWNER (0x700 + n), 0), (SYS.CLM.FEATURE (0x700 + n), 0), (SYS.FST.STATE (0x500 + n), 0),
         (SYS.FST.CRES (0x500 + n), 0), (SYS.FST.HOLDER (0x500 + n), 0)])
         (fun u => (u.putDma n { DmaSt.atReset n with last := (u.dma n).last }).setBus ⟨a.toNat, .ok, 0, 0⟩)) ∧
     (∀ v : Word, v.toNat % 4 = 3 → v.toNat / 2 ^ 28 = a.toNat → mine →
       let src := s.get (DMA.SRC.SRC n)
       let dst := s.get (DMA.DST.DST n)
       let cnt := s.get (DMA.CNT.CNT n)
       let mode := v.toNat / 2 ^ 18 % 2 ^ 2
       let st := s.get (DMA.STATUS.STATE n)
       -- COPY and FILL take every count but 0
       (mode = 0 ∨ mode = 3 → cnt ≠ 0 → st = 1 ∨ st = 3 ∨ st = 4 →
         Writes (.dmaGo a n v) s (fields v ++ [(DMA.STATUS.STATE n, 2), (DMA.STATUS.RESP n, 0)])
           (fun u => (u.putDma n ⟨src, dst, cnt, [], 0, (u.dma n).last⟩).setBus ⟨a.toNat, .ok, 0, 0⟩)) ∧
       -- PACK and UNPACK take whole blocks at an address of a block
       (mode = 1 → cnt % 16 = 0 → cnt ≠ 0 → 0x80000000 ≤ dst → (dst - 0x80000000) % 9 = 0 → st = 1 →
         Writes (.dmaGo a n v) s (fields v ++ [(DMA.STATUS.STATE n, 2), (DMA.STATUS.RESP n, 0)])
           (fun u => (u.putDma n ⟨src, dst, cnt, [], 0, (u.dma n).last⟩).setBus ⟨a.toNat, .ok, 0, 0⟩)) ∧
       (cnt = 0 ∨ (mode = 1 ∨ mode = 2) ∧ cnt % 16 ≠ 0 → st = 1 →
         Writes (.dmaGo a n v) s (fields v ++ [(DMA.STATUS.STATE n, 4), (DMA.STATUS.RESP n, 5)]) ok) ∧
       (st = 2 → Writes (.dmaGo a n v) s (fields v ++ [(DMA.STATUS.TOVR n, 1)]) ok)) ∧
     -- the channel's event
     (∀ e : Ev, s.nextEv (16 + n) (fun k => k == s.get (DMA.CTRL.EVN n)) = some e →
       s.get (DMA.CTRL.EN n) = 1 → s.get (DMA.CTRL.TRG n) = 1 →
       (s.get (DMA.STATUS.STATE n) = 2 →
         Writes (.dmaEventTrigger n) s [(DMA.STATUS.TOVR n, 1)] (fun u => u.sawEv (16 + n) e)) ∧
       (s.get (DMA.STATUS.STATE n) = 1 → s.dmaBad n = false →
         Writes (.dmaEventTrigger n) s [(DMA.STATUS.STATE n, 2), (DMA.STATUS.RESP n, 0)] (fun u => (u.sawEv (16 + n) e).putDma n
           ⟨s.get (DMA.SRC.SRC n), s.get (DMA.DST.DST n), s.get (DMA.CNT.CNT n), [], 0, (u.dma n).last⟩)))) ∧
  -- R318: round robin: the turn is the next channel's in RUN
  (∀ (s : State) (n m : Fin 16), s.dmaTurn = some n.val →
     s.get (DMA.STATUS.STATE n) = 2 ∧
     ((s.dma m).last = true → (∀ k : Fin 16, k < m → (s.dma k).last = false) → ∀ j : Fin 16, j.val < (n.val + 15 - m.val) % 16 →
       s.get (DMA.STATUS.STATE ((m.val + 1 + j.val) % 16)) ≠ 2)) ∧
  (∀ (s : State) (n : Fin 16) (hit : Bool), s.dmaTurn ≠ some n.val → exec (.dmaWord n hit) s = .next s) ∧
  (∀ (s : State) (n : Fin 16) (hit : Bool), s.dmaTurn = some n.val → (∀ i : Fin 32, s.island i = 0) →
     let src := s.get (DMA.SRC.SRC n)
     let dst := s.get (DMA.DST.DST n)
     let cnt := s.get (DMA.CNT.CNT n)
     let may (q : Nat) : Prop := (bankOf? q).any (fun b => decide (b < 64 ∧ s.get (BANKS.OWNER.OWNER b) = 0x30 + n ∧
       s.get (BANKS.STATUS.RED b) = 0 ∧ s.markAt q = none)) = true
     (s.get (DMA.CTRL.MODE n) = 0 → src < 2 ^ 32 → may src → may dst → dst + 1 < 2 ^ 32 →
       (2 ≤ cnt → Writes (.dmaWord n hit) s [(DMA.SRC.SRC n, src + s.get (DMA.CTRL.SINC n)), (DMA.DST.DST n, dst + s.get
         (DMA.CTRL.DINC n)), (DMA.CNT.CNT n, cnt - 1)] (fun u => (dmaServed n u).store dst (u.rd src))) ∧
       (cnt = 1 → s.get (DMA.CTRL.RLD n) = 0 → s.get (DMA.CTRL.RET n) = 0 → s.get (DMA.CTRL.EVQ n) = 1 →
         Writes (.dmaWord n hit) s [(DMA.SRC.SRC n, src + s.get (DMA.CTRL.SINC n)), (DMA.DST.DST n, dst + s.get (DMA.CTRL.DINC n)),
           (DMA.CNT.CNT n, 0), (DMA.STATUS.STATE n, 3)] (fun u => ((dmaServed n u).store dst (u.rd src)).raise (272 + n)))) ∧
     (s.get (DMA.CTRL.MODE n) = 3 → may dst → dst + 1 < 2 ^ 32 → 2 ≤ cnt →
       Writes (.dmaWord n hit) s [(DMA.DST.DST n, dst + s.get (DMA.CTRL.DINC n)), (DMA.CNT.CNT n, cnt - 1)]
         (fun u => (dmaServed n u).store dst src)) ∧
     (s.get (DMA.CTRL.MODE n) = 0 → src < 2 ^ 32 → ∀ b : Nat, bankOf? src = some b → b < 64 →
       s.get (BANKS.OWNER.OWNER b) ≠ 0x30 + n →
       Writes (.dmaWord n hit) s [(DMA.STATUS.STATE n, 4), (DMA.STATUS.RESP n, 2), (DMA.ERRADDR.ADDR n, src)]
         (fun u => dmaServed n u)) ∧
     -- R305: a mailbox word that port A writes in the same cycle
     (s.get (DMA.CTRL.MODE n) = 3 → ∀ b : Nat, bankOf? dst = some b → 64 ≤ b → s.get (BANKS.OWNER.OWNER b) = 0x30 + n →
       s.get (BANKS.STATUS.RED b) = 0 → hit = true →
       Writes (.dmaWord n hit) s [(DMA.STATUS.STATE n, 4), (DMA.STATUS.RESP n, 4), (DMA.ERRADDR.ADDR n, dst)]
         (fun u => dmaServed n u)) ∧
     (s.get (DMA.CTRL.MODE n) = 1 → may src → src + 1 < 2 ^ 32 →
       ((s.dma n).pos < 15 → 2 ≤ cnt → Writes (.dmaWord n hit) s [(DMA.SRC.SRC n, src + 1), (DMA.CNT.CNT n, cnt - 1)]
         (fun u => (dmaServed n u).putDma n { (dmaServed n u).dma n with
           buf := (u.dma n).buf ++ [u.rd src]
           pos := (u.dma n).pos + 1 })) ∧
       ((s.dma n).pos = 15 → 2 ≤ cnt → dst + 9 < 2 ^ 32 → (s.dma n).buf.length = 15 → (∀ v ∈ (s.dma n).buf, v < 2 ^ 36) →
         s.rd src < 2 ^ 36 →
         (∀ k < 9, s.ddrMapped (dst + k) = true ∧ s.ddrRefuses (0x30 + n) (dst + k) = false) →
         Ends (.dmaWord n hit) s (fun t => t.get (DMA.SRC.SRC n) = src + 1 ∧ t.get (DMA.DST.DST n) = dst + 9 ∧
           t.get (DMA.CNT.CNT n) = cnt - 1 ∧ (t.dma n).pos = 0 ∧ (t.dma n).buf = [] ∧
           unpackBlock ((List.range 9).map (fun k => t.rd (dst + k))) = (s.dma n).buf ++ [s.rd src] ∧ SameMemBut s t dst 9)) ∧
       -- R317: a block that fails within it is work not yet done
       ((s.dma n).pos = 15 → (s.dma n).pos ≤ src → src < 2 ^ 32 → cnt + 15 < 2 ^ (DMA.CNT.CNT n).w → dst < 2 ^ 32 →
         (∃ k < 9, s.ddrMapped (dst + k) = false) →
         Ends (.dmaWord n hit) s (fun t => t.get (DMA.STATUS.STATE n) = 4 ∧ t.get (DMA.STATUS.RESP n) = 1 ∧
           t.get (DMA.ERRADDR.ADDR n) = dst ∧ t.get (DMA.SRC.SRC n) = src - 15 ∧ t.get (DMA.CNT.CNT n) = cnt + 15 ∧
           (t.dma n).pos = 0 ∧ (t.dma n).buf = [] ∧ SameMem s t))))

/-- R7, R300, R304: The owner of a bank or mailbox. A free one takes any valid owner; only its owner hands it over, releases
it or names a peer; a release clears the peer. -/
def Obligations.BankOwners : Prop :=
  ∀ (s : State) (a : Owner) (b : Fin 68) (v : Word), s.Settled a → s.island (min 24 (20 + b / 16)) = 0 →
    let old := s.get (BANKS.OWNER.OWNER b)
    let new := v.toNat % 2 ^ 8
    let peer := v.toNat / 2 ^ 8 % 2 ^ 8
    let ok : State → State := fun u => u.setBus ⟨a.toNat, .ok, 0, 0⟩
    (old = 0 → new ≠ 0 → validOwner s.split new = true → Writes (.bankOwnerWrite a b v) s [(BANKS.OWNER.OWNER b, new)] ok) ∧
    (old = 0 → validOwner s.split new = false → Writes (.bankOwnerWrite a b v) s [] ok) ∧
    (old ≠ 0 → a.toNat ≠ old → Writes (.bankOwnerWrite a b v) s [] (fun u => u.setBus ⟨a.toNat, .busOwn, 0, 0⟩)) ∧
    (old ≠ 0 → a.toNat = old →
      (new ≠ 0 → validOwner s.split new = true → b < 64 →
        Writes (.bankOwnerWrite a b v) s [(BANKS.OWNER.OWNER b, new)] ok) ∧
      (new ≠ 0 → validOwner s.split new = true → validOwner s.split peer = true → 64 ≤ b →
        Writes (.bankOwnerWrite a b v) s [(BANKS.OWNER.OWNER b, new), (BANKS.OWNER.PEER b, peer)] ok) ∧
      (new = 0 → Writes (.bankOwnerWrite a b v) s [(BANKS.OWNER.OWNER b, 0), (BANKS.OWNER.PEER b, 0)] ok) ∧
      (validOwner s.split new = false → b < 64 → Writes (.bankOwnerWrite a b v) s [] ok))

/-- R306, R307, R308, R309, R310, R311, R312: The scrub of a bank takes the next word, corrects a single-bit error, leaves and reports
an uncorrectable one, takes the bank out at the eighth in a pass, and counts a round once every bank that is not Red has completed a
pass, also where the last of them goes Red. INIT trains the DDR4 channel or refuses its configuration; training ends READY with the
installed regions or FAILED; the patrol reads burst after burst and meets errors as a read does. That RES is 0 when training ends (log
entry 47) is the model's choice. -/
def Obligations.BanksAndDdr : Prop :=
  (∀ (s : State) (b : Fin 68),
     let x := s.bank b
     let q := bankBase b + x.pos
     let on (dues : Nat) : State → State := fun u => u.putBank b ⟨x.pos + 1, dues, x.passed⟩
     (s.get (BANKS.STATUS.RED b) = 1 → exec (.bankScrub b none) s = .next s) ∧
     (s.get (BANKS.STATUS.RED b) = 0 → x.pos + 1 < bankLen b → x.dues < 8 →
       (s.markAt q = none → Writes (.bankScrub b none) s [] (on x.dues)) ∧
       (s.markAt q = some false → Writes (.bankScrub b none) s
         [(BANKS.STATUS.CECNT b, min (s.get (BANKS.STATUS.CECNT b) + 1) (2 ^ (BANKS.STATUS.CECNT b).w - 1)), (BANKS.STATUS.CE b, 1),
           (BANKS.ERR.KIND b, 0), (BANKS.ERR.OFFSET b, x.pos)]
         (fun u => on x.dues ((u.unmark q).setReports (u.reports ++ [⟨.bankEcc, 0x300 + b, 0, false⟩])))) ∧
       (s.markAt q = some true → x.dues < 7 → Writes (.bankScrub b none) s
         [(BANKS.STATUS.DUECNT b, min (s.get (BANKS.STATUS.DUECNT b) + 1) (2 ^ (BANKS.STATUS.DUECNT b).w - 1)),
           (BANKS.STATUS.DUE b, 1), (BANKS.ERR.KIND b, 1), (BANKS.ERR.OFFSET b, x.pos)]
         (fun u => on (x.dues + 1) (u.setReports (u.reports ++ [⟨.bankDue, 0x300 + b, q, false⟩])))) ∧
       (s.markAt q = some true → x.dues = 7 → (∃ k : Fin 68, k ≠ b ∧ s.get (BANKS.STATUS.RED k) = 0 ∧ (s.bank k).passed = false) →
         Writes (.bankScrub b none) s
         [(BANKS.STATUS.DUECNT b, min (s.get (BANKS.STATUS.DUECNT b) + 1) (2 ^ (BANKS.STATUS.DUECNT b).w - 1)),
           (BANKS.STATUS.DUE b, 1), (BANKS.ERR.KIND b, 1), (BANKS.ERR.OFFSET b, x.pos), (BANKS.STATUS.RED b, 1)]
         (fun u => (u.putBank b ⟨x.pos, 8, x.passed⟩).setReports (u.reports ++ [⟨.bankDue, 0x300 + b, q, false⟩, ⟨.bankRed, 0x300 + b, 0, false⟩])))) ∧
     -- R307: a bank that goes Red may be the last that its round waits for
     (s.get (BANKS.STATUS.RED b) = 0 → x.pos < bankLen b → x.dues = 7 → s.markAt q = some true →
       (∀ k : Fin 68, k = b ∨ s.get (BANKS.STATUS.RED k) = 1 ∨ (s.bank k).passed = true) →
       Ends (.bankScrub b none) s (fun t => t.get BANKS.SCRUB.PASSES = (s.get BANKS.SCRUB.PASSES + 1) % 2 ^ 16 ∧
         t.get (BANKS.STATUS.RED b) = 1 ∧ (∀ k : Fin 68, (t.bank k).passed = false) ∧ t.mem = s.mem)) ∧
     -- the last word of a pass
     (s.get (BANKS.STATUS.RED b) = 0 → x.pos + 1 = bankLen b → x.dues < 8 → s.markAt q = none →
       ((∃ k : Fin 68, k ≠ b ∧ s.get (BANKS.STATUS.RED k) = 0 ∧ (s.bank k).passed = false) →
         Writes (.bankScrub b none) s [] (fun u => u.putBank b ⟨0, 0, true⟩)) ∧
       ((∀ k : Fin 68, k = b ∨ s.get (BANKS.STATUS.RED k) = 1 ∨ (s.bank k).passed = true) →
         Ends (.bankScrub b none) s (fun t => t.get BANKS.SCRUB.PASSES = (s.get BANKS.SCRUB.PASSES + 1) % 2 ^ 16 ∧
           (∀ k : Fin 68, t.bank k = if k = b then ⟨0, 0, false⟩ else { s.bank k with passed := false }) ∧
           t.reports = s.reports ∧ t.mem = s.mem)))) ∧
  (∀ (s : State) (a : Owner), s.Settled a →
     let w := s.get DDR.CFG.WIDTH
     let d := s.get DDR.CFG.DENS
     let r := s.get DDR.CFG.RANKS
     let gib := r * (8 * (d + 1) / (w + 1))
     let fits : Prop := s.get DDR.CFG.SPEED < 4 ∧ w < 2 ∧ d < 2 ∧ (r = 1 ∨ r = 2) ∧ gib ≤ 16
     (s.island 27 = 0 →
       (s.get DDR.STATUS.STATE = 1 → Writes (.ddrInit a) s [(DDR.STATUS.RES, 8)] (fun u => u.setBus ⟨a.toNat, .ok, 0, 0⟩)) ∧
       (s.get DDR.STATUS.STATE ≠ 1 → ¬ fits →
         Writes (.ddrInit a) s [(DDR.STATUS.RES, 4)] (fun u => u.setBus ⟨a.toNat, .ok, 0, 0⟩)) ∧
       (s.get DDR.STATUS.STATE ≠ 1 → fits → Writes (.ddrInit a) s [(DDR.STATUS.STATE, 1), (DDR.STATUS.REGIONS, 0)]
         (fun u => (u.setDdrCap gib).setBus ⟨a.toNat, .ok, 0, 0⟩))) ∧
     (s.get DDR.STATUS.STATE = 1 →
       Writes (.ddrInitDone true) s [(DDR.STATUS.STATE, 2), (DDR.STATUS.REGIONS, min 255 (16 * s.ddrCap)), (DDR.STATUS.RES, 0)] id ∧
       Writes (.ddrInitDone false) s [(DDR.STATUS.STATE, 3), (DDR.STATUS.REGIONS, 0), (DDR.STATUS.RES, 0)]
         (fun u => u.setReports (u.reports ++ [⟨.ddrTrain, 0, 0, false⟩]))) ∧
     -- the patrol
     (let q := 0x80000000 + s.patrol
      s.ddrMapped q = true → s.patrol % 8 = 0 → s.ddrMapped (q + 8) = true →
       ((∀ k : Fin 8, s.markAt (q + k) = none) →
         Writes (.ddrPatrol none) s [(DDR.PATROL.REGION, (s.patrol + 8) / 2 ^ 23)] (fun u => u.setPatrol (u.patrol + 8))) ∧
       (s.marks = [] → ∀ k : Fin 8,
         Writes (.ddrPatrol (some (BitVec.ofNat 32 (q + k), true))) s [(DDR.PATROL.REGION, (s.patrol + 8) / 2 ^ 23),
             (DDR.ERRADDR.ADDR, q + k), (DDR.ECC.DUECNT, min (s.get DDR.ECC.DUECNT + 1) (2 ^ 12 - 1))]
           (fun u => ((u.setMarks [(q + k, true)]).setPatrol (u.patrol + 8)).setReports (u.reports ++ [⟨.ddrDue, 0, q + k, false⟩])) ∧
         Writes (.ddrPatrol (some (BitVec.ofNat 32 (q + k), false))) s [(DDR.PATROL.REGION, (s.patrol + 8) / 2 ^ 23),
             (DDR.ECC.CECNT, min (s.get DDR.ECC.CECNT + 1) (2 ^ 16 - 1))]
           (fun u => (u.setPatrol (u.patrol + 8)).setReports (u.reports ++ [⟨.ddrEcc, 0, 0, false⟩])))) ∧
     (s.ddrMapped (0x80000000 + s.patrol) = true → s.ddrMapped (0x80000000 + s.patrol + 8) = false → s.marks = [] →
       Writes (.ddrPatrol none) s [(DDR.PATROL.REGION, 0), (DDR.PATROL.PASSES, (s.get DDR.PATROL.PASSES + 1) % 2 ^ 16)]
         (fun u => u.setPatrol 0)))

/-- R293 to R297: The oldest fault report is counted, reacted to and written to the log: four words in the next slot, its event and
status bit, one more SEQ; at 512 entries the oldest Amber entry gives way. A CUT-class fault requests CUT. Halves that do not agree,
and a silent half, request CUT. A reaction write on which the halves disagree (log entry 167), ACTION (log entry 40), the slot of an
entry (log entry 66), that the time of an entry is free before IS30's sync word (log entry 136), and that no report does nothing (log
entry 13), is the model's choice. -/
def Obligations.FaultLog : Prop :=
  ∀ s : State,
    let n := s.get CTU.LOGCTL.COUNT
    let q := s.ctu.seq
    let seen (u : State) (k : Nat) : State := u.setCtu { u.ctu with
      order := u.ctu.order ++ [k]
      seq := (q + 1) % 4096 }
    let cut (t : State) : Prop := t.get PORTS.CUTSTAT.LATCH = 1 ∧ t.get PORTS.CUTSTAT.SCTU = 1 ∧ t.get CTU.STATUS.CUTREQ = 1
    -- a standing source keeps the latch set
    let sound : Prop := s.get PORTS.CUTSTAT.SCTU = 0 ∨ s.get PORTS.CUTSTAT.LATCH = 1
    (s.reports = [] → exec (.faultReport true) s = .next s) ∧
    (∀ (r : Report) (rest : List Report), s.reports = r :: rest → rest.length < 64 → s.ctu.moves = [] → s.rushes = [] →
      (∀ k : Fin 3, (s.session k).phase ≠ 2) → q < 4096 → r.elem < 4096 →
      let entry (k : Nat) : List (FRef × Nat) :=
        [(CTU.LOG.W k 0, r.code.cls.num * 2 ^ 34 + r.code.num * 2 ^ 24 + r.elem * 2 ^ 12 + q), (CTU.LOG.W k 1, s.t % 2 ^ 36),
          (CTU.LOG.W k 2, (if r.again = true then 0 else r.code.action) * 2 ^ 28 + s.t / 2 ^ 36), (CTU.LOG.W k 3, r.info % 2 ^ 36), (CTU.LOGCTL.LAST, k),
          (CTU.FCNT.COUNT r.code.num, min (s.get (CTU.FCNT.COUNT r.code.num) + 1) (2 ^ 16 - 1))]
      (s.unsynced 30 = false → n < 512 → n ≠ 383 → r.code.cls = .amber → Writes (.faultReport true) s
        (entry n ++ [(CTU.LOGCTL.COUNT, n + 1), (CTU.STATUS.AMBER, 1)]) (fun u => (seen (u.setReports rest) n).raise 256)) ∧
      (s.unsynced 30 = false → n < 512 → n ≠ 383 → r.code.cls = .red → Writes (.faultReport true) s
        (entry n ++ [(CTU.LOGCTL.COUNT, n + 1), (CTU.STATUS.RED, 1)]) (fun u => (seen (u.setReports rest) n).raise 257)) ∧
      (s.unsynced 30 = false → n = 383 → r.code.cls = .amber → Writes (.faultReport true) s
        (entry n ++ [(CTU.LOGCTL.COUNT, n + 1), (CTU.STATUS.AMBER, 1)])
        (fun u => ((seen (u.setReports rest) n).raise 256).raise 259)) ∧
      (n = 512 → r.code.cls = .red → ∀ k : Nat, s.ctu.order.find? (fun i => s.get (CTU.LOG.W i 0) / 2 ^ 34 == 1) = some k →
        k < 512 → Ends (.faultReport true) s (fun t => t.get CTU.LOGCTL.COUNT = 512 ∧
          t.get CTU.LOGCTL.LOST = min (s.get CTU.LOGCTL.LOST + 1) (2 ^ 12 - 1) ∧ t.get CTU.LOGCTL.LAST = k ∧
          t.ctu.order = (s.ctu.order.filter (fun i => i != k)) ++ [k] ∧ (s.unsynced 30 = false → t.get (CTU.LOG.W k 1) = s.t % 2 ^ 36))) ∧
      -- R20: without a sync word since the start the entry has no time; its other words are the same
      (s.unsynced 30 = true → n < 383 → r.code.cls = .amber → Ends (.faultReport true) s (fun t => t.get CTU.LOGCTL.COUNT = n + 1 ∧
        t.ctu.order = s.ctu.order ++ [n] ∧ t.reports = rest ∧ t.get CTU.STATUS.AMBER = 1 ∧ t.get (CTU.LOG.W n 3) = r.info % 2 ^ 36 ∧
        t.get (CTU.LOG.W n 0) = r.code.cls.num * 2 ^ 34 + r.code.num * 2 ^ 24 + r.elem * 2 ^ 12 + q)) ∧
      (sound → r.code.cls = .cut → r.code.latchOnly = false →
        Ends (.faultReport true) s (fun t => cut t ∧ ∃ e ∈ t.events, e.num = 257)) ∧
      (r.code = .cutHost → Ends (.faultReport true) s (fun t => t.cut = s.cut)) ∧
      (sound → r.code.cls = .amber → n < 383 → Ends (.faultReport false) s (fun t => cut t ∧ t.get CTU.STATUS.DISAGREE = 1 ∧
        t.get CTU.LOGCTL.COUNT = n + 1))) ∧
    -- heartbeats
    (∀ h : Fin 2,
      let mine := if h = 0 then CTU.STATUS.AOK else CTU.STATUS.BOK
      Writes (.ctuHeartbeat h true) s [(mine, 1)] id ∧
      (sound → Ends (.ctuHeartbeat h false) s (fun t => t.get mine = 1 ∧ t.get CTU.STATUS.DISAGREE = 1 ∧ cut t ∧
        (∃ r ∈ t.reports, r.code = .ctuDisagree)))) ∧
    (∀ h : Fin 2,
      let mine := if h = 0 then CTU.STATUS.AOK else CTU.STATUS.BOK
      let other := if h = 0 then CTU.STATUS.BOK else CTU.STATUS.AOK
      (s.get other = 0 → Writes (.ctuSilent h) s [(mine, 0)] id) ∧
      (sound → s.get other = 1 → Ends (.ctuSilent h) s (fun t => t.get mine = 0 ∧ t.get CTU.STATUS.SILENT = 1 ∧ cut t))) ∧
    -- CLEAR of the log
    (∀ a : Owner, s.Settled a → s.island 30 = 0 →
      (a.toNat ≠ 0x40 → Writes (.logClear a) s [] (fun u => u.setBus ⟨a.toNat, .busOwn, 0, 0⟩)) ∧
      (a.toNat = 0x40 → Ends (.logClear a) s (fun t => t.get CTU.LOGCTL.COUNT = 0 ∧ t.get CTU.LOGCTL.LOST = 0 ∧
        t.get CTU.STATUS.DISAGREE = 0 ∧ t.ctu = { s.ctu with order := [] } ∧ (∀ k : Fin 256, t.get (CTU.FCNT.COUNT k) = 0) ∧
        (∀ (i : Fin 512) (j : Fin 4), t.get (CTU.LOG.W i j) = 0) ∧ t.bus = ⟨0x40, .ok, 0, 0⟩)))

/-- R275 to R280, R282, R292, R282 to R290: A mismatch on a lane takes a core in SERVICE or SPARE out and leaves its record, and a
fault of a core that is out already is told; scrub passes, whose CRCs are those of the words as the model lays them out (log entry
116), and test rounds count at their ticks; in SPLIT the checks are off. A core failover: every owner field of the failed core passes
to its heir, its routes go, a task moves exact, restarts, or is shed without a destination; its end is recorded and the core is
tested. The core commands answer in CORERES. That a SPARE core goes out too and the fault of a core that is out changes nothing (log
entry 118), the ticks of passes and rounds (log entry 117), what is withheld where the halves disagree (log entry 167), that MMSTAMP
stays before IS30's sync word (log entry 136), and the rows that do nothing (log entry 13), are the model's choice. -/
def Obligations.Failover : Prop :=
  (∀ (s : State) (c : Fin 4) (lane of_ : Fin 7) (addr x y : Word),
     let lost := (s.core c).inner.length + (s.core c).evs.length
     -- what a mismatch leaves: its record, the core on its way out, and the report; `b` is the state at its tick
     let out (b : State) (l a x y : Nat) (code : FaultCode) (t : State) : Prop :=
       t.get (CTU.MMINFO.VALID c) = 1 ∧ t.get (CTU.MMINFO.LANE c) = l ∧ t.get (CTU.MMADDR.ADDR c) = a ∧
         t.get (CTU.MMLEAD.LEAD c) = x ∧ t.get (CTU.MMTRAIL.TRAIL c) = y ∧
         t.get (CTU.MMSTAMP.STAMP c) = (if s.unsynced 30 = true then s.get (CTU.MMSTAMP.STAMP c) else b.stamp) ∧
         t.coreState c = 2 ∧ t.get CTU.STATUS.MOVING = 1 ∧
         ((∀ m ∈ s.ctu.moves, m.at_ ≠ b.t) → (t.ctu.moves.map (fun m => m.core)) = (s.ctu.moves.map (fun m => m.core)) ++ [c.val]) ∧
         t.reports = s.reports ++ [⟨code, 0x100 + c, l + lost % 256 * 256, false⟩] ∧ SameMem s t
     let fails (t : State) : Prop := t.get CTU.INJSTAT.FCORE = c ∧ t.get CTU.INJSTAT.FAILS = min (s.get CTU.INJSTAT.FAILS + 1) 255
     let fault : FaultCode := if lane.val = 5 then .coreScrub else if lane.val = 6 then .coreCheck else .coreMismatch
     let scrub := s.advanceTo (nextMultiple 96000 s.t (Tab.get (fun _ => 0) s.ctu.passes c))
     let passed (u : State) : State := u.setCtu { u.ctu with
       passes := Tab.set (fun _ => 0) u.ctu.passes c (nextMultiple 96000 s.t (Tab.get (fun _ => 0) s.ctu.passes c) + 1) }
     let test := s.advanceTo (nextMultiple 1500000 s.t s.ctu.round)
     let alive : Prop := s.coreState c = 1 ∨ s.coreState c = 4
     -- R292: in SPLIT every check is off
     (s.split = true → exec (.coreMismatch c lane addr x y of_) s = .next s ∧ (∀ fl, exec (.stateScrub c fl) s = .next s) ∧
       ∀ fl, exec (.checkerTest fl) s = .next s) ∧
     (¬ alive ∨ s.unsynced (coreIsland c) = true → ∀ fl, exec (.stateScrub c fl) s = .next s) ∧
     -- R20: nothing starts at a multiple before the sync word
     (s.unsynced 30 = true → ∀ fl, exec (.checkerTest fl) s = .next s) ∧
     (s.split = false →
       -- R280: a core in SERVICE or a SPARE one goes out
       (alive →
         (lane < 2 → Ends (.coreMismatch c lane addr x y of_) s (fun t => out s lane addr.toNat x.toNat y.toNat .coreMismatch t ∧
           (t.core c).held = [])) ∧
         (2 ≤ lane → lane < 6 → Ends (.coreMismatch c lane addr x y of_) s (out s lane 0 x.toNat y.toNat fault)) ∧
         -- R278: the output of a checker that is neither
         (lane = 6 → Ends (.coreMismatch c lane addr x y of_) s (fun t => out s 6 0 x.toNat y.toNat .coreCheck t ∧ fails t ∧
           t.get CTU.INJSTAT.FLANE = of_)) ∧
         -- R277: a scrub pass, in which lead and trail hold the same words or do not
         (∀ fl : List (Fin 930 × Word),
           let lead := scrubCrc (s.scrubWords c)
           let trail := scrubCrc (trailWords (s.scrubWords c) (fl.map (fun f => (f.1.val, f.2.toNat))))
           (s.unsynced (coreIsland c) = false → fl = [] ∨ lead = trail → WritesFrom scrub (.stateScrub c fl) s
             [(CTU.SCRSTAT.PASSES, (s.get CTU.SCRSTAT.PASSES + 1) % 2 ^ 16)] passed) ∧
           (s.unsynced (coreIsland c) = false → fl ≠ [] → lead ≠ trail → Ends (.stateScrub c fl) s (fun t => out scrub 5 0 lead trail .coreScrub t ∧
             t.get CTU.SCRSTAT.LCORE = c ∧ t.get CTU.SCRSTAT.MISM = min (s.get CTU.SCRSTAT.MISM + 1) 255 ∧
             t.get CTU.SCRSTAT.PASSES = (s.get CTU.SCRSTAT.PASSES + 1) % 2 ^ 16))) ∧
         (s.unsynced 30 = false → Ends (.checkerTest [(c, lane, x, y)]) s (fun t => out test 6 0 x.toNat y.toNat .coreCheck t ∧ fails t ∧
           t.get CTU.INJSTAT.FLANE = lane ∧ t.get CTU.INJSTAT.ROUNDS = (s.get CTU.INJSTAT.ROUNDS + 1) % 2 ^ 16))) ∧
       -- R295: the fault of a core that is out already is told
       (¬ alive → Ends (.coreMismatch c lane addr x y of_) s (fun t => t.coreState c = s.coreState c ∧ t.ctu = s.ctu ∧
         t.reports = s.reports ++ [⟨fault, 0x100 + c, lane, true⟩] ∧ SameMem s t)) ∧
       (s.unsynced 30 = false → WritesFrom test (.checkerTest []) s [(CTU.INJSTAT.ROUNDS, (s.get CTU.INJSTAT.ROUNDS + 1) % 2 ^ 16)]
         (fun u => u.setCtu { u.ctu with round := nextMultiple 1500000 s.t s.ctu.round + 1 })))) ∧
  (∀ (s : State) (c : Fin 8) (a : Owner), s.Settled a →
     (∀ (m : Move) (rest : List Move), s.ctu.moves = m :: rest →
       (m.done = none → m.seq ≠ none → m.core = c.val → ∀ h : Nat, s.heirOf m = some h → (∀ k : Fin 8, s.taskIs c k 0 = true) →
         Ends (.coreFailover 0) s (fun t => (∀ r ∈ ownerFields, t.get r = if s.get r = 1 + c then 1 + h else s.get r) ∧
           (∀ n : Fin 512, t.get (CUE.ROUTE.ACT c n) = 0) ∧ t.ctu.moves = { m with done := some (0, 0, 0) } :: rest ∧
           SameMem s t)) ∧
       (m.done = none → m.seq ≠ none → m.core = c.val → m.lv = 0 → s.heirOf m = none → (∀ k : Fin 8, s.taskIs c k 0 = !(k == 3)) →
         m.tasks.getD 3 ⟨0, 0, 0, false, 0⟩ = ⟨0, 0, 0, false, 0⟩ →
         Ends (.coreFailover 0) s (fun t => t.reports.take (s.reports.length + 2) =
           s.reports ++ [⟨.coreNone, 0, 0, false⟩, ⟨.taskShed, 0x100 + c, 3, false⟩] ∧ t.ctu.moves = { m with done := some (0, 0, 8) } :: rest)) ∧
       -- R276, R294: a reaction write on which the halves disagree is not performed, and their disagreement requests CUT
       (m.done = none → m.seq ≠ none → m.core = c.val → s.get PORTS.CUTSTAT.SCTU = 0 → (∀ k : Fin 8, s.taskIs c k 0 = true) →
         ∀ h : Nat, s.heirOf m = some h → ∀ b : Fin 68, Ends (.coreFailover 0 [BitVec.ofNat 32 (BANKS.OWNER.adr b)]) s (fun t =>
           t.get (BANKS.OWNER.OWNER b) = s.get (BANKS.OWNER.OWNER b) ∧ t.get CTU.STATUS.DISAGREE = 1 ∧ t.get PORTS.CUTSTAT.LATCH = 1 ∧
           (∀ r ∈ ownerFields, r.adr ≠ BANKS.OWNER.adr b → t.get r = if s.get r = 1 + c then 1 + h else s.get r) ∧ SameMem s t)) ∧
       -- R285, R286: one task, which its destination can take: an exact move, or a restart
       (∀ h q : Nat, m.done = none → m.seq = some q → m.core = c.val → s.heirOf m = some h → (∀ n : Fin 512, s.get (CUE.ROUTE.ACT c n) = 0) →
         ∀ k : Fin 8, (∀ j : Fin 8, s.taskIs c j 0 = (j != k)) →
         let d := m.tasks.getD k ⟨0, 0, 0, false, 0⟩
         let e := d.dest - 1
         let base := s.gov c (CUE.TCFG.BASE c k)
         let len := s.gov c (CUE.TCFG.LEN c k)
         let config (t : State) : Prop := t.get (CUE.TCFG.PRIO e d.dtask) = s.gov c (CUE.TCFG.PRIO c k) ∧
           t.get (CUE.TCFG.RSWRAP e d.dtask) = s.gov c (CUE.TCFG.RSWRAP c k) ∧ t.get (CUE.TCFG.LEN e d.dtask) = len ∧
           t.get (CUE.TCFG.BASE e d.dtask) = d.dbase ∧ t.get (CUE.CSA.SIZE e d.dtask) = s.gov c (CUE.CSA.SIZE c k) ∧
           t.get (CUE.CSA.ADDR e d.dtask) = s.gov c (CUE.CSA.ADDR c k)
         s.takes c k d = true → e < 8 → d.dtask < 8 → d.dbase < 32 → d.rpc < 2 ^ 32 →
         (d.exact = true → m.run ≠ some k.val → s.split = false → Ends (.coreFailover (BitVec.ofNat 8 (2 ^ k.val))) s (fun t =>
           config t ∧ t.get (CUE.TSTAT.STATE e d.dtask) = s.get (CUE.TSTAT.STATE c k) ∧
           t.get (CUE.TPC.PC e d.dtask) = s.get (CUE.TPC.PC c k) ∧ t.get (CUE.TSTAT.SAVED e d.dtask) = s.get (CUE.TSTAT.SAVED c k) ∧
           t.get (CUE.TSTAT.WDEP e d.dtask) = s.get (CUE.TSTAT.WDEP c k) ∧ t.get (CUE.TSTAT.RSDEP e d.dtask) = s.get (CUE.TSTAT.RSDEP c k) ∧
           t.get (CUE.WMASK.WMASK e d.dtask) = s.get (CUE.WMASK.WMASK c k) ∧ t.get (CUE.PEND.PEND e d.dtask) = s.get (CUE.PEND.PEND c k) ∧
           (∀ i < arcLen len, t.ring e ((d.dbase + i) % 32) = s.ring c ((base + i) % 32)) ∧
           t.ctu.moves = { m with done := some (2 ^ k.val, 0, 0) } :: rest ∧ t.reports = s.reports ∧ SameMem s t)) ∧
         (d.exact = false → Ends (.coreFailover 0) s (fun t => config t ∧ t.get (CUE.TSTAT.STATE e d.dtask) = 1 ∧
           t.get (CUE.TPC.PC e d.dtask) = d.rpc ∧ t.get (CUE.TSTAT.SAVED e d.dtask) = 0 ∧ t.get (CUE.TSTAT.WDEP e d.dtask) = 0 ∧
           t.get (CUE.PEND.PEND e d.dtask) = 0 ∧ (t.ring e d.dbase).take 3 = [1 + c.val, k.val, q] ∧
           t.ctu.moves = { m with done := some (0, 2 ^ k.val, 0) } :: rest ∧
           t.reports = s.reports ++ [⟨.taskRestart, 0x100 + c, d.dest % 16 * 16 + k, false⟩] ∧ SameMem s t))) ∧
       (m.done = none → m.seq = none → exec (.coreFailover 0) s = .next s) ∧
       (∀ d : Nat × Nat × Nat, m.done = some d → m.core = c.val → m.cmd = false →
         Writes .failoverDone s [(CTU.FOSTAT.FROM, c), (CTU.FOSTAT.EXACT, d.1 % 2 ^ 8), (CTU.FOSTAT.RESTART, d.2.1 % 2 ^ 8),
             (CTU.FOSTAT.SHED, d.2.2 % 2 ^ 8), (CTU.FOSTAT.SEQ, (s.get CTU.FOSTAT.SEQ + 1) % 2 ^ 8),
             (CTU.FOTIME.TICK, (s.t - m.at_) % 2 ^ 16), (coreStateRef c, 3), (CTU.STATUS.MOVING, if rest = [] then 0 else 1)]
           (fun u => (u.setCtu { u.ctu with moves := rest }).raise 258))) ∧
     -- LBIST of the failed core
     (s.coreState c = 3 → s.coreExists c = true → s.ctu.retest = none →
       Writes (.coreLbistDone c false) s [(coreStateRef c, 5)] (fun u => u.setReports (u.reports ++ [⟨.coreLbist, 0x100 + c, 0, false⟩])) ∧
       Ends (.coreLbistDone c true) s (fun t => t.coreState c = 4 ∧ t.core c = CoreSt.atReset c ∧ t.reports = s.reports)) ∧
     -- the core commands
     (s.island 30 = 0 →
       let res (st state pend code : Nat) : List (FRef × Nat) := [(CTU.CORERES.STATUS, st), (CTU.CORERES.STATE, state),
         (CTU.CORERES.PENDING, pend), (CTU.CORERES.CORE, c), (CTU.CORERES.CODE, code)]
       let cc : Fin 16 := ⟨c.val, by omega⟩
       (0x10 ≤ a.toNat → a.toNat ≠ 0x40 →
         Writes (.enlist a cc) s [] (fun u => u.setBus ⟨a.toNat, .busOwn, 0, 0⟩) ∧
         Writes (.coreRetest a cc) s [] (fun u => u.setBus ⟨a.toNat, .busOwn, 0, 0⟩) ∧
         Writes (.withdraw a cc) s [] (fun u => u.setBus ⟨a.toNat, .busOwn, 0, 0⟩)) ∧
       (a.toNat = 0x40 →
         (s.get CTU.CORERES.PENDING = 1 → Writes (.withdraw a cc) s (res 8 (s.coreState c) 1 3)
           (fun u => u.setBus ⟨0x40, .ok, 0, 0⟩)) ∧
         (s.get CTU.CORERES.PENDING = 0 → s.get CTU.STATUS.MOVING = 0 → s.coreExists c = true →
           (s.coreState c ≠ 4 → Writes (.enlist a cc) s (res 1 (s.coreState c) 0 1) (fun u => u.setBus ⟨0x40, .ok, 0, 0⟩)) ∧
           (s.coreState c = 4 → Ends (.enlist a cc) s (fun t => t.coreState c = 1 ∧
             (t.core c).pc = s.image.1 ∧ t.get (CUE.TSTAT.STATE c 0) = 2 ∧ t.get (CUE.EPA.EPA c) = s.image.2 % 2 ^ 32 ∧
             t.cut.noneReq = false ∧ t.get CTU.CORERES.STATUS = 0 ∧ t.get CTU.CORERES.STATE = 1)) ∧
           (s.coreState c = 5 → Writes (.coreRetest a cc) s ((coreStateRef c, 3) :: res 0 3 1 2)
             (fun u => (u.setCtu { u.ctu with retest := some c.val }).setBus ⟨0x40, .ok, 0, 0⟩)) ∧
           (s.coreState c = 1 → (∀ m ∈ s.ctu.moves, m.at_ ≠ s.t) → Ends (.withdraw a cc) s (fun t => t.coreState c = 2 ∧ t.get CTU.CORERES.PENDING = 1 ∧
             t.get CTU.CORERES.CODE = 3 ∧ t.get CTU.STATUS.MOVING = 1 ∧ t.ctu.moves.map (fun m => (m.core, m.cmd)) =
               s.ctu.moves.map (fun m => (m.core, m.cmd)) ++ [(c.val, true)]))))))

/-- R55, R319, R323, R321 to R324: A recorder channel is enabled only where its region belongs to the recorder and its ring is
aligned; REARM takes a frozen channel back to FILL; clearing EN turns it off. A record is two granules of the ring, value and stamp;
the channel moves from FILL to ARMED after PRE records and from POST to FROZEN, with its event, after POST records; GO triggers the
writer's armed channels and is counted elsewhere. That a POST of 0 freezes at once, that a refused record waits and that freezing
drops the queue (log entry 48), that an island without timecode stamps nothing (log entry 136), and that a writer with an empty queue
does nothing (log entry 13), is the model's choice. -/
def Obligations.RushesRecorder : Prop :=
  (∀ (s : State) (a : Owner) (c : Fin 32) (v : Word), s.Settled a → a ≠ 0 → s.island 27 = 0 →
     let base := s.get (RUSH.BASE.BASE c)
     let region := 0x900 + base / 2 ^ 23 % 2 ^ 8
     let log := max 4 (min 22 (s.get (RUSH.RING.RLOG c)))
     let set : List (FRef × Nat) := [(RUSH.CTRL.DEC c, v.toNat / 2 ^ 12 % 2 ^ 16), (RUSH.CTRL.AVG c, v.toNat / 2 ^ 11 % 2)]
     let feature (st res holder : Nat) : List (FRef × Nat) :=
       [(SYS.FST.STATE (0x600 + c), st), (SYS.FST.CRES (0x600 + c), res), (SYS.FST.HOLDER (0x600 + c), holder)]
     let fill : List (FRef × Nat) := [(RUSH.WPTR.WPTR c, 0), (RUSH.STATUS.STATE c, if s.get (RUSH.PRE.PRE c) = 0 then 2 else 1)]
     let mine : Prop := s.get (RUSH.CTRL.EN c) = 1 ∧ s.get (RUSH.CTRL.OWNER c) = a.toNat
     (v.toNat % 4 = 1 → s.get (RUSH.CTRL.EN c) = 0 → s.get (RUSH.CTRL.OWNER c) = 0 →
       (s.get (SYS.CLM.OWNER region) = 0x41 → base % 2 ^ (log + 1) = 0 →
         Writes (.rushesEnable a c v) s (set ++ feature 1 0 0 ++ fill ++ [(RUSH.CNT.DROP c, 0), (RUSH.CNT.TIGN c, 0),
           (RUSH.TSTAMP.TSTAMP c, 0), (RUSH.TIDX.TIDX c, 0), (RUSH.CTRL.EN c, 1), (RUSH.CTRL.OWNER c, a.toNat)])
           (fun u => (u.putRush c ⟨true, 0, 0, [], 0, 0⟩).setBus ⟨a.toNat, .ok, 0, 0⟩)) ∧
       (s.get (SYS.CLM.OWNER region) ≠ 0x41 ∨ base % 2 ^ (log + 1) ≠ 0 →
         Writes (.rushesEnable a c v) s (set ++ feature 2 region
           (if s.get (SYS.CLM.OWNER region) = 0 then 0 else s.get (SYS.CLM.FEATURE region)))
           (fun u => u.setBus ⟨a.toNat, .ok, 0, 0⟩))) ∧
     (v.toNat % 4 = 0 → mine → Writes (.rushesDisable a c v) s (set ++ feature 0 0 0 ++ [(RUSH.CTRL.EN c, 0),
       (RUSH.CTRL.OWNER c, 0), (RUSH.STATUS.STATE c, 0)])
       (fun u => (u.putRush c (RushSt.atReset c)).setBus ⟨a.toNat, .ok, 0, 0⟩)) ∧
     (v.toNat % 4 = 3 → v.toNat / 2 ^ 28 = a.toNat → mine →
       (s.get (RUSH.STATUS.STATE c) = 4 → Writes (.channelRearm a c v) s (set ++ fill)
         (fun u => (u.putRush c ⟨true, 0, 0, [], 0, 0⟩).setBus ⟨a.toNat, .ok, 0, 0⟩)) ∧
       (s.get (RUSH.STATUS.STATE c) ≠ 4 → Writes (.channelRearm a c v) s set (fun u => u.setBus ⟨a.toNat, .ok, 0, 0⟩))) ∧
     (s.get (RUSH.CTRL.OWNER c) ≠ 0 → s.get (RUSH.CTRL.OWNER c) ≠ a.toNat → a.toNat ≠ 0x40 →
       Writes (.rushesDisable a c v) s [] (fun u => u.setBus ⟨a.toNat, .busOwn, 0, 0⟩))) ∧
  (∀ (s : State) (c : Fin 32),
     let x := s.rush c
     let log := max 4 (min 22 (s.get (RUSH.RING.RLOG c)))
     let w := s.get (RUSH.WPTR.WPTR c)
     let q := s.get (RUSH.BASE.BASE c) + 2 * w
     let st := s.get (RUSH.STATUS.STATE c)
     (x.queue = [] → exec (.rushesRecordWrite c) s = .next s) ∧
     (∀ (r : Int × Nat) (rest : List (Int × Nat)), x.queue = r :: rest → s.marks = [] → r.2 < 2 ^ 36 →
       (s.ddrMapped q = true → s.ddrMapped (q + 1) = true → s.ddrRefuses 0x41 q = false → s.ddrRefuses 0x41 (q + 1) = false →
         let wr (y : RushSt) : State → State := fun u => ((u.wr q (unsgn 36 r.1)).wr (q + 1) r.2).putRush c y
         let next := (RUSH.WPTR.WPTR c, (w + 1) % 2 ^ log)
         (st = 2 → Writes (.rushesRecordWrite c) s [next] (wr { x with queue := rest })) ∧
         (st = 1 → x.filled + 1 < s.get (RUSH.PRE.PRE c) →
           Writes (.rushesRecordWrite c) s [next] (wr { x with
             queue := rest
             filled := x.filled + 1 })) ∧
         (st = 1 → s.get (RUSH.PRE.PRE c) ≤ x.filled + 1 →
           Writes (.rushesRecordWrite c) s [next, (RUSH.STATUS.STATE c, 2)] (wr { x with
             queue := rest
             filled := x.filled + 1 })) ∧
         (st = 3 → x.post + 1 < s.get (RUSH.POST.POST c) →
           Writes (.rushesRecordWrite c) s [next] (wr { x with
             queue := rest
             post := x.post + 1 })) ∧
         (st = 3 → s.get (RUSH.POST.POST c) ≤ x.post + 1 →
           Writes (.rushesRecordWrite c) s [next, (RUSH.STATUS.STATE c, 4)] (fun u => (wr { x with
             queue := []
             count := 0
             sum := 0 } u).setEvents (s.events ++ [⟨288 + c, none, []⟩])))) ∧
       (s.ddrMapped q = false ∨ s.ddrRefuses 0x41 q = true → exec (.rushesRecordWrite c) s = .next s)) ∧
     -- GO
     (∀ (a : Owner) (v : Word), s.Settled a → s.island 27 = 0 → (∀ k : Fin 32, v.toNat / 2 ^ k.val % 2 = if k = c then 1 else 0) →
       let ok : State → State := fun u => u.setBus ⟨a.toNat, .ok, 0, 0⟩
       (s.get (RUSH.CTRL.OWNER c) ≠ a.toNat → Writes (.rushesGo a v) s [] ok) ∧
       (s.get (RUSH.CTRL.OWNER c) = a.toNat → a ≠ 0 →
         (st = 2 → s.unsynced 27 = false → 0 < s.get (RUSH.POST.POST c) →
           Writes (.rushesGo a v) s [(RUSH.TSTAMP.TSTAMP c, s.stamp), (RUSH.TIDX.TIDX c, w), (RUSH.STATUS.STATE c, 3)]
             (fun u => (u.putRush c { x with post := 0 }).setBus ⟨a.toNat, .ok, 0, 0⟩)) ∧
         (st = 2 → s.unsynced 27 = false → s.get (RUSH.POST.POST c) = 0 →
           Writes (.rushesGo a v) s [(RUSH.TSTAMP.TSTAMP c, s.stamp), (RUSH.TIDX.TIDX c, w), (RUSH.STATUS.STATE c, 4)]
             (fun u => ((u.putRush c { x with
               post := 0
               queue := []
               count := 0
               sum := 0 }).setEvents
               (s.events ++ [⟨288 + c, none, []⟩])).setBus ⟨a.toNat, .ok, 0, 0⟩)) ∧
         -- R20: without a sync word nothing is stamped
         (st = 2 → s.unsynced 27 = true → 0 < s.get (RUSH.POST.POST c) →
           Writes (.rushesGo a v) s [(RUSH.TIDX.TIDX c, w), (RUSH.STATUS.STATE c, 3)]
             (fun u => (u.putRush c { x with post := 0 }).setBus ⟨a.toNat, .ok, 0, 0⟩)) ∧
         (st = 1 ∨ st = 3 → Writes (.rushesGo a v) s
           [(RUSH.CNT.TIGN c, min (s.get (RUSH.CNT.TIGN c) + 1) (2 ^ 12 - 1))] ok) ∧
         (st = 0 ∨ st = 4 → Writes (.rushesGo a v) s [] ok))))

/-- R331 to R334: The descriptor queue: only an enable that passes its checks turns it on; a descriptor is taken at HEAD, and one that
fails a check completes at once with the first status that applies, in word 3 of its slot. That a take with nothing to take does
nothing (log entry 13), and BAD_ARG with FIRST 0xFFF for a descriptor that cannot be read (log entry 50), are the model's choice. -/
def Obligations.FlashQueue : Prop :=
  ∀ (s : State) (a : Owner) (v : Word), s.Settled a →
    let q := s.get FLASH.QBASE.ADDR
    let own := s.get FLASH.QCTL.OWNER
    let ok : State → State := fun u => u.setBus ⟨a.toNat, .ok, 0, 0⟩
    (own = a.toNat → a ≠ 0 → v.toNat / 2 ^ 28 = a.toNat → s.island 26 = 0 →
      (v.toNat % 2 = 1 → s.get FLASH.QCTL.EN = 0 → ∀ b : Nat, bankOf? q = some b →
        let passes : Prop := 64 ≤ b ∧ q % 4 = 0 ∧ bankOf? (q + 127) = some b ∧ s.get (BANKS.OWNER.OWNER b) = a.toNat ∧
          s.get (BANKS.OWNER.PEER b) = 0x42
        (passes → Writes (.flashQueueEnable a v) s [(FLASH.QCTL.EN, 1), (FLASH.STATUS.QERR, 0), (FLASH.QHEAD.HEAD, 0),
          (FLASH.QTAIL.TAIL, 0)] ok) ∧
        (¬ passes → Writes (.flashQueueEnable a v) s [(FLASH.STATUS.QERR, 1)] ok)) ∧
      (v.toNat % 2 = 0 → validOwner s.split a.toNat = true → Writes (.flashQueueDisable a v) s [(FLASH.QCTL.EN, 0)] ok)) ∧
    (own ≠ 0 → own ≠ a.toNat → s.island 26 = 0 → Writes (.flashQueueEnable a v) s [] (fun u => u.setBus ⟨a.toNat, .busOwn, 0, 0⟩) ∧
      Writes (.flashQueueDisable a v) s [] (fun u => u.setBus ⟨a.toNat, .busOwn, 0, 0⟩)) ∧
    (s.get FLASH.QCTL.EN = 0 ∨ s.get FLASH.QHEAD.HEAD = s.get FLASH.QTAIL.TAIL ∨ s.flash.now ≠ none →
      exec .flashDescriptorTake s = .next s) ∧
    (s.get FLASH.QCTL.EN = 1 → s.get FLASH.QHEAD.HEAD ≠ s.get FLASH.QTAIL.TAIL → s.flash.now = none →
      let slot := q + 4 * s.get FLASH.QHEAD.HEAD
      let d := flashDescOf slot (s.rd slot) (s.rd (slot + 1)) (s.rd (slot + 2))
      ∀ b : Nat, bankOf? slot = some b → bankOf? (slot + 3) = some b → 64 ≤ b → s.bankMay 0x42 b = true →
        s.get (BANKS.STATUS.RED b) = 0 → s.marks = [] →
        let head := (FLASH.QHEAD.HEAD, (s.get FLASH.QHEAD.HEAD + 1) % 32)
        let ends (status : Nat) (u : State) : State :=
          (u.wr (slot + 3) (status * 2 ^ 32 + 2 ^ 31 + 0xFFF * 2 ^ 12)).setEvents (if d.evq then u.events ++ [⟨320, none, []⟩]
            else u.events)
        let kept : Prop := Ends .flashDescriptorTake s (fun t => t.flash = { s.flash with now := some d } ∧
          t.get FLASH.QHEAD.HEAD = (s.get FLASH.QHEAD.HEAD + 1) % 32 ∧ SameMem s t ∧ t.reports = s.reports)
        ((∀ r ∈ s.flash.runs, r.isDesc = true) →
          (s.flash.copies = [] → s.flashCheck d = none → kept) ∧
          -- R342: a descriptor that touches a sector whose relocation has not committed waits for the commit
          (s.flash.touched d = true → s.flashBadArg d = false → s.flash.wipe = false → kept)) ∧
        -- the registers show the flash controller as it is
        (s.putFlash s.flash = s → s.flash.runs = [] → s.flash.torn = [] → s.flash.retired = [] → s.flash.copies = [] →
          (d.op = 0 ∨ 9 < d.op ∨ 0x500000 ≤ d.addr → Writes .flashDescriptorTake s [head] (ends 4)) ∧
          (d.op = 4 ∨ d.op = 5 → 0x460000 ≤ d.addr → Writes .flashDescriptorTake s [head] (ends 4)) ∧
          (s.flash.wipe = true → s.flashBadArg d = false → Writes .flashDescriptorTake s [head] (ends 8)) ∧
          (s.flash.wipe = false → d.op = 8 ∨ d.op = 9 → d.addr < 0x500000 → Writes .flashDescriptorTake s [head] (ends 1))))

/-- R328, R333, R343, R333, R343: What the operations on lines do and the status word they end with: READ_VERIFY counts corrected
lines, programs write whole lines in order, BLANK_CHECK names the first line that is not erased, MARGIN_READ the lines below
threshold. A program completes: its lines are written in ascending order; a line that does not verify moves its sector to a spare.
That the errors BLANK_CHECK and MARGIN_READ meet are counted (log entry 121), REMAP and FAIL with the line they name (log entry 50),
and that the end of a program that does not run does nothing (log entry 13), is the model's choice. -/
def Obligations.FlashLines : Prop :=
  (∀ s : State, s.flash.prog = none → s.flash.runs = [] → s.flash.torn = [] → s.flash.retired = [] → s.flash.copies = [] →
     ∀ d : FlashDesc, s.flash.now = some d → ∀ b : Nat, bankOf? (d.slot + 3) = some b → 64 ≤ b → s.bankMay 0x42 b = true →
       s.get (BANKS.STATUS.RED b) = 0 → d.count < 4096 → d.addr < 0x500000 →
       let ends (w : Nat) (t : State) : Prop := t.rd (d.slot + 3) = w ∧ SameMemBut s t (d.slot + 3) 1 ∧ t.flash.now = none ∧
         t.events = s.events ++ (if d.evq then [⟨320, none, []⟩] else [])
       let clean : Prop := ∀ i < d.count, s.lineErrors (d.addr + 16 * i) = 0
       let none' := 2 ^ 31 + 0xFFF * 2 ^ 12
       (d.op = 1 → d.cmp = false → clean → Ends .readVerify s (fun t => ends none' t ∧ t.reports = s.reports)) ∧
       (d.op = 1 → d.cmp = false → d.count = 1 → s.lineErrors d.addr = 1 → Ends .readVerify s (fun t => ends (none' + 1) t ∧
         t.get FLASH.ECC.CECNT = min (s.get FLASH.ECC.CECNT + 1) (2 ^ 16 - 1) ∧
         t.reports = s.reports ++ [⟨.flashEcc, 0x900 + flashBank d.addr, d.addr, false⟩])) ∧
       (d.op = 1 → d.cmp = false → d.count = 1 → 4 ≤ s.lineErrors d.addr → Ends .readVerify s (fun t =>
         ends (2 ^ 31 + 2 ^ 27) t ∧ t.get FLASH.ERRADDR.ADDR = d.addr ∧
         t.reports = s.reports ++ [⟨.flashDue, 0x900 + flashBank d.addr, d.addr, false⟩])) ∧
       (d.op = 6 → s.marks = [] → (∀ i < d.count, s.lineBlank (d.addr + 16 * i) = true) → Ends .blankCheck s (ends none')) ∧
       (d.op = 6 → s.marks = [] → 0 < d.count → s.lineBlank d.addr = false → Ends .blankCheck s (ends (2 * 2 ^ 32 + 2 ^ 31))) ∧
       (d.op = 7 → s.marks = [] → 2 ≤ d.count → Ends (.marginRead []) s (ends none') ∧ Ends (.marginRead [1]) s (ends (2 ^ 31 + 2 ^ 12 + 1))) ∧
       -- a program reads its source, and its lines stand when it completes
       (s.marks = [] → (∀ i < 16 * (if d.op = 2 then 1 else d.count), s.flashMayRead (d.src + i) = true ∧
           ∀ k, bankOf? (d.src + i) = some k → s.get (BANKS.STATUS.RED k) = 0) →
         let lines (n : Nat) : List (List Nat) := (List.range n).map (fun i => (List.range 16).map (fun j =>
           s.rd (d.src + 16 * i + j) % 2 ^ 36))
         (d.op = 2 → Ends .programLine s (fun t => t.flash = { s.flash with prog := some ⟨d, lines 1, none⟩ } ∧ SameMem s t)) ∧
         (d.op = 3 → Ends .programRange s (fun t =>
           t.flash = { s.flash with prog := some ⟨d, lines d.count, none⟩ } ∧ SameMem s t)))) ∧
  (∀ s : State, s.flash.runs = [] → s.flash.torn = [] → s.flash.retired = [] → s.flash.copies = [] →
     (s.flash.prog = none → ∀ bad : List (BitVec 12), exec (.programComplete bad) s = .next s) ∧
     (∀ p : FlashProg, s.flash.prog = some p → p.stop = none → p.lines.length < 4096 → p.desc.addr % 16 = 0 →
       p.desc.addr + 16 * p.lines.length ≤ 0x500000 → (∀ l ∈ p.lines, l.length = 16 ∧ ∀ v ∈ l, v < 2 ^ 36) →
       ∀ b : Nat, bankOf? (p.desc.slot + 3) = some b → 64 ≤ b → s.bankMay 0x42 b = true → s.get (BANKS.STATUS.RED b) = 0 →
       let d := p.desc
       let wrote (w : Nat) (t : State) : Prop := (∀ i < p.lines.length, ∀ j < 16, t.rd (d.addr + 16 * i + j) =
           (p.lines.getD i []).getD j 0) ∧ t.rd (d.slot + 3) = w ∧ t.flash.now = none ∧ t.flash.prog = none ∧
         (∀ a, (a < d.addr ∨ d.addr + 16 * p.lines.length ≤ a) → a ≠ d.slot + 3 → t.rd a = s.rd a)
       Ends (.programComplete []) s (fun t => wrote (2 ^ 31 + 0xFFF * 2 ^ 12) t ∧ t.reports = s.reports) ∧
       (0 < p.lines.length → s.marks = [] → ∀ sp : Nat, s.flash.spareOf (flashBank d.addr) = some sp →
         Ends (.programComplete [0]) s (fun t => wrote (2 ^ 31 + 2 ^ 29 + 0xFFF * 2 ^ 12) t ∧
           t.flash.phys (flashBank d.addr) (flashSec d.addr) = sp ∧
           t.reports = s.reports ++ [⟨.flashRemap, 0x900 + flashBank d.addr, flashSec d.addr, false⟩])) ∧
       (0 < p.lines.length → s.flash.spareOf (flashBank d.addr) = none →
         Ends (.programComplete [0]) s (fun t => wrote (2 ^ 31 + 2 ^ 30) t ∧
           t.reports = s.reports ++ [⟨.flashNospare, 0x900 + flashBank d.addr, flashSec d.addr, false⟩]))))

/-- R335 to R338, R340, R342, R343: Erases start, halt, resume and end; an erased sector reads all ones and is torn no more; one that
does not blank moves to a spare or is retired; the scan goes round, and relocation takes a spare in two steps, the copy and then the
entry (log entry 120), where nothing else is in hand in the bank. The order of the scan and what it skips (log entries 51 and 121),
and the rows that do nothing (log entry 13), are the model's choice too. -/
def Obligations.FlashErases : Prop :=
  ∀ s : State, s.flash.prog = none →
    (∀ d : FlashDesc, s.flash.now = some d → ∀ b : Nat, bankOf? (d.slot + 3) = some b → 64 ≤ b → s.bankMay 0x42 b = true →
      s.get (BANKS.STATUS.RED b) = 0 → d.addr < 0x500000 → s.flash.copies = [] →
      let k := flashBank d.addr
      let done (w : Nat) (f : FlashSt) (t : State) : Prop := t.rd (d.slot + 3) / 2 ^ 31 = 1 ∧
        t.rd (d.slot + 3) % 2 ^ 24 = w ∧ SameMemBut s t (d.slot + 3) 1 ∧ t.flash = { f with now := none }
      -- R335: an erase waits for the internal erase of its bank
      (s.flash.intErase k = true → (d.op = 4 → exec .eraseSector s = .next s) ∧ (d.op = 5 → exec .eraseBank s = .next s)) ∧
      ((∀ r ∈ s.flash.runs, r.isDesc = true) →
        (d.op = 4 → s.flash.isRetired k (flashSec d.addr) = false → Ends .eraseSector s (fun t => SameMem s t ∧
          t.flash = { s.flash with
            now := none
            runs := s.flash.runs ++ [⟨k, [flashSec d.addr], .desc d, false⟩] })) ∧
        (d.op = 5 → s.flash.retired = [] → Ends .eraseBank s (fun t => SameMem s t ∧
          t.flash = { s.flash with
            now := none
            runs := s.flash.runs ++ [⟨k, bankSecs k, .desc d, false⟩] })) ∧
        (d.op = 8 → s.flash.descErase k false = true → exec .suspend s = .next s ∧
          Ends .eraseHalted s (done 0xFFF000 (s.flash.setSusp k true))) ∧
        (d.op = 8 → s.flash.descErase k false = false → Ends .suspend s (done 0xFFF000 s.flash)) ∧
        (d.op = 9 → Ends .resume s (done 0xFFF000 (s.flash.setSusp k false))))) ∧
    -- the end of an erase
    (∀ k : Fin 4, s.flash.runs = [] → exec (.eraseComplete k []) s = .next s) ∧
    (∀ r : EraseRun, s.flash.runs = [r] → ∀ sec : BitVec 11, r.secs = [sec.toNat] → ∀ k : Fin 4, r.bank = k.val → r.susp = false →
      r.isDesc = true → secBase k sec.toNat < 0x500000 → s.flash.retired = [] →
      let ones (t : State) : Prop := ∀ i < secWords k, t.rd (secBase k sec.toNat + i) = 0xFFFFFFFFF
      Ends (.eraseComplete k []) s (fun t => ones t ∧ t.flash.runs = [] ∧ t.flash.isTorn k sec.toNat = false ∧
        t.reports = s.reports) ∧
      (∀ sp : Nat, s.flash.spareOf k = some sp → Ends (.eraseComplete k [sec]) s (fun t => ones t ∧ t.flash.runs = [] ∧
        t.flash.phys k sec.toNat = sp ∧ t.reports = s.reports ++ [⟨.flashRemap, 0x900 + k, sec.toNat, false⟩])) ∧
      (s.flash.spareOf k = none → Ends (.eraseComplete k [sec]) s (fun t => t.flash.runs = [] ∧
        t.flash.isRetired k sec.toNat = true ∧ t.reports = s.reports ++ [⟨.flashNospare, 0x900 + k, sec.toNat, false⟩]))) ∧
    -- the scan runs while IS26 is in White; it reads what it scans (R328)
    (∀ weak : Bool, s.island 26 ≠ 0 → exec (.flashScan weak) s = .next s) ∧
    (∀ (weak hard : Bool) (a : Addr), s.island 26 ≠ 0 → s.marks = [] → a.toNat < 0x500000 →
      Writes (.flashScan weak [(a, hard)]) s [] (fun u => u.setMarks [(a.toNat, hard)])) ∧
    (s.island 26 = 0 → s.marks = [] → (s.get FLASH.SCAN.DONE + 1 < 2064 → Writes (.flashScan false) s [(FLASH.SCAN.DONE, s.get FLASH.SCAN.DONE + 1)] id) ∧
     (s.get FLASH.SCAN.DONE = 2063 → Writes (.flashScan false) s [(FLASH.SCAN.DONE, 0),
      (FLASH.SCAN.PASSES, (s.get FLASH.SCAN.PASSES + 1) % 2 ^ 12)] id) ∧
     (s.get FLASH.SCAN.DONE < 512 → s.flash.queued = [] → s.flash.retired = [] → Writes (.flashScan true) s
      [(FLASH.SCAN.DONE, s.get FLASH.SCAN.DONE + 1)]
      (fun u => u.setFlash { u.flash with queued := [(0, s.get FLASH.SCAN.DONE)] }))) ∧
    -- relocation, step 1: the copy into an erased spare starts, and the sector is RELOCATING
    (∀ (b : Fin 3) (q : Nat × Nat), s.flash.queued = [q] → q.1 = b → s.flash.now = none → s.flash.sstate b q.2 = 0 →
      s.flash.copies = [] → s.flash.runs = [] → ∀ sp : Nat, s.flash.spareOf b = some sp →
      Ends (.relocate b) s (fun t => t.flash.copies = [(b.val, q.2, sp)] ∧ t.flash.sstate b q.2 = 5 ∧
        t.flash.phys b q.2 = s.flash.phys b q.2 ∧ SameMem s t)) ∧
    -- step 2: the remap entry that names the spare is committed
    (∀ (b : Fin 3) (sec sp : Nat), s.flash.copies = [(b.val, sec, sp)] → s.flash.queued = [(b.val, sec)] → s.flash.now = none →
      s.get ⟨FLASH.MAINT.adr, b, 1⟩ = 0 →
      Ends (.relocate b) s (fun t => t.flash.phys b sec = sp ∧ t.flash.dirty = s.flash.dirty ++ [(b.val, s.flash.phys b sec)] ∧
        t.flash.queued = [] ∧ t.flash.copies = [] ∧
        t.get FLASH.RELOC.REFRESH = (s.get FLASH.RELOC.REFRESH + 1) % 2 ^ 12 ∧ SameMem s t)) ∧
    (∀ (b : Fin 3) (d : FlashDesc), s.flash.copies = [] → s.flash.now = some d → flashBank d.addr = b →
      exec (.relocate b) s = .next s)

/-- R346, R457, R344 to R349: Record commands: the owner's command is taken, or answered BUSY, BAD_ARG or WRONG_STATE in RSRES with
its event; another agent's ends with BUS_OWN. A record command completes: a copy is written into the next slot, with its header and
CRC, and becomes the newest; an absent record reads as absent, a present one gives its newest copy and SEQ; the store of an erased DFS
is built empty and READY; a marked sector is erased. That a record command halts the erase and waits for a slot (log entry 122), its
order against a reel transfer (log entry 43), the end of a command with CMD 0 (log entry 53), and the rows that do nothing (log entry
13), are the model's choice. -/
def Obligations.RecordStore : Prop :=
  (∀ (s : State) (a : Owner) (v : Word), s.Settled a → a ≠ 0 → validOwner s.split a.toNat = true → s.island 26 = 0 →
     let rc := v.toNat / 2 ^ 10 % 2 ^ 6
     let len := v.toNat / 2 ^ 4 % 2 ^ 4
     let st := s.get FLASH.RSSTAT.STATE
     let pend := s.get FLASH.RSRES.PENDING
     let own := s.get FLASH.RSCTL.OWNER
     let arg : List (FRef × Nat) := [(FLASH.RSCTL.REC, rc), (FLASH.RSCTL.LEN, len)]
     let res (status p q r l cmd : Nat) : List (FRef × Nat) := [(FLASH.RSRES.STATUS, status), (FLASH.RSRES.PRESENT, 0),
       (FLASH.RSRES.PENDING, p), (FLASH.RSRES.SEQ, q), (FLASH.RSRES.REC, r), (FLASH.RSRES.LEN, l), (FLASH.RSRES.CMD, cmd)]
     let fin : State → State := fun u => (u.setEvents (s.events ++ [⟨321, none, []⟩])).setBus ⟨a.toNat, .ok, 0, 0⟩
     -- the registers show the flash controller as it is, and no internal erase is under way
     let shown : Prop := s.putFlash s.flash = s ∧ ∀ r ∈ s.flash.runs, r.isDesc = true
     let take (c : StoreCmd) : State → State := fun u => (u.setRecs { u.recs with cmd := some c }).setBus ⟨a.toNat, .ok, 0, 0⟩
     let no : State → State := fun u => u.setBus ⟨a.toNat, .busOwn, 0, 0⟩
     (own ≠ 0 → own ≠ a.toNat → Writes (.recordRead a v) s [] no ∧ Writes (.recordWrite a v) s [] no ∧
       Writes (.recordDelete a v) s [] no) ∧
     (own = a.toNat → v.toNat / 2 ^ 28 = a.toNat → s.flash.wipe = false → pend = 0 →
       (st = 2 ∨ st = 3 → shown → Writes (.recordRead a v) s (arg ++ [(FLASH.RSRES.PENDING, 1)]) (take ⟨1, rc, []⟩)) ∧
       (st = 2 → rc < 48 → len ≠ 0 → shown → Writes (.recordWrite a v) s (arg ++ [(FLASH.RSRES.PENDING, 1)])
         (take ⟨2, rc, (List.range len).map (fun j => s.get (FLASH.RSBUF.DATA j))⟩)) ∧
       -- R349: the store's erase halts for the command
       (st = 2 ∨ st = 3 → ∀ er : EraseRun, s.flash.runs = [er] → er.bank = 3 → er.isDesc = false →
         Ends (.recordRead a v) s (fun t => t.flash.runs = [{ er with susp := true }] ∧ t.recs.cmd = some ⟨1, rc, []⟩ ∧
           t.get FLASH.RSRES.PENDING = 1)) ∧
       (st = 2 → rc < 48 → shown → Writes (.recordDelete a v) s (arg ++ [(FLASH.RSRES.PENDING, 1)]) (take ⟨3, rc, []⟩)) ∧
       (48 ≤ rc ∨ len = 0 → Writes (.recordWrite a v) s (arg ++ res 4 0 0 rc 0 2) fin) ∧
       (48 ≤ rc → Writes (.recordDelete a v) s (arg ++ res 4 0 0 rc 0 3) fin) ∧
       (st ≠ 2 → rc < 48 → Writes (.recordDelete a v) s (arg ++ res 1 0 0 rc 0 3) fin)) ∧
     -- while a command is pending
     (own = a.toNat → v.toNat / 2 ^ 28 = a.toNat → pend = 1 → rc = s.get FLASH.RSCTL.REC → len = s.get FLASH.RSCTL.LEN →
       Writes (.recordRead a v) s (res 8 1 0 rc 0 1) fin) ∧
     (own = a.toNat → v.toNat / 2 ^ 28 = a.toNat → pend = 1 → rc ≠ s.get FLASH.RSCTL.REC →
       Writes (.recordRead a v) s ((FLASH.RSSTAT.WREJ, 1) :: res 8 1 0 (s.get FLASH.RSCTL.REC) 0 1) fin)) ∧
  (∀ s : State,
     (s.recs.cmd = none ∨ s.reelFirst = true → exec .recordCmdDone s = .next s) ∧
     (∀ c : StoreCmd, s.recs.cmd = some c → s.reelFirst = false → c.rec_ < 48 →
       let res (present q l : Nat) (t : State) : Prop := t.get FLASH.RSRES.STATUS = 0 ∧ t.get FLASH.RSRES.PRESENT = present ∧
         t.get FLASH.RSRES.PENDING = 0 ∧ t.get FLASH.RSRES.SEQ = q ∧ t.get FLASH.RSRES.REC = c.rec_ ∧
         t.get FLASH.RSRES.LEN = l ∧ t.get FLASH.RSRES.CMD = c.cmd ∧ t.recs.cmd = none ∧ t.events = s.events ++ [⟨321, none, []⟩]
       (Tab.get (fun _ => 0) s.recs.index c.rec_ = 0 →
         (c.cmd = 1 → Ends .recordCmdDone s (fun t => res 0 0 0 t ∧ (∀ j : Fin 15, t.get (FLASH.RSBUF.DATA j) = 0) ∧
           SameMem s t)) ∧
         (c.cmd = 2 ∨ c.cmd = 3 → c.data.length ≤ 15 → c.cmd = 3 ∧ c.data = [] ∨ c.cmd = 2 ∧ c.data ≠ [] →
           ∀ sec : Nat, s.recs.active = some sec → 384 ≤ sec → sec < 1024 → s.recs.point < 64 →
           let q := 0x400000 + sec * 0x400 + 16 * s.recs.point
           Ends .recordCmdDone s (fun t => res 0 0 c.data.length t ∧ SameMemBut s t q 16 ∧
             (∀ j : Fin 15, t.rd (q + 1 + j) = c.data.getD j 0 % 2 ^ 36) ∧
             t.rd q / 2 ^ 16 = c.rec_ * 2 ^ 14 + c.data.length * 2 ^ 10 ∧
             t.recs.point = s.recs.point + 1 ∧ Tab.get (fun _ => 0) t.recs.index c.rec_ = q ∧
             t.get FLASH.RSWCNT.WRITES = (s.get FLASH.RSWCNT.WRITES + 1) % 2 ^ 36)))) ∧
     -- a record that is present: READ gives its newest copy; a WRITE or DELETE goes to a fresh slot with the next SEQ
     (∀ (c : StoreCmd) (cp : Copy), s.recs.cmd = some c → s.reelFirst = false → c.rec_ < 48 →
       let a := Tab.get (fun _ => 0) s.recs.index c.rec_
       0 < a → a % 16 = 0 → cp.rec_ = c.rec_ → cp.len = cp.data.length → 0 < cp.len →
       cp.len < 16 → cp.seq < 1024 → (∀ w ∈ cp.data, w < 2 ^ 36) → s.line a = slotWords cp → s.lineErrors a = 0 →
       let res (present q l : Nat) (t : State) : Prop := t.get FLASH.RSRES.STATUS = 0 ∧ t.get FLASH.RSRES.PRESENT = present ∧
         t.get FLASH.RSRES.PENDING = 0 ∧ t.get FLASH.RSRES.SEQ = q ∧ t.get FLASH.RSRES.REC = c.rec_ ∧
         t.get FLASH.RSRES.LEN = l ∧ t.get FLASH.RSRES.CMD = c.cmd ∧ t.recs.cmd = none ∧ t.events = s.events ++ [⟨321, none, []⟩]
       (c.cmd = 1 → Ends .recordCmdDone s (fun t => res 1 cp.seq cp.len t ∧
         (∀ j : Fin 15, t.get (FLASH.RSBUF.DATA j) = cp.data.getD j 0) ∧ SameMem s t)) ∧
       (c.data.length ≤ 15 → c.cmd = 3 ∧ c.data = [] ∨ c.cmd = 2 ∧ c.data ≠ [] →
         ∀ sec : Nat, s.recs.active = some sec → 384 ≤ sec → sec < 1024 → s.recs.point < 64 →
         let q := 0x400000 + sec * 0x400 + 16 * s.recs.point
         let n := (cp.seq + 1) % 1024
         Ends .recordCmdDone s (fun t => res 0 n c.data.length t ∧ SameMemBut s t q 16 ∧
           (∀ j : Fin 15, t.rd (q + 1 + j) = c.data.getD j 0 % 2 ^ 36) ∧
           t.rd q / 2 ^ 16 = c.rec_ * 2 ^ 14 + c.data.length * 2 ^ 10 + n ∧
           t.recs.point = s.recs.point + 1 ∧ Tab.get (fun _ => 0) t.recs.index c.rec_ = q))) ∧
     -- the build
     (s.get FLASH.RSSTAT.STATE ≠ 1 → exec (.storeBuildDone false) s = .next s) ∧
     (s.get FLASH.RSSTAT.STATE = 1 → (∀ e ∈ s.mem, e.1 < 0x460000 ∨ 0x500000 ≤ e.1) → s.marks = [] → s.flash.odd = [] →
       s.flash.runs = [] → s.flash.torn = [] → s.flash.retired = [] → 608 ≤ s.get FLASH.RSSTAT.USABLE →
       Ends (.storeBuildDone false) s (fun t => t.get FLASH.RSSTAT.STATE = 2 ∧ t.recs.index = [] ∧ t.recs.active = none ∧
         t.recs.lap = 0 ∧ t.recs.toErase = [] ∧ t.recs.ahead.length = 640 ∧ t.get FLASH.RSSTAT.FREE = 8 ∧ SameMem s t ∧
         t.reports = s.reports)) ∧
     -- erases of the store
     (s.get FLASH.RSSTAT.STATE ≠ 2 ∨ s.flash.eraseFree 3 = false → exec .storeReclaim s = .next s) ∧
     (s.get FLASH.RSSTAT.STATE = 2 → s.flash.runs = [] → s.flash.copies = [] → s.flash.now = none → s.recs.cmd = none → ∀ (sec : Nat) (rest : List Nat), s.recs.toErase = sec :: rest →
       Ends .storeReclaim s (fun t => t.flash = { s.flash with runs := [⟨3, [sec], .store, false⟩] } ∧ t.recs = s.recs ∧
         SameMem s t)) ∧
     (s.get FLASH.RSSTAT.STATE = 2 → s.recs.toErase = [] → 8 ≤ s.recs.ahead.length → exec .storeReclaim s = .next s))

/-- R352 to R354, R398, R406, R396: Read-out protection: only the host raises or lowers the level; LOWER0 at level 1 wipes flash,
memory, cores and engines, and its end burns the fuse, makes a cold start due and stops timecode (R18). OTP commands are the host's;
each is refused at once with its status or executes, and its end programs the fuses. That the wipe leaves cores SPARE and that RDPRES
shows the command (log entry 75), the order of the OTP checks (log entry 78), timecode stopping at the event (log entry 102), the rows
that do nothing (log entry 13), the 64 fuses that ROLLFWD reaches at most (log entry 156), and DBG.CORESTS.HALTED as access closes and
opens (log entry 127), are the model's choice. -/
def Obligations.Fuses : Prop :=
  (∀ (s : State) (a : Owner), s.Settled a → s.island 26 = 0 →
     let l := s.otp.level
     let left := 16 - s.otp.seq
     let ok : State → State := fun u => u.setBus ⟨0x40, .ok, 0, 0⟩
     let res (code st : Nat) : List (FRef × Nat) := [(FLASH.RDPRES.CODE, code), (FLASH.RDPRES.STATUS, st)]
     -- R407: where access is open the HALT bits of the cores that the device has stop them
     let halted : Nat := s.get DBG.CORECTL.HALT % (if s.split = true then 2 ^ 8 else 2 ^ 4)
     let level (k n o : Nat) : List (FRef × Nat) := [(FLASH.RDPRES.LEVEL, k), (FLASH.RDPRES.LEFT, n), (DBG.STATUS.LEVEL, k),
       (DBG.STATUS.OPEN, o), (DBG.STATUS.UNLOCKED, 0), (DBG.CORESTS.HALTED, o * halted)]
     (a.toNat ≠ 0x40 →
       let no : State → State := fun u => u.setBus ⟨a.toNat, .busOwn, 0, 0⟩
       Writes (.raise1 a) s [] no ∧ Writes (.raise2 a) s [] no ∧ Writes (.lower0 a) s [] no) ∧
     (a.toNat = 0x40 → s.flash.wipe = true →
       Writes (.raise1 a) s (res 1 8) ok ∧ Writes (.raise2 a) s (res 2 8) ok ∧ Writes (.lower0 a) s (res 3 8) ok) ∧
     (a.toNat = 0x40 → s.flash.wipe = false → s.otp.seq ≤ 16 → s.AtBoundary →
       (l = 0 → 0 < left → Writes (.raise1 a) s (res 1 0 ++ level 1 (left - 1) 0)
         (fun u => (u.setOtp { u.otp with seq := u.otp.seq + 1 }).setBus ⟨0x40, .ok, 0, 0⟩)) ∧
       (l = 0 → left = 0 → Writes (.raise1 a) s (res 1 4) ok) ∧
       (l ≠ 0 → Writes (.raise1 a) s (res 1 1) ok) ∧
       (l < 2 → Writes (.raise2 a) s (res 2 0 ++ level 2 left 0)
         (fun u => (u.setOtp { u.otp with l2 := true }).setBus ⟨0x40, .ok, 0, 0⟩)) ∧
       (2 ≤ l → Writes (.raise2 a) s (res 2 1) ok) ∧
       (l ≠ 1 → Writes (.lower0 a) s (res 3 1) ok) ∧
       (l = 1 → 0 < left → Ends (.lower0 a) s (fun t => t.get FLASH.RDPRES.WIPE = 1 ∧ t.flash.wipe = true ∧
         (∀ q, t.rd q = memDefault q ∨ 0x80000000 ≤ q) ∧ t.marks.all (fun e => decide (0x80000000 ≤ e.1)) = true ∧
         (∀ c : Fin 4, t.coreState c = 4) ∧ (∀ e : Fin 24, t.get (LE.STATUS.STATE e) = 0) ∧ t.boot.token = none ∧
         t.get FLASH.RSSTAT.STATE = 0 ∧ t.get FLASH.RDPRES.STATUS = 0 ∧
         (s.get ETH.SLSTATE.STATE = 3 → t.get PORTS.CUTSTAT.LATCH = 1)))) ∧
     (s.flash.wipe = true → s.get FLASH.RDPRES.WIPE = 1 → s.AtBoundary → s.otp.seq < 16 → s.otp.l2 = false → s.otp.seq % 2 = 1 →
       Writes .wipeDone s ((FLASH.RDPRES.WIPE, 0) :: level 0 (left - 1) 1 ++
           [(TC.STATUS.LOCK, 0), (TC.STATUS.HOLDOVER, 0), (TC.STATUS.REFLOST, 0)])
         (fun u => ((((u.setFlash { u.flash with wipe := false }).setOtp { u.otp with seq := u.otp.seq + 1 }).setTcRun false).setNow
           0).setBoot { u.boot with due := some (false, 7) })) ∧
     (s.flash.wipe = false → exec .wipeDone s = .next s)) ∧
  -- R12: the word of the commands stands in IS26
  (∀ (s : State) (a : Owner), s.Settled a → 2 ≤ s.island 26 →
     let map : State → State := fun u => u.setBus ⟨a.toNat, .busMap, 0, 0⟩
     Writes (.raise1 a) s [] map ∧ Writes (.raise2 a) s [] map ∧ Writes (.lower0 a) s [] map) ∧
  (∀ (s : State) (a : Owner) (arg : BitVec 4), s.Settled a → s.island 29 = 0 →
     let no : State → State := fun u => u.setBus ⟨a.toNat, .busOwn, 0, 0⟩
     let ok : State → State := fun u => u.setBus ⟨0x40, .ok, 0, 0⟩
     let res (code st pend : Nat) : List (FRef × Nat) := [(SEC.OTPRES.CODE, code), (SEC.OTPRES.STATUS, st), (SEC.OTPRES.PENDING, pend)]
     let run (code x : Nat) : State → State := fun u => (u.setSec { u.sec with otpCmd := some (code, x) }).setBus ⟨0x40, .ok, 0, 0⟩
     let k := arg.toNat % 4
     let key (j : Nat) : Bool := (s.otp.keys.getD j none).isSome
     (a.toNat ≠ 0x40 → Writes (.rollfwd a) s [] no ∧ Writes (.revoke a arg) s [] no ∧ Writes (.progkey a arg) s [] no ∧
       Writes (.proghost a) s [] no ∧ Writes (.progdbg a) s [] no) ∧
     (a.toNat = 0x40 → s.sec.otpCmd ≠ none → Writes (.rollfwd a) s (res 1 8 1) ok ∧ Writes (.progdbg a) s (res 5 8 1) ok) ∧
     (a.toNat = 0x40 → s.sec.otpCmd = none →
       (s.otp.arb < min 64 (s.get SEC.IMG.SECVER) → s.boot.recov = false → s.boot.region ≠ none →
         Writes (.rollfwd a) s (res 1 0 1) (run 1 0)) ∧
       (min 64 (s.get SEC.IMG.SECVER) ≤ s.otp.arb → Writes (.rollfwd a) s (res 1 4 0) ok) ∧
       (key k = false → Writes (.revoke a arg) s (res 2 1 0) ok) ∧
       (key k = true → (∀ j : Fin 4, j = k ∨ key j = false ∨ s.otp.revoked.contains j.val = true) →
         Writes (.revoke a arg) s (res 2 5 0) ok) ∧
       (key k = true → ∀ j : Fin 4, j ≠ k → key j = true → s.otp.revoked.contains j.val = false →
         Writes (.revoke a arg) s (res 2 0 1) (run 2 arg.toNat)) ∧
       (key k = true → Writes (.progkey a arg) s (res 3 1 0) ok) ∧
       (key k = false → s.otp.revoked.contains k = false → Writes (.progkey a arg) s (res 3 0 1) (run 3 arg.toNat)) ∧
       (s.otp.host = none → Writes (.proghost a) s (res 4 0 1) (run 4 0)) ∧
       (s.otp.host ≠ none → Writes (.proghost a) s (res 4 1 0) ok) ∧
       (s.otp.dbg = none → Writes (.progdbg a) s (res 5 0 1) (run 5 0)) ∧
       (s.otp.dbg ≠ none → Writes (.progdbg a) s (res 5 1 0) ok)) ∧
     -- the end of a command
     (s.sec.otpCmd = none → exec .otpCommandDone s = .next s) ∧
     (let dig := s.digest SEC.OTPSTAGE.W
      ∀ c : Nat × Nat, s.sec.otpCmd = some c → c.2 < 16 →
       Ends .otpCommandDone s (fun t => t.sec.otpCmd = none ∧ t.get SEC.OTPRES.STATUS = 0 ∧ t.get SEC.OTPRES.PENDING = 0 ∧
         t.get SEC.OTPRES.CODE = c.1 % 16 ∧
         (c.1 = 1 → t.otp = { s.otp with arb := min 64 (s.get SEC.IMG.SECVER) }) ∧
         (c.1 = 2 → t.otp.revoked.contains (c.2 % 4) = true ∧ t.otp.keys = s.otp.keys) ∧
         (c.1 = 3 → t.otp = { s.otp with keys := s.otp.keys.set (c.2 % 4) (some dig) }) ∧
         (c.1 = 4 → t.otp = { s.otp with host := some dig } ∧ t.get ETH.LOCALEN.EN = 0 ∧ t.get SEC.OTPSTAT.HPROG = 1) ∧
         (c.1 = 5 → t.otp = { s.otp with dbg := some dig } ∧ t.get SEC.OTPSTAT.DPROG = 1) ∧ SameMem s t)))

/-- R18, R178, R381, R382, R385, R386, R388: The cold start that is due: the start counter counts, every enable is off, timecode that
does not run stands at 0 until the reference PLL locks, every memory but flash is zero; a slot that passes becomes the image and the
handoff follows; with no image in either slot the next start is due; at the fifth attempt the device is in BOOTFAIL with CUT latched.
That timecode stands at 0 (log entry 102), that the next start is due where no image passes, in a recovery start too, and the DDR4
registers (log entry 71), memory at zero (log entry 4), and that a start that is not due does nothing (log entry 13), is the model's
choice. -/
def Obligations.ColdStarts : Prop :=
  ∀ (s : State) (d : StartIn), d.vio.length = 12 →
    (s.boot.due.map (fun d => d.1) ≠ some false → exec (.coldStart d) s = .next s) ∧
    (∀ c : Nat, s.boot.due = some (false, c) → c < 16 → s.flash.wipe = false → s.boot.att < 16 →
      let att := min 15 (s.boot.att + 1)
      let started (t : State) : Prop := t.get SEC.START.CAUSE = c ∧ t.boot.att = att ∧ t.get SEC.START.ATT = att ∧
        (t.tcRun = s.tcRun ∨ t.tcRun = false ∧ t.now = 0 ∧ t.boot.due = some (false, c)) ∧ (s.tcRun = false → t.now = 0) ∧
         (∀ p : Fin 96, t.get (GP.CTRL.EN p) = 0 ∧ t.get (GP.SAFE.SAFE p) = s.get (GP.SAFE.SAFE p)) ∧
        (∀ b : Fin 68, t.get (BANKS.OWNER.OWNER b) = 0) ∧ (∀ q, t.rd q = 0 ∨ q < 0x500000) ∧ t.cores = [] ∧
        t.pending = s.pending
      Ends (.coldStart d) s started ∧
      (5 ≤ att → Ends (.coldStart d) s (fun t => t.boot.due = none ∧ t.boot.hand = none ∧ t.get ETH.SLSTATE.STATE = 6 ∧
        t.get PORTS.CUTSTAT.LATCH = 1 ∧ t.get PORTS.CUTSTAT.SHOST = 1 ∧ (∀ e : Fin 24, t.get (LE.STATUS.STATE e) = 0) ∧
        (∃ r ∈ t.reports, r.code = .bootfail))) ∧
      (att < 4 → c ≠ 7 → s.flash.runs = [] → s.flash.prog = none → s.recs.cmd = none → s.flash.torn = [] →
        (∀ e ∈ s.mem, 0x3E0000 ≤ e.1) → Ends (.coldStart d) s (fun t => t.boot.due = some (false, c) ∧ t.boot.hand = none ∧
          t.tcRun = false ∧ t.now = 0 ∧ t.get TC.STATUS.LOCK = 0 ∧
          t.reports.count ⟨.slotInvalid, 0, 1, false⟩ = 1 ∧ t.reports.count ⟨.slotInvalid, 0, 257, false⟩ = 1)) ∧
      -- R384, R386, R395, R396: slot A passes: it is the image, and the handoff follows; else its reason is told and slot B is tried
      (att < 3 → c ≠ 7 → s.flash.runs = [] → s.flash.prog = none → s.recs.cmd = none → s.flash.torn = [] → s.flash.retired = [] →
        s.flash.odd = [] → s.marks = [] → (∀ e ∈ s.mem, e.1 < 0x460000) →
        let why := s.imageReason 0 true
        Ends (.coldStart d) s (fun t => (why = none → t.boot.hand = some ⟨false, false, d.cores.toNat⟩ ∧ t.boot.due = none ∧
            t.boot.region = some 0 ∧ t.boot.token = some ⟨0, s.imageDig 0, s.hdr 0 2 0 7⟩ ∧ t.image = (s.hdr 0 3 0 32, s.hdr 0 4 0 32) ∧
            t.get SEC.START.KIND = 0 ∧ t.get SEC.START.REGION = 0 ∧ t.get SEC.START.TOKEN = 0 ∧ t.get SEC.STATUS.TOKEN = 1 ∧
            t.get SEC.IMG.REGION = 0 ∧ t.get SEC.IMG.KEYSLOT = s.hdr 0 1 0 2 ∧ t.get SEC.IMG.SECVER = s.hdr 0 2 0 7 ∧
            (∀ k : Fin 4, t.coreState k ≠ 1)) ∧
          (∀ w, why = some w → t.reports.count ⟨.slotInvalid, 0, w, false⟩ = 1))) ∧
      -- R386: the fourth attempt tries the two recovery copies
      (att = 4 → c ≠ 7 → s.flash.runs = [] → s.flash.prog = none → s.recs.cmd = none → s.flash.torn = [] →
        (∀ e ∈ s.mem, 0x400000 ≤ e.1) → Ends (.coldStart d) s (fun t => t.boot.due = some (false, c) ∧ t.boot.hand = none ∧
          t.tcRun = false ∧ t.reports.count ⟨.slotInvalid, 0, 513, false⟩ = 1 ∧
          t.reports.count ⟨.slotInvalid, 0, 769, false⟩ = 1)))

/-- R19, R381, R383, R386, R398: The warm start that is due keeps memories, banks' owners, timecode and the fault log, counts EPOCH
where the die has passed through Black, and clears the rest; with a token for the slot it tries first it needs no hashing and stands
before its handoff. Timecode and replicas after Black (log entry 102), what Black loses (log entry 72), and that a start that is not
due does nothing (log entry 13), are the model's choice. -/
def Obligations.WarmStarts : Prop :=
  ∀ (s : State) (d : StartIn), d.vio.length = 12 →
    (s.boot.due.map (fun d => d.1) ≠ some true → exec (.warmStart d) s = .next s) ∧
    (∀ c : Nat, s.boot.due = some (true, c) → c < 16 → c ≠ 11 → c ≠ 7 → s.flash.wipe = false → s.boot.att < 16 →
      let att := min 15 (s.boot.att + 1)
      s.flash.runs = [] → s.flash.prog = none → s.recs.cmd = none → s.boot.black = false →
      Ends (.warmStart d) s (fun t => t.get SEC.START.CAUSE = c ∧ t.boot.att = att ∧ t.now = s.now ∧ t.tcRun = s.tcRun ∧
        (∀ p : Fin 96, t.get (GP.CTRL.EN p) = 0 ∧ t.get (GP.SAFE.SAFE p) = s.get (GP.SAFE.SAFE p)) ∧
        (∀ b : Fin 68, t.get (BANKS.OWNER.OWNER b) = s.get (BANKS.OWNER.OWNER b)) ∧ (∀ q, t.rd q = s.rd q ∨ q < 0x500000) ∧
        (∀ k : Fin 256, t.get (CTU.FCNT.COUNT k) = s.get (CTU.FCNT.COUNT k)) ∧
        t.get CTU.LOGCTL.COUNT = s.get CTU.LOGCTL.COUNT ∧ t.cores = [] ∧ t.pending = s.pending) ∧
      (∀ k : Token, s.boot.token = some k → k.region = 0 → att < 3 → s.marks = [] → s.flash.torn = [] →
        (∀ e ∈ s.mem, e.1 < 0x460000 ∨ 0x500000 ≤ e.1) → s.imageReason 0 false = none → s.hdr 0 6 0 1 = 0 →
        Ends (.warmStart d) s (fun t => t.boot.hand = some ⟨true, false, 255 - s.redCores⟩ ∧ t.get SEC.START.TOKEN = 1 ∧
          t.get SEC.START.KIND = 1 ∧ t.get SEC.START.REGION = 0 ∧ t.image = (s.hdr 0 3 0 32, s.hdr 0 4 0 32) ∧
          t.boot.due = none ∧ t.boot.token = some k))) ∧
    -- R19, R20: after Black timecode goes on from the value saved at entry plus one, once, and every replica waits for a sync word
    (∀ c : Nat, s.boot.due = some (true, c) → c < 16 → c ≠ 7 → s.flash.wipe = false → s.boot.black = true →
      Ends (.warmStart d) s (fun t => t.now = s.tcSaved + 1 ∧ t.tcRun = true ∧ t.boot.black = false ∧
        t.get TC.STATUS.EPOCH = (s.get TC.STATUS.EPOCH + 1) % 2 ^ (TC.STATUS.EPOCH).w ∧ t.unsynced 17 = true ∧ t.unsynced 0 = true))

/-- R384, R385, R388, R389, R403: The handoff starts T0 of the lowest good core; GOODW clears the start counter; two key words in
order restart the watchdog, and its expiry makes a warm start due; BOOTCFG is the host's. That REM counts in ms (log entry 8), that
SEC.START answers as a word of IS29 (log entry 20), BOOTCFG as the registers of the security island describe it (log entry 73), and
the rows that do nothing (log entry 13), are the model's choice. -/
def Obligations.StartRest : Prop :=
  ∀ (s : State) (a : Owner), s.Settled a →
    let ok (n : Nat) : State → State := fun u => u.setBus ⟨n, .ok, 0, 0⟩
    (s.boot.hand = none → exec (.startHandoff 0) s = .next s) ∧
    (∀ (h : Handoff), s.boot.hand = some h → ∀ (us : BitVec 24) (c : Fin 4), h.cores / 2 ^ c.val % 2 = 1 →
      (∀ k < c.val, h.cores / 2 ^ k % 2 = 0) → s.get PORTS.CUTSTAT.LATCH = 0 → s.get SEC.WDSTAT.REM < 2 ^ 16 →
      Ends (.startHandoff us) s (fun t => t.boot.hand = none ∧ t.get SEC.STARTTIME.US = us.toNat ∧ t.coreState c = 1 ∧
        (∀ k : Fin 4, k ≠ c → t.coreState k = if h.cores / 2 ^ k.val % 2 = 1 then 4 else 5) ∧
        t.get (CUE.TSTAT.STATE c 0) = 2 ∧ (t.core c).pc = s.image.1 ∧ t.get (CUE.TPC.PC c 0) = s.image.1 % 2 ^ 32 ∧
        t.get (CUE.EPA.EPA c) = s.image.2 % 2 ^ 32 ∧ t.get (BANKS.OWNER.PEER 64) = 0x42 ∧
        t.get (BANKS.OWNER.OWNER 0) = (if s.get (BANKS.OWNER.OWNER 0) = 0 then 1 + c.val else s.get (BANKS.OWNER.OWNER 0)) ∧
        t.get SEC.WDOG.PERIOD = s.get SEC.BOOTCFG.WDSTART ∧
        t.get SEC.WDOG.EN = (if s.get SEC.BOOTCFG.WDSTART = 0 then 0 else 1) ∧
        t.get ETH.SLSTATE.STATE = (if h.recov then 5 else 1))) ∧
    -- R12: the word stands in IS29
    (s.island 29 = 0 → Writes (.goodw a) s [(SEC.START.GOOD, 1)] (fun u => (u.setBoot { u.boot with att := 0 }).setBus ⟨a.toNat, .ok, 0, 0⟩)) ∧
    (2 ≤ s.island 29 → Writes (.goodw a) s [] (fun u => u.setBus ⟨a.toNat, .busMap, 0, 0⟩)) ∧
    -- the watchdog
    (∀ v : Word, s.island 29 = 0 →
      (v.toNat % 2 ^ 12 = 0x5A5 → Writes (.wdkick a v) s []
        (fun u => ok a.toNat (u.setBoot { u.boot with kick := true }))) ∧
      (v.toNat % 2 ^ 12 = 0xA5A → s.boot.kick = true → s.get SEC.WDOG.EN = 1 →
        Writes (.wdkick a v) s [(SEC.WDSTAT.REM, max 1 (s.get SEC.WDOG.PERIOD))]
          (fun u => ok a.toNat (u.setBoot { u.boot with kick := false }))) ∧
      (v.toNat % 2 ^ 12 ≠ 0x5A5 → s.boot.kick = false ∨ v.toNat % 2 ^ 12 ≠ 0xA5A → Writes (.wdkick a v) s []
        (fun u => ok a.toNat (u.setBoot { u.boot with kick := false })))) ∧
    (s.get SEC.WDOG.EN = 0 ∨ s.get ETH.SLSTATE.STATE = 6 ∨ s.heldInReset = true → exec .wdogExpiry s = .next s) ∧
    (s.get SEC.WDOG.EN = 1 → s.get ETH.SLSTATE.STATE < 6 → s.heldInReset = false → s.boot.due = none → s.boot.hand = none → s.get SEC.WDOG.PERIOD < 2 ^ 16 →
      Ends .wdogExpiry s (fun t => t.get SEC.WDSTAT.REM = 0 ∧ t.boot = { s.boot with due := some (true, 9) } ∧
        t.reports = s.reports ++ [⟨.wdogExpired, 0, s.get SEC.WDOG.PERIOD, false⟩] ∧ SameMem s t)) ∧
    -- BOOTCFG, while the store cannot take it
    (∀ v : Word, s.island 29 = 0 →
      (a.toNat ≠ 0x40 → Writes (.bootcfgWrite a v) s [] (fun u => u.setBus ⟨a.toNat, .busOwn, 0, 0⟩)) ∧
      (a.toNat = 0x40 → s.get FLASH.RSSTAT.STATE ≠ 2 → Writes (.bootcfgWrite a v) s [(SEC.BOOTCFG.SAVED, 0),
        (SEC.BOOTCFG.PREF, v.toNat / 2 ^ 33 % 2), (SEC.BOOTCFG.DDRAUTO, v.toNat / 2 ^ 32 % 2),
        (SEC.BOOTCFG.DDRCFG, v.toNat / 2 ^ 20 % 2 ^ 12), (SEC.BOOTCFG.WDSTART, v.toNat / 2 ^ 4 % 2 ^ 16)] (ok 0x40)) ∧
      -- R403: a store that is READY takes it as record 61
      (a.toNat = 0x40 → s.get FLASH.RSSTAT.STATE = 2 → s.recs.cmd = none → Tab.get (fun _ => 0) s.recs.index 61 = 0 →
        ∀ sec : Nat, s.recs.active = some sec → 384 ≤ sec → sec < 1024 → s.recs.point < 64 →
        let q := 0x400000 + sec * 0x400 + 16 * s.recs.point
        Ends (.bootcfgWrite a v) s (fun t => t.get SEC.BOOTCFG.SAVED = 1 ∧ t.get SEC.BOOTCFG.PREF = v.toNat / 2 ^ 33 % 2 ∧
          t.get SEC.BOOTCFG.WDSTART = v.toNat / 2 ^ 4 % 2 ^ 16 ∧ t.rd q / 2 ^ 16 = 61 * 2 ^ 14 + 1 * 2 ^ 10 ∧
          t.rd (q + 1) = v.toNat / 2 ^ 33 % 2 * 2 ^ 33 + v.toNat / 2 ^ 32 % 2 * 2 ^ 32 + v.toNat / 2 ^ 20 % 2 ^ 12 * 2 ^ 20 +
            v.toNat / 2 ^ 4 % 2 ^ 16 * 2 ^ 4 ∧ SameMemBut s t q 16 ∧ Tab.get (fun _ => 0) t.recs.index 61 = q ∧
          t.bus = ⟨0x40, .ok, 0, 0⟩)))

/-- R399 to R401: The security island runs the request at the head of its queue: hashes, signatures, random octets, keys and AES-GCM
go to their destination with the octets they take; what fails ends with BAD_ARG, AUTH or BUSY and writes nothing. The hash, signature
and cipher functions are those of FIPS 202, FIPS 204 and AES-GCM, which the spec names and does not write out (free functions of
`Config`). The empty additional data of AES-GCM, that a signature of another length than 4,627 octets fails, and the count of words of
HASHW (log entry 76), and the rows that do nothing (log entry 13), are the model's choice. -/
def Obligations.SecurityRequests : Prop :=
  ∀ s : State,
    (s.sec.queue = [] → exec .hash s = .next s ∧ exec .hashw s = .next s ∧ exec .verify s = .next s ∧ exec (.sign false) s = .next s ∧
      exec .random s = .next s ∧ exec .keyload s = .next s ∧ exec .gcmEnc s = .next s ∧ exec .gcmDec s = .next s ∧
      exec .securityRequestDone s = .next s) ∧
    (∀ (h : Nat × List Nat) (rest : List (Nat × List Nat)), s.sec.queue = h :: rest → s.marks = [] →
      let q := reqOf h.2
      -- `n` words from `x` lie in one bank of the island
      let mine (x n : Nat) : Prop := (bankOf? x).any (fun b => decide (b < 64 ∧ bankOf? (x + n) = some b ∧
        s.get (BANKS.OWNER.OWNER b) = 0x43 ∧ s.get (BANKS.STATUS.RED b) = 0)) = true
      let octs (x n : Nat) : List Nat := (unpackOctets (s.rds x ((n + 3) / 4))).take n
      let wrote (l : List Nat) (t : State) : Prop := t.sec.done = some (0, l.length) ∧
        t.rds q.dst ((l.length + 3) / 4) = packed l ∧ SameMemBut s t q.dst ((l.length + 3) / 4)
      let fails (st : Nat) : State → State := fun u => u.setSec { u.sec with done := some (st, 0) }
      (s.sec.done = none →
        (q.op ≠ 1 → exec .hash s = .next s) ∧
        (q.op = 1 → mine q.src q.slen →
          (64 ≤ q.dlen → mine q.dst 16 → Ends .hash s (wrote (octets 64 (Config.sha3 (octs q.src q.slen) % 2 ^ 512)))) ∧
          (q.dlen < 64 → Writes .hash s [] (fails 4))) ∧
        (q.op = 2 → mine q.src q.slen → 64 ≤ q.dlen → mine q.dst 16 →
          Ends .hashw s (wrote (octets 64 (Config.sha3Words (s.rds q.src (q.slen * 2 / 9)) % 2 ^ 512)))) ∧
        (q.op = 3 → 2592 ≤ q.dlen → mine q.dst 648 → mine q.src q.slen → mine q.aux q.alen →
          Writes .verify s [] (fails (if q.alen = 4627 ∧ Config.mldsaVerify (octs q.dst 2592) (octs q.aux q.alen)
            (octs q.src q.slen) Ctx.sw.num = true then 0 else 7))) ∧
        (q.op = 4 → s.get SEC.STATUS.TRNGOK = 0 → Writes (.sign false) s [] (fails 8)) ∧
        (q.op = 4 → s.get SEC.STATUS.TRNGOK = 1 → mine q.src q.slen → 4627 ≤ q.dlen → mine q.dst 1157 →
          Ends (.sign false) s (fun t => t.sec.done = some (0, 4627) ∧ SameMemBut s t q.dst 1157) ∧
          Writes (.sign true) s [] (fails 8)) ∧
        (q.op = 5 → s.get SEC.STATUS.TRNGOK = 0 → Writes .random s [] (fails 8)) ∧
        (q.op = 5 → s.get SEC.STATUS.TRNGOK = 1 → q.slen ≤ q.dlen → mine q.dst q.slen →
          Ends .random s (fun t => t.sec.done = some (0, q.slen) ∧ SameMemBut s t q.dst ((q.slen + 3) / 4))) ∧
        (q.op = 6 → 8 ≤ q.key → mine q.src 8 → Ends .keyload s (fun t => t.sec.done = some (0, 0) ∧
          t.handle q.key = some (ofOctets (octs q.src 32)) ∧ (∀ k : Fin 16, k ≠ q.key → t.handle k = s.handle k) ∧ SameMem s t)) ∧
        (q.op = 6 → q.key < 8 → Writes .keyload s [] (fails 4)) ∧
        (q.op = 7 → s.handle q.key = none → Writes .gcmEnc s [] (fails 4)) ∧
        (q.op = 8 → s.handle q.key = none → Writes .gcmDec s [] (fails 4)) ∧
        (∀ key : Nat, s.handle q.key = some key → mine q.aux 3 → mine q.src q.slen → mine q.dst (q.slen + 16) →
          (q.op = 7 → q.slen + 16 ≤ q.dlen →
            let r := Config.gcmSeal key (octs q.aux 12) [] (octs q.src q.slen)
            Ends .gcmEnc s (wrote (fitOctets q.slen r.1 ++ fitOctets 16 r.2))) ∧
          (q.op = 8 → 16 ≤ q.slen → q.slen ≤ q.dlen + 16 →
            let m := octs q.src q.slen
            match Config.gcmOpen key (octs q.aux 12) [] (m.take (q.slen - 16)) (m.drop (q.slen - 16)) with
            | none => Writes .gcmDec s [] (fails 7)
            | some p => Ends .gcmDec s (wrote (fitOctets (q.slen - 16) p)))) ∧
        (1 ≤ q.op → q.op ≤ 8 → exec .securityRequestDone s = .next s) ∧
        (q.op = 0 ∨ 8 < q.op → rest.length < 8 → Writes .securityRequestDone s [(SEC.STATUS.QCNT, rest.length)]
          (fun u => u.setSec { u.sec with
            queue := rest
            done := none
            results := u.sec.results ++ [(h.1, 4, 0)] }))) ∧
      (∀ r : Nat × Nat, s.sec.done = some r → rest.length < 8 → Writes .securityRequestDone s [(SEC.STATUS.QCNT, rest.length)]
        (fun u => u.setSec { u.sec with
          queue := rest
          done := none
          results := u.sec.results ++ [(h.1, r.1, r.2)] }))) ∧
    Writes .trngHealth s [(SEC.STATUS.TRNGOK, 0)] (fun u => u.setReports (u.reports ++ [⟨.trngHealth, 0, 0, false⟩])) ∧
    Writes .trngHealthPass s [(SEC.STATUS.TRNGOK, 1)] id

/-- R405 to R407: Debug commands are the debug agent's; an unlock at level 2, in lockout or without the whole answer is refused, the
third denial locks out; halts and steps need open access; a halt takes hold at the boundary of its core. That UNLOCK judges level 2
and lockout before its arguments (log entry 78), what the registers of the TAP capture and what resets it (log entry 149, from IEEE
1149.1), that the end of an UNLOCK that does not run does nothing (log entry 13), and that CORECTL keeps its HALT bits, by which a
core goes on when access closes and stops when it opens again (log entry 127), are the model's choice. -/
def Obligations.DebugAgent : Prop :=
  ∀ (s : State) (a : Owner) (v : Word), s.Settled a →
    let no : State → State := fun u => u.setBus ⟨a.toNat, .busOwn, 0, 0⟩
    let ok : State → State := fun u => u.setBus ⟨0x44, .ok, 0, 0⟩
    let res (code st pend : Nat) : List (FRef × Nat) := [(DBG.RES.CODE, code), (DBG.RES.STATUS, st), (DBG.RES.PENDING, pend)]
    let f := min 3 (s.get DBG.STATUS.FAILS + 1)
    let denied : List (FRef × Nat) := res 2 7 0 ++ [(DBG.STATUS.FAILS, f),
      (DBG.STATUS.LOCKOUT, if f = 3 then 1 else s.get DBG.STATUS.LOCKOUT)]
    let told (u : State) : State := u.setReports (u.reports ++ [⟨.debugDenied, 0, f, false⟩])
    -- R407: the HALT bits of the cores that the device has
    let halted (h : Nat) : Nat := h % (if s.split = true then 2 ^ 8 else 2 ^ 4)
    -- R12: the words of the debug access stand in IS26
    (2 ≤ s.island 26 →
      let map : State → State := fun u => u.setBus ⟨a.toNat, .busMap, 0, 0⟩
      Writes (.challenge a) s [] map ∧ Writes (.unlock a) s [] map ∧ Writes (.lock a) s [] map ∧
      Writes (.debugRespWrite a v) s [] map ∧ Writes (.debugHalt a v) s [] map ∧ Writes (.debugStep a v) s [] map) ∧
    (a.toNat ≠ 0x44 → s.island 26 = 0 → Writes (.challenge a) s [] no ∧ Writes (.unlock a) s [] no ∧ Writes (.lock a) s [] no ∧
      Writes (.debugRespWrite a v) s [] no ∧ Writes (.debugHalt a v) s [] no ∧ Writes (.debugStep a v) s [] no) ∧
    (a.toNat = 0x44 → s.island 26 = 0 →
      (s.get DBG.RES.PENDING = 1 → Writes (.unlock a) s (res 2 8 1) ok ∧ Writes (.lock a) s (res 3 8 1) ok) ∧
      (s.get DBG.RES.PENDING = 0 → s.AtBoundary →
        Ends (.challenge a) s (fun t => t.sec.fresh = true ∧ t.sec.words = [] ∧ t.get DBG.RESPCNT.COUNT = 0 ∧
          t.get DBG.RES.STATUS = 0 ∧ t.get DBG.RES.CODE = 1 ∧ t.get DBG.STATUS.UNLOCKED = s.get DBG.STATUS.UNLOCKED ∧
          SameMem s t ∧ t.bus = ⟨0x44, .ok, 0, 0⟩) ∧
        Writes (.lock a) s (res 3 0 0 ++ [(DBG.STATUS.UNLOCKED, 0), (DBG.STATUS.OPEN, if s.otp.level = 0 then 1 else 0),
          (DBG.CORESTS.HALTED, if s.otp.level = 0 then halted (s.get DBG.CORECTL.HALT) else 0)]) ok ∧
        (s.otp.level = 2 ∨ s.get DBG.STATUS.LOCKOUT = 1 → Writes (.unlock a) s denied (fun u => ok (told u))) ∧
        (s.otp.level ≠ 2 → s.get DBG.STATUS.LOCKOUT = 0 →
          (s.sec.fresh = false ∨ s.get DBG.RESPCNT.COUNT ≠ 1805 → Writes (.unlock a) s (res 2 4 0) ok) ∧
          (s.sec.fresh = true → s.get DBG.RESPCNT.COUNT = 1805 → Writes (.unlock a) s (res 2 0 1) ok))) ∧
      (s.sec.words.length < 1805 → Writes (.debugRespWrite a v) s [(DBG.RESPCNT.COUNT, min (s.get DBG.RESPCNT.COUNT + 1) (2 ^ 11 - 1))]
        (fun u => ok (u.setSec { u.sec with words := u.sec.words ++ [v.toNat] }))) ∧
      (s.debugOpen = false → Writes (.debugHalt a v) s [] (fun u => u.setBus ⟨0x44, .busOwn, 0, 0⟩)) ∧
      (s.debugOpen = true → v.toNat / 2 ^ 8 = 0 → s.AtBoundary →
        Writes (.debugHalt a v) s [(DBG.CORECTL.HALT, v.toNat % 2 ^ 8), (DBG.CORESTS.HALTED, halted (v.toNat % 2 ^ 8))] ok) ∧
      -- R407: a core within an instruction, whose access waits for an island in Grey, stops at its boundary
      (s.debugOpen = true → v.toNat / 2 ^ 8 = 0 → Ends (.debugHalt a v) s (fun t => t.get DBG.CORECTL.HALT = v.toNat % 2 ^ 8 ∧
        SameMem s t ∧ ∀ q : Fin 8, s.coreExists q = true →
          bitOf (t.get DBG.CORESTS.HALTED) q = (bitOf v.toNat q && (s.coreHalted q || !s.within q)))) ∧
      (s.debugOpen = true → s.split = false → s.AtBoundary → ∀ c : Fin 4, v.toNat / 2 ^ c.val % 2 = 1 → v.toNat / 2 ^ (8 + c.val) % 2 = 1 →
        Ends (.debugStep a v) s (fun t => t.core c = { s.core c with step := true } ∧
          t.get DBG.CORESTS.HALTED = v.toNat % 2 ^ 4 ∧ SameMem s t))) ∧
    -- the verification of an UNLOCK ends
    (s.get DBG.RES.PENDING = 0 → exec .unlockDone s = .next s) ∧
    (s.get DBG.RES.PENDING = 1 → s.AtBoundary → if s.debugAnswers = true ∧ s.otp.level ≠ 2 ∧ s.get DBG.STATUS.LOCKOUT = 0 then
        Writes .unlockDone s (res 2 0 0 ++ [(DBG.STATUS.UNLOCKED, 1), (DBG.STATUS.OPEN, if s.otp.level < 2 then 1 else 0),
            (DBG.CORESTS.HALTED, if s.otp.level < 2 then halted (s.get DBG.CORECTL.HALT) else 0)])
          (fun u => (u.setSec { u.sec with fresh := false }).setReports (u.reports ++ [⟨.debugUnlock, 0, 0, false⟩]))
      else Writes .unlockDone s denied (fun u => told (u.setSec { u.sec with fresh := false }))) ∧
    -- EXTEST drives the pins only while CUT is latched and access is open
    (∀ pins : List Bool,
      let tap (scan : List Bool) (r : TapReg) (dr : List Bool) : State → State := fun u => u.setSec { u.sec with
        scan := scan
        tap := r
        dr := dr }
      (s.get PORTS.CUTSTAT.LATCH = 1 → s.debugOpen = true →
        Writes (.extest pins) s [(DBG.STATUS.TAP, 1)] (tap pins .boundary [])) ∧
      (s.get PORTS.CUTSTAT.LATCH = 0 ∨ s.debugOpen = false → Writes (.extest pins) s [(DBG.STATUS.TAP, 1)] (tap [] .bypass [false])) ∧
      -- the other instructions of the TAP, and its reset
      Writes (.extest pins (some .bypass)) s [(DBG.STATUS.TAP, 1)] (tap [] .bypass [false]) ∧
      Writes (.extest pins (some .idcode)) s [(DBG.STATUS.TAP, 1)]
        (tap [] .idcode ((List.range 32).map (fun i => Nat.testBit 0x2963674B i))) ∧
      (∀ levels : List Bool, Writes (.extest pins (some (.sample levels))) s [(DBG.STATUS.TAP, 1)] (tap [] .boundary levels)) ∧
      Writes (.extest pins (some .reset)) s [(DBG.STATUS.TAP, 0)]
        (tap [] .idcode ((List.range 32).map (fun i => Nat.testBit 0x2963674B i))))

/-- R186, R192, R195, R196: Sums and differences of words, doubles and saturated numbers. C is the carry out of bit 35, or the
borrow; V tells that the signed result does not fit. -/
def Obligations.Sums : Prop :=
  ∀ (s : State) (c : Fin 8) (d a b : Fin 32) (sf : Bool), s.Ready c 1 →
    let x := s.reg c a
    let y := s.reg c b
    let ci := bit (s.core c).c
    let sx := sgn 36 x
    let sy := sgn 36 y
    let wide (w : Nat) (v : Int) : Bool := decide (v < -(2 ^ (w - 1))) || decide (2 ^ (w - 1) ≤ v)
    let gives (i : Instr) (v : Nat) (cf vf : Option Bool) : Prop :=
      Gives i c 1 d v sf (some (decide (v = 0))) (some (decide (2 ^ 35 ≤ v))) cf vf s
    let sat (i : Instr) (v : Int) : Prop := gives i (unsgn 36 (clampInt (-(2 ^ 35)) (2 ^ 35 - 1) v)) none (some (wide 36 v))
    let flags (i : Instr) (v : Nat) (cf vf : Bool) : Prop :=
      Gives i c 1 0 0 true (some (decide (v = 0))) (some (decide (2 ^ 35 ≤ v))) (some cf) (some vf) s
    gives (.add c d a b sf) ((x + y) % 2 ^ 36) (some (decide (2 ^ 36 ≤ x + y))) (some (wide 36 (sx + sy))) ∧
    gives (.adc c d a b sf) ((x + y + ci) % 2 ^ 36) (some (decide (2 ^ 36 ≤ x + y + ci))) (some (wide 36 (sx + sy + ci))) ∧
    gives (.sub c d a b sf) ((x + 2 ^ 36 - y) % 2 ^ 36) (some (decide (x < y))) (some (wide 36 (sx - sy))) ∧
    gives (.sbc c d a b sf) ((x + 2 ^ 37 - y - ci) % 2 ^ 36) (some (decide (x < y + ci))) (some (wide 36 (sx - sy - ci))) ∧
    gives (.neg c d a sf) ((2 ^ 36 - x) % 2 ^ 36) (some (decide (0 < x))) (some (wide 36 (-sx))) ∧
    gives (.abs c d a sf) sx.natAbs none (some (wide 36 sx.natAbs)) ∧
    flags (.cmp c a b) ((x + 2 ^ 36 - y) % 2 ^ 36) (decide (x < y)) (wide 36 (sx - sy)) ∧
    (∀ imm : BitVec 20, flags (.cmpi c a imm) (unsgn 36 (sx - imm.toInt)) (decide (x < unsgn 36 imm.toInt))
      (wide 36 (sx - imm.toInt))) ∧
    (∀ imm : BitVec 20, Gives (.addi c d a imm) c 1 d (unsgn 36 (sx + imm.toInt)) false none none none none s) ∧
    (∀ imm : BitVec 20, Gives (.lea c d a imm) c 1 d (unsgn 32 (sx + imm.toInt)) false none none none none s) ∧
    (∀ v : Word, s.Ready c 2 → Gives (.addl c d a v) c 2 d ((x + v.toNat) % 2 ^ 36) false none none none none s) ∧
    -- saturated
    sat (.addf c d a b sf) (sx + sy) ∧ sat (.subf c d a b sf) (sx - sy) ∧ sat (.negf c d a sf) (-sx) ∧
    sat (.absf c d a sf) sx.natAbs ∧ (∀ k : BitVec 6, sat (.shlf c d a k sf) (sx * 2 ^ k.toNat)) ∧
    -- R186: doubles in even pairs; an odd specifier is ILLEGAL
    (d.val % 2 = 0 → a.val % 2 = 0 → b.val % 2 = 0 →
      let p := s.pair c a
      let q := s.pair c b
      let pair (i : Instr) (v : Nat) (cf vf : Option Bool) : Prop := Ends i s (fun t => CoreOnly c s t ∧ Done c 1 s t ∧
        (∀ r : Fin 32, t.reg c r = if r = d ∧ s.readsZero c r = false then v / 2 ^ 36
          else if r.val = d.val + 1 ∧ s.readsZero c r = false then v % 2 ^ 36 else s.reg c r) ∧
        FlagsOf c sf (some (decide (v = 0))) (some (decide (2 ^ 71 ≤ v))) cf vf s t)
      pair (.addd c d a b sf) ((p + q) % 2 ^ 72) (some (decide (2 ^ 72 ≤ p + q))) (some (wide 72 (sgn 72 p + sgn 72 q))) ∧
      pair (.subd c d a b sf) ((p + 2 ^ 72 - q) % 2 ^ 72) (some (decide (p < q))) (some (wide 72 (sgn 72 p - sgn 72 q))) ∧
      pair (.movd c d a sf) p none none ∧
      (let v := (p + 2 ^ 72 - q) % 2 ^ 72
       Gives (.cmpd c a b) c 1 0 0 true (some (decide (v = 0))) (some (decide (2 ^ 71 ≤ v))) (some (decide (p < q)))
        (some (wide 72 (sgn 72 p - sgn 72 q))) s)) ∧
    ((s.core c).level < 7 → a.val % 2 = 1 → Raises (.addd c d a b sf) c 3 4 s ∧ Raises (.cmpd c a b) c 3 4 s)

/-- R192, R193, R195, R196: Logic, comparison, count, shift and select functions of words: Z and N with S = 1, and C of a
shift is the last bit that left the word. -/
def Obligations.LogicAndShifts : Prop :=
  ∀ (s : State) (c : Fin 8) (d a b : Fin 32) (sf : Bool), s.Ready c 1 →
    let x := s.reg c a
    let y := s.reg c b
    let gives (i : Instr) (v : Nat) (cf : Option Bool) : Prop :=
      Gives i c 1 d v sf (some (decide (v = 0))) (some (decide (2 ^ 35 ≤ v))) cf none s
    let zonly (i : Instr) (v : Nat) : Prop := Gives i c 1 d v sf (some (decide (v = 0))) none none none s
    let bare (i : Instr) (v : Nat) : Prop := Gives i c 1 d v false none none none none s
    let shl (i : Instr) (k : Nat) : Prop := gives i (x * 2 ^ k % 2 ^ 36) (some (decide (1 ≤ k ∧ k ≤ 36) && x.testBit (36 - k)))
    let shr (i : Instr) (k : Nat) : Prop := gives i (x / 2 ^ k) (some (decide (1 ≤ k) && x.testBit (k - 1)))
    let sar (i : Instr) (k : Nat) : Prop := gives i (unsgn 36 (sgn 36 x / 2 ^ k)) (some (decide (1 ≤ k) && x.testBit (min (k - 1) 35)))
    let rol (i : Instr) (k : Nat) : Prop :=
      let v := x * 2 ^ (k % 36) % 2 ^ 36 + x / 2 ^ (36 - k % 36)
      gives i v (some (decide (k % 36 ≠ 0) && v.testBit 0))
    gives (.and c d a b sf) (x &&& y) none ∧ gives (.or c d a b sf) (x ||| y) none ∧ gives (.xor c d a b sf) (x ^^^ y) none ∧
    gives (.andn c d a b sf) (x &&& (2 ^ 36 - 1 - y)) none ∧ gives (.not c d a sf) (2 ^ 36 - 1 - x) none ∧
    gives (.mov c d a sf) x none ∧ gives (.minu c d a b sf) (min x y) none ∧ gives (.maxu c d a b sf) (max x y) none ∧
    gives (.min c d a b sf) (unsgn 36 (min (sgn 36 x) (sgn 36 y))) none ∧
    gives (.max c d a b sf) (unsgn 36 (max (sgn 36 x) (sgn 36 y))) none ∧
    Gives (.tst c a b) c 1 0 0 true (some (decide (x &&& y = 0))) (some (decide (2 ^ 35 ≤ x &&& y))) none none s ∧
    (∀ k : Fin 37, x < 2 ^ (36 - k.val) → (k.val < 36 → 2 ^ (35 - k.val) ≤ x) → zonly (.clz c d a sf) k.val) ∧
    zonly (.popc c d a sf) ((List.range 36).filter (fun i => x.testBit i)).length ∧
    shl (.shl c d a b sf) (y % 64) ∧ shr (.shr c d a b sf) (y % 64) ∧ sar (.sar c d a b sf) (y % 64) ∧
    rol (.rol c d a b sf) (y % 64) ∧
    (∀ k : BitVec 6, shl (.shlk c d a k sf) k.toNat ∧ shr (.shrk c d a k sf) k.toNat ∧ sar (.sark c d a k sf) k.toNat ∧
      rol (.rolk c d a k sf) k.toNat) ∧
    (∀ imm : BitVec 20, bare (.andi c d a imm) (x &&& imm.toNat) ∧ bare (.ori c d a imm) (x ||| imm.toNat) ∧
      bare (.xori c d a imm) (x ^^^ imm.toNat)) ∧
    -- R193: a condition selects; COND 15 is reserved
    (∀ k : BitVec 6, k.toNat % 16 ≠ 15 → bare (.sel c d a b k) (if (s.core c).holds (k.toNat % 16) then x else y)) ∧
    ((s.core c).level < 7 → ∀ k : BitVec 6, k.toNat % 16 = 15 → Raises (.sel c d a b k) c 3 3 s)

/-- R183, R187, R189, R195, R196, R219: Halves, octets, bit fields, constants, the status word, and what is ILLEGAL. -/
def Obligations.FieldsAndStatus : Prop :=
  ∀ (s : State) (c : Fin 8) (d a b : Fin 32) (sf : Bool), s.Ready c 1 →
    let x := s.reg c a
    let y := s.reg c b
    let o := s.reg c d
    let gives (i : Instr) (v : Nat) : Prop := Gives i c 1 d v sf (some (decide (v = 0))) (some (decide (2 ^ 35 ≤ v))) none none s
    let zonly (i : Instr) (v : Nat) : Prop := Gives i c 1 d v sf (some (decide (v = 0))) none none none s
    let bare (i : Instr) (v : Nat) : Prop := Gives i c 1 d v false none none none none s
    let half (v k : Nat) : Nat := v / 2 ^ (18 * (k % 2)) % 2 ^ 18
    let oct (v k : Nat) : Nat := v / 2 ^ (24 - 8 * (k % 4)) % 2 ^ 8
    (∀ k : BitVec 6, gives (.exh c d a k sf) (if k.toNat / 2 % 2 = 1 then unsgn 36 (sgn 18 (half x k.toNat)) else half x k.toNat)) ∧
    (∀ k : BitVec 6, gives (.insh c d a k sf) (if k.toNat % 2 = 1 then x % 2 ^ 18 * 2 ^ 18 + o % 2 ^ 18
      else o / 2 ^ 18 * 2 ^ 18 + x % 2 ^ 18)) ∧
    gives (.swaph c d a sf) (x % 2 ^ 18 * 2 ^ 18 + x / 2 ^ 18) ∧
    bare (.addh c d a b) ((half x 1 + half y 1) % 2 ^ 18 * 2 ^ 18 + (half x 0 + half y 0) % 2 ^ 18) ∧
    (∀ k : BitVec 6, zonly (.exb c d a k sf) (oct x k.toNat)) ∧
    (∀ k : BitVec 6, zonly (.inb c d a k sf)
      (o % 2 ^ 32 - oct o k.toNat * 2 ^ (24 - 8 * (k.toNat % 4)) + x % 2 ^ 8 * 2 ^ (24 - 8 * (k.toNat % 4)))) ∧
    zonly (.bswap c d a sf) (oct x 3 * 2 ^ 24 + oct x 2 * 2 ^ 16 + oct x 1 * 2 ^ 8 + oct x 0) ∧
    -- R196: constants and bit fields
    (∀ imm : BitVec 20, bare (.movi c d imm) (unsgn 36 imm.toInt) ∧ bare (.lih c d imm) (imm.toNat * 2 ^ 16)) ∧
    (∀ v : Word, s.Ready c 2 → Gives (.movl c d v) c 2 d v.toNat false none none none none s) ∧
    (∀ imm : BitVec 20,
      let p := imm.toNat % 64
      let w := imm.toNat / 64 % 64
      (1 ≤ w → p + w ≤ 36 →
        bare (.bfx c d a imm) (if imm.toNat / 2 ^ 12 % 2 = 1 then unsgn 36 (sgn w (x / 2 ^ p % 2 ^ w)) else x / 2 ^ p % 2 ^ w) ∧
        bare (.bfi c d a imm) (o - o / 2 ^ p % 2 ^ w * 2 ^ p + x % 2 ^ w * 2 ^ p)) ∧
      ((s.core c).level < 7 → w = 0 ∨ 36 < p + w → Raises (.bfx c d a imm) c 3 6 s ∧ Raises (.bfi c d a imm) c 3 6 s)) ∧
    -- R187: the status word
    bare (.mfs c d) (s.status c) ∧
    Gives (.mts c a) c 1 0 0 true (some (x.testBit 0)) (some (x.testBit 1)) (some (x.testBit 2)) (some (x.testBit 3)) s ∧
    -- R189, R219
    ((s.core c).level < 7 → ∀ why : Fin 3, Raises (.illegal c why) c 3 (1 + why) s)

/-- R193, R197, R201, R202, R225, R231, R247, R254, R255: Transfers, calls, returns and loops. The back edge of a loop: the count
falls, and the body is repeated until it is zero. A transfer is stated where the word that comes next, and the word after a taken one,
which is fetched and abandoned, can be fetched (R220, R225). -/
def Obligations.Transfers : Prop :=
  (∀ (s : State) (c : Fin 8), s.Ready c 1 →
     let x := s.core c
     let k := x.level
     let t := x.task
     let dep := s.get (CUE.TSTAT.WDEP c t)
     let rs := s.get (CUE.TSTAT.RSDEP c t)
     let q := s.taskOf c t
     let target (disp : BitVec 26) : Nat := (((x.pc : Int) + disp.toInt) % 2 ^ 32).toNat
     let flow (v : State) : Prop := SameRegs c s v ∧ SameFlags c s v ∧ SameMem s v ∧ (v.core c).sync = none
     -- a jump goes there; a loop whose body it leaves is over
     let jump (i : Instr) (to_ : Nat) : Prop := s.FetchOk c to_ → Ends i s (fun v => flow v ∧ (v.core c).pc = to_ ∧
       CoreOnly c s v ∧ (v.core c).level = k ∧ v.loop c = (s.loop c).filter (fun l => decide (l.first ≤ to_ ∧ to_ ≤ l.last)))
     -- R254: at level 0 a call opens the next window and pushes the return address
     let call (i : Instr) (n to_ : Nat) : Prop := s.FetchOk c to_ → Ends i s (fun v => SameFlags c s v ∧ SameMem s v ∧ (v.core c).sync = none ∧
       (v.core c).pc = to_ ∧ v.get (CUE.TSTAT.WDEP c t) = dep + 1 ∧ v.get (CUE.TSTAT.RSDEP c t) = min 16 (rs + 1) ∧
       (v.taskOf c t).stack[q.top]? = some ((x.pc + n) % 2 ^ 32) ∧ (v.taskOf c t).top = (q.top + 1) % 16 ∧
       (∀ i : Fin 8, v.reg c (8 + i) = s.reg c (24 + i)) ∧ (∀ i : Fin 8, v.reg c i = s.reg c i))
     -- R255: with RSWRAP = 0 a full return stack takes no address, an empty one gives none
     let arc := arcLen (s.gov c (CUE.TCFG.LEN c t))
     let wraps : Prop := s.gov c (CUE.TCFG.RSWRAP c t) ≠ 0
     let fits : Prop := k = 0 ∧ dep + 1 < arc ∧ (rs ≠ 16 ∨ wraps) ∧ q.stack.length = 16 ∧ q.top < 16 ∧ dep < 31
     -- R247: above level 0 a call pushes on the level's own stack of four and keeps the window
     let st := Tab.get (fun _ => []) x.stks k
     let pushes (i : Instr) (n to_ : Nat) : Prop := s.FetchOk c to_ → Ends i s (fun v => flow v ∧ CoreOnly c s v ∧ (v.core c).pc = to_ ∧
       (v.core c).stks = Tab.ins x.stks k ((x.pc + n) % 2 ^ 32 :: st))
     let calls (i : Instr) (n to_ : Nat) : Prop :=
       (fits → call i n to_) ∧ (k ≠ 0 → st.length < 4 → pushes i n to_) ∧
       (k = 0 → arc ≤ dep + 1 → Raises i c 7 0 s) ∧ (k = 0 → dep + 1 < arc → rs = 16 → ¬wraps → Raises i c 8 0 s) ∧
       (k ≠ 0 → k < 7 → 4 ≤ st.length → Raises i c 8 1 s)
     -- R225: the word after the transfer is fetched and abandoned
     (∀ (cond : BitVec 4) (disp : BitVec 26), cond ≠ 15 →
       (x.holds cond.toNat = true → s.Ready c 2 → jump (.br c cond disp) (target disp) ∧ calls (.callw c cond disp) 1 (target disp)) ∧
       (x.holds cond.toNat = false → Ends (.br c cond disp) s (fun v => flow v ∧ Done c 1 s v ∧ CoreOnly c s v) ∧
         Ends (.callw c cond disp) s (fun v => flow v ∧ Done c 1 s v ∧ CoreOnly c s v))) ∧
     (k < 7 → ∀ disp : BitVec 26, Raises (.br c 15 disp) c 3 3 s ∧ Raises (.callw c 15 disp) c 3 3 s) ∧
     (∀ a : Fin 32, s.Ready c 2 → jump (.jmpr c a) (s.reg c a % 2 ^ 32) ∧ calls (.callwr c a) 1 (s.reg c a % 2 ^ 32)) ∧
     (∀ v : Word, s.Ready c 3 → v.toNat < 2 ^ 32 → jump (.jmpl c v) v.toNat ∧ calls (.callwl c v) 2 v.toNat) ∧
     (∀ v : Word, s.Ready c 2 → k < 7 → 2 ^ 32 ≤ v.toNat → Raises (.jmpl c v) c 3 5 s ∧ Raises (.callwl c v) c 3 5 s) ∧
     -- R254, R255: a return closes the window and goes to the address on top
     (k = 0 → dep ≠ 0 → (rs ≠ 0 ∨ wraps) → dep < 32 → q.stack.length = 16 → s.Ready c 2 →
       s.FetchOk c (q.stack.getD ((q.top + 15) % 16) 0) → Ends (.retw c) s (fun v => SameFlags c s v ∧
       SameMem s v ∧ (v.core c).sync = none ∧ (v.core c).pc = q.stack.getD ((q.top + 15) % 16) 0 ∧
       v.get (CUE.TSTAT.WDEP c t) = dep - 1 ∧ v.get (CUE.TSTAT.RSDEP c t) = rs - 1 ∧
       v.loop c = (s.loop c).filter (fun l => decide (l.win ≠ s.window c)) ∧
       (∀ i : Fin 8, v.reg c (24 + i) = s.reg c (8 + i)))) ∧
     (k = 0 → dep = 0 → Raises (.retw c) c 7 1 s) ∧
     (k = 0 → dep ≠ 0 → rs = 0 → ¬wraps → Raises (.retw c) c 9 0 s) ∧
     (k ≠ 0 → ∀ (a : Nat) (rest : List Nat), st = a :: rest → s.Ready c 2 → s.FetchOk c a → Ends (.retw c) s (fun v => flow v ∧ CoreOnly c s v ∧
       (v.core c).pc = a ∧ (v.core c).stks = Tab.ins x.stks k rest)) ∧
     (k ≠ 0 → k < 7 → st = [] → Raises (.retw c) c 9 1 s) ∧
     (∀ (a : Fin 32) (imm : BitVec 20), k < 7 → imm.toNat % 64 = 0 ∨ (s.loop c).isSome = true → Raises (.loop c a imm) c 3 7 s) ∧
     -- R202: LOOP opens a body of L words, or passes over it
     (∀ (a : Fin 32) (imm : BitVec 20), s.loop c = none → imm.toNat % 64 ≠ 0 → s.reg c a ≠ 0 →
       Ends (.loop c a imm) s (fun v => flow v ∧ Done c 1 s v ∧
         v.loop c = some ⟨(x.pc + 1) % 2 ^ 32, (x.pc + imm.toNat % 64) % 2 ^ 32, s.window c, a⟩)) ∧
     (∀ (a : Fin 32) (imm : BitVec 20), s.loop c = none → imm.toNat % 64 ≠ 0 → s.reg c a = 0 →
       s.FetchOk c ((x.pc + (1 + imm.toNat % 64)) % 2 ^ 32) → Ends (.loop c a imm) s (fun v => flow v ∧ Done c (1 + imm.toNat % 64) s v ∧ v.loop c = none))) ∧
  (∀ (s : State) (c : Fin 8) (l : LoopSt), s.loop c = some l → (s.core c).edge = true → s.coreState c = 1 →
     s.island (coreIsland c) = 0 → l.count < 32 → s.readsZero c (Fin.ofNat 32 l.count) = false →
     s.FetchOk c l.first → s.FetchOk c (s.core c).pc →
     (s.reg c l.count = 0 → Ends (.loopBackEdge c) s (fun t => t.reg c l.count = 2 ^ 36 - 1 ∧ (t.core c).pc = l.first ∧
       t.loop c = some l ∧ (t.core c).edge = false ∧ SameMem s t)) ∧
     (2 ≤ s.reg c l.count → Ends (.loopBackEdge c) s (fun t => t.reg c l.count = s.reg c l.count - 1 ∧
       (t.core c).pc = l.first ∧ t.loop c = some l ∧ (t.core c).edge = false ∧ SameMem s t)) ∧
     (s.reg c l.count = 1 → Ends (.loopBackEdge c) s (fun t => t.reg c l.count = 0 ∧ (t.core c).pc = (s.core c).pc ∧
       t.loop c = none ∧ (t.core c).edge = false ∧ SameMem s t)))

/-- R203, R216, R248, R250, R259: NOP, SYNC, TRAP, HOLD, RETE and WAITE. SYNC drops what the core holds of code; that the line buffer
is emptied with it, so that the next word comes from memory, is the model's reading of R216 step 4 and R218 (log entry 12), which give
SYNC the fetch of the next word from memory and do not name the line buffer. -/
def Obligations.SystemInstructions : Prop :=
  ∀ (s : State) (c : Fin 8), s.Ready c 1 →
    let x := s.core c
    let k := x.level
    let t := x.task
    let keeps (v : State) : Prop := SameFlags c s v ∧ SameMem s v ∧ (v.core c).sync = none
    Ends (.nop c) s (fun v => CoreOnly c s v ∧ SameRegs c s v ∧ SameFlags c s v ∧ Done c 1 s v) ∧
    (x.held = [] → s.Ready c 2 → Ends (.sync c) s (fun v => CoreOnly c s v ∧ SameFlags c s v ∧ Done c 1 s v ∧
      (v.core c).stale = [] ∧ (v.core c).line = [] ∧ (v.core c).view = s.ownBanks c ∧
      -- the word after it is fetched anew
      ∀ e ∈ (v.core c).buf, e.1 = (x.pc + 1) % 2 ^ 32)) ∧
    -- R203, R239: TRAP names n, and returns after itself
    (∀ n : BitVec 8, k < 7 → actLevel (s.gov c (CUE.LVCFG.TRAPLV c)) < 8 → Ends (.trap c n) s (fun v => CoreOnly c s v ∧
      SameRegs c s v ∧ SameFlags c s v ∧ (v.core c).pc = x.pc ∧ ∃ q, (v.core c).sync = some q ∧ q.1.code = 2 ∧
      q.1.info = n.toNat ∧ q.2.1 = (x.pc + 1) % 2 ^ 32)) ∧
    -- R250: a hold of at most HOLDMAX cycles, counted from the end of HOLD; one that stands is never extended, and 0 ends it
    (∀ n : BitVec 12, let h := min n.toNat (s.gov c (CUE.HOLDMAX.HOLDMAX c))
      Ends (.hold c n) s (fun v => CoreOnly c s v ∧ SameRegs c s v ∧ SameFlags c s v ∧ Done c 1 s v ∧
        (x.hold = false → x.hrem = 0 → (v.core c).hold = decide (0 < h) ∧ (v.core c).hrem = h) ∧
        (x.hold = true → (v.core c).hrem ≤ min n.toNat x.hrem) ∧
        (n = 0 → (v.core c).hold = false ∧ (v.core c).hrem = 0 ∧ (v.core c).excess = false))) ∧
    (k < 7 → x.held = [] → k = 0 ∨ s.get (CUE.ENT.V c k) = 0 → Raises (.rete c) c 3 10 s) ∧
    -- R248: the return from an entry restores PC, level and status, from SAVE or from the shadow; never a hold, never a higher level
    (k ≠ 0 → x.held = [] → s.get (CUE.ENT.V c k) = 1 → s.Ready c 2 →
      s.FetchOk c (if s.get (CUE.ENT.MODE c k) ≠ 0 then s.get (CUE.SAVEPC.PC c k) else s.get (CUE.XPC.XPC c k)) →
      let saved := decide (s.get (CUE.ENT.MODE c k) ≠ 0)
      let st := if saved then s.get (CUE.SAVEST.ST c k) else s.get (CUE.XST.XST c k)
      let lv := st / 2 ^ 8 % 8
      Ends (.rete c) s (fun v => SameMem s v ∧ (v.core c).sync = none ∧
        (v.core c).pc = (if saved then s.get (CUE.SAVEPC.PC c k) else s.get (CUE.XPC.XPC c k)) ∧
        (v.core c).level = (if lv < k then lv else s.get (CUE.ENT.ENTLVL c k) % 8) ∧
        FlagsAre c (st.testBit 0) (st.testBit 1) (st.testBit 2) (st.testBit 3) v ∧ (v.core c).cont = st.testBit 7 ∧
        (v.core c).hold = false ∧ (v.core c).hrem = 0 ∧ v.get (CUE.ENT.V c k) = 0 ∧
        -- H0 to H3 of the handler come back from SAVE
        (saved = true → ∀ (i : Fin 4) (q : Nat), s.place c (8 + i) = .own q →
          Tab.get (fun _ => 0) (v.core c).regs q = s.get (CUE.SAVEH.H c k i)) ∧
        (lv < k → st / 2 ^ 11 % 2 = 0 → v.reports = s.reports) ∧
        (k ≤ lv ∨ st / 2 ^ 11 % 2 = 1 → v.reports = s.reports ++ [⟨.statusTamper, 0x100 + c, 0, false⟩]))) ∧
    -- R259: WAITE collects what pends, waits, or yields
    (x.held = [] → ∀ d a : Fin 32,
      let mask := s.reg c a % 2 ^ 32
      let got := s.get (CUE.PEND.PEND c t) &&& mask
      (k < 7 → k ≠ 0 → Raises (.waite c d a) c 3 11 s) ∧
      (k = 0 → mask ≠ 0 → got ≠ 0 → Ends (.waite c d a) s (fun v => keeps v ∧ Done c 1 s v ∧ RegsAre c d got s v ∧
        v.get (CUE.PEND.PEND c t) = s.get (CUE.PEND.PEND c t) - got ∧ v.get (CUE.TSTAT.STATE c t) = 2)) ∧
      (k = 0 → mask ≠ 0 → got = 0 → Ends (.waite c d a) s (fun v => keeps v ∧ Done c 1 s v ∧ SameRegs c s v ∧
        v.get (CUE.TSTAT.STATE c t) = 3 ∧ v.get (CUE.WMASK.WMASK c t) = mask ∧ (v.taskOf c t).wait = some (d.val, false))) ∧
      (k = 0 → mask = 0 → Ends (.waite c d a) s (fun v => keeps v ∧ Done c 1 s v ∧ RegsAre c d 0 s v ∧
        v.get (CUE.TSTAT.STATE c t) = 1)))

/-- R197 to R200, R276, R276: Loads and stores of a core to banks that it owns. In a paired core a store waits for its agreement
token. The token of the oldest write that a paired core holds out: with agreement the write is performed, else it is not; what the
core does at a unit comes after it (log entry 150). -/
def Obligations.LoadsAndStores : Prop :=
  (∀ (s : State) (c : Fin 8) (d a : Fin 32) (imm : BitVec 20), s.Ready c 1 → (s.core c).held = [] →
     let x := s.core c
     let ea := unsgn 32 (sgn 36 (s.reg c a) + imm.toInt)
     let ea1 := (ea + 1) % 2 ^ 32
     let ld (i : Instr) (n e : Nat) : Prop := Gives i c n d (s.rd e) false none none none none s
     let ldd (i : Instr) (n e : Nat) : Prop := Ends i s (fun t => CoreOnly c s t ∧ Done c n s t ∧ SameFlags c s t ∧
       ∀ r : Fin 32, t.reg c r = if r = d ∧ s.readsZero c r = false then s.rd e
         else if r.val = d.val + 1 ∧ s.readsZero c r = false then s.rd ((e + 1) % 2 ^ 32) else s.reg c r)
     -- R276: SPLIT stores at once; a paired core holds the write
     let kept (t : State) : Prop := SameRegs c s t ∧ SameFlags c s t ∧ (t.core c).sync = none ∧
       ∀ r : FRef, r.key ≠ (CUE.TSTAT.DIRTY c x.task).key → t.get r = s.get r
     let st (i : Instr) (n e : Nat) : Prop := (s.split = true → Ends i s (fun t => kept t ∧ Done c n s t ∧ t.rd e = s.reg c d ∧
         SameMemBut s t e 1)) ∧
       (s.split = false → Ends i s (fun t => CoreOnly c s t ∧ SameRegs c s t ∧ SameFlags c s t ∧ Done c n s t ∧
         (t.core c).held = [[(e, s.reg c d)]]))
     let std (i : Instr) (n e : Nat) : Prop := (s.split = true → Ends i s (fun t => kept t ∧ Done c n s t ∧ t.rd e = s.reg c d ∧
         t.rd (e + 1) = s.reg c (d + 1) ∧ SameMemBut s t e 2)) ∧
       (s.split = false → Ends i s (fun t => CoreOnly c s t ∧ SameRegs c s t ∧ SameFlags c s t ∧ Done c n s t ∧
         (t.core c).held = [[(e, s.reg c d), (e + 1, s.reg c (d + 1))]]))
     (s.FetchOk c ea → ld (.ld c d a imm) 1 ea ∧ st (.st c d a imm) 1 ea ∧
       (d.val % 2 = 0 → s.FetchOk c ea1 → ldd (.ldd c d a imm) 1 ea ∧ std (.std c d a imm) 1 ea)) ∧
     (∀ v : Word, s.Ready c 2 → v.toNat < 2 ^ 32 → s.FetchOk c v.toNat → ld (.ldl c d v) 2 v.toNat ∧ st (.stl c d v) 2 v.toNat ∧
       (d.val % 2 = 0 → s.FetchOk c ((v.toNat + 1) % 2 ^ 32) → ldd (.lddl c d v) 2 v.toNat ∧ std (.stdl c d v) 2 v.toNat)) ∧
     -- R28, R29, R200: refused accesses and malformed forms change nothing
     (x.level < 7 → ∀ b : Nat, bankOf? ea = some b → b < 64 → s.get (BANKS.OWNER.OWNER b) ≠ ownCore c →
       s.get (ISL.STAT.STATE (20 + b / 16)) = 0 → Raises (.ld c d a imm) c 5 0 s ∧ Raises (.st c d a imm) c 5 0 s) ∧
     (x.level < 7 → targetOf ea = .none → Raises (.ld c d a imm) c 6 0 s ∧ Raises (.st c d a imm) c 6 0 s) ∧
     (x.level < 7 → d.val % 2 = 1 → Raises (.ldd c d a imm) c 3 4 s ∧ Raises (.std c d a imm) c 3 4 s) ∧
     (x.level < 7 → ∀ v : Word, s.Ready c 2 → 2 ^ 32 ≤ v.toNat → Raises (.ldl c d v) c 3 5 s ∧ Raises (.stl c d v) c 3 5 s)) ∧
  (∀ (s : State) (c : Fin 8) (adr v : Nat), (s.core c).held = [[(adr, v)]] →
     (s.FetchOk c adr → v < 2 ^ 36 → Ends (.writeToken c true) s (fun t => t.rd adr = v ∧ SameMemBut s t adr 1 ∧
       (t.core c).held = [] ∧ t.fields = s.fields)) ∧
     Writes (.writeToken c false) s [] (fun u => u.putCore c { u.core c with held := [] })) ∧
  -- R276: a core's access at a unit comes after the tokens of the writes that it made before
  (∀ (s : State) (i : Instr) (c : Fin 8), i.agent? = some (BitVec.ofNat 8 (1 + c)) → ((settle c s).core c).held = [] →
     exec i s = exec i (settle c s)) ∧
  (∀ (s : State) (c : Fin 8) (w : Nat × Nat), (s.core c).held = [[w]] →
     settle c s = (corePuts c [w] (s.putCore c { s.core c with held := [] })).2)

/-- R204 to R208, R276: One element of a long instruction; a paired core holds the write of it out for its token. That CONT shows from
the first element is the model's choice (log entry 63). -/
def Obligations.LongInstructions : Prop :=
  ∀ (s : State) (c : Fin 8) (d a b : Fin 32), s.Ready c 1 → (s.core c).held = [] → d ≠ a → d ≠ b → a ≠ b →
    s.readsZero c d = false → s.readsZero c a = false → s.readsZero c b = false → s.FetchOk c (s.reg c a % 2 ^ 32) →
    let src := s.reg c a % 2 ^ 32
    let dst := s.reg c d % 2 ^ 32
    let n := s.reg c b
    let v := s.rd src
    let stepped (t : State) : Prop := t.reg c a = (src + 1) % 2 ^ 32 ∧ t.reg c b = n - 1 ∧ (t.core c).sync = none ∧
      (∀ r : Fin 32, r ≠ d → r ≠ a → r ≠ b → t.reg c r = s.reg c r) ∧
      (t.core c).pc = (if n = 1 then ((s.core c).pc + 1) % 2 ^ 32 else (s.core c).pc) ∧ (t.core c).cont = decide (n ≠ 1)
    (n = 0 → Ends (.movb c d a b) s (fun t => CoreOnly c s t ∧ SameRegs c s t ∧ SameFlags c s t ∧ Done c 1 s t)) ∧
    (n ≠ 0 → s.split = true → s.FetchOk c dst → Ends (.movb c d a b) s (fun t => stepped t ∧ SameFlags c s t ∧
      t.reg c d = (dst + 1) % 2 ^ 32 ∧ t.rd dst = v ∧ SameMemBut s t dst 1)) ∧
    -- R276: a paired core holds the write
    (n ≠ 0 → s.split = false → s.FetchOk c dst → Ends (.movb c d a b) s (fun t => CoreOnly c s t ∧ stepped t ∧ SameFlags c s t ∧
      t.reg c d = (dst + 1) % 2 ^ 32 ∧ (t.core c).held = [[(dst, v)]])) ∧
    (n ≠ 0 → ∀ k : BitVec 6, Ends (.crcb c d a b k) s (fun t => stepped t ∧ SameFlags c s t ∧ CoreOnly c s t ∧
      t.reg c d = if k.toNat % 2 = 1 then crcOctetsR dst v else crc32Step dst v)) ∧
    (n ≠ 0 → ∀ k : BitVec 6,
      let hit := if k.toNat % 2 = 1 then s.reg c d ≤ v else v = s.reg c d
      (hit → Ends (.srch c d a b k) s (fun t => CoreOnly c s t ∧ SameRegs c s t ∧ Done c 1 s t ∧ (t.core c).z = true)) ∧
      (¬hit → Ends (.srch c d a b k) s (fun t => CoreOnly c s t ∧ stepped t ∧ t.reg c d = s.reg c d ∧
        (t.core c).z = (if n = 1 then false else (s.core c).z)))) ∧
    -- R204: the specifiers are three different ones
    ((s.core c).level < 7 → Raises (.movb c d a a) c 3 8 s ∧ Raises (.movb c a a b) c 3 8 s ∧ Raises (.movb c b a b) c 3 8 s ∧
      (∀ k : BitVec 6, Raises (.crcb c d a a k) c 3 8 s ∧ Raises (.srch c d a a k) c 3 8 s))

/-- R209 to R212, R234 to R236, R210, R211, R234, R236: The math unit: what an operation sends on its way, what a read gives, and what
a result leaves when it lands. A value that the spec leaves open is a free one. Results land by the least cycles of the instructions
(log entry 11). Landing: an accumulator, a sum held to 72 bits, a quotient with its remainder, a pair. The quotient of 2^35 as a free
word and the neighbours of an inexact result (log entry 59), and that nothing lands where nothing of the unit is in flight (log entry
13), are the model's choice. -/
def Obligations.MathUnit : Prop :=
  (∀ (s : State) (c : Fin 8) (d a b : Fin 32) (sel : Fin 4), s.Ready c 1 → (∀ f ∈ (s.core c).fly, f.left ≠ 0) →
     let x := s.core c
     let u := s.reg c a
     let v := s.reg c b
     let su := sgn 36 u
     let sv := sgn 36 v
     let ac := x.acc.getD sel.val 0
     let basic (t : State) : Prop := SameRegs c s t ∧ SameFlags c s t ∧ Done c 1 s t ∧ SameMem s t
     -- R220, R234: no tick has brought the core a cycle that is not counted yet, and its word comes without a wait
     let calm : Prop := x.fly = [] ∨ s.cyclesIn c x.seen s.t ≤ x.ahead ∧ (∀ k, bankOf? x.pc = some k → k ∈ x.view) ∧
       ∀ e, x.next = some e → e.2.2 = 0
     -- R234: nothing lands while the instruction runs
     let quiet : Prop := calm ∧ ∀ f ∈ x.fly, 3 < f.left
     -- R210, R212, R235: a result is on its way, `n` cycles of its distance are left; one of the same unit that it abandons is noted
     let goes (mine : CpRes → Bool) (bit : Nat) (r : CpRes) (n : Nat) (t : State) : Prop := basic t ∧
       (t.core c).fly = ((x.fly.filter (fun f => !mine f.res)).map (fun f => ⟨f.res, f.left - 3⟩)) ++ [⟨r, n⟩] ∧
       (t.core c).acc = x.acc ∧ (t.core c).m = x.m ∧
       (t.core c).mst = if x.fly.any (fun f => mine f.res) then x.mst ||| bit else x.mst
     let divs := goes CpRes.isDiv 64
     let cors := goes CpRes.isCor 128
     let mult (i : Instr) (r : CpRes) : Prop := quiet → Ends i s (fun t => goes (fun _ => false) 0 r 1 t ∧ CoreOnly c s t)
     let div (i : Instr) (r : CpRes) (n : Nat) : Prop := quiet → Ends i s (fun t => divs r n t ∧ CoreOnly c s t)
     let gives (i : Instr) (w : Nat) : Prop := calm → Gives i c 1 d w false none none none none s
     let signed (k : Int) : Nat := unsgn 36 (clampInt (-(2 ^ 35)) (2 ^ 35 - 1) k)
     -- whatever is in flight, and whatever the operands, each operation is done and the next instruction follows
     (∀ i ∈ [Instr.mul c a b sel, .mulu c a b sel, .mac c a b sel, .msu c a b sel, .wra c a b sel, .div c a b, .divu c a b, .divf c a b,
       .sqrt c a, .sqrtf c a, .crot c d a b, .cvec c a b], Ends i s basic) ∧
     mult (.mul c a b sel) (.acc sel.val (su * sv) false) ∧ mult (.mulu c a b sel) (.acc sel.val ((u * v : Nat) : Int) false) ∧
     mult (.mac c a b sel) (.acc sel.val (su * sv) true) ∧ mult (.msu c a b sel) (.acc sel.val (-(su * sv)) true) ∧
     -- R235: WRA lands before the next instruction is issued
     (quiet → Ends (.wra c a b sel) s (fun t => basic t ∧ CoreOnly c s t ∧ (t.core c).m = x.m ∧ (t.core c).mst = x.mst ∧
       (t.core c).acc = x.acc.set sel (unsgn 72 (su * 2 ^ 36 + v)) ∧ (t.core c).fly = x.fly.map (fun f => ⟨f.res, f.left - 3⟩))) ∧
     gives (.rdh c d sel) (ac / 2 ^ 36 % 2 ^ 36) ∧ gives (.rdl c d sel) (ac % 2 ^ 36) ∧ gives (.rdm c d sel) (x.m.getD sel.val 0 % 2 ^ 36) ∧
     -- R211: RDF rounds half away from zero and saturates
     (let r := roundAway (sgn 72 ac) (2 ^ 35)
      (-(2 ^ 35) ≤ r → r < 2 ^ 35 → gives (.rdf c d sel) (unsgn 36 r)) ∧
      (quiet → r < -(2 ^ 35) ∨ 2 ^ 35 ≤ r → Ends (.rdf c d sel) s (fun t => RegsAre c d (if r < 0 then 2 ^ 35 else 2 ^ 35 - 1) s t ∧
        Done c 1 s t ∧ (t.core c).mst = x.mst ||| 2 ^ sel.val))) ∧
     (calm → d.val % 2 = 0 → Ends (.rdd c d sel) s (fun t => CoreOnly c s t ∧ Done c 1 s t ∧ SameFlags c s t ∧ ∀ r : Fin 32,
       t.reg c r = if r = d ∧ s.readsZero c r = false then ac / 2 ^ 36 % 2 ^ 36
         else if r.val = d.val + 1 ∧ s.readsZero c r = false then ac % 2 ^ 36 else s.reg c r)) ∧
     (x.level < 7 → d.val % 2 = 1 → Raises (.rdd c d sel) c 3 4 s) ∧
     (calm → Ends (.rds c d) s (fun t => RegsAre c d (x.mst % 2 ^ 36) s t ∧ Done c 1 s t ∧ SameFlags c s t ∧ (quiet → (t.core c).mst = 0))) ∧
     -- R211, R212: division and roots; a quotient of 2^35 has no form, and M0 is then any word
     (sv ≠ 0 → Int.tdiv su sv ≠ 2 ^ 35 →
       div (.div c a b) (.div (unsgn 36 (Int.tdiv su sv)) (some (unsgn 36 (Int.tmod su sv))) 0) 35) ∧
     (quiet → sv ≠ 0 → Int.tdiv su sv = 2 ^ 35 → Ends (.div c a b) s (fun t => ∃ q : Nat, q < 2 ^ 36 ∧
       divs (.div q (some (unsgn 36 (su - sgn 36 q * sv))) 0) 35 t)) ∧
     (sv = 0 → div (.div c a b) (.div (if su = 0 then 0 else unsgn 36 (if su < 0 then 1 - 2 ^ 35 else 2 ^ 35 - 1)) (some (u % 2 ^ 36)) 16) 35) ∧
     (v ≠ 0 → div (.divu c a b) (.div (u / v) (some (u % v)) 0) 35) ∧
     (v = 0 → div (.divu c a b) (.div (if u = 0 then 0 else 2 ^ 35 - 1) (some u) 16) 35) ∧
     (quiet → sv ≠ 0 → Ends (.divf c a b) s (fun t => ∃ m : Int, divs (.div (signed m) none 0) 35 t ∧
       su * 2 ^ 35 * sv.sign - sv.natAbs < m * sv.natAbs ∧ m * sv.natAbs < su * 2 ^ 35 * sv.sign + sv.natAbs)) ∧
     (sv = 0 → div (.divf c a b) (.div (if su = 0 then 0 else unsgn 36 (if su < 0 then 1 - 2 ^ 35 else 2 ^ 35 - 1)) none 16) 35) ∧
     (∀ r : Fin 262144, r.val * r.val ≤ u → u < (r.val + 1) * (r.val + 1) → div (.sqrt c a) (.root r.val 0) 37) ∧
     (su < 0 → div (.sqrtf c a) (.root 0 32) 37) ∧
     (quiet → 0 ≤ su → Ends (.sqrtf c a) s (fun t => ∃ m : Nat, divs (.root (signed m) 0) 37 t ∧
       ((m - 1) * (m - 1) < su.toNat * 2 ^ 35 ∨ su = 0) ∧ su.toNat * 2 ^ 35 < (m + 1) * (m + 1))) ∧
     -- R211, CORDIC: two words, the length one of F36 that is not negative
     (quiet → Ends (.crot c d a b) s (fun t => ∃ m n : Nat, cors (.cor m n) 21 t ∧ m < 2 ^ 36 ∧ n < 2 ^ 36)) ∧
     (quiet → Ends (.cvec c a b) s (fun t => ∃ m n : Nat, cors (.cor m n) 21 t ∧ m < 2 ^ 35 ∧ n < 2 ^ 36)) ∧
     -- R210, R234: results land in the order of their time; of two in one cycle, the later-issued one stands
     (∀ (w r : Int) (k : Fin 4), calm → k ≠ 0 → x.fly = [⟨.acc sel.val w false, k.val⟩, ⟨.wra sel.val r, 2⟩] → Ends (.nop c) s (fun t =>
       (t.core c).acc = x.acc.set sel (unsgn 72 (if k.val ≤ 2 then r else w)) ∧ (t.core c).fly = [])) ∧
     (x.level < 7 → ∀ n : Fin 4, Raises (.cpAbsent c n) c 4 (4 + n) s)) ∧
  (∀ (s : State) (c : Fin 8) (i : Fin 4) (k : Fin 41),
     let x := s.core c
     let lands (unit : Fin 3) (p : State → Prop) : Prop := Ends (.cpResultLand c unit) s (fun t => p t ∧ (t.core c).fly = [] ∧
       (t.core c).pc = x.pc ∧ (t.core c).regs = x.regs ∧ SameFlags c s t ∧ SameMem s t)
     let only (r : CpRes) : Prop := x.fly = [⟨r, k.val⟩]
     let lim : Int := 2 ^ 71 - 1
     x.acc.length = 4 → x.m.length = 4 →
     (∀ unit : Fin 3, (∀ f ∈ x.fly, f.res.unit ≠ unit.val) → exec (.cpResultLand c unit) s = .next s) ∧
     (∀ v : Int, only (.acc i.val v false) → lands 0 (fun t => (t.core c).acc = x.acc.set i (unsgn 72 v) ∧ (t.core c).mst = x.mst)) ∧
     (∀ v : Int, only (.acc i.val v true) →
       let sum := sgn 72 (x.acc.getD i.val 0) + v
       lands 0 (fun t => (t.core c).acc = x.acc.set i (unsgn 72 (clampInt (-lim) lim sum)) ∧
         (t.core c).mst = if -lim ≤ sum ∧ sum ≤ lim then x.mst else x.mst ||| 2 ^ i.val)) ∧
     (∀ v : Int, only (.wra i.val v) → lands 0 (fun t => (t.core c).acc = x.acc.set i (unsgn 72 v))) ∧
     (∀ q r f : Nat, only (.div q (some r) f) → lands 1 (fun t => (t.core c).m = (x.m.set 0 q).set 1 r ∧
       (t.core c).mst = x.mst ||| f)) ∧
     (∀ q f : Nat, only (.div q none f) ∨ only (.root q f) → lands 1 (fun t => (t.core c).m = x.m.set 0 q ∧
       (t.core c).mst = x.mst ||| f)) ∧
     (∀ q r : Nat, only (.cor q r) → lands 2 (fun t => (t.core c).m = (x.m.set 0 q).set 1 r)))

/-- R12, R130, R213 to R215, R399: The coprocessors of engines, security and reels as a core meets them. The ticket that a paired
core's SUBMIT holds until its token (log entry 166), POLL of a ticket that nobody holds (log entry 77) and the formats and addresses
of the records (log entry 65) are the model's choice. -/
def Obligations.Coprocessors : Prop :=
  ∀ (s : State) (c : Fin 8) (d a b : Fin 32), s.Ready c 1 → (s.core c).held = [] →
    let x := s.core c
    let me := 1 + c.val
    let value (i : Instr) (w : Nat) : Prop := Gives i c 1 d w false none none none none s
    let same (t : State) : Prop := SameRegs c s t ∧ SameFlags c s t ∧ Done c 1 s t
    -- R213: engines
    (∀ sel : Fin 32, sel.val < 24 → s.get (ISL.STAT.STATE (4 + sel / 3)) = 0 →
      value (.eres c d sel) (s.wordOf (LE.RESULT.adr sel) (fields! (LE.RESULT.adr sel))) ∧
      value (.est c d sel) (s.wordOf (LE.STATUS.adr sel) (fields! (LE.STATUS.adr sel))) ∧
      (s.get (LE.CTRL.OWNER sel) = me →
        (∀ k : Fin 16, (s.split = true → Ends (.eprm c a sel k) s (fun t => same t ∧ t.get (LE.PARAM.PARAM sel k) = s.reg c a ∧
            SameMem s t)) ∧
          (s.split = false → Ends (.eprm c a sel k) s (fun t => same t ∧ CoreOnly c s t ∧
            (t.core c).held = [[(LE.PARAM.adr sel k, s.reg c a)]]))) ∧
        -- a SPARE command by ECMD; a paired core holds the write (R276)
        (s.reg c a % 16 = 6 → s.get (LE.STATUS.STATE sel) = 0 → (s.eng sel).cmd = none →
          (s.split = true → Ends (.ecmd c a sel) s (fun t => same t ∧ t.get (LE.STATUS.STATE sel) = 3 ∧
            t.get (LE.RESULT.CODE sel) = 6 ∧ t.get (CUE.CPREC0.REC c) = sel.val * 2 ^ 8 + 6)) ∧
          (s.split = false → Ends (.ecmd c a sel) s (fun t => same t ∧ (t.core c).held = [[(LE.CMD.adr sel, 6)]] ∧
            t.get (LE.STATUS.STATE sel) = 0 ∧ t.get (CUE.CPREC0.REC c) = sel.val * 2 ^ 8 + 6))))) ∧
    (x.level < 7 → ∀ (sel : Fin 32) (k : Fin 16), 24 ≤ sel.val → Raises (.ecmd c a sel) c 3 9 s ∧ Raises (.eres c d sel) c 3 9 s ∧
      Raises (.est c d sel) c 3 9 s ∧ Raises (.eprm c a sel k) c 3 9 s) ∧
    -- R214, R399: SUBMIT takes a ticket, POLL of a ticket that nobody holds
    (s.get (ISL.STAT.STATE 29) = 0 → s.sec.queue.length + s.waitingSubmits < 8 → Ends (.submit c d a) s (fun t =>
      RegsAre c d (s.sec.next % 2 ^ 36) s t ∧ SameFlags c s t ∧ Done c 1 s t ∧ t.sec.next = (s.sec.next + 1) % 256 ∧
      (s.split = true → (t.sec.queue.map (fun q => q.1)) = (s.sec.queue.map (fun q => q.1)) ++ [s.sec.next]) ∧
      -- R276: the request of a paired core waits for its token
      (s.split = false → t.sec.queue = s.sec.queue ∧ (t.core c).held = [[(2 ^ 32 + s.sec.next, s.reg c a % 2 ^ 32)]]))) ∧
    (s.get (ISL.STAT.STATE 29) = 0 → 8 ≤ s.sec.queue.length + s.waitingSubmits → Ends (.submit c d a) s (fun t =>
      (∃ low < 256, RegsAre c d (8 * 2 ^ 32 + low) s t) ∧ SameFlags c s t ∧ Done c 1 s t ∧ t.sec = s.sec)) ∧
    -- POLL of a ticket that nobody holds, of one whose request is complete, and of one whose request is not
    (s.get (ISL.STAT.STATE 29) = 0 →
      let k := s.reg c a % 256
      (s.sec.queue = [] → s.sec.results = [] → value (.poll c d a) (4 * 2 ^ 32 + k)) ∧
      (∀ q : Nat × Nat × Nat, s.sec.results.find? (fun x => x.1 == k) = some q → q.2.1 < 16 → q.2.2 < 2 ^ 24 → Ends (.poll c d a) s (fun t =>
        (∃ low, (low = k ∨ low = q.2.2 % 256) ∧ RegsAre c d (q.2.1 * 2 ^ 32 + 2 ^ 31 + q.2.2 / 256 * 256 + low) s t) ∧ SameFlags c s t ∧
        Done c 1 s t ∧ t.sec = s.sec)) ∧
      (s.sec.results.find? (fun x => x.1 == k) = none → s.sec.queue.any (fun x => x.1 == k) = true → Ends (.poll c d a) s (fun t =>
        (∃ st < 16, RegsAre c d (st * 2 ^ 32 + k) s t) ∧ SameFlags c s t ∧ Done c 1 s t ∧ t.sec = s.sec))) ∧
    -- R215: reels
    (s.get (ISL.STAT.STATE 25) = 0 →
      let r := s.reg c a % 64
      let n := 256 * 2 ^ s.get (RL.CTRL.SIZE r)
      let adr := 0x01200000 + 256 * s.get (RL.CTRL.BASE r) + s.reg c b % n
      s.get (RL.CTRL.SIZE r) < 6 → adr < 0x01210000 → s.markAt adr = none →
      value (.rrdi c d a b) (s.rd adr) ∧
      (s.get (RL.CTRL.OWNER r) = me → (∀ q : Fin 64, s.get (RL.CTRL.EN q) = 0) →
        (s.split = true → Ends (.rwri c d a b) s (fun t => same t ∧ t.rd adr = s.reg c d ∧ SameMemBut s t adr 1)) ∧
        (s.split = false → Ends (.rwri c d a b) s (fun t => same t ∧ CoreOnly c s t ∧ (t.core c).held = [[(adr, s.reg c d)]])))) ∧
    (s.get (ISL.STAT.STATE 25) = 0 → value (.rxr c d) (s.wordOf REELS.XRES.adr (fields! REELS.XRES.adr))) ∧
    -- a ZERO by RXF
    (s.get (ISL.STAT.STATE 25) = 0 →
      let r := s.reg c a % 64
      s.get (RL.CTRL.OWNER r) = me → s.get (RL.CTRL.EN r) = 0 → s.xfer = none → s.reelPlaced r = true → s.reg c b % 8 = 5 →
      (s.split = true → Ends (.rxf c d a b) s (fun t => same t ∧ t.get REELS.XADR.ADDR = s.reg c d % 2 ^ 32 ∧
        t.xfer = some ⟨r, 5, 0, [], 0, [], false⟩ ∧ t.get (CUE.CPREC1.REC c) = r * 2 ^ 8 + 5)) ∧
      (s.split = false → Ends (.rxf c d a b) s (fun t => same t ∧ t.xfer = none ∧ t.get (CUE.CPREC1.REC c) = r * 2 ^ 8 + 5 ∧
        (t.core c).held = [[(REELS.XADR.adr, s.reg c d % 2 ^ 32), (REELS.XCTL.adr, r * 2 ^ 6 + 5)]])))

/-- R238 to R246, R250, R251, R260, R270: Events reach a Cue, a level is entered, an entry is taken over, a hold ends, and a shadow
bank is written. The return from a TRAP at a loop's last word (log entry 61), that a Cue without timecode keeps its events (log entry
134), and that events are kept until they are seen (log entry 31), are the model's choice. -/
def Obligations.LevelsAndEvents : Prop :=
  ∀ (s : State) (c : Fin 8),
    let x := s.core c
    -- R260: the oldest event, by the route of its number
    (∀ e : Ev, s.events = [e] → e.seen = [] → e.num < 512 → s.coreExists c = true → s.coreState c = 1 → s.get (ISL.STAT.STATE (c % 4)) = 0 →
      let sel := s.get (CUE.ROUTE.SEL c e.num)
      let bit := 2 ^ s.get (CUE.ROUTE.WBIT c e.num)
      (s.get (CUE.ROUTE.ACT c e.num) = 1 → Ends (.eventRoute (Fin.ofNat 9 c.val)) s (fun t => t.get (CUE.PEND.PEND c sel) =
          s.get (CUE.PEND.PEND c sel) ||| bit ∧
        (s.get (CUE.TSTAT.STATE c sel) = 3 → s.get (CUE.WMASK.WMASK c sel) &&& bit ≠ 0 → t.get (CUE.TSTAT.STATE c sel) = 1) ∧
        t.core c = x ∧ SameMem s t)) ∧
      (s.get (CUE.ROUTE.ACT c e.num) = 2 → sel ≠ 0 → e.stamp ≠ none ∨ s.unsynced (c % 4) = false →
        (x.evs.any (fun q => q.1 == e.num) = false → Ends (.eventRoute (Fin.ofNat 9 c.val)) s (fun t =>
          (t.core c).evs = x.evs ++ [(e.num, sel, e.stamp.getD s.stamp)] ∧ SameMem s t)) ∧
        (x.evs.any (fun q => q.1 == e.num) = true → Ends (.eventRoute (Fin.ofNat 9 c.val)) s (fun t => t.core c = x ∧
          t.get (CUE.LOSTEV.MERGED c) = min (s.get (CUE.LOSTEV.MERGED c) + 1) (2 ^ (CUE.LOSTEV.MERGED c).w - 1)))) ∧
      -- R20: the Cue stamps nothing before the first sync word
      (s.get (CUE.ROUTE.ACT c e.num) = 2 → sel ≠ 0 → e.stamp = none → s.unsynced (c % 4) = true →
        exec (.eventRoute (Fin.ofNat 9 c.val)) s = .next s) ∧
      -- a route that does not act
      (s.get (CUE.ROUTE.ACT c e.num) = 0 ∨ s.get (CUE.ROUTE.ACT c e.num) = 3 ∨ (s.get (CUE.ROUTE.ACT c e.num) = 2 ∧ sel = 0) →
        Ends (.eventRoute (Fin.ofNat 9 c.val)) s (fun t => t.cores = s.cores ∧ t.fields = s.fields ∧ SameMem s t))) ∧
    (s.coreActive c = true → x.edge = false → (∀ h ∈ s.held, h.agent ≠ ownCore c) →
      -- R243: a synchronous cause: the record, the return address and the status of the code that it interrupts
      (∀ q : Cause × Nat × Bool, x.sync = some q → x.inner = [] → x.evs = [] → x.level < q.1.level → q.1.level < 8 → q.1.code < 16 →
        q.1.src < 512 → q.1.info < 256 → q.1.xarg < 2 ^ 36 → q.2.1 < 2 ^ 32 → q.2.2 = false ∨ s.loopAt c x.pc = none →
        let k := q.1.level
        -- R246: in save-register mode H0 to H3 of the handler are saved
        let save := decide (s.gov c (CUE.MODE.SAVEM c) ≠ 0)
        Ends (.levelEntry c false) s (fun t => (t.core c).level = k ∧ (t.core c).pc = s.gov c (CUE.EPA.EPA c) ∧
          (if save then t.get (CUE.SAVEPC.PC c k) else t.get (CUE.XPC.XPC c k)) = q.2.1 ∧
          (if save then t.get (CUE.SAVEST.ST c k) else t.get (CUE.XST.XST c k)) = s.status c % 2 ^ 36 ∧ t.get (CUE.ENT.V c k) = 1 ∧
          (save = true → ∀ i : Fin 4, t.get (CUE.SAVEH.H c k i) = t.reg c (8 + i) % 2 ^ 36) ∧
          t.get (CUE.ENT.MODE c k) = (if save then 1 else 0) ∧ t.get (CUE.ENT.ENTLVL c k) = x.level ∧ t.get (CUE.CAUSE.CODE c k) = q.1.code ∧
          t.get (CUE.CAUSE.INFO c k) = q.1.info ∧ t.get (CUE.XARG.XARG c k) = q.1.xarg ∧ (t.core c).hold = false ∧
          (t.core c).cont = false ∧ (t.core c).sync = none ∧ t.get (CUE.ACTIVE.LEVEL c) = k ∧ SameMem s t)) ∧
      -- R238: an event at a level above the present one
      -- with the first instruction of a handler run (R245), and no instruction that waits for an island in Grey (R12)
      (∀ e : Nat × Nat × Nat, x.evs = [e] → x.sync = none → x.inner = [] → x.hold = false → x.fresh = false → x.resume = false →
        x.level < e.2.1 → e.2.1 < 8 → e.1 < 512 →
        s.gov c (CUE.MODE.SAVEM c) = 0 → Ends (.levelEntry c false) s (fun t => (t.core c).level = e.2.1 ∧
          (t.core c).pc = s.gov c (CUE.EPA.EPA c) ∧ t.get (CUE.XPC.XPC c e.2.1) = x.pc % 2 ^ 32 ∧
          t.get (CUE.CAUSE.CODE c e.2.1) = 1 ∧ t.get (CUE.CAUSE.SRC c e.2.1) = e.1 ∧
          t.get (CUE.XARG.XARG c e.2.1) = e.2.2 % 2 ^ 36 ∧ (t.core c).evs = [])) ∧
      -- R245: an event of a higher level takes over the entry of an event, before which it was not pending
      (∀ (n : EntrySt) (e : Nat × Nat × Nat), x.entry = some n → n.undo = none → x.evs = [e] → x.inner = [] → n.cause.code = 1 → n.cause.level < e.2.1 →
        (1, e.1) ∉ n.had → x.resume = false →
        e.2.1 < 8 → n.trap = false → s.gov c (CUE.MODE.LATE c) = 1 → Ends (.levelEntry c true) s (fun t =>
          (t.core c).level = e.2.1 ∧ t.get (CUE.XPC.XPC c e.2.1) = n.xpc % 2 ^ 32 ∧
          t.get (CUE.XST.XST c e.2.1) = n.xst % 2 ^ 36 ∧ t.get (CUE.ENT.V c n.cause.level) = 0 ∧ t.get (CUE.ENT.V c e.2.1) = 1 ∧
          (t.core c).evs = [(n.cause.src, n.cause.level, n.cause.xarg)])) ∧
      -- R202: a TRAP that is the word at last of a loop has completed; its return address is where the loop goes on
      (∀ (q : Cause × Nat × Bool) (l : LoopSt), x.sync = some q → x.inner = [] → x.evs = [] → q.2.2 = true →
        s.loopAt c x.pc = some l → q.1.level < 8 → s.gov c (CUE.MODE.SAVEM c) = 0 → l.count < 32 →
        s.readsZero c (Fin.ofNat 32 l.count) = false → 2 ≤ s.reg c l.count → l.first < 2 ^ 32 →
        Ends (.levelEntry c false) s (fun t => (t.core c).level = q.1.level ∧ t.get (CUE.XPC.XPC c q.1.level) = l.first))) ∧
    (s.coreActive c = true →
      -- R251: the end of a hold, with and without an overrun
      (x.hold = true → x.excess = false → s.coreHalted c = false → 0 < x.hrem → x.fly = [] → x.seen = s.t →
        Writes (.holdExpire c) s [] (fun u => u.putCore c { x with hold := false, hrem := 0, ahead := x.ahead + x.hrem })) ∧
      (x.hold = true → x.excess = true → s.coreHalted c = false → 0 < x.hrem → x.fly = [] → x.seen = s.t → x.inner = [] → Ends (.holdExpire c) s (fun t => (t.core c).hold = false ∧
        (t.core c).inner = [⟨7, 0x0B, x.level, 0, x.pc⟩] ∧ t.reports = s.reports ++ [⟨.holdOverrun, elCore c, 0, false⟩]))) ∧
    -- R270: shadow banks, while SAVEM governs
    (∀ (a : Owner) (k : Fin 8) (j : Fin 16) (v : Word), (∀ q : Fin 8, a.toNat = ownCore q → (s.core q).held = []) →
      s.get (ISL.STAT.STATE (c % 4)) = 0 → s.coreExists c = true → k ≠ 0 →
      (a.toNat = ownCore c → s.gov c (CUE.MODE.SAVEM c) = 1 →
        Writes (.shadowWrite a c k j v) s [(CUE.SB.W c k j, v.toNat)] (fun u => u.setBus ⟨a.toNat, .ok, 0, 0⟩)) ∧
      -- the bank is the core's own while SAVEM does not govern
      (a.toNat = ownCore c ∨ a.toNat = ownDebug → s.gov c (CUE.MODE.SAVEM c) = 0 →
        Writes (.shadowWrite a c k j v) s [] (fun u => u.setBus ⟨a.toNat, .busOwn, 0, 0⟩)) ∧
      (a.toNat ≠ ownCore c → a.toNat ≠ ownDebug →
        Writes (.shadowWrite a c k j v) s [] (fun u => u.setBus ⟨a.toNat, .busOwn, 0, 0⟩)))

/-- R257 to R269: Tasks: wakes, START, STOP, RESUME, RELEASE, the switch, with valid and invalid context save areas, the park
registers, and locked words. That a task that stops leaves nothing in an idle sequencer and that one that comes back goes on as it
stands (log entry 133) is the model's choice. -/
def Obligations.Tasks : Prop :=
  ∀ (s : State) (a : Owner) (c t : Fin 8), s.Settled a → s.get (ISL.STAT.STATE (c % 4)) = 0 → s.coreExists c = true →
    -- R276: the agent waits for no token
    (∀ q : Fin 8, a.toNat = ownCore q → (s.core q).held = []) →
    let x := s.core c
    let st (q : Nat) : Nat := s.get (CUE.TSTAT.STATE c q)
    let ok (u : State) : State := u.setBus ⟨a.toNat, .ok, 0, 0⟩
    let res (code status state : Nat) : List (FRef × Nat) := [(CUE.TRES.STATUS c, status), (CUE.TRES.STATE c, state),
      (CUE.TRES.TASK c, t.val), (CUE.TRES.CODE c, code)]
    let off (u : State) : State := if x.task = t.val then u.putCore c { u.core c with
      away := true
      stop := false } else u
    -- R261: any agent posts wakes
    (∀ mask : BitVec 32, Ends (.cuePost a c t mask) s (fun u => u.get (CUE.PEND.PEND c t) = s.get (CUE.PEND.PEND c t) ||| mask.toNat ∧
      u.get (CUE.TSTAT.STATE c t) = (if st t = 3 ∧ (s.get (CUE.PEND.PEND c t) ||| mask.toNat) &&& s.get (CUE.WMASK.WMASK c t) ≠ 0
        then 1 else st t) ∧ u.bus = ⟨a.toNat, .ok, 0, 0⟩ ∧ SameMem s u)) ∧
    (a.toNat = ownCore c →
      -- R268
      (st t = 0 → s.gov c (CUE.TCFG.LEN c t) ≠ 1 → s.arcTaken c (s.gov c (CUE.TCFG.BASE c t)) (s.gov c (CUE.TCFG.LEN c t)) = false →
        Writes (.taskStart a c t) s ([(CUE.TSTAT.WDEP c t, 0), (CUE.TSTAT.RSDEP c t, 0), (CUE.TSTAT.SAVED c t, 0),
          (CUE.TSTAT.FCAUSE c t, 0), (CUE.PEND.PEND c t, 0), (CUE.TSTAT.STATE c t, 1)] ++ res 1 0 1)
          (fun u => ok (u.putTask c t (TaskSt.atReset t)))) ∧
      (st t = 0 → s.gov c (CUE.TCFG.LEN c t) = 1 → Writes (.taskStart a c t) s (res 1 4 0) ok) ∧
      (st t = 0 → s.gov c (CUE.TCFG.LEN c t) ≠ 1 → s.arcTaken c (s.gov c (CUE.TCFG.BASE c t)) (s.gov c (CUE.TCFG.LEN c t)) = true →
        Writes (.taskStart a c t) s (res 1 5 0) ok) ∧
      (st t ≠ 0 → Writes (.taskStart a c t) s (res 1 1 (st t)) ok) ∧
      -- a task that stops leaves nothing in the sequencer
      (st t = 0 → Writes (.taskStop a c t) s (res 2 1 0) ok) ∧
      (st t ≠ 0 → st t ≠ 2 → Writes (.taskStop a c t) s ([(CUE.TSTAT.STATE c t, 0), (CUE.TSTAT.DIRTY c t, 0), (CUE.TSTAT.SAVED c t, 0)] ++
        res 2 0 0) (fun u => ok (off (u.putTask c t (TaskSt.atReset t))))) ∧
      (st t = 2 → Writes (.taskStop a c t) s [] (fun u => ok (u.putCore c { x with stop := true }))) ∧
      (st t = 4 → s.csaValid c t = true → s.get (CUE.PARKCTL.FULL c) = 0 →
        Writes (.taskResume a c t) s ([(CUE.TSTAT.STATE c t, 1), (CUE.TSTAT.FCAUSE c t, 0)] ++ res 3 0 1) ok) ∧
      (st t ≠ 4 → Writes (.taskResume a c t) s (res 3 1 (st t)) ok) ∧
      (st t = 4 → s.csaValid c t = false → Writes (.taskResume a c t) s (res 3 4 4) ok) ∧
      (st t ≠ 3 → Writes (.taskRelease a c t) s (res 4 1 (st t)) ok) ∧
      (st t = 3 → Writes (.taskRelease a c t) s ([(CUE.TSTAT.STATE c t, 1)] ++ res 4 0 1) (fun u => ok (u.putTask c t
        { u.taskOf c t with wait := (u.taskOf c t).wait.map (fun w => (w.1, true)) }))) ∧
      -- R267
      (s.get (CUE.PARKCTL.FULL c) = 1 → s.get (CUE.PARKCTL.TASK c) = t.val → s.csaValid c t = true →
        s.get (CUE.PARKCTL.GROUPS c) = 4 → ∀ b : Nat, bankOf? (s.gov c (CUE.CSA.ADDR c t)) = some b → b < 64 →
        s.get (BANKS.STATUS.RED b) = 0 → Ends (.flush a c) s (fun u => u.get (CUE.PARKCTL.FULL c) = 0 ∧
          u.get (CUE.TSTAT.SAVED c t) = s.get (CUE.TSTAT.SAVED c t) ||| 4 ∧
          u.rd (s.gov c (CUE.CSA.ADDR c t) + 13) = s.get (CUE.PARK.W c 13) ∧
          u.rd (s.gov c (CUE.CSA.ADDR c t) + 14) = s.get (CUE.PARK.W c 14) ∧
          SameMemBut s u (s.gov c (CUE.CSA.ADDR c t) + 13) 2)) ∧
      Ends (.discard a c) s (fun u => u.get (CUE.PARKCTL.FULL c) = 0 ∧ u.get (CUE.PARKCTL.GROUPS c) = 0 ∧
        (∀ i : Fin 17, u.get (CUE.PARK.W c i) = 0) ∧ u.bus = ⟨a.toNat, .ok, 0, 0⟩ ∧ SameMem s u) ∧
      -- R269: TCFG of a task that is OFF, and of one that is not: PRIO alone is not locked
      (∀ v : Word, Ends (.cueLockedWrite a c t false v) s (fun u => u.get (CUE.TCFG.PRIO c t) = v.toNat / 2 ^ 12 % 2 ^ 4 ∧
        u.gov c (CUE.TCFG.PRIO c t) = s.gov c (CUE.TCFG.PRIO c t) ∧ u.bus = ⟨a.toNat, .ok, 0, 0⟩ ∧ SameMem s u ∧
        (st t = 0 → u.get (CUE.TCFG.RSWRAP c t) = v.toNat / 2 ^ 11 % 2 ∧ u.get (CUE.TCFG.LEN c t) = v.toNat / 2 ^ 5 % 2 ^ 5 ∧
          u.get (CUE.TCFG.BASE c t) = v.toNat % 2 ^ 5) ∧
        (st t ≠ 0 → u.get (CUE.TCFG.RSWRAP c t) = s.get (CUE.TCFG.RSWRAP c t) ∧ u.get (CUE.TCFG.LEN c t) = s.get (CUE.TCFG.LEN c t) ∧
          u.get (CUE.TCFG.BASE c t) = s.get (CUE.TCFG.BASE c t) ∧ ∀ p ∈ res 0xE 1 (st t), u.get p.1 = p.2))) ∧
      -- R269: TPC of a task that does not run, and of one that does
      (∀ v : Word, st t = 0 ∨ st t = 4 → Writes (.cueLockedWrite a c t true v) s [(CUE.TPC.PC c t, v.toNat % 2 ^ 32)] ok) ∧
      (∀ v : Word, st t ≠ 0 → st t ≠ 4 → Writes (.cueLockedWrite a c t true v) s (res 0xE 1 (st t)) ok)) ∧
    (a.toNat ≠ ownCore c → a.toNat ≠ ownDebug → Writes (.taskStart a c t) s [] (fun u => u.setBus ⟨a.toNat, .busOwn, 0, 0⟩)) ∧
    -- R268: the running task stops at its boundary
    (x.task = t.val → x.stop = true → x.level = 0 → x.edge = false → x.mid = false → x.resume = false → x.sync = none →
      (∀ h ∈ s.held, h.agent ≠ ownCore c) → Writes (.taskStopDone c) s
      ([(CUE.TSTAT.STATE c t, 0), (CUE.TSTAT.DIRTY c t, 0), (CUE.TSTAT.SAVED c t, 0)] ++ res 2 0 0)
      (fun u => off ((u.putCore c { x with stop := false }).putTask c t (TaskSt.atReset t)))) ∧
    -- R258, R263: a switch, after which the incoming task's word is fetched
    (s.coreActive c = true → s.coreHalted c = false → x.resume = false → s.switchDue c = true → s.nextTask c = some t.val →
      (∀ h ∈ s.held, h.agent ≠ ownCore c) → (s.taskOf c t).wait = none → x.held = [] →
      -- between tasks that hold no groups
      (t.val ≠ x.task → x.fly = [] → s.FetchOk c (s.get (CUE.TPC.PC c t)) → s.get (CUE.TSTAT.DIRTY c x.task) = 0 → s.get (CUE.TSTAT.SAVED c t) = 0 →
        Ends (.taskSwitch c) s (fun u => (u.core c).task = t.val ∧ (u.core c).pc = s.get (CUE.TPC.PC c t) ∧
          u.get (CUE.TSTAT.STATE c t) = 2 ∧ (x.away = false → u.get (CUE.TPC.PC c x.task) = x.pc % 2 ^ 32) ∧
          u.get (CUE.TSTAT.STATE c x.task) = (if st x.task = 2 then 1 else st x.task) ∧ (u.core c).m = [0, 0, 0, 0] ∧
          (u.core c).acc = [0, 0, 0, 0] ∧ (u.core c).buf = [] ∧ (u.core c).away = false ∧
          FlagsAre c (s.taskOf c t).z (s.taskOf c t).n (s.taskOf c t).c (s.taskOf c t).v u ∧ SameMem s u)) ∧
      -- R262 to R264: the outgoing task leaves MATH in its CSA, the incoming one finds it in its own, and its other groups are zero
      (t.val ≠ x.task → x.away = false → x.fly = [] → s.FetchOk c (s.get (CUE.TPC.PC c t)) → s.marks = [] → x.m.length = 4 →
        s.get (CUE.TSTAT.DIRTY c x.task) = 2 → s.get (CUE.TSTAT.SAVED c t) = 2 →
        let from_ := s.gov c (CUE.CSA.ADDR c x.task)
        let to_ := s.gov c (CUE.CSA.ADDR c t)
        let good (k : Nat) : Prop := s.csaValid c k = true ∧
          ∀ b, bankOf? (s.gov c (CUE.CSA.ADDR c k)) = some b → s.get (BANKS.STATUS.RED b) = 0
        good x.task → good t → from_ ≠ to_ →
        Ends (.taskSwitch c) s (fun u => (u.core c).task = t.val ∧
          (∀ i : Fin 4, u.rd (from_ + 8 + i) = x.m.getD i 0 % 2 ^ 36) ∧ u.rd (from_ + 12) = x.mst % 2 ^ 36 ∧
          SameMemBut s u (from_ + 8) 5 ∧ u.get (CUE.TSTAT.DIRTY c x.task) = 0 ∧
          u.get (CUE.TSTAT.SAVED c x.task) = s.get (CUE.TSTAT.SAVED c x.task) ||| 2 ∧
          (u.core c).m = (List.range 4).map (fun i => s.rd (to_ + 8 + i)) ∧ (u.core c).mst = s.rd (to_ + 12) ∧
          (u.core c).acc = [0, 0, 0, 0] ∧ (u.core c).tag = (0, 0))) ∧
      -- R265: the CSA of the outgoing task is invalid: its group goes to the park registers, or is lost where they are full
      (t.val ≠ x.task → x.away = false → x.fly = [] → s.FetchOk c (s.get (CUE.TPC.PC c t)) → s.csaValid c x.task = false →
        s.get (CUE.TSTAT.DIRTY c x.task) = 2 → s.get (CUE.TSTAT.SAVED c t) = 0 → x.m.length = 4 → x.inner = [] →
        (s.get (CUE.PARKCTL.FULL c) = 0 → Ends (.taskSwitch c) s (fun u => (u.core c).task = t.val ∧ u.get (CUE.TSTAT.STATE c t) = 2 ∧
          u.get (CUE.TSTAT.STATE c x.task) = 4 ∧ u.get (CUE.TSTAT.FCAUSE c x.task) = 1 ∧ u.get (CUE.TSTAT.DIRTY c x.task) = 0 ∧
          u.get (CUE.PARKCTL.FULL c) = 1 ∧ u.get (CUE.PARKCTL.TASK c) = x.task ∧ u.get (CUE.PARKCTL.GROUPS c) = 2 ∧
          (∀ i : Fin 4, u.get (CUE.PARK.W c (8 + i)) = x.m.getD i 0 % 2 ^ 36) ∧ u.get (CUE.PARK.W c 12) = x.mst % 2 ^ 36 ∧
          ((u.core c).inner.map (fun q => (q.code, q.info))) = [(0x0A, 0)] ∧ SameMem s u ∧
          ∃ q ∈ u.reports, q.code = .contextSave)) ∧
        (s.get (CUE.PARKCTL.FULL c) = 1 → Ends (.taskSwitch c) s (fun u => u.get (CUE.TSTAT.STATE c x.task) = 4 ∧
          u.get (CUE.TSTAT.FCAUSE c x.task) = 1 ∧ u.get (CUE.TSTAT.DIRTY c x.task) = 0 ∧ u.get (CUE.PARKCTL.TASK c) = s.get (CUE.PARKCTL.TASK c) ∧
          (u.core c).inner = [] ∧ SameMem s u ∧ ∃ q ∈ u.reports, q.code = .corePark))) ∧
      -- R266: the CSA of the incoming task is invalid: it is faulted, and with no other task READY the core idles
      (t.val ≠ x.task → x.away = true → x.fly = [] → x.inner = [] → s.get (CUE.TSTAT.DIRTY c x.task) = 0 → s.get (CUE.TSTAT.SAVED c t) ≠ 0 →
        s.csaValid c t = false → (∀ q : Fin 8, q ≠ t → st q ≠ 1 ∧ st q ≠ 2) → Ends (.taskSwitch c) s (fun u =>
          u.get (CUE.TSTAT.STATE c t) = 4 ∧ u.get (CUE.TSTAT.FCAUSE c t) = 2 ∧ (u.core c).task = x.task ∧
          ((u.core c).inner.map (fun q => (q.code, q.info))) = [(0x0A, 1)] ∧ SameMem s u ∧ ∃ q ∈ u.reports, q.code = .contextSave)) ∧
      -- a task that comes back to an idle core, which still holds what is its own
      (t.val = x.task → x.away = false → s.FetchOk c x.pc → Ends (.taskSwitch c) s (fun u => u.get (CUE.TSTAT.STATE c t) = 2 ∧
        SameRegs c s u ∧ SameFlags c s u ∧ (u.core c).pc = x.pc ∧ (u.core c).task = x.task ∧ (u.core c).away = false ∧ SameMem s u ∧
        ∀ r : FRef, r.key ≠ (CUE.TSTAT.STATE c t).key → r.key ≠ (CUE.TSTAT.DIRTY c t).key → u.get r = s.get r)))

/-- R409, R414, R417, R418, R426: A Slate frame is checked in order: its form, its session, its tag, its slate number, the state, and
one command runs at a time. The session here is one whose frames travel in clear, on a MAC with MACsec in force. Which step judges a
frame's tag, and that an unknown session is answered in session 0 with no slot (log entry 80), and that a command that passed waits
for its row (log entry 81), are the model's choice. -/
def Obligations.SlateFrames : Prop :=
  ∀ (s : State) (src : BitVec 128) (port : BitVec 16) (f : List (BitVec 8)),
    let via : BitVec 3 := 1
    let peer := (src.toNat, port.toNat)
    let r := runOf 1 peer none (f.map BitVec.toNat)
    let notag : Prop := (f.map BitVec.toNat).getD 11 0 / 2 % 2 = 1
    let st := s.get ETH.SLSTATE.STATE
    let rx := (MAC.RXCNT.COUNT 0, (s.get (MAC.RXCNT.COUNT 0) + 1) % 2 ^ (MAC.RXCNT.COUNT 0).w)
    let last (t : State) : Option (Nat × Nat × Nat) := t.slateOut.getLast?.map (fun o => (o.session, o.cmd, o.payload.getD 0 0))
    -- R418: the slate numbers that slot k accepts
    let fresh (k : Nat) : Prop := ((s.session k).high < r.slate ∧ r.slate ≤ (s.session k).high + 2 ^ 20) ∨
      ((s.session k).high < r.slate + 64 ∧ r.slate ≤ (s.session k).high ∧ r.slate ∉ (s.session k).seen)
    (s.island 28 = 0 → s.carries 1 = false → exec (.slateFrame via src port f) s = .next s) ∧
    (s.island 28 = 0 → s.carries 1 = true → st ≠ 0 → st ≠ 7 →
      (frameSound true (f.map BitVec.toNat) = false → ¬ notag → Writes (.slateFrame via src port f) s
        [rx, (ETH.SLCNT.BADFRAME, min (s.get ETH.SLCNT.BADFRAME + 1) (2 ^ ETH.SLCNT.BADFRAME.w - 1))] id) ∧
      (frameSound true (f.map BitVec.toNat) = true → ¬ notag → r.session = 0 → Writes (.slateFrame via src port f) s
        [rx, (ETH.SLCNT.AUTHDROP, min (s.get ETH.SLCNT.AUTHDROP + 1) (2 ^ ETH.SLCNT.AUTHDROP.w - 1))]
        (fun u => u.setReports (u.reports ++ [⟨.slateAuth, 0xA00, 0, false⟩]))) ∧
      (frameSound false (f.map BitVec.toNat) = true → notag →
        -- session 0 carries OPEN, ATTEST and, in BOOTFAIL, LOAD
        (r.session = 0 → r.cmd ≠ 0x01 → r.cmd ≠ 0x02 → r.cmd ≠ 0x30 → Ends (.slateFrame via src port f) s (fun t =>
          last t = some (0, r.cmd, 7) ∧ t.link.run = s.link.run ∧ t.link.dev0 = s.link.dev0 + 1)) ∧
        (r.session = 0 → r.cmd = 0x02 → r.payload.length = 32 → st < 7 →
          (s.link.run = none → s.link.cut = [] → Writes (.slateFrame via src port f) s [rx] (fun u => u.setLink { u.link with run := some r })) ∧
          -- R419: a running CUT is a running command too
          (s.link.run ≠ none ∨ s.link.cut ≠ [] → Ends (.slateFrame via src port f) s (fun t => last t = some (0, 0x02, 8) ∧ t.link.run = s.link.run))) ∧
        (r.session ≠ 0 → s.slotOf r.session = none → Ends (.slateFrame via src port f) s (fun t =>
          last t = some (0, r.cmd, 7) ∧ t.link.run = s.link.run)) ∧
        -- an open session in clear
        (r.session ≠ 0 → ∀ k : Nat, s.slotOf r.session = some k → (s.session k).phase = 2 → s.get (MAC.CTRL.MACSEC 0) = 1 →
          s.get (ETH.SESS.TRANSPORT k) = 1 → k < 3 →
          (¬ fresh k → Ends (.slateFrame via src port f) s (fun t =>
            last t = some (r.session, r.cmd, 6) ∧ t.link.run = s.link.run ∧
            t.get ETH.SLCNT.REPLAY = min (s.get ETH.SLCNT.REPLAY + 1) (2 ^ ETH.SLCNT.REPLAY.w - 1) ∧
            t.reports = s.reports ++ [⟨.slateReplay, 0xA00, 0, false⟩])) ∧
          -- R419: CUT runs beside another command
          (fresh k → r.cmd = 0x23 → r.payload = [] → 1 ≤ st → st ≤ 5 → Ends (.slateFrame via src port f) s (fun t =>
            t.link.run = s.link.run ∧ t.link.cut = s.link.cut ++ [{ r with slot := some k }] ∧ t.slateOut = s.slateOut)) ∧
          (fresh k → s.link.run = none → s.link.cut = [] → r.cmd = 0x20 → r.payload = [] →
            (st = 1 → Ends (.slateFrame via src port f) s (fun t => t.link.run = some { r with slot := some k } ∧
              (t.session k).high = max (s.session k).high r.slate ∧ r.slate ∈ (t.session k).seen ∧ (t.session k).last = s.t ∧
              (t.session k).peer = peer ∧ t.slateOut = s.slateOut)) ∧
            (st ≠ 1 → Ends (.slateFrame via src port f) s (fun t => last t = some (r.session, 0x20, 1) ∧ t.link.run = none ∧
              (t.session k).high = max (s.session k).high r.slate))))))

/-- R421, R423, R403, R404, R421, R424 to R427: A reserved session ends after 1 s without KEYX, an open one after SESSTO seconds of
silence, and its handles are erased. The local port takes a frame only where its area is usable. OPEN reserves a free slot or answers
BUSY, KEYX opens the session or ends its reservation, CLOSE erases it, SAK puts MACsec in force, ATTEST answers with the report. The
key and signature functions are those of FIPS 203 and 204 (free functions of `Config`). A row of a Slate command runs that command
only: where none runs, nothing happens. BUSY of OPEN and ATTEST by the TRNG or after 200 iterations (log entry 84), GO while BUSY (log
entry 83), the answer to a KEYX whose reservation has ended (log entry 84), and the rows that do nothing (log entry 13), are the
model's choice. -/
def Obligations.SessionsEnd : Prop :=
  (∀ (s : State) (k : Fin 3),
     let closed (t : State) : Prop := (t.session k).phase = 0 ∧ t.get (ETH.SESS.NUMBER k) = 0 ∧ t.get (ETH.SESS.TRANSPORT k) = 0 ∧
       t.handle (2 * k) = none ∧ t.handle (2 * k + 1) = none ∧ SameMem s t ∧ t.slateOut = s.slateOut
     ((s.session k).phase ≠ 1 → exec (.keyxTimeout k) s = .next s) ∧
     ((s.session k).phase = 1 → Ends (.keyxTimeout k) s (fun t => closed t ∧
       (s.tcRun = true → (s.session k).opened + 1500000000 < 2 ^ 64 → (s.session k).opened + 1500000000 ≤ t.t))) ∧
     ((s.session k).phase ≠ 2 → exec (.sessionTimeout k) s = .next s) ∧
     ((s.session k).phase = 2 → Ends (.sessionTimeout k) s (fun t => closed t ∧
       (s.tcRun = true → (s.session k).last + max 1 (s.get ETH.SESSTO.SECS) * 1500000000 < 2 ^ 64 →
         (s.session k).last + max 1 (s.get ETH.SESSTO.SECS) * 1500000000 ≤ t.t))) ∧
     -- the local port
     (∀ (a : Owner) (v : Word), s.Settled a → s.island 28 = 0 → a ≠ 0 → v.toNat % 2 = 1 → v.toNat / 2 ^ 28 = a.toNat →
       let own := s.get ETH.LOCALCTL.OWNER
       let len := v.toNat / 2 % 2 ^ 14
       -- R422: in BOOT and SLEEP no frame is answered
       let silent : Prop := s.get ETH.SLSTATE.STATE = 0 ∨ s.get ETH.SLSTATE.STATE = 7
       (own ≠ 0 → own ≠ a.toNat → Writes (.localGo a v) s [] (fun u => u.setBus ⟨a.toNat, .busOwn, 0, 0⟩)) ∧
       (own = a.toNat →
         (s.get ETH.LOCALSTAT.BUSY = 1 ∨ silent → Writes (.localGo a v) s [(ETH.LOCALCTL.LEN, len)]
           (fun u => u.setBus ⟨a.toNat, .ok, 0, 0⟩)) ∧
         (s.get ETH.LOCALSTAT.BUSY = 0 → ¬silent → s.areaOk = false →
           Writes (.localGo a v) s [(ETH.LOCALCTL.LEN, len), (ETH.LOCALSTAT.BADBUF, 1)]
             (fun u => u.setBus ⟨a.toNat, .ok, 0, 0⟩)) ∧
         (s.get ETH.LOCALSTAT.BUSY = 0 → ¬silent → s.areaOk = true → 8984 < len →
           Writes (.localGo a v) s [(ETH.LOCALCTL.LEN, len), (ETH.LOCALSTAT.DONE, 1), (ETH.LOCALSTAT.RLEN, 0),
             (ETH.SLCNT.BADFRAME, min (s.get ETH.SLCNT.BADFRAME + 1) (2 ^ ETH.SLCNT.BADFRAME.w - 1))]
             (fun u => (u.setEvents (s.events ++ [⟨325, none, []⟩])).setBus ⟨a.toNat, .ok, 0, 0⟩)) ∧
         (s.get ETH.LOCALSTAT.BUSY = 0 → s.areaOk = true → len = 16 → s.marks = [] → s.link.run = none → s.link.cut = [] →
           s.get ETH.LOCALEN.EN = 1 → s.get ETH.SLSTATE.STATE = 1 → 64 ≤ (bankOf? (s.get ETH.LOCALBUF.ADDR)).getD 0 →
           (∀ b : Fin 68, s.get (BANKS.STATUS.RED b) = 0) →
           let f := unpackOctets (s.rds (s.get ETH.LOCALBUF.ADDR) 4)
           frameSound false f = true → f.getD 3 0 = 0x20 → s.bankMay 0x40 ((bankOf? (s.get ETH.LOCALBUF.ADDR)).getD 0) = true →
           Writes (.localGo a v) s [(ETH.LOCALCTL.LEN, len), (ETH.LOCALSTAT.BUSY, 1)]
             (fun u => (u.setLink { u.link with run := some (runOf 7 (0, 0) none f (s.get ETH.LOCALBUF.ADDR)) }).setBus ⟨a.toNat, .ok, 0, 0⟩))))) ∧
  (∀ (s : State) (r : SlateRun), s.link.run = some r →
     let sub := r.payload.getD 0 0
     -- OPEN runs outside every session
     (r.cmd = 0x01 → sub = 1 → r.slot = none → r.via = 1 → s.carries 1 = true → r.session = 0 →
       let out (st len : Nat) (t : State) : Prop := t.link.run = none ∧ t.link.dev0 = s.link.dev0 + 1 ∧
         t.slateOut.length = s.slateOut.length + 1 ∧ t.slateOut.getLast?.map (fun o => (o.via, o.peer, o.session, o.cmd,
           o.payload.getD 0 0, o.payload.length)) = some (1, r.peer, 0, 0x01, st, len)
       (s.freeSlot = none → Ends (.sessionOpen false) s (fun t => out 8 8 t ∧ t.sessions = s.sessions)) ∧
       (∀ k : Nat, s.freeSlot = some k →
         (s.get SEC.STATUS.TRNGOK = 0 → Ends (.sessionOpen false) s (fun t => out 8 8 t ∧ t.sessions = s.sessions)) ∧
         (s.get SEC.STATUS.TRNGOK = 1 → Ends (.sessionOpen true) s (fun t => out 8 8 t ∧ t.sessions = s.sessions)) ∧
         (s.get SEC.STATUS.TRNGOK = 1 → Ends (.sessionOpen false) s (fun t => out 0 6239 t ∧ (t.session k).phase = 1 ∧
           (t.session k).opened = s.t ∧ t.get (ETH.SESS.NUMBER k) ≠ 0 ∧ t.get (ETH.SESS.TRANSPORT k) = 1 ∧
           (t.session k).hostNonce = (r.payload.drop 4).take 32)))) ∧
     -- KEYX runs in the reserved slot
     (r.cmd = 0x01 → sub = 2 → ∀ k : Fin 3, r.slot = some k.val → r.via = 1 → s.carries 1 = true → s.slateOut = [] →
       -- where the reservation has ended, it is answered as a frame that names no session
       if (s.session k).phase ≠ 1 ∨ s.get (ETH.SESS.NUMBER k) ≠ r.session then Ends .sessionKeyx s (fun t => t.sessions = s.sessions ∧
         t.link.run = none ∧ t.slateOut.map (fun o => (o.session, o.payload.getD 0 0)) = [(0, 7)])
       else if s.keyxOk k r.payload = true then
         Ends .sessionKeyx s (fun t => (t.session k).phase = 2 ∧ (t.session k).high = 1 ∧ (t.session k).seen = [1] ∧
           t.handle (2 * k) = some (s.sessionKeys k r.payload / 2 ^ 256) ∧
           t.handle (2 * k + 1) = some (s.sessionKeys k r.payload % 2 ^ 256) ∧ t.link.run = none)
       else Ends .sessionKeyx s (fun t => (t.session k).phase = 0 ∧ t.get (ETH.SESS.NUMBER k) = 0 ∧ t.handle (2 * k) = none ∧
         t.handle (2 * k + 1) = none ∧ t.link.run = none ∧
         t.slateOut.map (fun o => (o.session, o.payload.getD 0 0)) = [(r.session, 7)])) ∧
     -- CLOSE and SAK run in an open session
     (∀ k : Fin 3, s.ServesIn k r → r.cmd = 0x01 →
       (sub = 3 → Ends .sessionClose s (fun t => (t.session k).phase = 0 ∧ t.get (ETH.SESS.NUMBER k) = 0 ∧
         t.handle (2 * k) = none ∧ t.handle (2 * k + 1) = none ∧ t.link.run = none ∧
         t.slateOut = s.slateOut ++ [⟨1, s.vlanTag 0, r.peer, r.session, (s.session k).dev, 0x01, false,
           [0, s.get ETH.SLSTATE.STATE, 0, 0] ++ octets 4 r.slate, [], []⟩])) ∧
       (sub = 4 → r.payload.getD 1 0 < 2 → Ends .sessionSak s (fun t => Replied s t k r 0 0 [] ∧
         t.handle (6 + r.payload.getD 1 0) = some (ofOctets ((r.payload.drop 4).take 32)) ∧
         t.get (MAC.CTRL.MACSEC (r.payload.getD 1 0)) = 1 ∧
         (r.payload.getD 1 0, r.payload.getD 2 0, ofOctets ((r.payload.drop 36).take 8)) ∈ t.link.saks))) ∧
     (∀ k : Fin 3, s.ServesIn k r → r.cmd = 0x02 →
       (s.get SEC.STATUS.TRNGOK = 0 → Ends (.attest false) s (fun t => Replied s t k r 8 0 [])) ∧
       (s.get SEC.STATUS.TRNGOK = 1 → Ends (.attest true) s (fun t => Replied s t k r 8 0 []) ∧
         Ends (.attest false) s (fun t => t.link.run = none ∧ t.slateOut.getLast?.map (fun o =>
           (o.payload.length, o.payload.getD 0 0, (o.payload.drop 32).take 32)) = some (8 + 208 + 4627, 0, fitOctets 32 r.payload) ∧
           SameMem s t)))) ∧
  (∀ s : State, s.link.run = none →
     exec (.sessionOpen false) s = .next s ∧ exec .sessionKeyx s = .next s ∧ exec .sessionClose s = .next s ∧
     exec .sessionSak s = .next s ∧ exec (.attest false) s = .next s ∧ exec .slateRead s = .next s ∧
     (∀ hit : Option (BitVec 11), exec (.slateWrite hit) s = .next s) ∧
     exec .scene s = .next s ∧ exec .budget s = .next s ∧ exec .latency s = .next s ∧ exec .failoverPlan s = .next s ∧
     exec .arm s = .next s ∧ exec .slateRun s = .next s ∧ exec .holdout s = .next s ∧ exec .clear s = .next s ∧
     exec .sleep s = .next s ∧ exec .reset s = .next s ∧
     (∀ bad : List (BitVec 11), exec (.loadErase bad) s = .next s) ∧ (∀ bad : List (BitVec 12), exec (.loadProgram bad) s = .next s) ∧
     exec .loadVerify s = .next s ∧ exec .commit s = .next s ∧ exec .trimExport s = .next s ∧ exec .trimImport s = .next s ∧
     exec .rushesStatus s = .next s ∧ exec .rushesRead s = .next s ∧ exec .rushesTrigger s = .next s ∧
     exec .rushesRearm s = .next s ∧ exec .dailies s = .next s ∧ (s.link.cut = [] → exec .slateCut s = .next s))

/-- R425, R427: READ and WRITE answer what the accesses give, COLLIDE among them; BUDGET, LATENCY, the SCENE records of every kind and
FAILOVER PLAN write what they carry, all of it or nothing. That a nonzero octet where the payload has zero is BAD_ARG is the model's
choice (log entries 82 and 85). -/
def Obligations.SlateCommands : Prop :=
  ∀ (s : State) (r : SlateRun), s.link.run = some r → ∀ k : Fin 3, s.ServesIn k r → (∀ o ∈ r.payload, o < 256) →
    let p := r.payload
    let n (i w : Nat) : Nat := ofOctets ((p.drop i).take w)
    -- READ of one word of a bank the host owns; a bank it does not own answers BUS_OWN and no word
    (r.cmd = 0x03 → n 4 2 = 1 → ∀ b : Nat, bankOf? (n 0 4) = some b → b < 64 → s.get (BANKS.STATUS.RED b) = 0 →
      s.markAt (n 0 4) = none → s.island (20 + b / 16) = 0 →
      (s.otp.level = 0 → s.get (BANKS.OWNER.OWNER b) = 0x40 →
        Ends .slateRead s (fun t => Replied s t k r 0 0 ([0, 1, 0, 0] ++ octets 5 (s.rd (n 0 4) % 2 ^ 36)) ∧ SameMem s t)) ∧
      (s.otp.level = 0 → s.get (BANKS.OWNER.OWNER b) ≠ 0x40 →
        Ends .slateRead s (fun t => Replied s t k r 0 0 [0, 0, 2, 0] ∧ SameMem s t)) ∧
      (s.otp.level ≠ 0 → Ends .slateRead s (fun t => Replied s t k r 7 0 [] ∧ SameMem s t))) ∧
    (r.cmd = 0x04 → n 4 2 = 1 → p.length = 13 → n 8 5 < 2 ^ 36 → ∀ b : Nat, bankOf? (n 0 4) = some b → b < 64 →
      s.get (BANKS.STATUS.RED b) = 0 → s.island (20 + b / 16) = 0 → s.get (BANKS.OWNER.OWNER b) = 0x40 →
      Ends (.slateWrite none) s (fun t => Replied s t k r 0 0 [0, 1, 0, 0] ∧ t.rd (n 0 4) = n 8 5 ∧ SameMemBut s t (n 0 4) 1)) ∧
    -- R305: port A writes the same mailbox word in the same cycle: its write stands, this one answers COLLIDE
    (r.cmd = 0x04 → n 4 2 = 1 → p.length = 13 → n 8 5 < 2 ^ 36 → ∀ b : Nat, bankOf? (n 0 4) = some b → 64 ≤ b →
      s.get (BANKS.STATUS.RED b) = 0 → s.bankMay 0x40 b = true → s.asleep (n 0 4) = false →
      Ends (.slateWrite (some 0)) s (fun t => Replied s t k r 0 0 [0, 0, 4, 0] ∧ SameMem s t)) ∧
    (r.cmd = 0x11 → Ends .budget s (fun t => Replied s t k r 0 0 [] ∧ t.get GAF.DBUDGET.BUDGET = n 0 2 % 2 ^ 14 ∧
      t.get GAF.DSLEW.SLEW = n 2 2 % 2 ^ 14)) ∧
    (r.cmd = 0x12 → n 0 2 = 1 → (32 ≤ p.getD 4 0 ∨ p.getD 5 0 ≠ 0) → Ends .latency s (fun t => Replied s t k r 4 0 [])) ∧
    (r.cmd = 0x12 → n 0 2 = 0 → Ends .latency s (fun t => Replied s t k r 0 0 [])) ∧
    (r.cmd = 0x12 → n 0 2 = 1 → p.getD 5 0 = 0 → ∀ i : Fin 32, p.getD 4 0 = i →
      Ends .latency s (fun t => Replied s t k r 0 0 [] ∧ t.get (ISL.TWL.TWL i) = n 6 2 ∧ SameMem s t ∧
        (s.island i < 2 → t.gafQueue = s.gafQueue) ∧ ∀ j : Fin 32, j ≠ i → t.get (ISL.TWL.TWL j) = s.get (ISL.TWL.TWL j))) ∧
    (r.cmd = 0x13 → p.getD 0 0 = 1 → p.length = 54 →
      (4 ≤ p.getD 4 0 → s.split = false → Ends .failoverPlan s (fun t => Replied s t k r 4 0 [])) ∧
      (∀ c : Fin 4, p.getD 4 0 = c → Ends .failoverPlan s (fun t => Replied s t k r 0 0 [] ∧
        t.get (CTU.FPCORE.HEIR c) = p.getD 5 0 % 16 ∧ t.get (CTU.FPCORE.LVCORE c) = p.getD 5 0 / 16 ∧
        (∀ j : Fin 8, t.get (CTU.FPRPC.RPC c j) = n (22 + 4 * j) 4 ∧ t.get (CTU.FPT.DEST c j) = p.getD (6 + 2 * j) 0 / 16)))) ∧
    -- SCENE: no record at all; the zone supply; a port
    (r.cmd = 0x10 → 1 ≤ p.getD 0 0 → p.getD 0 0 ≤ 3 → n 2 2 = 0 → p.length = 4 → Ends .scene s (fun t => Replied s t k r 0 0 [] ∧
      SameMem s t)) ∧
    (r.cmd = 0x10 → p.getD 0 0 = 5 → n 2 2 = 1 → p.length = 8 → Ends .scene s (fun t => Replied s t k r 0 0 [] ∧
      t.get GAF.ZSUP.IZ = n 4 2 ∧ t.get GAF.ZSUP.SZ = n 6 2)) ∧
    (r.cmd = 0x10 → p.getD 0 0 = 1 → n 2 2 = 1 → p.length = 12 → p.getD 4 0 = 1 → ∀ q : Fin 96, p.getD 5 0 = q →
      (s.get (GP.CTRL.EN q) = 1 → p.getD 6 0 < 4 → p.getD 7 0 < 16 → p.getD 8 0 < 96 → (p.drop 9).all (· == 0) = true →
        Ends .scene s (fun t => Replied s t k r 5 q [])) ∧
      (s.get (GP.CTRL.EN q) = 0 → p.getD 6 0 < 4 → p.getD 7 0 < 16 → p.getD 8 0 < 96 → (p.drop 9).all (· == 0) = true →
        Ends .scene s (fun t => Replied s t k r 0 0 [] ∧ t.get (GP.SAFE.SAFE q) = p.getD 6 0 ∧
          t.get (GP.SAFE.SCLS q) = p.getD 7 0 ∧ t.get (GP.SAFE.LEADP q) = p.getD 8 0 ∧ t.get (GP.SAFE.SCENE q) = 1))) ∧
    -- a class of the zone ledger
    (r.cmd = 0x10 → p.getD 0 0 = 1 → n 2 2 = 1 → p.length = 12 → p.getD 4 0 = 2 →
      (p.getD 5 0 = 0 ∨ 16 ≤ p.getD 5 0 ∨ p.getD 6 0 ≠ 0 ∨ 16 ≤ p.getD 7 0 → Ends .scene s (fun t => Replied s t k r 4 0 [] ∧ SameMem s t)) ∧
      (∀ q : Fin 16, q ≠ 0 → p.getD 5 0 = q → p.getD 6 0 = 0 → p.getD 7 0 < 16 → Ends .scene s (fun t => Replied s t k r 0 0 [] ∧ SameMem s t ∧
        t.get (GAF.CLS.PRIO q) = n 7 5 / 2 ^ 34 ∧ t.get (GAF.CLS.DUR q) = n 7 5 / 2 ^ 24 % 2 ^ 10 ∧
        t.get (GAF.CLS.IPK q) = n 7 5 / 2 ^ 12 % 2 ^ 12 ∧ t.get (GAF.CLS.IRUN q) = n 7 5 % 2 ^ 12 ∧ t.starts = s.starts))) ∧
    -- a sensor, while its channel is disabled
    (r.cmd = 0x10 → p.getD 0 0 = 2 → n 2 2 = 1 → p.length = 46 → p.getD 5 0 < 8 → (∀ i < 8, p.getD (6 + 5 * i) 0 < 16) →
      ∀ q : Fin 16, p.getD 4 0 = q →
      (s.get (PF.CTRL.EN q) = 1 → Ends .scene s (fun t => Replied s t k r 5 (0x100 + q) [] ∧ SameMem s t)) ∧
      (s.get (PF.CTRL.EN q) = 0 → Ends .scene s (fun t => Replied s t k r 0 0 [] ∧ SameMem s t ∧ t.get (PF.CTRL.SRC q) = p.getD 5 0 ∧
        t.get (PF.CFG.ZEROT q) = n 6 5 / 2 ^ 20 ∧ t.get (PF.CFG.FILT q) = n 6 5 / 2 ^ 9 % 2 ^ 6 ∧ t.get (PF.CPR.CPR q) = n 11 5 % 2 ^ 32 ∧
        t.get (PF.IXVAL.IXVAL q) = n 16 5 ∧ t.get (PF.AUX.HSEQ q) = n 21 5 / 2 ^ 18 ∧ t.get (PF.AUX.IXTOL q) = n 21 5 % 2 ^ 16 ∧
        t.get (PF.RES0.RESSET q) = n 26 5 / 2 ^ 31 ∧ t.get (PF.SER1.PERIOD q) = n 41 5 ∧ t.get (PF.STATUS.SCENE q) = 1))) ∧
    -- an analogue input
    (r.cmd = 0x10 → p.getD 0 0 = 3 → n 2 2 = 1 → p.length = 8 →
      (64 ≤ p.getD 4 0 ∨ 2 ≤ p.getD 5 0 ∨ (p.getD 5 0 = 1 ∧ p.getD 4 0 % 2 = 1) ∨ 4 ≤ p.getD 6 0 ∨ p.getD 7 0 ≠ 0 →
        Ends .scene s (fun t => Replied s t k r 4 0 [] ∧ SameMem s t)) ∧
      (∀ q : Fin 64, p.getD 4 0 = q → p.getD 5 0 < 2 → (p.getD 5 0 = 0 ∨ q.val % 2 = 0) → p.getD 6 0 < 4 → p.getD 7 0 = 0 →
        Ends .scene s (fun t => Replied s t k r 0 0 [] ∧ SameMem s t ∧ t.get (ETH.AINSCN.VALID q) = 1 ∧
          t.get (ETH.AINSCN.MODE q) = p.getD 5 0 ∧ t.get (ETH.AINSCN.GAINMAX q) = p.getD 6 0))) ∧
    -- the thermal parameters with FLAGS 1, and the temperatures that WRITE names
    (r.cmd = 0x10 → p.getD 0 0 = 4 → n 2 2 = 1 → p.length = 16 → p.getD 4 0 < 2 → p.getD 5 0 < 16 → p.getD 6 0 < 16 → n 10 2 < 4096 →
      Ends .scene s (fun t => Replied s t k r 0 0 [] ∧ SameMem s t ∧
        t.get GAF.ZTHERM.TDER = (if p.getD 4 0 = 1 then p.getD 7 0 else s.get GAF.ZTHERM.TDER) ∧
        t.get GAF.ZTHERM.KDER = (if p.getD 4 0 = 1 then p.getD 8 0 else s.get GAF.ZTHERM.KDER) ∧
        t.get GAF.ZTHERM.TFALL = (if p.getD 4 0 = 1 then p.getD 9 0 else s.get GAF.ZTHERM.TFALL) ∧
        t.get GAF.ZTHERM.MAXAGE = (if p.getD 4 0 = 1 then n 10 2 else s.get GAF.ZTHERM.MAXAGE) ∧
        ∀ j : Fin 4, t.get (GAF.ZTEMP.USED j) = (if p.getD 4 0 = 1 then p.getD 5 0 / 2 ^ j.val % 2 else s.get (GAF.ZTEMP.USED j)) ∧
          (p.getD 6 0 / 2 ^ j.val % 2 = 1 → t.get (GAF.ZTEMP.TEMP j) = p.getD (12 + j) 0 ∧ t.get (GAF.ZTEMP.AGE j) = 0)))

/-- R178, R380, R419, R422, R424, R425, R427: ARM and RUN pass only with their checks, HOLDOUT steps back, CUT latches, CLEAR leaves
CUT, for ARMED or STANDBY, once no other source stands, and is refused with CONFLICT and the sources while one does, RESET makes a
start due. Timecode stopping at a cold RESET (log entry 102), CUT beside another command (log entry 82), and WRONG_STATE for an ARM or
RUN whose state has been left since it was accepted (log entry 177) are the model's choice. -/
def Obligations.SlateStates : Prop :=
  ∀ (s : State) (k : Fin 3),
    let st := s.get ETH.SLSTATE.STATE
    let state (r : SlateRun) (d : Nat) (t : State) : Prop := t.get ETH.SLSTATE.STATE = d ∧ t.get ETH.SLSTATE.PREV = st ∧
      (∃ e ∈ t.events, e.num = 324) ∧ Replied s t k r 0 0 []
    -- R424: the first check that fails
    let ports : Prop := ∀ p : Fin 96, s.get (GP.CTRL.EN p) = 1 → s.get (GP.SAFE.SCENE p) = 1
    let channels : Prop := ∀ n : Fin 16, s.get (PF.CTRL.EN n) = 1 → s.get (PF.STATUS.SCENE n) = 1
    let sets : Prop := ∀ n : Fin 32, s.get (SS.CTRL.EN n) = 1 → s.get (SS.STAT.SCENE n) = 1
    let lacks (p : Fin 96) : Prop := s.get (GP.CTRL.EN p) = 1 ∧ s.get (GP.SAFE.SCLS p) ≠ 0 ∧
      s.get (GAF.CLS.IPK (s.get (GP.SAFE.SCLS p))) = 0
    let trim : Prop := s.get SAMP.STATUS.TRIMOK = 1
    (¬ trim → s.armFault = some 0xFFF) ∧
    (trim → ∀ p : Fin 96, s.get (GP.CTRL.EN p) = 1 → s.get (GP.SAFE.SCENE p) = 0 →
      (∀ q : Fin 96, q < p → s.get (GP.CTRL.EN q) = 0 ∨ s.get (GP.SAFE.SCENE q) = 1) → s.armFault = some p.val) ∧
    (trim → ports → ∀ n : Fin 16, s.get (PF.CTRL.EN n) = 1 → s.get (PF.STATUS.SCENE n) = 0 →
      (∀ q : Fin 16, q < n → s.get (PF.CTRL.EN q) = 0 ∨ s.get (PF.STATUS.SCENE q) = 1) → s.armFault = some (0x100 + n.val)) ∧
    (trim → ports → channels → ∀ n : Fin 32, s.get (SS.CTRL.EN n) = 1 → s.get (SS.STAT.SCENE n) = 0 →
      (∀ q : Fin 32, q < n → s.get (SS.CTRL.EN q) = 0 ∨ s.get (SS.STAT.SCENE q) = 1) → s.armFault = some (0x200 + n.val)) ∧
    (trim → ports → channels → sets → s.get GAF.ZSUP.IZ = 0 → s.armFault = some 0x300) ∧
    (trim → ports → channels → sets → s.get GAF.ZSUP.IZ ≠ 0 → ∀ p : Fin 96, lacks p → (∀ q : Fin 96, q < p → ¬ lacks q) →
      s.armFault = some (0x400 + p.val)) ∧
    (trim → ports → channels → sets → s.get GAF.ZSUP.IZ ≠ 0 → (∀ p : Fin 96, ¬ lacks p) → s.armFault = none) ∧
    (∀ r : SlateRun, s.link.run = some r → s.ServesIn k r →
      -- R422: a state that has left STANDBY or ARMED since (the CUT latch has set) is no longer left by ARM or RUN
      (r.cmd = 0x20 → st ≠ 1 → Ends .arm s (fun t => Replied s t k r 1 0 [] ∧ t.get ETH.SLSTATE.STATE = st)) ∧
      (r.cmd = 0x21 → st ≠ 2 → Ends .slateRun s (fun t => Replied s t k r 1 0 [] ∧ t.get ETH.SLSTATE.STATE = st)) ∧
      (r.cmd = 0x20 → st = 1 → ∀ info : Nat, s.armFault = some info → Ends .arm s (fun t => Replied s t k r 4 info [] ∧
        t.get ETH.SLSTATE.STATE = st)) ∧
      (r.cmd = 0x21 → st = 2 → ∀ info : Nat, s.armFault = some info → Ends .slateRun s (fun t => Replied s t k r 4 info [] ∧
        t.get ETH.SLSTATE.STATE = st)) ∧
      (r.cmd = 0x20 → s.armFault = none → st = 1 → Ends .arm s (state r 2)) ∧
      (r.cmd = 0x21 → s.armFault = none → st = 2 → Ends .slateRun s (state r 3)) ∧
      (r.cmd = 0x22 → st = 3 → Ends .holdout s (state r 2)) ∧
      (r.cmd = 0x22 → st = 2 → Ends .holdout s (state r 1)) ∧
      -- R427: CONFLICT, with the sources of CUTSTAT[5:2] as INFO
      (r.cmd = 0x24 → s.get PORTS.CUTSTAT.SIN = 1 ∨ s.get PORTS.CUTSTAT.SCTU = 1 ∨ s.get PORTS.CUTSTAT.SUV = 1 → Ends .clear s (fun t =>
        t.get PORTS.CUTSTAT.LATCH = s.get PORTS.CUTSTAT.LATCH ∧ t.get PORTS.CUTSTAT.CLRREF = 1 ∧ t.get ETH.SLSTATE.STATE = st ∧
        Replied s t k r 5 (8 * s.get PORTS.CUTSTAT.SHOST + 4 * s.get PORTS.CUTSTAT.SUV + 2 * s.get PORTS.CUTSTAT.SIN +
          s.get PORTS.CUTSTAT.SCTU) [])) ∧
      -- R422: from ARMED or RUN it goes back to ARMED, where the checks of R424 pass
      (r.cmd = 0x24 → s.get PORTS.CUTSTAT.SIN = 0 → s.get PORTS.CUTSTAT.SCTU = 0 → s.get PORTS.CUTSTAT.SUV = 0 → st = 4 →
        s.get ETH.SLSTATE.CUTFROM = 2 ∨ s.get ETH.SLSTATE.CUTFROM = 3 → Ends .clear s (fun t =>
          state r (if s.armFault = none then 2 else 1) t ∧ t.get PORTS.CUTSTAT.LATCH = 0 ∧ t.get PORTS.CUTSTAT.SHOST = 0)) ∧
      (r.cmd = 0x24 → s.get PORTS.CUTSTAT.SIN = 0 → s.get PORTS.CUTSTAT.SCTU = 0 → s.get PORTS.CUTSTAT.SUV = 0 →
        s.get PORTS.CUTSTAT.LATCH = 1 → st = 4 → s.get ETH.SLSTATE.CUTFROM = 1 → Ends .clear s (fun t =>
          state r 1 t ∧ t.get PORTS.CUTSTAT.LATCH = 0 ∧ t.get PORTS.CUTSTAT.SHOST = 0)) ∧
      (r.cmd = 0x26 → Ends .reset s (fun t => Replied s t k r 0 0 [] ∧
        t.boot = { s.boot with due := some (if r.payload.getD 0 0 = 0 then (false, 5) else (true, 8)) } ∧
        t.tcRun = (decide (r.payload.getD 0 0 ≠ 0) && s.tcRun)))) ∧
    (∀ (r : SlateRun) (rest : List SlateRun), s.link.cut = r :: rest → s.ServesIn k r → s.link.run = none → r.cmd = 0x23 → s.get PORTS.CUTSTAT.SHOST = 0 → Ends .slateCut s (fun t =>
      t.get PORTS.CUTSTAT.LATCH = 1 ∧ t.get PORTS.CUTSTAT.SHOST = 1 ∧ t.link.cut = rest ∧ Replied s t k r 0 0 []))

/-- R388, R391, R392, R395, R398, R427, R428: The checks of an image and of a trim set. LOAD erases and programs a region, one sector
or line after another between descriptors, and verifies it, but not that of the running image; COMMIT prefers a region that passes;
the trim set travels as its 13 records. That one LOAD_ERASE or LOAD_PROGRAM ends one sector or line and begins the next, TRIM IMPORT
waiting without an erased slot (log entry 86), and CAUSE 8 of COMMIT (log entry 85), are the model's choice. -/
def Obligations.SlateImages : Prop :=
  -- R395: the checks of a region, in the order of the table
  (∀ (s : State) (g : Fin 4),
    let w (i : Nat) : Nat := s.rd (regionBase g + i)
    let lo := regionBase g + 16
    let hi := lo + w 5 % 2 ^ 32
    let inBody (a : Nat) : Prop := lo ≤ a ∧ a < hi
    let key := s.otp.keys.getD (w 1 % 4) none
    let tag : Prop := w 0 / 2 ^ 24 % 2 ^ 12 = 0xB07 ∧ w 0 / 2 ^ 16 % 2 ^ 8 = 1
    let fits : Prop := hi + 648 + 1157 ≤ regionBase g + regionLen g ∧ inBody (w 3 % 2 ^ 32) ∧ inBody (w 4 % 2 ^ 32) ∧
      (w 6 / 2 % 2 = 1 ↔ 2 ≤ g.val) ∧ (w 6 % 2 = 0 ∨ s.split = false)
    let slot : Prop := key ≠ none ∧ s.otp.revoked.contains (w 1 % 4) = false
    let digest : Prop := key = some (Config.sha3 (s.imageKey g) % 2 ^ 512)
    let new : Prop := s.otp.arb ≤ w 2 % 2 ^ 7
    let signed : Prop := Config.mldsaVerify (s.imageKey g) (s.imageSig g) (octets 64 (s.imageDig g)) Ctx.img.num = true
    let whole : Prop := s.imageHurt g = false
    (s.imageReason g true = none ↔ tag ∧ fits ∧ slot ∧ digest ∧ new ∧ signed ∧ whole) ∧
    (¬tag → s.imageReason g true = some 1) ∧ (tag → ¬fits → s.imageReason g true = some 2) ∧
    (tag → fits → ¬slot → s.imageReason g true = some 3) ∧ (tag → fits → slot → ¬digest → s.imageReason g true = some 4) ∧
    (tag → fits → slot → digest → ¬new → s.imageReason g true = some 5) ∧
    (tag → fits → slot → digest → new → ¬signed → s.imageReason g true = some 6) ∧
    (tag → fits → slot → digest → new → signed → ¬whole → s.imageReason g true = some 7) ∧
    (s.marks = [] → s.flash.odd = [] → s.flash.torn = [] → s.flash.retired = [] → s.flash.runs = [] → whole)) ∧
  -- R391: the checks of a trim set
  (∀ (s : State) (l : List (List Nat)),
    let h (i : Nat) : Nat := (l.headD []).getD i 0
    let tag : Prop := h 0 / 2 ^ 24 % 2 ^ 12 = 0x7A1 ∧ h 0 / 2 ^ 16 % 2 ^ 8 = 1
    let crc : Prop := h 1 % 2 ^ 32 = trimCrc l.tail.flatten
    let uid : Prop := ((l.headD []).drop 2).take 4 = s.otp.uid
    s.trimFails none = some 1 ∧ (s.trimFails (some l) = none ↔ tag ∧ crc ∧ uid) ∧ (¬tag → s.trimFails (some l) = some 2) ∧
    (tag → ¬crc → s.trimFails (some l) = some 3) ∧ (tag → crc → ¬uid → s.trimFails (some l) = some 4)) ∧
  (∀ (s : State) (r : SlateRun), s.link.run = some r → ∀ k : Fin 3, s.ServesIn k r → (∀ o ∈ r.payload, o < 256) →
    let p := r.payload
    let n (i w : Nat) : Nat := ofOctets ((p.drop i).take w)
    let sub := p.getD 0 0
    let g := p.getD 1 0
    let st := s.get FLASH.RSSTAT.STATE
    let idle : Prop := s.flash.now = none ∧ s.flash.prog = none ∧ s.flash.wipe = false ∧ s.flash.copies = [] ∧ s.flash.torn = [] ∧
      s.flash.retired = [] ∧ s.flash.odd = [] ∧ s.marks = []
    let quiet : Prop := idle ∧ s.flash.runs = [] ∧ s.flash.loadOp = none
    (r.cmd = 0x30 → s.boot.region = some g →
      (sub = 1 → s.flash.loadOp = none → Ends (.loadErase []) s (fun t => Replied s t k r 5 0xFFF [] ∧ SameMem s t)) ∧
      (sub = 2 → s.flash.loadOp = none → Ends (.loadProgram []) s (fun t => Replied s t k r 5 0xFFF [] ∧ SameMem s t))) ∧
    -- while the controller runs a descriptor, the work waits
    (r.cmd = 0x30 → s.boot.region ≠ some g → s.flash.now ≠ none → g < 4 → s.flash.loadOp = none → r.done = 0 → r.first = 0xFFF →
      (sub = 1 → exec (.loadErase []) s = .next s) ∧ (sub = 2 → exec (.loadProgram []) s = .next s) ∧
      (sub = 3 → exec .loadVerify s = .next s)) ∧
    -- R428: ERASE: the sector under way ends blank, and the next one starts, or the command completes
    (r.cmd = 0x30 → s.boot.region ≠ some g → g < 4 → sub = 1 → idle → r.done < regionLen g / 0x1000 →
      let a := regionBase g + 0x1000 * r.done
      let goes (i : Nat) (t : State) : Prop := t.link.run = some { r with done := i, first := 0xFFF } ∧
        t.flash.loadOp = some (regionBase g + 0x1000 * i, []) ∧
        t.flash.runs = [⟨flashBank (regionBase g + 0x1000 * i), [flashSec (regionBase g + 0x1000 * i)], .load, false⟩]
      (s.flash.runs = [] → s.flash.loadOp = none → Ends (.loadErase []) s (fun t => goes r.done t ∧ SameMem s t)) ∧
      (s.flash.loadOp = some (a, []) → s.flash.runs = [⟨flashBank a, [flashSec a], .load, false⟩] → Ends (.loadErase []) s (fun t =>
        (∀ i < 0x1000, t.rd (a + i) = 0xFFFFFFFFF) ∧ SameMemBut s t a 0x1000 ∧
        if r.done + 1 < regionLen g / 0x1000 then goes (r.done + 1) t else Replied s t k r 0 0xFFF [] ∧ t.flash.loadOp = none ∧ t.flash.runs = []))) ∧
    -- R428: PROGRAM: the line under way is programmed, and the next one starts, or the command completes
    (r.cmd = 0x30 → s.boot.region ≠ some g → g < 4 → sub = 2 → idle → s.flash.runs = [] → n 4 4 % 16 = 0 → n 8 2 % 16 = 0 → 0 < n 8 2 →
      n 4 4 + n 8 2 ≤ regionLen g → p.length = 12 + 5 * n 8 2 → (∀ i < n 8 2, p.getD (12 + 5 * i) 0 < 16) → r.done < n 8 2 / 16 →
      r.first = 0xFFF →
      let a := regionBase g + n 4 4
      let words (i : Nat) : List Nat := (List.range 16).map (fun j => n (12 + 5 * (16 * i + j)) 5)
      let goes (i : Nat) (t : State) : Prop := t.link.run = some { r with done := i } ∧ t.flash.loadOp = some (a + 16 * i, words i)
      (s.flash.loadOp = none → (∀ i < n 8 2, 16 * r.done ≤ i → s.rd (a + i) = 0xFFFFFFFFF) → Ends (.loadProgram []) s (fun t =>
        goes r.done t ∧ SameMem s t)) ∧
      (s.flash.loadOp = none → s.rd (a + 16 * r.done) ≠ 0xFFFFFFFFF → Ends (.loadProgram []) s (fun t => Replied s t k r 2 r.done [] ∧
        SameMem s t)) ∧
      (s.flash.loadOp = some (a + 16 * r.done, words r.done) → (∀ i < n 8 2, 16 * (r.done + 1) ≤ i → s.rd (a + i) = 0xFFFFFFFFF) →
        Ends (.loadProgram []) s (fun t => (∀ j : Fin 16, t.rd (a + 16 * r.done + j) = (words r.done).getD j 0) ∧
          SameMemBut s t (a + 16 * r.done) 16 ∧
          if r.done + 1 < n 8 2 / 16 then goes (r.done + 1) t else Replied s t k r 0 0xFFF [] ∧ t.flash.loadOp = none))) ∧
    (r.cmd = 0x30 → s.boot.region ≠ some g → g < 4 → quiet →
      (sub = 3 → if (s.imageReason g true).isSome then
          Ends .loadVerify s (fun t => Replied s t k r 7 ((s.imageReason g true).getD 0) [] ∧ SameMem s t)
        else Ends .loadVerify s (fun t => t.link.run = none ∧ t.get SEC.STATUS.TOKEN = 1 ∧
            t.boot.token = some ⟨g, s.imageDig g, s.hdr g 2 0 7⟩))) ∧
    -- COMMIT; octet 1 asks for a warm start
    (r.cmd = 0x31 →
      (s.boot.token.map (fun x => x.region) = some sub → sub < 2 → Ends .commit s (fun t => Replied s t k r 0 0 [] ∧
        t.get SEC.BOOTCFG.PREF = sub ∧ t.boot.due = if g = 1 then some (true, 8) else s.boot.due)) ∧
      (s.boot.token = none → (if (s.imageReason sub true).isSome then
          Ends .commit s (fun t => Replied s t k r 7 ((s.imageReason sub true).getD 0) [] ∧
            t.get SEC.BOOTCFG.PREF = s.get SEC.BOOTCFG.PREF)
        else Ends .commit s (fun t => t.link.run = none ∧ t.get SEC.STATUS.TOKEN = 1)))) ∧
    -- the trim set
    (r.cmd = 0x38 →
      (st ≠ 2 → st ≠ 3 → Ends .trimExport s (fun t => Replied s t k r 8 0 [] ∧ SameMem s t)) ∧
      (st = 2 ∨ st = 3 → Ends .trimExport s (fun t => SameMem s t ∧ t.link.run = none ∧ ((t.slateOut.getLast?.map (fun o =>
        (o.payload.length, o.payload.getD 0 0))) = some (8 + 5 * 195, 0))) ∧
        ∀ d : List Nat, (storeGet 48 s).1 = some d → Ends .trimExport s (fun t => (t.slateOut.getLast?.map (fun o =>
          (o.payload.drop 8).take 75)) = some ((padTo 15 d).flatMap wordField)))) ∧
    (r.cmd = 0x39 →
      let recs := chunks 15 13 ((wordFields 195 p).getD [])
      (st ≠ 2 → Ends .trimImport s (fun t => Replied s t k r 8 0 [] ∧ SameMem s t)) ∧
      (st = 2 → s.trimFails (some recs) ≠ none → Ends .trimImport s (fun t => Replied s t k r 4 0 [] ∧ SameMem s t)) ∧
      (st = 2 → s.trimFails (some recs) = none →
        (s.recs.active = none → s.recs.ahead = [] → exec .trimImport s = .next s) ∧
        (∀ x : Nat, s.recs.active = some x → 688 > x → s.recs.point + 13 ≤ 64 → s.recs.index = [] → s.marks = [] →
          let a := secBase 3 x + 16 * s.recs.point
          Ends .trimImport s (fun t => Replied s t k r 0 0 [] ∧ t.get SAMP.STATUS.CALOK = 0 ∧ SameMemBut s t a 208 ∧
            (∀ i : Fin 12, ∀ j : Fin 15, t.rd (a + 16 * i + 1 + j) = (recs.getD (i + 1) []).getD j 0) ∧
            t.rd (a + 193) = (recs.headD []).headD 0 / 4 * 4 + 1)))))

/-- R323, R324, R370, R427, R430: RUSHES reads channels and triggers or rearms those of the host link; DAILIES answers with its
summary, log entries and counters; SLEEP answers first and then lets every island leave White. That a FROM which no entry has gives no
entry (log entry 87), and WRONG_STATE for a SLEEP whose state has been left since it was accepted (log entry 177), are the model's
choice. -/
def Obligations.SlateRushes : Prop :=
  ∀ (s : State) (r : SlateRun), s.link.run = some r → ∀ k : Fin 3, s.ServesIn k r → (∀ o ∈ r.payload, o < 256) →
    let p := r.payload
    let n (i w : Nat) : Nat := ofOctets ((p.drop i).take w)
    let sub := p.getD 0 0
    (r.cmd = 0x40 → ∀ c : Fin 32, p.getD 1 0 = c.val →
      (sub = 1 → s.island 27 = 0 → Ends .rushesStatus s (fun t => Replied s t k r 0 0
        ((List.range 12).flatMap (fun j => wordField (s.wordOf (RUSH.CTRL.adr c + j) (fields! (RUSH.CTRL.adr c + j))))) ∧
          SameMem s t)) ∧
      (sub = 2 → n 8 2 = 1 → s.marks = [] → s.otp.level = 0 →
        let a := s.get (RUSH.BASE.BASE c) + 2 * (n 4 4 % 2 ^ s.rushLog c)
        ddrBase ≤ a → a + 1 < ddrBase + 2 ^ 24 → s.get DDR.STATUS.STATE = 2 → 1 ≤ s.get DDR.STATUS.REGIONS → s.island 27 = 0 →
        s.get (SYS.CLM.OWNER 0x900) = 0x40 →
        Ends .rushesRead s (fun t => Replied s t k r 0 0 (wordField (s.rd a % 2 ^ 36) ++ wordField (s.rd (a + 1) % 2 ^ 36)) ∧
          SameMem s t)) ∧
      (sub = 3 → n 4 4 = 2 ^ c.val →
        (s.get (RUSH.CTRL.OWNER c) ≠ 0x40 → Ends .rushesTrigger s (fun t => Replied s t k r 0 0 [] ∧ t.rushes = s.rushes ∧
          t.get (RUSH.STATUS.STATE c) = s.get (RUSH.STATUS.STATE c))) ∧
        (s.get (RUSH.CTRL.OWNER c) = 0x40 → s.get (RUSH.STATUS.STATE c) = 2 → s.get (RUSH.POST.POST c) ≠ 0 →
          s.unsynced 27 = false → Ends .rushesTrigger s (fun t => Replied s t k r 0 0 [] ∧ t.get (RUSH.STATUS.STATE c) = 3 ∧
            t.get (RUSH.TSTAMP.TSTAMP c) = s.stamp ∧ t.get (RUSH.TIDX.TIDX c) = s.get (RUSH.WPTR.WPTR c)))) ∧
      (sub = 4 →
        (s.get (RUSH.CTRL.OWNER c) ≠ 0x40 → Ends .rushesRearm s (fun t => Replied s t k r 5 0 [] ∧ t.rushes = s.rushes)) ∧
        (s.get (RUSH.CTRL.OWNER c) = 0x40 → s.get (RUSH.STATUS.STATE c) = 4 → Ends .rushesRearm s (fun t =>
          Replied s t k r 0 0 [] ∧ t.get (RUSH.WPTR.WPTR c) = 0 ∧
            t.get (RUSH.STATUS.STATE c) = if s.get (RUSH.PRE.PRE c) = 0 then 2 else 1)))) ∧
    (r.cmd = 0x41 → ∀ m : Int × Int × Nat × Nat, s.gaf.marks = some m →
      let es := (s.ctu.order.dropWhile (fun i => s.get (CTU.LOG.W i 0) % 2 ^ 12 != n 0 2)).take (p.getD 2 0)
      let ks := if p.getD 3 0 % 2 = 1 then (List.range 256).filter (fun q => s.get (CTU.FCNT.COUNT q) != 0) else []
      Ends .dailies s (fun t => SameMem s t ∧ t.gaf.marks = (if p.getD 3 0 / 2 % 2 = 1 then none else some m) ∧
        Replied s t k r 0 0 (s.summary es.length ks.length ++
          es.flatMap (fun i => (List.range 4).flatMap (fun j => wordField (s.get (CTU.LOG.W i j)))) ++
          ks.flatMap (fun q => q :: octets 2 (s.get (CTU.FCNT.COUNT q)))) ∧
        ((t.slateOut.getLast?.map (fun o => (o.payload.drop 8).take 12)) = some (octets 8 s.t ++ octets 2 (s.get TC.STATUS.EPOCH) ++
          [s.get ETH.SLSTATE.STATE, s.get SEC.START.KIND * 16 + s.get SEC.START.CAUSE])))) ∧
    (r.cmd = 0x25 →
      let st := s.get ETH.SLSTATE.STATE
      (st ≠ 1 → st ≠ 2 → Ends .sleep s (fun t => Replied s t k r 1 0 [] ∧ t.power = s.power ∧ t.get ETH.SLSTATE.STATE = st)) ∧
      (st = 1 ∨ st = 2 → ∀ q : Fin 96, s.get (GP.CTRL.EN q) = 1 → (∀ j : Fin 96, j < q → s.get (GP.CTRL.EN j) = 0) →
        Ends .sleep s (fun t => Replied s t k r 1 q [] ∧ t.power = s.power)) ∧
      (st = 1 ∨ st = 2 → (∀ q : Fin 96, s.get (GP.CTRL.EN q) = 0) → Ends .sleep s (fun t => t.get ETH.SLSTATE.STATE = 7 ∧ t.link.run = none ∧
        t.get ETH.SLSTATE.PREV = s.get ETH.SLSTATE.STATE ∧ t.power.sleep = s.get GAF.SLEEPCFG.DEPTH + 1 ∧
        (∀ i : Fin 32, t.get (ISL.STAT.STATE i) = if s.get GAF.SLEEPCFG.DEPTH = 0 ∧ (i = 19 ∨ i = 30 ∨ i = 31)
          then s.get (ISL.STAT.STATE i) else s.get GAF.SLEEPCFG.DEPTH + 2) ∧
        (t.slateOut.any (fun o => o.session == r.session && o.cmd == 0x25 && (o.payload.getD 0 0 == 0)) = true))))

/-- R367, R409, R410, R411, R413, R431, R443: The MACs: what a running MAC accepts, answers and drops; datagrams in pieces; 802.1AS;
the link and MDIO. The new RATE of a Sync is a free value. That a frame which finds IS28 asleep asks for its wake and is not received
is the model's choice (log entry 115). So are which tagged and untagged frames are taken (log entry 88), a Sync that IS28 cannot stamp
(log entry 147), and the rows that do nothing (log entry 13); that a write of MDIO while GO is set takes its fields and starts nothing
is log entry 92. -/
def Obligations.MacLinks : Prop :=
  ∀ (s : State) (m : Fin 2),
    let rx := (MAC.RXCNT.COUNT m, (s.get (MAC.RXCNT.COUNT m) + 1) % 2 ^ 36)
    let drop := (MAC.DROPCNT.COUNT m, (s.get (MAC.DROPCNT.COUNT m) + 1) % 2 ^ 36)
    let runs : Prop := s.get (MAC.CTRL.EN m) = 1 ∧ s.get (MAC.STATUS.SYNC m) = 1 ∧ s.get (MAC.STATUS.LINK m) = 1 ∧
      s.get (MAC.STATUS.SPEEDERR m) = 0
    let out (o : LinkOut) : State → State := fun u => u.setLink { u.link with outs := u.link.outs ++ [o] }
    (s.island 28 = 0 → ¬ runs → exec (.macFrameReceive m none false .other) s = .next s) ∧
    -- R367: while IS28 sleeps, a frame asks for its wake and is not received (the model's choice, log entry 115)
    (2 ≤ s.island 28 → runs → Ends (.macFrameReceive m none false .other) s (fun t => t.link = s.link ∧ t.get rx.1 = s.get rx.1 ∧
      t.get drop.1 = s.get drop.1 ∧ (s.gaf.waking.any (fun w => w.1 == 28) = true ∨ ∃ q ∈ t.gafQueue, q.source = 28))) ∧
    (∀ (src : BitVec 128) (port : BitVec 16) (f : List (BitVec 8)), 2 ≤ s.island 28 → s.carries 1 = true →
      Ends (.slateFrame 1 src port f) s (fun t => SameMem s t ∧ t.link = s.link ∧ t.slateOut = s.slateOut ∧
        (s.gaf.waking.any (fun w => w.1 == 28) = true ∨ ∃ q ∈ t.gafQueue, q.source = 28))) ∧
    (s.island 28 = 0 → runs → s.get (MAC.CTRL.MACSEC m) = 0 → s.get (MAC.CTRL.VLANEN m) = 0 →
      Writes (.macFrameReceive m none false .other) s [drop] id ∧
      Writes (.macFrameReceive m none true .other) s [drop] id ∧
      (∀ a : BitVec 32,
        (s.get (MAC.CTRL.IP4EN m) = 1 → a.toNat = s.get (MAC.IP4.ADDR m) →
          Writes (.macFrameReceive m none false (.arp a)) s [rx] (out (.arp m (s.vlanTag m) a.toNat))) ∧
        (s.get (MAC.CTRL.IP4EN m) = 0 ∨ a.toNat ≠ s.get (MAC.IP4.ADDR m) →
          Writes (.macFrameReceive m none false (.arp a)) s [drop] id)) ∧
      (∀ (a src : BitVec 128) (d : List (BitVec 8)), s.get (MAC.CTRL.IP6EN m) = 1 → a.toNat = s.linkLocal m →
        Writes (.macFrameReceive m none false (.nd a)) s [rx] (out (.nd m (s.vlanTag m) a.toNat)) ∧
        Writes (.macFrameReceive m none false (.echo true src a d)) s [rx] (out (.echo m (s.vlanTag m) src.toNat (d.map BitVec.toNat)))) ∧
      (∀ (a src : BitVec 128) (ident : BitVec 32) (d : List (BitVec 8)), s.get (MAC.CTRL.IP4EN m) = 1 →
        a.toNat = s.get (MAC.IP4.ADDR m) → s.link.frags = [] →
        -- a whole datagram to another port; the first piece of a datagram
        (ofOctets (((d.map BitVec.toNat).drop 2).take 2) ≠ s.get (MAC.PORT.PORT m) →
          Writes (.macFrameReceive m none false (.udp false src a ident 0 false d)) s [drop] id) ∧
        (d.length ≤ 9028 → Writes (.macFrameReceive m none false (.udp false src a ident 0 true d)) s [rx] (fun u =>
          u.setLink { u.link with frags := [⟨m, false, src.toNat, a.toNat, ident.toNat, [(0, d.map BitVec.toNat)], none, s.t⟩] })))) ∧
    -- R411: an incomplete datagram is discarded after 100 ms
    (s.link.frags = [] → exec .reassemblyTimeout s = .next s) ∧
    (∀ (x : Frag) (rest : List Frag), s.link.frags = x :: rest →
      WritesFrom (s.advanceTo (x.at_ + 150000000)) .reassemblyTimeout s [] (fun u => u.setLink { u.link with frags := rest })) ∧
    -- R413
    (∀ g : BitVec 64, s.island 28 = 0 → (runs → s.get (MAC.CTRL.PTP m) = 1 → (m = 0 ∨ s.get (MAC.CTRL.PTP 0) = 0) →
        -- R20: without a sync word IS28 stamps nothing
        s.unsynced 28 = true → Ends (.ptpSync m g) s (fun t => t.get (MAC.PTPSTAT.LOCK m) = 1 ∧ t.get rx.1 = rx.2 ∧ SameMem s t ∧
          t.get (MAC.OFSH.OFS m) = s.get (MAC.OFSH.OFS m) ∧ t.get (MAC.OFSL.OFS m) = s.get (MAC.OFSL.OFS m) ∧
          t.get (MAC.RATE.RATE m) = s.get (MAC.RATE.RATE m))) ∧
      (runs → s.get (MAC.CTRL.PTP m) = 1 → (m = 0 ∨ s.get (MAC.CTRL.PTP 0) = 0) → s.unsynced 28 = false →
        Ends (.ptpSync m g) s (fun t => t.get (MAC.PTPSTAT.LOCK m) = 1 ∧ t.get rx.1 = rx.2 ∧ SameMem s t ∧ t.t = s.t ∧
          (t.get (MAC.OFSH.OFS m) * 2 ^ 36 + t.get (MAC.OFSL.OFS m) + s.t * t.get (MAC.RATE.RATE m) / 2 ^ 32) % 2 ^ 64 = g.toNat ∧
          (m.val, s.t) ∈ t.link.syncs)) ∧
      ((¬ runs ∨ s.get (MAC.CTRL.PTP m) = 0) → exec (.ptpSync m g) s = .next s)) ∧
    (s.get (MAC.PTPSTAT.LOCK m) = 0 → exec (.ptpLost m) s = .next s) ∧
    (s.get (MAC.PTPSTAT.LOCK m) = 1 → ∀ l : Nat, s.link.syncs = [(m.val, l)] →
      WritesFrom (s.advanceTo (l + 4500000000)) (.ptpLost m) s [(MAC.PTPSTAT.LOCK m, 0)]
        (fun u => u.setReports (u.reports ++ [⟨.ptpLost, 0xA00 + m, 0, false⟩]))) ∧
    -- the link
    (s.get (MAC.CTRL.EN m) = 0 → ∀ b : Bool, exec (.linkUp m b) s = .next s ∧ exec (.linkDown m b) s = .next s) ∧
    (s.get (MAC.CTRL.EN m) = 1 → ∀ b : Bool,
      Writes (.linkUp m b) s [(MAC.STATUS.SYNC m, 1), (MAC.STATUS.LINK m, 1), (MAC.STATUS.SPEEDERR m, if b then 0 else 1)] id ∧
      Writes (.linkDown m b) s [(MAC.STATUS.SYNC m, if b then 1 else 0), (MAC.STATUS.LINK m, 0), (MAC.STATUS.LINKDN m, 1)]
        (fun u => u.setReports (u.reports ++ [⟨.linkDown, 0xA00 + m, 0, false⟩]))) ∧
    -- MDIO: GO reads 1 until the access ends; a read leaves its data
    (∀ (a : Owner) (v : Word), s.Settled a → s.island 28 = 0 →
      let f := v.toNat
      -- R4: a write meanwhile starts no access, and its fields take what is written
      (s.get (MAC.MDIO.GO m) = 1 → Writes (.mdioAccess a m v) s [(MAC.MDIO.GO m, 1), (MAC.MDIO.WR m, f / 2 ^ 34 % 2),
        (MAC.MDIO.PHYAD m, f / 2 ^ 26 % 32), (MAC.MDIO.REGAD m, f / 2 ^ 21 % 32), (MAC.MDIO.DATA m, f % 2 ^ 16)]
        (fun u => u.setBus ⟨a.toNat, .ok, 0, 0⟩)) ∧
      (s.get (MAC.MDIO.GO m) = 0 → Writes (.mdioAccess a m v) s [(MAC.MDIO.GO m, 1), (MAC.MDIO.WR m, f / 2 ^ 34 % 2),
        (MAC.MDIO.PHYAD m, f / 2 ^ 26 % 32), (MAC.MDIO.REGAD m, f / 2 ^ 21 % 32), (MAC.MDIO.DATA m, f % 2 ^ 16)] (fun u =>
          (u.setLink { u.link with
            mdio := (m.val, decide (f / 2 ^ 34 % 2 = 1), f / 2 ^ 26 % 32, f / 2 ^ 21 % 32, f % 2 ^ 16) :: u.link.mdio }).setBus
              ⟨a.toNat, .ok, 0, 0⟩))) ∧
    (∀ d : BitVec 16, (s.link.mdio = [] → exec (.mdioAccessDone m d) s = .next s) ∧
      ∀ x : Nat × Bool × Nat × Nat × Nat, s.link.mdio = [x] → x.1 = m.val → Writes (.mdioAccessDone m d) s
        (if x.2.1 = true then [(MAC.MDIO.GO m, 0)] else [(MAC.MDIO.GO m, 0), (MAC.MDIO.DATA m, d.toNat)])
        (fun u => u.setLink { u.link with mdio := [] }))

/-- R55, R183, R412, R431, R432: The CAN controllers: segments of a Slate frame, the rings, bus-off, and the enable with its checks.
That MODE takes its own and the older formats, and that an entry in another format is passed over (log entry 148), and the rows that
do nothing (log entry 13), are the model's choice. So are the place that a ring keeps free (log entry 91), segments out of order (log
entry 88), and the counters after bus-off (log entry 89, from the CAN standard). -/
def Obligations.CanLinks : Prop :=
  ∀ (s : State) (n : Fin 4),
    let bad := (ETH.SLCNT.BADFRAME, min (s.get ETH.SLCNT.BADFRAME + 1) (2 ^ ETH.SLCNT.BADFRAME.w - 1))
    let parts (l : List (Nat × Part)) : State → State := fun u => u.setLink { u.link with parts := l }
    (∀ (id : BitVec 11) (sdt vcid : BitVec 8) (af : BitVec 32) (d : List (BitVec 8)), s.island 28 = 0 →
      let ftag := af.toNat / 256 % 256
      let idx := af.toNat % 256
      let last : Prop := af.toNat / 2 ^ 16 % 2 = 1
      let data := d.map BitVec.toNat
      let to_ : Prop := s.carries (3 + n) = true ∧ id.toNat = s.get (CAN.IDS.HOSTID n) ∧ sdt.toNat = s.get (CAN.XLH.SDT n) ∧
        vcid.toNat = s.get (CAN.XLH.VCID n)
      (¬ to_ → exec (.canSegment n id sdt vcid af d) s = .next s) ∧
      (to_ → ¬ last →
        (s.link.parts = [] → idx = 0 → Writes (.canSegment n id sdt vcid af d) s [] (parts [(n.val, ⟨ftag, 1, data, s.t⟩)])) ∧
        (∀ p : Part, s.link.parts = [(n.val, p)] → s.t ≤ p.at_ + 15000000 →
          (p.next = idx → p.ftag = ftag → Writes (.canSegment n id sdt vcid af d) s []
            (parts [(n.val, ⟨ftag, idx + 1, p.octs ++ data, s.t⟩)])) ∧
          (p.next ≠ idx ∨ p.ftag ≠ ftag → idx ≠ 0 → Writes (.canSegment n id sdt vcid af d) s [bad] (parts [])))) ∧
      (to_ → last → s.link.parts = [] → idx = 0 → frameSound true data = false → data.getD 11 0 / 2 % 2 = 0 →
        s.get ETH.SLSTATE.STATE = 1 → Writes (.canSegment n id sdt vcid af d) s [bad] (parts []))) ∧
    (s.link.parts = [] → exec (.canSegmentTimeout n) s = .next s) ∧
    (∀ p : Part, s.link.parts = [(n.val, p)] → s.get SEC.WDSTAT.REM = 0 →
      WritesFrom (s.advanceTo (p.at_ + 15000000)) (.canSegmentTimeout n) s [bad] (parts [])) ∧
    -- R431
    (s.get (CAN.CTRL.EN n) = 0 → exec (.canBusoff n) s = .next s) ∧
    (s.get (CAN.CTRL.EN n) = 1 → s.get (CAN.STATUS.BUSOFF n) = 0 → Ends (.canBusoff n) s (fun t =>
      t.get (CAN.STATUS.BUSOFF n) = 1 ∧ t.get (CAN.CTRL.EN n) = 1 ∧ t.link = s.link ∧ SameMem s t ∧
        t.reports = s.reports ++ [⟨.canBusoff, 0xA10 + n, 0, false⟩])) ∧
    (s.get (CAN.STATUS.BUSOFF n) = 0 → exec (.busOffRecovery n) s = .next s) ∧
    (s.get (CAN.STATUS.BUSOFF n) = 1 → Writes (.busOffRecovery n) s [(CAN.STATUS.BUSOFF n, 0), (CAN.STATUS.ERRP n, 0),
      (CAN.STATUS.TEC n, 0), (CAN.STATUS.REC n, 0)] id) ∧
    -- R432: the enable; OWNER of a controller with SLATE is the host link
    (∀ (a : Owner) (v : Word), s.Settled a → a ≠ 0 → s.island 28 = 0 → v.toNat % 2 = 1 →
      let own := s.get (CAN.CTRL.OWNER n)
      let set := [(CAN.CTRL.MODE n, v.toNat / 2 ^ 26 % 4), (CAN.CTRL.SLATE n, v.toNat / 2 ^ 25 % 2)]
      let ok : State → State := fun u => u.setBus ⟨a.toNat, .ok, 0, 0⟩
      (own ≠ 0 → own ≠ a.toNat → Writes (.canEnable a n v) s [] (fun u => u.setBus ⟨a.toNat, .busOwn, 0, 0⟩)) ∧
      (own = 0 → s.get (CAN.CTRL.EN n) = 0 →
        (v.toNat / 2 ^ 25 % 2 = 1 → a.toNat ≠ 0x40 → Writes (.canEnable a n v) s (set ++ [(CAN.STATUS.CFGERR n, 1)]) ok) ∧
        (v.toNat / 2 ^ 25 % 2 = 0 → s.ringsOk n a.toNat = false →
          Writes (.canEnable a n v) s (set ++ [(CAN.STATUS.CFGERR n, 1)]) ok) ∧
        ((v.toNat / 2 ^ 25 % 2 = 1 ∧ a.toNat = 0x40) ∨ (v.toNat / 2 ^ 25 % 2 = 0 ∧ s.ringsOk n a.toNat = true) →
          s.get (SYS.CLM.OWNER (0x820 + n)) = 0 → Writes (.canEnable a n v) s (set ++ [(CAN.STATUS.CFGERR n, 0),
            (CAN.CTRL.EN n, 1), (CAN.CTRL.OWNER n, a.toNat), (SYS.CLM.OWNER (0x820 + n), a.toNat),
            (SYS.CLM.FEATURE (0x820 + n), 0x410 + n), (SYS.FST.STATE (0x410 + n), 1), (SYS.FST.CRES (0x410 + n), 0),
            (SYS.FST.HOLDER (0x410 + n), 0)]) ok) ∧
        -- a claim that conflicts
        ((v.toNat / 2 ^ 25 % 2 = 1 ∧ a.toNat = 0x40) ∨ (v.toNat / 2 ^ 25 % 2 = 0 ∧ s.ringsOk n a.toNat = true) →
          s.get (SYS.CLM.OWNER (0x820 + n)) ≠ 0 → s.get (SYS.CLM.FEATURE (0x820 + n)) ≠ 0x410 + n → Ends (.canEnable a n v) s (fun t => t.get (CAN.STATUS.CFGERR n) = 1 ∧
            t.get (CAN.CTRL.EN n) = 0 ∧ t.get (SYS.FST.STATE (0x410 + n)) = 2 ∧ t.bus = ⟨a.toNat, .ok, 0, 0⟩)))) ∧
    -- R432: the rings
    (s.get (CAN.CTRL.EN n) = 1 → s.get (CAN.CTRL.SLATE n) = 0 → s.get (CAN.STATUS.BUSOFF n) = 0 →
      (∀ b : Fin 68, s.get (BANKS.STATUS.RED b) = 0) → s.marks = [] →
      (∀ (fmt : Fin 3) (ide : Bool) (id : BitVec 29) (sec : Bool) (sdt vcid : BitVec 8) (af : BitVec 32) (d : List (BitVec 8)),
        let base := s.get (CAN.RXBASE.BASE n)
        let size := s.get (CAN.RXSIZE.SIZE n)
        let w := s.get (CAN.RXW.PTR n)
        let len := (5 + (d.length + 3) / 4 + 3) / 4 * 4
        -- R432: a format that MODE does not take is not received
        (s.island 28 = 0 → s.canMode n < fmt.val → exec (.canReceive n fmt ide id sec sdt vcid af d) s = .next s) ∧
        (d.length < 2049 → s.ringOk base size 0x12 = true → s.island 28 = 0 → fmt.val ≤ s.canMode n → s.unsynced 28 = false →
        (w < s.get (CAN.RXR.PTR n) → s.get (CAN.RXR.PTR n) ≤ w + len → Writes (.canReceive n fmt ide id sec sdt vcid af d) s
          [(CAN.STATUS.RXOVR n, 1)] (fun u => u)) ∧
        (s.get (CAN.RXR.PTR n) ≤ w → w + len < size → Ends (.canReceive n fmt ide id sec sdt vcid af d) s (fun t =>
          t.get (CAN.RXW.PTR n) = w + len ∧ SameMemBut s t (base + w) (5 + (d.length + 3) / 4) ∧
          t.rd (base + w) = fmt.val * 2 ^ 12 + d.length ∧ t.rd (base + w + 1) = (if ide then 2 ^ 29 else 0) + id.toNat ∧
          t.rd (base + w + 2) = (if sec then 2 ^ 16 else 0) + sdt.toNat * 256 + vcid.toNat ∧ t.rd (base + w + 3) = af.toNat ∧
          t.rd (base + w + 4) = s.stamp ∧ t.rds (base + w + 5) ((d.length + 3) / 4) = packed (d.map BitVec.toNat))))) ∧
      (s.get (CAN.TXR.PTR n) = s.get (CAN.TXW.PTR n) → exec (.canTransmit n) s = .next s) ∧
      (let a := s.get (CAN.TXBASE.BASE n) + s.get (CAN.TXR.PTR n)
       let len := s.rd a % 2 ^ 12
       let words := (5 + (len + 3) / 4 + 3) / 4 * 4
       s.get (CAN.TXR.PTR n) + words < s.get (CAN.TXSIZE.SIZE n) → s.get (CAN.TXR.PTR n) ≠ s.get (CAN.TXW.PTR n) → len ≤ 2048 →
        s.ringOk (s.get (CAN.TXBASE.BASE n)) (s.get (CAN.TXSIZE.SIZE n)) 0x12 = true →
        (s.canMode n < s.rd a / 2 ^ 12 % 4 → Writes (.canTransmit n) s [(CAN.TXR.PTR n, s.get (CAN.TXR.PTR n) + words)] id) ∧
        (s.rd a / 2 ^ 12 % 4 ≤ s.canMode n →
        Writes (.canTransmit n) s [(CAN.TXR.PTR n, s.get (CAN.TXR.PTR n) + words)] (fun u => u.setLink { u.link with
          outs := u.link.outs ++ [.can n (s.rd a) (s.rd (a + 1)) (s.rd (a + 2)) (s.rd (a + 3))
            ((unpackOctets (s.rds (a + 5) ((len + 3) / 4))).take len)] }))))

/-- R55, R433: SPI and UART: what a full or empty FIFO does, what is sent and received, and the enable with its claim. A character
with an error kept with its flags and one lost on a full FIFO (log entry 92), and the rows that do nothing (log entry 13), are the
model's choice. -/
def Obligations.SerialLinks : Prop :=
  ∀ s : State,
    let show_ (adr : Nat) (en : Nat) (tx rx : List Nat) : List (FRef × Nat) := [(⟨adr + 4, 12, 4⟩, min tx.length 15),
      (⟨adr + 4, 8, 4⟩, min rx.length 15), (⟨adr + 4, 0, 1⟩, if en = 1 ∧ tx ≠ [] then 1 else 0)]
    let ok (a : Owner) (v : Nat) : State → State := fun u => u.setBus ⟨a.toNat, .ok, 0, v⟩
    let fifo (k : Nat) (tx rx : List Nat) : State → State := fun u => u.putSerial k ⟨tx, rx⟩
    -- writes of TX by the owner and by others
    (∀ (a : Owner) (v : Word) (n : Fin 8), s.Settled a → a ≠ 0 → s.island 28 = 0 →
      let x := s.serial n
      let adr := (SPI.CTRL.EN n).adr
      (s.get (SPI.CTRL.OWNER n) ≠ a.toNat → s.get (SPI.CTRL.OWNER n) ≠ 0 →
        Writes (.spiTx a n v) s [] (fun u => u.setBus ⟨a.toNat, .busOwn, 0, 0⟩)) ∧
      (s.get (SPI.CTRL.OWNER n) = a.toNat →
        (8 ≤ x.tx.length → Writes (.spiTx a n v) s [(SPI.STATUS.TXOVR n, 1)] (ok a 0)) ∧
        (x.tx.length < 8 → Writes (.spiTx a n v) s (show_ adr (s.get (SPI.CTRL.EN n)) (x.tx ++ [v.toNat]) x.rx)
          (fun u => ok a 0 (fifo n (x.tx ++ [v.toNat]) x.rx u))))) ∧
    (∀ (a : Owner) (v : Word) (n : Fin 2), s.Settled a → a ≠ 0 → s.island 28 = 0 →
      let x := s.serial (8 + n)
      let adr := (UART.CTRL.EN n).adr
      s.get (UART.CTRL.OWNER n) = a.toNat →
        (16 ≤ x.tx.length → Writes (.uartTx a n v) s [(UART.STATUS.TXOVR n, 1)] (ok a 0)) ∧
        (x.tx.length < 16 → Writes (.uartTx a n v) s (show_ adr (s.get (UART.CTRL.EN n)) (x.tx ++ [v.toNat % 512]) x.rx)
          (fun u => ok a 0 (fifo (8 + n) (x.tx ++ [v.toNat % 512]) x.rx u)))) ∧
    -- a word of an SPI leaves, and another comes in; RX loses it when full
    (∀ (n : Fin 8) (v : Word),
      let x := s.serial n
      let adr := (SPI.CTRL.EN n).adr
      (s.get (SPI.CTRL.EN n) = 0 ∨ x.tx = [] → exec (.spiWordDone n v) s = .next s) ∧
      (s.get (SPI.CTRL.EN n) = 1 → ∀ (o : Nat) (rest : List Nat), x.tx = o :: rest →
        let out : State → State := fun u => u.setLink { u.link with outs := u.link.outs ++ [.word n (o % 2 ^ s.serialWidth n)] }
        (x.rx.length < 8 → Writes (.spiWordDone n v) s (show_ adr 1 rest (x.rx ++ [v.toNat % 2 ^ s.serialWidth n]))
          (fun u => fifo n rest (x.rx ++ [v.toNat % 2 ^ s.serialWidth n]) (out u))) ∧
        (8 ≤ x.rx.length → Writes (.spiWordDone n v) s (show_ adr 1 rest x.rx ++ [(SPI.STATUS.RXOVR n, 1)])
          (fun u => fifo n rest x.rx (out u))))) ∧
    (∀ n : Fin 2,
      let x := s.serial (8 + n)
      let adr := (UART.CTRL.EN n).adr
      (s.get (UART.CTRL.EN n) = 0 → exec (.uartCharacterSent n) s = .next s ∧ ∀ v : BitVec 9, s.island 28 = 0 →
        exec (.uartReceive n v true true) s = .next s) ∧
      (s.get (UART.CTRL.EN n) = 1 →
        (∀ (o : Nat) (rest : List Nat), x.tx = o :: rest → Writes (.uartCharacterSent n) s (show_ adr 1 rest x.rx)
          (fun u => fifo (8 + n) rest x.rx (u.setLink { u.link with
            outs := u.link.outs ++ [.word (8 + n) (o % 2 ^ s.serialWidth (8 + n))] }))) ∧
        (∀ v : BitVec 9, ∀ pe fe : Bool, s.island 28 = 0 → x.rx.length < 16 → Writes (.uartReceive n v pe fe) s
          (show_ adr 1 x.tx (x.rx ++ [v.toNat % 2 ^ s.serialWidth (8 + n)]) ++
            [(UART.STATUS.PE n, if pe then 1 else s.get (UART.STATUS.PE n)), (UART.STATUS.FE n, if fe then 1 else s.get
              (UART.STATUS.FE n))])
          (fifo (8 + n) x.tx (x.rx ++ [v.toNat % 2 ^ s.serialWidth (8 + n)]))) ∧
        (∀ v : BitVec 9, s.island 28 = 0 → 16 ≤ x.rx.length → Writes (.uartReceive n v false false) s [(UART.STATUS.RXOVR n, 1)] id))) ∧
    -- a read of RX removes the oldest word, or returns 0 and sets RXUNF
    (∀ (a : Owner) (k : Fin 10), s.Settled a → s.island 28 = 0 →
      let x := s.serial k
      (x.rx = [] → Writes (.serialRxRead a k) s [(serialFlag k 2, 1)] (ok a 0)) ∧
      (∀ (o : Nat) (rest : List Nat), x.rx = o :: rest → Writes (.serialRxRead a k) s
        (show_ (serialCtrl k) (s.get (serialEn k)) x.tx rest) (fun u => ok a o (fifo k x.tx rest u)))) ∧
    -- the enable claims the unit's resource
    (∀ (a : Owner) (v : Word) (n : Fin 8), s.Settled a → a ≠ 0 → s.island 28 = 0 → s.get (SPI.CTRL.EN n) = 0 → s.get (SPI.CTRL.OWNER n) = 0 →
      v.toNat % 2 = 1 →
      let x := s.serial n
      let set := [(SPI.CTRL.WIDTH n, v.toNat / 2 ^ 22 % 64), (SPI.CTRL.LSBF n, v.toNat / 2 ^ 21 % 2),
        (SPI.CTRL.CPHA n, v.toNat / 2 ^ 20 % 2), (SPI.CTRL.CPOL n, v.toNat / 2 ^ 19 % 2), (SPI.CTRL.CSHOLD n, v.toNat / 2 ^ 18 % 2)]
      (s.get (SYS.CLM.OWNER (0x800 + n.val)) = 0 → Writes (.serialEnable a (n.castLE (by omega)) v) s (set ++ [(SPI.CTRL.EN n, 1),
        (SPI.CTRL.OWNER n, a.toNat), (SYS.CLM.OWNER (0x800 + n.val), a.toNat), (SYS.CLM.FEATURE (0x800 + n.val), 0x420 + n.val),
        (SYS.FST.STATE (0x420 + n.val), 1), (SYS.FST.CRES (0x420 + n.val), 0), (SYS.FST.HOLDER (0x420 + n.val), 0)] ++
        show_ (SPI.CTRL.EN n).adr 1 x.tx x.rx) (ok a 0)) ∧
      (s.get (SYS.CLM.OWNER (0x800 + n.val)) ≠ 0 → s.get (SYS.CLM.FEATURE (0x800 + n.val)) ≠ 0x420 + n.val →
        Writes (.serialEnable a (n.castLE (by omega)) v) s (set ++ [(SYS.FST.STATE (0x420 + n.val), 2), (SYS.FST.CRES (0x420 + n.val),
          0x800 + n.val), (SYS.FST.HOLDER (0x420 + n.val), s.get (SYS.CLM.FEATURE (0x800 + n.val)))] ++
          show_ (SPI.CTRL.EN n).adr 0 x.tx x.rx) (ok a 0))) ∧
    (∀ (a : Owner) (v : Word) (n : Fin 2), s.Settled a → a ≠ 0 → s.island 28 = 0 →
      let x := s.serial (8 + n)
      let set := [(UART.CTRL.BITS n, v.toNat / 2 ^ 26 % 4), (UART.CTRL.PARITY n, v.toNat / 2 ^ 24 % 4),
        (UART.CTRL.STOP2 n, v.toNat / 2 ^ 23 % 2)]
      let claim (st own f : Nat) : List (FRef × Nat) := [(UART.CTRL.EN n, st), (UART.CTRL.OWNER n, own),
        (SYS.CLM.OWNER (0x810 + n.val), own), (SYS.CLM.FEATURE (0x810 + n.val), f), (SYS.FST.STATE (0x430 + n.val), st),
        (SYS.FST.CRES (0x430 + n.val), 0), (SYS.FST.HOLDER (0x430 + n.val), 0)]
      (s.get (UART.CTRL.EN n) = 0 → s.get (UART.CTRL.OWNER n) = 0 → v.toNat % 2 = 1 → s.get (SYS.CLM.OWNER (0x810 + n.val)) = 0 →
        Writes (.serialEnable a ((Fin.natAdd 8 n).cast (by omega)) v) s (set ++ claim 1 a.toNat (0x430 + n.val) ++
          show_ (UART.CTRL.EN n).adr 1 x.tx x.rx) (ok a 0)) ∧
      (s.get (UART.CTRL.EN n) = 1 → s.get (UART.CTRL.OWNER n) = a.toNat → v.toNat % 2 = 0 →
        s.get (SYS.CLM.OWNER (0x810 + n.val)) = a.toNat → s.get (SYS.CLM.FEATURE (0x810 + n.val)) = 0x430 + n.val →
        Writes (.serialEnable a ((Fin.natAdd 8 n).cast (by omega)) v) s (set ++ claim 0 0 0 ++
          show_ (UART.CTRL.EN n).adr 0 x.tx x.rx) (ok a 0)))
end

