-- ==== Sys2Proof/Laws/Tab.lean ====
section
/-! SUPPORT. Read-after-write laws of the sparse tables, and that every write keeps the canonical form. -/

namespace Sys2Proof.Machine

theorem Tab.get_ins_same {α : Type} (d : Nat → α) (m : List (Nat × α)) (k : Nat) (v : α) :
    Tab.get d (Tab.ins m k v) k = v := by
  induction m with
  | nil => simp [Tab.ins, Tab.get]
  | cons e t ih =>
    obtain ⟨j, w⟩ := e
    by_cases h1 : k < j
    · simp [Tab.ins, Tab.get, h1]
    · by_cases h2 : k = j
      · simp [Tab.ins, Tab.get, h2]
      · simp [Tab.ins, Tab.get, h1, h2, Ne.symm h2, ih]

theorem Tab.get_ins_ne {α : Type} (d : Nat → α) (m : List (Nat × α)) {k q : Nat} (v : α) (h : k ≠ q) :
    Tab.get d (Tab.ins m k v) q = Tab.get d m q := by
  induction m with
  | nil => simp [Tab.ins, Tab.get, h]
  | cons e t ih =>
    obtain ⟨j, w⟩ := e
    by_cases h1 : k < j
    · simp [Tab.ins, Tab.get, h1, h]
    · by_cases h2 : k = j
      · subst h2; simp [Tab.ins, Tab.get, h]
      · simp [Tab.ins, Tab.get, h1, h2, ih]

theorem Tab.get_erase_same {α : Type} (d : Nat → α) (m : List (Nat × α)) (k : Nat) :
    Tab.get d (Tab.erase m k) k = d k := by
  induction m with
  | nil => simp [Tab.erase, Tab.get]
  | cons e t ih =>
    obtain ⟨j, w⟩ := e
    simp only [Tab.erase] at ih ⊢
    by_cases h : j = k
    · simp [List.filter, h, ih]
    · have hb : (j != k) = true := by simp [h]
      simp [List.filter, hb, Tab.get, h, ih]

theorem Tab.get_erase_ne {α : Type} (d : Nat → α) (m : List (Nat × α)) {k q : Nat} (h : k ≠ q) :
    Tab.get d (Tab.erase m k) q = Tab.get d m q := by
  induction m with
  | nil => simp [Tab.erase, Tab.get]
  | cons e t ih =>
    obtain ⟨j, w⟩ := e
    simp only [Tab.erase] at ih ⊢
    by_cases hj : j = k
    · have : j ≠ q := fun hq => h (hj ▸ hq)
      simp [List.filter, hj, Tab.get, h, ih]
    · have hb : (j != k) = true := by simp [hj]
      simp [List.filter, hb, Tab.get, ih]

@[simp] theorem Tab.get_set_same {α : Type} [DecidableEq α] (d : Nat → α) (m : List (Nat × α)) (k : Nat) (v : α) :
    Tab.get d (Tab.set d m k v) k = v := by
  unfold Tab.set
  split
  · rename_i h; rw [Tab.get_erase_same, h]
  · exact Tab.get_ins_same d m k v

theorem Tab.get_set_ne {α : Type} [DecidableEq α] (d : Nat → α) (m : List (Nat × α)) {k q : Nat} (v : α)
    (h : k ≠ q) : Tab.get d (Tab.set d m k v) q = Tab.get d m q := by
  unfold Tab.set
  split
  · exact Tab.get_erase_ne d m h
  · exact Tab.get_ins_ne d m v h

theorem Tab.rising_mono {α : Type} {a b : Nat} (m : List (Nat × α)) (hab : a ≤ b) (h : Tab.rising b m = true) :
    Tab.rising a m = true := by
  cases m with
  | nil => rfl
  | cons e t =>
    obtain ⟨j, w⟩ := e
    simp only [Tab.rising, Bool.and_eq_true, decide_eq_true_eq] at h ⊢
    exact ⟨Nat.le_trans hab h.1, h.2⟩

theorem Tab.rising_erase {α : Type} (m : List (Nat × α)) (k a : Nat) (h : Tab.rising a m = true) :
    Tab.rising a (Tab.erase m k) = true := by
  induction m generalizing a with
  | nil => simp [Tab.erase, Tab.rising]
  | cons e t ih =>
    obtain ⟨j, w⟩ := e
    simp only [Tab.rising, Bool.and_eq_true, decide_eq_true_eq] at h
    have ih' := ih (j + 1) h.2
    simp only [Tab.erase] at ih' ⊢
    by_cases hj : j = k
    · have hb : (j != k) = false := by simp [hj]
      simp only [List.filter, hb]
      exact Tab.rising_mono _ (Nat.le_succ_of_le h.1) ih'
    · have hb : (j != k) = true := by simp [hj]
      simp only [List.filter, hb, Tab.rising, Bool.and_eq_true, decide_eq_true_eq]
      exact ⟨h.1, ih'⟩

theorem Tab.rising_ins {α : Type} (m : List (Nat × α)) (k a : Nat) (v : α) (hk : a ≤ k)
    (h : Tab.rising a m = true) : Tab.rising a (Tab.ins m k v) = true := by
  induction m generalizing a with
  | nil => simp [Tab.ins, Tab.rising, hk]
  | cons e t ih =>
    obtain ⟨j, w⟩ := e
    simp only [Tab.rising, Bool.and_eq_true, decide_eq_true_eq] at h
    by_cases h1 : k < j
    · simp only [Tab.ins, h1, if_true, Tab.rising, Bool.and_eq_true, decide_eq_true_eq]
      exact ⟨hk, h1, h.2⟩
    · by_cases h2 : k = j
      · subst h2
        simp only [Tab.ins, Nat.lt_irrefl, if_false, if_true, Tab.rising, Bool.and_eq_true, decide_eq_true_eq]
        exact ⟨hk, h.2⟩
      · simp only [Tab.ins, h1, h2, if_false, Tab.rising, Bool.and_eq_true, decide_eq_true_eq]
        exact ⟨h.1, ih (j + 1) (by omega) h.2⟩

theorem Tab.mem_ins {α : Type} (m : List (Nat × α)) (k : Nat) (v : α) (e : Nat × α) (h : e ∈ Tab.ins m k v) :
    e = (k, v) ∨ e ∈ m := by
  induction m with
  | nil => simp [Tab.ins] at h; exact Or.inl h
  | cons f t ih =>
    obtain ⟨j, w⟩ := f
    by_cases h1 : k < j
    · simp [Tab.ins, h1] at h
      rcases h with h | h | h <;> simp [h]
    · by_cases h2 : k = j
      · simp [Tab.ins, h2] at h
        rcases h with h | h
        · left; rw [h, h2]
        · right; simp [h]
      · simp [Tab.ins, h1, h2] at h
        rcases h with h | h
        · right; simp [h]
        · rcases ih h with h' | h'
          · exact Or.inl h'
          · right; simp [h']

/-- A write keeps the canonical form. -/
theorem Tab.wf_set {α : Type} [DecidableEq α] (d : Nat → α) (m : List (Nat × α)) (k : Nat) (v : α)
    (h : Tab.wf d m = true) : Tab.wf d (Tab.set d m k v) = true := by
  simp only [Tab.wf, Bool.and_eq_true, List.all_eq_true, decide_eq_true_eq] at h ⊢
  unfold Tab.set
  split
  · refine ⟨Tab.rising_erase m k 0 h.1, fun e he => h.2 e ?_⟩
    exact (List.mem_filter.mp he).1
  · rename_i hv
    refine ⟨Tab.rising_ins m k 0 v (Nat.zero_le k) h.1, fun e he => ?_⟩
    rcases Tab.mem_ins m k v e he with he | he
    · rw [he]; exact hv
    · exact h.2 e he

@[simp] theorem Tab.wf_nil {α : Type} [DecidableEq α] (d : Nat → α) : Tab.wf d ([] : List (Nat × α)) = true := rfl

end Sys2Proof.Machine
end

