-- ==== Sys2Proof/Laws/State.lean ====
section
/-! SUPPORT. One lemma per field per setter of the state, true by rfl, and read after write per unit. -/

namespace Sys2Proof.Machine

@[simp] theorem State.setNow_now (s : State) (x : BitVec 64) : (s.setNow x).now = x := rfl
@[simp] theorem State.setNow_tcRun (s : State) (x : BitVec 64) : (s.setNow x).tcRun = s.tcRun := rfl
@[simp] theorem State.setNow_tcSaved (s : State) (x : BitVec 64) : (s.setNow x).tcSaved = s.tcSaved := rfl
@[simp] theorem State.setNow_syncWait (s : State) (x : BitVec 64) : (s.setNow x).syncWait = s.syncWait := rfl
@[simp] theorem State.setNow_fields (s : State) (x : BitVec 64) : (s.setNow x).fields = s.fields := rfl
@[simp] theorem State.setNow_mem (s : State) (x : BitVec 64) : (s.setNow x).mem = s.mem := rfl
@[simp] theorem State.setNow_marks (s : State) (x : BitVec 64) : (s.setNow x).marks = s.marks := rfl
@[simp] theorem State.setNow_bus (s : State) (x : BitVec 64) : (s.setNow x).bus = s.bus := rfl
@[simp] theorem State.setNow_held (s : State) (x : BitVec 64) : (s.setNow x).held = s.held := rfl
@[simp] theorem State.setNow_events (s : State) (x : BitVec 64) : (s.setNow x).events = s.events := rfl
@[simp] theorem State.setNow_reports (s : State) (x : BitVec 64) : (s.setNow x).reports = s.reports := rfl
@[simp] theorem State.setNow_trigAt (s : State) (x : BitVec 64) : (s.setNow x).trigAt = s.trigAt := rfl
@[simp] theorem State.setNow_trim (s : State) (x : BitVec 64) : (s.setNow x).trim = s.trim := rfl
@[simp] theorem State.setNow_calGen (s : State) (x : BitVec 64) : (s.setNow x).calGen = s.calGen := rfl
@[simp] theorem State.setNow_calEnd (s : State) (x : BitVec 64) : (s.setNow x).calEnd = s.calEnd := rfl
@[simp] theorem State.setNow_portWrites (s : State) (x : BitVec 64) : (s.setNow x).portWrites = s.portWrites := rfl
@[simp] theorem State.setNow_latFlight (s : State) (x : BitVec 64) : (s.setNow x).latFlight = s.latFlight := rfl
@[simp] theorem State.setNow_cut (s : State) (x : BitVec 64) : (s.setNow x).cut = s.cut := rfl
@[simp] theorem State.setNow_laneTest (s : State) (x : BitVec 64) : (s.setNow x).laneTest = s.laneTest := rfl
@[simp] theorem State.setNow_gafQueue (s : State) (x : BitVec 64) : (s.setNow x).gafQueue = s.gafQueue := rfl
@[simp] theorem State.setNow_starts (s : State) (x : BitVec 64) : (s.setNow x).starts = s.starts := rfl
@[simp] theorem State.setNow_zoneLast (s : State) (x : BitVec 64) : (s.setNow x).zoneLast = s.zoneLast := rfl
@[simp] theorem State.setNow_slateOut (s : State) (x : BitVec 64) : (s.setNow x).slateOut = s.slateOut := rfl
@[simp] theorem State.setNow_engIn (s : State) (x : BitVec 64) : (s.setNow x).engIn = s.engIn := rfl
@[simp] theorem State.setNow_engTrigs (s : State) (x : BitVec 64) : (s.setNow x).engTrigs = s.engTrigs := rfl
@[simp] theorem State.setNow_engNeg (s : State) (x : BitVec 64) : (s.setNow x).engNeg = s.engNeg := rfl
@[simp] theorem State.setNow_reelQ (s : State) (x : BitVec 64) : (s.setNow x).reelQ = s.reelQ := rfl
@[simp] theorem State.setNow_xfer (s : State) (x : BitVec 64) : (s.setNow x).xfer = s.xfer := rfl
@[simp] theorem State.setNow_patrol (s : State) (x : BitVec 64) : (s.setNow x).patrol = s.patrol := rfl
@[simp] theorem State.setNow_ddrCap (s : State) (x : BitVec 64) : (s.setNow x).ddrCap = s.ddrCap := rfl
@[simp] theorem State.setNow_flash (s : State) (x : BitVec 64) : (s.setNow x).flash = s.flash := rfl
@[simp] theorem State.setNow_recs (s : State) (x : BitVec 64) : (s.setNow x).recs = s.recs := rfl
@[simp] theorem State.setNow_ctu (s : State) (x : BitVec 64) : (s.setNow x).ctu = s.ctu := rfl
@[simp] theorem State.setNow_image (s : State) (x : BitVec 64) : (s.setNow x).image = s.image := rfl
@[simp] theorem State.setNow_gaf (s : State) (x : BitVec 64) : (s.setNow x).gaf = s.gaf := rfl
@[simp] theorem State.setNow_power (s : State) (x : BitVec 64) : (s.setNow x).power = s.power := rfl
@[simp] theorem State.setNow_otp (s : State) (x : BitVec 64) : (s.setNow x).otp = s.otp := rfl
@[simp] theorem State.setNow_boot (s : State) (x : BitVec 64) : (s.setNow x).boot = s.boot := rfl
@[simp] theorem State.setNow_sec (s : State) (x : BitVec 64) : (s.setNow x).sec = s.sec := rfl
@[simp] theorem State.setNow_link (s : State) (x : BitVec 64) : (s.setNow x).link = s.link := rfl
@[simp] theorem State.setNow_rushes (s : State) (x : BitVec 64) : (s.setNow x).rushes = s.rushes := rfl
@[simp] theorem State.setNow_sets (s : State) (x : BitVec 64) : (s.setNow x).sets = s.sets := rfl
@[simp] theorem State.setNow_cmps (s : State) (x : BitVec 64) : (s.setNow x).cmps = s.cmps := rfl
@[simp] theorem State.setNow_sessions (s : State) (x : BitVec 64) : (s.setNow x).sessions = s.sessions := rfl
@[simp] theorem State.setNow_feedback (s : State) (x : BitVec 64) : (s.setNow x).feedback = s.feedback := rfl
@[simp] theorem State.setNow_emus (s : State) (x : BitVec 64) : (s.setNow x).emus = s.emus := rfl
@[simp] theorem State.setNow_ports (s : State) (x : BitVec 64) : (s.setNow x).ports = s.ports := rfl
@[simp] theorem State.setNow_engines (s : State) (x : BitVec 64) : (s.setNow x).engines = s.engines := rfl
@[simp] theorem State.setNow_reels (s : State) (x : BitVec 64) : (s.setNow x).reels = s.reels := rfl
@[simp] theorem State.setNow_banks (s : State) (x : BitVec 64) : (s.setNow x).banks = s.banks := rfl
@[simp] theorem State.setNow_dmas (s : State) (x : BitVec 64) : (s.setNow x).dmas = s.dmas := rfl
@[simp] theorem State.setNow_cores (s : State) (x : BitVec 64) : (s.setNow x).cores = s.cores := rfl
@[simp] theorem State.setNow_serials (s : State) (x : BitVec 64) : (s.setNow x).serials = s.serials := rfl
@[simp] theorem State.setNow_free (s : State) (x : BitVec 64) : (s.setNow x).free = s.free := rfl
@[simp] theorem State.setNow_pending (s : State) (x : BitVec 64) : (s.setNow x).pending = s.pending := rfl
@[simp] theorem State.setTcRun_now (s : State) (x : Bool) : (s.setTcRun x).now = s.now := rfl
@[simp] theorem State.setTcRun_tcRun (s : State) (x : Bool) : (s.setTcRun x).tcRun = x := rfl
@[simp] theorem State.setTcRun_tcSaved (s : State) (x : Bool) : (s.setTcRun x).tcSaved = s.tcSaved := rfl
@[simp] theorem State.setTcRun_syncWait (s : State) (x : Bool) : (s.setTcRun x).syncWait = s.syncWait := rfl
@[simp] theorem State.setTcRun_fields (s : State) (x : Bool) : (s.setTcRun x).fields = s.fields := rfl
@[simp] theorem State.setTcRun_mem (s : State) (x : Bool) : (s.setTcRun x).mem = s.mem := rfl
@[simp] theorem State.setTcRun_marks (s : State) (x : Bool) : (s.setTcRun x).marks = s.marks := rfl
@[simp] theorem State.setTcRun_bus (s : State) (x : Bool) : (s.setTcRun x).bus = s.bus := rfl
@[simp] theorem State.setTcRun_held (s : State) (x : Bool) : (s.setTcRun x).held = s.held := rfl
@[simp] theorem State.setTcRun_events (s : State) (x : Bool) : (s.setTcRun x).events = s.events := rfl
@[simp] theorem State.setTcRun_reports (s : State) (x : Bool) : (s.setTcRun x).reports = s.reports := rfl
@[simp] theorem State.setTcRun_trigAt (s : State) (x : Bool) : (s.setTcRun x).trigAt = s.trigAt := rfl
@[simp] theorem State.setTcRun_trim (s : State) (x : Bool) : (s.setTcRun x).trim = s.trim := rfl
@[simp] theorem State.setTcRun_calGen (s : State) (x : Bool) : (s.setTcRun x).calGen = s.calGen := rfl
@[simp] theorem State.setTcRun_calEnd (s : State) (x : Bool) : (s.setTcRun x).calEnd = s.calEnd := rfl
@[simp] theorem State.setTcRun_portWrites (s : State) (x : Bool) : (s.setTcRun x).portWrites = s.portWrites := rfl
@[simp] theorem State.setTcRun_latFlight (s : State) (x : Bool) : (s.setTcRun x).latFlight = s.latFlight := rfl
@[simp] theorem State.setTcRun_cut (s : State) (x : Bool) : (s.setTcRun x).cut = s.cut := rfl
@[simp] theorem State.setTcRun_laneTest (s : State) (x : Bool) : (s.setTcRun x).laneTest = s.laneTest := rfl
@[simp] theorem State.setTcRun_gafQueue (s : State) (x : Bool) : (s.setTcRun x).gafQueue = s.gafQueue := rfl
@[simp] theorem State.setTcRun_starts (s : State) (x : Bool) : (s.setTcRun x).starts = s.starts := rfl
@[simp] theorem State.setTcRun_zoneLast (s : State) (x : Bool) : (s.setTcRun x).zoneLast = s.zoneLast := rfl
@[simp] theorem State.setTcRun_slateOut (s : State) (x : Bool) : (s.setTcRun x).slateOut = s.slateOut := rfl
@[simp] theorem State.setTcRun_engIn (s : State) (x : Bool) : (s.setTcRun x).engIn = s.engIn := rfl
@[simp] theorem State.setTcRun_engTrigs (s : State) (x : Bool) : (s.setTcRun x).engTrigs = s.engTrigs := rfl
@[simp] theorem State.setTcRun_engNeg (s : State) (x : Bool) : (s.setTcRun x).engNeg = s.engNeg := rfl
@[simp] theorem State.setTcRun_reelQ (s : State) (x : Bool) : (s.setTcRun x).reelQ = s.reelQ := rfl
@[simp] theorem State.setTcRun_xfer (s : State) (x : Bool) : (s.setTcRun x).xfer = s.xfer := rfl
@[simp] theorem State.setTcRun_patrol (s : State) (x : Bool) : (s.setTcRun x).patrol = s.patrol := rfl
@[simp] theorem State.setTcRun_ddrCap (s : State) (x : Bool) : (s.setTcRun x).ddrCap = s.ddrCap := rfl
@[simp] theorem State.setTcRun_flash (s : State) (x : Bool) : (s.setTcRun x).flash = s.flash := rfl
@[simp] theorem State.setTcRun_recs (s : State) (x : Bool) : (s.setTcRun x).recs = s.recs := rfl
@[simp] theorem State.setTcRun_ctu (s : State) (x : Bool) : (s.setTcRun x).ctu = s.ctu := rfl
@[simp] theorem State.setTcRun_image (s : State) (x : Bool) : (s.setTcRun x).image = s.image := rfl
@[simp] theorem State.setTcRun_gaf (s : State) (x : Bool) : (s.setTcRun x).gaf = s.gaf := rfl
@[simp] theorem State.setTcRun_power (s : State) (x : Bool) : (s.setTcRun x).power = s.power := rfl
@[simp] theorem State.setTcRun_otp (s : State) (x : Bool) : (s.setTcRun x).otp = s.otp := rfl
@[simp] theorem State.setTcRun_boot (s : State) (x : Bool) : (s.setTcRun x).boot = s.boot := rfl
@[simp] theorem State.setTcRun_sec (s : State) (x : Bool) : (s.setTcRun x).sec = s.sec := rfl
@[simp] theorem State.setTcRun_link (s : State) (x : Bool) : (s.setTcRun x).link = s.link := rfl
@[simp] theorem State.setTcRun_rushes (s : State) (x : Bool) : (s.setTcRun x).rushes = s.rushes := rfl
@[simp] theorem State.setTcRun_sets (s : State) (x : Bool) : (s.setTcRun x).sets = s.sets := rfl
@[simp] theorem State.setTcRun_cmps (s : State) (x : Bool) : (s.setTcRun x).cmps = s.cmps := rfl
@[simp] theorem State.setTcRun_sessions (s : State) (x : Bool) : (s.setTcRun x).sessions = s.sessions := rfl
@[simp] theorem State.setTcRun_feedback (s : State) (x : Bool) : (s.setTcRun x).feedback = s.feedback := rfl
@[simp] theorem State.setTcRun_emus (s : State) (x : Bool) : (s.setTcRun x).emus = s.emus := rfl
@[simp] theorem State.setTcRun_ports (s : State) (x : Bool) : (s.setTcRun x).ports = s.ports := rfl
@[simp] theorem State.setTcRun_engines (s : State) (x : Bool) : (s.setTcRun x).engines = s.engines := rfl
@[simp] theorem State.setTcRun_reels (s : State) (x : Bool) : (s.setTcRun x).reels = s.reels := rfl
@[simp] theorem State.setTcRun_banks (s : State) (x : Bool) : (s.setTcRun x).banks = s.banks := rfl
@[simp] theorem State.setTcRun_dmas (s : State) (x : Bool) : (s.setTcRun x).dmas = s.dmas := rfl
@[simp] theorem State.setTcRun_cores (s : State) (x : Bool) : (s.setTcRun x).cores = s.cores := rfl
@[simp] theorem State.setTcRun_serials (s : State) (x : Bool) : (s.setTcRun x).serials = s.serials := rfl
@[simp] theorem State.setTcRun_free (s : State) (x : Bool) : (s.setTcRun x).free = s.free := rfl
@[simp] theorem State.setTcRun_pending (s : State) (x : Bool) : (s.setTcRun x).pending = s.pending := rfl
@[simp] theorem State.setTcSaved_now (s : State) (x : BitVec 64) : (s.setTcSaved x).now = s.now := rfl
@[simp] theorem State.setTcSaved_tcRun (s : State) (x : BitVec 64) : (s.setTcSaved x).tcRun = s.tcRun := rfl
@[simp] theorem State.setTcSaved_tcSaved (s : State) (x : BitVec 64) : (s.setTcSaved x).tcSaved = x := rfl
@[simp] theorem State.setTcSaved_syncWait (s : State) (x : BitVec 64) : (s.setTcSaved x).syncWait = s.syncWait := rfl
@[simp] theorem State.setTcSaved_fields (s : State) (x : BitVec 64) : (s.setTcSaved x).fields = s.fields := rfl
@[simp] theorem State.setTcSaved_mem (s : State) (x : BitVec 64) : (s.setTcSaved x).mem = s.mem := rfl
@[simp] theorem State.setTcSaved_marks (s : State) (x : BitVec 64) : (s.setTcSaved x).marks = s.marks := rfl
@[simp] theorem State.setTcSaved_bus (s : State) (x : BitVec 64) : (s.setTcSaved x).bus = s.bus := rfl
@[simp] theorem State.setTcSaved_held (s : State) (x : BitVec 64) : (s.setTcSaved x).held = s.held := rfl
@[simp] theorem State.setTcSaved_events (s : State) (x : BitVec 64) : (s.setTcSaved x).events = s.events := rfl
@[simp] theorem State.setTcSaved_reports (s : State) (x : BitVec 64) : (s.setTcSaved x).reports = s.reports := rfl
@[simp] theorem State.setTcSaved_trigAt (s : State) (x : BitVec 64) : (s.setTcSaved x).trigAt = s.trigAt := rfl
@[simp] theorem State.setTcSaved_trim (s : State) (x : BitVec 64) : (s.setTcSaved x).trim = s.trim := rfl
@[simp] theorem State.setTcSaved_calGen (s : State) (x : BitVec 64) : (s.setTcSaved x).calGen = s.calGen := rfl
@[simp] theorem State.setTcSaved_calEnd (s : State) (x : BitVec 64) : (s.setTcSaved x).calEnd = s.calEnd := rfl
@[simp] theorem State.setTcSaved_portWrites (s : State) (x : BitVec 64) : (s.setTcSaved x).portWrites = s.portWrites := rfl
@[simp] theorem State.setTcSaved_latFlight (s : State) (x : BitVec 64) : (s.setTcSaved x).latFlight = s.latFlight := rfl
@[simp] theorem State.setTcSaved_cut (s : State) (x : BitVec 64) : (s.setTcSaved x).cut = s.cut := rfl
@[simp] theorem State.setTcSaved_laneTest (s : State) (x : BitVec 64) : (s.setTcSaved x).laneTest = s.laneTest := rfl
@[simp] theorem State.setTcSaved_gafQueue (s : State) (x : BitVec 64) : (s.setTcSaved x).gafQueue = s.gafQueue := rfl
@[simp] theorem State.setTcSaved_starts (s : State) (x : BitVec 64) : (s.setTcSaved x).starts = s.starts := rfl
@[simp] theorem State.setTcSaved_zoneLast (s : State) (x : BitVec 64) : (s.setTcSaved x).zoneLast = s.zoneLast := rfl
@[simp] theorem State.setTcSaved_slateOut (s : State) (x : BitVec 64) : (s.setTcSaved x).slateOut = s.slateOut := rfl
@[simp] theorem State.setTcSaved_engIn (s : State) (x : BitVec 64) : (s.setTcSaved x).engIn = s.engIn := rfl
@[simp] theorem State.setTcSaved_engTrigs (s : State) (x : BitVec 64) : (s.setTcSaved x).engTrigs = s.engTrigs := rfl
@[simp] theorem State.setTcSaved_engNeg (s : State) (x : BitVec 64) : (s.setTcSaved x).engNeg = s.engNeg := rfl
@[simp] theorem State.setTcSaved_reelQ (s : State) (x : BitVec 64) : (s.setTcSaved x).reelQ = s.reelQ := rfl
@[simp] theorem State.setTcSaved_xfer (s : State) (x : BitVec 64) : (s.setTcSaved x).xfer = s.xfer := rfl
@[simp] theorem State.setTcSaved_patrol (s : State) (x : BitVec 64) : (s.setTcSaved x).patrol = s.patrol := rfl
@[simp] theorem State.setTcSaved_ddrCap (s : State) (x : BitVec 64) : (s.setTcSaved x).ddrCap = s.ddrCap := rfl
@[simp] theorem State.setTcSaved_flash (s : State) (x : BitVec 64) : (s.setTcSaved x).flash = s.flash := rfl
@[simp] theorem State.setTcSaved_recs (s : State) (x : BitVec 64) : (s.setTcSaved x).recs = s.recs := rfl
@[simp] theorem State.setTcSaved_ctu (s : State) (x : BitVec 64) : (s.setTcSaved x).ctu = s.ctu := rfl
@[simp] theorem State.setTcSaved_image (s : State) (x : BitVec 64) : (s.setTcSaved x).image = s.image := rfl
@[simp] theorem State.setTcSaved_gaf (s : State) (x : BitVec 64) : (s.setTcSaved x).gaf = s.gaf := rfl
@[simp] theorem State.setTcSaved_power (s : State) (x : BitVec 64) : (s.setTcSaved x).power = s.power := rfl
@[simp] theorem State.setTcSaved_otp (s : State) (x : BitVec 64) : (s.setTcSaved x).otp = s.otp := rfl
@[simp] theorem State.setTcSaved_boot (s : State) (x : BitVec 64) : (s.setTcSaved x).boot = s.boot := rfl
@[simp] theorem State.setTcSaved_sec (s : State) (x : BitVec 64) : (s.setTcSaved x).sec = s.sec := rfl
@[simp] theorem State.setTcSaved_link (s : State) (x : BitVec 64) : (s.setTcSaved x).link = s.link := rfl
@[simp] theorem State.setTcSaved_rushes (s : State) (x : BitVec 64) : (s.setTcSaved x).rushes = s.rushes := rfl
@[simp] theorem State.setTcSaved_sets (s : State) (x : BitVec 64) : (s.setTcSaved x).sets = s.sets := rfl
@[simp] theorem State.setTcSaved_cmps (s : State) (x : BitVec 64) : (s.setTcSaved x).cmps = s.cmps := rfl
@[simp] theorem State.setTcSaved_sessions (s : State) (x : BitVec 64) : (s.setTcSaved x).sessions = s.sessions := rfl
@[simp] theorem State.setTcSaved_feedback (s : State) (x : BitVec 64) : (s.setTcSaved x).feedback = s.feedback := rfl
@[simp] theorem State.setTcSaved_emus (s : State) (x : BitVec 64) : (s.setTcSaved x).emus = s.emus := rfl
@[simp] theorem State.setTcSaved_ports (s : State) (x : BitVec 64) : (s.setTcSaved x).ports = s.ports := rfl
@[simp] theorem State.setTcSaved_engines (s : State) (x : BitVec 64) : (s.setTcSaved x).engines = s.engines := rfl
@[simp] theorem State.setTcSaved_reels (s : State) (x : BitVec 64) : (s.setTcSaved x).reels = s.reels := rfl
@[simp] theorem State.setTcSaved_banks (s : State) (x : BitVec 64) : (s.setTcSaved x).banks = s.banks := rfl
@[simp] theorem State.setTcSaved_dmas (s : State) (x : BitVec 64) : (s.setTcSaved x).dmas = s.dmas := rfl
@[simp] theorem State.setTcSaved_cores (s : State) (x : BitVec 64) : (s.setTcSaved x).cores = s.cores := rfl
@[simp] theorem State.setTcSaved_serials (s : State) (x : BitVec 64) : (s.setTcSaved x).serials = s.serials := rfl
@[simp] theorem State.setTcSaved_free (s : State) (x : BitVec 64) : (s.setTcSaved x).free = s.free := rfl
@[simp] theorem State.setTcSaved_pending (s : State) (x : BitVec 64) : (s.setTcSaved x).pending = s.pending := rfl
@[simp] theorem State.setSyncWait_now (s : State) (x : List Nat) : (s.setSyncWait x).now = s.now := rfl
@[simp] theorem State.setSyncWait_tcRun (s : State) (x : List Nat) : (s.setSyncWait x).tcRun = s.tcRun := rfl
@[simp] theorem State.setSyncWait_tcSaved (s : State) (x : List Nat) : (s.setSyncWait x).tcSaved = s.tcSaved := rfl
@[simp] theorem State.setSyncWait_syncWait (s : State) (x : List Nat) : (s.setSyncWait x).syncWait = x := rfl
@[simp] theorem State.setSyncWait_fields (s : State) (x : List Nat) : (s.setSyncWait x).fields = s.fields := rfl
@[simp] theorem State.setSyncWait_mem (s : State) (x : List Nat) : (s.setSyncWait x).mem = s.mem := rfl
@[simp] theorem State.setSyncWait_marks (s : State) (x : List Nat) : (s.setSyncWait x).marks = s.marks := rfl
@[simp] theorem State.setSyncWait_bus (s : State) (x : List Nat) : (s.setSyncWait x).bus = s.bus := rfl
@[simp] theorem State.setSyncWait_held (s : State) (x : List Nat) : (s.setSyncWait x).held = s.held := rfl
@[simp] theorem State.setSyncWait_events (s : State) (x : List Nat) : (s.setSyncWait x).events = s.events := rfl
@[simp] theorem State.setSyncWait_reports (s : State) (x : List Nat) : (s.setSyncWait x).reports = s.reports := rfl
@[simp] theorem State.setSyncWait_trigAt (s : State) (x : List Nat) : (s.setSyncWait x).trigAt = s.trigAt := rfl
@[simp] theorem State.setSyncWait_trim (s : State) (x : List Nat) : (s.setSyncWait x).trim = s.trim := rfl
@[simp] theorem State.setSyncWait_calGen (s : State) (x : List Nat) : (s.setSyncWait x).calGen = s.calGen := rfl
@[simp] theorem State.setSyncWait_calEnd (s : State) (x : List Nat) : (s.setSyncWait x).calEnd = s.calEnd := rfl
@[simp] theorem State.setSyncWait_portWrites (s : State) (x : List Nat) : (s.setSyncWait x).portWrites = s.portWrites := rfl
@[simp] theorem State.setSyncWait_latFlight (s : State) (x : List Nat) : (s.setSyncWait x).latFlight = s.latFlight := rfl
@[simp] theorem State.setSyncWait_cut (s : State) (x : List Nat) : (s.setSyncWait x).cut = s.cut := rfl
@[simp] theorem State.setSyncWait_laneTest (s : State) (x : List Nat) : (s.setSyncWait x).laneTest = s.laneTest := rfl
@[simp] theorem State.setSyncWait_gafQueue (s : State) (x : List Nat) : (s.setSyncWait x).gafQueue = s.gafQueue := rfl
@[simp] theorem State.setSyncWait_starts (s : State) (x : List Nat) : (s.setSyncWait x).starts = s.starts := rfl
@[simp] theorem State.setSyncWait_zoneLast (s : State) (x : List Nat) : (s.setSyncWait x).zoneLast = s.zoneLast := rfl
@[simp] theorem State.setSyncWait_slateOut (s : State) (x : List Nat) : (s.setSyncWait x).slateOut = s.slateOut := rfl
@[simp] theorem State.setSyncWait_engIn (s : State) (x : List Nat) : (s.setSyncWait x).engIn = s.engIn := rfl
@[simp] theorem State.setSyncWait_engTrigs (s : State) (x : List Nat) : (s.setSyncWait x).engTrigs = s.engTrigs := rfl
@[simp] theorem State.setSyncWait_engNeg (s : State) (x : List Nat) : (s.setSyncWait x).engNeg = s.engNeg := rfl
@[simp] theorem State.setSyncWait_reelQ (s : State) (x : List Nat) : (s.setSyncWait x).reelQ = s.reelQ := rfl
@[simp] theorem State.setSyncWait_xfer (s : State) (x : List Nat) : (s.setSyncWait x).xfer = s.xfer := rfl
@[simp] theorem State.setSyncWait_patrol (s : State) (x : List Nat) : (s.setSyncWait x).patrol = s.patrol := rfl
@[simp] theorem State.setSyncWait_ddrCap (s : State) (x : List Nat) : (s.setSyncWait x).ddrCap = s.ddrCap := rfl
@[simp] theorem State.setSyncWait_flash (s : State) (x : List Nat) : (s.setSyncWait x).flash = s.flash := rfl
@[simp] theorem State.setSyncWait_recs (s : State) (x : List Nat) : (s.setSyncWait x).recs = s.recs := rfl
@[simp] theorem State.setSyncWait_ctu (s : State) (x : List Nat) : (s.setSyncWait x).ctu = s.ctu := rfl
@[simp] theorem State.setSyncWait_image (s : State) (x : List Nat) : (s.setSyncWait x).image = s.image := rfl
@[simp] theorem State.setSyncWait_gaf (s : State) (x : List Nat) : (s.setSyncWait x).gaf = s.gaf := rfl
@[simp] theorem State.setSyncWait_power (s : State) (x : List Nat) : (s.setSyncWait x).power = s.power := rfl
@[simp] theorem State.setSyncWait_otp (s : State) (x : List Nat) : (s.setSyncWait x).otp = s.otp := rfl
@[simp] theorem State.setSyncWait_boot (s : State) (x : List Nat) : (s.setSyncWait x).boot = s.boot := rfl
@[simp] theorem State.setSyncWait_sec (s : State) (x : List Nat) : (s.setSyncWait x).sec = s.sec := rfl
@[simp] theorem State.setSyncWait_link (s : State) (x : List Nat) : (s.setSyncWait x).link = s.link := rfl
@[simp] theorem State.setSyncWait_rushes (s : State) (x : List Nat) : (s.setSyncWait x).rushes = s.rushes := rfl
@[simp] theorem State.setSyncWait_sets (s : State) (x : List Nat) : (s.setSyncWait x).sets = s.sets := rfl
@[simp] theorem State.setSyncWait_cmps (s : State) (x : List Nat) : (s.setSyncWait x).cmps = s.cmps := rfl
@[simp] theorem State.setSyncWait_sessions (s : State) (x : List Nat) : (s.setSyncWait x).sessions = s.sessions := rfl
@[simp] theorem State.setSyncWait_feedback (s : State) (x : List Nat) : (s.setSyncWait x).feedback = s.feedback := rfl
@[simp] theorem State.setSyncWait_emus (s : State) (x : List Nat) : (s.setSyncWait x).emus = s.emus := rfl
@[simp] theorem State.setSyncWait_ports (s : State) (x : List Nat) : (s.setSyncWait x).ports = s.ports := rfl
@[simp] theorem State.setSyncWait_engines (s : State) (x : List Nat) : (s.setSyncWait x).engines = s.engines := rfl
@[simp] theorem State.setSyncWait_reels (s : State) (x : List Nat) : (s.setSyncWait x).reels = s.reels := rfl
@[simp] theorem State.setSyncWait_banks (s : State) (x : List Nat) : (s.setSyncWait x).banks = s.banks := rfl
@[simp] theorem State.setSyncWait_dmas (s : State) (x : List Nat) : (s.setSyncWait x).dmas = s.dmas := rfl
@[simp] theorem State.setSyncWait_cores (s : State) (x : List Nat) : (s.setSyncWait x).cores = s.cores := rfl
@[simp] theorem State.setSyncWait_serials (s : State) (x : List Nat) : (s.setSyncWait x).serials = s.serials := rfl
@[simp] theorem State.setSyncWait_free (s : State) (x : List Nat) : (s.setSyncWait x).free = s.free := rfl
@[simp] theorem State.setSyncWait_pending (s : State) (x : List Nat) : (s.setSyncWait x).pending = s.pending := rfl
@[simp] theorem State.setFields_now (s : State) (x : List (Nat × Nat)) : (s.setFields x).now = s.now := rfl
@[simp] theorem State.setFields_tcRun (s : State) (x : List (Nat × Nat)) : (s.setFields x).tcRun = s.tcRun := rfl
@[simp] theorem State.setFields_tcSaved (s : State) (x : List (Nat × Nat)) : (s.setFields x).tcSaved = s.tcSaved := rfl
@[simp] theorem State.setFields_syncWait (s : State) (x : List (Nat × Nat)) : (s.setFields x).syncWait = s.syncWait := rfl
@[simp] theorem State.setFields_fields (s : State) (x : List (Nat × Nat)) : (s.setFields x).fields = x := rfl
@[simp] theorem State.setFields_mem (s : State) (x : List (Nat × Nat)) : (s.setFields x).mem = s.mem := rfl
@[simp] theorem State.setFields_marks (s : State) (x : List (Nat × Nat)) : (s.setFields x).marks = s.marks := rfl
@[simp] theorem State.setFields_bus (s : State) (x : List (Nat × Nat)) : (s.setFields x).bus = s.bus := rfl
@[simp] theorem State.setFields_held (s : State) (x : List (Nat × Nat)) : (s.setFields x).held = s.held := rfl
@[simp] theorem State.setFields_events (s : State) (x : List (Nat × Nat)) : (s.setFields x).events = s.events := rfl
@[simp] theorem State.setFields_reports (s : State) (x : List (Nat × Nat)) : (s.setFields x).reports = s.reports := rfl
@[simp] theorem State.setFields_trigAt (s : State) (x : List (Nat × Nat)) : (s.setFields x).trigAt = s.trigAt := rfl
@[simp] theorem State.setFields_trim (s : State) (x : List (Nat × Nat)) : (s.setFields x).trim = s.trim := rfl
@[simp] theorem State.setFields_calGen (s : State) (x : List (Nat × Nat)) : (s.setFields x).calGen = s.calGen := rfl
@[simp] theorem State.setFields_calEnd (s : State) (x : List (Nat × Nat)) : (s.setFields x).calEnd = s.calEnd := rfl
@[simp] theorem State.setFields_portWrites (s : State) (x : List (Nat × Nat)) : (s.setFields x).portWrites = s.portWrites := rfl
@[simp] theorem State.setFields_latFlight (s : State) (x : List (Nat × Nat)) : (s.setFields x).latFlight = s.latFlight := rfl
@[simp] theorem State.setFields_cut (s : State) (x : List (Nat × Nat)) : (s.setFields x).cut = s.cut := rfl
@[simp] theorem State.setFields_laneTest (s : State) (x : List (Nat × Nat)) : (s.setFields x).laneTest = s.laneTest := rfl
@[simp] theorem State.setFields_gafQueue (s : State) (x : List (Nat × Nat)) : (s.setFields x).gafQueue = s.gafQueue := rfl
@[simp] theorem State.setFields_starts (s : State) (x : List (Nat × Nat)) : (s.setFields x).starts = s.starts := rfl
@[simp] theorem State.setFields_zoneLast (s : State) (x : List (Nat × Nat)) : (s.setFields x).zoneLast = s.zoneLast := rfl
@[simp] theorem State.setFields_slateOut (s : State) (x : List (Nat × Nat)) : (s.setFields x).slateOut = s.slateOut := rfl
@[simp] theorem State.setFields_engIn (s : State) (x : List (Nat × Nat)) : (s.setFields x).engIn = s.engIn := rfl
@[simp] theorem State.setFields_engTrigs (s : State) (x : List (Nat × Nat)) : (s.setFields x).engTrigs = s.engTrigs := rfl
@[simp] theorem State.setFields_engNeg (s : State) (x : List (Nat × Nat)) : (s.setFields x).engNeg = s.engNeg := rfl
@[simp] theorem State.setFields_reelQ (s : State) (x : List (Nat × Nat)) : (s.setFields x).reelQ = s.reelQ := rfl
@[simp] theorem State.setFields_xfer (s : State) (x : List (Nat × Nat)) : (s.setFields x).xfer = s.xfer := rfl
@[simp] theorem State.setFields_patrol (s : State) (x : List (Nat × Nat)) : (s.setFields x).patrol = s.patrol := rfl
@[simp] theorem State.setFields_ddrCap (s : State) (x : List (Nat × Nat)) : (s.setFields x).ddrCap = s.ddrCap := rfl
@[simp] theorem State.setFields_flash (s : State) (x : List (Nat × Nat)) : (s.setFields x).flash = s.flash := rfl
@[simp] theorem State.setFields_recs (s : State) (x : List (Nat × Nat)) : (s.setFields x).recs = s.recs := rfl
@[simp] theorem State.setFields_ctu (s : State) (x : List (Nat × Nat)) : (s.setFields x).ctu = s.ctu := rfl
@[simp] theorem State.setFields_image (s : State) (x : List (Nat × Nat)) : (s.setFields x).image = s.image := rfl
@[simp] theorem State.setFields_gaf (s : State) (x : List (Nat × Nat)) : (s.setFields x).gaf = s.gaf := rfl
@[simp] theorem State.setFields_power (s : State) (x : List (Nat × Nat)) : (s.setFields x).power = s.power := rfl
@[simp] theorem State.setFields_otp (s : State) (x : List (Nat × Nat)) : (s.setFields x).otp = s.otp := rfl
@[simp] theorem State.setFields_boot (s : State) (x : List (Nat × Nat)) : (s.setFields x).boot = s.boot := rfl
@[simp] theorem State.setFields_sec (s : State) (x : List (Nat × Nat)) : (s.setFields x).sec = s.sec := rfl
@[simp] theorem State.setFields_link (s : State) (x : List (Nat × Nat)) : (s.setFields x).link = s.link := rfl
@[simp] theorem State.setFields_rushes (s : State) (x : List (Nat × Nat)) : (s.setFields x).rushes = s.rushes := rfl
@[simp] theorem State.setFields_sets (s : State) (x : List (Nat × Nat)) : (s.setFields x).sets = s.sets := rfl
@[simp] theorem State.setFields_cmps (s : State) (x : List (Nat × Nat)) : (s.setFields x).cmps = s.cmps := rfl
@[simp] theorem State.setFields_sessions (s : State) (x : List (Nat × Nat)) : (s.setFields x).sessions = s.sessions := rfl
@[simp] theorem State.setFields_feedback (s : State) (x : List (Nat × Nat)) : (s.setFields x).feedback = s.feedback := rfl
@[simp] theorem State.setFields_emus (s : State) (x : List (Nat × Nat)) : (s.setFields x).emus = s.emus := rfl
@[simp] theorem State.setFields_ports (s : State) (x : List (Nat × Nat)) : (s.setFields x).ports = s.ports := rfl
@[simp] theorem State.setFields_engines (s : State) (x : List (Nat × Nat)) : (s.setFields x).engines = s.engines := rfl
@[simp] theorem State.setFields_reels (s : State) (x : List (Nat × Nat)) : (s.setFields x).reels = s.reels := rfl
@[simp] theorem State.setFields_banks (s : State) (x : List (Nat × Nat)) : (s.setFields x).banks = s.banks := rfl
@[simp] theorem State.setFields_dmas (s : State) (x : List (Nat × Nat)) : (s.setFields x).dmas = s.dmas := rfl
@[simp] theorem State.setFields_cores (s : State) (x : List (Nat × Nat)) : (s.setFields x).cores = s.cores := rfl
@[simp] theorem State.setFields_serials (s : State) (x : List (Nat × Nat)) : (s.setFields x).serials = s.serials := rfl
@[simp] theorem State.setFields_free (s : State) (x : List (Nat × Nat)) : (s.setFields x).free = s.free := rfl
@[simp] theorem State.setFields_pending (s : State) (x : List (Nat × Nat)) : (s.setFields x).pending = s.pending := rfl
@[simp] theorem State.setMem_now (s : State) (x : List (Nat × Nat)) : (s.setMem x).now = s.now := rfl
@[simp] theorem State.setMem_tcRun (s : State) (x : List (Nat × Nat)) : (s.setMem x).tcRun = s.tcRun := rfl
@[simp] theorem State.setMem_tcSaved (s : State) (x : List (Nat × Nat)) : (s.setMem x).tcSaved = s.tcSaved := rfl
@[simp] theorem State.setMem_syncWait (s : State) (x : List (Nat × Nat)) : (s.setMem x).syncWait = s.syncWait := rfl
@[simp] theorem State.setMem_fields (s : State) (x : List (Nat × Nat)) : (s.setMem x).fields = s.fields := rfl
@[simp] theorem State.setMem_mem (s : State) (x : List (Nat × Nat)) : (s.setMem x).mem = x := rfl
@[simp] theorem State.setMem_marks (s : State) (x : List (Nat × Nat)) : (s.setMem x).marks = s.marks := rfl
@[simp] theorem State.setMem_bus (s : State) (x : List (Nat × Nat)) : (s.setMem x).bus = s.bus := rfl
@[simp] theorem State.setMem_held (s : State) (x : List (Nat × Nat)) : (s.setMem x).held = s.held := rfl
@[simp] theorem State.setMem_events (s : State) (x : List (Nat × Nat)) : (s.setMem x).events = s.events := rfl
@[simp] theorem State.setMem_reports (s : State) (x : List (Nat × Nat)) : (s.setMem x).reports = s.reports := rfl
@[simp] theorem State.setMem_trigAt (s : State) (x : List (Nat × Nat)) : (s.setMem x).trigAt = s.trigAt := rfl
@[simp] theorem State.setMem_trim (s : State) (x : List (Nat × Nat)) : (s.setMem x).trim = s.trim := rfl
@[simp] theorem State.setMem_calGen (s : State) (x : List (Nat × Nat)) : (s.setMem x).calGen = s.calGen := rfl
@[simp] theorem State.setMem_calEnd (s : State) (x : List (Nat × Nat)) : (s.setMem x).calEnd = s.calEnd := rfl
@[simp] theorem State.setMem_portWrites (s : State) (x : List (Nat × Nat)) : (s.setMem x).portWrites = s.portWrites := rfl
@[simp] theorem State.setMem_latFlight (s : State) (x : List (Nat × Nat)) : (s.setMem x).latFlight = s.latFlight := rfl
@[simp] theorem State.setMem_cut (s : State) (x : List (Nat × Nat)) : (s.setMem x).cut = s.cut := rfl
@[simp] theorem State.setMem_laneTest (s : State) (x : List (Nat × Nat)) : (s.setMem x).laneTest = s.laneTest := rfl
@[simp] theorem State.setMem_gafQueue (s : State) (x : List (Nat × Nat)) : (s.setMem x).gafQueue = s.gafQueue := rfl
@[simp] theorem State.setMem_starts (s : State) (x : List (Nat × Nat)) : (s.setMem x).starts = s.starts := rfl
@[simp] theorem State.setMem_zoneLast (s : State) (x : List (Nat × Nat)) : (s.setMem x).zoneLast = s.zoneLast := rfl
@[simp] theorem State.setMem_slateOut (s : State) (x : List (Nat × Nat)) : (s.setMem x).slateOut = s.slateOut := rfl
@[simp] theorem State.setMem_engIn (s : State) (x : List (Nat × Nat)) : (s.setMem x).engIn = s.engIn := rfl
@[simp] theorem State.setMem_engTrigs (s : State) (x : List (Nat × Nat)) : (s.setMem x).engTrigs = s.engTrigs := rfl
@[simp] theorem State.setMem_engNeg (s : State) (x : List (Nat × Nat)) : (s.setMem x).engNeg = s.engNeg := rfl
@[simp] theorem State.setMem_reelQ (s : State) (x : List (Nat × Nat)) : (s.setMem x).reelQ = s.reelQ := rfl
@[simp] theorem State.setMem_xfer (s : State) (x : List (Nat × Nat)) : (s.setMem x).xfer = s.xfer := rfl
@[simp] theorem State.setMem_patrol (s : State) (x : List (Nat × Nat)) : (s.setMem x).patrol = s.patrol := rfl
@[simp] theorem State.setMem_ddrCap (s : State) (x : List (Nat × Nat)) : (s.setMem x).ddrCap = s.ddrCap := rfl
@[simp] theorem State.setMem_flash (s : State) (x : List (Nat × Nat)) : (s.setMem x).flash = s.flash := rfl
@[simp] theorem State.setMem_recs (s : State) (x : List (Nat × Nat)) : (s.setMem x).recs = s.recs := rfl
@[simp] theorem State.setMem_ctu (s : State) (x : List (Nat × Nat)) : (s.setMem x).ctu = s.ctu := rfl
@[simp] theorem State.setMem_image (s : State) (x : List (Nat × Nat)) : (s.setMem x).image = s.image := rfl
@[simp] theorem State.setMem_gaf (s : State) (x : List (Nat × Nat)) : (s.setMem x).gaf = s.gaf := rfl
@[simp] theorem State.setMem_power (s : State) (x : List (Nat × Nat)) : (s.setMem x).power = s.power := rfl
@[simp] theorem State.setMem_otp (s : State) (x : List (Nat × Nat)) : (s.setMem x).otp = s.otp := rfl
@[simp] theorem State.setMem_boot (s : State) (x : List (Nat × Nat)) : (s.setMem x).boot = s.boot := rfl
@[simp] theorem State.setMem_sec (s : State) (x : List (Nat × Nat)) : (s.setMem x).sec = s.sec := rfl
@[simp] theorem State.setMem_link (s : State) (x : List (Nat × Nat)) : (s.setMem x).link = s.link := rfl
@[simp] theorem State.setMem_rushes (s : State) (x : List (Nat × Nat)) : (s.setMem x).rushes = s.rushes := rfl
@[simp] theorem State.setMem_sets (s : State) (x : List (Nat × Nat)) : (s.setMem x).sets = s.sets := rfl
@[simp] theorem State.setMem_cmps (s : State) (x : List (Nat × Nat)) : (s.setMem x).cmps = s.cmps := rfl
@[simp] theorem State.setMem_sessions (s : State) (x : List (Nat × Nat)) : (s.setMem x).sessions = s.sessions := rfl
@[simp] theorem State.setMem_feedback (s : State) (x : List (Nat × Nat)) : (s.setMem x).feedback = s.feedback := rfl
@[simp] theorem State.setMem_emus (s : State) (x : List (Nat × Nat)) : (s.setMem x).emus = s.emus := rfl
@[simp] theorem State.setMem_ports (s : State) (x : List (Nat × Nat)) : (s.setMem x).ports = s.ports := rfl
@[simp] theorem State.setMem_engines (s : State) (x : List (Nat × Nat)) : (s.setMem x).engines = s.engines := rfl
@[simp] theorem State.setMem_reels (s : State) (x : List (Nat × Nat)) : (s.setMem x).reels = s.reels := rfl
@[simp] theorem State.setMem_banks (s : State) (x : List (Nat × Nat)) : (s.setMem x).banks = s.banks := rfl
@[simp] theorem State.setMem_dmas (s : State) (x : List (Nat × Nat)) : (s.setMem x).dmas = s.dmas := rfl
@[simp] theorem State.setMem_cores (s : State) (x : List (Nat × Nat)) : (s.setMem x).cores = s.cores := rfl
@[simp] theorem State.setMem_serials (s : State) (x : List (Nat × Nat)) : (s.setMem x).serials = s.serials := rfl
@[simp] theorem State.setMem_free (s : State) (x : List (Nat × Nat)) : (s.setMem x).free = s.free := rfl
@[simp] theorem State.setMem_pending (s : State) (x : List (Nat × Nat)) : (s.setMem x).pending = s.pending := rfl
@[simp] theorem State.setMarks_now (s : State) (x : List (Nat × Bool)) : (s.setMarks x).now = s.now := rfl
@[simp] theorem State.setMarks_tcRun (s : State) (x : List (Nat × Bool)) : (s.setMarks x).tcRun = s.tcRun := rfl
@[simp] theorem State.setMarks_tcSaved (s : State) (x : List (Nat × Bool)) : (s.setMarks x).tcSaved = s.tcSaved := rfl
@[simp] theorem State.setMarks_syncWait (s : State) (x : List (Nat × Bool)) : (s.setMarks x).syncWait = s.syncWait := rfl
@[simp] theorem State.setMarks_fields (s : State) (x : List (Nat × Bool)) : (s.setMarks x).fields = s.fields := rfl
@[simp] theorem State.setMarks_mem (s : State) (x : List (Nat × Bool)) : (s.setMarks x).mem = s.mem := rfl
@[simp] theorem State.setMarks_marks (s : State) (x : List (Nat × Bool)) : (s.setMarks x).marks = x := rfl
@[simp] theorem State.setMarks_bus (s : State) (x : List (Nat × Bool)) : (s.setMarks x).bus = s.bus := rfl
@[simp] theorem State.setMarks_held (s : State) (x : List (Nat × Bool)) : (s.setMarks x).held = s.held := rfl
@[simp] theorem State.setMarks_events (s : State) (x : List (Nat × Bool)) : (s.setMarks x).events = s.events := rfl
@[simp] theorem State.setMarks_reports (s : State) (x : List (Nat × Bool)) : (s.setMarks x).reports = s.reports := rfl
@[simp] theorem State.setMarks_trigAt (s : State) (x : List (Nat × Bool)) : (s.setMarks x).trigAt = s.trigAt := rfl
@[simp] theorem State.setMarks_trim (s : State) (x : List (Nat × Bool)) : (s.setMarks x).trim = s.trim := rfl
@[simp] theorem State.setMarks_calGen (s : State) (x : List (Nat × Bool)) : (s.setMarks x).calGen = s.calGen := rfl
@[simp] theorem State.setMarks_calEnd (s : State) (x : List (Nat × Bool)) : (s.setMarks x).calEnd = s.calEnd := rfl
@[simp] theorem State.setMarks_portWrites (s : State) (x : List (Nat × Bool)) : (s.setMarks x).portWrites = s.portWrites := rfl
@[simp] theorem State.setMarks_latFlight (s : State) (x : List (Nat × Bool)) : (s.setMarks x).latFlight = s.latFlight := rfl
@[simp] theorem State.setMarks_cut (s : State) (x : List (Nat × Bool)) : (s.setMarks x).cut = s.cut := rfl
@[simp] theorem State.setMarks_laneTest (s : State) (x : List (Nat × Bool)) : (s.setMarks x).laneTest = s.laneTest := rfl
@[simp] theorem State.setMarks_gafQueue (s : State) (x : List (Nat × Bool)) : (s.setMarks x).gafQueue = s.gafQueue := rfl
@[simp] theorem State.setMarks_starts (s : State) (x : List (Nat × Bool)) : (s.setMarks x).starts = s.starts := rfl
@[simp] theorem State.setMarks_zoneLast (s : State) (x : List (Nat × Bool)) : (s.setMarks x).zoneLast = s.zoneLast := rfl
@[simp] theorem State.setMarks_slateOut (s : State) (x : List (Nat × Bool)) : (s.setMarks x).slateOut = s.slateOut := rfl
@[simp] theorem State.setMarks_engIn (s : State) (x : List (Nat × Bool)) : (s.setMarks x).engIn = s.engIn := rfl
@[simp] theorem State.setMarks_engTrigs (s : State) (x : List (Nat × Bool)) : (s.setMarks x).engTrigs = s.engTrigs := rfl
@[simp] theorem State.setMarks_engNeg (s : State) (x : List (Nat × Bool)) : (s.setMarks x).engNeg = s.engNeg := rfl
@[simp] theorem State.setMarks_reelQ (s : State) (x : List (Nat × Bool)) : (s.setMarks x).reelQ = s.reelQ := rfl
@[simp] theorem State.setMarks_xfer (s : State) (x : List (Nat × Bool)) : (s.setMarks x).xfer = s.xfer := rfl
@[simp] theorem State.setMarks_patrol (s : State) (x : List (Nat × Bool)) : (s.setMarks x).patrol = s.patrol := rfl
@[simp] theorem State.setMarks_ddrCap (s : State) (x : List (Nat × Bool)) : (s.setMarks x).ddrCap = s.ddrCap := rfl
@[simp] theorem State.setMarks_flash (s : State) (x : List (Nat × Bool)) : (s.setMarks x).flash = s.flash := rfl
@[simp] theorem State.setMarks_recs (s : State) (x : List (Nat × Bool)) : (s.setMarks x).recs = s.recs := rfl
@[simp] theorem State.setMarks_ctu (s : State) (x : List (Nat × Bool)) : (s.setMarks x).ctu = s.ctu := rfl
@[simp] theorem State.setMarks_image (s : State) (x : List (Nat × Bool)) : (s.setMarks x).image = s.image := rfl
@[simp] theorem State.setMarks_gaf (s : State) (x : List (Nat × Bool)) : (s.setMarks x).gaf = s.gaf := rfl
@[simp] theorem State.setMarks_power (s : State) (x : List (Nat × Bool)) : (s.setMarks x).power = s.power := rfl
@[simp] theorem State.setMarks_otp (s : State) (x : List (Nat × Bool)) : (s.setMarks x).otp = s.otp := rfl
@[simp] theorem State.setMarks_boot (s : State) (x : List (Nat × Bool)) : (s.setMarks x).boot = s.boot := rfl
@[simp] theorem State.setMarks_sec (s : State) (x : List (Nat × Bool)) : (s.setMarks x).sec = s.sec := rfl
@[simp] theorem State.setMarks_link (s : State) (x : List (Nat × Bool)) : (s.setMarks x).link = s.link := rfl
@[simp] theorem State.setMarks_rushes (s : State) (x : List (Nat × Bool)) : (s.setMarks x).rushes = s.rushes := rfl
@[simp] theorem State.setMarks_sets (s : State) (x : List (Nat × Bool)) : (s.setMarks x).sets = s.sets := rfl
@[simp] theorem State.setMarks_cmps (s : State) (x : List (Nat × Bool)) : (s.setMarks x).cmps = s.cmps := rfl
@[simp] theorem State.setMarks_sessions (s : State) (x : List (Nat × Bool)) : (s.setMarks x).sessions = s.sessions := rfl
@[simp] theorem State.setMarks_feedback (s : State) (x : List (Nat × Bool)) : (s.setMarks x).feedback = s.feedback := rfl
@[simp] theorem State.setMarks_emus (s : State) (x : List (Nat × Bool)) : (s.setMarks x).emus = s.emus := rfl
@[simp] theorem State.setMarks_ports (s : State) (x : List (Nat × Bool)) : (s.setMarks x).ports = s.ports := rfl
@[simp] theorem State.setMarks_engines (s : State) (x : List (Nat × Bool)) : (s.setMarks x).engines = s.engines := rfl
@[simp] theorem State.setMarks_reels (s : State) (x : List (Nat × Bool)) : (s.setMarks x).reels = s.reels := rfl
@[simp] theorem State.setMarks_banks (s : State) (x : List (Nat × Bool)) : (s.setMarks x).banks = s.banks := rfl
@[simp] theorem State.setMarks_dmas (s : State) (x : List (Nat × Bool)) : (s.setMarks x).dmas = s.dmas := rfl
@[simp] theorem State.setMarks_cores (s : State) (x : List (Nat × Bool)) : (s.setMarks x).cores = s.cores := rfl
@[simp] theorem State.setMarks_serials (s : State) (x : List (Nat × Bool)) : (s.setMarks x).serials = s.serials := rfl
@[simp] theorem State.setMarks_free (s : State) (x : List (Nat × Bool)) : (s.setMarks x).free = s.free := rfl
@[simp] theorem State.setMarks_pending (s : State) (x : List (Nat × Bool)) : (s.setMarks x).pending = s.pending := rfl
@[simp] theorem State.setBus_now (s : State) (x : Access) : (s.setBus x).now = s.now := rfl
@[simp] theorem State.setBus_tcRun (s : State) (x : Access) : (s.setBus x).tcRun = s.tcRun := rfl
@[simp] theorem State.setBus_tcSaved (s : State) (x : Access) : (s.setBus x).tcSaved = s.tcSaved := rfl
@[simp] theorem State.setBus_syncWait (s : State) (x : Access) : (s.setBus x).syncWait = s.syncWait := rfl
@[simp] theorem State.setBus_fields (s : State) (x : Access) : (s.setBus x).fields = s.fields := rfl
@[simp] theorem State.setBus_mem (s : State) (x : Access) : (s.setBus x).mem = s.mem := rfl
@[simp] theorem State.setBus_marks (s : State) (x : Access) : (s.setBus x).marks = s.marks := rfl
@[simp] theorem State.setBus_bus (s : State) (x : Access) : (s.setBus x).bus = x := rfl
@[simp] theorem State.setBus_held (s : State) (x : Access) : (s.setBus x).held = s.held := rfl
@[simp] theorem State.setBus_events (s : State) (x : Access) : (s.setBus x).events = s.events := rfl
@[simp] theorem State.setBus_reports (s : State) (x : Access) : (s.setBus x).reports = s.reports := rfl
@[simp] theorem State.setBus_trigAt (s : State) (x : Access) : (s.setBus x).trigAt = s.trigAt := rfl
@[simp] theorem State.setBus_trim (s : State) (x : Access) : (s.setBus x).trim = s.trim := rfl
@[simp] theorem State.setBus_calGen (s : State) (x : Access) : (s.setBus x).calGen = s.calGen := rfl
@[simp] theorem State.setBus_calEnd (s : State) (x : Access) : (s.setBus x).calEnd = s.calEnd := rfl
@[simp] theorem State.setBus_portWrites (s : State) (x : Access) : (s.setBus x).portWrites = s.portWrites := rfl
@[simp] theorem State.setBus_latFlight (s : State) (x : Access) : (s.setBus x).latFlight = s.latFlight := rfl
@[simp] theorem State.setBus_cut (s : State) (x : Access) : (s.setBus x).cut = s.cut := rfl
@[simp] theorem State.setBus_laneTest (s : State) (x : Access) : (s.setBus x).laneTest = s.laneTest := rfl
@[simp] theorem State.setBus_gafQueue (s : State) (x : Access) : (s.setBus x).gafQueue = s.gafQueue := rfl
@[simp] theorem State.setBus_starts (s : State) (x : Access) : (s.setBus x).starts = s.starts := rfl
@[simp] theorem State.setBus_zoneLast (s : State) (x : Access) : (s.setBus x).zoneLast = s.zoneLast := rfl
@[simp] theorem State.setBus_slateOut (s : State) (x : Access) : (s.setBus x).slateOut = s.slateOut := rfl
@[simp] theorem State.setBus_engIn (s : State) (x : Access) : (s.setBus x).engIn = s.engIn := rfl
@[simp] theorem State.setBus_engTrigs (s : State) (x : Access) : (s.setBus x).engTrigs = s.engTrigs := rfl
@[simp] theorem State.setBus_engNeg (s : State) (x : Access) : (s.setBus x).engNeg = s.engNeg := rfl
@[simp] theorem State.setBus_reelQ (s : State) (x : Access) : (s.setBus x).reelQ = s.reelQ := rfl
@[simp] theorem State.setBus_xfer (s : State) (x : Access) : (s.setBus x).xfer = s.xfer := rfl
@[simp] theorem State.setBus_patrol (s : State) (x : Access) : (s.setBus x).patrol = s.patrol := rfl
@[simp] theorem State.setBus_ddrCap (s : State) (x : Access) : (s.setBus x).ddrCap = s.ddrCap := rfl
@[simp] theorem State.setBus_flash (s : State) (x : Access) : (s.setBus x).flash = s.flash := rfl
@[simp] theorem State.setBus_recs (s : State) (x : Access) : (s.setBus x).recs = s.recs := rfl
@[simp] theorem State.setBus_ctu (s : State) (x : Access) : (s.setBus x).ctu = s.ctu := rfl
@[simp] theorem State.setBus_image (s : State) (x : Access) : (s.setBus x).image = s.image := rfl
@[simp] theorem State.setBus_gaf (s : State) (x : Access) : (s.setBus x).gaf = s.gaf := rfl
@[simp] theorem State.setBus_power (s : State) (x : Access) : (s.setBus x).power = s.power := rfl
@[simp] theorem State.setBus_otp (s : State) (x : Access) : (s.setBus x).otp = s.otp := rfl
@[simp] theorem State.setBus_boot (s : State) (x : Access) : (s.setBus x).boot = s.boot := rfl
@[simp] theorem State.setBus_sec (s : State) (x : Access) : (s.setBus x).sec = s.sec := rfl
@[simp] theorem State.setBus_link (s : State) (x : Access) : (s.setBus x).link = s.link := rfl
@[simp] theorem State.setBus_rushes (s : State) (x : Access) : (s.setBus x).rushes = s.rushes := rfl
@[simp] theorem State.setBus_sets (s : State) (x : Access) : (s.setBus x).sets = s.sets := rfl
@[simp] theorem State.setBus_cmps (s : State) (x : Access) : (s.setBus x).cmps = s.cmps := rfl
@[simp] theorem State.setBus_sessions (s : State) (x : Access) : (s.setBus x).sessions = s.sessions := rfl
@[simp] theorem State.setBus_feedback (s : State) (x : Access) : (s.setBus x).feedback = s.feedback := rfl
@[simp] theorem State.setBus_emus (s : State) (x : Access) : (s.setBus x).emus = s.emus := rfl
@[simp] theorem State.setBus_ports (s : State) (x : Access) : (s.setBus x).ports = s.ports := rfl
@[simp] theorem State.setBus_engines (s : State) (x : Access) : (s.setBus x).engines = s.engines := rfl
@[simp] theorem State.setBus_reels (s : State) (x : Access) : (s.setBus x).reels = s.reels := rfl
@[simp] theorem State.setBus_banks (s : State) (x : Access) : (s.setBus x).banks = s.banks := rfl
@[simp] theorem State.setBus_dmas (s : State) (x : Access) : (s.setBus x).dmas = s.dmas := rfl
@[simp] theorem State.setBus_cores (s : State) (x : Access) : (s.setBus x).cores = s.cores := rfl
@[simp] theorem State.setBus_serials (s : State) (x : Access) : (s.setBus x).serials = s.serials := rfl
@[simp] theorem State.setBus_free (s : State) (x : Access) : (s.setBus x).free = s.free := rfl
@[simp] theorem State.setBus_pending (s : State) (x : Access) : (s.setBus x).pending = s.pending := rfl
@[simp] theorem State.setHeld_now (s : State) (x : List HeldAccess) : (s.setHeld x).now = s.now := rfl
@[simp] theorem State.setHeld_tcRun (s : State) (x : List HeldAccess) : (s.setHeld x).tcRun = s.tcRun := rfl
@[simp] theorem State.setHeld_tcSaved (s : State) (x : List HeldAccess) : (s.setHeld x).tcSaved = s.tcSaved := rfl
@[simp] theorem State.setHeld_syncWait (s : State) (x : List HeldAccess) : (s.setHeld x).syncWait = s.syncWait := rfl
@[simp] theorem State.setHeld_fields (s : State) (x : List HeldAccess) : (s.setHeld x).fields = s.fields := rfl
@[simp] theorem State.setHeld_mem (s : State) (x : List HeldAccess) : (s.setHeld x).mem = s.mem := rfl
@[simp] theorem State.setHeld_marks (s : State) (x : List HeldAccess) : (s.setHeld x).marks = s.marks := rfl
@[simp] theorem State.setHeld_bus (s : State) (x : List HeldAccess) : (s.setHeld x).bus = s.bus := rfl
@[simp] theorem State.setHeld_held (s : State) (x : List HeldAccess) : (s.setHeld x).held = x := rfl
@[simp] theorem State.setHeld_events (s : State) (x : List HeldAccess) : (s.setHeld x).events = s.events := rfl
@[simp] theorem State.setHeld_reports (s : State) (x : List HeldAccess) : (s.setHeld x).reports = s.reports := rfl
@[simp] theorem State.setHeld_trigAt (s : State) (x : List HeldAccess) : (s.setHeld x).trigAt = s.trigAt := rfl
@[simp] theorem State.setHeld_trim (s : State) (x : List HeldAccess) : (s.setHeld x).trim = s.trim := rfl
@[simp] theorem State.setHeld_calGen (s : State) (x : List HeldAccess) : (s.setHeld x).calGen = s.calGen := rfl
@[simp] theorem State.setHeld_calEnd (s : State) (x : List HeldAccess) : (s.setHeld x).calEnd = s.calEnd := rfl
@[simp] theorem State.setHeld_portWrites (s : State) (x : List HeldAccess) : (s.setHeld x).portWrites = s.portWrites := rfl
@[simp] theorem State.setHeld_latFlight (s : State) (x : List HeldAccess) : (s.setHeld x).latFlight = s.latFlight := rfl
@[simp] theorem State.setHeld_cut (s : State) (x : List HeldAccess) : (s.setHeld x).cut = s.cut := rfl
@[simp] theorem State.setHeld_laneTest (s : State) (x : List HeldAccess) : (s.setHeld x).laneTest = s.laneTest := rfl
@[simp] theorem State.setHeld_gafQueue (s : State) (x : List HeldAccess) : (s.setHeld x).gafQueue = s.gafQueue := rfl
@[simp] theorem State.setHeld_starts (s : State) (x : List HeldAccess) : (s.setHeld x).starts = s.starts := rfl
@[simp] theorem State.setHeld_zoneLast (s : State) (x : List HeldAccess) : (s.setHeld x).zoneLast = s.zoneLast := rfl
@[simp] theorem State.setHeld_slateOut (s : State) (x : List HeldAccess) : (s.setHeld x).slateOut = s.slateOut := rfl
@[simp] theorem State.setHeld_engIn (s : State) (x : List HeldAccess) : (s.setHeld x).engIn = s.engIn := rfl
@[simp] theorem State.setHeld_engTrigs (s : State) (x : List HeldAccess) : (s.setHeld x).engTrigs = s.engTrigs := rfl
@[simp] theorem State.setHeld_engNeg (s : State) (x : List HeldAccess) : (s.setHeld x).engNeg = s.engNeg := rfl
@[simp] theorem State.setHeld_reelQ (s : State) (x : List HeldAccess) : (s.setHeld x).reelQ = s.reelQ := rfl
@[simp] theorem State.setHeld_xfer (s : State) (x : List HeldAccess) : (s.setHeld x).xfer = s.xfer := rfl
@[simp] theorem State.setHeld_patrol (s : State) (x : List HeldAccess) : (s.setHeld x).patrol = s.patrol := rfl
@[simp] theorem State.setHeld_ddrCap (s : State) (x : List HeldAccess) : (s.setHeld x).ddrCap = s.ddrCap := rfl
@[simp] theorem State.setHeld_flash (s : State) (x : List HeldAccess) : (s.setHeld x).flash = s.flash := rfl
@[simp] theorem State.setHeld_recs (s : State) (x : List HeldAccess) : (s.setHeld x).recs = s.recs := rfl
@[simp] theorem State.setHeld_ctu (s : State) (x : List HeldAccess) : (s.setHeld x).ctu = s.ctu := rfl
@[simp] theorem State.setHeld_image (s : State) (x : List HeldAccess) : (s.setHeld x).image = s.image := rfl
@[simp] theorem State.setHeld_gaf (s : State) (x : List HeldAccess) : (s.setHeld x).gaf = s.gaf := rfl
@[simp] theorem State.setHeld_power (s : State) (x : List HeldAccess) : (s.setHeld x).power = s.power := rfl
@[simp] theorem State.setHeld_otp (s : State) (x : List HeldAccess) : (s.setHeld x).otp = s.otp := rfl
@[simp] theorem State.setHeld_boot (s : State) (x : List HeldAccess) : (s.setHeld x).boot = s.boot := rfl
@[simp] theorem State.setHeld_sec (s : State) (x : List HeldAccess) : (s.setHeld x).sec = s.sec := rfl
@[simp] theorem State.setHeld_link (s : State) (x : List HeldAccess) : (s.setHeld x).link = s.link := rfl
@[simp] theorem State.setHeld_rushes (s : State) (x : List HeldAccess) : (s.setHeld x).rushes = s.rushes := rfl
@[simp] theorem State.setHeld_sets (s : State) (x : List HeldAccess) : (s.setHeld x).sets = s.sets := rfl
@[simp] theorem State.setHeld_cmps (s : State) (x : List HeldAccess) : (s.setHeld x).cmps = s.cmps := rfl
@[simp] theorem State.setHeld_sessions (s : State) (x : List HeldAccess) : (s.setHeld x).sessions = s.sessions := rfl
@[simp] theorem State.setHeld_feedback (s : State) (x : List HeldAccess) : (s.setHeld x).feedback = s.feedback := rfl
@[simp] theorem State.setHeld_emus (s : State) (x : List HeldAccess) : (s.setHeld x).emus = s.emus := rfl
@[simp] theorem State.setHeld_ports (s : State) (x : List HeldAccess) : (s.setHeld x).ports = s.ports := rfl
@[simp] theorem State.setHeld_engines (s : State) (x : List HeldAccess) : (s.setHeld x).engines = s.engines := rfl
@[simp] theorem State.setHeld_reels (s : State) (x : List HeldAccess) : (s.setHeld x).reels = s.reels := rfl
@[simp] theorem State.setHeld_banks (s : State) (x : List HeldAccess) : (s.setHeld x).banks = s.banks := rfl
@[simp] theorem State.setHeld_dmas (s : State) (x : List HeldAccess) : (s.setHeld x).dmas = s.dmas := rfl
@[simp] theorem State.setHeld_cores (s : State) (x : List HeldAccess) : (s.setHeld x).cores = s.cores := rfl
@[simp] theorem State.setHeld_serials (s : State) (x : List HeldAccess) : (s.setHeld x).serials = s.serials := rfl
@[simp] theorem State.setHeld_free (s : State) (x : List HeldAccess) : (s.setHeld x).free = s.free := rfl
@[simp] theorem State.setHeld_pending (s : State) (x : List HeldAccess) : (s.setHeld x).pending = s.pending := rfl
@[simp] theorem State.setEvents_now (s : State) (x : List Ev) : (s.setEvents x).now = s.now := rfl
@[simp] theorem State.setEvents_tcRun (s : State) (x : List Ev) : (s.setEvents x).tcRun = s.tcRun := rfl
@[simp] theorem State.setEvents_tcSaved (s : State) (x : List Ev) : (s.setEvents x).tcSaved = s.tcSaved := rfl
@[simp] theorem State.setEvents_syncWait (s : State) (x : List Ev) : (s.setEvents x).syncWait = s.syncWait := rfl
@[simp] theorem State.setEvents_fields (s : State) (x : List Ev) : (s.setEvents x).fields = s.fields := rfl
@[simp] theorem State.setEvents_mem (s : State) (x : List Ev) : (s.setEvents x).mem = s.mem := rfl
@[simp] theorem State.setEvents_marks (s : State) (x : List Ev) : (s.setEvents x).marks = s.marks := rfl
@[simp] theorem State.setEvents_bus (s : State) (x : List Ev) : (s.setEvents x).bus = s.bus := rfl
@[simp] theorem State.setEvents_held (s : State) (x : List Ev) : (s.setEvents x).held = s.held := rfl
@[simp] theorem State.setEvents_events (s : State) (x : List Ev) : (s.setEvents x).events = x := rfl
@[simp] theorem State.setEvents_reports (s : State) (x : List Ev) : (s.setEvents x).reports = s.reports := rfl
@[simp] theorem State.setEvents_trigAt (s : State) (x : List Ev) : (s.setEvents x).trigAt = s.trigAt := rfl
@[simp] theorem State.setEvents_trim (s : State) (x : List Ev) : (s.setEvents x).trim = s.trim := rfl
@[simp] theorem State.setEvents_calGen (s : State) (x : List Ev) : (s.setEvents x).calGen = s.calGen := rfl
@[simp] theorem State.setEvents_calEnd (s : State) (x : List Ev) : (s.setEvents x).calEnd = s.calEnd := rfl
@[simp] theorem State.setEvents_portWrites (s : State) (x : List Ev) : (s.setEvents x).portWrites = s.portWrites := rfl
@[simp] theorem State.setEvents_latFlight (s : State) (x : List Ev) : (s.setEvents x).latFlight = s.latFlight := rfl
@[simp] theorem State.setEvents_cut (s : State) (x : List Ev) : (s.setEvents x).cut = s.cut := rfl
@[simp] theorem State.setEvents_laneTest (s : State) (x : List Ev) : (s.setEvents x).laneTest = s.laneTest := rfl
@[simp] theorem State.setEvents_gafQueue (s : State) (x : List Ev) : (s.setEvents x).gafQueue = s.gafQueue := rfl
@[simp] theorem State.setEvents_starts (s : State) (x : List Ev) : (s.setEvents x).starts = s.starts := rfl
@[simp] theorem State.setEvents_zoneLast (s : State) (x : List Ev) : (s.setEvents x).zoneLast = s.zoneLast := rfl
@[simp] theorem State.setEvents_slateOut (s : State) (x : List Ev) : (s.setEvents x).slateOut = s.slateOut := rfl
@[simp] theorem State.setEvents_engIn (s : State) (x : List Ev) : (s.setEvents x).engIn = s.engIn := rfl
@[simp] theorem State.setEvents_engTrigs (s : State) (x : List Ev) : (s.setEvents x).engTrigs = s.engTrigs := rfl
@[simp] theorem State.setEvents_engNeg (s : State) (x : List Ev) : (s.setEvents x).engNeg = s.engNeg := rfl
@[simp] theorem State.setEvents_reelQ (s : State) (x : List Ev) : (s.setEvents x).reelQ = s.reelQ := rfl
@[simp] theorem State.setEvents_xfer (s : State) (x : List Ev) : (s.setEvents x).xfer = s.xfer := rfl
@[simp] theorem State.setEvents_patrol (s : State) (x : List Ev) : (s.setEvents x).patrol = s.patrol := rfl
@[simp] theorem State.setEvents_ddrCap (s : State) (x : List Ev) : (s.setEvents x).ddrCap = s.ddrCap := rfl
@[simp] theorem State.setEvents_flash (s : State) (x : List Ev) : (s.setEvents x).flash = s.flash := rfl
@[simp] theorem State.setEvents_recs (s : State) (x : List Ev) : (s.setEvents x).recs = s.recs := rfl
@[simp] theorem State.setEvents_ctu (s : State) (x : List Ev) : (s.setEvents x).ctu = s.ctu := rfl
@[simp] theorem State.setEvents_image (s : State) (x : List Ev) : (s.setEvents x).image = s.image := rfl
@[simp] theorem State.setEvents_gaf (s : State) (x : List Ev) : (s.setEvents x).gaf = s.gaf := rfl
@[simp] theorem State.setEvents_power (s : State) (x : List Ev) : (s.setEvents x).power = s.power := rfl
@[simp] theorem State.setEvents_otp (s : State) (x : List Ev) : (s.setEvents x).otp = s.otp := rfl
@[simp] theorem State.setEvents_boot (s : State) (x : List Ev) : (s.setEvents x).boot = s.boot := rfl
@[simp] theorem State.setEvents_sec (s : State) (x : List Ev) : (s.setEvents x).sec = s.sec := rfl
@[simp] theorem State.setEvents_link (s : State) (x : List Ev) : (s.setEvents x).link = s.link := rfl
@[simp] theorem State.setEvents_rushes (s : State) (x : List Ev) : (s.setEvents x).rushes = s.rushes := rfl
@[simp] theorem State.setEvents_sets (s : State) (x : List Ev) : (s.setEvents x).sets = s.sets := rfl
@[simp] theorem State.setEvents_cmps (s : State) (x : List Ev) : (s.setEvents x).cmps = s.cmps := rfl
@[simp] theorem State.setEvents_sessions (s : State) (x : List Ev) : (s.setEvents x).sessions = s.sessions := rfl
@[simp] theorem State.setEvents_feedback (s : State) (x : List Ev) : (s.setEvents x).feedback = s.feedback := rfl
@[simp] theorem State.setEvents_emus (s : State) (x : List Ev) : (s.setEvents x).emus = s.emus := rfl
@[simp] theorem State.setEvents_ports (s : State) (x : List Ev) : (s.setEvents x).ports = s.ports := rfl
@[simp] theorem State.setEvents_engines (s : State) (x : List Ev) : (s.setEvents x).engines = s.engines := rfl
@[simp] theorem State.setEvents_reels (s : State) (x : List Ev) : (s.setEvents x).reels = s.reels := rfl
@[simp] theorem State.setEvents_banks (s : State) (x : List Ev) : (s.setEvents x).banks = s.banks := rfl
@[simp] theorem State.setEvents_dmas (s : State) (x : List Ev) : (s.setEvents x).dmas = s.dmas := rfl
@[simp] theorem State.setEvents_cores (s : State) (x : List Ev) : (s.setEvents x).cores = s.cores := rfl
@[simp] theorem State.setEvents_serials (s : State) (x : List Ev) : (s.setEvents x).serials = s.serials := rfl
@[simp] theorem State.setEvents_free (s : State) (x : List Ev) : (s.setEvents x).free = s.free := rfl
@[simp] theorem State.setEvents_pending (s : State) (x : List Ev) : (s.setEvents x).pending = s.pending := rfl
@[simp] theorem State.setReports_now (s : State) (x : List Report) : (s.setReports x).now = s.now := rfl
@[simp] theorem State.setReports_tcRun (s : State) (x : List Report) : (s.setReports x).tcRun = s.tcRun := rfl
@[simp] theorem State.setReports_tcSaved (s : State) (x : List Report) : (s.setReports x).tcSaved = s.tcSaved := rfl
@[simp] theorem State.setReports_syncWait (s : State) (x : List Report) : (s.setReports x).syncWait = s.syncWait := rfl
@[simp] theorem State.setReports_fields (s : State) (x : List Report) : (s.setReports x).fields = s.fields := rfl
@[simp] theorem State.setReports_mem (s : State) (x : List Report) : (s.setReports x).mem = s.mem := rfl
@[simp] theorem State.setReports_marks (s : State) (x : List Report) : (s.setReports x).marks = s.marks := rfl
@[simp] theorem State.setReports_bus (s : State) (x : List Report) : (s.setReports x).bus = s.bus := rfl
@[simp] theorem State.setReports_held (s : State) (x : List Report) : (s.setReports x).held = s.held := rfl
@[simp] theorem State.setReports_events (s : State) (x : List Report) : (s.setReports x).events = s.events := rfl
@[simp] theorem State.setReports_reports (s : State) (x : List Report) : (s.setReports x).reports = x := rfl
@[simp] theorem State.setReports_trigAt (s : State) (x : List Report) : (s.setReports x).trigAt = s.trigAt := rfl
@[simp] theorem State.setReports_trim (s : State) (x : List Report) : (s.setReports x).trim = s.trim := rfl
@[simp] theorem State.setReports_calGen (s : State) (x : List Report) : (s.setReports x).calGen = s.calGen := rfl
@[simp] theorem State.setReports_calEnd (s : State) (x : List Report) : (s.setReports x).calEnd = s.calEnd := rfl
@[simp] theorem State.setReports_portWrites (s : State) (x : List Report) : (s.setReports x).portWrites = s.portWrites := rfl
@[simp] theorem State.setReports_latFlight (s : State) (x : List Report) : (s.setReports x).latFlight = s.latFlight := rfl
@[simp] theorem State.setReports_cut (s : State) (x : List Report) : (s.setReports x).cut = s.cut := rfl
@[simp] theorem State.setReports_laneTest (s : State) (x : List Report) : (s.setReports x).laneTest = s.laneTest := rfl
@[simp] theorem State.setReports_gafQueue (s : State) (x : List Report) : (s.setReports x).gafQueue = s.gafQueue := rfl
@[simp] theorem State.setReports_starts (s : State) (x : List Report) : (s.setReports x).starts = s.starts := rfl
@[simp] theorem State.setReports_zoneLast (s : State) (x : List Report) : (s.setReports x).zoneLast = s.zoneLast := rfl
@[simp] theorem State.setReports_slateOut (s : State) (x : List Report) : (s.setReports x).slateOut = s.slateOut := rfl
@[simp] theorem State.setReports_engIn (s : State) (x : List Report) : (s.setReports x).engIn = s.engIn := rfl
@[simp] theorem State.setReports_engTrigs (s : State) (x : List Report) : (s.setReports x).engTrigs = s.engTrigs := rfl
@[simp] theorem State.setReports_engNeg (s : State) (x : List Report) : (s.setReports x).engNeg = s.engNeg := rfl
@[simp] theorem State.setReports_reelQ (s : State) (x : List Report) : (s.setReports x).reelQ = s.reelQ := rfl
@[simp] theorem State.setReports_xfer (s : State) (x : List Report) : (s.setReports x).xfer = s.xfer := rfl
@[simp] theorem State.setReports_patrol (s : State) (x : List Report) : (s.setReports x).patrol = s.patrol := rfl
@[simp] theorem State.setReports_ddrCap (s : State) (x : List Report) : (s.setReports x).ddrCap = s.ddrCap := rfl
@[simp] theorem State.setReports_flash (s : State) (x : List Report) : (s.setReports x).flash = s.flash := rfl
@[simp] theorem State.setReports_recs (s : State) (x : List Report) : (s.setReports x).recs = s.recs := rfl
@[simp] theorem State.setReports_ctu (s : State) (x : List Report) : (s.setReports x).ctu = s.ctu := rfl
@[simp] theorem State.setReports_image (s : State) (x : List Report) : (s.setReports x).image = s.image := rfl
@[simp] theorem State.setReports_gaf (s : State) (x : List Report) : (s.setReports x).gaf = s.gaf := rfl
@[simp] theorem State.setReports_power (s : State) (x : List Report) : (s.setReports x).power = s.power := rfl
@[simp] theorem State.setReports_otp (s : State) (x : List Report) : (s.setReports x).otp = s.otp := rfl
@[simp] theorem State.setReports_boot (s : State) (x : List Report) : (s.setReports x).boot = s.boot := rfl
@[simp] theorem State.setReports_sec (s : State) (x : List Report) : (s.setReports x).sec = s.sec := rfl
@[simp] theorem State.setReports_link (s : State) (x : List Report) : (s.setReports x).link = s.link := rfl
@[simp] theorem State.setReports_rushes (s : State) (x : List Report) : (s.setReports x).rushes = s.rushes := rfl
@[simp] theorem State.setReports_sets (s : State) (x : List Report) : (s.setReports x).sets = s.sets := rfl
@[simp] theorem State.setReports_cmps (s : State) (x : List Report) : (s.setReports x).cmps = s.cmps := rfl
@[simp] theorem State.setReports_sessions (s : State) (x : List Report) : (s.setReports x).sessions = s.sessions := rfl
@[simp] theorem State.setReports_feedback (s : State) (x : List Report) : (s.setReports x).feedback = s.feedback := rfl
@[simp] theorem State.setReports_emus (s : State) (x : List Report) : (s.setReports x).emus = s.emus := rfl
@[simp] theorem State.setReports_ports (s : State) (x : List Report) : (s.setReports x).ports = s.ports := rfl
@[simp] theorem State.setReports_engines (s : State) (x : List Report) : (s.setReports x).engines = s.engines := rfl
@[simp] theorem State.setReports_reels (s : State) (x : List Report) : (s.setReports x).reels = s.reels := rfl
@[simp] theorem State.setReports_banks (s : State) (x : List Report) : (s.setReports x).banks = s.banks := rfl
@[simp] theorem State.setReports_dmas (s : State) (x : List Report) : (s.setReports x).dmas = s.dmas := rfl
@[simp] theorem State.setReports_cores (s : State) (x : List Report) : (s.setReports x).cores = s.cores := rfl
@[simp] theorem State.setReports_serials (s : State) (x : List Report) : (s.setReports x).serials = s.serials := rfl
@[simp] theorem State.setReports_free (s : State) (x : List Report) : (s.setReports x).free = s.free := rfl
@[simp] theorem State.setReports_pending (s : State) (x : List Report) : (s.setReports x).pending = s.pending := rfl
@[simp] theorem State.setTrigAt_now (s : State) (x : List TrigFly) : (s.setTrigAt x).now = s.now := rfl
@[simp] theorem State.setTrigAt_tcRun (s : State) (x : List TrigFly) : (s.setTrigAt x).tcRun = s.tcRun := rfl
@[simp] theorem State.setTrigAt_tcSaved (s : State) (x : List TrigFly) : (s.setTrigAt x).tcSaved = s.tcSaved := rfl
@[simp] theorem State.setTrigAt_syncWait (s : State) (x : List TrigFly) : (s.setTrigAt x).syncWait = s.syncWait := rfl
@[simp] theorem State.setTrigAt_fields (s : State) (x : List TrigFly) : (s.setTrigAt x).fields = s.fields := rfl
@[simp] theorem State.setTrigAt_mem (s : State) (x : List TrigFly) : (s.setTrigAt x).mem = s.mem := rfl
@[simp] theorem State.setTrigAt_marks (s : State) (x : List TrigFly) : (s.setTrigAt x).marks = s.marks := rfl
@[simp] theorem State.setTrigAt_bus (s : State) (x : List TrigFly) : (s.setTrigAt x).bus = s.bus := rfl
@[simp] theorem State.setTrigAt_held (s : State) (x : List TrigFly) : (s.setTrigAt x).held = s.held := rfl
@[simp] theorem State.setTrigAt_events (s : State) (x : List TrigFly) : (s.setTrigAt x).events = s.events := rfl
@[simp] theorem State.setTrigAt_reports (s : State) (x : List TrigFly) : (s.setTrigAt x).reports = s.reports := rfl
@[simp] theorem State.setTrigAt_trigAt (s : State) (x : List TrigFly) : (s.setTrigAt x).trigAt = x := rfl
@[simp] theorem State.setTrigAt_trim (s : State) (x : List TrigFly) : (s.setTrigAt x).trim = s.trim := rfl
@[simp] theorem State.setTrigAt_calGen (s : State) (x : List TrigFly) : (s.setTrigAt x).calGen = s.calGen := rfl
@[simp] theorem State.setTrigAt_calEnd (s : State) (x : List TrigFly) : (s.setTrigAt x).calEnd = s.calEnd := rfl
@[simp] theorem State.setTrigAt_portWrites (s : State) (x : List TrigFly) : (s.setTrigAt x).portWrites = s.portWrites := rfl
@[simp] theorem State.setTrigAt_latFlight (s : State) (x : List TrigFly) : (s.setTrigAt x).latFlight = s.latFlight := rfl
@[simp] theorem State.setTrigAt_cut (s : State) (x : List TrigFly) : (s.setTrigAt x).cut = s.cut := rfl
@[simp] theorem State.setTrigAt_laneTest (s : State) (x : List TrigFly) : (s.setTrigAt x).laneTest = s.laneTest := rfl
@[simp] theorem State.setTrigAt_gafQueue (s : State) (x : List TrigFly) : (s.setTrigAt x).gafQueue = s.gafQueue := rfl
@[simp] theorem State.setTrigAt_starts (s : State) (x : List TrigFly) : (s.setTrigAt x).starts = s.starts := rfl
@[simp] theorem State.setTrigAt_zoneLast (s : State) (x : List TrigFly) : (s.setTrigAt x).zoneLast = s.zoneLast := rfl
@[simp] theorem State.setTrigAt_slateOut (s : State) (x : List TrigFly) : (s.setTrigAt x).slateOut = s.slateOut := rfl
@[simp] theorem State.setTrigAt_engIn (s : State) (x : List TrigFly) : (s.setTrigAt x).engIn = s.engIn := rfl
@[simp] theorem State.setTrigAt_engTrigs (s : State) (x : List TrigFly) : (s.setTrigAt x).engTrigs = s.engTrigs := rfl
@[simp] theorem State.setTrigAt_engNeg (s : State) (x : List TrigFly) : (s.setTrigAt x).engNeg = s.engNeg := rfl
@[simp] theorem State.setTrigAt_reelQ (s : State) (x : List TrigFly) : (s.setTrigAt x).reelQ = s.reelQ := rfl
@[simp] theorem State.setTrigAt_xfer (s : State) (x : List TrigFly) : (s.setTrigAt x).xfer = s.xfer := rfl
@[simp] theorem State.setTrigAt_patrol (s : State) (x : List TrigFly) : (s.setTrigAt x).patrol = s.patrol := rfl
@[simp] theorem State.setTrigAt_ddrCap (s : State) (x : List TrigFly) : (s.setTrigAt x).ddrCap = s.ddrCap := rfl
@[simp] theorem State.setTrigAt_flash (s : State) (x : List TrigFly) : (s.setTrigAt x).flash = s.flash := rfl
@[simp] theorem State.setTrigAt_recs (s : State) (x : List TrigFly) : (s.setTrigAt x).recs = s.recs := rfl
@[simp] theorem State.setTrigAt_ctu (s : State) (x : List TrigFly) : (s.setTrigAt x).ctu = s.ctu := rfl
@[simp] theorem State.setTrigAt_image (s : State) (x : List TrigFly) : (s.setTrigAt x).image = s.image := rfl
@[simp] theorem State.setTrigAt_gaf (s : State) (x : List TrigFly) : (s.setTrigAt x).gaf = s.gaf := rfl
@[simp] theorem State.setTrigAt_power (s : State) (x : List TrigFly) : (s.setTrigAt x).power = s.power := rfl
@[simp] theorem State.setTrigAt_otp (s : State) (x : List TrigFly) : (s.setTrigAt x).otp = s.otp := rfl
@[simp] theorem State.setTrigAt_boot (s : State) (x : List TrigFly) : (s.setTrigAt x).boot = s.boot := rfl
@[simp] theorem State.setTrigAt_sec (s : State) (x : List TrigFly) : (s.setTrigAt x).sec = s.sec := rfl
@[simp] theorem State.setTrigAt_link (s : State) (x : List TrigFly) : (s.setTrigAt x).link = s.link := rfl
@[simp] theorem State.setTrigAt_rushes (s : State) (x : List TrigFly) : (s.setTrigAt x).rushes = s.rushes := rfl
@[simp] theorem State.setTrigAt_sets (s : State) (x : List TrigFly) : (s.setTrigAt x).sets = s.sets := rfl
@[simp] theorem State.setTrigAt_cmps (s : State) (x : List TrigFly) : (s.setTrigAt x).cmps = s.cmps := rfl
@[simp] theorem State.setTrigAt_sessions (s : State) (x : List TrigFly) : (s.setTrigAt x).sessions = s.sessions := rfl
@[simp] theorem State.setTrigAt_feedback (s : State) (x : List TrigFly) : (s.setTrigAt x).feedback = s.feedback := rfl
@[simp] theorem State.setTrigAt_emus (s : State) (x : List TrigFly) : (s.setTrigAt x).emus = s.emus := rfl
@[simp] theorem State.setTrigAt_ports (s : State) (x : List TrigFly) : (s.setTrigAt x).ports = s.ports := rfl
@[simp] theorem State.setTrigAt_engines (s : State) (x : List TrigFly) : (s.setTrigAt x).engines = s.engines := rfl
@[simp] theorem State.setTrigAt_reels (s : State) (x : List TrigFly) : (s.setTrigAt x).reels = s.reels := rfl
@[simp] theorem State.setTrigAt_banks (s : State) (x : List TrigFly) : (s.setTrigAt x).banks = s.banks := rfl
@[simp] theorem State.setTrigAt_dmas (s : State) (x : List TrigFly) : (s.setTrigAt x).dmas = s.dmas := rfl
@[simp] theorem State.setTrigAt_cores (s : State) (x : List TrigFly) : (s.setTrigAt x).cores = s.cores := rfl
@[simp] theorem State.setTrigAt_serials (s : State) (x : List TrigFly) : (s.setTrigAt x).serials = s.serials := rfl
@[simp] theorem State.setTrigAt_free (s : State) (x : List TrigFly) : (s.setTrigAt x).free = s.free := rfl
@[simp] theorem State.setTrigAt_pending (s : State) (x : List TrigFly) : (s.setTrigAt x).pending = s.pending := rfl
@[simp] theorem State.setTrim_now (s : State) (x : List Nat) : (s.setTrim x).now = s.now := rfl
@[simp] theorem State.setTrim_tcRun (s : State) (x : List Nat) : (s.setTrim x).tcRun = s.tcRun := rfl
@[simp] theorem State.setTrim_tcSaved (s : State) (x : List Nat) : (s.setTrim x).tcSaved = s.tcSaved := rfl
@[simp] theorem State.setTrim_syncWait (s : State) (x : List Nat) : (s.setTrim x).syncWait = s.syncWait := rfl
@[simp] theorem State.setTrim_fields (s : State) (x : List Nat) : (s.setTrim x).fields = s.fields := rfl
@[simp] theorem State.setTrim_mem (s : State) (x : List Nat) : (s.setTrim x).mem = s.mem := rfl
@[simp] theorem State.setTrim_marks (s : State) (x : List Nat) : (s.setTrim x).marks = s.marks := rfl
@[simp] theorem State.setTrim_bus (s : State) (x : List Nat) : (s.setTrim x).bus = s.bus := rfl
@[simp] theorem State.setTrim_held (s : State) (x : List Nat) : (s.setTrim x).held = s.held := rfl
@[simp] theorem State.setTrim_events (s : State) (x : List Nat) : (s.setTrim x).events = s.events := rfl
@[simp] theorem State.setTrim_reports (s : State) (x : List Nat) : (s.setTrim x).reports = s.reports := rfl
@[simp] theorem State.setTrim_trigAt (s : State) (x : List Nat) : (s.setTrim x).trigAt = s.trigAt := rfl
@[simp] theorem State.setTrim_trim (s : State) (x : List Nat) : (s.setTrim x).trim = x := rfl
@[simp] theorem State.setTrim_calGen (s : State) (x : List Nat) : (s.setTrim x).calGen = s.calGen := rfl
@[simp] theorem State.setTrim_calEnd (s : State) (x : List Nat) : (s.setTrim x).calEnd = s.calEnd := rfl
@[simp] theorem State.setTrim_portWrites (s : State) (x : List Nat) : (s.setTrim x).portWrites = s.portWrites := rfl
@[simp] theorem State.setTrim_latFlight (s : State) (x : List Nat) : (s.setTrim x).latFlight = s.latFlight := rfl
@[simp] theorem State.setTrim_cut (s : State) (x : List Nat) : (s.setTrim x).cut = s.cut := rfl
@[simp] theorem State.setTrim_laneTest (s : State) (x : List Nat) : (s.setTrim x).laneTest = s.laneTest := rfl
@[simp] theorem State.setTrim_gafQueue (s : State) (x : List Nat) : (s.setTrim x).gafQueue = s.gafQueue := rfl
@[simp] theorem State.setTrim_starts (s : State) (x : List Nat) : (s.setTrim x).starts = s.starts := rfl
@[simp] theorem State.setTrim_zoneLast (s : State) (x : List Nat) : (s.setTrim x).zoneLast = s.zoneLast := rfl
@[simp] theorem State.setTrim_slateOut (s : State) (x : List Nat) : (s.setTrim x).slateOut = s.slateOut := rfl
@[simp] theorem State.setTrim_engIn (s : State) (x : List Nat) : (s.setTrim x).engIn = s.engIn := rfl
@[simp] theorem State.setTrim_engTrigs (s : State) (x : List Nat) : (s.setTrim x).engTrigs = s.engTrigs := rfl
@[simp] theorem State.setTrim_engNeg (s : State) (x : List Nat) : (s.setTrim x).engNeg = s.engNeg := rfl
@[simp] theorem State.setTrim_reelQ (s : State) (x : List Nat) : (s.setTrim x).reelQ = s.reelQ := rfl
@[simp] theorem State.setTrim_xfer (s : State) (x : List Nat) : (s.setTrim x).xfer = s.xfer := rfl
@[simp] theorem State.setTrim_patrol (s : State) (x : List Nat) : (s.setTrim x).patrol = s.patrol := rfl
@[simp] theorem State.setTrim_ddrCap (s : State) (x : List Nat) : (s.setTrim x).ddrCap = s.ddrCap := rfl
@[simp] theorem State.setTrim_flash (s : State) (x : List Nat) : (s.setTrim x).flash = s.flash := rfl
@[simp] theorem State.setTrim_recs (s : State) (x : List Nat) : (s.setTrim x).recs = s.recs := rfl
@[simp] theorem State.setTrim_ctu (s : State) (x : List Nat) : (s.setTrim x).ctu = s.ctu := rfl
@[simp] theorem State.setTrim_image (s : State) (x : List Nat) : (s.setTrim x).image = s.image := rfl
@[simp] theorem State.setTrim_gaf (s : State) (x : List Nat) : (s.setTrim x).gaf = s.gaf := rfl
@[simp] theorem State.setTrim_power (s : State) (x : List Nat) : (s.setTrim x).power = s.power := rfl
@[simp] theorem State.setTrim_otp (s : State) (x : List Nat) : (s.setTrim x).otp = s.otp := rfl
@[simp] theorem State.setTrim_boot (s : State) (x : List Nat) : (s.setTrim x).boot = s.boot := rfl
@[simp] theorem State.setTrim_sec (s : State) (x : List Nat) : (s.setTrim x).sec = s.sec := rfl
@[simp] theorem State.setTrim_link (s : State) (x : List Nat) : (s.setTrim x).link = s.link := rfl
@[simp] theorem State.setTrim_rushes (s : State) (x : List Nat) : (s.setTrim x).rushes = s.rushes := rfl
@[simp] theorem State.setTrim_sets (s : State) (x : List Nat) : (s.setTrim x).sets = s.sets := rfl
@[simp] theorem State.setTrim_cmps (s : State) (x : List Nat) : (s.setTrim x).cmps = s.cmps := rfl
@[simp] theorem State.setTrim_sessions (s : State) (x : List Nat) : (s.setTrim x).sessions = s.sessions := rfl
@[simp] theorem State.setTrim_feedback (s : State) (x : List Nat) : (s.setTrim x).feedback = s.feedback := rfl
@[simp] theorem State.setTrim_emus (s : State) (x : List Nat) : (s.setTrim x).emus = s.emus := rfl
@[simp] theorem State.setTrim_ports (s : State) (x : List Nat) : (s.setTrim x).ports = s.ports := rfl
@[simp] theorem State.setTrim_engines (s : State) (x : List Nat) : (s.setTrim x).engines = s.engines := rfl
@[simp] theorem State.setTrim_reels (s : State) (x : List Nat) : (s.setTrim x).reels = s.reels := rfl
@[simp] theorem State.setTrim_banks (s : State) (x : List Nat) : (s.setTrim x).banks = s.banks := rfl
@[simp] theorem State.setTrim_dmas (s : State) (x : List Nat) : (s.setTrim x).dmas = s.dmas := rfl
@[simp] theorem State.setTrim_cores (s : State) (x : List Nat) : (s.setTrim x).cores = s.cores := rfl
@[simp] theorem State.setTrim_serials (s : State) (x : List Nat) : (s.setTrim x).serials = s.serials := rfl
@[simp] theorem State.setTrim_free (s : State) (x : List Nat) : (s.setTrim x).free = s.free := rfl
@[simp] theorem State.setTrim_pending (s : State) (x : List Nat) : (s.setTrim x).pending = s.pending := rfl
@[simp] theorem State.setCalGen_now (s : State) (x : Nat) : (s.setCalGen x).now = s.now := rfl
@[simp] theorem State.setCalGen_tcRun (s : State) (x : Nat) : (s.setCalGen x).tcRun = s.tcRun := rfl
@[simp] theorem State.setCalGen_tcSaved (s : State) (x : Nat) : (s.setCalGen x).tcSaved = s.tcSaved := rfl
@[simp] theorem State.setCalGen_syncWait (s : State) (x : Nat) : (s.setCalGen x).syncWait = s.syncWait := rfl
@[simp] theorem State.setCalGen_fields (s : State) (x : Nat) : (s.setCalGen x).fields = s.fields := rfl
@[simp] theorem State.setCalGen_mem (s : State) (x : Nat) : (s.setCalGen x).mem = s.mem := rfl
@[simp] theorem State.setCalGen_marks (s : State) (x : Nat) : (s.setCalGen x).marks = s.marks := rfl
@[simp] theorem State.setCalGen_bus (s : State) (x : Nat) : (s.setCalGen x).bus = s.bus := rfl
@[simp] theorem State.setCalGen_held (s : State) (x : Nat) : (s.setCalGen x).held = s.held := rfl
@[simp] theorem State.setCalGen_events (s : State) (x : Nat) : (s.setCalGen x).events = s.events := rfl
@[simp] theorem State.setCalGen_reports (s : State) (x : Nat) : (s.setCalGen x).reports = s.reports := rfl
@[simp] theorem State.setCalGen_trigAt (s : State) (x : Nat) : (s.setCalGen x).trigAt = s.trigAt := rfl
@[simp] theorem State.setCalGen_trim (s : State) (x : Nat) : (s.setCalGen x).trim = s.trim := rfl
@[simp] theorem State.setCalGen_calGen (s : State) (x : Nat) : (s.setCalGen x).calGen = x := rfl
@[simp] theorem State.setCalGen_calEnd (s : State) (x : Nat) : (s.setCalGen x).calEnd = s.calEnd := rfl
@[simp] theorem State.setCalGen_portWrites (s : State) (x : Nat) : (s.setCalGen x).portWrites = s.portWrites := rfl
@[simp] theorem State.setCalGen_latFlight (s : State) (x : Nat) : (s.setCalGen x).latFlight = s.latFlight := rfl
@[simp] theorem State.setCalGen_cut (s : State) (x : Nat) : (s.setCalGen x).cut = s.cut := rfl
@[simp] theorem State.setCalGen_laneTest (s : State) (x : Nat) : (s.setCalGen x).laneTest = s.laneTest := rfl
@[simp] theorem State.setCalGen_gafQueue (s : State) (x : Nat) : (s.setCalGen x).gafQueue = s.gafQueue := rfl
@[simp] theorem State.setCalGen_starts (s : State) (x : Nat) : (s.setCalGen x).starts = s.starts := rfl
@[simp] theorem State.setCalGen_zoneLast (s : State) (x : Nat) : (s.setCalGen x).zoneLast = s.zoneLast := rfl
@[simp] theorem State.setCalGen_slateOut (s : State) (x : Nat) : (s.setCalGen x).slateOut = s.slateOut := rfl
@[simp] theorem State.setCalGen_engIn (s : State) (x : Nat) : (s.setCalGen x).engIn = s.engIn := rfl
@[simp] theorem State.setCalGen_engTrigs (s : State) (x : Nat) : (s.setCalGen x).engTrigs = s.engTrigs := rfl
@[simp] theorem State.setCalGen_engNeg (s : State) (x : Nat) : (s.setCalGen x).engNeg = s.engNeg := rfl
@[simp] theorem State.setCalGen_reelQ (s : State) (x : Nat) : (s.setCalGen x).reelQ = s.reelQ := rfl
@[simp] theorem State.setCalGen_xfer (s : State) (x : Nat) : (s.setCalGen x).xfer = s.xfer := rfl
@[simp] theorem State.setCalGen_patrol (s : State) (x : Nat) : (s.setCalGen x).patrol = s.patrol := rfl
@[simp] theorem State.setCalGen_ddrCap (s : State) (x : Nat) : (s.setCalGen x).ddrCap = s.ddrCap := rfl
@[simp] theorem State.setCalGen_flash (s : State) (x : Nat) : (s.setCalGen x).flash = s.flash := rfl
@[simp] theorem State.setCalGen_recs (s : State) (x : Nat) : (s.setCalGen x).recs = s.recs := rfl
@[simp] theorem State.setCalGen_ctu (s : State) (x : Nat) : (s.setCalGen x).ctu = s.ctu := rfl
@[simp] theorem State.setCalGen_image (s : State) (x : Nat) : (s.setCalGen x).image = s.image := rfl
@[simp] theorem State.setCalGen_gaf (s : State) (x : Nat) : (s.setCalGen x).gaf = s.gaf := rfl
@[simp] theorem State.setCalGen_power (s : State) (x : Nat) : (s.setCalGen x).power = s.power := rfl
@[simp] theorem State.setCalGen_otp (s : State) (x : Nat) : (s.setCalGen x).otp = s.otp := rfl
@[simp] theorem State.setCalGen_boot (s : State) (x : Nat) : (s.setCalGen x).boot = s.boot := rfl
@[simp] theorem State.setCalGen_sec (s : State) (x : Nat) : (s.setCalGen x).sec = s.sec := rfl
@[simp] theorem State.setCalGen_link (s : State) (x : Nat) : (s.setCalGen x).link = s.link := rfl
@[simp] theorem State.setCalGen_rushes (s : State) (x : Nat) : (s.setCalGen x).rushes = s.rushes := rfl
@[simp] theorem State.setCalGen_sets (s : State) (x : Nat) : (s.setCalGen x).sets = s.sets := rfl
@[simp] theorem State.setCalGen_cmps (s : State) (x : Nat) : (s.setCalGen x).cmps = s.cmps := rfl
@[simp] theorem State.setCalGen_sessions (s : State) (x : Nat) : (s.setCalGen x).sessions = s.sessions := rfl
@[simp] theorem State.setCalGen_feedback (s : State) (x : Nat) : (s.setCalGen x).feedback = s.feedback := rfl
@[simp] theorem State.setCalGen_emus (s : State) (x : Nat) : (s.setCalGen x).emus = s.emus := rfl
@[simp] theorem State.setCalGen_ports (s : State) (x : Nat) : (s.setCalGen x).ports = s.ports := rfl
@[simp] theorem State.setCalGen_engines (s : State) (x : Nat) : (s.setCalGen x).engines = s.engines := rfl
@[simp] theorem State.setCalGen_reels (s : State) (x : Nat) : (s.setCalGen x).reels = s.reels := rfl
@[simp] theorem State.setCalGen_banks (s : State) (x : Nat) : (s.setCalGen x).banks = s.banks := rfl
@[simp] theorem State.setCalGen_dmas (s : State) (x : Nat) : (s.setCalGen x).dmas = s.dmas := rfl
@[simp] theorem State.setCalGen_cores (s : State) (x : Nat) : (s.setCalGen x).cores = s.cores := rfl
@[simp] theorem State.setCalGen_serials (s : State) (x : Nat) : (s.setCalGen x).serials = s.serials := rfl
@[simp] theorem State.setCalGen_free (s : State) (x : Nat) : (s.setCalGen x).free = s.free := rfl
@[simp] theorem State.setCalGen_pending (s : State) (x : Nat) : (s.setCalGen x).pending = s.pending := rfl
@[simp] theorem State.setCalEnd_now (s : State) (x : Nat) : (s.setCalEnd x).now = s.now := rfl
@[simp] theorem State.setCalEnd_tcRun (s : State) (x : Nat) : (s.setCalEnd x).tcRun = s.tcRun := rfl
@[simp] theorem State.setCalEnd_tcSaved (s : State) (x : Nat) : (s.setCalEnd x).tcSaved = s.tcSaved := rfl
@[simp] theorem State.setCalEnd_syncWait (s : State) (x : Nat) : (s.setCalEnd x).syncWait = s.syncWait := rfl
@[simp] theorem State.setCalEnd_fields (s : State) (x : Nat) : (s.setCalEnd x).fields = s.fields := rfl
@[simp] theorem State.setCalEnd_mem (s : State) (x : Nat) : (s.setCalEnd x).mem = s.mem := rfl
@[simp] theorem State.setCalEnd_marks (s : State) (x : Nat) : (s.setCalEnd x).marks = s.marks := rfl
@[simp] theorem State.setCalEnd_bus (s : State) (x : Nat) : (s.setCalEnd x).bus = s.bus := rfl
@[simp] theorem State.setCalEnd_held (s : State) (x : Nat) : (s.setCalEnd x).held = s.held := rfl
@[simp] theorem State.setCalEnd_events (s : State) (x : Nat) : (s.setCalEnd x).events = s.events := rfl
@[simp] theorem State.setCalEnd_reports (s : State) (x : Nat) : (s.setCalEnd x).reports = s.reports := rfl
@[simp] theorem State.setCalEnd_trigAt (s : State) (x : Nat) : (s.setCalEnd x).trigAt = s.trigAt := rfl
@[simp] theorem State.setCalEnd_trim (s : State) (x : Nat) : (s.setCalEnd x).trim = s.trim := rfl
@[simp] theorem State.setCalEnd_calGen (s : State) (x : Nat) : (s.setCalEnd x).calGen = s.calGen := rfl
@[simp] theorem State.setCalEnd_calEnd (s : State) (x : Nat) : (s.setCalEnd x).calEnd = x := rfl
@[simp] theorem State.setCalEnd_portWrites (s : State) (x : Nat) : (s.setCalEnd x).portWrites = s.portWrites := rfl
@[simp] theorem State.setCalEnd_latFlight (s : State) (x : Nat) : (s.setCalEnd x).latFlight = s.latFlight := rfl
@[simp] theorem State.setCalEnd_cut (s : State) (x : Nat) : (s.setCalEnd x).cut = s.cut := rfl
@[simp] theorem State.setCalEnd_laneTest (s : State) (x : Nat) : (s.setCalEnd x).laneTest = s.laneTest := rfl
@[simp] theorem State.setCalEnd_gafQueue (s : State) (x : Nat) : (s.setCalEnd x).gafQueue = s.gafQueue := rfl
@[simp] theorem State.setCalEnd_starts (s : State) (x : Nat) : (s.setCalEnd x).starts = s.starts := rfl
@[simp] theorem State.setCalEnd_zoneLast (s : State) (x : Nat) : (s.setCalEnd x).zoneLast = s.zoneLast := rfl
@[simp] theorem State.setCalEnd_slateOut (s : State) (x : Nat) : (s.setCalEnd x).slateOut = s.slateOut := rfl
@[simp] theorem State.setCalEnd_engIn (s : State) (x : Nat) : (s.setCalEnd x).engIn = s.engIn := rfl
@[simp] theorem State.setCalEnd_engTrigs (s : State) (x : Nat) : (s.setCalEnd x).engTrigs = s.engTrigs := rfl
@[simp] theorem State.setCalEnd_engNeg (s : State) (x : Nat) : (s.setCalEnd x).engNeg = s.engNeg := rfl
@[simp] theorem State.setCalEnd_reelQ (s : State) (x : Nat) : (s.setCalEnd x).reelQ = s.reelQ := rfl
@[simp] theorem State.setCalEnd_xfer (s : State) (x : Nat) : (s.setCalEnd x).xfer = s.xfer := rfl
@[simp] theorem State.setCalEnd_patrol (s : State) (x : Nat) : (s.setCalEnd x).patrol = s.patrol := rfl
@[simp] theorem State.setCalEnd_ddrCap (s : State) (x : Nat) : (s.setCalEnd x).ddrCap = s.ddrCap := rfl
@[simp] theorem State.setCalEnd_flash (s : State) (x : Nat) : (s.setCalEnd x).flash = s.flash := rfl
@[simp] theorem State.setCalEnd_recs (s : State) (x : Nat) : (s.setCalEnd x).recs = s.recs := rfl
@[simp] theorem State.setCalEnd_ctu (s : State) (x : Nat) : (s.setCalEnd x).ctu = s.ctu := rfl
@[simp] theorem State.setCalEnd_image (s : State) (x : Nat) : (s.setCalEnd x).image = s.image := rfl
@[simp] theorem State.setCalEnd_gaf (s : State) (x : Nat) : (s.setCalEnd x).gaf = s.gaf := rfl
@[simp] theorem State.setCalEnd_power (s : State) (x : Nat) : (s.setCalEnd x).power = s.power := rfl
@[simp] theorem State.setCalEnd_otp (s : State) (x : Nat) : (s.setCalEnd x).otp = s.otp := rfl
@[simp] theorem State.setCalEnd_boot (s : State) (x : Nat) : (s.setCalEnd x).boot = s.boot := rfl
@[simp] theorem State.setCalEnd_sec (s : State) (x : Nat) : (s.setCalEnd x).sec = s.sec := rfl
@[simp] theorem State.setCalEnd_link (s : State) (x : Nat) : (s.setCalEnd x).link = s.link := rfl
@[simp] theorem State.setCalEnd_rushes (s : State) (x : Nat) : (s.setCalEnd x).rushes = s.rushes := rfl
@[simp] theorem State.setCalEnd_sets (s : State) (x : Nat) : (s.setCalEnd x).sets = s.sets := rfl
@[simp] theorem State.setCalEnd_cmps (s : State) (x : Nat) : (s.setCalEnd x).cmps = s.cmps := rfl
@[simp] theorem State.setCalEnd_sessions (s : State) (x : Nat) : (s.setCalEnd x).sessions = s.sessions := rfl
@[simp] theorem State.setCalEnd_feedback (s : State) (x : Nat) : (s.setCalEnd x).feedback = s.feedback := rfl
@[simp] theorem State.setCalEnd_emus (s : State) (x : Nat) : (s.setCalEnd x).emus = s.emus := rfl
@[simp] theorem State.setCalEnd_ports (s : State) (x : Nat) : (s.setCalEnd x).ports = s.ports := rfl
@[simp] theorem State.setCalEnd_engines (s : State) (x : Nat) : (s.setCalEnd x).engines = s.engines := rfl
@[simp] theorem State.setCalEnd_reels (s : State) (x : Nat) : (s.setCalEnd x).reels = s.reels := rfl
@[simp] theorem State.setCalEnd_banks (s : State) (x : Nat) : (s.setCalEnd x).banks = s.banks := rfl
@[simp] theorem State.setCalEnd_dmas (s : State) (x : Nat) : (s.setCalEnd x).dmas = s.dmas := rfl
@[simp] theorem State.setCalEnd_cores (s : State) (x : Nat) : (s.setCalEnd x).cores = s.cores := rfl
@[simp] theorem State.setCalEnd_serials (s : State) (x : Nat) : (s.setCalEnd x).serials = s.serials := rfl
@[simp] theorem State.setCalEnd_free (s : State) (x : Nat) : (s.setCalEnd x).free = s.free := rfl
@[simp] theorem State.setCalEnd_pending (s : State) (x : Nat) : (s.setCalEnd x).pending = s.pending := rfl
@[simp] theorem State.setPortWrites_now (s : State) (x : List PWrite) : (s.setPortWrites x).now = s.now := rfl
@[simp] theorem State.setPortWrites_tcRun (s : State) (x : List PWrite) : (s.setPortWrites x).tcRun = s.tcRun := rfl
@[simp] theorem State.setPortWrites_tcSaved (s : State) (x : List PWrite) : (s.setPortWrites x).tcSaved = s.tcSaved := rfl
@[simp] theorem State.setPortWrites_syncWait (s : State) (x : List PWrite) : (s.setPortWrites x).syncWait = s.syncWait := rfl
@[simp] theorem State.setPortWrites_fields (s : State) (x : List PWrite) : (s.setPortWrites x).fields = s.fields := rfl
@[simp] theorem State.setPortWrites_mem (s : State) (x : List PWrite) : (s.setPortWrites x).mem = s.mem := rfl
@[simp] theorem State.setPortWrites_marks (s : State) (x : List PWrite) : (s.setPortWrites x).marks = s.marks := rfl
@[simp] theorem State.setPortWrites_bus (s : State) (x : List PWrite) : (s.setPortWrites x).bus = s.bus := rfl
@[simp] theorem State.setPortWrites_held (s : State) (x : List PWrite) : (s.setPortWrites x).held = s.held := rfl
@[simp] theorem State.setPortWrites_events (s : State) (x : List PWrite) : (s.setPortWrites x).events = s.events := rfl
@[simp] theorem State.setPortWrites_reports (s : State) (x : List PWrite) : (s.setPortWrites x).reports = s.reports := rfl
@[simp] theorem State.setPortWrites_trigAt (s : State) (x : List PWrite) : (s.setPortWrites x).trigAt = s.trigAt := rfl
@[simp] theorem State.setPortWrites_trim (s : State) (x : List PWrite) : (s.setPortWrites x).trim = s.trim := rfl
@[simp] theorem State.setPortWrites_calGen (s : State) (x : List PWrite) : (s.setPortWrites x).calGen = s.calGen := rfl
@[simp] theorem State.setPortWrites_calEnd (s : State) (x : List PWrite) : (s.setPortWrites x).calEnd = s.calEnd := rfl
@[simp] theorem State.setPortWrites_portWrites (s : State) (x : List PWrite) : (s.setPortWrites x).portWrites = x := rfl
@[simp] theorem State.setPortWrites_latFlight (s : State) (x : List PWrite) : (s.setPortWrites x).latFlight = s.latFlight := rfl
@[simp] theorem State.setPortWrites_cut (s : State) (x : List PWrite) : (s.setPortWrites x).cut = s.cut := rfl
@[simp] theorem State.setPortWrites_laneTest (s : State) (x : List PWrite) : (s.setPortWrites x).laneTest = s.laneTest := rfl
@[simp] theorem State.setPortWrites_gafQueue (s : State) (x : List PWrite) : (s.setPortWrites x).gafQueue = s.gafQueue := rfl
@[simp] theorem State.setPortWrites_starts (s : State) (x : List PWrite) : (s.setPortWrites x).starts = s.starts := rfl
@[simp] theorem State.setPortWrites_zoneLast (s : State) (x : List PWrite) : (s.setPortWrites x).zoneLast = s.zoneLast := rfl
@[simp] theorem State.setPortWrites_slateOut (s : State) (x : List PWrite) : (s.setPortWrites x).slateOut = s.slateOut := rfl
@[simp] theorem State.setPortWrites_engIn (s : State) (x : List PWrite) : (s.setPortWrites x).engIn = s.engIn := rfl
@[simp] theorem State.setPortWrites_engTrigs (s : State) (x : List PWrite) : (s.setPortWrites x).engTrigs = s.engTrigs := rfl
@[simp] theorem State.setPortWrites_engNeg (s : State) (x : List PWrite) : (s.setPortWrites x).engNeg = s.engNeg := rfl
@[simp] theorem State.setPortWrites_reelQ (s : State) (x : List PWrite) : (s.setPortWrites x).reelQ = s.reelQ := rfl
@[simp] theorem State.setPortWrites_xfer (s : State) (x : List PWrite) : (s.setPortWrites x).xfer = s.xfer := rfl
@[simp] theorem State.setPortWrites_patrol (s : State) (x : List PWrite) : (s.setPortWrites x).patrol = s.patrol := rfl
@[simp] theorem State.setPortWrites_ddrCap (s : State) (x : List PWrite) : (s.setPortWrites x).ddrCap = s.ddrCap := rfl
@[simp] theorem State.setPortWrites_flash (s : State) (x : List PWrite) : (s.setPortWrites x).flash = s.flash := rfl
@[simp] theorem State.setPortWrites_recs (s : State) (x : List PWrite) : (s.setPortWrites x).recs = s.recs := rfl
@[simp] theorem State.setPortWrites_ctu (s : State) (x : List PWrite) : (s.setPortWrites x).ctu = s.ctu := rfl
@[simp] theorem State.setPortWrites_image (s : State) (x : List PWrite) : (s.setPortWrites x).image = s.image := rfl
@[simp] theorem State.setPortWrites_gaf (s : State) (x : List PWrite) : (s.setPortWrites x).gaf = s.gaf := rfl
@[simp] theorem State.setPortWrites_power (s : State) (x : List PWrite) : (s.setPortWrites x).power = s.power := rfl
@[simp] theorem State.setPortWrites_otp (s : State) (x : List PWrite) : (s.setPortWrites x).otp = s.otp := rfl
@[simp] theorem State.setPortWrites_boot (s : State) (x : List PWrite) : (s.setPortWrites x).boot = s.boot := rfl
@[simp] theorem State.setPortWrites_sec (s : State) (x : List PWrite) : (s.setPortWrites x).sec = s.sec := rfl
@[simp] theorem State.setPortWrites_link (s : State) (x : List PWrite) : (s.setPortWrites x).link = s.link := rfl
@[simp] theorem State.setPortWrites_rushes (s : State) (x : List PWrite) : (s.setPortWrites x).rushes = s.rushes := rfl
@[simp] theorem State.setPortWrites_sets (s : State) (x : List PWrite) : (s.setPortWrites x).sets = s.sets := rfl
@[simp] theorem State.setPortWrites_cmps (s : State) (x : List PWrite) : (s.setPortWrites x).cmps = s.cmps := rfl
@[simp] theorem State.setPortWrites_sessions (s : State) (x : List PWrite) : (s.setPortWrites x).sessions = s.sessions := rfl
@[simp] theorem State.setPortWrites_feedback (s : State) (x : List PWrite) : (s.setPortWrites x).feedback = s.feedback := rfl
@[simp] theorem State.setPortWrites_emus (s : State) (x : List PWrite) : (s.setPortWrites x).emus = s.emus := rfl
@[simp] theorem State.setPortWrites_ports (s : State) (x : List PWrite) : (s.setPortWrites x).ports = s.ports := rfl
@[simp] theorem State.setPortWrites_engines (s : State) (x : List PWrite) : (s.setPortWrites x).engines = s.engines := rfl
@[simp] theorem State.setPortWrites_reels (s : State) (x : List PWrite) : (s.setPortWrites x).reels = s.reels := rfl
@[simp] theorem State.setPortWrites_banks (s : State) (x : List PWrite) : (s.setPortWrites x).banks = s.banks := rfl
@[simp] theorem State.setPortWrites_dmas (s : State) (x : List PWrite) : (s.setPortWrites x).dmas = s.dmas := rfl
@[simp] theorem State.setPortWrites_cores (s : State) (x : List PWrite) : (s.setPortWrites x).cores = s.cores := rfl
@[simp] theorem State.setPortWrites_serials (s : State) (x : List PWrite) : (s.setPortWrites x).serials = s.serials := rfl
@[simp] theorem State.setPortWrites_free (s : State) (x : List PWrite) : (s.setPortWrites x).free = s.free := rfl
@[simp] theorem State.setPortWrites_pending (s : State) (x : List PWrite) : (s.setPortWrites x).pending = s.pending := rfl
@[simp] theorem State.setLatFlight_now (s : State) (x : List (Nat × Nat × Nat)) : (s.setLatFlight x).now = s.now := rfl
@[simp] theorem State.setLatFlight_tcRun (s : State) (x : List (Nat × Nat × Nat)) : (s.setLatFlight x).tcRun = s.tcRun := rfl
@[simp] theorem State.setLatFlight_tcSaved (s : State) (x : List (Nat × Nat × Nat)) : (s.setLatFlight x).tcSaved = s.tcSaved := rfl
@[simp] theorem State.setLatFlight_syncWait (s : State) (x : List (Nat × Nat × Nat)) : (s.setLatFlight x).syncWait = s.syncWait := rfl
@[simp] theorem State.setLatFlight_fields (s : State) (x : List (Nat × Nat × Nat)) : (s.setLatFlight x).fields = s.fields := rfl
@[simp] theorem State.setLatFlight_mem (s : State) (x : List (Nat × Nat × Nat)) : (s.setLatFlight x).mem = s.mem := rfl
@[simp] theorem State.setLatFlight_marks (s : State) (x : List (Nat × Nat × Nat)) : (s.setLatFlight x).marks = s.marks := rfl
@[simp] theorem State.setLatFlight_bus (s : State) (x : List (Nat × Nat × Nat)) : (s.setLatFlight x).bus = s.bus := rfl
@[simp] theorem State.setLatFlight_held (s : State) (x : List (Nat × Nat × Nat)) : (s.setLatFlight x).held = s.held := rfl
@[simp] theorem State.setLatFlight_events (s : State) (x : List (Nat × Nat × Nat)) : (s.setLatFlight x).events = s.events := rfl
@[simp] theorem State.setLatFlight_reports (s : State) (x : List (Nat × Nat × Nat)) : (s.setLatFlight x).reports = s.reports := rfl
@[simp] theorem State.setLatFlight_trigAt (s : State) (x : List (Nat × Nat × Nat)) : (s.setLatFlight x).trigAt = s.trigAt := rfl
@[simp] theorem State.setLatFlight_trim (s : State) (x : List (Nat × Nat × Nat)) : (s.setLatFlight x).trim = s.trim := rfl
@[simp] theorem State.setLatFlight_calGen (s : State) (x : List (Nat × Nat × Nat)) : (s.setLatFlight x).calGen = s.calGen := rfl
@[simp] theorem State.setLatFlight_calEnd (s : State) (x : List (Nat × Nat × Nat)) : (s.setLatFlight x).calEnd = s.calEnd := rfl
@[simp] theorem State.setLatFlight_portWrites (s : State) (x : List (Nat × Nat × Nat)) : (s.setLatFlight x).portWrites = s.portWrites := rfl
@[simp] theorem State.setLatFlight_latFlight (s : State) (x : List (Nat × Nat × Nat)) : (s.setLatFlight x).latFlight = x := rfl
@[simp] theorem State.setLatFlight_cut (s : State) (x : List (Nat × Nat × Nat)) : (s.setLatFlight x).cut = s.cut := rfl
@[simp] theorem State.setLatFlight_laneTest (s : State) (x : List (Nat × Nat × Nat)) : (s.setLatFlight x).laneTest = s.laneTest := rfl
@[simp] theorem State.setLatFlight_gafQueue (s : State) (x : List (Nat × Nat × Nat)) : (s.setLatFlight x).gafQueue = s.gafQueue := rfl
@[simp] theorem State.setLatFlight_starts (s : State) (x : List (Nat × Nat × Nat)) : (s.setLatFlight x).starts = s.starts := rfl
@[simp] theorem State.setLatFlight_zoneLast (s : State) (x : List (Nat × Nat × Nat)) : (s.setLatFlight x).zoneLast = s.zoneLast := rfl
@[simp] theorem State.setLatFlight_slateOut (s : State) (x : List (Nat × Nat × Nat)) : (s.setLatFlight x).slateOut = s.slateOut := rfl
@[simp] theorem State.setLatFlight_engIn (s : State) (x : List (Nat × Nat × Nat)) : (s.setLatFlight x).engIn = s.engIn := rfl
@[simp] theorem State.setLatFlight_engTrigs (s : State) (x : List (Nat × Nat × Nat)) : (s.setLatFlight x).engTrigs = s.engTrigs := rfl
@[simp] theorem State.setLatFlight_engNeg (s : State) (x : List (Nat × Nat × Nat)) : (s.setLatFlight x).engNeg = s.engNeg := rfl
@[simp] theorem State.setLatFlight_reelQ (s : State) (x : List (Nat × Nat × Nat)) : (s.setLatFlight x).reelQ = s.reelQ := rfl
@[simp] theorem State.setLatFlight_xfer (s : State) (x : List (Nat × Nat × Nat)) : (s.setLatFlight x).xfer = s.xfer := rfl
@[simp] theorem State.setLatFlight_patrol (s : State) (x : List (Nat × Nat × Nat)) : (s.setLatFlight x).patrol = s.patrol := rfl
@[simp] theorem State.setLatFlight_ddrCap (s : State) (x : List (Nat × Nat × Nat)) : (s.setLatFlight x).ddrCap = s.ddrCap := rfl
@[simp] theorem State.setLatFlight_flash (s : State) (x : List (Nat × Nat × Nat)) : (s.setLatFlight x).flash = s.flash := rfl
@[simp] theorem State.setLatFlight_recs (s : State) (x : List (Nat × Nat × Nat)) : (s.setLatFlight x).recs = s.recs := rfl
@[simp] theorem State.setLatFlight_ctu (s : State) (x : List (Nat × Nat × Nat)) : (s.setLatFlight x).ctu = s.ctu := rfl
@[simp] theorem State.setLatFlight_image (s : State) (x : List (Nat × Nat × Nat)) : (s.setLatFlight x).image = s.image := rfl
@[simp] theorem State.setLatFlight_gaf (s : State) (x : List (Nat × Nat × Nat)) : (s.setLatFlight x).gaf = s.gaf := rfl
@[simp] theorem State.setLatFlight_power (s : State) (x : List (Nat × Nat × Nat)) : (s.setLatFlight x).power = s.power := rfl
@[simp] theorem State.setLatFlight_otp (s : State) (x : List (Nat × Nat × Nat)) : (s.setLatFlight x).otp = s.otp := rfl
@[simp] theorem State.setLatFlight_boot (s : State) (x : List (Nat × Nat × Nat)) : (s.setLatFlight x).boot = s.boot := rfl
@[simp] theorem State.setLatFlight_sec (s : State) (x : List (Nat × Nat × Nat)) : (s.setLatFlight x).sec = s.sec := rfl
@[simp] theorem State.setLatFlight_link (s : State) (x : List (Nat × Nat × Nat)) : (s.setLatFlight x).link = s.link := rfl
@[simp] theorem State.setLatFlight_rushes (s : State) (x : List (Nat × Nat × Nat)) : (s.setLatFlight x).rushes = s.rushes := rfl
@[simp] theorem State.setLatFlight_sets (s : State) (x : List (Nat × Nat × Nat)) : (s.setLatFlight x).sets = s.sets := rfl
@[simp] theorem State.setLatFlight_cmps (s : State) (x : List (Nat × Nat × Nat)) : (s.setLatFlight x).cmps = s.cmps := rfl
@[simp] theorem State.setLatFlight_sessions (s : State) (x : List (Nat × Nat × Nat)) : (s.setLatFlight x).sessions = s.sessions := rfl
@[simp] theorem State.setLatFlight_feedback (s : State) (x : List (Nat × Nat × Nat)) : (s.setLatFlight x).feedback = s.feedback := rfl
@[simp] theorem State.setLatFlight_emus (s : State) (x : List (Nat × Nat × Nat)) : (s.setLatFlight x).emus = s.emus := rfl
@[simp] theorem State.setLatFlight_ports (s : State) (x : List (Nat × Nat × Nat)) : (s.setLatFlight x).ports = s.ports := rfl
@[simp] theorem State.setLatFlight_engines (s : State) (x : List (Nat × Nat × Nat)) : (s.setLatFlight x).engines = s.engines := rfl
@[simp] theorem State.setLatFlight_reels (s : State) (x : List (Nat × Nat × Nat)) : (s.setLatFlight x).reels = s.reels := rfl
@[simp] theorem State.setLatFlight_banks (s : State) (x : List (Nat × Nat × Nat)) : (s.setLatFlight x).banks = s.banks := rfl
@[simp] theorem State.setLatFlight_dmas (s : State) (x : List (Nat × Nat × Nat)) : (s.setLatFlight x).dmas = s.dmas := rfl
@[simp] theorem State.setLatFlight_cores (s : State) (x : List (Nat × Nat × Nat)) : (s.setLatFlight x).cores = s.cores := rfl
@[simp] theorem State.setLatFlight_serials (s : State) (x : List (Nat × Nat × Nat)) : (s.setLatFlight x).serials = s.serials := rfl
@[simp] theorem State.setLatFlight_free (s : State) (x : List (Nat × Nat × Nat)) : (s.setLatFlight x).free = s.free := rfl
@[simp] theorem State.setLatFlight_pending (s : State) (x : List (Nat × Nat × Nat)) : (s.setLatFlight x).pending = s.pending := rfl
@[simp] theorem State.setCut_now (s : State) (x : CutSt) : (s.setCut x).now = s.now := rfl
@[simp] theorem State.setCut_tcRun (s : State) (x : CutSt) : (s.setCut x).tcRun = s.tcRun := rfl
@[simp] theorem State.setCut_tcSaved (s : State) (x : CutSt) : (s.setCut x).tcSaved = s.tcSaved := rfl
@[simp] theorem State.setCut_syncWait (s : State) (x : CutSt) : (s.setCut x).syncWait = s.syncWait := rfl
@[simp] theorem State.setCut_fields (s : State) (x : CutSt) : (s.setCut x).fields = s.fields := rfl
@[simp] theorem State.setCut_mem (s : State) (x : CutSt) : (s.setCut x).mem = s.mem := rfl
@[simp] theorem State.setCut_marks (s : State) (x : CutSt) : (s.setCut x).marks = s.marks := rfl
@[simp] theorem State.setCut_bus (s : State) (x : CutSt) : (s.setCut x).bus = s.bus := rfl
@[simp] theorem State.setCut_held (s : State) (x : CutSt) : (s.setCut x).held = s.held := rfl
@[simp] theorem State.setCut_events (s : State) (x : CutSt) : (s.setCut x).events = s.events := rfl
@[simp] theorem State.setCut_reports (s : State) (x : CutSt) : (s.setCut x).reports = s.reports := rfl
@[simp] theorem State.setCut_trigAt (s : State) (x : CutSt) : (s.setCut x).trigAt = s.trigAt := rfl
@[simp] theorem State.setCut_trim (s : State) (x : CutSt) : (s.setCut x).trim = s.trim := rfl
@[simp] theorem State.setCut_calGen (s : State) (x : CutSt) : (s.setCut x).calGen = s.calGen := rfl
@[simp] theorem State.setCut_calEnd (s : State) (x : CutSt) : (s.setCut x).calEnd = s.calEnd := rfl
@[simp] theorem State.setCut_portWrites (s : State) (x : CutSt) : (s.setCut x).portWrites = s.portWrites := rfl
@[simp] theorem State.setCut_latFlight (s : State) (x : CutSt) : (s.setCut x).latFlight = s.latFlight := rfl
@[simp] theorem State.setCut_cut (s : State) (x : CutSt) : (s.setCut x).cut = x := rfl
@[simp] theorem State.setCut_laneTest (s : State) (x : CutSt) : (s.setCut x).laneTest = s.laneTest := rfl
@[simp] theorem State.setCut_gafQueue (s : State) (x : CutSt) : (s.setCut x).gafQueue = s.gafQueue := rfl
@[simp] theorem State.setCut_starts (s : State) (x : CutSt) : (s.setCut x).starts = s.starts := rfl
@[simp] theorem State.setCut_zoneLast (s : State) (x : CutSt) : (s.setCut x).zoneLast = s.zoneLast := rfl
@[simp] theorem State.setCut_slateOut (s : State) (x : CutSt) : (s.setCut x).slateOut = s.slateOut := rfl
@[simp] theorem State.setCut_engIn (s : State) (x : CutSt) : (s.setCut x).engIn = s.engIn := rfl
@[simp] theorem State.setCut_engTrigs (s : State) (x : CutSt) : (s.setCut x).engTrigs = s.engTrigs := rfl
@[simp] theorem State.setCut_engNeg (s : State) (x : CutSt) : (s.setCut x).engNeg = s.engNeg := rfl
@[simp] theorem State.setCut_reelQ (s : State) (x : CutSt) : (s.setCut x).reelQ = s.reelQ := rfl
@[simp] theorem State.setCut_xfer (s : State) (x : CutSt) : (s.setCut x).xfer = s.xfer := rfl
@[simp] theorem State.setCut_patrol (s : State) (x : CutSt) : (s.setCut x).patrol = s.patrol := rfl
@[simp] theorem State.setCut_ddrCap (s : State) (x : CutSt) : (s.setCut x).ddrCap = s.ddrCap := rfl
@[simp] theorem State.setCut_flash (s : State) (x : CutSt) : (s.setCut x).flash = s.flash := rfl
@[simp] theorem State.setCut_recs (s : State) (x : CutSt) : (s.setCut x).recs = s.recs := rfl
@[simp] theorem State.setCut_ctu (s : State) (x : CutSt) : (s.setCut x).ctu = s.ctu := rfl
@[simp] theorem State.setCut_image (s : State) (x : CutSt) : (s.setCut x).image = s.image := rfl
@[simp] theorem State.setCut_gaf (s : State) (x : CutSt) : (s.setCut x).gaf = s.gaf := rfl
@[simp] theorem State.setCut_power (s : State) (x : CutSt) : (s.setCut x).power = s.power := rfl
@[simp] theorem State.setCut_otp (s : State) (x : CutSt) : (s.setCut x).otp = s.otp := rfl
@[simp] theorem State.setCut_boot (s : State) (x : CutSt) : (s.setCut x).boot = s.boot := rfl
@[simp] theorem State.setCut_sec (s : State) (x : CutSt) : (s.setCut x).sec = s.sec := rfl
@[simp] theorem State.setCut_link (s : State) (x : CutSt) : (s.setCut x).link = s.link := rfl
@[simp] theorem State.setCut_rushes (s : State) (x : CutSt) : (s.setCut x).rushes = s.rushes := rfl
@[simp] theorem State.setCut_sets (s : State) (x : CutSt) : (s.setCut x).sets = s.sets := rfl
@[simp] theorem State.setCut_cmps (s : State) (x : CutSt) : (s.setCut x).cmps = s.cmps := rfl
@[simp] theorem State.setCut_sessions (s : State) (x : CutSt) : (s.setCut x).sessions = s.sessions := rfl
@[simp] theorem State.setCut_feedback (s : State) (x : CutSt) : (s.setCut x).feedback = s.feedback := rfl
@[simp] theorem State.setCut_emus (s : State) (x : CutSt) : (s.setCut x).emus = s.emus := rfl
@[simp] theorem State.setCut_ports (s : State) (x : CutSt) : (s.setCut x).ports = s.ports := rfl
@[simp] theorem State.setCut_engines (s : State) (x : CutSt) : (s.setCut x).engines = s.engines := rfl
@[simp] theorem State.setCut_reels (s : State) (x : CutSt) : (s.setCut x).reels = s.reels := rfl
@[simp] theorem State.setCut_banks (s : State) (x : CutSt) : (s.setCut x).banks = s.banks := rfl
@[simp] theorem State.setCut_dmas (s : State) (x : CutSt) : (s.setCut x).dmas = s.dmas := rfl
@[simp] theorem State.setCut_cores (s : State) (x : CutSt) : (s.setCut x).cores = s.cores := rfl
@[simp] theorem State.setCut_serials (s : State) (x : CutSt) : (s.setCut x).serials = s.serials := rfl
@[simp] theorem State.setCut_free (s : State) (x : CutSt) : (s.setCut x).free = s.free := rfl
@[simp] theorem State.setCut_pending (s : State) (x : CutSt) : (s.setCut x).pending = s.pending := rfl
@[simp] theorem State.setLaneTest_now (s : State) (x : List (Nat × Nat)) : (s.setLaneTest x).now = s.now := rfl
@[simp] theorem State.setLaneTest_tcRun (s : State) (x : List (Nat × Nat)) : (s.setLaneTest x).tcRun = s.tcRun := rfl
@[simp] theorem State.setLaneTest_tcSaved (s : State) (x : List (Nat × Nat)) : (s.setLaneTest x).tcSaved = s.tcSaved := rfl
@[simp] theorem State.setLaneTest_syncWait (s : State) (x : List (Nat × Nat)) : (s.setLaneTest x).syncWait = s.syncWait := rfl
@[simp] theorem State.setLaneTest_fields (s : State) (x : List (Nat × Nat)) : (s.setLaneTest x).fields = s.fields := rfl
@[simp] theorem State.setLaneTest_mem (s : State) (x : List (Nat × Nat)) : (s.setLaneTest x).mem = s.mem := rfl
@[simp] theorem State.setLaneTest_marks (s : State) (x : List (Nat × Nat)) : (s.setLaneTest x).marks = s.marks := rfl
@[simp] theorem State.setLaneTest_bus (s : State) (x : List (Nat × Nat)) : (s.setLaneTest x).bus = s.bus := rfl
@[simp] theorem State.setLaneTest_held (s : State) (x : List (Nat × Nat)) : (s.setLaneTest x).held = s.held := rfl
@[simp] theorem State.setLaneTest_events (s : State) (x : List (Nat × Nat)) : (s.setLaneTest x).events = s.events := rfl
@[simp] theorem State.setLaneTest_reports (s : State) (x : List (Nat × Nat)) : (s.setLaneTest x).reports = s.reports := rfl
@[simp] theorem State.setLaneTest_trigAt (s : State) (x : List (Nat × Nat)) : (s.setLaneTest x).trigAt = s.trigAt := rfl
@[simp] theorem State.setLaneTest_trim (s : State) (x : List (Nat × Nat)) : (s.setLaneTest x).trim = s.trim := rfl
@[simp] theorem State.setLaneTest_calGen (s : State) (x : List (Nat × Nat)) : (s.setLaneTest x).calGen = s.calGen := rfl
@[simp] theorem State.setLaneTest_calEnd (s : State) (x : List (Nat × Nat)) : (s.setLaneTest x).calEnd = s.calEnd := rfl
@[simp] theorem State.setLaneTest_portWrites (s : State) (x : List (Nat × Nat)) : (s.setLaneTest x).portWrites = s.portWrites := rfl
@[simp] theorem State.setLaneTest_latFlight (s : State) (x : List (Nat × Nat)) : (s.setLaneTest x).latFlight = s.latFlight := rfl
@[simp] theorem State.setLaneTest_cut (s : State) (x : List (Nat × Nat)) : (s.setLaneTest x).cut = s.cut := rfl
@[simp] theorem State.setLaneTest_laneTest (s : State) (x : List (Nat × Nat)) : (s.setLaneTest x).laneTest = x := rfl
@[simp] theorem State.setLaneTest_gafQueue (s : State) (x : List (Nat × Nat)) : (s.setLaneTest x).gafQueue = s.gafQueue := rfl
@[simp] theorem State.setLaneTest_starts (s : State) (x : List (Nat × Nat)) : (s.setLaneTest x).starts = s.starts := rfl
@[simp] theorem State.setLaneTest_zoneLast (s : State) (x : List (Nat × Nat)) : (s.setLaneTest x).zoneLast = s.zoneLast := rfl
@[simp] theorem State.setLaneTest_slateOut (s : State) (x : List (Nat × Nat)) : (s.setLaneTest x).slateOut = s.slateOut := rfl
@[simp] theorem State.setLaneTest_engIn (s : State) (x : List (Nat × Nat)) : (s.setLaneTest x).engIn = s.engIn := rfl
@[simp] theorem State.setLaneTest_engTrigs (s : State) (x : List (Nat × Nat)) : (s.setLaneTest x).engTrigs = s.engTrigs := rfl
@[simp] theorem State.setLaneTest_engNeg (s : State) (x : List (Nat × Nat)) : (s.setLaneTest x).engNeg = s.engNeg := rfl
@[simp] theorem State.setLaneTest_reelQ (s : State) (x : List (Nat × Nat)) : (s.setLaneTest x).reelQ = s.reelQ := rfl
@[simp] theorem State.setLaneTest_xfer (s : State) (x : List (Nat × Nat)) : (s.setLaneTest x).xfer = s.xfer := rfl
@[simp] theorem State.setLaneTest_patrol (s : State) (x : List (Nat × Nat)) : (s.setLaneTest x).patrol = s.patrol := rfl
@[simp] theorem State.setLaneTest_ddrCap (s : State) (x : List (Nat × Nat)) : (s.setLaneTest x).ddrCap = s.ddrCap := rfl
@[simp] theorem State.setLaneTest_flash (s : State) (x : List (Nat × Nat)) : (s.setLaneTest x).flash = s.flash := rfl
@[simp] theorem State.setLaneTest_recs (s : State) (x : List (Nat × Nat)) : (s.setLaneTest x).recs = s.recs := rfl
@[simp] theorem State.setLaneTest_ctu (s : State) (x : List (Nat × Nat)) : (s.setLaneTest x).ctu = s.ctu := rfl
@[simp] theorem State.setLaneTest_image (s : State) (x : List (Nat × Nat)) : (s.setLaneTest x).image = s.image := rfl
@[simp] theorem State.setLaneTest_gaf (s : State) (x : List (Nat × Nat)) : (s.setLaneTest x).gaf = s.gaf := rfl
@[simp] theorem State.setLaneTest_power (s : State) (x : List (Nat × Nat)) : (s.setLaneTest x).power = s.power := rfl
@[simp] theorem State.setLaneTest_otp (s : State) (x : List (Nat × Nat)) : (s.setLaneTest x).otp = s.otp := rfl
@[simp] theorem State.setLaneTest_boot (s : State) (x : List (Nat × Nat)) : (s.setLaneTest x).boot = s.boot := rfl
@[simp] theorem State.setLaneTest_sec (s : State) (x : List (Nat × Nat)) : (s.setLaneTest x).sec = s.sec := rfl
@[simp] theorem State.setLaneTest_link (s : State) (x : List (Nat × Nat)) : (s.setLaneTest x).link = s.link := rfl
@[simp] theorem State.setLaneTest_rushes (s : State) (x : List (Nat × Nat)) : (s.setLaneTest x).rushes = s.rushes := rfl
@[simp] theorem State.setLaneTest_sets (s : State) (x : List (Nat × Nat)) : (s.setLaneTest x).sets = s.sets := rfl
@[simp] theorem State.setLaneTest_cmps (s : State) (x : List (Nat × Nat)) : (s.setLaneTest x).cmps = s.cmps := rfl
@[simp] theorem State.setLaneTest_sessions (s : State) (x : List (Nat × Nat)) : (s.setLaneTest x).sessions = s.sessions := rfl
@[simp] theorem State.setLaneTest_feedback (s : State) (x : List (Nat × Nat)) : (s.setLaneTest x).feedback = s.feedback := rfl
@[simp] theorem State.setLaneTest_emus (s : State) (x : List (Nat × Nat)) : (s.setLaneTest x).emus = s.emus := rfl
@[simp] theorem State.setLaneTest_ports (s : State) (x : List (Nat × Nat)) : (s.setLaneTest x).ports = s.ports := rfl
@[simp] theorem State.setLaneTest_engines (s : State) (x : List (Nat × Nat)) : (s.setLaneTest x).engines = s.engines := rfl
@[simp] theorem State.setLaneTest_reels (s : State) (x : List (Nat × Nat)) : (s.setLaneTest x).reels = s.reels := rfl
@[simp] theorem State.setLaneTest_banks (s : State) (x : List (Nat × Nat)) : (s.setLaneTest x).banks = s.banks := rfl
@[simp] theorem State.setLaneTest_dmas (s : State) (x : List (Nat × Nat)) : (s.setLaneTest x).dmas = s.dmas := rfl
@[simp] theorem State.setLaneTest_cores (s : State) (x : List (Nat × Nat)) : (s.setLaneTest x).cores = s.cores := rfl
@[simp] theorem State.setLaneTest_serials (s : State) (x : List (Nat × Nat)) : (s.setLaneTest x).serials = s.serials := rfl
@[simp] theorem State.setLaneTest_free (s : State) (x : List (Nat × Nat)) : (s.setLaneTest x).free = s.free := rfl
@[simp] theorem State.setLaneTest_pending (s : State) (x : List (Nat × Nat)) : (s.setLaneTest x).pending = s.pending := rfl
@[simp] theorem State.setGafQueue_now (s : State) (x : List GReq) : (s.setGafQueue x).now = s.now := rfl
@[simp] theorem State.setGafQueue_tcRun (s : State) (x : List GReq) : (s.setGafQueue x).tcRun = s.tcRun := rfl
@[simp] theorem State.setGafQueue_tcSaved (s : State) (x : List GReq) : (s.setGafQueue x).tcSaved = s.tcSaved := rfl
@[simp] theorem State.setGafQueue_syncWait (s : State) (x : List GReq) : (s.setGafQueue x).syncWait = s.syncWait := rfl
@[simp] theorem State.setGafQueue_fields (s : State) (x : List GReq) : (s.setGafQueue x).fields = s.fields := rfl
@[simp] theorem State.setGafQueue_mem (s : State) (x : List GReq) : (s.setGafQueue x).mem = s.mem := rfl
@[simp] theorem State.setGafQueue_marks (s : State) (x : List GReq) : (s.setGafQueue x).marks = s.marks := rfl
@[simp] theorem State.setGafQueue_bus (s : State) (x : List GReq) : (s.setGafQueue x).bus = s.bus := rfl
@[simp] theorem State.setGafQueue_held (s : State) (x : List GReq) : (s.setGafQueue x).held = s.held := rfl
@[simp] theorem State.setGafQueue_events (s : State) (x : List GReq) : (s.setGafQueue x).events = s.events := rfl
@[simp] theorem State.setGafQueue_reports (s : State) (x : List GReq) : (s.setGafQueue x).reports = s.reports := rfl
@[simp] theorem State.setGafQueue_trigAt (s : State) (x : List GReq) : (s.setGafQueue x).trigAt = s.trigAt := rfl
@[simp] theorem State.setGafQueue_trim (s : State) (x : List GReq) : (s.setGafQueue x).trim = s.trim := rfl
@[simp] theorem State.setGafQueue_calGen (s : State) (x : List GReq) : (s.setGafQueue x).calGen = s.calGen := rfl
@[simp] theorem State.setGafQueue_calEnd (s : State) (x : List GReq) : (s.setGafQueue x).calEnd = s.calEnd := rfl
@[simp] theorem State.setGafQueue_portWrites (s : State) (x : List GReq) : (s.setGafQueue x).portWrites = s.portWrites := rfl
@[simp] theorem State.setGafQueue_latFlight (s : State) (x : List GReq) : (s.setGafQueue x).latFlight = s.latFlight := rfl
@[simp] theorem State.setGafQueue_cut (s : State) (x : List GReq) : (s.setGafQueue x).cut = s.cut := rfl
@[simp] theorem State.setGafQueue_laneTest (s : State) (x : List GReq) : (s.setGafQueue x).laneTest = s.laneTest := rfl
@[simp] theorem State.setGafQueue_gafQueue (s : State) (x : List GReq) : (s.setGafQueue x).gafQueue = x := rfl
@[simp] theorem State.setGafQueue_starts (s : State) (x : List GReq) : (s.setGafQueue x).starts = s.starts := rfl
@[simp] theorem State.setGafQueue_zoneLast (s : State) (x : List GReq) : (s.setGafQueue x).zoneLast = s.zoneLast := rfl
@[simp] theorem State.setGafQueue_slateOut (s : State) (x : List GReq) : (s.setGafQueue x).slateOut = s.slateOut := rfl
@[simp] theorem State.setGafQueue_engIn (s : State) (x : List GReq) : (s.setGafQueue x).engIn = s.engIn := rfl
@[simp] theorem State.setGafQueue_engTrigs (s : State) (x : List GReq) : (s.setGafQueue x).engTrigs = s.engTrigs := rfl
@[simp] theorem State.setGafQueue_engNeg (s : State) (x : List GReq) : (s.setGafQueue x).engNeg = s.engNeg := rfl
@[simp] theorem State.setGafQueue_reelQ (s : State) (x : List GReq) : (s.setGafQueue x).reelQ = s.reelQ := rfl
@[simp] theorem State.setGafQueue_xfer (s : State) (x : List GReq) : (s.setGafQueue x).xfer = s.xfer := rfl
@[simp] theorem State.setGafQueue_patrol (s : State) (x : List GReq) : (s.setGafQueue x).patrol = s.patrol := rfl
@[simp] theorem State.setGafQueue_ddrCap (s : State) (x : List GReq) : (s.setGafQueue x).ddrCap = s.ddrCap := rfl
@[simp] theorem State.setGafQueue_flash (s : State) (x : List GReq) : (s.setGafQueue x).flash = s.flash := rfl
@[simp] theorem State.setGafQueue_recs (s : State) (x : List GReq) : (s.setGafQueue x).recs = s.recs := rfl
@[simp] theorem State.setGafQueue_ctu (s : State) (x : List GReq) : (s.setGafQueue x).ctu = s.ctu := rfl
@[simp] theorem State.setGafQueue_image (s : State) (x : List GReq) : (s.setGafQueue x).image = s.image := rfl
@[simp] theorem State.setGafQueue_gaf (s : State) (x : List GReq) : (s.setGafQueue x).gaf = s.gaf := rfl
@[simp] theorem State.setGafQueue_power (s : State) (x : List GReq) : (s.setGafQueue x).power = s.power := rfl
@[simp] theorem State.setGafQueue_otp (s : State) (x : List GReq) : (s.setGafQueue x).otp = s.otp := rfl
@[simp] theorem State.setGafQueue_boot (s : State) (x : List GReq) : (s.setGafQueue x).boot = s.boot := rfl
@[simp] theorem State.setGafQueue_sec (s : State) (x : List GReq) : (s.setGafQueue x).sec = s.sec := rfl
@[simp] theorem State.setGafQueue_link (s : State) (x : List GReq) : (s.setGafQueue x).link = s.link := rfl
@[simp] theorem State.setGafQueue_rushes (s : State) (x : List GReq) : (s.setGafQueue x).rushes = s.rushes := rfl
@[simp] theorem State.setGafQueue_sets (s : State) (x : List GReq) : (s.setGafQueue x).sets = s.sets := rfl
@[simp] theorem State.setGafQueue_cmps (s : State) (x : List GReq) : (s.setGafQueue x).cmps = s.cmps := rfl
@[simp] theorem State.setGafQueue_sessions (s : State) (x : List GReq) : (s.setGafQueue x).sessions = s.sessions := rfl
@[simp] theorem State.setGafQueue_feedback (s : State) (x : List GReq) : (s.setGafQueue x).feedback = s.feedback := rfl
@[simp] theorem State.setGafQueue_emus (s : State) (x : List GReq) : (s.setGafQueue x).emus = s.emus := rfl
@[simp] theorem State.setGafQueue_ports (s : State) (x : List GReq) : (s.setGafQueue x).ports = s.ports := rfl
@[simp] theorem State.setGafQueue_engines (s : State) (x : List GReq) : (s.setGafQueue x).engines = s.engines := rfl
@[simp] theorem State.setGafQueue_reels (s : State) (x : List GReq) : (s.setGafQueue x).reels = s.reels := rfl
@[simp] theorem State.setGafQueue_banks (s : State) (x : List GReq) : (s.setGafQueue x).banks = s.banks := rfl
@[simp] theorem State.setGafQueue_dmas (s : State) (x : List GReq) : (s.setGafQueue x).dmas = s.dmas := rfl
@[simp] theorem State.setGafQueue_cores (s : State) (x : List GReq) : (s.setGafQueue x).cores = s.cores := rfl
@[simp] theorem State.setGafQueue_serials (s : State) (x : List GReq) : (s.setGafQueue x).serials = s.serials := rfl
@[simp] theorem State.setGafQueue_free (s : State) (x : List GReq) : (s.setGafQueue x).free = s.free := rfl
@[simp] theorem State.setGafQueue_pending (s : State) (x : List GReq) : (s.setGafQueue x).pending = s.pending := rfl
@[simp] theorem State.setStarts_now (s : State) (x : List Start) : (s.setStarts x).now = s.now := rfl
@[simp] theorem State.setStarts_tcRun (s : State) (x : List Start) : (s.setStarts x).tcRun = s.tcRun := rfl
@[simp] theorem State.setStarts_tcSaved (s : State) (x : List Start) : (s.setStarts x).tcSaved = s.tcSaved := rfl
@[simp] theorem State.setStarts_syncWait (s : State) (x : List Start) : (s.setStarts x).syncWait = s.syncWait := rfl
@[simp] theorem State.setStarts_fields (s : State) (x : List Start) : (s.setStarts x).fields = s.fields := rfl
@[simp] theorem State.setStarts_mem (s : State) (x : List Start) : (s.setStarts x).mem = s.mem := rfl
@[simp] theorem State.setStarts_marks (s : State) (x : List Start) : (s.setStarts x).marks = s.marks := rfl
@[simp] theorem State.setStarts_bus (s : State) (x : List Start) : (s.setStarts x).bus = s.bus := rfl
@[simp] theorem State.setStarts_held (s : State) (x : List Start) : (s.setStarts x).held = s.held := rfl
@[simp] theorem State.setStarts_events (s : State) (x : List Start) : (s.setStarts x).events = s.events := rfl
@[simp] theorem State.setStarts_reports (s : State) (x : List Start) : (s.setStarts x).reports = s.reports := rfl
@[simp] theorem State.setStarts_trigAt (s : State) (x : List Start) : (s.setStarts x).trigAt = s.trigAt := rfl
@[simp] theorem State.setStarts_trim (s : State) (x : List Start) : (s.setStarts x).trim = s.trim := rfl
@[simp] theorem State.setStarts_calGen (s : State) (x : List Start) : (s.setStarts x).calGen = s.calGen := rfl
@[simp] theorem State.setStarts_calEnd (s : State) (x : List Start) : (s.setStarts x).calEnd = s.calEnd := rfl
@[simp] theorem State.setStarts_portWrites (s : State) (x : List Start) : (s.setStarts x).portWrites = s.portWrites := rfl
@[simp] theorem State.setStarts_latFlight (s : State) (x : List Start) : (s.setStarts x).latFlight = s.latFlight := rfl
@[simp] theorem State.setStarts_cut (s : State) (x : List Start) : (s.setStarts x).cut = s.cut := rfl
@[simp] theorem State.setStarts_laneTest (s : State) (x : List Start) : (s.setStarts x).laneTest = s.laneTest := rfl
@[simp] theorem State.setStarts_gafQueue (s : State) (x : List Start) : (s.setStarts x).gafQueue = s.gafQueue := rfl
@[simp] theorem State.setStarts_starts (s : State) (x : List Start) : (s.setStarts x).starts = x := rfl
@[simp] theorem State.setStarts_zoneLast (s : State) (x : List Start) : (s.setStarts x).zoneLast = s.zoneLast := rfl
@[simp] theorem State.setStarts_slateOut (s : State) (x : List Start) : (s.setStarts x).slateOut = s.slateOut := rfl
@[simp] theorem State.setStarts_engIn (s : State) (x : List Start) : (s.setStarts x).engIn = s.engIn := rfl
@[simp] theorem State.setStarts_engTrigs (s : State) (x : List Start) : (s.setStarts x).engTrigs = s.engTrigs := rfl
@[simp] theorem State.setStarts_engNeg (s : State) (x : List Start) : (s.setStarts x).engNeg = s.engNeg := rfl
@[simp] theorem State.setStarts_reelQ (s : State) (x : List Start) : (s.setStarts x).reelQ = s.reelQ := rfl
@[simp] theorem State.setStarts_xfer (s : State) (x : List Start) : (s.setStarts x).xfer = s.xfer := rfl
@[simp] theorem State.setStarts_patrol (s : State) (x : List Start) : (s.setStarts x).patrol = s.patrol := rfl
@[simp] theorem State.setStarts_ddrCap (s : State) (x : List Start) : (s.setStarts x).ddrCap = s.ddrCap := rfl
@[simp] theorem State.setStarts_flash (s : State) (x : List Start) : (s.setStarts x).flash = s.flash := rfl
@[simp] theorem State.setStarts_recs (s : State) (x : List Start) : (s.setStarts x).recs = s.recs := rfl
@[simp] theorem State.setStarts_ctu (s : State) (x : List Start) : (s.setStarts x).ctu = s.ctu := rfl
@[simp] theorem State.setStarts_image (s : State) (x : List Start) : (s.setStarts x).image = s.image := rfl
@[simp] theorem State.setStarts_gaf (s : State) (x : List Start) : (s.setStarts x).gaf = s.gaf := rfl
@[simp] theorem State.setStarts_power (s : State) (x : List Start) : (s.setStarts x).power = s.power := rfl
@[simp] theorem State.setStarts_otp (s : State) (x : List Start) : (s.setStarts x).otp = s.otp := rfl
@[simp] theorem State.setStarts_boot (s : State) (x : List Start) : (s.setStarts x).boot = s.boot := rfl
@[simp] theorem State.setStarts_sec (s : State) (x : List Start) : (s.setStarts x).sec = s.sec := rfl
@[simp] theorem State.setStarts_link (s : State) (x : List Start) : (s.setStarts x).link = s.link := rfl
@[simp] theorem State.setStarts_rushes (s : State) (x : List Start) : (s.setStarts x).rushes = s.rushes := rfl
@[simp] theorem State.setStarts_sets (s : State) (x : List Start) : (s.setStarts x).sets = s.sets := rfl
@[simp] theorem State.setStarts_cmps (s : State) (x : List Start) : (s.setStarts x).cmps = s.cmps := rfl
@[simp] theorem State.setStarts_sessions (s : State) (x : List Start) : (s.setStarts x).sessions = s.sessions := rfl
@[simp] theorem State.setStarts_feedback (s : State) (x : List Start) : (s.setStarts x).feedback = s.feedback := rfl
@[simp] theorem State.setStarts_emus (s : State) (x : List Start) : (s.setStarts x).emus = s.emus := rfl
@[simp] theorem State.setStarts_ports (s : State) (x : List Start) : (s.setStarts x).ports = s.ports := rfl
@[simp] theorem State.setStarts_engines (s : State) (x : List Start) : (s.setStarts x).engines = s.engines := rfl
@[simp] theorem State.setStarts_reels (s : State) (x : List Start) : (s.setStarts x).reels = s.reels := rfl
@[simp] theorem State.setStarts_banks (s : State) (x : List Start) : (s.setStarts x).banks = s.banks := rfl
@[simp] theorem State.setStarts_dmas (s : State) (x : List Start) : (s.setStarts x).dmas = s.dmas := rfl
@[simp] theorem State.setStarts_cores (s : State) (x : List Start) : (s.setStarts x).cores = s.cores := rfl
@[simp] theorem State.setStarts_serials (s : State) (x : List Start) : (s.setStarts x).serials = s.serials := rfl
@[simp] theorem State.setStarts_free (s : State) (x : List Start) : (s.setStarts x).free = s.free := rfl
@[simp] theorem State.setStarts_pending (s : State) (x : List Start) : (s.setStarts x).pending = s.pending := rfl
@[simp] theorem State.setZoneLast_now (s : State) (x : Nat × Nat) : (s.setZoneLast x).now = s.now := rfl
@[simp] theorem State.setZoneLast_tcRun (s : State) (x : Nat × Nat) : (s.setZoneLast x).tcRun = s.tcRun := rfl
@[simp] theorem State.setZoneLast_tcSaved (s : State) (x : Nat × Nat) : (s.setZoneLast x).tcSaved = s.tcSaved := rfl
@[simp] theorem State.setZoneLast_syncWait (s : State) (x : Nat × Nat) : (s.setZoneLast x).syncWait = s.syncWait := rfl
@[simp] theorem State.setZoneLast_fields (s : State) (x : Nat × Nat) : (s.setZoneLast x).fields = s.fields := rfl
@[simp] theorem State.setZoneLast_mem (s : State) (x : Nat × Nat) : (s.setZoneLast x).mem = s.mem := rfl
@[simp] theorem State.setZoneLast_marks (s : State) (x : Nat × Nat) : (s.setZoneLast x).marks = s.marks := rfl
@[simp] theorem State.setZoneLast_bus (s : State) (x : Nat × Nat) : (s.setZoneLast x).bus = s.bus := rfl
@[simp] theorem State.setZoneLast_held (s : State) (x : Nat × Nat) : (s.setZoneLast x).held = s.held := rfl
@[simp] theorem State.setZoneLast_events (s : State) (x : Nat × Nat) : (s.setZoneLast x).events = s.events := rfl
@[simp] theorem State.setZoneLast_reports (s : State) (x : Nat × Nat) : (s.setZoneLast x).reports = s.reports := rfl
@[simp] theorem State.setZoneLast_trigAt (s : State) (x : Nat × Nat) : (s.setZoneLast x).trigAt = s.trigAt := rfl
@[simp] theorem State.setZoneLast_trim (s : State) (x : Nat × Nat) : (s.setZoneLast x).trim = s.trim := rfl
@[simp] theorem State.setZoneLast_calGen (s : State) (x : Nat × Nat) : (s.setZoneLast x).calGen = s.calGen := rfl
@[simp] theorem State.setZoneLast_calEnd (s : State) (x : Nat × Nat) : (s.setZoneLast x).calEnd = s.calEnd := rfl
@[simp] theorem State.setZoneLast_portWrites (s : State) (x : Nat × Nat) : (s.setZoneLast x).portWrites = s.portWrites := rfl
@[simp] theorem State.setZoneLast_latFlight (s : State) (x : Nat × Nat) : (s.setZoneLast x).latFlight = s.latFlight := rfl
@[simp] theorem State.setZoneLast_cut (s : State) (x : Nat × Nat) : (s.setZoneLast x).cut = s.cut := rfl
@[simp] theorem State.setZoneLast_laneTest (s : State) (x : Nat × Nat) : (s.setZoneLast x).laneTest = s.laneTest := rfl
@[simp] theorem State.setZoneLast_gafQueue (s : State) (x : Nat × Nat) : (s.setZoneLast x).gafQueue = s.gafQueue := rfl
@[simp] theorem State.setZoneLast_starts (s : State) (x : Nat × Nat) : (s.setZoneLast x).starts = s.starts := rfl
@[simp] theorem State.setZoneLast_zoneLast (s : State) (x : Nat × Nat) : (s.setZoneLast x).zoneLast = x := rfl
@[simp] theorem State.setZoneLast_slateOut (s : State) (x : Nat × Nat) : (s.setZoneLast x).slateOut = s.slateOut := rfl
@[simp] theorem State.setZoneLast_engIn (s : State) (x : Nat × Nat) : (s.setZoneLast x).engIn = s.engIn := rfl
@[simp] theorem State.setZoneLast_engTrigs (s : State) (x : Nat × Nat) : (s.setZoneLast x).engTrigs = s.engTrigs := rfl
@[simp] theorem State.setZoneLast_engNeg (s : State) (x : Nat × Nat) : (s.setZoneLast x).engNeg = s.engNeg := rfl
@[simp] theorem State.setZoneLast_reelQ (s : State) (x : Nat × Nat) : (s.setZoneLast x).reelQ = s.reelQ := rfl
@[simp] theorem State.setZoneLast_xfer (s : State) (x : Nat × Nat) : (s.setZoneLast x).xfer = s.xfer := rfl
@[simp] theorem State.setZoneLast_patrol (s : State) (x : Nat × Nat) : (s.setZoneLast x).patrol = s.patrol := rfl
@[simp] theorem State.setZoneLast_ddrCap (s : State) (x : Nat × Nat) : (s.setZoneLast x).ddrCap = s.ddrCap := rfl
@[simp] theorem State.setZoneLast_flash (s : State) (x : Nat × Nat) : (s.setZoneLast x).flash = s.flash := rfl
@[simp] theorem State.setZoneLast_recs (s : State) (x : Nat × Nat) : (s.setZoneLast x).recs = s.recs := rfl
@[simp] theorem State.setZoneLast_ctu (s : State) (x : Nat × Nat) : (s.setZoneLast x).ctu = s.ctu := rfl
@[simp] theorem State.setZoneLast_image (s : State) (x : Nat × Nat) : (s.setZoneLast x).image = s.image := rfl
@[simp] theorem State.setZoneLast_gaf (s : State) (x : Nat × Nat) : (s.setZoneLast x).gaf = s.gaf := rfl
@[simp] theorem State.setZoneLast_power (s : State) (x : Nat × Nat) : (s.setZoneLast x).power = s.power := rfl
@[simp] theorem State.setZoneLast_otp (s : State) (x : Nat × Nat) : (s.setZoneLast x).otp = s.otp := rfl
@[simp] theorem State.setZoneLast_boot (s : State) (x : Nat × Nat) : (s.setZoneLast x).boot = s.boot := rfl
@[simp] theorem State.setZoneLast_sec (s : State) (x : Nat × Nat) : (s.setZoneLast x).sec = s.sec := rfl
@[simp] theorem State.setZoneLast_link (s : State) (x : Nat × Nat) : (s.setZoneLast x).link = s.link := rfl
@[simp] theorem State.setZoneLast_rushes (s : State) (x : Nat × Nat) : (s.setZoneLast x).rushes = s.rushes := rfl
@[simp] theorem State.setZoneLast_sets (s : State) (x : Nat × Nat) : (s.setZoneLast x).sets = s.sets := rfl
@[simp] theorem State.setZoneLast_cmps (s : State) (x : Nat × Nat) : (s.setZoneLast x).cmps = s.cmps := rfl
@[simp] theorem State.setZoneLast_sessions (s : State) (x : Nat × Nat) : (s.setZoneLast x).sessions = s.sessions := rfl
@[simp] theorem State.setZoneLast_feedback (s : State) (x : Nat × Nat) : (s.setZoneLast x).feedback = s.feedback := rfl
@[simp] theorem State.setZoneLast_emus (s : State) (x : Nat × Nat) : (s.setZoneLast x).emus = s.emus := rfl
@[simp] theorem State.setZoneLast_ports (s : State) (x : Nat × Nat) : (s.setZoneLast x).ports = s.ports := rfl
@[simp] theorem State.setZoneLast_engines (s : State) (x : Nat × Nat) : (s.setZoneLast x).engines = s.engines := rfl
@[simp] theorem State.setZoneLast_reels (s : State) (x : Nat × Nat) : (s.setZoneLast x).reels = s.reels := rfl
@[simp] theorem State.setZoneLast_banks (s : State) (x : Nat × Nat) : (s.setZoneLast x).banks = s.banks := rfl
@[simp] theorem State.setZoneLast_dmas (s : State) (x : Nat × Nat) : (s.setZoneLast x).dmas = s.dmas := rfl
@[simp] theorem State.setZoneLast_cores (s : State) (x : Nat × Nat) : (s.setZoneLast x).cores = s.cores := rfl
@[simp] theorem State.setZoneLast_serials (s : State) (x : Nat × Nat) : (s.setZoneLast x).serials = s.serials := rfl
@[simp] theorem State.setZoneLast_free (s : State) (x : Nat × Nat) : (s.setZoneLast x).free = s.free := rfl
@[simp] theorem State.setZoneLast_pending (s : State) (x : Nat × Nat) : (s.setZoneLast x).pending = s.pending := rfl
@[simp] theorem State.setSlateOut_now (s : State) (x : List SlateOut) : (s.setSlateOut x).now = s.now := rfl
@[simp] theorem State.setSlateOut_tcRun (s : State) (x : List SlateOut) : (s.setSlateOut x).tcRun = s.tcRun := rfl
@[simp] theorem State.setSlateOut_tcSaved (s : State) (x : List SlateOut) : (s.setSlateOut x).tcSaved = s.tcSaved := rfl
@[simp] theorem State.setSlateOut_syncWait (s : State) (x : List SlateOut) : (s.setSlateOut x).syncWait = s.syncWait := rfl
@[simp] theorem State.setSlateOut_fields (s : State) (x : List SlateOut) : (s.setSlateOut x).fields = s.fields := rfl
@[simp] theorem State.setSlateOut_mem (s : State) (x : List SlateOut) : (s.setSlateOut x).mem = s.mem := rfl
@[simp] theorem State.setSlateOut_marks (s : State) (x : List SlateOut) : (s.setSlateOut x).marks = s.marks := rfl
@[simp] theorem State.setSlateOut_bus (s : State) (x : List SlateOut) : (s.setSlateOut x).bus = s.bus := rfl
@[simp] theorem State.setSlateOut_held (s : State) (x : List SlateOut) : (s.setSlateOut x).held = s.held := rfl
@[simp] theorem State.setSlateOut_events (s : State) (x : List SlateOut) : (s.setSlateOut x).events = s.events := rfl
@[simp] theorem State.setSlateOut_reports (s : State) (x : List SlateOut) : (s.setSlateOut x).reports = s.reports := rfl
@[simp] theorem State.setSlateOut_trigAt (s : State) (x : List SlateOut) : (s.setSlateOut x).trigAt = s.trigAt := rfl
@[simp] theorem State.setSlateOut_trim (s : State) (x : List SlateOut) : (s.setSlateOut x).trim = s.trim := rfl
@[simp] theorem State.setSlateOut_calGen (s : State) (x : List SlateOut) : (s.setSlateOut x).calGen = s.calGen := rfl
@[simp] theorem State.setSlateOut_calEnd (s : State) (x : List SlateOut) : (s.setSlateOut x).calEnd = s.calEnd := rfl
@[simp] theorem State.setSlateOut_portWrites (s : State) (x : List SlateOut) : (s.setSlateOut x).portWrites = s.portWrites := rfl
@[simp] theorem State.setSlateOut_latFlight (s : State) (x : List SlateOut) : (s.setSlateOut x).latFlight = s.latFlight := rfl
@[simp] theorem State.setSlateOut_cut (s : State) (x : List SlateOut) : (s.setSlateOut x).cut = s.cut := rfl
@[simp] theorem State.setSlateOut_laneTest (s : State) (x : List SlateOut) : (s.setSlateOut x).laneTest = s.laneTest := rfl
@[simp] theorem State.setSlateOut_gafQueue (s : State) (x : List SlateOut) : (s.setSlateOut x).gafQueue = s.gafQueue := rfl
@[simp] theorem State.setSlateOut_starts (s : State) (x : List SlateOut) : (s.setSlateOut x).starts = s.starts := rfl
@[simp] theorem State.setSlateOut_zoneLast (s : State) (x : List SlateOut) : (s.setSlateOut x).zoneLast = s.zoneLast := rfl
@[simp] theorem State.setSlateOut_slateOut (s : State) (x : List SlateOut) : (s.setSlateOut x).slateOut = x := rfl
@[simp] theorem State.setSlateOut_engIn (s : State) (x : List SlateOut) : (s.setSlateOut x).engIn = s.engIn := rfl
@[simp] theorem State.setSlateOut_engTrigs (s : State) (x : List SlateOut) : (s.setSlateOut x).engTrigs = s.engTrigs := rfl
@[simp] theorem State.setSlateOut_engNeg (s : State) (x : List SlateOut) : (s.setSlateOut x).engNeg = s.engNeg := rfl
@[simp] theorem State.setSlateOut_reelQ (s : State) (x : List SlateOut) : (s.setSlateOut x).reelQ = s.reelQ := rfl
@[simp] theorem State.setSlateOut_xfer (s : State) (x : List SlateOut) : (s.setSlateOut x).xfer = s.xfer := rfl
@[simp] theorem State.setSlateOut_patrol (s : State) (x : List SlateOut) : (s.setSlateOut x).patrol = s.patrol := rfl
@[simp] theorem State.setSlateOut_ddrCap (s : State) (x : List SlateOut) : (s.setSlateOut x).ddrCap = s.ddrCap := rfl
@[simp] theorem State.setSlateOut_flash (s : State) (x : List SlateOut) : (s.setSlateOut x).flash = s.flash := rfl
@[simp] theorem State.setSlateOut_recs (s : State) (x : List SlateOut) : (s.setSlateOut x).recs = s.recs := rfl
@[simp] theorem State.setSlateOut_ctu (s : State) (x : List SlateOut) : (s.setSlateOut x).ctu = s.ctu := rfl
@[simp] theorem State.setSlateOut_image (s : State) (x : List SlateOut) : (s.setSlateOut x).image = s.image := rfl
@[simp] theorem State.setSlateOut_gaf (s : State) (x : List SlateOut) : (s.setSlateOut x).gaf = s.gaf := rfl
@[simp] theorem State.setSlateOut_power (s : State) (x : List SlateOut) : (s.setSlateOut x).power = s.power := rfl
@[simp] theorem State.setSlateOut_otp (s : State) (x : List SlateOut) : (s.setSlateOut x).otp = s.otp := rfl
@[simp] theorem State.setSlateOut_boot (s : State) (x : List SlateOut) : (s.setSlateOut x).boot = s.boot := rfl
@[simp] theorem State.setSlateOut_sec (s : State) (x : List SlateOut) : (s.setSlateOut x).sec = s.sec := rfl
@[simp] theorem State.setSlateOut_link (s : State) (x : List SlateOut) : (s.setSlateOut x).link = s.link := rfl
@[simp] theorem State.setSlateOut_rushes (s : State) (x : List SlateOut) : (s.setSlateOut x).rushes = s.rushes := rfl
@[simp] theorem State.setSlateOut_sets (s : State) (x : List SlateOut) : (s.setSlateOut x).sets = s.sets := rfl
@[simp] theorem State.setSlateOut_cmps (s : State) (x : List SlateOut) : (s.setSlateOut x).cmps = s.cmps := rfl
@[simp] theorem State.setSlateOut_sessions (s : State) (x : List SlateOut) : (s.setSlateOut x).sessions = s.sessions := rfl
@[simp] theorem State.setSlateOut_feedback (s : State) (x : List SlateOut) : (s.setSlateOut x).feedback = s.feedback := rfl
@[simp] theorem State.setSlateOut_emus (s : State) (x : List SlateOut) : (s.setSlateOut x).emus = s.emus := rfl
@[simp] theorem State.setSlateOut_ports (s : State) (x : List SlateOut) : (s.setSlateOut x).ports = s.ports := rfl
@[simp] theorem State.setSlateOut_engines (s : State) (x : List SlateOut) : (s.setSlateOut x).engines = s.engines := rfl
@[simp] theorem State.setSlateOut_reels (s : State) (x : List SlateOut) : (s.setSlateOut x).reels = s.reels := rfl
@[simp] theorem State.setSlateOut_banks (s : State) (x : List SlateOut) : (s.setSlateOut x).banks = s.banks := rfl
@[simp] theorem State.setSlateOut_dmas (s : State) (x : List SlateOut) : (s.setSlateOut x).dmas = s.dmas := rfl
@[simp] theorem State.setSlateOut_cores (s : State) (x : List SlateOut) : (s.setSlateOut x).cores = s.cores := rfl
@[simp] theorem State.setSlateOut_serials (s : State) (x : List SlateOut) : (s.setSlateOut x).serials = s.serials := rfl
@[simp] theorem State.setSlateOut_free (s : State) (x : List SlateOut) : (s.setSlateOut x).free = s.free := rfl
@[simp] theorem State.setSlateOut_pending (s : State) (x : List SlateOut) : (s.setSlateOut x).pending = s.pending := rfl
@[simp] theorem State.setEngIn_now (s : State) (x : List (Nat × Nat)) : (s.setEngIn x).now = s.now := rfl
@[simp] theorem State.setEngIn_tcRun (s : State) (x : List (Nat × Nat)) : (s.setEngIn x).tcRun = s.tcRun := rfl
@[simp] theorem State.setEngIn_tcSaved (s : State) (x : List (Nat × Nat)) : (s.setEngIn x).tcSaved = s.tcSaved := rfl
@[simp] theorem State.setEngIn_syncWait (s : State) (x : List (Nat × Nat)) : (s.setEngIn x).syncWait = s.syncWait := rfl
@[simp] theorem State.setEngIn_fields (s : State) (x : List (Nat × Nat)) : (s.setEngIn x).fields = s.fields := rfl
@[simp] theorem State.setEngIn_mem (s : State) (x : List (Nat × Nat)) : (s.setEngIn x).mem = s.mem := rfl
@[simp] theorem State.setEngIn_marks (s : State) (x : List (Nat × Nat)) : (s.setEngIn x).marks = s.marks := rfl
@[simp] theorem State.setEngIn_bus (s : State) (x : List (Nat × Nat)) : (s.setEngIn x).bus = s.bus := rfl
@[simp] theorem State.setEngIn_held (s : State) (x : List (Nat × Nat)) : (s.setEngIn x).held = s.held := rfl
@[simp] theorem State.setEngIn_events (s : State) (x : List (Nat × Nat)) : (s.setEngIn x).events = s.events := rfl
@[simp] theorem State.setEngIn_reports (s : State) (x : List (Nat × Nat)) : (s.setEngIn x).reports = s.reports := rfl
@[simp] theorem State.setEngIn_trigAt (s : State) (x : List (Nat × Nat)) : (s.setEngIn x).trigAt = s.trigAt := rfl
@[simp] theorem State.setEngIn_trim (s : State) (x : List (Nat × Nat)) : (s.setEngIn x).trim = s.trim := rfl
@[simp] theorem State.setEngIn_calGen (s : State) (x : List (Nat × Nat)) : (s.setEngIn x).calGen = s.calGen := rfl
@[simp] theorem State.setEngIn_calEnd (s : State) (x : List (Nat × Nat)) : (s.setEngIn x).calEnd = s.calEnd := rfl
@[simp] theorem State.setEngIn_portWrites (s : State) (x : List (Nat × Nat)) : (s.setEngIn x).portWrites = s.portWrites := rfl
@[simp] theorem State.setEngIn_latFlight (s : State) (x : List (Nat × Nat)) : (s.setEngIn x).latFlight = s.latFlight := rfl
@[simp] theorem State.setEngIn_cut (s : State) (x : List (Nat × Nat)) : (s.setEngIn x).cut = s.cut := rfl
@[simp] theorem State.setEngIn_laneTest (s : State) (x : List (Nat × Nat)) : (s.setEngIn x).laneTest = s.laneTest := rfl
@[simp] theorem State.setEngIn_gafQueue (s : State) (x : List (Nat × Nat)) : (s.setEngIn x).gafQueue = s.gafQueue := rfl
@[simp] theorem State.setEngIn_starts (s : State) (x : List (Nat × Nat)) : (s.setEngIn x).starts = s.starts := rfl
@[simp] theorem State.setEngIn_zoneLast (s : State) (x : List (Nat × Nat)) : (s.setEngIn x).zoneLast = s.zoneLast := rfl
@[simp] theorem State.setEngIn_slateOut (s : State) (x : List (Nat × Nat)) : (s.setEngIn x).slateOut = s.slateOut := rfl
@[simp] theorem State.setEngIn_engIn (s : State) (x : List (Nat × Nat)) : (s.setEngIn x).engIn = x := rfl
@[simp] theorem State.setEngIn_engTrigs (s : State) (x : List (Nat × Nat)) : (s.setEngIn x).engTrigs = s.engTrigs := rfl
@[simp] theorem State.setEngIn_engNeg (s : State) (x : List (Nat × Nat)) : (s.setEngIn x).engNeg = s.engNeg := rfl
@[simp] theorem State.setEngIn_reelQ (s : State) (x : List (Nat × Nat)) : (s.setEngIn x).reelQ = s.reelQ := rfl
@[simp] theorem State.setEngIn_xfer (s : State) (x : List (Nat × Nat)) : (s.setEngIn x).xfer = s.xfer := rfl
@[simp] theorem State.setEngIn_patrol (s : State) (x : List (Nat × Nat)) : (s.setEngIn x).patrol = s.patrol := rfl
@[simp] theorem State.setEngIn_ddrCap (s : State) (x : List (Nat × Nat)) : (s.setEngIn x).ddrCap = s.ddrCap := rfl
@[simp] theorem State.setEngIn_flash (s : State) (x : List (Nat × Nat)) : (s.setEngIn x).flash = s.flash := rfl
@[simp] theorem State.setEngIn_recs (s : State) (x : List (Nat × Nat)) : (s.setEngIn x).recs = s.recs := rfl
@[simp] theorem State.setEngIn_ctu (s : State) (x : List (Nat × Nat)) : (s.setEngIn x).ctu = s.ctu := rfl
@[simp] theorem State.setEngIn_image (s : State) (x : List (Nat × Nat)) : (s.setEngIn x).image = s.image := rfl
@[simp] theorem State.setEngIn_gaf (s : State) (x : List (Nat × Nat)) : (s.setEngIn x).gaf = s.gaf := rfl
@[simp] theorem State.setEngIn_power (s : State) (x : List (Nat × Nat)) : (s.setEngIn x).power = s.power := rfl
@[simp] theorem State.setEngIn_otp (s : State) (x : List (Nat × Nat)) : (s.setEngIn x).otp = s.otp := rfl
@[simp] theorem State.setEngIn_boot (s : State) (x : List (Nat × Nat)) : (s.setEngIn x).boot = s.boot := rfl
@[simp] theorem State.setEngIn_sec (s : State) (x : List (Nat × Nat)) : (s.setEngIn x).sec = s.sec := rfl
@[simp] theorem State.setEngIn_link (s : State) (x : List (Nat × Nat)) : (s.setEngIn x).link = s.link := rfl
@[simp] theorem State.setEngIn_rushes (s : State) (x : List (Nat × Nat)) : (s.setEngIn x).rushes = s.rushes := rfl
@[simp] theorem State.setEngIn_sets (s : State) (x : List (Nat × Nat)) : (s.setEngIn x).sets = s.sets := rfl
@[simp] theorem State.setEngIn_cmps (s : State) (x : List (Nat × Nat)) : (s.setEngIn x).cmps = s.cmps := rfl
@[simp] theorem State.setEngIn_sessions (s : State) (x : List (Nat × Nat)) : (s.setEngIn x).sessions = s.sessions := rfl
@[simp] theorem State.setEngIn_feedback (s : State) (x : List (Nat × Nat)) : (s.setEngIn x).feedback = s.feedback := rfl
@[simp] theorem State.setEngIn_emus (s : State) (x : List (Nat × Nat)) : (s.setEngIn x).emus = s.emus := rfl
@[simp] theorem State.setEngIn_ports (s : State) (x : List (Nat × Nat)) : (s.setEngIn x).ports = s.ports := rfl
@[simp] theorem State.setEngIn_engines (s : State) (x : List (Nat × Nat)) : (s.setEngIn x).engines = s.engines := rfl
@[simp] theorem State.setEngIn_reels (s : State) (x : List (Nat × Nat)) : (s.setEngIn x).reels = s.reels := rfl
@[simp] theorem State.setEngIn_banks (s : State) (x : List (Nat × Nat)) : (s.setEngIn x).banks = s.banks := rfl
@[simp] theorem State.setEngIn_dmas (s : State) (x : List (Nat × Nat)) : (s.setEngIn x).dmas = s.dmas := rfl
@[simp] theorem State.setEngIn_cores (s : State) (x : List (Nat × Nat)) : (s.setEngIn x).cores = s.cores := rfl
@[simp] theorem State.setEngIn_serials (s : State) (x : List (Nat × Nat)) : (s.setEngIn x).serials = s.serials := rfl
@[simp] theorem State.setEngIn_free (s : State) (x : List (Nat × Nat)) : (s.setEngIn x).free = s.free := rfl
@[simp] theorem State.setEngIn_pending (s : State) (x : List (Nat × Nat)) : (s.setEngIn x).pending = s.pending := rfl
@[simp] theorem State.setEngTrigs_now (s : State) (x : List (Nat × Nat)) : (s.setEngTrigs x).now = s.now := rfl
@[simp] theorem State.setEngTrigs_tcRun (s : State) (x : List (Nat × Nat)) : (s.setEngTrigs x).tcRun = s.tcRun := rfl
@[simp] theorem State.setEngTrigs_tcSaved (s : State) (x : List (Nat × Nat)) : (s.setEngTrigs x).tcSaved = s.tcSaved := rfl
@[simp] theorem State.setEngTrigs_syncWait (s : State) (x : List (Nat × Nat)) : (s.setEngTrigs x).syncWait = s.syncWait := rfl
@[simp] theorem State.setEngTrigs_fields (s : State) (x : List (Nat × Nat)) : (s.setEngTrigs x).fields = s.fields := rfl
@[simp] theorem State.setEngTrigs_mem (s : State) (x : List (Nat × Nat)) : (s.setEngTrigs x).mem = s.mem := rfl
@[simp] theorem State.setEngTrigs_marks (s : State) (x : List (Nat × Nat)) : (s.setEngTrigs x).marks = s.marks := rfl
@[simp] theorem State.setEngTrigs_bus (s : State) (x : List (Nat × Nat)) : (s.setEngTrigs x).bus = s.bus := rfl
@[simp] theorem State.setEngTrigs_held (s : State) (x : List (Nat × Nat)) : (s.setEngTrigs x).held = s.held := rfl
@[simp] theorem State.setEngTrigs_events (s : State) (x : List (Nat × Nat)) : (s.setEngTrigs x).events = s.events := rfl
@[simp] theorem State.setEngTrigs_reports (s : State) (x : List (Nat × Nat)) : (s.setEngTrigs x).reports = s.reports := rfl
@[simp] theorem State.setEngTrigs_trigAt (s : State) (x : List (Nat × Nat)) : (s.setEngTrigs x).trigAt = s.trigAt := rfl
@[simp] theorem State.setEngTrigs_trim (s : State) (x : List (Nat × Nat)) : (s.setEngTrigs x).trim = s.trim := rfl
@[simp] theorem State.setEngTrigs_calGen (s : State) (x : List (Nat × Nat)) : (s.setEngTrigs x).calGen = s.calGen := rfl
@[simp] theorem State.setEngTrigs_calEnd (s : State) (x : List (Nat × Nat)) : (s.setEngTrigs x).calEnd = s.calEnd := rfl
@[simp] theorem State.setEngTrigs_portWrites (s : State) (x : List (Nat × Nat)) : (s.setEngTrigs x).portWrites = s.portWrites := rfl
@[simp] theorem State.setEngTrigs_latFlight (s : State) (x : List (Nat × Nat)) : (s.setEngTrigs x).latFlight = s.latFlight := rfl
@[simp] theorem State.setEngTrigs_cut (s : State) (x : List (Nat × Nat)) : (s.setEngTrigs x).cut = s.cut := rfl
@[simp] theorem State.setEngTrigs_laneTest (s : State) (x : List (Nat × Nat)) : (s.setEngTrigs x).laneTest = s.laneTest := rfl
@[simp] theorem State.setEngTrigs_gafQueue (s : State) (x : List (Nat × Nat)) : (s.setEngTrigs x).gafQueue = s.gafQueue := rfl
@[simp] theorem State.setEngTrigs_starts (s : State) (x : List (Nat × Nat)) : (s.setEngTrigs x).starts = s.starts := rfl
@[simp] theorem State.setEngTrigs_zoneLast (s : State) (x : List (Nat × Nat)) : (s.setEngTrigs x).zoneLast = s.zoneLast := rfl
@[simp] theorem State.setEngTrigs_slateOut (s : State) (x : List (Nat × Nat)) : (s.setEngTrigs x).slateOut = s.slateOut := rfl
@[simp] theorem State.setEngTrigs_engIn (s : State) (x : List (Nat × Nat)) : (s.setEngTrigs x).engIn = s.engIn := rfl
@[simp] theorem State.setEngTrigs_engTrigs (s : State) (x : List (Nat × Nat)) : (s.setEngTrigs x).engTrigs = x := rfl
@[simp] theorem State.setEngTrigs_engNeg (s : State) (x : List (Nat × Nat)) : (s.setEngTrigs x).engNeg = s.engNeg := rfl
@[simp] theorem State.setEngTrigs_reelQ (s : State) (x : List (Nat × Nat)) : (s.setEngTrigs x).reelQ = s.reelQ := rfl
@[simp] theorem State.setEngTrigs_xfer (s : State) (x : List (Nat × Nat)) : (s.setEngTrigs x).xfer = s.xfer := rfl
@[simp] theorem State.setEngTrigs_patrol (s : State) (x : List (Nat × Nat)) : (s.setEngTrigs x).patrol = s.patrol := rfl
@[simp] theorem State.setEngTrigs_ddrCap (s : State) (x : List (Nat × Nat)) : (s.setEngTrigs x).ddrCap = s.ddrCap := rfl
@[simp] theorem State.setEngTrigs_flash (s : State) (x : List (Nat × Nat)) : (s.setEngTrigs x).flash = s.flash := rfl
@[simp] theorem State.setEngTrigs_recs (s : State) (x : List (Nat × Nat)) : (s.setEngTrigs x).recs = s.recs := rfl
@[simp] theorem State.setEngTrigs_ctu (s : State) (x : List (Nat × Nat)) : (s.setEngTrigs x).ctu = s.ctu := rfl
@[simp] theorem State.setEngTrigs_image (s : State) (x : List (Nat × Nat)) : (s.setEngTrigs x).image = s.image := rfl
@[simp] theorem State.setEngTrigs_gaf (s : State) (x : List (Nat × Nat)) : (s.setEngTrigs x).gaf = s.gaf := rfl
@[simp] theorem State.setEngTrigs_power (s : State) (x : List (Nat × Nat)) : (s.setEngTrigs x).power = s.power := rfl
@[simp] theorem State.setEngTrigs_otp (s : State) (x : List (Nat × Nat)) : (s.setEngTrigs x).otp = s.otp := rfl
@[simp] theorem State.setEngTrigs_boot (s : State) (x : List (Nat × Nat)) : (s.setEngTrigs x).boot = s.boot := rfl
@[simp] theorem State.setEngTrigs_sec (s : State) (x : List (Nat × Nat)) : (s.setEngTrigs x).sec = s.sec := rfl
@[simp] theorem State.setEngTrigs_link (s : State) (x : List (Nat × Nat)) : (s.setEngTrigs x).link = s.link := rfl
@[simp] theorem State.setEngTrigs_rushes (s : State) (x : List (Nat × Nat)) : (s.setEngTrigs x).rushes = s.rushes := rfl
@[simp] theorem State.setEngTrigs_sets (s : State) (x : List (Nat × Nat)) : (s.setEngTrigs x).sets = s.sets := rfl
@[simp] theorem State.setEngTrigs_cmps (s : State) (x : List (Nat × Nat)) : (s.setEngTrigs x).cmps = s.cmps := rfl
@[simp] theorem State.setEngTrigs_sessions (s : State) (x : List (Nat × Nat)) : (s.setEngTrigs x).sessions = s.sessions := rfl
@[simp] theorem State.setEngTrigs_feedback (s : State) (x : List (Nat × Nat)) : (s.setEngTrigs x).feedback = s.feedback := rfl
@[simp] theorem State.setEngTrigs_emus (s : State) (x : List (Nat × Nat)) : (s.setEngTrigs x).emus = s.emus := rfl
@[simp] theorem State.setEngTrigs_ports (s : State) (x : List (Nat × Nat)) : (s.setEngTrigs x).ports = s.ports := rfl
@[simp] theorem State.setEngTrigs_engines (s : State) (x : List (Nat × Nat)) : (s.setEngTrigs x).engines = s.engines := rfl
@[simp] theorem State.setEngTrigs_reels (s : State) (x : List (Nat × Nat)) : (s.setEngTrigs x).reels = s.reels := rfl
@[simp] theorem State.setEngTrigs_banks (s : State) (x : List (Nat × Nat)) : (s.setEngTrigs x).banks = s.banks := rfl
@[simp] theorem State.setEngTrigs_dmas (s : State) (x : List (Nat × Nat)) : (s.setEngTrigs x).dmas = s.dmas := rfl
@[simp] theorem State.setEngTrigs_cores (s : State) (x : List (Nat × Nat)) : (s.setEngTrigs x).cores = s.cores := rfl
@[simp] theorem State.setEngTrigs_serials (s : State) (x : List (Nat × Nat)) : (s.setEngTrigs x).serials = s.serials := rfl
@[simp] theorem State.setEngTrigs_free (s : State) (x : List (Nat × Nat)) : (s.setEngTrigs x).free = s.free := rfl
@[simp] theorem State.setEngTrigs_pending (s : State) (x : List (Nat × Nat)) : (s.setEngTrigs x).pending = s.pending := rfl
@[simp] theorem State.setEngNeg_now (s : State) (x : List (Nat × Nat)) : (s.setEngNeg x).now = s.now := rfl
@[simp] theorem State.setEngNeg_tcRun (s : State) (x : List (Nat × Nat)) : (s.setEngNeg x).tcRun = s.tcRun := rfl
@[simp] theorem State.setEngNeg_tcSaved (s : State) (x : List (Nat × Nat)) : (s.setEngNeg x).tcSaved = s.tcSaved := rfl
@[simp] theorem State.setEngNeg_syncWait (s : State) (x : List (Nat × Nat)) : (s.setEngNeg x).syncWait = s.syncWait := rfl
@[simp] theorem State.setEngNeg_fields (s : State) (x : List (Nat × Nat)) : (s.setEngNeg x).fields = s.fields := rfl
@[simp] theorem State.setEngNeg_mem (s : State) (x : List (Nat × Nat)) : (s.setEngNeg x).mem = s.mem := rfl
@[simp] theorem State.setEngNeg_marks (s : State) (x : List (Nat × Nat)) : (s.setEngNeg x).marks = s.marks := rfl
@[simp] theorem State.setEngNeg_bus (s : State) (x : List (Nat × Nat)) : (s.setEngNeg x).bus = s.bus := rfl
@[simp] theorem State.setEngNeg_held (s : State) (x : List (Nat × Nat)) : (s.setEngNeg x).held = s.held := rfl
@[simp] theorem State.setEngNeg_events (s : State) (x : List (Nat × Nat)) : (s.setEngNeg x).events = s.events := rfl
@[simp] theorem State.setEngNeg_reports (s : State) (x : List (Nat × Nat)) : (s.setEngNeg x).reports = s.reports := rfl
@[simp] theorem State.setEngNeg_trigAt (s : State) (x : List (Nat × Nat)) : (s.setEngNeg x).trigAt = s.trigAt := rfl
@[simp] theorem State.setEngNeg_trim (s : State) (x : List (Nat × Nat)) : (s.setEngNeg x).trim = s.trim := rfl
@[simp] theorem State.setEngNeg_calGen (s : State) (x : List (Nat × Nat)) : (s.setEngNeg x).calGen = s.calGen := rfl
@[simp] theorem State.setEngNeg_calEnd (s : State) (x : List (Nat × Nat)) : (s.setEngNeg x).calEnd = s.calEnd := rfl
@[simp] theorem State.setEngNeg_portWrites (s : State) (x : List (Nat × Nat)) : (s.setEngNeg x).portWrites = s.portWrites := rfl
@[simp] theorem State.setEngNeg_latFlight (s : State) (x : List (Nat × Nat)) : (s.setEngNeg x).latFlight = s.latFlight := rfl
@[simp] theorem State.setEngNeg_cut (s : State) (x : List (Nat × Nat)) : (s.setEngNeg x).cut = s.cut := rfl
@[simp] theorem State.setEngNeg_laneTest (s : State) (x : List (Nat × Nat)) : (s.setEngNeg x).laneTest = s.laneTest := rfl
@[simp] theorem State.setEngNeg_gafQueue (s : State) (x : List (Nat × Nat)) : (s.setEngNeg x).gafQueue = s.gafQueue := rfl
@[simp] theorem State.setEngNeg_starts (s : State) (x : List (Nat × Nat)) : (s.setEngNeg x).starts = s.starts := rfl
@[simp] theorem State.setEngNeg_zoneLast (s : State) (x : List (Nat × Nat)) : (s.setEngNeg x).zoneLast = s.zoneLast := rfl
@[simp] theorem State.setEngNeg_slateOut (s : State) (x : List (Nat × Nat)) : (s.setEngNeg x).slateOut = s.slateOut := rfl
@[simp] theorem State.setEngNeg_engIn (s : State) (x : List (Nat × Nat)) : (s.setEngNeg x).engIn = s.engIn := rfl
@[simp] theorem State.setEngNeg_engTrigs (s : State) (x : List (Nat × Nat)) : (s.setEngNeg x).engTrigs = s.engTrigs := rfl
@[simp] theorem State.setEngNeg_engNeg (s : State) (x : List (Nat × Nat)) : (s.setEngNeg x).engNeg = x := rfl
@[simp] theorem State.setEngNeg_reelQ (s : State) (x : List (Nat × Nat)) : (s.setEngNeg x).reelQ = s.reelQ := rfl
@[simp] theorem State.setEngNeg_xfer (s : State) (x : List (Nat × Nat)) : (s.setEngNeg x).xfer = s.xfer := rfl
@[simp] theorem State.setEngNeg_patrol (s : State) (x : List (Nat × Nat)) : (s.setEngNeg x).patrol = s.patrol := rfl
@[simp] theorem State.setEngNeg_ddrCap (s : State) (x : List (Nat × Nat)) : (s.setEngNeg x).ddrCap = s.ddrCap := rfl
@[simp] theorem State.setEngNeg_flash (s : State) (x : List (Nat × Nat)) : (s.setEngNeg x).flash = s.flash := rfl
@[simp] theorem State.setEngNeg_recs (s : State) (x : List (Nat × Nat)) : (s.setEngNeg x).recs = s.recs := rfl
@[simp] theorem State.setEngNeg_ctu (s : State) (x : List (Nat × Nat)) : (s.setEngNeg x).ctu = s.ctu := rfl
@[simp] theorem State.setEngNeg_image (s : State) (x : List (Nat × Nat)) : (s.setEngNeg x).image = s.image := rfl
@[simp] theorem State.setEngNeg_gaf (s : State) (x : List (Nat × Nat)) : (s.setEngNeg x).gaf = s.gaf := rfl
@[simp] theorem State.setEngNeg_power (s : State) (x : List (Nat × Nat)) : (s.setEngNeg x).power = s.power := rfl
@[simp] theorem State.setEngNeg_otp (s : State) (x : List (Nat × Nat)) : (s.setEngNeg x).otp = s.otp := rfl
@[simp] theorem State.setEngNeg_boot (s : State) (x : List (Nat × Nat)) : (s.setEngNeg x).boot = s.boot := rfl
@[simp] theorem State.setEngNeg_sec (s : State) (x : List (Nat × Nat)) : (s.setEngNeg x).sec = s.sec := rfl
@[simp] theorem State.setEngNeg_link (s : State) (x : List (Nat × Nat)) : (s.setEngNeg x).link = s.link := rfl
@[simp] theorem State.setEngNeg_rushes (s : State) (x : List (Nat × Nat)) : (s.setEngNeg x).rushes = s.rushes := rfl
@[simp] theorem State.setEngNeg_sets (s : State) (x : List (Nat × Nat)) : (s.setEngNeg x).sets = s.sets := rfl
@[simp] theorem State.setEngNeg_cmps (s : State) (x : List (Nat × Nat)) : (s.setEngNeg x).cmps = s.cmps := rfl
@[simp] theorem State.setEngNeg_sessions (s : State) (x : List (Nat × Nat)) : (s.setEngNeg x).sessions = s.sessions := rfl
@[simp] theorem State.setEngNeg_feedback (s : State) (x : List (Nat × Nat)) : (s.setEngNeg x).feedback = s.feedback := rfl
@[simp] theorem State.setEngNeg_emus (s : State) (x : List (Nat × Nat)) : (s.setEngNeg x).emus = s.emus := rfl
@[simp] theorem State.setEngNeg_ports (s : State) (x : List (Nat × Nat)) : (s.setEngNeg x).ports = s.ports := rfl
@[simp] theorem State.setEngNeg_engines (s : State) (x : List (Nat × Nat)) : (s.setEngNeg x).engines = s.engines := rfl
@[simp] theorem State.setEngNeg_reels (s : State) (x : List (Nat × Nat)) : (s.setEngNeg x).reels = s.reels := rfl
@[simp] theorem State.setEngNeg_banks (s : State) (x : List (Nat × Nat)) : (s.setEngNeg x).banks = s.banks := rfl
@[simp] theorem State.setEngNeg_dmas (s : State) (x : List (Nat × Nat)) : (s.setEngNeg x).dmas = s.dmas := rfl
@[simp] theorem State.setEngNeg_cores (s : State) (x : List (Nat × Nat)) : (s.setEngNeg x).cores = s.cores := rfl
@[simp] theorem State.setEngNeg_serials (s : State) (x : List (Nat × Nat)) : (s.setEngNeg x).serials = s.serials := rfl
@[simp] theorem State.setEngNeg_free (s : State) (x : List (Nat × Nat)) : (s.setEngNeg x).free = s.free := rfl
@[simp] theorem State.setEngNeg_pending (s : State) (x : List (Nat × Nat)) : (s.setEngNeg x).pending = s.pending := rfl
@[simp] theorem State.setReelQ_now (s : State) (x : List (Nat × Nat × Dy)) : (s.setReelQ x).now = s.now := rfl
@[simp] theorem State.setReelQ_tcRun (s : State) (x : List (Nat × Nat × Dy)) : (s.setReelQ x).tcRun = s.tcRun := rfl
@[simp] theorem State.setReelQ_tcSaved (s : State) (x : List (Nat × Nat × Dy)) : (s.setReelQ x).tcSaved = s.tcSaved := rfl
@[simp] theorem State.setReelQ_syncWait (s : State) (x : List (Nat × Nat × Dy)) : (s.setReelQ x).syncWait = s.syncWait := rfl
@[simp] theorem State.setReelQ_fields (s : State) (x : List (Nat × Nat × Dy)) : (s.setReelQ x).fields = s.fields := rfl
@[simp] theorem State.setReelQ_mem (s : State) (x : List (Nat × Nat × Dy)) : (s.setReelQ x).mem = s.mem := rfl
@[simp] theorem State.setReelQ_marks (s : State) (x : List (Nat × Nat × Dy)) : (s.setReelQ x).marks = s.marks := rfl
@[simp] theorem State.setReelQ_bus (s : State) (x : List (Nat × Nat × Dy)) : (s.setReelQ x).bus = s.bus := rfl
@[simp] theorem State.setReelQ_held (s : State) (x : List (Nat × Nat × Dy)) : (s.setReelQ x).held = s.held := rfl
@[simp] theorem State.setReelQ_events (s : State) (x : List (Nat × Nat × Dy)) : (s.setReelQ x).events = s.events := rfl
@[simp] theorem State.setReelQ_reports (s : State) (x : List (Nat × Nat × Dy)) : (s.setReelQ x).reports = s.reports := rfl
@[simp] theorem State.setReelQ_trigAt (s : State) (x : List (Nat × Nat × Dy)) : (s.setReelQ x).trigAt = s.trigAt := rfl
@[simp] theorem State.setReelQ_trim (s : State) (x : List (Nat × Nat × Dy)) : (s.setReelQ x).trim = s.trim := rfl
@[simp] theorem State.setReelQ_calGen (s : State) (x : List (Nat × Nat × Dy)) : (s.setReelQ x).calGen = s.calGen := rfl
@[simp] theorem State.setReelQ_calEnd (s : State) (x : List (Nat × Nat × Dy)) : (s.setReelQ x).calEnd = s.calEnd := rfl
@[simp] theorem State.setReelQ_portWrites (s : State) (x : List (Nat × Nat × Dy)) : (s.setReelQ x).portWrites = s.portWrites := rfl
@[simp] theorem State.setReelQ_latFlight (s : State) (x : List (Nat × Nat × Dy)) : (s.setReelQ x).latFlight = s.latFlight := rfl
@[simp] theorem State.setReelQ_cut (s : State) (x : List (Nat × Nat × Dy)) : (s.setReelQ x).cut = s.cut := rfl
@[simp] theorem State.setReelQ_laneTest (s : State) (x : List (Nat × Nat × Dy)) : (s.setReelQ x).laneTest = s.laneTest := rfl
@[simp] theorem State.setReelQ_gafQueue (s : State) (x : List (Nat × Nat × Dy)) : (s.setReelQ x).gafQueue = s.gafQueue := rfl
@[simp] theorem State.setReelQ_starts (s : State) (x : List (Nat × Nat × Dy)) : (s.setReelQ x).starts = s.starts := rfl
@[simp] theorem State.setReelQ_zoneLast (s : State) (x : List (Nat × Nat × Dy)) : (s.setReelQ x).zoneLast = s.zoneLast := rfl
@[simp] theorem State.setReelQ_slateOut (s : State) (x : List (Nat × Nat × Dy)) : (s.setReelQ x).slateOut = s.slateOut := rfl
@[simp] theorem State.setReelQ_engIn (s : State) (x : List (Nat × Nat × Dy)) : (s.setReelQ x).engIn = s.engIn := rfl
@[simp] theorem State.setReelQ_engTrigs (s : State) (x : List (Nat × Nat × Dy)) : (s.setReelQ x).engTrigs = s.engTrigs := rfl
@[simp] theorem State.setReelQ_engNeg (s : State) (x : List (Nat × Nat × Dy)) : (s.setReelQ x).engNeg = s.engNeg := rfl
@[simp] theorem State.setReelQ_reelQ (s : State) (x : List (Nat × Nat × Dy)) : (s.setReelQ x).reelQ = x := rfl
@[simp] theorem State.setReelQ_xfer (s : State) (x : List (Nat × Nat × Dy)) : (s.setReelQ x).xfer = s.xfer := rfl
@[simp] theorem State.setReelQ_patrol (s : State) (x : List (Nat × Nat × Dy)) : (s.setReelQ x).patrol = s.patrol := rfl
@[simp] theorem State.setReelQ_ddrCap (s : State) (x : List (Nat × Nat × Dy)) : (s.setReelQ x).ddrCap = s.ddrCap := rfl
@[simp] theorem State.setReelQ_flash (s : State) (x : List (Nat × Nat × Dy)) : (s.setReelQ x).flash = s.flash := rfl
@[simp] theorem State.setReelQ_recs (s : State) (x : List (Nat × Nat × Dy)) : (s.setReelQ x).recs = s.recs := rfl
@[simp] theorem State.setReelQ_ctu (s : State) (x : List (Nat × Nat × Dy)) : (s.setReelQ x).ctu = s.ctu := rfl
@[simp] theorem State.setReelQ_image (s : State) (x : List (Nat × Nat × Dy)) : (s.setReelQ x).image = s.image := rfl
@[simp] theorem State.setReelQ_gaf (s : State) (x : List (Nat × Nat × Dy)) : (s.setReelQ x).gaf = s.gaf := rfl
@[simp] theorem State.setReelQ_power (s : State) (x : List (Nat × Nat × Dy)) : (s.setReelQ x).power = s.power := rfl
@[simp] theorem State.setReelQ_otp (s : State) (x : List (Nat × Nat × Dy)) : (s.setReelQ x).otp = s.otp := rfl
@[simp] theorem State.setReelQ_boot (s : State) (x : List (Nat × Nat × Dy)) : (s.setReelQ x).boot = s.boot := rfl
@[simp] theorem State.setReelQ_sec (s : State) (x : List (Nat × Nat × Dy)) : (s.setReelQ x).sec = s.sec := rfl
@[simp] theorem State.setReelQ_link (s : State) (x : List (Nat × Nat × Dy)) : (s.setReelQ x).link = s.link := rfl
@[simp] theorem State.setReelQ_rushes (s : State) (x : List (Nat × Nat × Dy)) : (s.setReelQ x).rushes = s.rushes := rfl
@[simp] theorem State.setReelQ_sets (s : State) (x : List (Nat × Nat × Dy)) : (s.setReelQ x).sets = s.sets := rfl
@[simp] theorem State.setReelQ_cmps (s : State) (x : List (Nat × Nat × Dy)) : (s.setReelQ x).cmps = s.cmps := rfl
@[simp] theorem State.setReelQ_sessions (s : State) (x : List (Nat × Nat × Dy)) : (s.setReelQ x).sessions = s.sessions := rfl
@[simp] theorem State.setReelQ_feedback (s : State) (x : List (Nat × Nat × Dy)) : (s.setReelQ x).feedback = s.feedback := rfl
@[simp] theorem State.setReelQ_emus (s : State) (x : List (Nat × Nat × Dy)) : (s.setReelQ x).emus = s.emus := rfl
@[simp] theorem State.setReelQ_ports (s : State) (x : List (Nat × Nat × Dy)) : (s.setReelQ x).ports = s.ports := rfl
@[simp] theorem State.setReelQ_engines (s : State) (x : List (Nat × Nat × Dy)) : (s.setReelQ x).engines = s.engines := rfl
@[simp] theorem State.setReelQ_reels (s : State) (x : List (Nat × Nat × Dy)) : (s.setReelQ x).reels = s.reels := rfl
@[simp] theorem State.setReelQ_banks (s : State) (x : List (Nat × Nat × Dy)) : (s.setReelQ x).banks = s.banks := rfl
@[simp] theorem State.setReelQ_dmas (s : State) (x : List (Nat × Nat × Dy)) : (s.setReelQ x).dmas = s.dmas := rfl
@[simp] theorem State.setReelQ_cores (s : State) (x : List (Nat × Nat × Dy)) : (s.setReelQ x).cores = s.cores := rfl
@[simp] theorem State.setReelQ_serials (s : State) (x : List (Nat × Nat × Dy)) : (s.setReelQ x).serials = s.serials := rfl
@[simp] theorem State.setReelQ_free (s : State) (x : List (Nat × Nat × Dy)) : (s.setReelQ x).free = s.free := rfl
@[simp] theorem State.setReelQ_pending (s : State) (x : List (Nat × Nat × Dy)) : (s.setReelQ x).pending = s.pending := rfl
@[simp] theorem State.setXfer_now (s : State) (x : Option Xfer) : (s.setXfer x).now = s.now := rfl
@[simp] theorem State.setXfer_tcRun (s : State) (x : Option Xfer) : (s.setXfer x).tcRun = s.tcRun := rfl
@[simp] theorem State.setXfer_tcSaved (s : State) (x : Option Xfer) : (s.setXfer x).tcSaved = s.tcSaved := rfl
@[simp] theorem State.setXfer_syncWait (s : State) (x : Option Xfer) : (s.setXfer x).syncWait = s.syncWait := rfl
@[simp] theorem State.setXfer_fields (s : State) (x : Option Xfer) : (s.setXfer x).fields = s.fields := rfl
@[simp] theorem State.setXfer_mem (s : State) (x : Option Xfer) : (s.setXfer x).mem = s.mem := rfl
@[simp] theorem State.setXfer_marks (s : State) (x : Option Xfer) : (s.setXfer x).marks = s.marks := rfl
@[simp] theorem State.setXfer_bus (s : State) (x : Option Xfer) : (s.setXfer x).bus = s.bus := rfl
@[simp] theorem State.setXfer_held (s : State) (x : Option Xfer) : (s.setXfer x).held = s.held := rfl
@[simp] theorem State.setXfer_events (s : State) (x : Option Xfer) : (s.setXfer x).events = s.events := rfl
@[simp] theorem State.setXfer_reports (s : State) (x : Option Xfer) : (s.setXfer x).reports = s.reports := rfl
@[simp] theorem State.setXfer_trigAt (s : State) (x : Option Xfer) : (s.setXfer x).trigAt = s.trigAt := rfl
@[simp] theorem State.setXfer_trim (s : State) (x : Option Xfer) : (s.setXfer x).trim = s.trim := rfl
@[simp] theorem State.setXfer_calGen (s : State) (x : Option Xfer) : (s.setXfer x).calGen = s.calGen := rfl
@[simp] theorem State.setXfer_calEnd (s : State) (x : Option Xfer) : (s.setXfer x).calEnd = s.calEnd := rfl
@[simp] theorem State.setXfer_portWrites (s : State) (x : Option Xfer) : (s.setXfer x).portWrites = s.portWrites := rfl
@[simp] theorem State.setXfer_latFlight (s : State) (x : Option Xfer) : (s.setXfer x).latFlight = s.latFlight := rfl
@[simp] theorem State.setXfer_cut (s : State) (x : Option Xfer) : (s.setXfer x).cut = s.cut := rfl
@[simp] theorem State.setXfer_laneTest (s : State) (x : Option Xfer) : (s.setXfer x).laneTest = s.laneTest := rfl
@[simp] theorem State.setXfer_gafQueue (s : State) (x : Option Xfer) : (s.setXfer x).gafQueue = s.gafQueue := rfl
@[simp] theorem State.setXfer_starts (s : State) (x : Option Xfer) : (s.setXfer x).starts = s.starts := rfl
@[simp] theorem State.setXfer_zoneLast (s : State) (x : Option Xfer) : (s.setXfer x).zoneLast = s.zoneLast := rfl
@[simp] theorem State.setXfer_slateOut (s : State) (x : Option Xfer) : (s.setXfer x).slateOut = s.slateOut := rfl
@[simp] theorem State.setXfer_engIn (s : State) (x : Option Xfer) : (s.setXfer x).engIn = s.engIn := rfl
@[simp] theorem State.setXfer_engTrigs (s : State) (x : Option Xfer) : (s.setXfer x).engTrigs = s.engTrigs := rfl
@[simp] theorem State.setXfer_engNeg (s : State) (x : Option Xfer) : (s.setXfer x).engNeg = s.engNeg := rfl
@[simp] theorem State.setXfer_reelQ (s : State) (x : Option Xfer) : (s.setXfer x).reelQ = s.reelQ := rfl
@[simp] theorem State.setXfer_xfer (s : State) (x : Option Xfer) : (s.setXfer x).xfer = x := rfl
@[simp] theorem State.setXfer_patrol (s : State) (x : Option Xfer) : (s.setXfer x).patrol = s.patrol := rfl
@[simp] theorem State.setXfer_ddrCap (s : State) (x : Option Xfer) : (s.setXfer x).ddrCap = s.ddrCap := rfl
@[simp] theorem State.setXfer_flash (s : State) (x : Option Xfer) : (s.setXfer x).flash = s.flash := rfl
@[simp] theorem State.setXfer_recs (s : State) (x : Option Xfer) : (s.setXfer x).recs = s.recs := rfl
@[simp] theorem State.setXfer_ctu (s : State) (x : Option Xfer) : (s.setXfer x).ctu = s.ctu := rfl
@[simp] theorem State.setXfer_image (s : State) (x : Option Xfer) : (s.setXfer x).image = s.image := rfl
@[simp] theorem State.setXfer_gaf (s : State) (x : Option Xfer) : (s.setXfer x).gaf = s.gaf := rfl
@[simp] theorem State.setXfer_power (s : State) (x : Option Xfer) : (s.setXfer x).power = s.power := rfl
@[simp] theorem State.setXfer_otp (s : State) (x : Option Xfer) : (s.setXfer x).otp = s.otp := rfl
@[simp] theorem State.setXfer_boot (s : State) (x : Option Xfer) : (s.setXfer x).boot = s.boot := rfl
@[simp] theorem State.setXfer_sec (s : State) (x : Option Xfer) : (s.setXfer x).sec = s.sec := rfl
@[simp] theorem State.setXfer_link (s : State) (x : Option Xfer) : (s.setXfer x).link = s.link := rfl
@[simp] theorem State.setXfer_rushes (s : State) (x : Option Xfer) : (s.setXfer x).rushes = s.rushes := rfl
@[simp] theorem State.setXfer_sets (s : State) (x : Option Xfer) : (s.setXfer x).sets = s.sets := rfl
@[simp] theorem State.setXfer_cmps (s : State) (x : Option Xfer) : (s.setXfer x).cmps = s.cmps := rfl
@[simp] theorem State.setXfer_sessions (s : State) (x : Option Xfer) : (s.setXfer x).sessions = s.sessions := rfl
@[simp] theorem State.setXfer_feedback (s : State) (x : Option Xfer) : (s.setXfer x).feedback = s.feedback := rfl
@[simp] theorem State.setXfer_emus (s : State) (x : Option Xfer) : (s.setXfer x).emus = s.emus := rfl
@[simp] theorem State.setXfer_ports (s : State) (x : Option Xfer) : (s.setXfer x).ports = s.ports := rfl
@[simp] theorem State.setXfer_engines (s : State) (x : Option Xfer) : (s.setXfer x).engines = s.engines := rfl
@[simp] theorem State.setXfer_reels (s : State) (x : Option Xfer) : (s.setXfer x).reels = s.reels := rfl
@[simp] theorem State.setXfer_banks (s : State) (x : Option Xfer) : (s.setXfer x).banks = s.banks := rfl
@[simp] theorem State.setXfer_dmas (s : State) (x : Option Xfer) : (s.setXfer x).dmas = s.dmas := rfl
@[simp] theorem State.setXfer_cores (s : State) (x : Option Xfer) : (s.setXfer x).cores = s.cores := rfl
@[simp] theorem State.setXfer_serials (s : State) (x : Option Xfer) : (s.setXfer x).serials = s.serials := rfl
@[simp] theorem State.setXfer_free (s : State) (x : Option Xfer) : (s.setXfer x).free = s.free := rfl
@[simp] theorem State.setXfer_pending (s : State) (x : Option Xfer) : (s.setXfer x).pending = s.pending := rfl
@[simp] theorem State.setPatrol_now (s : State) (x : Nat) : (s.setPatrol x).now = s.now := rfl
@[simp] theorem State.setPatrol_tcRun (s : State) (x : Nat) : (s.setPatrol x).tcRun = s.tcRun := rfl
@[simp] theorem State.setPatrol_tcSaved (s : State) (x : Nat) : (s.setPatrol x).tcSaved = s.tcSaved := rfl
@[simp] theorem State.setPatrol_syncWait (s : State) (x : Nat) : (s.setPatrol x).syncWait = s.syncWait := rfl
@[simp] theorem State.setPatrol_fields (s : State) (x : Nat) : (s.setPatrol x).fields = s.fields := rfl
@[simp] theorem State.setPatrol_mem (s : State) (x : Nat) : (s.setPatrol x).mem = s.mem := rfl
@[simp] theorem State.setPatrol_marks (s : State) (x : Nat) : (s.setPatrol x).marks = s.marks := rfl
@[simp] theorem State.setPatrol_bus (s : State) (x : Nat) : (s.setPatrol x).bus = s.bus := rfl
@[simp] theorem State.setPatrol_held (s : State) (x : Nat) : (s.setPatrol x).held = s.held := rfl
@[simp] theorem State.setPatrol_events (s : State) (x : Nat) : (s.setPatrol x).events = s.events := rfl
@[simp] theorem State.setPatrol_reports (s : State) (x : Nat) : (s.setPatrol x).reports = s.reports := rfl
@[simp] theorem State.setPatrol_trigAt (s : State) (x : Nat) : (s.setPatrol x).trigAt = s.trigAt := rfl
@[simp] theorem State.setPatrol_trim (s : State) (x : Nat) : (s.setPatrol x).trim = s.trim := rfl
@[simp] theorem State.setPatrol_calGen (s : State) (x : Nat) : (s.setPatrol x).calGen = s.calGen := rfl
@[simp] theorem State.setPatrol_calEnd (s : State) (x : Nat) : (s.setPatrol x).calEnd = s.calEnd := rfl
@[simp] theorem State.setPatrol_portWrites (s : State) (x : Nat) : (s.setPatrol x).portWrites = s.portWrites := rfl
@[simp] theorem State.setPatrol_latFlight (s : State) (x : Nat) : (s.setPatrol x).latFlight = s.latFlight := rfl
@[simp] theorem State.setPatrol_cut (s : State) (x : Nat) : (s.setPatrol x).cut = s.cut := rfl
@[simp] theorem State.setPatrol_laneTest (s : State) (x : Nat) : (s.setPatrol x).laneTest = s.laneTest := rfl
@[simp] theorem State.setPatrol_gafQueue (s : State) (x : Nat) : (s.setPatrol x).gafQueue = s.gafQueue := rfl
@[simp] theorem State.setPatrol_starts (s : State) (x : Nat) : (s.setPatrol x).starts = s.starts := rfl
@[simp] theorem State.setPatrol_zoneLast (s : State) (x : Nat) : (s.setPatrol x).zoneLast = s.zoneLast := rfl
@[simp] theorem State.setPatrol_slateOut (s : State) (x : Nat) : (s.setPatrol x).slateOut = s.slateOut := rfl
@[simp] theorem State.setPatrol_engIn (s : State) (x : Nat) : (s.setPatrol x).engIn = s.engIn := rfl
@[simp] theorem State.setPatrol_engTrigs (s : State) (x : Nat) : (s.setPatrol x).engTrigs = s.engTrigs := rfl
@[simp] theorem State.setPatrol_engNeg (s : State) (x : Nat) : (s.setPatrol x).engNeg = s.engNeg := rfl
@[simp] theorem State.setPatrol_reelQ (s : State) (x : Nat) : (s.setPatrol x).reelQ = s.reelQ := rfl
@[simp] theorem State.setPatrol_xfer (s : State) (x : Nat) : (s.setPatrol x).xfer = s.xfer := rfl
@[simp] theorem State.setPatrol_patrol (s : State) (x : Nat) : (s.setPatrol x).patrol = x := rfl
@[simp] theorem State.setPatrol_ddrCap (s : State) (x : Nat) : (s.setPatrol x).ddrCap = s.ddrCap := rfl
@[simp] theorem State.setPatrol_flash (s : State) (x : Nat) : (s.setPatrol x).flash = s.flash := rfl
@[simp] theorem State.setPatrol_recs (s : State) (x : Nat) : (s.setPatrol x).recs = s.recs := rfl
@[simp] theorem State.setPatrol_ctu (s : State) (x : Nat) : (s.setPatrol x).ctu = s.ctu := rfl
@[simp] theorem State.setPatrol_image (s : State) (x : Nat) : (s.setPatrol x).image = s.image := rfl
@[simp] theorem State.setPatrol_gaf (s : State) (x : Nat) : (s.setPatrol x).gaf = s.gaf := rfl
@[simp] theorem State.setPatrol_power (s : State) (x : Nat) : (s.setPatrol x).power = s.power := rfl
@[simp] theorem State.setPatrol_otp (s : State) (x : Nat) : (s.setPatrol x).otp = s.otp := rfl
@[simp] theorem State.setPatrol_boot (s : State) (x : Nat) : (s.setPatrol x).boot = s.boot := rfl
@[simp] theorem State.setPatrol_sec (s : State) (x : Nat) : (s.setPatrol x).sec = s.sec := rfl
@[simp] theorem State.setPatrol_link (s : State) (x : Nat) : (s.setPatrol x).link = s.link := rfl
@[simp] theorem State.setPatrol_rushes (s : State) (x : Nat) : (s.setPatrol x).rushes = s.rushes := rfl
@[simp] theorem State.setPatrol_sets (s : State) (x : Nat) : (s.setPatrol x).sets = s.sets := rfl
@[simp] theorem State.setPatrol_cmps (s : State) (x : Nat) : (s.setPatrol x).cmps = s.cmps := rfl
@[simp] theorem State.setPatrol_sessions (s : State) (x : Nat) : (s.setPatrol x).sessions = s.sessions := rfl
@[simp] theorem State.setPatrol_feedback (s : State) (x : Nat) : (s.setPatrol x).feedback = s.feedback := rfl
@[simp] theorem State.setPatrol_emus (s : State) (x : Nat) : (s.setPatrol x).emus = s.emus := rfl
@[simp] theorem State.setPatrol_ports (s : State) (x : Nat) : (s.setPatrol x).ports = s.ports := rfl
@[simp] theorem State.setPatrol_engines (s : State) (x : Nat) : (s.setPatrol x).engines = s.engines := rfl
@[simp] theorem State.setPatrol_reels (s : State) (x : Nat) : (s.setPatrol x).reels = s.reels := rfl
@[simp] theorem State.setPatrol_banks (s : State) (x : Nat) : (s.setPatrol x).banks = s.banks := rfl
@[simp] theorem State.setPatrol_dmas (s : State) (x : Nat) : (s.setPatrol x).dmas = s.dmas := rfl
@[simp] theorem State.setPatrol_cores (s : State) (x : Nat) : (s.setPatrol x).cores = s.cores := rfl
@[simp] theorem State.setPatrol_serials (s : State) (x : Nat) : (s.setPatrol x).serials = s.serials := rfl
@[simp] theorem State.setPatrol_free (s : State) (x : Nat) : (s.setPatrol x).free = s.free := rfl
@[simp] theorem State.setPatrol_pending (s : State) (x : Nat) : (s.setPatrol x).pending = s.pending := rfl
@[simp] theorem State.setDdrCap_now (s : State) (x : Nat) : (s.setDdrCap x).now = s.now := rfl
@[simp] theorem State.setDdrCap_tcRun (s : State) (x : Nat) : (s.setDdrCap x).tcRun = s.tcRun := rfl
@[simp] theorem State.setDdrCap_tcSaved (s : State) (x : Nat) : (s.setDdrCap x).tcSaved = s.tcSaved := rfl
@[simp] theorem State.setDdrCap_syncWait (s : State) (x : Nat) : (s.setDdrCap x).syncWait = s.syncWait := rfl
@[simp] theorem State.setDdrCap_fields (s : State) (x : Nat) : (s.setDdrCap x).fields = s.fields := rfl
@[simp] theorem State.setDdrCap_mem (s : State) (x : Nat) : (s.setDdrCap x).mem = s.mem := rfl
@[simp] theorem State.setDdrCap_marks (s : State) (x : Nat) : (s.setDdrCap x).marks = s.marks := rfl
@[simp] theorem State.setDdrCap_bus (s : State) (x : Nat) : (s.setDdrCap x).bus = s.bus := rfl
@[simp] theorem State.setDdrCap_held (s : State) (x : Nat) : (s.setDdrCap x).held = s.held := rfl
@[simp] theorem State.setDdrCap_events (s : State) (x : Nat) : (s.setDdrCap x).events = s.events := rfl
@[simp] theorem State.setDdrCap_reports (s : State) (x : Nat) : (s.setDdrCap x).reports = s.reports := rfl
@[simp] theorem State.setDdrCap_trigAt (s : State) (x : Nat) : (s.setDdrCap x).trigAt = s.trigAt := rfl
@[simp] theorem State.setDdrCap_trim (s : State) (x : Nat) : (s.setDdrCap x).trim = s.trim := rfl
@[simp] theorem State.setDdrCap_calGen (s : State) (x : Nat) : (s.setDdrCap x).calGen = s.calGen := rfl
@[simp] theorem State.setDdrCap_calEnd (s : State) (x : Nat) : (s.setDdrCap x).calEnd = s.calEnd := rfl
@[simp] theorem State.setDdrCap_portWrites (s : State) (x : Nat) : (s.setDdrCap x).portWrites = s.portWrites := rfl
@[simp] theorem State.setDdrCap_latFlight (s : State) (x : Nat) : (s.setDdrCap x).latFlight = s.latFlight := rfl
@[simp] theorem State.setDdrCap_cut (s : State) (x : Nat) : (s.setDdrCap x).cut = s.cut := rfl
@[simp] theorem State.setDdrCap_laneTest (s : State) (x : Nat) : (s.setDdrCap x).laneTest = s.laneTest := rfl
@[simp] theorem State.setDdrCap_gafQueue (s : State) (x : Nat) : (s.setDdrCap x).gafQueue = s.gafQueue := rfl
@[simp] theorem State.setDdrCap_starts (s : State) (x : Nat) : (s.setDdrCap x).starts = s.starts := rfl
@[simp] theorem State.setDdrCap_zoneLast (s : State) (x : Nat) : (s.setDdrCap x).zoneLast = s.zoneLast := rfl
@[simp] theorem State.setDdrCap_slateOut (s : State) (x : Nat) : (s.setDdrCap x).slateOut = s.slateOut := rfl
@[simp] theorem State.setDdrCap_engIn (s : State) (x : Nat) : (s.setDdrCap x).engIn = s.engIn := rfl
@[simp] theorem State.setDdrCap_engTrigs (s : State) (x : Nat) : (s.setDdrCap x).engTrigs = s.engTrigs := rfl
@[simp] theorem State.setDdrCap_engNeg (s : State) (x : Nat) : (s.setDdrCap x).engNeg = s.engNeg := rfl
@[simp] theorem State.setDdrCap_reelQ (s : State) (x : Nat) : (s.setDdrCap x).reelQ = s.reelQ := rfl
@[simp] theorem State.setDdrCap_xfer (s : State) (x : Nat) : (s.setDdrCap x).xfer = s.xfer := rfl
@[simp] theorem State.setDdrCap_patrol (s : State) (x : Nat) : (s.setDdrCap x).patrol = s.patrol := rfl
@[simp] theorem State.setDdrCap_ddrCap (s : State) (x : Nat) : (s.setDdrCap x).ddrCap = x := rfl
@[simp] theorem State.setDdrCap_flash (s : State) (x : Nat) : (s.setDdrCap x).flash = s.flash := rfl
@[simp] theorem State.setDdrCap_recs (s : State) (x : Nat) : (s.setDdrCap x).recs = s.recs := rfl
@[simp] theorem State.setDdrCap_ctu (s : State) (x : Nat) : (s.setDdrCap x).ctu = s.ctu := rfl
@[simp] theorem State.setDdrCap_image (s : State) (x : Nat) : (s.setDdrCap x).image = s.image := rfl
@[simp] theorem State.setDdrCap_gaf (s : State) (x : Nat) : (s.setDdrCap x).gaf = s.gaf := rfl
@[simp] theorem State.setDdrCap_power (s : State) (x : Nat) : (s.setDdrCap x).power = s.power := rfl
@[simp] theorem State.setDdrCap_otp (s : State) (x : Nat) : (s.setDdrCap x).otp = s.otp := rfl
@[simp] theorem State.setDdrCap_boot (s : State) (x : Nat) : (s.setDdrCap x).boot = s.boot := rfl
@[simp] theorem State.setDdrCap_sec (s : State) (x : Nat) : (s.setDdrCap x).sec = s.sec := rfl
@[simp] theorem State.setDdrCap_link (s : State) (x : Nat) : (s.setDdrCap x).link = s.link := rfl
@[simp] theorem State.setDdrCap_rushes (s : State) (x : Nat) : (s.setDdrCap x).rushes = s.rushes := rfl
@[simp] theorem State.setDdrCap_sets (s : State) (x : Nat) : (s.setDdrCap x).sets = s.sets := rfl
@[simp] theorem State.setDdrCap_cmps (s : State) (x : Nat) : (s.setDdrCap x).cmps = s.cmps := rfl
@[simp] theorem State.setDdrCap_sessions (s : State) (x : Nat) : (s.setDdrCap x).sessions = s.sessions := rfl
@[simp] theorem State.setDdrCap_feedback (s : State) (x : Nat) : (s.setDdrCap x).feedback = s.feedback := rfl
@[simp] theorem State.setDdrCap_emus (s : State) (x : Nat) : (s.setDdrCap x).emus = s.emus := rfl
@[simp] theorem State.setDdrCap_ports (s : State) (x : Nat) : (s.setDdrCap x).ports = s.ports := rfl
@[simp] theorem State.setDdrCap_engines (s : State) (x : Nat) : (s.setDdrCap x).engines = s.engines := rfl
@[simp] theorem State.setDdrCap_reels (s : State) (x : Nat) : (s.setDdrCap x).reels = s.reels := rfl
@[simp] theorem State.setDdrCap_banks (s : State) (x : Nat) : (s.setDdrCap x).banks = s.banks := rfl
@[simp] theorem State.setDdrCap_dmas (s : State) (x : Nat) : (s.setDdrCap x).dmas = s.dmas := rfl
@[simp] theorem State.setDdrCap_cores (s : State) (x : Nat) : (s.setDdrCap x).cores = s.cores := rfl
@[simp] theorem State.setDdrCap_serials (s : State) (x : Nat) : (s.setDdrCap x).serials = s.serials := rfl
@[simp] theorem State.setDdrCap_free (s : State) (x : Nat) : (s.setDdrCap x).free = s.free := rfl
@[simp] theorem State.setDdrCap_pending (s : State) (x : Nat) : (s.setDdrCap x).pending = s.pending := rfl
@[simp] theorem State.setFlash_now (s : State) (x : FlashSt) : (s.setFlash x).now = s.now := rfl
@[simp] theorem State.setFlash_tcRun (s : State) (x : FlashSt) : (s.setFlash x).tcRun = s.tcRun := rfl
@[simp] theorem State.setFlash_tcSaved (s : State) (x : FlashSt) : (s.setFlash x).tcSaved = s.tcSaved := rfl
@[simp] theorem State.setFlash_syncWait (s : State) (x : FlashSt) : (s.setFlash x).syncWait = s.syncWait := rfl
@[simp] theorem State.setFlash_fields (s : State) (x : FlashSt) : (s.setFlash x).fields = s.fields := rfl
@[simp] theorem State.setFlash_mem (s : State) (x : FlashSt) : (s.setFlash x).mem = s.mem := rfl
@[simp] theorem State.setFlash_marks (s : State) (x : FlashSt) : (s.setFlash x).marks = s.marks := rfl
@[simp] theorem State.setFlash_bus (s : State) (x : FlashSt) : (s.setFlash x).bus = s.bus := rfl
@[simp] theorem State.setFlash_held (s : State) (x : FlashSt) : (s.setFlash x).held = s.held := rfl
@[simp] theorem State.setFlash_events (s : State) (x : FlashSt) : (s.setFlash x).events = s.events := rfl
@[simp] theorem State.setFlash_reports (s : State) (x : FlashSt) : (s.setFlash x).reports = s.reports := rfl
@[simp] theorem State.setFlash_trigAt (s : State) (x : FlashSt) : (s.setFlash x).trigAt = s.trigAt := rfl
@[simp] theorem State.setFlash_trim (s : State) (x : FlashSt) : (s.setFlash x).trim = s.trim := rfl
@[simp] theorem State.setFlash_calGen (s : State) (x : FlashSt) : (s.setFlash x).calGen = s.calGen := rfl
@[simp] theorem State.setFlash_calEnd (s : State) (x : FlashSt) : (s.setFlash x).calEnd = s.calEnd := rfl
@[simp] theorem State.setFlash_portWrites (s : State) (x : FlashSt) : (s.setFlash x).portWrites = s.portWrites := rfl
@[simp] theorem State.setFlash_latFlight (s : State) (x : FlashSt) : (s.setFlash x).latFlight = s.latFlight := rfl
@[simp] theorem State.setFlash_cut (s : State) (x : FlashSt) : (s.setFlash x).cut = s.cut := rfl
@[simp] theorem State.setFlash_laneTest (s : State) (x : FlashSt) : (s.setFlash x).laneTest = s.laneTest := rfl
@[simp] theorem State.setFlash_gafQueue (s : State) (x : FlashSt) : (s.setFlash x).gafQueue = s.gafQueue := rfl
@[simp] theorem State.setFlash_starts (s : State) (x : FlashSt) : (s.setFlash x).starts = s.starts := rfl
@[simp] theorem State.setFlash_zoneLast (s : State) (x : FlashSt) : (s.setFlash x).zoneLast = s.zoneLast := rfl
@[simp] theorem State.setFlash_slateOut (s : State) (x : FlashSt) : (s.setFlash x).slateOut = s.slateOut := rfl
@[simp] theorem State.setFlash_engIn (s : State) (x : FlashSt) : (s.setFlash x).engIn = s.engIn := rfl
@[simp] theorem State.setFlash_engTrigs (s : State) (x : FlashSt) : (s.setFlash x).engTrigs = s.engTrigs := rfl
@[simp] theorem State.setFlash_engNeg (s : State) (x : FlashSt) : (s.setFlash x).engNeg = s.engNeg := rfl
@[simp] theorem State.setFlash_reelQ (s : State) (x : FlashSt) : (s.setFlash x).reelQ = s.reelQ := rfl
@[simp] theorem State.setFlash_xfer (s : State) (x : FlashSt) : (s.setFlash x).xfer = s.xfer := rfl
@[simp] theorem State.setFlash_patrol (s : State) (x : FlashSt) : (s.setFlash x).patrol = s.patrol := rfl
@[simp] theorem State.setFlash_ddrCap (s : State) (x : FlashSt) : (s.setFlash x).ddrCap = s.ddrCap := rfl
@[simp] theorem State.setFlash_flash (s : State) (x : FlashSt) : (s.setFlash x).flash = x := rfl
@[simp] theorem State.setFlash_recs (s : State) (x : FlashSt) : (s.setFlash x).recs = s.recs := rfl
@[simp] theorem State.setFlash_ctu (s : State) (x : FlashSt) : (s.setFlash x).ctu = s.ctu := rfl
@[simp] theorem State.setFlash_image (s : State) (x : FlashSt) : (s.setFlash x).image = s.image := rfl
@[simp] theorem State.setFlash_gaf (s : State) (x : FlashSt) : (s.setFlash x).gaf = s.gaf := rfl
@[simp] theorem State.setFlash_power (s : State) (x : FlashSt) : (s.setFlash x).power = s.power := rfl
@[simp] theorem State.setFlash_otp (s : State) (x : FlashSt) : (s.setFlash x).otp = s.otp := rfl
@[simp] theorem State.setFlash_boot (s : State) (x : FlashSt) : (s.setFlash x).boot = s.boot := rfl
@[simp] theorem State.setFlash_sec (s : State) (x : FlashSt) : (s.setFlash x).sec = s.sec := rfl
@[simp] theorem State.setFlash_link (s : State) (x : FlashSt) : (s.setFlash x).link = s.link := rfl
@[simp] theorem State.setFlash_rushes (s : State) (x : FlashSt) : (s.setFlash x).rushes = s.rushes := rfl
@[simp] theorem State.setFlash_sets (s : State) (x : FlashSt) : (s.setFlash x).sets = s.sets := rfl
@[simp] theorem State.setFlash_cmps (s : State) (x : FlashSt) : (s.setFlash x).cmps = s.cmps := rfl
@[simp] theorem State.setFlash_sessions (s : State) (x : FlashSt) : (s.setFlash x).sessions = s.sessions := rfl
@[simp] theorem State.setFlash_feedback (s : State) (x : FlashSt) : (s.setFlash x).feedback = s.feedback := rfl
@[simp] theorem State.setFlash_emus (s : State) (x : FlashSt) : (s.setFlash x).emus = s.emus := rfl
@[simp] theorem State.setFlash_ports (s : State) (x : FlashSt) : (s.setFlash x).ports = s.ports := rfl
@[simp] theorem State.setFlash_engines (s : State) (x : FlashSt) : (s.setFlash x).engines = s.engines := rfl
@[simp] theorem State.setFlash_reels (s : State) (x : FlashSt) : (s.setFlash x).reels = s.reels := rfl
@[simp] theorem State.setFlash_banks (s : State) (x : FlashSt) : (s.setFlash x).banks = s.banks := rfl
@[simp] theorem State.setFlash_dmas (s : State) (x : FlashSt) : (s.setFlash x).dmas = s.dmas := rfl
@[simp] theorem State.setFlash_cores (s : State) (x : FlashSt) : (s.setFlash x).cores = s.cores := rfl
@[simp] theorem State.setFlash_serials (s : State) (x : FlashSt) : (s.setFlash x).serials = s.serials := rfl
@[simp] theorem State.setFlash_free (s : State) (x : FlashSt) : (s.setFlash x).free = s.free := rfl
@[simp] theorem State.setFlash_pending (s : State) (x : FlashSt) : (s.setFlash x).pending = s.pending := rfl
@[simp] theorem State.setRecs_now (s : State) (x : StoreSt) : (s.setRecs x).now = s.now := rfl
@[simp] theorem State.setRecs_tcRun (s : State) (x : StoreSt) : (s.setRecs x).tcRun = s.tcRun := rfl
@[simp] theorem State.setRecs_tcSaved (s : State) (x : StoreSt) : (s.setRecs x).tcSaved = s.tcSaved := rfl
@[simp] theorem State.setRecs_syncWait (s : State) (x : StoreSt) : (s.setRecs x).syncWait = s.syncWait := rfl
@[simp] theorem State.setRecs_fields (s : State) (x : StoreSt) : (s.setRecs x).fields = s.fields := rfl
@[simp] theorem State.setRecs_mem (s : State) (x : StoreSt) : (s.setRecs x).mem = s.mem := rfl
@[simp] theorem State.setRecs_marks (s : State) (x : StoreSt) : (s.setRecs x).marks = s.marks := rfl
@[simp] theorem State.setRecs_bus (s : State) (x : StoreSt) : (s.setRecs x).bus = s.bus := rfl
@[simp] theorem State.setRecs_held (s : State) (x : StoreSt) : (s.setRecs x).held = s.held := rfl
@[simp] theorem State.setRecs_events (s : State) (x : StoreSt) : (s.setRecs x).events = s.events := rfl
@[simp] theorem State.setRecs_reports (s : State) (x : StoreSt) : (s.setRecs x).reports = s.reports := rfl
@[simp] theorem State.setRecs_trigAt (s : State) (x : StoreSt) : (s.setRecs x).trigAt = s.trigAt := rfl
@[simp] theorem State.setRecs_trim (s : State) (x : StoreSt) : (s.setRecs x).trim = s.trim := rfl
@[simp] theorem State.setRecs_calGen (s : State) (x : StoreSt) : (s.setRecs x).calGen = s.calGen := rfl
@[simp] theorem State.setRecs_calEnd (s : State) (x : StoreSt) : (s.setRecs x).calEnd = s.calEnd := rfl
@[simp] theorem State.setRecs_portWrites (s : State) (x : StoreSt) : (s.setRecs x).portWrites = s.portWrites := rfl
@[simp] theorem State.setRecs_latFlight (s : State) (x : StoreSt) : (s.setRecs x).latFlight = s.latFlight := rfl
@[simp] theorem State.setRecs_cut (s : State) (x : StoreSt) : (s.setRecs x).cut = s.cut := rfl
@[simp] theorem State.setRecs_laneTest (s : State) (x : StoreSt) : (s.setRecs x).laneTest = s.laneTest := rfl
@[simp] theorem State.setRecs_gafQueue (s : State) (x : StoreSt) : (s.setRecs x).gafQueue = s.gafQueue := rfl
@[simp] theorem State.setRecs_starts (s : State) (x : StoreSt) : (s.setRecs x).starts = s.starts := rfl
@[simp] theorem State.setRecs_zoneLast (s : State) (x : StoreSt) : (s.setRecs x).zoneLast = s.zoneLast := rfl
@[simp] theorem State.setRecs_slateOut (s : State) (x : StoreSt) : (s.setRecs x).slateOut = s.slateOut := rfl
@[simp] theorem State.setRecs_engIn (s : State) (x : StoreSt) : (s.setRecs x).engIn = s.engIn := rfl
@[simp] theorem State.setRecs_engTrigs (s : State) (x : StoreSt) : (s.setRecs x).engTrigs = s.engTrigs := rfl
@[simp] theorem State.setRecs_engNeg (s : State) (x : StoreSt) : (s.setRecs x).engNeg = s.engNeg := rfl
@[simp] theorem State.setRecs_reelQ (s : State) (x : StoreSt) : (s.setRecs x).reelQ = s.reelQ := rfl
@[simp] theorem State.setRecs_xfer (s : State) (x : StoreSt) : (s.setRecs x).xfer = s.xfer := rfl
@[simp] theorem State.setRecs_patrol (s : State) (x : StoreSt) : (s.setRecs x).patrol = s.patrol := rfl
@[simp] theorem State.setRecs_ddrCap (s : State) (x : StoreSt) : (s.setRecs x).ddrCap = s.ddrCap := rfl
@[simp] theorem State.setRecs_flash (s : State) (x : StoreSt) : (s.setRecs x).flash = s.flash := rfl
@[simp] theorem State.setRecs_recs (s : State) (x : StoreSt) : (s.setRecs x).recs = x := rfl
@[simp] theorem State.setRecs_ctu (s : State) (x : StoreSt) : (s.setRecs x).ctu = s.ctu := rfl
@[simp] theorem State.setRecs_image (s : State) (x : StoreSt) : (s.setRecs x).image = s.image := rfl
@[simp] theorem State.setRecs_gaf (s : State) (x : StoreSt) : (s.setRecs x).gaf = s.gaf := rfl
@[simp] theorem State.setRecs_power (s : State) (x : StoreSt) : (s.setRecs x).power = s.power := rfl
@[simp] theorem State.setRecs_otp (s : State) (x : StoreSt) : (s.setRecs x).otp = s.otp := rfl
@[simp] theorem State.setRecs_boot (s : State) (x : StoreSt) : (s.setRecs x).boot = s.boot := rfl
@[simp] theorem State.setRecs_sec (s : State) (x : StoreSt) : (s.setRecs x).sec = s.sec := rfl
@[simp] theorem State.setRecs_link (s : State) (x : StoreSt) : (s.setRecs x).link = s.link := rfl
@[simp] theorem State.setRecs_rushes (s : State) (x : StoreSt) : (s.setRecs x).rushes = s.rushes := rfl
@[simp] theorem State.setRecs_sets (s : State) (x : StoreSt) : (s.setRecs x).sets = s.sets := rfl
@[simp] theorem State.setRecs_cmps (s : State) (x : StoreSt) : (s.setRecs x).cmps = s.cmps := rfl
@[simp] theorem State.setRecs_sessions (s : State) (x : StoreSt) : (s.setRecs x).sessions = s.sessions := rfl
@[simp] theorem State.setRecs_feedback (s : State) (x : StoreSt) : (s.setRecs x).feedback = s.feedback := rfl
@[simp] theorem State.setRecs_emus (s : State) (x : StoreSt) : (s.setRecs x).emus = s.emus := rfl
@[simp] theorem State.setRecs_ports (s : State) (x : StoreSt) : (s.setRecs x).ports = s.ports := rfl
@[simp] theorem State.setRecs_engines (s : State) (x : StoreSt) : (s.setRecs x).engines = s.engines := rfl
@[simp] theorem State.setRecs_reels (s : State) (x : StoreSt) : (s.setRecs x).reels = s.reels := rfl
@[simp] theorem State.setRecs_banks (s : State) (x : StoreSt) : (s.setRecs x).banks = s.banks := rfl
@[simp] theorem State.setRecs_dmas (s : State) (x : StoreSt) : (s.setRecs x).dmas = s.dmas := rfl
@[simp] theorem State.setRecs_cores (s : State) (x : StoreSt) : (s.setRecs x).cores = s.cores := rfl
@[simp] theorem State.setRecs_serials (s : State) (x : StoreSt) : (s.setRecs x).serials = s.serials := rfl
@[simp] theorem State.setRecs_free (s : State) (x : StoreSt) : (s.setRecs x).free = s.free := rfl
@[simp] theorem State.setRecs_pending (s : State) (x : StoreSt) : (s.setRecs x).pending = s.pending := rfl
@[simp] theorem State.setCtu_now (s : State) (x : CtuSt) : (s.setCtu x).now = s.now := rfl
@[simp] theorem State.setCtu_tcRun (s : State) (x : CtuSt) : (s.setCtu x).tcRun = s.tcRun := rfl
@[simp] theorem State.setCtu_tcSaved (s : State) (x : CtuSt) : (s.setCtu x).tcSaved = s.tcSaved := rfl
@[simp] theorem State.setCtu_syncWait (s : State) (x : CtuSt) : (s.setCtu x).syncWait = s.syncWait := rfl
@[simp] theorem State.setCtu_fields (s : State) (x : CtuSt) : (s.setCtu x).fields = s.fields := rfl
@[simp] theorem State.setCtu_mem (s : State) (x : CtuSt) : (s.setCtu x).mem = s.mem := rfl
@[simp] theorem State.setCtu_marks (s : State) (x : CtuSt) : (s.setCtu x).marks = s.marks := rfl
@[simp] theorem State.setCtu_bus (s : State) (x : CtuSt) : (s.setCtu x).bus = s.bus := rfl
@[simp] theorem State.setCtu_held (s : State) (x : CtuSt) : (s.setCtu x).held = s.held := rfl
@[simp] theorem State.setCtu_events (s : State) (x : CtuSt) : (s.setCtu x).events = s.events := rfl
@[simp] theorem State.setCtu_reports (s : State) (x : CtuSt) : (s.setCtu x).reports = s.reports := rfl
@[simp] theorem State.setCtu_trigAt (s : State) (x : CtuSt) : (s.setCtu x).trigAt = s.trigAt := rfl
@[simp] theorem State.setCtu_trim (s : State) (x : CtuSt) : (s.setCtu x).trim = s.trim := rfl
@[simp] theorem State.setCtu_calGen (s : State) (x : CtuSt) : (s.setCtu x).calGen = s.calGen := rfl
@[simp] theorem State.setCtu_calEnd (s : State) (x : CtuSt) : (s.setCtu x).calEnd = s.calEnd := rfl
@[simp] theorem State.setCtu_portWrites (s : State) (x : CtuSt) : (s.setCtu x).portWrites = s.portWrites := rfl
@[simp] theorem State.setCtu_latFlight (s : State) (x : CtuSt) : (s.setCtu x).latFlight = s.latFlight := rfl
@[simp] theorem State.setCtu_cut (s : State) (x : CtuSt) : (s.setCtu x).cut = s.cut := rfl
@[simp] theorem State.setCtu_laneTest (s : State) (x : CtuSt) : (s.setCtu x).laneTest = s.laneTest := rfl
@[simp] theorem State.setCtu_gafQueue (s : State) (x : CtuSt) : (s.setCtu x).gafQueue = s.gafQueue := rfl
@[simp] theorem State.setCtu_starts (s : State) (x : CtuSt) : (s.setCtu x).starts = s.starts := rfl
@[simp] theorem State.setCtu_zoneLast (s : State) (x : CtuSt) : (s.setCtu x).zoneLast = s.zoneLast := rfl
@[simp] theorem State.setCtu_slateOut (s : State) (x : CtuSt) : (s.setCtu x).slateOut = s.slateOut := rfl
@[simp] theorem State.setCtu_engIn (s : State) (x : CtuSt) : (s.setCtu x).engIn = s.engIn := rfl
@[simp] theorem State.setCtu_engTrigs (s : State) (x : CtuSt) : (s.setCtu x).engTrigs = s.engTrigs := rfl
@[simp] theorem State.setCtu_engNeg (s : State) (x : CtuSt) : (s.setCtu x).engNeg = s.engNeg := rfl
@[simp] theorem State.setCtu_reelQ (s : State) (x : CtuSt) : (s.setCtu x).reelQ = s.reelQ := rfl
@[simp] theorem State.setCtu_xfer (s : State) (x : CtuSt) : (s.setCtu x).xfer = s.xfer := rfl
@[simp] theorem State.setCtu_patrol (s : State) (x : CtuSt) : (s.setCtu x).patrol = s.patrol := rfl
@[simp] theorem State.setCtu_ddrCap (s : State) (x : CtuSt) : (s.setCtu x).ddrCap = s.ddrCap := rfl
@[simp] theorem State.setCtu_flash (s : State) (x : CtuSt) : (s.setCtu x).flash = s.flash := rfl
@[simp] theorem State.setCtu_recs (s : State) (x : CtuSt) : (s.setCtu x).recs = s.recs := rfl
@[simp] theorem State.setCtu_ctu (s : State) (x : CtuSt) : (s.setCtu x).ctu = x := rfl
@[simp] theorem State.setCtu_image (s : State) (x : CtuSt) : (s.setCtu x).image = s.image := rfl
@[simp] theorem State.setCtu_gaf (s : State) (x : CtuSt) : (s.setCtu x).gaf = s.gaf := rfl
@[simp] theorem State.setCtu_power (s : State) (x : CtuSt) : (s.setCtu x).power = s.power := rfl
@[simp] theorem State.setCtu_otp (s : State) (x : CtuSt) : (s.setCtu x).otp = s.otp := rfl
@[simp] theorem State.setCtu_boot (s : State) (x : CtuSt) : (s.setCtu x).boot = s.boot := rfl
@[simp] theorem State.setCtu_sec (s : State) (x : CtuSt) : (s.setCtu x).sec = s.sec := rfl
@[simp] theorem State.setCtu_link (s : State) (x : CtuSt) : (s.setCtu x).link = s.link := rfl
@[simp] theorem State.setCtu_rushes (s : State) (x : CtuSt) : (s.setCtu x).rushes = s.rushes := rfl
@[simp] theorem State.setCtu_sets (s : State) (x : CtuSt) : (s.setCtu x).sets = s.sets := rfl
@[simp] theorem State.setCtu_cmps (s : State) (x : CtuSt) : (s.setCtu x).cmps = s.cmps := rfl
@[simp] theorem State.setCtu_sessions (s : State) (x : CtuSt) : (s.setCtu x).sessions = s.sessions := rfl
@[simp] theorem State.setCtu_feedback (s : State) (x : CtuSt) : (s.setCtu x).feedback = s.feedback := rfl
@[simp] theorem State.setCtu_emus (s : State) (x : CtuSt) : (s.setCtu x).emus = s.emus := rfl
@[simp] theorem State.setCtu_ports (s : State) (x : CtuSt) : (s.setCtu x).ports = s.ports := rfl
@[simp] theorem State.setCtu_engines (s : State) (x : CtuSt) : (s.setCtu x).engines = s.engines := rfl
@[simp] theorem State.setCtu_reels (s : State) (x : CtuSt) : (s.setCtu x).reels = s.reels := rfl
@[simp] theorem State.setCtu_banks (s : State) (x : CtuSt) : (s.setCtu x).banks = s.banks := rfl
@[simp] theorem State.setCtu_dmas (s : State) (x : CtuSt) : (s.setCtu x).dmas = s.dmas := rfl
@[simp] theorem State.setCtu_cores (s : State) (x : CtuSt) : (s.setCtu x).cores = s.cores := rfl
@[simp] theorem State.setCtu_serials (s : State) (x : CtuSt) : (s.setCtu x).serials = s.serials := rfl
@[simp] theorem State.setCtu_free (s : State) (x : CtuSt) : (s.setCtu x).free = s.free := rfl
@[simp] theorem State.setCtu_pending (s : State) (x : CtuSt) : (s.setCtu x).pending = s.pending := rfl
@[simp] theorem State.setImage_now (s : State) (x : Nat × Nat) : (s.setImage x).now = s.now := rfl
@[simp] theorem State.setImage_tcRun (s : State) (x : Nat × Nat) : (s.setImage x).tcRun = s.tcRun := rfl
@[simp] theorem State.setImage_tcSaved (s : State) (x : Nat × Nat) : (s.setImage x).tcSaved = s.tcSaved := rfl
@[simp] theorem State.setImage_syncWait (s : State) (x : Nat × Nat) : (s.setImage x).syncWait = s.syncWait := rfl
@[simp] theorem State.setImage_fields (s : State) (x : Nat × Nat) : (s.setImage x).fields = s.fields := rfl
@[simp] theorem State.setImage_mem (s : State) (x : Nat × Nat) : (s.setImage x).mem = s.mem := rfl
@[simp] theorem State.setImage_marks (s : State) (x : Nat × Nat) : (s.setImage x).marks = s.marks := rfl
@[simp] theorem State.setImage_bus (s : State) (x : Nat × Nat) : (s.setImage x).bus = s.bus := rfl
@[simp] theorem State.setImage_held (s : State) (x : Nat × Nat) : (s.setImage x).held = s.held := rfl
@[simp] theorem State.setImage_events (s : State) (x : Nat × Nat) : (s.setImage x).events = s.events := rfl
@[simp] theorem State.setImage_reports (s : State) (x : Nat × Nat) : (s.setImage x).reports = s.reports := rfl
@[simp] theorem State.setImage_trigAt (s : State) (x : Nat × Nat) : (s.setImage x).trigAt = s.trigAt := rfl
@[simp] theorem State.setImage_trim (s : State) (x : Nat × Nat) : (s.setImage x).trim = s.trim := rfl
@[simp] theorem State.setImage_calGen (s : State) (x : Nat × Nat) : (s.setImage x).calGen = s.calGen := rfl
@[simp] theorem State.setImage_calEnd (s : State) (x : Nat × Nat) : (s.setImage x).calEnd = s.calEnd := rfl
@[simp] theorem State.setImage_portWrites (s : State) (x : Nat × Nat) : (s.setImage x).portWrites = s.portWrites := rfl
@[simp] theorem State.setImage_latFlight (s : State) (x : Nat × Nat) : (s.setImage x).latFlight = s.latFlight := rfl
@[simp] theorem State.setImage_cut (s : State) (x : Nat × Nat) : (s.setImage x).cut = s.cut := rfl
@[simp] theorem State.setImage_laneTest (s : State) (x : Nat × Nat) : (s.setImage x).laneTest = s.laneTest := rfl
@[simp] theorem State.setImage_gafQueue (s : State) (x : Nat × Nat) : (s.setImage x).gafQueue = s.gafQueue := rfl
@[simp] theorem State.setImage_starts (s : State) (x : Nat × Nat) : (s.setImage x).starts = s.starts := rfl
@[simp] theorem State.setImage_zoneLast (s : State) (x : Nat × Nat) : (s.setImage x).zoneLast = s.zoneLast := rfl
@[simp] theorem State.setImage_slateOut (s : State) (x : Nat × Nat) : (s.setImage x).slateOut = s.slateOut := rfl
@[simp] theorem State.setImage_engIn (s : State) (x : Nat × Nat) : (s.setImage x).engIn = s.engIn := rfl
@[simp] theorem State.setImage_engTrigs (s : State) (x : Nat × Nat) : (s.setImage x).engTrigs = s.engTrigs := rfl
@[simp] theorem State.setImage_engNeg (s : State) (x : Nat × Nat) : (s.setImage x).engNeg = s.engNeg := rfl
@[simp] theorem State.setImage_reelQ (s : State) (x : Nat × Nat) : (s.setImage x).reelQ = s.reelQ := rfl
@[simp] theorem State.setImage_xfer (s : State) (x : Nat × Nat) : (s.setImage x).xfer = s.xfer := rfl
@[simp] theorem State.setImage_patrol (s : State) (x : Nat × Nat) : (s.setImage x).patrol = s.patrol := rfl
@[simp] theorem State.setImage_ddrCap (s : State) (x : Nat × Nat) : (s.setImage x).ddrCap = s.ddrCap := rfl
@[simp] theorem State.setImage_flash (s : State) (x : Nat × Nat) : (s.setImage x).flash = s.flash := rfl
@[simp] theorem State.setImage_recs (s : State) (x : Nat × Nat) : (s.setImage x).recs = s.recs := rfl
@[simp] theorem State.setImage_ctu (s : State) (x : Nat × Nat) : (s.setImage x).ctu = s.ctu := rfl
@[simp] theorem State.setImage_image (s : State) (x : Nat × Nat) : (s.setImage x).image = x := rfl
@[simp] theorem State.setImage_gaf (s : State) (x : Nat × Nat) : (s.setImage x).gaf = s.gaf := rfl
@[simp] theorem State.setImage_power (s : State) (x : Nat × Nat) : (s.setImage x).power = s.power := rfl
@[simp] theorem State.setImage_otp (s : State) (x : Nat × Nat) : (s.setImage x).otp = s.otp := rfl
@[simp] theorem State.setImage_boot (s : State) (x : Nat × Nat) : (s.setImage x).boot = s.boot := rfl
@[simp] theorem State.setImage_sec (s : State) (x : Nat × Nat) : (s.setImage x).sec = s.sec := rfl
@[simp] theorem State.setImage_link (s : State) (x : Nat × Nat) : (s.setImage x).link = s.link := rfl
@[simp] theorem State.setImage_rushes (s : State) (x : Nat × Nat) : (s.setImage x).rushes = s.rushes := rfl
@[simp] theorem State.setImage_sets (s : State) (x : Nat × Nat) : (s.setImage x).sets = s.sets := rfl
@[simp] theorem State.setImage_cmps (s : State) (x : Nat × Nat) : (s.setImage x).cmps = s.cmps := rfl
@[simp] theorem State.setImage_sessions (s : State) (x : Nat × Nat) : (s.setImage x).sessions = s.sessions := rfl
@[simp] theorem State.setImage_feedback (s : State) (x : Nat × Nat) : (s.setImage x).feedback = s.feedback := rfl
@[simp] theorem State.setImage_emus (s : State) (x : Nat × Nat) : (s.setImage x).emus = s.emus := rfl
@[simp] theorem State.setImage_ports (s : State) (x : Nat × Nat) : (s.setImage x).ports = s.ports := rfl
@[simp] theorem State.setImage_engines (s : State) (x : Nat × Nat) : (s.setImage x).engines = s.engines := rfl
@[simp] theorem State.setImage_reels (s : State) (x : Nat × Nat) : (s.setImage x).reels = s.reels := rfl
@[simp] theorem State.setImage_banks (s : State) (x : Nat × Nat) : (s.setImage x).banks = s.banks := rfl
@[simp] theorem State.setImage_dmas (s : State) (x : Nat × Nat) : (s.setImage x).dmas = s.dmas := rfl
@[simp] theorem State.setImage_cores (s : State) (x : Nat × Nat) : (s.setImage x).cores = s.cores := rfl
@[simp] theorem State.setImage_serials (s : State) (x : Nat × Nat) : (s.setImage x).serials = s.serials := rfl
@[simp] theorem State.setImage_free (s : State) (x : Nat × Nat) : (s.setImage x).free = s.free := rfl
@[simp] theorem State.setImage_pending (s : State) (x : Nat × Nat) : (s.setImage x).pending = s.pending := rfl
@[simp] theorem State.setGaf_now (s : State) (x : GafSt) : (s.setGaf x).now = s.now := rfl
@[simp] theorem State.setGaf_tcRun (s : State) (x : GafSt) : (s.setGaf x).tcRun = s.tcRun := rfl
@[simp] theorem State.setGaf_tcSaved (s : State) (x : GafSt) : (s.setGaf x).tcSaved = s.tcSaved := rfl
@[simp] theorem State.setGaf_syncWait (s : State) (x : GafSt) : (s.setGaf x).syncWait = s.syncWait := rfl
@[simp] theorem State.setGaf_fields (s : State) (x : GafSt) : (s.setGaf x).fields = s.fields := rfl
@[simp] theorem State.setGaf_mem (s : State) (x : GafSt) : (s.setGaf x).mem = s.mem := rfl
@[simp] theorem State.setGaf_marks (s : State) (x : GafSt) : (s.setGaf x).marks = s.marks := rfl
@[simp] theorem State.setGaf_bus (s : State) (x : GafSt) : (s.setGaf x).bus = s.bus := rfl
@[simp] theorem State.setGaf_held (s : State) (x : GafSt) : (s.setGaf x).held = s.held := rfl
@[simp] theorem State.setGaf_events (s : State) (x : GafSt) : (s.setGaf x).events = s.events := rfl
@[simp] theorem State.setGaf_reports (s : State) (x : GafSt) : (s.setGaf x).reports = s.reports := rfl
@[simp] theorem State.setGaf_trigAt (s : State) (x : GafSt) : (s.setGaf x).trigAt = s.trigAt := rfl
@[simp] theorem State.setGaf_trim (s : State) (x : GafSt) : (s.setGaf x).trim = s.trim := rfl
@[simp] theorem State.setGaf_calGen (s : State) (x : GafSt) : (s.setGaf x).calGen = s.calGen := rfl
@[simp] theorem State.setGaf_calEnd (s : State) (x : GafSt) : (s.setGaf x).calEnd = s.calEnd := rfl
@[simp] theorem State.setGaf_portWrites (s : State) (x : GafSt) : (s.setGaf x).portWrites = s.portWrites := rfl
@[simp] theorem State.setGaf_latFlight (s : State) (x : GafSt) : (s.setGaf x).latFlight = s.latFlight := rfl
@[simp] theorem State.setGaf_cut (s : State) (x : GafSt) : (s.setGaf x).cut = s.cut := rfl
@[simp] theorem State.setGaf_laneTest (s : State) (x : GafSt) : (s.setGaf x).laneTest = s.laneTest := rfl
@[simp] theorem State.setGaf_gafQueue (s : State) (x : GafSt) : (s.setGaf x).gafQueue = s.gafQueue := rfl
@[simp] theorem State.setGaf_starts (s : State) (x : GafSt) : (s.setGaf x).starts = s.starts := rfl
@[simp] theorem State.setGaf_zoneLast (s : State) (x : GafSt) : (s.setGaf x).zoneLast = s.zoneLast := rfl
@[simp] theorem State.setGaf_slateOut (s : State) (x : GafSt) : (s.setGaf x).slateOut = s.slateOut := rfl
@[simp] theorem State.setGaf_engIn (s : State) (x : GafSt) : (s.setGaf x).engIn = s.engIn := rfl
@[simp] theorem State.setGaf_engTrigs (s : State) (x : GafSt) : (s.setGaf x).engTrigs = s.engTrigs := rfl
@[simp] theorem State.setGaf_engNeg (s : State) (x : GafSt) : (s.setGaf x).engNeg = s.engNeg := rfl
@[simp] theorem State.setGaf_reelQ (s : State) (x : GafSt) : (s.setGaf x).reelQ = s.reelQ := rfl
@[simp] theorem State.setGaf_xfer (s : State) (x : GafSt) : (s.setGaf x).xfer = s.xfer := rfl
@[simp] theorem State.setGaf_patrol (s : State) (x : GafSt) : (s.setGaf x).patrol = s.patrol := rfl
@[simp] theorem State.setGaf_ddrCap (s : State) (x : GafSt) : (s.setGaf x).ddrCap = s.ddrCap := rfl
@[simp] theorem State.setGaf_flash (s : State) (x : GafSt) : (s.setGaf x).flash = s.flash := rfl
@[simp] theorem State.setGaf_recs (s : State) (x : GafSt) : (s.setGaf x).recs = s.recs := rfl
@[simp] theorem State.setGaf_ctu (s : State) (x : GafSt) : (s.setGaf x).ctu = s.ctu := rfl
@[simp] theorem State.setGaf_image (s : State) (x : GafSt) : (s.setGaf x).image = s.image := rfl
@[simp] theorem State.setGaf_gaf (s : State) (x : GafSt) : (s.setGaf x).gaf = x := rfl
@[simp] theorem State.setGaf_power (s : State) (x : GafSt) : (s.setGaf x).power = s.power := rfl
@[simp] theorem State.setGaf_otp (s : State) (x : GafSt) : (s.setGaf x).otp = s.otp := rfl
@[simp] theorem State.setGaf_boot (s : State) (x : GafSt) : (s.setGaf x).boot = s.boot := rfl
@[simp] theorem State.setGaf_sec (s : State) (x : GafSt) : (s.setGaf x).sec = s.sec := rfl
@[simp] theorem State.setGaf_link (s : State) (x : GafSt) : (s.setGaf x).link = s.link := rfl
@[simp] theorem State.setGaf_rushes (s : State) (x : GafSt) : (s.setGaf x).rushes = s.rushes := rfl
@[simp] theorem State.setGaf_sets (s : State) (x : GafSt) : (s.setGaf x).sets = s.sets := rfl
@[simp] theorem State.setGaf_cmps (s : State) (x : GafSt) : (s.setGaf x).cmps = s.cmps := rfl
@[simp] theorem State.setGaf_sessions (s : State) (x : GafSt) : (s.setGaf x).sessions = s.sessions := rfl
@[simp] theorem State.setGaf_feedback (s : State) (x : GafSt) : (s.setGaf x).feedback = s.feedback := rfl
@[simp] theorem State.setGaf_emus (s : State) (x : GafSt) : (s.setGaf x).emus = s.emus := rfl
@[simp] theorem State.setGaf_ports (s : State) (x : GafSt) : (s.setGaf x).ports = s.ports := rfl
@[simp] theorem State.setGaf_engines (s : State) (x : GafSt) : (s.setGaf x).engines = s.engines := rfl
@[simp] theorem State.setGaf_reels (s : State) (x : GafSt) : (s.setGaf x).reels = s.reels := rfl
@[simp] theorem State.setGaf_banks (s : State) (x : GafSt) : (s.setGaf x).banks = s.banks := rfl
@[simp] theorem State.setGaf_dmas (s : State) (x : GafSt) : (s.setGaf x).dmas = s.dmas := rfl
@[simp] theorem State.setGaf_cores (s : State) (x : GafSt) : (s.setGaf x).cores = s.cores := rfl
@[simp] theorem State.setGaf_serials (s : State) (x : GafSt) : (s.setGaf x).serials = s.serials := rfl
@[simp] theorem State.setGaf_free (s : State) (x : GafSt) : (s.setGaf x).free = s.free := rfl
@[simp] theorem State.setGaf_pending (s : State) (x : GafSt) : (s.setGaf x).pending = s.pending := rfl
@[simp] theorem State.setPower_now (s : State) (x : PowerSt) : (s.setPower x).now = s.now := rfl
@[simp] theorem State.setPower_tcRun (s : State) (x : PowerSt) : (s.setPower x).tcRun = s.tcRun := rfl
@[simp] theorem State.setPower_tcSaved (s : State) (x : PowerSt) : (s.setPower x).tcSaved = s.tcSaved := rfl
@[simp] theorem State.setPower_syncWait (s : State) (x : PowerSt) : (s.setPower x).syncWait = s.syncWait := rfl
@[simp] theorem State.setPower_fields (s : State) (x : PowerSt) : (s.setPower x).fields = s.fields := rfl
@[simp] theorem State.setPower_mem (s : State) (x : PowerSt) : (s.setPower x).mem = s.mem := rfl
@[simp] theorem State.setPower_marks (s : State) (x : PowerSt) : (s.setPower x).marks = s.marks := rfl
@[simp] theorem State.setPower_bus (s : State) (x : PowerSt) : (s.setPower x).bus = s.bus := rfl
@[simp] theorem State.setPower_held (s : State) (x : PowerSt) : (s.setPower x).held = s.held := rfl
@[simp] theorem State.setPower_events (s : State) (x : PowerSt) : (s.setPower x).events = s.events := rfl
@[simp] theorem State.setPower_reports (s : State) (x : PowerSt) : (s.setPower x).reports = s.reports := rfl
@[simp] theorem State.setPower_trigAt (s : State) (x : PowerSt) : (s.setPower x).trigAt = s.trigAt := rfl
@[simp] theorem State.setPower_trim (s : State) (x : PowerSt) : (s.setPower x).trim = s.trim := rfl
@[simp] theorem State.setPower_calGen (s : State) (x : PowerSt) : (s.setPower x).calGen = s.calGen := rfl
@[simp] theorem State.setPower_calEnd (s : State) (x : PowerSt) : (s.setPower x).calEnd = s.calEnd := rfl
@[simp] theorem State.setPower_portWrites (s : State) (x : PowerSt) : (s.setPower x).portWrites = s.portWrites := rfl
@[simp] theorem State.setPower_latFlight (s : State) (x : PowerSt) : (s.setPower x).latFlight = s.latFlight := rfl
@[simp] theorem State.setPower_cut (s : State) (x : PowerSt) : (s.setPower x).cut = s.cut := rfl
@[simp] theorem State.setPower_laneTest (s : State) (x : PowerSt) : (s.setPower x).laneTest = s.laneTest := rfl
@[simp] theorem State.setPower_gafQueue (s : State) (x : PowerSt) : (s.setPower x).gafQueue = s.gafQueue := rfl
@[simp] theorem State.setPower_starts (s : State) (x : PowerSt) : (s.setPower x).starts = s.starts := rfl
@[simp] theorem State.setPower_zoneLast (s : State) (x : PowerSt) : (s.setPower x).zoneLast = s.zoneLast := rfl
@[simp] theorem State.setPower_slateOut (s : State) (x : PowerSt) : (s.setPower x).slateOut = s.slateOut := rfl
@[simp] theorem State.setPower_engIn (s : State) (x : PowerSt) : (s.setPower x).engIn = s.engIn := rfl
@[simp] theorem State.setPower_engTrigs (s : State) (x : PowerSt) : (s.setPower x).engTrigs = s.engTrigs := rfl
@[simp] theorem State.setPower_engNeg (s : State) (x : PowerSt) : (s.setPower x).engNeg = s.engNeg := rfl
@[simp] theorem State.setPower_reelQ (s : State) (x : PowerSt) : (s.setPower x).reelQ = s.reelQ := rfl
@[simp] theorem State.setPower_xfer (s : State) (x : PowerSt) : (s.setPower x).xfer = s.xfer := rfl
@[simp] theorem State.setPower_patrol (s : State) (x : PowerSt) : (s.setPower x).patrol = s.patrol := rfl
@[simp] theorem State.setPower_ddrCap (s : State) (x : PowerSt) : (s.setPower x).ddrCap = s.ddrCap := rfl
@[simp] theorem State.setPower_flash (s : State) (x : PowerSt) : (s.setPower x).flash = s.flash := rfl
@[simp] theorem State.setPower_recs (s : State) (x : PowerSt) : (s.setPower x).recs = s.recs := rfl
@[simp] theorem State.setPower_ctu (s : State) (x : PowerSt) : (s.setPower x).ctu = s.ctu := rfl
@[simp] theorem State.setPower_image (s : State) (x : PowerSt) : (s.setPower x).image = s.image := rfl
@[simp] theorem State.setPower_gaf (s : State) (x : PowerSt) : (s.setPower x).gaf = s.gaf := rfl
@[simp] theorem State.setPower_power (s : State) (x : PowerSt) : (s.setPower x).power = x := rfl
@[simp] theorem State.setPower_otp (s : State) (x : PowerSt) : (s.setPower x).otp = s.otp := rfl
@[simp] theorem State.setPower_boot (s : State) (x : PowerSt) : (s.setPower x).boot = s.boot := rfl
@[simp] theorem State.setPower_sec (s : State) (x : PowerSt) : (s.setPower x).sec = s.sec := rfl
@[simp] theorem State.setPower_link (s : State) (x : PowerSt) : (s.setPower x).link = s.link := rfl
@[simp] theorem State.setPower_rushes (s : State) (x : PowerSt) : (s.setPower x).rushes = s.rushes := rfl
@[simp] theorem State.setPower_sets (s : State) (x : PowerSt) : (s.setPower x).sets = s.sets := rfl
@[simp] theorem State.setPower_cmps (s : State) (x : PowerSt) : (s.setPower x).cmps = s.cmps := rfl
@[simp] theorem State.setPower_sessions (s : State) (x : PowerSt) : (s.setPower x).sessions = s.sessions := rfl
@[simp] theorem State.setPower_feedback (s : State) (x : PowerSt) : (s.setPower x).feedback = s.feedback := rfl
@[simp] theorem State.setPower_emus (s : State) (x : PowerSt) : (s.setPower x).emus = s.emus := rfl
@[simp] theorem State.setPower_ports (s : State) (x : PowerSt) : (s.setPower x).ports = s.ports := rfl
@[simp] theorem State.setPower_engines (s : State) (x : PowerSt) : (s.setPower x).engines = s.engines := rfl
@[simp] theorem State.setPower_reels (s : State) (x : PowerSt) : (s.setPower x).reels = s.reels := rfl
@[simp] theorem State.setPower_banks (s : State) (x : PowerSt) : (s.setPower x).banks = s.banks := rfl
@[simp] theorem State.setPower_dmas (s : State) (x : PowerSt) : (s.setPower x).dmas = s.dmas := rfl
@[simp] theorem State.setPower_cores (s : State) (x : PowerSt) : (s.setPower x).cores = s.cores := rfl
@[simp] theorem State.setPower_serials (s : State) (x : PowerSt) : (s.setPower x).serials = s.serials := rfl
@[simp] theorem State.setPower_free (s : State) (x : PowerSt) : (s.setPower x).free = s.free := rfl
@[simp] theorem State.setPower_pending (s : State) (x : PowerSt) : (s.setPower x).pending = s.pending := rfl
@[simp] theorem State.setOtp_now (s : State) (x : OtpSt) : (s.setOtp x).now = s.now := rfl
@[simp] theorem State.setOtp_tcRun (s : State) (x : OtpSt) : (s.setOtp x).tcRun = s.tcRun := rfl
@[simp] theorem State.setOtp_tcSaved (s : State) (x : OtpSt) : (s.setOtp x).tcSaved = s.tcSaved := rfl
@[simp] theorem State.setOtp_syncWait (s : State) (x : OtpSt) : (s.setOtp x).syncWait = s.syncWait := rfl
@[simp] theorem State.setOtp_fields (s : State) (x : OtpSt) : (s.setOtp x).fields = s.fields := rfl
@[simp] theorem State.setOtp_mem (s : State) (x : OtpSt) : (s.setOtp x).mem = s.mem := rfl
@[simp] theorem State.setOtp_marks (s : State) (x : OtpSt) : (s.setOtp x).marks = s.marks := rfl
@[simp] theorem State.setOtp_bus (s : State) (x : OtpSt) : (s.setOtp x).bus = s.bus := rfl
@[simp] theorem State.setOtp_held (s : State) (x : OtpSt) : (s.setOtp x).held = s.held := rfl
@[simp] theorem State.setOtp_events (s : State) (x : OtpSt) : (s.setOtp x).events = s.events := rfl
@[simp] theorem State.setOtp_reports (s : State) (x : OtpSt) : (s.setOtp x).reports = s.reports := rfl
@[simp] theorem State.setOtp_trigAt (s : State) (x : OtpSt) : (s.setOtp x).trigAt = s.trigAt := rfl
@[simp] theorem State.setOtp_trim (s : State) (x : OtpSt) : (s.setOtp x).trim = s.trim := rfl
@[simp] theorem State.setOtp_calGen (s : State) (x : OtpSt) : (s.setOtp x).calGen = s.calGen := rfl
@[simp] theorem State.setOtp_calEnd (s : State) (x : OtpSt) : (s.setOtp x).calEnd = s.calEnd := rfl
@[simp] theorem State.setOtp_portWrites (s : State) (x : OtpSt) : (s.setOtp x).portWrites = s.portWrites := rfl
@[simp] theorem State.setOtp_latFlight (s : State) (x : OtpSt) : (s.setOtp x).latFlight = s.latFlight := rfl
@[simp] theorem State.setOtp_cut (s : State) (x : OtpSt) : (s.setOtp x).cut = s.cut := rfl
@[simp] theorem State.setOtp_laneTest (s : State) (x : OtpSt) : (s.setOtp x).laneTest = s.laneTest := rfl
@[simp] theorem State.setOtp_gafQueue (s : State) (x : OtpSt) : (s.setOtp x).gafQueue = s.gafQueue := rfl
@[simp] theorem State.setOtp_starts (s : State) (x : OtpSt) : (s.setOtp x).starts = s.starts := rfl
@[simp] theorem State.setOtp_zoneLast (s : State) (x : OtpSt) : (s.setOtp x).zoneLast = s.zoneLast := rfl
@[simp] theorem State.setOtp_slateOut (s : State) (x : OtpSt) : (s.setOtp x).slateOut = s.slateOut := rfl
@[simp] theorem State.setOtp_engIn (s : State) (x : OtpSt) : (s.setOtp x).engIn = s.engIn := rfl
@[simp] theorem State.setOtp_engTrigs (s : State) (x : OtpSt) : (s.setOtp x).engTrigs = s.engTrigs := rfl
@[simp] theorem State.setOtp_engNeg (s : State) (x : OtpSt) : (s.setOtp x).engNeg = s.engNeg := rfl
@[simp] theorem State.setOtp_reelQ (s : State) (x : OtpSt) : (s.setOtp x).reelQ = s.reelQ := rfl
@[simp] theorem State.setOtp_xfer (s : State) (x : OtpSt) : (s.setOtp x).xfer = s.xfer := rfl
@[simp] theorem State.setOtp_patrol (s : State) (x : OtpSt) : (s.setOtp x).patrol = s.patrol := rfl
@[simp] theorem State.setOtp_ddrCap (s : State) (x : OtpSt) : (s.setOtp x).ddrCap = s.ddrCap := rfl
@[simp] theorem State.setOtp_flash (s : State) (x : OtpSt) : (s.setOtp x).flash = s.flash := rfl
@[simp] theorem State.setOtp_recs (s : State) (x : OtpSt) : (s.setOtp x).recs = s.recs := rfl
@[simp] theorem State.setOtp_ctu (s : State) (x : OtpSt) : (s.setOtp x).ctu = s.ctu := rfl
@[simp] theorem State.setOtp_image (s : State) (x : OtpSt) : (s.setOtp x).image = s.image := rfl
@[simp] theorem State.setOtp_gaf (s : State) (x : OtpSt) : (s.setOtp x).gaf = s.gaf := rfl
@[simp] theorem State.setOtp_power (s : State) (x : OtpSt) : (s.setOtp x).power = s.power := rfl
@[simp] theorem State.setOtp_otp (s : State) (x : OtpSt) : (s.setOtp x).otp = x := rfl
@[simp] theorem State.setOtp_boot (s : State) (x : OtpSt) : (s.setOtp x).boot = s.boot := rfl
@[simp] theorem State.setOtp_sec (s : State) (x : OtpSt) : (s.setOtp x).sec = s.sec := rfl
@[simp] theorem State.setOtp_link (s : State) (x : OtpSt) : (s.setOtp x).link = s.link := rfl
@[simp] theorem State.setOtp_rushes (s : State) (x : OtpSt) : (s.setOtp x).rushes = s.rushes := rfl
@[simp] theorem State.setOtp_sets (s : State) (x : OtpSt) : (s.setOtp x).sets = s.sets := rfl
@[simp] theorem State.setOtp_cmps (s : State) (x : OtpSt) : (s.setOtp x).cmps = s.cmps := rfl
@[simp] theorem State.setOtp_sessions (s : State) (x : OtpSt) : (s.setOtp x).sessions = s.sessions := rfl
@[simp] theorem State.setOtp_feedback (s : State) (x : OtpSt) : (s.setOtp x).feedback = s.feedback := rfl
@[simp] theorem State.setOtp_emus (s : State) (x : OtpSt) : (s.setOtp x).emus = s.emus := rfl
@[simp] theorem State.setOtp_ports (s : State) (x : OtpSt) : (s.setOtp x).ports = s.ports := rfl
@[simp] theorem State.setOtp_engines (s : State) (x : OtpSt) : (s.setOtp x).engines = s.engines := rfl
@[simp] theorem State.setOtp_reels (s : State) (x : OtpSt) : (s.setOtp x).reels = s.reels := rfl
@[simp] theorem State.setOtp_banks (s : State) (x : OtpSt) : (s.setOtp x).banks = s.banks := rfl
@[simp] theorem State.setOtp_dmas (s : State) (x : OtpSt) : (s.setOtp x).dmas = s.dmas := rfl
@[simp] theorem State.setOtp_cores (s : State) (x : OtpSt) : (s.setOtp x).cores = s.cores := rfl
@[simp] theorem State.setOtp_serials (s : State) (x : OtpSt) : (s.setOtp x).serials = s.serials := rfl
@[simp] theorem State.setOtp_free (s : State) (x : OtpSt) : (s.setOtp x).free = s.free := rfl
@[simp] theorem State.setOtp_pending (s : State) (x : OtpSt) : (s.setOtp x).pending = s.pending := rfl
@[simp] theorem State.setBoot_now (s : State) (x : BootSt) : (s.setBoot x).now = s.now := rfl
@[simp] theorem State.setBoot_tcRun (s : State) (x : BootSt) : (s.setBoot x).tcRun = s.tcRun := rfl
@[simp] theorem State.setBoot_tcSaved (s : State) (x : BootSt) : (s.setBoot x).tcSaved = s.tcSaved := rfl
@[simp] theorem State.setBoot_syncWait (s : State) (x : BootSt) : (s.setBoot x).syncWait = s.syncWait := rfl
@[simp] theorem State.setBoot_fields (s : State) (x : BootSt) : (s.setBoot x).fields = s.fields := rfl
@[simp] theorem State.setBoot_mem (s : State) (x : BootSt) : (s.setBoot x).mem = s.mem := rfl
@[simp] theorem State.setBoot_marks (s : State) (x : BootSt) : (s.setBoot x).marks = s.marks := rfl
@[simp] theorem State.setBoot_bus (s : State) (x : BootSt) : (s.setBoot x).bus = s.bus := rfl
@[simp] theorem State.setBoot_held (s : State) (x : BootSt) : (s.setBoot x).held = s.held := rfl
@[simp] theorem State.setBoot_events (s : State) (x : BootSt) : (s.setBoot x).events = s.events := rfl
@[simp] theorem State.setBoot_reports (s : State) (x : BootSt) : (s.setBoot x).reports = s.reports := rfl
@[simp] theorem State.setBoot_trigAt (s : State) (x : BootSt) : (s.setBoot x).trigAt = s.trigAt := rfl
@[simp] theorem State.setBoot_trim (s : State) (x : BootSt) : (s.setBoot x).trim = s.trim := rfl
@[simp] theorem State.setBoot_calGen (s : State) (x : BootSt) : (s.setBoot x).calGen = s.calGen := rfl
@[simp] theorem State.setBoot_calEnd (s : State) (x : BootSt) : (s.setBoot x).calEnd = s.calEnd := rfl
@[simp] theorem State.setBoot_portWrites (s : State) (x : BootSt) : (s.setBoot x).portWrites = s.portWrites := rfl
@[simp] theorem State.setBoot_latFlight (s : State) (x : BootSt) : (s.setBoot x).latFlight = s.latFlight := rfl
@[simp] theorem State.setBoot_cut (s : State) (x : BootSt) : (s.setBoot x).cut = s.cut := rfl
@[simp] theorem State.setBoot_laneTest (s : State) (x : BootSt) : (s.setBoot x).laneTest = s.laneTest := rfl
@[simp] theorem State.setBoot_gafQueue (s : State) (x : BootSt) : (s.setBoot x).gafQueue = s.gafQueue := rfl
@[simp] theorem State.setBoot_starts (s : State) (x : BootSt) : (s.setBoot x).starts = s.starts := rfl
@[simp] theorem State.setBoot_zoneLast (s : State) (x : BootSt) : (s.setBoot x).zoneLast = s.zoneLast := rfl
@[simp] theorem State.setBoot_slateOut (s : State) (x : BootSt) : (s.setBoot x).slateOut = s.slateOut := rfl
@[simp] theorem State.setBoot_engIn (s : State) (x : BootSt) : (s.setBoot x).engIn = s.engIn := rfl
@[simp] theorem State.setBoot_engTrigs (s : State) (x : BootSt) : (s.setBoot x).engTrigs = s.engTrigs := rfl
@[simp] theorem State.setBoot_engNeg (s : State) (x : BootSt) : (s.setBoot x).engNeg = s.engNeg := rfl
@[simp] theorem State.setBoot_reelQ (s : State) (x : BootSt) : (s.setBoot x).reelQ = s.reelQ := rfl
@[simp] theorem State.setBoot_xfer (s : State) (x : BootSt) : (s.setBoot x).xfer = s.xfer := rfl
@[simp] theorem State.setBoot_patrol (s : State) (x : BootSt) : (s.setBoot x).patrol = s.patrol := rfl
@[simp] theorem State.setBoot_ddrCap (s : State) (x : BootSt) : (s.setBoot x).ddrCap = s.ddrCap := rfl
@[simp] theorem State.setBoot_flash (s : State) (x : BootSt) : (s.setBoot x).flash = s.flash := rfl
@[simp] theorem State.setBoot_recs (s : State) (x : BootSt) : (s.setBoot x).recs = s.recs := rfl
@[simp] theorem State.setBoot_ctu (s : State) (x : BootSt) : (s.setBoot x).ctu = s.ctu := rfl
@[simp] theorem State.setBoot_image (s : State) (x : BootSt) : (s.setBoot x).image = s.image := rfl
@[simp] theorem State.setBoot_gaf (s : State) (x : BootSt) : (s.setBoot x).gaf = s.gaf := rfl
@[simp] theorem State.setBoot_power (s : State) (x : BootSt) : (s.setBoot x).power = s.power := rfl
@[simp] theorem State.setBoot_otp (s : State) (x : BootSt) : (s.setBoot x).otp = s.otp := rfl
@[simp] theorem State.setBoot_boot (s : State) (x : BootSt) : (s.setBoot x).boot = x := rfl
@[simp] theorem State.setBoot_sec (s : State) (x : BootSt) : (s.setBoot x).sec = s.sec := rfl
@[simp] theorem State.setBoot_link (s : State) (x : BootSt) : (s.setBoot x).link = s.link := rfl
@[simp] theorem State.setBoot_rushes (s : State) (x : BootSt) : (s.setBoot x).rushes = s.rushes := rfl
@[simp] theorem State.setBoot_sets (s : State) (x : BootSt) : (s.setBoot x).sets = s.sets := rfl
@[simp] theorem State.setBoot_cmps (s : State) (x : BootSt) : (s.setBoot x).cmps = s.cmps := rfl
@[simp] theorem State.setBoot_sessions (s : State) (x : BootSt) : (s.setBoot x).sessions = s.sessions := rfl
@[simp] theorem State.setBoot_feedback (s : State) (x : BootSt) : (s.setBoot x).feedback = s.feedback := rfl
@[simp] theorem State.setBoot_emus (s : State) (x : BootSt) : (s.setBoot x).emus = s.emus := rfl
@[simp] theorem State.setBoot_ports (s : State) (x : BootSt) : (s.setBoot x).ports = s.ports := rfl
@[simp] theorem State.setBoot_engines (s : State) (x : BootSt) : (s.setBoot x).engines = s.engines := rfl
@[simp] theorem State.setBoot_reels (s : State) (x : BootSt) : (s.setBoot x).reels = s.reels := rfl
@[simp] theorem State.setBoot_banks (s : State) (x : BootSt) : (s.setBoot x).banks = s.banks := rfl
@[simp] theorem State.setBoot_dmas (s : State) (x : BootSt) : (s.setBoot x).dmas = s.dmas := rfl
@[simp] theorem State.setBoot_cores (s : State) (x : BootSt) : (s.setBoot x).cores = s.cores := rfl
@[simp] theorem State.setBoot_serials (s : State) (x : BootSt) : (s.setBoot x).serials = s.serials := rfl
@[simp] theorem State.setBoot_free (s : State) (x : BootSt) : (s.setBoot x).free = s.free := rfl
@[simp] theorem State.setBoot_pending (s : State) (x : BootSt) : (s.setBoot x).pending = s.pending := rfl
@[simp] theorem State.setSec_now (s : State) (x : SecSt) : (s.setSec x).now = s.now := rfl
@[simp] theorem State.setSec_tcRun (s : State) (x : SecSt) : (s.setSec x).tcRun = s.tcRun := rfl
@[simp] theorem State.setSec_tcSaved (s : State) (x : SecSt) : (s.setSec x).tcSaved = s.tcSaved := rfl
@[simp] theorem State.setSec_syncWait (s : State) (x : SecSt) : (s.setSec x).syncWait = s.syncWait := rfl
@[simp] theorem State.setSec_fields (s : State) (x : SecSt) : (s.setSec x).fields = s.fields := rfl
@[simp] theorem State.setSec_mem (s : State) (x : SecSt) : (s.setSec x).mem = s.mem := rfl
@[simp] theorem State.setSec_marks (s : State) (x : SecSt) : (s.setSec x).marks = s.marks := rfl
@[simp] theorem State.setSec_bus (s : State) (x : SecSt) : (s.setSec x).bus = s.bus := rfl
@[simp] theorem State.setSec_held (s : State) (x : SecSt) : (s.setSec x).held = s.held := rfl
@[simp] theorem State.setSec_events (s : State) (x : SecSt) : (s.setSec x).events = s.events := rfl
@[simp] theorem State.setSec_reports (s : State) (x : SecSt) : (s.setSec x).reports = s.reports := rfl
@[simp] theorem State.setSec_trigAt (s : State) (x : SecSt) : (s.setSec x).trigAt = s.trigAt := rfl
@[simp] theorem State.setSec_trim (s : State) (x : SecSt) : (s.setSec x).trim = s.trim := rfl
@[simp] theorem State.setSec_calGen (s : State) (x : SecSt) : (s.setSec x).calGen = s.calGen := rfl
@[simp] theorem State.setSec_calEnd (s : State) (x : SecSt) : (s.setSec x).calEnd = s.calEnd := rfl
@[simp] theorem State.setSec_portWrites (s : State) (x : SecSt) : (s.setSec x).portWrites = s.portWrites := rfl
@[simp] theorem State.setSec_latFlight (s : State) (x : SecSt) : (s.setSec x).latFlight = s.latFlight := rfl
@[simp] theorem State.setSec_cut (s : State) (x : SecSt) : (s.setSec x).cut = s.cut := rfl
@[simp] theorem State.setSec_laneTest (s : State) (x : SecSt) : (s.setSec x).laneTest = s.laneTest := rfl
@[simp] theorem State.setSec_gafQueue (s : State) (x : SecSt) : (s.setSec x).gafQueue = s.gafQueue := rfl
@[simp] theorem State.setSec_starts (s : State) (x : SecSt) : (s.setSec x).starts = s.starts := rfl
@[simp] theorem State.setSec_zoneLast (s : State) (x : SecSt) : (s.setSec x).zoneLast = s.zoneLast := rfl
@[simp] theorem State.setSec_slateOut (s : State) (x : SecSt) : (s.setSec x).slateOut = s.slateOut := rfl
@[simp] theorem State.setSec_engIn (s : State) (x : SecSt) : (s.setSec x).engIn = s.engIn := rfl
@[simp] theorem State.setSec_engTrigs (s : State) (x : SecSt) : (s.setSec x).engTrigs = s.engTrigs := rfl
@[simp] theorem State.setSec_engNeg (s : State) (x : SecSt) : (s.setSec x).engNeg = s.engNeg := rfl
@[simp] theorem State.setSec_reelQ (s : State) (x : SecSt) : (s.setSec x).reelQ = s.reelQ := rfl
@[simp] theorem State.setSec_xfer (s : State) (x : SecSt) : (s.setSec x).xfer = s.xfer := rfl
@[simp] theorem State.setSec_patrol (s : State) (x : SecSt) : (s.setSec x).patrol = s.patrol := rfl
@[simp] theorem State.setSec_ddrCap (s : State) (x : SecSt) : (s.setSec x).ddrCap = s.ddrCap := rfl
@[simp] theorem State.setSec_flash (s : State) (x : SecSt) : (s.setSec x).flash = s.flash := rfl
@[simp] theorem State.setSec_recs (s : State) (x : SecSt) : (s.setSec x).recs = s.recs := rfl
@[simp] theorem State.setSec_ctu (s : State) (x : SecSt) : (s.setSec x).ctu = s.ctu := rfl
@[simp] theorem State.setSec_image (s : State) (x : SecSt) : (s.setSec x).image = s.image := rfl
@[simp] theorem State.setSec_gaf (s : State) (x : SecSt) : (s.setSec x).gaf = s.gaf := rfl
@[simp] theorem State.setSec_power (s : State) (x : SecSt) : (s.setSec x).power = s.power := rfl
@[simp] theorem State.setSec_otp (s : State) (x : SecSt) : (s.setSec x).otp = s.otp := rfl
@[simp] theorem State.setSec_boot (s : State) (x : SecSt) : (s.setSec x).boot = s.boot := rfl
@[simp] theorem State.setSec_sec (s : State) (x : SecSt) : (s.setSec x).sec = x := rfl
@[simp] theorem State.setSec_link (s : State) (x : SecSt) : (s.setSec x).link = s.link := rfl
@[simp] theorem State.setSec_rushes (s : State) (x : SecSt) : (s.setSec x).rushes = s.rushes := rfl
@[simp] theorem State.setSec_sets (s : State) (x : SecSt) : (s.setSec x).sets = s.sets := rfl
@[simp] theorem State.setSec_cmps (s : State) (x : SecSt) : (s.setSec x).cmps = s.cmps := rfl
@[simp] theorem State.setSec_sessions (s : State) (x : SecSt) : (s.setSec x).sessions = s.sessions := rfl
@[simp] theorem State.setSec_feedback (s : State) (x : SecSt) : (s.setSec x).feedback = s.feedback := rfl
@[simp] theorem State.setSec_emus (s : State) (x : SecSt) : (s.setSec x).emus = s.emus := rfl
@[simp] theorem State.setSec_ports (s : State) (x : SecSt) : (s.setSec x).ports = s.ports := rfl
@[simp] theorem State.setSec_engines (s : State) (x : SecSt) : (s.setSec x).engines = s.engines := rfl
@[simp] theorem State.setSec_reels (s : State) (x : SecSt) : (s.setSec x).reels = s.reels := rfl
@[simp] theorem State.setSec_banks (s : State) (x : SecSt) : (s.setSec x).banks = s.banks := rfl
@[simp] theorem State.setSec_dmas (s : State) (x : SecSt) : (s.setSec x).dmas = s.dmas := rfl
@[simp] theorem State.setSec_cores (s : State) (x : SecSt) : (s.setSec x).cores = s.cores := rfl
@[simp] theorem State.setSec_serials (s : State) (x : SecSt) : (s.setSec x).serials = s.serials := rfl
@[simp] theorem State.setSec_free (s : State) (x : SecSt) : (s.setSec x).free = s.free := rfl
@[simp] theorem State.setSec_pending (s : State) (x : SecSt) : (s.setSec x).pending = s.pending := rfl
@[simp] theorem State.setLink_now (s : State) (x : LinkSt) : (s.setLink x).now = s.now := rfl
@[simp] theorem State.setLink_tcRun (s : State) (x : LinkSt) : (s.setLink x).tcRun = s.tcRun := rfl
@[simp] theorem State.setLink_tcSaved (s : State) (x : LinkSt) : (s.setLink x).tcSaved = s.tcSaved := rfl
@[simp] theorem State.setLink_syncWait (s : State) (x : LinkSt) : (s.setLink x).syncWait = s.syncWait := rfl
@[simp] theorem State.setLink_fields (s : State) (x : LinkSt) : (s.setLink x).fields = s.fields := rfl
@[simp] theorem State.setLink_mem (s : State) (x : LinkSt) : (s.setLink x).mem = s.mem := rfl
@[simp] theorem State.setLink_marks (s : State) (x : LinkSt) : (s.setLink x).marks = s.marks := rfl
@[simp] theorem State.setLink_bus (s : State) (x : LinkSt) : (s.setLink x).bus = s.bus := rfl
@[simp] theorem State.setLink_held (s : State) (x : LinkSt) : (s.setLink x).held = s.held := rfl
@[simp] theorem State.setLink_events (s : State) (x : LinkSt) : (s.setLink x).events = s.events := rfl
@[simp] theorem State.setLink_reports (s : State) (x : LinkSt) : (s.setLink x).reports = s.reports := rfl
@[simp] theorem State.setLink_trigAt (s : State) (x : LinkSt) : (s.setLink x).trigAt = s.trigAt := rfl
@[simp] theorem State.setLink_trim (s : State) (x : LinkSt) : (s.setLink x).trim = s.trim := rfl
@[simp] theorem State.setLink_calGen (s : State) (x : LinkSt) : (s.setLink x).calGen = s.calGen := rfl
@[simp] theorem State.setLink_calEnd (s : State) (x : LinkSt) : (s.setLink x).calEnd = s.calEnd := rfl
@[simp] theorem State.setLink_portWrites (s : State) (x : LinkSt) : (s.setLink x).portWrites = s.portWrites := rfl
@[simp] theorem State.setLink_latFlight (s : State) (x : LinkSt) : (s.setLink x).latFlight = s.latFlight := rfl
@[simp] theorem State.setLink_cut (s : State) (x : LinkSt) : (s.setLink x).cut = s.cut := rfl
@[simp] theorem State.setLink_laneTest (s : State) (x : LinkSt) : (s.setLink x).laneTest = s.laneTest := rfl
@[simp] theorem State.setLink_gafQueue (s : State) (x : LinkSt) : (s.setLink x).gafQueue = s.gafQueue := rfl
@[simp] theorem State.setLink_starts (s : State) (x : LinkSt) : (s.setLink x).starts = s.starts := rfl
@[simp] theorem State.setLink_zoneLast (s : State) (x : LinkSt) : (s.setLink x).zoneLast = s.zoneLast := rfl
@[simp] theorem State.setLink_slateOut (s : State) (x : LinkSt) : (s.setLink x).slateOut = s.slateOut := rfl
@[simp] theorem State.setLink_engIn (s : State) (x : LinkSt) : (s.setLink x).engIn = s.engIn := rfl
@[simp] theorem State.setLink_engTrigs (s : State) (x : LinkSt) : (s.setLink x).engTrigs = s.engTrigs := rfl
@[simp] theorem State.setLink_engNeg (s : State) (x : LinkSt) : (s.setLink x).engNeg = s.engNeg := rfl
@[simp] theorem State.setLink_reelQ (s : State) (x : LinkSt) : (s.setLink x).reelQ = s.reelQ := rfl
@[simp] theorem State.setLink_xfer (s : State) (x : LinkSt) : (s.setLink x).xfer = s.xfer := rfl
@[simp] theorem State.setLink_patrol (s : State) (x : LinkSt) : (s.setLink x).patrol = s.patrol := rfl
@[simp] theorem State.setLink_ddrCap (s : State) (x : LinkSt) : (s.setLink x).ddrCap = s.ddrCap := rfl
@[simp] theorem State.setLink_flash (s : State) (x : LinkSt) : (s.setLink x).flash = s.flash := rfl
@[simp] theorem State.setLink_recs (s : State) (x : LinkSt) : (s.setLink x).recs = s.recs := rfl
@[simp] theorem State.setLink_ctu (s : State) (x : LinkSt) : (s.setLink x).ctu = s.ctu := rfl
@[simp] theorem State.setLink_image (s : State) (x : LinkSt) : (s.setLink x).image = s.image := rfl
@[simp] theorem State.setLink_gaf (s : State) (x : LinkSt) : (s.setLink x).gaf = s.gaf := rfl
@[simp] theorem State.setLink_power (s : State) (x : LinkSt) : (s.setLink x).power = s.power := rfl
@[simp] theorem State.setLink_otp (s : State) (x : LinkSt) : (s.setLink x).otp = s.otp := rfl
@[simp] theorem State.setLink_boot (s : State) (x : LinkSt) : (s.setLink x).boot = s.boot := rfl
@[simp] theorem State.setLink_sec (s : State) (x : LinkSt) : (s.setLink x).sec = s.sec := rfl
@[simp] theorem State.setLink_link (s : State) (x : LinkSt) : (s.setLink x).link = x := rfl
@[simp] theorem State.setLink_rushes (s : State) (x : LinkSt) : (s.setLink x).rushes = s.rushes := rfl
@[simp] theorem State.setLink_sets (s : State) (x : LinkSt) : (s.setLink x).sets = s.sets := rfl
@[simp] theorem State.setLink_cmps (s : State) (x : LinkSt) : (s.setLink x).cmps = s.cmps := rfl
@[simp] theorem State.setLink_sessions (s : State) (x : LinkSt) : (s.setLink x).sessions = s.sessions := rfl
@[simp] theorem State.setLink_feedback (s : State) (x : LinkSt) : (s.setLink x).feedback = s.feedback := rfl
@[simp] theorem State.setLink_emus (s : State) (x : LinkSt) : (s.setLink x).emus = s.emus := rfl
@[simp] theorem State.setLink_ports (s : State) (x : LinkSt) : (s.setLink x).ports = s.ports := rfl
@[simp] theorem State.setLink_engines (s : State) (x : LinkSt) : (s.setLink x).engines = s.engines := rfl
@[simp] theorem State.setLink_reels (s : State) (x : LinkSt) : (s.setLink x).reels = s.reels := rfl
@[simp] theorem State.setLink_banks (s : State) (x : LinkSt) : (s.setLink x).banks = s.banks := rfl
@[simp] theorem State.setLink_dmas (s : State) (x : LinkSt) : (s.setLink x).dmas = s.dmas := rfl
@[simp] theorem State.setLink_cores (s : State) (x : LinkSt) : (s.setLink x).cores = s.cores := rfl
@[simp] theorem State.setLink_serials (s : State) (x : LinkSt) : (s.setLink x).serials = s.serials := rfl
@[simp] theorem State.setLink_free (s : State) (x : LinkSt) : (s.setLink x).free = s.free := rfl
@[simp] theorem State.setLink_pending (s : State) (x : LinkSt) : (s.setLink x).pending = s.pending := rfl
@[simp] theorem State.setRushes_now (s : State) (x : List (Nat × RushSt)) : (s.setRushes x).now = s.now := rfl
@[simp] theorem State.setRushes_tcRun (s : State) (x : List (Nat × RushSt)) : (s.setRushes x).tcRun = s.tcRun := rfl
@[simp] theorem State.setRushes_tcSaved (s : State) (x : List (Nat × RushSt)) : (s.setRushes x).tcSaved = s.tcSaved := rfl
@[simp] theorem State.setRushes_syncWait (s : State) (x : List (Nat × RushSt)) : (s.setRushes x).syncWait = s.syncWait := rfl
@[simp] theorem State.setRushes_fields (s : State) (x : List (Nat × RushSt)) : (s.setRushes x).fields = s.fields := rfl
@[simp] theorem State.setRushes_mem (s : State) (x : List (Nat × RushSt)) : (s.setRushes x).mem = s.mem := rfl
@[simp] theorem State.setRushes_marks (s : State) (x : List (Nat × RushSt)) : (s.setRushes x).marks = s.marks := rfl
@[simp] theorem State.setRushes_bus (s : State) (x : List (Nat × RushSt)) : (s.setRushes x).bus = s.bus := rfl
@[simp] theorem State.setRushes_held (s : State) (x : List (Nat × RushSt)) : (s.setRushes x).held = s.held := rfl
@[simp] theorem State.setRushes_events (s : State) (x : List (Nat × RushSt)) : (s.setRushes x).events = s.events := rfl
@[simp] theorem State.setRushes_reports (s : State) (x : List (Nat × RushSt)) : (s.setRushes x).reports = s.reports := rfl
@[simp] theorem State.setRushes_trigAt (s : State) (x : List (Nat × RushSt)) : (s.setRushes x).trigAt = s.trigAt := rfl
@[simp] theorem State.setRushes_trim (s : State) (x : List (Nat × RushSt)) : (s.setRushes x).trim = s.trim := rfl
@[simp] theorem State.setRushes_calGen (s : State) (x : List (Nat × RushSt)) : (s.setRushes x).calGen = s.calGen := rfl
@[simp] theorem State.setRushes_calEnd (s : State) (x : List (Nat × RushSt)) : (s.setRushes x).calEnd = s.calEnd := rfl
@[simp] theorem State.setRushes_portWrites (s : State) (x : List (Nat × RushSt)) : (s.setRushes x).portWrites = s.portWrites := rfl
@[simp] theorem State.setRushes_latFlight (s : State) (x : List (Nat × RushSt)) : (s.setRushes x).latFlight = s.latFlight := rfl
@[simp] theorem State.setRushes_cut (s : State) (x : List (Nat × RushSt)) : (s.setRushes x).cut = s.cut := rfl
@[simp] theorem State.setRushes_laneTest (s : State) (x : List (Nat × RushSt)) : (s.setRushes x).laneTest = s.laneTest := rfl
@[simp] theorem State.setRushes_gafQueue (s : State) (x : List (Nat × RushSt)) : (s.setRushes x).gafQueue = s.gafQueue := rfl
@[simp] theorem State.setRushes_starts (s : State) (x : List (Nat × RushSt)) : (s.setRushes x).starts = s.starts := rfl
@[simp] theorem State.setRushes_zoneLast (s : State) (x : List (Nat × RushSt)) : (s.setRushes x).zoneLast = s.zoneLast := rfl
@[simp] theorem State.setRushes_slateOut (s : State) (x : List (Nat × RushSt)) : (s.setRushes x).slateOut = s.slateOut := rfl
@[simp] theorem State.setRushes_engIn (s : State) (x : List (Nat × RushSt)) : (s.setRushes x).engIn = s.engIn := rfl
@[simp] theorem State.setRushes_engTrigs (s : State) (x : List (Nat × RushSt)) : (s.setRushes x).engTrigs = s.engTrigs := rfl
@[simp] theorem State.setRushes_engNeg (s : State) (x : List (Nat × RushSt)) : (s.setRushes x).engNeg = s.engNeg := rfl
@[simp] theorem State.setRushes_reelQ (s : State) (x : List (Nat × RushSt)) : (s.setRushes x).reelQ = s.reelQ := rfl
@[simp] theorem State.setRushes_xfer (s : State) (x : List (Nat × RushSt)) : (s.setRushes x).xfer = s.xfer := rfl
@[simp] theorem State.setRushes_patrol (s : State) (x : List (Nat × RushSt)) : (s.setRushes x).patrol = s.patrol := rfl
@[simp] theorem State.setRushes_ddrCap (s : State) (x : List (Nat × RushSt)) : (s.setRushes x).ddrCap = s.ddrCap := rfl
@[simp] theorem State.setRushes_flash (s : State) (x : List (Nat × RushSt)) : (s.setRushes x).flash = s.flash := rfl
@[simp] theorem State.setRushes_recs (s : State) (x : List (Nat × RushSt)) : (s.setRushes x).recs = s.recs := rfl
@[simp] theorem State.setRushes_ctu (s : State) (x : List (Nat × RushSt)) : (s.setRushes x).ctu = s.ctu := rfl
@[simp] theorem State.setRushes_image (s : State) (x : List (Nat × RushSt)) : (s.setRushes x).image = s.image := rfl
@[simp] theorem State.setRushes_gaf (s : State) (x : List (Nat × RushSt)) : (s.setRushes x).gaf = s.gaf := rfl
@[simp] theorem State.setRushes_power (s : State) (x : List (Nat × RushSt)) : (s.setRushes x).power = s.power := rfl
@[simp] theorem State.setRushes_otp (s : State) (x : List (Nat × RushSt)) : (s.setRushes x).otp = s.otp := rfl
@[simp] theorem State.setRushes_boot (s : State) (x : List (Nat × RushSt)) : (s.setRushes x).boot = s.boot := rfl
@[simp] theorem State.setRushes_sec (s : State) (x : List (Nat × RushSt)) : (s.setRushes x).sec = s.sec := rfl
@[simp] theorem State.setRushes_link (s : State) (x : List (Nat × RushSt)) : (s.setRushes x).link = s.link := rfl
@[simp] theorem State.setRushes_rushes (s : State) (x : List (Nat × RushSt)) : (s.setRushes x).rushes = x := rfl
@[simp] theorem State.setRushes_sets (s : State) (x : List (Nat × RushSt)) : (s.setRushes x).sets = s.sets := rfl
@[simp] theorem State.setRushes_cmps (s : State) (x : List (Nat × RushSt)) : (s.setRushes x).cmps = s.cmps := rfl
@[simp] theorem State.setRushes_sessions (s : State) (x : List (Nat × RushSt)) : (s.setRushes x).sessions = s.sessions := rfl
@[simp] theorem State.setRushes_feedback (s : State) (x : List (Nat × RushSt)) : (s.setRushes x).feedback = s.feedback := rfl
@[simp] theorem State.setRushes_emus (s : State) (x : List (Nat × RushSt)) : (s.setRushes x).emus = s.emus := rfl
@[simp] theorem State.setRushes_ports (s : State) (x : List (Nat × RushSt)) : (s.setRushes x).ports = s.ports := rfl
@[simp] theorem State.setRushes_engines (s : State) (x : List (Nat × RushSt)) : (s.setRushes x).engines = s.engines := rfl
@[simp] theorem State.setRushes_reels (s : State) (x : List (Nat × RushSt)) : (s.setRushes x).reels = s.reels := rfl
@[simp] theorem State.setRushes_banks (s : State) (x : List (Nat × RushSt)) : (s.setRushes x).banks = s.banks := rfl
@[simp] theorem State.setRushes_dmas (s : State) (x : List (Nat × RushSt)) : (s.setRushes x).dmas = s.dmas := rfl
@[simp] theorem State.setRushes_cores (s : State) (x : List (Nat × RushSt)) : (s.setRushes x).cores = s.cores := rfl
@[simp] theorem State.setRushes_serials (s : State) (x : List (Nat × RushSt)) : (s.setRushes x).serials = s.serials := rfl
@[simp] theorem State.setRushes_free (s : State) (x : List (Nat × RushSt)) : (s.setRushes x).free = s.free := rfl
@[simp] theorem State.setRushes_pending (s : State) (x : List (Nat × RushSt)) : (s.setRushes x).pending = s.pending := rfl
@[simp] theorem State.setSets_now (s : State) (x : List (Nat × SetSt)) : (s.setSets x).now = s.now := rfl
@[simp] theorem State.setSets_tcRun (s : State) (x : List (Nat × SetSt)) : (s.setSets x).tcRun = s.tcRun := rfl
@[simp] theorem State.setSets_tcSaved (s : State) (x : List (Nat × SetSt)) : (s.setSets x).tcSaved = s.tcSaved := rfl
@[simp] theorem State.setSets_syncWait (s : State) (x : List (Nat × SetSt)) : (s.setSets x).syncWait = s.syncWait := rfl
@[simp] theorem State.setSets_fields (s : State) (x : List (Nat × SetSt)) : (s.setSets x).fields = s.fields := rfl
@[simp] theorem State.setSets_mem (s : State) (x : List (Nat × SetSt)) : (s.setSets x).mem = s.mem := rfl
@[simp] theorem State.setSets_marks (s : State) (x : List (Nat × SetSt)) : (s.setSets x).marks = s.marks := rfl
@[simp] theorem State.setSets_bus (s : State) (x : List (Nat × SetSt)) : (s.setSets x).bus = s.bus := rfl
@[simp] theorem State.setSets_held (s : State) (x : List (Nat × SetSt)) : (s.setSets x).held = s.held := rfl
@[simp] theorem State.setSets_events (s : State) (x : List (Nat × SetSt)) : (s.setSets x).events = s.events := rfl
@[simp] theorem State.setSets_reports (s : State) (x : List (Nat × SetSt)) : (s.setSets x).reports = s.reports := rfl
@[simp] theorem State.setSets_trigAt (s : State) (x : List (Nat × SetSt)) : (s.setSets x).trigAt = s.trigAt := rfl
@[simp] theorem State.setSets_trim (s : State) (x : List (Nat × SetSt)) : (s.setSets x).trim = s.trim := rfl
@[simp] theorem State.setSets_calGen (s : State) (x : List (Nat × SetSt)) : (s.setSets x).calGen = s.calGen := rfl
@[simp] theorem State.setSets_calEnd (s : State) (x : List (Nat × SetSt)) : (s.setSets x).calEnd = s.calEnd := rfl
@[simp] theorem State.setSets_portWrites (s : State) (x : List (Nat × SetSt)) : (s.setSets x).portWrites = s.portWrites := rfl
@[simp] theorem State.setSets_latFlight (s : State) (x : List (Nat × SetSt)) : (s.setSets x).latFlight = s.latFlight := rfl
@[simp] theorem State.setSets_cut (s : State) (x : List (Nat × SetSt)) : (s.setSets x).cut = s.cut := rfl
@[simp] theorem State.setSets_laneTest (s : State) (x : List (Nat × SetSt)) : (s.setSets x).laneTest = s.laneTest := rfl
@[simp] theorem State.setSets_gafQueue (s : State) (x : List (Nat × SetSt)) : (s.setSets x).gafQueue = s.gafQueue := rfl
@[simp] theorem State.setSets_starts (s : State) (x : List (Nat × SetSt)) : (s.setSets x).starts = s.starts := rfl
@[simp] theorem State.setSets_zoneLast (s : State) (x : List (Nat × SetSt)) : (s.setSets x).zoneLast = s.zoneLast := rfl
@[simp] theorem State.setSets_slateOut (s : State) (x : List (Nat × SetSt)) : (s.setSets x).slateOut = s.slateOut := rfl
@[simp] theorem State.setSets_engIn (s : State) (x : List (Nat × SetSt)) : (s.setSets x).engIn = s.engIn := rfl
@[simp] theorem State.setSets_engTrigs (s : State) (x : List (Nat × SetSt)) : (s.setSets x).engTrigs = s.engTrigs := rfl
@[simp] theorem State.setSets_engNeg (s : State) (x : List (Nat × SetSt)) : (s.setSets x).engNeg = s.engNeg := rfl
@[simp] theorem State.setSets_reelQ (s : State) (x : List (Nat × SetSt)) : (s.setSets x).reelQ = s.reelQ := rfl
@[simp] theorem State.setSets_xfer (s : State) (x : List (Nat × SetSt)) : (s.setSets x).xfer = s.xfer := rfl
@[simp] theorem State.setSets_patrol (s : State) (x : List (Nat × SetSt)) : (s.setSets x).patrol = s.patrol := rfl
@[simp] theorem State.setSets_ddrCap (s : State) (x : List (Nat × SetSt)) : (s.setSets x).ddrCap = s.ddrCap := rfl
@[simp] theorem State.setSets_flash (s : State) (x : List (Nat × SetSt)) : (s.setSets x).flash = s.flash := rfl
@[simp] theorem State.setSets_recs (s : State) (x : List (Nat × SetSt)) : (s.setSets x).recs = s.recs := rfl
@[simp] theorem State.setSets_ctu (s : State) (x : List (Nat × SetSt)) : (s.setSets x).ctu = s.ctu := rfl
@[simp] theorem State.setSets_image (s : State) (x : List (Nat × SetSt)) : (s.setSets x).image = s.image := rfl
@[simp] theorem State.setSets_gaf (s : State) (x : List (Nat × SetSt)) : (s.setSets x).gaf = s.gaf := rfl
@[simp] theorem State.setSets_power (s : State) (x : List (Nat × SetSt)) : (s.setSets x).power = s.power := rfl
@[simp] theorem State.setSets_otp (s : State) (x : List (Nat × SetSt)) : (s.setSets x).otp = s.otp := rfl
@[simp] theorem State.setSets_boot (s : State) (x : List (Nat × SetSt)) : (s.setSets x).boot = s.boot := rfl
@[simp] theorem State.setSets_sec (s : State) (x : List (Nat × SetSt)) : (s.setSets x).sec = s.sec := rfl
@[simp] theorem State.setSets_link (s : State) (x : List (Nat × SetSt)) : (s.setSets x).link = s.link := rfl
@[simp] theorem State.setSets_rushes (s : State) (x : List (Nat × SetSt)) : (s.setSets x).rushes = s.rushes := rfl
@[simp] theorem State.setSets_sets (s : State) (x : List (Nat × SetSt)) : (s.setSets x).sets = x := rfl
@[simp] theorem State.setSets_cmps (s : State) (x : List (Nat × SetSt)) : (s.setSets x).cmps = s.cmps := rfl
@[simp] theorem State.setSets_sessions (s : State) (x : List (Nat × SetSt)) : (s.setSets x).sessions = s.sessions := rfl
@[simp] theorem State.setSets_feedback (s : State) (x : List (Nat × SetSt)) : (s.setSets x).feedback = s.feedback := rfl
@[simp] theorem State.setSets_emus (s : State) (x : List (Nat × SetSt)) : (s.setSets x).emus = s.emus := rfl
@[simp] theorem State.setSets_ports (s : State) (x : List (Nat × SetSt)) : (s.setSets x).ports = s.ports := rfl
@[simp] theorem State.setSets_engines (s : State) (x : List (Nat × SetSt)) : (s.setSets x).engines = s.engines := rfl
@[simp] theorem State.setSets_reels (s : State) (x : List (Nat × SetSt)) : (s.setSets x).reels = s.reels := rfl
@[simp] theorem State.setSets_banks (s : State) (x : List (Nat × SetSt)) : (s.setSets x).banks = s.banks := rfl
@[simp] theorem State.setSets_dmas (s : State) (x : List (Nat × SetSt)) : (s.setSets x).dmas = s.dmas := rfl
@[simp] theorem State.setSets_cores (s : State) (x : List (Nat × SetSt)) : (s.setSets x).cores = s.cores := rfl
@[simp] theorem State.setSets_serials (s : State) (x : List (Nat × SetSt)) : (s.setSets x).serials = s.serials := rfl
@[simp] theorem State.setSets_free (s : State) (x : List (Nat × SetSt)) : (s.setSets x).free = s.free := rfl
@[simp] theorem State.setSets_pending (s : State) (x : List (Nat × SetSt)) : (s.setSets x).pending = s.pending := rfl
@[simp] theorem State.setCmps_now (s : State) (x : List (Nat × CmpSt)) : (s.setCmps x).now = s.now := rfl
@[simp] theorem State.setCmps_tcRun (s : State) (x : List (Nat × CmpSt)) : (s.setCmps x).tcRun = s.tcRun := rfl
@[simp] theorem State.setCmps_tcSaved (s : State) (x : List (Nat × CmpSt)) : (s.setCmps x).tcSaved = s.tcSaved := rfl
@[simp] theorem State.setCmps_syncWait (s : State) (x : List (Nat × CmpSt)) : (s.setCmps x).syncWait = s.syncWait := rfl
@[simp] theorem State.setCmps_fields (s : State) (x : List (Nat × CmpSt)) : (s.setCmps x).fields = s.fields := rfl
@[simp] theorem State.setCmps_mem (s : State) (x : List (Nat × CmpSt)) : (s.setCmps x).mem = s.mem := rfl
@[simp] theorem State.setCmps_marks (s : State) (x : List (Nat × CmpSt)) : (s.setCmps x).marks = s.marks := rfl
@[simp] theorem State.setCmps_bus (s : State) (x : List (Nat × CmpSt)) : (s.setCmps x).bus = s.bus := rfl
@[simp] theorem State.setCmps_held (s : State) (x : List (Nat × CmpSt)) : (s.setCmps x).held = s.held := rfl
@[simp] theorem State.setCmps_events (s : State) (x : List (Nat × CmpSt)) : (s.setCmps x).events = s.events := rfl
@[simp] theorem State.setCmps_reports (s : State) (x : List (Nat × CmpSt)) : (s.setCmps x).reports = s.reports := rfl
@[simp] theorem State.setCmps_trigAt (s : State) (x : List (Nat × CmpSt)) : (s.setCmps x).trigAt = s.trigAt := rfl
@[simp] theorem State.setCmps_trim (s : State) (x : List (Nat × CmpSt)) : (s.setCmps x).trim = s.trim := rfl
@[simp] theorem State.setCmps_calGen (s : State) (x : List (Nat × CmpSt)) : (s.setCmps x).calGen = s.calGen := rfl
@[simp] theorem State.setCmps_calEnd (s : State) (x : List (Nat × CmpSt)) : (s.setCmps x).calEnd = s.calEnd := rfl
@[simp] theorem State.setCmps_portWrites (s : State) (x : List (Nat × CmpSt)) : (s.setCmps x).portWrites = s.portWrites := rfl
@[simp] theorem State.setCmps_latFlight (s : State) (x : List (Nat × CmpSt)) : (s.setCmps x).latFlight = s.latFlight := rfl
@[simp] theorem State.setCmps_cut (s : State) (x : List (Nat × CmpSt)) : (s.setCmps x).cut = s.cut := rfl
@[simp] theorem State.setCmps_laneTest (s : State) (x : List (Nat × CmpSt)) : (s.setCmps x).laneTest = s.laneTest := rfl
@[simp] theorem State.setCmps_gafQueue (s : State) (x : List (Nat × CmpSt)) : (s.setCmps x).gafQueue = s.gafQueue := rfl
@[simp] theorem State.setCmps_starts (s : State) (x : List (Nat × CmpSt)) : (s.setCmps x).starts = s.starts := rfl
@[simp] theorem State.setCmps_zoneLast (s : State) (x : List (Nat × CmpSt)) : (s.setCmps x).zoneLast = s.zoneLast := rfl
@[simp] theorem State.setCmps_slateOut (s : State) (x : List (Nat × CmpSt)) : (s.setCmps x).slateOut = s.slateOut := rfl
@[simp] theorem State.setCmps_engIn (s : State) (x : List (Nat × CmpSt)) : (s.setCmps x).engIn = s.engIn := rfl
@[simp] theorem State.setCmps_engTrigs (s : State) (x : List (Nat × CmpSt)) : (s.setCmps x).engTrigs = s.engTrigs := rfl
@[simp] theorem State.setCmps_engNeg (s : State) (x : List (Nat × CmpSt)) : (s.setCmps x).engNeg = s.engNeg := rfl
@[simp] theorem State.setCmps_reelQ (s : State) (x : List (Nat × CmpSt)) : (s.setCmps x).reelQ = s.reelQ := rfl
@[simp] theorem State.setCmps_xfer (s : State) (x : List (Nat × CmpSt)) : (s.setCmps x).xfer = s.xfer := rfl
@[simp] theorem State.setCmps_patrol (s : State) (x : List (Nat × CmpSt)) : (s.setCmps x).patrol = s.patrol := rfl
@[simp] theorem State.setCmps_ddrCap (s : State) (x : List (Nat × CmpSt)) : (s.setCmps x).ddrCap = s.ddrCap := rfl
@[simp] theorem State.setCmps_flash (s : State) (x : List (Nat × CmpSt)) : (s.setCmps x).flash = s.flash := rfl
@[simp] theorem State.setCmps_recs (s : State) (x : List (Nat × CmpSt)) : (s.setCmps x).recs = s.recs := rfl
@[simp] theorem State.setCmps_ctu (s : State) (x : List (Nat × CmpSt)) : (s.setCmps x).ctu = s.ctu := rfl
@[simp] theorem State.setCmps_image (s : State) (x : List (Nat × CmpSt)) : (s.setCmps x).image = s.image := rfl
@[simp] theorem State.setCmps_gaf (s : State) (x : List (Nat × CmpSt)) : (s.setCmps x).gaf = s.gaf := rfl
@[simp] theorem State.setCmps_power (s : State) (x : List (Nat × CmpSt)) : (s.setCmps x).power = s.power := rfl
@[simp] theorem State.setCmps_otp (s : State) (x : List (Nat × CmpSt)) : (s.setCmps x).otp = s.otp := rfl
@[simp] theorem State.setCmps_boot (s : State) (x : List (Nat × CmpSt)) : (s.setCmps x).boot = s.boot := rfl
@[simp] theorem State.setCmps_sec (s : State) (x : List (Nat × CmpSt)) : (s.setCmps x).sec = s.sec := rfl
@[simp] theorem State.setCmps_link (s : State) (x : List (Nat × CmpSt)) : (s.setCmps x).link = s.link := rfl
@[simp] theorem State.setCmps_rushes (s : State) (x : List (Nat × CmpSt)) : (s.setCmps x).rushes = s.rushes := rfl
@[simp] theorem State.setCmps_sets (s : State) (x : List (Nat × CmpSt)) : (s.setCmps x).sets = s.sets := rfl
@[simp] theorem State.setCmps_cmps (s : State) (x : List (Nat × CmpSt)) : (s.setCmps x).cmps = x := rfl
@[simp] theorem State.setCmps_sessions (s : State) (x : List (Nat × CmpSt)) : (s.setCmps x).sessions = s.sessions := rfl
@[simp] theorem State.setCmps_feedback (s : State) (x : List (Nat × CmpSt)) : (s.setCmps x).feedback = s.feedback := rfl
@[simp] theorem State.setCmps_emus (s : State) (x : List (Nat × CmpSt)) : (s.setCmps x).emus = s.emus := rfl
@[simp] theorem State.setCmps_ports (s : State) (x : List (Nat × CmpSt)) : (s.setCmps x).ports = s.ports := rfl
@[simp] theorem State.setCmps_engines (s : State) (x : List (Nat × CmpSt)) : (s.setCmps x).engines = s.engines := rfl
@[simp] theorem State.setCmps_reels (s : State) (x : List (Nat × CmpSt)) : (s.setCmps x).reels = s.reels := rfl
@[simp] theorem State.setCmps_banks (s : State) (x : List (Nat × CmpSt)) : (s.setCmps x).banks = s.banks := rfl
@[simp] theorem State.setCmps_dmas (s : State) (x : List (Nat × CmpSt)) : (s.setCmps x).dmas = s.dmas := rfl
@[simp] theorem State.setCmps_cores (s : State) (x : List (Nat × CmpSt)) : (s.setCmps x).cores = s.cores := rfl
@[simp] theorem State.setCmps_serials (s : State) (x : List (Nat × CmpSt)) : (s.setCmps x).serials = s.serials := rfl
@[simp] theorem State.setCmps_free (s : State) (x : List (Nat × CmpSt)) : (s.setCmps x).free = s.free := rfl
@[simp] theorem State.setCmps_pending (s : State) (x : List (Nat × CmpSt)) : (s.setCmps x).pending = s.pending := rfl
@[simp] theorem State.setSessions_now (s : State) (x : List (Nat × SessSt)) : (s.setSessions x).now = s.now := rfl
@[simp] theorem State.setSessions_tcRun (s : State) (x : List (Nat × SessSt)) : (s.setSessions x).tcRun = s.tcRun := rfl
@[simp] theorem State.setSessions_tcSaved (s : State) (x : List (Nat × SessSt)) : (s.setSessions x).tcSaved = s.tcSaved := rfl
@[simp] theorem State.setSessions_syncWait (s : State) (x : List (Nat × SessSt)) : (s.setSessions x).syncWait = s.syncWait := rfl
@[simp] theorem State.setSessions_fields (s : State) (x : List (Nat × SessSt)) : (s.setSessions x).fields = s.fields := rfl
@[simp] theorem State.setSessions_mem (s : State) (x : List (Nat × SessSt)) : (s.setSessions x).mem = s.mem := rfl
@[simp] theorem State.setSessions_marks (s : State) (x : List (Nat × SessSt)) : (s.setSessions x).marks = s.marks := rfl
@[simp] theorem State.setSessions_bus (s : State) (x : List (Nat × SessSt)) : (s.setSessions x).bus = s.bus := rfl
@[simp] theorem State.setSessions_held (s : State) (x : List (Nat × SessSt)) : (s.setSessions x).held = s.held := rfl
@[simp] theorem State.setSessions_events (s : State) (x : List (Nat × SessSt)) : (s.setSessions x).events = s.events := rfl
@[simp] theorem State.setSessions_reports (s : State) (x : List (Nat × SessSt)) : (s.setSessions x).reports = s.reports := rfl
@[simp] theorem State.setSessions_trigAt (s : State) (x : List (Nat × SessSt)) : (s.setSessions x).trigAt = s.trigAt := rfl
@[simp] theorem State.setSessions_trim (s : State) (x : List (Nat × SessSt)) : (s.setSessions x).trim = s.trim := rfl
@[simp] theorem State.setSessions_calGen (s : State) (x : List (Nat × SessSt)) : (s.setSessions x).calGen = s.calGen := rfl
@[simp] theorem State.setSessions_calEnd (s : State) (x : List (Nat × SessSt)) : (s.setSessions x).calEnd = s.calEnd := rfl
@[simp] theorem State.setSessions_portWrites (s : State) (x : List (Nat × SessSt)) : (s.setSessions x).portWrites = s.portWrites := rfl
@[simp] theorem State.setSessions_latFlight (s : State) (x : List (Nat × SessSt)) : (s.setSessions x).latFlight = s.latFlight := rfl
@[simp] theorem State.setSessions_cut (s : State) (x : List (Nat × SessSt)) : (s.setSessions x).cut = s.cut := rfl
@[simp] theorem State.setSessions_laneTest (s : State) (x : List (Nat × SessSt)) : (s.setSessions x).laneTest = s.laneTest := rfl
@[simp] theorem State.setSessions_gafQueue (s : State) (x : List (Nat × SessSt)) : (s.setSessions x).gafQueue = s.gafQueue := rfl
@[simp] theorem State.setSessions_starts (s : State) (x : List (Nat × SessSt)) : (s.setSessions x).starts = s.starts := rfl
@[simp] theorem State.setSessions_zoneLast (s : State) (x : List (Nat × SessSt)) : (s.setSessions x).zoneLast = s.zoneLast := rfl
@[simp] theorem State.setSessions_slateOut (s : State) (x : List (Nat × SessSt)) : (s.setSessions x).slateOut = s.slateOut := rfl
@[simp] theorem State.setSessions_engIn (s : State) (x : List (Nat × SessSt)) : (s.setSessions x).engIn = s.engIn := rfl
@[simp] theorem State.setSessions_engTrigs (s : State) (x : List (Nat × SessSt)) : (s.setSessions x).engTrigs = s.engTrigs := rfl
@[simp] theorem State.setSessions_engNeg (s : State) (x : List (Nat × SessSt)) : (s.setSessions x).engNeg = s.engNeg := rfl
@[simp] theorem State.setSessions_reelQ (s : State) (x : List (Nat × SessSt)) : (s.setSessions x).reelQ = s.reelQ := rfl
@[simp] theorem State.setSessions_xfer (s : State) (x : List (Nat × SessSt)) : (s.setSessions x).xfer = s.xfer := rfl
@[simp] theorem State.setSessions_patrol (s : State) (x : List (Nat × SessSt)) : (s.setSessions x).patrol = s.patrol := rfl
@[simp] theorem State.setSessions_ddrCap (s : State) (x : List (Nat × SessSt)) : (s.setSessions x).ddrCap = s.ddrCap := rfl
@[simp] theorem State.setSessions_flash (s : State) (x : List (Nat × SessSt)) : (s.setSessions x).flash = s.flash := rfl
@[simp] theorem State.setSessions_recs (s : State) (x : List (Nat × SessSt)) : (s.setSessions x).recs = s.recs := rfl
@[simp] theorem State.setSessions_ctu (s : State) (x : List (Nat × SessSt)) : (s.setSessions x).ctu = s.ctu := rfl
@[simp] theorem State.setSessions_image (s : State) (x : List (Nat × SessSt)) : (s.setSessions x).image = s.image := rfl
@[simp] theorem State.setSessions_gaf (s : State) (x : List (Nat × SessSt)) : (s.setSessions x).gaf = s.gaf := rfl
@[simp] theorem State.setSessions_power (s : State) (x : List (Nat × SessSt)) : (s.setSessions x).power = s.power := rfl
@[simp] theorem State.setSessions_otp (s : State) (x : List (Nat × SessSt)) : (s.setSessions x).otp = s.otp := rfl
@[simp] theorem State.setSessions_boot (s : State) (x : List (Nat × SessSt)) : (s.setSessions x).boot = s.boot := rfl
@[simp] theorem State.setSessions_sec (s : State) (x : List (Nat × SessSt)) : (s.setSessions x).sec = s.sec := rfl
@[simp] theorem State.setSessions_link (s : State) (x : List (Nat × SessSt)) : (s.setSessions x).link = s.link := rfl
@[simp] theorem State.setSessions_rushes (s : State) (x : List (Nat × SessSt)) : (s.setSessions x).rushes = s.rushes := rfl
@[simp] theorem State.setSessions_sets (s : State) (x : List (Nat × SessSt)) : (s.setSessions x).sets = s.sets := rfl
@[simp] theorem State.setSessions_cmps (s : State) (x : List (Nat × SessSt)) : (s.setSessions x).cmps = s.cmps := rfl
@[simp] theorem State.setSessions_sessions (s : State) (x : List (Nat × SessSt)) : (s.setSessions x).sessions = x := rfl
@[simp] theorem State.setSessions_feedback (s : State) (x : List (Nat × SessSt)) : (s.setSessions x).feedback = s.feedback := rfl
@[simp] theorem State.setSessions_emus (s : State) (x : List (Nat × SessSt)) : (s.setSessions x).emus = s.emus := rfl
@[simp] theorem State.setSessions_ports (s : State) (x : List (Nat × SessSt)) : (s.setSessions x).ports = s.ports := rfl
@[simp] theorem State.setSessions_engines (s : State) (x : List (Nat × SessSt)) : (s.setSessions x).engines = s.engines := rfl
@[simp] theorem State.setSessions_reels (s : State) (x : List (Nat × SessSt)) : (s.setSessions x).reels = s.reels := rfl
@[simp] theorem State.setSessions_banks (s : State) (x : List (Nat × SessSt)) : (s.setSessions x).banks = s.banks := rfl
@[simp] theorem State.setSessions_dmas (s : State) (x : List (Nat × SessSt)) : (s.setSessions x).dmas = s.dmas := rfl
@[simp] theorem State.setSessions_cores (s : State) (x : List (Nat × SessSt)) : (s.setSessions x).cores = s.cores := rfl
@[simp] theorem State.setSessions_serials (s : State) (x : List (Nat × SessSt)) : (s.setSessions x).serials = s.serials := rfl
@[simp] theorem State.setSessions_free (s : State) (x : List (Nat × SessSt)) : (s.setSessions x).free = s.free := rfl
@[simp] theorem State.setSessions_pending (s : State) (x : List (Nat × SessSt)) : (s.setSessions x).pending = s.pending := rfl
@[simp] theorem State.setFeedback_now (s : State) (x : List (Nat × PfSt)) : (s.setFeedback x).now = s.now := rfl
@[simp] theorem State.setFeedback_tcRun (s : State) (x : List (Nat × PfSt)) : (s.setFeedback x).tcRun = s.tcRun := rfl
@[simp] theorem State.setFeedback_tcSaved (s : State) (x : List (Nat × PfSt)) : (s.setFeedback x).tcSaved = s.tcSaved := rfl
@[simp] theorem State.setFeedback_syncWait (s : State) (x : List (Nat × PfSt)) : (s.setFeedback x).syncWait = s.syncWait := rfl
@[simp] theorem State.setFeedback_fields (s : State) (x : List (Nat × PfSt)) : (s.setFeedback x).fields = s.fields := rfl
@[simp] theorem State.setFeedback_mem (s : State) (x : List (Nat × PfSt)) : (s.setFeedback x).mem = s.mem := rfl
@[simp] theorem State.setFeedback_marks (s : State) (x : List (Nat × PfSt)) : (s.setFeedback x).marks = s.marks := rfl
@[simp] theorem State.setFeedback_bus (s : State) (x : List (Nat × PfSt)) : (s.setFeedback x).bus = s.bus := rfl
@[simp] theorem State.setFeedback_held (s : State) (x : List (Nat × PfSt)) : (s.setFeedback x).held = s.held := rfl
@[simp] theorem State.setFeedback_events (s : State) (x : List (Nat × PfSt)) : (s.setFeedback x).events = s.events := rfl
@[simp] theorem State.setFeedback_reports (s : State) (x : List (Nat × PfSt)) : (s.setFeedback x).reports = s.reports := rfl
@[simp] theorem State.setFeedback_trigAt (s : State) (x : List (Nat × PfSt)) : (s.setFeedback x).trigAt = s.trigAt := rfl
@[simp] theorem State.setFeedback_trim (s : State) (x : List (Nat × PfSt)) : (s.setFeedback x).trim = s.trim := rfl
@[simp] theorem State.setFeedback_calGen (s : State) (x : List (Nat × PfSt)) : (s.setFeedback x).calGen = s.calGen := rfl
@[simp] theorem State.setFeedback_calEnd (s : State) (x : List (Nat × PfSt)) : (s.setFeedback x).calEnd = s.calEnd := rfl
@[simp] theorem State.setFeedback_portWrites (s : State) (x : List (Nat × PfSt)) : (s.setFeedback x).portWrites = s.portWrites := rfl
@[simp] theorem State.setFeedback_latFlight (s : State) (x : List (Nat × PfSt)) : (s.setFeedback x).latFlight = s.latFlight := rfl
@[simp] theorem State.setFeedback_cut (s : State) (x : List (Nat × PfSt)) : (s.setFeedback x).cut = s.cut := rfl
@[simp] theorem State.setFeedback_laneTest (s : State) (x : List (Nat × PfSt)) : (s.setFeedback x).laneTest = s.laneTest := rfl
@[simp] theorem State.setFeedback_gafQueue (s : State) (x : List (Nat × PfSt)) : (s.setFeedback x).gafQueue = s.gafQueue := rfl
@[simp] theorem State.setFeedback_starts (s : State) (x : List (Nat × PfSt)) : (s.setFeedback x).starts = s.starts := rfl
@[simp] theorem State.setFeedback_zoneLast (s : State) (x : List (Nat × PfSt)) : (s.setFeedback x).zoneLast = s.zoneLast := rfl
@[simp] theorem State.setFeedback_slateOut (s : State) (x : List (Nat × PfSt)) : (s.setFeedback x).slateOut = s.slateOut := rfl
@[simp] theorem State.setFeedback_engIn (s : State) (x : List (Nat × PfSt)) : (s.setFeedback x).engIn = s.engIn := rfl
@[simp] theorem State.setFeedback_engTrigs (s : State) (x : List (Nat × PfSt)) : (s.setFeedback x).engTrigs = s.engTrigs := rfl
@[simp] theorem State.setFeedback_engNeg (s : State) (x : List (Nat × PfSt)) : (s.setFeedback x).engNeg = s.engNeg := rfl
@[simp] theorem State.setFeedback_reelQ (s : State) (x : List (Nat × PfSt)) : (s.setFeedback x).reelQ = s.reelQ := rfl
@[simp] theorem State.setFeedback_xfer (s : State) (x : List (Nat × PfSt)) : (s.setFeedback x).xfer = s.xfer := rfl
@[simp] theorem State.setFeedback_patrol (s : State) (x : List (Nat × PfSt)) : (s.setFeedback x).patrol = s.patrol := rfl
@[simp] theorem State.setFeedback_ddrCap (s : State) (x : List (Nat × PfSt)) : (s.setFeedback x).ddrCap = s.ddrCap := rfl
@[simp] theorem State.setFeedback_flash (s : State) (x : List (Nat × PfSt)) : (s.setFeedback x).flash = s.flash := rfl
@[simp] theorem State.setFeedback_recs (s : State) (x : List (Nat × PfSt)) : (s.setFeedback x).recs = s.recs := rfl
@[simp] theorem State.setFeedback_ctu (s : State) (x : List (Nat × PfSt)) : (s.setFeedback x).ctu = s.ctu := rfl
@[simp] theorem State.setFeedback_image (s : State) (x : List (Nat × PfSt)) : (s.setFeedback x).image = s.image := rfl
@[simp] theorem State.setFeedback_gaf (s : State) (x : List (Nat × PfSt)) : (s.setFeedback x).gaf = s.gaf := rfl
@[simp] theorem State.setFeedback_power (s : State) (x : List (Nat × PfSt)) : (s.setFeedback x).power = s.power := rfl
@[simp] theorem State.setFeedback_otp (s : State) (x : List (Nat × PfSt)) : (s.setFeedback x).otp = s.otp := rfl
@[simp] theorem State.setFeedback_boot (s : State) (x : List (Nat × PfSt)) : (s.setFeedback x).boot = s.boot := rfl
@[simp] theorem State.setFeedback_sec (s : State) (x : List (Nat × PfSt)) : (s.setFeedback x).sec = s.sec := rfl
@[simp] theorem State.setFeedback_link (s : State) (x : List (Nat × PfSt)) : (s.setFeedback x).link = s.link := rfl
@[simp] theorem State.setFeedback_rushes (s : State) (x : List (Nat × PfSt)) : (s.setFeedback x).rushes = s.rushes := rfl
@[simp] theorem State.setFeedback_sets (s : State) (x : List (Nat × PfSt)) : (s.setFeedback x).sets = s.sets := rfl
@[simp] theorem State.setFeedback_cmps (s : State) (x : List (Nat × PfSt)) : (s.setFeedback x).cmps = s.cmps := rfl
@[simp] theorem State.setFeedback_sessions (s : State) (x : List (Nat × PfSt)) : (s.setFeedback x).sessions = s.sessions := rfl
@[simp] theorem State.setFeedback_feedback (s : State) (x : List (Nat × PfSt)) : (s.setFeedback x).feedback = x := rfl
@[simp] theorem State.setFeedback_emus (s : State) (x : List (Nat × PfSt)) : (s.setFeedback x).emus = s.emus := rfl
@[simp] theorem State.setFeedback_ports (s : State) (x : List (Nat × PfSt)) : (s.setFeedback x).ports = s.ports := rfl
@[simp] theorem State.setFeedback_engines (s : State) (x : List (Nat × PfSt)) : (s.setFeedback x).engines = s.engines := rfl
@[simp] theorem State.setFeedback_reels (s : State) (x : List (Nat × PfSt)) : (s.setFeedback x).reels = s.reels := rfl
@[simp] theorem State.setFeedback_banks (s : State) (x : List (Nat × PfSt)) : (s.setFeedback x).banks = s.banks := rfl
@[simp] theorem State.setFeedback_dmas (s : State) (x : List (Nat × PfSt)) : (s.setFeedback x).dmas = s.dmas := rfl
@[simp] theorem State.setFeedback_cores (s : State) (x : List (Nat × PfSt)) : (s.setFeedback x).cores = s.cores := rfl
@[simp] theorem State.setFeedback_serials (s : State) (x : List (Nat × PfSt)) : (s.setFeedback x).serials = s.serials := rfl
@[simp] theorem State.setFeedback_free (s : State) (x : List (Nat × PfSt)) : (s.setFeedback x).free = s.free := rfl
@[simp] theorem State.setFeedback_pending (s : State) (x : List (Nat × PfSt)) : (s.setFeedback x).pending = s.pending := rfl
@[simp] theorem State.setEmus_now (s : State) (x : List (Nat × EmuSt)) : (s.setEmus x).now = s.now := rfl
@[simp] theorem State.setEmus_tcRun (s : State) (x : List (Nat × EmuSt)) : (s.setEmus x).tcRun = s.tcRun := rfl
@[simp] theorem State.setEmus_tcSaved (s : State) (x : List (Nat × EmuSt)) : (s.setEmus x).tcSaved = s.tcSaved := rfl
@[simp] theorem State.setEmus_syncWait (s : State) (x : List (Nat × EmuSt)) : (s.setEmus x).syncWait = s.syncWait := rfl
@[simp] theorem State.setEmus_fields (s : State) (x : List (Nat × EmuSt)) : (s.setEmus x).fields = s.fields := rfl
@[simp] theorem State.setEmus_mem (s : State) (x : List (Nat × EmuSt)) : (s.setEmus x).mem = s.mem := rfl
@[simp] theorem State.setEmus_marks (s : State) (x : List (Nat × EmuSt)) : (s.setEmus x).marks = s.marks := rfl
@[simp] theorem State.setEmus_bus (s : State) (x : List (Nat × EmuSt)) : (s.setEmus x).bus = s.bus := rfl
@[simp] theorem State.setEmus_held (s : State) (x : List (Nat × EmuSt)) : (s.setEmus x).held = s.held := rfl
@[simp] theorem State.setEmus_events (s : State) (x : List (Nat × EmuSt)) : (s.setEmus x).events = s.events := rfl
@[simp] theorem State.setEmus_reports (s : State) (x : List (Nat × EmuSt)) : (s.setEmus x).reports = s.reports := rfl
@[simp] theorem State.setEmus_trigAt (s : State) (x : List (Nat × EmuSt)) : (s.setEmus x).trigAt = s.trigAt := rfl
@[simp] theorem State.setEmus_trim (s : State) (x : List (Nat × EmuSt)) : (s.setEmus x).trim = s.trim := rfl
@[simp] theorem State.setEmus_calGen (s : State) (x : List (Nat × EmuSt)) : (s.setEmus x).calGen = s.calGen := rfl
@[simp] theorem State.setEmus_calEnd (s : State) (x : List (Nat × EmuSt)) : (s.setEmus x).calEnd = s.calEnd := rfl
@[simp] theorem State.setEmus_portWrites (s : State) (x : List (Nat × EmuSt)) : (s.setEmus x).portWrites = s.portWrites := rfl
@[simp] theorem State.setEmus_latFlight (s : State) (x : List (Nat × EmuSt)) : (s.setEmus x).latFlight = s.latFlight := rfl
@[simp] theorem State.setEmus_cut (s : State) (x : List (Nat × EmuSt)) : (s.setEmus x).cut = s.cut := rfl
@[simp] theorem State.setEmus_laneTest (s : State) (x : List (Nat × EmuSt)) : (s.setEmus x).laneTest = s.laneTest := rfl
@[simp] theorem State.setEmus_gafQueue (s : State) (x : List (Nat × EmuSt)) : (s.setEmus x).gafQueue = s.gafQueue := rfl
@[simp] theorem State.setEmus_starts (s : State) (x : List (Nat × EmuSt)) : (s.setEmus x).starts = s.starts := rfl
@[simp] theorem State.setEmus_zoneLast (s : State) (x : List (Nat × EmuSt)) : (s.setEmus x).zoneLast = s.zoneLast := rfl
@[simp] theorem State.setEmus_slateOut (s : State) (x : List (Nat × EmuSt)) : (s.setEmus x).slateOut = s.slateOut := rfl
@[simp] theorem State.setEmus_engIn (s : State) (x : List (Nat × EmuSt)) : (s.setEmus x).engIn = s.engIn := rfl
@[simp] theorem State.setEmus_engTrigs (s : State) (x : List (Nat × EmuSt)) : (s.setEmus x).engTrigs = s.engTrigs := rfl
@[simp] theorem State.setEmus_engNeg (s : State) (x : List (Nat × EmuSt)) : (s.setEmus x).engNeg = s.engNeg := rfl
@[simp] theorem State.setEmus_reelQ (s : State) (x : List (Nat × EmuSt)) : (s.setEmus x).reelQ = s.reelQ := rfl
@[simp] theorem State.setEmus_xfer (s : State) (x : List (Nat × EmuSt)) : (s.setEmus x).xfer = s.xfer := rfl
@[simp] theorem State.setEmus_patrol (s : State) (x : List (Nat × EmuSt)) : (s.setEmus x).patrol = s.patrol := rfl
@[simp] theorem State.setEmus_ddrCap (s : State) (x : List (Nat × EmuSt)) : (s.setEmus x).ddrCap = s.ddrCap := rfl
@[simp] theorem State.setEmus_flash (s : State) (x : List (Nat × EmuSt)) : (s.setEmus x).flash = s.flash := rfl
@[simp] theorem State.setEmus_recs (s : State) (x : List (Nat × EmuSt)) : (s.setEmus x).recs = s.recs := rfl
@[simp] theorem State.setEmus_ctu (s : State) (x : List (Nat × EmuSt)) : (s.setEmus x).ctu = s.ctu := rfl
@[simp] theorem State.setEmus_image (s : State) (x : List (Nat × EmuSt)) : (s.setEmus x).image = s.image := rfl
@[simp] theorem State.setEmus_gaf (s : State) (x : List (Nat × EmuSt)) : (s.setEmus x).gaf = s.gaf := rfl
@[simp] theorem State.setEmus_power (s : State) (x : List (Nat × EmuSt)) : (s.setEmus x).power = s.power := rfl
@[simp] theorem State.setEmus_otp (s : State) (x : List (Nat × EmuSt)) : (s.setEmus x).otp = s.otp := rfl
@[simp] theorem State.setEmus_boot (s : State) (x : List (Nat × EmuSt)) : (s.setEmus x).boot = s.boot := rfl
@[simp] theorem State.setEmus_sec (s : State) (x : List (Nat × EmuSt)) : (s.setEmus x).sec = s.sec := rfl
@[simp] theorem State.setEmus_link (s : State) (x : List (Nat × EmuSt)) : (s.setEmus x).link = s.link := rfl
@[simp] theorem State.setEmus_rushes (s : State) (x : List (Nat × EmuSt)) : (s.setEmus x).rushes = s.rushes := rfl
@[simp] theorem State.setEmus_sets (s : State) (x : List (Nat × EmuSt)) : (s.setEmus x).sets = s.sets := rfl
@[simp] theorem State.setEmus_cmps (s : State) (x : List (Nat × EmuSt)) : (s.setEmus x).cmps = s.cmps := rfl
@[simp] theorem State.setEmus_sessions (s : State) (x : List (Nat × EmuSt)) : (s.setEmus x).sessions = s.sessions := rfl
@[simp] theorem State.setEmus_feedback (s : State) (x : List (Nat × EmuSt)) : (s.setEmus x).feedback = s.feedback := rfl
@[simp] theorem State.setEmus_emus (s : State) (x : List (Nat × EmuSt)) : (s.setEmus x).emus = x := rfl
@[simp] theorem State.setEmus_ports (s : State) (x : List (Nat × EmuSt)) : (s.setEmus x).ports = s.ports := rfl
@[simp] theorem State.setEmus_engines (s : State) (x : List (Nat × EmuSt)) : (s.setEmus x).engines = s.engines := rfl
@[simp] theorem State.setEmus_reels (s : State) (x : List (Nat × EmuSt)) : (s.setEmus x).reels = s.reels := rfl
@[simp] theorem State.setEmus_banks (s : State) (x : List (Nat × EmuSt)) : (s.setEmus x).banks = s.banks := rfl
@[simp] theorem State.setEmus_dmas (s : State) (x : List (Nat × EmuSt)) : (s.setEmus x).dmas = s.dmas := rfl
@[simp] theorem State.setEmus_cores (s : State) (x : List (Nat × EmuSt)) : (s.setEmus x).cores = s.cores := rfl
@[simp] theorem State.setEmus_serials (s : State) (x : List (Nat × EmuSt)) : (s.setEmus x).serials = s.serials := rfl
@[simp] theorem State.setEmus_free (s : State) (x : List (Nat × EmuSt)) : (s.setEmus x).free = s.free := rfl
@[simp] theorem State.setEmus_pending (s : State) (x : List (Nat × EmuSt)) : (s.setEmus x).pending = s.pending := rfl
@[simp] theorem State.setPorts_now (s : State) (x : List (Nat × PortSt)) : (s.setPorts x).now = s.now := rfl
@[simp] theorem State.setPorts_tcRun (s : State) (x : List (Nat × PortSt)) : (s.setPorts x).tcRun = s.tcRun := rfl
@[simp] theorem State.setPorts_tcSaved (s : State) (x : List (Nat × PortSt)) : (s.setPorts x).tcSaved = s.tcSaved := rfl
@[simp] theorem State.setPorts_syncWait (s : State) (x : List (Nat × PortSt)) : (s.setPorts x).syncWait = s.syncWait := rfl
@[simp] theorem State.setPorts_fields (s : State) (x : List (Nat × PortSt)) : (s.setPorts x).fields = s.fields := rfl
@[simp] theorem State.setPorts_mem (s : State) (x : List (Nat × PortSt)) : (s.setPorts x).mem = s.mem := rfl
@[simp] theorem State.setPorts_marks (s : State) (x : List (Nat × PortSt)) : (s.setPorts x).marks = s.marks := rfl
@[simp] theorem State.setPorts_bus (s : State) (x : List (Nat × PortSt)) : (s.setPorts x).bus = s.bus := rfl
@[simp] theorem State.setPorts_held (s : State) (x : List (Nat × PortSt)) : (s.setPorts x).held = s.held := rfl
@[simp] theorem State.setPorts_events (s : State) (x : List (Nat × PortSt)) : (s.setPorts x).events = s.events := rfl
@[simp] theorem State.setPorts_reports (s : State) (x : List (Nat × PortSt)) : (s.setPorts x).reports = s.reports := rfl
@[simp] theorem State.setPorts_trigAt (s : State) (x : List (Nat × PortSt)) : (s.setPorts x).trigAt = s.trigAt := rfl
@[simp] theorem State.setPorts_trim (s : State) (x : List (Nat × PortSt)) : (s.setPorts x).trim = s.trim := rfl
@[simp] theorem State.setPorts_calGen (s : State) (x : List (Nat × PortSt)) : (s.setPorts x).calGen = s.calGen := rfl
@[simp] theorem State.setPorts_calEnd (s : State) (x : List (Nat × PortSt)) : (s.setPorts x).calEnd = s.calEnd := rfl
@[simp] theorem State.setPorts_portWrites (s : State) (x : List (Nat × PortSt)) : (s.setPorts x).portWrites = s.portWrites := rfl
@[simp] theorem State.setPorts_latFlight (s : State) (x : List (Nat × PortSt)) : (s.setPorts x).latFlight = s.latFlight := rfl
@[simp] theorem State.setPorts_cut (s : State) (x : List (Nat × PortSt)) : (s.setPorts x).cut = s.cut := rfl
@[simp] theorem State.setPorts_laneTest (s : State) (x : List (Nat × PortSt)) : (s.setPorts x).laneTest = s.laneTest := rfl
@[simp] theorem State.setPorts_gafQueue (s : State) (x : List (Nat × PortSt)) : (s.setPorts x).gafQueue = s.gafQueue := rfl
@[simp] theorem State.setPorts_starts (s : State) (x : List (Nat × PortSt)) : (s.setPorts x).starts = s.starts := rfl
@[simp] theorem State.setPorts_zoneLast (s : State) (x : List (Nat × PortSt)) : (s.setPorts x).zoneLast = s.zoneLast := rfl
@[simp] theorem State.setPorts_slateOut (s : State) (x : List (Nat × PortSt)) : (s.setPorts x).slateOut = s.slateOut := rfl
@[simp] theorem State.setPorts_engIn (s : State) (x : List (Nat × PortSt)) : (s.setPorts x).engIn = s.engIn := rfl
@[simp] theorem State.setPorts_engTrigs (s : State) (x : List (Nat × PortSt)) : (s.setPorts x).engTrigs = s.engTrigs := rfl
@[simp] theorem State.setPorts_engNeg (s : State) (x : List (Nat × PortSt)) : (s.setPorts x).engNeg = s.engNeg := rfl
@[simp] theorem State.setPorts_reelQ (s : State) (x : List (Nat × PortSt)) : (s.setPorts x).reelQ = s.reelQ := rfl
@[simp] theorem State.setPorts_xfer (s : State) (x : List (Nat × PortSt)) : (s.setPorts x).xfer = s.xfer := rfl
@[simp] theorem State.setPorts_patrol (s : State) (x : List (Nat × PortSt)) : (s.setPorts x).patrol = s.patrol := rfl
@[simp] theorem State.setPorts_ddrCap (s : State) (x : List (Nat × PortSt)) : (s.setPorts x).ddrCap = s.ddrCap := rfl
@[simp] theorem State.setPorts_flash (s : State) (x : List (Nat × PortSt)) : (s.setPorts x).flash = s.flash := rfl
@[simp] theorem State.setPorts_recs (s : State) (x : List (Nat × PortSt)) : (s.setPorts x).recs = s.recs := rfl
@[simp] theorem State.setPorts_ctu (s : State) (x : List (Nat × PortSt)) : (s.setPorts x).ctu = s.ctu := rfl
@[simp] theorem State.setPorts_image (s : State) (x : List (Nat × PortSt)) : (s.setPorts x).image = s.image := rfl
@[simp] theorem State.setPorts_gaf (s : State) (x : List (Nat × PortSt)) : (s.setPorts x).gaf = s.gaf := rfl
@[simp] theorem State.setPorts_power (s : State) (x : List (Nat × PortSt)) : (s.setPorts x).power = s.power := rfl
@[simp] theorem State.setPorts_otp (s : State) (x : List (Nat × PortSt)) : (s.setPorts x).otp = s.otp := rfl
@[simp] theorem State.setPorts_boot (s : State) (x : List (Nat × PortSt)) : (s.setPorts x).boot = s.boot := rfl
@[simp] theorem State.setPorts_sec (s : State) (x : List (Nat × PortSt)) : (s.setPorts x).sec = s.sec := rfl
@[simp] theorem State.setPorts_link (s : State) (x : List (Nat × PortSt)) : (s.setPorts x).link = s.link := rfl
@[simp] theorem State.setPorts_rushes (s : State) (x : List (Nat × PortSt)) : (s.setPorts x).rushes = s.rushes := rfl
@[simp] theorem State.setPorts_sets (s : State) (x : List (Nat × PortSt)) : (s.setPorts x).sets = s.sets := rfl
@[simp] theorem State.setPorts_cmps (s : State) (x : List (Nat × PortSt)) : (s.setPorts x).cmps = s.cmps := rfl
@[simp] theorem State.setPorts_sessions (s : State) (x : List (Nat × PortSt)) : (s.setPorts x).sessions = s.sessions := rfl
@[simp] theorem State.setPorts_feedback (s : State) (x : List (Nat × PortSt)) : (s.setPorts x).feedback = s.feedback := rfl
@[simp] theorem State.setPorts_emus (s : State) (x : List (Nat × PortSt)) : (s.setPorts x).emus = s.emus := rfl
@[simp] theorem State.setPorts_ports (s : State) (x : List (Nat × PortSt)) : (s.setPorts x).ports = x := rfl
@[simp] theorem State.setPorts_engines (s : State) (x : List (Nat × PortSt)) : (s.setPorts x).engines = s.engines := rfl
@[simp] theorem State.setPorts_reels (s : State) (x : List (Nat × PortSt)) : (s.setPorts x).reels = s.reels := rfl
@[simp] theorem State.setPorts_banks (s : State) (x : List (Nat × PortSt)) : (s.setPorts x).banks = s.banks := rfl
@[simp] theorem State.setPorts_dmas (s : State) (x : List (Nat × PortSt)) : (s.setPorts x).dmas = s.dmas := rfl
@[simp] theorem State.setPorts_cores (s : State) (x : List (Nat × PortSt)) : (s.setPorts x).cores = s.cores := rfl
@[simp] theorem State.setPorts_serials (s : State) (x : List (Nat × PortSt)) : (s.setPorts x).serials = s.serials := rfl
@[simp] theorem State.setPorts_free (s : State) (x : List (Nat × PortSt)) : (s.setPorts x).free = s.free := rfl
@[simp] theorem State.setPorts_pending (s : State) (x : List (Nat × PortSt)) : (s.setPorts x).pending = s.pending := rfl
@[simp] theorem State.setEngines_now (s : State) (x : List (Nat × EngSt)) : (s.setEngines x).now = s.now := rfl
@[simp] theorem State.setEngines_tcRun (s : State) (x : List (Nat × EngSt)) : (s.setEngines x).tcRun = s.tcRun := rfl
@[simp] theorem State.setEngines_tcSaved (s : State) (x : List (Nat × EngSt)) : (s.setEngines x).tcSaved = s.tcSaved := rfl
@[simp] theorem State.setEngines_syncWait (s : State) (x : List (Nat × EngSt)) : (s.setEngines x).syncWait = s.syncWait := rfl
@[simp] theorem State.setEngines_fields (s : State) (x : List (Nat × EngSt)) : (s.setEngines x).fields = s.fields := rfl
@[simp] theorem State.setEngines_mem (s : State) (x : List (Nat × EngSt)) : (s.setEngines x).mem = s.mem := rfl
@[simp] theorem State.setEngines_marks (s : State) (x : List (Nat × EngSt)) : (s.setEngines x).marks = s.marks := rfl
@[simp] theorem State.setEngines_bus (s : State) (x : List (Nat × EngSt)) : (s.setEngines x).bus = s.bus := rfl
@[simp] theorem State.setEngines_held (s : State) (x : List (Nat × EngSt)) : (s.setEngines x).held = s.held := rfl
@[simp] theorem State.setEngines_events (s : State) (x : List (Nat × EngSt)) : (s.setEngines x).events = s.events := rfl
@[simp] theorem State.setEngines_reports (s : State) (x : List (Nat × EngSt)) : (s.setEngines x).reports = s.reports := rfl
@[simp] theorem State.setEngines_trigAt (s : State) (x : List (Nat × EngSt)) : (s.setEngines x).trigAt = s.trigAt := rfl
@[simp] theorem State.setEngines_trim (s : State) (x : List (Nat × EngSt)) : (s.setEngines x).trim = s.trim := rfl
@[simp] theorem State.setEngines_calGen (s : State) (x : List (Nat × EngSt)) : (s.setEngines x).calGen = s.calGen := rfl
@[simp] theorem State.setEngines_calEnd (s : State) (x : List (Nat × EngSt)) : (s.setEngines x).calEnd = s.calEnd := rfl
@[simp] theorem State.setEngines_portWrites (s : State) (x : List (Nat × EngSt)) : (s.setEngines x).portWrites = s.portWrites := rfl
@[simp] theorem State.setEngines_latFlight (s : State) (x : List (Nat × EngSt)) : (s.setEngines x).latFlight = s.latFlight := rfl
@[simp] theorem State.setEngines_cut (s : State) (x : List (Nat × EngSt)) : (s.setEngines x).cut = s.cut := rfl
@[simp] theorem State.setEngines_laneTest (s : State) (x : List (Nat × EngSt)) : (s.setEngines x).laneTest = s.laneTest := rfl
@[simp] theorem State.setEngines_gafQueue (s : State) (x : List (Nat × EngSt)) : (s.setEngines x).gafQueue = s.gafQueue := rfl
@[simp] theorem State.setEngines_starts (s : State) (x : List (Nat × EngSt)) : (s.setEngines x).starts = s.starts := rfl
@[simp] theorem State.setEngines_zoneLast (s : State) (x : List (Nat × EngSt)) : (s.setEngines x).zoneLast = s.zoneLast := rfl
@[simp] theorem State.setEngines_slateOut (s : State) (x : List (Nat × EngSt)) : (s.setEngines x).slateOut = s.slateOut := rfl
@[simp] theorem State.setEngines_engIn (s : State) (x : List (Nat × EngSt)) : (s.setEngines x).engIn = s.engIn := rfl
@[simp] theorem State.setEngines_engTrigs (s : State) (x : List (Nat × EngSt)) : (s.setEngines x).engTrigs = s.engTrigs := rfl
@[simp] theorem State.setEngines_engNeg (s : State) (x : List (Nat × EngSt)) : (s.setEngines x).engNeg = s.engNeg := rfl
@[simp] theorem State.setEngines_reelQ (s : State) (x : List (Nat × EngSt)) : (s.setEngines x).reelQ = s.reelQ := rfl
@[simp] theorem State.setEngines_xfer (s : State) (x : List (Nat × EngSt)) : (s.setEngines x).xfer = s.xfer := rfl
@[simp] theorem State.setEngines_patrol (s : State) (x : List (Nat × EngSt)) : (s.setEngines x).patrol = s.patrol := rfl
@[simp] theorem State.setEngines_ddrCap (s : State) (x : List (Nat × EngSt)) : (s.setEngines x).ddrCap = s.ddrCap := rfl
@[simp] theorem State.setEngines_flash (s : State) (x : List (Nat × EngSt)) : (s.setEngines x).flash = s.flash := rfl
@[simp] theorem State.setEngines_recs (s : State) (x : List (Nat × EngSt)) : (s.setEngines x).recs = s.recs := rfl
@[simp] theorem State.setEngines_ctu (s : State) (x : List (Nat × EngSt)) : (s.setEngines x).ctu = s.ctu := rfl
@[simp] theorem State.setEngines_image (s : State) (x : List (Nat × EngSt)) : (s.setEngines x).image = s.image := rfl
@[simp] theorem State.setEngines_gaf (s : State) (x : List (Nat × EngSt)) : (s.setEngines x).gaf = s.gaf := rfl
@[simp] theorem State.setEngines_power (s : State) (x : List (Nat × EngSt)) : (s.setEngines x).power = s.power := rfl
@[simp] theorem State.setEngines_otp (s : State) (x : List (Nat × EngSt)) : (s.setEngines x).otp = s.otp := rfl
@[simp] theorem State.setEngines_boot (s : State) (x : List (Nat × EngSt)) : (s.setEngines x).boot = s.boot := rfl
@[simp] theorem State.setEngines_sec (s : State) (x : List (Nat × EngSt)) : (s.setEngines x).sec = s.sec := rfl
@[simp] theorem State.setEngines_link (s : State) (x : List (Nat × EngSt)) : (s.setEngines x).link = s.link := rfl
@[simp] theorem State.setEngines_rushes (s : State) (x : List (Nat × EngSt)) : (s.setEngines x).rushes = s.rushes := rfl
@[simp] theorem State.setEngines_sets (s : State) (x : List (Nat × EngSt)) : (s.setEngines x).sets = s.sets := rfl
@[simp] theorem State.setEngines_cmps (s : State) (x : List (Nat × EngSt)) : (s.setEngines x).cmps = s.cmps := rfl
@[simp] theorem State.setEngines_sessions (s : State) (x : List (Nat × EngSt)) : (s.setEngines x).sessions = s.sessions := rfl
@[simp] theorem State.setEngines_feedback (s : State) (x : List (Nat × EngSt)) : (s.setEngines x).feedback = s.feedback := rfl
@[simp] theorem State.setEngines_emus (s : State) (x : List (Nat × EngSt)) : (s.setEngines x).emus = s.emus := rfl
@[simp] theorem State.setEngines_ports (s : State) (x : List (Nat × EngSt)) : (s.setEngines x).ports = s.ports := rfl
@[simp] theorem State.setEngines_engines (s : State) (x : List (Nat × EngSt)) : (s.setEngines x).engines = x := rfl
@[simp] theorem State.setEngines_reels (s : State) (x : List (Nat × EngSt)) : (s.setEngines x).reels = s.reels := rfl
@[simp] theorem State.setEngines_banks (s : State) (x : List (Nat × EngSt)) : (s.setEngines x).banks = s.banks := rfl
@[simp] theorem State.setEngines_dmas (s : State) (x : List (Nat × EngSt)) : (s.setEngines x).dmas = s.dmas := rfl
@[simp] theorem State.setEngines_cores (s : State) (x : List (Nat × EngSt)) : (s.setEngines x).cores = s.cores := rfl
@[simp] theorem State.setEngines_serials (s : State) (x : List (Nat × EngSt)) : (s.setEngines x).serials = s.serials := rfl
@[simp] theorem State.setEngines_free (s : State) (x : List (Nat × EngSt)) : (s.setEngines x).free = s.free := rfl
@[simp] theorem State.setEngines_pending (s : State) (x : List (Nat × EngSt)) : (s.setEngines x).pending = s.pending := rfl
@[simp] theorem State.setReels_now (s : State) (x : List (Nat × ReelSt)) : (s.setReels x).now = s.now := rfl
@[simp] theorem State.setReels_tcRun (s : State) (x : List (Nat × ReelSt)) : (s.setReels x).tcRun = s.tcRun := rfl
@[simp] theorem State.setReels_tcSaved (s : State) (x : List (Nat × ReelSt)) : (s.setReels x).tcSaved = s.tcSaved := rfl
@[simp] theorem State.setReels_syncWait (s : State) (x : List (Nat × ReelSt)) : (s.setReels x).syncWait = s.syncWait := rfl
@[simp] theorem State.setReels_fields (s : State) (x : List (Nat × ReelSt)) : (s.setReels x).fields = s.fields := rfl
@[simp] theorem State.setReels_mem (s : State) (x : List (Nat × ReelSt)) : (s.setReels x).mem = s.mem := rfl
@[simp] theorem State.setReels_marks (s : State) (x : List (Nat × ReelSt)) : (s.setReels x).marks = s.marks := rfl
@[simp] theorem State.setReels_bus (s : State) (x : List (Nat × ReelSt)) : (s.setReels x).bus = s.bus := rfl
@[simp] theorem State.setReels_held (s : State) (x : List (Nat × ReelSt)) : (s.setReels x).held = s.held := rfl
@[simp] theorem State.setReels_events (s : State) (x : List (Nat × ReelSt)) : (s.setReels x).events = s.events := rfl
@[simp] theorem State.setReels_reports (s : State) (x : List (Nat × ReelSt)) : (s.setReels x).reports = s.reports := rfl
@[simp] theorem State.setReels_trigAt (s : State) (x : List (Nat × ReelSt)) : (s.setReels x).trigAt = s.trigAt := rfl
@[simp] theorem State.setReels_trim (s : State) (x : List (Nat × ReelSt)) : (s.setReels x).trim = s.trim := rfl
@[simp] theorem State.setReels_calGen (s : State) (x : List (Nat × ReelSt)) : (s.setReels x).calGen = s.calGen := rfl
@[simp] theorem State.setReels_calEnd (s : State) (x : List (Nat × ReelSt)) : (s.setReels x).calEnd = s.calEnd := rfl
@[simp] theorem State.setReels_portWrites (s : State) (x : List (Nat × ReelSt)) : (s.setReels x).portWrites = s.portWrites := rfl
@[simp] theorem State.setReels_latFlight (s : State) (x : List (Nat × ReelSt)) : (s.setReels x).latFlight = s.latFlight := rfl
@[simp] theorem State.setReels_cut (s : State) (x : List (Nat × ReelSt)) : (s.setReels x).cut = s.cut := rfl
@[simp] theorem State.setReels_laneTest (s : State) (x : List (Nat × ReelSt)) : (s.setReels x).laneTest = s.laneTest := rfl
@[simp] theorem State.setReels_gafQueue (s : State) (x : List (Nat × ReelSt)) : (s.setReels x).gafQueue = s.gafQueue := rfl
@[simp] theorem State.setReels_starts (s : State) (x : List (Nat × ReelSt)) : (s.setReels x).starts = s.starts := rfl
@[simp] theorem State.setReels_zoneLast (s : State) (x : List (Nat × ReelSt)) : (s.setReels x).zoneLast = s.zoneLast := rfl
@[simp] theorem State.setReels_slateOut (s : State) (x : List (Nat × ReelSt)) : (s.setReels x).slateOut = s.slateOut := rfl
@[simp] theorem State.setReels_engIn (s : State) (x : List (Nat × ReelSt)) : (s.setReels x).engIn = s.engIn := rfl
@[simp] theorem State.setReels_engTrigs (s : State) (x : List (Nat × ReelSt)) : (s.setReels x).engTrigs = s.engTrigs := rfl
@[simp] theorem State.setReels_engNeg (s : State) (x : List (Nat × ReelSt)) : (s.setReels x).engNeg = s.engNeg := rfl
@[simp] theorem State.setReels_reelQ (s : State) (x : List (Nat × ReelSt)) : (s.setReels x).reelQ = s.reelQ := rfl
@[simp] theorem State.setReels_xfer (s : State) (x : List (Nat × ReelSt)) : (s.setReels x).xfer = s.xfer := rfl
@[simp] theorem State.setReels_patrol (s : State) (x : List (Nat × ReelSt)) : (s.setReels x).patrol = s.patrol := rfl
@[simp] theorem State.setReels_ddrCap (s : State) (x : List (Nat × ReelSt)) : (s.setReels x).ddrCap = s.ddrCap := rfl
@[simp] theorem State.setReels_flash (s : State) (x : List (Nat × ReelSt)) : (s.setReels x).flash = s.flash := rfl
@[simp] theorem State.setReels_recs (s : State) (x : List (Nat × ReelSt)) : (s.setReels x).recs = s.recs := rfl
@[simp] theorem State.setReels_ctu (s : State) (x : List (Nat × ReelSt)) : (s.setReels x).ctu = s.ctu := rfl
@[simp] theorem State.setReels_image (s : State) (x : List (Nat × ReelSt)) : (s.setReels x).image = s.image := rfl
@[simp] theorem State.setReels_gaf (s : State) (x : List (Nat × ReelSt)) : (s.setReels x).gaf = s.gaf := rfl
@[simp] theorem State.setReels_power (s : State) (x : List (Nat × ReelSt)) : (s.setReels x).power = s.power := rfl
@[simp] theorem State.setReels_otp (s : State) (x : List (Nat × ReelSt)) : (s.setReels x).otp = s.otp := rfl
@[simp] theorem State.setReels_boot (s : State) (x : List (Nat × ReelSt)) : (s.setReels x).boot = s.boot := rfl
@[simp] theorem State.setReels_sec (s : State) (x : List (Nat × ReelSt)) : (s.setReels x).sec = s.sec := rfl
@[simp] theorem State.setReels_link (s : State) (x : List (Nat × ReelSt)) : (s.setReels x).link = s.link := rfl
@[simp] theorem State.setReels_rushes (s : State) (x : List (Nat × ReelSt)) : (s.setReels x).rushes = s.rushes := rfl
@[simp] theorem State.setReels_sets (s : State) (x : List (Nat × ReelSt)) : (s.setReels x).sets = s.sets := rfl
@[simp] theorem State.setReels_cmps (s : State) (x : List (Nat × ReelSt)) : (s.setReels x).cmps = s.cmps := rfl
@[simp] theorem State.setReels_sessions (s : State) (x : List (Nat × ReelSt)) : (s.setReels x).sessions = s.sessions := rfl
@[simp] theorem State.setReels_feedback (s : State) (x : List (Nat × ReelSt)) : (s.setReels x).feedback = s.feedback := rfl
@[simp] theorem State.setReels_emus (s : State) (x : List (Nat × ReelSt)) : (s.setReels x).emus = s.emus := rfl
@[simp] theorem State.setReels_ports (s : State) (x : List (Nat × ReelSt)) : (s.setReels x).ports = s.ports := rfl
@[simp] theorem State.setReels_engines (s : State) (x : List (Nat × ReelSt)) : (s.setReels x).engines = s.engines := rfl
@[simp] theorem State.setReels_reels (s : State) (x : List (Nat × ReelSt)) : (s.setReels x).reels = x := rfl
@[simp] theorem State.setReels_banks (s : State) (x : List (Nat × ReelSt)) : (s.setReels x).banks = s.banks := rfl
@[simp] theorem State.setReels_dmas (s : State) (x : List (Nat × ReelSt)) : (s.setReels x).dmas = s.dmas := rfl
@[simp] theorem State.setReels_cores (s : State) (x : List (Nat × ReelSt)) : (s.setReels x).cores = s.cores := rfl
@[simp] theorem State.setReels_serials (s : State) (x : List (Nat × ReelSt)) : (s.setReels x).serials = s.serials := rfl
@[simp] theorem State.setReels_free (s : State) (x : List (Nat × ReelSt)) : (s.setReels x).free = s.free := rfl
@[simp] theorem State.setReels_pending (s : State) (x : List (Nat × ReelSt)) : (s.setReels x).pending = s.pending := rfl
@[simp] theorem State.setBanks_now (s : State) (x : List (Nat × BankSt)) : (s.setBanks x).now = s.now := rfl
@[simp] theorem State.setBanks_tcRun (s : State) (x : List (Nat × BankSt)) : (s.setBanks x).tcRun = s.tcRun := rfl
@[simp] theorem State.setBanks_tcSaved (s : State) (x : List (Nat × BankSt)) : (s.setBanks x).tcSaved = s.tcSaved := rfl
@[simp] theorem State.setBanks_syncWait (s : State) (x : List (Nat × BankSt)) : (s.setBanks x).syncWait = s.syncWait := rfl
@[simp] theorem State.setBanks_fields (s : State) (x : List (Nat × BankSt)) : (s.setBanks x).fields = s.fields := rfl
@[simp] theorem State.setBanks_mem (s : State) (x : List (Nat × BankSt)) : (s.setBanks x).mem = s.mem := rfl
@[simp] theorem State.setBanks_marks (s : State) (x : List (Nat × BankSt)) : (s.setBanks x).marks = s.marks := rfl
@[simp] theorem State.setBanks_bus (s : State) (x : List (Nat × BankSt)) : (s.setBanks x).bus = s.bus := rfl
@[simp] theorem State.setBanks_held (s : State) (x : List (Nat × BankSt)) : (s.setBanks x).held = s.held := rfl
@[simp] theorem State.setBanks_events (s : State) (x : List (Nat × BankSt)) : (s.setBanks x).events = s.events := rfl
@[simp] theorem State.setBanks_reports (s : State) (x : List (Nat × BankSt)) : (s.setBanks x).reports = s.reports := rfl
@[simp] theorem State.setBanks_trigAt (s : State) (x : List (Nat × BankSt)) : (s.setBanks x).trigAt = s.trigAt := rfl
@[simp] theorem State.setBanks_trim (s : State) (x : List (Nat × BankSt)) : (s.setBanks x).trim = s.trim := rfl
@[simp] theorem State.setBanks_calGen (s : State) (x : List (Nat × BankSt)) : (s.setBanks x).calGen = s.calGen := rfl
@[simp] theorem State.setBanks_calEnd (s : State) (x : List (Nat × BankSt)) : (s.setBanks x).calEnd = s.calEnd := rfl
@[simp] theorem State.setBanks_portWrites (s : State) (x : List (Nat × BankSt)) : (s.setBanks x).portWrites = s.portWrites := rfl
@[simp] theorem State.setBanks_latFlight (s : State) (x : List (Nat × BankSt)) : (s.setBanks x).latFlight = s.latFlight := rfl
@[simp] theorem State.setBanks_cut (s : State) (x : List (Nat × BankSt)) : (s.setBanks x).cut = s.cut := rfl
@[simp] theorem State.setBanks_laneTest (s : State) (x : List (Nat × BankSt)) : (s.setBanks x).laneTest = s.laneTest := rfl
@[simp] theorem State.setBanks_gafQueue (s : State) (x : List (Nat × BankSt)) : (s.setBanks x).gafQueue = s.gafQueue := rfl
@[simp] theorem State.setBanks_starts (s : State) (x : List (Nat × BankSt)) : (s.setBanks x).starts = s.starts := rfl
@[simp] theorem State.setBanks_zoneLast (s : State) (x : List (Nat × BankSt)) : (s.setBanks x).zoneLast = s.zoneLast := rfl
@[simp] theorem State.setBanks_slateOut (s : State) (x : List (Nat × BankSt)) : (s.setBanks x).slateOut = s.slateOut := rfl
@[simp] theorem State.setBanks_engIn (s : State) (x : List (Nat × BankSt)) : (s.setBanks x).engIn = s.engIn := rfl
@[simp] theorem State.setBanks_engTrigs (s : State) (x : List (Nat × BankSt)) : (s.setBanks x).engTrigs = s.engTrigs := rfl
@[simp] theorem State.setBanks_engNeg (s : State) (x : List (Nat × BankSt)) : (s.setBanks x).engNeg = s.engNeg := rfl
@[simp] theorem State.setBanks_reelQ (s : State) (x : List (Nat × BankSt)) : (s.setBanks x).reelQ = s.reelQ := rfl
@[simp] theorem State.setBanks_xfer (s : State) (x : List (Nat × BankSt)) : (s.setBanks x).xfer = s.xfer := rfl
@[simp] theorem State.setBanks_patrol (s : State) (x : List (Nat × BankSt)) : (s.setBanks x).patrol = s.patrol := rfl
@[simp] theorem State.setBanks_ddrCap (s : State) (x : List (Nat × BankSt)) : (s.setBanks x).ddrCap = s.ddrCap := rfl
@[simp] theorem State.setBanks_flash (s : State) (x : List (Nat × BankSt)) : (s.setBanks x).flash = s.flash := rfl
@[simp] theorem State.setBanks_recs (s : State) (x : List (Nat × BankSt)) : (s.setBanks x).recs = s.recs := rfl
@[simp] theorem State.setBanks_ctu (s : State) (x : List (Nat × BankSt)) : (s.setBanks x).ctu = s.ctu := rfl
@[simp] theorem State.setBanks_image (s : State) (x : List (Nat × BankSt)) : (s.setBanks x).image = s.image := rfl
@[simp] theorem State.setBanks_gaf (s : State) (x : List (Nat × BankSt)) : (s.setBanks x).gaf = s.gaf := rfl
@[simp] theorem State.setBanks_power (s : State) (x : List (Nat × BankSt)) : (s.setBanks x).power = s.power := rfl
@[simp] theorem State.setBanks_otp (s : State) (x : List (Nat × BankSt)) : (s.setBanks x).otp = s.otp := rfl
@[simp] theorem State.setBanks_boot (s : State) (x : List (Nat × BankSt)) : (s.setBanks x).boot = s.boot := rfl
@[simp] theorem State.setBanks_sec (s : State) (x : List (Nat × BankSt)) : (s.setBanks x).sec = s.sec := rfl
@[simp] theorem State.setBanks_link (s : State) (x : List (Nat × BankSt)) : (s.setBanks x).link = s.link := rfl
@[simp] theorem State.setBanks_rushes (s : State) (x : List (Nat × BankSt)) : (s.setBanks x).rushes = s.rushes := rfl
@[simp] theorem State.setBanks_sets (s : State) (x : List (Nat × BankSt)) : (s.setBanks x).sets = s.sets := rfl
@[simp] theorem State.setBanks_cmps (s : State) (x : List (Nat × BankSt)) : (s.setBanks x).cmps = s.cmps := rfl
@[simp] theorem State.setBanks_sessions (s : State) (x : List (Nat × BankSt)) : (s.setBanks x).sessions = s.sessions := rfl
@[simp] theorem State.setBanks_feedback (s : State) (x : List (Nat × BankSt)) : (s.setBanks x).feedback = s.feedback := rfl
@[simp] theorem State.setBanks_emus (s : State) (x : List (Nat × BankSt)) : (s.setBanks x).emus = s.emus := rfl
@[simp] theorem State.setBanks_ports (s : State) (x : List (Nat × BankSt)) : (s.setBanks x).ports = s.ports := rfl
@[simp] theorem State.setBanks_engines (s : State) (x : List (Nat × BankSt)) : (s.setBanks x).engines = s.engines := rfl
@[simp] theorem State.setBanks_reels (s : State) (x : List (Nat × BankSt)) : (s.setBanks x).reels = s.reels := rfl
@[simp] theorem State.setBanks_banks (s : State) (x : List (Nat × BankSt)) : (s.setBanks x).banks = x := rfl
@[simp] theorem State.setBanks_dmas (s : State) (x : List (Nat × BankSt)) : (s.setBanks x).dmas = s.dmas := rfl
@[simp] theorem State.setBanks_cores (s : State) (x : List (Nat × BankSt)) : (s.setBanks x).cores = s.cores := rfl
@[simp] theorem State.setBanks_serials (s : State) (x : List (Nat × BankSt)) : (s.setBanks x).serials = s.serials := rfl
@[simp] theorem State.setBanks_free (s : State) (x : List (Nat × BankSt)) : (s.setBanks x).free = s.free := rfl
@[simp] theorem State.setBanks_pending (s : State) (x : List (Nat × BankSt)) : (s.setBanks x).pending = s.pending := rfl
@[simp] theorem State.setDmas_now (s : State) (x : List (Nat × DmaSt)) : (s.setDmas x).now = s.now := rfl
@[simp] theorem State.setDmas_tcRun (s : State) (x : List (Nat × DmaSt)) : (s.setDmas x).tcRun = s.tcRun := rfl
@[simp] theorem State.setDmas_tcSaved (s : State) (x : List (Nat × DmaSt)) : (s.setDmas x).tcSaved = s.tcSaved := rfl
@[simp] theorem State.setDmas_syncWait (s : State) (x : List (Nat × DmaSt)) : (s.setDmas x).syncWait = s.syncWait := rfl
@[simp] theorem State.setDmas_fields (s : State) (x : List (Nat × DmaSt)) : (s.setDmas x).fields = s.fields := rfl
@[simp] theorem State.setDmas_mem (s : State) (x : List (Nat × DmaSt)) : (s.setDmas x).mem = s.mem := rfl
@[simp] theorem State.setDmas_marks (s : State) (x : List (Nat × DmaSt)) : (s.setDmas x).marks = s.marks := rfl
@[simp] theorem State.setDmas_bus (s : State) (x : List (Nat × DmaSt)) : (s.setDmas x).bus = s.bus := rfl
@[simp] theorem State.setDmas_held (s : State) (x : List (Nat × DmaSt)) : (s.setDmas x).held = s.held := rfl
@[simp] theorem State.setDmas_events (s : State) (x : List (Nat × DmaSt)) : (s.setDmas x).events = s.events := rfl
@[simp] theorem State.setDmas_reports (s : State) (x : List (Nat × DmaSt)) : (s.setDmas x).reports = s.reports := rfl
@[simp] theorem State.setDmas_trigAt (s : State) (x : List (Nat × DmaSt)) : (s.setDmas x).trigAt = s.trigAt := rfl
@[simp] theorem State.setDmas_trim (s : State) (x : List (Nat × DmaSt)) : (s.setDmas x).trim = s.trim := rfl
@[simp] theorem State.setDmas_calGen (s : State) (x : List (Nat × DmaSt)) : (s.setDmas x).calGen = s.calGen := rfl
@[simp] theorem State.setDmas_calEnd (s : State) (x : List (Nat × DmaSt)) : (s.setDmas x).calEnd = s.calEnd := rfl
@[simp] theorem State.setDmas_portWrites (s : State) (x : List (Nat × DmaSt)) : (s.setDmas x).portWrites = s.portWrites := rfl
@[simp] theorem State.setDmas_latFlight (s : State) (x : List (Nat × DmaSt)) : (s.setDmas x).latFlight = s.latFlight := rfl
@[simp] theorem State.setDmas_cut (s : State) (x : List (Nat × DmaSt)) : (s.setDmas x).cut = s.cut := rfl
@[simp] theorem State.setDmas_laneTest (s : State) (x : List (Nat × DmaSt)) : (s.setDmas x).laneTest = s.laneTest := rfl
@[simp] theorem State.setDmas_gafQueue (s : State) (x : List (Nat × DmaSt)) : (s.setDmas x).gafQueue = s.gafQueue := rfl
@[simp] theorem State.setDmas_starts (s : State) (x : List (Nat × DmaSt)) : (s.setDmas x).starts = s.starts := rfl
@[simp] theorem State.setDmas_zoneLast (s : State) (x : List (Nat × DmaSt)) : (s.setDmas x).zoneLast = s.zoneLast := rfl
@[simp] theorem State.setDmas_slateOut (s : State) (x : List (Nat × DmaSt)) : (s.setDmas x).slateOut = s.slateOut := rfl
@[simp] theorem State.setDmas_engIn (s : State) (x : List (Nat × DmaSt)) : (s.setDmas x).engIn = s.engIn := rfl
@[simp] theorem State.setDmas_engTrigs (s : State) (x : List (Nat × DmaSt)) : (s.setDmas x).engTrigs = s.engTrigs := rfl
@[simp] theorem State.setDmas_engNeg (s : State) (x : List (Nat × DmaSt)) : (s.setDmas x).engNeg = s.engNeg := rfl
@[simp] theorem State.setDmas_reelQ (s : State) (x : List (Nat × DmaSt)) : (s.setDmas x).reelQ = s.reelQ := rfl
@[simp] theorem State.setDmas_xfer (s : State) (x : List (Nat × DmaSt)) : (s.setDmas x).xfer = s.xfer := rfl
@[simp] theorem State.setDmas_patrol (s : State) (x : List (Nat × DmaSt)) : (s.setDmas x).patrol = s.patrol := rfl
@[simp] theorem State.setDmas_ddrCap (s : State) (x : List (Nat × DmaSt)) : (s.setDmas x).ddrCap = s.ddrCap := rfl
@[simp] theorem State.setDmas_flash (s : State) (x : List (Nat × DmaSt)) : (s.setDmas x).flash = s.flash := rfl
@[simp] theorem State.setDmas_recs (s : State) (x : List (Nat × DmaSt)) : (s.setDmas x).recs = s.recs := rfl
@[simp] theorem State.setDmas_ctu (s : State) (x : List (Nat × DmaSt)) : (s.setDmas x).ctu = s.ctu := rfl
@[simp] theorem State.setDmas_image (s : State) (x : List (Nat × DmaSt)) : (s.setDmas x).image = s.image := rfl
@[simp] theorem State.setDmas_gaf (s : State) (x : List (Nat × DmaSt)) : (s.setDmas x).gaf = s.gaf := rfl
@[simp] theorem State.setDmas_power (s : State) (x : List (Nat × DmaSt)) : (s.setDmas x).power = s.power := rfl
@[simp] theorem State.setDmas_otp (s : State) (x : List (Nat × DmaSt)) : (s.setDmas x).otp = s.otp := rfl
@[simp] theorem State.setDmas_boot (s : State) (x : List (Nat × DmaSt)) : (s.setDmas x).boot = s.boot := rfl
@[simp] theorem State.setDmas_sec (s : State) (x : List (Nat × DmaSt)) : (s.setDmas x).sec = s.sec := rfl
@[simp] theorem State.setDmas_link (s : State) (x : List (Nat × DmaSt)) : (s.setDmas x).link = s.link := rfl
@[simp] theorem State.setDmas_rushes (s : State) (x : List (Nat × DmaSt)) : (s.setDmas x).rushes = s.rushes := rfl
@[simp] theorem State.setDmas_sets (s : State) (x : List (Nat × DmaSt)) : (s.setDmas x).sets = s.sets := rfl
@[simp] theorem State.setDmas_cmps (s : State) (x : List (Nat × DmaSt)) : (s.setDmas x).cmps = s.cmps := rfl
@[simp] theorem State.setDmas_sessions (s : State) (x : List (Nat × DmaSt)) : (s.setDmas x).sessions = s.sessions := rfl
@[simp] theorem State.setDmas_feedback (s : State) (x : List (Nat × DmaSt)) : (s.setDmas x).feedback = s.feedback := rfl
@[simp] theorem State.setDmas_emus (s : State) (x : List (Nat × DmaSt)) : (s.setDmas x).emus = s.emus := rfl
@[simp] theorem State.setDmas_ports (s : State) (x : List (Nat × DmaSt)) : (s.setDmas x).ports = s.ports := rfl
@[simp] theorem State.setDmas_engines (s : State) (x : List (Nat × DmaSt)) : (s.setDmas x).engines = s.engines := rfl
@[simp] theorem State.setDmas_reels (s : State) (x : List (Nat × DmaSt)) : (s.setDmas x).reels = s.reels := rfl
@[simp] theorem State.setDmas_banks (s : State) (x : List (Nat × DmaSt)) : (s.setDmas x).banks = s.banks := rfl
@[simp] theorem State.setDmas_dmas (s : State) (x : List (Nat × DmaSt)) : (s.setDmas x).dmas = x := rfl
@[simp] theorem State.setDmas_cores (s : State) (x : List (Nat × DmaSt)) : (s.setDmas x).cores = s.cores := rfl
@[simp] theorem State.setDmas_serials (s : State) (x : List (Nat × DmaSt)) : (s.setDmas x).serials = s.serials := rfl
@[simp] theorem State.setDmas_free (s : State) (x : List (Nat × DmaSt)) : (s.setDmas x).free = s.free := rfl
@[simp] theorem State.setDmas_pending (s : State) (x : List (Nat × DmaSt)) : (s.setDmas x).pending = s.pending := rfl
@[simp] theorem State.setCores_now (s : State) (x : List (Nat × CoreSt)) : (s.setCores x).now = s.now := rfl
@[simp] theorem State.setCores_tcRun (s : State) (x : List (Nat × CoreSt)) : (s.setCores x).tcRun = s.tcRun := rfl
@[simp] theorem State.setCores_tcSaved (s : State) (x : List (Nat × CoreSt)) : (s.setCores x).tcSaved = s.tcSaved := rfl
@[simp] theorem State.setCores_syncWait (s : State) (x : List (Nat × CoreSt)) : (s.setCores x).syncWait = s.syncWait := rfl
@[simp] theorem State.setCores_fields (s : State) (x : List (Nat × CoreSt)) : (s.setCores x).fields = s.fields := rfl
@[simp] theorem State.setCores_mem (s : State) (x : List (Nat × CoreSt)) : (s.setCores x).mem = s.mem := rfl
@[simp] theorem State.setCores_marks (s : State) (x : List (Nat × CoreSt)) : (s.setCores x).marks = s.marks := rfl
@[simp] theorem State.setCores_bus (s : State) (x : List (Nat × CoreSt)) : (s.setCores x).bus = s.bus := rfl
@[simp] theorem State.setCores_held (s : State) (x : List (Nat × CoreSt)) : (s.setCores x).held = s.held := rfl
@[simp] theorem State.setCores_events (s : State) (x : List (Nat × CoreSt)) : (s.setCores x).events = s.events := rfl
@[simp] theorem State.setCores_reports (s : State) (x : List (Nat × CoreSt)) : (s.setCores x).reports = s.reports := rfl
@[simp] theorem State.setCores_trigAt (s : State) (x : List (Nat × CoreSt)) : (s.setCores x).trigAt = s.trigAt := rfl
@[simp] theorem State.setCores_trim (s : State) (x : List (Nat × CoreSt)) : (s.setCores x).trim = s.trim := rfl
@[simp] theorem State.setCores_calGen (s : State) (x : List (Nat × CoreSt)) : (s.setCores x).calGen = s.calGen := rfl
@[simp] theorem State.setCores_calEnd (s : State) (x : List (Nat × CoreSt)) : (s.setCores x).calEnd = s.calEnd := rfl
@[simp] theorem State.setCores_portWrites (s : State) (x : List (Nat × CoreSt)) : (s.setCores x).portWrites = s.portWrites := rfl
@[simp] theorem State.setCores_latFlight (s : State) (x : List (Nat × CoreSt)) : (s.setCores x).latFlight = s.latFlight := rfl
@[simp] theorem State.setCores_cut (s : State) (x : List (Nat × CoreSt)) : (s.setCores x).cut = s.cut := rfl
@[simp] theorem State.setCores_laneTest (s : State) (x : List (Nat × CoreSt)) : (s.setCores x).laneTest = s.laneTest := rfl
@[simp] theorem State.setCores_gafQueue (s : State) (x : List (Nat × CoreSt)) : (s.setCores x).gafQueue = s.gafQueue := rfl
@[simp] theorem State.setCores_starts (s : State) (x : List (Nat × CoreSt)) : (s.setCores x).starts = s.starts := rfl
@[simp] theorem State.setCores_zoneLast (s : State) (x : List (Nat × CoreSt)) : (s.setCores x).zoneLast = s.zoneLast := rfl
@[simp] theorem State.setCores_slateOut (s : State) (x : List (Nat × CoreSt)) : (s.setCores x).slateOut = s.slateOut := rfl
@[simp] theorem State.setCores_engIn (s : State) (x : List (Nat × CoreSt)) : (s.setCores x).engIn = s.engIn := rfl
@[simp] theorem State.setCores_engTrigs (s : State) (x : List (Nat × CoreSt)) : (s.setCores x).engTrigs = s.engTrigs := rfl
@[simp] theorem State.setCores_engNeg (s : State) (x : List (Nat × CoreSt)) : (s.setCores x).engNeg = s.engNeg := rfl
@[simp] theorem State.setCores_reelQ (s : State) (x : List (Nat × CoreSt)) : (s.setCores x).reelQ = s.reelQ := rfl
@[simp] theorem State.setCores_xfer (s : State) (x : List (Nat × CoreSt)) : (s.setCores x).xfer = s.xfer := rfl
@[simp] theorem State.setCores_patrol (s : State) (x : List (Nat × CoreSt)) : (s.setCores x).patrol = s.patrol := rfl
@[simp] theorem State.setCores_ddrCap (s : State) (x : List (Nat × CoreSt)) : (s.setCores x).ddrCap = s.ddrCap := rfl
@[simp] theorem State.setCores_flash (s : State) (x : List (Nat × CoreSt)) : (s.setCores x).flash = s.flash := rfl
@[simp] theorem State.setCores_recs (s : State) (x : List (Nat × CoreSt)) : (s.setCores x).recs = s.recs := rfl
@[simp] theorem State.setCores_ctu (s : State) (x : List (Nat × CoreSt)) : (s.setCores x).ctu = s.ctu := rfl
@[simp] theorem State.setCores_image (s : State) (x : List (Nat × CoreSt)) : (s.setCores x).image = s.image := rfl
@[simp] theorem State.setCores_gaf (s : State) (x : List (Nat × CoreSt)) : (s.setCores x).gaf = s.gaf := rfl
@[simp] theorem State.setCores_power (s : State) (x : List (Nat × CoreSt)) : (s.setCores x).power = s.power := rfl
@[simp] theorem State.setCores_otp (s : State) (x : List (Nat × CoreSt)) : (s.setCores x).otp = s.otp := rfl
@[simp] theorem State.setCores_boot (s : State) (x : List (Nat × CoreSt)) : (s.setCores x).boot = s.boot := rfl
@[simp] theorem State.setCores_sec (s : State) (x : List (Nat × CoreSt)) : (s.setCores x).sec = s.sec := rfl
@[simp] theorem State.setCores_link (s : State) (x : List (Nat × CoreSt)) : (s.setCores x).link = s.link := rfl
@[simp] theorem State.setCores_rushes (s : State) (x : List (Nat × CoreSt)) : (s.setCores x).rushes = s.rushes := rfl
@[simp] theorem State.setCores_sets (s : State) (x : List (Nat × CoreSt)) : (s.setCores x).sets = s.sets := rfl
@[simp] theorem State.setCores_cmps (s : State) (x : List (Nat × CoreSt)) : (s.setCores x).cmps = s.cmps := rfl
@[simp] theorem State.setCores_sessions (s : State) (x : List (Nat × CoreSt)) : (s.setCores x).sessions = s.sessions := rfl
@[simp] theorem State.setCores_feedback (s : State) (x : List (Nat × CoreSt)) : (s.setCores x).feedback = s.feedback := rfl
@[simp] theorem State.setCores_emus (s : State) (x : List (Nat × CoreSt)) : (s.setCores x).emus = s.emus := rfl
@[simp] theorem State.setCores_ports (s : State) (x : List (Nat × CoreSt)) : (s.setCores x).ports = s.ports := rfl
@[simp] theorem State.setCores_engines (s : State) (x : List (Nat × CoreSt)) : (s.setCores x).engines = s.engines := rfl
@[simp] theorem State.setCores_reels (s : State) (x : List (Nat × CoreSt)) : (s.setCores x).reels = s.reels := rfl
@[simp] theorem State.setCores_banks (s : State) (x : List (Nat × CoreSt)) : (s.setCores x).banks = s.banks := rfl
@[simp] theorem State.setCores_dmas (s : State) (x : List (Nat × CoreSt)) : (s.setCores x).dmas = s.dmas := rfl
@[simp] theorem State.setCores_cores (s : State) (x : List (Nat × CoreSt)) : (s.setCores x).cores = x := rfl
@[simp] theorem State.setCores_serials (s : State) (x : List (Nat × CoreSt)) : (s.setCores x).serials = s.serials := rfl
@[simp] theorem State.setCores_free (s : State) (x : List (Nat × CoreSt)) : (s.setCores x).free = s.free := rfl
@[simp] theorem State.setCores_pending (s : State) (x : List (Nat × CoreSt)) : (s.setCores x).pending = s.pending := rfl
@[simp] theorem State.setSerials_now (s : State) (x : List (Nat × SerialSt)) : (s.setSerials x).now = s.now := rfl
@[simp] theorem State.setSerials_tcRun (s : State) (x : List (Nat × SerialSt)) : (s.setSerials x).tcRun = s.tcRun := rfl
@[simp] theorem State.setSerials_tcSaved (s : State) (x : List (Nat × SerialSt)) : (s.setSerials x).tcSaved = s.tcSaved := rfl
@[simp] theorem State.setSerials_syncWait (s : State) (x : List (Nat × SerialSt)) : (s.setSerials x).syncWait = s.syncWait := rfl
@[simp] theorem State.setSerials_fields (s : State) (x : List (Nat × SerialSt)) : (s.setSerials x).fields = s.fields := rfl
@[simp] theorem State.setSerials_mem (s : State) (x : List (Nat × SerialSt)) : (s.setSerials x).mem = s.mem := rfl
@[simp] theorem State.setSerials_marks (s : State) (x : List (Nat × SerialSt)) : (s.setSerials x).marks = s.marks := rfl
@[simp] theorem State.setSerials_bus (s : State) (x : List (Nat × SerialSt)) : (s.setSerials x).bus = s.bus := rfl
@[simp] theorem State.setSerials_held (s : State) (x : List (Nat × SerialSt)) : (s.setSerials x).held = s.held := rfl
@[simp] theorem State.setSerials_events (s : State) (x : List (Nat × SerialSt)) : (s.setSerials x).events = s.events := rfl
@[simp] theorem State.setSerials_reports (s : State) (x : List (Nat × SerialSt)) : (s.setSerials x).reports = s.reports := rfl
@[simp] theorem State.setSerials_trigAt (s : State) (x : List (Nat × SerialSt)) : (s.setSerials x).trigAt = s.trigAt := rfl
@[simp] theorem State.setSerials_trim (s : State) (x : List (Nat × SerialSt)) : (s.setSerials x).trim = s.trim := rfl
@[simp] theorem State.setSerials_calGen (s : State) (x : List (Nat × SerialSt)) : (s.setSerials x).calGen = s.calGen := rfl
@[simp] theorem State.setSerials_calEnd (s : State) (x : List (Nat × SerialSt)) : (s.setSerials x).calEnd = s.calEnd := rfl
@[simp] theorem State.setSerials_portWrites (s : State) (x : List (Nat × SerialSt)) : (s.setSerials x).portWrites = s.portWrites := rfl
@[simp] theorem State.setSerials_latFlight (s : State) (x : List (Nat × SerialSt)) : (s.setSerials x).latFlight = s.latFlight := rfl
@[simp] theorem State.setSerials_cut (s : State) (x : List (Nat × SerialSt)) : (s.setSerials x).cut = s.cut := rfl
@[simp] theorem State.setSerials_laneTest (s : State) (x : List (Nat × SerialSt)) : (s.setSerials x).laneTest = s.laneTest := rfl
@[simp] theorem State.setSerials_gafQueue (s : State) (x : List (Nat × SerialSt)) : (s.setSerials x).gafQueue = s.gafQueue := rfl
@[simp] theorem State.setSerials_starts (s : State) (x : List (Nat × SerialSt)) : (s.setSerials x).starts = s.starts := rfl
@[simp] theorem State.setSerials_zoneLast (s : State) (x : List (Nat × SerialSt)) : (s.setSerials x).zoneLast = s.zoneLast := rfl
@[simp] theorem State.setSerials_slateOut (s : State) (x : List (Nat × SerialSt)) : (s.setSerials x).slateOut = s.slateOut := rfl
@[simp] theorem State.setSerials_engIn (s : State) (x : List (Nat × SerialSt)) : (s.setSerials x).engIn = s.engIn := rfl
@[simp] theorem State.setSerials_engTrigs (s : State) (x : List (Nat × SerialSt)) : (s.setSerials x).engTrigs = s.engTrigs := rfl
@[simp] theorem State.setSerials_engNeg (s : State) (x : List (Nat × SerialSt)) : (s.setSerials x).engNeg = s.engNeg := rfl
@[simp] theorem State.setSerials_reelQ (s : State) (x : List (Nat × SerialSt)) : (s.setSerials x).reelQ = s.reelQ := rfl
@[simp] theorem State.setSerials_xfer (s : State) (x : List (Nat × SerialSt)) : (s.setSerials x).xfer = s.xfer := rfl
@[simp] theorem State.setSerials_patrol (s : State) (x : List (Nat × SerialSt)) : (s.setSerials x).patrol = s.patrol := rfl
@[simp] theorem State.setSerials_ddrCap (s : State) (x : List (Nat × SerialSt)) : (s.setSerials x).ddrCap = s.ddrCap := rfl
@[simp] theorem State.setSerials_flash (s : State) (x : List (Nat × SerialSt)) : (s.setSerials x).flash = s.flash := rfl
@[simp] theorem State.setSerials_recs (s : State) (x : List (Nat × SerialSt)) : (s.setSerials x).recs = s.recs := rfl
@[simp] theorem State.setSerials_ctu (s : State) (x : List (Nat × SerialSt)) : (s.setSerials x).ctu = s.ctu := rfl
@[simp] theorem State.setSerials_image (s : State) (x : List (Nat × SerialSt)) : (s.setSerials x).image = s.image := rfl
@[simp] theorem State.setSerials_gaf (s : State) (x : List (Nat × SerialSt)) : (s.setSerials x).gaf = s.gaf := rfl
@[simp] theorem State.setSerials_power (s : State) (x : List (Nat × SerialSt)) : (s.setSerials x).power = s.power := rfl
@[simp] theorem State.setSerials_otp (s : State) (x : List (Nat × SerialSt)) : (s.setSerials x).otp = s.otp := rfl
@[simp] theorem State.setSerials_boot (s : State) (x : List (Nat × SerialSt)) : (s.setSerials x).boot = s.boot := rfl
@[simp] theorem State.setSerials_sec (s : State) (x : List (Nat × SerialSt)) : (s.setSerials x).sec = s.sec := rfl
@[simp] theorem State.setSerials_link (s : State) (x : List (Nat × SerialSt)) : (s.setSerials x).link = s.link := rfl
@[simp] theorem State.setSerials_rushes (s : State) (x : List (Nat × SerialSt)) : (s.setSerials x).rushes = s.rushes := rfl
@[simp] theorem State.setSerials_sets (s : State) (x : List (Nat × SerialSt)) : (s.setSerials x).sets = s.sets := rfl
@[simp] theorem State.setSerials_cmps (s : State) (x : List (Nat × SerialSt)) : (s.setSerials x).cmps = s.cmps := rfl
@[simp] theorem State.setSerials_sessions (s : State) (x : List (Nat × SerialSt)) : (s.setSerials x).sessions = s.sessions := rfl
@[simp] theorem State.setSerials_feedback (s : State) (x : List (Nat × SerialSt)) : (s.setSerials x).feedback = s.feedback := rfl
@[simp] theorem State.setSerials_emus (s : State) (x : List (Nat × SerialSt)) : (s.setSerials x).emus = s.emus := rfl
@[simp] theorem State.setSerials_ports (s : State) (x : List (Nat × SerialSt)) : (s.setSerials x).ports = s.ports := rfl
@[simp] theorem State.setSerials_engines (s : State) (x : List (Nat × SerialSt)) : (s.setSerials x).engines = s.engines := rfl
@[simp] theorem State.setSerials_reels (s : State) (x : List (Nat × SerialSt)) : (s.setSerials x).reels = s.reels := rfl
@[simp] theorem State.setSerials_banks (s : State) (x : List (Nat × SerialSt)) : (s.setSerials x).banks = s.banks := rfl
@[simp] theorem State.setSerials_dmas (s : State) (x : List (Nat × SerialSt)) : (s.setSerials x).dmas = s.dmas := rfl
@[simp] theorem State.setSerials_cores (s : State) (x : List (Nat × SerialSt)) : (s.setSerials x).cores = s.cores := rfl
@[simp] theorem State.setSerials_serials (s : State) (x : List (Nat × SerialSt)) : (s.setSerials x).serials = x := rfl
@[simp] theorem State.setSerials_free (s : State) (x : List (Nat × SerialSt)) : (s.setSerials x).free = s.free := rfl
@[simp] theorem State.setSerials_pending (s : State) (x : List (Nat × SerialSt)) : (s.setSerials x).pending = s.pending := rfl
@[simp] theorem State.setFree_now (s : State) (x : Nat) : (s.setFree x).now = s.now := rfl
@[simp] theorem State.setFree_tcRun (s : State) (x : Nat) : (s.setFree x).tcRun = s.tcRun := rfl
@[simp] theorem State.setFree_tcSaved (s : State) (x : Nat) : (s.setFree x).tcSaved = s.tcSaved := rfl
@[simp] theorem State.setFree_syncWait (s : State) (x : Nat) : (s.setFree x).syncWait = s.syncWait := rfl
@[simp] theorem State.setFree_fields (s : State) (x : Nat) : (s.setFree x).fields = s.fields := rfl
@[simp] theorem State.setFree_mem (s : State) (x : Nat) : (s.setFree x).mem = s.mem := rfl
@[simp] theorem State.setFree_marks (s : State) (x : Nat) : (s.setFree x).marks = s.marks := rfl
@[simp] theorem State.setFree_bus (s : State) (x : Nat) : (s.setFree x).bus = s.bus := rfl
@[simp] theorem State.setFree_held (s : State) (x : Nat) : (s.setFree x).held = s.held := rfl
@[simp] theorem State.setFree_events (s : State) (x : Nat) : (s.setFree x).events = s.events := rfl
@[simp] theorem State.setFree_reports (s : State) (x : Nat) : (s.setFree x).reports = s.reports := rfl
@[simp] theorem State.setFree_trigAt (s : State) (x : Nat) : (s.setFree x).trigAt = s.trigAt := rfl
@[simp] theorem State.setFree_trim (s : State) (x : Nat) : (s.setFree x).trim = s.trim := rfl
@[simp] theorem State.setFree_calGen (s : State) (x : Nat) : (s.setFree x).calGen = s.calGen := rfl
@[simp] theorem State.setFree_calEnd (s : State) (x : Nat) : (s.setFree x).calEnd = s.calEnd := rfl
@[simp] theorem State.setFree_portWrites (s : State) (x : Nat) : (s.setFree x).portWrites = s.portWrites := rfl
@[simp] theorem State.setFree_latFlight (s : State) (x : Nat) : (s.setFree x).latFlight = s.latFlight := rfl
@[simp] theorem State.setFree_cut (s : State) (x : Nat) : (s.setFree x).cut = s.cut := rfl
@[simp] theorem State.setFree_laneTest (s : State) (x : Nat) : (s.setFree x).laneTest = s.laneTest := rfl
@[simp] theorem State.setFree_gafQueue (s : State) (x : Nat) : (s.setFree x).gafQueue = s.gafQueue := rfl
@[simp] theorem State.setFree_starts (s : State) (x : Nat) : (s.setFree x).starts = s.starts := rfl
@[simp] theorem State.setFree_zoneLast (s : State) (x : Nat) : (s.setFree x).zoneLast = s.zoneLast := rfl
@[simp] theorem State.setFree_slateOut (s : State) (x : Nat) : (s.setFree x).slateOut = s.slateOut := rfl
@[simp] theorem State.setFree_engIn (s : State) (x : Nat) : (s.setFree x).engIn = s.engIn := rfl
@[simp] theorem State.setFree_engTrigs (s : State) (x : Nat) : (s.setFree x).engTrigs = s.engTrigs := rfl
@[simp] theorem State.setFree_engNeg (s : State) (x : Nat) : (s.setFree x).engNeg = s.engNeg := rfl
@[simp] theorem State.setFree_reelQ (s : State) (x : Nat) : (s.setFree x).reelQ = s.reelQ := rfl
@[simp] theorem State.setFree_xfer (s : State) (x : Nat) : (s.setFree x).xfer = s.xfer := rfl
@[simp] theorem State.setFree_patrol (s : State) (x : Nat) : (s.setFree x).patrol = s.patrol := rfl
@[simp] theorem State.setFree_ddrCap (s : State) (x : Nat) : (s.setFree x).ddrCap = s.ddrCap := rfl
@[simp] theorem State.setFree_flash (s : State) (x : Nat) : (s.setFree x).flash = s.flash := rfl
@[simp] theorem State.setFree_recs (s : State) (x : Nat) : (s.setFree x).recs = s.recs := rfl
@[simp] theorem State.setFree_ctu (s : State) (x : Nat) : (s.setFree x).ctu = s.ctu := rfl
@[simp] theorem State.setFree_image (s : State) (x : Nat) : (s.setFree x).image = s.image := rfl
@[simp] theorem State.setFree_gaf (s : State) (x : Nat) : (s.setFree x).gaf = s.gaf := rfl
@[simp] theorem State.setFree_power (s : State) (x : Nat) : (s.setFree x).power = s.power := rfl
@[simp] theorem State.setFree_otp (s : State) (x : Nat) : (s.setFree x).otp = s.otp := rfl
@[simp] theorem State.setFree_boot (s : State) (x : Nat) : (s.setFree x).boot = s.boot := rfl
@[simp] theorem State.setFree_sec (s : State) (x : Nat) : (s.setFree x).sec = s.sec := rfl
@[simp] theorem State.setFree_link (s : State) (x : Nat) : (s.setFree x).link = s.link := rfl
@[simp] theorem State.setFree_rushes (s : State) (x : Nat) : (s.setFree x).rushes = s.rushes := rfl
@[simp] theorem State.setFree_sets (s : State) (x : Nat) : (s.setFree x).sets = s.sets := rfl
@[simp] theorem State.setFree_cmps (s : State) (x : Nat) : (s.setFree x).cmps = s.cmps := rfl
@[simp] theorem State.setFree_sessions (s : State) (x : Nat) : (s.setFree x).sessions = s.sessions := rfl
@[simp] theorem State.setFree_feedback (s : State) (x : Nat) : (s.setFree x).feedback = s.feedback := rfl
@[simp] theorem State.setFree_emus (s : State) (x : Nat) : (s.setFree x).emus = s.emus := rfl
@[simp] theorem State.setFree_ports (s : State) (x : Nat) : (s.setFree x).ports = s.ports := rfl
@[simp] theorem State.setFree_engines (s : State) (x : Nat) : (s.setFree x).engines = s.engines := rfl
@[simp] theorem State.setFree_reels (s : State) (x : Nat) : (s.setFree x).reels = s.reels := rfl
@[simp] theorem State.setFree_banks (s : State) (x : Nat) : (s.setFree x).banks = s.banks := rfl
@[simp] theorem State.setFree_dmas (s : State) (x : Nat) : (s.setFree x).dmas = s.dmas := rfl
@[simp] theorem State.setFree_cores (s : State) (x : Nat) : (s.setFree x).cores = s.cores := rfl
@[simp] theorem State.setFree_serials (s : State) (x : Nat) : (s.setFree x).serials = s.serials := rfl
@[simp] theorem State.setFree_free (s : State) (x : Nat) : (s.setFree x).free = x := rfl
@[simp] theorem State.setFree_pending (s : State) (x : Nat) : (s.setFree x).pending = s.pending := rfl
@[simp] theorem State.setPending_now (s : State) (x : List Instr) : (s.setPending x).now = s.now := rfl
@[simp] theorem State.setPending_tcRun (s : State) (x : List Instr) : (s.setPending x).tcRun = s.tcRun := rfl
@[simp] theorem State.setPending_tcSaved (s : State) (x : List Instr) : (s.setPending x).tcSaved = s.tcSaved := rfl
@[simp] theorem State.setPending_syncWait (s : State) (x : List Instr) : (s.setPending x).syncWait = s.syncWait := rfl
@[simp] theorem State.setPending_fields (s : State) (x : List Instr) : (s.setPending x).fields = s.fields := rfl
@[simp] theorem State.setPending_mem (s : State) (x : List Instr) : (s.setPending x).mem = s.mem := rfl
@[simp] theorem State.setPending_marks (s : State) (x : List Instr) : (s.setPending x).marks = s.marks := rfl
@[simp] theorem State.setPending_bus (s : State) (x : List Instr) : (s.setPending x).bus = s.bus := rfl
@[simp] theorem State.setPending_held (s : State) (x : List Instr) : (s.setPending x).held = s.held := rfl
@[simp] theorem State.setPending_events (s : State) (x : List Instr) : (s.setPending x).events = s.events := rfl
@[simp] theorem State.setPending_reports (s : State) (x : List Instr) : (s.setPending x).reports = s.reports := rfl
@[simp] theorem State.setPending_trigAt (s : State) (x : List Instr) : (s.setPending x).trigAt = s.trigAt := rfl
@[simp] theorem State.setPending_trim (s : State) (x : List Instr) : (s.setPending x).trim = s.trim := rfl
@[simp] theorem State.setPending_calGen (s : State) (x : List Instr) : (s.setPending x).calGen = s.calGen := rfl
@[simp] theorem State.setPending_calEnd (s : State) (x : List Instr) : (s.setPending x).calEnd = s.calEnd := rfl
@[simp] theorem State.setPending_portWrites (s : State) (x : List Instr) : (s.setPending x).portWrites = s.portWrites := rfl
@[simp] theorem State.setPending_latFlight (s : State) (x : List Instr) : (s.setPending x).latFlight = s.latFlight := rfl
@[simp] theorem State.setPending_cut (s : State) (x : List Instr) : (s.setPending x).cut = s.cut := rfl
@[simp] theorem State.setPending_laneTest (s : State) (x : List Instr) : (s.setPending x).laneTest = s.laneTest := rfl
@[simp] theorem State.setPending_gafQueue (s : State) (x : List Instr) : (s.setPending x).gafQueue = s.gafQueue := rfl
@[simp] theorem State.setPending_starts (s : State) (x : List Instr) : (s.setPending x).starts = s.starts := rfl
@[simp] theorem State.setPending_zoneLast (s : State) (x : List Instr) : (s.setPending x).zoneLast = s.zoneLast := rfl
@[simp] theorem State.setPending_slateOut (s : State) (x : List Instr) : (s.setPending x).slateOut = s.slateOut := rfl
@[simp] theorem State.setPending_engIn (s : State) (x : List Instr) : (s.setPending x).engIn = s.engIn := rfl
@[simp] theorem State.setPending_engTrigs (s : State) (x : List Instr) : (s.setPending x).engTrigs = s.engTrigs := rfl
@[simp] theorem State.setPending_engNeg (s : State) (x : List Instr) : (s.setPending x).engNeg = s.engNeg := rfl
@[simp] theorem State.setPending_reelQ (s : State) (x : List Instr) : (s.setPending x).reelQ = s.reelQ := rfl
@[simp] theorem State.setPending_xfer (s : State) (x : List Instr) : (s.setPending x).xfer = s.xfer := rfl
@[simp] theorem State.setPending_patrol (s : State) (x : List Instr) : (s.setPending x).patrol = s.patrol := rfl
@[simp] theorem State.setPending_ddrCap (s : State) (x : List Instr) : (s.setPending x).ddrCap = s.ddrCap := rfl
@[simp] theorem State.setPending_flash (s : State) (x : List Instr) : (s.setPending x).flash = s.flash := rfl
@[simp] theorem State.setPending_recs (s : State) (x : List Instr) : (s.setPending x).recs = s.recs := rfl
@[simp] theorem State.setPending_ctu (s : State) (x : List Instr) : (s.setPending x).ctu = s.ctu := rfl
@[simp] theorem State.setPending_image (s : State) (x : List Instr) : (s.setPending x).image = s.image := rfl
@[simp] theorem State.setPending_gaf (s : State) (x : List Instr) : (s.setPending x).gaf = s.gaf := rfl
@[simp] theorem State.setPending_power (s : State) (x : List Instr) : (s.setPending x).power = s.power := rfl
@[simp] theorem State.setPending_otp (s : State) (x : List Instr) : (s.setPending x).otp = s.otp := rfl
@[simp] theorem State.setPending_boot (s : State) (x : List Instr) : (s.setPending x).boot = s.boot := rfl
@[simp] theorem State.setPending_sec (s : State) (x : List Instr) : (s.setPending x).sec = s.sec := rfl
@[simp] theorem State.setPending_link (s : State) (x : List Instr) : (s.setPending x).link = s.link := rfl
@[simp] theorem State.setPending_rushes (s : State) (x : List Instr) : (s.setPending x).rushes = s.rushes := rfl
@[simp] theorem State.setPending_sets (s : State) (x : List Instr) : (s.setPending x).sets = s.sets := rfl
@[simp] theorem State.setPending_cmps (s : State) (x : List Instr) : (s.setPending x).cmps = s.cmps := rfl
@[simp] theorem State.setPending_sessions (s : State) (x : List Instr) : (s.setPending x).sessions = s.sessions := rfl
@[simp] theorem State.setPending_feedback (s : State) (x : List Instr) : (s.setPending x).feedback = s.feedback := rfl
@[simp] theorem State.setPending_emus (s : State) (x : List Instr) : (s.setPending x).emus = s.emus := rfl
@[simp] theorem State.setPending_ports (s : State) (x : List Instr) : (s.setPending x).ports = s.ports := rfl
@[simp] theorem State.setPending_engines (s : State) (x : List Instr) : (s.setPending x).engines = s.engines := rfl
@[simp] theorem State.setPending_reels (s : State) (x : List Instr) : (s.setPending x).reels = s.reels := rfl
@[simp] theorem State.setPending_banks (s : State) (x : List Instr) : (s.setPending x).banks = s.banks := rfl
@[simp] theorem State.setPending_dmas (s : State) (x : List Instr) : (s.setPending x).dmas = s.dmas := rfl
@[simp] theorem State.setPending_cores (s : State) (x : List Instr) : (s.setPending x).cores = s.cores := rfl
@[simp] theorem State.setPending_serials (s : State) (x : List Instr) : (s.setPending x).serials = s.serials := rfl
@[simp] theorem State.setPending_free (s : State) (x : List Instr) : (s.setPending x).free = s.free := rfl
@[simp] theorem State.setPending_pending (s : State) (x : List Instr) : (s.setPending x).pending = x := rfl
@[simp] theorem State.rush_putRush_same (s : State) (k : Nat) (x : RushSt) : (s.putRush k x).rush k = x :=
  Tab.get_set_same _ _ _ _
theorem State.rush_putRush_ne (s : State) {k q : Nat} (x : RushSt) (h : k ≠ q) : (s.putRush k x).rush q = s.rush q :=
  Tab.get_set_ne _ _ _ h
@[simp] theorem State.putRush_now (s : State) (k : Nat) (x : RushSt) : (s.putRush k x).now = s.now := rfl
@[simp] theorem State.putRush_tcRun (s : State) (k : Nat) (x : RushSt) : (s.putRush k x).tcRun = s.tcRun := rfl
@[simp] theorem State.putRush_tcSaved (s : State) (k : Nat) (x : RushSt) : (s.putRush k x).tcSaved = s.tcSaved := rfl
@[simp] theorem State.putRush_syncWait (s : State) (k : Nat) (x : RushSt) : (s.putRush k x).syncWait = s.syncWait := rfl
@[simp] theorem State.putRush_fields (s : State) (k : Nat) (x : RushSt) : (s.putRush k x).fields = s.fields := rfl
@[simp] theorem State.putRush_mem (s : State) (k : Nat) (x : RushSt) : (s.putRush k x).mem = s.mem := rfl
@[simp] theorem State.putRush_marks (s : State) (k : Nat) (x : RushSt) : (s.putRush k x).marks = s.marks := rfl
@[simp] theorem State.putRush_bus (s : State) (k : Nat) (x : RushSt) : (s.putRush k x).bus = s.bus := rfl
@[simp] theorem State.putRush_held (s : State) (k : Nat) (x : RushSt) : (s.putRush k x).held = s.held := rfl
@[simp] theorem State.putRush_events (s : State) (k : Nat) (x : RushSt) : (s.putRush k x).events = s.events := rfl
@[simp] theorem State.putRush_reports (s : State) (k : Nat) (x : RushSt) : (s.putRush k x).reports = s.reports := rfl
@[simp] theorem State.putRush_trigAt (s : State) (k : Nat) (x : RushSt) : (s.putRush k x).trigAt = s.trigAt := rfl
@[simp] theorem State.putRush_trim (s : State) (k : Nat) (x : RushSt) : (s.putRush k x).trim = s.trim := rfl
@[simp] theorem State.putRush_calGen (s : State) (k : Nat) (x : RushSt) : (s.putRush k x).calGen = s.calGen := rfl
@[simp] theorem State.putRush_calEnd (s : State) (k : Nat) (x : RushSt) : (s.putRush k x).calEnd = s.calEnd := rfl
@[simp] theorem State.putRush_portWrites (s : State) (k : Nat) (x : RushSt) : (s.putRush k x).portWrites = s.portWrites := rfl
@[simp] theorem State.putRush_latFlight (s : State) (k : Nat) (x : RushSt) : (s.putRush k x).latFlight = s.latFlight := rfl
@[simp] theorem State.putRush_cut (s : State) (k : Nat) (x : RushSt) : (s.putRush k x).cut = s.cut := rfl
@[simp] theorem State.putRush_laneTest (s : State) (k : Nat) (x : RushSt) : (s.putRush k x).laneTest = s.laneTest := rfl
@[simp] theorem State.putRush_gafQueue (s : State) (k : Nat) (x : RushSt) : (s.putRush k x).gafQueue = s.gafQueue := rfl
@[simp] theorem State.putRush_starts (s : State) (k : Nat) (x : RushSt) : (s.putRush k x).starts = s.starts := rfl
@[simp] theorem State.putRush_zoneLast (s : State) (k : Nat) (x : RushSt) : (s.putRush k x).zoneLast = s.zoneLast := rfl
@[simp] theorem State.putRush_slateOut (s : State) (k : Nat) (x : RushSt) : (s.putRush k x).slateOut = s.slateOut := rfl
@[simp] theorem State.putRush_engIn (s : State) (k : Nat) (x : RushSt) : (s.putRush k x).engIn = s.engIn := rfl
@[simp] theorem State.putRush_engTrigs (s : State) (k : Nat) (x : RushSt) : (s.putRush k x).engTrigs = s.engTrigs := rfl
@[simp] theorem State.putRush_engNeg (s : State) (k : Nat) (x : RushSt) : (s.putRush k x).engNeg = s.engNeg := rfl
@[simp] theorem State.putRush_reelQ (s : State) (k : Nat) (x : RushSt) : (s.putRush k x).reelQ = s.reelQ := rfl
@[simp] theorem State.putRush_xfer (s : State) (k : Nat) (x : RushSt) : (s.putRush k x).xfer = s.xfer := rfl
@[simp] theorem State.putRush_patrol (s : State) (k : Nat) (x : RushSt) : (s.putRush k x).patrol = s.patrol := rfl
@[simp] theorem State.putRush_ddrCap (s : State) (k : Nat) (x : RushSt) : (s.putRush k x).ddrCap = s.ddrCap := rfl
@[simp] theorem State.putRush_flash (s : State) (k : Nat) (x : RushSt) : (s.putRush k x).flash = s.flash := rfl
@[simp] theorem State.putRush_recs (s : State) (k : Nat) (x : RushSt) : (s.putRush k x).recs = s.recs := rfl
@[simp] theorem State.putRush_ctu (s : State) (k : Nat) (x : RushSt) : (s.putRush k x).ctu = s.ctu := rfl
@[simp] theorem State.putRush_image (s : State) (k : Nat) (x : RushSt) : (s.putRush k x).image = s.image := rfl
@[simp] theorem State.putRush_gaf (s : State) (k : Nat) (x : RushSt) : (s.putRush k x).gaf = s.gaf := rfl
@[simp] theorem State.putRush_power (s : State) (k : Nat) (x : RushSt) : (s.putRush k x).power = s.power := rfl
@[simp] theorem State.putRush_otp (s : State) (k : Nat) (x : RushSt) : (s.putRush k x).otp = s.otp := rfl
@[simp] theorem State.putRush_boot (s : State) (k : Nat) (x : RushSt) : (s.putRush k x).boot = s.boot := rfl
@[simp] theorem State.putRush_sec (s : State) (k : Nat) (x : RushSt) : (s.putRush k x).sec = s.sec := rfl
@[simp] theorem State.putRush_link (s : State) (k : Nat) (x : RushSt) : (s.putRush k x).link = s.link := rfl
@[simp] theorem State.putRush_sets (s : State) (k : Nat) (x : RushSt) : (s.putRush k x).sets = s.sets := rfl
@[simp] theorem State.putRush_cmps (s : State) (k : Nat) (x : RushSt) : (s.putRush k x).cmps = s.cmps := rfl
@[simp] theorem State.putRush_sessions (s : State) (k : Nat) (x : RushSt) : (s.putRush k x).sessions = s.sessions := rfl
@[simp] theorem State.putRush_feedback (s : State) (k : Nat) (x : RushSt) : (s.putRush k x).feedback = s.feedback := rfl
@[simp] theorem State.putRush_emus (s : State) (k : Nat) (x : RushSt) : (s.putRush k x).emus = s.emus := rfl
@[simp] theorem State.putRush_ports (s : State) (k : Nat) (x : RushSt) : (s.putRush k x).ports = s.ports := rfl
@[simp] theorem State.putRush_engines (s : State) (k : Nat) (x : RushSt) : (s.putRush k x).engines = s.engines := rfl
@[simp] theorem State.putRush_reels (s : State) (k : Nat) (x : RushSt) : (s.putRush k x).reels = s.reels := rfl
@[simp] theorem State.putRush_banks (s : State) (k : Nat) (x : RushSt) : (s.putRush k x).banks = s.banks := rfl
@[simp] theorem State.putRush_dmas (s : State) (k : Nat) (x : RushSt) : (s.putRush k x).dmas = s.dmas := rfl
@[simp] theorem State.putRush_cores (s : State) (k : Nat) (x : RushSt) : (s.putRush k x).cores = s.cores := rfl
@[simp] theorem State.putRush_serials (s : State) (k : Nat) (x : RushSt) : (s.putRush k x).serials = s.serials := rfl
@[simp] theorem State.putRush_free (s : State) (k : Nat) (x : RushSt) : (s.putRush k x).free = s.free := rfl
@[simp] theorem State.putRush_pending (s : State) (k : Nat) (x : RushSt) : (s.putRush k x).pending = s.pending := rfl
@[simp] theorem State.sampSet_putRush (s : State) (k q : Nat) (x : RushSt) : (s.putRush k x).sampSet q = s.sampSet q := rfl
@[simp] theorem State.cmp_putRush (s : State) (k q : Nat) (x : RushSt) : (s.putRush k x).cmp q = s.cmp q := rfl
@[simp] theorem State.session_putRush (s : State) (k q : Nat) (x : RushSt) : (s.putRush k x).session q = s.session q := rfl
@[simp] theorem State.pf_putRush (s : State) (k q : Nat) (x : RushSt) : (s.putRush k x).pf q = s.pf q := rfl
@[simp] theorem State.emu_putRush (s : State) (k q : Nat) (x : RushSt) : (s.putRush k x).emu q = s.emu q := rfl
@[simp] theorem State.port_putRush (s : State) (k q : Nat) (x : RushSt) : (s.putRush k x).port q = s.port q := rfl
@[simp] theorem State.eng_putRush (s : State) (k q : Nat) (x : RushSt) : (s.putRush k x).eng q = s.eng q := rfl
@[simp] theorem State.reel_putRush (s : State) (k q : Nat) (x : RushSt) : (s.putRush k x).reel q = s.reel q := rfl
@[simp] theorem State.bank_putRush (s : State) (k q : Nat) (x : RushSt) : (s.putRush k x).bank q = s.bank q := rfl
@[simp] theorem State.dma_putRush (s : State) (k q : Nat) (x : RushSt) : (s.putRush k x).dma q = s.dma q := rfl
@[simp] theorem State.core_putRush (s : State) (k q : Nat) (x : RushSt) : (s.putRush k x).core q = s.core q := rfl
@[simp] theorem State.serial_putRush (s : State) (k q : Nat) (x : RushSt) : (s.putRush k x).serial q = s.serial q := rfl
@[simp] theorem State.sampSet_putSampSet_same (s : State) (k : Nat) (x : SetSt) : (s.putSampSet k x).sampSet k = x :=
  Tab.get_set_same _ _ _ _
theorem State.sampSet_putSampSet_ne (s : State) {k q : Nat} (x : SetSt) (h : k ≠ q) : (s.putSampSet k x).sampSet q = s.sampSet q :=
  Tab.get_set_ne _ _ _ h
@[simp] theorem State.putSampSet_now (s : State) (k : Nat) (x : SetSt) : (s.putSampSet k x).now = s.now := rfl
@[simp] theorem State.putSampSet_tcRun (s : State) (k : Nat) (x : SetSt) : (s.putSampSet k x).tcRun = s.tcRun := rfl
@[simp] theorem State.putSampSet_tcSaved (s : State) (k : Nat) (x : SetSt) : (s.putSampSet k x).tcSaved = s.tcSaved := rfl
@[simp] theorem State.putSampSet_syncWait (s : State) (k : Nat) (x : SetSt) : (s.putSampSet k x).syncWait = s.syncWait := rfl
@[simp] theorem State.putSampSet_fields (s : State) (k : Nat) (x : SetSt) : (s.putSampSet k x).fields = s.fields := rfl
@[simp] theorem State.putSampSet_mem (s : State) (k : Nat) (x : SetSt) : (s.putSampSet k x).mem = s.mem := rfl
@[simp] theorem State.putSampSet_marks (s : State) (k : Nat) (x : SetSt) : (s.putSampSet k x).marks = s.marks := rfl
@[simp] theorem State.putSampSet_bus (s : State) (k : Nat) (x : SetSt) : (s.putSampSet k x).bus = s.bus := rfl
@[simp] theorem State.putSampSet_held (s : State) (k : Nat) (x : SetSt) : (s.putSampSet k x).held = s.held := rfl
@[simp] theorem State.putSampSet_events (s : State) (k : Nat) (x : SetSt) : (s.putSampSet k x).events = s.events := rfl
@[simp] theorem State.putSampSet_reports (s : State) (k : Nat) (x : SetSt) : (s.putSampSet k x).reports = s.reports := rfl
@[simp] theorem State.putSampSet_trigAt (s : State) (k : Nat) (x : SetSt) : (s.putSampSet k x).trigAt = s.trigAt := rfl
@[simp] theorem State.putSampSet_trim (s : State) (k : Nat) (x : SetSt) : (s.putSampSet k x).trim = s.trim := rfl
@[simp] theorem State.putSampSet_calGen (s : State) (k : Nat) (x : SetSt) : (s.putSampSet k x).calGen = s.calGen := rfl
@[simp] theorem State.putSampSet_calEnd (s : State) (k : Nat) (x : SetSt) : (s.putSampSet k x).calEnd = s.calEnd := rfl
@[simp] theorem State.putSampSet_portWrites (s : State) (k : Nat) (x : SetSt) : (s.putSampSet k x).portWrites = s.portWrites := rfl
@[simp] theorem State.putSampSet_latFlight (s : State) (k : Nat) (x : SetSt) : (s.putSampSet k x).latFlight = s.latFlight := rfl
@[simp] theorem State.putSampSet_cut (s : State) (k : Nat) (x : SetSt) : (s.putSampSet k x).cut = s.cut := rfl
@[simp] theorem State.putSampSet_laneTest (s : State) (k : Nat) (x : SetSt) : (s.putSampSet k x).laneTest = s.laneTest := rfl
@[simp] theorem State.putSampSet_gafQueue (s : State) (k : Nat) (x : SetSt) : (s.putSampSet k x).gafQueue = s.gafQueue := rfl
@[simp] theorem State.putSampSet_starts (s : State) (k : Nat) (x : SetSt) : (s.putSampSet k x).starts = s.starts := rfl
@[simp] theorem State.putSampSet_zoneLast (s : State) (k : Nat) (x : SetSt) : (s.putSampSet k x).zoneLast = s.zoneLast := rfl
@[simp] theorem State.putSampSet_slateOut (s : State) (k : Nat) (x : SetSt) : (s.putSampSet k x).slateOut = s.slateOut := rfl
@[simp] theorem State.putSampSet_engIn (s : State) (k : Nat) (x : SetSt) : (s.putSampSet k x).engIn = s.engIn := rfl
@[simp] theorem State.putSampSet_engTrigs (s : State) (k : Nat) (x : SetSt) : (s.putSampSet k x).engTrigs = s.engTrigs := rfl
@[simp] theorem State.putSampSet_engNeg (s : State) (k : Nat) (x : SetSt) : (s.putSampSet k x).engNeg = s.engNeg := rfl
@[simp] theorem State.putSampSet_reelQ (s : State) (k : Nat) (x : SetSt) : (s.putSampSet k x).reelQ = s.reelQ := rfl
@[simp] theorem State.putSampSet_xfer (s : State) (k : Nat) (x : SetSt) : (s.putSampSet k x).xfer = s.xfer := rfl
@[simp] theorem State.putSampSet_patrol (s : State) (k : Nat) (x : SetSt) : (s.putSampSet k x).patrol = s.patrol := rfl
@[simp] theorem State.putSampSet_ddrCap (s : State) (k : Nat) (x : SetSt) : (s.putSampSet k x).ddrCap = s.ddrCap := rfl
@[simp] theorem State.putSampSet_flash (s : State) (k : Nat) (x : SetSt) : (s.putSampSet k x).flash = s.flash := rfl
@[simp] theorem State.putSampSet_recs (s : State) (k : Nat) (x : SetSt) : (s.putSampSet k x).recs = s.recs := rfl
@[simp] theorem State.putSampSet_ctu (s : State) (k : Nat) (x : SetSt) : (s.putSampSet k x).ctu = s.ctu := rfl
@[simp] theorem State.putSampSet_image (s : State) (k : Nat) (x : SetSt) : (s.putSampSet k x).image = s.image := rfl
@[simp] theorem State.putSampSet_gaf (s : State) (k : Nat) (x : SetSt) : (s.putSampSet k x).gaf = s.gaf := rfl
@[simp] theorem State.putSampSet_power (s : State) (k : Nat) (x : SetSt) : (s.putSampSet k x).power = s.power := rfl
@[simp] theorem State.putSampSet_otp (s : State) (k : Nat) (x : SetSt) : (s.putSampSet k x).otp = s.otp := rfl
@[simp] theorem State.putSampSet_boot (s : State) (k : Nat) (x : SetSt) : (s.putSampSet k x).boot = s.boot := rfl
@[simp] theorem State.putSampSet_sec (s : State) (k : Nat) (x : SetSt) : (s.putSampSet k x).sec = s.sec := rfl
@[simp] theorem State.putSampSet_link (s : State) (k : Nat) (x : SetSt) : (s.putSampSet k x).link = s.link := rfl
@[simp] theorem State.putSampSet_rushes (s : State) (k : Nat) (x : SetSt) : (s.putSampSet k x).rushes = s.rushes := rfl
@[simp] theorem State.putSampSet_cmps (s : State) (k : Nat) (x : SetSt) : (s.putSampSet k x).cmps = s.cmps := rfl
@[simp] theorem State.putSampSet_sessions (s : State) (k : Nat) (x : SetSt) : (s.putSampSet k x).sessions = s.sessions := rfl
@[simp] theorem State.putSampSet_feedback (s : State) (k : Nat) (x : SetSt) : (s.putSampSet k x).feedback = s.feedback := rfl
@[simp] theorem State.putSampSet_emus (s : State) (k : Nat) (x : SetSt) : (s.putSampSet k x).emus = s.emus := rfl
@[simp] theorem State.putSampSet_ports (s : State) (k : Nat) (x : SetSt) : (s.putSampSet k x).ports = s.ports := rfl
@[simp] theorem State.putSampSet_engines (s : State) (k : Nat) (x : SetSt) : (s.putSampSet k x).engines = s.engines := rfl
@[simp] theorem State.putSampSet_reels (s : State) (k : Nat) (x : SetSt) : (s.putSampSet k x).reels = s.reels := rfl
@[simp] theorem State.putSampSet_banks (s : State) (k : Nat) (x : SetSt) : (s.putSampSet k x).banks = s.banks := rfl
@[simp] theorem State.putSampSet_dmas (s : State) (k : Nat) (x : SetSt) : (s.putSampSet k x).dmas = s.dmas := rfl
@[simp] theorem State.putSampSet_cores (s : State) (k : Nat) (x : SetSt) : (s.putSampSet k x).cores = s.cores := rfl
@[simp] theorem State.putSampSet_serials (s : State) (k : Nat) (x : SetSt) : (s.putSampSet k x).serials = s.serials := rfl
@[simp] theorem State.putSampSet_free (s : State) (k : Nat) (x : SetSt) : (s.putSampSet k x).free = s.free := rfl
@[simp] theorem State.putSampSet_pending (s : State) (k : Nat) (x : SetSt) : (s.putSampSet k x).pending = s.pending := rfl
@[simp] theorem State.rush_putSampSet (s : State) (k q : Nat) (x : SetSt) : (s.putSampSet k x).rush q = s.rush q := rfl
@[simp] theorem State.cmp_putSampSet (s : State) (k q : Nat) (x : SetSt) : (s.putSampSet k x).cmp q = s.cmp q := rfl
@[simp] theorem State.session_putSampSet (s : State) (k q : Nat) (x : SetSt) : (s.putSampSet k x).session q = s.session q := rfl
@[simp] theorem State.pf_putSampSet (s : State) (k q : Nat) (x : SetSt) : (s.putSampSet k x).pf q = s.pf q := rfl
@[simp] theorem State.emu_putSampSet (s : State) (k q : Nat) (x : SetSt) : (s.putSampSet k x).emu q = s.emu q := rfl
@[simp] theorem State.port_putSampSet (s : State) (k q : Nat) (x : SetSt) : (s.putSampSet k x).port q = s.port q := rfl
@[simp] theorem State.eng_putSampSet (s : State) (k q : Nat) (x : SetSt) : (s.putSampSet k x).eng q = s.eng q := rfl
@[simp] theorem State.reel_putSampSet (s : State) (k q : Nat) (x : SetSt) : (s.putSampSet k x).reel q = s.reel q := rfl
@[simp] theorem State.bank_putSampSet (s : State) (k q : Nat) (x : SetSt) : (s.putSampSet k x).bank q = s.bank q := rfl
@[simp] theorem State.dma_putSampSet (s : State) (k q : Nat) (x : SetSt) : (s.putSampSet k x).dma q = s.dma q := rfl
@[simp] theorem State.core_putSampSet (s : State) (k q : Nat) (x : SetSt) : (s.putSampSet k x).core q = s.core q := rfl
@[simp] theorem State.serial_putSampSet (s : State) (k q : Nat) (x : SetSt) : (s.putSampSet k x).serial q = s.serial q := rfl
@[simp] theorem State.cmp_putCmp_same (s : State) (k : Nat) (x : CmpSt) : (s.putCmp k x).cmp k = x :=
  Tab.get_set_same _ _ _ _
theorem State.cmp_putCmp_ne (s : State) {k q : Nat} (x : CmpSt) (h : k ≠ q) : (s.putCmp k x).cmp q = s.cmp q :=
  Tab.get_set_ne _ _ _ h
@[simp] theorem State.putCmp_now (s : State) (k : Nat) (x : CmpSt) : (s.putCmp k x).now = s.now := rfl
@[simp] theorem State.putCmp_tcRun (s : State) (k : Nat) (x : CmpSt) : (s.putCmp k x).tcRun = s.tcRun := rfl
@[simp] theorem State.putCmp_tcSaved (s : State) (k : Nat) (x : CmpSt) : (s.putCmp k x).tcSaved = s.tcSaved := rfl
@[simp] theorem State.putCmp_syncWait (s : State) (k : Nat) (x : CmpSt) : (s.putCmp k x).syncWait = s.syncWait := rfl
@[simp] theorem State.putCmp_fields (s : State) (k : Nat) (x : CmpSt) : (s.putCmp k x).fields = s.fields := rfl
@[simp] theorem State.putCmp_mem (s : State) (k : Nat) (x : CmpSt) : (s.putCmp k x).mem = s.mem := rfl
@[simp] theorem State.putCmp_marks (s : State) (k : Nat) (x : CmpSt) : (s.putCmp k x).marks = s.marks := rfl
@[simp] theorem State.putCmp_bus (s : State) (k : Nat) (x : CmpSt) : (s.putCmp k x).bus = s.bus := rfl
@[simp] theorem State.putCmp_held (s : State) (k : Nat) (x : CmpSt) : (s.putCmp k x).held = s.held := rfl
@[simp] theorem State.putCmp_events (s : State) (k : Nat) (x : CmpSt) : (s.putCmp k x).events = s.events := rfl
@[simp] theorem State.putCmp_reports (s : State) (k : Nat) (x : CmpSt) : (s.putCmp k x).reports = s.reports := rfl
@[simp] theorem State.putCmp_trigAt (s : State) (k : Nat) (x : CmpSt) : (s.putCmp k x).trigAt = s.trigAt := rfl
@[simp] theorem State.putCmp_trim (s : State) (k : Nat) (x : CmpSt) : (s.putCmp k x).trim = s.trim := rfl
@[simp] theorem State.putCmp_calGen (s : State) (k : Nat) (x : CmpSt) : (s.putCmp k x).calGen = s.calGen := rfl
@[simp] theorem State.putCmp_calEnd (s : State) (k : Nat) (x : CmpSt) : (s.putCmp k x).calEnd = s.calEnd := rfl
@[simp] theorem State.putCmp_portWrites (s : State) (k : Nat) (x : CmpSt) : (s.putCmp k x).portWrites = s.portWrites := rfl
@[simp] theorem State.putCmp_latFlight (s : State) (k : Nat) (x : CmpSt) : (s.putCmp k x).latFlight = s.latFlight := rfl
@[simp] theorem State.putCmp_cut (s : State) (k : Nat) (x : CmpSt) : (s.putCmp k x).cut = s.cut := rfl
@[simp] theorem State.putCmp_laneTest (s : State) (k : Nat) (x : CmpSt) : (s.putCmp k x).laneTest = s.laneTest := rfl
@[simp] theorem State.putCmp_gafQueue (s : State) (k : Nat) (x : CmpSt) : (s.putCmp k x).gafQueue = s.gafQueue := rfl
@[simp] theorem State.putCmp_starts (s : State) (k : Nat) (x : CmpSt) : (s.putCmp k x).starts = s.starts := rfl
@[simp] theorem State.putCmp_zoneLast (s : State) (k : Nat) (x : CmpSt) : (s.putCmp k x).zoneLast = s.zoneLast := rfl
@[simp] theorem State.putCmp_slateOut (s : State) (k : Nat) (x : CmpSt) : (s.putCmp k x).slateOut = s.slateOut := rfl
@[simp] theorem State.putCmp_engIn (s : State) (k : Nat) (x : CmpSt) : (s.putCmp k x).engIn = s.engIn := rfl
@[simp] theorem State.putCmp_engTrigs (s : State) (k : Nat) (x : CmpSt) : (s.putCmp k x).engTrigs = s.engTrigs := rfl
@[simp] theorem State.putCmp_engNeg (s : State) (k : Nat) (x : CmpSt) : (s.putCmp k x).engNeg = s.engNeg := rfl
@[simp] theorem State.putCmp_reelQ (s : State) (k : Nat) (x : CmpSt) : (s.putCmp k x).reelQ = s.reelQ := rfl
@[simp] theorem State.putCmp_xfer (s : State) (k : Nat) (x : CmpSt) : (s.putCmp k x).xfer = s.xfer := rfl
@[simp] theorem State.putCmp_patrol (s : State) (k : Nat) (x : CmpSt) : (s.putCmp k x).patrol = s.patrol := rfl
@[simp] theorem State.putCmp_ddrCap (s : State) (k : Nat) (x : CmpSt) : (s.putCmp k x).ddrCap = s.ddrCap := rfl
@[simp] theorem State.putCmp_flash (s : State) (k : Nat) (x : CmpSt) : (s.putCmp k x).flash = s.flash := rfl
@[simp] theorem State.putCmp_recs (s : State) (k : Nat) (x : CmpSt) : (s.putCmp k x).recs = s.recs := rfl
@[simp] theorem State.putCmp_ctu (s : State) (k : Nat) (x : CmpSt) : (s.putCmp k x).ctu = s.ctu := rfl
@[simp] theorem State.putCmp_image (s : State) (k : Nat) (x : CmpSt) : (s.putCmp k x).image = s.image := rfl
@[simp] theorem State.putCmp_gaf (s : State) (k : Nat) (x : CmpSt) : (s.putCmp k x).gaf = s.gaf := rfl
@[simp] theorem State.putCmp_power (s : State) (k : Nat) (x : CmpSt) : (s.putCmp k x).power = s.power := rfl
@[simp] theorem State.putCmp_otp (s : State) (k : Nat) (x : CmpSt) : (s.putCmp k x).otp = s.otp := rfl
@[simp] theorem State.putCmp_boot (s : State) (k : Nat) (x : CmpSt) : (s.putCmp k x).boot = s.boot := rfl
@[simp] theorem State.putCmp_sec (s : State) (k : Nat) (x : CmpSt) : (s.putCmp k x).sec = s.sec := rfl
@[simp] theorem State.putCmp_link (s : State) (k : Nat) (x : CmpSt) : (s.putCmp k x).link = s.link := rfl
@[simp] theorem State.putCmp_rushes (s : State) (k : Nat) (x : CmpSt) : (s.putCmp k x).rushes = s.rushes := rfl
@[simp] theorem State.putCmp_sets (s : State) (k : Nat) (x : CmpSt) : (s.putCmp k x).sets = s.sets := rfl
@[simp] theorem State.putCmp_sessions (s : State) (k : Nat) (x : CmpSt) : (s.putCmp k x).sessions = s.sessions := rfl
@[simp] theorem State.putCmp_feedback (s : State) (k : Nat) (x : CmpSt) : (s.putCmp k x).feedback = s.feedback := rfl
@[simp] theorem State.putCmp_emus (s : State) (k : Nat) (x : CmpSt) : (s.putCmp k x).emus = s.emus := rfl
@[simp] theorem State.putCmp_ports (s : State) (k : Nat) (x : CmpSt) : (s.putCmp k x).ports = s.ports := rfl
@[simp] theorem State.putCmp_engines (s : State) (k : Nat) (x : CmpSt) : (s.putCmp k x).engines = s.engines := rfl
@[simp] theorem State.putCmp_reels (s : State) (k : Nat) (x : CmpSt) : (s.putCmp k x).reels = s.reels := rfl
@[simp] theorem State.putCmp_banks (s : State) (k : Nat) (x : CmpSt) : (s.putCmp k x).banks = s.banks := rfl
@[simp] theorem State.putCmp_dmas (s : State) (k : Nat) (x : CmpSt) : (s.putCmp k x).dmas = s.dmas := rfl
@[simp] theorem State.putCmp_cores (s : State) (k : Nat) (x : CmpSt) : (s.putCmp k x).cores = s.cores := rfl
@[simp] theorem State.putCmp_serials (s : State) (k : Nat) (x : CmpSt) : (s.putCmp k x).serials = s.serials := rfl
@[simp] theorem State.putCmp_free (s : State) (k : Nat) (x : CmpSt) : (s.putCmp k x).free = s.free := rfl
@[simp] theorem State.putCmp_pending (s : State) (k : Nat) (x : CmpSt) : (s.putCmp k x).pending = s.pending := rfl
@[simp] theorem State.rush_putCmp (s : State) (k q : Nat) (x : CmpSt) : (s.putCmp k x).rush q = s.rush q := rfl
@[simp] theorem State.sampSet_putCmp (s : State) (k q : Nat) (x : CmpSt) : (s.putCmp k x).sampSet q = s.sampSet q := rfl
@[simp] theorem State.session_putCmp (s : State) (k q : Nat) (x : CmpSt) : (s.putCmp k x).session q = s.session q := rfl
@[simp] theorem State.pf_putCmp (s : State) (k q : Nat) (x : CmpSt) : (s.putCmp k x).pf q = s.pf q := rfl
@[simp] theorem State.emu_putCmp (s : State) (k q : Nat) (x : CmpSt) : (s.putCmp k x).emu q = s.emu q := rfl
@[simp] theorem State.port_putCmp (s : State) (k q : Nat) (x : CmpSt) : (s.putCmp k x).port q = s.port q := rfl
@[simp] theorem State.eng_putCmp (s : State) (k q : Nat) (x : CmpSt) : (s.putCmp k x).eng q = s.eng q := rfl
@[simp] theorem State.reel_putCmp (s : State) (k q : Nat) (x : CmpSt) : (s.putCmp k x).reel q = s.reel q := rfl
@[simp] theorem State.bank_putCmp (s : State) (k q : Nat) (x : CmpSt) : (s.putCmp k x).bank q = s.bank q := rfl
@[simp] theorem State.dma_putCmp (s : State) (k q : Nat) (x : CmpSt) : (s.putCmp k x).dma q = s.dma q := rfl
@[simp] theorem State.core_putCmp (s : State) (k q : Nat) (x : CmpSt) : (s.putCmp k x).core q = s.core q := rfl
@[simp] theorem State.serial_putCmp (s : State) (k q : Nat) (x : CmpSt) : (s.putCmp k x).serial q = s.serial q := rfl
@[simp] theorem State.session_putSession_same (s : State) (k : Nat) (x : SessSt) : (s.putSession k x).session k = x :=
  Tab.get_set_same _ _ _ _
theorem State.session_putSession_ne (s : State) {k q : Nat} (x : SessSt) (h : k ≠ q) : (s.putSession k x).session q = s.session q :=
  Tab.get_set_ne _ _ _ h
@[simp] theorem State.putSession_now (s : State) (k : Nat) (x : SessSt) : (s.putSession k x).now = s.now := rfl
@[simp] theorem State.putSession_tcRun (s : State) (k : Nat) (x : SessSt) : (s.putSession k x).tcRun = s.tcRun := rfl
@[simp] theorem State.putSession_tcSaved (s : State) (k : Nat) (x : SessSt) : (s.putSession k x).tcSaved = s.tcSaved := rfl
@[simp] theorem State.putSession_syncWait (s : State) (k : Nat) (x : SessSt) : (s.putSession k x).syncWait = s.syncWait := rfl
@[simp] theorem State.putSession_fields (s : State) (k : Nat) (x : SessSt) : (s.putSession k x).fields = s.fields := rfl
@[simp] theorem State.putSession_mem (s : State) (k : Nat) (x : SessSt) : (s.putSession k x).mem = s.mem := rfl
@[simp] theorem State.putSession_marks (s : State) (k : Nat) (x : SessSt) : (s.putSession k x).marks = s.marks := rfl
@[simp] theorem State.putSession_bus (s : State) (k : Nat) (x : SessSt) : (s.putSession k x).bus = s.bus := rfl
@[simp] theorem State.putSession_held (s : State) (k : Nat) (x : SessSt) : (s.putSession k x).held = s.held := rfl
@[simp] theorem State.putSession_events (s : State) (k : Nat) (x : SessSt) : (s.putSession k x).events = s.events := rfl
@[simp] theorem State.putSession_reports (s : State) (k : Nat) (x : SessSt) : (s.putSession k x).reports = s.reports := rfl
@[simp] theorem State.putSession_trigAt (s : State) (k : Nat) (x : SessSt) : (s.putSession k x).trigAt = s.trigAt := rfl
@[simp] theorem State.putSession_trim (s : State) (k : Nat) (x : SessSt) : (s.putSession k x).trim = s.trim := rfl
@[simp] theorem State.putSession_calGen (s : State) (k : Nat) (x : SessSt) : (s.putSession k x).calGen = s.calGen := rfl
@[simp] theorem State.putSession_calEnd (s : State) (k : Nat) (x : SessSt) : (s.putSession k x).calEnd = s.calEnd := rfl
@[simp] theorem State.putSession_portWrites (s : State) (k : Nat) (x : SessSt) : (s.putSession k x).portWrites = s.portWrites := rfl
@[simp] theorem State.putSession_latFlight (s : State) (k : Nat) (x : SessSt) : (s.putSession k x).latFlight = s.latFlight := rfl
@[simp] theorem State.putSession_cut (s : State) (k : Nat) (x : SessSt) : (s.putSession k x).cut = s.cut := rfl
@[simp] theorem State.putSession_laneTest (s : State) (k : Nat) (x : SessSt) : (s.putSession k x).laneTest = s.laneTest := rfl
@[simp] theorem State.putSession_gafQueue (s : State) (k : Nat) (x : SessSt) : (s.putSession k x).gafQueue = s.gafQueue := rfl
@[simp] theorem State.putSession_starts (s : State) (k : Nat) (x : SessSt) : (s.putSession k x).starts = s.starts := rfl
@[simp] theorem State.putSession_zoneLast (s : State) (k : Nat) (x : SessSt) : (s.putSession k x).zoneLast = s.zoneLast := rfl
@[simp] theorem State.putSession_slateOut (s : State) (k : Nat) (x : SessSt) : (s.putSession k x).slateOut = s.slateOut := rfl
@[simp] theorem State.putSession_engIn (s : State) (k : Nat) (x : SessSt) : (s.putSession k x).engIn = s.engIn := rfl
@[simp] theorem State.putSession_engTrigs (s : State) (k : Nat) (x : SessSt) : (s.putSession k x).engTrigs = s.engTrigs := rfl
@[simp] theorem State.putSession_engNeg (s : State) (k : Nat) (x : SessSt) : (s.putSession k x).engNeg = s.engNeg := rfl
@[simp] theorem State.putSession_reelQ (s : State) (k : Nat) (x : SessSt) : (s.putSession k x).reelQ = s.reelQ := rfl
@[simp] theorem State.putSession_xfer (s : State) (k : Nat) (x : SessSt) : (s.putSession k x).xfer = s.xfer := rfl
@[simp] theorem State.putSession_patrol (s : State) (k : Nat) (x : SessSt) : (s.putSession k x).patrol = s.patrol := rfl
@[simp] theorem State.putSession_ddrCap (s : State) (k : Nat) (x : SessSt) : (s.putSession k x).ddrCap = s.ddrCap := rfl
@[simp] theorem State.putSession_flash (s : State) (k : Nat) (x : SessSt) : (s.putSession k x).flash = s.flash := rfl
@[simp] theorem State.putSession_recs (s : State) (k : Nat) (x : SessSt) : (s.putSession k x).recs = s.recs := rfl
@[simp] theorem State.putSession_ctu (s : State) (k : Nat) (x : SessSt) : (s.putSession k x).ctu = s.ctu := rfl
@[simp] theorem State.putSession_image (s : State) (k : Nat) (x : SessSt) : (s.putSession k x).image = s.image := rfl
@[simp] theorem State.putSession_gaf (s : State) (k : Nat) (x : SessSt) : (s.putSession k x).gaf = s.gaf := rfl
@[simp] theorem State.putSession_power (s : State) (k : Nat) (x : SessSt) : (s.putSession k x).power = s.power := rfl
@[simp] theorem State.putSession_otp (s : State) (k : Nat) (x : SessSt) : (s.putSession k x).otp = s.otp := rfl
@[simp] theorem State.putSession_boot (s : State) (k : Nat) (x : SessSt) : (s.putSession k x).boot = s.boot := rfl
@[simp] theorem State.putSession_sec (s : State) (k : Nat) (x : SessSt) : (s.putSession k x).sec = s.sec := rfl
@[simp] theorem State.putSession_link (s : State) (k : Nat) (x : SessSt) : (s.putSession k x).link = s.link := rfl
@[simp] theorem State.putSession_rushes (s : State) (k : Nat) (x : SessSt) : (s.putSession k x).rushes = s.rushes := rfl
@[simp] theorem State.putSession_sets (s : State) (k : Nat) (x : SessSt) : (s.putSession k x).sets = s.sets := rfl
@[simp] theorem State.putSession_cmps (s : State) (k : Nat) (x : SessSt) : (s.putSession k x).cmps = s.cmps := rfl
@[simp] theorem State.putSession_feedback (s : State) (k : Nat) (x : SessSt) : (s.putSession k x).feedback = s.feedback := rfl
@[simp] theorem State.putSession_emus (s : State) (k : Nat) (x : SessSt) : (s.putSession k x).emus = s.emus := rfl
@[simp] theorem State.putSession_ports (s : State) (k : Nat) (x : SessSt) : (s.putSession k x).ports = s.ports := rfl
@[simp] theorem State.putSession_engines (s : State) (k : Nat) (x : SessSt) : (s.putSession k x).engines = s.engines := rfl
@[simp] theorem State.putSession_reels (s : State) (k : Nat) (x : SessSt) : (s.putSession k x).reels = s.reels := rfl
@[simp] theorem State.putSession_banks (s : State) (k : Nat) (x : SessSt) : (s.putSession k x).banks = s.banks := rfl
@[simp] theorem State.putSession_dmas (s : State) (k : Nat) (x : SessSt) : (s.putSession k x).dmas = s.dmas := rfl
@[simp] theorem State.putSession_cores (s : State) (k : Nat) (x : SessSt) : (s.putSession k x).cores = s.cores := rfl
@[simp] theorem State.putSession_serials (s : State) (k : Nat) (x : SessSt) : (s.putSession k x).serials = s.serials := rfl
@[simp] theorem State.putSession_free (s : State) (k : Nat) (x : SessSt) : (s.putSession k x).free = s.free := rfl
@[simp] theorem State.putSession_pending (s : State) (k : Nat) (x : SessSt) : (s.putSession k x).pending = s.pending := rfl
@[simp] theorem State.rush_putSession (s : State) (k q : Nat) (x : SessSt) : (s.putSession k x).rush q = s.rush q := rfl
@[simp] theorem State.sampSet_putSession (s : State) (k q : Nat) (x : SessSt) : (s.putSession k x).sampSet q = s.sampSet q := rfl
@[simp] theorem State.cmp_putSession (s : State) (k q : Nat) (x : SessSt) : (s.putSession k x).cmp q = s.cmp q := rfl
@[simp] theorem State.pf_putSession (s : State) (k q : Nat) (x : SessSt) : (s.putSession k x).pf q = s.pf q := rfl
@[simp] theorem State.emu_putSession (s : State) (k q : Nat) (x : SessSt) : (s.putSession k x).emu q = s.emu q := rfl
@[simp] theorem State.port_putSession (s : State) (k q : Nat) (x : SessSt) : (s.putSession k x).port q = s.port q := rfl
@[simp] theorem State.eng_putSession (s : State) (k q : Nat) (x : SessSt) : (s.putSession k x).eng q = s.eng q := rfl
@[simp] theorem State.reel_putSession (s : State) (k q : Nat) (x : SessSt) : (s.putSession k x).reel q = s.reel q := rfl
@[simp] theorem State.bank_putSession (s : State) (k q : Nat) (x : SessSt) : (s.putSession k x).bank q = s.bank q := rfl
@[simp] theorem State.dma_putSession (s : State) (k q : Nat) (x : SessSt) : (s.putSession k x).dma q = s.dma q := rfl
@[simp] theorem State.core_putSession (s : State) (k q : Nat) (x : SessSt) : (s.putSession k x).core q = s.core q := rfl
@[simp] theorem State.serial_putSession (s : State) (k q : Nat) (x : SessSt) : (s.putSession k x).serial q = s.serial q := rfl
@[simp] theorem State.pf_putPf_same (s : State) (k : Nat) (x : PfSt) : (s.putPf k x).pf k = x :=
  Tab.get_set_same _ _ _ _
theorem State.pf_putPf_ne (s : State) {k q : Nat} (x : PfSt) (h : k ≠ q) : (s.putPf k x).pf q = s.pf q :=
  Tab.get_set_ne _ _ _ h
@[simp] theorem State.putPf_now (s : State) (k : Nat) (x : PfSt) : (s.putPf k x).now = s.now := rfl
@[simp] theorem State.putPf_tcRun (s : State) (k : Nat) (x : PfSt) : (s.putPf k x).tcRun = s.tcRun := rfl
@[simp] theorem State.putPf_tcSaved (s : State) (k : Nat) (x : PfSt) : (s.putPf k x).tcSaved = s.tcSaved := rfl
@[simp] theorem State.putPf_syncWait (s : State) (k : Nat) (x : PfSt) : (s.putPf k x).syncWait = s.syncWait := rfl
@[simp] theorem State.putPf_fields (s : State) (k : Nat) (x : PfSt) : (s.putPf k x).fields = s.fields := rfl
@[simp] theorem State.putPf_mem (s : State) (k : Nat) (x : PfSt) : (s.putPf k x).mem = s.mem := rfl
@[simp] theorem State.putPf_marks (s : State) (k : Nat) (x : PfSt) : (s.putPf k x).marks = s.marks := rfl
@[simp] theorem State.putPf_bus (s : State) (k : Nat) (x : PfSt) : (s.putPf k x).bus = s.bus := rfl
@[simp] theorem State.putPf_held (s : State) (k : Nat) (x : PfSt) : (s.putPf k x).held = s.held := rfl
@[simp] theorem State.putPf_events (s : State) (k : Nat) (x : PfSt) : (s.putPf k x).events = s.events := rfl
@[simp] theorem State.putPf_reports (s : State) (k : Nat) (x : PfSt) : (s.putPf k x).reports = s.reports := rfl
@[simp] theorem State.putPf_trigAt (s : State) (k : Nat) (x : PfSt) : (s.putPf k x).trigAt = s.trigAt := rfl
@[simp] theorem State.putPf_trim (s : State) (k : Nat) (x : PfSt) : (s.putPf k x).trim = s.trim := rfl
@[simp] theorem State.putPf_calGen (s : State) (k : Nat) (x : PfSt) : (s.putPf k x).calGen = s.calGen := rfl
@[simp] theorem State.putPf_calEnd (s : State) (k : Nat) (x : PfSt) : (s.putPf k x).calEnd = s.calEnd := rfl
@[simp] theorem State.putPf_portWrites (s : State) (k : Nat) (x : PfSt) : (s.putPf k x).portWrites = s.portWrites := rfl
@[simp] theorem State.putPf_latFlight (s : State) (k : Nat) (x : PfSt) : (s.putPf k x).latFlight = s.latFlight := rfl
@[simp] theorem State.putPf_cut (s : State) (k : Nat) (x : PfSt) : (s.putPf k x).cut = s.cut := rfl
@[simp] theorem State.putPf_laneTest (s : State) (k : Nat) (x : PfSt) : (s.putPf k x).laneTest = s.laneTest := rfl
@[simp] theorem State.putPf_gafQueue (s : State) (k : Nat) (x : PfSt) : (s.putPf k x).gafQueue = s.gafQueue := rfl
@[simp] theorem State.putPf_starts (s : State) (k : Nat) (x : PfSt) : (s.putPf k x).starts = s.starts := rfl
@[simp] theorem State.putPf_zoneLast (s : State) (k : Nat) (x : PfSt) : (s.putPf k x).zoneLast = s.zoneLast := rfl
@[simp] theorem State.putPf_slateOut (s : State) (k : Nat) (x : PfSt) : (s.putPf k x).slateOut = s.slateOut := rfl
@[simp] theorem State.putPf_engIn (s : State) (k : Nat) (x : PfSt) : (s.putPf k x).engIn = s.engIn := rfl
@[simp] theorem State.putPf_engTrigs (s : State) (k : Nat) (x : PfSt) : (s.putPf k x).engTrigs = s.engTrigs := rfl
@[simp] theorem State.putPf_engNeg (s : State) (k : Nat) (x : PfSt) : (s.putPf k x).engNeg = s.engNeg := rfl
@[simp] theorem State.putPf_reelQ (s : State) (k : Nat) (x : PfSt) : (s.putPf k x).reelQ = s.reelQ := rfl
@[simp] theorem State.putPf_xfer (s : State) (k : Nat) (x : PfSt) : (s.putPf k x).xfer = s.xfer := rfl
@[simp] theorem State.putPf_patrol (s : State) (k : Nat) (x : PfSt) : (s.putPf k x).patrol = s.patrol := rfl
@[simp] theorem State.putPf_ddrCap (s : State) (k : Nat) (x : PfSt) : (s.putPf k x).ddrCap = s.ddrCap := rfl
@[simp] theorem State.putPf_flash (s : State) (k : Nat) (x : PfSt) : (s.putPf k x).flash = s.flash := rfl
@[simp] theorem State.putPf_recs (s : State) (k : Nat) (x : PfSt) : (s.putPf k x).recs = s.recs := rfl
@[simp] theorem State.putPf_ctu (s : State) (k : Nat) (x : PfSt) : (s.putPf k x).ctu = s.ctu := rfl
@[simp] theorem State.putPf_image (s : State) (k : Nat) (x : PfSt) : (s.putPf k x).image = s.image := rfl
@[simp] theorem State.putPf_gaf (s : State) (k : Nat) (x : PfSt) : (s.putPf k x).gaf = s.gaf := rfl
@[simp] theorem State.putPf_power (s : State) (k : Nat) (x : PfSt) : (s.putPf k x).power = s.power := rfl
@[simp] theorem State.putPf_otp (s : State) (k : Nat) (x : PfSt) : (s.putPf k x).otp = s.otp := rfl
@[simp] theorem State.putPf_boot (s : State) (k : Nat) (x : PfSt) : (s.putPf k x).boot = s.boot := rfl
@[simp] theorem State.putPf_sec (s : State) (k : Nat) (x : PfSt) : (s.putPf k x).sec = s.sec := rfl
@[simp] theorem State.putPf_link (s : State) (k : Nat) (x : PfSt) : (s.putPf k x).link = s.link := rfl
@[simp] theorem State.putPf_rushes (s : State) (k : Nat) (x : PfSt) : (s.putPf k x).rushes = s.rushes := rfl
@[simp] theorem State.putPf_sets (s : State) (k : Nat) (x : PfSt) : (s.putPf k x).sets = s.sets := rfl
@[simp] theorem State.putPf_cmps (s : State) (k : Nat) (x : PfSt) : (s.putPf k x).cmps = s.cmps := rfl
@[simp] theorem State.putPf_sessions (s : State) (k : Nat) (x : PfSt) : (s.putPf k x).sessions = s.sessions := rfl
@[simp] theorem State.putPf_emus (s : State) (k : Nat) (x : PfSt) : (s.putPf k x).emus = s.emus := rfl
@[simp] theorem State.putPf_ports (s : State) (k : Nat) (x : PfSt) : (s.putPf k x).ports = s.ports := rfl
@[simp] theorem State.putPf_engines (s : State) (k : Nat) (x : PfSt) : (s.putPf k x).engines = s.engines := rfl
@[simp] theorem State.putPf_reels (s : State) (k : Nat) (x : PfSt) : (s.putPf k x).reels = s.reels := rfl
@[simp] theorem State.putPf_banks (s : State) (k : Nat) (x : PfSt) : (s.putPf k x).banks = s.banks := rfl
@[simp] theorem State.putPf_dmas (s : State) (k : Nat) (x : PfSt) : (s.putPf k x).dmas = s.dmas := rfl
@[simp] theorem State.putPf_cores (s : State) (k : Nat) (x : PfSt) : (s.putPf k x).cores = s.cores := rfl
@[simp] theorem State.putPf_serials (s : State) (k : Nat) (x : PfSt) : (s.putPf k x).serials = s.serials := rfl
@[simp] theorem State.putPf_free (s : State) (k : Nat) (x : PfSt) : (s.putPf k x).free = s.free := rfl
@[simp] theorem State.putPf_pending (s : State) (k : Nat) (x : PfSt) : (s.putPf k x).pending = s.pending := rfl
@[simp] theorem State.rush_putPf (s : State) (k q : Nat) (x : PfSt) : (s.putPf k x).rush q = s.rush q := rfl
@[simp] theorem State.sampSet_putPf (s : State) (k q : Nat) (x : PfSt) : (s.putPf k x).sampSet q = s.sampSet q := rfl
@[simp] theorem State.cmp_putPf (s : State) (k q : Nat) (x : PfSt) : (s.putPf k x).cmp q = s.cmp q := rfl
@[simp] theorem State.session_putPf (s : State) (k q : Nat) (x : PfSt) : (s.putPf k x).session q = s.session q := rfl
@[simp] theorem State.emu_putPf (s : State) (k q : Nat) (x : PfSt) : (s.putPf k x).emu q = s.emu q := rfl
@[simp] theorem State.port_putPf (s : State) (k q : Nat) (x : PfSt) : (s.putPf k x).port q = s.port q := rfl
@[simp] theorem State.eng_putPf (s : State) (k q : Nat) (x : PfSt) : (s.putPf k x).eng q = s.eng q := rfl
@[simp] theorem State.reel_putPf (s : State) (k q : Nat) (x : PfSt) : (s.putPf k x).reel q = s.reel q := rfl
@[simp] theorem State.bank_putPf (s : State) (k q : Nat) (x : PfSt) : (s.putPf k x).bank q = s.bank q := rfl
@[simp] theorem State.dma_putPf (s : State) (k q : Nat) (x : PfSt) : (s.putPf k x).dma q = s.dma q := rfl
@[simp] theorem State.core_putPf (s : State) (k q : Nat) (x : PfSt) : (s.putPf k x).core q = s.core q := rfl
@[simp] theorem State.serial_putPf (s : State) (k q : Nat) (x : PfSt) : (s.putPf k x).serial q = s.serial q := rfl
@[simp] theorem State.emu_putEmu_same (s : State) (k : Nat) (x : EmuSt) : (s.putEmu k x).emu k = x :=
  Tab.get_set_same _ _ _ _
theorem State.emu_putEmu_ne (s : State) {k q : Nat} (x : EmuSt) (h : k ≠ q) : (s.putEmu k x).emu q = s.emu q :=
  Tab.get_set_ne _ _ _ h
@[simp] theorem State.putEmu_now (s : State) (k : Nat) (x : EmuSt) : (s.putEmu k x).now = s.now := rfl
@[simp] theorem State.putEmu_tcRun (s : State) (k : Nat) (x : EmuSt) : (s.putEmu k x).tcRun = s.tcRun := rfl
@[simp] theorem State.putEmu_tcSaved (s : State) (k : Nat) (x : EmuSt) : (s.putEmu k x).tcSaved = s.tcSaved := rfl
@[simp] theorem State.putEmu_syncWait (s : State) (k : Nat) (x : EmuSt) : (s.putEmu k x).syncWait = s.syncWait := rfl
@[simp] theorem State.putEmu_fields (s : State) (k : Nat) (x : EmuSt) : (s.putEmu k x).fields = s.fields := rfl
@[simp] theorem State.putEmu_mem (s : State) (k : Nat) (x : EmuSt) : (s.putEmu k x).mem = s.mem := rfl
@[simp] theorem State.putEmu_marks (s : State) (k : Nat) (x : EmuSt) : (s.putEmu k x).marks = s.marks := rfl
@[simp] theorem State.putEmu_bus (s : State) (k : Nat) (x : EmuSt) : (s.putEmu k x).bus = s.bus := rfl
@[simp] theorem State.putEmu_held (s : State) (k : Nat) (x : EmuSt) : (s.putEmu k x).held = s.held := rfl
@[simp] theorem State.putEmu_events (s : State) (k : Nat) (x : EmuSt) : (s.putEmu k x).events = s.events := rfl
@[simp] theorem State.putEmu_reports (s : State) (k : Nat) (x : EmuSt) : (s.putEmu k x).reports = s.reports := rfl
@[simp] theorem State.putEmu_trigAt (s : State) (k : Nat) (x : EmuSt) : (s.putEmu k x).trigAt = s.trigAt := rfl
@[simp] theorem State.putEmu_trim (s : State) (k : Nat) (x : EmuSt) : (s.putEmu k x).trim = s.trim := rfl
@[simp] theorem State.putEmu_calGen (s : State) (k : Nat) (x : EmuSt) : (s.putEmu k x).calGen = s.calGen := rfl
@[simp] theorem State.putEmu_calEnd (s : State) (k : Nat) (x : EmuSt) : (s.putEmu k x).calEnd = s.calEnd := rfl
@[simp] theorem State.putEmu_portWrites (s : State) (k : Nat) (x : EmuSt) : (s.putEmu k x).portWrites = s.portWrites := rfl
@[simp] theorem State.putEmu_latFlight (s : State) (k : Nat) (x : EmuSt) : (s.putEmu k x).latFlight = s.latFlight := rfl
@[simp] theorem State.putEmu_cut (s : State) (k : Nat) (x : EmuSt) : (s.putEmu k x).cut = s.cut := rfl
@[simp] theorem State.putEmu_laneTest (s : State) (k : Nat) (x : EmuSt) : (s.putEmu k x).laneTest = s.laneTest := rfl
@[simp] theorem State.putEmu_gafQueue (s : State) (k : Nat) (x : EmuSt) : (s.putEmu k x).gafQueue = s.gafQueue := rfl
@[simp] theorem State.putEmu_starts (s : State) (k : Nat) (x : EmuSt) : (s.putEmu k x).starts = s.starts := rfl
@[simp] theorem State.putEmu_zoneLast (s : State) (k : Nat) (x : EmuSt) : (s.putEmu k x).zoneLast = s.zoneLast := rfl
@[simp] theorem State.putEmu_slateOut (s : State) (k : Nat) (x : EmuSt) : (s.putEmu k x).slateOut = s.slateOut := rfl
@[simp] theorem State.putEmu_engIn (s : State) (k : Nat) (x : EmuSt) : (s.putEmu k x).engIn = s.engIn := rfl
@[simp] theorem State.putEmu_engTrigs (s : State) (k : Nat) (x : EmuSt) : (s.putEmu k x).engTrigs = s.engTrigs := rfl
@[simp] theorem State.putEmu_engNeg (s : State) (k : Nat) (x : EmuSt) : (s.putEmu k x).engNeg = s.engNeg := rfl
@[simp] theorem State.putEmu_reelQ (s : State) (k : Nat) (x : EmuSt) : (s.putEmu k x).reelQ = s.reelQ := rfl
@[simp] theorem State.putEmu_xfer (s : State) (k : Nat) (x : EmuSt) : (s.putEmu k x).xfer = s.xfer := rfl
@[simp] theorem State.putEmu_patrol (s : State) (k : Nat) (x : EmuSt) : (s.putEmu k x).patrol = s.patrol := rfl
@[simp] theorem State.putEmu_ddrCap (s : State) (k : Nat) (x : EmuSt) : (s.putEmu k x).ddrCap = s.ddrCap := rfl
@[simp] theorem State.putEmu_flash (s : State) (k : Nat) (x : EmuSt) : (s.putEmu k x).flash = s.flash := rfl
@[simp] theorem State.putEmu_recs (s : State) (k : Nat) (x : EmuSt) : (s.putEmu k x).recs = s.recs := rfl
@[simp] theorem State.putEmu_ctu (s : State) (k : Nat) (x : EmuSt) : (s.putEmu k x).ctu = s.ctu := rfl
@[simp] theorem State.putEmu_image (s : State) (k : Nat) (x : EmuSt) : (s.putEmu k x).image = s.image := rfl
@[simp] theorem State.putEmu_gaf (s : State) (k : Nat) (x : EmuSt) : (s.putEmu k x).gaf = s.gaf := rfl
@[simp] theorem State.putEmu_power (s : State) (k : Nat) (x : EmuSt) : (s.putEmu k x).power = s.power := rfl
@[simp] theorem State.putEmu_otp (s : State) (k : Nat) (x : EmuSt) : (s.putEmu k x).otp = s.otp := rfl
@[simp] theorem State.putEmu_boot (s : State) (k : Nat) (x : EmuSt) : (s.putEmu k x).boot = s.boot := rfl
@[simp] theorem State.putEmu_sec (s : State) (k : Nat) (x : EmuSt) : (s.putEmu k x).sec = s.sec := rfl
@[simp] theorem State.putEmu_link (s : State) (k : Nat) (x : EmuSt) : (s.putEmu k x).link = s.link := rfl
@[simp] theorem State.putEmu_rushes (s : State) (k : Nat) (x : EmuSt) : (s.putEmu k x).rushes = s.rushes := rfl
@[simp] theorem State.putEmu_sets (s : State) (k : Nat) (x : EmuSt) : (s.putEmu k x).sets = s.sets := rfl
@[simp] theorem State.putEmu_cmps (s : State) (k : Nat) (x : EmuSt) : (s.putEmu k x).cmps = s.cmps := rfl
@[simp] theorem State.putEmu_sessions (s : State) (k : Nat) (x : EmuSt) : (s.putEmu k x).sessions = s.sessions := rfl
@[simp] theorem State.putEmu_feedback (s : State) (k : Nat) (x : EmuSt) : (s.putEmu k x).feedback = s.feedback := rfl
@[simp] theorem State.putEmu_ports (s : State) (k : Nat) (x : EmuSt) : (s.putEmu k x).ports = s.ports := rfl
@[simp] theorem State.putEmu_engines (s : State) (k : Nat) (x : EmuSt) : (s.putEmu k x).engines = s.engines := rfl
@[simp] theorem State.putEmu_reels (s : State) (k : Nat) (x : EmuSt) : (s.putEmu k x).reels = s.reels := rfl
@[simp] theorem State.putEmu_banks (s : State) (k : Nat) (x : EmuSt) : (s.putEmu k x).banks = s.banks := rfl
@[simp] theorem State.putEmu_dmas (s : State) (k : Nat) (x : EmuSt) : (s.putEmu k x).dmas = s.dmas := rfl
@[simp] theorem State.putEmu_cores (s : State) (k : Nat) (x : EmuSt) : (s.putEmu k x).cores = s.cores := rfl
@[simp] theorem State.putEmu_serials (s : State) (k : Nat) (x : EmuSt) : (s.putEmu k x).serials = s.serials := rfl
@[simp] theorem State.putEmu_free (s : State) (k : Nat) (x : EmuSt) : (s.putEmu k x).free = s.free := rfl
@[simp] theorem State.putEmu_pending (s : State) (k : Nat) (x : EmuSt) : (s.putEmu k x).pending = s.pending := rfl
@[simp] theorem State.rush_putEmu (s : State) (k q : Nat) (x : EmuSt) : (s.putEmu k x).rush q = s.rush q := rfl
@[simp] theorem State.sampSet_putEmu (s : State) (k q : Nat) (x : EmuSt) : (s.putEmu k x).sampSet q = s.sampSet q := rfl
@[simp] theorem State.cmp_putEmu (s : State) (k q : Nat) (x : EmuSt) : (s.putEmu k x).cmp q = s.cmp q := rfl
@[simp] theorem State.session_putEmu (s : State) (k q : Nat) (x : EmuSt) : (s.putEmu k x).session q = s.session q := rfl
@[simp] theorem State.pf_putEmu (s : State) (k q : Nat) (x : EmuSt) : (s.putEmu k x).pf q = s.pf q := rfl
@[simp] theorem State.port_putEmu (s : State) (k q : Nat) (x : EmuSt) : (s.putEmu k x).port q = s.port q := rfl
@[simp] theorem State.eng_putEmu (s : State) (k q : Nat) (x : EmuSt) : (s.putEmu k x).eng q = s.eng q := rfl
@[simp] theorem State.reel_putEmu (s : State) (k q : Nat) (x : EmuSt) : (s.putEmu k x).reel q = s.reel q := rfl
@[simp] theorem State.bank_putEmu (s : State) (k q : Nat) (x : EmuSt) : (s.putEmu k x).bank q = s.bank q := rfl
@[simp] theorem State.dma_putEmu (s : State) (k q : Nat) (x : EmuSt) : (s.putEmu k x).dma q = s.dma q := rfl
@[simp] theorem State.core_putEmu (s : State) (k q : Nat) (x : EmuSt) : (s.putEmu k x).core q = s.core q := rfl
@[simp] theorem State.serial_putEmu (s : State) (k q : Nat) (x : EmuSt) : (s.putEmu k x).serial q = s.serial q := rfl
@[simp] theorem State.port_putPort_same (s : State) (k : Nat) (x : PortSt) : (s.putPort k x).port k = x :=
  Tab.get_set_same _ _ _ _
theorem State.port_putPort_ne (s : State) {k q : Nat} (x : PortSt) (h : k ≠ q) : (s.putPort k x).port q = s.port q :=
  Tab.get_set_ne _ _ _ h
@[simp] theorem State.putPort_now (s : State) (k : Nat) (x : PortSt) : (s.putPort k x).now = s.now := rfl
@[simp] theorem State.putPort_tcRun (s : State) (k : Nat) (x : PortSt) : (s.putPort k x).tcRun = s.tcRun := rfl
@[simp] theorem State.putPort_tcSaved (s : State) (k : Nat) (x : PortSt) : (s.putPort k x).tcSaved = s.tcSaved := rfl
@[simp] theorem State.putPort_syncWait (s : State) (k : Nat) (x : PortSt) : (s.putPort k x).syncWait = s.syncWait := rfl
@[simp] theorem State.putPort_fields (s : State) (k : Nat) (x : PortSt) : (s.putPort k x).fields = s.fields := rfl
@[simp] theorem State.putPort_mem (s : State) (k : Nat) (x : PortSt) : (s.putPort k x).mem = s.mem := rfl
@[simp] theorem State.putPort_marks (s : State) (k : Nat) (x : PortSt) : (s.putPort k x).marks = s.marks := rfl
@[simp] theorem State.putPort_bus (s : State) (k : Nat) (x : PortSt) : (s.putPort k x).bus = s.bus := rfl
@[simp] theorem State.putPort_held (s : State) (k : Nat) (x : PortSt) : (s.putPort k x).held = s.held := rfl
@[simp] theorem State.putPort_events (s : State) (k : Nat) (x : PortSt) : (s.putPort k x).events = s.events := rfl
@[simp] theorem State.putPort_reports (s : State) (k : Nat) (x : PortSt) : (s.putPort k x).reports = s.reports := rfl
@[simp] theorem State.putPort_trigAt (s : State) (k : Nat) (x : PortSt) : (s.putPort k x).trigAt = s.trigAt := rfl
@[simp] theorem State.putPort_trim (s : State) (k : Nat) (x : PortSt) : (s.putPort k x).trim = s.trim := rfl
@[simp] theorem State.putPort_calGen (s : State) (k : Nat) (x : PortSt) : (s.putPort k x).calGen = s.calGen := rfl
@[simp] theorem State.putPort_calEnd (s : State) (k : Nat) (x : PortSt) : (s.putPort k x).calEnd = s.calEnd := rfl
@[simp] theorem State.putPort_portWrites (s : State) (k : Nat) (x : PortSt) : (s.putPort k x).portWrites = s.portWrites := rfl
@[simp] theorem State.putPort_latFlight (s : State) (k : Nat) (x : PortSt) : (s.putPort k x).latFlight = s.latFlight := rfl
@[simp] theorem State.putPort_cut (s : State) (k : Nat) (x : PortSt) : (s.putPort k x).cut = s.cut := rfl
@[simp] theorem State.putPort_laneTest (s : State) (k : Nat) (x : PortSt) : (s.putPort k x).laneTest = s.laneTest := rfl
@[simp] theorem State.putPort_gafQueue (s : State) (k : Nat) (x : PortSt) : (s.putPort k x).gafQueue = s.gafQueue := rfl
@[simp] theorem State.putPort_starts (s : State) (k : Nat) (x : PortSt) : (s.putPort k x).starts = s.starts := rfl
@[simp] theorem State.putPort_zoneLast (s : State) (k : Nat) (x : PortSt) : (s.putPort k x).zoneLast = s.zoneLast := rfl
@[simp] theorem State.putPort_slateOut (s : State) (k : Nat) (x : PortSt) : (s.putPort k x).slateOut = s.slateOut := rfl
@[simp] theorem State.putPort_engIn (s : State) (k : Nat) (x : PortSt) : (s.putPort k x).engIn = s.engIn := rfl
@[simp] theorem State.putPort_engTrigs (s : State) (k : Nat) (x : PortSt) : (s.putPort k x).engTrigs = s.engTrigs := rfl
@[simp] theorem State.putPort_engNeg (s : State) (k : Nat) (x : PortSt) : (s.putPort k x).engNeg = s.engNeg := rfl
@[simp] theorem State.putPort_reelQ (s : State) (k : Nat) (x : PortSt) : (s.putPort k x).reelQ = s.reelQ := rfl
@[simp] theorem State.putPort_xfer (s : State) (k : Nat) (x : PortSt) : (s.putPort k x).xfer = s.xfer := rfl
@[simp] theorem State.putPort_patrol (s : State) (k : Nat) (x : PortSt) : (s.putPort k x).patrol = s.patrol := rfl
@[simp] theorem State.putPort_ddrCap (s : State) (k : Nat) (x : PortSt) : (s.putPort k x).ddrCap = s.ddrCap := rfl
@[simp] theorem State.putPort_flash (s : State) (k : Nat) (x : PortSt) : (s.putPort k x).flash = s.flash := rfl
@[simp] theorem State.putPort_recs (s : State) (k : Nat) (x : PortSt) : (s.putPort k x).recs = s.recs := rfl
@[simp] theorem State.putPort_ctu (s : State) (k : Nat) (x : PortSt) : (s.putPort k x).ctu = s.ctu := rfl
@[simp] theorem State.putPort_image (s : State) (k : Nat) (x : PortSt) : (s.putPort k x).image = s.image := rfl
@[simp] theorem State.putPort_gaf (s : State) (k : Nat) (x : PortSt) : (s.putPort k x).gaf = s.gaf := rfl
@[simp] theorem State.putPort_power (s : State) (k : Nat) (x : PortSt) : (s.putPort k x).power = s.power := rfl
@[simp] theorem State.putPort_otp (s : State) (k : Nat) (x : PortSt) : (s.putPort k x).otp = s.otp := rfl
@[simp] theorem State.putPort_boot (s : State) (k : Nat) (x : PortSt) : (s.putPort k x).boot = s.boot := rfl
@[simp] theorem State.putPort_sec (s : State) (k : Nat) (x : PortSt) : (s.putPort k x).sec = s.sec := rfl
@[simp] theorem State.putPort_link (s : State) (k : Nat) (x : PortSt) : (s.putPort k x).link = s.link := rfl
@[simp] theorem State.putPort_rushes (s : State) (k : Nat) (x : PortSt) : (s.putPort k x).rushes = s.rushes := rfl
@[simp] theorem State.putPort_sets (s : State) (k : Nat) (x : PortSt) : (s.putPort k x).sets = s.sets := rfl
@[simp] theorem State.putPort_cmps (s : State) (k : Nat) (x : PortSt) : (s.putPort k x).cmps = s.cmps := rfl
@[simp] theorem State.putPort_sessions (s : State) (k : Nat) (x : PortSt) : (s.putPort k x).sessions = s.sessions := rfl
@[simp] theorem State.putPort_feedback (s : State) (k : Nat) (x : PortSt) : (s.putPort k x).feedback = s.feedback := rfl
@[simp] theorem State.putPort_emus (s : State) (k : Nat) (x : PortSt) : (s.putPort k x).emus = s.emus := rfl
@[simp] theorem State.putPort_engines (s : State) (k : Nat) (x : PortSt) : (s.putPort k x).engines = s.engines := rfl
@[simp] theorem State.putPort_reels (s : State) (k : Nat) (x : PortSt) : (s.putPort k x).reels = s.reels := rfl
@[simp] theorem State.putPort_banks (s : State) (k : Nat) (x : PortSt) : (s.putPort k x).banks = s.banks := rfl
@[simp] theorem State.putPort_dmas (s : State) (k : Nat) (x : PortSt) : (s.putPort k x).dmas = s.dmas := rfl
@[simp] theorem State.putPort_cores (s : State) (k : Nat) (x : PortSt) : (s.putPort k x).cores = s.cores := rfl
@[simp] theorem State.putPort_serials (s : State) (k : Nat) (x : PortSt) : (s.putPort k x).serials = s.serials := rfl
@[simp] theorem State.putPort_free (s : State) (k : Nat) (x : PortSt) : (s.putPort k x).free = s.free := rfl
@[simp] theorem State.putPort_pending (s : State) (k : Nat) (x : PortSt) : (s.putPort k x).pending = s.pending := rfl
@[simp] theorem State.rush_putPort (s : State) (k q : Nat) (x : PortSt) : (s.putPort k x).rush q = s.rush q := rfl
@[simp] theorem State.sampSet_putPort (s : State) (k q : Nat) (x : PortSt) : (s.putPort k x).sampSet q = s.sampSet q := rfl
@[simp] theorem State.cmp_putPort (s : State) (k q : Nat) (x : PortSt) : (s.putPort k x).cmp q = s.cmp q := rfl
@[simp] theorem State.session_putPort (s : State) (k q : Nat) (x : PortSt) : (s.putPort k x).session q = s.session q := rfl
@[simp] theorem State.pf_putPort (s : State) (k q : Nat) (x : PortSt) : (s.putPort k x).pf q = s.pf q := rfl
@[simp] theorem State.emu_putPort (s : State) (k q : Nat) (x : PortSt) : (s.putPort k x).emu q = s.emu q := rfl
@[simp] theorem State.eng_putPort (s : State) (k q : Nat) (x : PortSt) : (s.putPort k x).eng q = s.eng q := rfl
@[simp] theorem State.reel_putPort (s : State) (k q : Nat) (x : PortSt) : (s.putPort k x).reel q = s.reel q := rfl
@[simp] theorem State.bank_putPort (s : State) (k q : Nat) (x : PortSt) : (s.putPort k x).bank q = s.bank q := rfl
@[simp] theorem State.dma_putPort (s : State) (k q : Nat) (x : PortSt) : (s.putPort k x).dma q = s.dma q := rfl
@[simp] theorem State.core_putPort (s : State) (k q : Nat) (x : PortSt) : (s.putPort k x).core q = s.core q := rfl
@[simp] theorem State.serial_putPort (s : State) (k q : Nat) (x : PortSt) : (s.putPort k x).serial q = s.serial q := rfl
@[simp] theorem State.eng_putEng_same (s : State) (k : Nat) (x : EngSt) : (s.putEng k x).eng k = x :=
  Tab.get_set_same _ _ _ _
theorem State.eng_putEng_ne (s : State) {k q : Nat} (x : EngSt) (h : k ≠ q) : (s.putEng k x).eng q = s.eng q :=
  Tab.get_set_ne _ _ _ h
@[simp] theorem State.putEng_now (s : State) (k : Nat) (x : EngSt) : (s.putEng k x).now = s.now := rfl
@[simp] theorem State.putEng_tcRun (s : State) (k : Nat) (x : EngSt) : (s.putEng k x).tcRun = s.tcRun := rfl
@[simp] theorem State.putEng_tcSaved (s : State) (k : Nat) (x : EngSt) : (s.putEng k x).tcSaved = s.tcSaved := rfl
@[simp] theorem State.putEng_syncWait (s : State) (k : Nat) (x : EngSt) : (s.putEng k x).syncWait = s.syncWait := rfl
@[simp] theorem State.putEng_fields (s : State) (k : Nat) (x : EngSt) : (s.putEng k x).fields = s.fields := rfl
@[simp] theorem State.putEng_mem (s : State) (k : Nat) (x : EngSt) : (s.putEng k x).mem = s.mem := rfl
@[simp] theorem State.putEng_marks (s : State) (k : Nat) (x : EngSt) : (s.putEng k x).marks = s.marks := rfl
@[simp] theorem State.putEng_bus (s : State) (k : Nat) (x : EngSt) : (s.putEng k x).bus = s.bus := rfl
@[simp] theorem State.putEng_held (s : State) (k : Nat) (x : EngSt) : (s.putEng k x).held = s.held := rfl
@[simp] theorem State.putEng_events (s : State) (k : Nat) (x : EngSt) : (s.putEng k x).events = s.events := rfl
@[simp] theorem State.putEng_reports (s : State) (k : Nat) (x : EngSt) : (s.putEng k x).reports = s.reports := rfl
@[simp] theorem State.putEng_trigAt (s : State) (k : Nat) (x : EngSt) : (s.putEng k x).trigAt = s.trigAt := rfl
@[simp] theorem State.putEng_trim (s : State) (k : Nat) (x : EngSt) : (s.putEng k x).trim = s.trim := rfl
@[simp] theorem State.putEng_calGen (s : State) (k : Nat) (x : EngSt) : (s.putEng k x).calGen = s.calGen := rfl
@[simp] theorem State.putEng_calEnd (s : State) (k : Nat) (x : EngSt) : (s.putEng k x).calEnd = s.calEnd := rfl
@[simp] theorem State.putEng_portWrites (s : State) (k : Nat) (x : EngSt) : (s.putEng k x).portWrites = s.portWrites := rfl
@[simp] theorem State.putEng_latFlight (s : State) (k : Nat) (x : EngSt) : (s.putEng k x).latFlight = s.latFlight := rfl
@[simp] theorem State.putEng_cut (s : State) (k : Nat) (x : EngSt) : (s.putEng k x).cut = s.cut := rfl
@[simp] theorem State.putEng_laneTest (s : State) (k : Nat) (x : EngSt) : (s.putEng k x).laneTest = s.laneTest := rfl
@[simp] theorem State.putEng_gafQueue (s : State) (k : Nat) (x : EngSt) : (s.putEng k x).gafQueue = s.gafQueue := rfl
@[simp] theorem State.putEng_starts (s : State) (k : Nat) (x : EngSt) : (s.putEng k x).starts = s.starts := rfl
@[simp] theorem State.putEng_zoneLast (s : State) (k : Nat) (x : EngSt) : (s.putEng k x).zoneLast = s.zoneLast := rfl
@[simp] theorem State.putEng_slateOut (s : State) (k : Nat) (x : EngSt) : (s.putEng k x).slateOut = s.slateOut := rfl
@[simp] theorem State.putEng_engIn (s : State) (k : Nat) (x : EngSt) : (s.putEng k x).engIn = s.engIn := rfl
@[simp] theorem State.putEng_engTrigs (s : State) (k : Nat) (x : EngSt) : (s.putEng k x).engTrigs = s.engTrigs := rfl
@[simp] theorem State.putEng_engNeg (s : State) (k : Nat) (x : EngSt) : (s.putEng k x).engNeg = s.engNeg := rfl
@[simp] theorem State.putEng_reelQ (s : State) (k : Nat) (x : EngSt) : (s.putEng k x).reelQ = s.reelQ := rfl
@[simp] theorem State.putEng_xfer (s : State) (k : Nat) (x : EngSt) : (s.putEng k x).xfer = s.xfer := rfl
@[simp] theorem State.putEng_patrol (s : State) (k : Nat) (x : EngSt) : (s.putEng k x).patrol = s.patrol := rfl
@[simp] theorem State.putEng_ddrCap (s : State) (k : Nat) (x : EngSt) : (s.putEng k x).ddrCap = s.ddrCap := rfl
@[simp] theorem State.putEng_flash (s : State) (k : Nat) (x : EngSt) : (s.putEng k x).flash = s.flash := rfl
@[simp] theorem State.putEng_recs (s : State) (k : Nat) (x : EngSt) : (s.putEng k x).recs = s.recs := rfl
@[simp] theorem State.putEng_ctu (s : State) (k : Nat) (x : EngSt) : (s.putEng k x).ctu = s.ctu := rfl
@[simp] theorem State.putEng_image (s : State) (k : Nat) (x : EngSt) : (s.putEng k x).image = s.image := rfl
@[simp] theorem State.putEng_gaf (s : State) (k : Nat) (x : EngSt) : (s.putEng k x).gaf = s.gaf := rfl
@[simp] theorem State.putEng_power (s : State) (k : Nat) (x : EngSt) : (s.putEng k x).power = s.power := rfl
@[simp] theorem State.putEng_otp (s : State) (k : Nat) (x : EngSt) : (s.putEng k x).otp = s.otp := rfl
@[simp] theorem State.putEng_boot (s : State) (k : Nat) (x : EngSt) : (s.putEng k x).boot = s.boot := rfl
@[simp] theorem State.putEng_sec (s : State) (k : Nat) (x : EngSt) : (s.putEng k x).sec = s.sec := rfl
@[simp] theorem State.putEng_link (s : State) (k : Nat) (x : EngSt) : (s.putEng k x).link = s.link := rfl
@[simp] theorem State.putEng_rushes (s : State) (k : Nat) (x : EngSt) : (s.putEng k x).rushes = s.rushes := rfl
@[simp] theorem State.putEng_sets (s : State) (k : Nat) (x : EngSt) : (s.putEng k x).sets = s.sets := rfl
@[simp] theorem State.putEng_cmps (s : State) (k : Nat) (x : EngSt) : (s.putEng k x).cmps = s.cmps := rfl
@[simp] theorem State.putEng_sessions (s : State) (k : Nat) (x : EngSt) : (s.putEng k x).sessions = s.sessions := rfl
@[simp] theorem State.putEng_feedback (s : State) (k : Nat) (x : EngSt) : (s.putEng k x).feedback = s.feedback := rfl
@[simp] theorem State.putEng_emus (s : State) (k : Nat) (x : EngSt) : (s.putEng k x).emus = s.emus := rfl
@[simp] theorem State.putEng_ports (s : State) (k : Nat) (x : EngSt) : (s.putEng k x).ports = s.ports := rfl
@[simp] theorem State.putEng_reels (s : State) (k : Nat) (x : EngSt) : (s.putEng k x).reels = s.reels := rfl
@[simp] theorem State.putEng_banks (s : State) (k : Nat) (x : EngSt) : (s.putEng k x).banks = s.banks := rfl
@[simp] theorem State.putEng_dmas (s : State) (k : Nat) (x : EngSt) : (s.putEng k x).dmas = s.dmas := rfl
@[simp] theorem State.putEng_cores (s : State) (k : Nat) (x : EngSt) : (s.putEng k x).cores = s.cores := rfl
@[simp] theorem State.putEng_serials (s : State) (k : Nat) (x : EngSt) : (s.putEng k x).serials = s.serials := rfl
@[simp] theorem State.putEng_free (s : State) (k : Nat) (x : EngSt) : (s.putEng k x).free = s.free := rfl
@[simp] theorem State.putEng_pending (s : State) (k : Nat) (x : EngSt) : (s.putEng k x).pending = s.pending := rfl
@[simp] theorem State.rush_putEng (s : State) (k q : Nat) (x : EngSt) : (s.putEng k x).rush q = s.rush q := rfl
@[simp] theorem State.sampSet_putEng (s : State) (k q : Nat) (x : EngSt) : (s.putEng k x).sampSet q = s.sampSet q := rfl
@[simp] theorem State.cmp_putEng (s : State) (k q : Nat) (x : EngSt) : (s.putEng k x).cmp q = s.cmp q := rfl
@[simp] theorem State.session_putEng (s : State) (k q : Nat) (x : EngSt) : (s.putEng k x).session q = s.session q := rfl
@[simp] theorem State.pf_putEng (s : State) (k q : Nat) (x : EngSt) : (s.putEng k x).pf q = s.pf q := rfl
@[simp] theorem State.emu_putEng (s : State) (k q : Nat) (x : EngSt) : (s.putEng k x).emu q = s.emu q := rfl
@[simp] theorem State.port_putEng (s : State) (k q : Nat) (x : EngSt) : (s.putEng k x).port q = s.port q := rfl
@[simp] theorem State.reel_putEng (s : State) (k q : Nat) (x : EngSt) : (s.putEng k x).reel q = s.reel q := rfl
@[simp] theorem State.bank_putEng (s : State) (k q : Nat) (x : EngSt) : (s.putEng k x).bank q = s.bank q := rfl
@[simp] theorem State.dma_putEng (s : State) (k q : Nat) (x : EngSt) : (s.putEng k x).dma q = s.dma q := rfl
@[simp] theorem State.core_putEng (s : State) (k q : Nat) (x : EngSt) : (s.putEng k x).core q = s.core q := rfl
@[simp] theorem State.serial_putEng (s : State) (k q : Nat) (x : EngSt) : (s.putEng k x).serial q = s.serial q := rfl
@[simp] theorem State.reel_putReel_same (s : State) (k : Nat) (x : ReelSt) : (s.putReel k x).reel k = x :=
  Tab.get_set_same _ _ _ _
theorem State.reel_putReel_ne (s : State) {k q : Nat} (x : ReelSt) (h : k ≠ q) : (s.putReel k x).reel q = s.reel q :=
  Tab.get_set_ne _ _ _ h
@[simp] theorem State.putReel_now (s : State) (k : Nat) (x : ReelSt) : (s.putReel k x).now = s.now := rfl
@[simp] theorem State.putReel_tcRun (s : State) (k : Nat) (x : ReelSt) : (s.putReel k x).tcRun = s.tcRun := rfl
@[simp] theorem State.putReel_tcSaved (s : State) (k : Nat) (x : ReelSt) : (s.putReel k x).tcSaved = s.tcSaved := rfl
@[simp] theorem State.putReel_syncWait (s : State) (k : Nat) (x : ReelSt) : (s.putReel k x).syncWait = s.syncWait := rfl
@[simp] theorem State.putReel_fields (s : State) (k : Nat) (x : ReelSt) : (s.putReel k x).fields = s.fields := rfl
@[simp] theorem State.putReel_mem (s : State) (k : Nat) (x : ReelSt) : (s.putReel k x).mem = s.mem := rfl
@[simp] theorem State.putReel_marks (s : State) (k : Nat) (x : ReelSt) : (s.putReel k x).marks = s.marks := rfl
@[simp] theorem State.putReel_bus (s : State) (k : Nat) (x : ReelSt) : (s.putReel k x).bus = s.bus := rfl
@[simp] theorem State.putReel_held (s : State) (k : Nat) (x : ReelSt) : (s.putReel k x).held = s.held := rfl
@[simp] theorem State.putReel_events (s : State) (k : Nat) (x : ReelSt) : (s.putReel k x).events = s.events := rfl
@[simp] theorem State.putReel_reports (s : State) (k : Nat) (x : ReelSt) : (s.putReel k x).reports = s.reports := rfl
@[simp] theorem State.putReel_trigAt (s : State) (k : Nat) (x : ReelSt) : (s.putReel k x).trigAt = s.trigAt := rfl
@[simp] theorem State.putReel_trim (s : State) (k : Nat) (x : ReelSt) : (s.putReel k x).trim = s.trim := rfl
@[simp] theorem State.putReel_calGen (s : State) (k : Nat) (x : ReelSt) : (s.putReel k x).calGen = s.calGen := rfl
@[simp] theorem State.putReel_calEnd (s : State) (k : Nat) (x : ReelSt) : (s.putReel k x).calEnd = s.calEnd := rfl
@[simp] theorem State.putReel_portWrites (s : State) (k : Nat) (x : ReelSt) : (s.putReel k x).portWrites = s.portWrites := rfl
@[simp] theorem State.putReel_latFlight (s : State) (k : Nat) (x : ReelSt) : (s.putReel k x).latFlight = s.latFlight := rfl
@[simp] theorem State.putReel_cut (s : State) (k : Nat) (x : ReelSt) : (s.putReel k x).cut = s.cut := rfl
@[simp] theorem State.putReel_laneTest (s : State) (k : Nat) (x : ReelSt) : (s.putReel k x).laneTest = s.laneTest := rfl
@[simp] theorem State.putReel_gafQueue (s : State) (k : Nat) (x : ReelSt) : (s.putReel k x).gafQueue = s.gafQueue := rfl
@[simp] theorem State.putReel_starts (s : State) (k : Nat) (x : ReelSt) : (s.putReel k x).starts = s.starts := rfl
@[simp] theorem State.putReel_zoneLast (s : State) (k : Nat) (x : ReelSt) : (s.putReel k x).zoneLast = s.zoneLast := rfl
@[simp] theorem State.putReel_slateOut (s : State) (k : Nat) (x : ReelSt) : (s.putReel k x).slateOut = s.slateOut := rfl
@[simp] theorem State.putReel_engIn (s : State) (k : Nat) (x : ReelSt) : (s.putReel k x).engIn = s.engIn := rfl
@[simp] theorem State.putReel_engTrigs (s : State) (k : Nat) (x : ReelSt) : (s.putReel k x).engTrigs = s.engTrigs := rfl
@[simp] theorem State.putReel_engNeg (s : State) (k : Nat) (x : ReelSt) : (s.putReel k x).engNeg = s.engNeg := rfl
@[simp] theorem State.putReel_reelQ (s : State) (k : Nat) (x : ReelSt) : (s.putReel k x).reelQ = s.reelQ := rfl
@[simp] theorem State.putReel_xfer (s : State) (k : Nat) (x : ReelSt) : (s.putReel k x).xfer = s.xfer := rfl
@[simp] theorem State.putReel_patrol (s : State) (k : Nat) (x : ReelSt) : (s.putReel k x).patrol = s.patrol := rfl
@[simp] theorem State.putReel_ddrCap (s : State) (k : Nat) (x : ReelSt) : (s.putReel k x).ddrCap = s.ddrCap := rfl
@[simp] theorem State.putReel_flash (s : State) (k : Nat) (x : ReelSt) : (s.putReel k x).flash = s.flash := rfl
@[simp] theorem State.putReel_recs (s : State) (k : Nat) (x : ReelSt) : (s.putReel k x).recs = s.recs := rfl
@[simp] theorem State.putReel_ctu (s : State) (k : Nat) (x : ReelSt) : (s.putReel k x).ctu = s.ctu := rfl
@[simp] theorem State.putReel_image (s : State) (k : Nat) (x : ReelSt) : (s.putReel k x).image = s.image := rfl
@[simp] theorem State.putReel_gaf (s : State) (k : Nat) (x : ReelSt) : (s.putReel k x).gaf = s.gaf := rfl
@[simp] theorem State.putReel_power (s : State) (k : Nat) (x : ReelSt) : (s.putReel k x).power = s.power := rfl
@[simp] theorem State.putReel_otp (s : State) (k : Nat) (x : ReelSt) : (s.putReel k x).otp = s.otp := rfl
@[simp] theorem State.putReel_boot (s : State) (k : Nat) (x : ReelSt) : (s.putReel k x).boot = s.boot := rfl
@[simp] theorem State.putReel_sec (s : State) (k : Nat) (x : ReelSt) : (s.putReel k x).sec = s.sec := rfl
@[simp] theorem State.putReel_link (s : State) (k : Nat) (x : ReelSt) : (s.putReel k x).link = s.link := rfl
@[simp] theorem State.putReel_rushes (s : State) (k : Nat) (x : ReelSt) : (s.putReel k x).rushes = s.rushes := rfl
@[simp] theorem State.putReel_sets (s : State) (k : Nat) (x : ReelSt) : (s.putReel k x).sets = s.sets := rfl
@[simp] theorem State.putReel_cmps (s : State) (k : Nat) (x : ReelSt) : (s.putReel k x).cmps = s.cmps := rfl
@[simp] theorem State.putReel_sessions (s : State) (k : Nat) (x : ReelSt) : (s.putReel k x).sessions = s.sessions := rfl
@[simp] theorem State.putReel_feedback (s : State) (k : Nat) (x : ReelSt) : (s.putReel k x).feedback = s.feedback := rfl
@[simp] theorem State.putReel_emus (s : State) (k : Nat) (x : ReelSt) : (s.putReel k x).emus = s.emus := rfl
@[simp] theorem State.putReel_ports (s : State) (k : Nat) (x : ReelSt) : (s.putReel k x).ports = s.ports := rfl
@[simp] theorem State.putReel_engines (s : State) (k : Nat) (x : ReelSt) : (s.putReel k x).engines = s.engines := rfl
@[simp] theorem State.putReel_banks (s : State) (k : Nat) (x : ReelSt) : (s.putReel k x).banks = s.banks := rfl
@[simp] theorem State.putReel_dmas (s : State) (k : Nat) (x : ReelSt) : (s.putReel k x).dmas = s.dmas := rfl
@[simp] theorem State.putReel_cores (s : State) (k : Nat) (x : ReelSt) : (s.putReel k x).cores = s.cores := rfl
@[simp] theorem State.putReel_serials (s : State) (k : Nat) (x : ReelSt) : (s.putReel k x).serials = s.serials := rfl
@[simp] theorem State.putReel_free (s : State) (k : Nat) (x : ReelSt) : (s.putReel k x).free = s.free := rfl
@[simp] theorem State.putReel_pending (s : State) (k : Nat) (x : ReelSt) : (s.putReel k x).pending = s.pending := rfl
@[simp] theorem State.rush_putReel (s : State) (k q : Nat) (x : ReelSt) : (s.putReel k x).rush q = s.rush q := rfl
@[simp] theorem State.sampSet_putReel (s : State) (k q : Nat) (x : ReelSt) : (s.putReel k x).sampSet q = s.sampSet q := rfl
@[simp] theorem State.cmp_putReel (s : State) (k q : Nat) (x : ReelSt) : (s.putReel k x).cmp q = s.cmp q := rfl
@[simp] theorem State.session_putReel (s : State) (k q : Nat) (x : ReelSt) : (s.putReel k x).session q = s.session q := rfl
@[simp] theorem State.pf_putReel (s : State) (k q : Nat) (x : ReelSt) : (s.putReel k x).pf q = s.pf q := rfl
@[simp] theorem State.emu_putReel (s : State) (k q : Nat) (x : ReelSt) : (s.putReel k x).emu q = s.emu q := rfl
@[simp] theorem State.port_putReel (s : State) (k q : Nat) (x : ReelSt) : (s.putReel k x).port q = s.port q := rfl
@[simp] theorem State.eng_putReel (s : State) (k q : Nat) (x : ReelSt) : (s.putReel k x).eng q = s.eng q := rfl
@[simp] theorem State.bank_putReel (s : State) (k q : Nat) (x : ReelSt) : (s.putReel k x).bank q = s.bank q := rfl
@[simp] theorem State.dma_putReel (s : State) (k q : Nat) (x : ReelSt) : (s.putReel k x).dma q = s.dma q := rfl
@[simp] theorem State.core_putReel (s : State) (k q : Nat) (x : ReelSt) : (s.putReel k x).core q = s.core q := rfl
@[simp] theorem State.serial_putReel (s : State) (k q : Nat) (x : ReelSt) : (s.putReel k x).serial q = s.serial q := rfl
@[simp] theorem State.bank_putBank_same (s : State) (k : Nat) (x : BankSt) : (s.putBank k x).bank k = x :=
  Tab.get_set_same _ _ _ _
theorem State.bank_putBank_ne (s : State) {k q : Nat} (x : BankSt) (h : k ≠ q) : (s.putBank k x).bank q = s.bank q :=
  Tab.get_set_ne _ _ _ h
@[simp] theorem State.putBank_now (s : State) (k : Nat) (x : BankSt) : (s.putBank k x).now = s.now := rfl
@[simp] theorem State.putBank_tcRun (s : State) (k : Nat) (x : BankSt) : (s.putBank k x).tcRun = s.tcRun := rfl
@[simp] theorem State.putBank_tcSaved (s : State) (k : Nat) (x : BankSt) : (s.putBank k x).tcSaved = s.tcSaved := rfl
@[simp] theorem State.putBank_syncWait (s : State) (k : Nat) (x : BankSt) : (s.putBank k x).syncWait = s.syncWait := rfl
@[simp] theorem State.putBank_fields (s : State) (k : Nat) (x : BankSt) : (s.putBank k x).fields = s.fields := rfl
@[simp] theorem State.putBank_mem (s : State) (k : Nat) (x : BankSt) : (s.putBank k x).mem = s.mem := rfl
@[simp] theorem State.putBank_marks (s : State) (k : Nat) (x : BankSt) : (s.putBank k x).marks = s.marks := rfl
@[simp] theorem State.putBank_bus (s : State) (k : Nat) (x : BankSt) : (s.putBank k x).bus = s.bus := rfl
@[simp] theorem State.putBank_held (s : State) (k : Nat) (x : BankSt) : (s.putBank k x).held = s.held := rfl
@[simp] theorem State.putBank_events (s : State) (k : Nat) (x : BankSt) : (s.putBank k x).events = s.events := rfl
@[simp] theorem State.putBank_reports (s : State) (k : Nat) (x : BankSt) : (s.putBank k x).reports = s.reports := rfl
@[simp] theorem State.putBank_trigAt (s : State) (k : Nat) (x : BankSt) : (s.putBank k x).trigAt = s.trigAt := rfl
@[simp] theorem State.putBank_trim (s : State) (k : Nat) (x : BankSt) : (s.putBank k x).trim = s.trim := rfl
@[simp] theorem State.putBank_calGen (s : State) (k : Nat) (x : BankSt) : (s.putBank k x).calGen = s.calGen := rfl
@[simp] theorem State.putBank_calEnd (s : State) (k : Nat) (x : BankSt) : (s.putBank k x).calEnd = s.calEnd := rfl
@[simp] theorem State.putBank_portWrites (s : State) (k : Nat) (x : BankSt) : (s.putBank k x).portWrites = s.portWrites := rfl
@[simp] theorem State.putBank_latFlight (s : State) (k : Nat) (x : BankSt) : (s.putBank k x).latFlight = s.latFlight := rfl
@[simp] theorem State.putBank_cut (s : State) (k : Nat) (x : BankSt) : (s.putBank k x).cut = s.cut := rfl
@[simp] theorem State.putBank_laneTest (s : State) (k : Nat) (x : BankSt) : (s.putBank k x).laneTest = s.laneTest := rfl
@[simp] theorem State.putBank_gafQueue (s : State) (k : Nat) (x : BankSt) : (s.putBank k x).gafQueue = s.gafQueue := rfl
@[simp] theorem State.putBank_starts (s : State) (k : Nat) (x : BankSt) : (s.putBank k x).starts = s.starts := rfl
@[simp] theorem State.putBank_zoneLast (s : State) (k : Nat) (x : BankSt) : (s.putBank k x).zoneLast = s.zoneLast := rfl
@[simp] theorem State.putBank_slateOut (s : State) (k : Nat) (x : BankSt) : (s.putBank k x).slateOut = s.slateOut := rfl
@[simp] theorem State.putBank_engIn (s : State) (k : Nat) (x : BankSt) : (s.putBank k x).engIn = s.engIn := rfl
@[simp] theorem State.putBank_engTrigs (s : State) (k : Nat) (x : BankSt) : (s.putBank k x).engTrigs = s.engTrigs := rfl
@[simp] theorem State.putBank_engNeg (s : State) (k : Nat) (x : BankSt) : (s.putBank k x).engNeg = s.engNeg := rfl
@[simp] theorem State.putBank_reelQ (s : State) (k : Nat) (x : BankSt) : (s.putBank k x).reelQ = s.reelQ := rfl
@[simp] theorem State.putBank_xfer (s : State) (k : Nat) (x : BankSt) : (s.putBank k x).xfer = s.xfer := rfl
@[simp] theorem State.putBank_patrol (s : State) (k : Nat) (x : BankSt) : (s.putBank k x).patrol = s.patrol := rfl
@[simp] theorem State.putBank_ddrCap (s : State) (k : Nat) (x : BankSt) : (s.putBank k x).ddrCap = s.ddrCap := rfl
@[simp] theorem State.putBank_flash (s : State) (k : Nat) (x : BankSt) : (s.putBank k x).flash = s.flash := rfl
@[simp] theorem State.putBank_recs (s : State) (k : Nat) (x : BankSt) : (s.putBank k x).recs = s.recs := rfl
@[simp] theorem State.putBank_ctu (s : State) (k : Nat) (x : BankSt) : (s.putBank k x).ctu = s.ctu := rfl
@[simp] theorem State.putBank_image (s : State) (k : Nat) (x : BankSt) : (s.putBank k x).image = s.image := rfl
@[simp] theorem State.putBank_gaf (s : State) (k : Nat) (x : BankSt) : (s.putBank k x).gaf = s.gaf := rfl
@[simp] theorem State.putBank_power (s : State) (k : Nat) (x : BankSt) : (s.putBank k x).power = s.power := rfl
@[simp] theorem State.putBank_otp (s : State) (k : Nat) (x : BankSt) : (s.putBank k x).otp = s.otp := rfl
@[simp] theorem State.putBank_boot (s : State) (k : Nat) (x : BankSt) : (s.putBank k x).boot = s.boot := rfl
@[simp] theorem State.putBank_sec (s : State) (k : Nat) (x : BankSt) : (s.putBank k x).sec = s.sec := rfl
@[simp] theorem State.putBank_link (s : State) (k : Nat) (x : BankSt) : (s.putBank k x).link = s.link := rfl
@[simp] theorem State.putBank_rushes (s : State) (k : Nat) (x : BankSt) : (s.putBank k x).rushes = s.rushes := rfl
@[simp] theorem State.putBank_sets (s : State) (k : Nat) (x : BankSt) : (s.putBank k x).sets = s.sets := rfl
@[simp] theorem State.putBank_cmps (s : State) (k : Nat) (x : BankSt) : (s.putBank k x).cmps = s.cmps := rfl
@[simp] theorem State.putBank_sessions (s : State) (k : Nat) (x : BankSt) : (s.putBank k x).sessions = s.sessions := rfl
@[simp] theorem State.putBank_feedback (s : State) (k : Nat) (x : BankSt) : (s.putBank k x).feedback = s.feedback := rfl
@[simp] theorem State.putBank_emus (s : State) (k : Nat) (x : BankSt) : (s.putBank k x).emus = s.emus := rfl
@[simp] theorem State.putBank_ports (s : State) (k : Nat) (x : BankSt) : (s.putBank k x).ports = s.ports := rfl
@[simp] theorem State.putBank_engines (s : State) (k : Nat) (x : BankSt) : (s.putBank k x).engines = s.engines := rfl
@[simp] theorem State.putBank_reels (s : State) (k : Nat) (x : BankSt) : (s.putBank k x).reels = s.reels := rfl
@[simp] theorem State.putBank_dmas (s : State) (k : Nat) (x : BankSt) : (s.putBank k x).dmas = s.dmas := rfl
@[simp] theorem State.putBank_cores (s : State) (k : Nat) (x : BankSt) : (s.putBank k x).cores = s.cores := rfl
@[simp] theorem State.putBank_serials (s : State) (k : Nat) (x : BankSt) : (s.putBank k x).serials = s.serials := rfl
@[simp] theorem State.putBank_free (s : State) (k : Nat) (x : BankSt) : (s.putBank k x).free = s.free := rfl
@[simp] theorem State.putBank_pending (s : State) (k : Nat) (x : BankSt) : (s.putBank k x).pending = s.pending := rfl
@[simp] theorem State.rush_putBank (s : State) (k q : Nat) (x : BankSt) : (s.putBank k x).rush q = s.rush q := rfl
@[simp] theorem State.sampSet_putBank (s : State) (k q : Nat) (x : BankSt) : (s.putBank k x).sampSet q = s.sampSet q := rfl
@[simp] theorem State.cmp_putBank (s : State) (k q : Nat) (x : BankSt) : (s.putBank k x).cmp q = s.cmp q := rfl
@[simp] theorem State.session_putBank (s : State) (k q : Nat) (x : BankSt) : (s.putBank k x).session q = s.session q := rfl
@[simp] theorem State.pf_putBank (s : State) (k q : Nat) (x : BankSt) : (s.putBank k x).pf q = s.pf q := rfl
@[simp] theorem State.emu_putBank (s : State) (k q : Nat) (x : BankSt) : (s.putBank k x).emu q = s.emu q := rfl
@[simp] theorem State.port_putBank (s : State) (k q : Nat) (x : BankSt) : (s.putBank k x).port q = s.port q := rfl
@[simp] theorem State.eng_putBank (s : State) (k q : Nat) (x : BankSt) : (s.putBank k x).eng q = s.eng q := rfl
@[simp] theorem State.reel_putBank (s : State) (k q : Nat) (x : BankSt) : (s.putBank k x).reel q = s.reel q := rfl
@[simp] theorem State.dma_putBank (s : State) (k q : Nat) (x : BankSt) : (s.putBank k x).dma q = s.dma q := rfl
@[simp] theorem State.core_putBank (s : State) (k q : Nat) (x : BankSt) : (s.putBank k x).core q = s.core q := rfl
@[simp] theorem State.serial_putBank (s : State) (k q : Nat) (x : BankSt) : (s.putBank k x).serial q = s.serial q := rfl
@[simp] theorem State.dma_putDma_same (s : State) (k : Nat) (x : DmaSt) : (s.putDma k x).dma k = x :=
  Tab.get_set_same _ _ _ _
theorem State.dma_putDma_ne (s : State) {k q : Nat} (x : DmaSt) (h : k ≠ q) : (s.putDma k x).dma q = s.dma q :=
  Tab.get_set_ne _ _ _ h
@[simp] theorem State.putDma_now (s : State) (k : Nat) (x : DmaSt) : (s.putDma k x).now = s.now := rfl
@[simp] theorem State.putDma_tcRun (s : State) (k : Nat) (x : DmaSt) : (s.putDma k x).tcRun = s.tcRun := rfl
@[simp] theorem State.putDma_tcSaved (s : State) (k : Nat) (x : DmaSt) : (s.putDma k x).tcSaved = s.tcSaved := rfl
@[simp] theorem State.putDma_syncWait (s : State) (k : Nat) (x : DmaSt) : (s.putDma k x).syncWait = s.syncWait := rfl
@[simp] theorem State.putDma_fields (s : State) (k : Nat) (x : DmaSt) : (s.putDma k x).fields = s.fields := rfl
@[simp] theorem State.putDma_mem (s : State) (k : Nat) (x : DmaSt) : (s.putDma k x).mem = s.mem := rfl
@[simp] theorem State.putDma_marks (s : State) (k : Nat) (x : DmaSt) : (s.putDma k x).marks = s.marks := rfl
@[simp] theorem State.putDma_bus (s : State) (k : Nat) (x : DmaSt) : (s.putDma k x).bus = s.bus := rfl
@[simp] theorem State.putDma_held (s : State) (k : Nat) (x : DmaSt) : (s.putDma k x).held = s.held := rfl
@[simp] theorem State.putDma_events (s : State) (k : Nat) (x : DmaSt) : (s.putDma k x).events = s.events := rfl
@[simp] theorem State.putDma_reports (s : State) (k : Nat) (x : DmaSt) : (s.putDma k x).reports = s.reports := rfl
@[simp] theorem State.putDma_trigAt (s : State) (k : Nat) (x : DmaSt) : (s.putDma k x).trigAt = s.trigAt := rfl
@[simp] theorem State.putDma_trim (s : State) (k : Nat) (x : DmaSt) : (s.putDma k x).trim = s.trim := rfl
@[simp] theorem State.putDma_calGen (s : State) (k : Nat) (x : DmaSt) : (s.putDma k x).calGen = s.calGen := rfl
@[simp] theorem State.putDma_calEnd (s : State) (k : Nat) (x : DmaSt) : (s.putDma k x).calEnd = s.calEnd := rfl
@[simp] theorem State.putDma_portWrites (s : State) (k : Nat) (x : DmaSt) : (s.putDma k x).portWrites = s.portWrites := rfl
@[simp] theorem State.putDma_latFlight (s : State) (k : Nat) (x : DmaSt) : (s.putDma k x).latFlight = s.latFlight := rfl
@[simp] theorem State.putDma_cut (s : State) (k : Nat) (x : DmaSt) : (s.putDma k x).cut = s.cut := rfl
@[simp] theorem State.putDma_laneTest (s : State) (k : Nat) (x : DmaSt) : (s.putDma k x).laneTest = s.laneTest := rfl
@[simp] theorem State.putDma_gafQueue (s : State) (k : Nat) (x : DmaSt) : (s.putDma k x).gafQueue = s.gafQueue := rfl
@[simp] theorem State.putDma_starts (s : State) (k : Nat) (x : DmaSt) : (s.putDma k x).starts = s.starts := rfl
@[simp] theorem State.putDma_zoneLast (s : State) (k : Nat) (x : DmaSt) : (s.putDma k x).zoneLast = s.zoneLast := rfl
@[simp] theorem State.putDma_slateOut (s : State) (k : Nat) (x : DmaSt) : (s.putDma k x).slateOut = s.slateOut := rfl
@[simp] theorem State.putDma_engIn (s : State) (k : Nat) (x : DmaSt) : (s.putDma k x).engIn = s.engIn := rfl
@[simp] theorem State.putDma_engTrigs (s : State) (k : Nat) (x : DmaSt) : (s.putDma k x).engTrigs = s.engTrigs := rfl
@[simp] theorem State.putDma_engNeg (s : State) (k : Nat) (x : DmaSt) : (s.putDma k x).engNeg = s.engNeg := rfl
@[simp] theorem State.putDma_reelQ (s : State) (k : Nat) (x : DmaSt) : (s.putDma k x).reelQ = s.reelQ := rfl
@[simp] theorem State.putDma_xfer (s : State) (k : Nat) (x : DmaSt) : (s.putDma k x).xfer = s.xfer := rfl
@[simp] theorem State.putDma_patrol (s : State) (k : Nat) (x : DmaSt) : (s.putDma k x).patrol = s.patrol := rfl
@[simp] theorem State.putDma_ddrCap (s : State) (k : Nat) (x : DmaSt) : (s.putDma k x).ddrCap = s.ddrCap := rfl
@[simp] theorem State.putDma_flash (s : State) (k : Nat) (x : DmaSt) : (s.putDma k x).flash = s.flash := rfl
@[simp] theorem State.putDma_recs (s : State) (k : Nat) (x : DmaSt) : (s.putDma k x).recs = s.recs := rfl
@[simp] theorem State.putDma_ctu (s : State) (k : Nat) (x : DmaSt) : (s.putDma k x).ctu = s.ctu := rfl
@[simp] theorem State.putDma_image (s : State) (k : Nat) (x : DmaSt) : (s.putDma k x).image = s.image := rfl
@[simp] theorem State.putDma_gaf (s : State) (k : Nat) (x : DmaSt) : (s.putDma k x).gaf = s.gaf := rfl
@[simp] theorem State.putDma_power (s : State) (k : Nat) (x : DmaSt) : (s.putDma k x).power = s.power := rfl
@[simp] theorem State.putDma_otp (s : State) (k : Nat) (x : DmaSt) : (s.putDma k x).otp = s.otp := rfl
@[simp] theorem State.putDma_boot (s : State) (k : Nat) (x : DmaSt) : (s.putDma k x).boot = s.boot := rfl
@[simp] theorem State.putDma_sec (s : State) (k : Nat) (x : DmaSt) : (s.putDma k x).sec = s.sec := rfl
@[simp] theorem State.putDma_link (s : State) (k : Nat) (x : DmaSt) : (s.putDma k x).link = s.link := rfl
@[simp] theorem State.putDma_rushes (s : State) (k : Nat) (x : DmaSt) : (s.putDma k x).rushes = s.rushes := rfl
@[simp] theorem State.putDma_sets (s : State) (k : Nat) (x : DmaSt) : (s.putDma k x).sets = s.sets := rfl
@[simp] theorem State.putDma_cmps (s : State) (k : Nat) (x : DmaSt) : (s.putDma k x).cmps = s.cmps := rfl
@[simp] theorem State.putDma_sessions (s : State) (k : Nat) (x : DmaSt) : (s.putDma k x).sessions = s.sessions := rfl
@[simp] theorem State.putDma_feedback (s : State) (k : Nat) (x : DmaSt) : (s.putDma k x).feedback = s.feedback := rfl
@[simp] theorem State.putDma_emus (s : State) (k : Nat) (x : DmaSt) : (s.putDma k x).emus = s.emus := rfl
@[simp] theorem State.putDma_ports (s : State) (k : Nat) (x : DmaSt) : (s.putDma k x).ports = s.ports := rfl
@[simp] theorem State.putDma_engines (s : State) (k : Nat) (x : DmaSt) : (s.putDma k x).engines = s.engines := rfl
@[simp] theorem State.putDma_reels (s : State) (k : Nat) (x : DmaSt) : (s.putDma k x).reels = s.reels := rfl
@[simp] theorem State.putDma_banks (s : State) (k : Nat) (x : DmaSt) : (s.putDma k x).banks = s.banks := rfl
@[simp] theorem State.putDma_cores (s : State) (k : Nat) (x : DmaSt) : (s.putDma k x).cores = s.cores := rfl
@[simp] theorem State.putDma_serials (s : State) (k : Nat) (x : DmaSt) : (s.putDma k x).serials = s.serials := rfl
@[simp] theorem State.putDma_free (s : State) (k : Nat) (x : DmaSt) : (s.putDma k x).free = s.free := rfl
@[simp] theorem State.putDma_pending (s : State) (k : Nat) (x : DmaSt) : (s.putDma k x).pending = s.pending := rfl
@[simp] theorem State.rush_putDma (s : State) (k q : Nat) (x : DmaSt) : (s.putDma k x).rush q = s.rush q := rfl
@[simp] theorem State.sampSet_putDma (s : State) (k q : Nat) (x : DmaSt) : (s.putDma k x).sampSet q = s.sampSet q := rfl
@[simp] theorem State.cmp_putDma (s : State) (k q : Nat) (x : DmaSt) : (s.putDma k x).cmp q = s.cmp q := rfl
@[simp] theorem State.session_putDma (s : State) (k q : Nat) (x : DmaSt) : (s.putDma k x).session q = s.session q := rfl
@[simp] theorem State.pf_putDma (s : State) (k q : Nat) (x : DmaSt) : (s.putDma k x).pf q = s.pf q := rfl
@[simp] theorem State.emu_putDma (s : State) (k q : Nat) (x : DmaSt) : (s.putDma k x).emu q = s.emu q := rfl
@[simp] theorem State.port_putDma (s : State) (k q : Nat) (x : DmaSt) : (s.putDma k x).port q = s.port q := rfl
@[simp] theorem State.eng_putDma (s : State) (k q : Nat) (x : DmaSt) : (s.putDma k x).eng q = s.eng q := rfl
@[simp] theorem State.reel_putDma (s : State) (k q : Nat) (x : DmaSt) : (s.putDma k x).reel q = s.reel q := rfl
@[simp] theorem State.bank_putDma (s : State) (k q : Nat) (x : DmaSt) : (s.putDma k x).bank q = s.bank q := rfl
@[simp] theorem State.core_putDma (s : State) (k q : Nat) (x : DmaSt) : (s.putDma k x).core q = s.core q := rfl
@[simp] theorem State.serial_putDma (s : State) (k q : Nat) (x : DmaSt) : (s.putDma k x).serial q = s.serial q := rfl
@[simp] theorem State.core_putCore_same (s : State) (k : Nat) (x : CoreSt) : (s.putCore k x).core k = x :=
  Tab.get_set_same _ _ _ _
theorem State.core_putCore_ne (s : State) {k q : Nat} (x : CoreSt) (h : k ≠ q) : (s.putCore k x).core q = s.core q :=
  Tab.get_set_ne _ _ _ h
@[simp] theorem State.putCore_now (s : State) (k : Nat) (x : CoreSt) : (s.putCore k x).now = s.now := rfl
@[simp] theorem State.putCore_tcRun (s : State) (k : Nat) (x : CoreSt) : (s.putCore k x).tcRun = s.tcRun := rfl
@[simp] theorem State.putCore_tcSaved (s : State) (k : Nat) (x : CoreSt) : (s.putCore k x).tcSaved = s.tcSaved := rfl
@[simp] theorem State.putCore_syncWait (s : State) (k : Nat) (x : CoreSt) : (s.putCore k x).syncWait = s.syncWait := rfl
@[simp] theorem State.putCore_fields (s : State) (k : Nat) (x : CoreSt) : (s.putCore k x).fields = s.fields := rfl
@[simp] theorem State.putCore_mem (s : State) (k : Nat) (x : CoreSt) : (s.putCore k x).mem = s.mem := rfl
@[simp] theorem State.putCore_marks (s : State) (k : Nat) (x : CoreSt) : (s.putCore k x).marks = s.marks := rfl
@[simp] theorem State.putCore_bus (s : State) (k : Nat) (x : CoreSt) : (s.putCore k x).bus = s.bus := rfl
@[simp] theorem State.putCore_held (s : State) (k : Nat) (x : CoreSt) : (s.putCore k x).held = s.held := rfl
@[simp] theorem State.putCore_events (s : State) (k : Nat) (x : CoreSt) : (s.putCore k x).events = s.events := rfl
@[simp] theorem State.putCore_reports (s : State) (k : Nat) (x : CoreSt) : (s.putCore k x).reports = s.reports := rfl
@[simp] theorem State.putCore_trigAt (s : State) (k : Nat) (x : CoreSt) : (s.putCore k x).trigAt = s.trigAt := rfl
@[simp] theorem State.putCore_trim (s : State) (k : Nat) (x : CoreSt) : (s.putCore k x).trim = s.trim := rfl
@[simp] theorem State.putCore_calGen (s : State) (k : Nat) (x : CoreSt) : (s.putCore k x).calGen = s.calGen := rfl
@[simp] theorem State.putCore_calEnd (s : State) (k : Nat) (x : CoreSt) : (s.putCore k x).calEnd = s.calEnd := rfl
@[simp] theorem State.putCore_portWrites (s : State) (k : Nat) (x : CoreSt) : (s.putCore k x).portWrites = s.portWrites := rfl
@[simp] theorem State.putCore_latFlight (s : State) (k : Nat) (x : CoreSt) : (s.putCore k x).latFlight = s.latFlight := rfl
@[simp] theorem State.putCore_cut (s : State) (k : Nat) (x : CoreSt) : (s.putCore k x).cut = s.cut := rfl
@[simp] theorem State.putCore_laneTest (s : State) (k : Nat) (x : CoreSt) : (s.putCore k x).laneTest = s.laneTest := rfl
@[simp] theorem State.putCore_gafQueue (s : State) (k : Nat) (x : CoreSt) : (s.putCore k x).gafQueue = s.gafQueue := rfl
@[simp] theorem State.putCore_starts (s : State) (k : Nat) (x : CoreSt) : (s.putCore k x).starts = s.starts := rfl
@[simp] theorem State.putCore_zoneLast (s : State) (k : Nat) (x : CoreSt) : (s.putCore k x).zoneLast = s.zoneLast := rfl
@[simp] theorem State.putCore_slateOut (s : State) (k : Nat) (x : CoreSt) : (s.putCore k x).slateOut = s.slateOut := rfl
@[simp] theorem State.putCore_engIn (s : State) (k : Nat) (x : CoreSt) : (s.putCore k x).engIn = s.engIn := rfl
@[simp] theorem State.putCore_engTrigs (s : State) (k : Nat) (x : CoreSt) : (s.putCore k x).engTrigs = s.engTrigs := rfl
@[simp] theorem State.putCore_engNeg (s : State) (k : Nat) (x : CoreSt) : (s.putCore k x).engNeg = s.engNeg := rfl
@[simp] theorem State.putCore_reelQ (s : State) (k : Nat) (x : CoreSt) : (s.putCore k x).reelQ = s.reelQ := rfl
@[simp] theorem State.putCore_xfer (s : State) (k : Nat) (x : CoreSt) : (s.putCore k x).xfer = s.xfer := rfl
@[simp] theorem State.putCore_patrol (s : State) (k : Nat) (x : CoreSt) : (s.putCore k x).patrol = s.patrol := rfl
@[simp] theorem State.putCore_ddrCap (s : State) (k : Nat) (x : CoreSt) : (s.putCore k x).ddrCap = s.ddrCap := rfl
@[simp] theorem State.putCore_flash (s : State) (k : Nat) (x : CoreSt) : (s.putCore k x).flash = s.flash := rfl
@[simp] theorem State.putCore_recs (s : State) (k : Nat) (x : CoreSt) : (s.putCore k x).recs = s.recs := rfl
@[simp] theorem State.putCore_ctu (s : State) (k : Nat) (x : CoreSt) : (s.putCore k x).ctu = s.ctu := rfl
@[simp] theorem State.putCore_image (s : State) (k : Nat) (x : CoreSt) : (s.putCore k x).image = s.image := rfl
@[simp] theorem State.putCore_gaf (s : State) (k : Nat) (x : CoreSt) : (s.putCore k x).gaf = s.gaf := rfl
@[simp] theorem State.putCore_power (s : State) (k : Nat) (x : CoreSt) : (s.putCore k x).power = s.power := rfl
@[simp] theorem State.putCore_otp (s : State) (k : Nat) (x : CoreSt) : (s.putCore k x).otp = s.otp := rfl
@[simp] theorem State.putCore_boot (s : State) (k : Nat) (x : CoreSt) : (s.putCore k x).boot = s.boot := rfl
@[simp] theorem State.putCore_sec (s : State) (k : Nat) (x : CoreSt) : (s.putCore k x).sec = s.sec := rfl
@[simp] theorem State.putCore_link (s : State) (k : Nat) (x : CoreSt) : (s.putCore k x).link = s.link := rfl
@[simp] theorem State.putCore_rushes (s : State) (k : Nat) (x : CoreSt) : (s.putCore k x).rushes = s.rushes := rfl
@[simp] theorem State.putCore_sets (s : State) (k : Nat) (x : CoreSt) : (s.putCore k x).sets = s.sets := rfl
@[simp] theorem State.putCore_cmps (s : State) (k : Nat) (x : CoreSt) : (s.putCore k x).cmps = s.cmps := rfl
@[simp] theorem State.putCore_sessions (s : State) (k : Nat) (x : CoreSt) : (s.putCore k x).sessions = s.sessions := rfl
@[simp] theorem State.putCore_feedback (s : State) (k : Nat) (x : CoreSt) : (s.putCore k x).feedback = s.feedback := rfl
@[simp] theorem State.putCore_emus (s : State) (k : Nat) (x : CoreSt) : (s.putCore k x).emus = s.emus := rfl
@[simp] theorem State.putCore_ports (s : State) (k : Nat) (x : CoreSt) : (s.putCore k x).ports = s.ports := rfl
@[simp] theorem State.putCore_engines (s : State) (k : Nat) (x : CoreSt) : (s.putCore k x).engines = s.engines := rfl
@[simp] theorem State.putCore_reels (s : State) (k : Nat) (x : CoreSt) : (s.putCore k x).reels = s.reels := rfl
@[simp] theorem State.putCore_banks (s : State) (k : Nat) (x : CoreSt) : (s.putCore k x).banks = s.banks := rfl
@[simp] theorem State.putCore_dmas (s : State) (k : Nat) (x : CoreSt) : (s.putCore k x).dmas = s.dmas := rfl
@[simp] theorem State.putCore_serials (s : State) (k : Nat) (x : CoreSt) : (s.putCore k x).serials = s.serials := rfl
@[simp] theorem State.putCore_free (s : State) (k : Nat) (x : CoreSt) : (s.putCore k x).free = s.free := rfl
@[simp] theorem State.putCore_pending (s : State) (k : Nat) (x : CoreSt) : (s.putCore k x).pending = s.pending := rfl
@[simp] theorem State.rush_putCore (s : State) (k q : Nat) (x : CoreSt) : (s.putCore k x).rush q = s.rush q := rfl
@[simp] theorem State.sampSet_putCore (s : State) (k q : Nat) (x : CoreSt) : (s.putCore k x).sampSet q = s.sampSet q := rfl
@[simp] theorem State.cmp_putCore (s : State) (k q : Nat) (x : CoreSt) : (s.putCore k x).cmp q = s.cmp q := rfl
@[simp] theorem State.session_putCore (s : State) (k q : Nat) (x : CoreSt) : (s.putCore k x).session q = s.session q := rfl
@[simp] theorem State.pf_putCore (s : State) (k q : Nat) (x : CoreSt) : (s.putCore k x).pf q = s.pf q := rfl
@[simp] theorem State.emu_putCore (s : State) (k q : Nat) (x : CoreSt) : (s.putCore k x).emu q = s.emu q := rfl
@[simp] theorem State.port_putCore (s : State) (k q : Nat) (x : CoreSt) : (s.putCore k x).port q = s.port q := rfl
@[simp] theorem State.eng_putCore (s : State) (k q : Nat) (x : CoreSt) : (s.putCore k x).eng q = s.eng q := rfl
@[simp] theorem State.reel_putCore (s : State) (k q : Nat) (x : CoreSt) : (s.putCore k x).reel q = s.reel q := rfl
@[simp] theorem State.bank_putCore (s : State) (k q : Nat) (x : CoreSt) : (s.putCore k x).bank q = s.bank q := rfl
@[simp] theorem State.dma_putCore (s : State) (k q : Nat) (x : CoreSt) : (s.putCore k x).dma q = s.dma q := rfl
@[simp] theorem State.serial_putCore (s : State) (k q : Nat) (x : CoreSt) : (s.putCore k x).serial q = s.serial q := rfl
@[simp] theorem State.serial_putSerial_same (s : State) (k : Nat) (x : SerialSt) : (s.putSerial k x).serial k = x :=
  Tab.get_set_same _ _ _ _
theorem State.serial_putSerial_ne (s : State) {k q : Nat} (x : SerialSt) (h : k ≠ q) : (s.putSerial k x).serial q = s.serial q :=
  Tab.get_set_ne _ _ _ h
@[simp] theorem State.putSerial_now (s : State) (k : Nat) (x : SerialSt) : (s.putSerial k x).now = s.now := rfl
@[simp] theorem State.putSerial_tcRun (s : State) (k : Nat) (x : SerialSt) : (s.putSerial k x).tcRun = s.tcRun := rfl
@[simp] theorem State.putSerial_tcSaved (s : State) (k : Nat) (x : SerialSt) : (s.putSerial k x).tcSaved = s.tcSaved := rfl
@[simp] theorem State.putSerial_syncWait (s : State) (k : Nat) (x : SerialSt) : (s.putSerial k x).syncWait = s.syncWait := rfl
@[simp] theorem State.putSerial_fields (s : State) (k : Nat) (x : SerialSt) : (s.putSerial k x).fields = s.fields := rfl
@[simp] theorem State.putSerial_mem (s : State) (k : Nat) (x : SerialSt) : (s.putSerial k x).mem = s.mem := rfl
@[simp] theorem State.putSerial_marks (s : State) (k : Nat) (x : SerialSt) : (s.putSerial k x).marks = s.marks := rfl
@[simp] theorem State.putSerial_bus (s : State) (k : Nat) (x : SerialSt) : (s.putSerial k x).bus = s.bus := rfl
@[simp] theorem State.putSerial_held (s : State) (k : Nat) (x : SerialSt) : (s.putSerial k x).held = s.held := rfl
@[simp] theorem State.putSerial_events (s : State) (k : Nat) (x : SerialSt) : (s.putSerial k x).events = s.events := rfl
@[simp] theorem State.putSerial_reports (s : State) (k : Nat) (x : SerialSt) : (s.putSerial k x).reports = s.reports := rfl
@[simp] theorem State.putSerial_trigAt (s : State) (k : Nat) (x : SerialSt) : (s.putSerial k x).trigAt = s.trigAt := rfl
@[simp] theorem State.putSerial_trim (s : State) (k : Nat) (x : SerialSt) : (s.putSerial k x).trim = s.trim := rfl
@[simp] theorem State.putSerial_calGen (s : State) (k : Nat) (x : SerialSt) : (s.putSerial k x).calGen = s.calGen := rfl
@[simp] theorem State.putSerial_calEnd (s : State) (k : Nat) (x : SerialSt) : (s.putSerial k x).calEnd = s.calEnd := rfl
@[simp] theorem State.putSerial_portWrites (s : State) (k : Nat) (x : SerialSt) : (s.putSerial k x).portWrites = s.portWrites := rfl
@[simp] theorem State.putSerial_latFlight (s : State) (k : Nat) (x : SerialSt) : (s.putSerial k x).latFlight = s.latFlight := rfl
@[simp] theorem State.putSerial_cut (s : State) (k : Nat) (x : SerialSt) : (s.putSerial k x).cut = s.cut := rfl
@[simp] theorem State.putSerial_laneTest (s : State) (k : Nat) (x : SerialSt) : (s.putSerial k x).laneTest = s.laneTest := rfl
@[simp] theorem State.putSerial_gafQueue (s : State) (k : Nat) (x : SerialSt) : (s.putSerial k x).gafQueue = s.gafQueue := rfl
@[simp] theorem State.putSerial_starts (s : State) (k : Nat) (x : SerialSt) : (s.putSerial k x).starts = s.starts := rfl
@[simp] theorem State.putSerial_zoneLast (s : State) (k : Nat) (x : SerialSt) : (s.putSerial k x).zoneLast = s.zoneLast := rfl
@[simp] theorem State.putSerial_slateOut (s : State) (k : Nat) (x : SerialSt) : (s.putSerial k x).slateOut = s.slateOut := rfl
@[simp] theorem State.putSerial_engIn (s : State) (k : Nat) (x : SerialSt) : (s.putSerial k x).engIn = s.engIn := rfl
@[simp] theorem State.putSerial_engTrigs (s : State) (k : Nat) (x : SerialSt) : (s.putSerial k x).engTrigs = s.engTrigs := rfl
@[simp] theorem State.putSerial_engNeg (s : State) (k : Nat) (x : SerialSt) : (s.putSerial k x).engNeg = s.engNeg := rfl
@[simp] theorem State.putSerial_reelQ (s : State) (k : Nat) (x : SerialSt) : (s.putSerial k x).reelQ = s.reelQ := rfl
@[simp] theorem State.putSerial_xfer (s : State) (k : Nat) (x : SerialSt) : (s.putSerial k x).xfer = s.xfer := rfl
@[simp] theorem State.putSerial_patrol (s : State) (k : Nat) (x : SerialSt) : (s.putSerial k x).patrol = s.patrol := rfl
@[simp] theorem State.putSerial_ddrCap (s : State) (k : Nat) (x : SerialSt) : (s.putSerial k x).ddrCap = s.ddrCap := rfl
@[simp] theorem State.putSerial_flash (s : State) (k : Nat) (x : SerialSt) : (s.putSerial k x).flash = s.flash := rfl
@[simp] theorem State.putSerial_recs (s : State) (k : Nat) (x : SerialSt) : (s.putSerial k x).recs = s.recs := rfl
@[simp] theorem State.putSerial_ctu (s : State) (k : Nat) (x : SerialSt) : (s.putSerial k x).ctu = s.ctu := rfl
@[simp] theorem State.putSerial_image (s : State) (k : Nat) (x : SerialSt) : (s.putSerial k x).image = s.image := rfl
@[simp] theorem State.putSerial_gaf (s : State) (k : Nat) (x : SerialSt) : (s.putSerial k x).gaf = s.gaf := rfl
@[simp] theorem State.putSerial_power (s : State) (k : Nat) (x : SerialSt) : (s.putSerial k x).power = s.power := rfl
@[simp] theorem State.putSerial_otp (s : State) (k : Nat) (x : SerialSt) : (s.putSerial k x).otp = s.otp := rfl
@[simp] theorem State.putSerial_boot (s : State) (k : Nat) (x : SerialSt) : (s.putSerial k x).boot = s.boot := rfl
@[simp] theorem State.putSerial_sec (s : State) (k : Nat) (x : SerialSt) : (s.putSerial k x).sec = s.sec := rfl
@[simp] theorem State.putSerial_link (s : State) (k : Nat) (x : SerialSt) : (s.putSerial k x).link = s.link := rfl
@[simp] theorem State.putSerial_rushes (s : State) (k : Nat) (x : SerialSt) : (s.putSerial k x).rushes = s.rushes := rfl
@[simp] theorem State.putSerial_sets (s : State) (k : Nat) (x : SerialSt) : (s.putSerial k x).sets = s.sets := rfl
@[simp] theorem State.putSerial_cmps (s : State) (k : Nat) (x : SerialSt) : (s.putSerial k x).cmps = s.cmps := rfl
@[simp] theorem State.putSerial_sessions (s : State) (k : Nat) (x : SerialSt) : (s.putSerial k x).sessions = s.sessions := rfl
@[simp] theorem State.putSerial_feedback (s : State) (k : Nat) (x : SerialSt) : (s.putSerial k x).feedback = s.feedback := rfl
@[simp] theorem State.putSerial_emus (s : State) (k : Nat) (x : SerialSt) : (s.putSerial k x).emus = s.emus := rfl
@[simp] theorem State.putSerial_ports (s : State) (k : Nat) (x : SerialSt) : (s.putSerial k x).ports = s.ports := rfl
@[simp] theorem State.putSerial_engines (s : State) (k : Nat) (x : SerialSt) : (s.putSerial k x).engines = s.engines := rfl
@[simp] theorem State.putSerial_reels (s : State) (k : Nat) (x : SerialSt) : (s.putSerial k x).reels = s.reels := rfl
@[simp] theorem State.putSerial_banks (s : State) (k : Nat) (x : SerialSt) : (s.putSerial k x).banks = s.banks := rfl
@[simp] theorem State.putSerial_dmas (s : State) (k : Nat) (x : SerialSt) : (s.putSerial k x).dmas = s.dmas := rfl
@[simp] theorem State.putSerial_cores (s : State) (k : Nat) (x : SerialSt) : (s.putSerial k x).cores = s.cores := rfl
@[simp] theorem State.putSerial_free (s : State) (k : Nat) (x : SerialSt) : (s.putSerial k x).free = s.free := rfl
@[simp] theorem State.putSerial_pending (s : State) (k : Nat) (x : SerialSt) : (s.putSerial k x).pending = s.pending := rfl
@[simp] theorem State.rush_putSerial (s : State) (k q : Nat) (x : SerialSt) : (s.putSerial k x).rush q = s.rush q := rfl
@[simp] theorem State.sampSet_putSerial (s : State) (k q : Nat) (x : SerialSt) : (s.putSerial k x).sampSet q = s.sampSet q := rfl
@[simp] theorem State.cmp_putSerial (s : State) (k q : Nat) (x : SerialSt) : (s.putSerial k x).cmp q = s.cmp q := rfl
@[simp] theorem State.session_putSerial (s : State) (k q : Nat) (x : SerialSt) : (s.putSerial k x).session q = s.session q := rfl
@[simp] theorem State.pf_putSerial (s : State) (k q : Nat) (x : SerialSt) : (s.putSerial k x).pf q = s.pf q := rfl
@[simp] theorem State.emu_putSerial (s : State) (k q : Nat) (x : SerialSt) : (s.putSerial k x).emu q = s.emu q := rfl
@[simp] theorem State.port_putSerial (s : State) (k q : Nat) (x : SerialSt) : (s.putSerial k x).port q = s.port q := rfl
@[simp] theorem State.eng_putSerial (s : State) (k q : Nat) (x : SerialSt) : (s.putSerial k x).eng q = s.eng q := rfl
@[simp] theorem State.reel_putSerial (s : State) (k q : Nat) (x : SerialSt) : (s.putSerial k x).reel q = s.reel q := rfl
@[simp] theorem State.bank_putSerial (s : State) (k q : Nat) (x : SerialSt) : (s.putSerial k x).bank q = s.bank q := rfl
@[simp] theorem State.dma_putSerial (s : State) (k q : Nat) (x : SerialSt) : (s.putSerial k x).dma q = s.dma q := rfl
@[simp] theorem State.core_putSerial (s : State) (k q : Nat) (x : SerialSt) : (s.putSerial k x).core q = s.core q := rfl

end Sys2Proof.Machine
end

