-- ==== Sys2Proof/Laws/Regs.lean ====
section
/-! SUPPORT. Read after write for control registers and memory, and what each of their operations leaves alone. -/

namespace Sys2Proof.Machine

/-! ### Fields -/

theorem State.get_put_same (s : State) (r : FRef) (v : Nat) : (s.put r v).get r = v % 2 ^ r.w := by
  simp [State.get, State.put]

theorem State.get_put_key (s : State) {r q : FRef} (v : Nat) (h : r.key = q.key) :
    (s.put r v).get q = v % 2 ^ r.w % 2 ^ q.w := by
  simp [State.get, State.put, h]

@[simp] theorem State.get_put_ne (s : State) {r q : FRef} (v : Nat) (h : r.key ≠ q.key) : (s.put r v).get q = s.get q := by
  simp only [State.get, State.put, State.setFields_fields]
  rw [Tab.get_set_ne _ _ _ h]

/-- A read after a write, by the keys of the two fields. -/
theorem State.get_put (s : State) (r q : FRef) (v : Nat) :
    (s.put r v).get q = if r.key = q.key then v % 2 ^ r.w % 2 ^ q.w else s.get q := by
  split
  · rename_i h; exact State.get_put_key s v h
  · rename_i h; exact State.get_put_ne s v h

theorem FRef.key_mk (a lo w : Nat) : (FRef.mk a lo w).key = a * 64 + lo := rfl

/-- A field never reads more than its width. -/
theorem State.get_lt (s : State) (r : FRef) : s.get r < 2 ^ r.w := Nat.mod_lt _ (Nat.two_pow_pos _)

/-- A write of a field changes the table of fields and nothing else. -/
theorem State.put_frame (s : State) (r : FRef) (v : Nat) : s.put r v = s.setFields (s.put r v).fields := rfl

@[simp] theorem State.setFields_get (s : State) (f : List (Nat × Nat)) (r : FRef) :
    (s.setFields f).get r = Tab.get resetKey f r.key % 2 ^ r.w := rfl

theorem State.wf_put (s : State) (r : FRef) (v : Nat) (h : Tab.wf resetKey s.fields = true) :
    Tab.wf resetKey (s.put r v).fields = true := Tab.wf_set _ _ _ _ h

@[simp] theorem State.put_mem (s : State) (r : FRef) (v : Nat) : (s.put r v).mem = s.mem := rfl
@[simp] theorem State.put_pending (s : State) (r : FRef) (v : Nat) : (s.put r v).pending = s.pending := rfl
@[simp] theorem State.put_cores (s : State) (r : FRef) (v : Nat) : (s.put r v).cores = s.cores := rfl
@[simp] theorem State.put_core (s : State) (r : FRef) (v k : Nat) : (s.put r v).core k = s.core k := rfl

/-! ### Memory -/

@[simp] theorem State.rd_wr_same (s : State) (a v : Nat) : (s.wr a v).rd a = v % 2 ^ 36 := by
  simp [State.rd, State.wr]

@[simp] theorem State.rd_wr_ne (s : State) {a q : Nat} (v : Nat) (h : a ≠ q) : (s.wr a v).rd q = s.rd q := by
  simp only [State.rd, State.wr, State.setMem_mem]
  exact Tab.get_set_ne _ _ _ h

@[simp] theorem State.rd_setMarks (s : State) (x : List (Nat × Bool)) (a : Nat) : (s.setMarks x).rd a = s.rd a := rfl
@[simp] theorem State.rd_unmark (s : State) (a q : Nat) : (s.unmark a).rd q = s.rd q := rfl


@[simp] theorem State.rd_store_same (s : State) (a v : Nat) : (s.store a v).rd a = v % 2 ^ 36 := by
  simp [State.store]

@[simp] theorem State.rd_store_ne (s : State) {a q : Nat} (v : Nat) (h : a ≠ q) : (s.store a v).rd q = s.rd q := by
  simp [State.store, h]

/-- A row of stores leaves every address outside it alone. -/
theorem State.rd_stores_out (vs : List Nat) (s : State) (a q : Nat) (h : q < a ∨ a + vs.length ≤ q) :
    (s.stores a vs).rd q = s.rd q := by
  induction vs generalizing s a with
  | nil => rfl
  | cons v t ih =>
    simp only [State.stores, List.length_cons] at *
    rw [ih (s.store a v) (a + 1) (by omega), State.rd_store_ne _ _ (by omega)]

@[simp] theorem State.store_fields (s : State) (a v : Nat) : (s.store a v).fields = s.fields := rfl
@[simp] theorem State.store_get (s : State) (a v : Nat) (r : FRef) : (s.store a v).get r = s.get r := rfl

end Sys2Proof.Machine
end

