-- ==== Sys2Proof/Laws/Core.lean ====
section
/-! SUPPORT. What the shared operations of an instruction do: a register write, flags, the advance of the PC. -/

namespace Sys2Proof.Machine

/-! ### Where a specifier's register stands -/

/-- A field of the core's section outside its shadow banks, by its address. -/
theorem off_bank {c k j a lo w : Nat} (hk : k < 8) (hj : j < 16) (hl : lo < 64)
    (h : a < 0x02041200 + 0x1000 * c ∨ 0x02041280 + 0x1000 * c ≤ a) :
    (CUE.SB.W c k j).key ≠ (FRef.mk a lo w).key := by
  show (0x02041200 + 0x1000 * c + 0x10 * k + j) * 64 + 0 ≠ a * 64 + lo
  omega

theorem State.gov_eq {c : Nat} {s t : State} {r : FRef} (h : (t.core c).stale = (s.core c).stale) (g : t.get r = s.get r) :
    t.gov c r = s.gov c r := by
  simp [State.gov, h, g]

/-- The place of a specifier depends on the level, the task, its depth, its arc and the mode of the level. -/
theorem State.place_eq {c : Nat} {s t : State} (hl : (t.core c).lvl = (s.core c).lvl) (ht : (t.core c).tsk = (s.core c).tsk)
    (hs : (t.core c).stale = (s.core c).stale)
    (hg : ∀ r : FRef, (∀ k j, k < 8 → j < 16 → r.key ≠ (CUE.SB.W c k j).key) → t.get r = s.get r) (r : Nat) :
    t.place c r = s.place c r := by
  have l : (t.core c).level = (s.core c).level := by simp [CoreSt.level, hl]
  have k : (t.core c).task = (s.core c).task := by simp [CoreSt.task, ht]
  have kb : (s.core c).task < 8 := (s.core c).tsk.isLt
  have lb : (s.core c).level < 8 := (s.core c).lvl.isLt
  have d : t.get (CUE.TSTAT.WDEP c (s.core c).task) = s.get (CUE.TSTAT.WDEP c (s.core c).task) :=
    hg _ fun k j hk hj => (off_bank hk hj (by omega) (by simp only [CUE.TSTAT.adr]; omega)).symm
  have b : t.get (CUE.TCFG.BASE c (s.core c).task) = s.get (CUE.TCFG.BASE c (s.core c).task) :=
    hg _ fun k j hk hj => (off_bank hk hj (by omega) (by simp only [CUE.TCFG.adr]; omega)).symm
  have m : t.get (CUE.ENT.MODE c (s.core c).level) = s.get (CUE.ENT.MODE c (s.core c).level) :=
    hg _ fun k j hk hj => (off_bank hk hj (by omega) (by simp only [CUE.ENT.adr]; omega)).symm
  have w : t.window c = s.window c := by simp [State.window, State.windowAt, k, d, State.gov_eq hs b]
  have e : t.shadowed c = s.shadowed c := by simp [State.shadowed, l, State.on, m]
  simp only [State.place, w, e, k, d, l]

/-- Two different specifiers never name one register. -/
theorem State.place_inj {s : State} {c : Nat} {q d : Fin 32} (h : s.place c q.val = s.place c d.val)
    (z : s.place c d.val ≠ .zero) : q = d := by
  have hq := q.isLt
  have hd := d.isLt
  have hw : s.window c < 32 := Nat.mod_lt _ (by omega)
  apply Fin.ext
  have e1 := Nat.div_add_mod q.val 8
  have e2 := Nat.div_add_mod d.val 8
  have r1 : q.val / 8 < 4 := by omega
  have r2 : d.val / 8 < 4 := by omega
  have m1 : q.val % 8 < 8 := by omega
  have m2 : d.val % 8 < 8 := by omega
  simp only [State.place, ringKey] at h z
  generalize q.val / 8 = a at *
  generalize q.val % 8 = x at *
  generalize d.val / 8 = b at *
  generalize d.val % 8 = y at *
  generalize s.window c = w at *
  generalize s.shadowed c = sh at *
  interval_cases a <;> interval_cases b <;> cases sh <;> simp at h z <;> (try split at h) <;>
    simp_all <;> omega

end Sys2Proof.Machine
end

