-- ==== Sys2Proof/Laws/Memory.lean ====
section
/-! SUPPORT. Every operation that changes memory keeps its canonical form and the width of its cells: writing words, storing words,
storing granules of DDR4, and dropping cells. -/

namespace Sys2Proof.Machine

/-- Dropping entries keeps keys rising. -/
theorem Tab.rising_filter {α : Type} (p : Nat × α → Bool) (m : List (Nat × α)) (a : Nat) (h : Tab.rising a m = true) :
    Tab.rising a (m.filter p) = true := by
  induction m generalizing a with
  | nil => rfl
  | cons e t ih =>
    obtain ⟨j, w⟩ := e
    simp only [Tab.rising, Bool.and_eq_true, decide_eq_true_eq] at h
    rw [List.filter_cons]
    split
    · simp only [Tab.rising, Bool.and_eq_true, decide_eq_true_eq]
      exact ⟨h.1, ih (j + 1) h.2⟩
    · exact Tab.rising_mono _ (Nat.le_succ_of_le h.1) (ih (j + 1) h.2)

/-- Dropping entries keeps the canonical form. -/
theorem Tab.wf_filter {α : Type} [DecidableEq α] (d : Nat → α) (p : Nat × α → Bool) (m : List (Nat × α))
    (h : Tab.wf d m = true) : Tab.wf d (m.filter p) = true := by
  simp only [Tab.wf, Bool.and_eq_true, List.all_eq_true] at h ⊢
  exact ⟨Tab.rising_filter p m 0 h.1, fun e he => h.2 e (List.mem_filter.mp he).1⟩

/-- One cell set to a value of its width. -/
theorem Memory.sized_set {m : List (Nat × Nat)} {a v : Nat} (hv : v < 2 ^ cellWidth a) (h : Memory.sized m = true) :
    Memory.sized (Tab.set memDefault m a v) = true := by
  simp only [Memory.sized, List.all_eq_true, decide_eq_true_eq] at h ⊢
  intro e he
  unfold Tab.set at he
  split at he
  · exact h e (List.mem_filter.mp he).1
  · rcases Tab.mem_ins _ _ _ _ he with rfl | he
    · exact hv
    · exact h e he

theorem Memory.sized_filter (p : Nat × Nat → Bool) {m : List (Nat × Nat)} (h : Memory.sized m = true) :
    Memory.sized (m.filter p) = true := by
  simp only [Memory.sized, List.all_eq_true] at h ⊢
  exact fun e he => h e (List.mem_filter.mp he).1

/-- Dropping cells keeps the canonical form. -/
theorem Memory.wf_filter (p : Nat × Nat → Bool) {m : List (Nat × Nat)} (h : Memory.wf m = true) : Memory.wf (m.filter p) = true :=
  Tab.wf_filter _ p m h

theorem State.wr_wf (s : State) (a v : Nat) (h : Memory.wf s.mem = true) : Memory.wf (s.wr a v).mem = true := Tab.wf_set _ _ _ _ h

theorem State.wr_sized (s : State) (a v : Nat) (h : Memory.sized s.mem = true) : Memory.sized (s.wr a v).mem = true := by
  refine Memory.sized_set (Nat.lt_of_lt_of_le (Nat.mod_lt _ (by decide)) ?_) h
  unfold cellWidth
  split <;> decide

theorem State.wrs_wf (vs : List Nat) (s : State) (a : Nat) (h : Memory.wf s.mem = true) : Memory.wf (s.wrs a vs).mem = true := by
  induction vs generalizing s a with
  | nil => exact h
  | cons v t ih => exact ih _ _ (State.wr_wf s a v h)

theorem State.store_wf (s : State) (a v : Nat) (h : Memory.wf s.mem = true) : Memory.wf (s.store a v).mem = true :=
  State.wr_wf (s.unmark a) a v h

theorem State.store_sized (s : State) (a v : Nat) (h : Memory.sized s.mem = true) : Memory.sized (s.store a v).mem = true :=
  State.wr_sized (s.unmark a) a v h

theorem State.stores_wf (vs : List Nat) (s : State) (a : Nat) (h : Memory.wf s.mem = true) :
    Memory.wf (s.stores a vs).mem = true := by
  induction vs generalizing s a with
  | nil => exact h
  | cons v t ih => exact ih _ _ (State.store_wf s a v h)

theorem State.stores_sized (vs : List Nat) (s : State) (a : Nat) (h : Memory.sized s.mem = true) :
    Memory.sized (s.stores a vs).mem = true := by
  induction vs generalizing s a with
  | nil => exact h
  | cons v t ih => exact ih _ _ (State.store_sized s a v h)

theorem State.storeGranule_wf (s : State) (a v : Nat) (h : Memory.wf s.mem = true) :
    Memory.wf (s.storeGranule a v).mem = true := Tab.wf_set _ _ _ _ h

/-- A granule of 64 bits stands at an address of DDR4. -/
theorem State.storeGranule_sized (s : State) (a v : Nat) (ha : ddrBase ≤ a) (h : Memory.sized s.mem = true) :
    Memory.sized (s.storeGranule a v).mem = true := by
  refine Memory.sized_set (Nat.lt_of_lt_of_le (Nat.mod_lt _ (by decide)) ?_) h
  simp [cellWidth, Nat.not_lt.mpr ha]

theorem State.storeGranules_wf (vs : List Nat) (s : State) (a : Nat) (h : Memory.wf s.mem = true) :
    Memory.wf (s.storeGranules a vs).mem = true := by
  induction vs generalizing s a with
  | nil => exact h
  | cons v t ih => exact ih _ _ (State.storeGranule_wf s a v h)

/-- The memory after reset lists nothing. -/
theorem reset_memory_wf : Memory.wf State.reset.mem = true ∧ Memory.sized State.reset.mem = true := ⟨rfl, rfl⟩

end Sys2Proof.Machine
end

