-- ==== Sys2Proof/Laws/Reads.lean ====
section
/-! SUPPORT. What a control register, a word of memory and timecode read as through each setter of the state. -/

namespace Sys2Proof.Machine

@[simp] theorem State.setNow_get (s : State) (x : BitVec 64) (r : FRef) : (s.setNow x).get r = s.get r := rfl
@[simp] theorem State.setNow_rd (s : State) (x : BitVec 64) (q : Nat) : (s.setNow x).rd q = s.rd q := rfl
@[simp] theorem State.setTcRun_get (s : State) (x : Bool) (r : FRef) : (s.setTcRun x).get r = s.get r := rfl
@[simp] theorem State.setTcRun_rd (s : State) (x : Bool) (q : Nat) : (s.setTcRun x).rd q = s.rd q := rfl
@[simp] theorem State.setTcRun_t (s : State) (x : Bool) : (s.setTcRun x).t = s.t := rfl
@[simp] theorem State.setTcSaved_get (s : State) (x : BitVec 64) (r : FRef) : (s.setTcSaved x).get r = s.get r := rfl
@[simp] theorem State.setTcSaved_rd (s : State) (x : BitVec 64) (q : Nat) : (s.setTcSaved x).rd q = s.rd q := rfl
@[simp] theorem State.setTcSaved_t (s : State) (x : BitVec 64) : (s.setTcSaved x).t = s.t := rfl
@[simp] theorem State.setSyncWait_get (s : State) (x : List Nat) (r : FRef) : (s.setSyncWait x).get r = s.get r := rfl
@[simp] theorem State.setSyncWait_rd (s : State) (x : List Nat) (q : Nat) : (s.setSyncWait x).rd q = s.rd q := rfl
@[simp] theorem State.setSyncWait_t (s : State) (x : List Nat) : (s.setSyncWait x).t = s.t := rfl
@[simp] theorem State.setBus_get (s : State) (x : Access) (r : FRef) : (s.setBus x).get r = s.get r := rfl
@[simp] theorem State.setBus_rd (s : State) (x : Access) (q : Nat) : (s.setBus x).rd q = s.rd q := rfl
@[simp] theorem State.setBus_t (s : State) (x : Access) : (s.setBus x).t = s.t := rfl
@[simp] theorem State.setHeld_get (s : State) (x : List HeldAccess) (r : FRef) : (s.setHeld x).get r = s.get r := rfl
@[simp] theorem State.setHeld_rd (s : State) (x : List HeldAccess) (q : Nat) : (s.setHeld x).rd q = s.rd q := rfl
@[simp] theorem State.setHeld_t (s : State) (x : List HeldAccess) : (s.setHeld x).t = s.t := rfl
@[simp] theorem State.setEvents_get (s : State) (x : List Ev) (r : FRef) : (s.setEvents x).get r = s.get r := rfl
@[simp] theorem State.setEvents_rd (s : State) (x : List Ev) (q : Nat) : (s.setEvents x).rd q = s.rd q := rfl
@[simp] theorem State.setEvents_t (s : State) (x : List Ev) : (s.setEvents x).t = s.t := rfl
@[simp] theorem State.setReports_get (s : State) (x : List Report) (r : FRef) : (s.setReports x).get r = s.get r := rfl
@[simp] theorem State.setReports_rd (s : State) (x : List Report) (q : Nat) : (s.setReports x).rd q = s.rd q := rfl
@[simp] theorem State.setReports_t (s : State) (x : List Report) : (s.setReports x).t = s.t := rfl
@[simp] theorem State.setTrim_get (s : State) (x : List Nat) (r : FRef) : (s.setTrim x).get r = s.get r := rfl
@[simp] theorem State.setTrim_rd (s : State) (x : List Nat) (q : Nat) : (s.setTrim x).rd q = s.rd q := rfl
@[simp] theorem State.setTrim_t (s : State) (x : List Nat) : (s.setTrim x).t = s.t := rfl
@[simp] theorem State.setCalGen_get (s : State) (x : Nat) (r : FRef) : (s.setCalGen x).get r = s.get r := rfl
@[simp] theorem State.setCalGen_rd (s : State) (x : Nat) (q : Nat) : (s.setCalGen x).rd q = s.rd q := rfl
@[simp] theorem State.setCalGen_t (s : State) (x : Nat) : (s.setCalGen x).t = s.t := rfl
@[simp] theorem State.setCalEnd_get (s : State) (x : Nat) (r : FRef) : (s.setCalEnd x).get r = s.get r := rfl
@[simp] theorem State.setCalEnd_rd (s : State) (x : Nat) (q : Nat) : (s.setCalEnd x).rd q = s.rd q := rfl
@[simp] theorem State.setCalEnd_t (s : State) (x : Nat) : (s.setCalEnd x).t = s.t := rfl
@[simp] theorem State.setPortWrites_get (s : State) (x : List PWrite) (r : FRef) : (s.setPortWrites x).get r = s.get r := rfl
@[simp] theorem State.setPortWrites_rd (s : State) (x : List PWrite) (q : Nat) : (s.setPortWrites x).rd q = s.rd q := rfl
@[simp] theorem State.setPortWrites_t (s : State) (x : List PWrite) : (s.setPortWrites x).t = s.t := rfl
@[simp] theorem State.setCut_get (s : State) (x : CutSt) (r : FRef) : (s.setCut x).get r = s.get r := rfl
@[simp] theorem State.setCut_rd (s : State) (x : CutSt) (q : Nat) : (s.setCut x).rd q = s.rd q := rfl
@[simp] theorem State.setCut_t (s : State) (x : CutSt) : (s.setCut x).t = s.t := rfl
@[simp] theorem State.setGafQueue_get (s : State) (x : List GReq) (r : FRef) : (s.setGafQueue x).get r = s.get r := rfl
@[simp] theorem State.setGafQueue_rd (s : State) (x : List GReq) (q : Nat) : (s.setGafQueue x).rd q = s.rd q := rfl
@[simp] theorem State.setGafQueue_t (s : State) (x : List GReq) : (s.setGafQueue x).t = s.t := rfl
@[simp] theorem State.setStarts_get (s : State) (x : List Start) (r : FRef) : (s.setStarts x).get r = s.get r := rfl
@[simp] theorem State.setStarts_rd (s : State) (x : List Start) (q : Nat) : (s.setStarts x).rd q = s.rd q := rfl
@[simp] theorem State.setStarts_t (s : State) (x : List Start) : (s.setStarts x).t = s.t := rfl
@[simp] theorem State.setZoneLast_get (s : State) (x : Nat × Nat) (r : FRef) : (s.setZoneLast x).get r = s.get r := rfl
@[simp] theorem State.setZoneLast_rd (s : State) (x : Nat × Nat) (q : Nat) : (s.setZoneLast x).rd q = s.rd q := rfl
@[simp] theorem State.setZoneLast_t (s : State) (x : Nat × Nat) : (s.setZoneLast x).t = s.t := rfl
@[simp] theorem State.setSlateOut_get (s : State) (x : List SlateOut) (r : FRef) : (s.setSlateOut x).get r = s.get r := rfl
@[simp] theorem State.setSlateOut_rd (s : State) (x : List SlateOut) (q : Nat) : (s.setSlateOut x).rd q = s.rd q := rfl
@[simp] theorem State.setSlateOut_t (s : State) (x : List SlateOut) : (s.setSlateOut x).t = s.t := rfl
@[simp] theorem State.setXfer_get (s : State) (x : Option Xfer) (r : FRef) : (s.setXfer x).get r = s.get r := rfl
@[simp] theorem State.setXfer_rd (s : State) (x : Option Xfer) (q : Nat) : (s.setXfer x).rd q = s.rd q := rfl
@[simp] theorem State.setXfer_t (s : State) (x : Option Xfer) : (s.setXfer x).t = s.t := rfl
@[simp] theorem State.setPatrol_get (s : State) (x : Nat) (r : FRef) : (s.setPatrol x).get r = s.get r := rfl
@[simp] theorem State.setPatrol_rd (s : State) (x : Nat) (q : Nat) : (s.setPatrol x).rd q = s.rd q := rfl
@[simp] theorem State.setPatrol_t (s : State) (x : Nat) : (s.setPatrol x).t = s.t := rfl
@[simp] theorem State.setDdrCap_get (s : State) (x : Nat) (r : FRef) : (s.setDdrCap x).get r = s.get r := rfl
@[simp] theorem State.setDdrCap_rd (s : State) (x : Nat) (q : Nat) : (s.setDdrCap x).rd q = s.rd q := rfl
@[simp] theorem State.setDdrCap_t (s : State) (x : Nat) : (s.setDdrCap x).t = s.t := rfl
@[simp] theorem State.setFlash_get (s : State) (x : FlashSt) (r : FRef) : (s.setFlash x).get r = s.get r := rfl
@[simp] theorem State.setFlash_rd (s : State) (x : FlashSt) (q : Nat) : (s.setFlash x).rd q = s.rd q := rfl
@[simp] theorem State.setFlash_t (s : State) (x : FlashSt) : (s.setFlash x).t = s.t := rfl
@[simp] theorem State.setRecs_get (s : State) (x : StoreSt) (r : FRef) : (s.setRecs x).get r = s.get r := rfl
@[simp] theorem State.setRecs_rd (s : State) (x : StoreSt) (q : Nat) : (s.setRecs x).rd q = s.rd q := rfl
@[simp] theorem State.setRecs_t (s : State) (x : StoreSt) : (s.setRecs x).t = s.t := rfl
@[simp] theorem State.setCtu_get (s : State) (x : CtuSt) (r : FRef) : (s.setCtu x).get r = s.get r := rfl
@[simp] theorem State.setCtu_rd (s : State) (x : CtuSt) (q : Nat) : (s.setCtu x).rd q = s.rd q := rfl
@[simp] theorem State.setCtu_t (s : State) (x : CtuSt) : (s.setCtu x).t = s.t := rfl
@[simp] theorem State.setImage_get (s : State) (x : Nat × Nat) (r : FRef) : (s.setImage x).get r = s.get r := rfl
@[simp] theorem State.setImage_rd (s : State) (x : Nat × Nat) (q : Nat) : (s.setImage x).rd q = s.rd q := rfl
@[simp] theorem State.setImage_t (s : State) (x : Nat × Nat) : (s.setImage x).t = s.t := rfl
@[simp] theorem State.setGaf_get (s : State) (x : GafSt) (r : FRef) : (s.setGaf x).get r = s.get r := rfl
@[simp] theorem State.setGaf_rd (s : State) (x : GafSt) (q : Nat) : (s.setGaf x).rd q = s.rd q := rfl
@[simp] theorem State.setGaf_t (s : State) (x : GafSt) : (s.setGaf x).t = s.t := rfl
@[simp] theorem State.setPower_get (s : State) (x : PowerSt) (r : FRef) : (s.setPower x).get r = s.get r := rfl
@[simp] theorem State.setPower_rd (s : State) (x : PowerSt) (q : Nat) : (s.setPower x).rd q = s.rd q := rfl
@[simp] theorem State.setPower_t (s : State) (x : PowerSt) : (s.setPower x).t = s.t := rfl
@[simp] theorem State.setOtp_get (s : State) (x : OtpSt) (r : FRef) : (s.setOtp x).get r = s.get r := rfl
@[simp] theorem State.setOtp_rd (s : State) (x : OtpSt) (q : Nat) : (s.setOtp x).rd q = s.rd q := rfl
@[simp] theorem State.setOtp_t (s : State) (x : OtpSt) : (s.setOtp x).t = s.t := rfl
@[simp] theorem State.setBoot_get (s : State) (x : BootSt) (r : FRef) : (s.setBoot x).get r = s.get r := rfl
@[simp] theorem State.setBoot_rd (s : State) (x : BootSt) (q : Nat) : (s.setBoot x).rd q = s.rd q := rfl
@[simp] theorem State.setBoot_t (s : State) (x : BootSt) : (s.setBoot x).t = s.t := rfl
@[simp] theorem State.setSec_get (s : State) (x : SecSt) (r : FRef) : (s.setSec x).get r = s.get r := rfl
@[simp] theorem State.setSec_rd (s : State) (x : SecSt) (q : Nat) : (s.setSec x).rd q = s.rd q := rfl
@[simp] theorem State.setSec_t (s : State) (x : SecSt) : (s.setSec x).t = s.t := rfl
@[simp] theorem State.setLink_get (s : State) (x : LinkSt) (r : FRef) : (s.setLink x).get r = s.get r := rfl
@[simp] theorem State.setLink_rd (s : State) (x : LinkSt) (q : Nat) : (s.setLink x).rd q = s.rd q := rfl
@[simp] theorem State.setLink_t (s : State) (x : LinkSt) : (s.setLink x).t = s.t := rfl
@[simp] theorem State.setFree_get (s : State) (x : Nat) (r : FRef) : (s.setFree x).get r = s.get r := rfl
@[simp] theorem State.setFree_rd (s : State) (x : Nat) (q : Nat) : (s.setFree x).rd q = s.rd q := rfl
@[simp] theorem State.setFree_t (s : State) (x : Nat) : (s.setFree x).t = s.t := rfl
@[simp] theorem State.putRush_get (s : State) (k : Nat) (x : RushSt) (r : FRef) : (s.putRush k x).get r = s.get r := rfl
@[simp] theorem State.putRush_rd (s : State) (k : Nat) (x : RushSt) (q : Nat) : (s.putRush k x).rd q = s.rd q := rfl
@[simp] theorem State.putRush_t (s : State) (k : Nat) (x : RushSt) : (s.putRush k x).t = s.t := rfl
@[simp] theorem State.putSampSet_get (s : State) (k : Nat) (x : SetSt) (r : FRef) : (s.putSampSet k x).get r = s.get r := rfl
@[simp] theorem State.putSampSet_rd (s : State) (k : Nat) (x : SetSt) (q : Nat) : (s.putSampSet k x).rd q = s.rd q := rfl
@[simp] theorem State.putSampSet_t (s : State) (k : Nat) (x : SetSt) : (s.putSampSet k x).t = s.t := rfl
@[simp] theorem State.putCmp_get (s : State) (k : Nat) (x : CmpSt) (r : FRef) : (s.putCmp k x).get r = s.get r := rfl
@[simp] theorem State.putCmp_rd (s : State) (k : Nat) (x : CmpSt) (q : Nat) : (s.putCmp k x).rd q = s.rd q := rfl
@[simp] theorem State.putCmp_t (s : State) (k : Nat) (x : CmpSt) : (s.putCmp k x).t = s.t := rfl
@[simp] theorem State.putSession_get (s : State) (k : Nat) (x : SessSt) (r : FRef) : (s.putSession k x).get r = s.get r := rfl
@[simp] theorem State.putSession_rd (s : State) (k : Nat) (x : SessSt) (q : Nat) : (s.putSession k x).rd q = s.rd q := rfl
@[simp] theorem State.putSession_t (s : State) (k : Nat) (x : SessSt) : (s.putSession k x).t = s.t := rfl
@[simp] theorem State.putPf_get (s : State) (k : Nat) (x : PfSt) (r : FRef) : (s.putPf k x).get r = s.get r := rfl
@[simp] theorem State.putPf_rd (s : State) (k : Nat) (x : PfSt) (q : Nat) : (s.putPf k x).rd q = s.rd q := rfl
@[simp] theorem State.putPf_t (s : State) (k : Nat) (x : PfSt) : (s.putPf k x).t = s.t := rfl
@[simp] theorem State.putEmu_get (s : State) (k : Nat) (x : EmuSt) (r : FRef) : (s.putEmu k x).get r = s.get r := rfl
@[simp] theorem State.putEmu_rd (s : State) (k : Nat) (x : EmuSt) (q : Nat) : (s.putEmu k x).rd q = s.rd q := rfl
@[simp] theorem State.putEmu_t (s : State) (k : Nat) (x : EmuSt) : (s.putEmu k x).t = s.t := rfl
@[simp] theorem State.putPort_get (s : State) (k : Nat) (x : PortSt) (r : FRef) : (s.putPort k x).get r = s.get r := rfl
@[simp] theorem State.putPort_rd (s : State) (k : Nat) (x : PortSt) (q : Nat) : (s.putPort k x).rd q = s.rd q := rfl
@[simp] theorem State.putPort_t (s : State) (k : Nat) (x : PortSt) : (s.putPort k x).t = s.t := rfl
@[simp] theorem State.putEng_get (s : State) (k : Nat) (x : EngSt) (r : FRef) : (s.putEng k x).get r = s.get r := rfl
@[simp] theorem State.putEng_rd (s : State) (k : Nat) (x : EngSt) (q : Nat) : (s.putEng k x).rd q = s.rd q := rfl
@[simp] theorem State.putEng_t (s : State) (k : Nat) (x : EngSt) : (s.putEng k x).t = s.t := rfl
@[simp] theorem State.putReel_get (s : State) (k : Nat) (x : ReelSt) (r : FRef) : (s.putReel k x).get r = s.get r := rfl
@[simp] theorem State.putReel_rd (s : State) (k : Nat) (x : ReelSt) (q : Nat) : (s.putReel k x).rd q = s.rd q := rfl
@[simp] theorem State.putReel_t (s : State) (k : Nat) (x : ReelSt) : (s.putReel k x).t = s.t := rfl
@[simp] theorem State.putBank_get (s : State) (k : Nat) (x : BankSt) (r : FRef) : (s.putBank k x).get r = s.get r := rfl
@[simp] theorem State.putBank_rd (s : State) (k : Nat) (x : BankSt) (q : Nat) : (s.putBank k x).rd q = s.rd q := rfl
@[simp] theorem State.putBank_t (s : State) (k : Nat) (x : BankSt) : (s.putBank k x).t = s.t := rfl
@[simp] theorem State.putDma_get (s : State) (k : Nat) (x : DmaSt) (r : FRef) : (s.putDma k x).get r = s.get r := rfl
@[simp] theorem State.putDma_rd (s : State) (k : Nat) (x : DmaSt) (q : Nat) : (s.putDma k x).rd q = s.rd q := rfl
@[simp] theorem State.putDma_t (s : State) (k : Nat) (x : DmaSt) : (s.putDma k x).t = s.t := rfl
@[simp] theorem State.putCore_get (s : State) (k : Nat) (x : CoreSt) (r : FRef) : (s.putCore k x).get r = s.get r := rfl
@[simp] theorem State.putCore_rd (s : State) (k : Nat) (x : CoreSt) (q : Nat) : (s.putCore k x).rd q = s.rd q := rfl
@[simp] theorem State.putCore_t (s : State) (k : Nat) (x : CoreSt) : (s.putCore k x).t = s.t := rfl
@[simp] theorem State.putSerial_get (s : State) (k : Nat) (x : SerialSt) (r : FRef) : (s.putSerial k x).get r = s.get r := rfl
@[simp] theorem State.putSerial_rd (s : State) (k : Nat) (x : SerialSt) (q : Nat) : (s.putSerial k x).rd q = s.rd q := rfl
@[simp] theorem State.putSerial_t (s : State) (k : Nat) (x : SerialSt) : (s.putSerial k x).t = s.t := rfl
@[simp] theorem State.setPending_get (s : State) (x : List Instr) (r : FRef) : (s.setPending x).get r = s.get r := rfl
@[simp] theorem State.setPending_rd (s : State) (x : List Instr) (q : Nat) : (s.setPending x).rd q = s.rd q := rfl
@[simp] theorem State.setPending_t (s : State) (x : List Instr) : (s.setPending x).t = s.t := rfl
@[simp] theorem State.report_get (s : State) (c : FaultCode) (e i : Nat) (r : FRef) : (s.report c e i).get r = s.get r := rfl
@[simp] theorem State.report_rd (s : State) (c : FaultCode) (e i : Nat) (q : Nat) : (s.report c e i).rd q = s.rd q := rfl
@[simp] theorem State.report_t (s : State) (c : FaultCode) (e i : Nat) : (s.report c e i).t = s.t := rfl
@[simp] theorem State.raise_get (s : State) (n : Nat) (r : FRef) : (s.raise n).get r = s.get r := rfl
@[simp] theorem State.raise_rd (s : State) (n : Nat) (q : Nat) : (s.raise n).rd q = s.rd q := rfl
@[simp] theorem State.raise_t (s : State) (n : Nat) : (s.raise n).t = s.t := rfl
@[simp] theorem State.raiseAt_get (s : State) (n p : Nat) (r : FRef) : (s.raiseAt n p).get r = s.get r := rfl
@[simp] theorem State.raiseAt_rd (s : State) (n p : Nat) (q : Nat) : (s.raiseAt n p).rd q = s.rd q := rfl
@[simp] theorem State.raiseAt_t (s : State) (n p : Nat) : (s.raiseAt n p).t = s.t := rfl
@[simp] theorem State.answer_get (s : State) (g : Nat) (p : Resp) (h l : Nat) (r : FRef) : (s.answer g p h l).get r = s.get r := rfl
@[simp] theorem State.answer_rd (s : State) (g : Nat) (p : Resp) (h l : Nat) (q : Nat) : (s.answer g p h l).rd q = s.rd q := rfl
@[simp] theorem State.answer_t (s : State) (g : Nat) (p : Resp) (h l : Nat) : (s.answer g p h l).t = s.t := rfl
@[simp] theorem State.putTrig_get (s : State) (k p : Nat) (r : FRef) : (s.putTrig k p).get r = s.get r := rfl
@[simp] theorem State.putTrig_rd (s : State) (k p : Nat) (q : Nat) : (s.putTrig k p).rd q = s.rd q := rfl
@[simp] theorem State.putTrig_t (s : State) (k p : Nat) : (s.putTrig k p).t = s.t := rfl
@[simp] theorem State.unmark_get (s : State) (k : Nat) (r : FRef) : (s.unmark k).get r = s.get r := rfl
@[simp] theorem State.unmark_t (s : State) (k : Nat) : (s.unmark k).t = s.t := rfl
@[simp] theorem State.draw_get (s : State) (r : FRef) : (s.draw).get r = s.get r := rfl
@[simp] theorem State.draw_rd (s : State) (q : Nat) : (s.draw).rd q = s.rd q := rfl
@[simp] theorem State.draw_t (s : State) : (s.draw).t = s.t := rfl
@[simp] theorem State.setMem_get (s : State) (x : List (Nat × Nat)) (r : FRef) : (s.setMem x).get r = s.get r := rfl
@[simp] theorem State.setMem_t (s : State) (x : List (Nat × Nat)) : (s.setMem x).t = s.t := rfl
@[simp] theorem State.setFields_rd (s : State) (x : List (Nat × Nat)) (q : Nat) : (s.setFields x).rd q = s.rd q := rfl
@[simp] theorem State.setFields_t (s : State) (x : List (Nat × Nat)) : (s.setFields x).t = s.t := rfl
@[simp] theorem State.put_rd (s : State) (r : FRef) (v q : Nat) : (s.put r v).rd q = s.rd q := rfl
@[simp] theorem State.put_t (s : State) (r : FRef) (v : Nat) : (s.put r v).t = s.t := rfl
@[simp] theorem State.wr_get (s : State) (a v : Nat) (r : FRef) : (s.wr a v).get r = s.get r := rfl
@[simp] theorem State.wr_t (s : State) (a v : Nat) : (s.wr a v).t = s.t := rfl

end Sys2Proof.Machine
end

