-- ==== Sys2Proof/Laws/Stable.lean ====
section
/-! SUPPORT. Properties that every operation of the machine keeps: what such a property has to be closed under. -/

namespace Sys2Proof.Machine

/-- A property of the control registers, memory, queue and timecode that the machine's elementary writes keep; unless `free` is set,
only where timecode does not go back. -/
structure StableIn (P : State → Prop) (free : Bool) : Prop where
  frame : ∀ {s t : State}, t.fields = s.fields → t.mem = s.mem → t.pending = s.pending → free = true ∨ s.t ≤ t.t → P s → P t
  put : ∀ {s : State} {r : FRef} {v : Nat}, P s → P (s.put r v)
  wr : ∀ {s : State} {a v : Nat}, P s → P (s.wr a v)
  granule : ∀ {s : State} {a v : Nat}, ddrBase ≤ a → P s → P (s.storeGranule a v)
  fields : ∀ {s : State} {p : Nat × Nat → Bool}, P s → P (s.setFields (s.fields.filter p))
  mem : ∀ {s : State} {p : Nat × Nat → Bool}, P s → P (s.setMem (s.mem.filter p))

/-- A property of the control registers, memory and queue that the machine's elementary writes keep. -/
structure Stable (P : State → Prop) : Prop where
  frame : ∀ {s t : State}, t.fields = s.fields → t.mem = s.mem → t.pending = s.pending → P s → P t
  put : ∀ {s : State} {r : FRef} {v : Nat}, P s → P (s.put r v)
  wr : ∀ {s : State} {a v : Nat}, P s → P (s.wr a v)
  granule : ∀ {s : State} {a v : Nat}, ddrBase ≤ a → P s → P (s.storeGranule a v)
  fields : ∀ {s : State} {p : Nat × Nat → Bool}, P s → P (s.setFields (s.fields.filter p))
  mem : ∀ {s : State} {p : Nat × Nat → Bool}, P s → P (s.setMem (s.mem.filter p))

theorem Stable.toIn {P : State → Prop} (h : Stable P) : StableIn P true :=
  ⟨fun a b c _ => h.frame a b c, h.put, h.wr, h.granule, h.fields, h.mem⟩

/-- A property of the state, if there is one. -/
def OptS (P : State → Prop) (o : Option State) : Prop := ∀ t, o = some t → P t
def OptS2 {α : Type} (P : State → Prop) (o : Option (α × State)) : Prop := ∀ t, o = some t → P t.2
/-- A property of the next state, if there is one. -/
def OutS (P : State → Prop) (o : Out) : Prop := ∀ t, o = .next t → P t

variable {P : State → Prop} {α β γ : Type}

theorem OptS.some {t : State} (h : P t) : OptS P (some t) := by intro u e; cases e; exact h
theorem OptS.none : OptS P none := by intro u e; cases e
theorem OptS2.some {t : α × State} (h : P t.2) : OptS2 P (some t) := by intro u e; cases e; exact h
theorem OptS2.none : OptS2 P (none : Option (α × State)) := by intro u e; cases e
theorem OutS.next {t : State} (h : P t) : OutS P (.next t) := by intro u e; cases e; exact h
theorem OutS.fault {f : Fault} : OutS P (.fault f) := by intro u e; cases e

theorem some_stable {o : Option State} {t : State} (e : o = some t) (h : OptS P o) : P t := h t e
theorem some_stable2 {o : Option (α × State)} {a : α} {t : State} (e : o = some (a, t)) (h : OptS2 P o) : P t := h _ e
theorem snd_stable {p : α × State} {a : α} {t : State} (e : p = (a, t)) (h : P p.2) : P t := by rw [e] at h; exact h
theorem snd2_stable {p : α × β × State} {a : α} {b : β} {t : State} (e : p = (a, b, t)) (h : P p.2.2) : P t := by rw [e] at h; exact h
theorem fst_stable {p : State × β} {b : β} {t : State} (e : p = (t, b)) (h : P p.1) : P t := by rw [e] at h; exact h

theorem OptS.bind {o : Option State} {f : State → Option State} (hf : ∀ t, P t → OptS P (f t)) (h : OptS P o) : OptS P (o.bind f) := by
  cases o with
  | none => exact OptS.none
  | some t => exact hf t (h t rfl)
theorem OptS.bind2 {o : Option (α × State)} {f : α × State → Option State} (hf : ∀ t, P t.2 → OptS P (f t)) (h : OptS2 P o) :
    OptS P (o.bind f) := by
  cases o with
  | none => exact OptS.none
  | some t => exact hf t (h t rfl)
theorem OptS.map {o : Option State} {f : State → State} (hf : ∀ t, P t → P (f t)) (h : OptS P o) : OptS P (o.map f) := by
  cases o with
  | none => exact OptS.none
  | some t => exact OptS.some (hf t (h t rfl))
theorem OptS.map0 {o : Option α} {f : α → State} (hf : ∀ t, P (f t)) : OptS P (o.map f) := by
  cases o with
  | none => exact OptS.none
  | some t => exact OptS.some (hf t)
theorem OptS2.map {o : Option State} {f : State → α × State} (hf : ∀ t, P t → P (f t).2) (h : OptS P o) : OptS2 P (o.map f) := by
  cases o with
  | none => exact OptS2.none
  | some t => exact OptS2.some (hf t (h t rfl))

theorem OptS.getD {o : Option State} {s : State} (h : OptS P o) (hs : P s) : P (o.getD s) := by
  cases o with
  | none => exact hs
  | some t => exact h t rfl
theorem ite_sec {c : Prop} [Decidable c] {a b : SecOut} (ha : P a.st) (hb : P b.st) : P (if c then a else b).st := by
  split <;> assumption

theorem ite_stable {c : Prop} [Decidable c] {a b : State} (ha : P a) (hb : P b) : P (if c then a else b) := by split <;> assumption
theorem ite_st {c : Prop} [Decidable c] {a b : Got} (ha : P a.st) (hb : P b.st) : P (if c then a else b).st := by
  split <;> assumption
theorem ite_snd {c : Prop} [Decidable c] {a b : α × State} (ha : P a.2) (hb : P b.2) : P (if c then a else b).2 := by
  split <;> assumption
theorem ite_snd2 {c : Prop} [Decidable c] {a b : α × β × State} (ha : P a.2.2) (hb : P b.2.2) : P (if c then a else b).2.2 := by
  split <;> assumption
theorem ite_fst {c : Prop} [Decidable c] {a b : State × β} (ha : P a.1) (hb : P b.1) : P (if c then a else b).1 := by
  split <;> assumption
theorem OptS.ite {c : Prop} [Decidable c] {a b : Option State} (ha : OptS P a) (hb : OptS P b) : OptS P (if c then a else b) := by
  split <;> assumption
theorem OptS2.ite {c : Prop} [Decidable c] {a b : Option (α × State)} (ha : OptS2 P a) (hb : OptS2 P b) :
    OptS2 P (if c then a else b) := by
  split <;> assumption
theorem OutS.ite {c : Prop} [Decidable c] {a b : Out} (ha : OutS P a) (hb : OutS P b) : OutS P (if c then a else b) := by
  split <;> assumption
theorem id_stable {s : State} (h : P s) : P (id s) := h

theorem foldl_stable {f : State → α → State} (hf : ∀ u x, P u → P (f u x)) {l : List α} {s : State} (h : P s) :
    P (l.foldl f s) := by
  induction l generalizing s with
  | nil => exact h
  | cons x t ih => exact ih (hf s x h)

theorem foldl_stable2 {f : β × State → α → β × State} (hf : ∀ u x, P u.2 → P (f u x).2) {l : List α} {s : β × State}
    (h : P s.2) : P (l.foldl f s).2 := by
  induction l generalizing s with
  | nil => exact h
  | cons x t ih => exact ih (hf s x h)

theorem foldl_stable1 {f : State × β → α → State × β} (hf : ∀ u x, P u.1 → P (f u x).1) {l : List α} {s : State × β}
    (h : P s.1) : P (l.foldl f s).1 := by
  induction l generalizing s with
  | nil => exact h
  | cons x t ih => exact ih (hf s x h)

/-- The elementary writes keep it that timecode has reached `n`. -/
theorem reached_stable (n : Nat) : StableIn (fun u => n ≤ u.t) false where
  frame := fun _ _ _ h k => by
    rcases h with h | h
    · cases h
    · exact Nat.le_trans k h
  put := fun h => h
  wr := fun h => h
  granule := fun _ h => h
  fields := fun h => h
  mem := fun h => h

/-- An advance of timecode keeps such a property. -/
theorem State.advanceTo_stable {P : State → Prop} {free : Bool} (hP : StableIn P free) {x0 x1} (h0 : P x0) : P (State.advanceTo x0 x1) := by
  unfold State.advanceTo
  dsimp only
  split
  · rename_i h
    have hlt : x0.t < min x1 (2 ^ 64 - 1) := by simp at h; omega
    have k : P (x0.setNow (BitVec.ofNat 64 (min x1 (2 ^ 64 - 1)))) := by
      refine hP.frame (s := x0) rfl rfl rfl (.inr ?_) h0
      show x0.t ≤ (BitVec.ofNat 64 (min x1 (2 ^ 64 - 1))).toNat
      rw [BitVec.toNat_ofNat, Nat.mod_eq_of_lt (by omega)]
      omega
    refine ite_stable k ?_
    unfold State.passMs
    dsimp only
    refine ite_stable ?_ (hP.put ?_) <;> exact foldl_stable (fun _ _ q => hP.put q) k
  · exact h0

end Sys2Proof.Machine
end

