-- ==== Sys2Proof/Laws/Stable1.lean ====
section
/-! SUPPORT. Each operation keeps every property that the elementary writes keep (part 1 of 9). -/

set_option linter.all false
set_option maxRecDepth 4000
set_option linter.unreachableTactic false

namespace Sys2Proof.Machine

variable {P : State → Prop} {free : Bool}

theorem State.setNow_stable (hP : StableIn P true) {x0 x1} (h0 : P x0) : P (State.setNow x0 x1) := hP.frame (s := x0) rfl rfl rfl (.inl rfl) h0

theorem State.setTcRun_stable (hP : StableIn P free) {x0 x1} (h0 : P x0) : P (State.setTcRun x0 x1) := hP.frame (s := x0) rfl rfl rfl (.inr (Nat.le_refl _)) h0

theorem State.setTcSaved_stable (hP : StableIn P free) {x0 x1} (h0 : P x0) : P (State.setTcSaved x0 x1) := hP.frame (s := x0) rfl rfl rfl (.inr (Nat.le_refl _)) h0

theorem State.setSyncWait_stable (hP : StableIn P free) {x0 x1} (h0 : P x0) : P (State.setSyncWait x0 x1) := hP.frame (s := x0) rfl rfl rfl (.inr (Nat.le_refl _)) h0

theorem State.setMarks_stable (hP : StableIn P free) {x0 x1} (h0 : P x0) : P (State.setMarks x0 x1) := hP.frame (s := x0) rfl rfl rfl (.inr (Nat.le_refl _)) h0

theorem State.setBus_stable (hP : StableIn P free) {x0 x1} (h0 : P x0) : P (State.setBus x0 x1) := hP.frame (s := x0) rfl rfl rfl (.inr (Nat.le_refl _)) h0

theorem State.setHeld_stable (hP : StableIn P free) {x0 x1} (h0 : P x0) : P (State.setHeld x0 x1) := hP.frame (s := x0) rfl rfl rfl (.inr (Nat.le_refl _)) h0

theorem State.setEvents_stable (hP : StableIn P free) {x0 x1} (h0 : P x0) : P (State.setEvents x0 x1) := hP.frame (s := x0) rfl rfl rfl (.inr (Nat.le_refl _)) h0

theorem State.setReports_stable (hP : StableIn P free) {x0 x1} (h0 : P x0) : P (State.setReports x0 x1) := hP.frame (s := x0) rfl rfl rfl (.inr (Nat.le_refl _)) h0

theorem State.setTrigAt_stable (hP : StableIn P free) {x0 x1} (h0 : P x0) : P (State.setTrigAt x0 x1) := hP.frame (s := x0) rfl rfl rfl (.inr (Nat.le_refl _)) h0

theorem State.setTrim_stable (hP : StableIn P free) {x0 x1} (h0 : P x0) : P (State.setTrim x0 x1) := hP.frame (s := x0) rfl rfl rfl (.inr (Nat.le_refl _)) h0

theorem State.setCalGen_stable (hP : StableIn P free) {x0 x1} (h0 : P x0) : P (State.setCalGen x0 x1) := hP.frame (s := x0) rfl rfl rfl (.inr (Nat.le_refl _)) h0

theorem State.setCalEnd_stable (hP : StableIn P free) {x0 x1} (h0 : P x0) : P (State.setCalEnd x0 x1) := hP.frame (s := x0) rfl rfl rfl (.inr (Nat.le_refl _)) h0

theorem State.setPortWrites_stable (hP : StableIn P free) {x0 x1} (h0 : P x0) : P (State.setPortWrites x0 x1) := hP.frame (s := x0) rfl rfl rfl (.inr (Nat.le_refl _)) h0

theorem State.setLatFlight_stable (hP : StableIn P free) {x0 x1} (h0 : P x0) : P (State.setLatFlight x0 x1) := hP.frame (s := x0) rfl rfl rfl (.inr (Nat.le_refl _)) h0

theorem State.setCut_stable (hP : StableIn P free) {x0 x1} (h0 : P x0) : P (State.setCut x0 x1) := hP.frame (s := x0) rfl rfl rfl (.inr (Nat.le_refl _)) h0

theorem State.setLaneTest_stable (hP : StableIn P free) {x0 x1} (h0 : P x0) : P (State.setLaneTest x0 x1) := hP.frame (s := x0) rfl rfl rfl (.inr (Nat.le_refl _)) h0

theorem State.setGafQueue_stable (hP : StableIn P free) {x0 x1} (h0 : P x0) : P (State.setGafQueue x0 x1) := hP.frame (s := x0) rfl rfl rfl (.inr (Nat.le_refl _)) h0

theorem State.setStarts_stable (hP : StableIn P free) {x0 x1} (h0 : P x0) : P (State.setStarts x0 x1) := hP.frame (s := x0) rfl rfl rfl (.inr (Nat.le_refl _)) h0

theorem State.setZoneLast_stable (hP : StableIn P free) {x0 x1} (h0 : P x0) : P (State.setZoneLast x0 x1) := hP.frame (s := x0) rfl rfl rfl (.inr (Nat.le_refl _)) h0

theorem State.setSlateOut_stable (hP : StableIn P free) {x0 x1} (h0 : P x0) : P (State.setSlateOut x0 x1) := hP.frame (s := x0) rfl rfl rfl (.inr (Nat.le_refl _)) h0

theorem State.setEngIn_stable (hP : StableIn P free) {x0 x1} (h0 : P x0) : P (State.setEngIn x0 x1) := hP.frame (s := x0) rfl rfl rfl (.inr (Nat.le_refl _)) h0

theorem State.setEngTrigs_stable (hP : StableIn P free) {x0 x1} (h0 : P x0) : P (State.setEngTrigs x0 x1) := hP.frame (s := x0) rfl rfl rfl (.inr (Nat.le_refl _)) h0

theorem State.setEngNeg_stable (hP : StableIn P free) {x0 x1} (h0 : P x0) : P (State.setEngNeg x0 x1) := hP.frame (s := x0) rfl rfl rfl (.inr (Nat.le_refl _)) h0

theorem State.setReelQ_stable (hP : StableIn P free) {x0 x1} (h0 : P x0) : P (State.setReelQ x0 x1) := hP.frame (s := x0) rfl rfl rfl (.inr (Nat.le_refl _)) h0

theorem State.setXfer_stable (hP : StableIn P free) {x0 x1} (h0 : P x0) : P (State.setXfer x0 x1) := hP.frame (s := x0) rfl rfl rfl (.inr (Nat.le_refl _)) h0

theorem State.setPatrol_stable (hP : StableIn P free) {x0 x1} (h0 : P x0) : P (State.setPatrol x0 x1) := hP.frame (s := x0) rfl rfl rfl (.inr (Nat.le_refl _)) h0

theorem State.setFlash_stable (hP : StableIn P free) {x0 x1} (h0 : P x0) : P (State.setFlash x0 x1) := hP.frame (s := x0) rfl rfl rfl (.inr (Nat.le_refl _)) h0

theorem State.setRecs_stable (hP : StableIn P free) {x0 x1} (h0 : P x0) : P (State.setRecs x0 x1) := hP.frame (s := x0) rfl rfl rfl (.inr (Nat.le_refl _)) h0

theorem State.setCtu_stable (hP : StableIn P free) {x0 x1} (h0 : P x0) : P (State.setCtu x0 x1) := hP.frame (s := x0) rfl rfl rfl (.inr (Nat.le_refl _)) h0

theorem State.setImage_stable (hP : StableIn P free) {x0 x1} (h0 : P x0) : P (State.setImage x0 x1) := hP.frame (s := x0) rfl rfl rfl (.inr (Nat.le_refl _)) h0

theorem State.setGaf_stable (hP : StableIn P free) {x0 x1} (h0 : P x0) : P (State.setGaf x0 x1) := hP.frame (s := x0) rfl rfl rfl (.inr (Nat.le_refl _)) h0

theorem State.setPower_stable (hP : StableIn P free) {x0 x1} (h0 : P x0) : P (State.setPower x0 x1) := hP.frame (s := x0) rfl rfl rfl (.inr (Nat.le_refl _)) h0

theorem State.setOtp_stable (hP : StableIn P free) {x0 x1} (h0 : P x0) : P (State.setOtp x0 x1) := hP.frame (s := x0) rfl rfl rfl (.inr (Nat.le_refl _)) h0

theorem State.setBoot_stable (hP : StableIn P free) {x0 x1} (h0 : P x0) : P (State.setBoot x0 x1) := hP.frame (s := x0) rfl rfl rfl (.inr (Nat.le_refl _)) h0

theorem State.setSec_stable (hP : StableIn P free) {x0 x1} (h0 : P x0) : P (State.setSec x0 x1) := hP.frame (s := x0) rfl rfl rfl (.inr (Nat.le_refl _)) h0

theorem State.setLink_stable (hP : StableIn P free) {x0 x1} (h0 : P x0) : P (State.setLink x0 x1) := hP.frame (s := x0) rfl rfl rfl (.inr (Nat.le_refl _)) h0

theorem State.setRushes_stable (hP : StableIn P free) {x0 x1} (h0 : P x0) : P (State.setRushes x0 x1) := hP.frame (s := x0) rfl rfl rfl (.inr (Nat.le_refl _)) h0

theorem State.setSets_stable (hP : StableIn P free) {x0 x1} (h0 : P x0) : P (State.setSets x0 x1) := hP.frame (s := x0) rfl rfl rfl (.inr (Nat.le_refl _)) h0

theorem State.setCmps_stable (hP : StableIn P free) {x0 x1} (h0 : P x0) : P (State.setCmps x0 x1) := hP.frame (s := x0) rfl rfl rfl (.inr (Nat.le_refl _)) h0

theorem State.setSessions_stable (hP : StableIn P free) {x0 x1} (h0 : P x0) : P (State.setSessions x0 x1) := hP.frame (s := x0) rfl rfl rfl (.inr (Nat.le_refl _)) h0

theorem State.setFeedback_stable (hP : StableIn P free) {x0 x1} (h0 : P x0) : P (State.setFeedback x0 x1) := hP.frame (s := x0) rfl rfl rfl (.inr (Nat.le_refl _)) h0

theorem State.setEmus_stable (hP : StableIn P free) {x0 x1} (h0 : P x0) : P (State.setEmus x0 x1) := hP.frame (s := x0) rfl rfl rfl (.inr (Nat.le_refl _)) h0

theorem State.setPorts_stable (hP : StableIn P free) {x0 x1} (h0 : P x0) : P (State.setPorts x0 x1) := hP.frame (s := x0) rfl rfl rfl (.inr (Nat.le_refl _)) h0

theorem State.setEngines_stable (hP : StableIn P free) {x0 x1} (h0 : P x0) : P (State.setEngines x0 x1) := hP.frame (s := x0) rfl rfl rfl (.inr (Nat.le_refl _)) h0

theorem State.setReels_stable (hP : StableIn P free) {x0 x1} (h0 : P x0) : P (State.setReels x0 x1) := hP.frame (s := x0) rfl rfl rfl (.inr (Nat.le_refl _)) h0

theorem State.setBanks_stable (hP : StableIn P free) {x0 x1} (h0 : P x0) : P (State.setBanks x0 x1) := hP.frame (s := x0) rfl rfl rfl (.inr (Nat.le_refl _)) h0

theorem State.setDmas_stable (hP : StableIn P free) {x0 x1} (h0 : P x0) : P (State.setDmas x0 x1) := hP.frame (s := x0) rfl rfl rfl (.inr (Nat.le_refl _)) h0

theorem State.setCores_stable (hP : StableIn P free) {x0 x1} (h0 : P x0) : P (State.setCores x0 x1) := hP.frame (s := x0) rfl rfl rfl (.inr (Nat.le_refl _)) h0

theorem State.setSerials_stable (hP : StableIn P free) {x0 x1} (h0 : P x0) : P (State.setSerials x0 x1) := hP.frame (s := x0) rfl rfl rfl (.inr (Nat.le_refl _)) h0

theorem State.setFree_stable (hP : StableIn P free) {x0 x1} (h0 : P x0) : P (State.setFree x0 x1) := hP.frame (s := x0) rfl rfl rfl (.inr (Nat.le_refl _)) h0

theorem State.putRush_stable (hP : StableIn P free) {x0 x1 x2} (h0 : P x0) : P (State.putRush x0 x1 x2) := by
  unfold State.putRush
  try dsimp only
  with_reducible repeat' first
      | assumption | intro _ | apply hP.put | apply State.setRushes_stable hP | dsimp only

theorem State.putSampSet_stable (hP : StableIn P free) {x0 x1 x2} (h0 : P x0) : P (State.putSampSet x0 x1 x2) := by
  unfold State.putSampSet
  try dsimp only
  with_reducible repeat' first
      | assumption | intro _ | apply hP.put | apply State.setSets_stable hP | dsimp only

theorem State.putCmp_stable (hP : StableIn P free) {x0 x1 x2} (h0 : P x0) : P (State.putCmp x0 x1 x2) := by
  unfold State.putCmp
  try dsimp only
  with_reducible repeat' first
      | assumption | intro _ | apply hP.put | apply State.setCmps_stable hP | dsimp only

theorem State.putSession_stable (hP : StableIn P free) {x0 x1 x2} (h0 : P x0) : P (State.putSession x0 x1 x2) := by
  unfold State.putSession
  try dsimp only
  with_reducible repeat' first
      | assumption | intro _ | apply hP.put | apply State.setSessions_stable hP | dsimp only

theorem State.putPf_stable (hP : StableIn P free) {x0 x1 x2} (h0 : P x0) : P (State.putPf x0 x1 x2) := by
  unfold State.putPf
  try dsimp only
  with_reducible repeat' first
      | assumption | intro _ | apply hP.put | apply State.setFeedback_stable hP | dsimp only

theorem State.putEmu_stable (hP : StableIn P free) {x0 x1 x2} (h0 : P x0) : P (State.putEmu x0 x1 x2) := by
  unfold State.putEmu
  try dsimp only
  with_reducible repeat' first
      | assumption | intro _ | apply hP.put | apply State.setEmus_stable hP | dsimp only

theorem State.putPort_stable (hP : StableIn P free) {x0 x1 x2} (h0 : P x0) : P (State.putPort x0 x1 x2) := by
  unfold State.putPort
  try dsimp only
  with_reducible repeat' first
      | assumption | intro _ | apply hP.put | apply State.setPorts_stable hP | dsimp only

theorem State.putEng_stable (hP : StableIn P free) {x0 x1 x2} (h0 : P x0) : P (State.putEng x0 x1 x2) := by
  unfold State.putEng
  try dsimp only
  with_reducible repeat' first
      | assumption | intro _ | apply hP.put | apply State.setEngines_stable hP | dsimp only

theorem State.putReel_stable (hP : StableIn P free) {x0 x1 x2} (h0 : P x0) : P (State.putReel x0 x1 x2) := by
  unfold State.putReel
  try dsimp only
  with_reducible repeat' first
      | assumption | intro _ | apply hP.put | apply State.setReels_stable hP | dsimp only

theorem State.putBank_stable (hP : StableIn P free) {x0 x1 x2} (h0 : P x0) : P (State.putBank x0 x1 x2) := by
  unfold State.putBank
  try dsimp only
  with_reducible repeat' first
      | assumption | intro _ | apply hP.put | apply State.setBanks_stable hP | dsimp only

theorem State.putDma_stable (hP : StableIn P free) {x0 x1 x2} (h0 : P x0) : P (State.putDma x0 x1 x2) := by
  unfold State.putDma
  try dsimp only
  with_reducible repeat' first
      | assumption | intro _ | apply hP.put | apply State.setDmas_stable hP | dsimp only

theorem State.putCore_stable (hP : StableIn P free) {x0 x1 x2} (h0 : P x0) : P (State.putCore x0 x1 x2) := by
  unfold State.putCore
  try dsimp only
  with_reducible repeat' first
      | assumption | intro _ | apply hP.put | apply State.setCores_stable hP | dsimp only

theorem State.putSerial_stable (hP : StableIn P free) {x0 x1 x2} (h0 : P x0) : P (State.putSerial x0 x1 x2) := by
  unfold State.putSerial
  try dsimp only
  with_reducible repeat' first
      | assumption | intro _ | apply hP.put | apply State.setSerials_stable hP | dsimp only

theorem State.putReg_stable (hP : StableIn P free) {x0 x1 x2 x3} (h0 : P x0) : P (State.putReg x0 x1 x2 x3) := by
  unfold State.putReg
  try dsimp only
  with_reducible repeat' first
      | assumption | intro _ | apply hP.put | apply State.putCore_stable hP | split
      | refine snd_stable (by assumption) ?_ | refine fst_stable (by assumption) ?_
      | refine some_stable (by assumption) ?_ | refine some_stable2 (by assumption) ?_
      | refine snd2_stable (by assumption) ?_ | dsimp only

theorem loopEdge_stable (hP : StableIn P free) {x0 x1 x2} (h2 : P x2) : P (loopEdge x0 x1 x2) := by
  unfold loopEdge
  try dsimp only
  with_reducible repeat' first
      | assumption | intro _ | apply hP.put | apply State.putCore_stable hP | apply ite_stable (P := P)
      | apply ite_st (P := P) | apply ite_sec (P := P) | apply ite_snd (P := P) | apply ite_snd2 (P := P)
      | apply ite_fst (P := P) | apply id_stable (P := P) | dsimp only

theorem adv_stable (hP : StableIn P free) {x0 x1 x2} (h2 : P x2) : P (adv x0 x1 x2) := by
  unfold adv
  try dsimp only
  with_reducible repeat' first
      | assumption | intro _ | apply hP.put | apply loopEdge_stable hP | apply State.putCore_stable hP | dsimp only

theorem putFlags_stable (hP : StableIn P free) {x0 x1 x2} (h2 : P x2) : P (putFlags x0 x1 x2) := by
  unfold putFlags
  try dsimp only
  with_reducible repeat' first
      | assumption | intro _ | apply hP.put | apply State.putCore_stable hP | dsimp only

theorem result_stable (hP : StableIn P free) {x0 x1 x2 x3 x4 x5} (h5 : P x5) : P (result x0 x1 x2 x3 x4 x5) := by
  unfold result
  try dsimp only
  with_reducible repeat' first
      | assumption | intro _ | apply hP.put | apply State.putReg_stable hP | apply adv_stable hP
      | apply putFlags_stable hP | apply ite_stable (P := P) | dsimp only

theorem State.report_stable (hP : StableIn P free) {x0 x1 x2 x3} (h0 : P x0) : P (State.report x0 x1 x2 x3) := by
  unfold State.report
  try dsimp only
  with_reducible repeat' first
      | assumption | intro _ | apply State.setReports_stable hP | apply ite_stable (P := P) | apply ite_st (P := P)
      | apply ite_sec (P := P) | apply ite_snd (P := P) | apply ite_snd2 (P := P) | apply ite_fst (P := P)
      | apply id_stable (P := P) | dsimp only

theorem State.incSat_stable (hP : StableIn P free) {x0 x1} (h0 : P x0) : P (State.incSat x0 x1) := by
  unfold State.incSat
  try dsimp only
  with_reducible repeat' first
      | assumption | intro _ | apply hP.put | dsimp only

theorem queueReloc_stable (hP : StableIn P free) {x0 x1 x2} (h2 : P x2) : P (queueReloc x0 x1 x2) := by
  unfold queueReloc
  try dsimp only
  with_reducible repeat' first
      | assumption | intro _ | apply State.setFlash_stable hP | apply ite_stable (P := P) | dsimp only

theorem lineRead_stable (hP : StableIn P free) {x0 x1} (h1 : P x1) : P (lineRead x0 x1).2 := by
  unfold lineRead
  try dsimp only
  with_reducible repeat' first
      | assumption | intro _ | apply hP.put | apply State.report_stable hP | apply State.incSat_stable hP
      | apply queueReloc_stable hP | apply ite_stable (P := P) | apply ite_snd (P := P) | dsimp only

theorem flashRead_stable (hP : StableIn P free) {x0 x1} (h1 : P x1) : P (flashRead x0 x1).st := by
  unfold flashRead
  try dsimp only
  with_reducible repeat' first
      | assumption | intro _ | apply hP.put | apply lineRead_stable hP | apply ite_stable (P := P)
      | apply ite_st (P := P) | apply ite_sec (P := P) | apply ite_snd (P := P) | apply ite_snd2 (P := P)
      | apply ite_fst (P := P) | apply id_stable (P := P) | dsimp only

theorem State.putB_stable (hP : StableIn P free) {x0 x1 x2} (h0 : P x0) : P (State.putB x0 x1 x2) := by
  unfold State.putB
  try dsimp only
  with_reducible repeat' first
      | assumption | intro _ | apply hP.put | apply ite_stable (P := P) | dsimp only

theorem State.unmark_stable (hP : StableIn P free) {x0 x1} (h0 : P x0) : P (State.unmark x0 x1) := by
  unfold State.unmark
  try dsimp only
  with_reducible repeat' first
      | assumption | intro _ | apply State.setMarks_stable hP | dsimp only

theorem bankError_stable (hP : StableIn P free) {x0 x1 x2 x3} (h3 : P x3) : P (bankError x0 x1 x2 x3) := by
  unfold bankError
  try dsimp only
  with_reducible repeat' first
      | assumption | intro _ | apply hP.put | apply State.incSat_stable hP | apply State.putB_stable hP
      | apply State.report_stable hP | apply State.unmark_stable hP | apply ite_stable (P := P) | dsimp only

theorem bankFetch_stable (hP : StableIn P free) {x0 x1 x2} (h2 : P x2) : P (bankFetch x0 x1 x2).st := by
  unfold bankFetch
  try dsimp only
  with_reducible repeat' first
      | assumption | intro _ | apply bankError_stable hP | apply ite_stable (P := P) | apply ite_st (P := P)
      | apply ite_sec (P := P) | split | refine snd_stable (by assumption) ?_ | refine fst_stable (by assumption) ?_
      | refine some_stable (by assumption) ?_ | refine some_stable2 (by assumption) ?_
      | refine snd2_stable (by assumption) ?_ | dsimp only

theorem ddrError_stable (hP : StableIn P free) {x0 x1 x2} (h2 : P x2) : P (ddrError x0 x1 x2) := by
  unfold ddrError
  try dsimp only
  with_reducible repeat' first
      | assumption | intro _ | apply hP.put | apply State.report_stable hP | apply State.incSat_stable hP
      | apply State.unmark_stable hP | apply ite_stable (P := P) | dsimp only

theorem granuleRead_stable (hP : StableIn P free) {x0 x1} (h1 : P x1) : P (granuleRead x0 x1).st := by
  unfold granuleRead
  try dsimp only
  with_reducible repeat' first
      | assumption | intro _ | apply ddrError_stable hP | apply ite_stable (P := P) | apply ite_st (P := P)
      | apply ite_sec (P := P) | split | refine snd_stable (by assumption) ?_ | refine fst_stable (by assumption) ?_
      | refine some_stable (by assumption) ?_ | refine some_stable2 (by assumption) ?_
      | refine snd2_stable (by assumption) ?_ | dsimp only

theorem ddrRead_stable (hP : StableIn P free) {x0 x1} (h1 : P x1) : P (ddrRead x0 x1).st := by
  unfold ddrRead
  try dsimp only
  with_reducible repeat' first
      | assumption | intro _ | apply granuleRead_stable hP | dsimp only

theorem fetchFrom_stable (hP : StableIn P free) {x0 x1 x2} (h2 : P x2) : P (fetchFrom x0 x1 x2).st := by
  unfold fetchFrom
  try dsimp only
  with_reducible repeat' first
      | assumption | intro _ | apply flashRead_stable hP | apply bankFetch_stable hP | apply ddrRead_stable hP
      | apply ite_stable (P := P) | apply ite_st (P := P) | apply ite_sec (P := P) | split
      | refine snd_stable (by assumption) ?_ | refine fst_stable (by assumption) ?_
      | refine some_stable (by assumption) ?_ | refine some_stable2 (by assumption) ?_
      | refine snd2_stable (by assumption) ?_ | dsimp only

theorem clockSeen_stable (hP : StableIn P free) {x0 x1} (h1 : P x1) : P (clockSeen x0 x1) := by
  unfold clockSeen
  try dsimp only
  with_reducible repeat' first
      | assumption | intro _ | apply hP.put | apply State.putCore_stable hP | apply ite_stable (P := P)
      | apply ite_st (P := P) | apply ite_sec (P := P) | apply ite_snd (P := P) | apply ite_snd2 (P := P)
      | apply ite_fst (P := P) | apply OptS.some (P := P) | exact OptS.none | apply OptS2.some (P := P)
      | exact OptS2.none | apply OptS.bind (P := P) | apply OptS.bind2 (P := P) | apply OptS.map (P := P)
      | apply OptS.map0 (P := P) | apply OptS2.map (P := P) | apply OptS.getD (P := P) | apply OptS.ite (P := P)
      | apply OptS2.ite (P := P) | apply id_stable (P := P) | apply foldl_stable (P := P)
      | apply foldl_stable2 (P := P) | apply foldl_stable1 (P := P) | split | refine snd2_stable (by assumption) ?_
      | refine snd_stable (by assumption) ?_ | refine fst_stable (by assumption) ?_
      | refine some_stable (by assumption) ?_ | refine some_stable2 (by assumption) ?_ | dsimp only

theorem islandRestart_stable (hP : StableIn P free) {x0 x1} (h1 : P x1) : P (islandRestart x0 x1) := by
  unfold islandRestart
  try dsimp only
  with_reducible repeat' first
      | assumption | intro _ | apply hP.put | apply clockSeen_stable hP | apply ite_stable (P := P)
      | apply ite_st (P := P) | apply ite_sec (P := P) | apply ite_snd (P := P) | apply ite_snd2 (P := P)
      | apply ite_fst (P := P) | apply id_stable (P := P) | dsimp only

theorem restartFor_stable (hP : StableIn P free) {x0 x1} (h1 : P x1) : P (restartFor x0 x1) := by
  unfold restartFor
  try dsimp only
  with_reducible repeat' first
      | assumption | intro _ | apply islandRestart_stable hP | split | refine snd_stable (by assumption) ?_
      | refine fst_stable (by assumption) ?_ | refine some_stable (by assumption) ?_
      | refine some_stable2 (by assumption) ?_ | refine snd2_stable (by assumption) ?_ | dsimp only

theorem dirty_stable (hP : StableIn P free) {x0 x1 x2} (h2 : P x2) : P (dirty x0 x1 x2) := by
  unfold dirty
  try dsimp only
  with_reducible repeat' first
      | assumption | intro _ | apply hP.put | apply ite_stable (P := P) | apply ite_st (P := P)
      | apply ite_sec (P := P) | apply ite_snd (P := P) | apply ite_snd2 (P := P) | apply ite_fst (P := P)
      | apply id_stable (P := P) | dsimp only

theorem cpLand_stable (hP : StableIn P free) {x0 x1 x2} (h2 : P x2) : P (cpLand x0 x1 x2) := by
  unfold cpLand
  try dsimp only
  with_reducible repeat' first
      | assumption | intro _ | apply hP.put | apply State.putCore_stable hP | apply dirty_stable hP
      | apply ite_stable (P := P) | apply ite_st (P := P) | apply ite_sec (P := P) | apply ite_snd (P := P)
      | apply ite_snd2 (P := P) | apply ite_fst (P := P) | apply OptS.some (P := P) | exact OptS.none
      | apply OptS2.some (P := P) | exact OptS2.none | apply OptS.bind (P := P) | apply OptS.bind2 (P := P)
      | apply OptS.map (P := P) | apply OptS.map0 (P := P) | apply OptS2.map (P := P) | apply OptS.getD (P := P)
      | apply OptS.ite (P := P) | apply OptS2.ite (P := P) | apply id_stable (P := P) | apply foldl_stable (P := P)
      | apply foldl_stable2 (P := P) | apply foldl_stable1 (P := P) | split | refine snd2_stable (by assumption) ?_
      | refine snd_stable (by assumption) ?_ | refine fst_stable (by assumption) ?_
      | refine some_stable (by assumption) ?_ | refine some_stable2 (by assumption) ?_ | dsimp only

theorem flyOn_stable (hP : StableIn P free) {x0 x1 x2} (h2 : P x2) : P (flyOn x0 x1 x2) := by
  unfold flyOn
  try dsimp only
  with_reducible repeat' first
      | assumption | intro _ | apply hP.put | apply State.putCore_stable hP | apply cpLand_stable hP
      | apply ite_stable (P := P) | apply ite_st (P := P) | apply ite_sec (P := P) | apply ite_snd (P := P)
      | apply ite_snd2 (P := P) | apply ite_fst (P := P) | apply OptS.some (P := P) | exact OptS.none
      | apply OptS2.some (P := P) | exact OptS2.none | apply OptS.bind (P := P) | apply OptS.bind2 (P := P)
      | apply OptS.map (P := P) | apply OptS.map0 (P := P) | apply OptS2.map (P := P) | apply OptS.getD (P := P)
      | apply OptS.ite (P := P) | apply OptS2.ite (P := P) | apply id_stable (P := P) | apply foldl_stable (P := P)
      | apply foldl_stable2 (P := P) | apply foldl_stable1 (P := P) | split | refine snd2_stable (by assumption) ?_
      | refine snd_stable (by assumption) ?_ | refine fst_stable (by assumption) ?_
      | refine some_stable (by assumption) ?_ | refine some_stable2 (by assumption) ?_ | dsimp only

theorem coreShow_stable (hP : StableIn P free) {x0 x1} (h1 : P x1) : P (coreShow x0 x1) := by
  unfold coreShow
  try dsimp only
  with_reducible repeat' first
      | assumption | intro _ | apply hP.put | apply foldl_stable (P := P) | apply foldl_stable2 (P := P)
      | apply foldl_stable1 (P := P) | apply ite_stable (P := P) | split | dsimp only

theorem postInner_stable (hP : StableIn P free) {x0 x1 x2 x3 x4 x5} (h5 : P x5) : P (postInner x0 x1 x2 x3 x4 x5) := by
  unfold postInner
  try dsimp only
  with_reducible repeat' first
      | assumption | intro _ | apply hP.put | apply State.incSat_stable hP | apply coreShow_stable hP
      | apply State.putCore_stable hP | apply ite_stable (P := P) | dsimp only

theorem holdEnd_stable (hP : StableIn P free) {x0 x1} (h1 : P x1) : P (holdEnd x0 x1) := by
  unfold holdEnd
  try dsimp only
  with_reducible repeat' first
      | assumption | intro _ | apply hP.put | apply State.putCore_stable hP | apply State.report_stable hP
      | apply postInner_stable hP | apply ite_stable (P := P) | dsimp only

theorem holdOn_stable (hP : StableIn P free) {x0 x1 x2} (h2 : P x2) : P (holdOn x0 x1 x2) := by
  unfold holdOn
  try dsimp only
  with_reducible repeat' first
      | assumption | intro _ | apply hP.put | apply State.putCore_stable hP | apply holdEnd_stable hP
      | apply ite_stable (P := P) | apply ite_st (P := P) | apply ite_sec (P := P) | apply ite_snd (P := P)
      | apply ite_snd2 (P := P) | apply ite_fst (P := P) | apply id_stable (P := P) | dsimp only

theorem pass_stable (hP : StableIn P free) {x0 x1 x2} (h2 : P x2) : P (pass x0 x1 x2) := by
  unfold pass
  try dsimp only
  with_reducible repeat' first
      | assumption | intro _ | apply hP.put | apply State.putCore_stable hP | apply flyOn_stable hP
      | apply holdOn_stable hP | apply ite_stable (P := P) | apply ite_st (P := P) | apply ite_sec (P := P)
      | apply ite_snd (P := P) | apply ite_snd2 (P := P) | apply ite_fst (P := P) | apply id_stable (P := P)
      | dsimp only

theorem fillLine_stable (hP : StableIn P free) {x0 x1 x2 x3} (h3 : P x3) : P (fillLine x0 x1 x2 x3) := by
  unfold fillLine
  try dsimp only
  with_reducible repeat' first
      | assumption | intro _ | apply hP.put | apply State.putCore_stable hP | apply ddrRead_stable hP
      | apply ite_stable (P := P) | apply ite_st (P := P) | apply ite_sec (P := P) | apply ite_snd (P := P)
      | apply ite_snd2 (P := P) | apply ite_fst (P := P) | apply OptS.some (P := P) | exact OptS.none
      | apply OptS2.some (P := P) | exact OptS2.none | apply OptS.bind (P := P) | apply OptS.bind2 (P := P)
      | apply OptS.map (P := P) | apply OptS.map0 (P := P) | apply OptS2.map (P := P) | apply OptS.getD (P := P)
      | apply OptS.ite (P := P) | apply OptS2.ite (P := P) | apply id_stable (P := P) | apply foldl_stable (P := P)
      | apply foldl_stable2 (P := P) | apply foldl_stable1 (P := P) | split | refine snd2_stable (by assumption) ?_
      | refine snd_stable (by assumption) ?_ | refine fst_stable (by assumption) ?_
      | refine some_stable (by assumption) ?_ | refine some_stable2 (by assumption) ?_ | dsimp only

theorem fetchRegion_stable (hP : StableIn P free) {x0 x1 x2} (h2 : P x2) : P (fetchRegion x0 x1 x2).st := by
  unfold fetchRegion
  try dsimp only
  with_reducible repeat' first
      | assumption | intro _ | apply restartFor_stable hP | apply fetchFrom_stable hP | apply ite_stable (P := P)
      | apply ite_st (P := P) | apply ite_sec (P := P) | apply ite_snd (P := P) | apply ite_snd2 (P := P)
      | apply ite_fst (P := P) | apply id_stable (P := P) | dsimp only

theorem fetchLine_stable (hP : StableIn P free) {x0 x1 x2} (h2 : P x2) : P (fetchLine x0 x1 x2).st := by
  unfold fetchLine
  try dsimp only
  with_reducible repeat' first
      | assumption | intro _ | apply fillLine_stable hP | apply fetchRegion_stable hP | apply ite_stable (P := P)
      | apply ite_st (P := P) | apply ite_sec (P := P) | apply ite_snd (P := P) | apply ite_snd2 (P := P)
      | apply ite_fst (P := P) | apply OptS.some (P := P) | exact OptS.none | apply OptS2.some (P := P)
      | exact OptS2.none | apply OptS.bind (P := P) | apply OptS.bind2 (P := P) | apply OptS.map (P := P)
      | apply OptS.map0 (P := P) | apply OptS2.map (P := P) | apply OptS.getD (P := P) | apply OptS.ite (P := P)
      | apply OptS2.ite (P := P) | apply id_stable (P := P) | apply foldl_stable (P := P)
      | apply foldl_stable2 (P := P) | apply foldl_stable1 (P := P) | split | refine snd2_stable (by assumption) ?_
      | refine snd_stable (by assumption) ?_ | refine fst_stable (by assumption) ?_
      | refine some_stable (by assumption) ?_ | refine some_stable2 (by assumption) ?_ | dsimp only

theorem fetchWord_stable (hP : StableIn P free) {x0 x1 x2} (h2 : P x2) : P (fetchWord x0 x1 x2).st := by
  unfold fetchWord
  try dsimp only
  with_reducible repeat' first
      | assumption | intro _ | apply hP.put | apply State.putCore_stable hP | apply fetchLine_stable hP
      | apply ite_stable (P := P) | apply ite_st (P := P) | apply ite_sec (P := P) | apply ite_snd (P := P)
      | apply ite_snd2 (P := P) | apply ite_fst (P := P) | apply OptS.some (P := P) | exact OptS.none
      | apply OptS2.some (P := P) | exact OptS2.none | apply OptS.bind (P := P) | apply OptS.bind2 (P := P)
      | apply OptS.map (P := P) | apply OptS.map0 (P := P) | apply OptS2.map (P := P) | apply OptS.getD (P := P)
      | apply OptS.ite (P := P) | apply OptS2.ite (P := P) | apply id_stable (P := P) | apply foldl_stable (P := P)
      | apply foldl_stable2 (P := P) | apply foldl_stable1 (P := P) | split | refine snd2_stable (by assumption) ?_
      | refine snd_stable (by assumption) ?_ | refine fst_stable (by assumption) ?_
      | refine some_stable (by assumption) ?_ | refine some_stable2 (by assumption) ?_ | dsimp only

theorem State.putCoreState_stable (hP : StableIn P free) {x0 x1 x2} (h0 : P x0) : P (State.putCoreState x0 x1 x2) := by
  unfold State.putCoreState
  try dsimp only
  with_reducible repeat' first
      | assumption | intro _ | apply hP.put | dsimp only

theorem State.reportAgain_stable (hP : StableIn P free) {x0 x1 x2 x3} (h0 : P x0) : P (State.reportAgain x0 x1 x2 x3) := by
  unfold State.reportAgain
  try dsimp only
  with_reducible repeat' first
      | assumption | intro _ | apply State.setReports_stable hP | apply ite_stable (P := P) | apply ite_st (P := P)
      | apply ite_sec (P := P) | apply ite_snd (P := P) | apply ite_snd2 (P := P) | apply ite_fst (P := P)
      | apply id_stable (P := P) | dsimp only

theorem coreFail_stable (hP : StableIn P free) {x0 x1 x2 x3 x4} (h4 : P x4) : P (coreFail x0 x1 x2 x3 x4) := by
  unfold coreFail
  try dsimp only
  with_reducible repeat' first
      | assumption | intro _ | apply hP.put | apply State.setCtu_stable hP | apply State.putCore_stable hP
      | apply State.putCoreState_stable hP | apply coreShow_stable hP | apply State.report_stable hP
      | apply State.reportAgain_stable hP | apply ite_stable (P := P) | apply ite_st (P := P) | apply ite_sec (P := P)
      | apply ite_snd (P := P) | apply ite_snd2 (P := P) | apply ite_fst (P := P) | apply id_stable (P := P)
      | dsimp only

theorem raiseSync_stable (hP : StableIn P free) {x0 x1 x2 x3 x4 x5} (h5 : P x5) : P (raiseSync x0 x1 x2 x3 x4 x5) := by
  unfold raiseSync
  try dsimp only
  with_reducible repeat' first
      | assumption | intro _ | apply hP.put | apply State.putCore_stable hP | apply coreFail_stable hP
      | apply ite_stable (P := P) | dsimp only

theorem prefetch_stable (hP : StableIn P free) {x0 x1 x2} (h2 : P x2) : P (prefetch x0 x1 x2) := by
  unfold prefetch
  try dsimp only
  with_reducible repeat' first
      | assumption | intro _ | apply hP.put | apply State.putCore_stable hP | apply fetchWord_stable hP
      | apply ite_stable (P := P) | apply ite_st (P := P) | apply ite_sec (P := P) | apply ite_snd (P := P)
      | apply ite_snd2 (P := P) | apply ite_fst (P := P) | apply id_stable (P := P) | dsimp only

theorem takeWord_stable (hP : StableIn P free) {x0 x1 x2} (h2 : P x2) : P (takeWord x0 x1 x2).2 := by
  unfold takeWord
  try dsimp only
  with_reducible repeat' first
      | assumption | intro _ | apply hP.put | apply State.putCore_stable hP | apply pass_stable hP
      | apply prefetch_stable hP | apply ite_stable (P := P) | apply ite_st (P := P) | apply ite_sec (P := P)
      | apply ite_snd (P := P) | apply ite_snd2 (P := P) | apply ite_fst (P := P) | apply OptS.some (P := P)
      | exact OptS.none | apply OptS2.some (P := P) | exact OptS2.none | apply OptS.bind (P := P)
      | apply OptS.bind2 (P := P) | apply OptS.map (P := P) | apply OptS.map0 (P := P) | apply OptS2.map (P := P)
      | apply OptS.getD (P := P) | apply OptS.ite (P := P) | apply OptS2.ite (P := P) | apply id_stable (P := P)
      | apply foldl_stable (P := P) | apply foldl_stable2 (P := P) | apply foldl_stable1 (P := P) | split
      | refine snd2_stable (by assumption) ?_ | refine snd_stable (by assumption) ?_
      | refine fst_stable (by assumption) ?_ | refine some_stable (by assumption) ?_
      | refine some_stable2 (by assumption) ?_ | dsimp only

theorem fetched_stable (hP : StableIn P free) {x0 x1 x2 x3} (hk2 : ∀ y0, P y0 → P (x2 y0)) (h3 : P x3) : P (fetched x0 x1 x2 x3) := by
  unfold fetched
  try dsimp only
  with_reducible repeat' first
      | assumption | intro _ | apply raiseSync_stable hP | apply takeWord_stable hP | apply hk2
      | apply ite_stable (P := P) | apply ite_st (P := P) | apply ite_sec (P := P) | apply ite_snd (P := P)
      | apply ite_snd2 (P := P) | apply ite_fst (P := P) | apply id_stable (P := P) | dsimp only

theorem begin__stable (hP : StableIn P free) {x0 x1 x2} (h2 : P x2) : P (begin_ x0 x1 x2) := by
  unfold begin_
  try dsimp only
  with_reducible repeat' first
      | assumption | intro _ | apply hP.put | apply State.putCore_stable hP | apply ite_stable (P := P)
      | apply ite_st (P := P) | apply ite_sec (P := P) | apply ite_snd (P := P) | apply ite_snd2 (P := P)
      | apply ite_fst (P := P) | apply id_stable (P := P) | dsimp only

theorem catchUp_stable (hP : StableIn P free) {x0 x1} (h1 : P x1) : P (catchUp x0 x1) := by
  unfold catchUp
  try dsimp only
  with_reducible repeat' first
      | assumption | intro _ | apply hP.put | apply State.putCore_stable hP | apply flyOn_stable hP
      | apply holdOn_stable hP | apply ite_stable (P := P) | apply ite_st (P := P) | apply ite_sec (P := P)
      | apply ite_snd (P := P) | apply ite_snd2 (P := P) | apply ite_fst (P := P) | apply id_stable (P := P)
      | dsimp only

theorem extension_stable (hP : StableIn P free) {x0 x1 x2 x3} (hk2 : ∀ y0, P y0 → P (x2 y0)) (h3 : P x3) : P (extension x0 x1 x2 x3) := by
  unfold extension
  try dsimp only
  with_reducible repeat' first
      | assumption | intro _ | apply hP.put | apply State.putCore_stable hP | apply bankFetch_stable hP
      | apply raiseSync_stable hP | apply pass_stable hP | apply fetched_stable hP | apply hk2
      | apply ite_stable (P := P) | apply ite_st (P := P) | apply ite_sec (P := P) | apply ite_snd (P := P)
      | apply ite_snd2 (P := P) | apply ite_fst (P := P) | apply OptS.some (P := P) | exact OptS.none
      | apply OptS2.some (P := P) | exact OptS2.none | apply OptS.bind (P := P) | apply OptS.bind2 (P := P)
      | apply OptS.map (P := P) | apply OptS.map0 (P := P) | apply OptS2.map (P := P) | apply OptS.getD (P := P)
      | apply OptS.ite (P := P) | apply OptS2.ite (P := P) | apply id_stable (P := P) | apply foldl_stable (P := P)
      | apply foldl_stable2 (P := P) | apply foldl_stable1 (P := P) | split | refine snd2_stable (by assumption) ?_
      | refine snd_stable (by assumption) ?_ | refine fst_stable (by assumption) ?_
      | refine some_stable (by assumption) ?_ | refine some_stable2 (by assumption) ?_ | dsimp only

theorem prefetchNext_stable (hP : StableIn P free) {x0 x1} (h1 : P x1) : P (prefetchNext x0 x1) := by
  unfold prefetchNext
  try dsimp only
  with_reducible repeat' first
      | assumption | intro _ | apply prefetch_stable hP | apply ite_stable (P := P) | apply ite_st (P := P)
      | apply ite_sec (P := P) | apply ite_snd (P := P) | apply ite_snd2 (P := P) | apply ite_fst (P := P)
      | apply id_stable (P := P) | dsimp only

theorem heldBack_stable (hP : StableIn P free) {x0 x1 x2} (h1 : P x1) (h2 : P x2) : P (heldBack x0 x1 x2) := by
  unfold heldBack
  try dsimp only
  with_reducible repeat' first
      | assumption | intro _ | apply hP.put | apply State.putCore_stable hP | apply ite_stable (P := P)
      | apply ite_st (P := P) | apply ite_sec (P := P) | apply ite_snd (P := P) | apply ite_snd2 (P := P)
      | apply ite_fst (P := P) | apply id_stable (P := P) | dsimp only

theorem haltShow_stable (hP : StableIn P free) {x0} (h0 : P x0) : P (haltShow x0) := by
  unfold haltShow
  try dsimp only
  with_reducible repeat' first
      | assumption | intro _ | apply hP.put | apply catchUp_stable hP | apply ite_stable (P := P)
      | apply ite_st (P := P) | apply ite_sec (P := P) | apply ite_snd (P := P) | apply ite_snd2 (P := P)
      | apply ite_fst (P := P) | apply OptS.some (P := P) | exact OptS.none | apply OptS2.some (P := P)
      | exact OptS2.none | apply OptS.bind (P := P) | apply OptS.bind2 (P := P) | apply OptS.map (P := P)
      | apply OptS.map0 (P := P) | apply OptS2.map (P := P) | apply OptS.getD (P := P) | apply OptS.ite (P := P)
      | apply OptS2.ite (P := P) | apply id_stable (P := P) | apply foldl_stable (P := P)
      | apply foldl_stable2 (P := P) | apply foldl_stable1 (P := P) | split | refine snd2_stable (by assumption) ?_
      | refine snd_stable (by assumption) ?_ | refine fst_stable (by assumption) ?_
      | refine some_stable (by assumption) ?_ | refine some_stable2 (by assumption) ?_ | dsimp only

theorem haltBoundary_stable (hP : StableIn P free) {x0 x1} (h1 : P x1) : P (haltBoundary x0 x1) := by
  unfold haltBoundary
  try dsimp only
  with_reducible repeat' first
      | assumption | intro _ | apply haltShow_stable hP | apply ite_stable (P := P) | apply ite_st (P := P)
      | apply ite_sec (P := P) | apply ite_snd (P := P) | apply ite_snd2 (P := P) | apply ite_fst (P := P)
      | apply id_stable (P := P) | dsimp only

theorem issued_stable (hP : StableIn P free) {x0 x1 x2 x3} (h2 : P x2) (h3 : P x3) : P (issued x0 x1 x2 x3) := by
  unfold issued
  try dsimp only
  with_reducible repeat' first
      | assumption | intro _ | apply pass_stable hP | apply prefetch_stable hP | apply prefetchNext_stable hP
      | apply heldBack_stable hP | apply haltBoundary_stable hP | apply ite_stable (P := P) | apply ite_st (P := P)
      | apply ite_sec (P := P) | apply ite_snd (P := P) | apply ite_snd2 (P := P) | apply ite_fst (P := P)
      | apply OptS.some (P := P) | exact OptS.none | apply OptS2.some (P := P) | exact OptS2.none
      | apply OptS.bind (P := P) | apply OptS.bind2 (P := P) | apply OptS.map (P := P) | apply OptS.map0 (P := P)
      | apply OptS2.map (P := P) | apply OptS.getD (P := P) | apply OptS.ite (P := P) | apply OptS2.ite (P := P)
      | apply id_stable (P := P) | apply foldl_stable (P := P) | apply foldl_stable2 (P := P)
      | apply foldl_stable1 (P := P) | split | refine snd2_stable (by assumption) ?_
      | refine snd_stable (by assumption) ?_ | refine fst_stable (by assumption) ?_
      | refine some_stable (by assumption) ?_ | refine some_stable2 (by assumption) ?_ | dsimp only

theorem issue_stable (hP : StableIn P free) {x0 x1 x2 x3 x4} (hk3 : ∀ y0, P y0 → P (x3 y0)) (h4 : P x4) : P (issue x0 x1 x2 x3 x4) := by
  unfold issue
  try dsimp only
  with_reducible repeat' first
      | assumption | intro _ | apply catchUp_stable hP | apply fetched_stable hP | apply extension_stable hP
      | apply begin__stable hP | apply issued_stable hP | apply hk3 | apply ite_stable (P := P)
      | apply ite_st (P := P) | apply ite_sec (P := P) | apply ite_snd (P := P) | apply ite_snd2 (P := P)
      | apply ite_fst (P := P) | apply id_stable (P := P) | dsimp only

theorem alu_stable (hP : StableIn P free) {x0 x1 x2 x3 x4} (h4 : P x4) : P (alu x0 x1 x2 x3 x4) := by
  unfold alu
  try dsimp only
  with_reducible repeat' first
      | assumption | intro _ | apply issue_stable hP | apply result_stable hP | dsimp only

theorem compare_stable (hP : StableIn P free) {x0 x1 x2} (h2 : P x2) : P (compare x0 x1 x2) := by
  unfold compare
  try dsimp only
  with_reducible repeat' first
      | assumption | intro _ | apply hP.put | apply issue_stable hP | apply adv_stable hP | apply putFlags_stable hP
      | dsimp only

theorem illegal_stable (hP : StableIn P free) {x0 x1 x2} (h2 : P x2) : P (illegal x0 x1 x2) := by
  unfold illegal
  try dsimp only
  with_reducible repeat' first
      | assumption | intro _ | apply raiseSync_stable hP | dsimp only

theorem State.putPair_stable (hP : StableIn P free) {x0 x1 x2 x3} (h0 : P x0) : P (State.putPair x0 x1 x2 x3) := by
  unfold State.putPair
  try dsimp only
  with_reducible repeat' first
      | assumption | intro _ | apply hP.put | apply State.putReg_stable hP | dsimp only

theorem aluPair_stable (hP : StableIn P free) {x0 x1 x2 x3 x4 x5} (h5 : P x5) : P (aluPair x0 x1 x2 x3 x4 x5) := by
  unfold aluPair
  try dsimp only
  with_reducible repeat' first
      | assumption | intro _ | apply hP.put | apply issue_stable hP | apply illegal_stable hP
      | apply State.putPair_stable hP | apply adv_stable hP | apply putFlags_stable hP | apply ite_stable (P := P)
      | dsimp only

theorem execIllegal_stable (hP : StableIn P free) {x0 x1 x2} (h2 : P x2) : OutS P (execIllegal x0 x1 x2) := by
  unfold execIllegal
  try dsimp only
  with_reducible repeat' first
      | assumption | intro _ | apply issue_stable hP | apply illegal_stable hP | apply OutS.next (P := P) | dsimp only

theorem execAdd_stable (hP : StableIn P free) {x0 x1 x2 x3 x4 x5} (h5 : P x5) : OutS P (execAdd x0 x1 x2 x3 x4 x5) := by
  unfold execAdd
  try dsimp only
  with_reducible repeat' first
      | assumption | intro _ | apply alu_stable hP | apply OutS.next (P := P) | dsimp only

theorem execAdc_stable (hP : StableIn P free) {x0 x1 x2 x3 x4 x5} (h5 : P x5) : OutS P (execAdc x0 x1 x2 x3 x4 x5) := by
  unfold execAdc
  try dsimp only
  with_reducible repeat' first
      | assumption | intro _ | apply alu_stable hP | apply OutS.next (P := P) | dsimp only

theorem execSub_stable (hP : StableIn P free) {x0 x1 x2 x3 x4 x5} (h5 : P x5) : OutS P (execSub x0 x1 x2 x3 x4 x5) := by
  unfold execSub
  try dsimp only
  with_reducible repeat' first
      | assumption | intro _ | apply alu_stable hP | apply OutS.next (P := P) | dsimp only

theorem execSbc_stable (hP : StableIn P free) {x0 x1 x2 x3 x4 x5} (h5 : P x5) : OutS P (execSbc x0 x1 x2 x3 x4 x5) := by
  unfold execSbc
  try dsimp only
  with_reducible repeat' first
      | assumption | intro _ | apply alu_stable hP | apply OutS.next (P := P) | dsimp only

theorem execAnd_stable (hP : StableIn P free) {x0 x1 x2 x3 x4 x5} (h5 : P x5) : OutS P (execAnd x0 x1 x2 x3 x4 x5) := by
  unfold execAnd
  try dsimp only
  with_reducible repeat' first
      | assumption | intro _ | apply alu_stable hP | apply OutS.next (P := P) | dsimp only

theorem execOr_stable (hP : StableIn P free) {x0 x1 x2 x3 x4 x5} (h5 : P x5) : OutS P (execOr x0 x1 x2 x3 x4 x5) := by
  unfold execOr
  try dsimp only
  with_reducible repeat' first
      | assumption | intro _ | apply alu_stable hP | apply OutS.next (P := P) | split | dsimp only

theorem execXor_stable (hP : StableIn P free) {x0 x1 x2 x3 x4 x5} (h5 : P x5) : OutS P (execXor x0 x1 x2 x3 x4 x5) := by
  unfold execXor
  try dsimp only
  with_reducible repeat' first
      | assumption | intro _ | apply alu_stable hP | apply OutS.next (P := P) | dsimp only

theorem execAndn_stable (hP : StableIn P free) {x0 x1 x2 x3 x4 x5} (h5 : P x5) : OutS P (execAndn x0 x1 x2 x3 x4 x5) := by
  unfold execAndn
  try dsimp only
  with_reducible repeat' first
      | assumption | intro _ | apply alu_stable hP | apply OutS.next (P := P) | dsimp only

theorem execShl_stable (hP : StableIn P free) {x0 x1 x2 x3 x4 x5} (h5 : P x5) : OutS P (execShl x0 x1 x2 x3 x4 x5) := by
  unfold execShl
  try dsimp only
  with_reducible repeat' first
      | assumption | intro _ | apply alu_stable hP | apply OutS.next (P := P) | dsimp only

theorem execShr_stable (hP : StableIn P free) {x0 x1 x2 x3 x4 x5} (h5 : P x5) : OutS P (execShr x0 x1 x2 x3 x4 x5) := by
  unfold execShr
  try dsimp only
  with_reducible repeat' first
      | assumption | intro _ | apply alu_stable hP | apply OutS.next (P := P) | dsimp only

theorem execSar_stable (hP : StableIn P free) {x0 x1 x2 x3 x4 x5} (h5 : P x5) : OutS P (execSar x0 x1 x2 x3 x4 x5) := by
  unfold execSar
  try dsimp only
  with_reducible repeat' first
      | assumption | intro _ | apply alu_stable hP | apply OutS.next (P := P) | dsimp only

theorem execRol_stable (hP : StableIn P free) {x0 x1 x2 x3 x4 x5} (h5 : P x5) : OutS P (execRol x0 x1 x2 x3 x4 x5) := by
  unfold execRol
  try dsimp only
  with_reducible repeat' first
      | assumption | intro _ | apply alu_stable hP | apply OutS.next (P := P) | dsimp only

theorem execShlk_stable (hP : StableIn P free) {x0 x1 x2 x3 x4 x5} (h5 : P x5) : OutS P (execShlk x0 x1 x2 x3 x4 x5) := by
  unfold execShlk
  try dsimp only
  with_reducible repeat' first
      | assumption | intro _ | apply alu_stable hP | apply OutS.next (P := P) | dsimp only

theorem execShrk_stable (hP : StableIn P free) {x0 x1 x2 x3 x4 x5} (h5 : P x5) : OutS P (execShrk x0 x1 x2 x3 x4 x5) := by
  unfold execShrk
  try dsimp only
  with_reducible repeat' first
      | assumption | intro _ | apply alu_stable hP | apply OutS.next (P := P) | dsimp only

theorem execSark_stable (hP : StableIn P free) {x0 x1 x2 x3 x4 x5} (h5 : P x5) : OutS P (execSark x0 x1 x2 x3 x4 x5) := by
  unfold execSark
  try dsimp only
  with_reducible repeat' first
      | assumption | intro _ | apply alu_stable hP | apply OutS.next (P := P) | dsimp only

theorem execRolk_stable (hP : StableIn P free) {x0 x1 x2 x3 x4 x5} (h5 : P x5) : OutS P (execRolk x0 x1 x2 x3 x4 x5) := by
  unfold execRolk
  try dsimp only
  with_reducible repeat' first
      | assumption | intro _ | apply alu_stable hP | apply OutS.next (P := P) | dsimp only

theorem execCmp_stable (hP : StableIn P free) {x0 x1 x2 x3} (h3 : P x3) : OutS P (execCmp x0 x1 x2 x3) := by
  unfold execCmp
  try dsimp only
  with_reducible repeat' first
      | assumption | intro _ | apply compare_stable hP | apply OutS.next (P := P) | dsimp only

theorem execTst_stable (hP : StableIn P free) {x0 x1 x2 x3} (h3 : P x3) : OutS P (execTst x0 x1 x2 x3) := by
  unfold execTst
  try dsimp only
  with_reducible repeat' first
      | assumption | intro _ | apply compare_stable hP | apply OutS.next (P := P) | dsimp only

theorem execMin_stable (hP : StableIn P free) {x0 x1 x2 x3 x4 x5} (h5 : P x5) : OutS P (execMin x0 x1 x2 x3 x4 x5) := by
  unfold execMin
  try dsimp only
  with_reducible repeat' first
      | assumption | intro _ | apply alu_stable hP | apply OutS.next (P := P) | apply ite_stable (P := P)
      | apply OutS.ite (P := P) | dsimp only

theorem execMax_stable (hP : StableIn P free) {x0 x1 x2 x3 x4 x5} (h5 : P x5) : OutS P (execMax x0 x1 x2 x3 x4 x5) := by
  unfold execMax
  try dsimp only
  with_reducible repeat' first
      | assumption | intro _ | apply alu_stable hP | apply OutS.next (P := P) | apply ite_stable (P := P)
      | apply OutS.ite (P := P) | dsimp only

theorem execMinu_stable (hP : StableIn P free) {x0 x1 x2 x3 x4 x5} (h5 : P x5) : OutS P (execMinu x0 x1 x2 x3 x4 x5) := by
  unfold execMinu
  try dsimp only
  with_reducible repeat' first
      | assumption | intro _ | apply alu_stable hP | apply OutS.next (P := P) | dsimp only

theorem execMaxu_stable (hP : StableIn P free) {x0 x1 x2 x3 x4 x5} (h5 : P x5) : OutS P (execMaxu x0 x1 x2 x3 x4 x5) := by
  unfold execMaxu
  try dsimp only
  with_reducible repeat' first
      | assumption | intro _ | apply alu_stable hP | apply OutS.next (P := P) | dsimp only

theorem execMov_stable (hP : StableIn P free) {x0 x1 x2 x3 x4} (h4 : P x4) : OutS P (execMov x0 x1 x2 x3 x4) := by
  unfold execMov
  try dsimp only
  with_reducible repeat' first
      | assumption | intro _ | apply alu_stable hP | apply OutS.next (P := P) | dsimp only

theorem execNot_stable (hP : StableIn P free) {x0 x1 x2 x3 x4} (h4 : P x4) : OutS P (execNot x0 x1 x2 x3 x4) := by
  unfold execNot
  try dsimp only
  with_reducible repeat' first
      | assumption | intro _ | apply alu_stable hP | apply OutS.next (P := P) | dsimp only

theorem execNeg_stable (hP : StableIn P free) {x0 x1 x2 x3 x4} (h4 : P x4) : OutS P (execNeg x0 x1 x2 x3 x4) := by
  unfold execNeg
  try dsimp only
  with_reducible repeat' first
      | assumption | intro _ | apply alu_stable hP | apply OutS.next (P := P) | dsimp only

theorem execAbs_stable (hP : StableIn P free) {x0 x1 x2 x3 x4} (h4 : P x4) : OutS P (execAbs x0 x1 x2 x3 x4) := by
  unfold execAbs
  try dsimp only
  with_reducible repeat' first
      | assumption | intro _ | apply alu_stable hP | apply OutS.next (P := P) | dsimp only

theorem execClz_stable (hP : StableIn P free) {x0 x1 x2 x3 x4} (h4 : P x4) : OutS P (execClz x0 x1 x2 x3 x4) := by
  unfold execClz
  try dsimp only
  with_reducible repeat' first
      | assumption | intro _ | apply alu_stable hP | apply OutS.next (P := P) | dsimp only

theorem execPopc_stable (hP : StableIn P free) {x0 x1 x2 x3 x4} (h4 : P x4) : OutS P (execPopc x0 x1 x2 x3 x4) := by
  unfold execPopc
  try dsimp only
  with_reducible repeat' first
      | assumption | intro _ | apply alu_stable hP | apply OutS.next (P := P) | dsimp only

theorem execSel_stable (hP : StableIn P free) {x0 x1 x2 x3 x4 x5} (h5 : P x5) : OutS P (execSel x0 x1 x2 x3 x4 x5) := by
  unfold execSel
  try dsimp only
  with_reducible repeat' first
      | assumption | intro _ | apply issue_stable hP | apply illegal_stable hP | apply result_stable hP
      | apply OutS.next (P := P) | apply ite_stable (P := P) | apply OutS.ite (P := P) | dsimp only

theorem execExh_stable (hP : StableIn P free) {x0 x1 x2 x3 x4 x5} (h5 : P x5) : OutS P (execExh x0 x1 x2 x3 x4 x5) := by
  unfold execExh
  try dsimp only
  with_reducible repeat' first
      | assumption | intro _ | apply alu_stable hP | apply OutS.next (P := P) | dsimp only

theorem execInsh_stable (hP : StableIn P free) {x0 x1 x2 x3 x4 x5} (h5 : P x5) : OutS P (execInsh x0 x1 x2 x3 x4 x5) := by
  unfold execInsh
  try dsimp only
  with_reducible repeat' first
      | assumption | intro _ | apply alu_stable hP | apply OutS.next (P := P) | dsimp only

theorem execSwaph_stable (hP : StableIn P free) {x0 x1 x2 x3 x4} (h4 : P x4) : OutS P (execSwaph x0 x1 x2 x3 x4) := by
  unfold execSwaph
  try dsimp only
  with_reducible repeat' first
      | assumption | intro _ | apply alu_stable hP | apply OutS.next (P := P) | dsimp only

theorem execAddh_stable (hP : StableIn P free) {x0 x1 x2 x3 x4} (h4 : P x4) : OutS P (execAddh x0 x1 x2 x3 x4) := by
  unfold execAddh
  try dsimp only
  with_reducible repeat' first
      | assumption | intro _ | apply alu_stable hP | apply OutS.next (P := P) | dsimp only

theorem execExb_stable (hP : StableIn P free) {x0 x1 x2 x3 x4 x5} (h5 : P x5) : OutS P (execExb x0 x1 x2 x3 x4 x5) := by
  unfold execExb
  try dsimp only
  with_reducible repeat' first
      | assumption | intro _ | apply alu_stable hP | apply OutS.next (P := P) | dsimp only

theorem execInb_stable (hP : StableIn P free) {x0 x1 x2 x3 x4 x5} (h5 : P x5) : OutS P (execInb x0 x1 x2 x3 x4 x5) := by
  unfold execInb
  try dsimp only
  with_reducible repeat' first
      | assumption | intro _ | apply alu_stable hP | apply OutS.next (P := P) | dsimp only

theorem execBswap_stable (hP : StableIn P free) {x0 x1 x2 x3 x4} (h4 : P x4) : OutS P (execBswap x0 x1 x2 x3 x4) := by
  unfold execBswap
  try dsimp only
  with_reducible repeat' first
      | assumption | intro _ | apply alu_stable hP | apply OutS.next (P := P) | dsimp only

theorem execAddf_stable (hP : StableIn P free) {x0 x1 x2 x3 x4 x5} (h5 : P x5) : OutS P (execAddf x0 x1 x2 x3 x4 x5) := by
  unfold execAddf
  try dsimp only
  with_reducible repeat' first
      | assumption | intro _ | apply alu_stable hP | apply OutS.next (P := P) | dsimp only

theorem execSubf_stable (hP : StableIn P free) {x0 x1 x2 x3 x4 x5} (h5 : P x5) : OutS P (execSubf x0 x1 x2 x3 x4 x5) := by
  unfold execSubf
  try dsimp only
  with_reducible repeat' first
      | assumption | intro _ | apply alu_stable hP | apply OutS.next (P := P) | dsimp only

theorem execNegf_stable (hP : StableIn P free) {x0 x1 x2 x3 x4} (h4 : P x4) : OutS P (execNegf x0 x1 x2 x3 x4) := by
  unfold execNegf
  try dsimp only
  with_reducible repeat' first
      | assumption | intro _ | apply alu_stable hP | apply OutS.next (P := P) | dsimp only

theorem execAbsf_stable (hP : StableIn P free) {x0 x1 x2 x3 x4} (h4 : P x4) : OutS P (execAbsf x0 x1 x2 x3 x4) := by
  unfold execAbsf
  try dsimp only
  with_reducible repeat' first
      | assumption | intro _ | apply alu_stable hP | apply OutS.next (P := P) | dsimp only

theorem execShlf_stable (hP : StableIn P free) {x0 x1 x2 x3 x4 x5} (h5 : P x5) : OutS P (execShlf x0 x1 x2 x3 x4 x5) := by
  unfold execShlf
  try dsimp only
  with_reducible repeat' first
      | assumption | intro _ | apply alu_stable hP | apply OutS.next (P := P) | dsimp only

theorem execAddd_stable (hP : StableIn P free) {x0 x1 x2 x3 x4 x5} (h5 : P x5) : OutS P (execAddd x0 x1 x2 x3 x4 x5) := by
  unfold execAddd
  try dsimp only
  with_reducible repeat' first
      | assumption | intro _ | apply aluPair_stable hP | apply OutS.next (P := P) | dsimp only

theorem execSubd_stable (hP : StableIn P free) {x0 x1 x2 x3 x4 x5} (h5 : P x5) : OutS P (execSubd x0 x1 x2 x3 x4 x5) := by
  unfold execSubd
  try dsimp only
  with_reducible repeat' first
      | assumption | intro _ | apply aluPair_stable hP | apply OutS.next (P := P) | dsimp only

theorem execMovd_stable (hP : StableIn P free) {x0 x1 x2 x3 x4} (h4 : P x4) : OutS P (execMovd x0 x1 x2 x3 x4) := by
  unfold execMovd
  try dsimp only
  with_reducible repeat' first
      | assumption | intro _ | apply aluPair_stable hP | apply OutS.next (P := P) | dsimp only

theorem execCmpd_stable (hP : StableIn P free) {x0 x1 x2 x3} (h3 : P x3) : OutS P (execCmpd x0 x1 x2 x3) := by
  unfold execCmpd
  try dsimp only
  with_reducible repeat' first
      | assumption | intro _ | apply hP.put | apply issue_stable hP | apply illegal_stable hP | apply adv_stable hP
      | apply putFlags_stable hP | apply OutS.next (P := P) | apply ite_stable (P := P) | apply OutS.ite (P := P)
      | dsimp only

theorem execMfs_stable (hP : StableIn P free) {x0 x1 x2} (h2 : P x2) : OutS P (execMfs x0 x1 x2) := by
  unfold execMfs
  try dsimp only
  with_reducible repeat' first
      | assumption | intro _ | apply alu_stable hP | apply holdOn_stable hP | apply OutS.next (P := P)
      | exact OutS.fault | apply OutS.ite (P := P) | apply ite_stable (P := P) | apply ite_st (P := P)
      | apply ite_sec (P := P) | apply ite_snd (P := P) | apply ite_snd2 (P := P) | apply ite_fst (P := P)
      | apply id_stable (P := P) | dsimp only

theorem execMts_stable (hP : StableIn P free) {x0 x1 x2} (h2 : P x2) : OutS P (execMts x0 x1 x2) := by
  unfold execMts
  try dsimp only
  with_reducible repeat' first
      | assumption | intro _ | apply compare_stable hP | apply OutS.next (P := P) | dsimp only

theorem bankRead_stable (hP : StableIn P free) {x0 x1 x2} (h2 : P x2) : P (bankRead x0 x1 x2).st := by
  unfold bankRead
  try dsimp only
  with_reducible repeat' first
      | assumption | intro _ | apply bankFetch_stable hP | apply ite_stable (P := P) | apply ite_st (P := P)
      | apply ite_sec (P := P) | split | refine snd_stable (by assumption) ?_ | refine fst_stable (by assumption) ?_
      | refine some_stable (by assumption) ?_ | refine some_stable2 (by assumption) ?_
      | refine snd2_stable (by assumption) ?_ | dsimp only

theorem State.store_stable (hP : StableIn P free) {x0 x1 x2} (h0 : P x0) : P (State.store x0 x1 x2) := by
  unfold State.store
  try dsimp only
  with_reducible repeat' first
      | assumption | intro _ | apply hP.wr | apply State.unmark_stable hP | dsimp only

theorem bankWrite_stable (hP : StableIn P free) {x0 x1 x2 x3} (h3 : P x3) : P (bankWrite x0 x1 x2 x3).st := by
  unfold bankWrite
  try dsimp only
  with_reducible repeat' first
      | assumption | intro _ | apply State.store_stable hP | apply ite_stable (P := P) | apply ite_st (P := P)
      | apply ite_sec (P := P) | split | refine snd_stable (by assumption) ?_ | refine fst_stable (by assumption) ?_
      | refine some_stable (by assumption) ?_ | refine some_stable2 (by assumption) ?_
      | refine snd2_stable (by assumption) ?_ | dsimp only

theorem SecOut.st_stable (hP : StableIn P free) {x0} (h0 : P x0.st) : P (SecOut.st x0) := by
  unfold SecOut.st
  try dsimp only
  with_reducible repeat' first
      | assumption | intro _ | dsimp only

theorem bankWrites_stable (hP : StableIn P free) {x0 x1 x2 x3} (h3 : P x3) : P (bankWrites x0 x1 x2 x3).st := by
  fun_induction bankWrites x0 x1 x2 x3 <;> (with_reducible repeat' first
      | assumption | intro _ | apply bankWrite_stable hP | apply ite_stable (P := P) | apply ite_st (P := P)
      | apply ite_sec (P := P) | split | refine snd_stable (by assumption) ?_ | refine fst_stable (by assumption) ?_
      | refine some_stable (by assumption) ?_ | refine some_stable2 (by assumption) ?_
      | refine snd2_stable (by assumption) ?_ | refine ‹P _ → P _› ?_ | refine ‹P _ → OptS P _› ?_
      | refine ‹∀ t, P t → OptS P _› _ ?_ | dsimp +zetaDelta only | dsimp only)

theorem bankReads_stable (hP : StableIn P free) {x0 x1 x2 x3} (h3 : P x3) : P (bankReads x0 x1 x2 x3).2 := by
  fun_induction bankReads x0 x1 x2 x3 <;> (with_reducible repeat' first
      | assumption | intro _ | apply bankRead_stable hP | apply ite_stable (P := P) | apply ite_snd (P := P) | split
      | refine snd_stable (by assumption) ?_ | refine fst_stable (by assumption) ?_
      | refine some_stable (by assumption) ?_ | refine some_stable2 (by assumption) ?_
      | refine snd2_stable (by assumption) ?_ | refine ‹P _ → P _› ?_ | refine ‹P _ → OptS P _› ?_
      | refine ‹∀ t, P t → OptS P _› _ ?_ | dsimp +zetaDelta only | dsimp only)

theorem State.putIf_stable (hP : StableIn P free) {x0 x1 x2 x3} (h0 : P x0) : P (State.putIf x0 x1 x2 x3) := by
  unfold State.putIf
  try dsimp only
  with_reducible repeat' first
      | assumption | intro _ | apply hP.put | apply ite_stable (P := P) | dsimp only

theorem bankOwn_stable (hP : StableIn P free) {x0 x1 x2} (h2 : P x2) : P (bankOwn x0 x1 x2) := by
  unfold bankOwn
  try dsimp only
  with_reducible repeat' first
      | assumption | intro _ | apply hP.put | apply State.putIf_stable hP | dsimp only

theorem bankOwnIf_stable (hP : StableIn P free) {x0 x1 x2} (h2 : P x2) : P (bankOwnIf x0 x1 x2) := by
  unfold bankOwnIf
  try dsimp only
  with_reducible repeat' first
      | assumption | intro _ | apply bankOwn_stable hP | apply ite_stable (P := P) | dsimp only

theorem State.answer_stable (hP : StableIn P free) {x0 x1 x2 x3 x4} (h0 : P x0) : P (State.answer x0 x1 x2 x3 x4) := by
  unfold State.answer
  try dsimp only
  with_reducible repeat' first
      | assumption | intro _ | apply State.setBus_stable hP | dsimp only

theorem bankOwnerWrite_stable (hP : StableIn P free) {x0 x1 x2 x3} (h3 : P x3) : P (bankOwnerWrite x0 x1 x2 x3) := by
  unfold bankOwnerWrite
  try dsimp only
  with_reducible repeat' first
      | assumption | intro _ | apply hP.put | apply State.answer_stable hP | apply bankOwnIf_stable hP
      | apply State.putIf_stable hP | apply ite_stable (P := P) | dsimp only

theorem onIsland_stable (hP : StableIn P free) {x0 x1 x2 x3} (hk2 : ∀ y0, P y0 → P (x2 y0)) (h3 : P x3) : P (onIsland x0 x1 x2 x3) := by
  unfold onIsland
  try dsimp only
  with_reducible repeat' first
      | assumption | intro _ | apply hk2 | apply State.answer_stable hP | apply islandRestart_stable hP
      | apply ite_stable (P := P) | dsimp only

theorem ddrWrite_stable (hP : StableIn P free) {x0 x1 x2 x3} (h3 : P x3) : P (ddrWrite x0 x1 x2 x3).st := by
  unfold ddrWrite
  by_cases h : x3.ddrMapped x1 = true
  · have k : ddrBase ≤ x1 := by simp only [State.ddrMapped, Bool.and_eq_true, decide_eq_true_eq] at h; exact h.1
    rw [if_neg (by simp [h])]
    exact ite_st h3 (hP.granule k h3)
  · rw [if_pos (by simp [h])]; exact h3

theorem State.claim_stable (hP : StableIn P free) {x0 x1 x2 x3} (h0 : P x0) : P (State.claim x0 x1 x2 x3) := by
  unfold State.claim
  try dsimp only
  with_reducible repeat' first
      | assumption | intro _ | apply hP.put | dsimp only

theorem claimWrite_stable (hP : StableIn P free) {x0 x1 x2 x3} (h3 : P x3) : P (claimWrite x0 x1 x2 x3) := by
  unfold claimWrite
  try dsimp only
  with_reducible repeat' first
      | assumption | intro _ | apply State.answer_stable hP | apply State.claim_stable hP | apply ite_stable (P := P)
      | split | dsimp only

theorem State.writeField_stable (hP : StableIn P free) {x0 x1 x2 x3 x4} (h0 : P x0) : P (State.writeField x0 x1 x2 x3 x4) := by
  unfold State.writeField
  try dsimp only
  with_reducible repeat' first
      | assumption | intro _ | apply hP.put | apply hP.wr | apply ite_stable (P := P) | split
      | refine snd_stable (by assumption) ?_ | refine fst_stable (by assumption) ?_
      | refine some_stable (by assumption) ?_ | refine some_stable2 (by assumption) ?_
      | refine snd2_stable (by assumption) ?_ | dsimp only

theorem State.writeFields_stable (hP : StableIn P free) {x0 x1 x2 x3 x4} (h0 : P x0) : P (State.writeFields x0 x1 x2 x3 x4) := by
  unfold State.writeFields
  try dsimp only
  with_reducible repeat' first
      | assumption | intro _ | apply hP.wr | apply State.writeField_stable hP | apply foldl_stable (P := P) | dsimp only

theorem State.writeReg_stable (hP : StableIn P free) {x0 x1 x2 x3 x4} (h0 : P x0) : P (State.writeReg x0 x1 x2 x3 x4) := by
  unfold State.writeReg
  try dsimp only
  with_reducible repeat' first
      | assumption | intro _ | apply hP.put | apply hP.wr | apply State.writeFields_stable hP
      | apply ite_stable (P := P) | split | refine snd_stable (by assumption) ?_ | refine fst_stable (by assumption) ?_
      | refine some_stable (by assumption) ?_ | refine some_stable2 (by assumption) ?_
      | refine snd2_stable (by assumption) ?_ | dsimp only

theorem plainWrite_stable (hP : StableIn P free) {x0 x1 x2 x3} (h3 : P x3) : P (plainWrite x0 x1 x2 x3) := by
  unfold plainWrite
  try dsimp only
  with_reducible repeat' first
      | assumption | intro _ | apply hP.wr | apply State.answer_stable hP | apply State.writeReg_stable hP
      | apply ite_stable (P := P) | dsimp only

theorem State.putFeature_stable (hP : StableIn P free) {x0 x1 x2 x3 x4} (h0 : P x0) : P (State.putFeature x0 x1 x2 x3 x4) := by
  unfold State.putFeature
  try dsimp only
  with_reducible repeat' first
      | assumption | intro _ | apply hP.put | dsimp only

theorem State.claimAll_stable (hP : StableIn P free) {x0 x1 x2 x3} (h0 : P x0) : P (State.claimAll x0 x1 x2 x3) := by
  unfold State.claimAll
  try dsimp only
  with_reducible repeat' first
      | assumption | intro _ | apply State.claim_stable hP | apply foldl_stable (P := P) | dsimp only

theorem State.enableFeature_stable (hP : StableIn P free) {x0 x1 x2 x3} (h0 : P x0) : P (State.enableFeature x0 x1 x2 x3) := by
  unfold State.enableFeature
  try dsimp only
  with_reducible repeat' first
      | assumption | intro _ | apply hP.put | apply State.putFeature_stable hP | apply State.claimAll_stable hP | split
      | refine snd_stable (by assumption) ?_ | refine fst_stable (by assumption) ?_
      | refine some_stable (by assumption) ?_ | refine some_stable2 (by assumption) ?_
      | refine snd2_stable (by assumption) ?_ | dsimp only

theorem State.unclaim_stable (hP : StableIn P free) {x0 x1 x2} (h0 : P x0) : P (State.unclaim x0 x1 x2) := by
  unfold State.unclaim
  try dsimp only
  with_reducible repeat' first
      | assumption | intro _ | apply hP.put | apply ite_stable (P := P) | dsimp only

theorem State.disableFeature_stable (hP : StableIn P free) {x0 x1 x2} (h0 : P x0) : P (State.disableFeature x0 x1 x2) := by
  unfold State.disableFeature
  try dsimp only
  with_reducible repeat' first
      | assumption | intro _ | apply hP.put | apply State.putFeature_stable hP | apply State.unclaim_stable hP
      | apply foldl_stable (P := P) | dsimp only

theorem State.raiseAt_stable (hP : StableIn P free) {x0 x1 x2} (h0 : P x0) : P (State.raiseAt x0 x1 x2) := by
  unfold State.raiseAt
  try dsimp only
  with_reducible repeat' first
      | assumption | intro _ | apply State.setEvents_stable hP | apply ite_stable (P := P) | apply ite_st (P := P)
      | apply ite_sec (P := P) | apply ite_snd (P := P) | apply ite_snd2 (P := P) | apply ite_fst (P := P)
      | apply id_stable (P := P) | dsimp only

theorem State.putTrig_stable (hP : StableIn P free) {x0 x1 x2} (h0 : P x0) : P (State.putTrig x0 x1 x2) := by
  unfold State.putTrig
  try dsimp only
  with_reducible repeat' first
      | assumption | intro _ | apply State.setTrigAt_stable hP | apply ite_stable (P := P) | apply ite_st (P := P)
      | apply ite_sec (P := P) | apply ite_snd (P := P) | apply ite_snd2 (P := P) | apply ite_fst (P := P)
      | apply id_stable (P := P) | dsimp only

theorem State.putTcCmp_stable (hP : StableIn P free) {x0 x1 x2} (h0 : P x0) : P (State.putTcCmp x0 x1 x2) := by
  unfold State.putTcCmp
  try dsimp only
  with_reducible repeat' first
      | assumption | intro _ | apply hP.put | dsimp only

theorem tcFireLate_stable (hP : StableIn P free) {x0 x1} (h1 : P x1) : P (tcFireLate x0 x1) := by
  unfold tcFireLate
  try dsimp only
  with_reducible repeat' first
      | assumption | intro _ | apply hP.put | apply State.raiseAt_stable hP | apply State.putTrig_stable hP
      | apply State.putTcCmp_stable hP | apply ite_stable (P := P) | apply ite_st (P := P) | apply ite_sec (P := P)
      | apply ite_snd (P := P) | apply ite_snd2 (P := P) | apply ite_fst (P := P) | apply id_stable (P := P)
      | dsimp only

theorem tcCheckPast_stable (hP : StableIn P free) {x0 x1} (h1 : P x1) : P (tcCheckPast x0 x1) := by
  unfold tcCheckPast
  try dsimp only
  with_reducible repeat' first
      | assumption | intro _ | apply tcFireLate_stable hP | apply ite_stable (P := P) | dsimp only

theorem tcCtrlFields_stable (hP : StableIn P free) {x0 x1 x2} (h2 : P x2) : P (tcCtrlFields x0 x1 x2) := by
  unfold tcCtrlFields
  try dsimp only
  with_reducible repeat' first
      | assumption | intro _ | apply hP.put | apply State.putIf_stable hP | apply tcCheckPast_stable hP
      | apply ite_stable (P := P) | dsimp only

theorem tcCtrlWrite_stable (hP : StableIn P free) {x0 x1 x2 x3} (h3 : P x3) : P (tcCtrlWrite x0 x1 x2 x3) := by
  unfold tcCtrlWrite
  try dsimp only
  with_reducible repeat' first
      | assumption | intro _ | apply hP.put | apply State.putFeature_stable hP | apply State.enableFeature_stable hP
      | apply State.disableFeature_stable hP | apply State.answer_stable hP | apply tcCtrlFields_stable hP
      | apply ite_stable (P := P) | apply ite_st (P := P) | apply ite_sec (P := P) | apply ite_snd (P := P)
      | apply ite_snd2 (P := P) | apply ite_fst (P := P) | apply id_stable (P := P) | dsimp only

theorem tcCmpWrite_stable (hP : StableIn P free) {x0 x1 x2 x3 x4 x5} (h5 : P x5) : P (tcCmpWrite x0 x1 x2 x3 x4 x5) := by
  unfold tcCmpWrite
  try dsimp only
  with_reducible repeat' first
      | assumption | intro _ | apply hP.put | apply State.answer_stable hP | apply tcCheckPast_stable hP
      | apply ite_stable (P := P) | split | refine snd_stable (by assumption) ?_ | refine fst_stable (by assumption) ?_
      | refine some_stable (by assumption) ?_ | refine some_stable2 (by assumption) ?_
      | refine snd2_stable (by assumption) ?_ | dsimp only

theorem tcWrite_stable (hP : StableIn P free) {x0 x1 x2 x3} (h3 : P x3) : P (tcWrite x0 x1 x2 x3) := by
  unfold tcWrite
  try dsimp only
  with_reducible repeat' first
      | assumption | intro _ | apply plainWrite_stable hP | apply tcCtrlWrite_stable hP | apply tcCmpWrite_stable hP
      | apply ite_stable (P := P) | dsimp only

theorem tempWrite_stable (hP : StableIn P free) {x0 x1 x2} (h2 : P x2) : P (tempWrite x0 x1 x2) := by
  unfold tempWrite
  try dsimp only
  with_reducible repeat' first
      | assumption | intro _ | apply hP.put | apply State.setGaf_stable hP | dsimp only

theorem swShow_stable (hP : StableIn P free) {x0} (h0 : P x0) : P (swShow x0) := by
  unfold swShow
  try dsimp only
  with_reducible repeat' first
      | assumption | intro _ | apply hP.put | apply foldl_stable (P := P) | apply foldl_stable2 (P := P)
      | apply foldl_stable1 (P := P) | dsimp only

theorem ledgerShow_stable (hP : StableIn P free) {x0} (h0 : P x0) : P (ledgerShow x0) := by
  unfold ledgerShow
  try dsimp only
  with_reducible repeat' first
      | assumption | intro _ | apply hP.put | dsimp only

theorem allowShow_stable (hP : StableIn P free) {x0} (h0 : P x0) : P (allowShow x0) := by
  unfold allowShow
  try dsimp only
  with_reducible repeat' first
      | assumption | intro _ | apply hP.put | apply foldl_stable (P := P) | dsimp only

theorem gafShow_stable (hP : StableIn P free) {x0} (h0 : P x0) : P (gafShow x0) := by
  unfold gafShow
  try dsimp only
  with_reducible repeat' first
      | assumption | intro _ | apply swShow_stable hP | apply ledgerShow_stable hP | apply allowShow_stable hP
      | dsimp only

theorem State.queueStat_stable (hP : StableIn P free) {x0} (h0 : P x0) : P (State.queueStat x0) := by
  unfold State.queueStat
  try dsimp only
  with_reducible repeat' first
      | assumption | intro _ | apply hP.put | apply foldl_stable (P := P) | dsimp only

theorem State.request_stable (hP : StableIn P free) {x0 x1} (h0 : P x0) : P (State.request x0 x1) := by
  unfold State.request
  try dsimp only
  with_reducible repeat' first
      | assumption | intro _ | apply State.queueStat_stable hP | apply State.setGafQueue_stable hP
      | apply ite_stable (P := P) | dsimp only

theorem restoreClocks_stable (hP : StableIn P free) {x0} (h0 : P x0) : P (restoreClocks x0) := by
  unfold restoreClocks
  try dsimp only
  with_reducible repeat' first
      | assumption | intro _ | apply hP.put | apply State.setGaf_stable hP | apply State.putB_stable hP
      | apply State.request_stable hP | apply ite_stable (P := P) | apply ite_st (P := P) | apply ite_sec (P := P)
      | apply ite_snd (P := P) | apply ite_snd2 (P := P) | apply ite_fst (P := P) | apply OptS.some (P := P)
      | exact OptS.none | apply OptS2.some (P := P) | exact OptS2.none | apply OptS.bind (P := P)
      | apply OptS.bind2 (P := P) | apply OptS.map (P := P) | apply OptS.map0 (P := P) | apply OptS2.map (P := P)
      | apply OptS.getD (P := P) | apply OptS.ite (P := P) | apply OptS2.ite (P := P) | apply id_stable (P := P)
      | apply foldl_stable (P := P) | apply foldl_stable2 (P := P) | apply foldl_stable1 (P := P) | split
      | refine snd2_stable (by assumption) ?_ | refine snd_stable (by assumption) ?_
      | refine fst_stable (by assumption) ?_ | refine some_stable (by assumption) ?_
      | refine some_stable2 (by assumption) ?_ | dsimp only

theorem clockFollow_stable (hP : StableIn P free) {x0 x1} (h1 : P x1) : P (clockFollow x0 x1) := by
  unfold clockFollow
  try dsimp only
  with_reducible repeat' first
      | assumption | intro _ | apply State.setGaf_stable hP | apply State.request_stable hP
      | apply ite_stable (P := P) | apply ite_st (P := P) | apply ite_sec (P := P) | apply ite_snd (P := P)
      | apply ite_snd2 (P := P) | apply ite_fst (P := P) | apply id_stable (P := P) | dsimp only

theorem State.unrequest_stable (hP : StableIn P free) {x0 x1} (h0 : P x0) : P (State.unrequest x0 x1) := by
  unfold State.unrequest
  try dsimp only
  with_reducible repeat' first
      | assumption | intro _ | apply State.queueStat_stable hP | apply State.setGafQueue_stable hP | dsimp only

end Sys2Proof.Machine
end

