-- ==== Sys2Proof/Laws/Stable2.lean ====
section
/-! SUPPORT. Each operation keeps every property that the elementary writes keep (part 2 of 9). -/

set_option linter.all false
set_option maxRecDepth 4000
set_option linter.unreachableTactic false

namespace Sys2Proof.Machine

variable {P : State → Prop} {free : Bool}

theorem clkreqWrite_stable (hP : StableIn P free) {x0 x1 x2} (h2 : P x2) : P (clkreqWrite x0 x1 x2) := by
  unfold clkreqWrite
  try dsimp only
  with_reducible repeat' first
      | assumption | intro _ | apply hP.put | apply clockFollow_stable hP | apply State.unrequest_stable hP
      | apply ite_stable (P := P) | apply ite_st (P := P) | apply ite_sec (P := P) | apply ite_snd (P := P)
      | apply ite_snd2 (P := P) | apply ite_fst (P := P) | apply id_stable (P := P) | dsimp only

theorem wakeQueue_stable (hP : StableIn P free) {x0 x1 x2 x3} (h3 : P x3) : P (wakeQueue x0 x1 x2 x3) := by
  unfold wakeQueue
  try dsimp only
  with_reducible repeat' first
      | assumption | intro _ | apply State.setGafQueue_stable hP | apply State.request_stable hP
      | apply State.unrequest_stable hP | apply ite_stable (P := P) | apply ite_st (P := P) | apply ite_sec (P := P)
      | apply ite_snd (P := P) | apply ite_snd2 (P := P) | apply ite_fst (P := P) | apply OptS.some (P := P)
      | exact OptS.none | apply OptS2.some (P := P) | exact OptS2.none | apply OptS.bind (P := P)
      | apply OptS.bind2 (P := P) | apply OptS.map (P := P) | apply OptS.map0 (P := P) | apply OptS2.map (P := P)
      | apply OptS.getD (P := P) | apply OptS.ite (P := P) | apply OptS2.ite (P := P) | apply id_stable (P := P)
      | apply foldl_stable (P := P) | apply foldl_stable2 (P := P) | apply foldl_stable1 (P := P) | split
      | refine snd2_stable (by assumption) ?_ | refine snd_stable (by assumption) ?_
      | refine fst_stable (by assumption) ?_ | refine some_stable (by assumption) ?_
      | refine some_stable2 (by assumption) ?_ | dsimp only

theorem wakeRequest_stable (hP : StableIn P free) {x0 x1 x2 x3} (h3 : P x3) : P (wakeRequest x0 x1 x2 x3) := by
  unfold wakeRequest
  try dsimp only
  with_reducible repeat' first
      | assumption | intro _ | apply State.setGaf_stable hP | apply wakeQueue_stable hP
      | apply islandRestart_stable hP | apply ite_stable (P := P) | apply ite_st (P := P) | apply ite_sec (P := P)
      | apply ite_snd (P := P) | apply ite_snd2 (P := P) | apply ite_fst (P := P) | apply OptS.some (P := P)
      | exact OptS.none | apply OptS2.some (P := P) | exact OptS2.none | apply OptS.bind (P := P)
      | apply OptS.bind2 (P := P) | apply OptS.map (P := P) | apply OptS.map0 (P := P) | apply OptS2.map (P := P)
      | apply OptS.getD (P := P) | apply OptS.ite (P := P) | apply OptS2.ite (P := P) | apply id_stable (P := P)
      | apply foldl_stable (P := P) | apply foldl_stable2 (P := P) | apply foldl_stable1 (P := P) | split
      | refine snd2_stable (by assumption) ?_ | refine snd_stable (by assumption) ?_
      | refine fst_stable (by assumption) ?_ | refine some_stable (by assumption) ?_
      | refine some_stable2 (by assumption) ?_ | dsimp only

theorem islCtrlWrite_stable (hP : StableIn P free) {x0 x1 x2 x3} (h3 : P x3) : P (islCtrlWrite x0 x1 x2 x3) := by
  unfold islCtrlWrite
  try dsimp only
  with_reducible repeat' first
      | assumption | intro _ | apply hP.put | apply clkreqWrite_stable hP | apply wakeRequest_stable hP
      | apply State.answer_stable hP | apply ite_stable (P := P) | apply ite_st (P := P) | apply ite_sec (P := P)
      | apply ite_snd (P := P) | apply ite_snd2 (P := P) | apply ite_fst (P := P) | apply id_stable (P := P)
      | dsimp only

theorem twlApply_stable (hP : StableIn P free) {x0 x1 x2} (h1 : P x1) (h2 : P x2) : P (twlApply x0 x1 x2) := by
  unfold twlApply
  try dsimp only
  with_reducible repeat' first
      | assumption | intro _ | apply wakeRequest_stable hP | apply ite_stable (P := P) | apply ite_st (P := P)
      | apply ite_sec (P := P) | apply ite_snd (P := P) | apply ite_snd2 (P := P) | apply ite_fst (P := P)
      | apply id_stable (P := P) | dsimp only

theorem islTwlWrite_stable (hP : StableIn P free) {x0 x1 x2 x3} (h3 : P x3) : P (islTwlWrite x0 x1 x2 x3) := by
  unfold islTwlWrite
  try dsimp only
  with_reducible repeat' first
      | assumption | intro _ | apply hP.put | apply gafShow_stable hP | apply twlApply_stable hP
      | apply State.answer_stable hP | apply ite_stable (P := P) | apply ite_st (P := P) | apply ite_sec (P := P)
      | apply ite_snd (P := P) | apply ite_snd2 (P := P) | apply ite_fst (P := P) | apply id_stable (P := P)
      | dsimp only

theorem State.zoneRefresh_stable (hP : StableIn P free) {x0} (h0 : P x0) : P (State.zoneRefresh x0) := by
  unfold State.zoneRefresh
  try dsimp only
  with_reducible repeat' first
      | assumption | intro _ | apply hP.put | apply State.putB_stable hP | dsimp only

theorem gafWrite_stable (hP : StableIn P free) {x0 x1 x2 x3} (h3 : P x3) : P (gafWrite x0 x1 x2 x3) := by
  unfold gafWrite
  try dsimp only
  with_reducible repeat' first
      | assumption | intro _ | apply tempWrite_stable hP | apply gafShow_stable hP | apply restoreClocks_stable hP
      | apply islCtrlWrite_stable hP | apply islTwlWrite_stable hP | apply State.writeReg_stable hP
      | apply State.answer_stable hP | apply State.zoneRefresh_stable hP | apply ite_stable (P := P)
      | apply ite_st (P := P) | apply ite_sec (P := P) | apply ite_snd (P := P) | apply ite_snd2 (P := P)
      | apply ite_fst (P := P) | apply OptS.some (P := P) | exact OptS.none | apply OptS2.some (P := P)
      | exact OptS2.none | apply OptS.bind (P := P) | apply OptS.bind2 (P := P) | apply OptS.map (P := P)
      | apply OptS.map0 (P := P) | apply OptS2.map (P := P) | apply OptS.getD (P := P) | apply OptS.ite (P := P)
      | apply OptS2.ite (P := P) | apply id_stable (P := P) | apply foldl_stable (P := P)
      | apply foldl_stable2 (P := P) | apply foldl_stable1 (P := P) | split | refine snd2_stable (by assumption) ?_
      | refine snd_stable (by assumption) ?_ | refine fst_stable (by assumption) ?_
      | refine some_stable (by assumption) ?_ | refine some_stable2 (by assumption) ?_ | dsimp only

theorem coreResult_stable (hP : StableIn P free) {x0 x1 x2 x3 x4} (h4 : P x4) : P (coreResult x0 x1 x2 x3 x4) := by
  unfold coreResult
  try dsimp only
  with_reducible repeat' first
      | assumption | intro _ | apply hP.put | apply ite_stable (P := P) | dsimp only

theorem coreClear_stable (hP : StableIn P free) {x0 x1} (h1 : P x1) : P (coreClear x0 x1) := by
  unfold coreClear
  try dsimp only
  with_reducible repeat' first
      | assumption | intro _ | apply hP.put | apply State.putCore_stable hP | apply hP.fields | dsimp only

theorem coreStart_stable (hP : StableIn P free) {x0 x1 x2 x3 x4} (h4 : P x4) : P (coreStart x0 x1 x2 x3 x4) := by
  unfold coreStart
  try dsimp only
  with_reducible repeat' first
      | assumption | intro _ | apply hP.put | apply State.putCore_stable hP | apply State.putCoreState_stable hP
      | apply State.putReg_stable hP | apply coreClear_stable hP | apply ite_stable (P := P) | apply ite_st (P := P)
      | apply ite_sec (P := P) | apply ite_snd (P := P) | apply ite_snd2 (P := P) | apply ite_fst (P := P)
      | apply id_stable (P := P) | dsimp only

theorem State.raise_stable (hP : StableIn P free) {x0 x1} (h0 : P x0) : P (State.raise x0 x1) := by
  unfold State.raise
  try dsimp only
  with_reducible repeat' first
      | assumption | intro _ | apply State.setEvents_stable hP | apply ite_stable (P := P) | apply ite_st (P := P)
      | apply ite_sec (P := P) | apply ite_snd (P := P) | apply ite_snd2 (P := P) | apply ite_fst (P := P)
      | apply id_stable (P := P) | dsimp only

theorem zoneCut_stable (hP : StableIn P free) {x0} (h0 : P x0) : P (zoneCut x0) := by
  unfold zoneCut
  try dsimp only
  with_reducible repeat' first
      | assumption | intro _ | apply State.zoneRefresh_stable hP | apply State.setStarts_stable hP | dsimp only

theorem forceSafe_stable (hP : StableIn P free) {x0 x1} (h1 : P x1) : P (forceSafe x0 x1) := by
  unfold forceSafe
  try dsimp only
  with_reducible repeat' first
      | assumption | intro _ | apply hP.put | apply State.putPort_stable hP | apply ite_stable (P := P)
      | apply ite_st (P := P) | apply ite_sec (P := P) | apply ite_snd (P := P) | apply ite_snd2 (P := P)
      | apply ite_fst (P := P) | apply id_stable (P := P) | dsimp only

theorem cutLatchSet_stable (hP : StableIn P free) {x0 x1} (h1 : P x1) : P (cutLatchSet x0 x1) := by
  unfold cutLatchSet
  try dsimp only
  with_reducible repeat' first
      | assumption | intro _ | apply hP.put | apply State.raise_stable hP | apply State.setCut_stable hP
      | apply zoneCut_stable hP | apply forceSafe_stable hP | apply foldl_stable (P := P) | apply ite_stable (P := P)
      | dsimp only

theorem cutAssert_stable (hP : StableIn P free) {x0 x1 x2 x3} (h3 : P x3) : P (cutAssert x0 x1 x2 x3) := by
  unfold cutAssert
  try dsimp only
  with_reducible repeat' first
      | assumption | intro _ | apply hP.put | apply cutLatchSet_stable hP | apply State.report_stable hP
      | apply ite_stable (P := P) | dsimp only

theorem cutCtu_stable (hP : StableIn P free) {x0} (h0 : P x0) : P (cutCtu x0) := by
  unfold cutCtu
  try dsimp only
  with_reducible repeat' first
      | assumption | intro _ | apply hP.put | apply cutAssert_stable hP | apply ite_stable (P := P) | dsimp only

theorem ctuShow_stable (hP : StableIn P free) {x0} (h0 : P x0) : P (ctuShow x0) := by
  unfold ctuShow
  try dsimp only
  with_reducible repeat' first
      | assumption | intro _ | apply hP.put | apply State.putB_stable hP | split | dsimp only

theorem enlist_stable (hP : StableIn P free) {x0 x1} (h1 : P x1) : P (enlist x0 x1) := by
  unfold enlist
  try dsimp only
  with_reducible repeat' first
      | assumption | intro _ | apply coreStart_stable hP | apply cutCtu_stable hP | apply ctuShow_stable hP
      | apply State.setCut_stable hP | dsimp only

theorem coreCommand_stable (hP : StableIn P free) {x0 x1 x2 x3} (h3 : P x3) : P (coreCommand x0 x1 x2 x3) := by
  unfold coreCommand
  try dsimp only
  with_reducible repeat' first
      | assumption | intro _ | apply hP.put | apply State.answer_stable hP | apply coreResult_stable hP
      | apply enlist_stable hP | apply State.setCtu_stable hP | apply State.putCoreState_stable hP
      | apply coreFail_stable hP | apply ite_stable (P := P) | dsimp only

theorem logClear_stable (hP : StableIn P free) {x0} (h0 : P x0) : P (logClear x0) := by
  unfold logClear
  try dsimp only
  with_reducible repeat' first
      | assumption | intro _ | apply hP.put | apply State.setCtu_stable hP | apply foldl_stable (P := P) | dsimp only

theorem logCmdWrite_stable (hP : StableIn P free) {x0 x1 x2} (h2 : P x2) : P (logCmdWrite x0 x1 x2) := by
  unfold logCmdWrite
  try dsimp only
  with_reducible repeat' first
      | assumption | intro _ | apply State.answer_stable hP | apply logClear_stable hP | apply ite_stable (P := P)
      | dsimp only

theorem ctuWrite_stable (hP : StableIn P free) {x0 x1 x2 x3} (h3 : P x3) : P (ctuWrite x0 x1 x2 x3) := by
  unfold ctuWrite
  try dsimp only
  with_reducible repeat' first
      | assumption | intro _ | apply coreCommand_stable hP | apply logCmdWrite_stable hP | apply plainWrite_stable hP
      | split | refine snd_stable (by assumption) ?_ | refine fst_stable (by assumption) ?_
      | refine some_stable (by assumption) ?_ | refine some_stable2 (by assumption) ?_
      | refine snd2_stable (by assumption) ?_ | dsimp only

theorem cueGate_stable (hP : StableIn P free) {x0 x1 x2 x3} (hk2 : ∀ y0, P y0 → P (x2 y0)) (h3 : P x3) : P (cueGate x0 x1 x2 x3) := by
  unfold cueGate
  try dsimp only
  with_reducible repeat' first
      | assumption | intro _ | apply hk2 | apply State.answer_stable hP | apply ite_stable (P := P) | dsimp only

theorem cueTwlWrite_stable (hP : StableIn P free) {x0 x1 x2 x3 x4} (h4 : P x4) : P (cueTwlWrite x0 x1 x2 x3 x4) := by
  unfold cueTwlWrite
  try dsimp only
  with_reducible repeat' first
      | assumption | intro _ | apply hP.put | apply cueGate_stable hP | apply gafShow_stable hP
      | apply twlApply_stable hP | apply ite_stable (P := P) | apply ite_st (P := P) | apply ite_sec (P := P)
      | apply ite_snd (P := P) | apply ite_snd2 (P := P) | apply ite_fst (P := P) | apply id_stable (P := P)
      | dsimp only

theorem cueWake_stable (hP : StableIn P free) {x0 x1 x2 x3} (h3 : P x3) : P (cueWake x0 x1 x2 x3) := by
  unfold cueWake
  try dsimp only
  with_reducible repeat' first
      | assumption | intro _ | apply hP.put | apply ite_stable (P := P) | split | dsimp only

theorem taskResult_stable (hP : StableIn P free) {x0 x1 x2 x3 x4} (h4 : P x4) : P (taskResult x0 x1 x2 x3 x4) := by
  unfold taskResult
  try dsimp only
  with_reducible repeat' first
      | assumption | intro _ | apply hP.put | dsimp only

theorem State.putTask_stable (hP : StableIn P free) {x0 x1 x2 x3} (h0 : P x0) : P (State.putTask x0 x1 x2 x3) := by
  unfold State.putTask
  try dsimp only
  with_reducible repeat' first
      | assumption | intro _ | apply hP.put | apply State.putCore_stable hP | dsimp only

theorem taskFresh_stable (hP : StableIn P free) {x0 x1 x2} (h2 : P x2) : P (taskFresh x0 x1 x2) := by
  unfold taskFresh
  try dsimp only
  with_reducible repeat' first
      | assumption | intro _ | apply hP.put | apply State.putTask_stable hP | dsimp only

theorem taskStart_stable (hP : StableIn P free) {x0 x1 x2} (h2 : P x2) : P (taskStart x0 x1 x2) := by
  unfold taskStart
  try dsimp only
  with_reducible repeat' first
      | assumption | intro _ | apply taskResult_stable hP | apply taskFresh_stable hP | apply ite_stable (P := P)
      | dsimp only

theorem taskOff_stable (hP : StableIn P free) {x0 x1 x2} (h2 : P x2) : P (taskOff x0 x1 x2) := by
  unfold taskOff
  try dsimp only
  with_reducible repeat' first
      | assumption | intro _ | apply hP.put | apply State.putCore_stable hP | apply State.putTask_stable hP
      | apply ite_stable (P := P) | apply ite_st (P := P) | apply ite_sec (P := P) | apply ite_snd (P := P)
      | apply ite_snd2 (P := P) | apply ite_fst (P := P) | apply id_stable (P := P) | dsimp only

theorem taskStop_stable (hP : StableIn P free) {x0 x1 x2} (h2 : P x2) : P (taskStop x0 x1 x2) := by
  unfold taskStop
  try dsimp only
  with_reducible repeat' first
      | assumption | intro _ | apply hP.put | apply taskResult_stable hP | apply State.putCore_stable hP
      | apply taskOff_stable hP | apply ite_stable (P := P) | dsimp only

theorem taskResume_stable (hP : StableIn P free) {x0 x1 x2} (h2 : P x2) : P (taskResume x0 x1 x2) := by
  unfold taskResume
  try dsimp only
  with_reducible repeat' first
      | assumption | intro _ | apply hP.put | apply taskResult_stable hP | apply ite_stable (P := P) | split
      | dsimp only

theorem taskRelease_stable (hP : StableIn P free) {x0 x1 x2} (h2 : P x2) : P (taskRelease x0 x1 x2) := by
  unfold taskRelease
  try dsimp only
  with_reducible repeat' first
      | assumption | intro _ | apply hP.put | apply taskResult_stable hP | apply State.putTask_stable hP
      | apply ite_stable (P := P) | dsimp only

theorem taskCommand_stable (hP : StableIn P free) {x0 x1 x2 x3} (h3 : P x3) : P (taskCommand x0 x1 x2 x3) := by
  unfold taskCommand
  try dsimp only
  with_reducible repeat' first
      | assumption | intro _ | apply taskStart_stable hP | apply taskStop_stable hP | apply taskResume_stable hP
      | apply taskRelease_stable hP | apply taskResult_stable hP | split | refine snd_stable (by assumption) ?_
      | refine fst_stable (by assumption) ?_ | refine some_stable (by assumption) ?_
      | refine some_stable2 (by assumption) ?_ | refine snd2_stable (by assumption) ?_ | dsimp only

theorem cueDiscard_stable (hP : StableIn P free) {x0 x1} (h1 : P x1) : P (cueDiscard x0 x1) := by
  unfold cueDiscard
  try dsimp only
  with_reducible repeat' first
      | assumption | intro _ | apply hP.put | apply foldl_stable (P := P) | dsimp only

theorem saveGroup_stable (hP : StableIn P free) {x0 x1 x2 x3 x4} (h4 : P x4) : P (saveGroup x0 x1 x2 x3 x4) := by
  unfold saveGroup
  try dsimp only
  with_reducible repeat' first
      | assumption | intro _ | apply bankWrites_stable hP | dsimp only

theorem cueFlush_stable (hP : StableIn P free) {x0 x1} (h1 : P x1) : P (cueFlush x0 x1) := by
  unfold cueFlush
  try dsimp only
  with_reducible repeat' first
      | assumption | intro _ | apply hP.put | apply saveGroup_stable hP | apply taskResult_stable hP
      | apply foldl_stable (P := P) | apply ite_stable (P := P) | split | dsimp only

theorem curWrite_stable (hP : StableIn P free) {x0 x1 x2 x3} (h3 : P x3) : P (curWrite x0 x1 x2 x3) := by
  unfold curWrite
  try dsimp only
  with_reducible repeat' first
      | assumption | intro _ | apply hP.put | apply ite_stable (P := P) | split | refine snd_stable (by assumption) ?_
      | refine fst_stable (by assumption) ?_ | refine some_stable (by assumption) ?_
      | refine some_stable2 (by assumption) ?_ | refine snd2_stable (by assumption) ?_ | dsimp only

theorem lockedWrite_stable (hP : StableIn P free) {x0 x1 x2} (h2 : P x2) : P (lockedWrite x0 x1 x2) := by
  unfold lockedWrite
  try dsimp only
  with_reducible repeat' first
      | assumption | intro _ | apply taskResult_stable hP | dsimp only

theorem State.putRws_stable (hP : StableIn P free) {x0 x1 x2 x3} (h0 : P x0) : P (State.putRws x0 x1 x2 x3) := by
  unfold State.putRws
  try dsimp only
  with_reducible repeat' first
      | assumption | intro _ | apply hP.put | apply State.putCore_stable hP | apply ite_stable (P := P) | dsimp only

theorem cueFields_stable (hP : StableIn P free) {x0 x1 x2 x3} (h3 : P x3) : P (cueFields x0 x1 x2 x3) := by
  unfold cueFields
  try dsimp only
  with_reducible repeat' first
      | assumption | intro _ | apply hP.put | apply hP.wr | apply State.putRws_stable hP
      | apply State.writeField_stable hP | apply foldl_stable (P := P) | apply ite_stable (P := P) | dsimp only

theorem taskWordWrite_stable (hP : StableIn P free) {x0 x1 x2 x3 x4} (h4 : P x4) : P (taskWordWrite x0 x1 x2 x3 x4) := by
  unfold taskWordWrite
  try dsimp only
  with_reducible repeat' first
      | assumption | intro _ | apply hP.put | apply lockedWrite_stable hP | apply cueFields_stable hP
      | apply State.putRws_stable hP | apply ite_stable (P := P) | split | dsimp only

theorem shadowWrite_stable (hP : StableIn P free) {x0 x1 x2 x3 x4 x5} (h5 : P x5) : P (shadowWrite x0 x1 x2 x3 x4 x5) := by
  unfold shadowWrite
  try dsimp only
  with_reducible repeat' first
      | assumption | intro _ | apply hP.put | apply State.answer_stable hP | apply ite_stable (P := P) | split
      | dsimp only

theorem cueWrite_stable (hP : StableIn P free) {x0 x1 x2 x3 x4} (h4 : P x4) : P (cueWrite x0 x1 x2 x3 x4) := by
  unfold cueWrite
  try dsimp only
  with_reducible repeat' first
      | assumption | intro _ | apply cueGate_stable hP | apply State.answer_stable hP | apply cueWake_stable hP
      | apply taskCommand_stable hP | apply cueDiscard_stable hP | apply cueFlush_stable hP | apply curWrite_stable hP
      | apply taskWordWrite_stable hP | apply shadowWrite_stable hP | apply cueFields_stable hP
      | apply ite_stable (P := P) | dsimp only

theorem cueRegWrite_stable (hP : StableIn P free) {x0 x1 x2 x3} (h3 : P x3) : P (cueRegWrite x0 x1 x2 x3) := by
  unfold cueRegWrite
  try dsimp only
  with_reducible repeat' first
      | assumption | intro _ | apply cueTwlWrite_stable hP | apply cueWrite_stable hP | apply ite_stable (P := P)
      | dsimp only

theorem calGo_stable (hP : StableIn P free) {x0} (h0 : P x0) : P (calGo x0) := by
  unfold calGo
  try dsimp only
  with_reducible repeat' first
      | assumption | intro _ | apply hP.put | apply State.setCalEnd_stable hP | apply ite_stable (P := P) | split
      | dsimp only

theorem State.dropConflict_stable (hP : StableIn P free) {x0 x1} (h0 : P x0) : P (State.dropConflict x0 x1) := by
  unfold State.dropConflict
  try dsimp only
  with_reducible repeat' first
      | assumption | intro _ | apply hP.put | apply State.putFeature_stable hP | apply ite_stable (P := P)
      | apply ite_st (P := P) | apply ite_sec (P := P) | apply ite_snd (P := P) | apply ite_snd2 (P := P)
      | apply ite_fst (P := P) | apply id_stable (P := P) | dsimp only

theorem State.passTrigs_stable (hP : StableIn P free) {x0 x1} (h0 : P x0) : P (State.passTrigs x0 x1) := by
  unfold State.passTrigs
  try dsimp only
  with_reducible repeat' first
      | assumption | intro _ | apply State.setTrigAt_stable hP | apply ite_stable (P := P) | apply ite_st (P := P)
      | apply ite_sec (P := P) | apply ite_snd (P := P) | apply ite_snd2 (P := P) | apply ite_fst (P := P)
      | apply OptS.some (P := P) | exact OptS.none | apply OptS2.some (P := P) | exact OptS2.none
      | apply OptS.bind (P := P) | apply OptS.bind2 (P := P) | apply OptS.map (P := P) | apply OptS.map0 (P := P)
      | apply OptS2.map (P := P) | apply OptS.getD (P := P) | apply OptS.ite (P := P) | apply OptS2.ite (P := P)
      | apply id_stable (P := P) | apply foldl_stable (P := P) | apply foldl_stable2 (P := P)
      | apply foldl_stable1 (P := P) | split | refine snd2_stable (by assumption) ?_
      | refine snd_stable (by assumption) ?_ | refine fst_stable (by assumption) ?_
      | refine some_stable (by assumption) ?_ | refine some_stable2 (by assumption) ?_ | dsimp only

theorem State.handOver_stable (hP : StableIn P free) {x0 x1 x2} (h0 : P x0) : P (State.handOver x0 x1 x2) := by
  unfold State.handOver
  try dsimp only
  with_reducible repeat' first
      | assumption | intro _ | apply hP.put | apply ite_stable (P := P) | dsimp only

theorem refreshScene_stable (hP : StableIn P free) {x0 x1} (h1 : P x1) : P (refreshScene x0 x1) := by
  unfold refreshScene
  try dsimp only
  with_reducible repeat' first
      | assumption | intro _ | apply hP.put | apply State.putB_stable hP | dsimp only

theorem sceneCheck_stable (hP : StableIn P free) {x0 x1 x2 x3} (h3 : P x3) : P (sceneCheck x0 x1 x2 x3) := by
  unfold sceneCheck
  try dsimp only
  with_reducible repeat' first
      | assumption | intro _ | apply State.report_stable hP | apply ite_stable (P := P) | split | dsimp only

theorem setEnable_stable (hP : StableIn P free) {x0 x1 x2} (h2 : P x2) : P (setEnable x0 x1 x2) := by
  unfold setEnable
  try dsimp only
  with_reducible repeat' first
      | assumption | intro _ | apply hP.put | apply State.putFeature_stable hP | apply State.enableFeature_stable hP
      | apply refreshScene_stable hP | apply sceneCheck_stable hP | apply ite_stable (P := P) | split
      | refine snd_stable (by assumption) ?_ | refine fst_stable (by assumption) ?_
      | refine some_stable (by assumption) ?_ | refine some_stable2 (by assumption) ?_
      | refine snd2_stable (by assumption) ?_ | dsimp only

theorem setDisable_stable (hP : StableIn P free) {x0 x1} (h1 : P x1) : P (setDisable x0 x1) := by
  unfold setDisable
  try dsimp only
  with_reducible repeat' first
      | assumption | intro _ | apply hP.put | apply State.putSampSet_stable hP | apply State.disableFeature_stable hP
      | apply ite_stable (P := P) | apply ite_st (P := P) | apply ite_sec (P := P) | apply ite_snd (P := P)
      | apply ite_snd2 (P := P) | apply ite_fst (P := P) | apply id_stable (P := P) | dsimp only

theorem setTrigger_stable (hP : StableIn P free) {x0 x1 x2} (h2 : P x2) : P (setTrigger x0 x1 x2) := by
  unfold setTrigger
  try dsimp only
  with_reducible repeat' first
      | assumption | intro _ | apply hP.put | apply State.incSat_stable hP | apply State.putSampSet_stable hP
      | apply ite_stable (P := P) | split | refine snd_stable (by assumption) ?_ | refine fst_stable (by assumption) ?_
      | refine some_stable (by assumption) ?_ | refine some_stable2 (by assumption) ?_
      | refine snd2_stable (by assumption) ?_ | dsimp only

theorem setCtrlFields_stable (hP : StableIn P free) {x0 x1 x2} (h2 : P x2) : P (setCtrlFields x0 x1 x2) := by
  unfold setCtrlFields
  try dsimp only
  with_reducible repeat' first
      | assumption | intro _ | apply hP.put | dsimp only

theorem setCtrlWrite_stable (hP : StableIn P free) {x0 x1 x2 x3} (h3 : P x3) : P (setCtrlWrite x0 x1 x2 x3) := by
  unfold setCtrlWrite
  try dsimp only
  with_reducible repeat' first
      | assumption | intro _ | apply State.dropConflict_stable hP | apply State.answer_stable hP
      | apply State.passTrigs_stable hP | apply State.handOver_stable hP | apply setEnable_stable hP
      | apply setDisable_stable hP | apply setTrigger_stable hP | apply setCtrlFields_stable hP
      | apply ite_stable (P := P) | apply ite_st (P := P) | apply ite_sec (P := P) | apply ite_snd (P := P)
      | apply ite_snd2 (P := P) | apply ite_fst (P := P) | apply id_stable (P := P) | dsimp only

theorem unitWrite_stable (hP : StableIn P free) {x0 x1 x2 x3 x4 x5 x6 x7} (hk6 : ∀ y0, P y0 → P (x6 y0)) (h7 : P x7) : P (unitWrite x0 x1 x2 x3 x4 x5 x6 x7) := by
  unfold unitWrite
  try dsimp only
  with_reducible repeat' first
      | assumption | intro _ | apply hP.wr | apply hk6 | apply State.answer_stable hP | apply State.writeReg_stable hP
      | apply ite_stable (P := P) | dsimp only

theorem slotWrite_stable (hP : StableIn P free) {x0 x1 x2 x3 x4} (h4 : P x4) : P (slotWrite x0 x1 x2 x3 x4) := by
  unfold slotWrite
  try dsimp only
  with_reducible repeat' first
      | assumption | intro _ | apply hP.put | apply hP.wr | apply State.answer_stable hP
      | apply State.writeReg_stable hP | apply ite_stable (P := P) | dsimp only

theorem forceSafeIfHeld_stable (hP : StableIn P free) {x0 x1} (h1 : P x1) : P (forceSafeIfHeld x0 x1) := by
  unfold forceSafeIfHeld
  try dsimp only
  with_reducible repeat' first
      | assumption | intro _ | apply forceSafe_stable hP | apply ite_stable (P := P) | dsimp only

theorem refreshGroup_stable (hP : StableIn P free) {x0 x1} (h1 : P x1) : P (refreshGroup x0 x1) := by
  unfold refreshGroup
  try dsimp only
  with_reducible repeat' first
      | assumption | intro _ | apply hP.put | apply State.putB_stable hP | apply forceSafeIfHeld_stable hP
      | apply foldl_stable (P := P) | split | dsimp only

theorem releaseGroups_stable (hP : StableIn P free) {x0 x1 x2 x3} (h3 : P x3) : P (releaseGroups x0 x1 x2 x3) := by
  unfold releaseGroups
  try dsimp only
  with_reducible repeat' first
      | assumption | intro _ | apply hP.put | apply State.putCmp_stable hP | apply refreshGroup_stable hP
      | apply ite_stable (P := P) | apply ite_st (P := P) | apply ite_sec (P := P) | apply ite_snd (P := P)
      | apply ite_snd2 (P := P) | apply ite_fst (P := P) | apply OptS.some (P := P) | exact OptS.none
      | apply OptS2.some (P := P) | exact OptS2.none | apply OptS.bind (P := P) | apply OptS.bind2 (P := P)
      | apply OptS.map (P := P) | apply OptS.map0 (P := P) | apply OptS2.map (P := P) | apply OptS.getD (P := P)
      | apply OptS.ite (P := P) | apply OptS2.ite (P := P) | apply id_stable (P := P) | apply foldl_stable (P := P)
      | apply foldl_stable2 (P := P) | apply foldl_stable1 (P := P) | split | refine snd2_stable (by assumption) ?_
      | refine snd_stable (by assumption) ?_ | refine fst_stable (by assumption) ?_
      | refine some_stable (by assumption) ?_ | refine some_stable2 (by assumption) ?_ | dsimp only

theorem tripFall_stable (hP : StableIn P free) {x0 x1} (h1 : P x1) : P (tripFall x0 x1) := by
  unfold tripFall
  try dsimp only
  with_reducible repeat' first
      | assumption | intro _ | apply hP.put | apply releaseGroups_stable hP | apply ite_stable (P := P) | dsimp only

theorem dropConditions_stable (hP : StableIn P free) {x0 x1 x2 x3} (h3 : P x3) : P (dropConditions x0 x1 x2 x3) := by
  unfold dropConditions
  try dsimp only
  with_reducible repeat' first
      | assumption | intro _ | apply hP.put | apply State.putCmp_stable hP | apply tripFall_stable hP
      | apply ite_stable (P := P) | apply ite_st (P := P) | apply ite_sec (P := P) | apply ite_snd (P := P)
      | apply ite_snd2 (P := P) | apply ite_fst (P := P) | apply id_stable (P := P) | dsimp only

theorem cycleGroup_stable (hP : StableIn P free) {x0 x1} (h1 : P x1) : P (cycleGroup x0 x1) := by
  unfold cycleGroup
  try dsimp only
  with_reducible repeat' first
      | assumption | intro _ | apply hP.put | apply foldl_stable (P := P) | dsimp only

theorem latchGroup_stable (hP : StableIn P free) {x0 x1 x2} (h2 : P x2) : P (latchGroup x0 x1 x2) := by
  unfold latchGroup
  try dsimp only
  with_reducible repeat' first
      | assumption | intro _ | apply hP.put | apply State.setCut_stable hP | apply State.putIf_stable hP
      | apply State.raise_stable hP | apply ite_stable (P := P) | apply ite_st (P := P) | apply ite_sec (P := P)
      | apply ite_snd (P := P) | apply ite_snd2 (P := P) | apply ite_fst (P := P) | apply id_stable (P := P)
      | dsimp only

theorem driveGroups_stable (hP : StableIn P free) {x0 x1 x2} (h2 : P x2) : P (driveGroups x0 x1 x2) := by
  unfold driveGroups
  try dsimp only
  with_reducible repeat' first
      | assumption | intro _ | apply hP.put | apply State.putCmp_stable hP | apply refreshGroup_stable hP
      | apply cycleGroup_stable hP | apply latchGroup_stable hP | apply foldl_stable (P := P)
      | apply ite_stable (P := P) | dsimp only

theorem remapTrip_stable (hP : StableIn P free) {x0 x1 x2} (h2 : P x2) : P (remapTrip x0 x1 x2) := by
  unfold remapTrip
  try dsimp only
  with_reducible repeat' first
      | assumption | intro _ | apply releaseGroups_stable hP | apply driveGroups_stable hP | apply ite_stable (P := P)
      | dsimp only

theorem cmpCtrlFields_stable (hP : StableIn P free) {x0 x1 x2} (h2 : P x2) : P (cmpCtrlFields x0 x1 x2) := by
  unfold cmpCtrlFields
  try dsimp only
  with_reducible repeat' first
      | assumption | intro _ | apply hP.put | dsimp only

theorem cmpEnable_stable (hP : StableIn P free) {x0 x1 x2} (h2 : P x2) : P (cmpEnable x0 x1 x2) := by
  unfold cmpEnable
  try dsimp only
  with_reducible repeat' first
      | assumption | intro _ | apply hP.put | apply State.putCmp_stable hP | apply State.putFeature_stable hP
      | apply ite_stable (P := P) | apply ite_st (P := P) | apply ite_sec (P := P) | apply ite_snd (P := P)
      | apply ite_snd2 (P := P) | apply ite_fst (P := P) | apply id_stable (P := P) | dsimp only

theorem cmpDisable_stable (hP : StableIn P free) {x0 x1} (h1 : P x1) : P (cmpDisable x0 x1) := by
  unfold cmpDisable
  try dsimp only
  with_reducible repeat' first
      | assumption | intro _ | apply hP.put | apply State.putCmp_stable hP | apply State.putFeature_stable hP
      | apply releaseGroups_stable hP | apply ite_stable (P := P) | apply ite_st (P := P) | apply ite_sec (P := P)
      | apply ite_snd (P := P) | apply ite_snd2 (P := P) | apply ite_fst (P := P) | apply id_stable (P := P)
      | dsimp only

theorem cmpCtrlWrite_stable (hP : StableIn P free) {x0 x1 x2 x3} (h3 : P x3) : P (cmpCtrlWrite x0 x1 x2 x3) := by
  unfold cmpCtrlWrite
  try dsimp only
  with_reducible repeat' first
      | assumption | intro _ | apply State.dropConflict_stable hP | apply dropConditions_stable hP
      | apply remapTrip_stable hP | apply cmpCtrlFields_stable hP | apply cmpEnable_stable hP
      | apply cmpDisable_stable hP | apply State.answer_stable hP | apply State.handOver_stable hP
      | apply ite_stable (P := P) | apply ite_st (P := P) | apply ite_sec (P := P) | apply ite_snd (P := P)
      | apply ite_snd2 (P := P) | apply ite_fst (P := P) | apply id_stable (P := P) | dsimp only

theorem thrWrite_stable (hP : StableIn P free) {x0 x1 x2 x3} (h3 : P x3) : P (thrWrite x0 x1 x2 x3) := by
  unfold thrWrite
  try dsimp only
  with_reducible repeat' first
      | assumption | intro _ | apply hP.put | apply State.putCmp_stable hP | apply State.writeReg_stable hP
      | apply State.answer_stable hP | apply ite_stable (P := P) | apply ite_st (P := P) | apply ite_sec (P := P)
      | apply ite_snd (P := P) | apply ite_snd2 (P := P) | apply ite_fst (P := P) | apply id_stable (P := P)
      | dsimp only

theorem sampWrite_stable (hP : StableIn P free) {x0 x1 x2 x3} (h3 : P x3) : P (sampWrite x0 x1 x2 x3) := by
  unfold sampWrite
  try dsimp only
  with_reducible repeat' first
      | assumption | intro _ | apply State.answer_stable hP | apply calGo_stable hP | apply plainWrite_stable hP
      | apply setCtrlWrite_stable hP | apply unitWrite_stable hP | apply slotWrite_stable hP
      | apply cmpCtrlWrite_stable hP | apply thrWrite_stable hP | apply ite_stable (P := P) | apply id_stable (P := P)
      | split | refine snd_stable (by assumption) ?_ | refine fst_stable (by assumption) ?_
      | refine some_stable (by assumption) ?_ | refine some_stable2 (by assumption) ?_
      | refine snd2_stable (by assumption) ?_ | dsimp only

theorem cutHost_stable (hP : StableIn P free) {x0} (h0 : P x0) : P (cutHost x0) := by
  unfold cutHost
  try dsimp only
  with_reducible repeat' first
      | assumption | intro _ | apply cutAssert_stable hP | dsimp only

theorem State.draw_stable (hP : StableIn P free) {x0} (h0 : P x0) : P (State.draw x0) := by
  unfold State.draw
  try dsimp only
  with_reducible repeat' first
      | assumption | intro _ | apply State.setFree_stable hP | dsimp only

theorem zoneRequest_stable (hP : StableIn P free) {x0 x1} (h1 : P x1) : P (zoneRequest x0 x1) := by
  unfold zoneRequest
  try dsimp only
  with_reducible repeat' first
      | assumption | intro _ | apply State.request_stable hP | dsimp only

theorem comeOne_stable (hP : StableIn P free) {x0 x1 x2} (h2 : P x2) : P (comeOne x0 x1 x2) := by
  unfold comeOne
  try dsimp only
  with_reducible repeat' first
      | assumption | intro _ | apply hP.put | apply State.putPort_stable hP | apply ite_stable (P := P)
      | apply ite_st (P := P) | apply ite_sec (P := P) | apply ite_snd (P := P) | apply ite_snd2 (P := P)
      | apply ite_fst (P := P) | apply OptS.some (P := P) | exact OptS.none | apply OptS2.some (P := P)
      | exact OptS2.none | apply OptS.bind (P := P) | apply OptS.bind2 (P := P) | apply OptS.map (P := P)
      | apply OptS.map0 (P := P) | apply OptS2.map (P := P) | apply OptS.getD (P := P) | apply OptS.ite (P := P)
      | apply OptS2.ite (P := P) | apply id_stable (P := P) | apply foldl_stable (P := P)
      | apply foldl_stable2 (P := P) | apply foldl_stable1 (P := P) | split | refine snd2_stable (by assumption) ?_
      | refine snd_stable (by assumption) ?_ | refine fst_stable (by assumption) ?_
      | refine some_stable (by assumption) ?_ | refine some_stable2 (by assumption) ?_ | dsimp only

theorem holdTick_stable (hP : StableIn P free) {x0 x1} (h1 : P x1) : P (holdTick x0 x1) := by
  unfold holdTick
  try dsimp only
  with_reducible repeat' first
      | assumption | intro _ | apply catchUp_stable hP | apply ite_stable (P := P) | apply ite_st (P := P)
      | apply ite_sec (P := P) | apply ite_snd (P := P) | apply ite_snd2 (P := P) | apply ite_fst (P := P)
      | apply id_stable (P := P) | dsimp only

theorem State.passMs_stable (hP : StableIn P free) {x0 x1} (h0 : P x0) : P (State.passMs x0 x1) := by
  unfold State.passMs
  try dsimp only
  with_reducible repeat' first
      | assumption | intro _ | apply hP.put | apply foldl_stable (P := P) | apply ite_stable (P := P) | dsimp only

theorem State.elapse_stable (hP : StableIn P free) {x0 x1} (h0 : P x0) : P (State.elapse x0 x1) := by
  unfold State.elapse
  try dsimp only
  with_reducible repeat' first
      | assumption | intro _ | apply State.advanceTo_stable hP | dsimp only

theorem tick_stable (hP : StableIn P free) {x0} (h0 : P x0) : P (tick x0) := by
  unfold tick
  try dsimp only
  with_reducible repeat' first
      | assumption | intro _ | apply holdTick_stable hP | apply State.elapse_stable hP | apply foldl_stable (P := P)
      | dsimp only

theorem loadOne_stable (hP : StableIn P free) {x0 x1 x2 x3 x4} (h4 : P x4) : P (loadOne x0 x1 x2 x3 x4) := by
  unfold loadOne
  try dsimp only
  with_reducible repeat' first
      | assumption | intro _ | apply hP.put | apply State.putPort_stable hP | apply tick_stable hP
      | apply ite_stable (P := P) | apply ite_st (P := P) | apply ite_sec (P := P) | apply ite_snd (P := P)
      | apply ite_snd2 (P := P) | apply ite_fst (P := P) | apply OptS.some (P := P) | exact OptS.none
      | apply OptS2.some (P := P) | exact OptS2.none | apply OptS.bind (P := P) | apply OptS.bind2 (P := P)
      | apply OptS.map (P := P) | apply OptS.map0 (P := P) | apply OptS2.map (P := P) | apply OptS.getD (P := P)
      | apply OptS.ite (P := P) | apply OptS2.ite (P := P) | apply id_stable (P := P) | apply foldl_stable (P := P)
      | apply foldl_stable2 (P := P) | apply foldl_stable1 (P := P) | split | refine snd2_stable (by assumption) ?_
      | refine snd_stable (by assumption) ?_ | refine fst_stable (by assumption) ?_
      | refine some_stable (by assumption) ?_ | refine some_stable2 (by assumption) ?_ | dsimp only

theorem loadAll_stable (hP : StableIn P free) {x0 x1} (h1 : P x1) : P (loadAll x0 x1) := by
  unfold loadAll
  try dsimp only
  with_reducible repeat' first
      | assumption | intro _ | apply hP.put | apply State.putPort_stable hP | apply comeOne_stable hP
      | apply loadOne_stable hP | apply ite_stable (P := P) | apply ite_st (P := P) | apply ite_sec (P := P)
      | apply ite_snd (P := P) | apply ite_snd2 (P := P) | apply ite_fst (P := P) | apply OptS.some (P := P)
      | exact OptS.none | apply OptS2.some (P := P) | exact OptS2.none | apply OptS.bind (P := P)
      | apply OptS.bind2 (P := P) | apply OptS.map (P := P) | apply OptS.map0 (P := P) | apply OptS2.map (P := P)
      | apply OptS.getD (P := P) | apply OptS.ite (P := P) | apply OptS2.ite (P := P) | apply id_stable (P := P)
      | apply foldl_stable (P := P) | apply foldl_stable2 (P := P) | apply foldl_stable1 (P := P) | split
      | refine snd2_stable (by assumption) ?_ | refine snd_stable (by assumption) ?_
      | refine fst_stable (by assumption) ?_ | refine some_stable (by assumption) ?_
      | refine some_stable2 (by assumption) ?_ | dsimp only

theorem enterWait_stable (hP : StableIn P free) {x0 x1} (h1 : P x1) : P (enterWait x0 x1) := by
  unfold enterWait
  try dsimp only
  with_reducible repeat' first
      | assumption | intro _ | apply hP.put | apply loadAll_stable hP | apply State.putPort_stable hP
      | apply forceSafe_stable hP | apply foldl_stable (P := P) | dsimp only

theorem waitFollowers_stable (hP : StableIn P free) {x0 x1 x2} (h2 : P x2) : P (waitFollowers x0 x1 x2) := by
  unfold waitFollowers
  try dsimp only
  with_reducible repeat' first
      | assumption | intro _ | apply hP.put | apply enterWait_stable hP | apply State.putB_stable hP
      | apply foldl_stable (P := P) | apply ite_stable (P := P) | dsimp only

theorem enterRun_stable (hP : StableIn P free) {x0 x1} (h1 : P x1) : P (enterRun x0 x1) := by
  unfold enterRun
  try dsimp only
  with_reducible repeat' first
      | assumption | intro _ | apply hP.put | apply State.putPort_stable hP | apply State.putIf_stable hP
      | apply ite_stable (P := P) | apply ite_st (P := P) | apply ite_sec (P := P) | apply ite_snd (P := P)
      | apply ite_snd2 (P := P) | apply ite_fst (P := P) | apply OptS.some (P := P) | exact OptS.none
      | apply OptS2.some (P := P) | exact OptS2.none | apply OptS.bind (P := P) | apply OptS.bind2 (P := P)
      | apply OptS.map (P := P) | apply OptS.map0 (P := P) | apply OptS2.map (P := P) | apply OptS.getD (P := P)
      | apply OptS.ite (P := P) | apply OptS2.ite (P := P) | apply id_stable (P := P) | apply foldl_stable (P := P)
      | apply foldl_stable2 (P := P) | apply foldl_stable1 (P := P) | split | refine snd2_stable (by assumption) ?_
      | refine snd_stable (by assumption) ?_ | refine fst_stable (by assumption) ?_
      | refine some_stable (by assumption) ?_ | refine some_stable2 (by assumption) ?_ | dsimp only

theorem releaseRoot_stable (hP : StableIn P free) {x0 x1} (h1 : P x1) : P (releaseRoot x0 x1) := by
  unfold releaseRoot
  try dsimp only
  with_reducible repeat' first
      | assumption | intro _ | apply enterRun_stable hP | apply foldl_stable (P := P) | apply ite_stable (P := P)
      | dsimp only

theorem startPort_stable (hP : StableIn P free) {x0 x1} (h1 : P x1) : P (startPort x0 x1) := by
  unfold startPort
  try dsimp only
  with_reducible repeat' first
      | assumption | intro _ | apply hP.put | apply zoneRequest_stable hP | apply enterWait_stable hP
      | apply waitFollowers_stable hP | apply enterRun_stable hP | apply State.putB_stable hP
      | apply releaseRoot_stable hP | apply ite_stable (P := P) | split | refine snd_stable (by assumption) ?_
      | refine fst_stable (by assumption) ?_ | refine some_stable (by assumption) ?_
      | refine some_stable2 (by assumption) ?_ | refine snd2_stable (by assumption) ?_ | dsimp only

theorem cutLatchClear_stable (hP : StableIn P free) {x0} (h0 : P x0) : P (cutLatchClear x0) := by
  unfold cutLatchClear
  try dsimp only
  with_reducible repeat' first
      | assumption | intro _ | apply hP.put | apply State.raise_stable hP | apply startPort_stable hP
      | apply foldl_stable (P := P) | dsimp only

theorem cutClear_stable (hP : StableIn P free) {x0} (h0 : P x0) : P (cutClear x0) := by
  unfold cutClear
  try dsimp only
  with_reducible repeat' first
      | assumption | intro _ | apply hP.put | apply cutLatchClear_stable hP | apply ite_stable (P := P) | split
      | dsimp only

theorem cutCmdWrite_stable (hP : StableIn P free) {x0 x1 x2} (h2 : P x2) : P (cutCmdWrite x0 x1 x2) := by
  unfold cutCmdWrite
  try dsimp only
  with_reducible repeat' first
      | assumption | intro _ | apply cutHost_stable hP | apply State.draw_stable hP | apply State.answer_stable hP | apply cutClear_stable hP
      | apply ite_stable (P := P) | dsimp only

theorem clrTrip_stable (hP : StableIn P free) {x0 x1} (h1 : P x1) : P (clrTrip x0 x1) := by
  unfold clrTrip
  try dsimp only
  with_reducible repeat' first
      | assumption | intro _ | apply hP.put | apply refreshGroup_stable hP | apply ite_stable (P := P) | dsimp only

theorem clrRed_stable (hP : StableIn P free) {x0 x1} (h1 : P x1) : P (clrRed x0 x1) := by
  unfold clrRed
  try dsimp only
  with_reducible repeat' first
      | assumption | intro _ | apply State.setLaneTest_stable hP | dsimp only

theorem gclrWrite_stable (hP : StableIn P free) {x0 x1 x2 x3} (h3 : P x3) : P (gclrWrite x0 x1 x2 x3) := by
  unfold gclrWrite
  try dsimp only
  with_reducible repeat' first
      | assumption | intro _ | apply State.answer_stable hP | apply clrTrip_stable hP | apply clrRed_stable hP
      | apply ite_stable (P := P) | dsimp only

theorem timingWrite_stable (hP : StableIn P free) {x0 x1 x2 x3} (h3 : P x3) : P (timingWrite x0 x1 x2 x3) := by
  unfold timingWrite
  try dsimp only
  with_reducible repeat' first
      | assumption | intro _ | apply hP.put | apply State.putPort_stable hP | apply ite_stable (P := P)
      | apply ite_st (P := P) | apply ite_sec (P := P) | apply ite_snd (P := P) | apply ite_snd2 (P := P)
      | apply ite_fst (P := P) | apply id_stable (P := P) | dsimp only

theorem refollow_stable (hP : StableIn P free) {x0} (h0 : P x0) : P (refollow x0) := by
  unfold refollow
  try dsimp only
  with_reducible repeat' first
      | assumption | intro _ | apply hP.put | apply State.putB_stable hP | apply enterRun_stable hP
      | apply enterWait_stable hP | apply ite_stable (P := P) | apply ite_st (P := P) | apply ite_sec (P := P)
      | apply ite_snd (P := P) | apply ite_snd2 (P := P) | apply ite_fst (P := P) | apply OptS.some (P := P)
      | exact OptS.none | apply OptS2.some (P := P) | exact OptS2.none | apply OptS.bind (P := P)
      | apply OptS.bind2 (P := P) | apply OptS.map (P := P) | apply OptS.map0 (P := P) | apply OptS2.map (P := P)
      | apply OptS.getD (P := P) | apply OptS.ite (P := P) | apply OptS2.ite (P := P) | apply id_stable (P := P)
      | apply foldl_stable (P := P) | apply foldl_stable2 (P := P) | apply foldl_stable1 (P := P) | split
      | refine snd2_stable (by assumption) ?_ | refine snd_stable (by assumption) ?_
      | refine fst_stable (by assumption) ?_ | refine some_stable (by assumption) ?_
      | refine some_stable2 (by assumption) ?_ | dsimp only

theorem portEnable_stable (hP : StableIn P free) {x0 x1 x2} (h2 : P x2) : P (portEnable x0 x1 x2) := by
  unfold portEnable
  try dsimp only
  with_reducible repeat' first
      | assumption | intro _ | apply hP.put | apply State.putFeature_stable hP | apply State.enableFeature_stable hP
      | apply State.putB_stable hP | apply State.putIf_stable hP | apply refollow_stable hP
      | apply startPort_stable hP | apply sceneCheck_stable hP | apply ite_stable (P := P) | apply ite_st (P := P)
      | apply ite_sec (P := P) | apply ite_snd (P := P) | apply ite_snd2 (P := P) | apply ite_fst (P := P)
      | apply id_stable (P := P) | dsimp only

theorem zoneLeave_stable (hP : StableIn P free) {x0 x1} (h1 : P x1) : P (zoneLeave x0 x1) := by
  unfold zoneLeave
  try dsimp only
  with_reducible repeat' first
      | assumption | intro _ | apply State.zoneRefresh_stable hP | apply State.setStarts_stable hP
      | apply State.unrequest_stable hP | dsimp only

theorem portDisable_stable (hP : StableIn P free) {x0 x1} (h1 : P x1) : P (portDisable x0 x1) := by
  unfold portDisable
  try dsimp only
  with_reducible repeat' first
      | assumption | intro _ | apply hP.put | apply State.putPort_stable hP | apply State.disableFeature_stable hP
      | apply forceSafe_stable hP | apply loadAll_stable hP | apply waitFollowers_stable hP | apply refollow_stable hP
      | apply zoneLeave_stable hP | apply ite_stable (P := P) | apply ite_st (P := P) | apply ite_sec (P := P)
      | apply ite_snd (P := P) | apply ite_snd2 (P := P) | apply ite_fst (P := P) | apply OptS.some (P := P)
      | exact OptS.none | apply OptS2.some (P := P) | exact OptS2.none | apply OptS.bind (P := P)
      | apply OptS.bind2 (P := P) | apply OptS.map (P := P) | apply OptS.map0 (P := P) | apply OptS2.map (P := P)
      | apply OptS.getD (P := P) | apply OptS.ite (P := P) | apply OptS2.ite (P := P) | apply id_stable (P := P)
      | apply foldl_stable (P := P) | apply foldl_stable2 (P := P) | apply foldl_stable1 (P := P) | split
      | refine snd2_stable (by assumption) ?_ | refine snd_stable (by assumption) ?_
      | refine fst_stable (by assumption) ?_ | refine some_stable (by assumption) ?_
      | refine some_stable2 (by assumption) ?_ | dsimp only

theorem portCtrlFields_stable (hP : StableIn P free) {x0 x1 x2} (h2 : P x2) : P (portCtrlFields x0 x1 x2) := by
  unfold portCtrlFields
  try dsimp only
  with_reducible repeat' first
      | assumption | intro _ | apply hP.put | apply State.putIf_stable hP | apply ite_stable (P := P)
      | apply ite_st (P := P) | apply ite_sec (P := P) | apply ite_snd (P := P) | apply ite_snd2 (P := P)
      | apply ite_fst (P := P) | apply id_stable (P := P) | dsimp only

theorem portCtrlWrite_stable (hP : StableIn P free) {x0 x1 x2 x3} (h3 : P x3) : P (portCtrlWrite x0 x1 x2 x3) := by
  unfold portCtrlWrite
  try dsimp only
  with_reducible repeat' first
      | assumption | intro _ | apply State.dropConflict_stable hP | apply State.answer_stable hP
      | apply portEnable_stable hP | apply portDisable_stable hP | apply State.handOver_stable hP
      | apply portCtrlFields_stable hP | apply ite_stable (P := P) | apply ite_st (P := P) | apply ite_sec (P := P)
      | apply ite_snd (P := P) | apply ite_snd2 (P := P) | apply ite_fst (P := P) | apply id_stable (P := P)
      | dsimp only

theorem State.inc_stable (hP : StableIn P free) {x0 x1} (h0 : P x0) : P (State.inc x0 x1) := by
  unfold State.inc
  try dsimp only
  with_reducible repeat' first
      | assumption | intro _ | apply hP.put | dsimp only

theorem rushKeep_stable (hP : StableIn P free) {x0 x1 x2 x3} (h3 : P x3) : P (rushKeep x0 x1 x2 x3) := by
  unfold rushKeep
  try dsimp only
  with_reducible repeat' first
      | assumption | intro _ | apply hP.put | apply State.putRush_stable hP | apply State.incSat_stable hP
      | apply ite_stable (P := P) | apply ite_st (P := P) | apply ite_sec (P := P) | apply ite_snd (P := P)
      | apply ite_snd2 (P := P) | apply ite_fst (P := P) | apply id_stable (P := P) | dsimp only

theorem rushUpdate_stable (hP : StableIn P free) {x0 x1 x2 x3} (h3 : P x3) : P (rushUpdate x0 x1 x2 x3) := by
  unfold rushUpdate
  try dsimp only
  with_reducible repeat' first
      | assumption | intro _ | apply hP.put | apply State.putRush_stable hP | apply rushKeep_stable hP
      | apply ite_stable (P := P) | dsimp only

theorem rushOffer_stable (hP : StableIn P free) {x0 x1 x2 x3 x4} (h4 : P x4) : P (rushOffer x0 x1 x2 x3 x4) := by
  unfold rushOffer
  try dsimp only
  with_reducible repeat' first
      | assumption | intro _ | apply rushUpdate_stable hP | apply foldl_stable (P := P) | apply foldl_stable2 (P := P)
      | apply foldl_stable1 (P := P) | apply ite_stable (P := P) | dsimp only

theorem latRecord_stable (hP : StableIn P free) {x0 x1 x2 x3 x4 x5 x6 x7 x8 x9} (h9 : P x9) : P (latRecord x0 x1 x2 x3 x4 x5 x6 x7 x8 x9) := by
  unfold latRecord
  try dsimp only
  with_reducible repeat' first
      | assumption | intro _ | apply hP.put | apply State.setLatFlight_stable hP | apply State.putB_stable hP
      | apply State.inc_stable hP | apply State.draw_stable hP | apply rushOffer_stable hP | apply ite_stable (P := P)
      | apply ite_st (P := P) | apply ite_sec (P := P) | apply ite_snd (P := P) | apply ite_snd2 (P := P)
      | apply ite_fst (P := P) | apply id_stable (P := P) | dsimp only

theorem keepCompare_stable (hP : StableIn P free) {x0 x1 x2 x3 x4 x5 x6} (h6 : P x6) : P (keepCompare x0 x1 x2 x3 x4 x5 x6) := by
  unfold keepCompare
  try dsimp only
  with_reducible repeat' first
      | assumption | intro _ | apply hP.put | apply State.putPort_stable hP | apply ite_stable (P := P)
      | apply ite_st (P := P) | apply ite_sec (P := P) | apply ite_snd (P := P) | apply ite_snd2 (P := P)
      | apply ite_fst (P := P) | apply id_stable (P := P) | dsimp only

theorem shadowCompare_stable (hP : StableIn P free) {x0 x1 x2 x3 x4 x5} (h5 : P x5) : P (shadowCompare x0 x1 x2 x3 x4 x5) := by
  unfold shadowCompare
  try dsimp only
  with_reducible repeat' first
      | assumption | intro _ | apply hP.put | apply State.putPort_stable hP | apply ite_stable (P := P)
      | apply ite_st (P := P) | apply ite_sec (P := P) | apply ite_snd (P := P) | apply ite_snd2 (P := P)
      | apply ite_fst (P := P) | apply id_stable (P := P) | dsimp only

theorem compareWrite_stable (hP : StableIn P free) {x0 x1 x2 x3 x4 x5 x6 x7} (h7 : P x7) : P (compareWrite x0 x1 x2 x3 x4 x5 x6 x7) := by
  unfold compareWrite
  try dsimp only
  with_reducible repeat' first
      | assumption | intro _ | apply hP.put | apply State.putPort_stable hP | apply latRecord_stable hP
      | apply keepCompare_stable hP | apply shadowCompare_stable hP | apply ite_stable (P := P)
      | apply ite_st (P := P) | apply ite_sec (P := P) | apply ite_snd (P := P) | apply ite_snd2 (P := P)
      | apply ite_fst (P := P) | apply OptS.some (P := P) | exact OptS.none | apply OptS2.some (P := P)
      | exact OptS2.none | apply OptS.bind (P := P) | apply OptS.bind2 (P := P) | apply OptS.map (P := P)
      | apply OptS.map0 (P := P) | apply OptS2.map (P := P) | apply OptS.getD (P := P) | apply OptS.ite (P := P)
      | apply OptS2.ite (P := P) | apply id_stable (P := P) | apply foldl_stable (P := P)
      | apply foldl_stable2 (P := P) | apply foldl_stable1 (P := P) | split | refine snd2_stable (by assumption) ?_
      | refine snd_stable (by assumption) ?_ | refine fst_stable (by assumption) ?_
      | refine some_stable (by assumption) ?_ | refine some_stable2 (by assumption) ?_ | dsimp only

theorem compareBus_stable (hP : StableIn P free) {x0 x1 x2 x3 x4} (h4 : P x4) : P (compareBus x0 x1 x2 x3 x4) := by
  unfold compareBus
  try dsimp only
  with_reducible repeat' first
      | assumption | intro _ | apply State.answer_stable hP | apply compareWrite_stable hP | apply ite_stable (P := P)
      | dsimp only

theorem safeWrite_stable (hP : StableIn P free) {x0 x1 x2 x3} (h3 : P x3) : P (safeWrite x0 x1 x2 x3) := by
  unfold safeWrite
  try dsimp only
  with_reducible repeat' first
      | assumption | intro _ | apply hP.put | apply State.answer_stable hP | apply refollow_stable hP
      | apply ite_stable (P := P) | apply ite_st (P := P) | apply ite_sec (P := P) | apply ite_snd (P := P)
      | apply ite_snd2 (P := P) | apply ite_fst (P := P) | apply id_stable (P := P) | dsimp only

theorem portsWrite_stable (hP : StableIn P free) {x0 x1 x2 x3} (h3 : P x3) : P (portsWrite x0 x1 x2 x3) := by
  unfold portsWrite
  try dsimp only
  with_reducible repeat' first
      | assumption | intro _ | apply cutCmdWrite_stable hP | apply plainWrite_stable hP | apply gclrWrite_stable hP
      | apply unitWrite_stable hP | apply timingWrite_stable hP | apply portCtrlWrite_stable hP
      | apply compareBus_stable hP | apply safeWrite_stable hP | apply ite_stable (P := P) | apply id_stable (P := P)
      | dsimp only

theorem refreshFault_stable (hP : StableIn P free) {x0 x1} (h1 : P x1) : P (refreshFault x0 x1) := by
  unfold refreshFault
  try dsimp only
  with_reducible repeat' first
      | assumption | intro _ | apply hP.put | apply State.putB_stable hP | split | dsimp only

theorem resign_stable (hP : StableIn P free) {x0 x1} (h1 : P x1) : P (resign x0 x1) := by
  unfold resign
  try dsimp only
  with_reducible repeat' first
      | assumption | intro _ | apply hP.put | apply State.putPf_stable hP | dsimp only

theorem pfStart_stable (hP : StableIn P free) {x0 x1 x2 x3 x4} (h4 : P x4) : P (pfStart x0 x1 x2 x3 x4) := by
  unfold pfStart
  try dsimp only
  with_reducible repeat' first
      | assumption | intro _ | apply hP.put | apply State.putPf_stable hP | apply ite_stable (P := P)
      | apply ite_st (P := P) | apply ite_sec (P := P) | apply ite_snd (P := P) | apply ite_snd2 (P := P)
      | apply ite_fst (P := P) | apply id_stable (P := P) | dsimp only

theorem pfEnable_stable (hP : StableIn P free) {x0 x1 x2 x3 x4 x5} (h5 : P x5) : P (pfEnable x0 x1 x2 x3 x4 x5) := by
  unfold pfEnable
  try dsimp only
  with_reducible repeat' first
      | assumption | intro _ | apply hP.put | apply State.putB_stable hP | apply State.putFeature_stable hP
      | apply State.enableFeature_stable hP | apply sceneCheck_stable hP | apply pfStart_stable hP
      | apply ite_stable (P := P) | dsimp only

theorem pfDisable_stable (hP : StableIn P free) {x0 x1} (h1 : P x1) : P (pfDisable x0 x1) := by
  unfold pfDisable
  try dsimp only
  with_reducible repeat' first
      | assumption | intro _ | apply hP.put | apply State.disableFeature_stable hP | dsimp only

theorem pfCtrlWrite_stable (hP : StableIn P free) {x0 x1 x2 x3 x4 x5 x6} (h6 : P x6) : P (pfCtrlWrite x0 x1 x2 x3 x4 x5 x6) := by
  unfold pfCtrlWrite
  try dsimp only
  with_reducible repeat' first
      | assumption | intro _ | apply hP.put | apply State.dropConflict_stable hP | apply pfEnable_stable hP
      | apply pfDisable_stable hP | apply resign_stable hP | apply State.putIf_stable hP
      | apply State.answer_stable hP | apply State.handOver_stable hP | apply ite_stable (P := P)
      | apply ite_st (P := P) | apply ite_sec (P := P) | apply ite_snd (P := P) | apply ite_snd2 (P := P)
      | apply ite_fst (P := P) | apply id_stable (P := P) | dsimp only

theorem emuCtrlWrite_stable (hP : StableIn P free) {x0 x1 x2 x3} (h3 : P x3) : P (emuCtrlWrite x0 x1 x2 x3) := by
  unfold emuCtrlWrite
  try dsimp only
  with_reducible repeat' first
      | assumption | intro _ | apply hP.put | apply State.putEmu_stable hP | apply State.enableFeature_stable hP
      | apply State.disableFeature_stable hP | apply State.dropConflict_stable hP | apply State.answer_stable hP
      | apply State.handOver_stable hP | apply ite_stable (P := P) | apply ite_st (P := P) | apply ite_sec (P := P)
      | apply ite_snd (P := P) | apply ite_snd2 (P := P) | apply ite_fst (P := P) | apply id_stable (P := P)
      | dsimp only

theorem feedWrite_stable (hP : StableIn P free) {x0 x1 x2 x3} (h3 : P x3) : P (feedWrite x0 x1 x2 x3) := by
  unfold feedWrite
  try dsimp only
  with_reducible repeat' first
      | assumption | intro _ | apply plainWrite_stable hP | apply unitWrite_stable hP | apply refreshFault_stable hP
      | apply resign_stable hP | apply pfCtrlWrite_stable hP | apply emuCtrlWrite_stable hP
      | apply ite_stable (P := P) | apply ite_st (P := P) | apply ite_sec (P := P) | apply ite_snd (P := P)
      | apply ite_snd2 (P := P) | apply ite_fst (P := P) | apply OptS.some (P := P) | exact OptS.none
      | apply OptS2.some (P := P) | exact OptS2.none | apply OptS.bind (P := P) | apply OptS.bind2 (P := P)
      | apply OptS.map (P := P) | apply OptS.map0 (P := P) | apply OptS2.map (P := P) | apply OptS.getD (P := P)
      | apply OptS.ite (P := P) | apply OptS2.ite (P := P) | apply id_stable (P := P) | apply foldl_stable (P := P)
      | apply foldl_stable2 (P := P) | apply foldl_stable1 (P := P) | split | refine snd2_stable (by assumption) ?_
      | refine snd_stable (by assumption) ?_ | refine fst_stable (by assumption) ?_
      | refine some_stable (by assumption) ?_ | refine some_stable2 (by assumption) ?_ | dsimp only

theorem engCtrlFields_stable (hP : StableIn P free) {x0 x1 x2} (h2 : P x2) : P (engCtrlFields x0 x1 x2) := by
  unfold engCtrlFields
  try dsimp only
  with_reducible repeat' first
      | assumption | intro _ | apply hP.put | apply State.putIf_stable hP | apply ite_stable (P := P) | split
      | dsimp only

theorem engCtrlWrite_stable (hP : StableIn P free) {x0 x1 x2 x3} (h3 : P x3) : P (engCtrlWrite x0 x1 x2 x3) := by
  unfold engCtrlWrite
  try dsimp only
  with_reducible repeat' first
      | assumption | intro _ | apply hP.put | apply State.answer_stable hP | apply engCtrlFields_stable hP
      | apply ite_stable (P := P) | split | dsimp only

theorem engResult_stable (hP : StableIn P free) {x0 x1 x2 x3 x4 x5} (h5 : P x5) : P (engResult x0 x1 x2 x3 x4 x5) := by
  unfold engResult
  try dsimp only
  with_reducible repeat' first
      | assumption | intro _ | apply hP.put | apply State.putB_stable hP | dsimp only

theorem engEnter_stable (hP : StableIn P free) {x0 x1 x2} (h2 : P x2) : P (engEnter x0 x1 x2) := by
  unfold engEnter
  try dsimp only
  with_reducible repeat' first
      | assumption | intro _ | apply hP.put | apply ite_stable (P := P) | split | dsimp only

theorem engFlags_stable (hP : StableIn P free) {x0 x1} (h1 : P x1) : P (engFlags x0 x1) := by
  unfold engFlags
  try dsimp only
  with_reducible repeat' first
      | assumption | intro _ | apply hP.put | apply State.putB_stable hP | split | dsimp only

theorem engTrigger_stable (hP : StableIn P free) {x0 x1 x2} (h2 : P x2) : P (engTrigger x0 x1 x2) := by
  unfold engTrigger
  try dsimp only
  with_reducible repeat' first
      | assumption | intro _ | apply hP.put | apply engFlags_stable hP | apply State.putEng_stable hP
      | apply State.incSat_stable hP | apply ite_stable (P := P) | dsimp only

theorem runEnds_stable (hP : StableIn P free) {x0 x1} (h1 : P x1) : P (runEnds x0 x1) := by
  unfold runEnds
  try dsimp only
  with_reducible repeat' first
      | assumption | intro _ | apply hP.put | apply engFlags_stable hP | apply State.putEng_stable hP
      | apply engEnter_stable hP | apply ite_stable (P := P) | dsimp only

theorem engFix_stable (hP : StableIn P free) {x0 x1 x2} (h2 : P x2) : P (engFix x0 x1 x2) := by
  unfold engFix
  try dsimp only
  with_reducible repeat' first
      | assumption | intro _ | apply State.report_stable hP | apply State.unmark_stable hP | apply ite_stable (P := P)
      | dsimp only

theorem engFixAll_stable (hP : StableIn P free) {x0 x1 x2} (h2 : P x2) : P (engFixAll x0 x1 x2) := by
  unfold engFixAll
  try dsimp only
  with_reducible repeat' first
      | assumption | intro _ | apply engFix_stable hP | apply foldl_stable (P := P) | dsimp only

theorem engFixWhere_stable (hP : StableIn P free) {x0 x1 x2} (h2 : P x2) : P (engFixWhere x0 x1 x2) := by
  unfold engFixWhere
  try dsimp only
  with_reducible repeat' first
      | assumption | intro _ | apply engFixAll_stable hP | apply ite_stable (P := P) | apply ite_st (P := P)
      | apply ite_sec (P := P) | apply ite_snd (P := P) | apply ite_snd2 (P := P) | apply ite_fst (P := P)
      | apply OptS.some (P := P) | exact OptS.none | apply OptS2.some (P := P) | exact OptS2.none
      | apply OptS.bind (P := P) | apply OptS.bind2 (P := P) | apply OptS.map (P := P) | apply OptS.map0 (P := P)
      | apply OptS2.map (P := P) | apply OptS.getD (P := P) | apply OptS.ite (P := P) | apply OptS2.ite (P := P)
      | apply id_stable (P := P) | apply foldl_stable (P := P) | apply foldl_stable2 (P := P)
      | apply foldl_stable1 (P := P) | split | refine snd2_stable (by assumption) ?_
      | refine snd_stable (by assumption) ?_ | refine fst_stable (by assumption) ?_
      | refine some_stable (by assumption) ?_ | refine some_stable2 (by assumption) ?_ | dsimp only

theorem negateImage_stable (hP : StableIn P free) {x0 x1} (h1 : P x1) : P (negateImage x0 x1) := by
  unfold negateImage
  try dsimp only
  with_reducible repeat' first
      | assumption | intro _ | apply State.setMarks_stable hP | apply State.setEngNeg_stable hP
      | apply ite_stable (P := P) | apply ite_st (P := P) | apply ite_sec (P := P) | apply ite_snd (P := P)
      | apply ite_snd2 (P := P) | apply ite_fst (P := P) | apply OptS.some (P := P) | exact OptS.none
      | apply OptS2.some (P := P) | exact OptS2.none | apply OptS.bind (P := P) | apply OptS.bind2 (P := P)
      | apply OptS.map (P := P) | apply OptS.map0 (P := P) | apply OptS2.map (P := P) | apply OptS.getD (P := P)
      | apply OptS.ite (P := P) | apply OptS2.ite (P := P) | apply id_stable (P := P) | apply foldl_stable (P := P)
      | apply foldl_stable2 (P := P) | apply foldl_stable1 (P := P) | split | refine snd2_stable (by assumption) ?_
      | refine snd_stable (by assumption) ?_ | refine fst_stable (by assumption) ?_
      | refine some_stable (by assumption) ?_ | refine some_stable2 (by assumption) ?_ | dsimp only

theorem loadLaw_stable (hP : StableIn P free) {x0 x1} (h1 : P x1) : P (loadLaw x0 x1).1 := by
  unfold loadLaw
  try dsimp only
  with_reducible repeat' first
      | assumption | intro _ | apply hP.put | apply State.putEng_stable hP | apply engFixWhere_stable hP
      | apply engEnter_stable hP | apply negateImage_stable hP | apply ite_stable (P := P) | apply ite_st (P := P)
      | apply ite_sec (P := P) | apply ite_snd (P := P) | apply ite_snd2 (P := P) | apply ite_fst (P := P)
      | apply OptS.some (P := P) | exact OptS.none | apply OptS2.some (P := P) | exact OptS2.none
      | apply OptS.bind (P := P) | apply OptS.bind2 (P := P) | apply OptS.map (P := P) | apply OptS.map0 (P := P)
      | apply OptS2.map (P := P) | apply OptS.getD (P := P) | apply OptS.ite (P := P) | apply OptS2.ite (P := P)
      | apply id_stable (P := P) | apply foldl_stable (P := P) | apply foldl_stable2 (P := P)
      | apply foldl_stable1 (P := P) | split | refine snd2_stable (by assumption) ?_
      | refine snd_stable (by assumption) ?_ | refine fst_stable (by assumption) ?_
      | refine some_stable (by assumption) ?_ | refine some_stable2 (by assumption) ?_ | dsimp only

theorem backingWrites_stable (hP : StableIn P free) {x0 x1} (h1 : P x1) : P (backingWrites x0 x1).st := by
  unfold backingWrites
  try dsimp only
  with_reducible repeat' first
      | assumption | intro _ | apply bankWrites_stable hP | apply ite_stable (P := P) | apply ite_st (P := P)
      | apply ite_sec (P := P) | dsimp only

theorem armLaw_stable (hP : StableIn P free) {x0 x1} (h1 : P x1) : P (armLaw x0 x1).1 := by
  unfold armLaw
  try dsimp only
  with_reducible repeat' first
      | assumption | intro _ | apply hP.put | apply State.putEng_stable hP | apply engFixWhere_stable hP
      | apply engEnter_stable hP | apply backingWrites_stable hP | apply ite_stable (P := P) | apply ite_st (P := P)
      | apply ite_sec (P := P) | apply ite_snd (P := P) | apply ite_snd2 (P := P) | apply ite_fst (P := P)
      | apply id_stable (P := P) | dsimp only

theorem engLong_stable (hP : StableIn P free) {x0 x1 x2} (h2 : P x2.1) : P (engLong x0 x1 x2) := by
  unfold engLong
  try dsimp only
  with_reducible repeat' first
      | assumption | intro _ | apply hP.put | apply State.putEng_stable hP | dsimp only

theorem engDo_stable (hP : StableIn P free) {x0 x1 x2} (h2 : P x2) : P (engDo x0 x1 x2) := by
  unfold engDo
  try dsimp only
  with_reducible repeat' first
      | assumption | intro _ | apply hP.put | apply State.putEng_stable hP | apply engEnter_stable hP
      | apply engFlags_stable hP | apply engTrigger_stable hP | apply runEnds_stable hP | apply loadLaw_stable hP
      | apply armLaw_stable hP | apply engResult_stable hP | apply engLong_stable hP | apply ite_stable (P := P)
      | apply ite_st (P := P) | apply ite_sec (P := P) | apply ite_snd (P := P) | apply ite_snd2 (P := P)
      | apply ite_fst (P := P) | apply OptS.some (P := P) | exact OptS.none | apply OptS2.some (P := P)
      | exact OptS2.none | apply OptS.bind (P := P) | apply OptS.bind2 (P := P) | apply OptS.map (P := P)
      | apply OptS.map0 (P := P) | apply OptS2.map (P := P) | apply OptS.getD (P := P) | apply OptS.ite (P := P)
      | apply OptS2.ite (P := P) | apply id_stable (P := P) | apply foldl_stable (P := P)
      | apply foldl_stable2 (P := P) | apply foldl_stable1 (P := P) | split | refine snd2_stable (by assumption) ?_
      | refine snd_stable (by assumption) ?_ | refine fst_stable (by assumption) ?_
      | refine some_stable (by assumption) ?_ | refine some_stable2 (by assumption) ?_ | dsimp only

theorem engCommand_stable (hP : StableIn P free) {x0 x1 x2 x3} (h3 : P x3) : P (engCommand x0 x1 x2 x3) := by
  unfold engCommand
  try dsimp only
  with_reducible repeat' first
      | assumption | intro _ | apply engResult_stable hP | apply engDo_stable hP | apply State.answer_stable hP
      | apply ite_stable (P := P) | apply ite_st (P := P) | apply ite_sec (P := P) | apply ite_snd (P := P)
      | apply ite_snd2 (P := P) | apply ite_fst (P := P) | apply OptS.some (P := P) | exact OptS.none
      | apply OptS2.some (P := P) | exact OptS2.none | apply OptS.bind (P := P) | apply OptS.bind2 (P := P)
      | apply OptS.map (P := P) | apply OptS.map0 (P := P) | apply OptS2.map (P := P) | apply OptS.getD (P := P)
      | apply OptS.ite (P := P) | apply OptS2.ite (P := P) | apply id_stable (P := P) | apply foldl_stable (P := P)
      | apply foldl_stable2 (P := P) | apply foldl_stable1 (P := P) | split | refine snd2_stable (by assumption) ?_
      | refine snd_stable (by assumption) ?_ | refine fst_stable (by assumption) ?_
      | refine some_stable (by assumption) ?_ | refine some_stable2 (by assumption) ?_ | dsimp only

theorem engRegWrite_stable (hP : StableIn P free) {x0 x1 x2 x3 x4} (h4 : P x4) : P (engRegWrite x0 x1 x2 x3 x4) := by
  unfold engRegWrite
  try dsimp only
  with_reducible repeat' first
      | assumption | intro _ | apply hP.put | apply State.putEng_stable hP | apply engCtrlWrite_stable hP
      | apply engCommand_stable hP | apply State.writeReg_stable hP | apply State.answer_stable hP
      | apply ite_stable (P := P) | apply ite_st (P := P) | apply ite_sec (P := P) | apply ite_snd (P := P)
      | apply ite_snd2 (P := P) | apply ite_fst (P := P) | apply OptS.some (P := P) | exact OptS.none
      | apply OptS2.some (P := P) | exact OptS2.none | apply OptS.bind (P := P) | apply OptS.bind2 (P := P)
      | apply OptS.map (P := P) | apply OptS.map0 (P := P) | apply OptS2.map (P := P) | apply OptS.getD (P := P)
      | apply OptS.ite (P := P) | apply OptS2.ite (P := P) | apply id_stable (P := P) | apply foldl_stable (P := P)
      | apply foldl_stable2 (P := P) | apply foldl_stable1 (P := P) | split | refine snd2_stable (by assumption) ?_
      | refine snd_stable (by assumption) ?_ | refine fst_stable (by assumption) ?_
      | refine some_stable (by assumption) ?_ | refine some_stable2 (by assumption) ?_ | dsimp only

theorem enginesWrite_stable (hP : StableIn P free) {x0 x1 x2 x3} (h3 : P x3) : P (enginesWrite x0 x1 x2 x3) := by
  unfold enginesWrite
  try dsimp only
  with_reducible repeat' first
      | assumption | intro _ | apply plainWrite_stable hP | apply engRegWrite_stable hP | apply ite_stable (P := P)
      | dsimp only

theorem xferRes_stable (hP : StableIn P free) {x0 x1 x2 x3 x4} (h4 : P x4) : P (xferRes x0 x1 x2 x3 x4) := by
  unfold xferRes
  try dsimp only
  with_reducible repeat' first
      | assumption | intro _ | apply hP.put | apply State.putB_stable hP | dsimp only

theorem reelMeet_stable (hP : StableIn P free) {x0 x1 x2} (h2 : P x2) : P (reelMeet x0 x1 x2) := by
  unfold reelMeet
  try dsimp only
  with_reducible repeat' first
      | assumption | intro _ | apply hP.put | apply State.report_stable hP | apply State.unmark_stable hP
      | apply State.store_stable hP | split | refine snd_stable (by assumption) ?_
      | refine fst_stable (by assumption) ?_ | refine some_stable (by assumption) ?_
      | refine some_stable2 (by assumption) ?_ | refine snd2_stable (by assumption) ?_ | dsimp only

theorem reelMeetAll_stable (hP : StableIn P free) {x0 x1 x2} (h2 : P x2) : P (reelMeetAll x0 x1 x2) := by
  unfold reelMeetAll
  try dsimp only
  with_reducible repeat' first
      | assumption | intro _ | apply reelMeet_stable hP | apply foldl_stable (P := P) | dsimp only

theorem reelReadAll_stable (hP : StableIn P free) {x0 x1} (h1 : P x1) : P (reelReadAll x0 x1) := by
  unfold reelReadAll
  try dsimp only
  with_reducible repeat' first
      | assumption | intro _ | apply reelMeetAll_stable hP | dsimp only

theorem ddrWrites_stable (hP : StableIn P free) {x0 x1 x2 x3} (h3 : P x3) : P (ddrWrites x0 x1 x2 x3).st := by
  fun_induction ddrWrites x0 x1 x2 x3 <;> (with_reducible repeat' first
      | assumption | intro _ | apply ddrWrite_stable hP | apply ite_stable (P := P) | apply ite_st (P := P)
      | apply ite_sec (P := P) | split | refine snd_stable (by assumption) ?_ | refine fst_stable (by assumption) ?_
      | refine some_stable (by assumption) ?_ | refine some_stable2 (by assumption) ?_
      | refine snd2_stable (by assumption) ?_ | refine ‹P _ → P _› ?_ | refine ‹P _ → OptS P _› ?_
      | refine ‹∀ t, P t → OptS P _› _ ?_ | dsimp +zetaDelta only | dsimp only)

theorem xferStart_stable (hP : StableIn P free) {x0 x1} (h1 : P x1) : P (xferStart x0 x1) := by
  unfold xferStart
  try dsimp only
  with_reducible repeat' first
      | assumption | intro _ | apply hP.put | apply State.setXfer_stable hP | apply ite_stable (P := P)
      | apply ite_st (P := P) | apply ite_sec (P := P) | apply ite_snd (P := P) | apply ite_snd2 (P := P)
      | apply ite_fst (P := P) | apply id_stable (P := P) | dsimp only

theorem xferRun_stable (hP : StableIn P free) {x0 x1 x2 x3 x4 x5} (h5 : P x5) : P (xferRun x0 x1 x2 x3 x4 x5) := by
  unfold xferRun
  try dsimp only
  with_reducible repeat' first
      | assumption | intro _ | apply xferStart_stable hP | apply ite_stable (P := P) | apply ite_st (P := P)
      | apply ite_sec (P := P) | apply ite_snd (P := P) | apply ite_snd2 (P := P) | apply ite_fst (P := P)
      | apply id_stable (P := P) | dsimp only

theorem saveDdr_stable (hP : StableIn P free) {x0 x1 x2} (h2 : P x2) : P (saveDdr x0 x1 x2) := by
  unfold saveDdr
  try dsimp only
  with_reducible repeat' first
      | assumption | intro _ | apply reelReadAll_stable hP | apply ddrWrites_stable hP | apply xferRun_stable hP | split
      | refine snd_stable (by assumption) ?_ | refine fst_stable (by assumption) ?_
      | refine some_stable (by assumption) ?_ | refine some_stable2 (by assumption) ?_
      | refine snd2_stable (by assumption) ?_ | dsimp only

theorem ddrReads_stable (hP : StableIn P free) {x0 x1 x2} (h2 : P x2) : P (ddrReads x0 x1 x2).2 := by
  fun_induction ddrReads x0 x1 x2 <;> (with_reducible repeat' first
      | assumption | intro _ | apply ddrRead_stable hP | apply ite_stable (P := P) | apply ite_snd (P := P) | split
      | refine snd_stable (by assumption) ?_ | refine fst_stable (by assumption) ?_
      | refine some_stable (by assumption) ?_ | refine some_stable2 (by assumption) ?_
      | refine snd2_stable (by assumption) ?_ | refine ‹P _ → P _› ?_ | refine ‹P _ → OptS P _› ?_
      | refine ‹∀ t, P t → OptS P _› _ ?_ | dsimp +zetaDelta only | dsimp only)

theorem State.stores_stable (hP : StableIn P free) {x0 x1 x2} (h0 : P x0) : P (State.stores x0 x1 x2) := by
  fun_induction State.stores x0 x1 x2 <;> (with_reducible repeat' first
      | assumption | intro _ | apply State.store_stable hP | split | refine snd_stable (by assumption) ?_
      | refine fst_stable (by assumption) ?_ | refine some_stable (by assumption) ?_
      | refine some_stable2 (by assumption) ?_ | refine snd2_stable (by assumption) ?_ | refine ‹P _ → P _› ?_
      | refine ‹P _ → OptS P _› ?_ | refine ‹∀ t, P t → OptS P _› _ ?_ | dsimp +zetaDelta only | dsimp only)

theorem reelFill_stable (hP : StableIn P free) {x0 x1 x2} (h2 : P x2) : P (reelFill x0 x1 x2) := by
  unfold reelFill
  try dsimp only
  with_reducible repeat' first
      | assumption | intro _ | apply State.stores_stable hP | dsimp only

theorem loadImage_stable (hP : StableIn P free) {x0 x1 x2 x3} (h3 : P x3) : P (loadImage x0 x1 x2 x3).2 := by
  unfold loadImage
  try dsimp only
  with_reducible repeat' first
      | assumption | intro _ | apply reelFill_stable hP | apply ite_stable (P := P) | apply ite_st (P := P)
      | apply ite_sec (P := P) | apply ite_snd (P := P) | apply ite_snd2 (P := P) | apply ite_fst (P := P)
      | apply OptS.some (P := P) | exact OptS.none | apply OptS2.some (P := P) | exact OptS2.none
      | apply OptS.bind (P := P) | apply OptS.bind2 (P := P) | apply OptS.map (P := P) | apply OptS.map0 (P := P)
      | apply OptS2.map (P := P) | apply OptS.getD (P := P) | apply OptS.ite (P := P) | apply OptS2.ite (P := P)
      | apply id_stable (P := P) | apply foldl_stable (P := P) | apply foldl_stable2 (P := P)
      | apply foldl_stable1 (P := P) | split | refine snd2_stable (by assumption) ?_
      | refine snd_stable (by assumption) ?_ | refine fst_stable (by assumption) ?_
      | refine some_stable (by assumption) ?_ | refine some_stable2 (by assumption) ?_ | dsimp only

theorem loadDdr_stable (hP : StableIn P free) {x0 x1 x2} (h2 : P x2) : P (loadDdr x0 x1 x2) := by
  unfold loadDdr
  try dsimp only
  with_reducible repeat' first
      | assumption | intro _ | apply ddrReads_stable hP | apply xferRun_stable hP | apply loadImage_stable hP
      | apply ite_stable (P := P) | apply ite_st (P := P) | apply ite_sec (P := P) | apply ite_snd (P := P)
      | apply ite_snd2 (P := P) | apply ite_fst (P := P) | apply id_stable (P := P) | dsimp only

end Sys2Proof.Machine
end

