-- ==== Sys2Proof/Laws/Stable3.lean ====
section
/-! SUPPORT. Each operation keeps every property that the elementary writes keep (part 3 of 9). -/

set_option linter.all false
set_option maxRecDepth 4000
set_option linter.unreachableTactic false

namespace Sys2Proof.Machine

variable {P : State → Prop} {free : Bool}

theorem storeFetch_stable (hP : StableIn P free) {x0 x1} (h1 : P x1) : P (storeFetch x0 x1).2 := by
  unfold storeFetch
  try dsimp only
  with_reducible repeat' first
      | assumption | intro _ | apply State.setRecs_stable hP | apply lineRead_stable hP | apply ite_stable (P := P)
      | apply ite_st (P := P) | apply ite_sec (P := P) | apply ite_snd (P := P) | apply ite_snd2 (P := P)
      | apply ite_fst (P := P) | apply OptS.some (P := P) | exact OptS.none | apply OptS2.some (P := P)
      | exact OptS2.none | apply OptS.bind (P := P) | apply OptS.bind2 (P := P) | apply OptS.map (P := P)
      | apply OptS.map0 (P := P) | apply OptS2.map (P := P) | apply OptS.getD (P := P) | apply OptS.ite (P := P)
      | apply OptS2.ite (P := P) | apply id_stable (P := P) | apply foldl_stable (P := P)
      | apply foldl_stable2 (P := P) | apply foldl_stable1 (P := P) | split | refine snd2_stable (by assumption) ?_
      | refine snd_stable (by assumption) ?_ | refine fst_stable (by assumption) ?_
      | refine some_stable (by assumption) ?_ | refine some_stable2 (by assumption) ?_ | dsimp only

theorem State.putRecs_stable (hP : StableIn P free) {x0 x1} (h0 : P x0) : P (State.putRecs x0 x1) := by
  unfold State.putRecs
  try dsimp only
  with_reducible repeat' first
      | assumption | intro _ | apply hP.put | apply State.setRecs_stable hP | dsimp only

theorem voidToken_stable (hP : StableIn P free) {x0 x1} (h1 : P x1) : P (voidToken x0 x1) := by
  unfold voidToken
  try dsimp only
  with_reducible repeat' first
      | assumption | intro _ | apply hP.put | apply State.setBoot_stable hP | apply ite_stable (P := P) | split
      | refine snd_stable (by assumption) ?_ | refine fst_stable (by assumption) ?_
      | refine some_stable (by assumption) ?_ | refine some_stable2 (by assumption) ?_
      | refine snd2_stable (by assumption) ?_ | dsimp only

theorem State.programLine_stable (hP : StableIn P free) {x0 x1 x2} (h0 : P x0) : P (State.programLine x0 x1 x2) := by
  unfold State.programLine
  try dsimp only
  with_reducible repeat' first
      | assumption | intro _ | apply State.stores_stable hP | apply voidToken_stable hP | dsimp only

theorem storeProgramAt_stable (hP : StableIn P free) {x0 x1 x2} (h2 : P x2) : P (storeProgramAt x0 x1 x2) := by
  unfold storeProgramAt
  try dsimp only
  with_reducible repeat' first
      | assumption | intro _ | apply hP.put | apply State.putRecs_stable hP | apply State.inc_stable hP
      | apply State.programLine_stable hP | dsimp only

theorem wearShow_stable (hP : StableIn P free) {x0} (h0 : P x0) : P (wearShow x0) := by
  unfold wearShow
  try dsimp only
  with_reducible repeat' first
      | assumption | intro _ | apply hP.put | apply ite_stable (P := P) | apply ite_st (P := P)
      | apply ite_sec (P := P) | apply ite_snd (P := P) | apply ite_snd2 (P := P) | apply ite_fst (P := P)
      | apply id_stable (P := P) | dsimp only

theorem storeActivate_stable (hP : StableIn P free) {x0} (h0 : P x0) : OptS P (storeActivate x0) := by
  unfold storeActivate
  try dsimp only
  with_reducible repeat' first
      | assumption | intro _ | apply hP.put | apply State.programLine_stable hP | apply State.putRecs_stable hP
      | apply wearShow_stable hP | apply ite_stable (P := P) | apply ite_st (P := P) | apply ite_sec (P := P)
      | apply ite_snd (P := P) | apply ite_snd2 (P := P) | apply ite_fst (P := P) | apply OptS.some (P := P)
      | exact OptS.none | apply OptS2.some (P := P) | exact OptS2.none | apply OptS.bind (P := P)
      | apply OptS.bind2 (P := P) | apply OptS.map (P := P) | apply OptS.map0 (P := P) | apply OptS2.map (P := P)
      | apply OptS.getD (P := P) | apply OptS.ite (P := P) | apply OptS2.ite (P := P) | apply id_stable (P := P)
      | apply foldl_stable (P := P) | apply foldl_stable2 (P := P) | apply foldl_stable1 (P := P) | split
      | refine snd2_stable (by assumption) ?_ | refine snd_stable (by assumption) ?_
      | refine fst_stable (by assumption) ?_ | refine some_stable (by assumption) ?_
      | refine some_stable2 (by assumption) ?_ | dsimp only

theorem storeRoom_stable (hP : StableIn P free) {x0} (h0 : P x0) : OptS P (storeRoom x0) := by
  unfold storeRoom
  try dsimp only
  with_reducible repeat' first
      | assumption | intro _ | apply storeActivate_stable hP | apply ite_stable (P := P) | apply ite_st (P := P)
      | apply ite_sec (P := P) | apply ite_snd (P := P) | apply ite_snd2 (P := P) | apply ite_fst (P := P)
      | apply OptS.some (P := P) | exact OptS.none | apply OptS2.some (P := P) | exact OptS2.none
      | apply OptS.bind (P := P) | apply OptS.bind2 (P := P) | apply OptS.map (P := P) | apply OptS.map0 (P := P)
      | apply OptS2.map (P := P) | apply OptS.getD (P := P) | apply OptS.ite (P := P) | apply OptS2.ite (P := P)
      | apply id_stable (P := P) | dsimp only

theorem storeProgram_stable (hP : StableIn P free) {x0 x1} (h1 : P x1) : OptS P (storeProgram x0 x1) := by
  unfold storeProgram
  try dsimp only
  with_reducible repeat' first
      | assumption | intro _ | apply storeProgramAt_stable hP | apply storeRoom_stable hP | apply ite_stable (P := P)
      | apply ite_st (P := P) | apply ite_sec (P := P) | apply ite_snd (P := P) | apply ite_snd2 (P := P)
      | apply ite_fst (P := P) | apply OptS.some (P := P) | exact OptS.none | apply OptS2.some (P := P)
      | exact OptS2.none | apply OptS.bind (P := P) | apply OptS.bind2 (P := P) | apply OptS.map (P := P)
      | apply OptS.map0 (P := P) | apply OptS2.map (P := P) | apply OptS.getD (P := P) | apply OptS.ite (P := P)
      | apply OptS2.ite (P := P) | apply id_stable (P := P) | apply foldl_stable (P := P)
      | apply foldl_stable2 (P := P) | apply foldl_stable1 (P := P) | split | refine snd2_stable (by assumption) ?_
      | refine snd_stable (by assumption) ?_ | refine fst_stable (by assumption) ?_
      | refine some_stable (by assumption) ?_ | refine some_stable2 (by assumption) ?_ | dsimp only

theorem storeWrite_stable (hP : StableIn P free) {x0 x1 x2} (h2 : P x2) : OptS2 P (storeWrite x0 x1 x2) := by
  unfold storeWrite
  try dsimp only
  with_reducible repeat' first
      | assumption | intro _ | apply storeFetch_stable hP | apply storeProgram_stable hP | apply OptS.some (P := P)
      | exact OptS.none | apply OptS2.some (P := P) | exact OptS2.none | apply OptS.bind (P := P)
      | apply OptS.bind2 (P := P) | apply OptS.map (P := P) | apply OptS.map0 (P := P) | apply OptS2.map (P := P)
      | apply OptS.getD (P := P) | apply OptS.ite (P := P) | apply OptS2.ite (P := P) | dsimp only

theorem writeRecs_stable (hP : StableIn P free) {x0 x1} (h1 : P x1) : P (writeRecs x0 x1).2 := by
  fun_induction writeRecs x0 x1 <;> (with_reducible repeat' first
      | assumption | intro _ | apply storeWrite_stable hP | refine ‹P _ → P _› ?_ | refine ‹P _ → OptS P _› ?_
      | refine ‹∀ t, P t → OptS P _› _ ?_ | apply ite_stable (P := P) | apply ite_st (P := P) | apply ite_sec (P := P)
      | apply ite_snd (P := P) | apply ite_snd2 (P := P) | apply ite_fst (P := P) | apply OptS.some (P := P)
      | exact OptS.none | apply OptS2.some (P := P) | exact OptS2.none | apply OptS.bind (P := P)
      | apply OptS.bind2 (P := P) | apply OptS.map (P := P) | apply OptS.map0 (P := P) | apply OptS2.map (P := P)
      | apply OptS.getD (P := P) | apply OptS.ite (P := P) | apply OptS2.ite (P := P) | apply id_stable (P := P)
      | apply foldl_stable (P := P) | apply foldl_stable2 (P := P) | apply foldl_stable1 (P := P) | split
      | refine snd2_stable (by assumption) ?_ | refine snd_stable (by assumption) ?_
      | refine fst_stable (by assumption) ?_ | refine some_stable (by assumption) ?_
      | refine some_stable2 (by assumption) ?_ | dsimp +zetaDelta only | dsimp only)

theorem saveRec_stable (hP : StableIn P free) {x0 x1 x2} (h2 : P x2) : P (saveRec x0 x1 x2) := by
  unfold saveRec
  try dsimp only
  with_reducible repeat' first
      | assumption | intro _ | apply xferStart_stable hP | apply xferRun_stable hP | apply reelReadAll_stable hP
      | apply writeRecs_stable hP | apply ite_stable (P := P) | apply ite_st (P := P) | apply ite_sec (P := P)
      | apply ite_snd (P := P) | apply ite_snd2 (P := P) | apply ite_fst (P := P) | apply id_stable (P := P)
      | dsimp only

theorem flashShow_stable (hP : StableIn P free) {x0} (h0 : P x0) : P (flashShow x0) := by
  unfold flashShow
  try dsimp only
  with_reducible repeat' first
      | assumption | intro _ | apply hP.put | apply State.putB_stable hP | apply foldl_stable (P := P)
      | apply foldl_stable2 (P := P) | apply foldl_stable1 (P := P) | apply ite_stable (P := P) | dsimp only

theorem settleErases_stable (hP : StableIn P free) {x0} (h0 : P x0) : P (settleErases x0) := by
  unfold settleErases
  try dsimp only
  with_reducible repeat' first
      | assumption | intro _ | apply State.setFlash_stable hP | apply ite_stable (P := P) | apply ite_st (P := P)
      | apply ite_sec (P := P) | apply ite_snd (P := P) | apply ite_snd2 (P := P) | apply ite_fst (P := P)
      | apply OptS.some (P := P) | exact OptS.none | apply OptS2.some (P := P) | exact OptS2.none
      | apply OptS.bind (P := P) | apply OptS.bind2 (P := P) | apply OptS.map (P := P) | apply OptS.map0 (P := P)
      | apply OptS2.map (P := P) | apply OptS.getD (P := P) | apply OptS.ite (P := P) | apply OptS2.ite (P := P)
      | apply id_stable (P := P) | apply foldl_stable (P := P) | apply foldl_stable2 (P := P)
      | apply foldl_stable1 (P := P) | split | refine snd2_stable (by assumption) ?_
      | refine snd_stable (by assumption) ?_ | refine fst_stable (by assumption) ?_
      | refine some_stable (by assumption) ?_ | refine some_stable2 (by assumption) ?_ | dsimp only

theorem State.putFlash_stable (hP : StableIn P free) {x0 x1} (h0 : P x0) : P (State.putFlash x0 x1) := by
  unfold State.putFlash
  try dsimp only
  with_reducible repeat' first
      | assumption | intro _ | apply State.setFlash_stable hP | apply flashShow_stable hP
      | apply settleErases_stable hP | apply ite_stable (P := P) | apply ite_st (P := P) | apply ite_sec (P := P)
      | apply ite_snd (P := P) | apply ite_snd2 (P := P) | apply ite_fst (P := P) | apply id_stable (P := P)
      | dsimp only

theorem recordDone_stable (hP : StableIn P free) {x0 x1 x2 x3 x4 x5 x6 x7} (h7 : P x7) : P (recordDone x0 x1 x2 x3 x4 x5 x6 x7) := by
  unfold recordDone
  try dsimp only
  with_reducible repeat' first
      | assumption | intro _ | apply hP.put | apply State.putB_stable hP | apply State.raise_stable hP | dsimp only

theorem recordReadDone_stable (hP : StableIn P free) {x0 x1} (h1 : P x1) : P (recordReadDone x0 x1) := by
  unfold recordReadDone
  try dsimp only
  with_reducible repeat' first
      | assumption | intro _ | apply hP.put | apply storeFetch_stable hP | apply recordDone_stable hP
      | apply foldl_stable (P := P) | apply foldl_stable2 (P := P) | apply foldl_stable1 (P := P) | dsimp only

theorem State.noRecord_stable (hP : StableIn P free) {x0} (h0 : P x0) : P (State.noRecord x0) := by
  unfold State.noRecord
  try dsimp only
  with_reducible repeat' first
      | assumption | intro _ | apply hP.put | apply State.setRecs_stable hP | apply State.putFlash_stable hP
      | apply ite_stable (P := P) | apply ite_st (P := P) | apply ite_sec (P := P) | apply ite_snd (P := P)
      | apply ite_snd2 (P := P) | apply ite_fst (P := P) | apply id_stable (P := P) | dsimp only

theorem recordEnd_stable (hP : StableIn P free) {x0} (h0 : P x0) : P (recordEnd x0) := by
  unfold recordEnd
  try dsimp only
  with_reducible repeat' first
      | assumption | intro _ | apply hP.put | apply State.putFlash_stable hP | apply storeWrite_stable hP
      | apply recordDone_stable hP | apply recordReadDone_stable hP | apply State.noRecord_stable hP
      | apply ite_stable (P := P) | apply ite_st (P := P) | apply ite_sec (P := P) | apply ite_snd (P := P)
      | apply ite_snd2 (P := P) | apply ite_fst (P := P) | apply OptS.some (P := P) | exact OptS.none
      | apply OptS2.some (P := P) | exact OptS2.none | apply OptS.bind (P := P) | apply OptS.bind2 (P := P)
      | apply OptS.map (P := P) | apply OptS.map0 (P := P) | apply OptS2.map (P := P) | apply OptS.getD (P := P)
      | apply OptS.ite (P := P) | apply OptS2.ite (P := P) | apply id_stable (P := P) | apply foldl_stable (P := P)
      | apply foldl_stable2 (P := P) | apply foldl_stable1 (P := P) | split | refine snd2_stable (by assumption) ?_
      | refine snd_stable (by assumption) ?_ | refine fst_stable (by assumption) ?_
      | refine some_stable (by assumption) ?_ | refine some_stable2 (by assumption) ?_ | dsimp only

theorem storeGet_stable (hP : StableIn P free) {x0 x1} (h1 : P x1) : P (storeGet x0 x1).2 := by
  unfold storeGet
  try dsimp only
  with_reducible repeat' first
      | assumption | intro _ | apply storeFetch_stable hP | apply recordEnd_stable hP | apply ite_stable (P := P)
      | apply ite_st (P := P) | apply ite_sec (P := P) | apply ite_snd (P := P) | apply ite_snd2 (P := P)
      | apply ite_fst (P := P) | apply OptS.some (P := P) | exact OptS.none | apply OptS2.some (P := P)
      | exact OptS2.none | apply OptS.bind (P := P) | apply OptS.bind2 (P := P) | apply OptS.map (P := P)
      | apply OptS.map0 (P := P) | apply OptS2.map (P := P) | apply OptS.getD (P := P) | apply OptS.ite (P := P)
      | apply OptS2.ite (P := P) | apply id_stable (P := P) | apply foldl_stable (P := P)
      | apply foldl_stable2 (P := P) | apply foldl_stable1 (P := P) | split | refine snd2_stable (by assumption) ?_
      | refine snd_stable (by assumption) ?_ | refine fst_stable (by assumption) ?_
      | refine some_stable (by assumption) ?_ | refine some_stable2 (by assumption) ?_ | dsimp only

theorem readRecs_stable (hP : StableIn P free) {x0 x1 x2} (h2 : P x2) : P (readRecs x0 x1 x2).2 := by
  fun_induction readRecs x0 x1 x2 <;> (with_reducible repeat' first
      | assumption | intro _ | apply storeGet_stable hP | split | refine snd_stable (by assumption) ?_
      | refine fst_stable (by assumption) ?_ | refine some_stable (by assumption) ?_
      | refine some_stable2 (by assumption) ?_ | refine snd2_stable (by assumption) ?_ | refine ‹P _ → P _› ?_
      | refine ‹P _ → OptS P _› ?_ | refine ‹∀ t, P t → OptS P _› _ ?_ | dsimp +zetaDelta only | dsimp only)

theorem takeRecs_stable (hP : StableIn P free) {x0 x1 x2} (h2 : P x2) : P (takeRecs x0 x1 x2).2 := by
  unfold takeRecs
  try dsimp only
  with_reducible repeat' first
      | assumption | intro _ | apply readRecs_stable hP | apply loadImage_stable hP | apply ite_stable (P := P)
      | apply ite_st (P := P) | apply ite_sec (P := P) | apply ite_snd (P := P) | apply ite_snd2 (P := P)
      | apply ite_fst (P := P) | apply id_stable (P := P) | dsimp only

theorem loadRec_stable (hP : StableIn P free) {x0 x1 x2} (h2 : P x2) : P (loadRec x0 x1 x2) := by
  unfold loadRec
  try dsimp only
  with_reducible repeat' first
      | assumption | intro _ | apply xferStart_stable hP | apply xferRun_stable hP | apply takeRecs_stable hP
      | apply ite_stable (P := P) | apply ite_st (P := P) | apply ite_sec (P := P) | apply ite_snd (P := P)
      | apply ite_snd2 (P := P) | apply ite_fst (P := P) | apply id_stable (P := P) | dsimp only

theorem zeroReel_stable (hP : StableIn P free) {x0 x1} (h1 : P x1) : P (zeroReel x0 x1) := by
  unfold zeroReel
  try dsimp only
  with_reducible repeat' first
      | assumption | intro _ | apply xferRun_stable hP | apply reelFill_stable hP | dsimp only

theorem reelXfer_stable (hP : StableIn P free) {x0 x1 x2 x3 x4} (h4 : P x4) : P (reelXfer x0 x1 x2 x3 x4) := by
  unfold reelXfer
  try dsimp only
  with_reducible repeat' first
      | assumption | intro _ | apply State.answer_stable hP | apply xferRes_stable hP | apply saveDdr_stable hP
      | apply loadDdr_stable hP | apply saveRec_stable hP | apply loadRec_stable hP | apply zeroReel_stable hP
      | apply ite_stable (P := P) | split | refine snd_stable (by assumption) ?_ | refine fst_stable (by assumption) ?_
      | refine some_stable (by assumption) ?_ | refine some_stable2 (by assumption) ?_
      | refine snd2_stable (by assumption) ?_ | dsimp only

theorem reelXctl_stable (hP : StableIn P free) {x0 x1 x2 x3} (h3 : P x3) : P (reelXctl x0 x1 x2 x3) := by
  unfold reelXctl
  try dsimp only
  with_reducible repeat' first
      | assumption | intro _ | apply reelXfer_stable hP | dsimp only

theorem reelCtrlFields_stable (hP : StableIn P free) {x0 x1 x2} (h2 : P x2) : P (reelCtrlFields x0 x1 x2) := by
  unfold reelCtrlFields
  try dsimp only
  with_reducible repeat' first
      | assumption | intro _ | apply hP.put | apply State.putIf_stable hP | apply ite_stable (P := P) | split
      | dsimp only

theorem reelEnable_stable (hP : StableIn P free) {x0 x1 x2} (h2 : P x2) : P (reelEnable x0 x1 x2) := by
  unfold reelEnable
  try dsimp only
  with_reducible repeat' first
      | assumption | intro _ | apply hP.put | apply State.putReel_stable hP | apply ite_stable (P := P)
      | apply ite_st (P := P) | apply ite_sec (P := P) | apply ite_snd (P := P) | apply ite_snd2 (P := P)
      | apply ite_fst (P := P) | apply OptS.some (P := P) | exact OptS.none | apply OptS2.some (P := P)
      | exact OptS2.none | apply OptS.bind (P := P) | apply OptS.bind2 (P := P) | apply OptS.map (P := P)
      | apply OptS.map0 (P := P) | apply OptS2.map (P := P) | apply OptS.getD (P := P) | apply OptS.ite (P := P)
      | apply OptS2.ite (P := P) | apply id_stable (P := P) | apply foldl_stable (P := P)
      | apply foldl_stable2 (P := P) | apply foldl_stable1 (P := P) | split | refine snd2_stable (by assumption) ?_
      | refine snd_stable (by assumption) ?_ | refine fst_stable (by assumption) ?_
      | refine some_stable (by assumption) ?_ | refine some_stable2 (by assumption) ?_ | dsimp only

theorem reelDisable_stable (hP : StableIn P free) {x0 x1} (h1 : P x1) : P (reelDisable x0 x1) := by
  unfold reelDisable
  try dsimp only
  with_reducible repeat' first
      | assumption | intro _ | apply hP.put | apply State.setReelQ_stable hP | apply State.putReel_stable hP
      | apply ite_stable (P := P) | apply ite_st (P := P) | apply ite_sec (P := P) | apply ite_snd (P := P)
      | apply ite_snd2 (P := P) | apply ite_fst (P := P) | apply id_stable (P := P) | dsimp only

theorem reelRefresh_stable (hP : StableIn P free) {x0 x1} (h1 : P x1) : P (reelRefresh x0 x1) := by
  unfold reelRefresh
  try dsimp only
  with_reducible repeat' first
      | assumption | intro _ | apply hP.put | apply State.putB_stable hP | apply ite_stable (P := P)
      | apply ite_st (P := P) | apply ite_sec (P := P) | apply ite_snd (P := P) | apply ite_snd2 (P := P)
      | apply ite_fst (P := P) | apply id_stable (P := P) | dsimp only

theorem reelCtrlWrite_stable (hP : StableIn P free) {x0 x1 x2 x3} (h3 : P x3) : P (reelCtrlWrite x0 x1 x2 x3) := by
  unfold reelCtrlWrite
  try dsimp only
  with_reducible repeat' first
      | assumption | intro _ | apply State.answer_stable hP | apply reelCtrlFields_stable hP
      | apply State.handOver_stable hP | apply reelEnable_stable hP | apply reelDisable_stable hP
      | apply reelRefresh_stable hP | apply ite_stable (P := P) | dsimp only

theorem reelParWrite_stable (hP : StableIn P free) {x0 x1 x2 x3 x4} (h4 : P x4) : P (reelParWrite x0 x1 x2 x3 x4) := by
  unfold reelParWrite
  try dsimp only
  with_reducible repeat' first
      | assumption | intro _ | apply State.writeReg_stable hP | apply State.answer_stable hP
      | apply reelRefresh_stable hP | apply ite_stable (P := P) | apply ite_st (P := P) | apply ite_sec (P := P)
      | apply ite_snd (P := P) | apply ite_snd2 (P := P) | apply ite_fst (P := P) | apply id_stable (P := P)
      | dsimp only

theorem reelsWrite_stable (hP : StableIn P free) {x0 x1 x2 x3} (h3 : P x3) : P (reelsWrite x0 x1 x2 x3) := by
  unfold reelsWrite
  try dsimp only
  with_reducible repeat' first
      | assumption | intro _ | apply reelXctl_stable hP | apply plainWrite_stable hP | apply reelCtrlWrite_stable hP
      | apply reelParWrite_stable hP | apply ite_stable (P := P) | dsimp only

theorem State.setDdrCap_stable (hP : StableIn P free) {x0 x1} (h0 : P x0) : P (State.setDdrCap x0 x1) := hP.frame (s := x0) rfl rfl rfl (.inr (Nat.le_refl _)) h0

theorem ddrInit_stable (hP : StableIn P free) {x0} (h0 : P x0) : P (ddrInit x0) := by
  unfold ddrInit
  try dsimp only
  with_reducible repeat' first
      | assumption | intro _ | apply hP.put | apply State.setDdrCap_stable hP | apply ite_stable (P := P)
      | apply ite_st (P := P) | apply ite_sec (P := P) | apply ite_snd (P := P) | apply ite_snd2 (P := P)
      | apply ite_fst (P := P) | apply id_stable (P := P) | dsimp only

theorem flashEn_stable (hP : StableIn P free) {x0 x1} (h1 : P x1) : P (flashEn x0 x1) := by
  unfold flashEn
  try dsimp only
  with_reducible repeat' first
      | assumption | intro _ | apply hP.put | apply ite_stable (P := P) | dsimp only

theorem flashQctlWrite_stable (hP : StableIn P free) {x0 x1 x2} (h2 : P x2) : P (flashQctlWrite x0 x1 x2) := by
  unfold flashQctlWrite
  try dsimp only
  with_reducible repeat' first
      | assumption | intro _ | apply hP.put | apply State.answer_stable hP | apply flashEn_stable hP
      | apply ite_stable (P := P) | split | dsimp only

theorem flashQueueWrite_stable (hP : StableIn P free) {x0 x1 x2 x3} (h3 : P x3) : P (flashQueueWrite x0 x1 x2 x3) := by
  unfold flashQueueWrite
  try dsimp only
  with_reducible repeat' first
      | assumption | intro _ | apply hP.wr | apply State.answer_stable hP | apply State.writeReg_stable hP
      | apply ite_stable (P := P) | dsimp only

theorem maintWrite_stable (hP : StableIn P free) {x0 x1 x2} (h2 : P x2) : P (maintWrite x0 x1 x2) := by
  unfold maintWrite
  try dsimp only
  with_reducible repeat' first
      | assumption | intro _ | apply hP.put | apply State.putFlash_stable hP | apply State.writeReg_stable hP
      | apply State.answer_stable hP | apply ite_stable (P := P) | apply ite_st (P := P) | apply ite_sec (P := P)
      | apply ite_snd (P := P) | apply ite_snd2 (P := P) | apply ite_fst (P := P) | apply id_stable (P := P)
      | dsimp only

theorem recordFields_stable (hP : StableIn P free) {x0 x1} (h1 : P x1) : P (recordFields x0 x1) := by
  unfold recordFields
  try dsimp only
  with_reducible repeat' first
      | assumption | intro _ | apply hP.put | apply State.putIf_stable hP | apply ite_stable (P := P) | split
      | dsimp only

theorem recordCommand_stable (hP : StableIn P free) {x0 x1} (h1 : P x1) : P (recordCommand x0 x1) := by
  unfold recordCommand
  try dsimp only
  with_reducible repeat' first
      | assumption | intro _ | apply hP.put | apply State.setRecs_stable hP | apply State.putFlash_stable hP
      | apply recordDone_stable hP | apply ite_stable (P := P) | apply ite_st (P := P) | apply ite_sec (P := P)
      | apply ite_snd (P := P) | apply ite_snd2 (P := P) | apply ite_fst (P := P) | apply OptS.some (P := P)
      | exact OptS.none | apply OptS2.some (P := P) | exact OptS2.none | apply OptS.bind (P := P)
      | apply OptS.bind2 (P := P) | apply OptS.map (P := P) | apply OptS.map0 (P := P) | apply OptS2.map (P := P)
      | apply OptS.getD (P := P) | apply OptS.ite (P := P) | apply OptS2.ite (P := P) | apply id_stable (P := P)
      | apply foldl_stable (P := P) | apply foldl_stable2 (P := P) | apply foldl_stable1 (P := P) | split
      | refine snd2_stable (by assumption) ?_ | refine snd_stable (by assumption) ?_
      | refine fst_stable (by assumption) ?_ | refine some_stable (by assumption) ?_
      | refine some_stable2 (by assumption) ?_ | dsimp only

theorem recordCtlWrite_stable (hP : StableIn P free) {x0 x1 x2} (h2 : P x2) : P (recordCtlWrite x0 x1 x2) := by
  unfold recordCtlWrite
  try dsimp only
  with_reducible repeat' first
      | assumption | intro _ | apply hP.put | apply State.answer_stable hP | apply recordFields_stable hP
      | apply recordCommand_stable hP | apply ite_stable (P := P) | dsimp only

theorem recordBufWrite_stable (hP : StableIn P free) {x0 x1 x2 x3} (h3 : P x3) : P (recordBufWrite x0 x1 x2 x3) := by
  unfold recordBufWrite
  try dsimp only
  with_reducible repeat' first
      | assumption | intro _ | apply hP.wr | apply State.answer_stable hP | apply State.writeReg_stable hP
      | apply ite_stable (P := P) | dsimp only

theorem rdpResult_stable (hP : StableIn P free) {x0 x1 x2} (h2 : P x2) : P (rdpResult x0 x1 x2) := by
  unfold rdpResult
  try dsimp only
  with_reducible repeat' first
      | assumption | intro _ | apply hP.put | dsimp only

theorem levelShow_stable (hP : StableIn P free) {x0} (h0 : P x0) : P (levelShow x0) := by
  unfold levelShow
  try dsimp only
  with_reducible repeat' first
      | assumption | intro _ | apply hP.put | apply State.putB_stable hP | dsimp only

theorem setLevel'_stable (hP : StableIn P free) {x0 x1} (h1 : P x1) : P (setLevel' x0 x1) := by
  unfold setLevel'
  try dsimp only
  with_reducible repeat' first
      | assumption | intro _ | apply hP.put | apply State.setOtp_stable hP | apply levelShow_stable hP
      | apply haltShow_stable hP | apply ite_stable (P := P) | apply ite_st (P := P) | apply ite_sec (P := P)
      | apply ite_snd (P := P) | apply ite_snd2 (P := P) | apply ite_fst (P := P) | apply id_stable (P := P)
      | dsimp only

theorem holdAll_stable (hP : StableIn P free) {x0} (h0 : P x0) : P (holdAll x0) := by
  unfold holdAll
  try dsimp only
  with_reducible repeat' first
      | assumption | intro _ | apply hP.put | apply State.putEng_stable hP | apply State.putCoreState_stable hP
      | apply coreClear_stable hP | apply engEnter_stable hP | apply engFlags_stable hP | apply ite_stable (P := P)
      | apply ite_st (P := P) | apply ite_sec (P := P) | apply ite_snd (P := P) | apply ite_snd2 (P := P)
      | apply ite_fst (P := P) | apply OptS.some (P := P) | exact OptS.none | apply OptS2.some (P := P)
      | exact OptS2.none | apply OptS.bind (P := P) | apply OptS.bind2 (P := P) | apply OptS.map (P := P)
      | apply OptS.map0 (P := P) | apply OptS2.map (P := P) | apply OptS.getD (P := P) | apply OptS.ite (P := P)
      | apply OptS2.ite (P := P) | apply id_stable (P := P) | apply foldl_stable (P := P)
      | apply foldl_stable2 (P := P) | apply foldl_stable1 (P := P) | split | refine snd2_stable (by assumption) ?_
      | refine snd_stable (by assumption) ?_ | refine fst_stable (by assumption) ?_
      | refine some_stable (by assumption) ?_ | refine some_stable2 (by assumption) ?_ | dsimp only

theorem State.raiseIf_stable (hP : StableIn P free) {x0 x1 x2} (h0 : P x0) : P (State.raiseIf x0 x1 x2) := by
  unfold State.raiseIf
  try dsimp only
  with_reducible repeat' first
      | assumption | intro _ | apply State.raise_stable hP | apply ite_stable (P := P) | dsimp only

theorem flashComplete_stable (hP : StableIn P free) {x0 x1 x2} (h2 : P x2) : P (flashComplete x0 x1 x2) := by
  unfold flashComplete
  try dsimp only
  with_reducible repeat' first
      | assumption | intro _ | apply bankWrite_stable hP | apply State.raiseIf_stable hP | apply ite_stable (P := P)
      | dsimp only

theorem flashBusy_stable (hP : StableIn P free) {x0 x1} (h1 : P x1) : P (flashBusy x0 x1) := by
  unfold flashBusy
  try dsimp only
  with_reducible repeat' first
      | assumption | intro _ | apply flashComplete_stable hP | apply ite_stable (P := P) | apply ite_st (P := P)
      | apply ite_sec (P := P) | apply ite_snd (P := P) | apply ite_snd2 (P := P) | apply ite_fst (P := P)
      | apply id_stable (P := P) | dsimp only

theorem wipeBusy_stable (hP : StableIn P free) {x0} (h0 : P x0) : P (wipeBusy x0) := by
  unfold wipeBusy
  try dsimp only
  with_reducible repeat' first
      | assumption | intro _ | apply recordDone_stable hP | apply flashBusy_stable hP | apply ite_stable (P := P)
      | apply ite_st (P := P) | apply ite_sec (P := P) | apply ite_snd (P := P) | apply ite_snd2 (P := P)
      | apply ite_fst (P := P) | apply OptS.some (P := P) | exact OptS.none | apply OptS2.some (P := P)
      | exact OptS2.none | apply OptS.bind (P := P) | apply OptS.bind2 (P := P) | apply OptS.map (P := P)
      | apply OptS.map0 (P := P) | apply OptS2.map (P := P) | apply OptS.getD (P := P) | apply OptS.ite (P := P)
      | apply OptS2.ite (P := P) | apply id_stable (P := P) | apply foldl_stable (P := P)
      | apply foldl_stable2 (P := P) | apply foldl_stable1 (P := P) | split | refine snd2_stable (by assumption) ?_
      | refine snd_stable (by assumption) ?_ | refine fst_stable (by assumption) ?_
      | refine some_stable (by assumption) ?_ | refine some_stable2 (by assumption) ?_ | dsimp only

theorem clearMem_stable (hP : StableIn P free) {x0 x1 x2} (h2 : P x2) : P (clearMem x0 x1 x2) := by
  unfold clearMem
  try dsimp only
  with_reducible repeat' first
      | assumption | intro _ | apply State.setMarks_stable hP | apply hP.mem | dsimp only

theorem pfLatch_stable (hP : StableIn P free) {x0 x1} (h1 : P x1) : P (pfLatch x0 x1) := by
  unfold pfLatch
  try dsimp only
  with_reducible repeat' first
      | assumption | intro _ | apply hP.put | apply State.putB_stable hP | apply ite_stable (P := P)
      | apply ite_st (P := P) | apply ite_sec (P := P) | apply ite_snd (P := P) | apply ite_snd2 (P := P)
      | apply ite_fst (P := P) | apply id_stable (P := P) | dsimp only

theorem pfSync_stable (hP : StableIn P free) {x0 x1} (h1 : P x1) : P (pfSync x0 x1) := by
  unfold pfSync
  try dsimp only
  with_reducible repeat' first
      | assumption | intro _ | apply pfLatch_stable hP | apply ite_stable (P := P) | dsimp only

theorem posRead_stable (hP : StableIn P free) {x0 x1 x2} (h2 : P x2) : P (posRead x0 x1 x2) := by
  unfold posRead
  try dsimp only
  with_reducible repeat' first
      | assumption | intro _ | apply hP.put | apply State.putPf_stable hP | apply pfLatch_stable hP
      | apply State.answer_stable hP | apply ite_stable (P := P) | apply ite_st (P := P) | apply ite_sec (P := P)
      | apply ite_snd (P := P) | apply ite_snd2 (P := P) | apply ite_fst (P := P) | apply id_stable (P := P)
      | dsimp only

theorem serialShow_stable (hP : StableIn P free) {x0 x1} (h1 : P x1) : P (serialShow x0 x1) := by
  unfold serialShow
  try dsimp only
  with_reducible repeat' first
      | assumption | intro _ | apply hP.put | apply State.putB_stable hP | dsimp only

theorem putSerials_stable (hP : StableIn P free) {x0 x1 x2} (h2 : P x2) : P (putSerials x0 x1 x2) := by
  unfold putSerials
  try dsimp only
  with_reducible repeat' first
      | assumption | intro _ | apply hP.put | apply serialShow_stable hP | apply State.putSerial_stable hP | dsimp only

theorem serialRead_stable (hP : StableIn P free) {x0 x1} (h1 : P x1) : P (serialRead x0 x1).2 := by
  unfold serialRead
  try dsimp only
  with_reducible repeat' first
      | assumption | intro _ | apply hP.put | apply putSerials_stable hP | split | refine snd_stable (by assumption) ?_
      | refine fst_stable (by assumption) ?_ | refine some_stable (by assumption) ?_
      | refine some_stable2 (by assumption) ?_ | refine snd2_stable (by assumption) ?_ | dsimp only

theorem regAfter_stable (hP : StableIn P free) {x0 x1 x2} (h2 : P x2) : P (regAfter x0 x1 x2) := by
  unfold regAfter
  try dsimp only
  with_reducible repeat' first
      | assumption | intro _ | apply catchUp_stable hP | apply pfSync_stable hP | apply posRead_stable hP
      | apply gafShow_stable hP | apply serialRead_stable hP | apply reelRefresh_stable hP
      | apply State.zoneRefresh_stable hP | apply ite_stable (P := P) | apply ite_st (P := P) | apply ite_sec (P := P)
      | apply ite_snd (P := P) | apply ite_snd2 (P := P) | apply ite_fst (P := P) | apply id_stable (P := P)
      | dsimp only

theorem engRead_stable (hP : StableIn P free) {x0 x1 x2} (h2 : P x2) : P (engRead x0 x1 x2).st := by
  unfold engRead
  try dsimp only
  with_reducible repeat' first
      | assumption | intro _ | apply engFix_stable hP | apply ite_stable (P := P) | apply ite_st (P := P)
      | apply ite_sec (P := P) | dsimp only

theorem reelRead_stable (hP : StableIn P free) {x0 x1} (h1 : P x1) : P (reelRead x0 x1).st := by
  unfold reelRead
  try dsimp only
  with_reducible repeat' first
      | assumption | intro _ | apply reelMeet_stable hP | apply ite_stable (P := P) | apply ite_st (P := P)
      | apply ite_sec (P := P) | dsimp only

theorem readAt_stable (hP : StableIn P free) {x0 x1 x2} (h2 : P x2) : P (readAt x0 x1 x2).st := by
  unfold readAt
  try dsimp only
  with_reducible repeat' first
      | assumption | intro _ | apply bankFetch_stable hP | apply bankRead_stable hP | apply regAfter_stable hP
      | apply engRead_stable hP | apply reelRead_stable hP | apply ddrRead_stable hP | apply flashRead_stable hP
      | apply ite_stable (P := P) | apply ite_st (P := P) | apply ite_sec (P := P) | apply ite_snd (P := P)
      | apply ite_snd2 (P := P) | apply ite_fst (P := P) | apply OptS.some (P := P) | exact OptS.none
      | apply OptS2.some (P := P) | exact OptS2.none | apply OptS.bind (P := P) | apply OptS.bind2 (P := P)
      | apply OptS.map (P := P) | apply OptS.map0 (P := P) | apply OptS2.map (P := P) | apply OptS.getD (P := P)
      | apply OptS.ite (P := P) | apply OptS2.ite (P := P) | apply id_stable (P := P) | apply foldl_stable (P := P)
      | apply foldl_stable2 (P := P) | apply foldl_stable1 (P := P) | split | refine snd2_stable (by assumption) ?_
      | refine snd_stable (by assumption) ?_ | refine fst_stable (by assumption) ?_
      | refine some_stable (by assumption) ?_ | refine some_stable2 (by assumption) ?_ | dsimp only

theorem busGet_stable (hP : StableIn P free) {x0 x1 x2} (h2 : P x2) : P (busGet x0 x1 x2).st := by
  unfold busGet
  try dsimp only
  with_reducible repeat' first
      | assumption | intro _ | apply readAt_stable hP | apply restartFor_stable hP | apply ite_stable (P := P)
      | apply ite_st (P := P) | apply ite_sec (P := P) | dsimp only

theorem accessed_stable (hP : StableIn P free) {x0 x1 x2 x3} (h3 : P x3) : P (accessed x0 x1 x2 x3) := by
  unfold accessed
  try dsimp only
  with_reducible repeat' first
      | assumption | intro _ | apply pass_stable hP | apply ite_stable (P := P) | apply ite_st (P := P)
      | apply ite_sec (P := P) | apply ite_snd (P := P) | apply ite_snd2 (P := P) | apply ite_fst (P := P)
      | apply id_stable (P := P) | dsimp only

theorem holdAccess_stable (hP : StableIn P free) {x0 x1 x2 x3} (h3 : P x3) : P (holdAccess x0 x1 x2 x3) := by
  unfold holdAccess
  try dsimp only
  with_reducible repeat' first
      | assumption | intro _ | apply State.setHeld_stable hP | dsimp only

theorem coreHold_stable (hP : StableIn P free) {x0 x1 x2} (h2 : P x2) : P (coreHold x0 x1 x2) := by
  unfold coreHold
  try dsimp only
  with_reducible repeat' first
      | assumption | intro _ | apply hP.put | apply holdAccess_stable hP | apply State.putCore_stable hP | dsimp only

theorem wipeFlash_stable (hP : StableIn P free) {x0} (h0 : P x0) : P (wipeFlash x0) := by
  unfold wipeFlash
  try dsimp only
  with_reducible repeat' first
      | assumption | intro _ | apply hP.put | apply State.setRecs_stable hP | apply dirty_stable hP
      | apply State.putFlash_stable hP | apply clearMem_stable hP | apply wearShow_stable hP
      | apply ite_stable (P := P) | apply ite_st (P := P) | apply ite_sec (P := P) | apply ite_snd (P := P)
      | apply ite_snd2 (P := P) | apply ite_fst (P := P) | apply OptS.some (P := P) | exact OptS.none
      | apply OptS2.some (P := P) | exact OptS2.none | apply OptS.bind (P := P) | apply OptS.bind2 (P := P)
      | apply OptS.map (P := P) | apply OptS.map0 (P := P) | apply OptS2.map (P := P) | apply OptS.getD (P := P)
      | apply OptS.ite (P := P) | apply OptS2.ite (P := P) | apply id_stable (P := P) | apply foldl_stable (P := P)
      | apply foldl_stable2 (P := P) | apply foldl_stable1 (P := P) | split | refine snd2_stable (by assumption) ?_
      | refine snd_stable (by assumption) ?_ | refine fst_stable (by assumption) ?_
      | refine some_stable (by assumption) ?_ | refine some_stable2 (by assumption) ?_ | dsimp only

theorem wipeMem_stable (hP : StableIn P free) {x0} (h0 : P x0) : P (wipeMem x0) := by
  unfold wipeMem
  try dsimp only
  with_reducible repeat' first
      | assumption | intro _ | apply State.setEngNeg_stable hP | apply clearMem_stable hP | apply ite_stable (P := P)
      | dsimp only

theorem wipeSteps_stable (hP : StableIn P free) {x0} (h0 : P x0) : P (wipeSteps x0) := by
  unfold wipeSteps
  try dsimp only
  with_reducible repeat' first
      | assumption | intro _ | apply hP.put | apply State.setBoot_stable hP | apply cutHost_stable hP
      | apply holdAll_stable hP | apply wipeBusy_stable hP | apply wipeFlash_stable hP | apply wipeMem_stable hP
      | apply ite_stable (P := P) | apply ite_st (P := P) | apply ite_sec (P := P) | apply ite_snd (P := P)
      | apply ite_snd2 (P := P) | apply ite_fst (P := P) | apply id_stable (P := P) | dsimp only

theorem rdpCommand_stable (hP : StableIn P free) {x0 x1 x2} (h2 : P x2) : P (rdpCommand x0 x1 x2) := by
  unfold rdpCommand
  try dsimp only
  with_reducible repeat' first
      | assumption | intro _ | apply State.answer_stable hP | apply rdpResult_stable hP | apply setLevel'_stable hP
      | apply wipeSteps_stable hP | apply ite_stable (P := P) | split | refine snd_stable (by assumption) ?_
      | refine fst_stable (by assumption) ?_ | refine some_stable (by assumption) ?_
      | refine some_stable2 (by assumption) ?_ | refine snd2_stable (by assumption) ?_ | dsimp only

theorem flashRegWrite_stable (hP : StableIn P free) {x0 x1 x2 x3} (h3 : P x3) : P (flashRegWrite x0 x1 x2 x3) := by
  unfold flashRegWrite
  try dsimp only
  with_reducible repeat' first
      | assumption | intro _ | apply plainWrite_stable hP | apply flashQctlWrite_stable hP
      | apply flashQueueWrite_stable hP | apply maintWrite_stable hP | apply recordCtlWrite_stable hP
      | apply recordBufWrite_stable hP | apply rdpCommand_stable hP | apply ite_stable (P := P)
      | apply ite_st (P := P) | apply ite_sec (P := P) | apply ite_snd (P := P) | apply ite_snd2 (P := P)
      | apply ite_fst (P := P) | apply OptS.some (P := P) | exact OptS.none | apply OptS2.some (P := P)
      | exact OptS2.none | apply OptS.bind (P := P) | apply OptS.bind2 (P := P) | apply OptS.map (P := P)
      | apply OptS.map0 (P := P) | apply OptS2.map (P := P) | apply OptS.getD (P := P) | apply OptS.ite (P := P)
      | apply OptS2.ite (P := P) | apply id_stable (P := P) | apply foldl_stable (P := P)
      | apply foldl_stable2 (P := P) | apply foldl_stable1 (P := P) | split | refine snd2_stable (by assumption) ?_
      | refine snd_stable (by assumption) ?_ | refine fst_stable (by assumption) ?_
      | refine some_stable (by assumption) ?_ | refine some_stable2 (by assumption) ?_ | dsimp only

theorem respondLocal_stable (hP : StableIn P free) {x0 x1 x2} (h2 : P x2) : P (respondLocal x0 x1 x2) := by
  unfold respondLocal
  try dsimp only
  with_reducible repeat' first
      | assumption | intro _ | apply hP.put | apply bankWrites_stable hP | apply State.raise_stable hP
      | apply ite_stable (P := P) | apply ite_st (P := P) | apply ite_sec (P := P) | apply ite_snd (P := P)
      | apply ite_snd2 (P := P) | apply ite_fst (P := P) | apply id_stable (P := P) | dsimp only

theorem emit_stable (hP : StableIn P free) {x0 x1 x2} (h2 : P x2) : P (emit x0 x1 x2) := by
  unfold emit
  try dsimp only
  with_reducible repeat' first
      | assumption | intro _ | apply State.setSlateOut_stable hP | apply State.draw_stable hP
      | apply ite_stable (P := P) | apply ite_st (P := P) | apply ite_sec (P := P) | apply ite_snd (P := P)
      | apply ite_snd2 (P := P) | apply ite_fst (P := P) | apply id_stable (P := P) | dsimp only

theorem sendPlain_stable (hP : StableIn P free) {x0 x1 x2 x3} (h3 : P x3) : P (sendPlain x0 x1 x2 x3) := by
  unfold sendPlain
  try dsimp only
  with_reducible repeat' first
      | assumption | intro _ | apply respondLocal_stable hP | apply emit_stable hP | apply ite_stable (P := P)
      | apply ite_st (P := P) | apply ite_sec (P := P) | apply ite_snd (P := P) | apply ite_snd2 (P := P)
      | apply ite_fst (P := P) | apply id_stable (P := P) | dsimp only

theorem sendIn_stable (hP : StableIn P free) {x0 x1 x2 x3 x4 x5 x6} (h6 : P x6) : P (sendIn x0 x1 x2 x3 x4 x5 x6) := by
  unfold sendIn
  try dsimp only
  with_reducible repeat' first
      | assumption | intro _ | apply hP.put | apply State.putSession_stable hP | apply emit_stable hP
      | apply ite_stable (P := P) | apply ite_st (P := P) | apply ite_sec (P := P) | apply ite_snd (P := P)
      | apply ite_snd2 (P := P) | apply ite_fst (P := P) | apply OptS.some (P := P) | exact OptS.none
      | apply OptS2.some (P := P) | exact OptS2.none | apply OptS.bind (P := P) | apply OptS.bind2 (P := P)
      | apply OptS.map (P := P) | apply OptS.map0 (P := P) | apply OptS2.map (P := P) | apply OptS.getD (P := P)
      | apply OptS.ite (P := P) | apply OptS2.ite (P := P) | apply id_stable (P := P) | apply foldl_stable (P := P)
      | apply foldl_stable2 (P := P) | apply foldl_stable1 (P := P) | split | refine snd2_stable (by assumption) ?_
      | refine snd_stable (by assumption) ?_ | refine fst_stable (by assumption) ?_
      | refine some_stable (by assumption) ?_ | refine some_stable2 (by assumption) ?_ | dsimp only

theorem respond_stable (hP : StableIn P free) {x0 x1 x2 x3 x4} (h4 : P x4) : P (respond x0 x1 x2 x3 x4) := by
  unfold respond
  try dsimp only
  with_reducible repeat' first
      | assumption | intro _ | apply hP.put | apply State.setLink_stable hP | apply State.putSession_stable hP
      | apply sendPlain_stable hP | apply sendIn_stable hP | apply ite_stable (P := P) | apply ite_st (P := P)
      | apply ite_sec (P := P) | apply ite_snd (P := P) | apply ite_snd2 (P := P) | apply ite_fst (P := P)
      | apply OptS.some (P := P) | exact OptS.none | apply OptS2.some (P := P) | exact OptS2.none
      | apply OptS.bind (P := P) | apply OptS.bind2 (P := P) | apply OptS.map (P := P) | apply OptS.map0 (P := P)
      | apply OptS2.map (P := P) | apply OptS.getD (P := P) | apply OptS.ite (P := P) | apply OptS2.ite (P := P)
      | apply id_stable (P := P) | apply foldl_stable (P := P) | apply foldl_stable2 (P := P)
      | apply foldl_stable1 (P := P) | split | refine snd2_stable (by assumption) ?_
      | refine snd_stable (by assumption) ?_ | refine fst_stable (by assumption) ?_
      | refine some_stable (by assumption) ?_ | refine some_stable2 (by assumption) ?_ | dsimp only

theorem State.setRun_stable (hP : StableIn P free) {x0 x1} (h0 : P x0) : P (State.setRun x0 x1) := by
  unfold State.setRun
  try dsimp only
  with_reducible repeat' first
      | assumption | intro _ | apply State.setLink_stable hP | dsimp only

theorem State.setCutRun_stable (hP : StableIn P free) {x0 x1} (h0 : P x0) : P (State.setCutRun x0 x1) := by
  unfold State.setCutRun
  try dsimp only
  with_reducible repeat' first
      | assumption | intro _ | apply State.setLink_stable hP | apply ite_stable (P := P) | apply ite_st (P := P)
      | apply ite_sec (P := P) | apply ite_snd (P := P) | apply ite_snd2 (P := P) | apply ite_fst (P := P)
      | apply id_stable (P := P) | dsimp only

theorem slateTake_stable (hP : StableIn P free) {x0 x1} (h1 : P x1) : P (slateTake x0 x1) := by
  unfold slateTake
  try dsimp only
  with_reducible repeat' first
      | assumption | intro _ | apply hP.put | apply State.setRun_stable hP | apply State.setCutRun_stable hP
      | apply respond_stable hP | apply ite_stable (P := P) | apply ite_st (P := P) | apply ite_sec (P := P)
      | apply ite_snd (P := P) | apply ite_snd2 (P := P) | apply ite_fst (P := P) | apply OptS.some (P := P)
      | exact OptS.none | apply OptS2.some (P := P) | exact OptS2.none | apply OptS.bind (P := P)
      | apply OptS.bind2 (P := P) | apply OptS.map (P := P) | apply OptS.map0 (P := P) | apply OptS2.map (P := P)
      | apply OptS.getD (P := P) | apply OptS.ite (P := P) | apply OptS2.ite (P := P) | apply id_stable (P := P)
      | apply foldl_stable (P := P) | apply foldl_stable2 (P := P) | apply foldl_stable1 (P := P) | split
      | refine snd2_stable (by assumption) ?_ | refine snd_stable (by assumption) ?_
      | refine fst_stable (by assumption) ?_ | refine some_stable (by assumption) ?_
      | refine some_stable2 (by assumption) ?_ | dsimp only

theorem badFrame_stable (hP : StableIn P free) {x0} (h0 : P x0) : P (badFrame x0) := by
  unfold badFrame
  try dsimp only
  with_reducible repeat' first
      | assumption | intro _ | apply State.incSat_stable hP | dsimp only

theorem localDrop_stable (hP : StableIn P free) {x0} (h0 : P x0) : P (localDrop x0) := by
  unfold localDrop
  try dsimp only
  with_reducible repeat' first
      | assumption | intro _ | apply hP.put | apply State.raise_stable hP | apply badFrame_stable hP | dsimp only

theorem localGo_stable (hP : StableIn P free) {x0} (h0 : P x0) : P (localGo x0) := by
  unfold localGo
  try dsimp only
  with_reducible repeat' first
      | assumption | intro _ | apply hP.put | apply bankReads_stable hP | apply respond_stable hP
      | apply slateTake_stable hP | apply localDrop_stable hP | apply ite_stable (P := P) | apply ite_st (P := P)
      | apply ite_sec (P := P) | apply ite_snd (P := P) | apply ite_snd2 (P := P) | apply ite_fst (P := P)
      | apply OptS.some (P := P) | exact OptS.none | apply OptS2.some (P := P) | exact OptS2.none
      | apply OptS.bind (P := P) | apply OptS.bind2 (P := P) | apply OptS.map (P := P) | apply OptS.map0 (P := P)
      | apply OptS2.map (P := P) | apply OptS.getD (P := P) | apply OptS.ite (P := P) | apply OptS2.ite (P := P)
      | apply id_stable (P := P) | apply foldl_stable (P := P) | apply foldl_stable2 (P := P)
      | apply foldl_stable1 (P := P) | split | refine snd2_stable (by assumption) ?_
      | refine snd_stable (by assumption) ?_ | refine fst_stable (by assumption) ?_
      | refine some_stable (by assumption) ?_ | refine some_stable2 (by assumption) ?_ | dsimp only

theorem localCtlWrite_stable (hP : StableIn P free) {x0 x1 x2} (h2 : P x2) : P (localCtlWrite x0 x1 x2) := by
  unfold localCtlWrite
  try dsimp only
  with_reducible repeat' first
      | assumption | intro _ | apply hP.put | apply State.answer_stable hP | apply localGo_stable hP
      | apply ite_stable (P := P) | apply ite_st (P := P) | apply ite_sec (P := P) | apply ite_snd (P := P)
      | apply ite_snd2 (P := P) | apply ite_fst (P := P) | apply id_stable (P := P) | dsimp only

theorem localBufWrite_stable (hP : StableIn P free) {x0 x1 x2} (h2 : P x2) : P (localBufWrite x0 x1 x2) := by
  unfold localBufWrite
  try dsimp only
  with_reducible repeat' first
      | assumption | intro _ | apply hP.put | apply State.answer_stable hP | apply ite_stable (P := P) | dsimp only

theorem macCtrlWrite_stable (hP : StableIn P free) {x0 x1 x2 x3} (h3 : P x3) : P (macCtrlWrite x0 x1 x2 x3) := by
  unfold macCtrlWrite
  try dsimp only
  with_reducible repeat' first
      | assumption | intro _ | apply hP.put | apply hP.wr | apply State.writeReg_stable hP
      | apply State.answer_stable hP | apply State.putFeature_stable hP | dsimp only

theorem mdioWrite_stable (hP : StableIn P free) {x0 x1 x2 x3} (h3 : P x3) : P (mdioWrite x0 x1 x2 x3) := by
  unfold mdioWrite
  try dsimp only
  with_reducible repeat' first
      | assumption | intro _ | apply hP.put | apply State.setLink_stable hP | apply State.writeReg_stable hP
      | apply State.answer_stable hP | apply ite_stable (P := P) | apply ite_st (P := P) | apply ite_sec (P := P)
      | apply ite_snd (P := P) | apply ite_snd2 (P := P) | apply ite_fst (P := P) | apply id_stable (P := P)
      | dsimp only

theorem ethWrite_stable (hP : StableIn P free) {x0 x1 x2 x3} (h3 : P x3) : P (ethWrite x0 x1 x2 x3) := by
  unfold ethWrite
  try dsimp only
  with_reducible repeat' first
      | assumption | intro _ | apply State.answer_stable hP | apply plainWrite_stable hP | apply localCtlWrite_stable hP
      | apply localBufWrite_stable hP | apply macCtrlWrite_stable hP | apply mdioWrite_stable hP
      | apply ite_stable (P := P) | split | refine snd_stable (by assumption) ?_ | refine fst_stable (by assumption) ?_
      | refine some_stable (by assumption) ?_ | refine some_stable2 (by assumption) ?_
      | refine snd2_stable (by assumption) ?_ | dsimp only

theorem canEnable_stable (hP : StableIn P free) {x0 x1 x2} (h2 : P x2) : P (canEnable x0 x1 x2) := by
  unfold canEnable
  try dsimp only
  with_reducible repeat' first
      | assumption | intro _ | apply hP.put | apply State.enableFeature_stable hP | apply ite_stable (P := P)
      | apply ite_st (P := P) | apply ite_sec (P := P) | apply ite_snd (P := P) | apply ite_snd2 (P := P)
      | apply ite_fst (P := P) | apply id_stable (P := P) | dsimp only

theorem setPart_stable (hP : StableIn P free) {x0 x1 x2} (h2 : P x2) : P (setPart x0 x1 x2) := by
  unfold setPart
  try dsimp only
  with_reducible repeat' first
      | assumption | intro _ | apply State.setLink_stable hP | dsimp only

theorem canDisable_stable (hP : StableIn P free) {x0 x1} (h1 : P x1) : P (canDisable x0 x1) := by
  unfold canDisable
  try dsimp only
  with_reducible repeat' first
      | assumption | intro _ | apply hP.put | apply setPart_stable hP | apply State.disableFeature_stable hP
      | dsimp only

theorem canCtrlWrite_stable (hP : StableIn P free) {x0 x1 x2 x3} (h3 : P x3) : P (canCtrlWrite x0 x1 x2 x3) := by
  unfold canCtrlWrite
  try dsimp only
  with_reducible repeat' first
      | assumption | intro _ | apply hP.put | apply State.dropConflict_stable hP | apply canEnable_stable hP
      | apply canDisable_stable hP | apply State.answer_stable hP | apply State.handOver_stable hP
      | apply ite_stable (P := P) | apply ite_st (P := P) | apply ite_sec (P := P) | apply ite_snd (P := P)
      | apply ite_snd2 (P := P) | apply ite_fst (P := P) | apply id_stable (P := P) | dsimp only

theorem canRegWrite_stable (hP : StableIn P free) {x0 x1 x2 x3 x4} (h4 : P x4) : P (canRegWrite x0 x1 x2 x3 x4) := by
  unfold canRegWrite
  try dsimp only
  with_reducible repeat' first
      | assumption | intro _ | apply hP.wr | apply State.answer_stable hP | apply State.writeReg_stable hP
      | apply ite_stable (P := P) | dsimp only

theorem canWrite_stable (hP : StableIn P free) {x0 x1 x2 x3} (h3 : P x3) : P (canWrite x0 x1 x2 x3) := by
  unfold canWrite
  try dsimp only
  with_reducible repeat' first
      | assumption | intro _ | apply plainWrite_stable hP | apply canCtrlWrite_stable hP | apply canRegWrite_stable hP
      | apply ite_stable (P := P) | apply ite_st (P := P) | apply ite_sec (P := P) | apply ite_snd (P := P)
      | apply ite_snd2 (P := P) | apply ite_fst (P := P) | apply OptS.some (P := P) | exact OptS.none
      | apply OptS2.some (P := P) | exact OptS2.none | apply OptS.bind (P := P) | apply OptS.bind2 (P := P)
      | apply OptS.map (P := P) | apply OptS.map0 (P := P) | apply OptS2.map (P := P) | apply OptS.getD (P := P)
      | apply OptS.ite (P := P) | apply OptS2.ite (P := P) | apply id_stable (P := P) | apply foldl_stable (P := P)
      | apply foldl_stable2 (P := P) | apply foldl_stable1 (P := P) | split | refine snd2_stable (by assumption) ?_
      | refine snd_stable (by assumption) ?_ | refine fst_stable (by assumption) ?_
      | refine some_stable (by assumption) ?_ | refine some_stable2 (by assumption) ?_ | dsimp only

theorem startWrite_stable (hP : StableIn P free) {x0 x1 x2} (h2 : P x2) : P (startWrite x0 x1 x2) := by
  unfold startWrite
  try dsimp only
  with_reducible repeat' first
      | assumption | intro _ | apply hP.put | apply State.answer_stable hP | apply State.setBoot_stable hP
      | apply ite_stable (P := P) | dsimp only

theorem storePut_stable (hP : StableIn P free) {x0 x1 x2} (h2 : P x2) : P (storePut x0 x1 x2).2 := by
  unfold storePut
  try dsimp only
  with_reducible repeat' first
      | assumption | intro _ | apply storeWrite_stable hP | apply recordEnd_stable hP | apply ite_stable (P := P)
      | apply ite_st (P := P) | apply ite_sec (P := P) | apply ite_snd (P := P) | apply ite_snd2 (P := P)
      | apply ite_fst (P := P) | apply OptS.some (P := P) | exact OptS.none | apply OptS2.some (P := P)
      | exact OptS2.none | apply OptS.bind (P := P) | apply OptS.bind2 (P := P) | apply OptS.map (P := P)
      | apply OptS.map0 (P := P) | apply OptS2.map (P := P) | apply OptS.getD (P := P) | apply OptS.ite (P := P)
      | apply OptS2.ite (P := P) | apply id_stable (P := P) | apply foldl_stable (P := P)
      | apply foldl_stable2 (P := P) | apply foldl_stable1 (P := P) | split | refine snd2_stable (by assumption) ?_
      | refine snd_stable (by assumption) ?_ | refine fst_stable (by assumption) ?_
      | refine some_stable (by assumption) ?_ | refine some_stable2 (by assumption) ?_ | dsimp only

theorem bootSave_stable (hP : StableIn P free) {x0} (h0 : P x0) : P (bootSave x0) := by
  unfold bootSave
  try dsimp only
  with_reducible repeat' first
      | assumption | intro _ | apply hP.put | apply storePut_stable hP | apply State.putB_stable hP | dsimp only

theorem bootcfgWrite_stable (hP : StableIn P free) {x0 x1 x2} (h2 : P x2) : P (bootcfgWrite x0 x1 x2) := by
  unfold bootcfgWrite
  try dsimp only
  with_reducible repeat' first
      | assumption | intro _ | apply hP.put | apply hP.wr | apply State.answer_stable hP | apply bootSave_stable hP
      | apply State.writeFields_stable hP | apply ite_stable (P := P) | dsimp only

theorem dogRestart_stable (hP : StableIn P free) {x0} (h0 : P x0) : P (dogRestart x0) := by
  unfold dogRestart
  try dsimp only
  with_reducible repeat' first
      | assumption | intro _ | apply hP.put | apply ite_stable (P := P) | dsimp only

theorem dogWrite_stable (hP : StableIn P free) {x0 x1 x2} (h2 : P x2) : P (dogWrite x0 x1 x2) := by
  unfold dogWrite
  try dsimp only
  with_reducible repeat' first
      | assumption | intro _ | apply hP.wr | apply State.answer_stable hP | apply dogRestart_stable hP
      | apply State.writeFields_stable hP | dsimp only

theorem dogKick_stable (hP : StableIn P free) {x0 x1 x2} (h2 : P x2) : P (dogKick x0 x1 x2) := by
  unfold dogKick
  try dsimp only
  with_reducible repeat' first
      | assumption | intro _ | apply State.setBoot_stable hP | apply State.answer_stable hP | apply dogRestart_stable hP
      | apply ite_stable (P := P) | dsimp only

theorem otpResult_stable (hP : StableIn P free) {x0 x1 x2 x3} (h3 : P x3) : P (otpResult x0 x1 x2 x3) := by
  unfold otpResult
  try dsimp only
  with_reducible repeat' first
      | assumption | intro _ | apply hP.put | dsimp only

theorem otpCommand_stable (hP : StableIn P free) {x0 x1 x2 x3} (h3 : P x3) : P (otpCommand x0 x1 x2 x3) := by
  unfold otpCommand
  try dsimp only
  with_reducible repeat' first
      | assumption | intro _ | apply State.answer_stable hP | apply otpResult_stable hP | apply State.setSec_stable hP
      | apply ite_stable (P := P) | split | refine snd_stable (by assumption) ?_ | refine fst_stable (by assumption) ?_
      | refine some_stable (by assumption) ?_ | refine some_stable2 (by assumption) ?_
      | refine snd2_stable (by assumption) ?_ | dsimp only

theorem secWrite_stable (hP : StableIn P free) {x0 x1 x2 x3} (h3 : P x3) : P (secWrite x0 x1 x2 x3) := by
  unfold secWrite
  try dsimp only
  with_reducible repeat' first
      | assumption | intro _ | apply startWrite_stable hP | apply bootcfgWrite_stable hP | apply dogWrite_stable hP
      | apply dogKick_stable hP | apply otpCommand_stable hP | apply plainWrite_stable hP | split
      | refine snd_stable (by assumption) ?_ | refine fst_stable (by assumption) ?_
      | refine some_stable (by assumption) ?_ | refine some_stable2 (by assumption) ?_
      | refine snd2_stable (by assumption) ?_ | dsimp only

theorem rushFreeze_stable (hP : StableIn P free) {x0 x1} (h1 : P x1) : P (rushFreeze x0 x1) := by
  unfold rushFreeze
  try dsimp only
  with_reducible repeat' first
      | assumption | intro _ | apply hP.put | apply State.raise_stable hP | apply State.putRush_stable hP | dsimp only

theorem rushTrigger_stable (hP : StableIn P free) {x0 x1 x2} (h2 : P x2) : P (rushTrigger x0 x1 x2) := by
  unfold rushTrigger
  try dsimp only
  with_reducible repeat' first
      | assumption | intro _ | apply hP.put | apply State.putRush_stable hP | apply State.incSat_stable hP
      | apply rushFreeze_stable hP | apply ite_stable (P := P) | apply ite_st (P := P) | apply ite_sec (P := P)
      | apply ite_snd (P := P) | apply ite_snd2 (P := P) | apply ite_fst (P := P) | apply OptS.some (P := P)
      | exact OptS.none | apply OptS2.some (P := P) | exact OptS2.none | apply OptS.bind (P := P)
      | apply OptS.bind2 (P := P) | apply OptS.map (P := P) | apply OptS.map0 (P := P) | apply OptS2.map (P := P)
      | apply OptS.getD (P := P) | apply OptS.ite (P := P) | apply OptS2.ite (P := P) | apply id_stable (P := P)
      | apply foldl_stable (P := P) | apply foldl_stable2 (P := P) | apply foldl_stable1 (P := P) | split
      | refine snd2_stable (by assumption) ?_ | refine snd_stable (by assumption) ?_
      | refine fst_stable (by assumption) ?_ | refine some_stable (by assumption) ?_
      | refine some_stable2 (by assumption) ?_ | dsimp only

theorem rushGo_stable (hP : StableIn P free) {x0 x1 x2} (h2 : P x2) : P (rushGo x0 x1 x2) := by
  unfold rushGo
  try dsimp only
  with_reducible repeat' first
      | assumption | intro _ | apply rushTrigger_stable hP | apply ite_stable (P := P) | apply ite_st (P := P)
      | apply ite_sec (P := P) | apply ite_snd (P := P) | apply ite_snd2 (P := P) | apply ite_fst (P := P)
      | apply OptS.some (P := P) | exact OptS.none | apply OptS2.some (P := P) | exact OptS2.none
      | apply OptS.bind (P := P) | apply OptS.bind2 (P := P) | apply OptS.map (P := P) | apply OptS.map0 (P := P)
      | apply OptS2.map (P := P) | apply OptS.getD (P := P) | apply OptS.ite (P := P) | apply OptS2.ite (P := P)
      | apply id_stable (P := P) | apply foldl_stable (P := P) | apply foldl_stable2 (P := P)
      | apply foldl_stable1 (P := P) | split | refine snd2_stable (by assumption) ?_
      | refine snd_stable (by assumption) ?_ | refine fst_stable (by assumption) ?_
      | refine some_stable (by assumption) ?_ | refine some_stable2 (by assumption) ?_ | dsimp only

theorem rushFill_stable (hP : StableIn P free) {x0 x1} (h1 : P x1) : P (rushFill x0 x1) := by
  unfold rushFill
  try dsimp only
  with_reducible repeat' first
      | assumption | intro _ | apply hP.put | apply State.putRush_stable hP | apply ite_stable (P := P) | dsimp only

theorem rushEnable_stable (hP : StableIn P free) {x0 x1 x2} (h2 : P x2) : P (rushEnable x0 x1 x2) := by
  unfold rushEnable
  try dsimp only
  with_reducible repeat' first
      | assumption | intro _ | apply hP.put | apply State.putFeature_stable hP | apply rushFill_stable hP
      | apply ite_stable (P := P) | split | dsimp only

theorem rushDisable_stable (hP : StableIn P free) {x0 x1} (h1 : P x1) : P (rushDisable x0 x1) := by
  unfold rushDisable
  try dsimp only
  with_reducible repeat' first
      | assumption | intro _ | apply hP.put | apply State.putRush_stable hP | apply State.putFeature_stable hP
      | dsimp only

theorem rushCtrlWrite_stable (hP : StableIn P free) {x0 x1 x2 x3} (h3 : P x3) : P (rushCtrlWrite x0 x1 x2 x3) := by
  unfold rushCtrlWrite
  try dsimp only
  with_reducible repeat' first
      | assumption | intro _ | apply hP.put | apply State.dropConflict_stable hP | apply State.answer_stable hP
      | apply State.handOver_stable hP | apply rushFill_stable hP | apply rushEnable_stable hP
      | apply rushDisable_stable hP | apply ite_stable (P := P) | apply ite_st (P := P) | apply ite_sec (P := P)
      | apply ite_snd (P := P) | apply ite_snd2 (P := P) | apply ite_fst (P := P) | apply id_stable (P := P)
      | dsimp only

theorem rushArgWrite_stable (hP : StableIn P free) {x0 x1 x2 x3 x4} (h4 : P x4) : P (rushArgWrite x0 x1 x2 x3 x4) := by
  unfold rushArgWrite
  try dsimp only
  with_reducible repeat' first
      | assumption | intro _ | apply hP.wr | apply State.answer_stable hP | apply State.writeReg_stable hP
      | apply ite_stable (P := P) | dsimp only

theorem rushesWrite_stable (hP : StableIn P free) {x0 x1 x2 x3} (h3 : P x3) : P (rushesWrite x0 x1 x2 x3) := by
  unfold rushesWrite
  try dsimp only
  with_reducible repeat' first
      | assumption | intro _ | apply State.answer_stable hP | apply rushGo_stable hP | apply rushCtrlWrite_stable hP
      | apply rushArgWrite_stable hP | apply plainWrite_stable hP | apply ite_stable (P := P) | split
      | refine snd_stable (by assumption) ?_ | refine fst_stable (by assumption) ?_
      | refine some_stable (by assumption) ?_ | refine some_stable2 (by assumption) ?_
      | refine snd2_stable (by assumption) ?_ | dsimp only

theorem debugResult_stable (hP : StableIn P free) {x0 x1 x2 x3} (h3 : P x3) : P (debugResult x0 x1 x2 x3) := by
  unfold debugResult
  try dsimp only
  with_reducible repeat' first
      | assumption | intro _ | apply hP.put | dsimp only

theorem putDigest_stable (hP : StableIn P free) {x0 x1 x2} (h2 : P x2) : P (putDigest x0 x1 x2) := by
  unfold putDigest
  try dsimp only
  with_reducible repeat' first
      | assumption | intro _ | apply hP.put | apply foldl_stable (P := P) | dsimp only

theorem State.drawn_stable (hP : StableIn P free) {x0 x1} (h0 : P x0) : P (State.drawn x0 x1) := by
  unfold State.drawn
  try dsimp only
  with_reducible repeat' first
      | assumption | intro _ | apply State.setFree_stable hP | dsimp only

theorem debugChallenge_stable (hP : StableIn P free) {x0} (h0 : P x0) : P (debugChallenge x0) := by
  unfold debugChallenge
  try dsimp only
  with_reducible repeat' first
      | assumption | intro _ | apply hP.put | apply putDigest_stable hP | apply State.drawn_stable hP
      | apply debugResult_stable hP | apply State.setSec_stable hP | dsimp only

theorem debugDenied_stable (hP : StableIn P free) {x0} (h0 : P x0) : P (debugDenied x0) := by
  unfold debugDenied
  try dsimp only
  with_reducible repeat' first
      | assumption | intro _ | apply hP.put | apply State.putIf_stable hP | apply debugResult_stable hP
      | apply State.report_stable hP | dsimp only

theorem debugUnlock_stable (hP : StableIn P free) {x0} (h0 : P x0) : P (debugUnlock x0) := by
  unfold debugUnlock
  try dsimp only
  with_reducible repeat' first
      | assumption | intro _ | apply debugDenied_stable hP | apply debugResult_stable hP | apply ite_stable (P := P)
      | split | dsimp only

theorem openShow_stable (hP : StableIn P free) {x0} (h0 : P x0) : P (openShow x0) := by
  unfold openShow
  try dsimp only
  with_reducible repeat' first
      | assumption | intro _ | apply hP.put | apply State.putB_stable hP | apply haltShow_stable hP
      | apply ite_stable (P := P) | apply ite_st (P := P) | apply ite_sec (P := P) | apply ite_snd (P := P)
      | apply ite_snd2 (P := P) | apply ite_fst (P := P) | apply id_stable (P := P) | dsimp only

theorem debugLock_stable (hP : StableIn P free) {x0} (h0 : P x0) : P (debugLock x0) := by
  unfold debugLock
  try dsimp only
  with_reducible repeat' first
      | assumption | intro _ | apply hP.put | apply debugResult_stable hP | apply openShow_stable hP | dsimp only

theorem debugCommand_stable (hP : StableIn P free) {x0 x1 x2} (h2 : P x2) : P (debugCommand x0 x1 x2) := by
  unfold debugCommand
  try dsimp only
  with_reducible repeat' first
      | assumption | intro _ | apply State.answer_stable hP | apply debugResult_stable hP
      | apply debugChallenge_stable hP | apply debugUnlock_stable hP | apply debugLock_stable hP
      | apply ite_stable (P := P) | split | refine snd_stable (by assumption) ?_ | refine fst_stable (by assumption) ?_
      | refine some_stable (by assumption) ?_ | refine some_stable2 (by assumption) ?_
      | refine snd2_stable (by assumption) ?_ | dsimp only

theorem debugResp_stable (hP : StableIn P free) {x0 x1 x2} (h2 : P x2) : P (debugResp x0 x1 x2) := by
  unfold debugResp
  try dsimp only
  with_reducible repeat' first
      | assumption | intro _ | apply State.answer_stable hP | apply State.setSec_stable hP
      | apply State.incSat_stable hP | apply ite_stable (P := P) | dsimp only

theorem coreCtlWrite_stable (hP : StableIn P free) {x0 x1 x2} (h2 : P x2) : P (coreCtlWrite x0 x1 x2) := by
  unfold coreCtlWrite
  try dsimp only
  with_reducible repeat' first
      | assumption | intro _ | apply hP.put | apply State.putCore_stable hP | apply State.answer_stable hP
      | apply haltShow_stable hP | apply ite_stable (P := P) | apply ite_st (P := P) | apply ite_sec (P := P)
      | apply ite_snd (P := P) | apply ite_snd2 (P := P) | apply ite_fst (P := P) | apply OptS.some (P := P)
      | exact OptS.none | apply OptS2.some (P := P) | exact OptS2.none | apply OptS.bind (P := P)
      | apply OptS.bind2 (P := P) | apply OptS.map (P := P) | apply OptS.map0 (P := P) | apply OptS2.map (P := P)
      | apply OptS.getD (P := P) | apply OptS.ite (P := P) | apply OptS2.ite (P := P) | apply id_stable (P := P)
      | apply foldl_stable (P := P) | apply foldl_stable2 (P := P) | apply foldl_stable1 (P := P) | split
      | refine snd2_stable (by assumption) ?_ | refine snd_stable (by assumption) ?_
      | refine fst_stable (by assumption) ?_ | refine some_stable (by assumption) ?_
      | refine some_stable2 (by assumption) ?_ | dsimp only

theorem debugWrite_stable (hP : StableIn P free) {x0 x1 x2 x3} (h3 : P x3) : P (debugWrite x0 x1 x2 x3) := by
  unfold debugWrite
  try dsimp only
  with_reducible repeat' first
      | assumption | intro _ | apply debugCommand_stable hP | apply debugResp_stable hP | apply coreCtlWrite_stable hP
      | apply plainWrite_stable hP | split | refine snd_stable (by assumption) ?_ | refine fst_stable (by assumption) ?_
      | refine some_stable (by assumption) ?_ | refine some_stable2 (by assumption) ?_
      | refine snd2_stable (by assumption) ?_ | dsimp only

theorem serialFields_stable (hP : StableIn P free) {x0 x1 x2} (h2 : P x2) : P (serialFields x0 x1 x2) := by
  unfold serialFields
  try dsimp only
  with_reducible repeat' first
      | assumption | intro _ | apply hP.wr | apply State.writeField_stable hP | apply foldl_stable (P := P)
      | apply ite_stable (P := P) | dsimp only

theorem serialCtrlWrite_stable (hP : StableIn P free) {x0 x1 x2 x3} (h3 : P x3) : P (serialCtrlWrite x0 x1 x2 x3) := by
  unfold serialCtrlWrite
  try dsimp only
  with_reducible repeat' first
      | assumption | intro _ | apply hP.put | apply State.enableFeature_stable hP
      | apply State.disableFeature_stable hP | apply State.dropConflict_stable hP | apply serialShow_stable hP
      | apply serialFields_stable hP | apply State.answer_stable hP | apply State.handOver_stable hP
      | apply ite_stable (P := P) | apply ite_st (P := P) | apply ite_sec (P := P) | apply ite_snd (P := P)
      | apply ite_snd2 (P := P) | apply ite_fst (P := P) | apply id_stable (P := P) | dsimp only

theorem serialRegWrite_stable (hP : StableIn P free) {x0 x1 x2 x3 x4} (h4 : P x4) : P (serialRegWrite x0 x1 x2 x3 x4) := by
  unfold serialRegWrite
  try dsimp only
  with_reducible repeat' first
      | assumption | intro _ | apply hP.wr | apply State.answer_stable hP | apply State.writeReg_stable hP
      | apply ite_stable (P := P) | dsimp only

theorem serialTx_stable (hP : StableIn P free) {x0 x1 x2 x3} (h3 : P x3) : P (serialTx x0 x1 x2 x3) := by
  unfold serialTx
  try dsimp only
  with_reducible repeat' first
      | assumption | intro _ | apply hP.put | apply State.answer_stable hP | apply putSerials_stable hP
      | apply ite_stable (P := P) | dsimp only

theorem serialWrite_stable (hP : StableIn P free) {x0 x1 x2 x3} (h3 : P x3) : P (serialWrite x0 x1 x2 x3) := by
  unfold serialWrite
  try dsimp only
  with_reducible repeat' first
      | assumption | intro _ | apply serialCtrlWrite_stable hP | apply serialRegWrite_stable hP
      | apply serialTx_stable hP | apply plainWrite_stable hP | apply ite_stable (P := P) | split
      | refine snd_stable (by assumption) ?_ | refine fst_stable (by assumption) ?_
      | refine some_stable (by assumption) ?_ | refine some_stable2 (by assumption) ?_
      | refine snd2_stable (by assumption) ?_ | dsimp only

theorem dmaStart_stable (hP : StableIn P free) {x0 x1} (h1 : P x1) : P (dmaStart x0 x1) := by
  unfold dmaStart
  try dsimp only
  with_reducible repeat' first
      | assumption | intro _ | apply hP.put | apply State.putDma_stable hP | apply ite_stable (P := P)
      | apply ite_st (P := P) | apply ite_sec (P := P) | apply ite_snd (P := P) | apply ite_snd2 (P := P)
      | apply ite_fst (P := P) | apply id_stable (P := P) | dsimp only

theorem dmaTrigger_stable (hP : StableIn P free) {x0 x1 x2} (h2 : P x2) : P (dmaTrigger x0 x1 x2) := by
  unfold dmaTrigger
  try dsimp only
  with_reducible repeat' first
      | assumption | intro _ | apply hP.put | apply dmaStart_stable hP | apply ite_stable (P := P) | split
      | refine snd_stable (by assumption) ?_ | refine fst_stable (by assumption) ?_
      | refine some_stable (by assumption) ?_ | refine some_stable2 (by assumption) ?_
      | refine snd2_stable (by assumption) ?_ | dsimp only

theorem dmaEnable_stable (hP : StableIn P free) {x0 x1 x2} (h2 : P x2) : P (dmaEnable x0 x1 x2) := by
  unfold dmaEnable
  try dsimp only
  with_reducible repeat' first
      | assumption | intro _ | apply hP.put | apply State.enableFeature_stable hP | apply ite_stable (P := P)
      | dsimp only

theorem dmaDisable_stable (hP : StableIn P free) {x0 x1} (h1 : P x1) : P (dmaDisable x0 x1) := by
  unfold dmaDisable
  try dsimp only
  with_reducible repeat' first
      | assumption | intro _ | apply hP.put | apply State.putDma_stable hP | apply State.disableFeature_stable hP
      | apply ite_stable (P := P) | apply ite_st (P := P) | apply ite_sec (P := P) | apply ite_snd (P := P)
      | apply ite_snd2 (P := P) | apply ite_fst (P := P) | apply id_stable (P := P) | dsimp only

theorem dmaCtrlFields_stable (hP : StableIn P free) {x0 x1 x2} (h2 : P x2) : P (dmaCtrlFields x0 x1 x2) := by
  unfold dmaCtrlFields
  try dsimp only
  with_reducible repeat' first
      | assumption | intro _ | apply hP.put | dsimp only

theorem dmaCtrlWrite_stable (hP : StableIn P free) {x0 x1 x2 x3} (h3 : P x3) : P (dmaCtrlWrite x0 x1 x2 x3) := by
  unfold dmaCtrlWrite
  try dsimp only
  with_reducible repeat' first
      | assumption | intro _ | apply State.dropConflict_stable hP | apply dmaTrigger_stable hP
      | apply dmaEnable_stable hP | apply dmaDisable_stable hP | apply dmaCtrlFields_stable hP
      | apply State.answer_stable hP | apply State.handOver_stable hP | apply ite_stable (P := P)
      | apply ite_st (P := P) | apply ite_sec (P := P) | apply ite_snd (P := P) | apply ite_snd2 (P := P)
      | apply ite_fst (P := P) | apply id_stable (P := P) | dsimp only

theorem dmaArgWrite_stable (hP : StableIn P free) {x0 x1 x2 x3 x4} (h4 : P x4) : P (dmaArgWrite x0 x1 x2 x3 x4) := by
  unfold dmaArgWrite
  try dsimp only
  with_reducible repeat' first
      | assumption | intro _ | apply hP.put | apply hP.wr | apply State.answer_stable hP | apply State.putIf_stable hP
      | apply State.writeReg_stable hP | apply ite_stable (P := P) | dsimp only

theorem dmaWrite_stable (hP : StableIn P free) {x0 x1 x2 x3} (h3 : P x3) : P (dmaWrite x0 x1 x2 x3) := by
  unfold dmaWrite
  try dsimp only
  with_reducible repeat' first
      | assumption | intro _ | apply dmaCtrlWrite_stable hP | apply dmaArgWrite_stable hP | apply plainWrite_stable hP
      | split | refine snd_stable (by assumption) ?_ | refine fst_stable (by assumption) ?_
      | refine some_stable (by assumption) ?_ | refine some_stable2 (by assumption) ?_
      | refine snd2_stable (by assumption) ?_ | dsimp only

theorem regWrite_stable (hP : StableIn P free) {x0 x1 x2 x3} (h3 : P x3) : P (regWrite x0 x1 x2 x3) := by
  unfold regWrite
  try dsimp only
  with_reducible repeat' first
      | assumption | intro _ | apply claimWrite_stable hP | apply plainWrite_stable hP | apply tcWrite_stable hP
      | apply gafWrite_stable hP | apply ctuWrite_stable hP | apply cueRegWrite_stable hP | apply sampWrite_stable hP
      | apply portsWrite_stable hP | apply feedWrite_stable hP | apply enginesWrite_stable hP
      | apply reelsWrite_stable hP | apply bankOwnerWrite_stable hP | apply State.answer_stable hP
      | apply ddrInit_stable hP | apply flashRegWrite_stable hP | apply ethWrite_stable hP | apply canWrite_stable hP
      | apply secWrite_stable hP | apply rushesWrite_stable hP | apply debugWrite_stable hP
      | apply serialWrite_stable hP | apply dmaWrite_stable hP | apply ite_stable (P := P) | split
      | refine snd_stable (by assumption) ?_ | refine fst_stable (by assumption) ?_
      | refine some_stable (by assumption) ?_ | refine some_stable2 (by assumption) ?_
      | refine snd2_stable (by assumption) ?_ | dsimp only

theorem reelMemWrite_stable (hP : StableIn P free) {x0 x1 x2 x3} (h3 : P x3) : P (reelMemWrite x0 x1 x2 x3) := by
  unfold reelMemWrite
  try dsimp only
  with_reducible repeat' first
      | assumption | intro _ | apply State.answer_stable hP | apply State.store_stable hP | apply ite_stable (P := P)
      | dsimp only

theorem State.putEngNeg_stable (hP : StableIn P free) {x0 x1 x2 x3} (h0 : P x0) : P (State.putEngNeg x0 x1 x2 x3) := by
  unfold State.putEngNeg
  try dsimp only
  with_reducible repeat' first
      | assumption | intro _ | apply State.setEngNeg_stable hP | apply State.unmark_stable hP
      | apply ite_stable (P := P) | apply ite_st (P := P) | apply ite_sec (P := P) | apply ite_snd (P := P)
      | apply ite_snd2 (P := P) | apply ite_fst (P := P) | apply id_stable (P := P) | dsimp only

theorem putEngState_stable (hP : StableIn P free) {x0 x1 x2 x3} (h3 : P x3) : P (putEngState x0 x1 x2 x3) := by
  unfold putEngState
  try dsimp only
  with_reducible repeat' first
      | assumption | intro _ | apply hP.put | apply State.putEngNeg_stable hP | apply State.store_stable hP | dsimp only

theorem engMemWrite_stable (hP : StableIn P free) {x0 x1 x2 x3 x4} (h4 : P x4) : P (engMemWrite x0 x1 x2 x3 x4) := by
  unfold engMemWrite
  try dsimp only
  with_reducible repeat' first
      | assumption | intro _ | apply hP.put | apply State.answer_stable hP | apply putEngState_stable hP
      | apply State.store_stable hP | apply ite_stable (P := P) | split | dsimp only

theorem writeAt_stable (hP : StableIn P free) {x0 x1 x2 x3} (h3 : P x3) : P (writeAt x0 x1 x2 x3).st := by
  unfold writeAt
  try dsimp only
  with_reducible repeat' first
      | assumption | intro _ | apply hP.wr | apply ddrWrite_stable hP | apply regWrite_stable hP
      | apply bankWrite_stable hP | apply reelMemWrite_stable hP | apply engMemWrite_stable hP
      | apply ite_stable (P := P) | apply ite_st (P := P) | apply ite_sec (P := P) | split
      | refine snd_stable (by assumption) ?_ | refine fst_stable (by assumption) ?_
      | refine some_stable (by assumption) ?_ | refine some_stable2 (by assumption) ?_
      | refine snd2_stable (by assumption) ?_ | dsimp only

theorem busPut_stable (hP : StableIn P free) {x0 x1 x2 x3} (h3 : P x3) : P (busPut x0 x1 x2 x3).st := by
  unfold busPut
  try dsimp only
  with_reducible repeat' first
      | assumption | intro _ | apply hP.wr | apply writeAt_stable hP | apply restartFor_stable hP
      | apply ite_stable (P := P) | apply ite_st (P := P) | apply ite_sec (P := P) | dsimp only

theorem cmpPut_stable (hP : StableIn P free) {x0 x1 x2 x3 x4} (h4 : P x4) : P (cmpPut x0 x1 x2 x3 x4).2 := by
  unfold cmpPut
  try dsimp only
  with_reducible repeat' first
      | assumption | intro _ | apply restartFor_stable hP | apply tcCmpWrite_stable hP | apply ite_stable (P := P)
      | apply ite_st (P := P) | apply ite_sec (P := P) | apply ite_snd (P := P) | apply ite_snd2 (P := P)
      | apply ite_fst (P := P) | apply id_stable (P := P) | dsimp only

theorem secShow_stable (hP : StableIn P free) {x0} (h0 : P x0) : P (secShow x0) := by
  unfold secShow
  try dsimp only
  with_reducible repeat' first
      | assumption | intro _ | apply hP.put | dsimp only

end Sys2Proof.Machine
end

