-- ==== Sys2Proof/Laws/Stable4.lean ====
section
/-! SUPPORT. Each operation keeps every property that the elementary writes keep (part 4 of 9). -/

set_option linter.all false
set_option maxRecDepth 4000
set_option linter.unreachableTactic false

namespace Sys2Proof.Machine

variable {P : State → Prop} {free : Bool}

theorem secTake_stable (hP : StableIn P free) {x0 x1 x2} (h2 : P x2) : P (secTake x0 x1 x2) := by
  unfold secTake
  try dsimp only
  with_reducible repeat' first
      | assumption | intro _ | apply State.setSec_stable hP | apply bankReads_stable hP | apply secShow_stable hP
      | apply ite_stable (P := P) | apply ite_st (P := P) | apply ite_sec (P := P) | apply ite_snd (P := P)
      | apply ite_snd2 (P := P) | apply ite_fst (P := P) | apply OptS.some (P := P) | exact OptS.none
      | apply OptS2.some (P := P) | exact OptS2.none | apply OptS.bind (P := P) | apply OptS.bind2 (P := P)
      | apply OptS.map (P := P) | apply OptS.map0 (P := P) | apply OptS2.map (P := P) | apply OptS.getD (P := P)
      | apply OptS.ite (P := P) | apply OptS2.ite (P := P) | apply id_stable (P := P) | apply foldl_stable (P := P)
      | apply foldl_stable2 (P := P) | apply foldl_stable1 (P := P) | split | refine snd2_stable (by assumption) ?_
      | refine snd_stable (by assumption) ?_ | refine fst_stable (by assumption) ?_
      | refine some_stable (by assumption) ?_ | refine some_stable2 (by assumption) ?_ | dsimp only

theorem corePuts_stable (hP : StableIn P free) {x0 x1 x2} (h2 : P x2) : P (corePuts x0 x1 x2).2 := by
  fun_induction corePuts x0 x1 x2 <;> (with_reducible repeat' first
      | assumption | intro _ | apply busPut_stable hP | apply cmpPut_stable hP | apply secTake_stable hP
      | refine ‹P _ → P _› ?_ | refine ‹P _ → OptS P _› ?_ | refine ‹∀ t, P t → OptS P _› _ ?_
      | apply ite_stable (P := P) | apply ite_st (P := P) | apply ite_sec (P := P) | apply ite_snd (P := P)
      | apply ite_snd2 (P := P) | apply ite_fst (P := P) | apply OptS.some (P := P) | exact OptS.none
      | apply OptS2.some (P := P) | exact OptS2.none | apply OptS.bind (P := P) | apply OptS.bind2 (P := P)
      | apply OptS.map (P := P) | apply OptS.map0 (P := P) | apply OptS2.map (P := P) | apply OptS.getD (P := P)
      | apply OptS.ite (P := P) | apply OptS2.ite (P := P) | apply id_stable (P := P) | apply foldl_stable (P := P)
      | apply foldl_stable2 (P := P) | apply foldl_stable1 (P := P) | split | refine snd2_stable (by assumption) ?_
      | refine snd_stable (by assumption) ?_ | refine fst_stable (by assumption) ?_
      | refine some_stable (by assumption) ?_ | refine some_stable2 (by assumption) ?_ | dsimp +zetaDelta only
      | dsimp only)

theorem tokenOne_stable (hP : StableIn P free) {x0 x1 x2} (h2 : P x2) : P (tokenOne x0 x1 x2) := by
  unfold tokenOne
  try dsimp only
  with_reducible repeat' first
      | assumption | intro _ | apply hP.put | apply State.putCore_stable hP | apply corePuts_stable hP
      | apply ite_stable (P := P) | split | refine snd_stable (by assumption) ?_ | refine fst_stable (by assumption) ?_
      | refine some_stable (by assumption) ?_ | refine some_stable2 (by assumption) ?_
      | refine snd2_stable (by assumption) ?_ | dsimp only

theorem settle_stable (hP : StableIn P free) {x0 x1} (h1 : P x1) : P (settle x0 x1) := by
  unfold settle
  try dsimp only
  with_reducible repeat' first
      | assumption | intro _ | apply tokenOne_stable hP | apply foldl_stable (P := P) | dsimp only

theorem coreRead_stable (hP : StableIn P free) {x0 x1 x2 x3} (hk2 : ∀ y0 y1, P y1 → P (x2 y0 y1)) (h3 : P x3) : P (coreRead x0 x1 x2 x3) := by
  unfold coreRead
  try dsimp only
  with_reducible repeat' first
      | assumption | intro _ | apply busGet_stable hP | apply raiseSync_stable hP | apply accessed_stable hP
      | apply coreHold_stable hP | apply settle_stable hP | apply hk2 | apply ite_stable (P := P)
      | apply ite_st (P := P) | apply ite_sec (P := P) | apply ite_snd (P := P) | apply ite_snd2 (P := P)
      | apply ite_fst (P := P) | apply id_stable (P := P) | dsimp only

theorem load_stable (hP : StableIn P free) {x0 x1 x2 x3 x4} (h4 : P x4) : P (load x0 x1 x2 x3 x4) := by
  unfold load
  try dsimp only
  with_reducible repeat' first
      | assumption | intro _ | apply hP.put | apply issue_stable hP | apply coreRead_stable hP | apply adv_stable hP
      | apply State.putReg_stable hP | dsimp only

theorem afterTokens_stable (hP : StableIn P free) {x0 x1} (h1 : P x1) : P (afterTokens x0 x1) := by
  unfold afterTokens
  try dsimp only
  with_reducible repeat' first
      | assumption | intro _ | apply settle_stable hP | apply ite_stable (P := P) | apply ite_st (P := P)
      | apply ite_sec (P := P) | apply ite_snd (P := P) | apply ite_snd2 (P := P) | apply ite_fst (P := P)
      | apply id_stable (P := P) | dsimp only

theorem execBankOwnerWrite_stable (hP : StableIn P free) {x0 x1 x2 x3} (h3 : P x3) : OutS P (execBankOwnerWrite x0 x1 x2 x3) := by
  unfold execBankOwnerWrite
  try dsimp only
  with_reducible repeat' first
      | assumption | intro _ | apply bankOwnerWrite_stable hP | apply afterTokens_stable hP | apply onIsland_stable hP
      | apply OutS.next (P := P) | exact OutS.fault | apply OutS.ite (P := P) | apply ite_stable (P := P)
      | apply ite_st (P := P) | apply ite_sec (P := P) | apply ite_snd (P := P) | apply ite_snd2 (P := P)
      | apply ite_fst (P := P) | apply id_stable (P := P) | dsimp only

theorem scrubRoundEnd_stable (hP : StableIn P free) {x0} (h0 : P x0) : P (scrubRoundEnd x0) := by
  unfold scrubRoundEnd
  try dsimp only
  with_reducible repeat' first
      | assumption | intro _ | apply hP.put | apply State.putBank_stable hP | apply State.inc_stable hP
      | apply foldl_stable (P := P) | apply ite_stable (P := P) | dsimp only

theorem scrubMeet_stable (hP : StableIn P free) {x0 x1 x2} (h2 : P x2) : P (scrubMeet x0 x1 x2) := by
  unfold scrubMeet
  try dsimp only
  with_reducible repeat' first
      | assumption | intro _ | apply hP.put | apply bankError_stable hP | apply State.putBank_stable hP | split
      | refine snd_stable (by assumption) ?_ | refine fst_stable (by assumption) ?_
      | refine some_stable (by assumption) ?_ | refine some_stable2 (by assumption) ?_
      | refine snd2_stable (by assumption) ?_ | dsimp only

theorem bankRedCheck_stable (hP : StableIn P free) {x0 x1} (h1 : P x1) : P (bankRedCheck x0 x1) := by
  unfold bankRedCheck
  try dsimp only
  with_reducible repeat' first
      | assumption | intro _ | apply hP.put | apply State.report_stable hP | apply ite_stable (P := P) | dsimp only

theorem scrubNext_stable (hP : StableIn P free) {x0 x1} (h1 : P x1) : P (scrubNext x0 x1) := by
  unfold scrubNext
  try dsimp only
  with_reducible repeat' first
      | assumption | intro _ | apply hP.put | apply State.putBank_stable hP | apply scrubRoundEnd_stable hP
      | apply ite_stable (P := P) | dsimp only

theorem bankScrub_stable (hP : StableIn P free) {x0 x1} (h1 : P x1) : P (bankScrub x0 x1) := by
  unfold bankScrub
  try dsimp only
  with_reducible repeat' first
      | assumption | intro _ | apply scrubRoundEnd_stable hP | apply scrubMeet_stable hP
      | apply bankRedCheck_stable hP | apply scrubNext_stable hP | apply ite_stable (P := P) | apply ite_st (P := P)
      | apply ite_sec (P := P) | apply ite_snd (P := P) | apply ite_snd2 (P := P) | apply ite_fst (P := P)
      | apply id_stable (P := P) | dsimp only

theorem State.mark_stable (hP : StableIn P free) {x0 x1 x2} (h0 : P x0) : P (State.mark x0 x1 x2) := by
  unfold State.mark
  try dsimp only
  with_reducible repeat' first
      | assumption | intro _ | apply State.setMarks_stable hP | apply State.unmark_stable hP | dsimp only

theorem State.strike_stable (hP : StableIn P free) {x0 x1 x2 x3} (h0 : P x0) : P (State.strike x0 x1 x2 x3) := by
  unfold State.strike
  try dsimp only
  with_reducible repeat' first
      | assumption | intro _ | apply State.mark_stable hP | apply ite_stable (P := P) | split
      | refine snd_stable (by assumption) ?_ | refine fst_stable (by assumption) ?_
      | refine some_stable (by assumption) ?_ | refine some_stable2 (by assumption) ?_
      | refine snd2_stable (by assumption) ?_ | dsimp only

theorem execBankScrub_stable (hP : StableIn P free) {x0 x1 x2} (h2 : P x2) : OutS P (execBankScrub x0 x1 x2) := by
  unfold execBankScrub
  try dsimp only
  with_reducible repeat' first
      | assumption | intro _ | apply bankScrub_stable hP | apply State.strike_stable hP | apply OutS.next (P := P)
      | dsimp only

theorem busRead_stable (hP : StableIn P free) {x0 x1 x2} (h2 : P x2) : P (busRead x0 x1 x2) := by
  unfold busRead
  try dsimp only
  with_reducible repeat' first
      | assumption | intro _ | apply busGet_stable hP | apply State.answer_stable hP | apply ite_stable (P := P)
      | dsimp only

theorem busWrite_stable (hP : StableIn P free) {x0 x1 x2 x3} (h3 : P x3) : P (busWrite x0 x1 x2 x3) := by
  unfold busWrite
  try dsimp only
  with_reducible repeat' first
      | assumption | intro _ | apply busPut_stable hP | apply State.answer_stable hP | dsimp only

theorem registerWrite_stable (hP : StableIn P free) {x0 x1 x2 x3} (h3 : P x3) : P (registerWrite x0 x1 x2 x3) := by
  unfold registerWrite
  try dsimp only
  with_reducible repeat' first
      | assumption | intro _ | apply busWrite_stable hP | apply holdAccess_stable hP | apply ite_stable (P := P)
      | apply ite_st (P := P) | apply ite_sec (P := P) | apply ite_snd (P := P) | apply ite_snd2 (P := P)
      | apply ite_fst (P := P) | apply OptS.some (P := P) | exact OptS.none | apply OptS2.some (P := P)
      | exact OptS2.none | apply OptS.bind (P := P) | apply OptS.bind2 (P := P) | apply OptS.map (P := P)
      | apply OptS.map0 (P := P) | apply OptS2.map (P := P) | apply OptS.getD (P := P) | apply OptS.ite (P := P)
      | apply OptS2.ite (P := P) | apply id_stable (P := P) | apply foldl_stable (P := P)
      | apply foldl_stable2 (P := P) | apply foldl_stable1 (P := P) | split | refine snd2_stable (by assumption) ?_
      | refine snd_stable (by assumption) ?_ | refine fst_stable (by assumption) ?_
      | refine some_stable (by assumption) ?_ | refine some_stable2 (by assumption) ?_ | dsimp only

theorem execRegisterWrite_stable (hP : StableIn P free) {x0 x1 x2 x3} (h3 : P x3) : OutS P (execRegisterWrite x0 x1 x2 x3) := by
  unfold execRegisterWrite
  try dsimp only
  with_reducible repeat' first
      | assumption | intro _ | apply registerWrite_stable hP | apply afterTokens_stable hP | apply OutS.next (P := P)
      | exact OutS.fault | apply OutS.ite (P := P) | apply ite_stable (P := P) | apply ite_st (P := P)
      | apply ite_sec (P := P) | apply ite_snd (P := P) | apply ite_snd2 (P := P) | apply ite_fst (P := P)
      | apply id_stable (P := P) | dsimp only

theorem coreResumes_stable (hP : StableIn P free) {x0 x1} (h1 : P x1) : P (coreResumes x0 x1) := by
  unfold coreResumes
  try dsimp only
  with_reducible repeat' first
      | assumption | intro _ | apply hP.put | apply State.putCore_stable hP | apply ite_stable (P := P)
      | apply ite_st (P := P) | apply ite_sec (P := P) | apply ite_snd (P := P) | apply ite_snd2 (P := P)
      | apply ite_fst (P := P) | apply id_stable (P := P) | dsimp only

theorem agentBoundary_stable (hP : StableIn P free) {x0 x1} (h1 : P x1) : P (agentBoundary x0 x1) := by
  unfold agentBoundary
  try dsimp only
  with_reducible repeat' first
      | assumption | intro _ | apply haltBoundary_stable hP | apply ite_stable (P := P) | apply ite_st (P := P)
      | apply ite_sec (P := P) | apply ite_snd (P := P) | apply ite_snd2 (P := P) | apply ite_fst (P := P)
      | apply id_stable (P := P) | dsimp only

theorem execGreyAccessResume_stable (hP : StableIn P free) {x0} (h0 : P x0) : OutS P (execGreyAccessResume x0) := by
  unfold execGreyAccessResume
  try dsimp only
  with_reducible repeat' first
      | assumption | intro _ | apply State.setHeld_stable hP | apply busWrite_stable hP | apply coreResumes_stable hP
      | apply agentBoundary_stable hP | apply islandRestart_stable hP | apply OutS.next (P := P) | exact OutS.fault
      | apply OutS.ite (P := P) | apply ite_stable (P := P) | apply ite_st (P := P) | apply ite_sec (P := P)
      | apply ite_snd (P := P) | apply ite_snd2 (P := P) | apply ite_fst (P := P) | apply OptS.some (P := P)
      | exact OptS.none | apply OptS2.some (P := P) | exact OptS2.none | apply OptS.bind (P := P)
      | apply OptS.bind2 (P := P) | apply OptS.map (P := P) | apply OptS.map0 (P := P) | apply OptS2.map (P := P)
      | apply OptS.getD (P := P) | apply OptS.ite (P := P) | apply OptS2.ite (P := P) | apply id_stable (P := P)
      | apply foldl_stable (P := P) | apply foldl_stable2 (P := P) | apply foldl_stable1 (P := P) | split
      | refine snd2_stable (by assumption) ?_ | refine snd_stable (by assumption) ?_
      | refine fst_stable (by assumption) ?_ | refine some_stable (by assumption) ?_
      | refine some_stable2 (by assumption) ?_ | dsimp only

theorem coreMeets_stable (hP : StableIn P free) {x0 x1 x2} (h2 : P x2) : P (coreMeets x0 x1 x2) := by
  unfold coreMeets
  try dsimp only
  with_reducible repeat' first
      | assumption | intro _ | apply hP.put | apply State.putCore_stable hP | apply agentBoundary_stable hP
      | apply raiseSync_stable hP | apply ite_stable (P := P) | apply ite_st (P := P) | apply ite_sec (P := P)
      | apply ite_snd (P := P) | apply ite_snd2 (P := P) | apply ite_fst (P := P) | apply id_stable (P := P)
      | dsimp only

theorem execAccessTimeout_stable (hP : StableIn P free) {x0 x1 x2} (h2 : P x2) : OutS P (execAccessTimeout x0 x1 x2) := by
  unfold execAccessTimeout
  try dsimp only
  with_reducible repeat' first
      | assumption | intro _ | apply coreMeets_stable hP | apply afterTokens_stable hP | apply State.answer_stable hP
      | apply State.report_stable hP | apply OutS.next (P := P) | exact OutS.fault | apply OutS.ite (P := P)
      | apply ite_stable (P := P) | apply ite_st (P := P) | apply ite_sec (P := P) | apply ite_snd (P := P)
      | apply ite_snd2 (P := P) | apply ite_fst (P := P) | apply id_stable (P := P) | dsimp only

theorem execMgmtAccess_stable (hP : StableIn P free) {x0 x1 x2 x3 x4} (h4 : P x4) : OutS P (execMgmtAccess x0 x1 x2 x3 x4) := by
  unfold execMgmtAccess
  try dsimp only
  with_reducible repeat' first
      | assumption | intro _ | apply busRead_stable hP | apply busWrite_stable hP | apply coreMeets_stable hP
      | apply afterTokens_stable hP | apply State.answer_stable hP | apply State.report_stable hP
      | apply OutS.next (P := P) | exact OutS.fault | apply OutS.ite (P := P) | apply ite_stable (P := P)
      | apply ite_st (P := P) | apply ite_sec (P := P) | apply ite_snd (P := P) | apply ite_snd2 (P := P)
      | apply ite_fst (P := P) | apply OptS.some (P := P) | exact OptS.none | apply OptS2.some (P := P)
      | exact OptS2.none | apply OptS.bind (P := P) | apply OptS.bind2 (P := P) | apply OptS.map (P := P)
      | apply OptS.map0 (P := P) | apply OptS2.map (P := P) | apply OptS.getD (P := P) | apply OptS.ite (P := P)
      | apply OptS2.ite (P := P) | apply id_stable (P := P) | apply foldl_stable (P := P)
      | apply foldl_stable2 (P := P) | apply foldl_stable1 (P := P) | split | refine snd2_stable (by assumption) ?_
      | refine snd_stable (by assumption) ?_ | refine fst_stable (by assumption) ?_
      | refine some_stable (by assumption) ?_ | refine some_stable2 (by assumption) ?_ | dsimp only

theorem tapTo_stable (hP : StableIn P free) {x0 x1 x2} (h2 : P x2) : P (tapTo x0 x1 x2) := by
  unfold tapTo
  try dsimp only
  with_reducible repeat' first
      | assumption | intro _ | apply hP.put | apply State.setSec_stable hP | apply ite_stable (P := P)
      | apply ite_st (P := P) | apply ite_sec (P := P) | apply ite_snd (P := P) | apply ite_snd2 (P := P)
      | apply ite_fst (P := P) | apply id_stable (P := P) | dsimp only

theorem execBusacc_stable (hP : StableIn P free) {x0 x1 x2} (h2 : P x2) : OutS P (execBusacc x0 x1 x2) := by
  unfold execBusacc
  try dsimp only
  with_reducible repeat' first
      | assumption | intro _ | apply busRead_stable hP | apply busWrite_stable hP | apply tapTo_stable hP
      | apply OutS.next (P := P) | exact OutS.fault | apply OutS.ite (P := P) | apply ite_stable (P := P)
      | apply ite_st (P := P) | apply ite_sec (P := P) | apply ite_snd (P := P) | apply ite_snd2 (P := P)
      | apply ite_fst (P := P) | apply OptS.some (P := P) | exact OptS.none | apply OptS2.some (P := P)
      | exact OptS2.none | apply OptS.bind (P := P) | apply OptS.bind2 (P := P) | apply OptS.map (P := P)
      | apply OptS.map0 (P := P) | apply OptS2.map (P := P) | apply OptS.getD (P := P) | apply OptS.ite (P := P)
      | apply OptS2.ite (P := P) | apply id_stable (P := P) | apply foldl_stable (P := P)
      | apply foldl_stable2 (P := P) | apply foldl_stable1 (P := P) | split | refine snd2_stable (by assumption) ?_
      | refine snd_stable (by assumption) ?_ | refine fst_stable (by assumption) ?_
      | refine some_stable (by assumption) ?_ | refine some_stable2 (by assumption) ?_ | dsimp only

theorem dmaFail_stable (hP : StableIn P free) {x0 x1 x2 x3} (h3 : P x3) : P (dmaFail x0 x1 x2 x3) := by
  unfold dmaFail
  try dsimp only
  with_reducible repeat' first
      | assumption | intro _ | apply hP.put | dsimp only

theorem dmaReturn_stable (hP : StableIn P free) {x0 x1} (h1 : P x1) : P (dmaReturn x0 x1) := by
  unfold dmaReturn
  try dsimp only
  with_reducible repeat' first
      | assumption | intro _ | apply bankOwnIf_stable hP | apply foldl_stable (P := P) | apply ite_stable (P := P)
      | dsimp only

theorem dmaEnd_stable (hP : StableIn P free) {x0 x1} (h1 : P x1) : P (dmaEnd x0 x1) := by
  unfold dmaEnd
  try dsimp only
  with_reducible repeat' first
      | assumption | intro _ | apply hP.put | apply State.raiseIf_stable hP | apply dmaReturn_stable hP
      | apply ite_stable (P := P) | dsimp only

theorem dmaStep_stable (hP : StableIn P free) {x0 x1 x2 x3 x4} (h4 : P x4) : P (dmaStep x0 x1 x2 x3 x4) := by
  unfold dmaStep
  try dsimp only
  with_reducible repeat' first
      | assumption | intro _ | apply hP.put | apply dmaEnd_stable hP | dsimp only

theorem busPutHit_stable (hP : StableIn P free) {x0 x1 x2 x3 x4} (h4 : P x4) : P (busPutHit x0 x1 x2 x3 x4).st := by
  unfold busPutHit
  try dsimp only
  with_reducible repeat' first
      | assumption | intro _ | apply restartFor_stable hP | apply busPut_stable hP | apply ite_stable (P := P)
      | apply ite_st (P := P) | apply ite_sec (P := P) | apply ite_snd (P := P) | apply ite_snd2 (P := P)
      | apply ite_fst (P := P) | apply id_stable (P := P) | dsimp only

theorem dmaCopy_stable (hP : StableIn P free) {x0 x1 x2} (h2 : P x2) : P (dmaCopy x0 x1 x2) := by
  unfold dmaCopy
  try dsimp only
  with_reducible repeat' first
      | assumption | intro _ | apply busGet_stable hP | apply dmaFail_stable hP | apply dmaStep_stable hP
      | apply busPutHit_stable hP | apply ite_stable (P := P) | apply ite_st (P := P) | apply ite_sec (P := P)
      | apply ite_snd (P := P) | apply ite_snd2 (P := P) | apply ite_fst (P := P) | apply id_stable (P := P)
      | dsimp only

theorem denseWrite_stable (hP : StableIn P free) {x0 x1 x2 x3} (h3 : P x3) : P (denseWrite x0 x1 x2 x3).st := by
  have go : ∀ (vs : List Nat) (a : Nat) (s : State), ddrBase ≤ a → P s → P (s.storeGranules a vs) := by
    intro vs
    induction vs with
    | nil => intro a s _ h; exact h
    | cons v t ih => intro a s k h; exact ih _ _ (by omega) (hP.granule k h)
  unfold denseWrite
  dsimp only
  split
  · exact h3
  · rename_i h
    have k : ddrBase ≤ x1 := by
      by_contra hk
      apply h
      simp only [List.any_eq_true, List.mem_map, List.mem_range]
      exact ⟨x1 + 0, ⟨0, by omega, rfl⟩, by simp [State.ddrMapped]; omega⟩
    exact ite_st h3 (go _ _ _ k h3)

theorem dmaUndo_stable (hP : StableIn P free) {x0 x1} (h1 : P x1) : P (dmaUndo x0 x1) := by
  unfold dmaUndo
  try dsimp only
  with_reducible repeat' first
      | assumption | intro _ | apply hP.put | apply State.putDma_stable hP | apply ite_stable (P := P)
      | apply ite_st (P := P) | apply ite_sec (P := P) | apply ite_snd (P := P) | apply ite_snd2 (P := P)
      | apply ite_fst (P := P) | apply id_stable (P := P) | dsimp only

theorem dmaPack_stable (hP : StableIn P free) {x0 x1} (h1 : P x1) : P (dmaPack x0 x1) := by
  unfold dmaPack
  try dsimp only
  with_reducible repeat' first
      | assumption | intro _ | apply hP.put | apply State.putDma_stable hP | apply restartFor_stable hP
      | apply busGet_stable hP | apply dmaFail_stable hP | apply dmaStep_stable hP | apply dmaUndo_stable hP
      | apply denseWrite_stable hP | apply ite_stable (P := P) | apply ite_st (P := P) | apply ite_sec (P := P)
      | apply ite_snd (P := P) | apply ite_snd2 (P := P) | apply ite_fst (P := P) | apply id_stable (P := P)
      | dsimp only

theorem granuleReads_stable (hP : StableIn P free) {x0 x1 x2} (h2 : P x2) : P (granuleReads x0 x1 x2).2.2 := by
  fun_induction granuleReads x0 x1 x2 <;> (with_reducible repeat' first
      | assumption | intro _ | apply granuleRead_stable hP | apply ite_stable (P := P) | apply ite_snd2 (P := P) | split
      | refine snd_stable (by assumption) ?_ | refine fst_stable (by assumption) ?_
      | refine some_stable (by assumption) ?_ | refine some_stable2 (by assumption) ?_
      | refine snd2_stable (by assumption) ?_ | refine ‹P _ → P _› ?_ | refine ‹P _ → OptS P _› ?_
      | refine ‹∀ t, P t → OptS P _› _ ?_ | dsimp +zetaDelta only | dsimp only)

theorem dmaUnpack_stable (hP : StableIn P free) {x0 x1 x2} (h2 : P x2) : P (dmaUnpack x0 x1 x2) := by
  unfold dmaUnpack
  try dsimp only
  with_reducible repeat' first
      | assumption | intro _ | apply hP.put | apply State.putDma_stable hP | apply restartFor_stable hP
      | apply dmaFail_stable hP | apply dmaStep_stable hP | apply busPutHit_stable hP | apply dmaUndo_stable hP
      | apply granuleReads_stable hP | apply ite_stable (P := P) | apply ite_st (P := P) | apply ite_sec (P := P)
      | apply ite_snd (P := P) | apply ite_snd2 (P := P) | apply ite_fst (P := P) | apply OptS.some (P := P)
      | exact OptS.none | apply OptS2.some (P := P) | exact OptS2.none | apply OptS.bind (P := P)
      | apply OptS.bind2 (P := P) | apply OptS.map (P := P) | apply OptS.map0 (P := P) | apply OptS2.map (P := P)
      | apply OptS.getD (P := P) | apply OptS.ite (P := P) | apply OptS2.ite (P := P) | apply id_stable (P := P)
      | apply foldl_stable (P := P) | apply foldl_stable2 (P := P) | apply foldl_stable1 (P := P) | split
      | refine snd2_stable (by assumption) ?_ | refine snd_stable (by assumption) ?_
      | refine fst_stable (by assumption) ?_ | refine some_stable (by assumption) ?_
      | refine some_stable2 (by assumption) ?_ | dsimp only

theorem dmaServed_stable (hP : StableIn P free) {x0 x1} (h1 : P x1) : P (dmaServed x0 x1) := by
  unfold dmaServed
  try dsimp only
  with_reducible repeat' first
      | assumption | intro _ | apply hP.put | apply State.putDma_stable hP | apply ite_stable (P := P)
      | apply ite_st (P := P) | apply ite_sec (P := P) | apply ite_snd (P := P) | apply ite_snd2 (P := P)
      | apply ite_fst (P := P) | apply OptS.some (P := P) | exact OptS.none | apply OptS2.some (P := P)
      | exact OptS2.none | apply OptS.bind (P := P) | apply OptS.bind2 (P := P) | apply OptS.map (P := P)
      | apply OptS.map0 (P := P) | apply OptS2.map (P := P) | apply OptS.getD (P := P) | apply OptS.ite (P := P)
      | apply OptS2.ite (P := P) | apply id_stable (P := P) | apply foldl_stable (P := P)
      | apply foldl_stable2 (P := P) | apply foldl_stable1 (P := P) | split | refine snd2_stable (by assumption) ?_
      | refine snd_stable (by assumption) ?_ | refine fst_stable (by assumption) ?_
      | refine some_stable (by assumption) ?_ | refine some_stable2 (by assumption) ?_ | dsimp only

theorem execDmaWord_stable (hP : StableIn P free) {x0 x1 x2} (h1 : P x1) : OutS P (execDmaWord x0 x1 x2) := by
  unfold execDmaWord
  try dsimp only
  with_reducible repeat' first
      | assumption | intro _ | apply dmaCopy_stable hP | apply dmaPack_stable hP | apply dmaUnpack_stable hP
      | apply dmaServed_stable hP | apply OutS.next (P := P) | exact OutS.fault | apply OutS.ite (P := P)
      | apply ite_stable (P := P) | apply ite_st (P := P) | apply ite_sec (P := P) | apply ite_snd (P := P)
      | apply ite_snd2 (P := P) | apply ite_fst (P := P) | apply OptS.some (P := P) | exact OptS.none
      | apply OptS2.some (P := P) | exact OptS2.none | apply OptS.bind (P := P) | apply OptS.bind2 (P := P)
      | apply OptS.map (P := P) | apply OptS.map0 (P := P) | apply OptS2.map (P := P) | apply OptS.getD (P := P)
      | apply OptS.ite (P := P) | apply OptS2.ite (P := P) | apply id_stable (P := P) | apply foldl_stable (P := P)
      | apply foldl_stable2 (P := P) | apply foldl_stable1 (P := P) | split | refine snd2_stable (by assumption) ?_
      | refine snd_stable (by assumption) ?_ | refine fst_stable (by assumption) ?_
      | refine some_stable (by assumption) ?_ | refine some_stable2 (by assumption) ?_ | dsimp only

theorem execClaimWrite_stable (hP : StableIn P free) {x0 x1 x2 x3} (h3 : P x3) : OutS P (execClaimWrite x0 x1 x2 x3) := by
  unfold execClaimWrite
  try dsimp only
  with_reducible repeat' first
      | assumption | intro _ | apply claimWrite_stable hP | apply afterTokens_stable hP | apply onIsland_stable hP
      | apply OutS.next (P := P) | exact OutS.fault | apply OutS.ite (P := P) | apply ite_stable (P := P)
      | apply ite_st (P := P) | apply ite_sec (P := P) | apply ite_snd (P := P) | apply ite_snd2 (P := P)
      | apply ite_fst (P := P) | apply id_stable (P := P) | dsimp only

theorem execCmpEnable_stable (hP : StableIn P free) {x0 x1 x2 x3} (h3 : P x3) : OutS P (execCmpEnable x0 x1 x2 x3) := by
  unfold execCmpEnable
  try dsimp only
  with_reducible repeat' first
      | assumption | intro _ | apply cmpCtrlWrite_stable hP | apply afterTokens_stable hP | apply onIsland_stable hP
      | apply OutS.next (P := P) | exact OutS.fault | apply OutS.ite (P := P) | apply ite_stable (P := P)
      | apply ite_st (P := P) | apply ite_sec (P := P) | apply ite_snd (P := P) | apply ite_snd2 (P := P)
      | apply ite_fst (P := P) | apply id_stable (P := P) | dsimp only

theorem execCmpDisable_stable (hP : StableIn P free) {x0 x1 x2 x3} (h3 : P x3) : OutS P (execCmpDisable x0 x1 x2 x3) := by
  unfold execCmpDisable
  try dsimp only
  with_reducible repeat' first
      | assumption | intro _ | apply cmpCtrlWrite_stable hP | apply afterTokens_stable hP | apply onIsland_stable hP
      | apply OutS.next (P := P) | exact OutS.fault | apply OutS.ite (P := P) | apply ite_stable (P := P)
      | apply ite_st (P := P) | apply ite_sec (P := P) | apply ite_snd (P := P) | apply ite_snd2 (P := P)
      | apply ite_fst (P := P) | apply id_stable (P := P) | dsimp only

theorem execCmpMapWrite_stable (hP : StableIn P free) {x0 x1 x2 x3} (h3 : P x3) : OutS P (execCmpMapWrite x0 x1 x2 x3) := by
  unfold execCmpMapWrite
  try dsimp only
  with_reducible repeat' first
      | assumption | intro _ | apply cmpCtrlWrite_stable hP | apply afterTokens_stable hP | apply onIsland_stable hP
      | apply OutS.next (P := P) | exact OutS.fault | apply OutS.ite (P := P) | apply ite_stable (P := P)
      | apply ite_st (P := P) | apply ite_sec (P := P) | apply ite_snd (P := P) | apply ite_snd2 (P := P)
      | apply ite_fst (P := P) | apply id_stable (P := P) | dsimp only

theorem execCmpThrWrite_stable (hP : StableIn P free) {x0 x1 x2 x3} (h3 : P x3) : OutS P (execCmpThrWrite x0 x1 x2 x3) := by
  unfold execCmpThrWrite
  try dsimp only
  with_reducible repeat' first
      | assumption | intro _ | apply thrWrite_stable hP | apply afterTokens_stable hP | apply onIsland_stable hP
      | apply OutS.next (P := P) | exact OutS.fault | apply OutS.ite (P := P) | apply ite_stable (P := P)
      | apply ite_st (P := P) | apply ite_sec (P := P) | apply ite_snd (P := P) | apply ite_snd2 (P := P)
      | apply ite_fst (P := P) | apply id_stable (P := P) | dsimp only

theorem observe_stable (hP : StableIn P free) {x0 x1 x2 x3 x4} (h4 : P x4) : P (observe x0 x1 x2 x3 x4) := by
  unfold observe
  try dsimp only
  with_reducible repeat' first
      | assumption | intro _ | apply hP.put | apply State.putCmp_stable hP | apply ite_stable (P := P)
      | apply ite_st (P := P) | apply ite_sec (P := P) | apply ite_snd (P := P) | apply ite_snd2 (P := P)
      | apply ite_fst (P := P) | apply id_stable (P := P) | dsimp only

theorem execCmpCondition_stable (hP : StableIn P free) {x0 x1 x2 x3} (h3 : P x3) : OutS P (execCmpCondition x0 x1 x2 x3) := by
  unfold execCmpCondition
  try dsimp only
  with_reducible repeat' first
      | assumption | intro _ | apply hP.put | apply State.putCmp_stable hP | apply observe_stable hP
      | apply OutS.next (P := P) | exact OutS.fault | apply OutS.ite (P := P) | apply ite_stable (P := P)
      | apply ite_st (P := P) | apply ite_sec (P := P) | apply ite_snd (P := P) | apply ite_snd2 (P := P)
      | apply ite_fst (P := P) | apply id_stable (P := P) | dsimp only

theorem execCmpConditionClear_stable (hP : StableIn P free) {x0 x1 x2 x3} (h3 : P x3) : OutS P (execCmpConditionClear x0 x1 x2 x3) := by
  unfold execCmpConditionClear
  try dsimp only
  with_reducible repeat' first
      | assumption | intro _ | apply dropConditions_stable hP | apply observe_stable hP | apply OutS.next (P := P)
      | exact OutS.fault | apply OutS.ite (P := P) | apply ite_stable (P := P) | apply ite_st (P := P)
      | apply ite_sec (P := P) | apply ite_snd (P := P) | apply ite_snd2 (P := P) | apply ite_fst (P := P)
      | apply id_stable (P := P) | dsimp only

theorem execBlankOpen_stable (hP : StableIn P free) {x0 x1} (h1 : P x1) : OutS P (execBlankOpen x0 x1) := by
  unfold execBlankOpen
  try dsimp only
  with_reducible repeat' first
      | assumption | intro _ | apply hP.put | apply State.putCmp_stable hP | apply State.advanceTo_stable hP
      | apply OutS.next (P := P) | exact OutS.fault | apply OutS.ite (P := P) | apply ite_stable (P := P)
      | apply ite_st (P := P) | apply ite_sec (P := P) | apply ite_snd (P := P) | apply ite_snd2 (P := P)
      | apply ite_fst (P := P) | apply OptS.some (P := P) | exact OptS.none | apply OptS2.some (P := P)
      | exact OptS2.none | apply OptS.bind (P := P) | apply OptS.bind2 (P := P) | apply OptS.map (P := P)
      | apply OptS.map0 (P := P) | apply OptS2.map (P := P) | apply OptS.getD (P := P) | apply OptS.ite (P := P)
      | apply OptS2.ite (P := P) | apply id_stable (P := P) | apply foldl_stable (P := P)
      | apply foldl_stable2 (P := P) | apply foldl_stable1 (P := P) | split | refine snd2_stable (by assumption) ?_
      | refine snd_stable (by assumption) ?_ | refine fst_stable (by assumption) ?_
      | refine some_stable (by assumption) ?_ | refine some_stable2 (by assumption) ?_ | dsimp only

theorem execBlankClose_stable (hP : StableIn P free) {x0 x1} (h1 : P x1) : OutS P (execBlankClose x0 x1) := by
  unfold execBlankClose
  try dsimp only
  with_reducible repeat' first
      | assumption | intro _ | apply hP.put | apply State.putCmp_stable hP | apply State.advanceTo_stable hP
      | apply OutS.next (P := P) | apply ite_stable (P := P) | apply OutS.ite (P := P) | dsimp only

theorem tripAssert_stable (hP : StableIn P free) {x0 x1} (h1 : P x1) : P (tripAssert x0 x1) := by
  unfold tripAssert
  try dsimp only
  with_reducible repeat' first
      | assumption | intro _ | apply hP.put | apply State.putCmp_stable hP | apply driveGroups_stable hP
      | apply State.incSat_stable hP | apply State.putIf_stable hP | apply State.raiseAt_stable hP
      | apply State.raise_stable hP | apply State.putTrig_stable hP | apply ite_stable (P := P)
      | apply ite_st (P := P) | apply ite_sec (P := P) | apply ite_snd (P := P) | apply ite_snd2 (P := P)
      | apply ite_fst (P := P) | apply id_stable (P := P) | dsimp only

theorem execTripAssert_stable (hP : StableIn P free) {x0 x1} (h1 : P x1) : OutS P (execTripAssert x0 x1) := by
  unfold execTripAssert
  try dsimp only
  with_reducible repeat' first
      | assumption | intro _ | apply tripAssert_stable hP | apply State.advanceTo_stable hP | apply OutS.next (P := P)
      | apply ite_stable (P := P) | apply OutS.ite (P := P) | split | dsimp only

theorem execCycleGateRelease_stable (hP : StableIn P free) {x0 x1} (h1 : P x1) : OutS P (execCycleGateRelease x0 x1) := by
  unfold execCycleGateRelease
  try dsimp only
  with_reducible repeat' first
      | assumption | intro _ | apply hP.put | apply State.putCmp_stable hP | apply State.advanceTo_stable hP
      | apply refreshGroup_stable hP | apply OutS.next (P := P) | exact OutS.fault | apply OutS.ite (P := P)
      | apply ite_stable (P := P) | apply ite_st (P := P) | apply ite_sec (P := P) | apply ite_snd (P := P)
      | apply ite_snd2 (P := P) | apply ite_fst (P := P) | apply OptS.some (P := P) | exact OptS.none
      | apply OptS2.some (P := P) | exact OptS2.none | apply OptS.bind (P := P) | apply OptS.bind2 (P := P)
      | apply OptS.map (P := P) | apply OptS.map0 (P := P) | apply OptS2.map (P := P) | apply OptS.getD (P := P)
      | apply OptS.ite (P := P) | apply OptS2.ite (P := P) | apply id_stable (P := P) | apply foldl_stable (P := P)
      | apply foldl_stable2 (P := P) | apply foldl_stable1 (P := P) | split | refine snd2_stable (by assumption) ?_
      | refine snd_stable (by assumption) ?_ | refine fst_stable (by assumption) ?_
      | refine some_stable (by assumption) ?_ | refine some_stable2 (by assumption) ?_ | dsimp only

theorem armLoop_stable (hP : StableIn P free) {x0 x1 x2 x3} (h3 : P x3) : P (armLoop x0 x1 x2 x3) := by
  unfold armLoop
  try dsimp only
  with_reducible repeat' first
      | assumption | intro _ | apply hP.put | apply State.putCore_stable hP | apply dirty_stable hP
      | apply ite_stable (P := P) | apply ite_st (P := P) | apply ite_sec (P := P) | apply ite_snd (P := P)
      | apply ite_snd2 (P := P) | apply ite_fst (P := P) | apply id_stable (P := P) | dsimp only

theorem State.putLoop_stable (hP : StableIn P free) {x0 x1 x2} (h0 : P x0) : P (State.putLoop x0 x1 x2) := by
  unfold State.putLoop
  try dsimp only
  with_reducible repeat' first
      | assumption | intro _ | apply hP.put | apply State.putTask_stable hP | apply State.putCore_stable hP
      | apply ite_stable (P := P) | split | refine snd_stable (by assumption) ?_ | refine fst_stable (by assumption) ?_
      | refine some_stable (by assumption) ?_ | refine some_stable2 (by assumption) ?_
      | refine snd2_stable (by assumption) ?_ | dsimp only

theorem loopStart_stable (hP : StableIn P free) {x0 x1 x2 x3} (h3 : P x3) : P (loopStart x0 x1 x2 x3) := by
  unfold loopStart
  try dsimp only
  with_reducible repeat' first
      | assumption | intro _ | apply hP.put | apply armLoop_stable hP | apply illegal_stable hP | apply pass_stable hP
      | apply State.putLoop_stable hP | apply adv_stable hP | apply ite_stable (P := P) | apply ite_st (P := P)
      | apply ite_sec (P := P) | apply ite_snd (P := P) | apply ite_snd2 (P := P) | apply ite_fst (P := P)
      | apply id_stable (P := P) | dsimp only

theorem execLoop_stable (hP : StableIn P free) {x0 x1 x2 x3} (h3 : P x3) : OutS P (execLoop x0 x1 x2 x3) := by
  unfold execLoop
  try dsimp only
  with_reducible repeat' first
      | assumption | intro _ | apply issue_stable hP | apply loopStart_stable hP | apply OutS.next (P := P) | dsimp only

theorem backEdge_stable (hP : StableIn P free) {x0 x1} (h1 : P x1) : P (backEdge x0 x1) := by
  unfold backEdge
  try dsimp only
  with_reducible repeat' first
      | assumption | intro _ | apply hP.put | apply State.putReg_stable hP | apply State.putLoop_stable hP
      | apply State.putCore_stable hP | apply ite_stable (P := P) | split | refine snd_stable (by assumption) ?_
      | refine fst_stable (by assumption) ?_ | refine some_stable (by assumption) ?_
      | refine some_stable2 (by assumption) ?_ | refine snd2_stable (by assumption) ?_ | dsimp only

theorem execLoopBackEdge_stable (hP : StableIn P free) {x0 x1} (h1 : P x1) : OutS P (execLoopBackEdge x0 x1) := by
  unfold execLoopBackEdge
  try dsimp only
  with_reducible repeat' first
      | assumption | intro _ | apply hP.put | apply State.putCore_stable hP | apply backEdge_stable hP
      | apply prefetchNext_stable hP | apply OutS.next (P := P) | exact OutS.fault | apply OutS.ite (P := P)
      | apply ite_stable (P := P) | apply ite_st (P := P) | apply ite_sec (P := P) | apply ite_snd (P := P)
      | apply ite_snd2 (P := P) | apply ite_fst (P := P) | apply id_stable (P := P) | dsimp only

theorem armBranch_stable (hP : StableIn P free) {x0 x1 x2 x3} (h3 : P x3) : P (armBranch x0 x1 x2 x3) := by
  unfold armBranch
  try dsimp only
  with_reducible repeat' first
      | assumption | intro _ | apply armLoop_stable hP | apply ite_stable (P := P) | dsimp only

theorem abandon_stable (hP : StableIn P free) {x0 x1 x2} (h2 : P x2) : P (abandon x0 x1 x2) := by
  unfold abandon
  try dsimp only
  with_reducible repeat' first
      | assumption | intro _ | apply fetchRegion_stable hP | apply ite_stable (P := P) | apply ite_st (P := P)
      | apply ite_sec (P := P) | apply ite_snd (P := P) | apply ite_snd2 (P := P) | apply ite_fst (P := P)
      | apply id_stable (P := P) | dsimp only

theorem taken_stable (hP : StableIn P free) {x0 x1 x2 x3 x4} (h3 : P x3) (h4 : P x4) : P (taken x0 x1 x2 x3 x4) := by
  unfold taken
  try dsimp only
  with_reducible repeat' first
      | assumption | intro _ | apply pass_stable hP | apply abandon_stable hP | apply ite_stable (P := P)
      | apply ite_st (P := P) | apply ite_sec (P := P) | apply ite_snd (P := P) | apply ite_snd2 (P := P)
      | apply ite_fst (P := P) | apply id_stable (P := P) | dsimp only

theorem fetchBehind_stable (hP : StableIn P free) {x0 x1 x2 x3 x4} (h3 : P x3) (h4 : P x4) : P (fetchBehind x0 x1 x2 x3 x4) := by
  unfold fetchBehind
  try dsimp only
  with_reducible repeat' first
      | assumption | intro _ | apply hP.put | apply State.putCore_stable hP | apply prefetchNext_stable hP
      | apply ite_stable (P := P) | apply ite_st (P := P) | apply ite_sec (P := P) | apply ite_snd (P := P)
      | apply ite_snd2 (P := P) | apply ite_fst (P := P) | apply OptS.some (P := P) | exact OptS.none
      | apply OptS2.some (P := P) | exact OptS2.none | apply OptS.bind (P := P) | apply OptS.bind2 (P := P)
      | apply OptS.map (P := P) | apply OptS.map0 (P := P) | apply OptS2.map (P := P) | apply OptS.getD (P := P)
      | apply OptS.ite (P := P) | apply OptS2.ite (P := P) | apply id_stable (P := P) | apply foldl_stable (P := P)
      | apply foldl_stable2 (P := P) | apply foldl_stable1 (P := P) | split | refine snd2_stable (by assumption) ?_
      | refine snd_stable (by assumption) ?_ | refine fst_stable (by assumption) ?_
      | refine some_stable (by assumption) ?_ | refine some_stable2 (by assumption) ?_ | dsimp only

theorem transfer_stable (hP : StableIn P free) {x0 x1 x2 x3 x4} (hk3 : ∀ y0, P y0 → P (x3 y0)) (h4 : P x4) : P (transfer x0 x1 x2 x3 x4) := by
  unfold transfer
  try dsimp only
  with_reducible repeat' first
      | assumption | intro _ | apply loopEdge_stable hP | apply taken_stable hP | apply fetchBehind_stable hP
      | apply hk3 | apply ite_stable (P := P) | apply ite_st (P := P) | apply ite_sec (P := P)
      | apply ite_snd (P := P) | apply ite_snd2 (P := P) | apply ite_fst (P := P) | apply id_stable (P := P)
      | dsimp only

theorem leaveLoop_stable (hP : StableIn P free) {x0 x1 x2} (h2 : P x2) : P (leaveLoop x0 x1 x2) := by
  unfold leaveLoop
  try dsimp only
  with_reducible repeat' first
      | assumption | intro _ | apply hP.put | apply State.putLoop_stable hP | apply ite_stable (P := P) | split
      | refine snd_stable (by assumption) ?_ | refine fst_stable (by assumption) ?_
      | refine some_stable (by assumption) ?_ | refine some_stable2 (by assumption) ?_
      | refine snd2_stable (by assumption) ?_ | dsimp only

theorem jumpTo_stable (hP : StableIn P free) {x0 x1 x2} (h2 : P x2) : P (jumpTo x0 x1 x2) := by
  unfold jumpTo
  try dsimp only
  with_reducible repeat' first
      | assumption | intro _ | apply hP.put | apply leaveLoop_stable hP | apply State.putCore_stable hP | dsimp only

theorem execBr_stable (hP : StableIn P free) {x0 x1 x2 x3} (h3 : P x3) : OutS P (execBr x0 x1 x2 x3) := by
  unfold execBr
  try dsimp only
  with_reducible repeat' first
      | assumption | intro _ | apply armBranch_stable hP | apply illegal_stable hP | apply jumpTo_stable hP
      | apply issue_stable hP | apply adv_stable hP | apply transfer_stable hP | apply OutS.next (P := P)
      | exact OutS.fault | apply OutS.ite (P := P) | apply ite_stable (P := P) | apply ite_st (P := P)
      | apply ite_sec (P := P) | apply ite_snd (P := P) | apply ite_snd2 (P := P) | apply ite_fst (P := P)
      | apply id_stable (P := P) | dsimp only

theorem callTo_stable (hP : StableIn P free) {x0 x1 x2 x3} (h3 : P x3) : P (callTo x0 x1 x2 x3) := by
  unfold callTo
  try dsimp only
  with_reducible repeat' first
      | assumption | intro _ | apply hP.put | apply State.putCore_stable hP | apply raiseSync_stable hP
      | apply State.putTask_stable hP | apply ite_stable (P := P) | dsimp only

theorem call_stable (hP : StableIn P free) {x0 x1 x2 x3} (h3 : P x3) : P (call x0 x1 x2 x3) := by
  unfold call
  try dsimp only
  with_reducible repeat' first
      | assumption | intro _ | apply callTo_stable hP | apply transfer_stable hP | apply ite_stable (P := P)
      | apply ite_st (P := P) | apply ite_sec (P := P) | apply ite_snd (P := P) | apply ite_snd2 (P := P)
      | apply ite_fst (P := P) | apply id_stable (P := P) | dsimp only

theorem execCallw_stable (hP : StableIn P free) {x0 x1 x2 x3} (h3 : P x3) : OutS P (execCallw x0 x1 x2 x3) := by
  unfold execCallw
  try dsimp only
  with_reducible repeat' first
      | assumption | intro _ | apply issue_stable hP | apply illegal_stable hP | apply call_stable hP
      | apply adv_stable hP | apply OutS.next (P := P) | apply ite_stable (P := P) | apply OutS.ite (P := P)
      | dsimp only

theorem execJmpr_stable (hP : StableIn P free) {x0 x1 x2} (h2 : P x2) : OutS P (execJmpr x0 x1 x2) := by
  unfold execJmpr
  try dsimp only
  with_reducible repeat' first
      | assumption | intro _ | apply jumpTo_stable hP | apply issue_stable hP | apply transfer_stable hP
      | apply OutS.next (P := P) | exact OutS.fault | apply OutS.ite (P := P) | apply ite_stable (P := P)
      | apply ite_st (P := P) | apply ite_sec (P := P) | apply ite_snd (P := P) | apply ite_snd2 (P := P)
      | apply ite_fst (P := P) | apply id_stable (P := P) | dsimp only

theorem execCallwr_stable (hP : StableIn P free) {x0 x1 x2} (h2 : P x2) : OutS P (execCallwr x0 x1 x2) := by
  unfold execCallwr
  try dsimp only
  with_reducible repeat' first
      | assumption | intro _ | apply hP.wr | apply issue_stable hP | apply call_stable hP | apply OutS.next (P := P)
      | dsimp only

theorem longForm_stable (hP : StableIn P free) {x0 x1 x2 x3} (hk2 : ∀ y0 y1, P y1 → P (x2 y0 y1)) (h3 : P x3) : P (longForm x0 x1 x2 x3) := by
  unfold longForm
  try dsimp only
  with_reducible repeat' first
      | assumption | intro _ | apply hk2 | apply issue_stable hP | apply illegal_stable hP | apply ite_stable (P := P)
      | dsimp only

theorem execJmpl_stable (hP : StableIn P free) {x0 x1 x2} (h2 : P x2) : OutS P (execJmpl x0 x1 x2) := by
  unfold execJmpl
  try dsimp only
  with_reducible repeat' first
      | assumption | intro _ | apply jumpTo_stable hP | apply issue_stable hP | apply transfer_stable hP
      | apply longForm_stable hP | apply OutS.next (P := P) | exact OutS.fault | apply OutS.ite (P := P)
      | apply ite_stable (P := P) | apply ite_st (P := P) | apply ite_sec (P := P) | apply ite_snd (P := P)
      | apply ite_snd2 (P := P) | apply ite_fst (P := P) | apply id_stable (P := P) | dsimp only

theorem execCallwl_stable (hP : StableIn P free) {x0 x1 x2} (h2 : P x2) : OutS P (execCallwl x0 x1 x2) := by
  unfold execCallwl
  try dsimp only
  with_reducible repeat' first
      | assumption | intro _ | apply longForm_stable hP | apply issue_stable hP | apply call_stable hP
      | apply OutS.next (P := P) | dsimp only

theorem leaveLoopWindow_stable (hP : StableIn P free) {x0 x1} (h1 : P x1) : P (leaveLoopWindow x0 x1) := by
  unfold leaveLoopWindow
  try dsimp only
  with_reducible repeat' first
      | assumption | intro _ | apply hP.put | apply State.putLoop_stable hP | apply ite_stable (P := P) | split
      | refine snd_stable (by assumption) ?_ | refine fst_stable (by assumption) ?_
      | refine some_stable (by assumption) ?_ | refine some_stable2 (by assumption) ?_
      | refine snd2_stable (by assumption) ?_ | dsimp only

theorem returnTo_stable (hP : StableIn P free) {x0 x1} (h1 : P x1) : P (returnTo x0 x1) := by
  unfold returnTo
  try dsimp only
  with_reducible repeat' first
      | assumption | intro _ | apply hP.put | apply raiseSync_stable hP | apply leaveLoopWindow_stable hP
      | apply State.putTask_stable hP | apply State.putCore_stable hP | apply ite_stable (P := P) | split
      | refine snd_stable (by assumption) ?_ | refine fst_stable (by assumption) ?_
      | refine some_stable (by assumption) ?_ | refine some_stable2 (by assumption) ?_
      | refine snd2_stable (by assumption) ?_ | dsimp only

theorem execRetw_stable (hP : StableIn P free) {x0 x1} (h1 : P x1) : OutS P (execRetw x0 x1) := by
  unfold execRetw
  try dsimp only
  with_reducible repeat' first
      | assumption | intro _ | apply returnTo_stable hP | apply issue_stable hP | apply transfer_stable hP
      | apply OutS.next (P := P) | exact OutS.fault | apply OutS.ite (P := P) | apply ite_stable (P := P)
      | apply ite_st (P := P) | apply ite_sec (P := P) | apply ite_snd (P := P) | apply ite_snd2 (P := P)
      | apply ite_fst (P := P) | apply id_stable (P := P) | dsimp only

theorem execNop_stable (hP : StableIn P free) {x0 x1} (h1 : P x1) : OutS P (execNop x0 x1) := by
  unfold execNop
  try dsimp only
  with_reducible repeat' first
      | assumption | intro _ | apply issue_stable hP | apply adv_stable hP | apply OutS.next (P := P) | dsimp only

theorem syncCore_stable (hP : StableIn P free) {x0 x1} (h1 : P x1) : P (syncCore x0 x1) := by
  unfold syncCore
  try dsimp only
  with_reducible repeat' first
      | assumption | intro _ | apply hP.put | apply State.putCore_stable hP | apply pass_stable hP
      | apply abandon_stable hP | apply adv_stable hP | apply settle_stable hP | apply ite_stable (P := P)
      | apply ite_st (P := P) | apply ite_sec (P := P) | apply ite_snd (P := P) | apply ite_snd2 (P := P)
      | apply ite_fst (P := P) | apply id_stable (P := P) | dsimp only

theorem execSync_stable (hP : StableIn P free) {x0 x1} (h1 : P x1) : OutS P (execSync x0 x1) := by
  unfold execSync
  try dsimp only
  with_reducible repeat' first
      | assumption | intro _ | apply issue_stable hP | apply syncCore_stable hP | apply OutS.next (P := P) | dsimp only

theorem execTrap_stable (hP : StableIn P free) {x0 x1 x2} (h2 : P x2) : OutS P (execTrap x0 x1 x2) := by
  unfold execTrap
  try dsimp only
  with_reducible repeat' first
      | assumption | intro _ | apply issue_stable hP | apply raiseSync_stable hP | apply OutS.next (P := P) | dsimp only

theorem holdFor_stable (hP : StableIn P free) {x0 x1 x2} (h2 : P x2) : P (holdFor x0 x1 x2) := by
  unfold holdFor
  try dsimp only
  with_reducible repeat' first
      | assumption | intro _ | apply hP.put | apply State.putCore_stable hP | apply holdEnd_stable hP
      | apply holdOn_stable hP | apply ite_stable (P := P) | apply ite_st (P := P) | apply ite_sec (P := P)
      | apply ite_snd (P := P) | apply ite_snd2 (P := P) | apply ite_fst (P := P) | apply id_stable (P := P)
      | dsimp only

theorem execHold_stable (hP : StableIn P free) {x0 x1 x2} (h2 : P x2) : OutS P (execHold x0 x1 x2) := by
  unfold execHold
  try dsimp only
  with_reducible repeat' first
      | assumption | intro _ | apply issue_stable hP | apply adv_stable hP | apply holdFor_stable hP
      | apply OutS.next (P := P) | dsimp only

theorem parkTask_stable (hP : StableIn P free) {x0 x1} (h1 : P x1) : P (parkTask x0 x1) := by
  unfold parkTask
  try dsimp only
  with_reducible repeat' first
      | assumption | intro _ | apply hP.put | apply State.putTask_stable hP | apply ite_stable (P := P)
      | apply ite_st (P := P) | apply ite_sec (P := P) | apply ite_snd (P := P) | apply ite_snd2 (P := P)
      | apply ite_fst (P := P) | apply id_stable (P := P) | dsimp only

theorem returnFrom_stable (hP : StableIn P free) {x0 x1 x2} (h2 : P x2) : P (returnFrom x0 x1 x2) := by
  unfold returnFrom
  try dsimp only
  with_reducible repeat' first
      | assumption | intro _ | apply hP.put | apply State.putCore_stable hP | apply State.putReg_stable hP
      | apply coreShow_stable hP | apply postInner_stable hP | apply parkTask_stable hP | apply State.report_stable hP
      | apply ite_stable (P := P) | apply ite_st (P := P) | apply ite_sec (P := P) | apply ite_snd (P := P)
      | apply ite_snd2 (P := P) | apply ite_fst (P := P) | apply OptS.some (P := P) | exact OptS.none
      | apply OptS2.some (P := P) | exact OptS2.none | apply OptS.bind (P := P) | apply OptS.bind2 (P := P)
      | apply OptS.map (P := P) | apply OptS.map0 (P := P) | apply OptS2.map (P := P) | apply OptS.getD (P := P)
      | apply OptS.ite (P := P) | apply OptS2.ite (P := P) | apply id_stable (P := P) | apply foldl_stable (P := P)
      | apply foldl_stable2 (P := P) | apply foldl_stable1 (P := P) | split | refine snd2_stable (by assumption) ?_
      | refine snd_stable (by assumption) ?_ | refine fst_stable (by assumption) ?_
      | refine some_stable (by assumption) ?_ | refine some_stable2 (by assumption) ?_ | dsimp only

theorem execRete_stable (hP : StableIn P free) {x0 x1} (h1 : P x1) : OutS P (execRete x0 x1) := by
  unfold execRete
  try dsimp only
  with_reducible repeat' first
      | assumption | intro _ | apply illegal_stable hP | apply returnFrom_stable hP | apply issue_stable hP
      | apply taken_stable hP | apply fetchBehind_stable hP | apply settle_stable hP | apply OutS.next (P := P)
      | exact OutS.fault | apply OutS.ite (P := P) | apply ite_stable (P := P) | apply ite_st (P := P)
      | apply ite_sec (P := P) | apply ite_snd (P := P) | apply ite_snd2 (P := P) | apply ite_fst (P := P)
      | apply id_stable (P := P) | dsimp only

theorem waitFor_stable (hP : StableIn P free) {x0 x1 x2 x3} (h3 : P x3) : P (waitFor x0 x1 x2 x3) := by
  unfold waitFor
  try dsimp only
  with_reducible repeat' first
      | assumption | intro _ | apply hP.put | apply State.putTask_stable hP | apply State.putCore_stable hP | dsimp only

theorem waite_stable (hP : StableIn P free) {x0 x1 x2 x3} (h3 : P x3) : P (waite x0 x1 x2 x3) := by
  unfold waite
  try dsimp only
  with_reducible repeat' first
      | assumption | intro _ | apply hP.put | apply waitFor_stable hP | apply State.putReg_stable hP
      | apply illegal_stable hP | apply pass_stable hP | apply parkTask_stable hP | apply adv_stable hP
      | apply settle_stable hP | apply ite_stable (P := P) | apply ite_st (P := P) | apply ite_sec (P := P)
      | apply ite_snd (P := P) | apply ite_snd2 (P := P) | apply ite_fst (P := P) | apply id_stable (P := P)
      | dsimp only

theorem execWaite_stable (hP : StableIn P free) {x0 x1 x2 x3} (h3 : P x3) : OutS P (execWaite x0 x1 x2 x3) := by
  unfold execWaite
  try dsimp only
  with_reducible repeat' first
      | assumption | intro _ | apply issue_stable hP | apply waite_stable hP | apply OutS.next (P := P) | dsimp only

theorem State.setFlags_stable (hP : StableIn P free) {x0 x1 x2 x3 x4 x5} (h0 : P x0) : P (State.setFlags x0 x1 x2 x3 x4 x5) := by
  unfold State.setFlags
  try dsimp only
  with_reducible repeat' first
      | assumption | intro _ | apply hP.put | apply State.putCore_stable hP | dsimp only

theorem putRecord_stable (hP : StableIn P free) {x0 x1 x2} (h2 : P x2) : P (putRecord x0 x1 x2) := by
  unfold putRecord
  try dsimp only
  with_reducible repeat' first
      | assumption | intro _ | apply hP.put | dsimp only

theorem putEnt_stable (hP : StableIn P free) {x0 x1 x2 x3 x4 x5} (h5 : P x5) : P (putEnt x0 x1 x2 x3 x4 x5) := by
  unfold putEnt
  try dsimp only
  with_reducible repeat' first
      | assumption | intro _ | apply hP.put | dsimp only

theorem enterAt_stable (hP : StableIn P free) {x0 x1 x2 x3} (h3 : P x3) : P (enterAt x0 x1 x2 x3) := by
  unfold enterAt
  try dsimp only
  with_reducible repeat' first
      | assumption | intro _ | apply hP.put | apply State.putCore_stable hP | apply ite_stable (P := P)
      | apply ite_st (P := P) | apply ite_sec (P := P) | apply ite_snd (P := P) | apply ite_snd2 (P := P)
      | apply ite_fst (P := P) | apply id_stable (P := P) | dsimp only

theorem enter_stable (hP : StableIn P free) {x0 x1 x2 x3 x4 x5} (h5 : P x5) : P (enter x0 x1 x2 x3 x4 x5) := by
  unfold enter
  try dsimp only
  with_reducible repeat' first
      | assumption | intro _ | apply hP.put | apply coreShow_stable hP | apply pass_stable hP
      | apply putRecord_stable hP | apply putEnt_stable hP | apply enterAt_stable hP | apply ite_stable (P := P)
      | apply ite_st (P := P) | apply ite_sec (P := P) | apply ite_snd (P := P) | apply ite_snd2 (P := P)
      | apply ite_fst (P := P) | apply OptS.some (P := P) | exact OptS.none | apply OptS2.some (P := P)
      | exact OptS2.none | apply OptS.bind (P := P) | apply OptS.bind2 (P := P) | apply OptS.map (P := P)
      | apply OptS.map0 (P := P) | apply OptS2.map (P := P) | apply OptS.getD (P := P) | apply OptS.ite (P := P)
      | apply OptS2.ite (P := P) | apply id_stable (P := P) | apply foldl_stable (P := P)
      | apply foldl_stable2 (P := P) | apply foldl_stable1 (P := P) | split | refine snd2_stable (by assumption) ?_
      | refine snd_stable (by assumption) ?_ | refine fst_stable (by assumption) ?_
      | refine some_stable (by assumption) ?_ | refine some_stable2 (by assumption) ?_ | dsimp only

theorem enterSync_stable (hP : StableIn P free) {x0 x1 x2} (h2 : P x2) : P (enterSync x0 x1 x2) := by
  unfold enterSync
  try dsimp only
  with_reducible repeat' first
      | assumption | intro _ | apply hP.put | apply State.putCore_stable hP | apply backEdge_stable hP
      | apply enter_stable hP | apply ite_stable (P := P) | apply ite_st (P := P) | apply ite_sec (P := P)
      | apply ite_snd (P := P) | apply ite_snd2 (P := P) | apply ite_fst (P := P) | apply OptS.some (P := P)
      | exact OptS.none | apply OptS2.some (P := P) | exact OptS2.none | apply OptS.bind (P := P)
      | apply OptS.bind2 (P := P) | apply OptS.map (P := P) | apply OptS.map0 (P := P) | apply OptS2.map (P := P)
      | apply OptS.getD (P := P) | apply OptS.ite (P := P) | apply OptS2.ite (P := P) | apply id_stable (P := P)
      | apply foldl_stable (P := P) | apply foldl_stable2 (P := P) | apply foldl_stable1 (P := P) | split
      | refine snd2_stable (by assumption) ?_ | refine snd_stable (by assumption) ?_
      | refine fst_stable (by assumption) ?_ | refine some_stable (by assumption) ?_
      | refine some_stable2 (by assumption) ?_ | dsimp only

theorem takeCause_stable (hP : StableIn P free) {x0 x1} (h1 : P x1) : P (takeCause x0 x1) := by
  unfold takeCause
  try dsimp only
  with_reducible repeat' first
      | assumption | intro _ | apply hP.put | apply State.putCore_stable hP | apply enter_stable hP
      | apply enterSync_stable hP | apply ite_stable (P := P) | apply ite_st (P := P) | apply ite_sec (P := P)
      | apply ite_snd (P := P) | apply ite_snd2 (P := P) | apply ite_fst (P := P) | apply OptS.some (P := P)
      | exact OptS.none | apply OptS2.some (P := P) | exact OptS2.none | apply OptS.bind (P := P)
      | apply OptS.bind2 (P := P) | apply OptS.map (P := P) | apply OptS.map0 (P := P) | apply OptS2.map (P := P)
      | apply OptS.getD (P := P) | apply OptS.ite (P := P) | apply OptS2.ite (P := P) | apply id_stable (P := P)
      | apply foldl_stable (P := P) | apply foldl_stable2 (P := P) | apply foldl_stable1 (P := P) | split
      | refine snd2_stable (by assumption) ?_ | refine snd_stable (by assumption) ?_
      | refine fst_stable (by assumption) ?_ | refine some_stable (by assumption) ?_
      | refine some_stable2 (by assumption) ?_ | dsimp only

theorem uncount_stable (hP : StableIn P free) {x0 x1 x2} (h2 : P x2) : P (uncount x0 x1 x2) := by
  unfold uncount
  try dsimp only
  with_reducible repeat' first
      | assumption | intro _ | apply hP.put | apply State.putCore_stable hP | apply State.putReg_stable hP
      | apply State.putLoop_stable hP | apply ite_stable (P := P) | apply ite_st (P := P) | apply ite_sec (P := P)
      | apply ite_snd (P := P) | apply ite_snd2 (P := P) | apply ite_fst (P := P) | apply OptS.some (P := P)
      | exact OptS.none | apply OptS2.some (P := P) | exact OptS2.none | apply OptS.bind (P := P)
      | apply OptS.bind2 (P := P) | apply OptS.map (P := P) | apply OptS.map0 (P := P) | apply OptS2.map (P := P)
      | apply OptS.getD (P := P) | apply OptS.ite (P := P) | apply OptS2.ite (P := P) | apply id_stable (P := P)
      | apply foldl_stable (P := P) | apply foldl_stable2 (P := P) | apply foldl_stable1 (P := P) | split
      | refine snd2_stable (by assumption) ?_ | refine snd_stable (by assumption) ?_
      | refine fst_stable (by assumption) ?_ | refine some_stable (by assumption) ?_
      | refine some_stable2 (by assumption) ?_ | dsimp only

theorem takeOver_stable (hP : StableIn P free) {x0 x1 x2 x3 x4} (h4 : P x4) : P (takeOver x0 x1 x2 x3 x4) := by
  unfold takeOver
  try dsimp only
  with_reducible repeat' first
      | assumption | intro _ | apply hP.put | apply State.putCore_stable hP | apply coreShow_stable hP
      | apply putRecord_stable hP | apply putEnt_stable hP | apply enterAt_stable hP | apply uncount_stable hP
      | apply ite_stable (P := P) | apply ite_st (P := P) | apply ite_sec (P := P) | apply ite_snd (P := P)
      | apply ite_snd2 (P := P) | apply ite_fst (P := P) | apply OptS.some (P := P) | exact OptS.none
      | apply OptS2.some (P := P) | exact OptS2.none | apply OptS.bind (P := P) | apply OptS.bind2 (P := P)
      | apply OptS.map (P := P) | apply OptS.map0 (P := P) | apply OptS2.map (P := P) | apply OptS.getD (P := P)
      | apply OptS.ite (P := P) | apply OptS2.ite (P := P) | apply id_stable (P := P) | apply foldl_stable (P := P)
      | apply foldl_stable2 (P := P) | apply foldl_stable1 (P := P) | split | refine snd2_stable (by assumption) ?_
      | refine snd_stable (by assumption) ?_ | refine fst_stable (by assumption) ?_
      | refine some_stable (by assumption) ?_ | refine some_stable2 (by assumption) ?_ | dsimp only

theorem engForm_stable (hP : StableIn P free) {x0 x1 x2 x3} (hk2 : ∀ y0, P y0 → P (x2 y0)) (h3 : P x3) : P (engForm x0 x1 x2 x3) := by
  unfold engForm
  try dsimp only
  with_reducible repeat' first
      | assumption | intro _ | apply hk2 | apply issue_stable hP | apply illegal_stable hP | apply ite_stable (P := P)
      | dsimp only

theorem cpRecord_stable (hP : StableIn P free) {x0 x1 x2 x3} (h3 : P x3) : P (cpRecord x0 x1 x2 x3) := by
  unfold cpRecord
  try dsimp only
  with_reducible repeat' first
      | assumption | intro _ | apply hP.put | apply dirty_stable hP | dsimp only

theorem corePerform_stable (hP : StableIn P free) {x0 x1 x2} (h2 : P x2) : P (corePerform x0 x1 x2) := by
  unfold corePerform
  try dsimp only
  with_reducible repeat' first
      | assumption | intro _ | apply hP.put | apply corePuts_stable hP | apply State.putCore_stable hP
      | apply ite_stable (P := P) | dsimp only

theorem coreWrite_stable (hP : StableIn P free) {x0 x1 x2 x3 x4 x5} (hk4 : ∀ y0, P y0 → P (x4 y0)) (h5 : P x5) : P (coreWrite x0 x1 x2 x3 x4 x5) := by
  unfold coreWrite
  try dsimp only
  with_reducible repeat' first
      | assumption | intro _ | apply busPut_stable hP | apply raiseSync_stable hP | apply accessed_stable hP
      | apply prefetch_stable hP | apply coreHold_stable hP | apply settle_stable hP | apply corePerform_stable hP
      | apply hk4 | apply ite_stable (P := P) | apply ite_st (P := P) | apply ite_sec (P := P)
      | apply ite_snd (P := P) | apply ite_snd2 (P := P) | apply ite_fst (P := P) | apply id_stable (P := P)
      | dsimp only

theorem execEcmd_stable (hP : StableIn P free) {x0 x1 x2 x3} (h3 : P x3) : OutS P (execEcmd x0 x1 x2 x3) := by
  unfold execEcmd
  try dsimp only
  with_reducible repeat' first
      | assumption | intro _ | apply engForm_stable hP | apply cpRecord_stable hP | apply adv_stable hP
      | apply coreWrite_stable hP | apply OutS.next (P := P) | exact OutS.fault | apply OutS.ite (P := P)
      | apply ite_stable (P := P) | apply ite_st (P := P) | apply ite_sec (P := P) | apply ite_snd (P := P)
      | apply ite_snd2 (P := P) | apply ite_fst (P := P) | apply id_stable (P := P) | dsimp only

theorem engWord_stable (hP : StableIn P free) {x0 x1 x2 x3} (h3 : P x3) : P (engWord x0 x1 x2 x3) := by
  unfold engWord
  try dsimp only
  with_reducible repeat' first
      | assumption | intro _ | apply hP.put | apply coreRead_stable hP | apply adv_stable hP
      | apply State.putReg_stable hP | dsimp only

theorem execEres_stable (hP : StableIn P free) {x0 x1 x2 x3} (h3 : P x3) : OutS P (execEres x0 x1 x2 x3) := by
  unfold execEres
  try dsimp only
  with_reducible repeat' first
      | assumption | intro _ | apply engForm_stable hP | apply engWord_stable hP | apply OutS.next (P := P) | dsimp only

theorem execEst_stable (hP : StableIn P free) {x0 x1 x2 x3} (h3 : P x3) : OutS P (execEst x0 x1 x2 x3) := by
  unfold execEst
  try dsimp only
  with_reducible repeat' first
      | assumption | intro _ | apply engForm_stable hP | apply engWord_stable hP | apply OutS.next (P := P) | dsimp only

theorem execEprm_stable (hP : StableIn P free) {x0 x1 x2 x3 x4} (h4 : P x4) : OutS P (execEprm x0 x1 x2 x3 x4) := by
  unfold execEprm
  try dsimp only
  with_reducible repeat' first
      | assumption | intro _ | apply engForm_stable hP | apply adv_stable hP | apply coreWrite_stable hP
      | apply OutS.next (P := P) | exact OutS.fault | apply OutS.ite (P := P) | apply ite_stable (P := P)
      | apply ite_st (P := P) | apply ite_sec (P := P) | apply ite_snd (P := P) | apply ite_snd2 (P := P)
      | apply ite_fst (P := P) | apply id_stable (P := P) | dsimp only

theorem secForm_stable (hP : StableIn P free) {x0 x1 x2 x3} (hk2 : ∀ y0, P y0 → P (x2 y0).2) (h3 : P x3) : P (secForm x0 x1 x2 x3) := by
  unfold secForm
  try dsimp only
  with_reducible repeat' first
      | assumption | intro _ | apply hP.put | apply State.putReg_stable hP | apply raiseSync_stable hP
      | apply accessed_stable hP | apply issue_stable hP | apply adv_stable hP | apply coreHold_stable hP
      | apply settle_stable hP | apply hk2 | apply ite_stable (P := P) | apply ite_st (P := P)
      | apply ite_sec (P := P) | apply ite_snd (P := P) | apply ite_snd2 (P := P) | apply ite_fst (P := P)
      | apply id_stable (P := P) | dsimp only

theorem secTicket_stable (hP : StableIn P free) {x0} (h0 : P x0) : P (secTicket x0).2 := by
  unfold secTicket
  try dsimp only
  with_reducible repeat' first
      | assumption | intro _ | apply State.setSec_stable hP | apply State.draw_stable hP | apply ite_stable (P := P)
      | apply ite_st (P := P) | apply ite_sec (P := P) | apply ite_snd (P := P) | apply ite_snd2 (P := P)
      | apply ite_fst (P := P) | apply id_stable (P := P) | dsimp only

theorem submit_stable (hP : StableIn P free) {x0 x1 x2} (h2 : P x2) : P (submit x0 x1 x2).2 := by
  unfold submit
  try dsimp only
  with_reducible repeat' first
      | assumption | intro _ | apply corePerform_stable hP | apply secTicket_stable hP | apply ite_stable (P := P)
      | apply ite_st (P := P) | apply ite_sec (P := P) | apply ite_snd (P := P) | apply ite_snd2 (P := P)
      | apply ite_fst (P := P) | apply OptS.some (P := P) | exact OptS.none | apply OptS2.some (P := P)
      | exact OptS2.none | apply OptS.bind (P := P) | apply OptS.bind2 (P := P) | apply OptS.map (P := P)
      | apply OptS.map0 (P := P) | apply OptS2.map (P := P) | apply OptS.getD (P := P) | apply OptS.ite (P := P)
      | apply OptS2.ite (P := P) | apply id_stable (P := P) | apply foldl_stable (P := P)
      | apply foldl_stable2 (P := P) | apply foldl_stable1 (P := P) | split | refine snd2_stable (by assumption) ?_
      | refine snd_stable (by assumption) ?_ | refine fst_stable (by assumption) ?_
      | refine some_stable (by assumption) ?_ | refine some_stable2 (by assumption) ?_ | dsimp only

theorem execSubmit_stable (hP : StableIn P free) {x0 x1 x2 x3} (h3 : P x3) : OutS P (execSubmit x0 x1 x2 x3) := by
  unfold execSubmit
  try dsimp only
  with_reducible repeat' first
      | assumption | intro _ | apply secForm_stable hP | apply submit_stable hP | apply OutS.next (P := P)
      | exact OutS.fault | apply OutS.ite (P := P) | apply ite_stable (P := P) | apply ite_st (P := P)
      | apply ite_sec (P := P) | apply ite_snd (P := P) | apply ite_snd2 (P := P) | apply ite_fst (P := P)
      | apply id_stable (P := P) | dsimp only

theorem secPoll_stable (hP : StableIn P free) {x0 x1} (h1 : P x1) : P (secPoll x0 x1).2 := by
  unfold secPoll
  try dsimp only
  with_reducible repeat' first
      | assumption | intro _ | apply State.draw_stable hP | apply ite_stable (P := P) | apply ite_snd (P := P) | split
      | refine snd_stable (by assumption) ?_ | refine fst_stable (by assumption) ?_
      | refine some_stable (by assumption) ?_ | refine some_stable2 (by assumption) ?_
      | refine snd2_stable (by assumption) ?_ | dsimp only

theorem execPoll_stable (hP : StableIn P free) {x0 x1 x2 x3} (h3 : P x3) : OutS P (execPoll x0 x1 x2 x3) := by
  unfold execPoll
  try dsimp only
  with_reducible repeat' first
      | assumption | intro _ | apply secForm_stable hP | apply secPoll_stable hP | apply OutS.next (P := P) | dsimp only

theorem execRrdi_stable (hP : StableIn P free) {x0 x1 x2 x3 x4} (h4 : P x4) : OutS P (execRrdi x0 x1 x2 x3 x4) := by
  unfold execRrdi
  try dsimp only
  with_reducible repeat' first
      | assumption | intro _ | apply hP.put | apply issue_stable hP | apply coreRead_stable hP | apply adv_stable hP
      | apply State.putReg_stable hP | apply OutS.next (P := P) | dsimp only

theorem execRwri_stable (hP : StableIn P free) {x0 x1 x2 x3 x4} (h4 : P x4) : OutS P (execRwri x0 x1 x2 x3 x4) := by
  unfold execRwri
  try dsimp only
  with_reducible repeat' first
      | assumption | intro _ | apply issue_stable hP | apply adv_stable hP | apply coreWrite_stable hP
      | apply OutS.next (P := P) | exact OutS.fault | apply OutS.ite (P := P) | apply ite_stable (P := P)
      | apply ite_st (P := P) | apply ite_sec (P := P) | apply ite_snd (P := P) | apply ite_snd2 (P := P)
      | apply ite_fst (P := P) | apply id_stable (P := P) | dsimp only

theorem accessCause_stable (hP : StableIn P free) {x0 x1 x2 x3 x4} (h4 : P x4) : P (accessCause x0 x1 x2 x3 x4) := by
  unfold accessCause
  try dsimp only
  with_reducible repeat' first
      | assumption | intro _ | apply raiseSync_stable hP | apply ite_stable (P := P) | dsimp only

theorem coreWritePair_stable (hP : StableIn P free) {x0 x1 x2 x3 x4 x5 x6 x7} (hk6 : ∀ y0, P y0 → P (x6 y0)) (h7 : P x7) : P (coreWritePair x0 x1 x2 x3 x4 x5 x6 x7) := by
  unfold coreWritePair
  try dsimp only
  with_reducible repeat' first
      | assumption | intro _ | apply pass_stable hP | apply prefetch_stable hP | apply coreHold_stable hP
      | apply settle_stable hP | apply accessCause_stable hP | apply corePerform_stable hP | apply hk6
      | apply ite_stable (P := P) | apply ite_st (P := P) | apply ite_sec (P := P) | apply ite_snd (P := P)
      | apply ite_snd2 (P := P) | apply ite_fst (P := P) | apply id_stable (P := P) | dsimp only

theorem reelOrder_stable (hP : StableIn P free) {x0 x1 x2 x3 x4} (h4 : P x4) : P (reelOrder x0 x1 x2 x3 x4) := by
  unfold reelOrder
  try dsimp only
  with_reducible repeat' first
      | assumption | intro _ | apply cpRecord_stable hP | apply adv_stable hP | apply coreWritePair_stable hP
      | apply ite_stable (P := P) | apply ite_st (P := P) | apply ite_sec (P := P) | apply ite_snd (P := P)
      | apply ite_snd2 (P := P) | apply ite_fst (P := P) | apply id_stable (P := P) | dsimp only

theorem execRxf_stable (hP : StableIn P free) {x0 x1 x2 x3 x4} (h4 : P x4) : OutS P (execRxf x0 x1 x2 x3 x4) := by
  unfold execRxf
  try dsimp only
  with_reducible repeat' first
      | assumption | intro _ | apply issue_stable hP | apply reelOrder_stable hP | apply OutS.next (P := P) | dsimp only

theorem execRxr_stable (hP : StableIn P free) {x0 x1 x2} (h2 : P x2) : OutS P (execRxr x0 x1 x2) := by
  unfold execRxr
  try dsimp only
  with_reducible repeat' first
      | assumption | intro _ | apply hP.put | apply issue_stable hP | apply coreRead_stable hP | apply adv_stable hP
      | apply State.putReg_stable hP | apply OutS.next (P := P) | dsimp only

theorem ctuRequest_stable (hP : StableIn P free) {x0 x1} (h1 : P x1) : P (ctuRequest x0 x1) := by
  unfold ctuRequest
  try dsimp only
  with_reducible repeat' first
      | assumption | intro _ | apply cutCtu_stable hP | apply ctuShow_stable hP | apply State.setCut_stable hP
      | apply ite_stable (P := P) | dsimp only

theorem ctuFault_stable (hP : StableIn P free) {x0 x1} (h1 : P x1) : P (ctuFault x0 x1) := by
  unfold ctuFault
  try dsimp only
  with_reducible repeat' first
      | assumption | intro _ | apply hP.put | apply ctuRequest_stable hP | apply State.report_stable hP
      | apply ite_stable (P := P) | dsimp only

theorem logPlace_stable (hP : StableIn P free) {x0} (h0 : P x0) : P (logPlace x0).2 := by
  unfold logPlace
  try dsimp only
  with_reducible repeat' first
      | assumption | intro _ | apply hP.put | apply State.setCtu_stable hP | apply State.incSat_stable hP
      | apply ite_stable (P := P) | apply ite_snd (P := P) | dsimp only

theorem moveSeq_stable (hP : StableIn P free) {x0 x1 x2} (h2 : P x2) : P (moveSeq x0 x1 x2) := by
  unfold moveSeq
  try dsimp only
  with_reducible repeat' first
      | assumption | intro _ | apply State.setCtu_stable hP | apply ite_stable (P := P) | split
      | refine snd_stable (by assumption) ?_ | refine fst_stable (by assumption) ?_
      | refine some_stable (by assumption) ?_ | refine some_stable2 (by assumption) ?_
      | refine snd2_stable (by assumption) ?_ | dsimp only

theorem rushTriggerAll_stable (hP : StableIn P free) {x0 x1 x2} (h2 : P x2) : P (rushTriggerAll x0 x1 x2) := by
  unfold rushTriggerAll
  try dsimp only
  with_reducible repeat' first
      | assumption | intro _ | apply rushTrigger_stable hP | apply ite_stable (P := P) | apply ite_st (P := P)
      | apply ite_sec (P := P) | apply ite_snd (P := P) | apply ite_snd2 (P := P) | apply ite_fst (P := P)
      | apply OptS.some (P := P) | exact OptS.none | apply OptS2.some (P := P) | exact OptS2.none
      | apply OptS.bind (P := P) | apply OptS.bind2 (P := P) | apply OptS.map (P := P) | apply OptS.map0 (P := P)
      | apply OptS2.map (P := P) | apply OptS.getD (P := P) | apply OptS.ite (P := P) | apply OptS2.ite (P := P)
      | apply id_stable (P := P) | apply foldl_stable (P := P) | apply foldl_stable2 (P := P)
      | apply foldl_stable1 (P := P) | split | refine snd2_stable (by assumption) ?_
      | refine snd_stable (by assumption) ?_ | refine fst_stable (by assumption) ?_
      | refine some_stable (by assumption) ?_ | refine some_stable2 (by assumption) ?_ | dsimp only

theorem faultTriggers_stable (hP : StableIn P free) {x0 x1 x2} (h2 : P x2) : P (faultTriggers x0 x1 x2) := by
  unfold faultTriggers
  try dsimp only
  with_reducible repeat' first
      | assumption | intro _ | apply rushTriggerAll_stable hP | apply ite_stable (P := P) | apply ite_st (P := P)
      | apply ite_sec (P := P) | apply ite_snd (P := P) | apply ite_snd2 (P := P) | apply ite_fst (P := P)
      | apply id_stable (P := P) | dsimp only

theorem noticeAll_stable (hP : StableIn P free) {x0 x1} (h1 : P x1) : P (noticeAll x0 x1) := by
  unfold noticeAll
  try dsimp only
  with_reducible repeat' first
      | assumption | intro _ | apply sendIn_stable hP | apply ite_stable (P := P) | apply ite_st (P := P)
      | apply ite_sec (P := P) | apply ite_snd (P := P) | apply ite_snd2 (P := P) | apply ite_fst (P := P)
      | apply OptS.some (P := P) | exact OptS.none | apply OptS2.some (P := P) | exact OptS2.none
      | apply OptS.bind (P := P) | apply OptS.bind2 (P := P) | apply OptS.map (P := P) | apply OptS.map0 (P := P)
      | apply OptS2.map (P := P) | apply OptS.getD (P := P) | apply OptS.ite (P := P) | apply OptS2.ite (P := P)
      | apply id_stable (P := P) | apply foldl_stable (P := P) | apply foldl_stable2 (P := P)
      | apply foldl_stable1 (P := P) | split | refine snd2_stable (by assumption) ?_
      | refine snd_stable (by assumption) ?_ | refine fst_stable (by assumption) ?_
      | refine some_stable (by assumption) ?_ | refine some_stable2 (by assumption) ?_ | dsimp only

theorem logTime_stable (hP : StableIn P free) {x0} (h0 : P x0) : P (logTime x0).2 := by
  unfold logTime
  try dsimp only
  with_reducible repeat' first
      | assumption | intro _ | apply State.draw_stable hP | apply ite_stable (P := P) | apply ite_st (P := P)
      | apply ite_sec (P := P) | apply ite_snd (P := P) | apply ite_snd2 (P := P) | apply ite_fst (P := P)
      | apply id_stable (P := P) | dsimp only

theorem logReport_stable (hP : StableIn P free) {x0 x1} (h1 : P x1) : P (logReport x0 x1) := by
  unfold logReport
  try dsimp only
  with_reducible repeat' first
      | assumption | intro _ | apply hP.put | apply State.setCtu_stable hP | apply logPlace_stable hP
      | apply moveSeq_stable hP | apply faultTriggers_stable hP | apply logTime_stable hP
      | apply State.raise_stable hP | apply State.raiseIf_stable hP | apply noticeAll_stable hP
      | apply ite_stable (P := P) | apply ite_st (P := P) | apply ite_sec (P := P) | apply ite_snd (P := P)
      | apply ite_snd2 (P := P) | apply ite_fst (P := P) | apply OptS.some (P := P) | exact OptS.none
      | apply OptS2.some (P := P) | exact OptS2.none | apply OptS.bind (P := P) | apply OptS.bind2 (P := P)
      | apply OptS.map (P := P) | apply OptS.map0 (P := P) | apply OptS2.map (P := P) | apply OptS.getD (P := P)
      | apply OptS.ite (P := P) | apply OptS2.ite (P := P) | apply id_stable (P := P) | apply foldl_stable (P := P)
      | apply foldl_stable2 (P := P) | apply foldl_stable1 (P := P) | split | refine snd2_stable (by assumption) ?_
      | refine snd_stable (by assumption) ?_ | refine fst_stable (by assumption) ?_
      | refine some_stable (by assumption) ?_ | refine some_stable2 (by assumption) ?_ | dsimp only

theorem countReport_stable (hP : StableIn P free) {x0 x1} (h1 : P x1) : P (countReport x0 x1) := by
  unfold countReport
  try dsimp only
  with_reducible repeat' first
      | assumption | intro _ | apply State.incSat_stable hP | dsimp only

theorem dropReport_stable (hP : StableIn P free) {x0 x1} (h1 : P x1) : P (dropReport x0 x1) := by
  unfold dropReport
  try dsimp only
  with_reducible repeat' first
      | assumption | intro _ | apply moveSeq_stable hP | apply State.draw_stable hP | apply State.incSat_stable hP
      | apply countReport_stable hP | dsimp only

theorem reactCut_stable (hP : StableIn P free) {x0 x1} (h1 : P x1) : P (reactCut x0 x1) := by
  unfold reactCut
  try dsimp only
  with_reducible repeat' first
      | assumption | intro _ | apply ctuRequest_stable hP | apply ite_stable (P := P) | dsimp only

theorem execFaultReport_stable (hP : StableIn P free) {x0 x1} (h1 : P x1) : OutS P (execFaultReport x0 x1) := by
  unfold execFaultReport
  try dsimp only
  with_reducible repeat' first
      | assumption | intro _ | apply dropReport_stable hP | apply State.setReports_stable hP | apply logReport_stable hP
      | apply reactCut_stable hP | apply countReport_stable hP | apply ctuFault_stable hP | apply foldl_stable (P := P)
      | apply foldl_stable2 (P := P) | apply foldl_stable1 (P := P) | apply OutS.next (P := P)
      | apply ite_stable (P := P) | apply OutS.ite (P := P) | split | refine snd_stable (by assumption) ?_
      | refine fst_stable (by assumption) ?_ | refine some_stable (by assumption) ?_
      | refine some_stable2 (by assumption) ?_ | refine snd2_stable (by assumption) ?_ | dsimp only

theorem execCtuHeartbeat_stable (hP : StableIn P free) {x0 x1 x2} (h1 : P x1) : OutS P (execCtuHeartbeat x0 x1 x2) := by
  unfold execCtuHeartbeat
  try dsimp only
  with_reducible repeat' first
      | assumption | intro _ | apply hP.put | apply ctuFault_stable hP | apply OutS.next (P := P) | exact OutS.fault
      | apply OutS.ite (P := P) | apply ite_stable (P := P) | apply ite_st (P := P) | apply ite_sec (P := P)
      | apply ite_snd (P := P) | apply ite_snd2 (P := P) | apply ite_fst (P := P) | apply id_stable (P := P)
      | dsimp only

theorem execCtuSilent_stable (hP : StableIn P free) {x0 x1} (h1 : P x1) : OutS P (execCtuSilent x0 x1) := by
  unfold execCtuSilent
  try dsimp only
  with_reducible repeat' first
      | assumption | intro _ | apply hP.put | apply ctuFault_stable hP | apply OutS.next (P := P)
      | apply ite_stable (P := P) | apply OutS.ite (P := P) | dsimp only

theorem execLogClear_stable (hP : StableIn P free) {x0 x1} (h1 : P x1) : OutS P (execLogClear x0 x1) := by
  unfold execLogClear
  try dsimp only
  with_reducible repeat' first
      | assumption | intro _ | apply logCmdWrite_stable hP | apply afterTokens_stable hP | apply onIsland_stable hP
      | apply OutS.next (P := P) | exact OutS.fault | apply OutS.ite (P := P) | apply ite_stable (P := P)
      | apply ite_st (P := P) | apply ite_sec (P := P) | apply ite_snd (P := P) | apply ite_snd2 (P := P)
      | apply ite_fst (P := P) | apply id_stable (P := P) | dsimp only

theorem mismatch_stable (hP : StableIn P free) {x0 x1 x2 x3 x4 x5} (h5 : P x5) : P (mismatch x0 x1 x2 x3 x4 x5) := by
  unfold mismatch
  try dsimp only
  with_reducible repeat' first
      | assumption | intro _ | apply hP.put | apply ite_stable (P := P) | apply ite_st (P := P)
      | apply ite_sec (P := P) | apply ite_snd (P := P) | apply ite_snd2 (P := P) | apply ite_fst (P := P)
      | apply id_stable (P := P) | dsimp only

theorem coreMismatch_stable (hP : StableIn P free) {x0 x1 x2 x3 x4 x5} (h5 : P x5) : P (coreMismatch x0 x1 x2 x3 x4 x5) := by
  unfold coreMismatch
  try dsimp only
  with_reducible repeat' first
      | assumption | intro _ | apply hP.put | apply State.putCore_stable hP | apply coreFail_stable hP
      | apply mismatch_stable hP | apply ite_stable (P := P) | apply ite_st (P := P) | apply ite_sec (P := P)
      | apply ite_snd (P := P) | apply ite_snd2 (P := P) | apply ite_fst (P := P) | apply id_stable (P := P)
      | dsimp only

end Sys2Proof.Machine
end

