-- ==== Sys2Proof/Laws/Stable5.lean ====
section
/-! SUPPORT. Each operation keeps every property that the elementary writes keep (part 5 of 9). -/

set_option linter.all false
set_option maxRecDepth 4000
set_option linter.unreachableTactic false

namespace Sys2Proof.Machine

variable {P : State → Prop} {free : Bool}

theorem checkMismatch_stable (hP : StableIn P free) {x0 x1 x2 x3 x4} (h4 : P x4) : P (checkMismatch x0 x1 x2 x3 x4) := by
  unfold checkMismatch
  try dsimp only
  with_reducible repeat' first
      | assumption | intro _ | apply hP.put | apply coreMismatch_stable hP | apply State.incSat_stable hP
      | apply ite_stable (P := P) | apply ite_st (P := P) | apply ite_sec (P := P) | apply ite_snd (P := P)
      | apply ite_snd2 (P := P) | apply ite_fst (P := P) | apply id_stable (P := P) | dsimp only

theorem execCoreMismatch_stable (hP : StableIn P free) {x0 x1 x2 x3 x4 x5 x6} (h5 : P x5) : OutS P (execCoreMismatch x0 x1 x2 x3 x4 x5 x6) := by
  unfold execCoreMismatch
  try dsimp only
  with_reducible repeat' first
      | assumption | intro _ | apply coreMismatch_stable hP | apply checkMismatch_stable hP | apply OutS.next (P := P)
      | exact OutS.fault | apply OutS.ite (P := P) | apply ite_stable (P := P) | apply ite_st (P := P)
      | apply ite_sec (P := P) | apply ite_snd (P := P) | apply ite_snd2 (P := P) | apply ite_fst (P := P)
      | apply id_stable (P := P) | dsimp only

theorem execStateScrub_stable (hP : StableIn P free) {x0 x1 x2} (h2 : P x2) : OutS P (execStateScrub x0 x1 x2) := by
  unfold execStateScrub
  try dsimp only
  with_reducible repeat' first
      | assumption | intro _ | apply hP.put | apply State.setCtu_stable hP | apply coreMismatch_stable hP
      | apply State.inc_stable hP | apply State.incSat_stable hP | apply State.advanceTo_stable hP
      | apply OutS.next (P := P) | exact OutS.fault | apply OutS.ite (P := P) | apply ite_stable (P := P)
      | apply ite_st (P := P) | apply ite_sec (P := P) | apply ite_snd (P := P) | apply ite_snd2 (P := P)
      | apply ite_fst (P := P) | apply OptS.some (P := P) | exact OptS.none | apply OptS2.some (P := P)
      | exact OptS2.none | apply OptS.bind (P := P) | apply OptS.bind2 (P := P) | apply OptS.map (P := P)
      | apply OptS.map0 (P := P) | apply OptS2.map (P := P) | apply OptS.getD (P := P) | apply OptS.ite (P := P)
      | apply OptS2.ite (P := P) | apply id_stable (P := P) | apply foldl_stable (P := P)
      | apply foldl_stable2 (P := P) | apply foldl_stable1 (P := P) | split | refine snd2_stable (by assumption) ?_
      | refine snd_stable (by assumption) ?_ | refine fst_stable (by assumption) ?_
      | refine some_stable (by assumption) ?_ | refine some_stable2 (by assumption) ?_ | dsimp only

theorem execCheckerTest_stable (hP : StableIn P free) {x0 x1} (h1 : P x1) : OutS P (execCheckerTest x0 x1) := by
  unfold execCheckerTest
  try dsimp only
  with_reducible repeat' first
      | assumption | intro _ | apply State.setCtu_stable hP | apply checkMismatch_stable hP
      | apply State.inc_stable hP | apply State.advanceTo_stable hP | apply OutS.next (P := P) | exact OutS.fault
      | apply OutS.ite (P := P) | apply ite_stable (P := P) | apply ite_st (P := P) | apply ite_sec (P := P)
      | apply ite_snd (P := P) | apply ite_snd2 (P := P) | apply ite_fst (P := P) | apply OptS.some (P := P)
      | exact OptS.none | apply OptS2.some (P := P) | exact OptS2.none | apply OptS.bind (P := P)
      | apply OptS.bind2 (P := P) | apply OptS.map (P := P) | apply OptS.map0 (P := P) | apply OptS2.map (P := P)
      | apply OptS.getD (P := P) | apply OptS.ite (P := P) | apply OptS2.ite (P := P) | apply id_stable (P := P)
      | apply foldl_stable (P := P) | apply foldl_stable2 (P := P) | apply foldl_stable1 (P := P) | split
      | refine snd2_stable (by assumption) ?_ | refine snd_stable (by assumption) ?_
      | refine fst_stable (by assumption) ?_ | refine some_stable (by assumption) ?_
      | refine some_stable2 (by assumption) ?_ | dsimp only

theorem moveOwners_stable (hP : StableIn P free) {x0 x1 x2} (h2 : P x2) : P (moveOwners x0 x1 x2) := by
  unfold moveOwners
  try dsimp only
  with_reducible repeat' first
      | assumption | intro _ | apply hP.put | apply foldl_stable (P := P) | apply ite_stable (P := P) | dsimp only

theorem putGoverning_stable (hP : StableIn P free) {x0 x1 x2 x3} (h3 : P x3) : P (putGoverning x0 x1 x2 x3) := by
  unfold putGoverning
  try dsimp only
  with_reducible repeat' first
      | assumption | intro _ | apply hP.put | apply State.putCore_stable hP | dsimp only

theorem moveConfig_stable (hP : StableIn P free) {x0 x1 x2 x3} (h3 : P x3) : P (moveConfig x0 x1 x2 x3) := by
  unfold moveConfig
  try dsimp only
  with_reducible repeat' first
      | assumption | intro _ | apply hP.put | apply putGoverning_stable hP | dsimp only

theorem putRing_stable (hP : StableIn P free) {x0 x1 x2 x3} (h3 : P x3) : P (putRing x0 x1 x2 x3) := by
  unfold putRing
  try dsimp only
  with_reducible repeat' first
      | assumption | intro _ | apply hP.put | apply State.putCore_stable hP | apply foldl_stable (P := P) | dsimp only

theorem moveExact_stable (hP : StableIn P free) {x0 x1 x2 x3} (h3 : P x3) : P (moveExact x0 x1 x2 x3) := by
  unfold moveExact
  try dsimp only
  with_reducible repeat' first
      | assumption | intro _ | apply hP.put | apply moveConfig_stable hP | apply State.putTask_stable hP
      | apply putRing_stable hP | apply foldl_stable (P := P) | dsimp only

theorem moveRestart_stable (hP : StableIn P free) {x0 x1 x2 x3 x4} (h4 : P x4) : P (moveRestart x0 x1 x2 x3 x4) := by
  unfold moveRestart
  try dsimp only
  with_reducible repeat' first
      | assumption | intro _ | apply hP.put | apply taskFresh_stable hP | apply moveConfig_stable hP
      | apply putRing_stable hP | dsimp only

theorem moveTask_stable (hP : StableIn P free) {x0 x1 x2 x3} (h2 : P x2.2) : P (moveTask x0 x1 x2 x3).2 := by
  unfold moveTask
  try dsimp only
  with_reducible repeat' first
      | assumption | intro _ | apply State.report_stable hP | apply moveExact_stable hP | apply moveRestart_stable hP
      | apply ite_stable (P := P) | apply ite_snd (P := P) | dsimp only

theorem routeTo_stable (hP : StableIn P free) {x0 x1 x2 x3 x4 x5 x6} (h6 : P x6) : P (routeTo x0 x1 x2 x3 x4 x5 x6) := by
  unfold routeTo
  try dsimp only
  with_reducible repeat' first
      | assumption | intro _ | apply hP.put | apply State.report_stable hP | apply ite_stable (P := P) | dsimp only

theorem moveRoute_stable (hP : StableIn P free) {x0 x1 x2 x3 x4} (h3 : P x3) : P (moveRoute x0 x1 x2 x3 x4) := by
  unfold moveRoute
  try dsimp only
  with_reducible repeat' first
      | assumption | intro _ | apply hP.put | apply routeTo_stable hP | apply ite_stable (P := P) | split
      | refine snd_stable (by assumption) ?_ | refine fst_stable (by assumption) ?_
      | refine some_stable (by assumption) ?_ | refine some_stable2 (by assumption) ?_
      | refine snd2_stable (by assumption) ?_ | dsimp only

theorem moveCore_stable (hP : StableIn P free) {x0 x1 x2} (h2 : P x2) : P (moveCore x0 x1 x2) := by
  unfold moveCore
  try dsimp only
  with_reducible repeat' first
      | assumption | intro _ | apply State.setCtu_stable hP | apply moveOwners_stable hP | apply moveTask_stable hP
      | apply moveRoute_stable hP | apply State.report_stable hP | apply ite_stable (P := P) | apply ite_st (P := P)
      | apply ite_sec (P := P) | apply ite_snd (P := P) | apply ite_snd2 (P := P) | apply ite_fst (P := P)
      | apply OptS.some (P := P) | exact OptS.none | apply OptS2.some (P := P) | exact OptS2.none
      | apply OptS.bind (P := P) | apply OptS.bind2 (P := P) | apply OptS.map (P := P) | apply OptS.map0 (P := P)
      | apply OptS2.map (P := P) | apply OptS.getD (P := P) | apply OptS.ite (P := P) | apply OptS2.ite (P := P)
      | apply id_stable (P := P) | apply foldl_stable (P := P) | apply foldl_stable2 (P := P)
      | apply foldl_stable1 (P := P) | split | refine snd2_stable (by assumption) ?_
      | refine snd_stable (by assumption) ?_ | refine fst_stable (by assumption) ?_
      | refine some_stable (by assumption) ?_ | refine some_stable2 (by assumption) ?_ | dsimp only

theorem keepWord_stable (hP : StableIn P free) {x0 x1 x2} (h0 : P x0) (h1 : P x1) : P (keepWord x0 x1 x2) := by
  unfold keepWord
  try dsimp only
  with_reducible repeat' first
      | assumption | intro _ | apply hP.put | apply State.putCore_stable hP | apply ite_stable (P := P)
      | apply ite_st (P := P) | apply ite_sec (P := P) | apply ite_snd (P := P) | apply ite_snd2 (P := P)
      | apply ite_fst (P := P) | apply OptS.some (P := P) | exact OptS.none | apply OptS2.some (P := P)
      | exact OptS2.none | apply OptS.bind (P := P) | apply OptS.bind2 (P := P) | apply OptS.map (P := P)
      | apply OptS.map0 (P := P) | apply OptS2.map (P := P) | apply OptS.getD (P := P) | apply OptS.ite (P := P)
      | apply OptS2.ite (P := P) | apply id_stable (P := P) | apply foldl_stable (P := P)
      | apply foldl_stable2 (P := P) | apply foldl_stable1 (P := P) | split | refine snd2_stable (by assumption) ?_
      | refine snd_stable (by assumption) ?_ | refine fst_stable (by assumption) ?_
      | refine some_stable (by assumption) ?_ | refine some_stable2 (by assumption) ?_ | dsimp only

theorem keepTask_stable (hP : StableIn P free) {x0 x1 x2 x3} (h1 : P x1) (h2 : P x2) : P (keepTask x0 x1 x2 x3) := by
  unfold keepTask
  try dsimp only
  with_reducible repeat' first
      | assumption | intro _ | apply hP.put | apply State.putTask_stable hP | apply putRing_stable hP
      | apply ite_stable (P := P) | apply ite_st (P := P) | apply ite_sec (P := P) | apply ite_snd (P := P)
      | apply ite_snd2 (P := P) | apply ite_fst (P := P) | apply OptS.some (P := P) | exact OptS.none
      | apply OptS2.some (P := P) | exact OptS2.none | apply OptS.bind (P := P) | apply OptS.bind2 (P := P)
      | apply OptS.map (P := P) | apply OptS.map0 (P := P) | apply OptS2.map (P := P) | apply OptS.getD (P := P)
      | apply OptS.ite (P := P) | apply OptS2.ite (P := P) | apply id_stable (P := P) | apply foldl_stable (P := P)
      | apply foldl_stable2 (P := P) | apply foldl_stable1 (P := P) | split | refine snd2_stable (by assumption) ?_
      | refine snd_stable (by assumption) ?_ | refine fst_stable (by assumption) ?_
      | refine some_stable (by assumption) ?_ | refine some_stable2 (by assumption) ?_ | dsimp only

theorem withholdMove_stable (hP : StableIn P free) {x0 x1 x2 x3 x4} (h3 : P x3) (h4 : P x4) : P (withholdMove x0 x1 x2 x3 x4) := by
  unfold withholdMove
  try dsimp only
  with_reducible repeat' first
      | assumption | intro _ | apply keepWord_stable hP | apply keepTask_stable hP | apply ctuFault_stable hP
      | apply ite_stable (P := P) | apply ite_st (P := P) | apply ite_sec (P := P) | apply ite_snd (P := P)
      | apply ite_snd2 (P := P) | apply ite_fst (P := P) | apply OptS.some (P := P) | exact OptS.none
      | apply OptS2.some (P := P) | exact OptS2.none | apply OptS.bind (P := P) | apply OptS.bind2 (P := P)
      | apply OptS.map (P := P) | apply OptS.map0 (P := P) | apply OptS2.map (P := P) | apply OptS.getD (P := P)
      | apply OptS.ite (P := P) | apply OptS2.ite (P := P) | apply id_stable (P := P) | apply foldl_stable (P := P)
      | apply foldl_stable2 (P := P) | apply foldl_stable1 (P := P) | split | refine snd2_stable (by assumption) ?_
      | refine snd_stable (by assumption) ?_ | refine fst_stable (by assumption) ?_
      | refine some_stable (by assumption) ?_ | refine some_stable2 (by assumption) ?_ | dsimp only

theorem execCoreFailover_stable (hP : StableIn P free) {x0 x1 x2 x3} (h1 : P x1) : OutS P (execCoreFailover x0 x1 x2 x3) := by
  unfold execCoreFailover
  try dsimp only
  with_reducible repeat' first
      | assumption | intro _ | apply moveCore_stable hP | apply withholdMove_stable hP | apply OutS.next (P := P)
      | exact OutS.fault | apply OutS.ite (P := P) | apply ite_stable (P := P) | apply ite_st (P := P)
      | apply ite_sec (P := P) | apply ite_snd (P := P) | apply ite_snd2 (P := P) | apply ite_fst (P := P)
      | apply OptS.some (P := P) | exact OptS.none | apply OptS2.some (P := P) | exact OptS2.none
      | apply OptS.bind (P := P) | apply OptS.bind2 (P := P) | apply OptS.map (P := P) | apply OptS.map0 (P := P)
      | apply OptS2.map (P := P) | apply OptS.getD (P := P) | apply OptS.ite (P := P) | apply OptS2.ite (P := P)
      | apply id_stable (P := P) | apply foldl_stable (P := P) | apply foldl_stable2 (P := P)
      | apply foldl_stable1 (P := P) | split | refine snd2_stable (by assumption) ?_
      | refine snd_stable (by assumption) ?_ | refine fst_stable (by assumption) ?_
      | refine some_stable (by assumption) ?_ | refine some_stable2 (by assumption) ?_ | dsimp only

theorem execFailoverDone_stable (hP : StableIn P free) {x0} (h0 : P x0) : OutS P (execFailoverDone x0) := by
  unfold execFailoverDone
  try dsimp only
  with_reducible repeat' first
      | assumption | intro _ | apply hP.put | apply State.raise_stable hP | apply State.inc_stable hP
      | apply State.setCtu_stable hP | apply State.putB_stable hP | apply State.putCoreState_stable hP
      | apply coreResult_stable hP | apply OutS.next (P := P) | apply ite_stable (P := P) | apply OutS.ite (P := P)
      | split | refine snd_stable (by assumption) ?_ | refine fst_stable (by assumption) ?_
      | refine some_stable (by assumption) ?_ | refine some_stable2 (by assumption) ?_
      | refine snd2_stable (by assumption) ?_ | dsimp only

theorem execCoreLbistDone_stable (hP : StableIn P free) {x0 x1 x2} (h2 : P x2) : OutS P (execCoreLbistDone x0 x1 x2) := by
  unfold execCoreLbistDone
  try dsimp only
  with_reducible repeat' first
      | assumption | intro _ | apply hP.put | apply State.putCoreState_stable hP | apply coreClear_stable hP
      | apply State.report_stable hP | apply coreResult_stable hP | apply State.setCtu_stable hP
      | apply OutS.next (P := P) | apply ite_stable (P := P) | apply OutS.ite (P := P) | split | dsimp only

theorem execEnlist_stable (hP : StableIn P free) {x0 x1 x2} (h2 : P x2) : OutS P (execEnlist x0 x1 x2) := by
  unfold execEnlist
  try dsimp only
  with_reducible repeat' first
      | assumption | intro _ | apply coreCommand_stable hP | apply afterTokens_stable hP | apply onIsland_stable hP
      | apply OutS.next (P := P) | exact OutS.fault | apply OutS.ite (P := P) | apply ite_stable (P := P)
      | apply ite_st (P := P) | apply ite_sec (P := P) | apply ite_snd (P := P) | apply ite_snd2 (P := P)
      | apply ite_fst (P := P) | apply id_stable (P := P) | dsimp only

theorem execCoreRetest_stable (hP : StableIn P free) {x0 x1 x2} (h2 : P x2) : OutS P (execCoreRetest x0 x1 x2) := by
  unfold execCoreRetest
  try dsimp only
  with_reducible repeat' first
      | assumption | intro _ | apply coreCommand_stable hP | apply afterTokens_stable hP | apply onIsland_stable hP
      | apply OutS.next (P := P) | exact OutS.fault | apply OutS.ite (P := P) | apply ite_stable (P := P)
      | apply ite_st (P := P) | apply ite_sec (P := P) | apply ite_snd (P := P) | apply ite_snd2 (P := P)
      | apply ite_fst (P := P) | apply id_stable (P := P) | dsimp only

theorem execWithdraw_stable (hP : StableIn P free) {x0 x1 x2} (h2 : P x2) : OutS P (execWithdraw x0 x1 x2) := by
  unfold execWithdraw
  try dsimp only
  with_reducible repeat' first
      | assumption | intro _ | apply coreCommand_stable hP | apply afterTokens_stable hP | apply onIsland_stable hP
      | apply OutS.next (P := P) | exact OutS.fault | apply OutS.ite (P := P) | apply ite_stable (P := P)
      | apply ite_st (P := P) | apply ite_sec (P := P) | apply ite_snd (P := P) | apply ite_snd2 (P := P)
      | apply ite_fst (P := P) | apply id_stable (P := P) | dsimp only

theorem cueEvent_stable (hP : StableIn P free) {x0 x1 x2} (h2 : P x2) : P (cueEvent x0 x1 x2) := by
  unfold cueEvent
  try dsimp only
  with_reducible repeat' first
      | assumption | intro _ | apply hP.put | apply State.putCore_stable hP | apply coreShow_stable hP
      | apply cueWake_stable hP | apply State.incSat_stable hP | apply ite_stable (P := P) | apply ite_st (P := P)
      | apply ite_sec (P := P) | apply ite_snd (P := P) | apply ite_snd2 (P := P) | apply ite_fst (P := P)
      | apply OptS.some (P := P) | exact OptS.none | apply OptS2.some (P := P) | exact OptS2.none
      | apply OptS.bind (P := P) | apply OptS.bind2 (P := P) | apply OptS.map (P := P) | apply OptS.map0 (P := P)
      | apply OptS2.map (P := P) | apply OptS.getD (P := P) | apply OptS.ite (P := P) | apply OptS2.ite (P := P)
      | apply id_stable (P := P) | apply foldl_stable (P := P) | apply foldl_stable2 (P := P)
      | apply foldl_stable1 (P := P) | split | refine snd2_stable (by assumption) ?_
      | refine snd_stable (by assumption) ?_ | refine fst_stable (by assumption) ?_
      | refine some_stable (by assumption) ?_ | refine some_stable2 (by assumption) ?_ | dsimp only

theorem rushEvent_stable (hP : StableIn P free) {x0 x1} (h1 : P x1) : P (rushEvent x0 x1) := by
  unfold rushEvent
  try dsimp only
  with_reducible repeat' first
      | assumption | intro _ | apply rushTriggerAll_stable hP | apply ite_stable (P := P) | apply ite_st (P := P)
      | apply ite_sec (P := P) | apply ite_snd (P := P) | apply ite_snd2 (P := P) | apply ite_fst (P := P)
      | apply id_stable (P := P) | dsimp only

theorem State.sawEv_stable (hP : StableIn P free) {x0 x1 x2} (h0 : P x0) : P (State.sawEv x0 x1 x2) := by
  unfold State.sawEv
  try dsimp only
  with_reducible repeat' first
      | assumption | intro _ | apply State.setEvents_stable hP | dsimp only

theorem coreWake_stable (hP : StableIn P free) {x0 x1} (h1 : P x1) : P (coreWake x0 x1) := by
  unfold coreWake
  try dsimp only
  with_reducible repeat' first
      | assumption | intro _ | apply wakeRequest_stable hP | dsimp only

theorem execEventRoute_stable (hP : StableIn P free) {x0 x1} (h1 : P x1) : OutS P (execEventRoute x0 x1) := by
  unfold execEventRoute
  try dsimp only
  with_reducible repeat' first
      | assumption | intro _ | apply cueEvent_stable hP | apply rushEvent_stable hP | apply coreWake_stable hP
      | apply State.sawEv_stable hP | apply OutS.next (P := P) | exact OutS.fault | apply OutS.ite (P := P)
      | apply ite_stable (P := P) | apply ite_st (P := P) | apply ite_sec (P := P) | apply ite_snd (P := P)
      | apply ite_snd2 (P := P) | apply ite_fst (P := P) | apply OptS.some (P := P) | exact OptS.none
      | apply OptS2.some (P := P) | exact OptS2.none | apply OptS.bind (P := P) | apply OptS.bind2 (P := P)
      | apply OptS.map (P := P) | apply OptS.map0 (P := P) | apply OptS2.map (P := P) | apply OptS.getD (P := P)
      | apply OptS.ite (P := P) | apply OptS2.ite (P := P) | apply id_stable (P := P) | apply foldl_stable (P := P)
      | apply foldl_stable2 (P := P) | apply foldl_stable1 (P := P) | split | refine snd2_stable (by assumption) ?_
      | refine snd_stable (by assumption) ?_ | refine fst_stable (by assumption) ?_
      | refine some_stable (by assumption) ?_ | refine some_stable2 (by assumption) ?_ | dsimp only

theorem execLevelEntry_stable (hP : StableIn P free) {x0 x1 x2} (h2 : P x2) : OutS P (execLevelEntry x0 x1 x2) := by
  unfold execLevelEntry
  try dsimp only
  with_reducible repeat' first
      | assumption | intro _ | apply catchUp_stable hP | apply takeCause_stable hP | apply takeOver_stable hP
      | apply OutS.next (P := P) | exact OutS.fault | apply OutS.ite (P := P) | apply ite_stable (P := P)
      | apply ite_st (P := P) | apply ite_sec (P := P) | apply ite_snd (P := P) | apply ite_snd2 (P := P)
      | apply ite_fst (P := P) | apply OptS.some (P := P) | exact OptS.none | apply OptS2.some (P := P)
      | exact OptS2.none | apply OptS.bind (P := P) | apply OptS.bind2 (P := P) | apply OptS.map (P := P)
      | apply OptS.map0 (P := P) | apply OptS2.map (P := P) | apply OptS.getD (P := P) | apply OptS.ite (P := P)
      | apply OptS2.ite (P := P) | apply id_stable (P := P) | apply foldl_stable (P := P)
      | apply foldl_stable2 (P := P) | apply foldl_stable1 (P := P) | split | refine snd2_stable (by assumption) ?_
      | refine snd_stable (by assumption) ?_ | refine fst_stable (by assumption) ?_
      | refine some_stable (by assumption) ?_ | refine some_stable2 (by assumption) ?_ | dsimp only

theorem execHoldExpire_stable (hP : StableIn P free) {x0 x1} (h1 : P x1) : OutS P (execHoldExpire x0 x1) := by
  unfold execHoldExpire
  try dsimp only
  with_reducible repeat' first
      | assumption | intro _ | apply pass_stable hP | apply catchUp_stable hP | apply OutS.next (P := P)
      | exact OutS.fault | apply OutS.ite (P := P) | apply ite_stable (P := P) | apply ite_st (P := P)
      | apply ite_sec (P := P) | apply ite_snd (P := P) | apply ite_snd2 (P := P) | apply ite_fst (P := P)
      | apply id_stable (P := P) | dsimp only

theorem State.putGroup_stable (hP : StableIn P free) {x0 x1 x2 x3} (h0 : P x0) : P (State.putGroup x0 x1 x2 x3) := by
  unfold State.putGroup
  try dsimp only
  with_reducible repeat' first
      | assumption | intro _ | apply hP.put | apply State.putCore_stable hP | split
      | refine snd_stable (by assumption) ?_ | refine fst_stable (by assumption) ?_
      | refine some_stable (by assumption) ?_ | refine some_stable2 (by assumption) ?_
      | refine snd2_stable (by assumption) ?_ | dsimp only

theorem parkGroups_stable (hP : StableIn P free) {x0 x1 x2 x3} (h3 : P x3) : P (parkGroups x0 x1 x2 x3) := by
  unfold parkGroups
  try dsimp only
  with_reducible repeat' first
      | assumption | intro _ | apply hP.put | apply coreFail_stable hP | apply State.report_stable hP
      | apply postInner_stable hP | apply foldl_stable (P := P) | apply ite_stable (P := P) | dsimp only

theorem switchOut_stable (hP : StableIn P free) {x0 x1 x2} (h2 : P x2) : P (switchOut x0 x1 x2) := by
  unfold switchOut
  try dsimp only
  with_reducible repeat' first
      | assumption | intro _ | apply hP.put | apply saveGroup_stable hP | apply parkGroups_stable hP
      | apply foldl_stable (P := P) | apply ite_stable (P := P) | split | dsimp only

theorem loadGroup_stable (hP : StableIn P free) {x0 x1 x2 x3} (h3 : P x3) : P (loadGroup x0 x1 x2 x3).2 := by
  unfold loadGroup
  try dsimp only
  with_reducible repeat' first
      | assumption | intro _ | apply bankReads_stable hP | dsimp only

theorem switchGroups_stable (hP : StableIn P free) {x0 x1 x2 x3} (h3 : P x3) : OptS P (switchGroups x0 x1 x2 x3) := by
  fun_induction switchGroups x0 x1 x2 x3 <;> (with_reducible repeat' first
      | assumption | intro _ | apply hP.put | apply State.putGroup_stable hP | apply loadGroup_stable hP
      | apply OptS.some (P := P) | exact OptS.none | apply OptS2.some (P := P) | exact OptS2.none
      | apply OptS.bind (P := P) | apply OptS.bind2 (P := P) | apply OptS.map (P := P) | apply OptS.map0 (P := P)
      | apply OptS2.map (P := P) | apply OptS.getD (P := P) | apply OptS.ite (P := P) | apply OptS2.ite (P := P)
      | apply ite_stable (P := P) | split | refine snd_stable (by assumption) ?_ | refine fst_stable (by assumption) ?_
      | refine some_stable (by assumption) ?_ | refine some_stable2 (by assumption) ?_
      | refine snd2_stable (by assumption) ?_ | refine ‹P _ → P _› ?_ | refine ‹P _ → OptS P _› ?_
      | refine ‹∀ t, P t → OptS P _› _ ?_ | dsimp +zetaDelta only | dsimp only)

theorem refuseRestore_stable (hP : StableIn P free) {x0 x1 x2} (h2 : P x2) : P (refuseRestore x0 x1 x2) := by
  unfold refuseRestore
  try dsimp only
  with_reducible repeat' first
      | assumption | intro _ | apply hP.put | apply State.report_stable hP | apply postInner_stable hP | dsimp only

theorem switchIn_stable (hP : StableIn P free) {x0 x1 x2} (h2 : P x2) : OptS P (switchIn x0 x1 x2) := by
  unfold switchIn
  try dsimp only
  with_reducible repeat' first
      | assumption | intro _ | apply switchGroups_stable hP | apply OptS.some (P := P) | exact OptS.none
      | apply OptS2.some (P := P) | exact OptS2.none | apply OptS.bind (P := P) | apply OptS.bind2 (P := P)
      | apply OptS.map (P := P) | apply OptS.map0 (P := P) | apply OptS2.map (P := P) | apply OptS.getD (P := P)
      | apply OptS.ite (P := P) | apply OptS2.ite (P := P) | apply ite_stable (P := P) | dsimp only

theorem waitDone_stable (hP : StableIn P free) {x0 x1 x2} (h2 : P x2) : P (waitDone x0 x1 x2) := by
  unfold waitDone
  try dsimp only
  with_reducible repeat' first
      | assumption | intro _ | apply hP.put | apply State.putTask_stable hP | apply State.putReg_stable hP
      | apply ite_stable (P := P) | split | refine snd_stable (by assumption) ?_ | refine fst_stable (by assumption) ?_
      | refine some_stable (by assumption) ?_ | refine some_stable2 (by assumption) ?_
      | refine snd2_stable (by assumption) ?_ | dsimp only

theorem runTask_stable (hP : StableIn P free) {x0 x1 x2} (h2 : P x2) : P (runTask x0 x1 x2) := by
  unfold runTask
  try dsimp only
  with_reducible repeat' first
      | assumption | intro _ | apply hP.put | apply State.putCore_stable hP | apply waitDone_stable hP
      | apply ite_stable (P := P) | apply ite_st (P := P) | apply ite_sec (P := P) | apply ite_snd (P := P)
      | apply ite_snd2 (P := P) | apply ite_fst (P := P) | apply id_stable (P := P) | dsimp only

theorem landAll_stable (hP : StableIn P free) {x0 x1} (h1 : P x1) : P (landAll x0 x1) := by
  unfold landAll
  try dsimp only
  with_reducible repeat' first
      | assumption | intro _ | apply pass_stable hP | apply ite_stable (P := P) | apply ite_st (P := P)
      | apply ite_sec (P := P) | apply ite_snd (P := P) | apply ite_snd2 (P := P) | apply ite_fst (P := P)
      | apply OptS.some (P := P) | exact OptS.none | apply OptS2.some (P := P) | exact OptS2.none
      | apply OptS.bind (P := P) | apply OptS.bind2 (P := P) | apply OptS.map (P := P) | apply OptS.map0 (P := P)
      | apply OptS2.map (P := P) | apply OptS.getD (P := P) | apply OptS.ite (P := P) | apply OptS2.ite (P := P)
      | apply id_stable (P := P) | apply foldl_stable (P := P) | apply foldl_stable2 (P := P)
      | apply foldl_stable1 (P := P) | split | refine snd2_stable (by assumption) ?_
      | refine snd_stable (by assumption) ?_ | refine fst_stable (by assumption) ?_
      | refine some_stable (by assumption) ?_ | refine some_stable2 (by assumption) ?_ | dsimp only

theorem switchTo_stable (hP : StableIn P free) {x0 x1 x2} (h2 : P x2) : P (switchTo x0 x1 x2) := by
  fun_induction switchTo x0 x1 x2 <;> (with_reducible repeat' first
      | assumption | intro _ | apply refuseRestore_stable hP | apply runTask_stable hP | apply switchIn_stable hP
      | apply OptS.some (P := P) | exact OptS.none | apply OptS2.some (P := P) | exact OptS2.none
      | apply OptS.bind (P := P) | apply OptS.bind2 (P := P) | apply OptS.map (P := P) | apply OptS.map0 (P := P)
      | apply OptS2.map (P := P) | apply OptS.getD (P := P) | apply OptS.ite (P := P) | apply OptS2.ite (P := P) | split
      | refine snd_stable (by assumption) ?_ | refine fst_stable (by assumption) ?_
      | refine some_stable (by assumption) ?_ | refine some_stable2 (by assumption) ?_
      | refine snd2_stable (by assumption) ?_ | refine ‹P _ → P _› ?_ | refine ‹P _ → OptS P _› ?_
      | refine ‹∀ t, P t → OptS P _› _ ?_ | dsimp +zetaDelta only | dsimp only)

theorem leaveTask_stable (hP : StableIn P free) {x0 x1} (h1 : P x1) : P (leaveTask x0 x1) := by
  unfold leaveTask
  try dsimp only
  with_reducible repeat' first
      | assumption | intro _ | apply hP.put | apply State.putCore_stable hP | apply parkTask_stable hP
      | apply switchOut_stable hP | apply ite_stable (P := P) | apply ite_st (P := P) | apply ite_sec (P := P)
      | apply ite_snd (P := P) | apply ite_snd2 (P := P) | apply ite_fst (P := P) | apply id_stable (P := P)
      | dsimp only

theorem taskSwitch_stable (hP : StableIn P free) {x0 x1 x2} (h2 : P x2) : P (taskSwitch x0 x1 x2) := by
  unfold taskSwitch
  try dsimp only
  with_reducible repeat' first
      | assumption | intro _ | apply hP.put | apply leaveTask_stable hP | apply pass_stable hP
      | apply landAll_stable hP | apply refuseRestore_stable hP | apply switchIn_stable hP | apply waitDone_stable hP
      | apply runTask_stable hP | apply switchTo_stable hP | apply ite_stable (P := P) | apply ite_st (P := P)
      | apply ite_sec (P := P) | apply ite_snd (P := P) | apply ite_snd2 (P := P) | apply ite_fst (P := P)
      | apply OptS.some (P := P) | exact OptS.none | apply OptS2.some (P := P) | exact OptS2.none
      | apply OptS.bind (P := P) | apply OptS.bind2 (P := P) | apply OptS.map (P := P) | apply OptS.map0 (P := P)
      | apply OptS2.map (P := P) | apply OptS.getD (P := P) | apply OptS.ite (P := P) | apply OptS2.ite (P := P)
      | apply id_stable (P := P) | apply foldl_stable (P := P) | apply foldl_stable2 (P := P)
      | apply foldl_stable1 (P := P) | split | refine snd2_stable (by assumption) ?_
      | refine snd_stable (by assumption) ?_ | refine fst_stable (by assumption) ?_
      | refine some_stable (by assumption) ?_ | refine some_stable2 (by assumption) ?_ | dsimp only

theorem execTaskSwitch_stable (hP : StableIn P free) {x0 x1} (h1 : P x1) : OutS P (execTaskSwitch x0 x1) := by
  unfold execTaskSwitch
  try dsimp only
  with_reducible repeat' first
      | assumption | intro _ | apply taskSwitch_stable hP | apply catchUp_stable hP | apply prefetchNext_stable hP
      | apply settle_stable hP | apply OutS.next (P := P) | exact OutS.fault | apply OutS.ite (P := P)
      | apply ite_stable (P := P) | apply ite_st (P := P) | apply ite_sec (P := P) | apply ite_snd (P := P)
      | apply ite_snd2 (P := P) | apply ite_fst (P := P) | apply OptS.some (P := P) | exact OptS.none
      | apply OptS2.some (P := P) | exact OptS2.none | apply OptS.bind (P := P) | apply OptS.bind2 (P := P)
      | apply OptS.map (P := P) | apply OptS.map0 (P := P) | apply OptS2.map (P := P) | apply OptS.getD (P := P)
      | apply OptS.ite (P := P) | apply OptS2.ite (P := P) | apply id_stable (P := P) | apply foldl_stable (P := P)
      | apply foldl_stable2 (P := P) | apply foldl_stable1 (P := P) | split | refine snd2_stable (by assumption) ?_
      | refine snd_stable (by assumption) ?_ | refine fst_stable (by assumption) ?_
      | refine some_stable (by assumption) ?_ | refine some_stable2 (by assumption) ?_ | dsimp only

theorem execCuePost_stable (hP : StableIn P free) {x0 x1 x2 x3 x4} (h4 : P x4) : OutS P (execCuePost x0 x1 x2 x3 x4) := by
  unfold execCuePost
  try dsimp only
  with_reducible repeat' first
      | assumption | intro _ | apply cueWake_stable hP | apply afterTokens_stable hP | apply State.answer_stable hP
      | apply onIsland_stable hP | apply OutS.next (P := P) | exact OutS.fault | apply OutS.ite (P := P)
      | apply ite_stable (P := P) | apply ite_st (P := P) | apply ite_sec (P := P) | apply ite_snd (P := P)
      | apply ite_snd2 (P := P) | apply ite_fst (P := P) | apply id_stable (P := P) | dsimp only

theorem execTaskStart_stable (hP : StableIn P free) {x0 x1 x2 x3} (h3 : P x3) : OutS P (execTaskStart x0 x1 x2 x3) := by
  unfold execTaskStart
  try dsimp only
  with_reducible repeat' first
      | assumption | intro _ | apply taskStart_stable hP | apply cueGate_stable hP | apply afterTokens_stable hP
      | apply onIsland_stable hP | apply OutS.next (P := P) | exact OutS.fault | apply OutS.ite (P := P)
      | apply ite_stable (P := P) | apply ite_st (P := P) | apply ite_sec (P := P) | apply ite_snd (P := P)
      | apply ite_snd2 (P := P) | apply ite_fst (P := P) | apply id_stable (P := P) | dsimp only

theorem execTaskStop_stable (hP : StableIn P free) {x0 x1 x2 x3} (h3 : P x3) : OutS P (execTaskStop x0 x1 x2 x3) := by
  unfold execTaskStop
  try dsimp only
  with_reducible repeat' first
      | assumption | intro _ | apply taskStop_stable hP | apply cueGate_stable hP | apply afterTokens_stable hP
      | apply onIsland_stable hP | apply OutS.next (P := P) | exact OutS.fault | apply OutS.ite (P := P)
      | apply ite_stable (P := P) | apply ite_st (P := P) | apply ite_sec (P := P) | apply ite_snd (P := P)
      | apply ite_snd2 (P := P) | apply ite_fst (P := P) | apply id_stable (P := P) | dsimp only

theorem execTaskStopDone_stable (hP : StableIn P free) {x0 x1} (h1 : P x1) : OutS P (execTaskStopDone x0 x1) := by
  unfold execTaskStopDone
  try dsimp only
  with_reducible repeat' first
      | assumption | intro _ | apply hP.put | apply State.putCore_stable hP | apply taskResult_stable hP
      | apply taskOff_stable hP | apply OutS.next (P := P) | exact OutS.fault | apply OutS.ite (P := P)
      | apply ite_stable (P := P) | apply ite_st (P := P) | apply ite_sec (P := P) | apply ite_snd (P := P)
      | apply ite_snd2 (P := P) | apply ite_fst (P := P) | apply id_stable (P := P) | dsimp only

theorem execTaskResume_stable (hP : StableIn P free) {x0 x1 x2 x3} (h3 : P x3) : OutS P (execTaskResume x0 x1 x2 x3) := by
  unfold execTaskResume
  try dsimp only
  with_reducible repeat' first
      | assumption | intro _ | apply taskResume_stable hP | apply cueGate_stable hP | apply afterTokens_stable hP
      | apply onIsland_stable hP | apply OutS.next (P := P) | exact OutS.fault | apply OutS.ite (P := P)
      | apply ite_stable (P := P) | apply ite_st (P := P) | apply ite_sec (P := P) | apply ite_snd (P := P)
      | apply ite_snd2 (P := P) | apply ite_fst (P := P) | apply id_stable (P := P) | dsimp only

theorem execTaskRelease_stable (hP : StableIn P free) {x0 x1 x2 x3} (h3 : P x3) : OutS P (execTaskRelease x0 x1 x2 x3) := by
  unfold execTaskRelease
  try dsimp only
  with_reducible repeat' first
      | assumption | intro _ | apply taskRelease_stable hP | apply cueGate_stable hP | apply afterTokens_stable hP
      | apply onIsland_stable hP | apply OutS.next (P := P) | exact OutS.fault | apply OutS.ite (P := P)
      | apply ite_stable (P := P) | apply ite_st (P := P) | apply ite_sec (P := P) | apply ite_snd (P := P)
      | apply ite_snd2 (P := P) | apply ite_fst (P := P) | apply id_stable (P := P) | dsimp only

theorem execFlush_stable (hP : StableIn P free) {x0 x1 x2} (h2 : P x2) : OutS P (execFlush x0 x1 x2) := by
  unfold execFlush
  try dsimp only
  with_reducible repeat' first
      | assumption | intro _ | apply cueGate_stable hP | apply cueFlush_stable hP | apply afterTokens_stable hP
      | apply onIsland_stable hP | apply OutS.next (P := P) | exact OutS.fault | apply OutS.ite (P := P)
      | apply ite_stable (P := P) | apply ite_st (P := P) | apply ite_sec (P := P) | apply ite_snd (P := P)
      | apply ite_snd2 (P := P) | apply ite_fst (P := P) | apply id_stable (P := P) | dsimp only

theorem execDiscard_stable (hP : StableIn P free) {x0 x1 x2} (h2 : P x2) : OutS P (execDiscard x0 x1 x2) := by
  unfold execDiscard
  try dsimp only
  with_reducible repeat' first
      | assumption | intro _ | apply cueGate_stable hP | apply cueDiscard_stable hP | apply afterTokens_stable hP
      | apply onIsland_stable hP | apply OutS.next (P := P) | exact OutS.fault | apply OutS.ite (P := P)
      | apply ite_stable (P := P) | apply ite_st (P := P) | apply ite_sec (P := P) | apply ite_snd (P := P)
      | apply ite_snd2 (P := P) | apply ite_fst (P := P) | apply id_stable (P := P) | dsimp only

theorem execShadowWrite_stable (hP : StableIn P free) {x0 x1 x2 x3 x4 x5} (h5 : P x5) : OutS P (execShadowWrite x0 x1 x2 x3 x4 x5) := by
  unfold execShadowWrite
  try dsimp only
  with_reducible repeat' first
      | assumption | intro _ | apply shadowWrite_stable hP | apply afterTokens_stable hP
      | apply State.answer_stable hP | apply onIsland_stable hP | apply OutS.next (P := P) | exact OutS.fault
      | apply OutS.ite (P := P) | apply ite_stable (P := P) | apply ite_st (P := P) | apply ite_sec (P := P)
      | apply ite_snd (P := P) | apply ite_snd2 (P := P) | apply ite_fst (P := P) | apply id_stable (P := P)
      | dsimp only

theorem execCueLockedWrite_stable (hP : StableIn P free) {x0 x1 x2 x3 x4 x5} (h5 : P x5) : OutS P (execCueLockedWrite x0 x1 x2 x3 x4 x5) := by
  unfold execCueLockedWrite
  try dsimp only
  with_reducible repeat' first
      | assumption | intro _ | apply cueGate_stable hP | apply taskWordWrite_stable hP | apply afterTokens_stable hP
      | apply onIsland_stable hP | apply OutS.next (P := P) | exact OutS.fault | apply OutS.ite (P := P)
      | apply ite_stable (P := P) | apply ite_st (P := P) | apply ite_sec (P := P) | apply ite_snd (P := P)
      | apply ite_snd2 (P := P) | apply ite_fst (P := P) | apply id_stable (P := P) | dsimp only

theorem execDdrInit_stable (hP : StableIn P free) {x0 x1} (h1 : P x1) : OutS P (execDdrInit x0 x1) := by
  unfold execDdrInit
  try dsimp only
  with_reducible repeat' first
      | assumption | intro _ | apply afterTokens_stable hP | apply ddrInit_stable hP | apply State.answer_stable hP
      | apply onIsland_stable hP | apply OutS.next (P := P) | exact OutS.fault | apply OutS.ite (P := P)
      | apply ite_stable (P := P) | apply ite_st (P := P) | apply ite_sec (P := P) | apply ite_snd (P := P)
      | apply ite_snd2 (P := P) | apply ite_fst (P := P) | apply id_stable (P := P) | dsimp only

theorem ddrFail_stable (hP : StableIn P free) {x0} (h0 : P x0) : P (ddrFail x0) := by
  unfold ddrFail
  try dsimp only
  with_reducible repeat' first
      | assumption | intro _ | apply hP.put | apply State.report_stable hP | dsimp only

theorem ddrTrained_stable (hP : StableIn P free) {x0 x1} (h1 : P x1) : P (ddrTrained x0 x1) := by
  unfold ddrTrained
  try dsimp only
  with_reducible repeat' first
      | assumption | intro _ | apply hP.put | apply ddrFail_stable hP | apply ite_stable (P := P)
      | apply ite_st (P := P) | apply ite_sec (P := P) | apply ite_snd (P := P) | apply ite_snd2 (P := P)
      | apply ite_fst (P := P) | apply id_stable (P := P) | dsimp only

theorem execDdrInitDone_stable (hP : StableIn P free) {x0 x1} (h1 : P x1) : OutS P (execDdrInitDone x0 x1) := by
  unfold execDdrInitDone
  try dsimp only
  with_reducible repeat' first
      | assumption | intro _ | apply ddrTrained_stable hP | apply OutS.next (P := P) | apply ite_stable (P := P)
      | apply OutS.ite (P := P) | dsimp only

theorem patrolMeet_stable (hP : StableIn P free) {x0 x1} (h1 : P x1) : P (patrolMeet x0 x1) := by
  unfold patrolMeet
  try dsimp only
  with_reducible repeat' first
      | assumption | intro _ | apply ddrError_stable hP | split | refine snd_stable (by assumption) ?_
      | refine fst_stable (by assumption) ?_ | refine some_stable (by assumption) ?_
      | refine some_stable2 (by assumption) ?_ | refine snd2_stable (by assumption) ?_ | dsimp only

theorem ddrPatrol_stable (hP : StableIn P free) {x0} (h0 : P x0) : P (ddrPatrol x0) := by
  unfold ddrPatrol
  try dsimp only
  with_reducible repeat' first
      | assumption | intro _ | apply hP.put | apply patrolMeet_stable hP | apply State.putIf_stable hP
      | apply State.setPatrol_stable hP | apply foldl_stable (P := P) | apply ite_stable (P := P) | dsimp only

theorem execDdrPatrol_stable (hP : StableIn P free) {x0 x1} (h1 : P x1) : OutS P (execDdrPatrol x0 x1) := by
  unfold execDdrPatrol
  try dsimp only
  with_reducible repeat' first
      | assumption | intro _ | apply ddrPatrol_stable hP | apply State.strike_stable hP | apply OutS.next (P := P)
      | dsimp only

theorem execChallenge_stable (hP : StableIn P free) {x0 x1} (h1 : P x1) : OutS P (execChallenge x0 x1) := by
  unfold execChallenge
  try dsimp only
  with_reducible repeat' first
      | assumption | intro _ | apply afterTokens_stable hP | apply debugCommand_stable hP | apply onIsland_stable hP
      | apply OutS.next (P := P) | exact OutS.fault | apply OutS.ite (P := P) | apply ite_stable (P := P)
      | apply ite_st (P := P) | apply ite_sec (P := P) | apply ite_snd (P := P) | apply ite_snd2 (P := P)
      | apply ite_fst (P := P) | apply id_stable (P := P) | dsimp only

theorem execUnlock_stable (hP : StableIn P free) {x0 x1} (h1 : P x1) : OutS P (execUnlock x0 x1) := by
  unfold execUnlock
  try dsimp only
  with_reducible repeat' first
      | assumption | intro _ | apply afterTokens_stable hP | apply debugCommand_stable hP | apply onIsland_stable hP
      | apply OutS.next (P := P) | exact OutS.fault | apply OutS.ite (P := P) | apply ite_stable (P := P)
      | apply ite_st (P := P) | apply ite_sec (P := P) | apply ite_snd (P := P) | apply ite_snd2 (P := P)
      | apply ite_fst (P := P) | apply id_stable (P := P) | dsimp only

theorem execLock_stable (hP : StableIn P free) {x0 x1} (h1 : P x1) : OutS P (execLock x0 x1) := by
  unfold execLock
  try dsimp only
  with_reducible repeat' first
      | assumption | intro _ | apply afterTokens_stable hP | apply debugCommand_stable hP | apply onIsland_stable hP
      | apply OutS.next (P := P) | exact OutS.fault | apply OutS.ite (P := P) | apply ite_stable (P := P)
      | apply ite_st (P := P) | apply ite_sec (P := P) | apply ite_snd (P := P) | apply ite_snd2 (P := P)
      | apply ite_fst (P := P) | apply id_stable (P := P) | dsimp only

theorem execDebugRespWrite_stable (hP : StableIn P free) {x0 x1 x2} (h2 : P x2) : OutS P (execDebugRespWrite x0 x1 x2) := by
  unfold execDebugRespWrite
  try dsimp only
  with_reducible repeat' first
      | assumption | intro _ | apply afterTokens_stable hP | apply debugResp_stable hP | apply onIsland_stable hP
      | apply OutS.next (P := P) | exact OutS.fault | apply OutS.ite (P := P) | apply ite_stable (P := P)
      | apply ite_st (P := P) | apply ite_sec (P := P) | apply ite_snd (P := P) | apply ite_snd2 (P := P)
      | apply ite_fst (P := P) | apply id_stable (P := P) | dsimp only

theorem execUnlockDone_stable (hP : StableIn P free) {x0} (h0 : P x0) : OutS P (execUnlockDone x0) := by
  unfold execUnlockDone
  try dsimp only
  with_reducible repeat' first
      | assumption | intro _ | apply hP.put | apply State.setSec_stable hP | apply debugResult_stable hP
      | apply openShow_stable hP | apply debugDenied_stable hP | apply debugUnlock_stable hP
      | apply State.report_stable hP | apply OutS.next (P := P) | exact OutS.fault | apply OutS.ite (P := P)
      | apply ite_stable (P := P) | apply ite_st (P := P) | apply ite_sec (P := P) | apply ite_snd (P := P)
      | apply ite_snd2 (P := P) | apply ite_fst (P := P) | apply id_stable (P := P) | dsimp only

theorem execDebugHalt_stable (hP : StableIn P free) {x0 x1 x2} (h2 : P x2) : OutS P (execDebugHalt x0 x1 x2) := by
  unfold execDebugHalt
  try dsimp only
  with_reducible repeat' first
      | assumption | intro _ | apply afterTokens_stable hP | apply coreCtlWrite_stable hP | apply onIsland_stable hP
      | apply OutS.next (P := P) | exact OutS.fault | apply OutS.ite (P := P) | apply ite_stable (P := P)
      | apply ite_st (P := P) | apply ite_sec (P := P) | apply ite_snd (P := P) | apply ite_snd2 (P := P)
      | apply ite_fst (P := P) | apply id_stable (P := P) | dsimp only

theorem execDebugStep_stable (hP : StableIn P free) {x0 x1 x2} (h2 : P x2) : OutS P (execDebugStep x0 x1 x2) := by
  unfold execDebugStep
  try dsimp only
  with_reducible repeat' first
      | assumption | intro _ | apply afterTokens_stable hP | apply coreCtlWrite_stable hP | apply onIsland_stable hP
      | apply OutS.next (P := P) | exact OutS.fault | apply OutS.ite (P := P) | apply ite_stable (P := P)
      | apply ite_st (P := P) | apply ite_sec (P := P) | apply ite_snd (P := P) | apply ite_snd2 (P := P)
      | apply ite_fst (P := P) | apply id_stable (P := P) | dsimp only

theorem tapOther_stable (hP : StableIn P free) {x0 x1} (h1 : P x1) : P (tapOther x0 x1) := by
  unfold tapOther
  try dsimp only
  with_reducible repeat' first
      | assumption | intro _ | apply hP.put | apply tapTo_stable hP | apply ite_stable (P := P)
      | apply ite_st (P := P) | apply ite_sec (P := P) | apply ite_snd (P := P) | apply ite_snd2 (P := P)
      | apply ite_fst (P := P) | apply OptS.some (P := P) | exact OptS.none | apply OptS2.some (P := P)
      | exact OptS2.none | apply OptS.bind (P := P) | apply OptS.bind2 (P := P) | apply OptS.map (P := P)
      | apply OptS.map0 (P := P) | apply OptS2.map (P := P) | apply OptS.getD (P := P) | apply OptS.ite (P := P)
      | apply OptS2.ite (P := P) | apply id_stable (P := P) | apply foldl_stable (P := P)
      | apply foldl_stable2 (P := P) | apply foldl_stable1 (P := P) | split | refine snd2_stable (by assumption) ?_
      | refine snd_stable (by assumption) ?_ | refine fst_stable (by assumption) ?_
      | refine some_stable (by assumption) ?_ | refine some_stable2 (by assumption) ?_ | dsimp only

theorem execExtest_stable (hP : StableIn P free) {x0 x1 x2} (h1 : P x1) : OutS P (execExtest x0 x1 x2) := by
  unfold execExtest
  try dsimp only
  with_reducible repeat' first
      | assumption | intro _ | apply State.setSec_stable hP | apply tapOther_stable hP | apply tapTo_stable hP
      | apply OutS.next (P := P) | exact OutS.fault | apply OutS.ite (P := P) | apply ite_stable (P := P)
      | apply ite_st (P := P) | apply ite_sec (P := P) | apply ite_snd (P := P) | apply ite_snd2 (P := P)
      | apply ite_fst (P := P) | apply OptS.some (P := P) | exact OptS.none | apply OptS2.some (P := P)
      | exact OptS2.none | apply OptS.bind (P := P) | apply OptS.bind2 (P := P) | apply OptS.map (P := P)
      | apply OptS.map0 (P := P) | apply OptS2.map (P := P) | apply OptS.getD (P := P) | apply OptS.ite (P := P)
      | apply OptS2.ite (P := P) | apply id_stable (P := P) | apply foldl_stable (P := P)
      | apply foldl_stable2 (P := P) | apply foldl_stable1 (P := P) | split | refine snd2_stable (by assumption) ?_
      | refine snd_stable (by assumption) ?_ | refine fst_stable (by assumption) ?_
      | refine some_stable (by assumption) ?_ | refine some_stable2 (by assumption) ?_ | dsimp only

theorem execCutKeepaliveSend_stable (hP : StableIn P free) {x0 x1} (h1 : P x1) : OutS P (execCutKeepaliveSend x0 x1) := by
  unfold execCutKeepaliveSend
  try dsimp only
  with_reducible repeat' first
      | assumption | intro _ | apply cutCtu_stable hP | apply State.setCut_stable hP | apply OutS.next (P := P)
      | apply ite_stable (P := P) | apply OutS.ite (P := P) | dsimp only

theorem execKeepaliveTimeout_stable (hP : StableIn P free) {x0 x1 x2} (h2 : P x2) : OutS P (execKeepaliveTimeout x0 x1 x2) := by
  unfold execKeepaliveTimeout
  try dsimp only
  with_reducible repeat' first
      | assumption | intro _ | apply State.setCut_stable hP | apply State.advanceTo_stable hP | apply cutCtu_stable hP
      | apply ctuFault_stable hP | apply OutS.next (P := P) | exact OutS.fault | apply OutS.ite (P := P)
      | apply ite_stable (P := P) | apply ite_st (P := P) | apply ite_sec (P := P) | apply ite_snd (P := P)
      | apply ite_snd2 (P := P) | apply ite_fst (P := P) | apply id_stable (P := P) | dsimp only

theorem groupRed_stable (hP : StableIn P free) {x0 x1 x2} (h2 : P x2) : P (groupRed x0 x1 x2) := by
  unfold groupRed
  try dsimp only
  with_reducible repeat' first
      | assumption | intro _ | apply hP.put | apply State.report_stable hP | apply State.reportAgain_stable hP
      | apply refreshGroup_stable hP | apply ite_stable (P := P) | apply ite_st (P := P) | apply ite_sec (P := P)
      | apply ite_snd (P := P) | apply ite_snd2 (P := P) | apply ite_fst (P := P) | apply id_stable (P := P)
      | dsimp only

theorem execPortParity_stable (hP : StableIn P free) {x0 x1} (h1 : P x1) : OutS P (execPortParity x0 x1) := by
  unfold execPortParity
  try dsimp only
  with_reducible repeat' first
      | assumption | intro _ | apply hP.put | apply groupRed_stable hP | apply OutS.next (P := P) | exact OutS.fault
      | apply OutS.ite (P := P) | apply ite_stable (P := P) | apply ite_st (P := P) | apply ite_sec (P := P)
      | apply ite_snd (P := P) | apply ite_snd2 (P := P) | apply ite_fst (P := P) | apply id_stable (P := P)
      | dsimp only

theorem execTimecodeLock_stable (hP : StableIn P true) {x0} (h0 : P x0) : OutS P (execTimecodeLock x0) := by
  unfold execTimecodeLock
  try dsimp only
  with_reducible repeat' first
      | assumption | intro _ | apply hP.put | apply State.setNow_stable hP | apply State.setTcRun_stable hP
      | apply OutS.next (P := P) | apply ite_stable (P := P) | apply OutS.ite (P := P) | dsimp only

theorem startOwed_stable (hP : StableIn P free) {x0} (h0 : P x0) : P (startOwed x0) := by
  unfold startOwed
  try dsimp only
  with_reducible repeat' first
      | assumption | intro _ | apply enterRun_stable hP | apply ite_stable (P := P) | apply ite_st (P := P)
      | apply ite_sec (P := P) | apply ite_snd (P := P) | apply ite_snd2 (P := P) | apply ite_fst (P := P)
      | apply OptS.some (P := P) | exact OptS.none | apply OptS2.some (P := P) | exact OptS2.none
      | apply OptS.bind (P := P) | apply OptS.bind2 (P := P) | apply OptS.map (P := P) | apply OptS.map0 (P := P)
      | apply OptS2.map (P := P) | apply OptS.getD (P := P) | apply OptS.ite (P := P) | apply OptS2.ite (P := P)
      | apply id_stable (P := P) | apply foldl_stable (P := P) | apply foldl_stable2 (P := P)
      | apply foldl_stable1 (P := P) | split | refine snd2_stable (by assumption) ?_
      | refine snd_stable (by assumption) ?_ | refine fst_stable (by assumption) ?_
      | refine some_stable (by assumption) ?_ | refine some_stable2 (by assumption) ?_ | dsimp only

theorem execSyncWord_stable (hP : StableIn P free) {x0 x1} (h1 : P x1) : OutS P (execSyncWord x0 x1) := by
  unfold execSyncWord
  try dsimp only
  with_reducible repeat' first
      | assumption | intro _ | apply State.setSyncWait_stable hP | apply State.advanceTo_stable hP
      | apply State.report_stable hP | apply startOwed_stable hP | apply OutS.next (P := P) | exact OutS.fault
      | apply OutS.ite (P := P) | apply ite_stable (P := P) | apply ite_st (P := P) | apply ite_sec (P := P)
      | apply ite_snd (P := P) | apply ite_snd2 (P := P) | apply ite_fst (P := P) | apply OptS.some (P := P)
      | exact OptS.none | apply OptS2.some (P := P) | exact OptS2.none | apply OptS.bind (P := P)
      | apply OptS.bind2 (P := P) | apply OptS.map (P := P) | apply OptS.map0 (P := P) | apply OptS2.map (P := P)
      | apply OptS.getD (P := P) | apply OptS.ite (P := P) | apply OptS2.ite (P := P) | apply id_stable (P := P)
      | apply foldl_stable (P := P) | apply foldl_stable2 (P := P) | apply foldl_stable1 (P := P) | split
      | refine snd2_stable (by assumption) ?_ | refine snd_stable (by assumption) ?_
      | refine fst_stable (by assumption) ?_ | refine some_stable (by assumption) ?_
      | refine some_stable2 (by assumption) ?_ | dsimp only

theorem execTreeLost_stable (hP : StableIn P free) {x0} (h0 : P x0) : OutS P (execTreeLost x0) := by
  unfold execTreeLost
  try dsimp only
  with_reducible repeat' first
      | assumption | intro _ | apply State.report_stable hP | apply OutS.next (P := P) | dsimp only

theorem execRefLost_stable (hP : StableIn P free) {x0} (h0 : P x0) : OutS P (execRefLost x0) := by
  unfold execRefLost
  try dsimp only
  with_reducible repeat' first
      | assumption | intro _ | apply hP.put | apply State.report_stable hP | apply OutS.next (P := P) | dsimp only

theorem execRefRelock_stable (hP : StableIn P free) {x0} (h0 : P x0) : OutS P (execRefRelock x0) := by
  unfold execRefRelock
  try dsimp only
  with_reducible repeat' first
      | assumption | intro _ | apply hP.put | apply OutS.next (P := P) | apply ite_stable (P := P)
      | apply OutS.ite (P := P) | dsimp only

theorem tcFire_stable (hP : StableIn P free) {x0 x1 x2} (h2 : P x2) : P (tcFire x0 x1 x2) := by
  unfold tcFire
  try dsimp only
  with_reducible repeat' first
      | assumption | intro _ | apply hP.put | apply State.putTcCmp_stable hP | apply State.raiseAt_stable hP
      | apply State.putTrig_stable hP | apply ite_stable (P := P) | dsimp only

theorem execTcFire_stable (hP : StableIn P free) {x0 x1} (h1 : P x1) : OutS P (execTcFire x0 x1) := by
  unfold execTcFire
  try dsimp only
  with_reducible repeat' first
      | assumption | intro _ | apply tcFire_stable hP | apply State.advanceTo_stable hP | apply OutS.next (P := P)
      | apply ite_stable (P := P) | apply OutS.ite (P := P) | dsimp only

theorem execTcCmpWrite_stable (hP : StableIn P free) {x0 x1 x2 x3 x4 x5} (h5 : P x5) : OutS P (execTcCmpWrite x0 x1 x2 x3 x4 x5) := by
  unfold execTcCmpWrite
  try dsimp only
  with_reducible repeat' first
      | assumption | intro _ | apply afterTokens_stable hP | apply onIsland_stable hP | apply tcCmpWrite_stable hP
      | apply OutS.next (P := P) | exact OutS.fault | apply OutS.ite (P := P) | apply ite_stable (P := P)
      | apply ite_st (P := P) | apply ite_sec (P := P) | apply ite_snd (P := P) | apply ite_snd2 (P := P)
      | apply ite_fst (P := P) | apply id_stable (P := P) | dsimp only

theorem execTcClaim_stable (hP : StableIn P free) {x0 x1 x2 x3} (h3 : P x3) : OutS P (execTcClaim x0 x1 x2 x3) := by
  unfold execTcClaim
  try dsimp only
  with_reducible repeat' first
      | assumption | intro _ | apply afterTokens_stable hP | apply onIsland_stable hP | apply tcCtrlWrite_stable hP
      | apply OutS.next (P := P) | exact OutS.fault | apply OutS.ite (P := P) | apply ite_stable (P := P)
      | apply ite_st (P := P) | apply ite_sec (P := P) | apply ite_snd (P := P) | apply ite_snd2 (P := P)
      | apply ite_fst (P := P) | apply id_stable (P := P) | dsimp only

theorem execTcUnclaim_stable (hP : StableIn P free) {x0 x1 x2 x3} (h3 : P x3) : OutS P (execTcUnclaim x0 x1 x2 x3) := by
  unfold execTcUnclaim
  try dsimp only
  with_reducible repeat' first
      | assumption | intro _ | apply afterTokens_stable hP | apply onIsland_stable hP | apply tcCtrlWrite_stable hP
      | apply OutS.next (P := P) | exact OutS.fault | apply OutS.ite (P := P) | apply ite_stable (P := P)
      | apply ite_st (P := P) | apply ite_sec (P := P) | apply ite_snd (P := P) | apply ite_snd2 (P := P)
      | apply ite_fst (P := P) | apply id_stable (P := P) | dsimp only

theorem execTcEnable_stable (hP : StableIn P free) {x0 x1 x2 x3} (h3 : P x3) : OutS P (execTcEnable x0 x1 x2 x3) := by
  unfold execTcEnable
  try dsimp only
  with_reducible repeat' first
      | assumption | intro _ | apply afterTokens_stable hP | apply onIsland_stable hP | apply tcCtrlWrite_stable hP
      | apply OutS.next (P := P) | exact OutS.fault | apply OutS.ite (P := P) | apply ite_stable (P := P)
      | apply ite_st (P := P) | apply ite_sec (P := P) | apply ite_snd (P := P) | apply ite_snd2 (P := P)
      | apply ite_fst (P := P) | apply id_stable (P := P) | dsimp only

theorem compareForeign_stable (hP : StableIn P free) {x0 x1 x2} (h2 : P x2) : P (compareForeign x0 x1 x2) := by
  unfold compareForeign
  try dsimp only
  with_reducible repeat' first
      | assumption | intro _ | apply hP.put | apply State.report_stable hP | dsimp only

theorem execCompareWrite_stable (hP : StableIn P free) {x0 x1 x2 x3 x4} (h4 : P x4) : OutS P (execCompareWrite x0 x1 x2 x3 x4) := by
  unfold execCompareWrite
  try dsimp only
  with_reducible repeat' first
      | assumption | intro _ | apply State.setPortWrites_stable hP | apply afterTokens_stable hP
      | apply State.answer_stable hP | apply islandRestart_stable hP | apply onIsland_stable hP
      | apply compareWrite_stable hP | apply compareForeign_stable hP | apply OutS.next (P := P) | exact OutS.fault
      | apply OutS.ite (P := P) | apply ite_stable (P := P) | apply ite_st (P := P) | apply ite_sec (P := P)
      | apply ite_snd (P := P) | apply ite_snd2 (P := P) | apply ite_fst (P := P) | apply OptS.some (P := P)
      | exact OptS.none | apply OptS2.some (P := P) | exact OptS2.none | apply OptS.bind (P := P)
      | apply OptS.bind2 (P := P) | apply OptS.map (P := P) | apply OptS.map0 (P := P) | apply OptS2.map (P := P)
      | apply OptS.getD (P := P) | apply OptS.ite (P := P) | apply OptS2.ite (P := P) | apply id_stable (P := P)
      | apply foldl_stable (P := P) | apply foldl_stable2 (P := P) | apply foldl_stable1 (P := P) | split
      | refine snd2_stable (by assumption) ?_ | refine snd_stable (by assumption) ?_
      | refine fst_stable (by assumption) ?_ | refine some_stable (by assumption) ?_
      | refine some_stable2 (by assumption) ?_ | dsimp only

theorem execLatReturn_stable (hP : StableIn P free) {x0 x1} (h1 : P x1) : OutS P (execLatReturn x0 x1) := by
  unfold execLatReturn
  try dsimp only
  with_reducible repeat' first
      | assumption | intro _ | apply hP.put | apply State.putEng_stable hP | apply State.setLatFlight_stable hP
      | apply OutS.next (P := P) | split | refine snd_stable (by assumption) ?_ | refine fst_stable (by assumption) ?_
      | refine some_stable (by assumption) ?_ | refine some_stable2 (by assumption) ?_
      | refine snd2_stable (by assumption) ?_ | dsimp only

theorem execSsEnable_stable (hP : StableIn P free) {x0 x1 x2 x3} (h3 : P x3) : OutS P (execSsEnable x0 x1 x2 x3) := by
  unfold execSsEnable
  try dsimp only
  with_reducible repeat' first
      | assumption | intro _ | apply afterTokens_stable hP | apply onIsland_stable hP | apply setCtrlWrite_stable hP
      | apply OutS.next (P := P) | exact OutS.fault | apply OutS.ite (P := P) | apply ite_stable (P := P)
      | apply ite_st (P := P) | apply ite_sec (P := P) | apply ite_snd (P := P) | apply ite_snd2 (P := P)
      | apply ite_fst (P := P) | apply id_stable (P := P) | dsimp only

theorem execSsDisable_stable (hP : StableIn P free) {x0 x1 x2 x3} (h3 : P x3) : OutS P (execSsDisable x0 x1 x2 x3) := by
  unfold execSsDisable
  try dsimp only
  with_reducible repeat' first
      | assumption | intro _ | apply afterTokens_stable hP | apply onIsland_stable hP | apply setCtrlWrite_stable hP
      | apply OutS.next (P := P) | exact OutS.fault | apply OutS.ite (P := P) | apply ite_stable (P := P)
      | apply ite_st (P := P) | apply ite_sec (P := P) | apply ite_snd (P := P) | apply ite_snd2 (P := P)
      | apply ite_fst (P := P) | apply id_stable (P := P) | dsimp only

theorem execSsGo_stable (hP : StableIn P free) {x0 x1 x2 x3} (h3 : P x3) : OutS P (execSsGo x0 x1 x2 x3) := by
  unfold execSsGo
  try dsimp only
  with_reducible repeat' first
      | assumption | intro _ | apply afterTokens_stable hP | apply onIsland_stable hP | apply setCtrlWrite_stable hP
      | apply OutS.next (P := P) | exact OutS.fault | apply OutS.ite (P := P) | apply ite_stable (P := P)
      | apply ite_st (P := P) | apply ite_sec (P := P) | apply ite_snd (P := P) | apply ite_snd2 (P := P)
      | apply ite_fst (P := P) | apply id_stable (P := P) | dsimp only

theorem execSsSlotWrite_stable (hP : StableIn P free) {x0 x1 x2 x3 x4} (h4 : P x4) : OutS P (execSsSlotWrite x0 x1 x2 x3 x4) := by
  unfold execSsSlotWrite
  try dsimp only
  with_reducible repeat' first
      | assumption | intro _ | apply afterTokens_stable hP | apply onIsland_stable hP | apply slotWrite_stable hP
      | apply OutS.next (P := P) | exact OutS.fault | apply OutS.ite (P := P) | apply ite_stable (P := P)
      | apply ite_st (P := P) | apply ite_sec (P := P) | apply ite_snd (P := P) | apply ite_snd2 (P := P)
      | apply ite_fst (P := P) | apply id_stable (P := P) | dsimp only

theorem State.takeTrig_stable (hP : StableIn P free) {x0 x1} (h0 : P x0) : P (State.takeTrig x0 x1) := by
  unfold State.takeTrig
  try dsimp only
  with_reducible repeat' first
      | assumption | intro _ | apply State.setTrigAt_stable hP | apply ite_stable (P := P) | apply ite_st (P := P)
      | apply ite_sec (P := P) | apply ite_snd (P := P) | apply ite_snd2 (P := P) | apply ite_fst (P := P)
      | apply id_stable (P := P) | dsimp only

theorem execSsTrigger_stable (hP : StableIn P free) {x0 x1} (h1 : P x1) : OutS P (execSsTrigger x0 x1) := by
  unfold execSsTrigger
  try dsimp only
  with_reducible repeat' first
      | assumption | intro _ | apply State.takeTrig_stable hP | apply setTrigger_stable hP | apply OutS.next (P := P)
      | exact OutS.fault | apply OutS.ite (P := P) | apply ite_stable (P := P) | apply ite_st (P := P)
      | apply ite_sec (P := P) | apply ite_snd (P := P) | apply ite_snd2 (P := P) | apply ite_fst (P := P)
      | apply OptS.some (P := P) | exact OptS.none | apply OptS2.some (P := P) | exact OptS2.none
      | apply OptS.bind (P := P) | apply OptS.bind2 (P := P) | apply OptS.map (P := P) | apply OptS.map0 (P := P)
      | apply OptS2.map (P := P) | apply OptS.getD (P := P) | apply OptS.ite (P := P) | apply OptS2.ite (P := P)
      | apply id_stable (P := P) | apply foldl_stable (P := P) | apply foldl_stable2 (P := P)
      | apply foldl_stable1 (P := P) | split | refine snd2_stable (by assumption) ?_
      | refine snd_stable (by assumption) ?_ | refine fst_stable (by assumption) ?_
      | refine some_stable (by assumption) ?_ | refine some_stable2 (by assumption) ?_ | dsimp only

theorem execAcquisitionStart_stable (hP : StableIn P free) {x0 x1} (h1 : P x1) : OutS P (execAcquisitionStart x0 x1) := by
  unfold execAcquisitionStart
  try dsimp only
  with_reducible repeat' first
      | assumption | intro _ | apply hP.put | apply State.putSampSet_stable hP | apply State.putB_stable hP
      | apply State.advanceTo_stable hP | apply OutS.next (P := P) | split | refine snd_stable (by assumption) ?_
      | refine fst_stable (by assumption) ?_ | refine some_stable (by assumption) ?_
      | refine some_stable2 (by assumption) ?_ | refine snd2_stable (by assumption) ?_ | dsimp only

theorem execApertureEnd_stable (hP : StableIn P free) {x0 x1} (h1 : P x1) : OutS P (execApertureEnd x0 x1) := by
  unfold execApertureEnd
  try dsimp only
  with_reducible repeat' first
      | assumption | intro _ | apply hP.put | apply State.putSampSet_stable hP | apply State.advanceTo_stable hP
      | apply OutS.next (P := P) | apply ite_stable (P := P) | apply OutS.ite (P := P) | split
      | refine snd_stable (by assumption) ?_ | refine fst_stable (by assumption) ?_
      | refine some_stable (by assumption) ?_ | refine some_stable2 (by assumption) ?_
      | refine snd2_stable (by assumption) ?_ | dsimp only

theorem execConversionEnd_stable (hP : StableIn P free) {x0 x1 x2 x3} (h3 : P x3) : OutS P (execConversionEnd x0 x1 x2 x3) := by
  unfold execConversionEnd
  try dsimp only
  with_reducible repeat' first
      | assumption | intro _ | apply hP.put | apply State.putSampSet_stable hP | apply State.advanceTo_stable hP
      | apply OutS.next (P := P) | exact OutS.fault | apply ite_stable (P := P) | apply OutS.ite (P := P) | split
      | refine snd_stable (by assumption) ?_ | refine fst_stable (by assumption) ?_
      | refine some_stable (by assumption) ?_ | refine some_stable2 (by assumption) ?_
      | refine snd2_stable (by assumption) ?_ | dsimp only

theorem putResult_stable (hP : StableIn P free) {x0 x1 x2 x3} (h3 : P x3) : P (putResult x0 x1 x2 x3) := by
  unfold putResult
  try dsimp only
  with_reducible repeat' first
      | assumption | intro _ | apply hP.put | apply State.putB_stable hP | dsimp only

theorem putEngInput_stable (hP : StableIn P free) {x0 x1 x2 x3 x4} (h4 : P x4) : P (putEngInput x0 x1 x2 x3 x4) := by
  unfold putEngInput
  try dsimp only
  with_reducible repeat' first
      | assumption | intro _ | apply hP.put | apply State.setEngIn_stable hP | dsimp only

theorem deliver_stable (hP : StableIn P free) {x0 x1 x2 x3} (h3 : P x3) : P (deliver x0 x1 x2 x3) := by
  unfold deliver
  try dsimp only
  with_reducible repeat' first
      | assumption | intro _ | apply hP.put | apply putEngInput_stable hP | apply State.setEngTrigs_stable hP
      | apply foldl_stable (P := P) | apply ite_stable (P := P) | dsimp only

theorem execSetComplete_stable (hP : StableIn P free) {x0 x1} (h1 : P x1) : OutS P (execSetComplete x0 x1) := by
  unfold execSetComplete
  try dsimp only
  with_reducible repeat' first
      | assumption | intro _ | apply hP.put | apply State.putSampSet_stable hP | apply State.advanceTo_stable hP
      | apply State.raiseAt_stable hP | apply rushOffer_stable hP | apply putResult_stable hP
      | apply deliver_stable hP | apply OutS.next (P := P) | exact OutS.fault | apply OutS.ite (P := P)
      | apply ite_stable (P := P) | apply ite_st (P := P) | apply ite_sec (P := P) | apply ite_snd (P := P)
      | apply ite_snd2 (P := P) | apply ite_fst (P := P) | apply OptS.some (P := P) | exact OptS.none
      | apply OptS2.some (P := P) | exact OptS2.none | apply OptS.bind (P := P) | apply OptS.bind2 (P := P)
      | apply OptS.map (P := P) | apply OptS.map0 (P := P) | apply OptS2.map (P := P) | apply OptS.getD (P := P)
      | apply OptS.ite (P := P) | apply OptS2.ite (P := P) | apply id_stable (P := P) | apply foldl_stable (P := P)
      | apply foldl_stable2 (P := P) | apply foldl_stable1 (P := P) | split | refine snd2_stable (by assumption) ?_
      | refine snd_stable (by assumption) ?_ | refine fst_stable (by assumption) ?_
      | refine some_stable (by assumption) ?_ | refine some_stable2 (by assumption) ?_ | dsimp only

theorem execCalgo_stable (hP : StableIn P free) {x0 x1} (h1 : P x1) : OutS P (execCalgo x0 x1) := by
  unfold execCalgo
  try dsimp only
  with_reducible repeat' first
      | assumption | intro _ | apply afterTokens_stable hP | apply State.answer_stable hP | apply onIsland_stable hP
      | apply calGo_stable hP | apply OutS.next (P := P) | exact OutS.fault | apply OutS.ite (P := P)
      | apply ite_stable (P := P) | apply ite_st (P := P) | apply ite_sec (P := P) | apply ite_snd (P := P)
      | apply ite_snd2 (P := P) | apply ite_fst (P := P) | apply id_stable (P := P) | dsimp only

theorem calDone_stable (hP : StableIn P free) {x0 x1} (h1 : P x1) : P (calDone x0 x1) := by
  unfold calDone
  try dsimp only
  with_reducible repeat' first
      | assumption | intro _ | apply hP.put | apply State.setCalGen_stable hP | dsimp only

theorem execCalDone_stable (hP : StableIn P free) {x0 x1} (h1 : P x1) : OutS P (execCalDone x0 x1) := by
  unfold execCalDone
  try dsimp only
  with_reducible repeat' first
      | assumption | intro _ | apply calDone_stable hP | apply State.advanceTo_stable hP | apply OutS.next (P := P)
      | apply ite_stable (P := P) | apply OutS.ite (P := P) | dsimp only

theorem execCalageMinute_stable (hP : StableIn P free) {x0} (h0 : P x0) : OutS P (execCalageMinute x0) := by
  unfold execCalageMinute
  try dsimp only
  with_reducible repeat' first
      | assumption | intro _ | apply State.incSat_stable hP | apply OutS.next (P := P) | dsimp only

theorem execPfEnable_stable (hP : StableIn P free) {x0 x1 x2 x3 x4 x5 x6} (h6 : P x6) : OutS P (execPfEnable x0 x1 x2 x3 x4 x5 x6) := by
  unfold execPfEnable
  try dsimp only
  with_reducible repeat' first
      | assumption | intro _ | apply afterTokens_stable hP | apply pfCtrlWrite_stable hP | apply onIsland_stable hP
      | apply OutS.next (P := P) | exact OutS.fault | apply OutS.ite (P := P) | apply ite_stable (P := P)
      | apply ite_st (P := P) | apply ite_sec (P := P) | apply ite_snd (P := P) | apply ite_snd2 (P := P)
      | apply ite_fst (P := P) | apply id_stable (P := P) | dsimp only

theorem execPfDisable_stable (hP : StableIn P free) {x0 x1 x2 x3} (h3 : P x3) : OutS P (execPfDisable x0 x1 x2 x3) := by
  unfold execPfDisable
  try dsimp only
  with_reducible repeat' first
      | assumption | intro _ | apply afterTokens_stable hP | apply pfCtrlWrite_stable hP | apply onIsland_stable hP
      | apply OutS.next (P := P) | exact OutS.fault | apply OutS.ite (P := P) | apply ite_stable (P := P)
      | apply ite_st (P := P) | apply ite_sec (P := P) | apply ite_snd (P := P) | apply ite_snd2 (P := P)
      | apply ite_fst (P := P) | apply id_stable (P := P) | dsimp only

theorem execPosRead_stable (hP : StableIn P free) {x0 x1 x2} (h2 : P x2) : OutS P (execPosRead x0 x1 x2) := by
  unfold execPosRead
  try dsimp only
  with_reducible repeat' first
      | assumption | intro _ | apply afterTokens_stable hP | apply posRead_stable hP | apply onIsland_stable hP
      | apply OutS.next (P := P) | exact OutS.fault | apply OutS.ite (P := P) | apply ite_stable (P := P)
      | apply ite_st (P := P) | apply ite_sec (P := P) | apply ite_snd (P := P) | apply ite_snd2 (P := P)
      | apply ite_fst (P := P) | apply id_stable (P := P) | dsimp only

theorem pfFault_stable (hP : StableIn P free) {x0 x1 x2 x3} (h3 : P x3) : P (pfFault x0 x1 x2 x3) := by
  unfold pfFault
  try dsimp only
  with_reducible repeat' first
      | assumption | intro _ | apply hP.put | apply State.report_stable hP | dsimp only

theorem emuFeed_stable (hP : StableIn P free) {x0 x1 x2} (h2 : P x2) : P (emuFeed x0 x1 x2) := by
  unfold emuFeed
  try dsimp only
  with_reducible repeat' first
      | assumption | intro _ | apply hP.put | apply State.putEmu_stable hP | apply State.putB_stable hP
      | apply ite_stable (P := P) | dsimp only

theorem emuFeedAll_stable (hP : StableIn P free) {x0 x1 x2} (h2 : P x2) : P (emuFeedAll x0 x1 x2) := by
  unfold emuFeedAll
  try dsimp only
  with_reducible repeat' first
      | assumption | intro _ | apply emuFeed_stable hP | apply foldl_stable (P := P) | dsimp only

theorem offerPosition_stable (hP : StableIn P free) {x0 x1 x2} (h2 : P x2) : P (offerPosition x0 x1 x2) := by
  unfold offerPosition
  try dsimp only
  with_reducible repeat' first
      | assumption | intro _ | apply rushOffer_stable hP | dsimp only

theorem positionEvent_stable (hP : StableIn P free) {x0 x1 x2} (h2 : P x2) : P (positionEvent x0 x1 x2) := by
  unfold positionEvent
  try dsimp only
  with_reducible repeat' first
      | assumption | intro _ | apply State.raiseAt_stable hP | apply State.setEngTrigs_stable hP | dsimp only

theorem compareEvent_stable (hP : StableIn P free) {x0 x1 x2} (h2 : P x2) : P (compareEvent x0 x1 x2) := by
  unfold compareEvent
  try dsimp only
  with_reducible repeat' first
      | assumption | intro _ | apply hP.put | apply State.putPf_stable hP | apply positionEvent_stable hP
      | apply ite_stable (P := P) | dsimp only

theorem pfMove_stable (hP : StableIn P free) {x0 x1 x2 x3 x4 x5} (h5 : P x5) : P (pfMove x0 x1 x2 x3 x4 x5) := by
  unfold pfMove
  try dsimp only
  with_reducible repeat' first
      | assumption | intro _ | apply hP.put | apply State.putPf_stable hP | apply emuFeedAll_stable hP
      | apply compareEvent_stable hP | apply offerPosition_stable hP | apply State.draw_stable hP
      | apply ite_stable (P := P) | apply ite_st (P := P) | apply ite_sec (P := P) | apply ite_snd (P := P)
      | apply ite_snd2 (P := P) | apply ite_fst (P := P) | apply OptS.some (P := P) | exact OptS.none
      | apply OptS2.some (P := P) | exact OptS2.none | apply OptS.bind (P := P) | apply OptS.bind2 (P := P)
      | apply OptS.map (P := P) | apply OptS.map0 (P := P) | apply OptS2.map (P := P) | apply OptS.getD (P := P)
      | apply OptS.ite (P := P) | apply OptS2.ite (P := P) | apply id_stable (P := P) | apply foldl_stable (P := P)
      | apply foldl_stable2 (P := P) | apply foldl_stable1 (P := P) | split | refine snd2_stable (by assumption) ?_
      | refine snd_stable (by assumption) ?_ | refine fst_stable (by assumption) ?_
      | refine some_stable (by assumption) ?_ | refine some_stable2 (by assumption) ?_ | dsimp only

theorem indexEdge_stable (hP : StableIn P free) {x0 x1 x2} (h2 : P x2) : P (indexEdge x0 x1 x2) := by
  unfold indexEdge
  try dsimp only
  with_reducible repeat' first
      | assumption | intro _ | apply hP.put | apply State.putIf_stable hP | apply State.putPf_stable hP
      | apply pfFault_stable hP | apply positionEvent_stable hP | apply ite_stable (P := P) | split | dsimp only

theorem quadAccept_stable (hP : StableIn P free) {x0 x1 x2 x3 x4 x5} (h5 : P x5) : P (quadAccept x0 x1 x2 x3 x4 x5) := by
  unfold quadAccept
  try dsimp only
  with_reducible repeat' first
      | assumption | intro _ | apply hP.put | apply State.putPf_stable hP | apply pfFault_stable hP
      | apply pfMove_stable hP | apply indexEdge_stable hP | apply ite_stable (P := P) | split
      | refine snd_stable (by assumption) ?_ | refine fst_stable (by assumption) ?_
      | refine some_stable (by assumption) ?_ | refine some_stable2 (by assumption) ?_
      | refine snd2_stable (by assumption) ?_ | dsimp only

theorem hallAccept_stable (hP : StableIn P free) {x0 x1 x2 x3 x4 x5} (h5 : P x5) : P (hallAccept x0 x1 x2 x3 x4 x5) := by
  unfold hallAccept
  try dsimp only
  with_reducible repeat' first
      | assumption | intro _ | apply hP.put | apply State.putPf_stable hP | apply pfFault_stable hP
      | apply pfMove_stable hP | apply ite_stable (P := P) | split | refine snd_stable (by assumption) ?_
      | refine fst_stable (by assumption) ?_ | refine some_stable (by assumption) ?_
      | refine some_stable2 (by assumption) ?_ | refine snd2_stable (by assumption) ?_ | dsimp only

theorem execLineEdgeAccept_stable (hP : StableIn P free) {x0 x1 x2 x3 x4} (h4 : P x4) : OutS P (execLineEdgeAccept x0 x1 x2 x3 x4) := by
  unfold execLineEdgeAccept
  try dsimp only
  with_reducible repeat' first
      | assumption | intro _ | apply hP.put | apply State.putPf_stable hP | apply quadAccept_stable hP
      | apply hallAccept_stable hP | apply OutS.next (P := P) | exact OutS.fault | apply OutS.ite (P := P)
      | apply ite_stable (P := P) | apply ite_st (P := P) | apply ite_sec (P := P) | apply ite_snd (P := P)
      | apply ite_snd2 (P := P) | apply ite_fst (P := P) | apply OptS.some (P := P) | exact OptS.none
      | apply OptS2.some (P := P) | exact OptS2.none | apply OptS.bind (P := P) | apply OptS.bind2 (P := P)
      | apply OptS.map (P := P) | apply OptS.map0 (P := P) | apply OptS2.map (P := P) | apply OptS.getD (P := P)
      | apply OptS.ite (P := P) | apply OptS2.ite (P := P) | apply id_stable (P := P) | apply foldl_stable (P := P)
      | apply foldl_stable2 (P := P) | apply foldl_stable1 (P := P) | split | refine snd2_stable (by assumption) ?_
      | refine snd_stable (by assumption) ?_ | refine fst_stable (by assumption) ?_
      | refine some_stable (by assumption) ?_ | refine some_stable2 (by assumption) ?_ | dsimp only

theorem execResolverTrigger_stable (hP : StableIn P free) {x0 x1} (h1 : P x1) : OutS P (execResolverTrigger x0 x1) := by
  unfold execResolverTrigger
  try dsimp only
  with_reducible repeat' first
      | assumption | intro _ | apply hP.put | apply State.advanceTo_stable hP | apply setTrigger_stable hP
      | apply State.putPf_stable hP | apply OutS.next (P := P) | apply ite_stable (P := P) | apply OutS.ite (P := P)
      | dsimp only

theorem sigLost_stable (hP : StableIn P free) {x0 x1} (h1 : P x1) : P (sigLost x0 x1) := by
  unfold sigLost
  try dsimp only
  with_reducible repeat' first
      | assumption | intro _ | apply hP.put | apply pfFault_stable hP | apply foldl_stable (P := P)
      | apply ite_stable (P := P) | dsimp only

theorem trackerUpdate_stable (hP : StableIn P free) {x0 x1 x2 x3 x4} (h4 : P x4) : P (trackerUpdate x0 x1 x2 x3 x4) := by
  unfold trackerUpdate
  try dsimp only
  with_reducible repeat' first
      | assumption | intro _ | apply hP.put | apply State.putPf_stable hP | apply pfFault_stable hP
      | apply sigLost_stable hP | apply positionEvent_stable hP | apply pfMove_stable hP | apply ite_stable (P := P)
      | apply ite_st (P := P) | apply ite_sec (P := P) | apply ite_snd (P := P) | apply ite_snd2 (P := P)
      | apply ite_fst (P := P) | apply id_stable (P := P) | dsimp only

theorem execResolverUpdate_stable (hP : StableIn P free) {x0 x1} (h1 : P x1) : OutS P (execResolverUpdate x0 x1) := by
  unfold execResolverUpdate
  try dsimp only
  with_reducible repeat' first
      | assumption | intro _ | apply hP.put | apply State.putPf_stable hP | apply trackerUpdate_stable hP
      | apply State.advanceTo_stable hP | apply OutS.next (P := P) | exact OutS.fault | apply OutS.ite (P := P)
      | apply ite_stable (P := P) | apply ite_st (P := P) | apply ite_sec (P := P) | apply ite_snd (P := P)
      | apply ite_snd2 (P := P) | apply ite_fst (P := P) | apply OptS.some (P := P) | exact OptS.none
      | apply OptS2.some (P := P) | exact OptS2.none | apply OptS.bind (P := P) | apply OptS.bind2 (P := P)
      | apply OptS.map (P := P) | apply OptS.map0 (P := P) | apply OptS2.map (P := P) | apply OptS.getD (P := P)
      | apply OptS.ite (P := P) | apply OptS2.ite (P := P) | apply id_stable (P := P) | apply foldl_stable (P := P)
      | apply foldl_stable2 (P := P) | apply foldl_stable1 (P := P) | split | refine snd2_stable (by assumption) ?_
      | refine snd_stable (by assumption) ?_ | refine fst_stable (by assumption) ?_
      | refine some_stable (by assumption) ?_ | refine some_stable2 (by assumption) ?_ | dsimp only

theorem framePosition_stable (hP : StableIn P free) {x0 x1 x2 x3 x4} (h4 : P x4) : P (framePosition x0 x1 x2 x3 x4) := by
  unfold framePosition
  try dsimp only
  with_reducible repeat' first
      | assumption | intro _ | apply hP.put | apply hP.wr | apply pfMove_stable hP | apply State.putPf_stable hP
      | apply positionEvent_stable hP | apply ite_stable (P := P) | dsimp only

theorem slowTake_stable (hP : StableIn P free) {x0 x1 x2} (h2 : P x2) : P (slowTake x0 x1 x2) := by
  unfold slowTake
  try dsimp only
  with_reducible repeat' first
      | assumption | intro _ | apply hP.put | apply State.putPf_stable hP | apply State.putB_stable hP
      | apply ite_stable (P := P) | apply ite_st (P := P) | apply ite_sec (P := P) | apply ite_snd (P := P)
      | apply ite_snd2 (P := P) | apply ite_fst (P := P) | apply OptS.some (P := P) | exact OptS.none
      | apply OptS2.some (P := P) | exact OptS2.none | apply OptS.bind (P := P) | apply OptS.bind2 (P := P)
      | apply OptS.map (P := P) | apply OptS.map0 (P := P) | apply OptS2.map (P := P) | apply OptS.getD (P := P)
      | apply OptS.ite (P := P) | apply OptS2.ite (P := P) | apply id_stable (P := P) | apply foldl_stable (P := P)
      | apply foldl_stable2 (P := P) | apply foldl_stable1 (P := P) | split | refine snd2_stable (by assumption) ?_
      | refine snd_stable (by assumption) ?_ | refine fst_stable (by assumption) ?_
      | refine some_stable (by assumption) ?_ | refine some_stable2 (by assumption) ?_ | dsimp only

theorem execSentFrame_stable (hP : StableIn P free) {x0 x1 x2 x3 x4 x5 x6 x7} (h7 : P x7) : OutS P (execSentFrame x0 x1 x2 x3 x4 x5 x6 x7) := by
  unfold execSentFrame
  try dsimp only
  with_reducible repeat' first
      | assumption | intro _ | apply hP.put | apply State.putPf_stable hP | apply pfFault_stable hP
      | apply slowTake_stable hP | apply framePosition_stable hP | apply OutS.next (P := P) | exact OutS.fault
      | apply OutS.ite (P := P) | apply ite_stable (P := P) | apply ite_st (P := P) | apply ite_sec (P := P)
      | apply ite_snd (P := P) | apply ite_snd2 (P := P) | apply ite_fst (P := P) | apply OptS.some (P := P)
      | exact OptS.none | apply OptS2.some (P := P) | exact OptS2.none | apply OptS.bind (P := P)
      | apply OptS.bind2 (P := P) | apply OptS.map (P := P) | apply OptS.map0 (P := P) | apply OptS2.map (P := P)
      | apply OptS.getD (P := P) | apply OptS.ite (P := P) | apply OptS2.ite (P := P) | apply id_stable (P := P)
      | apply foldl_stable (P := P) | apply foldl_stable2 (P := P) | apply foldl_stable1 (P := P) | split
      | refine snd2_stable (by assumption) ?_ | refine snd_stable (by assumption) ?_
      | refine fst_stable (by assumption) ?_ | refine some_stable (by assumption) ?_
      | refine some_stable2 (by assumption) ?_ | dsimp only

theorem execSentTimeout_stable (hP : StableIn P free) {x0 x1} (h1 : P x1) : OutS P (execSentTimeout x0 x1) := by
  unfold execSentTimeout
  try dsimp only
  with_reducible repeat' first
      | assumption | intro _ | apply sigLost_stable hP | apply State.advanceTo_stable hP | apply OutS.next (P := P)
      | apply ite_stable (P := P) | apply OutS.ite (P := P) | dsimp only

theorem execBissFrameStart_stable (hP : StableIn P free) {x0 x1} (h1 : P x1) : OutS P (execBissFrameStart x0 x1) := by
  unfold execBissFrameStart
  try dsimp only
  with_reducible repeat' first
      | assumption | intro _ | apply hP.put | apply State.putPf_stable hP | apply State.advanceTo_stable hP
      | apply OutS.next (P := P) | exact OutS.fault | apply OutS.ite (P := P) | apply ite_stable (P := P)
      | apply ite_st (P := P) | apply ite_sec (P := P) | apply ite_snd (P := P) | apply ite_snd2 (P := P)
      | apply ite_fst (P := P) | apply id_stable (P := P) | dsimp only

theorem bissLost_stable (hP : StableIn P free) {x0 x1 x2 x3} (h3 : P x3) : P (bissLost x0 x1 x2 x3) := by
  unfold bissLost
  try dsimp only
  with_reducible repeat' first
      | assumption | intro _ | apply hP.put | apply State.putPf_stable hP | apply pfFault_stable hP
      | apply sigLost_stable hP | apply ite_stable (P := P) | apply ite_st (P := P) | apply ite_sec (P := P)
      | apply ite_snd (P := P) | apply ite_snd2 (P := P) | apply ite_fst (P := P) | apply id_stable (P := P)
      | dsimp only

theorem execBissFrame_stable (hP : StableIn P free) {x0 x1 x2 x3 x4 x5 x6 x7} (h6 : P x6) : OutS P (execBissFrame x0 x1 x2 x3 x4 x5 x6 x7) := by
  unfold execBissFrame
  try dsimp only
  with_reducible repeat' first
      | assumption | intro _ | apply hP.put | apply State.putPf_stable hP | apply pfFault_stable hP
      | apply framePosition_stable hP | apply bissLost_stable hP | apply State.advanceTo_stable hP
      | apply OutS.next (P := P) | exact OutS.fault | apply OutS.ite (P := P) | apply ite_stable (P := P)
      | apply ite_st (P := P) | apply ite_sec (P := P) | apply ite_snd (P := P) | apply ite_snd2 (P := P)
      | apply ite_fst (P := P) | apply id_stable (P := P) | dsimp only

theorem execBissNoack_stable (hP : StableIn P free) {x0 x1} (h1 : P x1) : OutS P (execBissNoack x0 x1) := by
  unfold execBissNoack
  try dsimp only
  with_reducible repeat' first
      | assumption | intro _ | apply bissLost_stable hP | apply State.advanceTo_stable hP | apply OutS.next (P := P)
      | exact OutS.fault | apply OutS.ite (P := P) | apply ite_stable (P := P) | apply ite_st (P := P)
      | apply ite_sec (P := P) | apply ite_snd (P := P) | apply ite_snd2 (P := P) | apply ite_fst (P := P)
      | apply id_stable (P := P) | dsimp only

theorem execSpeedDecay_stable (hP : StableIn P free) {x0 x1} (h1 : P x1) : OutS P (execSpeedDecay x0 x1) := by
  unfold execSpeedDecay
  try dsimp only
  with_reducible repeat' first
      | assumption | intro _ | apply hP.put | apply State.putPf_stable hP | apply State.advanceTo_stable hP
      | apply OutS.next (P := P) | apply ite_stable (P := P) | apply OutS.ite (P := P) | split
      | refine snd_stable (by assumption) ?_ | refine fst_stable (by assumption) ?_
      | refine some_stable (by assumption) ?_ | refine some_stable2 (by assumption) ?_
      | refine snd2_stable (by assumption) ?_ | dsimp only

theorem execSpeedStop_stable (hP : StableIn P free) {x0 x1} (h1 : P x1) : OutS P (execSpeedStop x0 x1) := by
  unfold execSpeedStop
  try dsimp only
  with_reducible repeat' first
      | assumption | intro _ | apply hP.put | apply State.putPf_stable hP | apply State.advanceTo_stable hP
      | apply OutS.next (P := P) | apply ite_stable (P := P) | apply OutS.ite (P := P) | dsimp only

theorem execEmuEnable_stable (hP : StableIn P free) {x0 x1 x2 x3} (h3 : P x3) : OutS P (execEmuEnable x0 x1 x2 x3) := by
  unfold execEmuEnable
  try dsimp only
  with_reducible repeat' first
      | assumption | intro _ | apply afterTokens_stable hP | apply emuCtrlWrite_stable hP | apply onIsland_stable hP
      | apply OutS.next (P := P) | exact OutS.fault | apply OutS.ite (P := P) | apply ite_stable (P := P)
      | apply ite_st (P := P) | apply ite_sec (P := P) | apply ite_snd (P := P) | apply ite_snd2 (P := P)
      | apply ite_fst (P := P) | apply id_stable (P := P) | dsimp only

end Sys2Proof.Machine
end

