-- ==== Sys2Proof/Laws/Stable6.lean ====
section
/-! SUPPORT. Each operation keeps every property that the elementary writes keep (part 6 of 9). -/

set_option linter.all false
set_option maxRecDepth 4000
set_option linter.unreachableTactic false

namespace Sys2Proof.Machine

variable {P : State → Prop} {free : Bool}

theorem execEmuStep_stable (hP : StableIn P free) {x0 x1} (h1 : P x1) : OutS P (execEmuStep x0 x1) := by
  unfold execEmuStep
  try dsimp only
  with_reducible repeat' first
      | assumption | intro _ | apply hP.put | apply State.advanceTo_stable hP | apply State.putEmu_stable hP
      | apply State.putB_stable hP | apply OutS.next (P := P) | apply ite_stable (P := P) | apply OutS.ite (P := P)
      | dsimp only

theorem execEngineMemWrite_stable (hP : StableIn P free) {x0 x1 x2 x3 x4} (h4 : P x4) : OutS P (execEngineMemWrite x0 x1 x2 x3 x4) := by
  unfold execEngineMemWrite
  try dsimp only
  with_reducible repeat' first
      | assumption | intro _ | apply afterTokens_stable hP | apply engMemWrite_stable hP
      | apply State.answer_stable hP | apply onIsland_stable hP | apply OutS.next (P := P) | exact OutS.fault
      | apply OutS.ite (P := P) | apply ite_stable (P := P) | apply ite_st (P := P) | apply ite_sec (P := P)
      | apply ite_snd (P := P) | apply ite_snd2 (P := P) | apply ite_fst (P := P) | apply id_stable (P := P)
      | dsimp only

theorem execEngineOwnerWrite_stable (hP : StableIn P free) {x0 x1 x2 x3} (h3 : P x3) : OutS P (execEngineOwnerWrite x0 x1 x2 x3) := by
  unfold execEngineOwnerWrite
  try dsimp only
  with_reducible repeat' first
      | assumption | intro _ | apply afterTokens_stable hP | apply engCtrlWrite_stable hP | apply onIsland_stable hP
      | apply OutS.next (P := P) | exact OutS.fault | apply OutS.ite (P := P) | apply ite_stable (P := P)
      | apply ite_st (P := P) | apply ite_sec (P := P) | apply ite_snd (P := P) | apply ite_snd2 (P := P)
      | apply ite_fst (P := P) | apply id_stable (P := P) | dsimp only

theorem execEngineTrigger_stable (hP : StableIn P free) {x0 x1} (h1 : P x1) : OutS P (execEngineTrigger x0 x1) := by
  unfold execEngineTrigger
  try dsimp only
  with_reducible repeat' first
      | assumption | intro _ | apply engTrigger_stable hP | apply State.setEngTrigs_stable hP | apply OutS.next (P := P)
      | apply ite_stable (P := P) | apply OutS.ite (P := P) | split | refine snd_stable (by assumption) ?_
      | refine fst_stable (by assumption) ?_ | refine some_stable (by assumption) ?_
      | refine some_stable2 (by assumption) ?_ | refine snd2_stable (by assumption) ?_ | dsimp only

theorem engDispatch_stable (hP : StableIn P free) {x0 x1 x2} (h2 : P x2) : P (engDispatch x0 x1 x2) := by
  unfold engDispatch
  try dsimp only
  with_reducible repeat' first
      | assumption | intro _ | apply hP.put | apply State.putEng_stable hP | apply engFlags_stable hP | dsimp only

theorem engStrike_stable (hP : StableIn P free) {x0 x1 x2} (h2 : P x2) : P (engStrike x0 x1 x2) := by
  unfold engStrike
  try dsimp only
  with_reducible repeat' first
      | assumption | intro _ | apply State.mark_stable hP | apply ite_stable (P := P) | apply ite_st (P := P)
      | apply ite_sec (P := P) | apply ite_snd (P := P) | apply ite_snd2 (P := P) | apply ite_fst (P := P)
      | apply OptS.some (P := P) | exact OptS.none | apply OptS2.some (P := P) | exact OptS2.none
      | apply OptS.bind (P := P) | apply OptS.bind2 (P := P) | apply OptS.map (P := P) | apply OptS.map0 (P := P)
      | apply OptS2.map (P := P) | apply OptS.getD (P := P) | apply OptS.ite (P := P) | apply OptS2.ite (P := P)
      | apply id_stable (P := P) | apply foldl_stable (P := P) | apply foldl_stable2 (P := P)
      | apply foldl_stable1 (P := P) | split | refine snd2_stable (by assumption) ?_
      | refine snd_stable (by assumption) ?_ | refine fst_stable (by assumption) ?_
      | refine some_stable (by assumption) ?_ | refine some_stable2 (by assumption) ?_ | dsimp only

theorem execRunDispatch_stable (hP : StableIn P free) {x0 x1 x2} (h1 : P x1) : OutS P (execRunDispatch x0 x1 x2) := by
  unfold execRunDispatch
  try dsimp only
  with_reducible repeat' first
      | assumption | intro _ | apply hP.put | apply State.putEng_stable hP | apply engStrike_stable hP
      | apply engDispatch_stable hP | apply OutS.next (P := P) | exact OutS.fault | apply OutS.ite (P := P)
      | apply ite_stable (P := P) | apply ite_st (P := P) | apply ite_sec (P := P) | apply ite_snd (P := P)
      | apply ite_snd2 (P := P) | apply ite_fst (P := P) | apply OptS.some (P := P) | exact OptS.none
      | apply OptS2.some (P := P) | exact OptS2.none | apply OptS.bind (P := P) | apply OptS.bind2 (P := P)
      | apply OptS.map (P := P) | apply OptS.map0 (P := P) | apply OptS2.map (P := P) | apply OptS.getD (P := P)
      | apply OptS.ite (P := P) | apply OptS2.ite (P := P) | apply id_stable (P := P) | apply foldl_stable (P := P)
      | apply foldl_stable2 (P := P) | apply foldl_stable1 (P := P) | split | refine snd2_stable (by assumption) ?_
      | refine snd_stable (by assumption) ?_ | refine fst_stable (by assumption) ?_
      | refine some_stable (by assumption) ?_ | refine some_stable2 (by assumption) ?_ | dsimp only

theorem engRed_stable (hP : StableIn P free) {x0 x1 x2} (h2 : P x2) : P (engRed x0 x1 x2) := by
  unfold engRed
  try dsimp only
  with_reducible repeat' first
      | assumption | intro _ | apply hP.put | apply State.putEng_stable hP | apply engEnter_stable hP
      | apply engFlags_stable hP | apply State.report_stable hP | apply ite_stable (P := P) | apply ite_st (P := P)
      | apply ite_sec (P := P) | apply ite_snd (P := P) | apply ite_snd2 (P := P) | apply ite_fst (P := P)
      | apply id_stable (P := P) | dsimp only

theorem lawOp_stable (hP : StableIn P free) {x0 x1 x2 x3 x4 x5} (hk3 : ∀ y0 y1, P y1 → P (x3 y0 y1)) (hk4 : ∀ y0 y1, P y1 → P (x4 y0 y1)) (h5 : P x5) : P (lawOp x0 x1 x2 x3 x4 x5) := by
  unfold lawOp
  try dsimp only
  with_reducible repeat' first
      | assumption | intro _ | apply hP.put | apply hk3 | apply hk4 | apply engRed_stable hP | apply engFixAll_stable hP
      | apply State.putEng_stable hP | apply ite_stable (P := P) | dsimp only

theorem lawPath_stable (hP : StableIn P free) {x0 x1 x2 x3 x4} (h4 : P x4) : P (lawPath x0 x1 x2 x3 x4) := by
  unfold lawPath
  try dsimp only
  with_reducible repeat' first
      | assumption | intro _ | apply hP.put | apply lawOp_stable hP | apply State.putEng_stable hP | dsimp only

theorem execLawNop_stable (hP : StableIn P free) {x0 x1} (h1 : P x1) : OutS P (execLawNop x0 x1) := by
  unfold execLawNop
  try dsimp only
  with_reducible repeat' first
      | assumption | intro _ | apply lawPath_stable hP | apply OutS.next (P := P) | dsimp only

theorem execLawWait_stable (hP : StableIn P free) {x0 x1} (h1 : P x1) : OutS P (execLawWait x0 x1) := by
  unfold execLawWait
  try dsimp only
  with_reducible repeat' first
      | assumption | intro _ | apply lawPath_stable hP | apply OutS.next (P := P) | dsimp only

theorem sendPlayed_stable (hP : StableIn P free) {x0 x1 x2 x3} (h3 : P x3) : P (sendPlayed x0 x1 x2 x3) := by
  unfold sendPlayed
  try dsimp only
  with_reducible repeat' first
      | assumption | intro _ | apply hP.put | apply State.putReel_stable hP | apply ite_stable (P := P)
      | apply ite_st (P := P) | apply ite_sec (P := P) | apply ite_snd (P := P) | apply ite_snd2 (P := P)
      | apply ite_fst (P := P) | apply OptS.some (P := P) | exact OptS.none | apply OptS2.some (P := P)
      | exact OptS2.none | apply OptS.bind (P := P) | apply OptS.bind2 (P := P) | apply OptS.map (P := P)
      | apply OptS.map0 (P := P) | apply OptS2.map (P := P) | apply OptS.getD (P := P) | apply OptS.ite (P := P)
      | apply OptS2.ite (P := P) | apply id_stable (P := P) | apply foldl_stable (P := P)
      | apply foldl_stable2 (P := P) | apply foldl_stable1 (P := P) | split | refine snd2_stable (by assumption) ?_
      | refine snd_stable (by assumption) ?_ | refine fst_stable (by assumption) ?_
      | refine some_stable (by assumption) ?_ | refine some_stable2 (by assumption) ?_ | dsimp only

theorem teach_stable (hP : StableIn P free) {x0 x1 x2 x3 x4} (h4 : P x4) : P (teach x0 x1 x2 x3 x4) := by
  unfold teach
  try dsimp only
  with_reducible repeat' first
      | assumption | intro _ | apply hP.put | apply State.setReelQ_stable hP | apply State.incSat_stable hP
      | apply ite_stable (P := P) | apply ite_st (P := P) | apply ite_sec (P := P) | apply ite_snd (P := P)
      | apply ite_snd2 (P := P) | apply ite_fst (P := P) | apply OptS.some (P := P) | exact OptS.none
      | apply OptS2.some (P := P) | exact OptS2.none | apply OptS.bind (P := P) | apply OptS.bind2 (P := P)
      | apply OptS.map (P := P) | apply OptS.map0 (P := P) | apply OptS2.map (P := P) | apply OptS.getD (P := P)
      | apply OptS.ite (P := P) | apply OptS2.ite (P := P) | apply id_stable (P := P) | apply foldl_stable (P := P)
      | apply foldl_stable2 (P := P) | apply foldl_stable1 (P := P) | split | refine snd2_stable (by assumption) ?_
      | refine snd_stable (by assumption) ?_ | refine fst_stable (by assumption) ?_
      | refine some_stable (by assumption) ?_ | refine some_stable2 (by assumption) ?_ | dsimp only

theorem teachAll_stable (hP : StableIn P free) {x0 x1 x2} (h2 : P x2) : P (teachAll x0 x1 x2) := by
  unfold teachAll
  try dsimp only
  with_reducible repeat' first
      | assumption | intro _ | apply teach_stable hP | apply ite_stable (P := P) | apply ite_st (P := P)
      | apply ite_sec (P := P) | apply ite_snd (P := P) | apply ite_snd2 (P := P) | apply ite_fst (P := P)
      | apply OptS.some (P := P) | exact OptS.none | apply OptS2.some (P := P) | exact OptS2.none
      | apply OptS.bind (P := P) | apply OptS.bind2 (P := P) | apply OptS.map (P := P) | apply OptS.map0 (P := P)
      | apply OptS2.map (P := P) | apply OptS.getD (P := P) | apply OptS.ite (P := P) | apply OptS2.ite (P := P)
      | apply id_stable (P := P) | apply foldl_stable (P := P) | apply foldl_stable2 (P := P)
      | apply foldl_stable1 (P := P) | split | refine snd2_stable (by assumption) ?_
      | refine snd_stable (by assumption) ?_ | refine fst_stable (by assumption) ?_
      | refine some_stable (by assumption) ?_ | refine some_stable2 (by assumption) ?_ | dsimp only

theorem mirrorWrites_stable (hP : StableIn P free) {x0 x1 x2} (h2 : P x2) : P (mirrorWrites x0 x1 x2) := by
  unfold mirrorWrites
  try dsimp only
  with_reducible repeat' first
      | assumption | intro _ | apply bankWrite_stable hP | apply foldl_stable (P := P) | apply foldl_stable2 (P := P)
      | apply foldl_stable1 (P := P) | apply ite_stable (P := P) | dsimp only

theorem offerSignals_stable (hP : StableIn P free) {x0 x1 x2} (h2 : P x2) : P (offerSignals x0 x1 x2) := by
  unfold offerSignals
  try dsimp only
  with_reducible repeat' first
      | assumption | intro _ | apply rushUpdate_stable hP | apply ite_stable (P := P) | apply ite_st (P := P)
      | apply ite_sec (P := P) | apply ite_snd (P := P) | apply ite_snd2 (P := P) | apply ite_fst (P := P)
      | apply OptS.some (P := P) | exact OptS.none | apply OptS2.some (P := P) | exact OptS2.none
      | apply OptS.bind (P := P) | apply OptS.bind2 (P := P) | apply OptS.map (P := P) | apply OptS.map0 (P := P)
      | apply OptS2.map (P := P) | apply OptS.getD (P := P) | apply OptS.ite (P := P) | apply OptS2.ite (P := P)
      | apply id_stable (P := P) | apply foldl_stable (P := P) | apply foldl_stable2 (P := P)
      | apply foldl_stable1 (P := P) | split | refine snd2_stable (by assumption) ?_
      | refine snd_stable (by assumption) ?_ | refine fst_stable (by assumption) ?_
      | refine some_stable (by assumption) ?_ | refine some_stable2 (by assumption) ?_ | dsimp only

theorem engCommit_stable (hP : StableIn P free) {x0 x1 x2 x3 x4} (h4 : P x4) : P (engCommit x0 x1 x2 x3 x4) := by
  unfold engCommit
  try dsimp only
  with_reducible repeat' first
      | assumption | intro _ | apply hP.put | apply State.putEng_stable hP | apply State.putEngNeg_stable hP
      | apply teachAll_stable hP | apply sendPlayed_stable hP | apply mirrorWrites_stable hP | apply runEnds_stable hP
      | apply offerSignals_stable hP | apply State.inc_stable hP | apply State.putIf_stable hP
      | apply State.store_stable hP | apply ite_stable (P := P) | apply ite_st (P := P) | apply ite_sec (P := P)
      | apply ite_snd (P := P) | apply ite_snd2 (P := P) | apply ite_fst (P := P) | apply OptS.some (P := P)
      | exact OptS.none | apply OptS2.some (P := P) | exact OptS2.none | apply OptS.bind (P := P)
      | apply OptS.bind2 (P := P) | apply OptS.map (P := P) | apply OptS.map0 (P := P) | apply OptS2.map (P := P)
      | apply OptS.getD (P := P) | apply OptS.ite (P := P) | apply OptS2.ite (P := P) | apply id_stable (P := P)
      | apply foldl_stable (P := P) | apply foldl_stable2 (P := P) | apply foldl_stable1 (P := P) | split
      | refine snd2_stable (by assumption) ?_ | refine snd_stable (by assumption) ?_
      | refine fst_stable (by assumption) ?_ | refine some_stable (by assumption) ?_
      | refine some_stable2 (by assumption) ?_ | dsimp only

theorem sendPout_stable (hP : StableIn P free) {x0 x1 x2 x3 x4 x5} (h5 : P x5) : P (sendPout x0 x1 x2 x3 x4 x5) := by
  unfold sendPout
  try dsimp only
  with_reducible repeat' first
      | assumption | intro _ | apply State.setPortWrites_stable hP | apply ite_stable (P := P) | dsimp only

theorem engSettle_stable (hP : StableIn P free) {x0 x1 x2 x3 x4} (h4 : P x4) : P (engSettle x0 x1 x2 x3 x4) := by
  unfold engSettle
  try dsimp only
  with_reducible repeat' first
      | assumption | intro _ | apply hP.put | apply State.report_stable hP | apply State.incSat_stable hP
      | apply sendPout_stable hP | apply State.putEng_stable hP | apply engCommit_stable hP
      | apply foldl_stable (P := P) | apply foldl_stable2 (P := P) | apply foldl_stable1 (P := P) | split
      | refine snd_stable (by assumption) ?_ | refine fst_stable (by assumption) ?_
      | refine some_stable (by assumption) ?_ | refine some_stable2 (by assumption) ?_
      | refine snd2_stable (by assumption) ?_ | dsimp only

theorem engEnd_stable (hP : StableIn P free) {x0 x1 x2} (h2 : P x2) : P (engEnd x0 x1 x2) := by
  unfold engEnd
  try dsimp only
  with_reducible repeat' first
      | assumption | intro _ | apply hP.put | apply State.putEng_stable hP | apply engCommit_stable hP
      | apply engSettle_stable hP | apply engRed_stable hP | apply ite_stable (P := P) | split
      | refine snd_stable (by assumption) ?_ | refine fst_stable (by assumption) ?_
      | refine some_stable (by assumption) ?_ | refine some_stable2 (by assumption) ?_
      | refine snd2_stable (by assumption) ?_ | dsimp only

theorem execLawEnd_stable (hP : StableIn P free) {x0 x1 x2} (h2 : P x2) : OutS P (execLawEnd x0 x1 x2) := by
  unfold execLawEnd
  try dsimp only
  with_reducible repeat' first
      | assumption | intro _ | apply engRed_stable hP | apply engEnd_stable hP | apply engFix_stable hP
      | apply OutS.next (P := P) | apply ite_stable (P := P) | apply OutS.ite (P := P) | dsimp only

theorem State.withPass_stable (hP : StableIn P free) {x0 x1 x2} (h0 : P x0) : P (State.withPass x0 x1 x2) := by
  unfold State.withPass
  try dsimp only
  with_reducible repeat' first
      | assumption | intro _ | apply hP.put | apply State.putEng_stable hP | dsimp only

theorem execLawSkip_stable (hP : StableIn P free) {x0 x1} (h1 : P x1) : OutS P (execLawSkip x0 x1) := by
  unfold execLawSkip
  try dsimp only
  with_reducible repeat' first
      | assumption | intro _ | apply lawOp_stable hP | apply State.withPass_stable hP | apply OutS.next (P := P)
      | apply ite_stable (P := P) | apply OutS.ite (P := P) | dsimp only

theorem execLawRep_stable (hP : StableIn P free) {x0 x1} (h1 : P x1) : OutS P (execLawRep x0 x1) := by
  unfold execLawRep
  try dsimp only
  with_reducible repeat' first
      | assumption | intro _ | apply lawOp_stable hP | apply State.withPass_stable hP | apply OutS.next (P := P)
      | apply ite_stable (P := P) | apply OutS.ite (P := P) | dsimp only

theorem execLawAdd_stable (hP : StableIn P free) {x0 x1} (h1 : P x1) : OutS P (execLawAdd x0 x1) := by
  unfold execLawAdd
  try dsimp only
  with_reducible repeat' first
      | assumption | intro _ | apply lawPath_stable hP | apply OutS.next (P := P) | dsimp only

theorem execLawSub_stable (hP : StableIn P free) {x0 x1} (h1 : P x1) : OutS P (execLawSub x0 x1) := by
  unfold execLawSub
  try dsimp only
  with_reducible repeat' first
      | assumption | intro _ | apply lawPath_stable hP | apply OutS.next (P := P) | dsimp only

theorem execLawNeg_stable (hP : StableIn P free) {x0 x1} (h1 : P x1) : OutS P (execLawNeg x0 x1) := by
  unfold execLawNeg
  try dsimp only
  with_reducible repeat' first
      | assumption | intro _ | apply lawPath_stable hP | apply OutS.next (P := P) | dsimp only

theorem execLawMov_stable (hP : StableIn P free) {x0 x1} (h1 : P x1) : OutS P (execLawMov x0 x1) := by
  unfold execLawMov
  try dsimp only
  with_reducible repeat' first
      | assumption | intro _ | apply lawPath_stable hP | apply OutS.next (P := P) | dsimp only

theorem execLawMul_stable (hP : StableIn P free) {x0 x1} (h1 : P x1) : OutS P (execLawMul x0 x1) := by
  unfold execLawMul
  try dsimp only
  with_reducible repeat' first
      | assumption | intro _ | apply lawPath_stable hP | apply OutS.next (P := P) | dsimp only

theorem execLawMac_stable (hP : StableIn P free) {x0 x1} (h1 : P x1) : OutS P (execLawMac x0 x1) := by
  unfold execLawMac
  try dsimp only
  with_reducible repeat' first
      | assumption | intro _ | apply lawPath_stable hP | apply OutS.next (P := P) | dsimp only

theorem execLawScl_stable (hP : StableIn P free) {x0 x1} (h1 : P x1) : OutS P (execLawScl x0 x1) := by
  unfold execLawScl
  try dsimp only
  with_reducible repeat' first
      | assumption | intro _ | apply lawPath_stable hP | apply OutS.next (P := P) | dsimp only

theorem execLawNorm_stable (hP : StableIn P free) {x0 x1} (h1 : P x1) : OutS P (execLawNorm x0 x1) := by
  unfold execLawNorm
  try dsimp only
  with_reducible repeat' first
      | assumption | intro _ | apply lawPath_stable hP | apply OutS.next (P := P) | dsimp only

theorem execLawSats_stable (hP : StableIn P free) {x0 x1} (h1 : P x1) : OutS P (execLawSats x0 x1) := by
  unfold execLawSats
  try dsimp only
  with_reducible repeat' first
      | assumption | intro _ | apply lawPath_stable hP | apply OutS.next (P := P) | dsimp only

theorem execLawSata_stable (hP : StableIn P free) {x0 x1} (h1 : P x1) : OutS P (execLawSata x0 x1) := by
  unfold execLawSata
  try dsimp only
  with_reducible repeat' first
      | assumption | intro _ | apply lawPath_stable hP | apply OutS.next (P := P) | dsimp only

theorem execLawAbs_stable (hP : StableIn P free) {x0 x1} (h1 : P x1) : OutS P (execLawAbs x0 x1) := by
  unfold execLawAbs
  try dsimp only
  with_reducible repeat' first
      | assumption | intro _ | apply lawPath_stable hP | apply OutS.next (P := P) | dsimp only

theorem execLawMax_stable (hP : StableIn P free) {x0 x1} (h1 : P x1) : OutS P (execLawMax x0 x1) := by
  unfold execLawMax
  try dsimp only
  with_reducible repeat' first
      | assumption | intro _ | apply lawPath_stable hP | apply OutS.next (P := P) | dsimp only

theorem execLawMin_stable (hP : StableIn P free) {x0 x1} (h1 : P x1) : OutS P (execLawMin x0 x1) := by
  unfold execLawMin
  try dsimp only
  with_reducible repeat' first
      | assumption | intro _ | apply lawPath_stable hP | apply OutS.next (P := P) | dsimp only

theorem execLawCmp_stable (hP : StableIn P free) {x0 x1} (h1 : P x1) : OutS P (execLawCmp x0 x1) := by
  unfold execLawCmp
  try dsimp only
  with_reducible repeat' first
      | assumption | intro _ | apply lawPath_stable hP | apply OutS.next (P := P) | dsimp only

theorem execLawSel_stable (hP : StableIn P free) {x0 x1} (h1 : P x1) : OutS P (execLawSel x0 x1) := by
  unfold execLawSel
  try dsimp only
  with_reducible repeat' first
      | assumption | intro _ | apply lawPath_stable hP | apply OutS.next (P := P) | dsimp only

theorem lawIssue_stable (hP : StableIn P free) {x0 x1 x2 x3} (h3 : P x3) : P (lawIssue x0 x1 x2 x3) := by
  unfold lawIssue
  try dsimp only
  with_reducible repeat' first
      | assumption | intro _ | apply State.withPass_stable hP | dsimp only

theorem execTrd_stable (hP : StableIn P free) {x0 x1} (h1 : P x1) : OutS P (execTrd x0 x1) := by
  unfold execTrd
  try dsimp only
  with_reducible repeat' first
      | assumption | intro _ | apply lawOp_stable hP | apply lawIssue_stable hP | apply OutS.next (P := P) | dsimp only

theorem reelUnbound_stable (hP : StableIn P free) {x0 x1 x2} (h2 : P x2) : P (reelUnbound x0 x1 x2) := by
  unfold reelUnbound
  try dsimp only
  with_reducible repeat' first
      | assumption | intro _ | apply State.report_stable hP | apply ite_stable (P := P) | dsimp only

theorem execRrd_stable (hP : StableIn P free) {x0 x1} (h1 : P x1) : OutS P (execRrd x0 x1) := by
  unfold execRrd
  try dsimp only
  with_reducible repeat' first
      | assumption | intro _ | apply hP.put | apply lawOp_stable hP | apply lawIssue_stable hP
      | apply reelUnbound_stable hP | apply State.incSat_stable hP | apply State.withPass_stable hP
      | apply OutS.next (P := P) | apply ite_stable (P := P) | apply OutS.ite (P := P) | split
      | refine snd_stable (by assumption) ?_ | refine fst_stable (by assumption) ?_
      | refine some_stable (by assumption) ?_ | refine some_stable2 (by assumption) ?_
      | refine snd2_stable (by assumption) ?_ | dsimp only

theorem checkEffect_stable (hP : StableIn P free) {x0 x1 x2} (h2 : P x2) : P (checkEffect x0 x1 x2) := by
  unfold checkEffect
  try dsimp only
  with_reducible repeat' first
      | assumption | intro _ | apply hP.put | apply State.putEng_stable hP | apply sendPout_stable hP
      | apply State.draw_stable hP | apply ite_stable (P := P) | split | refine snd_stable (by assumption) ?_
      | refine fst_stable (by assumption) ?_ | refine some_stable (by assumption) ?_
      | refine some_stable2 (by assumption) ?_ | refine snd2_stable (by assumption) ?_ | dsimp only

theorem addEffect_stable (hP : StableIn P free) {x0 x1 x2} (h2 : P x2) : P (addEffect x0 x1 x2) := by
  unfold addEffect
  try dsimp only
  with_reducible repeat' first
      | assumption | intro _ | apply hP.put | apply checkEffect_stable hP | apply sendPout_stable hP
      | apply State.putEng_stable hP | apply ite_stable (P := P) | split | refine snd_stable (by assumption) ?_
      | refine fst_stable (by assumption) ?_ | refine some_stable (by assumption) ?_
      | refine some_stable2 (by assumption) ?_ | refine snd2_stable (by assumption) ?_ | dsimp only

theorem execRlrn_stable (hP : StableIn P free) {x0 x1 x2} (h2 : P x2) : OutS P (execRlrn x0 x1 x2) := by
  unfold execRlrn
  try dsimp only
  with_reducible repeat' first
      | assumption | intro _ | apply lawOp_stable hP | apply addEffect_stable hP | apply reelUnbound_stable hP
      | apply OutS.next (P := P) | exact OutS.fault | apply ite_stable (P := P) | apply OutS.ite (P := P)
      | apply id_stable (P := P) | dsimp only

theorem execLawCrot_stable (hP : StableIn P free) {x0 x1} (h1 : P x1) : OutS P (execLawCrot x0 x1) := by
  unfold execLawCrot
  try dsimp only
  with_reducible repeat' first
      | assumption | intro _ | apply lawPath_stable hP | apply OutS.next (P := P) | dsimp only

theorem execLawDiv_stable (hP : StableIn P free) {x0 x1} (h1 : P x1) : OutS P (execLawDiv x0 x1) := by
  unfold execLawDiv
  try dsimp only
  with_reducible repeat' first
      | assumption | intro _ | apply lawPath_stable hP | apply OutS.next (P := P) | dsimp only

theorem execLawSqrt_stable (hP : StableIn P free) {x0 x1} (h1 : P x1) : OutS P (execLawSqrt x0 x1) := by
  unfold execLawSqrt
  try dsimp only
  with_reducible repeat' first
      | assumption | intro _ | apply lawPath_stable hP | apply OutS.next (P := P) | dsimp only

theorem execClk_stable (hP : StableIn P free) {x0 x1} (h1 : P x1) : OutS P (execClk x0 x1) := by
  unfold execClk
  try dsimp only
  with_reducible repeat' first
      | assumption | intro _ | apply lawPath_stable hP | apply OutS.next (P := P) | dsimp only

theorem execPark_stable (hP : StableIn P free) {x0 x1} (h1 : P x1) : OutS P (execPark x0 x1) := by
  unfold execPark
  try dsimp only
  with_reducible repeat' first
      | assumption | intro _ | apply lawPath_stable hP | apply OutS.next (P := P) | dsimp only

theorem execIpark_stable (hP : StableIn P free) {x0 x1} (h1 : P x1) : OutS P (execIpark x0 x1) := by
  unfold execIpark
  try dsimp only
  with_reducible repeat' first
      | assumption | intro _ | apply lawPath_stable hP | apply OutS.next (P := P) | dsimp only

theorem execSvm_stable (hP : StableIn P free) {x0 x1} (h1 : P x1) : OutS P (execSvm x0 x1) := by
  unfold execSvm
  try dsimp only
  with_reducible repeat' first
      | assumption | intro _ | apply lawPath_stable hP | apply OutS.next (P := P) | dsimp only

theorem latchPos_stable (hP : StableIn P free) {x0 x1} (h1 : P x1) : P (latchPos x0 x1) := by
  unfold latchPos
  try dsimp only
  with_reducible repeat' first
      | assumption | intro _ | apply hP.put | apply State.putEng_stable hP | apply ite_stable (P := P) | dsimp only

theorem sinSlot_stable (hP : StableIn P free) {x0 x1 x2} (h2 : P x2) : P (sinSlot x0 x1 x2) := by
  unfold sinSlot
  try dsimp only
  with_reducible repeat' first
      | assumption | intro _ | apply hP.put | apply State.draw_stable hP | apply latchPos_stable hP | apply State.putEng_stable hP
      | apply State.withPass_stable hP | apply ite_stable (P := P) | dsimp only

theorem execSin_stable (hP : StableIn P free) {x0 x1} (h1 : P x1) : OutS P (execSin x0 x1) := by
  unfold execSin
  try dsimp only
  with_reducible repeat' first
      | assumption | intro _ | apply hP.put | apply lawOp_stable hP | apply sinSlot_stable hP | apply lawIssue_stable hP
      | apply OutS.next (P := P) | dsimp only

theorem execPout_stable (hP : StableIn P free) {x0 x1 x2} (h2 : P x2) : OutS P (execPout x0 x1 x2) := by
  unfold execPout
  try dsimp only
  with_reducible repeat' first
      | assumption | intro _ | apply lawOp_stable hP | apply addEffect_stable hP | apply OutS.next (P := P)
      | exact OutS.fault | dsimp only

theorem execLds_stable (hP : StableIn P free) {x0 x1} (h1 : P x1) : OutS P (execLds x0 x1) := by
  unfold execLds
  try dsimp only
  with_reducible repeat' first
      | assumption | intro _ | apply lawOp_stable hP | apply lawIssue_stable hP | apply OutS.next (P := P)
      | exact OutS.fault | apply OutS.ite (P := P) | apply ite_stable (P := P) | apply ite_st (P := P)
      | apply ite_sec (P := P) | apply ite_snd (P := P) | apply ite_snd2 (P := P) | apply ite_fst (P := P)
      | apply id_stable (P := P) | dsimp only

theorem execSts_stable (hP : StableIn P free) {x0 x1 x2} (h2 : P x2) : OutS P (execSts x0 x1 x2) := by
  unfold execSts
  try dsimp only
  with_reducible repeat' first
      | assumption | intro _ | apply lawOp_stable hP | apply lawIssue_stable hP | apply addEffect_stable hP
      | apply OutS.next (P := P) | exact OutS.fault | dsimp only

theorem execLdc_stable (hP : StableIn P free) {x0 x1} (h1 : P x1) : OutS P (execLdc x0 x1) := by
  unfold execLdc
  try dsimp only
  with_reducible repeat' first
      | assumption | intro _ | apply lawOp_stable hP | apply lawIssue_stable hP | apply OutS.next (P := P) | dsimp only

theorem execQmac2_stable (hP : StableIn P free) {x0 x1} (h1 : P x1) : OutS P (execQmac2 x0 x1) := by
  unfold execQmac2
  try dsimp only
  with_reducible repeat' first
      | assumption | intro _ | apply lawPath_stable hP | apply OutS.next (P := P) | dsimp only

theorem execQld_stable (hP : StableIn P free) {x0 x1} (h1 : P x1) : OutS P (execQld x0 x1) := by
  unfold execQld
  try dsimp only
  with_reducible repeat' first
      | assumption | intro _ | apply lawPath_stable hP | apply OutS.next (P := P) | dsimp only

theorem execQout_stable (hP : StableIn P free) {x0 x1} (h1 : P x1) : OutS P (execQout x0 x1) := by
  unfold execQout
  try dsimp only
  with_reducible repeat' first
      | assumption | intro _ | apply lawPath_stable hP | apply OutS.next (P := P) | dsimp only

theorem execQadd_stable (hP : StableIn P free) {x0 x1} (h1 : P x1) : OutS P (execQadd x0 x1) := by
  unfold execQadd
  try dsimp only
  with_reducible repeat' first
      | assumption | intro _ | apply lawPath_stable hP | apply OutS.next (P := P) | dsimp only

theorem execQtob_stable (hP : StableIn P free) {x0 x1} (h1 : P x1) : OutS P (execQtob x0 x1) := by
  unfold execQtob
  try dsimp only
  with_reducible repeat' first
      | assumption | intro _ | apply lawPath_stable hP | apply OutS.next (P := P) | dsimp only

theorem execBtoq_stable (hP : StableIn P free) {x0 x1} (h1 : P x1) : OutS P (execBtoq x0 x1) := by
  unfold execBtoq
  try dsimp only
  with_reducible repeat' first
      | assumption | intro _ | apply lawPath_stable hP | apply OutS.next (P := P) | dsimp only

theorem loseLaw_stable (hP : StableIn P free) {x0 x1} (h1 : P x1) : P (loseLaw x0 x1) := by
  unfold loseLaw
  try dsimp only
  with_reducible repeat' first
      | assumption | intro _ | apply hP.put | apply forceSafe_stable hP | apply State.report_stable hP
      | apply foldl_stable (P := P) | dsimp only

theorem foLog_stable (hP : StableIn P free) {x0 x1 x2 x3} (h3 : P x3) : P (foLog x0 x1 x2 x3) := by
  unfold foLog
  try dsimp only
  with_reducible repeat' first
      | assumption | intro _ | apply hP.put | apply State.inc_stable hP | dsimp only

theorem backWord_stable (hP : StableIn P free) {x0 x1 x2} (h2 : P x2) : P (backWord x0 x1 x2).2 := by
  unfold backWord
  try dsimp only
  with_reducible repeat' first
      | assumption | intro _ | apply bankRead_stable hP | apply ite_stable (P := P) | apply ite_st (P := P)
      | apply ite_sec (P := P) | apply ite_snd (P := P) | apply ite_snd2 (P := P) | apply ite_fst (P := P)
      | apply id_stable (P := P) | dsimp only

theorem restoreWords_stable (hP : StableIn P free) {x0 x1 x2 x3 x4 x5} (h5 : P x5) : P (restoreWords x0 x1 x2 x3 x4 x5).2 := by
  fun_induction restoreWords x0 x1 x2 x3 x4 x5 <;> (with_reducible repeat' first
      | assumption | intro _ | apply dirty_stable hP | apply backWord_stable hP | refine ‹P _ → P _› ?_
      | refine ‹P _ → OptS P _› ?_ | refine ‹∀ t, P t → OptS P _› _ ?_ | apply ite_stable (P := P)
      | apply ite_st (P := P) | apply ite_sec (P := P) | apply ite_snd (P := P) | apply ite_snd2 (P := P)
      | apply ite_fst (P := P) | apply OptS.some (P := P) | exact OptS.none | apply OptS2.some (P := P)
      | exact OptS2.none | apply OptS.bind (P := P) | apply OptS.bind2 (P := P) | apply OptS.map (P := P)
      | apply OptS.map0 (P := P) | apply OptS2.map (P := P) | apply OptS.getD (P := P) | apply OptS.ite (P := P)
      | apply OptS2.ite (P := P) | apply id_stable (P := P) | apply foldl_stable (P := P)
      | apply foldl_stable2 (P := P) | apply foldl_stable1 (P := P) | split | refine snd2_stable (by assumption) ?_
      | refine snd_stable (by assumption) ?_ | refine fst_stable (by assumption) ?_
      | refine some_stable (by assumption) ?_ | refine some_stable2 (by assumption) ?_ | dsimp +zetaDelta only
      | dsimp only)

theorem restoreData_stable (hP : StableIn P free) {x0 x1 x2} (h2 : P x2) : P (restoreData x0 x1 x2).2 := by
  unfold restoreData
  try dsimp only
  with_reducible repeat' first
      | assumption | intro _ | apply bankReads_stable hP | apply restoreWords_stable hP | apply ite_stable (P := P)
      | apply ite_st (P := P) | apply ite_sec (P := P) | apply ite_snd (P := P) | apply ite_snd2 (P := P)
      | apply ite_fst (P := P) | apply OptS.some (P := P) | exact OptS.none | apply OptS2.some (P := P)
      | exact OptS2.none | apply OptS.bind (P := P) | apply OptS.bind2 (P := P) | apply OptS.map (P := P)
      | apply OptS.map0 (P := P) | apply OptS2.map (P := P) | apply OptS.getD (P := P) | apply OptS.ite (P := P)
      | apply OptS2.ite (P := P) | apply id_stable (P := P) | apply foldl_stable (P := P)
      | apply foldl_stable2 (P := P) | apply foldl_stable1 (P := P) | split | refine snd2_stable (by assumption) ?_
      | refine snd_stable (by assumption) ?_ | refine fst_stable (by assumption) ?_
      | refine some_stable (by assumption) ?_ | refine some_stable2 (by assumption) ?_ | dsimp only

theorem moveReels_stable (hP : StableIn P free) {x0 x1 x2} (h2 : P x2) : P (moveReels x0 x1 x2) := by
  unfold moveReels
  try dsimp only
  with_reducible repeat' first
      | assumption | intro _ | apply hP.put | apply State.putReel_stable hP | apply ite_stable (P := P)
      | apply ite_st (P := P) | apply ite_sec (P := P) | apply ite_snd (P := P) | apply ite_snd2 (P := P)
      | apply ite_fst (P := P) | apply OptS.some (P := P) | exact OptS.none | apply OptS2.some (P := P)
      | exact OptS2.none | apply OptS.bind (P := P) | apply OptS.bind2 (P := P) | apply OptS.map (P := P)
      | apply OptS.map0 (P := P) | apply OptS2.map (P := P) | apply OptS.getD (P := P) | apply OptS.ite (P := P)
      | apply OptS2.ite (P := P) | apply id_stable (P := P) | apply foldl_stable (P := P)
      | apply foldl_stable2 (P := P) | apply foldl_stable1 (P := P) | split | refine snd2_stable (by assumption) ?_
      | refine snd_stable (by assumption) ?_ | refine fst_stable (by assumption) ?_
      | refine some_stable (by assumption) ?_ | refine some_stable2 (by assumption) ?_ | dsimp only

theorem moveSources_stable (hP : StableIn P free) {x0 x1 x2} (h2 : P x2) : P (moveSources x0 x1 x2) := by
  unfold moveSources
  try dsimp only
  with_reducible repeat' first
      | assumption | intro _ | apply hP.put | apply foldl_stable (P := P) | apply ite_stable (P := P) | dsimp only

theorem moveDest_stable (hP : StableIn P free) {x0 x1 x2} (h2 : P x2) : P (moveDest x0 x1 x2) := by
  unfold moveDest
  try dsimp only
  with_reducible repeat' first
      | assumption | intro _ | apply hP.put | apply State.putSampSet_stable hP | apply foldl_stable (P := P)
      | apply foldl_stable2 (P := P) | apply foldl_stable1 (P := P) | dsimp only

theorem moveRegs_stable (hP : StableIn P free) {x0 x1 x2} (h2 : P x2) : P (moveRegs x0 x1 x2) := by
  unfold moveRegs
  try dsimp only
  with_reducible repeat' first
      | assumption | intro _ | apply hP.put | apply foldl_stable (P := P) | dsimp only

theorem moveLaw_stable (hP : StableIn P free) {x0 x1 x2 x3} (h3 : P x3) : P (moveLaw x0 x1 x2 x3) := by
  unfold moveLaw
  try dsimp only
  with_reducible repeat' first
      | assumption | intro _ | apply hP.put | apply State.putEng_stable hP | apply putEngState_stable hP
      | apply engEnter_stable hP | apply moveDest_stable hP | apply moveSources_stable hP | apply moveReels_stable hP
      | apply moveRegs_stable hP | apply State.stores_stable hP | apply ite_stable (P := P) | apply ite_st (P := P)
      | apply ite_sec (P := P) | apply ite_snd (P := P) | apply ite_snd2 (P := P) | apply ite_fst (P := P)
      | apply OptS.some (P := P) | exact OptS.none | apply OptS2.some (P := P) | exact OptS2.none
      | apply OptS.bind (P := P) | apply OptS.bind2 (P := P) | apply OptS.map (P := P) | apply OptS.map0 (P := P)
      | apply OptS2.map (P := P) | apply OptS.getD (P := P) | apply OptS.ite (P := P) | apply OptS2.ite (P := P)
      | apply id_stable (P := P) | apply foldl_stable (P := P) | apply foldl_stable2 (P := P)
      | apply foldl_stable1 (P := P) | split | refine snd2_stable (by assumption) ?_
      | refine snd_stable (by assumption) ?_ | refine fst_stable (by assumption) ?_
      | refine some_stable (by assumption) ?_ | refine some_stable2 (by assumption) ?_ | dsimp only

theorem engFailover_stable (hP : StableIn P free) {x0 x1 x2} (h2 : P x2) : P (engFailover x0 x1 x2) := by
  unfold engFailover
  try dsimp only
  with_reducible repeat' first
      | assumption | intro _ | apply hP.put | apply State.putEng_stable hP | apply restoreData_stable hP
      | apply moveLaw_stable hP | apply loseLaw_stable hP | apply foLog_stable hP | apply wakeRequest_stable hP
      | apply ite_stable (P := P) | apply ite_st (P := P) | apply ite_sec (P := P) | apply ite_snd (P := P)
      | apply ite_snd2 (P := P) | apply ite_fst (P := P) | apply OptS.some (P := P) | exact OptS.none
      | apply OptS2.some (P := P) | exact OptS2.none | apply OptS.bind (P := P) | apply OptS.bind2 (P := P)
      | apply OptS.map (P := P) | apply OptS.map0 (P := P) | apply OptS2.map (P := P) | apply OptS.getD (P := P)
      | apply OptS.ite (P := P) | apply OptS2.ite (P := P) | apply id_stable (P := P) | apply foldl_stable (P := P)
      | apply foldl_stable2 (P := P) | apply foldl_stable1 (P := P) | split | refine snd2_stable (by assumption) ?_
      | refine snd_stable (by assumption) ?_ | refine fst_stable (by assumption) ?_
      | refine some_stable (by assumption) ?_ | refine some_stable2 (by assumption) ?_ | dsimp only

theorem execEngineFailover_stable (hP : StableIn P free) {x0 x1 x2} (h2 : P x2) : OutS P (execEngineFailover x0 x1 x2) := by
  unfold execEngineFailover
  try dsimp only
  with_reducible repeat' first
      | assumption | intro _ | apply engRed_stable hP | apply engFailover_stable hP | apply OutS.next (P := P)
      | exact OutS.fault | apply OutS.ite (P := P) | apply ite_stable (P := P) | apply ite_st (P := P)
      | apply ite_sec (P := P) | apply ite_snd (P := P) | apply ite_snd2 (P := P) | apply ite_fst (P := P)
      | apply id_stable (P := P) | dsimp only

theorem execRestoreDone_stable (hP : StableIn P free) {x0 x1} (h1 : P x1) : OutS P (execRestoreDone x0 x1) := by
  unfold execRestoreDone
  try dsimp only
  with_reducible repeat' first
      | assumption | intro _ | apply engEnter_stable hP | apply State.advanceTo_stable hP
      | apply State.elapse_stable hP | apply OutS.next (P := P) | exact OutS.fault | apply OutS.ite (P := P)
      | apply ite_stable (P := P) | apply ite_st (P := P) | apply ite_sec (P := P) | apply ite_snd (P := P)
      | apply ite_snd2 (P := P) | apply ite_fst (P := P) | apply id_stable (P := P) | dsimp only

theorem execEngineLoad_stable (hP : StableIn P free) {x0 x1 x2} (h2 : P x2) : OutS P (execEngineLoad x0 x1 x2) := by
  unfold execEngineLoad
  try dsimp only
  with_reducible repeat' first
      | assumption | intro _ | apply afterTokens_stable hP | apply engCommand_stable hP | apply onIsland_stable hP
      | apply OutS.next (P := P) | exact OutS.fault | apply OutS.ite (P := P) | apply ite_stable (P := P)
      | apply ite_st (P := P) | apply ite_sec (P := P) | apply ite_snd (P := P) | apply ite_snd2 (P := P)
      | apply ite_fst (P := P) | apply id_stable (P := P) | dsimp only

theorem execUnload_stable (hP : StableIn P free) {x0 x1 x2} (h2 : P x2) : OutS P (execUnload x0 x1 x2) := by
  unfold execUnload
  try dsimp only
  with_reducible repeat' first
      | assumption | intro _ | apply afterTokens_stable hP | apply engCommand_stable hP | apply onIsland_stable hP
      | apply OutS.next (P := P) | exact OutS.fault | apply OutS.ite (P := P) | apply ite_stable (P := P)
      | apply ite_st (P := P) | apply ite_sec (P := P) | apply ite_snd (P := P) | apply ite_snd2 (P := P)
      | apply ite_fst (P := P) | apply id_stable (P := P) | dsimp only

theorem execEngineArm_stable (hP : StableIn P free) {x0 x1 x2} (h2 : P x2) : OutS P (execEngineArm x0 x1 x2) := by
  unfold execEngineArm
  try dsimp only
  with_reducible repeat' first
      | assumption | intro _ | apply afterTokens_stable hP | apply engCommand_stable hP | apply onIsland_stable hP
      | apply OutS.next (P := P) | exact OutS.fault | apply OutS.ite (P := P) | apply ite_stable (P := P)
      | apply ite_st (P := P) | apply ite_sec (P := P) | apply ite_snd (P := P) | apply ite_snd2 (P := P)
      | apply ite_fst (P := P) | apply id_stable (P := P) | dsimp only

theorem execDisarm_stable (hP : StableIn P free) {x0 x1 x2} (h2 : P x2) : OutS P (execDisarm x0 x1 x2) := by
  unfold execDisarm
  try dsimp only
  with_reducible repeat' first
      | assumption | intro _ | apply afterTokens_stable hP | apply engCommand_stable hP | apply onIsland_stable hP
      | apply OutS.next (P := P) | exact OutS.fault | apply OutS.ite (P := P) | apply ite_stable (P := P)
      | apply ite_st (P := P) | apply ite_sec (P := P) | apply ite_snd (P := P) | apply ite_snd2 (P := P)
      | apply ite_fst (P := P) | apply id_stable (P := P) | dsimp only

theorem execFire_stable (hP : StableIn P free) {x0 x1 x2} (h2 : P x2) : OutS P (execFire x0 x1 x2) := by
  unfold execFire
  try dsimp only
  with_reducible repeat' first
      | assumption | intro _ | apply afterTokens_stable hP | apply engCommand_stable hP | apply onIsland_stable hP
      | apply OutS.next (P := P) | exact OutS.fault | apply OutS.ite (P := P) | apply ite_stable (P := P)
      | apply ite_st (P := P) | apply ite_sec (P := P) | apply ite_snd (P := P) | apply ite_snd2 (P := P)
      | apply ite_fst (P := P) | apply id_stable (P := P) | dsimp only

theorem execEngineSpare_stable (hP : StableIn P free) {x0 x1 x2} (h2 : P x2) : OutS P (execEngineSpare x0 x1 x2) := by
  unfold execEngineSpare
  try dsimp only
  with_reducible repeat' first
      | assumption | intro _ | apply afterTokens_stable hP | apply engCommand_stable hP | apply onIsland_stable hP
      | apply OutS.next (P := P) | exact OutS.fault | apply OutS.ite (P := P) | apply ite_stable (P := P)
      | apply ite_st (P := P) | apply ite_sec (P := P) | apply ite_snd (P := P) | apply ite_snd2 (P := P)
      | apply ite_fst (P := P) | apply id_stable (P := P) | dsimp only

theorem execUnspare_stable (hP : StableIn P free) {x0 x1 x2} (h2 : P x2) : OutS P (execUnspare x0 x1 x2) := by
  unfold execUnspare
  try dsimp only
  with_reducible repeat' first
      | assumption | intro _ | apply afterTokens_stable hP | apply engCommand_stable hP | apply onIsland_stable hP
      | apply OutS.next (P := P) | exact OutS.fault | apply OutS.ite (P := P) | apply ite_stable (P := P)
      | apply ite_st (P := P) | apply ite_sec (P := P) | apply ite_snd (P := P) | apply ite_snd2 (P := P)
      | apply ite_fst (P := P) | apply id_stable (P := P) | dsimp only

theorem execEngineRetest_stable (hP : StableIn P free) {x0 x1 x2} (h2 : P x2) : OutS P (execEngineRetest x0 x1 x2) := by
  unfold execEngineRetest
  try dsimp only
  with_reducible repeat' first
      | assumption | intro _ | apply afterTokens_stable hP | apply engCommand_stable hP | apply onIsland_stable hP
      | apply OutS.next (P := P) | exact OutS.fault | apply OutS.ite (P := P) | apply ite_stable (P := P)
      | apply ite_st (P := P) | apply ite_sec (P := P) | apply ite_snd (P := P) | apply ite_snd2 (P := P)
      | apply ite_fst (P := P) | apply id_stable (P := P) | dsimp only

theorem execEngineCommandDone_stable (hP : StableIn P free) {x0 x1} (h1 : P x1) : OutS P (execEngineCommandDone x0 x1) := by
  unfold execEngineCommandDone
  try dsimp only
  with_reducible repeat' first
      | assumption | intro _ | apply hP.put | apply engResult_stable hP | apply State.putEng_stable hP
      | apply OutS.next (P := P) | apply ite_stable (P := P) | apply OutS.ite (P := P) | split
      | refine snd_stable (by assumption) ?_ | refine fst_stable (by assumption) ?_
      | refine some_stable (by assumption) ?_ | refine some_stable2 (by assumption) ?_
      | refine snd2_stable (by assumption) ?_ | dsimp only

theorem execEngineLbistDone_stable (hP : StableIn P free) {x0 x1 x2} (h2 : P x2) : OutS P (execEngineLbistDone x0 x1 x2) := by
  unfold execEngineLbistDone
  try dsimp only
  with_reducible repeat' first
      | assumption | intro _ | apply hP.put | apply State.putEng_stable hP | apply State.advanceTo_stable hP
      | apply engEnter_stable hP | apply State.report_stable hP | apply engResult_stable hP | apply OutS.next (P := P)
      | apply ite_stable (P := P) | apply OutS.ite (P := P) | dsimp only

theorem execReelEnable_stable (hP : StableIn P free) {x0 x1 x2 x3} (h3 : P x3) : OutS P (execReelEnable x0 x1 x2 x3) := by
  unfold execReelEnable
  try dsimp only
  with_reducible repeat' first
      | assumption | intro _ | apply afterTokens_stable hP | apply onIsland_stable hP | apply reelCtrlWrite_stable hP
      | apply OutS.next (P := P) | exact OutS.fault | apply OutS.ite (P := P) | apply ite_stable (P := P)
      | apply ite_st (P := P) | apply ite_sec (P := P) | apply ite_snd (P := P) | apply ite_snd2 (P := P)
      | apply ite_fst (P := P) | apply id_stable (P := P) | dsimp only

theorem execReelDisable_stable (hP : StableIn P free) {x0 x1 x2 x3} (h3 : P x3) : OutS P (execReelDisable x0 x1 x2 x3) := by
  unfold execReelDisable
  try dsimp only
  with_reducible repeat' first
      | assumption | intro _ | apply afterTokens_stable hP | apply onIsland_stable hP | apply reelCtrlWrite_stable hP
      | apply OutS.next (P := P) | exact OutS.fault | apply OutS.ite (P := P) | apply ite_stable (P := P)
      | apply ite_st (P := P) | apply ite_sec (P := P) | apply ite_snd (P := P) | apply ite_snd2 (P := P)
      | apply ite_fst (P := P) | apply id_stable (P := P) | dsimp only

theorem execReelMemWrite_stable (hP : StableIn P free) {x0 x1 x2 x3} (h3 : P x3) : OutS P (execReelMemWrite x0 x1 x2 x3) := by
  unfold execReelMemWrite
  try dsimp only
  with_reducible repeat' first
      | assumption | intro _ | apply afterTokens_stable hP | apply State.answer_stable hP | apply onIsland_stable hP
      | apply reelMemWrite_stable hP | apply OutS.next (P := P) | exact OutS.fault | apply OutS.ite (P := P)
      | apply ite_stable (P := P) | apply ite_st (P := P) | apply ite_sec (P := P) | apply ite_snd (P := P)
      | apply ite_snd2 (P := P) | apply ite_fst (P := P) | apply id_stable (P := P) | dsimp only

theorem reelWindow_stable (hP : StableIn P free) {x0 x1} (h1 : P x1) : P (reelWindow x0 x1) := by
  unfold reelWindow
  try dsimp only
  with_reducible repeat' first
      | assumption | intro _ | apply hP.put | apply State.putReel_stable hP | apply reelMeetAll_stable hP
      | apply ite_stable (P := P) | apply ite_st (P := P) | apply ite_sec (P := P) | apply ite_snd (P := P)
      | apply ite_snd2 (P := P) | apply ite_fst (P := P) | apply OptS.some (P := P) | exact OptS.none
      | apply OptS2.some (P := P) | exact OptS2.none | apply OptS.bind (P := P) | apply OptS.bind2 (P := P)
      | apply OptS.map (P := P) | apply OptS.map0 (P := P) | apply OptS2.map (P := P) | apply OptS.getD (P := P)
      | apply OptS.ite (P := P) | apply OptS2.ite (P := P) | apply id_stable (P := P) | apply foldl_stable (P := P)
      | apply foldl_stable2 (P := P) | apply foldl_stable1 (P := P) | split | refine snd2_stable (by assumption) ?_
      | refine snd_stable (by assumption) ?_ | refine fst_stable (by assumption) ?_
      | refine some_stable (by assumption) ?_ | refine some_stable2 (by assumption) ?_ | dsimp only

theorem execReelWindow_stable (hP : StableIn P free) {x0 x1} (h1 : P x1) : OutS P (execReelWindow x0 x1) := by
  unfold execReelWindow
  try dsimp only
  with_reducible repeat' first
      | assumption | intro _ | apply reelWindow_stable hP | apply OutS.next (P := P) | exact OutS.fault
      | apply OutS.ite (P := P) | apply ite_stable (P := P) | apply ite_st (P := P) | apply ite_sec (P := P)
      | apply ite_snd (P := P) | apply ite_snd2 (P := P) | apply ite_fst (P := P) | apply id_stable (P := P)
      | dsimp only

theorem reelUpdate_stable (hP : StableIn P free) {x0 x1 x2 x3} (h3 : P x3) : P (reelUpdate x0 x1 x2 x3) := by
  unfold reelUpdate
  try dsimp only
  with_reducible repeat' first
      | assumption | intro _ | apply hP.put | apply State.incSat_stable hP | apply reelMeetAll_stable hP
      | apply State.inc_stable hP | apply State.store_stable hP | apply State.putIf_stable hP
      | apply ite_stable (P := P) | dsimp only

theorem nearWindows_stable (hP : StableIn P free) {x0 x1} (h1 : P x1) : P (nearWindows x0 x1) := by
  unfold nearWindows
  try dsimp only
  with_reducible repeat' first
      | assumption | intro _ | apply hP.put | apply State.putReel_stable hP | apply ite_stable (P := P)
      | apply ite_st (P := P) | apply ite_sec (P := P) | apply ite_snd (P := P) | apply ite_snd2 (P := P)
      | apply ite_fst (P := P) | apply OptS.some (P := P) | exact OptS.none | apply OptS2.some (P := P)
      | exact OptS2.none | apply OptS.bind (P := P) | apply OptS.bind2 (P := P) | apply OptS.map (P := P)
      | apply OptS.map0 (P := P) | apply OptS2.map (P := P) | apply OptS.getD (P := P) | apply OptS.ite (P := P)
      | apply OptS2.ite (P := P) | apply id_stable (P := P) | apply foldl_stable (P := P)
      | apply foldl_stable2 (P := P) | apply foldl_stable1 (P := P) | split | refine snd2_stable (by assumption) ?_
      | refine snd_stable (by assumption) ?_ | refine fst_stable (by assumption) ?_
      | refine some_stable (by assumption) ?_ | refine some_stable2 (by assumption) ?_ | dsimp only

theorem execReelUpdate_stable (hP : StableIn P free) {x0} (h0 : P x0) : OutS P (execReelUpdate x0) := by
  unfold execReelUpdate
  try dsimp only
  with_reducible repeat' first
      | assumption | intro _ | apply State.setReelQ_stable hP | apply reelUpdate_stable hP
      | apply nearWindows_stable hP | apply OutS.next (P := P) | exact OutS.fault | apply OutS.ite (P := P)
      | apply ite_stable (P := P) | apply ite_st (P := P) | apply ite_sec (P := P) | apply ite_snd (P := P)
      | apply ite_snd2 (P := P) | apply ite_fst (P := P) | apply OptS.some (P := P) | exact OptS.none
      | apply OptS2.some (P := P) | exact OptS2.none | apply OptS.bind (P := P) | apply OptS.bind2 (P := P)
      | apply OptS.map (P := P) | apply OptS.map0 (P := P) | apply OptS2.map (P := P) | apply OptS.getD (P := P)
      | apply OptS.ite (P := P) | apply OptS2.ite (P := P) | apply id_stable (P := P) | apply foldl_stable (P := P)
      | apply foldl_stable2 (P := P) | apply foldl_stable1 (P := P) | split | refine snd2_stable (by assumption) ?_
      | refine snd_stable (by assumption) ?_ | refine fst_stable (by assumption) ?_
      | refine some_stable (by assumption) ?_ | refine some_stable2 (by assumption) ?_ | dsimp only

theorem execReelScrub_stable (hP : StableIn P free) {x0 x1 x2} (h2 : P x2) : OutS P (execReelScrub x0 x1 x2) := by
  unfold execReelScrub
  try dsimp only
  with_reducible repeat' first
      | assumption | intro _ | apply State.strike_stable hP | apply reelMeet_stable hP | apply OutS.next (P := P)
      | dsimp only

theorem execSaveDdr_stable (hP : StableIn P free) {x0 x1 x2} (h2 : P x2) : OutS P (execSaveDdr x0 x1 x2) := by
  unfold execSaveDdr
  try dsimp only
  with_reducible repeat' first
      | assumption | intro _ | apply afterTokens_stable hP | apply onIsland_stable hP | apply reelXctl_stable hP
      | apply OutS.next (P := P) | exact OutS.fault | apply OutS.ite (P := P) | apply ite_stable (P := P)
      | apply ite_st (P := P) | apply ite_sec (P := P) | apply ite_snd (P := P) | apply ite_snd2 (P := P)
      | apply ite_fst (P := P) | apply id_stable (P := P) | dsimp only

theorem execLoadDdr_stable (hP : StableIn P free) {x0 x1 x2} (h2 : P x2) : OutS P (execLoadDdr x0 x1 x2) := by
  unfold execLoadDdr
  try dsimp only
  with_reducible repeat' first
      | assumption | intro _ | apply afterTokens_stable hP | apply onIsland_stable hP | apply reelXctl_stable hP
      | apply OutS.next (P := P) | exact OutS.fault | apply OutS.ite (P := P) | apply ite_stable (P := P)
      | apply ite_st (P := P) | apply ite_sec (P := P) | apply ite_snd (P := P) | apply ite_snd2 (P := P)
      | apply ite_fst (P := P) | apply id_stable (P := P) | dsimp only

theorem execSaveRec_stable (hP : StableIn P free) {x0 x1 x2} (h2 : P x2) : OutS P (execSaveRec x0 x1 x2) := by
  unfold execSaveRec
  try dsimp only
  with_reducible repeat' first
      | assumption | intro _ | apply afterTokens_stable hP | apply onIsland_stable hP | apply reelXctl_stable hP
      | apply OutS.next (P := P) | exact OutS.fault | apply OutS.ite (P := P) | apply ite_stable (P := P)
      | apply ite_st (P := P) | apply ite_sec (P := P) | apply ite_snd (P := P) | apply ite_snd2 (P := P)
      | apply ite_fst (P := P) | apply id_stable (P := P) | dsimp only

theorem execLoadRec_stable (hP : StableIn P free) {x0 x1 x2} (h2 : P x2) : OutS P (execLoadRec x0 x1 x2) := by
  unfold execLoadRec
  try dsimp only
  with_reducible repeat' first
      | assumption | intro _ | apply afterTokens_stable hP | apply onIsland_stable hP | apply reelXctl_stable hP
      | apply OutS.next (P := P) | exact OutS.fault | apply OutS.ite (P := P) | apply ite_stable (P := P)
      | apply ite_st (P := P) | apply ite_sec (P := P) | apply ite_snd (P := P) | apply ite_snd2 (P := P)
      | apply ite_fst (P := P) | apply id_stable (P := P) | dsimp only

theorem execZero_stable (hP : StableIn P free) {x0 x1 x2} (h2 : P x2) : OutS P (execZero x0 x1 x2) := by
  unfold execZero
  try dsimp only
  with_reducible repeat' first
      | assumption | intro _ | apply afterTokens_stable hP | apply onIsland_stable hP | apply reelXctl_stable hP
      | apply OutS.next (P := P) | exact OutS.fault | apply OutS.ite (P := P) | apply ite_stable (P := P)
      | apply ite_st (P := P) | apply ite_sec (P := P) | apply ite_snd (P := P) | apply ite_snd2 (P := P)
      | apply ite_fst (P := P) | apply id_stable (P := P) | dsimp only

theorem saveHead_stable (hP : StableIn P free) {x0 x1} (h1 : P x1) : P (saveHead x0 x1).2 := by
  unfold saveHead
  try dsimp only
  with_reducible repeat' first
      | assumption | intro _ | apply ddrWrites_stable hP | apply ite_stable (P := P) | apply ite_st (P := P)
      | apply ite_sec (P := P) | apply ite_snd (P := P) | apply ite_snd2 (P := P) | apply ite_fst (P := P)
      | apply OptS.some (P := P) | exact OptS.none | apply OptS2.some (P := P) | exact OptS2.none
      | apply OptS.bind (P := P) | apply OptS.bind2 (P := P) | apply OptS.map (P := P) | apply OptS.map0 (P := P)
      | apply OptS2.map (P := P) | apply OptS.getD (P := P) | apply OptS.ite (P := P) | apply OptS2.ite (P := P)
      | apply id_stable (P := P) | apply foldl_stable (P := P) | apply foldl_stable2 (P := P)
      | apply foldl_stable1 (P := P) | split | refine snd2_stable (by assumption) ?_
      | refine snd_stable (by assumption) ?_ | refine fst_stable (by assumption) ?_
      | refine some_stable (by assumption) ?_ | refine some_stable2 (by assumption) ?_ | dsimp only

theorem xferFail_stable (hP : StableIn P free) {x0 x1 x2} (h2 : P x2.2) : P (xferFail x0 x1 x2).2 := by
  unfold xferFail
  try dsimp only
  with_reducible repeat' first
      | assumption | intro _ | apply reelFill_stable hP | apply ite_stable (P := P) | apply ite_st (P := P)
      | apply ite_sec (P := P) | apply ite_snd (P := P) | apply ite_snd2 (P := P) | apply ite_fst (P := P)
      | apply id_stable (P := P) | dsimp only

theorem xferRest_stable (hP : StableIn P free) {x0 x1 x2} (h2 : P x2) : P (xferRest x0 x1 x2).2 := by
  unfold xferRest
  try dsimp only
  with_reducible repeat' first
      | assumption | intro _ | apply State.setXfer_stable hP | apply writeRecs_stable hP | apply takeRecs_stable hP
      | apply saveHead_stable hP | apply xferFail_stable hP | apply ite_stable (P := P) | apply ite_st (P := P)
      | apply ite_sec (P := P) | apply ite_snd (P := P) | apply ite_snd2 (P := P) | apply ite_fst (P := P)
      | apply OptS.some (P := P) | exact OptS.none | apply OptS2.some (P := P) | exact OptS2.none
      | apply OptS.bind (P := P) | apply OptS.bind2 (P := P) | apply OptS.map (P := P) | apply OptS.map0 (P := P)
      | apply OptS2.map (P := P) | apply OptS.getD (P := P) | apply OptS.ite (P := P) | apply OptS2.ite (P := P)
      | apply id_stable (P := P) | apply foldl_stable (P := P) | apply foldl_stable2 (P := P)
      | apply foldl_stable1 (P := P) | split | refine snd2_stable (by assumption) ?_
      | refine snd_stable (by assumption) ?_ | refine fst_stable (by assumption) ?_
      | refine some_stable (by assumption) ?_ | refine some_stable2 (by assumption) ?_ | dsimp only

theorem execReelXferDone_stable (hP : StableIn P free) {x0 x1} (h0 : P x0) : OutS P (execReelXferDone x0 x1) := by
  unfold execReelXferDone
  try dsimp only
  with_reducible repeat' first
      | assumption | intro _ | apply hP.put | apply State.setXfer_stable hP | apply xferRes_stable hP
      | apply xferRest_stable hP | apply OutS.next (P := P) | exact OutS.fault | apply OutS.ite (P := P)
      | apply ite_stable (P := P) | apply ite_st (P := P) | apply ite_sec (P := P) | apply ite_snd (P := P)
      | apply ite_snd2 (P := P) | apply ite_fst (P := P) | apply OptS.some (P := P) | exact OptS.none
      | apply OptS2.some (P := P) | exact OptS2.none | apply OptS.bind (P := P) | apply OptS.bind2 (P := P)
      | apply OptS.map (P := P) | apply OptS.map0 (P := P) | apply OptS2.map (P := P) | apply OptS.getD (P := P)
      | apply OptS.ite (P := P) | apply OptS2.ite (P := P) | apply id_stable (P := P) | apply foldl_stable (P := P)
      | apply foldl_stable2 (P := P) | apply foldl_stable1 (P := P) | split | refine snd2_stable (by assumption) ?_
      | refine snd_stable (by assumption) ?_ | refine fst_stable (by assumption) ?_
      | refine some_stable (by assumption) ?_ | refine some_stable2 (by assumption) ?_ | dsimp only

theorem execPortEnable_stable (hP : StableIn P free) {x0 x1 x2 x3} (h3 : P x3) : OutS P (execPortEnable x0 x1 x2 x3) := by
  unfold execPortEnable
  try dsimp only
  with_reducible repeat' first
      | assumption | intro _ | apply afterTokens_stable hP | apply onIsland_stable hP | apply portCtrlWrite_stable hP
      | apply OutS.next (P := P) | exact OutS.fault | apply OutS.ite (P := P) | apply ite_stable (P := P)
      | apply ite_st (P := P) | apply ite_sec (P := P) | apply ite_snd (P := P) | apply ite_snd2 (P := P)
      | apply ite_fst (P := P) | apply id_stable (P := P) | dsimp only

theorem execPortDisable_stable (hP : StableIn P free) {x0 x1 x2 x3} (h3 : P x3) : OutS P (execPortDisable x0 x1 x2 x3) := by
  unfold execPortDisable
  try dsimp only
  with_reducible repeat' first
      | assumption | intro _ | apply afterTokens_stable hP | apply onIsland_stable hP | apply portCtrlWrite_stable hP
      | apply OutS.next (P := P) | exact OutS.fault | apply OutS.ite (P := P) | apply ite_stable (P := P)
      | apply ite_st (P := P) | apply ite_sec (P := P) | apply ite_snd (P := P) | apply ite_snd2 (P := P)
      | apply ite_fst (P := P) | apply id_stable (P := P) | dsimp only

theorem applyTiming_stable (hP : StableIn P free) {x0 x1 x2} (h2 : P x2) : P (applyTiming x0 x1 x2) := by
  unfold applyTiming
  try dsimp only
  with_reducible repeat' first
      | assumption | intro _ | apply hP.put | apply State.putPort_stable hP | apply foldl_stable (P := P) | dsimp only

theorem loadPoint_stable (hP : StableIn P free) {x0 x1 x2} (h2 : P x2) : P (loadPoint x0 x1 x2) := by
  unfold loadPoint
  try dsimp only
  with_reducible repeat' first
      | assumption | intro _ | apply hP.put | apply State.putPort_stable hP | apply comeOne_stable hP
      | apply loadOne_stable hP | apply tick_stable hP | apply ite_stable (P := P) | apply ite_st (P := P)
      | apply ite_sec (P := P) | apply ite_snd (P := P) | apply ite_snd2 (P := P) | apply ite_fst (P := P)
      | apply OptS.some (P := P) | exact OptS.none | apply OptS2.some (P := P) | exact OptS2.none
      | apply OptS.bind (P := P) | apply OptS.bind2 (P := P) | apply OptS.map (P := P) | apply OptS.map0 (P := P)
      | apply OptS2.map (P := P) | apply OptS.getD (P := P) | apply OptS.ite (P := P) | apply OptS2.ite (P := P)
      | apply id_stable (P := P) | apply foldl_stable (P := P) | apply foldl_stable2 (P := P)
      | apply foldl_stable1 (P := P) | split | refine snd2_stable (by assumption) ?_
      | refine snd_stable (by assumption) ?_ | refine fst_stable (by assumption) ?_
      | refine some_stable (by assumption) ?_ | refine some_stable2 (by assumption) ?_ | dsimp only

theorem endCycleHold_stable (hP : StableIn P free) {x0 x1} (h1 : P x1) : P (endCycleHold x0 x1) := by
  unfold endCycleHold
  try dsimp only
  with_reducible repeat' first
      | assumption | intro _ | apply hP.put | apply ite_stable (P := P) | dsimp only

theorem takeBall_stable (hP : StableIn P free) {x0 x1 x2} (h2 : P x2) : P (takeBall x0 x1 x2) := by
  unfold takeBall
  try dsimp only
  with_reducible repeat' first
      | assumption | intro _ | apply hP.put | apply State.putPort_stable hP | apply State.putIf_stable hP
      | apply ite_stable (P := P) | apply ite_st (P := P) | apply ite_sec (P := P) | apply ite_snd (P := P)
      | apply ite_snd2 (P := P) | apply ite_fst (P := P) | apply id_stable (P := P) | dsimp only

theorem placeBall_stable (hP : StableIn P free) {x0 x1 x2 x3 x4} (h4 : P x4) : P (placeBall x0 x1 x2 x3 x4) := by
  unfold placeBall
  try dsimp only
  with_reducible repeat' first
      | assumption | intro _ | apply hP.put | apply State.putPort_stable hP | apply takeBall_stable hP
      | apply ite_stable (P := P) | apply ite_st (P := P) | apply ite_sec (P := P) | apply ite_snd (P := P)
      | apply ite_snd2 (P := P) | apply ite_fst (P := P) | apply OptS.some (P := P) | exact OptS.none
      | apply OptS2.some (P := P) | exact OptS2.none | apply OptS.bind (P := P) | apply OptS.bind2 (P := P)
      | apply OptS.map (P := P) | apply OptS.map0 (P := P) | apply OptS2.map (P := P) | apply OptS.getD (P := P)
      | apply OptS.ite (P := P) | apply OptS2.ite (P := P) | apply id_stable (P := P) | apply foldl_stable (P := P)
      | apply foldl_stable2 (P := P) | apply foldl_stable1 (P := P) | split | refine snd2_stable (by assumption) ?_
      | refine snd_stable (by assumption) ?_ | refine fst_stable (by assumption) ?_
      | refine some_stable (by assumption) ?_ | refine some_stable2 (by assumption) ?_ | dsimp only

theorem pairTurn_stable (hP : StableIn P free) {x0 x1 x2 x3 x4} (h4 : P x4) : P (pairTurn x0 x1 x2 x3 x4) := by
  unfold pairTurn
  try dsimp only
  with_reducible repeat' first
      | assumption | intro _ | apply hP.put | apply State.putPort_stable hP | apply placeBall_stable hP
      | apply ite_stable (P := P) | apply ite_st (P := P) | apply ite_sec (P := P) | apply ite_snd (P := P)
      | apply ite_snd2 (P := P) | apply ite_fst (P := P) | apply id_stable (P := P) | dsimp only

theorem setLevel_stable (hP : StableIn P free) {x0 x1 x2 x3 x4} (h4 : P x4) : P (setLevel x0 x1 x2 x3 x4) := by
  unfold setLevel
  try dsimp only
  with_reducible repeat' first
      | assumption | intro _ | apply hP.put | apply State.putPort_stable hP | apply placeBall_stable hP
      | apply pairTurn_stable hP | apply ite_stable (P := P) | apply ite_st (P := P) | apply ite_sec (P := P)
      | apply ite_snd (P := P) | apply ite_snd2 (P := P) | apply ite_fst (P := P) | apply id_stable (P := P)
      | dsimp only

theorem putBallSt_stable (hP : StableIn P free) {x0 x1 x2} (h2 : P x2) : P (putBallSt x0 x1 x2) := by
  unfold putBallSt
  try dsimp only
  with_reducible repeat' first
      | assumption | intro _ | apply hP.put | apply State.putPort_stable hP | apply State.putB_stable hP
      | apply ite_stable (P := P) | apply ite_st (P := P) | apply ite_sec (P := P) | apply ite_snd (P := P)
      | apply ite_snd2 (P := P) | apply ite_fst (P := P) | apply id_stable (P := P) | dsimp only

theorem resumeBall_stable (hP : StableIn P free) {x0 x1 x2 x3} (h3 : P x3) : P (resumeBall x0 x1 x2 x3) := by
  unfold resumeBall
  try dsimp only
  with_reducible repeat' first
      | assumption | intro _ | apply hP.put | apply State.putPort_stable hP | apply placeBall_stable hP
      | apply ite_stable (P := P) | apply ite_st (P := P) | apply ite_sec (P := P) | apply ite_snd (P := P)
      | apply ite_snd2 (P := P) | apply ite_fst (P := P) | apply id_stable (P := P) | dsimp only

theorem riseBall_stable (hP : StableIn P free) {x0 x1 x2} (h2 : P x2) : P (riseBall x0 x1 x2) := by
  unfold riseBall
  try dsimp only
  with_reducible repeat' first
      | assumption | intro _ | apply hP.put | apply State.putPort_stable hP | apply placeBall_stable hP
      | apply ite_stable (P := P) | apply ite_st (P := P) | apply ite_sec (P := P) | apply ite_snd (P := P)
      | apply ite_snd2 (P := P) | apply ite_fst (P := P) | apply id_stable (P := P) | dsimp only

theorem endMerge_stable (hP : StableIn P free) {x0 x1 x2} (h2 : P x2) : P (endMerge x0 x1 x2) := by
  unfold endMerge
  try dsimp only
  with_reducible repeat' first
      | assumption | intro _ | apply hP.put | apply State.putPort_stable hP | apply placeBall_stable hP
      | apply ite_stable (P := P) | apply ite_st (P := P) | apply ite_sec (P := P) | apply ite_snd (P := P)
      | apply ite_snd2 (P := P) | apply ite_fst (P := P) | apply OptS.some (P := P) | exact OptS.none
      | apply OptS2.some (P := P) | exact OptS2.none | apply OptS.bind (P := P) | apply OptS.bind2 (P := P)
      | apply OptS.map (P := P) | apply OptS.map0 (P := P) | apply OptS2.map (P := P) | apply OptS.getD (P := P)
      | apply OptS.ite (P := P) | apply OptS2.ite (P := P) | apply id_stable (P := P) | apply foldl_stable (P := P)
      | apply foldl_stable2 (P := P) | apply foldl_stable1 (P := P) | split | refine snd2_stable (by assumption) ?_
      | refine snd_stable (by assumption) ?_ | refine fst_stable (by assumption) ?_
      | refine some_stable (by assumption) ?_ | refine some_stable2 (by assumption) ?_ | dsimp only

theorem replay_stable (hP : StableIn P free) {x0 x1 x2} (h2 : P x2) : P (replay x0 x1 x2) := by
  unfold replay
  try dsimp only
  with_reducible repeat' first
      | assumption | intro _ | apply hP.put | apply State.putPort_stable hP | apply setLevel_stable hP
      | apply putBallSt_stable hP | apply resumeBall_stable hP | apply riseBall_stable hP | apply endMerge_stable hP
      | apply ite_stable (P := P) | apply ite_st (P := P) | apply ite_sec (P := P) | apply ite_snd (P := P)
      | apply ite_snd2 (P := P) | apply ite_fst (P := P) | apply OptS.some (P := P) | exact OptS.none
      | apply OptS2.some (P := P) | exact OptS2.none | apply OptS.bind (P := P) | apply OptS.bind2 (P := P)
      | apply OptS.map (P := P) | apply OptS.map0 (P := P) | apply OptS2.map (P := P) | apply OptS.getD (P := P)
      | apply OptS.ite (P := P) | apply OptS2.ite (P := P) | apply id_stable (P := P) | apply foldl_stable (P := P)
      | apply foldl_stable2 (P := P) | apply foldl_stable1 (P := P) | split | refine snd2_stable (by assumption) ?_
      | refine snd_stable (by assumption) ?_ | refine fst_stable (by assumption) ?_
      | refine some_stable (by assumption) ?_ | refine some_stable2 (by assumption) ?_ | dsimp only

theorem atSubtick_stable (hP : StableIn P free) {x0 x1 x2 x3} (h3 : P x3) : P (atSubtick x0 x1 x2 x3) := by
  unfold atSubtick
  try dsimp only
  with_reducible repeat' first
      | assumption | intro _ | apply hP.put | apply State.putPort_stable hP | apply replay_stable hP
      | apply ite_stable (P := P) | apply ite_st (P := P) | apply ite_sec (P := P) | apply ite_snd (P := P)
      | apply ite_snd2 (P := P) | apply ite_fst (P := P) | apply OptS.some (P := P) | exact OptS.none
      | apply OptS2.some (P := P) | exact OptS2.none | apply OptS.bind (P := P) | apply OptS.bind2 (P := P)
      | apply OptS.map (P := P) | apply OptS.map0 (P := P) | apply OptS2.map (P := P) | apply OptS.getD (P := P)
      | apply OptS.ite (P := P) | apply OptS2.ite (P := P) | apply id_stable (P := P) | apply foldl_stable (P := P)
      | apply foldl_stable2 (P := P) | apply foldl_stable1 (P := P) | split | refine snd2_stable (by assumption) ?_
      | refine snd_stable (by assumption) ?_ | refine fst_stable (by assumption) ?_
      | refine some_stable (by assumption) ?_ | refine some_stable2 (by assumption) ?_ | dsimp only

theorem applyAct_stable (hP : StableIn P free) {x0 x1 x2 x3 x4 x5} (h5 : P x5) : P (applyAct x0 x1 x2 x3 x4 x5) := by
  unfold applyAct
  try dsimp only
  with_reducible repeat' first
      | assumption | intro _ | apply atSubtick_stable hP | apply ite_stable (P := P) | apply ite_st (P := P)
      | apply ite_sec (P := P) | apply ite_snd (P := P) | apply ite_snd2 (P := P) | apply ite_fst (P := P)
      | apply id_stable (P := P) | dsimp only

theorem resumePort_stable (hP : StableIn P free) {x0 x1 x2 x3} (h3 : P x3) : P (resumePort x0 x1 x2 x3) := by
  unfold resumePort
  try dsimp only
  with_reducible repeat' first
      | assumption | intro _ | apply atSubtick_stable hP | apply ite_stable (P := P) | apply ite_st (P := P)
      | apply ite_sec (P := P) | apply ite_snd (P := P) | apply ite_snd2 (P := P) | apply ite_fst (P := P)
      | apply id_stable (P := P) | dsimp only

theorem periodStart_stable (hP : StableIn P free) {x0 x1} (h1 : P x1) : P (periodStart x0 x1) := by
  unfold periodStart
  try dsimp only
  with_reducible repeat' first
      | assumption | intro _ | apply hP.put | apply State.putPort_stable hP | apply State.inc_stable hP
      | apply State.advanceTo_stable hP | apply applyAct_stable hP | apply resumePort_stable hP
      | apply loadPoint_stable hP | apply applyTiming_stable hP | apply endCycleHold_stable hP
      | apply ite_stable (P := P) | apply ite_st (P := P) | apply ite_sec (P := P) | apply ite_snd (P := P)
      | apply ite_snd2 (P := P) | apply ite_fst (P := P) | apply OptS.some (P := P) | exact OptS.none
      | apply OptS2.some (P := P) | exact OptS2.none | apply OptS.bind (P := P) | apply OptS.bind2 (P := P)
      | apply OptS.map (P := P) | apply OptS.map0 (P := P) | apply OptS2.map (P := P) | apply OptS.getD (P := P)
      | apply OptS.ite (P := P) | apply OptS2.ite (P := P) | apply id_stable (P := P) | apply foldl_stable (P := P)
      | apply foldl_stable2 (P := P) | apply foldl_stable1 (P := P) | split | refine snd2_stable (by assumption) ?_
      | refine snd_stable (by assumption) ?_ | refine fst_stable (by assumption) ?_
      | refine some_stable (by assumption) ?_ | refine some_stable2 (by assumption) ?_ | dsimp only

theorem execPeriodStart_stable (hP : StableIn P free) {x0 x1} (h1 : P x1) : OutS P (execPeriodStart x0 x1) := by
  unfold execPeriodStart
  try dsimp only
  with_reducible repeat' first
      | assumption | intro _ | apply periodStart_stable hP | apply OutS.next (P := P) | apply ite_stable (P := P)
      | apply OutS.ite (P := P) | dsimp only

theorem execPeak_stable (hP : StableIn P free) {x0 x1} (h1 : P x1) : OutS P (execPeak x0 x1) := by
  unfold execPeak
  try dsimp only
  with_reducible repeat' first
      | assumption | intro _ | apply hP.put | apply State.putPort_stable hP | apply State.advanceTo_stable hP
      | apply applyAct_stable hP | apply loadPoint_stable hP | apply OutS.next (P := P) | exact OutS.fault
      | apply OutS.ite (P := P) | apply ite_stable (P := P) | apply ite_st (P := P) | apply ite_sec (P := P)
      | apply ite_snd (P := P) | apply ite_snd2 (P := P) | apply ite_fst (P := P) | apply id_stable (P := P)
      | dsimp only

theorem execCompareOccurrence_stable (hP : StableIn P free) {x0 x1 x2} (h2 : P x2) : OutS P (execCompareOccurrence x0 x1 x2) := by
  unfold execCompareOccurrence
  try dsimp only
  with_reducible repeat' first
      | assumption | intro _ | apply hP.put | apply State.putPort_stable hP | apply State.advanceTo_stable hP
      | apply applyAct_stable hP | apply OutS.next (P := P) | exact OutS.fault | apply OutS.ite (P := P)
      | apply ite_stable (P := P) | apply ite_st (P := P) | apply ite_sec (P := P) | apply ite_snd (P := P)
      | apply ite_snd2 (P := P) | apply ite_fst (P := P) | apply OptS.some (P := P) | exact OptS.none
      | apply OptS2.some (P := P) | exact OptS2.none | apply OptS.bind (P := P) | apply OptS.bind2 (P := P)
      | apply OptS.map (P := P) | apply OptS.map0 (P := P) | apply OptS2.map (P := P) | apply OptS.getD (P := P)
      | apply OptS.ite (P := P) | apply OptS2.ite (P := P) | apply id_stable (P := P) | apply foldl_stable (P := P)
      | apply foldl_stable2 (P := P) | apply foldl_stable1 (P := P) | split | refine snd2_stable (by assumption) ?_
      | refine snd_stable (by assumption) ?_ | refine fst_stable (by assumption) ?_
      | refine some_stable (by assumption) ?_ | refine some_stable2 (by assumption) ?_ | dsimp only

theorem execEdgeMerge_stable (hP : StableIn P free) {x0 x1} (h1 : P x1) : OutS P (execEdgeMerge x0 x1) := by
  unfold execEdgeMerge
  try dsimp only
  with_reducible repeat' first
      | assumption | intro _ | apply State.advanceTo_stable hP | apply atSubtick_stable hP | apply OutS.next (P := P)
      | exact OutS.fault | apply OutS.ite (P := P) | apply ite_stable (P := P) | apply ite_st (P := P)
      | apply ite_sec (P := P) | apply ite_snd (P := P) | apply ite_snd2 (P := P) | apply ite_fst (P := P)
      | apply OptS.some (P := P) | exact OptS.none | apply OptS2.some (P := P) | exact OptS2.none
      | apply OptS.bind (P := P) | apply OptS.bind2 (P := P) | apply OptS.map (P := P) | apply OptS.map0 (P := P)
      | apply OptS2.map (P := P) | apply OptS.getD (P := P) | apply OptS.ite (P := P) | apply OptS2.ite (P := P)
      | apply id_stable (P := P) | apply foldl_stable (P := P) | apply foldl_stable2 (P := P)
      | apply foldl_stable1 (P := P) | split | refine snd2_stable (by assumption) ?_
      | refine snd_stable (by assumption) ?_ | refine fst_stable (by assumption) ?_
      | refine some_stable (by assumption) ?_ | refine some_stable2 (by assumption) ?_ | dsimp only

theorem execDeadTimeRise_stable (hP : StableIn P free) {x0 x1} (h1 : P x1) : OutS P (execDeadTimeRise x0 x1) := by
  unfold execDeadTimeRise
  try dsimp only
  with_reducible repeat' first
      | assumption | intro _ | apply State.advanceTo_stable hP | apply atSubtick_stable hP | apply OutS.next (P := P)
      | exact OutS.fault | apply OutS.ite (P := P) | apply ite_stable (P := P) | apply ite_st (P := P)
      | apply ite_sec (P := P) | apply ite_snd (P := P) | apply ite_snd2 (P := P) | apply ite_fst (P := P)
      | apply OptS.some (P := P) | exact OptS.none | apply OptS2.some (P := P) | exact OptS2.none
      | apply OptS.bind (P := P) | apply OptS.bind2 (P := P) | apply OptS.map (P := P) | apply OptS.map0 (P := P)
      | apply OptS2.map (P := P) | apply OptS.getD (P := P) | apply OptS.ite (P := P) | apply OptS2.ite (P := P)
      | apply id_stable (P := P) | apply foldl_stable (P := P) | apply foldl_stable2 (P := P)
      | apply foldl_stable1 (P := P) | split | refine snd2_stable (by assumption) ?_
      | refine snd_stable (by assumption) ?_ | refine fst_stable (by assumption) ?_
      | refine some_stable (by assumption) ?_ | refine some_stable2 (by assumption) ?_ | dsimp only

theorem execPortEvent_stable (hP : StableIn P free) {x0 x1 x2 x3} (h3 : P x3) : OutS P (execPortEvent x0 x1 x2 x3) := by
  unfold execPortEvent
  try dsimp only
  with_reducible repeat' first
      | assumption | intro _ | apply hP.put | apply State.advanceTo_stable hP | apply State.raiseAt_stable hP
      | apply State.putTrig_stable hP | apply OutS.next (P := P) | exact OutS.fault | apply OutS.ite (P := P)
      | apply ite_stable (P := P) | apply ite_st (P := P) | apply ite_sec (P := P) | apply ite_snd (P := P)
      | apply ite_snd2 (P := P) | apply ite_fst (P := P) | apply OptS.some (P := P) | exact OptS.none
      | apply OptS2.some (P := P) | exact OptS2.none | apply OptS.bind (P := P) | apply OptS.bind2 (P := P)
      | apply OptS.map (P := P) | apply OptS.map0 (P := P) | apply OptS2.map (P := P) | apply OptS.getD (P := P)
      | apply OptS.ite (P := P) | apply OptS2.ite (P := P) | apply id_stable (P := P) | apply foldl_stable (P := P)
      | apply foldl_stable2 (P := P) | apply foldl_stable1 (P := P) | split | refine snd2_stable (by assumption) ?_
      | refine snd_stable (by assumption) ?_ | refine fst_stable (by assumption) ?_
      | refine some_stable (by assumption) ?_ | refine some_stable2 (by assumption) ?_ | dsimp only

theorem execSafeWrite_stable (hP : StableIn P free) {x0 x1 x2 x3} (h3 : P x3) : OutS P (execSafeWrite x0 x1 x2 x3) := by
  unfold execSafeWrite
  try dsimp only
  with_reducible repeat' first
      | assumption | intro _ | apply afterTokens_stable hP | apply safeWrite_stable hP | apply OutS.next (P := P)
      | exact OutS.fault | apply OutS.ite (P := P) | apply ite_stable (P := P) | apply ite_st (P := P)
      | apply ite_sec (P := P) | apply ite_snd (P := P) | apply ite_snd2 (P := P) | apply ite_fst (P := P)
      | apply id_stable (P := P) | dsimp only

theorem execVioLow_stable (hP : StableIn P free) {x0 x1 x2} (h2 : P x2) : OutS P (execVioLow x0 x1 x2) := by
  unfold execVioLow
  try dsimp only
  with_reducible repeat' first
      | assumption | intro _ | apply hP.put | apply groupRed_stable hP | apply OutS.next (P := P) | exact OutS.fault
      | apply OutS.ite (P := P) | apply ite_stable (P := P) | apply ite_st (P := P) | apply ite_sec (P := P)
      | apply ite_snd (P := P) | apply ite_snd2 (P := P) | apply ite_fst (P := P) | apply id_stable (P := P)
      | dsimp only

theorem execClrtrip_stable (hP : StableIn P free) {x0 x1 x2} (h2 : P x2) : OutS P (execClrtrip x0 x1 x2) := by
  unfold execClrtrip
  try dsimp only
  with_reducible repeat' first
      | assumption | intro _ | apply afterTokens_stable hP | apply gclrWrite_stable hP | apply OutS.next (P := P)
      | exact OutS.fault | apply OutS.ite (P := P) | apply ite_stable (P := P) | apply ite_st (P := P)
      | apply ite_sec (P := P) | apply ite_snd (P := P) | apply ite_snd2 (P := P) | apply ite_fst (P := P)
      | apply id_stable (P := P) | dsimp only

theorem execClrred_stable (hP : StableIn P free) {x0 x1 x2} (h2 : P x2) : OutS P (execClrred x0 x1 x2) := by
  unfold execClrred
  try dsimp only
  with_reducible repeat' first
      | assumption | intro _ | apply afterTokens_stable hP | apply gclrWrite_stable hP | apply OutS.next (P := P)
      | exact OutS.fault | apply OutS.ite (P := P) | apply ite_stable (P := P) | apply ite_st (P := P)
      | apply ite_sec (P := P) | apply ite_snd (P := P) | apply ite_snd2 (P := P) | apply ite_fst (P := P)
      | apply id_stable (P := P) | dsimp only

theorem execLaneTestDone_stable (hP : StableIn P free) {x0 x1 x2 x3} (h3 : P x3) : OutS P (execLaneTestDone x0 x1 x2 x3) := by
  unfold execLaneTestDone
  try dsimp only
  with_reducible repeat' first
      | assumption | intro _ | apply hP.put | apply State.setLaneTest_stable hP | apply pass_stable hP
      | apply State.putB_stable hP | apply State.advanceTo_stable hP | apply State.report_stable hP
      | apply State.reportAgain_stable hP | apply refreshGroup_stable hP | apply OutS.next (P := P) | exact OutS.fault
      | apply OutS.ite (P := P) | apply ite_stable (P := P) | apply ite_st (P := P) | apply ite_sec (P := P)
      | apply ite_snd (P := P) | apply ite_snd2 (P := P) | apply ite_fst (P := P) | apply id_stable (P := P)
      | dsimp only

theorem execCutinAssert_stable (hP : StableIn P free) {x0} (h0 : P x0) : OutS P (execCutinAssert x0) := by
  unfold execCutinAssert
  try dsimp only
  with_reducible repeat' first
      | assumption | intro _ | apply hP.put | apply cutAssert_stable hP | apply OutS.next (P := P) | dsimp only

theorem execCutinRelease_stable (hP : StableIn P free) {x0} (h0 : P x0) : OutS P (execCutinRelease x0) := by
  unfold execCutinRelease
  try dsimp only
  with_reducible repeat' first
      | assumption | intro _ | apply hP.put | apply OutS.next (P := P) | dsimp only

theorem execCutAssert_stable (hP : StableIn P free) {x0 x1} (h1 : P x1) : OutS P (execCutAssert x0 x1) := by
  unfold execCutAssert
  try dsimp only
  with_reducible repeat' first
      | assumption | intro _ | apply afterTokens_stable hP | apply cutCmdWrite_stable hP | apply OutS.next (P := P)
      | exact OutS.fault | apply OutS.ite (P := P) | apply ite_stable (P := P) | apply ite_st (P := P)
      | apply ite_sec (P := P) | apply ite_snd (P := P) | apply ite_snd2 (P := P) | apply ite_fst (P := P)
      | apply id_stable (P := P) | dsimp only

theorem setDevState_stable (hP : StableIn P free) {x0 x1} (h1 : P x1) : P (setDevState x0 x1) := by
  unfold setDevState
  try dsimp only
  with_reducible repeat' first
      | assumption | intro _ | apply hP.put | apply noticeAll_stable hP | apply State.raise_stable hP
      | apply ite_stable (P := P) | dsimp only

theorem enterCut_stable (hP : StableIn P free) {x0} (h0 : P x0) : P (enterCut x0) := by
  unfold enterCut
  try dsimp only
  with_reducible repeat' first
      | assumption | intro _ | apply hP.put | apply setDevState_stable hP | apply ite_stable (P := P) | split
      | dsimp only

end Sys2Proof.Machine
end

