-- ==== Sys2Proof/Laws/Stable7.lean ====
section
/-! SUPPORT. Each operation keeps every property that the elementary writes keep (part 7 of 9). -/

set_option linter.all false
set_option maxRecDepth 4000
set_option linter.unreachableTactic false

namespace Sys2Proof.Machine

variable {P : State → Prop} {free : Bool}

theorem execCutStateReport_stable (hP : StableIn P free) {x0} (h0 : P x0) : OutS P (execCutStateReport x0) := by
  unfold execCutStateReport
  try dsimp only
  with_reducible repeat' first
      | assumption | intro _ | apply hP.put | apply enterCut_stable hP | apply State.setCut_stable hP
      | apply State.incSat_stable hP | apply OutS.next (P := P) | apply ite_stable (P := P) | apply OutS.ite (P := P)
      | dsimp only

theorem execCutClear_stable (hP : StableIn P free) {x0 x1} (h1 : P x1) : OutS P (execCutClear x0 x1) := by
  unfold execCutClear
  try dsimp only
  with_reducible repeat' first
      | assumption | intro _ | apply afterTokens_stable hP | apply cutCmdWrite_stable hP | apply OutS.next (P := P)
      | exact OutS.fault | apply OutS.ite (P := P) | apply ite_stable (P := P) | apply ite_st (P := P)
      | apply ite_sec (P := P) | apply ite_snd (P := P) | apply ite_snd2 (P := P) | apply ite_fst (P := P)
      | apply id_stable (P := P) | dsimp only

theorem zoneGrant_stable (hP : StableIn P free) {x0 x1} (h1 : P x1) : P (zoneGrant x0 x1) := by
  unfold zoneGrant
  try dsimp only
  with_reducible repeat' first
      | assumption | intro _ | apply hP.put | apply State.setStarts_stable hP | apply State.unrequest_stable hP
      | apply State.setZoneLast_stable hP | apply releaseRoot_stable hP | apply State.zoneRefresh_stable hP | dsimp only

theorem execZoneGrant_stable (hP : StableIn P free) {x0} (h0 : P x0) : OutS P (execZoneGrant x0) := by
  unfold execZoneGrant
  try dsimp only
  with_reducible repeat' first
      | assumption | intro _ | apply zoneGrant_stable hP | apply State.raise_stable hP | apply State.report_stable hP
      | apply OutS.next (P := P) | apply ite_stable (P := P) | apply OutS.ite (P := P) | split
      | refine snd_stable (by assumption) ?_ | refine fst_stable (by assumption) ?_
      | refine some_stable (by assumption) ?_ | refine some_stable2 (by assumption) ?_
      | refine snd2_stable (by assumption) ?_ | dsimp only

theorem execStartEnd_stable (hP : StableIn P free) {x0 x1} (h1 : P x1) : OutS P (execStartEnd x0 x1) := by
  unfold execStartEnd
  try dsimp only
  with_reducible repeat' first
      | assumption | intro _ | apply State.zoneRefresh_stable hP | apply State.setStarts_stable hP
      | apply State.advanceTo_stable hP | apply OutS.next (P := P) | apply ite_stable (P := P) | apply OutS.ite (P := P)
      | split | refine snd_stable (by assumption) ?_ | refine fst_stable (by assumption) ?_
      | refine some_stable (by assumption) ?_ | refine some_stable2 (by assumption) ?_
      | refine snd2_stable (by assumption) ?_ | dsimp only

theorem execAddi_stable (hP : StableIn P free) {x0 x1 x2 x3 x4} (h4 : P x4) : OutS P (execAddi x0 x1 x2 x3 x4) := by
  unfold execAddi
  try dsimp only
  with_reducible repeat' first
      | assumption | intro _ | apply alu_stable hP | apply OutS.next (P := P) | dsimp only

theorem execAndi_stable (hP : StableIn P free) {x0 x1 x2 x3 x4} (h4 : P x4) : OutS P (execAndi x0 x1 x2 x3 x4) := by
  unfold execAndi
  try dsimp only
  with_reducible repeat' first
      | assumption | intro _ | apply alu_stable hP | apply OutS.next (P := P) | dsimp only

theorem execOri_stable (hP : StableIn P free) {x0 x1 x2 x3 x4} (h4 : P x4) : OutS P (execOri x0 x1 x2 x3 x4) := by
  unfold execOri
  try dsimp only
  with_reducible repeat' first
      | assumption | intro _ | apply alu_stable hP | apply OutS.next (P := P) | split | dsimp only

theorem execXori_stable (hP : StableIn P free) {x0 x1 x2 x3 x4} (h4 : P x4) : OutS P (execXori x0 x1 x2 x3 x4) := by
  unfold execXori
  try dsimp only
  with_reducible repeat' first
      | assumption | intro _ | apply alu_stable hP | apply OutS.next (P := P) | dsimp only

theorem execCmpi_stable (hP : StableIn P free) {x0 x1 x2 x3} (h3 : P x3) : OutS P (execCmpi x0 x1 x2 x3) := by
  unfold execCmpi
  try dsimp only
  with_reducible repeat' first
      | assumption | intro _ | apply compare_stable hP | apply OutS.next (P := P) | dsimp only

theorem execMovi_stable (hP : StableIn P free) {x0 x1 x2 x3} (h3 : P x3) : OutS P (execMovi x0 x1 x2 x3) := by
  unfold execMovi
  try dsimp only
  with_reducible repeat' first
      | assumption | intro _ | apply alu_stable hP | apply OutS.next (P := P) | dsimp only

theorem execLih_stable (hP : StableIn P free) {x0 x1 x2 x3} (h3 : P x3) : OutS P (execLih x0 x1 x2 x3) := by
  unfold execLih
  try dsimp only
  with_reducible repeat' first
      | assumption | intro _ | apply alu_stable hP | apply OutS.next (P := P) | dsimp only

theorem execBfx_stable (hP : StableIn P free) {x0 x1 x2 x3 x4} (h4 : P x4) : OutS P (execBfx x0 x1 x2 x3 x4) := by
  unfold execBfx
  try dsimp only
  with_reducible repeat' first
      | assumption | intro _ | apply issue_stable hP | apply result_stable hP | apply illegal_stable hP
      | apply OutS.next (P := P) | apply ite_stable (P := P) | apply OutS.ite (P := P) | dsimp only

theorem execBfi_stable (hP : StableIn P free) {x0 x1 x2 x3 x4} (h4 : P x4) : OutS P (execBfi x0 x1 x2 x3 x4) := by
  unfold execBfi
  try dsimp only
  with_reducible repeat' first
      | assumption | intro _ | apply issue_stable hP | apply result_stable hP | apply illegal_stable hP
      | apply OutS.next (P := P) | apply ite_stable (P := P) | apply OutS.ite (P := P) | dsimp only

theorem execLea_stable (hP : StableIn P free) {x0 x1 x2 x3 x4} (h4 : P x4) : OutS P (execLea x0 x1 x2 x3 x4) := by
  unfold execLea
  try dsimp only
  with_reducible repeat' first
      | assumption | intro _ | apply alu_stable hP | apply OutS.next (P := P) | dsimp only

theorem execMovl_stable (hP : StableIn P free) {x0 x1 x2 x3} (h3 : P x3) : OutS P (execMovl x0 x1 x2 x3) := by
  unfold execMovl
  try dsimp only
  with_reducible repeat' first
      | assumption | intro _ | apply issue_stable hP | apply result_stable hP | apply OutS.next (P := P) | dsimp only

theorem execAddl_stable (hP : StableIn P free) {x0 x1 x2 x3 x4} (h4 : P x4) : OutS P (execAddl x0 x1 x2 x3 x4) := by
  unfold execAddl
  try dsimp only
  with_reducible repeat' first
      | assumption | intro _ | apply issue_stable hP | apply result_stable hP | apply OutS.next (P := P) | dsimp only

theorem execLd_stable (hP : StableIn P free) {x0 x1 x2 x3 x4} (h4 : P x4) : OutS P (execLd x0 x1 x2 x3 x4) := by
  unfold execLd
  try dsimp only
  with_reducible repeat' first
      | assumption | intro _ | apply load_stable hP | apply OutS.next (P := P) | dsimp only

theorem storeOne_stable (hP : StableIn P free) {x0 x1 x2 x3 x4} (h4 : P x4) : P (storeOne x0 x1 x2 x3 x4) := by
  unfold storeOne
  try dsimp only
  with_reducible repeat' first
      | assumption | intro _ | apply issue_stable hP | apply adv_stable hP | apply coreWrite_stable hP
      | apply ite_stable (P := P) | apply ite_st (P := P) | apply ite_sec (P := P) | apply ite_snd (P := P)
      | apply ite_snd2 (P := P) | apply ite_fst (P := P) | apply id_stable (P := P) | dsimp only

theorem execSt_stable (hP : StableIn P free) {x0 x1 x2 x3 x4} (h4 : P x4) : OutS P (execSt x0 x1 x2 x3 x4) := by
  unfold execSt
  try dsimp only
  with_reducible repeat' first
      | assumption | intro _ | apply storeOne_stable hP | apply OutS.next (P := P) | dsimp only

theorem coreReadPair_stable (hP : StableIn P free) {x0 x1 x2 x3} (hk2 : ∀ y0 y1 y2, P y2 → P (x2 y0 y1 y2)) (h3 : P x3) : P (coreReadPair x0 x1 x2 x3) := by
  unfold coreReadPair
  try dsimp only
  with_reducible repeat' first
      | assumption | intro _ | apply busGet_stable hP | apply pass_stable hP | apply coreHold_stable hP
      | apply settle_stable hP | apply accessCause_stable hP | apply hk2 | apply ite_stable (P := P)
      | apply ite_st (P := P) | apply ite_sec (P := P) | apply ite_snd (P := P) | apply ite_snd2 (P := P)
      | apply ite_fst (P := P) | apply id_stable (P := P) | dsimp only

theorem loadPair_stable (hP : StableIn P free) {x0 x1 x2 x3 x4} (h4 : P x4) : P (loadPair x0 x1 x2 x3 x4) := by
  unfold loadPair
  try dsimp only
  with_reducible repeat' first
      | assumption | intro _ | apply hP.put | apply issue_stable hP | apply illegal_stable hP
      | apply coreReadPair_stable hP | apply adv_stable hP | apply State.putPair_stable hP | apply ite_stable (P := P)
      | dsimp only

theorem execLdd_stable (hP : StableIn P free) {x0 x1 x2 x3 x4} (h4 : P x4) : OutS P (execLdd x0 x1 x2 x3 x4) := by
  unfold execLdd
  try dsimp only
  with_reducible repeat' first
      | assumption | intro _ | apply loadPair_stable hP | apply OutS.next (P := P) | dsimp only

theorem storePair_stable (hP : StableIn P free) {x0 x1 x2 x3 x4} (h4 : P x4) : P (storePair x0 x1 x2 x3 x4) := by
  unfold storePair
  try dsimp only
  with_reducible repeat' first
      | assumption | intro _ | apply illegal_stable hP | apply issue_stable hP | apply adv_stable hP
      | apply coreWritePair_stable hP | apply ite_stable (P := P) | apply ite_st (P := P) | apply ite_sec (P := P)
      | apply ite_snd (P := P) | apply ite_snd2 (P := P) | apply ite_fst (P := P) | apply id_stable (P := P)
      | dsimp only

theorem execStd_stable (hP : StableIn P free) {x0 x1 x2 x3 x4} (h4 : P x4) : OutS P (execStd x0 x1 x2 x3 x4) := by
  unfold execStd
  try dsimp only
  with_reducible repeat' first
      | assumption | intro _ | apply storePair_stable hP | apply OutS.next (P := P) | dsimp only

theorem execLdl_stable (hP : StableIn P free) {x0 x1 x2 x3} (h3 : P x3) : OutS P (execLdl x0 x1 x2 x3) := by
  unfold execLdl
  try dsimp only
  with_reducible repeat' first
      | assumption | intro _ | apply longForm_stable hP | apply load_stable hP | apply OutS.next (P := P) | dsimp only

theorem execStl_stable (hP : StableIn P free) {x0 x1 x2 x3} (h3 : P x3) : OutS P (execStl x0 x1 x2 x3) := by
  unfold execStl
  try dsimp only
  with_reducible repeat' first
      | assumption | intro _ | apply longForm_stable hP | apply storeOne_stable hP | apply OutS.next (P := P)
      | dsimp only

theorem execLddl_stable (hP : StableIn P free) {x0 x1 x2 x3} (h3 : P x3) : OutS P (execLddl x0 x1 x2 x3) := by
  unfold execLddl
  try dsimp only
  with_reducible repeat' first
      | assumption | intro _ | apply longForm_stable hP | apply loadPair_stable hP | apply OutS.next (P := P)
      | dsimp only

theorem execStdl_stable (hP : StableIn P free) {x0 x1 x2 x3} (h3 : P x3) : OutS P (execStdl x0 x1 x2 x3) := by
  unfold execStdl
  try dsimp only
  with_reducible repeat' first
      | assumption | intro _ | apply longForm_stable hP | apply storePair_stable hP | apply OutS.next (P := P)
      | dsimp only

theorem midway_stable (hP : StableIn P free) {x0 x1} (h1 : P x1) : P (midway x0 x1) := by
  unfold midway
  try dsimp only
  with_reducible repeat' first
      | assumption | intro _ | apply hP.put | apply State.putCore_stable hP | apply ite_stable (P := P)
      | apply ite_st (P := P) | apply ite_sec (P := P) | apply ite_snd (P := P) | apply ite_snd2 (P := P)
      | apply ite_fst (P := P) | apply id_stable (P := P) | dsimp only

theorem longInstr_stable (hP : StableIn P free) {x0 x1 x2 x3 x4 x5} (hk4 : ∀ y0, P y0 → P (x4 y0)) (h5 : P x5) : P (longInstr x0 x1 x2 x3 x4 x5) := by
  unfold longInstr
  try dsimp only
  with_reducible repeat' first
      | assumption | intro _ | apply hP.put | apply hk4 | apply issue_stable hP | apply illegal_stable hP
      | apply State.putCore_stable hP | apply adv_stable hP | apply midway_stable hP | apply ite_stable (P := P)
      | dsimp only

theorem stepped_stable (hP : StableIn P free) {x0 x1 x2 x3 x4 x5} (hk4 : ∀ y0, P y0 → P (x4 y0)) (h5 : P x5) : P (stepped x0 x1 x2 x3 x4 x5) := by
  unfold stepped
  try dsimp only
  with_reducible repeat' first
      | assumption | intro _ | apply hP.put | apply State.putReg_stable hP | apply pass_stable hP
      | apply adv_stable hP | apply hk4 | apply ite_stable (P := P) | apply ite_st (P := P) | apply ite_sec (P := P)
      | apply ite_snd (P := P) | apply ite_snd2 (P := P) | apply ite_fst (P := P) | apply id_stable (P := P)
      | dsimp only

theorem movbElement_stable (hP : StableIn P free) {x0 x1 x2 x3 x4} (h4 : P x4) : P (movbElement x0 x1 x2 x3 x4) := by
  unfold movbElement
  try dsimp only
  with_reducible repeat' first
      | assumption | intro _ | apply hP.put | apply busGet_stable hP | apply busPut_stable hP
      | apply State.putReg_stable hP | apply raiseSync_stable hP | apply accessed_stable hP | apply coreHold_stable hP
      | apply settle_stable hP | apply corePerform_stable hP | apply stepped_stable hP | apply ite_stable (P := P)
      | apply ite_st (P := P) | apply ite_sec (P := P) | apply ite_snd (P := P) | apply ite_snd2 (P := P)
      | apply ite_fst (P := P) | apply id_stable (P := P) | dsimp only

theorem execMovb_stable (hP : StableIn P free) {x0 x1 x2 x3 x4} (h4 : P x4) : OutS P (execMovb x0 x1 x2 x3 x4) := by
  unfold execMovb
  try dsimp only
  with_reducible repeat' first
      | assumption | intro _ | apply longInstr_stable hP | apply movbElement_stable hP | apply OutS.next (P := P)
      | dsimp only

theorem crcbElement_stable (hP : StableIn P free) {x0 x1 x2 x3 x4 x5} (h5 : P x5) : P (crcbElement x0 x1 x2 x3 x4 x5) := by
  unfold crcbElement
  try dsimp only
  with_reducible repeat' first
      | assumption | intro _ | apply hP.put | apply coreRead_stable hP | apply stepped_stable hP
      | apply State.putReg_stable hP | apply ite_stable (P := P) | apply id_stable (P := P) | dsimp only

theorem execCrcb_stable (hP : StableIn P free) {x0 x1 x2 x3 x4 x5} (h5 : P x5) : OutS P (execCrcb x0 x1 x2 x3 x4 x5) := by
  unfold execCrcb
  try dsimp only
  with_reducible repeat' first
      | assumption | intro _ | apply longInstr_stable hP | apply crcbElement_stable hP | apply OutS.next (P := P)
      | dsimp only

theorem putZ_stable (hP : StableIn P free) {x0 x1 x2} (h2 : P x2) : P (putZ x0 x1 x2) := by
  unfold putZ
  try dsimp only
  with_reducible repeat' first
      | assumption | intro _ | apply hP.put | apply State.putCore_stable hP | dsimp only

theorem srchElement_stable (hP : StableIn P free) {x0 x1 x2 x3 x4 x5} (h5 : P x5) : P (srchElement x0 x1 x2 x3 x4 x5) := by
  unfold srchElement
  try dsimp only
  with_reducible repeat' first
      | assumption | intro _ | apply pass_stable hP | apply adv_stable hP | apply coreRead_stable hP
      | apply stepped_stable hP | apply putZ_stable hP | apply ite_stable (P := P) | apply ite_st (P := P)
      | apply ite_sec (P := P) | apply ite_snd (P := P) | apply ite_snd2 (P := P) | apply ite_fst (P := P)
      | apply id_stable (P := P) | dsimp only

theorem execSrch_stable (hP : StableIn P free) {x0 x1 x2 x3 x4 x5} (h5 : P x5) : OutS P (execSrch x0 x1 x2 x3 x4 x5) := by
  unfold execSrch
  try dsimp only
  with_reducible repeat' first
      | assumption | intro _ | apply longInstr_stable hP | apply srchElement_stable hP | apply OutS.next (P := P)
      | dsimp only

theorem execCpAbsent_stable (hP : StableIn P free) {x0 x1 x2} (h2 : P x2) : OutS P (execCpAbsent x0 x1 x2) := by
  unfold execCpAbsent
  try dsimp only
  with_reducible repeat' first
      | assumption | intro _ | apply issue_stable hP | apply raiseSync_stable hP | apply OutS.next (P := P) | dsimp only

theorem launch_stable (hP : StableIn P free) {x0 x1 x2} (h2 : P x2) : P (launch x0 x1 x2) := by
  unfold launch
  try dsimp only
  with_reducible repeat' first
      | assumption | intro _ | apply hP.put | apply State.putCore_stable hP | apply adv_stable hP
      | apply ite_stable (P := P) | apply ite_st (P := P) | apply ite_sec (P := P) | apply ite_snd (P := P)
      | apply ite_snd2 (P := P) | apply ite_fst (P := P) | apply id_stable (P := P) | dsimp only

theorem cpOp_stable (hP : StableIn P free) {x0 x1 x2} (h2 : P x2) : P (cpOp x0 x1 x2) := by
  unfold cpOp
  try dsimp only
  with_reducible repeat' first
      | assumption | intro _ | apply issue_stable hP | apply launch_stable hP | dsimp only

theorem execMul_stable (hP : StableIn P free) {x0 x1 x2 x3 x4} (h4 : P x4) : OutS P (execMul x0 x1 x2 x3 x4) := by
  unfold execMul
  try dsimp only
  with_reducible repeat' first
      | assumption | intro _ | apply cpOp_stable hP | apply OutS.next (P := P) | dsimp only

theorem execMulu_stable (hP : StableIn P free) {x0 x1 x2 x3 x4} (h4 : P x4) : OutS P (execMulu x0 x1 x2 x3 x4) := by
  unfold execMulu
  try dsimp only
  with_reducible repeat' first
      | assumption | intro _ | apply cpOp_stable hP | apply OutS.next (P := P) | dsimp only

theorem execMac_stable (hP : StableIn P free) {x0 x1 x2 x3 x4} (h4 : P x4) : OutS P (execMac x0 x1 x2 x3 x4) := by
  unfold execMac
  try dsimp only
  with_reducible repeat' first
      | assumption | intro _ | apply cpOp_stable hP | apply OutS.next (P := P) | dsimp only

theorem execMsu_stable (hP : StableIn P free) {x0 x1 x2 x3 x4} (h4 : P x4) : OutS P (execMsu x0 x1 x2 x3 x4) := by
  unfold execMsu
  try dsimp only
  with_reducible repeat' first
      | assumption | intro _ | apply cpOp_stable hP | apply OutS.next (P := P) | dsimp only

theorem cpRead_stable (hP : StableIn P free) {x0 x1 x2 x3} (h3 : P x3) : P (cpRead x0 x1 x2 x3) := by
  unfold cpRead
  try dsimp only
  with_reducible repeat' first
      | assumption | intro _ | apply hP.put | apply issue_stable hP | apply adv_stable hP | apply State.putReg_stable hP
      | dsimp only

theorem execRdh_stable (hP : StableIn P free) {x0 x1 x2 x3} (h3 : P x3) : OutS P (execRdh x0 x1 x2 x3) := by
  unfold execRdh
  try dsimp only
  with_reducible repeat' first
      | assumption | intro _ | apply cpRead_stable hP | apply OutS.next (P := P) | dsimp only

theorem execRdl_stable (hP : StableIn P free) {x0 x1 x2 x3} (h3 : P x3) : OutS P (execRdl x0 x1 x2 x3) := by
  unfold execRdl
  try dsimp only
  with_reducible repeat' first
      | assumption | intro _ | apply cpRead_stable hP | apply OutS.next (P := P) | dsimp only

theorem mstSet_stable (hP : StableIn P free) {x0 x1 x2} (h2 : P x2) : P (mstSet x0 x1 x2) := by
  unfold mstSet
  try dsimp only
  with_reducible repeat' first
      | assumption | intro _ | apply hP.put | apply dirty_stable hP | apply State.putCore_stable hP | split | dsimp only

theorem execRdf_stable (hP : StableIn P free) {x0 x1 x2 x3} (h3 : P x3) : OutS P (execRdf x0 x1 x2 x3) := by
  unfold execRdf
  try dsimp only
  with_reducible repeat' first
      | assumption | intro _ | apply hP.put | apply issue_stable hP | apply State.putReg_stable hP | apply adv_stable hP
      | apply mstSet_stable hP | apply OutS.next (P := P) | apply ite_stable (P := P) | apply OutS.ite (P := P)
      | dsimp only

theorem execRdd_stable (hP : StableIn P free) {x0 x1 x2 x3} (h3 : P x3) : OutS P (execRdd x0 x1 x2 x3) := by
  unfold execRdd
  try dsimp only
  with_reducible repeat' first
      | assumption | intro _ | apply hP.put | apply issue_stable hP | apply illegal_stable hP | apply adv_stable hP
      | apply State.putPair_stable hP | apply OutS.next (P := P) | apply ite_stable (P := P) | apply OutS.ite (P := P)
      | dsimp only

theorem execWra_stable (hP : StableIn P free) {x0 x1 x2 x3 x4} (h4 : P x4) : OutS P (execWra x0 x1 x2 x3 x4) := by
  unfold execWra
  try dsimp only
  with_reducible repeat' first
      | assumption | intro _ | apply hP.wr | apply cpOp_stable hP | apply OutS.next (P := P) | dsimp only

theorem execRdm_stable (hP : StableIn P free) {x0 x1 x2 x3} (h3 : P x3) : OutS P (execRdm x0 x1 x2 x3) := by
  unfold execRdm
  try dsimp only
  with_reducible repeat' first
      | assumption | intro _ | apply cpRead_stable hP | apply OutS.next (P := P) | dsimp only

theorem execRds_stable (hP : StableIn P free) {x0 x1 x2} (h2 : P x2) : OutS P (execRds x0 x1 x2) := by
  unfold execRds
  try dsimp only
  with_reducible repeat' first
      | assumption | intro _ | apply hP.put | apply issue_stable hP | apply State.putReg_stable hP | apply adv_stable hP
      | apply dirty_stable hP | apply State.putCore_stable hP | apply OutS.next (P := P) | dsimp only

theorem restart_stable (hP : StableIn P free) {x0 x1 x2 x3} (h3 : P x3) : P (restart x0 x1 x2 x3) := by
  unfold restart
  try dsimp only
  with_reducible repeat' first
      | assumption | intro _ | apply hP.put | apply State.putCore_stable hP | apply mstSet_stable hP
      | apply ite_stable (P := P) | apply ite_st (P := P) | apply ite_sec (P := P) | apply ite_snd (P := P)
      | apply ite_snd2 (P := P) | apply ite_fst (P := P) | apply id_stable (P := P) | dsimp only

theorem divOp_stable (hP : StableIn P free) {x0 x1 x2} (h2 : P x2) : P (divOp x0 x1 x2) := by
  unfold divOp
  try dsimp only
  with_reducible repeat' first
      | assumption | intro _ | apply issue_stable hP | apply launch_stable hP | apply State.drawn_stable hP
      | apply restart_stable hP | dsimp only

theorem execDiv_stable (hP : StableIn P free) {x0 x1 x2 x3} (h3 : P x3) : OutS P (execDiv x0 x1 x2 x3) := by
  unfold execDiv
  try dsimp only
  with_reducible repeat' first
      | assumption | intro _ | apply divOp_stable hP | apply OutS.next (P := P) | dsimp only

theorem execDivu_stable (hP : StableIn P free) {x0 x1 x2 x3} (h3 : P x3) : OutS P (execDivu x0 x1 x2 x3) := by
  unfold execDivu
  try dsimp only
  with_reducible repeat' first
      | assumption | intro _ | apply divOp_stable hP | apply OutS.next (P := P) | dsimp only

theorem execDivf_stable (hP : StableIn P free) {x0 x1 x2 x3} (h3 : P x3) : OutS P (execDivf x0 x1 x2 x3) := by
  unfold execDivf
  try dsimp only
  with_reducible repeat' first
      | assumption | intro _ | apply divOp_stable hP | apply OutS.next (P := P) | dsimp only

theorem execSqrt_stable (hP : StableIn P free) {x0 x1 x2} (h2 : P x2) : OutS P (execSqrt x0 x1 x2) := by
  unfold execSqrt
  try dsimp only
  with_reducible repeat' first
      | assumption | intro _ | apply divOp_stable hP | apply OutS.next (P := P) | exact OutS.fault
      | apply OutS.ite (P := P) | apply ite_stable (P := P) | apply ite_st (P := P) | apply ite_sec (P := P)
      | apply ite_snd (P := P) | apply ite_snd2 (P := P) | apply ite_fst (P := P) | apply id_stable (P := P)
      | dsimp only

theorem execSqrtf_stable (hP : StableIn P free) {x0 x1 x2} (h2 : P x2) : OutS P (execSqrtf x0 x1 x2) := by
  unfold execSqrtf
  try dsimp only
  with_reducible repeat' first
      | assumption | intro _ | apply divOp_stable hP | apply OutS.next (P := P) | dsimp only

theorem corOp_stable (hP : StableIn P free) {x0 x1 x2} (h2 : P x2) : P (corOp x0 x1 x2) := by
  unfold corOp
  try dsimp only
  with_reducible repeat' first
      | assumption | intro _ | apply issue_stable hP | apply launch_stable hP | apply State.drawn_stable hP
      | apply restart_stable hP | dsimp only

theorem execCrot_stable (hP : StableIn P free) {x0 x1 x2 x3 x4} (h4 : P x4) : OutS P (execCrot x0 x1 x2 x3 x4) := by
  unfold execCrot
  try dsimp only
  with_reducible repeat' first
      | assumption | intro _ | apply corOp_stable hP | apply OutS.next (P := P) | dsimp only

theorem execCvec_stable (hP : StableIn P free) {x0 x1 x2 x3} (h3 : P x3) : OutS P (execCvec x0 x1 x2 x3) := by
  unfold execCvec
  try dsimp only
  with_reducible repeat' first
      | assumption | intro _ | apply corOp_stable hP | apply OutS.next (P := P) | dsimp only

theorem landUnit_stable (hP : StableIn P free) {x0 x1 x2} (h2 : P x2) : P (landUnit x0 x1 x2) := by
  unfold landUnit
  try dsimp only
  with_reducible repeat' first
      | assumption | intro _ | apply hP.put | apply State.putCore_stable hP | apply pass_stable hP
      | apply ite_stable (P := P) | apply ite_st (P := P) | apply ite_sec (P := P) | apply ite_snd (P := P)
      | apply ite_snd2 (P := P) | apply ite_fst (P := P) | apply OptS.some (P := P) | exact OptS.none
      | apply OptS2.some (P := P) | exact OptS2.none | apply OptS.bind (P := P) | apply OptS.bind2 (P := P)
      | apply OptS.map (P := P) | apply OptS.map0 (P := P) | apply OptS2.map (P := P) | apply OptS.getD (P := P)
      | apply OptS.ite (P := P) | apply OptS2.ite (P := P) | apply id_stable (P := P) | apply foldl_stable (P := P)
      | apply foldl_stable2 (P := P) | apply foldl_stable1 (P := P) | split | refine snd2_stable (by assumption) ?_
      | refine snd_stable (by assumption) ?_ | refine fst_stable (by assumption) ?_
      | refine some_stable (by assumption) ?_ | refine some_stable2 (by assumption) ?_ | dsimp only

theorem execCpResultLand_stable (hP : StableIn P free) {x0 x1 x2} (h2 : P x2) : OutS P (execCpResultLand x0 x1 x2) := by
  unfold execCpResultLand
  try dsimp only
  with_reducible repeat' first
      | assumption | intro _ | apply landUnit_stable hP | apply OutS.next (P := P) | exact OutS.fault
      | apply OutS.ite (P := P) | apply ite_stable (P := P) | apply ite_st (P := P) | apply ite_sec (P := P)
      | apply ite_snd (P := P) | apply ite_snd2 (P := P) | apply ite_fst (P := P) | apply id_stable (P := P)
      | dsimp only

theorem execWriteToken_stable (hP : StableIn P free) {x0 x1 x2} (h2 : P x2) : OutS P (execWriteToken x0 x1 x2) := by
  unfold execWriteToken
  try dsimp only
  with_reducible repeat' first
      | assumption | intro _ | apply tokenOne_stable hP | apply OutS.next (P := P) | dsimp only

theorem execDmaEnable_stable (hP : StableIn P free) {x0 x1 x2 x3} (h3 : P x3) : OutS P (execDmaEnable x0 x1 x2 x3) := by
  unfold execDmaEnable
  try dsimp only
  with_reducible repeat' first
      | assumption | intro _ | apply afterTokens_stable hP | apply dmaCtrlWrite_stable hP | apply onIsland_stable hP
      | apply OutS.next (P := P) | exact OutS.fault | apply OutS.ite (P := P) | apply ite_stable (P := P)
      | apply ite_st (P := P) | apply ite_sec (P := P) | apply ite_snd (P := P) | apply ite_snd2 (P := P)
      | apply ite_fst (P := P) | apply id_stable (P := P) | dsimp only

theorem execDmaDisable_stable (hP : StableIn P free) {x0 x1 x2 x3} (h3 : P x3) : OutS P (execDmaDisable x0 x1 x2 x3) := by
  unfold execDmaDisable
  try dsimp only
  with_reducible repeat' first
      | assumption | intro _ | apply afterTokens_stable hP | apply dmaCtrlWrite_stable hP | apply onIsland_stable hP
      | apply OutS.next (P := P) | exact OutS.fault | apply OutS.ite (P := P) | apply ite_stable (P := P)
      | apply ite_st (P := P) | apply ite_sec (P := P) | apply ite_snd (P := P) | apply ite_snd2 (P := P)
      | apply ite_fst (P := P) | apply id_stable (P := P) | dsimp only

theorem execDmaGo_stable (hP : StableIn P free) {x0 x1 x2 x3} (h3 : P x3) : OutS P (execDmaGo x0 x1 x2 x3) := by
  unfold execDmaGo
  try dsimp only
  with_reducible repeat' first
      | assumption | intro _ | apply afterTokens_stable hP | apply dmaCtrlWrite_stable hP | apply onIsland_stable hP
      | apply OutS.next (P := P) | exact OutS.fault | apply OutS.ite (P := P) | apply ite_stable (P := P)
      | apply ite_st (P := P) | apply ite_sec (P := P) | apply ite_snd (P := P) | apply ite_snd2 (P := P)
      | apply ite_fst (P := P) | apply id_stable (P := P) | dsimp only

theorem execDmaEventTrigger_stable (hP : StableIn P free) {x0 x1} (h1 : P x1) : OutS P (execDmaEventTrigger x0 x1) := by
  unfold execDmaEventTrigger
  try dsimp only
  with_reducible repeat' first
      | assumption | intro _ | apply dmaTrigger_stable hP | apply State.sawEv_stable hP | apply OutS.next (P := P)
      | apply ite_stable (P := P) | apply OutS.ite (P := P) | split | refine snd_stable (by assumption) ?_
      | refine fst_stable (by assumption) ?_ | refine some_stable (by assumption) ?_
      | refine some_stable2 (by assumption) ?_ | refine snd2_stable (by assumption) ?_ | dsimp only

theorem execRushesEnable_stable (hP : StableIn P free) {x0 x1 x2 x3} (h3 : P x3) : OutS P (execRushesEnable x0 x1 x2 x3) := by
  unfold execRushesEnable
  try dsimp only
  with_reducible repeat' first
      | assumption | intro _ | apply afterTokens_stable hP | apply onIsland_stable hP | apply rushCtrlWrite_stable hP
      | apply OutS.next (P := P) | exact OutS.fault | apply OutS.ite (P := P) | apply ite_stable (P := P)
      | apply ite_st (P := P) | apply ite_sec (P := P) | apply ite_snd (P := P) | apply ite_snd2 (P := P)
      | apply ite_fst (P := P) | apply id_stable (P := P) | dsimp only

theorem execRushesDisable_stable (hP : StableIn P free) {x0 x1 x2 x3} (h3 : P x3) : OutS P (execRushesDisable x0 x1 x2 x3) := by
  unfold execRushesDisable
  try dsimp only
  with_reducible repeat' first
      | assumption | intro _ | apply afterTokens_stable hP | apply onIsland_stable hP | apply rushCtrlWrite_stable hP
      | apply OutS.next (P := P) | exact OutS.fault | apply OutS.ite (P := P) | apply ite_stable (P := P)
      | apply ite_st (P := P) | apply ite_sec (P := P) | apply ite_snd (P := P) | apply ite_snd2 (P := P)
      | apply ite_fst (P := P) | apply id_stable (P := P) | dsimp only

theorem rushAdvance_stable (hP : StableIn P free) {x0 x1} (h1 : P x1) : P (rushAdvance x0 x1) := by
  unfold rushAdvance
  try dsimp only
  with_reducible repeat' first
      | assumption | intro _ | apply hP.put | apply State.putIf_stable hP | apply State.putRush_stable hP
      | apply rushFreeze_stable hP | apply ite_stable (P := P) | split | refine snd_stable (by assumption) ?_
      | refine fst_stable (by assumption) ?_ | refine some_stable (by assumption) ?_
      | refine some_stable2 (by assumption) ?_ | refine snd2_stable (by assumption) ?_ | dsimp only

theorem rushWrite_stable (hP : StableIn P free) {x0 x1 x2 x3 x4} (h4 : P x4) : P (rushWrite x0 x1 x2 x3 x4) := by
  unfold rushWrite
  try dsimp only
  with_reducible repeat' first
      | assumption | intro _ | apply hP.put | apply ddrWrites_stable hP | apply rushAdvance_stable hP
      | apply State.putRush_stable hP | apply ite_stable (P := P) | dsimp only

theorem execRushesRecordWrite_stable (hP : StableIn P free) {x0 x1} (h1 : P x1) : OutS P (execRushesRecordWrite x0 x1) := by
  unfold execRushesRecordWrite
  try dsimp only
  with_reducible repeat' first
      | assumption | intro _ | apply rushWrite_stable hP | apply OutS.next (P := P) | split
      | refine snd_stable (by assumption) ?_ | refine fst_stable (by assumption) ?_
      | refine some_stable (by assumption) ?_ | refine some_stable2 (by assumption) ?_
      | refine snd2_stable (by assumption) ?_ | dsimp only

theorem execRushesGo_stable (hP : StableIn P free) {x0 x1 x2} (h2 : P x2) : OutS P (execRushesGo x0 x1 x2) := by
  unfold execRushesGo
  try dsimp only
  with_reducible repeat' first
      | assumption | intro _ | apply afterTokens_stable hP | apply State.answer_stable hP | apply onIsland_stable hP
      | apply rushGo_stable hP | apply OutS.next (P := P) | exact OutS.fault | apply OutS.ite (P := P)
      | apply ite_stable (P := P) | apply ite_st (P := P) | apply ite_sec (P := P) | apply ite_snd (P := P)
      | apply ite_snd2 (P := P) | apply ite_fst (P := P) | apply id_stable (P := P) | dsimp only

theorem execChannelRearm_stable (hP : StableIn P free) {x0 x1 x2 x3} (h3 : P x3) : OutS P (execChannelRearm x0 x1 x2 x3) := by
  unfold execChannelRearm
  try dsimp only
  with_reducible repeat' first
      | assumption | intro _ | apply afterTokens_stable hP | apply onIsland_stable hP | apply rushCtrlWrite_stable hP
      | apply OutS.next (P := P) | exact OutS.fault | apply OutS.ite (P := P) | apply ite_stable (P := P)
      | apply ite_st (P := P) | apply ite_sec (P := P) | apply ite_snd (P := P) | apply ite_snd2 (P := P)
      | apply ite_fst (P := P) | apply id_stable (P := P) | dsimp only

theorem execFlashQueueEnable_stable (hP : StableIn P free) {x0 x1 x2} (h2 : P x2) : OutS P (execFlashQueueEnable x0 x1 x2) := by
  unfold execFlashQueueEnable
  try dsimp only
  with_reducible repeat' first
      | assumption | intro _ | apply afterTokens_stable hP | apply flashQctlWrite_stable hP | apply onIsland_stable hP
      | apply OutS.next (P := P) | exact OutS.fault | apply OutS.ite (P := P) | apply ite_stable (P := P)
      | apply ite_st (P := P) | apply ite_sec (P := P) | apply ite_snd (P := P) | apply ite_snd2 (P := P)
      | apply ite_fst (P := P) | apply id_stable (P := P) | dsimp only

theorem execFlashQueueDisable_stable (hP : StableIn P free) {x0 x1 x2} (h2 : P x2) : OutS P (execFlashQueueDisable x0 x1 x2) := by
  unfold execFlashQueueDisable
  try dsimp only
  with_reducible repeat' first
      | assumption | intro _ | apply afterTokens_stable hP | apply flashQctlWrite_stable hP | apply onIsland_stable hP
      | apply OutS.next (P := P) | exact OutS.fault | apply OutS.ite (P := P) | apply ite_stable (P := P)
      | apply ite_st (P := P) | apply ite_sec (P := P) | apply ite_snd (P := P) | apply ite_snd2 (P := P)
      | apply ite_fst (P := P) | apply id_stable (P := P) | dsimp only

theorem readLines_stable (hP : StableIn P free) {x0 x1 x2} (h2 : P x2) : P (readLines x0 x1 x2).2 := by
  unfold readLines
  try dsimp only
  with_reducible repeat' first
      | assumption | intro _ | apply lineRead_stable hP | apply ite_stable (P := P) | apply ite_st (P := P)
      | apply ite_sec (P := P) | apply ite_snd (P := P) | apply ite_snd2 (P := P) | apply ite_fst (P := P)
      | apply OptS.some (P := P) | exact OptS.none | apply OptS2.some (P := P) | exact OptS2.none
      | apply OptS.bind (P := P) | apply OptS.bind2 (P := P) | apply OptS.map (P := P) | apply OptS.map0 (P := P)
      | apply OptS2.map (P := P) | apply OptS.getD (P := P) | apply OptS.ite (P := P) | apply OptS2.ite (P := P)
      | apply id_stable (P := P) | apply foldl_stable (P := P) | apply foldl_stable2 (P := P)
      | apply foldl_stable1 (P := P) | split | refine snd2_stable (by assumption) ?_
      | refine snd_stable (by assumption) ?_ | refine fst_stable (by assumption) ?_
      | refine some_stable (by assumption) ?_ | refine some_stable2 (by assumption) ?_ | dsimp only

theorem targetRead_stable (hP : StableIn P free) {x0 x1} (h1 : P x1) : P (targetRead x0 x1).2 := by
  unfold targetRead
  try dsimp only
  with_reducible repeat' first
      | assumption | intro _ | apply readLines_stable hP | apply ite_stable (P := P) | apply ite_st (P := P)
      | apply ite_sec (P := P) | apply ite_snd (P := P) | apply ite_snd2 (P := P) | apply ite_fst (P := P)
      | apply id_stable (P := P) | dsimp only

theorem flashJudge_stable (hP : StableIn P free) {x0 x1} (h1 : P x1) : P (flashJudge x0 x1) := by
  unfold flashJudge
  try dsimp only
  with_reducible repeat' first
      | assumption | intro _ | apply hP.put | apply flashComplete_stable hP | apply targetRead_stable hP
      | apply State.putFlash_stable hP | apply ite_stable (P := P) | apply ite_st (P := P) | apply ite_sec (P := P)
      | apply ite_snd (P := P) | apply ite_snd2 (P := P) | apply ite_fst (P := P) | apply OptS.some (P := P)
      | exact OptS.none | apply OptS2.some (P := P) | exact OptS2.none | apply OptS.bind (P := P)
      | apply OptS.bind2 (P := P) | apply OptS.map (P := P) | apply OptS.map0 (P := P) | apply OptS2.map (P := P)
      | apply OptS.getD (P := P) | apply OptS.ite (P := P) | apply OptS2.ite (P := P) | apply id_stable (P := P)
      | apply foldl_stable (P := P) | apply foldl_stable2 (P := P) | apply foldl_stable1 (P := P) | split
      | refine snd2_stable (by assumption) ?_ | refine snd_stable (by assumption) ?_
      | refine fst_stable (by assumption) ?_ | refine some_stable (by assumption) ?_
      | refine some_stable2 (by assumption) ?_ | dsimp only

theorem flashTake_stable (hP : StableIn P free) {x0} (h0 : P x0) : P (flashTake x0) := by
  unfold flashTake
  try dsimp only
  with_reducible repeat' first
      | assumption | intro _ | apply hP.put | apply bankReads_stable hP | apply flashComplete_stable hP
      | apply flashJudge_stable hP | apply State.putFlash_stable hP | apply State.inc_stable hP
      | apply ite_stable (P := P) | apply ite_st (P := P) | apply ite_sec (P := P) | apply ite_snd (P := P)
      | apply ite_snd2 (P := P) | apply ite_fst (P := P) | apply OptS.some (P := P) | exact OptS.none
      | apply OptS2.some (P := P) | exact OptS2.none | apply OptS.bind (P := P) | apply OptS.bind2 (P := P)
      | apply OptS.map (P := P) | apply OptS.map0 (P := P) | apply OptS2.map (P := P) | apply OptS.getD (P := P)
      | apply OptS.ite (P := P) | apply OptS2.ite (P := P) | apply id_stable (P := P) | apply foldl_stable (P := P)
      | apply foldl_stable2 (P := P) | apply foldl_stable1 (P := P) | split | refine snd2_stable (by assumption) ?_
      | refine snd_stable (by assumption) ?_ | refine fst_stable (by assumption) ?_
      | refine some_stable (by assumption) ?_ | refine some_stable2 (by assumption) ?_ | dsimp only

theorem execFlashDescriptorTake_stable (hP : StableIn P free) {x0} (h0 : P x0) : OutS P (execFlashDescriptorTake x0) := by
  unfold execFlashDescriptorTake
  try dsimp only
  with_reducible repeat' first
      | assumption | intro _ | apply flashTake_stable hP | apply OutS.next (P := P) | exact OutS.fault
      | apply OutS.ite (P := P) | apply ite_stable (P := P) | apply ite_st (P := P) | apply ite_sec (P := P)
      | apply ite_snd (P := P) | apply ite_snd2 (P := P) | apply ite_fst (P := P) | apply id_stable (P := P)
      | dsimp only

theorem withDesc_stable (hP : StableIn P free) {x0 x1 x2} (hk1 : ∀ y0 y1, P y1 → P (x1 y0 y1)) (h2 : P x2) : P (withDesc x0 x1 x2) := by
  unfold withDesc
  try dsimp only
  with_reducible repeat' first
      | assumption | intro _ | apply hk1 | apply ite_stable (P := P) | apply ite_st (P := P) | apply ite_sec (P := P)
      | apply ite_snd (P := P) | apply ite_snd2 (P := P) | apply ite_fst (P := P) | apply OptS.some (P := P)
      | exact OptS.none | apply OptS2.some (P := P) | exact OptS2.none | apply OptS.bind (P := P)
      | apply OptS.bind2 (P := P) | apply OptS.map (P := P) | apply OptS.map0 (P := P) | apply OptS2.map (P := P)
      | apply OptS.getD (P := P) | apply OptS.ite (P := P) | apply OptS2.ite (P := P) | apply id_stable (P := P)
      | apply foldl_stable (P := P) | apply foldl_stable2 (P := P) | apply foldl_stable1 (P := P) | split
      | refine snd2_stable (by assumption) ?_ | refine snd_stable (by assumption) ?_
      | refine fst_stable (by assumption) ?_ | refine some_stable (by assumption) ?_
      | refine some_stable2 (by assumption) ?_ | dsimp only

theorem flashSrcRead_stable (hP : StableIn P free) {x0 x1} (h1 : P x1) : P (flashSrcRead x0 x1).st := by
  unfold flashSrcRead
  try dsimp only
  with_reducible repeat' first
      | assumption | intro _ | apply bankRead_stable hP | apply ddrRead_stable hP | split
      | refine snd_stable (by assumption) ?_ | refine fst_stable (by assumption) ?_
      | refine some_stable (by assumption) ?_ | refine some_stable2 (by assumption) ?_
      | refine snd2_stable (by assumption) ?_ | dsimp only

theorem flashSrcReads_stable (hP : StableIn P free) {x0 x1 x2} (h2 : P x2) : P (flashSrcReads x0 x1 x2).2 := by
  fun_induction flashSrcReads x0 x1 x2 <;> (with_reducible repeat' first
      | assumption | intro _ | apply flashSrcRead_stable hP | apply ite_stable (P := P) | apply ite_snd (P := P) | split
      | refine snd_stable (by assumption) ?_ | refine fst_stable (by assumption) ?_
      | refine some_stable (by assumption) ?_ | refine some_stable2 (by assumption) ?_
      | refine snd2_stable (by assumption) ?_ | refine ‹P _ → P _› ?_ | refine ‹P _ → OptS P _› ?_
      | refine ‹∀ t, P t → OptS P _› _ ?_ | dsimp +zetaDelta only | dsimp only)

theorem verifyFrom_stable (hP : StableIn P free) {x0 x1 x2 x3 x4} (h4 : P x4) : P (verifyFrom x0 x1 x2 x3 x4).2 := by
  fun_induction verifyFrom x0 x1 x2 x3 x4 <;> (with_reducible repeat' first
      | assumption | intro _ | apply flashSrcReads_stable hP | apply lineRead_stable hP | apply ite_stable (P := P)
      | apply ite_snd (P := P) | split | refine snd_stable (by assumption) ?_ | refine fst_stable (by assumption) ?_
      | refine some_stable (by assumption) ?_ | refine some_stable2 (by assumption) ?_
      | refine snd2_stable (by assumption) ?_ | refine ‹P _ → P _› ?_ | refine ‹P _ → OptS P _› ?_
      | refine ‹∀ t, P t → OptS P _› _ ?_ | dsimp +zetaDelta only | dsimp only)

theorem flashFinish_stable (hP : StableIn P free) {x0 x1 x2} (h2 : P x2) : P (flashFinish x0 x1 x2) := by
  unfold flashFinish
  try dsimp only
  with_reducible repeat' first
      | assumption | intro _ | apply hP.put | apply flashComplete_stable hP | apply State.putFlash_stable hP
      | dsimp only

theorem execReadVerify_stable (hP : StableIn P free) {x0} (h0 : P x0) : OutS P (execReadVerify x0) := by
  unfold execReadVerify
  try dsimp only
  with_reducible repeat' first
      | assumption | intro _ | apply withDesc_stable hP | apply verifyFrom_stable hP | apply flashFinish_stable hP
      | apply OutS.next (P := P) | dsimp only

theorem programLines_stable (hP : StableIn P free) {x0 x1 x2 x3 x4} (h4 : P x4) : P (programLines x0 x1 x2 x3 x4).2 := by
  fun_induction programLines x0 x1 x2 x3 x4 <;> (with_reducible repeat' first
      | assumption | intro _ | apply flashSrcReads_stable hP | split | refine snd_stable (by assumption) ?_
      | refine fst_stable (by assumption) ?_ | refine some_stable (by assumption) ?_
      | refine some_stable2 (by assumption) ?_ | refine snd2_stable (by assumption) ?_ | refine ‹P _ → P _› ?_
      | refine ‹P _ → OptS P _› ?_ | refine ‹∀ t, P t → OptS P _› _ ?_ | dsimp +zetaDelta only | dsimp only)

theorem programStart_stable (hP : StableIn P free) {x0 x1} (h1 : P x1) : P (programStart x0 x1) := by
  unfold programStart
  try dsimp only
  with_reducible repeat' first
      | assumption | intro _ | apply hP.put | apply programLines_stable hP | apply voidToken_stable hP
      | apply State.putFlash_stable hP | apply ite_stable (P := P) | apply ite_st (P := P) | apply ite_sec (P := P)
      | apply ite_snd (P := P) | apply ite_snd2 (P := P) | apply ite_fst (P := P) | apply OptS.some (P := P)
      | exact OptS.none | apply OptS2.some (P := P) | exact OptS2.none | apply OptS.bind (P := P)
      | apply OptS.bind2 (P := P) | apply OptS.map (P := P) | apply OptS.map0 (P := P) | apply OptS2.map (P := P)
      | apply OptS.getD (P := P) | apply OptS.ite (P := P) | apply OptS2.ite (P := P) | apply id_stable (P := P)
      | apply foldl_stable (P := P) | apply foldl_stable2 (P := P) | apply foldl_stable1 (P := P) | split
      | refine snd2_stable (by assumption) ?_ | refine snd_stable (by assumption) ?_
      | refine fst_stable (by assumption) ?_ | refine some_stable (by assumption) ?_
      | refine some_stable2 (by assumption) ?_ | dsimp only

theorem execProgramLine_stable (hP : StableIn P free) {x0} (h0 : P x0) : OutS P (execProgramLine x0) := by
  unfold execProgramLine
  try dsimp only
  with_reducible repeat' first
      | assumption | intro _ | apply withDesc_stable hP | apply programStart_stable hP | apply OutS.next (P := P)
      | dsimp only

theorem execProgramRange_stable (hP : StableIn P free) {x0} (h0 : P x0) : OutS P (execProgramRange x0) := by
  unfold execProgramRange
  try dsimp only
  with_reducible repeat' first
      | assumption | intro _ | apply withDesc_stable hP | apply programStart_stable hP | apply OutS.next (P := P)
      | dsimp only

theorem eraseStart_stable (hP : StableIn P free) {x0 x1} (h1 : P x1) : P (eraseStart x0 x1) := by
  unfold eraseStart
  try dsimp only
  with_reducible repeat' first
      | assumption | intro _ | apply hP.put | apply State.putFlash_stable hP | apply ite_stable (P := P) | dsimp only

theorem execEraseSector_stable (hP : StableIn P free) {x0} (h0 : P x0) : OutS P (execEraseSector x0) := by
  unfold execEraseSector
  try dsimp only
  with_reducible repeat' first
      | assumption | intro _ | apply withDesc_stable hP | apply eraseStart_stable hP | apply OutS.next (P := P)
      | dsimp only

theorem execEraseBank_stable (hP : StableIn P free) {x0} (h0 : P x0) : OutS P (execEraseBank x0) := by
  unfold execEraseBank
  try dsimp only
  with_reducible repeat' first
      | assumption | intro _ | apply withDesc_stable hP | apply eraseStart_stable hP | apply OutS.next (P := P)
      | dsimp only

theorem execBlankCheck_stable (hP : StableIn P free) {x0} (h0 : P x0) : OutS P (execBlankCheck x0) := by
  unfold execBlankCheck
  try dsimp only
  with_reducible repeat' first
      | assumption | intro _ | apply flashFinish_stable hP | apply withDesc_stable hP | apply readLines_stable hP
      | apply OutS.next (P := P) | exact OutS.fault | apply OutS.ite (P := P) | apply ite_stable (P := P)
      | apply ite_st (P := P) | apply ite_sec (P := P) | apply ite_snd (P := P) | apply ite_snd2 (P := P)
      | apply ite_fst (P := P) | apply OptS.some (P := P) | exact OptS.none | apply OptS2.some (P := P)
      | exact OptS2.none | apply OptS.bind (P := P) | apply OptS.bind2 (P := P) | apply OptS.map (P := P)
      | apply OptS.map0 (P := P) | apply OptS2.map (P := P) | apply OptS.getD (P := P) | apply OptS.ite (P := P)
      | apply OptS2.ite (P := P) | apply id_stable (P := P) | apply foldl_stable (P := P)
      | apply foldl_stable2 (P := P) | apply foldl_stable1 (P := P) | split | refine snd2_stable (by assumption) ?_
      | refine snd_stable (by assumption) ?_ | refine fst_stable (by assumption) ?_
      | refine some_stable (by assumption) ?_ | refine some_stable2 (by assumption) ?_ | dsimp only

theorem execMarginRead_stable (hP : StableIn P free) {x0 x1} (h1 : P x1) : OutS P (execMarginRead x0 x1) := by
  unfold execMarginRead
  try dsimp only
  with_reducible repeat' first
      | assumption | intro _ | apply flashFinish_stable hP | apply withDesc_stable hP | apply readLines_stable hP
      | apply OutS.next (P := P) | exact OutS.fault | apply OutS.ite (P := P) | apply ite_stable (P := P)
      | apply ite_st (P := P) | apply ite_sec (P := P) | apply ite_snd (P := P) | apply ite_snd2 (P := P)
      | apply ite_fst (P := P) | apply OptS.some (P := P) | exact OptS.none | apply OptS2.some (P := P)
      | exact OptS2.none | apply OptS.bind (P := P) | apply OptS.bind2 (P := P) | apply OptS.map (P := P)
      | apply OptS.map0 (P := P) | apply OptS2.map (P := P) | apply OptS.getD (P := P) | apply OptS.ite (P := P)
      | apply OptS2.ite (P := P) | apply id_stable (P := P) | apply foldl_stable (P := P)
      | apply foldl_stable2 (P := P) | apply foldl_stable1 (P := P) | split | refine snd2_stable (by assumption) ?_
      | refine snd_stable (by assumption) ?_ | refine fst_stable (by assumption) ?_
      | refine some_stable (by assumption) ?_ | refine some_stable2 (by assumption) ?_ | dsimp only

theorem execSuspend_stable (hP : StableIn P free) {x0} (h0 : P x0) : OutS P (execSuspend x0) := by
  unfold execSuspend
  try dsimp only
  with_reducible repeat' first
      | assumption | intro _ | apply withDesc_stable hP | apply flashFinish_stable hP | apply OutS.next (P := P)
      | apply ite_stable (P := P) | apply OutS.ite (P := P) | dsimp only

theorem execResume_stable (hP : StableIn P free) {x0} (h0 : P x0) : OutS P (execResume x0) := by
  unfold execResume
  try dsimp only
  with_reducible repeat' first
      | assumption | intro _ | apply hP.put | apply withDesc_stable hP | apply flashFinish_stable hP
      | apply State.putFlash_stable hP | apply OutS.next (P := P) | dsimp only

theorem execEraseHalted_stable (hP : StableIn P free) {x0} (h0 : P x0) : OutS P (execEraseHalted x0) := by
  unfold execEraseHalted
  try dsimp only
  with_reducible repeat' first
      | assumption | intro _ | apply hP.put | apply withDesc_stable hP | apply flashFinish_stable hP
      | apply State.putFlash_stable hP | apply OutS.next (P := P) | dsimp only

theorem eraseSector_stable (hP : StableIn P free) {x0 x1 x2} (h2 : P x2) : P (eraseSector x0 x1 x2) := by
  unfold eraseSector
  try dsimp only
  with_reducible repeat' first
      | assumption | intro _ | apply voidToken_stable hP | apply State.setMarks_stable hP
      | apply State.setFlash_stable hP | apply hP.mem | dsimp only

theorem eraseOne_stable (hP : StableIn P free) {x0 x1 x2 x3} (h2 : P x2.2) : P (eraseOne x0 x1 x2 x3).2 := by
  unfold eraseOne
  try dsimp only
  with_reducible repeat' first
      | assumption | intro _ | apply eraseSector_stable hP | apply State.setFlash_stable hP
      | apply State.report_stable hP | apply State.incSat_stable hP | apply ite_stable (P := P) | apply ite_snd (P := P)
      | split | refine snd_stable (by assumption) ?_ | refine fst_stable (by assumption) ?_
      | refine some_stable (by assumption) ?_ | refine some_stable2 (by assumption) ?_
      | refine snd2_stable (by assumption) ?_ | dsimp only

theorem storeWear_stable (hP : StableIn P free) {x0} (h0 : P x0) : P (storeWear x0) := by
  unfold storeWear
  try dsimp only
  with_reducible repeat' first
      | assumption | intro _ | apply hP.put | apply State.setRecs_stable hP | apply State.report_stable hP
      | apply ite_stable (P := P) | dsimp only

theorem storeRetire_stable (hP : StableIn P free) {x0 x1} (h1 : P x1) : P (storeRetire x0 x1) := by
  unfold storeRetire
  try dsimp only
  with_reducible repeat' first
      | assumption | intro _ | apply hP.put | apply storeWear_stable hP | apply State.putFlash_stable hP | dsimp only

theorem storeErased_stable (hP : StableIn P free) {x0 x1 x2} (h2 : P x2) : P (storeErased x0 x1 x2) := by
  unfold storeErased
  try dsimp only
  with_reducible repeat' first
      | assumption | intro _ | apply hP.put | apply State.setRecs_stable hP | apply State.putRecs_stable hP
      | apply storeRetire_stable hP | apply wearShow_stable hP | apply ite_stable (P := P) | apply ite_st (P := P)
      | apply ite_sec (P := P) | apply ite_snd (P := P) | apply ite_snd2 (P := P) | apply ite_fst (P := P)
      | apply id_stable (P := P) | dsimp only

theorem internalErased_stable (hP : StableIn P free) {x0 x1 x2} (h2 : P x2) : P (internalErased x0 x1 x2) := by
  unfold internalErased
  try dsimp only
  with_reducible repeat' first
      | assumption | intro _ | apply hP.put | apply eraseSector_stable hP | apply State.putFlash_stable hP
      | apply load_stable hP | apply storeErased_stable hP | apply ite_stable (P := P) | apply ite_st (P := P)
      | apply ite_sec (P := P) | apply ite_snd (P := P) | apply ite_snd2 (P := P) | apply ite_fst (P := P)
      | apply OptS.some (P := P) | exact OptS.none | apply OptS2.some (P := P) | exact OptS2.none
      | apply OptS.bind (P := P) | apply OptS.bind2 (P := P) | apply OptS.map (P := P) | apply OptS.map0 (P := P)
      | apply OptS2.map (P := P) | apply OptS.getD (P := P) | apply OptS.ite (P := P) | apply OptS2.ite (P := P)
      | apply id_stable (P := P) | apply foldl_stable (P := P) | apply foldl_stable2 (P := P)
      | apply foldl_stable1 (P := P) | split | refine snd2_stable (by assumption) ?_
      | refine snd_stable (by assumption) ?_ | refine fst_stable (by assumption) ?_
      | refine some_stable (by assumption) ?_ | refine some_stable2 (by assumption) ?_ | dsimp only

theorem eraseComplete_stable (hP : StableIn P free) {x0 x1 x2} (h2 : P x2) : P (eraseComplete x0 x1 x2) := by
  unfold eraseComplete
  try dsimp only
  with_reducible repeat' first
      | assumption | intro _ | apply State.setFlash_stable hP | apply eraseOne_stable hP | apply flashComplete_stable hP
      | apply flashShow_stable hP | apply internalErased_stable hP | apply foldl_stable (P := P)
      | apply foldl_stable2 (P := P) | apply foldl_stable1 (P := P) | split | refine snd_stable (by assumption) ?_
      | refine fst_stable (by assumption) ?_ | refine some_stable (by assumption) ?_
      | refine some_stable2 (by assumption) ?_ | refine snd2_stable (by assumption) ?_ | dsimp only

theorem execEraseComplete_stable (hP : StableIn P free) {x0 x1 x2} (h2 : P x2) : OutS P (execEraseComplete x0 x1 x2) := by
  unfold execEraseComplete
  try dsimp only
  with_reducible repeat' first
      | assumption | intro _ | apply eraseComplete_stable hP | apply load_stable hP | apply OutS.next (P := P)
      | exact OutS.fault | apply OutS.ite (P := P) | apply ite_stable (P := P) | apply ite_st (P := P)
      | apply ite_sec (P := P) | apply ite_snd (P := P) | apply ite_snd2 (P := P) | apply ite_fst (P := P)
      | apply OptS.some (P := P) | exact OptS.none | apply OptS2.some (P := P) | exact OptS2.none
      | apply OptS.bind (P := P) | apply OptS.bind2 (P := P) | apply OptS.map (P := P) | apply OptS.map0 (P := P)
      | apply OptS2.map (P := P) | apply OptS.getD (P := P) | apply OptS.ite (P := P) | apply OptS2.ite (P := P)
      | apply id_stable (P := P) | apply foldl_stable (P := P) | apply foldl_stable2 (P := P)
      | apply foldl_stable1 (P := P) | split | refine snd2_stable (by assumption) ?_
      | refine snd_stable (by assumption) ?_ | refine fst_stable (by assumption) ?_
      | refine some_stable (by assumption) ?_ | refine some_stable2 (by assumption) ?_ | dsimp only

theorem State.writeLines_stable (hP : StableIn P free) {x0 x1 x2} (h0 : P x0) : P (State.writeLines x0 x1 x2) := by
  fun_induction State.writeLines x0 x1 x2 <;> (with_reducible repeat' first
      | assumption | intro _ | apply hP.wr | apply State.programLine_stable hP | split
      | refine snd_stable (by assumption) ?_ | refine fst_stable (by assumption) ?_
      | refine some_stable (by assumption) ?_ | refine some_stable2 (by assumption) ?_
      | refine snd2_stable (by assumption) ?_ | refine ‹P _ → P _› ?_ | refine ‹P _ → OptS P _› ?_
      | refine ‹∀ t, P t → OptS P _› _ ?_ | dsimp +zetaDelta only | dsimp only)

theorem relocate_stable (hP : StableIn P free) {x0 x1 x2 x3} (h3 : P x3) : P (relocate x0 x1 x2 x3) := by
  unfold relocate
  try dsimp only
  with_reducible repeat' first
      | assumption | intro _ | apply hP.put | apply State.setMarks_stable hP | apply dirty_stable hP
      | apply voidToken_stable hP | apply State.putFlash_stable hP | apply ite_stable (P := P) | apply ite_st (P := P)
      | apply ite_sec (P := P) | apply ite_snd (P := P) | apply ite_snd2 (P := P) | apply ite_fst (P := P)
      | apply id_stable (P := P) | dsimp only

theorem copyRead_stable (hP : StableIn P free) {x0 x1 x2} (h2 : P x2) : P (copyRead x0 x1 x2) := by
  unfold copyRead
  try dsimp only
  with_reducible repeat' first
      | assumption | intro _ | apply readLines_stable hP | apply ite_stable (P := P) | apply ite_st (P := P)
      | apply ite_sec (P := P) | apply ite_snd (P := P) | apply ite_snd2 (P := P) | apply ite_fst (P := P)
      | apply id_stable (P := P) | dsimp only

theorem programBad_stable (hP : StableIn P free) {x0 x1 x2} (h1 : P x1.2) : P (programBad x0 x1 x2).2 := by
  unfold programBad
  try dsimp only
  with_reducible repeat' first
      | assumption | intro _ | apply copyRead_stable hP | apply relocate_stable hP | apply State.incSat_stable hP
      | apply State.report_stable hP | apply ite_stable (P := P) | apply ite_st (P := P) | apply ite_sec (P := P)
      | apply ite_snd (P := P) | apply ite_snd2 (P := P) | apply ite_fst (P := P) | apply OptS.some (P := P)
      | exact OptS.none | apply OptS2.some (P := P) | exact OptS2.none | apply OptS.bind (P := P)
      | apply OptS.bind2 (P := P) | apply OptS.map (P := P) | apply OptS.map0 (P := P) | apply OptS2.map (P := P)
      | apply OptS.getD (P := P) | apply OptS.ite (P := P) | apply OptS2.ite (P := P) | apply id_stable (P := P)
      | apply foldl_stable (P := P) | apply foldl_stable2 (P := P) | apply foldl_stable1 (P := P) | split
      | refine snd2_stable (by assumption) ?_ | refine snd_stable (by assumption) ?_
      | refine fst_stable (by assumption) ?_ | refine some_stable (by assumption) ?_
      | refine some_stable2 (by assumption) ?_ | dsimp only

theorem execProgramComplete_stable (hP : StableIn P free) {x0 x1} (h1 : P x1) : OutS P (execProgramComplete x0 x1) := by
  unfold execProgramComplete
  try dsimp only
  with_reducible repeat' first
      | assumption | intro _ | apply flashFinish_stable hP | apply State.writeLines_stable hP
      | apply programBad_stable hP | apply OutS.next (P := P) | exact OutS.fault | apply OutS.ite (P := P)
      | apply ite_stable (P := P) | apply ite_st (P := P) | apply ite_sec (P := P) | apply ite_snd (P := P)
      | apply ite_snd2 (P := P) | apply ite_fst (P := P) | apply OptS.some (P := P) | exact OptS.none
      | apply OptS2.some (P := P) | exact OptS2.none | apply OptS.bind (P := P) | apply OptS.bind2 (P := P)
      | apply OptS.map (P := P) | apply OptS.map0 (P := P) | apply OptS2.map (P := P) | apply OptS.getD (P := P)
      | apply OptS.ite (P := P) | apply OptS2.ite (P := P) | apply id_stable (P := P) | apply foldl_stable (P := P)
      | apply foldl_stable2 (P := P) | apply foldl_stable1 (P := P) | split | refine snd2_stable (by assumption) ?_
      | refine snd_stable (by assumption) ?_ | refine fst_stable (by assumption) ?_
      | refine some_stable (by assumption) ?_ | refine some_stable2 (by assumption) ?_ | dsimp only

theorem scanNext_stable (hP : StableIn P free) {x0} (h0 : P x0) : P (scanNext x0) := by
  unfold scanNext
  try dsimp only
  with_reducible repeat' first
      | assumption | intro _ | apply hP.put | apply State.inc_stable hP | apply ite_stable (P := P) | dsimp only

theorem scanRead_stable (hP : StableIn P free) {x0 x1 x2} (h2 : P x2) : P (scanRead x0 x1 x2) := by
  unfold scanRead
  try dsimp only
  with_reducible repeat' first
      | assumption | intro _ | apply readLines_stable hP | apply ite_stable (P := P) | apply ite_st (P := P)
      | apply ite_sec (P := P) | apply ite_snd (P := P) | apply ite_snd2 (P := P) | apply ite_fst (P := P)
      | apply id_stable (P := P) | dsimp only

theorem execFlashScan_stable (hP : StableIn P free) {x0 x1 x2} (h1 : P x1) : OutS P (execFlashScan x0 x1 x2) := by
  unfold execFlashScan
  try dsimp only
  with_reducible repeat' first
      | assumption | intro _ | apply scanRead_stable hP | apply scanNext_stable hP | apply queueReloc_stable hP
      | apply State.strike_stable hP | apply OutS.next (P := P) | exact OutS.fault | apply OutS.ite (P := P)
      | apply ite_stable (P := P) | apply ite_st (P := P) | apply ite_sec (P := P) | apply ite_snd (P := P)
      | apply ite_snd2 (P := P) | apply ite_fst (P := P) | apply OptS.some (P := P) | exact OptS.none
      | apply OptS2.some (P := P) | exact OptS2.none | apply OptS.bind (P := P) | apply OptS.bind2 (P := P)
      | apply OptS.map (P := P) | apply OptS.map0 (P := P) | apply OptS2.map (P := P) | apply OptS.getD (P := P)
      | apply OptS.ite (P := P) | apply OptS2.ite (P := P) | apply id_stable (P := P) | apply foldl_stable (P := P)
      | apply foldl_stable2 (P := P) | apply foldl_stable1 (P := P) | split | refine snd2_stable (by assumption) ?_
      | refine snd_stable (by assumption) ?_ | refine fst_stable (by assumption) ?_
      | refine some_stable (by assumption) ?_ | refine some_stable2 (by assumption) ?_ | dsimp only

theorem spareErase_stable (hP : StableIn P free) {x0 x1} (h1 : P x1) : P (spareErase x0 x1) := by
  unfold spareErase
  try dsimp only
  with_reducible repeat' first
      | assumption | intro _ | apply hP.put | apply dirty_stable hP | apply State.putFlash_stable hP
      | apply ite_stable (P := P) | apply ite_st (P := P) | apply ite_sec (P := P) | apply ite_snd (P := P)
      | apply ite_snd2 (P := P) | apply ite_fst (P := P) | apply OptS.some (P := P) | exact OptS.none
      | apply OptS2.some (P := P) | exact OptS2.none | apply OptS.bind (P := P) | apply OptS.bind2 (P := P)
      | apply OptS.map (P := P) | apply OptS.map0 (P := P) | apply OptS2.map (P := P) | apply OptS.getD (P := P)
      | apply OptS.ite (P := P) | apply OptS2.ite (P := P) | apply id_stable (P := P) | apply foldl_stable (P := P)
      | apply foldl_stable2 (P := P) | apply foldl_stable1 (P := P) | split | refine snd2_stable (by assumption) ?_
      | refine snd_stable (by assumption) ?_ | refine fst_stable (by assumption) ?_
      | refine some_stable (by assumption) ?_ | refine some_stable2 (by assumption) ?_ | dsimp only

theorem relocateStart_stable (hP : StableIn P free) {x0 x1} (h1 : P x1) : P (relocateStart x0 x1) := by
  unfold relocateStart
  try dsimp only
  with_reducible repeat' first
      | assumption | intro _ | apply hP.put | apply State.putFlash_stable hP | apply copyRead_stable hP
      | apply ite_stable (P := P) | apply ite_st (P := P) | apply ite_sec (P := P) | apply ite_snd (P := P)
      | apply ite_snd2 (P := P) | apply ite_fst (P := P) | apply OptS.some (P := P) | exact OptS.none
      | apply OptS2.some (P := P) | exact OptS2.none | apply OptS.bind (P := P) | apply OptS.bind2 (P := P)
      | apply OptS.map (P := P) | apply OptS.map0 (P := P) | apply OptS2.map (P := P) | apply OptS.getD (P := P)
      | apply OptS.ite (P := P) | apply OptS2.ite (P := P) | apply id_stable (P := P) | apply foldl_stable (P := P)
      | apply foldl_stable2 (P := P) | apply foldl_stable1 (P := P) | split | refine snd2_stable (by assumption) ?_
      | refine snd_stable (by assumption) ?_ | refine fst_stable (by assumption) ?_
      | refine some_stable (by assumption) ?_ | refine some_stable2 (by assumption) ?_ | dsimp only

theorem flashResume_stable (hP : StableIn P free) {x0 x1 x2} (h2 : P x2) : P (flashResume x0 x1 x2) := by
  unfold flashResume
  try dsimp only
  with_reducible repeat' first
      | assumption | intro _ | apply flashJudge_stable hP | apply ite_stable (P := P) | apply ite_st (P := P)
      | apply ite_sec (P := P) | apply ite_snd (P := P) | apply ite_snd2 (P := P) | apply ite_fst (P := P)
      | apply OptS.some (P := P) | exact OptS.none | apply OptS2.some (P := P) | exact OptS2.none
      | apply OptS.bind (P := P) | apply OptS.bind2 (P := P) | apply OptS.map (P := P) | apply OptS.map0 (P := P)
      | apply OptS2.map (P := P) | apply OptS.getD (P := P) | apply OptS.ite (P := P) | apply OptS2.ite (P := P)
      | apply id_stable (P := P) | apply foldl_stable (P := P) | apply foldl_stable2 (P := P)
      | apply foldl_stable1 (P := P) | split | refine snd2_stable (by assumption) ?_
      | refine snd_stable (by assumption) ?_ | refine fst_stable (by assumption) ?_
      | refine some_stable (by assumption) ?_ | refine some_stable2 (by assumption) ?_ | dsimp only

theorem relocateCommit_stable (hP : StableIn P free) {x0 x1} (h1 : P x1) : P (relocateCommit x0 x1) := by
  unfold relocateCommit
  try dsimp only
  with_reducible repeat' first
      | assumption | intro _ | apply State.setFlash_stable hP | apply flashResume_stable hP | apply relocate_stable hP
      | apply State.incSat_stable hP | apply ite_stable (P := P) | apply ite_st (P := P) | apply ite_sec (P := P)
      | apply ite_snd (P := P) | apply ite_snd2 (P := P) | apply ite_fst (P := P) | apply id_stable (P := P)
      | dsimp only

theorem execRelocate_stable (hP : StableIn P free) {x0 x1} (h1 : P x1) : OutS P (execRelocate x0 x1) := by
  unfold execRelocate
  try dsimp only
  with_reducible repeat' first
      | assumption | intro _ | apply relocateStart_stable hP | apply relocateCommit_stable hP
      | apply spareErase_stable hP | apply OutS.next (P := P) | exact OutS.fault | apply OutS.ite (P := P)
      | apply ite_stable (P := P) | apply ite_st (P := P) | apply ite_sec (P := P) | apply ite_snd (P := P)
      | apply ite_snd2 (P := P) | apply ite_fst (P := P) | apply OptS.some (P := P) | exact OptS.none
      | apply OptS2.some (P := P) | exact OptS2.none | apply OptS.bind (P := P) | apply OptS.bind2 (P := P)
      | apply OptS.map (P := P) | apply OptS.map0 (P := P) | apply OptS2.map (P := P) | apply OptS.getD (P := P)
      | apply OptS.ite (P := P) | apply OptS2.ite (P := P) | apply id_stable (P := P) | apply foldl_stable (P := P)
      | apply foldl_stable2 (P := P) | apply foldl_stable1 (P := P) | split | refine snd2_stable (by assumption) ?_
      | refine snd_stable (by assumption) ?_ | refine fst_stable (by assumption) ?_
      | refine some_stable (by assumption) ?_ | refine some_stable2 (by assumption) ?_ | dsimp only

theorem execRecordRead_stable (hP : StableIn P free) {x0 x1 x2} (h2 : P x2) : OutS P (execRecordRead x0 x1 x2) := by
  unfold execRecordRead
  try dsimp only
  with_reducible repeat' first
      | assumption | intro _ | apply afterTokens_stable hP | apply onIsland_stable hP | apply recordCtlWrite_stable hP
      | apply OutS.next (P := P) | exact OutS.fault | apply OutS.ite (P := P) | apply ite_stable (P := P)
      | apply ite_st (P := P) | apply ite_sec (P := P) | apply ite_snd (P := P) | apply ite_snd2 (P := P)
      | apply ite_fst (P := P) | apply id_stable (P := P) | dsimp only

theorem execRecordWrite_stable (hP : StableIn P free) {x0 x1 x2} (h2 : P x2) : OutS P (execRecordWrite x0 x1 x2) := by
  unfold execRecordWrite
  try dsimp only
  with_reducible repeat' first
      | assumption | intro _ | apply afterTokens_stable hP | apply onIsland_stable hP | apply recordCtlWrite_stable hP
      | apply OutS.next (P := P) | exact OutS.fault | apply OutS.ite (P := P) | apply ite_stable (P := P)
      | apply ite_st (P := P) | apply ite_sec (P := P) | apply ite_snd (P := P) | apply ite_snd2 (P := P)
      | apply ite_fst (P := P) | apply id_stable (P := P) | dsimp only

theorem execRecordDelete_stable (hP : StableIn P free) {x0 x1 x2} (h2 : P x2) : OutS P (execRecordDelete x0 x1 x2) := by
  unfold execRecordDelete
  try dsimp only
  with_reducible repeat' first
      | assumption | intro _ | apply afterTokens_stable hP | apply onIsland_stable hP | apply recordCtlWrite_stable hP
      | apply OutS.next (P := P) | exact OutS.fault | apply OutS.ite (P := P) | apply ite_stable (P := P)
      | apply ite_st (P := P) | apply ite_sec (P := P) | apply ite_snd (P := P) | apply ite_snd2 (P := P)
      | apply ite_fst (P := P) | apply id_stable (P := P) | dsimp only

theorem execRecordCmdDone_stable (hP : StableIn P free) {x0} (h0 : P x0) : OutS P (execRecordCmdDone x0) := by
  unfold execRecordCmdDone
  try dsimp only
  with_reducible repeat' first
      | assumption | intro _ | apply recordEnd_stable hP | apply OutS.next (P := P) | exact OutS.fault
      | apply OutS.ite (P := P) | apply ite_stable (P := P) | apply ite_st (P := P) | apply ite_sec (P := P)
      | apply ite_snd (P := P) | apply ite_snd2 (P := P) | apply ite_fst (P := P) | apply id_stable (P := P)
      | dsimp only

theorem storeCheckLast_stable (hP : StableIn P free) {x0 x1} (h1 : P x1) : P (storeCheckLast x0 x1) := by
  unfold storeCheckLast
  try dsimp only
  with_reducible repeat' first
      | assumption | intro _ | apply State.setRecs_stable hP | apply lineRead_stable hP | apply State.report_stable hP
      | apply storeProgram_stable hP | apply ite_stable (P := P) | apply ite_st (P := P) | apply ite_sec (P := P)
      | apply ite_snd (P := P) | apply ite_snd2 (P := P) | apply ite_fst (P := P) | apply OptS.some (P := P)
      | exact OptS.none | apply OptS2.some (P := P) | exact OptS2.none | apply OptS.bind (P := P)
      | apply OptS.bind2 (P := P) | apply OptS.map (P := P) | apply OptS.map0 (P := P) | apply OptS2.map (P := P)
      | apply OptS.getD (P := P) | apply OptS.ite (P := P) | apply OptS2.ite (P := P) | apply id_stable (P := P)
      | apply foldl_stable (P := P) | apply foldl_stable2 (P := P) | apply foldl_stable1 (P := P) | split
      | refine snd2_stable (by assumption) ?_ | refine snd_stable (by assumption) ?_
      | refine fst_stable (by assumption) ?_ | refine some_stable (by assumption) ?_
      | refine some_stable2 (by assumption) ?_ | dsimp only

theorem storeReadAll_stable (hP : StableIn P free) {x0 x1 x2} (h2 : P x2) : P (storeReadAll x0 x1 x2) := by
  unfold storeReadAll
  try dsimp only
  with_reducible repeat' first
      | assumption | intro _ | apply lineRead_stable hP | apply ite_stable (P := P) | apply ite_st (P := P)
      | apply ite_sec (P := P) | apply ite_snd (P := P) | apply ite_snd2 (P := P) | apply ite_fst (P := P)
      | apply OptS.some (P := P) | exact OptS.none | apply OptS2.some (P := P) | exact OptS2.none
      | apply OptS.bind (P := P) | apply OptS.bind2 (P := P) | apply OptS.map (P := P) | apply OptS.map0 (P := P)
      | apply OptS2.map (P := P) | apply OptS.getD (P := P) | apply OptS.ite (P := P) | apply OptS2.ite (P := P)
      | apply id_stable (P := P) | apply foldl_stable (P := P) | apply foldl_stable2 (P := P)
      | apply foldl_stable1 (P := P) | split | refine snd2_stable (by assumption) ?_
      | refine snd_stable (by assumption) ?_ | refine fst_stable (by assumption) ?_
      | refine some_stable (by assumption) ?_ | refine some_stable2 (by assumption) ?_ | dsimp only

theorem storeBuild_stable (hP : StableIn P free) {x0 x1} (h1 : P x1) : P (storeBuild x0 x1) := by
  unfold storeBuild
  try dsimp only
  with_reducible repeat' first
      | assumption | intro _ | apply hP.put | apply State.putRecs_stable hP | apply storeWear_stable hP
      | apply wearShow_stable hP | apply storeCheckLast_stable hP | apply storeReadAll_stable hP
      | apply ite_stable (P := P) | apply ite_st (P := P) | apply ite_sec (P := P) | apply ite_snd (P := P)
      | apply ite_snd2 (P := P) | apply ite_fst (P := P) | apply OptS.some (P := P) | exact OptS.none
      | apply OptS2.some (P := P) | exact OptS2.none | apply OptS.bind (P := P) | apply OptS.bind2 (P := P)
      | apply OptS.map (P := P) | apply OptS.map0 (P := P) | apply OptS2.map (P := P) | apply OptS.getD (P := P)
      | apply OptS.ite (P := P) | apply OptS2.ite (P := P) | apply id_stable (P := P) | apply foldl_stable (P := P)
      | apply foldl_stable2 (P := P) | apply foldl_stable1 (P := P) | split | refine snd2_stable (by assumption) ?_
      | refine snd_stable (by assumption) ?_ | refine fst_stable (by assumption) ?_
      | refine some_stable (by assumption) ?_ | refine some_stable2 (by assumption) ?_ | dsimp only

theorem execStoreBuildDone_stable (hP : StableIn P free) {x0 x1} (h1 : P x1) : OutS P (execStoreBuildDone x0 x1) := by
  unfold execStoreBuildDone
  try dsimp only
  with_reducible repeat' first
      | assumption | intro _ | apply storeBuild_stable hP | apply OutS.next (P := P) | apply ite_stable (P := P)
      | apply OutS.ite (P := P) | dsimp only

theorem storeEraseStart_stable (hP : StableIn P free) {x0 x1} (h1 : P x1) : P (storeEraseStart x0 x1) := by
  unfold storeEraseStart
  try dsimp only
  with_reducible repeat' first
      | assumption | intro _ | apply hP.put | apply State.putFlash_stable hP | dsimp only

theorem storeCopyOut_stable (hP : StableIn P free) {x0 x1 x2} (h2 : P x2) : OptS P (storeCopyOut x0 x1 x2) := by
  induction x1 generalizing x2 with
  | nil => exact OptS.some (P := P) h2
  | cons r t ih =>
    unfold storeCopyOut
    dsimp only
    with_reducible repeat' first
      | assumption | intro _ | apply ih | apply storeFetch_stable hP | apply storeProgram_stable hP
      | apply OptS.bind (P := P) | apply OptS.ite (P := P) | split

theorem storeReclaim_stable (hP : StableIn P free) {x0 x1} (h1 : P x1) : P (storeReclaim x0 x1) := by
  unfold storeReclaim
  try dsimp only
  with_reducible repeat' first
      | assumption | intro _ | apply State.setRecs_stable hP | apply lineRead_stable hP
      | apply storeEraseStart_stable hP | apply storeCopyOut_stable hP | apply ite_stable (P := P)
      | apply ite_st (P := P) | apply ite_sec (P := P) | apply ite_snd (P := P) | apply ite_snd2 (P := P)
      | apply ite_fst (P := P) | apply OptS.some (P := P) | exact OptS.none | apply OptS2.some (P := P)
      | exact OptS2.none | apply OptS.bind (P := P) | apply OptS.bind2 (P := P) | apply OptS.map (P := P)
      | apply OptS.map0 (P := P) | apply OptS2.map (P := P) | apply OptS.getD (P := P) | apply OptS.ite (P := P)
      | apply OptS2.ite (P := P) | apply id_stable (P := P) | apply foldl_stable (P := P)
      | apply foldl_stable2 (P := P) | apply foldl_stable1 (P := P) | split | refine snd2_stable (by assumption) ?_
      | refine snd_stable (by assumption) ?_ | refine fst_stable (by assumption) ?_
      | refine some_stable (by assumption) ?_ | refine some_stable2 (by assumption) ?_ | dsimp only

theorem execStoreReclaim_stable (hP : StableIn P free) {x0} (h0 : P x0) : OutS P (execStoreReclaim x0) := by
  unfold execStoreReclaim
  try dsimp only
  with_reducible repeat' first
      | assumption | intro _ | apply storeEraseStart_stable hP | apply storeReclaim_stable hP
      | apply OutS.next (P := P) | exact OutS.fault | apply OutS.ite (P := P) | apply ite_stable (P := P)
      | apply ite_st (P := P) | apply ite_sec (P := P) | apply ite_snd (P := P) | apply ite_snd2 (P := P)
      | apply ite_fst (P := P) | apply OptS.some (P := P) | exact OptS.none | apply OptS2.some (P := P)
      | exact OptS2.none | apply OptS.bind (P := P) | apply OptS.bind2 (P := P) | apply OptS.map (P := P)
      | apply OptS.map0 (P := P) | apply OptS2.map (P := P) | apply OptS.getD (P := P) | apply OptS.ite (P := P)
      | apply OptS2.ite (P := P) | apply id_stable (P := P) | apply foldl_stable (P := P)
      | apply foldl_stable2 (P := P) | apply foldl_stable1 (P := P) | split | refine snd2_stable (by assumption) ?_
      | refine snd_stable (by assumption) ?_ | refine fst_stable (by assumption) ?_
      | refine some_stable (by assumption) ?_ | refine some_stable2 (by assumption) ?_ | dsimp only

theorem execRaise1_stable (hP : StableIn P free) {x0 x1} (h1 : P x1) : OutS P (execRaise1 x0 x1) := by
  unfold execRaise1
  try dsimp only
  with_reducible repeat' first
      | assumption | intro _ | apply afterTokens_stable hP | apply onIsland_stable hP | apply rdpCommand_stable hP
      | apply OutS.next (P := P) | exact OutS.fault | apply OutS.ite (P := P) | apply ite_stable (P := P)
      | apply ite_st (P := P) | apply ite_sec (P := P) | apply ite_snd (P := P) | apply ite_snd2 (P := P)
      | apply ite_fst (P := P) | apply id_stable (P := P) | dsimp only

theorem execRaise2_stable (hP : StableIn P free) {x0 x1} (h1 : P x1) : OutS P (execRaise2 x0 x1) := by
  unfold execRaise2
  try dsimp only
  with_reducible repeat' first
      | assumption | intro _ | apply afterTokens_stable hP | apply onIsland_stable hP | apply rdpCommand_stable hP
      | apply OutS.next (P := P) | exact OutS.fault | apply OutS.ite (P := P) | apply ite_stable (P := P)
      | apply ite_st (P := P) | apply ite_sec (P := P) | apply ite_snd (P := P) | apply ite_snd2 (P := P)
      | apply ite_fst (P := P) | apply id_stable (P := P) | dsimp only

theorem execLower0_stable (hP : StableIn P free) {x0 x1} (h1 : P x1) : OutS P (execLower0 x0 x1) := by
  unfold execLower0
  try dsimp only
  with_reducible repeat' first
      | assumption | intro _ | apply afterTokens_stable hP | apply onIsland_stable hP | apply rdpCommand_stable hP
      | apply OutS.next (P := P) | exact OutS.fault | apply OutS.ite (P := P) | apply ite_stable (P := P)
      | apply ite_st (P := P) | apply ite_sec (P := P) | apply ite_snd (P := P) | apply ite_snd2 (P := P)
      | apply ite_fst (P := P) | apply id_stable (P := P) | dsimp only

theorem stopTimecode_stable (hP : StableIn P true) {x0} (h0 : P x0) : P (stopTimecode x0) := by
  unfold stopTimecode
  try dsimp only
  with_reducible repeat' first
      | assumption | intro _ | apply hP.put | apply State.setNow_stable hP | apply State.setTcRun_stable hP
      | apply ite_stable (P := P) | apply ite_st (P := P) | apply ite_sec (P := P) | apply ite_snd (P := P)
      | apply ite_snd2 (P := P) | apply ite_fst (P := P) | apply id_stable (P := P) | dsimp only

theorem coldNow_stable (hP : StableIn P true) {x0 x1} (h1 : P x1) : P (coldNow x0 x1) := by
  unfold coldNow
  try dsimp only
  with_reducible repeat' first
      | assumption | intro _ | apply State.setBoot_stable hP | apply stopTimecode_stable hP
      | apply ite_stable (P := P) | apply ite_st (P := P) | apply ite_sec (P := P) | apply ite_snd (P := P)
      | apply ite_snd2 (P := P) | apply ite_fst (P := P) | apply id_stable (P := P) | dsimp only

theorem execWipeDone_stable (hP : StableIn P true) {x0} (h0 : P x0) : OutS P (execWipeDone x0) := by
  unfold execWipeDone
  try dsimp only
  with_reducible repeat' first
      | assumption | intro _ | apply hP.put | apply State.setFlash_stable hP | apply coldNow_stable hP
      | apply setLevel'_stable hP | apply OutS.next (P := P) | exact OutS.fault | apply OutS.ite (P := P)
      | apply ite_stable (P := P) | apply ite_st (P := P) | apply ite_sec (P := P) | apply ite_snd (P := P)
      | apply ite_snd2 (P := P) | apply ite_fst (P := P) | apply id_stable (P := P) | dsimp only

theorem oddLine_stable (hP : StableIn P free) {x0 x1 x2} (h2 : P x2) : P (oddLine x0 x1 x2) := by
  unfold oddLine
  try dsimp only
  with_reducible repeat' first
      | assumption | intro _ | apply State.draw_stable hP | apply State.setFlash_stable hP
      | apply State.programLine_stable hP | apply State.setFree_stable hP | apply State.mark_stable hP | split
      | refine snd_stable (by assumption) ?_ | refine fst_stable (by assumption) ?_
      | refine some_stable (by assumption) ?_ | refine some_stable2 (by assumption) ?_
      | refine snd2_stable (by assumption) ?_ | dsimp only

theorem spoil_stable (hP : StableIn P free) {x0 x1 x2} (h2 : P x2) : P (spoil x0 x1 x2) := by
  unfold spoil
  try dsimp only
  with_reducible repeat' first
      | assumption | intro _ | apply State.mark_stable hP | apply ite_stable (P := P) | apply ite_st (P := P)
      | apply ite_sec (P := P) | apply ite_snd (P := P) | apply ite_snd2 (P := P) | apply ite_fst (P := P)
      | apply id_stable (P := P) | dsimp only

theorem oddCopy_stable (hP : StableIn P free) {x0} (h0 : P x0) : P (oddCopy x0) := by
  unfold oddCopy
  try dsimp only
  with_reducible repeat' first
      | assumption | intro _ | apply State.setRecs_stable hP | apply oddLine_stable hP | apply spoil_stable hP
      | apply storeRoom_stable hP | apply ite_stable (P := P) | apply ite_st (P := P) | apply ite_sec (P := P)
      | apply ite_snd (P := P) | apply ite_snd2 (P := P) | apply ite_fst (P := P) | apply OptS.some (P := P)
      | exact OptS.none | apply OptS2.some (P := P) | exact OptS2.none | apply OptS.bind (P := P)
      | apply OptS.bind2 (P := P) | apply OptS.map (P := P) | apply OptS.map0 (P := P) | apply OptS2.map (P := P)
      | apply OptS.getD (P := P) | apply OptS.ite (P := P) | apply OptS2.ite (P := P) | apply id_stable (P := P)
      | apply foldl_stable (P := P) | apply foldl_stable2 (P := P) | apply foldl_stable1 (P := P) | split
      | refine snd2_stable (by assumption) ?_ | refine snd_stable (by assumption) ?_
      | refine fst_stable (by assumption) ?_ | refine some_stable (by assumption) ?_
      | refine some_stable2 (by assumption) ?_ | dsimp only

end Sys2Proof.Machine
end

