-- ==== Sys2Proof/Laws/Stable8.lean ====
section
/-! SUPPORT. Each operation keeps every property that the elementary writes keep (part 8 of 9). -/

set_option linter.all false
set_option maxRecDepth 4000
set_option linter.unreachableTactic false

namespace Sys2Proof.Machine

variable {P : State → Prop} {free : Bool}

theorem oddHeader_stable (hP : StableIn P free) {x0} (h0 : P x0) : P (oddHeader x0) := by
  unfold oddHeader
  try dsimp only
  with_reducible repeat' first
      | assumption | intro _ | apply State.setRecs_stable hP | apply oddLine_stable hP | apply spoil_stable hP
      | apply storeRoom_stable hP | apply ite_stable (P := P) | apply ite_st (P := P) | apply ite_sec (P := P)
      | apply ite_snd (P := P) | apply ite_snd2 (P := P) | apply ite_fst (P := P) | apply OptS.some (P := P)
      | exact OptS.none | apply OptS2.some (P := P) | exact OptS2.none | apply OptS.bind (P := P)
      | apply OptS.bind2 (P := P) | apply OptS.map (P := P) | apply OptS.map0 (P := P) | apply OptS2.map (P := P)
      | apply OptS.getD (P := P) | apply OptS.ite (P := P) | apply OptS2.ite (P := P) | apply id_stable (P := P)
      | apply foldl_stable (P := P) | apply foldl_stable2 (P := P) | apply foldl_stable1 (P := P) | split
      | refine snd2_stable (by assumption) ?_ | refine snd_stable (by assumption) ?_
      | refine fst_stable (by assumption) ?_ | refine some_stable (by assumption) ?_
      | refine some_stable2 (by assumption) ?_ | dsimp only

theorem stopRecord_stable (hP : StableIn P free) {x0} (h0 : P x0) : P (stopRecord x0) := by
  unfold stopRecord
  try dsimp only
  with_reducible repeat' first
      | assumption | intro _ | apply State.draw_stable hP | apply oddCopy_stable hP | apply oddHeader_stable hP
      | apply storeWrite_stable hP | apply ite_stable (P := P) | apply ite_st (P := P) | apply ite_sec (P := P)
      | apply ite_snd (P := P) | apply ite_snd2 (P := P) | apply ite_fst (P := P) | apply OptS.some (P := P)
      | exact OptS.none | apply OptS2.some (P := P) | exact OptS2.none | apply OptS.bind (P := P)
      | apply OptS.bind2 (P := P) | apply OptS.map (P := P) | apply OptS.map0 (P := P) | apply OptS2.map (P := P)
      | apply OptS.getD (P := P) | apply OptS.ite (P := P) | apply OptS2.ite (P := P) | apply id_stable (P := P)
      | apply foldl_stable (P := P) | apply foldl_stable2 (P := P) | apply foldl_stable1 (P := P) | split
      | refine snd2_stable (by assumption) ?_ | refine snd_stable (by assumption) ?_
      | refine fst_stable (by assumption) ?_ | refine some_stable (by assumption) ?_
      | refine some_stable2 (by assumption) ?_ | dsimp only

theorem stopProgram_stable (hP : StableIn P free) {x0} (h0 : P x0) : P (stopProgram x0) := by
  unfold stopProgram
  try dsimp only
  with_reducible repeat' first
      | assumption | intro _ | apply hP.wr | apply State.writeLines_stable hP | apply State.draw_stable hP
      | apply oddLine_stable hP | apply ite_stable (P := P) | split | refine snd_stable (by assumption) ?_
      | refine fst_stable (by assumption) ?_ | refine some_stable (by assumption) ?_
      | refine some_stable2 (by assumption) ?_ | refine snd2_stable (by assumption) ?_ | dsimp only

theorem importRecords_stable (hP : StableIn P free) {x0 x1} (h1 : P x1) : OptS P (importRecords x0 x1) := by
  fun_induction importRecords x0 x1 <;> (with_reducible repeat' first
      | assumption | intro _ | apply storeWrite_stable hP | apply OptS.some (P := P) | exact OptS.none
      | apply OptS2.some (P := P) | exact OptS2.none | apply OptS.bind (P := P) | apply OptS.bind2 (P := P)
      | apply OptS.map (P := P) | apply OptS.map0 (P := P) | apply OptS2.map (P := P) | apply OptS.getD (P := P)
      | apply OptS.ite (P := P) | apply OptS2.ite (P := P) | split | refine ‹P _ → P _› ?_ | refine ‹P _ → OptS P _› ?_
      | refine ‹∀ t, P t → OptS P _› _ ?_ | dsimp +zetaDelta only | dsimp only)

theorem stopImport_stable (hP : StableIn P free) {x0} (h0 : P x0) : P (stopImport x0) := by
  unfold stopImport
  try dsimp only
  with_reducible repeat' first
      | assumption | intro _ | apply State.draw_stable hP | apply importRecords_stable hP | apply ite_stable (P := P)
      | apply ite_st (P := P) | apply ite_sec (P := P) | apply ite_snd (P := P) | apply ite_snd2 (P := P)
      | apply ite_fst (P := P) | apply OptS.some (P := P) | exact OptS.none | apply OptS2.some (P := P)
      | exact OptS2.none | apply OptS.bind (P := P) | apply OptS.bind2 (P := P) | apply OptS.map (P := P)
      | apply OptS.map0 (P := P) | apply OptS2.map (P := P) | apply OptS.getD (P := P) | apply OptS.ite (P := P)
      | apply OptS2.ite (P := P) | apply id_stable (P := P) | apply foldl_stable (P := P)
      | apply foldl_stable2 (P := P) | apply foldl_stable1 (P := P) | split | refine snd2_stable (by assumption) ?_
      | refine snd_stable (by assumption) ?_ | refine fst_stable (by assumption) ?_
      | refine some_stable (by assumption) ?_ | refine some_stable2 (by assumption) ?_ | dsimp only

theorem stopLoad_stable (hP : StableIn P free) {x0} (h0 : P x0) : P (stopLoad x0) := by
  unfold stopLoad
  try dsimp only
  with_reducible repeat' first
      | assumption | intro _ | apply oddLine_stable hP | apply ite_stable (P := P) | apply ite_st (P := P)
      | apply ite_sec (P := P) | apply ite_snd (P := P) | apply ite_snd2 (P := P) | apply ite_fst (P := P)
      | apply OptS.some (P := P) | exact OptS.none | apply OptS2.some (P := P) | exact OptS2.none
      | apply OptS.bind (P := P) | apply OptS.bind2 (P := P) | apply OptS.map (P := P) | apply OptS.map0 (P := P)
      | apply OptS2.map (P := P) | apply OptS.getD (P := P) | apply OptS.ite (P := P) | apply OptS2.ite (P := P)
      | apply id_stable (P := P) | apply foldl_stable (P := P) | apply foldl_stable2 (P := P)
      | apply foldl_stable1 (P := P) | split | refine snd2_stable (by assumption) ?_
      | refine snd_stable (by assumption) ?_ | refine fst_stable (by assumption) ?_
      | refine some_stable (by assumption) ?_ | refine some_stable2 (by assumption) ?_ | dsimp only

theorem flashStop_stable (hP : StableIn P free) {x0} (h0 : P x0) : P (flashStop x0) := by
  unfold flashStop
  try dsimp only
  with_reducible repeat' first
      | assumption | intro _ | apply State.setFlash_stable hP | apply State.setRecs_stable hP | apply dirty_stable hP
      | apply voidToken_stable hP | apply stopProgram_stable hP | apply stopLoad_stable hP
      | apply stopRecord_stable hP | apply stopImport_stable hP | apply ite_stable (P := P) | apply ite_st (P := P)
      | apply ite_sec (P := P) | apply ite_snd (P := P) | apply ite_snd2 (P := P) | apply ite_fst (P := P)
      | apply OptS.some (P := P) | exact OptS.none | apply OptS2.some (P := P) | exact OptS2.none
      | apply OptS.bind (P := P) | apply OptS.bind2 (P := P) | apply OptS.map (P := P) | apply OptS.map0 (P := P)
      | apply OptS2.map (P := P) | apply OptS.getD (P := P) | apply OptS.ite (P := P) | apply OptS2.ite (P := P)
      | apply id_stable (P := P) | apply foldl_stable (P := P) | apply foldl_stable2 (P := P)
      | apply foldl_stable1 (P := P) | split | refine snd2_stable (by assumption) ?_
      | refine snd_stable (by assumption) ?_ | refine fst_stable (by assumption) ?_
      | refine some_stable (by assumption) ?_ | refine some_stable2 (by assumption) ?_ | dsimp only

theorem supplyDecide_stable (hP : StableIn P free) {x0 x1} (h1 : P x1) : P (supplyDecide x0 x1) := by
  unfold supplyDecide
  try dsimp only
  with_reducible repeat' first
      | assumption | intro _ | apply hP.put | apply flashStop_stable hP | apply State.setPower_stable hP
      | apply cutAssert_stable hP | apply ite_stable (P := P) | dsimp only

theorem execSupplyDetect_stable (hP : StableIn P free) {x0 x1} (h1 : P x1) : OutS P (execSupplyDetect x0 x1) := by
  unfold execSupplyDetect
  try dsimp only
  with_reducible repeat' first
      | assumption | intro _ | apply supplyDecide_stable hP | apply OutS.next (P := P) | dsimp only

theorem resetLogic_stable (hP : StableIn P true) {x0 x1} (h1 : P x1) : P (resetLogic x0 x1) := by
  have k : P (flashStop x1) := flashStop_stable hP h1
  unfold resetLogic
  refine foldl_stable (fun _ _ q => refreshGroup_stable hP q) ?_
  refine foldl_stable (fun _ _ q => hP.put q) ?_
  refine ite_stable (foldl_stable (fun _ _ q => engEnter_stable hP q) ?_) ?_ <;>
  · cases x0
    · exact hP.frame (s := ((flashStop x1).setFields _).setMem _) rfl rfl rfl (.inl rfl) (hP.mem (s := (flashStop x1).setFields _) (hP.fields k))
    · exact hP.frame (s := (flashStop x1).setFields _) rfl rfl rfl (.inl rfl) (hP.fields k)

theorem assertReset_stable (hP : StableIn P true) {x0 x1} (h1 : P x1) : P (assertReset x0 x1) := by
  unfold assertReset
  try dsimp only
  with_reducible repeat' first
      | assumption | intro _ | apply State.setPower_stable hP | apply State.setBoot_stable hP | apply cutCtu_stable hP
      | apply resetLogic_stable hP | apply stopTimecode_stable hP | apply ite_stable (P := P) | apply ite_st (P := P)
      | apply ite_sec (P := P) | apply ite_snd (P := P) | apply ite_snd2 (P := P) | apply ite_fst (P := P)
      | apply id_stable (P := P) | dsimp only

theorem execLogicReset_stable (hP : StableIn P true) {x0} (h0 : P x0) : OutS P (execLogicReset x0) := by
  unfold execLogicReset
  try dsimp only
  with_reducible repeat' first
      | assumption | intro _ | apply assertReset_stable hP | apply State.elapse_stable hP | apply OutS.next (P := P)
      | apply ite_stable (P := P) | apply OutS.ite (P := P) | split | dsimp only

theorem execVmidLow_stable (hP : StableIn P true) {x0} (h0 : P x0) : OutS P (execVmidLow x0) := by
  unfold execVmidLow
  try dsimp only
  with_reducible repeat' first
      | assumption | intro _ | apply hP.put | apply assertReset_stable hP | apply State.setPower_stable hP
      | apply OutS.next (P := P) | dsimp only

theorem coldDue_stable (hP : StableIn P free) {x0 x1} (h1 : P x1) : P (coldDue x0 x1) := by
  unfold coldDue
  try dsimp only
  with_reducible repeat' first
      | assumption | intro _ | apply State.setBoot_stable hP | apply State.setPower_stable hP
      | apply ite_stable (P := P) | dsimp only

theorem execVinRise_stable (hP : StableIn P free) {x0 x1} (h1 : P x1) : OutS P (execVinRise x0 x1) := by
  unfold execVinRise
  try dsimp only
  with_reducible repeat' first
      | assumption | intro _ | apply hP.put | apply coldDue_stable hP | apply State.setPower_stable hP
      | apply OutS.next (P := P) | apply ite_stable (P := P) | apply OutS.ite (P := P) | split | dsimp only

theorem execVinHigh_stable (hP : StableIn P free) {x0} (h0 : P x0) : OutS P (execVinHigh x0) := by
  unfold execVinHigh
  try dsimp only
  with_reducible repeat' first
      | assumption | intro _ | apply hP.put | apply State.report_stable hP | apply OutS.next (P := P)
      | apply ite_stable (P := P) | apply OutS.ite (P := P) | dsimp only

theorem execRailVddq_stable (hP : StableIn P free) {x0} (h0 : P x0) : OutS P (execRailVddq x0) := by
  unfold execRailVddq
  try dsimp only
  with_reducible repeat' first
      | assumption | intro _ | apply hP.put | apply State.report_stable hP | apply State.putRush_stable hP
      | apply foldl_stable (P := P) | apply foldl_stable2 (P := P) | apply foldl_stable1 (P := P)
      | apply OutS.next (P := P) | dsimp only

theorem markSample_stable (hP : StableIn P free) {x0 x1 x2 x3} (h3 : P x3) : P (markSample x0 x1 x2 x3) := by
  unfold markSample
  try dsimp only
  with_reducible repeat' first
      | assumption | intro _ | apply State.setGaf_stable hP | split | refine snd_stable (by assumption) ?_
      | refine fst_stable (by assumption) ?_ | refine some_stable (by assumption) ?_
      | refine some_stable2 (by assumption) ?_ | refine snd2_stable (by assumption) ?_ | dsimp only

theorem execTjSample_stable (hP : StableIn P free) {x0 x1 x2 x3} (h3 : P x3) : OutS P (execTjSample x0 x1 x2 x3) := by
  unfold execTjSample
  try dsimp only
  with_reducible repeat' first
      | assumption | intro _ | apply hP.put | apply markSample_stable hP | apply State.putIf_stable hP
      | apply OutS.next (P := P) | exact OutS.fault | apply ite_stable (P := P) | apply OutS.ite (P := P) | dsimp only

theorem throttleDown_stable (hP : StableIn P free) {x0} (h0 : P x0) : P (throttleDown x0) := by
  unfold throttleDown
  try dsimp only
  with_reducible repeat' first
      | assumption | intro _ | apply hP.put | apply State.setGaf_stable hP | apply State.raise_stable hP
      | apply State.report_stable hP | apply ite_stable (P := P) | dsimp only

theorem throttleEnd_stable (hP : StableIn P free) {x0} (h0 : P x0) : P (throttleEnd x0) := by
  unfold throttleEnd
  try dsimp only
  with_reducible repeat' first
      | assumption | intro _ | apply hP.put | apply State.setGaf_stable hP | apply State.raise_stable hP
      | apply ite_stable (P := P) | apply ite_st (P := P) | apply ite_sec (P := P) | apply ite_snd (P := P)
      | apply ite_snd2 (P := P) | apply ite_fst (P := P) | apply id_stable (P := P) | dsimp only

theorem throttleUp_stable (hP : StableIn P free) {x0} (h0 : P x0) : P (throttleUp x0) := by
  unfold throttleUp
  try dsimp only
  with_reducible repeat' first
      | assumption | intro _ | apply throttleEnd_stable hP | apply State.request_stable hP | apply foldl_stable (P := P)
      | dsimp only

theorem execThrottleStep_stable (hP : StableIn P free) {x0} (h0 : P x0) : OutS P (execThrottleStep x0) := by
  unfold execThrottleStep
  try dsimp only
  with_reducible repeat' first
      | assumption | intro _ | apply throttleDown_stable hP | apply throttleUp_stable hP | apply OutS.next (P := P)
      | apply ite_stable (P := P) | apply OutS.ite (P := P) | dsimp only

theorem execTjShutdown_stable (hP : StableIn P true) {x0} (h0 : P x0) : OutS P (execTjShutdown x0) := by
  unfold execTjShutdown
  try dsimp only
  with_reducible repeat' first
      | assumption | intro _ | apply hP.put | apply State.elapse_stable hP | apply ctuRequest_stable hP
      | apply State.report_stable hP | apply assertReset_stable hP | apply State.setPower_stable hP
      | apply OutS.next (P := P) | dsimp only

theorem execTjRelease_stable (hP : StableIn P free) {x0} (h0 : P x0) : OutS P (execTjRelease x0) := by
  unfold execTjRelease
  try dsimp only
  with_reducible repeat' first
      | assumption | intro _ | apply coldDue_stable hP | apply State.setPower_stable hP | apply OutS.next (P := P)
      | apply ite_stable (P := P) | apply OutS.ite (P := P) | dsimp only

theorem grantIn_stable (hP : StableIn P free) {x0 x1 x2 x3} (h3 : P x3) : P (grantIn x0 x1 x2 x3) := by
  unfold grantIn
  try dsimp only
  with_reducible repeat' first
      | assumption | intro _ | apply hP.put | apply ledgerShow_stable hP | dsimp only

theorem ddrSleep_stable (hP : StableIn P free) {x0} (h0 : P x0) : P (ddrSleep x0) := by
  unfold ddrSleep
  try dsimp only
  with_reducible repeat' first
      | assumption | intro _ | apply hP.put | apply ite_stable (P := P) | dsimp only

theorem islandCatchUp_stable (hP : StableIn P free) {x0 x1} (h1 : P x1) : P (islandCatchUp x0 x1) := by
  unfold islandCatchUp
  try dsimp only
  with_reducible repeat' first
      | assumption | intro _ | apply catchUp_stable hP | apply ite_stable (P := P) | apply ite_st (P := P)
      | apply ite_sec (P := P) | apply ite_snd (P := P) | apply ite_snd2 (P := P) | apply ite_fst (P := P)
      | apply OptS.some (P := P) | exact OptS.none | apply OptS2.some (P := P) | exact OptS2.none
      | apply OptS.bind (P := P) | apply OptS.bind2 (P := P) | apply OptS.map (P := P) | apply OptS.map0 (P := P)
      | apply OptS2.map (P := P) | apply OptS.getD (P := P) | apply OptS.ite (P := P) | apply OptS2.ite (P := P)
      | apply id_stable (P := P) | apply foldl_stable (P := P) | apply foldl_stable2 (P := P)
      | apply foldl_stable1 (P := P) | split | refine snd2_stable (by assumption) ?_
      | refine snd_stable (by assumption) ?_ | refine fst_stable (by assumption) ?_
      | refine some_stable (by assumption) ?_ | refine some_stable2 (by assumption) ?_ | dsimp only

theorem descend_stable (hP : StableIn P free) {x0 x1 x2} (h2 : P x2) : P (descend x0 x1 x2) := by
  unfold descend
  try dsimp only
  with_reducible repeat' first
      | assumption | intro _ | apply hP.put | apply islandCatchUp_stable hP | apply ddrSleep_stable hP
      | apply grantIn_stable hP | apply ite_stable (P := P) | apply ite_st (P := P) | apply ite_sec (P := P)
      | apply ite_snd (P := P) | apply ite_snd2 (P := P) | apply ite_fst (P := P) | apply id_stable (P := P)
      | dsimp only

theorem execIslandDescend_stable (hP : StableIn P free) {x0 x1} (h1 : P x1) : OutS P (execIslandDescend x0 x1) := by
  unfold execIslandDescend
  try dsimp only
  with_reducible repeat' first
      | assumption | intro _ | apply gafShow_stable hP | apply descend_stable hP | apply restoreClocks_stable hP
      | apply OutS.next (P := P) | exact OutS.fault | apply OutS.ite (P := P) | apply ite_stable (P := P)
      | apply ite_st (P := P) | apply ite_sec (P := P) | apply ite_snd (P := P) | apply ite_snd2 (P := P)
      | apply ite_fst (P := P) | apply id_stable (P := P) | dsimp only

theorem execIslandWake_stable (hP : StableIn P free) {x0 x1 x2 x3} (h3 : P x3) : OutS P (execIslandWake x0 x1 x2 x3) := by
  unfold execIslandWake
  try dsimp only
  with_reducible repeat' first
      | assumption | intro _ | apply afterTokens_stable hP | apply islCtrlWrite_stable hP | apply OutS.next (P := P)
      | exact OutS.fault | apply OutS.ite (P := P) | apply ite_stable (P := P) | apply ite_st (P := P)
      | apply ite_sec (P := P) | apply ite_snd (P := P) | apply ite_snd2 (P := P) | apply ite_fst (P := P)
      | apply id_stable (P := P) | dsimp only

theorem clearRegs_stable (hP : StableIn P free) {x0 x1} (h1 : P x1) : P (clearRegs x0 x1) := by
  unfold clearRegs
  try dsimp only
  with_reducible repeat' first
      | assumption | intro _ | apply hP.fields | dsimp only

theorem clearRange_stable (hP : StableIn P free) {x0 x1 x2} (h2 : P x2) : P (clearRange x0 x1 x2) := by
  unfold clearRange
  try dsimp only
  with_reducible repeat' first
      | assumption | intro _ | apply clearRegs_stable hP | dsimp only

theorem rejoinGroup_stable (hP : StableIn P free) {x0 x1} (h1 : P x1) : P (rejoinGroup x0 x1) := by
  unfold rejoinGroup
  try dsimp only
  with_reducible repeat' first
      | assumption | intro _ | apply hP.put | apply refreshGroup_stable hP | apply ite_stable (P := P)
      | apply ite_st (P := P) | apply ite_sec (P := P) | apply ite_snd (P := P) | apply ite_snd2 (P := P)
      | apply ite_fst (P := P) | apply OptS.some (P := P) | exact OptS.none | apply OptS2.some (P := P)
      | exact OptS2.none | apply OptS.bind (P := P) | apply OptS.bind2 (P := P) | apply OptS.map (P := P)
      | apply OptS.map0 (P := P) | apply OptS2.map (P := P) | apply OptS.getD (P := P) | apply OptS.ite (P := P)
      | apply OptS2.ite (P := P) | apply id_stable (P := P) | apply foldl_stable (P := P)
      | apply foldl_stable2 (P := P) | apply foldl_stable1 (P := P) | split | refine snd2_stable (by assumption) ?_
      | refine snd_stable (by assumption) ?_ | refine fst_stable (by assumption) ?_
      | refine some_stable (by assumption) ?_ | refine some_stable2 (by assumption) ?_ | dsimp only

theorem engineLost_stable (hP : StableIn P free) {x0 x1} (h1 : P x1) : P (engineLost x0 x1) := by
  unfold engineLost
  try dsimp only
  with_reducible repeat' first
      | assumption | intro _ | apply hP.put | apply State.setEngIn_stable hP | apply State.setEngTrigs_stable hP
      | apply State.setEngNeg_stable hP | apply State.putEng_stable hP | apply engEnter_stable hP
      | apply clearMem_stable hP | apply clearRange_stable hP | apply ite_stable (P := P) | apply ite_st (P := P)
      | apply ite_sec (P := P) | apply ite_snd (P := P) | apply ite_snd2 (P := P) | apply ite_fst (P := P)
      | apply id_stable (P := P) | dsimp only

theorem samplingLost_stable (hP : StableIn P free) {x0 x1} (h1 : P x1) : P (samplingLost x0 x1) := by
  unfold samplingLost
  try dsimp only
  with_reducible repeat' first
      | assumption | intro _ | apply hP.put | apply State.setTrigAt_stable hP | apply State.setSets_stable hP
      | apply State.putCmp_stable hP | apply clearRange_stable hP | apply ite_stable (P := P) | apply ite_st (P := P)
      | apply ite_sec (P := P) | apply ite_snd (P := P) | apply ite_snd2 (P := P) | apply ite_fst (P := P)
      | apply OptS.some (P := P) | exact OptS.none | apply OptS2.some (P := P) | exact OptS2.none
      | apply OptS.bind (P := P) | apply OptS.bind2 (P := P) | apply OptS.map (P := P) | apply OptS.map0 (P := P)
      | apply OptS2.map (P := P) | apply OptS.getD (P := P) | apply OptS.ite (P := P) | apply OptS2.ite (P := P)
      | apply id_stable (P := P) | apply foldl_stable (P := P) | apply foldl_stable2 (P := P)
      | apply foldl_stable1 (P := P) | split | refine snd2_stable (by assumption) ?_
      | refine snd_stable (by assumption) ?_ | refine fst_stable (by assumption) ?_
      | refine some_stable (by assumption) ?_ | refine some_stable2 (by assumption) ?_ | dsimp only

theorem reelsLost_stable (hP : StableIn P free) {x0} (h0 : P x0) : P (reelsLost x0) := by
  unfold reelsLost
  try dsimp only
  with_reducible repeat' first
      | assumption | intro _ | apply hP.put | apply State.setReelQ_stable hP | apply State.putReel_stable hP
      | apply clearRange_stable hP | apply ite_stable (P := P) | apply ite_st (P := P) | apply ite_sec (P := P)
      | apply ite_snd (P := P) | apply ite_snd2 (P := P) | apply ite_fst (P := P) | apply OptS.some (P := P)
      | exact OptS.none | apply OptS2.some (P := P) | exact OptS2.none | apply OptS.bind (P := P)
      | apply OptS.bind2 (P := P) | apply OptS.map (P := P) | apply OptS.map0 (P := P) | apply OptS2.map (P := P)
      | apply OptS.getD (P := P) | apply OptS.ite (P := P) | apply OptS2.ite (P := P) | apply id_stable (P := P)
      | apply foldl_stable (P := P) | apply foldl_stable2 (P := P) | apply foldl_stable1 (P := P) | split
      | refine snd2_stable (by assumption) ?_ | refine snd_stable (by assumption) ?_
      | refine fst_stable (by assumption) ?_ | refine some_stable (by assumption) ?_
      | refine some_stable2 (by assumption) ?_ | dsimp only

theorem leaveBlack_stable (hP : StableIn P free) {x0 x1} (h1 : P x1) : P (leaveBlack x0 x1) := by
  unfold leaveBlack
  try dsimp only
  with_reducible repeat' first
      | assumption | intro _ | apply hP.put | apply State.setSec_stable hP | apply State.setLink_stable hP
      | apply State.setRushes_stable hP | apply State.setSessions_stable hP | apply State.setFeedback_stable hP
      | apply State.setEmus_stable hP | apply State.setDmas_stable hP | apply State.setSerials_stable hP
      | apply State.putPort_stable hP | apply State.putCoreState_stable hP | apply coreClear_stable hP
      | apply clearMem_stable hP | apply clearRegs_stable hP | apply clearRange_stable hP
      | apply rejoinGroup_stable hP | apply engineLost_stable hP | apply samplingLost_stable hP
      | apply reelsLost_stable hP | apply State.putB_stable hP | apply rushDisable_stable hP
      | apply ite_stable (P := P) | apply ite_st (P := P) | apply ite_sec (P := P) | apply ite_snd (P := P)
      | apply ite_snd2 (P := P) | apply ite_fst (P := P) | apply OptS.some (P := P) | exact OptS.none
      | apply OptS2.some (P := P) | exact OptS2.none | apply OptS.bind (P := P) | apply OptS.bind2 (P := P)
      | apply OptS.map (P := P) | apply OptS.map0 (P := P) | apply OptS2.map (P := P) | apply OptS.getD (P := P)
      | apply OptS.ite (P := P) | apply OptS2.ite (P := P) | apply id_stable (P := P) | apply foldl_stable (P := P)
      | apply foldl_stable2 (P := P) | apply foldl_stable1 (P := P) | split | refine snd2_stable (by assumption) ?_
      | refine snd_stable (by assumption) ?_ | refine fst_stable (by assumption) ?_
      | refine some_stable (by assumption) ?_ | refine some_stable2 (by assumption) ?_ | dsimp only

theorem ddrWake_stable (hP : StableIn P free) {x0} (h0 : P x0) : P (ddrWake x0) := by
  unfold ddrWake
  try dsimp only
  with_reducible repeat' first
      | assumption | intro _ | apply hP.put | apply ite_stable (P := P) | apply ite_st (P := P)
      | apply ite_sec (P := P) | apply ite_snd (P := P) | apply ite_snd2 (P := P) | apply ite_fst (P := P)
      | apply id_stable (P := P) | dsimp only

theorem wakeLater_stable (hP : StableIn P free) {x0 x1} (h1 : P x1) : P (wakeLater x0 x1) := by
  unfold wakeLater
  try dsimp only
  with_reducible repeat' first
      | assumption | intro _ | apply State.setGaf_stable hP | apply wakeRequest_stable hP | apply ite_stable (P := P)
      | apply ite_st (P := P) | apply ite_sec (P := P) | apply ite_snd (P := P) | apply ite_snd2 (P := P)
      | apply ite_fst (P := P) | apply OptS.some (P := P) | exact OptS.none | apply OptS2.some (P := P)
      | exact OptS2.none | apply OptS.bind (P := P) | apply OptS.bind2 (P := P) | apply OptS.map (P := P)
      | apply OptS.map0 (P := P) | apply OptS2.map (P := P) | apply OptS.getD (P := P) | apply OptS.ite (P := P)
      | apply OptS2.ite (P := P) | apply id_stable (P := P) | apply foldl_stable (P := P)
      | apply foldl_stable2 (P := P) | apply foldl_stable1 (P := P) | split | refine snd2_stable (by assumption) ?_
      | refine snd_stable (by assumption) ?_ | refine fst_stable (by assumption) ?_
      | refine some_stable (by assumption) ?_ | refine some_stable2 (by assumption) ?_ | dsimp only

theorem execIslandWakeDone_stable (hP : StableIn P free) {x0 x1} (h1 : P x1) : OutS P (execIslandWakeDone x0 x1) := by
  unfold execIslandWakeDone
  try dsimp only
  with_reducible repeat' first
      | assumption | intro _ | apply hP.put | apply State.setSyncWait_stable hP | apply State.setGaf_stable hP
      | apply gafShow_stable hP | apply ddrWake_stable hP | apply leaveBlack_stable hP | apply restoreClocks_stable hP
      | apply clockFollow_stable hP | apply grantIn_stable hP | apply wakeLater_stable hP | apply clockSeen_stable hP
      | apply OutS.next (P := P) | exact OutS.fault | apply OutS.ite (P := P) | apply ite_stable (P := P)
      | apply ite_st (P := P) | apply ite_sec (P := P) | apply ite_snd (P := P) | apply ite_snd2 (P := P)
      | apply ite_fst (P := P) | apply OptS.some (P := P) | exact OptS.none | apply OptS2.some (P := P)
      | exact OptS2.none | apply OptS.bind (P := P) | apply OptS.bind2 (P := P) | apply OptS.map (P := P)
      | apply OptS.map0 (P := P) | apply OptS2.map (P := P) | apply OptS.getD (P := P) | apply OptS.ite (P := P)
      | apply OptS2.ite (P := P) | apply id_stable (P := P) | apply foldl_stable (P := P)
      | apply foldl_stable2 (P := P) | apply foldl_stable1 (P := P) | split | refine snd2_stable (by assumption) ?_
      | refine snd_stable (by assumption) ?_ | refine fst_stable (by assumption) ?_
      | refine some_stable (by assumption) ?_ | refine some_stable2 (by assumption) ?_ | dsimp only

theorem execTwlWrite_stable (hP : StableIn P free) {x0 x1 x2 x3 x4} (h4 : P x4) : OutS P (execTwlWrite x0 x1 x2 x3 x4) := by
  unfold execTwlWrite
  try dsimp only
  with_reducible repeat' first
      | assumption | intro _ | apply afterTokens_stable hP | apply islTwlWrite_stable hP | apply cueTwlWrite_stable hP
      | apply onIsland_stable hP | apply OutS.next (P := P) | exact OutS.fault | apply OutS.ite (P := P)
      | apply ite_stable (P := P) | apply ite_st (P := P) | apply ite_sec (P := P) | apply ite_snd (P := P)
      | apply ite_snd2 (P := P) | apply ite_fst (P := P) | apply OptS.some (P := P) | exact OptS.none
      | apply OptS2.some (P := P) | exact OptS2.none | apply OptS.bind (P := P) | apply OptS.bind2 (P := P)
      | apply OptS.map (P := P) | apply OptS.map0 (P := P) | apply OptS2.map (P := P) | apply OptS.getD (P := P)
      | apply OptS.ite (P := P) | apply OptS2.ite (P := P) | apply id_stable (P := P) | apply foldl_stable (P := P)
      | apply foldl_stable2 (P := P) | apply foldl_stable1 (P := P) | split | refine snd2_stable (by assumption) ?_
      | refine snd_stable (by assumption) ?_ | refine fst_stable (by assumption) ?_
      | refine some_stable (by assumption) ?_ | refine some_stable2 (by assumption) ?_ | dsimp only

theorem deviceGrant_stable (hP : StableIn P free) {x0 x1} (h1 : P x1) : P (deviceGrant x0 x1) := by
  unfold deviceGrant
  try dsimp only
  with_reducible repeat' first
      | assumption | intro _ | apply hP.put | apply State.setGaf_stable hP | apply gafShow_stable hP
      | apply grantIn_stable hP | apply State.unrequest_stable hP | apply ite_stable (P := P) | apply ite_st (P := P)
      | apply ite_sec (P := P) | apply ite_snd (P := P) | apply ite_snd2 (P := P) | apply ite_fst (P := P)
      | apply id_stable (P := P) | dsimp only

theorem execDeviceGrant_stable (hP : StableIn P free) {x0} (h0 : P x0) : OutS P (execDeviceGrant x0) := by
  unfold execDeviceGrant
  try dsimp only
  with_reducible repeat' first
      | assumption | intro _ | apply hP.put | apply deviceGrant_stable hP | apply State.setGaf_stable hP
      | apply State.unrequest_stable hP | apply OutS.next (P := P) | apply ite_stable (P := P) | apply OutS.ite (P := P)
      | split | refine snd_stable (by assumption) ?_ | refine fst_stable (by assumption) ?_
      | refine some_stable (by assumption) ?_ | refine some_stable2 (by assumption) ?_
      | refine snd2_stable (by assumption) ?_ | dsimp only

theorem execClockStep_stable (hP : StableIn P free) {x0 x1} (h1 : P x1) : OutS P (execClockStep x0 x1) := by
  unfold execClockStep
  try dsimp only
  with_reducible repeat' first
      | assumption | intro _ | apply hP.put | apply State.setGaf_stable hP | apply islandCatchUp_stable hP
      | apply gafShow_stable hP | apply restoreClocks_stable hP | apply clockFollow_stable hP
      | apply throttleEnd_stable hP | apply grantIn_stable hP | apply OutS.next (P := P) | exact OutS.fault
      | apply OutS.ite (P := P) | apply ite_stable (P := P) | apply ite_st (P := P) | apply ite_sec (P := P)
      | apply ite_snd (P := P) | apply ite_snd2 (P := P) | apply ite_fst (P := P) | apply OptS.some (P := P)
      | exact OptS.none | apply OptS2.some (P := P) | exact OptS2.none | apply OptS.bind (P := P)
      | apply OptS.bind2 (P := P) | apply OptS.map (P := P) | apply OptS.map0 (P := P) | apply OptS2.map (P := P)
      | apply OptS.getD (P := P) | apply OptS.ite (P := P) | apply OptS2.ite (P := P) | apply id_stable (P := P)
      | apply foldl_stable (P := P) | apply foldl_stable2 (P := P) | apply foldl_stable1 (P := P) | split
      | refine snd2_stable (by assumption) ?_ | refine snd_stable (by assumption) ?_
      | refine fst_stable (by assumption) ?_ | refine some_stable (by assumption) ?_
      | refine some_stable2 (by assumption) ?_ | dsimp only

theorem execThermStale_stable (hP : StableIn P free) {x0 x1} (h1 : P x1) : OutS P (execThermStale x0 x1) := by
  unfold execThermStale
  try dsimp only
  with_reducible repeat' first
      | assumption | intro _ | apply hP.put | apply State.elapse_stable hP | apply State.zoneRefresh_stable hP
      | apply State.report_stable hP | apply State.setGaf_stable hP | apply OutS.next (P := P)
      | apply ite_stable (P := P) | apply OutS.ite (P := P) | split | dsimp only

theorem execSleepWake_stable (hP : StableIn P true) {x0 x1 x2 x3} (h3 : P x3) : OutS P (execSleepWake x0 x1 x2 x3) := by
  unfold execSleepWake
  try dsimp only
  with_reducible repeat' first
      | assumption | intro _ | apply hP.put | apply State.setPower_stable hP | apply State.setBoot_stable hP
      | apply State.putB_stable hP | apply coldNow_stable hP | apply OutS.next (P := P) | exact OutS.fault
      | apply OutS.ite (P := P) | apply ite_stable (P := P) | apply ite_st (P := P) | apply ite_sec (P := P)
      | apply ite_snd (P := P) | apply ite_snd2 (P := P) | apply ite_fst (P := P) | apply id_stable (P := P)
      | dsimp only

theorem keysShow_stable (hP : StableIn P free) {x0} (h0 : P x0) : P (keysShow x0) := by
  unfold keysShow
  try dsimp only
  with_reducible repeat' first
      | assumption | intro _ | apply hP.put | apply State.putB_stable hP | apply putDigest_stable hP
      | apply foldl_stable (P := P) | dsimp only

theorem otpShow_stable (hP : StableIn P free) {x0 x1} (h1 : P x1) : P (otpShow x0 x1) := by
  unfold otpShow
  try dsimp only
  with_reducible repeat' first
      | assumption | intro _ | apply hP.put | apply State.putCoreState_stable hP | apply State.putB_stable hP
      | apply keysShow_stable hP | apply levelShow_stable hP | apply ite_stable (P := P) | apply ite_st (P := P)
      | apply ite_sec (P := P) | apply ite_snd (P := P) | apply ite_snd2 (P := P) | apply ite_fst (P := P)
      | apply OptS.some (P := P) | exact OptS.none | apply OptS2.some (P := P) | exact OptS2.none
      | apply OptS.bind (P := P) | apply OptS.bind2 (P := P) | apply OptS.map (P := P) | apply OptS.map0 (P := P)
      | apply OptS2.map (P := P) | apply OptS.getD (P := P) | apply OptS.ite (P := P) | apply OptS2.ite (P := P)
      | apply id_stable (P := P) | apply foldl_stable (P := P) | apply foldl_stable2 (P := P)
      | apply foldl_stable1 (P := P) | split | refine snd2_stable (by assumption) ?_
      | refine snd_stable (by assumption) ?_ | refine fst_stable (by assumption) ?_
      | refine some_stable (by assumption) ?_ | refine some_stable2 (by assumption) ?_ | dsimp only

theorem startReset_stable (hP : StableIn P true) {x0 x1 x2} (h2 : P x2) : P (startReset x0 x1 x2) := by
  unfold startReset
  try dsimp only
  with_reducible repeat' first
      | assumption | intro _ | apply hP.put | apply State.setBoot_stable hP | apply State.putB_stable hP
      | apply cutCtu_stable hP | apply resetLogic_stable hP | apply ite_stable (P := P) | apply ite_st (P := P)
      | apply ite_sec (P := P) | apply ite_snd (P := P) | apply ite_snd2 (P := P) | apply ite_fst (P := P)
      | apply id_stable (P := P) | dsimp only

theorem trngShow_stable (hP : StableIn P free) {x0 x1} (h1 : P x1) : P (trngShow x0 x1) := by
  unfold trngShow
  try dsimp only
  with_reducible repeat' first
      | assumption | intro _ | apply hP.put | apply State.putB_stable hP | apply State.report_stable hP
      | apply ite_stable (P := P) | dsimp only

theorem blackLoss_stable (hP : StableIn P free) {x0} (h0 : P x0) : P (blackLoss x0) := by
  unfold blackLoss
  try dsimp only
  with_reducible repeat' first
      | assumption | intro _ | apply State.setEngNeg_stable hP | apply clearMem_stable hP | dsimp only

theorem startWarm_stable (hP : StableIn P true) {x0 x1} (h1 : P x1) : P (startWarm x0 x1) := by
  unfold startWarm
  try dsimp only
  with_reducible repeat' first
      | assumption | intro _ | apply hP.put | apply State.setNow_stable hP | apply State.setTcRun_stable hP
      | apply State.setSyncWait_stable hP | apply clearRange_stable hP | apply ddrWake_stable hP
      | apply blackLoss_stable hP | apply ite_stable (P := P) | apply ite_st (P := P) | apply ite_sec (P := P)
      | apply ite_snd (P := P) | apply ite_snd2 (P := P) | apply ite_fst (P := P) | apply id_stable (P := P)
      | dsimp only

theorem startCold_stable (hP : StableIn P free) {x0 x1} (h1 : P x1) : P (startCold x0 x1) := by
  unfold startCold
  try dsimp only
  with_reducible repeat' first
      | assumption | intro _ | apply engEnter_stable hP | apply State.report_stable hP | apply ite_stable (P := P)
      | apply ite_st (P := P) | apply ite_sec (P := P) | apply ite_snd (P := P) | apply ite_snd2 (P := P)
      | apply ite_fst (P := P) | apply OptS.some (P := P) | exact OptS.none | apply OptS2.some (P := P)
      | exact OptS2.none | apply OptS.bind (P := P) | apply OptS.bind2 (P := P) | apply OptS.map (P := P)
      | apply OptS.map0 (P := P) | apply OptS2.map (P := P) | apply OptS.getD (P := P) | apply OptS.ite (P := P)
      | apply OptS2.ite (P := P) | apply id_stable (P := P) | apply foldl_stable (P := P)
      | apply foldl_stable2 (P := P) | apply foldl_stable1 (P := P) | split | refine snd2_stable (by assumption) ?_
      | refine snd_stable (by assumption) ?_ | refine fst_stable (by assumption) ?_
      | refine some_stable (by assumption) ?_ | refine some_stable2 (by assumption) ?_ | dsimp only

theorem startLinks_stable (hP : StableIn P free) {x0} (h0 : P x0) : P (startLinks x0) := by
  unfold startLinks
  try dsimp only
  with_reducible repeat' first
      | assumption | intro _ | apply hP.put | apply State.putFeature_stable hP | apply State.enableFeature_stable hP
      | dsimp only

theorem startRecord_stable (hP : StableIn P free) {x0 x1} (h1 : P x1) : P (startRecord x0 x1).2 := by
  unfold startRecord
  try dsimp only
  with_reducible repeat' first
      | assumption | intro _ | apply lineRead_stable hP | split | refine snd_stable (by assumption) ?_
      | refine fst_stable (by assumption) ?_ | refine some_stable (by assumption) ?_
      | refine some_stable2 (by assumption) ?_ | refine snd2_stable (by assumption) ?_ | dsimp only

theorem putBootWord_stable (hP : StableIn P free) {x0 x1} (h1 : P x1) : P (putBootWord x0 x1) := by
  unfold putBootWord
  try dsimp only
  with_reducible repeat' first
      | assumption | intro _ | apply hP.put | dsimp only

theorem bootRecord_stable (hP : StableIn P free) {x0} (h0 : P x0) : P (bootRecord x0) := by
  unfold bootRecord
  try dsimp only
  with_reducible repeat' first
      | assumption | intro _ | apply hP.put | apply startRecord_stable hP | apply putBootWord_stable hP | split
      | refine snd_stable (by assumption) ?_ | refine fst_stable (by assumption) ?_
      | refine some_stable (by assumption) ?_ | refine some_stable2 (by assumption) ?_
      | refine snd2_stable (by assumption) ?_ | dsimp only

theorem startStore_stable (hP : StableIn P free) {x0 x1 x2 x3} (h3 : P x3) : P (startStore x0 x1 x2 x3) := by
  unfold startStore
  try dsimp only
  with_reducible repeat' first
      | assumption | intro _ | apply hP.put | apply State.setRecs_stable hP | apply storeWear_stable hP
      | apply storeCheckLast_stable hP | apply storeBuild_stable hP | apply ite_stable (P := P)
      | apply ite_st (P := P) | apply ite_sec (P := P) | apply ite_snd (P := P) | apply ite_snd2 (P := P)
      | apply ite_fst (P := P) | apply id_stable (P := P) | dsimp only

theorem flashStart_stable (hP : StableIn P free) {x0} (h0 : P x0) : P (flashStart x0) := by
  unfold flashStart
  try dsimp only
  with_reducible repeat' first
      | assumption | intro _ | apply hP.put | apply flashShow_stable hP | apply State.putB_stable hP
      | apply State.report_stable hP | apply foldl_stable (P := P) | apply foldl_stable2 (P := P)
      | apply foldl_stable1 (P := P) | split | refine snd_stable (by assumption) ?_
      | refine fst_stable (by assumption) ?_ | refine some_stable (by assumption) ?_
      | refine some_stable2 (by assumption) ?_ | refine snd2_stable (by assumption) ?_ | dsimp only

theorem untie_stable (hP : StableIn P free) {x0} (h0 : P x0) : P (untie x0) := by
  unfold untie
  try dsimp only
  with_reducible repeat' first
      | assumption | intro _ | apply hP.put | apply ite_stable (P := P) | apply ite_st (P := P)
      | apply ite_sec (P := P) | apply ite_snd (P := P) | apply ite_snd2 (P := P) | apply ite_fst (P := P)
      | apply id_stable (P := P) | dsimp only

theorem startLatch_stable (hP : StableIn P free) {x0} (h0 : P x0) : P (startLatch x0) := by
  unfold startLatch
  try dsimp only
  with_reducible repeat' first
      | assumption | intro _ | apply cutLatchClear_stable hP | apply untie_stable hP | apply ite_stable (P := P)
      | apply ite_st (P := P) | apply ite_sec (P := P) | apply ite_snd (P := P) | apply ite_snd2 (P := P)
      | apply ite_fst (P := P) | apply id_stable (P := P) | dsimp only

theorem bootfail_stable (hP : StableIn P free) {x0} (h0 : P x0) : P (bootfail x0) := by
  unfold bootfail
  try dsimp only
  with_reducible repeat' first
      | assumption | intro _ | apply State.report_stable hP | apply cutHost_stable hP | apply engEnter_stable hP
      | apply setDevState_stable hP | apply startLatch_stable hP | apply State.setBoot_stable hP
      | apply foldl_stable (P := P) | dsimp only

theorem redOut_stable (hP : StableIn P free) {x0 x1 x2} (h2 : P x2) : P (redOut x0 x1 x2) := by
  unfold redOut
  try dsimp only
  with_reducible repeat' first
      | assumption | intro _ | apply hP.put | apply State.putCoreState_stable hP | apply coreClear_stable hP
      | apply State.report_stable hP | apply ite_stable (P := P) | apply ite_st (P := P) | apply ite_sec (P := P)
      | apply ite_snd (P := P) | apply ite_snd2 (P := P) | apply ite_fst (P := P) | apply OptS.some (P := P)
      | exact OptS.none | apply OptS2.some (P := P) | exact OptS2.none | apply OptS.bind (P := P)
      | apply OptS.bind2 (P := P) | apply OptS.map (P := P) | apply OptS.map0 (P := P) | apply OptS2.map (P := P)
      | apply OptS.getD (P := P) | apply OptS.ite (P := P) | apply OptS2.ite (P := P) | apply id_stable (P := P)
      | apply foldl_stable (P := P) | apply foldl_stable2 (P := P) | apply foldl_stable1 (P := P) | split
      | refine snd2_stable (by assumption) ?_ | refine snd_stable (by assumption) ?_
      | refine fst_stable (by assumption) ?_ | refine some_stable (by assumption) ?_
      | refine some_stable2 (by assumption) ?_ | dsimp only

theorem startCal_stable (hP : StableIn P free) {x0 x1 x2} (h2 : P x2) : P (startCal x0 x1 x2) := by
  unfold startCal
  try dsimp only
  with_reducible repeat' first
      | assumption | intro _ | apply hP.put | apply calDone_stable hP | apply ite_stable (P := P) | dsimp only

theorem trimRecords_stable (hP : StableIn P free) {x0 x1} (h1 : P x1) : P (trimRecords x0 x1).2 := by
  induction x0 generalizing x1 with
  | nil => exact h1
  | cons r t ih =>
    have k := startRecord_stable hP (x0 := r) h1
    unfold trimRecords
    exact ite_snd (ih k) k

theorem trimApply_stable (hP : StableIn P free) {x0} (h0 : P x0) : P (trimApply x0) := by
  unfold trimApply
  try dsimp only
  with_reducible repeat' first
      | assumption | intro _ | apply hP.put | apply trimRecords_stable hP | apply State.setTrim_stable hP
      | apply State.report_stable hP | split | refine snd_stable (by assumption) ?_
      | refine fst_stable (by assumption) ?_ | refine some_stable (by assumption) ?_
      | refine some_stable2 (by assumption) ?_ | refine snd2_stable (by assumption) ?_ | dsimp only

theorem startDdr_stable (hP : StableIn P free) {x0 x1} (h1 : P x1) : P (startDdr x0 x1) := by
  unfold startDdr
  try dsimp only
  with_reducible repeat' first
      | assumption | intro _ | apply hP.wr | apply ddrInit_stable hP | apply State.writeFields_stable hP
      | apply ddrTrained_stable hP | apply ite_stable (P := P) | dsimp only

theorem startVio_stable (hP : StableIn P free) {x0 x1} (h1 : P x1) : P (startVio x0 x1) := by
  unfold startVio
  try dsimp only
  with_reducible repeat' first
      | assumption | intro _ | apply hP.put | apply foldl_stable (P := P) | dsimp only

theorem startRest_stable (hP : StableIn P free) {x0 x1 x2 x3} (h3 : P x3) : P (startRest x0 x1 x2 x3) := by
  unfold startRest
  try dsimp only
  with_reducible repeat' first
      | assumption | intro _ | apply State.setBoot_stable hP | apply trimApply_stable hP | apply startCal_stable hP
      | apply startDdr_stable hP | apply ite_stable (P := P) | apply ite_st (P := P) | apply ite_sec (P := P)
      | apply ite_snd (P := P) | apply ite_snd2 (P := P) | apply ite_fst (P := P) | apply id_stable (P := P)
      | dsimp only

theorem runImage_stable (hP : StableIn P free) {x0 x1 x2} (h2 : P x2) : P (runImage x0 x1 x2) := by
  unfold runImage
  try dsimp only
  with_reducible repeat' first
      | assumption | intro _ | apply hP.put | apply State.setBoot_stable hP | apply State.setImage_stable hP
      | apply putDigest_stable hP | dsimp only

theorem tellImage_stable (hP : StableIn P free) {x0 x1 x2} (h2 : P x2) : P (tellImage x0 x1 x2) := by
  unfold tellImage
  try dsimp only
  with_reducible repeat' first
      | assumption | intro _ | apply hP.put | apply State.putB_stable hP | apply runImage_stable hP
      | apply State.report_stable hP | apply cutHost_stable hP | apply State.setBoot_stable hP
      | apply ite_stable (P := P) | split | refine snd_stable (by assumption) ?_ | refine fst_stable (by assumption) ?_
      | refine some_stable (by assumption) ?_ | refine some_stable2 (by assumption) ?_
      | refine snd2_stable (by assumption) ?_ | dsimp only

theorem startGo_stable (hP : StableIn P true) {x0 x1 x2 x3 x4} (h4 : P x4.2) : P (startGo x0 x1 x2 x3 x4) := by
  unfold startGo
  try dsimp only
  with_reducible repeat' first
      | assumption | intro _ | apply State.setBoot_stable hP | apply redOut_stable hP | apply tellImage_stable hP
      | apply startRest_stable hP | apply coldNow_stable hP | apply ite_stable (P := P) | apply ite_st (P := P)
      | apply ite_sec (P := P) | apply ite_snd (P := P) | apply ite_snd2 (P := P) | apply ite_fst (P := P)
      | apply OptS.some (P := P) | exact OptS.none | apply OptS2.some (P := P) | exact OptS2.none
      | apply OptS.bind (P := P) | apply OptS.bind2 (P := P) | apply OptS.map (P := P) | apply OptS.map0 (P := P)
      | apply OptS2.map (P := P) | apply OptS.getD (P := P) | apply OptS.ite (P := P) | apply OptS2.ite (P := P)
      | apply id_stable (P := P) | apply foldl_stable (P := P) | apply foldl_stable2 (P := P)
      | apply foldl_stable1 (P := P) | split | refine snd2_stable (by assumption) ?_
      | refine snd_stable (by assumption) ?_ | refine fst_stable (by assumption) ?_
      | refine some_stable (by assumption) ?_ | refine some_stable2 (by assumption) ?_ | dsimp only

theorem giveToken_stable (hP : StableIn P free) {x0 x1} (h1 : P x1) : P (giveToken x0 x1) := by
  unfold giveToken
  try dsimp only
  with_reducible repeat' first
      | assumption | intro _ | apply hP.put | apply State.setBoot_stable hP | dsimp only

theorem imageRead_stable (hP : StableIn P free) {x0 x1 x2} (h2 : P x2) : P (imageRead x0 x1 x2) := by
  unfold imageRead
  try dsimp only
  with_reducible repeat' first
      | assumption | intro _ | apply readLines_stable hP | apply ite_stable (P := P) | apply ite_st (P := P)
      | apply ite_sec (P := P) | apply ite_snd (P := P) | apply ite_snd2 (P := P) | apply ite_fst (P := P)
      | apply OptS.some (P := P) | exact OptS.none | apply OptS2.some (P := P) | exact OptS2.none
      | apply OptS.bind (P := P) | apply OptS.bind2 (P := P) | apply OptS.map (P := P) | apply OptS.map0 (P := P)
      | apply OptS2.map (P := P) | apply OptS.getD (P := P) | apply OptS.ite (P := P) | apply OptS2.ite (P := P)
      | apply id_stable (P := P) | apply foldl_stable (P := P) | apply foldl_stable2 (P := P)
      | apply foldl_stable1 (P := P) | split | refine snd2_stable (by assumption) ?_
      | refine snd_stable (by assumption) ?_ | refine fst_stable (by assumption) ?_
      | refine some_stable (by assumption) ?_ | refine some_stable2 (by assumption) ?_ | dsimp only

theorem headerRead_stable (hP : StableIn P free) {x0 x1} (h1 : P x1) : P (headerRead x0 x1) := by
  unfold headerRead
  try dsimp only
  with_reducible repeat' first
      | assumption | intro _ | apply readLines_stable hP | apply ite_stable (P := P) | apply ite_st (P := P)
      | apply ite_sec (P := P) | apply ite_snd (P := P) | apply ite_snd2 (P := P) | apply ite_fst (P := P)
      | apply id_stable (P := P) | dsimp only

theorem verifyRegion_stable (hP : StableIn P free) {x0 x1} (h1 : P x1) : P (verifyRegion x0 x1).2 := by
  unfold verifyRegion
  try dsimp only
  with_reducible repeat' first
      | assumption | intro _ | apply headerRead_stable hP | apply imageRead_stable hP | apply ite_stable (P := P)
      | apply ite_st (P := P) | apply ite_sec (P := P) | apply ite_snd (P := P) | apply ite_snd2 (P := P)
      | apply ite_fst (P := P) | apply id_stable (P := P) | dsimp only

theorem chooseImage_stable (hP : StableIn P free) {x0 x1 x2} (h2 : P x2) : P (chooseImage x0 x1 x2).2 := by
  fun_induction chooseImage x0 x1 x2 <;> (with_reducible repeat' first
      | assumption | intro _ | apply headerRead_stable hP | apply verifyRegion_stable hP | apply giveToken_stable hP
      | apply State.report_stable hP | refine ‹P _ → P _› ?_ | refine ‹P _ → OptS P _› ?_
      | refine ‹∀ t, P t → OptS P _› _ ?_ | apply ite_stable (P := P) | apply ite_st (P := P) | apply ite_sec (P := P)
      | apply ite_snd (P := P) | apply ite_snd2 (P := P) | apply ite_fst (P := P) | apply OptS.some (P := P)
      | exact OptS.none | apply OptS2.some (P := P) | exact OptS2.none | apply OptS.bind (P := P)
      | apply OptS.bind2 (P := P) | apply OptS.map (P := P) | apply OptS.map0 (P := P) | apply OptS2.map (P := P)
      | apply OptS.getD (P := P) | apply OptS.ite (P := P) | apply OptS2.ite (P := P) | apply id_stable (P := P)
      | apply foldl_stable (P := P) | apply foldl_stable2 (P := P) | apply foldl_stable1 (P := P) | split
      | refine snd2_stable (by assumption) ?_ | refine snd_stable (by assumption) ?_
      | refine fst_stable (by assumption) ?_ | refine some_stable (by assumption) ?_
      | refine some_stable2 (by assumption) ?_ | dsimp +zetaDelta only | dsimp only)

theorem startImage_stable (hP : StableIn P free) {x0 x1} (h1 : P x1) : P (startImage x0 x1).2 := by
  unfold startImage
  try dsimp only
  with_reducible repeat' first
      | assumption | intro _ | apply chooseImage_stable hP | apply ite_stable (P := P) | apply ite_snd (P := P)
      | dsimp only

theorem startRun_stable (hP : StableIn P true) {x0 x1 x2 x3} (h3 : P x3) : P (startRun x0 x1 x2 x3) := by
  unfold startRun
  try dsimp only
  with_reducible repeat' first
      | assumption | intro _ | apply trimApply_stable hP | apply bootRecord_stable hP | apply cutHost_stable hP
      | apply startReset_stable hP | apply otpShow_stable hP | apply trngShow_stable hP | apply flashStart_stable hP
      | apply startWarm_stable hP | apply startCold_stable hP | apply startStore_stable hP | apply startVio_stable hP
      | apply startLinks_stable hP | apply redOut_stable hP | apply bootfail_stable hP | apply startImage_stable hP
      | apply startGo_stable hP | apply wipeSteps_stable hP | apply ite_stable (P := P) | apply ite_st (P := P)
      | apply ite_sec (P := P) | apply ite_snd (P := P) | apply ite_snd2 (P := P) | apply ite_fst (P := P)
      | apply OptS.some (P := P) | exact OptS.none | apply OptS2.some (P := P) | exact OptS2.none
      | apply OptS.bind (P := P) | apply OptS.bind2 (P := P) | apply OptS.map (P := P) | apply OptS.map0 (P := P)
      | apply OptS2.map (P := P) | apply OptS.getD (P := P) | apply OptS.ite (P := P) | apply OptS2.ite (P := P)
      | apply id_stable (P := P) | apply foldl_stable (P := P) | apply foldl_stable2 (P := P)
      | apply foldl_stable1 (P := P) | split | refine snd2_stable (by assumption) ?_
      | refine snd_stable (by assumption) ?_ | refine fst_stable (by assumption) ?_
      | refine some_stable (by assumption) ?_ | refine some_stable2 (by assumption) ?_ | dsimp only

theorem execColdStart_stable (hP : StableIn P true) {x0 x1} (h1 : P x1) : OutS P (execColdStart x0 x1) := by
  unfold execColdStart
  try dsimp only
  with_reducible repeat' first
      | assumption | intro _ | apply startRun_stable hP | apply OutS.next (P := P) | exact OutS.fault
      | apply ite_stable (P := P) | apply OutS.ite (P := P) | split | refine snd_stable (by assumption) ?_
      | refine fst_stable (by assumption) ?_ | refine some_stable (by assumption) ?_
      | refine some_stable2 (by assumption) ?_ | refine snd2_stable (by assumption) ?_ | dsimp only

theorem execWarmStart_stable (hP : StableIn P true) {x0 x1} (h1 : P x1) : OutS P (execWarmStart x0 x1) := by
  unfold execWarmStart
  try dsimp only
  with_reducible repeat' first
      | assumption | intro _ | apply startRun_stable hP | apply OutS.next (P := P) | exact OutS.fault
      | apply ite_stable (P := P) | apply OutS.ite (P := P) | split | refine snd_stable (by assumption) ?_
      | refine fst_stable (by assumption) ?_ | refine some_stable (by assumption) ?_
      | refine some_stable2 (by assumption) ?_ | refine snd2_stable (by assumption) ?_ | dsimp only

theorem dogStart_stable (hP : StableIn P free) {x0} (h0 : P x0) : P (dogStart x0) := by
  unfold dogStart
  try dsimp only
  with_reducible repeat' first
      | assumption | intro _ | apply hP.put | apply dogRestart_stable hP | apply State.putB_stable hP | dsimp only

theorem handBanks_stable (hP : StableIn P free) {x0 x1} (h1 : P x1) : P (handBanks x0 x1) := by
  unfold handBanks
  try dsimp only
  with_reducible repeat' first
      | assumption | intro _ | apply hP.put | apply State.putIf_stable hP | dsimp only

theorem bootCore_stable (hP : StableIn P free) {x0 x1} (h1 : P x1) : P (bootCore x0 x1) := by
  unfold bootCore
  try dsimp only
  with_reducible repeat' first
      | assumption | intro _ | apply coreStart_stable hP | apply handBanks_stable hP | dsimp only

theorem handoff_stable (hP : StableIn P free) {x0 x1 x2} (h2 : P x2) : P (handoff x0 x1 x2) := by
  unfold handoff
  try dsimp only
  with_reducible repeat' first
      | assumption | intro _ | apply hP.put | apply redOut_stable hP | apply State.setBoot_stable hP
      | apply bootfail_stable hP | apply startLatch_stable hP | apply dogStart_stable hP | apply bootCore_stable hP
      | apply setDevState_stable hP | apply ite_stable (P := P) | split | refine snd_stable (by assumption) ?_
      | refine fst_stable (by assumption) ?_ | refine some_stable (by assumption) ?_
      | refine some_stable2 (by assumption) ?_ | refine snd2_stable (by assumption) ?_ | dsimp only

theorem execStartHandoff_stable (hP : StableIn P free) {x0 x1} (h1 : P x1) : OutS P (execStartHandoff x0 x1) := by
  unfold execStartHandoff
  try dsimp only
  with_reducible repeat' first
      | assumption | intro _ | apply handoff_stable hP | apply OutS.next (P := P) | split
      | refine snd_stable (by assumption) ?_ | refine fst_stable (by assumption) ?_
      | refine some_stable (by assumption) ?_ | refine some_stable2 (by assumption) ?_
      | refine snd2_stable (by assumption) ?_ | dsimp only

theorem execResetPin_stable (hP : StableIn P true) {x0} (h0 : P x0) : OutS P (execResetPin x0) := by
  unfold execResetPin
  try dsimp only
  with_reducible repeat' first
      | assumption | intro _ | apply coldDue_stable hP | apply assertReset_stable hP | apply OutS.next (P := P)
      | dsimp only

theorem execViosLoss_stable (hP : StableIn P true) {x0} (h0 : P x0) : OutS P (execViosLoss x0) := by
  unfold execViosLoss
  try dsimp only
  with_reducible repeat' first
      | assumption | intro _ | apply assertReset_stable hP | apply State.setPower_stable hP | apply OutS.next (P := P)
      | dsimp only

theorem execViosReturn_stable (hP : StableIn P free) {x0} (h0 : P x0) : OutS P (execViosReturn x0) := by
  unfold execViosReturn
  try dsimp only
  with_reducible repeat' first
      | assumption | intro _ | apply coldDue_stable hP | apply State.setPower_stable hP | apply OutS.next (P := P)
      | apply ite_stable (P := P) | apply OutS.ite (P := P) | dsimp only

theorem execGoodw_stable (hP : StableIn P free) {x0 x1} (h1 : P x1) : OutS P (execGoodw x0 x1) := by
  unfold execGoodw
  try dsimp only
  with_reducible repeat' first
      | assumption | intro _ | apply afterTokens_stable hP | apply onIsland_stable hP | apply startWrite_stable hP
      | apply OutS.next (P := P) | exact OutS.fault | apply OutS.ite (P := P) | apply ite_stable (P := P)
      | apply ite_st (P := P) | apply ite_sec (P := P) | apply ite_snd (P := P) | apply ite_snd2 (P := P)
      | apply ite_fst (P := P) | apply id_stable (P := P) | dsimp only

theorem execWdkick_stable (hP : StableIn P free) {x0 x1 x2} (h2 : P x2) : OutS P (execWdkick x0 x1 x2) := by
  unfold execWdkick
  try dsimp only
  with_reducible repeat' first
      | assumption | intro _ | apply afterTokens_stable hP | apply onIsland_stable hP | apply dogKick_stable hP
      | apply OutS.next (P := P) | exact OutS.fault | apply OutS.ite (P := P) | apply ite_stable (P := P)
      | apply ite_st (P := P) | apply ite_sec (P := P) | apply ite_snd (P := P) | apply ite_snd2 (P := P)
      | apply ite_fst (P := P) | apply id_stable (P := P) | dsimp only

theorem execWdogExpiry_stable (hP : StableIn P free) {x0} (h0 : P x0) : OutS P (execWdogExpiry x0) := by
  unfold execWdogExpiry
  try dsimp only
  with_reducible repeat' first
      | assumption | intro _ | apply hP.put | apply State.setBoot_stable hP | apply State.advanceTo_stable hP
      | apply State.elapse_stable hP | apply State.report_stable hP | apply bootfail_stable hP
      | apply OutS.next (P := P) | exact OutS.fault | apply OutS.ite (P := P) | apply ite_stable (P := P)
      | apply ite_st (P := P) | apply ite_sec (P := P) | apply ite_snd (P := P) | apply ite_snd2 (P := P)
      | apply ite_fst (P := P) | apply id_stable (P := P) | dsimp only

theorem execBootcfgWrite_stable (hP : StableIn P free) {x0 x1 x2} (h2 : P x2) : OutS P (execBootcfgWrite x0 x1 x2) := by
  unfold execBootcfgWrite
  try dsimp only
  with_reducible repeat' first
      | assumption | intro _ | apply afterTokens_stable hP | apply onIsland_stable hP | apply bootcfgWrite_stable hP
      | apply OutS.next (P := P) | exact OutS.fault | apply OutS.ite (P := P) | apply ite_stable (P := P)
      | apply ite_st (P := P) | apply ite_sec (P := P) | apply ite_snd (P := P) | apply ite_snd2 (P := P)
      | apply ite_fst (P := P) | apply id_stable (P := P) | dsimp only

theorem execRollfwd_stable (hP : StableIn P free) {x0 x1} (h1 : P x1) : OutS P (execRollfwd x0 x1) := by
  unfold execRollfwd
  try dsimp only
  with_reducible repeat' first
      | assumption | intro _ | apply afterTokens_stable hP | apply onIsland_stable hP | apply otpCommand_stable hP
      | apply OutS.next (P := P) | exact OutS.fault | apply OutS.ite (P := P) | apply ite_stable (P := P)
      | apply ite_st (P := P) | apply ite_sec (P := P) | apply ite_snd (P := P) | apply ite_snd2 (P := P)
      | apply ite_fst (P := P) | apply id_stable (P := P) | dsimp only

theorem execRevoke_stable (hP : StableIn P free) {x0 x1 x2} (h2 : P x2) : OutS P (execRevoke x0 x1 x2) := by
  unfold execRevoke
  try dsimp only
  with_reducible repeat' first
      | assumption | intro _ | apply afterTokens_stable hP | apply onIsland_stable hP | apply otpCommand_stable hP
      | apply OutS.next (P := P) | exact OutS.fault | apply OutS.ite (P := P) | apply ite_stable (P := P)
      | apply ite_st (P := P) | apply ite_sec (P := P) | apply ite_snd (P := P) | apply ite_snd2 (P := P)
      | apply ite_fst (P := P) | apply id_stable (P := P) | dsimp only

theorem execProgkey_stable (hP : StableIn P free) {x0 x1 x2} (h2 : P x2) : OutS P (execProgkey x0 x1 x2) := by
  unfold execProgkey
  try dsimp only
  with_reducible repeat' first
      | assumption | intro _ | apply afterTokens_stable hP | apply onIsland_stable hP | apply otpCommand_stable hP
      | apply OutS.next (P := P) | exact OutS.fault | apply OutS.ite (P := P) | apply ite_stable (P := P)
      | apply ite_st (P := P) | apply ite_sec (P := P) | apply ite_snd (P := P) | apply ite_snd2 (P := P)
      | apply ite_fst (P := P) | apply id_stable (P := P) | dsimp only

theorem execProghost_stable (hP : StableIn P free) {x0 x1} (h1 : P x1) : OutS P (execProghost x0 x1) := by
  unfold execProghost
  try dsimp only
  with_reducible repeat' first
      | assumption | intro _ | apply afterTokens_stable hP | apply onIsland_stable hP | apply otpCommand_stable hP
      | apply OutS.next (P := P) | exact OutS.fault | apply OutS.ite (P := P) | apply ite_stable (P := P)
      | apply ite_st (P := P) | apply ite_sec (P := P) | apply ite_snd (P := P) | apply ite_snd2 (P := P)
      | apply ite_fst (P := P) | apply id_stable (P := P) | dsimp only

theorem execProgdbg_stable (hP : StableIn P free) {x0 x1} (h1 : P x1) : OutS P (execProgdbg x0 x1) := by
  unfold execProgdbg
  try dsimp only
  with_reducible repeat' first
      | assumption | intro _ | apply afterTokens_stable hP | apply onIsland_stable hP | apply otpCommand_stable hP
      | apply OutS.next (P := P) | exact OutS.fault | apply OutS.ite (P := P) | apply ite_stable (P := P)
      | apply ite_st (P := P) | apply ite_sec (P := P) | apply ite_snd (P := P) | apply ite_snd2 (P := P)
      | apply ite_fst (P := P) | apply id_stable (P := P) | dsimp only

theorem runHead_stable (hP : StableIn P free) {x0 x1 x2} (hk1 : ∀ y0 y1, P y1 → P (x1 y0 y1).st) (h2 : P x2) : P (runHead x0 x1 x2) := by
  unfold runHead
  try dsimp only
  with_reducible repeat' first
      | assumption | intro _ | apply hk1 | apply State.setSec_stable hP | apply ite_stable (P := P) | split
      | refine snd_stable (by assumption) ?_ | refine fst_stable (by assumption) ?_
      | refine some_stable (by assumption) ?_ | refine some_stable2 (by assumption) ?_
      | refine snd2_stable (by assumption) ?_ | dsimp only

theorem secRead_stable (hP : StableIn P free) {x0 x1 x2} (h2 : P x2) : P (secRead x0 x1 x2).2 := by
  unfold secRead
  try dsimp only
  with_reducible repeat' first
      | assumption | intro _ | apply bankReads_stable hP | apply ite_stable (P := P) | apply ite_snd (P := P)
      | dsimp only

theorem secEnd_stable (hP : StableIn P free) {x0 x1} (h1 : P x1) : P (secEnd x0 x1).st := by
  unfold secEnd
  try dsimp only
  with_reducible repeat' first
      | assumption | intro _ | dsimp only

theorem withOctets_stable (hP : StableIn P free) {x0 x1 x2 x3} (h2 : P x2) (hk3 : ∀ y0 y1, P y1 → P (x3 y0 y1).st) : P (withOctets x0 x1 x2 x3).st := by
  unfold withOctets
  try dsimp only
  with_reducible repeat' first
      | assumption | intro _ | apply hk3 | apply secRead_stable hP | apply secEnd_stable hP | split
      | refine snd_stable (by assumption) ?_ | refine fst_stable (by assumption) ?_
      | refine some_stable (by assumption) ?_ | refine some_stable2 (by assumption) ?_
      | refine snd2_stable (by assumption) ?_ | dsimp only

theorem secPut_stable (hP : StableIn P free) {x0 x1 x2} (h2 : P x2) : P (secPut x0 x1 x2).st := by
  unfold secPut
  try dsimp only
  with_reducible repeat' first
      | assumption | intro _ | apply secEnd_stable hP | apply bankWrites_stable hP | apply ite_stable (P := P)
      | apply ite_st (P := P) | apply ite_sec (P := P) | dsimp only

theorem opHash_stable (hP : StableIn P free) {x0 x1} (h1 : P x1) : P (opHash x0 x1).st := by
  unfold opHash
  try dsimp only
  with_reducible repeat' first
      | assumption | intro _ | apply withOctets_stable hP | apply secPut_stable hP | dsimp only

theorem execHash_stable (hP : StableIn P free) {x0} (h0 : P x0) : OutS P (execHash x0) := by
  unfold execHash
  try dsimp only
  with_reducible repeat' first
      | assumption | intro _ | apply runHead_stable hP | apply opHash_stable hP | apply OutS.next (P := P) | dsimp only

theorem opHashw_stable (hP : StableIn P free) {x0 x1} (h1 : P x1) : P (opHashw x0 x1).st := by
  unfold opHashw
  try dsimp only
  with_reducible repeat' first
      | assumption | intro _ | apply secEnd_stable hP | apply bankReads_stable hP | apply secPut_stable hP
      | apply ite_stable (P := P) | apply ite_st (P := P) | apply ite_sec (P := P) | split
      | refine snd_stable (by assumption) ?_ | refine fst_stable (by assumption) ?_
      | refine some_stable (by assumption) ?_ | refine some_stable2 (by assumption) ?_
      | refine snd2_stable (by assumption) ?_ | dsimp only

theorem execHashw_stable (hP : StableIn P free) {x0} (h0 : P x0) : OutS P (execHashw x0) := by
  unfold execHashw
  try dsimp only
  with_reducible repeat' first
      | assumption | intro _ | apply runHead_stable hP | apply opHashw_stable hP | apply OutS.next (P := P) | dsimp only

theorem opVerify_stable (hP : StableIn P free) {x0 x1} (h1 : P x1) : P (opVerify x0 x1).st := by
  unfold opVerify
  try dsimp only
  with_reducible repeat' first
      | assumption | intro _ | apply secEnd_stable hP | apply withOctets_stable hP | apply ite_stable (P := P)
      | apply ite_st (P := P) | apply ite_sec (P := P) | dsimp only

theorem execVerify_stable (hP : StableIn P free) {x0} (h0 : P x0) : OutS P (execVerify x0) := by
  unfold execVerify
  try dsimp only
  with_reducible repeat' first
      | assumption | intro _ | apply runHead_stable hP | apply opVerify_stable hP | apply OutS.next (P := P)
      | dsimp only

theorem opSign_stable (hP : StableIn P free) {x0 x1 x2} (h2 : P x2) : P (opSign x0 x1 x2).st := by
  unfold opSign
  try dsimp only
  with_reducible repeat' first
      | assumption | intro _ | apply secEnd_stable hP | apply withOctets_stable hP | apply secPut_stable hP
      | apply State.draw_stable hP | apply ite_stable (P := P) | apply ite_st (P := P) | apply ite_sec (P := P)
      | dsimp only

theorem execSign_stable (hP : StableIn P free) {x0 x1} (h1 : P x1) : OutS P (execSign x0 x1) := by
  unfold execSign
  try dsimp only
  with_reducible repeat' first
      | assumption | intro _ | apply runHead_stable hP | apply opSign_stable hP | apply OutS.next (P := P) | dsimp only

theorem opRandom_stable (hP : StableIn P free) {x0 x1} (h1 : P x1) : P (opRandom x0 x1).st := by
  unfold opRandom
  try dsimp only
  with_reducible repeat' first
      | assumption | intro _ | apply secEnd_stable hP | apply secPut_stable hP | apply State.drawn_stable hP
      | apply ite_stable (P := P) | apply ite_st (P := P) | apply ite_sec (P := P) | dsimp only

theorem execRandom_stable (hP : StableIn P free) {x0} (h0 : P x0) : OutS P (execRandom x0) := by
  unfold execRandom
  try dsimp only
  with_reducible repeat' first
      | assumption | intro _ | apply runHead_stable hP | apply opRandom_stable hP | apply OutS.next (P := P)
      | dsimp only

theorem putHandle_stable (hP : StableIn P free) {x0 x1 x2} (h2 : P x2) : P (putHandle x0 x1 x2) := by
  unfold putHandle
  try dsimp only
  with_reducible repeat' first
      | assumption | intro _ | apply hP.put | apply State.setSec_stable hP | dsimp only

theorem opKeyload_stable (hP : StableIn P free) {x0 x1} (h1 : P x1) : P (opKeyload x0 x1).st := by
  unfold opKeyload
  try dsimp only
  with_reducible repeat' first
      | assumption | intro _ | apply hP.put | apply secEnd_stable hP | apply withOctets_stable hP
      | apply putHandle_stable hP | apply ite_stable (P := P) | apply ite_st (P := P) | apply ite_sec (P := P)
      | dsimp only

theorem execKeyload_stable (hP : StableIn P free) {x0} (h0 : P x0) : OutS P (execKeyload x0) := by
  unfold execKeyload
  try dsimp only
  with_reducible repeat' first
      | assumption | intro _ | apply runHead_stable hP | apply opKeyload_stable hP | apply OutS.next (P := P)
      | dsimp only

theorem opGcmEnc_stable (hP : StableIn P free) {x0 x1} (h1 : P x1) : P (opGcmEnc x0 x1).st := by
  unfold opGcmEnc
  try dsimp only
  with_reducible repeat' first
      | assumption | intro _ | apply secEnd_stable hP | apply withOctets_stable hP | apply secPut_stable hP | split
      | refine snd_stable (by assumption) ?_ | refine fst_stable (by assumption) ?_
      | refine some_stable (by assumption) ?_ | refine some_stable2 (by assumption) ?_
      | refine snd2_stable (by assumption) ?_ | dsimp only

theorem execGcmEnc_stable (hP : StableIn P free) {x0} (h0 : P x0) : OutS P (execGcmEnc x0) := by
  unfold execGcmEnc
  try dsimp only
  with_reducible repeat' first
      | assumption | intro _ | apply runHead_stable hP | apply opGcmEnc_stable hP | apply OutS.next (P := P)
      | dsimp only

theorem opGcmDec_stable (hP : StableIn P free) {x0 x1} (h1 : P x1) : P (opGcmDec x0 x1).st := by
  unfold opGcmDec
  try dsimp only
  with_reducible repeat' first
      | assumption | intro _ | apply secEnd_stable hP | apply withOctets_stable hP | apply secPut_stable hP
      | apply ite_stable (P := P) | apply ite_st (P := P) | apply ite_sec (P := P) | split
      | refine snd_stable (by assumption) ?_ | refine fst_stable (by assumption) ?_
      | refine some_stable (by assumption) ?_ | refine some_stable2 (by assumption) ?_
      | refine snd2_stable (by assumption) ?_ | dsimp only

theorem execGcmDec_stable (hP : StableIn P free) {x0} (h0 : P x0) : OutS P (execGcmDec x0) := by
  unfold execGcmDec
  try dsimp only
  with_reducible repeat' first
      | assumption | intro _ | apply runHead_stable hP | apply opGcmDec_stable hP | apply OutS.next (P := P)
      | dsimp only

theorem execSecurityRequestDone_stable (hP : StableIn P free) {x0} (h0 : P x0) : OutS P (execSecurityRequestDone x0) := by
  unfold execSecurityRequestDone
  try dsimp only
  with_reducible repeat' first
      | assumption | intro _ | apply secShow_stable hP | apply State.setSec_stable hP | apply OutS.next (P := P)
      | apply ite_stable (P := P) | apply OutS.ite (P := P) | split | refine snd_stable (by assumption) ?_
      | refine fst_stable (by assumption) ?_ | refine some_stable (by assumption) ?_
      | refine some_stable2 (by assumption) ?_ | refine snd2_stable (by assumption) ?_ | dsimp only

theorem execTrngHealth_stable (hP : StableIn P free) {x0} (h0 : P x0) : OutS P (execTrngHealth x0) := by
  unfold execTrngHealth
  try dsimp only
  with_reducible repeat' first
      | assumption | intro _ | apply hP.put | apply State.report_stable hP | apply OutS.next (P := P) | dsimp only

theorem authDrop_stable (hP : StableIn P free) {x0 x1} (h1 : P x1) : P (authDrop x0 x1) := by
  unfold authDrop
  try dsimp only
  with_reducible repeat' first
      | assumption | intro _ | apply State.report_stable hP | apply State.incSat_stable hP | dsimp only

theorem replayDrop_stable (hP : StableIn P free) {x0 x1} (h1 : P x1) : P (replayDrop x0 x1) := by
  unfold replayDrop
  try dsimp only
  with_reducible repeat' first
      | assumption | intro _ | apply respond_stable hP | apply State.report_stable hP | apply State.incSat_stable hP
      | dsimp only

theorem slateOpen_stable (hP : StableIn P free) {x0 x1 x2 x3 x4} (h4 : P x4) : P (slateOpen x0 x1 x2 x3 x4) := by
  unfold slateOpen
  try dsimp only
  with_reducible repeat' first
      | assumption | intro _ | apply hP.put | apply authDrop_stable hP | apply replayDrop_stable hP
      | apply slateTake_stable hP | apply State.putSession_stable hP | apply ite_stable (P := P) | split
      | refine snd_stable (by assumption) ?_ | refine fst_stable (by assumption) ?_
      | refine some_stable (by assumption) ?_ | refine some_stable2 (by assumption) ?_
      | refine snd2_stable (by assumption) ?_ | dsimp only

theorem slateFrame_stable (hP : StableIn P free) {x0 x1 x2 x3} (h3 : P x3) : P (slateFrame x0 x1 x2 x3) := by
  unfold slateFrame
  try dsimp only
  with_reducible repeat' first
      | assumption | intro _ | apply hP.put | apply respond_stable hP | apply slateTake_stable hP
      | apply badFrame_stable hP | apply authDrop_stable hP | apply replayDrop_stable hP | apply slateOpen_stable hP
      | apply ite_stable (P := P) | apply ite_st (P := P) | apply ite_sec (P := P) | apply ite_snd (P := P)
      | apply ite_snd2 (P := P) | apply ite_fst (P := P) | apply OptS.some (P := P) | exact OptS.none
      | apply OptS2.some (P := P) | exact OptS2.none | apply OptS.bind (P := P) | apply OptS.bind2 (P := P)
      | apply OptS.map (P := P) | apply OptS.map0 (P := P) | apply OptS2.map (P := P) | apply OptS.getD (P := P)
      | apply OptS.ite (P := P) | apply OptS2.ite (P := P) | apply id_stable (P := P) | apply foldl_stable (P := P)
      | apply foldl_stable2 (P := P) | apply foldl_stable1 (P := P) | split | refine snd2_stable (by assumption) ?_
      | refine snd_stable (by assumption) ?_ | refine fst_stable (by assumption) ?_
      | refine some_stable (by assumption) ?_ | refine some_stable2 (by assumption) ?_ | dsimp only

theorem onFrame_stable (hP : StableIn P free) {x0 x1 x2} (hk1 : ∀ y0, P y0 → P (x1 y0)) (h2 : P x2) : P (onFrame x0 x1 x2) := by
  unfold onFrame
  try dsimp only
  with_reducible repeat' first
      | assumption | intro _ | apply wakeRequest_stable hP | apply islandRestart_stable hP | apply hk1
      | apply ite_stable (P := P) | apply ite_st (P := P) | apply ite_sec (P := P) | apply ite_snd (P := P)
      | apply ite_snd2 (P := P) | apply ite_fst (P := P) | apply id_stable (P := P) | dsimp only

theorem execSlateFrame_stable (hP : StableIn P free) {x0 x1 x2 x3 x4} (h4 : P x4) : OutS P (execSlateFrame x0 x1 x2 x3 x4) := by
  unfold execSlateFrame
  try dsimp only
  with_reducible repeat' first
      | assumption | intro _ | apply onFrame_stable hP | apply State.inc_stable hP | apply slateFrame_stable hP
      | apply OutS.next (P := P) | exact OutS.fault | apply OutS.ite (P := P) | apply ite_stable (P := P)
      | apply ite_st (P := P) | apply ite_sec (P := P) | apply ite_snd (P := P) | apply ite_snd2 (P := P)
      | apply ite_fst (P := P) | apply OptS.some (P := P) | exact OptS.none | apply OptS2.some (P := P)
      | exact OptS2.none | apply OptS.bind (P := P) | apply OptS.bind2 (P := P) | apply OptS.map (P := P)
      | apply OptS.map0 (P := P) | apply OptS2.map (P := P) | apply OptS.getD (P := P) | apply OptS.ite (P := P)
      | apply OptS2.ite (P := P) | apply id_stable (P := P) | apply foldl_stable (P := P)
      | apply foldl_stable2 (P := P) | apply foldl_stable1 (P := P) | split | refine snd2_stable (by assumption) ?_
      | refine snd_stable (by assumption) ?_ | refine fst_stable (by assumption) ?_
      | refine some_stable (by assumption) ?_ | refine some_stable2 (by assumption) ?_ | dsimp only

theorem withRun_stable (hP : StableIn P free) {x0 x1 x2 x3} (hk2 : ∀ y0 y1, P y1 → P (x2 y0 y1)) (h3 : P x3) : P (withRun x0 x1 x2 x3) := by
  unfold withRun
  try dsimp only
  with_reducible repeat' first
      | assumption | intro _ | apply hk2 | apply ite_stable (P := P) | split | refine snd_stable (by assumption) ?_
      | refine fst_stable (by assumption) ?_ | refine some_stable (by assumption) ?_
      | refine some_stable2 (by assumption) ?_ | refine snd2_stable (by assumption) ?_ | dsimp only

theorem finish_stable (hP : StableIn P free) {x0 x1 x2 x3 x4} (h4 : P x4) : P (finish x0 x1 x2 x3 x4) := by
  unfold finish
  try dsimp only
  with_reducible repeat' first
      | assumption | intro _ | apply State.setRun_stable hP | apply State.setCutRun_stable hP
      | apply respond_stable hP | apply ite_stable (P := P) | apply ite_st (P := P) | apply ite_sec (P := P)
      | apply ite_snd (P := P) | apply ite_snd2 (P := P) | apply ite_fst (P := P) | apply id_stable (P := P)
      | dsimp only

theorem openSession_stable (hP : StableIn P free) {x0 x1 x2} (h2 : P x2) : P (openSession x0 x1 x2) := by
  unfold openSession
  try dsimp only
  with_reducible repeat' first
      | assumption | intro _ | apply hP.put | apply State.putSession_stable hP | apply State.drawn_stable hP
      | apply finish_stable hP | dsimp only

theorem execSessionOpen_stable (hP : StableIn P free) {x0 x1} (h1 : P x1) : OutS P (execSessionOpen x0 x1) := by
  unfold execSessionOpen
  try dsimp only
  with_reducible repeat' first
      | assumption | intro _ | apply withRun_stable hP | apply finish_stable hP | apply openSession_stable hP
      | apply OutS.next (P := P) | apply ite_stable (P := P) | apply OutS.ite (P := P) | split
      | refine snd_stable (by assumption) ?_ | refine fst_stable (by assumption) ?_
      | refine some_stable (by assumption) ?_ | refine some_stable2 (by assumption) ?_
      | refine snd2_stable (by assumption) ?_ | dsimp only

theorem finishOk_stable (hP : StableIn P free) {x0 x1} (h1 : P x1) : P (finishOk x0 x1) := by
  unfold finishOk
  try dsimp only
  with_reducible repeat' first
      | assumption | intro _ | apply finish_stable hP | dsimp only

theorem dropHandles_stable (hP : StableIn P free) {x0 x1} (h1 : P x1) : P (dropHandles x0 x1) := by
  unfold dropHandles
  try dsimp only
  with_reducible repeat' first
      | assumption | intro _ | apply State.setSec_stable hP | dsimp only

theorem closeSession_stable (hP : StableIn P free) {x0 x1} (h1 : P x1) : P (closeSession x0 x1) := by
  unfold closeSession
  try dsimp only
  with_reducible repeat' first
      | assumption | intro _ | apply hP.put | apply State.putSession_stable hP | apply dropHandles_stable hP | split
      | dsimp only

theorem keyxRun_stable (hP : StableIn P free) {x0 x1} (h1 : P x1) : P (keyxRun x0 x1) := by
  unfold keyxRun
  try dsimp only
  with_reducible repeat' first
      | assumption | intro _ | apply hP.put | apply State.putSession_stable hP | apply finish_stable hP
      | apply finishOk_stable hP | apply closeSession_stable hP | apply putHandle_stable hP
      | apply ite_stable (P := P) | apply ite_st (P := P) | apply ite_sec (P := P) | apply ite_snd (P := P)
      | apply ite_snd2 (P := P) | apply ite_fst (P := P) | apply OptS.some (P := P) | exact OptS.none
      | apply OptS2.some (P := P) | exact OptS2.none | apply OptS.bind (P := P) | apply OptS.bind2 (P := P)
      | apply OptS.map (P := P) | apply OptS.map0 (P := P) | apply OptS2.map (P := P) | apply OptS.getD (P := P)
      | apply OptS.ite (P := P) | apply OptS2.ite (P := P) | apply id_stable (P := P) | apply foldl_stable (P := P)
      | apply foldl_stable2 (P := P) | apply foldl_stable1 (P := P) | split | refine snd2_stable (by assumption) ?_
      | refine snd_stable (by assumption) ?_ | refine fst_stable (by assumption) ?_
      | refine some_stable (by assumption) ?_ | refine some_stable2 (by assumption) ?_ | dsimp only

theorem execSessionKeyx_stable (hP : StableIn P free) {x0} (h0 : P x0) : OutS P (execSessionKeyx x0) := by
  unfold execSessionKeyx
  try dsimp only
  with_reducible repeat' first
      | assumption | intro _ | apply withRun_stable hP | apply keyxRun_stable hP | apply OutS.next (P := P) | dsimp only

theorem execSessionClose_stable (hP : StableIn P free) {x0} (h0 : P x0) : OutS P (execSessionClose x0) := by
  unfold execSessionClose
  try dsimp only
  with_reducible repeat' first
      | assumption | intro _ | apply withRun_stable hP | apply closeSession_stable hP | apply finishOk_stable hP
      | apply OutS.next (P := P) | apply ite_stable (P := P) | apply OutS.ite (P := P) | split
      | refine snd_stable (by assumption) ?_ | refine fst_stable (by assumption) ?_
      | refine some_stable (by assumption) ?_ | refine some_stable2 (by assumption) ?_
      | refine snd2_stable (by assumption) ?_ | dsimp only

theorem execSessionSak_stable (hP : StableIn P free) {x0} (h0 : P x0) : OutS P (execSessionSak x0) := by
  unfold execSessionSak
  try dsimp only
  with_reducible repeat' first
      | assumption | intro _ | apply hP.put | apply withRun_stable hP | apply finishOk_stable hP
      | apply putHandle_stable hP | apply State.setLink_stable hP | apply OutS.next (P := P) | dsimp only

end Sys2Proof.Machine
end

