-- ==== Sys2Proof/Laws/Stable9.lean ====
section
/-! SUPPORT. Each operation keeps every property that the elementary writes keep (part 9 of 9). -/

set_option linter.all false
set_option maxRecDepth 4000
set_option linter.unreachableTactic false

namespace Sys2Proof.Machine

variable {P : State → Prop} {free : Bool}

theorem execKeyxTimeout_stable (hP : StableIn P free) {x0 x1} (h1 : P x1) : OutS P (execKeyxTimeout x0 x1) := by
  unfold execKeyxTimeout
  try dsimp only
  with_reducible repeat' first
      | assumption | intro _ | apply closeSession_stable hP | apply State.advanceTo_stable hP | apply OutS.next (P := P)
      | apply ite_stable (P := P) | apply OutS.ite (P := P) | dsimp only

theorem execSessionTimeout_stable (hP : StableIn P free) {x0 x1} (h1 : P x1) : OutS P (execSessionTimeout x0 x1) := by
  unfold execSessionTimeout
  try dsimp only
  with_reducible repeat' first
      | assumption | intro _ | apply closeSession_stable hP | apply State.advanceTo_stable hP | apply OutS.next (P := P)
      | apply ite_stable (P := P) | apply OutS.ite (P := P) | dsimp only

theorem execAttest_stable (hP : StableIn P free) {x0 x1} (h1 : P x1) : OutS P (execAttest x0 x1) := by
  unfold execAttest
  try dsimp only
  with_reducible repeat' first
      | assumption | intro _ | apply withRun_stable hP | apply finish_stable hP | apply storeGet_stable hP
      | apply State.drawn_stable hP | apply OutS.next (P := P) | apply ite_stable (P := P) | apply OutS.ite (P := P)
      | split | refine snd_stable (by assumption) ?_ | refine fst_stable (by assumption) ?_
      | refine some_stable (by assumption) ?_ | refine some_stable2 (by assumption) ?_
      | refine snd2_stable (by assumption) ?_ | dsimp only

theorem slateReads_stable (hP : StableIn P free) {x0 x1 x2} (h2 : P x2) : P (slateReads x0 x1 x2).2.2 := by
  fun_induction slateReads x0 x1 x2 <;> (with_reducible repeat' first
      | assumption | intro _ | apply busGet_stable hP | apply ite_stable (P := P) | apply ite_snd2 (P := P) | split
      | refine ‹P _ → P _› ?_ | refine ‹P _ → OptS P _› ?_ | refine ‹∀ t, P t → OptS P _› _ ?_ | dsimp +zetaDelta only
      | dsimp only)

theorem execSlateRead_stable (hP : StableIn P free) {x0} (h0 : P x0) : OutS P (execSlateRead x0) := by
  unfold execSlateRead
  try dsimp only
  with_reducible repeat' first
      | assumption | intro _ | apply withRun_stable hP | apply finish_stable hP | apply slateReads_stable hP
      | apply OutS.next (P := P) | apply ite_stable (P := P) | apply OutS.ite (P := P) | dsimp only

theorem slateWrites_stable (hP : StableIn P free) {x0 x1 x2 x3} (h3 : P x3) : P (slateWrites x0 x1 x2 x3).2.2 := by
  fun_induction slateWrites x0 x1 x2 x3 <;> (with_reducible repeat' first
      | assumption | intro _ | apply busPutHit_stable hP | refine ‹P _ → P _› ?_ | refine ‹P _ → OptS P _› ?_
      | refine ‹∀ t, P t → OptS P _› _ ?_ | apply ite_stable (P := P) | apply ite_st (P := P) | apply ite_sec (P := P)
      | apply ite_snd (P := P) | apply ite_snd2 (P := P) | apply ite_fst (P := P) | apply id_stable (P := P)
      | dsimp +zetaDelta only | dsimp only)

theorem execSlateWrite_stable (hP : StableIn P free) {x0 x1} (h0 : P x0) : OutS P (execSlateWrite x0 x1) := by
  unfold execSlateWrite
  try dsimp only
  with_reducible repeat' first
      | assumption | intro _ | apply withRun_stable hP | apply slateWrites_stable hP | apply finish_stable hP
      | apply OutS.next (P := P) | exact OutS.fault | apply OutS.ite (P := P) | apply ite_stable (P := P)
      | apply ite_st (P := P) | apply ite_sec (P := P) | apply ite_snd (P := P) | apply ite_snd2 (P := P)
      | apply ite_fst (P := P) | apply OptS.some (P := P) | exact OptS.none | apply OptS2.some (P := P)
      | exact OptS2.none | apply OptS.bind (P := P) | apply OptS.bind2 (P := P) | apply OptS.map (P := P)
      | apply OptS.map0 (P := P) | apply OptS2.map (P := P) | apply OptS.getD (P := P) | apply OptS.ite (P := P)
      | apply OptS2.ite (P := P) | apply id_stable (P := P) | apply foldl_stable (P := P)
      | apply foldl_stable2 (P := P) | apply foldl_stable1 (P := P) | split | refine snd2_stable (by assumption) ?_
      | refine snd_stable (by assumption) ?_ | refine fst_stable (by assumption) ?_
      | refine some_stable (by assumption) ?_ | refine some_stable2 (by assumption) ?_ | dsimp only

theorem portScene_stable (hP : StableIn P free) {x0 x1} (h1 : P x1) : P (portScene x0 x1) := by
  unfold portScene
  try dsimp only
  with_reducible repeat' first
      | assumption | intro _ | apply hP.put | dsimp only

theorem sensorScene_stable (hP : StableIn P free) {x0 x1} (h1 : P x1) : P (sensorScene x0 x1) := by
  unfold sensorScene
  try dsimp only
  with_reducible repeat' first
      | assumption | intro _ | apply hP.put | apply hP.wr | apply State.writeReg_stable hP | dsimp only

theorem thermalScene_stable (hP : StableIn P free) {x0 x1} (h1 : P x1) : P (thermalScene x0 x1) := by
  unfold thermalScene
  try dsimp only
  with_reducible repeat' first
      | assumption | intro _ | apply hP.put | apply tempWrite_stable hP | apply foldl_stable (P := P)
      | apply ite_stable (P := P) | dsimp only

theorem sceneApply_stable (hP : StableIn P free) {x0 x1 x2} (h2 : P x2) : P (sceneApply x0 x1 x2) := by
  unfold sceneApply
  try dsimp only
  with_reducible repeat' first
      | assumption | intro _ | apply hP.put | apply hP.wr | apply portScene_stable hP | apply State.writeReg_stable hP
      | apply sensorScene_stable hP | apply thermalScene_stable hP | apply ite_stable (P := P) | split
      | refine snd_stable (by assumption) ?_ | refine fst_stable (by assumption) ?_
      | refine some_stable (by assumption) ?_ | refine some_stable2 (by assumption) ?_
      | refine snd2_stable (by assumption) ?_ | dsimp only

theorem execScene_stable (hP : StableIn P free) {x0} (h0 : P x0) : OutS P (execScene x0) := by
  unfold execScene
  try dsimp only
  with_reducible repeat' first
      | assumption | intro _ | apply gafShow_stable hP | apply refollow_stable hP | apply refreshScene_stable hP
      | apply withRun_stable hP | apply sceneApply_stable hP | apply finish_stable hP | apply finishOk_stable hP
      | apply State.zoneRefresh_stable hP | apply OutS.next (P := P) | exact OutS.fault | apply OutS.ite (P := P)
      | apply ite_stable (P := P) | apply ite_st (P := P) | apply ite_sec (P := P) | apply ite_snd (P := P)
      | apply ite_snd2 (P := P) | apply ite_fst (P := P) | apply OptS.some (P := P) | exact OptS.none
      | apply OptS2.some (P := P) | exact OptS2.none | apply OptS.bind (P := P) | apply OptS.bind2 (P := P)
      | apply OptS.map (P := P) | apply OptS.map0 (P := P) | apply OptS2.map (P := P) | apply OptS.getD (P := P)
      | apply OptS.ite (P := P) | apply OptS2.ite (P := P) | apply id_stable (P := P) | apply foldl_stable (P := P)
      | apply foldl_stable2 (P := P) | apply foldl_stable1 (P := P) | split | refine snd2_stable (by assumption) ?_
      | refine snd_stable (by assumption) ?_ | refine fst_stable (by assumption) ?_
      | refine some_stable (by assumption) ?_ | refine some_stable2 (by assumption) ?_ | dsimp only

theorem execBudget_stable (hP : StableIn P free) {x0} (h0 : P x0) : OutS P (execBudget x0) := by
  unfold execBudget
  try dsimp only
  with_reducible repeat' first
      | assumption | intro _ | apply hP.put | apply gafShow_stable hP | apply restoreClocks_stable hP
      | apply withRun_stable hP | apply finishOk_stable hP | apply OutS.next (P := P) | exact OutS.fault
      | apply OutS.ite (P := P) | apply ite_stable (P := P) | apply ite_st (P := P) | apply ite_sec (P := P)
      | apply ite_snd (P := P) | apply ite_snd2 (P := P) | apply ite_fst (P := P) | apply id_stable (P := P)
      | dsimp only

theorem execLatency_stable (hP : StableIn P free) {x0} (h0 : P x0) : OutS P (execLatency x0) := by
  unfold execLatency
  try dsimp only
  with_reducible repeat' first
      | assumption | intro _ | apply withRun_stable hP | apply finish_stable hP | apply finishOk_stable hP
      | apply islTwlWrite_stable hP | apply foldl_stable (P := P) | apply OutS.next (P := P) | apply ite_stable (P := P)
      | apply OutS.ite (P := P) | split | dsimp only

theorem planApply_stable (hP : StableIn P free) {x0 x1} (h1 : P x1) : P (planApply x0 x1) := by
  unfold planApply
  try dsimp only
  with_reducible repeat' first
      | assumption | intro _ | apply hP.wr | apply State.writeReg_stable hP | apply foldl_stable (P := P) | dsimp only

theorem execFailoverPlan_stable (hP : StableIn P free) {x0} (h0 : P x0) : OutS P (execFailoverPlan x0) := by
  unfold execFailoverPlan
  try dsimp only
  with_reducible repeat' first
      | assumption | intro _ | apply withRun_stable hP | apply finish_stable hP | apply finishOk_stable hP
      | apply planApply_stable hP | apply foldl_stable (P := P) | apply OutS.next (P := P) | apply ite_stable (P := P)
      | apply OutS.ite (P := P) | dsimp only

theorem armRun_stable (hP : StableIn P free) {x0 x1 x2 x3} (h3 : P x3) : P (armRun x0 x1 x2 x3) := by
  unfold armRun
  try dsimp only
  with_reducible repeat' first
      | assumption | intro _ | apply finish_stable hP | apply finishOk_stable hP | apply setDevState_stable hP
      | apply ite_stable (P := P) | apply ite_st (P := P) | apply ite_sec (P := P) | apply ite_snd (P := P)
      | apply ite_snd2 (P := P) | apply ite_fst (P := P) | apply OptS.some (P := P) | exact OptS.none
      | apply OptS2.some (P := P) | exact OptS2.none | apply OptS.bind (P := P) | apply OptS.bind2 (P := P)
      | apply OptS.map (P := P) | apply OptS.map0 (P := P) | apply OptS2.map (P := P) | apply OptS.getD (P := P)
      | apply OptS.ite (P := P) | apply OptS2.ite (P := P) | apply id_stable (P := P) | apply foldl_stable (P := P)
      | apply foldl_stable2 (P := P) | apply foldl_stable1 (P := P) | split | refine snd2_stable (by assumption) ?_
      | refine snd_stable (by assumption) ?_ | refine fst_stable (by assumption) ?_
      | refine some_stable (by assumption) ?_ | refine some_stable2 (by assumption) ?_ | dsimp only

theorem execArm_stable (hP : StableIn P free) {x0} (h0 : P x0) : OutS P (execArm x0) := by
  unfold execArm
  try dsimp only
  with_reducible repeat' first
      | assumption | intro _ | apply withRun_stable hP | apply armRun_stable hP | apply OutS.next (P := P)
      | exact OutS.fault | apply OutS.ite (P := P) | apply ite_stable (P := P) | apply ite_st (P := P)
      | apply ite_sec (P := P) | apply ite_snd (P := P) | apply ite_snd2 (P := P) | apply ite_fst (P := P)
      | apply id_stable (P := P) | dsimp only

theorem execSlateRun_stable (hP : StableIn P free) {x0} (h0 : P x0) : OutS P (execSlateRun x0) := by
  unfold execSlateRun
  try dsimp only
  with_reducible repeat' first
      | assumption | intro _ | apply withRun_stable hP | apply armRun_stable hP | apply OutS.next (P := P)
      | exact OutS.fault | apply OutS.ite (P := P) | apply ite_stable (P := P) | apply ite_st (P := P)
      | apply ite_sec (P := P) | apply ite_snd (P := P) | apply ite_snd2 (P := P) | apply ite_fst (P := P)
      | apply id_stable (P := P) | dsimp only

theorem execHoldout_stable (hP : StableIn P free) {x0} (h0 : P x0) : OutS P (execHoldout x0) := by
  unfold execHoldout
  try dsimp only
  with_reducible repeat' first
      | assumption | intro _ | apply withRun_stable hP | apply finishOk_stable hP | apply setDevState_stable hP
      | apply OutS.next (P := P) | apply ite_stable (P := P) | apply OutS.ite (P := P) | dsimp only

theorem execSlateCut_stable (hP : StableIn P free) {x0} (h0 : P x0) : OutS P (execSlateCut x0) := by
  unfold execSlateCut
  try dsimp only
  with_reducible repeat' first
      | assumption | intro _ | apply cutHost_stable hP | apply finishOk_stable hP | apply OutS.next (P := P)
      | exact OutS.fault | apply OutS.ite (P := P) | apply ite_stable (P := P) | apply ite_st (P := P)
      | apply ite_sec (P := P) | apply ite_snd (P := P) | apply ite_snd2 (P := P) | apply ite_fst (P := P)
      | apply OptS.some (P := P) | exact OptS.none | apply OptS2.some (P := P) | exact OptS2.none
      | apply OptS.bind (P := P) | apply OptS.bind2 (P := P) | apply OptS.map (P := P) | apply OptS.map0 (P := P)
      | apply OptS2.map (P := P) | apply OptS.getD (P := P) | apply OptS.ite (P := P) | apply OptS2.ite (P := P)
      | apply id_stable (P := P) | apply foldl_stable (P := P) | apply foldl_stable2 (P := P)
      | apply foldl_stable1 (P := P) | split | refine snd2_stable (by assumption) ?_
      | refine snd_stable (by assumption) ?_ | refine fst_stable (by assumption) ?_
      | refine some_stable (by assumption) ?_ | refine some_stable2 (by assumption) ?_ | dsimp only

theorem execClear_stable (hP : StableIn P free) {x0} (h0 : P x0) : OutS P (execClear x0) := by
  unfold execClear
  try dsimp only
  with_reducible repeat' first
      | assumption | intro _ | apply withRun_stable hP | apply cutClear_stable hP | apply finish_stable hP
      | apply finishOk_stable hP | apply setDevState_stable hP | apply OutS.next (P := P) | apply ite_stable (P := P)
      | apply OutS.ite (P := P) | split | dsimp only

theorem enterSleep_stable (hP : StableIn P free) {x0} (h0 : P x0) : P (enterSleep x0) := by
  unfold enterSleep
  try dsimp only
  with_reducible repeat' first
      | assumption | intro _ | apply hP.put | apply State.setTcRun_stable hP | apply State.setTcSaved_stable hP
      | apply State.setPower_stable hP | apply islandCatchUp_stable hP | apply ddrSleep_stable hP
      | apply grantIn_stable hP | apply flashStop_stable hP | apply ite_stable (P := P) | apply ite_st (P := P)
      | apply ite_sec (P := P) | apply ite_snd (P := P) | apply ite_snd2 (P := P) | apply ite_fst (P := P)
      | apply OptS.some (P := P) | exact OptS.none | apply OptS2.some (P := P) | exact OptS2.none
      | apply OptS.bind (P := P) | apply OptS.bind2 (P := P) | apply OptS.map (P := P) | apply OptS.map0 (P := P)
      | apply OptS2.map (P := P) | apply OptS.getD (P := P) | apply OptS.ite (P := P) | apply OptS2.ite (P := P)
      | apply id_stable (P := P) | apply foldl_stable (P := P) | apply foldl_stable2 (P := P)
      | apply foldl_stable1 (P := P) | split | refine snd2_stable (by assumption) ?_
      | refine snd_stable (by assumption) ?_ | refine fst_stable (by assumption) ?_
      | refine some_stable (by assumption) ?_ | refine some_stable2 (by assumption) ?_ | dsimp only

theorem execSleep_stable (hP : StableIn P free) {x0} (h0 : P x0) : OutS P (execSleep x0) := by
  unfold execSleep
  try dsimp only
  with_reducible repeat' first
      | assumption | intro _ | apply withRun_stable hP | apply finish_stable hP | apply finishOk_stable hP
      | apply setDevState_stable hP | apply enterSleep_stable hP | apply OutS.next (P := P) | exact OutS.fault
      | apply OutS.ite (P := P) | apply ite_stable (P := P) | apply ite_st (P := P) | apply ite_sec (P := P)
      | apply ite_snd (P := P) | apply ite_snd2 (P := P) | apply ite_fst (P := P) | apply OptS.some (P := P)
      | exact OptS.none | apply OptS2.some (P := P) | exact OptS2.none | apply OptS.bind (P := P)
      | apply OptS.bind2 (P := P) | apply OptS.map (P := P) | apply OptS.map0 (P := P) | apply OptS2.map (P := P)
      | apply OptS.getD (P := P) | apply OptS.ite (P := P) | apply OptS2.ite (P := P) | apply id_stable (P := P)
      | apply foldl_stable (P := P) | apply foldl_stable2 (P := P) | apply foldl_stable1 (P := P) | split
      | refine snd2_stable (by assumption) ?_ | refine snd_stable (by assumption) ?_
      | refine fst_stable (by assumption) ?_ | refine some_stable (by assumption) ?_
      | refine some_stable2 (by assumption) ?_ | dsimp only

theorem execReset_stable (hP : StableIn P true) {x0} (h0 : P x0) : OutS P (execReset x0) := by
  unfold execReset
  try dsimp only
  with_reducible repeat' first
      | assumption | intro _ | apply State.setBoot_stable hP | apply withRun_stable hP | apply finishOk_stable hP
      | apply coldNow_stable hP | apply OutS.next (P := P) | exact OutS.fault | apply OutS.ite (P := P)
      | apply ite_stable (P := P) | apply ite_st (P := P) | apply ite_sec (P := P) | apply ite_snd (P := P)
      | apply ite_snd2 (P := P) | apply ite_fst (P := P) | apply OptS.some (P := P) | exact OptS.none
      | apply OptS2.some (P := P) | exact OptS2.none | apply OptS.bind (P := P) | apply OptS.bind2 (P := P)
      | apply OptS.map (P := P) | apply OptS.map0 (P := P) | apply OptS2.map (P := P) | apply OptS.getD (P := P)
      | apply OptS.ite (P := P) | apply OptS2.ite (P := P) | apply id_stable (P := P) | apply foldl_stable (P := P)
      | apply foldl_stable2 (P := P) | apply foldl_stable1 (P := P) | split | refine snd2_stable (by assumption) ?_
      | refine snd_stable (by assumption) ?_ | refine fst_stable (by assumption) ?_
      | refine some_stable (by assumption) ?_ | refine some_stable2 (by assumption) ?_ | dsimp only

theorem loadGoes_stable (hP : StableIn P free) {x0 x1 x2 x3} (h3 : P x3) : P (loadGoes x0 x1 x2 x3) := by
  unfold loadGoes
  try dsimp only
  with_reducible repeat' first
      | assumption | intro _ | apply State.setRun_stable hP | apply ite_stable (P := P) | apply ite_st (P := P)
      | apply ite_sec (P := P) | apply ite_snd (P := P) | apply ite_snd2 (P := P) | apply ite_fst (P := P)
      | apply id_stable (P := P) | dsimp only

theorem loadEraseStart_stable (hP : StableIn P free) {x0 x1} (h1 : P x1) : P (loadEraseStart x0 x1) := by
  unfold loadEraseStart
  try dsimp only
  with_reducible repeat' first
      | assumption | intro _ | apply hP.put | apply State.putFlash_stable hP | apply load_stable hP
      | apply ite_stable (P := P) | apply ite_st (P := P) | apply ite_sec (P := P) | apply ite_snd (P := P)
      | apply ite_snd2 (P := P) | apply ite_fst (P := P) | apply id_stable (P := P) | dsimp only

theorem loadErased_stable (hP : StableIn P free) {x0 x1} (h1 : P x1) : P (loadErased x0 x1) := by
  unfold loadErased
  try dsimp only
  with_reducible repeat' first
      | assumption | intro _ | apply hP.put | apply State.setFlash_stable hP | apply eraseOne_stable hP
      | apply State.putFlash_stable hP | apply load_stable hP | apply ite_stable (P := P) | apply ite_st (P := P)
      | apply ite_sec (P := P) | apply ite_snd (P := P) | apply ite_snd2 (P := P) | apply ite_fst (P := P)
      | apply OptS.some (P := P) | exact OptS.none | apply OptS2.some (P := P) | exact OptS2.none
      | apply OptS.bind (P := P) | apply OptS.bind2 (P := P) | apply OptS.map (P := P) | apply OptS.map0 (P := P)
      | apply OptS2.map (P := P) | apply OptS.getD (P := P) | apply OptS.ite (P := P) | apply OptS2.ite (P := P)
      | apply id_stable (P := P) | apply foldl_stable (P := P) | apply foldl_stable2 (P := P)
      | apply foldl_stable1 (P := P) | split | refine snd2_stable (by assumption) ?_
      | refine snd_stable (by assumption) ?_ | refine fst_stable (by assumption) ?_
      | refine some_stable (by assumption) ?_ | refine some_stable2 (by assumption) ?_ | dsimp only

theorem execLoadErase_stable (hP : StableIn P free) {x0 x1} (h1 : P x1) : OutS P (execLoadErase x0 x1) := by
  unfold execLoadErase
  try dsimp only
  with_reducible repeat' first
      | assumption | intro _ | apply withRun_stable hP | apply loadGoes_stable hP | apply loadEraseStart_stable hP
      | apply loadErased_stable hP | apply finish_stable hP | apply OutS.next (P := P) | exact OutS.fault
      | apply OutS.ite (P := P) | apply ite_stable (P := P) | apply ite_st (P := P) | apply ite_sec (P := P)
      | apply ite_snd (P := P) | apply ite_snd2 (P := P) | apply ite_fst (P := P) | apply OptS.some (P := P)
      | exact OptS.none | apply OptS2.some (P := P) | exact OptS2.none | apply OptS.bind (P := P)
      | apply OptS.bind2 (P := P) | apply OptS.map (P := P) | apply OptS.map0 (P := P) | apply OptS2.map (P := P)
      | apply OptS.getD (P := P) | apply OptS.ite (P := P) | apply OptS2.ite (P := P) | apply id_stable (P := P)
      | apply foldl_stable (P := P) | apply foldl_stable2 (P := P) | apply foldl_stable1 (P := P) | split
      | refine snd2_stable (by assumption) ?_ | refine snd_stable (by assumption) ?_
      | refine fst_stable (by assumption) ?_ | refine some_stable (by assumption) ?_
      | refine some_stable2 (by assumption) ?_ | dsimp only

theorem State.putLoad_stable (hP : StableIn P free) {x0 x1} (h0 : P x0) : P (State.putLoad x0 x1) := by
  unfold State.putLoad
  try dsimp only
  with_reducible repeat' first
      | assumption | intro _ | apply hP.put | apply State.putFlash_stable hP | apply ite_stable (P := P)
      | apply ite_st (P := P) | apply ite_sec (P := P) | apply ite_snd (P := P) | apply ite_snd2 (P := P)
      | apply ite_fst (P := P) | apply id_stable (P := P) | dsimp only

theorem loadProgrammed_stable (hP : StableIn P free) {x0 x1} (h1 : P x1) : P (loadProgrammed x0 x1).2 := by
  unfold loadProgrammed
  try dsimp only
  with_reducible repeat' first
      | assumption | intro _ | apply hP.put | apply programBad_stable hP | apply State.programLine_stable hP
      | apply State.putLoad_stable hP | apply ite_stable (P := P) | apply ite_st (P := P) | apply ite_sec (P := P)
      | apply ite_snd (P := P) | apply ite_snd2 (P := P) | apply ite_fst (P := P) | apply OptS.some (P := P)
      | exact OptS.none | apply OptS2.some (P := P) | exact OptS2.none | apply OptS.bind (P := P)
      | apply OptS.bind2 (P := P) | apply OptS.map (P := P) | apply OptS.map0 (P := P) | apply OptS2.map (P := P)
      | apply OptS.getD (P := P) | apply OptS.ite (P := P) | apply OptS2.ite (P := P) | apply id_stable (P := P)
      | apply foldl_stable (P := P) | apply foldl_stable2 (P := P) | apply foldl_stable1 (P := P) | split
      | refine snd2_stable (by assumption) ?_ | refine snd_stable (by assumption) ?_
      | refine fst_stable (by assumption) ?_ | refine some_stable (by assumption) ?_
      | refine some_stable2 (by assumption) ?_ | dsimp only

theorem execLoadProgram_stable (hP : StableIn P free) {x0 x1} (h1 : P x1) : OutS P (execLoadProgram x0 x1) := by
  unfold execLoadProgram
  try dsimp only
  with_reducible repeat' first
      | assumption | intro _ | apply hP.put | apply targetRead_stable hP | apply voidToken_stable hP
      | apply withRun_stable hP | apply State.putLoad_stable hP | apply loadGoes_stable hP
      | apply loadProgrammed_stable hP | apply finish_stable hP | apply OutS.next (P := P) | exact OutS.fault
      | apply OutS.ite (P := P) | apply ite_stable (P := P) | apply ite_st (P := P) | apply ite_sec (P := P)
      | apply ite_snd (P := P) | apply ite_snd2 (P := P) | apply ite_fst (P := P) | apply OptS.some (P := P)
      | exact OptS.none | apply OptS2.some (P := P) | exact OptS2.none | apply OptS.bind (P := P)
      | apply OptS.bind2 (P := P) | apply OptS.map (P := P) | apply OptS.map0 (P := P) | apply OptS2.map (P := P)
      | apply OptS.getD (P := P) | apply OptS.ite (P := P) | apply OptS2.ite (P := P) | apply id_stable (P := P)
      | apply foldl_stable (P := P) | apply foldl_stable2 (P := P) | apply foldl_stable1 (P := P) | split
      | refine snd2_stable (by assumption) ?_ | refine snd_stable (by assumption) ?_
      | refine fst_stable (by assumption) ?_ | refine some_stable (by assumption) ?_
      | refine some_stable2 (by assumption) ?_ | dsimp only

theorem bootfailLeave_stable (hP : StableIn P true) {x0 x1} (h1 : P x1) : P (bootfailLeave x0 x1) := by
  unfold bootfailLeave
  try dsimp only
  with_reducible repeat' first
      | assumption | intro _ | apply hP.put | apply State.setBoot_stable hP | apply bootSave_stable hP
      | apply bootfail_stable hP | apply coldNow_stable hP | apply ite_stable (P := P) | apply ite_st (P := P)
      | apply ite_sec (P := P) | apply ite_snd (P := P) | apply ite_snd2 (P := P) | apply ite_fst (P := P)
      | apply id_stable (P := P) | dsimp only

theorem execLoadVerify_stable (hP : StableIn P true) {x0} (h0 : P x0) : OutS P (execLoadVerify x0) := by
  unfold execLoadVerify
  try dsimp only
  with_reducible repeat' first
      | assumption | intro _ | apply verifyRegion_stable hP | apply giveToken_stable hP | apply withRun_stable hP
      | apply bootfailLeave_stable hP | apply finish_stable hP | apply OutS.next (P := P) | exact OutS.fault
      | apply OutS.ite (P := P) | apply ite_stable (P := P) | apply ite_st (P := P) | apply ite_sec (P := P)
      | apply ite_snd (P := P) | apply ite_snd2 (P := P) | apply ite_fst (P := P) | apply OptS.some (P := P)
      | exact OptS.none | apply OptS2.some (P := P) | exact OptS2.none | apply OptS.bind (P := P)
      | apply OptS.bind2 (P := P) | apply OptS.map (P := P) | apply OptS.map0 (P := P) | apply OptS2.map (P := P)
      | apply OptS.getD (P := P) | apply OptS.ite (P := P) | apply OptS2.ite (P := P) | apply id_stable (P := P)
      | apply foldl_stable (P := P) | apply foldl_stable2 (P := P) | apply foldl_stable1 (P := P) | split
      | refine snd2_stable (by assumption) ?_ | refine snd_stable (by assumption) ?_
      | refine fst_stable (by assumption) ?_ | refine some_stable (by assumption) ?_
      | refine some_stable2 (by assumption) ?_ | dsimp only

theorem commitCheck_stable (hP : StableIn P free) {x0 x1} (h1 : P x1) : P (commitCheck x0 x1).2 := by
  unfold commitCheck
  try dsimp only
  with_reducible repeat' first
      | assumption | intro _ | apply verifyRegion_stable hP | apply giveToken_stable hP | apply ite_stable (P := P)
      | apply ite_snd (P := P) | dsimp only

theorem execCommit_stable (hP : StableIn P free) {x0} (h0 : P x0) : OutS P (execCommit x0) := by
  unfold execCommit
  try dsimp only
  with_reducible repeat' first
      | assumption | intro _ | apply hP.put | apply withRun_stable hP | apply commitCheck_stable hP
      | apply finish_stable hP | apply bootSave_stable hP | apply finishOk_stable hP | apply State.setBoot_stable hP
      | apply OutS.next (P := P) | apply ite_stable (P := P) | apply OutS.ite (P := P) | split
      | refine snd_stable (by assumption) ?_ | refine fst_stable (by assumption) ?_
      | refine some_stable (by assumption) ?_ | refine some_stable2 (by assumption) ?_
      | refine snd2_stable (by assumption) ?_ | dsimp only

theorem exportRecords_stable (hP : StableIn P free) {x0 x1} (h1 : P x1) : P (exportRecords x0 x1).2 := by
  fun_induction exportRecords x0 x1 <;> (with_reducible repeat' first
      | assumption | intro _ | apply State.drawn_stable hP | apply storeGet_stable hP | split
      | refine snd_stable (by assumption) ?_ | refine fst_stable (by assumption) ?_
      | refine some_stable (by assumption) ?_ | refine some_stable2 (by assumption) ?_
      | refine snd2_stable (by assumption) ?_ | refine ‹P _ → P _› ?_ | refine ‹P _ → OptS P _› ?_
      | refine ‹∀ t, P t → OptS P _› _ ?_ | dsimp +zetaDelta only | dsimp only)

theorem execTrimExport_stable (hP : StableIn P free) {x0} (h0 : P x0) : OutS P (execTrimExport x0) := by
  unfold execTrimExport
  try dsimp only
  with_reducible repeat' first
      | assumption | intro _ | apply withRun_stable hP | apply finish_stable hP | apply exportRecords_stable hP
      | apply OutS.next (P := P) | apply ite_stable (P := P) | apply OutS.ite (P := P) | dsimp only

theorem execTrimImport_stable (hP : StableIn P free) {x0} (h0 : P x0) : OutS P (execTrimImport x0) := by
  unfold execTrimImport
  try dsimp only
  with_reducible repeat' first
      | assumption | intro _ | apply hP.put | apply withRun_stable hP | apply finish_stable hP
      | apply finishOk_stable hP | apply importRecords_stable hP | apply OutS.next (P := P) | exact OutS.fault
      | apply OutS.ite (P := P) | apply ite_stable (P := P) | apply ite_st (P := P) | apply ite_sec (P := P)
      | apply ite_snd (P := P) | apply ite_snd2 (P := P) | apply ite_fst (P := P) | apply OptS.some (P := P)
      | exact OptS.none | apply OptS2.some (P := P) | exact OptS2.none | apply OptS.bind (P := P)
      | apply OptS.bind2 (P := P) | apply OptS.map (P := P) | apply OptS.map0 (P := P) | apply OptS2.map (P := P)
      | apply OptS.getD (P := P) | apply OptS.ite (P := P) | apply OptS2.ite (P := P) | apply id_stable (P := P)
      | apply foldl_stable (P := P) | apply foldl_stable2 (P := P) | apply foldl_stable1 (P := P) | split
      | refine snd2_stable (by assumption) ?_ | refine snd_stable (by assumption) ?_
      | refine fst_stable (by assumption) ?_ | refine some_stable (by assumption) ?_
      | refine some_stable2 (by assumption) ?_ | dsimp only

theorem execRushesStatus_stable (hP : StableIn P free) {x0} (h0 : P x0) : OutS P (execRushesStatus x0) := by
  unfold execRushesStatus
  try dsimp only
  with_reducible repeat' first
      | assumption | intro _ | apply withRun_stable hP | apply slateReads_stable hP | apply finish_stable hP
      | apply OutS.next (P := P) | dsimp only

theorem rushRecords_stable (hP : StableIn P free) {x0 x1 x2 x3} (h3 : P x3) : P (rushRecords x0 x1 x2 x3).2 := by
  fun_induction rushRecords x0 x1 x2 x3 <;> (with_reducible repeat' first
      | assumption | intro _ | apply slateReads_stable hP | apply ite_stable (P := P) | apply ite_snd (P := P) | split
      | refine ‹P _ → P _› ?_ | refine ‹P _ → OptS P _› ?_ | refine ‹∀ t, P t → OptS P _› _ ?_ | dsimp +zetaDelta only
      | dsimp only)

theorem execRushesRead_stable (hP : StableIn P free) {x0} (h0 : P x0) : OutS P (execRushesRead x0) := by
  unfold execRushesRead
  try dsimp only
  with_reducible repeat' first
      | assumption | intro _ | apply withRun_stable hP | apply rushRecords_stable hP | apply finish_stable hP
      | apply OutS.next (P := P) | dsimp only

theorem execRushesTrigger_stable (hP : StableIn P free) {x0} (h0 : P x0) : OutS P (execRushesTrigger x0) := by
  unfold execRushesTrigger
  try dsimp only
  with_reducible repeat' first
      | assumption | intro _ | apply withRun_stable hP | apply finishOk_stable hP | apply rushGo_stable hP
      | apply OutS.next (P := P) | dsimp only

theorem execRushesRearm_stable (hP : StableIn P free) {x0} (h0 : P x0) : OutS P (execRushesRearm x0) := by
  unfold execRushesRearm
  try dsimp only
  with_reducible repeat' first
      | assumption | intro _ | apply withRun_stable hP | apply finish_stable hP | apply finishOk_stable hP
      | apply rushFill_stable hP | apply OutS.next (P := P) | apply ite_stable (P := P) | apply OutS.ite (P := P)
      | dsimp only

theorem execDailies_stable (hP : StableIn P free) {x0} (h0 : P x0) : OutS P (execDailies x0) := by
  unfold execDailies
  try dsimp only
  with_reducible repeat' first
      | assumption | intro _ | apply withRun_stable hP | apply finish_stable hP | apply State.drawn_stable hP
      | apply State.setGaf_stable hP | apply OutS.next (P := P) | apply ite_stable (P := P) | apply OutS.ite (P := P)
      | dsimp only

theorem execLocalGo_stable (hP : StableIn P free) {x0 x1 x2} (h2 : P x2) : OutS P (execLocalGo x0 x1 x2) := by
  unfold execLocalGo
  try dsimp only
  with_reducible repeat' first
      | assumption | intro _ | apply afterTokens_stable hP | apply onIsland_stable hP | apply localCtlWrite_stable hP
      | apply OutS.next (P := P) | exact OutS.fault | apply OutS.ite (P := P) | apply ite_stable (P := P)
      | apply ite_st (P := P) | apply ite_sec (P := P) | apply ite_snd (P := P) | apply ite_snd2 (P := P)
      | apply ite_fst (P := P) | apply id_stable (P := P) | dsimp only

theorem segmentTake_stable (hP : StableIn P free) {x0 x1 x2 x3 x4 x5 x6} (h6 : P x6) : P (segmentTake x0 x1 x2 x3 x4 x5 x6) := by
  unfold segmentTake
  try dsimp only
  with_reducible repeat' first
      | assumption | intro _ | apply slateFrame_stable hP | apply setPart_stable hP | apply ite_stable (P := P)
      | apply id_stable (P := P) | dsimp only

theorem execCanSegment_stable (hP : StableIn P free) {x0 x1 x2 x3 x4 x5 x6} (h6 : P x6) : OutS P (execCanSegment x0 x1 x2 x3 x4 x5 x6) := by
  unfold execCanSegment
  try dsimp only
  with_reducible repeat' first
      | assumption | intro _ | apply onFrame_stable hP | apply setPart_stable hP | apply segmentTake_stable hP
      | apply badFrame_stable hP | apply OutS.next (P := P) | exact OutS.fault | apply OutS.ite (P := P)
      | apply ite_stable (P := P) | apply ite_st (P := P) | apply ite_sec (P := P) | apply ite_snd (P := P)
      | apply ite_snd2 (P := P) | apply ite_fst (P := P) | apply OptS.some (P := P) | exact OptS.none
      | apply OptS2.some (P := P) | exact OptS2.none | apply OptS.bind (P := P) | apply OptS.bind2 (P := P)
      | apply OptS.map (P := P) | apply OptS.map0 (P := P) | apply OptS2.map (P := P) | apply OptS.getD (P := P)
      | apply OptS.ite (P := P) | apply OptS2.ite (P := P) | apply id_stable (P := P) | apply foldl_stable (P := P)
      | apply foldl_stable2 (P := P) | apply foldl_stable1 (P := P) | split | refine snd2_stable (by assumption) ?_
      | refine snd_stable (by assumption) ?_ | refine fst_stable (by assumption) ?_
      | refine some_stable (by assumption) ?_ | refine some_stable2 (by assumption) ?_ | dsimp only

theorem execCanSegmentTimeout_stable (hP : StableIn P free) {x0 x1} (h1 : P x1) : OutS P (execCanSegmentTimeout x0 x1) := by
  unfold execCanSegmentTimeout
  try dsimp only
  with_reducible repeat' first
      | assumption | intro _ | apply badFrame_stable hP | apply setPart_stable hP | apply State.advanceTo_stable hP
      | apply OutS.next (P := P) | split | refine snd_stable (by assumption) ?_ | refine fst_stable (by assumption) ?_
      | refine some_stable (by assumption) ?_ | refine some_stable2 (by assumption) ?_
      | refine snd2_stable (by assumption) ?_ | dsimp only

theorem execReassemblyTimeout_stable (hP : StableIn P free) {x0} (h0 : P x0) : OutS P (execReassemblyTimeout x0) := by
  unfold execReassemblyTimeout
  try dsimp only
  with_reducible repeat' first
      | assumption | intro _ | apply State.setLink_stable hP | apply State.advanceTo_stable hP
      | apply OutS.next (P := P) | split | refine snd_stable (by assumption) ?_ | refine fst_stable (by assumption) ?_
      | refine some_stable (by assumption) ?_ | refine some_stable2 (by assumption) ?_
      | refine snd2_stable (by assumption) ?_ | dsimp only

theorem macTake_stable (hP : StableIn P free) {x0 x1} (h1 : P x1) : P (macTake x0 x1) := by
  unfold macTake
  try dsimp only
  with_reducible repeat' first
      | assumption | intro _ | apply State.inc_stable hP | dsimp only

theorem syncStamp_stable (hP : StableIn P free) {x0 x1 x2} (h2 : P x2) : P (syncStamp x0 x1 x2) := by
  unfold syncStamp
  try dsimp only
  with_reducible repeat' first
      | assumption | intro _ | apply hP.put | apply State.draw_stable hP | apply ite_stable (P := P)
      | apply ite_st (P := P) | apply ite_sec (P := P) | apply ite_snd (P := P) | apply ite_snd2 (P := P)
      | apply ite_fst (P := P) | apply id_stable (P := P) | dsimp only

theorem syncTake_stable (hP : StableIn P free) {x0 x1 x2} (h2 : P x2) : P (syncTake x0 x1 x2) := by
  unfold syncTake
  try dsimp only
  with_reducible repeat' first
      | assumption | intro _ | apply hP.put | apply State.setLink_stable hP | apply macTake_stable hP
      | apply syncStamp_stable hP | apply ite_stable (P := P) | apply ite_st (P := P) | apply ite_sec (P := P)
      | apply ite_snd (P := P) | apply ite_snd2 (P := P) | apply ite_fst (P := P) | apply id_stable (P := P)
      | dsimp only

theorem execPtpSync_stable (hP : StableIn P free) {x0 x1 x2} (h2 : P x2) : OutS P (execPtpSync x0 x1 x2) := by
  unfold execPtpSync
  try dsimp only
  with_reducible repeat' first
      | assumption | intro _ | apply onFrame_stable hP | apply syncTake_stable hP | apply OutS.next (P := P)
      | exact OutS.fault | apply OutS.ite (P := P) | apply ite_stable (P := P) | apply ite_st (P := P)
      | apply ite_sec (P := P) | apply ite_snd (P := P) | apply ite_snd2 (P := P) | apply ite_fst (P := P)
      | apply id_stable (P := P) | dsimp only

theorem execPtpLost_stable (hP : StableIn P free) {x0 x1} (h1 : P x1) : OutS P (execPtpLost x0 x1) := by
  unfold execPtpLost
  try dsimp only
  with_reducible repeat' first
      | assumption | intro _ | apply hP.put | apply State.report_stable hP | apply State.advanceTo_stable hP
      | apply OutS.next (P := P) | apply ite_stable (P := P) | apply OutS.ite (P := P) | dsimp only

theorem execLinkDown_stable (hP : StableIn P free) {x0 x1 x2} (h2 : P x2) : OutS P (execLinkDown x0 x1 x2) := by
  unfold execLinkDown
  try dsimp only
  with_reducible repeat' first
      | assumption | intro _ | apply hP.put | apply State.report_stable hP | apply State.putB_stable hP
      | apply OutS.next (P := P) | apply ite_stable (P := P) | apply OutS.ite (P := P) | dsimp only

theorem execCanBusoff_stable (hP : StableIn P free) {x0 x1} (h1 : P x1) : OutS P (execCanBusoff x0 x1) := by
  unfold execCanBusoff
  try dsimp only
  with_reducible repeat' first
      | assumption | intro _ | apply hP.put | apply State.drawn_stable hP | apply State.report_stable hP
      | apply OutS.next (P := P) | apply ite_stable (P := P) | apply OutS.ite (P := P) | dsimp only

theorem execMdioAccess_stable (hP : StableIn P free) {x0 x1 x2 x3} (h3 : P x3) : OutS P (execMdioAccess x0 x1 x2 x3) := by
  unfold execMdioAccess
  try dsimp only
  with_reducible repeat' first
      | assumption | intro _ | apply afterTokens_stable hP | apply mdioWrite_stable hP | apply onIsland_stable hP
      | apply OutS.next (P := P) | exact OutS.fault | apply OutS.ite (P := P) | apply ite_stable (P := P)
      | apply ite_st (P := P) | apply ite_sec (P := P) | apply ite_snd (P := P) | apply ite_snd2 (P := P)
      | apply ite_fst (P := P) | apply id_stable (P := P) | dsimp only

theorem execCanEnable_stable (hP : StableIn P free) {x0 x1 x2 x3} (h3 : P x3) : OutS P (execCanEnable x0 x1 x2 x3) := by
  unfold execCanEnable
  try dsimp only
  with_reducible repeat' first
      | assumption | intro _ | apply afterTokens_stable hP | apply canCtrlWrite_stable hP | apply onIsland_stable hP
      | apply OutS.next (P := P) | exact OutS.fault | apply OutS.ite (P := P) | apply ite_stable (P := P)
      | apply ite_st (P := P) | apply ite_sec (P := P) | apply ite_snd (P := P) | apply ite_snd2 (P := P)
      | apply ite_fst (P := P) | apply id_stable (P := P) | dsimp only

theorem canTake_stable (hP : StableIn P free) {x0 x1 x2 x3} (h3 : P x3) : P (canTake x0 x1 x2 x3) := by
  unfold canTake
  try dsimp only
  with_reducible repeat' first
      | assumption | intro _ | apply hP.put | apply bankWrite_stable hP | apply bankWrites_stable hP
      | apply ite_stable (P := P) | apply ite_st (P := P) | apply ite_sec (P := P) | apply ite_snd (P := P)
      | apply ite_snd2 (P := P) | apply ite_fst (P := P) | apply OptS.some (P := P) | exact OptS.none
      | apply OptS2.some (P := P) | exact OptS2.none | apply OptS.bind (P := P) | apply OptS.bind2 (P := P)
      | apply OptS.map (P := P) | apply OptS.map0 (P := P) | apply OptS2.map (P := P) | apply OptS.getD (P := P)
      | apply OptS.ite (P := P) | apply OptS2.ite (P := P) | apply id_stable (P := P) | apply foldl_stable (P := P)
      | apply foldl_stable2 (P := P) | apply foldl_stable1 (P := P) | split | refine snd2_stable (by assumption) ?_
      | refine snd_stable (by assumption) ?_ | refine fst_stable (by assumption) ?_
      | refine some_stable (by assumption) ?_ | refine some_stable2 (by assumption) ?_ | dsimp only

theorem execCanReceive_stable (hP : StableIn P free) {x0 x1 x2 x3 x4 x5 x6 x7 x8 x9} (h9 : P x9) : OutS P (execCanReceive x0 x1 x2 x3 x4 x5 x6 x7 x8 x9) := by
  unfold execCanReceive
  try dsimp only
  with_reducible repeat' first
      | assumption | intro _ | apply onFrame_stable hP | apply canTake_stable hP | apply State.draw_stable hP
      | apply OutS.next (P := P) | exact OutS.fault | apply OutS.ite (P := P) | apply ite_stable (P := P)
      | apply ite_st (P := P) | apply ite_sec (P := P) | apply ite_snd (P := P) | apply ite_snd2 (P := P)
      | apply ite_fst (P := P) | apply OptS.some (P := P) | exact OptS.none | apply OptS2.some (P := P)
      | exact OptS2.none | apply OptS.bind (P := P) | apply OptS.bind2 (P := P) | apply OptS.map (P := P)
      | apply OptS.map0 (P := P) | apply OptS2.map (P := P) | apply OptS.getD (P := P) | apply OptS.ite (P := P)
      | apply OptS2.ite (P := P) | apply id_stable (P := P) | apply foldl_stable (P := P)
      | apply foldl_stable2 (P := P) | apply foldl_stable1 (P := P) | split | refine snd2_stable (by assumption) ?_
      | refine snd_stable (by assumption) ?_ | refine fst_stable (by assumption) ?_
      | refine some_stable (by assumption) ?_ | refine some_stable2 (by assumption) ?_ | dsimp only

theorem putOut_stable (hP : StableIn P free) {x0 x1} (h1 : P x1) : P (putOut x0 x1) := by
  unfold putOut
  try dsimp only
  with_reducible repeat' first
      | assumption | intro _ | apply hP.put | apply State.setLink_stable hP | dsimp only

theorem canSend_stable (hP : StableIn P free) {x0 x1 x2} (h2 : P x2) : P (canSend x0 x1 x2) := by
  unfold canSend
  try dsimp only
  with_reducible repeat' first
      | assumption | intro _ | apply hP.put | apply bankReads_stable hP | apply putOut_stable hP
      | apply ite_stable (P := P) | apply ite_st (P := P) | apply ite_sec (P := P) | apply ite_snd (P := P)
      | apply ite_snd2 (P := P) | apply ite_fst (P := P) | apply OptS.some (P := P) | exact OptS.none
      | apply OptS2.some (P := P) | exact OptS2.none | apply OptS.bind (P := P) | apply OptS.bind2 (P := P)
      | apply OptS.map (P := P) | apply OptS.map0 (P := P) | apply OptS2.map (P := P) | apply OptS.getD (P := P)
      | apply OptS.ite (P := P) | apply OptS2.ite (P := P) | apply id_stable (P := P) | apply foldl_stable (P := P)
      | apply foldl_stable2 (P := P) | apply foldl_stable1 (P := P) | split | refine snd2_stable (by assumption) ?_
      | refine snd_stable (by assumption) ?_ | refine fst_stable (by assumption) ?_
      | refine some_stable (by assumption) ?_ | refine some_stable2 (by assumption) ?_ | dsimp only

theorem execCanTransmit_stable (hP : StableIn P free) {x0 x1} (h1 : P x1) : OutS P (execCanTransmit x0 x1) := by
  unfold execCanTransmit
  try dsimp only
  with_reducible repeat' first
      | assumption | intro _ | apply hP.put | apply bankRead_stable hP | apply canSend_stable hP
      | apply OutS.next (P := P) | apply ite_stable (P := P) | apply OutS.ite (P := P) | split | dsimp only

theorem execSpiTx_stable (hP : StableIn P free) {x0 x1 x2 x3} (h3 : P x3) : OutS P (execSpiTx x0 x1 x2 x3) := by
  unfold execSpiTx
  try dsimp only
  with_reducible repeat' first
      | assumption | intro _ | apply afterTokens_stable hP | apply serialTx_stable hP | apply onIsland_stable hP
      | apply OutS.next (P := P) | exact OutS.fault | apply OutS.ite (P := P) | apply ite_stable (P := P)
      | apply ite_st (P := P) | apply ite_sec (P := P) | apply ite_snd (P := P) | apply ite_snd2 (P := P)
      | apply ite_fst (P := P) | apply id_stable (P := P) | dsimp only

theorem execUartTx_stable (hP : StableIn P free) {x0 x1 x2 x3} (h3 : P x3) : OutS P (execUartTx x0 x1 x2 x3) := by
  unfold execUartTx
  try dsimp only
  with_reducible repeat' first
      | assumption | intro _ | apply afterTokens_stable hP | apply serialTx_stable hP | apply onIsland_stable hP
      | apply OutS.next (P := P) | exact OutS.fault | apply OutS.ite (P := P) | apply ite_stable (P := P)
      | apply ite_st (P := P) | apply ite_sec (P := P) | apply ite_snd (P := P) | apply ite_snd2 (P := P)
      | apply ite_fst (P := P) | apply id_stable (P := P) | dsimp only

theorem execSerialRxRead_stable (hP : StableIn P free) {x0 x1 x2} (h2 : P x2) : OutS P (execSerialRxRead x0 x1 x2) := by
  unfold execSerialRxRead
  try dsimp only
  with_reducible repeat' first
      | assumption | intro _ | apply afterTokens_stable hP | apply serialRead_stable hP | apply State.answer_stable hP
      | apply onIsland_stable hP | apply OutS.next (P := P) | exact OutS.fault | apply OutS.ite (P := P)
      | apply ite_stable (P := P) | apply ite_st (P := P) | apply ite_sec (P := P) | apply ite_snd (P := P)
      | apply ite_snd2 (P := P) | apply ite_fst (P := P) | apply id_stable (P := P) | dsimp only

theorem serialIn_stable (hP : StableIn P free) {x0 x1 x2} (h2 : P x2) : P (serialIn x0 x1 x2) := by
  unfold serialIn
  try dsimp only
  with_reducible repeat' first
      | assumption | intro _ | apply hP.put | apply putSerials_stable hP | apply ite_stable (P := P) | dsimp only

theorem execUartReceive_stable (hP : StableIn P free) {x0 x1 x2 x3 x4} (h4 : P x4) : OutS P (execUartReceive x0 x1 x2 x3 x4) := by
  unfold execUartReceive
  try dsimp only
  with_reducible repeat' first
      | assumption | intro _ | apply hP.put | apply onFrame_stable hP | apply serialIn_stable hP
      | apply State.putIf_stable hP | apply OutS.next (P := P) | exact OutS.fault | apply OutS.ite (P := P)
      | apply ite_stable (P := P) | apply ite_st (P := P) | apply ite_sec (P := P) | apply ite_snd (P := P)
      | apply ite_snd2 (P := P) | apply ite_fst (P := P) | apply id_stable (P := P) | dsimp only

theorem execLinkUp_stable (hP : StableIn P free) {x0 x1 x2} (h2 : P x2) : OutS P (execLinkUp x0 x1 x2) := by
  unfold execLinkUp
  try dsimp only
  with_reducible repeat' first
      | assumption | intro _ | apply hP.put | apply State.putB_stable hP | apply OutS.next (P := P)
      | apply ite_stable (P := P) | apply OutS.ite (P := P) | dsimp only

theorem macDrop_stable (hP : StableIn P free) {x0 x1} (h1 : P x1) : P (macDrop x0 x1) := by
  unfold macDrop
  try dsimp only
  with_reducible repeat' first
      | assumption | intro _ | apply State.inc_stable hP | dsimp only

theorem udpDeliver_stable (hP : StableIn P free) {x0 x1 x2 x3} (h3 : P x3) : P (udpDeliver x0 x1 x2 x3) := by
  unfold udpDeliver
  try dsimp only
  with_reducible repeat' first
      | assumption | intro _ | apply macDrop_stable hP | apply macTake_stable hP | apply slateFrame_stable hP
      | apply ite_stable (P := P) | apply ite_st (P := P) | apply ite_sec (P := P) | apply ite_snd (P := P)
      | apply ite_snd2 (P := P) | apply ite_fst (P := P) | apply id_stable (P := P) | dsimp only

theorem ipTake_stable (hP : StableIn P free) {x0 x1 x2 x3 x4 x5 x6 x7 x8} (h8 : P x8) : P (ipTake x0 x1 x2 x3 x4 x5 x6 x7 x8) := by
  unfold ipTake
  try dsimp only
  with_reducible repeat' first
      | assumption | intro _ | apply State.setLink_stable hP | apply macDrop_stable hP | apply macTake_stable hP
      | apply udpDeliver_stable hP | apply ite_stable (P := P) | apply ite_st (P := P) | apply ite_sec (P := P)
      | apply ite_snd (P := P) | apply ite_snd2 (P := P) | apply ite_fst (P := P) | apply OptS.some (P := P)
      | exact OptS.none | apply OptS2.some (P := P) | exact OptS2.none | apply OptS.bind (P := P)
      | apply OptS.bind2 (P := P) | apply OptS.map (P := P) | apply OptS.map0 (P := P) | apply OptS2.map (P := P)
      | apply OptS.getD (P := P) | apply OptS.ite (P := P) | apply OptS2.ite (P := P) | apply id_stable (P := P)
      | apply foldl_stable (P := P) | apply foldl_stable2 (P := P) | apply foldl_stable1 (P := P) | split
      | refine snd2_stable (by assumption) ?_ | refine snd_stable (by assumption) ?_
      | refine fst_stable (by assumption) ?_ | refine some_stable (by assumption) ?_
      | refine some_stable2 (by assumption) ?_ | dsimp only

theorem macFrame_stable (hP : StableIn P free) {x0 x1 x2} (h2 : P x2) : P (macFrame x0 x1 x2) := by
  unfold macFrame
  try dsimp only
  with_reducible repeat' first
      | assumption | intro _ | apply putOut_stable hP | apply macDrop_stable hP | apply macTake_stable hP
      | apply ipTake_stable hP | apply ite_stable (P := P) | apply ite_st (P := P) | apply ite_sec (P := P)
      | apply ite_snd (P := P) | apply ite_snd2 (P := P) | apply ite_fst (P := P) | apply OptS.some (P := P)
      | exact OptS.none | apply OptS2.some (P := P) | exact OptS2.none | apply OptS.bind (P := P)
      | apply OptS.bind2 (P := P) | apply OptS.map (P := P) | apply OptS.map0 (P := P) | apply OptS2.map (P := P)
      | apply OptS.getD (P := P) | apply OptS.ite (P := P) | apply OptS2.ite (P := P) | apply id_stable (P := P)
      | apply foldl_stable (P := P) | apply foldl_stable2 (P := P) | apply foldl_stable1 (P := P) | split
      | refine snd2_stable (by assumption) ?_ | refine snd_stable (by assumption) ?_
      | refine fst_stable (by assumption) ?_ | refine some_stable (by assumption) ?_
      | refine some_stable2 (by assumption) ?_ | dsimp only

theorem execMacFrameReceive_stable (hP : StableIn P free) {x0 x1 x2 x3 x4} (h4 : P x4) : OutS P (execMacFrameReceive x0 x1 x2 x3 x4) := by
  unfold execMacFrameReceive
  try dsimp only
  with_reducible repeat' first
      | assumption | intro _ | apply onFrame_stable hP | apply macDrop_stable hP | apply macFrame_stable hP
      | apply OutS.next (P := P) | exact OutS.fault | apply OutS.ite (P := P) | apply ite_stable (P := P)
      | apply ite_st (P := P) | apply ite_sec (P := P) | apply ite_snd (P := P) | apply ite_snd2 (P := P)
      | apply ite_fst (P := P) | apply OptS.some (P := P) | exact OptS.none | apply OptS2.some (P := P)
      | exact OptS2.none | apply OptS.bind (P := P) | apply OptS.bind2 (P := P) | apply OptS.map (P := P)
      | apply OptS.map0 (P := P) | apply OptS2.map (P := P) | apply OptS.getD (P := P) | apply OptS.ite (P := P)
      | apply OptS2.ite (P := P) | apply id_stable (P := P) | apply foldl_stable (P := P)
      | apply foldl_stable2 (P := P) | apply foldl_stable1 (P := P) | split | refine snd2_stable (by assumption) ?_
      | refine snd_stable (by assumption) ?_ | refine fst_stable (by assumption) ?_
      | refine some_stable (by assumption) ?_ | refine some_stable2 (by assumption) ?_ | dsimp only

theorem execBusOffRecovery_stable (hP : StableIn P free) {x0 x1} (h1 : P x1) : OutS P (execBusOffRecovery x0 x1) := by
  unfold execBusOffRecovery
  try dsimp only
  with_reducible repeat' first
      | assumption | intro _ | apply hP.put | apply OutS.next (P := P) | apply ite_stable (P := P)
      | apply OutS.ite (P := P) | dsimp only

theorem execTrngHealthPass_stable (hP : StableIn P free) {x0} (h0 : P x0) : OutS P (execTrngHealthPass x0) := by
  unfold execTrngHealthPass
  try dsimp only
  with_reducible repeat' first
      | assumption | intro _ | apply hP.put | apply OutS.next (P := P) | dsimp only

theorem otpProgram_stable (hP : StableIn P free) {x0 x1 x2} (h2 : P x2) : P (otpProgram x0 x1 x2) := by
  unfold otpProgram
  try dsimp only
  with_reducible repeat' first
      | assumption | intro _ | apply hP.put | apply State.setOtp_stable hP | apply ite_stable (P := P)
      | apply ite_st (P := P) | apply ite_sec (P := P) | apply ite_snd (P := P) | apply ite_snd2 (P := P)
      | apply ite_fst (P := P) | apply OptS.some (P := P) | exact OptS.none | apply OptS2.some (P := P)
      | exact OptS2.none | apply OptS.bind (P := P) | apply OptS.bind2 (P := P) | apply OptS.map (P := P)
      | apply OptS.map0 (P := P) | apply OptS2.map (P := P) | apply OptS.getD (P := P) | apply OptS.ite (P := P)
      | apply OptS2.ite (P := P) | apply id_stable (P := P) | apply foldl_stable (P := P)
      | apply foldl_stable2 (P := P) | apply foldl_stable1 (P := P) | split | refine snd2_stable (by assumption) ?_
      | refine snd_stable (by assumption) ?_ | refine fst_stable (by assumption) ?_
      | refine some_stable (by assumption) ?_ | refine some_stable2 (by assumption) ?_ | dsimp only

theorem execOtpCommandDone_stable (hP : StableIn P free) {x0} (h0 : P x0) : OutS P (execOtpCommandDone x0) := by
  unfold execOtpCommandDone
  try dsimp only
  with_reducible repeat' first
      | assumption | intro _ | apply otpProgram_stable hP | apply otpResult_stable hP | apply keysShow_stable hP
      | apply State.setSec_stable hP | apply OutS.next (P := P) | split | refine snd_stable (by assumption) ?_
      | refine fst_stable (by assumption) ?_ | refine some_stable (by assumption) ?_
      | refine some_stable2 (by assumption) ?_ | refine snd2_stable (by assumption) ?_ | dsimp only

theorem execMdioAccessDone_stable (hP : StableIn P free) {x0 x1 x2} (h2 : P x2) : OutS P (execMdioAccessDone x0 x1 x2) := by
  unfold execMdioAccessDone
  try dsimp only
  with_reducible repeat' first
      | assumption | intro _ | apply hP.put | apply State.setLink_stable hP | apply State.putIf_stable hP
      | apply OutS.next (P := P) | split | refine snd_stable (by assumption) ?_ | refine fst_stable (by assumption) ?_
      | refine some_stable (by assumption) ?_ | refine some_stable2 (by assumption) ?_
      | refine snd2_stable (by assumption) ?_ | dsimp only

theorem serialOut_stable (hP : StableIn P free) {x0 x1} (h1 : P x1) : P (serialOut x0 x1) := by
  unfold serialOut
  try dsimp only
  with_reducible repeat' first
      | assumption | intro _ | apply hP.put | apply putSerials_stable hP | apply putOut_stable hP | split
      | refine snd_stable (by assumption) ?_ | refine fst_stable (by assumption) ?_
      | refine some_stable (by assumption) ?_ | refine some_stable2 (by assumption) ?_
      | refine snd2_stable (by assumption) ?_ | dsimp only

theorem execSpiWordDone_stable (hP : StableIn P free) {x0 x1 x2} (h2 : P x2) : OutS P (execSpiWordDone x0 x1 x2) := by
  unfold execSpiWordDone
  try dsimp only
  with_reducible repeat' first
      | assumption | intro _ | apply serialIn_stable hP | apply serialOut_stable hP | apply OutS.next (P := P)
      | apply ite_stable (P := P) | apply OutS.ite (P := P) | dsimp only

theorem execUartCharacterSent_stable (hP : StableIn P free) {x0 x1} (h1 : P x1) : OutS P (execUartCharacterSent x0 x1) := by
  unfold execUartCharacterSent
  try dsimp only
  with_reducible repeat' first
      | assumption | intro _ | apply serialOut_stable hP | apply OutS.next (P := P) | apply ite_stable (P := P)
      | apply OutS.ite (P := P) | dsimp only

theorem execSerialEnable_stable (hP : StableIn P free) {x0 x1 x2 x3} (h3 : P x3) : OutS P (execSerialEnable x0 x1 x2 x3) := by
  unfold execSerialEnable
  try dsimp only
  with_reducible repeat' first
      | assumption | intro _ | apply afterTokens_stable hP | apply serialCtrlWrite_stable hP
      | apply onIsland_stable hP | apply OutS.next (P := P) | exact OutS.fault | apply OutS.ite (P := P)
      | apply ite_stable (P := P) | apply ite_st (P := P) | apply ite_sec (P := P) | apply ite_snd (P := P)
      | apply ite_snd2 (P := P) | apply ite_fst (P := P) | apply id_stable (P := P) | dsimp only

theorem State.wrs_stable (hP : StableIn P free) {x0 x1 x2} (h0 : P x0) : P (State.wrs x0 x1 x2) := by
  fun_induction State.wrs x0 x1 x2 <;> (with_reducible repeat' first
      | assumption | intro _ | apply hP.wr | split | refine snd_stable (by assumption) ?_
      | refine fst_stable (by assumption) ?_ | refine some_stable (by assumption) ?_
      | refine some_stable2 (by assumption) ?_ | refine snd2_stable (by assumption) ?_ | refine ‹P _ → P _› ?_
      | refine ‹P _ → OptS P _› ?_ | refine ‹∀ t, P t → OptS P _› _ ?_ | dsimp +zetaDelta only | dsimp only)

/-- A command keeps such a property: one that needs timecode not to go back only where it does not reset the count. -/
theorem exec_stableIn (hP : StableIn P free) {i : Instr} {s : State} (hf : free = true ∨ i.resetsTime = false) (h : P s) : OutS P (exec i s) := by
  cases i with
  | registerWrite => exact execRegisterWrite_stable hP h
  | greyAccessResume => exact execGreyAccessResume_stable hP h
  | accessTimeout => exact execAccessTimeout_stable hP h
  | mgmtAccess => exact execMgmtAccess_stable hP h
  | cutKeepaliveSend => exact execCutKeepaliveSend_stable hP h
  | keepaliveTimeout => exact execKeepaliveTimeout_stable hP h
  | portParity => exact execPortParity_stable hP h
  | timecodeLock => cases hf with
    | inl e => subst e; exact execTimecodeLock_stable hP h
    | inr e => cases e
  | syncWord => exact execSyncWord_stable hP h
  | treeLost => exact execTreeLost_stable hP h
  | refLost => exact execRefLost_stable hP h
  | refRelock => exact execRefRelock_stable hP h
  | tcFire => exact execTcFire_stable hP h
  | tcCmpWrite => exact execTcCmpWrite_stable hP h
  | tcClaim => exact execTcClaim_stable hP h
  | tcUnclaim => exact execTcUnclaim_stable hP h
  | tcEnable => exact execTcEnable_stable hP h
  | claimWrite => exact execClaimWrite_stable hP h
  | compareWrite => exact execCompareWrite_stable hP h
  | latReturn => exact execLatReturn_stable hP h
  | ssEnable => exact execSsEnable_stable hP h
  | ssDisable => exact execSsDisable_stable hP h
  | ssGo => exact execSsGo_stable hP h
  | ssSlotWrite => exact execSsSlotWrite_stable hP h
  | ssTrigger => exact execSsTrigger_stable hP h
  | acquisitionStart => exact execAcquisitionStart_stable hP h
  | apertureEnd => exact execApertureEnd_stable hP h
  | conversionEnd => exact execConversionEnd_stable hP h
  | setComplete => exact execSetComplete_stable hP h
  | calgo => exact execCalgo_stable hP h
  | calDone => exact execCalDone_stable hP h
  | calageMinute => exact execCalageMinute_stable hP h
  | cmpEnable => exact execCmpEnable_stable hP h
  | cmpDisable => exact execCmpDisable_stable hP h
  | cmpThrWrite => exact execCmpThrWrite_stable hP h
  | cmpMapWrite => exact execCmpMapWrite_stable hP h
  | cmpCondition => exact execCmpCondition_stable hP h
  | cmpConditionClear => exact execCmpConditionClear_stable hP h
  | blankOpen => exact execBlankOpen_stable hP h
  | blankClose => exact execBlankClose_stable hP h
  | tripAssert => exact execTripAssert_stable hP h
  | cycleGateRelease => exact execCycleGateRelease_stable hP h
  | pfEnable => exact execPfEnable_stable hP h
  | pfDisable => exact execPfDisable_stable hP h
  | posRead => exact execPosRead_stable hP h
  | lineEdgeAccept => exact execLineEdgeAccept_stable hP h
  | resolverTrigger => exact execResolverTrigger_stable hP h
  | resolverUpdate => exact execResolverUpdate_stable hP h
  | sentFrame => exact execSentFrame_stable hP h
  | sentTimeout => exact execSentTimeout_stable hP h
  | bissFrameStart => exact execBissFrameStart_stable hP h
  | bissFrame => exact execBissFrame_stable hP h
  | bissNoack => exact execBissNoack_stable hP h
  | speedDecay => exact execSpeedDecay_stable hP h
  | speedStop => exact execSpeedStop_stable hP h
  | emuEnable => exact execEmuEnable_stable hP h
  | emuStep => exact execEmuStep_stable hP h
  | engineMemWrite => exact execEngineMemWrite_stable hP h
  | engineOwnerWrite => exact execEngineOwnerWrite_stable hP h
  | engineTrigger => exact execEngineTrigger_stable hP h
  | runDispatch => exact execRunDispatch_stable hP h
  | lawNop => exact execLawNop_stable hP h
  | lawWait => exact execLawWait_stable hP h
  | lawEnd => exact execLawEnd_stable hP h
  | lawSkip => exact execLawSkip_stable hP h
  | lawRep => exact execLawRep_stable hP h
  | lawAdd => exact execLawAdd_stable hP h
  | lawSub => exact execLawSub_stable hP h
  | lawNeg => exact execLawNeg_stable hP h
  | lawMov => exact execLawMov_stable hP h
  | lawMul => exact execLawMul_stable hP h
  | lawMac => exact execLawMac_stable hP h
  | lawScl => exact execLawScl_stable hP h
  | lawNorm => exact execLawNorm_stable hP h
  | lawSats => exact execLawSats_stable hP h
  | lawSata => exact execLawSata_stable hP h
  | lawAbs => exact execLawAbs_stable hP h
  | lawMax => exact execLawMax_stable hP h
  | lawMin => exact execLawMin_stable hP h
  | lawCmp => exact execLawCmp_stable hP h
  | lawSel => exact execLawSel_stable hP h
  | trd => exact execTrd_stable hP h
  | rrd => exact execRrd_stable hP h
  | rlrn => exact execRlrn_stable hP h
  | lawCrot => exact execLawCrot_stable hP h
  | lawDiv => exact execLawDiv_stable hP h
  | lawSqrt => exact execLawSqrt_stable hP h
  | clk => exact execClk_stable hP h
  | park => exact execPark_stable hP h
  | ipark => exact execIpark_stable hP h
  | svm => exact execSvm_stable hP h
  | sin => exact execSin_stable hP h
  | pout => exact execPout_stable hP h
  | lds => exact execLds_stable hP h
  | sts => exact execSts_stable hP h
  | ldc => exact execLdc_stable hP h
  | qmac2 => exact execQmac2_stable hP h
  | qld => exact execQld_stable hP h
  | qout => exact execQout_stable hP h
  | qadd => exact execQadd_stable hP h
  | qtob => exact execQtob_stable hP h
  | btoq => exact execBtoq_stable hP h
  | engineFailover => exact execEngineFailover_stable hP h
  | restoreDone => exact execRestoreDone_stable hP h
  | engineLoad => exact execEngineLoad_stable hP h
  | unload => exact execUnload_stable hP h
  | engineArm => exact execEngineArm_stable hP h
  | disarm => exact execDisarm_stable hP h
  | fire => exact execFire_stable hP h
  | engineSpare => exact execEngineSpare_stable hP h
  | unspare => exact execUnspare_stable hP h
  | engineRetest => exact execEngineRetest_stable hP h
  | engineCommandDone => exact execEngineCommandDone_stable hP h
  | engineLbistDone => exact execEngineLbistDone_stable hP h
  | reelEnable => exact execReelEnable_stable hP h
  | reelDisable => exact execReelDisable_stable hP h
  | reelMemWrite => exact execReelMemWrite_stable hP h
  | reelWindow => exact execReelWindow_stable hP h
  | reelUpdate => exact execReelUpdate_stable hP h
  | reelScrub => exact execReelScrub_stable hP h
  | saveDdr => exact execSaveDdr_stable hP h
  | loadDdr => exact execLoadDdr_stable hP h
  | saveRec => exact execSaveRec_stable hP h
  | loadRec => exact execLoadRec_stable hP h
  | zero => exact execZero_stable hP h
  | reelXferDone => exact execReelXferDone_stable hP h
  | portEnable => exact execPortEnable_stable hP h
  | portDisable => exact execPortDisable_stable hP h
  | periodStart => exact execPeriodStart_stable hP h
  | peak => exact execPeak_stable hP h
  | compareOccurrence => exact execCompareOccurrence_stable hP h
  | edgeMerge => exact execEdgeMerge_stable hP h
  | deadTimeRise => exact execDeadTimeRise_stable hP h
  | portEvent => exact execPortEvent_stable hP h
  | safeWrite => exact execSafeWrite_stable hP h
  | vioLow => exact execVioLow_stable hP h
  | clrtrip => exact execClrtrip_stable hP h
  | clrred => exact execClrred_stable hP h
  | laneTestDone => exact execLaneTestDone_stable hP h
  | cutinAssert => exact execCutinAssert_stable hP h
  | cutinRelease => exact execCutinRelease_stable hP h
  | cutAssert => exact execCutAssert_stable hP h
  | cutStateReport => exact execCutStateReport_stable hP h
  | cutClear => exact execCutClear_stable hP h
  | zoneGrant => exact execZoneGrant_stable hP h
  | startEnd => exact execStartEnd_stable hP h
  | illegal => exact execIllegal_stable hP h
  | add => exact execAdd_stable hP h
  | adc => exact execAdc_stable hP h
  | sub => exact execSub_stable hP h
  | sbc => exact execSbc_stable hP h
  | and => exact execAnd_stable hP h
  | or => exact execOr_stable hP h
  | xor => exact execXor_stable hP h
  | andn => exact execAndn_stable hP h
  | shl => exact execShl_stable hP h
  | shr => exact execShr_stable hP h
  | sar => exact execSar_stable hP h
  | rol => exact execRol_stable hP h
  | shlk => exact execShlk_stable hP h
  | shrk => exact execShrk_stable hP h
  | sark => exact execSark_stable hP h
  | rolk => exact execRolk_stable hP h
  | cmp => exact execCmp_stable hP h
  | tst => exact execTst_stable hP h
  | min => exact execMin_stable hP h
  | max => exact execMax_stable hP h
  | minu => exact execMinu_stable hP h
  | maxu => exact execMaxu_stable hP h
  | mov => exact execMov_stable hP h
  | not => exact execNot_stable hP h
  | neg => exact execNeg_stable hP h
  | abs => exact execAbs_stable hP h
  | clz => exact execClz_stable hP h
  | popc => exact execPopc_stable hP h
  | sel => exact execSel_stable hP h
  | exh => exact execExh_stable hP h
  | insh => exact execInsh_stable hP h
  | swaph => exact execSwaph_stable hP h
  | addh => exact execAddh_stable hP h
  | exb => exact execExb_stable hP h
  | inb => exact execInb_stable hP h
  | bswap => exact execBswap_stable hP h
  | addf => exact execAddf_stable hP h
  | subf => exact execSubf_stable hP h
  | negf => exact execNegf_stable hP h
  | absf => exact execAbsf_stable hP h
  | shlf => exact execShlf_stable hP h
  | addd => exact execAddd_stable hP h
  | subd => exact execSubd_stable hP h
  | movd => exact execMovd_stable hP h
  | cmpd => exact execCmpd_stable hP h
  | mfs => exact execMfs_stable hP h
  | mts => exact execMts_stable hP h
  | addi => exact execAddi_stable hP h
  | andi => exact execAndi_stable hP h
  | ori => exact execOri_stable hP h
  | xori => exact execXori_stable hP h
  | cmpi => exact execCmpi_stable hP h
  | movi => exact execMovi_stable hP h
  | lih => exact execLih_stable hP h
  | bfx => exact execBfx_stable hP h
  | bfi => exact execBfi_stable hP h
  | lea => exact execLea_stable hP h
  | movl => exact execMovl_stable hP h
  | addl => exact execAddl_stable hP h
  | loop => exact execLoop_stable hP h
  | loopBackEdge => exact execLoopBackEdge_stable hP h
  | ld => exact execLd_stable hP h
  | st => exact execSt_stable hP h
  | ldd => exact execLdd_stable hP h
  | std => exact execStd_stable hP h
  | ldl => exact execLdl_stable hP h
  | stl => exact execStl_stable hP h
  | lddl => exact execLddl_stable hP h
  | stdl => exact execStdl_stable hP h
  | br => exact execBr_stable hP h
  | callw => exact execCallw_stable hP h
  | jmpr => exact execJmpr_stable hP h
  | callwr => exact execCallwr_stable hP h
  | jmpl => exact execJmpl_stable hP h
  | callwl => exact execCallwl_stable hP h
  | retw => exact execRetw_stable hP h
  | nop => exact execNop_stable hP h
  | sync => exact execSync_stable hP h
  | trap => exact execTrap_stable hP h
  | hold => exact execHold_stable hP h
  | holdExpire => exact execHoldExpire_stable hP h
  | rete => exact execRete_stable hP h
  | waite => exact execWaite_stable hP h
  | movb => exact execMovb_stable hP h
  | crcb => exact execCrcb_stable hP h
  | srch => exact execSrch_stable hP h
  | cpAbsent => exact execCpAbsent_stable hP h
  | mul => exact execMul_stable hP h
  | mulu => exact execMulu_stable hP h
  | mac => exact execMac_stable hP h
  | msu => exact execMsu_stable hP h
  | rdh => exact execRdh_stable hP h
  | rdl => exact execRdl_stable hP h
  | rdf => exact execRdf_stable hP h
  | rdd => exact execRdd_stable hP h
  | wra => exact execWra_stable hP h
  | rdm => exact execRdm_stable hP h
  | rds => exact execRds_stable hP h
  | div => exact execDiv_stable hP h
  | divu => exact execDivu_stable hP h
  | divf => exact execDivf_stable hP h
  | sqrt => exact execSqrt_stable hP h
  | sqrtf => exact execSqrtf_stable hP h
  | crot => exact execCrot_stable hP h
  | cvec => exact execCvec_stable hP h
  | cpResultLand => exact execCpResultLand_stable hP h
  | ecmd => exact execEcmd_stable hP h
  | eres => exact execEres_stable hP h
  | est => exact execEst_stable hP h
  | eprm => exact execEprm_stable hP h
  | submit => exact execSubmit_stable hP h
  | poll => exact execPoll_stable hP h
  | rrdi => exact execRrdi_stable hP h
  | rwri => exact execRwri_stable hP h
  | rxf => exact execRxf_stable hP h
  | rxr => exact execRxr_stable hP h
  | eventRoute => exact execEventRoute_stable hP h
  | levelEntry => exact execLevelEntry_stable hP h
  | taskSwitch => exact execTaskSwitch_stable hP h
  | cuePost => exact execCuePost_stable hP h
  | taskStart => exact execTaskStart_stable hP h
  | taskStop => exact execTaskStop_stable hP h
  | taskStopDone => exact execTaskStopDone_stable hP h
  | taskResume => exact execTaskResume_stable hP h
  | taskRelease => exact execTaskRelease_stable hP h
  | flush => exact execFlush_stable hP h
  | discard => exact execDiscard_stable hP h
  | shadowWrite => exact execShadowWrite_stable hP h
  | cueLockedWrite => exact execCueLockedWrite_stable hP h
  | writeToken => exact execWriteToken_stable hP h
  | coreMismatch => exact execCoreMismatch_stable hP h
  | stateScrub => exact execStateScrub_stable hP h
  | checkerTest => exact execCheckerTest_stable hP h
  | coreFailover => exact execCoreFailover_stable hP h
  | failoverDone => exact execFailoverDone_stable hP h
  | coreLbistDone => exact execCoreLbistDone_stable hP h
  | enlist => exact execEnlist_stable hP h
  | coreRetest => exact execCoreRetest_stable hP h
  | withdraw => exact execWithdraw_stable hP h
  | faultReport => exact execFaultReport_stable hP h
  | ctuHeartbeat => exact execCtuHeartbeat_stable hP h
  | ctuSilent => exact execCtuSilent_stable hP h
  | logClear => exact execLogClear_stable hP h
  | bankOwnerWrite => exact execBankOwnerWrite_stable hP h
  | bankScrub => exact execBankScrub_stable hP h
  | ddrInit => exact execDdrInit_stable hP h
  | ddrInitDone => exact execDdrInitDone_stable hP h
  | ddrPatrol => exact execDdrPatrol_stable hP h
  | dmaEnable => exact execDmaEnable_stable hP h
  | dmaDisable => exact execDmaDisable_stable hP h
  | dmaGo => exact execDmaGo_stable hP h
  | dmaEventTrigger => exact execDmaEventTrigger_stable hP h
  | dmaWord => exact execDmaWord_stable hP h
  | rushesEnable => exact execRushesEnable_stable hP h
  | rushesDisable => exact execRushesDisable_stable hP h
  | rushesRecordWrite => exact execRushesRecordWrite_stable hP h
  | rushesGo => exact execRushesGo_stable hP h
  | channelRearm => exact execChannelRearm_stable hP h
  | flashQueueEnable => exact execFlashQueueEnable_stable hP h
  | flashQueueDisable => exact execFlashQueueDisable_stable hP h
  | flashDescriptorTake => exact execFlashDescriptorTake_stable hP h
  | readVerify => exact execReadVerify_stable hP h
  | programLine => exact execProgramLine_stable hP h
  | programRange => exact execProgramRange_stable hP h
  | eraseSector => exact execEraseSector_stable hP h
  | eraseBank => exact execEraseBank_stable hP h
  | blankCheck => exact execBlankCheck_stable hP h
  | marginRead => exact execMarginRead_stable hP h
  | suspend => exact execSuspend_stable hP h
  | resume => exact execResume_stable hP h
  | eraseHalted => exact execEraseHalted_stable hP h
  | eraseComplete => exact execEraseComplete_stable hP h
  | programComplete => exact execProgramComplete_stable hP h
  | flashScan => exact execFlashScan_stable hP h
  | relocate => exact execRelocate_stable hP h
  | recordRead => exact execRecordRead_stable hP h
  | recordWrite => exact execRecordWrite_stable hP h
  | recordDelete => exact execRecordDelete_stable hP h
  | recordCmdDone => exact execRecordCmdDone_stable hP h
  | storeBuildDone => exact execStoreBuildDone_stable hP h
  | storeReclaim => exact execStoreReclaim_stable hP h
  | raise1 => exact execRaise1_stable hP h
  | raise2 => exact execRaise2_stable hP h
  | lower0 => exact execLower0_stable hP h
  | wipeDone => cases hf with
    | inl e => subst e; exact execWipeDone_stable hP h
    | inr e => cases e
  | supplyDetect => exact execSupplyDetect_stable hP h
  | logicReset => cases hf with
    | inl e => subst e; exact execLogicReset_stable hP h
    | inr e => cases e
  | vmidLow => cases hf with
    | inl e => subst e; exact execVmidLow_stable hP h
    | inr e => cases e
  | vinRise => exact execVinRise_stable hP h
  | vinHigh => exact execVinHigh_stable hP h
  | railVddq => exact execRailVddq_stable hP h
  | tjSample => exact execTjSample_stable hP h
  | throttleStep => exact execThrottleStep_stable hP h
  | tjShutdown => cases hf with
    | inl e => subst e; exact execTjShutdown_stable hP h
    | inr e => cases e
  | tjRelease => exact execTjRelease_stable hP h
  | islandDescend => exact execIslandDescend_stable hP h
  | islandWake => exact execIslandWake_stable hP h
  | islandWakeDone => exact execIslandWakeDone_stable hP h
  | twlWrite => exact execTwlWrite_stable hP h
  | deviceGrant => exact execDeviceGrant_stable hP h
  | clockStep => exact execClockStep_stable hP h
  | thermStale => exact execThermStale_stable hP h
  | sleepWake => cases hf with
    | inl e => subst e; exact execSleepWake_stable hP h
    | inr e => cases e
  | coldStart => cases hf with
    | inl e => subst e; exact execColdStart_stable hP h
    | inr e => cases e
  | warmStart => cases hf with
    | inl e => subst e; exact execWarmStart_stable hP h
    | inr e => cases e
  | startHandoff => exact execStartHandoff_stable hP h
  | resetPin => cases hf with
    | inl e => subst e; exact execResetPin_stable hP h
    | inr e => cases e
  | viosLoss => cases hf with
    | inl e => subst e; exact execViosLoss_stable hP h
    | inr e => cases e
  | viosReturn => exact execViosReturn_stable hP h
  | goodw => exact execGoodw_stable hP h
  | wdkick => exact execWdkick_stable hP h
  | wdogExpiry => exact execWdogExpiry_stable hP h
  | bootcfgWrite => exact execBootcfgWrite_stable hP h
  | rollfwd => exact execRollfwd_stable hP h
  | revoke => exact execRevoke_stable hP h
  | progkey => exact execProgkey_stable hP h
  | proghost => exact execProghost_stable hP h
  | progdbg => exact execProgdbg_stable hP h
  | hash => exact execHash_stable hP h
  | hashw => exact execHashw_stable hP h
  | verify => exact execVerify_stable hP h
  | sign => exact execSign_stable hP h
  | random => exact execRandom_stable hP h
  | keyload => exact execKeyload_stable hP h
  | gcmEnc => exact execGcmEnc_stable hP h
  | gcmDec => exact execGcmDec_stable hP h
  | securityRequestDone => exact execSecurityRequestDone_stable hP h
  | trngHealth => exact execTrngHealth_stable hP h
  | challenge => exact execChallenge_stable hP h
  | debugRespWrite => exact execDebugRespWrite_stable hP h
  | unlock => exact execUnlock_stable hP h
  | lock => exact execLock_stable hP h
  | debugHalt => exact execDebugHalt_stable hP h
  | debugStep => exact execDebugStep_stable hP h
  | slateFrame => exact execSlateFrame_stable hP h
  | sessionOpen => exact execSessionOpen_stable hP h
  | sessionKeyx => exact execSessionKeyx_stable hP h
  | sessionClose => exact execSessionClose_stable hP h
  | sessionSak => exact execSessionSak_stable hP h
  | keyxTimeout => exact execKeyxTimeout_stable hP h
  | sessionTimeout => exact execSessionTimeout_stable hP h
  | attest => exact execAttest_stable hP h
  | slateRead => exact execSlateRead_stable hP h
  | slateWrite => exact execSlateWrite_stable hP h
  | scene => exact execScene_stable hP h
  | budget => exact execBudget_stable hP h
  | latency => exact execLatency_stable hP h
  | failoverPlan => exact execFailoverPlan_stable hP h
  | arm => exact execArm_stable hP h
  | slateRun => exact execSlateRun_stable hP h
  | holdout => exact execHoldout_stable hP h
  | slateCut => exact execSlateCut_stable hP h
  | clear => exact execClear_stable hP h
  | sleep => exact execSleep_stable hP h
  | reset => cases hf with
    | inl e => subst e; exact execReset_stable hP h
    | inr e => cases e
  | loadErase => exact execLoadErase_stable hP h
  | loadProgram => exact execLoadProgram_stable hP h
  | loadVerify => cases hf with
    | inl e => subst e; exact execLoadVerify_stable hP h
    | inr e => cases e
  | commit => exact execCommit_stable hP h
  | trimExport => exact execTrimExport_stable hP h
  | trimImport => exact execTrimImport_stable hP h
  | rushesStatus => exact execRushesStatus_stable hP h
  | rushesRead => exact execRushesRead_stable hP h
  | rushesTrigger => exact execRushesTrigger_stable hP h
  | rushesRearm => exact execRushesRearm_stable hP h
  | dailies => exact execDailies_stable hP h
  | localGo => exact execLocalGo_stable hP h
  | canSegment => exact execCanSegment_stable hP h
  | canSegmentTimeout => exact execCanSegmentTimeout_stable hP h
  | reassemblyTimeout => exact execReassemblyTimeout_stable hP h
  | ptpSync => exact execPtpSync_stable hP h
  | ptpLost => exact execPtpLost_stable hP h
  | linkDown => exact execLinkDown_stable hP h
  | canBusoff => exact execCanBusoff_stable hP h
  | mdioAccess => exact execMdioAccess_stable hP h
  | canEnable => exact execCanEnable_stable hP h
  | canReceive => exact execCanReceive_stable hP h
  | canTransmit => exact execCanTransmit_stable hP h
  | spiTx => exact execSpiTx_stable hP h
  | uartTx => exact execUartTx_stable hP h
  | serialRxRead => exact execSerialRxRead_stable hP h
  | uartReceive => exact execUartReceive_stable hP h
  | linkUp => exact execLinkUp_stable hP h
  | macFrameReceive => exact execMacFrameReceive_stable hP h
  | busOffRecovery => exact execBusOffRecovery_stable hP h
  | trngHealthPass => exact execTrngHealthPass_stable hP h
  | otpCommandDone => exact execOtpCommandDone_stable hP h
  | unlockDone => exact execUnlockDone_stable hP h
  | mdioAccessDone => exact execMdioAccessDone_stable hP h
  | spiWordDone => exact execSpiWordDone_stable hP h
  | uartCharacterSent => exact execUartCharacterSent_stable hP h
  | serialEnable => exact execSerialEnable_stable hP h
  | busacc => exact execBusacc_stable hP h
  | extest => exact execExtest_stable hP h

/-- No command leaves such a property behind. -/
theorem exec_stable (hP : Stable P) {i : Instr} {s : State} (h : P s) : OutS P (exec i s) := exec_stableIn hP.toIn (.inl rfl) h

end Sys2Proof.Machine
end

