-- ==== Sys2Proof/Tests/Slice0.lean ====
section
/-! SUPPORT. Tests: states that meet the hypotheses of every statement, clause by clause; ill-formed commands; small checks of
figures that the spec gives. A clause that asks for an outcome of a free function of `Config` has no witness here. -/

set_option linter.unusedVariables false
set_option Elab.async false

def Sys2Proof.Machine.State.with_ (s : Sys2Proof.Machine.State) (ps : List (Sys2Proof.Machine.FRef × Nat)) : Sys2Proof.Machine.State :=
  ps.foldl (fun u p => u.put p.1 p.2) s

namespace Sys2Proof.Tests
open Sys2Proof Sys2Proof.Machine

def mk (ps : List (FRef × Nat)) : State := ps.foldl (fun u p => u.put p.1 p.2) State.reset
def rnd (i : Nat) : Nat := ((i * 6364136223846793005 + 1442695040888963407) % 2^64 * 2862933555777941757 + 3037000493) % 2^64 / 2^20
def nx (o : Out) : State := match o with
  | .next t => t
  | _ => State.reset
def fetchB (s : State) (c : Fin 8) (a : Nat) : Bool :=
  match bankOf? a with
  | some b => decide (b < 64 ∧ s.get (BANKS.OWNER.OWNER b) = ownCore c.val ∧ s.get (BANKS.STATUS.RED b) = 0 ∧
    s.markAt a = none ∧ s.island (20 + b / 16) = 0)
  | none => false
def readyB (s : State) (c : Fin 8) (n : Nat) : Bool :=
  (catchUp c.val s).mayIssue c.val && (!bitOf (s.get DBG.CORECTL.HALT) c.val || !s.debugOpen || s.coreHalted c.val) &&
    (!(s.core c.val).hold || !(s.core c.val).excess) && (List.range (n + 1)).all (fun k => fetchB s c (((s.core c.val).pc + k) % 2 ^ 32)) &&
    (match s.loopAt c.val (s.core c.val).pc with
      | none => true
      | some l => fetchB s c l.first) &&
    (match (s.core c.val).next with
      | none => true
      | some e => decide (e.2.1 = 0))
def settledB (s : State) (a : Owner) : Bool := (List.range 8).all (fun q => a.toNat != ownCore q || (s.core q).held.isEmpty)
def boundaryB (s : State) : Bool := (List.range 8).all (fun q => !s.within q && !(s.core q).hold)
def servesB (s : State) (k : Fin 3) (r : SlateRun) : Bool :=
  decide (r.slot = some k.val ∧ (s.session k).phase = 2 ∧ s.get (ETH.SESS.NUMBER k) = r.session ∧
    r.via = 1 ∧ s.carries 1 = true ∧ s.get (MAC.CTRL.MACSEC 0) = 1)
theorem fetchB_sound {s : State} {c : Fin 8} {a : Nat} (h : fetchB s c a = true) : s.FetchOk c a := by
  unfold fetchB at h
  split at h
  · rename_i b hb
    exact ⟨b, hb, of_decide_eq_true h⟩
  · exact absurd h (by decide)
theorem readyB_sound {s : State} {c : Fin 8} {n : Nat} (h : readyB s c n = true) : s.Ready c n := by
  unfold readyB at h
  simp only [Bool.and_eq_true, List.all_eq_true] at h
  obtain ⟨⟨⟨⟨⟨hi, hh⟩, he⟩, hf⟩, hl⟩, hn⟩ := h
  refine ⟨hi, ?_, ?_, fun k hk => fetchB_sound (hf k (List.mem_range.mpr (Nat.lt_succ_of_le hk))), ?_, ?_⟩
  · intro p q
    simpa [p, q] using hh
  · intro p
    simpa [p] using he
  · intro l e
    rw [e] at hl
    exact fetchB_sound hl
  · intro x e
    rw [e] at hn
    exact of_decide_eq_true hn
theorem settledB_sound {s : State} {a : Owner} (h : settledB s a = true) : s.Settled a := by
  intro q e
  have k := List.all_eq_true.mp h q.val (List.mem_range.mpr q.isLt)
  simpa [e] using k
theorem boundaryB_sound {s : State} (h : boundaryB s = true) : s.AtBoundary := by
  intro q
  simpa using List.all_eq_true.mp h q.val (List.mem_range.mpr q.isLt)
theorem servesB_sound {s : State} {k : Fin 3} {r : SlateRun} (h : servesB s k r = true) : s.ServesIn k r := by
  unfold servesB at h
  have g := of_decide_eq_true h
  exact g
/-- Core 2, in service and handed off, at level `lv` with its program in bank 5. -/
def coreSt (i : Nat) (lv : Nat) : State :=
  let s := (mk [(BANKS.OWNER.OWNER 5, ownCore 2), (CUE.TSTAT.STATE 2 0, 2), (coreStateRef 2, 1), (CUE.TSTAT.WDEP 2 0, i%3), (CUE.TCFG.BASE 2 0, i), (CUE.ENT.MODE 2 lv, i%2)])
  let s := s.setBoot { s.boot with due := none }
  let vals : Nat → Nat := fun k => match (rnd (k*7+i))%7 with | 0 => 0 | 1 => 2^35 | 2 => 2^36-1 | 3 => 2^35-1 | 4 => rnd (k+i)%70 | _ => rnd (k*31+i) % 2^36
  let s := s.putCore 2 { s.core 2 with pc := 0x01014000 + 5 + i, view := [5], regs := ((List.range 8) ++ (List.range 60).map (16 + 16*(i%30) + ·)).map (fun k => (k, vals k)) |>.filter (·.2 ≠ 0), z := i%2==0, n := i%3==0, c := i/2%2==0, v := i%5==0, lvl := Fin.ofNat 8 lv, hold := lv ≠ 0, hrem := 5 }
  (List.range 16).foldl (fun s j => s.put (CUE.SB.W 2 lv j) (vals (j+1000))) s

namespace W01
def c01 (i : Nat) : State :=
  let n := 5
  ((mk [(SYS.CLM.OWNER (0x600+n), [0,0x40,0x10].getD (i%3) 0), (SYS.CLM.FEATURE (0x600+n), [0,0x705,0xFFF].getD (i/3%3) 0), (TC.CTRL.EN n, i/9%2), (TC.CTRL.CLAIM n, i%2),(TC.CTRL.LATE n, 1),(TC.CTRL.FIRED n,i/5%2),(TC.CMPHI.CMPH n, 3),(TC.CMPLO.CMPL n, 77),(TC.PERIOD.PERIOD n,1000), (TC.CTRL.PERIODIC n, i/7%2), (TC.STATUS.HOLDOVER, i%2)]).setTcRun (i%5 ≠ 0)).setNow (if i%4 < 2 then 5 else (2^40 : BitVec 64))
def allSts : List State := (List.range 90).map c01
theorem witness_TimecodeIsland : (
(let s := allSts.getD 0 State.reset
 decide (s.tcRun = false)) &&
(let s := allSts.getD 1 State.reset
 decide (s.tcRun = true)) &&
(let s := allSts.getD 0 State.reset
 decide ((∀ p : Fin 96, (s.port p).owed = false))) &&
(let s := allSts.getD 1 State.reset
 decide (s.get TC.STATUS.HOLDOVER = 1)) &&
(let s := allSts.getD 14 State.reset
 let n : Fin 16 := 5
 decide (s.tcRun = true ∧ s.get (TC.CTRL.EN n) = 1 ∧ s.get (TC.CTRL.PERIODIC n) = 0)) &&
(let s := allSts.getD 9 State.reset
 let n : Fin 16 := 5
 decide (s.tcRun = true ∧ s.get (TC.CTRL.EN n) = 1 ∧ s.get (TC.CTRL.PERIODIC n) = 1)) &&
(let s := allSts.getD 0 State.reset
 let a : Owner := 0x40#8
 let n : Fin 16 := 5
 let own := SYS.CLM.OWNER (0x600 + n)
 let v : Word := 0x000000010#36
 decide (s.get (ISL.STAT.STATE 19) = 0 ∧ settledB s a = true ∧ a ≠ 0 ∧ s.get own = 0 ∧ v.toNat / 16 % 2 = 1 ∧ v.toNat % 2 = 0)) &&
(let s := allSts.getD 1 State.reset
 let a : Owner := 0x10#8
 let n : Fin 16 := 5
 let own := SYS.CLM.OWNER (0x600 + n)
 decide (s.get (ISL.STAT.STATE 19) = 0 ∧ settledB s a = true ∧ a ≠ 0 ∧ s.get own ≠ 0 ∧ s.get own ≠ a.toNat)) &&
(let s := allSts.getD 4 State.reset
 let a : Owner := 0x40#8
 let n : Fin 16 := 5
 let own := SYS.CLM.OWNER (0x600 + n)
 let feat := SYS.CLM.FEATURE (0x600 + n)
 decide (s.get (ISL.STAT.STATE 19) = 0 ∧ settledB s a = true ∧ a ≠ 0 ∧ s.get own = a.toNat ∧ s.get feat = 0x700 + n)) &&
(let s := allSts.getD 1 State.reset
 let a : Owner := 0x40#8
 let n : Fin 16 := 5
 let own := SYS.CLM.OWNER (0x600 + n)
 let c := s.tcCmp n
 let v : Word := 0x000000010#36
 decide (s.get (ISL.STAT.STATE 19) = 0 ∧ settledB s a = true ∧ a ≠ 0 ∧ s.get (TC.CTRL.EN n) = 0 ∧ s.get own = a.toNat ∧ s.t ≤ c ∧ v.toNat / 16 % 2 = 1)) &&
(let s := allSts.getD 2 State.reset
 let a : Owner := 0x10#8
 let n : Fin 16 := 5
 let own := SYS.CLM.OWNER (0x600 + n)
 let c := s.tcCmp n
 let v : Word := 0x000000010#36
 decide (s.get (ISL.STAT.STATE 19) = 0 ∧ settledB s a = true ∧ a ≠ 0 ∧ s.get (TC.CTRL.EN n) = 0 ∧ s.get own = a.toNat ∧ c < s.t ∧ v.toNat / 16 % 2 = 1 ∧ v.toNat / 2 % 2 = 0)) &&
(let s := allSts.getD 1 State.reset
 let a : Owner := 0x40#8
 let n : Fin 16 := 5
 let own := SYS.CLM.OWNER (0x600 + n)
 decide (s.get (ISL.STAT.STATE 19) = 0 ∧ settledB s a = true ∧ a ≠ 0 ∧ s.get own = a.toNat)) &&
(let s := allSts.getD 1 State.reset
 let a : Owner := 0x40#8
 let n : Fin 16 := 5
 let own := SYS.CLM.OWNER (0x600 + n)
 decide (s.get (ISL.STAT.STATE 19) = 0 ∧ settledB s a = true ∧ a ≠ 0 ∧ s.get (TC.CTRL.EN n) = 0 ∧ s.get own = a.toNat)) &&
(let s := allSts.getD 0 State.reset
 let a : Owner := 0x40#8
 let n : Fin 16 := 5
 let own := SYS.CLM.OWNER (0x600 + n)
 decide (s.get (ISL.STAT.STATE 19) = 0 ∧ settledB s a = true ∧ a ≠ 0 ∧ s.get own ≠ a.toNat))) = true := by decide +kernel
theorem witness_ClaimTable : (
(let s := allSts.getD 0 State.reset
 let a : Owner := 0x40#8
 let r : BitVec 12 := 0x605#12
 let v : Word := 0x000000010#36
 let own := SYS.CLM.OWNER r.toNat
 let feat := SYS.CLM.FEATURE r.toNat
 let new := v.toNat % 256
 decide (s.get (ISL.STAT.STATE 26) = 0 ∧ settledB s a = true ∧ resourceExists r.toNat = true ∧ (s.get own = 0 ∨ (s.get own = a.toNat ∧ s.get feat = 0xFFF)) ∧ validOwner s.split new = true)) &&
(let s := allSts.getD 0 State.reset
 let a : Owner := 0x40#8
 let r : BitVec 12 := 0x605#12
 let v : Word := 0x0000003f0#36
 let own := SYS.CLM.OWNER r.toNat
 let feat := SYS.CLM.FEATURE r.toNat
 let new := v.toNat % 256
 decide (s.get (ISL.STAT.STATE 26) = 0 ∧ settledB s a = true ∧ resourceExists r.toNat = true ∧ (s.get own = 0 ∨ (s.get own = a.toNat ∧ s.get feat = 0xFFF)) ∧ validOwner s.split new = false)) &&
(let s := allSts.getD 1 State.reset
 let a : Owner := 0x40#8
 let r : BitVec 12 := 0x605#12
 let own := SYS.CLM.OWNER r.toNat
 let feat := SYS.CLM.FEATURE r.toNat
 decide (s.get (ISL.STAT.STATE 26) = 0 ∧ settledB s a = true ∧ resourceExists r.toNat = true ∧ s.get own ≠ 0 ∧ (s.get own ≠ a.toNat ∨ s.get feat ≠ 0xFFF)))) = true := by decide +kernel
end W01

namespace W02
def sts : List State := (List.range 20).flatMap fun k => ([0,2,5,13,19,20,26,27] : List Nat).map fun i =>
  let s := mk [(ISL.STAT.STATE i, if k < 8 then 0 else k%4), (ISL.CTRL.DEEPEST i, k%4), (ISL.STAT.CLK i, k/4%3),(ISL.STAT.GRANT i, if k<8 then drawIn i 0 (k/4%3) else drawIn i (k%4) 0), (ISL.TWL.TWL i, 0xffff),(GAF.TJ.TJ, 130+k), (GAF.DBUDGET.BUDGET, 11000)]
  let s := (s.setTcRun true).setNow (10^9)
  let s := s.setGaf { s.gaf with waking := if k%5=4 then [(i, 0)] else [], steps := if k%7=6 then [(i%4, k%4)] else [] }
  if k%3=2 then s.setGafQueue [⟨false, i, 1, 500, false, 0⟩] else s
def zs : List State := (List.range 24).map fun k =>
  let s := mk [(GP.SAFE.SCLS 10, 2), (GAF.CLS.IPK 2, 50*k), (GAF.CLS.IRUN 2, 30),(GAF.CLS.DUR 2, k),(ETH.SLSTATE.STATE, 3), (GAF.ZSUP.IZ, 5000), (GAF.ZSUP.SZ, 100), (GP.STATUS.STATE 10, 1), (GAF.ZTEMP.USED 2, k%2), (GAF.ZTEMP.AGE 2, 5*k),(GAF.ZTHERM.MAXAGE, 30)]
  let s := (s.setTcRun true).setNow (10^9)
  let s := s.setGafQueue [⟨true, 42, 1, 500, false, 0⟩]
  if k%3=0 then s.setStarts [⟨10, 100, 50, 10^9+5000, k%2==1⟩] else s
def ps : List State := ([⟨false,true,[],false,false,0,false⟩, ⟨true, true, [], false, false, 0, false⟩, ⟨false, false, [], true, false, 0, false⟩,⟨false, false, [], false, true, 0, false⟩,PowerSt.atReset,⟨false,false,[2],false,false,1,true⟩] : List PowerSt).flatMap fun p => (List.range 4).map fun k =>
  (((mk [(PORTS.CUTSTAT.LATCH, k/2), (PORTS.CUTSTAT.SUV, k%2), (GP.SAFE.SAFE 10, 2), (GAF.STATUS.VINHI, k%2), (GAF.SLEEPCFG.WAKEN, 5)]).setPower p).wr 0x01000000 55).setMarks [(0x01000001,true)]
def allSts : List State := sts ++ zs ++ ps
theorem witness_IslandPower : (
(let s := allSts.getD 0 State.reset
 let i : Fin 32 := 5
 decide (s.gaf.waking = [] ∧ i ≠ 26 ∧ 2 ≤ s.allowed i ∧ s.island i < s.depth i)) &&
(let s := allSts.getD 152 State.reset
 let i : Fin 32 := 0
 decide (s.gaf.waking = [(i.val, 0)] ∧ s.island i = 3)) &&
(let s := allSts.getD 82 State.reset
 let i : Fin 32 := 5
 let a : Owner := 0x00#8
 let v : Word := 0x000000001#36
 decide (s.gaf.waking = [] ∧ s.gafQueue = [] ∧ 4 ≤ i.val ∧ i ≠ 19 ∧ i ≠ 26 ∧ i ≠ 30 ∧ i ≠ 31 ∧ 2 ≤ s.island i ∧ settledB s a = true ∧ v.toNat % 2 = 1)) &&
(let s := allSts.getD 16 State.reset
 let i : Fin 32 := 0
 let clk := s.get (ISL.STAT.CLK i)
 match s.gafQueue with
 | [⟨z51_, z52_, prio, raised, z53_, z54_⟩] => (
  decide (s.deviceSpaced = true ∧ s.ledger + (drawIn i 0 clk - s.get (ISL.STAT.GRANT i)) ≤ s.budget ∧ z51_ = false ∧ z52_ = i ∧ z53_ = false ∧ z54_ = 0))
 | _ => false) &&
(let s := allSts.getD 112 State.reset
 let i : Fin 32 := 0
 decide (s.gaf.waking = [(i.val, 0)] ∧ s.island i = 2)) &&
(let s := allSts.getD 0 State.reset
 let i : Fin 32 := 5
 let a : Owner := 0x00#8
 decide (s.island i < 2 ∧ settledB s a = true)) &&
(let s := allSts.getD 48 State.reset
 let k : Fin 4 := 0
 match s.gaf.steps with
 | [(z51_, c)] => (
  decide ((∀ q ∈ s.gafQueue, q.source ≠ k.val) ∧ z51_ = k.val ∧ c < 4 ∧ s.get (ISL.STAT.CLK k) < c))
 | _ => false) &&
(let s := allSts.getD 0 State.reset
 let temps : List (BitVec 9) := [0x0e8#9, 0x0fa#9, 0x10c#9, 0x11d#9, 0x12f#9, 0x141#9, 0x153#9, 0x165#9, 0x177#9, 0x189#9, 0x19a#9, 0x1ac#9, 0x1be#9, 0x1d0#9, 0x1e2#9, 0x1f4#9, 0x006#9, 0x017#9, 0x029#9, 0x03b#9, 0x04d#9, 0x05f#9, 0x071#9, 0x082#9, 0x094#9, 0x0a6#9, 0x0b8#9, 0x0ca#9, 0x0dc#9, 0x0ee#9, 0x0ff#9, 0x111#9]
 decide (temps.length = 32)) &&
(let s := allSts.getD 82 State.reset
 decide (140 ≤ sgn 9 (s.get GAF.TJ.TJ) ∧ s.get GAF.STATUS.THROT = 0 ∧ s.gaf.steps = [] ∧ (∀ k : Fin 4, s.island k = 0 ∧ s.get (ISL.STAT.CLK k) = 0))) &&
(let s := allSts.getD 160 State.reset
 let p : Fin 96 := 10
 let k := s.get (GP.SAFE.SCLS p)
 let ipk := s.get (GAF.CLS.IPK k)
 match s.gafQueue with
 | [⟨z61_, z62_, prio, raised, z63_, z64_⟩] => (
  decide (s.get ETH.SLSTATE.STATE = 3 ∧ s.zoneSpaced = true ∧ s.get (GP.STATUS.STATE p) = 1 ∧ s.zoneC + 10 * ipk ≤ s.izEff ∧ s.zoneC + 10 * ipk < 2 ^ GAF.ZLEDGER.COMMIT.w ∧ z61_ = true ∧ z62_ = 32 + p ∧ z63_ = false ∧ z64_ = 0))
 | _ => false) &&
(let s := allSts.getD 172 State.reset
 let p : Fin 96 := 10
 let k := s.get (GP.SAFE.SCLS p)
 let ipk := s.get (GAF.CLS.IPK k)
 match s.starts with
 | [x] => (
  match s.gafQueue with
  | [⟨z91_, z92_, prio, raised, z93_, z94_⟩] => (
   decide (s.izEff < s.zoneC + 10 * ipk ∧ x.excess = false ∧ z91_ = true ∧ z92_ = 32 + p ∧ z93_ = false ∧ z94_ = 0))
  | _ => false)
 | _ => false) &&
(let s := allSts.getD 160 State.reset
 let p : Fin 96 := 10
 match s.starts with
 | [x] => (
  decide (x.port = p.val ∧ x.excess = false ∧ 10 * x.irun < 2 ^ GAF.ZLEDGER.COMMIT.w))
 | _ => false) &&
(let s := allSts.getD 167 State.reset
 let n : Fin 4 := 2
 decide (s.gaf.told = [] ∧ s.get (GAF.ZTEMP.USED n) = 1 ∧ s.get GAF.ZTHERM.MAXAGE < s.get (GAF.ZTEMP.AGE n)))) = true := by decide +kernel
theorem witness_SupplyAndResets : (
(let s := allSts.getD 0 State.reset
 decide (s.get PORTS.CUTSTAT.SUV = 0 ∧ s.get PORTS.CUTSTAT.LATCH = 0)) &&
(let s := allSts.getD 0 State.reset
 let c : Fin 4 := 1
 decide (s.get PORTS.CUTSTAT.SUV = 0 ∧ s.get PORTS.CUTSTAT.LATCH = 0 ∧ c ≠ 0)) &&
(let s := allSts.getD 184 State.reset
 decide (s.power.off = false ∧ s.power.uv = true)) &&
(let s := allSts.getD 188 State.reset
 decide (s.power = ⟨true, true, [], false, false, 0, false⟩)) &&
(let s := allSts.getD 0 State.reset
 decide (s.get GAF.STATUS.VINHI = 0)) &&
(let s := allSts.getD 0 State.reset
 decide (s.rushes = [])) &&
(let s := allSts.getD 192 State.reset
 decide (s.power = ⟨false, false, [], true, false, 0, false⟩)) &&
(let s := allSts.getD 0 State.reset
 decide (s.power = PowerSt.atReset)) &&
(let s := allSts.getD 196 State.reset
 decide (s.power = ⟨false, false, [], false, true, 0, false⟩)) &&
(let s := allSts.getD 204 State.reset
 let w : BitVec 4 := 0x1#4
 decide (s.power.sleep = 1 ∧ w.toNat &&& s.get GAF.SLEEPCFG.WAKEN ≠ 0))) = true := by decide +kernel
end W02

namespace W03
def sss : List State := (List.range 40).map (fun i => 
 (((mk ([(SS.CTRL.EN 5, i%2), (SS.CTRL.OWNER 5, if i%2=1 then 0x40 else if i%5=4 then 1 else 0), (SS.CTRL.SRC 5, 2),(SS.CTRL.SRCNUM 5, 3),(SS.CTRL.OFFSET 5, i*3), (SS.SLOT.EN 5 5, 1), (SS.SLOT.AIN 5 5, 7), (SS.SLOT.CORE 5 5, 3),(SS.SLOT.CORE 5 6, 3),(SS.SLOT.EN 5 6, i/2%2), (SAMP.STATUS.CALBUSY, i/4%2)])).putSampSet 5
  { SetSt.atReset 5 with wait := if i%3=0 then [] else [⟨1000, 4⟩, ⟨1100,4⟩].take (i%3), acq := if i/3%3=0 then none else some ⟨⟨900,2⟩, i/3%3=1⟩, done := if i/3%2=0 then [(⟨800,4⟩,[⟨5,7,2,false,i%4==0,i⟩])] else [], last := if i/7%2=0 then none else some (500+i) }).setTrigAt (if i%5=2 then [⟨2007,400,[]⟩,⟨2003,500,[]⟩,⟨2003,510,[]⟩] else [⟨2003,500,[]⟩])).setCalEnd 5000)
def css : List State := (List.range 60).map (fun i => ((((mk [(CMP.CTRL.EN 5, i%2), (CMP.CTRL.OWNER 5, if i%2=1 then 0x40 else if i%5=4 then 1 else 0), (CMP.CTRL.HIEN 5, i/2%2), (CMP.CTRL.LOEN 5, 1), (CMP.CTRL.TRIPMAP 5, rnd i % 4096), (CMP.STATUS.LIVE 5, if i%7=1 then 1 else 0),(CMP.THR.THH 5, 20),(CMP.BLANK.BPORT 5, i), (CMP.BLANK.BLEN 5, 55), (CMP.BLANK.BEDGE 5, 3), (CMP.STATUS.BLANKING 5, if i/2%5=2 then 1 else 0),(CMP.CTRL.FILT 5, i%40)]).putCmp 5 { CmpSt.atReset 5 with hi := i/3%3=1, lanes := rnd (i+5)%4096, gates := if i/2%2=0 then [] else [(i%12, 4000)], hiTrip := i/4%2==1, blank := 700 }).setTcRun true).setNow 300).putPort i { PortSt.atReset 0 with lastTr := some (270*64), edges := [(270*64, true, 298)] })
def more : List State := [((sss.getD 1 State.reset).setSyncWait [12]).put (TC.CTRL.EN 3) 1 |>.setTcRun true, ((sss.getD 1 State.reset).put (TC.CTRL.EN 3) 1).setTcRun true]
def allSts : List State := (sss ++ css) ++ more
theorem witness_SampleSets : (
(let s := allSts.getD 0 State.reset
 let a : Owner := 0x40#8
 let n : Fin 32 := 5
 let k : Fin 16 := 5
 let v : Word := 0x000000001#36
 decide (s.get (ISL.STAT.STATE 12) = 0 ∧ s.get SAMP.STATUS.CALBUSY = 0 ∧ settledB s a = true ∧ a ≠ 0 ∧ s.get (SS.CTRL.OWNER n) = 0 ∧ s.get (SS.CTRL.EN n) = 0 ∧ s.slots n = [k.val] ∧ s.get (SS.SLOT.DIFF n k) = 0 ∧ s.get (SYS.CLM.OWNER (0x400 + s.get (SS.SLOT.AIN n k))) = 0 ∧ s.get (SYS.CLM.OWNER (0x500 + s.get (SS.SLOT.CORE n k))) = 0 ∧ v.toNat % 4 = 1)) &&
(let s := allSts.getD 2 State.reset
 let a : Owner := 0x40#8
 let n : Fin 32 := 5
 match s.coreTwice? n with
 | some c => (
  let v : Word := 0x000000001#36
  decide (s.get (ISL.STAT.STATE 12) = 0 ∧ s.get SAMP.STATUS.CALBUSY = 0 ∧ settledB s a = true ∧ a ≠ 0 ∧ s.get (SS.CTRL.OWNER n) = 0 ∧ s.get (SS.CTRL.EN n) = 0 ∧ v.toNat % 4 = 1))
 | _ => false) &&
(let s := allSts.getD 1 State.reset
 let a : Owner := 0x40#8
 let n : Fin 32 := 5
 let v : Word := 0x000000000#36
 decide (s.get (ISL.STAT.STATE 12) = 0 ∧ settledB s a = true ∧ a ≠ 0 ∧ s.get (SS.CTRL.OWNER n) = a.toNat ∧ s.get (SS.CTRL.EN n) = 1 ∧ v.toNat % 4 = 0)) &&
(let s := allSts.getD 100 State.reset
 let a : Owner := 0x40#8
 let n : Fin 32 := 5
 let v : Word := 0x000000003#36
 decide (s.get (ISL.STAT.STATE 12) = 0 ∧ s.unsynced 12 = true ∧ settledB s a = true ∧ a ≠ 0 ∧ s.get (SS.CTRL.OWNER n) = a.toNat ∧ s.get (SS.CTRL.EN n) = 1 ∧ v.toNat % 4 = 3 ∧ v.toNat / 2 ^ 28 % 2 ^ 8 = 0)) &&
(let s := allSts.getD 1 State.reset
 let a : Owner := 0x40#8
 let n : Fin 32 := 5
 let v : Word := 0x000000003#36
 decide (s.get (ISL.STAT.STATE 12) = 0 ∧ s.unsynced 12 = false ∧ settledB s a = true ∧ a ≠ 0 ∧ s.get (SS.CTRL.OWNER n) = a.toNat ∧ s.get (SS.CTRL.EN n) = 1 ∧ (s.sampSet n).last = none ∧ v.toNat % 4 = 3 ∧ v.toNat / 2 ^ 28 % 2 ^ 8 = 0)) &&
(let s := allSts.getD 0 State.reset
 let a : Owner := 0x40#8
 let n : Fin 32 := 5
 decide (s.get (ISL.STAT.STATE 12) = 0 ∧ settledB s a = true ∧ a ≠ 0 ∧ s.get (SS.CTRL.EN n) = 0)) &&
(let s := allSts.getD 1 State.reset
 let a : Owner := 0x40#8
 let n : Fin 32 := 5
 decide (s.get (ISL.STAT.STATE 12) = 0 ∧ settledB s a = true ∧ a ≠ 0 ∧ s.get (SS.CTRL.EN n) = 1)) &&
(let s := allSts.getD 100 State.reset
 let n : Fin 32 := 5
 let k : Fin 16 := 3
 decide (s.tcRun = true ∧ s.get (SS.CTRL.EN n) = 1 ∧ s.get (SS.CTRL.SRC n) = 2 ∧ s.get (TC.CTRL.EN k) = 1 ∧ s.get (SS.CTRL.SRCNUM n) = k.val)) &&
(let s := allSts.getD 1 State.reset
 let n : Fin 32 := 5
 let pre : List TrigFly := []
 let rest : List TrigFly := []
 let e : TrigFly := { src := 2003, at_ := 500, seen := [] }
 let A := e.at_ + max 24 (s.get (SS.CTRL.OFFSET n))
 decide (s.unsynced 12 = false ∧ s.get (SS.CTRL.EN n) = 1 ∧ (∀ x ∈ pre, s.trigFor n x = false) ∧ s.trigAt = pre ++ e :: rest ∧ s.trigFor n e = true ∧ (∀ l ∈ (s.sampSet n).last, l + 75 ≤ A))) &&
(let s := allSts.getD 9 State.reset
 let n : Fin 32 := 5
 let pre : List TrigFly := []
 let rest : List TrigFly := []
 let e : TrigFly := { src := 2003, at_ := 500, seen := [] }
 let A := e.at_ + max 24 (s.get (SS.CTRL.OFFSET n))
 match (s.sampSet n).last with
 | some l => (
  decide (s.unsynced 12 = false ∧ s.get (SS.CTRL.EN n) = 1 ∧ (s.sampSet n).wait = [] ∧ (∀ x ∈ pre, s.trigFor n x = false) ∧ s.trigAt = pre ++ e :: rest ∧ s.trigFor n e = true ∧ A < l + 75 ∧ l + 75 - A < 2 ^ (SS.STAT.WAIT n).w))
 | _ => false) &&
(let s := allSts.getD 11 State.reset
 let n : Fin 32 := 5
 let pre : List TrigFly := []
 let rest : List TrigFly := []
 let e : TrigFly := { src := 2003, at_ := 500, seen := [] }
 let A := e.at_ + max 24 (s.get (SS.CTRL.OFFSET n))
 match (s.sampSet n).last with
 | some l => (
  decide (s.unsynced 12 = false ∧ s.get (SS.CTRL.EN n) = 1 ∧ (s.sampSet n).wait ≠ [] ∧ (∀ x ∈ pre, s.trigFor n x = false) ∧ s.trigAt = pre ++ e :: rest ∧ s.trigFor n e = true ∧ A < l + 75))
 | _ => false) &&
(let s := allSts.getD 1 State.reset
 let n : Fin 32 := 5
 match (s.sampSet n).wait with
 | tr :: rest => (
  decide ((s.sampSet n).acq = none))
 | _ => false) &&
(let s := allSts.getD 6 State.reset
 let n : Fin 32 := 5
 match (s.sampSet n).acq with
 | some ⟨tr, z31_⟩ => (
  decide (z31_ = false))
 | _ => false) &&
(let s := allSts.getD 3 State.reset
 let n : Fin 32 := 5
 match (s.sampSet n).acq with
 | some ⟨tr, z31_⟩ => (
  let raw : List (BitVec 18) := [0x25ee8#18, 0x178fa#18, 0x0930c#18, 0x3ad1d#18, 0x2c72f#18, 0x1e141#18, 0x0fb53#18, 0x01565#18, 0x32f77#18, 0x24989#18, 0x1639a#18, 0x07dac#18, 0x397be#18, 0x2b1d0#18, 0x1cbe2#18, 0x0e5f4#18]
  decide (z31_ = true ∧ raw.length = 16))
 | _ => false)) = true := by decide +kernel
theorem witness_SampleSets_2 : (
(let s := allSts.getD 0 State.reset
 let n : Fin 32 := 5
 match (s.sampSet n).done with
 | [(tr, [r])] => (
  let e : Fin 24 := 2
  decide (s.rushes = [] ∧ r.slot < 16 ∧ r.val < 2 ^ 16 ∧ r.ain < 64 ∧ r.gain < 4 ∧ tr.dest = 2 ^ e.val))
 | _ => false) &&
(let s := allSts.getD 0 State.reset
 let a : Owner := 0x40#8
 decide (s.get (ISL.STAT.STATE 12) = 0 ∧ s.get SAMP.STATUS.CALBUSY = 0 ∧ (∀ m : Fin 32, s.get (SS.CTRL.EN m) = 0) ∧ settledB s a = true)) &&
(let s := allSts.getD 1 State.reset
 let n : Fin 32 := 5
 let a : Owner := 0x40#8
 decide (s.get (ISL.STAT.STATE 12) = 0 ∧ s.get (SS.CTRL.EN n) = 1 ∧ settledB s a = true)) &&
(let s := allSts.getD 4 State.reset
 decide (s.get SAMP.STATUS.CALBUSY = 1))) = true := by decide +kernel
theorem witness_Comparators : (
(let s := allSts.getD 47 State.reset
 let n : Fin 32 := 5
 let c := s.cmp n
 let T : Int := sgn 16 (s.get (CMP.THR.THH n)) + s.dacOff n
 let x : Int := 100
 decide (s.get (CMP.CTRL.EN n) = 1 ∧ s.get (CMP.CTRL.HIEN n) = 1 ∧ c.quiet ≤ s.t ∧ c.thrAt ≤ s.t ∧ c.hi = false ∧ c.lo = false ∧ T < x)) &&
(let s := allSts.getD 0 State.reset
 let n : Fin 32 := 5
 let c := s.cmp n
 let T : Int := sgn 16 (s.get (CMP.THR.THH n)) + s.dacOff n
 let x : Int := 100
 decide (s.get (CMP.STATUS.LIVE n) = 0 ∧ c.thrAt ≤ s.t ∧ c.hiTrip = false ∧ x ≤ T)) &&
(let s := allSts.getD 44 State.reset
 let n : Fin 32 := 5
 let c := s.cmp n
 let T : Int := sgn 16 (s.get (CMP.THR.THH n)) + s.dacOff n
 let x : Int := 100
 decide (c.thrAt ≤ s.t ∧ c.hiTrip = true ∧ T - 8 * (s.get (CMP.BLANK.HYST n) : Int) < x)) &&
(let s := allSts.getD 40 State.reset
 let n : Fin 32 := 5
 let c := s.cmp n
 match (s.port (s.get (CMP.BLANK.BPORT n))).edges with
 | [e] => (
  decide (s.get (CMP.BLANK.BPORT n) < 96 ∧ s.get (CMP.BLANK.BEDGE n) = 3 ∧ s.unsynced (12 + n / 8) = false ∧ s.get (CMP.STATUS.BLANKING n) = 0 ∧ (c.opened.1 < max (e.1 / 64) (e.2.2 + 6) ∨ c.opened.1 = max (e.1 / 64) (e.2.2 + 6) ∧ c.opened.2 < e.1) ∧ s.t ≤ max (e.1 / 64) (e.2.2 + 6) ∧ max (e.1 / 64) (e.2.2 + 6) < e.1 / 64 + s.get (CMP.BLANK.BLEN n)))
 | _ => false) &&
(let s := allSts.getD 44 State.reset
 let n : Fin 32 := 5
 decide (s.get (CMP.STATUS.BLANKING n) = 1)) &&
(let s := allSts.getD 43 State.reset
 let n : Fin 32 := 5
 let c := s.cmp n
 decide (s.get (CMP.CTRL.EN n) = 1 ∧ s.get (CMP.STATUS.BLANKING n) = 0 ∧ s.get (CMP.STATUS.LIVE n) = 0 ∧ s.get (CMP.CTRL.MODE n) = 0 ∧ s.unsynced (12 + n / 8) = false ∧ c.hi = true)) &&
(let s := allSts.getD 43 State.reset
 let n : Fin 32 := 5
 let c := s.cmp n
 let g : Fin 12 := 3
 match c.gates with
 | [(z71_, at_)] => (
  decide (Tab.rising 0 s.cmps = true ∧ s.groupTripped g = false ∧ (∀ e ∈ s.cmps, e.1 ≠ n.val → ∀ x ∈ e.2.gates, x.1 ≠ g.val) ∧ z71_ = g.val))
 | _ => false) &&
(let s := allSts.getD 0 State.reset
 let a : Owner := 0x40#8
 let n : Fin 32 := 5
 let v : Word := 0x000000001#36
 decide (settledB s a = true ∧ a ≠ 0 ∧ s.get (ISL.STAT.STATE (12 + n / 8)) = 0 ∧ s.get (CMP.CTRL.OWNER n) = 0 ∧ s.get (CMP.CTRL.EN n) = 0 ∧ v.toNat % 2 = 1)) &&
(let s := allSts.getD 41 State.reset
 let a : Owner := 0x40#8
 let n : Fin 32 := 5
 let v : Word := 0x000000000#36
 decide (settledB s a = true ∧ a ≠ 0 ∧ s.get (ISL.STAT.STATE (12 + n / 8)) = 0 ∧ s.get (CMP.CTRL.OWNER n) = a.toNat ∧ s.get (CMP.CTRL.EN n) = 1 ∧ v.toNat % 2 = 0)) &&
(let s := allSts.getD 41 State.reset
 let a : Owner := 0x40#8
 let n : Fin 32 := 5
 decide (settledB s a = true ∧ a ≠ 0 ∧ s.get (ISL.STAT.STATE (12 + n / 8)) = 0 ∧ s.get (CMP.CTRL.OWNER n) = a.toNat)) &&
(let s := allSts.getD 43 State.reset
 let a : Owner := 0x40#8
 let n : Fin 32 := 5
 let v : Word := 0x000000001#36
 decide (settledB s a = true ∧ a ≠ 0 ∧ s.get (ISL.STAT.STATE (12 + n / 8)) = 0 ∧ s.get (CMP.CTRL.OWNER n) = a.toNat ∧ s.get (CMP.CTRL.EN n) = 1 ∧ s.get (CMP.STATUS.LIVE n) = 0 ∧ v.toNat / 2 ^ 28 % 2 ^ 8 = 0)) &&
(let s := allSts.getD 41 State.reset
 let a : Owner := 0x01#8
 let n : Fin 32 := 5
 decide (settledB s a = true ∧ a ≠ 0 ∧ s.get (ISL.STAT.STATE (12 + n / 8)) = 0 ∧ s.get (CMP.CTRL.OWNER n) ≠ 0 ∧ s.get (CMP.CTRL.OWNER n) ≠ a.toNat))) = true := by decide +kernel
end W03

namespace W06
def st (i src : Nat) : State :=
  let s := mk [(PF.CTRL.EN 3, if i%13=12 then 0 else 1),(PF.CTRL.OWNER 3, if i%13=12 then 0 else 0x40),(PF.STATUS.VALID 3,1),(PF.CTRL.SRC 3,src),(PF.POS.POS 3, if i%3=0 then 2^36-1 else if i%3=1 then 2^35-1 else 0),(PF.CFG.FILT 3, i),(PF.CPR.CPR 3, 1000*(i%3)),(PF.AUX.HSEQ 3, 0o546231),(PF.CTRL.PCMPEN 3,i%2),(PF.CTRL.EVCMP 3,1),(EMU.CTRL.EN 2, i%3),(EMU.STATUS.ACTIVE 2,1), (EMU.CTRL.SRCCH 2, 3),(PF.SER0.TICK 3,5),(PF.SER0.DNIB 3,[3,1,6].getD (i%3) 0),(PF.SER0.DBITS 3, i), (PF.SER1.PERIOD 3, 900), (PF.STATUS.SIGLOST 3, 0), (PF.RES0.RESSET 3, 4), (SS.STAMP.STAMP 4, 1000),(PF.RES1.AMPNOM 3, 20000), (SS.CTRL.EN 4, i%2),(PF.RES0.EXCPER 3, 80000), (PF.CFG.ZEROT 3, 3)]
  let s := (s.setTcRun true).setNow (1000+i)
  (s.putPf 3 { s.pf 3 with a := i%2==0, b := i/2%2==0, sector := if i%5=0 then none else some (i%6), pts := if i%4=0 then [] else [(5,900,1),(4,900-i*20,1)], spd := (i:Int)*100000000 - 10^9, lastAt := 900, bad := if i/2%3=0 then 7 else i%7, peaks := if i%2=0 then [] else [(1000, i%3==0)], stamp := 555, turns := i, cal := if i%2=0 then 0 else 252100, bissAt := 980 }).putEmu 2 { s.emu 2 with backlog := i%4, phase := i%4 }
def more : List State :=
  let s3 := (st 3 3).with_ [(PF.SER0.TICK 3, 6), (PF.SER0.DNIB 3, 3), (PF.SER0.DBITS 3, 12), (PF.SER0.PAUSE 3, 0), (PF.SER0.CRCV 3, 0)]
  let s3 := s3.putPf 3 { s3.pf 3 with cal := 0 }
  let s4 := (List.range 3).map (fun i => let s := (st (3 + i) 4).with_ [(PF.SER0.DBITS 3, 12), (PF.SER0.MTBITS 3, 0), (PF.SER0.PAUSE 3, 0)]
    s.putPf 3 { s.pf 3 with busy := true, bad := if i = 2 then 7 else i })
  let s2 := [true, false].map (fun neg => let s := (st 4 2).put (PF.CTRL.SRC 3) 2
    (s.putPf 3 { s.pf 3 with peaks := [(1000, neg)] }).putSampSet 4 { s.sampSet 4 with full := some 1000 })
  [s3] ++ s4 ++ s2
def allSts : List State := ((List.range 5).flatMap fun src => (List.range 30).map fun i => st i src) ++ more
theorem witness_Position : (
(let s := allSts.getD 0 State.reset
 let n : Fin 16 := 3
 let c := s.pf n
 let running := s.get (PF.CTRL.EN n) = 1 ∧ s.get (PF.STATUS.VALID n) = 1
 let a : Bool := false
 decide (s.unsynced 16 = false ∧ s.get (PF.CTRL.SRC n) = 0 ∧ s.get (PF.CFG.QMODE n) = 0 ∧ s.get (PF.CFG.DIRINV n) = 0 ∧ s.get (PF.CTRL.IXMODE n) = 0 ∧ running ∧ c.a ≠ a)) &&
(let s := allSts.getD 0 State.reset
 let n : Fin 16 := 3
 let c := s.pf n
 let running := s.get (PF.CTRL.EN n) = 1 ∧ s.get (PF.STATUS.VALID n) = 1
 let b : Bool := false
 decide (s.unsynced 16 = false ∧ s.get (PF.CTRL.SRC n) = 0 ∧ s.get (PF.CFG.QMODE n) = 0 ∧ s.get (PF.CFG.DIRINV n) = 0 ∧ s.get (PF.CTRL.IXMODE n) = 0 ∧ running ∧ c.b ≠ b)) &&
(let s := allSts.getD 0 State.reset
 let n : Fin 16 := 3
 let c := s.pf n
 let running := s.get (PF.CTRL.EN n) = 1 ∧ s.get (PF.STATUS.VALID n) = 1
 let a : Bool := false
 let b : Bool := false
 decide (s.unsynced 16 = false ∧ s.get (PF.CTRL.SRC n) = 0 ∧ s.get (PF.CFG.QMODE n) = 0 ∧ s.get (PF.CFG.DIRINV n) = 0 ∧ s.get (PF.CTRL.IXMODE n) = 0 ∧ running ∧ c.a ≠ a ∧ c.b ≠ b)) &&
(let s := allSts.getD 31 State.reset
 let n : Fin 16 := 3
 let c := s.pf n
 let running := s.get (PF.CTRL.EN n) = 1 ∧ s.get (PF.STATUS.VALID n) = 1
 match c.sector with
 | some k => (
  let a : Bool := true
  let b : Bool := true
  let z : Bool := false
  decide (s.unsynced 16 = false ∧ s.get (PF.CTRL.SRC n) = 1 ∧ s.get (PF.CFG.DIRINV n) = 0 ∧ running ∧ k < 6 ∧ s.hallSector n ((if a then 4 else 0) + (if b then 2 else 0) + (if z then 1 else 0)) = some ((k + 1) % 6)))
 | _ => false) &&
(let s := allSts.getD 0 State.reset
 let n : Fin 16 := 0
 let ow : Owner := 0x40#8
 let v : Word := 0x000000001#36
 decide (s.get (ISL.STAT.STATE 16) = 0 ∧ s.get (PF.CTRL.EN n) = 0 ∧ s.get (PF.CTRL.OWNER n) = 0 ∧ s.get (SYS.CLM.OWNER (0x200 + 4 * n)) = 0 ∧ s.get (SYS.CLM.OWNER (0x201 + 4 * n)) = 0 ∧ settledB s ow = true ∧ ow ≠ 0 ∧ v.toNat % 16 = 1 ∧ v.toNat / 2 ^ 26 % 4 = 0)) &&
(let s := allSts.getD 0 State.reset
 let n : Fin 16 := 3
 let ow : Owner := 0x40#8
 let v : Word := 0x000000000#36
 decide (s.get (ISL.STAT.STATE 16) = 0 ∧ s.get (PF.CTRL.EN n) = 1 ∧ settledB s ow = true ∧ ow ≠ 0 ∧ s.get (PF.CTRL.OWNER n) = ow.toNat ∧ v.toNat % 2 = 0)) &&
(let s := allSts.getD 0 State.reset
 let n : Fin 16 := 3
 let c := s.pf n
 let ow : Owner := 0x40#8
 decide (s.get (ISL.STAT.STATE 16) = 0 ∧ s.get (PF.CTRL.SRC n) ≠ 2 ∧ c.turns < 2 ^ 16 ∧ c.stamp < 2 ^ 36 ∧ settledB s ow = true)) &&
(let s := allSts.getD 6 State.reset
 let n : Fin 16 := 3
 let c := s.pf n
 let running := s.get (PF.CTRL.EN n) = 1 ∧ s.get (PF.STATUS.VALID n) = 1
 match c.interval with
 | some iv => (
  decide (s.get (PF.CTRL.SRC n) ≠ 2 ∧ c.stopped = false ∧ running ∧ s.t ≤ c.lastAt + iv))
 | _ => false) &&
(let s := allSts.getD 0 State.reset
 let n : Fin 16 := 3
 let c := s.pf n
 let running := s.get (PF.CTRL.EN n) = 1 ∧ s.get (PF.STATUS.VALID n) = 1
 decide (s.get (PF.CTRL.SRC n) ≠ 2 ∧ c.stopped = false ∧ running)) &&
(let s := allSts.getD 0 State.reset
 let ow : Owner := 0x40#8
 let k : Fin 4 := 2
 let v : Word := 0x000000001#36
 decide (s.get (ISL.STAT.STATE 16) = 0 ∧ settledB s ow = true ∧ ow ≠ 0 ∧ s.get (EMU.CTRL.EN k) = 0 ∧ s.get (EMU.CTRL.OWNER k) = 0 ∧ s.get (SYS.CLM.OWNER (0x158 + 2 * k)) = 0 ∧ s.get (SYS.CLM.OWNER (0x159 + 2 * k)) = 0 ∧ v.toNat % 2 = 1)) &&
(let s := allSts.getD 1 State.reset
 let k : Fin 4 := 2
 decide (s.get (EMU.CTRL.EN k) = 1 ∧ s.get (EMU.STATUS.ACTIVE k) = 1 ∧ 0 < (s.emu k).backlog)) &&
(let s := allSts.getD 90 State.reset
 let n : Fin 16 := 3
 let running := s.get (PF.CTRL.EN n) = 1 ∧ s.get (PF.STATUS.VALID n) = 1
 let cal : Nat := 252000
 let status : Nat := 54000
 let lens : List Nat := [58500, 63000, 67500]
 let crc : Nat := 54000
 let pause : Option Nat := none
 match nibbles? cal (status :: (lens ++ [crc])) with
 | some nibs => (
  decide (s.unsynced 16 = false ∧ s.get (PF.CTRL.SRC n) = 3 ∧ running ∧ s.sentGood n cal nibs pause.isSome = true))
 | _ => false) &&
(let s := allSts.getD 90 State.reset
 let n : Fin 16 := 3
 let running := s.get (PF.CTRL.EN n) = 1 ∧ s.get (PF.STATUS.VALID n) = 1
 let cal : Nat := 252000
 let status : Nat := 54000
 let lens : List Nat := [58500, 63000, 67500]
 let crc : Nat := 58500
 let pause : Option Nat := none
 match nibbles? cal (status :: (lens ++ [crc])) with
 | some nibs => (
  decide (s.unsynced 16 = false ∧ s.get (PF.CTRL.SRC n) = 3 ∧ running ∧ s.sentGood n cal nibs pause.isSome = false))
 | _ => false) &&
(let s := allSts.getD 90 State.reset
 let n : Fin 16 := 3
 let running := s.get (PF.CTRL.EN n) = 1 ∧ s.get (PF.STATUS.VALID n) = 1
 let cal : Nat := 252000
 let status : Nat := 252000
 let lens : List Nat := [58500, 63000, 67500]
 let crc : Nat := 252000
 decide (s.unsynced 16 = false ∧ s.get (PF.CTRL.SRC n) = 3 ∧ running ∧ nibbles? cal (status :: (lens ++ [crc])) = none))) = true := by decide +kernel
theorem witness_Position_2 : (
(let s := allSts.getD 90 State.reset
 let n : Fin 16 := 3
 let running := s.get (PF.CTRL.EN n) = 1 ∧ s.get (PF.STATUS.VALID n) = 1
 decide (s.get (PF.CTRL.SRC n) = 3 ∧ running)) &&
(let s := allSts.getD 120 State.reset
 let n : Fin 16 := 3
 let c := s.pf n
 let running := s.get (PF.CTRL.EN n) = 1 ∧ s.get (PF.STATUS.VALID n) = 1
 decide (s.unsynced 16 = false ∧ s.get (PF.CTRL.SRC n) = 4 ∧ c.busy = false ∧ running)) &&
(let s := allSts.getD 151 State.reset
 let n : Fin 16 := 3
 let c := s.pf n
 let running := s.get (PF.CTRL.EN n) = 1 ∧ s.get (PF.STATUS.VALID n) = 1
 let st : Nat := 252000
 let crc : BitVec 6 := 0x3a#6
 decide (s.get (PF.CTRL.SRC n) = 4 ∧ s.bissTurns n = 0 ∧ c.busy = true ∧ running ∧ crc.toNat = 63 - crc6 (st % 2 ^ s.bissBits n * 4 + 3) (s.bissBits n + 2))) &&
(let s := allSts.getD 151 State.reset
 let n : Fin 16 := 3
 let c := s.pf n
 let running := s.get (PF.CTRL.EN n) = 1 ∧ s.get (PF.STATUS.VALID n) = 1
 let st : Nat := 252000
 let crc : BitVec 6 := 0x00#6
 decide (s.get (PF.CTRL.SRC n) = 4 ∧ s.bissTurns n = 0 ∧ c.busy = true ∧ c.bad ≠ 7 ∧ running ∧ crc.toNat ≠ 63 - crc6 (st % 2 ^ s.bissBits n * 4 + 3) (s.bissBits n + 2))) &&
(let s := allSts.getD 153 State.reset
 let n : Fin 16 := 3
 let c := s.pf n
 let running := s.get (PF.CTRL.EN n) = 1 ∧ s.get (PF.STATUS.VALID n) = 1
 decide (s.get (PF.CTRL.SRC n) = 4 ∧ s.bissTurns n = 0 ∧ c.busy = true ∧ c.bad = 7 ∧ running)) &&
(let s := allSts.getD 60 State.reset
 let n : Fin 16 := 3
 let running := s.get (PF.CTRL.EN n) = 1 ∧ s.get (PF.STATUS.VALID n) = 1
 decide (s.unsynced 16 = false ∧ s.get (PF.CTRL.SRC n) = 2 ∧ running)) &&
(let s := allSts.getD 154 State.reset
 let n : Fin 16 := 3
 let c := s.pf n
 let running := s.get (PF.CTRL.EN n) = 1 ∧ s.get (PF.STATUS.VALID n) = 1
 match (s.sampSet (s.get (PF.RES0.RESSET n))).full with
 | some ap => (
  decide (s.get (PF.CTRL.SRC n) = 2 ∧ running ∧ c.upd ≠ some ap))
 | _ => false)) = true := by decide +kernel
end W06

namespace W07
def bst (i : Nat) : PortSt := { PortSt.atReset 0 with started := i%4 ≠ 3, level := i % 2 == 1, ball := i % 2 == 1, follow := i/2%2==1, lastTr := if i%3==0 then none else some (1000*64 - 70), start := 1000, next := 2500, down := false, per := 1500, act := rnd i % 2^12, cmpF := [rnd (i+1) % 90000, 5, 1000, 0], evt := [2^34+ 77, 2^34, 3, 2^35+9], merge := if i%7==0 then some (70000, i%5==0) else none, rise := if i%5==0 then some 90000 else none}
def c07 (i : Nat) : State :=
  let P := 10
  let s := (((mk [(GP.STATUS.STATE P, 2), (GP.CTRL.MODE P, i/4%2),(GP.CTRL.EN P,1),(GP.CTRL.EVQ P, i%2), (GP.CTRL.EVQS P, i/3%4), (GP.STATUS.HCYC P, i/2%2), (GP.STATUS.HRED P, if i%11==0 then 1 else 0), (GP.LAT.SEQ P, i), (GP.CTRL.WSRC P, if i%3=2 then 0x13 else 0x12), (GP.STATUS.PCNT P, 65530+i)]).putPort P (bst i)).setTcRun true).setNow 900
  if i%2=0 ∨ i%4=3 then s.setPortWrites [⟨0x12, P, 1, -5 + 40 * (i : Int), 33, false⟩] else s
def more : List State :=
  ([(0, 0), (1, 0), (0, 1)] : List (Nat × Nat)).flatMap fun lm => [0x12, 0x40].flatMap fun ws =>
    ([(1000, 90000), (57800, 57000), (57800, 80000), (90000, 96000), (96000, 96001)] : List (Nat × Nat)).map fun hv =>
      let s := (c07 0).with_ [(GP.CTRL.LOAD 10, lm.1), (GP.CTRL.MODE 10, lm.2), (GP.CTRL.WSRC 10, ws)]
      let s := (s.setPortWrites [⟨0x13, 10, 1, 7, 33, false⟩, ⟨0x12, 10, 1, (hv.2 : Int), 33, false⟩]).setNow 1900
      s.putPort 10 { s.port 10 with started := true, start := 1000, next := 2500, cmpF := [hv.1, hv.1, hv.1, hv.1] } |> fun s => if lm.1 = 1 ∧ hv.1 = 1000 ∧ ws = 0x40 then s.putPort 10 { s.port 10 with started := false } else s
/-- Port 10 in RUN with port 11 as its low side: 0 a rise is pending, 1 none is, 2 the ball is low. -/
def pair (k : Nat) : State :=
  let s := (mk [(GP.STATUS.STATE 10, 2), (GP.STATUS.STATE 11, 3), (GP.CTRL.PAIR 10, 1), (GP.CTRL.EN 10, 1)]).setTcRun true
  s.putPort 10 { PortSt.atReset 0 with started := true, level := k = 1, ball := k = 1, start := 1000, next := 2500, per := 1500, dt := 5 * 2 ^ 18 + 3, act := 0x55, cmpF := [64000, 64001, 70000, 0], rise := if k = 0 then some 90000 else none }
/-- The low side of the pair has its rise to come. -/
def low : State := (pair 1).putPort 11 { PortSt.atReset 0 with rise := some 90000 }
/-- Port 10 with a shadow that is due at the coming load point, one that is not, and a value placed for the coming interval. -/
def due (m : Nat) : State := let s := ((c07 2).with_ [(GP.CTRL.MODE 10, m), (GP.STATUS.HCYC 10, 0), (GP.STATUS.HRED 10, 0)]).setPortWrites []
  s.putPort 10 { s.port 10 with started := true, level := false, ball := false, down := false, lastTr := none, merge := none, rise := none, cmpF := [1000, 2000, 3000, 4000], shadow := [some ⟨7, 1500, 0⟩, some ⟨8, 1000000, 0⟩, none, none], coming := [none, some ⟨55, none, 0⟩, some ⟨66, none, 0⟩, none], timing := [⟨0, 1600, 1000⟩, ⟨1, 0x55, 1200⟩, ⟨0, 1700, 2499⟩] }
/-- Port 10 with its island in Charcoal. -/
def dark : State := let s := (c07 0).put (ISL.STAT.STATE 17) 2
  s.setPortWrites [⟨0x12, 10, 1, 77, 33, false⟩]
def allSts : List State := ((List.range 60).map c07) ++ more ++ (List.range 3).map pair ++ [dark, low, due 0, due 1]
theorem witness_PortPeriod : (
(let s := allSts.getD 1 State.reset
 let p : Fin 96 := 10
 let b := s.port p
 let per := effPeriod (s.updown p) b.per
 let alone (T : Nat) : Bool := decide (∀ w ∈ b.was, w.at_ ≠ T)
 let clear (T : Nat) : Bool := decide (alone T ∧ b.merge = none ∧ ∀ l ∈ b.lastTr, l + 64 ≤ T)
 let x : Fin 4 := 1
 decide (s.get (GP.STATUS.STATE p) = 2 ∧ s.get (GP.CTRL.PAIR p) = 0 ∧ s.get (GP.CTRL.MODE p) = 0 ∧ b.started = true ∧ b.level = b.ball ∧ b.cmpF.getD x 0 < per * 64 ∧ x.val ∉ b.fired ∧ b.placed.getD x none = none ∧ clear (b.start * 64 + b.cmpF.getD x 0))) &&
(let s := allSts.getD 4 State.reset
 let p : Fin 96 := 10
 let b := s.port p
 let alone (T : Nat) : Bool := decide (∀ w ∈ b.was, w.at_ ≠ T)
 let clear (T : Nat) : Bool := decide (alone T ∧ b.merge = none ∧ ∀ l ∈ b.lastTr, l + 64 ≤ T)
 decide (s.get (GP.STATUS.STATE p) = 2 ∧ s.get (GP.CTRL.PAIR p) = 0 ∧ s.unsynced (17 + p / 48) = false ∧ s.get (GP.CTRL.MODE p) = 1 ∧ b.started = true ∧ b.down = false ∧ b.level = b.ball ∧ clear ((b.start + effPeriod true b.per / 2) * 64))) &&
(let s := allSts.getD 0 State.reset
 let p : Fin 96 := 10
 let b := s.port p
 let v : Bool := true
 match b.merge with
 | some (T, z121_) => (
  let alone (T : Nat) : Bool := decide (∀ w ∈ b.was, w.at_ ≠ T)
  decide (s.get (GP.STATUS.STATE p) = 2 ∧ s.get (GP.CTRL.PAIR p) = 0 ∧ z121_ = v ∧ (∀ l ∈ b.lastTr, l + 64 ≤ T) ∧ alone T))
 | _ => false) &&
(let s := allSts.getD 5 State.reset
 let p : Fin 96 := 10
 let b := s.port p
 match b.rise with
 | some T => (
  let alone (T : Nat) : Bool := decide (∀ w ∈ b.was, w.at_ ≠ T)
  let clear (T : Nat) : Bool := decide (alone T ∧ b.merge = none ∧ ∀ l ∈ b.lastTr, l + 64 ≤ T)
  decide (s.get (GP.STATUS.STATE p) = 2 ∧ s.get (GP.CTRL.PAIR p) = 0 ∧ clear T))
 | _ => false) &&
(let s := allSts.getD 0 State.reset
 let p : Fin 96 := 10
 let b := s.port p
 let per := effPeriod (s.updown p) b.per
 let k : Fin 4 := 1
 decide (s.get (GP.STATUS.STATE p) = 2 ∧ s.get (GP.CTRL.PAIR p) = 0 ∧ s.unsynced (17 + p / 48) = false ∧ b.started = true ∧ b.evt.getD k 0 / 2 ^ 34 % 4 = 1 ∧ b.evt.getD k 0 % 2 ^ 24 < per)) &&
(let s := allSts.getD 1 State.reset
 let p : Fin 96 := 10
 let b := s.port p
 let alone (T : Nat) : Bool := decide (∀ w ∈ b.was, w.at_ ≠ T)
 let clear (T : Nat) : Bool := decide (alone T ∧ b.merge = none ∧ ∀ l ∈ b.lastTr, l + 64 ≤ T)
 decide (s.get (GP.STATUS.STATE p) = 2 ∧ s.get (GP.CTRL.PAIR p) = 0 ∧ s.unsynced (17 + p / 48) = false ∧ (b.level && b.started) = b.ball ∧ clear (b.next * 64))) &&
(let s := allSts.getD 90 State.reset
 let p : Fin 96 := 10
 let b := s.port p
 match b.rise with
 | some T => (
  let clear (T : Nat) (q : PortSt) : Bool := decide ((∀ w ∈ b.was, w.at_ ≠ T) ∧ q.merge = none ∧ ∀ l ∈ q.lastTr, l + 64 ≤ T)
  decide (p.val % 2 = 0 ∧ s.get (GP.STATUS.STATE p) = 2 ∧ s.get (GP.STATUS.STATE (p + 1)) = 3 ∧ s.get (GP.CTRL.PAIR p) = 1 ∧ s.get (GP.CTRL.EN p) = 1 ∧ clear T b))
 | _ => false) &&
(let s := allSts.getD 90 State.reset
 let p : Fin 96 := 10
 decide (p.val % 2 = 0 ∧ s.get (GP.STATUS.STATE p) = 2 ∧ s.get (GP.STATUS.STATE (p + 1)) = 3 ∧ s.get (GP.CTRL.PAIR p) = 1 ∧ s.get (GP.CTRL.EN p) = 1)) &&
(let s := allSts.getD 90 State.reset
 let p : Fin 96 := 10
 let b := s.port p
 let o := s.port (p + 1)
 let clear (T : Nat) (q : PortSt) : Bool := decide ((∀ w ∈ b.was, w.at_ ≠ T) ∧ q.merge = none ∧ ∀ l ∈ q.lastTr, l + 64 ≤ T)
 let x : Fin 4 := 1
 let T := b.start * 64 + b.cmpF.getD x 0
 decide (p.val % 2 = 0 ∧ s.get (GP.STATUS.STATE p) = 2 ∧ s.get (GP.STATUS.STATE (p + 1)) = 3 ∧ s.get (GP.CTRL.PAIR p) = 1 ∧ s.get (GP.CTRL.EN p) = 1 ∧ s.get (GP.CTRL.MODE p) = 0 ∧ b.started = true ∧ b.level = false ∧ b.cmpF.getD x 0 < effPeriod false b.per * 64 ∧ x.val ∉ b.fired ∧ b.placed.getD x none = none ∧ actOn (b.act / 2 ^ (6 - 2 * x.val) % 4) false = true ∧ clear T o))) = true := by decide +kernel
theorem witness_CompareWrites : (
(let s := allSts.getD 3 State.reset
 let p : Fin 96 := 10
 let x : Fin 4 := 1
 let b := s.port p
 let a : Owner := 0x12#8
 match s.portWrites.find? (fun q => q.eng == a.toNat && q.port / 48 == p.val / 48) with
 | some w => (
  decide (s.get (ISL.STAT.STATE (17 + p / 48)) = 0 ∧ b.cmpF.length = 4 ∧ b.shadow.length = 4 ∧ b.placed.length = 4 ∧ (b.started = false ∨ s.get (GP.STATUS.STATE p) ≠ 2 ∨ s.unsynced (17 + p / 48) = true) ∧ 0x10 ≤ a.toNat ∧ a.toNat < 0x28 ∧ s.get (GP.CTRL.WSRC p) = a.toNat ∧ w.port = p.val ∧ w.cmp = x.val))
 | _ => false) &&
(let s := allSts.getD 70 State.reset
 let p : Fin 96 := 10
 let x : Fin 4 := 1
 let b := s.port p
 let a : Owner := 0x12#8
 match s.portWrites.find? (fun q => q.eng == a.toNat && q.port / 48 == p.val / 48) with
 | some w => (
  decide (s.get (ISL.STAT.STATE (17 + p / 48)) = 0 ∧ s.get (GP.STATUS.STATE p) = 2 ∧ s.unsynced (17 + p / 48) = false ∧ s.get (GP.CTRL.LOAD p) = 1 ∧ b.cmpF.length = 4 ∧ b.shadow.length = 4 ∧ b.placed.length = 4 ∧ b.started = true ∧ 0x10 ≤ a.toNat ∧ a.toNat < 0x28 ∧ s.get (GP.CTRL.WSRC p) = a.toNat ∧ w.port = p.val ∧ w.cmp = x.val))
 | _ => false) &&
(let s := allSts.getD 60 State.reset
 let p : Fin 96 := 10
 let x : Fin 4 := 1
 let b := s.port p
 let a : Owner := 0x12#8
 match s.portWrites.find? (fun q => q.eng == a.toNat && q.port / 48 == p.val / 48) with
 | some w => (
  let len := effPeriod false b.per * 64
  let held := b.cmpF.getD x 0
  let old := (b.placed.getD x none).getD (b.start * 64 + min held len)
  let w3 := (s.t + 3) * 64
  decide (s.get (ISL.STAT.STATE (17 + p / 48)) = 0 ∧ s.get (GP.STATUS.STATE p) = 2 ∧ s.unsynced (17 + p / 48) = false ∧ s.get (GP.CTRL.LOAD p) = 0 ∧ s.get (GP.CTRL.MODE p) = 0 ∧ b.cmpF.length = 4 ∧ b.shadow.length = 4 ∧ b.placed.length = 4 ∧ b.started = true ∧ s.t + 3 < b.next ∧ 0x10 ≤ a.toNat ∧ a.toNat < 0x28 ∧ s.get (GP.CTRL.WSRC p) = a.toNat ∧ w.port = p.val ∧ w.cmp = x.val ∧ (held < len ∨ (clampInt 0 (2 ^ 30 - 1) w.v).toNat < len) ∧ old < w3))
 | _ => false) &&
(let s := allSts.getD 61 State.reset
 let p : Fin 96 := 10
 let x : Fin 4 := 1
 let b := s.port p
 let a : Owner := 0x12#8
 match s.portWrites.find? (fun q => q.eng == a.toNat && q.port / 48 == p.val / 48) with
 | some w => (
  let len := effPeriod false b.per * 64
  let held := b.cmpF.getD x 0
  let old := (b.placed.getD x none).getD (b.start * 64 + min held len)
  let new := b.start * 64 + min (clampInt 0 (2 ^ 30 - 1) w.v).toNat len
  let w3 := (s.t + 3) * 64
  decide (s.get (ISL.STAT.STATE (17 + p / 48)) = 0 ∧ s.get (GP.STATUS.STATE p) = 2 ∧ s.unsynced (17 + p / 48) = false ∧ s.get (GP.CTRL.LOAD p) = 0 ∧ s.get (GP.CTRL.MODE p) = 0 ∧ b.cmpF.length = 4 ∧ b.shadow.length = 4 ∧ b.placed.length = 4 ∧ b.started = true ∧ s.t + 3 < b.next ∧ 0x10 ≤ a.toNat ∧ a.toNat < 0x28 ∧ s.get (GP.CTRL.WSRC p) = a.toNat ∧ w.port = p.val ∧ w.cmp = x.val ∧ (held < len ∨ (clampInt 0 (2 ^ 30 - 1) w.v).toNat < len) ∧ w3 ≤ old ∧ new < w3))
 | _ => false) &&
(let s := allSts.getD 0 State.reset
 let p : Fin 96 := 10
 let x : Fin 4 := 1
 let b := s.port p
 let a : Owner := 0x12#8
 match s.portWrites.find? (fun q => q.eng == a.toNat && q.port / 48 == p.val / 48) with
 | some w => (
  let len := effPeriod false b.per * 64
  let held := b.cmpF.getD x 0
  let old := (b.placed.getD x none).getD (b.start * 64 + min held len)
  let new := b.start * 64 + min (clampInt 0 (2 ^ 30 - 1) w.v).toNat len
  let w3 := (s.t + 3) * 64
  decide (s.get (ISL.STAT.STATE (17 + p / 48)) = 0 ∧ s.get (GP.STATUS.STATE p) = 2 ∧ s.unsynced (17 + p / 48) = false ∧ s.get (GP.CTRL.LOAD p) = 0 ∧ s.get (GP.CTRL.MODE p) = 0 ∧ b.cmpF.length = 4 ∧ b.shadow.length = 4 ∧ b.placed.length = 4 ∧ b.started = true ∧ s.t + 3 < b.next ∧ 0x10 ≤ a.toNat ∧ a.toNat < 0x28 ∧ s.get (GP.CTRL.WSRC p) = a.toNat ∧ w.port = p.val ∧ w.cmp = x.val ∧ (held < len ∨ (clampInt 0 (2 ^ 30 - 1) w.v).toNat < len) ∧ w3 ≤ old ∧ w3 ≤ new))
 | _ => false) &&
(let s := allSts.getD 64 State.reset
 let p : Fin 96 := 10
 let x : Fin 4 := 1
 let b := s.port p
 let a : Owner := 0x12#8
 match s.portWrites.find? (fun q => q.eng == a.toNat && q.port / 48 == p.val / 48) with
 | some w => (
  let len := effPeriod false b.per * 64
  let held := b.cmpF.getD x 0
  decide (s.get (ISL.STAT.STATE (17 + p / 48)) = 0 ∧ s.get (GP.STATUS.STATE p) = 2 ∧ s.unsynced (17 + p / 48) = false ∧ s.get (GP.CTRL.LOAD p) = 0 ∧ s.get (GP.CTRL.MODE p) = 0 ∧ b.cmpF.length = 4 ∧ b.shadow.length = 4 ∧ b.placed.length = 4 ∧ b.started = true ∧ s.t + 3 < b.next ∧ 0x10 ≤ a.toNat ∧ a.toNat < 0x28 ∧ s.get (GP.CTRL.WSRC p) = a.toNat ∧ w.port = p.val ∧ w.cmp = x.val ∧ len ≤ (clampInt 0 (2 ^ 30 - 1) w.v).toNat ∧ len ≤ held))
 | _ => false) &&
(let s := allSts.getD 0 State.reset
 let p : Fin 96 := 10
 let x : Fin 4 := 1
 let b := s.port p
 let a : Owner := 0x12#8
 match s.portWrites.find? (fun q => q.eng == a.toNat && q.port / 48 == p.val / 48) with
 | some w => (
  decide (s.get (ISL.STAT.STATE (17 + p / 48)) = 0 ∧ s.get (GP.STATUS.STATE p) = 2 ∧ s.unsynced (17 + p / 48) = false ∧ b.cmpF.length = 4 ∧ b.shadow.length = 4 ∧ b.placed.length = 4 ∧ b.started = true ∧ 0x10 ≤ a.toNat ∧ a.toNat < 0x28 ∧ s.get (GP.CTRL.WSRC p) = a.toNat ∧ w.port = p.val ∧ w.cmp = x.val))
 | _ => false) &&
(let s := allSts.getD 75 State.reset
 let p : Fin 96 := 10
 let b := s.port p
 let a : Owner := 0x40#8
 decide (s.get (ISL.STAT.STATE (17 + p / 48)) = 0 ∧ b.cmpF.length = 4 ∧ b.shadow.length = 4 ∧ b.placed.length = 4 ∧ (b.started = false ∨ s.get (GP.STATUS.STATE p) ≠ 2 ∨ s.unsynced (17 + p / 48) = true) ∧ settledB s a = true ∧ (a.toNat < 0x10 ∨ 0x28 ≤ a.toNat) ∧ a ≠ 0 ∧ s.get (GP.CTRL.WSRC p) = a.toNat)) &&
(let s := allSts.getD 76 State.reset
 let p : Fin 96 := 10
 let b := s.port p
 let a : Owner := 0x40#8
 decide (s.get (ISL.STAT.STATE (17 + p / 48)) = 0 ∧ s.get (GP.STATUS.STATE p) = 2 ∧ s.unsynced (17 + p / 48) = false ∧ s.get (GP.CTRL.LOAD p) = 1 ∧ b.cmpF.length = 4 ∧ b.shadow.length = 4 ∧ b.placed.length = 4 ∧ b.started = true ∧ settledB s a = true ∧ (a.toNat < 0x10 ∨ 0x28 ≤ a.toNat) ∧ a ≠ 0 ∧ s.get (GP.CTRL.WSRC p) = a.toNat)) &&
(let s := allSts.getD 65 State.reset
 let p : Fin 96 := 10
 let x : Fin 4 := 1
 let b := s.port p
 let a : Owner := 0x40#8
 let u : Word := 0x000013880#36
 let len := effPeriod false b.per * 64
 let held := b.cmpF.getD x 0
 let old := (b.placed.getD x none).getD (b.start * 64 + min held len)
 let w3 := (s.t + 3) * 64
 decide (s.get (ISL.STAT.STATE (17 + p / 48)) = 0 ∧ s.get (GP.STATUS.STATE p) = 2 ∧ s.unsynced (17 + p / 48) = false ∧ s.get (GP.CTRL.LOAD p) = 0 ∧ s.get (GP.CTRL.MODE p) = 0 ∧ b.cmpF.length = 4 ∧ b.shadow.length = 4 ∧ b.placed.length = 4 ∧ b.started = true ∧ s.t + 3 < b.next ∧ settledB s a = true ∧ (a.toNat < 0x10 ∨ 0x28 ≤ a.toNat) ∧ a ≠ 0 ∧ s.get (GP.CTRL.WSRC p) = a.toNat ∧ (held < len ∨ (u.toNat % 2 ^ 30) < len) ∧ old < w3)) &&
(let s := allSts.getD 66 State.reset
 let p : Fin 96 := 10
 let x : Fin 4 := 1
 let b := s.port p
 let a : Owner := 0x40#8
 let u : Word := 0x00000dea8#36
 let len := effPeriod false b.per * 64
 let held := b.cmpF.getD x 0
 let old := (b.placed.getD x none).getD (b.start * 64 + min held len)
 let new := b.start * 64 + min (u.toNat % 2 ^ 30) len
 let w3 := (s.t + 3) * 64
 decide (s.get (ISL.STAT.STATE (17 + p / 48)) = 0 ∧ s.get (GP.STATUS.STATE p) = 2 ∧ s.unsynced (17 + p / 48) = false ∧ s.get (GP.CTRL.LOAD p) = 0 ∧ s.get (GP.CTRL.MODE p) = 0 ∧ b.cmpF.length = 4 ∧ b.shadow.length = 4 ∧ b.placed.length = 4 ∧ b.started = true ∧ s.t + 3 < b.next ∧ settledB s a = true ∧ (a.toNat < 0x10 ∨ 0x28 ≤ a.toNat) ∧ a ≠ 0 ∧ s.get (GP.CTRL.WSRC p) = a.toNat ∧ (held < len ∨ (u.toNat % 2 ^ 30) < len) ∧ w3 ≤ old ∧ new < w3)) &&
(let s := allSts.getD 66 State.reset
 let p : Fin 96 := 10
 let x : Fin 4 := 1
 let b := s.port p
 let a : Owner := 0x40#8
 let u : Word := 0x000013880#36
 let len := effPeriod false b.per * 64
 let held := b.cmpF.getD x 0
 let old := (b.placed.getD x none).getD (b.start * 64 + min held len)
 let new := b.start * 64 + min (u.toNat % 2 ^ 30) len
 let w3 := (s.t + 3) * 64
 decide (s.get (ISL.STAT.STATE (17 + p / 48)) = 0 ∧ s.get (GP.STATUS.STATE p) = 2 ∧ s.unsynced (17 + p / 48) = false ∧ s.get (GP.CTRL.LOAD p) = 0 ∧ s.get (GP.CTRL.MODE p) = 0 ∧ b.cmpF.length = 4 ∧ b.shadow.length = 4 ∧ b.placed.length = 4 ∧ b.started = true ∧ s.t + 3 < b.next ∧ settledB s a = true ∧ (a.toNat < 0x10 ∨ 0x28 ≤ a.toNat) ∧ a ≠ 0 ∧ s.get (GP.CTRL.WSRC p) = a.toNat ∧ (held < len ∨ (u.toNat % 2 ^ 30) < len) ∧ w3 ≤ old ∧ w3 ≤ new)) &&
(let s := allSts.getD 69 State.reset
 let p : Fin 96 := 10
 let x : Fin 4 := 1
 let b := s.port p
 let a : Owner := 0x40#8
 let u : Word := 0x000017701#36
 let len := effPeriod false b.per * 64
 let held := b.cmpF.getD x 0
 decide (s.get (ISL.STAT.STATE (17 + p / 48)) = 0 ∧ s.get (GP.STATUS.STATE p) = 2 ∧ s.unsynced (17 + p / 48) = false ∧ s.get (GP.CTRL.LOAD p) = 0 ∧ s.get (GP.CTRL.MODE p) = 0 ∧ b.cmpF.length = 4 ∧ b.shadow.length = 4 ∧ b.placed.length = 4 ∧ b.started = true ∧ s.t + 3 < b.next ∧ settledB s a = true ∧ (a.toNat < 0x10 ∨ 0x28 ≤ a.toNat) ∧ a ≠ 0 ∧ s.get (GP.CTRL.WSRC p) = a.toNat ∧ len ≤ (u.toNat % 2 ^ 30) ∧ len ≤ held)) &&
(let s := allSts.getD 65 State.reset
 let p : Fin 96 := 10
 let b := s.port p
 let a : Owner := 0x40#8
 decide (s.get (ISL.STAT.STATE (17 + p / 48)) = 0 ∧ s.get (GP.STATUS.STATE p) = 2 ∧ s.unsynced (17 + p / 48) = false ∧ b.cmpF.length = 4 ∧ b.shadow.length = 4 ∧ b.placed.length = 4 ∧ b.started = true ∧ settledB s a = true ∧ (a.toNat < 0x10 ∨ 0x28 ≤ a.toNat) ∧ a ≠ 0 ∧ s.get (GP.CTRL.WSRC p) = a.toNat))) = true := by decide +kernel
theorem witness_CompareWrites_2 : (
(let s := allSts.getD 2 State.reset
 let p : Fin 96 := 10
 let x : Fin 4 := 1
 let a : Owner := 0x12#8
 match s.portWrites.find? (fun q => q.eng == a.toNat && q.port / 48 == p.val / 48) with
 | some w => (
  decide (s.get (ISL.STAT.STATE (17 + p / 48)) = 0 ∧ 0x10 ≤ a.toNat ∧ a.toNat < 0x28 ∧ s.get (GP.CTRL.WSRC p) ≠ a.toNat ∧ w.port = p.val ∧ w.cmp = x.val))
 | _ => false) &&
(let s := allSts.getD 0 State.reset
 let p : Fin 96 := 10
 let a : Owner := 0x40#8
 decide (s.get (ISL.STAT.STATE (17 + p / 48)) = 0 ∧ settledB s a = true ∧ (a.toNat < 0x10 ∨ 0x28 ≤ a.toNat) ∧ (s.get (GP.CTRL.WSRC p) ≠ a.toNat ∨ a = 0))) &&
(let s := allSts.getD 93 State.reset
 let p : Fin 96 := 10
 let a : Owner := 0x40#8
 decide (2 ≤ s.get (ISL.STAT.STATE (17 + p / 48)) ∧ settledB s a = true ∧ (a.toNat < 0x10 ∨ 0x28 ≤ a.toNat))) &&
(let s := allSts.getD 93 State.reset
 let p : Fin 96 := 10
 let x : Fin 4 := 1
 let a : Owner := 0x12#8
 match s.portWrites.find? (fun q => q.eng == a.toNat && q.port / 48 == p.val / 48) with
 | some w => (
  decide (2 ≤ s.get (ISL.STAT.STATE (17 + p / 48)) ∧ 0x10 ≤ a.toNat ∧ a.toNat < 0x28 ∧ w.port = p.val ∧ w.cmp = x.val))
 | _ => false) &&
(let s := allSts.getD 0 State.reset
 let p : Fin 96 := 10
 let x : Fin 4 := 1
 let a : Owner := 0x15#8
 decide (0x10 ≤ a.toNat ∧ a.toNat < 0x28 ∧ (∀ w, s.portWrites.find? (fun q => q.eng == a.toNat && q.port / 48 == p.val / 48) = some w → w.port ≠ p.val ∨ w.cmp ≠ x.val)))) = true := by decide +kernel
/-- PortPeriod: the low side of a pair rises after its dead time. -/
theorem witness_PortPeriod_low :
    (let s := low
     let o := s.port 11
     decide (s.get (GP.STATUS.STATE 10) = 2 ∧ s.get (GP.STATUS.STATE 11) = 3 ∧ s.get (GP.CTRL.PAIR 10) = 1 ∧ s.get (GP.CTRL.EN 10) = 1 ∧
       o.rise = some 90000 ∧ (s.port 10).was = none ∧ o.merge = none ∧ o.lastTr = none)) = true := by decide +kernel
/-- PortPeriod: a load point that finds a shadow that is due, one that is not, and values placed for the interval it opens. -/
theorem witness_PortPeriod_loads : ([(0, 2500), (1, 1750)].all fun m =>
    let b := (due m.1).port 10
    decide (b.cmpF.length = 4 ∧ b.shadow.length = 4 ∧ b.coming.length = 4 ∧ b.start < m.2 ∧
      b.shadow.map (Option.map fun h => decide (h.from_ ≤ m.2)) = [some true, some false, none, none])) = true := by decide +kernel
end W07

namespace W07b
def bst (i : Nat) : PortSt := { PortSt.atReset 0 with started := i%2==1, level := i % 2 == 1, ball := i % 2 == 1, follow := i/2%2==1, start := 1000, next := 2500, per := 1500, shadow := [none, some ⟨7,0,0⟩,none,none] }
def c07b (i : Nat) : State :=
  let P := 10
  (((mk [(GP.STATUS.STATE P, i%2*2), (GP.CTRL.MODE P, i/4%2),(GP.CTRL.EN P,i%2),(GP.CTRL.OWNER P, if i%2==1 then 0x12 else 0),
   (SYS.CLM.OWNER (0x100+P), if i%2==1 then 0x12 else 0),(SYS.CLM.FEATURE (0x100+P), if i%2==1 then P else 0), (PG.GSTAT.VCLASS 1, 1+i%2), (GP.SAFE.LEADP P, 100), (GP.STATUS.SAFED P, i/8%2),
    (GP.STATUS.HCYC P, i/2%2), (GP.STATUS.HRED P, if i%11==0 then 1 else 0), (GP.PERIOD.PERIOD P, 1500), (GP.START.START P, 55+i), (PG.GSTAT.REFCLASS 1, 1), (PORTS.CUTSTAT.LATCH, i/4%2), (PORTS.CUTSTAT.SIN, i/3%2), (PORTS.CUTSTAT.SHOST, i/5%2), (PORTS.CUTSTAT.SCTU, i/7%2), (PORTS.CUTSTAT.CUTCNT, 3), (ETH.SLSTATE.STATE, 3)
    ]).putPort P (bst i)).setNow 900).setLaneTest (if i%3=0 then [] else [(1, 1200)]) |>.setCmps (if i/6%2=1 then [(2, { CmpSt.atReset 2 with lanes := 2 })] else [])
def allSts : List State := (List.range 64).map c07b ++ [(c07b 1).put (PG.GSTAT.RED 1) 1]
theorem witness_PortEnabling : (
(let s := allSts.getD 0 State.reset
 let a : Owner := 0x12#8
 let p : Fin 96 := 10
 let v : Word := 0x000000001#36
 decide (settledB s a = true ∧ a ≠ 0 ∧ s.get (ISL.STAT.STATE (17 + p / 48)) = 0 ∧ s.get (GP.CTRL.OWNER p) = 0 ∧ s.get (GP.CTRL.EN p) = 0 ∧ (s.get (PG.GSTAT.VCLASS (p / 8)) = 1 ∨ s.get (PG.GSTAT.VCLASS (p / 8)) = 2) ∧ s.get (GP.SAFE.SCLS p) = 0 ∧ 96 ≤ s.get (GP.SAFE.LEADP p) ∧ s.get (SYS.CLM.OWNER (0x100 + p)) = 0 ∧ v.toNat % 2 = 1 ∧ v.toNat / 2 ^ 19 % 2 = 0)) &&
(let s := allSts.getD 1 State.reset
 let a : Owner := 0x12#8
 let p : Fin 96 := 10
 let v : Word := 0x000000000#36
 decide (settledB s a = true ∧ a ≠ 0 ∧ s.get (ISL.STAT.STATE (17 + p / 48)) = 0 ∧ s.get (GP.CTRL.OWNER p) = a.toNat ∧ s.get (GP.CTRL.EN p) = 1 ∧ s.get (GP.CTRL.PAIR p) = 0 ∧ s.get (SYS.CLM.OWNER (0x100 + p)) = a.toNat ∧ s.get (SYS.CLM.FEATURE (0x100 + p)) = p.val ∧ v.toNat % 2 = 0)) &&
(let s := allSts.getD 0 State.reset
 let a : Owner := 0x40#8
 let p : Fin 96 := 10
 decide (settledB s a = true ∧ a ≠ 0 ∧ a.toNat = 0x40 ∧ s.get (ISL.STAT.STATE (17 + p / 48)) = 0 ∧ s.get (GP.CTRL.EN p) = 0)) &&
(let s := allSts.getD 0 State.reset
 let a : Owner := 0x40#8
 let p : Fin 96 := 10
 decide ((∀ q : Fin 96, s.get (GP.CTRL.EN q) = 1 → s.get (GP.SAFE.SCLS q) ≠ 0 ∨ 96 ≤ s.get (GP.SAFE.LEADP q)) ∧ settledB s a = true ∧ a ≠ 0 ∧ a.toNat = 0x40 ∧ s.get (ISL.STAT.STATE (17 + p / 48)) = 0 ∧ s.get (GP.CTRL.EN p) = 0)) &&
(let s := allSts.getD 1 State.reset
 let a : Owner := 0x40#8
 let p : Fin 96 := 10
 decide (settledB s a = true ∧ a ≠ 0 ∧ a.toNat = 0x40 ∧ s.get (ISL.STAT.STATE (17 + p / 48)) = 0 ∧ s.get (GP.CTRL.EN p) = 1)) &&
(let s := allSts.getD 0 State.reset
 let a : Owner := 0x12#8
 let p : Fin 96 := 10
 decide (settledB s a = true ∧ a ≠ 0 ∧ a.toNat ≠ 0x40 ∧ s.get (ISL.STAT.STATE (17 + p / 48)) = 0)) &&
(let s := allSts.getD 0 State.reset
 let g : Fin 12 := 1
 let mv : BitVec 13 := 0x0af4#13
 decide (s.get (PG.GSTAT.REFCLASS g) = 1 ∧ s.get (PG.GSTAT.VIOLOW g) = 0 ∧ s.get (PG.GSTAT.RED g) = 0 ∧ mv.toNat * 100 < 280500)) &&
(let s := allSts.getD 0 State.reset
 let g : Fin 12 := 1
 let mv : BitVec 13 := 0x0af5#13
 decide (s.get (PG.GSTAT.REFCLASS g) = 1 ∧ 280500 ≤ mv.toNat * 100)) &&
(let s := allSts.getD 0 State.reset
 let g : Fin 12 := 1
 decide (s.get (PG.GSTAT.RED g) = 0)) &&
(let s := allSts.getD 64 State.reset
 let g : Fin 12 := 1
 decide (s.get (PG.GSTAT.RED g) = 1)) &&
(let s := allSts.getD 0 State.reset
 let g : Fin 12 := 1
 decide (s.groupTripped g = false ∧ s.groupGated g = false)) &&
(let s := allSts.getD 6 State.reset
 let g : Fin 12 := 1
 decide (s.groupTripped g = true)) &&
(let s := allSts.getD 1 State.reset
 let g : Fin 12 := 1
 let mv : BitVec 13 := 0x0af5#13
 decide (Tab.get (fun _ => 0) s.laneTest g ≠ 0 ∧ s.get (PG.GSTAT.REFCLASS g) = 1 ∧ 280500 ≤ mv.toNat * 100))) = true := by decide +kernel
theorem witness_CutLatch : (
(let s := allSts.getD 0 State.reset
 decide (s.get PORTS.CUTSTAT.LATCH = 0 ∧ s.get PORTS.CUTSTAT.SIN = 0)) &&
(let s := allSts.getD 0 State.reset
 let a : Owner := 0x12#8
 decide (s.get PORTS.CUTSTAT.LATCH = 0 ∧ s.get PORTS.CUTSTAT.SHOST = 0 ∧ settledB s a = true)) &&
(let s := allSts.getD 0 State.reset
 decide (s.get PORTS.CUTSTAT.LATCH = 0 ∧ s.get PORTS.CUTSTAT.SCTU = 0)) &&
(let s := allSts.getD 3 State.reset
 decide (s.get PORTS.CUTSTAT.SIN = 1)) &&
(let s := allSts.getD 0 State.reset
 decide (s.cut.ctuReq = false ∧ s.cut.noneReq = false)) &&
(let s := allSts.getD 3 State.reset
 decide ((s.get PORTS.CUTSTAT.SCTU = 1 ∨ s.get PORTS.CUTSTAT.SIN = 1 ∨ s.get PORTS.CUTSTAT.SUV = 1))) &&
(let s := allSts.getD 6 State.reset
 decide (s.get PORTS.CUTSTAT.SCTU = 0 ∧ s.get PORTS.CUTSTAT.SIN = 0 ∧ s.get PORTS.CUTSTAT.SUV = 0 ∧ s.get PORTS.CUTSTAT.LATCH = 1)) &&
(let s := allSts.getD 0 State.reset
 let a : Owner := 0x12#8
 decide (settledB s a = true ∧ a.toNat ≠ 0x40)) &&
(let s := allSts.getD 4 State.reset
 decide (s.get PORTS.CUTSTAT.LATCH = 1 ∧ s.cut.told = false ∧ s.get ETH.SLSTATE.STATE = 3))) = true := by decide +kernel
end W07b

namespace W08
def lw : List Nat := [0x000000000, 2 * 2^30]
def base (st o : Nat) : State := mk ([0,5,23].flatMap fun e => [(LE.STATUS.STATE e, st), (LE.CTRL.OWNER e, o), (LE.RUNS.RUNS e, 7), (LE.TRIG.KIND e, 0), (ENG.SPARES.SPARE, if st = 3 then 1+32+2^23 else 0), (LE.LAW.NOPS e, 2), (LE.LAW.STLEN e, 4), (LE.LAW.CONLEN e, 1)])
def base1 (st : Nat) : State := (base st 0x40).setNow 500
def more : List State := (List.range 7).map fun st => let s := base st 0x40
  s.setFlash { s.flash with wipe := true }
def allSts : List State := (((List.range 7).flatMap fun st => ([0,0x40,1].flatMap fun o => [base st o])) ++
  ((List.range 7).map fun st => [0,5,23].foldl (fun s e => 
     let c := crc32Words (lw ++ [0])
     (((s.wr (engBase e) 0).wr (engBase e + 1) (lw.getD 1 0)).wr (engState e 3) 99).put (LE.LAWCRC.CRC e) c) (base1 st)) ++
  ((List.range 7).flatMap fun st => [(1,0,0),(3,0,0),(4,0,0),(8,0,0)].map fun c => [0,5,23].foldl (fun s e => s.putEng e { s.eng e with cmd := some c, due := 4000 }) (base1 st)) ++
  ([0,5,23].flatMap fun e => [(base1 2).setEngTrigs [(e,77)], (base1 2).setLatFlight [(e,3,4)], (base1 2).putEng e {(base1 2).eng e with disp := some 88},
    ((base1 2).setEngTrigs [(e,77)]).putEng e {(base1 2).eng e with phase := 1 }]) ++ [((base1 2).put (LE.STATUS.STATE 7) 0).put (LE.STATUS.STATE 23) 0] ++ ([0,5,23].map fun e => let b := (base1 2).with_ [(LE.CTRL.FOVR e, 1),(LE.IMG.ADDR e,0x01004000),(BANKS.OWNER.OWNER 1, ownEngine e)]
    (b.putEng e { b.eng e with agreed := [(4,5)]}))) ++ more
theorem witness_EngineCommands : (
(let s := allSts.getD 0 State.reset
 let a : Owner := 0x01#8
 let e : Fin 24 := 0
 let st := s.get (LE.STATUS.STATE e)
 let v : Word := 0x010000000#36
 decide (settledB s a = true ∧ a ≠ 0 ∧ validOwner s.split a.toNat = true ∧ s.get (ISL.STAT.STATE (4 + e / 3)) = 0 ∧ s.get (LE.CTRL.OWNER e) = 0 ∧ st = 0 ∧ v.toNat / 2 ^ 28 % 2 ^ 8 = a.toNat)) &&
(let s := allSts.getD 1 State.reset
 let a : Owner := 0x01#8
 let e : Fin 24 := 0
 decide (settledB s a = true ∧ a ≠ 0 ∧ s.get (ISL.STAT.STATE (4 + e / 3)) = 0 ∧ s.get (LE.CTRL.OWNER e) ≠ 0 ∧ s.get (LE.CTRL.OWNER e) ≠ a.toNat)) &&
(let s := allSts.getD 1 State.reset
 let a : Owner := 0x40#8
 let e : Fin 24 := 0
 let st := s.get (LE.STATUS.STATE e)
 let off : BitVec 12 := 0x000#12
 decide (settledB s a = true ∧ a ≠ 0 ∧ s.get (ISL.STAT.STATE (4 + e / 3)) = 0 ∧ s.get (LE.CTRL.OWNER e) = a.toNat ∧ st = 0 ∧ (off.toNat < 0x800 ∨ 0xC00 ≤ off.toNat))) &&
(let s := allSts.getD 1 State.reset
 let a : Owner := 0x40#8
 let e : Fin 24 := 0
 let st := s.get (LE.STATUS.STATE e)
 decide (settledB s a = true ∧ a ≠ 0 ∧ s.get (ISL.STAT.STATE (4 + e / 3)) = 0 ∧ s.get (LE.CTRL.OWNER e) = a.toNat ∧ (st = 0 ∨ st = 1))) &&
(let s := allSts.getD 0 State.reset
 let a : Owner := 0x01#8
 let e : Fin 24 := 0
 let st := s.get (LE.STATUS.STATE e)
 decide (settledB s a = true ∧ a ≠ 0 ∧ s.get (ISL.STAT.STATE (4 + e / 3)) = 0 ∧ (s.get (LE.CTRL.OWNER e) ≠ a.toNat ∨ 2 ≤ st))) &&
(let s := allSts.getD 21 State.reset
 let a : Owner := 0x40#8
 let e : Fin 24 := 0
 let st := s.get (LE.STATUS.STATE e)
 match s.checkLaw e with
 | .inr k => (
  decide (s.flash.wipe = false ∧ s.marks = [] ∧ settledB s a = true ∧ a ≠ 0 ∧ s.get (ISL.STAT.STATE (4 + e / 3)) = 0 ∧ s.get (LE.CTRL.OWNER e) = a.toNat ∧ (s.eng e).cmd = none ∧ st = 0))
 | _ => false) &&
(let s := allSts.getD 1 State.reset
 let a : Owner := 0x40#8
 let e : Fin 24 := 0
 let st := s.get (LE.STATUS.STATE e)
 match s.checkLaw e with
 | .inl info => (
  decide (s.flash.wipe = false ∧ s.marks = [] ∧ settledB s a = true ∧ a ≠ 0 ∧ s.get (ISL.STAT.STATE (4 + e / 3)) = 0 ∧ s.get (LE.CTRL.OWNER e) = a.toNat ∧ (s.eng e).cmd = none ∧ st = 0))
 | _ => false) &&
(let s := allSts.getD 4 State.reset
 let a : Owner := 0x40#8
 let e : Fin 24 := 0
 let st := s.get (LE.STATUS.STATE e)
 decide (s.flash.wipe = false ∧ settledB s a = true ∧ a ≠ 0 ∧ s.get (ISL.STAT.STATE (4 + e / 3)) = 0 ∧ s.get (LE.CTRL.OWNER e) = a.toNat ∧ (s.eng e).cmd = none ∧ st = 1)) &&
(let s := allSts.getD 4 State.reset
 let a : Owner := 0x40#8
 let e : Fin 24 := 0
 let st := s.get (LE.STATUS.STATE e)
 decide (s.flash.wipe = false ∧ settledB s a = true ∧ a ≠ 0 ∧ s.get (ISL.STAT.STATE (4 + e / 3)) = 0 ∧ s.get (LE.CTRL.OWNER e) = a.toNat ∧ (s.eng e).cmd = none ∧ s.get (LE.CTRL.FOVR e) = 0 ∧ s.trigValid e = true ∧ st = 1)) &&
(let s := allSts.getD 7 State.reset
 let a : Owner := 0x40#8
 let e : Fin 24 := 0
 let st := s.get (LE.STATUS.STATE e)
 decide (s.flash.wipe = false ∧ settledB s a = true ∧ a ≠ 0 ∧ s.get (ISL.STAT.STATE (4 + e / 3)) = 0 ∧ s.get (LE.CTRL.OWNER e) = a.toNat ∧ (s.eng e).cmd = none ∧ (s.eng e).phase = 0 ∧ (s.eng e).disp = none ∧ st = 2)) &&
(let s := allSts.getD 7 State.reset
 let a : Owner := 0x40#8
 let e : Fin 24 := 0
 let st := s.get (LE.STATUS.STATE e)
 decide (s.flash.wipe = false ∧ settledB s a = true ∧ a ≠ 0 ∧ s.get (ISL.STAT.STATE (4 + e / 3)) = 0 ∧ s.get (LE.CTRL.OWNER e) = a.toNat ∧ (s.eng e).cmd = none ∧ (s.eng e).phase = 0 ∧ (s.eng e).disp = none ∧ (s.eng e).held = none ∧ (s.eng e).disarm = false ∧ s.unsynced (4 + e / 3) = false ∧ st = 2)) &&
(let s := allSts.getD 1 State.reset
 let a : Owner := 0x40#8
 let e : Fin 24 := 0
 let st := s.get (LE.STATUS.STATE e)
 decide (s.flash.wipe = false ∧ settledB s a = true ∧ a ≠ 0 ∧ s.get (ISL.STAT.STATE (4 + e / 3)) = 0 ∧ s.get (LE.CTRL.OWNER e) = a.toNat ∧ (s.eng e).cmd = none ∧ st = 0)) &&
(let s := allSts.getD 10 State.reset
 let a : Owner := 0x40#8
 let e : Fin 24 := 0
 let st := s.get (LE.STATUS.STATE e)
 decide (s.flash.wipe = false ∧ settledB s a = true ∧ a ≠ 0 ∧ s.get (ISL.STAT.STATE (4 + e / 3)) = 0 ∧ s.get (LE.CTRL.OWNER e) = a.toNat ∧ (s.eng e).cmd = none ∧ st = 3)) &&
(let s := allSts.getD 16 State.reset
 let a : Owner := 0x40#8
 let e : Fin 24 := 0
 let st := s.get (LE.STATUS.STATE e)
 decide (s.flash.wipe = false ∧ settledB s a = true ∧ a ≠ 0 ∧ s.get (ISL.STAT.STATE (4 + e / 3)) = 0 ∧ s.get (LE.CTRL.OWNER e) = a.toNat ∧ (s.eng e).cmd = none ∧ st = 5))) = true := by decide +kernel
theorem witness_EngineCommands_2 : (
(let s := allSts.getD 1 State.reset
 let a : Owner := 0x40#8
 let e : Fin 24 := 0
 let st := s.get (LE.STATUS.STATE e)
 decide (s.flash.wipe = false ∧ settledB s a = true ∧ a ≠ 0 ∧ s.get (ISL.STAT.STATE (4 + e / 3)) = 0 ∧ s.get (LE.CTRL.OWNER e) = a.toNat ∧ (s.eng e).cmd = none ∧ st ≠ 2)) &&
(let s := allSts.getD 72 State.reset
 let a : Owner := 0x40#8
 let e : Fin 24 := 0
 decide (s.flash.wipe = true ∧ settledB s a = true ∧ a ≠ 0 ∧ s.get (ISL.STAT.STATE (4 + e / 3)) = 0 ∧ s.get (LE.CTRL.OWNER e) = a.toNat)) &&
(let s := allSts.getD 0 State.reset
 let a : Owner := 0x01#8
 let e : Fin 24 := 0
 decide (settledB s a = true ∧ a ≠ 0 ∧ s.get (ISL.STAT.STATE (4 + e / 3)) = 0 ∧ s.get (LE.CTRL.OWNER e) ≠ a.toNat)) &&
(let s := allSts.getD 28 State.reset
 let a : Owner := 0x01#8
 let e : Fin 24 := 0
 match (s.eng e).cmd with
 | some c => (
  decide (settledB s a = true ∧ a ≠ 0 ∧ s.get (ISL.STAT.STATE (4 + e / 3)) = 0 ∧ (s.eng e).disarm = false ∧ (c = (1, 0, 0) ∨ c = (3, 0, 0) ∨ c = (4, 0, 0))))
 | _ => false) &&
(let s := allSts.getD 18 State.reset
 let a : Owner := 0x01#8
 let e : Fin 24 := 0
 let st := s.get (LE.STATUS.STATE e)
 decide (settledB s a = true ∧ a ≠ 0 ∧ s.get (ISL.STAT.STATE (4 + e / 3)) = 0 ∧ st = 6))) = true := by decide +kernel
theorem witness_EngineRuns : (
(let s := allSts.getD 57 State.reset
 let e : Fin 24 := 0
 match s.latFlight with
 | [q] => (
  decide (q.1 = e.val))
 | _ => false) &&
(let s := allSts.getD 56 State.reset
 let e : Fin 24 := 0
 match s.engTrigs with
 | [q] => (
  decide (s.unsynced (4 + e / 3) = false ∧ s.get (LE.STATUS.STATE e) = 2 ∧ (s.eng e).disarm = false ∧ (s.eng e).held = none ∧ (s.eng e).phase = 0 ∧ (s.eng e).disp = none ∧ q.1 = e.val))
 | _ => false) &&
(let s := allSts.getD 59 State.reset
 let e : Fin 24 := 0
 match s.engTrigs with
 | [q] => (
  decide (s.unsynced (4 + e / 3) = false ∧ s.get (LE.STATUS.STATE e) = 2 ∧ (s.eng e).disarm = false ∧ (s.eng e).held = none ∧ (s.eng e).phase = 1 ∧ q.1 = e.val))
 | _ => false) &&
(let s := allSts.getD 58 State.reset
 let e : Fin 24 := 0
 match (s.eng e).disp with
 | some stamp => (
  decide (s.get (LE.STATUS.STATE e) = 2 ∧ (s.eng e).phase = 0 ∧ stamp < 2 ^ 36))
 | _ => false) &&
(let s := allSts.getD 68 State.reset
 let e : Fin 24 := 0
 decide (s.get (LE.STATUS.STATE e) = 2 ∧ (s.eng e).ports = [] ∧ s.spareFor (s.on (LE.LAW.FAST e)) = none)) &&
(let s := allSts.getD 69 State.reset
 let e : Fin 24 := 0
 match s.spareFor (s.on (LE.LAW.FAST e)) with
 | some q => (
  let red := engRed e .engineRed s
  match (restoreData e false (red.putEng e { red.eng e with failing := 0 })).1 with
  | some m => (
   decide (s.get (LE.STATUS.STATE e) = 2 ∧ s.get (LE.CTRL.FOVR e) = 1))
  | _ => false)
 | _ => false) &&
(let s := allSts.getD 15 State.reset
 let e : Fin 24 := 0
 decide (s.get (LE.STATUS.STATE e) = 5 ∧ (s.eng e).failing = 0)) &&
(let s := allSts.getD 44 State.reset
 let e : Fin 24 := 0
 decide (s.get (LE.STATUS.STATE e) = 4 ∧ s.get (ISL.STAT.STATE (4 + e / 3)) = 0 ∧ s.windowOwed e = false ∧ (s.eng e).due ≠ 0))) = true := by decide +kernel
end W08

namespace W09
def stW (ks i : Nat) : State :=
  let s := mk [(RL.CTRL.BASE 5, 2), (RL.CTRL.SIZE 5, 0), (RL.CTRL.OWNER 5, if i%3=0 then 0 else 0x40), (RL.CTRL.EN 5, if i%3=2 then 1 else 0), (RL.CTRL.LEARN 5, i%2), (PF.STATUS.VALID 0,1), (RL.SPMAX.SPMAX 5, 10^9),(RL.LIMIT.LIMIT 5, 2^34),(RL.LRN.GAIN 5, 3000),(RL.LRN.LEAD 5, 0xFFE),(RL.LRN.REXP 5, 255),(FLASH.RSSTAT.STATE,2),(RL.UPD.UPD 5, 9),(RL.STATUS.DUE 5,0), (DDR.STATUS.STATE, 2), (DDR.STATUS.REGIONS, 4), (REELS.XADR.ADDR, 0x80000000+17)]
  let s := s.setReelQ (if i%5=0 then [] else [(5, 7, ⟨100*i, -5⟩)])
  let s := s.putReel 5 {s.reel 5 with first := i%2=0}
  let s := if i%7=6 then s.setMarks [(0x01200201, true)] else s
  let s := (List.range ks).foldl (fun s k => s.wr (0x01200200 + rnd k % 256) (rnd (k+i)%2^36)) s
  if i%11=10 then (s.setXfer (some ⟨5,2,4,[],0,[],false⟩)) else s
def st (i : Nat) : State := stW 30 i
def st' (i : Nat) : State := let s := stW 0 i; s.putRecs { s.recs with ahead := [3,4,5] }
def withImg (s : State) : State := s.stores (0x80000000+17) [0x7E1 * 2 ^ 24 + 255 * 2 ^ 16, 1995365866, 4, 0]
def hdS : State := let s := stW 0 1; s.setXfer (some ⟨5,1,0,s.imageHead 5,0x80000000+17,[],false⟩)
def heads : List Nat := [20334009878, 21407766703, 22481529282, 23555223419, 24628982929, 25702740520, 26776475211, 27850199282, 28923923224, 29997714849, 31071452364, 32145177205, 33218896287, 34292688678, 35366382912, 36440173561, 37513900051, 38587627178]
def recS : State :=
  let z (a : Nat) (h : List Nat) : List (Nat × Nat) := (h ++ List.replicate (16 - h.length) 0).zipIdx.map (fun (p : Nat × Nat) => (a + p.2, p.1))
  { stW 0 1 with
    mem := z 4197376 [25434259456,1,1,0,0,0,0,0,0,0,0,0,0,0,0,125309914] ++ heads.zipIdx.flatMap (fun (p : Nat × Nat) => z (4197392 + 16 * p.2) [p.1]) ++
      z 4197680 [19260269586, 33856356352, 1995365866, 9]
    recs := { (stW 0 1).recs with index := (17, 4197680) :: (List.range 18).map (fun k => (18 + k, 4197392 + 16 * k)) } }
def more : List State :=
  let b := stW 0 1
  let busy := let s := st' 1
    s.setRecs { s.recs with cmd := some ⟨1, 0, []⟩ }
  let rows := (rows15 2 (List.range 20)).zipIdx.map (fun q => (18 + q.2, q.1))
  let go (s : State) := s.setXfer (some ⟨5, 3, 0, padTo 15 [1, 2, 3], 17, rows, false⟩)
  let full := b.setRecs { b.recs with active := some 500, point := 5, ahead := [3, 4, 5] }
  let wins := ([[(9, 0), (11, 2)], [(9, 2), (11, 0)]] : List (List (Nat × Nat))).map fun q =>
    let s := (stW 30 2).put (RL.CTRL.EN 5) 1
    s.putReel 5 { s.reel 5 with first := false, req := q }
  wins ++ [busy, go b, go full, b.setXfer (some ⟨5, 2, 0, [], 0, [], false⟩)] ++
    [full, full.setRecs { full.recs with active := some 500, point := 60, ahead := [] }]
def allSts : List State := (((List.range 61).map st) ++ [st' 1] ++ [withImg (stW 0 1), hdS, recS]) ++ more
set_option maxRecDepth 1000000 in
theorem witness_Reels : (
(let s := allSts.getD 0 State.reset
 let a : Owner := 0x40#8
 let r : Fin 64 := 5
 let size (v : Word) : Nat := v.toNat / 2 ^ 16 % 8
 let base (v : Word) : Nat := v.toNat / 2 ^ 8 % 2 ^ 8
 let eng (v : Word) : Nat := v.toNat / 2 ^ 23 % 2 ^ 5
 let v : Word := 0x000000001#36
 decide (s.get (ISL.STAT.STATE 25) = 0 ∧ s.xfer = none ∧ (∀ q : Fin 64, s.get (RL.CTRL.EN q) = 0) ∧ settledB s a = true ∧ a ≠ 0 ∧ s.get (RL.CTRL.OWNER r) = 0 ∧ s.get (RL.CTRL.EN r) = 0 ∧ v.toNat % 2 = 1 ∧ size v < 6 ∧ base v % 2 ^ size v = 0 ∧ eng v < 24)) &&
(let s := allSts.getD 2 State.reset
 let a : Owner := 0x40#8
 let r : Fin 64 := 6
 let size (v : Word) : Nat := v.toNat / 2 ^ 16 % 8
 let base (v : Word) : Nat := v.toNat / 2 ^ 8 % 2 ^ 8
 let eng (v : Word) : Nat := v.toNat / 2 ^ 23 % 2 ^ 5
 let q : Fin 64 := 5
 let v : Word := 0x001800201#36
 decide (s.get (ISL.STAT.STATE 25) = 0 ∧ settledB s a = true ∧ a ≠ 0 ∧ s.get (RL.CTRL.OWNER r) = 0 ∧ s.get (RL.CTRL.EN r) = 0 ∧ (∀ x ∈ s.xfer, x.reel ≠ r.val) ∧ q ≠ r ∧ s.get (RL.CTRL.EN q) = 1 ∧ (∀ p : Fin 64, p ≠ q → s.get (RL.CTRL.EN p) = 0) ∧ v.toNat % 2 = 1 ∧ size v < 6 ∧ base v % 2 ^ size v = 0 ∧ base v + 2 ^ size v ≤ 256 ∧ eng v < 24 ∧ s.get (RL.CTRL.BASE q) ≤ base v ∧ base v < s.get (RL.CTRL.BASE q) + 2 ^ s.get (RL.CTRL.SIZE q))) &&
(let s := allSts.getD 2 State.reset
 let a : Owner := 0x40#8
 let r : Fin 64 := 5
 let v : Word := 0x000000000#36
 decide (s.get (ISL.STAT.STATE 25) = 0 ∧ settledB s a = true ∧ a ≠ 0 ∧ s.get (RL.CTRL.EN r) = 1 ∧ s.get (RL.CTRL.OWNER r) = a.toNat ∧ v.toNat % 2 = 0)) &&
(let s := allSts.getD 1 State.reset
 let a : Owner := 0x40#8
 let r : Fin 64 := 5
 let i : BitVec 16 := 0x0200#16
 decide (s.get (ISL.STAT.STATE 25) = 0 ∧ (∀ q : Fin 64, s.get (RL.CTRL.EN q) = 0) ∧ settledB s a = true ∧ a ≠ 0 ∧ s.get (RL.CTRL.OWNER r) = a.toNat ∧ s.reelHas r i.toNat = true)) &&
(let s := allSts.getD 2 State.reset
 let a : Owner := 0x40#8
 let r : Fin 64 := 5
 let i : BitVec 16 := 0x0200#16
 decide (s.get (ISL.STAT.STATE 25) = 0 ∧ settledB s a = true ∧ a ≠ 0 ∧ s.get (RL.CTRL.EN r) = 1 ∧ s.reelHas r i.toNat = true)) &&
(let s := allSts.getD 0 State.reset
 let a : Owner := 0x40#8
 let i : BitVec 16 := 0x0200#16
 decide (settledB s a = true ∧ s.markAt (0x01200000 + i.toNat) = none)) &&
(let s := allSts.getD 6 State.reset
 let a : Owner := 0x40#8
 let i : BitVec 16 := 0x0201#16
 decide (settledB s a = true ∧ s.markAt (0x01200000 + i.toNat) = some true)) &&
(let s := allSts.getD 50 State.reset
 let a : Owner := 0x40#8
 let r : Fin 64 := 5
 decide (s.reelQ = [] ∧ s.marks = [] ∧ settledB s a = true ∧ s.get (RL.CTRL.EN r) = 1 ∧ (s.reel r).first = true)) &&
(let s := allSts.getD 65 State.reset
 let a : Owner := 0x40#8
 let r : Fin 64 := 5
 match (s.reel r).req with
 | (h, z131_) :: rest => (
  decide (s.marks = [] ∧ settledB s a = true ∧ s.get (RL.CTRL.EN r) = 1 ∧ (s.reel r).first = false ∧ z131_ = 0))
 | _ => false) &&
(let s := allSts.getD 66 State.reset
 let a : Owner := 0x40#8
 let r : Fin 64 := 5
 let h : Nat := 9
 let k : Nat := 1
 let rest : List (Nat × Nat) := [(11, 0)]
 decide (settledB s a = true ∧ (s.reel r).first = false ∧ (s.reel r).req = (h, k + 1) :: rest)) &&
(let s := allSts.getD 1 State.reset
 let a : Owner := 0x40#8
 let r : Fin 64 := 5
 let n := 256 * 2 ^ s.get (RL.CTRL.SIZE r)
 match s.reelQ with
 | [(z111_, i, err)] => (
  decide (s.xfer = none ∧ s.marks = [] ∧ settledB s a = true ∧ s.reelFrozen r = false ∧ s.get (RL.CTRL.SMOOTH r) = 0 ∧ z111_ = r.val ∧ i < n))
 | _ => false) &&
(let s := allSts.getD 2 State.reset
 let a : Owner := 0x40#8
 let r : Fin 64 := 5
 match s.reelQ with
 | [(z111_, i, err)] => (
  decide (s.xfer = none ∧ settledB s a = true ∧ s.reelFrozen r = true ∧ z111_ = r.val))
 | _ => false) &&
(let s := allSts.getD 1 State.reset
 let a : Owner := 0x40#8
 let r : Fin 64 := 5
 let n := 256 * 2 ^ s.get (RL.CTRL.SIZE r)
 let at_ (i : Nat) : Nat := 0x01200000 + 256 * s.get (RL.CTRL.BASE r) + i
 let ents := (List.range n).map (fun i => s.rd (at_ i))
 let adr := s.get REELS.XADR.ADDR
 decide (s.get (ISL.STAT.STATE 25) = 0 ∧ s.xfer = none ∧ s.marks = [] ∧ settledB s a = true ∧ a ≠ 0 ∧ s.get (RL.CTRL.OWNER r) = a.toNat ∧ s.get (RL.CTRL.SIZE r) < 6 ∧ s.get (RL.CTRL.BASE r) + 2 ^ s.get (RL.CTRL.SIZE r) ≤ 256 ∧ (ddrWrites a.toNat (adr + 4) ents s).resp = .ok)) &&
(let s := allSts.getD 62 State.reset
 let a : Owner := 0x40#8
 let r : Fin 64 := 5
 let n := 256 * 2 ^ s.get (RL.CTRL.SIZE r)
 let adr := s.get REELS.XADR.ADDR
 match (ddrReads adr (n + 4) s).1 with
 | some ws => (
  decide (s.get (ISL.STAT.STATE 25) = 0 ∧ s.xfer = none ∧ s.marks = [] ∧ settledB s a = true ∧ a ≠ 0 ∧ s.get (RL.CTRL.OWNER r) = a.toNat ∧ s.get (RL.CTRL.SIZE r) < 6 ∧ s.get (RL.CTRL.BASE r) + 2 ^ s.get (RL.CTRL.SIZE r) ≤ 256 ∧ s.get (RL.CTRL.EN r) = 0 ∧ s.imageOk r ws ((ws.drop 4).take n) = true))
 | _ => false)) = true := by decide +kernel
set_option maxRecDepth 1000000 in
theorem witness_Reels_2 : (
(let s := allSts.getD 1 State.reset
 let a : Owner := 0x40#8
 let r : Fin 64 := 5
 let n := 256 * 2 ^ s.get (RL.CTRL.SIZE r)
 let at_ (i : Nat) : Nat := 0x01200000 + 256 * s.get (RL.CTRL.BASE r) + i
 let ents := (List.range n).map (fun i => s.rd (at_ i))
 let adr := s.get REELS.XADR.ADDR
 let todo := (rows15 ((n + 14) / 15) ents).zipIdx.map (fun q => (adr % 64 + 1 + q.2, q.1))
 let (left, u) := writeRecs todo s
 decide (s.get (ISL.STAT.STATE 25) = 0 ∧ s.xfer = none ∧ s.marks = [] ∧ s.get FLASH.RSSTAT.STATE = 2 ∧ s.recs.cmd = none ∧ settledB s a = true ∧ a ≠ 0 ∧ s.get (RL.CTRL.OWNER r) = a.toNat ∧ s.get (RL.CTRL.SIZE r) < 6 ∧ s.get (RL.CTRL.BASE r) + 2 ^ s.get (RL.CTRL.SIZE r) ≤ 256 ∧ s.get (RL.CTRL.SIZE r) ≤ 1 ∧ adr % 64 + 1 + (n + 14) / 15 ≤ 48)) &&
(let s := allSts.getD 67 State.reset
 let a : Owner := 0x40#8
 let r : Fin 64 := 5
 let n := 256 * 2 ^ s.get (RL.CTRL.SIZE r)
 let adr := s.get REELS.XADR.ADDR
 let u := allSts.getD 0 State.reset
 decide (s.get (ISL.STAT.STATE 25) = 0 ∧ s.xfer = none ∧ s.marks = [] ∧ s.get FLASH.RSSTAT.STATE = 2 ∧ s.recs.cmd ≠ none ∧ settledB s a = true ∧ a ≠ 0 ∧ s.get (RL.CTRL.OWNER r) = a.toNat ∧ s.get (RL.CTRL.SIZE r) < 6 ∧ s.get (RL.CTRL.BASE r) + 2 ^ s.get (RL.CTRL.SIZE r) ≤ 256 ∧ s.get (RL.CTRL.SIZE r) ≤ 1 ∧ adr % 64 + 1 + (n + 14) / 15 ≤ 48)) &&
(let s := allSts.getD 64 State.reset
 let a : Owner := 0x40#8
 let r : Fin 64 := 5
 let n := 256 * 2 ^ s.get (RL.CTRL.SIZE r)
 let adr := s.get REELS.XADR.ADDR
 match (readRecs (adr % 64) (1 + (n + 14) / 15) s).1 with
 | some ws => (
  decide (s.get (ISL.STAT.STATE 25) = 0 ∧ s.xfer = none ∧ s.marks = [] ∧ s.recs.cmd = none ∧ settledB s a = true ∧ a ≠ 0 ∧ s.get (RL.CTRL.OWNER r) = a.toNat ∧ s.get (RL.CTRL.SIZE r) < 6 ∧ s.get (RL.CTRL.BASE r) + 2 ^ s.get (RL.CTRL.SIZE r) ≤ 256 ∧ s.get (RL.CTRL.EN r) = 0 ∧ s.get (RL.CTRL.SIZE r) ≤ 1 ∧ adr % 64 + 1 + (n + 14) / 15 ≤ 48 ∧ s.imageOk r ws ((ws.drop 15).take n) = true))
 | _ => false) &&
(let s := allSts.getD 1 State.reset
 let a : Owner := 0x40#8
 let r : Fin 64 := 5
 decide (s.get (ISL.STAT.STATE 25) = 0 ∧ s.xfer = none ∧ s.marks = [] ∧ settledB s a = true ∧ a ≠ 0 ∧ s.get (RL.CTRL.OWNER r) = a.toNat ∧ s.get (RL.CTRL.SIZE r) < 6 ∧ s.get (RL.CTRL.BASE r) + 2 ^ s.get (RL.CTRL.SIZE r) ≤ 256 ∧ s.get (RL.CTRL.EN r) = 0)) &&
(let s := allSts.getD 2 State.reset
 let a : Owner := 0x40#8
 let r : Fin 64 := 5
 decide (s.get (ISL.STAT.STATE 25) = 0 ∧ s.xfer = none ∧ settledB s a = true ∧ a ≠ 0 ∧ s.get (RL.CTRL.OWNER r) = a.toNat ∧ s.get (RL.CTRL.EN r) = 1)) &&
(let s := allSts.getD 10 State.reset
 let a : Owner := 0x40#8
 let r : Fin 64 := 5
 match s.xfer with
 | some x => (
  decide (s.get (ISL.STAT.STATE 25) = 0 ∧ settledB s a = true ∧ a ≠ 0 ∧ s.get (RL.CTRL.OWNER r) = a.toNat))
 | _ => false) &&
(let s := allSts.getD 10 State.reset
 let a : Owner := 0x40#8
 let r : Fin 64 := 5
 match s.xfer with
 | some x => (
  decide (s.get (ISL.STAT.STATE 25) = 0 ∧ settledB s a = true ∧ a ≠ 0 ∧ s.get (RL.CTRL.OWNER r) = a.toNat ∧ x.head = [] ∧ x.late = false ∧ (x.cmd = 3 → x.stat ≠ 0) ∧ x.stat < 16 ∧ x.reel < 64 ∧ x.cmd < 6))
 | _ => false) &&
(let s := allSts.getD 63 State.reset
 let a : Owner := 0x40#8
 let r : Fin 64 := 5
 let n := 256 * 2 ^ s.get (RL.CTRL.SIZE r)
 let at_ (i : Nat) : Nat := 0x01200000 + 256 * s.get (RL.CTRL.BASE r) + i
 let ents := (List.range n).map (fun i => s.rd (at_ i))
 let head := [0x7E1 * 2 ^ 24 + s.get (RL.LRN.REXP r) * 2 ^ 16 + s.get (RL.CTRL.SIZE r) * 2 ^ 13, crc32Words ents, s.get (RL.UPD.UPD r), 0]
 let adr := s.get REELS.XADR.ADDR
 decide (s.get (ISL.STAT.STATE 25) = 0 ∧ settledB s a = true ∧ a ≠ 0 ∧ s.get (RL.CTRL.OWNER r) = a.toNat ∧ s.xfer = some ⟨r.val, 1, 0, head, adr, [], false⟩ ∧ (ddrWrites a.toNat adr head s).resp = .ok)) &&
(let s := allSts.getD 69 State.reset
 let a : Owner := 0x40#8
 let r : Fin 64 := 5
 match s.xfer with
 | some ⟨z171_, z172_, z173_, h, i, recs, z174_⟩ => (
  let (z191_, u) := writeRecs (recs ++ [(i, h)]) s
  decide (s.get (ISL.STAT.STATE 25) = 0 ∧ s.get FLASH.RSSTAT.STATE = 2 ∧ settledB s a = true ∧ a ≠ 0 ∧ s.get (RL.CTRL.OWNER r) = a.toNat ∧ z171_ = r.val ∧ z172_ = 3 ∧ z173_ = 0 ∧ z174_ = false ∧ z191_ = []))
 | _ => false) &&
(let s := allSts.getD 70 State.reset
 let a : Owner := 0x40#8
 let r : Fin 64 := 5
 decide (s.get (ISL.STAT.STATE 25) = 0 ∧ settledB s a = true ∧ a ≠ 0 ∧ s.get (RL.CTRL.OWNER r) = a.toNat ∧ s.xfer = some ⟨r.val, 2, 0, [], 0, [], false⟩ ∧ s.get (RL.CTRL.BASE r) + 2 ^ s.get (RL.CTRL.SIZE r) ≤ 256))) = true := by decide +kernel
end W09

namespace W10
def opcs : List Nat := [0,1,2,3,4,8,9,10,11,12,13,14,15,16,17,18,19,20,21,22,24,25,26,28,29,30,32,33,34,35,40,41,42,43,44,48,49,50,51,52,53]
def stE (opc seed : Nat) (ph : Nat) (f : Nat) : State :=
  let w := opc * 2^30 + (rnd (seed*7+opc) % 2^30)
  let w := if f = 1 then opc * 2^30 + (rnd (seed*7+opc) % 2^30) / 4096 * 4096 else w
  let w := if f = 2 then w / 2^18 * 2^18 + (4 + seed % 2) * 2^15 + rnd seed % 2^15 else w
  let w := if f = 3 then w / 2^12 * 2^12 + 2^9*2 + 3 else w
  let x := (List.range 64).map (fun i => if (rnd (seed+i*13+3))%5 = 0 then 0 else ((rnd (seed*64+i) % 2^36 : Nat) : Int) - 2^35)
  let p : LawPass := { LawPass.start with x := if f=3 then x.map (· / 4096) else x, se := (List.range 8).map (fun i => if f = 3 then (1:Int) else ((rnd (i+seed) % 40 : Nat) : Int) - 20), flag := seed%2==0, fa := [100000*seed, -50000000, 2^39-1-seed, 5], pc := 3, cyc := 9, ovf := seed % 256, skipFrom := if seed%6=5 then 2 else 0, skipTo := if seed%6=5 then 5 else 0, played := [(bits w 0 6, 9, 11)] }
  let s := (mk [(LE.STATUS.STATE 5, 2), (LE.CTRL.REL 5, seed % 2), (LE.PARAM.PARAM 5 3, 2^35+seed), (LE.PARAM.PARAM 5 7, 777+seed), (LE.RUNS.RUNS 5, 2^36-1)]).wr (engBase 5 + 3) w
  let s := (List.range 20).foldl (fun s i => ((s.wr (engConst 5 (rnd i % 1024)) (rnd (i+5) % 2^36)).wr (engState 5 (bits w 0 10)) (rnd (i+9) % 2^36)).wr (engConst 5 (bits w 0 10)) (rnd (i+4) % 2^36)) s
  let z : Window := ⟨250, (List.range 16).map (fun i => rnd i % 2^36), 256, -3, 2⟩
  let s := if seed%9=8 then s.setMarks [(engBase 5 + 3, true)] else s
  s.putEng 5 { s.eng 5 with phase := ph, pass := p, stamp := 1234, latched := if seed%3=0 then [] else [⟨bits w 0 6, some (if opc = 25 then {z with first := (((reelIndex (p.reads 1 |>.x (bits w 18 6)) 256 : Nat):Int) + 250).toNat % 256} else z), 0⟩], take := some ⟨p.log,p.se,p.ovf,false,0,0⟩ }
def endS (i : Nat) (v v2 : Int) (ph : Nat) (sig : Nat) : State :=
  let s := stE 2 0 ph 0
  let g := s.eng 5
  s.putEng 5 { g with pass := { g.pass with log := [.sts i v2] }, latched := [], take := some ⟨[.sts i v], g.pass.se, g.pass.ovf, g.pass.qovf, sig, 0⟩, retake := some ⟨[.sts i (v+1)], g.pass.se, g.pass.ovf, g.pass.qovf, 5, 0⟩ }
def word (w : Nat) (f : LawPass → LawPass) (ph : Nat) : State :=
  let s := stE (w / 2 ^ 30) 0 1 0
  let g := s.eng 5
  (s.wr (engBase 5 + 3) w).putEng 5 { g with phase := ph, pass := f g.pass, latched := [] }
def crS (m : Int) : State := word (28 * 2 ^ 30 + 20 * 2 ^ 24 + 8 * 2 ^ 18 + 1) (fun p => { p with x := (p.x.set 8 m).set 9 0 }) 1
def svS : State := word (35 * 2 ^ 30 + 20 * 2 ^ 24 + 8 * 2 ^ 18 + 16 * 2 ^ 12) (fun p => { p with x := (p.x.set 16 (-5)).set 17 1000 }) 1
def poS (rel : Nat) (d : Int) : State :=
  let s := (word (41 * 2 ^ 30 + 8 * 2 ^ 18 + 7 * 2 ^ 11 + 2 ^ 9) (fun p => p) 2).put (LE.CTRL.REL 5) rel
  let g := s.eng 5
  let x := g.sign * ((g.pass.reads g.sign).x 8).round 0
  s.putEng 5 { g with take := some ⟨[.pout 7 1 (d - x)], g.pass.se, g.pass.ovf, false, 0, 0⟩ }
def allSts : List State := (opcs.flatMap fun o => [0,1,2,3].flatMap fun f => (List.range 18).flatMap fun k => (if k < 14 then [1] else [2]).map fun ph => stE o k ph f) ++ [endS 3 7 (-7) 2 0, endS 1023 (-9) 9 2 0, endS 3 7 (-6) 3 1, endS 3 7 (9) 3 1, endS 3 7 7 3 0, crS (-9), crS 0, svS, poS 0 0, poS 1 0, poS 0 3, poS 1 3]
theorem witness_LawDataPaths : (
(let s := allSts.getD 0 State.reset
 let e : Fin 24 := 5
 let g := s.eng e
 let w := s.lawWord e
 decide (s.get (LE.STATUS.STATE e) = 2 ∧ g.phase ≠ 0 ∧ s.markAt (engBase e + g.pass.pc) = none ∧ g.pass.dead = false ∧ opcOf w = 0x00)) &&
(let s := allSts.getD 72 State.reset
 let e : Fin 24 := 5
 let g := s.eng e
 let w := s.lawWord e
 decide (s.get (LE.STATUS.STATE e) = 2 ∧ g.phase ≠ 0 ∧ s.markAt (engBase e + g.pass.pc) = none ∧ g.pass.dead = false ∧ opcOf w = 0x01)) &&
(let s := allSts.getD 360 State.reset
 let e : Fin 24 := 5
 let g := s.eng e
 let w := s.lawWord e
 decide (s.get (LE.STATUS.STATE e) = 2 ∧ g.phase ≠ 0 ∧ s.markAt (engBase e + g.pass.pc) = none ∧ g.pass.dead = false ∧ opcOf w = 0x08)) &&
(let s := allSts.getD 432 State.reset
 let e : Fin 24 := 5
 let g := s.eng e
 let w := s.lawWord e
 decide (s.get (LE.STATUS.STATE e) = 2 ∧ g.phase ≠ 0 ∧ s.markAt (engBase e + g.pass.pc) = none ∧ g.pass.dead = false ∧ opcOf w = 0x09)) &&
(let s := allSts.getD 504 State.reset
 let e : Fin 24 := 5
 let g := s.eng e
 let w := s.lawWord e
 decide (s.get (LE.STATUS.STATE e) = 2 ∧ g.phase ≠ 0 ∧ s.markAt (engBase e + g.pass.pc) = none ∧ g.pass.dead = false ∧ opcOf w = 0x0A)) &&
(let s := allSts.getD 576 State.reset
 let e : Fin 24 := 5
 let g := s.eng e
 let w := s.lawWord e
 decide (s.get (LE.STATUS.STATE e) = 2 ∧ g.phase ≠ 0 ∧ s.markAt (engBase e + g.pass.pc) = none ∧ g.pass.dead = false ∧ opcOf w = 0x0B)) &&
(let s := allSts.getD 648 State.reset
 let e : Fin 24 := 5
 let g := s.eng e
 let w := s.lawWord e
 decide (s.get (LE.STATUS.STATE e) = 2 ∧ g.phase ≠ 0 ∧ s.markAt (engBase e + g.pass.pc) = none ∧ g.pass.dead = false ∧ opcOf w = 0x0C)) &&
(let s := allSts.getD 720 State.reset
 let e : Fin 24 := 5
 let g := s.eng e
 let w := s.lawWord e
 decide (s.get (LE.STATUS.STATE e) = 2 ∧ g.phase ≠ 0 ∧ s.markAt (engBase e + g.pass.pc) = none ∧ g.pass.dead = false ∧ opcOf w = 0x0D)) &&
(let s := allSts.getD 792 State.reset
 let e : Fin 24 := 5
 let g := s.eng e
 let w := s.lawWord e
 decide (s.get (LE.STATUS.STATE e) = 2 ∧ g.phase ≠ 0 ∧ s.markAt (engBase e + g.pass.pc) = none ∧ g.pass.dead = false ∧ opcOf w = 0x0E)) &&
(let s := allSts.getD 864 State.reset
 let e : Fin 24 := 5
 let g := s.eng e
 let w := s.lawWord e
 decide (s.get (LE.STATUS.STATE e) = 2 ∧ g.phase ≠ 0 ∧ s.markAt (engBase e + g.pass.pc) = none ∧ g.pass.dead = false ∧ opcOf w = 0x0F)) &&
(let s := allSts.getD 937 State.reset
 let e : Fin 24 := 5
 let g := s.eng e
 let w := s.lawWord e
 let r := g.pass.reads g.sign
 let x := r.x
 let a := bits w 18 6
 let b := bits w 12 6
 decide (s.get (LE.STATUS.STATE e) = 2 ∧ g.phase ≠ 0 ∧ s.markAt (engBase e + g.pass.pc) = none ∧ g.pass.dead = false ∧ opcOf w = 0x10 ∧ (x b).abs.lt (x a) = true)) &&
(let s := allSts.getD 938 State.reset
 let e : Fin 24 := 5
 let g := s.eng e
 let w := s.lawWord e
 let r := g.pass.reads g.sign
 let x := r.x
 let a := bits w 18 6
 let b := bits w 12 6
 decide (s.get (LE.STATUS.STATE e) = 2 ∧ g.phase ≠ 0 ∧ s.markAt (engBase e + g.pass.pc) = none ∧ g.pass.dead = false ∧ opcOf w = 0x10 ∧ (x b).abs.lt (x a) = false ∧ (x a).lt (x b).abs.neg = false)) &&
(let s := allSts.getD 936 State.reset
 let e : Fin 24 := 5
 let g := s.eng e
 let w := s.lawWord e
 let r := g.pass.reads g.sign
 let x := r.x
 let a := bits w 18 6
 let b := bits w 12 6
 decide (s.get (LE.STATUS.STATE e) = 2 ∧ g.phase ≠ 0 ∧ s.markAt (engBase e + g.pass.pc) = none ∧ g.pass.dead = false ∧ opcOf w = 0x10 ∧ (x b).abs.lt (x a) = false ∧ (x a).lt (x b).abs.neg = true)) &&
(let s := allSts.getD 1012 State.reset
 let e : Fin 24 := 5
 let g := s.eng e
 let w := s.lawWord e
 let r := g.pass.reads g.sign
 let x := r.x
 let b := bits w 12 6
 decide (s.get (LE.STATUS.STATE e) = 2 ∧ g.phase ≠ 0 ∧ s.markAt (engBase e + g.pass.pc) = none ∧ g.pass.dead = false ∧ opcOf w = 0x11 ∧ (x (b + 1)).lt (x b) = true))) = true := by decide +kernel
theorem witness_LawDataPaths_2 : (
(let s := allSts.getD 1015 State.reset
 let e : Fin 24 := 5
 let g := s.eng e
 let w := s.lawWord e
 let r := g.pass.reads g.sign
 let x := r.x
 let a := bits w 18 6
 let b := bits w 12 6
 decide (s.get (LE.STATUS.STATE e) = 2 ∧ g.phase ≠ 0 ∧ s.markAt (engBase e + g.pass.pc) = none ∧ g.pass.dead = false ∧ opcOf w = 0x11 ∧ (x (b + 1)).lt (x b) = false ∧ (x a).lt (x b) = true)) &&
(let s := allSts.getD 1010 State.reset
 let e : Fin 24 := 5
 let g := s.eng e
 let w := s.lawWord e
 let r := g.pass.reads g.sign
 let x := r.x
 let a := bits w 18 6
 let b := bits w 12 6
 decide (s.get (LE.STATUS.STATE e) = 2 ∧ g.phase ≠ 0 ∧ s.markAt (engBase e + g.pass.pc) = none ∧ g.pass.dead = false ∧ opcOf w = 0x11 ∧ (x (b + 1)).lt (x b) = false ∧ (x a).lt (x b) = false ∧ (x (b + 1)).lt (x a) = true)) &&
(let s := allSts.getD 1008 State.reset
 let e : Fin 24 := 5
 let g := s.eng e
 let w := s.lawWord e
 let r := g.pass.reads g.sign
 let x := r.x
 let a := bits w 18 6
 let b := bits w 12 6
 decide (s.get (LE.STATUS.STATE e) = 2 ∧ g.phase ≠ 0 ∧ s.markAt (engBase e + g.pass.pc) = none ∧ g.pass.dead = false ∧ opcOf w = 0x11 ∧ (x (b + 1)).lt (x b) = false ∧ (x a).lt (x b) = false ∧ (x (b + 1)).lt (x a) = false)) &&
(let s := allSts.getD 1080 State.reset
 let e : Fin 24 := 5
 let g := s.eng e
 let w := s.lawWord e
 decide (s.get (LE.STATUS.STATE e) = 2 ∧ g.phase ≠ 0 ∧ s.markAt (engBase e + g.pass.pc) = none ∧ g.pass.dead = false ∧ opcOf w = 0x12)) &&
(let s := allSts.getD 1152 State.reset
 let e : Fin 24 := 5
 let g := s.eng e
 let w := s.lawWord e
 decide (s.get (LE.STATUS.STATE e) = 2 ∧ g.phase ≠ 0 ∧ s.markAt (engBase e + g.pass.pc) = none ∧ g.pass.dead = false ∧ opcOf w = 0x13)) &&
(let s := allSts.getD 1224 State.reset
 let e : Fin 24 := 5
 let g := s.eng e
 let w := s.lawWord e
 decide (s.get (LE.STATUS.STATE e) = 2 ∧ g.phase ≠ 0 ∧ s.markAt (engBase e + g.pass.pc) = none ∧ g.pass.dead = false ∧ opcOf w = 0x14)) &&
(let s := allSts.getD 1296 State.reset
 let e : Fin 24 := 5
 let g := s.eng e
 let w := s.lawWord e
 decide (s.get (LE.STATUS.STATE e) = 2 ∧ g.phase ≠ 0 ∧ s.markAt (engBase e + g.pass.pc) = none ∧ g.pass.dead = false ∧ opcOf w = 0x15)) &&
(let s := allSts.getD 1368 State.reset
 let e : Fin 24 := 5
 let g := s.eng e
 let w := s.lawWord e
 decide (s.get (LE.STATUS.STATE e) = 2 ∧ g.phase ≠ 0 ∧ s.markAt (engBase e + g.pass.pc) = none ∧ g.pass.dead = false ∧ opcOf w = 0x16)) &&
(let s := allSts.getD 1657 State.reset
 let e : Fin 24 := 5
 let g := s.eng e
 let w := s.lawWord e
 let r := g.pass.reads g.sign
 let x := r.x
 let a := bits w 18 6
 decide (s.get (LE.STATUS.STATE e) = 2 ∧ g.phase ≠ 0 ∧ s.markAt (engBase e + g.pass.pc) = none ∧ g.pass.dead = false ∧ opcOf w = 0x1C ∧ bitOf w 0 = true ∧ ((x (a + 1)).m ≠ 0 ∨ 0 < (x a).m))) &&
(let s := allSts.getD 2957 State.reset
 let e : Fin 24 := 5
 let g := s.eng e
 let w := s.lawWord e
 let r := g.pass.reads g.sign
 let x := r.x
 let a := bits w 18 6
 decide (s.get (LE.STATUS.STATE e) = 2 ∧ g.phase ≠ 0 ∧ s.markAt (engBase e + g.pass.pc) = none ∧ g.pass.dead = false ∧ opcOf w = 0x1C ∧ bitOf w 0 = true ∧ (x (a + 1)).m = 0 ∧ (x a).m < 0)) &&
(let s := allSts.getD 1659 State.reset
 let e : Fin 24 := 5
 let g := s.eng e
 let w := s.lawWord e
 let r := g.pass.reads g.sign
 let x := r.x
 let a := bits w 18 6
 decide (s.get (LE.STATUS.STATE e) = 2 ∧ g.phase ≠ 0 ∧ s.markAt (engBase e + g.pass.pc) = none ∧ g.pass.dead = false ∧ opcOf w = 0x1C ∧ bitOf w 0 = true ∧ (x (a + 1)).m = 0 ∧ (x a).m = 0)) &&
(let s := allSts.getD 1656 State.reset
 let e : Fin 24 := 5
 let g := s.eng e
 let w := s.lawWord e
 decide (s.get (LE.STATUS.STATE e) = 2 ∧ g.phase ≠ 0 ∧ s.markAt (engBase e + g.pass.pc) = none ∧ g.pass.dead = false ∧ opcOf w = 0x1C ∧ bitOf w 0 = false)) &&
(let s := allSts.getD 1728 State.reset
 let e : Fin 24 := 5
 let g := s.eng e
 let w := s.lawWord e
 let r := g.pass.reads g.sign
 let x := r.x
 let b := bits w 12 6
 decide (s.get (LE.STATUS.STATE e) = 2 ∧ g.phase ≠ 0 ∧ s.markAt (engBase e + g.pass.pc) = none ∧ g.pass.dead = false ∧ opcOf w = 0x1D ∧ (x b).m ≠ 0)) &&
(let s := allSts.getD 1764 State.reset
 let e : Fin 24 := 5
 let g := s.eng e
 let w := s.lawWord e
 let r := g.pass.reads g.sign
 let x := r.x
 let b := bits w 12 6
 decide (s.get (LE.STATUS.STATE e) = 2 ∧ g.phase ≠ 0 ∧ s.markAt (engBase e + g.pass.pc) = none ∧ g.pass.dead = false ∧ opcOf w = 0x1D ∧ (x b).m = 0))) = true := by decide +kernel
theorem witness_LawDataPaths_3 : (
(let s := allSts.getD 1800 State.reset
 let e : Fin 24 := 5
 let g := s.eng e
 let w := s.lawWord e
 let r := g.pass.reads g.sign
 let x := r.x
 let a := bits w 18 6
 decide (s.get (LE.STATUS.STATE e) = 2 ∧ g.phase ≠ 0 ∧ s.markAt (engBase e + g.pass.pc) = none ∧ g.pass.dead = false ∧ opcOf w = 0x1E ∧ 0 ≤ (x a).m)) &&
(let s := allSts.getD 1802 State.reset
 let e : Fin 24 := 5
 let g := s.eng e
 let w := s.lawWord e
 let r := g.pass.reads g.sign
 let x := r.x
 let a := bits w 18 6
 decide (s.get (LE.STATUS.STATE e) = 2 ∧ g.phase ≠ 0 ∧ s.markAt (engBase e + g.pass.pc) = none ∧ g.pass.dead = false ∧ opcOf w = 0x1E ∧ (x a).m < 0)) &&
(let s := allSts.getD 1872 State.reset
 let e : Fin 24 := 5
 let g := s.eng e
 let w := s.lawWord e
 decide (s.get (LE.STATUS.STATE e) = 2 ∧ g.phase ≠ 0 ∧ s.markAt (engBase e + g.pass.pc) = none ∧ g.pass.dead = false ∧ opcOf w = 0x20)) &&
(let s := allSts.getD 1944 State.reset
 let e : Fin 24 := 5
 let g := s.eng e
 let w := s.lawWord e
 decide (s.get (LE.STATUS.STATE e) = 2 ∧ g.phase ≠ 0 ∧ s.markAt (engBase e + g.pass.pc) = none ∧ g.pass.dead = false ∧ opcOf w = 0x21)) &&
(let s := allSts.getD 2016 State.reset
 let e : Fin 24 := 5
 let g := s.eng e
 let w := s.lawWord e
 decide (s.get (LE.STATUS.STATE e) = 2 ∧ g.phase ≠ 0 ∧ s.markAt (engBase e + g.pass.pc) = none ∧ g.pass.dead = false ∧ opcOf w = 0x22)) &&
(let s := allSts.getD 2088 State.reset
 let e : Fin 24 := 5
 let g := s.eng e
 let w := s.lawWord e
 let r := g.pass.reads g.sign
 let x := r.x
 let b := bits w 12 6
 decide (s.get (LE.STATUS.STATE e) = 2 ∧ g.phase ≠ 0 ∧ s.markAt (engBase e + g.pass.pc) = none ∧ g.pass.dead = false ∧ opcOf w = 0x23 ∧ (x (b + 1)).m ≤ 0)) &&
(let s := allSts.getD 2098 State.reset
 let e : Fin 24 := 5
 let g := s.eng e
 let w := s.lawWord e
 let r := g.pass.reads g.sign
 let x := r.x
 let b := bits w 12 6
 decide (s.get (LE.STATUS.STATE e) = 2 ∧ g.phase ≠ 0 ∧ s.markAt (engBase e + g.pass.pc) = none ∧ g.pass.dead = false ∧ opcOf w = 0x23 ∧ 0 < (x (b + 1)).m ∧ (x b).m < 0)) &&
(let s := allSts.getD 2091 State.reset
 let e : Fin 24 := 5
 let g := s.eng e
 let w := s.lawWord e
 let r := g.pass.reads g.sign
 let x := r.x
 let b := bits w 12 6
 decide (s.get (LE.STATUS.STATE e) = 2 ∧ g.phase ≠ 0 ∧ s.markAt (engBase e + g.pass.pc) = none ∧ g.pass.dead = false ∧ opcOf w = 0x23 ∧ 0 < (x (b + 1)).m ∧ 0 ≤ (x b).m)) &&
(let s := allSts.getD 2520 State.reset
 let e : Fin 24 := 5
 let g := s.eng e
 let w := s.lawWord e
 decide (s.get (LE.STATUS.STATE e) = 2 ∧ g.phase ≠ 0 ∧ s.markAt (engBase e + g.pass.pc) = none ∧ g.pass.dead = false ∧ opcOf w = 0x30)) &&
(let s := allSts.getD 2592 State.reset
 let e : Fin 24 := 5
 let g := s.eng e
 let w := s.lawWord e
 decide (s.get (LE.STATUS.STATE e) = 2 ∧ g.phase ≠ 0 ∧ s.markAt (engBase e + g.pass.pc) = none ∧ g.pass.dead = false ∧ opcOf w = 0x31)) &&
(let s := allSts.getD 2664 State.reset
 let e : Fin 24 := 5
 let g := s.eng e
 let w := s.lawWord e
 decide (s.get (LE.STATUS.STATE e) = 2 ∧ g.phase ≠ 0 ∧ s.markAt (engBase e + g.pass.pc) = none ∧ g.pass.dead = false ∧ opcOf w = 0x32)) &&
(let s := allSts.getD 2736 State.reset
 let e : Fin 24 := 5
 let g := s.eng e
 let w := s.lawWord e
 decide (s.get (LE.STATUS.STATE e) = 2 ∧ g.phase ≠ 0 ∧ s.markAt (engBase e + g.pass.pc) = none ∧ g.pass.dead = false ∧ opcOf w = 0x33)) &&
(let s := allSts.getD 2808 State.reset
 let e : Fin 24 := 5
 let g := s.eng e
 let w := s.lawWord e
 decide (s.get (LE.STATUS.STATE e) = 2 ∧ g.phase ≠ 0 ∧ s.markAt (engBase e + g.pass.pc) = none ∧ g.pass.dead = false ∧ opcOf w = 0x34)) &&
(let s := allSts.getD 2880 State.reset
 let e : Fin 24 := 5
 let g := s.eng e
 let w := s.lawWord e
 decide (s.get (LE.STATUS.STATE e) = 2 ∧ g.phase ≠ 0 ∧ s.markAt (engBase e + g.pass.pc) = none ∧ g.pass.dead = false ∧ opcOf w = 0x35))) = true := by decide +kernel
theorem witness_LawDataPaths_4 : (
(let s := allSts.getD 408 State.reset
 let e : Fin 24 := 5
 let g := s.eng e
 let w := s.lawWord e
 let a := bits w 18 6
 let b := bits w 12 6
 let d := bits w 24 6
 decide (s.get (LE.STATUS.STATE e) = 2 ∧ g.phase = 1 ∧ s.markAt (engBase e + g.pass.pc) = none ∧ g.pass.dead = false ∧ g.pass.flight = [] ∧ g.pass.x.length = 64 ∧ opcOf w = 0x08 ∧ d < 64 ∧ g.pass.seOf a = g.pass.seOf d ∧ g.pass.seOf b = g.pass.seOf d)) &&
(let s := allSts.getD 365 State.reset
 let e : Fin 24 := 5
 let g := s.eng e
 let w := s.lawWord e
 decide (s.get (LE.STATUS.STATE e) = 2 ∧ g.phase = 1 ∧ s.markAt (engBase e + g.pass.pc) = none ∧ g.pass.dead = true ∧ g.pass.flight = [] ∧ opcOf w = 0x08)) &&
(let s := allSts.getD 368 State.reset
 let e : Fin 24 := 5
 let g := s.eng e
 let w := s.lawWord e
 decide (s.get (LE.STATUS.STATE e) = 2 ∧ g.phase = 1 ∧ s.due (engBase e + g.pass.pc) = true ∧ opcOf w = 0x08))) = true := by decide +kernel
theorem witness_LawMemoryOps : (
(let s := allSts.getD 1440 State.reset
 let e : Fin 24 := 5
 let g := s.eng e
 let w := s.lawWord e
 decide (s.marks = [] ∧ s.get (LE.STATUS.STATE e) = 2 ∧ g.phase = 1 ∧ g.pass.dead = false ∧ g.pass.flight = [] ∧ opcOf w = 0x18)) &&
(let s := allSts.getD 2448 State.reset
 let e : Fin 24 := 5
 let g := s.eng e
 let w := s.lawWord e
 decide (s.marks = [] ∧ s.get (LE.STATUS.STATE e) = 2 ∧ g.phase = 1 ∧ g.pass.dead = false ∧ g.pass.flight = [] ∧ opcOf w = 0x2C)) &&
(let s := allSts.getD 2304 State.reset
 let e : Fin 24 := 5
 let g := s.eng e
 let w := s.lawWord e
 decide (s.marks = [] ∧ s.get (LE.STATUS.STATE e) = 2 ∧ g.phase = 1 ∧ g.pass.dead = false ∧ g.pass.flight = [] ∧ g.pass.view = [] ∧ opcOf w = 0x2A)) &&
(let s := allSts.getD 2160 State.reset
 let e : Fin 24 := 5
 let g := s.eng e
 let w := s.lawWord e
 decide (s.marks = [] ∧ s.get (LE.STATUS.STATE e) = 2 ∧ g.phase = 1 ∧ g.pass.dead = false ∧ g.pass.flight = [] ∧ g.inputs = [] ∧ g.pass.ins = 0 ∧ opcOf w = 0x28 ∧ bits w 15 3 = 4)) &&
(let s := allSts.getD 2172 State.reset
 let e : Fin 24 := 5
 let g := s.eng e
 let w := s.lawWord e
 decide (s.marks = [] ∧ s.get (LE.STATUS.STATE e) = 2 ∧ g.phase = 1 ∧ g.pass.dead = false ∧ g.pass.flight = [] ∧ g.inputs = [] ∧ g.pass.ins = 0 ∧ opcOf w = 0x28 ∧ bits w 15 3 = 5)) &&
(let s := allSts.getD 2233 State.reset
 let e : Fin 24 := 5
 let g := s.eng e
 let w := s.lawWord e
 decide (s.marks = [] ∧ s.get (LE.STATUS.STATE e) = 2 ∧ s.get (LE.CTRL.REL e) = 1 ∧ g.phase = 1 ∧ g.pass.dead = false ∧ g.pass.flight = [] ∧ opcOf w = 0x29)) &&
(let s := allSts.getD 2232 State.reset
 let e : Fin 24 := 5
 let g := s.eng e
 let w := s.lawWord e
 decide (s.marks = [] ∧ s.get (LE.STATUS.STATE e) = 2 ∧ s.get (LE.CTRL.REL e) = 0 ∧ g.phase = 1 ∧ g.pass.dead = false ∧ g.pass.flight = [] ∧ opcOf w = 0x29 ∧ bits w 11 7 < 96)) &&
(let s := allSts.getD 2376 State.reset
 let e : Fin 24 := 5
 let g := s.eng e
 let w := s.lawWord e
 decide (s.marks = [] ∧ s.get (LE.STATUS.STATE e) = 2 ∧ g.phase = 1 ∧ g.pass.dead = false ∧ g.pass.flight = [] ∧ opcOf w = 0x2B)) &&
(let s := allSts.getD 1512 State.reset
 let e : Fin 24 := 5
 let g := s.eng e
 let w := s.lawWord e
 decide (s.marks = [] ∧ s.get (LE.STATUS.STATE e) = 2 ∧ g.phase = 1 ∧ g.pass.dead = false ∧ g.pass.flight = [] ∧ g.latched = [] ∧ opcOf w = 0x19)) &&
(let s := allSts.getD 1513 State.reset
 let e : Fin 24 := 5
 let g := s.eng e
 let w := s.lawWord e
 let x := (g.pass.reads g.sign).x
 let a := bits w 18 6
 match g.latched with
 | [l] => (
  match l.win with
  | some z => (
   let i := reelIndex (x a) z.n
   let p := (((i : Int) + z.lead) % (z.n : Int)).toNat
   match z.entry p with
   | some v => (
    decide (s.marks = [] ∧ s.get (LE.STATUS.STATE e) = 2 ∧ g.phase = 1 ∧ g.pass.dead = false ∧ g.pass.flight = [] ∧ opcOf w = 0x19 ∧ l.reel = bits w 0 6 ∧ 0 < z.n))
   | _ => false)
  | _ => false)
 | _ => false) &&
(let s := allSts.getD 1585 State.reset
 let e : Fin 24 := 5
 let g := s.eng e
 let w := s.lawWord e
 match g.latched with
 | [l] => (
  match g.pass.played with
  | [(z211_, i, p)] => (
   decide (s.marks = [] ∧ s.get (LE.STATUS.STATE e) = 2 ∧ g.phase = 1 ∧ g.pass.dead = false ∧ g.pass.flight = [] ∧ opcOf w = 0x1A ∧ l.reel = bits w 0 6 ∧ z211_ = l.reel))
  | _ => false)
 | _ => false) &&
(let s := allSts.getD 219 State.reset
 let e : Fin 24 := 5
 let g := s.eng e
 let w := s.lawWord e
 decide (s.marks = [] ∧ s.get (LE.STATUS.STATE e) = 2 ∧ g.phase = 1 ∧ g.pass.dead = false ∧ g.pass.flight = [] ∧ opcOf w = 0x03 ∧ bits w 8 4 = 0)) &&
(let s := allSts.getD 288 State.reset
 let e : Fin 24 := 5
 let g := s.eng e
 let w := s.lawWord e
 decide (s.marks = [] ∧ s.get (LE.STATUS.STATE e) = 2 ∧ g.phase = 1 ∧ g.pass.dead = false ∧ g.pass.flight = [] ∧ g.pass.rep = none ∧ opcOf w = 0x04 ∧ bits w 0 6 ≠ 0 ∧ bits w 8 8 ≠ 0)) &&
(let s := allSts.getD 144 State.reset
 let e : Fin 24 := 5
 let g := s.eng e
 let w := s.lawWord e
 decide (s.marks = [] ∧ s.get (LE.STATUS.STATE e) = 2 ∧ g.phase = 1 ∧ g.pass.dead = false ∧ g.pass.flight = [] ∧ opcOf w = 0x02))) = true := by decide +kernel
theorem witness_LawMemoryOps_2 : (
(let s := allSts.getD 2961 State.reset
 let e : Fin 24 := 5
 let g := s.eng e
 let w := s.lawWord e
 let p := bits w 11 7
 let cmp := bits w 9 2
 let x := g.sign * ((g.pass.reads g.sign).x (bits w 18 6)).round 0
 match g.take with
 | some t => (
  match t.log[g.pass.log.length]? with
  | some (.pout z191_ z192_ v) => (
   decide (s.marks = [] ∧ s.get (LE.STATUS.STATE e) = 2 ∧ s.get (LE.CTRL.REL e) = 1 ∧ g.phase = 2 ∧ g.pass.dead = false ∧ g.pass.flight = [] ∧ opcOf w = 0x29 ∧ p < 96 ∧ z191_ = p ∧ z192_ = cmp ∧ v = -x))
  | _ => false)
 | _ => false) &&
(let s := allSts.getD 2960 State.reset
 let e : Fin 24 := 5
 let g := s.eng e
 let w := s.lawWord e
 let p := bits w 11 7
 let cmp := bits w 9 2
 let x := g.sign * ((g.pass.reads g.sign).x (bits w 18 6)).round 0
 match g.take with
 | some t => (
  match t.log[g.pass.log.length]? with
  | some (.pout z191_ z192_ v) => (
   decide (s.marks = [] ∧ s.get (LE.STATUS.STATE e) = 2 ∧ s.get (LE.CTRL.REL e) = 0 ∧ g.phase = 2 ∧ g.pass.dead = false ∧ g.pass.flight = [] ∧ opcOf w = 0x29 ∧ p < 96 ∧ z191_ = p ∧ z192_ = cmp ∧ v = -x))
  | _ => false)
 | _ => false) &&
(let s := allSts.getD 2963 State.reset
 let e : Fin 24 := 5
 let g := s.eng e
 let w := s.lawWord e
 let p := bits w 11 7
 let cmp := bits w 9 2
 let x := g.sign * ((g.pass.reads g.sign).x (bits w 18 6)).round 0
 match g.take with
 | some t => (
  match t.log[g.pass.log.length]? with
  | some (.pout z191_ z192_ v) => (
   decide (s.marks = [] ∧ s.get (LE.STATUS.STATE e) = 2 ∧ s.get (LE.CTRL.REL e) = 1 ∧ g.phase = 2 ∧ g.pass.dead = false ∧ g.pass.flight = [] ∧ opcOf w = 0x29 ∧ p < 96 ∧ z191_ = p ∧ z192_ = cmp ∧ v ≠ -x))
  | _ => false)
 | _ => false) &&
(let s := allSts.getD 2962 State.reset
 let e : Fin 24 := 5
 let g := s.eng e
 let w := s.lawWord e
 let p := bits w 11 7
 let cmp := bits w 9 2
 let x := g.sign * ((g.pass.reads g.sign).x (bits w 18 6)).round 0
 match g.take with
 | some t => (
  match t.log[g.pass.log.length]? with
  | some (.pout z191_ z192_ v) => (
   decide (s.marks = [] ∧ s.get (LE.STATUS.STATE e) = 2 ∧ s.get (LE.CTRL.REL e) = 0 ∧ g.phase = 2 ∧ g.pass.dead = false ∧ g.pass.flight = [] ∧ opcOf w = 0x29 ∧ p < 96 ∧ z191_ = p ∧ z192_ = cmp ∧ v ≠ -x))
  | _ => false)
 | _ => false)) = true := by decide +kernel
theorem witness_RunsCommit : (
(let s := allSts.getD 2952 State.reset
 let e : Fin 24 := 5
 let g := s.eng e
 match g.take with
 | some t => (
  let i : Fin 1024 := 3
  match t.log with
  | [.sts z171_ v] => (
   decide (s.marks = [] ∧ s.rushes = [] ∧ s.get (LE.STATUS.STATE e) = 2 ∧ opcOf (s.lawWord e) = 0x02 ∧ s.get (LE.CTRL.FOVR e) = 0 ∧ g.phase = 2 ∧ g.bad = false ∧ g.latched = [] ∧ g.disarm = false ∧ (g.pass.close 0).matches t = true ∧ z171_ = i ∧ g.pass.log = [.sts i (-v)] ∧ -(2 ^ 35) < v ∧ v < 2 ^ 35))
  | _ => false)
 | _ => false) &&
(let s := allSts.getD 2954 State.reset
 let e : Fin 24 := 5
 let g := s.eng e
 match g.take with
 | some t => (
  match g.retake with
  | some r => (
   decide (s.marks = [] ∧ s.get (LE.STATUS.STATE e) = 2 ∧ opcOf (s.lawWord e) = 0x02 ∧ g.phase = 3 ∧ (g.pass.close 0).agreesTake t = false ∧ (g.pass.close 0).agreesRetake r = false))
  | _ => false)
 | _ => false)) = true := by decide +kernel
/-- LawDataPaths: an engine in RUN stands at a word of each op, once live and once as a no-op. -/
theorem witness_LawDataPaths_ops : ([(0x09 : Nat), 0x0A, 0x0B, 0x0E, 0x12, 0x13, 0x14, 0x16].all fun o => [(1, false), (5, true)].all fun k =>
    let s := stE o k.1 1 0
    let g := s.eng 5
    decide (s.get (LE.STATUS.STATE 5) = 2 ∧ g.phase = 1 ∧ s.markAt (engBase 5 + g.pass.pc) = none ∧ g.pass.flight = [] ∧
      g.pass.dead = k.2 ∧ opcOf (s.lawWord 5) = o ∧ bits (s.lawWord 5) 24 6 < g.pass.x.length)) = true := by decide +kernel
end W10

namespace W11
def st1 (k : Nat) : State :=
  let s := mk [(DMA.CTRL.OWNER 3, [0x40,0x12,0,0x35].getD (k%4) 0), (DMA.CTRL.EN 3, if k%4=2 then 0 else 1), (DMA.STATUS.STATE 3, [1,2,3,1].getD (k/4%4) 0), (ISL.STAT.STATE 24, if k%5=4 then k/5%3 else 0), (ISL.STAT.STATE 20, if k%7=6 then k/7%3 else 0), (BANKS.OWNER.OWNER 5, if k%3≠1 then 0x33 else 0x44), (GP.CTRL.EN 2,0), (DBG.STATUS.OPEN, k/2%2), (SYS.CLM.OWNER 0x703, if k%4=2 then 0 else 0x40), (SYS.CLM.FEATURE 0x703, 0x503),
    (DMA.SRC.SRC 3, 0x01014005), (DMA.DST.DST 3, if k%2=0 then 0x01014fff else 0x80000000+9*k), (DMA.CNT.CNT 3, [1,2,5,16,32,48,0].getD (k%7) 0), (DMA.CTRL.MODE 3, [0,3,1,2].getD (k/3%4) 0), (DMA.CTRL.TRG 3, 1), (DMA.CTRL.EVN 3, 7), (DMA.CTRL.SINC 3, 1), (DMA.CTRL.DINC 3, k/3%2), (DMA.CTRL.EVQ 3, 1), (coreStateRef 2, 1), (DDR.STATUS.STATE, 2), (DDR.STATUS.REGIONS, 128)]
  let s := s.wrs 0x01014005 ((List.range 16).map (fun i => rnd (i+k) ))
  let s := s.putDma 3 { s.dma 3 with pos := if k%2=0 then 3 else 15, buf := (List.range (if k%2=0 then 3 else 15)).map (fun i => rnd i % 2^36) }
  let s := s.setEvents [⟨5,some 1,[]⟩,⟨7,some 2,[]⟩]
  let s := if k%11=10 then ((s.put (DMA.CTRL.MODE 3) 1).put (ISL.STAT.STATE 24) 0).put (DMA.STATUS.STATE 3) 2 else s
  let s := if k%13=12 then s.put (DMA.DST.DST 3) (0x80000000+9*k) else s
  let s := if k < 40 then s else ((s.put (ISL.STAT.STATE 24) 0).put (ISL.STAT.STATE 20) 0).put (DMA.STATUS.STATE 3) (if k < 100 then 2 else 1)
  let s := if k = 60 then ((s.put (DMA.CNT.CNT 3) 1).put (DMA.CTRL.MODE 3) 0).put (DMA.DST.DST 3) 0x01014fff else s
  let s := s.setOtp { s.otp with seq := k%2 }
  s.setHeld (if k%3=0 then [] else if k%3=1 then [⟨0x40, DMA.SRC.adr 3, 24, none⟩,⟨1,2,3,none⟩] else [⟨[0x40,0x12,0,0x35].getD (k%4) 0, DMA.SRC.adr 3, 24, some 0x123456789⟩])
def st2 (k : Nat) : State :=
  let s := mk [(DMA.CTRL.OWNER 3, 0x40), (DMA.CTRL.EN 3,1), (ISL.STAT.STATE 24, k%2), (DMA.STATUS.STATE 3, 1)]
  s.setHeld [⟨0x40, DMA.SRC.adr 3, 24, if k < 2 then none else some 0x123456789⟩, ⟨1,5,6,none⟩]
def st3 (k : Nat) : State :=
  let s := mk [(DMA.CTRL.OWNER 3, 0x40), (DMA.CTRL.EN 3,1), (DMA.STATUS.STATE 3, 2), (DMA.CTRL.MODE 3, if k%2=0 then 3 else 1), (DMA.SRC.SRC 3, 0x01014005), (DMA.DST.DST 3, if k%2=0 then 0x01014fff else 0x80000000+9*k), (DMA.CNT.CNT 3, 64), (DMA.CTRL.DINC 3, k/2%2), (BANKS.OWNER.OWNER 5, 0x33), (DDR.STATUS.STATE, 2), (DDR.STATUS.REGIONS, 128)]
  let s := s.wrs 0x01014005 ((List.range 16).map (fun i => rnd (i+k)))
  s.putDma 3 { s.dma 3 with pos := 15, buf := (List.range 15).map (fun i => rnd i % 2^36) }
def more : List State :=
  let b := ((st1 0).with_ [(DMA.STATUS.STATE 3, 2), (DMA.STATUS.STATE 9, 2), (ISL.STAT.STATE 24, 0), (ISL.STAT.STATE 20, 0), (BANKS.OWNER.OWNER 5, 0x33)])
  let u := b.with_ [(DMA.CTRL.MODE 3, 1), (DMA.STATUS.STATE 9, 1), (DMA.DST.DST 3, 0xF8000000), (DMA.CNT.CNT 3, 4), (DMA.SRC.SRC 3, 0x01014014)]
  let grey := let s := (st1 0).with_ [(coreStateRef 2, 1), (ISL.STAT.STATE 24, 1)]
    s.setHeld [⟨3, DMA.SRC.adr 3, 24, none⟩, ⟨1, 5, 6, none⟩]
  let er := let s := st2 0
    (s.setFlash { s.flash with runs := [⟨0, [5], .spare, false⟩] }).setOtp { s.otp with seq := 1 }
  let box := b.with_ [(DMA.CTRL.MODE 3, 3), (DMA.DST.DST 3, 0x01100005), (BANKS.OWNER.OWNER 64, 0x33), (BANKS.OWNER.PEER 64, 0x40)]
  [box, mk [(PF.CTRL.OWNER 2, 0x40), (PF.CTRL.EN 2, 1)], grey, er, b.putDma 0 { b.dma 0 with last := true }, u.putDma 3 { u.dma 3 with pos := 15, buf := (List.range 15).map rnd }]
def allSts : List State := ((List.range 140).map st1 ++ (List.range 4).map st2 ++ (List.range 6).map st3) ++ more
theorem witness_BusAccess : (
(let s := allSts.getD 0 State.reset
 let a : Owner := 0x03#8
 let c : Fin 8 := 2
 decide (settledB s a = true ∧ a.toNat = 1 + c)) &&
(let s := allSts.getD 0 State.reset
 let a : Owner := 0x40#8
 let q : Addr := 0x02139999#32
 match islandOf q.toNat with
 | some i => (
  decide (settledB s a = true ∧ (∀ c : Fin 8, a.toNat = 1 + c → (s.core c).held = []) ∧ 0x02000000 ≤ q.toNat ∧ q.toNat < 0x02140000 ∧ (1 ≤ a.toNat → a.toNat ≤ 8 → q.toNat < 0x02040000 ∨ 0x02041000 ≤ q.toNat) ∧ s.regMapped q.toNat = false ∧ s.island i = 0))
 | _ => false) &&
(let s := allSts.getD 14 State.reset
 let a : Owner := 0x40#8
 let q : Addr := 0x02139999#32
 match islandOf q.toNat with
 | some i => (
  decide (settledB s a = true ∧ (∀ c : Fin 8, a.toNat = 1 + c → (s.core c).held = []) ∧ 0x02000000 ≤ q.toNat ∧ q.toNat < 0x02140000 ∧ (1 ≤ a.toNat → a.toNat ≤ 8 → q.toNat < 0x02040000 ∨ 0x02041000 ≤ q.toNat) ∧ 2 ≤ s.island i))
 | _ => false) &&
(let s := allSts.getD 9 State.reset
 let a : Owner := 0x40#8
 let q : Addr := 0x02139999#32
 match islandOf q.toNat with
 | some i => (
  decide (settledB s a = true ∧ (∀ c : Fin 8, a.toNat = 1 + c → (s.core c).held = []) ∧ 0x02000000 ≤ q.toNat ∧ q.toNat < 0x02140000 ∧ (1 ≤ a.toNat → a.toNat ≤ 8 → q.toNat < 0x02040000 ∨ 0x02041000 ≤ q.toNat) ∧ s.island i = 1))
 | _ => false) &&
(let s := allSts.getD 0 State.reset
 let a : Owner := 0x40#8
 decide (s.island 26 = 0 ∧ settledB s a = true ∧ (∀ c : Fin 8, a.toNat = 1 + c → (s.core c).held = []))) &&
(let s := allSts.getD 0 State.reset
 let a : Owner := 0x40#8
 decide (s.island 27 = 0 ∧ settledB s a = true ∧ (∀ c : Fin 8, a.toNat = 1 + c → (s.core c).held = []))) &&
(let s := allSts.getD 151 State.reset
 let a : Owner := 0x40#8
 let n : Fin 16 := 2
 decide (s.island 16 = 0 ∧ settledB s a = true ∧ (∀ c : Fin 8, a.toNat = 1 + c → (s.core c).held = []) ∧ a ≠ 0 ∧ s.get (PF.CTRL.OWNER n) = a.toNat ∧ s.get (PF.CTRL.EN n) = 1)) &&
(let s := allSts.getD 0 State.reset
 let a : Owner := 0x40#8
 let b : Fin 68 := 0
 decide (settledB s a = true ∧ (∀ c : Fin 8, a.toNat = 1 + c → (s.core c).held = []) ∧ s.island (min 24 (20 + b / 16)) = 0)) &&
(let s := allSts.getD 0 State.reset
 let a : Owner := 0x03#8
 let c : Fin 8 := 2
 decide (settledB s a = true ∧ (∀ c : Fin 8, a.toNat = 1 + c → (s.core c).held = []) ∧ a.toNat = 1 + c ∧ s.island (c % 4) = 0 ∧ s.coreExists c = true)) &&
(let s := allSts.getD 0 State.reset
 let a : Owner := 0x40#8
 let c : Fin 8 := 5
 decide (s.island 30 = 0 ∧ settledB s a = true ∧ (∀ c : Fin 8, a.toNat = 1 + c → (s.core c).held = []) ∧ s.coreExists c = false)) &&
(let s := allSts.getD 0 State.reset
 let a : Owner := 0x40#8
 let c : Fin 8 := 2
 decide (s.island 30 = 0 ∧ settledB s a = true ∧ a.toNat = 0x40 ∧ (∀ c : Fin 8, a.toNat = 1 + c → (s.core c).held = []) ∧ s.coreExists c = true)) &&
(let s := allSts.getD 0 State.reset
 let a : Owner := 0x03#8
 let c : Fin 8 := 2
 decide (s.island 30 = 0 ∧ settledB s a = true ∧ a.toNat ≠ 0x40 ∧ (∀ c : Fin 8, a.toNat = 1 + c → (s.core c).held = []) ∧ s.coreExists c = true)) &&
(let s := allSts.getD 141 State.reset
 let a : Owner := 0x40#8
 match s.held with
 | h :: rest => (
  decide (settledB s a = true ∧ h.data = none ∧ s.island h.island = 1 ∧ 4 ≤ h.island ∧ h.island < 32 ∧ 9 ≤ h.agent))
 | _ => false) &&
(let s := allSts.getD 152 State.reset
 let a : Owner := 0x40#8
 match s.held with
 | h :: rest => (
  let c : Fin 8 := 2
  decide (settledB s a = true ∧ h.data = none ∧ s.island h.island = 1 ∧ 4 ≤ h.island ∧ h.island < 32 ∧ h.agent = 1 + c ∧ (s.core c).sync = none))
 | _ => false)) = true := by decide +kernel
theorem witness_BusAccess_2 : (
(let s := allSts.getD 17 State.reset
 let a : Owner := 0x12#8
 let v : Word := 0x123456789#36
 match s.held with
 | h :: rest => (
  let n : Fin 16 := 3
  decide (s.island 24 ≤ 1 ∧ settledB s a = true ∧ a ≠ 0 ∧ h = ⟨a.toNat, DMA.SRC.adr n, 24, some v.toNat⟩ ∧ s.get (DMA.CTRL.OWNER n) = a.toNat ∧ s.get (DMA.STATUS.STATE n) = 1))
 | _ => false) &&
(let s := allSts.getD 0 State.reset
 let a : Owner := 0x40#8
 decide (settledB s a = true ∧ 0x10 ≤ a.toNat)) &&
(let s := allSts.getD 0 State.reset
 let a : Owner := 0x03#8
 let c : Fin 8 := 2
 decide (settledB s a = true ∧ a.toNat = 1 + c ∧ s.coreExists c = true ∧ (s.core c).level < 7)) &&
(let s := allSts.getD 0 State.reset
 let a : Owner := 0x40#8
 let k : Fin 5 := 4
 decide (settledB s a = true ∧ (a.toNat = 0 ∨ 9 ≤ a.toNat) ∧ k.val = 4)) &&
(let s := allSts.getD 0 State.reset
 let a : Owner := 0x03#8
 let k : Fin 5 := 4
 let c : Fin 8 := 2
 decide (settledB s a = true ∧ k.val = 4 ∧ a.toNat = 1 + c ∧ s.coreExists c = true ∧ (s.core c).level < 7)) &&
(let s := allSts.getD 0 State.reset
 let a : Owner := 0x40#8
 let k : Fin 5 := 0
 decide (settledB s a = true ∧ k.val < 4)) &&
(let s := allSts.getD 1 State.reset
 let a : Owner := 0x40#8
 let q : Addr := 0x01014005#32
 match bankOf? q.toNat with
 | some b => (
  decide (s.debugOpen = false ∧ settledB s a = true ∧ b < 64 ∧ s.island (20 + b / 16) = 0))
 | _ => false) &&
(let s := allSts.getD 0 State.reset
 let a : Owner := 0x40#8
 let q : Addr := 0x01014005#32
 match bankOf? q.toNat with
 | some b => (
  decide (s.debugOpen = true ∧ settledB s a = true ∧ s.markAt q.toNat = none ∧ b < 64 ∧ s.island (20 + b / 16) = 0 ∧ s.get (BANKS.STATUS.RED b) = 0))
 | _ => false) &&
(let s := allSts.getD 4 State.reset
 let a : Owner := 0x40#8
 let q : Addr := 0x01014005#32
 match bankOf? q.toNat with
 | some b => (
  decide (s.debugOpen = true ∧ settledB s a = true ∧ b < 64 ∧ s.island (20 + b / 16) = 0 ∧ s.get (BANKS.OWNER.OWNER b) = 0x44 ∧ s.get (BANKS.STATUS.RED b) = 0))
 | _ => false) &&
(let s := allSts.getD 153 State.reset
 let a : Owner := 0x40#8
 let q : Addr := 0x00001000#32
 decide (s.island 26 = 0 ∧ s.debugOpen = false ∧ settledB s a = true ∧ q.toNat < 0x500000 ∧ s.erasing (flashBank q.toNat) = true))) = true := by decide +kernel
theorem witness_DmaTransfers : (
(let s := allSts.getD 0 State.reset
 let a : Owner := 0x40#8
 let n : Fin 16 := 5
 let v : Word := 0x000000001#36
 decide (s.island 24 = 0 ∧ settledB s a = true ∧ a ≠ 0 ∧ s.get (DMA.CTRL.EN n) = 0 ∧ s.get (DMA.CTRL.OWNER n) = 0 ∧ s.get (SYS.CLM.OWNER (0x700 + n)) = 0 ∧ v.toNat % 4 = 1)) &&
(let s := allSts.getD 0 State.reset
 let a : Owner := 0x40#8
 let n : Fin 16 := 3
 let mine : Bool := decide (s.get (DMA.CTRL.EN n) = 1 ∧ s.get (DMA.CTRL.OWNER n) = a.toNat)
 let v : Word := 0x000000000#36
 decide (s.island 24 = 0 ∧ settledB s a = true ∧ a ≠ 0 ∧ s.get (SYS.CLM.OWNER (0x700 + n)) = a.toNat ∧ s.get (SYS.CLM.FEATURE (0x700 + n)) = 0x500 + n ∧ mine ∧ v.toNat % 4 = 0)) &&
(let s := allSts.getD 0 State.reset
 let a : Owner := 0x40#8
 let n : Fin 16 := 3
 let mine : Bool := decide (s.get (DMA.CTRL.EN n) = 1 ∧ s.get (DMA.CTRL.OWNER n) = a.toNat)
 let v : Word := 0x400000003#36
 let cnt := s.get (DMA.CNT.CNT n)
 let mode := v.toNat / 2 ^ 18 % 2 ^ 2
 let st := s.get (DMA.STATUS.STATE n)
 decide (s.island 24 = 0 ∧ settledB s a = true ∧ a ≠ 0 ∧ mine ∧ v.toNat % 4 = 3 ∧ v.toNat / 2 ^ 28 = a.toNat ∧ cnt ≠ 0 ∧ (mode = 0 ∨ mode = 3) ∧ (st = 1 ∨ st = 3 ∨ st = 4))) &&
(let s := allSts.getD 12 State.reset
 let a : Owner := 0x40#8
 let n : Fin 16 := 3
 let mine : Bool := decide (s.get (DMA.CTRL.EN n) = 1 ∧ s.get (DMA.CTRL.OWNER n) = a.toNat)
 let v : Word := 0x400040003#36
 let dst := s.get (DMA.DST.DST n)
 let cnt := s.get (DMA.CNT.CNT n)
 let mode := v.toNat / 2 ^ 18 % 2 ^ 2
 let st := s.get (DMA.STATUS.STATE n)
 decide (s.island 24 = 0 ∧ settledB s a = true ∧ a ≠ 0 ∧ mine ∧ v.toNat % 4 = 3 ∧ v.toNat / 2 ^ 28 = a.toNat ∧ 0x80000000 ≤ dst ∧ (dst - 0x80000000) % 9 = 0 ∧ cnt % 16 = 0 ∧ cnt ≠ 0 ∧ mode = 1 ∧ st = 1)) &&
(let s := allSts.getD 0 State.reset
 let a : Owner := 0x40#8
 let n : Fin 16 := 3
 let mine : Bool := decide (s.get (DMA.CTRL.EN n) = 1 ∧ s.get (DMA.CTRL.OWNER n) = a.toNat)
 let v : Word := 0x400040003#36
 let cnt := s.get (DMA.CNT.CNT n)
 let mode := v.toNat / 2 ^ 18 % 2 ^ 2
 let st := s.get (DMA.STATUS.STATE n)
 decide (s.island 24 = 0 ∧ settledB s a = true ∧ a ≠ 0 ∧ mine ∧ v.toNat % 4 = 3 ∧ v.toNat / 2 ^ 28 = a.toNat ∧ (cnt = 0 ∨ (mode = 1 ∨ mode = 2) ∧ cnt % 16 ≠ 0) ∧ st = 1)) &&
(let s := allSts.getD 4 State.reset
 let a : Owner := 0x40#8
 let n : Fin 16 := 3
 let mine : Bool := decide (s.get (DMA.CTRL.EN n) = 1 ∧ s.get (DMA.CTRL.OWNER n) = a.toNat)
 let v : Word := 0x400000003#36
 let st := s.get (DMA.STATUS.STATE n)
 decide (s.island 24 = 0 ∧ settledB s a = true ∧ a ≠ 0 ∧ mine ∧ v.toNat % 4 = 3 ∧ v.toNat / 2 ^ 28 = a.toNat ∧ st = 2)) &&
(let s := allSts.getD 4 State.reset
 let a : Owner := 0x40#8
 let n : Fin 16 := 3
 match s.nextEv (16 + n) (fun k => k == s.get (DMA.CTRL.EVN n)) with
 | some e => (
  decide (s.island 24 = 0 ∧ settledB s a = true ∧ a ≠ 0 ∧ s.get (DMA.CTRL.EN n) = 1 ∧ s.get (DMA.CTRL.TRG n) = 1 ∧ s.get (DMA.STATUS.STATE n) = 2))
 | _ => false) &&
(let s := allSts.getD 0 State.reset
 let a : Owner := 0x40#8
 let n : Fin 16 := 3
 match s.nextEv (16 + n) (fun k => k == s.get (DMA.CTRL.EVN n)) with
 | some e => (
  decide (s.island 24 = 0 ∧ settledB s a = true ∧ a ≠ 0 ∧ s.get (DMA.CTRL.EN n) = 1 ∧ s.get (DMA.CTRL.TRG n) = 1 ∧ s.get (DMA.STATUS.STATE n) = 1 ∧ s.dmaBad n = false))
 | _ => false) &&
(let s := allSts.getD 4 State.reset
 let n : Fin 16 := 3
 decide (s.dmaTurn = some n.val)) &&
(let s := allSts.getD 154 State.reset
 let n : Fin 16 := 3
 let m : Fin 16 := 0
 let j : Fin 16 := 0
 decide (s.dmaTurn = some n.val ∧ (s.dma m).last = true ∧ (∀ k : Fin 16, k < m → (s.dma k).last = false) ∧ j.val < (n.val + 15 - m.val) % 16)) &&
(let s := allSts.getD 0 State.reset
 let n : Fin 16 := 5
 decide (s.dmaTurn ≠ some n.val)) &&
(let s := allSts.getD 36 State.reset
 let n : Fin 16 := 3
 let src := s.get (DMA.SRC.SRC n)
 let dst := s.get (DMA.DST.DST n)
 let cnt := s.get (DMA.CNT.CNT n)
 let may (q : Nat) : Bool := decide ((bankOf? q).any (fun b => decide (b < 64 ∧ s.get (BANKS.OWNER.OWNER b) = 0x30 + n ∧ s.get (BANKS.STATUS.RED b) = 0 ∧ s.markAt q = none)) = true)
 decide ((∀ i : Fin 32, s.island i = 0) ∧ s.dmaTurn = some n.val ∧ s.get (DMA.CTRL.MODE n) = 0 ∧ src < 2 ^ 32 ∧ dst + 1 < 2 ^ 32 ∧ 2 ≤ cnt ∧ may src ∧ may dst)) &&
(let s := allSts.getD 60 State.reset
 let n : Fin 16 := 3
 let src := s.get (DMA.SRC.SRC n)
 let dst := s.get (DMA.DST.DST n)
 let cnt := s.get (DMA.CNT.CNT n)
 let may (q : Nat) : Bool := decide ((bankOf? q).any (fun b => decide (b < 64 ∧ s.get (BANKS.OWNER.OWNER b) = 0x30 + n ∧ s.get (BANKS.STATUS.RED b) = 0 ∧ s.markAt q = none)) = true)
 decide ((∀ i : Fin 32, s.island i = 0) ∧ s.dmaTurn = some n.val ∧ s.get (DMA.CTRL.MODE n) = 0 ∧ s.get (DMA.CTRL.RLD n) = 0 ∧ s.get (DMA.CTRL.RET n) = 0 ∧ s.get (DMA.CTRL.EVQ n) = 1 ∧ src < 2 ^ 32 ∧ dst + 1 < 2 ^ 32 ∧ cnt = 1 ∧ may src ∧ may dst)) &&
(let s := allSts.getD 144 State.reset
 let n : Fin 16 := 3
 let dst := s.get (DMA.DST.DST n)
 let cnt := s.get (DMA.CNT.CNT n)
 let may (q : Nat) : Bool := decide ((bankOf? q).any (fun b => decide (b < 64 ∧ s.get (BANKS.OWNER.OWNER b) = 0x30 + n ∧ s.get (BANKS.STATUS.RED b) = 0 ∧ s.markAt q = none)) = true)
 decide ((∀ i : Fin 32, s.island i = 0) ∧ s.dmaTurn = some n.val ∧ s.get (DMA.CTRL.MODE n) = 3 ∧ dst + 1 < 2 ^ 32 ∧ 2 ≤ cnt ∧ may dst))) = true := by decide +kernel
theorem witness_DmaTransfers_2 : (
(let s := allSts.getD 37 State.reset
 let n : Fin 16 := 3
 let src := s.get (DMA.SRC.SRC n)
 match bankOf? src with
 | some b => (
  decide ((∀ i : Fin 32, s.island i = 0) ∧ s.get (DMA.CTRL.MODE n) = 0 ∧ s.dmaTurn = some n.val ∧ src < 2 ^ 32 ∧ b < 64 ∧ s.get (BANKS.OWNER.OWNER b) ≠ 0x30 + n))
 | _ => false) &&
(let s := allSts.getD 150 State.reset
 let n : Fin 16 := 3
 let hit : Bool := true
 let dst := s.get (DMA.DST.DST n)
 match bankOf? dst with
 | some b => (
  decide ((∀ i : Fin 32, s.island i = 0) ∧ s.get (DMA.CTRL.MODE n) = 3 ∧ s.dmaTurn = some n.val ∧ hit = true ∧ 64 ≤ b ∧ s.get (BANKS.OWNER.OWNER b) = 0x30 + n ∧ s.get (BANKS.STATUS.RED b) = 0))
 | _ => false) &&
(let s := allSts.getD 32 State.reset
 let n : Fin 16 := 3
 let src := s.get (DMA.SRC.SRC n)
 let cnt := s.get (DMA.CNT.CNT n)
 let may (q : Nat) : Bool := decide ((bankOf? q).any (fun b => decide (b < 64 ∧ s.get (BANKS.OWNER.OWNER b) = 0x30 + n ∧ s.get (BANKS.STATUS.RED b) = 0 ∧ s.markAt q = none)) = true)
 decide ((∀ i : Fin 32, s.island i = 0) ∧ s.dmaTurn = some n.val ∧ s.get (DMA.CTRL.MODE n) = 1 ∧ (s.dma n).pos < 15 ∧ src + 1 < 2 ^ 32 ∧ 2 ≤ cnt ∧ may src)) &&
(let s := allSts.getD 65 State.reset
 let n : Fin 16 := 3
 let src := s.get (DMA.SRC.SRC n)
 let dst := s.get (DMA.DST.DST n)
 let cnt := s.get (DMA.CNT.CNT n)
 let may (q : Nat) : Bool := decide ((bankOf? q).any (fun b => decide (b < 64 ∧ s.get (BANKS.OWNER.OWNER b) = 0x30 + n ∧ s.get (BANKS.STATUS.RED b) = 0 ∧ s.markAt q = none)) = true)
 decide ((∀ i : Fin 32, s.island i = 0) ∧ s.dmaTurn = some n.val ∧ s.get (DMA.CTRL.MODE n) = 1 ∧ (s.dma n).pos = 15 ∧ (s.dma n).buf.length = 15 ∧ (∀ v ∈ (s.dma n).buf, v < 2 ^ 36) ∧ src + 1 < 2 ^ 32 ∧ s.rd src < 2 ^ 36 ∧ dst + 9 < 2 ^ 32 ∧ (∀ k < 9, s.ddrMapped (dst + k) = true ∧ s.ddrRefuses (0x30 + n) (dst + k) = false) ∧ 2 ≤ cnt ∧ may src)) &&
(let s := allSts.getD 155 State.reset
 let n : Fin 16 := 3
 let src := s.get (DMA.SRC.SRC n)
 let dst := s.get (DMA.DST.DST n)
 let cnt := s.get (DMA.CNT.CNT n)
 let may (q : Nat) : Bool := decide ((bankOf? q).any (fun b => decide (b < 64 ∧ s.get (BANKS.OWNER.OWNER b) = 0x30 + n ∧ s.get (BANKS.STATUS.RED b) = 0 ∧ s.markAt q = none)) = true)
 decide ((∀ i : Fin 32, s.island i = 0) ∧ s.dmaTurn = some n.val ∧ s.get (DMA.CTRL.MODE n) = 1 ∧ (s.dma n).pos = 15 ∧ src + 1 < 2 ^ 32 ∧ (s.dma n).pos ≤ src ∧ src < 2 ^ 32 ∧ dst < 2 ^ 32 ∧ (∃ k < 9, s.ddrMapped (dst + k) = false) ∧ cnt + 15 < 2 ^ (DMA.CNT.CNT n).w ∧ may src))) = true := by decide +kernel
end W11

namespace W12
def st1 (k : Nat) : State :=
  let b := [0,5,65].getD (k%3) 0
  let s := mk [(BANKS.OWNER.OWNER b, [0,0x40,3].getD (k/3%3) 0), (BANKS.OWNER.PEER b, if b = 65 then 0x42 else 0), (BANKS.STATUS.RED b, if k%7=6 then 1 else 0), (BANKS.STATUS.CECNT b, k), (BANKS.STATUS.DUECNT b, 4000+k*9),(DDR.STATUS.STATE, k%4), (DDR.STATUS.REGIONS, 128), (DDR.CFG.WIDTH, k/4%3), (DDR.CFG.DENS, k%2), (DDR.CFG.RANKS, k/3%4), (DDR.CFG.SPEED, k/9%5)]
  let s := s.putBank b ⟨if k%5=4 then bankLen b - 1 else k, k%8, k%2=0⟩
  let s := if k%11=10 then (List.range 68).foldl (fun s b => if b = 7 then s.put (BANKS.STATUS.RED b) 1 else s.putBank b { s.bank b with passed := true }) s else s
  let s := s.setMarks (if k/3%3=0 then [] else [(bankBase b + (s.bank b).pos, k/3%3=1)])
  s.setPatrol (if k%4=2 ∧ k/4%3=0 then 128*2^23-8 else 8*k)
def more : List State :=
  let s := (List.range 68).foldl (fun s b => if b = 7 then s.put (BANKS.STATUS.RED b) 1 else s.putBank b { s.bank b with passed := true }) (mk [(BANKS.SCRUB.PASSES, 65535)])
  [(s.putBank 5 ⟨33, 7, false⟩).setMarks [(bankBase 5 + 33, true)]]
def allSts : List State := ((List.range 150).map st1) ++ more
theorem witness_BankOwners : (
(let s := allSts.getD 0 State.reset
 let a : Owner := 0x03#8
 let b : Fin 68 := 0
 let v : Word := 0x000000001#36
 let old := s.get (BANKS.OWNER.OWNER b)
 let new := v.toNat % 2 ^ 8
 decide (settledB s a = true ∧ s.island (min 24 (20 + b / 16)) = 0 ∧ old = 0 ∧ new ≠ 0 ∧ validOwner s.split new = true)) &&
(let s := allSts.getD 0 State.reset
 let a : Owner := 0x03#8
 let b : Fin 68 := 0
 let v : Word := 0x000000055#36
 let old := s.get (BANKS.OWNER.OWNER b)
 let new := v.toNat % 2 ^ 8
 decide (settledB s a = true ∧ s.island (min 24 (20 + b / 16)) = 0 ∧ old = 0 ∧ validOwner s.split new = false)) &&
(let s := allSts.getD 3 State.reset
 let a : Owner := 0x03#8
 let b : Fin 68 := 0
 let old := s.get (BANKS.OWNER.OWNER b)
 decide (settledB s a = true ∧ s.island (min 24 (20 + b / 16)) = 0 ∧ old ≠ 0 ∧ a.toNat ≠ old)) &&
(let s := allSts.getD 3 State.reset
 let a : Owner := 0x40#8
 let b : Fin 68 := 0
 let v : Word := 0x000000001#36
 let old := s.get (BANKS.OWNER.OWNER b)
 let new := v.toNat % 2 ^ 8
 decide (settledB s a = true ∧ s.island (min 24 (20 + b / 16)) = 0 ∧ b < 64 ∧ old ≠ 0 ∧ a.toNat = old ∧ new ≠ 0 ∧ validOwner s.split new = true)) &&
(let s := allSts.getD 5 State.reset
 let a : Owner := 0x40#8
 let b : Fin 68 := 65
 let v : Word := 0x000000001#36
 let old := s.get (BANKS.OWNER.OWNER b)
 let new := v.toNat % 2 ^ 8
 let peer := v.toNat / 2 ^ 8 % 2 ^ 8
 decide (settledB s a = true ∧ s.island (min 24 (20 + b / 16)) = 0 ∧ 64 ≤ b ∧ old ≠ 0 ∧ a.toNat = old ∧ new ≠ 0 ∧ validOwner s.split new = true ∧ validOwner s.split peer = true)) &&
(let s := allSts.getD 3 State.reset
 let a : Owner := 0x40#8
 let b : Fin 68 := 0
 let v : Word := 0x000000000#36
 let old := s.get (BANKS.OWNER.OWNER b)
 let new := v.toNat % 2 ^ 8
 decide (settledB s a = true ∧ s.island (min 24 (20 + b / 16)) = 0 ∧ old ≠ 0 ∧ a.toNat = old ∧ new = 0)) &&
(let s := allSts.getD 3 State.reset
 let a : Owner := 0x40#8
 let b : Fin 68 := 0
 let v : Word := 0x000000055#36
 let old := s.get (BANKS.OWNER.OWNER b)
 let new := v.toNat % 2 ^ 8
 decide (settledB s a = true ∧ s.island (min 24 (20 + b / 16)) = 0 ∧ b < 64 ∧ old ≠ 0 ∧ a.toNat = old ∧ validOwner s.split new = false))) = true := by decide +kernel
theorem witness_BanksAndDdr : (
(let s := allSts.getD 6 State.reset
 let b : Fin 68 := 0
 decide (s.get (BANKS.STATUS.RED b) = 1)) &&
(let s := allSts.getD 0 State.reset
 let b : Fin 68 := 0
 let x := s.bank b
 let q := bankBase b + x.pos
 decide (s.get (BANKS.STATUS.RED b) = 0 ∧ x.pos + 1 < bankLen b ∧ x.dues < 8 ∧ s.markAt q = none)) &&
(let s := allSts.getD 7 State.reset
 let b : Fin 68 := 5
 let x := s.bank b
 let q := bankBase b + x.pos
 decide (s.get (BANKS.STATUS.RED b) = 0 ∧ x.pos + 1 < bankLen b ∧ x.dues < 8 ∧ s.markAt q = some false)) &&
(let s := allSts.getD 3 State.reset
 let b : Fin 68 := 0
 let x := s.bank b
 let q := bankBase b + x.pos
 decide (s.get (BANKS.STATUS.RED b) = 0 ∧ x.pos + 1 < bankLen b ∧ x.dues < 8 ∧ x.dues < 7 ∧ s.markAt q = some true)) &&
(let s := allSts.getD 23 State.reset
 let b : Fin 68 := 65
 let x := s.bank b
 let q := bankBase b + x.pos
 decide (s.get (BANKS.STATUS.RED b) = 0 ∧ (∃ k : Fin 68, k ≠ b ∧ s.get (BANKS.STATUS.RED k) = 0 ∧ (s.bank k).passed = false) ∧ x.pos + 1 < bankLen b ∧ x.dues < 8 ∧ x.dues = 7 ∧ s.markAt q = some true)) &&
(let s := allSts.getD 150 State.reset
 let b : Fin 68 := 5
 let x := s.bank b
 let q := bankBase b + x.pos
 decide (s.get (BANKS.STATUS.RED b) = 0 ∧ (∀ k : Fin 68, k = b ∨ s.get (BANKS.STATUS.RED k) = 1 ∨ (s.bank k).passed = true) ∧ x.pos < bankLen b ∧ x.dues = 7 ∧ s.markAt q = some true)) &&
(let s := allSts.getD 9 State.reset
 let b : Fin 68 := 0
 let x := s.bank b
 let q := bankBase b + x.pos
 decide (s.get (BANKS.STATUS.RED b) = 0 ∧ (∃ k : Fin 68, k ≠ b ∧ s.get (BANKS.STATUS.RED k) = 0 ∧ (s.bank k).passed = false) ∧ x.pos + 1 = bankLen b ∧ x.dues < 8 ∧ s.markAt q = none)) &&
(let s := allSts.getD 54 State.reset
 let b : Fin 68 := 0
 let x := s.bank b
 let q := bankBase b + x.pos
 decide (s.get (BANKS.STATUS.RED b) = 0 ∧ (∀ k : Fin 68, k = b ∨ s.get (BANKS.STATUS.RED k) = 1 ∨ (s.bank k).passed = true) ∧ x.pos + 1 = bankLen b ∧ x.dues < 8 ∧ s.markAt q = none)) &&
(let s := allSts.getD 1 State.reset
 let a : Owner := 0x00#8
 decide (s.island 27 = 0 ∧ s.get DDR.STATUS.STATE = 1 ∧ settledB s a = true)) &&
(let s := allSts.getD 0 State.reset
 let a : Owner := 0x00#8
 let w := s.get DDR.CFG.WIDTH
 let d := s.get DDR.CFG.DENS
 let r := s.get DDR.CFG.RANKS
 let gib := r * (8 * (d + 1) / (w + 1))
 let fits : Bool := decide (s.get DDR.CFG.SPEED < 4 ∧ w < 2 ∧ d < 2 ∧ (r = 1 ∨ r = 2) ∧ gib ≤ 16)
 decide (s.island 27 = 0 ∧ s.get DDR.STATUS.STATE ≠ 1 ∧ settledB s a = true ∧ ¬ fits)) &&
(let s := allSts.getD 3 State.reset
 let a : Owner := 0x00#8
 let w := s.get DDR.CFG.WIDTH
 let d := s.get DDR.CFG.DENS
 let r := s.get DDR.CFG.RANKS
 let gib := r * (8 * (d + 1) / (w + 1))
 let fits : Bool := decide (s.get DDR.CFG.SPEED < 4 ∧ w < 2 ∧ d < 2 ∧ (r = 1 ∨ r = 2) ∧ gib ≤ 16)
 decide (s.island 27 = 0 ∧ s.get DDR.STATUS.STATE ≠ 1 ∧ settledB s a = true ∧ fits)) &&
(let s := allSts.getD 1 State.reset
 let a : Owner := 0x00#8
 decide (s.get DDR.STATUS.STATE = 1 ∧ settledB s a = true)) &&
(let s := allSts.getD 6 State.reset
 let a : Owner := 0x00#8
 let q := 0x80000000 + s.patrol
 decide (s.patrol % 8 = 0 ∧ settledB s a = true ∧ s.ddrMapped q = true ∧ s.ddrMapped (q + 8) = true ∧ (∀ k : Fin 8, s.markAt (q + k) = none))) &&
(let s := allSts.getD 10 State.reset
 let a : Owner := 0x00#8
 let q := 0x80000000 + s.patrol
 decide (s.patrol % 8 = 0 ∧ s.marks = [] ∧ settledB s a = true ∧ s.ddrMapped q = true ∧ s.ddrMapped (q + 8) = true))) = true := by decide +kernel
theorem witness_BanksAndDdr_2 : (
(let s := allSts.getD 2 State.reset
 let a : Owner := 0x00#8
 decide (s.ddrMapped (0x80000000 + s.patrol) = true ∧ s.ddrMapped (0x80000000 + s.patrol + 8) = false ∧ s.marks = [] ∧ settledB s a = true))) = true := by decide +kernel
end W12

namespace W13
def codes : List FaultCode := [.bankDue, .coreCheck, .coreNone, .cutHost, .spliceCrc, .treeLost]
def st1 (k : Nat) : State :=
  let s := mk [(CTU.LOGCTL.COUNT, [0,5,383,512,511].getD (k%5) 0), (CTU.FCNT.COUNT 0x51, 65535), (ETH.SLSTATE.STATE, 3), (CTU.STATUS.AOK, k%2), (CTU.STATUS.BOK, k/2%2), (CTU.LOG.W 7 0, 2^34), (CTU.LOG.W 2 0, 2*2^34), (BANKS.OWNER.OWNER 5, 1), (GP.CTRL.OWNER 7, 2), (CUE.ROUTE.ACT 0 5, 2), (CUE.ROUTE.ACT 1 7, 1), (CTU.FOSTAT.SEQ, 255), (CTU.LOGCTL.LOST, k), (CUE.TSTAT.STATE 0 0, 0),(CUE.TSTAT.STATE 1 0, 0),(CUE.TSTAT.STATE 2 0, 0),(CTU.CORERES.PENDING, if k%9=8 then 1 else 0), (CTU.STATUS.MOVING, if k%3=2 then 1 else 0)]
  let s := (List.range 4).foldl (fun u c => u.put (coreStateRef c) ([1,4,5,3,1,2].getD ((k+c)%6) 0)) s
  let s := if k%8=7 then (List.range 8).foldl (fun u c => u.put (coreStateRef c) 2) s else s
  let s := if k%16=15 then (s.put (CUE.TSTAT.STATE 3 3) 1).put (CUE.TSTAT.STATE 3 0) 0 else s
  let s := (s.setNow (BitVec.ofNat 64 (2^40+k))).setReports (if k%7=6 then [] else [⟨codes.getD (k/2%6) .bankDue, 0x345, k, false⟩, ⟨.reelDue, 1,1, false⟩])
  let mv : Move := ⟨k%4, 100, k%3, 0, (List.range 8).map (fun _ => ⟨0,0,0,false,0⟩), none, if k%5=4 then none else some 3, false, if k%2=0 then some (5,6,7) else none⟩
  let s := s.setCtu { s.ctu with order := [2,7,9], seq := 4090+k%6, moves := if k/5%2=0 then [] else [mv] }
  let s := s.setCut { s.cut with ctuReq := k%4=1 }
  let s := if k%17=16 then s.put SYS.OPTIONS.SPLIT 1 else s
  s.setImage (0x01000010, 0x01000100)
def plan (exact : Bool) : State :=
  let s := mk [(coreStateRef 0, 2), (coreStateRef 1, 1), (CUE.TSTAT.STATE 0 2, 1), (CUE.TSTAT.STATE 0 0, 0), (CUE.TSTAT.STATE 1 0, 2), (CUE.TCFG.LEN 0 2, 2), (CUE.TCFG.BASE 0 2, 6), (CUE.TCFG.PRIO 0 2, 3), (CUE.TPC.PC 0 2, 0x777), (CUE.TCFG.LEN 1 0, 4), (CTU.STATUS.MOVING, 1)]
  let s := s.putCore 0 { s.core 0 with regs := (List.range 9).map (fun i => (ringKey 6 (i + 1), i + 5)) }
  s.setCtu { s.ctu with moves := [⟨0, 100, 2, 0, (List.range 8).map (fun k => if k = 2 then ⟨2, 5, 9, exact, 0x01014000⟩ else ⟨0,0,0,false,0⟩), none, some 3, false, none⟩] }
def dark (s : State) : State := s.setSyncWait [30, 0, 1, 2, 3]
def allSts : List State := (List.range 160).map st1 ++ [plan true, plan false, dark (st1 0), dark (st1 1), dark (st1 2), dark (st1 3)]
theorem witness_FaultLog : (
(let s := allSts.getD 6 State.reset
 decide (s.reports = [])) &&
(let s := allSts.getD 0 State.reset
 let n := s.get CTU.LOGCTL.COUNT
 let q := s.ctu.seq
 match s.reports with
 | r :: rest => (
  decide (s.ctu.moves = [] ∧ s.rushes = [] ∧ (∀ k : Fin 3, (s.session k).phase ≠ 2) ∧ s.unsynced 30 = false ∧ n < 512 ∧ n ≠ 383 ∧ q < 4096 ∧ rest.length < 64 ∧ r.elem < 4096 ∧ r.code.cls = .amber))
 | _ => false) &&
(let s := allSts.getD 14 State.reset
 let n := s.get CTU.LOGCTL.COUNT
 let q := s.ctu.seq
 match s.reports with
 | r :: rest => (
  decide (s.ctu.moves = [] ∧ s.rushes = [] ∧ (∀ k : Fin 3, (s.session k).phase ≠ 2) ∧ s.unsynced 30 = false ∧ n < 512 ∧ n ≠ 383 ∧ q < 4096 ∧ rest.length < 64 ∧ r.elem < 4096 ∧ r.code.cls = .red))
 | _ => false) &&
(let s := allSts.getD 12 State.reset
 let n := s.get CTU.LOGCTL.COUNT
 let q := s.ctu.seq
 match s.reports with
 | r :: rest => (
  decide (s.ctu.moves = [] ∧ s.rushes = [] ∧ (∀ k : Fin 3, (s.session k).phase ≠ 2) ∧ s.unsynced 30 = false ∧ n = 383 ∧ q < 4096 ∧ rest.length < 64 ∧ r.elem < 4096 ∧ r.code.cls = .amber))
 | _ => false) &&
(let s := allSts.getD 3 State.reset
 let n := s.get CTU.LOGCTL.COUNT
 let q := s.ctu.seq
 match s.reports with
 | r :: rest => (
  match s.ctu.order.find? (fun i => s.get (CTU.LOG.W i 0) / 2 ^ 34 == 1) with
  | some k => (
   decide (s.ctu.moves = [] ∧ s.rushes = [] ∧ n = 512 ∧ q < 4096 ∧ rest.length < 64 ∧ r.elem < 4096 ∧ r.code.cls = .red ∧ (∀ k : Fin 3, (s.session k).phase ≠ 2) ∧ k < 512))
  | _ => false)
 | _ => false) &&
(let s := allSts.getD 162 State.reset
 let n := s.get CTU.LOGCTL.COUNT
 let q := s.ctu.seq
 match s.reports with
 | r :: rest => (
  decide (s.ctu.moves = [] ∧ s.rushes = [] ∧ (∀ k : Fin 3, (s.session k).phase ≠ 2) ∧ s.unsynced 30 = true ∧ n < 383 ∧ q < 4096 ∧ rest.length < 64 ∧ r.elem < 4096 ∧ r.code.cls = .amber))
 | _ => false) &&
(let s := allSts.getD 4 State.reset
 let q := s.ctu.seq
 let sound : Bool := decide (s.get PORTS.CUTSTAT.SCTU = 0 ∨ s.get PORTS.CUTSTAT.LATCH = 1)
 match s.reports with
 | r :: rest => (
  decide (s.ctu.moves = [] ∧ s.rushes = [] ∧ (∀ k : Fin 3, (s.session k).phase ≠ 2) ∧ q < 4096 ∧ sound ∧ rest.length < 64 ∧ r.elem < 4096 ∧ r.code.cls = .cut ∧ r.code.latchOnly = false))
 | _ => false) &&
(let s := allSts.getD 30 State.reset
 let q := s.ctu.seq
 match s.reports with
 | r :: rest => (
  decide (s.ctu.moves = [] ∧ s.rushes = [] ∧ (∀ k : Fin 3, (s.session k).phase ≠ 2) ∧ q < 4096 ∧ rest.length < 64 ∧ r.elem < 4096 ∧ r.code = .cutHost))
 | _ => false) &&
(let s := allSts.getD 0 State.reset
 let n := s.get CTU.LOGCTL.COUNT
 let q := s.ctu.seq
 let sound : Bool := decide (s.get PORTS.CUTSTAT.SCTU = 0 ∨ s.get PORTS.CUTSTAT.LATCH = 1)
 match s.reports with
 | r :: rest => (
  decide (s.ctu.moves = [] ∧ s.rushes = [] ∧ (∀ k : Fin 3, (s.session k).phase ≠ 2) ∧ n < 383 ∧ q < 4096 ∧ sound ∧ rest.length < 64 ∧ r.elem < 4096 ∧ r.code.cls = .amber))
 | _ => false) &&
(let s := allSts.getD 0 State.reset
 let sound : Bool := decide (s.get PORTS.CUTSTAT.SCTU = 0 ∨ s.get PORTS.CUTSTAT.LATCH = 1)
 decide (sound)) &&
(let s := allSts.getD 0 State.reset
 let h : Fin 2 := 0
 let other := if h = 0 then CTU.STATUS.BOK else CTU.STATUS.AOK
 decide (s.get other = 0)) &&
(let s := allSts.getD 1 State.reset
 let sound : Bool := decide (s.get PORTS.CUTSTAT.SCTU = 0 ∨ s.get PORTS.CUTSTAT.LATCH = 1)
 let h : Fin 2 := 1
 let other := if h = 0 then CTU.STATUS.BOK else CTU.STATUS.AOK
 decide (sound ∧ s.get other = 1)) &&
(let s := allSts.getD 0 State.reset
 let a : Owner := 0x12#8
 decide (s.island 30 = 0 ∧ settledB s a = true ∧ a.toNat ≠ 0x40)) &&
(let s := allSts.getD 0 State.reset
 let a : Owner := 0x40#8
 decide (s.island 30 = 0 ∧ settledB s a = true ∧ a.toNat = 0x40))) = true := by decide +kernel
set_option maxRecDepth 1000000 in
theorem witness_Failover : (
(let s := allSts.getD 16 State.reset
 decide (s.split = true)) &&
(let s := allSts.getD 0 State.reset
 let c : Fin 4 := 2
 let alive : Bool := decide (s.coreState c = 1 ∨ s.coreState c = 4)
 decide ((¬ alive ∨ s.unsynced (coreIsland c) = true))) &&
(let s := allSts.getD 162 State.reset
 decide (s.unsynced 30 = true)) &&
(let s := allSts.getD 0 State.reset
 let c : Fin 4 := 1
 let lane : Fin 7 := 0
 let alive : Bool := decide (s.coreState c = 1 ∨ s.coreState c = 4)
 decide (s.split = false ∧ lane < 2 ∧ alive)) &&
(let s := allSts.getD 0 State.reset
 let c : Fin 4 := 1
 let lane : Fin 7 := 2
 let alive : Bool := decide (s.coreState c = 1 ∨ s.coreState c = 4)
 decide (s.split = false ∧ 2 ≤ lane ∧ lane < 6 ∧ alive)) &&
(let s := allSts.getD 0 State.reset
 let c : Fin 4 := 1
 let lane : Fin 7 := 6
 let alive : Bool := decide (s.coreState c = 1 ∨ s.coreState c = 4)
 decide (s.split = false ∧ lane = 6 ∧ alive)) &&
(let s := allSts.getD 0 State.reset
 let c : Fin 4 := 1
 let alive : Bool := decide (s.coreState c = 1 ∨ s.coreState c = 4)
 let fl : List (Fin 930 × Word) := []
 let lead := scrubCrc (s.scrubWords c)
 let trail := scrubCrc (trailWords (s.scrubWords c) (fl.map (fun f => (f.1.val, f.2.toNat))))
 decide (s.split = false ∧ s.unsynced (coreIsland c) = false ∧ alive ∧ (fl = [] ∨ lead = trail))) &&
(let s := allSts.getD 0 State.reset
 let c : Fin 4 := 1
 let alive : Bool := decide (s.coreState c = 1 ∨ s.coreState c = 4)
 decide (s.split = false ∧ s.unsynced 30 = false ∧ alive)) &&
(let s := allSts.getD 0 State.reset
 let c : Fin 4 := 2
 let alive : Bool := decide (s.coreState c = 1 ∨ s.coreState c = 4)
 decide (s.split = false ∧ ¬ alive)) &&
(let s := allSts.getD 0 State.reset
 decide (s.split = false ∧ s.unsynced 30 = false)) &&
(let s := allSts.getD 25 State.reset
 let c : Fin 8 := 1
 let a : Owner := 0x12#8
 match s.ctu.moves with
 | m :: rest => (
  match s.heirOf m with
  | some h => (
   decide ((∀ k : Fin 8, s.taskIs c k 0 = true) ∧ settledB s a = true ∧ m.done = none ∧ m.seq ≠ none ∧ m.core = c.val))
  | _ => false)
 | _ => false) &&
(let s := allSts.getD 15 State.reset
 let c : Fin 8 := 3
 let a : Owner := 0x12#8
 match s.ctu.moves with
 | m :: rest => (
  decide ((∀ k : Fin 8, s.taskIs c k 0 = !(k == 3)) ∧ settledB s a = true ∧ m.done = none ∧ m.seq ≠ none ∧ m.core = c.val ∧ m.lv = 0 ∧ s.heirOf m = none ∧ m.tasks.getD 3 ⟨0, 0, 0, false, 0⟩ = ⟨0, 0, 0, false, 0⟩))
 | _ => false) &&
(let s := allSts.getD 25 State.reset
 let c : Fin 8 := 1
 let a : Owner := 0x12#8
 match s.ctu.moves with
 | m :: rest => (
  match s.heirOf m with
  | some h => (
   decide (s.get PORTS.CUTSTAT.SCTU = 0 ∧ (∀ k : Fin 8, s.taskIs c k 0 = true) ∧ settledB s a = true ∧ m.done = none ∧ m.seq ≠ none ∧ m.core = c.val))
  | _ => false)
 | _ => false)) = true := by decide +kernel
/-- Bit 0 of a word shows in its scrub CRC. -/
theorem crcBits_bit0 (c : Nat) : crcBits 36 0xE09 36 c 0 ≠ crcBits 36 0xE09 36 c 1 := by
  have h (v : Nat) (hv : v < 2) : crcBits 36 0xE09 36 c v =
      crcBit 36 0xE09 ((List.range 35).foldl (fun a i => crcBit 36 0xE09 a (bitOf 0 (35 - i))) c) (bitOf v 0) := by
    unfold crcBits
    rw [show List.range 36 = List.range 35 ++ [35] from rfl, List.foldl_append, List.foldl_cons, List.foldl_nil]
    have same (l : List Nat) : (∀ i ∈ l, i < 35) → ∀ a, l.foldl (fun a i => crcBit 36 0xE09 a (bitOf v (36 - 1 - i))) a =
        l.foldl (fun a i => crcBit 36 0xE09 a (bitOf 0 (35 - i))) a := by
      induction l with
      | nil => exact fun _ _ => rfl
      | cons i l ih =>
        intro hi a
        have small : v < 2 ^ (36 - 1 - i) :=
          Nat.lt_of_lt_of_le hv (Nat.pow_le_pow_right (n := 2) (by decide) (by have := hi i (by simp); omega : 1 ≤ 36 - 1 - i))
        have eq : bitOf v (36 - 1 - i) = bitOf 0 (35 - i) := by simp [bitOf, Nat.div_eq_of_lt small]
        simp only [List.foldl_cons, eq]
        exact ih (fun j hj => hi j (by simp [hj])) _
    rw [same _ (fun i => List.mem_range.mp)]
  rw [h 0 (by decide), h 1 (by decide)]
  generalize (List.range 35).foldl _ c = d
  unfold crcBit
  have ne (x : Nat) : x ≠ x ^^^ 0xE09 := fun e => by
    have := congrArg (x ^^^ ·) e
    simp [← Nat.xor_assoc] at this
  have b0 : bitOf 0 0 = false := rfl
  have b1 : bitOf 1 0 = true := rfl
  rw [b0, b1]
  by_cases q : (d / 2 ^ (36 - 1) % 2 == 1) = true
  · simp only [q]; exact (ne _).symm
  · simp only [Bool.eq_false_iff.mpr q]; exact ne _
/-- A scrub CRC shows bit 0 of the last of 930 words. -/
theorem scrubCrc_set (l : List Nat) (h : l.length = 930) (z : l.getD 929 0 = 0) : scrubCrc l ≠ scrubCrc (l.set 929 (l.getD 929 0 ^^^ 1)) := by
  have e : l = l.take 929 ++ [0] := by
    have := List.take_append_drop 929 l
    have d : l.drop 929 = [0] := by
      rw [List.drop_eq_getElem_cons (by omega), List.drop_eq_nil_of_le (by omega)]
      rw [List.getD_eq_getElem?_getD, List.getElem?_eq_getElem (by omega), Option.getD_some] at z
      rw [z]
    rw [d] at this
    exact this.symm
  rw [z]
  have k : (l.take 929).length = 929 := by simp [h]
  generalize l.take 929 = f at e k
  subst e
  rw [List.set_append_right _ _ (by omega), k]
  change scrubCrc (f ++ [0]) ≠ scrubCrc (f ++ [1])
  simpa only [scrubCrc, List.foldl_append, List.foldl_cons, List.foldl_nil] using crcBits_bit0 _
set_option maxRecDepth 1000000 in
/-- Failover: a scrub pass whose trail differs from the lead in the last of the 930 words. -/
theorem witness_Failover_scrub :
    let s := allSts.getD 0 State.reset
    let fl : List (Fin 930 × Word) := [(929, 1)]
    s.split = false ∧ (s.coreState 1 = 1 ∨ s.coreState 1 = 4) ∧ fl ≠ [] ∧
      scrubCrc (s.scrubWords 1) ≠ scrubCrc (trailWords (s.scrubWords 1) (fl.map (fun f => (f.1.val, f.2.toNat)))) :=
  ⟨by decide +kernel, by decide +kernel, by decide, scrubCrc_set _ (by decide +kernel) (by decide +kernel)⟩
set_option maxRecDepth 1000000 in
theorem witness_Failover_2 : (
(let s := allSts.getD 160 State.reset
 let c : Fin 8 := 0
 let a : Owner := 0x12#8
 match s.ctu.moves with
 | m :: rest => (
  match m.seq with
  | some q => (
   match s.heirOf m with
   | some h => (
    let k : Fin 8 := 2
    let d := m.tasks.getD k ⟨0, 0, 0, false, 0⟩
    let e := d.dest - 1
    decide (s.split = false ∧ (∀ n : Fin 512, s.get (CUE.ROUTE.ACT c n) = 0) ∧ settledB s a = true ∧ m.done = none ∧ m.core = c.val ∧ (∀ j : Fin 8, s.taskIs c j 0 = (j != k)) ∧ m.run ≠ some k.val ∧ s.takes c k d = true ∧ d.dtask < 8 ∧ d.dbase < 32 ∧ d.rpc < 2 ^ 32 ∧ d.exact = true ∧ e < 8))
   | _ => false)
  | _ => false)
 | _ => false) &&
(let s := allSts.getD 161 State.reset
 let c : Fin 8 := 0
 let a : Owner := 0x12#8
 match s.ctu.moves with
 | m :: rest => (
  match m.seq with
  | some q => (
   match s.heirOf m with
   | some h => (
    let k : Fin 8 := 2
    let d := m.tasks.getD k ⟨0, 0, 0, false, 0⟩
    let e := d.dest - 1
    decide ((∀ n : Fin 512, s.get (CUE.ROUTE.ACT c n) = 0) ∧ settledB s a = true ∧ m.done = none ∧ m.core = c.val ∧ (∀ j : Fin 8, s.taskIs c j 0 = (j != k)) ∧ s.takes c k d = true ∧ d.dtask < 8 ∧ d.dbase < 32 ∧ d.rpc < 2 ^ 32 ∧ d.exact = false ∧ e < 8))
   | _ => false)
  | _ => false)
 | _ => false) &&
(let s := allSts.getD 9 State.reset
 let a : Owner := 0x12#8
 match s.ctu.moves with
 | m :: rest => (
  decide (settledB s a = true ∧ m.done = none ∧ m.seq = none))
 | _ => false) &&
(let s := allSts.getD 6 State.reset
 let c : Fin 8 := 2
 let a : Owner := 0x12#8
 match s.ctu.moves with
 | m :: rest => (
  match m.done with
  | some d => (
   decide (settledB s a = true ∧ m.core = c.val ∧ m.cmd = false))
  | _ => false)
 | _ => false) &&
(let s := allSts.getD 0 State.reset
 let c : Fin 8 := 3
 let a : Owner := 0x12#8
 decide (s.ctu.retest = none ∧ s.coreState c = 3 ∧ s.coreExists c = true ∧ settledB s a = true)) &&
(let s := allSts.getD 0 State.reset
 let a : Owner := 0x12#8
 decide (s.island 30 = 0 ∧ settledB s a = true ∧ 0x10 ≤ a.toNat ∧ a.toNat ≠ 0x40)) &&
(let s := allSts.getD 8 State.reset
 let a : Owner := 0x40#8
 decide (s.island 30 = 0 ∧ s.get CTU.CORERES.PENDING = 1 ∧ settledB s a = true ∧ a.toNat = 0x40)) &&
(let s := allSts.getD 0 State.reset
 let c : Fin 8 := 3
 let a : Owner := 0x40#8
 decide (s.island 30 = 0 ∧ s.get CTU.CORERES.PENDING = 0 ∧ s.get CTU.STATUS.MOVING = 0 ∧ s.coreExists c = true ∧ s.coreState c ≠ 4 ∧ settledB s a = true ∧ a.toNat = 0x40)) &&
(let s := allSts.getD 0 State.reset
 let c : Fin 8 := 1
 let a : Owner := 0x40#8
 decide (s.island 30 = 0 ∧ s.get CTU.CORERES.PENDING = 0 ∧ s.get CTU.STATUS.MOVING = 0 ∧ s.coreExists c = true ∧ s.coreState c = 4 ∧ settledB s a = true ∧ a.toNat = 0x40)) &&
(let s := allSts.getD 0 State.reset
 let c : Fin 8 := 2
 let a : Owner := 0x40#8
 decide (s.island 30 = 0 ∧ s.get CTU.CORERES.PENDING = 0 ∧ s.get CTU.STATUS.MOVING = 0 ∧ s.coreExists c = true ∧ s.coreState c = 5 ∧ settledB s a = true ∧ a.toNat = 0x40)) &&
(let s := allSts.getD 0 State.reset
 let c : Fin 8 := 0
 let a : Owner := 0x40#8
 decide (s.island 30 = 0 ∧ s.get CTU.CORERES.PENDING = 0 ∧ s.get CTU.STATUS.MOVING = 0 ∧ (∀ m ∈ s.ctu.moves, m.at_ ≠ s.t) ∧ s.coreExists c = true ∧ s.coreState c = 1 ∧ settledB s a = true ∧ a.toNat = 0x40))) = true := by decide +kernel
end W13

namespace W14
def st1 (k : Nat) : State :=
  let s := mk [(RUSH.CTRL.OWNER 3, [0x40,0x12,0].getD (k%3) 0), (RUSH.CTRL.EN 3, if k%3=2 then 0 else 1), (RUSH.STATUS.STATE 3, k/3%5), (RUSH.BASE.BASE 3, if k%7=6 then 0x80000010 else 0x80000000 + 2^14*k), (RUSH.RING.RLOG 3, 3+k%6), (RUSH.WPTR.WPTR 3, [5,15].getD (k%2) 0), (RUSH.PRE.PRE 3, k%4*2), (RUSH.POST.POST 3, k/2%4*2), (SYS.CLM.OWNER 0x900, if k%5=4 then 1 else 0x41), (SYS.CLM.FEATURE 0x900, 0xFFF), (DDR.STATUS.STATE, if k%11=10 then 0 else 2), (DDR.STATUS.REGIONS, 128)]
  s.putRush 3 ⟨true, 1, 5, if k%13=12 then [] else [(-(k:Int), 2^36-1-k), (5,6)], k%5, k%5⟩
def allSts : List State := (List.range 150).map st1 ++ [(((st1 0).put (RUSH.STATUS.STATE 3) 2).setSyncWait [27]).put (RUSH.POST.POST 3) 4]
theorem witness_RushesRecorder : (
(let s := allSts.getD 0 State.reset
 let a : Owner := 0x40#8
 let c : Fin 32 := 0
 let v : Word := 0x123456001#36
 let base := s.get (RUSH.BASE.BASE c)
 let region := 0x900 + base / 2 ^ 23 % 2 ^ 8
 let log := max 4 (min 22 (s.get (RUSH.RING.RLOG c)))
 decide (s.island 27 = 0 ∧ settledB s a = true ∧ a ≠ 0 ∧ s.get (RUSH.CTRL.EN c) = 0 ∧ s.get (RUSH.CTRL.OWNER c) = 0 ∧ v.toNat % 4 = 1 ∧ s.get (SYS.CLM.OWNER region) = 0x41 ∧ base % 2 ^ (log + 1) = 0)) &&
(let s := allSts.getD 4 State.reset
 let a : Owner := 0x40#8
 let c : Fin 32 := 0
 let v : Word := 0x123456001#36
 let base := s.get (RUSH.BASE.BASE c)
 let region := 0x900 + base / 2 ^ 23 % 2 ^ 8
 let log := max 4 (min 22 (s.get (RUSH.RING.RLOG c)))
 decide (s.island 27 = 0 ∧ settledB s a = true ∧ a ≠ 0 ∧ s.get (RUSH.CTRL.EN c) = 0 ∧ s.get (RUSH.CTRL.OWNER c) = 0 ∧ v.toNat % 4 = 1 ∧ (s.get (SYS.CLM.OWNER region) ≠ 0x41 ∨ base % 2 ^ (log + 1) ≠ 0))) &&
(let s := allSts.getD 0 State.reset
 let a : Owner := 0x40#8
 let c : Fin 32 := 3
 let v : Word := 0x000000008#36
 let mine : Bool := decide (s.get (RUSH.CTRL.EN c) = 1 ∧ s.get (RUSH.CTRL.OWNER c) = a.toNat)
 decide (s.island 27 = 0 ∧ settledB s a = true ∧ a ≠ 0 ∧ v.toNat % 4 = 0 ∧ mine)) &&
(let s := allSts.getD 12 State.reset
 let a : Owner := 0x40#8
 let c : Fin 32 := 3
 let v : Word := 0x400123803#36
 let mine : Bool := decide (s.get (RUSH.CTRL.EN c) = 1 ∧ s.get (RUSH.CTRL.OWNER c) = a.toNat)
 decide (s.island 27 = 0 ∧ settledB s a = true ∧ a ≠ 0 ∧ s.get (RUSH.STATUS.STATE c) = 4 ∧ v.toNat % 4 = 3 ∧ v.toNat / 2 ^ 28 = a.toNat ∧ mine)) &&
(let s := allSts.getD 0 State.reset
 let a : Owner := 0x40#8
 let c : Fin 32 := 3
 let v : Word := 0x400123803#36
 let mine : Bool := decide (s.get (RUSH.CTRL.EN c) = 1 ∧ s.get (RUSH.CTRL.OWNER c) = a.toNat)
 decide (s.island 27 = 0 ∧ settledB s a = true ∧ a ≠ 0 ∧ s.get (RUSH.STATUS.STATE c) ≠ 4 ∧ v.toNat % 4 = 3 ∧ v.toNat / 2 ^ 28 = a.toNat ∧ mine)) &&
(let s := allSts.getD 0 State.reset
 let a : Owner := 0x12#8
 let c : Fin 32 := 3
 decide (s.island 27 = 0 ∧ settledB s a = true ∧ a ≠ 0 ∧ a.toNat ≠ 0x40 ∧ s.get (RUSH.CTRL.OWNER c) ≠ 0 ∧ s.get (RUSH.CTRL.OWNER c) ≠ a.toNat)) &&
(let s := allSts.getD 0 State.reset
 let c : Fin 32 := 0
 let x := s.rush c
 decide (x.queue = [])) &&
(let s := allSts.getD 6 State.reset
 let c : Fin 32 := 3
 let x := s.rush c
 let w := s.get (RUSH.WPTR.WPTR c)
 let q := s.get (RUSH.BASE.BASE c) + 2 * w
 let st := s.get (RUSH.STATUS.STATE c)
 match x.queue with
 | r :: rest => (
  decide (s.marks = [] ∧ s.ddrMapped q = true ∧ s.ddrMapped (q + 1) = true ∧ s.ddrRefuses 0x41 q = false ∧ s.ddrRefuses 0x41 (q + 1) = false ∧ st = 2 ∧ r.2 < 2 ^ 36))
 | _ => false) &&
(let s := allSts.getD 3 State.reset
 let c : Fin 32 := 3
 let x := s.rush c
 let w := s.get (RUSH.WPTR.WPTR c)
 let q := s.get (RUSH.BASE.BASE c) + 2 * w
 let st := s.get (RUSH.STATUS.STATE c)
 match x.queue with
 | r :: rest => (
  decide (s.marks = [] ∧ x.filled + 1 < s.get (RUSH.PRE.PRE c) ∧ s.ddrMapped q = true ∧ s.ddrMapped (q + 1) = true ∧ s.ddrRefuses 0x41 q = false ∧ s.ddrRefuses 0x41 (q + 1) = false ∧ st = 1 ∧ r.2 < 2 ^ 36))
 | _ => false) &&
(let s := allSts.getD 18 State.reset
 let c : Fin 32 := 3
 let x := s.rush c
 let w := s.get (RUSH.WPTR.WPTR c)
 let q := s.get (RUSH.BASE.BASE c) + 2 * w
 let st := s.get (RUSH.STATUS.STATE c)
 match x.queue with
 | r :: rest => (
  decide (s.marks = [] ∧ s.get (RUSH.PRE.PRE c) ≤ x.filled + 1 ∧ s.ddrMapped q = true ∧ s.ddrMapped (q + 1) = true ∧ s.ddrRefuses 0x41 q = false ∧ s.ddrRefuses 0x41 (q + 1) = false ∧ st = 1 ∧ r.2 < 2 ^ 36))
 | _ => false) &&
(let s := allSts.getD 55 State.reset
 let c : Fin 32 := 3
 let x := s.rush c
 let w := s.get (RUSH.WPTR.WPTR c)
 let q := s.get (RUSH.BASE.BASE c) + 2 * w
 let st := s.get (RUSH.STATUS.STATE c)
 match x.queue with
 | r :: rest => (
  decide (s.marks = [] ∧ x.post + 1 < s.get (RUSH.POST.POST c) ∧ s.ddrMapped q = true ∧ s.ddrMapped (q + 1) = true ∧ s.ddrRefuses 0x41 q = false ∧ s.ddrRefuses 0x41 (q + 1) = false ∧ st = 3 ∧ r.2 < 2 ^ 36))
 | _ => false) &&
(let s := allSts.getD 11 State.reset
 let c : Fin 32 := 3
 let x := s.rush c
 let w := s.get (RUSH.WPTR.WPTR c)
 let q := s.get (RUSH.BASE.BASE c) + 2 * w
 let st := s.get (RUSH.STATUS.STATE c)
 match x.queue with
 | r :: rest => (
  decide (s.marks = [] ∧ s.get (RUSH.POST.POST c) ≤ x.post + 1 ∧ s.ddrMapped q = true ∧ s.ddrMapped (q + 1) = true ∧ s.ddrRefuses 0x41 q = false ∧ s.ddrRefuses 0x41 (q + 1) = false ∧ st = 3 ∧ r.2 < 2 ^ 36))
 | _ => false) &&
(let s := allSts.getD 4 State.reset
 let c : Fin 32 := 3
 let x := s.rush c
 let w := s.get (RUSH.WPTR.WPTR c)
 let q := s.get (RUSH.BASE.BASE c) + 2 * w
 match x.queue with
 | r :: rest => (
  decide (s.marks = [] ∧ (s.ddrMapped q = false ∨ s.ddrRefuses 0x41 q = true) ∧ r.2 < 2 ^ 36))
 | _ => false) &&
(let s := allSts.getD 0 State.reset
 let c : Fin 32 := 0
 let a : Owner := 0x40#8
 let v : Word := 0x000000001#36
 decide (s.island 27 = 0 ∧ settledB s a = true ∧ s.get (RUSH.CTRL.OWNER c) ≠ a.toNat ∧ (∀ k : Fin 32, v.toNat / 2 ^ k.val % 2 = if k = c then 1 else 0)))) = true := by decide +kernel
theorem witness_RushesRecorder_2 : (
(let s := allSts.getD 6 State.reset
 let c : Fin 32 := 3
 let st := s.get (RUSH.STATUS.STATE c)
 let a : Owner := 0x40#8
 let v : Word := 0x000000008#36
 decide (s.island 27 = 0 ∧ s.unsynced 27 = false ∧ 0 < s.get (RUSH.POST.POST c) ∧ st = 2 ∧ settledB s a = true ∧ s.get (RUSH.CTRL.OWNER c) = a.toNat ∧ a ≠ 0 ∧ (∀ k : Fin 32, v.toNat / 2 ^ k.val % 2 = if k = c then 1 else 0))) &&
(let s := allSts.getD 81 State.reset
 let c : Fin 32 := 3
 let st := s.get (RUSH.STATUS.STATE c)
 let a : Owner := 0x40#8
 let v : Word := 0x000000008#36
 decide (s.island 27 = 0 ∧ s.unsynced 27 = false ∧ s.get (RUSH.POST.POST c) = 0 ∧ st = 2 ∧ settledB s a = true ∧ s.get (RUSH.CTRL.OWNER c) = a.toNat ∧ a ≠ 0 ∧ (∀ k : Fin 32, v.toNat / 2 ^ k.val % 2 = if k = c then 1 else 0))) &&
(let s := allSts.getD 150 State.reset
 let c : Fin 32 := 3
 let st := s.get (RUSH.STATUS.STATE c)
 let a : Owner := 0x40#8
 let v : Word := 0x000000008#36
 decide (s.island 27 = 0 ∧ s.unsynced 27 = true ∧ 0 < s.get (RUSH.POST.POST c) ∧ st = 2 ∧ settledB s a = true ∧ s.get (RUSH.CTRL.OWNER c) = a.toNat ∧ a ≠ 0 ∧ (∀ k : Fin 32, v.toNat / 2 ^ k.val % 2 = if k = c then 1 else 0))) &&
(let s := allSts.getD 3 State.reset
 let c : Fin 32 := 3
 let st := s.get (RUSH.STATUS.STATE c)
 let a : Owner := 0x40#8
 let v : Word := 0x000000008#36
 decide (s.island 27 = 0 ∧ (st = 1 ∨ st = 3) ∧ settledB s a = true ∧ s.get (RUSH.CTRL.OWNER c) = a.toNat ∧ a ≠ 0 ∧ (∀ k : Fin 32, v.toNat / 2 ^ k.val % 2 = if k = c then 1 else 0))) &&
(let s := allSts.getD 0 State.reset
 let c : Fin 32 := 3
 let st := s.get (RUSH.STATUS.STATE c)
 let a : Owner := 0x40#8
 let v : Word := 0x000000008#36
 decide (s.island 27 = 0 ∧ (st = 0 ∨ st = 4) ∧ settledB s a = true ∧ s.get (RUSH.CTRL.OWNER c) = a.toNat ∧ a ≠ 0 ∧ (∀ k : Fin 32, v.toNat / 2 ^ k.val % 2 = if k = c then 1 else 0)))) = true := by decide +kernel
end W14

namespace W15
def dd (k : Nat) : FlashDesc := ⟨0x01100000 + 4*5, k%11, k%2=0, false, false, k%5, [0x1000, 0x205010, 0x400400, 0x401420, 0x470000].getD (k/3%5) 0, if k%7=3 then 0x01014000 else 0x80000100⟩
def st0 (k : Nat) : State :=
  let o := [0x40,0x12].getD (k%2) 0
  let s := mk [(FLASH.QCTL.OWNER, if k%5=4 then 0 else o), (FLASH.QBASE.ADDR, if k%9=8 then 0x01100001 else 0x01100000), (BANKS.OWNER.OWNER 64, o), (BANKS.OWNER.PEER 64, if k%13=12 then 0 else 0x42), (FLASH.QCTL.EN, k/2%2), (FLASH.QHEAD.HEAD, 5), (FLASH.QTAIL.TAIL, if k%11=10 then 5 else 9), (DDR.STATUS.STATE, 2), (DDR.STATUS.REGIONS, 128), (BANKS.OWNER.OWNER 5, 0x42), (FLASH.ECC.CECNT, 65535), (FLASH.SCAN.DONE, [5,2063,100,600].getD (k%4) 0)]
  let d := dd k
  let s := s.wrs 0x01100014 [d.op * 2^32 + b2n d.evq * 2^31 + d.count*2^16, d.addr, d.src, 0]
  let s := s.wrs 0x01014000 ((List.range 80).map rnd)
  let s := s.wrs 0x1000 (if k%2=0 then [] else [5,6,7])
  s.setFlash { s.flash with wipe := k%17=16 }
def st1 (k : Nat) : State :=
  let s := st0 k
  let d := dd (k/2)
  let s := s.setFlash { s.flash with now := some d }
  let s := if k%7=4 then s.setMarks [(d.addr, k%2=0)] else s
  if k%3=2 then s.wrs d.addr [1,2,3] else s
def st2 (k : Nat) : State :=
  let s := st0 k
  let d := { dd k with addr := [0x1000, 0x205010, 0x400400].getD (k%3) 0 }
  let s := s.setFlash { s.flash with prog := if k%5=4 then none else some ⟨d, (List.range (k%4)).map (fun i => (List.range 16).map (fun j => rnd (i*16+j+k) % 2^36)), none⟩, now := some d }
  if k/3%2=0 then s.setFlash { s.flash with spares := [] } else s
def st3 (k : Nat) : State :=
  let s := st0 k
  let d := dd (k/2)
  let r : EraseRun := ⟨k%3, [if k%2=0 then 5 else 600], .desc d, k/3%2=1⟩
  let r := if k%3=2 then { r with secs := [5] } else if r.secs = [600] then { r with bank := 3, secs := [600] } else r
  let s := s.setFlash { s.flash with now := if k%4=0 then none else some d, runs := if k%5=4 then [] else [r], torn := [(r.bank, r.secs.headD 0, false)], queued := if k%7=6 then [] else [(k%3, 77)], spares := if k%5=2 then [] else s.flash.spares ++ [(3,1024)] }
  s.wrs (secBase r.bank (r.secs.headD 0)) [1,2,3]
def st4 (k : Nat) : State :=
  let s := st0 1
  let d := { dd 1 with op := 1, count := 1, addr := 0x1000 }
  (s.setFlash { s.flash with now := some d }).setMarks [(0x1000+k, k%2=0)]
def st5 (k : Nat) : State :=
  let s := st0 1
  let d := { dd 1 with op := 8, count := 1, addr := 0x1000 }
  s.setFlash { s.flash with now := some d, runs := [⟨0, [1], .desc d, k%2=1⟩] }
def more : List State :=
  let cp := let s := st0 7
    s.setFlash { s.flash with copies := [(flashBank (dd 7).addr, flashSec (dd 7).addr, 1030)] }
  let ie := ([4, 5] : List Nat).map fun op => let s := st1 5
    let d : FlashDesc := { dd 2 with op := op, addr := 0x1000 }
    s.setFlash { s.flash with now := some d, runs := [⟨0, [1027], .spare, false⟩] }
  let sl := (st0 1).put (ISL.STAT.STATE 26) 2
  let co := (List.range 3).map fun b => let s := st0 1
    s.setFlash { s.flash with copies := [(b, 77, 1024)], queued := [(b, 77)] }
  [cp] ++ ie ++ [sl] ++ co
def allSts : List State := ((List.range 80).map st0 ++ (List.range 4).map st4 ++ (List.range 4).map st5 ++ (List.range 250).map st1 ++ (List.range 40).map st2 ++ (List.range 120).map st3) ++ more
theorem witness_FlashQueue : (
(let s := allSts.getD 0 State.reset
 let a : Owner := 0x40#8
 let v : Word := 0x400000001#36
 let q := s.get FLASH.QBASE.ADDR
 let own := s.get FLASH.QCTL.OWNER
 match bankOf? q with
 | some b => (
  let passes : Bool := decide (64 ≤ b ∧ q % 4 = 0 ∧ bankOf? (q + 127) = some b ∧ s.get (BANKS.OWNER.OWNER b) = a.toNat ∧ s.get (BANKS.OWNER.PEER b) = 0x42)
  decide (s.island 26 = 0 ∧ s.get FLASH.QCTL.EN = 0 ∧ settledB s a = true ∧ a ≠ 0 ∧ v.toNat / 2 ^ 28 = a.toNat ∧ v.toNat % 2 = 1 ∧ own = a.toNat ∧ passes))
 | _ => false) &&
(let s := allSts.getD 8 State.reset
 let a : Owner := 0x40#8
 let v : Word := 0x400000001#36
 let q := s.get FLASH.QBASE.ADDR
 let own := s.get FLASH.QCTL.OWNER
 match bankOf? q with
 | some b => (
  let passes : Bool := decide (64 ≤ b ∧ q % 4 = 0 ∧ bankOf? (q + 127) = some b ∧ s.get (BANKS.OWNER.OWNER b) = a.toNat ∧ s.get (BANKS.OWNER.PEER b) = 0x42)
  decide (s.island 26 = 0 ∧ s.get FLASH.QCTL.EN = 0 ∧ settledB s a = true ∧ a ≠ 0 ∧ v.toNat / 2 ^ 28 = a.toNat ∧ v.toNat % 2 = 1 ∧ own = a.toNat ∧ ¬ passes))
 | _ => false) &&
(let s := allSts.getD 0 State.reset
 let a : Owner := 0x40#8
 let v : Word := 0x400000000#36
 let own := s.get FLASH.QCTL.OWNER
 decide (s.island 26 = 0 ∧ settledB s a = true ∧ a ≠ 0 ∧ validOwner s.split a.toNat = true ∧ v.toNat / 2 ^ 28 = a.toNat ∧ v.toNat % 2 = 0 ∧ own = a.toNat)) &&
(let s := allSts.getD 0 State.reset
 let a : Owner := 0x12#8
 let own := s.get FLASH.QCTL.OWNER
 decide (s.island 26 = 0 ∧ settledB s a = true ∧ own ≠ 0 ∧ own ≠ a.toNat)) &&
(let s := allSts.getD 0 State.reset
 let a : Owner := 0x40#8
 decide ((s.get FLASH.QCTL.EN = 0 ∨ s.get FLASH.QHEAD.HEAD = s.get FLASH.QTAIL.TAIL ∨ s.flash.now ≠ none) ∧ settledB s a = true)) &&
(let s := allSts.getD 3 State.reset
 let a : Owner := 0x40#8
 let q := s.get FLASH.QBASE.ADDR
 let slot := q + 4 * s.get FLASH.QHEAD.HEAD
 let d := flashDescOf slot (s.rd slot) (s.rd (slot + 1)) (s.rd (slot + 2))
 match bankOf? slot with
 | some b => (
  decide (s.get FLASH.QCTL.EN = 1 ∧ s.get FLASH.QHEAD.HEAD ≠ s.get FLASH.QTAIL.TAIL ∧ s.flash.now = none ∧ s.marks = [] ∧ (∀ r ∈ s.flash.runs, r.isDesc = true) ∧ s.flash.copies = [] ∧ settledB s a = true ∧ s.flashCheck d = none ∧ bankOf? (slot + 3) = some b ∧ 64 ≤ b ∧ s.bankMay 0x42 b = true ∧ s.get (BANKS.STATUS.RED b) = 0))
 | _ => false) &&
(let s := allSts.getD 498 State.reset
 let a : Owner := 0x40#8
 let q := s.get FLASH.QBASE.ADDR
 let slot := q + 4 * s.get FLASH.QHEAD.HEAD
 let d := flashDescOf slot (s.rd slot) (s.rd (slot + 1)) (s.rd (slot + 2))
 match bankOf? slot with
 | some b => (
  decide (s.get FLASH.QCTL.EN = 1 ∧ s.get FLASH.QHEAD.HEAD ≠ s.get FLASH.QTAIL.TAIL ∧ s.flash.now = none ∧ s.marks = [] ∧ (∀ r ∈ s.flash.runs, r.isDesc = true) ∧ s.flash.wipe = false ∧ settledB s a = true ∧ s.flash.touched d = true ∧ s.flashBadArg d = false ∧ bankOf? (slot + 3) = some b ∧ 64 ≤ b ∧ s.bankMay 0x42 b = true ∧ s.get (BANKS.STATUS.RED b) = 0))
 | _ => false) &&
(let s := allSts.getD 11 State.reset
 let a : Owner := 0x40#8
 let q := s.get FLASH.QBASE.ADDR
 let slot := q + 4 * s.get FLASH.QHEAD.HEAD
 let d := flashDescOf slot (s.rd slot) (s.rd (slot + 1)) (s.rd (slot + 2))
 match bankOf? slot with
 | some b => (
  decide (s.get FLASH.QCTL.EN = 1 ∧ s.get FLASH.QHEAD.HEAD ≠ s.get FLASH.QTAIL.TAIL ∧ s.flash.now = none ∧ s.marks = [] ∧ s.putFlash s.flash = s ∧ s.flash.runs = [] ∧ s.flash.torn = [] ∧ s.flash.retired = [] ∧ s.flash.copies = [] ∧ settledB s a = true ∧ (d.op = 0 ∨ 9 < d.op ∨ 0x500000 ≤ d.addr) ∧ bankOf? (slot + 3) = some b ∧ 64 ≤ b ∧ s.bankMay 0x42 b = true ∧ s.get (BANKS.STATUS.RED b) = 0))
 | _ => false) &&
(let s := allSts.getD 27 State.reset
 let a : Owner := 0x40#8
 let q := s.get FLASH.QBASE.ADDR
 let slot := q + 4 * s.get FLASH.QHEAD.HEAD
 let d := flashDescOf slot (s.rd slot) (s.rd (slot + 1)) (s.rd (slot + 2))
 match bankOf? slot with
 | some b => (
  decide (s.get FLASH.QCTL.EN = 1 ∧ s.get FLASH.QHEAD.HEAD ≠ s.get FLASH.QTAIL.TAIL ∧ s.flash.now = none ∧ s.marks = [] ∧ s.putFlash s.flash = s ∧ s.flash.runs = [] ∧ s.flash.torn = [] ∧ s.flash.retired = [] ∧ s.flash.copies = [] ∧ settledB s a = true ∧ (d.op = 4 ∨ d.op = 5) ∧ 0x460000 ≤ d.addr ∧ bankOf? (slot + 3) = some b ∧ 64 ≤ b ∧ s.bankMay 0x42 b = true ∧ s.get (BANKS.STATUS.RED b) = 0))
 | _ => false) &&
(let s := allSts.getD 67 State.reset
 let a : Owner := 0x40#8
 let q := s.get FLASH.QBASE.ADDR
 let slot := q + 4 * s.get FLASH.QHEAD.HEAD
 let d := flashDescOf slot (s.rd slot) (s.rd (slot + 1)) (s.rd (slot + 2))
 match bankOf? slot with
 | some b => (
  decide (s.get FLASH.QCTL.EN = 1 ∧ s.get FLASH.QHEAD.HEAD ≠ s.get FLASH.QTAIL.TAIL ∧ s.flash.now = none ∧ s.marks = [] ∧ s.putFlash s.flash = s ∧ s.flash.runs = [] ∧ s.flash.torn = [] ∧ s.flash.retired = [] ∧ s.flash.copies = [] ∧ s.flash.wipe = true ∧ settledB s a = true ∧ s.flashBadArg d = false ∧ bankOf? (slot + 3) = some b ∧ 64 ≤ b ∧ s.bankMay 0x42 b = true ∧ s.get (BANKS.STATUS.RED b) = 0))
 | _ => false) &&
(let s := allSts.getD 19 State.reset
 let a : Owner := 0x40#8
 let q := s.get FLASH.QBASE.ADDR
 let slot := q + 4 * s.get FLASH.QHEAD.HEAD
 let d := flashDescOf slot (s.rd slot) (s.rd (slot + 1)) (s.rd (slot + 2))
 match bankOf? slot with
 | some b => (
  decide (s.get FLASH.QCTL.EN = 1 ∧ s.get FLASH.QHEAD.HEAD ≠ s.get FLASH.QTAIL.TAIL ∧ s.flash.now = none ∧ s.marks = [] ∧ s.putFlash s.flash = s ∧ s.flash.runs = [] ∧ s.flash.torn = [] ∧ s.flash.retired = [] ∧ s.flash.copies = [] ∧ s.flash.wipe = false ∧ settledB s a = true ∧ (d.op = 8 ∨ d.op = 9) ∧ d.addr < 0x500000 ∧ bankOf? (slot + 3) = some b ∧ 64 ≤ b ∧ s.bankMay 0x42 b = true ∧ s.get (BANKS.STATUS.RED b) = 0))
 | _ => false)) = true := by decide +kernel
theorem witness_FlashLines : (
(let s := allSts.getD 91 State.reset
 match s.flash.now with
 | some d => (
  match bankOf? (d.slot + 3) with
  | some b => (
   let clean : Bool := decide (∀ i < d.count, s.lineErrors (d.addr + 16 * i) = 0)
   decide (s.flash.prog = none ∧ s.flash.runs = [] ∧ s.flash.torn = [] ∧ s.flash.retired = [] ∧ s.flash.copies = [] ∧ d.count < 4096 ∧ d.addr < 0x500000 ∧ d.op = 1 ∧ d.cmp = false ∧ 64 ≤ b ∧ s.bankMay 0x42 b = true ∧ s.get (BANKS.STATUS.RED b) = 0 ∧ clean))
  | _ => false)
 | _ => false) &&
(let s := allSts.getD 81 State.reset
 match s.flash.now with
 | some d => (
  match bankOf? (d.slot + 3) with
  | some b => (
   decide (s.flash.prog = none ∧ s.flash.runs = [] ∧ s.flash.torn = [] ∧ s.flash.retired = [] ∧ s.flash.copies = [] ∧ d.count < 4096 ∧ d.addr < 0x500000 ∧ d.op = 1 ∧ d.cmp = false ∧ d.count = 1 ∧ s.lineErrors d.addr = 1 ∧ 64 ≤ b ∧ s.bankMay 0x42 b = true ∧ s.get (BANKS.STATUS.RED b) = 0))
  | _ => false)
 | _ => false) &&
(let s := allSts.getD 80 State.reset
 match s.flash.now with
 | some d => (
  match bankOf? (d.slot + 3) with
  | some b => (
   decide (s.flash.prog = none ∧ s.flash.runs = [] ∧ s.flash.torn = [] ∧ s.flash.retired = [] ∧ s.flash.copies = [] ∧ d.count < 4096 ∧ d.addr < 0x500000 ∧ d.op = 1 ∧ d.cmp = false ∧ d.count = 1 ∧ 4 ≤ s.lineErrors d.addr ∧ 64 ≤ b ∧ s.bankMay 0x42 b = true ∧ s.get (BANKS.STATUS.RED b) = 0))
  | _ => false)
 | _ => false) &&
(let s := allSts.getD 101 State.reset
 match s.flash.now with
 | some d => (
  match bankOf? (d.slot + 3) with
  | some b => (
   decide (s.flash.prog = none ∧ s.flash.runs = [] ∧ s.flash.torn = [] ∧ s.flash.retired = [] ∧ s.flash.copies = [] ∧ s.marks = [] ∧ d.count < 4096 ∧ d.addr < 0x500000 ∧ d.op = 6 ∧ (∀ i < d.count, s.lineBlank (d.addr + 16 * i) = true) ∧ 64 ≤ b ∧ s.bankMay 0x42 b = true ∧ s.get (BANKS.STATUS.RED b) = 0))
  | _ => false)
 | _ => false) &&
(let s := allSts.getD 123 State.reset
 match s.flash.now with
 | some d => (
  match bankOf? (d.slot + 3) with
  | some b => (
   decide (s.flash.prog = none ∧ s.flash.runs = [] ∧ s.flash.torn = [] ∧ s.flash.retired = [] ∧ s.flash.copies = [] ∧ s.marks = [] ∧ d.count < 4096 ∧ d.addr < 0x500000 ∧ d.op = 6 ∧ 0 < d.count ∧ s.lineBlank d.addr = false ∧ 64 ≤ b ∧ s.bankMay 0x42 b = true ∧ s.get (BANKS.STATUS.RED b) = 0))
  | _ => false)
 | _ => false) &&
(let s := allSts.getD 103 State.reset
 match s.flash.now with
 | some d => (
  match bankOf? (d.slot + 3) with
  | some b => (
   decide (s.flash.prog = none ∧ s.flash.runs = [] ∧ s.flash.torn = [] ∧ s.flash.retired = [] ∧ s.flash.copies = [] ∧ s.marks = [] ∧ d.count < 4096 ∧ d.addr < 0x500000 ∧ d.op = 7 ∧ 2 ≤ d.count ∧ 64 ≤ b ∧ s.bankMay 0x42 b = true ∧ s.get (BANKS.STATUS.RED b) = 0))
  | _ => false)
 | _ => false) &&
(let s := allSts.getD 93 State.reset
 match s.flash.now with
 | some d => (
  match bankOf? (d.slot + 3) with
  | some b => (
   decide (s.flash.prog = none ∧ s.flash.runs = [] ∧ s.flash.torn = [] ∧ s.flash.retired = [] ∧ s.flash.copies = [] ∧ s.marks = [] ∧ d.count < 4096 ∧ d.addr < 0x500000 ∧ (∀ i < 16 * (if d.op = 2 then 1 else d.count), s.flashMayRead (d.src + i) = true ∧ ∀ k, bankOf? (d.src + i) = some k → s.get (BANKS.STATUS.RED k) = 0) ∧ d.op = 2 ∧ 64 ≤ b ∧ s.bankMay 0x42 b = true ∧ s.get (BANKS.STATUS.RED b) = 0))
  | _ => false)
 | _ => false) &&
(let s := allSts.getD 95 State.reset
 match s.flash.now with
 | some d => (
  match bankOf? (d.slot + 3) with
  | some b => (
   decide (s.flash.prog = none ∧ s.flash.runs = [] ∧ s.flash.torn = [] ∧ s.flash.retired = [] ∧ s.flash.copies = [] ∧ s.marks = [] ∧ d.count < 4096 ∧ d.addr < 0x500000 ∧ (∀ i < 16 * (if d.op = 2 then 1 else d.count), s.flashMayRead (d.src + i) = true ∧ ∀ k, bankOf? (d.src + i) = some k → s.get (BANKS.STATUS.RED k) = 0) ∧ d.op = 3 ∧ 64 ≤ b ∧ s.bankMay 0x42 b = true ∧ s.get (BANKS.STATUS.RED b) = 0))
  | _ => false)
 | _ => false) &&
(let s := allSts.getD 0 State.reset
 decide (s.flash.runs = [] ∧ s.flash.torn = [] ∧ s.flash.retired = [] ∧ s.flash.copies = [] ∧ s.flash.prog = none)) &&
(let s := allSts.getD 339 State.reset
 match s.flash.prog with
 | some p => (
  match bankOf? (p.desc.slot + 3) with
  | some b => (
   decide (s.flash.runs = [] ∧ s.flash.torn = [] ∧ s.flash.retired = [] ∧ s.flash.copies = [] ∧ p.stop = none ∧ p.lines.length < 4096 ∧ p.desc.addr % 16 = 0 ∧ p.desc.addr + 16 * p.lines.length ≤ 0x500000 ∧ (∀ l ∈ p.lines, l.length = 16 ∧ ∀ v ∈ l, v < 2 ^ 36) ∧ 64 ≤ b ∧ s.bankMay 0x42 b = true ∧ s.get (BANKS.STATUS.RED b) = 0))
  | _ => false)
 | _ => false) &&
(let s := allSts.getD 341 State.reset
 match s.flash.prog with
 | some p => (
  match bankOf? (p.desc.slot + 3) with
  | some b => (
   let d := p.desc
   match s.flash.spareOf (flashBank d.addr) with
   | some sp => (
    decide (s.flash.runs = [] ∧ s.flash.torn = [] ∧ s.flash.retired = [] ∧ s.flash.copies = [] ∧ s.marks = [] ∧ p.stop = none ∧ p.lines.length < 4096 ∧ p.desc.addr % 16 = 0 ∧ p.desc.addr + 16 * p.lines.length ≤ 0x500000 ∧ (∀ l ∈ p.lines, l.length = 16 ∧ ∀ v ∈ l, v < 2 ^ 36) ∧ 0 < p.lines.length ∧ 64 ≤ b ∧ s.bankMay 0x42 b = true ∧ s.get (BANKS.STATUS.RED b) = 0))
   | _ => false)
  | _ => false)
 | _ => false) &&
(let s := allSts.getD 339 State.reset
 match s.flash.prog with
 | some p => (
  match bankOf? (p.desc.slot + 3) with
  | some b => (
   let d := p.desc
   decide (s.flash.runs = [] ∧ s.flash.torn = [] ∧ s.flash.retired = [] ∧ s.flash.copies = [] ∧ p.stop = none ∧ p.lines.length < 4096 ∧ p.desc.addr % 16 = 0 ∧ p.desc.addr + 16 * p.lines.length ≤ 0x500000 ∧ (∀ l ∈ p.lines, l.length = 16 ∧ ∀ v ∈ l, v < 2 ^ 36) ∧ 0 < p.lines.length ∧ 64 ≤ b ∧ s.bankMay 0x42 b = true ∧ s.get (BANKS.STATUS.RED b) = 0 ∧ s.flash.spareOf (flashBank d.addr) = none))
  | _ => false)
 | _ => false)) = true := by decide +kernel
theorem witness_FlashErases : (
(let s := allSts.getD 499 State.reset
 match s.flash.now with
 | some d => (
  match bankOf? (d.slot + 3) with
  | some b => (
   let k := flashBank d.addr
   decide (s.flash.prog = none ∧ s.flash.copies = [] ∧ d.addr < 0x500000 ∧ d.op = 4 ∧ 64 ≤ b ∧ s.bankMay 0x42 b = true ∧ s.get (BANKS.STATUS.RED b) = 0 ∧ s.flash.intErase k = true))
  | _ => false)
 | _ => false) &&
(let s := allSts.getD 500 State.reset
 match s.flash.now with
 | some d => (
  match bankOf? (d.slot + 3) with
  | some b => (
   let k := flashBank d.addr
   decide (s.flash.prog = none ∧ s.flash.copies = [] ∧ d.addr < 0x500000 ∧ d.op = 5 ∧ 64 ≤ b ∧ s.bankMay 0x42 b = true ∧ s.get (BANKS.STATUS.RED b) = 0 ∧ s.flash.intErase k = true))
  | _ => false)
 | _ => false) &&
(let s := allSts.getD 97 State.reset
 match s.flash.now with
 | some d => (
  match bankOf? (d.slot + 3) with
  | some b => (
   let k := flashBank d.addr
   decide (s.flash.prog = none ∧ s.flash.copies = [] ∧ (∀ r ∈ s.flash.runs, r.isDesc = true) ∧ d.addr < 0x500000 ∧ d.op = 4 ∧ 64 ≤ b ∧ s.bankMay 0x42 b = true ∧ s.get (BANKS.STATUS.RED b) = 0 ∧ s.flash.isRetired k (flashSec d.addr) = false))
  | _ => false)
 | _ => false) &&
(let s := allSts.getD 99 State.reset
 match s.flash.now with
 | some d => (
  match bankOf? (d.slot + 3) with
  | some b => (
   decide (s.flash.prog = none ∧ s.flash.copies = [] ∧ (∀ r ∈ s.flash.runs, r.isDesc = true) ∧ s.flash.retired = [] ∧ d.addr < 0x500000 ∧ d.op = 5 ∧ 64 ≤ b ∧ s.bankMay 0x42 b = true ∧ s.get (BANKS.STATUS.RED b) = 0))
  | _ => false)
 | _ => false) &&
(let s := allSts.getD 84 State.reset
 match s.flash.now with
 | some d => (
  match bankOf? (d.slot + 3) with
  | some b => (
   let k := flashBank d.addr
   decide (s.flash.prog = none ∧ s.flash.copies = [] ∧ (∀ r ∈ s.flash.runs, r.isDesc = true) ∧ d.addr < 0x500000 ∧ d.op = 8 ∧ 64 ≤ b ∧ s.bankMay 0x42 b = true ∧ s.get (BANKS.STATUS.RED b) = 0 ∧ s.flash.descErase k false = true))
  | _ => false)
 | _ => false) &&
(let s := allSts.getD 85 State.reset
 match s.flash.now with
 | some d => (
  match bankOf? (d.slot + 3) with
  | some b => (
   let k := flashBank d.addr
   decide (s.flash.prog = none ∧ s.flash.copies = [] ∧ (∀ r ∈ s.flash.runs, r.isDesc = true) ∧ d.addr < 0x500000 ∧ d.op = 8 ∧ 64 ≤ b ∧ s.bankMay 0x42 b = true ∧ s.get (BANKS.STATUS.RED b) = 0 ∧ s.flash.descErase k false = false))
  | _ => false)
 | _ => false) &&
(let s := allSts.getD 107 State.reset
 match s.flash.now with
 | some d => (
  match bankOf? (d.slot + 3) with
  | some b => (
   decide (s.flash.prog = none ∧ s.flash.copies = [] ∧ (∀ r ∈ s.flash.runs, r.isDesc = true) ∧ d.addr < 0x500000 ∧ d.op = 9 ∧ 64 ≤ b ∧ s.bankMay 0x42 b = true ∧ s.get (BANKS.STATUS.RED b) = 0))
  | _ => false)
 | _ => false) &&
(let s := allSts.getD 0 State.reset
 decide (s.flash.prog = none ∧ s.flash.runs = [])) &&
(let s := allSts.getD 84 State.reset
 match s.flash.runs with
 | [r] => (
  let sec : BitVec 11 := 0x001#11
  let k : Fin 4 := 0
  decide (s.flash.prog = none ∧ s.flash.retired = [] ∧ r.susp = false ∧ r.isDesc = true ∧ r.secs = [sec.toNat] ∧ r.bank = k.val ∧ secBase k sec.toNat < 0x500000))
 | _ => false) &&
(let s := allSts.getD 84 State.reset
 match s.flash.runs with
 | [r] => (
  let sec : BitVec 11 := 0x001#11
  let k : Fin 4 := 0
  match s.flash.spareOf k with
  | some sp => (
   decide (s.flash.prog = none ∧ s.flash.retired = [] ∧ r.susp = false ∧ r.isDesc = true ∧ r.secs = [sec.toNat] ∧ r.bank = k.val ∧ secBase k sec.toNat < 0x500000))
  | _ => false)
 | _ => false) &&
(let s := allSts.getD 380 State.reset
 match s.flash.runs with
 | [r] => (
  let sec : BitVec 11 := 0x005#11
  let k : Fin 4 := 2
  decide (s.flash.prog = none ∧ s.flash.retired = [] ∧ r.susp = false ∧ r.isDesc = true ∧ r.secs = [sec.toNat] ∧ r.bank = k.val ∧ secBase k sec.toNat < 0x500000 ∧ s.flash.spareOf k = none))
 | _ => false) &&
(let s := allSts.getD 501 State.reset
 decide (s.flash.prog = none ∧ s.island 26 ≠ 0)) &&
(let s := allSts.getD 501 State.reset
 let a : Addr := 0x00000000#32
 decide (s.flash.prog = none ∧ s.island 26 ≠ 0 ∧ s.marks = [] ∧ a.toNat < 0x500000)) &&
(let s := allSts.getD 0 State.reset
 decide (s.flash.prog = none ∧ s.island 26 = 0 ∧ s.marks = [] ∧ s.get FLASH.SCAN.DONE + 1 < 2064))) = true := by decide +kernel
theorem witness_FlashErases_2 : (
(let s := allSts.getD 1 State.reset
 decide (s.flash.prog = none ∧ s.island 26 = 0 ∧ s.marks = [] ∧ s.get FLASH.SCAN.DONE = 2063)) &&
(let s := allSts.getD 0 State.reset
 decide (s.flash.prog = none ∧ s.island 26 = 0 ∧ s.marks = [] ∧ s.get FLASH.SCAN.DONE < 512 ∧ s.flash.queued = [] ∧ s.flash.retired = [])) &&
(let s := allSts.getD 382 State.reset
 let b : Fin 3 := 1
 match s.flash.queued with
 | [q] => (
  match s.flash.spareOf b with
  | some sp => (
   decide (s.flash.prog = none ∧ s.flash.now = none ∧ s.flash.copies = [] ∧ s.flash.runs = [] ∧ q.1 = b ∧ s.flash.sstate b q.2 = 0))
  | _ => false)
 | _ => false) &&
(let s := allSts.getD 502 State.reset
 let b : Fin 3 := 0
 match s.flash.copies with
 | [(z51_, sec, sp)] => (
  decide (s.flash.prog = none ∧ s.flash.now = none ∧ s.get ⟨FLASH.MAINT.adr, b, 1⟩ = 0 ∧ z51_ = b.val ∧ s.flash.queued = [(b.val, sec)]))
 | _ => false) &&
(let s := allSts.getD 80 State.reset
 let b : Fin 3 := 0
 match s.flash.now with
 | some d => (
  decide (s.flash.prog = none ∧ s.flash.copies = [] ∧ flashBank d.addr = b))
 | _ => false)) = true := by decide +kernel
end W15

namespace W16
def st0 (k : Nat) : State :=
  let s := mk [(FLASH.RSCTL.OWNER, [0x40,0x12].getD (k%2) 0), (FLASH.RSSTAT.STATE, k/2%4), (FLASH.RSRES.PENDING, if k%5=4 then 1 else 0), (FLASH.RSSTAT.USABLE, 640), (FLASH.RSCTL.REC, if k%10=9 then 48 else 3), (FLASH.RSCTL.LEN, 3), (FLASH.RSBUF.DATA 0, 55), (FLASH.RSBUF.DATA 2, 2^36-1), (ETH.SLSTATE.STATE, 3), (FLASH.RDPRES.WIPE, if k%3=0 then 1 else 0), (DBG.STATUS.UNLOCKED, 1), (LE.STATUS.STATE 3, 4), (coreStateRef 1, 1), (SEC.STATUS.TOKEN, 1)]
  let s := s.setFlash { s.flash with wipe := k%3=0 }
  let s := s.setOtp { s.otp with seq := [0,1,15,16,7,17].getD (k/2%6) 0, l2 := k%7=6 }
  let s := (s.wrs 0x1000 [1,2,3]).wrs 0x01000000 [5,6]
  let s := s.setMarks (if k%3=0 then [] else [(0x1005, true)])
  let c : StoreCmd := ⟨1+k/4%3, k/12%40, if k/4%3=1 then (List.range (1+k%15)).map (fun j => rnd (j+k) % 2^36) else []⟩
  s.setRecs { s.recs with cmd := if k%4=3 then none else some c, active := some 500, point := 5+k, toErase := if k%2=0 then [3,4] else [], ahead := List.range (k%12) }
def more : List State :=
  let s := st0 4
  let s := (s.setFlash { s.flash with wipe := false }).put (FLASH.RSRES.PENDING) 0
  let run := s.setFlash { s.flash with runs := [⟨3, [4], .store, false⟩] }
  let has (c : StoreCmd) : State := { (s.wrs 0x460010 (slotWords ⟨3, 4, 1023, [1, 2, 3, 4]⟩)) with marks := [] }.setRecs { s.recs with cmd := some c, index := [(3, 0x460010)], active := some 500, point := 5 }
  [has ⟨1, 3, []⟩, has ⟨2, 3, [7, 8]⟩, has ⟨3, 3, []⟩, s.put (ISL.STAT.STATE 26) 2, run.setRecs { run.recs with cmd := none }, s.setRecs { s.recs with cmd := none, toErase := [3, 4] }]
def allSts : List State := ((List.range 60).map st0) ++ more
theorem witness_RecordStore : (
(let s := allSts.getD 0 State.reset
 let a : Owner := 0x12#8
 let own := s.get FLASH.RSCTL.OWNER
 decide (s.island 26 = 0 ∧ settledB s a = true ∧ a ≠ 0 ∧ validOwner s.split a.toNat = true ∧ own ≠ 0 ∧ own ≠ a.toNat)) &&
(let s := allSts.getD 20 State.reset
 let a : Owner := 0x40#8
 let v : Word := 0x400000001#36
 let st := s.get FLASH.RSSTAT.STATE
 let pend := s.get FLASH.RSRES.PENDING
 let own := s.get FLASH.RSCTL.OWNER
 let shown : Bool := decide (s.putFlash s.flash = s ∧ ∀ r ∈ s.flash.runs, r.isDesc = true)
 decide (s.island 26 = 0 ∧ s.flash.wipe = false ∧ settledB s a = true ∧ a ≠ 0 ∧ validOwner s.split a.toNat = true ∧ v.toNat / 2 ^ 28 = a.toNat ∧ (st = 2 ∨ st = 3) ∧ pend = 0 ∧ own = a.toNat ∧ shown)) &&
(let s := allSts.getD 20 State.reset
 let a : Owner := 0x40#8
 let v : Word := 0x400000c31#36
 let rc := v.toNat / 2 ^ 10 % 2 ^ 6
 let len := v.toNat / 2 ^ 4 % 2 ^ 4
 let st := s.get FLASH.RSSTAT.STATE
 let pend := s.get FLASH.RSRES.PENDING
 let own := s.get FLASH.RSCTL.OWNER
 let shown : Bool := decide (s.putFlash s.flash = s ∧ ∀ r ∈ s.flash.runs, r.isDesc = true)
 decide (s.island 26 = 0 ∧ s.flash.wipe = false ∧ settledB s a = true ∧ a ≠ 0 ∧ validOwner s.split a.toNat = true ∧ v.toNat / 2 ^ 28 = a.toNat ∧ rc < 48 ∧ len ≠ 0 ∧ st = 2 ∧ pend = 0 ∧ own = a.toNat ∧ shown)) &&
(let s := allSts.getD 64 State.reset
 let a : Owner := 0x40#8
 let v : Word := 0x400000001#36
 let st := s.get FLASH.RSSTAT.STATE
 let pend := s.get FLASH.RSRES.PENDING
 let own := s.get FLASH.RSCTL.OWNER
 match s.flash.runs with
 | [er] => (
  decide (s.island 26 = 0 ∧ s.flash.wipe = false ∧ settledB s a = true ∧ a ≠ 0 ∧ validOwner s.split a.toNat = true ∧ v.toNat / 2 ^ 28 = a.toNat ∧ (st = 2 ∨ st = 3) ∧ pend = 0 ∧ own = a.toNat ∧ er.bank = 3 ∧ er.isDesc = false))
 | _ => false) &&
(let s := allSts.getD 20 State.reset
 let a : Owner := 0x40#8
 let v : Word := 0x400000001#36
 let rc := v.toNat / 2 ^ 10 % 2 ^ 6
 let st := s.get FLASH.RSSTAT.STATE
 let pend := s.get FLASH.RSRES.PENDING
 let own := s.get FLASH.RSCTL.OWNER
 let shown : Bool := decide (s.putFlash s.flash = s ∧ ∀ r ∈ s.flash.runs, r.isDesc = true)
 decide (s.island 26 = 0 ∧ s.flash.wipe = false ∧ settledB s a = true ∧ a ≠ 0 ∧ validOwner s.split a.toNat = true ∧ v.toNat / 2 ^ 28 = a.toNat ∧ rc < 48 ∧ st = 2 ∧ pend = 0 ∧ own = a.toNat ∧ shown)) &&
(let s := allSts.getD 2 State.reset
 let a : Owner := 0x40#8
 let v : Word := 0x400000001#36
 let rc := v.toNat / 2 ^ 10 % 2 ^ 6
 let len := v.toNat / 2 ^ 4 % 2 ^ 4
 let pend := s.get FLASH.RSRES.PENDING
 let own := s.get FLASH.RSCTL.OWNER
 decide (s.island 26 = 0 ∧ s.flash.wipe = false ∧ settledB s a = true ∧ a ≠ 0 ∧ validOwner s.split a.toNat = true ∧ v.toNat / 2 ^ 28 = a.toNat ∧ (48 ≤ rc ∨ len = 0) ∧ pend = 0 ∧ own = a.toNat)) &&
(let s := allSts.getD 2 State.reset
 let a : Owner := 0x40#8
 let v : Word := 0x40000c031#36
 let rc := v.toNat / 2 ^ 10 % 2 ^ 6
 let pend := s.get FLASH.RSRES.PENDING
 let own := s.get FLASH.RSCTL.OWNER
 decide (s.island 26 = 0 ∧ s.flash.wipe = false ∧ settledB s a = true ∧ a ≠ 0 ∧ validOwner s.split a.toNat = true ∧ v.toNat / 2 ^ 28 = a.toNat ∧ 48 ≤ rc ∧ pend = 0 ∧ own = a.toNat)) &&
(let s := allSts.getD 2 State.reset
 let a : Owner := 0x40#8
 let v : Word := 0x400000001#36
 let rc := v.toNat / 2 ^ 10 % 2 ^ 6
 let st := s.get FLASH.RSSTAT.STATE
 let pend := s.get FLASH.RSRES.PENDING
 let own := s.get FLASH.RSCTL.OWNER
 decide (s.island 26 = 0 ∧ s.flash.wipe = false ∧ settledB s a = true ∧ a ≠ 0 ∧ validOwner s.split a.toNat = true ∧ v.toNat / 2 ^ 28 = a.toNat ∧ rc < 48 ∧ st ≠ 2 ∧ pend = 0 ∧ own = a.toNat)) &&
(let s := allSts.getD 4 State.reset
 let a : Owner := 0x40#8
 let v : Word := 0x400000c31#36
 let rc := v.toNat / 2 ^ 10 % 2 ^ 6
 let len := v.toNat / 2 ^ 4 % 2 ^ 4
 let pend := s.get FLASH.RSRES.PENDING
 let own := s.get FLASH.RSCTL.OWNER
 decide (s.island 26 = 0 ∧ settledB s a = true ∧ a ≠ 0 ∧ validOwner s.split a.toNat = true ∧ v.toNat / 2 ^ 28 = a.toNat ∧ rc = s.get FLASH.RSCTL.REC ∧ len = s.get FLASH.RSCTL.LEN ∧ pend = 1 ∧ own = a.toNat)) &&
(let s := allSts.getD 4 State.reset
 let a : Owner := 0x40#8
 let v : Word := 0x400000001#36
 let rc := v.toNat / 2 ^ 10 % 2 ^ 6
 let pend := s.get FLASH.RSRES.PENDING
 let own := s.get FLASH.RSCTL.OWNER
 decide (s.island 26 = 0 ∧ settledB s a = true ∧ a ≠ 0 ∧ validOwner s.split a.toNat = true ∧ v.toNat / 2 ^ 28 = a.toNat ∧ rc ≠ s.get FLASH.RSCTL.REC ∧ pend = 1 ∧ own = a.toNat)) &&
(let s := allSts.getD 3 State.reset
 decide ((s.recs.cmd = none ∨ s.reelFirst = true))) &&
(let s := allSts.getD 0 State.reset
 match s.recs.cmd with
 | some c => (
  decide (s.reelFirst = false ∧ c.rec_ < 48 ∧ Tab.get (fun _ => 0) s.recs.index c.rec_ = 0 ∧ c.cmd = 1))
 | _ => false) &&
(let s := allSts.getD 4 State.reset
 match s.recs.cmd with
 | some c => (
  match s.recs.active with
  | some sec => (
   decide (s.reelFirst = false ∧ s.recs.point < 64 ∧ c.rec_ < 48 ∧ Tab.get (fun _ => 0) s.recs.index c.rec_ = 0 ∧ (c.cmd = 2 ∨ c.cmd = 3) ∧ c.data.length ≤ 15 ∧ (c.cmd = 3 ∧ c.data = [] ∨ c.cmd = 2 ∧ c.data ≠ []) ∧ 384 ≤ sec ∧ sec < 1024))
  | _ => false)
 | _ => false) &&
(let s := allSts.getD 60 State.reset
 let cp : Copy := { rec_ := 3, len := 4, seq := 1023, data := [1, 2, 3, 4] }
 match s.recs.cmd with
 | some c => (
  let a := Tab.get (fun _ => 0) s.recs.index c.rec_
  decide (s.reelFirst = false ∧ cp.len = cp.data.length ∧ 0 < cp.len ∧ cp.len < 16 ∧ cp.seq < 1024 ∧ (∀ w ∈ cp.data, w < 2 ^ 36) ∧ c.rec_ < 48 ∧ cp.rec_ = c.rec_ ∧ c.cmd = 1 ∧ 0 < a ∧ a % 16 = 0 ∧ s.line a = slotWords cp ∧ s.lineErrors a = 0))
 | _ => false)) = true := by decide +kernel
theorem witness_RecordStore_2 : (
(let s := allSts.getD 61 State.reset
 let cp : Copy := { rec_ := 3, len := 4, seq := 1023, data := [1, 2, 3, 4] }
 match s.recs.cmd with
 | some c => (
  let a := Tab.get (fun _ => 0) s.recs.index c.rec_
  match s.recs.active with
  | some sec => (
   decide (s.reelFirst = false ∧ s.recs.point < 64 ∧ cp.len = cp.data.length ∧ 0 < cp.len ∧ cp.len < 16 ∧ cp.seq < 1024 ∧ (∀ w ∈ cp.data, w < 2 ^ 36) ∧ c.rec_ < 48 ∧ cp.rec_ = c.rec_ ∧ c.data.length ≤ 15 ∧ (c.cmd = 3 ∧ c.data = [] ∨ c.cmd = 2 ∧ c.data ≠ []) ∧ 0 < a ∧ a % 16 = 0 ∧ s.line a = slotWords cp ∧ s.lineErrors a = 0 ∧ 384 ≤ sec ∧ sec < 1024))
  | _ => false)
 | _ => false) &&
(let s := allSts.getD 0 State.reset
 decide (s.get FLASH.RSSTAT.STATE ≠ 1)) &&
(let s := allSts.getD 3 State.reset
 decide (s.get FLASH.RSSTAT.STATE = 1 ∧ (∀ e ∈ s.mem, e.1 < 0x460000 ∨ 0x500000 ≤ e.1) ∧ s.marks = [] ∧ s.flash.odd = [] ∧ s.flash.runs = [] ∧ s.flash.torn = [] ∧ s.flash.retired = [] ∧ 608 ≤ s.get FLASH.RSSTAT.USABLE)) &&
(let s := allSts.getD 0 State.reset
 decide ((s.get FLASH.RSSTAT.STATE ≠ 2 ∨ s.flash.eraseFree 3 = false))) &&
(let s := allSts.getD 65 State.reset
 match s.recs.toErase with
 | sec :: rest => (
  decide (s.get FLASH.RSSTAT.STATE = 2 ∧ s.flash.runs = [] ∧ s.flash.copies = [] ∧ s.flash.now = none ∧ s.recs.cmd = none))
 | _ => false) &&
(let s := allSts.getD 21 State.reset
 decide (s.get FLASH.RSSTAT.STATE = 2 ∧ s.recs.toErase = [] ∧ 8 ≤ s.recs.ahead.length))) = true := by decide +kernel
end W16

namespace W17
def st0 (k : Nat) : State :=
  let s := mk [(FLASH.RSSTAT.STATE, k%4), (SEC.WDOG.EN, k%2), (SEC.WDOG.PERIOD, k*100), (SEC.WDSTAT.REM, 5), (ETH.SLSTATE.STATE, 3+k/2%4), (BANKS.OWNER.OWNER 5, 3), (GP.CTRL.EN 3, 1), (GP.SAFE.SAFE 3, 2), (CTU.FCNT.COUNT 5, 77), (CTU.LOGCTL.COUNT, 5), (SEC.BOOTCFG.WDSTART, if k%3=0 then 0 else 250), (SEC.BOOTCFG.DDRAUTO, 1), (BANKS.OWNER.OWNER 0, if k%5=0 then 3 else 0), (PORTS.CUTSTAT.LATCH, if k%7=6 then 1 else 0), (LE.STATUS.STATE 3, 4), (coreStateRef 1, 5)]
  let s := s.wrs 0x01000000 [5,6]
  let s := s.wrs 0x400005 (if k%3=1 then [5,6] else [])
  let s := if k%4 < 3 then s.wrs 0 [0xB07 * 2^24 + 2^16, 0, 5, 0x10, 0x20, 100, 0, 0] else s
  let s := (s.setNow (BitVec.ofNat 64 (10^9))).setTcRun true
  let s := s.setOtp { s.otp with keys := [some 5, none, none, none], arb := 4 }
  let s := s.setImage (0x100, 0x200)
  s.setBoot { s.boot with due := [none, some (false, k%16), some (true, k%16)].getD (k%3) none, att := k/3%7, token := if k%2=0 then some ⟨0, 99, 5⟩ else none, hand := if k%4=3 then none else some ⟨k%2=0, k%5=4, 15-k%14⟩, kick := k/2%2=0 }
def more : List State := let s := st0 2
  let rec_ := s.setBoot { s.boot with due := some (false, 5), att := 3 }
  [s.put (ISL.STAT.STATE 29) 2, { rec_ with mem := [] }, { (s.setBoot { s.boot with due := some (false, 5), att := 1 }) with mem := [] },
    ((s.put FLASH.RSSTAT.STATE 2).setRecs { s.recs with active := some 500, point := 5, cmd := none }), s.setBoot { s.boot with due := some (true, 11), black := true }]
def allSts : List State := (((List.range 28) ++ [43]).map st0) ++ more
theorem witness_ColdStarts : (
(let s := allSts.getD 0 State.reset
 let d : StartIn := { cores := 0x0e#8, engines := 0xfffff7#24, ddr := true, weak := false, trng := true, otp := true, tj := 0x0c8#12, vio := [0x0ce4#13, 0x0dac#13, 0x0e74#13, 0x0f3c#13, 0x1004#13, 0x10cc#13, 0x1194#13, 0x125c#13, 0x1324#13, 0x13ec#13, 0x14b4#13, 0x157c#13] }
 decide (d.vio.length = 12 ∧ s.boot.due.map (fun d => d.1) ≠ some false)) &&
(let s := allSts.getD 1 State.reset
 let d : StartIn := { cores := 0x0e#8, engines := 0xfffff7#24, ddr := true, weak := false, trng := true, otp := true, tj := 0x0c8#12, vio := [0x0ce4#13, 0x0dac#13, 0x0e74#13, 0x0f3c#13, 0x1004#13, 0x10cc#13, 0x1194#13, 0x125c#13, 0x1324#13, 0x13ec#13, 0x14b4#13, 0x157c#13] }
 match s.boot.due with
 | some (z41_, c) => (
  decide (s.flash.wipe = false ∧ s.boot.att < 16 ∧ d.vio.length = 12 ∧ z41_ = false ∧ c < 16))
 | _ => false) &&
(let s := allSts.getD 13 State.reset
 let d : StartIn := { cores := 0x0e#8, engines := 0xfffff7#24, ddr := true, weak := false, trng := true, otp := true, tj := 0x0c8#12, vio := [0x0ce4#13, 0x0dac#13, 0x0e74#13, 0x0f3c#13, 0x1004#13, 0x10cc#13, 0x1194#13, 0x125c#13, 0x1324#13, 0x13ec#13, 0x14b4#13, 0x157c#13] }
 match s.boot.due with
 | some (z41_, c) => (
  let att := min 15 (s.boot.att + 1)
  decide (s.flash.wipe = false ∧ s.boot.att < 16 ∧ d.vio.length = 12 ∧ z41_ = false ∧ c < 16 ∧ 5 ≤ att))
 | _ => false) &&
(let s := allSts.getD 28 State.reset
 let d : StartIn := { cores := 0x0e#8, engines := 0xfffff7#24, ddr := true, weak := false, trng := true, otp := true, tj := 0x0c8#12, vio := [0x0ce4#13, 0x0dac#13, 0x0e74#13, 0x0f3c#13, 0x1004#13, 0x10cc#13, 0x1194#13, 0x125c#13, 0x1324#13, 0x13ec#13, 0x14b4#13, 0x157c#13] }
 match s.boot.due with
 | some (z41_, c) => (
  let att := min 15 (s.boot.att + 1)
  decide (s.flash.wipe = false ∧ s.boot.att < 16 ∧ s.flash.runs = [] ∧ s.flash.prog = none ∧ s.recs.cmd = none ∧ s.flash.torn = [] ∧ (∀ e ∈ s.mem, 0x3E0000 ≤ e.1) ∧ d.vio.length = 12 ∧ z41_ = false ∧ c < 16 ∧ c ≠ 7 ∧ att < 4))
 | _ => false) &&
(let s := allSts.getD 31 State.reset
 let d : StartIn := { cores := 0x0e#8, engines := 0xfffff7#24, ddr := true, weak := false, trng := true, otp := true, tj := 0x0c8#12, vio := [0x0ce4#13, 0x0dac#13, 0x0e74#13, 0x0f3c#13, 0x1004#13, 0x10cc#13, 0x1194#13, 0x125c#13, 0x1324#13, 0x13ec#13, 0x14b4#13, 0x157c#13] }
 match s.boot.due with
 | some (z41_, c) => (
  let att := min 15 (s.boot.att + 1)
  decide (s.flash.wipe = false ∧ s.boot.att < 16 ∧ s.flash.runs = [] ∧ s.flash.prog = none ∧ s.recs.cmd = none ∧ s.flash.torn = [] ∧ s.flash.retired = [] ∧ s.flash.odd = [] ∧ s.marks = [] ∧ (∀ e ∈ s.mem, e.1 < 0x460000) ∧ d.vio.length = 12 ∧ z41_ = false ∧ c < 16 ∧ c ≠ 7 ∧ att < 3))
 | _ => false) &&
(let s := allSts.getD 30 State.reset
 let d : StartIn := { cores := 0x0e#8, engines := 0xfffff7#24, ddr := true, weak := false, trng := true, otp := true, tj := 0x0c8#12, vio := [0x0ce4#13, 0x0dac#13, 0x0e74#13, 0x0f3c#13, 0x1004#13, 0x10cc#13, 0x1194#13, 0x125c#13, 0x1324#13, 0x13ec#13, 0x14b4#13, 0x157c#13] }
 match s.boot.due with
 | some (z41_, c) => (
  let att := min 15 (s.boot.att + 1)
  decide (s.flash.wipe = false ∧ s.boot.att < 16 ∧ s.flash.runs = [] ∧ s.flash.prog = none ∧ s.recs.cmd = none ∧ s.flash.torn = [] ∧ (∀ e ∈ s.mem, 0x400000 ≤ e.1) ∧ d.vio.length = 12 ∧ z41_ = false ∧ c < 16 ∧ c ≠ 7 ∧ att = 4))
 | _ => false)) = true := by decide +kernel
theorem witness_WarmStarts : (
(let s := allSts.getD 0 State.reset
 let d : StartIn := { cores := 0x0e#8, engines := 0xfffff7#24, ddr := true, weak := false, trng := true, otp := true, tj := 0x0c8#12, vio := [0x0ce4#13, 0x0dac#13, 0x0e74#13, 0x0f3c#13, 0x1004#13, 0x10cc#13, 0x1194#13, 0x125c#13, 0x1324#13, 0x13ec#13, 0x14b4#13, 0x157c#13] }
 decide (d.vio.length = 12 ∧ s.boot.due.map (fun d => d.1) ≠ some true)) &&
(let s := allSts.getD 2 State.reset
 let d : StartIn := { cores := 0x0e#8, engines := 0xfffff7#24, ddr := true, weak := false, trng := true, otp := true, tj := 0x0c8#12, vio := [0x0ce4#13, 0x0dac#13, 0x0e74#13, 0x0f3c#13, 0x1004#13, 0x10cc#13, 0x1194#13, 0x125c#13, 0x1324#13, 0x13ec#13, 0x14b4#13, 0x157c#13] }
 match s.boot.due with
 | some (z41_, c) => (
  decide (s.flash.wipe = false ∧ s.boot.att < 16 ∧ s.flash.runs = [] ∧ s.flash.prog = none ∧ s.recs.cmd = none ∧ s.boot.black = false ∧ d.vio.length = 12 ∧ z41_ = true ∧ c < 16 ∧ c ≠ 11 ∧ c ≠ 7))
 | _ => false) &&
(let s := allSts.getD 2 State.reset
 let d : StartIn := { cores := 0x0e#8, engines := 0xfffff7#24, ddr := true, weak := false, trng := true, otp := true, tj := 0x0c8#12, vio := [0x0ce4#13, 0x0dac#13, 0x0e74#13, 0x0f3c#13, 0x1004#13, 0x10cc#13, 0x1194#13, 0x125c#13, 0x1324#13, 0x13ec#13, 0x14b4#13, 0x157c#13] }
 match s.boot.due with
 | some (z41_, c) => (
  let att := min 15 (s.boot.att + 1)
  match s.boot.token with
  | some k => (
   decide (s.flash.wipe = false ∧ s.boot.att < 16 ∧ s.flash.runs = [] ∧ s.flash.prog = none ∧ s.recs.cmd = none ∧ s.boot.black = false ∧ s.marks = [] ∧ s.flash.torn = [] ∧ (∀ e ∈ s.mem, e.1 < 0x460000 ∨ 0x500000 ≤ e.1) ∧ s.imageReason 0 false = none ∧ s.hdr 0 6 0 1 = 0 ∧ d.vio.length = 12 ∧ z41_ = true ∧ c < 16 ∧ c ≠ 11 ∧ c ≠ 7 ∧ att < 3 ∧ k.region = 0))
  | _ => false)
 | _ => false) &&
(let s := allSts.getD 33 State.reset
 let d : StartIn := { cores := 0x0e#8, engines := 0xfffff7#24, ddr := true, weak := false, trng := true, otp := true, tj := 0x0c8#12, vio := [0x0ce4#13, 0x0dac#13, 0x0e74#13, 0x0f3c#13, 0x1004#13, 0x10cc#13, 0x1194#13, 0x125c#13, 0x1324#13, 0x13ec#13, 0x14b4#13, 0x157c#13] }
 match s.boot.due with
 | some (z41_, c) => (
  decide (s.flash.wipe = false ∧ s.boot.black = true ∧ d.vio.length = 12 ∧ z41_ = true ∧ c < 16 ∧ c ≠ 7))
 | _ => false)) = true := by decide +kernel
theorem witness_StartRest : (
(let s := allSts.getD 3 State.reset
 let a : Owner := 0x12#8
 decide (s.boot.hand = none ∧ settledB s a = true)) &&
(let s := allSts.getD 0 State.reset
 let a : Owner := 0x12#8
 match s.boot.hand with
 | some h => (
  let c : Fin 4 := 0
  decide (s.get PORTS.CUTSTAT.LATCH = 0 ∧ s.get SEC.WDSTAT.REM < 2 ^ 16 ∧ settledB s a = true ∧ h.cores / 2 ^ c.val % 2 = 1 ∧ (∀ k < c.val, h.cores / 2 ^ k % 2 = 0)))
 | _ => false) &&
(let s := allSts.getD 0 State.reset
 let a : Owner := 0x12#8
 decide (s.island 29 = 0 ∧ settledB s a = true)) &&
(let s := allSts.getD 29 State.reset
 let a : Owner := 0x12#8
 decide (2 ≤ s.island 29 ∧ settledB s a = true)) &&
(let s := allSts.getD 0 State.reset
 let a : Owner := 0x12#8
 let v : Word := 0x0000005a5#36
 decide (s.island 29 = 0 ∧ settledB s a = true ∧ v.toNat % 2 ^ 12 = 0x5A5)) &&
(let s := allSts.getD 1 State.reset
 let a : Owner := 0x12#8
 let v : Word := 0x000000a5a#36
 decide (s.island 29 = 0 ∧ s.boot.kick = true ∧ s.get SEC.WDOG.EN = 1 ∧ settledB s a = true ∧ v.toNat % 2 ^ 12 = 0xA5A)) &&
(let s := allSts.getD 0 State.reset
 let a : Owner := 0x12#8
 let v : Word := 0x212345670#36
 decide (s.island 29 = 0 ∧ settledB s a = true ∧ v.toNat % 2 ^ 12 ≠ 0x5A5 ∧ (s.boot.kick = false ∨ v.toNat % 2 ^ 12 ≠ 0xA5A))) &&
(let s := allSts.getD 0 State.reset
 let a : Owner := 0x12#8
 decide ((s.get SEC.WDOG.EN = 0 ∨ s.get ETH.SLSTATE.STATE = 6 ∨ s.heldInReset = true) ∧ settledB s a = true)) &&
(let s := allSts.getD 3 State.reset
 let a : Owner := 0x12#8
 decide (s.get SEC.WDOG.EN = 1 ∧ s.get ETH.SLSTATE.STATE < 6 ∧ s.heldInReset = false ∧ s.boot.due = none ∧ s.boot.hand = none ∧ s.get SEC.WDOG.PERIOD < 2 ^ 16 ∧ settledB s a = true)) &&
(let s := allSts.getD 0 State.reset
 let a : Owner := 0x12#8
 decide (s.island 29 = 0 ∧ settledB s a = true ∧ a.toNat ≠ 0x40)) &&
(let s := allSts.getD 0 State.reset
 let a : Owner := 0x40#8
 decide (s.island 29 = 0 ∧ s.get FLASH.RSSTAT.STATE ≠ 2 ∧ settledB s a = true ∧ a.toNat = 0x40)) &&
(let s := allSts.getD 32 State.reset
 let a : Owner := 0x40#8
 match s.recs.active with
 | some sec => (
  decide (s.island 29 = 0 ∧ s.get FLASH.RSSTAT.STATE = 2 ∧ s.recs.cmd = none ∧ Tab.get (fun _ => 0) s.recs.index 61 = 0 ∧ s.recs.point < 64 ∧ settledB s a = true ∧ a.toNat = 0x40 ∧ 384 ≤ sec ∧ sec < 1024))
 | _ => false)) = true := by decide +kernel
end W17

namespace W18
def st0 (k : Nat) : State :=
  let s := mk [(SEC.IMG.SECVER, k%5+1), (BANKS.OWNER.OWNER 5, 0x43), (SEC.STATUS.TRNGOK, k/2%2), (DBG.STATUS.FAILS, k%4), (DBG.STATUS.LOCKOUT, if k%5=4 then 1 else 0), (DBG.RES.PENDING, if k%3=2 then 1 else 0), (DBG.RESPCNT.COUNT, if k%4=0 then 1805 else k), (DBG.STATUS.UNLOCKED, k/2%2), (PORTS.CUTSTAT.LATCH, k/3%2), (SEC.OTPSTAGE.W 3, 77)]
  let s := s.setOtp { s.otp with keys := [some 5, if k/4%2=0 then some 6 else none, none, none], arb := 3, revoked := if k%3=0 then [1] else [], host := if k%5=0 then some 3 else none, dbg := if k%7=0 then some 9 else none, seq := k/3%2, l2 := k%11=10 }
  let s := s.setBoot { s.boot with region := some 0, recov := k%13=12 }
  let s := s.wrs 0x01014000 ((List.range 60).map rnd)
  let op := k%11
  let ws := [op * 2^32 + (if k%9=8 then 3 else 9), 0x01014000, 20+k, 0x01015000, if k%17=16 then 30 else 5000, 0x01014020, if k%19=18 then 5 else 4627, 0]
  s.setSec { s.sec with otpCmd := if k%4=3 then none else some (1+k%5, k%16), queue := if k%23=22 then [] else [(k, ws), (7, [])], fresh := k%4=0, handles := if k%2=0 then [(9, 12345)] else [], done := if k/11%4=3 then some (4,7) else none, words := [1,2] }
def allSts : List State := (List.range 220).map st0 ++ [(st0 0).put (ISL.STAT.STATE 26) 2]
theorem witness_Fuses : (
(let s := W16.allSts.getD 0 State.reset
 let a : Owner := 0x12#8
 decide (s.island 26 = 0 ∧ settledB s a = true ∧ a.toNat ≠ 0x40)) &&
(let s := W16.allSts.getD 0 State.reset
 let a : Owner := 0x40#8
 decide (s.island 26 = 0 ∧ s.flash.wipe = true ∧ settledB s a = true ∧ a.toNat = 0x40)) &&
(let s := W16.allSts.getD 1 State.reset
 let a : Owner := 0x40#8
 let l := s.otp.level
 let left := 16 - s.otp.seq
 decide (s.island 26 = 0 ∧ s.flash.wipe = false ∧ s.otp.seq ≤ 16 ∧ boundaryB s = true ∧ settledB s a = true ∧ a.toNat = 0x40 ∧ l = 0 ∧ 0 < left)) &&
(let s := W16.allSts.getD 7 State.reset
 let a : Owner := 0x40#8
 let l := s.otp.level
 let left := 16 - s.otp.seq
 decide (s.island 26 = 0 ∧ s.flash.wipe = false ∧ s.otp.seq ≤ 16 ∧ boundaryB s = true ∧ settledB s a = true ∧ a.toNat = 0x40 ∧ l = 0 ∧ left = 0)) &&
(let s := W16.allSts.getD 2 State.reset
 let a : Owner := 0x40#8
 let l := s.otp.level
 decide (s.island 26 = 0 ∧ s.flash.wipe = false ∧ s.otp.seq ≤ 16 ∧ boundaryB s = true ∧ settledB s a = true ∧ a.toNat = 0x40 ∧ l ≠ 0)) &&
(let s := W16.allSts.getD 1 State.reset
 let a : Owner := 0x40#8
 let l := s.otp.level
 decide (s.island 26 = 0 ∧ s.flash.wipe = false ∧ s.otp.seq ≤ 16 ∧ boundaryB s = true ∧ settledB s a = true ∧ a.toNat = 0x40 ∧ l < 2)) &&
(let s := W16.allSts.getD 13 State.reset
 let a : Owner := 0x40#8
 let l := s.otp.level
 decide (s.island 26 = 0 ∧ s.flash.wipe = false ∧ s.otp.seq ≤ 16 ∧ boundaryB s = true ∧ settledB s a = true ∧ a.toNat = 0x40 ∧ 2 ≤ l)) &&
(let s := W16.allSts.getD 1 State.reset
 let a : Owner := 0x40#8
 let l := s.otp.level
 decide (s.island 26 = 0 ∧ s.flash.wipe = false ∧ s.otp.seq ≤ 16 ∧ boundaryB s = true ∧ settledB s a = true ∧ a.toNat = 0x40 ∧ l ≠ 1)) &&
(let s := W16.allSts.getD 2 State.reset
 let a : Owner := 0x40#8
 let l := s.otp.level
 let left := 16 - s.otp.seq
 decide (s.island 26 = 0 ∧ s.flash.wipe = false ∧ s.otp.seq ≤ 16 ∧ boundaryB s = true ∧ settledB s a = true ∧ a.toNat = 0x40 ∧ l = 1 ∧ 0 < left)) &&
(let s := W16.allSts.getD 3 State.reset
 let a : Owner := 0x12#8
 decide (s.island 26 = 0 ∧ s.flash.wipe = true ∧ s.get FLASH.RDPRES.WIPE = 1 ∧ boundaryB s = true ∧ s.otp.seq < 16 ∧ s.otp.l2 = false ∧ s.otp.seq % 2 = 1 ∧ settledB s a = true)) &&
(let s := W16.allSts.getD 1 State.reset
 let a : Owner := 0x12#8
 decide (s.island 26 = 0 ∧ s.flash.wipe = false ∧ settledB s a = true)) &&
(let s := W16.allSts.getD 63 State.reset
 let a : Owner := 0x12#8
 decide (2 ≤ s.island 26 ∧ settledB s a = true)) &&
(let s := W16.allSts.getD 0 State.reset
 let a : Owner := 0x12#8
 decide (s.island 29 = 0 ∧ settledB s a = true ∧ a.toNat ≠ 0x40)) &&
(let s := allSts.getD 0 State.reset
 let a : Owner := 0x40#8
 decide (s.island 29 = 0 ∧ s.sec.otpCmd ≠ none ∧ settledB s a = true ∧ a.toNat = 0x40))) = true := by decide +kernel
theorem witness_Fuses_2 : (
(let s := allSts.getD 3 State.reset
 let a : Owner := 0x40#8
 decide (s.island 29 = 0 ∧ s.sec.otpCmd = none ∧ s.otp.arb < min 64 (s.get SEC.IMG.SECVER) ∧ s.boot.recov = false ∧ s.boot.region ≠ none ∧ settledB s a = true ∧ a.toNat = 0x40)) &&
(let s := W16.allSts.getD 0 State.reset
 let a : Owner := 0x40#8
 decide (s.island 29 = 0 ∧ s.sec.otpCmd = none ∧ min 64 (s.get SEC.IMG.SECVER) ≤ s.otp.arb ∧ settledB s a = true ∧ a.toNat = 0x40)) &&
(let s := W16.allSts.getD 0 State.reset
 let a : Owner := 0x40#8
 let arg : BitVec 4 := 0x0#4
 let k := arg.toNat % 4
 let key (j : Nat) : Bool := (s.otp.keys.getD j none).isSome
 decide (s.island 29 = 0 ∧ s.sec.otpCmd = none ∧ settledB s a = true ∧ a.toNat = 0x40 ∧ key k = false)) &&
(let s := allSts.getD 3 State.reset
 let a : Owner := 0x40#8
 let arg : BitVec 4 := 0x0#4
 let k := arg.toNat % 4
 let key (j : Nat) : Bool := (s.otp.keys.getD j none).isSome
 decide (s.island 29 = 0 ∧ s.sec.otpCmd = none ∧ settledB s a = true ∧ a.toNat = 0x40 ∧ key k = true ∧ (∀ j : Fin 4, j = k ∨ key j = false ∨ s.otp.revoked.contains j.val = true))) &&
(let s := allSts.getD 3 State.reset
 let a : Owner := 0x40#8
 let arg : BitVec 4 := 0x1#4
 let k := arg.toNat % 4
 let key (j : Nat) : Bool := (s.otp.keys.getD j none).isSome
 let j : Fin 4 := 0
 decide (s.island 29 = 0 ∧ s.sec.otpCmd = none ∧ settledB s a = true ∧ a.toNat = 0x40 ∧ key k = true ∧ j ≠ k ∧ key j = true ∧ s.otp.revoked.contains j.val = false)) &&
(let s := allSts.getD 3 State.reset
 let a : Owner := 0x40#8
 let arg : BitVec 4 := 0x0#4
 let k := arg.toNat % 4
 let key (j : Nat) : Bool := (s.otp.keys.getD j none).isSome
 decide (s.island 29 = 0 ∧ s.sec.otpCmd = none ∧ settledB s a = true ∧ a.toNat = 0x40 ∧ key k = true)) &&
(let s := W16.allSts.getD 0 State.reset
 let a : Owner := 0x40#8
 let arg : BitVec 4 := 0x0#4
 let k := arg.toNat % 4
 let key (j : Nat) : Bool := (s.otp.keys.getD j none).isSome
 decide (s.island 29 = 0 ∧ s.sec.otpCmd = none ∧ settledB s a = true ∧ a.toNat = 0x40 ∧ s.otp.revoked.contains k = false ∧ key k = false)) &&
(let s := W16.allSts.getD 0 State.reset
 let a : Owner := 0x40#8
 decide (s.island 29 = 0 ∧ s.sec.otpCmd = none ∧ s.otp.host = none ∧ settledB s a = true ∧ a.toNat = 0x40)) &&
(let s := allSts.getD 15 State.reset
 let a : Owner := 0x40#8
 decide (s.island 29 = 0 ∧ s.sec.otpCmd = none ∧ s.otp.host ≠ none ∧ settledB s a = true ∧ a.toNat = 0x40)) &&
(let s := W16.allSts.getD 0 State.reset
 let a : Owner := 0x40#8
 decide (s.island 29 = 0 ∧ s.sec.otpCmd = none ∧ s.otp.dbg = none ∧ settledB s a = true ∧ a.toNat = 0x40)) &&
(let s := allSts.getD 7 State.reset
 let a : Owner := 0x40#8
 decide (s.island 29 = 0 ∧ s.sec.otpCmd = none ∧ s.otp.dbg ≠ none ∧ settledB s a = true ∧ a.toNat = 0x40)) &&
(let s := W16.allSts.getD 0 State.reset
 let a : Owner := 0x12#8
 decide (s.island 29 = 0 ∧ s.sec.otpCmd = none ∧ settledB s a = true)) &&
(let s := allSts.getD 0 State.reset
 let a : Owner := 0x12#8
 match s.sec.otpCmd with
 | some c => (
  decide (s.island 29 = 0 ∧ settledB s a = true ∧ c.2 < 16))
 | _ => false)) = true := by decide +kernel
theorem witness_SecurityRequests : (
(let s := allSts.getD 22 State.reset
 decide (s.sec.queue = [])) &&
(let s := allSts.getD 0 State.reset
 match s.sec.queue with
 | h :: rest => (
  let q := reqOf h.2
  decide (s.marks = [] ∧ s.sec.done = none ∧ q.op ≠ 1))
 | _ => false) &&
(let s := allSts.getD 1 State.reset
 match s.sec.queue with
 | h :: rest => (
  let q := reqOf h.2
  let mine (x n : Nat) : Bool := decide ((bankOf? x).any (fun b => decide (b < 64 ∧ bankOf? (x + n) = some b ∧ s.get (BANKS.OWNER.OWNER b) = 0x43 ∧ s.get (BANKS.STATUS.RED b) = 0)) = true)
  decide (s.marks = [] ∧ s.sec.done = none ∧ q.op = 1 ∧ 64 ≤ q.dlen ∧ mine q.src q.slen ∧ mine q.dst 16))
 | _ => false) &&
(let s := allSts.getD 67 State.reset
 match s.sec.queue with
 | h :: rest => (
  let q := reqOf h.2
  let mine (x n : Nat) : Bool := decide ((bankOf? x).any (fun b => decide (b < 64 ∧ bankOf? (x + n) = some b ∧ s.get (BANKS.OWNER.OWNER b) = 0x43 ∧ s.get (BANKS.STATUS.RED b) = 0)) = true)
  decide (s.marks = [] ∧ s.sec.done = none ∧ q.op = 1 ∧ q.dlen < 64 ∧ mine q.src q.slen))
 | _ => false) &&
(let s := allSts.getD 2 State.reset
 match s.sec.queue with
 | h :: rest => (
  let q := reqOf h.2
  let mine (x n : Nat) : Bool := decide ((bankOf? x).any (fun b => decide (b < 64 ∧ bankOf? (x + n) = some b ∧ s.get (BANKS.OWNER.OWNER b) = 0x43 ∧ s.get (BANKS.STATUS.RED b) = 0)) = true)
  decide (s.marks = [] ∧ s.sec.done = none ∧ q.op = 2 ∧ 64 ≤ q.dlen ∧ mine q.src q.slen ∧ mine q.dst 16))
 | _ => false) &&
(let s := allSts.getD 3 State.reset
 match s.sec.queue with
 | h :: rest => (
  let q := reqOf h.2
  let mine (x n : Nat) : Bool := decide ((bankOf? x).any (fun b => decide (b < 64 ∧ bankOf? (x + n) = some b ∧ s.get (BANKS.OWNER.OWNER b) = 0x43 ∧ s.get (BANKS.STATUS.RED b) = 0)) = true)
  decide (s.marks = [] ∧ s.sec.done = none ∧ q.op = 3 ∧ 2592 ≤ q.dlen ∧ mine q.dst 648 ∧ mine q.src q.slen ∧ mine q.aux q.alen))
 | _ => false) &&
(let s := allSts.getD 4 State.reset
 match s.sec.queue with
 | h :: rest => (
  let q := reqOf h.2
  decide (s.marks = [] ∧ s.sec.done = none ∧ s.get SEC.STATUS.TRNGOK = 0 ∧ q.op = 4))
 | _ => false) &&
(let s := allSts.getD 15 State.reset
 match s.sec.queue with
 | h :: rest => (
  let q := reqOf h.2
  let mine (x n : Nat) : Bool := decide ((bankOf? x).any (fun b => decide (b < 64 ∧ bankOf? (x + n) = some b ∧ s.get (BANKS.OWNER.OWNER b) = 0x43 ∧ s.get (BANKS.STATUS.RED b) = 0)) = true)
  decide (s.marks = [] ∧ s.sec.done = none ∧ s.get SEC.STATUS.TRNGOK = 1 ∧ q.op = 4 ∧ 4627 ≤ q.dlen ∧ mine q.src q.slen ∧ mine q.dst 1157))
 | _ => false) &&
(let s := allSts.getD 5 State.reset
 match s.sec.queue with
 | h :: rest => (
  let q := reqOf h.2
  decide (s.marks = [] ∧ s.sec.done = none ∧ s.get SEC.STATUS.TRNGOK = 0 ∧ q.op = 5))
 | _ => false) &&
(let s := allSts.getD 27 State.reset
 match s.sec.queue with
 | h :: rest => (
  let q := reqOf h.2
  let mine (x n : Nat) : Bool := decide ((bankOf? x).any (fun b => decide (b < 64 ∧ bankOf? (x + n) = some b ∧ s.get (BANKS.OWNER.OWNER b) = 0x43 ∧ s.get (BANKS.STATUS.RED b) = 0)) = true)
  decide (s.marks = [] ∧ s.sec.done = none ∧ s.get SEC.STATUS.TRNGOK = 1 ∧ q.op = 5 ∧ q.slen ≤ q.dlen ∧ mine q.dst q.slen))
 | _ => false) &&
(let s := allSts.getD 6 State.reset
 match s.sec.queue with
 | h :: rest => (
  let q := reqOf h.2
  let mine (x n : Nat) : Bool := decide ((bankOf? x).any (fun b => decide (b < 64 ∧ bankOf? (x + n) = some b ∧ s.get (BANKS.OWNER.OWNER b) = 0x43 ∧ s.get (BANKS.STATUS.RED b) = 0)) = true)
  decide (s.marks = [] ∧ s.sec.done = none ∧ q.op = 6 ∧ 8 ≤ q.key ∧ mine q.src 8))
 | _ => false) &&
(let s := allSts.getD 17 State.reset
 match s.sec.queue with
 | h :: rest => (
  let q := reqOf h.2
  decide (s.marks = [] ∧ s.sec.done = none ∧ q.op = 6 ∧ q.key < 8))
 | _ => false) &&
(let s := allSts.getD 7 State.reset
 match s.sec.queue with
 | h :: rest => (
  let q := reqOf h.2
  decide (s.marks = [] ∧ s.sec.done = none ∧ q.op = 7 ∧ s.handle q.key = none))
 | _ => false) &&
(let s := allSts.getD 8 State.reset
 match s.sec.queue with
 | h :: rest => (
  let q := reqOf h.2
  decide (s.marks = [] ∧ s.sec.done = none ∧ q.op = 8 ∧ s.handle q.key = none))
 | _ => false)) = true := by decide +kernel
theorem witness_SecurityRequests_2 : (
(let s := allSts.getD 18 State.reset
 match s.sec.queue with
 | h :: rest => (
  let q := reqOf h.2
  let mine (x n : Nat) : Bool := decide ((bankOf? x).any (fun b => decide (b < 64 ∧ bankOf? (x + n) = some b ∧ s.get (BANKS.OWNER.OWNER b) = 0x43 ∧ s.get (BANKS.STATUS.RED b) = 0)) = true)
  match s.handle q.key with
  | some key => (
   decide (s.marks = [] ∧ s.sec.done = none ∧ q.op = 7 ∧ q.slen + 16 ≤ q.dlen ∧ mine q.aux 3 ∧ mine q.src q.slen ∧ mine q.dst (q.slen + 16)))
  | _ => false)
 | _ => false) &&
(let s := allSts.getD 30 State.reset
 match s.sec.queue with
 | h :: rest => (
  let q := reqOf h.2
  let mine (x n : Nat) : Bool := decide ((bankOf? x).any (fun b => decide (b < 64 ∧ bankOf? (x + n) = some b ∧ s.get (BANKS.OWNER.OWNER b) = 0x43 ∧ s.get (BANKS.STATUS.RED b) = 0)) = true)
  match s.handle q.key with
  | some key => (
   decide (s.marks = [] ∧ s.sec.done = none ∧ q.op = 8 ∧ 16 ≤ q.slen ∧ q.slen ≤ q.dlen + 16 ∧ mine q.aux 3 ∧ mine q.src q.slen ∧ mine q.dst (q.slen + 16)))
  | _ => false)
 | _ => false) &&
(let s := allSts.getD 1 State.reset
 match s.sec.queue with
 | h :: rest => (
  let q := reqOf h.2
  decide (s.marks = [] ∧ s.sec.done = none ∧ 1 ≤ q.op ∧ q.op ≤ 8))
 | _ => false) &&
(let s := allSts.getD 0 State.reset
 match s.sec.queue with
 | h :: rest => (
  let q := reqOf h.2
  decide (s.marks = [] ∧ s.sec.done = none ∧ rest.length < 8 ∧ (q.op = 0 ∨ 8 < q.op)))
 | _ => false) &&
(let s := allSts.getD 33 State.reset
 match s.sec.queue with
 | h :: rest => (
  match s.sec.done with
  | some r => (
   decide (s.marks = [] ∧ rest.length < 8))
  | _ => false)
 | _ => false)) = true := by decide +kernel
theorem witness_DebugAgent : (
(let s := allSts.getD 220 State.reset
 let a : Owner := 0x40#8
 decide (2 ≤ s.island 26 ∧ settledB s a = true)) &&
(let s := allSts.getD 0 State.reset
 let a : Owner := 0x40#8
 decide (s.island 26 = 0 ∧ settledB s a = true ∧ a.toNat ≠ 0x44)) &&
(let s := allSts.getD 2 State.reset
 let a : Owner := 0x44#8
 decide (s.island 26 = 0 ∧ s.get DBG.RES.PENDING = 1 ∧ settledB s a = true ∧ a.toNat = 0x44)) &&
(let s := allSts.getD 0 State.reset
 let a : Owner := 0x44#8
 decide (s.island 26 = 0 ∧ s.get DBG.RES.PENDING = 0 ∧ boundaryB s = true ∧ settledB s a = true ∧ a.toNat = 0x44)) &&
(let s := allSts.getD 4 State.reset
 let a : Owner := 0x44#8
 decide (s.island 26 = 0 ∧ s.get DBG.RES.PENDING = 0 ∧ boundaryB s = true ∧ (s.otp.level = 2 ∨ s.get DBG.STATUS.LOCKOUT = 1) ∧ settledB s a = true ∧ a.toNat = 0x44)) &&
(let s := allSts.getD 1 State.reset
 let a : Owner := 0x44#8
 decide (s.island 26 = 0 ∧ s.get DBG.RES.PENDING = 0 ∧ boundaryB s = true ∧ s.otp.level ≠ 2 ∧ s.get DBG.STATUS.LOCKOUT = 0 ∧ (s.sec.fresh = false ∨ s.get DBG.RESPCNT.COUNT ≠ 1805) ∧ settledB s a = true ∧ a.toNat = 0x44)) &&
(let s := allSts.getD 0 State.reset
 let a : Owner := 0x44#8
 decide (s.island 26 = 0 ∧ s.get DBG.RES.PENDING = 0 ∧ boundaryB s = true ∧ s.otp.level ≠ 2 ∧ s.get DBG.STATUS.LOCKOUT = 0 ∧ s.sec.fresh = true ∧ s.get DBG.RESPCNT.COUNT = 1805 ∧ settledB s a = true ∧ a.toNat = 0x44)) &&
(let s := allSts.getD 0 State.reset
 let a : Owner := 0x44#8
 decide (s.island 26 = 0 ∧ s.sec.words.length < 1805 ∧ settledB s a = true ∧ a.toNat = 0x44)) &&
(let s := allSts.getD 4 State.reset
 let a : Owner := 0x44#8
 decide (s.island 26 = 0 ∧ s.debugOpen = false ∧ settledB s a = true ∧ a.toNat = 0x44)) &&
(let s := allSts.getD 0 State.reset
 let a : Owner := 0x44#8
 let v : Word := 0x000000005#36
 decide (s.island 26 = 0 ∧ s.debugOpen = true ∧ boundaryB s = true ∧ settledB s a = true ∧ a.toNat = 0x44 ∧ v.toNat / 2 ^ 8 = 0)) &&
(let s := allSts.getD 0 State.reset
 let a : Owner := 0x44#8
 let v : Word := 0x000000005#36
 decide (s.island 26 = 0 ∧ s.debugOpen = true ∧ settledB s a = true ∧ a.toNat = 0x44 ∧ v.toNat / 2 ^ 8 = 0)) &&
(let s := allSts.getD 0 State.reset
 let a : Owner := 0x44#8
 let v : Word := 0x000000101#36
 let c : Fin 4 := 0
 decide (s.island 26 = 0 ∧ s.debugOpen = true ∧ s.split = false ∧ boundaryB s = true ∧ settledB s a = true ∧ a.toNat = 0x44 ∧ v.toNat / 2 ^ c.val % 2 = 1 ∧ v.toNat / 2 ^ (8 + c.val) % 2 = 1)) &&
(let s := allSts.getD 0 State.reset
 let a : Owner := 0x40#8
 decide (s.get DBG.RES.PENDING = 0 ∧ settledB s a = true)) &&
(let s := allSts.getD 2 State.reset
 let a : Owner := 0x40#8
 decide (s.get DBG.RES.PENDING = 1 ∧ boundaryB s = true ∧ settledB s a = true))) = true := by decide +kernel
theorem witness_DebugAgent_2 : (
(let s := allSts.getD 3 State.reset
 let a : Owner := 0x40#8
 decide (s.get PORTS.CUTSTAT.LATCH = 1 ∧ s.debugOpen = true ∧ settledB s a = true)) &&
(let s := allSts.getD 0 State.reset
 let a : Owner := 0x40#8
 decide ((s.get PORTS.CUTSTAT.LATCH = 0 ∨ s.debugOpen = false) ∧ settledB s a = true)) &&
(let s := allSts.getD 0 State.reset
 let a : Owner := 0x40#8
 decide (settledB s a = true))) = true := by decide +kernel
end W18

namespace W20
def allSts : List State := [coreSt 7 0, coreSt 2 3]
theorem witness_Sums : (
(let s := allSts.getD 0 State.reset
 let c : Fin 8 := 2
 decide (readyB s c 1 = true)) &&
(let s := allSts.getD 0 State.reset
 let c : Fin 8 := 2
 decide (readyB s c 1 = true ∧ readyB s c 2 = true)) &&
(let s := allSts.getD 0 State.reset
 let c : Fin 8 := 2
 let d : Fin 32 := 0
 let a : Fin 32 := 0
 let b : Fin 32 := 0
 decide (readyB s c 1 = true ∧ d.val % 2 = 0 ∧ a.val % 2 = 0 ∧ b.val % 2 = 0)) &&
(let s := allSts.getD 0 State.reset
 let c : Fin 8 := 2
 let a : Fin 32 := 3
 decide (readyB s c 1 = true ∧ (s.core c).level < 7 ∧ a.val % 2 = 1))) = true := by decide +kernel
theorem witness_LogicAndShifts : (
(let s := allSts.getD 0 State.reset
 let c : Fin 8 := 2
 decide (readyB s c 1 = true)) &&
(let s := allSts.getD 0 State.reset
 let c : Fin 8 := 2
 let a : Fin 32 := 0
 let x := s.reg c a
 let k : Fin 37 := 36
 decide (readyB s c 1 = true ∧ x < 2 ^ (36 - k.val) ∧ (k.val < 36 → 2 ^ (35 - k.val) ≤ x))) &&
(let s := allSts.getD 0 State.reset
 let c : Fin 8 := 2
 let k : BitVec 6 := 0x00#6
 decide (readyB s c 1 = true ∧ k.toNat % 16 ≠ 15)) &&
(let s := allSts.getD 0 State.reset
 let c : Fin 8 := 2
 let k : BitVec 6 := 0x3f#6
 decide (readyB s c 1 = true ∧ (s.core c).level < 7 ∧ k.toNat % 16 = 15))) = true := by decide +kernel
theorem witness_FieldsAndStatus : (
(let s := allSts.getD 0 State.reset
 let c : Fin 8 := 2
 decide (readyB s c 1 = true)) &&
(let s := allSts.getD 0 State.reset
 let c : Fin 8 := 2
 decide (readyB s c 1 = true ∧ readyB s c 2 = true)) &&
(let s := allSts.getD 0 State.reset
 let c : Fin 8 := 2
 let imm : BitVec 20 := 0x006c5#20
 let p := imm.toNat % 64
 let w := imm.toNat / 64 % 64
 decide (readyB s c 1 = true ∧ 1 ≤ w ∧ p + w ≤ 36)) &&
(let s := allSts.getD 0 State.reset
 let c : Fin 8 := 2
 let imm : BitVec 20 := 0x00000#20
 let p := imm.toNat % 64
 let w := imm.toNat / 64 % 64
 decide (readyB s c 1 = true ∧ (s.core c).level < 7 ∧ (w = 0 ∨ 36 < p + w))) &&
(let s := allSts.getD 0 State.reset
 let c : Fin 8 := 2
 decide (readyB s c 1 = true ∧ (s.core c).level < 7))) = true := by decide +kernel
end W20

namespace W21
def s21 (i lv : Nat) : State :=
  let s := coreSt i lv
  let s := s.putReg 2 3 0x01014200
  let s := s.putTask 2 0 { s.taskOf 2 0 with stack := (List.range 16).map (0x01014100 + ·), top := i%16 }
  let s := s.with_ ([(CUE.TSTAT.RSDEP 2 0, i%17), (CUE.TSTAT.WDEP 2 0, i%6), (CUE.TCFG.LEN 2 0, 4*(i%2)), (CUE.PEND.PEND 2 0, rnd i % 2^32), (CUE.HOLDMAX.HOLDMAX 2, 100)] ++ (if lv = 0 then [] else [(CUE.ENT.V 2 lv, i/2%2), (CUE.XPC.XPC 2 lv, 0x01014055), (CUE.XST.XST 2 lv, rnd i % 128 + 128*(i/3%2) + 256*(i%8))]))
  let s := if i % 3 = 2 then s.putReg 2 16 0 else s
  let s := s.putCore 2 { s.core 2 with hold := lv ≠ 0 && i%2==0, stale := if i%2=0 then [] else [((CUE.TCFG.BASE 2 1).key, 5)] }
  if i % 4 = 3 then (s.putLoop 2 (some ⟨0x01014000, 0x01014000 + 5 + i, s.window 2, 22⟩)).putReg 2 22 (1 + i/4%2) |> fun s => s.putCore 2 {s.core 2 with edge := i/8%2==1} else s
def more : List State :=
  let deep (n : Nat) (i : Nat) := let s := s21 i 3
    let s := s.putCore 2 { s.core 2 with stks := [(3, (List.range n).map (0x01014100 + ·))], hold := false }
    s
  let lp := let s := coreSt 3 0
    let s := (s.putLoop 2 (some ⟨0x01014000, 0x01014000 + 8, s.window 2, 22⟩)).putReg 2 22 0
    s.putCore 2 { s.core 2 with edge := true }
  [deep 4 1, deep 4 4, deep 2 1, deep 2 4, lp]
def allSts : List State := (((List.range 40).map fun i => s21 i 0) ++ ((List.range 12).map fun i => s21 i 3)) ++ more
theorem witness_Transfers : (
(let s := allSts.getD 0 State.reset
 let c : Fin 8 := 2
 let x := s.core c
 let target (disp : BitVec 26) : Nat := (((x.pc : Int) + disp.toInt) % 2 ^ 32).toNat
 let cond : BitVec 4 := 0x0#4
 let disp : BitVec 26 := 0x0000005#26
 decide (readyB s c 1 = true ∧ readyB s c 2 = true ∧ cond ≠ 15 ∧ x.holds cond.toNat = true ∧ fetchB s c (target disp) = true)) &&
(let s := allSts.getD 0 State.reset
 let c : Fin 8 := 2
 let x := s.core c
 let k := x.level
 let t := x.task
 let dep := s.get (CUE.TSTAT.WDEP c t)
 let rs := s.get (CUE.TSTAT.RSDEP c t)
 let q := s.taskOf c t
 let target (disp : BitVec 26) : Nat := (((x.pc : Int) + disp.toInt) % 2 ^ 32).toNat
 let arc := arcLen (s.gov c (CUE.TCFG.LEN c t))
 let wraps : Bool := decide (s.gov c (CUE.TCFG.RSWRAP c t) ≠ 0)
 let fits : Bool := decide (k = 0 ∧ dep + 1 < arc ∧ (rs ≠ 16 ∨ wraps) ∧ q.stack.length = 16 ∧ q.top < 16 ∧ dep < 31)
 let cond : BitVec 4 := 0x0#4
 let disp : BitVec 26 := 0x0000005#26
 decide (readyB s c 1 = true ∧ readyB s c 2 = true ∧ fits ∧ cond ≠ 15 ∧ x.holds cond.toNat = true ∧ fetchB s c (target disp) = true)) &&
(let s := allSts.getD 40 State.reset
 let c : Fin 8 := 2
 let x := s.core c
 let k := x.level
 let target (disp : BitVec 26) : Nat := (((x.pc : Int) + disp.toInt) % 2 ^ 32).toNat
 let st := Tab.get (fun _ => []) x.stks k
 let cond : BitVec 4 := 0x0#4
 let disp : BitVec 26 := 0x0000005#26
 decide (readyB s c 1 = true ∧ readyB s c 2 = true ∧ k ≠ 0 ∧ st.length < 4 ∧ cond ≠ 15 ∧ x.holds cond.toNat = true ∧ fetchB s c (target disp) = true)) &&
(let s := allSts.getD 3 State.reset
 let c : Fin 8 := 2
 let x := s.core c
 let k := x.level
 let t := x.task
 let dep := s.get (CUE.TSTAT.WDEP c t)
 let arc := arcLen (s.gov c (CUE.TCFG.LEN c t))
 let cond : BitVec 4 := 0x0#4
 decide (readyB s c 1 = true ∧ readyB s c 2 = true ∧ k = 0 ∧ arc ≤ dep + 1 ∧ cond ≠ 15 ∧ x.holds cond.toNat = true)) &&
(let s := allSts.getD 16 State.reset
 let c : Fin 8 := 2
 let x := s.core c
 let k := x.level
 let t := x.task
 let dep := s.get (CUE.TSTAT.WDEP c t)
 let rs := s.get (CUE.TSTAT.RSDEP c t)
 let arc := arcLen (s.gov c (CUE.TCFG.LEN c t))
 let wraps : Bool := decide (s.gov c (CUE.TCFG.RSWRAP c t) ≠ 0)
 let cond : BitVec 4 := 0x0#4
 decide (readyB s c 1 = true ∧ readyB s c 2 = true ∧ k = 0 ∧ rs = 16 ∧ dep + 1 < arc ∧ ¬wraps ∧ cond ≠ 15 ∧ x.holds cond.toNat = true)) &&
(let s := allSts.getD 52 State.reset
 let c : Fin 8 := 2
 let x := s.core c
 let k := x.level
 let st := Tab.get (fun _ => []) x.stks k
 let cond : BitVec 4 := 0x0#4
 decide (readyB s c 1 = true ∧ readyB s c 2 = true ∧ k ≠ 0 ∧ k < 7 ∧ 4 ≤ st.length ∧ cond ≠ 15 ∧ x.holds cond.toNat = true)) &&
(let s := allSts.getD 0 State.reset
 let c : Fin 8 := 2
 let x := s.core c
 let cond : BitVec 4 := 0x2#4
 decide (readyB s c 1 = true ∧ cond ≠ 15 ∧ x.holds cond.toNat = false)) &&
(let s := allSts.getD 0 State.reset
 let c : Fin 8 := 2
 let x := s.core c
 let k := x.level
 decide (readyB s c 1 = true ∧ k < 7)) &&
(let s := allSts.getD 0 State.reset
 let c : Fin 8 := 2
 let a : Fin 32 := 3
 decide (readyB s c 1 = true ∧ readyB s c 2 = true ∧ fetchB s c (s.reg c a % 2 ^ 32) = true)) &&
(let s := allSts.getD 0 State.reset
 let c : Fin 8 := 2
 let x := s.core c
 let k := x.level
 let t := x.task
 let dep := s.get (CUE.TSTAT.WDEP c t)
 let rs := s.get (CUE.TSTAT.RSDEP c t)
 let q := s.taskOf c t
 let arc := arcLen (s.gov c (CUE.TCFG.LEN c t))
 let wraps : Bool := decide (s.gov c (CUE.TCFG.RSWRAP c t) ≠ 0)
 let fits : Bool := decide (k = 0 ∧ dep + 1 < arc ∧ (rs ≠ 16 ∨ wraps) ∧ q.stack.length = 16 ∧ q.top < 16 ∧ dep < 31)
 let a : Fin 32 := 3
 decide (readyB s c 1 = true ∧ readyB s c 2 = true ∧ fits ∧ fetchB s c (s.reg c a % 2 ^ 32) = true)) &&
(let s := allSts.getD 40 State.reset
 let c : Fin 8 := 2
 let x := s.core c
 let k := x.level
 let st := Tab.get (fun _ => []) x.stks k
 let a : Fin 32 := 3
 decide (readyB s c 1 = true ∧ readyB s c 2 = true ∧ k ≠ 0 ∧ st.length < 4 ∧ fetchB s c (s.reg c a % 2 ^ 32) = true)) &&
(let s := allSts.getD 3 State.reset
 let c : Fin 8 := 2
 let x := s.core c
 let k := x.level
 let t := x.task
 let dep := s.get (CUE.TSTAT.WDEP c t)
 let arc := arcLen (s.gov c (CUE.TCFG.LEN c t))
 decide (readyB s c 1 = true ∧ readyB s c 2 = true ∧ k = 0 ∧ arc ≤ dep + 1)) &&
(let s := allSts.getD 16 State.reset
 let c : Fin 8 := 2
 let x := s.core c
 let k := x.level
 let t := x.task
 let dep := s.get (CUE.TSTAT.WDEP c t)
 let rs := s.get (CUE.TSTAT.RSDEP c t)
 let arc := arcLen (s.gov c (CUE.TCFG.LEN c t))
 let wraps : Bool := decide (s.gov c (CUE.TCFG.RSWRAP c t) ≠ 0)
 decide (readyB s c 1 = true ∧ readyB s c 2 = true ∧ k = 0 ∧ rs = 16 ∧ dep + 1 < arc ∧ ¬wraps)) &&
(let s := allSts.getD 52 State.reset
 let c : Fin 8 := 2
 let x := s.core c
 let k := x.level
 let st := Tab.get (fun _ => []) x.stks k
 decide (readyB s c 1 = true ∧ readyB s c 2 = true ∧ k ≠ 0 ∧ k < 7 ∧ 4 ≤ st.length))) = true := by decide +kernel
theorem witness_Transfers_2 : (
(let s := allSts.getD 0 State.reset
 let c : Fin 8 := 2
 let v : Word := 0x001014030#36
 decide (readyB s c 1 = true ∧ readyB s c 3 = true ∧ v.toNat < 2 ^ 32 ∧ fetchB s c v.toNat = true)) &&
(let s := allSts.getD 0 State.reset
 let c : Fin 8 := 2
 let x := s.core c
 let k := x.level
 let t := x.task
 let dep := s.get (CUE.TSTAT.WDEP c t)
 let rs := s.get (CUE.TSTAT.RSDEP c t)
 let q := s.taskOf c t
 let arc := arcLen (s.gov c (CUE.TCFG.LEN c t))
 let wraps : Bool := decide (s.gov c (CUE.TCFG.RSWRAP c t) ≠ 0)
 let fits : Bool := decide (k = 0 ∧ dep + 1 < arc ∧ (rs ≠ 16 ∨ wraps) ∧ q.stack.length = 16 ∧ q.top < 16 ∧ dep < 31)
 let v : Word := 0x001014030#36
 decide (readyB s c 1 = true ∧ readyB s c 3 = true ∧ fits ∧ v.toNat < 2 ^ 32 ∧ fetchB s c v.toNat = true)) &&
(let s := allSts.getD 40 State.reset
 let c : Fin 8 := 2
 let x := s.core c
 let k := x.level
 let st := Tab.get (fun _ => []) x.stks k
 let v : Word := 0x001014030#36
 decide (readyB s c 1 = true ∧ readyB s c 3 = true ∧ k ≠ 0 ∧ st.length < 4 ∧ v.toNat < 2 ^ 32 ∧ fetchB s c v.toNat = true)) &&
(let s := allSts.getD 3 State.reset
 let c : Fin 8 := 2
 let x := s.core c
 let k := x.level
 let t := x.task
 let dep := s.get (CUE.TSTAT.WDEP c t)
 let arc := arcLen (s.gov c (CUE.TCFG.LEN c t))
 let v : Word := 0x001014030#36
 decide (readyB s c 1 = true ∧ readyB s c 3 = true ∧ k = 0 ∧ arc ≤ dep + 1 ∧ v.toNat < 2 ^ 32)) &&
(let s := allSts.getD 16 State.reset
 let c : Fin 8 := 2
 let x := s.core c
 let k := x.level
 let t := x.task
 let dep := s.get (CUE.TSTAT.WDEP c t)
 let rs := s.get (CUE.TSTAT.RSDEP c t)
 let arc := arcLen (s.gov c (CUE.TCFG.LEN c t))
 let wraps : Bool := decide (s.gov c (CUE.TCFG.RSWRAP c t) ≠ 0)
 let v : Word := 0x001014030#36
 decide (readyB s c 1 = true ∧ readyB s c 3 = true ∧ k = 0 ∧ rs = 16 ∧ dep + 1 < arc ∧ ¬wraps ∧ v.toNat < 2 ^ 32)) &&
(let s := allSts.getD 52 State.reset
 let c : Fin 8 := 2
 let x := s.core c
 let k := x.level
 let st := Tab.get (fun _ => []) x.stks k
 let v : Word := 0x001014030#36
 decide (readyB s c 1 = true ∧ readyB s c 3 = true ∧ k ≠ 0 ∧ k < 7 ∧ 4 ≤ st.length ∧ v.toNat < 2 ^ 32)) &&
(let s := allSts.getD 0 State.reset
 let c : Fin 8 := 2
 let x := s.core c
 let k := x.level
 let v : Word := 0x800000003#36
 decide (readyB s c 1 = true ∧ readyB s c 2 = true ∧ k < 7 ∧ 2 ^ 32 ≤ v.toNat)) &&
(let s := allSts.getD 1 State.reset
 let c : Fin 8 := 2
 let x := s.core c
 let k := x.level
 let t := x.task
 let dep := s.get (CUE.TSTAT.WDEP c t)
 let rs := s.get (CUE.TSTAT.RSDEP c t)
 let q := s.taskOf c t
 let wraps : Bool := decide (s.gov c (CUE.TCFG.RSWRAP c t) ≠ 0)
 decide (readyB s c 1 = true ∧ readyB s c 2 = true ∧ k = 0 ∧ dep ≠ 0 ∧ dep < 32 ∧ q.stack.length = 16 ∧ fetchB s c (q.stack.getD ((q.top + 15) % 16) 0) = true ∧ (rs ≠ 0 ∨ wraps))) &&
(let s := allSts.getD 0 State.reset
 let c : Fin 8 := 2
 let x := s.core c
 let k := x.level
 let t := x.task
 let dep := s.get (CUE.TSTAT.WDEP c t)
 decide (readyB s c 1 = true ∧ k = 0 ∧ dep = 0)) &&
(let s := allSts.getD 17 State.reset
 let c : Fin 8 := 2
 let x := s.core c
 let k := x.level
 let t := x.task
 let dep := s.get (CUE.TSTAT.WDEP c t)
 let rs := s.get (CUE.TSTAT.RSDEP c t)
 let wraps : Bool := decide (s.gov c (CUE.TCFG.RSWRAP c t) ≠ 0)
 decide (readyB s c 1 = true ∧ k = 0 ∧ dep ≠ 0 ∧ rs = 0 ∧ ¬wraps)) &&
(let s := allSts.getD 52 State.reset
 let c : Fin 8 := 2
 let x := s.core c
 let k := x.level
 let st := Tab.get (fun _ => []) x.stks k
 match st with
 | a :: rest => (
  decide (readyB s c 1 = true ∧ readyB s c 2 = true ∧ k ≠ 0 ∧ fetchB s c a = true))
 | _ => false) &&
(let s := allSts.getD 40 State.reset
 let c : Fin 8 := 2
 let x := s.core c
 let k := x.level
 let st := Tab.get (fun _ => []) x.stks k
 decide (readyB s c 1 = true ∧ k ≠ 0 ∧ k < 7 ∧ st = [])) &&
(let s := allSts.getD 0 State.reset
 let c : Fin 8 := 2
 let x := s.core c
 let k := x.level
 let imm : BitVec 20 := 0x00000#20
 decide (readyB s c 1 = true ∧ k < 7 ∧ (imm.toNat % 64 = 0 ∨ (s.loop c).isSome = true))) &&
(let s := allSts.getD 0 State.reset
 let c : Fin 8 := 2
 let a : Fin 32 := 16
 let imm : BitVec 20 := 0x00005#20
 decide (readyB s c 1 = true ∧ s.loop c = none ∧ s.reg c a ≠ 0 ∧ imm.toNat % 64 ≠ 0))) = true := by decide +kernel
theorem witness_Transfers_3 : (
(let s := allSts.getD 0 State.reset
 let c : Fin 8 := 2
 let x := s.core c
 let a : Fin 32 := 0
 let imm : BitVec 20 := 0x00005#20
 decide (readyB s c 1 = true ∧ s.loop c = none ∧ s.reg c a = 0 ∧ imm.toNat % 64 ≠ 0 ∧ fetchB s c ((x.pc + (1 + imm.toNat % 64)) % 2 ^ 32) = true)) &&
(let s := allSts.getD 56 State.reset
 let c : Fin 8 := 2
 match s.loop c with
 | some l => (
  decide ((s.core c).edge = true ∧ s.coreState c = 1 ∧ s.island (coreIsland c) = 0 ∧ fetchB s c (s.core c).pc = true ∧ l.count < 32 ∧ s.readsZero c (Fin.ofNat 32 l.count) = false ∧ fetchB s c l.first = true ∧ s.reg c l.count = 0))
 | _ => false) &&
(let s := allSts.getD 15 State.reset
 let c : Fin 8 := 2
 match s.loop c with
 | some l => (
  decide ((s.core c).edge = true ∧ s.coreState c = 1 ∧ s.island (coreIsland c) = 0 ∧ fetchB s c (s.core c).pc = true ∧ l.count < 32 ∧ s.readsZero c (Fin.ofNat 32 l.count) = false ∧ fetchB s c l.first = true ∧ 2 ≤ s.reg c l.count))
 | _ => false) &&
(let s := allSts.getD 11 State.reset
 let c : Fin 8 := 2
 match s.loop c with
 | some l => (
  decide ((s.core c).edge = true ∧ s.coreState c = 1 ∧ s.island (coreIsland c) = 0 ∧ fetchB s c (s.core c).pc = true ∧ l.count < 32 ∧ s.readsZero c (Fin.ofNat 32 l.count) = false ∧ fetchB s c l.first = true ∧ s.reg c l.count = 1))
 | _ => false)) = true := by decide +kernel
theorem witness_SystemInstructions : (
(let s := allSts.getD 0 State.reset
 let c : Fin 8 := 2
 decide (readyB s c 1 = true)) &&
(let s := allSts.getD 0 State.reset
 let c : Fin 8 := 2
 let x := s.core c
 decide (readyB s c 1 = true ∧ readyB s c 2 = true ∧ x.held = [])) &&
(let s := allSts.getD 0 State.reset
 let c : Fin 8 := 2
 let x := s.core c
 let k := x.level
 decide (readyB s c 1 = true ∧ actLevel (s.gov c (CUE.LVCFG.TRAPLV c)) < 8 ∧ k < 7)) &&
(let s := allSts.getD 0 State.reset
 let c : Fin 8 := 2
 let x := s.core c
 let k := x.level
 decide (readyB s c 1 = true ∧ x.held = [] ∧ k < 7 ∧ (k = 0 ∨ s.get (CUE.ENT.V c k) = 0))) &&
(let s := allSts.getD 42 State.reset
 let c : Fin 8 := 2
 let x := s.core c
 let k := x.level
 decide (readyB s c 1 = true ∧ readyB s c 2 = true ∧ x.held = [] ∧ k ≠ 0 ∧ s.get (CUE.ENT.V c k) = 1 ∧ fetchB s c (if s.get (CUE.ENT.MODE c k) ≠ 0 then s.get (CUE.SAVEPC.PC c k) else s.get (CUE.XPC.XPC c k)) = true)) &&
(let s := allSts.getD 40 State.reset
 let c : Fin 8 := 2
 let x := s.core c
 let k := x.level
 decide (readyB s c 1 = true ∧ x.held = [] ∧ k < 7 ∧ k ≠ 0)) &&
(let s := allSts.getD 0 State.reset
 let c : Fin 8 := 2
 let x := s.core c
 let k := x.level
 let t := x.task
 let a : Fin 32 := 16
 let mask := s.reg c a % 2 ^ 32
 let got := s.get (CUE.PEND.PEND c t) &&& mask
 decide (readyB s c 1 = true ∧ x.held = [] ∧ k = 0 ∧ mask ≠ 0 ∧ got ≠ 0)) &&
(let s := allSts.getD 6 State.reset
 let c : Fin 8 := 2
 let x := s.core c
 let k := x.level
 let t := x.task
 let a : Fin 32 := 5
 let mask := s.reg c a % 2 ^ 32
 let got := s.get (CUE.PEND.PEND c t) &&& mask
 decide (readyB s c 1 = true ∧ x.held = [] ∧ k = 0 ∧ mask ≠ 0 ∧ got = 0)) &&
(let s := allSts.getD 0 State.reset
 let c : Fin 8 := 2
 let x := s.core c
 let k := x.level
 let a : Fin 32 := 22
 let mask := s.reg c a % 2 ^ 32
 decide (readyB s c 1 = true ∧ x.held = [] ∧ k = 0 ∧ mask = 0))) = true := by decide +kernel
end W21

namespace W22
def s22 (i lv : Nat) : State :=
  let s := coreSt i lv
  let s := s.putReg 2 22 (if i%4=0 then 0x01020000 else if i%4=1 then 0x01014100+i else if i%4=2 then 0x01400000 else 2^35+0x01014100+i)
  let s := (s.putReg 2 3 (0x01014200+i)).putReg 2 16 (i%4)
  let s := s.put SYS.OPTIONS.SPLIT (1 - i/4%2)
  let s := (List.range 24).foldl (fun s k => s.wr (0x010140F0 + k) (if k < 60 ∧ i%3=0 then 0x01014200+i else rnd (k+i) % 2^36)) s
  if i = 11 then s.putCore 2 { s.core 2 with held := [[(0x01014155, 77)]] } else s
def allSts : List State := ((List.range 16).map fun i => s22 i 0) ++ ((List.range 8).map fun i => s22 i 3)
theorem witness_LoadsAndStores : (
(let s := allSts.getD 0 State.reset
 let c : Fin 8 := 2
 let a : Fin 32 := 3
 let imm : BitVec 20 := 0x00000#20
 let ea := unsgn 32 (sgn 36 (s.reg c a) + imm.toInt)
 decide (readyB s c 1 = true ∧ (s.core c).held = [] ∧ fetchB s c ea = true)) &&
(let s := allSts.getD 0 State.reset
 let c : Fin 8 := 2
 let a : Fin 32 := 3
 let imm : BitVec 20 := 0x00000#20
 let ea := unsgn 32 (sgn 36 (s.reg c a) + imm.toInt)
 decide (s.split = true ∧ readyB s c 1 = true ∧ (s.core c).held = [] ∧ fetchB s c ea = true)) &&
(let s := allSts.getD 4 State.reset
 let c : Fin 8 := 2
 let a : Fin 32 := 3
 let imm : BitVec 20 := 0x00000#20
 let ea := unsgn 32 (sgn 36 (s.reg c a) + imm.toInt)
 decide (s.split = false ∧ readyB s c 1 = true ∧ (s.core c).held = [] ∧ fetchB s c ea = true)) &&
(let s := allSts.getD 0 State.reset
 let c : Fin 8 := 2
 let d : Fin 32 := 16
 let a : Fin 32 := 3
 let imm : BitVec 20 := 0x00000#20
 let ea := unsgn 32 (sgn 36 (s.reg c a) + imm.toInt)
 let ea1 := (ea + 1) % 2 ^ 32
 decide (readyB s c 1 = true ∧ (s.core c).held = [] ∧ d.val % 2 = 0 ∧ fetchB s c ea = true ∧ fetchB s c ea1 = true)) &&
(let s := allSts.getD 0 State.reset
 let c : Fin 8 := 2
 let d : Fin 32 := 16
 let a : Fin 32 := 3
 let imm : BitVec 20 := 0x00000#20
 let ea := unsgn 32 (sgn 36 (s.reg c a) + imm.toInt)
 let ea1 := (ea + 1) % 2 ^ 32
 decide (s.split = true ∧ readyB s c 1 = true ∧ (s.core c).held = [] ∧ d.val % 2 = 0 ∧ fetchB s c ea = true ∧ fetchB s c ea1 = true)) &&
(let s := allSts.getD 4 State.reset
 let c : Fin 8 := 2
 let d : Fin 32 := 16
 let a : Fin 32 := 3
 let imm : BitVec 20 := 0x00000#20
 let ea := unsgn 32 (sgn 36 (s.reg c a) + imm.toInt)
 let ea1 := (ea + 1) % 2 ^ 32
 decide (s.split = false ∧ readyB s c 1 = true ∧ (s.core c).held = [] ∧ d.val % 2 = 0 ∧ fetchB s c ea = true ∧ fetchB s c ea1 = true)) &&
(let s := allSts.getD 0 State.reset
 let c : Fin 8 := 2
 let v : Word := 0x001014030#36
 decide (readyB s c 1 = true ∧ (s.core c).held = [] ∧ readyB s c 2 = true ∧ v.toNat < 2 ^ 32 ∧ fetchB s c v.toNat = true)) &&
(let s := allSts.getD 0 State.reset
 let c : Fin 8 := 2
 let v : Word := 0x001014030#36
 decide (s.split = true ∧ readyB s c 1 = true ∧ (s.core c).held = [] ∧ readyB s c 2 = true ∧ v.toNat < 2 ^ 32 ∧ fetchB s c v.toNat = true)) &&
(let s := allSts.getD 4 State.reset
 let c : Fin 8 := 2
 let v : Word := 0x001014030#36
 decide (s.split = false ∧ readyB s c 1 = true ∧ (s.core c).held = [] ∧ readyB s c 2 = true ∧ v.toNat < 2 ^ 32 ∧ fetchB s c v.toNat = true)) &&
(let s := allSts.getD 0 State.reset
 let c : Fin 8 := 2
 let d : Fin 32 := 16
 let v : Word := 0x001014030#36
 decide (readyB s c 1 = true ∧ (s.core c).held = [] ∧ readyB s c 2 = true ∧ d.val % 2 = 0 ∧ v.toNat < 2 ^ 32 ∧ fetchB s c v.toNat = true ∧ fetchB s c ((v.toNat + 1) % 2 ^ 32) = true)) &&
(let s := allSts.getD 0 State.reset
 let c : Fin 8 := 2
 let d : Fin 32 := 16
 let v : Word := 0x001014030#36
 decide (s.split = true ∧ readyB s c 1 = true ∧ (s.core c).held = [] ∧ readyB s c 2 = true ∧ d.val % 2 = 0 ∧ v.toNat < 2 ^ 32 ∧ fetchB s c v.toNat = true ∧ fetchB s c ((v.toNat + 1) % 2 ^ 32) = true)) &&
(let s := allSts.getD 4 State.reset
 let c : Fin 8 := 2
 let d : Fin 32 := 16
 let v : Word := 0x001014030#36
 decide (s.split = false ∧ readyB s c 1 = true ∧ (s.core c).held = [] ∧ readyB s c 2 = true ∧ d.val % 2 = 0 ∧ v.toNat < 2 ^ 32 ∧ fetchB s c v.toNat = true ∧ fetchB s c ((v.toNat + 1) % 2 ^ 32) = true)) &&
(let s := allSts.getD 0 State.reset
 let c : Fin 8 := 2
 let a : Fin 32 := 22
 let imm : BitVec 20 := 0x00000#20
 let x := s.core c
 let ea := unsgn 32 (sgn 36 (s.reg c a) + imm.toInt)
 match bankOf? ea with
 | some b => (
  decide (readyB s c 1 = true ∧ (s.core c).held = [] ∧ x.level < 7 ∧ b < 64 ∧ s.get (BANKS.OWNER.OWNER b) ≠ ownCore c ∧ s.get (ISL.STAT.STATE (20 + b / 16)) = 0))
 | _ => false) &&
(let s := allSts.getD 0 State.reset
 let c : Fin 8 := 2
 let a : Fin 32 := 3
 let imm : BitVec 20 := 0xa7c15#20
 let x := s.core c
 let ea := unsgn 32 (sgn 36 (s.reg c a) + imm.toInt)
 decide (readyB s c 1 = true ∧ (s.core c).held = [] ∧ x.level < 7 ∧ targetOf ea = .none))) = true := by decide +kernel
theorem witness_LoadsAndStores_2 : (
(let s := allSts.getD 0 State.reset
 let c : Fin 8 := 2
 let d : Fin 32 := 3
 let x := s.core c
 decide (readyB s c 1 = true ∧ (s.core c).held = [] ∧ d.val % 2 = 1 ∧ x.level < 7)) &&
(let s := allSts.getD 0 State.reset
 let c : Fin 8 := 2
 let x := s.core c
 let v : Word := 0x800000003#36
 decide (readyB s c 1 = true ∧ (s.core c).held = [] ∧ readyB s c 2 = true ∧ x.level < 7 ∧ 2 ^ 32 ≤ v.toNat)) &&
(let s := allSts.getD 11 State.reset
 let c : Fin 8 := 2
 match (s.core c).held with
 | [[(adr, v)]] => (
  decide (fetchB s c adr = true ∧ v < 2 ^ 36))
 | _ => false) &&
(let s := allSts.getD 11 State.reset
 let c : Fin 8 := 2
 match (s.core c).held with
 | [[(adr, v)]] => (
  true)
 | _ => false) &&
(let s := allSts.getD 11 State.reset
 let c : Fin 8 := 2
 match (s.core c).held with
 | [[w]] => (
  true)
 | _ => false)) = true := by decide +kernel
theorem witness_LongInstructions : (
(let s := allSts.getD 0 State.reset
 let c : Fin 8 := 2
 let d : Fin 32 := 22
 let a : Fin 32 := 3
 let b : Fin 32 := 16
 let n := s.reg c b
 decide (readyB s c 1 = true ∧ (s.core c).held = [] ∧ s.readsZero c d = false ∧ d ≠ a ∧ s.readsZero c a = false ∧ fetchB s c (s.reg c a % 2 ^ 32) = true ∧ d ≠ b ∧ a ≠ b ∧ s.readsZero c b = false ∧ n = 0)) &&
(let s := allSts.getD 1 State.reset
 let c : Fin 8 := 2
 let d : Fin 32 := 22
 let a : Fin 32 := 3
 let b : Fin 32 := 16
 let dst := s.reg c d % 2 ^ 32
 let n := s.reg c b
 decide (s.split = true ∧ readyB s c 1 = true ∧ (s.core c).held = [] ∧ s.readsZero c d = false ∧ d ≠ a ∧ s.readsZero c a = false ∧ fetchB s c (s.reg c a % 2 ^ 32) = true ∧ d ≠ b ∧ a ≠ b ∧ s.readsZero c b = false ∧ fetchB s c dst = true ∧ n ≠ 0)) &&
(let s := allSts.getD 5 State.reset
 let c : Fin 8 := 2
 let d : Fin 32 := 22
 let a : Fin 32 := 3
 let b : Fin 32 := 16
 let dst := s.reg c d % 2 ^ 32
 let n := s.reg c b
 decide (s.split = false ∧ readyB s c 1 = true ∧ (s.core c).held = [] ∧ s.readsZero c d = false ∧ d ≠ a ∧ s.readsZero c a = false ∧ fetchB s c (s.reg c a % 2 ^ 32) = true ∧ d ≠ b ∧ a ≠ b ∧ s.readsZero c b = false ∧ fetchB s c dst = true ∧ n ≠ 0)) &&
(let s := allSts.getD 0 State.reset
 let c : Fin 8 := 2
 let d : Fin 32 := 22
 let a : Fin 32 := 3
 let b : Fin 32 := 25
 let n := s.reg c b
 decide (readyB s c 1 = true ∧ (s.core c).held = [] ∧ s.readsZero c d = false ∧ d ≠ a ∧ s.readsZero c a = false ∧ fetchB s c (s.reg c a % 2 ^ 32) = true ∧ d ≠ b ∧ a ≠ b ∧ s.readsZero c b = false ∧ n ≠ 0)) &&
(let s := allSts.getD 0 State.reset
 let c : Fin 8 := 2
 let d : Fin 32 := 16
 let a : Fin 32 := 3
 let b : Fin 32 := 22
 let src := s.reg c a % 2 ^ 32
 let n := s.reg c b
 let v := s.rd src
 let k : BitVec 6 := 0x00#6
 let hit := if k.toNat % 2 = 1 then s.reg c d ≤ v else v = s.reg c d
 decide (readyB s c 1 = true ∧ (s.core c).held = [] ∧ s.readsZero c d = false ∧ d ≠ a ∧ s.readsZero c a = false ∧ fetchB s c (s.reg c a % 2 ^ 32) = true ∧ d ≠ b ∧ a ≠ b ∧ s.readsZero c b = false ∧ n ≠ 0 ∧ hit)) &&
(let s := allSts.getD 0 State.reset
 let c : Fin 8 := 2
 let d : Fin 32 := 22
 let a : Fin 32 := 3
 let b : Fin 32 := 25
 let src := s.reg c a % 2 ^ 32
 let n := s.reg c b
 let v := s.rd src
 let k : BitVec 6 := 0x00#6
 let hit := if k.toNat % 2 = 1 then s.reg c d ≤ v else v = s.reg c d
 decide (readyB s c 1 = true ∧ (s.core c).held = [] ∧ s.readsZero c d = false ∧ d ≠ a ∧ s.readsZero c a = false ∧ fetchB s c (s.reg c a % 2 ^ 32) = true ∧ d ≠ b ∧ a ≠ b ∧ s.readsZero c b = false ∧ n ≠ 0 ∧ ¬hit)) &&
(let s := allSts.getD 0 State.reset
 let c : Fin 8 := 2
 let d : Fin 32 := 22
 let a : Fin 32 := 3
 let b : Fin 32 := 16
 decide (readyB s c 1 = true ∧ (s.core c).held = [] ∧ (s.core c).level < 7 ∧ s.readsZero c d = false ∧ d ≠ a ∧ s.readsZero c a = false ∧ fetchB s c (s.reg c a % 2 ^ 32) = true ∧ d ≠ b ∧ a ≠ b ∧ s.readsZero c b = false))) = true := by decide +kernel
/-- LoadsAndStores: a command whose agent is a core that, once its held writes are made, holds none. -/
theorem witness_LoadsAndStores_command :
    (let s := allSts.getD 0 State.reset
     decide (Instr.agent? (.logClear 3#8) = some (BitVec.ofNat 8 (1 + 2)) ∧ ((settle 2 s).core 2).held = [])) = true := by decide +kernel
end W22

namespace W23
def s23 (i lv : Nat) : State :=
  let s := coreSt i lv
  let s := if i%4=3 then (s.putReg 2 16 25).putReg 2 22 0 else s
  s.putCore 2 { s.core 2 with acc := (List.range 4).map (fun k => rnd (k+i) * (if i%2=0 then 1 else 2^15) % 2^72) |>.set 3 (if i%5=0 then 2^71-1-i else 77), m := [1,2,3,4], mst := i, fly := match i%9 with | 0 => [] | 1 => [⟨.acc 3 5 false,1⟩] | 2 => [⟨.acc 3 (2^70) true,2⟩] | 3 => [⟨.wra 0 5,1⟩] | 4 => [⟨.div 5 (some 5) 16,1⟩] | 5 => [⟨.div 5 none 16,1⟩] | 6 => [⟨.cor 5 16,1⟩] | _ => [] }
def more : List State :=
  ([[⟨.acc 1 5 false, 1⟩, ⟨.wra 1 9, 2⟩], [⟨.acc 1 5 false, 2⟩, ⟨.wra 1 9, 2⟩], [⟨.acc 1 5 false, 3⟩, ⟨.wra 1 9, 2⟩], [⟨.acc 3 (2 ^ 70) true, 2⟩],
    [⟨.acc 2 (-5) true, 2⟩], [⟨.div 5 (some 5) 16, 1⟩], [⟨.root 5 16, 1⟩], [⟨.div 5 none 16, 1⟩], [⟨.cor 5 10, 1⟩]] : List (List Flight)).map fun f =>
      let s := coreSt 4 0
      s.putCore 2 { s.core 2 with acc := [1, 2, 3, 2 ^ 70 + 7], m := [1, 2, 3, 4], mst := 1, fly := f }
def allSts : List State := (((List.range 20).map fun i => s23 i 0) ++ ((List.range 9).map fun i => s23 i 3)) ++ more
theorem witness_MathUnit : (
(let s := allSts.getD 0 State.reset
 let c : Fin 8 := 2
 decide (readyB s c 1 = true ∧ (∀ f ∈ (s.core c).fly, f.left ≠ 0))) &&
(let s := allSts.getD 0 State.reset
 let c : Fin 8 := 2
 let x := s.core c
 let calm : Bool := decide (x.fly = [] ∨ s.cyclesIn c x.seen s.t ≤ x.ahead ∧ (∀ k, bankOf? x.pc = some k → k ∈ x.view) ∧ ∀ e, x.next = some e → e.2.2 = 0)
 let quiet : Bool := decide (calm ∧ ∀ f ∈ x.fly, 3 < f.left)
 decide (readyB s c 1 = true ∧ (∀ f ∈ (s.core c).fly, f.left ≠ 0) ∧ quiet)) &&
(let s := allSts.getD 0 State.reset
 let c : Fin 8 := 2
 let x := s.core c
 let calm : Bool := decide (x.fly = [] ∨ s.cyclesIn c x.seen s.t ≤ x.ahead ∧ (∀ k, bankOf? x.pc = some k → k ∈ x.view) ∧ ∀ e, x.next = some e → e.2.2 = 0)
 decide (readyB s c 1 = true ∧ (∀ f ∈ (s.core c).fly, f.left ≠ 0) ∧ calm)) &&
(let s := allSts.getD 0 State.reset
 let c : Fin 8 := 2
 let sel : Fin 4 := 1
 let x := s.core c
 let ac := x.acc.getD sel.val 0
 let calm : Bool := decide (x.fly = [] ∨ s.cyclesIn c x.seen s.t ≤ x.ahead ∧ (∀ k, bankOf? x.pc = some k → k ∈ x.view) ∧ ∀ e, x.next = some e → e.2.2 = 0)
 let r := roundAway (sgn 72 ac) (2 ^ 35)
 decide (readyB s c 1 = true ∧ (∀ f ∈ (s.core c).fly, f.left ≠ 0) ∧ calm ∧ -(2 ^ 35) ≤ r ∧ r < 2 ^ 35)) &&
(let s := allSts.getD 0 State.reset
 let c : Fin 8 := 2
 let sel : Fin 4 := 3
 let x := s.core c
 let ac := x.acc.getD sel.val 0
 let calm : Bool := decide (x.fly = [] ∨ s.cyclesIn c x.seen s.t ≤ x.ahead ∧ (∀ k, bankOf? x.pc = some k → k ∈ x.view) ∧ ∀ e, x.next = some e → e.2.2 = 0)
 let quiet : Bool := decide (calm ∧ ∀ f ∈ x.fly, 3 < f.left)
 let r := roundAway (sgn 72 ac) (2 ^ 35)
 decide (readyB s c 1 = true ∧ (∀ f ∈ (s.core c).fly, f.left ≠ 0) ∧ quiet ∧ (r < -(2 ^ 35) ∨ 2 ^ 35 ≤ r))) &&
(let s := allSts.getD 0 State.reset
 let c : Fin 8 := 2
 let d : Fin 32 := 22
 let x := s.core c
 let calm : Bool := decide (x.fly = [] ∨ s.cyclesIn c x.seen s.t ≤ x.ahead ∧ (∀ k, bankOf? x.pc = some k → k ∈ x.view) ∧ ∀ e, x.next = some e → e.2.2 = 0)
 decide (readyB s c 1 = true ∧ (∀ f ∈ (s.core c).fly, f.left ≠ 0) ∧ d.val % 2 = 0 ∧ calm)) &&
(let s := allSts.getD 0 State.reset
 let c : Fin 8 := 2
 let d : Fin 32 := 3
 let x := s.core c
 decide (readyB s c 1 = true ∧ (∀ f ∈ (s.core c).fly, f.left ≠ 0) ∧ d.val % 2 = 1 ∧ x.level < 7)) &&
(let s := allSts.getD 0 State.reset
 let c : Fin 8 := 2
 let a : Fin 32 := 22
 let b : Fin 32 := 3
 let x := s.core c
 let u := s.reg c a
 let v := s.reg c b
 let su := sgn 36 u
 let sv := sgn 36 v
 let calm : Bool := decide (x.fly = [] ∨ s.cyclesIn c x.seen s.t ≤ x.ahead ∧ (∀ k, bankOf? x.pc = some k → k ∈ x.view) ∧ ∀ e, x.next = some e → e.2.2 = 0)
 let quiet : Bool := decide (calm ∧ ∀ f ∈ x.fly, 3 < f.left)
 decide (readyB s c 1 = true ∧ (∀ f ∈ (s.core c).fly, f.left ≠ 0) ∧ sv ≠ 0 ∧ Int.tdiv su sv ≠ 2 ^ 35 ∧ quiet)) &&
(let s := allSts.getD 8 State.reset
 let c : Fin 8 := 2
 let a : Fin 32 := 31
 let b : Fin 32 := 3
 let x := s.core c
 let u := s.reg c a
 let v := s.reg c b
 let su := sgn 36 u
 let sv := sgn 36 v
 let calm : Bool := decide (x.fly = [] ∨ s.cyclesIn c x.seen s.t ≤ x.ahead ∧ (∀ k, bankOf? x.pc = some k → k ∈ x.view) ∧ ∀ e, x.next = some e → e.2.2 = 0)
 let quiet : Bool := decide (calm ∧ ∀ f ∈ x.fly, 3 < f.left)
 decide (readyB s c 1 = true ∧ (∀ f ∈ (s.core c).fly, f.left ≠ 0) ∧ sv ≠ 0 ∧ Int.tdiv su sv = 2 ^ 35 ∧ quiet)) &&
(let s := allSts.getD 0 State.reset
 let c : Fin 8 := 2
 let b : Fin 32 := 22
 let x := s.core c
 let v := s.reg c b
 let sv := sgn 36 v
 let calm : Bool := decide (x.fly = [] ∨ s.cyclesIn c x.seen s.t ≤ x.ahead ∧ (∀ k, bankOf? x.pc = some k → k ∈ x.view) ∧ ∀ e, x.next = some e → e.2.2 = 0)
 let quiet : Bool := decide (calm ∧ ∀ f ∈ x.fly, 3 < f.left)
 decide (readyB s c 1 = true ∧ (∀ f ∈ (s.core c).fly, f.left ≠ 0) ∧ sv = 0 ∧ quiet)) &&
(let s := allSts.getD 0 State.reset
 let c : Fin 8 := 2
 let b : Fin 32 := 3
 let x := s.core c
 let v := s.reg c b
 let calm : Bool := decide (x.fly = [] ∨ s.cyclesIn c x.seen s.t ≤ x.ahead ∧ (∀ k, bankOf? x.pc = some k → k ∈ x.view) ∧ ∀ e, x.next = some e → e.2.2 = 0)
 let quiet : Bool := decide (calm ∧ ∀ f ∈ x.fly, 3 < f.left)
 decide (readyB s c 1 = true ∧ (∀ f ∈ (s.core c).fly, f.left ≠ 0) ∧ v ≠ 0 ∧ quiet)) &&
(let s := allSts.getD 0 State.reset
 let c : Fin 8 := 2
 let b : Fin 32 := 22
 let x := s.core c
 let v := s.reg c b
 let calm : Bool := decide (x.fly = [] ∨ s.cyclesIn c x.seen s.t ≤ x.ahead ∧ (∀ k, bankOf? x.pc = some k → k ∈ x.view) ∧ ∀ e, x.next = some e → e.2.2 = 0)
 let quiet : Bool := decide (calm ∧ ∀ f ∈ x.fly, 3 < f.left)
 decide (readyB s c 1 = true ∧ (∀ f ∈ (s.core c).fly, f.left ≠ 0) ∧ v = 0 ∧ quiet)) &&
(let s := allSts.getD 0 State.reset
 let c : Fin 8 := 2
 let b : Fin 32 := 3
 let x := s.core c
 let v := s.reg c b
 let sv := sgn 36 v
 let calm : Bool := decide (x.fly = [] ∨ s.cyclesIn c x.seen s.t ≤ x.ahead ∧ (∀ k, bankOf? x.pc = some k → k ∈ x.view) ∧ ∀ e, x.next = some e → e.2.2 = 0)
 let quiet : Bool := decide (calm ∧ ∀ f ∈ x.fly, 3 < f.left)
 decide (readyB s c 1 = true ∧ (∀ f ∈ (s.core c).fly, f.left ≠ 0) ∧ sv ≠ 0 ∧ quiet)) &&
(let s := allSts.getD 0 State.reset
 let c : Fin 8 := 2
 let a : Fin 32 := 22
 let x := s.core c
 let u := s.reg c a
 let calm : Bool := decide (x.fly = [] ∨ s.cyclesIn c x.seen s.t ≤ x.ahead ∧ (∀ k, bankOf? x.pc = some k → k ∈ x.view) ∧ ∀ e, x.next = some e → e.2.2 = 0)
 let quiet : Bool := decide (calm ∧ ∀ f ∈ x.fly, 3 < f.left)
 let r : Fin 262144 := 0
 decide (readyB s c 1 = true ∧ (∀ f ∈ (s.core c).fly, f.left ≠ 0) ∧ quiet ∧ r.val * r.val ≤ u ∧ u < (r.val + 1) * (r.val + 1)))) = true := by decide +kernel
theorem witness_MathUnit_2 : (
(let s := allSts.getD 0 State.reset
 let c : Fin 8 := 2
 let a : Fin 32 := 1
 let x := s.core c
 let u := s.reg c a
 let su := sgn 36 u
 let calm : Bool := decide (x.fly = [] ∨ s.cyclesIn c x.seen s.t ≤ x.ahead ∧ (∀ k, bankOf? x.pc = some k → k ∈ x.view) ∧ ∀ e, x.next = some e → e.2.2 = 0)
 let quiet : Bool := decide (calm ∧ ∀ f ∈ x.fly, 3 < f.left)
 decide (readyB s c 1 = true ∧ (∀ f ∈ (s.core c).fly, f.left ≠ 0) ∧ su < 0 ∧ quiet)) &&
(let s := allSts.getD 0 State.reset
 let c : Fin 8 := 2
 let a : Fin 32 := 22
 let x := s.core c
 let u := s.reg c a
 let su := sgn 36 u
 let calm : Bool := decide (x.fly = [] ∨ s.cyclesIn c x.seen s.t ≤ x.ahead ∧ (∀ k, bankOf? x.pc = some k → k ∈ x.view) ∧ ∀ e, x.next = some e → e.2.2 = 0)
 let quiet : Bool := decide (calm ∧ ∀ f ∈ x.fly, 3 < f.left)
 decide (readyB s c 1 = true ∧ (∀ f ∈ (s.core c).fly, f.left ≠ 0) ∧ 0 ≤ su ∧ quiet)) &&
(let s := allSts.getD 29 State.reset
 let c : Fin 8 := 2
 let sel : Fin 4 := 1
 let x := s.core c
 let calm : Bool := decide (x.fly = [] ∨ s.cyclesIn c x.seen s.t ≤ x.ahead ∧ (∀ k, bankOf? x.pc = some k → k ∈ x.view) ∧ ∀ e, x.next = some e → e.2.2 = 0)
 let k : Fin 4 := 1
 match x.fly with
 | [⟨.acc z261_ w z262_, z263_⟩, ⟨.wra z264_ r, z265_⟩] => (
  decide (readyB s c 1 = true ∧ (∀ f ∈ (s.core c).fly, f.left ≠ 0) ∧ calm ∧ k ≠ 0 ∧ z261_ = sel.val ∧ z262_ = false ∧ z263_ = k.val ∧ z264_ = sel.val ∧ z265_ = 2))
 | _ => false) &&
(let s := allSts.getD 0 State.reset
 let c : Fin 8 := 2
 let x := s.core c
 decide (readyB s c 1 = true ∧ (∀ f ∈ (s.core c).fly, f.left ≠ 0) ∧ x.level < 7)) &&
(let s := allSts.getD 0 State.reset
 let c : Fin 8 := 2
 let x := s.core c
 let unit : Fin 3 := 0
 decide (x.acc.length = 4 ∧ x.m.length = 4 ∧ (∀ f ∈ x.fly, f.res.unit ≠ unit.val))) &&
(let s := allSts.getD 1 State.reset
 let c : Fin 8 := 2
 let i : Fin 4 := 3
 let k : Fin 41 := 1
 let x := s.core c
 let only (r : CpRes) : Bool := decide (x.fly = [⟨r, k.val⟩])
 let v : Int := 5
 decide (x.acc.length = 4 ∧ x.m.length = 4 ∧ only (.acc i.val v false))) &&
(let s := allSts.getD 2 State.reset
 let c : Fin 8 := 2
 let i : Fin 4 := 3
 let k : Fin 41 := 2
 let x := s.core c
 let only (r : CpRes) : Bool := decide (x.fly = [⟨r, k.val⟩])
 let v : Int := 1180591620717411303424
 decide (x.acc.length = 4 ∧ x.m.length = 4 ∧ only (.acc i.val v true))) &&
(let s := allSts.getD 3 State.reset
 let c : Fin 8 := 2
 let i : Fin 4 := 0
 let k : Fin 41 := 1
 let x := s.core c
 let only (r : CpRes) : Bool := decide (x.fly = [⟨r, k.val⟩])
 let v : Int := 5
 decide (x.acc.length = 4 ∧ x.m.length = 4 ∧ only (.wra i.val v))) &&
(let s := allSts.getD 4 State.reset
 let c : Fin 8 := 2
 let k : Fin 41 := 1
 let x := s.core c
 let only (r : CpRes) : Bool := decide (x.fly = [⟨r, k.val⟩])
 let q : Nat := 5
 let r : Nat := 5
 let f : Nat := 16
 decide (x.acc.length = 4 ∧ x.m.length = 4 ∧ only (.div q (some r) f))) &&
(let s := allSts.getD 5 State.reset
 let c : Fin 8 := 2
 let k : Fin 41 := 1
 let x := s.core c
 let only (r : CpRes) : Bool := decide (x.fly = [⟨r, k.val⟩])
 let q : Nat := 5
 let f : Nat := 16
 decide (x.acc.length = 4 ∧ x.m.length = 4 ∧ (only (.div q none f) ∨ only (.root q f)))) &&
(let s := allSts.getD 6 State.reset
 let c : Fin 8 := 2
 let k : Fin 41 := 1
 let x := s.core c
 let only (r : CpRes) : Bool := decide (x.fly = [⟨r, k.val⟩])
 let q : Nat := 5
 let r : Nat := 16
 decide (x.acc.length = 4 ∧ x.m.length = 4 ∧ only (.cor q r)))) = true := by decide +kernel
end W23

namespace W24
def s24 (i lv : Nat) : State :=
  let s := coreSt i lv
  let s := s.with_ ([(SYS.OPTIONS.SPLIT, 1), (LE.STATUS.STATE 5, 0), (LE.CTRL.OWNER 5, 3), (LE.RESULT.INFO 5, 99),(RL.CTRL.OWNER 6, 3), (RL.CTRL.BASE 6, 12), (RL.CTRL.SIZE 6, 1)])
  let s := if i%2=0 then (s.putReg 2 16 (64*8+6)).putReg 2 22 (0x05 + 8*i) else s
  let s := s.wr (0x01200000 + 12*256 + 5) 55
  s.setSec { s.sec with next := 250+i, queue := if i%3=2 then [(5,[])] else [] }
def more : List State := [6, 5].map fun k => let s := (s24 0 0).put SYS.OPTIONS.SPLIT 0
  let s := (s.put (RL.CTRL.OWNER 6) 3).put (coreStateRef 2) 1
  s.putReg 2 22 k
def tick (k : Nat) : State :=
  let s := (s24 0 0).putReg 2 22 5
  s.setSec { s.sec with queue := if k = 0 then List.replicate 8 (5, []) else if k = 1 then [(5, [])] else [], results := if k = 2 then [(5, 7, 0x345678)] else [] }
def allSts : List State := (((List.range 6).map fun i => s24 i 0) ++ ((List.range 4).map fun i => s24 i 3)) ++ more ++ [tick 0, tick 1, tick 2]
theorem witness_Coprocessors : (
(let s := allSts.getD 0 State.reset
 let c : Fin 8 := 2
 let sel : Fin 32 := 16
 decide (readyB s c 1 = true ∧ (s.core c).held = [] ∧ sel.val < 24 ∧ s.get (ISL.STAT.STATE (4 + sel / 3)) = 0)) &&
(let s := allSts.getD 0 State.reset
 let c : Fin 8 := 2
 let me := 1 + c.val
 let sel : Fin 32 := 5
 decide (s.split = true ∧ readyB s c 1 = true ∧ (s.core c).held = [] ∧ sel.val < 24 ∧ s.get (ISL.STAT.STATE (4 + sel / 3)) = 0 ∧ s.get (LE.CTRL.OWNER sel) = me)) &&
(let s := allSts.getD 10 State.reset
 let c : Fin 8 := 2
 let me := 1 + c.val
 let sel : Fin 32 := 5
 decide (s.split = false ∧ readyB s c 1 = true ∧ (s.core c).held = [] ∧ sel.val < 24 ∧ s.get (ISL.STAT.STATE (4 + sel / 3)) = 0 ∧ s.get (LE.CTRL.OWNER sel) = me)) &&
(let s := allSts.getD 0 State.reset
 let c : Fin 8 := 2
 let a : Fin 32 := 16
 let me := 1 + c.val
 let sel : Fin 32 := 5
 decide (s.split = true ∧ readyB s c 1 = true ∧ (s.core c).held = [] ∧ s.reg c a % 16 = 6 ∧ sel.val < 24 ∧ s.get (ISL.STAT.STATE (4 + sel / 3)) = 0 ∧ s.get (LE.CTRL.OWNER sel) = me ∧ s.get (LE.STATUS.STATE sel) = 0 ∧ (s.eng sel).cmd = none)) &&
(let s := allSts.getD 10 State.reset
 let c : Fin 8 := 2
 let a : Fin 32 := 16
 let me := 1 + c.val
 let sel : Fin 32 := 5
 decide (s.split = false ∧ readyB s c 1 = true ∧ (s.core c).held = [] ∧ s.reg c a % 16 = 6 ∧ sel.val < 24 ∧ s.get (ISL.STAT.STATE (4 + sel / 3)) = 0 ∧ s.get (LE.CTRL.OWNER sel) = me ∧ s.get (LE.STATUS.STATE sel) = 0 ∧ (s.eng sel).cmd = none)) &&
(let s := allSts.getD 0 State.reset
 let c : Fin 8 := 2
 let x := s.core c
 let sel : Fin 32 := 25
 decide (readyB s c 1 = true ∧ (s.core c).held = [] ∧ x.level < 7 ∧ 24 ≤ sel.val)) &&
(let s := allSts.getD 0 State.reset
 let c : Fin 8 := 2
 decide (s.get (ISL.STAT.STATE 29) = 0 ∧ s.sec.queue.length + s.waitingSubmits < 8 ∧ readyB s c 1 = true ∧ (s.core c).held = [])) &&
(let s := allSts.getD 12 State.reset
 let c : Fin 8 := 2
 decide (s.get (ISL.STAT.STATE 29) = 0 ∧ 8 ≤ s.sec.queue.length + s.waitingSubmits ∧ readyB s c 1 = true ∧ (s.core c).held = [])) &&
(let s := allSts.getD 0 State.reset
 let c : Fin 8 := 2
 decide (s.get (ISL.STAT.STATE 29) = 0 ∧ s.sec.queue = [] ∧ s.sec.results = [] ∧ readyB s c 1 = true ∧ (s.core c).held = [])) &&
(let s := allSts.getD 14 State.reset
 let c : Fin 8 := 2
 let a : Fin 32 := 22
 let x := s.core c
 let k := s.reg c a % 256
 match s.sec.results.find? (fun x => x.1 == k) with
 | some q => (
  decide (s.get (ISL.STAT.STATE 29) = 0 ∧ readyB s c 1 = true ∧ (s.core c).held = [] ∧ q.2.1 < 16 ∧ q.2.2 < 2 ^ 24))
 | _ => false) &&
(let s := allSts.getD 12 State.reset
 let c : Fin 8 := 2
 let a : Fin 32 := 22
 let x := s.core c
 let k := s.reg c a % 256
 decide (s.get (ISL.STAT.STATE 29) = 0 ∧ readyB s c 1 = true ∧ (s.core c).held = [] ∧ s.sec.results.find? (fun x => x.1 == k) = none ∧ s.sec.queue.any (fun x => x.1 == k) = true)) &&
(let s := allSts.getD 0 State.reset
 let c : Fin 8 := 2
 let a : Fin 32 := 16
 let b : Fin 32 := 16
 let r := s.reg c a % 64
 let n := 256 * 2 ^ s.get (RL.CTRL.SIZE r)
 let adr := 0x01200000 + 256 * s.get (RL.CTRL.BASE r) + s.reg c b % n
 decide (s.get (ISL.STAT.STATE 25) = 0 ∧ readyB s c 1 = true ∧ (s.core c).held = [] ∧ s.get (RL.CTRL.SIZE r) < 6 ∧ adr < 0x01210000 ∧ s.markAt adr = none)) &&
(let s := allSts.getD 0 State.reset
 let c : Fin 8 := 2
 let a : Fin 32 := 16
 let b : Fin 32 := 16
 let me := 1 + c.val
 let r := s.reg c a % 64
 let n := 256 * 2 ^ s.get (RL.CTRL.SIZE r)
 let adr := 0x01200000 + 256 * s.get (RL.CTRL.BASE r) + s.reg c b % n
 decide (s.get (ISL.STAT.STATE 25) = 0 ∧ (∀ q : Fin 64, s.get (RL.CTRL.EN q) = 0) ∧ s.split = true ∧ readyB s c 1 = true ∧ (s.core c).held = [] ∧ s.get (RL.CTRL.SIZE r) < 6 ∧ s.get (RL.CTRL.OWNER r) = me ∧ adr < 0x01210000 ∧ s.markAt adr = none)) &&
(let s := allSts.getD 10 State.reset
 let c : Fin 8 := 2
 let a : Fin 32 := 16
 let b : Fin 32 := 16
 let me := 1 + c.val
 let r := s.reg c a % 64
 let n := 256 * 2 ^ s.get (RL.CTRL.SIZE r)
 let adr := 0x01200000 + 256 * s.get (RL.CTRL.BASE r) + s.reg c b % n
 decide (s.get (ISL.STAT.STATE 25) = 0 ∧ (∀ q : Fin 64, s.get (RL.CTRL.EN q) = 0) ∧ s.split = false ∧ readyB s c 1 = true ∧ (s.core c).held = [] ∧ s.get (RL.CTRL.SIZE r) < 6 ∧ s.get (RL.CTRL.OWNER r) = me ∧ adr < 0x01210000 ∧ s.markAt adr = none))) = true := by decide +kernel
theorem witness_Coprocessors_2 : (
(let s := allSts.getD 0 State.reset
 let c : Fin 8 := 2
 decide (s.get (ISL.STAT.STATE 25) = 0 ∧ readyB s c 1 = true ∧ (s.core c).held = [])) &&
(let s := allSts.getD 0 State.reset
 let c : Fin 8 := 2
 let a : Fin 32 := 16
 let b : Fin 32 := 22
 let me := 1 + c.val
 let r := s.reg c a % 64
 decide (s.get (ISL.STAT.STATE 25) = 0 ∧ s.xfer = none ∧ s.split = true ∧ readyB s c 1 = true ∧ (s.core c).held = [] ∧ s.reg c b % 8 = 5 ∧ s.get (RL.CTRL.OWNER r) = me ∧ s.get (RL.CTRL.EN r) = 0 ∧ s.reelPlaced r = true)) &&
(let s := allSts.getD 11 State.reset
 let c : Fin 8 := 2
 let a : Fin 32 := 16
 let b : Fin 32 := 22
 let me := 1 + c.val
 let r := s.reg c a % 64
 decide (s.get (ISL.STAT.STATE 25) = 0 ∧ s.xfer = none ∧ s.split = false ∧ readyB s c 1 = true ∧ (s.core c).held = [] ∧ s.reg c b % 8 = 5 ∧ s.get (RL.CTRL.OWNER r) = me ∧ s.get (RL.CTRL.EN r) = 0 ∧ s.reelPlaced r = true))) = true := by decide +kernel
end W24

namespace W25
def s25 (i lv : Nat) : State :=
  let s := coreSt i lv
  let s := s.with_ ([(CUE.ROUTE.SEL 2 77, i%8),(CUE.ROUTE.WBIT 2 77, i),(CUE.ROUTE.ACT 2 77, 1+i%2),(CUE.WMASK.WMASK 2 3, 2^i),(CUE.MODE.SAVEM 2, i/3%2),(CUE.EPA.EPA 2, 0x1234),(CUE.MODE.LATE 2, 1), (CUE.TCFG.LEN 2 3, 3), (CUE.TCFG.BASE 2 3, 20), (CUE.TCFG.LEN 2 0, 4), (CUE.TSTAT.STATE 2 3, i%5), (CUE.TSTAT.STATE 2 2, (i/2)%5),(CUE.TCFG.PRIO 2 3, 5), (CUE.TPC.PC 2 3, 0x777), (CUE.PARKCTL.FULL 2, i/2%2), (CUE.PARKCTL.TASK 2, 3), (CUE.PARKCTL.GROUPS 2, 4), (CUE.CSA.ADDR 2 3, 0x01014020), (CUE.CSA.SIZE 2 3, 5), (CUE.PARK.W 2 13, 99), (CUE.PARK.W 2 14, 98), (SYS.OPTIONS.SPLIT, i%2)])
  let s := s.putTask 2 3 { s.taskOf 2 3 with wait := if i%3=0 then some (5, false) else none, z := true }
  let s := s.setEvents [⟨77, if i%2=0 then some (5555+i) else none, []⟩]
  s.putCore 2 { s.core 2 with hold := i%3==1, excess := i/3%2==0, sync := if i/4%3=0 then some (⟨4+i%4, 3+i%9, i, 2*i, 3*i⟩, 100+i, false) else none, evs := if i/2%2=0 then [(i*4, 1+i%7, 100*i)] else [], entry := if i%5=0 then some ⟨⟨1+i%3,1,5,0,9⟩, 888, 999, 0, false, none, []⟩ else none, stop := i%2==0, acc := [0,0,0,0], m := [0,0,0,0], inner := if i%11=0 then [⟨7,0x0A,1,2,3⟩] else [] }
def more : List State :=
  let s := (s25 1 0).setEvents [⟨77, some 9, []⟩]
  let s := s.with_ [(CUE.ROUTE.ACT 2 77, 2), (CUE.ROUTE.SEL 2 77, 3)]
  let busy := s.putCore 2 { s.core 2 with evs := [(77, 3, 5)] }
  let wait := (s.setEvents [⟨77, none, []⟩]).setSyncWait [2]
  let l := (coreSt 1 0).with_ [(CUE.MODE.SAVEM 2, 0)]
  let l := (l.putLoop 2 (some ⟨0x01014000, 0x01014006, l.window 2, 22⟩)).putReg 2 22 5
  let trap := l.putCore 2 { l.core 2 with edge := false, sync := some (⟨3, 4, 0, 7, 0⟩, 0x01014007, true) }
  let t := (coreSt 1 0).with_ [(CUE.TSTAT.STATE 2 0, 1)]
  let sw (d : Nat) := (coreSt 1 0).with_ [(CUE.TSTAT.STATE 2 0, 4), (CUE.TSTAT.STATE 2 3, 1), (CUE.TPC.PC 2 3, 0x01014040), (CUE.TSTAT.DIRTY 2 0, d), (CUE.TSTAT.SAVED 2 3, d),
    (CUE.CSA.ADDR 2 0, 0x01014020), (CUE.CSA.SIZE 2 0, 5), (CUE.CSA.ADDR 2 3, 0x01014060), (CUE.CSA.SIZE 2 3, 5)]
  let rdy (s : State) := s.putCore 2 { s.core 2 with m := [1, 2, 3, 4], edge := false }
  let bad (d full : Nat) := ((rdy (sw d)).with_ [(CUE.CSA.SIZE 2 0, 0), (CUE.TSTAT.SAVED 2 3, 0), (CUE.PARKCTL.FULL 2, full)])
  let back := let s := (rdy (sw 0)).with_ [(CUE.CSA.SIZE 2 3, 0), (CUE.TSTAT.SAVED 2 3, 2)]
    s.putCore 2 { s.core 2 with away := true }
  [busy, wait, trap, t, rdy (sw 0), rdy (sw 2), bad 2 0, bad 2 1, back]
def allSts : List State := (((List.range 50).map fun i => s25 i 0) ++ ((List.range 50).map fun i => s25 i 3)) ++ more
theorem witness_LevelsAndEvents : (
(let s := allSts.getD 0 State.reset
 let c : Fin 8 := 2
 match s.events with
 | [e] => (
  decide (s.coreExists c = true ∧ s.coreState c = 1 ∧ s.get (ISL.STAT.STATE (c % 4)) = 0 ∧ e.seen = [] ∧ e.num < 512 ∧ s.get (CUE.ROUTE.ACT c e.num) = 1))
 | _ => false) &&
(let s := allSts.getD 1 State.reset
 let c : Fin 8 := 2
 let x := s.core c
 match s.events with
 | [e] => (
  let sel := s.get (CUE.ROUTE.SEL c e.num)
  decide (s.coreExists c = true ∧ s.coreState c = 1 ∧ s.get (ISL.STAT.STATE (c % 4)) = 0 ∧ e.seen = [] ∧ e.num < 512 ∧ s.get (CUE.ROUTE.ACT c e.num) = 2 ∧ (e.stamp ≠ none ∨ s.unsynced (c % 4) = false) ∧ x.evs.any (fun q => q.1 == e.num) = false ∧ sel ≠ 0))
 | _ => false) &&
(let s := allSts.getD 100 State.reset
 let c : Fin 8 := 2
 let x := s.core c
 match s.events with
 | [e] => (
  let sel := s.get (CUE.ROUTE.SEL c e.num)
  decide (s.coreExists c = true ∧ s.coreState c = 1 ∧ s.get (ISL.STAT.STATE (c % 4)) = 0 ∧ e.seen = [] ∧ e.num < 512 ∧ s.get (CUE.ROUTE.ACT c e.num) = 2 ∧ (e.stamp ≠ none ∨ s.unsynced (c % 4) = false) ∧ x.evs.any (fun q => q.1 == e.num) = true ∧ sel ≠ 0))
 | _ => false) &&
(let s := allSts.getD 101 State.reset
 let c : Fin 8 := 2
 match s.events with
 | [e] => (
  let sel := s.get (CUE.ROUTE.SEL c e.num)
  decide (s.coreExists c = true ∧ s.coreState c = 1 ∧ s.get (ISL.STAT.STATE (c % 4)) = 0 ∧ s.unsynced (c % 4) = true ∧ e.seen = [] ∧ e.num < 512 ∧ s.get (CUE.ROUTE.ACT c e.num) = 2 ∧ e.stamp = none ∧ sel ≠ 0))
 | _ => false) &&
(let s := allSts.getD 0 State.reset
 let c : Fin 8 := 0
 match s.events with
 | [e] => (
  let sel := s.get (CUE.ROUTE.SEL c e.num)
  decide (s.coreExists c = true ∧ s.coreState c = 1 ∧ s.get (ISL.STAT.STATE (c % 4)) = 0 ∧ e.seen = [] ∧ e.num < 512 ∧ (s.get (CUE.ROUTE.ACT c e.num) = 0 ∨ s.get (CUE.ROUTE.ACT c e.num) = 3 ∨ (s.get (CUE.ROUTE.ACT c e.num) = 2 ∧ sel = 0))))
 | _ => false) &&
(let s := allSts.getD 2 State.reset
 let c : Fin 8 := 2
 let x := s.core c
 match x.sync with
 | some q => (
  decide (s.coreActive c = true ∧ (∀ h ∈ s.held, h.agent ≠ ownCore c) ∧ x.edge = false ∧ x.inner = [] ∧ x.evs = [] ∧ x.level < q.1.level ∧ q.1.level < 8 ∧ q.1.code < 16 ∧ q.1.src < 512 ∧ q.1.info < 256 ∧ q.1.xarg < 2 ^ 36 ∧ q.2.1 < 2 ^ 32 ∧ (q.2.2 = false ∨ s.loopAt c x.pc = none)))
 | _ => false) &&
(let s := allSts.getD 8 State.reset
 let c : Fin 8 := 2
 let x := s.core c
 match x.evs with
 | [e] => (
  decide (s.coreActive c = true ∧ (∀ h ∈ s.held, h.agent ≠ ownCore c) ∧ s.gov c (CUE.MODE.SAVEM c) = 0 ∧ x.edge = false ∧ x.sync = none ∧ x.inner = [] ∧ x.hold = false ∧ x.fresh = false ∧ x.resume = false ∧ x.level < e.2.1 ∧ e.2.1 < 8 ∧ e.1 < 512))
 | _ => false) &&
(let s := allSts.getD 5 State.reset
 let c : Fin 8 := 2
 let x := s.core c
 match x.entry with
 | some n => (
  match x.evs with
  | [e] => (
   decide (s.coreActive c = true ∧ (∀ h ∈ s.held, h.agent ≠ ownCore c) ∧ s.gov c (CUE.MODE.LATE c) = 1 ∧ x.edge = false ∧ x.inner = [] ∧ x.resume = false ∧ n.undo = none ∧ n.cause.code = 1 ∧ n.trap = false ∧ n.cause.level < e.2.1 ∧ (1, e.1) ∉ n.had ∧ e.2.1 < 8))
  | _ => false)
 | _ => false) &&
(let s := allSts.getD 102 State.reset
 let c : Fin 8 := 2
 let x := s.core c
 match x.sync with
 | some q => (
  match s.loopAt c x.pc with
  | some l => (
   decide (s.coreActive c = true ∧ (∀ h ∈ s.held, h.agent ≠ ownCore c) ∧ s.gov c (CUE.MODE.SAVEM c) = 0 ∧ x.edge = false ∧ x.inner = [] ∧ x.evs = [] ∧ q.2.2 = true ∧ q.1.level < 8 ∧ l.count < 32 ∧ s.readsZero c (Fin.ofNat 32 l.count) = false ∧ 2 ≤ s.reg c l.count ∧ l.first < 2 ^ 32))
  | _ => false)
 | _ => false) &&
(let s := allSts.getD 4 State.reset
 let c : Fin 8 := 2
 let x := s.core c
 decide (s.coreActive c = true ∧ s.coreHalted c = false ∧ x.hold = true ∧ x.excess = false ∧ 0 < x.hrem ∧ x.fly = [] ∧ x.seen = s.t)) &&
(let s := allSts.getD 1 State.reset
 let c : Fin 8 := 2
 let x := s.core c
 decide (s.coreActive c = true ∧ s.coreHalted c = false ∧ x.hold = true ∧ x.excess = true ∧ 0 < x.hrem ∧ x.fly = [] ∧ x.seen = s.t ∧ x.inner = [])) &&
(let s := allSts.getD 0 State.reset
 let c : Fin 8 := 0
 let a : Owner := 0x01#8
 let k : Fin 8 := 2
 decide (s.get (ISL.STAT.STATE (c % 4)) = 0 ∧ s.coreExists c = true ∧ s.gov c (CUE.MODE.SAVEM c) = 1 ∧ (∀ q : Fin 8, a.toNat = ownCore q → (s.core q).held = []) ∧ a.toNat = ownCore c ∧ k ≠ 0)) &&
(let s := allSts.getD 0 State.reset
 let c : Fin 8 := 2
 let a : Owner := 0x03#8
 let k : Fin 8 := 2
 decide (s.get (ISL.STAT.STATE (c % 4)) = 0 ∧ s.coreExists c = true ∧ s.gov c (CUE.MODE.SAVEM c) = 0 ∧ (∀ q : Fin 8, a.toNat = ownCore q → (s.core q).held = []) ∧ (a.toNat = ownCore c ∨ a.toNat = ownDebug) ∧ k ≠ 0)) &&
(let s := allSts.getD 0 State.reset
 let c : Fin 8 := 2
 let a : Owner := 0x01#8
 let k : Fin 8 := 2
 decide (s.get (ISL.STAT.STATE (c % 4)) = 0 ∧ s.coreExists c = true ∧ (∀ q : Fin 8, a.toNat = ownCore q → (s.core q).held = []) ∧ a.toNat ≠ ownCore c ∧ a.toNat ≠ ownDebug ∧ k ≠ 0))) = true := by decide +kernel
theorem witness_Tasks : (
(let s := allSts.getD 0 State.reset
 let a : Owner := 0x03#8
 let c : Fin 8 := 2
 decide (settledB s a = true ∧ (∀ q : Fin 8, a.toNat = ownCore q → (s.core q).held = []) ∧ s.get (ISL.STAT.STATE (c % 4)) = 0 ∧ s.coreExists c = true)) &&
(let s := allSts.getD 0 State.reset
 let a : Owner := 0x03#8
 let c : Fin 8 := 2
 let t : Fin 8 := 3
 let st (q : Nat) : Nat := s.get (CUE.TSTAT.STATE c q)
 decide (settledB s a = true ∧ (∀ q : Fin 8, a.toNat = ownCore q → (s.core q).held = []) ∧ s.get (ISL.STAT.STATE (c % 4)) = 0 ∧ s.coreExists c = true ∧ a.toNat = ownCore c ∧ s.gov c (CUE.TCFG.LEN c t) ≠ 1 ∧ s.arcTaken c (s.gov c (CUE.TCFG.BASE c t)) (s.gov c (CUE.TCFG.LEN c t)) = false ∧ st t = 0)) &&
(let s := allSts.getD 0 State.reset
 let a : Owner := 0x03#8
 let c : Fin 8 := 2
 let t : Fin 8 := 2
 let st (q : Nat) : Nat := s.get (CUE.TSTAT.STATE c q)
 decide (settledB s a = true ∧ (∀ q : Fin 8, a.toNat = ownCore q → (s.core q).held = []) ∧ s.get (ISL.STAT.STATE (c % 4)) = 0 ∧ s.coreExists c = true ∧ a.toNat = ownCore c ∧ s.gov c (CUE.TCFG.LEN c t) = 1 ∧ st t = 0)) &&
(let s := allSts.getD 20 State.reset
 let a : Owner := 0x03#8
 let c : Fin 8 := 2
 let t : Fin 8 := 3
 let st (q : Nat) : Nat := s.get (CUE.TSTAT.STATE c q)
 decide (settledB s a = true ∧ (∀ q : Fin 8, a.toNat = ownCore q → (s.core q).held = []) ∧ s.get (ISL.STAT.STATE (c % 4)) = 0 ∧ s.coreExists c = true ∧ a.toNat = ownCore c ∧ s.gov c (CUE.TCFG.LEN c t) ≠ 1 ∧ s.arcTaken c (s.gov c (CUE.TCFG.BASE c t)) (s.gov c (CUE.TCFG.LEN c t)) = true ∧ st t = 0)) &&
(let s := allSts.getD 0 State.reset
 let a : Owner := 0x03#8
 let c : Fin 8 := 2
 let t : Fin 8 := 0
 let st (q : Nat) : Nat := s.get (CUE.TSTAT.STATE c q)
 decide (settledB s a = true ∧ (∀ q : Fin 8, a.toNat = ownCore q → (s.core q).held = []) ∧ s.get (ISL.STAT.STATE (c % 4)) = 0 ∧ s.coreExists c = true ∧ a.toNat = ownCore c ∧ st t ≠ 0)) &&
(let s := allSts.getD 0 State.reset
 let a : Owner := 0x03#8
 let c : Fin 8 := 2
 let t : Fin 8 := 2
 let st (q : Nat) : Nat := s.get (CUE.TSTAT.STATE c q)
 decide (settledB s a = true ∧ (∀ q : Fin 8, a.toNat = ownCore q → (s.core q).held = []) ∧ s.get (ISL.STAT.STATE (c % 4)) = 0 ∧ s.coreExists c = true ∧ a.toNat = ownCore c ∧ st t = 0)) &&
(let s := allSts.getD 1 State.reset
 let a : Owner := 0x03#8
 let c : Fin 8 := 2
 let t : Fin 8 := 3
 let st (q : Nat) : Nat := s.get (CUE.TSTAT.STATE c q)
 decide (settledB s a = true ∧ (∀ q : Fin 8, a.toNat = ownCore q → (s.core q).held = []) ∧ s.get (ISL.STAT.STATE (c % 4)) = 0 ∧ s.coreExists c = true ∧ a.toNat = ownCore c ∧ st t ≠ 0 ∧ st t ≠ 2)) &&
(let s := allSts.getD 0 State.reset
 let a : Owner := 0x03#8
 let c : Fin 8 := 2
 let t : Fin 8 := 0
 let st (q : Nat) : Nat := s.get (CUE.TSTAT.STATE c q)
 decide (settledB s a = true ∧ (∀ q : Fin 8, a.toNat = ownCore q → (s.core q).held = []) ∧ s.get (ISL.STAT.STATE (c % 4)) = 0 ∧ s.coreExists c = true ∧ a.toNat = ownCore c ∧ st t = 2)) &&
(let s := allSts.getD 4 State.reset
 let a : Owner := 0x03#8
 let c : Fin 8 := 2
 let t : Fin 8 := 3
 let st (q : Nat) : Nat := s.get (CUE.TSTAT.STATE c q)
 decide (settledB s a = true ∧ (∀ q : Fin 8, a.toNat = ownCore q → (s.core q).held = []) ∧ s.get (ISL.STAT.STATE (c % 4)) = 0 ∧ s.coreExists c = true ∧ a.toNat = ownCore c ∧ s.get (CUE.PARKCTL.FULL c) = 0 ∧ s.csaValid c t = true ∧ st t = 4)) &&
(let s := allSts.getD 0 State.reset
 let a : Owner := 0x03#8
 let c : Fin 8 := 2
 let t : Fin 8 := 2
 let st (q : Nat) : Nat := s.get (CUE.TSTAT.STATE c q)
 decide (settledB s a = true ∧ (∀ q : Fin 8, a.toNat = ownCore q → (s.core q).held = []) ∧ s.get (ISL.STAT.STATE (c % 4)) = 0 ∧ s.coreExists c = true ∧ a.toNat = ownCore c ∧ st t ≠ 4)) &&
(let s := allSts.getD 8 State.reset
 let a : Owner := 0x03#8
 let c : Fin 8 := 2
 let t : Fin 8 := 2
 let st (q : Nat) : Nat := s.get (CUE.TSTAT.STATE c q)
 decide (settledB s a = true ∧ (∀ q : Fin 8, a.toNat = ownCore q → (s.core q).held = []) ∧ s.get (ISL.STAT.STATE (c % 4)) = 0 ∧ s.coreExists c = true ∧ a.toNat = ownCore c ∧ s.csaValid c t = false ∧ st t = 4)) &&
(let s := allSts.getD 0 State.reset
 let a : Owner := 0x03#8
 let c : Fin 8 := 2
 let t : Fin 8 := 2
 let st (q : Nat) : Nat := s.get (CUE.TSTAT.STATE c q)
 decide (settledB s a = true ∧ (∀ q : Fin 8, a.toNat = ownCore q → (s.core q).held = []) ∧ s.get (ISL.STAT.STATE (c % 4)) = 0 ∧ s.coreExists c = true ∧ a.toNat = ownCore c ∧ st t ≠ 3)) &&
(let s := allSts.getD 3 State.reset
 let a : Owner := 0x03#8
 let c : Fin 8 := 2
 let t : Fin 8 := 3
 let st (q : Nat) : Nat := s.get (CUE.TSTAT.STATE c q)
 decide (settledB s a = true ∧ (∀ q : Fin 8, a.toNat = ownCore q → (s.core q).held = []) ∧ s.get (ISL.STAT.STATE (c % 4)) = 0 ∧ s.coreExists c = true ∧ a.toNat = ownCore c ∧ st t = 3)) &&
(let s := allSts.getD 2 State.reset
 let a : Owner := 0x03#8
 let c : Fin 8 := 2
 let t : Fin 8 := 3
 match bankOf? (s.gov c (CUE.CSA.ADDR c t)) with
 | some b => (
  decide (settledB s a = true ∧ (∀ q : Fin 8, a.toNat = ownCore q → (s.core q).held = []) ∧ s.get (ISL.STAT.STATE (c % 4)) = 0 ∧ s.coreExists c = true ∧ a.toNat = ownCore c ∧ s.get (CUE.PARKCTL.FULL c) = 1 ∧ s.get (CUE.PARKCTL.GROUPS c) = 4 ∧ s.get (CUE.PARKCTL.TASK c) = t.val ∧ s.csaValid c t = true ∧ b < 64 ∧ s.get (BANKS.STATUS.RED b) = 0))
 | _ => false)) = true := by decide +kernel
theorem witness_Tasks_2 : (
(let s := allSts.getD 0 State.reset
 let a : Owner := 0x03#8
 let c : Fin 8 := 2
 decide (settledB s a = true ∧ (∀ q : Fin 8, a.toNat = ownCore q → (s.core q).held = []) ∧ s.get (ISL.STAT.STATE (c % 4)) = 0 ∧ s.coreExists c = true ∧ a.toNat = ownCore c)) &&
(let s := allSts.getD 0 State.reset
 let a : Owner := 0x03#8
 let c : Fin 8 := 2
 let t : Fin 8 := 2
 let st (q : Nat) : Nat := s.get (CUE.TSTAT.STATE c q)
 decide (settledB s a = true ∧ (∀ q : Fin 8, a.toNat = ownCore q → (s.core q).held = []) ∧ s.get (ISL.STAT.STATE (c % 4)) = 0 ∧ s.coreExists c = true ∧ a.toNat = ownCore c ∧ (st t = 0 ∨ st t = 4))) &&
(let s := allSts.getD 0 State.reset
 let a : Owner := 0x03#8
 let c : Fin 8 := 2
 let t : Fin 8 := 0
 let st (q : Nat) : Nat := s.get (CUE.TSTAT.STATE c q)
 decide (settledB s a = true ∧ (∀ q : Fin 8, a.toNat = ownCore q → (s.core q).held = []) ∧ s.get (ISL.STAT.STATE (c % 4)) = 0 ∧ s.coreExists c = true ∧ a.toNat = ownCore c ∧ st t ≠ 0 ∧ st t ≠ 4)) &&
(let s := allSts.getD 0 State.reset
 let a : Owner := 0x03#8
 let c : Fin 8 := 3
 decide (settledB s a = true ∧ (∀ q : Fin 8, a.toNat = ownCore q → (s.core q).held = []) ∧ a.toNat ≠ ownDebug ∧ s.get (ISL.STAT.STATE (c % 4)) = 0 ∧ s.coreExists c = true ∧ a.toNat ≠ ownCore c)) &&
(let s := allSts.getD 4 State.reset
 let a : Owner := 0x03#8
 let c : Fin 8 := 2
 let t : Fin 8 := 0
 let x := s.core c
 decide (settledB s a = true ∧ (∀ q : Fin 8, a.toNat = ownCore q → (s.core q).held = []) ∧ s.get (ISL.STAT.STATE (c % 4)) = 0 ∧ s.coreExists c = true ∧ (∀ h ∈ s.held, h.agent ≠ ownCore c) ∧ x.task = t.val ∧ x.stop = true ∧ x.level = 0 ∧ x.edge = false ∧ x.mid = false ∧ x.resume = false ∧ x.sync = none)) &&
(let s := allSts.getD 104 State.reset
 let a : Owner := 0x03#8
 let c : Fin 8 := 2
 let t : Fin 8 := 3
 let x := s.core c
 decide (settledB s a = true ∧ (∀ q : Fin 8, a.toNat = ownCore q → (s.core q).held = []) ∧ s.get (ISL.STAT.STATE (c % 4)) = 0 ∧ s.coreExists c = true ∧ s.coreActive c = true ∧ s.coreHalted c = false ∧ s.switchDue c = true ∧ (∀ h ∈ s.held, h.agent ≠ ownCore c) ∧ s.nextTask c = some t.val ∧ (s.taskOf c t).wait = none ∧ fetchB s c (s.get (CUE.TPC.PC c t)) = true ∧ s.get (CUE.TSTAT.SAVED c t) = 0 ∧ x.resume = false ∧ x.held = [] ∧ t.val ≠ x.task ∧ x.fly = [] ∧ s.get (CUE.TSTAT.DIRTY c x.task) = 0)) &&
(let s := allSts.getD 105 State.reset
 let a : Owner := 0x03#8
 let c : Fin 8 := 2
 let t : Fin 8 := 3
 let x := s.core c
 let from_ := s.gov c (CUE.CSA.ADDR c x.task)
 let to_ := s.gov c (CUE.CSA.ADDR c t)
 let good (k : Nat) : Bool := decide (s.csaValid c k = true ∧ ∀ b, bankOf? (s.gov c (CUE.CSA.ADDR c k)) = some b → s.get (BANKS.STATUS.RED b) = 0)
 decide (s.marks = [] ∧ settledB s a = true ∧ (∀ q : Fin 8, a.toNat = ownCore q → (s.core q).held = []) ∧ s.get (ISL.STAT.STATE (c % 4)) = 0 ∧ s.coreExists c = true ∧ s.coreActive c = true ∧ s.coreHalted c = false ∧ s.switchDue c = true ∧ (∀ h ∈ s.held, h.agent ≠ ownCore c) ∧ s.nextTask c = some t.val ∧ (s.taskOf c t).wait = none ∧ fetchB s c (s.get (CUE.TPC.PC c t)) = true ∧ s.get (CUE.TSTAT.SAVED c t) = 2 ∧ x.resume = false ∧ x.held = [] ∧ t.val ≠ x.task ∧ x.away = false ∧ x.fly = [] ∧ x.m.length = 4 ∧ s.get (CUE.TSTAT.DIRTY c x.task) = 2 ∧ from_ ≠ to_ ∧ good x.task ∧ good t)) &&
(let s := allSts.getD 106 State.reset
 let a : Owner := 0x03#8
 let c : Fin 8 := 2
 let t : Fin 8 := 3
 let x := s.core c
 decide (settledB s a = true ∧ (∀ q : Fin 8, a.toNat = ownCore q → (s.core q).held = []) ∧ s.get (ISL.STAT.STATE (c % 4)) = 0 ∧ s.coreExists c = true ∧ s.coreActive c = true ∧ s.coreHalted c = false ∧ s.switchDue c = true ∧ (∀ h ∈ s.held, h.agent ≠ ownCore c) ∧ s.get (CUE.PARKCTL.FULL c) = 0 ∧ s.nextTask c = some t.val ∧ (s.taskOf c t).wait = none ∧ fetchB s c (s.get (CUE.TPC.PC c t)) = true ∧ s.get (CUE.TSTAT.SAVED c t) = 0 ∧ x.resume = false ∧ x.held = [] ∧ t.val ≠ x.task ∧ x.away = false ∧ x.fly = [] ∧ s.csaValid c x.task = false ∧ s.get (CUE.TSTAT.DIRTY c x.task) = 2 ∧ x.m.length = 4 ∧ x.inner = [])) &&
(let s := allSts.getD 107 State.reset
 let a : Owner := 0x03#8
 let c : Fin 8 := 2
 let t : Fin 8 := 3
 let x := s.core c
 decide (settledB s a = true ∧ (∀ q : Fin 8, a.toNat = ownCore q → (s.core q).held = []) ∧ s.get (ISL.STAT.STATE (c % 4)) = 0 ∧ s.coreExists c = true ∧ s.coreActive c = true ∧ s.coreHalted c = false ∧ s.switchDue c = true ∧ (∀ h ∈ s.held, h.agent ≠ ownCore c) ∧ s.get (CUE.PARKCTL.FULL c) = 1 ∧ s.nextTask c = some t.val ∧ (s.taskOf c t).wait = none ∧ fetchB s c (s.get (CUE.TPC.PC c t)) = true ∧ s.get (CUE.TSTAT.SAVED c t) = 0 ∧ x.resume = false ∧ x.held = [] ∧ t.val ≠ x.task ∧ x.away = false ∧ x.fly = [] ∧ s.csaValid c x.task = false ∧ s.get (CUE.TSTAT.DIRTY c x.task) = 2 ∧ x.m.length = 4 ∧ x.inner = [])) &&
(let s := allSts.getD 108 State.reset
 let a : Owner := 0x03#8
 let c : Fin 8 := 2
 let t : Fin 8 := 3
 let x := s.core c
 let st (q : Nat) : Nat := s.get (CUE.TSTAT.STATE c q)
 decide (settledB s a = true ∧ (∀ q : Fin 8, a.toNat = ownCore q → (s.core q).held = []) ∧ s.get (ISL.STAT.STATE (c % 4)) = 0 ∧ s.coreExists c = true ∧ s.coreActive c = true ∧ s.coreHalted c = false ∧ s.switchDue c = true ∧ (∀ h ∈ s.held, h.agent ≠ ownCore c) ∧ s.nextTask c = some t.val ∧ (s.taskOf c t).wait = none ∧ s.get (CUE.TSTAT.SAVED c t) ≠ 0 ∧ s.csaValid c t = false ∧ x.resume = false ∧ x.held = [] ∧ t.val ≠ x.task ∧ x.away = true ∧ x.fly = [] ∧ x.inner = [] ∧ s.get (CUE.TSTAT.DIRTY c x.task) = 0 ∧ (∀ q : Fin 8, q ≠ t → st q ≠ 1 ∧ st q ≠ 2))) &&
(let s := allSts.getD 103 State.reset
 let a : Owner := 0x03#8
 let c : Fin 8 := 2
 let t : Fin 8 := 0
 let x := s.core c
 decide (settledB s a = true ∧ (∀ q : Fin 8, a.toNat = ownCore q → (s.core q).held = []) ∧ s.get (ISL.STAT.STATE (c % 4)) = 0 ∧ s.coreExists c = true ∧ s.coreActive c = true ∧ s.coreHalted c = false ∧ s.switchDue c = true ∧ (∀ h ∈ s.held, h.agent ≠ ownCore c) ∧ s.nextTask c = some t.val ∧ (s.taskOf c t).wait = none ∧ x.resume = false ∧ x.held = [] ∧ t.val = x.task ∧ x.away = false ∧ fetchB s c x.pc = true))) = true := by decide +kernel
end W25

namespace W30
def fr (num slate cmd : Nat) (notag : Bool) (p : List Nat) : List (BitVec 8) :=
  ([0x53, 0x4C, 1, cmd] ++ octets 4 slate ++ octets 2 p.length ++ octets 2 (if notag then 2 else 0) ++ octets 4 num ++ p ++ (if notag then [] else List.replicate 16 1)).map (BitVec.ofNat 8)
def st1 (k : Nat) : State :=
  let s := mk [(ETH.SESS.NUMBER 1, 0x1234), (ETH.SESS.TRANSPORT 1, 1), (MAC.CTRL.MACSEC 0, if k%9=8 then 0 else 1), (ETH.SLSTATE.STATE, [1,2,3,6].getD (k/3%4) 0), (MAC.CTRL.EN 0, if k%8=7 then 0 else 1), (MAC.STATUS.SYNC 0,1), (MAC.STATUS.LINK 0,1), (MAC.CTRL.SLATE 0, 1), (ETH.SLCNT.REPLAY, k),
    (ETH.LOCALCTL.OWNER, if k%4=3 then 3 else 0x12), (ETH.LOCALSTAT.BUSY, if k%5=4 then 1 else 0), (ETH.LOCALBUF.ADDR, if k%3=2 then 0x01100700 else 0x01100005), (BANKS.OWNER.OWNER 64, if k%4=3 then 3 else 0x12), (BANKS.OWNER.PEER 64, 0x40), (BANKS.OWNER.OWNER 65, if k%4=3 then 3 else 0x12), (BANKS.OWNER.PEER 65, if k%7=6 then 0 else 0x40), (ETH.LOCALEN.EN, 1), (ETH.SESSTO.SECS, k%3)]
  let s := s.wrs (s.get ETH.LOCALBUF.ADDR) (packed ((fr 0 1 0x20 true []).map BitVec.toNat))
  let s := s.putSession 1 { SessSt.atReset 1 with phase := if k%6=5 then 1 else 2, dev := 17, high := 30, seen := [21, 25], peer := (7,8), opened := 3 }
  let s := s.setSec { s.sec with handles := [(2, 5), (3, 6), (9,9)] }
  let s := if k%2=0 then s.setTcRun true else s
  s.setLink { s.link with run := if k%5=3 then some ⟨1, (7,8), some 1, 0x1234, 99, 2, [], 0, 0, 0xFFF⟩ else none }
def more : List State := let s := (st1 0).put (ISL.STAT.STATE 28) 2
  let cut (n : Nat) (slate : Nat) := let s := (st1 0).wrs ((st1 0).get ETH.LOCALBUF.ADDR) (packed ((fr n slate 0x23 true []).map BitVec.toNat))
    s.put ETH.SLSTATE.STATE 3
  [s, s.setGaf { s.gaf with waking := [(28, 50)] }, cut 0x1234 31]
def allSts : List State := ((List.range 70).map st1) ++ more
theorem witness_SlateFrames : (
(let s := allSts.getD 7 State.reset
 decide (s.island 28 = 0 ∧ s.carries 1 = false)) &&
(let s := allSts.getD 0 State.reset
 let f : List (BitVec 8) := [0x01#8, 0x02#8, 0x03#8]
 let notag : Bool := decide ((f.map BitVec.toNat).getD 11 0 / 2 % 2 = 1)
 let st := s.get ETH.SLSTATE.STATE
 decide (s.island 28 = 0 ∧ s.carries 1 = true ∧ frameSound true (f.map BitVec.toNat) = false ∧ ¬ notag ∧ st ≠ 0 ∧ st ≠ 7)) &&
(let s := allSts.getD 0 State.reset
 let src : BitVec 128 := 0x0000000000000000000000000000004d#128
 let port : BitVec 16 := 0x0309#16
 let f : List (BitVec 8) := [0x53#8, 0x4c#8, 0x01#8, 0x02#8, 0x00#8, 0x00#8, 0x00#8, 0x01#8, 0x00#8, 0x20#8, 0x00#8, 0x00#8, 0x00#8, 0x00#8, 0x00#8, 0x00#8, 0x05#8, 0x05#8, 0x05#8, 0x05#8, 0x05#8, 0x05#8, 0x05#8, 0x05#8, 0x05#8, 0x05#8, 0x05#8, 0x05#8, 0x05#8, 0x05#8, 0x05#8, 0x05#8, 0x05#8, 0x05#8, 0x05#8, 0x05#8, 0x05#8, 0x05#8, 0x05#8, 0x05#8, 0x05#8, 0x05#8, 0x05#8, 0x05#8, 0x05#8, 0x05#8, 0x05#8, 0x05#8, 0x01#8, 0x01#8, 0x01#8, 0x01#8, 0x01#8, 0x01#8, 0x01#8, 0x01#8, 0x01#8, 0x01#8, 0x01#8, 0x01#8, 0x01#8, 0x01#8, 0x01#8, 0x01#8]
 let peer := (src.toNat, port.toNat)
 let r := runOf 1 peer none (f.map BitVec.toNat)
 let notag : Bool := decide ((f.map BitVec.toNat).getD 11 0 / 2 % 2 = 1)
 let st := s.get ETH.SLSTATE.STATE
 decide (s.island 28 = 0 ∧ s.carries 1 = true ∧ frameSound true (f.map BitVec.toNat) = true ∧ r.session = 0 ∧ ¬ notag ∧ st ≠ 0 ∧ st ≠ 7)) &&
(let s := allSts.getD 0 State.reset
 let src : BitVec 128 := 0x0000000000000000000000000000004d#128
 let port : BitVec 16 := 0x0309#16
 let f : List (BitVec 8) := [0x53#8, 0x4c#8, 0x01#8, 0x03#8, 0x00#8, 0x00#8, 0x00#8, 0x01#8, 0x00#8, 0x00#8, 0x00#8, 0x02#8, 0x00#8, 0x00#8, 0x00#8, 0x00#8]
 let peer := (src.toNat, port.toNat)
 let r := runOf 1 peer none (f.map BitVec.toNat)
 let notag : Bool := decide ((f.map BitVec.toNat).getD 11 0 / 2 % 2 = 1)
 let st := s.get ETH.SLSTATE.STATE
 decide (s.island 28 = 0 ∧ s.carries 1 = true ∧ frameSound false (f.map BitVec.toNat) = true ∧ r.session = 0 ∧ r.cmd ≠ 0x01 ∧ r.cmd ≠ 0x02 ∧ r.cmd ≠ 0x30 ∧ notag ∧ st ≠ 0 ∧ st ≠ 7)) &&
(let s := allSts.getD 0 State.reset
 let src : BitVec 128 := 0x0000000000000000000000000000004d#128
 let port : BitVec 16 := 0x0309#16
 let f : List (BitVec 8) := [0x53#8, 0x4c#8, 0x01#8, 0x02#8, 0x00#8, 0x00#8, 0x00#8, 0x01#8, 0x00#8, 0x20#8, 0x00#8, 0x02#8, 0x00#8, 0x00#8, 0x00#8, 0x00#8, 0x05#8, 0x05#8, 0x05#8, 0x05#8, 0x05#8, 0x05#8, 0x05#8, 0x05#8, 0x05#8, 0x05#8, 0x05#8, 0x05#8, 0x05#8, 0x05#8, 0x05#8, 0x05#8, 0x05#8, 0x05#8, 0x05#8, 0x05#8, 0x05#8, 0x05#8, 0x05#8, 0x05#8, 0x05#8, 0x05#8, 0x05#8, 0x05#8, 0x05#8, 0x05#8, 0x05#8, 0x05#8]
 let peer := (src.toNat, port.toNat)
 let r := runOf 1 peer none (f.map BitVec.toNat)
 let notag : Bool := decide ((f.map BitVec.toNat).getD 11 0 / 2 % 2 = 1)
 let st := s.get ETH.SLSTATE.STATE
 decide (s.island 28 = 0 ∧ s.carries 1 = true ∧ s.link.run = none ∧ s.link.cut = [] ∧ frameSound false (f.map BitVec.toNat) = true ∧ r.session = 0 ∧ r.cmd = 0x02 ∧ r.payload.length = 32 ∧ notag ∧ st ≠ 0 ∧ st ≠ 7 ∧ st < 7)) &&
(let s := allSts.getD 3 State.reset
 let src : BitVec 128 := 0x0000000000000000000000000000004d#128
 let port : BitVec 16 := 0x0309#16
 let f : List (BitVec 8) := [0x53#8, 0x4c#8, 0x01#8, 0x02#8, 0x00#8, 0x00#8, 0x00#8, 0x01#8, 0x00#8, 0x20#8, 0x00#8, 0x02#8, 0x00#8, 0x00#8, 0x00#8, 0x00#8, 0x05#8, 0x05#8, 0x05#8, 0x05#8, 0x05#8, 0x05#8, 0x05#8, 0x05#8, 0x05#8, 0x05#8, 0x05#8, 0x05#8, 0x05#8, 0x05#8, 0x05#8, 0x05#8, 0x05#8, 0x05#8, 0x05#8, 0x05#8, 0x05#8, 0x05#8, 0x05#8, 0x05#8, 0x05#8, 0x05#8, 0x05#8, 0x05#8, 0x05#8, 0x05#8, 0x05#8, 0x05#8]
 let peer := (src.toNat, port.toNat)
 let r := runOf 1 peer none (f.map BitVec.toNat)
 let notag : Bool := decide ((f.map BitVec.toNat).getD 11 0 / 2 % 2 = 1)
 let st := s.get ETH.SLSTATE.STATE
 decide (s.island 28 = 0 ∧ s.carries 1 = true ∧ (s.link.run ≠ none ∨ s.link.cut ≠ []) ∧ frameSound false (f.map BitVec.toNat) = true ∧ r.session = 0 ∧ r.cmd = 0x02 ∧ r.payload.length = 32 ∧ notag ∧ st ≠ 0 ∧ st ≠ 7 ∧ st < 7)) &&
(let s := allSts.getD 0 State.reset
 let src : BitVec 128 := 0x0000000000000000000000000000004d#128
 let port : BitVec 16 := 0x0309#16
 let f : List (BitVec 8) := [0x53#8, 0x4c#8, 0x01#8, 0x03#8, 0x00#8, 0x00#8, 0x00#8, 0x01#8, 0x00#8, 0x00#8, 0x00#8, 0x02#8, 0x00#8, 0x00#8, 0x00#8, 0x63#8]
 let peer := (src.toNat, port.toNat)
 let r := runOf 1 peer none (f.map BitVec.toNat)
 let notag : Bool := decide ((f.map BitVec.toNat).getD 11 0 / 2 % 2 = 1)
 let st := s.get ETH.SLSTATE.STATE
 decide (s.island 28 = 0 ∧ s.carries 1 = true ∧ frameSound false (f.map BitVec.toNat) = true ∧ r.session ≠ 0 ∧ s.slotOf r.session = none ∧ notag ∧ st ≠ 0 ∧ st ≠ 7)) &&
(let s := allSts.getD 0 State.reset
 let src : BitVec 128 := 0x0000000000000000000000000000004d#128
 let port : BitVec 16 := 0x0309#16
 let f : List (BitVec 8) := [0x53#8, 0x4c#8, 0x01#8, 0x20#8, 0x00#8, 0x00#8, 0x00#8, 0x15#8, 0x00#8, 0x00#8, 0x00#8, 0x02#8, 0x00#8, 0x00#8, 0x12#8, 0x34#8]
 let peer := (src.toNat, port.toNat)
 let r := runOf 1 peer none (f.map BitVec.toNat)
 let notag : Bool := decide ((f.map BitVec.toNat).getD 11 0 / 2 % 2 = 1)
 let st := s.get ETH.SLSTATE.STATE
 match s.slotOf r.session with
 | some k => (
  let fresh (k : Nat) : Bool := decide (((s.session k).high < r.slate ∧ r.slate ≤ (s.session k).high + 2 ^ 20) ∨ ((s.session k).high < r.slate + 64 ∧ r.slate ≤ (s.session k).high ∧ r.slate ∉ (s.session k).seen))
  decide (s.island 28 = 0 ∧ s.carries 1 = true ∧ s.get (MAC.CTRL.MACSEC 0) = 1 ∧ frameSound false (f.map BitVec.toNat) = true ∧ r.session ≠ 0 ∧ notag ∧ st ≠ 0 ∧ st ≠ 7 ∧ (s.session k).phase = 2 ∧ s.get (ETH.SESS.TRANSPORT k) = 1 ∧ k < 3 ∧ ¬ fresh k))
 | _ => false) &&
(let s := allSts.getD 0 State.reset
 let src : BitVec 128 := 0x0000000000000000000000000000004d#128
 let port : BitVec 16 := 0x0309#16
 let f : List (BitVec 8) := [0x53#8, 0x4c#8, 0x01#8, 0x23#8, 0x00#8, 0x00#8, 0x00#8, 0x1f#8, 0x00#8, 0x00#8, 0x00#8, 0x02#8, 0x00#8, 0x00#8, 0x12#8, 0x34#8]
 let peer := (src.toNat, port.toNat)
 let r := runOf 1 peer none (f.map BitVec.toNat)
 let notag : Bool := decide ((f.map BitVec.toNat).getD 11 0 / 2 % 2 = 1)
 let st := s.get ETH.SLSTATE.STATE
 match s.slotOf r.session with
 | some k => (
  let fresh (k : Nat) : Bool := decide (((s.session k).high < r.slate ∧ r.slate ≤ (s.session k).high + 2 ^ 20) ∨ ((s.session k).high < r.slate + 64 ∧ r.slate ≤ (s.session k).high ∧ r.slate ∉ (s.session k).seen))
  decide (s.island 28 = 0 ∧ s.carries 1 = true ∧ s.get (MAC.CTRL.MACSEC 0) = 1 ∧ frameSound false (f.map BitVec.toNat) = true ∧ r.session ≠ 0 ∧ r.cmd = 0x23 ∧ r.payload = [] ∧ notag ∧ st ≠ 0 ∧ st ≠ 7 ∧ 1 ≤ st ∧ st ≤ 5 ∧ (s.session k).phase = 2 ∧ s.get (ETH.SESS.TRANSPORT k) = 1 ∧ k < 3 ∧ fresh k))
 | _ => false) &&
(let s := allSts.getD 0 State.reset
 let src : BitVec 128 := 0x0000000000000000000000000000004d#128
 let port : BitVec 16 := 0x0309#16
 let f : List (BitVec 8) := [0x53#8, 0x4c#8, 0x01#8, 0x20#8, 0x00#8, 0x00#8, 0x00#8, 0x32#8, 0x00#8, 0x00#8, 0x00#8, 0x02#8, 0x00#8, 0x00#8, 0x12#8, 0x34#8]
 let peer := (src.toNat, port.toNat)
 let r := runOf 1 peer none (f.map BitVec.toNat)
 let notag : Bool := decide ((f.map BitVec.toNat).getD 11 0 / 2 % 2 = 1)
 let st := s.get ETH.SLSTATE.STATE
 match s.slotOf r.session with
 | some k => (
  let fresh (k : Nat) : Bool := decide (((s.session k).high < r.slate ∧ r.slate ≤ (s.session k).high + 2 ^ 20) ∨ ((s.session k).high < r.slate + 64 ∧ r.slate ≤ (s.session k).high ∧ r.slate ∉ (s.session k).seen))
  decide (s.island 28 = 0 ∧ s.carries 1 = true ∧ s.get (MAC.CTRL.MACSEC 0) = 1 ∧ s.link.run = none ∧ s.link.cut = [] ∧ frameSound false (f.map BitVec.toNat) = true ∧ r.session ≠ 0 ∧ r.cmd = 0x20 ∧ r.payload = [] ∧ notag ∧ st ≠ 0 ∧ st ≠ 7 ∧ st = 1 ∧ (s.session k).phase = 2 ∧ s.get (ETH.SESS.TRANSPORT k) = 1 ∧ k < 3 ∧ fresh k))
 | _ => false) &&
(let s := allSts.getD 4 State.reset
 let src : BitVec 128 := 0x0000000000000000000000000000004d#128
 let port : BitVec 16 := 0x0309#16
 let f : List (BitVec 8) := [0x53#8, 0x4c#8, 0x01#8, 0x20#8, 0x00#8, 0x00#8, 0x00#8, 0x32#8, 0x00#8, 0x00#8, 0x00#8, 0x02#8, 0x00#8, 0x00#8, 0x12#8, 0x34#8]
 let peer := (src.toNat, port.toNat)
 let r := runOf 1 peer none (f.map BitVec.toNat)
 let notag : Bool := decide ((f.map BitVec.toNat).getD 11 0 / 2 % 2 = 1)
 let st := s.get ETH.SLSTATE.STATE
 match s.slotOf r.session with
 | some k => (
  let fresh (k : Nat) : Bool := decide (((s.session k).high < r.slate ∧ r.slate ≤ (s.session k).high + 2 ^ 20) ∨ ((s.session k).high < r.slate + 64 ∧ r.slate ≤ (s.session k).high ∧ r.slate ∉ (s.session k).seen))
  decide (s.island 28 = 0 ∧ s.carries 1 = true ∧ s.get (MAC.CTRL.MACSEC 0) = 1 ∧ s.link.run = none ∧ s.link.cut = [] ∧ frameSound false (f.map BitVec.toNat) = true ∧ r.session ≠ 0 ∧ r.cmd = 0x20 ∧ r.payload = [] ∧ notag ∧ st ≠ 0 ∧ st ≠ 7 ∧ st ≠ 1 ∧ (s.session k).phase = 2 ∧ s.get (ETH.SESS.TRANSPORT k) = 1 ∧ k < 3 ∧ fresh k))
 | _ => false)) = true := by decide +kernel
end W30

namespace W31
def base (k : Nat) (r : SlateRun) : State :=
  let s := mk [(ETH.SESS.NUMBER 1, 0x1234), (ETH.SESS.TRANSPORT 1, 1), (MAC.CTRL.MACSEC 0, 1), (MAC.CTRL.EN 0, 1), (MAC.STATUS.SYNC 0, 1), (MAC.STATUS.LINK 0, 1), (MAC.CTRL.SLATE 0, 1), (SEC.STATUS.TRNGOK, k%2), (ETH.SLSTATE.STATE, [1,2,3,4].getD (k/3%4) 0), (BANKS.OWNER.OWNER 5, if k%3=0 then 1 else 0x40), (PORTS.CUTSTAT.LATCH, k/2%2), (PORTS.CUTSTAT.SIN, if k%5=4 then 1 else 0), (ETH.SLSTATE.CUTFROM, 1), (SAMP.STATUS.TRIMOK, if k%7=6 then 0 else 1), (GAF.ZSUP.IZ, if k%5=1 then 0 else 500), (GP.SAFE.SCLS 3, k%2), (GP.CTRL.EN 3, if k%3=2 then 1 else 0), (GP.SAFE.SCENE 3, if k%7=3 then 0 else 1), (PF.CTRL.EN 5, if k%13=12 then 1 else 0), (SS.CTRL.EN 2, if k%17=3 then 1 else 0), (GP.CTRL.EN 7, if k%11=0 then 1 else 0), (GP.SAFE.SCENE 7, 1)]
  let s := s.putSession 1 { SessSt.atReset 1 with phase := 2, dev := 17, peer := (7,8), opened := 3 }
  let s := s.wr 0x01014005 0x123456789
  let s := s.setSec { s.sec with handles := [(2, 5), (3, 6), (9,9)] }
  let s := s.setOtp { s.otp with seq := k/4%2, host := some 5 }
  s.setLink { s.link with run := some r }
def rn (cmd : Nat) (p : List Nat) : SlateRun := ⟨1, (7,8), some 1, 0x1234, 99, cmd, p, 0, 0, 0xFFF⟩
def cmds : List (Nat × List Nat) := [(1,[3,0,0,0]), (1, [4,1,2,0] ++ (List.range 40).map (fun i => rnd i % 256)), (1,[4,0,2,0]++List.replicate 40 3), (2, List.replicate 32 7),
  (3, [1,1,0x40,5,0,1]), (4, [1,1,0x40,5,0,1,0,0,3,1,2,3,4]), (0x11, [0x1f,0x40,0x05,0xDC]), (0x12, [0,1,0,0,40,0,1,2]), (0x12,[0,1,0,0,19,0,1,2]), (0x12, [0,0,0,0]),
  (0x13, [1,0,0,0] ++ [2,0x31] ++ (List.range 48).map (fun i => rnd i % 256)), (0x13, [1,0,0,0] ++ [6,0x31] ++ List.replicate 48 0), (0x10, [5,0,0,1,0x12,0x34,0x11,0x22]), (0x10, [1,0,0,1,1,7,2,3,4,0,0,0]),
  (0x20,[]),(0x21,[]),(0x22,[]),(0x24,[]),(0x26,[0,0,0,0]),(0x26,[1,0,0,0])]
def st1 (k : Nat) : State := let c := cmds.getD (k%20) (0,[]); base (k/20) (rn c.1 c.2)
def st2 (k : Nat) : State :=
  let s := base (k/2) ⟨1, (7,8), none, 0, 99, 1, [1,0,0,0] ++ List.replicate 32 (k%256), 0, 0, 0xFFF⟩
  if k%4=3 then (s.putSession 0 { SessSt.atReset 1 with phase := 1}).putSession 2 { SessSt.atReset 1 with phase := 1} else s
def st3 (k : Nat) : State :=
  let s := base k ⟨1, (7,8), some 1, 0x1234, 99, 1, [2,0,0,0] ++ List.replicate 8787 (k%256), 0, 0, 0xFFF⟩
  s.putSession 1 { SessSt.atReset 1 with phase := 1, dev := 17, peer := (7,8), opened := 3 }
def st4 (k : Nat) : State :=
  let s := base k (rn 0x23 [])
  s.setLink { s.link with run := none, cut := if k%3=0 then [] else if k%3=1 then [rn 0x23 []] else [rn 0x23 [], rn 0x23 [1]] }
def more : List State := let s := base 0 (rn 0x04 ((octets 4 0x01100005) ++ [0, 1, 0, 0] ++ octets 5 77))
  [s.with_ [(BANKS.OWNER.OWNER 64, 0x40), (BANKS.OWNER.PEER 64, 3)], base 0 (rn 0x10 [1, 0, 0, 0]), (base 21 (rn 0x24 [])).put ETH.SLSTATE.CUTFROM 2] ++
    ([[1,0,0,1,2,0,0,0,0,0,0,0], [1,0,0,1,2,3,0,10,1,2,3,4], [2,0,0,1,5,3] ++ List.replicate 40 9, [3,0,0,1,65,0,0,0], [3,0,0,1,4,1,2,0], [4,0,0,1,1,5,6,7,8,9,0,100,11,12,13,14]].map fun p => base 0 (rn 0x10 p)) ++
    [(base 0 (rn 0x10 ([2,0,0,1,5,3] ++ List.replicate 40 9))).put (PF.CTRL.EN 5) 1]
def allSts : List State := ((List.range 440).map st1 ++ (List.range 16).map st2 ++ (List.range 2).map st3 ++ (List.range 12).map st4) ++ more
theorem witness_SessionsEnd : (
(let s := allSts.getD 0 State.reset
 let k : Fin 3 := 0
 decide ((s.session k).phase ≠ 1)) &&
(let s := allSts.getD 443 State.reset
 let k : Fin 3 := 0
 decide ((s.session k).phase = 1)) &&
(let s := allSts.getD 0 State.reset
 let k : Fin 3 := 0
 decide ((s.session k).phase ≠ 2)) &&
(let s := allSts.getD 0 State.reset
 let k : Fin 3 := 1
 decide ((s.session k).phase = 2)) &&
(let s := W30.allSts.getD 0 State.reset
 let a : Owner := 0x03#8
 let v : Word := 0x030000021#36
 let own := s.get ETH.LOCALCTL.OWNER
 decide (s.island 28 = 0 ∧ settledB s a = true ∧ a ≠ 0 ∧ v.toNat % 2 = 1 ∧ v.toNat / 2 ^ 28 = a.toNat ∧ own ≠ 0 ∧ own ≠ a.toNat)) &&
(let s := W30.allSts.getD 4 State.reset
 let a : Owner := 0x12#8
 let v : Word := 0x120000001#36
 let own := s.get ETH.LOCALCTL.OWNER
 let silent : Bool := decide (s.get ETH.SLSTATE.STATE = 0 ∨ s.get ETH.SLSTATE.STATE = 7)
 decide (s.island 28 = 0 ∧ settledB s a = true ∧ a ≠ 0 ∧ v.toNat % 2 = 1 ∧ v.toNat / 2 ^ 28 = a.toNat ∧ own = a.toNat ∧ (s.get ETH.LOCALSTAT.BUSY = 1 ∨ silent))) &&
(let s := W30.allSts.getD 6 State.reset
 let a : Owner := 0x12#8
 let v : Word := 0x120000001#36
 let own := s.get ETH.LOCALCTL.OWNER
 let silent : Bool := decide (s.get ETH.SLSTATE.STATE = 0 ∨ s.get ETH.SLSTATE.STATE = 7)
 decide (s.island 28 = 0 ∧ s.get ETH.LOCALSTAT.BUSY = 0 ∧ s.areaOk = false ∧ settledB s a = true ∧ a ≠ 0 ∧ v.toNat % 2 = 1 ∧ v.toNat / 2 ^ 28 = a.toNat ∧ own = a.toNat ∧ ¬silent)) &&
(let s := W30.allSts.getD 0 State.reset
 let a : Owner := 0x12#8
 let v : Word := 0x120004651#36
 let own := s.get ETH.LOCALCTL.OWNER
 let len := v.toNat / 2 % 2 ^ 14
 let silent : Bool := decide (s.get ETH.SLSTATE.STATE = 0 ∨ s.get ETH.SLSTATE.STATE = 7)
 decide (s.island 28 = 0 ∧ s.get ETH.LOCALSTAT.BUSY = 0 ∧ s.areaOk = true ∧ settledB s a = true ∧ a ≠ 0 ∧ v.toNat % 2 = 1 ∧ v.toNat / 2 ^ 28 = a.toNat ∧ own = a.toNat ∧ 8984 < len ∧ ¬silent)) &&
(let s := W30.allSts.getD 0 State.reset
 let a : Owner := 0x12#8
 let v : Word := 0x120000021#36
 let own := s.get ETH.LOCALCTL.OWNER
 let len := v.toNat / 2 % 2 ^ 14
 let f := unpackOctets (s.rds (s.get ETH.LOCALBUF.ADDR) 4)
 decide (s.island 28 = 0 ∧ s.get ETH.LOCALSTAT.BUSY = 0 ∧ s.areaOk = true ∧ s.marks = [] ∧ s.link.run = none ∧ s.link.cut = [] ∧ s.get ETH.LOCALEN.EN = 1 ∧ s.get ETH.SLSTATE.STATE = 1 ∧ 64 ≤ (bankOf? (s.get ETH.LOCALBUF.ADDR)).getD 0 ∧ (∀ b : Fin 68, s.get (BANKS.STATUS.RED b) = 0) ∧ s.bankMay 0x40 ((bankOf? (s.get ETH.LOCALBUF.ADDR)).getD 0) = true ∧ settledB s a = true ∧ a ≠ 0 ∧ v.toNat % 2 = 1 ∧ v.toNat / 2 ^ 28 = a.toNat ∧ own = a.toNat ∧ len = 16 ∧ frameSound false f = true ∧ f.getD 3 0 = 0x20)) &&
(let s := allSts.getD 443 State.reset
 match s.link.run with
 | some r => (
  let sub := r.payload.getD 0 0
  decide (s.carries 1 = true ∧ s.freeSlot = none ∧ r.cmd = 0x01 ∧ r.slot = none ∧ r.via = 1 ∧ r.session = 0 ∧ sub = 1))
 | _ => false) &&
(let s := allSts.getD 440 State.reset
 match s.link.run with
 | some r => (
  let sub := r.payload.getD 0 0
  match s.freeSlot with
  | some k => (
   decide (s.carries 1 = true ∧ s.get SEC.STATUS.TRNGOK = 0 ∧ r.cmd = 0x01 ∧ r.slot = none ∧ r.via = 1 ∧ r.session = 0 ∧ sub = 1))
  | _ => false)
 | _ => false) &&
(let s := allSts.getD 442 State.reset
 match s.link.run with
 | some r => (
  let sub := r.payload.getD 0 0
  match s.freeSlot with
  | some k => (
   decide (s.carries 1 = true ∧ s.get SEC.STATUS.TRNGOK = 1 ∧ r.cmd = 0x01 ∧ r.slot = none ∧ r.via = 1 ∧ r.session = 0 ∧ sub = 1))
  | _ => false)
 | _ => false) &&
(let s := allSts.getD 456 State.reset
 match s.link.run with
 | some r => (
  let sub := r.payload.getD 0 0
  let k : Fin 3 := 1
  decide (s.carries 1 = true ∧ s.slateOut = [] ∧ r.cmd = 0x01 ∧ r.via = 1 ∧ sub = 2 ∧ r.slot = some k.val))
 | _ => false) &&
(let s := allSts.getD 0 State.reset
 match s.link.run with
 | some r => (
  let sub := r.payload.getD 0 0
  let k : Fin 3 := 1
  decide (r.cmd = 0x01 ∧ sub = 3 ∧ servesB s k r = true))
 | _ => false)) = true := by decide +kernel
theorem witness_SessionsEnd_2 : (
(let s := allSts.getD 1 State.reset
 match s.link.run with
 | some r => (
  let sub := r.payload.getD 0 0
  let k : Fin 3 := 1
  decide (r.cmd = 0x01 ∧ r.payload.getD 1 0 < 2 ∧ sub = 4 ∧ servesB s k r = true))
 | _ => false) &&
(let s := allSts.getD 3 State.reset
 match s.link.run with
 | some r => (
  let k : Fin 3 := 1
  decide (s.get SEC.STATUS.TRNGOK = 0 ∧ r.cmd = 0x02 ∧ servesB s k r = true))
 | _ => false) &&
(let s := allSts.getD 23 State.reset
 match s.link.run with
 | some r => (
  let k : Fin 3 := 1
  decide (s.get SEC.STATUS.TRNGOK = 1 ∧ r.cmd = 0x02 ∧ servesB s k r = true))
 | _ => false) &&
(let s := allSts.getD 458 State.reset
 decide (s.link.run = none)) &&
(let s := allSts.getD 458 State.reset
 decide (s.link.run = none ∧ s.link.cut = []))) = true := by decide +kernel
theorem witness_SlateCommands : (
(let s := allSts.getD 24 State.reset
 match s.link.run with
 | some r => (
  let k : Fin 3 := 1
  let p := r.payload
  let n (i w : Nat) : Nat := ofOctets ((p.drop i).take w)
  match bankOf? (n 0 4) with
  | some b => (
   decide (s.otp.level = 0 ∧ (∀ o ∈ r.payload, o < 256) ∧ r.cmd = 0x03 ∧ servesB s k r = true ∧ n 4 2 = 1 ∧ s.markAt (n 0 4) = none ∧ b < 64 ∧ s.get (BANKS.STATUS.RED b) = 0 ∧ s.island (20 + b / 16) = 0 ∧ s.get (BANKS.OWNER.OWNER b) = 0x40))
  | _ => false)
 | _ => false) &&
(let s := allSts.getD 4 State.reset
 match s.link.run with
 | some r => (
  let k : Fin 3 := 1
  let p := r.payload
  let n (i w : Nat) : Nat := ofOctets ((p.drop i).take w)
  match bankOf? (n 0 4) with
  | some b => (
   decide (s.otp.level = 0 ∧ (∀ o ∈ r.payload, o < 256) ∧ r.cmd = 0x03 ∧ servesB s k r = true ∧ n 4 2 = 1 ∧ s.markAt (n 0 4) = none ∧ b < 64 ∧ s.get (BANKS.STATUS.RED b) = 0 ∧ s.island (20 + b / 16) = 0 ∧ s.get (BANKS.OWNER.OWNER b) ≠ 0x40))
  | _ => false)
 | _ => false) &&
(let s := allSts.getD 84 State.reset
 match s.link.run with
 | some r => (
  let k : Fin 3 := 1
  let p := r.payload
  let n (i w : Nat) : Nat := ofOctets ((p.drop i).take w)
  match bankOf? (n 0 4) with
  | some b => (
   decide (s.otp.level ≠ 0 ∧ (∀ o ∈ r.payload, o < 256) ∧ r.cmd = 0x03 ∧ servesB s k r = true ∧ n 4 2 = 1 ∧ s.markAt (n 0 4) = none ∧ b < 64 ∧ s.get (BANKS.STATUS.RED b) = 0 ∧ s.island (20 + b / 16) = 0))
  | _ => false)
 | _ => false) &&
(let s := allSts.getD 25 State.reset
 match s.link.run with
 | some r => (
  let k : Fin 3 := 1
  let p := r.payload
  let n (i w : Nat) : Nat := ofOctets ((p.drop i).take w)
  match bankOf? (n 0 4) with
  | some b => (
   decide ((∀ o ∈ r.payload, o < 256) ∧ r.cmd = 0x04 ∧ servesB s k r = true ∧ p.length = 13 ∧ n 4 2 = 1 ∧ n 8 5 < 2 ^ 36 ∧ b < 64 ∧ s.get (BANKS.STATUS.RED b) = 0 ∧ s.island (20 + b / 16) = 0 ∧ s.get (BANKS.OWNER.OWNER b) = 0x40))
  | _ => false)
 | _ => false) &&
(let s := allSts.getD 470 State.reset
 match s.link.run with
 | some r => (
  let k : Fin 3 := 1
  let p := r.payload
  let n (i w : Nat) : Nat := ofOctets ((p.drop i).take w)
  match bankOf? (n 0 4) with
  | some b => (
   decide ((∀ o ∈ r.payload, o < 256) ∧ r.cmd = 0x04 ∧ servesB s k r = true ∧ p.length = 13 ∧ n 4 2 = 1 ∧ n 8 5 < 2 ^ 36 ∧ s.asleep (n 0 4) = false ∧ 64 ≤ b ∧ s.get (BANKS.STATUS.RED b) = 0 ∧ s.bankMay 0x40 b = true))
  | _ => false)
 | _ => false) &&
(let s := allSts.getD 6 State.reset
 match s.link.run with
 | some r => (
  let k : Fin 3 := 1
  decide ((∀ o ∈ r.payload, o < 256) ∧ r.cmd = 0x11 ∧ servesB s k r = true))
 | _ => false) &&
(let s := allSts.getD 7 State.reset
 match s.link.run with
 | some r => (
  let k : Fin 3 := 1
  let p := r.payload
  let n (i w : Nat) : Nat := ofOctets ((p.drop i).take w)
  decide ((∀ o ∈ r.payload, o < 256) ∧ r.cmd = 0x12 ∧ servesB s k r = true ∧ (32 ≤ p.getD 4 0 ∨ p.getD 5 0 ≠ 0) ∧ n 0 2 = 1))
 | _ => false) &&
(let s := allSts.getD 9 State.reset
 match s.link.run with
 | some r => (
  let k : Fin 3 := 1
  let p := r.payload
  let n (i w : Nat) : Nat := ofOctets ((p.drop i).take w)
  decide ((∀ o ∈ r.payload, o < 256) ∧ r.cmd = 0x12 ∧ servesB s k r = true ∧ n 0 2 = 0))
 | _ => false) &&
(let s := allSts.getD 8 State.reset
 match s.link.run with
 | some r => (
  let k : Fin 3 := 1
  let p := r.payload
  let n (i w : Nat) : Nat := ofOctets ((p.drop i).take w)
  let i : Fin 32 := 19
  decide ((∀ o ∈ r.payload, o < 256) ∧ r.cmd = 0x12 ∧ servesB s k r = true ∧ p.getD 5 0 = 0 ∧ n 0 2 = 1 ∧ p.getD 4 0 = i))
 | _ => false) &&
(let s := allSts.getD 11 State.reset
 match s.link.run with
 | some r => (
  let k : Fin 3 := 1
  let p := r.payload
  decide (s.split = false ∧ (∀ o ∈ r.payload, o < 256) ∧ r.cmd = 0x13 ∧ servesB s k r = true ∧ p.getD 0 0 = 1 ∧ p.length = 54 ∧ 4 ≤ p.getD 4 0))
 | _ => false) &&
(let s := allSts.getD 10 State.reset
 match s.link.run with
 | some r => (
  let k : Fin 3 := 1
  let p := r.payload
  let c : Fin 4 := 2
  decide ((∀ o ∈ r.payload, o < 256) ∧ r.cmd = 0x13 ∧ servesB s k r = true ∧ p.getD 0 0 = 1 ∧ p.length = 54 ∧ p.getD 4 0 = c))
 | _ => false) &&
(let s := allSts.getD 471 State.reset
 match s.link.run with
 | some r => (
  let k : Fin 3 := 1
  let p := r.payload
  let n (i w : Nat) : Nat := ofOctets ((p.drop i).take w)
  decide ((∀ o ∈ r.payload, o < 256) ∧ r.cmd = 0x10 ∧ servesB s k r = true ∧ 1 ≤ p.getD 0 0 ∧ p.getD 0 0 ≤ 3 ∧ p.length = 4 ∧ n 2 2 = 0))
 | _ => false) &&
(let s := allSts.getD 12 State.reset
 match s.link.run with
 | some r => (
  let k : Fin 3 := 1
  let p := r.payload
  let n (i w : Nat) : Nat := ofOctets ((p.drop i).take w)
  decide ((∀ o ∈ r.payload, o < 256) ∧ r.cmd = 0x10 ∧ servesB s k r = true ∧ p.getD 0 0 = 5 ∧ p.length = 8 ∧ n 2 2 = 1))
 | _ => false) &&
(let s := allSts.getD 13 State.reset
 match s.link.run with
 | some r => (
  let k : Fin 3 := 1
  let p := r.payload
  let n (i w : Nat) : Nat := ofOctets ((p.drop i).take w)
  let q : Fin 96 := 7
  decide ((∀ o ∈ r.payload, o < 256) ∧ r.cmd = 0x10 ∧ servesB s k r = true ∧ p.getD 0 0 = 1 ∧ p.length = 12 ∧ p.getD 4 0 = 1 ∧ p.getD 6 0 < 4 ∧ p.getD 7 0 < 16 ∧ p.getD 8 0 < 96 ∧ (p.drop 9).all (· == 0) = true ∧ n 2 2 = 1 ∧ p.getD 5 0 = q ∧ s.get (GP.CTRL.EN q) = 1))
 | _ => false)) = true := by decide +kernel
theorem witness_SlateCommands_2 : (
(let s := allSts.getD 33 State.reset
 match s.link.run with
 | some r => (
  let k : Fin 3 := 1
  let p := r.payload
  let n (i w : Nat) : Nat := ofOctets ((p.drop i).take w)
  let q : Fin 96 := 7
  decide ((∀ o ∈ r.payload, o < 256) ∧ r.cmd = 0x10 ∧ servesB s k r = true ∧ p.getD 0 0 = 1 ∧ p.length = 12 ∧ p.getD 4 0 = 1 ∧ p.getD 6 0 < 4 ∧ p.getD 7 0 < 16 ∧ p.getD 8 0 < 96 ∧ (p.drop 9).all (· == 0) = true ∧ n 2 2 = 1 ∧ p.getD 5 0 = q ∧ s.get (GP.CTRL.EN q) = 0))
 | _ => false) &&
(let s := allSts.getD 473 State.reset
 match s.link.run with
 | some r => (
  let k : Fin 3 := 1
  let p := r.payload
  let n (i w : Nat) : Nat := ofOctets ((p.drop i).take w)
  decide ((∀ o ∈ r.payload, o < 256) ∧ r.cmd = 0x10 ∧ servesB s k r = true ∧ p.getD 0 0 = 1 ∧ p.length = 12 ∧ p.getD 4 0 = 2 ∧ (p.getD 5 0 = 0 ∨ 16 ≤ p.getD 5 0 ∨ p.getD 6 0 ≠ 0 ∨ 16 ≤ p.getD 7 0) ∧ n 2 2 = 1))
 | _ => false) &&
(let s := allSts.getD 474 State.reset
 match s.link.run with
 | some r => (
  let k : Fin 3 := 1
  let p := r.payload
  let n (i w : Nat) : Nat := ofOctets ((p.drop i).take w)
  let q : Fin 16 := 3
  decide ((∀ o ∈ r.payload, o < 256) ∧ r.cmd = 0x10 ∧ servesB s k r = true ∧ p.getD 0 0 = 1 ∧ p.length = 12 ∧ p.getD 4 0 = 2 ∧ p.getD 6 0 = 0 ∧ p.getD 7 0 < 16 ∧ n 2 2 = 1 ∧ q ≠ 0 ∧ p.getD 5 0 = q))
 | _ => false) &&
(let s := allSts.getD 479 State.reset
 match s.link.run with
 | some r => (
  let k : Fin 3 := 1
  let p := r.payload
  let n (i w : Nat) : Nat := ofOctets ((p.drop i).take w)
  let q : Fin 16 := 5
  decide ((∀ o ∈ r.payload, o < 256) ∧ r.cmd = 0x10 ∧ servesB s k r = true ∧ p.getD 0 0 = 2 ∧ p.length = 46 ∧ p.getD 5 0 < 8 ∧ (∀ i : Fin 8, p.getD (6 + 5 * i) 0 < 16) ∧ n 2 2 = 1 ∧ p.getD 4 0 = q ∧ s.get (PF.CTRL.EN q) = 1))
 | _ => false) &&
(let s := allSts.getD 475 State.reset
 match s.link.run with
 | some r => (
  let k : Fin 3 := 1
  let p := r.payload
  let n (i w : Nat) : Nat := ofOctets ((p.drop i).take w)
  let q : Fin 16 := 5
  decide ((∀ o ∈ r.payload, o < 256) ∧ r.cmd = 0x10 ∧ servesB s k r = true ∧ p.getD 0 0 = 2 ∧ p.length = 46 ∧ p.getD 5 0 < 8 ∧ (∀ i : Fin 8, p.getD (6 + 5 * i) 0 < 16) ∧ n 2 2 = 1 ∧ p.getD 4 0 = q ∧ s.get (PF.CTRL.EN q) = 0))
 | _ => false) &&
(let s := allSts.getD 476 State.reset
 match s.link.run with
 | some r => (
  let k : Fin 3 := 1
  let p := r.payload
  let n (i w : Nat) : Nat := ofOctets ((p.drop i).take w)
  decide ((∀ o ∈ r.payload, o < 256) ∧ r.cmd = 0x10 ∧ servesB s k r = true ∧ p.getD 0 0 = 3 ∧ p.length = 8 ∧ (64 ≤ p.getD 4 0 ∨ 2 ≤ p.getD 5 0 ∨ (p.getD 5 0 = 1 ∧ p.getD 4 0 % 2 = 1) ∨ 4 ≤ p.getD 6 0 ∨ p.getD 7 0 ≠ 0) ∧ n 2 2 = 1))
 | _ => false) &&
(let s := allSts.getD 477 State.reset
 match s.link.run with
 | some r => (
  let k : Fin 3 := 1
  let p := r.payload
  let n (i w : Nat) : Nat := ofOctets ((p.drop i).take w)
  let q : Fin 64 := 4
  decide ((∀ o ∈ r.payload, o < 256) ∧ r.cmd = 0x10 ∧ servesB s k r = true ∧ p.getD 0 0 = 3 ∧ p.length = 8 ∧ p.getD 5 0 < 2 ∧ p.getD 6 0 < 4 ∧ p.getD 7 0 = 0 ∧ n 2 2 = 1 ∧ p.getD 4 0 = q ∧ (p.getD 5 0 = 0 ∨ q.val % 2 = 0)))
 | _ => false) &&
(let s := allSts.getD 478 State.reset
 match s.link.run with
 | some r => (
  let k : Fin 3 := 1
  let p := r.payload
  let n (i w : Nat) : Nat := ofOctets ((p.drop i).take w)
  decide ((∀ o ∈ r.payload, o < 256) ∧ r.cmd = 0x10 ∧ servesB s k r = true ∧ p.getD 0 0 = 4 ∧ p.length = 16 ∧ p.getD 4 0 < 2 ∧ p.getD 5 0 < 16 ∧ p.getD 6 0 < 16 ∧ n 2 2 = 1 ∧ n 10 2 < 4096))
 | _ => false)) = true := by decide +kernel
theorem witness_SlateStates : (
(let s := allSts.getD 120 State.reset
 let trim : Bool := decide (s.get SAMP.STATUS.TRIMOK = 1)
 decide (¬ trim)) &&
(let s := allSts.getD 340 State.reset
 let trim : Bool := decide (s.get SAMP.STATUS.TRIMOK = 1)
 let p : Fin 96 := 3
 decide (trim ∧ s.get (GP.CTRL.EN p) = 1 ∧ s.get (GP.SAFE.SCENE p) = 0 ∧ (∀ q : Fin 96, q < p → s.get (GP.CTRL.EN q) = 0 ∨ s.get (GP.SAFE.SCENE q) = 1))) &&
(let s := allSts.getD 240 State.reset
 let ports : Bool := decide (∀ p : Fin 96, s.get (GP.CTRL.EN p) = 1 → s.get (GP.SAFE.SCENE p) = 1)
 let trim : Bool := decide (s.get SAMP.STATUS.TRIMOK = 1)
 let n : Fin 16 := 5
 decide (ports ∧ trim ∧ s.get (PF.CTRL.EN n) = 1 ∧ s.get (PF.STATUS.SCENE n) = 0 ∧ (∀ q : Fin 16, q < n → s.get (PF.CTRL.EN q) = 0 ∨ s.get (PF.STATUS.SCENE q) = 1))) &&
(let s := allSts.getD 60 State.reset
 let ports : Bool := decide (∀ p : Fin 96, s.get (GP.CTRL.EN p) = 1 → s.get (GP.SAFE.SCENE p) = 1)
 let channels : Bool := decide (∀ n : Fin 16, s.get (PF.CTRL.EN n) = 1 → s.get (PF.STATUS.SCENE n) = 1)
 let trim : Bool := decide (s.get SAMP.STATUS.TRIMOK = 1)
 let n : Fin 32 := 2
 decide (ports ∧ channels ∧ trim ∧ s.get (SS.CTRL.EN n) = 1 ∧ s.get (SS.STAT.SCENE n) = 0 ∧ (∀ q : Fin 32, q < n → s.get (SS.CTRL.EN q) = 0 ∨ s.get (SS.STAT.SCENE q) = 1))) &&
(let s := allSts.getD 20 State.reset
 let ports : Bool := decide (∀ p : Fin 96, s.get (GP.CTRL.EN p) = 1 → s.get (GP.SAFE.SCENE p) = 1)
 let channels : Bool := decide (∀ n : Fin 16, s.get (PF.CTRL.EN n) = 1 → s.get (PF.STATUS.SCENE n) = 1)
 let sets : Bool := decide (∀ n : Fin 32, s.get (SS.CTRL.EN n) = 1 → s.get (SS.STAT.SCENE n) = 1)
 let trim : Bool := decide (s.get SAMP.STATUS.TRIMOK = 1)
 decide (s.get GAF.ZSUP.IZ = 0 ∧ ports ∧ channels ∧ sets ∧ trim)) &&
(let s := allSts.getD 100 State.reset
 let ports : Bool := decide (∀ p : Fin 96, s.get (GP.CTRL.EN p) = 1 → s.get (GP.SAFE.SCENE p) = 1)
 let channels : Bool := decide (∀ n : Fin 16, s.get (PF.CTRL.EN n) = 1 → s.get (PF.STATUS.SCENE n) = 1)
 let sets : Bool := decide (∀ n : Fin 32, s.get (SS.CTRL.EN n) = 1 → s.get (SS.STAT.SCENE n) = 1)
 let lacks (p : Fin 96) : Bool := decide (s.get (GP.CTRL.EN p) = 1 ∧ s.get (GP.SAFE.SCLS p) ≠ 0 ∧ s.get (GAF.CLS.IPK (s.get (GP.SAFE.SCLS p))) = 0)
 let trim : Bool := decide (s.get SAMP.STATUS.TRIMOK = 1)
 let p : Fin 96 := 3
 decide (s.get GAF.ZSUP.IZ ≠ 0 ∧ ports ∧ channels ∧ sets ∧ trim ∧ lacks p ∧ (∀ q : Fin 96, q < p → ¬ lacks q))) &&
(let s := allSts.getD 0 State.reset
 let ports : Bool := decide (∀ p : Fin 96, s.get (GP.CTRL.EN p) = 1 → s.get (GP.SAFE.SCENE p) = 1)
 let channels : Bool := decide (∀ n : Fin 16, s.get (PF.CTRL.EN n) = 1 → s.get (PF.STATUS.SCENE n) = 1)
 let sets : Bool := decide (∀ n : Fin 32, s.get (SS.CTRL.EN n) = 1 → s.get (SS.STAT.SCENE n) = 1)
 let lacks (p : Fin 96) : Bool := decide (s.get (GP.CTRL.EN p) = 1 ∧ s.get (GP.SAFE.SCLS p) ≠ 0 ∧ s.get (GAF.CLS.IPK (s.get (GP.SAFE.SCLS p))) = 0)
 let trim : Bool := decide (s.get SAMP.STATUS.TRIMOK = 1)
 decide (s.get GAF.ZSUP.IZ ≠ 0 ∧ ports ∧ channels ∧ sets ∧ (∀ p : Fin 96, ¬ lacks p) ∧ trim)) &&
(let s := allSts.getD 74 State.reset
 let k : Fin 3 := 1
 let st := s.get ETH.SLSTATE.STATE
 match s.link.run with
 | some r => (
  decide (st ≠ 1 ∧ servesB s k r = true ∧ r.cmd = 0x20))
 | _ => false) &&
(let s := allSts.getD 15 State.reset
 let k : Fin 3 := 1
 let st := s.get ETH.SLSTATE.STATE
 match s.link.run with
 | some r => (
  decide (st ≠ 2 ∧ servesB s k r = true ∧ r.cmd = 0x21))
 | _ => false) &&
(let s := allSts.getD 34 State.reset
 let k : Fin 3 := 1
 let st := s.get ETH.SLSTATE.STATE
 match s.link.run with
 | some r => (
  match s.armFault with
  | some info => (
   decide (st = 1 ∧ servesB s k r = true ∧ r.cmd = 0x20))
  | _ => false)
 | _ => false) &&
(let s := allSts.getD 75 State.reset
 let k : Fin 3 := 1
 let st := s.get ETH.SLSTATE.STATE
 match s.link.run with
 | some r => (
  match s.armFault with
  | some info => (
   decide (st = 2 ∧ servesB s k r = true ∧ r.cmd = 0x21))
  | _ => false)
 | _ => false) &&
(let s := allSts.getD 14 State.reset
 let k : Fin 3 := 1
 let st := s.get ETH.SLSTATE.STATE
 match s.link.run with
 | some r => (
  decide (s.armFault = none ∧ st = 1 ∧ servesB s k r = true ∧ r.cmd = 0x20))
 | _ => false) &&
(let s := allSts.getD 95 State.reset
 let k : Fin 3 := 1
 let st := s.get ETH.SLSTATE.STATE
 match s.link.run with
 | some r => (
  decide (s.armFault = none ∧ st = 2 ∧ servesB s k r = true ∧ r.cmd = 0x21))
 | _ => false) &&
(let s := allSts.getD 136 State.reset
 let k : Fin 3 := 1
 let st := s.get ETH.SLSTATE.STATE
 match s.link.run with
 | some r => (
  decide (st = 3 ∧ servesB s k r = true ∧ r.cmd = 0x22))
 | _ => false)) = true := by decide +kernel
theorem witness_SlateStates_2 : (
(let s := allSts.getD 76 State.reset
 let k : Fin 3 := 1
 let st := s.get ETH.SLSTATE.STATE
 match s.link.run with
 | some r => (
  decide (st = 2 ∧ servesB s k r = true ∧ r.cmd = 0x22))
 | _ => false) &&
(let s := allSts.getD 97 State.reset
 let k : Fin 3 := 1
 match s.link.run with
 | some r => (
  decide ((s.get PORTS.CUTSTAT.SIN = 1 ∨ s.get PORTS.CUTSTAT.SCTU = 1 ∨ s.get PORTS.CUTSTAT.SUV = 1) ∧ servesB s k r = true ∧ r.cmd = 0x24))
 | _ => false) &&
(let s := allSts.getD 472 State.reset
 let k : Fin 3 := 1
 let st := s.get ETH.SLSTATE.STATE
 match s.link.run with
 | some r => (
  decide (s.get PORTS.CUTSTAT.SIN = 0 ∧ s.get PORTS.CUTSTAT.SCTU = 0 ∧ s.get PORTS.CUTSTAT.SUV = 0 ∧ (s.get ETH.SLSTATE.CUTFROM = 2 ∨ s.get ETH.SLSTATE.CUTFROM = 3) ∧ st = 4 ∧ servesB s k r = true ∧ r.cmd = 0x24))
 | _ => false) &&
(let s := allSts.getD 217 State.reset
 let k : Fin 3 := 1
 let st := s.get ETH.SLSTATE.STATE
 match s.link.run with
 | some r => (
  decide (s.get PORTS.CUTSTAT.SIN = 0 ∧ s.get PORTS.CUTSTAT.SCTU = 0 ∧ s.get PORTS.CUTSTAT.SUV = 0 ∧ s.get PORTS.CUTSTAT.LATCH = 1 ∧ s.get ETH.SLSTATE.CUTFROM = 1 ∧ st = 4 ∧ servesB s k r = true ∧ r.cmd = 0x24))
 | _ => false) &&
(let s := allSts.getD 18 State.reset
 let k : Fin 3 := 1
 match s.link.run with
 | some r => (
  decide (servesB s k r = true ∧ r.cmd = 0x26))
 | _ => false) &&
(let s := allSts.getD 459 State.reset
 let k : Fin 3 := 1
 match s.link.cut with
 | r :: rest => (
  decide (s.link.run = none ∧ s.get PORTS.CUTSTAT.SHOST = 0 ∧ servesB s k r = true ∧ r.cmd = 0x23))
 | _ => false)) = true := by decide +kernel
end W31

namespace W32
def words (l : List Nat) : List Nat := l.flatMap (octets 5)
def trimP : List Nat :=
  words ([0x7A1 * 2^24 + 2^16 + 2, 1774391903, 1,2,3,4] ++ List.replicate 189 0)
def base (k : Nat) (r : SlateRun) : State :=
  let s := mk [(ETH.SESS.NUMBER 1, 0x1234), (ETH.SESS.TRANSPORT 1, 1), (MAC.CTRL.MACSEC 0, 1), (MAC.CTRL.EN 0, 1), (MAC.STATUS.SYNC 0, 1), (MAC.STATUS.LINK 0, 1), (MAC.CTRL.SLATE 0, 1), (ETH.SLSTATE.STATE, [1,2,3,4].getD (k/3%4) 0), (FLASH.RSSTAT.STATE, [2,2,3,1].getD (k%4) 0),
    (RUSH.CTRL.OWNER 5, if k%2=0 then 0x40 else 0x12), (RUSH.STATUS.STATE 5, [2,4,1,2].getD (k/2%4) 0), (RUSH.POST.POST 5, 6), (RUSH.PRE.PRE 5, k%3), (RUSH.WPTR.WPTR 5, 9), (DDR.STATUS.STATE, 2), (DDR.STATUS.REGIONS, 128), (SYS.CLM.OWNER 0x900, 0x40), (RUSH.BASE.BASE 5, 0x80000000),
    (GP.CTRL.EN 7, if k%5=4 then 1 else 0), (GAF.SLEEPCFG.DEPTH, k%2), (SAMP.STATUS.CALOK, 1), (FLASH.RSSTAT.USABLE, 680), (FLASH.RSWEAR.MAXE, 7)]
  let s := s.putSession 1 { SessSt.atReset 1 with phase := 2, dev := 17, peer := (7,8), opened := 3 }
  let s := s.wrs 0x80000000 ((List.range 40).map rnd)
  let s := if k%4=1 then s.wrs (regionBase (k%3)) [5,6] else s
  let s := if k%6=5 then s.setFlash { s.flash with now := some ⟨0,1,false,false,false,1,0,0⟩ } else s
  let s := s.setBoot { s.boot with region := if k%7=6 then some (k%3) else some 3, token := if k%3=0 then none else some ⟨0, 9, 3⟩ }
  let s := s.setOtp { s.otp with uid := [1,2,3,4] }
  let s := s.setGaf { s.gaf with marks := if k%4=3 then none else some (50,-3,600,700) }
  let s := s.setCtu { s.ctu with order := [3,4,5,6] }
  let s := (List.range 4).foldl (fun s i => s.put (CTU.LOG.W (i+3) 0) (700+i)) s
  let s := s.put (CTU.FCNT.COUNT 0x42) 17
  let s := s.setRecs { s.recs with active := if k%3=0 then some 5 else none, point := 7 }
  let s := if k%8=4 then (storeWrite 48 [1,2,3] { s with }).map (fun q => q.2) |>.getD s else s
  s.setLink { s.link with run := some r }
def rn (cmd : Nat) (p : List Nat) : SlateRun := ⟨1, (7,8), some 1, 0x1234, 99, cmd, p, 0, 0, 0xFFF⟩
def cmds (k : Nat) : List (Nat × List Nat) := [(0x30, [1,k%3,0,0,0,0,0,0,0,0,0,0]), (0x30, [2,k%3,0,0,0,0,0,if k%2=0 then 16 else 0,0,32,0,0] ++ words ((List.range 32).map (fun i => rnd (i+k) % 2^36))), (0x30, [3,k%3,0,0,0,0,0,0,0,0,0,0]),
 (0x31, [0,0,0,0]), (0x31,[1,1,0,0]), (0x31,[0,1,0,0]), (0x38,[]), (0x39, trimP), (0x39, if k%2=0 then trimP.set 1 9 else trimP),
 (0x40,[1,5,0,0,0,0,0,0,0,1]), (0x40,[2,5,0,0,0,0,0,3,0,1]), (0x40,[3,5,0,0,0,0,0,32,0,1]), (0x40,[4,5,0,0,0,0,0,3,0,1]), (0x41,[2,0xBD,k%5,k%4]), (0x25,[])]
def st1 (k : Nat) : State := let c := (cmds (k/15)).getD (k%15) (0,[]); base (k/15) (rn c.1 c.2)
def img (slot len : Nat) : State := (base 0 (rn 0x31 [0,0,0,0])).wrs (regionBase 0) [0xB07 * 2 ^ 24 + 2 ^ 16, slot, 5, regionBase 0 + 16, regionBase 0 + 17, len, 0, 0]
def trimL (crc uid : Nat) : List (List Nat) := ([0x7A1 * 2 ^ 24 + 2 ^ 16 + 2, crc, 1, 2, 3, uid] ++ List.replicate 9 0) :: List.replicate 12 (List.replicate 15 0)
def load : State :=
  let s := base 0 { rn 0x30 [1, 0, 0, 0, 0, 0, 0, 0, 0, 0, 0, 0] with done := 2 }
  let a := regionBase 0 + 0x1000 * 2
  s.setFlash { s.flash with loadOp := some (a, []), runs := [⟨flashBank a, [flashSec a], .load, false⟩] }
def prog : State :=
  let p := [2, 0, 0, 0, 0, 0, 0, 16, 0, 32, 0, 0] ++ words ((List.range 32).map (fun i => rnd i % 2^36))
  let s := base 0 { rn 0x30 p with done := 1 }
  s.setFlash { s.flash with loadOp := some (regionBase 0 + 32, (List.range 16).map (fun i => rnd (16 + i) % 2^36)) }
def allSts : List State := (List.range 360).map st1 ++ [img 2 100, img 2 (2 ^ 32 - 1), load, prog]
set_option maxRecDepth 1000000 in
theorem witness_SlateImages : (
(let s := allSts.getD 0 State.reset
 let g : Fin 4 := 0
 let w (i : Nat) : Nat := s.rd (regionBase g + i)
 let tag : Bool := decide (w 0 / 2 ^ 24 % 2 ^ 12 = 0xB07 ∧ w 0 / 2 ^ 16 % 2 ^ 8 = 1)
 decide (¬tag)) &&
(let s := allSts.getD 361 State.reset
 let g : Fin 4 := 0
 let w (i : Nat) : Nat := s.rd (regionBase g + i)
 let lo := regionBase g + 16
 let hi := lo + w 5 % 2 ^ 32
 let inBody (a : Nat) : Bool := decide (lo ≤ a ∧ a < hi)
 let tag : Bool := decide (w 0 / 2 ^ 24 % 2 ^ 12 = 0xB07 ∧ w 0 / 2 ^ 16 % 2 ^ 8 = 1)
 let fits : Bool := decide (hi + 648 + 1157 ≤ regionBase g + regionLen g ∧ inBody (w 3 % 2 ^ 32) ∧ inBody (w 4 % 2 ^ 32) ∧ (w 6 / 2 % 2 = 1 ↔ 2 ≤ g.val) ∧ (w 6 % 2 = 0 ∨ s.split = false))
 decide (tag ∧ ¬fits)) &&
(let s := allSts.getD 360 State.reset
 let g : Fin 4 := 0
 let w (i : Nat) : Nat := s.rd (regionBase g + i)
 let lo := regionBase g + 16
 let hi := lo + w 5 % 2 ^ 32
 let inBody (a : Nat) : Bool := decide (lo ≤ a ∧ a < hi)
 let key := s.otp.keys.getD (w 1 % 4) none
 let tag : Bool := decide (w 0 / 2 ^ 24 % 2 ^ 12 = 0xB07 ∧ w 0 / 2 ^ 16 % 2 ^ 8 = 1)
 let fits : Bool := decide (hi + 648 + 1157 ≤ regionBase g + regionLen g ∧ inBody (w 3 % 2 ^ 32) ∧ inBody (w 4 % 2 ^ 32) ∧ (w 6 / 2 % 2 = 1 ↔ 2 ≤ g.val) ∧ (w 6 % 2 = 0 ∨ s.split = false))
 let slot : Bool := decide (key ≠ none ∧ s.otp.revoked.contains (w 1 % 4) = false)
 decide (tag ∧ fits ∧ ¬slot)) &&
(let s := allSts.getD 0 State.reset
 decide (s.marks = [] ∧ s.flash.odd = [] ∧ s.flash.torn = [] ∧ s.flash.retired = [] ∧ s.flash.runs = [])) &&
(let s := allSts.getD 0 State.reset
 let l : List (List Nat) := []
 let h (i : Nat) : Nat := (l.headD []).getD i 0
 let tag : Bool := decide (h 0 / 2 ^ 24 % 2 ^ 12 = 0x7A1 ∧ h 0 / 2 ^ 16 % 2 ^ 8 = 1)
 decide (¬tag)) &&
(let s := allSts.getD 0 State.reset
 let l : List (List Nat) := [[32765968386, 0, 1, 2, 3, 4, 0, 0, 0, 0, 0, 0, 0, 0, 0], [0, 0, 0, 0, 0, 0, 0, 0, 0, 0, 0, 0, 0, 0, 0], [0, 0, 0, 0, 0, 0, 0, 0, 0, 0, 0, 0, 0, 0, 0], [0, 0, 0, 0, 0, 0, 0, 0, 0, 0, 0, 0, 0, 0, 0], [0, 0, 0, 0, 0, 0, 0, 0, 0, 0, 0, 0, 0, 0, 0], [0, 0, 0, 0, 0, 0, 0, 0, 0, 0, 0, 0, 0, 0, 0], [0, 0, 0, 0, 0, 0, 0, 0, 0, 0, 0, 0, 0, 0, 0], [0, 0, 0, 0, 0, 0, 0, 0, 0, 0, 0, 0, 0, 0, 0], [0, 0, 0, 0, 0, 0, 0, 0, 0, 0, 0, 0, 0, 0, 0], [0, 0, 0, 0, 0, 0, 0, 0, 0, 0, 0, 0, 0, 0, 0], [0, 0, 0, 0, 0, 0, 0, 0, 0, 0, 0, 0, 0, 0, 0], [0, 0, 0, 0, 0, 0, 0, 0, 0, 0, 0, 0, 0, 0, 0], [0, 0, 0, 0, 0, 0, 0, 0, 0, 0, 0, 0, 0, 0, 0]]
 let h (i : Nat) : Nat := (l.headD []).getD i 0
 let tag : Bool := decide (h 0 / 2 ^ 24 % 2 ^ 12 = 0x7A1 ∧ h 0 / 2 ^ 16 % 2 ^ 8 = 1)
 let crc : Bool := decide (h 1 % 2 ^ 32 = trimCrc l.tail.flatten)
 decide (tag ∧ ¬crc)) &&
(let s := allSts.getD 0 State.reset
 let l : List (List Nat) := [[32765968386, 1774391903, 1, 2, 3, 5, 0, 0, 0, 0, 0, 0, 0, 0, 0], [0, 0, 0, 0, 0, 0, 0, 0, 0, 0, 0, 0, 0, 0, 0], [0, 0, 0, 0, 0, 0, 0, 0, 0, 0, 0, 0, 0, 0, 0], [0, 0, 0, 0, 0, 0, 0, 0, 0, 0, 0, 0, 0, 0, 0], [0, 0, 0, 0, 0, 0, 0, 0, 0, 0, 0, 0, 0, 0, 0], [0, 0, 0, 0, 0, 0, 0, 0, 0, 0, 0, 0, 0, 0, 0], [0, 0, 0, 0, 0, 0, 0, 0, 0, 0, 0, 0, 0, 0, 0], [0, 0, 0, 0, 0, 0, 0, 0, 0, 0, 0, 0, 0, 0, 0], [0, 0, 0, 0, 0, 0, 0, 0, 0, 0, 0, 0, 0, 0, 0], [0, 0, 0, 0, 0, 0, 0, 0, 0, 0, 0, 0, 0, 0, 0], [0, 0, 0, 0, 0, 0, 0, 0, 0, 0, 0, 0, 0, 0, 0], [0, 0, 0, 0, 0, 0, 0, 0, 0, 0, 0, 0, 0, 0, 0], [0, 0, 0, 0, 0, 0, 0, 0, 0, 0, 0, 0, 0, 0, 0]]
 let h (i : Nat) : Nat := (l.headD []).getD i 0
 let tag : Bool := decide (h 0 / 2 ^ 24 % 2 ^ 12 = 0x7A1 ∧ h 0 / 2 ^ 16 % 2 ^ 8 = 1)
 let crc : Bool := decide (h 1 % 2 ^ 32 = trimCrc l.tail.flatten)
 let uid : Bool := decide (((l.headD []).drop 2).take 4 = s.otp.uid)
 decide (tag ∧ crc ∧ ¬uid)) &&
(let s := allSts.getD 90 State.reset
 match s.link.run with
 | some r => (
  let k : Fin 3 := 1
  let p := r.payload
  let sub := p.getD 0 0
  let g := p.getD 1 0
  decide (s.flash.loadOp = none ∧ (∀ o ∈ r.payload, o < 256) ∧ r.cmd = 0x30 ∧ servesB s k r = true ∧ sub = 1 ∧ s.boot.region = some g))
 | _ => false) &&
(let s := allSts.getD 91 State.reset
 match s.link.run with
 | some r => (
  let k : Fin 3 := 1
  let p := r.payload
  let sub := p.getD 0 0
  let g := p.getD 1 0
  decide (s.flash.loadOp = none ∧ (∀ o ∈ r.payload, o < 256) ∧ r.cmd = 0x30 ∧ servesB s k r = true ∧ sub = 2 ∧ s.boot.region = some g))
 | _ => false) &&
(let s := allSts.getD 75 State.reset
 match s.link.run with
 | some r => (
  let k : Fin 3 := 1
  let p := r.payload
  let sub := p.getD 0 0
  let g := p.getD 1 0
  decide (s.flash.now ≠ none ∧ s.flash.loadOp = none ∧ (∀ o ∈ r.payload, o < 256) ∧ r.cmd = 0x30 ∧ r.done = 0 ∧ r.first = 0xFFF ∧ servesB s k r = true ∧ sub = 1 ∧ s.boot.region ≠ some g ∧ g < 4))
 | _ => false) &&
(let s := allSts.getD 76 State.reset
 match s.link.run with
 | some r => (
  let k : Fin 3 := 1
  let p := r.payload
  let sub := p.getD 0 0
  let g := p.getD 1 0
  decide (s.flash.now ≠ none ∧ s.flash.loadOp = none ∧ (∀ o ∈ r.payload, o < 256) ∧ r.cmd = 0x30 ∧ r.done = 0 ∧ r.first = 0xFFF ∧ servesB s k r = true ∧ sub = 2 ∧ s.boot.region ≠ some g ∧ g < 4))
 | _ => false) &&
(let s := allSts.getD 77 State.reset
 match s.link.run with
 | some r => (
  let k : Fin 3 := 1
  let p := r.payload
  let sub := p.getD 0 0
  let g := p.getD 1 0
  decide (s.flash.now ≠ none ∧ s.flash.loadOp = none ∧ (∀ o ∈ r.payload, o < 256) ∧ r.cmd = 0x30 ∧ r.done = 0 ∧ r.first = 0xFFF ∧ servesB s k r = true ∧ sub = 3 ∧ s.boot.region ≠ some g ∧ g < 4))
 | _ => false) &&
(let s := allSts.getD 0 State.reset
 match s.link.run with
 | some r => (
  let k : Fin 3 := 1
  let p := r.payload
  let sub := p.getD 0 0
  let g := p.getD 1 0
  let idle : Bool := decide (s.flash.now = none ∧ s.flash.prog = none ∧ s.flash.wipe = false ∧ s.flash.copies = [] ∧ s.flash.torn = [] ∧ s.flash.retired = [] ∧ s.flash.odd = [] ∧ s.marks = [])
  decide (s.flash.runs = [] ∧ s.flash.loadOp = none ∧ (∀ o ∈ r.payload, o < 256) ∧ r.cmd = 0x30 ∧ servesB s k r = true ∧ sub = 1 ∧ s.boot.region ≠ some g ∧ g < 4 ∧ r.done < regionLen g / 0x1000 ∧ idle))
 | _ => false) &&
(let s := allSts.getD 362 State.reset
 match s.link.run with
 | some r => (
  let k : Fin 3 := 1
  let p := r.payload
  let sub := p.getD 0 0
  let g := p.getD 1 0
  let idle : Bool := decide (s.flash.now = none ∧ s.flash.prog = none ∧ s.flash.wipe = false ∧ s.flash.copies = [] ∧ s.flash.torn = [] ∧ s.flash.retired = [] ∧ s.flash.odd = [] ∧ s.marks = [])
  let a := regionBase g + 0x1000 * r.done
  decide ((∀ o ∈ r.payload, o < 256) ∧ r.cmd = 0x30 ∧ servesB s k r = true ∧ sub = 1 ∧ s.boot.region ≠ some g ∧ g < 4 ∧ r.done < regionLen g / 0x1000 ∧ idle ∧ s.flash.loadOp = some (a, []) ∧ s.flash.runs = [⟨flashBank a, [flashSec a], .load, false⟩]))
 | _ => false)) = true := by decide +kernel
set_option maxRecDepth 1000000 in
theorem witness_SlateImages_2 : (
(let s := allSts.getD 1 State.reset
 match s.link.run with
 | some r => (
  let k : Fin 3 := 1
  let p := r.payload
  let n (i w : Nat) : Nat := ofOctets ((p.drop i).take w)
  let sub := p.getD 0 0
  let g := p.getD 1 0
  let idle : Bool := decide (s.flash.now = none ∧ s.flash.prog = none ∧ s.flash.wipe = false ∧ s.flash.copies = [] ∧ s.flash.torn = [] ∧ s.flash.retired = [] ∧ s.flash.odd = [] ∧ s.marks = [])
  let a := regionBase g + n 4 4
  decide (s.flash.runs = [] ∧ s.flash.loadOp = none ∧ (∀ o ∈ r.payload, o < 256) ∧ r.cmd = 0x30 ∧ r.first = 0xFFF ∧ servesB s k r = true ∧ n 4 4 % 16 = 0 ∧ n 8 2 % 16 = 0 ∧ 0 < n 8 2 ∧ p.length = 12 + 5 * n 8 2 ∧ (∀ i < n 8 2, p.getD (12 + 5 * i) 0 < 16) ∧ r.done < n 8 2 / 16 ∧ sub = 2 ∧ s.boot.region ≠ some g ∧ g < 4 ∧ n 4 4 + n 8 2 ≤ regionLen g ∧ idle ∧ (∀ i < n 8 2, 16 * r.done ≤ i → s.rd (a + i) = 0xFFFFFFFFF)))
 | _ => false) &&
(let s := allSts.getD 16 State.reset
 match s.link.run with
 | some r => (
  let k : Fin 3 := 1
  let p := r.payload
  let n (i w : Nat) : Nat := ofOctets ((p.drop i).take w)
  let sub := p.getD 0 0
  let g := p.getD 1 0
  let idle : Bool := decide (s.flash.now = none ∧ s.flash.prog = none ∧ s.flash.wipe = false ∧ s.flash.copies = [] ∧ s.flash.torn = [] ∧ s.flash.retired = [] ∧ s.flash.odd = [] ∧ s.marks = [])
  let a := regionBase g + n 4 4
  decide (s.flash.runs = [] ∧ s.flash.loadOp = none ∧ (∀ o ∈ r.payload, o < 256) ∧ r.cmd = 0x30 ∧ r.first = 0xFFF ∧ servesB s k r = true ∧ n 4 4 % 16 = 0 ∧ n 8 2 % 16 = 0 ∧ 0 < n 8 2 ∧ p.length = 12 + 5 * n 8 2 ∧ (∀ i < n 8 2, p.getD (12 + 5 * i) 0 < 16) ∧ r.done < n 8 2 / 16 ∧ sub = 2 ∧ s.boot.region ≠ some g ∧ g < 4 ∧ n 4 4 + n 8 2 ≤ regionLen g ∧ idle ∧ s.rd (a + 16 * r.done) ≠ 0xFFFFFFFFF))
 | _ => false) &&
(let s := allSts.getD 363 State.reset
 match s.link.run with
 | some r => (
  let k : Fin 3 := 1
  let p := r.payload
  let n (i w : Nat) : Nat := ofOctets ((p.drop i).take w)
  let sub := p.getD 0 0
  let g := p.getD 1 0
  let idle : Bool := decide (s.flash.now = none ∧ s.flash.prog = none ∧ s.flash.wipe = false ∧ s.flash.copies = [] ∧ s.flash.torn = [] ∧ s.flash.retired = [] ∧ s.flash.odd = [] ∧ s.marks = [])
  let a := regionBase g + n 4 4
  let words (i : Nat) : List Nat := (List.range 16).map (fun j => n (12 + 5 * (16 * i + j)) 5)
  decide (s.flash.runs = [] ∧ (∀ o ∈ r.payload, o < 256) ∧ r.cmd = 0x30 ∧ r.first = 0xFFF ∧ servesB s k r = true ∧ n 4 4 % 16 = 0 ∧ n 8 2 % 16 = 0 ∧ 0 < n 8 2 ∧ p.length = 12 + 5 * n 8 2 ∧ (∀ i < n 8 2, p.getD (12 + 5 * i) 0 < 16) ∧ r.done < n 8 2 / 16 ∧ sub = 2 ∧ s.boot.region ≠ some g ∧ g < 4 ∧ n 4 4 + n 8 2 ≤ regionLen g ∧ idle ∧ (∀ i < n 8 2, 16 * (r.done + 1) ≤ i → s.rd (a + i) = 0xFFFFFFFFF) ∧ s.flash.loadOp = some (a + 16 * r.done, words r.done)))
 | _ => false) &&
(let s := allSts.getD 2 State.reset
 match s.link.run with
 | some r => (
  let k : Fin 3 := 1
  let p := r.payload
  let sub := p.getD 0 0
  let g := p.getD 1 0
  let idle : Bool := decide (s.flash.now = none ∧ s.flash.prog = none ∧ s.flash.wipe = false ∧ s.flash.copies = [] ∧ s.flash.torn = [] ∧ s.flash.retired = [] ∧ s.flash.odd = [] ∧ s.marks = [])
  let quiet : Bool := decide (idle ∧ s.flash.runs = [] ∧ s.flash.loadOp = none)
  decide ((∀ o ∈ r.payload, o < 256) ∧ r.cmd = 0x30 ∧ servesB s k r = true ∧ sub = 3 ∧ s.boot.region ≠ some g ∧ g < 4 ∧ quiet))
 | _ => false) &&
(let s := allSts.getD 18 State.reset
 match s.link.run with
 | some r => (
  let k : Fin 3 := 1
  let p := r.payload
  let sub := p.getD 0 0
  decide ((∀ o ∈ r.payload, o < 256) ∧ r.cmd = 0x31 ∧ servesB s k r = true ∧ s.boot.token.map (fun x => x.region) = some sub ∧ sub < 2))
 | _ => false) &&
(let s := allSts.getD 3 State.reset
 match s.link.run with
 | some r => (
  let k : Fin 3 := 1
  decide (s.boot.token = none ∧ (∀ o ∈ r.payload, o < 256) ∧ r.cmd = 0x31 ∧ servesB s k r = true))
 | _ => false) &&
(let s := allSts.getD 51 State.reset
 match s.link.run with
 | some r => (
  let k : Fin 3 := 1
  let st := s.get FLASH.RSSTAT.STATE
  decide ((∀ o ∈ r.payload, o < 256) ∧ r.cmd = 0x38 ∧ servesB s k r = true ∧ st ≠ 2 ∧ st ≠ 3))
 | _ => false) &&
(let s := allSts.getD 6 State.reset
 match s.link.run with
 | some r => (
  let k : Fin 3 := 1
  let st := s.get FLASH.RSSTAT.STATE
  decide ((∀ o ∈ r.payload, o < 256) ∧ r.cmd = 0x38 ∧ servesB s k r = true ∧ (st = 2 ∨ st = 3)))
 | _ => false) &&
(let s := allSts.getD 186 State.reset
 match s.link.run with
 | some r => (
  let k : Fin 3 := 1
  let st := s.get FLASH.RSSTAT.STATE
  match (storeGet 48 s).1 with
  | some d => (
   decide ((∀ o ∈ r.payload, o < 256) ∧ r.cmd = 0x38 ∧ servesB s k r = true ∧ (st = 2 ∨ st = 3)))
  | _ => false)
 | _ => false) &&
(let s := allSts.getD 37 State.reset
 match s.link.run with
 | some r => (
  let k : Fin 3 := 1
  let st := s.get FLASH.RSSTAT.STATE
  decide ((∀ o ∈ r.payload, o < 256) ∧ r.cmd = 0x39 ∧ servesB s k r = true ∧ st ≠ 2))
 | _ => false) &&
(let s := allSts.getD 8 State.reset
 match s.link.run with
 | some r => (
  let k : Fin 3 := 1
  let p := r.payload
  let st := s.get FLASH.RSSTAT.STATE
  let recs := chunks 15 13 ((wordFields 195 p).getD [])
  decide ((∀ o ∈ r.payload, o < 256) ∧ r.cmd = 0x39 ∧ servesB s k r = true ∧ st = 2 ∧ s.trimFails (some recs) ≠ none))
 | _ => false) &&
(let s := allSts.getD 22 State.reset
 match s.link.run with
 | some r => (
  let k : Fin 3 := 1
  let p := r.payload
  let st := s.get FLASH.RSSTAT.STATE
  let recs := chunks 15 13 ((wordFields 195 p).getD [])
  decide (s.recs.active = none ∧ s.recs.ahead = [] ∧ (∀ o ∈ r.payload, o < 256) ∧ r.cmd = 0x39 ∧ servesB s k r = true ∧ st = 2 ∧ s.trimFails (some recs) = none))
 | _ => false) &&
(let s := allSts.getD 7 State.reset
 match s.link.run with
 | some r => (
  let k : Fin 3 := 1
  let p := r.payload
  let st := s.get FLASH.RSSTAT.STATE
  let recs := chunks 15 13 ((wordFields 195 p).getD [])
  match s.recs.active with
  | some x => (
   decide (s.recs.point + 13 ≤ 64 ∧ s.recs.index = [] ∧ s.marks = [] ∧ (∀ o ∈ r.payload, o < 256) ∧ r.cmd = 0x39 ∧ servesB s k r = true ∧ st = 2 ∧ s.trimFails (some recs) = none ∧ 688 > x))
  | _ => false)
 | _ => false)) = true := by decide +kernel
theorem witness_SlateRushes : (
(let s := allSts.getD 9 State.reset
 match s.link.run with
 | some r => (
  let k : Fin 3 := 1
  let p := r.payload
  let sub := p.getD 0 0
  let c : Fin 32 := 5
  decide (s.island 27 = 0 ∧ (∀ o ∈ r.payload, o < 256) ∧ r.cmd = 0x40 ∧ servesB s k r = true ∧ sub = 1 ∧ p.getD 1 0 = c.val))
 | _ => false) &&
(let s := allSts.getD 10 State.reset
 match s.link.run with
 | some r => (
  let k : Fin 3 := 1
  let p := r.payload
  let n (i w : Nat) : Nat := ofOctets ((p.drop i).take w)
  let sub := p.getD 0 0
  let c : Fin 32 := 5
  let a := s.get (RUSH.BASE.BASE c) + 2 * (n 4 4 % 2 ^ s.rushLog c)
  decide (s.marks = [] ∧ s.otp.level = 0 ∧ s.get DDR.STATUS.STATE = 2 ∧ 1 ≤ s.get DDR.STATUS.REGIONS ∧ s.island 27 = 0 ∧ s.get (SYS.CLM.OWNER 0x900) = 0x40 ∧ (∀ o ∈ r.payload, o < 256) ∧ r.cmd = 0x40 ∧ servesB s k r = true ∧ n 8 2 = 1 ∧ sub = 2 ∧ p.getD 1 0 = c.val ∧ ddrBase ≤ a ∧ a + 1 < ddrBase + 2 ^ 24))
 | _ => false) &&
(let s := allSts.getD 26 State.reset
 match s.link.run with
 | some r => (
  let k : Fin 3 := 1
  let p := r.payload
  let n (i w : Nat) : Nat := ofOctets ((p.drop i).take w)
  let sub := p.getD 0 0
  let c : Fin 32 := 5
  decide ((∀ o ∈ r.payload, o < 256) ∧ r.cmd = 0x40 ∧ servesB s k r = true ∧ sub = 3 ∧ p.getD 1 0 = c.val ∧ n 4 4 = 2 ^ c.val ∧ s.get (RUSH.CTRL.OWNER c) ≠ 0x40))
 | _ => false) &&
(let s := allSts.getD 11 State.reset
 match s.link.run with
 | some r => (
  let k : Fin 3 := 1
  let p := r.payload
  let n (i w : Nat) : Nat := ofOctets ((p.drop i).take w)
  let sub := p.getD 0 0
  let c : Fin 32 := 5
  decide (s.unsynced 27 = false ∧ (∀ o ∈ r.payload, o < 256) ∧ r.cmd = 0x40 ∧ servesB s k r = true ∧ sub = 3 ∧ p.getD 1 0 = c.val ∧ n 4 4 = 2 ^ c.val ∧ s.get (RUSH.CTRL.OWNER c) = 0x40 ∧ s.get (RUSH.STATUS.STATE c) = 2 ∧ s.get (RUSH.POST.POST c) ≠ 0))
 | _ => false) &&
(let s := allSts.getD 27 State.reset
 match s.link.run with
 | some r => (
  let k : Fin 3 := 1
  let p := r.payload
  let sub := p.getD 0 0
  let c : Fin 32 := 5
  decide ((∀ o ∈ r.payload, o < 256) ∧ r.cmd = 0x40 ∧ servesB s k r = true ∧ sub = 4 ∧ p.getD 1 0 = c.val ∧ s.get (RUSH.CTRL.OWNER c) ≠ 0x40))
 | _ => false) &&
(let s := allSts.getD 42 State.reset
 match s.link.run with
 | some r => (
  let k : Fin 3 := 1
  let p := r.payload
  let sub := p.getD 0 0
  let c : Fin 32 := 5
  decide ((∀ o ∈ r.payload, o < 256) ∧ r.cmd = 0x40 ∧ servesB s k r = true ∧ sub = 4 ∧ p.getD 1 0 = c.val ∧ s.get (RUSH.CTRL.OWNER c) = 0x40 ∧ s.get (RUSH.STATUS.STATE c) = 4))
 | _ => false) &&
(let s := allSts.getD 13 State.reset
 match s.link.run with
 | some r => (
  let k : Fin 3 := 1
  match s.gaf.marks with
  | some m => (
   decide ((∀ o ∈ r.payload, o < 256) ∧ r.cmd = 0x41 ∧ servesB s k r = true))
  | _ => false)
 | _ => false) &&
(let s := allSts.getD 104 State.reset
 match s.link.run with
 | some r => (
  let k : Fin 3 := 1
  let st := s.get ETH.SLSTATE.STATE
  decide ((∀ o ∈ r.payload, o < 256) ∧ r.cmd = 0x25 ∧ servesB s k r = true ∧ st ≠ 1 ∧ st ≠ 2))
 | _ => false) &&
(let s := allSts.getD 74 State.reset
 match s.link.run with
 | some r => (
  let k : Fin 3 := 1
  let st := s.get ETH.SLSTATE.STATE
  let q : Fin 96 := 7
  decide ((∀ o ∈ r.payload, o < 256) ∧ r.cmd = 0x25 ∧ servesB s k r = true ∧ (st = 1 ∨ st = 2) ∧ s.get (GP.CTRL.EN q) = 1 ∧ (∀ j : Fin 96, j < q → s.get (GP.CTRL.EN j) = 0)))
 | _ => false) &&
(let s := allSts.getD 14 State.reset
 match s.link.run with
 | some r => (
  let k : Fin 3 := 1
  let st := s.get ETH.SLSTATE.STATE
  decide ((∀ q : Fin 96, s.get (GP.CTRL.EN q) = 0) ∧ (∀ o ∈ r.payload, o < 256) ∧ r.cmd = 0x25 ∧ servesB s k r = true ∧ (st = 1 ∨ st = 2)))
 | _ => false)) = true := by decide +kernel
end W32

namespace W33
def st1 (k : Nat) : State :=
  let m := k%2
  let s := mk [(MAC.CTRL.EN m, if k%7=6 then 0 else 1), (MAC.STATUS.SYNC m,1), (MAC.STATUS.LINK m,1), (MAC.CTRL.IP4EN m, k/2%2), (MAC.IP4.ADDR m, 0x0A000001), (MAC.CTRL.IP6EN m, 1), (MAC.CTRL.PTP m, k/4%2), (MAC.PTPSTAT.LOCK m, k/3%2), (MAC.ADDRL.ADDR m, 0x0A0B0C), (MAC.MDIO.GO m, k/2%2),
    (MAC.ADDRH.ADDR m, 0),
    (CAN.CTRL.EN 1, k%4/2), (CAN.CTRL.SLATE 1, k%3%2), (CAN.CTRL.MODE 1, 2), (CAN.CTRL.EN 2, k%4/2), (CAN.CTRL.MODE 2, 2), (CAN.CTRL.SLATE 2, 1), (ETH.SLSTATE.STATE, 1), (CAN.STATUS.BUSOFF 1, if k%5=4 then 1 else 0), (CAN.CTRL.OWNER 1, [0,0x12].getD (k%4/2) 0), (SEC.WDSTAT.REM, 0),
    (BANKS.OWNER.OWNER 64, 0x12), (BANKS.OWNER.PEER 64, 0x40), (CAN.RXBASE.BASE 1, 0x01100100), (CAN.RXSIZE.SIZE 1, 64), (CAN.TXBASE.BASE 1, 0x01100200), (CAN.TXSIZE.SIZE 1, 64), (CAN.RXW.PTR 1, k%3*8), (CAN.RXR.PTR 1, k/3%3*8), (CAN.TXR.PTR 1, 8), (CAN.TXW.PTR 1, k/4%2*8 + 8),
    (SPI.CTRL.EN 3, k%2), (SPI.CTRL.OWNER 3, if k%2=1 then 0x12 else 0), (SPI.CTRL.WIDTH 3, k%40), (UART.CTRL.EN 1, k%2), (UART.CTRL.OWNER 1, if k%4=2 then 0 else 0x12), (SYS.CLM.OWNER 0x811, if k%4=2 then 0 else 0x12), (SYS.CLM.FEATURE 0x811, if k%4=2 then 0 else 0x431), (UART.CTRL.BITS 1, k%4), (SYS.CLM.OWNER 0x803, if k%6=4 then 5 else 0), (SYS.CLM.FEATURE 0x803, if k%6=4 then 0x999 else 0)]
  let s := if k%2=0 then s.setTcRun true else s
  let s := s.wrs 0x01100208 ([2*2^12 + 9, 0x81, 5, 6, 0] ++ [0x01020304, 0x05060708, 0x09000000])
  let fr : Frag := ⟨m, false, 77, 0x0A000001, 5, [(0, [1,2])], none, 3⟩
  let s := s.putSerial 3 ⟨List.range (k%9), List.range (k/2%9)⟩
  let s := s.putSerial 9 ⟨List.range (k%17), List.range (k/2%17)⟩
  s.setLink { s.link with frags := if k%3=2 then [fr] else [], mdio := if k%3=2 then [(m, k%2=0, 3, 4, 5)] else [], syncs := if k%2=0 then [(m, 50)] else [], parts := if k%5<3 then [] else [(1, ⟨5, k%2, [9,9], 3⟩)] }
def more : List State :=
  let up (k : Nat) := (st1 k).with_ [(MAC.CTRL.EN 0, 1), (MAC.CTRL.SLATE 0, 1), (MAC.CTRL.PTP 0, 1)]
  (List.range 12).map (fun k => (st1 k).put (ISL.STAT.STATE 28) 2) ++ [(up 2).put (ISL.STAT.STATE 28) 2, (up 2).setSyncWait [28], (st1 1).with_ [(SYS.CLM.OWNER 0x821, 5), (SYS.CLM.FEATURE 0x821, 0x999)], (st1 6).with_ [(CAN.CTRL.SLATE 1, 0), (CAN.CTRL.MODE 1, 1)]]
def allSts : List State := ((List.range 200).map st1) ++ more
theorem witness_MacLinks : (
(let s := allSts.getD 0 State.reset
 let m : Fin 2 := 1
 let runs : Bool := decide (s.get (MAC.CTRL.EN m) = 1 ∧ s.get (MAC.STATUS.SYNC m) = 1 ∧ s.get (MAC.STATUS.LINK m) = 1 ∧ s.get (MAC.STATUS.SPEEDERR m) = 0)
 decide (s.island 28 = 0 ∧ ¬ runs)) &&
(let s := allSts.getD 200 State.reset
 let m : Fin 2 := 0
 let runs : Bool := decide (s.get (MAC.CTRL.EN m) = 1 ∧ s.get (MAC.STATUS.SYNC m) = 1 ∧ s.get (MAC.STATUS.LINK m) = 1 ∧ s.get (MAC.STATUS.SPEEDERR m) = 0)
 decide (2 ≤ s.island 28 ∧ runs)) &&
(let s := allSts.getD 212 State.reset
 decide (2 ≤ s.island 28 ∧ s.carries 1 = true)) &&
(let s := allSts.getD 0 State.reset
 let m : Fin 2 := 0
 let runs : Bool := decide (s.get (MAC.CTRL.EN m) = 1 ∧ s.get (MAC.STATUS.SYNC m) = 1 ∧ s.get (MAC.STATUS.LINK m) = 1 ∧ s.get (MAC.STATUS.SPEEDERR m) = 0)
 decide (s.island 28 = 0 ∧ s.get (MAC.CTRL.MACSEC m) = 0 ∧ s.get (MAC.CTRL.VLANEN m) = 0 ∧ runs)) &&
(let s := allSts.getD 2 State.reset
 let m : Fin 2 := 0
 let runs : Bool := decide (s.get (MAC.CTRL.EN m) = 1 ∧ s.get (MAC.STATUS.SYNC m) = 1 ∧ s.get (MAC.STATUS.LINK m) = 1 ∧ s.get (MAC.STATUS.SPEEDERR m) = 0)
 let a : BitVec 32 := 0x0a000001#32
 decide (s.island 28 = 0 ∧ s.get (MAC.CTRL.MACSEC m) = 0 ∧ s.get (MAC.CTRL.VLANEN m) = 0 ∧ s.get (MAC.CTRL.IP4EN m) = 1 ∧ runs ∧ a.toNat = s.get (MAC.IP4.ADDR m))) &&
(let s := allSts.getD 0 State.reset
 let m : Fin 2 := 0
 let runs : Bool := decide (s.get (MAC.CTRL.EN m) = 1 ∧ s.get (MAC.STATUS.SYNC m) = 1 ∧ s.get (MAC.STATUS.LINK m) = 1 ∧ s.get (MAC.STATUS.SPEEDERR m) = 0)
 let a : BitVec 32 := 0x0a000001#32
 decide (s.island 28 = 0 ∧ s.get (MAC.CTRL.MACSEC m) = 0 ∧ s.get (MAC.CTRL.VLANEN m) = 0 ∧ runs ∧ (s.get (MAC.CTRL.IP4EN m) = 0 ∨ a.toNat ≠ s.get (MAC.IP4.ADDR m)))) &&
(let s := allSts.getD 0 State.reset
 let m : Fin 2 := 0
 let runs : Bool := decide (s.get (MAC.CTRL.EN m) = 1 ∧ s.get (MAC.STATUS.SYNC m) = 1 ∧ s.get (MAC.STATUS.LINK m) = 1 ∧ s.get (MAC.STATUS.SPEEDERR m) = 0)
 let a : BitVec 128 := 0xfe80000000000000020000fffe0a0b0c#128
 decide (s.island 28 = 0 ∧ s.get (MAC.CTRL.MACSEC m) = 0 ∧ s.get (MAC.CTRL.VLANEN m) = 0 ∧ s.get (MAC.CTRL.IP6EN m) = 1 ∧ runs ∧ a.toNat = s.linkLocal m)) &&
(let s := allSts.getD 3 State.reset
 let m : Fin 2 := 1
 let runs : Bool := decide (s.get (MAC.CTRL.EN m) = 1 ∧ s.get (MAC.STATUS.SYNC m) = 1 ∧ s.get (MAC.STATUS.LINK m) = 1 ∧ s.get (MAC.STATUS.SPEEDERR m) = 0)
 let a : BitVec 128 := 0x0000000000000000000000000a000001#128
 let d : List (BitVec 8) := [0x01#8, 0x02#8, 0x03#8, 0x04#8, 0x05#8, 0x06#8, 0x07#8, 0x08#8, 0x09#8]
 decide (s.island 28 = 0 ∧ s.link.frags = [] ∧ s.get (MAC.CTRL.MACSEC m) = 0 ∧ s.get (MAC.CTRL.VLANEN m) = 0 ∧ s.get (MAC.CTRL.IP4EN m) = 1 ∧ runs ∧ a.toNat = s.get (MAC.IP4.ADDR m) ∧ ofOctets (((d.map BitVec.toNat).drop 2).take 2) ≠ s.get (MAC.PORT.PORT m))) &&
(let s := allSts.getD 3 State.reset
 let m : Fin 2 := 1
 let runs : Bool := decide (s.get (MAC.CTRL.EN m) = 1 ∧ s.get (MAC.STATUS.SYNC m) = 1 ∧ s.get (MAC.STATUS.LINK m) = 1 ∧ s.get (MAC.STATUS.SPEEDERR m) = 0)
 let a : BitVec 128 := 0x0000000000000000000000000a000001#128
 let d : List (BitVec 8) := [0x01#8, 0x02#8, 0x03#8, 0x04#8, 0x05#8, 0x06#8, 0x07#8, 0x08#8, 0x09#8]
 decide (s.island 28 = 0 ∧ s.link.frags = [] ∧ s.get (MAC.CTRL.MACSEC m) = 0 ∧ s.get (MAC.CTRL.VLANEN m) = 0 ∧ s.get (MAC.CTRL.IP4EN m) = 1 ∧ runs ∧ a.toNat = s.get (MAC.IP4.ADDR m) ∧ d.length ≤ 9028)) &&
(let s := allSts.getD 0 State.reset
 decide (s.link.frags = [])) &&
(let s := allSts.getD 2 State.reset
 match s.link.frags with
 | x :: rest => (
  true)
 | _ => false) &&
(let s := allSts.getD 213 State.reset
 let m : Fin 2 := 0
 let runs : Bool := decide (s.get (MAC.CTRL.EN m) = 1 ∧ s.get (MAC.STATUS.SYNC m) = 1 ∧ s.get (MAC.STATUS.LINK m) = 1 ∧ s.get (MAC.STATUS.SPEEDERR m) = 0)
 decide (s.island 28 = 0 ∧ s.unsynced 28 = true ∧ s.get (MAC.CTRL.PTP m) = 1 ∧ (m = 0 ∨ s.get (MAC.CTRL.PTP 0) = 0) ∧ runs)) &&
(let s := allSts.getD 4 State.reset
 let m : Fin 2 := 0
 let runs : Bool := decide (s.get (MAC.CTRL.EN m) = 1 ∧ s.get (MAC.STATUS.SYNC m) = 1 ∧ s.get (MAC.STATUS.LINK m) = 1 ∧ s.get (MAC.STATUS.SPEEDERR m) = 0)
 decide (s.island 28 = 0 ∧ s.unsynced 28 = false ∧ s.get (MAC.CTRL.PTP m) = 1 ∧ (m = 0 ∨ s.get (MAC.CTRL.PTP 0) = 0) ∧ runs)) &&
(let s := allSts.getD 0 State.reset
 let m : Fin 2 := 1
 let runs : Bool := decide (s.get (MAC.CTRL.EN m) = 1 ∧ s.get (MAC.STATUS.SYNC m) = 1 ∧ s.get (MAC.STATUS.LINK m) = 1 ∧ s.get (MAC.STATUS.SPEEDERR m) = 0)
 decide (s.island 28 = 0 ∧ (¬ runs ∨ s.get (MAC.CTRL.PTP m) = 0)))) = true := by decide +kernel
theorem witness_MacLinks_2 : (
(let s := allSts.getD 0 State.reset
 let m : Fin 2 := 1
 decide (s.get (MAC.PTPSTAT.LOCK m) = 0)) &&
(let s := allSts.getD 4 State.reset
 let m : Fin 2 := 0
 match s.link.syncs with
 | [(z81_, l)] => (
  decide (s.get (MAC.PTPSTAT.LOCK m) = 1 ∧ z81_ = m.val))
 | _ => false) &&
(let s := allSts.getD 0 State.reset
 let m : Fin 2 := 1
 decide (s.get (MAC.CTRL.EN m) = 0)) &&
(let s := allSts.getD 0 State.reset
 let m : Fin 2 := 0
 decide (s.get (MAC.CTRL.EN m) = 1)) &&
(let s := allSts.getD 2 State.reset
 let m : Fin 2 := 0
 let a : Owner := 0x00#8
 decide (s.island 28 = 0 ∧ s.get (MAC.MDIO.GO m) = 1 ∧ settledB s a = true)) &&
(let s := allSts.getD 0 State.reset
 let m : Fin 2 := 1
 let a : Owner := 0x00#8
 decide (s.island 28 = 0 ∧ s.get (MAC.MDIO.GO m) = 0 ∧ settledB s a = true)) &&
(let s := allSts.getD 0 State.reset
 decide (s.link.mdio = [])) &&
(let s := allSts.getD 2 State.reset
 let m : Fin 2 := 0
 match s.link.mdio with
 | [x] => (
  decide (x.1 = m.val))
 | _ => false)) = true := by decide +kernel
theorem witness_CanLinks : (
(let s := allSts.getD 0 State.reset
 let n : Fin 4 := 1
 let id : BitVec 11 := 0x080#11
 let sdt : BitVec 8 := 0x40#8
 let vcid : BitVec 8 := 0x40#8
 let to_ : Bool := decide (s.carries (3 + n) = true ∧ id.toNat = s.get (CAN.IDS.HOSTID n) ∧ sdt.toNat = s.get (CAN.XLH.SDT n) ∧ vcid.toNat = s.get (CAN.XLH.VCID n))
 decide (s.island 28 = 0 ∧ ¬ to_)) &&
(let s := allSts.getD 2 State.reset
 let n : Fin 4 := 2
 let id : BitVec 11 := 0x080#11
 let sdt : BitVec 8 := 0x00#8
 let vcid : BitVec 8 := 0x00#8
 let af : BitVec 32 := 0x00000500#32
 let idx := af.toNat % 256
 let last : Bool := decide (af.toNat / 2 ^ 16 % 2 = 1)
 let to_ : Bool := decide (s.carries (3 + n) = true ∧ id.toNat = s.get (CAN.IDS.HOSTID n) ∧ sdt.toNat = s.get (CAN.XLH.SDT n) ∧ vcid.toNat = s.get (CAN.XLH.VCID n))
 decide (s.island 28 = 0 ∧ s.link.parts = [] ∧ idx = 0 ∧ ¬ last ∧ to_)) &&
(let s := allSts.getD 43 State.reset
 let n : Fin 4 := 1
 let id : BitVec 11 := 0x080#11
 let sdt : BitVec 8 := 0x00#8
 let vcid : BitVec 8 := 0x00#8
 let af : BitVec 32 := 0x00000501#32
 let ftag := af.toNat / 256 % 256
 let idx := af.toNat % 256
 let last : Bool := decide (af.toNat / 2 ^ 16 % 2 = 1)
 let to_ : Bool := decide (s.carries (3 + n) = true ∧ id.toNat = s.get (CAN.IDS.HOSTID n) ∧ sdt.toNat = s.get (CAN.XLH.SDT n) ∧ vcid.toNat = s.get (CAN.XLH.VCID n))
 match s.link.parts with
 | [(z181_, p)] => (
  decide (s.island 28 = 0 ∧ ¬ last ∧ to_ ∧ z181_ = n.val ∧ s.t ≤ p.at_ + 15000000 ∧ p.next = idx ∧ p.ftag = ftag))
 | _ => false) &&
(let s := allSts.getD 43 State.reset
 let n : Fin 4 := 1
 let id : BitVec 11 := 0x080#11
 let sdt : BitVec 8 := 0x00#8
 let vcid : BitVec 8 := 0x00#8
 let af : BitVec 32 := 0x0a000001#32
 let ftag := af.toNat / 256 % 256
 let idx := af.toNat % 256
 let last : Bool := decide (af.toNat / 2 ^ 16 % 2 = 1)
 let to_ : Bool := decide (s.carries (3 + n) = true ∧ id.toNat = s.get (CAN.IDS.HOSTID n) ∧ sdt.toNat = s.get (CAN.XLH.SDT n) ∧ vcid.toNat = s.get (CAN.XLH.VCID n))
 match s.link.parts with
 | [(z181_, p)] => (
  decide (s.island 28 = 0 ∧ idx ≠ 0 ∧ ¬ last ∧ to_ ∧ z181_ = n.val ∧ s.t ≤ p.at_ + 15000000 ∧ (p.next ≠ idx ∨ p.ftag ≠ ftag)))
 | _ => false) &&
(let s := allSts.getD 2 State.reset
 let n : Fin 4 := 2
 let id : BitVec 11 := 0x080#11
 let sdt : BitVec 8 := 0x00#8
 let vcid : BitVec 8 := 0x00#8
 let af : BitVec 32 := 0x00010500#32
 let d : List (BitVec 8) := [0x01#8, 0x02#8, 0x03#8, 0x04#8, 0x05#8, 0x06#8, 0x07#8, 0x08#8, 0x09#8]
 let idx := af.toNat % 256
 let last : Bool := decide (af.toNat / 2 ^ 16 % 2 = 1)
 let data := d.map BitVec.toNat
 let to_ : Bool := decide (s.carries (3 + n) = true ∧ id.toNat = s.get (CAN.IDS.HOSTID n) ∧ sdt.toNat = s.get (CAN.XLH.SDT n) ∧ vcid.toNat = s.get (CAN.XLH.VCID n))
 decide (s.island 28 = 0 ∧ s.link.parts = [] ∧ s.get ETH.SLSTATE.STATE = 1 ∧ idx = 0 ∧ last ∧ frameSound true data = false ∧ data.getD 11 0 / 2 % 2 = 0 ∧ to_)) &&
(let s := allSts.getD 0 State.reset
 decide (s.link.parts = [])) &&
(let s := allSts.getD 3 State.reset
 let n : Fin 4 := 1
 match s.link.parts with
 | [(z51_, p)] => (
  decide (s.get SEC.WDSTAT.REM = 0 ∧ z51_ = n.val))
 | _ => false) &&
(let s := allSts.getD 0 State.reset
 let n : Fin 4 := 1
 decide (s.get (CAN.CTRL.EN n) = 0)) &&
(let s := allSts.getD 2 State.reset
 let n : Fin 4 := 1
 decide (s.get (CAN.CTRL.EN n) = 1 ∧ s.get (CAN.STATUS.BUSOFF n) = 0)) &&
(let s := allSts.getD 0 State.reset
 let n : Fin 4 := 1
 decide (s.get (CAN.STATUS.BUSOFF n) = 0)) &&
(let s := allSts.getD 4 State.reset
 let n : Fin 4 := 1
 decide (s.get (CAN.STATUS.BUSOFF n) = 1)) &&
(let s := allSts.getD 2 State.reset
 let n : Fin 4 := 1
 let a : Owner := 0x40#8
 let v : Word := 0x000000005#36
 let own := s.get (CAN.CTRL.OWNER n)
 decide (s.island 28 = 0 ∧ settledB s a = true ∧ a ≠ 0 ∧ v.toNat % 2 = 1 ∧ own ≠ 0 ∧ own ≠ a.toNat)) &&
(let s := allSts.getD 0 State.reset
 let n : Fin 4 := 1
 let a : Owner := 0x12#8
 let v : Word := 0xd23456789#36
 let own := s.get (CAN.CTRL.OWNER n)
 decide (s.island 28 = 0 ∧ s.get (CAN.CTRL.EN n) = 0 ∧ settledB s a = true ∧ a ≠ 0 ∧ a.toNat ≠ 0x40 ∧ v.toNat % 2 = 1 ∧ v.toNat / 2 ^ 25 % 2 = 1 ∧ own = 0)) &&
(let s := allSts.getD 0 State.reset
 let n : Fin 4 := 1
 let a : Owner := 0x40#8
 let v : Word := 0x000000005#36
 let own := s.get (CAN.CTRL.OWNER n)
 decide (s.island 28 = 0 ∧ s.get (CAN.CTRL.EN n) = 0 ∧ settledB s a = true ∧ a ≠ 0 ∧ s.ringsOk n a.toNat = false ∧ v.toNat % 2 = 1 ∧ v.toNat / 2 ^ 25 % 2 = 0 ∧ own = 0))) = true := by decide +kernel
theorem witness_CanLinks_2 : (
(let s := allSts.getD 0 State.reset
 let n : Fin 4 := 1
 let a : Owner := 0x40#8
 let v : Word := 0xd23456789#36
 let own := s.get (CAN.CTRL.OWNER n)
 decide (s.island 28 = 0 ∧ s.get (CAN.CTRL.EN n) = 0 ∧ s.get (SYS.CLM.OWNER (0x820 + n)) = 0 ∧ settledB s a = true ∧ a ≠ 0 ∧ v.toNat % 2 = 1 ∧ ((v.toNat / 2 ^ 25 % 2 = 1 ∧ a.toNat = 0x40) ∨ (v.toNat / 2 ^ 25 % 2 = 0 ∧ s.ringsOk n a.toNat = true)) ∧ own = 0)) &&
(let s := allSts.getD 214 State.reset
 let n : Fin 4 := 1
 let a : Owner := 0x40#8
 let v : Word := 0xd23456789#36
 let own := s.get (CAN.CTRL.OWNER n)
 decide (s.island 28 = 0 ∧ s.get (CAN.CTRL.EN n) = 0 ∧ s.get (SYS.CLM.OWNER (0x820 + n)) ≠ 0 ∧ s.get (SYS.CLM.FEATURE (0x820 + n)) ≠ 0x410 + n ∧ settledB s a = true ∧ a ≠ 0 ∧ v.toNat % 2 = 1 ∧ ((v.toNat / 2 ^ 25 % 2 = 1 ∧ a.toNat = 0x40) ∨ (v.toNat / 2 ^ 25 % 2 = 0 ∧ s.ringsOk n a.toNat = true)) ∧ own = 0)) &&
(let s := allSts.getD 215 State.reset
 let n : Fin 4 := 1
 let fmt : Fin 3 := 2
 decide ((∀ b : Fin 68, s.get (BANKS.STATUS.RED b) = 0) ∧ s.marks = [] ∧ s.island 28 = 0 ∧ s.get (CAN.CTRL.EN n) = 1 ∧ s.get (CAN.CTRL.SLATE n) = 0 ∧ s.get (CAN.STATUS.BUSOFF n) = 0 ∧ s.canMode n < fmt.val)) &&
(let s := allSts.getD 3 State.reset
 let n : Fin 4 := 1
 let fmt : Fin 3 := 0
 let d : List (BitVec 8) := [0x01#8, 0x02#8, 0x03#8, 0x04#8, 0x05#8, 0x06#8, 0x07#8, 0x08#8, 0x09#8]
 let base := s.get (CAN.RXBASE.BASE n)
 let size := s.get (CAN.RXSIZE.SIZE n)
 let w := s.get (CAN.RXW.PTR n)
 let len := (5 + (d.length + 3) / 4 + 3) / 4 * 4
 decide ((∀ b : Fin 68, s.get (BANKS.STATUS.RED b) = 0) ∧ s.marks = [] ∧ s.island 28 = 0 ∧ s.unsynced 28 = false ∧ s.get (CAN.CTRL.EN n) = 1 ∧ s.get (CAN.CTRL.SLATE n) = 0 ∧ s.get (CAN.STATUS.BUSOFF n) = 0 ∧ fmt.val ≤ s.canMode n ∧ d.length < 2049 ∧ s.ringOk base size 0x12 = true ∧ w < s.get (CAN.RXR.PTR n) ∧ s.get (CAN.RXR.PTR n) ≤ w + len)) &&
(let s := allSts.getD 2 State.reset
 let n : Fin 4 := 1
 let fmt : Fin 3 := 0
 let d : List (BitVec 8) := [0x01#8, 0x02#8, 0x03#8, 0x04#8, 0x05#8, 0x06#8, 0x07#8, 0x08#8, 0x09#8]
 let base := s.get (CAN.RXBASE.BASE n)
 let size := s.get (CAN.RXSIZE.SIZE n)
 let w := s.get (CAN.RXW.PTR n)
 let len := (5 + (d.length + 3) / 4 + 3) / 4 * 4
 decide ((∀ b : Fin 68, s.get (BANKS.STATUS.RED b) = 0) ∧ s.marks = [] ∧ s.island 28 = 0 ∧ s.unsynced 28 = false ∧ s.get (CAN.CTRL.EN n) = 1 ∧ s.get (CAN.CTRL.SLATE n) = 0 ∧ s.get (CAN.STATUS.BUSOFF n) = 0 ∧ fmt.val ≤ s.canMode n ∧ d.length < 2049 ∧ s.ringOk base size 0x12 = true ∧ s.get (CAN.RXR.PTR n) ≤ w ∧ w + len < size)) &&
(let s := allSts.getD 2 State.reset
 let n : Fin 4 := 1
 decide ((∀ b : Fin 68, s.get (BANKS.STATUS.RED b) = 0) ∧ s.marks = [] ∧ s.get (CAN.CTRL.EN n) = 1 ∧ s.get (CAN.CTRL.SLATE n) = 0 ∧ s.get (CAN.STATUS.BUSOFF n) = 0 ∧ s.get (CAN.TXR.PTR n) = s.get (CAN.TXW.PTR n))) &&
(let s := allSts.getD 215 State.reset
 let n : Fin 4 := 1
 let a := s.get (CAN.TXBASE.BASE n) + s.get (CAN.TXR.PTR n)
 let len := s.rd a % 2 ^ 12
 let words := (5 + (len + 3) / 4 + 3) / 4 * 4
 decide ((∀ b : Fin 68, s.get (BANKS.STATUS.RED b) = 0) ∧ s.marks = [] ∧ s.get (CAN.CTRL.EN n) = 1 ∧ s.get (CAN.CTRL.SLATE n) = 0 ∧ s.get (CAN.STATUS.BUSOFF n) = 0 ∧ s.get (CAN.TXR.PTR n) ≠ s.get (CAN.TXW.PTR n) ∧ s.ringOk (s.get (CAN.TXBASE.BASE n)) (s.get (CAN.TXSIZE.SIZE n)) 0x12 = true ∧ s.canMode n < s.rd a / 2 ^ 12 % 4 ∧ len ≤ 2048 ∧ s.get (CAN.TXR.PTR n) + words < s.get (CAN.TXSIZE.SIZE n))) &&
(let s := allSts.getD 6 State.reset
 let n : Fin 4 := 1
 let a := s.get (CAN.TXBASE.BASE n) + s.get (CAN.TXR.PTR n)
 let len := s.rd a % 2 ^ 12
 let words := (5 + (len + 3) / 4 + 3) / 4 * 4
 decide ((∀ b : Fin 68, s.get (BANKS.STATUS.RED b) = 0) ∧ s.marks = [] ∧ s.get (CAN.CTRL.EN n) = 1 ∧ s.get (CAN.CTRL.SLATE n) = 0 ∧ s.get (CAN.STATUS.BUSOFF n) = 0 ∧ s.get (CAN.TXR.PTR n) ≠ s.get (CAN.TXW.PTR n) ∧ s.ringOk (s.get (CAN.TXBASE.BASE n)) (s.get (CAN.TXSIZE.SIZE n)) 0x12 = true ∧ s.rd a / 2 ^ 12 % 4 ≤ s.canMode n ∧ len ≤ 2048 ∧ s.get (CAN.TXR.PTR n) + words < s.get (CAN.TXSIZE.SIZE n)))) = true := by decide +kernel
theorem witness_SerialLinks : (
(let s := allSts.getD 1 State.reset
 let a : Owner := 0x40#8
 let n : Fin 8 := 3
 decide (s.island 28 = 0 ∧ settledB s a = true ∧ a ≠ 0 ∧ s.get (SPI.CTRL.OWNER n) ≠ a.toNat ∧ s.get (SPI.CTRL.OWNER n) ≠ 0)) &&
(let s := allSts.getD 17 State.reset
 let a : Owner := 0x12#8
 let n : Fin 8 := 3
 let x := s.serial n
 decide (s.island 28 = 0 ∧ settledB s a = true ∧ a ≠ 0 ∧ s.get (SPI.CTRL.OWNER n) = a.toNat ∧ 8 ≤ x.tx.length)) &&
(let s := allSts.getD 1 State.reset
 let a : Owner := 0x12#8
 let n : Fin 8 := 3
 let x := s.serial n
 decide (s.island 28 = 0 ∧ settledB s a = true ∧ a ≠ 0 ∧ s.get (SPI.CTRL.OWNER n) = a.toNat ∧ x.tx.length < 8)) &&
(let s := allSts.getD 16 State.reset
 let a : Owner := 0x12#8
 let n : Fin 2 := 1
 let x := s.serial (8 + n)
 decide (s.island 28 = 0 ∧ settledB s a = true ∧ a ≠ 0 ∧ s.get (UART.CTRL.OWNER n) = a.toNat ∧ 16 ≤ x.tx.length)) &&
(let s := allSts.getD 0 State.reset
 let a : Owner := 0x12#8
 let n : Fin 2 := 1
 let x := s.serial (8 + n)
 decide (s.island 28 = 0 ∧ settledB s a = true ∧ a ≠ 0 ∧ s.get (UART.CTRL.OWNER n) = a.toNat ∧ x.tx.length < 16)) &&
(let s := allSts.getD 0 State.reset
 let n : Fin 8 := 3
 let x := s.serial n
 decide ((s.get (SPI.CTRL.EN n) = 0 ∨ x.tx = []))) &&
(let s := allSts.getD 1 State.reset
 let n : Fin 8 := 3
 let x := s.serial n
 match x.tx with
 | o :: rest => (
  decide (s.get (SPI.CTRL.EN n) = 1 ∧ x.rx.length < 8))
 | _ => false) &&
(let s := allSts.getD 17 State.reset
 let n : Fin 8 := 3
 let x := s.serial n
 match x.tx with
 | o :: rest => (
  decide (s.get (SPI.CTRL.EN n) = 1 ∧ 8 ≤ x.rx.length))
 | _ => false) &&
(let s := allSts.getD 0 State.reset
 let n : Fin 2 := 1
 decide (s.get (UART.CTRL.EN n) = 0)) &&
(let s := allSts.getD 0 State.reset
 let n : Fin 2 := 1
 decide (s.island 28 = 0 ∧ s.get (UART.CTRL.EN n) = 0)) &&
(let s := allSts.getD 1 State.reset
 let n : Fin 2 := 1
 let x := s.serial (8 + n)
 match x.tx with
 | o :: rest => (
  decide (s.get (UART.CTRL.EN n) = 1))
 | _ => false) &&
(let s := allSts.getD 1 State.reset
 let n : Fin 2 := 1
 let x := s.serial (8 + n)
 decide (s.island 28 = 0 ∧ s.get (UART.CTRL.EN n) = 1 ∧ x.rx.length < 16)) &&
(let s := allSts.getD 33 State.reset
 let n : Fin 2 := 1
 let x := s.serial (8 + n)
 decide (s.island 28 = 0 ∧ s.get (UART.CTRL.EN n) = 1 ∧ 16 ≤ x.rx.length)) &&
(let s := allSts.getD 0 State.reset
 let a : Owner := 0x40#8
 let k : Fin 10 := 0
 let x := s.serial k
 decide (s.island 28 = 0 ∧ settledB s a = true ∧ x.rx = []))) = true := by decide +kernel
theorem witness_SerialLinks_2 : (
(let s := allSts.getD 2 State.reset
 let a : Owner := 0x40#8
 let k : Fin 10 := 3
 let x := s.serial k
 match x.rx with
 | o :: rest => (
  decide (s.island 28 = 0 ∧ settledB s a = true))
 | _ => false) &&
(let s := allSts.getD 0 State.reset
 let a : Owner := 0x40#8
 let v : Word := 0x000000005#36
 let n : Fin 8 := 3
 decide (s.island 28 = 0 ∧ settledB s a = true ∧ a ≠ 0 ∧ v.toNat % 2 = 1 ∧ s.get (SPI.CTRL.EN n) = 0 ∧ s.get (SPI.CTRL.OWNER n) = 0 ∧ s.get (SYS.CLM.OWNER (0x800 + n.val)) = 0)) &&
(let s := allSts.getD 4 State.reset
 let a : Owner := 0x40#8
 let v : Word := 0x000000005#36
 let n : Fin 8 := 3
 decide (s.island 28 = 0 ∧ settledB s a = true ∧ a ≠ 0 ∧ v.toNat % 2 = 1 ∧ s.get (SPI.CTRL.EN n) = 0 ∧ s.get (SPI.CTRL.OWNER n) = 0 ∧ s.get (SYS.CLM.OWNER (0x800 + n.val)) ≠ 0 ∧ s.get (SYS.CLM.FEATURE (0x800 + n.val)) ≠ 0x420 + n.val)) &&
(let s := allSts.getD 0 State.reset
 let a : Owner := 0x40#8
 let v : Word := 0x000000005#36
 let n : Fin 2 := 0
 decide (s.island 28 = 0 ∧ settledB s a = true ∧ a ≠ 0 ∧ v.toNat % 2 = 1 ∧ s.get (UART.CTRL.EN n) = 0 ∧ s.get (UART.CTRL.OWNER n) = 0 ∧ s.get (SYS.CLM.OWNER (0x810 + n.val)) = 0)) &&
(let s := allSts.getD 1 State.reset
 let a : Owner := 0x12#8
 let v : Word := 0x004000000#36
 let n : Fin 2 := 1
 decide (s.island 28 = 0 ∧ settledB s a = true ∧ a ≠ 0 ∧ v.toNat % 2 = 0 ∧ s.get (UART.CTRL.EN n) = 1 ∧ s.get (UART.CTRL.OWNER n) = a.toNat ∧ s.get (SYS.CLM.OWNER (0x810 + n.val)) = a.toNat ∧ s.get (SYS.CLM.FEATURE (0x810 + n.val)) = 0x430 + n.val))) = true := by decide +kernel
end W33

namespace W40
def st1 (k : Nat) : State :=
  let s := mk [(SEC.WDSTAT.REM, 5), (coreStateRef 1, k%3), (DBG.CORESTS.HALTED, if k%5=4 then 2 else 0)]
  let s := s.putCore 1 { s.core 1 with hold := k%2=0, hrem := k%4+1 }
  (s.setNow (if k%3=0 then 1499999 else 7)).setTcRun (k/2%2=0)
def more : List State := let s := mk [(coreStateRef 1, 1), (CUE.TSTAT.STATE 1 0, 2)]
  let s := (s.setNow 7).setTcRun true
  let s := s.putCore 1 { s.core 1 with hold := true, hrem := 5 }
  [s, s.put DBG.CORESTS.HALTED 2]
def held (halt : Nat) : State :=
  let s := (((mk [(coreStateRef 1, 1), (CUE.TSTAT.STATE 1 0, 2), (DBG.CORESTS.HALTED, 2 * halt), (DBG.CORECTL.HALT, 2 * halt)]).setTcRun true).setNow 300)
  s.putCore 1 { s.core 1 with hold := true, hrem := 9, seen := 300, ahead := 0, fly := [] }
def allSts : List State := ((List.range 40).map st1) ++ more ++ [held 0, held 1]
theorem witness_TimeMovesOn : (
(let s := allSts.getD 1 State.reset
 let t : Nat := 17
 decide (s.tcRun = true ∧ s.t < t ∧ t < 2 ^ 64)) &&
(let s := allSts.getD 0 State.reset
 let t : Nat := 17
 decide ((s.tcRun = false ∨ t ≤ s.t))) &&
(let s := allSts.getD 0 State.reset
 let r : FRef := { adr := 33751041, lo := 3, w := 1 }
 decide ((∀ k : Fin 4, (GAF.ZTEMP.AGE k).key ≠ r.key) ∧ SEC.WDSTAT.REM.key ≠ r.key)) &&
(let s := allSts.getD 1 State.reset
 decide (s.pending = [] ∧ (∀ c : Fin 8, (s.core c).hold = false))) &&
(let s := allSts.getD 42 State.reset
 let c : Fin 8 := 1
 decide (s.pending = [] ∧ s.tcRun = true ∧ s.t + 1 < 2 ^ 64 ∧ (s.core c).hold = true ∧ (∀ k : Fin 8, k ≠ c → (s.core k).hold = false) ∧ s.coreExists c = true ∧ s.island (coreIsland c) = 0 ∧ s.coreHalted c = false ∧ 1 < (s.core c).hrem ∧ (s.core c).fly = [] ∧ (s.core c).seen = s.t ∧ (s.core c).ahead = 0 ∧ s.get (ISL.STAT.CLK (coreIsland c)) = 0)) &&
(let s := allSts.getD 43 State.reset
 let c : Fin 8 := 1
 decide (s.pending = [] ∧ (s.core c).hold = true ∧ (∀ k : Fin 8, k ≠ c → (s.core k).hold = false) ∧ s.coreExists c = true ∧ s.coreHalted c = true ∧ (s.core c).fly = [] ∧ (s.core c).seen = s.t ∧ (s.core c).ahead = 0)) &&
(let s := allSts.getD 0 State.reset
 match step s with
 | .next t => (
  decide (s.pending = []))
 | _ => false)) = true := by decide +kernel
/-- TimeMovesOn: a command that does not reset the count, and answers a next state. -/
theorem witness_TimeMovesOn_command : Instr.resetsTime (.holdout) = false ∧
    (match execHoldout (st1 1) with
      | .next _ => true
      | _ => false) = true := by decide +kernel
end W40

/-! ### Well-formed commands -/

def isFault (o : Out) : Bool := match o with
  | .fault _ => true
  | _ => false

theorem test_conversion_codes : Instr.wf (.conversionEnd 3 [1, 2, 3] 0) = false := by decide
theorem test_conversion_codes_fault : isFault (execConversionEnd 3 [1, 2, 3] 0 State.reset) = true := by decide +kernel
theorem test_conversion_codes_good : Instr.wf (.conversionEnd 3 (List.replicate 16 5) 0) = true := by decide
theorem test_temperatures : Instr.wf (.tjSample (List.replicate 31 25) 0 0) = false := by decide
theorem test_temperatures_fault : isFault (execTjSample (List.replicate 31 25) 0 0 State.reset) = true := by decide +kernel
theorem test_temperatures_good : Instr.wf (.tjSample (List.replicate 32 25) 0 0) = true := by decide

/-! ### The machine as a whole -/

/-- StepRunsFront: a command stands at the front of a queue. -/
theorem witness_StepRunsFront :
    (State.reset.setPending [.timecodeLock, .refLost]).pending = Instr.timecodeLock :: [.refLost] := by rfl

/-- StepKeepsInv: a state in the form, and a step of it that answers a next state. -/
theorem witness_StepKeepsInv :
    (State.reset.setPending [.timecodeLock]).Inv ∧ (nx (step (State.reset.setPending [.timecodeLock]))).tcRun = true := by
  unfold State.Inv
  decide +kernel

/-- EveryCommandCompletes: a well-formed command and an ill-formed one. -/
theorem witness_EveryCommandCompletes : Instr.wf .timecodeLock = true ∧ Instr.wf (.tjSample [] 0 0) = false := by decide

/-! ### Words of the cores, written out from the formats and the opcode tables of R188 to R215 -/

/-- Formats A and I: ADD with its S bit, SHLK, LIH, LD, LOOP. -/
theorem test_decode_alu_and_memory :
    decodeGnoud 2 0b000000_10010_01000_01001_000000_1_00000000 0 = .add 2 18 8 9 true ∧
      decodeGnoud 0 0b000000_10010_01000_00000_000101_0_00001100 0 = .shlk 0 18 8 5 false ∧
      decodeGnoud 1 0b001110_10000_00000_00000001001000110100 0 = .lih 1 16 0x1234 ∧
      decodeGnoud 3 0b010100_10001_01001_11111111111111111110 0 = .ld 3 17 9 0xFFFFE ∧
      decodeGnoud 1 0b010001_00000_01010_00000000000000010100 0 = .loop 1 10 20 := by decide

/-- Formats J and L, the JR, LONG and SYS groups: BR, MOVL, JMPR, MOVB, TRAP, RETE. -/
theorem test_decode_control :
    decodeGnoud 2 0b101000_0010_11111111111111111111111011 0 = .br 2 2 0x3FFFFFB ∧
      decodeGnoud 2 0b011100_00001_00000_00000000000000000000 0x123456789 = .movl 2 1 0x123456789 ∧
      decodeGnoud 2 0b000001_00000_01100_00000_000000_0_00000000 0 = .jmpr 2 12 ∧
      decodeGnoud 2 0b000010_10000_10001_10010_000000_0_00000000 0 = .movb 2 16 17 18 ∧
      decodeGnoud 2 0b000011_00000_00000_00000_010_000000000111 0 = .trap 2 7 ∧
      decodeGnoud 2 0b000011_00000_00000_00000_100_000000000000 0 = .rete 2 := by decide

/-- Format C: EPRM, SQRTF, SUBMIT, RWRI, an absent coprocessor; a reserved opcode, function and coprocessor function. -/
theorem test_decode_coprocessors :
    decodeGnoud 2 0b111000_00000_10000_00000_00101_0000010011 0 = .eprm 2 16 5 3 ∧
      decodeGnoud 2 0b111001_00000_10000_00000_00000_0000010101 0 = .sqrtf 2 16 ∧
      decodeGnoud 2 0b111010_10000_10001_00000_00000_0000000000 0 = .submit 2 16 17 ∧
      decodeGnoud 2 0b111011_10000_10001_10010_00000_0000000001 0 = .rwri 2 16 17 18 ∧
      decodeGnoud 2 0b111110_00000_00000_00000_00000_0000000000 0 = .cpAbsent 2 2 ∧
      decodeGnoud 2 0b000100_00000_00000_00000_000000_0_00000000 0 = .illegal 2 0 ∧
      decodeGnoud 2 0b000000_00000_00000_00000_000000_0_00011101 0 = .illegal 2 1 ∧
      decodeGnoud 2 0b111001_00000_00000_00000_00000_0000000100 0 = .illegal 2 1 := by decide

/-! ### Figures of the spec's own examples -/

/-- Chapter Loop engines, the examples after R103: 1.5, −1.5 and 3.0 at the stage exponent 1. -/
theorem test_bf36_examples :
    (Dy.mk 3 (-1)).toMant 1 = 25769803776 ∧ unsgn 36 ((Dy.mk (-3) (-1)).toMant 1) = 0xA00000000 ∧
      mantMax < (Dy.mk 3 0).toMant 1 ∧ (mantMax : Int) = 0x7FFFFFFFF := by decide +kernel

/-- The same chapter: the ADC code 20,972 at the exponent 0. -/
theorem test_adc_mantissa : (Dy.mk 20972 (-15)).toMant 0 = 0x51EC00000 := by decide +kernel

/-- Chapter Position feedback, the coolant pump: SPD before the reversal, just after it, and over four counts. -/
theorem test_hall_speed :
    windowSpeed [(1, 62500000, 1), (0, 0, 0)] 0 = 68 ∧ windowSpeed [(-1, 4500000, -1), (0, 0, 0)] 0 = -954 ∧
      windowSpeed [(2, 192000000, -1), (3, 187500000, 1), (2, 125000000, 1), (1, 62500000, 1), (0, 0, 0)] 0 = 44 := by
  decide +kernel

/-- Chapter Islands, timecode and claims: EMU2 against a PWM port on GP92. -/
theorem test_emu_conflict :
    (let s := mk [(SYS.CLM.OWNER 0x15C, 2), (SYS.CLM.FEATURE 0x15C, 0x05C)]
     let t := nx (execEmuEnable 1 2 1 s)
     t.get (EMU.CTRL.EN 2) = 0 ∧ t.get (SYS.CLM.OWNER 0x15D) = 0 ∧ t.get (SYS.FST.STATE 0x112) = 2 ∧
       t.get (SYS.FST.CRES 0x112) = 0x15C ∧ t.get (SYS.FST.HOLDER 0x112) = 0x05C) := by decide +kernel

/-- Chapter Gnoud36 instruction set: LIH with 0x0_1234 and ORI with 0x5678 give 0x0_1234_5678. -/
theorem test_lih_ori :
    (let s := W20.allSts.getD 0 State.reset
     (nx (execOri 2 16 16 0x5678 (nx (execLih 2 16 0x1234 s)))).reg 2 16) = 0x12345678 := by decide +kernel

end Sys2Proof.Tests
end

namespace Sys2Proof.Machine

/-! PROOF. Direct claims of the claim table (R34): an access that waits for no token and meets its island in White, what a claim
word reads as after a claim, and the outcomes of a write to it. -/

/-! ### An access that nothing holds up -/

/-- R276: an agent without a write that waits finds its tokens gone. -/
theorem State.Settled.afterTokens_eq {s : State} {a : Owner} (h : s.Settled a) : afterTokens a.toNat s = s := by
  unfold afterTokens
  split
  · rename_i hcore
    have noneHeld : (s.core (a.toNat - 1)).held = [] :=
      h ⟨a.toNat - 1, by omega⟩ (by simp only [ownCore]; omega)
    simp [settle, noneHeld]
  · rfl

/-- R12: in White the access reaches its target at once. -/
theorem onIsland_white {i : Nat} {s : State} (h : s.get (ISL.STAT.STATE i) = 0) (agent : Nat) (f : State → State) :
    onIsland i agent f s = f s := by
  simp [onIsland, islandRestart, State.island, h]

/-- CLAIM_WRITE of a settled agent with IS26 in White is the write of the claim word. -/
theorem exec_claimWrite_of_white {s : State} {a : Owner} (hs : s.Settled a) (hw : s.get (ISL.STAT.STATE 26) = 0)
    (r : BitVec 12) (v : Word) :
    exec (.claimWrite a r v) s = .next (claimWrite a.toNat r.toNat (v.toNat % 256) s) := by
  have octet : bits v.toNat 0 8 = v.toNat % 256 := by simp [bits]
  calc exec (.claimWrite a r v) s
      = .next (onIsland 26 a.toNat (claimWrite a.toNat r.toNat (bits v.toNat 0 8)) (afterTokens a.toNat s)) := rfl
    _ = .next (claimWrite a.toNat r.toNat (v.toNat % 256) s) := by rw [hs.afterTokens_eq, onIsland_white hw, octet]

/-! ### A claim word -/

theorem claimOwner_key_ne_feature (r : Nat) : (SYS.CLM.OWNER r).key ≠ (SYS.CLM.FEATURE r).key := by
  simp [FRef.key]

@[simp] theorem State.claim_owner (s : State) (o f r : Nat) : (s.claim o f r).get (SYS.CLM.OWNER r) = o % 2 ^ 8 := by
  rw [State.claim, State.get_put_ne _ _ (claimOwner_key_ne_feature r).symm, State.get_put_same]

@[simp] theorem State.claim_feature (s : State) (o f r : Nat) : (s.claim o f r).get (SYS.CLM.FEATURE r) = f % 2 ^ 12 :=
  State.get_put_same _ _ _

theorem State.claim_get_ne (s : State) (o f r : Nat) {q : FRef} (ho : (SYS.CLM.OWNER r).key ≠ q.key)
    (hf : (SYS.CLM.FEATURE r).key ≠ q.key) : (s.claim o f r).get q = s.get q := by
  rw [State.claim, State.get_put_ne _ _ hf, State.get_put_ne _ _ ho]

/-- A claim changes the two fields of its claim word. -/
theorem State.claim_sets (s : State) {o f : Nat} (r : Nat) (ho : o < 2 ^ 8) (hf : f < 2 ^ 12) :
    Sets s (s.claim o f r) [(SYS.CLM.OWNER r, o), (SYS.CLM.FEATURE r, f)] := by
  constructor
  · simpa using And.intro ho hf
  · intro q hq
    exact s.claim_get_ne o f r (hq (SYS.CLM.OWNER r, o) (by simp)) (hq (SYS.CLM.FEATURE r, f) (by simp))

/-! ### The outcomes of a write to a claim word -/

/-- R34: the claim word takes a write of the agent: it is free, or the agent holds it by a direct claim. -/
def State.claimOpenTo (s : State) (agent r : Nat) : Prop :=
  s.get (SYS.CLM.OWNER r) = 0 ∨ (s.get (SYS.CLM.OWNER r) = agent ∧ s.get (SYS.CLM.FEATURE r) = 0xFFF)

section Outcomes

variable {s : State} {agent r new : Nat}

/-- R34: the claim is taken, handed over or released. -/
theorem claimWrite_of_open (hr : resourceExists r = true) (h : s.claimOpenTo agent r) (hv : validOwner s.split new = true) :
    claimWrite agent r new s = (s.claim new (if new = 0 then 0 else 0xFFF) r).answer agent .ok 0 0 := by
  rcases h with free | ⟨mine, direct⟩
  · simp [claimWrite, hr, hv, free]
  · simp [claimWrite, hr, hv, mine, direct]

/-- R7: a reserved owner ID of an agent that may write the word is discarded. -/
theorem claimWrite_of_reserved (hr : resourceExists r = true) (h : s.claimOpenTo agent r)
    (hv : validOwner s.split new = false) : claimWrite agent r new s = s.answer agent .ok 0 0 := by
  rcases h with free | ⟨mine, direct⟩
  · simp [claimWrite, hr, hv, free]
  · simp [claimWrite, hr, hv, mine, direct]

/-- R33, R34: a word that another agent or a feature holds stays as it is, whatever is written. -/
theorem claimWrite_of_barred (hr : resourceExists r = true) (held : s.get (SYS.CLM.OWNER r) ≠ 0)
    (h : s.get (SYS.CLM.OWNER r) ≠ agent ∨ s.get (SYS.CLM.FEATURE r) ≠ 0xFFF) :
    claimWrite agent r new s = s.answer agent .busOwn 0 0 := by
  rcases h with other | feature
  · simp [claimWrite, hr, held, Ne.symm other]
  · simp [claimWrite, hr, held, feature]

end Outcomes

/-! ### From the outcome to the effect -/

/-- A command that only answers its agent writes no field. -/
theorem writes_nothing_of_answer {i : Instr} {s : State} {agent : Nat} {p : Resp}
    (h : exec i s = .next (s.answer agent p 0 0)) : Writes i s [] (fun u => u.setBus ⟨agent, p, 0, 0⟩) :=
  ⟨_, h, ⟨by simp, fun _ _ => rfl⟩, rfl⟩

/-- A command that claims a word and answers its agent writes the two fields of the word. -/
theorem writes_claim_of_answer {i : Instr} {s : State} {agent o f r : Nat} {p : Resp} (ho : o < 2 ^ 8) (hf : f < 2 ^ 12)
    (h : exec i s = .next ((s.claim o f r).answer agent p 0 0)) :
    Writes i s [(SYS.CLM.OWNER r, o), (SYS.CLM.FEATURE r, f)] (fun u => u.setBus ⟨agent, p, 0, 0⟩) :=
  ⟨_, h, s.claim_sets r ho hf, rfl⟩

/-- Settles O8: the write is `claimWrite`, whose outcome is that of a word open to the agent, with an owner ID that exists or a
reserved one, or of a word barred to it. -/
theorem claimTable : Obligations.ClaimTable := by
  intro s a r v hs hr hw
  have run := exec_claimWrite_of_white hs hw r v
  refine ⟨fun hopen hv => ?taken, fun hopen hv => ?reserved, fun held hbar => ?barred⟩
  case taken =>
    have feature_lt : (if v.toNat % 256 = 0 then 0 else 0xFFF) < 2 ^ 12 := by split <;> decide
    exact writes_claim_of_answer (Nat.mod_lt _ (by decide)) feature_lt (run.trans (by rw [claimWrite_of_open hr hopen hv]))
  case reserved => exact writes_nothing_of_answer (run.trans (by rw [claimWrite_of_reserved hr hopen hv]))
  case barred => exact writes_nothing_of_answer (run.trans (by rw [claimWrite_of_barred hr held hbar]))

end Sys2Proof.Machine

namespace Sys2Proof.Machine

/-! PROOF. The report of the CUT latch to the logic die (R177): CUTSTAT.FIRST has three bits, and the model's record of the first
source is a number without bound. -/

/-- The latch stands in RUN and is not yet reported, and the record of its first source is a number that CUTSTAT.FIRST cannot
hold. The statement quantifies over it: it does not ask that the record be one of the sources 1 to 4 of R177, the only ones with which
the model calls `cutAssert`. -/
def cutFirstBeyondField : State :=
  ((State.reset.put PORTS.CUTSTAT.LATCH 1).put ETH.SLSTATE.STATE 3).setCut { CutSt.atReset with first := 8 }

/-- What the statement asks of a state before CUT_STATE_REPORT. -/
theorem cutFirstBeyondField_awaits_report : cutFirstBeyondField.get PORTS.CUTSTAT.LATCH = 1 ∧
    cutFirstBeyondField.cut.told = false ∧ cutFirstBeyondField.get ETH.SLSTATE.STATE = 3 := by
  decide +kernel

/-- The report counts the assertion and enters CUT (R177, R422), and of the record 8 its low three bits reach FIRST. -/
theorem cutStateReport_truncates_first : Ends .cutStateReport cutFirstBeyondField (fun t =>
    t.get PORTS.CUTSTAT.CUTCNT = 1 ∧ t.get ETH.SLSTATE.STATE = 4 ∧ t.get PORTS.CUTSTAT.FIRST = 0) :=
  ⟨_, rfl, by decide +kernel⟩

/-- Refutes O17: its last clause has CUTSTAT.FIRST read the recorded first source, whatever number that is; with 8 recorded the
three bits of FIRST read 0. -/
theorem not_cutLatch : ¬ Obligations.CutLatch := by
  intro h
  obtain ⟨-, -, -, -, -, -, -, -, reported⟩ := h cutFirstBeyondField
  obtain ⟨latched, untold, running⟩ := cutFirstBeyondField_awaits_report
  obtain ⟨t, run, -, -, first_kept, -⟩ := reported latched untold running
  obtain ⟨u, run', -, -, first_zero⟩ := cutStateReport_truncates_first
  obtain rfl : t = u := by simpa [run] using run'
  have eight_eq_zero : (8 : Nat) = 0 := first_kept.symm.trans first_zero
  exact absurd eight_eq_zero (by decide)

end Sys2Proof.Machine

namespace Sys2Proof.Machine

/-! PROOF. The owner of a bank or mailbox (R7, R300, R304): what a row of field writes leaves, what a write to an owner field comes
to for a free bank, for its owner and for any other agent, and the effect of each outcome. -/

/-! ### Rows of field writes -/

theorem Sets.refl (s : State) : Sets s s [] := ⟨by simp, fun _ _ => rfl⟩

/-- One more field, none of those before, is written. -/
theorem Sets.put {s t : State} {ps : List (FRef × Nat)} (h : Sets s t ps) {r : FRef} {v : Nat} (hv : v < 2 ^ r.w)
    (fresh : ∀ p ∈ ps, r.key ≠ p.1.key) : Sets s (t.put r v) ((r, v) :: ps) := by
  obtain ⟨written, kept⟩ := h
  refine ⟨List.forall_mem_cons.2 ⟨?here, fun p hp => ?before⟩, fun q hq => ?other⟩
  case here => rw [State.get_put_same, Nat.mod_eq_of_lt hv]
  case before => rw [State.get_put_ne _ _ (fresh p hp), written p hp]
  case other =>
    obtain ⟨hr, hps⟩ := List.forall_mem_cons.1 hq
    rw [State.get_put_ne _ _ hr, kept q hps]

theorem Sets.perm {s t : State} {ps qs : List (FRef × Nat)} (h : Sets s t ps) (hp : ps.Perm qs) : Sets s t qs := by
  obtain ⟨written, kept⟩ := h
  exact ⟨fun p hq => written p (hp.mem_iff.2 hq), fun r hr => kept r fun p hq => hr p (hp.mem_iff.1 hq)⟩

/-- A state that differs from `s` at most in a field that is written afterwards will do as well as `s` to start from. -/
theorem Sets.of_putIf {s t : State} {ps : List (FRef × Nat)} {c : Bool} {r : FRef} {v : Nat}
    (h : Sets (s.putIf c r v) t ps) (covered : ∃ p ∈ ps, p.1 = r) : Sets s t ps := by
  obtain ⟨written, kept⟩ := h
  obtain ⟨p, hp, rfl⟩ := covered
  refine ⟨written, fun q hq => (kept q hq).trans ?_⟩
  cases c
  · rfl
  · exact State.get_put_ne _ _ (hq p hp)

/-- A command that changes fields only and answers its agent. -/
theorem writes_fields_of_answer {i : Instr} {s t : State} {ps : List (FRef × Nat)} {agent : Nat} {p : Resp}
    (run : exec i s = .next (t.answer agent p 0 0)) (sets : Sets s t ps) (fieldsOnly : t = s.setFields t.fields) :
    Writes i s ps (fun u => u.setBus ⟨agent, p, 0, 0⟩) :=
  ⟨_, run, sets, congrArg (State.setBus · ⟨agent, p, 0, 0⟩) fieldsOnly⟩

/-! ### The owner word of a bank -/

theorem bankOwner_key_ne_peer (b : Nat) : (BANKS.OWNER.OWNER b).key ≠ (BANKS.OWNER.PEER b).key := by
  simp [FRef.key]

theorem bankPeer_key_ne_split (b : Nat) : (BANKS.OWNER.PEER b).key ≠ SYS.OPTIONS.SPLIT.key := by
  simp only [FRef.key]; omega

/-- Naming a peer leaves open which owner IDs exist (R6). -/
@[simp] theorem State.put_peer_split (s : State) (b p : Nat) : (s.put (BANKS.OWNER.PEER b) p).split = s.split := by
  simp only [State.split, State.on, State.get_put_ne _ _ (bankPeer_key_ne_split b)]

theorem State.setBankOwner_sets (s : State) (b : Nat) {o : Nat} (ho : o < 2 ^ 8) :
    Sets s (s.put (BANKS.OWNER.OWNER b) o) [(BANKS.OWNER.OWNER b, o)] :=
  (Sets.refl s).put ho (by simp)

theorem State.setBankPeerOwner_sets (s : State) (b : Nat) {o p : Nat} (ho : o < 2 ^ 8) (hp : p < 2 ^ 8) :
    Sets s ((s.put (BANKS.OWNER.PEER b) p).put (BANKS.OWNER.OWNER b) o) [(BANKS.OWNER.OWNER b, o), (BANKS.OWNER.PEER b, p)] :=
  ((Sets.refl s).put hp (by simp)).put ho (by simpa using bankOwner_key_ne_peer b)

theorem State.releaseBank_sets (s : State) (b : Nat) :
    Sets s ((s.put (BANKS.OWNER.OWNER b) 0).put (BANKS.OWNER.PEER b) 0) [(BANKS.OWNER.OWNER b, 0), (BANKS.OWNER.PEER b, 0)] :=
  have pos := Nat.two_pow_pos 8
  ((s.setBankOwner_sets b pos).put pos (by simpa using (bankOwner_key_ne_peer b).symm)).perm (.swap ..)

theorem validOwner_zero (split : Bool) : validOwner split 0 = true := by simp [validOwner]

section Outcomes

variable {s : State} {agent b o v : Nat}

/-- R300: a claim or a handover. -/
theorem bankOwnIf_of_valid (hv : validOwner s.split o = true) (ho : o ≠ 0) :
    bankOwnIf b o s = s.put (BANKS.OWNER.OWNER b) o := by
  simp [bankOwnIf, bankOwn, State.putIf, hv, ho]

/-- R300, R304: a release clears the peer. -/
theorem bankOwnIf_zero : bankOwnIf b 0 s = (s.put (BANKS.OWNER.OWNER b) 0).put (BANKS.OWNER.PEER b) 0 := by
  simp [bankOwnIf, bankOwn, State.putIf, validOwner_zero]

/-- R7: a reserved owner ID is discarded. -/
theorem bankOwnIf_of_reserved (hv : validOwner s.split o = false) : bankOwnIf b o s = s := by
  simp [bankOwnIf, hv]

theorem bankOwnerWrite_of_free (free : s.get (BANKS.OWNER.OWNER b) = 0) :
    bankOwnerWrite agent b v s = (bankOwnIf b (v % 2 ^ 8) s).answer agent .ok 0 0 := by
  simp [bankOwnerWrite, bits, free]

theorem bankOwnerWrite_of_other (held : s.get (BANKS.OWNER.OWNER b) ≠ 0) (other : agent ≠ s.get (BANKS.OWNER.OWNER b)) :
    bankOwnerWrite agent b v s = s.answer agent .busOwn 0 0 := by
  simp [bankOwnerWrite, held, other]

/-- R300, R304: the owner's write names a peer where the bank is a mailbox, and then the owner. -/
theorem bankOwnerWrite_of_owner (held : s.get (BANKS.OWNER.OWNER b) ≠ 0) (mine : agent = s.get (BANKS.OWNER.OWNER b)) :
    bankOwnerWrite agent b v s =
      (bankOwnIf b (v % 2 ^ 8) (s.putIf (decide (64 ≤ b) && validOwner s.split (v / 2 ^ 8 % 2 ^ 8)) (BANKS.OWNER.PEER b)
        (v / 2 ^ 8 % 2 ^ 8))).answer agent .ok 0 0 := by
  simp [bankOwnerWrite, bits, held, mine]

/-- A bank has no peer to name. -/
theorem bankOwnerWrite_of_owner_of_bank (held : s.get (BANKS.OWNER.OWNER b) ≠ 0) (mine : agent = s.get (BANKS.OWNER.OWNER b))
    (bank : b < 64) : bankOwnerWrite agent b v s = (bankOwnIf b (v % 2 ^ 8) s).answer agent .ok 0 0 := by
  rw [bankOwnerWrite_of_owner held mine, decide_eq_false (by omega)]
  rfl

/-- The owner of a mailbox names a peer that exists. -/
theorem bankOwnerWrite_of_owner_of_mailbox (held : s.get (BANKS.OWNER.OWNER b) ≠ 0)
    (mine : agent = s.get (BANKS.OWNER.OWNER b)) (mailbox : 64 ≤ b) (hp : validOwner s.split (v / 2 ^ 8 % 2 ^ 8) = true) :
    bankOwnerWrite agent b v s =
      (bankOwnIf b (v % 2 ^ 8) (s.put (BANKS.OWNER.PEER b) (v / 2 ^ 8 % 2 ^ 8))).answer agent .ok 0 0 := by
  rw [bankOwnerWrite_of_owner held mine, decide_eq_true mailbox, hp]
  rfl

end Outcomes

/-! ### From the outcome to the effect -/

/-- BANK_OWNER_WRITE of a settled agent, with the bank's island in White, is the write of the owner word. -/
theorem exec_bankOwnerWrite_of_white {s : State} {a : Owner} {b : Fin 68} (hs : s.Settled a)
    (hw : s.island (min 24 (20 + b.val / 16)) = 0) (v : Word) :
    exec (.bankOwnerWrite a b v) s = .next (bankOwnerWrite a.toNat b.val v.toNat s) := by
  calc exec (.bankOwnerWrite a b v) s
      = .next (onIsland (min 24 (20 + b.val / 16)) a.toNat (bankOwnerWrite a.toNat b.val v.toNat) (afterTokens a.toNat s)) := rfl
    _ = .next (bankOwnerWrite a.toNat b.val v.toNat s) := by rw [hs.afterTokens_eq, onIsland_white hw]

section Effects

variable {i : Instr} {s : State} {agent b o : Nat}

theorem writes_owner_of_bankOwnIf (hv : validOwner s.split o = true) (ho : o ≠ 0) (lt : o < 2 ^ 8)
    (run : exec i s = .next ((bankOwnIf b o s).answer agent .ok 0 0)) :
    Writes i s [(BANKS.OWNER.OWNER b, o)] (fun u => u.setBus ⟨agent, .ok, 0, 0⟩) := by
  rw [bankOwnIf_of_valid hv ho] at run
  exact writes_fields_of_answer run (s.setBankOwner_sets b lt) rfl

theorem writes_nothing_of_bankOwnIf (hv : validOwner s.split o = false)
    (run : exec i s = .next ((bankOwnIf b o s).answer agent .ok 0 0)) :
    Writes i s [] (fun u => u.setBus ⟨agent, .ok, 0, 0⟩) := by
  rw [bankOwnIf_of_reserved hv] at run
  exact writes_nothing_of_answer run

theorem writes_owner_peer_of_bankOwnIf {p : Nat} (hv : validOwner s.split o = true) (ho : o ≠ 0) (lt : o < 2 ^ 8)
    (hp : p < 2 ^ 8) (run : exec i s = .next ((bankOwnIf b o (s.put (BANKS.OWNER.PEER b) p)).answer agent .ok 0 0)) :
    Writes i s [(BANKS.OWNER.OWNER b, o), (BANKS.OWNER.PEER b, p)] (fun u => u.setBus ⟨agent, .ok, 0, 0⟩) := by
  rw [bankOwnIf_of_valid (by rw [State.put_peer_split, hv]) ho] at run
  exact writes_fields_of_answer run (s.setBankPeerOwner_sets b lt hp) rfl

/-- Whatever peer the same write named, the release clears it. -/
theorem writes_release_of_bankOwnIf {c : Bool} {p : Nat}
    (run : exec i s = .next ((bankOwnIf b 0 (s.putIf c (BANKS.OWNER.PEER b) p)).answer agent .ok 0 0)) :
    Writes i s [(BANKS.OWNER.OWNER b, 0), (BANKS.OWNER.PEER b, 0)] (fun u => u.setBus ⟨agent, .ok, 0, 0⟩) := by
  rw [bankOwnIf_zero] at run
  refine writes_fields_of_answer run (((s.putIf c _ p).releaseBank_sets b).of_putIf (by simp)) ?_
  cases c <;> rfl

end Effects

/-- Settles O26: the write is `bankOwnerWrite`, whose outcome is that of a free bank, of one that another agent owns, or of the
agent's own, there a handover, a release or a reserved ID. -/
theorem bankOwners : Obligations.BankOwners := by
  intro s a b v hs hw old new peer ok
  have run := exec_bankOwnerWrite_of_white hs hw v
  have new_lt : new < 2 ^ 8 := Nat.mod_lt _ (by decide)
  have peer_lt : peer < 2 ^ 8 := Nat.mod_lt _ (by decide)
  refine ⟨fun free ho hv => ?claim, fun free hv => ?claimReserved, fun held other => ?barred, fun held mine =>
    ⟨fun ho hv bank => ?handover, fun ho hv hp mailbox => ?handoverMailbox, fun release => ?release, fun hv bank => ?reserved⟩⟩
  case claim => exact writes_owner_of_bankOwnIf hv ho new_lt (run.trans (by rw [bankOwnerWrite_of_free free]))
  case claimReserved => exact writes_nothing_of_bankOwnIf hv (run.trans (by rw [bankOwnerWrite_of_free free]))
  case barred => exact writes_nothing_of_answer (run.trans (by rw [bankOwnerWrite_of_other held other]))
  case handover =>
    exact writes_owner_of_bankOwnIf hv ho new_lt (run.trans (by rw [bankOwnerWrite_of_owner_of_bank held mine bank]))
  case handoverMailbox =>
    exact writes_owner_peer_of_bankOwnIf hv ho new_lt peer_lt
      (run.trans (by rw [bankOwnerWrite_of_owner_of_mailbox held mine mailbox hp]))
  case release =>
    rw [bankOwnerWrite_of_owner held mine, show v.toNat % 2 ^ 8 = 0 from release] at run
    exact writes_release_of_bankOwnIf run
  case reserved =>
    exact writes_nothing_of_bankOwnIf hv (run.trans (by rw [bankOwnerWrite_of_owner_of_bank held mine bank]))

end Sys2Proof.Machine
